-- ==== Sys2Proof/Word.lean ====
section
/-!
DEFINITION. The words of the PSC-9600: registers are 32 bits wide (R9), memory is bytes.
-/
namespace Sys2Proof

/-- One byte of memory, of an image or of a frame. -/
abbrev Byte := BitVec 8

/-- One register (R9). -/
abbrev Word := BitVec 32

end Sys2Proof
end

