-- ==== Sys2Proof/Syntax.lean ====
section
/-!
DEFINITION. The commands of the PSC-9600: one constructor of `Instr` per row of spec/opcode_table.json, with the
operands the row has. What the controller does not hold itself (a field terminal, a frame on a network, what native
task code writes, an analogue value) is an operand.
-/
namespace Sys2Proof

/-- The master identities of R34; no other identity is ever issued. -/
inductive Master where
  | apc (n : Fin 4) | scnDma | loopEngine | solver | axisUnit | spa | spb | annex
  | com (n : Fin 2) | noticeboard | banister | debug
  deriving DecidableEq, Repr

/-- The width of an access in bits (R9). -/
inductive Width where
  | w8 | w16 | w32 | w64
  deriving DecidableEq, Repr

/-- The units that R24 gives an idle state. -/
inductive GUnit where
  | core (n : Fin 4) | scan | loops | solver | axes | can (c : Fin 8) | serial (p : Fin 8)
  | guestbook | rounds | noticeboard
  deriving DecidableEq, Repr

/-- The image slots of the managed flash (R61). -/
inductive Slot where
  | a | b
  deriving DecidableEq, Repr

/-! ### Time -/

/-- What an Announce message says of a grandmaster (R367): the port it came in on and the data set that the best
master clock algorithm compares. -/
structure PtpMaster where
  port     : Nat
  identity : Nat
  prio1    : Nat
  cls      : Nat
  accuracy : Nat
  variance : Nat
  prio2    : Nat
  steps    : Nat
  deriving DecidableEq, Repr

/-- An Announce message (R367). -/
structure Announce where
  version     : Nat
  minor       : Nat
  domain      : Nat
  ptpScale    : Bool
  logInterval : Int
  master      : PtpMaster
  deriving DecidableEq, Repr

/-- A Sync with its origin time, corrected, in ns since the PTP epoch; two-step masters give it in the follow-up
(R367). -/
structure Sync where
  version  : Nat
  minor    : Nat
  port     : Nat
  domain   : Nat
  identity : Nat
  logSync  : Int
  origin   : Int
  deriving DecidableEq, Repr

/-- Path-delay measurement (R367): an exchange of the domain's own, with its four stamps in ns, or a Pdelay_Req of a
neighbour that it answers. -/
inductive DelayStep where
  | measured (t1 t2 t3 t4 : Int)
  | answered
  deriving DecidableEq, Repr

/-! ### CAN FD -/

/-- A frame received on a CAN bus (R343): `len` is the data length, for a remote frame the DLC. -/
structure CanFrame where
  ide  : Bool
  fdf  : Bool
  brs  : Bool
  rtr  : Bool
  esi  : Bool
  id   : BitVec 29
  len  : Nat
  data : List Byte
  deriving DecidableEq, Repr

/-- How a transmission ended on the bus (R346). -/
inductive CanEnd where
  | acked | lostArb | error
  deriving DecidableEq, Repr

/-- A bus error as the error confinement of ISO 11898-1 counts it: as transmitter (TEC + 8), as receiver (REC + 1),
or as the receiver that saw it first (REC + 8). -/
inductive CanErr where
  | transmit | receive | receiveFirst
  deriving DecidableEq, Repr

/-- A filter register (R341). -/
inductive CanFlt where
  | id | mask
  deriving DecidableEq, Repr

/-- The transmit queues of a channel: the event queue, or one of the time-triggered queues. -/
inductive CanQueue where
  | event | tt (n : Fin 4)
  deriving DecidableEq, Repr

/-! ### Serial ports and Stairway links -/

/-- A message as a serial receiver took it from the line (R379): its bytes, characters with bad parity or framing,
whether it was cut at MAXLEN, ended by a new start character, or held an over-long gap, and bytes outside any
message since the last one. -/
structure SerMsg where
  bytes      : List Byte
  parity     : Nat
  framing    : Nat
  cut        : Bool
  incomplete : Bool
  gapErr     : Bool
  stray      : Nat
  deriving DecidableEq, Repr

/-! ### Field islands -/

/-- A terminal at a digital sample (R301, R308): above, below or between the thresholds. -/
inductive Level where
  | on | off | between
  deriving DecidableEq, Repr

/-- One digital sample of a channel (R301, R303): the terminal, for an SDI also path B, for a PULSE input the rising
edges whose high and low times were at least FILTER. -/
structure DigSample where
  level  : Level
  levelB : Level
  edges  : Nat
  deriving DecidableEq, Repr

/-- An analogue output as its converter measures it (R320): current in nA, terminal voltage in mV, whether the
regulator is at its minimum drop, and the stage temperature in 0.1 °C. -/
structure AoMeas where
  cur     : Nat
  vterm   : Nat
  minDrop : Bool
  temp    : Int
  deriving DecidableEq, Repr

/-- What an island measures in a slot (R294, R306): supply in mV, temperature in 0.1 °C, and its channels' AO
measurements. -/
structure IslField where
  supply : Nat
  temp   : Int
  ao     : List AoMeas
  deriving DecidableEq, Repr

/-! ### Loops -/

/-- What the active module sampled for one loop due at a tick (R126): measurement and whether it is good, setpoint of
a cascade, supply, acceleration, table index, and why the destination does not follow (cause and selector of code
0x0504; 0 where it follows). -/
structure LoopSmp where
  y     : Int
  good  : Bool
  r     : Int
  v     : Int
  a     : Int
  x     : Int
  cause : Nat
  sel   : Nat
  deriving DecidableEq, Repr

/-! ### Dispatch Solver -/

/-- The steps of a request that the deadline can keep from beginning (R144, R154). -/
inductive SlvStep where
  | late | take | load | factor | refactor | update | exchange
  deriving DecidableEq, Repr

/-- The permit stream of the active module's Solver (R157): a request of a solver queue, by its index in the queue; an
iteration of it, by its number; each with the stop note of the step within it that was not begun. Then the stop note of
an iteration not begun, a completion with its DONE_FRC, and a slot clear (none: every slot). -/
inductive SlvPermit where
  | take (sq : Fin 4) (entry : BitVec 32) (stop : Option SlvStep)
  | iterate (sq : Fin 4) (entry : BitVec 32) (n : BitVec 16) (stop : Option SlvStep)
  | stop (sq : Fin 4) (entry : BitVec 32)
  | complete (sq : Fin 4) (entry : BitVec 32) (frc : BitVec 64)
  | clear (slot : Option (Fin 16)) (by_ : BitVec 6)
  deriving DecidableEq, Repr

/-! ### Safety domain -/

/-- What the safety application and the tests of one safety cycle give (R246): each processor's ITT0 to 47, its
demands for the channels of islands 0 and 1, the sinks it asks to reset, whether its self-test passes; whether each
matrix plane passes its vectors; the functions that differing demands affect; a discrepancy (first channel, second
channel, ms) that the application finds; and the payloads of SPA and SPB for each transmit connection. -/
structure SafCycle where
  ittA     : BitVec 48
  ittB     : BitVec 48
  demA     : BitVec 16
  demB     : BitVec 16
  resetA   : BitVec 16
  resetB   : BitVec 16
  selfA    : Bool
  selfB    : Bool
  planeA   : Bool
  planeB   : Bool
  affected : BitVec 64
  discrep  : Option (Nat × Nat × Nat)
  payloads : List (Nat × List Byte × List Byte)
  deriving DecidableEq, Repr

/-- What makes the safety supervisor force a trip on its own (R249). -/
inductive SafForce where
  | rail | clock
  deriving DecidableEq, Repr

/-- What an Excursion timer belongs to (R259, R263). -/
inductive ExcOwner where
  | function (f : Fin 64) | matrix
  deriving DecidableEq, Repr

/-! ### Banister -/

/-- A command that the input agreement carries (R84, R196): KIND, CMD value, TGT, TYPE and VAL. -/
structure AgrCmd where
  kind : Nat
  cmd  : Nat
  tgt  : Nat := 0
  type : Nat := 0
  val  : Nat := 0
  deriving DecidableEq, Repr

/-- An input agreement (R196): TICK, class-1 time and its domain, commands, releases (KIND, INDEX, POSITION), and the
input images of the latching tasks in ascending order. -/
structure Agreement where
  tick   : Nat
  sec    : Nat
  ns     : Nat
  dom    : Nat
  cmds   : List AgrCmd
  rels   : List (Nat × Nat × Nat)
  images : List (Nat × List Byte)
  deriving DecidableEq, Repr

/-- A copy of a message as it arrives on a lane (R188, R189): the SEQ of its frame, or of the last of the `more` + 1
frames that a long message takes, SENT_FRC, and whether the CRC is good. -/
structure Arrival where
  lane : Fin 2
  seq  : BitVec 32
  more : Nat
  sent : BitVec 64
  good : Bool
  deriving DecidableEq, Repr

/-- A ROLE frame (R191): a role change, the settling of elections that cross (strap and serial, R491), a round-trip
measurement, or the answer to a handshake, which names its SEQ. -/
inductive RoleMsg where
  | change (role : Fin 8)
  | election (strap : Fin 4) (serial : BitVec 32)
  | measure
  | answer (seq : BitVec 32)
  deriving DecidableEq, Repr

/-- A HANDOVER notice (R212): trigger, last committed CYCLE of each task, SEQ of the last RX_MIRROR released. -/
structure Notice where
  trigger : Fin 16
  cycles  : List Nat
  rxSeq   : Nat
  deriving DecidableEq, Repr

/-- An entry of an RX_MIRROR frame (R198): KIND 0 queue, 1 Pigeonhole channel, 2 CAN high-priority buffer; the position
that releases it; its bytes. -/
structure Mirrored where
  kind  : Fin 3
  index : Fin 64
  pos   : BitVec 32
  bytes : List Byte
  deriving DecidableEq, Repr

/-- An entry of a REG_MIRROR frame (R199). -/
structure RegMirror where
  block  : Fin 24
  master : Fin 64
  offset : Fin 65536
  value  : BitVec 32
  deriving DecidableEq, Repr

/-- What a LOG_ENTRY frame carries (R232): a Solver completion (its queue, the entry's bytes 0xE0 to 0xFF, the result
buffer's address and bytes, and for a request that ran at J its slot), or a post made before its task's snapshot point
(to a queue or a Pigeonhole channel). -/
inductive LogEntry where
  | solver (q : Fin 64) (done : List Byte) (addr : Nat) (result slot : List Byte)
  | post (channel : Bool) (index : Fin 64) (pos : BitVec 32) (bytes : List Byte)
  deriving DecidableEq, Repr

/-- What a Banister message says (R191, R225). -/
inductive BanMsg where
  | heartbeat (role : Fin 8) (lanes : Fin 4) (phase : Fin 250000)
  | beacon (serial caps : BitVec 32) (strap : Fin 4) (role : Fin 8)
  | role (x : RoleMsg)
  | nak (seqs : List (BitVec 32))
  | agreement (g : Agreement)
  | agreeAck (tick : Nat) (crc : BitVec 32)
  | rxMirror (entries : List Mirrored)
  | mirrorAck (upTo : BitVec 32)
  | regMirror (entries : List RegMirror)
  | digest (t : Fin 16) (missed noImage : Bool) (cycle : Nat) (value : BitVec 64)
  | samples (samples : List LoopSmp) (ecc : List (Fin 512)) (slots : Fin 513)
  | counts (counts : List (Option (BitVec 48))) (loss bad : BitVec 8)
  | permit (p : SlvPermit)
  | inquiry (failed : BitVec 5)
  | handover (x : Notice)
  | driving (offset : Nat)
  | released
  | joinRequest (caps station serial : BitVec 32) (sdig pdig : List Byte)
  | joinAnswer (reason : Byte) (upgrade : Bool) (caps : BitVec 32) (l : Option Nat)
  | hamper (kind : Byte) (index : BitVec 16) (offset total : Nat) (last : Bool) (data : List Byte)
  | hamperAck (kind : Byte) (index : BitVec 16) (good : Bool)
  | logEntry (x : LogEntry)
  | caughtUp (pos : Nat)
  | topup (payload : List Byte)
  | joined (gbSeq : BitVec 32)
  | swap (landing : Nat)
  | ready (resets discarded : BitVec 32)
  | shutdown (serial : BitVec 32)
  deriving DecidableEq, Repr

/-- A heartbeat on a plant port (R219). -/
structure PlantBeat where
  station : BitVec 32
  serial  : BitVec 32
  role    : Fin 8
  lanes   : Fin 4
  seq     : BitVec 32
  crcGood : Bool
  deriving DecidableEq, Repr

/-! ### Task code -/

/-- An invocation of a timer or an edge detector by a task's program: ID, input, and PT in ns (unused for an edge
detector). -/
structure Invoke where
  id    : BitVec 32
  input : Bool
  pt    : BitVec 64
  deriving DecidableEq, Repr

/-! ### Rounds -/

/-- A fault that a Rounds step finds (R432): an uncorrectable ECC error or a lockstep mismatch, which are triggers of
R207, or another. -/
inductive RndCause where
  | other | ecc | lockstep
  deriving DecidableEq, Repr

/-- What a Rounds step finds (R432): nothing, a fault that the repeat does not find again, a fault that it does (with
the detail of 0x1101), or a correctable error that the scrub corrects, with its address. -/
inductive RndFind where
  | pass | once | fault (cause : RndCause) (detail : BitVec 32) | corrected (addr : Nat)
  deriving DecidableEq, Repr

/-! ### Sealed Annex -/

/-- A pulse input over an interval (R441): edges counted, and whether their rate was above 20 kHz. -/
structure AnxPulse where
  pulses : Nat
  beyond : Bool
  deriving DecidableEq, Repr

/-- A current input through an interval (R441): nA. -/
structure AnxCurrent where
  nA    : Nat
  deriving DecidableEq, Repr

/-- A parameter of a WRITE_PARAM request (R443): its number, its 32-bit value, and 32 bytes for REPORT_KEY. -/
structure AnxChange where
  num   : Fin 0x42
  value : BitVec 32
  key   : List Byte
  deriving DecidableEq, Repr

/-! ### Power -/

/-- What the power unit measures: stored energy in 0.1 J and logic load in 0.1 W (R477). -/
structure PwrMeas where
  energy : BitVec 16
  load   : BitVec 16
  deriving DecidableEq, Repr

/-- An input is taken as present or absent (R476): which one, its mV, the lowest mV of the higher input during a dip
that this ends, and for a change that is P0: whether the safety rail had failed and comes up again, and how long main
power was off, in units of 1/32,768 s. -/
structure PowerInput where
  inB     : Bool
  present : Bool
  mV      : BitVec 16
  low     : BitVec 16
  meas    : PwrMeas
  rail    : Bool
  off     : Nat
  deriving DecidableEq, Repr

/-- Why the power-fail warning is given (R478, R480). -/
inductive PfCause where
  | dip | reserve | short
  deriving DecidableEq, Repr

/-- One command of the block: a row of spec/opcode_table.json (the row's mnemonic is in LAWS.json). -/
inductive Instr where
  /-- REGISTER_WRITE (R10): A write to a register that has no row of its own, decided by its access code (RO, RW, W1C, LK and so on). -/
  | registerWrite (m : Master) (w : Width) (addr : Nat) (value : Word)
  /-- BUSERR_VALID_CLEAR (R32): Writing 1 to SYS_BUSERR_STAT.VALID clears the capture and rearms it. -/
  | buserrValidClear (m : Master) (value : Word)
  /-- LO_READ_LATCH (R12): A read of a _LO register, or a 64-bit read of the pair, returns the low half and latches the high half for the reading master. -/
  | loReadLatch (m : Master) (w : Width) (addr : Nat)
  /-- LO_WRITE_STAGE (R14): A write to the _LO register of a writable pair is staged for the writing master and has no effect on its own. -/
  | loWriteStage (m : Master) (addr : Nat) (value : Word)
  /-- HI_WRITE_APPLY (R14): A write to the _HI register applies both halves at once, using that master's staged _LO. -/
  | hiWriteApply (m : Master) (addr : Nat) (value : Word)
  /-- RC_READ_CLEAR (R10): A read of an RC field by any master other than debug clears it. -/
  | rcReadClear (m : Master) (addr : Nat)
  /-- ACCESS_TIMEOUT (R27): A register access that no unit answers within 100 µs ends with TIMEOUT and records 0x0103. -/
  | accessTimeout (m : Master) (write : Bool) (addr : Nat)
  /-- UNIT_WAKE (R23): A bell or wake event wakes a gated unit, and a bell held during gating entry acts once entry completes. -/
  | unitWake (u : GUnit)
  /-- UNIT_GATE_ENTRY (R22): An idle unit with no unfinished request, bell or wake event enters its gated state. -/
  | unitGateEntry (u : GUnit) (complete : Bool)
  /-- ECC_CORRECTABLE (R494): A correctable ECC error on a read stalls the access, returns corrected data and rewrites the location. -/
  | eccCorrectable (addr : Nat) (syndrome : Byte)
  /-- UNCORRECTABLE_ECC (R207): An uncorrectable ECC error is a fault trigger that starts a handover, or makes the module FAILED. -/
  | uncorrectableEcc
  /-- LOCKSTEP_MISMATCH (R207): A lockstep mismatch in a logical application core is a fault trigger. -/
  | lockstepMismatch
  /-- WATCHDOG_EXPIRY (R207): No base tick processed, or a logical core not answering, for 1 ms is a fault trigger. -/
  | watchdogExpiry
  /-- FPL_VERIFY (R515): The VERIFY command fully verifies a staged image in the order of R54 without applying it. -/
  | fplVerify (m : Master)
  /-- FPL_STORE (R65): The STORE command verifies a full image, writes it to the named slot, reads it back and writes the VALID marker last. -/
  | fplStore (m : Master) (slot : Slot)
  /-- FPL_SOFT_APPLY (R68): The SOFT_APPLY command verifies a soft image and makes it pending until the next landing. -/
  | fplSoftApply (m : Master)
  /-- FPL_OPERATION_COMPLETE (R54): A load or command finishes, BUSY clears, and the outcome and code 0x0301 or 0x0302 are recorded. -/
  | fplOperationComplete
  /-- BOOT_LOAD (R61): At reset release the loader loads the boot slot, or the fallback slot once if the boot slot fails. -/
  | bootLoad
  /-- SOFT_SECTION_LANDING (R68): At the landing, the W-class sections of a pending soft image replace those in force together. -/
  | softSectionLanding (peer : Bool)
  /-- BASE_TICK (R75): The 250 µs base tick starts every task cycle due at it. -/
  | baseTick
  /-- EXECUTE_RETURN (R94): A task's execute returns, and the return resets its consecutive-miss count. -/
  | executeReturn (t : Fin 16) (ns : Nat) (image : Option (List Byte)) (invokes : List Invoke) (writes : List (BitVec 32 × List Byte))
  /-- TASK_TRAP (R95): A trap in task code ends the execute and puts the task in FAULT_STOP with ABANDONED set. -/
  | taskTrap (t : Fin 16) (cause : BitVec 32) (pc : BitVec 64)
  /-- COMMIT (R80): At the commit point, the output image with forces applied becomes the committed image in one atomic exchange. -/
  | commit (t : Fin 16)
  /-- SCN_RUN (R82): The RUN command is accepted only while an image is locked. -/
  | scnRun (m : Master)
  /-- SCN_HOLD (R86): The HOLD command stops execute while latch and commit of the held image continue. -/
  | scnHold (m : Master)
  /-- SCN_STOP (R86): The STOP command commits the safe image at each task's first cycle start in STOP. -/
  | scnStop (m : Master)
  /-- SCN_RESTART (R87): The RESTART command takes a FAULT_STOP task to STARTING while the module is in RUN. -/
  | scnRestart (m : Master) (t : Fin 16)
  /-- OLC_VERIFY (R98): The exchange VERIFY command copies a program package to the shadow area and starts its verification. -/
  | olcVerify (m : Master)
  /-- OLC_VERIFY_DONE (R98): Verification of the package completes as VERIFIED or FAILED. -/
  | olcVerifyDone
  /-- OLC_ARM (R98): The ARM command fixes the landing of the exchange, or is refused. -/
  | olcArm (m : Master) (same : Bool)
  /-- OLC_CANCEL (R98): The CANCEL command returns an armed exchange to VERIFIED. -/
  | olcCancel (m : Master)
  /-- OLC_SWAP (R99): At the landing, instances are matched by ID and carried across, and the new code runs. -/
  | olcSwap
  /-- FORCE_SET (R104): The SET command places a variable force or a physical force in the force table. -/
  | forceSet (m : Master)
  /-- FORCE_RELEASE (R104): The RELEASE command removes the force that matches the target and type. -/
  | forceRelease (m : Master)
  /-- FORCE_RELEASE_ALL (R104): The RELEASE ALL command empties the force table. -/
  | forceReleaseAll (m : Master)
  /-- LOOP_TICK (R112): At each 50 µs loop tick, due loops apply their pending outputs and then sample their sources. -/
  | loopTick (ecc : List (Fin 512)) (slots : Fin 513)
  /-- LOOP_COMMIT (R123): The COMMIT command schedules the shadow set to become active, or is refused with LIMITS. -/
  | loopCommit (m : Master) (n : Fin 512)
  /-- LOOP_DISCARD (R123): The DISCARD command copies the active set to the shadow set at once. -/
  | loopDiscard (m : Master) (n : Fin 512)
  /-- LOOP_INIT (R124): The INIT command loads the defaults in force into the shadow set and commits them. -/
  | loopInit (m : Master) (n : Fin 512)
  /-- SOLVER_TAKE (R137): The Solver takes the oldest request of the highest-priority solver queue, checks it and loads it. -/
  | solverTake (ecc : Bool)
  /-- SOLVER_ITERATION (R138): One active-set iteration adds or drops a working member after a deadline check. -/
  | solverIteration (ecc : Bool)
  /-- SOLVER_COMPLETE (R133): The Solver writes the result buffer and the completion area, updates the slot and returns the entry. -/
  | solverComplete
  /-- SLOT_CLEAR (R150): SLV_CMD with ALL = 0 empties one warm-start slot between requests. -/
  | slotClear (m : Master) (slot : Fin 16)
  /-- SLOT_CLEAR_ALL (R150): SLV_CMD with ALL = 1 empties every warm-start slot between requests. -/
  | slotClearAll (m : Master)
  /-- SOLVER_POWER_GATE (R156): The Solver power-gates once IDLE_HOLD has passed with all solver queues empty. -/
  | solverPowerGate
  /-- STEP_BOUNDARY (R169): Every 10 µs, the axis profile advances and step edges are placed. -/
  | stepBoundary (deltas : List Int)
  /-- VLIM_STAGE (R174): A write to a virtual-limit _HI register stages that limit and sets PENDING. -/
  | vlimStage (m : Master) (a : Fin 8) (upper : Bool) (value : Word)
  /-- ENC_LOSS (R181): An encoder line fault stops the axis at DMAX and enters FAULT. -/
  | encLoss (a : Fin 8)
  /-- ENC_ERR (R178): An illegal quadrature transition sets ENC_ERR and marks encoder quality bad for 1 ms. -/
  | encErr (a : Fin 8)
  /-- EN_SETTLE_ELAPSED (R177): EN_SETTLE has elapsed, and the axis moves from SETTLING to MOVING. -/
  | enSettleElapsed (a : Fin 8)
  /-- STILL_DELAY_ELAPSED (R177): STILL_DELAY has elapsed in AT_REST, and the axis enters PARKED. -/
  | stillDelayElapsed (a : Fin 8)
  /-- AXIS_RESUME (R185): After a handover, each axis resumes at the first step boundary from the state it last received. -/
  | axisResume (a : Fin 8)
  /-- HEARTBEAT_SEND (R191): A module that has sent no other frame for 10 µs sends a Banister HEARTBEAT. -/
  | heartbeatSend
  /-- HEARTBEAT (R194): A received HEARTBEAT updates the peer role and the standby's tick placement. -/
  | heartbeat (a : Arrival) (role : Fin 8) (lanes : Fin 4) (phase : Fin 250000)
  /-- BANISTER_FRAME_DISCARD (R190): A frame with LEN above 2,048, an unknown TYPE or bad framing is discarded and counted. -/
  | banisterFrameDiscard (type : Byte) (len : Nat) (lane : Fin 2)
  /-- ROLE (R191): A ROLE frame carries a role change, the election handshake or a round-trip measurement. -/
  | role (a : Arrival) (x : RoleMsg)
  /-- NAK (R193): A NAK makes the sender resend the missing frames with RESENT set. -/
  | nak (a : Arrival) (seqs : List (BitVec 32))
  /-- HANDSHAKE_TIMEOUT (R192): No answer arrives within 8 µs, BAN_HS_FAIL is incremented and 0x0803 is recorded. -/
  | handshakeTimeout
  /-- AGREEMENT (R196): The standby receives the input agreement fragments for a tick and answers with AGREE_ACK. -/
  | agreement (a : Arrival) (g : Agreement)
  /-- AGREE_ACK (R196): The active module receives the standby's acknowledgement of the agreement. -/
  | agreeAck (a : Arrival) (tick : Nat) (crc : BitVec 32)
  /-- RX_MIRROR (R198): Reception and completion entries are copied to the standby. -/
  | rxMirror (a : Arrival) (entries : List Mirrored)
  /-- MIRROR_ACK (R198): The standby's MIRROR_ACK allows the active module to release the covered entries. -/
  | mirrorAck (a : Arrival) (upTo : BitVec 32)
  /-- REG_MIRROR (R199): Mirrored register writes are applied on the standby by the Banister agent. -/
  | regMirror (a : Arrival) (entries : List RegMirror)
  /-- DIGEST (R202): The peer's output digest is received and compared with the module's own. -/
  | digest (a : Arrival) (t : Fin 16) (missed noImage : Bool) (cycle : Nat) (value : BitVec 64)
  /-- DIGEST_MISSING (R205): A peer digest not received by the task's next cycle start counts as a MISSING mismatch. -/
  | digestMissing (t : Fin 16)
  /-- STRICT_DIGEST_TIMEOUT (R203): No peer digest arrives within 20 µs in strict mode, so both modules commit and 0x080D is recorded. -/
  | strictDigestTimeout (t : Fin 16)
  /-- LOOP_SAMPLES (R126): The standby receives the samples of the loops due at a tick. -/
  | loopSamples (a : Arrival) (samples : List LoopSmp) (ecc : List (Fin 512)) (slots : Fin 513)
  /-- AXIS_COUNTS (R184): The standby receives the encoder counts for a step boundary and advances its axes. -/
  | axisCounts (a : Arrival) (counts : List (Option (BitVec 48))) (loss bad : BitVec 8)
  /-- SOLVER_PERMIT (R157): The standby's Solver begins a request or an iteration, or stops, on the active module's permit. -/
  | solverPermit (a : Arrival) (p : SlvPermit)
  /-- MISSING_FRAME_DEMOTE (R193): A standby that lacks a needed frame at the point where it needs it becomes COLD. -/
  | missingFrameDemote (type : Byte)
  /-- INQUIRY_RESULT (R209): The inquiry results of both modules decide the outcome. -/
  | inquiryResult (peer : Option Arrival) (failed : BitVec 5)
  /-- INQUIRY_TIMEOUT (R208): A peer result not received 3.05 ms after the start counts as failed. -/
  | inquiryTimeout
  /-- BAN_HANDOVER (R207): The HANDOVER command starts an operator handover, or is refused with a REASON. -/
  | banHandover (m : Master)
  /-- REARM_READBACK (R211): The REARM_READBACK command clears one channel's readback block bit. -/
  | rearmReadback (m : Master) (k c : Fin 8)
  /-- REARM_ALL (R211): The REARM_ALL command clears every readback block bit. -/
  | rearmAll (m : Master)
  /-- FORCE_TAKEOVER (R221): The FORCE_TAKEOVER command makes an isolated standby take over. -/
  | forceTakeover (m : Master)
  /-- HANDOVER (R213): The new active module receives the notice, answers with ROLE and sends DRIVING. -/
  | handover (a : Arrival) (x : Notice)
  /-- DRIVING (R214): The old active module learns the ramp start instant S. -/
  | driving (a : Arrival) (offset : Nat)
  /-- RAMP_START (R214): At S, the new module's outputs switch on and ramp up while the old module's outputs ramp down. -/
  | rampStart
  /-- RAMP_END (R214): At S + 60 µs, the old module's DOs switch off and it sends RELEASED. -/
  | rampEnd
  /-- RELEASED (R214): The new active module learns that the old module's outputs are released. -/
  | released (a : Arrival)
  /-- BARRIER_BACKSTOP (R214): The old active module stops its barrier frames 110 µs after sending HANDOVER. -/
  | barrierBackstop
  /-- TAKEOVER_INSTANT (R215): At K, the new active module commits every task, starts its transmitters and completes work in flight. -/
  | takeoverInstant (unknown : List (Fin 64))
  /-- LANE_LOST (R218): No valid frame has arrived on a lane for 50 µs, so the lane is lost. -/
  | laneLost (l : Fin 2)
  /-- LANE_RESTORED (R218): A lane is restored after 1 ms of valid frames. -/
  | laneRestored (l : Fin 2)
  /-- PLANT_HEARTBEAT_SEND (R219): Each module sends a heartbeat every 1 ms on its enabled plant ports. -/
  | plantHeartbeatSend
  /-- PLANT_HEARTBEAT (R219): A heartbeat from the peer is received on a plant port and checked for validity. -/
  | plantHeartbeat (p : Fin 4) (x : PlantBeat)
  /-- LANE_LOSS_TAKEOVER (R220): All three takeover conditions hold, and the standby takes over as ALONE. -/
  | laneLossTakeover
  /-- JOIN_START (R226): A cold module starts a join and checks SYS_CAPS, station, digests and the peer's state. -/
  | joinStart
  /-- JOIN_RETRY (R226): A join that is waiting or has failed is checked or started again after 1 s. -/
  | joinRetry
  /-- JOIN_REQUEST (R225): The active module receives a JOIN_REQUEST and answers with its checks. -/
  | joinRequest (a : Arrival) (caps station serial : BitVec 32) (sdig pdig : List Byte)
  /-- JOIN_REQUEST_RESEND (R225): A failed JOIN_REQUEST handshake is resent every 1 ms and ends the join after 100 failures. -/
  | joinRequestResend
  /-- JOIN_ANSWER (R225): The cold module receives the result of the join checks and L. -/
  | joinAnswer (a : Arrival) (reason : Byte) (upgrade : Bool) (caps : BitVec 32) (l : Option Nat)
  /-- HAMPER_SEND (R229): From L, the active module sends the Hamper sections from live memory. -/
  | hamperSend
  /-- HAMPER (R228): The cold module receives a Hamper fragment and checks the section CRC. -/
  | hamper (a : Arrival) (kind : Byte) (index : BitVec 16) (offset total : Nat) (last : Bool) (data : List Byte)
  /-- HAMPER_ACK (R228): The active module receives a Hamper acknowledgement, and a bad CRC ends the join. -/
  | hamperAck (a : Arrival) (kind : Byte) (index : BitVec 16) (good : Bool)
  /-- LOG_ENTRY (R232): The cold module logs solver completion bytes and early task posts for replay. -/
  | logEntry (a : Arrival) (x : LogEntry)
  /-- REPLAY_CYCLE (R233): The cold module replays one task cycle from the log and compares its digest. -/
  | replayCycle (t : Fin 16) (image : Option (List Byte)) (invokes : List Invoke) (writes : List (BitVec 32 × List Byte)) (trap : Option (BitVec 32 × BitVec 64)) (loopCrc solverCrc : BitVec 64)
  /-- CAUGHT_UP (R234): The active module receives CAUGHT_UP, fixes J and sends TOPUP. -/
  | caughtUp (a : Arrival) (pos : Nat)
  /-- TOPUP (R234): The cold module receives the loop, axis and Solver state at J. -/
  | topup (a : Arrival) (payload : List Byte)
  /-- JOIN_TICK (R234): At J, the cold module executes live, sends JOINED and becomes STANDBY. -/
  | joinTick
  /-- JOINED (R234): The active module receives JOINED and becomes ACTIVE. -/
  | joined (a : Arrival) (gbSeq : BitVec 32)
  /-- BAN_JOIN (R226): The JOIN command starts a join. -/
  | banJoin (m : Master)
  /-- UPGRADE_ADMIT (R237): The UPGRADE_ADMIT command admits the next join that fails only the digest checks. -/
  | upgradeAdmit (m : Master)
  /-- UPGRADE_ADMIT_LAPSE (R237): An upgrade admission lapses after 1 h. -/
  | upgradeAdmitLapse
  /-- ABANDON_UPGRADE (R237): The ABANDON_UPGRADE command ends the upgrade admission. -/
  | abandonUpgrade (m : Master)
  /-- BAN_SWAP (R238): The SWAP command fixes the swap landing, or is refused with a REASON. -/
  | banSwap (m : Master) (differ : BitVec 8)
  /-- SWAP (R239): The candidate receives the swap landing S. -/
  | swap (a : Arrival) (landing : Nat)
  /-- SWAP_LANDING (R239): At S, the active module stops executing and sends its final pages and Hamper kinds. -/
  | swapLanding
  /-- READY (R239): The active module receives READY and transfers the terminals to the candidate. -/
  | ready (a : Arrival) (resets discarded : BitVec 32)
  /-- LATENT_LIMIT_REACHED (R242): BAN_LATENT.HOURS reaches LIMIT, and 0x0816 is recorded once. -/
  | latentLimitReached
  /-- SAFETY_CYCLE (R246): In each 10 ms safety cycle, both processors read, execute, are compared and write outputs. -/
  | safetyCycle (x : SafCycle)
  /-- SAFETY_WATCHDOG_EXPIRY (R248): A processor that misses its watchdog window is declared failed. -/
  | safetyWatchdogExpiry (spb early : Bool)
  /-- SUPERVISOR_FORCE (R249): A rail fault, a clock fault or both processors failed forces every sink to trip. -/
  | supervisorForce (why : SafForce)
  /-- SAFETY_BOOT_COMPLETE (R250): The safety domain's self-tests complete, and it enters SAFE. -/
  | safetyBootComplete (okA okB planeA planeB : Bool)
  /-- SAFETY_ADOPT_COMPLETE (R252): The new safety section is running, and the domain leaves ADOPTING. -/
  | safetyAdoptComplete
  /-- FTI_CHANGE (R254): A fast-trip input crosses its threshold, and the matrix re-evaluates its sinks. -/
  | ftiChange (n : Fin 8) (demand : Bool)
  /-- TRP_REQ_WRITE (R255): A write of TRP_REQ drives ITT56 to ITT63 and records 0x0A03. -/
  | trpReqWrite (m : Master) (value : Word)
  /-- FIRST_OUT_REARM (R254): Writing 1 to TRP_FIRST.VALID rearms the first-out capture. -/
  | firstOutRearm (m : Master) (value : Word)
  /-- CTRL_HB_LOST (R255): No heartbeat has come from the control domain for 5 ms, so ITT54 is asserted. -/
  | ctrlHbLost
  /-- DARK_TEST (R258): Every 60 s, an FTO with DARK_TEST is switched off for 200 µs and read back. -/
  | darkTest (n : Fin 8) (failed : Bool) (volts10 : Nat)
  /-- KILL_LINE_CHANGE (R258): An island's kill line is asserted or released, and the channels in its kill mask de-energise or return. -/
  | killLineChange (k : Fin 8)
  /-- TEST_PULSE_OFF (R261): An enabled test line is switched off for 400 µs at its phase. -/
  | testPulseOff (l : Fin 8)
  /-- TEST_PULSE_SAMPLE (R262): 300 µs after the off edge, the channels of the line are sampled for cross-shorts and line faults. -/
  | testPulseSample (l : Fin 8) (on : BitVec 16) (volts10 : Nat) (users : List (BitVec 64))
  /-- EXCURSION_EXPIRE (R263): An Excursion timer reaches 0, and the function, or the matrix, trips. -/
  | excursionExpire (who : ExcOwner)
  /-- EXCURSION_STORE (R266): Each function's remaining Excursion time is written to the safety store every minute. -/
  | excursionStore
  /-- SAF_RETURN (R264): The RETURN command starts a 60 s return check on a function. -/
  | safReturn (m : Master) (f : Fin 64)
  /-- SAF_RESET (R263): The RESET command returns a TRIPPED function to NORMAL where every channel passes. -/
  | safReset (m : Master) (f : Fin 64)
  /-- RETURN_MATRIX (R259): The RETURN_MATRIX command starts a 60 s return check of the disconnected plane. -/
  | returnMatrix (m : Master)
  /-- RETURN_CHECK_END (R264): At the end of a function's return check, it returns to NORMAL or stays in EXCURSION. -/
  | returnCheckEnd (f : Fin 64) (proc : Bool)
  /-- MATRIX_CHECK_END (R259): At the end of the matrix return check, the plane is reconnected or stays disconnected. -/
  | matrixCheckEnd
  /-- SAFETY_FIELD_STALE (R265): A safety field without a good check for 1 ms is stale, and the functions that use it trip. -/
  | safetyFieldStale (k : Fin 8) (inbound spa spb : Bool) (users : BitVec 64)
  /-- TG_COPY_RECEIVE (R279): A Twin-Gallery copy arrives and is checked, matched and accepted or discarded. -/
  | tgCopyReceive (port : Fin 4) (f : List Byte)
  /-- SKEW_WINDOW_EXPIRE (R281): The window closes without the second copy, and the connection goes SINGLE or drops the copy. -/
  | skewWindowExpire (c : Fin 64)
  /-- HELD_COPY_EXPIRE (R282): In SINGLE, a held copy from the excused network is discarded after SKEW. -/
  | heldCopyExpire (c : Fin 64)
  /-- TG_TIMEOUT (R283): A connection that has accepted no telegram for TIMEOUT becomes FAILED. -/
  | tgTimeout (c : Fin 64)
  /-- CONN_RESTART (R284): A FAILED connection returns to STARTING after 1 s. -/
  | connRestart (c : Fin 64)
  /-- CONN_REPORT (R286): A connection report is posted every second and on each change of state. -/
  | connReport (which : Option (Fin 64))
  /-- BARRIER_FRAME_SEND (R292): In every 10 µs slot, the master sends a frame with output words and one parameter. -/
  | barrierFrameSend (k : Fin 8)
  /-- BARRIER_SLOT (R295): At each inbound slot, the master takes a good frame or counts a bad slot. -/
  | barrierSlot (k : Fin 8) (good : Bool) (skip : Fin 256) (field : IslField)
  /-- ISLAND_FRAME_RECEIVE (R296): The island side takes a good outbound frame, follows its outputs and applies parameters. -/
  | islandFrameReceive (k : Fin 8)
  /-- ISLAND_WATCHDOG (R296): 40 µs without a good frame puts the island into its fail state. -/
  | islandWatchdog (k : Fin 8)
  /-- INPUT_SAMPLE (R301): The island samples each digital input every 10 µs and filters its state. -/
  | inputSample (k : Fin 8) (smp : List DigSample)
  /-- WIRE_BREAK (R302): A DI_WB current below the threshold for 10 ms is a wire break. -/
  | wireBreak (k c : Fin 8) (uA : Nat)
  /-- WIRE_BREAK_END (R302): A current of at least 0.40 mA for 10 ms ends the wire break. -/
  | wireBreakEnd (k c : Fin 8)
  /-- DO_OVERLOAD (R304): A DO in current limit for 5 ms opens its switch and sets OVERLOAD. -/
  | doOverload (k c : Fin 8) (mA : Nat)
  /-- DO_RETRY (R304): An overloaded DO that is commanded ON retries every 1 s. -/
  | doRetry (k c : Fin 8) (limits : Bool)
  /-- GROUP_OVERLOAD_STEP (R304): An island total above 2.0 A opens the highest-numbered DO that is on, repeating every 1 ms. -/
  | groupOverloadStep (k : Fin 8) (total : Nat)
  /-- SAG_OFF (R306): The supply stays below 15.0 V for 1 ms, so every DO opens and SAG_OFF latches. -/
  | sagOff (k : Fin 8) (supply : Nat)
  /-- RESTORE_READY (R306): The supply stays above 19.2 V for 100 ms, so RESTORE_READY is set and auto-restore may follow. -/
  | restoreReady (k : Fin 8) (supply : Nat)
  /-- ISLAND_LOGIC_RESET (R306): A supply below 11.0 V resets the island logic, and its frames stop. -/
  | islandLogicReset (k : Fin 8)
  /-- ISL_RESTORE (R307): The RESTORE command releases SAG_OFF, or is refused with a REASON. -/
  | islRestore (m : Master) (k : Fin 8)
  /-- ISL_CLEAR_COUNTS (R312): The CLEAR_COUNTS command clears the island channel counters. -/
  | islClearCounts (m : Master) (k : Fin 8)
  /-- RESTORE_CHANNEL_ON (R307): After a release, one DO per 1 ms switches on in ascending channel order. -/
  | restoreChannelOn (k : Fin 8)
  /-- DO_READBACK_MISMATCH (R308): A DO terminal differs from its effective state for 2 ms, which is a readback trigger. -/
  | doReadbackMismatch (k c : Fin 8)
  /-- AI_SAMPLE (R318): Each AI converter value is trimmed, filtered and classified into a band. -/
  | aiSample (k c : Fin 8) (raw : Nat)
  /-- TX_OVERLOAD (R317): A transmitter supply in current limit for 10 ms sets TX_OVERLOAD. -/
  | txOverload (k c : Fin 8) (mA : Nat)
  /-- BUCK_UPDATE (R320): Every 1 ms, or on a change of target, the active AO buck setting is formed. -/
  | buckUpdate (k c : Fin 8)
  /-- THERMAL_TRIP (R321): An output stage above 135 °C turns hi-Z and sets THERMAL. -/
  | thermalTrip (k c : Fin 8) (temp : Int)
  /-- THERMAL_RESUME (R321): Once a second, a cooled stage resumes its target and clears THERMAL. -/
  | thermalResume (k c : Fin 8) (temp : Int)
  /-- COMPLIANCE_SET (R323): A current deficit with AT_LIMIT for 50 ms sets COMPLIANCE. -/
  | complianceSet (k c : Fin 8)
  /-- COMPLIANCE_CLEAR (R323): The current within 0.1 mA of target for 50 ms clears COMPLIANCE. -/
  | complianceClear (k c : Fin 8)
  /-- COMP_FAULT (R323): COMPLIANCE that lasts for CTIME sets COMP_FAULT and AO_FAULT. -/
  | compFault (k c : Fin 8)
  /-- AO_READBACK_MISMATCH (R326): An AO current differs from its target for 20 ms, which is a readback trigger. -/
  | aoReadbackMismatch (k c : Fin 8)
  /-- TRIM_WRITE (R331): A write of ISL_AN_TRIM stores a trim in MRAM, or is refused. -/
  | trimWrite (m : Master) (k c : Fin 8) (value : Word)
  /-- KEY_MENU (R332): The MENU key opens the selection of island, channel and trim for a key trim session. -/
  | keyMenu (k c : Fin 8) (span : Bool)
  /-- KEY_UP (R332): The UP key raises the trim by one unit, repeating while held. -/
  | keyUp
  /-- KEY_DOWN (R332): The DOWN key lowers the trim by one unit, repeating while held. -/
  | keyDown
  /-- KEY_ENTER (R332): The ENTER key stores the trim value. -/
  | keyEnter
  /-- KEY_ESC (R332): The ESC key restores the value held before the session. -/
  | keyEsc
  /-- KEY_SESSION_TIMEOUT (R332): 10 min without a key press restores the trim and ends the session. -/
  | keySessionTimeout
  /-- KEYSWITCH_CHANGE (R507): The keyswitch moves between RUN and MAINT, which changes FORCE_PERMIT, KEY_MAINT and the USB session. -/
  | keyswitchChange (control safety : Bool)
  /-- USB_SESSION_OPEN (R504): The USB-C port opens a maintenance session while the keyswitch shows MAINT. -/
  | usbSessionOpen
  /-- CAN_FRAME_RECEIVE (R340): A received CAN frame is filtered into the high-priority buffer, into RXQ, or discarded. -/
  | canFrameReceive (c : Fin 8) (x : CanFrame)
  /-- CAN_HP_ACK (R342): A write of CAN_HP_ACK releases the oldest high-priority entry. -/
  | canHpAck (m : Master) (c : Fin 8) (value : Word)
  /-- CAN_TX_START (R346): The head entry of a transmit queue is checked and started on the bus, or refused. -/
  | canTxStart (c : Fin 8) (which : CanQueue)
  /-- CAN_TX_COMPLETE (R346): A transmission ends acknowledged, lost or in error, and the completion is written. -/
  | canTxComplete (c : Fin 8) (how : CanEnd)
  /-- BUS_OFF (R348): The channel goes bus-off, and the entry in flight completes with BUS_ERROR. -/
  | busOff (c : Fin 8)
  /-- CAN_RECOVERED (R348): Bus-off recovery completes, and sending resumes. -/
  | canRecovered (c : Fin 8)
  /-- CAN_BUS_ON (R348): The BUS_ON command starts bus-off recovery. -/
  | canBusOn (m : Master) (c : Fin 8)
  /-- CAN_CLEAR_COUNTS (R354): The CLEAR_COUNTS command clears the channel counters. -/
  | canClearCounts (m : Master) (c : Fin 8)
  /-- CAN_ERROR_FRAME (R335): A bus error updates the error counters and may change the error state. -/
  | canErrorFrame (c : Fin 8) (kind : CanErr)
  /-- TT_WINDOW_START (R350): At a time-triggered window's START, the head entry of its queue is started. -/
  | ttWindowStart (c : Fin 8) (basic : Fin 16) (win : Fin 64)
  /-- TT_WINDOW_MISSED (R350): The latest start of a window passes unused, so MISSED is incremented. -/
  | ttWindowMissed (c : Fin 8) (basic : Fin 16) (win : Fin 64)
  /-- CAN_CHANNEL_ACTIVE (R339): A channel becomes active at the first bus idle after 100 ms of listening, or after K. -/
  | canChannelActive (c : Fin 8)
  /-- CAN_FILTER_WRITE (R341): A filter register write takes effect for frames 2 µs later and records 0x0C08. -/
  | canFilterWrite (m : Master) (c : Fin 8) (f : Fin 64) (which : CanFlt) (value : Word)
  /-- ETH_FRAME_RECEIVE (R358): A received Ethernet frame is dispatched to the time, telegram, heartbeat or receive unit, or discarded. -/
  | ethFrameReceive (p : Fin 6) (fcsGood : Bool) (f : List Byte)
  /-- ETH_TX_START (R360): The head transmit entry is checked and sent, or refused. -/
  | ethTxStart (p : Fin 6)
  /-- ETH_TX_COMPLETE (R360): The last bit of a frame leaves the port, and the completion is written. -/
  | ethTxComplete (p : Fin 6)
  /-- LINK_UP (R356): An Ethernet link comes up at 1000BASE-T full duplex. -/
  | linkUp (p : Fin 6)
  /-- LINK_DOWN (R356): An Ethernet link goes down or cannot link. -/
  | linkDown (p : Fin 6) (unable : Bool)
  /-- IGMP_REPORT (R364): The NAV port sends IGMPv2 membership reports at link-up and in answer to queries. -/
  | igmpReport
  /-- ETH_MAINT (R361): A write of ETH_MAINT opens, renews or closes the maintenance session on ENG. -/
  | ethMaint (m : Master) (value : Word)
  /-- MAINT_SESSION_EXPIRE (R361): The maintenance session time counts down to 0, and the session closes. -/
  | maintSessionExpire
  /-- PTP_ANNOUNCE (R367): An Announce message is received, and the best master clock algorithm selects the domain's master. -/
  | ptpAnnounce (d : Fin 2) (a : Announce)
  /-- PTP_SYNC (R368): A Sync updates the domain's offset and rate and its state. -/
  | ptpSync (d : Fin 2) (m : Sync)
  /-- DELAY_REQ (R367): The domain sends a Delay_Req, or answers a Pdelay_Req, for path-delay measurement. -/
  | delayReq (d : Fin 2) (x : DelayStep)
  /-- DOMAIN_HOLDOVER (R368): No usable Sync for SYNC_LOSS puts the domain in HOLDOVER. -/
  | domainHoldover (d : Fin 2)
  /-- ANNOUNCE_TIMEOUT (R368): An Announce timeout with no other master returns the domain to NO_MASTER. -/
  | announceTimeout (d : Fin 2)
  /-- TIM_REALIGN (R370): The REALIGN command steps class 1 onto a LOCKED domain, or is refused. -/
  | timRealign (m : Master)
  /-- PPS_IN_EDGE (R372): A PPS_IN edge is stamped and compared with the nearest class-1 second. -/
  | ppsInEdge
  /-- PPS_OUT_EDGE (R372): PPS_OUT gives an edge at each second boundary of the chosen class. -/
  | ppsOutEdge
  /-- CLASS_TIME_CAPTURE (R373): A read of TIM_C1_SEC_LO or TIM_C2_SEC_LO captures seconds and nanoseconds for the reading master. -/
  | classTimeCapture (m : Master) (w : Width) (second : Bool)
  /-- C2_BACKUP_REFRESH (R371): The Porter's class-2 backup is refreshed from T2 once per second. -/
  | c2BackupRefresh
  /-- SER_MESSAGE_RECEIVE (R379): A serial message ends by its mode's rule and is placed in RXQ with its flags. -/
  | serMessageReceive (p : Fin 8) (x : SerMsg)
  /-- SER_TX_START (R381): The head serial transmit entry is checked and sending begins, or it is refused. -/
  | serTxStart (p : Fin 8)
  /-- SER_TX_COMPLETE (R381): A serial transmission ends, or is stopped by an echo error, and the completion is written. -/
  | serTxComplete (p : Fin 8) (sent : Nat) (echoErr : Bool)
  /-- POLL_SEND (R387): A Stairway POLL leaves at cycle start minus LEAD. -/
  | pollSend (l : Fin 8)
  /-- POLL_RETURN (R387): A returned POLL is accepted into the image, or discarded as late. -/
  | pollReturn (l : Fin 8) (fcsGood : Bool) (rtt : Nat) (payload : List Byte)
  /-- OUTPUT_RETURN (R387): A returned OUTPUT frame's SERVED_MAP is shown in RIO_OUTMAP. -/
  | outputReturn (l : Fin 8) (fcsGood : Bool) (payload : List Byte)
  /-- IDENT_RETURN (R388): A returned IDENT admits stations whose sizes fit, or refuses them. -/
  | identReturn (l : Fin 8) (fcsGood : Bool) (payload : List Byte)
  /-- STAIRWAY_TURNAROUND (R390): A module that is not in control returns each outbound frame within 1 µs. -/
  | stairwayTurnaround (l : Fin 8) (payload : List Byte)
  /-- STAIRWAY_LINK_CHANGE (R383): A Stairway link goes up or down. -/
  | stairwayLinkChange (l : Fin 8) (up : Bool)
  /-- PGN_TX_POST (R396): A write of PGN_TX_POST stores a message at the tail of the channel, or is refused. -/
  | pgnTxPost (m : Master) (ch : Fin 32) (value : Word)
  /-- PGN_RX_HDR_READ (R397): A read of PGN_RX_HDR that returns VALID marks the head message opened. -/
  | pgnRxHdrRead (m : Master) (ch : Fin 32)
  /-- PGN_RX_ACK (R397): A write of PGN_RX_ACK removes the head message. -/
  | pgnRxAck (m : Master) (ch : Fin 32) (value : Word)
  /-- WITHDRAW (R401): The WITHDRAW command removes every stored message that has not been opened. -/
  | withdraw (m : Master) (ch : Fin 32)
  /-- PGN_TIMEOUT (R400): The oldest visible message is not acknowledged within TIMEOUT, so the channel enters TIMEOUT. -/
  | pgnTimeout (ch : Fin 32)
  /-- PGN_TIMEOUT_CLEAR (R400): The sender writes 1 to TIMEOUT, which clears it and rearms it. -/
  | pgnTimeoutClear (m : Master) (ch : Fin 32)
  /-- QUE_PI_WRITE (R406): The producer advances PI to post entries, or is refused as full. -/
  | quePiWrite (m : Master) (q : Fin 64) (value : Word)
  /-- QUE_DI_WRITE (R406): The consumer of a round-trip queue advances DI to complete entries. -/
  | queDiWrite (m : Master) (q : Fin 64) (value : Word)
  /-- QUE_CI_WRITE (R406): The owner advances CI to free entries. -/
  | queCiWrite (m : Master) (q : Fin 64) (value : Word)
  /-- QUEUE_POOL_WRITE (R408): A write into the queue pool is accepted only from the entry's owner. -/
  | queuePoolWrite (m : Master) (off : Fin 0x400000) (bs : List Byte)
  /-- GB_EVENT (R416): An event reaching the Guestbook writer is merged, written after a rate check, or suppressed. -/
  | gbEvent
  /-- GB_RECORD_WRITE (R413): The writer advances SEQ and writes a record to MRAM, word 0 last. -/
  | gbRecordWrite (cut : Bool)
  /-- GB_TOKEN_REFILL (R419): A bucket below DEPTH gains one token each REFILL_MS. -/
  | gbTokenRefill (cls : Fin 33)
  /-- GB_CLEAR (R421): The CLEAR command empties the log and writes 0x1002 and an anchor, or is refused. -/
  | gbClear (m : Master)
  /-- GB_CURSOR_WRITE (R422): A write of GB_CURSOR sets the accessing master's record window. -/
  | gbCursorWrite (m : Master) (value : Word)
  /-- RND_STOP_GRANT (R427): In STOP, a 200 µs grant is issued on each 1 ms. -/
  | rndStopGrant
  /-- RND_STEP (R428): A test step of at most 5 µs runs within a grant. -/
  | rndStep (item : Fin 17) (us : Fin 6) (find : RndFind)
  /-- RND_GRANT_CLOSE (R427): A grant's window closes, and an unserved grant counts in RND_LAPSED. -/
  | rndGrantClose
  /-- RND_PASS_LATE (R433): A pass runs longer than LIMIT_H hours, so LATE is set. -/
  | rndPassLate
  /-- WEAR_SAMPLE (R436): Every 10 h, each wear indicator stores a sample and forms its prediction. -/
  | wearSample (mram flash : Nat)
  /-- ANNEX_INTERVAL (R442): Every 10 ms of Annex time, each line's totals are computed. -/
  | annexInterval (pulses : List AnxPulse) (currents : List AnxCurrent)
  /-- ANNEX_RESULT_POST (R444): The Annex posts a result for each enabled line every REPORT_MS. -/
  | annexResultPost
  /-- ANNEX_STATUS_POST (R445): The Annex posts a STATUS report every 1 s. -/
  | annexStatusPost
  /-- ANNEX_REPORT_REPOST (R446): Waiting reports are posted again in order every 1 ms. -/
  | annexReportRepost
  /-- IDENT_IF (R447): An IDENT_IF is compared with ANXIF, and channel 30 is opened or closed. -/
  | identIf
  /-- ANNEX_STATUS_LOST (R455): No STATUS has arrived for 3 s, so STATUS_LOST is set. -/
  | annexStatusLost
  /-- TIME_WORD_SEND (R448): Each 1 ms, the time unit sends a class-2 time word on the Annex time line. -/
  | timeWordSend (good : Bool)
  /-- ANNEX_TIME_HOLD (R448): No usable time word for 10 ms makes the Annex clock run on with TIME_HOLD set. -/
  | annexTimeHold
  /-- ANNEX_WRITE_SWITCH (R449): The ANNEX WRITE switch moves, and the Porter and the Annex count it. -/
  | annexWriteSwitch (write : Bool)
  /-- READ_PARAM (R450): The parameter-port READ_PARAM command is answered. -/
  | readParam (nums : List (Fin 0x42))
  /-- READ_LOG (R450): The parameter-port READ_LOG command is answered. -/
  | readLog
  /-- READ_TOTALS (R450): The parameter-port READ_TOTALS command is answered. -/
  | readTotals
  /-- WRITE_PARAM (R450): WRITE_PARAM records and applies parameter changes at the next 10 ms boundary, or is refused. -/
  | writeParam (changes : List AnxChange)
  /-- LOAD_SOFTWARE (R450): LOAD_SOFTWARE verifies signed software, records it and restarts the Annex. -/
  | loadSoftware (image sig : List Byte) (name ifhash : List Byte) (version build : BitVec 32)
  /-- CLEAR_LOG (R450): CLEAR_LOG empties the Sealed Guestbook where the hash matches. -/
  | clearLog (hash : List Byte)
  /-- ANNEX_TOTALS_COMMIT (R452): The Annex commits its totals to flash every 1 s. -/
  | annexTotalsCommit
  /-- NB_UPDATE_TAKE (R462): An update descriptor is taken from CMDQ, checked and copied into the engine. -/
  | nbUpdateTake
  /-- NB_FRAME (R463): At each frame boundary, running waveforms advance, and pixels finish or start pending targets. -/
  | nbFrame (temp : BitVec 16)
  /-- NB_BALANCE_PASS (R466): A balance pass drives the BAL_DUE pixels towards a zero ledger. -/
  | nbBalancePass
  /-- NB_CLEAN_CMD (R470): The NB_CMD CLEAN command schedules a clean. -/
  | nbCleanCmd (m : Master)
  /-- NB_REFRESH_CMD (R460): The NB_CMD REFRESH command schedules a compensating refresh. -/
  | nbRefreshCmd (m : Master)
  /-- NB_BALANCE_CMD (R466): The NB_CMD BALANCE command starts a balance pass. -/
  | nbBalanceCmd (m : Master)
  /-- NB_IDLE_SCAN (R468): An idle scan raises the rails, applies a hold frame, checks health and reads the temperature. -/
  | nbIdleScan (temp : BitVec 16) (bad : Option (BitVec 5 × Nat))
  /-- NB_RAIL_RISE (R468): The panel rails are sequenced up until every rail is good. -/
  | nbRailRise
  /-- NB_RAIL_FAULT (R468): A rail that is not good, or leaves its band, ends the running waveforms. -/
  | nbRailFault (rails : BitVec 5)
  /-- NB_RAILS_DOWN (R468): The rails fall 100 ms after the last waveform ends. -/
  | nbRailsDown
  /-- NB_QUIESCENT_COMMIT (R469): With nothing running, the level plane and the ledger are written to MRAM and DIRTY clears. -/
  | nbQuiescentCommit
  /-- NB_LIGHT_WRITE (R470): A write of NB_LIGHT requests the frontlight, with a clean first where none has run. -/
  | nbLightWrite (m : Master) (value : Word)
  /-- POWER_INPUT_CHANGE (R476): IN_A or IN_B becomes present or absent after 2 ms, which sets P0, DIP or ride-through. -/
  | powerInputChange (x : PowerInput)
  /-- POWER_FAIL_WARNING (R478): 50 ms of dip, or the store down to its reserve, gives the warning W and starts the orderly shutdown. -/
  | powerFailWarning (why : PfCause) (meas : PwrMeas)
  /-- SHUTDOWN_OUTPUTS_OFF (R479): At W + 20 ms, the barrier frames carry OUT_VALID = 0. -/
  | shutdownOutputsOff
  /-- SHUTDOWN_MRAM_COMMIT (R479): The Guestbook, counters, trims and shadows are committed to MRAM. -/
  | shutdownMramCommit (meas : PwrMeas) (permille : Nat)
  /-- CONTROL_UNPOWERED (R479): The control domain is powered down after its commits. -/
  | controlUnpowered (us : Fin 15000)
  /-- HOLDUP_FULL (R477): The hold-up store reaches full, and HOLDUP_OK is set. -/
  | holdupFull (meas : PwrMeas)
  /-- CONTROL_RESET_RELEASE (R488): The control domain leaves reset once RESERVE_OK is set, and the FRC starts. -/
  | controlResetRelease (us : Fin 15001)
  /-- SHUTDOWN (R484): A peer's SHUTDOWN notice is received, and the module settles its role. -/
  | shutdown (a : Arrival) (serial : BitVec 32)
  /-- CELL_LOW (R486): The Porter cell falls below 2.7 V, or below 2.2 V where the Porter stops. -/
  | cellLow (mV : BitVec 16)
  /-- SEAL_CHANGE (R485): The seal or lid state changes, and the Porter counts it. -/
  | sealChange (lid open_ : Bool)
  /-- BEACON_SEND (R489): A booting module sends a BEACON every 1 ms on both lanes. -/
  | beaconSend
  /-- BEACON (R491): A peer's BEACON is heard and used in the election. -/
  | beacon (a : Arrival) (serial caps : BitVec 32) (strap : Fin 4) (role : Fin 8)
  /-- ELECTION_WINDOW_END (R491): 50 ms after the first beacon, the election is decided, or deferred. -/
  | electionWindowEnd
  /-- ELECTION_DEFER_END (R491): At P0 + 305 ms, a deferred election is decided from the plant heartbeats. -/
  | electionDeferEnd
  /-- ETH_JOIN_POINT (R490): The Ethernet ports join at the later of P0 + 300 ms and lock. -/
  | ethJoinPoint
  /-- ENC_LOSS_CLEAR (R181): The differential encoder receiver stops reporting an open or shorted pair, so ENC_LOSS clears and CLEAR_FAULT may be accepted again. -/
  | encLossClear (a : Fin 8)
  /-- FAST_TRIP_SUPPLY_CHANGE (R255): The fast-trip group supply GL+ crosses 18 V or is lost or restored, which drives ITT53, trips or restores the FTOs and changes a condition for SAFE to RUN. -/
  | fastTripSupplyChange (mV : Nat)
  /-- SAFETY_MONITOR_WARNING (R255): The safety rail leaves 3.1–3.5 V, or the safety clock leaves ±1 %, short of the forced-trip limits, and ITT50 or ITT51 is asserted or withdrawn. -/
  | safetyMonitorWarning (rail clock : Bool)
  /-- ISLAND_SUPPLY_RETURN (R306): An island's field supply rises again above the reset level, its logic restarts with CFG_OK = 0 and it resumes sending frames. -/
  | islandSupplyReturn (k : Fin 8) (supply : Nat)
  /-- TX_OVERLOAD_CLEAR (R317): A transmitter supply that has been out of its current limit continuously for 10 ms clears TX_OVERLOAD and OVERLOAD. -/
  | txOverloadClear (k c : Fin 8)
  /-- LOOP_SIDE_STOP (R322): A passive AO's loop voltage falls below 7.0 V, or the loop opens, so its loop side stops and OPEN is set with code 0x0B28, or the loop side resumes when the voltage returns. -/
  | loopSideStop (k c : Fin 8) (vterm : Nat) (opened : Bool)
  /-- AO_READBACK_CLEAR (R326): An AO whose measured current has agreed with its row-4 target for 20 ms continuously clears READBACK, AO_FAULT and the bad QUAL. -/
  | aoReadbackClear (k c : Fin 8)
  /-- PPS_IN_TIMEOUT (R372): No PPS_IN edge arrives within 1 s ± 1 ms of the last one, so PPS_OK clears and code 0x0D0A is recorded. -/
  | ppsInTimeout
  /-- SLEWING_END (R369): The continuity term C1, or C2, slews to 0, and C1_SLEWING or C2_SLEWING clears. -/
  | slewingEnd (second : Bool)
  /-- GB_CLEAR_COMPLETE (R421): A running Guestbook clear completes within 1 ms, and the writer resumes with the queued events after 0x1002 and the anchor. -/
  | gbClearComplete
  /-- ANNEX_SELF_TEST (R442): The Annex's own periodic self-test completes, counts SELFTEST_PASSES, and on failure freezes every total and sets FAULT. -/
  | annexSelfTest (pass : Bool)
  /-- THERMAL_STRESS_UPDATE (R434): Each second, the AO stage thermal-stress wear indicators add max(0, stage temperature − 85 °C). -/
  | thermalStressUpdate
  deriving DecidableEq, Repr

end Sys2Proof
end

