-- ==== Sys2Proof/Config.lean ====
section
/-!
DEFINITION. What an implementation fixes and the spec leaves open: constants without a value. A statement about one
of them holds whatever it is.
-/
namespace Sys2Proof.Config

/-- SHA-256 of FIPS 180-4, which the spec names and does not restate; 32 bytes, first byte first. DEDUCED, log 8. -/
opaque sha256 : List Byte → List Byte

/-- Whether an image signature (r then s) is good under the public key of a fuse index (R46, R47): the keys are the
purchaser's. Log 9. -/
opaque imageSignatureGood (key : Nat) (hash sig : List Byte) : Bool

/-- Whether a safety-section signature is good under a safety key (R53). Log 9. -/
opaque safetySignatureGood (key : Nat) (hash sig : List Byte) : Bool

/-- Whether the signature of Annex software is good under the software key in the Annex fuses (R450). Log 9. -/
opaque annexSignatureGood (hash sig : List Byte) : Bool

/-- Where a variable of a program lies in its task's images, for the hash of the package and the variable's ID: modulo 4,
1 is the input image, 2 the output image and anything else neither; the quotient is the byte offset. The instance table
of R97 does not say it. Log 193. -/
opaque varPlace (program : List Byte) (id : Nat) : Nat

/-- Which outputs a task's code writes, in the numbering of `outputOwned`: R78 checks them and R96 does not say how the
code shows them. Log 194. -/
opaque codeWrites (code : List Byte) : List Nat

/-- How far a serial port's generated rate lies from the configured one (R377): the model takes it within ±0.05 %.
Log 30. -/
opaque serialRateError : Nat → Nat

/-- Whether a glyph of the identity strip is black at a column and a row: the spec gives the size of its glyphs and
not their shapes (R467). Log 110. -/
opaque glyph (ch col row : Nat) : Bool

/-- The text that follows "TRIP " on the identity strip, of the sink, the product and the FRC of the first-out record:
the spec does not give its form (R467). Log 110. -/
opaque stripTrip (sink product frc : Nat) : List Byte

/-- Whether a pixel of the trim box is black, for a channel, its trim register, a column and a row: the spec does not
give its picture (R332, R467). Log 110. -/
opaque trimBox (channel trim col row : Nat) : Bool

/-- A free 32-bit value, fresh for each count of `State.free`. -/
opaque freeWord : Nat → BitVec 32

/-- A free 64-bit value, fresh for each count of `State.free`. -/
opaque freeLong : Nat → BitVec 64

end Sys2Proof.Config
end

