-- ==== Sys2Proof/Machine/Bits.lean ====
section
/-!
DEFINITION. Bit fields, two's complement, saturation, byte order and the three cyclic redundancy checks that
the spec gives in full (CRC-16, CRC-32 and CRC-64 are named with their parameters where they are used).
-/
namespace Sys2Proof.Machine

/-- The `w` bits of `v` from bit `lo`. -/
def bits (v lo w : Nat) : Nat := v / 2 ^ lo % 2 ^ w

/-- Whether bit `n` of `v` is set. -/
def bitAt (v n : Nat) : Bool := v.testBit n

/-- Set or clear bit `n`. -/
def putBit (v n : Nat) (b : Bool) : Nat :=
  if b then v ||| 2 ^ n else v - (v &&& 2 ^ n)

/-- 1 for true. -/
def b2n (b : Bool) : Nat := if b then 1 else 0

/-- The integer that `w` bits stand for in two's complement. -/
def sgn (w v : Nat) : Int :=
  if v % 2 ^ w < 2 ^ (w - 1) then (v % 2 ^ w : Int) else (v % 2 ^ w : Int) - (2 : Int) ^ w

/-- The `w`-bit two's complement pattern of an integer, wrapping. -/
def toBits (w : Nat) (i : Int) : Nat := (i % (2 : Int) ^ w).toNat

/-- An integer held between two bounds. -/
def clampI (lo hi i : Int) : Int := if i < lo then lo else if hi < i then hi else i

/-- Saturate to `w` signed bits. -/
def satI (w : Nat) (i : Int) : Int := clampI (-((2 : Int) ^ (w - 1))) ((2 : Int) ^ (w - 1) - 1) i

/-- Add one, saturating at the largest `w`-bit number. -/
def satInc (w v : Nat) : Nat := min (v + 1) (2 ^ w - 1)

/-- Little-endian value of bytes. -/
def leVal : List (BitVec 8) → Nat
  | [] => 0
  | b :: t => b.toNat + 256 * leVal t

/-- The first `n` bytes of a value, little-endian. -/
def leBytes : Nat → Nat → List (BitVec 8)
  | 0, _ => []
  | n + 1, v => BitVec.ofNat 8 v :: leBytes n (v / 256)

/-- `n` bytes of a byte list from an offset (short where the list ends). -/
def slice (bs : List (BitVec 8)) (off n : Nat) : List (BitVec 8) := (bs.drop off).take n

/-- An unsigned little-endian field of a byte list. -/
def le (bs : List (BitVec 8)) (off n : Nat) : Nat := leVal (slice bs off n)

/-- A signed little-endian field of a byte list. -/
def les (bs : List (BitVec 8)) (off n : Nat) : Int := sgn (8 * n) (le bs off n)

/-- One bit of a cyclic redundancy check that shifts towards the most significant bit. -/
def crcStep (w poly r : Nat) (b : Bool) : Nat :=
  let top := xor (r.testBit (w - 1)) b
  let s := (r * 2) % 2 ^ w
  if top then s ^^^ poly else s

/-- The eight bits of a byte, most significant first. -/
def byteBits (b : BitVec 8) : List Bool :=
  [b.getLsbD 7, b.getLsbD 6, b.getLsbD 5, b.getLsbD 4, b.getLsbD 3, b.getLsbD 2, b.getLsbD 1, b.getLsbD 0]

/-- The check over bytes, each byte most significant bit first, from a start value. -/
def crcMsb (w poly init : Nat) (bs : List (BitVec 8)) : Nat :=
  bs.foldl (fun r b => (byteBits b).foldl (crcStep w poly) r) init

/-- The check over bytes, each byte least significant bit first, from a start value (before any reflection of
the result). -/
def crcLsb (w poly init : Nat) (bs : List (BitVec 8)) : Nat :=
  bs.foldl (fun r b => (byteBits b).reverse.foldl (crcStep w poly) r) init

/-- The `w` bits of a value in reverse order. -/
def revBits : Nat → Nat → Nat
  | 0, _ => 0
  | w + 1, v => (v % 2) * 2 ^ w + revBits w (v / 2)

/-- One more run of bytes into the register of the CRC-64 of R146; it starts at all ones. -/
def crc64Add (r : Nat) (bs : List (BitVec 8)) : Nat := crcLsb 64 0x42F0E1EBA9EA3693 r bs

/-- The CRC-64 that a register stands for: reflected, final XOR all ones (R146). -/
def crc64End (r : Nat) : Nat := revBits 64 r ^^^ 0xFFFFFFFFFFFFFFFF

/-- CRC-64 of bytes (R146). -/
def crc64 (bs : List (BitVec 8)) : Nat := crc64End (crc64Add 0xFFFFFFFFFFFFFFFF bs)

end Sys2Proof.Machine
end

