-- ==== Sys2Proof/Machine/RegMap.lean ====
section
/-!
DEFINITION. The register map: every register table of the spec as a named field, `Reg.<REGISTER>` for the whole
word and `Reg.<REGISTER>_<FIELD>` for a field, and the access codes of every register (R9 to R14) in one list.
The addresses are the full control-domain addresses of the tables' caption lines.
-/
namespace Sys2Proof.Machine

/-- A field of a register: the register's address, the field's lowest bit and its width. -/
structure Fld where
  addr  : Nat
  lo    : Nat
  width : Nat
  deriving DecidableEq, Repr

/-- Whether a register stands alone or is one half of a 64-bit value (R12). -/
inductive Half where
  | whole | lo | hi
  deriving DecidableEq, Repr

/-- A register of the map: its first address, the stride and count of each index, and masks of the bits that
can be read, written (RW), cleared by a written 1 (W1C) and cleared by a read (RC). -/
structure RegSpec where
  base : Nat
  dims : List (Nat × Nat)
  rd   : Nat
  rw   : Nat
  w1c  : Nat
  rc   : Nat
  half : Half
  deriving DecidableEq, Repr

/-! ### SYS (spec file 00) -/

def Reg.SYS_CAPS : Fld := ⟨0x2000000004, 0, 32⟩
def Reg.SYS_CAPS_CAN_CH : Fld := ⟨0x2000000004, 16, 4⟩
def Reg.SYS_CAPS_ISLANDS : Fld := ⟨0x2000000004, 12, 4⟩
def Reg.SYS_CAPS_AXES : Fld := ⟨0x2000000004, 8, 4⟩
def Reg.SYS_CAPS_FFTAB : Fld := ⟨0x2000000004, 5, 1⟩
def Reg.SYS_CAPS_NB : Fld := ⟨0x2000000004, 4, 1⟩
def Reg.SYS_CAPS_ANX : Fld := ⟨0x2000000004, 3, 1⟩
def Reg.SYS_CAPS_SLV : Fld := ⟨0x2000000004, 2, 1⟩
def Reg.SYS_CAPS_VARIANT : Fld := ⟨0x2000000004, 0, 2⟩

/-! ### SYS (spec file 01) -/

def Reg.SYS_ID : Fld := ⟨0x2000000000, 0, 32⟩
def Reg.SYS_ID_PART : Fld := ⟨0x2000000000, 16, 16⟩
def Reg.SYS_ID_SILICON : Fld := ⟨0x2000000000, 8, 8⟩
def Reg.SYS_ID_BOARD : Fld := ⟨0x2000000000, 0, 8⟩
def Reg.SYS_BUSERR_STAT : Fld := ⟨0x2000000010, 0, 32⟩
def Reg.SYS_BUSERR_STAT_VALID : Fld := ⟨0x2000000010, 31, 1⟩
def Reg.SYS_BUSERR_STAT_MORE : Fld := ⟨0x2000000010, 30, 1⟩
def Reg.SYS_BUSERR_STAT_MASTER : Fld := ⟨0x2000000010, 16, 6⟩
def Reg.SYS_BUSERR_STAT_STATUS : Fld := ⟨0x2000000010, 8, 8⟩
def Reg.SYS_BUSERR_STAT_WRITE : Fld := ⟨0x2000000010, 0, 1⟩
def Reg.SYS_BUSERR_ADDR_LO : Fld := ⟨0x2000000014, 0, 32⟩
def Reg.SYS_BUSERR_ADDR_HI : Fld := ⟨0x2000000018, 0, 32⟩
def Reg.SYS_BUSERR_ADDR_HI_ADDR_HI : Fld := ⟨0x2000000018, 0, 8⟩

/-! ### FPL (spec file 02) -/

def Reg.FPL_STAT : Fld := ⟨0x2000020000, 0, 32⟩
def Reg.FPL_STAT_REASON : Fld := ⟨0x2000020000, 24, 8⟩
def Reg.FPL_STAT_LOADED_SLOT : Fld := ⟨0x2000020000, 10, 2⟩
def Reg.FPL_STAT_FALLBACK_USED : Fld := ⟨0x2000020000, 9, 1⟩
def Reg.FPL_STAT_BUSY : Fld := ⟨0x2000020000, 8, 1⟩
def Reg.FPL_STAT_STATE : Fld := ⟨0x2000020000, 0, 4⟩
def Reg.FPL_CMD : Fld := ⟨0x2000020004, 0, 32⟩
def Reg.FPL_CMD_KEY : Fld := ⟨0x2000020004, 24, 8⟩
def Reg.FPL_CMD_CMD : Fld := ⟨0x2000020004, 0, 4⟩
def Reg.FPL_SRC_LO : Fld := ⟨0x2000020008, 0, 32⟩
def Reg.FPL_SRC_HI : Fld := ⟨0x200002000C, 0, 32⟩
def Reg.FPL_SRC_HI_ADDR_HI : Fld := ⟨0x200002000C, 0, 8⟩
def Reg.FPL_SRC_LEN : Fld := ⟨0x2000020010, 0, 32⟩
def Reg.FPL_BOOT : Fld := ⟨0x2000020014, 0, 32⟩
def Reg.FPL_BOOT_FALLBACK : Fld := ⟨0x2000020014, 1, 1⟩
def Reg.FPL_BOOT_SLOT : Fld := ⟨0x2000020014, 0, 1⟩
def Reg.FPL_SLOT_INFO (s : Nat) : Fld := ⟨0x2000020018 + 4 * s, 0, 32⟩
def Reg.FPL_SLOT_INFO_VALID (s : Nat) : Fld := ⟨0x2000020018 + 4 * s, 31, 1⟩
def Reg.FPL_SLOT_INFO_LENGTH (s : Nat) : Fld := ⟨0x2000020018 + 4 * s, 0, 26⟩
def Reg.FPL_FAIL_OFF : Fld := ⟨0x2000020020, 0, 32⟩
def Reg.FPL_FAIL_TYPE : Fld := ⟨0x2000020024, 0, 32⟩
def Reg.FPL_FAIL_TYPE_INSTANCE : Fld := ⟨0x2000020024, 16, 16⟩
def Reg.FPL_FAIL_TYPE_TYPE : Fld := ⟨0x2000020024, 0, 16⟩
def Reg.FPL_SKIPPED : Fld := ⟨0x2000020028, 0, 32⟩
def Reg.FPL_SKIPPED_COUNT : Fld := ⟨0x2000020028, 0, 11⟩
def Reg.FPL_SERIAL : Fld := ⟨0x200002002C, 0, 32⟩
def Reg.FPL_KEYS : Fld := ⟨0x2000020030, 0, 32⟩
def Reg.FPL_KEYS_USED : Fld := ⟨0x2000020030, 8, 2⟩
def Reg.FPL_KEYS_PROVISIONED : Fld := ⟨0x2000020030, 4, 4⟩
def Reg.FPL_KEYS_REVOKED : Fld := ⟨0x2000020030, 0, 4⟩
def Reg.FPL_STRDIG (i : Nat) : Fld := ⟨0x2000020040 + 4 * i, 0, 32⟩
def Reg.FPL_SOFTDIG (i : Nat) : Fld := ⟨0x2000020060 + 4 * i, 0, 32⟩

/-! ### SCN (spec file 03) -/

def Reg.SCN_STAT : Fld := ⟨0x2000030000, 0, 32⟩
def Reg.SCN_STAT_FORCE_PERMIT : Fld := ⟨0x2000030000, 9, 1⟩
def Reg.SCN_STAT_FORCES_ACTIVE : Fld := ⟨0x2000030000, 8, 1⟩
def Reg.SCN_STAT_PENDING : Fld := ⟨0x2000030000, 4, 2⟩
def Reg.SCN_STAT_MODE : Fld := ⟨0x2000030000, 0, 2⟩
def Reg.SCN_CMD : Fld := ⟨0x2000030004, 0, 32⟩
def Reg.SCN_CMD_KEY : Fld := ⟨0x2000030004, 24, 8⟩
def Reg.SCN_CMD_TASK : Fld := ⟨0x2000030004, 8, 4⟩
def Reg.SCN_CMD_CMD : Fld := ⟨0x2000030004, 0, 4⟩
def Reg.SCN_OLC_SRC_LO : Fld := ⟨0x2000030010, 0, 32⟩
def Reg.SCN_OLC_SRC_HI : Fld := ⟨0x2000030014, 0, 32⟩
def Reg.SCN_OLC_SRC_HI_ADDR_HI : Fld := ⟨0x2000030014, 0, 8⟩
def Reg.SCN_OLC_LEN : Fld := ⟨0x2000030018, 0, 32⟩
def Reg.SCN_OLC_CMD : Fld := ⟨0x200003001C, 0, 32⟩
def Reg.SCN_OLC_CMD_KEY : Fld := ⟨0x200003001C, 24, 8⟩
def Reg.SCN_OLC_CMD_CMD : Fld := ⟨0x200003001C, 0, 4⟩
def Reg.SCN_OLC_STAT : Fld := ⟨0x2000030020, 0, 32⟩
def Reg.SCN_OLC_STAT_REASON : Fld := ⟨0x2000030020, 24, 8⟩
def Reg.SCN_OLC_STAT_STATE : Fld := ⟨0x2000030020, 0, 4⟩
def Reg.SCN_OLC_COUNTS : Fld := ⟨0x2000030024, 0, 32⟩
def Reg.SCN_OLC_COUNTS_RELEASED : Fld := ⟨0x2000030024, 16, 16⟩
def Reg.SCN_OLC_COUNTS_RESET : Fld := ⟨0x2000030024, 0, 16⟩
def Reg.SCN_FORCE_TGT : Fld := ⟨0x2000030040, 0, 32⟩
def Reg.SCN_FORCE_TYPE : Fld := ⟨0x2000030044, 0, 32⟩
def Reg.SCN_FORCE_TYPE_PHYS : Fld := ⟨0x2000030044, 31, 1⟩
def Reg.SCN_FORCE_TYPE_TYPE : Fld := ⟨0x2000030044, 0, 31⟩
def Reg.SCN_FORCE_VAL_LO : Fld := ⟨0x2000030048, 0, 32⟩
def Reg.SCN_FORCE_VAL_HI : Fld := ⟨0x200003004C, 0, 32⟩
def Reg.SCN_FORCE_CMD : Fld := ⟨0x2000030050, 0, 32⟩
def Reg.SCN_FORCE_CMD_KEY : Fld := ⟨0x2000030050, 24, 8⟩
def Reg.SCN_FORCE_CMD_CMD : Fld := ⟨0x2000030050, 0, 2⟩
def Reg.SCN_FORCE_STAT : Fld := ⟨0x2000030054, 0, 32⟩
def Reg.SCN_FORCE_STAT_STATUS : Fld := ⟨0x2000030054, 24, 8⟩
def Reg.SCN_FORCE_STAT_COUNT : Fld := ⟨0x2000030054, 0, 9⟩
def Reg.SCN_TASK_STAT (t : Nat) : Fld := ⟨0x2000031000 + 32 * t, 0, 32⟩
def Reg.SCN_TASK_STAT_MISSES (t : Nat) : Fld := ⟨0x2000031000 + 32 * t, 16, 16⟩
def Reg.SCN_TASK_STAT_CONSEC (t : Nat) : Fld := ⟨0x2000031000 + 32 * t, 8, 4⟩
def Reg.SCN_TASK_STAT_ABANDONED (t : Nat) : Fld := ⟨0x2000031000 + 32 * t, 7, 1⟩
def Reg.SCN_TASK_STAT_STATE (t : Nat) : Fld := ⟨0x2000031000 + 32 * t, 0, 3⟩
def Reg.SCN_CYCLE_LO (t : Nat) : Fld := ⟨0x2000031004 + 32 * t, 0, 32⟩
def Reg.SCN_CYCLE_HI (t : Nat) : Fld := ⟨0x2000031008 + 32 * t, 0, 32⟩
def Reg.SCN_TASK_EXEC (t : Nat) : Fld := ⟨0x200003100C + 32 * t, 0, 32⟩
def Reg.SCN_TASK_EXEC_MAX (t : Nat) : Fld := ⟨0x200003100C + 32 * t, 16, 16⟩
def Reg.SCN_TASK_EXEC_LAST (t : Nat) : Fld := ⟨0x200003100C + 32 * t, 0, 16⟩

/-! ### LOOP (spec file 04) -/

def Reg.LOOP_STAT : Fld := ⟨0x2000040000, 0, 32⟩
def Reg.LOOP_STAT_COUNT : Fld := ⟨0x2000040000, 16, 10⟩
def Reg.LOOP_STAT_OVERLOAD : Fld := ⟨0x2000040000, 8, 1⟩
def Reg.LOOP_STAT_STATE : Fld := ⟨0x2000040000, 0, 2⟩
def Reg.LOOP_LOAD : Fld := ⟨0x2000040004, 0, 32⟩
def Reg.LOOP_LOAD_PEAK : Fld := ⟨0x2000040004, 16, 10⟩
def Reg.LOOP_LOAD_MAXDEMAND : Fld := ⟨0x2000040004, 0, 11⟩
def Reg.LOOP_FAULTS : Fld := ⟨0x2000040008, 0, 32⟩
def Reg.LOOP_STATE (n : Nat) : Fld := ⟨0x2000042000 + 16 * n, 0, 32⟩
def Reg.LOOP_STATE_DEADLINE (n : Nat) : Fld := ⟨0x2000042000 + 16 * n, 31, 1⟩
def Reg.LOOP_STATE_ACC_SAT (n : Nat) : Fld := ⟨0x2000042000 + 16 * n, 12, 1⟩
def Reg.LOOP_STATE_RATE_LIM (n : Nat) : Fld := ⟨0x2000042000 + 16 * n, 11, 1⟩
def Reg.LOOP_STATE_LIM_HI (n : Nat) : Fld := ⟨0x2000042000 + 16 * n, 10, 1⟩
def Reg.LOOP_STATE_LIM_LO (n : Nat) : Fld := ⟨0x2000042000 + 16 * n, 9, 1⟩
def Reg.LOOP_STATE_INT_HELD (n : Nat) : Fld := ⟨0x2000042000 + 16 * n, 8, 1⟩
def Reg.LOOP_STATE_DEST_HELD (n : Nat) : Fld := ⟨0x2000042000 + 16 * n, 7, 1⟩
def Reg.LOOP_STATE_PV_BAD (n : Nat) : Fld := ⟨0x2000042000 + 16 * n, 6, 1⟩
def Reg.LOOP_STATE_FROZEN (n : Nat) : Fld := ⟨0x2000042000 + 16 * n, 5, 1⟩
def Reg.LOOP_STATE_SAFE (n : Nat) : Fld := ⟨0x2000042000 + 16 * n, 4, 1⟩
def Reg.LOOP_STATE_MODE (n : Nat) : Fld := ⟨0x2000042000 + 16 * n, 0, 1⟩
def Reg.LOOP_OUT (n : Nat) : Fld := ⟨0x2000042004 + 16 * n, 0, 32⟩
def Reg.LOOP_INT (n : Nat) : Fld := ⟨0x2000042008 + 16 * n, 0, 32⟩
def Reg.LOOP_PV (n : Nat) : Fld := ⟨0x200004200C + 16 * n, 0, 32⟩
def Reg.LOOP_COEF (n j : Nat) : Fld := ⟨0x2000044000 + 96 * n + 4 * j, 0, 32⟩
def Reg.LOOP_SHIFT_A (n : Nat) : Fld := ⟨0x2000044028 + 96 * n, 0, 32⟩
def Reg.LOOP_SHIFT_A_SC (n : Nat) : Fld := ⟨0x2000044028 + 96 * n, 25, 5⟩
def Reg.LOOP_SHIFT_A_SB (n : Nat) : Fld := ⟨0x2000044028 + 96 * n, 20, 5⟩
def Reg.LOOP_SHIFT_A_SD (n : Nat) : Fld := ⟨0x2000044028 + 96 * n, 15, 5⟩
def Reg.LOOP_SHIFT_A_SA (n : Nat) : Fld := ⟨0x2000044028 + 96 * n, 10, 5⟩
def Reg.LOOP_SHIFT_A_SI (n : Nat) : Fld := ⟨0x2000044028 + 96 * n, 5, 5⟩
def Reg.LOOP_SHIFT_A_SP (n : Nat) : Fld := ⟨0x2000044028 + 96 * n, 0, 5⟩
def Reg.LOOP_SHIFT_B (n : Nat) : Fld := ⟨0x200004402C + 96 * n, 0, 32⟩
def Reg.LOOP_SHIFT_B_ST1 (n : Nat) : Fld := ⟨0x200004402C + 96 * n, 15, 5⟩
def Reg.LOOP_SHIFT_B_ST0 (n : Nat) : Fld := ⟨0x200004402C + 96 * n, 10, 5⟩
def Reg.LOOP_SHIFT_B_SKA (n : Nat) : Fld := ⟨0x200004402C + 96 * n, 5, 5⟩
def Reg.LOOP_SHIFT_B_SV (n : Nat) : Fld := ⟨0x200004402C + 96 * n, 0, 5⟩
def Reg.LOOP_LIM (n j : Nat) : Fld := ⟨0x2000044030 + 96 * n + 4 * j, 0, 32⟩
def Reg.LOOP_TUNE_CTRL (n : Nat) : Fld := ⟨0x2000044048 + 96 * n, 0, 32⟩
def Reg.LOOP_TUNE_CTRL_KEY (n : Nat) : Fld := ⟨0x2000044048 + 96 * n, 24, 8⟩
def Reg.LOOP_TUNE_CTRL_ERR (n : Nat) : Fld := ⟨0x2000044048 + 96 * n, 16, 8⟩
def Reg.LOOP_TUNE_CTRL_DIRTY (n : Nat) : Fld := ⟨0x2000044048 + 96 * n, 3, 1⟩
def Reg.LOOP_TUNE_CTRL_PENDING (n : Nat) : Fld := ⟨0x2000044048 + 96 * n, 2, 1⟩
def Reg.LOOP_TUNE_CTRL_CMD (n : Nat) : Fld := ⟨0x2000044048 + 96 * n, 0, 2⟩

/-! ### SLV (spec file 05) -/

def Reg.SLV_STAT : Fld := ⟨0x2000050000, 0, 32⟩
def Reg.SLV_STAT_DLFAULT : Fld := ⟨0x2000050000, 15, 1⟩
def Reg.SLV_STAT_PAIR_WAIT : Fld := ⟨0x2000050000, 14, 1⟩
def Reg.SLV_STAT_QUEUE : Fld := ⟨0x2000050000, 8, 2⟩
def Reg.SLV_STAT_SLOT : Fld := ⟨0x2000050000, 4, 4⟩
def Reg.SLV_STAT_STATE : Fld := ⟨0x2000050000, 0, 3⟩
def Reg.SLV_CTRL : Fld := ⟨0x2000050004, 0, 32⟩
def Reg.SLV_CTRL_IDLE_HOLD : Fld := ⟨0x2000050004, 0, 16⟩
def Reg.SLV_CMD : Fld := ⟨0x2000050008, 0, 32⟩
def Reg.SLV_CMD_KEY : Fld := ⟨0x2000050008, 24, 8⟩
def Reg.SLV_CMD_ALL : Fld := ⟨0x2000050008, 4, 1⟩
def Reg.SLV_CMD_SLOT : Fld := ⟨0x2000050008, 0, 4⟩
def Reg.SLV_QUEUE (q : Nat) : Fld := ⟨0x2000050010 + 4 * q, 0, 32⟩
def Reg.SLV_QUEUE_VALID (q : Nat) : Fld := ⟨0x2000050010 + 4 * q, 31, 1⟩
def Reg.SLV_QUEUE_QUE (q : Nat) : Fld := ⟨0x2000050010 + 4 * q, 0, 6⟩
def Reg.SLV_CNT (j : Nat) : Fld := ⟨0x2000050020 + 4 * j, 0, 32⟩
def Reg.SLV_LAST : Fld := ⟨0x2000050040, 0, 32⟩
def Reg.SLV_LAST_STATUS : Fld := ⟨0x2000050040, 24, 8⟩
def Reg.SLV_LAST_DETAIL : Fld := ⟨0x2000050040, 16, 8⟩
def Reg.SLV_LAST_QUEUE : Fld := ⟨0x2000050040, 8, 2⟩
def Reg.SLV_LAST_SLOT : Fld := ⟨0x2000050040, 4, 4⟩
def Reg.SLV_LAST_ITER : Fld := ⟨0x2000050044, 0, 32⟩
def Reg.SLV_LAST_ITER_WORKING : Fld := ⟨0x2000050044, 16, 16⟩
def Reg.SLV_LAST_ITER_ITERATIONS : Fld := ⟨0x2000050044, 0, 16⟩
def Reg.SLV_LAST_TIME : Fld := ⟨0x2000050048, 0, 32⟩
def Reg.SLV_MAX_TIME : Fld := ⟨0x200005004C, 0, 32⟩
def Reg.SLV_FAULTS : Fld := ⟨0x2000050050, 0, 32⟩
def Reg.SLV_SLOT (s : Nat) : Fld := ⟨0x2000050100 + 16 * s, 0, 32⟩
def Reg.SLV_SLOT_VALID (s : Nat) : Fld := ⟨0x2000050100 + 16 * s, 31, 1⟩
def Reg.SLV_SLOT_FACTOR (s : Nat) : Fld := ⟨0x2000050100 + 16 * s, 30, 1⟩
def Reg.SLV_SLOT_REG (s : Nat) : Fld := ⟨0x2000050100 + 16 * s, 29, 1⟩
def Reg.SLV_SLOT_P (s : Nat) : Fld := ⟨0x2000050100 + 16 * s, 22, 7⟩
def Reg.SLV_SLOT_M (s : Nat) : Fld := ⟨0x2000050100 + 16 * s, 12, 10⟩
def Reg.SLV_SLOT_N (s : Nat) : Fld := ⟨0x2000050100 + 16 * s, 3, 9⟩
def Reg.SLV_SLOT_WS (s : Nat) : Fld := ⟨0x2000050104 + 16 * s, 0, 32⟩
def Reg.SLV_SLOT_WS_WS (s : Nat) : Fld := ⟨0x2000050104 + 16 * s, 0, 10⟩
def Reg.SLV_SLOT_SIG_LO (s : Nat) : Fld := ⟨0x2000050108 + 16 * s, 0, 32⟩
def Reg.SLV_SLOT_SIG_HI (s : Nat) : Fld := ⟨0x200005010C + 16 * s, 0, 32⟩

/-! ### AX (spec file 06) -/

def Reg.AX_GSTAT : Fld := ⟨0x2000060000, 0, 32⟩
def Reg.AX_GSTAT_FAULT : Fld := ⟨0x2000060000, 16, 8⟩
def Reg.AX_GSTAT_MOVING : Fld := ⟨0x2000060000, 8, 8⟩
def Reg.AX_GSTAT_ENABLED : Fld := ⟨0x2000060000, 0, 8⟩
def Reg.AX_STATE (a : Nat) : Fld := ⟨0x2000061000 + 4096 * a, 0, 32⟩
def Reg.AX_STATE_LIMIT_PASSED (a : Nat) : Fld := ⟨0x2000061000 + 4096 * a, 15, 1⟩
def Reg.AX_STATE_OVERSHOOT (a : Nat) : Fld := ⟨0x2000061000 + 4096 * a, 14, 1⟩
def Reg.AX_STATE_LIMIT_DECEL (a : Nat) : Fld := ⟨0x2000061000 + 4096 * a, 13, 1⟩
def Reg.AX_STATE_TGT_CLIPPED (a : Nat) : Fld := ⟨0x2000061000 + 4096 * a, 12, 1⟩
def Reg.AX_STATE_ENC_LOSS (a : Nat) : Fld := ⟨0x2000061000 + 4096 * a, 11, 1⟩
def Reg.AX_STATE_ENC_ERR (a : Nat) : Fld := ⟨0x2000061000 + 4096 * a, 10, 1⟩
def Reg.AX_STATE_STALL (a : Nat) : Fld := ⟨0x2000061000 + 4096 * a, 9, 1⟩
def Reg.AX_STATE_HELD_AT_LIMIT (a : Nat) : Fld := ⟨0x2000061000 + 4096 * a, 8, 1⟩
def Reg.AX_STATE_STATE (a : Nat) : Fld := ⟨0x2000061000 + 4096 * a, 0, 3⟩
def Reg.AX_POS_LO (a : Nat) : Fld := ⟨0x2000061004 + 4096 * a, 0, 32⟩
def Reg.AX_POS_HI (a : Nat) : Fld := ⟨0x2000061008 + 4096 * a, 0, 32⟩
def Reg.AX_ENC_LO (a : Nat) : Fld := ⟨0x200006100C + 4096 * a, 0, 32⟩
def Reg.AX_ENC_HI (a : Nat) : Fld := ⟨0x2000061010 + 4096 * a, 0, 32⟩
def Reg.AX_VEL (a : Nat) : Fld := ⟨0x2000061014 + 4096 * a, 0, 32⟩
def Reg.AX_DEV (a : Nat) : Fld := ⟨0x2000061018 + 4096 * a, 0, 32⟩
def Reg.AX_VLIM_LO_LO (a : Nat) : Fld := ⟨0x2000061020 + 4096 * a, 0, 32⟩
def Reg.AX_VLIM_LO_HI (a : Nat) : Fld := ⟨0x2000061024 + 4096 * a, 0, 32⟩
def Reg.AX_VLIM_HI_LO (a : Nat) : Fld := ⟨0x2000061028 + 4096 * a, 0, 32⟩
def Reg.AX_VLIM_HI_HI (a : Nat) : Fld := ⟨0x200006102C + 4096 * a, 0, 32⟩
def Reg.AX_LIM_CTRL (a : Nat) : Fld := ⟨0x2000061030 + 4096 * a, 0, 32⟩
def Reg.AX_LIM_CTRL_ERR (a : Nat) : Fld := ⟨0x2000061030 + 4096 * a, 8, 8⟩
def Reg.AX_LIM_CTRL_PENDING (a : Nat) : Fld := ⟨0x2000061030 + 4096 * a, 0, 1⟩

/-! ### BAN (spec file 07) -/

def Reg.BAN_STAT : Fld := ⟨0x2000070000, 0, 32⟩
def Reg.BAN_STAT_PEER_ROLE : Fld := ⟨0x2000070000, 16, 4⟩
def Reg.BAN_STAT_INQUIRY : Fld := ⟨0x2000070000, 15, 1⟩
def Reg.BAN_STAT_STRICT_HOLD : Fld := ⟨0x2000070000, 14, 1⟩
def Reg.BAN_STAT_HANDOVER : Fld := ⟨0x2000070000, 13, 1⟩
def Reg.BAN_STAT_PEER_HB : Fld := ⟨0x2000070000, 12, 1⟩
def Reg.BAN_STAT_LANE1_UP : Fld := ⟨0x2000070000, 9, 1⟩
def Reg.BAN_STAT_LANE0_UP : Fld := ⟨0x2000070000, 8, 1⟩
def Reg.BAN_STAT_ROLE : Fld := ⟨0x2000070000, 0, 4⟩
def Reg.BAN_CMD : Fld := ⟨0x2000070004, 0, 32⟩
def Reg.BAN_CMD_KEY : Fld := ⟨0x2000070004, 24, 8⟩
def Reg.BAN_CMD_CHANNEL : Fld := ⟨0x2000070004, 8, 6⟩
def Reg.BAN_CMD_CMD : Fld := ⟨0x2000070004, 0, 4⟩
def Reg.BAN_CMD_STAT : Fld := ⟨0x2000070008, 0, 32⟩
def Reg.BAN_CMD_STAT_STATUS : Fld := ⟨0x2000070008, 24, 8⟩
def Reg.BAN_CMD_STAT_REASON : Fld := ⟨0x2000070008, 0, 8⟩
def Reg.BAN_LANE (l : Nat) : Fld := ⟨0x2000070010 + 4 * l, 0, 32⟩
def Reg.BAN_LANE_UP (l : Nat) : Fld := ⟨0x2000070010 + 4 * l, 31, 1⟩
def Reg.BAN_LANE_CRC_ERR (l : Nat) : Fld := ⟨0x2000070010 + 4 * l, 0, 16⟩
def Reg.BAN_HS_FAIL : Fld := ⟨0x2000070018, 0, 32⟩
def Reg.BAN_DISCARD : Fld := ⟨0x200007001C, 0, 32⟩
def Reg.BAN_DISCARD_COUNT : Fld := ⟨0x200007001C, 0, 16⟩
def Reg.BAN_CMP : Fld := ⟨0x2000070020, 0, 32⟩
def Reg.BAN_CMP_MISMATCH : Fld := ⟨0x2000070020, 16, 16⟩
def Reg.BAN_CMP_LATE : Fld := ⟨0x2000070020, 0, 16⟩
def Reg.BAN_LAST_CMP : Fld := ⟨0x2000070024, 0, 32⟩
def Reg.BAN_LAST_CMP_TASK : Fld := ⟨0x2000070024, 12, 4⟩
def Reg.BAN_LAST_CMP_STRICT : Fld := ⟨0x2000070024, 8, 1⟩
def Reg.BAN_LAST_CMP_KIND : Fld := ⟨0x2000070024, 0, 8⟩
def Reg.BAN_LAST_CYC_LO : Fld := ⟨0x2000070028, 0, 32⟩
def Reg.BAN_LAST_CYC_HI : Fld := ⟨0x200007002C, 0, 32⟩
def Reg.BAN_INQ : Fld := ⟨0x2000070030, 0, 32⟩
def Reg.BAN_INQ_OUTCOME : Fld := ⟨0x2000070030, 28, 4⟩
def Reg.BAN_INQ_OWN_FAIL : Fld := ⟨0x2000070030, 23, 5⟩
def Reg.BAN_INQ_PEER_FAIL : Fld := ⟨0x2000070030, 18, 5⟩
def Reg.BAN_INQ_DURATION : Fld := ⟨0x2000070030, 0, 16⟩
def Reg.BAN_HO : Fld := ⟨0x2000070034, 0, 32⟩
def Reg.BAN_HO_TRIGGER : Fld := ⟨0x2000070034, 24, 8⟩
def Reg.BAN_HO_SKIPPED : Fld := ⟨0x2000070034, 16, 8⟩
def Reg.BAN_HO_GAP : Fld := ⟨0x2000070034, 0, 16⟩
def Reg.BAN_HO_CNT : Fld := ⟨0x2000070038, 0, 32⟩
def Reg.BAN_HO_CNT_COUNT : Fld := ⟨0x2000070038, 16, 16⟩
def Reg.BAN_HO_CNT_OVERLAP : Fld := ⟨0x2000070038, 0, 8⟩
def Reg.BAN_RTT : Fld := ⟨0x200007003C, 0, 32⟩
def Reg.BAN_RTT_RTT : Fld := ⟨0x200007003C, 0, 16⟩
def Reg.BAN_PEER_SERIAL : Fld := ⟨0x2000070040, 0, 32⟩
def Reg.BAN_ISO : Fld := ⟨0x2000070044, 0, 32⟩
def Reg.BAN_ISO_ENERGISED_SEEN : Fld := ⟨0x2000070044, 3, 1⟩
def Reg.BAN_ISO_RB_OFF : Fld := ⟨0x2000070044, 2, 1⟩
def Reg.BAN_ISO_HB_LOST : Fld := ⟨0x2000070044, 1, 1⟩
def Reg.BAN_ISO_LANES_LOST : Fld := ⟨0x2000070044, 0, 1⟩
def Reg.BAN_RB_BLOCK_LO : Fld := ⟨0x2000070048, 0, 32⟩
def Reg.BAN_RB_BLOCK_HI : Fld := ⟨0x200007004C, 0, 32⟩
def Reg.BAN_DIG_LO (t : Nat) : Fld := ⟨0x2000070100 + 8 * t, 0, 32⟩
def Reg.BAN_DIG_HI (t : Nat) : Fld := ⟨0x2000070104 + 8 * t, 0, 32⟩

/-! ### BAN, joins (spec file 08) -/

def Reg.BAN_JOIN_STAT : Fld := ⟨0x2000070200, 0, 32⟩
def Reg.BAN_JOIN_STAT_REASON : Fld := ⟨0x2000070200, 24, 8⟩
def Reg.BAN_JOIN_STAT_ADMIT : Fld := ⟨0x2000070200, 4, 1⟩
def Reg.BAN_JOIN_STAT_PHASE : Fld := ⟨0x2000070200, 0, 4⟩
def Reg.BAN_JOIN_CMD : Fld := ⟨0x2000070204, 0, 32⟩
def Reg.BAN_JOIN_CMD_KEY : Fld := ⟨0x2000070204, 24, 8⟩
def Reg.BAN_JOIN_CMD_CMD : Fld := ⟨0x2000070204, 0, 4⟩
def Reg.BAN_JOIN_XFER : Fld := ⟨0x2000070208, 0, 32⟩
def Reg.BAN_JOIN_DIRTY : Fld := ⟨0x200007020C, 0, 32⟩
def Reg.BAN_JOIN_PROG : Fld := ⟨0x2000070210, 0, 32⟩
def Reg.BAN_JOIN_PROG_BACKLOG : Fld := ⟨0x2000070210, 16, 16⟩
def Reg.BAN_JOIN_PROG_TIME : Fld := ⟨0x2000070210, 0, 16⟩
def Reg.BAN_LATENT : Fld := ⟨0x2000070214, 0, 32⟩
def Reg.BAN_LATENT_LIMIT : Fld := ⟨0x2000070214, 16, 16⟩
def Reg.BAN_LATENT_HOURS : Fld := ⟨0x2000070214, 0, 16⟩
def Reg.BAN_PROGDIG (i : Nat) : Fld := ⟨0x2000070220 + 4 * i, 0, 32⟩

/-! ### SAF and TRP (spec file 09) -/

def Reg.SAF_STAT : Fld := ⟨0x2000080000, 0, 32⟩
def Reg.SAF_STAT_FUNC_COUNT : Fld := ⟨0x2000080000, 24, 8⟩
def Reg.SAF_STAT_SAFE_CAUSE : Fld := ⟨0x2000080000, 16, 4⟩
def Reg.SAF_STAT_CTRL_HB_LOST : Fld := ⟨0x2000080000, 9, 1⟩
def Reg.SAF_STAT_KEY_MAINT : Fld := ⟨0x2000080000, 8, 1⟩
def Reg.SAF_STAT_TRIPPED : Fld := ⟨0x2000080000, 7, 1⟩
def Reg.SAF_STAT_EXCURSION : Fld := ⟨0x2000080000, 6, 1⟩
def Reg.SAF_STAT_SPB_OK : Fld := ⟨0x2000080000, 5, 1⟩
def Reg.SAF_STAT_SPA_OK : Fld := ⟨0x2000080000, 4, 1⟩
def Reg.SAF_STAT_STATE : Fld := ⟨0x2000080000, 0, 4⟩
def Reg.SAF_CYCLE_LO : Fld := ⟨0x2000080004, 0, 32⟩
def Reg.SAF_CYCLE_HI : Fld := ⟨0x2000080008, 0, 32⟩
def Reg.SAF_CMD : Fld := ⟨0x200008000C, 0, 32⟩
def Reg.SAF_CMD_KEY : Fld := ⟨0x200008000C, 24, 8⟩
def Reg.SAF_CMD_FUNC : Fld := ⟨0x200008000C, 8, 6⟩
def Reg.SAF_CMD_CMD : Fld := ⟨0x200008000C, 0, 4⟩
def Reg.SAF_CMD_STAT : Fld := ⟨0x2000080010, 0, 32⟩
def Reg.SAF_CMD_STAT_STATUS : Fld := ⟨0x2000080010, 24, 8⟩
def Reg.SAF_CMD_STAT_REASON : Fld := ⟨0x2000080010, 0, 8⟩
def Reg.SAF_TP : Fld := ⟨0x2000080014, 0, 32⟩
def Reg.SAF_TP_CH_FAULT : Fld := ⟨0x2000080014, 16, 16⟩
def Reg.SAF_TP_LINE_FAULT : Fld := ⟨0x2000080014, 8, 8⟩
def Reg.SAF_TP_LINE_EN : Fld := ⟨0x2000080014, 0, 8⟩
def Reg.SAF_DIG (i : Nat) : Fld := ⟨0x2000080020 + 4 * i, 0, 32⟩
def Reg.SAF_FUNC (f : Nat) : Fld := ⟨0x2000080100 + 4 * f, 0, 32⟩
def Reg.SAF_FUNC_STATE (f : Nat) : Fld := ⟨0x2000080100 + 4 * f, 29, 3⟩
def Reg.SAF_FUNC_CHECK (f : Nat) : Fld := ⟨0x2000080100 + 4 * f, 28, 1⟩
def Reg.SAF_FUNC_CAUSE (f : Nat) : Fld := ⟨0x2000080100 + 4 * f, 24, 4⟩
def Reg.SAF_FUNC_REMAIN (f : Nat) : Fld := ⟨0x2000080100 + 4 * f, 0, 13⟩
def Reg.TRP_STAT : Fld := ⟨0x2000090000, 0, 32⟩
def Reg.TRP_STAT_GROUP_SUPPLY : Fld := ⟨0x2000090000, 4, 1⟩
def Reg.TRP_STAT_EXCURSION : Fld := ⟨0x2000090000, 3, 1⟩
def Reg.TRP_STAT_FORCED : Fld := ⟨0x2000090000, 2, 1⟩
def Reg.TRP_STAT_PLANE_B_OK : Fld := ⟨0x2000090000, 1, 1⟩
def Reg.TRP_STAT_PLANE_A_OK : Fld := ⟨0x2000090000, 0, 1⟩
def Reg.TRP_FTI : Fld := ⟨0x2000090004, 0, 32⟩
def Reg.TRP_FTI_LIT : Fld := ⟨0x2000090004, 0, 8⟩
def Reg.TRP_ITT_LO : Fld := ⟨0x2000090008, 0, 32⟩
def Reg.TRP_ITT_HI : Fld := ⟨0x200009000C, 0, 32⟩
def Reg.TRP_PROD : Fld := ⟨0x2000090010, 0, 32⟩
def Reg.TRP_SINK : Fld := ⟨0x2000090014, 0, 32⟩
def Reg.TRP_SINK_LATCHED : Fld := ⟨0x2000090014, 16, 16⟩
def Reg.TRP_SINK_TRIPPED : Fld := ⟨0x2000090014, 0, 16⟩
def Reg.TRP_REQ : Fld := ⟨0x2000090018, 0, 32⟩
def Reg.TRP_REQ_REQ : Fld := ⟨0x2000090018, 0, 8⟩
def Reg.TRP_FIRST : Fld := ⟨0x200009001C, 0, 32⟩
def Reg.TRP_FIRST_VALID : Fld := ⟨0x200009001C, 31, 1⟩
def Reg.TRP_FIRST_NO_PRODUCT : Fld := ⟨0x200009001C, 21, 1⟩
def Reg.TRP_FIRST_FORCED : Fld := ⟨0x200009001C, 20, 1⟩
def Reg.TRP_FIRST_SINK : Fld := ⟨0x200009001C, 16, 4⟩
def Reg.TRP_FIRST_PRODUCT : Fld := ⟨0x200009001C, 8, 5⟩
def Reg.TRP_FIRST_FTI : Fld := ⟨0x200009001C, 0, 8⟩
def Reg.TRP_FIRST_FRC_LO : Fld := ⟨0x2000090020, 0, 32⟩
def Reg.TRP_FIRST_FRC_HI : Fld := ⟨0x2000090024, 0, 32⟩
def Reg.TRP_FIRST_ITT_LO : Fld := ⟨0x2000090028, 0, 32⟩
def Reg.TRP_FIRST_ITT_HI : Fld := ⟨0x200009002C, 0, 32⟩
def Reg.TRP_CNT : Fld := ⟨0x2000090030, 0, 32⟩
def Reg.TRP_DARK : Fld := ⟨0x2000090034, 0, 32⟩
def Reg.TRP_DARK_FAILED : Fld := ⟨0x2000090034, 8, 8⟩
def Reg.TRP_DARK_ENABLED : Fld := ⟨0x2000090034, 0, 8⟩

/-! ### ISL, digital (spec file 11) -/

def Reg.ISL_STAT (k : Nat) : Fld := ⟨0x20000A0000 + 4096 * k, 0, 32⟩
def Reg.ISL_STAT_SAFETY_OWNED (k : Nat) : Fld := ⟨0x20000A0000 + 4096 * k, 11, 1⟩
def Reg.ISL_STAT_AUTO_RESTORE (k : Nat) : Fld := ⟨0x20000A0000 + 4096 * k, 10, 1⟩
def Reg.ISL_STAT_GROUP_OVL (k : Nat) : Fld := ⟨0x20000A0000 + 4096 * k, 9, 1⟩
def Reg.ISL_STAT_RESTORE_READY (k : Nat) : Fld := ⟨0x20000A0000 + 4096 * k, 8, 1⟩
def Reg.ISL_STAT_SAG_OFF (k : Nat) : Fld := ⟨0x20000A0000 + 4096 * k, 7, 1⟩
def Reg.ISL_STAT_SAG_WARN (k : Nat) : Fld := ⟨0x20000A0000 + 4096 * k, 6, 1⟩
def Reg.ISL_STAT_KILLED (k : Nat) : Fld := ⟨0x20000A0000 + 4096 * k, 5, 1⟩
def Reg.ISL_STAT_FAIL_STATE (k : Nat) : Fld := ⟨0x20000A0000 + 4096 * k, 4, 1⟩
def Reg.ISL_STAT_CFG_OK (k : Nat) : Fld := ⟨0x20000A0000 + 4096 * k, 3, 1⟩
def Reg.ISL_STAT_BARRIER_FAULT (k : Nat) : Fld := ⟨0x20000A0000 + 4096 * k, 2, 1⟩
def Reg.ISL_SUPPLY (k : Nat) : Fld := ⟨0x20000A0004 + 4096 * k, 0, 32⟩
def Reg.ISL_SUPPLY_MIN (k : Nat) : Fld := ⟨0x20000A0004 + 4096 * k, 16, 16⟩
def Reg.ISL_SUPPLY_NOW (k : Nat) : Fld := ⟨0x20000A0004 + 4096 * k, 0, 16⟩
def Reg.ISL_CMD (k : Nat) : Fld := ⟨0x20000A0008 + 4096 * k, 0, 32⟩
def Reg.ISL_CMD_KEY (k : Nat) : Fld := ⟨0x20000A0008 + 4096 * k, 24, 8⟩
def Reg.ISL_CMD_CMD (k : Nat) : Fld := ⟨0x20000A0008 + 4096 * k, 0, 4⟩
def Reg.ISL_CMD_STAT (k : Nat) : Fld := ⟨0x20000A000C + 4096 * k, 0, 32⟩
def Reg.ISL_CMD_STAT_STATUS (k : Nat) : Fld := ⟨0x20000A000C + 4096 * k, 24, 8⟩
def Reg.ISL_CMD_STAT_REASON (k : Nat) : Fld := ⟨0x20000A000C + 4096 * k, 0, 8⟩
def Reg.ISL_LINK (k : Nat) : Fld := ⟨0x20000A0010 + 4096 * k, 0, 32⟩
def Reg.ISL_LINK_BAD (k : Nat) : Fld := ⟨0x20000A0010 + 4096 * k, 16, 16⟩
def Reg.ISL_LINK_FAULTS (k : Nat) : Fld := ⟨0x20000A0010 + 4096 * k, 0, 16⟩
def Reg.ISL_CH_STAT (k c : Nat) : Fld := ⟨0x20000A0100 + 4096 * k + 16 * c, 0, 32⟩
def Reg.ISL_CH_STAT_PERS (k c : Nat) : Fld := ⟨0x20000A0100 + 4096 * k + 16 * c, 28, 4⟩
def Reg.ISL_CH_STAT_QUAL (k c : Nat) : Fld := ⟨0x20000A0100 + 4096 * k + 16 * c, 22, 2⟩
def Reg.ISL_CH_STAT_FLAGS (k c : Nat) : Fld := ⟨0x20000A0100 + 4096 * k + 16 * c, 0, 8⟩
def Reg.ISL_CH_VAL (k c : Nat) : Fld := ⟨0x20000A0104 + 4096 * k + 16 * c, 0, 32⟩
def Reg.ISL_CH_CNT (k c : Nat) : Fld := ⟨0x20000A0108 + 4096 * k + 16 * c, 0, 32⟩
def Reg.ISL_CH_CNT_OVERLOADS (k c : Nat) : Fld := ⟨0x20000A0108 + 4096 * k + 16 * c, 16, 16⟩
def Reg.ISL_CH_CNT_BREAKS (k c : Nat) : Fld := ⟨0x20000A0108 + 4096 * k + 16 * c, 0, 16⟩

/-! ### ISL, analogue (spec file 12) -/

def Reg.ISL_AN_STAT (k c : Nat) : Fld := ⟨0x20000A0200 + 4096 * k + 64 * c, 0, 32⟩
def Reg.ISL_AN_STAT_CLAMPED (k c : Nat) : Fld := ⟨0x20000A0200 + 4096 * k + 64 * c, 23, 1⟩
def Reg.ISL_AN_STAT_FLOOR (k c : Nat) : Fld := ⟨0x20000A0200 + 4096 * k + 64 * c, 22, 1⟩
def Reg.ISL_AN_STAT_READBACK (k c : Nat) : Fld := ⟨0x20000A0200 + 4096 * k + 64 * c, 21, 1⟩
def Reg.ISL_AN_STAT_COMP_FAULT (k c : Nat) : Fld := ⟨0x20000A0200 + 4096 * k + 64 * c, 20, 1⟩
def Reg.ISL_AN_STAT_COMPLIANCE (k c : Nat) : Fld := ⟨0x20000A0200 + 4096 * k + 64 * c, 19, 1⟩
def Reg.ISL_AN_STAT_AT_LIMIT (k c : Nat) : Fld := ⟨0x20000A0200 + 4096 * k + 64 * c, 18, 1⟩
def Reg.ISL_AN_STAT_THERMAL (k c : Nat) : Fld := ⟨0x20000A0200 + 4096 * k + 64 * c, 17, 1⟩
def Reg.ISL_AN_STAT_OPEN (k c : Nat) : Fld := ⟨0x20000A0200 + 4096 * k + 64 * c, 16, 1⟩
def Reg.ISL_AN_STAT_KEY_SESSION (k c : Nat) : Fld := ⟨0x20000A0200 + 4096 * k + 64 * c, 10, 1⟩
def Reg.ISL_AN_STAT_TX_OVERLOAD (k c : Nat) : Fld := ⟨0x20000A0200 + 4096 * k + 64 * c, 9, 1⟩
def Reg.ISL_AN_STAT_OUT_OF_RANGE (k c : Nat) : Fld := ⟨0x20000A0200 + 4096 * k + 64 * c, 8, 1⟩
def Reg.ISL_AN_STAT_HIGH_FAULT (k c : Nat) : Fld := ⟨0x20000A0200 + 4096 * k + 64 * c, 7, 1⟩
def Reg.ISL_AN_STAT_LOW_FAULT (k c : Nat) : Fld := ⟨0x20000A0200 + 4096 * k + 64 * c, 6, 1⟩
def Reg.ISL_AN_MEAS (k c : Nat) : Fld := ⟨0x20000A0204 + 4096 * k + 64 * c, 0, 32⟩
def Reg.ISL_AN_TRIM (k c : Nat) : Fld := ⟨0x20000A0208 + 4096 * k + 64 * c, 0, 32⟩
def Reg.ISL_AN_TRIM_SPAN (k c : Nat) : Fld := ⟨0x20000A0208 + 4096 * k + 64 * c, 16, 16⟩
def Reg.ISL_AN_TRIM_ZERO (k c : Nat) : Fld := ⟨0x20000A0208 + 4096 * k + 64 * c, 0, 16⟩
def Reg.ISL_AN_DIAG (k c : Nat) : Fld := ⟨0x20000A020C + 4096 * k + 64 * c, 0, 32⟩
def Reg.ISL_AN_DIAG_VTERM (k c : Nat) : Fld := ⟨0x20000A020C + 4096 * k + 64 * c, 16, 16⟩
def Reg.ISL_AN_DIAG_TEMP (k c : Nat) : Fld := ⟨0x20000A020C + 4096 * k + 64 * c, 0, 16⟩

/-! ### CAN (spec file 13) -/

def Reg.CAN_GSTAT : Fld := ⟨0x20000B0000, 0, 32⟩
def Reg.CAN_GSTAT_BUS_OFF : Fld := ⟨0x20000B0000, 8, 8⟩
def Reg.CAN_GSTAT_ACTIVE : Fld := ⟨0x20000B0000, 0, 8⟩
def Reg.CAN_STAT (c : Nat) : Fld := ⟨0x20000B1000 + 4096 * c, 0, 32⟩
def Reg.CAN_STAT_ERR_STATE (c : Nat) : Fld := ⟨0x20000B1000 + 4096 * c, 8, 2⟩
def Reg.CAN_STAT_TT_RUN (c : Nat) : Fld := ⟨0x20000B1000 + 4096 * c, 7, 1⟩
def Reg.CAN_STAT_HP_PEND (c : Nat) : Fld := ⟨0x20000B1000 + 4096 * c, 6, 1⟩
def Reg.CAN_STAT_STATE (c : Nat) : Fld := ⟨0x20000B1000 + 4096 * c, 0, 3⟩
def Reg.CAN_ERRCNT (c : Nat) : Fld := ⟨0x20000B1004 + 4096 * c, 0, 32⟩
def Reg.CAN_ERRCNT_TEC (c : Nat) : Fld := ⟨0x20000B1004 + 4096 * c, 16, 9⟩
def Reg.CAN_ERRCNT_REC (c : Nat) : Fld := ⟨0x20000B1004 + 4096 * c, 0, 8⟩
def Reg.CAN_CMD (c : Nat) : Fld := ⟨0x20000B1008 + 4096 * c, 0, 32⟩
def Reg.CAN_CMD_KEY (c : Nat) : Fld := ⟨0x20000B1008 + 4096 * c, 24, 8⟩
def Reg.CAN_CMD_CMD (c : Nat) : Fld := ⟨0x20000B1008 + 4096 * c, 0, 4⟩
def Reg.CAN_CMD_STAT (c : Nat) : Fld := ⟨0x20000B100C + 4096 * c, 0, 32⟩
def Reg.CAN_CMD_STAT_STATUS (c : Nat) : Fld := ⟨0x20000B100C + 4096 * c, 24, 8⟩
def Reg.CAN_CMD_STAT_REASON (c : Nat) : Fld := ⟨0x20000B100C + 4096 * c, 0, 8⟩
def Reg.CAN_LOST (c : Nat) : Fld := ⟨0x20000B1010 + 4096 * c, 0, 32⟩
def Reg.CAN_LOST_FILT_MISS (c : Nat) : Fld := ⟨0x20000B1010 + 4096 * c, 16, 16⟩
def Reg.CAN_LOST_RX_LOST (c : Nat) : Fld := ⟨0x20000B1010 + 4096 * c, 0, 16⟩
def Reg.CAN_ERRFRM (c : Nat) : Fld := ⟨0x20000B1014 + 4096 * c, 0, 32⟩
def Reg.CAN_ERRFRM_BUS_OFFS (c : Nat) : Fld := ⟨0x20000B1014 + 4096 * c, 16, 16⟩
def Reg.CAN_ERRFRM_ERRORS (c : Nat) : Fld := ⟨0x20000B1014 + 4096 * c, 0, 16⟩
def Reg.CAN_TT (c : Nat) : Fld := ⟨0x20000B1018 + 4096 * c, 0, 32⟩
def Reg.CAN_TT_BASIC (c : Nat) : Fld := ⟨0x20000B1018 + 4096 * c, 24, 4⟩
def Reg.CAN_TT_WINDOW (c : Nat) : Fld := ⟨0x20000B1018 + 4096 * c, 16, 6⟩
def Reg.CAN_TT_MISSED (c : Nat) : Fld := ⟨0x20000B1018 + 4096 * c, 0, 16⟩
def Reg.CAN_HP_STAT (c : Nat) : Fld := ⟨0x20000B101C + 4096 * c, 0, 32⟩
def Reg.CAN_HP_STAT_HP_LOST (c : Nat) : Fld := ⟨0x20000B101C + 4096 * c, 16, 16⟩
def Reg.CAN_HP_STAT_HEAD (c : Nat) : Fld := ⟨0x20000B101C + 4096 * c, 4, 2⟩
def Reg.CAN_HP_STAT_COUNT (c : Nat) : Fld := ⟨0x20000B101C + 4096 * c, 0, 3⟩
def Reg.CAN_HP_ACK (c : Nat) : Fld := ⟨0x20000B1020 + 4096 * c, 0, 32⟩
def Reg.CAN_HP_ACK_ACK (c : Nat) : Fld := ⟨0x20000B1020 + 4096 * c, 0, 1⟩
def Reg.CAN_NBT (c : Nat) : Fld := ⟨0x20000B1024 + 4096 * c, 0, 32⟩
def Reg.CAN_NBT_BRP (c : Nat) : Fld := ⟨0x20000B1024 + 4096 * c, 24, 8⟩
def Reg.CAN_NBT_TSEG1 (c : Nat) : Fld := ⟨0x20000B1024 + 4096 * c, 16, 8⟩
def Reg.CAN_NBT_TSEG2 (c : Nat) : Fld := ⟨0x20000B1024 + 4096 * c, 8, 8⟩
def Reg.CAN_NBT_SJW (c : Nat) : Fld := ⟨0x20000B1024 + 4096 * c, 0, 8⟩
def Reg.CAN_DBT (c : Nat) : Fld := ⟨0x20000B1028 + 4096 * c, 0, 32⟩
def Reg.CAN_DBT_BRP (c : Nat) : Fld := ⟨0x20000B1028 + 4096 * c, 28, 4⟩
def Reg.CAN_DBT_TSEG1 (c : Nat) : Fld := ⟨0x20000B1028 + 4096 * c, 22, 6⟩
def Reg.CAN_DBT_TSEG2 (c : Nat) : Fld := ⟨0x20000B1028 + 4096 * c, 17, 5⟩
def Reg.CAN_DBT_SJW (c : Nat) : Fld := ⟨0x20000B1028 + 4096 * c, 12, 5⟩
def Reg.CAN_DBT_TDCO (c : Nat) : Fld := ⟨0x20000B1028 + 4096 * c, 0, 9⟩
def Reg.CAN_FLT_ID (c f : Nat) : Fld := ⟨0x20000B1100 + 4096 * c + 8 * f, 0, 32⟩
def Reg.CAN_FLT_ID_ENABLE (c f : Nat) : Fld := ⟨0x20000B1100 + 4096 * c + 8 * f, 31, 1⟩
def Reg.CAN_FLT_ID_IDE (c f : Nat) : Fld := ⟨0x20000B1100 + 4096 * c + 8 * f, 30, 1⟩
def Reg.CAN_FLT_ID_ID (c f : Nat) : Fld := ⟨0x20000B1100 + 4096 * c + 8 * f, 0, 29⟩
def Reg.CAN_FLT_MASK (c f : Nat) : Fld := ⟨0x20000B1104 + 4096 * c + 8 * f, 0, 32⟩
def Reg.CAN_FLT_MASK_MASK (c f : Nat) : Fld := ⟨0x20000B1104 + 4096 * c + 8 * f, 0, 29⟩
def Reg.CAN_HP_SLOT (c s w : Nat) : Fld := ⟨0x20000B1800 + 4096 * c + 128 * s + 4 * w, 0, 32⟩

/-! ### ETH and TIM (spec file 14) -/

def Reg.TIM_STAT : Fld := ⟨0x20000D0000, 0, 32⟩
def Reg.TIM_STAT_C2_VALID : Fld := ⟨0x20000D0000, 23, 1⟩
def Reg.TIM_STAT_C2_SLEWING : Fld := ⟨0x20000D0000, 22, 1⟩
def Reg.TIM_STAT_C2_HOLDOVER : Fld := ⟨0x20000D0000, 21, 1⟩
def Reg.TIM_STAT_C1_VALID : Fld := ⟨0x20000D0000, 19, 1⟩
def Reg.TIM_STAT_C1_SLEWING : Fld := ⟨0x20000D0000, 18, 1⟩
def Reg.TIM_STAT_DISAGREE : Fld := ⟨0x20000D0000, 17, 1⟩
def Reg.TIM_STAT_PPS_OK : Fld := ⟨0x20000D0000, 16, 1⟩
def Reg.TIM_STAT_C1_SRC : Fld := ⟨0x20000D0000, 8, 2⟩
def Reg.TIM_STAT_DOM_B : Fld := ⟨0x20000D0000, 4, 3⟩
def Reg.TIM_STAT_DOM_A : Fld := ⟨0x20000D0000, 0, 3⟩
def Reg.TIM_FRC_LO : Fld := ⟨0x20000D0004, 0, 32⟩
def Reg.TIM_FRC_HI : Fld := ⟨0x20000D0008, 0, 32⟩
def Reg.TIM_C1_SEC_LO : Fld := ⟨0x20000D0010, 0, 32⟩
def Reg.TIM_C1_SEC_HI : Fld := ⟨0x20000D0014, 0, 32⟩
def Reg.TIM_C1_NS : Fld := ⟨0x20000D0018, 0, 32⟩
def Reg.TIM_C1_NS_NS : Fld := ⟨0x20000D0018, 0, 30⟩
def Reg.TIM_C1_CONT : Fld := ⟨0x20000D001C, 0, 32⟩
def Reg.TIM_CMD : Fld := ⟨0x20000D0030, 0, 32⟩
def Reg.TIM_CMD_KEY : Fld := ⟨0x20000D0030, 24, 8⟩
def Reg.TIM_CMD_CMD : Fld := ⟨0x20000D0030, 0, 4⟩
def Reg.TIM_CMD_STAT : Fld := ⟨0x20000D0034, 0, 32⟩
def Reg.TIM_CMD_STAT_STATUS : Fld := ⟨0x20000D0034, 24, 8⟩
def Reg.TIM_CMD_STAT_REASON : Fld := ⟨0x20000D0034, 0, 8⟩
def Reg.TIM_PPS : Fld := ⟨0x20000D0038, 0, 32⟩
def Reg.TIM_DOM_STAT (d : Nat) : Fld := ⟨0x20000D0100 + 64 * d, 0, 32⟩
def Reg.TIM_DOM_STAT_GM_CLASS (d : Nat) : Fld := ⟨0x20000D0100 + 64 * d, 24, 8⟩
def Reg.TIM_DOM_STAT_STEPS (d : Nat) : Fld := ⟨0x20000D0100 + 64 * d, 16, 8⟩
def Reg.TIM_DOM_STAT_LOG_SYNC (d : Nat) : Fld := ⟨0x20000D0100 + 64 * d, 8, 8⟩
def Reg.TIM_DOM_STAT_STATE (d : Nat) : Fld := ⟨0x20000D0100 + 64 * d, 0, 3⟩
def Reg.TIM_DOM_RATE (d : Nat) : Fld := ⟨0x20000D0104 + 64 * d, 0, 32⟩
def Reg.TIM_DOM_OFS_LO (d : Nat) : Fld := ⟨0x20000D0108 + 64 * d, 0, 32⟩
def Reg.TIM_DOM_OFS_HI (d : Nat) : Fld := ⟨0x20000D010C + 64 * d, 0, 32⟩
def Reg.TIM_DOM_MEAS (d : Nat) : Fld := ⟨0x20000D0110 + 64 * d, 0, 32⟩
def Reg.TIM_DOM_DELAY (d : Nat) : Fld := ⟨0x20000D0114 + 64 * d, 0, 32⟩
def Reg.TIM_DOM_GM_LO (d : Nat) : Fld := ⟨0x20000D0118 + 64 * d, 0, 32⟩
def Reg.TIM_DOM_GM_HI (d : Nat) : Fld := ⟨0x20000D011C + 64 * d, 0, 32⟩
def Reg.ETH_STAT : Fld := ⟨0x20000C0000, 0, 32⟩
def Reg.ETH_STAT_JOINED : Fld := ⟨0x20000C0000, 8, 6⟩
def Reg.ETH_STAT_LINK : Fld := ⟨0x20000C0000, 0, 6⟩
def Reg.ETH_MAINT : Fld := ⟨0x20000C0004, 0, 32⟩
def Reg.ETH_MAINT_KEY : Fld := ⟨0x20000C0004, 24, 8⟩
def Reg.ETH_MAINT_SECONDS : Fld := ⟨0x20000C0004, 0, 12⟩
def Reg.ETH_RXCNT (p : Nat) : Fld := ⟨0x20000C1000 + 4096 * p, 0, 32⟩
def Reg.ETH_RXCNT_FILTERED (p : Nat) : Fld := ⟨0x20000C1000 + 4096 * p, 16, 16⟩
def Reg.ETH_RXCNT_RX_LOST (p : Nat) : Fld := ⟨0x20000C1000 + 4096 * p, 0, 16⟩
def Reg.ETH_ERRCNT (p : Nat) : Fld := ⟨0x20000C1004 + 4096 * p, 0, 32⟩
def Reg.ETH_ERRCNT_ERRORS (p : Nat) : Fld := ⟨0x20000C1004 + 4096 * p, 16, 16⟩
def Reg.ETH_ERRCNT_LIMITED (p : Nat) : Fld := ⟨0x20000C1004 + 4096 * p, 0, 16⟩
def Reg.ETH_NAVCNT (p : Nat) : Fld := ⟨0x20000C1008 + 4096 * p, 0, 32⟩
def Reg.ETH_NAVCNT_OTHER_TOKEN (p : Nat) : Fld := ⟨0x20000C1008 + 4096 * p, 16, 16⟩
def Reg.ETH_NAVCNT_BAD (p : Nat) : Fld := ⟨0x20000C1008 + 4096 * p, 0, 16⟩

/-! ### SER and RIO (spec file 15) -/

def Reg.SER_STAT (p : Nat) : Fld := ⟨0x20000E1000 + 4096 * p, 0, 32⟩
def Reg.SER_STAT_TX_BUSY (p : Nat) : Fld := ⟨0x20000E1000 + 4096 * p, 4, 1⟩
def Reg.SER_STAT_DRIVER (p : Nat) : Fld := ⟨0x20000E1000 + 4096 * p, 3, 1⟩
def Reg.SER_STAT_MODE (p : Nat) : Fld := ⟨0x20000E1000 + 4096 * p, 0, 3⟩
def Reg.SER_ERR (p : Nat) : Fld := ⟨0x20000E1004 + 4096 * p, 0, 32⟩
def Reg.SER_ERR_ERRORS (p : Nat) : Fld := ⟨0x20000E1004 + 4096 * p, 16, 16⟩
def Reg.SER_ERR_RX_LOST (p : Nat) : Fld := ⟨0x20000E1004 + 4096 * p, 0, 16⟩
def Reg.SER_BAUD (p : Nat) : Fld := ⟨0x20000E1008 + 4096 * p, 0, 32⟩
def Reg.RIO_LINK_STAT (l : Nat) : Fld := ⟨0x20000F1000 + 4096 * l, 0, 32⟩
def Reg.RIO_LINK_STAT_OPER (l : Nat) : Fld := ⟨0x20000F1000 + 4096 * l, 8, 6⟩
def Reg.RIO_LINK_STAT_LINK_UP (l : Nat) : Fld := ⟨0x20000F1000 + 4096 * l, 3, 1⟩
def Reg.RIO_LINK_STAT_STATE (l : Nat) : Fld := ⟨0x20000F1000 + 4096 * l, 0, 3⟩
def Reg.RIO_CNT (l : Nat) : Fld := ⟨0x20000F1004 + 4096 * l, 0, 32⟩
def Reg.RIO_CNT_LATE (l : Nat) : Fld := ⟨0x20000F1004 + 4096 * l, 16, 16⟩
def Reg.RIO_CNT_BAD (l : Nat) : Fld := ⟨0x20000F1004 + 4096 * l, 0, 16⟩
def Reg.RIO_RTT (l : Nat) : Fld := ⟨0x20000F1008 + 4096 * l, 0, 32⟩
def Reg.RIO_OUTMAP (l : Nat) : Fld := ⟨0x20000F100C + 4096 * l, 0, 32⟩
def Reg.RIO_ST (l a : Nat) : Fld := ⟨0x20000F1100 + 4096 * l + 4 * a, 0, 32⟩
def Reg.RIO_ST_DIAG (l a : Nat) : Fld := ⟨0x20000F1100 + 4096 * l + 4 * a, 24, 8⟩
def Reg.RIO_ST_MISSES (l a : Nat) : Fld := ⟨0x20000F1100 + 4096 * l + 4 * a, 8, 4⟩
def Reg.RIO_ST_FAILSAFE (l a : Nat) : Fld := ⟨0x20000F1100 + 4096 * l + 4 * a, 3, 1⟩
def Reg.RIO_ST_STATE (l a : Nat) : Fld := ⟨0x20000F1100 + 4096 * l + 4 * a, 0, 3⟩
def Reg.RIO_ID (l a w : Nat) : Fld := ⟨0x20000F1400 + 4096 * l + 16 * a + 4 * w, 0, 32⟩

/-! ### PGN and QUE (spec file 16) -/

def Reg.PGN_CH_STAT (ch : Nat) : Fld := ⟨0x2000101000 + 256 * ch, 0, 32⟩
def Reg.PGN_CH_STAT_LAST (ch : Nat) : Fld := ⟨0x2000101000 + 256 * ch, 24, 8⟩
def Reg.PGN_CH_STAT_IRQ_EN (ch : Nat) : Fld := ⟨0x2000101000 + 256 * ch, 17, 1⟩
def Reg.PGN_CH_STAT_TIMEOUT (ch : Nat) : Fld := ⟨0x2000101000 + 256 * ch, 16, 1⟩
def Reg.PGN_CH_STAT_DEPTH (ch : Nat) : Fld := ⟨0x2000101000 + 256 * ch, 8, 5⟩
def Reg.PGN_CH_STAT_COUNT (ch : Nat) : Fld := ⟨0x2000101000 + 256 * ch, 0, 5⟩
def Reg.PGN_CH_CNT (ch : Nat) : Fld := ⟨0x2000101004 + 256 * ch, 0, 32⟩
def Reg.PGN_CH_CNT_REJECTS (ch : Nat) : Fld := ⟨0x2000101004 + 256 * ch, 16, 16⟩
def Reg.PGN_CH_CNT_WITHDRAWN (ch : Nat) : Fld := ⟨0x2000101004 + 256 * ch, 0, 5⟩
def Reg.PGN_TX_PARAM (ch : Nat) : Fld := ⟨0x2000101008 + 256 * ch, 0, 32⟩
def Reg.PGN_TX_POST (ch : Nat) : Fld := ⟨0x200010100C + 256 * ch, 0, 32⟩
def Reg.PGN_TX_POST_KIND (ch : Nat) : Fld := ⟨0x200010100C + 256 * ch, 8, 8⟩
def Reg.PGN_TX_POST_LEN (ch : Nat) : Fld := ⟨0x200010100C + 256 * ch, 0, 8⟩
def Reg.PGN_TX_CMD (ch : Nat) : Fld := ⟨0x2000101010 + 256 * ch, 0, 32⟩
def Reg.PGN_TX_CMD_KEY (ch : Nat) : Fld := ⟨0x2000101010 + 256 * ch, 24, 8⟩
def Reg.PGN_TX_CMD_CMD (ch : Nat) : Fld := ⟨0x2000101010 + 256 * ch, 0, 4⟩
def Reg.PGN_RX_HDR (ch : Nat) : Fld := ⟨0x2000101014 + 256 * ch, 0, 32⟩
def Reg.PGN_RX_HDR_VALID (ch : Nat) : Fld := ⟨0x2000101014 + 256 * ch, 31, 1⟩
def Reg.PGN_RX_HDR_LEN (ch : Nat) : Fld := ⟨0x2000101014 + 256 * ch, 16, 7⟩
def Reg.PGN_RX_HDR_KIND (ch : Nat) : Fld := ⟨0x2000101014 + 256 * ch, 8, 8⟩
def Reg.PGN_RX_HDR_SEQ (ch : Nat) : Fld := ⟨0x2000101014 + 256 * ch, 0, 8⟩
def Reg.PGN_RX_PARAM (ch : Nat) : Fld := ⟨0x2000101018 + 256 * ch, 0, 32⟩
def Reg.PGN_RX_SEQ (ch : Nat) : Fld := ⟨0x2000101020 + 256 * ch, 0, 32⟩
def Reg.PGN_RX_SEQ_SEQ (ch : Nat) : Fld := ⟨0x2000101020 + 256 * ch, 16, 16⟩
def Reg.PGN_RX_ACK (ch : Nat) : Fld := ⟨0x200010101C + 256 * ch, 0, 32⟩
def Reg.PGN_RX_ACK_ACK (ch : Nat) : Fld := ⟨0x200010101C + 256 * ch, 0, 1⟩
def Reg.PGN_TX_DATA (ch w : Nat) : Fld := ⟨0x2000101040 + 256 * ch + 4 * w, 0, 32⟩
def Reg.PGN_RX_DATA (ch w : Nat) : Fld := ⟨0x2000101080 + 256 * ch + 4 * w, 0, 32⟩
def Reg.QUE_POOL : Fld := ⟨0x2000110000, 0, 32⟩
def Reg.QUE_POOL_USED : Fld := ⟨0x2000110000, 0, 23⟩
def Reg.QUE_CFG (q : Nat) : Fld := ⟨0x2000111000 + 64 * q, 0, 32⟩
def Reg.QUE_CFG_PRODUCER (q : Nat) : Fld := ⟨0x2000111000 + 64 * q, 24, 6⟩
def Reg.QUE_CFG_CONSUMER (q : Nat) : Fld := ⟨0x2000111000 + 64 * q, 16, 6⟩
def Reg.QUE_CFG_ESIZE (q : Nat) : Fld := ⟨0x2000111000 + 64 * q, 12, 4⟩
def Reg.QUE_CFG_DEPTH (q : Nat) : Fld := ⟨0x2000111000 + 64 * q, 8, 4⟩
def Reg.QUE_CFG_ROUND_TRIP (q : Nat) : Fld := ⟨0x2000111000 + 64 * q, 0, 1⟩
def Reg.QUE_ADDR (q : Nat) : Fld := ⟨0x2000111004 + 64 * q, 0, 32⟩
def Reg.QUE_STAT (q : Nat) : Fld := ⟨0x2000111018 + 64 * q, 0, 32⟩
def Reg.QUE_STAT_LAST (q : Nat) : Fld := ⟨0x2000111018 + 64 * q, 24, 8⟩
def Reg.QUE_STAT_IRQ_EN_P (q : Nat) : Fld := ⟨0x2000111018 + 64 * q, 17, 1⟩
def Reg.QUE_STAT_IRQ_EN_C (q : Nat) : Fld := ⟨0x2000111018 + 64 * q, 16, 1⟩
def Reg.QUE_STAT_REJECTS (q : Nat) : Fld := ⟨0x2000111018 + 64 * q, 0, 16⟩

/-! ### GB (spec file 17) -/

def Reg.GB_STAT : Fld := ⟨0x2000120000, 0, 32⟩
def Reg.GB_STAT_SEQ_END : Fld := ⟨0x2000120000, 2, 1⟩
def Reg.GB_STAT_PRE_LOCK : Fld := ⟨0x2000120000, 1, 1⟩
def Reg.GB_STAT_FULL : Fld := ⟨0x2000120000, 0, 1⟩
def Reg.GB_COUNT : Fld := ⟨0x2000120004, 0, 32⟩
def Reg.GB_COUNT_COUNT : Fld := ⟨0x2000120004, 0, 18⟩
def Reg.GB_NEXT_SEQ : Fld := ⟨0x2000120008, 0, 32⟩
def Reg.GB_FIRST_SEQ : Fld := ⟨0x200012000C, 0, 32⟩
def Reg.GB_LOST : Fld := ⟨0x2000120010, 0, 32⟩
def Reg.GB_FIRST_LOST : Fld := ⟨0x2000120014, 0, 32⟩
def Reg.GB_FIRST_LOST_CODE : Fld := ⟨0x2000120014, 0, 16⟩
def Reg.GB_SUPPRESSED : Fld := ⟨0x2000120018, 0, 32⟩
def Reg.GB_CURSOR : Fld := ⟨0x200012001C, 0, 32⟩
def Reg.GB_CMD : Fld := ⟨0x2000120020, 0, 32⟩
def Reg.GB_CMD_KEY : Fld := ⟨0x2000120020, 24, 8⟩
def Reg.GB_CMD_CMD : Fld := ⟨0x2000120020, 0, 4⟩
def Reg.GB_CMD_STAT : Fld := ⟨0x2000120024, 0, 32⟩
def Reg.GB_CMD_STAT_STATUS : Fld := ⟨0x2000120024, 24, 8⟩
def Reg.GB_CMD_STAT_REASON : Fld := ⟨0x2000120024, 0, 8⟩
def Reg.GB_OVERRUN : Fld := ⟨0x2000120028, 0, 32⟩
def Reg.GB_CLASS (c : Nat) : Fld := ⟨0x2000120040 + 4 * c, 0, 32⟩
def Reg.GB_CLASS_TOKENS (c : Nat) : Fld := ⟨0x2000120040 + 4 * c, 16, 16⟩
def Reg.GB_CLASS_SUPP (c : Nat) : Fld := ⟨0x2000120040 + 4 * c, 0, 16⟩
def Reg.GB_WIN (r w : Nat) : Fld := ⟨0x2000120100 + 32 * r + 4 * w, 0, 32⟩

/-! ### RND and WR (spec file 18) -/

def Reg.RND_STAT : Fld := ⟨0x2000130000, 0, 32⟩
def Reg.RND_STAT_ITEM : Fld := ⟨0x2000130000, 24, 8⟩
def Reg.RND_STAT_PROGRESS : Fld := ⟨0x2000130000, 4, 10⟩
def Reg.RND_STAT_LATE : Fld := ⟨0x2000130000, 3, 1⟩
def Reg.RND_STAT_PAUSED : Fld := ⟨0x2000130000, 2, 1⟩
def Reg.RND_STAT_FAILED : Fld := ⟨0x2000130000, 1, 1⟩
def Reg.RND_PASS : Fld := ⟨0x2000130004, 0, 32⟩
def Reg.RND_LAST : Fld := ⟨0x2000130008, 0, 32⟩
def Reg.RND_RATE : Fld := ⟨0x200013000C, 0, 32⟩
def Reg.RND_RATE_USED : Fld := ⟨0x200013000C, 0, 20⟩
def Reg.RND_LAPSED : Fld := ⟨0x2000130010, 0, 32⟩
def Reg.RND_CTRL : Fld := ⟨0x2000130014, 0, 32⟩
def Reg.RND_CTRL_LIMIT_H : Fld := ⟨0x2000130014, 0, 16⟩
def Reg.RND_ITEM (i : Nat) : Fld := ⟨0x2000130100 + 8 * i, 0, 32⟩
def Reg.RND_ITEM_STATE (i : Nat) : Fld := ⟨0x2000130100 + 8 * i, 30, 2⟩
def Reg.RND_ITEM_COVERAGE (i : Nat) : Fld := ⟨0x2000130100 + 8 * i, 16, 7⟩
def Reg.RND_ITEM_FAILS (i : Nat) : Fld := ⟨0x2000130100 + 8 * i, 0, 16⟩
def Reg.RND_ITEM_T (i : Nat) : Fld := ⟨0x2000130104 + 8 * i, 0, 32⟩
def Reg.WR_CTRL : Fld := ⟨0x2000140000, 0, 32⟩
def Reg.WR_CTRL_WARN_H : Fld := ⟨0x2000140000, 0, 16⟩
def Reg.WR_STAT : Fld := ⟨0x2000140004, 0, 32⟩
def Reg.WR_STAT_WARN : Fld := ⟨0x2000140004, 16, 16⟩
def Reg.WR_STAT_EOL : Fld := ⟨0x2000140004, 0, 16⟩
def Reg.WR_Q_LO (i : Nat) : Fld := ⟨0x2000141000 + 16 * i, 0, 32⟩
def Reg.WR_Q_HI (i : Nat) : Fld := ⟨0x2000141004 + 16 * i, 0, 32⟩
def Reg.WR_REMAIN (i : Nat) : Fld := ⟨0x2000141008 + 16 * i, 0, 32⟩
def Reg.WR_INFO (i : Nat) : Fld := ⟨0x200014100C + 16 * i, 0, 32⟩
def Reg.WR_INFO_STATE (i : Nat) : Fld := ⟨0x200014100C + 16 * i, 30, 2⟩
def Reg.WR_INFO_WARN (i : Nat) : Fld := ⟨0x200014100C + 16 * i, 29, 1⟩
def Reg.WR_INFO_SAMPLES (i : Nat) : Fld := ⟨0x200014100C + 16 * i, 0, 7⟩

/-! ### ANX (spec file 19) -/

def Reg.ANX_STAT : Fld := ⟨0x2000150000, 0, 32⟩
def Reg.ANX_STAT_STATUS_LOST : Fld := ⟨0x2000150000, 8, 1⟩
def Reg.ANX_STAT_WRITE_SW : Fld := ⟨0x2000150000, 7, 1⟩
def Reg.ANX_STAT_SGB_FULL : Fld := ⟨0x2000150000, 6, 1⟩
def Reg.ANX_STAT_CLOSED : Fld := ⟨0x2000150000, 5, 1⟩
def Reg.ANX_STAT_IF_MISMATCH : Fld := ⟨0x2000150000, 4, 1⟩
def Reg.ANX_STAT_ID_VALID : Fld := ⟨0x2000150000, 3, 1⟩
def Reg.ANX_STAT_STATE : Fld := ⟨0x2000150000, 0, 3⟩
def Reg.ANX_DISC : Fld := ⟨0x2000150004, 0, 32⟩
def Reg.ANX_ID : Fld := ⟨0x2000150008, 0, 32⟩
def Reg.ANX_SERIAL : Fld := ⟨0x200015000C, 0, 32⟩
def Reg.ANX_SGB : Fld := ⟨0x2000150010, 0, 32⟩
def Reg.ANX_SGB_PSET : Fld := ⟨0x2000150010, 16, 16⟩
def Reg.ANX_SGB_COUNT : Fld := ⟨0x2000150010, 0, 14⟩
def Reg.ANX_SWCHK (i : Nat) : Fld := ⟨0x2000150020 + 4 * i, 0, 32⟩
def Reg.ANX_IFHASH (i : Nat) : Fld := ⟨0x2000150040 + 4 * i, 0, 32⟩
def Reg.ANX_MON_LO (l : Nat) : Fld := ⟨0x2000150100 + 8 * l, 0, 32⟩
def Reg.ANX_MON_HI (l : Nat) : Fld := ⟨0x2000150104 + 8 * l, 0, 32⟩

/-! ### NB (spec file 20) -/

def Reg.NB_STAT : Fld := ⟨0x2000160000, 0, 32⟩
def Reg.NB_STAT_OUT_OF_BAND : Fld := ⟨0x2000160000, 11, 1⟩
def Reg.NB_STAT_REFRESH_DUE : Fld := ⟨0x2000160000, 10, 1⟩
def Reg.NB_STAT_BAL_DUE : Fld := ⟨0x2000160000, 9, 1⟩
def Reg.NB_STAT_CLEANED : Fld := ⟨0x2000160000, 8, 1⟩
def Reg.NB_STAT_LIGHT : Fld := ⟨0x2000160000, 7, 1⟩
def Reg.NB_STAT_DIRTY : Fld := ⟨0x2000160000, 6, 1⟩
def Reg.NB_STAT_RAILS_UP : Fld := ⟨0x2000160000, 5, 1⟩
def Reg.NB_STAT_STATE : Fld := ⟨0x2000160000, 0, 3⟩
def Reg.NB_TEMP : Fld := ⟨0x2000160004, 0, 32⟩
def Reg.NB_TEMP_BAND_REF : Fld := ⟨0x2000160004, 28, 4⟩
def Reg.NB_TEMP_BAND : Fld := ⟨0x2000160004, 20, 4⟩
def Reg.NB_TEMP_TEMP : Fld := ⟨0x2000160004, 0, 16⟩
def Reg.NB_LIGHT : Fld := ⟨0x2000160008, 0, 32⟩
def Reg.NB_LIGHT_KEY : Fld := ⟨0x2000160008, 24, 8⟩
def Reg.NB_LIGHT_ON : Fld := ⟨0x2000160008, 8, 1⟩
def Reg.NB_LIGHT_LEVEL : Fld := ⟨0x2000160008, 0, 8⟩
def Reg.NB_CMD : Fld := ⟨0x200016000C, 0, 32⟩
def Reg.NB_CMD_KEY : Fld := ⟨0x200016000C, 24, 8⟩
def Reg.NB_CMD_CMD : Fld := ⟨0x200016000C, 0, 4⟩
def Reg.NB_CMD_STAT : Fld := ⟨0x2000160010, 0, 32⟩
def Reg.NB_CMD_STAT_STATUS : Fld := ⟨0x2000160010, 24, 8⟩
def Reg.NB_CMD_STAT_REASON : Fld := ⟨0x2000160010, 0, 8⟩
def Reg.NB_FRAMES_LO : Fld := ⟨0x2000160014, 0, 32⟩
def Reg.NB_FRAMES_HI : Fld := ⟨0x2000160018, 0, 32⟩
def Reg.NB_LEDGER : Fld := ⟨0x200016001C, 0, 32⟩
def Reg.NB_LEDGER_DUE : Fld := ⟨0x200016001C, 16, 16⟩
def Reg.NB_LEDGER_MAX : Fld := ⟨0x200016001C, 0, 16⟩
def Reg.NB_ABORT : Fld := ⟨0x2000160020, 0, 32⟩
def Reg.NB_ABORT_COUNT : Fld := ⟨0x2000160020, 16, 16⟩
def Reg.NB_ABORT_FI : Fld := ⟨0x2000160020, 0, 16⟩
def Reg.NB_RAIL : Fld := ⟨0x2000160024, 0, 32⟩
def Reg.NB_RAIL_FAILED : Fld := ⟨0x2000160024, 24, 5⟩
def Reg.NB_RAIL_FAULTS : Fld := ⟨0x2000160024, 0, 16⟩
def Reg.NB_PIX_SEL : Fld := ⟨0x2000160028, 0, 32⟩
def Reg.NB_PIX_SEL_Y : Fld := ⟨0x2000160028, 16, 10⟩
def Reg.NB_PIX_SEL_X : Fld := ⟨0x2000160028, 0, 10⟩
def Reg.NB_PIX : Fld := ⟨0x200016002C, 0, 32⟩
def Reg.NB_PIX_LEDGER : Fld := ⟨0x200016002C, 16, 16⟩
def Reg.NB_PIX_LEVEL : Fld := ⟨0x200016002C, 12, 4⟩
def Reg.NB_PIX_PENDING : Fld := ⟨0x200016002C, 8, 4⟩
def Reg.NB_PIX_BAND : Fld := ⟨0x200016002C, 4, 4⟩
def Reg.NB_PIX_RUNNING : Fld := ⟨0x200016002C, 3, 1⟩
def Reg.NB_PIX_PEND_VALID : Fld := ⟨0x200016002C, 2, 1⟩
def Reg.NB_PIX_BAL_DUE : Fld := ⟨0x200016002C, 1, 1⟩
def Reg.NB_PIX_SAT : Fld := ⟨0x200016002C, 0, 1⟩

/-! ### PTR and PWR (spec file 21) -/

def Reg.PWR_STAT : Fld := ⟨0x2000170000, 0, 32⟩
def Reg.PWR_STAT_POS : Fld := ⟨0x2000170000, 14, 2⟩
def Reg.PWR_STAT_ELECT : Fld := ⟨0x2000170000, 8, 4⟩
def Reg.PWR_STAT_SHUTDOWN : Fld := ⟨0x2000170000, 7, 1⟩
def Reg.PWR_STAT_PF_WARN : Fld := ⟨0x2000170000, 6, 1⟩
def Reg.PWR_STAT_DIP : Fld := ⟨0x2000170000, 5, 1⟩
def Reg.PWR_STAT_HOLDUP_OK : Fld := ⟨0x2000170000, 4, 1⟩
def Reg.PWR_STAT_RESERVE_OK : Fld := ⟨0x2000170000, 3, 1⟩
def Reg.PWR_STAT_IN_B : Fld := ⟨0x2000170000, 1, 1⟩
def Reg.PWR_STAT_IN_A : Fld := ⟨0x2000170000, 0, 1⟩
def Reg.PWR_IN : Fld := ⟨0x2000170004, 0, 32⟩
def Reg.PWR_IN_IN_B : Fld := ⟨0x2000170004, 16, 16⟩
def Reg.PWR_IN_IN_A : Fld := ⟨0x2000170004, 0, 16⟩
def Reg.PWR_HOLDUP : Fld := ⟨0x2000170008, 0, 32⟩
def Reg.PWR_HOLDUP_ENERGY : Fld := ⟨0x2000170008, 16, 16⟩
def Reg.PWR_HOLDUP_TIME : Fld := ⟨0x2000170008, 0, 16⟩
def Reg.PWR_LOAD : Fld := ⟨0x200017000C, 0, 32⟩
def Reg.PWR_LOAD_PEAK : Fld := ⟨0x200017000C, 16, 16⟩
def Reg.PWR_LOAD_NOW : Fld := ⟨0x200017000C, 0, 16⟩
def Reg.PWR_DIPS : Fld := ⟨0x2000170010, 0, 32⟩
def Reg.PWR_DIPS_COUNT : Fld := ⟨0x2000170010, 16, 16⟩
def Reg.PWR_DIPS_LONGEST : Fld := ⟨0x2000170010, 0, 16⟩
def Reg.PWR_BOOT : Fld := ⟨0x2000170014, 0, 32⟩
def Reg.PWR_BOOT_LOCK : Fld := ⟨0x2000170014, 16, 16⟩
def Reg.PWR_BOOT_RESET : Fld := ⟨0x2000170014, 0, 16⟩
def Reg.PTR_STAT : Fld := ⟨0x2000010000, 0, 32⟩
def Reg.PTR_STAT_BACKUP_VALID : Fld := ⟨0x2000010000, 5, 1⟩
def Reg.PTR_STAT_CELL_LOW : Fld := ⟨0x2000010000, 4, 1⟩
def Reg.PTR_STAT_WRITE_SW : Fld := ⟨0x2000010000, 2, 1⟩
def Reg.PTR_STAT_LID : Fld := ⟨0x2000010000, 1, 1⟩
def Reg.PTR_STAT_SEAL : Fld := ⟨0x2000010000, 0, 1⟩
def Reg.PTR_OPTIME_LO : Fld := ⟨0x2000010004, 0, 32⟩
def Reg.PTR_OPTIME_HI : Fld := ⟨0x2000010008, 0, 32⟩
def Reg.PTR_OPTIME_HI_OPT_HI : Fld := ⟨0x2000010008, 0, 16⟩
def Reg.PTR_PCYCLE : Fld := ⟨0x200001000C, 0, 32⟩
def Reg.PTR_C2SEC_LO : Fld := ⟨0x2000010010, 0, 32⟩
def Reg.PTR_C2SEC_HI : Fld := ⟨0x2000010014, 0, 32⟩
def Reg.PTR_SWCNT : Fld := ⟨0x2000010018, 0, 32⟩
def Reg.PTR_SWCNT_LID : Fld := ⟨0x2000010018, 16, 16⟩
def Reg.PTR_SWCNT_SEAL : Fld := ⟨0x2000010018, 0, 16⟩
def Reg.PTR_WRITE_CNT : Fld := ⟨0x200001001C, 0, 32⟩
def Reg.PTR_CELL : Fld := ⟨0x2000010020, 0, 32⟩
def Reg.PTR_CELL_MV : Fld := ⟨0x2000010020, 0, 16⟩

/-! ### ETH and TIM (spec file 14) -/

def Reg.TIM_C2_SEC_LO : Fld := ⟨0x20000D0020, 0, 32⟩
def Reg.TIM_C2_SEC_HI : Fld := ⟨0x20000D0024, 0, 32⟩
def Reg.TIM_C2_NS : Fld := ⟨0x20000D0028, 0, 32⟩
def Reg.TIM_C2_CONT : Fld := ⟨0x20000D002C, 0, 32⟩

/-! ### PGN and QUE (spec file 16) -/

def Reg.QUE_PI (q : Nat) : Fld := ⟨0x2000111008 + 64 * q, 0, 32⟩
def Reg.QUE_RI (q : Nat) : Fld := ⟨0x200011100C + 64 * q, 0, 32⟩
def Reg.QUE_DI (q : Nat) : Fld := ⟨0x2000111010 + 64 * q, 0, 32⟩
def Reg.QUE_CI (q : Nat) : Fld := ⟨0x2000111014 + 64 * q, 0, 32⟩

/-- The registers of the map in address order, part 0. -/
def regTable0 : List RegSpec := [
  ⟨0x2000000000, [], 0xFFFFFFFF, 0x0, 0x0, 0x0, .whole⟩,  -- SYS_ID
  ⟨0x2000000004, [], 0xFFF3F, 0x0, 0x0, 0x0, .whole⟩,  -- SYS_CAPS
  ⟨0x2000000010, [], 0xC03FFF01, 0x0, 0xC0000000, 0x0, .whole⟩,  -- SYS_BUSERR_STAT
  ⟨0x2000000014, [], 0xFFFFFFFF, 0x0, 0x0, 0x0, .lo⟩,  -- SYS_BUSERR_ADDR_LO
  ⟨0x2000000018, [], 0xFF, 0x0, 0x0, 0x0, .hi⟩,  -- SYS_BUSERR_ADDR_HI
  ⟨0x2000010000, [], 0x37, 0x0, 0x0, 0x0, .whole⟩,  -- PTR_STAT
  ⟨0x2000010004, [], 0xFFFFFFFF, 0x0, 0x0, 0x0, .lo⟩,  -- PTR_OPTIME_LO
  ⟨0x2000010008, [], 0xFFFF, 0x0, 0x0, 0x0, .hi⟩,  -- PTR_OPTIME_HI
  ⟨0x200001000C, [], 0xFFFFFFFF, 0x0, 0x0, 0x0, .whole⟩,  -- PTR_PCYCLE
  ⟨0x2000010010, [], 0xFFFFFFFF, 0x0, 0x0, 0x0, .lo⟩,  -- PTR_C2SEC_LO
  ⟨0x2000010014, [], 0xFFFFFFFF, 0x0, 0x0, 0x0, .hi⟩,  -- PTR_C2SEC_HI
  ⟨0x2000010018, [], 0xFFFFFFFF, 0x0, 0x0, 0x0, .whole⟩,  -- PTR_SWCNT
  ⟨0x200001001C, [], 0xFFFFFFFF, 0x0, 0x0, 0x0, .whole⟩,  -- PTR_WRITE_CNT
  ⟨0x2000010020, [], 0xFFFF, 0x0, 0x0, 0x0, .whole⟩,  -- PTR_CELL
  ⟨0x2000020000, [], 0xFF000F0F, 0x0, 0x0, 0x0, .whole⟩,  -- FPL_STAT
  ⟨0x2000020004, [], 0x0, 0x0, 0x0, 0x0, .whole⟩,  -- FPL_CMD
  ⟨0x2000020008, [], 0xFFFFFFFF, 0xFFFFFFFF, 0x0, 0x0, .lo⟩,  -- FPL_SRC_LO
  ⟨0x200002000C, [], 0xFF, 0xFF, 0x0, 0x0, .hi⟩,  -- FPL_SRC_HI
  ⟨0x2000020010, [], 0xFFFFFFFF, 0xFFFFFFFF, 0x0, 0x0, .whole⟩,  -- FPL_SRC_LEN
  ⟨0x2000020014, [], 0x3, 0x3, 0x0, 0x0, .whole⟩,  -- FPL_BOOT
  ⟨0x2000020018, [(4, 2)], 0x83FFFFFF, 0x0, 0x0, 0x0, .whole⟩,  -- FPL_SLOT_INFO
  ⟨0x2000020020, [], 0xFFFFFFFF, 0x0, 0x0, 0x0, .whole⟩,  -- FPL_FAIL_OFF
  ⟨0x2000020024, [], 0xFFFFFFFF, 0x0, 0x0, 0x0, .whole⟩,  -- FPL_FAIL_TYPE
  ⟨0x2000020028, [], 0x7FF, 0x0, 0x0, 0x0, .whole⟩,  -- FPL_SKIPPED
  ⟨0x200002002C, [], 0xFFFFFFFF, 0x0, 0x0, 0x0, .whole⟩,  -- FPL_SERIAL
  ⟨0x2000020030, [], 0x3FF, 0x0, 0x0, 0x0, .whole⟩,  -- FPL_KEYS
  ⟨0x2000020040, [(4, 8)], 0xFFFFFFFF, 0x0, 0x0, 0x0, .whole⟩,  -- FPL_STRDIG
  ⟨0x2000020060, [(4, 8)], 0xFFFFFFFF, 0x0, 0x0, 0x0, .whole⟩,  -- FPL_SOFTDIG
  ⟨0x2000030000, [], 0x333, 0x0, 0x0, 0x0, .whole⟩,  -- SCN_STAT
  ⟨0x2000030004, [], 0x0, 0x0, 0x0, 0x0, .whole⟩,  -- SCN_CMD
  ⟨0x2000030010, [], 0xFFFFFFFF, 0xFFFFFFFF, 0x0, 0x0, .lo⟩,  -- SCN_OLC_SRC_LO
  ⟨0x2000030014, [], 0xFF, 0xFF, 0x0, 0x0, .hi⟩,  -- SCN_OLC_SRC_HI
  ⟨0x2000030018, [], 0xFFFFFFFF, 0xFFFFFFFF, 0x0, 0x0, .whole⟩,  -- SCN_OLC_LEN
  ⟨0x200003001C, [], 0x0, 0x0, 0x0, 0x0, .whole⟩,  -- SCN_OLC_CMD
  ⟨0x2000030020, [], 0xFF00000F, 0x0, 0x0, 0x0, .whole⟩,  -- SCN_OLC_STAT
  ⟨0x2000030024, [], 0xFFFFFFFF, 0x0, 0x0, 0x0, .whole⟩,  -- SCN_OLC_COUNTS
  ⟨0x2000030040, [], 0xFFFFFFFF, 0xFFFFFFFF, 0x0, 0x0, .whole⟩,  -- SCN_FORCE_TGT
  ⟨0x2000030044, [], 0xFFFFFFFF, 0xFFFFFFFF, 0x0, 0x0, .whole⟩,  -- SCN_FORCE_TYPE
  ⟨0x2000030048, [], 0xFFFFFFFF, 0xFFFFFFFF, 0x0, 0x0, .lo⟩,  -- SCN_FORCE_VAL_LO
  ⟨0x200003004C, [], 0xFFFFFFFF, 0xFFFFFFFF, 0x0, 0x0, .hi⟩,  -- SCN_FORCE_VAL_HI
  ⟨0x2000030050, [], 0x0, 0x0, 0x0, 0x0, .whole⟩,  -- SCN_FORCE_CMD
  ⟨0x2000030054, [], 0xFF0001FF, 0x0, 0x0, 0x0, .whole⟩,  -- SCN_FORCE_STAT
  ⟨0x2000031000, [(32, 16)], 0xFFFF0F87, 0x0, 0x0, 0xFFFF0000, .whole⟩,  -- SCN_TASK_STAT
  ⟨0x2000031004, [(32, 16)], 0xFFFFFFFF, 0x0, 0x0, 0x0, .lo⟩  -- SCN_CYCLE_LO
  ]

/-- The registers of the map in address order, part 1. -/
def regTable1 : List RegSpec := [
  ⟨0x2000031008, [(32, 16)], 0xFFFFFFFF, 0x0, 0x0, 0x0, .hi⟩,  -- SCN_CYCLE_HI
  ⟨0x200003100C, [(32, 16)], 0xFFFFFFFF, 0x0, 0x0, 0xFFFF0000, .whole⟩,  -- SCN_TASK_EXEC
  ⟨0x2000040000, [], 0x3FF0103, 0x0, 0x100, 0x0, .whole⟩,  -- LOOP_STAT
  ⟨0x2000040004, [], 0x3FF07FF, 0x0, 0x0, 0x7FF, .whole⟩,  -- LOOP_LOAD
  ⟨0x2000040008, [], 0xFFFFFFFF, 0x0, 0x0, 0x0, .whole⟩,  -- LOOP_FAULTS
  ⟨0x2000042000, [(16, 512)], 0x80001FF1, 0x0, 0x80000000, 0x0, .whole⟩,  -- LOOP_STATE
  ⟨0x2000042004, [(16, 512)], 0xFFFFFFFF, 0x0, 0x0, 0x0, .whole⟩,  -- LOOP_OUT
  ⟨0x2000042008, [(16, 512)], 0xFFFFFFFF, 0x0, 0x0, 0x0, .whole⟩,  -- LOOP_INT
  ⟨0x200004200C, [(16, 512)], 0xFFFFFFFF, 0x0, 0x0, 0x0, .whole⟩,  -- LOOP_PV
  ⟨0x2000044000, [(96, 512), (4, 10)], 0xFFFFFFFF, 0xFFFFFFFF, 0x0, 0x0, .whole⟩,  -- LOOP_COEF
  ⟨0x2000044028, [(96, 512)], 0x3FFFFFFF, 0x3FFFFFFF, 0x0, 0x0, .whole⟩,  -- LOOP_SHIFT_A
  ⟨0x200004402C, [(96, 512)], 0xFFFFF, 0xFFFFF, 0x0, 0x0, .whole⟩,  -- LOOP_SHIFT_B
  ⟨0x2000044030, [(96, 512), (4, 6)], 0xFFFFFFFF, 0xFFFFFFFF, 0x0, 0x0, .whole⟩,  -- LOOP_LIM
  ⟨0x2000044048, [(96, 512)], 0xFF000C, 0x0, 0x0, 0x0, .whole⟩,  -- LOOP_TUNE_CTRL
  ⟨0x2000050000, [], 0xC3F7, 0x0, 0x8000, 0x0, .whole⟩,  -- SLV_STAT
  ⟨0x2000050004, [], 0xFFFF, 0xFFFF, 0x0, 0x0, .whole⟩,  -- SLV_CTRL
  ⟨0x2000050008, [], 0x0, 0x0, 0x0, 0x0, .whole⟩,  -- SLV_CMD
  ⟨0x2000050010, [(4, 4)], 0x8000003F, 0x0, 0x0, 0x0, .whole⟩,  -- SLV_QUEUE
  ⟨0x2000050020, [(4, 8)], 0xFFFFFFFF, 0x0, 0x0, 0x0, .whole⟩,  -- SLV_CNT
  ⟨0x2000050040, [], 0xFFFF03F0, 0x0, 0x0, 0x0, .whole⟩,  -- SLV_LAST
  ⟨0x2000050044, [], 0xFFFFFFFF, 0x0, 0x0, 0x0, .whole⟩,  -- SLV_LAST_ITER
  ⟨0x2000050048, [], 0xFFFFFFFF, 0x0, 0x0, 0x0, .whole⟩,  -- SLV_LAST_TIME
  ⟨0x200005004C, [], 0xFFFFFFFF, 0x0, 0x0, 0xFFFFFFFF, .whole⟩,  -- SLV_MAX_TIME
  ⟨0x2000050050, [], 0xFFFFFFFF, 0x0, 0x0, 0x0, .whole⟩,  -- SLV_FAULTS
  ⟨0x2000050100, [(16, 16)], 0xFFFFFFF8, 0x0, 0x0, 0x0, .whole⟩,  -- SLV_SLOT
  ⟨0x2000050104, [(16, 16)], 0x3FF, 0x0, 0x0, 0x0, .whole⟩,  -- SLV_SLOT_WS
  ⟨0x2000050108, [(16, 16)], 0xFFFFFFFF, 0x0, 0x0, 0x0, .lo⟩,  -- SLV_SLOT_SIG_LO
  ⟨0x200005010C, [(16, 16)], 0xFFFFFFFF, 0x0, 0x0, 0x0, .hi⟩,  -- SLV_SLOT_SIG_HI
  ⟨0x2000060000, [], 0xFFFFFF, 0x0, 0x0, 0x0, .whole⟩,  -- AX_GSTAT
  ⟨0x2000061000, [(4096, 8)], 0xFF07, 0x0, 0x0, 0x0, .whole⟩,  -- AX_STATE
  ⟨0x2000061004, [(4096, 8)], 0xFFFFFFFF, 0x0, 0x0, 0x0, .lo⟩,  -- AX_POS_LO
  ⟨0x2000061008, [(4096, 8)], 0xFFFFFFFF, 0x0, 0x0, 0x0, .hi⟩,  -- AX_POS_HI
  ⟨0x200006100C, [(4096, 8)], 0xFFFFFFFF, 0x0, 0x0, 0x0, .lo⟩,  -- AX_ENC_LO
  ⟨0x2000061010, [(4096, 8)], 0xFFFFFFFF, 0x0, 0x0, 0x0, .hi⟩,  -- AX_ENC_HI
  ⟨0x2000061014, [(4096, 8)], 0xFFFFFFFF, 0x0, 0x0, 0x0, .whole⟩,  -- AX_VEL
  ⟨0x2000061018, [(4096, 8)], 0xFFFFFFFF, 0x0, 0x0, 0x0, .whole⟩,  -- AX_DEV
  ⟨0x2000061020, [(4096, 8)], 0xFFFFFFFF, 0xFFFFFFFF, 0x0, 0x0, .lo⟩,  -- AX_VLIM_LO_LO
  ⟨0x2000061024, [(4096, 8)], 0xFFFFFFFF, 0xFFFFFFFF, 0x0, 0x0, .hi⟩,  -- AX_VLIM_LO_HI
  ⟨0x2000061028, [(4096, 8)], 0xFFFFFFFF, 0xFFFFFFFF, 0x0, 0x0, .lo⟩,  -- AX_VLIM_HI_LO
  ⟨0x200006102C, [(4096, 8)], 0xFFFFFFFF, 0xFFFFFFFF, 0x0, 0x0, .hi⟩,  -- AX_VLIM_HI_HI
  ⟨0x2000061030, [(4096, 8)], 0xFF01, 0x0, 0x0, 0x0, .whole⟩,  -- AX_LIM_CTRL
  ⟨0x2000070000, [], 0xFF30F, 0x0, 0x0, 0x0, .whole⟩,  -- BAN_STAT
  ⟨0x2000070004, [], 0x0, 0x0, 0x0, 0x0, .whole⟩,  -- BAN_CMD
  ⟨0x2000070008, [], 0xFF0000FF, 0x0, 0x0, 0x0, .whole⟩  -- BAN_CMD_STAT
  ]

/-- The registers of the map in address order, part 2. -/
def regTable2 : List RegSpec := [
  ⟨0x2000070010, [(4, 2)], 0x8000FFFF, 0x0, 0x0, 0xFFFF, .whole⟩,  -- BAN_LANE
  ⟨0x2000070018, [], 0xFFFFFFFF, 0x0, 0x0, 0x0, .whole⟩,  -- BAN_HS_FAIL
  ⟨0x200007001C, [], 0xFFFF, 0x0, 0x0, 0xFFFF, .whole⟩,  -- BAN_DISCARD
  ⟨0x2000070020, [], 0xFFFFFFFF, 0x0, 0x0, 0x0, .whole⟩,  -- BAN_CMP
  ⟨0x2000070024, [], 0xF1FF, 0x0, 0x0, 0x0, .whole⟩,  -- BAN_LAST_CMP
  ⟨0x2000070028, [], 0xFFFFFFFF, 0x0, 0x0, 0x0, .lo⟩,  -- BAN_LAST_CYC_LO
  ⟨0x200007002C, [], 0xFFFFFFFF, 0x0, 0x0, 0x0, .hi⟩,  -- BAN_LAST_CYC_HI
  ⟨0x2000070030, [], 0xFFFCFFFF, 0x0, 0x0, 0x0, .whole⟩,  -- BAN_INQ
  ⟨0x2000070034, [], 0xFFFFFFFF, 0x0, 0x0, 0x0, .whole⟩,  -- BAN_HO
  ⟨0x2000070038, [], 0xFFFF00FF, 0x0, 0x0, 0x0, .whole⟩,  -- BAN_HO_CNT
  ⟨0x200007003C, [], 0xFFFF, 0x0, 0x0, 0x0, .whole⟩,  -- BAN_RTT
  ⟨0x2000070040, [], 0xFFFFFFFF, 0x0, 0x0, 0x0, .whole⟩,  -- BAN_PEER_SERIAL
  ⟨0x2000070044, [], 0xF, 0x0, 0x0, 0x0, .whole⟩,  -- BAN_ISO
  ⟨0x2000070048, [], 0xFFFFFFFF, 0x0, 0x0, 0x0, .lo⟩,  -- BAN_RB_BLOCK_LO
  ⟨0x200007004C, [], 0xFFFFFFFF, 0x0, 0x0, 0x0, .hi⟩,  -- BAN_RB_BLOCK_HI
  ⟨0x2000070100, [(8, 16)], 0xFFFFFFFF, 0x0, 0x0, 0x0, .lo⟩,  -- BAN_DIG_LO
  ⟨0x2000070104, [(8, 16)], 0xFFFFFFFF, 0x0, 0x0, 0x0, .hi⟩,  -- BAN_DIG_HI
  ⟨0x2000070200, [], 0xFF00001F, 0x0, 0x0, 0x0, .whole⟩,  -- BAN_JOIN_STAT
  ⟨0x2000070204, [], 0x0, 0x0, 0x0, 0x0, .whole⟩,  -- BAN_JOIN_CMD
  ⟨0x2000070208, [], 0xFFFFFFFF, 0x0, 0x0, 0x0, .whole⟩,  -- BAN_JOIN_XFER
  ⟨0x200007020C, [], 0xFFFFFFFF, 0x0, 0x0, 0x0, .whole⟩,  -- BAN_JOIN_DIRTY
  ⟨0x2000070210, [], 0xFFFFFFFF, 0x0, 0x0, 0x0, .whole⟩,  -- BAN_JOIN_PROG
  ⟨0x2000070214, [], 0xFFFFFFFF, 0xFFFF0000, 0x0, 0x0, .whole⟩,  -- BAN_LATENT
  ⟨0x2000070220, [(4, 8)], 0xFFFFFFFF, 0x0, 0x0, 0x0, .whole⟩,  -- BAN_PROGDIG
  ⟨0x2000080000, [], 0xFF0F03FF, 0x0, 0x0, 0x0, .whole⟩,  -- SAF_STAT
  ⟨0x2000080004, [], 0xFFFFFFFF, 0x0, 0x0, 0x0, .lo⟩,  -- SAF_CYCLE_LO
  ⟨0x2000080008, [], 0xFFFFFFFF, 0x0, 0x0, 0x0, .hi⟩,  -- SAF_CYCLE_HI
  ⟨0x200008000C, [], 0x0, 0x0, 0x0, 0x0, .whole⟩,  -- SAF_CMD
  ⟨0x2000080010, [], 0xFF0000FF, 0x0, 0x0, 0x0, .whole⟩,  -- SAF_CMD_STAT
  ⟨0x2000080014, [], 0xFFFFFFFF, 0x0, 0x0, 0x0, .whole⟩,  -- SAF_TP
  ⟨0x2000080020, [(4, 8)], 0xFFFFFFFF, 0x0, 0x0, 0x0, .whole⟩,  -- SAF_DIG
  ⟨0x2000080100, [(4, 64)], 0xFF001FFF, 0x0, 0x0, 0x0, .whole⟩,  -- SAF_FUNC
  ⟨0x2000090000, [], 0x1F, 0x0, 0x0, 0x0, .whole⟩,  -- TRP_STAT
  ⟨0x2000090004, [], 0xFF, 0x0, 0x0, 0x0, .whole⟩,  -- TRP_FTI
  ⟨0x2000090008, [], 0xFFFFFFFF, 0x0, 0x0, 0x0, .lo⟩,  -- TRP_ITT_LO
  ⟨0x200009000C, [], 0xFFFFFFFF, 0x0, 0x0, 0x0, .hi⟩,  -- TRP_ITT_HI
  ⟨0x2000090010, [], 0xFFFFFFFF, 0x0, 0x0, 0x0, .whole⟩,  -- TRP_PROD
  ⟨0x2000090014, [], 0xFFFFFFFF, 0x0, 0x0, 0x0, .whole⟩,  -- TRP_SINK
  ⟨0x2000090018, [], 0xFF, 0xFF, 0x0, 0x0, .whole⟩,  -- TRP_REQ
  ⟨0x200009001C, [], 0x803F1FFF, 0x0, 0x80000000, 0x0, .whole⟩,  -- TRP_FIRST
  ⟨0x2000090020, [], 0xFFFFFFFF, 0x0, 0x0, 0x0, .lo⟩,  -- TRP_FIRST_FRC_LO
  ⟨0x2000090024, [], 0xFFFFFFFF, 0x0, 0x0, 0x0, .hi⟩,  -- TRP_FIRST_FRC_HI
  ⟨0x2000090028, [], 0xFFFFFFFF, 0x0, 0x0, 0x0, .lo⟩,  -- TRP_FIRST_ITT_LO
  ⟨0x200009002C, [], 0xFFFFFFFF, 0x0, 0x0, 0x0, .hi⟩  -- TRP_FIRST_ITT_HI
  ]

/-- The registers of the map in address order, part 3. -/
def regTable3 : List RegSpec := [
  ⟨0x2000090030, [], 0xFFFFFFFF, 0x0, 0x0, 0x0, .whole⟩,  -- TRP_CNT
  ⟨0x2000090034, [], 0xFFFF, 0x0, 0xFF00, 0x0, .whole⟩,  -- TRP_DARK
  ⟨0x20000A0000, [(4096, 8)], 0xFFC, 0x0, 0x0, 0x0, .whole⟩,  -- ISL_STAT
  ⟨0x20000A0004, [(4096, 8)], 0xFFFFFFFF, 0x0, 0x0, 0xFFFF0000, .whole⟩,  -- ISL_SUPPLY
  ⟨0x20000A0008, [(4096, 8)], 0x0, 0x0, 0x0, 0x0, .whole⟩,  -- ISL_CMD
  ⟨0x20000A000C, [(4096, 8)], 0xFF0000FF, 0x0, 0x0, 0x0, .whole⟩,  -- ISL_CMD_STAT
  ⟨0x20000A0010, [(4096, 8)], 0xFFFFFFFF, 0x0, 0x0, 0xFFFF0000, .whole⟩,  -- ISL_LINK
  ⟨0x20000A0100, [(4096, 8), (16, 8)], 0xF0C000FF, 0x0, 0x0, 0x0, .whole⟩,  -- ISL_CH_STAT
  ⟨0x20000A0104, [(4096, 8), (16, 8)], 0xFFFFFFFF, 0x0, 0x0, 0x0, .whole⟩,  -- ISL_CH_VAL
  ⟨0x20000A0108, [(4096, 8), (16, 8)], 0xFFFFFFFF, 0x0, 0x0, 0x0, .whole⟩,  -- ISL_CH_CNT
  ⟨0x20000A0200, [(4096, 8), (64, 8)], 0xFF07C0, 0x0, 0x0, 0x0, .whole⟩,  -- ISL_AN_STAT
  ⟨0x20000A0204, [(4096, 8), (64, 8)], 0xFFFFFFFF, 0x0, 0x0, 0x0, .whole⟩,  -- ISL_AN_MEAS
  ⟨0x20000A0208, [(4096, 8), (64, 8)], 0xFFFFFFFF, 0xFFFFFFFF, 0x0, 0x0, .whole⟩,  -- ISL_AN_TRIM
  ⟨0x20000A020C, [(4096, 8), (64, 8)], 0xFFFFFFFF, 0x0, 0x0, 0x0, .whole⟩,  -- ISL_AN_DIAG
  ⟨0x20000B0000, [], 0xFFFF, 0x0, 0x0, 0x0, .whole⟩,  -- CAN_GSTAT
  ⟨0x20000B1000, [(4096, 8)], 0x3C7, 0x0, 0x0, 0x0, .whole⟩,  -- CAN_STAT
  ⟨0x20000B1004, [(4096, 8)], 0x1FF00FF, 0x0, 0x0, 0x0, .whole⟩,  -- CAN_ERRCNT
  ⟨0x20000B1008, [(4096, 8)], 0x0, 0x0, 0x0, 0x0, .whole⟩,  -- CAN_CMD
  ⟨0x20000B100C, [(4096, 8)], 0xFF0000FF, 0x0, 0x0, 0x0, .whole⟩,  -- CAN_CMD_STAT
  ⟨0x20000B1010, [(4096, 8)], 0xFFFFFFFF, 0x0, 0x0, 0xFFFFFFFF, .whole⟩,  -- CAN_LOST
  ⟨0x20000B1014, [(4096, 8)], 0xFFFFFFFF, 0x0, 0x0, 0xFFFF, .whole⟩,  -- CAN_ERRFRM
  ⟨0x20000B1018, [(4096, 8)], 0xF3FFFFF, 0x0, 0x0, 0xFFFF, .whole⟩,  -- CAN_TT
  ⟨0x20000B101C, [(4096, 8)], 0xFFFF0037, 0x0, 0x0, 0x0, .whole⟩,  -- CAN_HP_STAT
  ⟨0x20000B1020, [(4096, 8)], 0x0, 0x0, 0x0, 0x0, .whole⟩,  -- CAN_HP_ACK
  ⟨0x20000B1024, [(4096, 8)], 0xFFFFFFFF, 0x0, 0x0, 0x0, .whole⟩,  -- CAN_NBT
  ⟨0x20000B1028, [(4096, 8)], 0xFFFFF1FF, 0x0, 0x0, 0x0, .whole⟩,  -- CAN_DBT
  ⟨0x20000B1100, [(4096, 8), (8, 64)], 0xDFFFFFFF, 0xDFFFFFFF, 0x0, 0x0, .whole⟩,  -- CAN_FLT_ID
  ⟨0x20000B1104, [(4096, 8), (8, 64)], 0x1FFFFFFF, 0x1FFFFFFF, 0x0, 0x0, .whole⟩,  -- CAN_FLT_MASK
  ⟨0x20000B1800, [(4096, 8), (128, 4), (4, 32)], 0xFFFFFFFF, 0x0, 0x0, 0x0, .whole⟩,  -- CAN_HP_SLOT
  ⟨0x20000C0000, [], 0x3F3F, 0x0, 0x0, 0x0, .whole⟩,  -- ETH_STAT
  ⟨0x20000C0004, [], 0xFFF, 0xFFF, 0x0, 0x0, .whole⟩,  -- ETH_MAINT
  ⟨0x20000C1000, [(4096, 6)], 0xFFFFFFFF, 0x0, 0x0, 0xFFFFFFFF, .whole⟩,  -- ETH_RXCNT
  ⟨0x20000C1004, [(4096, 6)], 0xFFFFFFFF, 0x0, 0x0, 0xFFFFFFFF, .whole⟩,  -- ETH_ERRCNT
  ⟨0x20000C1008, [(4096, 6)], 0xFFFFFFFF, 0x0, 0x0, 0xFFFFFFFF, .whole⟩,  -- ETH_NAVCNT
  ⟨0x20000D0000, [], 0xEF0377, 0x0, 0x0, 0x0, .whole⟩,  -- TIM_STAT
  ⟨0x20000D0004, [], 0xFFFFFFFF, 0x0, 0x0, 0x0, .lo⟩,  -- TIM_FRC_LO
  ⟨0x20000D0008, [], 0xFFFFFFFF, 0x0, 0x0, 0x0, .hi⟩,  -- TIM_FRC_HI
  ⟨0x20000D0010, [], 0xFFFFFFFF, 0x0, 0x0, 0x0, .lo⟩,  -- TIM_C1_SEC_LO
  ⟨0x20000D0014, [], 0xFFFFFFFF, 0x0, 0x0, 0x0, .hi⟩,  -- TIM_C1_SEC_HI
  ⟨0x20000D0018, [], 0x3FFFFFFF, 0x0, 0x0, 0x0, .whole⟩,  -- TIM_C1_NS
  ⟨0x20000D001C, [], 0xFFFFFFFF, 0x0, 0x0, 0x0, .whole⟩,  -- TIM_C1_CONT
  ⟨0x20000D0020, [], 0xFFFFFFFF, 0x0, 0x0, 0x0, .lo⟩,  -- TIM_C2_SEC_LO
  ⟨0x20000D0024, [], 0xFFFFFFFF, 0x0, 0x0, 0x0, .hi⟩,  -- TIM_C2_SEC_HI
  ⟨0x20000D0028, [], 0xFFFFFFFF, 0x0, 0x0, 0x0, .whole⟩  -- TIM_C2_NS
  ]

/-- The registers of the map in address order, part 4. -/
def regTable4 : List RegSpec := [
  ⟨0x20000D002C, [], 0xFFFFFFFF, 0x0, 0x0, 0x0, .whole⟩,  -- TIM_C2_CONT
  ⟨0x20000D0030, [], 0x0, 0x0, 0x0, 0x0, .whole⟩,  -- TIM_CMD
  ⟨0x20000D0034, [], 0xFF0000FF, 0x0, 0x0, 0x0, .whole⟩,  -- TIM_CMD_STAT
  ⟨0x20000D0038, [], 0xFFFFFFFF, 0x0, 0x0, 0x0, .whole⟩,  -- TIM_PPS
  ⟨0x20000D0100, [(64, 2)], 0xFFFFFF07, 0x0, 0x0, 0x0, .whole⟩,  -- TIM_DOM_STAT
  ⟨0x20000D0104, [(64, 2)], 0xFFFFFFFF, 0x0, 0x0, 0x0, .whole⟩,  -- TIM_DOM_RATE
  ⟨0x20000D0108, [(64, 2)], 0xFFFFFFFF, 0x0, 0x0, 0x0, .lo⟩,  -- TIM_DOM_OFS_LO
  ⟨0x20000D010C, [(64, 2)], 0xFFFFFFFF, 0x0, 0x0, 0x0, .hi⟩,  -- TIM_DOM_OFS_HI
  ⟨0x20000D0110, [(64, 2)], 0xFFFFFFFF, 0x0, 0x0, 0x0, .whole⟩,  -- TIM_DOM_MEAS
  ⟨0x20000D0114, [(64, 2)], 0xFFFFFFFF, 0x0, 0x0, 0x0, .whole⟩,  -- TIM_DOM_DELAY
  ⟨0x20000D0118, [(64, 2)], 0xFFFFFFFF, 0x0, 0x0, 0x0, .lo⟩,  -- TIM_DOM_GM_LO
  ⟨0x20000D011C, [(64, 2)], 0xFFFFFFFF, 0x0, 0x0, 0x0, .hi⟩,  -- TIM_DOM_GM_HI
  ⟨0x20000E1000, [(4096, 8)], 0x1F, 0x0, 0x0, 0x0, .whole⟩,  -- SER_STAT
  ⟨0x20000E1004, [(4096, 8)], 0xFFFFFFFF, 0x0, 0x0, 0xFFFFFFFF, .whole⟩,  -- SER_ERR
  ⟨0x20000E1008, [(4096, 8)], 0xFFFFFFFF, 0x0, 0x0, 0x0, .whole⟩,  -- SER_BAUD
  ⟨0x20000F1000, [(4096, 8)], 0x3F0F, 0x0, 0x0, 0x0, .whole⟩,  -- RIO_LINK_STAT
  ⟨0x20000F1004, [(4096, 8)], 0xFFFFFFFF, 0x0, 0x0, 0xFFFFFFFF, .whole⟩,  -- RIO_CNT
  ⟨0x20000F1008, [(4096, 8)], 0xFFFFFFFF, 0x0, 0x0, 0x0, .whole⟩,  -- RIO_RTT
  ⟨0x20000F100C, [(4096, 8)], 0xFFFFFFFF, 0x0, 0x0, 0x0, .whole⟩,  -- RIO_OUTMAP
  ⟨0x20000F1100, [(4096, 8), (4, 32)], 0xFF000F0F, 0x0, 0x0, 0x0, .whole⟩,  -- RIO_ST
  ⟨0x20000F1400, [(4096, 8), (16, 32), (4, 3)], 0xFFFFFFFF, 0x0, 0x0, 0x0, .whole⟩,  -- RIO_ID
  ⟨0x2000101000, [(256, 32)], 0xFF031F1F, 0x20000, 0x10000, 0x0, .whole⟩,  -- PGN_CH_STAT
  ⟨0x2000101004, [(256, 32)], 0xFFFF001F, 0x0, 0x0, 0xFFFF0000, .whole⟩,  -- PGN_CH_CNT
  ⟨0x2000101008, [(256, 32)], 0xFFFFFFFF, 0xFFFFFFFF, 0x0, 0x0, .whole⟩,  -- PGN_TX_PARAM
  ⟨0x200010100C, [(256, 32)], 0x0, 0x0, 0x0, 0x0, .whole⟩,  -- PGN_TX_POST
  ⟨0x2000101010, [(256, 32)], 0x0, 0x0, 0x0, 0x0, .whole⟩,  -- PGN_TX_CMD
  ⟨0x2000101014, [(256, 32)], 0x807FFFFF, 0x0, 0x0, 0x0, .whole⟩,  -- PGN_RX_HDR
  ⟨0x2000101018, [(256, 32)], 0xFFFFFFFF, 0x0, 0x0, 0x0, .whole⟩,  -- PGN_RX_PARAM
  ⟨0x200010101C, [(256, 32)], 0x0, 0x0, 0x0, 0x0, .whole⟩,  -- PGN_RX_ACK
  ⟨0x2000101020, [(256, 32)], 0xFFFF0000, 0x0, 0x0, 0x0, .whole⟩,  -- PGN_RX_SEQ
  ⟨0x2000101040, [(256, 32), (4, 16)], 0xFFFFFFFF, 0xFFFFFFFF, 0x0, 0x0, .whole⟩,  -- PGN_TX_DATA
  ⟨0x2000101080, [(256, 32), (4, 16)], 0xFFFFFFFF, 0x0, 0x0, 0x0, .whole⟩,  -- PGN_RX_DATA
  ⟨0x2000110000, [], 0x7FFFFF, 0x0, 0x0, 0x0, .whole⟩,  -- QUE_POOL
  ⟨0x2000111000, [(64, 64)], 0x3F3FFF01, 0x0, 0x0, 0x0, .whole⟩,  -- QUE_CFG
  ⟨0x2000111004, [(64, 64)], 0xFFFFFFFF, 0x0, 0x0, 0x0, .whole⟩,  -- QUE_ADDR
  ⟨0x2000111008, [(64, 64)], 0xFFFFFFFF, 0xFFFFFFFF, 0x0, 0x0, .whole⟩,  -- QUE_PI
  ⟨0x200011100C, [(64, 64)], 0xFFFFFFFF, 0x0, 0x0, 0x0, .whole⟩,  -- QUE_RI
  ⟨0x2000111010, [(64, 64)], 0xFFFFFFFF, 0xFFFFFFFF, 0x0, 0x0, .whole⟩,  -- QUE_DI
  ⟨0x2000111014, [(64, 64)], 0xFFFFFFFF, 0xFFFFFFFF, 0x0, 0x0, .whole⟩,  -- QUE_CI
  ⟨0x2000111018, [(64, 64)], 0xFF03FFFF, 0x30000, 0x0, 0xFFFF, .whole⟩,  -- QUE_STAT
  ⟨0x2000120000, [], 0x7, 0x0, 0x0, 0x0, .whole⟩,  -- GB_STAT
  ⟨0x2000120004, [], 0x3FFFF, 0x0, 0x0, 0x0, .whole⟩,  -- GB_COUNT
  ⟨0x2000120008, [], 0xFFFFFFFF, 0x0, 0x0, 0x0, .whole⟩,  -- GB_NEXT_SEQ
  ⟨0x200012000C, [], 0xFFFFFFFF, 0x0, 0x0, 0x0, .whole⟩  -- GB_FIRST_SEQ
  ]

/-- The registers of the map in address order, part 5. -/
def regTable5 : List RegSpec := [
  ⟨0x2000120010, [], 0xFFFFFFFF, 0x0, 0x0, 0x0, .whole⟩,  -- GB_LOST
  ⟨0x2000120014, [], 0xFFFF, 0x0, 0x0, 0x0, .whole⟩,  -- GB_FIRST_LOST
  ⟨0x2000120018, [], 0xFFFFFFFF, 0x0, 0x0, 0x0, .whole⟩,  -- GB_SUPPRESSED
  ⟨0x200012001C, [], 0xFFFFFFFF, 0xFFFFFFFF, 0x0, 0x0, .whole⟩,  -- GB_CURSOR
  ⟨0x2000120020, [], 0x0, 0x0, 0x0, 0x0, .whole⟩,  -- GB_CMD
  ⟨0x2000120024, [], 0xFF0000FF, 0x0, 0x0, 0x0, .whole⟩,  -- GB_CMD_STAT
  ⟨0x2000120028, [], 0xFFFFFFFF, 0x0, 0x0, 0xFFFFFFFF, .whole⟩,  -- GB_OVERRUN
  ⟨0x2000120040, [(4, 32)], 0xFFFFFFFF, 0x0, 0x0, 0xFFFF, .whole⟩,  -- GB_CLASS
  ⟨0x2000120100, [(32, 16), (4, 8)], 0xFFFFFFFF, 0x0, 0x0, 0x0, .whole⟩,  -- GB_WIN
  ⟨0x2000130000, [], 0xFF003FFE, 0x0, 0x0, 0x0, .whole⟩,  -- RND_STAT
  ⟨0x2000130004, [], 0xFFFFFFFF, 0x0, 0x0, 0x0, .whole⟩,  -- RND_PASS
  ⟨0x2000130008, [], 0xFFFFFFFF, 0x0, 0x0, 0x0, .whole⟩,  -- RND_LAST
  ⟨0x200013000C, [], 0xFFFFF, 0x0, 0x0, 0x0, .whole⟩,  -- RND_RATE
  ⟨0x2000130010, [], 0xFFFFFFFF, 0x0, 0x0, 0xFFFFFFFF, .whole⟩,  -- RND_LAPSED
  ⟨0x2000130014, [], 0xFFFF, 0xFFFF, 0x0, 0x0, .whole⟩,  -- RND_CTRL
  ⟨0x2000130100, [(8, 17)], 0xC07FFFFF, 0x0, 0x0, 0x0, .whole⟩,  -- RND_ITEM
  ⟨0x2000130104, [(8, 17)], 0xFFFFFFFF, 0x0, 0x0, 0x0, .whole⟩,  -- RND_ITEM_T
  ⟨0x2000140000, [], 0xFFFF, 0xFFFF, 0x0, 0x0, .whole⟩,  -- WR_CTRL
  ⟨0x2000140004, [], 0xFFFFFFFF, 0x0, 0x0, 0x0, .whole⟩,  -- WR_STAT
  ⟨0x2000141000, [(16, 198)], 0xFFFFFFFF, 0x0, 0x0, 0x0, .lo⟩,  -- WR_Q_LO
  ⟨0x2000141004, [(16, 198)], 0xFFFFFFFF, 0x0, 0x0, 0x0, .hi⟩,  -- WR_Q_HI
  ⟨0x2000141008, [(16, 198)], 0xFFFFFFFF, 0x0, 0x0, 0x0, .whole⟩,  -- WR_REMAIN
  ⟨0x200014100C, [(16, 198)], 0xE000007F, 0x0, 0x0, 0x0, .whole⟩,  -- WR_INFO
  ⟨0x2000150000, [], 0x1FF, 0x0, 0x0, 0x0, .whole⟩,  -- ANX_STAT
  ⟨0x2000150004, [], 0xFFFFFFFF, 0x0, 0x0, 0xFFFFFFFF, .whole⟩,  -- ANX_DISC
  ⟨0x2000150008, [], 0xFFFFFFFF, 0x0, 0x0, 0x0, .whole⟩,  -- ANX_ID
  ⟨0x200015000C, [], 0xFFFFFFFF, 0x0, 0x0, 0x0, .whole⟩,  -- ANX_SERIAL
  ⟨0x2000150010, [], 0xFFFF3FFF, 0x0, 0x0, 0x0, .whole⟩,  -- ANX_SGB
  ⟨0x2000150020, [(4, 8)], 0xFFFFFFFF, 0x0, 0x0, 0x0, .whole⟩,  -- ANX_SWCHK
  ⟨0x2000150040, [(4, 8)], 0xFFFFFFFF, 0x0, 0x0, 0x0, .whole⟩,  -- ANX_IFHASH
  ⟨0x2000150100, [(8, 4)], 0xFFFFFFFF, 0x0, 0x0, 0x0, .lo⟩,  -- ANX_MON_LO
  ⟨0x2000150104, [(8, 4)], 0xFFFFFFFF, 0x0, 0x0, 0x0, .hi⟩,  -- ANX_MON_HI
  ⟨0x2000160000, [], 0xFE7, 0x0, 0x0, 0x0, .whole⟩,  -- NB_STAT
  ⟨0x2000160004, [], 0xF0F0FFFF, 0x0, 0x0, 0x0, .whole⟩,  -- NB_TEMP
  ⟨0x2000160008, [], 0x1FF, 0x1FF, 0x0, 0x0, .whole⟩,  -- NB_LIGHT
  ⟨0x200016000C, [], 0x0, 0x0, 0x0, 0x0, .whole⟩,  -- NB_CMD
  ⟨0x2000160010, [], 0xFF0000FF, 0x0, 0x0, 0x0, .whole⟩,  -- NB_CMD_STAT
  ⟨0x2000160014, [], 0xFFFFFFFF, 0x0, 0x0, 0x0, .lo⟩,  -- NB_FRAMES_LO
  ⟨0x2000160018, [], 0xFFFFFFFF, 0x0, 0x0, 0x0, .hi⟩,  -- NB_FRAMES_HI
  ⟨0x200016001C, [], 0xFFFFFFFF, 0x0, 0x0, 0x0, .whole⟩,  -- NB_LEDGER
  ⟨0x2000160020, [], 0xFFFFFFFF, 0x0, 0x0, 0x0, .whole⟩,  -- NB_ABORT
  ⟨0x2000160024, [], 0x1F00FFFF, 0x0, 0x0, 0x0, .whole⟩,  -- NB_RAIL
  ⟨0x2000160028, [], 0x3FF03FF, 0x3FF03FF, 0x0, 0x0, .whole⟩,  -- NB_PIX_SEL
  ⟨0x200016002C, [], 0xFFFFFFFF, 0x0, 0x0, 0x0, .whole⟩  -- NB_PIX
  ]

/-- The registers of the map in address order, part 6. -/
def regTable6 : List RegSpec := [
  ⟨0x2000170000, [], 0xCFFB, 0x0, 0x0, 0x0, .whole⟩,  -- PWR_STAT
  ⟨0x2000170004, [], 0xFFFFFFFF, 0x0, 0x0, 0x0, .whole⟩,  -- PWR_IN
  ⟨0x2000170008, [], 0xFFFFFFFF, 0x0, 0x0, 0x0, .whole⟩,  -- PWR_HOLDUP
  ⟨0x200017000C, [], 0xFFFFFFFF, 0x0, 0x0, 0xFFFF0000, .whole⟩,  -- PWR_LOAD
  ⟨0x2000170010, [], 0xFFFFFFFF, 0x0, 0x0, 0xFFFF, .whole⟩,  -- PWR_DIPS
  ⟨0x2000170014, [], 0xFFFFFFFF, 0x0, 0x0, 0x0, .whole⟩  -- PWR_BOOT
  ]

/-- Every register of the map. -/
def regTable : List RegSpec :=
  regTable0 ++ regTable1 ++ regTable2 ++ regTable3 ++ regTable4 ++ regTable5 ++ regTable6

/-- Whether an address is one of a register's, given what is left of the offset from its base. -/
def matchDims : List (Nat × Nat) → Nat → Bool
  | [], off => off == 0
  | (stride, n) :: t, off => decide (off / stride < n) && matchDims t (off % stride)

/-- The register at an address, if one is there (R31). -/
def regAt (a : Nat) : Option RegSpec :=
  regTable.find? (fun r => decide (r.base ≤ a) && matchDims r.dims (a - r.base))

end Sys2Proof.Machine
end

