-- ==== Sys2Proof/Machine/Tab.lean ====
section
/-!
DEFINITION. Sparse tables: lists of key and value pairs with rising keys.
`Tab` reads an unlisted key as 0 and lists no zero, so that equal tables are equal lists; `Assoc` tells an
unlisted key apart from every value.
-/
namespace Sys2Proof.Machine

/-- The value a table lists at a key, if it lists one. -/
def Assoc.find? {α : Type} : List (Nat × α) → Nat → Option α
  | [], _ => none
  | (k, v) :: t, a => if a = k then some v else Assoc.find? t a

/-- Remove a key. -/
def Assoc.erase {α : Type} : List (Nat × α) → Nat → List (Nat × α)
  | [], _ => []
  | (k, v) :: t, a => if a = k then Assoc.erase t a else (k, v) :: Assoc.erase t a

/-- Enter a value at a key, in key order. -/
def Assoc.insert {α : Type} : List (Nat × α) → Nat → α → List (Nat × α)
  | [], a, w => [(a, w)]
  | (k, v) :: t, a, w =>
    if a = k then (a, w) :: t
    else if a < k then (a, w) :: (k, v) :: t
    else (k, v) :: Assoc.insert t a w

/-- The keys rise strictly. -/
def Assoc.sorted {α : Type} : List (Nat × α) → Bool
  | [] => true
  | [_] => true
  | (k, _) :: (k', v') :: t => decide (k < k') && Assoc.sorted ((k', v') :: t)

/-- A table of words of one width; an unlisted key reads as 0. -/
abbrev Tab (w : Nat) := List (Nat × BitVec w)

/-- Read a table. -/
def Tab.get {w : Nat} (t : List (Nat × BitVec w)) (a : Nat) : BitVec w := (Assoc.find? t a).getD 0

/-- Write a table: a zero is not listed. -/
def Tab.put {w : Nat} (t : List (Nat × BitVec w)) (a : Nat) (v : BitVec w) : List (Nat × BitVec w) :=
  if v = 0 then Assoc.erase t a else Assoc.insert t a v

/-- The canonical form: keys rise strictly and no entry is zero. -/
def Tab.wf {w : Nat} (t : List (Nat × BitVec w)) : Bool :=
  Assoc.sorted t && t.all (fun c => decide (c.2 ≠ 0))

end Sys2Proof.Machine
end

