-- ==== Sys2Proof/Machine/RegReset.lean ====
section
/-!
DEFINITION. What every register reads right after reset, where that is not 0: the Reset columns of the register
tables. Values the spec does not give ("V", "Kept in MRAM", "Porter", "From flash", "From fuses") are design choices
that the assumption log names.
-/
namespace Sys2Proof.Machine

/-- The registers that are not 0 after reset, in address order. -/
def resetRegs : Tab 32 :=
  [(0x2000000000, 0x96000101#32),
   (0x2000010000, 0x20#32),
   (0x2000020000, 0x101#32),
   (0x2000020020, 0xFFFFFFFF#32),
   (0x2000020030, 0x10#32),
   (0x2000030000, 0x30#32)] ++
  (List.range 512).map (fun n => (0x2000042000 + 16 * n, 0x10#32)) ++
  [(0x2000070000, 0x70007#32),
   (0x2000080000, 0x10000#32)] ++
  (List.range 64).map (fun n => (0x2000080100 + 4 * n, 0xE0000000#32)) ++
  [(0x2000090000, 0x4#32),
   (0x2000090004, 0xFF#32),
   (0x2000090014, 0xFFFF#32)] ++
  (List.range 8).flatMap (fun k =>
    [(0x20000A0000 + 4096 * k, 0x14#32), (0x20000A0004 + 4096 * k, 0xFFFF0000#32)]
    ++ (List.range 8).map (fun c => (0x20000A0100 + 4096 * k + 16 * c, 0x800000#32))
    ++ (List.range 8).map (fun c => (0x20000A0208 + 4096 * k + 64 * c, 0x40000000#32))) ++
  [(0x20000D0000, 0x200200#32)] ++
  (List.range 2).map (fun n => (0x20000D0100 + 64 * n, 0xFF000000#32)) ++
  [(0x2000120000, 0x2#32),
   (0x20001200B8, 0x200000#32),
   (0x20001200BC, 0x100000#32),
   (0x2000130014, 0x8#32),
   (0x2000130100, 0x40630000#32),
   (0x2000130108, 0x40630000#32),
   (0x2000130110, 0x40630000#32),
   (0x2000130118, 0x40630000#32),
   (0x2000130120, 0x40630000#32),
   (0x2000130128, 0x40610000#32),
   (0x2000130130, 0x40610000#32),
   (0x2000130138, 0x40610000#32),
   (0x2000130140, 0x405F0000#32),
   (0x2000130148, 0x405F0000#32),
   (0x2000130150, 0x405A0000#32),
   (0x2000130158, 0x405A0000#32),
   (0x2000130160, 0x40460000#32),
   (0x2000130168, 0x405F0000#32),
   (0x2000130170, 0x405A0000#32),
   (0x2000130178, 0x405A0000#32),
   (0x2000130180, 0x405A0000#32),
   (0x2000140000, 0x2238#32)] ++
  (List.range 192).map (fun i => (0x2000141008 + 16 * i, 0xFFFFFFFF#32)) ++
  [(0x2000141C08, 0xFFFFFFFF#32), (0x2000141C0C, 0x40000000#32),
   (0x2000141C18, 0xFFFFFFFF#32), (0x2000141C1C, 0x40000000#32),
   (0x2000141C20, 0x3E8#32), (0x2000141C28, 0xFFFFFFFF#32), (0x2000141C2C, 0x40000000#32),
   (0x2000141C38, 0xFFFFFFFF#32), (0x2000141C3C, 0x40000000#32),
   (0x2000141C48, 0xFFFFFFFF#32), (0x2000141C4C, 0x40000000#32),
   (0x2000141C58, 0xFFFFFFFF#32), (0x2000141C5C, 0x40000000#32),
   (0x2000150000, 0x20#32),
   (0x2000160008, 0x80#32),
   (0x2000170000, 0x4000#32)]

end Sys2Proof.Machine
end

