-- ==== Sys2Proof/Machine/State.lean ====
section
/-!
DEFINITION. The state of one PSC-9600 module: plain data.
Every register that software sees is in `regs`, keyed by its address; what the spec keeps behind the registers is in
one record per unit.
-/
namespace Sys2Proof.Machine

/-- Why a step stops. -/
inductive Fault where
  /-- Raised by no command: the block has no fault of its own, an access that fails is answered and recorded
  (R9, R27, R31, R41). Kept so that the interface has a closed type. Safe. -/
  | none
  deriving DecidableEq, Repr

/-- Why a command is refused by the model. -/
inductive Refusal where
  /-- Raised by `exec` for a command that has no meaning yet. Safe. -/
  | notModelled (mnemonic : String)
  deriving DecidableEq, Repr

/-- The three variants of R1. -/
inductive Variant where
  | full | standard | lean
  deriving DecidableEq, Repr

/-- What the issuing master saw of its last access (R27, R36, R41): the model's own. -/
structure Response where
  status    : Nat := 0
  data      : Nat := 0
  coreFault : Bool := false
  deriving DecidableEq, Repr

/-- A unit's idle state (R22, R23): gated, entering its gated state, and a wake event held during entry. -/
structure Gate where
  gated    : Bool := false
  entering : Bool := false
  held     : Bool := false
  deriving DecidableEq, Repr

/-- A section of an image: kind, instance and payload (R45). -/
structure Section where
  kind : Nat
  inst : Nat
  body : List Byte
  deriving DecidableEq, Repr

/-! ### Guestbook (R412 to R425) -/

/-- An event on its way to the Guestbook writer, with the FRC, the operating time and the power cycle of its arrival. -/
structure GbEvent where
  code   : Nat
  source : Nat
  p1     : Nat
  p2     : Nat
  p3     : Nat
  at_    : Nat
  optime : Nat
  pcycle : Nat
  deriving DecidableEq, Repr

/-- A record (R412). -/
structure GbRec where
  code         : Nat
  severity     : Nat
  source       : Nat
  anchor       : Bool
  preLock      : Bool
  suppSat      : Bool
  inControl    : Bool
  repeatClosed : Bool
  seq          : Nat
  optime       : Nat
  rep          : Nat
  pcycle       : Nat
  suppressed   : Nat
  p1           : Nat
  p2           : Nat
  p3           : Nat
  deriving DecidableEq, Repr

/-- The writer behind the GB registers. -/
structure Gb where
  records  : List GbRec := []            -- newest first
  queue    : List GbEvent := []          -- oldest first, at most 256
  anchors  : List GbEvent := []          -- the store of R414, oldest first
  writing  : Option GbRec := none        -- checked, not yet in MRAM
  writeAt  : Nat := 0                    -- FRC at which its event reached the writer
  pend     : List (Nat × Nat) := []      -- suppressed events per code (R418)
  builtin  : Nat := 256                  -- tokens of the built-in class (R417)
  gained   : List (Nat × Nat) := []      -- FRC from which a class below DEPTH waits for its next token (R419)
  clearing : Option (Nat × Nat × Nat) := none   -- a clear is running: the old log's lost count, first lost code, last SEQ
  cursors  : Tab 32 := []                -- GB_CURSOR per master (R422)
  deriving DecidableEq, Repr

/-! ### Floor Plan loader (R44 to R74) -/

/-- The loader's commands. -/
inductive FplCmd where
  | verify | store (slot : Slot) | softApply | boot
  deriving DecidableEq, Repr

/-- A failure the loader reports: REASON, and the section header at which it failed. -/
structure FplFail where
  reason : Nat
  off    : Nat := 0xFFFFFFFF
  type   : Nat := 0
  deriving DecidableEq, Repr

/-- A load or command in progress: what the first pass found, its hash (R58), and whether the second pass over the same
bytes passes too, so that a STORE writes its slot (R65). -/
structure FplOp where
  cmd  : FplCmd
  src  : Nat := 0
  len  : Nat := 0
  fail : Option FplFail := none
  hash : List Byte := []
  good : Bool := false
  deriving DecidableEq, Repr

/-- A full image that has passed steps 1 to 14 of R54 and waits for its lock (R492). -/
structure FplImage where
  secs     : List Section
  serial   : Nat
  key      : Nat
  revoke   : Bool
  slot     : Slot
  fallback : Bool
  adopting : Bool                        -- the safety domain adopts another safety section
  deriving DecidableEq, Repr

/-- The loader behind the FPL registers. -/
structure Fpl where
  slotA       : List Byte := []
  slotB       : List Byte := []
  op          : Option FplOp := none
  plan        : List Section := []       -- S-class sections, locked
  soft        : List Section := []       -- W-class sections in force
  softSerial  : Nat := 0
  softNext    : Option (List Section) := none   -- verified, waiting for its landing (R68)
  failA       : Nat := 0                 -- REASON of each slot at this reset (R74, 0x0304)
  failB       : Nat := 0
  verified    : Option FplImage := none  -- passed steps 1 to 14 and held for the election (R492)
  deriving DecidableEq, Repr

/-! ### Power (R476 to R496) -/

/-- What is behind the PWR and PTR registers. -/
structure Power where
  mainOn     : Bool := false     -- P0 has passed and the module is powered
  running    : Bool := false     -- the control domain is out of reset
  frac       : Nat := 0          -- operating time not yet in the Porter's count at reset release, in ns (R485)
  c2frac     : Nat := 0          -- fraction of the class-2 backup, 1/32,768 s
  reserved   : Bool := false     -- the store has been full since P0, so has held the shutdown reserve (R480)
  cause      : Nat := 0          -- of the warning: 1 dip, 2 reserve, 3 short
  outputsOff : Bool := false     -- barrier frames carry OUT_VALID = 0 (R479)
  mramDone   : Bool := false     -- the MRAM commit of R479 has been made
  restart    : Bool := false     -- this start follows a shutdown (R483)
  strap      : Nat := 1          -- the link in the plug (R506)
  shadowOpt  : Nat := 0          -- MRAM shadows of the Porter's counters (R486)
  shadowCyc  : Nat := 0
  offSeal    : Nat := 0          -- switch changes while main power is off (R487)
  offLid     : Nat := 0
  offWrite   : Nat := 0
  porterStopped : Bool := false  -- its cell is below 2.2 V while main power is off (R486)
  cellMv     : Nat := 3000       -- cell voltage last reported, mV
  cellLow    : Bool := false     -- 0x0205 waits for the control domain
  warnAt     : Nat := 0          -- FRC of W (R478)
  dipAt      : Nat := 0          -- FRC at which DIP was set
  sinceW     : Nat := 0          -- ns from W until the control domain was unpowered (R483)
  returned   : Bool := false     -- the supply has returned since W (R435)
  beaconAt   : Option Nat := none                 -- FRC of the first BEACON sent (R491)
  beaconLast : Nat := 0                           -- FRC of the last one
  heard      : Option (Nat × Nat × Nat) := none   -- SERIAL, strap and role heard from the peer
  deferred   : Bool := false                      -- the election waits for P0 + 305 ms
  p0At       : Nat := 0                           -- P0 on the clock of safClock
  deriving DecidableEq, Repr

/-! ### Pigeonholes (R393 to R402) -/

/-- A stored message (R395). -/
structure PgnMsg where
  len     : Nat
  kind    : Nat
  seq     : Nat
  param   : Nat
  payload : List Byte
  visible : Bool
  opened  : Bool := false
  seenAt  : Nat := 0       -- FRC at which it became visible
  deriving DecidableEq, Repr

/-- A channel: its messages, oldest first, the count of accepted messages since lock, when its TIMEOUT began, and when its
sender last cleared one (R400). -/
structure PgnChan where
  msgs     : List PgnMsg := []
  accepted : Nat := 0
  since    : Nat := 0
  armAt    : Nat := 0
  deriving DecidableEq, Repr

/-! ### Time (R365 to R374) -/

/-- A master that is heard: since when it has been silent, and its announce interval, ns. -/
structure PtpHeard where
  m    : PtpMaster
  at_  : Nat
  gap  : Nat
  deriving DecidableEq, Repr

/-- A time domain behind its registers (R368). -/
structure TimDom where
  frac      : Nat := 0                    -- the 24 further fractional bits of OFFSET
  masters   : List PtpHeard := []         -- heard and not timed out
  selected  : Option PtpMaster := none
  hasDelay  : Bool := false               -- a path delay has been measured
  stepped   : Bool := false               -- the first Sync of ACQUIRING has stepped the domain
  goodSince : Option Nat := none          -- FRC since which |measured offset| < 1 µs
  bad       : Nat := 0                    -- consecutive Syncs with |measured offset| ≥ 1 µs
  lastSync  : Nat := 0                    -- FRC of the last usable Sync
  deriving DecidableEq, Repr

/-- A time class: its continuity term from an instant, and its value and rate from an instant while it follows no
domain (R369, R371). Rates are in units of 2^-40. -/
structure ClassClock where
  c      : Int := 0
  cAt    : Nat := 0
  base   : Int := 0
  baseAt : Nat := 0
  rate   : Int := 0
  deriving DecidableEq, Repr

/-- The time unit behind the TIM registers. -/
structure Tim where
  domA    : TimDom := {}
  domB    : TimDom := {}
  c1      : ClassClock := {}
  c2      : ClassClock := {}
  ppsLast : Option Nat := none            -- FRC of the last PPS_IN edge
  ppsOut  : Nat := 0                      -- edges given on PPS_OUT
  ppsSec  : Option Int := none            -- the class second of the last one
  ppsHigh : Nat := 0                      -- FRC until which it is high
  backAt  : Nat := 0                      -- FRC of the Porter's last refresh of class 2
  driftAt : Nat := 0                      -- FRC up to which the drift of the TCXO is counted (R434)
  deriving DecidableEq, Repr

/-! ### Communication channels (R335 to R391) -/

/-- An entry that a port has in flight. -/
structure Flight where
  queue    : Nat
  stamp    : Nat                -- class-1 time at its start
  attempts : Nat := 1
  window   : Bool := false      -- started in a time-triggered window
  deriving DecidableEq, Repr

/-- What a receive queue carries from entry to entry: SEQ, and the frames lost since the last entry. -/
structure RxCount where
  seq  : Nat := 0
  lost : Nat := 0
  deriving DecidableEq, Repr

/-- A filter write that is less than 2 µs old: the register, what it held, and when (R341). -/
structure FltOld where
  addr : Nat
  old  : Nat
  at_  : Nat
  deriving DecidableEq, Repr

/-- A CAN FD channel behind its registers. -/
structure CanChan where
  frames   : Nat := 0                     -- SEQ of R343
  lost     : Nat := 0                     -- LOST of the next entry
  seen     : Nat := 0                     -- frames seen while joining
  hpWait   : List (List Byte) := []       -- high-priority entries that an agreement will release
  flight   : Option Flight := none
  elig     : List (Nat × Nat) := []       -- PI of each TT queue at the last commit of the bound task (R350)
  offSince : Nat := 0
  recAt    : Nat := 0                     -- FRC at which recovery started
  byCmd    : Bool := false                -- recovery was started by BUS_ON
  lockAt   : Nat := 0                     -- FRC of the lock
  tried    : List (Nat × Nat × Nat) := [] -- per queue whose head has been tried and waits: its attempts, its last stamp
  winDone  : Option Int := none           -- class-1 instant of START of the window last used or missed
  known    : Bool := false                -- has been active since lock
  atK      : Bool := false                -- joining after a handover
  fltOld   : List FltOld := []
  deriving DecidableEq, Repr

/-- An Ethernet port behind its registers. -/
structure EthPort where
  flight  : Option Flight := none
  second  : Nat := 0                      -- the class-1 second that `group` counts
  group   : Nat := 0                      -- group-addressed frames admitted in it
  lastRow : Nat := 0                      -- the row of R358 by which the last frame went: the model's own
  igmp    : Nat := 0                      -- IGMP reports sent: the model's own
  held    : List (Nat × List Byte) := []  -- frames that wait for the one in flight: 0 Twin-Gallery, 2 heartbeat (R360)
  sent    : List (List Byte) := []        -- the frames that left last, in order, FCS excluded: the model's own
  deriving DecidableEq, Repr

/-- A remote station as a Stairway link holds it: its last good input data, its STATUS word and whether they are
stale (R388). -/
structure RioStation where
  status : Nat := 0
  misses : Nat := 0
  data   : List Byte := []
  stale  : Bool := true
  deriving DecidableEq, Repr

/-- A Stairway link behind its registers (R383 to R390). -/
structure RioLink where
  joined   : Bool := false                 -- past the join point of R490
  cycle    : Option Nat := none            -- CYCLE of the POLL that has not returned
  ret      : Option (List Byte) := none    -- the return accepted for the coming cycle
  stations : List (Nat × RioStation) := []
  outWait  : Option Nat := none            -- CYCLE of the OUTPUT that has not returned
  idWait   : Option Nat := none            -- CYCLE of the IDENT that has not returned
  sent     : List Byte := []               -- payload of the last frame sent: the model's own
  sentId   : List Byte := []               -- payload of the last IDENT sent: the model's own
  turned   : Nat := 0                      -- frames turned around: the model's own
  polled   : Option Nat := none            -- start of the cycle of its task in which the last POLL left (R387)
  sentAt   : Nat := 0                      -- FRC at which it left
  deriving DecidableEq, Repr

/-! ### Field islands (R290 to R334) -/

/-- A parameter as an island has received it: the last value, the number of the frame that carried it, and the value
applied (R297). -/
structure IslParam where
  val     : Nat
  no      : Nat
  applied : Option Nat := none
  deriving DecidableEq, Repr

/-- A channel of an island: what its master commands, and what the field side holds. -/
structure IslChan where
  cmd      : Nat := 0                    -- VALUE of the committed output entry
  word     : Nat := 0                    -- output word that the island follows
  raw      : Bool := false               -- terminal state as sampled (R301, R308); path A of an SDI
  rawB     : Bool := false               -- path B of an SDI
  state    : Bool := false               -- state accepted after FILTER
  run      : Nat := 0                    -- consecutive samples of a state not yet accepted
  wb       : Bool := false               -- wire break
  wbAt     : Nat := 0                    -- safety-clock instant of its last start or end
  count    : Nat := 0                    -- rising edges, modulo 2^20
  last     : Nat := 0                    -- count of the last good frame
  edges    : List (Nat × Nat) := []      -- edges the master has taken in the last second, with their FRC
  closed   : Bool := false               -- output switch closed
  onAt     : Option Nat := none          -- since when; instants of the field side are on the clock of safClock
  offAt    : Nat := 0                    -- when a current limit last opened it
  misAt    : Option Nat := none          -- since when its readback has not agreed (R308, R326)
  misTold  : Bool := false               -- that mismatch has been recorded
  agrAt    : Option Nat := none          -- AO: since when it has agreed (R326)
  defAt    : Option Nat := none          -- AO: since when AT_LIMIT has kept it below its target (R323)
  fitAt    : Option Nat := none          -- AO: since when it has been within 0.1 mA of its target (R323)
  overload : Bool := false
  retrying : Bool := false               -- on, at a retry
  grouped  : Bool := false               -- opened by the island's current limit
  waiting  : Bool := false               -- waiting for its turn after a sag release
  cur      : Nat := 0                    -- AI: current after trims and filter; AO: measured current; nA
  unf      : Nat := 0                    -- AI: current after trims, before the filter, nA
  band     : Nat := 3                    -- AI: band of R318, 0 to 6
  next     : Nat := 3                    -- AI: band that consecutive values lie in
  nextRun  : Nat := 0
  aiAt     : Nat := 0                    -- AI: last converter value
  bandAt   : Nat := 0                    -- entry of the fault band
  buck     : Nat := 0                    -- AO_ACTIVE: buck setting, mV
  buckAt   : Nat := 0                    -- when it was last formed
  buckFor  : Option Nat := none          -- the target it was formed for, nA
  vterm    : Nat := 0                    -- terminal voltage, mV
  minDrop  : Bool := false               -- AO_ACTIVE: the regulator is at its minimum drop
  stopped  : Bool := false               -- AO_PASSIVE: the loop side has stopped
  atLimit  : Bool := false
  thermal  : Bool := false
  open_    : Bool := false
  compAt   : Nat := 0                    -- when COMPLIANCE was last set (R323)
  rowAt    : Option Nat := none          -- AO: since when row 4 of R325 does not apply
  compOff  : Nat := 0                    -- AO: how long it has not applied since COMPLIANCE was set (R323)
  thermAt  : Nat := 0
  txOver   : Bool := false               -- AI: transmitter supply in its limit
  txAt     : Nat := 0                    -- its last start or end
  temp     : Int := 0                    -- output stage, 0.1 °C
  deriving DecidableEq, Repr

/-- A path's safety field as an island holds it (R309). -/
structure IslSafe where
  mask  : Nat := 0
  lines : Nat := 0
  sseq  : Nat := 16        -- none yet
  at_   : Nat := 0         -- when a good field last advanced it
  stale : Bool := true
  deriving DecidableEq, Repr

/-- An island and its barrier master. -/
structure Island where
  chans    : List (Nat × IslChan) := []
  txCount  : Nat := 0                    -- frames the master has sent since reset
  sent     : List Byte := []             -- the frame on its way to the island
  sentNo   : Nat := 0
  txSlot   : Nat := 0                    -- its slot (R292), in 10 µs of the FRC
  rxSlot   : Nat := 0                    -- the last inbound slot
  badRun   : Nat := 0                    -- consecutive bad inbound slots
  goodRun  : Nat := 0                    -- consecutive good frames with CFG_OK = 1
  lastSeq  : Option Nat := none          -- SEQ of the last good inbound frame
  faultAt  : Nat := 0
  restore  : Nat := 0                    -- frames that still carry RESTORE
  back     : List Byte := []             -- the last inbound frame that arrived: the model's own
  alive    : Bool := false               -- field supply above 11.0 V, logic running
  seq      : Nat := 0                    -- inbound frames the island has sent
  params   : List (Nat × IslParam) := []
  cfgOk    : Bool := false
  rxNo     : Option Nat := none          -- number of the last good frame
  frameAt  : Nat := 0                    -- end of that frame
  smpAt    : Nat := 0                    -- last sample of the digital terminals
  ovRun    : Nat := 0                    -- consecutive good frames with OUT_VALID = 1
  fs       : Bool := true                -- in its fail state
  fsCause  : Nat := 0                    -- 0 watchdog, 1 OUT_VALID = 0
  warn     : Bool := false
  sagOff   : Bool := false
  unc      : Bool := false               -- input values marked uncertain
  ready    : Bool := false
  sagAt    : Nat := 0
  underAt  : Option Nat := none          -- since when the supply has measured below 15.0 V
  overAt   : Option Nat := none          -- since when above 19.2 V
  restAt   : Nat := 0                    -- the last channel that a sag release switched on
  low      : Nat := 0xFFFF               -- lowest supply since the warning, mV
  supply   : Nat := 0                    -- mV
  temp     : Int := 0                    -- 0.1 °C
  gTotal   : Option Nat := none          -- an island current limit episode: the total at its start
  gMask    : Nat := 0                    -- channels opened in it
  gAt      : Nat := 0                    -- its last step, or its end
  kill     : Bool := true                -- the kill line is asserted
  ramp     : Option (Nat × Bool) := none -- the ramp of a handover in its converters: FRC of S, and whether up (R214)
  safeA    : IslSafe := {}
  safeB    : IslSafe := {}
  inA      : Nat := 0                    -- last good inbound safety check of path A
  inB      : Nat := 0
  inStale  : Nat := 0                    -- paths whose inbound field the safety domain holds stale
  deriving DecidableEq, Repr

/-- A key trim session (R332). -/
structure KeySession where
  island : Nat
  ch     : Nat
  span   : Bool          -- SPAN, else ZERO
  before : Nat           -- the trim register before the session
  pressAt : Nat := 0     -- FRC of the last key press
  deriving DecidableEq, Repr

/-! ### Safety domain (R245 to R289) -/

/-- A Twin-Gallery connection (R274 to R286). -/
structure TgConn where
  state    : Nat := 0                      -- STATE of R286
  seq      : Option Nat := none            -- last accepted SEQ
  accepted : List Byte := []               -- last accepted telegram, padding removed
  payload  : List Byte := []               -- what the application reads from its last cycle start on (R281)
  valid    : Bool := false
  window   : Option (Nat × List Byte) := none   -- open window: network of the first copy, and the copy
  winAt    : Nat := 0                      -- when it opened; instants on the clock of safClock
  held     : Option (List Byte) := none    -- copy of the excused network (R282)
  heldAt   : Nat := 0
  acceptAt : Nat := 0                      -- the last accepted telegram, or the start
  failAt   : Nat := 0                      -- when it last failed
  reportAt : Option Nat := none            -- its last report of a second (R286)
  count    : Nat := 0
  missA    : Nat := 0
  missB    : Nat := 0
  mismatch : Nat := 0
  crc      : Nat := 0
  stale    : Nat := 0
  len      : Nat := 0
  unknown  : Nat := 0
  seqBack  : Nat := 0
  late     : Nat := 0
  gap      : Nat := 0
  txSeq    : Nat := 0                      -- next SEQ to send
  limit    : Nat := 0                      -- reservation in the safety store (R280)
  cycles   : Nat := 0                      -- safety cycles since RUN, modulo PERIOD
  deriving DecidableEq, Repr

/-- A function's entry of the safety store (R266). -/
structure SafStored where
  state  : Nat
  cause  : Nat
  remain : Nat
  spent  : Nat           -- minutes spent in the Excursion
  deriving DecidableEq, Repr

/-- A running Excursion (R263), on the clock of safClock: when it began or was resumed, the minutes spent before that,
and when its timer reaches 0. -/
structure SafExc where
  since  : Nat
  before : Nat := 0
  until_ : Nat
  deriving DecidableEq, Repr

/-- The safety domain and the trip matrix behind their registers. -/
structure Saf where
  powered   : Bool := false
  section_  : List Byte := []              -- the held SAFETY payload (R66), in its own store
  offered   : List Byte := []              -- the section being adopted
  failA     : Bool := false                -- SPA, SPB declared failed
  failB     : Bool := false
  confirmed : Bool := false                -- the loader has confirmed or adopted the held section
  forced    : Bool := false                -- forced trip (R249), until a reset of the safety domain
  agree     : Nat := 0                     -- consecutive cycles with agreeing demands
  inSafe    : Nat := 0                     -- cycles spent in SAFE
  resumed   : Bool := false                -- one processor resumes a stored Excursion (R251)
  ittA      : Nat := 0                     -- ITT0 to 47 as SPA last wrote them
  ittB      : Nat := 0
  demA      : Nat := 0                     -- demands for the 16 channels of islands 0 and 1
  demB      : Nat := 0
  itt50     : Bool := false
  itt51     : Bool := false
  latchAt   : List (Nat × Nat) := []       -- per sink, its safety-clock instant of latching
  clock0    : Nat := 0                     -- the clock of the safety domain and the field sides at the FRC's 0 (R20, R21), ns
  safeAt    : Nat := 0                     -- entry of SAFE; instants of this record are on the clock of safClock
  offerAt   : Nat := 0                     -- start of step 14 with the offered section
  cycleAt   : Option Nat := none           -- end of the last safety cycle
  hbAt      : Nat := 0                     -- the control domain's last heartbeat
  minAt     : Nat := 0                     -- the last minute that was stored
  exc       : List (Nat × SafExc) := []    -- per function in EXCURSION
  excM      : Option SafExc := none        -- the matrix's
  checkAt   : List (Nat × Nat) := []       -- per function with a check, its start
  checkMAt  : Nat := 0
  storeM    : Option (Nat × Nat × Nat) := none  -- non-volatile: planes connected, minutes left and spent of the matrix
  excCheck  : Option Bool := none          -- its return check: every test passed so far
  bad       : List (Nat × List Nat) := []  -- per function, its channels in fault
  clean     : List (Nat × Bool) := []      -- per function with a check running, no fault since its start
  store     : List (Nat × SafStored) := [] -- non-volatile (R266)
  ons       : Nat := 0                     -- channels that read ON at their line's last sample
  lineGood  : List (Nat × Nat) := []       -- per line, consecutive samples without a fault
  lineBadAt : List (Nat × Nat) := []       -- per line, its last sample with a fault
  pulse     : List (Nat × Nat) := []       -- per line, its last off edge
  smpDue    : Nat := 0                     -- lines whose pulse is not yet sampled
  sdiA      : Nat := 0                     -- SDI states on path A, as the application reads them
  sdiB      : Nat := 0
  tg        : List (Nat × TgConn) := []
  tgMod     : TgConn := {}                 -- the module-wide counters of R279
  sent      : List (Nat × List Byte) := [] -- copies of the last cycle end, with their ports: the model's own
  hbTime    : Int := 0                     -- class-1 time that the heartbeat delivered (R278)
  darkAt    : List (Nat × Nat) := []       -- per FTO, its last dark test
  keyMaint  : Bool := false                -- keyswitch, safety contact shows MAINT (R507)
  deriving DecidableEq, Repr

/-! ### Rounds and wear (R426 to R437) -/

/-- A grant (R427): the time left in µs, when its window closes, and whether it has been served. -/
structure RndGrant where
  left   : Nat
  until_ : Nat
  served : Bool := false
  deriving DecidableEq, Repr

/-- The Rounds engine behind its registers. -/
structure Rnd where
  grants  : List RndGrant := []            -- oldest first; the first is being served
  work    : List (Nat × Nat) := []         -- per item, µs done in this pass
  steps   : List (Nat × Nat) := []         -- per item, steps done in this pass
  ended   : List Nat := []                 -- items that this pass has ended with a fault
  startAt : Nat := 0                       -- operating time at which the pass started, 1/1024 s
  late    : Bool := false                  -- 0x1103 has been recorded for this pass
  freeAt  : Nat := 0                       -- FRC at which the step in progress ends
  last    : Option (Nat × Nat) := none     -- its item and µs
  stopAt  : Option Nat := none             -- FRC of the last STOP grant
  heatAt  : Nat := 0                       -- FRC of the last THERMAL_STRESS_UPDATE
  served  : List (Nat × Nat) := []         -- FRC and µs of the steps of the last second
  deriving DecidableEq, Repr

/-- What the wear monitors keep in MRAM behind the WR registers. -/
structure Wear where
  samples : List (Nat × List (Nat × Nat)) := []   -- per indicator: operating hour and Q, newest first, at most 101
  warned  : List Nat := []                 -- indicators whose 0x1110 has been recorded
  ended   : List Nat := []                 -- indicators whose 0x1111 has been recorded
  tenths  : List (Nat × Nat) := []         -- thermal stress below 1 °C·s, in tenths
  period  : Nat := 0                       -- 10 h periods of operating time sampled
  drift   : Nat × Nat := (0, 0)            -- in the present one: Σ |RATE| of class 1's LOCKED source over its ns, and the ns
  deriving DecidableEq, Repr

/-! ### Sealed Annex (R438 to R455) -/

/-- A record of the Sealed Guestbook (R451). -/
structure AnxRec where
  scode : Nat
  flags : Nat
  sseq  : Nat
  sec   : Nat
  pset  : Nat
  p1    : Nat
  p2    : Nat
  p3    : Nat
  deriving DecidableEq, Repr

/-- A measuring line (R442): totals with their fractions, in mL, mL at 15 °C and g; density and temperature of the last
interval. -/
structure AnxLine where
  vol   : Rat := 0
  v15   : Rat := 0
  mass  : Rat := 0
  rho   : Rat := 0        -- kg/m³ × 1,000
  temp  : Rat := 0        -- 0.01 °C
  vcf   : Rat := 1
  beyond : Bool := false
  since : Rat := 0        -- MASS at the last result
  rseq  : Nat := 0
  deriving DecidableEq, Repr

/-- A current input (R441, R442): in a fault band, its band, its value and its last value from the measurement band in nA,
the interval at which the fault began, and the mass totalled under substitution. -/
structure AnxInput where
  fault : Bool := false
  band  : Nat := 3         -- row of R318's table, the row that the last samples speak for, and how many of 100 µs
  next  : Nat := 3
  run   : Nat := 0
  cur   : Nat := 4000000
  last  : Nat := 4000000
  at_   : Nat := 0
  mass  : Rat := 0
  deriving DecidableEq, Repr

/-- The Annex, and the control domain's ANX port. -/
structure Anx where
  powered   : Bool := false
  lines     : List (Nat × AnxLine) := []
  inputs    : List (Nat × AnxInput) := []
  ms10      : Nat := 0                            -- intervals since start-up
  params    : List (Nat × Nat) := [(0x41, 1000)]  -- by number; 32-bit patterns
  key       : List Byte := List.replicate 32 0    -- REPORT_KEY
  due       : List (Nat × Nat × List Byte) := []  -- accepted changes that wait for the next interval
  pset      : Nat := 0
  sgb       : List AnxRec := []                   -- oldest first
  sseq      : Nat := 0
  committed : List (Nat × AnxLine) := []
  name      : List Byte := List.replicate 12 0
  version   : Nat := 0
  build     : Nat := 0
  swchk     : List Byte := List.replicate 32 0
  ifhash    : List Byte := List.replicate 32 0
  clock     : Int := 0                            -- its class-2 time at an instant, and the offset that it slews off
  clockAt   : Nat := 0                            -- instants of the Annex are on the clock of safClock
  offset    : Int := 0
  drift     : Int := 0                            -- in TIME_HOLD, its last rate: -1, 0 or 1 of 1,000 ppm
  wordAt    : Nat := 0                            -- of the last usable word, or of start-up
  intAt     : Nat := 0                            -- of the last interval, results, STATUS, repost, commit
  resultAt  : Nat := 0
  lastStat  : Nat := 0
  repostAt  : Nat := 0
  commitAt  : Nat := 0
  t2        : Int := 0                            -- at the end of the last interval
  hold      : Bool := false                       -- TIME_HOLD
  word      : Int := 0                            -- the last usable time word
  switch    : Bool := false
  writeCnt  : Nat := 0
  passes    : Nat := 0
  dropped   : Nat := 0
  fault     : Bool := false
  waiting   : List (Nat × List Byte) := []        -- reports, oldest first: KIND, payload without its MAC
  skipped   : Nat := 0
  answer    : List Byte := []                     -- last answer of the parameter port: the model's own
  -- the ANX port
  ident     : Option (List Byte) := none          -- an IDENT_IF that has arrived
  compared  : Bool := false                       -- an IDENT_IF has been compared since lock
  reident   : Nat := 0                            -- words still to carry REIDENT
  asked     : Bool := false                       -- the last word carried REIDENT
  sent      : List Byte := []                     -- the last time word: the model's own
  sentAt    : Option Nat := none                  -- its FRC
  statusAt  : Nat := 0                            -- FRC of the last STATUS, or of lock
  diff      : Option Int := none                  -- Porter count less WRITE_CNT, found at lock
  told      : Int := 0                            -- the difference that 0x1208 has recorded
  deriving DecidableEq, Repr

/-- A running waveform of a pixel (R463): the frame codes to come, the level it leads to, its band, and the update it
serves. -/
structure NbWave where
  codes : List Nat
  tgt   : Nat
  band  : Nat
  upd   : Option Nat := none
  deriving DecidableEq, Repr

/-- A pending target (R463). -/
structure NbPend where
  tgt  : Nat
  fast : Bool
  upd  : Option Nat := none
  deriving DecidableEq, Repr

/-- A pixel of the panel (R463, R465). -/
structure NbPix where
  level  : Nat := 0
  ledger : Int := 0
  indet  : Bool := false
  sat    : Bool := false
  due    : Bool := false
  pend   : Option NbPend := none
  wave   : Option NbWave := none
  deriving DecidableEq, Repr

/-- An update taken and not completed (R461, R462). -/
structure NbUpd where
  no      : Nat
  refused : Option (Nat × Nat) := none     -- STATUS and DETAIL, decided at its take or by a rail fault
  clean   : Bool := false                  -- a CLEAN whose clean has not completed
  cut     : Bool := false                  -- a shutdown dropped some of its targets
  band    : Option Nat := none
  frames  : Nat := 0
  changed : Nat := 0
  deriving DecidableEq, Repr

/-- Work of the engine on many pixels (R464). -/
inductive NbJob where
  | none | black | white | refresh | balance
  deriving DecidableEq, Repr

/-- What is behind the NB registers. -/
structure Nb where
  pix       : List (Nat × NbPix) := []     -- by 1024 y + x; frame memory
  mram      : List (Nat × NbPix) := []     -- the level plane and the ledger in MRAM (R469)
  blocks    : List (Nat × Nat × Nat) := [] -- per 32 × 32 block: waveforms, residue cleared (R434), in MRAM
  upds      : List NbUpd := []             -- oldest first, at most 8
  nextUpd   : Nat := 0
  job       : NbJob := .none
  stripDue  : Bool := false                -- the identity strip is to be redrawn (R467)
  stripWhy  : Nat := 2                     -- cause of 0x1309
  recovery  : Bool := false                -- a recovery clean is due or running (R472)
  indets    : Nat := 0                     -- INDET pixels when it began
  lightWait : Bool := false                -- a clean for the frontlight is due or running (R470)
  lightDraw : Bool := false                -- that clean is done, its strip redraw is not
  cleanCmd  : Bool := false                -- NB_CMD CLEAN is due
  balCmd    : Bool := false                -- NB_CMD BALANCE is due
  boxDue    : Bool := false                -- the trim box is to be drawn
  fi        : Nat := 0                     -- frames since the last quiescent commit
  faultRun  : Nat := 0                     -- consecutive rises that ended in a fault
  doneAt    : Nat := 0                     -- FRC of the last completion
  waveAt    : Nat := 0                     -- FRC at which the last waveform ended
  frameAt   : Nat := 0                     -- FRC before which no frame begins
  idleAt    : Nat := 0                     -- FRC of the last idle scan
  fresh     : Bool := true                 -- no lock since main power-on
  deriving DecidableEq, Repr

/-! ### Axis Unit (R162 to R186) -/

/-- The last move onto a position (R169): from rest at `p0` to `t`, four segments of `n` intervals, `i` of them done. -/
structure AxCreep where
  p0 : Int
  t  : Int
  n  : Nat
  i  : Nat
  deriving DecidableEq, Repr

/-- An axis behind its registers. Position, velocity and acceleration are in units of 2^-32 step, step/s, step/s²
(R169). -/
structure Axis where
  block   : List Byte := List.replicate 32 0   -- command block in force
  next    : Option (List Byte) := none         -- committed, not yet in force
  err     : Nat := 0                           -- ERR of the last refused command
  pos     : Int := 0
  vel     : Int := 0
  acc     : Int := 0
  plan    : Option (Int × Int × Int) := none   -- position, velocity, acceleration at the next step boundary
  creep   : Option AxCreep := none             -- after that boundary
  tgt     : Int := 0                           -- POSITION target after clipping
  pass    : Bool := false                      -- comes to rest and then returns to its target (R172)
  stay    : Bool := false                      -- past a virtual limit: no automatic return (R175)
  keep    : Option (Nat × Nat) := none         -- deceleration and jerk of a limit stop (R173, R175)
  lims    : Nat × Nat × Nat × Nat := (0, 0, 0, 0)   -- VMAX, AMAX, DMAX, JMAX of the present plan
  count   : Nat := 0                           -- encoder count, 48 bits
  hist    : List Nat := []                     -- counts of the last 101 step boundaries, newest first
  pc0     : Int := 0                           -- deviation reference
  e0      : Nat := 0
  loss    : Bool := false                      -- this module's receiver reports an open or shorted pair (R178)
  badTo   : Nat := 0                           -- FRC until which an illegal transition marks the quality bad
  beyond  : Nat := 0                           -- consecutive checked boundaries outside DEV_WIN
  loopVel : Int := 0                           -- a loop's applied output, steps/s (R166)
  stageLo : Option Nat := none                 -- staged limits (R174), with the master that staged last
  stageHi : Option Nat := none
  stager  : Nat := 0
  stageGo : Bool := false                      -- the owning task has committed
  since   : Nat := 0                           -- FRC at entry of SETTLING or AT_REST: the model's own
  lastAt  : Nat := 0                           -- FRC of the last step boundary
  resume  : Bool := false                      -- a takeover is waiting for AXIS_RESUME
  checkAt : Nat := 0                           -- FRC from which the deviation is checked (R185)
  neg     : Bool := false                      -- direction of travel
  dirAt   : Nat := 0                           -- FRC of the last change of DIR
  edges   : List Nat := []                     -- FRC of the rising step edges of the present interval
  fallAt  : Nat := 0                           -- FRC of the falling edge of the last step
  en      : Option Nat := none                 -- EN active from this FRC
  short   : Option Nat := none                 -- SHORT active from this FRC
  lineAt  : Option Nat := none                 -- FRC at which EN or SHORT last became inactive
  deriving DecidableEq, Repr

/-! ### Loop Engine (R107 to R127) -/

/-- A COMMIT or INIT that waits for its tick (R123): the FRC from which a tick takes it (in a pair not before the owning
task's next commit, R126), whether it is an INIT, and who wrote it. -/
structure TunePend where
  at_    : Option Nat
  init   : Bool
  master : Nat
  deriving DecidableEq, Repr

/-- A loop behind its registers. The shadow set is in the LOOP registers; the active set lists the same 18 words. -/
structure Loop where
  active : List Nat := []
  i      : Int := 0
  dPrev  : Int := 0
  xdPrev : Int := 0
  uPrev  : Int := 0
  pend   : Option Int := none            -- output computed, applied at the next tick (R112)
  cmd    : List Byte := List.replicate 16 0
  safe   : Bool := true                  -- in manual at its safe value (R117)
  last   : Nat := 0                      -- how it was last evaluated: 0 manual, 1 auto, 2 held by PV_BAD
  bad    : Bool := false
  badN   : Nat := 0                      -- ticks spent bad
  held   : Bool := false                 -- the destination was not following at the last tick
  dl     : Bool := false                 -- a deadline fault since the task's previous latch (R111)
  tune   : Option TunePend := none
  lastX  : Option Int := none            -- table index at the last tick, and the direction memory (R121)
  down   : Bool := false
  deriving DecidableEq, Repr

/-- The engine: its first tick, the ticks done, the CRC-64 register of R126, and the loops. -/
structure LoopUnit where
  tick0 : Option Nat := none               -- FRC of the tick with count `base`; none while there are no loops
  base  : Nat := 0
  ticks : Nat := 0                         -- count of the next tick
  crc   : Nat := 0xFFFFFFFFFFFFFFFF
  loops : List (Nat × Loop) := []
  deriving DecidableEq, Repr

/-! ### Dispatch Solver (R128 to R161) -/

/-- A member of a working set (R138). -/
inductive SlvMember where
  | lower (j : Nat) | upper (j : Nat) | row (i : Nat) | eq (i : Nat)
  deriving DecidableEq, Repr

/-- A loaded problem: binary64 bit patterns, H as its lower triangle row by row (R128, R137). -/
structure SlvProblem where
  n      : Nat := 0
  m      : Nat := 0
  p      : Nat := 0
  h      : List Nat := []
  f      : List Nat := []
  a      : List Nat := []
  b      : List Nat := []
  ae     : List Nat := []
  be     : List Nat := []
  lb     : List Nat := []
  ub     : List Nat := []
  types  : List Nat := []
  norms  : List Nat := []        -- of the m inequality rows
  normsE : List Nat := []        -- of the p equality rows
  delta  : Nat := 0              -- added to the diagonal of H (R152)
  deriving DecidableEq, Repr

/-- A row of the factor LDLᵀ: its entries of L, its pivot and the pivot's reciprocal. -/
structure SlvFactorRow where
  l : List Nat
  d : Nat
  r : Nat
  deriving DecidableEq, Repr

/-- The factor of K_W (R138, R139): its rows, the free variables and the working rows in pivot order, and the updates
since it was last formed from the loaded data. -/
structure SlvFactor where
  rows    : List SlvFactorRow := []
  vars    : List Nat := []
  cons    : List SlvMember := []
  updates : Nat := 0
  deriving DecidableEq, Repr

/-- A feasible iterate: x, its objective and largest violation, its working set, the multipliers and ν of the solve it
comes from, and the factor of K_W, while that is of the problem being solved. -/
structure SlvIterate where
  x    : List Nat
  obj  : Nat
  viol : Nat
  w    : List SlvMember
  mult : List (SlvMember × Nat)
  nu   : List Nat
  fact : Option SlvFactor
  deriving DecidableEq, Repr

/-- How the next member is chosen (R138, R141). -/
inductive SlvMode where
  | normal | lowest | primal
  deriving DecidableEq, Repr

/-- The request in progress. -/
structure SlvRequest where
  sq      : Nat                          -- solver queue
  entry   : List Byte                    -- bytes 0x00 to 0xDF, copied at take
  seq     : Nat
  posted  : Nat
  taken   : Nat
  prob    : SlvProblem := {}
  sig     : Nat := 0
  hash    : Nat := 0
  w       : List SlvMember := []
  x       : List Nat := []
  fact    : SlvFactor := {}              -- the factor of K_W that is held
  mode    : SlvMode := .normal
  best    : Option SlvIterate := none
  mult    : List (SlvMember × Nat) := [] -- multipliers of W at the last solve
  nu      : List Nat := []               -- and ν
  flags   : Nat := 0
  iters   : Nat := 0
  seen    : List Nat := []               -- hashes of the working sets entered, at most 1,024 (R141)
  stopped : Option SlvStep := none       -- the step that the deadline kept from beginning (R154)
  cap     : Option Nat := none           -- the deadline that a power-fail warning sets (R480, R481)
  done    : Option (Nat × Nat) := none   -- STATUS and DETAIL, once decided
  deriving DecidableEq, Repr

/-- A warm-start slot (R145). -/
structure SlvSlot where
  n      : Nat
  m      : Nat
  p      : Nat
  sig    : Nat
  hash   : Nat
  w      : List SlvMember
  x      : List Nat
  factor : Option SlvFactor
  reg    : Bool
  deriving DecidableEq, Repr

/-- The Solver behind its registers. -/
structure Slv where
  req     : Option SlvRequest := none
  slots   : List (Nat × SlvSlot) := []
  seqs    : List (Nat × Nat) := []       -- requests taken since lock, per solver queue
  clears  : List (Nat × Nat) := []       -- slot clears that wait for the request's end: slot (16 all), master
  crc     : Nat := 0xFFFFFFFFFFFFFFFF    -- CRC-64 register of R157
  idleAt  : Nat := 0                     -- FRC of the last completion
  permits : List SlvPermit := []         -- permits of the active module not yet acted on, oldest first (R157)
  deriving DecidableEq, Repr

/-! ### Scan Engine (R75 to R106) -/

/-- A force (R102): a variable's ID and TYPE, or a physical target; 64-bit value. -/
structure Force where
  phys : Bool
  tgt  : Nat
  type : Nat
  val  : Nat
  deriving DecidableEq, Repr

/-- An instance of the active table (R97) with what the scans have made of it (R89 to R91). A value of none is the
initial value of its program, which is part of the native code. -/
structure Inst where
  id    : Nat
  type  : Nat
  off   : Nat
  size  : Nat
  task  : Nat
  flags : Nat
  data  : Option (List Byte) := none
  et    : Nat := 0                         -- ns
  m     : Bool := false
  run   : Bool := false
  q     : Bool := false                    -- Q of the last invocation
  fresh : Bool := true                     -- not invoked yet
  stepped : Bool := false                  -- ET has advanced in the present scan (R90)
  deriving DecidableEq, Repr

/-- A task behind its registers. -/
structure ScanTask where
  input     : List Byte := []
  output    : List Byte := []              -- working output image
  committed : List Byte := []
  safe      : Bool := true                 -- the committed image is the safe image
  running   : Option Nat := none           -- FRC at the start of an execute that has not returned
  start     : Nat := 0                     -- FRC of the present cycle's start
  tick      : Nat := 0                     -- TICK of it
  open_     : Bool := false                -- its commit point is to come
  latched   : Bool := false                -- it latched and its execute ran
  skipped   : Bool := false                -- its latch was skipped (R93)
  returned  : Bool := false
  good      : Nat := 0                     -- consecutive good cycles in STARTING
  fault     : Bool := false                -- the miss limit is reached: FAULT_STOP at the commit point
  trapped   : Bool := false                -- the safe image is due at the commit point (R95)
  restart   : Bool := false                -- a RESTART is waiting
  done      : Nat := 0                     -- CYCLE of the last commit (R212)
  waits     : Bool := false                -- a commit waits for the peer's digest (R203, R204)
  late      : Bool := false                -- on the standby: the commit waits for the execute (R204)
  t1        : Int := 0                     -- class-1 time at its input latch (R16), ns
  t1dom     : Nat := 0                     -- and its domain (R196)
  used      : Nat := 0                     -- core time that its present execute has had (R77), ns
  deriving DecidableEq, Repr

/-- The Scan Engine behind its registers. -/
structure Scan where
  tasks    : List (Nat × ScanTask) := []
  lastTick : Option Nat := none            -- FRC of the last base tick
  ticks    : Nat := 0                      -- base ticks since lock
  origin   : Option Int := none            -- FRC of the first tick of the grid (R76), negative where another module began it
  cmds     : List AgrCmd := []             -- commands that wait for the next tick, oldest first
  dues     : List (Nat × Nat) := []        -- on the standby: ticks whose cycle starts wait for their agreement: TICK, FRC
  insts    : List Inst := []
  progs    : List (Nat × List Byte) := []  -- per task, SHA-256 of the package its code came from (R227)
  dsize    : List (Nat × Nat) := []        -- per task, DATA_SIZE
  shadow   : List Byte := []               -- the package in the shadow area (R98)
  hash     : List Byte := []               -- of the source's first pass
  early    : Nat := 0                      -- REASON found before the package was read, 0 none
  landing  : Option Nat := none            -- TICK count of the landing; none while in STOP
  coreAt   : List (Nat × Nat) := []        -- per core, FRC up to which core time has been counted (R77)
  forces   : List Force := []
  deriving DecidableEq, Repr

/-! ### Banister (R187 to R244) -/

/-- An output digest (R201). -/
structure Digest where
  task  : Nat
  flags : Nat
  cycle : Nat
  value : Nat
  deriving DecidableEq, Repr

/-- A Banister frame as it was sent (R189); LEN is the length of the payload. -/
structure BanFrame where
  type    : Nat
  flags   : Nat
  seq     : Nat
  sentFrc : Nat
  payload : List Byte
  crc     : Nat := 0
  deriving DecidableEq, Repr

/-- A handover in progress (R212 to R215), on the module that gives up control (`old`) or on the one that takes it. -/
structure Handover where
  old     : Bool
  trigger : Nat
  before  : Nat                            -- role before
  at_     : Nat                            -- FRC of the trigger, or of the receipt of the notice
  lastC   : Nat                            -- FRC of the last commit point of the fastest task
  ramp    : Option Nat := none             -- S
  ended   : Option Nat := none             -- FRC at which the old module's outputs were released
  skipped : Nat := 0
  deriving DecidableEq, Repr

/-- An inquiry (R208): the task whose digest differed, the start, and the results held: failed checks. -/
structure Inquiry where
  task  : Nat
  at_   : Nat
  own   : Option Nat := none
  peer  : Option (Option Nat) := none      -- some none: counted as failed without a result
  deriving DecidableEq, Repr

/-- A lane (R218). -/
structure Lane where
  lastSeq : Nat := 0                       -- SEQ of the last valid frame on it
  lastAt  : Nat := 0                       -- FRC of that frame
  downAt  : Nat := 0
  backAt  : Option Nat := none             -- FRC of the first valid frame since
  deriving DecidableEq, Repr

/-- What a cold module logs for its replay (R232), in the order of arrival. -/
inductive JoinLog where
  | agreement (g : Agreement)
  | mirrored (seq : Nat) (entries : List Mirrored)
  | regs (entries : List RegMirror)
  | digest (d : Digest)
  | entry (x : LogEntry)
  deriving DecidableEq, Repr

/-- A section of the Hamper (R228). -/
structure HamperSec where
  kind  : Nat
  index : Nat
  bytes : List Byte
  deriving DecidableEq, Repr

/-- A join in progress (R225 to R239), on either module. -/
structure Join where
  active    : Bool                         -- this module is the one that runs
  upgrade   : Bool := false
  since     : Nat := 0                     -- FRC at which the checks passed
  waiting   : Bool := false                -- on the cold module: check 5 has not passed yet
  l         : Option Nat := none           -- TICK of L
  j         : Option Nat := none           -- TICK of J
  resent    : Nat := 0                     -- JOIN_REQUESTs whose handshake has failed
  askedAt   : Nat := 0                     -- FRC of the last JOIN_REQUEST
  -- the Hamper: on the active module taken and not yet sent, on the cold module received in full
  secs      : List HamperSec := []
  took      : Bool := false                -- the sections of L are taken
  tasks     : List Nat := []               -- tasks whose snapshot point is still to come
  last      : List HamperSec := []         -- on the active module: what it last sent of each section
  acks      : Nat := 0                     -- sections sent and not acknowledged
  parts     : List HamperSec := []         -- on the cold module: sections in the course of reception
  -- replay
  log       : List JoinLog := []
  logBytes  : Nat := 0
  newest    : Nat := 0                     -- TICK of the newest agreement logged
  reached   : Nat := 0                     -- TICK that the replay has reached
  due       : List Nat := []               -- tasks whose cycle of that tick is still to be executed
  crcs      : Nat × Nat := (0, 0)          -- the engines' CRCs that the log has for the fastest task's next commit point
  cycles    : Nat := 0                     -- cycles replayed
  topup     : Option (List Byte) := none   -- received, waiting for J
  tickAt    : Nat := 0                     -- FRC of the tick J, or of the landing S, as it falls on this module
  bytes     : Nat := 0                     -- Hamper bytes sent or received
  -- planned swap
  swapAt    : Option Nat := none           -- TICK of the landing S
  swapFrc   : Nat := 0                     -- FRC at S
  stopped   : Bool := false                -- past S: the active module starts and commits nothing more
  final     : List (Nat × Nat) := []       -- on the candidate: sections received since SWAP
  mapUs     : Nat := 0
  resets    : Nat := 0
  discarded : Nat := 0
  deriving DecidableEq, Repr

/-- What is behind the BAN registers. -/
structure Ban where
  tx        : List BanFrame := []          -- the last 256 frames sent, newest first (R193)
  txSeq     : Nat := 0                     -- SEQ of the next frame
  lastTx    : Nat := 0                     -- FRC at which the last frame left
  rxSeq     : Option Nat := none           -- newest SEQ received
  missing   : List Nat := []               -- SEQ values before it that have not arrived (R193)
  early     : List (Arrival × BanMsg) := [] -- messages that act in the order sent and wait for a missing one, in that order
  lastRx    : Nat := 0                     -- FRC of the last frame from the peer
  agrs      : List Agreement := []         -- on the standby: agreements whose tick has not come, or not been reached
  timeouts  : List (Nat × Nat) := []       -- TIMEOUTs that the next agreement's tick brings: channel, SEQ (R402)
  onBehalf  : Option Nat := none           -- while a mirrored write is applied: who made it on the active module
  framesOff : Bool := false                -- the barrier frames have stopped after a handover (R214)
  driving   : Bool := false                -- this module drives terminals before it is in control (R214)
  own       : List Digest := []            -- digests that wait for the peer's
  peer      : List Digest := []            -- the peer's that wait for the module's own
  fold      : Nat × Nat := (0, 0)          -- Loop Engine and Solver CRC at the fastest task's last commit point (R201)
  inqDue    : List Nat := []               -- tasks of which the next cycle start begins an inquiry
  inquiry   : Option Inquiry := none
  ho        : Option Handover := none
  lastC     : Nat := 0                     -- FRC of the fastest task's last commit point
  wait      : Option Nat := none           -- CRC-32 of the agreement that waits for its answer
  hs        : List (Nat × Nat × Nat) := [] -- handshakes that wait, oldest first: TYPE, SEQ, FRC at the end of sending
  rxm       : List (Nat × Nat × Nat × Nat) := []   -- RX_MIRROR frames not yet acknowledged: SEQ, KIND, INDEX, position
  rxmHeld   : Nat := 0                     -- on the standby: highest RX_MIRROR SEQ held without a gap
  mirrored  : Nat := 0                     -- RX_MIRROR SEQ that the last MIRROR_ACK covers
  relSeq    : Nat := 0                     -- SEQ of the last RX_MIRROR released (R212)
  mirr      : List (Nat × Nat × Nat) := [] -- on the standby: entries held and not released: SEQ, queue, position
  rolled    : List Nat := []               -- after a notice: queues of completions that the old active did not release
  solo      : Bool := false                -- the Solver request that ran at J completes on this module alone (R234)
  held      : List (Nat × List Byte) := [] -- on the standby: entries its own receivers took, per queue, not yet matched
  lanes     : List (Nat × Lane) := []
  lostAt    : Nat := 0                     -- FRC at which the second lane was lost
  peerHbAt  : Option Nat := none
  peerHbSeq : Nat := 0
  hbSeq     : Nat := 0
  plantAt   : Option Nat := none           -- FRC of its last heartbeats on the plant ports
  outOnAt   : Option Nat := none           -- FRC at which an output last read energised
  outOffAt  : Nat := 0                     -- FRC since which every output has read de-energised
  outSeen   : Bool := false                -- one read energised in the 100 ms before the second lane was lost
  join      : Option Join := none
  lastFail  : Nat := 0                     -- REASON of the last failed join since its start was asked for, 0 none
  stuck     : Bool := false                -- it has failed twice with that REASON (R226)
  retryAt   : Nat := 0                     -- FRC from which the join may be tried again
  joinDig   : List Byte := []              -- structure and program digest for which a join was last started
  admitAt   : Nat := 0                     -- FRC of UPGRADE_ADMIT
  latAt     : Nat := 0                     -- operating time up to which BAN_LATENT.HOURS has counted
  latFrac   : Nat := 0                     -- of the next hour, in 1/1024 s
  beat      : Option (Nat × Nat) := none   -- SERIAL and ROLE of the last valid plant heartbeat (R491)
  latDone   : Bool := false                -- 0x0816 has been recorded
  deriving DecidableEq, Repr

/-- What identifies the module (R1, R47, R491). -/
structure Identity where
  variant : Variant := .full
  serial  : Nat := 1
  macs    : List (List Byte) := []     -- own address of each Ethernet port
  deriving DecidableEq, Repr

/-- The machine. -/
structure State where
  pending : List Instr := []
  regs    : Tab 32
  mem     : Tab 8 := []
  ident   : Identity := {}
  resp    : Response := {}
  latch   : Tab 32 := []                 -- high halves of R12, per master and address
  staged  : List (Nat × Word) := []      -- low halves of R14, per master and address
  gates   : List (Nat × Gate) := []      -- idle states (R22); an unlisted unit is awake
  free    : Nat := 0                     -- counts free values: the model's own
  frc     : Nat := 0                     -- the free-running nanosecond counter (R365)
  keyMaint : Bool := false               -- keyswitch, control-domain contact shows MAINT (R507)
  usb      : Bool := false               -- USB-C maintenance session (R504)
  gb      : Gb := {}
  fpl     : Fpl := {}
  power   : Power := {}
  tim     : Tim := {}
  can     : List (Nat × CanChan) := []
  eth     : List (Nat × EthPort) := []
  ser     : List (Nat × Flight) := []    -- the message each serial port is sending
  serEnd  : List (Nat × Nat) := []       -- FRC at which its last message ended
  heads   : List (Nat × Nat) := []       -- per transmit queue of a port: FRC at which its head entry became the head
  rio     : List (Nat × RioLink) := []
  isl     : List (Nat × Island) := []
  key     : Option KeySession := none    -- key trim session (R332)
  keyRefused : Option Nat := none        -- FRC of the last refused key action, which the KEY LED shows (R508)
  trimPers : List (Nat × Nat) := []      -- PERS that a channel's trims belong to, in MRAM (R329)
  saf     : Saf := {}
  axes    : List (Nat × Axis) := []
  lp      : LoopUnit := {}
  slv     : Slv := {}
  firstOut : Option (Nat × Nat × Nat) := none  -- sink, product and FRC of the first-out in MRAM (R254, R467)
  posted  : List (Nat × List Nat) := []  -- posting instants of a solver queue's entries (R132), oldest first
  scn     : Scan := {}
  ban     : Ban := {}
  rnd     : Rnd := {}
  wear    : Wear := {}
  nb      : Nb := {}
  anx     : Anx := {}
  rx      : List (Nat × RxCount) := []   -- per receive queue
  maintAt : Nat := 0                     -- FRC of the last second counted off the ENG session (R361)
  firstLatch : Bool := false             -- an input latch has run in RUN since reset (R490)
  pgn     : List (Nat × PgnChan) := []   -- channels that have held a message since lock
  deriving DecidableEq, Repr

/-- The gates after a reset of the control domain: the Loop Engine (5) and the Solver (6) are gated. -/
def gatesReset : List (Nat × Gate) := [(5, { gated := true }), (6, { gated := true })]

/-- The machine right after reset: every register at its table's reset value, nothing listed in memory, no command
waiting. The Loop Engine and the Solver are power-gated, as LOOP_STAT and SLV_STAT show (R24). -/
def State.reset : State := { regs := resetRegs, gates := gatesReset }

end Sys2Proof.Machine
end

