-- ==== Sys2Proof/Machine/Ops.lean ====
section
/-!
DEFINITION. The named operations over registers, memory, free values and the Guestbook's queue.
-/
namespace Sys2Proof.Machine

/-- The answer of a meaning. -/
abbrev Answer := Host.Outcome State Fault Refusal

/-! ### Registers -/

/-- Put a value into a field of a register word. -/
def Fld.put (f : Fld) (old : Word) (v : Nat) : Word :=
  BitVec.ofNat 32 (old.toNat - bits old.toNat f.lo f.width * 2 ^ f.lo + v % 2 ^ f.width * 2 ^ f.lo)

/-- Read a field. -/
def State.rd (s : State) (f : Fld) : Nat := bits (Tab.get s.regs f.addr).toNat f.lo f.width

/-- SYS_CAPS of a variant (R1, R3): what is fitted is fixed by the variant, in these three combinations alone. -/
def Variant.caps : Variant → Nat
  | .full => 0x0008883F
  | .standard => 0x00088812
  | .lean => 0x00044401

/-- The module's SYS_CAPS (R2). -/
def State.caps (s : State) : Nat := s.ident.variant.caps

/-- A field of SYS_CAPS. -/
def State.cap (s : State) (f : Fld) : Nat := bits s.caps f.lo f.width

/-- Whether SYS_CAPS shows a resource as fitted. -/
def State.capOn (s : State) (f : Fld) : Bool := s.cap f != 0

/-- Write a field, keeping the register's other bits. -/
def State.wr (s : State) (f : Fld) (v : Nat) : State :=
  { s with regs := Tab.put s.regs f.addr (f.put (Tab.get s.regs f.addr) v) }

/-- Whether a field is not 0. -/
def State.on (s : State) (f : Fld) : Bool := s.rd f != 0

/-- Write a one-bit field. -/
def State.wrB (s : State) (f : Fld) (b : Bool) : State := s.wr f (b2n b)

/-- Count in a field, saturating at its largest value. -/
def State.bump (s : State) (f : Fld) : State := s.wr f (satInc f.width (s.rd f))

/-- Add to a field, saturating at its largest value. -/
def State.bumpBy (s : State) (f : Fld) (n : Nat) : State :=
  s.wr f (min (s.rd f + n) (2 ^ f.width - 1))

/-- Read a 64-bit value held as a LO/HI pair (R12). -/
def State.rd64 (s : State) (lo hi : Fld) : Nat := s.rd lo + 2 ^ 32 * s.rd hi

/-- Write a 64-bit value held as a LO/HI pair. -/
def State.wr64 (s : State) (lo hi : Fld) (v : Nat) : State := (s.wr lo v).wr hi (v / 2 ^ 32)

/-! ### Memory -/

/-- Read one byte of DRAM or SRAM. -/
def State.byte (s : State) (a : Nat) : Byte := Tab.get s.mem a

/-- Write one byte of DRAM or SRAM. -/
def State.setByte (s : State) (a : Nat) (b : Byte) : State := { s with mem := Tab.put s.mem a b }

/-- Read `n` bytes from an address. -/
def State.bytes (s : State) (a : Nat) : Nat → List Byte
  | 0 => []
  | n + 1 => s.byte a :: State.bytes s (a + 1) n

/-- Enter bytes into a memory from an address. -/
def putBytes (m : Tab 8) (a : Nat) : List Byte → Tab 8
  | [] => m
  | b :: t => putBytes (Tab.put m a b) (a + 1) t

/-- Write bytes from an address. -/
def State.setBytes (s : State) (a : Nat) (bs : List Byte) : State := { s with mem := putBytes s.mem a bs }

/-- Whether a span lies wholly in DRAM or wholly in SRAM (R28). -/
def inRam (a n : Nat) : Bool :=
  decide (a + n ≤ 0x0200000000) || (decide (0x1000000000 ≤ a) && decide (a + n ≤ 0x1001000000))

/-! ### Free values -/

/-- A fresh free 32-bit value. -/
def State.freeWord (s : State) : Word := Config.freeWord s.free

/-- The next state of the free-value counter. -/
def State.useFree (s : State) : State := { s with free := s.free + 1 }

/-! ### What most units ask -/

/-- The module's role (BAN_STAT.ROLE). -/
def State.role (s : State) : Nat := s.rd Reg.BAN_STAT_ROLE

/-- Role SINGLE, ALONE or ACTIVE: the module is in control. -/
def State.inControl (s : State) : Bool := decide (s.role ≤ 2)

/-- An image is locked. -/
def State.locked (s : State) : Bool := s.rd Reg.FPL_STAT_STATE == 3

/-- The clock of what runs beside the control domain, the safety domain, the Annex and the field sides (R20, R21), ns: it
runs on where a reset of the control domain starts the FRC again. -/
def State.safClock (s : State) : Nat := s.saf.clock0 + s.frc

/-- Time passes up to an instant of that clock, and never back. While the control domain does not run, its FRC stands. -/
def State.waitTo (s : State) (t : Nat) : State :=
  if s.power.running then { s with frc := max s.frc (t - s.saf.clock0) }
  else { s with saf := { s.saf with clock0 := max s.saf.clock0 (t - s.frc) } }

/-- Operating time in units of 1/1024 s (R485): what the Porter held at reset release, and the time since. -/
def State.opTime (s : State) : Nat :=
  s.rd64 Reg.PTR_OPTIME_LO Reg.PTR_OPTIME_HI + (s.frc + s.power.frac) * 1024 / 1000000000

/-- Time passes until the operating time has reached a count. -/
def State.waitOp (s : State) (n : Nat) : State :=
  { s with frc := s.frc + ((n - s.opTime) * 1000000000 + 1023) / 1024 }

/-! ### Wake events (R22, R23) -/

/-- The key of a unit's gate in the table of gates. -/
def gateKey : GUnit → Nat
  | .core n => n.val
  | .scan => 4
  | .loops => 5
  | .solver => 6
  | .axes => 7
  | .can c => 8 + c.val
  | .serial p => 16 + p.val
  | .guestbook => 24
  | .rounds => 25
  | .noticeboard => 26

/-- A unit's gate. -/
def State.gate (s : State) (u : GUnit) : Gate := (Assoc.find? s.gates (gateKey u)).getD {}

/-- Replace a unit's gate. -/
def State.setGate (s : State) (u : GUnit) (g : Gate) : State :=
  { s with gates := Assoc.insert s.gates (gateKey u) g }

/-- Whether a unit is fitted (R1, R42). -/
def State.fitted (s : State) : GUnit → Bool
  | .solver => s.capOn Reg.SYS_CAPS_SLV
  | .noticeboard => s.capOn Reg.SYS_CAPS_NB
  | .can c => decide (c.val < s.cap Reg.SYS_CAPS_CAN_CH)
  | _ => true

/-- The Solver and the Loop Engine show their power state. -/
def State.showPower (s : State) (u : GUnit) (on_ : Bool) : State :=
  match u with
  | .solver => s.wrB Reg.SLV_STAT_STATE on_
  | .loops => s.wrB Reg.LOOP_STAT_STATE on_
  | _ => s

/-- A bell or wake event: it wakes a gated unit, and is held while the unit enters its gated state (R23). An absent unit
is never woken (R42). -/
def State.wake (s : State) (u : GUnit) : State :=
  let g := s.gate u
  if !s.fitted u then s
  else if g.entering then s.setGate u { g with held := true }
  else if g.gated then (s.setGate u { g with gated := false }).showPower u true
  else s

/-- The bell of a master, where the master is a unit with an idle state. -/
def State.ring (s : State) (id : Nat) : State :=
  if h : 1 ≤ id ∧ id ≤ 4 then s.wake (.core ⟨id - 1, by omega⟩)
  else if id = 0x0A then s.wake .solver
  else if id = 0x28 then s.wake .noticeboard
  else s

/-! ### Events to the Guestbook -/

/-- The rate class of a code (R417): 32 is the built-in class. -/
def State.gbClass (s : State) (code : Nat) : Nat :=
  if code = 0x0911 then 30
  else if 0x0101 ≤ code ∧ code ≤ 0x0103 then 31
  else if s.on Reg.GB_STAT_PRE_LOCK then 32
  else
    match s.fpl.soft.find? (fun x => x.kind == 0x8080) with
    | none => 0
    | some x =>
      let n := le x.body 0 2
      match (List.range n).find? (fun j => le x.body (264 + 4 * j) 2 == code) with
      | some j => le x.body (264 + 4 * j + 2) 1
      | none => 0

/-- An event takes its place in the queue: of those that arrive at one instant, the lower SOURCE comes first (R414). -/
def gbEnter (e : GbEvent) : List GbEvent → List GbEvent
  | [] => [e]
  | x :: t => if x.at_ = e.at_ ∧ e.source < x.source then e :: x :: t else x :: gbEnter e t

/-- An event that finds no token, or no place in the queue, is suppressed (R414, R418). -/
def State.gbSuppress (s : State) (code : Nat) : State :=
  let s := if s.gbClass code < 32 then s.bump (Reg.GB_CLASS_SUPP (s.gbClass code)) else s
  let s := s.bump Reg.GB_SUPPRESSED
  { s with gb := { s.gb with pend := Assoc.insert s.gb.pend code ((Assoc.find? s.gb.pend code).getD 0 + 1) } }

/-- An event reaches the writer's queue (R414), while the control domain runs. -/
def State.post (s : State) (source code p1 p2 p3 : Nat) : State :=
  let e : GbEvent := { code, source, p1 := p1 % 2 ^ 32, p2 := p2 % 2 ^ 32, p3 := p3 % 2 ^ 32, at_ := s.frc
                       optime := s.opTime, pcycle := s.rd Reg.PTR_PCYCLE }
  if !s.power.running then s
  else
    let s := s.wake .guestbook
    if s.gb.queue.length < 256 then { s with gb := { s.gb with queue := gbEnter e s.gb.queue } }
    else (s.gbSuppress code).bump Reg.GB_OVERRUN

end Sys2Proof.Machine
end

