-- ==== Sys2Proof/Machine/Flags.lean ====
section
/-!
DEFINITION. Completion statuses (R36), unit indices (R29) and the way a command register with a companion status
register reports acceptance or refusal (R516).
-/
namespace Sys2Proof.Machine

/-! ### Completion statuses (R36) -/
namespace Sta
def ok : Nat := 0x00
def lostArb : Nat := 0x01
def busError : Nat := 0x02
def timeout : Nat := 0x03
def lenInvalid : Nat := 0x04
def absentUnit : Nat := 0x05
def outcomeUnknown : Nat := 0x06
def rejectedFull : Nat := 0x07
def deadline : Nat := 0x08
def dimInvalid : Nat := 0x09
def singular : Nat := 0x0A
def overflow : Nat := 0x0B
def timeLimit : Nat := 0x0C
def warmRejected : Nat := 0x0D
end Sta

/-! ### Unit indices (R29) -/
namespace Un
def sys : Nat := 0x0
def ptr : Nat := 0x1
def fpl : Nat := 0x2
def scn : Nat := 0x3
def loop : Nat := 0x4
def slv : Nat := 0x5
def ax : Nat := 0x6
def ban : Nat := 0x7
def saf : Nat := 0x8
def trp : Nat := 0x9
def isl : Nat := 0xA
def can : Nat := 0xB
def eth : Nat := 0xC
def tim : Nat := 0xD
def ser : Nat := 0xE
def rio : Nat := 0xF
def pgn : Nat := 0x10
def que : Nat := 0x11
def gb : Nat := 0x12
def rnd : Nat := 0x13
def wr : Nat := 0x14
def anx : Nat := 0x15
def nb : Nat := 0x16
def pwr : Nat := 0x17
end Un

/-- The companion status register of a command shows the outcome of the last command (R516): OK with REASON 0, or
BUS_ERROR with the reason of the refusal. -/
def State.cmdStat (s : State) (status reason : Fld) (why : Nat) : State :=
  (s.wr status (if why = 0 then Sta.ok else Sta.busError)).wr reason why

end Sys2Proof.Machine
end

