-- ==== Sys2Proof/Machine/Plan.lean ====
section
/-!
DEFINITION. Reading the Floor Plan in force: the locked structure sections and the soft sections, as their bytes, and
the fields that the units use. An unlocked module holds no section and every field reads 0.
-/
namespace Sys2Proof.Machine

/-- The number of an image slot. -/
def slotNo : Slot → Nat
  | .a => 0
  | .b => 1

/-- The payload of a section of a list, empty where it is not there. -/
def sectionBody (l : List Section) (kind inst : Nat) : List Byte :=
  match l.find? (fun x => x.kind == kind && x.inst == inst) with
  | some x => x.body
  | none => []

/-- The payload of a structure section in force. -/
def State.plan (s : State) (kind inst : Nat) : List Byte := sectionBody s.fpl.plan kind inst

/-- The payload of a soft section in force. -/
def State.softPlan (s : State) (kind inst : Nat) : List Byte := sectionBody s.fpl.soft kind inst

/-- Record `n` of an array section with its 8-byte head (R49), empty beyond COUNT. -/
def arrayRec (body : List Byte) (size n : Nat) : List Byte :=
  if n < le body 0 2 then slice body (8 + size * n) size else []

/-- A record of a section without an array head. -/
def plainRec (body : List Byte) (head size n : Nat) : List Byte := slice body (head + size * n) size

/-- The plan as the heartbeat monitor sees it: until the lock, the sections that are verified and held (R492). -/
def State.holdView (s : State) : State :=
  match s.fpl.verified with
  | some im => if s.locked then s else { s with fpl := { s.fpl with plan := im.secs } }
  | none => s

/-! ### IDENTITY (R51) -/

def State.station (s : State) : Nat := le (s.plan 0x8001 0) 0 4
def State.paired (s : State) : Bool := le (s.plan 0x8001 0) 4 1 == 1

/-! ### TIMECLASS (R366) -/

def State.tc (s : State) (off n : Nat) : Nat := le (s.plan 0x8050 0) off n
/-- PTP domain number followed by domain d. -/
def State.domNum (s : State) (d : Nat) : Nat := s.tc d 1
def State.tcPrefer (s : State) : Nat := s.tc 3 1
def State.tcC2Dom (s : State) : Nat := s.tc 4 1
def State.tcPpsOut (s : State) : Nat := s.tc 5 1
def State.tcPpsIn (s : State) : Nat := s.tc 8 1
/-- ASSESS in nanoseconds. -/
def State.tcAssess (s : State) : Nat := s.tc 0x0A 2 * 1000000000
/-- FOLLOW_LIMIT in nanoseconds. -/
def State.tcFollow (s : State) : Nat := s.tc 0x0C 4 * 1000
def State.tcPpsDelay (s : State) : Int := sgn 32 (s.tc 0x10 4)
def State.tcPpsWidth (s : State) : Nat := s.tc 6 2 * 10000
def State.tcSyncLoss (s : State) : Nat := s.tc 0x18 2 * 1000000
def State.tcPpsWin (s : State) : Nat := s.tc 0x14 4

/-! ### PORTS -/

/-- The PORTS record of a kind and index, empty where there is none. -/
def State.portRec (s : State) (kind idx : Nat) : List Byte :=
  let b := s.plan 0x8011 0
  match (List.range (le b 0 2)).find? (fun n => le (arrayRec b 16 n) 0 1 == kind && le (arrayRec b 16 n) 1 1 == idx) with
  | some n => arrayRec b 16 n
  | none => []

/-! ### CAN FD: PORTS records of kind 2 (R336) and CANSCHED (R349) -/

def State.canRec (s : State) (c : Nat) : List Byte := s.portRec 2 c
def State.canMode (s : State) (c : Nat) : Nat := le (s.canRec c) 2 1
def State.canFd (s : State) (c : Nat) : Bool := bitAt (le (s.canRec c) 3 1) 0
def State.canBrs (s : State) (c : Nat) : Bool := bitAt (le (s.canRec c) 3 1) 1
def State.canTt (s : State) (c : Nat) : Bool := bitAt (le (s.canRec c) 3 1) 2
def State.canAuto (s : State) (c : Nat) : Bool := bitAt (le (s.canRec c) 3 1) 3
def State.canNrate (s : State) (c : Nat) : Nat := le (s.canRec c) 4 2
def State.canDrate (s : State) (c : Nat) : Nat := le (s.canRec c) 6 2
def State.canNsp (s : State) (c : Nat) : Nat := le (s.canRec c) 8 1
def State.canDsp (s : State) (c : Nat) : Nat := le (s.canRec c) 9 1
def State.canRxq (s : State) (c : Nat) : Nat := le (s.canRec c) 0xB 1
def State.canEvq (s : State) (c : Nat) : Nat := le (s.canRec c) 0xC 1
def State.canTtqBase (s : State) (c : Nat) : Nat := le (s.canRec c) 0xD 1
def State.canTtqCount (s : State) (c : Nat) : Nat := le (s.canRec c) 0xE 1
def State.canSched (s : State) (c : Nat) : List Byte := s.plan 0x8040 c
/-- The window record of a basic cycle. -/
def State.canWindow (s : State) (c basic win : Nat) : List Byte :=
  slice (s.canSched c) (16 + 512 * basic + 8 * win) 8

/-! ### Islands (R298, R315) -/

def State.islRec (s : State) (k : Nat) : List Byte := s.plan 0x8010 k
def State.islFlags (s : State) (k : Nat) : Nat := le (s.islRec k) 1 1
def State.islOwned (s : State) (k : Nat) : Bool := bitAt (s.islFlags k) 0
/-- A field of a channel's record. -/
def State.chFld (s : State) (k c off n : Nat) : Nat := le (s.islRec k) (8 + 16 * c + off) n
def State.chPers (s : State) (k c : Nat) : Nat := s.chFld k c 0 1
def State.chTask (s : State) (k c : Nat) : Nat := s.chFld k c 1 1
def State.chIn (s : State) (k c : Nat) : Nat := s.chFld k c 2 2
def State.chOut (s : State) (k c : Nat) : Nat := s.chFld k c 4 2
def State.chInvert (s : State) (k c : Nat) : Bool := bitAt (s.chFld k c 6 1) 0
def State.chFilter (s : State) (k c : Nat) : Nat := s.chFld k c 7 1
def State.chFail (s : State) (k c : Nat) : Nat := s.chFld k c 8 4
def State.chSafe (s : State) (k c : Nat) : Nat := s.chFld k c 0xC 4
/-- Analogue personalities. -/
def State.chAnalog (s : State) (k c : Nat) : Bool := decide (4 ≤ s.chPers k c) && decide (s.chPers k c ≤ 6)

/-! ### Ethernet: PORTS records of kind 1 (R357) and NAV groups of kind 3 (R363) -/

def State.ethRec (s : State) (p : Nat) : List Byte := s.portRec 1 p
def State.ethOn (s : State) (p : Nat) : Bool := le (s.ethRec p) 2 1 == 1
def State.ethFlag (s : State) (p n : Nat) : Bool := bitAt (le (s.ethRec p) 3 1) n
def State.ethRxq (s : State) (p : Nat) : Nat := le (s.ethRec p) 4 1
def State.ethTxq (s : State) (p : Nat) : Nat := le (s.ethRec p) 5 1
def State.ethBcLimit (s : State) (p : Nat) : Nat := le (s.ethRec p) 6 2
def State.ethHbGroup (s : State) (p : Nat) : List Byte := slice (s.ethRec p) 8 6
def State.ethVid (s : State) (p : Nat) : Nat := le (s.ethRec p) 0xE 2

/-! ### Serial ports: PORTS records of kind 4 (R378) -/

def State.serRec (s : State) (p : Nat) : List Byte := s.portRec 4 p
def State.serMode (s : State) (p : Nat) : Nat := le (s.serRec p) 2 1
def State.serFlag (s : State) (p n : Nat) : Bool := bitAt (le (s.serRec p) 3 1) n
def State.serBaud (s : State) (p : Nat) : Nat := le (s.serRec p) 4 4
def State.serRxq (s : State) (p : Nat) : Nat := le (s.serRec p) 0xA 1
def State.serTxq (s : State) (p : Nat) : Nat := le (s.serRec p) 0xB 1
def State.serMaxLen (s : State) (p : Nat) : Nat := le (s.serRec p) 0xC 2

/-! ### Stairway links: PORTS records of kind 5 (R384) -/

def State.rioRec (s : State) (l : Nat) : List Byte := s.portRec 5 l
def State.rioOn (s : State) (l : Nat) : Bool := le (s.rioRec l) 2 1 == 1
def State.rioFailLimit (s : State) (l : Nat) : Nat := le (s.rioRec l) 3 1
def State.rioTask (s : State) (l : Nat) : Nat := le (s.rioRec l) 4 1
def State.rioN (s : State) (l : Nat) : Nat := le (s.rioRec l) 5 1
def State.rioSlotIn (s : State) (l : Nat) : Nat := le (s.rioRec l) 6 1
def State.rioSlotOut (s : State) (l : Nat) : Nat := le (s.rioRec l) 7 1
def State.rioLead (s : State) (l : Nat) : Nat := le (s.rioRec l) 8 2
def State.rioInOff (s : State) (l : Nat) : Nat := le (s.rioRec l) 0xA 2
def State.rioOutOff (s : State) (l : Nat) : Nat := le (s.rioRec l) 0xC 2
def State.rioWd (s : State) (l : Nat) : Nat := le (s.rioRec l) 0xE 2

/-! ### TASKS (R76) -/

def State.taskRec (s : State) (n : Nat) : List Byte := arrayRec (s.plan 0x8020 0) 32 n
/-- The record of the task with a number, empty where TASKS does not define it. -/
def State.taskOf (s : State) (t : Nat) : List Byte :=
  match (List.range (le (s.plan 0x8020 0) 0 2)).find? (fun n => le (s.taskRec n) 0 1 == t) with
  | some n => s.taskRec n
  | none => []

/-- A field of a task's record. -/
def State.taskFld (s : State) (t off n : Nat) : Nat := le (s.taskOf t) off n
def State.taskUsed (s : State) (t : Nat) : Bool := s.taskOf t != []
def State.taskPrio (s : State) (t : Nat) : Nat := s.taskFld t 1 1
def State.taskCore (s : State) (t : Nat) : Nat := s.taskFld t 2 1
def State.taskLimit (s : State) (t : Nat) : Nat := s.taskFld t 3 1
/-- PERIOD in base ticks. -/
def State.taskPeriod (s : State) (t : Nat) : Nat := s.taskFld t 4 4
def State.taskPhase (s : State) (t : Nat) : Nat := s.taskFld t 8 4
/-- MARGIN in ns. -/
def State.taskMargin (s : State) (t : Nat) : Nat := s.taskFld t 0xC 2 * 1000
def State.taskStrict (s : State) (t : Nat) : Bool := bitAt (s.taskFld t 0xE 1) 0
def State.taskIn (s : State) (t : Nat) : Nat := s.taskFld t 0x10 2
def State.taskOut (s : State) (t : Nat) : Nat := s.taskFld t 0x12 2

/-- The cycle counter of a task. -/
def State.taskCycle (s : State) (t : Nat) : Nat := s.rd64 (Reg.SCN_CYCLE_LO t) (Reg.SCN_CYCLE_HI t)

/-! ### PIGEONHOLES (R393) -/

def State.pgnRec (s : State) (ch : Nat) : List Byte := plainRec (s.plan 0x8030 0) 0 16 ch
def State.pgnSender (s : State) (ch : Nat) : Nat := le (s.pgnRec ch) 0 1
def State.pgnReceiver (s : State) (ch : Nat) : Nat := le (s.pgnRec ch) 1 1
def State.pgnDepth (s : State) (ch : Nat) : Nat := le (s.pgnRec ch) 2 1
def State.pgnTimeoutMs (s : State) (ch : Nat) : Nat := le (s.pgnRec ch) 4 2
/-- A channel is used where its record is not all 0. -/
def State.pgnUsed (s : State) (ch : Nat) : Bool := s.pgnDepth ch != 0

/-! ### QUEUES (R403, R404) -/

def State.queRec (s : State) (q : Nat) : List Byte := plainRec (s.plan 0x8031 0) 0 8 q
def State.queProducer (s : State) (q : Nat) : Nat := le (s.queRec q) 0 1
def State.queConsumer (s : State) (q : Nat) : Nat := le (s.queRec q) 1 1
def State.queEsize (s : State) (q : Nat) : Nat := le (s.queRec q) 2 1
def State.queDepth (s : State) (q : Nat) : Nat := le (s.queRec q) 3 1
def State.queRound (s : State) (q : Nat) : Bool := le (s.queRec q) 4 1 % 2 == 1
def State.queUsed (s : State) (q : Nat) : Bool := s.queEsize q != 0

end Sys2Proof.Machine
end

