-- ==== Sys2Proof/Machine/Operands.lean ====
section
/-!
DEFINITION. Register accesses: master identities and reach (R34), the order of the checks (R33), bus error responses
and their capture (R32, R40, R41), the LO/HI latches (R12 to R14) and the access codes (R10, R11).
-/
namespace Sys2Proof.Machine

/-- The 6-bit identity of a master (R34). -/
def masterId : Master → Nat
  | .apc n => 0x01 + n.val
  | .scnDma => 0x08
  | .loopEngine => 0x09
  | .solver => 0x0A
  | .axisUnit => 0x0B
  | .spa => 0x10
  | .spb => 0x11
  | .annex => 0x18
  | .com n => 0x20 + n.val
  | .noticeboard => 0x28
  | .banister => 0x30
  | .debug => 0x3F

/-- First address of the unit register blocks (R28). -/
def regBase : Nat := 0x2000000000

/-- Whether an address lies in a unit register block. -/
def inRegs (a : Nat) : Bool := decide (regBase ≤ a) && decide (a ≤ 0x200017FFFF)

/-- Whether an address lies in DRAM (R28). -/
def inDram (a : Nat) : Bool := decide (a ≤ 0x01FFFFFFFF)

/-- Whether an address lies in the on-chip SRAM (R28). -/
def inSram (a : Nat) : Bool := decide (0x1000000000 ≤ a) && decide (a ≤ 0x1000FFFFFF)

/-- The unit index of a register address (R29). -/
def unitOf (a : Nat) : Nat := (a - regBase) / 0x10000

/-- The Pigeonhole channel whose register set holds an address, if one does. -/
def pgnChannelOf (a : Nat) : Option Nat :=
  if 0x2000101000 ≤ a ∧ a < 0x2000103000 then some ((a - 0x2000101000) / 0x100) else none

/-- Whether a master may reach an address (R34). The Banister agent reaches LOOP, AX, SLV and CAN only to apply mirrored
writes (R199), which are not accesses of the bus. -/
def State.reach (s : State) (m : Master) (a : Nat) : Bool :=
  let un (l : List Nat) : Bool := inRegs a && l.contains (unitOf a)
  match m with
  | .apc _ => true
  | .debug => true
  | .scnDma => inDram a || inSram a || un [Un.isl, Un.rio, Un.loop, Un.ax]
  | .loopEngine => inSram a || un [Un.isl, Un.ax]
  | .solver => inDram a || inSram a
  | .axisUnit => inSram a
  | .spa | .spb =>
    un [Un.saf, Un.trp] ||
      (match pgnChannelOf a with
       | some ch => s.pgnSender ch == masterId m || s.pgnReceiver ch == masterId m
       | none => false)
  | .annex => match pgnChannelOf a with
    | some ch => ch == 30 || ch == 31
    | none => false
  | .com _ => inDram a || inSram a || un [Un.can, Un.eth, Un.tim, Un.ser, Un.rio, Un.pgn, Un.que]
  | .noticeboard => inSram a || un [Un.nb]
  | .banister => inDram a || inSram a || un [Un.ban, Un.scn, Un.que, Un.pgn]

/-- The SYS_CAPS register, which every master may read (R2, R34). -/
def sysCapsAddr : Nat := 0x2000000004

/-- Whether the unit or channel set at a register address is absent, as SYS_CAPS reports it (R4, R5, R43). -/
def State.absent (s : State) (a : Nat) : Bool :=
  let u := unitOf a
  let off := a % 0x10000
  (u == Un.slv && !s.capOn Reg.SYS_CAPS_SLV) || (u == Un.anx && !s.capOn Reg.SYS_CAPS_ANX) ||
    (u == Un.nb && !s.capOn Reg.SYS_CAPS_NB) ||
    (u == Un.isl && decide (0x1000 * s.cap Reg.SYS_CAPS_ISLANDS ≤ off) && decide (off < 0x8000)) ||
    (u == Un.ax && decide (0x1000 + 0x1000 * s.cap Reg.SYS_CAPS_AXES ≤ off) && decide (off < 0x9000)) ||
    (u == Un.can && decide (0x1000 + 0x1000 * s.cap Reg.SYS_CAPS_CAN_CH ≤ off) && decide (off < 0x9000))

/-- The unit with an idle state whose registers hold an address (R27, R29). -/
def unitAt (a : Nat) : Option GUnit :=
  let u := unitOf a
  let set := (a % 0x10000) / 0x1000
  if !inRegs a then none
  else if u = Un.scn then some .scan
  else if u = Un.loop then some .loops
  else if u = Un.slv then some .solver
  else if u = Un.ax then some .axes
  else if u = Un.can then if 1 ≤ set ∧ set ≤ 8 then some (.can ⟨(set - 1) % 8, Nat.mod_lt _ (by decide)⟩) else none
  else if u = Un.ser then if 1 ≤ set ∧ set ≤ 8 then some (.serial ⟨(set - 1) % 8, Nat.mod_lt _ (by decide)⟩) else none
  else if u = Un.gb then some .guestbook
  else if u = Un.rnd then some .rounds
  else if u = Un.nb then some .noticeboard
  else none

/-- An access to a gated unit stalls until the unit is awake (R27). -/
def State.wakeAt (s : State) (a : Nat) : State :=
  match unitAt a with
  | some u => s.wake u
  | none => s

/-- Whether a width and alignment are permitted at a register address (R9): 32 bits aligned, or a 64-bit read at
the _LO register of a pair. -/
def widthOk (w : Width) (write : Bool) (a : Nat) : Bool :=
  match w with
  | .w32 => a % 4 == 0
  | .w64 => !write && a % 4 == 0 &&
      (match regAt a with
       | some r => r.half == .lo
       | none => false)
  | _ => false

/-- The first failing check of an access (R33): its status and Guestbook code, or none. R9 holds for registers; an access
to a memory is decided by the master's reach alone. -/
def State.checkAccess (s : State) (m : Master) (w : Width) (write : Bool) (a : Nat) : Option (Nat × Nat) :=
  if inDram a || inSram a then if s.reach m a then none else some (Sta.busError, 0x0101)
  else if !widthOk w write a then some (Sta.busError, 0x0101)
  else if !(s.reach m a || (a == sysCapsAddr && !write)) then some (Sta.busError, 0x0101)
  else if !inRegs a then some (Sta.busError, 0x0101)
  else if s.absent a then some (Sta.absentUnit, 0x0102)
  else if (regAt a).isNone then some (Sta.busError, 0x0101)
  else none

/-- An application core takes a load or store access fault on ABSENT_UNIT (R41). DESIGN CHOICE (log 180): the table has no
row for a communication core; it sees the completion status of a unit master, without a fault. -/
def isCore : Master → Bool
  | .apc _ => true
  | _ => false

/-- The response that the master of the access sees. -/
def State.respond (s : State) (r : Response) : State := { s with resp := r }

/-- The capture of a bus error response (R32): the first is held until VALID is cleared, a later one shows in MORE. -/
def State.busCapture (s : State) (m : Master) (write : Bool) (a status : Nat) : State :=
  if s.on Reg.SYS_BUSERR_STAT_VALID then s.wr Reg.SYS_BUSERR_STAT_MORE 1
  else ((((s.wr Reg.SYS_BUSERR_STAT_VALID 1).wr Reg.SYS_BUSERR_STAT_MASTER (masterId m)).wr
      Reg.SYS_BUSERR_STAT_STATUS status).wrB Reg.SYS_BUSERR_STAT_WRITE write).wr64
      Reg.SYS_BUSERR_ADDR_LO Reg.SYS_BUSERR_ADDR_HI_ADDR_HI a

/-- A bus error response: the response to the master, the capture of R32 and the Guestbook code of R40. -/
def State.busFail (s : State) (m : Master) (write : Bool) (a status code : Nat) : State :=
  let s := s.respond { status, data := 0, coreFault := isCore m && status == Sta.absentUnit }
  (s.busCapture m write a status).post Un.sys code (a % 2 ^ 32)
    (bits a 32 8 + masterId m * 2 ^ 8 + b2n write * 2 ^ 16)
    (if status = Sta.busError then 0 else unitOf a)

/-- A completed access. -/
def State.answer (s : State) (data : Nat) : State := s.respond { status := Sta.ok, data, coreFault := false }

/-- The debug master is issued only while the service port holds a maintenance session (R34, R504), and no master
of the control domain while that domain is in reset. -/
def State.issued (s : State) (m : Master) : Bool :=
  s.power.running &&
  match m with
  | .debug => s.usb
  | .solver => s.capOn Reg.SYS_CAPS_SLV
  | _ => true

/-- A checked register access: the bus error response, or what the register does. -/
def State.access (s : State) (m : Master) (w : Width) (write : Bool) (a : Nat) (k : State → State) : State :=
  if s.issued m then
    match s.checkAccess m w write a with
    | some (status, code) => s.busFail m write a status code
    | none => k ((s.wakeAt a).answer 0)
  else s

/-- A bus error response for a write that a unit itself refuses (R10, R73 and the like). -/
def State.refuseWrite (s : State) (m : Master) (a : Nat) : State := s.busFail m true a Sta.busError 0x0101

/-- The key of a master's latch for an address (R13). -/
def latchKey (m : Master) (a : Nat) : Nat := masterId m * 2 ^ 40 + a

/-- Latch a high half for the reading master (R12). -/
def State.setLatch (s : State) (m : Master) (hi : Nat) (v : Nat) : State :=
  { s with latch := Tab.put s.latch (latchKey m hi) (BitVec.ofNat 32 v) }

/-- A write of a _LO register is staged for its master (R14). -/
def State.stageLo (s : State) (m : Master) (a v : Nat) : State :=
  { s with staged := Assoc.insert s.staged (latchKey m a) (BitVec.ofNat 32 v) }

/-- The low half that a write of the _HI register applies: the master's staged one, or the one in force (R14). -/
def State.stagedLo (s : State) (m : Master) (a current : Nat) : Nat :=
  match Assoc.find? s.staged (latchKey m a) with
  | some v => v.toNat
  | none => current

/-- The staged low half is used up. -/
def State.unstage (s : State) (m : Master) (a : Nat) : State :=
  { s with staged := Assoc.erase s.staged (latchKey m a) }

/-- What the register file holds at an address. -/
def State.fileAt (s : State) (a : Nat) : Nat := (Tab.get s.regs a).toNat

/-- Replace the masked bits of a register. -/
def State.wrMasked (s : State) (a mask v : Nat) : State :=
  let kept := Tab.get s.regs a &&& ~~~ BitVec.ofNat 32 mask
  { s with regs := Tab.put s.regs a (kept ||| (BitVec.ofNat 32 v &&& BitVec.ofNat 32 mask)) }

/-- A plain write by access code (R10, R11): RW bits take the value, W1C bits are cleared by a 1, everything else
ignores it. -/
def State.plainWrite (s : State) (r : RegSpec) (a v : Nat) : State :=
  (s.wrMasked a r.rw v).wrMasked a (r.w1c &&& v) 0

end Sys2Proof.Machine
end

