-- ==== Sys2Proof/Machine/Field.lean ====
section
/-!
DEFINITION. The field side of an island as it stands: parameters, kill mask, effective outputs and targets, and since
when a condition that the rules time has held (R297, R305, R309, R325).
-/
namespace Sys2Proof.Machine

/-- A channel of an island. -/
def Island.chan (x : Island) (c : Nat) : IslChan := (Assoc.find? x.chans c).getD {}

/-- Replace it. -/
def Island.setChan (x : Island) (c : Nat) (h : IslChan) : Island := { x with chans := Assoc.insert x.chans c h }

/-- Digital and analogue output personalities. -/
def persDo (p : Nat) : Bool := p == 3 || p == 9
def persAo (p : Nat) : Bool := p == 5 || p == 6

/-- The range of an AO command in nA (R314). -/
def aoLo (pers : Nat) : Int := if pers = 6 then 3600000 else 0
def aoClamp (pers : Nat) (v : Int) : Int := clampI (aoLo pers) 24000000 v

/-- The value of a parameter that the island has applied. -/
def Island.par (x : Island) (i : Nat) : Nat :=
  match Assoc.find? x.params i with
  | some p => p.applied.getD 0
  | none => 0

/-- The applied personality of a channel. -/
def Island.pers (x : Island) (c : Nat) : Nat := x.par (16 * c)

/-- The island's kill mask: on an owned island every SDO; else the two masks together, 0xFF while either field is
stale. -/
def Island.killBits (x : Island) : Nat :=
  if bitAt (x.par 128) 0 then 0xFF
  else (if x.safeA.stale then 0xFF else x.safeA.mask) ||| (if x.safeB.stale then 0xFF else x.safeB.mask)

/-- Row 1 of R305 and R325 applies to a channel. -/
def Island.killed (x : Island) (c : Nat) : Bool := x.kill && bitAt x.killBits c

/-- A path's demand on an SDO. -/
def IslSafe.demands (x : IslSafe) (c : Nat) : Bool := !x.stale && bitAt x.mask c

/-! ### Effective outputs (R305) -/

/-- The row of R305 that applies to a DO or SDO; a retry suspends row 3. -/
def Island.row (x : Island) (c : Nat) : Nat :=
  let h := x.chan c
  if x.killed c then 1
  else if x.sagOff || h.waiting then 2
  else if h.overload && !h.retrying then 3
  else if x.fs then 4
  else 5

/-- The state that rows 4 and 5 give, without the paths' demands. -/
def Island.wanted (x : Island) (c : Nat) : Bool :=
  let h := x.chan c
  let on := h.word % 2 == 1
  if x.fs then
    x.pers c == 3 && (x.par (16 * c + 1) == 1 || (x.par (16 * c + 1) == 2 && on))
  else on

/-- Whether path A or B of an SDO, or a DO's one switch, is closed where no row opens it. -/
def Island.pathOn (x : Island) (c : Nat) (f : IslSafe) : Bool :=
  x.alive && decide (4 ≤ x.row c) && x.wanted c && (x.pers c == 3 || (x.pers c == 9 && f.demands c))

/-- The effective state of a DO or SDO. -/
def Island.eff (x : Island) (c : Nat) : Bool := x.pathOn c x.safeA && x.pathOn c x.safeB

/-- AT_LIMIT (R320, R322): active, the buck or its falling rail gives no more and the regulator is at its minimum
drop; passive, below 9.0 V and below target. -/
def Island.atLimit (x : Island) (c : Nat) (target : Nat) : Bool :=
  let h := x.chan c
  let rail := if x.supply < 14000 then 28000 * x.supply / 14000 else 28000
  if x.pers c = 5 then h.minDrop && (h.buck == 26000 || decide (rail < h.buck))
  else !h.stopped && decide (h.vterm < 9000) && decide (h.cur < target)

/-- The trimmed value of a current in nA (R330), halves rounded upward. -/
def Island.trimmed (x : Island) (c : Nat) (v : Nat) : Int :=
  ((v * x.par (16 * c + 4) + 8192) / 16384 : Nat) + sgn 24 (x.par (16 * c + 3)) * 100

/-- The trimmed target of a word (R330). -/
def Island.target (x : Island) (c word : Nat) : Nat := (aoClamp (x.pers c) (x.trimmed c (word * 400))).toNat

/-- The row of R325 that applies to an AO. -/
def Island.aoRow (x : Island) (c : Nat) : Nat :=
  if x.killed c then 1
  else if x.pers c == 5 && (x.chan c).thermal then 2
  else if x.fs then 3
  else 4

/-- A value under the ramp of a handover, at an FRC instant: linear over 60 µs from S (R214). -/
def Island.ramped (x : Island) (frc v : Nat) : Nat :=
  match x.ramp with
  | some (at_, up) => v * (if up then min (frc - at_) 60000 else 60000 - min (frc - at_) 60000) / 60000
  | none => v

/-- The current that an AO is to carry in nA at an FRC instant; none is hi-Z or an open loop path (R214, R325, R330). -/
def Island.aoRequest (x : Island) (frc c : Nat) : Option Nat :=
  let fail := x.par (16 * c + 1)
  let word := (x.chan c).word
  match x.aoRow c with
  | 4 => some (x.ramped frc (x.target c word))
  | 3 => if fail / 2 ^ 20 = 1 then some (x.target c word)
         else if fail / 2 ^ 20 = 2 then some (x.target c (fail % 2 ^ 16))
         else none
  | _ => none

/-- The row 4 target of an AO. -/
def Island.aoTarget (x : Island) (c : Nat) : Nat := x.target c (x.chan c).word

/-- Whether a measured current agrees with a target: within 0.2 mA + 1 % of the target (R326). -/
def aoAgrees (cur t : Nat) : Bool :=
  decide (cur ≤ t + 200000 + t / 100) && decide (t ≤ cur + 200000 + t / 100)

/-- An AO readback mismatch (R326): its conditions on the channel. -/
def Island.aoMismatch (x : Island) (c : Nat) : Bool :=
  let h := x.chan c
  x.alive && persAo (x.pers c) && x.aoRow c == 4 && !h.atLimit && !h.open_ && !h.thermal && !aoAgrees h.cur (x.aoTarget c)

/-! ### Conditions that are timed -/

/-- Since when a condition has held, given whether it holds now. -/
def since (was : Option Nat) (now : Nat) (holds : Bool) : Option Nat := if holds then some (was.getD now) else none

/-- A DO or SDO whose terminal reads otherwise than row 5 of R305 asks (R308). -/
def Island.doMismatch (x : Island) (c : Nat) : Bool :=
  x.alive && persDo (x.pers c) && x.row c == 5 && (x.eff c != (x.chan c).raw)

/-- An AO that AT_LIMIT keeps more than 0.1 mA below its target (R323). -/
def Island.aoDeficit (x : Island) (c : Nat) : Bool :=
  x.alive && persAo (x.pers c) && x.aoRow c == 4 && (x.chan c).atLimit && decide ((x.chan c).cur + 100000 < x.aoTarget c)

/-- An AO within 0.1 mA of its target (R323). -/
def Island.aoFits (x : Island) (c : Nat) : Bool :=
  x.aoRow c == 4 && decide ((x.chan c).cur ≤ x.aoTarget c + 100000) && decide (x.aoTarget c ≤ (x.chan c).cur + 100000)

/-- What the rules time of a channel is followed, on the clock of safClock. -/
def Island.timedChan (x : Island) (now c : Nat) : Island :=
  let h := x.chan c
  x.setChan c { h with
    onAt := since h.onAt now h.closed
    misAt := since h.misAt now (x.doMismatch c || x.aoMismatch c)
    misTold := h.misTold && (x.doMismatch c || x.aoMismatch c)
    agrAt := since h.agrAt now (x.aoRow c == 4 && aoAgrees h.cur (x.aoTarget c))
    defAt := since h.defAt now (x.aoDeficit c)
    fitAt := since h.fitAt now (x.aoFits c)
    rowAt := since h.rowAt now (x.aoRow c != 4)
    compOff := h.compOff + (if x.aoRow c == 4 then now - h.rowAt.getD now else 0) }

/-- What the rules time of an island is followed: its channels, and its supply below 15.0 V and above 19.2 V (R306). -/
def Island.timed (x : Island) (now : Nat) : Island :=
  let x := { x with
    underAt := since x.underAt now (x.alive && decide (x.supply < 15000))
    overAt := since x.overAt now (x.alive && decide (19200 < x.supply)) }
  ((List.range 8).filter (fun c => x.pers c != 0)).foldl (fun (y : Island) c => y.timedChan now c) x

end Sys2Proof.Machine
end

