-- ==== Sys2Proof/Machine/Islands.lean ====
section
/-!
DEFINITION. Field islands: the barrier link in both directions, the island side, and the digital personalities
(R290 to R312). An island's field side acts on its own; its events are commands.
-/
namespace Sys2Proof.Machine

/-! ### Records -/

/-- An island. -/
def State.island (s : State) (k : Nat) : Island := (Assoc.find? s.isl k).getD {}

/-- A switch that closes is counted, and the clamp energy of one that opens is added, up to 150 mJ, which the spec
leaves to the load (R304, R434). -/
def State.wearSwitch (s : State) (n : Nat) (was now : Bool) : State :=
  if !was && now then
    s.wr64 (Reg.WR_Q_LO (0x40 + n)) (Reg.WR_Q_HI (0x40 + n)) (s.rd64 (Reg.WR_Q_LO (0x40 + n)) (Reg.WR_Q_HI (0x40 + n)) + 1)
  else if was && !now then
    (s.wr64 (Reg.WR_Q_LO (0x80 + n)) (Reg.WR_Q_HI (0x80 + n))
      (s.rd64 (Reg.WR_Q_LO (0x80 + n)) (Reg.WR_Q_HI (0x80 + n)) + s.freeWord.toNat % 151)).useFree
  else s

/-- Replace an island; what the rules time of it is followed, and the wear monitors see its switches. -/
def State.setIsland (s : State) (k : Nat) (x : Island) : State :=
  let old := s.island k
  let x := x.timed s.safClock
  { (List.range 8).foldl (fun s c => s.wearSwitch (8 * k + c) ((old.chan c).closed) ((x.chan c).closed)) s with
    isl := Assoc.insert s.isl k x }

/-- The island is fitted (R290). -/
def State.islFitted (s : State) (k : Nat) : Bool := decide (k < s.cap Reg.SYS_CAPS_ISLANDS)

/-- Change a channel. -/
def State.setCh (s : State) (k c : Nat) (h : IslChan) : State := s.setIsland k ((s.island k).setChan c h)

/-- SOURCE of an island's codes (R412). -/
def islSource (k : Nat) : Nat := 0x20 + k

/-- The island's fault flag. -/
def State.islFault (s : State) (k : Nat) : Bool := s.on (Reg.ISL_STAT_BARRIER_FAULT k)

/-! ### Commands to output channels -/

/-- The output word of a channel (R299, R314). -/
def outWord (pers cmd : Nat) : Nat :=
  if persDo pers then b2n (cmd != 0)
  else if persAo pers then min 60000 (((aoClamp pers (sgn 32 cmd)).toNat + 200) / 400)
  else 0

/-- The master takes a channel's command from the committed image or from its loop. -/
def State.setOut (s : State) (k c value : Nat) : State :=
  let s := s.setCh k c { (s.island k).chan c with cmd := value % 2 ^ 32 }
  if persAo (s.chPers k c) then
    let v := sgn 32 value
    let floor := s.chPers k c == 6 && decide (v < 3600000)
    (s.wrB (Reg.ISL_AN_STAT_FLOOR k c) floor).wrB (Reg.ISL_AN_STAT_CLAMPED k c)
      (!floor && (decide (v < 0) || decide (24000000 < v)))
  else s

/-! ### The parameter table (R297, R316) -/

/-- The master's value of a parameter index. -/
def State.islParam (s : State) (k i : Nat) : Nat :=
  if !s.locked then 0
  else if i < 128 then
    let c := i / 16
    let p := s.chPers k c
    let an := s.chAnalog k c
    let fail := s.chFail k c
    match i % 16 with
    | 0 => p
    | 1 => if persAo p then fail / 2 ^ 28 * 2 ^ 20 + (bits fail 0 25 + 200) / 400 else if persDo p then fail else 0
    | 2 => if an then 0 else s.chFilter k c + b2n (s.chInvert k c) * 2 ^ 8
    | 3 => if an then toBits 24 (sgn 16 (s.rd (Reg.ISL_AN_TRIM_ZERO k c))) else 0
    | 4 => if an then s.rd (Reg.ISL_AN_TRIM_SPAN k c) else 0
    | 5 => if p = 4 then bits fail 0 16 else 0
    | 6 => if p = 4 then bits fail 16 2 else 0
    | _ => 0
  else if i = 128 then s.islFlags k
  else if i = 129 then s.station % 2 ^ 24
  else if i = 130 then bits s.station 24 8 + k * 2 ^ 8
  else 0

/-- A parameter arrives in frame `no`: it is applied once the same value has come at the same index in two
consecutive rotations, that is 256 frames apart. -/
def Island.takeParam (x : Island) (no i v : Nat) : Island :=
  let old := Assoc.find? x.params i
  let same := match old with
    | some p => p.val == v && p.no + 256 == no
    | none => false
  let was := match old with
    | some p => p.applied
    | none => none
  { x with params := Assoc.insert x.params i { val := v, no, applied := if same then some v else was } }

/-- CFG_OK: every index has been applied since the island's reset. -/
def Island.configured (x : Island) : Bool :=
  (List.range 256).all (fun i => match Assoc.find? x.params i with
    | some p => p.applied.isSome
    | none => false)

/-! ### Safety fields (R309) -/

/-- SCHK of path A (0) or B (1) over bytes. -/
def schk (path : Nat) (bs : List Byte) : Nat := crcMsb 16 0x8BB7 (if path = 0 then 0x5A5A else 0xA5A5) bs

/-- What a safety check covers, before its own bytes. -/
def State.schkHead (s : State) (k : Nat) : List Byte := leBytes 4 s.station ++ leBytes 1 k

/-- KILL_MASK of an island: 0xFF while the safety domain holds no accepted section (R253). -/
def State.killMask (s : State) (k : Nat) : Nat :=
  if s.saf.section_ = [] then 0xFF else le s.saf.section_ (16 + 0x398 + k) 1

/-- Whether the safety domain has an island given to it. -/
def State.safOwned (s : State) (k : Nat) : Bool :=
  decide (k < 2) && bitAt (le s.saf.section_ (16 + 0x3A0) 1) k

/-- A test-pulse line is switched off for 400 µs from its off edge; a channel that it feeds keeps its process value for
100 µs more (R261). -/
def State.lineOff (s : State) (l ns : Nat) : Bool :=
  (Assoc.find? s.saf.pulse l).any (fun t => decide (t ≤ s.safClock) && decide (s.safClock < t + ns))

/-- The demand that a path's switches follow: its processor's, the survivor's where it is failed (R247), none
outside RUN (R250). -/
def State.safDemand (s : State) (path : Nat) : Nat :=
  if s.rd Reg.SAF_STAT_STATE ≠ 2 then 0
  else if path = 0 then (if s.saf.failA then s.saf.demB else s.saf.demA)
  else (if s.saf.failB then s.saf.demA else s.saf.demB)

/-- A safety field as the safety domain's barrier port builds it. -/
def State.safeField (s : State) (path k : Nat) : List Byte :=
  if !s.saf.powered then [0, 0, 0, 0]
  else
    let mask := if s.safOwned k then bits (s.safDemand path) (8 * k) 8 else s.killMask k
    let lines := if s.safOwned k then
        ((List.range 4).map (fun j => if s.lineOff (4 * k + j) 400000 then 0 else 2 ^ j)).sum else 0
    let b := leBytes 1 mask ++ leBytes 1 (lines + s.safClock / 100000 % 16 * 16)
    b ++ leBytes 2 (schk path (s.schkHead k ++ b))

/-- A path's field arrives: taken where its check is good, and no longer stale where SSEQ has advanced too. -/
def IslSafe.take (x : IslSafe) (now path : Nat) (head field : List Byte) : IslSafe :=
  let b := field.take 2
  let sseq := bits (le b 1 1) 4 4
  if le field 2 2 = schk path (head ++ b) then
    { mask := le b 0 1, lines := bits (le b 1 1) 0 4, sseq, stale := x.stale && sseq == x.sseq
      at_ := if sseq == x.sseq then x.at_ else now }
  else x

/-- Every switch follows its effective state: at a good frame, and on entry to the fail state. -/
def Island.follow (x : Island) : Island :=
  (List.range 8).foldl (fun (y : Island) c =>
    let e := x.eff c
    y.setChan c { y.chan c with closed := e, retrying := (y.chan c).retrying && e }) x

/-- Switches whose effective state has become OFF open at once. -/
def Island.openNow (x : Island) : Island :=
  (List.range 8).foldl (fun (y : Island) c =>
    let e := x.eff c
    y.setChan c { y.chan c with closed := (y.chan c).closed && e, retrying := (y.chan c).retrying && e }) x

/-- Channels whose switch is closed, as a mask. -/
def Island.closedMask (x : Island) : Nat :=
  ((List.range 8).map (fun c => if (x.chan c).closed then 2 ^ c else 0)).sum

/-! ### Sag release (R307) -/

/-- The next channel in ascending order switches on, where its effective state is then ON. -/
def Island.restoreOne (x : Island) : Island :=
  match (List.range 8).find? (fun c => (x.chan c).waiting) with
  | none => x
  | some c =>
    let y := x.setChan c { x.chan c with waiting := false }
    y.setChan c { y.chan c with closed := y.eff c }

/-- Channels that would switch on at a release: none waits that its command keeps off. -/
def Island.release (x : Island) : Island :=
  let y := { x with sagOff := false, ready := false }
  ((List.range 8).foldl (fun (z : Island) c => z.setChan c { z.chan c with waiting := y.eff c }) y).restoreOne

/-- SAG_OFF is released (R307): cause 0 automatic, 1 command. -/
def State.sagRelease (s : State) (k cause : Nat) : State :=
  let x := s.island k
  if x.sagOff && x.ready then
    (s.setIsland k { x.release with restAt := s.safClock }).post (islSource k) 0x0B06 k cause
      ((s.safClock - x.sagAt) / 1000000)
  else s

/-! ### What the master shows -/

/-- The input value, QUAL and FLAGS bits of a digital channel's input word, and of the measured current of an
analogue one (R299, R306, R314, R318). -/
def Island.inWord (x : Island) (c : Nat) : Nat :=
  let h := x.chan c
  let q (n : Nat) := n * 2 ^ 22
  let unc := b2n x.unc
  match x.pers c with
  | 1 => b2n h.state + q unc
  | 2 => b2n h.state + b2n h.wb * 2 + q (if h.wb then 2 else unc)
  | 3 => b2n h.raw + b2n h.closed * 2 + b2n h.overload * 4
  | 4 => min 2500000 ((h.cur + 5) / 10) +
      q (if bitAt (x.par (16 * c + 6)) 0 then (if h.band = 6 then 2 else 0)
         else if h.band = 3 then 0 else if h.band = 2 ∨ h.band = 4 then 1 else 2)
  | 5 => min (2 ^ 18 - 1) ((h.cur + 50) / 100) + b2n h.atLimit * 2 ^ 18 + b2n h.thermal * 2 ^ 19 + b2n h.open_ * 2 ^ 20
  | 6 => min (2 ^ 18 - 1) ((h.cur + 50) / 100) + b2n h.atLimit * 2 ^ 18 + b2n h.open_ * 2 ^ 20
  | 7 => h.count + q unc
  | 8 => b2n h.raw + b2n h.rawB * 2 + q unc
  | 9 => b2n h.raw + b2n h.closed * 2 + b2n h.overload * 4 + b2n (x.pathOn c x.safeA) * 8 + b2n (x.pathOn c x.safeB) * 16
  | _ => q 3

/-- HDR of an inbound frame (R294). -/
def Island.hdr (x : Island) : Nat :=
  2 + b2n x.cfgOk * 4 + b2n x.fs * 8 + b2n x.kill * 16 + b2n x.warn * 32 + b2n x.sagOff * 64 +
  b2n ((List.range 8).any (fun c => (x.chan c).grouped)) * 128

/-- SDI states on one path. -/
def Island.sdi (x : Island) (path : Nat) : Nat :=
  ((List.range 8).map (fun c =>
    if x.pers c == 8 && (if path = 0 then (x.chan c).raw else (x.chan c).rawB) then 2 ^ c else 0)).sum

/-- The frame that the island sends in a slot (R294). -/
def State.islFrame (s : State) (k : Nat) (x : Island) : List Byte :=
  let seq := x.seq % 256
  let owned := bitAt (x.par 128) 0
  let chk (path : Nat) := if owned then schk path (s.schkHead k ++ leBytes 1 seq ++ leBytes 1 (x.sdi path)) else 0
  let aux := if seq % 2 = 0 then leBytes 2 (chk 0) ++ leBytes 2 (chk 1)
    else leBytes 2 x.supply ++ leBytes 2 (toBits 16 x.temp)
  let b := leBytes 1 x.hdr ++ leBytes 1 seq ++ (List.range 8).flatMap (fun c => leBytes 3 (x.inWord c)) ++ aux
  b ++ leBytes 2 (crcMsb 16 0x1021 0xFFFF b)

/-- Show a channel's input word (R300, R314): VALUE, QUAL, FLAGS and the analogue flags. -/
def State.islShowCh (s : State) (k c word hdr : Nat) : State :=
  let x := s.island k
  let h := x.chan c
  let p := s.chPers k c
  let v := bits word 0 22
  let qual := bits word 22 2
  let bit (n : Nat) : Nat := b2n (bitAt v n)
  let sag := b2n (bitAt hdr 6) * 4
  let killed := b2n (bitAt hdr 4) * 8
  let value :=
    if p = 1 then b2n (bitAt v 0 != s.chInvert k c)
    else if p = 2 then b2n ((bitAt v 0 && !bitAt v 1) != s.chInvert k c)
    else if p = 3 ∨ p = 9 then bit 0
    else if p = 4 then v * 10
    else if p = 5 ∨ p = 6 then bits v 0 18 * 100
    else if p = 8 then b2n (bitAt v 0 && bitAt v 1)
    else 0
  let off := bitAt (s.chFail k c) 16
  let low := p == 4 && !off && decide (h.band ≤ 1)
  let high := p == 4 && (if off then h.band == 6 else decide (5 ≤ h.band))
  let range := p == 4 && !off && (h.band == 2 || h.band == 4)
  let aoFault := s.on (Reg.ISL_AN_STAT_COMP_FAULT k c) || s.on (Reg.ISL_AN_STAT_READBACK k c)
  let flags :=
    if p = 2 then bit 1 + sag + killed
    else if p = 3 then bit 2 * 2 + sag + killed + bit 1 * 32
    else if p = 9 then bit 2 * 2 + sag + killed + bit 1 * 32 + bit 3 * 64 + bit 4 * 128
    else if p = 4 then b2n (low && h.band == 0) + b2n h.txOver * 2 + killed + b2n low * 32 + b2n high * 64 + b2n range * 128
    else if p = 5 ∨ p = 6 then
      (if p = 5 then sag else 0) + killed + s.rd (Reg.ISL_AN_STAT_COMPLIANCE k c) * 32 + bit 19 * 64 + b2n aoFault * 128
    else if p = 0 then 0
    else sag + killed
  let qual := if (p = 5 ∨ p = 6) ∧ aoFault then 2 else if p = 0 then 3 else qual
  let s := ((s.wr (Reg.ISL_CH_STAT_QUAL k c) qual).wr (Reg.ISL_CH_STAT_FLAGS k c) flags)
  let s := if p = 7 then s else s.wr (Reg.ISL_CH_VAL k c) value
  if p = 4 then
    let s := ((s.wrB (Reg.ISL_AN_STAT_LOW_FAULT k c) low).wrB (Reg.ISL_AN_STAT_HIGH_FAULT k c) high).wrB
      (Reg.ISL_AN_STAT_OUT_OF_RANGE k c) range
    (s.wrB (Reg.ISL_AN_STAT_TX_OVERLOAD k c) h.txOver).wr (Reg.ISL_AN_MEAS k c) value
  else if p = 5 ∨ p = 6 then
    let s := ((s.wrB (Reg.ISL_AN_STAT_AT_LIMIT k c) (bitAt v 18)).wrB (Reg.ISL_AN_STAT_THERMAL k c) (bitAt v 19)).wrB
      (Reg.ISL_AN_STAT_OPEN k c) (bitAt v 20)
    s.wr (Reg.ISL_AN_MEAS k c) value
  else s

/-- The master extends a pulse count to 32 bits and notes when its edges came (R303). Edges during a barrier fault
are lost. -/
def State.islPulse (s : State) (k c word : Nat) (fault : Bool) : State :=
  let h := (s.island k).chan c
  let new := bits word 0 20
  let d := if fault then 0 else (new + 2 ^ 20 - h.last) % 2 ^ 20
  let edges := if fault then [] else
    (h.edges ++ (if d = 0 then [] else [(s.frc, d)])).filter (fun e => decide (s.frc < e.1 + 1000000000))
  let s := s.setCh k c { h with last := new, edges }
  s.wr (Reg.ISL_CH_VAL k c) (s.rd (Reg.ISL_CH_VAL k c) + d)

/-- FREQ of a pulse input (R303). -/
def State.islFreq (s : State) (k c : Nat) : Nat :=
  let h := (s.island k).chan c
  min 65535 ((h.edges.filter (fun e => decide (s.frc < e.1 + 1000000000))).map (fun e => e.2)).sum

/-- A channel's input entry (R300, R314). -/
def State.islEntry (s : State) (k c : Nat) : List Byte :=
  leBytes 4 (s.rd (Reg.ISL_CH_VAL k c)) ++ leBytes 2 (if s.chPers k c = 7 then s.islFreq k c else 0) ++
  leBytes 1 (s.rd (Reg.ISL_CH_STAT_QUAL k c)) ++ leBytes 1 (s.rd (Reg.ISL_CH_STAT_FLAGS k c))

/-- During a barrier fault each input word keeps its last good value with QUAL bad (R295). -/
def State.islBad (s : State) (k : Nat) : State :=
  (List.range 8).foldl (fun s c =>
    (s.wr (Reg.ISL_CH_STAT_QUAL k c) 2).wr (Reg.ISL_CH_STAT_FLAGS k c)
      (putBit (s.rd (Reg.ISL_CH_STAT_FLAGS k c)) 4 true)) s

/-! ### Outbound frames -/

/-- OUT_VALID of the frames to an island: a locked module in control whose outputs have not been stopped, outside a
barrier fault (R62, R206, R214, R295, R310, R479, R480). -/
def State.outValid (s : State) (k : Nat) : Bool :=
  s.locked && (s.inControl || s.ban.driving) && !s.islFault k && !s.power.outputsOff && !s.ban.framesOff

/-- A frame from the master (R293). -/
def State.islSend (s : State) (k : Nat) : List Byte :=
  let x := s.island k
  let no := x.txCount
  let b := leBytes 1 (1 + b2n (s.outValid k) * 4 + b2n (x.restore != 0) * 8) ++ leBytes 1 no ++
    (List.range 8).flatMap (fun c => leBytes 2 (if s.locked then outWord (s.chPers k c) (x.chan c).cmd else 0)) ++
    leBytes 1 no ++ leBytes 3 (s.islParam k (no % 256)) ++ s.safeField 0 k ++ s.safeField 1 k
  b ++ leBytes 2 (crcMsb 16 0x1021 0xFFFF b)

/-- BARRIER_FRAME_SEND (R292): a frame in every slot while the control domain runs; its words are taken 6 µs before its
slot, the next FRC multiple of 10 µs that still allows it. -/
def execBarrierFrameSend (k : Fin 8) (s : State) : Answer :=
  if s.power.running && s.islFitted k then
    let x := s.island k
    let slot := max (x.txSlot + 1) ((s.frc + 15999) / 10000)
    let s := { s with frc := max s.frc (10000 * slot - 6000) }
    .next (s.setIsland k { x with
      sent := s.islSend k, sentNo := x.txCount, txCount := x.txCount + 1, txSlot := slot, restore := x.restore - 1 })
  else .next s

/-- A channel starts anew when its personality changes. -/
def Island.resetChan (x : Island) (c : Nat) : Island :=
  x.setChan c { cmd := (x.chan c).cmd, word := (x.chan c).word, last := (x.chan c).last, edges := (x.chan c).edges }

/-- A good frame reaches the island (R296, R297, R309). -/
def State.islTake (s : State) (k : Nat) (f : List Byte) : State :=
  let x := s.island k
  let i := le f 0x12 1
  let before := x.pers (i / 16)
  let y := x.takeParam x.sentNo i (le f 0x13 3)
  let y := if i < 128 ∧ i % 16 = 0 ∧ y.pers (i / 16) ≠ before then y.resetChan (i / 16) else y
  let y := { y with cfgOk := y.cfgOk || y.configured }
  let y := { y with
    safeA := y.safeA.take s.safClock 0 (s.schkHead k) (slice f 0x16 4)
    safeB := y.safeB.take s.safClock 1 (s.schkHead k) (slice f 0x1A 4)
    sent := [], frameAt := s.safClock, rxNo := some x.sentNo
    ovRun := if x.rxNo.any (fun n => n + 1 ≠ x.sentNo) then 0 else y.ovRun }
  let valid := bitAt (le f 0 1) 2
  let y :=
    if !valid then
      { y with ovRun := 0, fsCause := if y.fs then y.fsCause else 1, fs := true }
    else
      let n := min (y.ovRun + 1) 2
      { y with ovRun := n, fs := y.fs && !(n == 2 && y.cfgOk) }
  let y :=
    if valid && y.cfgOk && !y.fs then
      (List.range 8).foldl (fun (z : Island) c => z.setChan c { z.chan c with word := le f (2 + 2 * c) 2 }) y
    else y
  let s := s.setIsland k y.follow
  if bitAt (le f 0 1) 3 then s.sagRelease k 1 else s

/-- An output channel of the module's own islands reads energised (R220, R327): a DO whose terminal is ON, an AO_ACTIVE of
0.125 V or more at its terminal. An AO_PASSIVE is left out. -/
def Island.energised (x : Island) (c : Nat) : Bool :=
  if persDo (x.pers c) then (x.chan c).raw
  else x.pers c == 5 && decide (125 ≤ (x.chan c).vterm)

/-- The outputs are read for condition 3 of R220. -/
def State.outSample (s : State) : State :=
  if (List.range 8).any (fun k => (List.range 8).any (fun c => (s.island k).energised c)) then
    { s with ban := { s.ban with outOnAt := some s.frc, outOffAt := s.frc } }
  else s

/-- ISLAND_FRAME_RECEIVE (R296): the frame on its way arrives good, at its slot. -/
def execIslandFrameReceive (k : Fin 8) (s : State) : Answer :=
  let x := s.island k
  if x.alive && x.sent != [] then
    .next (({ s with frc := max s.frc (10000 * x.txSlot) } : State).islTake k x.sent)
  else .next s

/-- ISLAND_WATCHDOG (R296): 40 µs after the end of its last good frame each channel's fail state is applied. -/
def execIslandWatchdog (k : Fin 8) (s : State) : Answer :=
  let x := s.island k
  if x.alive then
    let s := s.waitTo (x.frameAt + 40000)
    .next (s.setIsland k { x with ovRun := 0, fsCause := if x.fs then x.fsCause else 0, fs := true }.follow)
  else .next s

/-! ### Inbound slots (R295) -/

/-- A barrier fault begins. -/
def State.islFaultOn (s : State) (k : Nat) : State :=
  let x := s.island k
  let s := (s.setIsland k { x with faultAt := s.frc, goodRun := 0 }).wr (Reg.ISL_STAT_BARRIER_FAULT k) 1
  (s.islBad k).bump (Reg.ISL_LINK_FAULTS k) |>.post (islSource k) 0x0B01 k (x.lastSeq.getD 0) 0

/-- Count bad slots: three consecutive ones make a barrier fault. `n` is how many there have now been in a row. -/
def State.islBadSlots (s : State) (k n : Nat) : State :=
  let x := s.island k
  let s := s.bumpBy (Reg.ISL_LINK_BAD k) (n - x.badRun)
  let s := s.setIsland k { x with badRun := n, goodRun := 0 }
  if 3 ≤ n ∧ !s.islFault k then s.islFaultOn k else s

/-- What a good frame's HDR shows (R294, R296). -/
def State.islHdr (s : State) (k hdr : Nat) : State :=
  let x := s.island k
  let was := s.on (Reg.ISL_STAT_FAIL_STATE k)
  let s := (((s.wrB (Reg.ISL_STAT_CFG_OK k) (bitAt hdr 2)).wrB (Reg.ISL_STAT_FAIL_STATE k) (bitAt hdr 3)).wrB
    (Reg.ISL_STAT_KILLED k) (bitAt hdr 4)).wrB (Reg.ISL_STAT_SAG_WARN k) (bitAt hdr 5)
  let s := ((s.wrB (Reg.ISL_STAT_SAG_OFF k) (bitAt hdr 6)).wrB (Reg.ISL_STAT_GROUP_OVL k) (bitAt hdr 7)).wrB
    (Reg.ISL_STAT_RESTORE_READY k) x.ready
  if bitAt hdr 3 && !was then s.post (islSource k) 0x0B03 k x.fsCause 0 else s

/-- The supply that an odd frame carries (R294). -/
def State.islSupplyShow (s : State) (k mv : Nat) : State :=
  (s.wr (Reg.ISL_SUPPLY_NOW k) mv).wr (Reg.ISL_SUPPLY_MIN k) (min mv (s.rd (Reg.ISL_SUPPLY_MIN k)))

/-- The safety domain reads an owned island's SDI states where the checks are good, but for the channels whose test
line is off (R261, R265). -/
def State.islSdi (s : State) (k : Nat) (f : List Byte) : State :=
  if s.safOwned k && le f 1 1 % 2 == 0 then
    let path (p : Nat) : Nat := ((List.range 8).map (fun c => if bitAt (le f (2 + 3 * c) 3) p then 2 ^ c else 0)).sum
    let good (p : Nat) : Bool :=
      le f (0x1A + 2 * p) 2 == schk p (s.schkHead k ++ slice f 1 1 ++ leBytes 1 (path p))
    let lineB := le s.saf.section_ (16 + 0x3A2) 2
    let held (c : Nat) : Bool := s.lineOff (2 * (2 * k + c / 4) + b2n (bitAt lineB (8 * k + c))) 500000
    let merge (old new : Nat) : Nat :=
      (List.range 8).foldl (fun v c => if held c then v else putBit v (8 * k + c) (bitAt new c)) old
    let x := s.island k
    let stale := putBit (putBit x.inStale 0 (bitAt x.inStale 0 && !good 0)) 1 (bitAt x.inStale 1 && !good 1)
    let s := s.setIsland k { x with
      inA := if good 0 then s.safClock else x.inA, inB := if good 1 then s.safClock else x.inB, inStale := stale }
    if stale ≠ 0 then s
    else { s with saf := { s.saf with
      sdiA := if good 0 then merge s.saf.sdiA (path 0) else s.saf.sdiA
      sdiB := if good 1 then merge s.saf.sdiB (path 1) else s.saf.sdiB } }
  else s

/-- A good inbound frame (R295): its SEQ jump counts the slots that no frame filled, those already counted among
them; then its HDR, its supply and, outside a barrier fault, its input words are taken. -/
def State.islGood (s : State) (k : Nat) (f : List Byte) : State :=
  let x := s.island k
  let seq := le f 1 1
  let jump := match x.lastSeq with
    | some l => (seq + 256 - l) % 256
    | none => 1
  let s := if x.badRun < jump - 1 then s.islBadSlots k (jump - 1) else s
  let hdr := le f 0 1
  let x := s.island k
  let s := s.setIsland k { x with
    lastSeq := some seq, badRun := 0, back := f, goodRun := if bitAt hdr 2 then x.goodRun + 1 else 0 }
  let s := s.islHdr k hdr
  let s := if seq % 2 = 1 then s.islSupplyShow k (le f 0x1A 2) else s
  let s := s.islSdi k f
  let s :=
    if s.islFault k && decide (100 ≤ (s.island k).goodRun) then
      (s.wr (Reg.ISL_STAT_BARRIER_FAULT k) 0).post (islSource k) 0x0B02 k
        (min ((s.frc - x.faultAt) / 1000) (2 ^ 32 - 1)) (b2n (bitAt hdr 2))
    else s
  let fault := s.islFault k
  (List.range 8).foldl (fun s c =>
    let word := le f (2 + 3 * c) 3
    let s := if s.chPers k c = 7 then s.islPulse k c word fault else s
    if fault then s else s.islShowCh k c word hdr) s

/-- The supply as the island measures it (R306): at or below 19.2 V it warns. -/
def State.islMeasure (s : State) (k supply : Nat) : State :=
  let x := s.island k
  let warn := decide (supply ≤ 19200)
  let low := if warn && !x.warn then supply else min x.low supply
  let s := s.setIsland k { x with supply, low, warn := x.warn || warn }
  if warn && !x.warn then s.post (islSource k) 0x0B04 k supply 0 else s

/-- An AO's measured current, terminal voltage, headroom and temperature in a slot. -/
def IslChan.measure (h : IslChan) (a : AoMeas) : IslChan :=
  { h with cur := a.cur, vterm := a.vterm, minDrop := a.minDrop, temp := a.temp }

/-- What the terminals of the island's AOs show in a slot, channel by channel. -/
def Island.measureAo (x : Island) (ao : List AoMeas) : Island :=
  (List.range 8).foldl (fun (y : Island) c =>
    if persAo (y.pers c) then
      match ao[c]? with
      | some a =>
        let y := y.setChan c ((y.chan c).measure a)
        y.setChan c { y.chan c with atLimit := y.atLimit c (y.target c (y.chan c).word) }
      | none => y
    else y) x

/-- ISL_AN_DIAG follows the channel (R320, R321). -/
def State.islDiag (s : State) (k : Nat) : State :=
  (List.range 8).foldl (fun s c =>
    if s.chAnalog k c then
      let h := (s.island k).chan c
      (s.wr (Reg.ISL_AN_DIAG_VTERM k c) h.vterm).wr (Reg.ISL_AN_DIAG_TEMP k c)
        (if s.chPers k c = 4 then 0 else toBits 16 h.temp)
    else s) s

/-- BARRIER_SLOT (R295, R306), at the next FRC multiple of 10 µs: the island measures its supply, its temperature and its outputs and sends its frame;
`good` says whether the frame arrived good, `skip` how many more frames it had counted that filled no slot. -/
def execBarrierSlot (k : Fin 8) (good : Bool) (skip : Fin 256) (field : IslField) (s : State) : Answer :=
  if !(s.power.running && s.islFitted k) then .next s
  else
    let slot := max ((s.island k).rxSlot + 1) ((s.frc + 9999) / 10000)
    let s := ({ s with frc := 10000 * slot } : State).setIsland k { s.island k with rxSlot := slot }
    let x := s.island k
    if !x.alive then .next (s.islBadSlots k (x.badRun + 1))
    else
      let s := s.islMeasure k field.supply
      let x := s.island k
      let x := { x with temp := field.temp, seq := x.seq + 1 + skip }.measureAo field.ao
      let s := (s.setIsland k x).outSample
      if good then .next ((s.islGood k (s.islFrame k x)).islDiag k)
      else .next (s.islBadSlots k (x.badRun + 1))

/-! ### Digital inputs -/

/-- A terminal as R301 or R308 classifies it: between the thresholds it keeps its reading. -/
def readLevel (l : Level) (old : Bool) : Bool :=
  match l with
  | .on => true
  | .off => false
  | .between => old

/-- One sample of a channel (R301, R303, R308). -/
def Island.sample (x : Island) (c : Nat) (d : DigSample) : Island :=
  let h := x.chan c
  let raw := readLevel d.level h.raw
  let p := x.pers c
  if p = 1 ∨ p = 2 then
    let need := 10 * bits (x.par (16 * c + 2)) 0 8
    let run := if raw = h.state then 0 else if raw = h.raw then h.run + 1 else 1
    let take := raw != h.state && decide (need < run)
    x.setChan c { h with raw, state := if take then raw else h.state, run := if take then 0 else run }
  else if p = 7 then x.setChan c { h with count := (h.count + d.edges) % 2 ^ 20 }
  else if p = 8 then x.setChan c { h with raw, rawB := readLevel d.levelB h.rawB }
  else if p = 3 ∨ p = 9 then x.setChan c { h with raw }
  else x

/-- INPUT_SAMPLE (R301): every digital terminal of an island, every 10 µs. -/
def execInputSample (k : Fin 8) (smp : List DigSample) (s : State) : Answer :=
  let x := s.island k
  if x.alive then
    let s := s.waitTo (x.smpAt + 10000)
    .next (s.setIsland k ((List.range 8).foldl (fun (y : Island) c => match smp[c]? with
      | some d => y.sample c d
      | none => y) { x with smpAt := s.safClock })).outSample
  else .next s

/-- WIRE_BREAK (R302): the current has been below 0.30 mA ± 0.05 mA at every sample for 10 ms. -/
def execWireBreak (k c : Fin 8) (uA : Nat) (s : State) : Answer :=
  let x := s.island k
  let h := x.chan c
  if x.alive && x.pers c == 2 && !h.wb && decide (uA < 350) then
    let s := s.waitTo (h.wbAt + 10000000)
    let s := (s.setCh k c { h with wb := true, wbAt := s.safClock }).bump (Reg.ISL_CH_CNT_BREAKS k c)
    .next (s.post (islSource k) 0x0B09 (8 * k + c) uA 0)
  else .next s

/-- WIRE_BREAK_END (R302): at least 0.40 mA for 10 ms. -/
def execWireBreakEnd (k c : Fin 8) (s : State) : Answer :=
  let x := s.island k
  let h := x.chan c
  if x.alive && h.wb then
    let s := s.waitTo (h.wbAt + 10000000)
    .next ((s.setCh k c { h with wb := false, wbAt := s.safClock }).post (islSource k) 0x0B0A (8 * k + c)
      ((s.safClock - h.wbAt) / 1000000) 0)
  else .next s

/-! ### Digital outputs -/

/-- DO_OVERLOAD (R304): 5 ms in current limit. -/
def execDoOverload (k c : Fin 8) (mA : Nat) (s : State) : Answer :=
  let x := s.island k
  let h := x.chan c
  if x.alive && persDo (x.pers c) && h.closed then
    let s := s.waitTo (h.onAt.getD s.safClock + 5000000)
    let s := (s.setCh k c { h with overload := true, retrying := false, closed := false, offAt := s.safClock }).bump
      (Reg.ISL_CH_CNT_OVERLOADS k c)
    .next (s.post (islSource k) 0x0B07 (8 * k + c) mA 0)
  else .next s

/-- DO_RETRY (R304): a channel in OVERLOAD that is commanded ON switches on, 1 s after it was opened. In current limit it
stays in OVERLOAD until DO_OVERLOAD opens it again; else the command stands at the end of its 5 ms, where OVERLOAD clears. -/
def execDoRetry (k c : Fin 8) (limits : Bool) (s : State) : Answer :=
  let x := s.island k
  let h := x.chan c
  let y := x.setChan c { h with retrying := true }
  if x.alive && h.overload && y.eff c then
    if limits then
      .next ((s.waitTo (h.offAt + 1000000000)).setCh k c { h with retrying := true, closed := true })
    else
      .next ((s.waitTo (h.offAt + 1005000000)).setCh k c { h with
        overload := false, retrying := false, grouped := false, closed := true })
  else .next s

/-- GROUP_OVERLOAD_STEP (R304): above 2.0 A for 10 ms the highest-numbered DO or SDO that is on opens, and again 1 ms
later; at or below, the episode ends and is recorded. -/
def execGroupOverloadStep (k : Fin 8) (total : Nat) (s : State) : Answer :=
  let x := s.island k
  let s := if x.alive then s.waitTo (x.gAt + if x.gTotal.isSome then 1000000 else 10000000) else s
  if !x.alive then .next s
  else if 2000 < total then
    match (List.range 8).reverse.find? (fun c => (x.chan c).closed && persDo (x.pers c)) with
    | none => .next s
    | some c =>
      let y := x.setChan c { x.chan c with
        overload := true, retrying := false, grouped := true, closed := false, offAt := s.safClock }
      let y := { y with
        gAt := s.safClock, gTotal := some (x.gTotal.getD total), gMask := (if x.gTotal.isSome then x.gMask else 0) ||| 2 ^ c }
      .next ((s.setIsland k y).bump (Reg.ISL_CH_CNT_OVERLOADS k c))
  else
    match x.gTotal with
    | some t => .next ((s.setIsland k { x with gAt := s.safClock, gTotal := none, gMask := 0 }).post (islSource k) 0x0B08 k t x.gMask)
    | none => .next s

/-- SAG_OFF (R306): the supply has been below 15.0 V for 1 ms. -/
def execSagOff (k : Fin 8) (supply : Nat) (s : State) : Answer :=
  if (s.island k).alive ∧ supply < 15000 then
    let s := s.waitTo ((s.island k).underAt.getD s.safClock + 1000000)
    let s := s.islMeasure k supply
    let x := s.island k
    let mask := x.closedMask
    let y := { x with unc := true, ready := false, sagOff := true, sagAt := if x.sagOff then x.sagAt else s.safClock }
    let s := s.setIsland k y.openNow
    .next (if x.sagOff then s else s.post (islSource k) 0x0B05 k x.low mask)
  else .next s

/-- RESTORE_READY (R306, R307): the supply has been above 19.2 V for 100 ms. -/
def execRestoreReady (k : Fin 8) (supply : Nat) (s : State) : Answer :=
  let x := s.island k
  if x.alive ∧ 19200 < supply ∧ (x.warn || x.unc || x.sagOff) then
    let s := s.waitTo (x.overAt.getD s.safClock + 100000000)
    let s := s.setIsland k { x with warn := false, unc := false, ready := x.sagOff, supply }
    .next (if bitAt (x.par 128) 1 then s.sagRelease k 0 else s)
  else .next s

/-- ISLAND_LOGIC_RESET (R306): below 11.0 V the outputs de-energise and the frames stop. -/
def execIslandLogicReset (k : Fin 8) (s : State) : Answer :=
  let x := s.island k
  if x.alive then
    let y := (List.range 8).foldl (fun (y : Island) c => y.resetChan c) { x with
      rxNo := none, alive := false, params := [], cfgOk := false, ovRun := 0, fsCause := if x.fs then x.fsCause else 0, fs := true
      warn := false, sagOff := false, unc := false, ready := false, gTotal := none, gMask := 0
      safeA := {}, safeB := {}, sent := [] }
    .next (s.setIsland k y)
  else .next s

/-- ISLAND_SUPPLY_RETURN (R306): the logic restarts with CFG_OK = 0. -/
def execIslandSupplyReturn (k : Fin 8) (supply : Nat) (s : State) : Answer :=
  let x := s.island k
  if !x.alive && s.islFitted k && decide (11000 ≤ supply) then
    .next ((s.setIsland k { x with alive := true, sent := [] }).islMeasure k supply)
  else .next s

/-! ### Commands (R307, R516) -/

/-- A write of ISL_CMD, decided by what ISL_STAT shows (R516). -/
def State.islCmdWrite (s : State) (k value : Nat) : State :=
  let cmd := bits value 0 4
  let stat (s : State) (why : Nat) := s.cmdStat (Reg.ISL_CMD_STAT_STATUS k) (Reg.ISL_CMD_STAT_REASON k) why
  let x := s.island k
  if bits value 24 8 ≠ 0xA5 then s
  else if cmd = 1 then
    if s.islFault k then stat s 3
    else if !s.on (Reg.ISL_STAT_SAG_OFF k) then stat s 2
    else if !s.on (Reg.ISL_STAT_RESTORE_READY k) then stat s 1
    else (stat s 0).setIsland k { x with restore := 3 }
  else if cmd = 2 then (List.range 8).foldl (fun s c => s.wr (Reg.ISL_CH_CNT k c) 0) (stat s 0)
  else s

/-- ISL_RESTORE (R307). -/
def execIslRestore (m : Master) (k : Fin 8) (s : State) : Answer :=
  .next (s.access m .w32 true (Reg.ISL_CMD k).addr (fun s => s.islCmdWrite k 0xA5000001))

/-- ISL_CLEAR_COUNTS (R312). -/
def execIslClearCounts (m : Master) (k : Fin 8) (s : State) : Answer :=
  .next (s.access m .w32 true (Reg.ISL_CMD k).addr (fun s => s.islCmdWrite k 0xA5000002))

/-- RESTORE_CHANNEL_ON (R307): one channel per 1 ms. -/
def execRestoreChannelOn (k : Fin 8) (s : State) : Answer :=
  let x := s.island k
  if (List.range 8).any (fun c => (x.chan c).waiting) then
    let s := s.waitTo (x.restAt + 1000000)
    .next (s.setIsland k { x.restoreOne with restAt := s.safClock })
  else .next s

/-- KILL_LINE_CHANGE (R258): an island's kill input follows its sink. Channels in the kill mask de-energise at once;
on release they return at the next barrier frame. -/
def execKillLineChange (k : Fin 8) (s : State) : Answer :=
  if s.islFitted k then
    .next (s.setIsland k { s.island k with kill := bitAt (s.rd Reg.TRP_SINK_TRIPPED) (8 + k) }.openNow)
  else .next s

/-- An island at lock (R298, R329): FP fields, pulse counts 0, and the trims of a channel whose PERS has changed. -/
def State.islLock (s : State) (k : Nat) : State :=
  let s := (s.wrB (Reg.ISL_STAT_SAFETY_OWNED k) (s.islOwned k)).wrB (Reg.ISL_STAT_AUTO_RESTORE k) (bitAt (s.islFlags k) 1)
  (List.range 8).foldl (fun s c =>
    let p := s.chPers k c
    let s := (s.wr (Reg.ISL_CH_STAT_PERS k c) p).wr (Reg.ISL_CH_VAL k c) 0
    let s := s.setCh k c { (s.island k).chan c with last := (s.island k).chan c |>.count, edges := [] }
    let s :=
      if Assoc.find? s.trimPers (8 * k + c) = some p then s
      else
        let s := s.wr (Reg.ISL_AN_TRIM k c) (if s.chAnalog k c then 0x40000000 else 0)
        { s with trimPers := Assoc.insert s.trimPers (8 * k + c) p }
    s.setOut k c (s.chSafe k c)) s

end Sys2Proof.Machine
end

