-- ==== Sys2Proof/Machine/Analogue.lean ====
section
/-!
DEFINITION. 4–20 mA inputs and outputs (R313 to R331); the key trim sessions are with the front keys.
-/
namespace Sys2Proof.Machine

/-! ### Analogue inputs (R317, R318) -/

/-- Lower and upper edge of a band in nA (R318); band 6 has no upper edge. -/
def bandLo (off : Bool) (b : Nat) : Nat :=
  if off then (if b = 6 then 24000000 else 0)
  else [0, 500000, 3600000, 3800000, 20500000, 21000000, 24000000].getD b 24000000
def bandHi (off : Bool) (b : Nat) : Option Nat :=
  if b = 6 then none
  else some (if off then 24000000 else [500000, 3600000, 3800000, 20500000, 21000000, 24000000].getD b 24000000)

/-- The row of R318's table that a current lies in. -/
def bandOf (off : Bool) (v : Nat) : Nat :=
  if off then (if 24000000 < v then 6 else 3)
  else if v < 500000 then 0 else if v ≤ 3600000 then 1 else if v < 3800000 then 2 else if v ≤ 20500000 then 3
  else if v < 21000000 then 4 else if v ≤ 24000000 then 5 else 6

/-- The fault band of a row: 1 low, 2 high, 0 none. -/
def faultBand (b : Nat) : Nat := if b ≤ 1 then 1 else if 5 ≤ b then 2 else 0

/-- The band that a value speaks for, seen from the present one: the present one is kept until it has been left by
more than 0.05 mA. -/
def bandSeen (off : Bool) (cur v : Nat) : Nat :=
  let above := decide (bandLo off cur ≤ v + 50000)
  let below := match bandHi off cur with
    | some h => decide (v ≤ h + 50000)
    | none => true
  if above && below then cur else bandOf off v

/-- Consecutive samples, one each 100 µs, that take a channel from one band to another (R318); none where it cannot
go there. -/
def bandWait (cur dest : Nat) : Option Nat :=
  if dest = cur then none
  else if faultBand cur = 0 then some 10
  else if dest = 3 then some 1000
  else if faultBand dest = 0 then none
  else some 10

/-- One value is classified; codes 0x0B20 and 0x0B21 go with the fault bands. -/
def State.aiClassify (s : State) (k c : Nat) : State :=
  let x := s.island k
  let h := x.chan c
  let off := bitAt (x.par (16 * c + 6)) 0
  let dest := bandSeen off h.band h.unf
  match bandWait h.band dest with
  | none => s.setCh k c { h with next := h.band, nextRun := 0 }
  | some need =>
    let run := if dest = h.next then h.nextRun + 1 else 1
    if run < need then s.setCh k c { h with next := dest, nextRun := run }
    else
      let was := faultBand h.band
      let now := faultBand dest
      let s := s.setCh k c { h with band := dest, next := dest, nextRun := 0, bandAt := if was = now then h.bandAt else s.safClock }
      let s := if was ≠ 0 ∧ was ≠ now then
          s.post (islSource k) 0x0B21 (8 * k + c) ((s.safClock - h.bandAt) / 1000000) (h.unf / 1000)
        else s
      if now ≠ 0 ∧ now ≠ was then s.post (islSource k) 0x0B20 (8 * k + c) now (h.unf / 1000) else s

/-- The output of the first-order filter after one value: with a time constant it lies between the last output and
the value, where is a free value (R315 gives no arithmetic). -/
def State.aiFiltered (s : State) (ms old v : Nat) : Nat :=
  if ms = 0 then v else min old v + s.freeWord.toNat % (max old v - min old v + 1)

/-- AI_SAMPLE (R313, R318, R330): a converter value in nA, one every 100 µs, is trimmed, filtered and classified. -/
def execAiSample (k c : Fin 8) (raw : Nat) (s : State) : Answer :=
  let x := s.island k
  if x.alive && x.pers c == 4 then
    let s := s.waitTo ((x.chan c).aiAt + 100000)
    let v := (x.trimmed c raw).toNat
    let ms := x.par (16 * c + 5)
    let cur := s.aiFiltered ms (x.chan c).cur v
    let s := s.setCh k c { x.chan c with aiAt := s.safClock, unf := v, cur, vterm := raw * 50 / 1000000 }
    let s := if ms = 0 then s else s.useFree
    .next (s.aiClassify k c)
  else .next s

/-- TX_OVERLOAD (R317): the transmitter supply has been in its limit for 10 ms. -/
def execTxOverload (k c : Fin 8) (mA : Nat) (s : State) : Answer :=
  let x := s.island k
  if x.alive && x.pers c == 4 && bitAt (x.par (16 * c + 6)) 1 && !(x.chan c).txOver then
    let s := s.waitTo ((x.chan c).txAt + 10000000)
    .next ((s.setCh k c { x.chan c with txOver := true, txAt := s.safClock }).post (islSource k) 0x0B22 (8 * k + c) mA 0)
  else .next s

/-- TX_OVERLOAD_CLEAR (R317): out of the limit continuously for 10 ms. -/
def execTxOverloadClear (k c : Fin 8) (s : State) : Answer :=
  let h := (s.island k).chan c
  if h.txOver then
    let s := s.waitTo (h.txAt + 10000000)
    .next (s.setCh k c { h with txOver := false, txAt := s.safClock })
  else .next s

/-! ### Analogue outputs -/

/-- The buck setting in mV (R320), from the target and the measured current in nA and the terminal voltage in mV. -/
def buckSetting (target cur vterm : Nat) : Nat :=
  if target < 500000 then 4000
  else if cur < 500000 then 26000
  else min 26000 (max 4000 (max target cur * vterm / cur + 2500))

/-- A load above 5 kΩ: its voltage over its current, or no measurable current. -/
def loadOpen (cur vterm : Nat) : Bool := decide (cur < 500000) || decide (5000 * cur < vterm * 1000000)

/-- BUCK_UPDATE (R320): every 1 ms, and at once on a change of target. -/
def execBuckUpdate (k c : Fin 8) (s : State) : Answer :=
  let x := s.island k
  let h := x.chan c
  if x.alive && x.pers c == 5 then
    let s := if h.buckFor = some ((x.aoRequest s.frc c).getD 0) then s.waitTo (h.buckAt + 1000000) else s
    let target := (x.aoRequest s.frc c).getD 0
    let y := x.setChan c { h with
      buck := buckSetting target h.cur h.vterm, buckAt := s.safClock, buckFor := some target }
    let at_ := y.atLimit c target
    let open_ := at_ && loadOpen h.cur h.vterm
    let s := s.setIsland k (y.setChan c { y.chan c with atLimit := at_, open_ })
    .next (if open_ && !h.open_ then s.post (islSource k) 0x0B28 (8 * k + c) h.vterm 0 else s)
  else .next s

/-- THERMAL_TRIP (R321): above 135 °C the stage turns hi-Z. -/
def execThermalTrip (k c : Fin 8) (temp : Int) (s : State) : Answer :=
  let x := s.island k
  let h := x.chan c
  if x.alive ∧ x.pers c = 5 ∧ !h.thermal ∧ 1350 < temp then
    .next ((s.setCh k c { h with thermal := true, thermAt := s.safClock, temp }).post (islSource k) 0x0B26 (8 * k + c)
      (toBits 32 temp) 0)
  else .next s

/-- THERMAL_RESUME (R321): below 110 °C, looked at once a second while THERMAL is set. -/
def execThermalResume (k c : Fin 8) (temp : Int) (s : State) : Answer :=
  let x := s.island k
  let h := x.chan c
  if x.alive ∧ h.thermal ∧ temp < 1100 then
    let s := s.waitTo (h.thermAt + 1000000000 * max 1 ((s.safClock - h.thermAt + 999999999) / 1000000000))
    .next ((s.setCh k c { h with thermal := false, temp }).post (islSource k) 0x0B27 (8 * k + c)
      ((s.safClock - h.thermAt) / 1000000000) 0)
  else .next s

/-- LOOP_SIDE_STOP (R322): below 7.0 V or with the loop open a passive AO's loop side stops; it resumes when the
voltage returns. -/
def execLoopSideStop (k c : Fin 8) (vterm : Nat) (opened : Bool) (s : State) : Answer :=
  let x := s.island k
  let h := x.chan c
  let stop := opened || decide (vterm < 7000)
  if x.alive && x.pers c == 6 && stop != h.stopped then
    if stop then
      .next ((s.setCh k c { h with stopped := true, open_ := true, cur := 0, vterm, atLimit := false }).post
        (islSource k) 0x0B28 (8 * k + c) vterm 0)
    else .next (s.setCh k c { h with stopped := false, open_ := false, vterm })
  else .next s

/-- The flags and the quality that the master decides of an AO (R314, R323, R326), outside a barrier fault. -/
def State.aoFlags (s : State) (k c : Nat) : State :=
  if s.islFault k then s
  else
    let fault := s.on (Reg.ISL_AN_STAT_COMP_FAULT k c) || s.on (Reg.ISL_AN_STAT_READBACK k c)
    let f := s.rd (Reg.ISL_CH_STAT_FLAGS k c)
    let f := putBit (putBit f 5 (s.on (Reg.ISL_AN_STAT_COMPLIANCE k c))) 7 fault
    (s.wr (Reg.ISL_CH_STAT_FLAGS k c) f).wr (Reg.ISL_CH_STAT_QUAL k c) (if fault then 2 else 0)

/-- COMPLIANCE_SET (R323): more than 0.1 mA below the target with AT_LIMIT set, for 50 ms. -/
def execComplianceSet (k c : Fin 8) (s : State) : Answer :=
  let x := s.island k
  let h := x.chan c
  let t := x.aoTarget c
  match h.defAt with
  | none => .next s
  | some since_ =>
    if s.islFault k ∨ s.on (Reg.ISL_AN_STAT_COMPLIANCE k c) then .next s
    else
    let s := s.waitTo (since_ + 50000000)
    let s := (s.setCh k c { h with compAt := s.safClock, compOff := 0 }).wr (Reg.ISL_AN_STAT_COMPLIANCE k c) 1
    .next ((s.aoFlags k c).post (islSource k) 0x0B23 (8 * k + c) (t / 1000) (h.cur / 1000))

/-- COMPLIANCE_CLEAR (R323): within 0.1 mA of the target for 50 ms. -/
def execComplianceClear (k c : Fin 8) (s : State) : Answer :=
  let x := s.island k
  let h := x.chan c
  match h.fitAt with
  | none => .next s
  | some since_ =>
    if s.islFault k ∨ !s.on (Reg.ISL_AN_STAT_COMPLIANCE k c) then .next s
    else
    let s := s.waitTo (since_ + 50000000)
    let s := (s.wr (Reg.ISL_AN_STAT_COMPLIANCE k c) 0).wr (Reg.ISL_AN_STAT_COMP_FAULT k c) 0
    .next ((s.aoFlags k c).post (islSource k) 0x0B24 (8 * k + c) ((s.safClock - h.compAt) / 1000000) 0)

/-- CTIME in ns; 7 is never (R323). -/
def compTimeout (ctime : Nat) : Nat :=
  [10000000000, 500000000, 1000000000, 2000000000, 5000000000, 20000000000, 60000000000].getD ctime 0

/-- COMP_FAULT (R323): COMPLIANCE has lasted for CTIME, without the time in which row 4 of R325 did not apply. -/
def execCompFault (k c : Fin 8) (s : State) : Answer :=
  let ctime := bits (s.chFail k c) 25 3
  if s.on (Reg.ISL_AN_STAT_COMPLIANCE k c) && ctime != 7 && !s.on (Reg.ISL_AN_STAT_COMP_FAULT k c) &&
      (s.island k).aoRow c == 4 then
    let s := s.waitTo (((s.island k).chan c).compAt + ((s.island k).chan c).compOff + compTimeout ctime)
    let s := s.wr (Reg.ISL_AN_STAT_COMP_FAULT k c) 1
    .next ((s.aoFlags k c).post (islSource k) 0x0B25 (8 * k + c) ctime (((s.island k).chan c).cur / 1000))
  else .next s

/-- AO_READBACK_CLEAR (R326): it has agreed for 20 ms while row 4 applies. -/
def execAoReadbackClear (k c : Fin 8) (s : State) : Answer :=
  let x := s.island k
  match (x.chan c).agrAt with
  | none => .next s
  | some since_ =>
    if s.on (Reg.ISL_AN_STAT_READBACK k c) then
      .next (((s.waitTo (since_ + 20000000)).wr (Reg.ISL_AN_STAT_READBACK k c) 0).aoFlags k c)
    else .next s

/-! ### Trims (R329 to R331) -/

/-- ZERO and SPAN lie within the limits of R329. -/
def trimOk (value : Nat) : Bool :=
  let span := bits value 16 16
  let zero := sgn 16 (bits value 0 16)
  decide (14746 ≤ span) && decide (span ≤ 18022) && decide (-5000 ≤ zero) && decide (zero ≤ 5000)

/-- A key session is open on a channel. -/
def State.keyOpen (s : State) (k c : Nat) : Bool :=
  match s.key with
  | some y => y.island == k && y.ch == c
  | none => false

/-- A write of ISL_AN_TRIM (R331). -/
def State.trimWrite (s : State) (m : Master) (k c value : Nat) : State :=
  if !s.chAnalog k c then s
  else if !s.on Reg.SCN_STAT_FORCE_PERMIT || !trimOk value || s.keyOpen k c then
    s.refuseWrite m (Reg.ISL_AN_TRIM k c).addr
  else (s.wr (Reg.ISL_AN_TRIM k c) value).post (islSource k) 0x0B29 (8 * k + c) value (masterId m)

/-- TRIM_WRITE (R331). -/
def execTrimWrite (m : Master) (k c : Fin 8) (value : Word) (s : State) : Answer :=
  .next (s.access m .w32 true (Reg.ISL_AN_TRIM k c).addr (fun s => s.trimWrite m k c value.toNat))

end Sys2Proof.Machine
end

