-- ==== Sys2Proof/Machine/ClassTime.lean ====
section
/-!
DEFINITION. Domain time and the two time classes (R368 to R371), and the time anchors that tie the Guestbook to
class 1 (R415).
-/
namespace Sys2Proof.Machine

/-- The record of a domain: 0 is A, 1 is B. -/
def State.dom (s : State) (d : Nat) : TimDom := if d = 0 then s.tim.domA else s.tim.domB

/-- Replace the record of a domain. -/
def State.setDom (s : State) (d : Nat) (x : TimDom) : State :=
  if d = 0 then { s with tim := { s.tim with domA := x } } else { s with tim := { s.tim with domB := x } }

/-- RATE of a domain, in units of 2^-40 (R368). -/
def State.domRate (s : State) (d : Nat) : Int := sgn 32 (s.rd (Reg.TIM_DOM_RATE d))

/-- OFFSET of a domain in ns. -/
def State.domOfs (s : State) (d : Nat) : Int := sgn 64 (s.rd64 (Reg.TIM_DOM_OFS_LO d) (Reg.TIM_DOM_OFS_HI d))

/-- The state of a domain: 0 NO_MASTER, 1 ACQUIRING, 2 LOCKED, 3 HOLDOVER. -/
def State.domState (s : State) (d : Nat) : Nat := s.rd (Reg.TIM_DOM_STAT_STATE d)

/-- A rate applied to a span of FRC. -/
def rateTerm (rate : Int) (f : Nat) : Int := (f : Int) * rate / (2 : Int) ^ 40

/-- T_d at an FRC value (R368). -/
def State.domTimeAt (s : State) (d f : Nat) : Int := s.domOfs d + f + rateTerm (s.domRate d) f

/-- T_d now. -/
def State.domTime (s : State) (d : Nat) : Int := s.domTimeAt d s.frc

/-- A continuity term that moves towards 0 by one part in `per` of the FRC. -/
def slew (c : Int) (elapsed per : Nat) : Int :=
  let n : Int := (elapsed / per : Nat)
  if c < 0 then min 0 (c + n) else max 0 (c - n)

/-- C1 now: 100 ppm towards 0 (R369). -/
def State.contC1 (s : State) : Int := slew s.tim.c1.c (s.frc - s.tim.c1.cAt) 10000

/-- C2 now: 1,000 ppm towards 0 (R371). -/
def State.contC2 (s : State) : Int := slew s.tim.c2.c (s.frc - s.tim.c2.cAt) 1000

/-- A class that follows no domain runs from its base. -/
def State.freeRun (s : State) (k : ClassClock) : Int :=
  k.base + ((s.frc - k.baseAt : Nat) : Int) + rateTerm k.rate (s.frc - k.baseAt)

/-- Class-2 time in ns since the PTP epoch (R371). -/
def State.t2 (s : State) : Int :=
  if s.on Reg.TIM_STAT_C2_HOLDOVER then s.freeRun s.tim.c2
  else s.domTime s.tcC2Dom + s.contC2

/-- Class-1 time in ns since the PTP epoch (R369, R370). -/
def State.t1 (s : State) : Int :=
  if s.on Reg.TIM_STAT_C1_VALID then
    if s.rd Reg.TIM_STAT_C1_SRC < 2 then s.domTime (s.rd Reg.TIM_STAT_C1_SRC) + s.contC1
    else s.freeRun s.tim.c1
  else if s.on Reg.TIM_STAT_C2_VALID then s.t2
  else s.frc

/-- Time passes until a class time has reached a value: each round covers all but a two-hundredth of what is left, and no
class runs more than 0.4 % off the FRC (R368, R369, R371). -/
def waitRounds (time : State → Int) (goal : Int) : Nat → State → State
  | 0, s => s
  | n + 1, s =>
    if goal ≤ time s then s
    else waitRounds time goal n { s with frc := s.frc + max 1 ((goal - time s).toNat * 1000 / 1004) }

/-- Time passes until a class time has reached a value. -/
def State.waitClass (s : State) (time : State → Int) (goal : Int) : State := waitRounds time goal 64 s

/-- Whole seconds of a class time. -/
def secsOf (t : Int) : Nat := toBits 64 (t / 1000000000)

/-- Nanoseconds of a class time within its second. -/
def nsOf (t : Int) : Nat := (t % 1000000000).toNat

/-- A time anchor goes to the writer's own store (R414, R415): cause 0 start-up, 1 source change, 2 step, 3 clear. -/
def State.anchorEvent (s : State) (cause : Nat) : GbEvent :=
  { code := 0x1001, source := Un.gb, p1 := secsOf s.t1 % 2 ^ 32, p2 := nsOf s.t1
    p3 := bits (secsOf s.t1) 32 16 * 2 ^ 16 + cause * 2 ^ 8 + s.rd Reg.TIM_STAT_C1_VALID * 4 + s.rd Reg.TIM_STAT_C1_SRC
    at_ := s.frc, optime := s.opTime, pcycle := s.rd Reg.PTR_PCYCLE }

/-- Enter a time anchor. -/
def State.anchor (s : State) (cause : Nat) : State :=
  { s with gb := { s.gb with anchors := s.gb.anchors ++ [s.anchorEvent cause] } }

end Sys2Proof.Machine
end

