-- ==== Sys2Proof/Machine/BanLink.lean ====
section
/-!
DEFINITION. Sending on the Banister (R188, R189, R193), and register writes that the standby takes from the active
module only (R126, R199).
-/
namespace Sys2Proof.Machine

/-- CRC-32 of IEEE 802.3 as the Ethernet FCS (R189). -/
def banCrc (bs : List Byte) : Nat := revBits 32 (crcLsb 32 0x04C11DB7 0xFFFFFFFF bs) ^^^ 0xFFFFFFFF

/-- The bytes of a frame that its CRC covers (R189). -/
def BanFrame.body (f : BanFrame) : List Byte :=
  leBytes 1 f.type ++ leBytes 1 f.flags ++ leBytes 2 f.payload.length ++ leBytes 4 f.seq ++ leBytes 8 f.sentFrc ++ f.payload

/-- A frame with its CRC. -/
def BanFrame.sealed (f : BanFrame) : BanFrame := { f with crc := banCrc f.body }

/-- A frame goes out on both lanes; a module of role SINGLE sends nothing. The last 256 frames are kept. -/
def State.banFrame (s : State) (type : Nat) (last : Bool) (payload : List Byte) : State :=
  if s.power.running && s.role != 0 then
    { s with ban := { s.ban with
        tx := (({ type, flags := b2n last, seq := s.ban.txSeq, sentFrc := s.frc, payload } : BanFrame).sealed :: s.ban.tx).take 256
        txSeq := (s.ban.txSeq + 1) % 2 ^ 32, lastTx := s.frc } }
  else s

/-- A message goes out in frames of at most 2,048 payload bytes, LAST set in the final one; `n` + 1 bounds the frames. -/
def State.banFrames (s : State) (type : Nat) : Nat → List Byte → State
  | 0, b => s.banFrame type true b
  | n + 1, b =>
    if b.length ≤ 2048 then s.banFrame type true b
    else State.banFrames (s.banFrame type false (b.take 2048)) type n (b.drop 2048)

/-- A message goes out. -/
def State.banSend (s : State) (type : Nat) (payload : List Byte) : State := s.banFrames type (payload.length / 2048) payload

/-- A message that is a handshake goes out, and its answer is awaited from the end of sending (R191, R192). -/
def State.banAsk (s : State) (type : Nat) (payload : List Byte) : State :=
  let s := s.banSend type payload
  if s.power.running && s.role != 0 then
    { s with ban := { s.ban with hs := s.ban.hs ++ [(type, (s.ban.txSeq + 2 ^ 32 - 1) % 2 ^ 32, s.frc)] } }
  else s

/-- Handshakes are answered. -/
def State.hsDone (s : State) (f : Nat × Nat × Nat → Bool) : State :=
  { s with ban := { s.ban with hs := s.ban.hs.filter (fun h => !f h) } }

/-- A SEQ value comes after another one (R189). -/
def seqAfter (a b : Nat) : Bool := decide (0 < (a + 2 ^ 32 - b) % 2 ^ 32) && decide ((a + 2 ^ 32 - b) % 2 ^ 32 < 2 ^ 31)

/-- It is that one, or comes after it. -/
def seqFrom (a b : Nat) : Bool := decide ((a + 2 ^ 32 - b) % 2 ^ 32 < 2 ^ 31)

/-- The SHUTDOWN frame (R484): serial, cause, planned power-down instant, which the spec leaves to the module up to the
latest one of R479 and R480. -/
def State.shutdownSend (s : State) : State :=
  let latest := if s.power.cause = 3 then 40000000 else 1600000000
  let plan := s.power.warnAt + s.freeWord.toNat % (latest + 1)
  s.useFree.banSend 0x50 (leBytes 4 s.ident.serial ++ leBytes 1 s.power.cause ++ leBytes 3 0 ++ leBytes 8 plan)

/-- The master that a record names: for a mirrored write, the one that made it on the active module (R199). -/
def State.asMaster (s : State) (m : Master) : Nat := s.ban.onBehalf.getD (masterId m)

/-! ### Pairs: who latches and commits (R196, R204, R212, R213) -/

/-- A handover after which the old active module stays in step: readback and operator (R206). -/
def staysInStep (trigger : Nat) : Bool := trigger == 5 || trigger == 7

/-- The module latches its own inputs and decides what depends on time. -/
def State.leads (s : State) : Bool :=
  match s.ban.ho with
  | some h => !h.old
  | none => s.inControl

/-- The module works from the active module's agreements; a standby that has sent SHUTDOWN is no longer in step
(R484). -/
def State.follows (s : State) : Bool :=
  match s.ban.ho with
  | some h => h.old && staysInStep h.trigger
  | none => s.role == 3 && !s.on Reg.PWR_STAT_PF_WARN

/-- The module leads a standby in step. -/
def State.leadsPair (s : State) : Bool :=
  match s.ban.ho with
  | some h => !h.old && staysInStep h.trigger
  | none => s.role == 2

/-- From L the active module sends its cold module the frames that it sends to a standby in step (R232). -/
def State.joinLogs (s : State) : Bool :=
  match s.ban.join with
  | some j => j.active && !j.upgrade && (match j.l with | some l => decide (l ≤ s.scn.ticks) | none => false) && s.inControl
  | none => false

/-- Commands act at base ticks and are told to the other module: a standby in step, or a cold module that logs. -/
def State.leadsLog (s : State) : Bool := s.leadsPair || s.joinLogs

/-! ### A join in progress, as other units meet it (R232, R235) -/

/-- Past the planned swap's landing S the active module starts and commits nothing more (R239). -/
def State.swapStopped (s : State) : Bool :=
  match s.ban.join with
  | some j => j.stopped
  | none => false

/-- From J the active module's Solver takes no new request until the cold module has joined (R234). -/
def State.joinHolds (s : State) : Bool :=
  match s.ban.join with
  | some j => j.active && (match j.j with | some n => decide (n ≤ s.scn.ticks) | none => false)
  | none => false

/-- Loop samples and axis counts go to a standby in step, and from J to the module that joins (R126, R184, R234). -/
def State.feeds (s : State) : Bool := s.leadsPair || (s.joinHolds && s.joinLogs)

/-- A LOG_ENTRY goes to the cold module (R232). -/
def State.logEntry (s : State) (bytes : List Byte) : State := if s.joinLogs then s.banSend 0x44 bytes else s

/-- Insert a number by a key, before equal keys. -/
def insertBy (key : Nat → Nat) (n : Nat) : List Nat → List Nat
  | [] => [n]
  | m :: t => if key n ≤ key m then n :: m :: t else m :: insertBy key n t

/-- The tasks of TASKS, in priority order (R79). -/
def State.tasksByPrio (s : State) : List Nat :=
  ((List.range 16).filter (fun t => s.taskUsed t)).foldl (fun l t => insertBy (fun m => s.taskPrio m) t l) []

/-- A task behind its registers. -/
def State.task (s : State) (t : Nat) : ScanTask := (Assoc.find? s.scn.tasks t).getD {}

/-- The task whose execute a core runs (R77): of those that have not returned, the one of the highest priority. -/
def State.coreTop (s : State) (c : Nat) : Option Nat :=
  s.tasksByPrio.find? (fun t => s.taskCore t == c && (s.task t).running.isSome)

/-- A post by an application core is logged where the task that its core runs has its snapshot point still to come
(R232). -/
def State.logPost (s : State) (m : Master) (bytes : List Byte) : State :=
  match m, s.ban.join with
  | .apc n, some j => if (s.coreTop n.val).any (fun t => j.tasks.contains t) then s.logEntry bytes else s
  | _, _ => s

/-- The module that leads a pair, or a join's log, mirrors a write of its own (R199, R232). -/
def State.mirror (s : State) (m : Master) (a v : Nat) : State :=
  if s.leadsLog then
    s.banSend 0x14 (leBytes 1 (unitOf a) ++ leBytes 1 (masterId m) ++ leBytes 2 0 ++
      leBytes 4 ((a - regBase) % 0x10000) ++ leBytes 4 v ++ leBytes 4 0)
  else s

/-- A reception, a completion or a message of another unit's Pigeonhole is copied to the standby as it occurs (R198):
KIND 0 for a queue, 1 for a channel; the position that releases it; its bytes. -/
def State.rxMirror (s : State) (kind idx pos : Nat) (bytes : List Byte) : State :=
  let msg := leBytes 1 kind ++ leBytes 1 idx ++ leBytes 2 0 ++ leBytes 4 pos ++ bytes
  if s.leadsPair then
    let s := s.banAsk 0x12 msg
    { s with ban := { s.ban with rxm := s.ban.rxm ++ [((s.ban.txSeq + 2 ^ 32 - 1) % 2 ^ 32, kind, idx, pos)] } }
  else if s.joinLogs then s.banSend 0x12 msg
  else s

/-- How many of the entries of a kind and index no MIRROR_ACK covers yet. -/
def State.unacked (s : State) (kind idx : Nat) : Nat :=
  (s.ban.rxm.filter (fun m => m.2.1 == kind && m.2.2.1 == idx)).length

/-- The position up to which entries may be released: those that a MIRROR_ACK covers (R198). -/
def State.relLimit (s : State) (kind idx cur : Nat) : Nat :=
  match s.ban.rxm.find? (fun m => m.2.1 == kind && m.2.2.1 == idx) with
  | some m => (m.2.2.2 + 2 ^ 32 - 1) % 2 ^ 32
  | none => cur

/-! ### Receptions on the standby (R213) -/

/-- A receive entry without its time stamp, SEQ and LOST, by which a standby knows it again. -/
def rxBlank (e : List Byte) : List Byte :=
  if e.length = 128 then e.take 8 ++ List.replicate 8 0 ++ slice e 16 64 ++ List.replicate 6 0 ++ e.drop 86
  else e.take 4 ++ List.replicate 14 0 ++ e.drop 18

/-- On the standby an entry that its own receivers took is kept until the active module's copy matches it (R213). -/
def State.rxHold (s : State) (q : Nat) (e : List Byte) : State :=
  { s with ban := { s.ban with held := s.ban.held ++ [(q, e)] } }

/-- On the standby, writes of LOOP, AX, SLV and CAN registers by its own masters are ignored without error; the
Banister agent's are not. -/
def State.notOwn (s : State) (m : Master) : Bool := s.role == 3 && m != .banister

end Sys2Proof.Machine
end

