-- ==== Sys2Proof/Machine/Pgn.lean ====
section
/-!
DEFINITION. Pigeonholes, bells and queues (R393 to R411).
-/
namespace Sys2Proof.Machine

/-! ### Channels -/

/-- A channel's messages and counts. -/
def State.chan (s : State) (ch : Nat) : PgnChan := (Assoc.find? s.pgn ch).getD {}

/-- Replace a channel; COUNT shows how many messages it stores. -/
def State.setChan (s : State) (ch : Nat) (c : PgnChan) : State :=
  { s with pgn := Assoc.insert s.pgn ch c }.wr (Reg.PGN_CH_STAT_COUNT ch) c.msgs.length

/-- Offset of an address in its unit's block. -/
def blockOff (a : Nat) : Nat := a % 0x10000

/-- An access that the binding does not permit (R398). -/
def State.pgnDenied (s : State) (m : Master) (write : Bool) (ch a : Nat) : State :=
  (s.busFail m write a Sta.busError 0x0101).post Un.pgn 0x0F03 ch (masterId m) (blockOff a)

/-- The oldest visible message. -/
def PgnChan.head? (c : PgnChan) : Option PgnMsg :=
  match c.msgs with
  | x :: _ => if x.visible then some x else none
  | [] => none

/-- The 64 staged payload bytes of a channel. -/
def State.pgnStagedBytes (s : State) (ch : Nat) : List Byte :=
  (List.range 16).flatMap (fun w => leBytes 4 (s.rd (Reg.PGN_TX_DATA ch w)))

/-- Store a message at the tail (R396, R397): visible at once where the sender is an application core. A message
that becomes visible rings the receiver's bell (R399). -/
def State.pgnStore (s : State) (ch len kind param : Nat) (payload : List Byte) : State :=
  let c := s.chan ch
  let n := c.accepted + 1
  let core := decide (s.pgnSender ch ≤ 4)
  let x : PgnMsg := { len, kind, seq := n % 2 ^ 16, param, payload, visible := core, seenAt := s.frc }
  let s := s.setChan ch { c with msgs := c.msgs ++ [x], accepted := n }
  let s := s.wr (Reg.PGN_CH_STAT_LAST ch) Sta.ok
  if core then s.ring (s.pgnReceiver ch)
  else s.rxMirror 1 ch (n % 2 ^ 32) (leBytes 1 len ++ leBytes 1 kind ++ leBytes 2 (n % 2 ^ 16) ++ leBytes 4 param ++ payload)

/-- The Annex result channel (R447). -/
def annexChannel : Nat := 30

/-- A post by the channel's sender (R396). A result posted while the Annex channel is closed is removed and counted
(R447). On the standby the messages of units other than the cores come from the active module's copies (R198). -/
def State.pgnPost (s : State) (m : Master) (ch value : Nat) : State :=
  let a := (Reg.PGN_TX_POST ch).addr
  let len := bits value 0 8
  if len ≥ 128 ∨ bits value 16 16 ≠ 0 ∨ len > 64 then
    ((s.refuseWrite m a).wr (Reg.PGN_CH_STAT_LAST ch) Sta.lenInvalid).post Un.pgn 0x0F02 ch len (masterId m)
  else if ch = annexChannel ∧ s.on Reg.ANX_STAT_CLOSED then
    (s.wr (Reg.PGN_CH_STAT_LAST ch) Sta.ok).bump Reg.ANX_DISC
  else if s.follows ∧ 4 < s.pgnSender ch then s.wr (Reg.PGN_CH_STAT_LAST ch) Sta.ok
  else if (s.chan ch).msgs.length ≥ s.pgnDepth ch then
    let s := ((s.refuseWrite m a).bump (Reg.PGN_CH_CNT_REJECTS ch)).wr (Reg.PGN_CH_STAT_LAST ch) Sta.rejectedFull
    s.post Un.pgn 0x0F01 ch (masterId m) (s.rd (Reg.PGN_CH_CNT_REJECTS ch))
  else
    let bytes := (s.pgnStagedBytes ch).take len
    let n := ((s.chan ch).accepted + 1) % 2 ^ 32
    let s := s.logPost m (leBytes 1 2 ++ leBytes 1 ch ++ leBytes 2 0 ++ leBytes 4 n ++ leBytes 1 len ++
      leBytes 1 (bits value 8 8) ++ leBytes 2 0 ++ leBytes 4 (s.rd (Reg.PGN_TX_PARAM ch)) ++ bytes)
    s.pgnStore ch len (bits value 8 8) (s.rd (Reg.PGN_TX_PARAM ch)) bytes

/-- A write of PGN_TX_POST: the sender only, on a used channel (R398). -/
def State.pgnPostWrite (s : State) (m : Master) (ch value : Nat) : State :=
  if s.pgnUsed ch ∧ s.pgnSender ch = masterId m then s.pgnPost m ch value
  else s.pgnDenied m true ch (Reg.PGN_TX_POST ch).addr

/-- TIMEOUT ends (R400): why is 0 acknowledged, 1 emptied, 2 cleared by the sender. -/
def State.pgnEndTimeout (s : State) (ch why : Nat) : State :=
  if s.on (Reg.PGN_CH_STAT_TIMEOUT ch) then
    (s.wr (Reg.PGN_CH_STAT_TIMEOUT ch) 0).post Un.pgn 0x0F05 ch ((s.frc - (s.chan ch).since) / 1000000) why
  else s

/-- A write of PGN_RX_ACK with ACK = 1 removes the head; with no visible message it is ignored (R397). -/
def State.pgnAck (s : State) (ch value : Nat) : State :=
  if value % 2 = 1 then
    match (s.chan ch).head? with
    | some _ =>
      let s := s.setChan ch { s.chan ch with msgs := (s.chan ch).msgs.drop 1 }
      s.pgnEndTimeout ch 0
    | none => s
  else s

/-- A write of PGN_RX_ACK: the receiver only (R398). -/
def State.pgnAckWrite (s : State) (m : Master) (ch value : Nat) : State :=
  if s.pgnUsed ch ∧ s.pgnReceiver ch = masterId m then s.pgnAck ch value
  else s.pgnDenied m true ch (Reg.PGN_RX_ACK ch).addr

/-- The word that PGN_RX_HDR shows. -/
def pgnHdrWord (x : PgnMsg) : Nat := 2 ^ 31 + x.len * 2 ^ 16 + x.kind * 2 ^ 8 + x.seq % 2 ^ 8

/-- A read of PGN_RX_HDR: one that returns VALID = 1 marks the head opened, except for debug (R397, R398). -/
def State.pgnHdrRead (s : State) (m : Master) (ch : Nat) : State :=
  if !s.pgnUsed ch then s.answer 0
  else if s.pgnReceiver ch = masterId m ∨ m = .debug then
    match (s.chan ch).msgs with
    | x :: t =>
      if x.visible then
        let s := s.answer (pgnHdrWord x)
        if m = .debug then s else s.setChan ch { s.chan ch with msgs := { x with opened := true } :: t }
      else s.answer 0
    | [] => s.answer 0
  else s.pgnDenied m false ch (Reg.PGN_RX_HDR ch).addr

/-- WITHDRAW removes every stored message that has not been opened (R401). -/
def State.pgnWithdraw (s : State) (ch : Nat) : State :=
  let c := s.chan ch
  let gone := c.msgs.filter (fun x => !x.opened)
  let s := s.setChan ch { c with msgs := c.msgs.filter (fun x => x.opened) }
  let s := s.wr (Reg.PGN_CH_CNT_WITHDRAWN ch) gone.length
  let s := s.post Un.pgn 0x0F06 ch gone.length (match gone with | x :: _ => x.seq | [] => 0)
  if (c.msgs.filter (fun x => x.opened)).isEmpty then s.pgnEndTimeout ch 1 else s

/-- A write of PGN_TX_CMD: the sender only; KEY 0xA5 and CMD 1 withdraw (R398, R401). -/
def State.pgnCmdWrite (s : State) (m : Master) (ch value : Nat) : State :=
  if s.pgnUsed ch ∧ s.pgnSender ch = masterId m then
    if bits value 24 8 = 0xA5 ∧ bits value 0 4 = 1 then s.pgnWithdraw ch else s
  else s.pgnDenied m true ch (Reg.PGN_TX_CMD ch).addr

/-- A write of PGN_CH_STAT: the sender clears TIMEOUT, the receiver sets IRQ_EN (R398). -/
def State.pgnStatWrite (s : State) (m : Master) (ch value : Nat) : State :=
  if s.pgnUsed ch ∧ s.pgnSender ch = masterId m then
    if bitAt value 16 then (s.pgnEndTimeout ch 2).setChan ch { s.chan ch with armAt := s.frc } else s
  else if s.pgnUsed ch ∧ s.pgnReceiver ch = masterId m then s.wr (Reg.PGN_CH_STAT_IRQ_EN ch) (bits value 17 1)
  else s.pgnDenied m true ch (Reg.PGN_CH_STAT ch).addr

/-- A write of PGN_TX_PARAM or PGN_TX_DATA: the sender only (R398). -/
def State.pgnStageWrite (s : State) (m : Master) (ch a value : Nat) : State :=
  if s.pgnUsed ch ∧ s.pgnSender ch = masterId m then s.wr ⟨a, 0, 32⟩ value
  else s.pgnDenied m true ch a

/-- The interrupt source 0xC0 + channel at an application core (R399, R400). -/
def State.pgnIrq (s : State) (ch core : Nat) : Bool :=
  (s.pgnReceiver ch == core && s.on (Reg.PGN_CH_STAT_IRQ_EN ch) && ((s.chan ch).head?).isSome) ||
  (s.pgnSender ch == core && s.on (Reg.PGN_CH_STAT_TIMEOUT ch))

/-- Release a channel's messages up to a position, the count of messages released since lock (R196, R397): they become
visible and ring the receiver's bell. -/
def State.pgnReleaseTo (s : State) (ch pos : Nat) : State :=
  let c := s.chan ch
  let n := pos + c.msgs.length - c.accepted
  if (c.msgs.take n).any (fun x => !x.visible) then
    let seen := (c.msgs.take n).map (fun x => if x.visible then x else { x with visible := true, seenAt := s.frc })
    (s.setChan ch { c with msgs := seen ++ c.msgs.drop n }).ring (s.pgnReceiver ch)
  else s

/-- Release the stored messages of one channel. -/
def State.pgnRelease (s : State) (ch : Nat) : State := s.pgnReleaseTo ch (s.relLimit 1 ch (s.chan ch).accepted)

/-- Release the messages of every channel. -/
def State.pgnReleaseAll (s : State) : State := (List.range 32).foldl (fun s ch => s.pgnRelease ch) s

/-! ### Queues (R403 to R410) -/

/-- First address of the queue pool (R404). -/
def poolBase : Nat := 0x1000C00000

/-- The size of a queue's ring. -/
def State.ringSize (s : State) (q : Nat) : Nat :=
  if s.queUsed q then 2 ^ (s.queEsize q + s.queDepth q) else 0

/-- Where a ring lies: rings are placed in descending size and, for equal sizes, ascending queue number (R404). -/
def State.ringAddr (s : State) (q : Nat) : Nat :=
  poolBase + ((List.range 64).map (fun p =>
    if s.ringSize q < s.ringSize p ∨ (s.ringSize p = s.ringSize q ∧ p < q) then s.ringSize p else 0)).sum

/-- The address of entry `i` (R405). -/
def State.entryAddr (s : State) (q i : Nat) : Nat :=
  s.ringAddr q + 2 ^ s.queEsize q * (i % 2 ^ s.queDepth q)

/-- A difference of two indices modulo 2^32. -/
def idxDiff (a b : Nat) : Nat := (a + 2 ^ 32 - b) % 2 ^ 32

def State.quePi (s : State) (q : Nat) : Nat := s.rd (Reg.QUE_PI q)
def State.queDi (s : State) (q : Nat) : Nat := s.rd (Reg.QUE_DI q)
def State.queRi (s : State) (q : Nat) : Nat := s.rd (Reg.QUE_RI q)
def State.queCi (s : State) (q : Nat) : Nat := s.rd (Reg.QUE_CI q)

/-- Entries of a queue that are posted and not yet finished with. -/
def State.queFill (s : State) (q : Nat) : Nat := idxDiff (s.quePi q) (s.queCi q)

/-- Entries that the consumer of a round-trip queue still holds. -/
def State.queWaiting (s : State) (q : Nat) : Nat := idxDiff (s.quePi q) (s.queDi q)

/-- Whether there is room for one more entry. -/
def State.queRoom (s : State) (q : Nat) : Bool := s.queUsed q && decide (s.queFill q < 2 ^ s.queDepth q)

/-- A communication core. -/
def isCom (id : Nat) : Bool := id == 0x20 || id == 0x21

/-- Whether RI waits for a release (R407). -/
def State.queHeld (s : State) (q : Nat) : Bool :=
  if s.queRound q then isCom (s.queConsumer q) else isCom (s.queProducer q)

/-- RI follows its index, and in a round-trip queue rings the producer's bell (R407, R409). -/
def State.queFollow (s : State) (q : Nat) : State :=
  if s.queRound q then (s.wr (Reg.QUE_RI q) (s.queDi q)).ring (s.queProducer q)
  else s.wr (Reg.QUE_RI q) (s.quePi q)

/-- Release a queue up to an index (R196, R407). -/
def State.queReleaseTo (s : State) (q idx : Nat) : State :=
  if s.queUsed q ∧ s.queHeld q ∧ idx ≠ s.queRi q then
    (s.wr (Reg.QUE_RI q) idx).ring (if s.queRound q then s.queProducer q else s.queConsumer q)
  else s

/-- Release a queue at a latching base tick (R407). -/
def State.queRelease (s : State) (q : Nat) : State :=
  s.queReleaseTo q (s.relLimit 0 q (if s.queRound q then s.queDi q else s.quePi q))

/-- Release every queue. -/
def State.queReleaseAll (s : State) : State := (List.range 64).foldl (fun s q => s.queRelease q) s

/-- The entries from one index up to another are copied to the standby, one by one (R198). -/
def State.queMirror (s : State) (q from_ to_ : Nat) : State :=
  (List.range (idxDiff to_ from_)).foldl (fun (s : State) j =>
    s.rxMirror 0 q ((from_ + j + 1) % 2 ^ 32) (s.bytes (s.entryAddr q (from_ + j)) (2 ^ s.queEsize q))) s

/-- Advance PI by one accepted difference (R406, R409). -/
def State.quePiSet (s : State) (q v : Nat) : State :=
  let old := s.quePi q
  let s :=
    if s.queConsumer q = 0x0A then
      let old := (Assoc.find? s.posted q).getD []
      { s with posted := Assoc.insert s.posted q (old ++ List.replicate (idxDiff v (s.quePi q)) s.frc) }
    else s
  let s := if s.queWaiting q = 0 then { s with heads := Assoc.insert s.heads q s.frc } else s
  let s := (s.wr (Reg.QUE_PI q) v).wr (Reg.QUE_STAT_LAST q) Sta.ok
  if s.queHeld q ∧ !s.queRound q then (s.queMirror q old v).ring (s.queConsumer q)
  else if s.queRound q then s.ring (s.queConsumer q)
  else (s.queFollow q).ring (s.queConsumer q)

/-- Advance DI by one accepted difference. -/
def State.queDiSet (s : State) (q v : Nat) : State :=
  let old := s.queDi q
  let s := s.wr (Reg.QUE_DI q) v
  if s.queHeld q then s.queMirror q old v
  else s.queFollow q

/-- The producer's post of one entry of bytes; false where the queue has no room. -/
def State.quePush (s : State) (q : Nat) (entry : List Byte) : State :=
  (s.setBytes (s.entryAddr q (s.quePi q)) (entry.take (2 ^ s.queEsize q))).quePiSet q ((s.quePi q + 1) % 2 ^ 32)

/-- The consumer of a round-trip queue completes the oldest entry, writing its completion bytes at an offset. -/
def State.queComplete (s : State) (q off : Nat) (done : List Byte) : State :=
  (s.setBytes (s.entryAddr q (s.queDi q) + off) done).queDiSet q ((s.queDi q + 1) % 2 ^ 32)

/-- A refused index write (R406). -/
def State.queIdxRefused (s : State) (m : Master) (q which value a : Nat) : State :=
  ((s.refuseWrite m a).wr (Reg.QUE_STAT_LAST q) Sta.busError).post Un.que 0x0F11 q (which + masterId m * 2 ^ 8) value

/-- A write of QUE_PI (R406). -/
def State.quePiWrite (s : State) (m : Master) (q value : Nat) : State :=
  let a := (Reg.QUE_PI q).addr
  if !s.queUsed q then s.refuseWrite m a
  else if s.queProducer q ≠ masterId m then s.queIdxRefused m q 1 value a
  else
    let d := idxDiff value (s.quePi q)
    if d = 0 then s
    else if d ≤ 2 ^ s.queDepth q - s.queFill q then
      let new := (List.range d).flatMap (fun j => s.bytes (s.entryAddr q (s.quePi q + j)) (2 ^ s.queEsize q))
      (s.logPost m (leBytes 1 1 ++ leBytes 1 q ++ leBytes 2 0 ++ leBytes 4 value ++ new)).quePiSet q value
    else
      let s := ((s.refuseWrite m a).bump (Reg.QUE_STAT_REJECTS q)).wr (Reg.QUE_STAT_LAST q) Sta.rejectedFull
      s.post Un.que 0x0F10 q value (s.queCi q)

/-- A write of QUE_DI (R406); a one-way queue has no DI. -/
def State.queDiWrite (s : State) (m : Master) (q value : Nat) : State :=
  let a := (Reg.QUE_DI q).addr
  if !s.queUsed q then s.refuseWrite m a
  else if !s.queRound q ∨ s.queConsumer q ≠ masterId m then s.queIdxRefused m q 2 value a
  else
    let d := idxDiff value (s.queDi q)
    if d = 0 then s
    else if d ≤ s.queWaiting q then s.queDiSet q value
    else s.queIdxRefused m q 2 value a

/-- A write of QUE_CI (R406). -/
def State.queCiWrite (s : State) (m : Master) (q value : Nat) : State :=
  let a := (Reg.QUE_CI q).addr
  if !s.queUsed q then s.refuseWrite m a
  else if (if s.queRound q then s.queProducer q else s.queConsumer q) ≠ masterId m then s.queIdxRefused m q 3 value a
  else
    let d := idxDiff value (s.queCi q)
    if d = 0 then s
    else if d ≤ idxDiff (s.queRi q) (s.queCi q) then s.wr (Reg.QUE_CI q) value
    else s.queIdxRefused m q 3 value a

/-- A write of QUE_STAT: each end sets its own interrupt enable. -/
def State.queStatWrite (s : State) (m : Master) (q value : Nat) : State :=
  if !s.queUsed q then s.refuseWrite m (Reg.QUE_STAT q).addr
  else
    let s := if s.queProducer q = masterId m then s.wr (Reg.QUE_STAT_IRQ_EN_P q) (bits value 17 1) else s
    if s.queConsumer q = masterId m then s.wr (Reg.QUE_STAT_IRQ_EN_C q) (bits value 16 1) else s

/-- The consumer's entries of a queue are pending (R409). -/
def State.queDueC (s : State) (q : Nat) : Bool :=
  if s.queRound q then s.queWaiting q != 0 else idxDiff (s.queRi q) (s.queCi q) != 0

/-- The producer's entries of a round-trip queue are pending (R409). -/
def State.queDueP (s : State) (q : Nat) : Bool := s.queRound q && idxDiff (s.queRi q) (s.queCi q) != 0

/-- A master has not taken what a queue's bell announced to it, whether or not it takes the interrupt (R22, R409). -/
def State.queBell (s : State) (q master : Nat) : Bool :=
  (s.queConsumer q == master && s.queDueC q) || (s.queProducer q == master && s.queDueP q)

/-- The interrupt source 0x80 + q at an application core (R409). -/
def State.queIrq (s : State) (q core : Nat) : Bool :=
  (s.queConsumer q == core && s.on (Reg.QUE_STAT_IRQ_EN_C q) && s.queDueC q) ||
  (s.queProducer q == core && s.on (Reg.QUE_STAT_IRQ_EN_P q) && s.queDueP q)

/-- The queue whose ring holds an address. -/
def State.ringAt (s : State) (a : Nat) : Option Nat :=
  (List.range 64).find? (fun q => s.queUsed q && decide (s.ringAddr q ≤ a) && decide (a < s.ringAddr q + s.ringSize q))

/-- Whether the consumer owns place `p` of a queue's ring (R405). -/
def State.consumerOwns (s : State) (q p : Nat) : Bool :=
  let from_ := if s.queRound q then s.queDi q else s.queCi q
  decide ((p + 2 ^ s.queDepth q - from_ % 2 ^ s.queDepth q) % 2 ^ s.queDepth q < idxDiff (s.quePi q) from_)

/-- A write into the pool is accepted only from the entry's owner (R408). -/
def State.poolWrite (s : State) (m : Master) (a : Nat) (bs : List Byte) : State :=
  match s.ringAt a with
  | none => (s.busFail m true a Sta.busError 0x0101).post Un.que 0x0F12 0xFFFFFFFF 0 (masterId m)
  | some q =>
    let p := (a - s.ringAddr q) / 2 ^ s.queEsize q
    let owner := if s.consumerOwns q p then s.queConsumer q else s.queProducer q
    if owner = masterId m ∧ a + bs.length ≤ s.ringAddr q + 2 ^ s.queEsize q * (p + 1) then
      (s.answer 0).setBytes a bs
    else (s.busFail m true a Sta.busError 0x0101).post Un.que 0x0F12 q p (masterId m)

/-! ### The commands -/

/-- PGN_TX_POST (R396). -/
def execPgnTxPost (m : Master) (ch : Fin 32) (value : Word) (s : State) : Answer :=
  .next (s.access m .w32 true (Reg.PGN_TX_POST ch).addr (fun s => s.pgnPostWrite m ch value.toNat))

/-- PGN_RX_HDR_READ (R397). -/
def execPgnRxHdrRead (m : Master) (ch : Fin 32) (s : State) : Answer :=
  .next (s.access m .w32 false (Reg.PGN_RX_HDR ch).addr (fun s => s.pgnHdrRead m ch))

/-- PGN_RX_ACK (R397). -/
def execPgnRxAck (m : Master) (ch : Fin 32) (value : Word) (s : State) : Answer :=
  .next (s.access m .w32 true (Reg.PGN_RX_ACK ch).addr (fun s => s.pgnAckWrite m ch value.toNat))

/-- WITHDRAW (R401): the write of PGN_TX_CMD with KEY 0xA5 and CMD 1. -/
def execWithdraw (m : Master) (ch : Fin 32) (s : State) : Answer :=
  .next (s.access m .w32 true (Reg.PGN_TX_CMD ch).addr (fun s => s.pgnCmdWrite m ch 0xA5000001))

/-- FRC at which the TIMEOUT of a head ends: from its becoming visible (R400). DESIGN CHOICE (log 227): a TIMEOUT that the
sender clears is armed again from then. -/
def State.pgnDue (s : State) (ch : Nat) (x : PgnMsg) : Nat :=
  max x.seenAt (s.chan ch).armAt + 1000000 * s.pgnTimeoutMs ch

/-- On entry to TIMEOUT (R400). -/
def State.pgnTimeout (s : State) (ch : Nat) : State :=
  if s.on (Reg.PGN_CH_STAT_TIMEOUT ch) || ((s.chan ch).head?).isNone then s
  else
    let s := { s with pgn := Assoc.insert s.pgn ch { s.chan ch with since := s.frc } }
    let s := (s.wr (Reg.PGN_CH_STAT_TIMEOUT ch) 1).ring (s.pgnSender ch)
    s.post Un.pgn 0x0F04 ch (s.pgnReceiver ch) (s.chan ch).msgs.length

/-- The TIMEOUTs that the tick of an agreement brings, where the message is still the oldest (R402). -/
def State.pgnTimeoutsAct (s : State) : State :=
  let due := s.ban.timeouts
  due.foldl (fun (s : State) (p : Nat × Nat) =>
    if ((s.chan p.1).head?).any (fun x => x.seq == p.2) then s.pgnTimeout p.1 else s)
    { s with ban := { s.ban with timeouts := [] } }

/-- PGN_TIMEOUT (R400): the oldest visible message has waited for TIMEOUT. In a pair the active module decides the
TIMEOUT of a channel from an application core to another receiver and tells the standby with a mirrored write; it acts
on both with the next agreement (R402). -/
def execPgnTimeout (ch : Fin 32) (s : State) : Answer :=
  match (s.chan ch).head? with
  | some x =>
    if s.on (Reg.PGN_CH_STAT_TIMEOUT ch) then .next s
    else if 4 < s.pgnReceiver ch ∧ s.pgnSender ch ≤ 4 ∧ !s.inControl then .next s
    else if 4 < s.pgnReceiver ch ∧ s.pgnSender ch ≤ 4 ∧ s.leadsLog then
      let s := { s with frc := max s.frc (s.pgnDue ch x) }
      let s := s.mirror .banister (Reg.PGN_CH_STAT ch).addr (2 ^ 16 + x.seq)
      .next { s with ban := { s.ban with timeouts := s.ban.timeouts ++ [(ch.val, x.seq)] } }
    else .next (({ s with frc := max s.frc (s.pgnDue ch x) } : State).pgnTimeout ch)
  | none => .next s

/-- PGN_TIMEOUT_CLEAR (R400): the sender writes 1 to TIMEOUT. -/
def execPgnTimeoutClear (m : Master) (ch : Fin 32) (s : State) : Answer :=
  .next (s.access m .w32 true (Reg.PGN_CH_STAT ch).addr (fun s => s.pgnStatWrite m ch (2 ^ 16)))

/-- QUE_PI_WRITE (R406). -/
def execQuePiWrite (m : Master) (q : Fin 64) (value : Word) (s : State) : Answer :=
  .next (s.access m .w32 true (Reg.QUE_PI q).addr (fun s => s.quePiWrite m q value.toNat))

/-- QUE_DI_WRITE (R406). -/
def execQueDiWrite (m : Master) (q : Fin 64) (value : Word) (s : State) : Answer :=
  .next (s.access m .w32 true (Reg.QUE_DI q).addr (fun s => s.queDiWrite m q value.toNat))

/-- QUE_CI_WRITE (R406). -/
def execQueCiWrite (m : Master) (q : Fin 64) (value : Word) (s : State) : Answer :=
  .next (s.access m .w32 true (Reg.QUE_CI q).addr (fun s => s.queCiWrite m q value.toNat))

/-- QUEUE_POOL_WRITE (R408): up to eight bytes, aligned to their number, anywhere in the pool. -/
def execQueuePoolWrite (m : Master) (off : Fin 0x400000) (bs : List Byte) (s : State) : Answer :=
  let a := poolBase + off.val
  if !s.issued m then .next s
  else if !(s.reach m a) ∨ !([1, 2, 4, 8].contains bs.length) ∨ a % bs.length ≠ 0 then
    .next (s.busFail m true a Sta.busError 0x0101)
  else .next (s.poolWrite m a bs)

end Sys2Proof.Machine
end

