-- ==== Sys2Proof/Machine/Annex.lean ====
section
/-!
DEFINITION. The Sealed Annex and the control domain's ANX port (R438 to R455).
-/
namespace Sys2Proof.Machine

/-- The Annex is fitted and powered (R438, R454). -/
def State.anxOn (s : State) : Bool := s.capOn Reg.SYS_CAPS_ANX && s.anx.powered

/-! ### Parameters (R443) -/

def Anx.par (x : Anx) (n : Nat) : Nat := (Assoc.find? x.params n).getD 0
def Anx.linePar (x : Anx) (l i : Nat) : Nat := x.par (16 * l + i)
def Anx.lineOn (x : Anx) (l : Nat) : Bool := x.linePar l 0 == 1
def Anx.line (x : Anx) (l : Nat) : AnxLine := (Assoc.find? x.lines l).getD {}
def Anx.input (x : Anx) (i : Nat) : AnxInput := (Assoc.find? x.inputs i).getD {}
def Anx.setLine (x : Anx) (l : Nat) (y : AnxLine) : Anx := { x with lines := Assoc.insert x.lines l y }
def Anx.setInput (x : Anx) (i : Nat) (y : AnxInput) : Anx := { x with inputs := Assoc.insert x.inputs i y }

/-- Line l takes density (0x2) or temperature (0x6) from current input i. -/
def Anx.usesAt (x : Anx) (l src i : Nat) : Bool := x.lineOn l && x.linePar l src == i
def Anx.uses (x : Anx) (l i : Nat) : Bool := x.usesAt l 2 i || x.usesAt l 6 i

/-- The enabled lines that use a current input. -/
def Anx.lineMask (x : Anx) (i : Nat) : Nat := ((List.range 4).map (fun l => if x.uses l i then 2 ^ l else 0)).sum

/-- A value of a parameter within its limits (R443), with the other parameters of the set it will be part of. -/
def anxValueOk (par : Nat → Nat) (key : List Byte) (n : Nat) : Bool :=
  let v := par n
  let s := sgn 32 v
  let dens : Bool := decide (400000 ≤ v) && decide (v ≤ 1200000)
  let temp : Bool := decide (-5000 ≤ s) && decide (s ≤ 25000)
  let src : Bool := decide (v ≤ 3) || v == 0xF
  let line := 16 * (n / 16)
  if n = 0x40 then key.length == 32 && key.any (fun b => b != 0)
  else if n = 0x41 then decide (100 ≤ v) && decide (v ≤ 60000)
  else if 0x40 ≤ n then false
  else match n % 16 with
    | 0 => decide (v ≤ 1)
    | 1 => decide (1 ≤ v) && decide (v ≤ 1000000000)
    | 2 => src
    | 3 => dens
    | 4 => dens && decide (v < par (line + 5))
    | 5 => dens && decide (par (line + 4) < v)
    | 6 => src
    | 7 => temp
    | 8 => temp && decide (s < sgn 32 (par (line + 9)))
    | 9 => temp && decide (sgn 32 (par (line + 8)) < s)
    | 0xA => decide (v ≤ 3000)
    | _ => false

/-! ### The Annex clock (R448) -/

/-- What the clock has slewed since it was last set: at up to 1,000 ppm until its offset is gone, in TIME_HOLD at its last
rate. -/
def State.anxSlew (s : State) : Int :=
  let step : Int := ((s.safClock - s.anx.clockAt) / 1000 : Nat)
  if s.anx.hold then s.anx.drift * step else clampI (-step) step s.anx.offset

/-- Its class-2 time. The Annex runs beside the control domain, on the clock of safClock. -/
def State.anxClock (s : State) : Int := s.anx.clock + (s.safClock - s.anx.clockAt : Nat) + s.anxSlew

/-- The clock from this instant on, with an offset to slew off. -/
def State.anxRebase (s : State) (offset : Int) : State :=
  { s with anx := { s.anx with clock := s.anxClock, clockAt := s.safClock, offset } }

/-! ### Posting (R444 to R447, R453) -/

/-- HMAC-SHA-256 (RFC 2104) over a message. -/
def hmac256 (key msg : List Byte) : List Byte :=
  let k := (key ++ List.replicate 64 0).take 64
  Config.sha256 (k.map (fun b => b ^^^ 0x5C) ++ Config.sha256 (k.map (fun b => b ^^^ 0x36) ++ msg))

/-- The 8-byte MAC that a payload ends in. -/
def Anx.mac (x : Anx) (payload : List Byte) (param : Nat) : List Byte := (hmac256 x.key (payload ++ leBytes 4 param)).take 8

/-- PSET as the port has it changes (R455). -/
def State.anxPset (s : State) (pset : Nat) : State :=
  let old := s.rd Reg.ANX_SGB_PSET
  let s := s.wr Reg.ANX_SGB_PSET pset
  if s.on Reg.ANX_STAT_ID_VALID ∧ old ≠ pset % 2 ^ 16 then s.post Un.anx 0x1207 old pset (s.rd Reg.ANX_SERIAL) else s

/-- A STATUS as the port takes it (R445, R449, R455). -/
def State.anxStatus (s : State) (b : List Byte) : State :=
  let sw := le b 1 1
  let wc := le b 4 4
  let count := le b 8 4
  let porter := s.rd Reg.PTR_WRITE_CNT
  let moved : Bool := s.rd Reg.ANX_STAT_WRITE_SW != sw
  let full := !s.on Reg.ANX_STAT_SGB_FULL && decide (8191 ≤ count)
  let s := (((s.wr Reg.ANX_STAT_STATE (le b 0 1)).wr Reg.ANX_STAT_WRITE_SW sw).wrB Reg.ANX_STAT_SGB_FULL (decide (8191 ≤ count))).wr
    Reg.ANX_SGB_COUNT count
  let s := { s.wr Reg.ANX_STAT_STATUS_LOST 0 with anx := { s.anx with statusAt := s.frc } }
  let s := if full then s.post Un.anx 0x1205 (s.rd Reg.ANX_SERIAL) count (s.rd Reg.ANX_SGB_PSET) else s
  let s := if moved then s.post Un.anx 0x1206 sw wc porter else s
  let now : Int := porter - wc
  match s.anx.diff with
  | none => { s with anx := { s.anx with diff := some now, told := now } }
  | some d =>
    if s.anx.told < now then
      { s with anx := { s.anx with told := now } }.post Un.anx 0x1208 wc porter (toBits 32 d)
    else s

/-- What the port takes from a post of the module's own Annex. -/
def State.anxTake (s : State) (kind param : Nat) (b : List Byte) : State :=
  if kind = 0x01 then
    let l := le b 0 1
    (s.wr64 (Reg.ANX_MON_LO l) (Reg.ANX_MON_HI l) (le b 0x18 8)).anxPset param
  else if kind = 0x10 then
    let s := (s.wr Reg.ANX_SERIAL (le b 12 4)).wr Reg.ANX_ID (le b 16 4)
    (List.range 8).foldl (fun s i => s.wr (Reg.ANX_SWCHK i) (le b (24 + 4 * i) 4)) s
  else if kind = 0x11 then { s with anx := { s.anx with ident := some b } }
  else if kind = 0x13 then s.anxStatus b
  else s

/-- The Annex posts a message: on a module in control it goes to the channel, elsewhere the port takes it alone
(R453). Whether it was accepted. -/
def State.anxPost (s : State) (ch kind param : Nat) (payload : List Byte) : State × Bool :=
  let b := payload ++ s.anx.mac payload param
  if !s.power.running then (s, false)
  else if !s.inControl then (s.anxTake kind param payload, true)
  else
    let s := (List.range 16).foldl (fun s w => s.wr (Reg.PGN_TX_DATA ch w) (le b (4 * w) 4)) s
    let s := (s.wr (Reg.PGN_TX_PARAM ch) param).answer 0
    let s := s.pgnPostWrite .annex ch (b.length + kind * 2 ^ 8)
    if s.resp.status = Sta.ok then (s.anxTake kind param payload, true) else (s, false)

/-! ### Sealed Guestbook (R451) -/

/-- ANX_STAT.STATE as the Annex gives it (R445). -/
def Anx.state (x : Anx) : Nat :=
  if !x.powered then 0 else if x.fault then 4 else if 8191 ≤ x.sgb.length then 3 else if x.switch then 2 else 1

def AnxRec.bytes (r : AnxRec) : List Byte :=
  leBytes 2 r.scode ++ leBytes 2 r.flags ++ leBytes 4 r.sseq ++ leBytes 8 r.sec ++ leBytes 4 r.pset ++
  leBytes 4 r.p1 ++ leBytes 4 r.p2 ++ leBytes 4 r.p3

/-- A report is posted (R445, R446); while one waits, or where it is refused, it waits behind them: at most 256. -/
def State.anxReport (s : State) (kind : Nat) (payload : List Byte) : State :=
  if s.anx.waiting = [] then
    let r := s.anxPost 31 kind 0 payload
    if r.2 then r.1 else { r.1 with anx := { r.1.anx with waiting := [(kind, payload)], repostAt := s.safClock } }
  else if s.anx.waiting.length < 256 then { s with anx := { s.anx with waiting := s.anx.waiting ++ [(kind, payload)] } }
  else { s with anx := { s.anx with skipped := s.anx.skipped + 1 } }

/-- Places left for records. -/
def Anx.room (x : Anx) : Nat := 8191 - x.sgb.length

/-- A record is written, with its copy to channel 31; the last place takes 0x0041, and then none (R451). -/
def State.anxRecord (s : State) (scode p1 p2 p3 : Nat) : State :=
  let x := s.anx
  let last := x.sgb.length == 8191
  if 8192 ≤ x.sgb.length then s
  else
    let r : AnxRec := {
      scode := if last then 0x0041 else scode, flags := b2n x.hold + 2 * b2n x.switch, sseq := x.sseq + 1
      sec := secsOf s.anxClock, pset := x.pset, p1 := if last then scode else p1 % 2 ^ 32
      p2 := if last then 0 else p2 % 2 ^ 32, p3 := if last then 0 else p3 % 2 ^ 32 }
    { s with anx := { x with sgb := x.sgb ++ [r], sseq := x.sseq + 1 } }.anxReport 0x12 r.bytes

/-! ### Start-up and identification (R445) -/

/-- IDENT_SW, and IDENT_IF after it. -/
def State.anxIdentify (s : State) : State :=
  let x := s.anx
  let s := s.anxReport 0x10 ((x.name ++ List.replicate 12 0).take 12 ++ leBytes 4 s.ident.serial ++ leBytes 4 x.version ++
    leBytes 4 x.build ++ x.swchk)
  s.anxReport 0x11 (x.ifhash ++ leBytes 4 x.pset ++ leBytes 4 x.sgb.length ++ leBytes 4 (x.sseq + 1) ++ leBytes 4 0)

/-- The Annex starts: totals resume from the last commit (R452). -/
def State.anxStart (s : State) : State :=
  if !s.capOn Reg.SYS_CAPS_ANX then s
  else
    let x := s.anx
    let now := s.safClock
    let s := { s with anx := { x with
      powered := true, lines := x.committed.map (fun (l : Nat × AnxLine) => (l.1, { l.2 with since := l.2.mass })), inputs := []
      ms10 := 0, due := [], fault := false, hold := false, drift := 0, passes := 0, asked := false
      clock := if x.powered then s.anxClock else x.clock, clockAt := now, offset := 0
      wordAt := now, intAt := now, resultAt := now, lastStat := now, repostAt := now, commitAt := now } }
    (s.anxRecord 0x0001 x.version x.writeCnt 0).anxIdentify

/-- The totals are committed to the Annex flash (R452). -/
def State.anxCommit (s : State) : State := { s with anx := { s.anx with committed := s.anx.lines, commitAt := s.safClock } }

/-! ### Measurement (R441, R442) -/

/-- The band of a current input after the 100 values of an interval (R318 with BANDS_OFF = 0). -/
def AnxInput.classify (y : AnxInput) (nA : Nat) : AnxInput :=
  let dest := bandSeen false y.band nA
  match bandWait y.band dest with
  | none => { y with next := y.band, run := 0 }
  | some need =>
    let run := (if dest = y.next then y.run else 0) + 100
    if run < need then { y with next := dest, run } else { y with band := dest, next := dest, run := 0 }

/-- A current input over an interval, with the records of a fault's start and end. -/
def State.anxCurrent (s : State) (i : Nat) (c : AnxCurrent) : State :=
  let x := s.anx
  let y := x.input i
  let z := y.classify c.nA
  let put (s : State) (z : AnxInput) : State := { s with anx := s.anx.setInput i z }
  if faultBand z.band ≠ 0 then
    if y.fault then put s z
    else
      (put s { z with fault := true, cur := y.last, at_ := x.ms10, mass := 0 }).anxRecord 0x0020 i (c.nA / 10000)
        (x.lineMask i)
  else
    let s := put s { z with fault := false, cur := c.nA, last := if z.band = 3 then c.nA else y.last }
    if y.fault then s.anxRecord 0x0021 i ((x.ms10 - y.at_) * 10) y.mass.floor.toNat else s

/-- A current input's value scaled between the parameters for 4 mA and 20 mA. -/
def Anx.scaled (x : Anx) (i : Nat) (at4 at20 : Int) : Rat :=
  (at4 : Rat) + ((at20 - at4 : Int) : Rat) * (((x.input i).cur : Int) - 4000000 : Int) / 16000000

def Anx.density (x : Anx) (l : Nat) : Rat :=
  let src := x.linePar l 2
  if src = 0xF then (x.linePar l 3 : Nat) else x.scaled src (x.linePar l 4) (x.linePar l 5)

def Anx.temperature (x : Anx) (l : Nat) : Rat :=
  let src := x.linePar l 6
  if src = 0xF then (sgn 32 (x.linePar l 7) : Int) else x.scaled src (sgn 32 (x.linePar l 8)) (sgn 32 (x.linePar l 9))

/-- One interval of an enabled line. -/
def Anx.measure (x : Anx) (l : Nat) (p : AnxPulse) : Anx :=
  if !x.lineOn l then x
  else
    let y := x.line l
    let rho := x.density l
    let temp := x.temperature l
    let vcf : Rat := 1 - (x.linePar l 0xA : Nat) * (temp / 100 - 15) / 1000000
    let dv : Rat := (p.pulses * 1000000 : Nat) / (x.linePar l 1 : Nat)      -- mL
    let dm : Rat := dv * rho / 1000000                                      -- g
    let x := x.setLine l { y with
      vol := y.vol + dv, v15 := y.v15 + dv * vcf, mass := y.mass + dm, rho, temp, vcf, beyond := p.beyond || decide (200 < p.pulses) }
    (List.range 4).foldl (fun x i =>
      if x.uses l i && (x.input i).fault then x.setInput i { x.input i with mass := (x.input i).mass + dm } else x) x

/-- An accepted change takes effect (R450). -/
def Anx.change (x : Anx) (c : Nat × Nat × List Byte) : Anx :=
  if c.1 = 0x40 then { x with key := c.2.2 } else { x with params := Assoc.insert x.params c.1 c.2.1 }

/-- The parameters with the accepted changes that wait for the next interval (R450). -/
def Anx.ahead (x : Anx) : Anx := x.due.foldl (fun x c => x.change c) x

/-- ANNEX_INTERVAL: 10 ms of Annex time. -/
def execAnnexInterval (pulses : List AnxPulse) (currents : List AnxCurrent) (s : State) : Answer :=
  if !s.anxOn then .next s
  else
    let s := s.waitTo (s.anx.intAt + 10000000)
    let s := { s with anx := { s.anx with ms10 := s.anx.ms10 + 1, intAt := s.safClock } }
    let s := (List.range 4).foldl (fun s i => match currents[i]? with
      | some c => s.anxCurrent i c
      | none => s) s
    let x := s.anx
    let x := if x.fault then x else (List.range 4).foldl (fun x l => x.measure l ((pulses[l]?).getD ⟨0, false⟩)) x
    .next { s with anx := { x.ahead with due := [], t2 := s.anxClock } }

/-- An integer next to a rational: the nearest below or, by a free value, above; the rational itself where it is whole. -/
def State.anxRound (s : State) (q : Rat) : Int := if q.den = 1 then q.num else q.floor + (s.freeWord.toNat % 2 : Nat)

/-- The result of a line (R444), without its MAC. The rounding of RATE and TEMP is not stated. -/
def State.anxResult (s : State) (l : Nat) : List Byte :=
  let x := s.anx
  let y := x.line l
  let rate := (y.mass - y.since) * 360000 / ((max 1 (x.par 0x41) : Nat) : Rat)
  let subst (src : Nat) : Bool := x.linePar l src != 0xF && (x.input (x.linePar l src)).fault
  let flags := b2n (subst 2) + 2 * b2n (subst 6) + 4 * b2n y.beyond + 8 * b2n x.hold + 16 * b2n x.fault + 32 * b2n x.switch
  leBytes 1 l ++ leBytes 1 x.state ++ leBytes 2 flags ++ leBytes 4 (y.rseq + 1) ++ leBytes 8 (secsOf x.t2) ++
  leBytes 4 (nsOf x.t2) ++ leBytes 4 (toBits 32 (s.anxRound rate)) ++ leBytes 8 (toBits 64 y.mass.floor) ++
  leBytes 8 (toBits 64 y.v15.floor) ++ leBytes 8 (toBits 64 y.vol.floor) ++
  leBytes 4 (toBits 32 (y.rho / y.vcf + 1 / 2).floor) ++ leBytes 4 (toBits 32 (s.anxRound y.temp))

/-- ANNEX_RESULT_POST: a period after the last, one result for each enabled line; a refused one is dropped (R446). -/
def execAnnexResultPost (s : State) : Answer :=
  if !s.anxOn then .next s
  else
    let s := s.waitTo (s.anx.resultAt + s.anx.par 0x41 * 1000000)
    let s := { s with anx := { s.anx with resultAt := s.safClock } }
    .next (((List.range 4).filter (fun l => s.anx.lineOn l)).foldl (fun s l =>
      let r := s.anxPost 30 0x01 s.anx.pset (s.anxResult l)
      let y := s.anx.line l
      let t := r.1.useFree
      { t with anx := { t.anx.setLine l { y with rseq := y.rseq + 1, since := y.mass } with
          dropped := t.anx.dropped + b2n (!r.2) } }) s)

/-- ANNEX_STATUS_POST (R445): 1 s after the last. -/
def execAnnexStatusPost (s : State) : Answer :=
  if !s.anxOn then .next s
  else
    let s := s.waitTo (s.anx.lastStat + 1000000000)
    let s := { s with anx := { s.anx with lastStat := s.safClock } }
    let x := s.anx
    .next (s.anxReport 0x13 (leBytes 1 x.state ++ leBytes 1 (b2n x.switch) ++ leBytes 2 0 ++ leBytes 4 x.writeCnt ++
      leBytes 4 x.sgb.length ++ leBytes 4 (x.dropped + x.skipped) ++ leBytes 4 x.passes))

/-- Waiting reports are posted in order until one is refused; at most `n`. -/
def State.anxPostAll (s : State) : Nat → State
  | 0 => s
  | n + 1 => match s.anx.waiting with
    | [] => s
    | (kind, b) :: t =>
      let r := s.anxPost 31 kind 0 b
      if r.2 then State.anxPostAll { r.1 with anx := { r.1.anx with waiting := t } } n else r.1

/-- ANNEX_REPORT_REPOST (R446): where reports wait, 1 ms after the last attempt. -/
def execAnnexReportRepost (s : State) : Answer :=
  if !s.anxOn ∨ s.anx.waiting = [] then .next s
  else
    let s := s.waitTo (s.anx.repostAt + 1000000)
    .next ({ s with anx := { s.anx with repostAt := s.safClock } }.anxPostAll 256)

/-- ANNEX_SELF_TEST (R442). -/
def execAnnexSelfTest (pass : Bool) (s : State) : Answer :=
  if s.anxOn then
    .next { s with anx := { s.anx with passes := (s.anx.passes + 1) % 2 ^ 32, fault := s.anx.fault || !pass } }
  else .next s

/-! ### The result channel's gate (R67, R447) -/

def State.anxif (s : State) : List Byte := s.plan 0x8060 0

/-- IDENT_IF: the identification that has arrived is compared with ANXIF. -/
def execIdentIf (s : State) : Answer :=
  match s.anx.ident with
  | none => .next s
  | some b =>
    if !s.locked then .next s
    else
      let hash : List Byte := b.take 32
      let first := !s.anx.compared
      let s := { s with anx := { s.anx with ident := none, compared := true } }
      let s : State := (List.range 8).foldl (fun (s : State) i => s.wr (Reg.ANX_IFHASH i) (le hash (4 * i) 4)) s
      let s := (s.wr Reg.ANX_SGB_PSET (le b 32 4)).wr Reg.ANX_SGB_COUNT (le b 36 4)
      let s := (s.wr Reg.ANX_STAT_ID_VALID 1).post Un.anx 0x1201 (s.rd Reg.ANX_SERIAL) (s.rd Reg.ANX_ID) (le b 32 4)
      let was := s.on Reg.ANX_STAT_CLOSED
      if hash = s.anxif then
        let s := (s.wr Reg.ANX_STAT_IF_MISMATCH 0).wr Reg.ANX_STAT_CLOSED 0
        .next (if was then s.post Un.anx 0x1203 (s.rd Reg.ANX_SERIAL) (s.rd Reg.ANX_DISC) 0 else s)
      else
        let s := (s.wr Reg.ANX_STAT_IF_MISMATCH 1).wr Reg.ANX_STAT_CLOSED 1
        let s := if first then s.post Un.fpl 0x0309 (le s.anxif 0 4) (le hash 0 4) 0 else s
        .next (if was then s else s.post Un.anx 0x1202 (le s.anxif 0 4) (le hash 0 4) (s.rd Reg.ANX_SERIAL))

/-- The port at lock (R447 to R449): the channel is closed, three words carry REIDENT. -/
def State.anxLock (s : State) : State :=
  if !s.capOn Reg.SYS_CAPS_ANX then s
  else
    let s := (s.wr Reg.ANX_STAT_CLOSED 1).wr Reg.ANX_STAT_ID_VALID 0
    { s with anx := { s.anx with compared := false, ident := none, reident := 3, diff := none, statusAt := s.frc } }

/-- ANNEX_STATUS_LOST (R455). -/
def execAnnexStatusLost (s : State) : Answer :=
  if s.capOn Reg.SYS_CAPS_ANX ∧ s.locked ∧ !s.on Reg.ANX_STAT_STATUS_LOST then
    let s := { s with frc := max s.frc (s.anx.statusAt + 3000000000) }
    .next ((s.wr Reg.ANX_STAT_STATUS_LOST 1).post Un.anx 0x1204 (s.rd Reg.ANX_STAT_STATE) ((s.frc - s.anx.statusAt) / 1000000) 0)
  else .next s

/-! ### The time line (R448) -/

/-- The time word of this instant. -/
def State.timeWord (s : State) : List Byte :=
  let b := leBytes 8 (secsOf s.t2) ++ leBytes 4 (nsOf s.t2) ++
    leBytes 1 (b2n (s.on Reg.TIM_STAT_C2_VALID) + 2 * b2n (s.anx.reident != 0)) ++ leBytes 1 0
  b ++ leBytes 2 (crcMsb 16 0x1021 0xFFFF b)

/-- Time passes to the next FRC multiple of 1 ms whose word has not been sent. -/
def State.wordInstant (s : State) : State :=
  let n := s.frc + (1000000 - s.frc % 1000000) % 1000000
  { s with frc := if s.anx.sentAt = some n then n + 1000000 else n }

/-- A usable word reaches the Annex. -/
def State.anxWord (s : State) (word : Int) : State :=
  let offset := word - s.anxClock
  let lost := s.anx.hold
  let s := s.anxRebase offset
  let s := { s with anx := { s.anx with hold := false, word, wordAt := s.safClock } }
  if lost then s.anxRecord 0x0031 (toBits 32 offset) 0 0 else s

/-- TIME_WORD_SEND: at the next FRC multiple of 1 ms that has had none; `good`: the Annex takes it with a good CRC. -/
def execTimeWordSend (good : Bool) (s : State) : Answer :=
  if !s.power.running ∨ !s.capOn Reg.SYS_CAPS_ANX then .next s
  else
    let s := s.wordInstant
    let ask : Bool := s.anx.reident != 0
    let s := { s with anx := { s.anx with sent := s.timeWord, sentAt := some s.frc, reident := s.anx.reident - 1 } }
    if !s.anxOn ∨ !good then .next s
    else
      let again := ask && !s.anx.asked
      let s := { s with anx := { s.anx with asked := ask } }
      let s := if again then s.anxIdentify else s
      .next (if s.on Reg.TIM_STAT_C2_VALID then s.anxWord s.t2 else s)

/-- ANNEX_TIME_HOLD: 10 ms without a usable word; the clock runs on at its last rate. -/
def execAnnexTimeHold (s : State) : Answer :=
  if s.anxOn ∧ !s.anx.hold then
    let s := s.waitTo (s.anx.wordAt + 10000000)
    let left := s.anx.offset - s.anxSlew
    let s := s.anxRebase 0
    .next ({ s with anx := { s.anx with hold := true, drift := left.sign } }.anxRecord 0x0030 (secsOf s.anx.word) 0 0)
  else .next s

/-! ### The switch and the parameter port (R449, R450) -/

/-- ANNEX_WRITE_SWITCH: both contacts. A move while main power is off is recorded at the next P0 (R487). -/
def execAnnexWriteSwitch (write : Bool) (s : State) : Answer :=
  if !s.capOn Reg.SYS_CAPS_ANX then .next s
  else
    let s := if s.on Reg.PTR_STAT_WRITE_SW == write ∨ s.power.porterStopped then s
      else
        let s := s.wrB Reg.PTR_STAT_WRITE_SW write
        let s := if write then s.wr Reg.PTR_WRITE_CNT (s.rd Reg.PTR_WRITE_CNT + 1) else s
        if s.power.running then s.post Un.ptr 0x0204 (b2n write) (s.rd Reg.PTR_WRITE_CNT) 0
        else { s with power := { s.power with offWrite := s.power.offWrite + 1 } }
    if s.anxOn ∧ s.anx.switch != write then
      let s := { s with anx := { s.anx with switch := write, writeCnt := s.anx.writeCnt + b2n write } }
      .next (s.anxRecord (if write then 0x0003 else 0x0004) s.anx.writeCnt 0 0)
    else .next s

/-- READ_PARAM. -/
def execReadParam (nums : List (Fin 0x42)) (s : State) : Answer :=
  .next (if s.anxOn then { s with anx := { s.anx with answer := nums.flatMap (fun n => leBytes 4 (s.anx.par n.val)) } } else s)

/-- READ_LOG. -/
def execReadLog (s : State) : Answer :=
  .next (if s.anxOn then { s with anx := { s.anx with answer := s.anx.sgb.flatMap (fun r => r.bytes) } } else s)

/-- READ_TOTALS. -/
def execReadTotals (s : State) : Answer :=
  .next (if s.anxOn then { s with anx := { s.anx with answer := (List.range 4).flatMap (fun l =>
    let y := s.anx.line l
    leBytes 8 (toBits 64 y.mass.floor) ++ leBytes 8 (toBits 64 y.v15.floor) ++ leBytes 8 (toBits 64 y.vol.floor)) } } else s)

def anxCmdWrite : Nat := 1
def anxCmdLoad : Nat := 2
def anxCmdClear : Nat := 3
def anxNoSwitch : Nat := 1
def anxValue : Nat := 2
def anxLogSpace : Nat := 3
def anxSignature : Nat := 4
def anxHash : Nat := 5

/-- A refused command changes nothing and is recorded where a place is free. -/
def State.anxRefuse (s : State) (cmd why num : Nat) : State :=
  if s.anx.room = 0 then s else s.anxRecord 0x0011 cmd why num

/-- The value a request leaves a parameter with. -/
def Anx.parWith (x : Anx) (changes : List AnxChange) (n : Nat) : Nat :=
  match changes.reverse.find? (fun c => c.num.val == n) with
  | some c => c.value.toNat
  | none => x.ahead.par n

/-- The record of a changed parameter; REPORT_KEY is shown as 0. -/
def State.anxChanged (s : State) (c : AnxChange) : State :=
  let n := c.num.val
  if n = 0x40 then s.anxRecord 0x0010 n 0 0 else s.anxRecord 0x0010 n (s.anx.ahead.par n) c.value.toNat

/-- WRITE_PARAM: 1 to 16 parameters. -/
def execWriteParam (changes : List AnxChange) (s : State) : Answer :=
  if !s.anxOn ∨ changes = [] ∨ 16 < changes.length then .next s
  else
    let x := s.anx
    let legal := changes.any (fun c => c.num.val != 0x41)
    match changes.find? (fun c => !anxValueOk (x.parWith changes) c.key c.num.val) with
    | some c => .next (s.anxRefuse anxCmdWrite (if legal && !x.switch then anxNoSwitch else anxValue) c.num.val)
    | none =>
      if legal ∧ !x.switch then .next (s.anxRefuse anxCmdWrite anxNoSwitch ((changes.head?.map (fun c => c.num.val)).getD 0))
      else if x.room < changes.length then .next (s.anxRefuse anxCmdWrite anxLogSpace 0)
      else
        let s := changes.foldl (fun s c => s.anxChanged c) s
        .next { s with anx := { s.anx with
          due := s.anx.due ++ changes.map (fun c => (c.num.val, c.value.toNat, c.key)), pset := s.anx.pset + b2n legal } }

/-- LOAD_SOFTWARE: the image, its signature, and what the software says of itself. -/
def execLoadSoftware (image sig : List Byte) (name ifhash : List Byte) (version build : BitVec 32) (s : State) : Answer :=
  if !s.anxOn then .next s
  else
    let x := s.anx
    let chk := Config.sha256 image
    if !x.switch then .next (s.anxRefuse anxCmdLoad anxNoSwitch 0)
    else if x.room < 1 then .next (s.anxRefuse anxCmdLoad anxLogSpace 0)
    else if !Config.annexSignatureGood chk sig then .next (s.anxRefuse anxCmdLoad anxSignature 0)
    else
      let s := (s.anxRecord 0x0012 x.version version.toNat (le chk 0 4)).anxCommit
      .next { s with anx := { s.anx with name, version := version.toNat, build := build.toNat, swchk := chk, ifhash } }.anxStart

/-- CLEAR_LOG: the hash of every record held. -/
def execClearLog (hash : List Byte) (s : State) : Answer :=
  if !s.anxOn then .next s
  else
    let x := s.anx
    let held := Config.sha256 (x.sgb.flatMap (fun r => r.bytes))
    if !x.switch then .next (s.anxRefuse anxCmdClear anxNoSwitch 0)
    else if hash ≠ held then .next (s.anxRefuse anxCmdClear anxHash 0)
    else .next ({ s with anx := { x with sgb := [] } }.anxRecord 0x0040 x.sgb.length (le hash 0 4) x.sseq)

/-- ANNEX_TOTALS_COMMIT (R452): 1 s after the last. -/
def execAnnexTotalsCommit (s : State) : Answer :=
  .next (if s.anxOn then (s.waitTo (s.anx.commitAt + 1000000000)).anxCommit else s)

/-- The power-fail warning reaches the Annex (R452). -/
def State.anxPowerFail (s : State) : State :=
  if s.anxOn then
    s.anxCommit.anxRecord 0x0002 (((List.range 4).map (fun l => if s.anx.lineOn l then 2 ^ l else 0)).sum) 0 0
  else s

end Sys2Proof.Machine
end

