-- ==== Sys2Proof/Machine/AxisProfile.lean ====
section
/-!
DEFINITION. The jerk-limited motion of an axis over one step interval of 10 µs (R169 to R172). Position, velocity and
acceleration are integers in units of 2^-32 step, step/s and step/s²; jerks are in the same unit.

R170 asks for the shortest-time motion within the limits and gives no discretisation. The model's: in each interval the
axis takes the largest jerk towards its goal after which it can still come to rest on the goal, or settle at the goal's
velocity, without passing it. A stop leaves room for what the intervals' whole length costs it, so it ends a little
short of its target, and a pure jerk profile of four equal segments with a reduced jerk takes it from rest exactly onto
the target; a short move is such a profile from its start. DESIGN CHOICE, log 80.
-/
namespace Sys2Proof.Machine

/-- The integer square root. -/
def isqrt (n : Nat) : Nat :=
  (List.range 128).reverse.foldl (fun r k => if (r + 2 ^ k) * (r + 2 ^ k) ≤ n then r + 2 ^ k else r) 0

/-- A quotient rounded down, or up where `up`: the last bit that R169 leaves open. -/
def rnd (x d : Int) (up : Bool) : Int := if x % d = 0 then x / d else x / d + (if up then 1 else 0)

/-- What an axis is doing at a step boundary: position, velocity, acceleration. -/
abbrev AxMotion := Int × Int × Int

/-- Constant jerk over one step interval. -/
def AxMotion.move (m : AxMotion) (j : Int) (r0 r1 r2 : Bool) : AxMotion :=
  match m with
  | (p, v, a) =>
    (p + rnd (60000000000 * v + 300000 * a + j) 6000000000000000 r0,
     v + rnd (200000 * a + j) 20000000000 r1,
     a + rnd j 100000 r2)

/-- The way an axis needs to come to rest from velocity `v` ≥ 0 and an acceleration not below -`d`; where it would be at
rest before its acceleration is 0, the way up to there. -/
def stopFrom (v a d j : Int) : Int :=
  let v1 := v + a * a / (2 * j)
  if a < 0 ∧ v < a * a / (2 * j) then
    let t := -a - isqrt (a * a - 2 * j * v).toNat
    v * t / j + a * t * t / (2 * j * j) + t * t * t / (6 * j * j)
  else
    let whole := if d * d ≤ v1 * j then v1 * v1 / (2 * d) + v1 * d / (2 * j)
      else (isqrt (v1 * v1 * v1 / j).toNat : Int)
    whole + v1 * a / j - a * a * a / (6 * j * j)

/-- The way to rest from any acceleration: one below -`d` is first brought up to it at jerk `j` (R172). -/
def stopDist (v a d j : Int) : Int :=
  if a < -d then
    let n := -d - a
    let v1 := v + (d * d - a * a) / (2 * j)
    if v1 ≤ 0 then stopFrom v a (-a) j
    else v * n / j + a * n * n / (2 * j * j) + n * n * n / (6 * j * j) + stopFrom v1 (-d) d j
  else stopFrom v a d j

/-- The largest value between two bounds that passes a test that fails from some point upwards; the lower bound where
none does. -/
def bisect (ok : Int → Bool) : Nat → Int → Int → Int
  | 0, lo, _ => lo
  | n + 1, lo, hi => if ok ((lo + hi) / 2) then bisect ok n ((lo + hi) / 2) hi else bisect ok n lo ((lo + hi) / 2)

/-- The largest value of an interval that passes. -/
def largest (ok : Int → Bool) (lo hi : Int) : Int := if ok hi then hi else bisect ok 48 lo hi

/-- Velocities in 1 / 20,000,000,000 of a unit, exact over one interval. -/
def fine : Int := 20000000000

/-- The magnitude of an integer. -/
def mag (x : Int) : Int := if x < 0 then -x else x

/-- The velocity, in fine units, at which an axis settles when its acceleration goes to 0 at no more than jerk `j`: in
whole intervals, or continuously where `curve`. -/
def settles (curve : Bool) (v a j : Int) : Int :=
  if curve then v + a * mag a * 10000000000 / j else v + a * ((mag a * 100000 + j - 1) / j) * 100000

/-- The jerk that raises the velocity towards `vt`: |a| stays within AMAX while |v| grows and within DMAX while it
falls. -/
def jerkUp (curve : Bool) (v a vt amax dmax j : Int) : Int :=
  let hi := clampI (-j) j (((if 0 ≤ v then amax else dmax) - a) * 100000)
  largest (fun k => decide (settles curve (v * fine + 200000 * a + k) (a + k / 100000) j ≤ vt * fine)) (-j) hi

/-- The jerk towards a velocity. -/
def jerkTo (curve : Bool) (v a vt amax dmax j : Int) : Int :=
  if settles curve (v * fine) a j ≤ vt * fine then jerkUp curve v a vt amax dmax j
  else -jerkUp curve (-v) (-a) (-vt) amax dmax j

/-- A jerk whose change of the acceleration over an interval is exact: a multiple of 100,000, rounded down. -/
def whole (k : Int) : Int := k / 100000 * 100000

/-- What an axis moves towards: a velocity, or a position at no more than a velocity. -/
inductive AxGoal where
  | vel (v : Int)
  | pos (p cruise : Int)
  deriving DecidableEq, Repr

/-- The interval's motion towards a velocity. Within the rounding of the velocity, only the acceleration still goes
to 0. -/
def AxMotion.toVel (m : AxMotion) (vt amax dmax j : Int) (r0 r1 r2 : Bool) : AxMotion :=
  match m with
  | (p, v, a) =>
    let j := whole j
    if mag (v - vt) ≤ 4 ∧ mag a ≤ 400000 then
      (p + rnd (v + vt) 200000 r0, vt, a + clampI (-j) j (-100000 * a) / 100000)
    else AxMotion.move m (whole (jerkTo false v a vt amax dmax j)) r0 r1 r2

/-- The sign of a motion: of its velocity, at rest of its acceleration or of the way ahead. -/
def AxMotion.sign (m : AxMotion) (way : Int) : Int :=
  match m with
  | (_, v, a) =>
    if v ≠ 0 then (if v < 0 then -1 else 1) else if a ≠ 0 then (if a < 0 then -1 else 1) else if way < 0 then -1 else 1

/-- The room that a stop leaves: for the rounding of each interval and for the changes of jerk that fall inside one. -/
def stopRoom (v a dmax j : Int) : Int :=
  let v := if v < 0 then 0 else v
  let up := if 0 < a then a else 0
  let jd := min j (dmax * 100000)
  let n := v * 100000 / dmax + min (dmax * 100000 / j) (isqrt (v * 10000000000 / j).toNat) + up * 100000 / j
  (32 * jd + (if 0 < a then j else jd) * n / 2) / 1000000000000000 + 64 + 2 * n

/-- The least n with n³ at least a value. -/
def cubeRootUp (x : Int) : Int :=
  (List.range 44).reverse.foldl (fun (r : Int) (k : Nat) => if (r + 2 ^ k) * (r + 2 ^ k) * (r + 2 ^ k) < x then r + 2 ^ k else r) 0 + 1

/-- How many intervals each of the four segments takes that carry an axis at rest over a way, within a jerk, an
acceleration and a velocity; none where segments of constant acceleration or velocity are better. -/
def creepLength (way cruise amax dmax j : Int) : Option Nat :=
  let lim := min amax dmax
  let je := min j (lim * 100000)
  let up (x d : Int) : Int := (x + d - 1) / d
  let byJerk := cubeRootUp (up (way * 1000000000000000) (2 * je))
  let byAcc : Int := (isqrt (up (way * 10000000000) (2 * lim) - 1).toNat : Int) + 1
  let n := max byJerk (max byAcc (up (way * 100000) (2 * cruise)))
  if n = byJerk ∨ n ≤ 16 then some n.toNat else none

/-- A creep's motion at the end of its next interval: jerk +, −, −, + over `n` intervals each. -/
def AxCreep.at_ (c : AxCreep) (r0 r1 r2 : Bool) : AxMotion :=
  let way := c.t - c.p0
  let n : Int := c.n
  let i : Int := c.i + 1
  let after (k : Int) : Int := if i ≤ k * n then 0 else i - k * n
  let x := after 1
  let y := after 3
  (c.p0 + rnd (way * (i * i * i - 2 * (x * x * x) + 2 * (y * y * y))) (12 * (n * n * n)) r0,
   rnd (way * 100000 * (i * i - 2 * (x * x) + 2 * (y * y))) (4 * (n * n * n)) r1,
   rnd (way * 10000000000 * (i - 2 * x + 2 * y)) (2 * (n * n * n)) r2)

/-- A creep after one more interval. -/
def AxCreep.next (c : AxCreep) : Option AxCreep := if c.i + 1 = 4 * c.n then none else some { c with i := c.i + 1 }

/-- The interval's motion towards a position ahead, and the creep under way after it: between the jerk of a stop and
that of the cruising speed, the largest after which the axis can still stop short of the position. -/
def AxMotion.toPos (m : AxMotion) (creep : Option AxCreep) (t cruise amax dmax j : Int) (r0 r1 r2 : Bool) :
    AxMotion × Option AxCreep :=
  match m with
  | (p, v, a) =>
    let j := whole j
    let d := AxMotion.sign m (t - p)
    let r := d * (t - p)
    let begin_ : Option AxCreep := match creep with
      | some c => some c
      | none => if v = 0 ∧ a = 0 ∧ r ≠ 0 then
          (creepLength r cruise amax dmax j).map (fun n => { p0 := p, t, n, i := 0 })
        else none
    match begin_ with
    | some c => (c.at_ r0 r1 r2, c.next)
    | none =>
      let jd := min j (dmax * 100000)
      if v = 0 ∧ a = 0 ∧ r = 0 then (m, none)
      else if r ≤ 8 * stopRoom 0 0 dmax j ∧ mag v ≤ 4 * jd / 10000000000 + 4 ∧ mag a ≤ 2 * jd / 100000 + 4 then
        (AxMotion.toVel m 0 amax dmax j r0 r1 r2, none)
      else
        let hi := jerkTo false (d * v) (d * a) cruise amax dmax j
        let lo := jerkTo true (d * v) (d * a) 0 amax dmax j
        let k := largest (fun k =>
          match AxMotion.move (0, d * v, d * a) k false false false with
          | (p', v', a') => decide (p' + stopDist v' a' dmax j + stopRoom v' a' dmax j ≤ r)) (min lo hi) hi
        (AxMotion.move m (d * whole k) r0 r1 r2, none)

/-- The interval's motion towards a goal; a goal behind, or one to be passed, is first a stop (R171, R172). -/
def AxMotion.toGoal (m : AxMotion) (creep : Option AxCreep) (g : AxGoal) (pass : Bool) (amax dmax j : Int)
    (r0 r1 r2 : Bool) : AxMotion × Option AxCreep :=
  match m, g with
  | _, .vel v => (AxMotion.toVel m v amax dmax j r0 r1 r2, none)
  | (p, v, a), .pos t cruise =>
    let creep := creep.filter (fun c => c.t == t)
    if creep.isSome ∨ (v = 0 ∧ a = 0) ∨ (pass = false ∧ 0 ≤ AxMotion.sign m (t - p) * (t - p)) then
      AxMotion.toPos m creep t cruise amax dmax j r0 r1 r2
    else (AxMotion.toVel m 0 amax dmax j r0 r1 r2, none)

/-- The rising step edges of an interval that starts at an instant: the integer part changes, by linear interpolation,
rounded to the nanosecond (R169). -/
def stepEdges (at_ : Nat) (p p' : Int) : List Nat :=
  let f0 := p / 4294967296
  let f1 := p' / 4294967296
  let dist := (if p ≤ p' then p' - p else p - p').toNat
  (List.range (if f0 ≤ f1 then f1 - f0 else f0 - f1).toNat).map (fun (n : Nat) =>
    let c : Int := if f0 ≤ f1 then (f0 + 1 + (n : Int)) * 4294967296 else (f0 - (n : Int)) * 4294967296
    at_ + (20000 * (if p ≤ c then c - p else p - c).toNat + dist) / (2 * dist))

end Sys2Proof.Machine
end

