-- ==== Sys2Proof/Machine/Axis.lean ====
section
/-!
DEFINITION. The Axis Unit (R162 to R186).
-/
namespace Sys2Proof.Machine

/-! ### The AXIS section (R163) and the record behind the registers -/

def State.axRec (s : State) (a : Nat) : List Byte := s.plan 0x8022 a
/-- An axis with an AXIS section. -/
def State.axOn (s : State) (a : Nat) : Bool := s.axRec a != []
def State.axFld (s : State) (a off n : Nat) : Nat := le (s.axRec a) off n
def State.axTask (s : State) (a : Nat) : Nat := s.axFld a 1 1
def State.axDirInv (s : State) (a : Nat) : Bool := bitAt (s.axFld a 2 1) 0
def State.axEncInv (s : State) (a : Nat) : Bool := bitAt (s.axFld a 2 1) 1
def State.axLoopSrc (s : State) (a : Nat) : Bool := bitAt (s.axFld a 2 1) 2
/-- STILL_MODE: 0 HOLD, 1 OFF, 2 SHORT. -/
def State.axStill (s : State) (a : Nat) : Nat := s.axFld a 3 1
def State.axCmdOff (s : State) (a : Nat) : Nat := s.axFld a 4 2
def State.axStatOff (s : State) (a : Nat) : Nat := s.axFld a 6 2
/-- Times in ns. -/
def State.axStillDelay (s : State) (a : Nat) : Nat := s.axFld a 8 2 * 1000000
def State.axEnSettle (s : State) (a : Nat) : Nat := s.axFld a 0xA 2 * 10000
def State.axStepHigh (s : State) (a : Nat) : Nat := s.axFld a 0xC 1 * 25
def State.axDirSetup (s : State) (a : Nat) : Nat := s.axFld a 0xD 1 * 25
def State.axRatio (s : State) (a : Nat) : Nat := s.axFld a 0x10 4

/-- An axis behind its registers. -/
def State.axis (s : State) (a : Nat) : Axis := (Assoc.find? s.axes a).getD {}

/-- Replace it. -/
def State.setAxis (s : State) (a : Nat) (x : Axis) : State := { s with axes := Assoc.insert s.axes a x }

/-- SOURCE of the Axis Unit's codes. -/
def axSource : Nat := Un.ax

/-! ### States (R182) -/

def axDisabled : Nat := 0
def axSettling : Nat := 1
def axMoving : Nat := 2
def axAtRest : Nat := 3
def axParked : Nat := 4
def axFault : Nat := 5

/-- The commanded position: the integer part. -/
def Axis.pc (x : Axis) : Int := x.pos / 4294967296

/-- At rest: v = 0 and a = 0. -/
def Axis.still (x : Axis) : Bool := x.vel == 0 && x.acc == 0

/-- The virtual limits in force. -/
def State.axLo (s : State) (a : Nat) : Int := sgn 64 (s.rd64 (Reg.AX_VLIM_LO_LO a) (Reg.AX_VLIM_LO_HI a))
def State.axHi (s : State) (a : Nat) : Int := sgn 64 (s.rd64 (Reg.AX_VLIM_HI_LO a) (Reg.AX_VLIM_HI_HI a))

/-! ### Command blocks (R165, R167) -/

def axMode (b : List Byte) : Nat := le b 0 1
def axTarget (b : List Byte) : Int := les b 8 8

/-- VMAX, taken as VMAX_CAP above it, AMAX, DMAX and JMAX of a command block. -/
def State.axLimits (s : State) (a : Nat) (b : List Byte) : Nat × Nat × Nat × Nat :=
  (min (le b 4 4) (s.axFld a 0x28 4), le b 0x10 4, le b 0x14 4, le b 0x18 4)

/-- The velocity that VELOCITY asks for: the loop's applied output on an axis with LOOP_SOURCE. -/
def State.axVelocity (s : State) (a : Nat) : Int :=
  let x := s.axis a
  let v := if s.axLoopSrc a then x.loopVel else axTarget x.block
  let vmax : Int := (s.axLimits a x.block).1
  clampI (-vmax) vmax v

/-- An encoder loss that faults the axis and keeps it in FAULT (R181). -/
def State.axLost (s : State) (a : Nat) : Bool := s.on (Reg.AX_STATE_ENC_LOSS a) && s.axRatio a != 0

/-- ERR of a new command, 0 where it is accepted. While ENC_LOSS persists no CLEAR_FAULT is accepted, but with DISABLE,
which R167 excepts and where it then clears nothing. -/
def State.axCheck (s : State) (a : Nat) (b : List Byte) : Nat :=
  let x := s.axis a
  let t := axTarget b
  let fault := s.rd (Reg.AX_STATE_STATE a) == axFault
  let clear := bitAt (le b 2 1) 0
  if 4 < axMode b ∨ 4 ≤ le b 2 1 ∨ le b 3 1 ≠ 0 ∨ le b 0x1C 4 ≠ 0 then 1
  else if le b 4 4 = 0 ∨ le b 0x10 4 = 0 ∨ le b 0x14 4 = 0 ∨ le b 0x18 4 = 0 then 2
  else if axMode b = 1 ∧ (t < -140737488355328 ∨ 140737488355327 < t) then 3
  else if axMode b = 4 ∧ (t < s.axLo a ∨ s.axHi a < t) then 3
  else if axMode b = 4 ∧ !x.still then 4
  else if axMode b ≠ 0 ∧ (if clear then s.axLost a else fault) then 5
  else 0

/-! ### Goals (R166, R175) -/

/-- POSITION's target, clipped: to the nearer virtual limit, and to the present position where the axis rests
outside the limits and the target lies farther out. The second part says which limit clipped it. -/
def State.axClip (s : State) (a : Nat) (t : Int) : Int × Option Nat :=
  let pc := (s.axis a).pc
  let lo := s.axLo a
  let hi := s.axHi a
  if hi < t then (if hi < pc ∧ pc ≤ t then pc else hi, some 1)
  else if t < lo then (if pc < lo ∧ t ≤ pc then pc else lo, some 0)
  else (t, none)

/-- What the axis moves towards. -/
def State.axGoal (s : State) (a : Nat) : AxGoal :=
  let x := s.axis a
  let u : Int := 4294967296
  if s.rd (Reg.AX_STATE_STATE a) = axFault ∨ x.stay then .vel 0
  else if axMode x.block = 1 then .pos (x.tgt * u) ((s.axLimits a x.block).1 * u)
  else if axMode x.block = 2 then
    let v := s.axVelocity a
    if 0 < v then (if s.axHi a * u + u ≤ x.pos then .vel 0 else .pos (s.axHi a * u) (v * u))
    else if v < 0 then (if x.pos ≤ s.axLo a * u - u then .vel 0 else .pos (s.axLo a * u) (-v * u))
    else .vel 0
  else .vel 0

/-- The axis would move, or has still to come to rest. -/
def State.axNeeds (s : State) (a : Nat) : Bool :=
  !(s.axis a).still || match s.axGoal a with
    | .vel v => v != 0
    | .pos t _ => t != (s.axis a).pos

/-- At rest on a limit against the target. -/
def State.axHeld (s : State) (a : Nat) : Bool :=
  let x := s.axis a
  let want (up : Bool) : Bool :=
    if axMode x.block = 1 then (if up then decide (s.axHi a < axTarget x.block) else decide (axTarget x.block < s.axLo a))
    else if axMode x.block = 2 then (if up then decide (0 < s.axVelocity a) else decide (s.axVelocity a < 0))
    else false
  x.still && s.rd (Reg.AX_STATE_STATE a) != axFault &&
    ((x.pc == s.axHi a && want true) || (x.pc == s.axLo a && want false))

/-! ### Planning anew (R170, R172, R173, R175) -/

/-- A new command or a limit change takes effect: whether the axis can stop where it has to, and what it does where
it cannot. -/
def State.axPlan (s : State) (a : Nat) : State :=
  let x := s.axis a
  let u : Int := 4294967296
  let new := s.axLimits a x.block
  let old := x.lims
  let d : Int := if x.vel < 0 then -1 else 1
  let ahead := (if 0 < d then s.axHi a else s.axLo a) * u
  let goal := match s.axGoal a with
    | .pos t _ => if 0 ≤ d * (t - x.pos) then t else ahead
    | .vel _ => ahead
  let way := d * (goal - x.pos)
  let dist (dec jerk : Nat) : Int := stopDist (d * x.vel) (d * x.acc) (dec * u) (jerk * u)
  let dmax := new.2.2.1
  let jmax := new.2.2.2
  let lowered := decide (new.1 < old.1) || decide (new.2.1 < old.2.1) || decide (dmax < old.2.2.1) ||
    decide (jmax < old.2.2.2)
  let held := x.keep.getD (old.2.2.1, old.2.2.2)
  let eDec := max dmax (s.axFld a 0x2C 4)
  let eJerk := max jmax (s.axFld a 0x30 4)
  let x := { x with lims := new, keep := none, pass := false, creep := none }
  if x.still ∨ dist dmax jmax ≤ way then s.setAxis a x
  else if goal = ahead then
    if lowered ∧ dist held.1 held.2 ≤ way then
      let s := (s.setAxis a { x with keep := some held }).wr (Reg.AX_STATE_LIMIT_DECEL a) 1
      s.post axSource 0x0703 a held.1 dmax
    else
      let s := s.setAxis a { x with keep := some (eDec, eJerk) }
      if dist eDec eJerk ≤ way then (if dmax < eDec then s.wr (Reg.AX_STATE_LIMIT_DECEL a) 1 else s)
      else
        let s := (s.setAxis a { s.axis a with stay := true }).wr (Reg.AX_STATE_LIMIT_PASSED a) 1
        s.post axSource 0x0705 a (toBits 32 ((dist eDec eJerk - way) / u)) (s.axFld a 0x2C 4)
  else
    let s := s.setAxis a { x with pass := true }
    if lowered ∧ d * x.acc < 0 then
      (s.wr (Reg.AX_STATE_OVERSHOOT a) 1).post axSource 0x0702 a
        (toBits 32 ((dist dmax jmax - way + 2147483648) / u)) dmax
    else s

/-- POSITION's target is clipped, and the axis plans anew. -/
def State.axAim (s : State) (a : Nat) : State :=
  let x := s.axis a
  let s :=
    if axMode x.block = 1 then
      let t := axTarget x.block
      let c := s.axClip a t
      let s := s.setAxis a { x with tgt := c.1 }
      match c.2 with
      | some side => (s.wr (Reg.AX_STATE_TGT_CLIPPED a) 1).post axSource 0x0704 a side (toBits 32 t)
      | none => s
    else s
  s.axPlan a

/-! ### Deviation (R179) -/

/-- round((s × (e − e0)) × ENC_RATIO / 2^24), halves upward. -/
def State.axTravel (s : State) (a : Nat) : Int :=
  let x := s.axis a
  let d := sgn 48 (x.count + 2 ^ 48 - x.e0)
  ((if s.axEncInv a then -d else d) * s.axRatio a + 8388608) / 16777216

/-- The deviation, 0 without an encoder. -/
def State.axDev (s : State) (a : Nat) : Int :=
  let x := s.axis a
  if s.axRatio a = 0 then 0 else satI 32 (x.pc - x.pc0 - s.axTravel a)

/-- The deviation's reference is captured. -/
def Axis.capture (x : Axis) : Axis := { x with pc0 := x.pc, e0 := x.count, beyond := 0 }

/-- The encoder's quality is bad (R178). -/
def State.axBad (s : State) (a : Nat) : Bool :=
  s.on (Reg.AX_STATE_ENC_LOSS a) || decide (s.frc < (s.axis a).badTo)

/-! ### Drive lines (R176) -/

/-- EN and SHORT that the state asks for; an axis in FAULT that still decelerates keeps EN. -/
def State.axWant (s : State) (a : Nat) : Bool × Bool :=
  let st := s.rd (Reg.AX_STATE_STATE a)
  if st = axDisabled then (false, false)
  else if st = axSettling ∨ st = axMoving ∨ st = axAtRest ∨ (st = axFault ∧ !(s.axis a).still) then (true, false)
  else (s.axStill a == 0, s.axStill a == 2)

/-- The lines follow: what becomes inactive does so at once, what becomes active does so at once, but 1 µs after the
other line has become inactive. -/
def State.axLines (s : State) (a : Nat) : State :=
  let x := s.axis a
  let w := s.axWant a
  let fell := (x.en.isSome && !w.1) || (x.short.isSome && !w.2)
  let lineAt := if fell then some s.frc else x.lineAt
  let from_ := match lineAt with
    | some t => max s.frc (t + 1000)
    | none => s.frc
  let follow (l : Option Nat) (want : Bool) : Option Nat := if want then some (l.getD from_) else none
  s.setAxis a { x with en := follow x.en w.1, short := follow x.short w.2, lineAt }

/-- EN and SHORT as they leave the module: off unless it is in control (R184). -/
def State.axEnOut (s : State) (a : Nat) : Bool :=
  s.inControl && (match (s.axis a).en with
    | some t => decide (t ≤ s.frc)
    | none => false)
def State.axShortOut (s : State) (a : Nat) : Bool :=
  s.inControl && (match (s.axis a).short with
    | some t => decide (t ≤ s.frc)
    | none => false)

/-- STEP and DIR as they leave the module (R164, R184, R241): the rising edges of the present interval, and the level of
DIR, which is high in the negative direction, or in the positive one with DIR_INVERT. Which level stands for which
direction the spec does not say: DESIGN CHOICE, log 199. -/
def State.axStepOut (s : State) (a : Nat) : List Nat := if s.inControl && s.axOn a then (s.axis a).edges else []
def State.axDirOut (s : State) (a : Nat) : Bool := s.inControl && s.axOn a && ((s.axis a).neg != s.axDirInv a)

/-! ### Registers -/

/-- AX_GSTAT. -/
def State.axShowAll (s : State) : State :=
  let mask (p : Nat → Bool) : Nat :=
    ((List.range 8).map (fun a => if s.axOn a && p (s.rd (Reg.AX_STATE_STATE a)) then 2 ^ a else 0)).sum
  let s' := s.wr Reg.AX_GSTAT_FAULT (mask (fun st => st == axFault))
  let s' := s'.wr Reg.AX_GSTAT_MOVING (mask (fun st => st == axSettling || st == axMoving))
  s'.wr Reg.AX_GSTAT_ENABLED (mask (fun st => st != axDisabled))

/-- An axis's position, count, velocity, deviation and HELD_AT_LIMIT, and its lines. -/
def State.axShow (s : State) (a : Nat) : State :=
  let x := s.axis a
  let s := s.wr64 (Reg.AX_POS_LO a) (Reg.AX_POS_HI a) (toBits 64 x.pc)
  let s := s.wr64 (Reg.AX_ENC_LO a) (Reg.AX_ENC_HI a) (toBits 64 (sgn 48 x.count))
  let s := s.wr (Reg.AX_VEL a) (toBits 32 (Int.tdiv x.vel 4294967296))
  let s := s.wr (Reg.AX_DEV a) (toBits 32 (s.axDev a))
  ((s.wrB (Reg.AX_STATE_HELD_AT_LIMIT a) (s.axHeld a)).axLines a).axShowAll

/-- The axis enters a state. -/
def State.axEnter (s : State) (a st : Nat) : State :=
  let s := s.wr (Reg.AX_STATE_STATE a) st
  let x := { s.axis a with since := s.frc }
  s.setAxis a (if st = axSettling then x.capture else x)

/-- The status block for the input latch (R168). -/
def State.axStatus (s : State) (a : Nat) : List Byte :=
  let x := s.axis a
  leBytes 1 (s.rd (Reg.AX_STATE_STATE a)) ++ leBytes 1 (le x.block 1 1) ++ leBytes 1 x.err ++ leBytes 1 0 ++
  leBytes 4 (bits (s.rd (Reg.AX_STATE a)) 8 8) ++ leBytes 8 (toBits 64 x.pc) ++ leBytes 8 (toBits 64 (sgn 48 x.count)) ++
  leBytes 4 (toBits 32 (Int.tdiv x.vel 4294967296)) ++ leBytes 4 (toBits 32 (s.axDev a))

/-! ### Commands take effect (R165 to R167) -/

/-- AXIS_COMMAND_ACCEPT. -/
def State.axAccept (s : State) (a : Nat) (b : List Byte) : State :=
  let flags := le b 2 1
  let fault := s.rd (Reg.AX_STATE_STATE a) == axFault
  let clear := bitAt flags 0 && (fault || s.on (Reg.AX_STATE_STALL a)) && !s.axLost a
  let s := s.setAxis a { s.axis a with block := b, err := 0, stay := false }
  let s :=
    if bitAt flags 1 then
      ((((s.wr (Reg.AX_STATE_LIMIT_PASSED a) 0).wr (Reg.AX_STATE_OVERSHOOT a) 0).wr (Reg.AX_STATE_LIMIT_DECEL a) 0).wr
        (Reg.AX_STATE_TGT_CLIPPED a) 0).wr (Reg.AX_STATE_ENC_ERR a) 0
    else s
  let s :=
    if clear then
      let x := s.axis a
      let x := if s.axRatio a = 0 then x else { x with pos := (x.pc0 + s.axTravel a) * 4294967296 }
      let s := (s.setAxis a x.capture).wr (Reg.AX_STATE_STALL a) 0
      if fault then s.axEnter a axAtRest else s
    else s
  let s :=
    if axMode b = 4 then
      s.setAxis a { s.axis a with pos := axTarget b * 4294967296, plan := none }.capture
    else s
  s.axAim a

/-- A committed block that differs from the block in force, at the step boundary. -/
def State.axTake (s : State) (a : Nat) : State :=
  match (s.axis a).next with
  | none => s
  | some b =>
    let s := s.setAxis a { s.axis a with next := none }
    let err := s.axCheck a b
    if b = (s.axis a).block then s
    else if err = 0 then s.axAccept a b
    else (s.setAxis a { s.axis a with err }).post axSource 0x0707 a err (le b 1 1)

/-- VLIM_APPLY (R174): the staged limits take effect together, or are refused. -/
def State.axVlim (s : State) (a : Nat) : State :=
  let x := s.axis a
  if !x.stageGo then s
  else
    let raw (v : Option Nat) (now : Int) : Int := match v with
      | some n => sgn 64 n
      | none => now
    let lo := raw x.stageLo (s.axLo a)
    let hi := raw x.stageHi (s.axHi a)
    let inRange (v : Int) : Bool := decide (-140737488355327 ≤ v) && decide (v ≤ 140737488355327)
    let s := s.setAxis a { x with stageLo := none, stageHi := none, stageGo := false }
    let s := s.wr (Reg.AX_LIM_CTRL_PENDING a) 0
    if inRange lo && inRange hi && decide (lo < hi) then
      let s := s.wr64 (Reg.AX_VLIM_LO_LO a) (Reg.AX_VLIM_LO_HI a) (toBits 64 lo)
      let s := s.wr64 (Reg.AX_VLIM_HI_LO a) (Reg.AX_VLIM_HI_HI a) (toBits 64 hi)
      (s.wr (Reg.AX_LIM_CTRL_ERR a) 0).axAim a
    else
      (s.wr (Reg.AX_LIM_CTRL_ERR a) 3).post axSource 0x0708 a 3 x.stager

/-! ### A step boundary -/

/-- The state moves on: to rest, or into motion (R177, R182). -/
def State.axProgress (s : State) (a : Nat) : State :=
  let x := s.axis a
  let st := s.rd (Reg.AX_STATE_STATE a)
  let s := if x.still then s.setAxis a { x with pass := false, keep := none } else s
  let needs := s.axNeeds a
  if x.still ∧ axMode x.block = 0 then
    (if st = axDisabled then s else s.axEnter a axDisabled)
  else if st = axMoving then
    if x.still && !needs then s.axEnter a axAtRest else s
  else if st = axSettling then s
  else if needs then
    if st = axDisabled ∨ (st = axParked ∧ s.axStill a ≠ 0) then s.axEnter a axSettling
    else if st = axAtRest ∨ st = axParked then s.axEnter a axMoving
    else s
  else s

/-- STALL (R180): |dev| above DEV_WIN at DEV_TIME consecutive checked boundaries. -/
def State.axStall (s : State) (a : Nat) : State :=
  let x := s.axis a
  let st := s.rd (Reg.AX_STATE_STATE a)
  let checked := s.axRatio a != 0 && !s.axBad a && decide (x.checkAt ≤ s.frc) &&
    (st == axSettling || st == axMoving || st == axAtRest || (st == axParked && s.axStill a == 0))
  if !checked then s
  else
    let dev := s.axDev a
    let win : Int := s.axFld a 0x14 4
    if dev ≤ win ∧ -win ≤ dev then s.setAxis a { x with beyond := 0 }
    else if x.beyond + 1 < s.axFld a 0xE 1 then s.setAxis a { x with beyond := x.beyond + 1 }
    else
      let s := s.setAxis a { x with beyond := 0, vel := 0, acc := 0, plan := none, creep := none, edges := [] }
      let s := (s.wr (Reg.AX_STATE_STALL a) 1).axEnter a axFault
      s.post axSource 0x0701 a (toBits 32 dev) (toBits 32 x.pc)

/-- The coming interval's motion, its step edges and DIR (R169, R171). -/
def State.axAdvance (s : State) (a : Nat) : State :=
  let x := s.axis a
  let st := s.rd (Reg.AX_STATE_STATE a)
  if st = axMoving ∨ (st = axFault ∧ !x.still) then
    let u : Int := 4294967296
    let amax : Int := x.lims.2.1 * u
    let dec : Int := (match x.keep with
      | some k => k.1
      | none => x.lims.2.2.1) * u
    let jerk : Int := (match x.keep with
      | some k => k.2
      | none => x.lims.2.2.2) * u
    let r := s.freeWord.toNat
    let goal := s.axGoal a
    let g := AxMotion.toGoal (x.pos, x.vel, x.acc) x.creep goal x.pass amax dec jerk (bitAt r 0) (bitAt r 1) (bitAt r 2)
    let m := g.1
    -- DIR changes at rest, before a move of at least half a step in the other direction
    let neg := match goal with
      | .pos t _ => if x.still && decide (u ≤ 2 * mag (t - x.pos)) then decide (t < x.pos)
        else if m.1 / u = x.pos / u then x.neg else decide (m.1 < x.pos)
      | .vel _ => if m.1 / u = x.pos / u then x.neg else decide (m.1 < x.pos)
    let turned := neg != x.neg
    let dirAt := if turned then max s.frc (x.fallAt + s.axDirSetup a) else x.dirAt
    let edges := (stepEdges s.frc x.pos m.1).map (fun t => max t (dirAt + s.axDirSetup a))
    let fallAt := match edges.getLast? with
      | some t => t + s.axStepHigh a
      | none => x.fallAt
    (s.setAxis a { x with plan := some m, creep := g.2, neg, dirAt, edges, fallAt }).useFree
  else s.setAxis a { x with plan := none, creep := none, edges := [] }

/-! ### The encoder's condition (R178, R181) -/

/-- An encoder loss: with an encoder configured, an axis that is not DISABLED stops at DMAX and is in FAULT. -/
def State.axLossFault (s : State) (a : Nat) : State :=
  let st := s.rd (Reg.AX_STATE_STATE a)
  if s.axLost a && st != axDisabled && st != axFault then (s.axEnter a axFault).axPlan a else s

/-- The live condition as the axis goes by it. -/
def State.axLossSet (s : State) (a : Nat) (loss : Bool) : State :=
  if loss = s.on (Reg.AX_STATE_ENC_LOSS a) then s
  else
    let s := s.wrB (Reg.AX_STATE_ENC_LOSS a) loss
    if loss && s.axRatio a != 0 then
      (s.post axSource 0x0706 a 2 ((s.axis a).count % 2 ^ 32)).axLossFault a
    else s

/-- One axis at one step boundary, with its encoder count there. -/
def State.axBoundary (s : State) (a count : Nat) : State :=
  if !s.axOn a || (s.axis a).resume then s
  else
    let x := s.axis a
    let x := match x.plan with
      | some (p, v, acc) => { x with pos := p, vel := v, acc, plan := none }
      | none => x
    let s := s.setAxis a { x with count, hist := (count :: x.hist).take 101, lastAt := s.frc }
    let s := (((s.axVlim a).axTake a).axProgress a).axLossFault a
    (((s.axStall a).axProgress a).axAdvance a).axShow a

/-- The step boundary at or after an instant: they follow the base tick (R194). -/
def State.axBoundaryFrom (s : State) (t : Nat) : Nat :=
  let phase := s.scn.lastTick.getD 0 % 10000
  t + (phase + 10000 - t % 10000) % 10000

/-- The step boundary at or after the present FRC that no axis has passed yet. -/
def State.axBoundaryAt (s : State) : Nat :=
  let last := (List.range 8).foldl (fun (m : Nat) a => if s.axOn a then max m ((s.axis a).lastAt + 1) else m) 0
  s.axBoundaryFrom (max s.frc last)

/-- The AXIS_COUNTS frame: which axes are enabled, which have an encoder loss or bad quality, and the counts of the
enabled ones. The layout, and the quality beside the counts, which both Axis Units need in order to compute the same,
are the model's: DESIGN CHOICE, log 199. -/
def State.axCountsBytes (s : State) : List Byte :=
  let mask (p : Nat → Bool) : List Byte := leBytes 1 ((List.range 8).map (fun a => if s.axOn a && p a then 2 ^ a else 0)).sum
  let enabled (a : Nat) : Bool := s.rd (Reg.AX_STATE_STATE a) != axDisabled
  mask enabled ++ mask (fun a => s.on (Reg.AX_STATE_ENC_LOSS a)) ++ mask (fun a => s.axBad a) ++ [0] ++
    (List.range 8).flatMap (fun a => if s.axOn a && enabled a then leBytes 8 (s.axis a).count else [])

/-- STEP_BOUNDARY (R169): each axis takes its encoder's count change since the last boundary. The active module of a
pair sends the counts to its standby, which advances on receiving them (R184). -/
def execStepBoundary (deltas : List Int) (s : State) : Answer :=
  if s.power.running ∧ s.locked then
    let s := { s with frc := s.axBoundaryAt }
    let count (s : State) (a : Nat) : Nat := toBits 48 ((s.axis a).count + (deltas[a]?).getD 0)
    if s.inControl ∧ s.ban.ho.isNone then
      let s := (List.range 8).foldl (fun (s : State) a =>
        if s.axOn a then (s.axLossSet a (s.axis a).loss).axBoundary a (count s a) else s) s
      .next (if s.feeds then s.banSend 0x22 s.axCountsBytes else s)
    else .next s
  else .next s

/-- An axis of the standby at the boundary that a frame of counts is for: by the active module's count, where the frame
holds one, and by its encoder's condition there. -/
def State.axFollow (s : State) (a : Nat) (count : Option (BitVec 48)) (loss bad : Bool) : State :=
  if !s.axOn a then s
  else
    let s := s.setAxis a { s.axis a with badTo := if bad then s.frc + 1 else 0 }
    (s.axLossSet a loss).axBoundary a (match count with
      | some c => c.toNat
      | none => (s.axis a).count)

/-- AXIS_COUNTS (R184): the standby's axes advance to the boundary from the active module's counts. -/
def State.countsTake (s : State) (counts : List (Option (BitVec 48))) (loss bad : BitVec 8) : State :=
  if s.locked ∧ s.role = 3 then
    let s := { s with frc := s.axBoundaryAt }
    (List.range 8).foldl (fun s a =>
      s.axFollow a ((counts[a]?).getD none) (bitAt loss.toNat a) (bitAt bad.toNat a)) s
  else s

/-! ### Other events -/

/-- EN_SETTLE_ELAPSED (R177): profile time begins, EN_SETTLE after EN was asserted. -/
def execEnSettleElapsed (a : Fin 8) (s : State) : Answer :=
  if s.axOn a ∧ s.rd (Reg.AX_STATE_STATE a) = axSettling then
    let x := s.axis a
    let s := { s with frc := max s.frc (max x.since (x.en.getD 0) + s.axEnSettle a) }
    .next ((s.axEnter a axMoving).axShow a)
  else .next s

/-- STILL_DELAY_ELAPSED (R177): STILL_DELAY after the axis entered AT_REST. -/
def execStillDelayElapsed (a : Fin 8) (s : State) : Answer :=
  if s.axOn a ∧ s.rd (Reg.AX_STATE_STATE a) = axAtRest then
    let s := { s with frc := max s.frc ((s.axis a).since + s.axStillDelay a) }
    .next ((s.axEnter a axParked).axShow a)
  else .next s

/-- ENC_ERR (R178): the quality is bad for 1 ms after the transition. On a standby the encoder feeds monitoring only
(R184): the code is recorded, and the axis goes by the active module's counts. -/
def execEncErr (a : Fin 8) (s : State) : Answer :=
  if s.axOn a then
    if s.role = 3 then .next (s.post axSource 0x0706 a 1 ((s.axis a).count % 2 ^ 32))
    else
    let s := s.setAxis a { s.axis a with badTo := s.frc + 1000000 }
    let s := s.wr (Reg.AX_STATE_ENC_ERR a) 1
    .next (s.post axSource 0x0706 a 1 ((s.axis a).count % 2 ^ 32))
  else .next s

/-- ENC_LOSS (R181). The standby's own receiver counts only once the module is in control (R184). -/
def execEncLoss (a : Fin 8) (s : State) : Answer :=
  if s.axOn a ∧ !(s.axis a).loss then
    let s := s.setAxis a { s.axis a with loss := true }
    if s.role = 3 then .next (s.post axSource 0x0706 a 2 ((s.axis a).count % 2 ^ 32))
    else .next ((s.axLossSet a true).axShow a)
  else .next s

/-- ENC_LOSS_CLEAR (R181). -/
def execEncLossClear (a : Fin 8) (s : State) : Answer :=
  if s.axOn a then
    let s := s.setAxis a { s.axis a with loss := false }
    .next (if s.role = 3 then s else s.axLossSet a false)
  else .next s

/-- AXIS_RESUME (R185): at the first step boundary after takeover, from the state of the last boundary whose count
arrived; what was planned from there begins anew. The deviation is not checked for 1 ms. -/
def execAxisResume (a : Fin 8) (s : State) : Answer :=
  let x := s.axis a
  if s.axOn a ∧ x.resume then
    let s := { s with frc := s.axBoundaryFrom s.frc }
    let s := s.setAxis a { x with
      resume := false, checkAt := s.frc + 1000000, plan := none, edges := []
      creep := x.creep.bind (fun c => if c.i ≤ 1 then none else some { c with i := c.i - 1 }) }.capture
    .next ((s.post axSource 0x0709 a ((s.frc - x.lastAt) / 1000) 0).axShow a)
  else .next s

/-! ### Virtual limits (R174) -/

/-- Whether a limit is already staged. -/
def State.axStaged (s : State) (a : Nat) (upper : Bool) : Bool :=
  s.on (Reg.AX_LIM_CTRL_PENDING a) && (if upper then (s.axis a).stageHi else (s.axis a).stageLo).isSome

/-- The pair of registers of a limit. -/
def axVlimLo (a : Nat) (upper : Bool) : Fld := if upper then Reg.AX_VLIM_HI_LO a else Reg.AX_VLIM_LO_LO a
def axVlimHi (a : Nat) (upper : Bool) : Fld := if upper then Reg.AX_VLIM_HI_HI a else Reg.AX_VLIM_LO_HI a

/-- A write of a limit's _LO register. -/
def State.axVlimLoWrite (s : State) (m : Master) (a : Nat) (upper : Bool) (v : Nat) : State :=
  if !s.axOn a || s.notOwn m then s
  else if s.axStaged a upper then s.refuseWrite m (axVlimLo a upper).addr
  else (s.stageLo m (axVlimLo a upper).addr v).mirror m (axVlimLo a upper).addr v

/-- A write of a limit's _HI register. -/
def State.axVlimHiWrite (s : State) (m : Master) (a : Nat) (upper : Bool) (v : Nat) : State :=
  let lo := axVlimLo a upper
  if !s.axOn a || s.notOwn m then s
  else if s.axStaged a upper then s.refuseWrite m (axVlimHi a upper).addr
  else
    let raw := s.stagedLo m lo.addr (s.rd lo) + 2 ^ 32 * v
    let s := (s.unstage m lo.addr).mirror m (axVlimHi a upper).addr v
    let x := s.axis a
    let x := if upper then { x with stageHi := some raw } else { x with stageLo := some raw }
    (s.setAxis a { x with stager := s.asMaster m }).wr (Reg.AX_LIM_CTRL_PENDING a) 1

/-- VLIM_STAGE (R174). -/
def execVlimStage (m : Master) (a : Fin 8) (upper : Bool) (value : Word) (s : State) : Answer :=
  .next (s.access m .w32 true (axVlimHi a upper).addr (fun s => s.axVlimHiWrite m a upper value.toNat))

/-! ### What other units ask -/

/-- A commit of the owning task delivers its axes' command blocks; a safe image, and anything after a power-fail
warning, is a stop at DMAX (R85, R165, R479). -/
def State.axCommit (s : State) (t : Nat) (safe : Bool) (img : List Byte) : State :=
  let safe := safe || s.on Reg.PWR_STAT_PF_WARN
  (List.range 8).foldl (fun s a =>
    if s.axOn a && s.axTask a == t then
      let x := s.axis a
      let b := if safe then [3] ++ slice x.block 1 1 ++ [0] ++ x.block.drop 3 else slice img (s.axCmdOff a) 32
      let go := x.stageLo.isSome || x.stageHi.isSome
      let s := s.setAxis a { x with
        next := if safe && (axMode x.block == 0 || le x.block 4 4 == 0) then none else some b
        stageGo := go }
      s.wake .axes
    else s) s

/-- An AXIS section at lock: DISABLED, with the initial virtual limits. -/
def State.axLock (s : State) : State :=
  ((List.range 8).foldl (fun s a =>
    if s.axOn a then
      let s := s.setAxis a {}
      let s := s.wr64 (Reg.AX_VLIM_LO_LO a) (Reg.AX_VLIM_LO_HI a) (s.axFld a 0x18 8)
      s.wr64 (Reg.AX_VLIM_HI_LO a) (Reg.AX_VLIM_HI_HI a) (s.axFld a 0x20 8)
    else s) s).axShowAll

/-- A takeover: each axis waits for AXIS_RESUME (R185). -/
def State.axTakeover (s : State) : State :=
  (List.range 8).foldl (fun s a => if s.axOn a then s.setAxis a { s.axis a with resume := true } else s) s

/-- Sources of the Loop Engine (R109, R178): the count, the velocity over the last 100 intervals, the commanded
acceleration rounded towards zero. -/
def State.axCountSrc (s : State) (a : Nat) : Int := sgn 48 (s.axis a).count
def State.axVelSrc (s : State) (a : Nat) : Int :=
  let h := (s.axis a).hist
  sgn 48 ((s.axis a).count + 2 ^ 48 - (h[100]?).getD (h.getLast?.getD (s.axis a).count)) * 1000
def State.axAccSrc (s : State) (a : Nat) : Int := Int.tdiv (s.axis a).acc 4294967296

/-- An axis that does not follow a loop's velocity target (R119, R181). -/
def State.axNotFollowing (s : State) (a : Nat) : Bool :=
  let st := s.rd (Reg.AX_STATE_STATE a)
  st == axFault || st == axDisabled || (axMode (s.axis a).block == 2 && s.on (Reg.AX_STATE_HELD_AT_LIMIT a))

end Sys2Proof.Machine
end

