-- ==== Sys2Proof/Machine/Guestbook.lean ====
section
/-!
DEFINITION. The Guestbook: the writer, its rate classes, FULL, clearing and the window (R412 to R425).
-/
namespace Sys2Proof.Machine

/-- Places that records use before the last one (R420). -/
def gbPlaces : Nat := 131071

/-- One of the 32 rate-class records of the GBRATE section in force: DEPTH and REFILL_MS (R417). -/
def State.gbDepth (s : State) (c : Nat) : Nat :=
  if c = 30 then 32 else if c = 31 then 16 else if c = 32 then 256
  else le (s.softPlan 0x8080 0) (8 + 8 * c) 2

/-- The severity of a code under the mapping in force, 0x3 where none (R417). -/
def State.gbSeverity (s : State) (code : Nat) : Nat :=
  if s.on Reg.GB_STAT_PRE_LOCK then 3
  else
    let b := s.softPlan 0x8080 0
    match (List.range (le b 0 2)).find? (fun j => le b (264 + 4 * j) 2 == code) with
    | some j => le b (264 + 4 * j + 3) 1
    | none => 3

/-- Tokens now in a class's bucket; 32 is the built-in class. -/
def State.gbTokens (s : State) (c : Nat) : Nat := if c < 32 then s.rd (Reg.GB_CLASS_TOKENS c) else s.gb.builtin

/-- Set the tokens of a class. -/
def State.setGbTokens (s : State) (c n : Nat) : State :=
  if c < 32 then s.wr (Reg.GB_CLASS_TOKENS c) n else { s with gb := { s.gb with builtin := n } }

/-- REFILL_MS of a class (R417), in ns. -/
def State.gbPeriod (s : State) (c : Nat) : Nat :=
  1000000 * (if c = 30 then 100 else if c = 31 then 1000 else if c = 32 then 10
    else le (s.softPlan 0x8080 0) (8 + 8 * c + 4) 4)

/-- The instant from which a class waits for its next token. -/
def State.setGbGained (s : State) (c at_ : Nat) : State :=
  { s with gb := { s.gb with gained := Assoc.insert s.gb.gained c at_ } }

/-- A class gains the tokens that are due by now (R419). -/
def State.gbGain (s : State) (c : Nat) : State :=
  if s.gbDepth c ≤ s.gbTokens c then s
  else
    let from_ := (Assoc.find? s.gb.gained c).getD 0
    let n := (s.frc - from_) / s.gbPeriod c
    (s.setGbTokens c (min (s.gbTokens c + n) (s.gbDepth c))).setGbGained c (from_ + n * s.gbPeriod c)

/-- A class gives a token; one that falls below DEPTH waits from now on. -/
def State.gbTake (s : State) (c : Nat) : State :=
  let t := s.setGbTokens c (s.gbTokens c - 1)
  if s.gbTokens c < s.gbDepth c then t else t.setGbGained c s.frc

/-- Every bucket starts full (R419). -/
def State.gbFillBuckets (s : State) : State :=
  (List.range 33).foldl (fun s c => s.setGbTokens c (s.gbDepth c)) s

/-- Whether an event merges into a record (R416). -/
def GbRec.merges (r : GbRec) (e : GbEvent) : Bool :=
  !r.anchor && !(r.code == 0x1002 || r.code == 0x1003 || r.code == 0x1004) && !r.repeatClosed &&
  r.code == e.code && r.source == e.source && r.p1 == e.p1 && r.p2 == e.p2 && r.p3 == e.p3 &&
  decide (e.optime < r.optime + 61440)

/-- Count a merge in a record; the 65,535th closes it (R416). -/
def GbRec.merge (r : GbRec) : GbRec :=
  { r with rep := r.rep + 1, repeatClosed := r.rep + 1 == 65535 }

/-- The records after a merge of an event into the last event record, if it merges. The record 0x1003 of a full log
is stepped over (R420). -/
def gbTryMerge (e : GbEvent) : List GbRec → Option (List GbRec)
  | x :: y :: t =>
    if x.code = 0x1003 then (if y.merges e then some (x :: y.merge :: t) else none)
    else if x.merges e then some (x.merge :: y :: t) else none
  | [x] => if x.merges e then some [x.merge] else none
  | [] => none

/-- The record that an event becomes; the writer gives SEQ, IN_CONTROL and SUPPRESSED when it writes it. -/
def State.gbRecOf (s : State) (e : GbEvent) (severity : Nat) (anchor preLock : Bool) : GbRec :=
  { code := e.code, severity, source := e.source, anchor, preLock, suppSat := false, inControl := false
    repeatClosed := false, seq := s.rd Reg.GB_NEXT_SEQ, optime := e.optime, rep := 0, pcycle := e.pcycle
    suppressed := 0, p1 := e.p1, p2 := e.p2, p3 := e.p3 }

/-- An event that needs a new record: it goes to the writer, is lost while FULL, or makes the log FULL and is the
first one lost (R420). -/
def State.gbNeed (s : State) (r : GbRec) : State :=
  if s.on Reg.GB_STAT_FULL then
    (if s.on Reg.GB_FIRST_LOST_CODE then s else s.wr Reg.GB_FIRST_LOST_CODE r.code).bump Reg.GB_LOST
  else if s.rd Reg.GB_COUNT_COUNT < gbPlaces then { s with gb := { s.gb with writing := some r } }
  else
    let s := ((s.wr Reg.GB_STAT_FULL 1).wr Reg.GB_FIRST_LOST_CODE r.code).bump Reg.GB_LOST
    let full := { r with code := 0x1003, severity := 3, source := Un.gb, anchor := false
                         p1 := r.code, p2 := r.p1, p3 := 131072 }
    { s with gb := { s.gb with writing := some full } }

/-- An event's rate check (R418). -/
def State.gbRate (s : State) (e : GbEvent) : State :=
  let c := s.gbClass e.code
  let s := s.gbGain c
  if 0 < s.gbTokens c then
    (s.gbTake c).gbNeed (s.gbRecOf e (s.gbSeverity e.code) false (c == 32))
  else s.gbSuppress e.code

/-- GB_EVENT (R414, R416, R418): the writer, when it is free, takes the oldest time anchor, else the oldest queued
event. -/
def execGbEvent (s : State) : Answer :=
  if s.gb.writing.isSome || s.gb.clearing.isSome then .next s
  else
    match s.gb.anchors, s.gb.queue with
    | e :: t, _ =>
      .next ({ s with gb := { s.gb with anchors := t, writeAt := e.at_ } }.gbNeed (s.gbRecOf e 0 true false))
    | [], e :: t =>
      let s := { s with gb := { s.gb with queue := t, writeAt := e.at_ } }
      match gbTryMerge e s.gb.records with
      | some l => .next { s with gb := { s.gb with records := l } }
      | none => .next (s.gbRate e)
    | [], [] => .next s

/-- The writer's counter passes a SEQ; when it would reach 0xFFFF_FFFF the log is FULL for good (R413). -/
def State.gbAdvance (s : State) : State :=
  let n := s.rd Reg.GB_NEXT_SEQ
  let s := s.wr Reg.GB_NEXT_SEQ (n + 1)
  if n + 1 ≥ 0xFFFFFFFF then (s.wr Reg.GB_STAT_FULL 1).wr Reg.GB_STAT_SEQ_END 1 else s

/-- Write one record: SEQ first, then the record, with the suppressed events of its code (R412, R413, R418). -/
def State.gbWrite (s : State) (r : GbRec) : State :=
  if s.on Reg.GB_STAT_SEQ_END then
    let s := if s.on Reg.GB_FIRST_LOST_CODE then s else s.wr Reg.GB_FIRST_LOST_CODE r.code
    s.bump Reg.GB_LOST
  else
    let seq := s.rd Reg.GB_NEXT_SEQ
    let pend := (Assoc.find? s.gb.pend r.code).getD 0
    let r := { r with seq, inControl := s.inControl, suppressed := min pend 255, suppSat := decide (255 < pend) }
    let s := s.gbAdvance
    let s := if s.rd Reg.GB_COUNT_COUNT = 0 then s.wr Reg.GB_FIRST_SEQ seq else s
    let s := s.wr Reg.GB_COUNT_COUNT (s.rd Reg.GB_COUNT_COUNT + 1)
    { s with gb := { s.gb with records := r :: s.gb.records, pend := Assoc.erase s.gb.pend r.code } }

/-- GB_RECORD_WRITE (R413, R424): no earlier than 3 µs after its event. A record cut short by power loss leaves its place and uses up its SEQ. -/
def execGbRecordWrite (cut : Bool) (s : State) : Answer :=
  match s.gb.writing with
  | none => .next s
  | some r =>
    let s := { s with frc := max s.frc (s.gb.writeAt + 3000), gb := { s.gb with writing := none } }
    .next (if cut then s.gbAdvance else s.gbWrite r)

/-- GB_TOKEN_REFILL (R419): a bucket below DEPTH gains its next token, REFILL_MS after the one before. -/
def execGbTokenRefill (cls : Fin 33) (s : State) : Answer :=
  if s.gbTokens cls < s.gbDepth cls then
    let due := (Assoc.find? s.gb.gained cls).getD 0 + s.gbPeriod cls
    .next (({ s with frc := max s.frc due } : State).gbGain cls)
  else .next s

/-- An accepted clear (R421): a record on its way is finished, then the log is empty. -/
def State.gbEmpty (s : State) : State :=
  let s := match s.gb.writing with
    | some r => { s with gb := { s.gb with writing := none } }.gbWrite r
    | none => s
  let last := match s.gb.records with
    | x :: _ => x.seq
    | [] => 0
  let old := (s.rd Reg.GB_LOST, s.rd Reg.GB_FIRST_LOST_CODE, last)
  let s := ((s.wr Reg.GB_COUNT_COUNT 0).wr Reg.GB_LOST 0).wr Reg.GB_FIRST_LOST_CODE 0
  let s := if s.on Reg.GB_STAT_SEQ_END then s else s.wr Reg.GB_STAT_FULL 0
  { s with gb := { s.gb with records := [], clearing := some old } }

/-- The CLEAR command (R421, R516): refused while not permitted, or while a clear runs. -/
def State.gbClearCmd (s : State) : State :=
  if !s.on Reg.SCN_STAT_FORCE_PERMIT then s.cmdStat Reg.GB_CMD_STAT_STATUS Reg.GB_CMD_STAT_REASON 1
  else if s.gb.clearing.isSome then s.cmdStat Reg.GB_CMD_STAT_STATUS Reg.GB_CMD_STAT_REASON 2
  else (s.cmdStat Reg.GB_CMD_STAT_STATUS Reg.GB_CMD_STAT_REASON 0).gbEmpty

/-- A write of GB_CMD: KEY 0xA5, CMD 1 CLEAR, other values ignored. -/
def State.gbCmdWrite (s : State) (value : Nat) : State :=
  if bits value 24 8 = 0xA5 ∧ bits value 0 4 = 1 then s.gbClearCmd else s

/-- GB_CLEAR (R421). -/
def execGbClear (m : Master) (s : State) : Answer :=
  .next (s.access m .w32 true Reg.GB_CMD.addr (fun s => s.gbCmdWrite 0xA5000001))

/-- GB_CLEAR_COMPLETE (R421): 0x1002 is the first record of the new log, and a time anchor with cause 3 follows. -/
def execGbClearComplete (s : State) : Answer :=
  match s.gb.clearing with
  | none => .next s
  | some (lost, first, last) =>
    let e : GbEvent := { code := 0x1002, source := Un.gb, p1 := lost, p2 := first, p3 := last, at_ := s.frc
                         optime := s.opTime, pcycle := s.rd Reg.PTR_PCYCLE }
    let s := { s with gb := { s.gb with clearing := none } }
    let s := s.gbWrite (s.gbRecOf e 2 false false)
    .next (s.gbWrite (s.gbRecOf (s.anchorEvent 3) 0 true false))

/-- A write of GB_CURSOR sets the accessing master's window (R422). -/
def State.gbCursorWrite (s : State) (m : Master) (value : Nat) : State :=
  { s with gb := { s.gb with cursors := Tab.put s.gb.cursors (masterId m) (BitVec.ofNat 32 value) } }

/-- GB_CURSOR_WRITE (R422). -/
def execGbCursorWrite (m : Master) (value : Word) (s : State) : Answer :=
  .next (s.access m .w32 true Reg.GB_CURSOR.addr (fun s => s.gbCursorWrite m value.toNat))

/-- Word `w` of a record (R412). -/
def GbRec.word (r : GbRec) (w : Nat) : Nat :=
  match w with
  | 0 => r.code * 2 ^ 16 + r.severity * 2 ^ 12 + r.source * 2 ^ 6 + b2n r.repeatClosed * 16 + b2n r.inControl * 8 +
      b2n r.suppSat * 4 + b2n r.preLock * 2 + b2n r.anchor
  | 1 => r.seq
  | 2 => r.optime % 2 ^ 32
  | 3 => bits r.optime 32 16 * 2 ^ 16 + r.rep
  | 4 => r.pcycle % 2 ^ 24 * 2 ^ 8 + r.suppressed
  | 5 => r.p1
  | 6 => r.p2
  | 7 => r.p3
  | _ => 0

/-- What window slot `r` shows a master (R422). -/
def State.gbWindow (s : State) (m : Master) (r w : Nat) : Nat :=
  let seq := ((Tab.get s.gb.cursors (masterId m)).toNat + r) % 2 ^ 32
  match s.gb.records.find? (fun x => x.seq == seq) with
  | some x => x.word w
  | none => 0

end Sys2Proof.Machine
end

