-- ==== Sys2Proof/Machine/Comm.lean ====
section
/-!
DEFINITION. What the CAN FD, Ethernet and serial channels share: queue heads and completions as the communication
cores use them (R344, R345, R359, R360, R380, R381).
-/
namespace Sys2Proof.Machine

/-- The index of a transmit queue's head entry: the oldest that is not completed. -/
def State.txHead (s : State) (q : Nat) : Nat := if s.queRound q then s.queDi q else s.queCi q

/-- Entries posted to a transmit queue and not completed. -/
def State.txCount (s : State) (q : Nat) : Nat := idxDiff (s.quePi q) (s.txHead q)

/-- The bytes of the head entry. -/
def State.txEntry (s : State) (q : Nat) : List Byte := s.bytes (s.entryAddr q (s.txHead q)) (2 ^ s.queEsize q)

/-- Write the completion area of the head entry and return the entry. -/
def State.txDone (s : State) (q off : Nat) (done : List Byte) : State :=
  let s := { s with heads := Assoc.insert s.heads q s.frc }.setBytes (s.entryAddr q (s.txHead q) + off) done
  if s.queRound q then s.queDiSet q ((s.queDi q + 1) % 2 ^ 32)
  else s.wr (Reg.QUE_CI q) ((s.queCi q + 1) % 2 ^ 32)

/-- Whether a transmit queue of the plan has a head entry. -/
def State.txReady (s : State) (q : Nat) : Bool := decide (q < 64) && s.queUsed q && decide (0 < s.txCount q)

/-- The transmit side works only on a module in control that is neither handing over nor shutting down (R212, R217, R362, R479). -/
def State.mayStart (s : State) : Bool := s.inControl && s.ban.ho.isNone && !s.on Reg.PWR_STAT_PF_WARN

/-- A port starts an entry 2 µs after its post, or after the completion of the entry before it (R353, R375, R391). -/
def State.headWait (s : State) (q : Nat) : State :=
  { s with frc := max s.frc ((Assoc.find? s.heads q).getD 0 + 2000) }

/-- A part of a number of bytes that were being sent: how many left before the end is free. -/
def State.freeSent (s : State) (n : Nat) : Nat := s.freeWord.toNat % (n + 1)

/-- The counts of a receive queue. -/
def State.rxCount (s : State) (q : Nat) : RxCount := (Assoc.find? s.rx q).getD {}

/-- Replace the counts of a receive queue. -/
def State.setRxCount (s : State) (q : Nat) (c : RxCount) : State := { s with rx := Assoc.insert s.rx q c }

/-- Class-1 time as the 64-bit stamp of an entry. -/
def State.stamp (s : State) : Nat := toBits 64 s.t1

/-- Bytes padded with zeros to a length. -/
def padTo (n : Nat) (bs : List Byte) : List Byte := (bs ++ List.replicate n 0).take n

/-! ### Ethernet ports: what every sender shares (R355, R360) -/

/-- What is behind a port's registers. -/
def State.ethPort (s : State) (p : Nat) : EthPort := (Assoc.find? s.eth p).getD {}

/-- Replace it. -/
def State.setEthPort (s : State) (p : Nat) (x : EthPort) : State := { s with eth := Assoc.insert s.eth p x }

/-- A port is past its join point (R490). -/
def State.ethJoined (s : State) (p : Nat) : Bool := bitAt (s.rd Reg.ETH_STAT_JOINED) p

/-- A port's link is up. -/
def State.ethLink (s : State) (p : Nat) : Bool := bitAt (s.rd Reg.ETH_STAT_LINK) p

/-- The module's own address of a port. -/
def State.ownMac (s : State) (p : Nat) : List Byte := s.ident.macs.getD p []

/-- The station address of a plant port (R357). -/
def State.stationMac (s : State) (p : Nat) : List Byte :=
  [0x02, BitVec.ofNat 8 (0x50 + p)] ++ (leBytes 4 s.station).reverse

/-- The head of a frame of the port's own: the two addresses, and the port's tag where VID is not 0 (R357). DESIGN CHOICE
(log 223): so of a Twin-Gallery frame too, which R273 calls untagged. -/
def State.ethHead (s : State) (p : Nat) (dst src : List Byte) : List Byte :=
  let v := s.ethVid p
  dst ++ src ++ (if v % 4096 = 0 then [] else [0x81, 0x00] ++ (leBytes 2 v).reverse)

/-- A frame of a class above the transmit queue's is handed to a port that may send it: it leaves at once, or after the
frame that is being sent, Twin-Gallery before heartbeat (R360). -/
def State.ethHand (s : State) (p cls : Nat) (frame : List Byte) : State :=
  let x := s.ethPort p
  if !(s.ethOn p && s.ethJoined p && s.ethLink p) then s
  else if x.flight.isNone then s.setEthPort p { x with sent := [frame] }
  else
    s.setEthPort p { x with
      held := x.held.filter (fun h => decide (h.1 ≤ cls)) ++ [(cls, frame)] ++ x.held.filter (fun h => decide (cls < h.1)) }

end Sys2Proof.Machine
end

