-- ==== Sys2Proof/Machine/Can.lean ====
section
/-!
DEFINITION. CAN FD channels (R335 to R354).
-/
namespace Sys2Proof.Machine

/-- The states of CAN_STAT.STATE. -/
def canOff : Nat := 0
def canJoining : Nat := 1
def canActive : Nat := 2
def canListen : Nat := 3
def canMonitor : Nat := 4
def canBusOff : Nat := 5
def canRecovering : Nat := 6

/-- What is behind a channel's registers. -/
def State.canCh (s : State) (c : Nat) : CanChan := (Assoc.find? s.can c).getD {}

/-- Replace it. -/
def State.setCanCh (s : State) (c : Nat) (x : CanChan) : State := { s with can := Assoc.insert s.can c x }

/-- A channel's state. -/
def State.canState (s : State) (c : Nat) : Nat := s.rd (Reg.CAN_STAT_STATE c)

/-- Enter a state; CAN_GSTAT follows. -/
def State.setCanState (s : State) (c st : Nat) : State :=
  let s := s.wr (Reg.CAN_STAT_STATE c) st
  let s := s.wr Reg.CAN_GSTAT_ACTIVE (putBit (s.rd Reg.CAN_GSTAT_ACTIVE) c (st == canActive))
  s.wr Reg.CAN_GSTAT_BUS_OFF (putBit (s.rd Reg.CAN_GSTAT_BUS_OFF) c (st == canBusOff || st == canRecovering))

/-! ### Bit timing (R337) -/

/-- The smallest prescaler up to a bound for which the rate gives a whole number of quanta within limits: the
prescaler and the quanta. -/
def canPrescale (rate maxP lo hi : Nat) : Option (Nat × Nat) :=
  ((List.range maxP).find? (fun j =>
    80000 % ((j + 1) * rate) == 0 && decide (lo ≤ 80000 / ((j + 1) * rate)) && decide (80000 / ((j + 1) * rate) ≤ hi))).map
    (fun j => (j + 1, 80000 / ((j + 1) * rate)))

/-- TSEG1 of n quanta at a sample point in per cent, halves rounded upward. -/
def canTseg1 (n sp : Nat) : Nat := (n * sp + 50) / 100 - 1

/-- CAN_NBT and CAN_DBT of a channel at lock. -/
def State.canTiming (s : State) (c : Nat) : State :=
  let s := match canPrescale (s.canNrate c) 32 8 256 with
    | some (p, n) =>
      let t1 := canTseg1 n (s.canNsp c)
      (((s.wr (Reg.CAN_NBT_BRP c) p).wr (Reg.CAN_NBT_TSEG1 c) t1).wr (Reg.CAN_NBT_TSEG2 c) (n - 1 - t1)).wr
        (Reg.CAN_NBT_SJW c) (n - 1 - t1)
    | none => s
  if s.canBrs c then
    match canPrescale (s.canDrate c) 8 5 49 with
    | some (p, n) =>
      let t1 := canTseg1 n (s.canDsp c)
      ((((s.wr (Reg.CAN_DBT_BRP c) p).wr (Reg.CAN_DBT_TSEG1 c) t1).wr (Reg.CAN_DBT_TSEG2 c) (n - 1 - t1)).wr
        (Reg.CAN_DBT_SJW c) (n - 1 - t1)).wr (Reg.CAN_DBT_TDCO c) (p * (1 + t1))
    | none => s
  else s

/-- A channel at lock (R339, R490): joining, listen-only, or monitoring where the module is not in control. -/
def State.canLock (s : State) (c : Nat) : State :=
  let s := s.setCanCh c { lockAt := s.frc }
  if s.canMode c = 0 then s.setCanState c canOff
  else
    let s := s.canTiming c
    if !s.inControl then s.setCanState c canMonitor
    else if s.canMode c = 2 then s.setCanState c canListen
    else s.setCanState c canJoining

/-- A channel of a module that gives up control enters MONITOR (R339). -/
def State.canToMonitor (s : State) (c : Nat) : State :=
  if s.canState c = canOff then s else s.setCanState c canMonitor

/-- A channel at the takeover instant leaves MONITOR (R339). -/
def State.canAtK (s : State) (c : Nat) : State :=
  if s.canState c = canMonitor then
    if s.canMode c = 2 then s.setCanState c canListen
    else (s.setCanCh c { s.canCh c with atK := true }).setCanState c canJoining
  else s

/-! ### Reception -/

/-- What a filter register holds for a frame that starts now: a write acts 2 µs later (R341). -/
def State.fltWord (s : State) (c a : Nat) : Nat :=
  match (s.canCh c).fltOld.find? (fun w => w.addr == a && decide (s.frc < w.at_ + 2000)) with
  | some w => w.old
  | none => s.fileAt a

/-- Whether a frame matches a filter (R340). -/
def State.fltMatch (s : State) (c f : Nat) (x : CanFrame) : Bool :=
  let idw := s.fltWord c (Reg.CAN_FLT_ID c f).addr
  let mask := s.fltWord c (Reg.CAN_FLT_MASK c f).addr
  let w := if x.ide then 29 else 11
  bitAt idw 31 && (bitAt idw 30 == x.ide) && (((x.id.toNat ^^^ idw) &&& mask) % 2 ^ w == 0)

/-- The lowest filter in a range that a frame matches. -/
def State.fltFirst (s : State) (c lo n : Nat) (x : CanFrame) : Option Nat :=
  ((List.range n).map (· + lo)).find? (fun f => s.fltMatch c f x)

/-- A receive entry (R343). -/
def canRxEntry (x : CanFrame) (filter stamp seq lost : Nat) : List Byte :=
  leBytes 1 (b2n x.ide + b2n x.fdf * 2 + b2n x.brs * 4 + b2n x.rtr * 8 + b2n x.esi * 16) ++ leBytes 1 filter ++
  leBytes 2 x.len ++ leBytes 4 x.id.toNat ++ leBytes 8 stamp ++
  padTo 64 (if x.rtr then [] else x.data.take x.len) ++ leBytes 4 seq ++ leBytes 2 lost ++ List.replicate 42 0

/-- Write an entry into a slot of the high-priority buffer. -/
def State.canHpSlotSet (s : State) (c slot : Nat) (e : List Byte) : State :=
  (List.range 32).foldl (fun s w => s.wr (Reg.CAN_HP_SLOT c slot w) (le e (4 * w) 4)) s

/-- Enter an entry into the high-priority buffer (R342). -/
def State.canHpPush (s : State) (c : Nat) (e : List Byte) : State :=
  let n := s.rd (Reg.CAN_HP_STAT_COUNT c)
  let s := s.canHpSlotSet c ((s.rd (Reg.CAN_HP_STAT_HEAD c) + n) % 4) e
  (s.wr (Reg.CAN_HP_STAT_COUNT c) (n + 1)).wr (Reg.CAN_STAT_HP_PEND c) 1

/-- Release the high-priority entries that waited for an agreement (R198, R342): those that a MIRROR_ACK covers. DESIGN
CHOICE (log 200): on a standby all that it holds, since an agreement names no position for them (R196). -/
def State.canHpRelease (s : State) (c : Nat) : State :=
  let x := s.canCh c
  let n := x.hpWait.length - s.unacked 2 c
  (x.hpWait.take n).foldl (fun s e => s.canHpPush c e) (s.setCanCh c { x with hpWait := x.hpWait.drop n })

/-- A frame for the high-priority bank (R340, R342): at once in a single module, through the agreement in a pair. -/
def State.canHpTake (s : State) (c filter : Nat) (x : CanFrame) : State :=
  let k := s.canCh c
  if s.rd (Reg.CAN_HP_STAT_COUNT c) + k.hpWait.length ≥ 4 then
    let s := s.bump (Reg.CAN_HP_STAT_HP_LOST c)
    s.post Un.can 0x0C05 c x.id.toNat (s.rd (Reg.CAN_HP_STAT_HP_LOST c))
  else
    let e := canRxEntry x filter s.stamp (k.frames + 1) 0
    let s := s.setCanCh c { k with frames := k.frames + 1 }
    if s.role = 2 then
      (s.setCanCh c { s.canCh c with hpWait := (s.canCh c).hpWait ++ [e] }).rxMirror 2 c (k.frames + 1) e
    else (s.canHpPush c e).rxMirror 2 c (k.frames + 1) e

/-- A frame for RXQ (R340, R344): lost where the queue has no entry free. The count of a run of losses is recorded
when the run ends. -/
def State.canRxTake (s : State) (c filter : Nat) (x : CanFrame) : State :=
  let k := s.canCh c
  let q := s.canRxq c
  if s.queRoom q then
    let e := canRxEntry x filter s.stamp (k.frames + 1) (min k.lost 65535)
    let s := if k.lost = 0 then s else s.post Un.can 0x0C04 c k.lost q
    (s.setCanCh c { k with frames := k.frames + 1, lost := 0 }).quePush q e
  else (s.setCanCh c { k with lost := k.lost + 1 }).bump (Reg.CAN_LOST_RX_LOST c)

/-- A good frame lowers the receive error counter (ISO 11898-1). -/
def State.canRecGood (s : State) (c : Nat) : State :=
  let r := s.rd (Reg.CAN_ERRCNT_REC c)
  s.wr (Reg.CAN_ERRCNT_REC c) (if 127 < r then 127 else r - 1)

/-- Error active or passive, from the counters. -/
def State.canErrState (s : State) (c : Nat) : State :=
  if s.rd (Reg.CAN_STAT_ERR_STATE c) = 2 then s
  else
    let p := decide (128 ≤ s.rd (Reg.CAN_ERRCNT_TEC c)) || decide (128 ≤ s.rd (Reg.CAN_ERRCNT_REC c))
    let was := s.rd (Reg.CAN_STAT_ERR_STATE c) = 1
    let s := s.wrB (Reg.CAN_STAT_ERR_STATE c) p
    if p && !was then
      s.post Un.can 0x0C03 c (s.rd (Reg.CAN_ERRCNT_TEC c)) (s.rd (Reg.CAN_ERRCNT_REC c))
    else s

/-- CAN_FRAME_RECEIVE (R340, R344). The channel of a module that is not in control monitors only (R339, R352). -/
def execCanFrameReceive (c : Fin 8) (x : CanFrame) (s : State) : Answer :=
  let st := s.canState c
  if st = canOff ∨ st = canBusOff ∨ st = canRecovering then .next s
  else
    let s := s.wake (.can c)
    let s := if st = canJoining then s.setCanCh c { s.canCh c with seen := (s.canCh c).seen + 1 } else s
    let s := if st = canActive then (s.canRecGood c).canErrState c else s
    match s.fltFirst c 0 4 x with
    | some f => .next (if s.leads then s.canHpTake c f x else s)
    | none =>
      match s.fltFirst c 4 60 x with
      | some f => .next (if s.leads then s.canRxTake c f x
        else if s.follows then s.rxHold (s.canRxq c) (canRxEntry x f s.stamp 0 0) else s)
      | none => .next (s.bump (Reg.CAN_LOST_FILT_MISS c))

/-- A write of CAN_HP_ACK with ACK = 1 releases the oldest entry (R342). -/
def State.canHpAck (s : State) (c value : Nat) : State :=
  let n := s.rd (Reg.CAN_HP_STAT_COUNT c)
  if value % 2 = 1 ∧ 0 < n then
    let s := s.wr (Reg.CAN_HP_STAT_HEAD c) ((s.rd (Reg.CAN_HP_STAT_HEAD c) + 1) % 4)
    (s.wr (Reg.CAN_HP_STAT_COUNT c) (n - 1)).wrB (Reg.CAN_STAT_HP_PEND c) (1 < n)
  else s

/-- CAN_HP_ACK (R342). -/
def execCanHpAck (m : Master) (c : Fin 8) (value : Word) (s : State) : Answer :=
  .next (s.access m .w32 true (Reg.CAN_HP_ACK c).addr (fun s => s.canHpAck c value.toNat))

/-- The high-priority interrupt source 0x40 + channel (R342). -/
def State.canIrq (s : State) (c core : Nat) : Bool :=
  s.on (Reg.CAN_STAT_HP_PEND c) && le (s.canRec c) 0xF 1 % 4 + 1 == core

/-- A write of a filter register (R341): ignored on the standby unless the Banister agent mirrors it, and on a
channel that is off. -/
def State.canFilterWrite (s : State) (m : Master) (c f : Nat) (which : CanFlt) (value : Nat) : State :=
  if s.canRec c = [] ∨ (!s.inControl ∧ m ≠ .banister) then s
  else
    let fld := match which with
      | .id => Reg.CAN_FLT_ID c f
      | .mask => Reg.CAN_FLT_MASK c f
    let mask := match which with
      | .id => 0xDFFFFFFF
      | .mask => 0x1FFFFFFF
    let k := s.canCh c
    let young := k.fltOld.filter (fun w => decide (s.frc < w.at_ + 2000))
    let s := s.setCanCh c { k with fltOld := young ++ [{ addr := fld.addr, old := s.fileAt fld.addr, at_ := s.frc }] }
    let s := s.mirror m fld.addr value
    (s.wrMasked fld.addr mask value).post Un.can 0x0C08 c f (s.asMaster m)

/-- CAN_FILTER_WRITE (R341). -/
def execCanFilterWrite (m : Master) (c : Fin 8) (f : Fin 64) (which : CanFlt) (value : Word) (s : State) : Answer :=
  let a := match which with
    | .id => (Reg.CAN_FLT_ID c f).addr
    | .mask => (Reg.CAN_FLT_MASK c f).addr
  .next (s.access m .w32 true a (fun s => s.canFilterWrite m c f which value.toNat))

/-! ### Transmission -/

/-- The DLC code of a data length, raised to the next DLC size (R345). -/
def canDlc (len : Nat) : Nat :=
  if len ≤ 8 then len else if len ≤ 12 then 9 else if len ≤ 16 then 10 else if len ≤ 20 then 11
  else if len ≤ 24 then 12 else if len ≤ 32 then 13 else if len ≤ 48 then 14 else 15

/-- The data bytes of a DLC code. -/
def canDlcSize (dlc : Nat) : Nat :=
  if dlc ≤ 8 then dlc else [12, 16, 20, 24, 32, 48, 64].getD (dlc - 9) 64

/-- The queue number of a transmit queue of a channel, 0xFF where there is none. -/
def State.canQueueNo (s : State) (c : Nat) : CanQueue → Nat
  | .event => s.canEvq c
  | .tt n => if n.val < s.canTtqCount c then s.canTtqBase c + n.val else 0xFF

/-- The check of a transmit entry at its queue head (R346): the DETAIL of a refusal, or 0. -/
def State.canCheck (s : State) (c : Nat) (e : List Byte) : Nat :=
  let fmt := le e 0 1
  let len := le e 2 2
  let id := le e 4 4
  if 64 < len ∨ (8 < len ∧ (!bitAt fmt 1 || bitAt fmt 3)) then 0x01
  else if 32 ≤ fmt ∨ le e 1 1 ≠ 0 ∨ le e 0xC 4 ≠ 0 ∨ (bitAt fmt 1 && !s.canFd c) ∨
      (bitAt fmt 2 && (!bitAt fmt 1 || !s.canBrs c)) ∨ (bitAt fmt 3 && bitAt fmt 1) ∨
      (if bitAt fmt 0 then 2 ^ 29 ≤ id else 2 ^ 11 ≤ id) then 0x02
  else 0

/-- The completion area of a transmit entry (R345). -/
def canDone (status detail dlc attempts sent stamp : Nat) : List Byte :=
  leBytes 1 status ++ leBytes 1 detail ++ leBytes 1 dlc ++ leBytes 1 (min attempts 255) ++ leBytes 2 sent ++
  [0, 0] ++ leBytes 8 stamp ++ List.replicate 16 0

/-- The DLC code and the data bytes of a transmit entry (R345): none for a remote frame. -/
def canSize (e : List Byte) : Nat × Nat :=
  if bitAt (le e 0 1) 3 then (le e 2 2, 0) else (canDlc (le e 2 2), canDlcSize (canDlc (le e 2 2)))

/-- Complete the head entry of a queue. Of one that met its end on the wire, other than by losing arbitration, any part of
the data may have gone: how much is free. -/
def State.canComplete (s : State) (q status detail attempts stamp : Nat) : State :=
  let d := canSize (s.txEntry q)
  let part : Bool := attempts != 0 && (status == Sta.busError || status == Sta.outcomeUnknown)
  let sent := if status = Sta.ok then d.2 else if part then s.freeSent d.2 else 0
  let s := if part then s.useFree else s
  s.txDone q 0x60 (canDone status detail (if attempts = 0 then 0 else d.1) attempts sent stamp)

/-- A refused entry completes without being sent and does not block its queue (R346). -/
def State.canRefuse (s : State) (c q detail : Nat) : State :=
  let tag := le (s.txEntry q) 8 4
  (s.canComplete q Sta.lenInvalid detail 0 0).post Un.can 0x0C06 (c + q * 2 ^ 8) detail tag

/-- The channel may start a frame. -/
def State.canMaySend (s : State) (c : Nat) : Bool :=
  s.canState c == canActive && s.mayStart && (s.canCh c).flight.isNone

/-- The worst-case duration of an entry's frame in ns (R350). PRESUMED (log 222): the fields, stuff bits and 3-bit
intermission of ISO 11898-1; in an FD frame the delimiter of the CRC and the acknowledge slot at two bits each, and the
fixed stuff bits of the CRC field. -/
def State.canWorst (s : State) (c : Nat) (e : List Byte) : Nat :=
  let fmt := le e 0 1
  let n := (canSize e).2
  let nom (bits : Nat) := (bits * 1000000 + s.canNrate c - 1) / s.canNrate c
  let dat (bits : Nat) := if bitAt fmt 2 then (bits * 1000000 + s.canDrate c - 1) / s.canDrate c else nom bits
  if bitAt fmt 1 then
    let arb := if bitAt fmt 0 then 36 else 17
    let dyn := (arb - 1) / 4
    let crc := if n ≤ 16 then 4 + 17 + 6 else 4 + 21 + 7
    nom (arb + dyn + 15) + dat (5 + 8 * n + ((arb + 4 + 8 * n) / 4 - dyn) + crc)
  else
    let g := (if bitAt fmt 0 then 54 else 34) + 8 * n
    nom (g + 13 + (g - 1) / 4)

/-! ### The instants of the time-triggered schedule (R349) -/

/-- The length of a channel's matrix in ns. -/
def State.canTotal (s : State) (c : Nat) : Nat := le (s.canSched c) 0 4 * le (s.canSched c) 4 1

/-- START of a window from the matrix start. -/
def State.canStart (s : State) (c basic win : Nat) : Nat :=
  basic * le (s.canSched c) 0 4 + le (s.canWindow c basic win) 0 4

/-- Class-1 time from the last occurrence of an instant of the matrix until now. -/
def State.canSince (s : State) (c ofs : Nat) : Nat :=
  ((s.t1 - (le (s.canSched c) 8 4 + ofs : Nat)) % (s.canTotal c : Int)).toNat

/-- Class-1 time from now until its next occurrence in a schedule that runs, or runs from the next matrix start. -/
def State.canUntil (s : State) (c ofs : Nat) : Nat :=
  let gap (o : Nat) : Nat := if s.canSince c o = 0 then 0 else s.canTotal c - s.canSince c o
  if s.on (Reg.CAN_STAT_TT_RUN c) then gap ofs else gap 0 + ofs

/-- A channel's used windows of a kind: basic cycle and window. -/
def State.canWindows (s : State) (c kind : Nat) : List (Nat × Nat) :=
  (List.range (le (s.canSched c) 4 1)).flatMap (fun b =>
    ((List.range 64).filter (fun w => le (s.canWindow c b w) 6 1 == kind)).map (fun w => (b, w)))

/-- Whether an event frame may start (R351): it ends before the next exclusive window. DEDUCED (log 222): and none starts
inside such a window, since event frames contend in arbitrating ones. -/
def State.canEventFits (s : State) (c : Nat) (e : List Byte) : Bool :=
  !(s.canTt c && s.on Reg.TIM_STAT_C1_VALID) ||
    (s.canWindows c 1).all (fun bw =>
      let ofs := s.canStart c bw.1 bw.2
      decide (s.canWorst c e < s.canUntil c ofs) &&
        !(s.on (Reg.CAN_STAT_TT_RUN c) && decide (s.canSince c ofs < 1000 * le (s.canWindow c bw.1 bw.2) 4 2)))

/-- The head entry of a queue starts on the bus. -/
def State.canLaunch (s : State) (c q : Nat) (window : Bool) : State :=
  let k := s.canCh c
  let tries := match Assoc.find? k.tried q with
    | some x => x.1
    | none => 0
  s.setCanCh c { k with
    tried := Assoc.erase k.tried q, flight := some { queue := q, stamp := s.stamp, attempts := tries + 1, window } }

/-- CAN_TX_START (R345, R346, R351, R353): the head entry is checked; an event entry then starts on the bus, a
time-triggered one waits for its window. -/
def execCanTxStart (c : Fin 8) (which : CanQueue) (s : State) : Answer :=
  let q := s.canQueueNo c which
  if s.canMaySend c && s.txReady q then
    let s := s.headWait q
    let d := s.canCheck c (s.txEntry q)
    if d ≠ 0 then .next (s.canRefuse c q d)
    else
      match which with
      | .event => .next (if s.canEventFits c (s.txEntry q) then s.canLaunch c q false else s)
      | .tt _ => .next s
  else .next s

/-- CAN_TX_COMPLETE (R346, R350): an entry without ONE_SHOT is tried again, a window's entry at its next window. -/
def execCanTxComplete (c : Fin 8) (how : CanEnd) (s : State) : Answer :=
  match (s.canCh c).flight with
  | none => .next s
  | some f =>
    let oneShot := bitAt (le (s.txEntry f.queue) 0 1) 4
    let k := s.canCh c
    let idle := s.setCanCh c { k with flight := none }
    let waits := s.setCanCh c { k with flight := none, tried := Assoc.insert k.tried f.queue (f.attempts, f.stamp) }
    let again := if f.window || !waits.canEventFits c (s.txEntry f.queue) then waits else waits.canLaunch c f.queue false
    match how with
    | .acked =>
      let t := idle.wr (Reg.CAN_ERRCNT_TEC c) (idle.rd (Reg.CAN_ERRCNT_TEC c) - 1)
      .next ((t.canErrState c).canComplete f.queue Sta.ok 0 f.attempts f.stamp)
    | .lostArb =>
      if oneShot then .next (idle.canComplete f.queue Sta.lostArb 0x03 f.attempts f.stamp)
      else .next again
    | .error =>
      if oneShot then .next (idle.canComplete f.queue Sta.busError 0x04 f.attempts f.stamp)
      else .next again

/-- End the entry in flight with a status and detail. -/
def State.canEndFlight (s : State) (c status detail : Nat) : State :=
  match (s.canCh c).flight with
  | some f => (s.setCanCh c { s.canCh c with flight := none }).canComplete f.queue status detail f.attempts f.stamp
  | none => s

/-! ### Errors and bus-off -/

/-- CAN_ERROR_FRAME (R335): the error counters of ISO 11898-1, on a channel that takes part in the bus. -/
def execCanErrorFrame (c : Fin 8) (kind : CanErr) (s : State) : Answer :=
  if s.canState c = canOff then .next s
  else
    let s := s.bump (Reg.CAN_ERRFRM_ERRORS c)
    if s.canState c = canActive then
      let s := match kind with
        | .transmit => s.bumpBy (Reg.CAN_ERRCNT_TEC c) 8
        | .receive => s.bump (Reg.CAN_ERRCNT_REC c)
        | .receiveFirst => s.bumpBy (Reg.CAN_ERRCNT_REC c) 8
      .next (s.canErrState c)
    else .next s

/-- BUS_OFF (R348): above a TEC of 255, as ISO 11898-1 gives (R335). -/
def execBusOff (c : Fin 8) (s : State) : Answer :=
  if s.canState c = canActive ∧ 256 ≤ s.rd (Reg.CAN_ERRCNT_TEC c) then
    let q := match (s.canCh c).flight with
      | some f => f.queue
      | none => 0xFF
    let s := s.canEndFlight c Sta.busError 0x05
    let s := s.setCanCh c { s.canCh c with offSince := s.frc, recAt := s.frc, byCmd := false }
    let s := s.setCanState c (if s.canAuto c then canRecovering else canBusOff)
    let s := (s.wr (Reg.CAN_STAT_ERR_STATE c) 2).bump (Reg.CAN_ERRFRM_BUS_OFFS c)
    .next (s.post Un.can 0x0C01 c (s.rd (Reg.CAN_ERRCNT_TEC c)) q)
  else .next s

/-- CAN_RECOVERED (R335, R348): after 128 occurrences of 11 recessive bits. -/
def execCanRecovered (c : Fin 8) (s : State) : Answer :=
  if s.canState c = canRecovering then
    let s := { s with frc := max s.frc ((s.canCh c).recAt + 1408000000 / s.canNrate c) }
    let s := s.setCanState c (if s.inControl then canActive else canMonitor)
    let s := ((s.wr (Reg.CAN_STAT_ERR_STATE c) 0).wr (Reg.CAN_ERRCNT_TEC c) 0).wr (Reg.CAN_ERRCNT_REC c) 0
    .next (s.post Un.can 0x0C02 c ((s.frc - (s.canCh c).offSince) / 1000000) (b2n (s.canCh c).byCmd))
  else .next s

/-- The channel's counters, all cleared by CLEAR_COUNTS. -/
def State.canClearCounts (s : State) (c : Nat) : State :=
  (((s.wr (Reg.CAN_LOST c) 0).wr (Reg.CAN_ERRFRM c) 0).wr (Reg.CAN_TT_MISSED c) 0).wr (Reg.CAN_HP_STAT_HP_LOST c) 0

/-- A write of CAN_CMD (R348, R516): ignored on the standby. -/
def State.canCmdWrite (s : State) (c value : Nat) : State :=
  let cmd := bits value 0 4
  let stat (s : State) (why : Nat) := s.cmdStat (Reg.CAN_CMD_STAT_STATUS c) (Reg.CAN_CMD_STAT_REASON c) why
  if bits value 24 8 ≠ 0xA5 ∨ (cmd ≠ 1 ∧ cmd ≠ 2) ∨ s.role = 3 then s
  else if s.canMode c = 0 then stat s 2
  else if cmd = 2 then (stat s 0).canClearCounts c
  else if s.canState c = canBusOff then
    ((stat s 0).setCanCh c { s.canCh c with byCmd := true, recAt := s.frc }).setCanState c canRecovering
  else stat s 1

/-- CAN_BUS_ON (R348). -/
def execCanBusOn (m : Master) (c : Fin 8) (s : State) : Answer :=
  .next (s.access m .w32 true (Reg.CAN_CMD c).addr (fun s => s.canCmdWrite c 0xA5000001))

/-- CAN_CLEAR_COUNTS (R354). -/
def execCanClearCounts (m : Master) (c : Fin 8) (s : State) : Answer :=
  .next (s.access m .w32 true (Reg.CAN_CMD c).addr (fun s => s.canCmdWrite c 0xA5000002))

/-! ### The time-triggered schedule -/

/-- Entries of a TT queue that are eligible: posted before the bound task's last commit (R350). -/
def State.canEligible (s : State) (c q : Nat) : Bool :=
  let pi := (Assoc.find? (s.canCh c).elig q).getD (s.txHead q)
  s.txReady q && decide (0 < idxDiff pi (s.txHead q)) && decide (idxDiff pi (s.txHead q) ≤ s.txCount q)

/-- At a task's commit point the entries posted to the TT queues of its channels become eligible (R350). -/
def State.canCommit (s : State) (task : Nat) : State :=
  (List.range 8).foldl (fun s c =>
    if s.canTt c && le (s.canSched c) 5 1 == task then
      s.setCanCh c { s.canCh c with elig := (List.range (s.canTtqCount c)).map (fun n =>
        (s.canTtqBase c + n, s.quePi (s.canTtqBase c + n))) }
    else s) s

/-- Whether no used window of the matrix comes before a window. -/
def State.canFirstWindow (s : State) (c basic win : Nat) : Bool :=
  (List.range (64 * basic + win)).all (fun j => le (s.canWindow c (j / 64) (j % 64)) 6 1 == 0)

/-- A used window of a channel's schedule that may be served: the schedule is running, or starts with this window,
the first of the matrix (R349). -/
def State.canTtMay (s : State) (c basic win : Nat) : Bool :=
  s.canTt c && s.on Reg.TIM_STAT_C1_VALID && s.canState c == canActive && s.mayStart &&
  decide (basic < le (s.canSched c) 4 1) && le (s.canWindow c basic win) 6 1 != 0 &&
  (s.on (Reg.CAN_STAT_TT_RUN c) || s.canFirstWindow c basic win)

/-- Time passes to a window's START, unless it is inside the window already and has not used it (R349, R350). -/
def State.canToWindow (s : State) (c basic win : Nat) : State :=
  let ofs := s.canStart c basic win
  let e := s.canSince c ofs
  if s.on (Reg.CAN_STAT_TT_RUN c) && decide (e < 1000 * le (s.canWindow c basic win) 4 2) &&
      (s.canCh c).winDone != some (s.t1 - e) then s
  else
    let gap := s.canUntil c ofs
    let again := gap == 0 && s.on (Reg.CAN_STAT_TT_RUN c)
    s.waitClass State.t1 (s.t1 + (if again then s.canTotal c else gap : Nat))

/-- The last start in a window from its START (R350); none where the frame is too long for it. -/
def State.canLatest (s : State) (c basic win : Nat) (e : List Byte) : Option Nat :=
  let len := 1000 * le (s.canWindow c basic win) 4 2
  if s.canWorst c e ≤ len then some (len - s.canWorst c e) else none

/-- The window shown, and the schedule running. -/
def State.canShowWindow (s : State) (c basic win : Nat) : State :=
  ((s.wr (Reg.CAN_STAT_TT_RUN c) 1).wr (Reg.CAN_TT_BASIC c) basic).wr (Reg.CAN_TT_WINDOW c) win

/-- TT_WINDOW_START (R350): at START, or at the first bus idle after it, the head entry of the window's queue starts, where
it is eligible and the latest start has not passed. -/
def execTtWindowStart (c : Fin 8) (basic : Fin 16) (win : Fin 64) (s : State) : Answer :=
  if s.canTtMay c basic win then
    let s := (s.canToWindow c basic win).canShowWindow c basic win
    let q := s.canTtqBase c + le (s.canWindow c basic win) 7 1
    let since := s.canSince c (s.canStart c basic win)
    if s.canEligible c q && (s.canCh c).flight.isNone then
      let e := s.txEntry q
      let d := s.canCheck c e
      if d ≠ 0 then .next (s.canRefuse c q d)
      else
        match s.canLatest c basic win e with
        | some n =>
          if since ≤ n then
            .next ((s.setCanCh c { s.canCh c with winDone := some (s.t1 - since) }).canLaunch c q true)
          else .next s
        | none => .next s
    else .next s
  else .next s

/-- TT_WINDOW_MISSED (R350): an eligible entry was not started by the latest start. A ONE_SHOT entry completes (R346). -/
def execTtWindowMissed (c : Fin 8) (basic : Fin 16) (win : Fin 64) (s : State) : Answer :=
  let ttq := le (s.canWindow c basic win) 7 1
  let q := s.canTtqBase c + ttq
  let here := match (s.canCh c).flight with
    | some f => f.queue == q
    | none => false
  if s.canTtMay c basic win && s.canEligible c q && !here then
    let s := (s.canToWindow c basic win).canShowWindow c basic win
    let at_ := s.t1 - s.canSince c (s.canStart c basic win)
    let s := s.waitClass State.t1 (at_ + (s.canLatest c basic win (s.txEntry q)).getD 0)
    let s := (s.setCanCh c { s.canCh c with winDone := some at_ }).bump (Reg.CAN_TT_MISSED c)
    let s := s.post Un.can 0x0C07 c (basic * 2 ^ 8 + win) ttq
    if bitAt (le (s.txEntry q) 0 1) 4 then .next (s.canComplete q Sta.lostArb 0x06 0 0) else .next s
  else .next s

/-- At a REALIGN every schedule stops and restarts at the next matrix start (R349). -/
def State.canRealign (s : State) : State :=
  (List.range 8).foldl (fun s c => s.wr (Reg.CAN_STAT_TT_RUN c) 0) s

/-- CAN_CHANNEL_ACTIVE (R339): the first bus idle from 100 ms after lock on; after a handover, from K on. -/
def execCanChannelActive (c : Fin 8) (s : State) : Answer :=
  if s.canState c = canJoining ∧ s.inControl then
    let k := s.canCh c
    let s := if k.atK then s else { s with frc := max s.frc (k.lockAt + 100000000) }
    let s := (s.setCanState c canActive).setCanCh c { k with known := true, atK := false }
    .next (if k.known then s else s.post Un.can 0x0C09 c k.seen (b2n k.atK))
  else .next s

end Sys2Proof.Machine
end

