-- ==== Sys2Proof/Machine/TimeUnit.lean ====
section
/-!
DEFINITION. The time unit: domains, class-1 and class-2 source changes, REALIGN, PPS and class-time capture
(R365 to R376).
-/
namespace Sys2Proof.Machine

/-- Rebase a free-running class so that its value is unchanged at this instant. -/
def rebase (now : Int) (frc : Nat) (rate : Int) (k : ClassClock) : ClassClock :=
  { k with base := now, baseAt := frc, rate }

/-- Saturate to a signed 32-bit register. -/
def sat32 (i : Int) : Nat := toBits 32 (satI 32 i)

/-- The last rate of class 1's source. -/
def State.c1Rate (s : State) : Int :=
  if s.rd Reg.TIM_STAT_C1_SRC < 2 then s.domRate (s.rd Reg.TIM_STAT_C1_SRC) else s.tim.c1.rate

/-- The drift of the TCXO is counted up to now: |RATE| of class 1's source while that is LOCKED; holdover and PAIR are left
out (R434, R435). -/
def State.driftCount (s : State) : State :=
  let d := s.rd Reg.TIM_STAT_C1_SRC
  let n := s.frc - s.tim.driftAt
  let x := s.wear.drift
  { s with
    tim := { s.tim with driftAt := s.frc }
    wear := { s.wear with
      drift := if d < 2 ∧ s.domState d = 2 then (x.1 + (s.domRate d).natAbs * n, x.2 + n) else x } }

/-- Set class 1's source so that T1 does not move, with code 0x0D06 and a time anchor (R369). -/
def State.c1Source (s : State) (src : Nat) : State :=
  let old := s.rd Reg.TIM_STAT_C1_SRC
  if src = old then s
  else
    let s := s.driftCount
    let now := s.t1
    let rate := s.c1Rate
    let k := if src < 2 then { s.tim.c1 with c := now - s.domTime src, cAt := s.frc }
      else { rebase now s.frc rate s.tim.c1 with c := 0 }
    let s := { s with tim := { s.tim with c1 := k } }
    let s := (s.wr Reg.TIM_STAT_C1_SRC src).wrB Reg.TIM_STAT_C1_SLEWING (decide (src < 2) && k.c != 0)
    let s := s.post Un.tim 0x0D06 old src (sat32 (if src < 2 then k.c else 0))
    s.anchor 1

/-- Whether a LOCKED domain lies within FOLLOW_LIMIT of class 1. -/
def State.c1Follows (s : State) (d : Nat) : Bool := decide ((s.domTime d - s.t1).natAbs ≤ s.tcFollow)

/-- A LOCKED domain that fails the FOLLOW_LIMIT test sets DISAGREE and records 0x0D08 (R369). -/
def State.c1Disagree (s : State) (d : Nat) : State :=
  if s.on Reg.TIM_STAT_DISAGREE then s
  else (s.wr Reg.TIM_STAT_DISAGREE 1).post Un.tim 0x0D08 d (min ((s.domTime d - s.t1).natAbs / 1000) (2 ^ 32 - 1)) 1

/-- Choose class 1's source by the first row that applies (R369): the preferred domain, the other one, holdover. -/
def State.c1Choose (s : State) : State :=
  let p := s.tcPrefer
  let o := 1 - p
  if s.domState p = 2 ∧ s.c1Follows p then (s.wr Reg.TIM_STAT_DISAGREE 0).c1Source p
  else
    let s := if s.domState p = 2 then s.c1Disagree p else s
    if s.domState o = 2 ∧ s.c1Follows o then
      ((if s.domState p = 2 then s else s.wr Reg.TIM_STAT_DISAGREE 0)).c1Source o
    else
      let s := if s.domState o = 2 then s.c1Disagree o
        else if s.domState p = 2 then s else s.wr Reg.TIM_STAT_DISAGREE 0
      s.c1Source 2

/-- Step class 1 onto a LOCKED domain (R370): why is 0 for alignment and 1 for REALIGN. -/
def State.c1Step (s : State) (d why : Nat) : State :=
  let s := s.driftCount
  let step := s.domTime d - s.t1
  let s := { s with tim := { s.tim with c1 := { s.tim.c1 with c := 0, cAt := s.frc } } }
  let s := ((s.wr Reg.TIM_STAT_C1_SRC d).wr Reg.TIM_STAT_C1_SLEWING 0).wr Reg.TIM_STAT_C1_VALID 1
  let s := s.wr Reg.TIM_STAT_DISAGREE 0
  (s.post Un.tim 0x0D07 d (sat32 step) why).anchor 2

/-- The module follows a peer's class 1: standby, or cold (R374). -/
def State.c1Paired (s : State) : Bool := s.role == 3 || s.role == 4

/-- Class 1 after a domain's state or time has changed (R369, R370). -/
def State.c1Update (s : State) : State :=
  if s.c1Paired then s
  else if s.on Reg.TIM_STAT_C1_VALID then s.c1Choose
  else if s.domState s.tcPrefer = 2 then s.c1Step s.tcPrefer 0
  else if s.domState (1 - s.tcPrefer) = 2 then s.c1Step (1 - s.tcPrefer) 0
  else s

/-- Class 2 when its domain becomes LOCKED (R371). -/
def State.c2Lock (s : State) (d : Nat) : State :=
  if !s.on Reg.TIM_STAT_C2_VALID then
    let s := { s with tim := { s.tim with c2 := { s.tim.c2 with c := 0, cAt := s.frc } } }
    let s := ((s.wr Reg.TIM_STAT_C2_VALID 1).wr Reg.TIM_STAT_C2_HOLDOVER 0).wr Reg.TIM_STAT_C2_SLEWING 0
    s.post Un.tim 0x0D09 d 0 1
  else
    let diff := s.t2 - s.domTime d
    if s.tcFollow < diff.natAbs then s.post Un.tim 0x0D08 d (min (diff.natAbs / 1000) (2 ^ 32 - 1)) 2
    else
      let s := { s with tim := { s.tim with c2 := { s.tim.c2 with c := diff, cAt := s.frc } } }
      let s := (s.wr Reg.TIM_STAT_C2_HOLDOVER 0).wrB Reg.TIM_STAT_C2_SLEWING (diff != 0)
      s.post Un.tim 0x0D09 d (sat32 diff) 0

/-- Class 2 when its domain leaves LOCKED: it runs at its last rate, without slew (R371). -/
def State.c2Leave (s : State) (d : Nat) : State :=
  if s.on Reg.TIM_STAT_C2_HOLDOVER then s
  else
    let k := { rebase s.t2 s.frc (s.domRate d) s.tim.c2 with c := 0 }
    let s := { s with tim := { s.tim with c2 := k } }
    (s.wr Reg.TIM_STAT_C2_HOLDOVER 1).wr Reg.TIM_STAT_C2_SLEWING 0

/-- A domain enters a state, and the classes follow (R368 to R371). -/
def State.domEnter (s : State) (d st : Nat) : State :=
  let old := s.domState d
  if old = st then s
  else
    let s := s.driftCount
    let s := if old = 2 ∧ d = s.tcC2Dom then s.c2Leave d else s
    -- class 1 holds its value while it moves off the domain that leaves LOCKED
    let s := s.wr (Reg.TIM_DOM_STAT_STATE d) st
    let s := if d = 0 then s.wr Reg.TIM_STAT_DOM_A st else s.wr Reg.TIM_STAT_DOM_B st
    let s := if st = 1 then s.setDom d { s.dom d with stepped := false, goodSince := none, bad := 0 } else s
    let s := if old = 0 then s.setDom d { s.dom d with lastSync := s.frc } else s
    let s := if st = 2 ∧ d = s.tcC2Dom then s.c2Lock d else s
    s.c1Update

/-- The domain's grandmaster as its registers show it. -/
def State.domGm (s : State) (d : Nat) (m : PtpMaster) : State :=
  let s := s.wr64 (Reg.TIM_DOM_GM_LO d) (Reg.TIM_DOM_GM_HI d) m.identity
  (s.wr (Reg.TIM_DOM_STAT_GM_CLASS d) m.cls).wr (Reg.TIM_DOM_STAT_STEPS d) (min m.steps 255)

/-- The data set comparison of the best master clock algorithm (IEEE 1588, R367): whether the first is better. -/
def ptpBetter (a b : PtpMaster) : Bool :=
  if a.identity = b.identity then
    if a.steps = b.steps then decide (a.port < b.port) else decide (a.steps < b.steps)
  else if a.prio1 ≠ b.prio1 then decide (a.prio1 < b.prio1)
  else if a.cls ≠ b.cls then decide (a.cls < b.cls)
  else if a.accuracy ≠ b.accuracy then decide (a.accuracy < b.accuracy)
  else if a.variance ≠ b.variance then decide (a.variance < b.variance)
  else if a.prio2 ≠ b.prio2 then decide (a.prio2 < b.prio2)
  else decide (a.identity < b.identity)

/-- The network port that a PTP message comes in on: one of the domain's two, with PTP, past its join point (R355, R367). -/
def State.ptpPort (s : State) (d p : Nat) : Bool := decide (p / 2 = d) && s.ethOn p && s.ethFlag p 2 && s.ethJoined p

/-- The versions of PTP messages that are accepted (R367). -/
def ptpVersion (version minor : Nat) : Bool := version == 2 && decide (minor ≤ 1)

/-- The best of the masters heard. -/
def ptpBest : List PtpMaster → Option PtpMaster
  | [] => none
  | a :: t =>
    match ptpBest t with
    | none => some a
    | some b => some (if ptpBetter b a then b else a)

/-- The domain selects a master (R368): from NO_MASTER or on another grandmaster it starts ACQUIRING. -/
def State.domSelect (s : State) (d : Nat) (m : PtpMaster) : State :=
  match (s.dom d).selected with
  | none => ((s.setDom d { s.dom d with selected := some m }).domGm d m).domEnter d 1
  | some old =>
    let s := s.setDom d { s.dom d with selected := some m }
    if old.identity = m.identity then s.domGm d m
    else
      let oldLo := s.rd (Reg.TIM_DOM_GM_LO d)
      let s := s.domGm d m
      let s := s.post Un.tim 0x0D05 d (m.identity % 2 ^ 32) oldLo
      if s.domState d = 1 then
        s.setDom d { s.dom d with stepped := false, goodSince := none, bad := 0, hasDelay := false }
      else (s.setDom d { s.dom d with hasDelay := false }).domEnter d 1

/-- An announce interval of 2^n s, in ns. -/
def announceGap (n : Int) : Nat := if 0 ≤ n then 1000000000 * 2 ^ n.toNat else 1000000000 / 2 ^ (-n).toNat

/-- PTP_ANNOUNCE (R367, R368): a message of another domain number or version, or without the PTP timescale, selects
nothing. DESIGN CHOICE (log 224): a master is judged from its first message on, and one 255 steps away never. -/
def execPtpAnnounce (d : Fin 2) (a : Announce) (s : State) : Answer :=
  if !s.locked ∨ !ptpVersion a.version a.minor ∨ a.domain ≠ s.domNum d ∨ !a.ptpScale ∨ !s.ptpPort d a.master.port ∨
      255 ≤ a.master.steps then .next s
  else
    let x := s.dom d
    let rest := x.masters.filter (fun h =>
      !(h.m.identity == a.master.identity && h.m.port == a.master.port) && decide (s.frc < h.at_ + 3 * h.gap))
    let s := s.setDom d { x with masters := rest ++ [{ m := a.master, at_ := s.frc, gap := announceGap a.logInterval }] }
    match ptpBest ((s.dom d).masters.map (fun h => h.m)) with
    | some m => .next (s.domSelect d m)
    | none => .next s

/-- Set a domain's OFFSET, wrapping as its register does. -/
def State.setDomOfs (s : State) (d : Nat) (ofs : Int) : State :=
  s.wr64 (Reg.TIM_DOM_OFS_LO d) (Reg.TIM_DOM_OFS_HI d) (toBits 64 ofs)

/-- The servo changes RATE to a free value; OFFSET takes up the difference at the present FRC, so that T_d does not
move (R368). -/
def State.domServo (s : State) (d : Nat) : State :=
  let s := s.driftCount
  let old := s.domRate d
  let new := sgn 32 (Config.freeWord s.free).toNat
  let s := s.useFree
  let total := s.domOfs d * (2 : Int) ^ 24 + (s.dom d).frac + (s.frc : Int) * (old - new) / (2 : Int) ^ 16
  let s := s.setDomOfs d (total / (2 : Int) ^ 24)
  let s := s.setDom d { s.dom d with frac := (total % (2 : Int) ^ 24).toNat }
  s.wr (Reg.TIM_DOM_RATE d) (toBits 32 new)

/-- LOCKED and ACQUIRING after a Sync has measured an offset (R368). -/
def State.domJudge (s : State) (d : Nat) (meas : Int) : State :=
  let x := s.dom d
  if s.domState d = 2 then
    if meas.natAbs < 1000 then s.setDom d { x with bad := 0 }
    else if x.bad + 1 ≥ 3 then s.domEnter d 1
    else s.setDom d { x with bad := x.bad + 1 }
  else if meas.natAbs < 1000 then
    let since := x.goodSince.getD s.frc
    let s := s.setDom d { x with goodSince := some since }
    if s.tcAssess ≤ s.frc - since then
      let s := s.post Un.tim 0x0D03 d (s.rd (Reg.TIM_DOM_GM_LO d)) (s.rd (Reg.TIM_DOM_STAT_GM_CLASS d))
      s.domEnter d 2
    else s
  else s.setDom d { x with goodSince := none }

/-- A Sync of the selected grandmaster. -/
def State.domSync (s : State) (d : Nat) (m : Sync) : State :=
  let s := s.wr (Reg.TIM_DOM_STAT_LOG_SYNC d) (toBits 8 m.logSync)
  let s := s.setDom d { s.dom d with lastSync := s.frc }
  let s := if s.domState d = 3 then s.domEnter d 1 else s
  if !(s.dom d).hasDelay then s
  else
    let due : Int := m.origin + s.rd (Reg.TIM_DOM_DELAY d)
    let meas := s.domTime d - due
    let s := s.wr (Reg.TIM_DOM_MEAS d) (sat32 meas)
    if s.domState d = 1 ∧ !(s.dom d).stepped then
      (s.setDomOfs d (s.domOfs d - meas)).setDom d { s.dom d with stepped := true }
    else (s.domServo d).domJudge d meas

/-- PTP_SYNC (R367, R368): one with another domain number, from another master or with an unsupported interval is
not usable; the last is counted. -/
def execPtpSync (d : Fin 2) (m : Sync) (s : State) : Answer :=
  match (s.dom d).selected with
  | none => .next s
  | some g =>
    if m.domain ≠ s.domNum d ∨ !ptpVersion m.version m.minor ∨ !s.ptpPort d m.port ∨ m.identity ≠ g.identity then .next s
    else if m.logSync < -7 ∨ 1 < m.logSync then .next (s.bump (Reg.ETH_RXCNT_FILTERED m.port))
    else .next ((s.domSync d m).c1Update)

/-- DELAY_REQ (R367): the mean of the two directions of an exchange is the path delay; a Pdelay_Req is answered. -/
def execDelayReq (d : Fin 2) (x : DelayStep) (s : State) : Answer :=
  match x with
  | .answered => .next s
  | .measured t1 t2 t3 t4 =>
    if (s.dom d).selected.isSome then
      let mean := ((t2 - t1) + (t4 - t3)) / 2
      let s := s.wr (Reg.TIM_DOM_DELAY d) (clampI 0 (2 ^ 32 - 1) mean).toNat
      .next (s.setDom d { s.dom d with hasDelay := true })
    else .next s

/-- DOMAIN_HOLDOVER (R368, R375): no usable Sync for SYNC_LOSS. -/
def execDomainHoldover (d : Fin 2) (s : State) : Answer :=
  if s.domState d = 1 ∨ s.domState d = 2 then
    let s := { s with frc := max s.frc ((s.dom d).lastSync + s.tcSyncLoss) }
    let s := s.post Un.tim 0x0D04 d ((s.frc - (s.dom d).lastSync) / 1000000) 0
    .next (s.domEnter d 3)
  else .next s

/-- The FRC at which a master times out: three announce intervals after it was heard (R367). -/
def PtpHeard.until_ (h : PtpHeard) : Nat := h.at_ + 3 * h.gap

/-- ANNOUNCE_TIMEOUT (R367, R368): the selected master is heard no more; another one is selected, or the domain has no
master. -/
def execAnnounceTimeout (d : Fin 2) (s : State) : Answer :=
  match (s.dom d).selected with
  | none => .next s
  | some g =>
    let mine (h : PtpHeard) : Bool := h.m.identity == g.identity && h.m.port == g.port
    let due := match (s.dom d).masters.find? mine with
      | some h => h.until_
      | none => 0
    let s := { s with frc := max s.frc due }
    let rest := (s.dom d).masters.filter (fun h => !mine h && decide (s.frc < h.until_))
    let s := s.setDom d { s.dom d with masters := rest }
    match ptpBest (rest.map (fun h => h.m)) with
    | some m => .next (s.domSelect d m)
    | none => .next ((s.setDom d { s.dom d with selected := none, hasDelay := false }).domEnter d 0)

/-! ### REALIGN (R370) -/

/-- A write of TIM_CMD (R370, R516). -/
def State.timCmdWrite (s : State) (value : Nat) : State :=
  let stat (s : State) (why : Nat) := s.cmdStat Reg.TIM_CMD_STAT_STATUS Reg.TIM_CMD_STAT_REASON why
  if bits value 24 8 ≠ 0xA5 ∨ bits value 0 4 ≠ 1 then s
  else if s.rd Reg.SCN_STAT_MODE ≠ 0 then stat s 1
  else if !s.on Reg.SCN_STAT_FORCE_PERMIT then stat s 2
  else if s.domState 0 ≠ 2 ∧ s.domState 1 ≠ 2 then stat s 3
  else if s.c1Paired then stat s 4
  else
    let d := if s.domState s.tcPrefer = 2 then s.tcPrefer else 1 - s.tcPrefer
    ((stat s 0).c1Step d 1).canRealign

/-- TIM_REALIGN (R370). -/
def execTimRealign (m : Master) (s : State) : Answer :=
  .next (s.access m .w32 true Reg.TIM_CMD.addr (fun s => s.timCmdWrite 0xA5000001))

/-! ### PPS (R372) -/

/-- The distance of a time from the nearest second. -/
def fromSecond (t : Int) : Int :=
  let r := t % 1000000000
  if r ≤ 500000000 then r else r - 1000000000

/-- PPS_OK changes with code 0x0D0A. -/
def State.setPpsOk (s : State) (ok : Bool) (dev : Int) : State :=
  if s.on Reg.TIM_STAT_PPS_OK = ok then s
  else (s.wrB Reg.TIM_STAT_PPS_OK ok).post Un.tim 0x0D0A (b2n ok) (sat32 dev) 0

/-- In holdover with PPS_IN = 2 the rate moves towards the one at which the interval measures 1 s, by at most
0.01 ppm per second (R369). -/
def State.ppsSteer (s : State) (interval : Nat) : State :=
  if s.tcPpsIn = 2 ∧ s.on Reg.TIM_STAT_PPS_OK ∧ s.rd Reg.TIM_STAT_C1_SRC = 2 ∧ 0 < interval then
    let want := ((1000000000 : Int) - interval) * (2 : Int) ^ 40 / interval
    let r := s.tim.c1.rate
    let new := clampI (r - 10995) (r + 10995) want
    { s with tim := { s.tim with c1 := rebase s.t1 s.frc new s.tim.c1 } }
  else s

/-- PPS_IN_EDGE (R372). Before lock the port is ignored (R490). -/
def execPpsInEdge (s : State) : Answer :=
  if !s.locked ∨ s.tcPpsIn = 0 then .next s
  else
    let dev := fromSecond (s.t1 - s.tcPpsDelay)
    let s := s.wr Reg.TIM_PPS (sat32 dev)
    let interval := match s.tim.ppsLast with
      | some f => s.frc - f
      | none => 0
    let regular := decide (999000000 ≤ interval) && decide (interval ≤ 1001000000)
    let s := { s with tim := { s.tim with ppsLast := some s.frc } }
    let s := s.setPpsOk (regular && decide (dev.natAbs ≤ s.tcPpsWin)) dev
    .next (s.ppsSteer interval)

/-- PPS_IN_TIMEOUT (R372): no edge for 1 s and 1 ms. -/
def execPpsInTimeout (s : State) : Answer :=
  if s.on Reg.TIM_STAT_PPS_OK then
    let s := { s with frc := max s.frc (s.tim.ppsLast.getD s.frc + 1001000000) }
    .next (s.setPpsOk false (sgn 32 (s.rd Reg.TIM_PPS)))
  else .next s

/-- The class that PPS_OUT follows, where it is VALID (R366, R372). -/
def State.ppsClass (s : State) : Option (State → Int) :=
  if s.tcPpsOut = 1 ∧ s.on Reg.TIM_STAT_C1_VALID then some State.t1
  else if s.tcPpsOut = 2 ∧ s.on Reg.TIM_STAT_C2_VALID then some State.t2
  else none

/-- PPS_OUT_EDGE (R372, R375): at the class second, and high from then for PPS_WIDTH; none while the chosen class is not
VALID. -/
def execPpsOutEdge (s : State) : Answer :=
  match s.ppsClass with
  | none => .next s
  | some time =>
    let sec := time s / 1000000000
    let here : Bool := decide (time s % 1000000000 ≤ 20) && s.tim.ppsSec != some sec
    let s := if here then s else s.waitClass time ((sec + 1) * 1000000000)
    let x := s.tim
    .next { s with tim := { x with
      ppsOut := x.ppsOut + 1, ppsSec := some (time s / 1000000000), ppsHigh := s.frc + s.tcPpsWidth } }

/-- The level of PPS_OUT (R372). -/
def State.ppsLevel (s : State) : Bool := s.ppsClass.isSome && s.tim.ppsSec.isSome && decide (s.frc < s.tim.ppsHigh)

/-! ### Slewing, capture and backup -/

/-- FRC at which a continuity term reaches 0 at one part in `per` (R369, R371). -/
def ClassClock.slewEnd (k : ClassClock) (per : Nat) : Nat := k.cAt + k.c.natAbs * per

/-- SLEWING_END (R369, R371): a continuity term has reached 0; `second` is class 2. -/
def execSlewingEnd (second : Bool) (s : State) : Answer :=
  if second then
    if s.on Reg.TIM_STAT_C2_SLEWING then
      .next (({ s with frc := max s.frc (s.tim.c2.slewEnd 1000) } : State).wr Reg.TIM_STAT_C2_SLEWING 0)
    else .next s
  else if s.on Reg.TIM_STAT_C1_SLEWING then
    .next (({ s with frc := max s.frc (s.tim.c1.slewEnd 10000) } : State).wr Reg.TIM_STAT_C1_SLEWING 0)
  else .next s

/-- Capture a class time for the reading master (R373): the read returns the low seconds, the latches keep the rest. -/
def State.classCapture (s : State) (m : Master) (w : Width) (t : Int) (hi ns : Fld) : State :=
  let s := (s.setLatch m hi.addr (secsOf t / 2 ^ 32)).setLatch m ns.addr (nsOf t)
  s.answer (if w = .w64 then secsOf t else secsOf t % 2 ^ 32)

/-- CLASS_TIME_CAPTURE (R373). -/
def execClassTimeCapture (m : Master) (w : Width) (second : Bool) (s : State) : Answer :=
  if second then
    .next (s.access m w false Reg.TIM_C2_SEC_LO.addr
      (fun s => s.classCapture m w s.t2 Reg.TIM_C2_SEC_HI Reg.TIM_C2_NS))
  else
    .next (s.access m w false Reg.TIM_C1_SEC_LO.addr
      (fun s => s.classCapture m w s.t1 Reg.TIM_C1_SEC_HI Reg.TIM_C1_NS))

/-- C2_BACKUP_REFRESH (R371, R485): once a second the Porter's backup takes class-2 seconds and a fraction of
1/32,768 s. -/
def execC2BackupRefresh (s : State) : Answer :=
  if s.power.running then
    let s := { s with frc := max s.frc (s.tim.backAt + 1000000000) }
    let s := { s with tim := { s.tim with backAt := s.frc } }
    let s := s.wr64 Reg.PTR_C2SEC_LO Reg.PTR_C2SEC_HI (secsOf s.t2)
    .next { s with power := { s.power with c2frac := nsOf s.t2 * 32768 / 1000000000 } }
  else .next s

/-- The rate of the module's own source while its class 1 follows the pair (R374): of the LOCKED domain that R369 would
take first, else the last one. -/
def State.ownRate (s : State) : Int :=
  if s.domState s.tcPrefer = 2 then s.domRate s.tcPrefer
  else if s.domState (1 - s.tcPrefer) = 2 then s.domRate (1 - s.tcPrefer)
  else s.c1Rate

end Sys2Proof.Machine
end

