-- ==== Sys2Proof/Machine/Ethernet.lean ====
section
/-!
DEFINITION. Plant Ethernet: reception, transmission, links, the maintenance session and navigation data
(R355 to R364, R490).
-/
namespace Sys2Proof.Machine

/-- A big-endian field. -/
def be (bs : List Byte) (off n : Nat) : Nat := le (bs.drop off |>.take n |>.reverse) 0 n

/-- Whether a frame carries an IEEE 802.1Q tag. -/
def ethTagged (f : List Byte) : Bool := be f 12 2 == 0x8100

/-- Where a frame's EtherType lies. -/
def ethTypeOff (f : List Byte) : Nat := if ethTagged f then 16 else 12

/-- The EtherType after any tag (R358). -/
def ethType (f : List Byte) : Nat := be f (ethTypeOff f) 2

/-- Whether a frame's destination is a group address. -/
def ethGroup (f : List Byte) : Bool := bitAt (be f 0 1) 0

/-- The 16-bit one's complement sum of bytes, for IPv4 and UDP checksums. -/
def onesSum (bs : List Byte) : Nat :=
  let n := ((List.range ((bs.length + 1) / 2)).map (fun j =>
    be bs (2 * j) 1 * 256 + (if 2 * j + 1 < bs.length then be bs (2 * j + 1) 1 else 0))).sum
  let n := n % 65536 + n / 65536
  n % 65536 + n / 65536

/-! ### Reception -/

/-- A receive entry (R359). -/
def ethRxEntry (len port flags seq stamp lost group : Nat) (frame : List Byte) : List Byte :=
  leBytes 2 len ++ leBytes 1 port ++ leBytes 1 flags ++ leBytes 4 seq ++ leBytes 8 stamp ++ leBytes 2 lost ++
  leBytes 1 group ++ List.replicate 13 0 ++ padTo (2048 - 32) frame

/-- Put a frame into the port's RXQ, or lose it where the queue is full (R359). A module that is not in control
receives for monitoring only (R362). The count of a run of losses is recorded when the run ends. -/
def State.ethStore (s : State) (p flags group : Nat) (frame : List Byte) : State :=
  if s.follows then s.rxHold (s.ethRxq p) (ethRxEntry frame.length p flags 0 s.stamp 0 group frame)
  else if !s.leads then s
  else
    let q := s.ethRxq p
    let k := s.rxCount q
    if s.queRoom q then
      let s := if k.lost = 0 then s else s.post Un.eth 0x0D0C p k.lost q
      let s := s.setRxCount q { seq := k.seq + 1, lost := 0 }
      s.quePush q (ethRxEntry frame.length p flags (k.seq + 1) s.stamp (min k.lost 65535) group frame)
    else (s.setRxCount q { k with lost := k.lost + 1 }).bump (Reg.ETH_RXCNT_RX_LOST p)

/-- Group-addressed frames a second that a port admits to RXQ; none where there is no limit (R358, R490). -/
def State.ethLimit (s : State) (p : Nat) : Option Nat :=
  let l := s.ethBcLimit p
  if s.firstLatch then (if l = 0 then none else some l)
  else some (if l = 0 then 100 else min l 100)

/-- Admit a group-addressed frame, or count it in LIMITED. -/
def State.ethAdmit (s : State) (p : Nat) (k : State → State) : State :=
  let sec := secsOf s.t1
  let x := s.ethPort p
  let n := if x.second = sec then x.group else 0
  let beyond := match s.ethLimit p with
    | some l => decide (l ≤ n)
    | none => false
  if beyond then s.bump (Reg.ETH_ERRCNT_LIMITED p)
  else k (s.setEthPort p { x with second := sec, group := n + 1 })

/-- The NAV group that a datagram is for. -/
def State.navGroup (s : State) (ip port : Nat) : Option Nat :=
  (List.range 8).find? (fun g => s.portRec 3 g != [] && be (s.portRec 3 g) 4 4 == ip && le (s.portRec 3 g) 8 2 == port)

/-- Discard a datagram that fails a check (R363). -/
def State.navBad (s : State) (p group check : Nat) : State :=
  let s := if check = 3 then s.bump (Reg.ETH_NAVCNT_OTHER_TOKEN p) else s.bump (Reg.ETH_NAVCNT_BAD p)
  s.post Un.eth 0x0D0D group check 0

/-- Whether a frame holds an IPv4 header without options, with a good checksum, not fragmented (R363, check 1). -/
def navIpOk (f : List Byte) (o : Nat) : Bool :=
  ethType f == 0x0800 && be f o 1 == 0x45 && onesSum (slice f o 20) == 65535 && be f (o + 6) 2 % 0x4000 == 0 &&
  decide (o + be f (o + 2) 2 ≤ f.length) && decide (28 ≤ be f (o + 2) 2)

/-- Whether a UDP checksum is good, or 0 (R363, check 2). -/
def navUdpOk (f : List Byte) (o : Nat) : Bool :=
  let len := be f (o + 24) 2
  be f (o + 26) 2 == 0 ||
  onesSum (slice f (o + 12) 8 ++ [0, 17] ++ slice f (o + 24) 2 ++ slice f (o + 20) len) == 65535

/-- A datagram on the NAV port (R363). -/
def State.navReceive (s : State) (p : Nat) (f : List Byte) : State :=
  let o := ethTypeOff f + 2
  if !navIpOk f o then s.navBad p 0xFF 1
  else
    match (if be f (o + 9) 1 = 17 then s.navGroup (be f (o + 16) 4) (be f (o + 22) 2) else none) with
    | none => s.navBad p 0xFF 2
    | some g =>
      let len := be f (o + 24) 2
      if !navUdpOk f o ∨ len < 8 ∨ be f (o + 2) 2 < 20 + len then s.navBad p g 2
      else
        let payload := slice f (o + 28) (len - 8)
        if payload.take 6 ≠ [0x55, 0x64, 0x50, 0x62, 0x43, 0x00] then s.navBad p g 3
        else
          let store (s : State) := s.ethStore p (b2n (ethTagged f) + b2n (ethGroup f) * 2 + 8) g payload
          if ethGroup f then s.ethAdmit p store else store s

/-- The row of R358 by which a frame is dispatched. On NAV every other frame goes to the checks of R363 (log 237). -/
def State.ethRow (s : State) (p : Nat) (f : List Byte) : Nat :=
  let t := ethType f
  let d := f.take 6
  let ptpGroup := d == [0x01, 0x1B, 0x19, 0, 0, 0] || d == [0x01, 0x80, 0xC2, 0, 0, 0x0E]
  let reserved := d.take 3 == [0x01, 0x1B, 0x19] || d.take 3 == [0x01, 0x80, 0xC2] || d.take 2 == [0x03, 0x54]
  if t == 0x88F7 && ptpGroup && s.ethFlag p 2 then 1
  else if t == 0x88B6 && d.take 2 == [0x03, 0x54] && s.ethFlag p 1 then 2
  else if t == 0x88B5 && d == s.ethHbGroup p && s.ethFlag p 0 then 3
  else if reserved || t == 0x88F7 || t == 0x88B6 || t == 0x88B5 then 4
  else if p == 5 then 5
  else if d == s.ownMac p || (s.ethFlag p 3 && d == s.stationMac p) || d == List.replicate 6 0xFF then 5
  else if ethGroup f && s.ethFlag p 4 then 6
  else 7

/-- ETH_FRAME_RECEIVE (R356, R358): `f` is the frame from the destination address, FCS excluded. Frames of rows 1 to
3 go to the time unit, the safe-telegram unit and the heartbeat monitor, whose commands say what they do there. -/
def execEthFrameReceive (p : Fin 6) (fcsGood : Bool) (f : List Byte) (s : State) : Answer :=
  if !s.ethLink p then .next s
  else if !fcsGood ∨ f.length < 60 ∨ 1518 < f.length then .next (s.bump (Reg.ETH_ERRCNT_ERRORS p))
  else if be f 12 4 = 0x88080001 then .next s
  else if !s.ethJoined p then .next (s.bump (Reg.ETH_RXCNT_FILTERED p))
  else
    let row := s.ethRow p f
    let s := s.setEthPort p { s.ethPort p with lastRow := row }
    if row ≤ 3 then .next s
    else if row = 4 ∨ row = 7 then .next (s.bump (Reg.ETH_RXCNT_FILTERED p))
    else if p.val = 5 then .next (s.navReceive p f)
    else
      let flags := b2n (ethTagged f) + b2n (ethGroup f) * 2 + b2n (s.ethFlag p 3 && f.take 6 == s.stationMac p) * 4
      if ethGroup f then .next (s.ethAdmit p (fun s => s.ethStore p flags 0 f))
      else .next (s.ethStore p flags 0 f)

/-! ### Transmission (R360) -/

/-- The check of a transmit entry at its queue head: DETAIL of a refusal, or 0. -/
def State.ethCheck (s : State) (p : Nat) (e : List Byte) : Nat :=
  let len := le e 0 2
  let f := slice e 0x20 len
  if len < 14 ∨ 1518 < len ∨ (1514 < len ∧ !ethTagged f) then 0x01
  else if 2 ≤ le e 2 1 ∨ le e 3 1 ≠ 0 ∨ le e 8 24 ≠ 0 ∨ (le e 2 1 = 1 ∧ !s.ethFlag p 3) then 0x02
  else if ethType f = 0x88F7 ∨ ethType f = 0x88B6 ∨ ethType f = 0x88B5 then 0x03
  else if !s.ethLink p then 0x04
  else 0

/-- The completion area (R360). -/
def ethDone (status detail sent stamp : Nat) : List Byte :=
  leBytes 1 status ++ leBytes 1 detail ++ leBytes 2 sent ++ [0, 0, 0, 0] ++ leBytes 8 stamp

/-- STATUS of a DETAIL. -/
def ethStatusOf (detail : Nat) : Nat :=
  if detail = 0 then Sta.ok else if detail ≤ 2 then Sta.lenInvalid else if detail ≤ 4 then Sta.busError
  else Sta.outcomeUnknown

/-- ETH_TX_START (R360): a refused entry completes at once and does not block its queue. -/
def execEthTxStart (p : Fin 6) (s : State) : Answer :=
  let q := s.ethTxq p
  if s.ethJoined p && s.mayStart && (s.ethPort p).flight.isNone && s.txReady q then
    let s := s.headWait q
    let e := s.txEntry q
    let d := s.ethCheck p e
    if d ≠ 0 then
      let tag := le e 4 4
      .next ((s.txDone q 0x7F0 (ethDone (ethStatusOf d) d 0 0)).post Un.eth 0x0D0B (p + q * 2 ^ 8) d tag)
    else
      let f := slice e 0x20 (le e 0 2)
      let src := if le e 2 1 % 2 = 1 then s.stationMac p else s.ownMac p
      let f := f.take 6 ++ src ++ f.drop 12
      let f := if f.length < 60 then padTo 60 f else f
      .next (s.setEthPort p { s.ethPort p with flight := some { queue := q, stamp := s.stamp }, sent := [f] })
  else .next s

/-- End the entry in flight: of a frame that was cut off, any part may have left. The frames that waited for it follow. -/
def State.ethEndFlight (s : State) (p detail : Nat) : State :=
  let x := s.ethPort p
  match x.flight with
  | some f =>
    let len := max (le (s.txEntry f.queue) 0 2) 60
    let n := if detail = 0 then len else s.freeSent len
    let s := if detail = 0 then s else s.useFree
    let s := s.setEthPort p { x with
      flight := none, held := [], sent := if x.held = [] ∨ !s.ethLink p then x.sent else x.held.map (fun h => h.2) }
    s.txDone f.queue 0x7F0 (ethDone (ethStatusOf detail) detail n f.stamp)
  | none => s

/-- ETH_TX_COMPLETE (R360): OK means that the last bit has left the port. -/
def execEthTxComplete (p : Fin 6) (s : State) : Answer := .next (s.ethEndFlight p 0)

/-! ### Links -/

/-- IGMP_REPORT (R364): the NAV port sends a membership report for each of its groups. -/
def State.igmp (s : State) : State :=
  let n := ((List.range 8).filter (fun g => s.portRec 3 g != [])).length
  if s.ethOn 5 && s.ethLink 5 && s.ethJoined 5 then
    s.setEthPort 5 { s.ethPort 5 with igmp := (s.ethPort 5).igmp + n }
  else s

/-- IGMP_REPORT: in answer to a query. -/
def execIgmpReport (s : State) : Answer := .next s.igmp

/-- LINK_UP (R356): the NAV port reports its groups. A port with no record keeps its PHY powered down (R357); in
NO_PLAN the ENG port alone is active (R62). -/
def execLinkUp (p : Fin 6) (s : State) : Answer :=
  if s.ethLink p ∨ !(s.ethOn p || (p.val == 4 && s.rd Reg.FPL_STAT_STATE == 2)) then .next s
  else
    let s := (s.wr Reg.ETH_STAT_LINK (putBit (s.rd Reg.ETH_STAT_LINK) p true)).post Un.eth 0x0D01 p 0 0
    .next (if p.val = 5 then s.igmp else s)

/-- LINK_DOWN (R356): lost, or a partner that cannot link at 1000BASE-T full duplex. -/
def execLinkDown (p : Fin 6) (unable : Bool) (s : State) : Answer :=
  if s.ethLink p then
    let s := s.wr Reg.ETH_STAT_LINK (putBit (s.rd Reg.ETH_STAT_LINK) p false)
    .next ((s.ethEndFlight p 0x04).post Un.eth 0x0D02 p (if unable then 2 else 1) 0)
  else if unable then .next (s.post Un.eth 0x0D02 p 2 0)
  else .next s

/-- ETH_JOIN_POINT (R489, R490): from P0 + 300 ms every configured port joins; in NO_PLAN the ENG port alone. -/
def execEthJoinPoint (s : State) : Answer :=
  let joined := s.locked || s.rd Reg.FPL_STAT_STATE == 2
  let s := if joined then { s with frc := max s.frc (300000000 - s.rd Reg.PWR_BOOT_RESET * 1000) } else s
  if s.locked then
    .next (s.wr Reg.ETH_STAT_JOINED
      ((List.range 6).map (fun p => if s.ethOn p then 2 ^ p else 0)).sum)
  else if s.rd Reg.FPL_STAT_STATE = 2 then .next (s.wr Reg.ETH_STAT_JOINED (2 ^ 4))
  else .next s

/-! ### The maintenance session (R361) -/

/-- FORCE_PERMIT is 1 while the ENG session is open or the keyswitch shows MAINT (R104, R361). -/
def State.permitUpdate (s : State) : State :=
  s.wrB Reg.SCN_STAT_FORCE_PERMIT (s.keyMaint || s.on Reg.ETH_MAINT_SECONDS)

/-- The session's seconds that have passed are counted off (R361). -/
def State.maintCount (s : State) : State :=
  let n := (s.frc - s.maintAt) / 1000000000
  if s.on Reg.ETH_MAINT_SECONDS then
    ({ s with maintAt := s.maintAt + n * 1000000000 }.wr Reg.ETH_MAINT_SECONDS (s.rd Reg.ETH_MAINT_SECONDS - n)).permitUpdate
  else s

/-- A write of ETH_MAINT by an application core: 1 to 3,600 s opens or renews the session, 0 closes it. -/
def State.ethMaintWrite (s : State) (m : Master) (value : Nat) : State :=
  let sec := bits value 0 12
  if bits value 24 8 ≠ 0xA5 ∨ !isCore m ∨ 3600 < sec then s
  else ({ s with maintAt := s.frc }.wr Reg.ETH_MAINT_SECONDS sec).permitUpdate

/-- ETH_MAINT (R361). -/
def execEthMaint (m : Master) (value : Word) (s : State) : Answer :=
  .next (s.access m .w32 true Reg.ETH_MAINT.addr (fun s => s.ethMaintWrite m value.toNat))

/-- MAINT_SESSION_EXPIRE (R361). -/
def execMaintSessionExpire (s : State) : Answer :=
  if s.on Reg.ETH_MAINT_SECONDS then
    let s := { s with frc := max s.frc (s.maintAt + s.rd Reg.ETH_MAINT_SECONDS * 1000000000) }
    .next (s.wr Reg.ETH_MAINT_SECONDS 0).permitUpdate
  else .next s

end Sys2Proof.Machine
end

