-- ==== Sys2Proof/Machine/LoopMath.lean ====
section
/-!
DEFINITION. The Loop Engine's arithmetic: terms and saturation (R114), evaluation (R115, R116, R118), friction and
cogging tables (R121), tuning sets (R123, R124).
-/
namespace Sys2Proof.Machine

/-- term(k, x, s) of R115. -/
def loopTerm (k x : Int) (s : Nat) : Int :=
  satI 48 ((k * x + (if s = 0 then 0 else (2 : Int) ^ (s - 1))) / (2 : Int) ^ s)

/-- A tuning set as its 18 register words: KP, KI, AD, BD, B, C, KV, KA, KT0, KT1, SHIFT_A, SHIFT_B, UMIN, UMAX, BIAS,
VREF, RATE, RATE_MAN. -/
abbrev TuneSet := List Nat

/-- A signed word of a set. -/
def tuneWord (t : TuneSet) (j : Nat) : Int := sgn 32 ((t[j]?).getD 0)
/-- A shift of SHIFT_A (SP, SI, SA, SD, SB, SC) or SHIFT_B (SV, SKA, ST0, ST1). -/
def shiftA (t : TuneSet) (j : Nat) : Nat := bits ((t[10]?).getD 0) (5 * j) 5
def shiftB (t : TuneSet) (j : Nat) : Nat := bits ((t[11]?).getD 0) (5 * j) 5

/-- The states of a loop (R115). -/
structure LoopVars where
  i  : Int
  d  : Int
  xd : Int
  u  : Int
  deriving DecidableEq, Repr

/-- The operands of an evaluation (R115). -/
structure LoopArgs where
  r  : Int
  y  : Int
  v  : Int
  a  : Int
  t0 : Int
  t1 : Int
  deriving DecidableEq, Repr

/-- What an evaluation reports: INT_HELD, LIM_LO, LIM_HI, RATE_LIM, ACC_SAT. -/
structure LoopFlags where
  intHeld : Bool := false
  limLo   : Bool := false
  limHi   : Bool := false
  rateLim : Bool := false
  accSat  : Bool := false
  deriving DecidableEq, Repr

/-- lim(x): the clamp to UMIN and UMAX, then, where the rate is not 0, to u_prev ± rate, and which clamp
bound u. DESIGN CHOICE (log 189): where the rate binds, RATE_LIM alone shows. -/
def loopLim (x umin umax u rate : Int) : Int × LoopFlags :=
  let y := if umax < x then umax else if x < umin then umin else x
  let f : LoopFlags := { limHi := decide (umax < x), limLo := decide (x < umin ∧ ¬ umax < x) }
  if 0 < rate then
    if u + rate < y then (u + rate, { rateLim := true })
    else if y < u - rate then (u - rate, { rateLim := true })
    else (y, f)
  else (y, f)

/-- xd and d of R115. -/
def loopDeriv (t : TuneSet) (s : LoopVars) (x : LoopArgs) : Int × Int :=
  let xd := satI 32 (loopTerm (tuneWord t 5) x.r (shiftA t 5) - x.y)
  (xd, satI 32 (loopTerm (tuneWord t 2) s.d (shiftA t 2) + loopTerm (tuneWord t 3) (satI 32 (xd - s.xd)) (shiftA t 3)))

/-- ff of R115. -/
def loopFf (t : TuneSet) (x : LoopArgs) : Int :=
  loopTerm (tuneWord t 6) (satI 32 (tuneWord t 15 - x.v)) (shiftB t 0) + loopTerm (tuneWord t 7) x.a (shiftB t 1) +
    loopTerm (tuneWord t 8) x.t0 (shiftB t 2) + loopTerm (tuneWord t 9) x.t1 (shiftB t 3)

/-- p of R115. -/
def loopP (t : TuneSet) (x : LoopArgs) : Int :=
  loopTerm (tuneWord t 0) (satI 32 (loopTerm (tuneWord t 4) x.r (shiftA t 4) - x.y)) (shiftA t 0)

/-- A rate word; 0 means no limit. -/
def loopRate (t : TuneSet) (j : Nat) : Int := ((t[j]?).getD 0 : Nat)

/-- Evaluation in auto (R115); `resume` is the first tick in auto after manual (R116). -/
def loopAuto (t : TuneSet) (s : LoopVars) (x : LoopArgs) (resume intHeld : Bool) : LoopVars × LoopFlags :=
  let xdd := loopDeriv t s x
  let rest := loopP t x + xdd.2 + loopFf t x + tuneWord t 14
  let di := loopTerm (tuneWord t 1) (satI 32 (x.r - x.y)) (shiftA t 1)
  let lim (i : Int) := loopLim (satI 32 (rest + i)) (tuneWord t 12) (tuneWord t 13) s.u (loopRate t 16)
  let iNew := satI 32 (s.i + di)
  let raw := satI 32 (rest + iNew)
  let hold := !resume && (intHeld || (decide (0 < di) && decide ((lim iNew).1 < raw)) ||
    (decide (di < 0) && decide (raw < (lim iNew).1)))
  let i := if resume then satI 32 (s.u - rest) else if hold then s.i else iNew
  let u := lim i
  ({ i, d := xdd.2, xd := xdd.1, u := u.1 },
   { u.2 with intHeld := hold, accSat := decide (satI 32 (rest + i) ≠ rest + i) })

/-- Evaluation in manual (R116): d and xd keep tracking and i is unchanged. -/
def loopManual (t : TuneSet) (s : LoopVars) (x : LoopArgs) (man : Int) : LoopVars × LoopFlags :=
  let xdd := loopDeriv t s x
  let u := loopLim man (tuneWord t 12) (tuneWord t 13) s.u (loopRate t 17)
  ({ i := s.i, d := xdd.2, xd := xdd.1, u := u.1 }, u.2)

/-- A table's value before the sign rule: steps 1 to 4 of R121 over an FFTABLE payload. -/
def tableValue (b : List (BitVec 8)) (x : Int) : Int :=
  let sh := le b 1 1
  let e (j : Nat) : Int := les b (8 + 4 * j) 4
  let o := x - les b 4 4
  let periodic := bitAt (le b 0 1) 0
  let o := if periodic then o % (2 : Int) ^ (sh + 8) else o
  if o < 0 then e 0
  else if !periodic && decide (255 * (2 : Int) ^ sh ≤ o) then e 255
  else
    let j := (o / (2 : Int) ^ sh).toNat
    let f := o % (2 : Int) ^ sh
    e j + ((e ((j + 1) % 256) - e j) * f + (if sh = 0 then 0 else (2 : Int) ^ (sh - 1))) / (2 : Int) ^ sh

/-- Step 5 of R121. -/
def tableSigned (b : List (BitVec 8)) (x : Int) (down : Bool) : Int :=
  if bitAt (le b 0 1) 1 && down then satI 32 (-tableValue b x) else tableValue b x

/-- A loop's default set (R124) from its LOOPDEF record, [] where it has none. -/
def defaultTune (rec : List (BitVec 8)) : TuneSet :=
  if rec = [] then [0, 0, 0, 0, 1, 0, 0, 0, 0, 0, 0, 0, 0x80000000, 0x7FFFFFFF, 0, 0, 0, 0]
  else
    let w (o : Nat) := le rec o 4
    [w 4, w 8, w 0xC, w 0x10, 2 ^ bits (w 0x14) 20 5, 0, 0, 0, 0, 0, w 0x14 % 2 ^ 30, 0, w 0x18, w 0x1C, 0, 0, 0, 0]

end Sys2Proof.Machine
end

