-- ==== Sys2Proof/Machine/LoopEngine.lean ====
section
/-!
DEFINITION. The Loop Engine (R107 to R127).
-/
namespace Sys2Proof.Machine

/-! ### LOOPS and LOOPDEF (R108, R124) -/

/-- The number of loops that LOOPS defines. -/
def State.loopCount (s : State) : Nat := le (s.plan 0x8021 0) 0 2
def State.loopRecAt (s : State) (j : Nat) : List Byte := arrayRec (s.plan 0x8021 0) 32 j
/-- The numbers of the loops that LOOPS defines, in its order. -/
def State.loopNums (s : State) : List Nat := (List.range s.loopCount).map (fun j => le (s.loopRecAt j) 0 2)
/-- A loop's record, [] where LOOPS does not define it. -/
def State.loopRec (s : State) (n : Nat) : List Byte :=
  match (List.range s.loopCount).find? (fun j => le (s.loopRecAt j) 0 2 == n) with
  | some j => s.loopRecAt j
  | none => []
def State.loopOn (s : State) (n : Nat) : Bool := s.loopRec n != []
def State.loopFld (s : State) (n off size : Nat) : Nat := le (s.loopRec n) off size
def State.loopTask (s : State) (n : Nat) : Nat := s.loopFld n 2 1
def State.loopPeriod (s : State) (n : Nat) : Nat := s.loopFld n 4 2
def State.loopPhase (s : State) (n : Nat) : Nat := s.loopFld n 6 2
def State.loopPvSel (s : State) (n : Nat) : Nat := s.loopFld n 8 2
def State.loopOutSel (s : State) (n : Nat) : Nat := s.loopFld n 0xA 2
def State.loopSpSel (s : State) (n : Nat) : Nat := s.loopFld n 0xC 2
/-- A loop's LOOPDEF record, [] where it has none. -/
def State.loopDef (s : State) (n : Nat) : List Byte :=
  let b := s.softPlan 0x8083 0
  match (List.range (le b 0 2)).find? (fun j => le (arrayRec b 32 j) 0 2 == n) with
  | some j => arrayRec b 32 j
  | none => []

def selKind (sel : Nat) : Nat := sel / 4096
def selIdx (sel : Nat) : Nat := sel % 4096

/-! ### Physical forces on island channels (R102, R104) -/

/-- A physical target in an island: island and channel. -/
def forceIsland (tgt : Nat) : Option (Nat × Nat) :=
  if bits tgt 24 8 = 1 then some (bits tgt 8 3, bits tgt 0 3) else none

/-- The physical force on an island channel. -/
def State.forceOn (s : State) (k c : Nat) : Option Nat :=
  (s.scn.forces.find? (fun f => f.phys && (f.tgt == 0x1000000 + 256 * k + c))).map (fun f => f.val)

/-- FRC of the next loop tick (R107). -/
def State.loopNext (s : State) : Option Nat := s.lp.tick0.map (fun t => t + 50000 * (s.lp.ticks - s.lp.base))

/-- A loop behind its registers. -/
def State.loop (s : State) (n : Nat) : Loop := (Assoc.find? s.lp.loops n).getD {}

/-- Replace it. -/
def State.setLoop (s : State) (n : Nat) (x : Loop) : State :=
  { s with lp := { s.lp with loops := Assoc.insert s.lp.loops n x } }

/-- The safe value of R117. -/
def State.loopSafe (s : State) (n : Nat) : Int :=
  let out := s.loopOutSel n
  if selKind out = 1 then sgn 32 (s.chSafe (selIdx out / 8) (selIdx out % 8))
  else if selKind out = 6 then 0
  else les (s.loopRec n) 0x1C 4

/-! ### Tuning sets (R123) -/

/-- The shadow set, as the tuning registers show it. -/
def State.shadow (s : State) (n : Nat) : TuneSet :=
  (List.range 18).map (fun j => s.fileAt ((Reg.LOOP_COEF n 0).addr + 4 * j))

/-- DIRTY: the shadow set differs from the active set. -/
def State.loopDirty (s : State) (n : Nat) : State :=
  s.wrB (Reg.LOOP_TUNE_CTRL_DIRTY n) (s.shadow n != (s.loop n).active)

/-- Load the shadow set; KT0 and KT1 read 0 where the module has no tables (R122). -/
def State.setShadow (s : State) (n : Nat) (t : TuneSet) : State :=
  ((List.range 18).foldl (fun s j =>
    let v := if (j = 8 ∨ j = 9) ∧ s.cap Reg.SYS_CAPS_FFTAB = 0 then 0 else (t[j]?).getD 0
    s.wr ⟨(Reg.LOOP_COEF n 0).addr + 4 * j, 0, 32⟩ v) s).loopDirty n

/-- A COMMIT or INIT becomes pending: for the first tick at least 1 µs later, in a pair for the first at or after the
owning task's next commit (R123, R126). -/
def State.tunePend (s : State) (n master : Nat) (init : Bool) : State :=
  let at_ := if s.role = 2 ∨ s.role = 3 then none else some (s.frc + 1000)
  ((s.setLoop n { s.loop n with tune := some { at_, init, master } }).wr (Reg.LOOP_TUNE_CTRL_PENDING n) 1).wr
    (Reg.LOOP_TUNE_CTRL_ERR n) 0

/-- A write of LOOP_TUNE_CTRL. -/
def State.loopCmdWrite (s : State) (m : Master) (n v : Nat) : State :=
  if !s.loopOn n || s.notOwn m || bits v 24 8 != 0xA5 || v % 4 == 0 then s
  else if s.on (Reg.LOOP_TUNE_CTRL_PENDING n) then s.refuseWrite m (Reg.LOOP_TUNE_CTRL n).addr
  else
    let s := s.mirror m (Reg.LOOP_TUNE_CTRL n).addr v
    if v % 4 = 2 then (s.setShadow n (s.loop n).active).wr (Reg.LOOP_TUNE_CTRL_ERR n) 0
    else if v % 4 = 3 then (s.setShadow n (defaultTune (s.loopDef n))).tunePend n (s.asMaster m) true
    else if tuneWord (s.shadow n) 13 < tuneWord (s.shadow n) 12 then
      (s.wr (Reg.LOOP_TUNE_CTRL_ERR n) 1).post Un.loop 0x0506 n 1 (s.asMaster m)
    else s.tunePend n (s.asMaster m) false

/-- A write of a shadow register, word `j` of the set. -/
def State.loopShadowWrite (s : State) (m : Master) (n j v : Nat) : State :=
  if !s.loopOn n || s.notOwn m then s
  else if (j = 8 ∨ j = 9) ∧ s.cap Reg.SYS_CAPS_FFTAB = 0 then s
  else if s.on (Reg.LOOP_TUNE_CTRL_PENDING n) then s.refuseWrite m ((Reg.LOOP_COEF n 0).addr + 4 * j)
  else
    let mask := if j = 10 then 0x3FFFFFFF else if j = 11 then 0xFFFFF else if j = 16 ∨ j = 17 then 0x7FFFFFFF
      else 0xFFFFFFFF
    let s := s.mirror m ((Reg.LOOP_COEF n 0).addr + 4 * j) v
    (s.wr ⟨(Reg.LOOP_COEF n 0).addr + 4 * j, 0, 32⟩ (v &&& mask)).loopDirty n

/-- LOOP_COMMIT (R123). -/
def execLoopCommit (m : Master) (n : Fin 512) (s : State) : Answer :=
  .next (s.access m .w32 true (Reg.LOOP_TUNE_CTRL n).addr (fun s => s.loopCmdWrite m n 0xA5000001))

/-- LOOP_DISCARD (R123). -/
def execLoopDiscard (m : Master) (n : Fin 512) (s : State) : Answer :=
  .next (s.access m .w32 true (Reg.LOOP_TUNE_CTRL n).addr (fun s => s.loopCmdWrite m n 0xA5000002))

/-- LOOP_INIT (R124). -/
def execLoopInit (m : Master) (n : Fin 512) (s : State) : Answer :=
  .next (s.access m .w32 true (Reg.LOOP_TUNE_CTRL n).addr (fun s => s.loopCmdWrite m n 0xA5000003))

/-- TUNING_SET_COPY: at the loop's tick. -/
def State.loopTuneCopy (s : State) (n : Nat) : State :=
  match (s.loop n).tune with
  | some { at_ := some t, init, master } =>
    if t ≤ s.frc then
      let s := s.setLoop n { s.loop n with active := s.shadow n, tune := none }
      ((s.wr (Reg.LOOP_TUNE_CTRL_PENDING n) 0).loopDirty n).post Un.loop 0x0505 n master (b2n init)
    else s
  | _ => s

/-! ### Sources and destinations (R109, R118, R119) -/

/-- A source's value, and whether its quality is good: of a PULSE channel its FREQ, and its count where `tbl` asks for a
table index. -/
def State.loopSrc (s : State) (tbl : Bool) (sel : Nat) : Int × Bool :=
  let i := selIdx sel
  match selKind sel with
  | 1 => (if !tbl && s.chPers (i / 8) (i % 8) = 7 then (s.islFreq (i / 8) (i % 8) : Int)
      else sgn 32 (s.rd (Reg.ISL_CH_VAL (i / 8) (i % 8))),
      s.rd (Reg.ISL_CH_STAT_QUAL (i / 8) (i % 8)) == 0 && !s.islFault (i / 8))
  | 2 => (s.rd (Reg.ISL_SUPPLY_NOW i), true)
  | 3 => (s.axCountSrc i, !s.axBad i)
  | 4 => (s.axVelSrc i, !s.axBad i)
  | 5 => (satI 32 (s.axAccSrc i), true)
  | _ => (0, true)

/-- Why a destination does not follow: cause and selector of 0x0504; a passive AO carries no SAG_OFF (R322). DESIGN
CHOICE (log 187): the mode and PV_BAD of the loop that this one feeds are those before any loop of the tick is
evaluated. -/
def State.loopDest (s : State) (n : Nat) : Nat × Nat :=
  let out := s.loopOutSel n
  let k := selIdx out / 8
  let c := selIdx out % 8
  let inner := s.loopNums.find? (fun m => s.loopSpSel m == 0x7000 + n &&
    (!s.on (Reg.LOOP_STATE_MODE m) || s.on (Reg.LOOP_STATE_PV_BAD m)))
  let why :=
    if selKind out = 1 then
      if s.on (Reg.ISL_AN_STAT_COMPLIANCE k c) then 1
      else if s.on (Reg.ISL_AN_STAT_THERMAL k c) then 2
      else if s.chPers k c == 5 && s.on (Reg.ISL_STAT_SAG_OFF k) then 3
      else if s.islFault k then 4
      else 0
    else if selKind out = 6 ∧ s.axNotFollowing (selIdx out) then 6
    else 0
  if why ≠ 0 then (why, out)
  else match inner with
    | some m => (5, s.loopSpSel m)
    | none => (0, 0)

/-- Everything a due loop samples. -/
def State.loopSample (s : State) (n : Nat) : LoopSmp :=
  let pv := s.loopSrc false (s.loopPvSel n)
  let sp := s.loopSpSel n
  let acc := s.loopFld n 0x10 2
  let cmd := (s.loop n).cmd
  let d := s.loopDest n
  { y := pv.1, good := pv.2
    r := if selKind sp = 7 then sgn 32 (s.rd (Reg.LOOP_OUT (selIdx sp))) else les cmd 0 4
    v := (s.loopSrc false (s.loopFld n 0xE 2)).1
    a := if selKind acc = 8 then les cmd 8 4 else (s.loopSrc false acc).1
    x := (s.loopSrc true (s.loopFld n 0x12 2)).1
    cause := d.1, sel := d.2 }

/-! ### Ticks (R107, R112, R125) -/

/-- A loop is due at a tick. -/
def State.loopDue (s : State) (tick n : Nat) : Bool :=
  decide (s.loopPhase n ≤ tick) && (tick - s.loopPhase n) % s.loopPeriod n == 0

/-- Order of evaluation: PERIOD, then LOOP. -/
def loopInsert (key : Nat → Nat) (n : Nat) : List Nat → List Nat
  | [] => [n]
  | m :: t => if key n ≤ key m then n :: m :: t else m :: loopInsert key n t

/-- The loops due at a tick, in order of evaluation. -/
def State.loopsDue (s : State) (tick : Nat) : List Nat :=
  (s.loopNums.filter (fun n => s.loopDue tick n)).foldl
    (fun l n => loopInsert (fun m => s.loopPeriod m * 512 + m) n l) []

/-- The pending output of a due loop is applied to its destination, under a physical force (R85, R102), and enters the
CRC of R126. -/
def State.loopApply (s : State) (n : Nat) : State :=
  match (s.loop n).pend with
  | none => s
  | some u =>
    let out := s.loopOutSel n
    let w := toBits 32 u
    let s := s.wr (Reg.LOOP_OUT n) w
    let s :=
      if selKind out = 1 then
        s.setOut (selIdx out / 8) (selIdx out % 8)
          (((s.forceOn (selIdx out / 8) (selIdx out % 8)).map (fun v => v % 2 ^ 32)).getD w)
      else if selKind out = 6 then s.setAxis (selIdx out) { s.axis (selIdx out) with loopVel := u }
      else s
    { s with lp := { s.lp with crc := crc64Add s.lp.crc (leBytes 4 w) } }

/-- Table values, with the direction memory of R121. DESIGN CHOICE (log 188): a tick that misses its slot records no x. -/
def State.loopTables (s : State) (n : Nat) (x : Int) : State × Int × Int :=
  let l := s.loop n
  let down := match l.lastX with
    | some p => if x = p then l.down else decide (x < p)
    | none => l.down
  let value (j : Nat) : Int := if j = 0xFF then 0 else tableSigned (s.plan 0x8023 j) x down
  let used := s.cap Reg.SYS_CAPS_FFTAB ≠ 0 ∧ (s.loopFld n 0x14 1 ≠ 0xFF ∨ s.loopFld n 0x15 1 ≠ 0xFF)
  if used then
    (s.setLoop n { l with lastX := some x, down }, value (s.loopFld n 0x14 1), value (s.loopFld n 0x15 1))
  else (s, 0, 0)

/-- Show a loop's last evaluation. -/
def State.loopShow (s : State) (n : Nat) (f : LoopFlags) (frozen safe auto : Bool) : State :=
  let l := s.loop n
  let v := b2n auto + b2n safe * 2 ^ 4 + b2n frozen * 2 ^ 5 + b2n l.bad * 2 ^ 6 + b2n l.held * 2 ^ 7 +
    b2n f.intHeld * 2 ^ 8 + b2n f.limLo * 2 ^ 9 + b2n f.limHi * 2 ^ 10 + b2n f.rateLim * 2 ^ 11 + b2n f.accSat * 2 ^ 12
  (s.wr ⟨(Reg.LOOP_STATE n).addr, 0, 31⟩ v).wr (Reg.LOOP_INT n) (toBits 32 l.i)

/-- PV_BAD and DEST_HELD at a tick, with their codes (R118, R119). -/
def State.loopHealth (s : State) (n : Nat) (x : LoopSmp) : State :=
  let l := s.loop n
  let s := s.wr (Reg.LOOP_PV n) (toBits 32 (satI 32 x.y))
  let s :=
    if !x.good && !l.bad then s.post Un.loop 0x0502 n (s.loopPvSel n) (b2n (bitAt (s.loopFld n 3 1) 1))
    else if x.good && l.bad then s.post Un.loop 0x0503 n (min l.badN 0xFFFFFFFF) 0
    else s
  let s := if x.cause ≠ 0 ∧ !l.held then s.post Un.loop 0x0504 n x.sel x.cause else s
  s.setLoop n { l with
    bad := !x.good, badN := if x.good then 0 else if l.bad then l.badN + 1 else 1, held := x.cause != 0 }

/-- LOOP_EVALUATE (R115 to R119). -/
def State.loopEval (s : State) (n : Nat) (x : LoopSmp) : State :=
  let fresh := x.good && (s.loop n).bad
  let tb := (s.loopHealth n x).loopTables n x.x
  let s := tb.1
  let l := s.loop n
  let t := l.active
  let cmdAuto := bitAt (le l.cmd 12 4) 0
  let args : LoopArgs := { r := x.r, y := x.y, v := x.v, a := x.a, t0 := tb.2.1, t1 := tb.2.2 }
  let xd := satI 32 (loopTerm (tuneWord t 5) args.r (shiftA t 5) - args.y)
  let vars : LoopVars := { i := l.i, d := l.dPrev, xd := if fresh then xd else l.xdPrev, u := l.uPrev }
  let frozen := bitAt (s.loopFld n 3 1) 0 && s.rd (Reg.SCN_TASK_STAT_STATE (s.loopTask n)) == 3
  let done (s : State) (r : LoopVars × LoopFlags) (u : Int) (last : Nat) (frozen safe auto : Bool) : State :=
    (s.setLoop n { l with
      i := r.1.i, dPrev := r.1.d, xdPrev := r.1.xd, uPrev := u, pend := some u, last }).loopShow n r.2 frozen safe auto
  if l.safe then done s (loopManual t vars args 0) (s.loopSafe n) 0 false true false |>.loopShow n {} false true false
  else if frozen then
    let r := loopManual t vars args l.uPrev
    done s r r.1.u 0 true false false
  else if !cmdAuto then
    let r := loopManual t vars args (les l.cmd 4 4)
    done s r r.1.u 0 false false false
  else if l.bad then
    let safe := bitAt (s.loopFld n 3 1) 1
    let u := if safe then s.loopSafe n else l.uPrev
    (s.setLoop n { l with uPrev := u, pend := some u, last := 2 }).loopShow n {} false safe true
  else
    let r := loopAuto t vars args (l.last != 1) l.held
    done s r r.1.u 1 false false true

/-- LOOP_DEADLINE_FAULT (R125). DESIGN CHOICE (log 190): LOOP_PV keeps the sample of the last evaluated tick. -/
def State.loopMiss (s : State) (n demand : Nat) : State :=
  let l := s.loop n
  let s := s.setLoop n { l with pend := some l.uPrev, dl := true }
  let s := ((s.wr (Reg.LOOP_STATE_DEADLINE n) 1).bump Reg.LOOP_FAULTS).wr Reg.LOOP_STAT_OVERLOAD 1
  s.post Un.loop 0x0501 n demand (s.frc % 2 ^ 32)

/-- The due loops take their slots in order: `used` so far, of `slots` that the tick reaches; a corrected ECC error
costs one more. -/
def State.loopRun (s : State) (ecc : Nat → Bool) (slots demand : Nat) : Nat → List (Nat × LoopSmp) → State
  | _, [] => s
  | used, (n, x) :: t =>
    let cost := 1 + b2n (ecc n)
    let s := s.loopTuneCopy n
    if slots < used + cost then State.loopRun (s.loopMiss n demand) ecc slots demand used t
    else State.loopRun (s.loopEval n x) ecc slots demand (used + cost) t

/-- A due loop's samples as LOOP_SAMPLES carries them: everything that the other module evaluates from (R126). -/
def smpBytes (x : LoopSmp) : List Byte :=
  leBytes 8 (toBits 64 x.y) ++ leBytes 1 (b2n x.good) ++ leBytes 4 (toBits 32 x.r) ++ leBytes 4 (toBits 32 x.v) ++
  leBytes 4 (toBits 32 x.a) ++ leBytes 8 (toBits 64 x.x) ++ leBytes 1 x.cause ++ leBytes 2 x.sel

/-- A tick: outputs are applied, sources are sampled, and the loops are evaluated. DESIGN CHOICE (log 191): a status block
latched at the tick's instant shows the tick's evaluation. -/
def State.loopTick (s : State) (ecc : Nat → Bool) (slots : Nat) (given : Option (List LoopSmp)) : State :=
  let tick := s.lp.ticks
  let due := s.loopsDue tick
  let ascending := (List.range 512).filter (fun n => due.contains n)
  let s := ascending.foldl (fun s n => s.loopApply n) s
  let own := due.map (fun n => s.loopSample n)
  let smp := given.getD own
  let s := if s.feeds then s.banSend 0x21 (own.flatMap smpBytes) else s
  let demand := due.length + (due.filter ecc).length
  let s := s.wr Reg.LOOP_LOAD_MAXDEMAND (max (s.rd Reg.LOOP_LOAD_MAXDEMAND) (min demand 2047))
  let s := (s.wr Reg.LOOP_STAT_STATE 1).loopRun ecc slots demand 0 (due.zip smp)
  { s with lp := { s.lp with ticks := tick + 1 } }

/-- LOOP_TICK (R112): `ecc` names the loops with a corrected ECC error in their evaluation, `slots` how many slots the
48 µs bound reaches (512 unless the hardware stalls). The standby's ticks are LOOP_SAMPLES (R126). -/
def execLoopTick (ecc : List (Fin 512)) (slots : Fin 513) (s : State) : Answer :=
  match s.loopNext with
  | some at_ =>
    if s.power.running ∧ s.locked ∧ (s.inControl ∨ s.leads) then
      let s := { s with frc := max s.frc at_ }
      .next (s.loopTick (fun n => ecc.any (fun e => e.val == n)) slots none)
    else .next s
  | none => .next s

/-- LOOP_SAMPLES (R126): the standby evaluates the loops due at the tick from the active module's samples, in order of
evaluation. `ecc` and `slots` are those of its own engine: an overload on one module only shows as a digest mismatch. -/
def State.samplesTake (s : State) (samples : List LoopSmp) (ecc : List (Fin 512)) (slots : Nat) : State :=
  match s.loopNext with
  | some at_ =>
    if s.locked ∧ s.follows then
      let s := { s with frc := max s.frc at_ }
      s.loopTick (fun n => ecc.any (fun e => e.val == n)) slots (some samples)
    else s
  | none => s

/-! ### What the tasks exchange with loops (R111) -/

/-- At a commit point of the owning task, whatever the task's state, a COMMIT or INIT that waits for it in a pair acts from
the loop's next tick on (R126). -/
def State.loopArm (s : State) (t : Nat) : State :=
  s.loopNums.foldl (fun s n =>
    match (s.loop n).tune with
    | some { at_ := none, init, master } =>
      if s.loopTask n = t then s.setLoop n { s.loop n with tune := some { at_ := some s.frc, init, master } } else s
    | _ => s) s

/-- A commit of the owning task delivers its loops' command blocks, or puts them in manual at the safe value. -/
def State.loopTake (s : State) (t : Nat) (safe : Bool) (img : List Byte) : State :=
  s.loopNums.foldl (fun s n =>
    if s.loopTask n = t then
      let l := s.loop n
      s.setLoop n { l with safe, cmd := if safe then l.cmd else slice img (s.loopFld n 0x16 2) 16 }
    else s) s

/-- The status block for the input latch; DEADLINE is cleared by it. -/
def State.loopStatus (s : State) (n : Nat) : List Byte :=
  leBytes 4 (s.rd (Reg.LOOP_OUT n)) ++ leBytes 4 (s.rd (Reg.LOOP_PV n)) ++ leBytes 4 (s.rd (Reg.LOOP_INT n)) ++
  leBytes 4 (s.rd (Reg.LOOP_STATE n) % 2 ^ 13 + b2n (s.loop n).dl * 2 ^ 31)

/-- The latch has read a status block. -/
def State.loopLatched (s : State) (n : Nat) : State := s.setLoop n { s.loop n with dl := false }

/-- The busiest tick's static demand (R125). -/
def State.loopPeak (s : State) : Nat :=
  let span := s.loopNums.foldl (fun a n => Nat.lcm a (s.loopPeriod n)) 1
  let phases := (s.loopNums.map (fun n => s.loopPhase n)).foldl max 0
  (List.range span).foldl
    (fun best t => max best (s.loopNums.filter (fun n => s.loopDue (t + phases * span) n)).length) 0

/-- LOOP_STATE of every loop at lock: at the safe value where LOOPS defines the loop, else 0. -/
def State.loopLockStates (s : State) : State :=
  (List.range 512).foldl (fun s n => s.wrB (Reg.LOOP_STATE_SAFE n) (s.loopOn n)) s

/-- A loop of LOOPS takes its defaults (R124). -/
def State.loopDefaults (s : State) (n : Nat) : State :=
  let s := s.setShadow n (defaultTune (s.loopDef n))
  (s.setLoop n { active := s.shadow n }).loopDirty n

/-- The loops at lock (R107, R117, R124): every loop of LOOPS has its defaults; registers of other loops read 0. The
first tick is the first base tick after the engine's wake latency, taken at its bound of 6 µs. -/
def State.loopLock (s : State) : State :=
  let none_ : Bool := s.loopCount == 0
  let first := if none_ then none else some ((s.frc + 6000) / 250000 * 250000 + 250000)
  let unit : LoopUnit := { tick0 := first }
  let t := (({ s with lp := unit }.wr Reg.LOOP_STAT_COUNT s.loopCount).wr Reg.LOOP_LOAD_PEAK s.loopPeak).loopLockStates
  let t := s.loopNums.foldl (fun t n => t.loopDefaults n) t
  if none_ then t else t.wake .loops

end Sys2Proof.Machine
end

