-- ==== Sys2Proof/Machine/Rounds.lean ====
section
/-!
DEFINITION. Rounds self-test and the wear monitors (R426 to R437).
-/
namespace Sys2Proof.Machine

/-! ### Grants (R426, R427) -/

/-- BUDGET of a task in µs: its record's, or the default within the fit limit. -/
def State.rndBudget (s : State) (t : Nat) : Nat :=
  let b := s.softPlan 0x8081 0
  let rec_ (j : Nat) : List Byte := slice b (8 * j) 8
  match (List.range 16).find? (fun j => le (rec_ j) 0 1 == t && b != []) with
  | some j => le (rec_ j) 2 2
  | none =>
    let fit := s.taskMargin t / 1000 - (if s.taskStrict t then 24 else 4)
    min fit (min 200 (max 10 (40 * s.taskPeriod t / 4)))

/-- Grants whose window has closed leave; one that was never served is counted. -/
def State.rndExpire (s : State) : State :=
  let shut := s.rnd.grants.filter (fun g => decide (g.until_ ≤ s.frc))
  let s := s.bumpBy Reg.RND_LAPSED (shut.filter (fun g => !g.served)).length
  { s with rnd := { s.rnd with grants := s.rnd.grants.filter (fun g => decide (s.frc < g.until_)) } }

/-- A grant is issued. -/
def State.rndIssue (s : State) (us until_ : Nat) : State :=
  if us = 0 then s
  else
    let s := s.wake .rounds
    { s with rnd := { s.rnd with grants := s.rnd.grants ++ [{ left := us, until_ }] } }

/-- The grant of a task's housekeeping phase (R427): its window closes 2 µs before the next cycle start. -/
def State.rndGrant (s : State) (t next : Nat) : State :=
  if s.on Reg.RND_STAT_PAUSED then s else s.rndIssue (s.rndBudget t) (next - 2000)

/-- RND_STOP_GRANT (R427): in STOP, on each FRC multiple of 1 ms. -/
def execRndStopGrant (s : State) : Answer :=
  if s.power.running ∧ s.rd Reg.SCN_STAT_MODE = 0 ∧ s.rd Reg.RND_STAT_PAUSED = 0 then
    let up := (s.frc + 999999) / 1000000 * 1000000
    let at_ := if s.rnd.stopAt = some up then up + 1000000 else up
    let s := { s with frc := at_, rnd := { s.rnd with stopAt := some at_ } }
    .next (s.rndExpire.rndIssue 200 (at_ + 1000000))
  else .next s

/-- RND_GRANT_CLOSE (R427): the oldest grant's window closes. -/
def execRndGrantClose (s : State) : Answer :=
  match s.rnd.grants with
  | [] => .next s
  | g :: _ => .next { s with frc := max s.frc g.until_ }.rndExpire

/-! ### Items (R431) -/

/-- The output-stage tests are not run on a standby, COLD or ISOLATED module; nor, taken likewise, before a role is
settled. -/
def State.rndStandby (s : State) : Bool := !s.inControl

/-- Work of an item in µs. -/
def State.rndWork (s : State) (i : Nat) : Nat :=
  1000000 * ([200, 24, 8, 40, 120, 8, 16, 40, 8, 8, 24, 8, if s.rndStandby then 20 else 32, 8, 16, 8, 8].getD i 0)

/-- Coverage of an item in per cent. -/
def State.rndCoverage (s : State) (i : Nat) : Nat :=
  [99, 99, 99, 99, 99, 97, 97, 97, 95, 95, 90, 90, if s.rndStandby then 70 else 90, 95, 90, 90, 90].getD i 0

/-- An item of an absent unit is not applicable. -/
def State.rndApplies (s : State) (i : Nat) : Bool :=
  (i != 7 || s.capOn Reg.SYS_CAPS_SLV) && (i != 14 || s.capOn Reg.SYS_CAPS_NB)

/-- COVERAGE shows the module's present role. -/
def State.rndRole (s : State) : State :=
  (List.range 17).foldl (fun s i => s.wr (Reg.RND_ITEM_COVERAGE i) (if s.rndApplies i then s.rndCoverage i else 0)) s

/-- After a reset a new pass starts at item 0 with every item not yet run (R430). -/
def State.rndReset (s : State) : State :=
  let s : State := { s with rnd := { startAt := s.opTime } }
  ((List.range 17).foldl (fun s i => s.wr (Reg.RND_ITEM_STATE i) (b2n (s.rndApplies i))) s).rndRole

def Rnd.workOf (r : Rnd) (i : Nat) : Nat := (Assoc.find? r.work i).getD 0

/-- An item is done in this pass. -/
def State.rndDone (s : State) (i : Nat) : Bool :=
  !s.rndApplies i || s.rnd.ended.contains i || decide (s.rndWork i ≤ s.rnd.workOf i)

/-- The items that may take the next step, in order: the item in progress and those after it, then those passed over. -/
def State.rndNext (s : State) : List Nat := (List.range 17).filter (fun i => !s.rndDone i)

/-- ITEM, PROGRESS and FAILED. -/
def State.rndShow (s : State) : State :=
  let total := ((List.range 17).map (fun i => if s.rndApplies i then s.rndWork i else 0)).sum
  let done := ((List.range 17).map (fun i =>
    if s.rnd.ended.contains i then s.rndWork i else min (s.rnd.workOf i) (s.rndWork i))).sum
  let s := s.wr Reg.RND_STAT_PROGRESS (done * 1000 / max total 1)
  let s := s.wr Reg.RND_STAT_ITEM ((s.rndNext.head?).getD 0)
  s.wrB Reg.RND_STAT_FAILED ((List.range 17).any (fun i => s.rd (Reg.RND_ITEM_STATE i) == 3))

/-- Operating hours. -/
def State.hours (s : State) : Nat := s.opTime / 1024 / 3600

/-- RND_PASS_COMPLETE (R433): the next pass starts at item 0 at once. -/
def State.rndPass (s : State) : State :=
  if s.rndNext = [] then
    let secs := (s.opTime - s.rnd.startAt) / 1024
    let failed := ((List.range 17).map (fun i => b2n (s.rd (Reg.RND_ITEM_STATE i) == 3) * 2 ^ i)).sum
    let s := ((s.bump Reg.RND_PASS).wr Reg.RND_LAST secs).wr Reg.RND_STAT_LATE 0
    let s := s.post Un.rnd 0x1102 (s.rd Reg.RND_PASS) secs failed
    { s with rnd := { s.rnd with work := [], steps := [], ended := [], startAt := s.opTime, late := false } }
  else s

/-- The wake latency of the unit that an item tests, in µs, where it is gated (R24, R428). -/
def State.rndWake (s : State) (i : Nat) : Nat :=
  if i = 7 ∧ (s.gate .solver).gated then 18
  else if i = 6 ∧ (s.gate .loops).gated then 6
  else if i = 8 ∧ (s.gate .axes).gated then 4
  else if i = 13 ∧ (s.gate .guestbook).gated then 3
  else if i = 14 ∧ (s.gate .noticeboard).gated then 40
  else if i = 4 ∧ (List.finRange 4).any (fun n => (s.gate (.core n)).gated) then 1
  else if i = 5 ∧ (s.gate .scan).gated then 1
  else if i = 10 ∧ (List.finRange 8).any (fun n => (s.gate (.can n)).gated || (s.gate (.serial n)).gated) then 2
  else 0

/-- The step wakes the unit. -/
def State.rndWakes (s : State) (i : Nat) : State :=
  if i = 7 then s.wake .solver
  else if i = 6 then s.wake .loops
  else if i = 8 then s.wake .axes
  else if i = 13 then s.wake .guestbook
  else if i = 14 then s.wake .noticeboard
  else if i = 4 then (List.finRange 4).foldl (fun s n => s.wake (.core n)) s
  else if i = 5 then s.wake .scan
  else if i = 10 then (List.finRange 8).foldl (fun s n => (s.wake (.can n)).wake (.serial n)) s
  else s

/-- RND_ITEM_FAIL (R432). -/
def State.rndFail (s : State) (i detail : Nat) : State :=
  let s := (s.wr (Reg.RND_ITEM_STATE i) 3).bump (Reg.RND_ITEM_FAILS i)
  let s := s.post Un.rnd 0x1101 i ((Assoc.find? s.rnd.steps i).getD 0) detail
  { s with rnd := { s.rnd with ended := i :: s.rnd.ended } }

/-- RND_PASS_LATE (R433): the pass has run longer than LIMIT_H operating hours. -/
def execRndPassLate (s : State) : Answer :=
  let limit := s.rd Reg.RND_CTRL_LIMIT_H
  if s.power.running ∧ limit ≠ 0 ∧ !s.rnd.late then
    let s := s.waitOp (s.rnd.startAt + limit * 3600 * 1024 + 1)
    let s := (s.wr Reg.RND_STAT_LATE 1).post Un.rnd 0x1103 (s.rd Reg.RND_STAT_ITEM) (s.rd Reg.RND_STAT_PROGRESS) limit
    .next { s with rnd := { s.rnd with late := true } }
  else .next s

/-! ### Wear (R434 to R436) -/

/-- Limit of an indicator. -/
def wearLimit (i : Nat) : Nat :=
  if i < 0x40 then 540000000
  else if i < 0x80 then 1000000000
  else if i < 0xC0 then 1500000000
  else [1000000000000, 3000, 700, 5000000, 1000000000000, 1000].getD (i - 0xC0) 0

def wearFalling (i : Nat) : Bool := i == 0xC2

def State.wearQ (s : State) (i : Nat) : Nat := s.rd64 (Reg.WR_Q_LO i) (Reg.WR_Q_HI i)
def State.setWearQ (s : State) (i v : Nat) : State := s.wr64 (Reg.WR_Q_LO i) (Reg.WR_Q_HI i) v

/-- Whether the present personality uses an indicator's hardware, and the hardware is there. -/
def State.wearUsed (s : State) (i : Nat) : Bool :=
  let k := i % 64 / 8
  let p := s.chPers k (i % 8)
  if i < 0x40 then s.islFitted k && persAo p
  else if i < 0xC0 then s.islFitted k && persDo p
  else (i != 0xC3 && i != 0xC4) || s.capOn Reg.SYS_CAPS_NB

/-- WARN and EOL of WR_STAT. -/
def State.wearSummary (s : State) : State :=
  let n (f : Nat → Bool) : Nat := ((List.range 0xC6).filter f).length
  (s.wr Reg.WR_STAT_WARN (n (fun i => s.on (Reg.WR_INFO_WARN i)))).wr Reg.WR_STAT_EOL
    (n (fun i => s.rd (Reg.WR_INFO_STATE i) == 3))

def State.wearSamples (s : State) (i : Nat) : List (Nat × Nat) := (Assoc.find? s.wear.samples i).getD []

/-- STATE and REMAIN by the table of R436. -/
def State.wearPredict (s : State) (i : Nat) : Nat × Nat :=
  let l := s.wearSamples i
  match l with
  | [] => (1, 0xFFFFFFFF)
  | (tn, qn) :: _ =>
    let lim := wearLimit i
    let beyond : Bool := if wearFalling i then decide (qn ≤ lim) else decide (lim ≤ qn)
    match (l.filter (fun e => decide (tn ≤ e.1 + 1000))).getLast? with
    | none => (1, 0xFFFFFFFF)
    | some (t0, q0) =>
      let dt := tn - t0
      if dt < 100 ∨ l.length < 2 then (1, 0xFFFFFFFF)
      else if beyond then (3, 0)
      else if wearFalling i then
        if q0 ≤ qn then (2, 0xFFFFFFFE) else (2, min 0xFFFFFFF0 ((qn - lim) * dt / (q0 - qn)))
      else if qn ≤ q0 then (2, 0xFFFFFFFE)
      else (2, min 0xFFFFFFF0 ((lim - qn) * dt / (qn - q0)))

/-- Show an indicator's prediction, with its warnings. -/
def State.wearShow (s : State) (i : Nat) : State :=
  if !s.wearUsed i then ((s.wr (Reg.WR_INFO_STATE i) 0).wr (Reg.WR_INFO_WARN i) 0)
  else
    let p := s.wearPredict i
    let warnH := s.rd Reg.WR_CTRL_WARN_H
    let warn : Bool := decide (p.2 < warnH)
    let s := (s.wr (Reg.WR_INFO_STATE i) p.1).wr (Reg.WR_REMAIN i) p.2
    let s := (s.wrB (Reg.WR_INFO_WARN i) warn).wr (Reg.WR_INFO_SAMPLES i) (s.wearSamples i).length
    let q := s.wearQ i
    let s := if warn && !s.wear.warned.contains i then s.post Un.wr 0x1110 i p.2 q else s
    let s := if p.1 == 3 && !s.wear.ended.contains i then s.post Un.wr 0x1111 i q (min (wearLimit i) 0xFFFFFFFF) else s
    let w := s.wear.warned.filter (fun j => j != i)
    { s with wear := { s.wear with
        warned := if warn then i :: w else w
        ended := if p.1 == 3 && !s.wear.ended.contains i then i :: s.wear.ended else s.wear.ended } }

/-- Store a sample and form the prediction. -/
def State.wearStore (s : State) (i : Nat) : State :=
  let l := ((s.hours, s.wearQ i) :: s.wearSamples i).take 101
  { s with wear := { s.wear with samples := Assoc.insert s.wear.samples i l } }.wearShow i

/-- The mean |RATE| of the class-1 source in ppb over the time it was LOCKED in the period; none where it never was
(R434, R435). -/
def State.driftMean (s : State) : Option Nat :=
  if s.wear.drift.2 = 0 then none else some (s.wear.drift.1 * 1000000000 / (s.wear.drift.2 * 2 ^ 40))

/-- WEAR_SAMPLE (R434 to R436), every 10 operating hours: `mram` writes to the most-written MRAM region since the last
sample, and the highest erase count that the flash reports. Indicators whose hardware is not used keep their state; hold-up
capacitance is sampled at power-down. -/
def execWearSample (mram flash : Nat) (s : State) : Answer :=
  if !s.power.running then .next s
  else
    let n := max (s.wear.period + 1) (s.opTime / 36864000)
    let s := (s.waitOp (n * 36864000)).driftCount
    let s := (s.setWearQ 0xC0 (s.wearQ 0xC0 + mram)).setWearQ 0xC1 flash
    let mean := s.driftMean
    let s : State := match mean with
      | some v => s.setWearQ 0xC5 v
      | none => s
    let s := { s with wear := { s.wear with period := n, drift := (0, 0) } }
    let due := (List.range 0xC6).filter (fun i => i != 0xC2 && (i != 0xC5 || mean.isSome))
    .next (due.foldl (fun s i => s.wearStore i) s).wearSummary

/-- At lock, the indicators that the personalities use are shown (R434). -/
def State.wearLock (s : State) : State := ((List.range 0xC6).foldl (fun s i => s.wearShow i) s).wearSummary

/-- Hold-up capacitance measured at an orderly power-down (R435, R436): ‰, load in W × 10, whether the supply
returned during the decay. -/
def State.wearHoldup (s : State) (permille load10 : Nat) (returned : Bool) : State :=
  let s := if returned then s else (s.setWearQ 0xC2 permille).wearStore 0xC2
  s.wearSummary.post Un.wr 0x1112 permille load10 (b2n returned)

/-- The thermal stress of one channel over a second. -/
def State.wearStress (s : State) (n : Nat) : State :=
  let h := (s.island (n / 8)).chan (n % 8)
  let t := (h.temp - 850).toNat + (Assoc.find? s.wear.tenths n).getD 0
  let s := s.setWearQ n (s.wearQ n + t / 10)
  { s with wear := { s.wear with tenths := Assoc.insert s.wear.tenths n (t % 10) } }

/-- THERMAL_STRESS_UPDATE (R434): each second, for every AO stage. -/
def execThermalStressUpdate (s : State) : Answer :=
  if s.power.running then
    let s := { s with frc := max s.frc (s.rnd.heatAt + 1000000000) }
    let s := { s with rnd := { s.rnd with heatAt := s.frc } }
    .next (((List.range 64).filter (fun n => persAo (s.chPers (n / 8) (n % 8)))).foldl (fun s n => s.wearStress n) s)
  else .next s

end Sys2Proof.Machine
end

