-- ==== Sys2Proof/Machine/Float64.lean ====
section
/-!
DEFINITION. IEEE 754 binary64 arithmetic as the Solver uses it (R142, R143): round to nearest, ties to even, subnormals
kept. Numbers are their 64-bit patterns. A result that is an infinity or a NaN, and every result formed from one, is
the one pattern `fBad`, which the Solver discards.
-/
namespace Sys2Proof.Machine

/-- A discarded result. -/
def fBad : Nat := 0x7FF8000000000000

/-- Not an infinity or a NaN. -/
def fFinite (a : Nat) : Bool := bits a 52 11 != 2047

/-- Sign, and magnitude in units of 2^-1074. -/
def fNeg (a : Nat) : Bool := bitAt a 63
def fMag (a : Nat) : Nat :=
  if bits a 52 11 = 0 then bits a 0 52 else (2 ^ 52 + bits a 0 52) * 2 ^ (bits a 52 11 - 1)

/-- A finite number as an integer in units of 2^-1074. -/
def fInt (a : Nat) : Int := if fNeg a then -(fMag a : Int) else fMag a

/-- The number n / d in units of 2^-1074, rounded. -/
def fRound (neg : Bool) (n d : Nat) : Nat :=
  let sign := if neg then 2 ^ 63 else 0
  if n = 0 ∨ d = 0 then sign
  else
    -- the least exponent whose quotient stays below 2^53
    let e0 := Nat.log2 n - (Nat.log2 d + 53)
    let e := if n / (d * 2 ^ e0) < 2 ^ 53 then e0 else e0 + 1
    let den := d * 2 ^ e
    let q := n / den
    let r := n % den
    let q := if den < 2 * r ∨ (2 * r = den ∧ q % 2 = 1) then q + 1 else q
    let v := if q < 2 ^ 52 then q else if q = 2 ^ 53 then (e + 2) * 2 ^ 52 else (e + 1) * 2 ^ 52 + (q - 2 ^ 52)
    if 2047 * 2 ^ 52 ≤ v then fBad else sign + v

/-- A sum in units of 2^-1074 / `d`, with the sign of an exact zero. -/
def fRoundInt (v : Int) (d : Nat) (zeroNeg : Bool) : Nat :=
  if v = 0 then (if zeroNeg then 2 ^ 63 else 0) else fRound (decide (v < 0)) v.natAbs d

/-- Fused multiply-add a × b + c. -/
def fFma (a b c : Nat) : Nat :=
  if !(fFinite a && fFinite b && fFinite c) then fBad
  else fRoundInt (fInt a * fInt b + fInt c * (2 : Int) ^ 1074) (2 ^ 1074) ((fNeg a != fNeg b) && fNeg c)

/-- 1.0. -/
def fOne : Nat := 0x3FF0000000000000

def fMul (a b : Nat) : Nat :=
  if fFinite a && fFinite b then fRoundInt (fInt a * fInt b) (2 ^ 1074) (fNeg a != fNeg b) else fBad
def fAdd (a b : Nat) : Nat := fFma fOne a b
def fMinus (a : Nat) : Nat := a ^^^ 2 ^ 63
def fSub (a b : Nat) : Nat := fAdd a (fMinus b)

/-- Division by a number that is not 0. -/
def fDiv (a b : Nat) : Nat :=
  if !(fFinite a && fFinite b) || fMag b == 0 then fBad
  else if fMag a = 0 then (if fNeg a != fNeg b then 2 ^ 63 else 0)
  else fRound (fNeg a != fNeg b) (fMag a * 2 ^ 1074) (fMag b)

/-- The integer square root by one bit at a time, for numbers below 2^(2 n). -/
def isqrtBits (n v : Nat) : Nat :=
  (List.range n).reverse.foldl (fun r k => if (r + 2 ^ k) * (r + 2 ^ k) ≤ v then r + 2 ^ k else r) 0

/-- Square root of a number that is not negative: the root of its magnitude with 64 further bits, the last of them
sticky, rounded once. -/
def fSqrt (a : Nat) : Nat :=
  if !fFinite a then fBad
  else if fMag a = 0 then a
  else
    -- mag × 2^-1074 = (r × 2^-(537 + k))^2, with k chosen so that r has at least 60 bits
    let v := fMag a * 2 ^ 1202
    let r := isqrtBits 1660 v
    let r2 := 2 * r + (if r * r = v then 0 else 1)
    fRound false (r2 * 2 ^ 1074) (2 ^ 1139)

/-- Order of finite numbers; both zeros are equal. -/
def fLt (a b : Nat) : Bool := decide (fInt a < fInt b)
def fLe (a b : Nat) : Bool := decide (fInt a ≤ fInt b)
def fAbs (a : Nat) : Nat := a % 2 ^ 63
def fMax (a b : Nat) : Nat := if fLt a b then b else a
def fMin (a b : Nat) : Nat := if fLt b a then b else a
def fIsZero (a : Nat) : Bool := fMag a == 0

/-- The eight lane sums of R143: element k goes to lane k mod 8. -/
def fLanes : Nat → List Nat → List Nat → List Nat → List Nat
  | k, acc, a :: as, b :: bs => fLanes (k + 1) (acc.modify (k % 8) (fun s => fFma a b s)) as bs
  | _, acc, _, _ => acc

/-- Combination of the lanes. -/
def fCombine (l : List Nat) : Nat :=
  let g (n : Nat) : Nat := (l[n]?).getD 0
  fAdd (fAdd (fAdd (g 0) (g 1)) (fAdd (g 2) (g 3))) (fAdd (fAdd (g 4) (g 5)) (fAdd (g 6) (g 7)))

/-- A dot product (R143). -/
def fDot (a b : List Nat) : Nat := fCombine (fLanes 0 (List.replicate 8 0) a b)

end Sys2Proof.Machine
end

