-- ==== Sys2Proof/Machine/SolverMath.lean ====
section
/-!
DEFINITION. The Dispatch Solver's method (R138 to R141, R148, R151 to R153) over a loaded problem.

The factor of K_W is held and changed by updates (R139). The spec gives no order of operations inside a rank-one
update, so the last bits of a result after one are the model's: DESIGN CHOICE, log 90.
-/
namespace Sys2Proof.Machine

/-! ### The problem -/

/-- An entry of the symmetric H, with δ on its diagonal (R128, R152). -/
def SlvProblem.hEl (q : SlvProblem) (i j : Nat) : Nat :=
  let v := (q.h[if j ≤ i then i * (i + 1) / 2 + j else j * (j + 1) / 2 + i]?).getD 0
  if i = j ∧ q.delta ≠ 0 then fAdd v q.delta else v

def SlvProblem.hRow (q : SlvProblem) (i : Nat) : List Nat := (List.range q.n).map (q.hEl i)
def SlvProblem.type (q : SlvProblem) (j : Nat) : Nat := (q.types[j]?).getD 0
def SlvProblem.lbAt (q : SlvProblem) (j : Nat) : Nat := (q.lb[j]?).getD 0
def SlvProblem.ubAt (q : SlvProblem) (j : Nat) : Nat := (q.ub[j]?).getD 0

/-- A member that is a row. -/
def slvIsRow : SlvMember → Bool
  | .row _ => true
  | .eq _ => true
  | _ => false

/-- The constraint index by which ties are broken: bounds by variable, lower before upper, then inequality rows. -/
def slvIndex : SlvMember → Nat
  | .lower j => 2 * j
  | .upper j => 2 * j + 1
  | .row i => 512 + i
  | .eq i => 1024 + i

/-- A member's normal: the row, or ±1 at its variable. -/
def SlvProblem.vec (q : SlvProblem) : SlvMember → List Nat
  | .row i => (q.a.drop (i * q.n)).take q.n
  | .eq i => (q.ae.drop (i * q.n)).take q.n
  | .lower j => (List.range q.n).map (fun k => if k = j then fMinus fOne else 0)
  | .upper j => (List.range q.n).map (fun k => if k = j then fOne else 0)

/-- A row's right-hand side. -/
def SlvProblem.rhs (q : SlvProblem) : SlvMember → Nat
  | .row i => (q.b[i]?).getD 0
  | .eq i => (q.be[i]?).getD 0
  | .lower j => fMinus (q.lbAt j)
  | .upper j => q.ubAt j

/-- A row's norm. -/
def SlvProblem.norm (q : SlvProblem) : SlvMember → Nat
  | .row i => (q.norms[i]?).getD 0
  | .eq i => (q.normsE[i]?).getD 0
  | _ => fOne

/-- Where a variable is fixed: by its type, or by a working bound (R138). -/
def SlvProblem.fixedAt (q : SlvProblem) (w : List SlvMember) (j : Nat) : Option Nat :=
  if q.type j = 4 then some (q.lbAt j)
  else if w.contains (.lower j) then some (q.lbAt j)
  else if w.contains (.upper j) then some (q.ubAt j)
  else none

/-- The free variables F, ascending. -/
def SlvProblem.frees (q : SlvProblem) (w : List SlvMember) : List Nat :=
  (List.range q.n).filter (fun j => (q.fixedAt w j).isNone)

/-- d_max (R151). -/
def SlvProblem.dMax (q : SlvProblem) : Nat :=
  let d := (List.range q.n).foldl (fun (a : Nat) i => fMax a (fAbs ((q.h[i * (i + 1) / 2 + i]?).getD 0))) 0
  if fIsZero d then fOne else d

/-! ### The factor (R138, R139, R140, R151, R153) -/

/-- What a factorisation or an update answers. -/
inductive SlvFactored where
  | ok (f : SlvFactor)
  | zeroPivot
  | dependent
  | ended (status detail : Nat)
  deriving DecidableEq, Repr

/-- One row of the matrix is eliminated by the rows before it: its entries times their pivots, its L row, and its
pivot. -/
def slvEliminate (rows : List SlvFactorRow) (k : List Nat) (diag : Nat) : List Nat × List Nat × Nat :=
  let ul := (rows.zip k).foldl (fun (x : List Nat × List Nat) (e : SlvFactorRow × Nat) =>
    let u := fSub e.2 (fDot x.1 e.1.l)
    (x.1 ++ [u], x.2 ++ [fMul u e.1.r])) (([], []) : List Nat × List Nat)
  (ul.1, ul.2, fSub diag (fDot ul.1 ul.2))

/-- 2^-1023. -/
def slvTiny : Nat := 0x0008000000000000

/-- floor_c of a row (R140). -/
def SlvProblem.floorC (q : SlvProblem) (rel : Nat) (c : SlvMember) : Nat :=
  fDiv (fMul rel (fMul (q.norm c) (q.norm c))) q.dMax

/-- Whether a pivot is refused: that of a variable by R151, that of a working row, where `strict`, by R140, either by
R142 and R153. -/
def SlvProblem.judge (q : SlvProblem) (rel : Nat) (strict : Bool) (kind : Option SlvMember) (d : Nat) :
    Option SlvFactored :=
  let overflow : SlvFactored := .ended 0x0B 0x09
  let tiny : Option SlvFactored := if fLt (fAbs d) slvTiny then some (.ended 0x0B 0x08) else none
  if !fFinite d then some overflow
  else match kind with
    | none =>
      let floor := fMul rel q.dMax
      if fLt (fAbs d) floor then some .zeroPivot
      else if fLe d (fMinus floor) then some (.ended 0x0A 0x0C)
      else tiny
    | some c =>
      if !fFinite (q.floorC rel c) then some overflow
      else if strict && fLt (fMinus (q.floorC rel c)) d then some .dependent
      else tiny

/-- The order of a factor. -/
def SlvFactor.order (f : SlvFactor) : Nat := f.vars.length + f.cons.length

/-- A member's entries in the columns of the free variables. -/
def SlvProblem.onVars (q : SlvProblem) (f : SlvFactor) (c : SlvMember) : List Nat :=
  let v := q.vec c
  f.vars.map (fun j => (v[j]?).getD 0)

/-- A variable is appended to a factor that has no working row yet. -/
def SlvProblem.appendVar (q : SlvProblem) (rel : Nat) (f : SlvFactor) (j : Nat) : SlvFactored :=
  let e := slvEliminate f.rows (f.vars.map (q.hEl j)) (q.hEl j j)
  match q.judge rel false none e.2.2 with
  | some r => r
  | none => .ok { f with rows := f.rows ++ [{ l := e.2.1, d := e.2.2, r := fDiv fOne e.2.2 }], vars := f.vars ++ [j] }

/-- A row is appended to W: one border row and one pivot (R139). A row of norm 0 is dependent on any W. -/
def SlvProblem.appendRow (q : SlvProblem) (rel : Nat) (strict : Bool) (f : SlvFactor) (c : SlvMember) : SlvFactored :=
  let e := slvEliminate f.rows (q.onVars f c ++ List.replicate f.cons.length 0) 0
  if strict && fIsZero (q.norm c) then .dependent
  else match q.judge rel strict (some c) e.2.2 with
    | some r => r
    | none => .ok { f with
        rows := f.rows ++ [{ l := e.2.1, d := e.2.2, r := fDiv fOne e.2.2 }], cons := f.cons ++ [c]
        updates := f.updates + 1 }

/-- The full factorisation of K_W from the loaded data: the free variables, then the working rows as they entered. -/
def SlvProblem.factor (q : SlvProblem) (rel : Nat) (w : List SlvMember) : SlvFactored :=
  let vars := (q.frees w).foldl (fun (x : SlvFactored) j => match x with
    | .ok f => q.appendVar rel f j
    | other => other) (.ok {})
  match (w.filter slvIsRow).foldl (fun (x : SlvFactored) c => match x with
    | .ok f => q.appendRow rel false f c
    | other => other) vars with
  | .ok f => .ok { f with updates := 0 }
  | other => other

/-- A row behind the place of an update: its finished entries, the entries still to be updated, its pivot, and its entry
of the vector that is added or taken. -/
structure SlvTrail where
  pre  : List Nat
  rest : List Nat
  d    : Nat
  w    : Nat
  deriving DecidableEq, Repr

/-- The rank-one update of the trailing factor by alpha × w wᵀ, column by column: `kinds` are the members of the
trailing pivots, none for a variable. The order of its operations is the model's: DESIGN CHOICE, log 90. -/
def SlvProblem.rankOne (q : SlvProblem) (rel : Nat) (strict : Bool) :
    List (Option SlvMember) → Nat → List SlvFactorRow → List SlvTrail → Option SlvFactored × List SlvFactorRow
  | kind :: kinds, alpha, rows, t :: ts =>
    let s := fMul alpha t.w
    let d := fFma s t.w t.d
    match q.judge rel strict kind d with
    | some r => (some r, rows)
    | none =>
      let r := fDiv fOne d
      let beta := fMul s r
      let next := ts.map (fun (u : SlvTrail) =>
        let l := u.rest.headD 0
        let w := fFma (fMinus t.w) l u.w
        { u with pre := u.pre ++ [fFma beta w l], rest := u.rest.drop 1, w })
      SlvProblem.rankOne q rel strict kinds (fMul alpha (fMul t.d r)) (rows ++ [{ l := t.pre, d, r }]) next
  | _, _, rows, _ => (none, rows)

/-- The row and column at a place are deleted (R139). -/
def SlvProblem.deleteAt (q : SlvProblem) (rel : Nat) (strict : Bool) (f : SlvFactor) (i : Nat) : SlvFactored :=
  match f.rows[i]? with
  | none => .ok f
  | some x =>
    let vars := if i < f.vars.length then f.vars.eraseIdx i else f.vars
    let cons := if i < f.vars.length then f.cons else f.cons.eraseIdx (i - f.vars.length)
    let kinds := (vars.map (fun _ => none) ++ cons.map some).drop i
    let trails : List SlvTrail := (f.rows.drop (i + 1)).map (fun (u : SlvFactorRow) =>
      { pre := u.l.take i, rest := u.l.drop (i + 1), d := u.d, w := (u.l[i]?).getD 0 })
    match q.rankOne rel strict kinds x.d (f.rows.take i) trails with
    | (some r, _) => r
    | (none, rows) => .ok { rows, vars, cons, updates := f.updates + 1 }

/-- A variable's row and column come back at its place among the free variables (R139). -/
def SlvProblem.insertVar (q : SlvProblem) (rel : Nat) (f : SlvFactor) (j : Nat) : SlvFactored :=
  let i := (f.vars.filter (fun k => decide (k < j))).length
  let e := slvEliminate (f.rows.take i) ((f.vars.take i).map (q.hEl j)) (q.hEl j j)
  match q.judge rel false none e.2.2 with
  | some r => r
  | none =>
    let row : SlvFactorRow := { l := e.2.1, d := e.2.2, r := fDiv fOne e.2.2 }
    let col := ((f.vars.drop i).map (q.hEl j)) ++ f.cons.map (fun c => ((q.vec c)[j]?).getD 0)
    let trails : List SlvTrail := ((f.rows.drop i).zip col).map (fun (u : SlvFactorRow × Nat) =>
      let w := fMul (fSub u.2 (fDot (u.1.l.take i) e.1)) row.r
      { pre := u.1.l.take i ++ [w], rest := u.1.l.drop i, d := u.1.d, w })
    let kinds := (f.vars.drop i).map (fun _ => none) ++ f.cons.map some
    match q.rankOne rel false kinds (fMinus row.d) (f.rows.take i ++ [row]) trails with
    | (some r, _) => r
    | (none, rows) => .ok { rows, vars := f.vars.take i ++ [j] ++ f.vars.drop i, cons := f.cons, updates := f.updates + 1 }

/-- A member enters W by an update. -/
def SlvProblem.addMember (q : SlvProblem) (rel : Nat) (strict : Bool) (f : SlvFactor) : SlvMember → SlvFactored
  | .lower j => if f.vars.contains j then q.deleteAt rel strict f (f.vars.idxOf j) else .dependent
  | .upper j => if f.vars.contains j then q.deleteAt rel strict f (f.vars.idxOf j) else .dependent
  | c => q.appendRow rel strict f c

/-- A member leaves W by an update. -/
def SlvProblem.dropMember (q : SlvProblem) (rel : Nat) (f : SlvFactor) : SlvMember → SlvFactored
  | .lower j => q.insertVar rel f j
  | .upper j => q.insertVar rel f j
  | c => q.deleteAt rel false f (f.vars.length + f.cons.idxOf c)

/-- Solve with the factor: forward substitution, the reciprocals, backward substitution. -/
def slvSolve (rows : List SlvFactorRow) (rhs : List Nat) : List Nat :=
  let y := (rows.zip rhs).foldl (fun (ys : List Nat) (e : SlvFactorRow × Nat) => ys ++ [fSub e.2 (fDot e.1.l ys)]) []
  let z := (rows.zip y).map (fun (e : SlvFactorRow × Nat) => fMul e.2 e.1.r)
  (List.range rows.length).reverse.foldl (fun (xs : List Nat) i =>
    let col := (rows.drop (i + 1)).map (fun (e : SlvFactorRow) => (e.l[i]?).getD 0)
    fSub ((z[i]?).getD 0) (fDot col xs) :: xs) []

/-! ### A solve of the working set -/

/-- x and the multipliers of W: of its rows as solved, of its bounds from stationarity (R130). -/
structure SlvSolution where
  x    : List Nat
  mult : List (SlvMember × Nat)
  nu   : List Nat
  deriving DecidableEq, Repr

/-- The solution of K_W. -/
def SlvProblem.solution (q : SlvProblem) (w : List SlvMember) (f : SlvFactor) : SlvSolution :=
  let vars := f.vars
  let cons := f.cons
  let fix := (List.range q.n).filterMap (fun j => (q.fixedAt w j).map (fun v => (j, v)))
  let at_ (v : List Nat) : Nat := fDot (fix.map (fun (e : Nat × Nat) => (v[e.1]?).getD 0)) (fix.map (fun (e : Nat × Nat) => e.2))
  let rhs := vars.map (fun j => fSub (fMinus ((q.f[j]?).getD 0)) (at_ (q.hRow j))) ++
    cons.map (fun c => fSub (q.rhs c) (at_ (q.vec c)))
  let sol := slvSolve f.rows rhs
  let x := (List.range q.n).map (fun j => match q.fixedAt w j with
    | some v => v
    | none => (sol[vars.idxOf j]?).getD 0)
  let ms := sol.drop vars.length
  let nuAt (j : Nat) : Nat :=
    if (q.fixedAt w j).isNone then 0
    else fMinus (fAdd (fAdd (fDot (q.hRow j) x) ((q.f[j]?).getD 0))
      (fDot (cons.map (fun c => ((q.vec c)[j]?).getD 0)) ms))
  let nu := (List.range q.n).map nuAt
  let own (c : SlvMember) : Nat := match c with
    | .lower j => fMinus ((nu[j]?).getD 0)
    | .upper j => (nu[j]?).getD 0
    | c => (ms[cons.idxOf c]?).getD 0
  { x, mult := w.map (fun c => (c, own c)), nu }

/-- ½xᵀHx + fᵀx. -/
def SlvProblem.obj (q : SlvProblem) (x : List Nat) : Nat :=
  let hx := (List.range q.n).map (fun i => fDot (q.hRow i) x)
  fAdd (fMul 0x3FE0000000000000 (fDot x hx)) (fDot q.f x)

/-- Every enforced bound and inequality row, in index order. -/
def SlvProblem.enforced (q : SlvProblem) : List SlvMember :=
  (List.range q.n).flatMap (fun j =>
    (if q.type j = 1 ∨ q.type j = 3 then [SlvMember.lower j] else []) ++
    (if q.type j = 2 ∨ q.type j = 3 then [SlvMember.upper j] else [])) ++
  ((List.range q.m).filter (fun i => q.type (q.n + i) == 0)).map (fun i => SlvMember.row i)

/-- Those that can enter W: a row of norm 0 is judged at step 8 of R137 and ranks nowhere. -/
def SlvProblem.members (q : SlvProblem) : List SlvMember := q.enforced.filter (fun c => !fIsZero (q.norm c))

/-- By how much x violates a member: its normal times x less its right-hand side. -/
def SlvProblem.violation (q : SlvProblem) (x : List Nat) : SlvMember → Nat
  | .lower j => fSub (q.lbAt j) ((x[j]?).getD 0)
  | .upper j => fSub ((x[j]?).getD 0) (q.ubAt j)
  | c => fSub (fDot (q.vec c) x) (q.rhs c)

/-- The largest violation of any enforced constraint or bound, 0 or positive (R135); not finite where one is not. -/
def SlvProblem.maxViol (q : SlvProblem) (x : List Nat) : Nat :=
  let v := q.enforced.map (fun c => q.violation x c) ++
    (List.range q.p).map (fun i => fAbs (q.violation x (.eq i)))
  if v.all fFinite then v.foldl fMax 0 else fBad

/-- The first member with the largest of a key. -/
def slvArgMax (key : SlvMember → Nat) : List SlvMember → Option SlvMember
  | [] => none
  | c :: t => some (t.foldl (fun (b : SlvMember) d => if fLt (key b) (key d) then d else b) c)

/-! ### Requests -/

/-- A tolerance or factor of the entry (R132). -/
def slvTol (v : Nat) : Nat := if fFinite v && !fNeg v && !fIsZero v then v else 0x3E112E0BE826D695
def slvRel (v dflt lo hi : Nat) : Nat :=
  if fFinite v && !fNeg v && !fIsZero v then fMax lo (fMin hi v) else dflt

def SlvRequest.field (r : SlvRequest) (o n : Nat) : Nat := le r.entry o n
def SlvRequest.option (r : SlvRequest) (n : Nat) : Bool := bitAt (r.field 2 1) n
def SlvRequest.ftol (r : SlvRequest) : Nat := slvTol (r.field 0x68 8)
def SlvRequest.otol (r : SlvRequest) : Nat := slvTol (r.field 0x70 8)
def SlvRequest.floorRel (r : SlvRequest) : Nat :=
  slvRel (r.field 0x78 8) 0x3D70000000000000 0x3C30000000000000 0x3F50000000000000
def SlvRequest.regRel (r : SlvRequest) : Nat :=
  slvRel (r.field 0x80 8) 0x3EB0000000000000 0x3CD0000000000000 0x3FB0000000000000

/-- FLAGS of the completion (R133). -/
def slvWarmUsed : Nat := 0
def slvWarmRejected : Nat := 1
def slvFactorReused : Nat := 2
def slvRegularised : Nat := 3
def slvFeasible : Nat := 4
def slvWritten : Nat := 5
def slvEqDependent : Nat := 6
def slvPrimal : Nat := 7

def SlvRequest.flag (r : SlvRequest) (n : Nat) : Bool := bitAt r.flags n
def SlvRequest.set (r : SlvRequest) (n : Nat) : SlvRequest := { r with flags := r.flags ||| 2 ^ n }
def SlvRequest.stop (r : SlvRequest) (status detail : Nat) : SlvRequest := { r with done := some (status, detail) }

/-! ### Steps and their bounds (R144, R154) -/

/-- Bounds of R144, in 1/240 ns. -/
def slvFactorBound (k : Nat) : Nat := 5 * k ^ 3 + 6240 * k
def slvUpdateBound (k : Nat) : Nat := 6240 * k + 9600
def slvSolveBound (k : Nat) : Nat := 60 * k ^ 2 + 5760 * k

/-- Whether a step may begin, given the bounds of the command's steps up to its own end: by the deadline on the module
that leads, by the stop note on the other (R154, R157). -/
abbrev SlvMay := SlvStep → Nat → Bool

/-- STATUS and DETAIL where a step is not begun. -/
def SlvRequest.timeOut (r : SlvRequest) : Nat × Nat := if r.best.isSome then (0x0C, 0x10) else (0x08, 0x0F)

/-- SOLVER_DEADLINE_STOP: TIME_LIMIT with the best feasible iterate, or DEADLINE without one. -/
def SlvRequest.outOfTime (r : SlvRequest) : SlvRequest := r.stop r.timeOut.1 r.timeOut.2

/-- The order of K_W. -/
def SlvRequest.order (r : SlvRequest) : Nat := (r.prob.frees r.w).length + (r.w.filter slvIsRow).length

/-- A step is begun, or ends the request. -/
def SlvRequest.begin_ (r : SlvRequest) (may : SlvMay) (st : SlvStep) (spent : Nat) (k : SlvRequest → SlvRequest) :
    SlvRequest :=
  if may st spent then k r else { r.outOfTime with stopped := some st }

/-- The outcome of a factorisation or an update is taken over; an ended one ends the request. -/
def SlvRequest.hold (r : SlvRequest) : SlvFactored → SlvRequest
  | .ok f => { r with fact := f }
  | .ended a b => r.stop a b
  | .zeroPivot => r.stop 0x0A (if r.flag slvRegularised then 0x0B else 0x0A)
  | .dependent => r.stop 0x0A 0x0D

/-- SOLVER_REGULARISE (R152): at the first zero pivot δ is added to every diagonal entry of H and K_W is refactored. The
best feasible iterate is then judged by the new objective. -/
def SlvRequest.regularise (r : SlvRequest) : SlvRequest :=
  let prob := { r.prob with delta := fMul r.regRel r.prob.dMax }
  let r := { r with prob, best := r.best.map (fun (b : SlvIterate) => { b with obj := prob.obj b.x, fact := none }) }
  if (List.range prob.n).all (fun i => fFinite (prob.hEl i i)) &&
      (match r.best with | some b => fFinite b.obj | none => true) then
    (r.set slvRegularised).hold (prob.factor r.floorRel r.w)
  else (r.set slvRegularised).stop 0x0B 0x09

/-- A new factor of W, where its first zero pivot may be regularised. -/
def SlvRequest.settle (r : SlvRequest) (may : SlvMay) (spent : Nat) : SlvFactored → SlvRequest
  | .zeroPivot =>
    if r.option 1 && !r.flag slvRegularised then
      r.begin_ may .refactor (spent + slvFactorBound r.order) (fun r => r.regularise)
    else r.hold .zeroPivot
  | other => r.hold other

/-- An update of the factor; after 64 of them K_W is refactored from the loaded data (R139). -/
def SlvRequest.updated (r : SlvRequest) (may : SlvMay) (spent : Nat) (x : SlvFactored) : SlvRequest :=
  let r := r.settle may spent x
  if r.done.isNone && decide (64 ≤ r.fact.updates) then
    let spent := spent + slvFactorBound r.order
    r.begin_ may .factor spent (fun r => r.settle may spent (r.prob.factor r.floorRel r.w))
  else r

/-- An equality row enters W (R139): left out where it is dependent and its residual is at most FTOL. -/
def SlvRequest.enterEq (r : SlvRequest) (i : Nat) : SlvRequest :=
  if r.done.isSome || r.w.contains (.eq i) then r
  else
    match r.prob.appendRow r.floorRel true r.fact (.eq i) with
    | .ok f => { r with w := r.w ++ [.eq i], fact := f }
    | .dependent =>
      let res := r.prob.violation (r.prob.solution r.w r.fact).x (.eq i)
      if !fFinite res then r.stop 0x0B 0x09
      else if fLe (fAbs res) r.ftol then r.set slvEqDependent
      else r.stop 0x0A 0x0D
    | other => r.hold other

/-- A cold start's x (R148). -/
def SlvProblem.coldX (q : SlvProblem) : List Nat :=
  (List.range q.n).map (fun j =>
    match q.type j with
    | 1 => fMax 0 (q.lbAt j)
    | 2 => fMin 0 (q.ubAt j)
    | 3 => fMin (fMax 0 (q.lbAt j)) (q.ubAt j)
    | 4 => q.lbAt j
    | _ => 0)

/-! ### Iterations (R138, R140, R141) -/

/-- A working set as a set: members in index order. -/
def slvCanon (w : List SlvMember) : List SlvMember :=
  w.foldl (fun (l : List SlvMember) c =>
    l.takeWhile (fun d => decide (slvIndex d < slvIndex c)) ++ [c] ++
      l.dropWhile (fun d => decide (slvIndex d < slvIndex c))) []

/-- The 64-bit hash of a working set (R141). The spec names no function: DESIGN CHOICE, log 91. -/
def slvSetHash (w : List SlvMember) : Nat := crc64 ((slvCanon w).flatMap (fun c => leBytes 2 (slvIndex c)))

/-- A working set is entered, or the mode changes for the rest of the solve where it has been entered before (R141);
`update` changes the factor. -/
def SlvRequest.enter (r : SlvRequest) (may : SlvMay) (spent : Nat) (w : List SlvMember)
    (update : SlvRequest → SlvRequest) : SlvRequest :=
  if r.mode ≠ .normal then update { r with w }
  else if r.seen.contains (slvSetHash w) then
    let r := r.set slvPrimal
    match r.best with
    | none => { r with mode := .lowest }
    | some b =>
      let r := { r with mode := .primal, x := b.x, w := b.w }
      match b.fact with
      | some f => { r with fact := f }
      | none =>
        let spent := spent + slvFactorBound r.order
        r.begin_ may .factor spent (fun r => r.settle may spent (r.prob.factor r.floorRel r.w))
  else
    update { r with w, seen := if r.seen.length < 1024 then r.seen ++ [slvSetHash w] else r.seen }

/-- The members of W that can be dropped, in index order. -/
def SlvRequest.droppable (r : SlvRequest) : List SlvMember :=
  (slvCanon r.w).filter (fun c => match c with
    | .eq _ => false
    | _ => true)

/-- A member's multiplier at the last solve. -/
def SlvRequest.multOf (r : SlvRequest) (c : SlvMember) : Nat :=
  ((r.mult.find? (fun e => e.1 == c)).map (fun e => e.2)).getD 0

/-- The dual ratio test (R140): of the members that can be dropped, the first to reach multiplier 0 as the dependent
member's multiplier grows, if any. The outer option is none where a result of it overflows. -/
def SlvRequest.ratio (r : SlvRequest) (c : SlvMember) : Option (Option SlvMember) :=
  let q := r.prob
  let v := q.vec c
  let y := slvSolve r.fact.rows (q.onVars r.fact c ++ List.replicate r.fact.cons.length 0)
  let ym := y.drop r.fact.vars.length
  let at_ (j : Nat) : Nat :=
    fSub (fSub ((v[j]?).getD 0) (fDot (r.fact.cons.map (fun d => ((q.vec d)[j]?).getD 0)) ym))
      (fDot (r.fact.vars.map (q.hEl j)) (y.take r.fact.vars.length))
  let coef (d : SlvMember) : Nat := match d with
    | .upper j => at_ j
    | .lower j => fMinus (at_ j)
    | d => (ym[r.fact.cons.idxOf d]?).getD 0
  let can := r.droppable.filter (fun d => fLt 0 (coef d))
  let key (d : SlvMember) : Nat := fDiv (r.multOf d) (coef d)
  if r.droppable.all (fun d => fFinite (coef d)) && can.all (fun d => fFinite (key d)) then
    some (slvArgMax (fun d => fMinus (key d)) can)
  else none

/-- Add a member to W; where it is dependent on W, drop the member that the ratio test names and then add it (R140). -/
def SlvRequest.add (r : SlvRequest) (may : SlvMay) (spent : Nat) (c : SlvMember) : SlvRequest :=
  let spent := spent + slvUpdateBound r.order
  r.begin_ may .update spent (fun r =>
    match r.prob.addMember r.floorRel true r.fact c with
    | .dependent =>
      match r.ratio c with
      | none => r.stop 0x0B 0x09
      | some none => r.stop 0x0A 0x0D
      | some (some d) =>
        let spent := spent + slvUpdateBound r.order
        r.enter may spent (r.w.filter (fun e => e != d) ++ [c]) (fun r => r.begin_ may .exchange spent (fun r =>
          match r.prob.dropMember r.floorRel r.fact d with
          | .ok f => r.updated may spent (r.prob.addMember r.floorRel false f c)
          | other => r.updated may spent other))
    | x => r.enter may spent (r.w ++ [c]) (fun r => r.updated may spent x))

/-- A feasible iterate, as it may be kept. -/
def SlvRequest.iterateOf (r : SlvRequest) (x : List Nat) : SlvIterate :=
  { x, obj := r.prob.obj x, viol := r.prob.maxViol x, w := r.w, mult := r.mult, nu := r.nu, fact := some r.fact }

/-- A feasible iterate is kept as the best where its objective is lower. -/
def SlvRequest.keep (r : SlvRequest) (x : List Nat) : SlvRequest :=
  let it := r.iterateOf x
  let r := r.set slvFeasible
  if !(fFinite it.obj && fFinite it.viol) then r.stop 0x0B 0x09
  else match r.best with
    | some b => if fLt it.obj b.obj then { r with best := some it } else r
    | none => { r with best := some it }

/-- The end of an iteration with a feasible x: drop the most negative multiplier, or converge. -/
def SlvRequest.drop (r : SlvRequest) (may : SlvMay) (spent : Nat) : SlvRequest :=
  let r := r.keep r.x
  if r.done.isSome then r
  else
    let converged : SlvRequest := { r with best := some (r.iterateOf r.x) }.stop (if r.flag slvWarmRejected then 0x0D else 0) 0
    match slvArgMax (fun c => fMinus (r.multOf c)) r.droppable with
    | none => converged
    | some c =>
      if fLt (r.multOf c) (fMinus r.otol) then
        let spent := spent + slvUpdateBound r.order
        r.enter may spent (r.w.filter (fun e => e != c)) (fun r => r.begin_ may .update spent (fun r =>
          r.updated may spent (r.prob.dropMember r.floorRel r.fact c)))
      else converged

/-- The first blocking member on the line from x to the working set's solution (R141), and how far it lies. The outer
option is none where a quotient overflows. -/
def SlvRequest.blocking (r : SlvRequest) (target : List Nat) : Option (Option (SlvMember × Nat)) :=
  let q := r.prob
  let open_ := q.members.filter (fun c => !r.w.contains c && fLt r.ftol (q.violation target c))
  let alpha (c : SlvMember) : Nat :=
    fDiv (fMax 0 (fMinus (q.violation r.x c))) (fSub (q.violation target c) (q.violation r.x c))
  if open_.all (fun c => fFinite (alpha c)) then
    some ((slvArgMax (fun c => fMinus (alpha c)) open_).map (fun c => (c, alpha c)))
  else none

/-- The violated member that enters W next: the most violated by its norm, or in the lowest-index mode the first. The
outer option is none where a quotient overflows. -/
def SlvRequest.violated (r : SlvRequest) : Option (Option SlvMember) :=
  let q := r.prob
  let out := q.members.filter (fun c => !r.w.contains c)
  let exceeds (c : SlvMember) : Bool := fLt r.ftol (q.violation r.x c)
  let rank (c : SlvMember) : Nat := fDiv (q.violation r.x c) (q.norm c)
  if r.mode = .lowest then some (out.find? exceeds)
  else if out.all (fun c => fFinite (rank c)) then
    some (match slvArgMax rank out with
      | some c => if exceeds c then some c else none
      | none => none)
  else none

/-- One active-set iteration: a solve with the factor, then at most one update. -/
def SlvRequest.iterate (r : SlvRequest) (may : SlvMay) : SlvRequest :=
  let spent := slvSolveBound r.order
  let sol := r.prob.solution r.w r.fact
  let r := { r with iters := r.iters + 1, mult := sol.mult, nu := sol.nu }
  if !(sol.x.all fFinite && sol.mult.all (fun e => fFinite e.2) && sol.nu.all fFinite &&
      fFinite (r.prob.obj sol.x) && fFinite (r.prob.maxViol sol.x)) then
    r.stop 0x0B 0x09
  else if r.mode = .primal then
    match r.blocking sol.x with
    | none => r.stop 0x0B 0x09
    | some none => { r with x := sol.x }.drop may spent
    | some (some (c, alpha)) =>
      let x := (r.x.zip sol.x).map (fun (e : Nat × Nat) => fFma alpha (fSub e.2 e.1) e.1)
      if x.all fFinite then
        let r := { r with x }.keep x
        if r.done.isSome then r else r.add may spent c
      else r.stop 0x0B 0x09
  else
    let r := { r with x := sol.x }
    match r.violated with
    | none => r.stop 0x0B 0x09
    | some (some c) => r.add may spent c
    | some none => r.drop may spent

end Sys2Proof.Machine
end

