-- ==== Sys2Proof/Machine/Wire.lean ====
section
/-!
DEFINITION. Values as the modules of a pair write and read them in the sections and logs of a join, whose layout the spec
leaves open (R228, R232, R234), and the Solver's slots among them.
-/
namespace Sys2Proof.Machine

/-! ### Writing and reading values -/

def wN (n : Nat) : List Byte := leBytes 8 n
def wI (i : Int) : List Byte := leBytes 16 (toBits 128 i)
def wB (b : Bool) : List Byte := leBytes 1 (b2n b)
/-- Bytes with their count before them. -/
def wL (b : List Byte) : List Byte := wN b.length ++ b
def wList {α : Type} (f : α → List Byte) (l : List α) : List Byte := wN l.length ++ l.flatMap f
def wOpt {α : Type} (f : α → List Byte) : Option α → List Byte
  | some x => wB true ++ f x
  | none => wB false

/-- A reader takes a value from the front of bytes. -/
abbrev Rd (α : Type) := List Byte → α × List Byte

def rN : Rd Nat := fun b => (le b 0 8, b.drop 8)
def rI : Rd Int := fun b => (sgn 128 (le b 0 16), b.drop 16)
def rB : Rd Bool := fun b => (le b 0 1 != 0, b.drop 1)
def rW : Rd Nat := fun b => (le b 0 4, b.drop 4)
def rTake (n : Nat) : Rd (List Byte) := fun b => (b.take n, b.drop n)
def rL : Rd (List Byte) := fun b => rTake (le b 0 8) (b.drop 8)
def rTimes {α : Type} (r : Rd α) : Nat → Rd (List α)
  | 0 => fun b => ([], b)
  | n + 1 => fun b =>
    let x := r b
    let t := rTimes r n x.2
    (x.1 :: t.1, t.2)
/-- A list, of no more entries than there are bytes. -/
def rList {α : Type} (r : Rd α) : Rd (List α) := fun b => rTimes r (min (le b 0 8) b.length) (b.drop 8)
def rOpt {α : Type} (r : Rd α) : Rd (Option α) := fun b =>
  let f := rB b
  if f.1 then
    let x := r f.2
    (some x.1, x.2)
  else (none, f.2)

/-! ### Solver slots -/

def wMember : SlvMember → List Byte
  | .lower j => wN 0 ++ wN j
  | .upper j => wN 1 ++ wN j
  | .row i => wN 2 ++ wN i
  | .eq i => wN 3 ++ wN i

def wFactor (f : SlvFactor) : List Byte :=
  wList (fun (x : SlvFactorRow) => wList wN x.l ++ wN x.d ++ wN x.r) f.rows ++ wList wN f.vars ++ wList wMember f.cons ++
    wN f.updates

/-- A slot with its number. -/
def wSlot (p : Nat × SlvSlot) : List Byte :=
  let x := p.2
  wN p.1 ++ wN x.n ++ wN x.m ++ wN x.p ++ wN x.sig ++ wN x.hash ++ wList wMember x.w ++ wList wN x.x ++
    wOpt wFactor x.factor ++ wB x.reg

def rMember : Rd SlvMember := fun b =>
  let k := rN b
  let n := rN k.2
  (match k.1 with | 0 => .lower n.1 | 1 => .upper n.1 | 2 => .row n.1 | _ => .eq n.1, n.2)

def rFactorRow : Rd SlvFactorRow := fun b =>
  let l := rList rN b
  let d := rN l.2
  let r := rN d.2
  ({ l := l.1, d := d.1, r := r.1 }, r.2)

def rFactor : Rd SlvFactor := fun b =>
  let rows := rList rFactorRow b
  let vars := rList rN rows.2
  let cons := rList rMember vars.2
  let n := rN cons.2
  ({ rows := rows.1, vars := vars.1, cons := cons.1, updates := n.1 }, n.2)

def rSlot : Rd (Nat × SlvSlot) := fun b =>
  let n := rTimes rN 6 b
  let w := rList rMember n.2
  let x := rList rN w.2
  let f := rOpt rFactor x.2
  let g := rB f.2
  let num (i : Nat) : Nat := (n.1[i]?).getD 0
  ((num 0, { n := num 1, m := num 2, p := num 3, sig := num 4, hash := num 5, w := w.1, x := x.1, factor := f.1, reg := g.1 }),
    g.2)

end Sys2Proof.Machine
end

