-- ==== Sys2Proof/Machine/Solver.lean ====
section
/-!
DEFINITION. The Dispatch Solver's requests, slots and registers (R128 to R161).
-/
namespace Sys2Proof.Machine

/-! ### Queues (R131) -/

/-- The Solver is fitted. -/
def State.slvOn (s : State) : Bool := s.capOn Reg.SYS_CAPS_SLV

/-- The hardware queue of a solver queue. -/
def State.slvQue (s : State) (sq : Nat) : Nat := s.rd (Reg.SLV_QUEUE_QUE sq)

/-- A solver queue holds a request. -/
def State.slvWaits (s : State) (sq : Nat) : Bool :=
  s.on (Reg.SLV_QUEUE_VALID sq) && s.txReady (s.slvQue sq)

/-- The highest-priority solver queue that holds a request. -/
def State.slvNext (s : State) : Option Nat := (List.range 4).find? (fun sq => s.slvWaits sq)

/-- Parameter 1 of the Solver's codes (R161). -/
def SlvRequest.p1 (r : SlvRequest) : Nat := r.sq * 2 ^ 24 + r.field 1 1 % 16 * 2 ^ 16 + r.seq % 2 ^ 16

/-- Replace the request in progress. -/
def State.setReq (s : State) (r : SlvRequest) : State := { s with slv := { s.slv with req := some r } }

/-! ### Slots (R145, R149, R150) -/

/-- Show a slot. -/
def State.slvShowSlot (s : State) (k : Nat) : State :=
  match Assoc.find? s.slv.slots k with
  | none =>
    (((s.wr (Reg.SLV_SLOT k) 0).wr (Reg.SLV_SLOT_WS k) 0).wr (Reg.SLV_SLOT_SIG_LO k) 0).wr (Reg.SLV_SLOT_SIG_HI k) 0
  | some x =>
    let s := s.wr (Reg.SLV_SLOT k) (2 ^ 31 + b2n x.factor.isSome * 2 ^ 30 + b2n x.reg * 2 ^ 29 + x.p * 2 ^ 22 + x.m * 2 ^ 12 + x.n * 8)
    (s.wr (Reg.SLV_SLOT_WS_WS k) x.w.length).wr64 (Reg.SLV_SLOT_SIG_LO k) (Reg.SLV_SLOT_SIG_HI k) x.sig

/-- A slot clear takes effect: one slot, or every slot (16). -/
def State.slvClear (s : State) (k master : Nat) : State :=
  let s :=
    if k < 16 then { s with slv := { s.slv with slots := Assoc.erase s.slv.slots k } }.slvShowSlot k
    else (List.range 16).foldl (fun s j => s.slvShowSlot j) { s with slv := { s.slv with slots := [] } }
  s.post Un.slv 0x0609 (if k < 16 then k else 0xFF) master 0

/-- A slot clear is asked for: at once between requests, else after the request in progress. It is carried in the
permit stream of a pair (R157). -/
def State.slvAskClear (s : State) (k master : Nat) : State :=
  let s := if s.leadsPair ∧ !s.ban.solo then s.banSend 0x23 [3, BitVec.ofNat 8 k, BitVec.ofNat 8 master] else s
  if s.slv.req.isSome then { s with slv := { s.slv with clears := s.slv.clears ++ [(k, master)] } }
  else s.slvClear k master

/-- A write of SLV_CMD. -/
def State.slvCmdWrite (s : State) (m : Master) (v : Nat) : State :=
  if bits v 24 8 ≠ 0xA5 ∨ s.notOwn m then s
  else s.slvAskClear (if bitAt v 4 then 16 else v % 16) (s.asMaster m)

/-- SLOT_CLEAR (R150). -/
def execSlotClear (m : Master) (slot : Fin 16) (s : State) : Answer :=
  .next (s.access m .w32 true Reg.SLV_CMD.addr (fun s => s.slvCmdWrite m (0xA5000000 + slot)))

/-- SLOT_CLEAR_ALL (R150). -/
def execSlotClearAll (m : Master) (s : State) : Answer :=
  .next (s.access m .w32 true Reg.SLV_CMD.addr (fun s => s.slvCmdWrite m 0xA5000010))

/-! ### Deadlines (R144, R154) -/

/-- The deadline instant. -/
def SlvRequest.deadline (r : SlvRequest) : Nat :=
  let d := r.posted + min (r.field 0x10 8) 10000000000
  match r.cap with
  | some w => min d w
  | none => d

def SlvRequest.n (r : SlvRequest) : Nat := r.field 4 2
def SlvRequest.m (r : SlvRequest) : Nat := r.field 6 2
def SlvRequest.p (r : SlvRequest) : Nat := r.field 8 1

/-- Bytes of the result buffer. -/
def SlvRequest.resBytes (r : SlvRequest) : Nat := 64 + 8 * (2 * r.n + r.m + r.p)

/-- The type codes in memory. -/
def State.slvTypes (s : State) (r : SlvRequest) : List Nat := (s.bytes (r.field 0x58 8) (r.n + r.m)).map BitVec.toNat

/-- The bounds that a type reads (R129): lower and upper. -/
def slvReads (type : Nat) : Bool × Bool := (type == 1 || type == 3 || type == 4, type == 2 || type == 3)

/-- Bytes that the load reads: of the bounds, those that the types read. -/
def State.slvLoadBytes (s : State) (r : SlvRequest) : Nat :=
  let bounds := (((s.slvTypes r).take r.n).map (fun t => b2n (slvReads t).1 + b2n (slvReads t).2)).sum
  r.n + r.m + 8 * (r.n * (r.n + 1) / 2 + r.n + r.m * r.n + r.m + r.p * r.n + r.p + bounds)

/-- Steps of a bound together, in 1/240 ns, end with the write-back by the deadline. -/
def SlvRequest.inTime (r : SlvRequest) (now bound240 : Nat) : Bool :=
  decide (240 * now + bound240 + 240000 + 24 * (r.resBytes + 32) ≤ 240 * r.deadline)

/-- The Solver's own deadline checks, from the FRC at which a command begins (R137 step 1, R154). Where several steps
follow in one command, each is taken to begin at the latest end of the one before it: DESIGN CHOICE, log 92. -/
def SlvRequest.timed (r : SlvRequest) (now : Nat) : SlvMay := fun st spent =>
  match st with
  | .late => decide (now < r.deadline)
  | _ => r.inTime now spent

/-- The checks as the active module's stop note tells them (R157). -/
def slvTold (stop : Option SlvStep) : SlvMay := fun st _ => stop != some st

/-! ### Take (R137) -/

/-- Step 2 of R137: VER, SLOT, reserved bytes and bits. -/
def SlvRequest.formOk (r : SlvRequest) : Bool :=
  r.field 0 1 == 1 && decide (r.field 1 1 < 16) && decide (r.field 2 1 < 8) && r.field 3 1 == 0 && r.field 9 3 == 0 &&
    (slice r.entry 0x88 88).all (fun b => b == 0)

/-- An array of binary64 numbers that the Solver may reach. -/
def slvArrayOk (addr count : Nat) : Bool := count == 0 || (addr % 8 == 0 && inRam addr (8 * count))

/-- Step 4: the addresses needed. -/
def SlvRequest.addrsOk (r : SlvRequest) : Bool :=
  slvArrayOk (r.field 0x18 8) (r.n * r.n) && slvArrayOk (r.field 0x20 8) r.n && slvArrayOk (r.field 0x28 8) (r.m * r.n) &&
  slvArrayOk (r.field 0x30 8) r.m && slvArrayOk (r.field 0x38 8) (r.p * r.n) && slvArrayOk (r.field 0x40 8) r.p &&
  slvArrayOk (r.field 0x48 8) r.n && slvArrayOk (r.field 0x50 8) r.n && inRam (r.field 0x58 8) (r.n + r.m) &&
  slvArrayOk (r.field 0x60 8) (8 + 2 * r.n + r.m + r.p)

/-- Numbers in memory. -/
def State.reals (s : State) (addr count : Nat) : List Nat :=
  (List.range count).map (fun i => leVal (s.bytes (addr + 8 * i) 8))

/-- The norm of a row: the square root of its sum of squares. -/
def slvNorm (row : List Nat) : Nat := fSqrt (fDot row row)

/-- Step 5: the load. Bounds that their type does not read are held as 0. -/
def State.slvLoad (s : State) (r : SlvRequest) : SlvProblem :=
  let n := r.n
  let types := s.slvTypes r
  let type (j : Nat) : Nat := (types[j]?).getD 0
  let h := (List.range n).flatMap (fun i => s.reals (r.field 0x18 8 + 8 * n * i) (i + 1))
  let a := s.reals (r.field 0x28 8) (r.m * n)
  let ae := s.reals (r.field 0x38 8) (r.p * n)
  let lb := (s.reals (r.field 0x48 8) n).zipIdx.map (fun (e : Nat × Nat) =>
    if (slvReads (type e.2)).1 then e.1 else 0)
  let ub := (s.reals (r.field 0x50 8) n).zipIdx.map (fun (e : Nat × Nat) =>
    if (slvReads (type e.2)).2 then e.1 else 0)
  { n, m := r.m, p := r.p, h, f := s.reals (r.field 0x20 8) n, a, b := s.reals (r.field 0x30 8) r.m, ae
    be := s.reals (r.field 0x40 8) r.p, lb, ub, types
    norms := (List.range r.m).map (fun i => if type (n + i) = 0 then slvNorm ((a.drop (i * n)).take n) else 0)
    normsE := (List.range r.p).map (fun i => slvNorm ((ae.drop (i * n)).take n)) }

/-- One bit per entry, eight to a byte, first entry in bit 0 (R146). -/
def slvPattern : List Nat → List Byte
  | [] => []
  | e0 :: e1 :: e2 :: e3 :: e4 :: e5 :: e6 :: e7 :: t =>
    BitVec.ofNat 8 (([e0, e1, e2, e3, e4, e5, e6, e7].zipIdx.map (fun (e : Nat × Nat) =>
      if fIsZero e.1 then 0 else 2 ^ e.2)).sum) :: slvPattern t
  | l => [BitVec.ofNat 8 ((l.zipIdx.map (fun (e : Nat × Nat) => if fIsZero e.1 then 0 else 2 ^ e.2)).sum)]

/-- The CRC-64 part of the structure signature (R146). -/
def SlvProblem.sig (q : SlvProblem) : Nat :=
  crc64 (slvPattern q.h ++ slvPattern q.a ++ slvPattern q.ae ++ q.types.map (BitVec.ofNat 8))

/-- The value hash (R147). -/
def SlvProblem.hash (q : SlvProblem) : Nat := crc64 ((q.h ++ q.a ++ q.ae).flatMap (leBytes 8))

/-- Steps 6 to 8: STATUS and DETAIL of the first failure. -/
def SlvProblem.check (q : SlvProblem) (ftol : Nat) : Option (Nat × Nat) :=
  if !((List.range q.n).all (fun j => decide (q.type j ≤ 4)) && (List.range q.m).all (fun i => decide (q.type (q.n + i) ≤ 1)))
  then some (0x09, 0x04)
  else if !((q.h ++ q.f ++ q.a ++ q.b ++ q.ae ++ q.be ++ q.lb ++ q.ub).all fFinite) then some (0x0B, 0x07)
  else if !((q.norms ++ q.normsE).all fFinite) then some (0x0B, 0x09)
  else if !((List.range q.n).all (fun j => q.type j != 3 || fLe (q.lbAt j) (q.ubAt j))) then some (0x0A, 0x0D)
  else if !((List.range q.m).all (fun i => q.type (q.n + i) != 0 || !fIsZero (q.norm (.row i)) ||
      fLe (fMinus ftol) (q.rhs (.row i)))) then some (0x0A, 0x0D)
  else if !((List.range q.p).all (fun i => !fIsZero (q.norm (.eq i)) || fLe (fMinus ftol) (q.rhs (.eq i)))) then
    some (0x0A, 0x0D)
  else none

/-- How the request starts from its slot (R148): W, x, and the factor where it is reused. -/
def State.slvStart (s : State) (r : SlvRequest) : State × SlvRequest × Option SlvFactor :=
  let cold : SlvRequest := { r with x := r.prob.coldX }
  match Assoc.find? s.slv.slots (r.field 1 1) with
  | none => (s, cold, none)
  | some k =>
    if r.option 0 then (s, cold, none)
    else if k.sig = r.sig ∧ k.n = r.n ∧ k.m = r.m ∧ k.p = r.p then
      let w : SlvRequest := { r with w := k.w, x := k.x }.set slvWarmUsed
      if k.hash = r.hash ∧ k.factor.isSome then (s, w.set slvFactorReused, k.factor) else (s, w, none)
    else
      (s.post Un.slv 0x0606 r.p1 (k.sig % 2 ^ 32) (r.sig % 2 ^ 32), cold.set slvWarmRejected, none)

/-- The factor that the solve begins with: the slot's, or K_W factored from the loaded data; then the equality rows
enter (R139, R148). -/
def SlvRequest.first (r : SlvRequest) (may : SlvMay) (spent : Nat) (held : Option SlvFactor) : SlvRequest :=
  let r := match held with
    | some f => { r with fact := f }
    | none =>
      let k := r.order + (r.p - (r.w.filter (fun c => match c with
        | .eq _ => true
        | _ => false)).length)
      let spent := spent + slvFactorBound k
      r.begin_ may .factor spent (fun r => r.settle may spent (r.prob.factor r.floorRel r.w))
  let r := (List.range r.p).foldl (fun (r : SlvRequest) i => r.enterEq i) r
  let fact := if held.isSome then r.fact else { r.fact with updates := 0 }
  { r with fact, seen := [slvSetHash r.w] }

/-- The checks and the load of R137, in order; `ecc` is an uncorrectable error during the load. -/
def State.slvAdmit (s : State) (r : SlvRequest) (ecc : Bool) (may : SlvMay) : State × SlvRequest :=
  if !may .late 0 then (s, { r.stop 0x08 0x0E with stopped := some .late })
  else if !may .take 240000 then (s, { r.outOfTime with stopped := some .take })
  else if !r.formOk then (s, r.stop 0x09 0x04)
  else if r.n = 0 ∨ 256 < r.n then (s, r.stop 0x09 0x01)
  else if 512 < r.m then (s, r.stop 0x09 0x02)
  else if 64 < r.p then (s, r.stop 0x09 0x03)
  else if !r.addrsOk then (s, r.stop 0x02 0x05)
  else
    let spent := 720000 + 24 * s.slvLoadBytes r
    if !may .load spent then (s, { r.outOfTime with stopped := some .load })
    else if ecc then (s, r.stop 0x02 0x06)
    else
      let prob := s.slvLoad r
      match prob.check r.ftol with
      | some e => (s, r.stop e.1 e.2)
      | none =>
        let t := s.slvStart { r with prob, sig := prob.sig, hash := prob.hash }
        (t.1, t.2.1.first may spent t.2.2)

/-- A request of a solver queue as it is taken. -/
def State.slvRequest (s : State) (sq : Nat) : SlvRequest :=
  let que := s.slvQue sq
  let at_ := (Assoc.find? s.posted que).getD []
  { sq, entry := (s.txEntry que).take 0xE0, seq := (((Assoc.find? s.slv.seqs sq).getD 0) + 1) % 2 ^ 32
    posted := at_.head?.getD s.frc, taken := s.frc }

/-- A request ends a Rounds step of the Solver within 1 µs, and the step is repeated later (R429). -/
def State.rndYield (s : State) : State :=
  match s.rnd.last with
  | some (7, us) =>
    let w := (Assoc.find? s.rnd.work 7).getD 0
    if s.frc < s.rnd.freeAt ∧ us ≤ w then
      { s with rnd := { s.rnd with
        work := Assoc.insert s.rnd.work 7 (w - us), freeAt := min s.rnd.freeAt (s.frc + 1000), last := none } }
    else s
  | _ => s

/-- The Solver takes the oldest request of a solver queue. -/
def State.slvTake (s0 : State) (sq : Nat) (ecc : Bool) (may : SlvMay) : State :=
  let s := s0.rndYield
  let que := s.slvQue sq
  let seq := ((Assoc.find? s.slv.seqs sq).getD 0) + 1
  let r := s.slvRequest sq
  let s := { s with posted := Assoc.insert s.posted que (((Assoc.find? s.posted que).getD []).drop 1) }
  let t := s.slvAdmit r ecc may
  let s := t.1
  let s := { s with slv := { s.slv with req := some t.2, seqs := Assoc.insert s.slv.seqs sq seq } }
  let s := if t.2.flag slvRegularised then s.post Un.slv 0x0607 t.2.p1 (t.2.field 0xC 4) 0 else s
  ((s.wr Reg.SLV_STAT_QUEUE sq).wr Reg.SLV_STAT_SLOT (t.2.field 1 1)).wr Reg.SLV_STAT_STATE (if t.2.done.isSome then 4 else 3)

/-- One iteration of the request in progress; `ecc` is an uncorrectable error in scratch. -/
def State.slvIterate (s : State) (r : SlvRequest) (ecc : Bool) (may : SlvMay) : State :=
  let r' := if ecc then r.stop 0x02 0x11 else r.iterate may
  let s := if r'.flag slvRegularised && !r.flag slvRegularised then
      s.post Un.slv 0x0607 r.p1 (r.field 0xC 4) 0
    else s
  (s.setReq r').wr Reg.SLV_STAT_STATE (if r'.done.isSome then 4 else 3)

/-- The request ends without another iteration. -/
def State.slvStop (s : State) (r : SlvRequest) : State := (s.setReq r.outOfTime).wr Reg.SLV_STAT_STATE 4

/-! ### The permit stream (R157) -/

/-- The index of a request's entry in its queue: that of the queue's head, until the request completes. -/
def State.slvEntry (s : State) (sq : Nat) : Nat := s.txHead (s.slvQue sq)

/-- The code of a stop note in a permit. The layout of the stream is the model's: DESIGN CHOICE, log 93. -/
def slvStopCode : Option SlvStep → Nat
  | none => 0
  | some .late => 1
  | some .take => 2
  | some .load => 3
  | some .factor => 4
  | some .refactor => 5
  | some .update => 6
  | some .exchange => 7

/-- A permit goes out from the module that leads a pair; the request that ran at J has none (R234). -/
def State.slvSend (s : State) (kind sq : Nat) (rest : List Byte) : State :=
  if s.leadsPair ∧ !s.ban.solo then s.banSend 0x23 (leBytes 1 kind ++ leBytes 1 sq ++ leBytes 4 (s.slvEntry sq) ++ rest) else s

/-- The permit of a request just taken, with the stop note of the step that was not begun. -/
def State.slvSendTake (s : State) (r : SlvRequest) : State := s.slvSend 0 r.sq (leBytes 1 (slvStopCode r.stopped))

/-- The permit of an iteration. -/
def State.slvSendIterate (s : State) (n : Nat) (r : SlvRequest) : State :=
  s.slvSend 1 r.sq (leBytes 2 n ++ leBytes 1 (slvStopCode r.stopped))

/-! ### Completion (R133, R135, R149, R155) -/

/-- The result buffer; `done` is DONE_FRC. -/
def SlvRequest.result (r : SlvRequest) (done status : Nat) (b : SlvIterate) : List Byte :=
  let mult (c : SlvMember) : Nat := ((b.mult.find? (fun e => e.1 == c)).map (fun e => e.2)).getD 0
  let own := (b.w.filter (fun c => match c with
    | .eq _ => false
    | _ => true)).map mult
  leBytes 4 r.seq ++ leBytes 4 (r.field 0xC 4) ++ leBytes 1 status ++ leBytes 1 (r.field 1 1) ++ leBytes 2 r.n ++
  leBytes 2 r.m ++ leBytes 1 r.p ++ leBytes 1 0 ++ leBytes 8 b.obj ++ leBytes 8 b.viol ++
  leBytes 8 (own.foldl fMin 0) ++ leBytes 8 done ++ leBytes 8 r.sig ++ leBytes 8 0 ++
  b.x.flatMap (leBytes 8) ++ (List.range r.p).flatMap (fun i => leBytes 8 (mult (.eq i))) ++
  (List.range r.m).flatMap (fun i => leBytes 8 (mult (.row i))) ++ b.nu.flatMap (leBytes 8)

/-- The counter of a status (SLV_CNT), and the Guestbook code of a completion (R155, R161). -/
def slvCntOf (status : Nat) : Nat :=
  if status = 0 then 0 else if status = 0x0D then 1 else if status = 0x0C then 2 else if status = 8 then 3
  else if status = 0x0A then 4 else if status = 0x0B then 5 else if status = 9 then 6 else 7

/-- The code of a completion. -/
def State.slvCode (s : State) (r : SlvRequest) (status detail : Nat) : State :=
  let tag := r.field 0xC 4
  if status = 8 then
    ((s.wr Reg.SLV_STAT_DLFAULT 1).bump Reg.SLV_FAULTS).post Un.slv 0x0601 r.p1 tag detail
  else if status = 0x0C then s.post Un.slv 0x0602 r.p1 tag (min r.iters 0xFFFF)
  else if status = 0x0A then s.post Un.slv 0x0603 r.p1 tag detail
  else if status = 0x0B then s.post Un.slv 0x0604 r.p1 tag detail
  else if status = 9 then s.post Un.slv 0x0605 r.p1 tag (detail + r.n * 2 ^ 16)
  else if status = 2 then s.post Un.slv 0x0608 r.p1 tag detail
  else s

/-- The slot after a request that writes a result (R149). -/
def State.slvStore (s : State) (r : SlvRequest) (b : SlvIterate) : State :=
  if r.option 2 then s
  else
    let reg := r.flag slvRegularised
    let slot : SlvSlot := {
      n := r.n, m := r.m, p := r.p, sig := r.sig, hash := r.hash, w := b.w, x := b.x
      factor := b.fact.filter (fun f => decide (f.order * (f.order + 1) / 2 ≤ 7680) && !reg), reg }
    { s with slv := { s.slv with slots := Assoc.insert s.slv.slots (r.field 1 1) slot } }.slvShowSlot (r.field 1 1)

/-- What the result buffer takes, where the status writes one. -/
def SlvRequest.written (r : SlvRequest) (status : Nat) : Option SlvIterate :=
  if status = 0 ∨ status = 0x0D ∨ status = 0x0C then r.best else none

/-- SOLVER_COMPLETE (R133): result buffer, completion area, slot, the entry's return, and slot clears that waited. `done`
is DONE_FRC. -/
def State.slvComplete (s : State) (r : SlvRequest) (done status detail : Nat) : State :=
  let b := r.written status
  let r := if b.isSome then r.set slvWritten else r
  let iters := min r.iters 0xFFFF
  let res := match b with
    | some b => r.result done status b
    | none => []
  let working := match b with
    | some b => b.w.length
    | none => r.w.length
  let obj := match b with
    | some b => b.obj
    | none => 0
  let area := leBytes 1 status ++ leBytes 1 detail ++ leBytes 2 r.flags ++ leBytes 2 iters ++ leBytes 2 working ++
    leBytes 8 done ++ leBytes 8 obj ++ leBytes 4 (r.field 0xC 4) ++ leBytes 4 r.seq
  let s := s.setBytes (r.field 0x60 8) res
  let s := s.txDone (s.slvQue r.sq) 0xE0 area
  let s := match b with
    | some b => s.slvStore r b
    | none => s
  let ns := min (done - r.taken) 0xFFFFFFFF
  let s := (s.slvCode r status detail).bump (Reg.SLV_CNT (slvCntOf status))
  let s := (((s.wr Reg.SLV_LAST_STATUS status).wr Reg.SLV_LAST_DETAIL detail).wr Reg.SLV_LAST_QUEUE r.sq).wr
    Reg.SLV_LAST_SLOT (r.field 1 1)
  let s := (s.wr Reg.SLV_LAST_ITER_WORKING working).wr Reg.SLV_LAST_ITER_ITERATIONS iters
  let s := (s.wr Reg.SLV_LAST_TIME ns).wr Reg.SLV_MAX_TIME (max ns (s.rd Reg.SLV_MAX_TIME))
  let clears := s.slv.clears
  let slot := (s.slv.slots.filter (fun p => p.1 == r.field 1 1)).flatMap wSlot
  let entry := leBytes 1 0 ++ leBytes 1 (s.slvQue r.sq) ++ leBytes 2 0 ++ leBytes 8 (r.field 0x60 8) ++ area ++ res
  let s := if s.ban.solo then s.banSend 0x44 (entry ++ slot) else s.logEntry entry
  let s := { s with ban := { s.ban with solo := false } }
  let s := { s with slv := { s.slv with req := none, clears := [], idleAt := s.frc, crc := crc64Add s.slv.crc (res ++ area) } }
  clears.foldl (fun (s : State) (c : Nat × Nat) => s.slvClear c.1 c.2) (s.wr Reg.SLV_STAT_STATE 1)

/-! ### The standby's Solver (R157) -/

/-- A permit acted on by the standby's Solver; none where it waits: for the request to be posted or completed here. -/
def State.slvPermit (s : State) (p : SlvPermit) : Option State :=
  let here (r : SlvRequest) (sq : Fin 4) (e : BitVec 32) : Bool := r.sq == sq.val && s.slvEntry sq == e.toNat
  match p, s.slv.req with
  | .take sq e stop, none =>
    if s.slvWaits sq && s.slvEntry sq == e.toNat then some (s.slvTake sq false (slvTold stop)) else none
  | .take .., some _ => none
  | .iterate sq e n stop, some r =>
    some (if here r sq e && r.done.isNone && (r.iters + 1) % 2 ^ 16 == n.toNat then s.slvIterate r false (slvTold stop) else s)
  | .stop sq e, some r => some (if here r sq e && r.done.isNone then s.slvStop r else s)
  | .complete sq e _, some r => if here r sq e && r.done.isSome then none else some s
  | .clear slot by_, _ => some (s.slvAskClear (match slot with
      | some k => k.val
      | none => 16) by_.toNat)
  | _, none => some s

/-- The permits held are acted on in order, up to one that waits. `n` bounds them. -/
def State.slvDrain (s : State) : Nat → State
  | 0 => s
  | n + 1 =>
    match s.slv.permits with
    | [] => s
    | p :: t =>
      match s.slvPermit p with
      | some s => State.slvDrain { s with slv := { s.slv with permits := t } } n
      | none => s

/-- The same for every permit held. -/
def State.slvFollow (s : State) : State := s.slvDrain s.slv.permits.length

/-- PAIR_WAIT: the standby's Solver has a request to take or an iteration to make, and no permit. -/
def State.slvAwait (s : State) : State :=
  let work : Bool := match s.slv.req with
    | some r => r.done.isNone
    | none => s.slvNext.isSome
  s.wrB Reg.SLV_STAT_PAIR_WAIT (work && s.slv.permits == [])

/-- SOLVER_PERMIT (R157): the standby's Solver does what the active module's did, without a deadline check. -/
def State.permitTake (s : State) (p : SlvPermit) : State :=
  if s.follows ∧ s.slvOn then
    let s := { s with slv := { s.slv with permits := s.slv.permits ++ [p] } }
    s.slvFollow.wr Reg.SLV_STAT_PAIR_WAIT 0
  else s

/-- DONE_FRC on the module that chooses: no later than the deadline of a request taken before it (R154, R156). -/
def State.slvDoneAt (s : State) (r : SlvRequest) : Nat :=
  if r.taken < r.deadline then min s.frc r.deadline else s.frc

/-- The active module's completion of the request in progress, as its permit stream told it. -/
def State.slvDoneTold (s : State) : Option Nat :=
  match s.slv.permits with
  | .complete _ _ f :: _ => some f.toNat
  | _ => none

/-- SOLVER_COMPLETE (R133). The standby's completion follows the active module's and takes its DONE_FRC: both write the
same bytes (R157). -/
def execSolverComplete (s : State) : Answer :=
  match s.slv.req with
  | some r =>
    match r.done with
    | some (status, detail) =>
      if !s.power.running then .next s
      else if s.leads then
        let done := s.slvDoneAt r
        .next ((s.slvSend 4 r.sq (leBytes 8 done)).slvComplete r done status detail)
      else if s.follows then
        match s.slvDoneTold with
        | some f =>
          let s := s.slvComplete r f status detail
          .next ({ s with slv := { s.slv with permits := s.slv.permits.drop 1 } } : State).slvFollow
        | none => .next s
      else .next s
    | none => .next s
  | none => .next s

/-- SOLVER_POWER_GATE (R156): IDLE_HOLD has passed with every solver queue empty. -/
def execSolverPowerGate (s : State) : Answer :=
  if s.slvOn ∧ s.slv.req.isNone ∧ s.slvNext.isNone ∧ s.rd Reg.SLV_STAT_STATE = 1 then
    let s := { s with frc := max s.frc (s.slv.idleAt + 1000 * s.rd Reg.SLV_CTRL_IDLE_HOLD) }
    .next ((s.wr Reg.SLV_STAT_STATE 0).setGate .solver { gated := true })
  else .next s

/-- The Solver at lock: its queues, empty slots, SEQ from 0. -/
def State.slvLock (s : State) : State :=
  if !s.slvOn then s
  else
    let qs := (List.range 64).filter (fun q => s.queUsed q && s.queConsumer q == 0x0A)
    let s := { s with slv := {}, posted := [] }
    let s := (List.range 4).foldl (fun s sq =>
      match qs[sq]? with
      | some q => (s.wr (Reg.SLV_QUEUE_VALID sq) 1).wr (Reg.SLV_QUEUE_QUE sq) q
      | none => s.wr (Reg.SLV_QUEUE sq) 0) s
    (List.range 16).foldl (fun s k => s.slvShowSlot k) s

end Sys2Proof.Machine
end

