-- ==== Sys2Proof/Machine/Stairway.lean ====
section
/-!
DEFINITION. Stairway links (R383 to R391).
-/
namespace Sys2Proof.Machine

/-- What is behind a link's registers. -/
def State.rioLink (s : State) (l : Nat) : RioLink := (Assoc.find? s.rio l).getD {}

/-- Replace it. -/
def State.setRioLink (s : State) (l : Nat) (x : RioLink) : State := { s with rio := Assoc.insert s.rio l x }

/-- A link's station. -/
def RioLink.station (x : RioLink) (a : Nat) : RioStation := (Assoc.find? x.stations a).getD {}

/-- States of RIO_LINK_STAT. -/
def rioPolling : Nat := 1
def rioTurnaround : Nat := 2

/-- States of RIO_ST. -/
def rioSize : Nat := 1
def rioOper : Nat := 2
def rioFailed : Nat := 3

/-- The number of stations OPERATIONAL. -/
def State.rioCount (s : State) (l : Nat) : State :=
  s.wr (Reg.RIO_LINK_STAT_OPER l)
    ((List.range (s.rioN l)).filter (fun a => s.rd (Reg.RIO_ST_STATE l a) == rioOper)).length

/-- STATE of a link that is past its join point follows the role (R390). -/
def State.rioRole (s : State) (l : Nat) : State :=
  if s.rioOn l && (s.rioLink l).joined then
    s.wr (Reg.RIO_LINK_STAT_STATE l) (if s.inControl then rioPolling else rioTurnaround)
  else s

/-- The first cycle start of the bound task after lock is the join point (R490). -/
def State.rioJoin (s : State) (l : Nat) : State :=
  if s.rioOn l then (s.setRioLink l { s.rioLink l with joined := true }).rioRole l else s

/-- SCHK of a slot (R385). -/
def rioSchk (a type cycle : Nat) (data : List Byte) : Nat :=
  crcMsb 16 0x1021 0xFFFF (leBytes 1 a ++ leBytes 1 type ++ leBytes 4 cycle ++ data)

/-- A payload's fields. -/
def rioHead (type n slot flags cycle wd : Nat) : List Byte :=
  leBytes 1 type ++ leBytes 1 n ++ leBytes 1 slot ++ leBytes 1 flags ++ leBytes 4 cycle ++ leBytes 2 wd ++
  List.replicate 6 0

/-- A payload is padded to 46 bytes. -/
def rioPad (bs : List Byte) : List Byte := if bs.length < 46 then padTo 46 bs else bs

/-- A payload whose slots are 0: POLL and IDENT. -/
def State.rioEmpty (s : State) (l type slot cycle : Nat) : List Byte :=
  rioPad (rioHead type (s.rioN l) slot 0 cycle (s.rioWd l) ++ List.replicate (s.rioN l * (4 + slot)) 0)

/-- The payload of an OUTPUT frame: SCHK over each slot's output data. -/
def State.rioOutPayload (s : State) (l cycle : Nat) (safe : Bool) (data : Nat → List Byte) : List Byte :=
  rioPad (rioHead 2 (s.rioN l) (s.rioSlotOut l) (b2n safe) cycle (s.rioWd l) ++
    (List.range (s.rioN l)).flatMap (fun a =>
      let d := padTo (s.rioSlotOut l) (data a)
      [0, 0] ++ leBytes 2 (rioSchk a 2 cycle d) ++ d))

/-- A link that may send frames: polling, with its link up. -/
def State.rioMay (s : State) (l : Nat) : Bool :=
  s.rd (Reg.RIO_LINK_STAT_STATE l) == rioPolling && s.on (Reg.RIO_LINK_STAT_LINK_UP l)

/-- One slot of a returned frame: its STATUS word and its data. -/
def rioSlot (payload : List Byte) (slot a : Nat) : Nat × List Byte :=
  (le payload (16 + a * (4 + slot)) 4, slice payload (20 + a * (4 + slot)) slot)

/-- A frame that was sent and never returned counts in BAD. -/
def State.rioUnreturned (s : State) (l : Nat) (w : Option Nat) : State :=
  if w.isSome then s.bump (Reg.RIO_CNT_BAD l) else s

/-- FRC at which the POLL for the coming cycle of the bound task leaves: LEAD before its start (R105, R387). -/
def State.rioPollAt (s : State) (l : Nat) : Nat :=
  let t := s.rioTask l
  ((Assoc.find? s.scn.tasks t).getD {}).start + 250000 * s.taskPeriod t - 1000 * s.rioLead l

/-- POLL_SEND (R387): for the coming cycle of the bound task, once in a cycle and no later than its instant. -/
def execPollSend (l : Fin 8) (s : State) : Answer :=
  let start := ((Assoc.find? s.scn.tasks (s.rioTask l)).getD {}).start
  if s.rioMay l ∧ (s.rioLink l).polled ≠ some start ∧ s.frc ≤ s.rioPollAt l + 100 then
    let s : State := { s with frc := max s.frc (s.rioPollAt l) }
    let s := s.rioUnreturned l (s.rioLink l).cycle
    let c := (s.taskCycle (s.rioTask l) + 1) % 2 ^ 32
    .next (s.setRioLink l { s.rioLink l with
      cycle := some c, ret := none, sent := s.rioEmpty l 1 (s.rioSlotIn l) c, polled := some start, sentAt := s.frc })
  else .next s

/-- Whether a returned frame is the answer to the one sent: its FCS, TYPE, CYCLE and RETURN. -/
def rioAnswers (fcsGood : Bool) (payload : List Byte) (type cycle : Nat) : Bool :=
  fcsGood && le payload 0 1 == type && le payload 4 4 == cycle && bitAt (le payload 3 1) 7

/-- Whether a station's slot in an accepted POLL is taken: SERVED, its bit of SERVED_MAP, and SCHK. -/
def rioTaken (payload : List Byte) (slot cycle a : Nat) : Bool :=
  let x := rioSlot payload slot a
  bitAt x.1 0 && bitAt (le payload 12 4) a && x.1 / 2 ^ 16 == rioSchk a 1 cycle x.2

/-- POLL_RETURN (R387), `rtt` after the POLL left: accepted, counted in LATE, or counted in BAD. One that comes after
the cycle start is late. -/
def execPollReturn (l : Fin 8) (fcsGood : Bool) (rtt : Nat) (payload : List Byte) (s : State) : Answer :=
  match (s.rioLink l).cycle with
  | none => .next s
  | some c =>
    let lateNow := (s.rioLink l).polled ≠ some ((Assoc.find? s.scn.tasks (s.rioTask l)).getD {}).start
    let s : State := { s with frc := max s.frc ((s.rioLink l).sentAt + rtt) }
    let s := s.setRioLink l { s.rioLink l with cycle := none }
    if !rioAnswers fcsGood payload 1 c then .next (s.bump (Reg.RIO_CNT_BAD l))
    else
      let s := s.wr (Reg.RIO_RTT l) rtt
      if s.rioLead l * 1000 < rtt + 2000 ∨ lateNow then
        .next ((s.bump (Reg.RIO_CNT_LATE l)).post Un.rio 0x0E13 l rtt c)
      else
        let bad := ((List.range (s.rioN l)).filter (fun a =>
          bitAt (rioSlot payload (s.rioSlotIn l) a).1 0 && !rioTaken payload (s.rioSlotIn l) c a)).length
        .next ((s.bumpBy (Reg.RIO_CNT_BAD l) bad).setRioLink l { s.rioLink l with ret := some payload })

/-- A station at the input latch of the bound task: its slot is taken, or it keeps its data, stale, with one miss
more (R387, R388). RIO_ST counts up to 15 of them, its input entry up to 255. -/
def State.rioLatchStation (s : State) (l : Nat) (ret : Option (List Byte)) (a : Nat) : State :=
  let x := (s.rioLink l).station a
  let cycle := (s.taskCycle (s.rioTask l) + 1) % 2 ^ 32
  let taken := match ret with
    | some p => rioTaken p (s.rioSlotIn l) cycle a
    | none => false
  if taken then
    let slot := rioSlot (ret.getD []) (s.rioSlotIn l) a
    let wasFs := s.on (Reg.RIO_ST_FAILSAFE l a)
    let fs := bitAt slot.1 2
    let s := s.setRioLink l { s.rioLink l with
      stations := Assoc.insert (s.rioLink l).stations a { status := slot.1, data := slot.2, stale := false } }
    let s := ((s.wr (Reg.RIO_ST_MISSES l a) 0).wr (Reg.RIO_ST_DIAG l a) (bits slot.1 8 8)).wrB (Reg.RIO_ST_FAILSAFE l a) fs
    if fs && !wasFs then s.post Un.rio 0x0E14 (l + a * 2 ^ 8) (bits slot.1 8 8) 0 else s
  else
    let n := min (x.misses + 1) 255
    let s := s.setRioLink l { s.rioLink l with
      stations := Assoc.insert (s.rioLink l).stations a { x with stale := true, misses := n } }
    let s := s.wr (Reg.RIO_ST_MISSES l a) (min n 15)
    if s.rd (Reg.RIO_ST_STATE l a) = rioOper ∧ s.rioFailLimit l ≤ n then
      (s.wr (Reg.RIO_ST_STATE l a) rioFailed).post Un.rio 0x0E11 (l + a * 2 ^ 8) n cycle
    else s

/-- A link at the input latch of its task (STATION_FAILED is within). -/
def State.rioLatch (s : State) (l : Nat) : State :=
  if s.rd (Reg.RIO_LINK_STAT_STATE l) = 0 then s
  else
    let ret := (s.rioLink l).ret
    let s := s.setRioLink l { s.rioLink l with ret := none }
    ((List.range (s.rioN l)).foldl (fun s a => s.rioLatchStation l ret a) s).rioCount l

/-- A station's input entry in the image (R388). -/
def State.rioEntry (s : State) (l a : Nat) : List Byte :=
  let x := (s.rioLink l).station a
  leBytes 4 x.status ++ leBytes 1 x.misses ++ leBytes 1 (s.rd (Reg.RIO_ST_STATE l a)) ++
  leBytes 1 (b2n x.stale + b2n (bitAt x.status 2) * 2) ++ [0] ++ padTo (s.rioSlotIn l) x.data

/-- Wire time in ns of a frame with a slot length: preamble, header, FCS and interframe gap (R384). -/
def State.rioWire (s : State) (l slot : Nat) : Nat := 80 * (38 + max 46 (16 + s.rioN l * (4 + slot)))

/-- Station passages on a frame's way out and back (R389, R390). -/
def State.rioPassages (s : State) (l : Nat) : Nat := if s.paired then 2 * s.rioN l + 1 else 2 * s.rioN l - 1

/-- The return bound of a frame with a slot length (R389). DESIGN CHOICE (log 226): the cables' share, which the controller
cannot know, is what the last measured round trip of a POLL had above the rest of its bound. -/
def State.rioReturn (s : State) (l slot : Nat) : Nat :=
  let dry (n : Nat) : Nat := 80 * (26 + 16 + s.rioN l * (4 + n)) + 1000 * s.rioPassages l
  dry slot + (s.rd (Reg.RIO_RTT l) - dry (s.rioSlotIn l))

/-- Whether an IDENT after the OUTPUT that leaves now is back before the next POLL instant (R387). -/
def State.rioIdentFits (s : State) (l : Nat) : Bool :=
  decide (s.frc + s.rioWire l (s.rioSlotOut l) + s.rioReturn l 12 < s.rioPollAt l)

/-- OUTPUT_SEND (R387): the OUTPUT of a commit, and an IDENT where a station is not OPERATIONAL and there is time for it. -/
def State.rioOutput (s : State) (l : Nat) (safe : Bool) (data : Nat → List Byte) : State :=
  if s.rioMay l then
    let s := s.rioUnreturned l (s.rioLink l).outWait
    let s := s.rioUnreturned l (s.rioLink l).idWait
    let c := s.taskCycle (s.rioTask l) % 2 ^ 32
    let ident := s.rioIdentFits l && (List.range (s.rioN l)).any (fun a => s.rd (Reg.RIO_ST_STATE l a) != rioOper)
    s.setRioLink l { s.rioLink l with
      sent := s.rioOutPayload l c safe data, outWait := some c
      idWait := if ident then some c else none
      sentId := if ident then s.rioEmpty l 3 12 c else (s.rioLink l).sentId }
  else s

/-- OUTPUT_RETURN (R387): RIO_OUTMAP shows which stations applied that cycle's outputs. -/
def execOutputReturn (l : Fin 8) (fcsGood : Bool) (payload : List Byte) (s : State) : Answer :=
  match (s.rioLink l).outWait with
  | none => .next s
  | some c =>
    let s := s.setRioLink l { s.rioLink l with outWait := none }
    if rioAnswers fcsGood payload 2 c then .next (s.wr (Reg.RIO_OUTMAP l) (le payload 12 4))
    else .next (s.bump (Reg.RIO_CNT_BAD l))

/-- A station's answer to an IDENT (R388): admitted where both sizes fit. -/
def State.rioIdent (s : State) (l : Nat) (payload : List Byte) (cycle a : Nat) : State :=
  let x := rioSlot payload 12 a
  let good := bitAt x.1 0 && bitAt (le payload 12 4) a && x.1 / 2 ^ 16 == rioSchk a 3 cycle x.2
  let inB := le x.2 10 1
  let outB := le x.2 11 1
  let fits := decide (inB ≤ s.rioSlotIn l) && decide (outB ≤ s.rioSlotOut l)
  let st := s.rd (Reg.RIO_ST_STATE l a)
  if !good ∨ st = rioOper then s
  else if fits then
    let s := (List.range 3).foldl (fun s w => s.wr (Reg.RIO_ID l a w) (le x.2 (4 * w) 4)) s
    let s := (s.wr (Reg.RIO_ST_STATE l a) rioOper).wr (Reg.RIO_ST_MISSES l a) 0
    let k := s.rioLink l
    let s := s.setRioLink l { k with stations := Assoc.insert k.stations a { k.station a with misses := 0 } }
    s.post Un.rio 0x0E10 (l + a * 2 ^ 8) (le x.2 0 4) (le x.2 4 4)
  else if st = rioSize then s
  else (s.wr (Reg.RIO_ST_STATE l a) rioSize).post Un.rio 0x0E12 (l + a * 2 ^ 8) (inB * 2 ^ 8 + outB) 0

/-- IDENT_RETURN (R388). -/
def execIdentReturn (l : Fin 8) (fcsGood : Bool) (payload : List Byte) (s : State) : Answer :=
  match (s.rioLink l).idWait with
  | none => .next s
  | some c =>
    let s := s.setRioLink l { s.rioLink l with idWait := none }
    if rioAnswers fcsGood payload 3 c then
      .next (((List.range (s.rioN l)).foldl (fun s a => s.rioIdent l payload c a) s).rioCount l)
    else .next (s.bump (Reg.RIO_CNT_BAD l))

/-- STAIRWAY_TURNAROUND (R390): an outbound frame goes back with RETURN set, everything else unchanged (R386). -/
def execStairwayTurnaround (l : Fin 8) (payload : List Byte) (s : State) : Answer :=
  if s.rd (Reg.RIO_LINK_STAT_STATE l) = rioTurnaround ∧ s.on (Reg.RIO_LINK_STAT_LINK_UP l) ∧
      !bitAt (le payload 3 1) 7 then
    let back := payload.take 3 ++ leBytes 1 (le payload 3 1 + 128) ++ payload.drop 4
    .next (s.setRioLink l { s.rioLink l with turned := (s.rioLink l).turned + 1, sent := back })
  else .next s

/-- STAIRWAY_LINK_CHANGE (R383, R384): a link that no record turns on stays down. -/
def execStairwayLinkChange (l : Fin 8) (up : Bool) (s : State) : Answer :=
  if s.on (Reg.RIO_LINK_STAT_LINK_UP l) = up ∨ (up ∧ !s.rioOn l) then .next s
  else .next ((s.wrB (Reg.RIO_LINK_STAT_LINK_UP l) up).post Un.rio 0x0E15 l (b2n up) 0)

end Sys2Proof.Machine
end

