-- ==== Sys2Proof/Machine/ScanBase.lean ====
section
/-!
DEFINITION. Tasks and their images (R16, R18, R76, R78, R80, R85, R102), and who leads and who follows in a pair.
-/
namespace Sys2Proof.Machine

/-! ### Task states (SCN_TASK_STAT.STATE) -/

def taskStopped : Nat := 0
def taskStarting : Nat := 1
def taskRunning : Nat := 2
def taskHeld : Nat := 3
def taskFault : Nat := 4
def taskUnused : Nat := 7

/-! ### Modes (SCN_STAT.MODE) -/

def modeStop : Nat := 0
def modeRun : Nat := 1
def modeHold : Nat := 2

def State.scnMode (s : State) : Nat := s.rd Reg.SCN_STAT_MODE
def State.taskState (s : State) (t : Nat) : Nat := s.rd (Reg.SCN_TASK_STAT_STATE t)
def State.setTaskState (s : State) (t st : Nat) : State := s.wr (Reg.SCN_TASK_STAT_STATE t) st

/-- Replace it. -/
def State.setTask (s : State) (t : Nat) (x : ScanTask) : State :=
  { s with scn := { s.scn with tasks := Assoc.insert s.scn.tasks t x } }

/-- The fastest task (R201): the shortest PERIOD, then the higher priority. -/
def State.fastest (s : State) : Option Nat :=
  ((s.tasksByPrio.reverse).foldl (fun l t => insertBy (fun m => s.taskPeriod m) t l) []).head?

/-! ### The grid (R75, R76) -/

def baseTick : Nat := 250000

/-- A task's cycle starts at a base tick, given by its FRC instant. -/
def State.cycleDue (s : State) (t tick : Nat) : Bool :=
  match s.scn.origin with
  | none => false
  | some o =>
    let n := ((tick : Int) - o).toNat / baseTick
    decide (o ≤ (tick : Int)) && decide (s.taskPhase t ≤ n) && (n - s.taskPhase t) % s.taskPeriod t == 0

/-- FRC of the start of the cycle after the present one. -/
def State.nextStart (s : State) (t : Nat) : Nat := (s.task t).start + baseTick * s.taskPeriod t

/-- FRC of the present cycle's commit point. -/
def State.commitPoint (s : State) (t : Nat) : Nat := s.nextStart t - s.taskMargin t

/-- The longest PERIOD of the tasks in RUN: the slowest task (R68). -/
def State.slowest (s : State) : Option Nat :=
  ((s.tasksByPrio.filter (fun t => s.taskState t == taskStarting || s.taskState t == taskRunning)).foldl
    (fun l t => insertBy (fun m => 40000 - s.taskPeriod m) t l) []).head?

/-! ### Forces (R102, R104) -/

/-- A physical target in a Stairway link: link, station and point. -/
def forceStairway (tgt : Nat) : Option (Nat × Nat × Nat) :=
  if bits tgt 24 8 = 0 then some (bits tgt 21 3, bits tgt 16 5, bits tgt 0 16) else none

/-- A force applied to a station's output bytes. -/
def forceByte (l a : Nat) (d : List Byte) (f : Force) : List Byte :=
  if f.phys then
    match forceStairway f.tgt with
    | some (l', a', p) => if l' = l ∧ a' = a ∧ p < d.length then d.set p (BitVec.ofNat 8 f.val) else d
    | none => d
  else d

/-- The variable forces on a task's instances put their values into its data area (R102). -/
def State.forceVars (s : State) (t : Nat) : State :=
  let put (x : Inst) : Inst :=
    match s.scn.forces.find? (fun f => !f.phys && f.tgt == x.id && f.type == x.type) with
    | some f => if x.task = t then { x with data := some (leBytes x.size f.val) } else x
    | none => x
  { s with scn := { s.scn with insts := s.scn.insts.map put } }

/-! ### The input image (R16, R80) -/

/-- Enter bytes into an image at an offset; an offset of 0xFFFF, or bytes beyond the image, enter nothing. -/
def putAt (img : List Byte) (off : Nat) (bs : List Byte) : List Byte :=
  if off = 0xFFFF ∨ img.length < off + bs.length then img else img.take off ++ bs ++ img.drop (off + bs.length)

/-- A task's image with the variable forces over it (R102): those on variables that lie in its input image, or in its
output image where `out` is 2. -/
def State.forceImage (s : State) (t out : Nat) (img : List Byte) : List Byte :=
  let prog := (Assoc.find? s.scn.progs t).getD []
  s.scn.forces.foldl (fun i f =>
    if f.phys then i
    else match s.scn.insts.find? (fun x => x.id == f.tgt && x.type == f.type && x.task == t) with
      | some x =>
        let p := Config.varPlace prog x.id
        if p % 4 = out then putAt i (p / 4) (leBytes x.size f.val) else i
      | none => i) img

/-- The island channels, numbered 8 × island + channel, of a task. -/
def State.taskChans (s : State) (t : Nat) : List Nat :=
  (List.range 64).filter (fun n => s.chPers (n / 8) (n % 8) != 0 && s.chTask (n / 8) (n % 8) == t)

/-- The loops of a task. -/
def State.taskLoops (s : State) (t : Nat) : List Nat := s.loopNums.filter (fun n => s.loopTask n == t)

/-- The Stairway links of a task. -/
def State.taskLinks (s : State) (t : Nat) : List Nat := (List.range 8).filter (fun l => s.rioOn l && s.rioTask l == t)

/-- The input image as the sources give it. -/
def State.buildInput (s : State) (t : Nat) : List Byte :=
  let img := List.replicate (s.taskIn t) (0 : Byte)
  let img := (s.taskChans t).foldl (fun i n => putAt i (s.chIn (n / 8) (n % 8)) (s.islEntry (n / 8) (n % 8))) img
  let img := (s.taskLoops t).foldl (fun i n => putAt i (s.loopFld n 0x18 2) (s.loopStatus n)) img
  let img := ((List.range 8).filter (fun a => s.axOn a && s.axTask a == t)).foldl
    (fun i a => putAt i (s.axStatOff a) (s.axStatus a)) img
  (s.taskLinks t).foldl (fun i l =>
    (List.range (s.rioN l)).foldl (fun i a => putAt i (s.rioInOff l + a * (8 + s.rioSlotIn l)) (s.rioEntry l a)) i) img

/-- A latched cycle sees forced variables of its output image as it starts (R102). -/
def State.latchOut (s : State) (t : Nat) : State :=
  (s.setTask t { s.task t with output := s.forceImage t 2 (s.task t).output }).forceVars t

/-- INPUT_LATCH of a task's own sources (R16, R80), with class-1 time; variable forces act on the input image. -/
def State.latchOwn (s : State) (t : Nat) : State :=
  let s := (s.taskLinks t).foldl (fun s l => s.rioLatch l) s
  let img := s.buildInput t
  let s := (s.taskLoops t).foldl (fun s n => if s.loopFld n 0x18 2 = 0xFFFF then s else s.loopLatched n) s
  (s.setTask t { s.task t with
    input := s.forceImage t 1 img, t1 := s.t1, t1dom := s.rd Reg.TIM_STAT_C1_SRC % 2 }).latchOut t

/-! ### The committed image (R18, R80, R85, R102) -/

/-- A channel is the OUT destination of a loop. -/
def State.loopDrives (s : State) (k c : Nat) : Bool := s.loopNums.any (fun n => s.loopOutSel n == 0x1000 + 8 * k + c)

/-- An output personality. -/
def persOut (p : Nat) : Bool := persDo p || persAo p

/-- A channel's output at a commit: a physical force over the safe value or the image's. -/
def State.commitChan (s : State) (safe : Bool) (img : List Byte) (n : Nat) : State :=
  let k := n / 8
  let c := n % 8
  if !persOut (s.chPers k c) then s
  else match s.forceOn k c with
    | some v => s.setOut k c (v % 2 ^ 32)
    | none =>
      if s.loopDrives k c then s
      else if safe then s.setOut k c (s.chSafe k c)
      else if s.chOut k c = 0xFFFF then s
      else s.setOut k c (le img (s.chOut k c) 4)

/-- A Stairway link's output at a commit. -/
def State.commitLink (s : State) (safe : Bool) (img : List Byte) (l : Nat) : State :=
  let data (a : Nat) : List Byte :=
    let d := if safe then List.replicate (s.rioSlotOut l) (0 : Byte)
      else padTo (s.rioSlotOut l) (slice img (s.rioOutOff l + a * s.rioSlotOut l) (s.rioSlotOut l))
    s.scn.forces.foldl (fun d f => forceByte l a d f) d
  s.rioOutput l safe data

/-- The committed image reaches its units (R18), with variable forces over the program's writes (R102). On a module that
does not drive, the units hold it. -/
def State.commitOut (s : State) (t : Nat) : State :=
  let x := s.task t
  let img := s.forceImage t 2 x.committed
  let s := (s.taskChans t).foldl (fun s n => s.commitChan x.safe img n) s
  let s := s.loopTake t x.safe img
  let s := s.axCommit t x.safe img
  let s := (s.taskLinks t).foldl (fun s l => s.commitLink x.safe img l) s
  s.canCommit t

/-- The safe image becomes the committed image (R85). -/
def State.commitSafe (s : State) (t : Nat) : State :=
  ((s.setTask t { s.task t with safe := true }).forceVars t).commitOut t

/-- A task's own image becomes the committed image. -/
def State.commitOwn (s : State) (t : Nat) : State :=
  let s := s.setTask t { s.task t with safe := false, committed := (s.task t).output }
  (s.forceVars t).commitOut t

/-- The image as committed, as the digest takes it (R201): the safe image has every configured output at its safe
value, each loop in manual there, each axis stopped; forces show in it. -/
def State.digestImage (s : State) (t : Nat) : List Byte :=
  let x := s.task t
  let img := if x.safe then List.replicate (s.taskOut t) (0 : Byte) else s.forceImage t 2 (padTo (s.taskOut t) x.committed)
  let img := (s.taskChans t).foldl (fun i n =>
    let k := n / 8
    let c := n % 8
    if persOut (s.chPers k c) then
      match s.forceOn k c with
      | some v => putAt i (s.chOut k c) (leBytes 4 v)
      | none => if x.safe then putAt i (s.chOut k c) (leBytes 4 (s.chSafe k c)) else i
    else i) img
  (s.taskLinks t).foldl (fun i l => (List.range (s.rioN l)).foldl (fun i a =>
    let off := s.rioOutOff l + a * s.rioSlotOut l
    putAt i off (s.scn.forces.foldl (fun d f => forceByte l a d f) (slice i off (s.rioSlotOut l)))) i) img

/-! ### Entry releases (R195, R196, R344, R397, R407) -/

/-- The release positions, queues first: KIND, INDEX and POSITION. -/
def State.releasePositions (s : State) : List (Nat × Nat × Nat) :=
  (List.range 64).map (fun q => (0, q, s.queRi q)) ++
  (List.range 32).map (fun ch => (1, ch, (s.chan ch).accepted - ((s.chan ch).msgs.filter (fun m => !m.visible)).length))

/-- ENTRY_RELEASE at a latching base tick. -/
def State.releaseAll (s : State) : State := s.queReleaseAll.pgnReleaseAll

/-! ### Cores (R77) -/

/-- The time that a core has given to the execute it runs is counted up to now. -/
def State.coreCount (s : State) (c : Nat) : State :=
  let span := s.frc - (Assoc.find? s.scn.coreAt c).getD 0
  let s := match s.coreTop c with
    | some t => s.setTask t { s.task t with used := (s.task t).used + span }
    | none => s
  { s with scn := { s.scn with coreAt := Assoc.insert s.scn.coreAt c s.frc } }

/-! ### Deadline misses (R92 to R94) -/

/-- A miss is counted: at the commit point, or for a skipped latch. -/
def State.taskMiss (s : State) (t how : Nat) : State :=
  let n := min (s.rd (Reg.SCN_TASK_STAT_CONSEC t) + 1) 15
  let s := (s.bump (Reg.SCN_TASK_STAT_MISSES t)).wr (Reg.SCN_TASK_STAT_CONSEC t) n
  let x := s.task t
  (s.setTask t { x with good := 0, fault := x.fault || decide (s.taskLimit t ≤ n) }).post Un.scn 0x0401 t n how

/-- MISS_LIMIT_STOP (R94). -/
def State.taskLimitStop (s : State) (t : Nat) : State :=
  let s := s.coreCount (s.taskCore t)
  let x := s.task t
  let gone := x.running.isSome
  let s := s.setTask t { x with running := none, fault := false, trapped := false, late := false }
  let s := if gone then s.wr (Reg.SCN_TASK_STAT_ABANDONED t) 1 else s
  let s := s.setTaskState t taskFault
  (s.post Un.scn 0x0402 t (s.taskLimit t) (s.rd (Reg.SCN_TASK_STAT_ABANDONED t))).commitSafe t

/-! ### A join ends (R226, R235) -/

/-- The Scan Engine in STOP with every task STOPPED: a module that is COLD or FAILED (R206, R226), by a decision of the
pair (R106). -/
def State.scnHalt (s : State) : State :=
  let s := if s.scnMode = modeStop then s else s.post Un.scn 0x0403 s.scnMode modeStop 3
  let s := (s.wr Reg.SCN_STAT_MODE modeStop).wr Reg.SCN_STAT_PENDING 3
  let s := ((List.range 16).filter (fun t => s.taskUsed t)).foldl (fun s t =>
    (s.setTask t { s.task t with
      running := none, open_ := false, latched := false, waits := false, late := false, fault := false
      trapped := false, restart := false }).setTaskState t taskStopped) s
  { s with scn := { s.scn with cmds := [], dues := [] } }

/-- A join's failure counts towards its second trial; the module stays COLD with its Scan Engine in STOP (R226). -/
def State.joinFailed (s : State) (reason : Nat) : State :=
  let s := (s.wr ⟨0x2000070200, 24, 8⟩ reason).wr ⟨0x2000070200, 0, 4⟩ 7
  ({ s with ban := { s.ban with
      join := none, stuck := s.ban.lastFail == reason, lastFail := reason, retryAt := s.frc + 1000000000 } } : State).scnHalt

/-- A join ends without success (R225 to R235): recorded with its phase and backlog. The active module tells the cold
one with a JOIN_ANSWER. -/
def State.joinEnd (s : State) (reason : Nat) : State :=
  match s.ban.join with
  | none => s
  | some j =>
    let s := s.post Un.ban 0x0812 reason (s.rd ⟨0x2000070200, 0, 4⟩) (s.rd ⟨0x2000070210, 16, 16⟩)
    if j.active then
      let s := s.banSend 0x41 (leBytes 1 reason ++ List.replicate 15 0)
      let s := (s.wr ⟨0x2000070200, 24, 8⟩ reason).wr ⟨0x2000070200, 0, 4⟩ 7
      { s with ban := { s.ban with join := none } }
    else s.joinFailed reason

/-- An event of R235 ends a join: ABORTED. -/
def State.joinAbort (s : State) : State := s.joinEnd 0x09

end Sys2Proof.Machine
end

