-- ==== Sys2Proof/Machine/Program.lean ====
section
/-!
DEFINITION. Timers and edge detectors, on-line program exchange and the force table (R89 to R91, R96 to R104).
-/
namespace Sys2Proof.Machine

/-! ### Types (R97) -/

def tyTon : Nat := 0x201
def tyTof : Nat := 0x202
def tyTp : Nat := 0x203
def tyRtrig : Nat := 0x211
def tyFtrig : Nat := 0x212
def tyTimer (ty : Nat) : Bool := ty == tyTon || ty == tyTof || ty == tyTp
def tyEdge (ty : Nat) : Bool := ty == tyRtrig || ty == tyFtrig
def tyElementary (ty : Nat) : Bool := decide (0x101 ≤ ty) && decide (ty ≤ 0x110)
def tyKnown (ty : Nat) : Bool := tyElementary ty || tyTimer ty || tyEdge ty || decide (0x10000 ≤ ty)

/-! ### Timers and edge detectors (R89 to R91) -/

/-- One invocation of a TON; `p` is 0 but for the first invocation in a scan (R90). -/
def tonStep (x : Inst) (inp : Bool) (pt p : Nat) : Inst :=
  let et := if inp && !x.m then 0 else if inp then min (x.et + p) pt else 0
  { x with et, q := inp && decide (pt ≤ et), m := inp }

/-- One invocation of a TOF. -/
def tofStep (x : Inst) (inp : Bool) (pt p : Nat) : Inst :=
  let et := if !inp && x.m then 0 else if !inp then min (x.et + p) pt else 0
  { x with et, q := inp || decide (et < pt), m := inp }

/-- One invocation of a TP. -/
def tpStep (x : Inst) (inp : Bool) (pt p : Nat) : Inst :=
  let start := inp && !x.m && !x.run
  let et := if start then 0 else if x.run then min (x.et + p) pt else if !inp then 0 else x.et
  let run := (start || x.run) && !decide (pt ≤ et)
  { x with et, run, q := run, m := inp }

/-- One invocation of an edge detector (R91). -/
def edgeStep (x : Inst) (clk : Bool) : Inst :=
  { x with q := if x.type = tyRtrig then clk && !x.m else !clk && x.m, m := clk }

/-- What a new instance starts from at its first invocation: a TOF at ET = PT (R89), an edge detector at its input or,
with COLD_EDGE, at FALSE for an R_TRIG and TRUE for an F_TRIG (R99). -/
def Inst.begin (x : Inst) (inp : Bool) (pt : Nat) : Inst :=
  if !x.fresh then x
  else if x.type = tyTof then { x with et := pt, m := false, fresh := false }
  else if tyEdge x.type then { x with m := if bitAt x.flags 0 then x.type == tyFtrig else inp, fresh := false }
  else { x with fresh := false }

/-- An invocation in a scan of a task with period `p` in ns. -/
def Inst.invoke (x : Inst) (inp : Bool) (pt p : Nat) : Inst :=
  let x := x.begin inp pt
  let p := if x.stepped then 0 else p
  if tyEdge x.type then edgeStep x inp
  else
    let y := if x.type = tyTon then tonStep x inp pt p else if x.type = tyTof then tofStep x inp pt p else tpStep x inp pt p
    { y with stepped := true }

/-- An instance of the active table. -/
def State.inst (s : State) (id : Nat) : Option Inst := s.scn.insts.find? (fun x => x.id == id)

/-- Change the instances. -/
def State.mapInsts (s : State) (f : Inst → Inst) : State := { s with scn := { s.scn with insts := s.scn.insts.map f } }

/-- An invocation by a task's program. -/
def State.invoke (s : State) (t : Nat) (v : Invoke) : State :=
  s.mapInsts (fun x =>
    if x.id = v.id.toNat ∧ (tyTimer x.type || tyEdge x.type) then x.invoke v.input v.pt.toNat (s.taskPeriod t * baseTick)
    else x)

/-- A variable that a task's program writes. -/
def State.varWrite (s : State) (t : Nat) (w : BitVec 32 × List Byte) : State :=
  s.mapInsts (fun x => if x.id = w.1.toNat ∧ x.task = t ∧ !tyTimer x.type ∧ !tyEdge x.type
    then { x with data := some ((w.2 ++ List.replicate x.size 0).take x.size) } else x)

/-- RESTART of an abandoned task reinitialises its instances (R87, R94). -/
def State.reinit (s : State) (t : Nat) : State :=
  s.mapInsts (fun x => if x.task = t then
    { id := x.id, type := x.type, off := x.off, size := x.size, task := x.task, flags := x.flags } else x)

/-! ### Packages (R96, R97) -/

/-- REASON codes of SCN_OLC_STAT. -/
def olcSource : Nat := 1
def olcLength : Nat := 2
def olcFormat : Nat := 3
def olcSignature : Nat := 4
def olcTask : Nat := 5
def olcInstances : Nat := 6
def olcNoLanding : Nat := 7
def olcSoftPending : Nat := 8
def olcPairMismatch : Nat := 9
def olcStructure : Nat := 0xA
def olcChanged : Nat := 0xB
def olcKey : Nat := 0xC

/-- Task entries: TASK, CODE_OFF, CODE_LEN, DATA_SIZE. -/
def pkgTasks (b : List Byte) : List (Nat × Nat × Nat × Nat) :=
  (List.range (le b 6 2)).map (fun j =>
    (le b (0x40 + 16 * j) 1, le b (0x44 + 16 * j) 4, le b (0x48 + 16 * j) 4, le b (0x4C + 16 * j) 4))

def pkgHasTask (b : List Byte) (t : Nat) : Bool := (pkgTasks b).any (fun e => e.1 == t)

/-- The instance table. -/
def pkgInsts (b : List Byte) : List Inst :=
  let base := 0x40 + 16 * le b 6 2
  (List.range (le b 0xC 4)).map (fun j =>
    let o := base + 16 * j
    { id := le b o 4, type := le b (o + 4) 4, off := le b (o + 8) 4, size := le b (o + 12) 2
      task := le b (o + 14) 1, flags := le b (o + 15) 1 })

def pkgSerial (b : List Byte) : Nat := le b 0x30 4

/-- Counts and placements of the header. -/
def pkgFormatOk (b : List Byte) : Bool :=
  let tl := b.length
  let tc := le b 6 2
  let ic := le b 0xC 4
  let tableEnd := 0x40 + 16 * tc + 16 * ic
  slice b 0 4 == [0x53, 0x43, 0x50, 0x4B] && le b 4 1 == 1 && le b 0x34 12 == 0 &&
  decide (1 ≤ tc) && decide (tc ≤ 16) && decide (ic ≤ 1048576) && decide (tableEnd ≤ tl - 64) &&
  (List.range tc).all (fun j => le b (0x41 + 16 * j) 3 == 0) &&
  (pkgTasks b).all (fun e => e.2.2.1 == 0 || (decide (tableEnd ≤ e.2.1) && decide (e.2.1 + e.2.2.1 ≤ tl - 64)))

/-- A key that is provisioned and not revoked (R47). -/
def State.keyUsable (s : State) (k : Nat) : Bool :=
  decide (k < 4) && bitAt (s.rd Reg.FPL_KEYS_PROVISIONED) k && !bitAt (s.rd Reg.FPL_KEYS_REVOKED) k

/-- DATA_SIZE of a task once a package is in force: its entry's, or the one the task has. -/
def State.dataSize (s : State) (b : List Byte) (t : Nat) : Nat :=
  match (pkgTasks b).find? (fun e => e.1 == t) with
  | some e => e.2.2.2
  | none => (Assoc.find? s.scn.dsize t).getD 0

/-- Strictly rising IDs above 0. -/
def rising : Nat → List Inst → Bool
  | _, [] => true
  | p, x :: t => decide (p < x.id) && rising x.id t

/-- An output that a task owns, in the numbering of selectors: 0x1000 an island channel that no loop drives, 0x6000 an
axis, 0x7000 a loop's command block, 0x9000 a Stairway link (R78, R110). -/
def State.outputOwned (s : State) (t o : Nat) : Bool :=
  let i := selIdx o
  match selKind o with
  | 1 => s.chPers (i / 8) (i % 8) != 0 && s.chTask (i / 8) (i % 8) == t && !s.loopDrives (i / 8) (i % 8)
  | 6 => s.axOn i && s.axTask i == t
  | 7 => s.loopOn i && s.loopTask i == t
  | 9 => s.rioOn i && s.rioTask i == t
  | _ => false

/-- Each entry names a task of TASKS once, fits CODE_MAX, and its code writes outputs of its own task only (R78, R110). -/
def State.pkgTasksOk (s : State) (b : List Byte) : Bool :=
  let l := pkgTasks b
  l.all (fun e => s.taskUsed e.1 && decide (e.2.2.1 + e.2.2.2 ≤ s.taskFld e.1 0x14 4)) &&
  decide ((l.map (fun e => e.1)).Nodup) &&
  l.all (fun e => (Config.codeWrites (slice b e.2.1 e.2.2.1)).all (fun o => s.outputOwned e.1 o))

def State.pkgInstsOk (s : State) (b : List Byte) : Bool :=
  rising 0 (pkgInsts b) && (pkgInsts b).all (fun x =>
    x.flags / 4 == 0 && tyKnown x.type && s.taskUsed x.task && decide (x.off + x.size ≤ s.dataSize b x.task))

/-- The structure digest as bytes (FPL_STRDIG). -/
def State.strDigest (s : State) : List Byte := (List.range 8).flatMap (fun i => leBytes 4 (s.rd (Reg.FPL_STRDIG i)))

/-- The checks of a package in the shadow area, first failure first; 0 where all pass. DESIGN CHOICE (log 185): their
order. -/
def State.pkgCheck (s : State) (b : List Byte) : Nat :=
  let key := le b 5 1
  let body := b.take (b.length - 64)
  if !pkgFormatOk b then olcFormat
  else if !s.keyUsable key then olcKey
  else if !Config.imageSignatureGood key (Config.sha256 body) (b.drop (b.length - 64)) then olcSignature
  else if slice b 0x10 32 != s.strDigest then olcStructure
  else if !s.pkgTasksOk b then olcTask
  else if !s.pkgInstsOk b then olcInstances
  else 0

/-! ### Exchange (R98 to R101) -/

def olcIdle : Nat := 0
def olcVerifying : Nat := 1
def olcVerified : Nat := 2
def olcArmed : Nat := 3
def olcSwapped : Nat := 4
def olcFailed : Nat := 5

def State.olcState (s : State) : Nat := s.rd Reg.SCN_OLC_STAT_STATE
def State.olcSet (s : State) (st reason : Nat) : State :=
  (s.wr Reg.SCN_OLC_STAT_STATE st).wr Reg.SCN_OLC_STAT_REASON reason

/-- VERIFY: SOURCE and LENGTH are decided from the first 16 bytes; the package is copied and hashed. -/
def State.olcBegin (s : State) : State :=
  let a := s.rd64 Reg.SCN_OLC_SRC_LO Reg.SCN_OLC_SRC_HI
  let n := s.rd Reg.SCN_OLC_LEN
  let tl := leVal (s.bytes (a + 8) 4)
  let early : Nat :=
    if a % 8 ≠ 0 ∨ !inRam a n then olcSource
    else if tl < 192 ∨ 0x4000000 < tl ∨ tl % 8 ≠ 0 ∨ tl ≠ n then olcLength
    else 0
  let b := if early = 0 then s.bytes a n else []
  { s.olcSet olcVerifying 0 with scn := { s.scn with
      shadow := b, hash := if early = 0 then Config.sha256 b else [], early } }

/-- OLC_VERIFY_DONE (R98): the source is hashed again, and the copy is checked. DESIGN CHOICE (log 186): 0x0408 gives
SERIAL 0 for a package that failed on SOURCE or LENGTH. -/
def execOlcVerifyDone (s : State) : Answer :=
  if s.olcState ≠ olcVerifying then .next s
  else
    let a := s.rd64 Reg.SCN_OLC_SRC_LO Reg.SCN_OLC_SRC_HI
    let b := s.scn.shadow
    let why :=
      if s.scn.early ≠ 0 then s.scn.early
      else if Config.sha256 (s.bytes a b.length) ≠ s.scn.hash then olcChanged
      else s.pkgCheck b
    if why = 0 then .next (s.olcSet olcVerified 0)
    else .next ((s.olcSet olcFailed why).post Un.scn 0x0408 why (pkgSerial b) 0)

/-- A soft image is pending (R71): from the accepted SOFT_APPLY, one that the controller's state did not refuse, to its
landing or the failure of its verification. -/
def State.softPending (s : State) : Bool :=
  s.fpl.softNext.isSome || (match s.fpl.op with
    | some op => op.cmd == FplCmd.softApply && !op.fail.any (fun f => f.reason == 0x18 || f.reason == 0x19)
    | none => false)

/-- Of some tasks, that of the longest PERIOD: a landing is one of its cycle starts. -/
def State.slowestOf (s : State) (tasks : Nat → Bool) : Option Nat :=
  (((List.range 16).filter tasks).foldl (fun l t => insertBy (fun m => 40000 - s.taskPeriod m) t l) []).head?

/-- The slowest affected task of a package. -/
def State.pkgSlowest (s : State) (b : List Byte) : Option Nat := s.slowestOf (fun t => pkgHasTask b t)

/-- FRC of the base tick with a count. -/
def State.tickFrc (s : State) (c : Nat) : Nat := s.scn.lastTick.getD 0 + (c - s.scn.ticks) * baseTick

/-- The earliest base tick, from a tick count on and at most 60 s away, at which all of some tasks start a cycle. -/
def State.commonStart (s : State) (tasks : Nat → Bool) (lead : Option Nat) (first : Nat) : Option Nat :=
  match lead with
  | none => none
  | some t =>
    let p := max 1 (s.taskPeriod t)
    let ok (c : Nat) : Bool := (List.range 16).all (fun u => !tasks u || s.cycleDue u (s.tickFrc c))
    match (List.range p).find? (fun d => s.cycleDue t (s.tickFrc (first + d))) with
    | none => none
    | some d => ((List.range (240000 / p + 1)).map (fun j => first + d + j * p)).find?
        (fun c => ok c && decide (s.tickFrc c ≤ s.frc + 60000000000))

/-- TICK of the first base tick at least `n` ticks away. -/
def State.tickAfter (s : State) (n : Nat) : Nat := s.scn.ticks + n + (if s.scn.lastTick = some s.frc then 0 else 1)

/-- ARM acts (R98, R101). `same`: the peer has verified a package with the same hash; `first`: the first tick that can be the
landing. -/
def State.olcArmAct (s : State) (same : Bool) (first : Nat) : State :=
  if s.olcState ≠ olcVerified then s
  else
    let b := s.scn.shadow
    let land := s.commonStart (fun t => pkgHasTask b t) (s.pkgSlowest b) first
    let why :=
      if s.softPending then olcSoftPending
      else if (s.leadsPair || s.follows) && !same then olcPairMismatch
      else if s.scnMode ≠ modeStop ∧ land = none then olcNoLanding
      else 0
    if why ≠ 0 then (s.wr Reg.SCN_OLC_STAT_REASON why).post Un.scn 0x0408 why (pkgSerial b) 0
    else
      let s := s.joinAbort
      { s.olcSet olcArmed 0 with scn := { s.scn with landing := if s.scnMode = modeStop then none else land } }

/-- CANCEL acts. -/
def State.olcCancelAct (s : State) : State :=
  if s.olcState = olcArmed then { s.olcSet olcVerified 0 with scn := { s.scn with landing := none } } else s

/-- A command that the agreement carries waits for the next tick. -/
def State.agree (s : State) (c : AgrCmd) : State := { s with scn := { s.scn with cmds := s.scn.cmds ++ [c] } }

/-- A write of SCN_OLC_CMD. ARM and CANCEL on a module that is neither in control nor still starting do nothing: the
active module's act on both (R84). -/
def State.olcCmdWrite (s : State) (m : Master) (v : Nat) (same : Bool) : State :=
  let cmd := v % 16
  let st := s.olcState
  let bad : Bool := ((cmd == 1 || cmd == 2) && (st == olcVerifying || st == olcArmed)) ||
    (cmd == 2 && st != olcVerified) || (cmd == 3 && st != olcArmed)
  if bits v 24 8 ≠ 0xA5 ∨ cmd = 0 ∨ 3 < cmd then s
  else if bad then s.refuseWrite m Reg.SCN_OLC_CMD.addr
  else if cmd = 1 then s.olcBegin
  else if !(s.inControl || s.role == 7) then s
  else if s.leadsLog then s.agree { kind := 2, cmd := v, val := b2n same }
  else if cmd = 2 then s.olcArmAct same (s.tickAfter 2)
  else s.olcCancelAct

/-- OLC_VERIFY (R98). -/
def execOlcVerify (m : Master) (s : State) : Answer :=
  .next (s.access m .w32 true Reg.SCN_OLC_CMD.addr (fun s => s.olcCmdWrite m 0xA5000001 false))

/-- OLC_ARM (R98, R101). -/
def execOlcArm (m : Master) (same : Bool) (s : State) : Answer :=
  .next (s.access m .w32 true Reg.SCN_OLC_CMD.addr (fun s => s.olcCmdWrite m 0xA5000002 same))

/-- OLC_CANCEL (R98). -/
def execOlcCancel (m : Master) (s : State) : Answer :=
  .next (s.access m .w32 true Reg.SCN_OLC_CMD.addr (fun s => s.olcCmdWrite m 0xA5000003 false))

/-- What an entry of the new table starts from (R99): the state of the same ID with the same TYPE, else its initial
value. -/
def carryInst (old : List Inst) (x : Inst) : Inst :=
  match old.find? (fun y => y.id == x.id && y.type == x.type) with
  | some y => { x with et := y.et, m := y.m, run := y.run, q := y.q, fresh := y.fresh, data := y.data }
  | none => x

/-- A force that an exchange releases (R103): its ID is gone (2) or has changed TYPE (3). -/
def forceGone (insts : List Inst) (f : Force) : Nat :=
  if f.phys then 0
  else match insts.find? (fun x => x.id == f.tgt) with
    | none => 2
    | some x => if x.type = f.type then 0 else 3

/-- COUNT and FORCES_ACTIVE. -/
def State.forceShow (s : State) : State :=
  (s.wr Reg.SCN_FORCE_STAT_COUNT s.scn.forces.length).wrB Reg.SCN_STAT_FORCES_ACTIVE (!s.scn.forces.isEmpty)

/-- Forces whose ID has gone or changed TYPE are released. -/
def State.forcesSettle (s : State) : State :=
  let gone := s.scn.forces.filter (fun f => forceGone s.scn.insts f != 0)
  let s := gone.foldl (fun s f => s.post Un.scn 0x0406 f.tgt f.type (forceGone s.scn.insts f)) s
  let keep := s.scn.forces.filter (fun f => forceGone s.scn.insts f == 0)
  ({ s with scn := { s.scn with forces := keep } }.wr Reg.SCN_OLC_COUNTS_RELEASED (min gone.length 0xFFFF)).forceShow

/-- BAN_PROGDIG (R227). -/
def State.progDigest (s : State) : List Byte :=
  Config.sha256 ((List.range 16).flatMap (fun t => (Assoc.find? s.scn.progs t).getD (List.replicate 32 0)))

def State.progShow (s : State) : State :=
  (List.range 8).foldl (fun s i => s.wr (Reg.BAN_PROGDIG i) (le s.progDigest (4 * i) 4)) s

/-- The swap (R99, R103). -/
def State.olcSwap (s : State) : State :=
  let b := s.scn.shadow
  let old := s.scn.insts
  let new := (pkgInsts b).map (fun x => carryInst old x)
  let kept := old.filter (fun y => !pkgHasTask b y.task && !new.any (fun x => x.id == y.id))
  let reset := new.filter (fun x => old.any (fun y => y.id == x.id && y.type != x.type))
  let s := reset.foldl (fun s x =>
    s.post Un.scn 0x0405 x.id ((old.find? (fun y => y.id == x.id)).map (fun y => y.type) |>.getD 0) x.type) s
  let tasks := pkgTasks b
  let h := Config.sha256 b
  let s : State := { s with scn := { s.scn with
    insts := new ++ kept, landing := none
    progs := tasks.foldl (fun l e => if e.2.2.1 = 0 then Assoc.erase l e.1 else Assoc.insert l e.1 h) s.scn.progs
    dsize := tasks.foldl (fun l e => Assoc.insert l e.1 e.2.2.2) s.scn.dsize } }
  let s := (s.forcesSettle.wr Reg.SCN_OLC_COUNTS_RESET (min reset.length 0xFFFF)).olcSet olcSwapped 0
  s.progShow.post Un.scn 0x0404 (pkgSerial b) (s.frc % 2 ^ 32) (min reset.length 0xFFFF)

/-- Every affected task is STOPPED, with the module in STOP or an ARM from STOP not yet swapped (R98). -/
def State.olcStopped (s : State) : Bool :=
  (s.scnMode == modeStop || s.scn.landing.isNone) && (List.range 16).all (fun t => !pkgHasTask s.scn.shadow t || s.taskState t == taskStopped)

/-- OLC_SWAP (R99): at the landing, before its input latches, or in STOP. -/
def execOlcSwap (s : State) : Answer :=
  if s.olcState ≠ olcArmed ∨ !s.power.running then .next s
  else if s.olcStopped then .next s.olcSwap
  else match s.scn.landing with
    | some c => if s.scn.ticks + 1 = c then .next { s with frc := max s.frc (s.tickFrc c) }.olcSwap else .next s
    | none => .next s

/-! ### Forces (R102 to R104) -/

/-- A configured physical output. -/
def State.forceTarget (s : State) (tgt : Nat) : Bool :=
  match forceIsland tgt, forceStairway tgt with
  | some (k, c), _ => s.islFitted k && persOut (s.chPers k c)
  | none, some (l, a, p) => s.rioOn l && decide (a < s.rioN l) && decide (p < s.rioSlotOut l)
  | none, none => false

/-- The force that a target and type name. -/
def forceOf (tgt type : Nat) (val : Nat) : Force :=
  let phys := bitAt type 31
  let tgt := match forceIsland tgt with
    | some (k, c) => if phys then 0x1000000 + 256 * k + c else tgt
    | none => tgt
  { phys, tgt, type := if phys then 0 else type % 2 ^ 31, val }

def Force.same (f g : Force) : Bool := f.phys == g.phys && f.tgt == g.tgt && f.type == g.type

/-- SET acts. -/
def State.forceSet (s : State) (tgt type val : Nat) : State :=
  let f := forceOf tgt type val
  let ok : Bool :=
    if f.phys then s.forceTarget tgt
    else tyElementary f.type && (match s.inst tgt with
      | some x => x.type == f.type
      | none => false)
  if !ok then s.wr Reg.SCN_FORCE_STAT_STATUS Sta.lenInvalid
  else
    let others := s.scn.forces.filter (fun g => !g.same f)
    if others.length = s.scn.forces.length ∧ 256 ≤ others.length then s.wr Reg.SCN_FORCE_STAT_STATUS Sta.rejectedFull
    else
      let s : State := { s with scn := { s.scn with forces := others ++ [f] } }
      (s.forceShow.wr Reg.SCN_FORCE_STAT_STATUS Sta.ok).post Un.scn 0x0407 tgt type (val % 2 ^ 32)

/-- A force is released by command. -/
def State.forceDrop (s : State) (f : Force) : State :=
  ({ s with scn := { s.scn with forces := s.scn.forces.filter (fun g => !g.same f) } }.forceShow).post Un.scn 0x0406
    f.tgt (f.type + b2n f.phys * 2 ^ 31) 1

/-- RELEASE acts. -/
def State.forceRelease (s : State) (tgt type : Nat) : State :=
  let s := s.wr Reg.SCN_FORCE_STAT_STATUS Sta.ok
  if s.scn.forces.any (fun g => g.same (forceOf tgt type 0)) then s.forceDrop (forceOf tgt type 0) else s

/-- RELEASE ALL acts. -/
def State.forceReleaseAll (s : State) : State :=
  s.scn.forces.foldl (fun s f => s.forceDrop f) (s.wr Reg.SCN_FORCE_STAT_STATUS Sta.ok)

/-- A force command acts. -/
def State.forceAct (s : State) (cmd tgt type val : Nat) : State :=
  if cmd % 4 = 1 then s.forceSet tgt type val
  else if cmd % 4 = 2 then s.forceRelease tgt type
  else if cmd % 4 = 3 then s.forceReleaseAll
  else s

/-- A write of SCN_FORCE_CMD; on a module that is neither in control nor still starting it does nothing (R84). -/
def State.forceCmdWrite (s : State) (m : Master) (v : Nat) : State :=
  let tgt := s.rd Reg.SCN_FORCE_TGT
  let type := s.fileAt Reg.SCN_FORCE_TYPE_PHYS.addr
  let val := s.rd64 Reg.SCN_FORCE_VAL_LO Reg.SCN_FORCE_VAL_HI
  if bits v 24 8 ≠ 0xA5 ∨ v % 4 = 0 then s
  else if !s.on Reg.SCN_STAT_FORCE_PERMIT then s.refuseWrite m Reg.SCN_FORCE_CMD.addr
  else if !(s.inControl || s.role == 7) then s
  else if s.leadsLog then s.agree { kind := 1, cmd := v, tgt, type, val }
  else s.forceAct v tgt type val

/-- FORCE_SET (R104). -/
def execForceSet (m : Master) (s : State) : Answer :=
  .next (s.access m .w32 true Reg.SCN_FORCE_CMD.addr (fun s => s.forceCmdWrite m 0xA5000001))

/-- FORCE_RELEASE (R104). -/
def execForceRelease (m : Master) (s : State) : Answer :=
  .next (s.access m .w32 true Reg.SCN_FORCE_CMD.addr (fun s => s.forceCmdWrite m 0xA5000002))

/-- FORCE_RELEASE_ALL (R104). -/
def execForceReleaseAll (m : Master) (s : State) : Answer :=
  .next (s.access m .w32 true Reg.SCN_FORCE_CMD.addr (fun s => s.forceCmdWrite m 0xA5000003))

end Sys2Proof.Machine
end

