-- ==== Sys2Proof/Machine/Serial.lean ====
section
/-!
DEFINITION. Serial ports (R377 to R382).
-/
namespace Sys2Proof.Machine

/-- The generated bit rate: within ±0.05 % of the configured one (R377), which value is free. -/
def State.serRate (s : State) (p : Nat) : Nat :=
  let d := (s.serBaud p * 5 + 5000) / 10000
  s.serBaud p - d + Config.serialRateError p % (2 * d + 1)

/-- The driver may be enabled: TX_ENABLE on a module in control (R382). -/
def State.serDriver (s : State) (p : Nat) : State :=
  s.wrB (Reg.SER_STAT_DRIVER p) (s.inControl && s.serMode p != 0 && s.serFlag p 3)

/-- A port at lock. -/
def State.serLock (s : State) (p : Nat) : State :=
  if s.serRec p = [] then s
  else
    let s := s.wr (Reg.SER_STAT_MODE p) (s.serMode p)
    (s.wr (Reg.SER_BAUD p) (s.serRate p)).serDriver p

/-- The two digits of a hexadecimal number, if they are digits. -/
def hexDigit (b : Byte) : Option Nat :=
  let c := b.toNat
  if 0x30 ≤ c ∧ c ≤ 0x39 then some (c - 0x30)
  else if 0x41 ≤ c ∧ c ≤ 0x46 then some (c - 0x37)
  else if 0x61 ≤ c ∧ c ≤ 0x66 then some (c - 0x57)
  else none

/-- The sentence of an entry: what follows a tag block, from its start character. -/
def sentenceOf (m : List Byte) : List Byte :=
  let rest := if m.head? = some 0x5C#8 then (m.drop 1).dropWhile (fun b => b != 0x5C#8) else m
  rest.dropWhile (fun b => b != 0x24#8 && b != 0x21#8)

/-- The checksum of a sentence (R379): none where it carries no "*hh", else whether it is good. -/
def sentenceCheck (m : List Byte) : Option Bool :=
  let body := (sentenceOf m).drop 1
  let covered := body.takeWhile (fun b => b != 0x2A#8)
  match body.drop covered.length with
  | _ :: h :: l :: _ =>
    match hexDigit h, hexDigit l with
    | some h, some l => some ((covered.foldl (fun x b => x ^^^ b.toNat) 0) == h * 16 + l)
    | _, _ => none
  | _ => none

/-- The Modbus CRC-16 of bytes: polynomial 0x8005 reflected, initial value 0xFFFF. The spec names it; the parameters
are those of the Modbus standard. -/
def modbusCrc (bs : List Byte) : Nat := revBits 16 (crcLsb 16 0x8005 0xFFFF bs)

/-- Whether an RTU frame's CRC is good: its last two bytes, low byte first. -/
def rtuGood (m : List Byte) : Bool :=
  decide (3 ≤ m.length) && modbusCrc (m.take (m.length - 2)) == le m (m.length - 2) 2

/-- FLAGS of a receive entry (R380). -/
def State.serFlags (s : State) (p : Nat) (x : SerMsg) (m : List Byte) : Nat :=
  let mode := s.serMode p
  b2n (x.parity != 0) + b2n (x.framing != 0) * 2 + b2n (x.cut || decide (s.serMaxLen p < x.bytes.length)) * 4 +
  b2n (mode == 2 && x.incomplete) * 8 + b2n (mode == 2 && sentenceCheck m == some false) * 16 +
  b2n (mode == 2 && sentenceCheck m == none) * 32 + b2n (mode == 3 && !rtuGood m) * 64 +
  b2n (mode == 3 && x.gapErr) * 128

/-- A receive entry (R380). -/
def serRxEntry (len port flags seq stamp lost : Nat) (m : List Byte) : List Byte :=
  leBytes 2 len ++ leBytes 1 port ++ leBytes 1 flags ++ leBytes 4 seq ++ leBytes 8 stamp ++ leBytes 2 lost ++
  List.replicate 14 0 ++ padTo (512 - 32) m

/-- SER_MESSAGE_RECEIVE (R379, R380). A port with no record ignores its receiver; before lock bytes are counted
(R490); the standby receives for monitoring only (R382). -/
def execSerMessageReceive (p : Fin 8) (x : SerMsg) (s : State) : Answer :=
  if !s.locked then .next (s.bumpBy (Reg.SER_ERR_ERRORS p) (x.bytes.length + x.stray))
  else if s.serMode p = 0 then .next s
  else
    let s := (s.bumpBy (Reg.SER_ERR_ERRORS p) (x.parity + x.framing + x.stray)).wake (.serial p)
    let m := x.bytes.take (s.serMaxLen p)
    if m = [] then .next s
    else if s.follows then
      .next (s.rxHold (s.serRxq p) (serRxEntry m.length p (s.serFlags p x m) 0 s.stamp 0 m))
    else if !s.leads then .next s
    else
      let q := s.serRxq p
      let k := s.rxCount q
      if s.queRoom q then
        let s := if k.lost = 0 then s else s.post Un.ser 0x0E01 p k.lost q
        let e := serRxEntry m.length p (s.serFlags p x m) (k.seq + 1) s.stamp (min k.lost 65535) m
        .next ((s.setRxCount q { seq := k.seq + 1, lost := 0 }).quePush q e)
      else .next ((s.setRxCount q { k with lost := k.lost + 1 }).bump (Reg.SER_ERR_RX_LOST p))

/-! ### Transmission (R381) -/

/-- The message that a port is sending. -/
def State.serFlight (s : State) (p : Nat) : Option Flight := Assoc.find? s.ser p

/-- The check of a transmit entry at its queue head: DETAIL of a refusal, or 0. -/
def State.serCheck (s : State) (p : Nat) (e : List Byte) : Nat :=
  if le e 0 2 = 0 ∨ s.serMaxLen p < le e 0 2 then 0x01
  else if le e 2 2 ≠ 0 ∨ le e 8 24 ≠ 0 then 0x02
  else 0

/-- The completion area. -/
def serDone (status detail sent stamp : Nat) : List Byte :=
  leBytes 1 status ++ leBytes 1 detail ++ leBytes 2 sent ++ [0, 0, 0, 0] ++ leBytes 8 stamp

/-- Bit times of a character (R378). -/
def State.serCharBits (s : State) (p : Nat) : Nat :=
  let f := le (s.serRec p) 8 1
  1 + (if bitAt f 0 then 7 else 8) + (if bits f 1 2 = 0 then 0 else 1) + (if bitAt f 3 then 2 else 1)

/-- The silence of RTU mode in ns: 3.5 character times, and 1,750 µs above 19,200 bit/s (R379). -/
def State.serSilence (s : State) (p : Nat) : Nat :=
  if 19200 < s.serBaud p then 1750000 else (7 * s.serCharBits p * 500000000 + s.serBaud p - 1) / s.serBaud p

/-- In RTU mode each frame is preceded by the mode's silence (R381). What the port receives ends with that silence itself
(R379), so it counts from the port's own last message. -/
def State.rtuSilence (s : State) (p : Nat) : State :=
  match Assoc.find? s.serEnd p with
  | some t => if s.serMode p = 3 then { s with frc := max s.frc (t + s.serSilence p) } else s
  | none => s

/-- SER_TX_START (R381): a refused entry completes at once and does not block its queue. -/
def execSerTxStart (p : Fin 8) (s : State) : Answer :=
  let q := s.serTxq p
  if s.on (Reg.SER_STAT_DRIVER p) && s.mayStart && (s.serFlight p).isNone && s.txReady q then
    let s := s.headWait q
    let e := s.txEntry q
    let d := s.serCheck p e
    if d ≠ 0 then
      let tag := le e 4 4
      .next ((s.txDone q 0x1F0 (serDone Sta.lenInvalid d 0 0)).post Un.ser 0x0E02 (p + q * 2 ^ 8) d tag)
    else
      let s := (s.rtuSilence p).wake (.serial p)
      .next ({ s with ser := Assoc.insert s.ser p { queue := q, stamp := s.stamp } }.wr (Reg.SER_STAT_TX_BUSY p) 1)
  else .next s

/-- End the message in flight with a status, a detail and the bytes sent. -/
def State.serEndFlight (s : State) (p status detail sent : Nat) : State :=
  match s.serFlight p with
  | some f =>
    let s := { s with ser := Assoc.erase s.ser p, serEnd := Assoc.insert s.serEnd p s.frc }
    (s.txDone f.queue 0x1F0 (serDone status detail sent f.stamp)).wr (Reg.SER_STAT_TX_BUSY p) 0
  | none => s

/-- The length of the message in flight. -/
def State.serLen (s : State) (p : Nat) : Nat :=
  match s.serFlight p with
  | some f => le (s.txEntry f.queue) 0 2
  | none => 0

/-- End the message in flight with OUTCOME_UNKNOWN, at a handover or a shutdown: how much of it went is free. -/
def State.serAbort (s : State) (p detail : Nat) : State :=
  if (s.serFlight p).isNone then s
  else (s.serEndFlight p Sta.outcomeUnknown detail (s.freeSent (s.serLen p))).useFree

/-- SER_TX_COMPLETE (R381): the last stop bit has gone, or on two wires a character read back differed after `sent`
bytes. -/
def execSerTxComplete (p : Fin 8) (sent : Nat) (echoErr : Bool) (s : State) : Answer :=
  if echoErr && !s.serFlag p 0 then .next (s.serEndFlight p Sta.busError 0x04 (min sent (s.serLen p)))
  else .next (s.serEndFlight p Sta.ok 0 (s.serLen p))

end Sys2Proof.Machine
end

