-- ==== Sys2Proof/Machine/Pair.lean ====
section
/-!
DEFINITION. Roles and their changes (R206), output digests and their comparison (R201 to R205), the inquiry's start
(R208) and the notice of a handover (R207, R211, R212).
-/
namespace Sys2Proof.Machine

/-! ### Roles (BAN_STAT.ROLE) -/

def roleSingle : Nat := 0
def roleAlone : Nat := 1
def roleActive : Nat := 2
def roleStandby : Nat := 3
def roleCold : Nat := 4
def roleIsolated : Nat := 5
def roleFailed : Nat := 6
def roleBooting : Nat := 7

/-- BAN_LATENT.HOURS counts on, while the role is STANDBY, COLD or ISOLATED (R242). -/
def State.latentCount (s : State) : State :=
  let counts : Bool := s.role == roleStandby || s.role == roleCold || s.role == roleIsolated
  let frac := if counts then s.ban.latFrac + (s.opTime - s.ban.latAt) else s.ban.latFrac
  let s := s.bumpBy Reg.BAN_LATENT_HOURS (frac / 3686400)
  { s with ban := { s.ban with latAt := s.opTime, latFrac := frac % 3686400 } }

/-- The module's role changes, and with it what its units drive. -/
def State.setRole (s : State) (r : Nat) : State :=
  let was := s.inControl
  let s := s.latentCount
  let s := s.wr Reg.BAN_STAT_ROLE r
  let s := (List.range 8).foldl (fun s p => s.serDriver p) s
  let s := (List.range 8).foldl (fun s l => s.rioRole l) s
  let s := if s.locked && s.inControl != was then
      (List.range 8).foldl (fun s c => if s.inControl then s.canAtK c else s.canToMonitor c) s
    else s
  let s := if s.inControl then
      ({ s with ban := { s.ban with latDone := false, latFrac := 0 } } : State).wr Reg.BAN_LATENT_HOURS 0
    else s
  let s := if s.role = 4 then { s with ban := { s.ban with joinDig := [], lastFail := 0, stuck := false } } else s
  let s := if s.role = 1 ∨ s.role = 2 then { s with anx := { s.anx with reident := 3 } } else s
  s.rndRole

/-- The peer's role as it last reported it. -/
def State.peerRole (s : State) : Nat := s.rd Reg.BAN_STAT_PEER_ROLE
def State.setPeerRole (s : State) (r : Nat) : State := s.wr Reg.BAN_STAT_PEER_ROLE r

/-- A role change is told to the peer (R191). -/
def State.sendRole (s : State) : State := s.banAsk 0x03 (leBytes 1 s.role ++ List.replicate 7 0)

/-- An inquiry ends. -/
def State.inquiryOver (s : State) : State :=
  let s := ((s.wr Reg.BAN_STAT_INQUIRY 0).wr Reg.BAN_STAT_STRICT_HOLD 0).wr Reg.RND_STAT_PAUSED 0
  { s with ban := { s.ban with inquiry := none, inqDue := [] } }

/-- The pair's exchange ends: nothing of it waits any longer, but for a commit whose 20 µs run (R203). -/
def State.pairOver (s : State) : State :=
  { s with
    scn := { s.scn with dues := [] }
    ban := { s.ban with own := [], peer := [], wait := none, held := [], rxm := [], mirr := [], agrs := [], early := [], hs := [] }
    slv := { s.slv with permits := [] } }

/-- A standby leaves lockstep (R193, R204, R209, R221): cause 1 INQUIRY, 2 MISSING_FRAME, 3 LATE_EXECUTE,
4 LANE_RETURN. -/
def State.demote (s : State) (cause p2 : Nat) : State :=
  (((s.inquiryOver.pairOver.setRole roleCold).scnHalt).post Un.ban 0x080A cause p2 0).sendRole

/-- The module becomes FAILED (R206). -/
def State.fail (s : State) (trigger : Nat) : State :=
  let before := s.role
  (((s.inquiryOver.pairOver.setRole roleFailed).scnHalt).post Un.ban 0x080B trigger before 0).sendRole

/-- The active module is on its own. -/
def State.alone (s : State) : State := if s.role = roleActive then s.inquiryOver.pairOver.setRole roleAlone else s

/-! ### Handover notice (R212) -/

/-- Entries of receive and completion queues that were not released do not stay (R213, R217): the index goes back to the
last one released, which `limit` gives. The receptions are kept for matching where `keep` says so; the queues whose
completions went back are noted, one for each. -/
def State.rollBack (s : State) (limit : Nat → Nat) (keep : Bool) : State :=
  ((List.range 64).filter (fun q => s.queUsed q && s.queHeld q)).foldl (fun (s : State) q =>
    let n := limit q
    if s.queRound q then
      let back := idxDiff (s.queDi q) n
      ({ s with ban := { s.ban with rolled := s.ban.rolled ++ List.replicate back q } } : State).wr (Reg.QUE_DI q) n
    else
      let es := (List.range (idxDiff (s.quePi q) n)).map (fun j => (q, s.bytes (s.entryAddr q (n + j)) (2 ^ s.queEsize q)))
      let s := s.wr (Reg.QUE_PI q) n
      if keep then { s with ban := { s.ban with held := s.ban.held ++ es } } else s) s

/-- HANDOVER_NOTICE_SEND: the module gives up control to a standby in step. What waits for a decision of the pair is not
committed, and commands not yet agreed are not acted on (R212, R217). -/
def State.handover (s : State) (trigger : Nat) : State :=
  let before := s.role
  let s := s.inquiryOver
  let s := s.post Un.ban 0x0806 trigger before (s.rd Reg.BAN_PEER_SERIAL)
  let s := ((s.wr Reg.BAN_HO_TRIGGER trigger).wr Reg.BAN_HO_SKIPPED 0).wr Reg.BAN_STAT_HANDOVER 1
  let s := s.bump Reg.BAN_HO_CNT_COUNT
  let s := s.banAsk 0x31 (leBytes 1 trigger ++ (List.range 16).flatMap (fun t => leBytes 8 (s.task t).done) ++
    leBytes 4 s.ban.relSeq)
  let s := (List.range 16).foldl (fun s t => s.setTask t { s.task t with waits := false }) s
  let s := ({ s with scn := { s.scn with cmds := [] } } : State).wr Reg.SCN_STAT_PENDING 3
  let s : State := { s with ban := { s.ban with
      ho := some { old := true, trigger, before, at_ := s.frc, lastC := s.ban.lastC }, rxm := [], wait := none, rolled := [] } }
  { (s.rollBack (fun q => s.queRi q) (staysInStep trigger)) with ban.rolled := [] }

/-- A trigger of R207 that fails the module: handover with a standby in step, FAILED on the standby, recorded where no
standby is in step. -/
def State.faultTrigger (s : State) (trigger : Nat) : State :=
  if !s.power.running then s
  else if s.role = roleActive ∧ s.ban.ho.isNone then s.handover trigger
  else if s.role = roleStandby ∧ s.ban.ho.isNone then s.fail trigger
  else if s.inControl ∨ s.ban.ho.isSome then s.joinAbort.wr Reg.BAN_HO_TRIGGER trigger
  else s

/-! ### Output digests (R201) -/

def digMissed : Nat := 1
def digStrict : Nat := 2
def digNoImage : Nat := 4

/-- The fastest task's commit point comes: the engines' CRCs are folded for its digest, and restart (R126, R157, R201). -/
def State.foldCrcs (s : State) : State :=
  { s with
    ban := { s.ban with fold := (s.lp.crc, s.slv.crc) }
    lp := { s.lp with crc := 0xFFFFFFFFFFFFFFFF }
    slv := { s.slv with crc := 0xFFFFFFFFFFFFFFFF } }

/-- The digest of a commit point. -/
def State.digestOf (s : State) (t flags : Nat) : Digest :=
  let none_ : Bool := bitAt flags 2
  let cycle := if none_ then (s.task t).tick else s.taskCycle t
  let fast : List Byte :=
    if s.fastest = some t then
      leBytes 8 (crc64End s.ban.fold.1) ++ (if s.capOn Reg.SYS_CAPS_SLV then leBytes 8 (crc64End s.ban.fold.2) else [])
    else []
  { task := t, flags, cycle
    value := crc64 (leBytes 1 t ++ leBytes 8 cycle ++ (if none_ then [] else s.digestImage t) ++ fast) }

/-- The digest of a commit point is formed, shown and sent. -/
def State.digest (s : State) (t flags : Nat) : State :=
  let d := s.digestOf t (flags + if s.taskStrict t then digStrict else 0)
  let s := s.wr64 (Reg.BAN_DIG_LO t) (Reg.BAN_DIG_HI t) d.value
  let s := s.banSend 0x20 (leBytes 1 t ++ leBytes 1 d.flags ++ List.replicate 6 0 ++ leBytes 8 d.cycle ++ leBytes 8 d.value)
  let alone : Bool := bitAt d.flags 0 && bitAt d.flags 2 && s.fastest != some t
  if s.joinLogs || alone then s else { s with ban := { s.ban with own := s.ban.own ++ [d] } }

/-! ### Comparison (R202 to R205) -/

/-- A comparison event is shown. -/
def State.cmpShow (s : State) (t cycle kind : Nat) : State :=
  let s := ((s.wr Reg.BAN_LAST_CMP_TASK t).wrB Reg.BAN_LAST_CMP_STRICT (s.taskStrict t)).wr Reg.BAN_LAST_CMP_KIND kind
  s.wr64 Reg.BAN_LAST_CYC_LO Reg.BAN_LAST_CYC_HI cycle

/-- INQUIRY_START (R208). Strict tasks hold: a commit of theirs that waits is not made (R210). -/
def State.inquiryStart (s : State) (t : Nat) : State :=
  let s := (s.wr Reg.BAN_STAT_INQUIRY 1).wr Reg.RND_STAT_PAUSED 1
  let strict (u : Nat) : Bool := s.taskUsed u && s.taskStrict u
  let s := s.wrB Reg.BAN_STAT_STRICT_HOLD ((List.range 16).any strict)
  let s := ((List.range 16).filter strict).foldl (fun s u => s.setTask u { s.task u with waits := false, late := false }) s
  { s with ban := { s.ban with inquiry := some { task := t, at_ := s.frc }, inqDue := [] } }

/-- A mismatch, MISSING ones included: counted, and where no inquiry runs one is due at the task's next cycle start, or
`now` for a strict commit that waits (R202, R203, R210). -/
def State.mismatch (s : State) (t cycle kind : Nat) (now : Bool) : State :=
  let s := ((s.bump Reg.BAN_CMP_MISMATCH).cmpShow t cycle kind).post Un.ban 0x0804 t cycle (kind + b2n (s.taskStrict t) * 2 ^ 8)
  if s.ban.inquiry.isSome ∨ s.ban.ho.isSome then s
  else if now then s.inquiryStart t
  else { s with ban := { s.ban with inqDue := t :: s.ban.inqDue.filter (fun u => u != t) } }

/-- A digest of the other module for the same task and cycle. -/
def Digest.meets (d e : Digest) : Bool := d.task == e.task && d.cycle == e.cycle

/-- Compare a task's digests where both are held: each pair of one cycle leaves the lists. `now`: a strict commit waits
for it. -/
def State.compare (s : State) (t : Nat) (now : Bool := false) : State :=
  match s.ban.own.find? (fun d => d.task == t && s.ban.peer.any (fun e => d.meets e)) with
  | none => s
  | some d =>
    match s.ban.peer.find? (fun e => d.meets e) with
    | none => s
    | some e =>
      let s : State := { s with ban := { s.ban with
        own := s.ban.own.filter (fun x => !x.meets d), peer := s.ban.peer.filter (fun x => !x.meets d) } }
      if d.value = e.value then s else s.mismatch t d.cycle 1 now

/-! ### Commits (R80, R94, R87, R203) -/

/-- The lead commits, or the follower after the lead has: outputs, the task's state, and the grant of Rounds. -/
def State.commitDone (s : State) (t : Nat) : State :=
  let s := s.setTask t { s.task t with waits := false, late := false, done := s.taskCycle t }
  s.rndGrant t (s.nextStart t)

/-- What a good cycle commits (R87): the safe image until the third good cycle of STARTING, then the own image. -/
def State.commitGood (s : State) (t : Nat) : State :=
  let x := s.task t
  if s.taskState t = taskStarting then
    if x.good + 1 < 3 then (s.setTask t { x with good := x.good + 1 }).commitSafe t
    else ((s.setTask t { x with good := 0 }).setTaskState t taskRunning).commitOwn t
  else s.commitOwn t

/-- The last image is committed again with forces applied (R86). -/
def State.commitHeld (s : State) (t : Nat) : State := (s.forceVars t).commitOut t

/-- What the digest is taken over before a strict commit: the image about to be committed. -/
def State.commitAhead (s : State) (t : Nat) : State :=
  let x := s.task t
  let own : Bool := s.taskState t == taskRunning || (s.taskState t == taskStarting && decide (3 ≤ x.good + 1))
  if x.latched && x.returned then
    s.setTask t { x with safe := !own, committed := if own then x.output else x.committed }
  else s

/-- The commit of a cycle that is good or held. -/
def State.commitNow (s : State) (t : Nat) : State :=
  let x := s.task t
  let s := if x.latched && x.returned then s.commitGood t else s.commitHeld t
  s.commitDone t

end Sys2Proof.Machine
end

