-- ==== Sys2Proof/Machine/Hamper.lean ====
section
/-!
DEFINITION. What a join carries (R228 to R234): the Hamper's sections as the active module takes them at their snapshot
points, and the state of the top-up. The spec gives the content of each section; the byte layout is the model's own, but
for kind 0x01, which is that of a soft image.
-/
namespace Sys2Proof.Machine

/-! ### Words and instants -/

/-- Words of the register file from an address. -/
def State.wWords (s : State) (a n : Nat) : List Byte := (List.range n).flatMap (fun i => leBytes 4 (s.fileAt (a + 4 * i)))

/-- The same words entered. -/
def State.setWords (s : State) (a : Nat) (l : List Nat) : State :=
  ((List.range l.length).zip l).foldl (fun (s : State) (p : Nat × Nat) => s.wr ⟨a + 4 * p.1, 0, 32⟩ p.2) s

/-- An FRC instant as seen from another module's FRC. -/
def State.wAge (s : State) (t : Nat) : List Byte := wI ((t : Int) - s.frc)
def State.fromAge (s : State) (i : Int) : Nat := (i + s.frc).toNat

/-! ### The sections (R228) -/

/-- A section as an image holds it (R45). -/
def secBytes (x : Section) : List Byte :=
  leBytes 2 x.kind ++ leBytes 2 x.inst ++ leBytes 4 x.body.length ++ x.body ++
    List.replicate ((8 - x.body.length % 8) % 8) (0 : Byte)

/-- Kind 0x01. -/
def State.hamSoft (s : State) : List Byte := s.fpl.soft.flatMap secBytes

/-- Kind 0x02. -/
def State.hamForces (s : State) : List Byte :=
  wList (fun (f : Force) => wB f.phys ++ wN f.tgt ++ wN f.type ++ wN f.val) s.scn.forces

/-- A task's registers, images and counters. -/
def State.wTask (s : State) (t : Nat) : List Byte :=
  let x := s.task t
  wN t ++ s.wWords (Reg.SCN_TASK_STAT t).addr 4 ++ wL x.input ++ wL x.output ++ wL x.committed ++ wB x.safe ++
    wB x.fault ++ wB x.trapped ++ wB x.restart ++ wN x.good ++ wN x.done

/-- Kind 0x03. -/
def State.hamTasks (s : State) : List Byte :=
  let grid : List Byte := wOpt (fun (o : Int) => wI (((s.scn.lastTick.getD 0 : Nat) - o) / baseTick)) s.scn.origin
  wN s.scnMode ++ wN (s.rd Reg.SCN_STAT_PENDING) ++ wN s.scn.ticks ++ grid ++ wN (s.scn.lastTick.getD 0) ++
    wN s.ban.lastC ++ wList (fun t => s.wTask t) s.tasksByPrio

/-- Kind 0x04 of a task: its record at its snapshot point, and its instances. -/
def State.hamInsts (s : State) (t : Nat) : List Byte :=
  s.wTask t ++ wList (fun (x : Inst) =>
    wN x.id ++ wN x.type ++ wN x.off ++ wN x.size ++ wN x.task ++ wN x.flags ++ wOpt wL x.data ++ wN x.et ++ wB x.m ++
      wB x.run ++ wB x.q ++ wB x.fresh ++ wB x.stepped) (s.scn.insts.filter (fun x => x.task == t))

/-- Kind 0x05. -/
def State.hamLoops (s : State) : List Byte :=
  wList (fun (n : Nat) =>
    let x := s.loop n
    wN n ++ s.wWords (Reg.LOOP_COEF n 0).addr 19 ++ wList wN x.active ++
      wOpt (fun (p : TunePend) => wB p.init ++ wN p.master) x.tune) s.loopNums

/-- Kind 0x06. -/
def State.hamQueues (s : State) : List Byte :=
  wList (fun (q : Nat) =>
    wN q ++ s.queRec q ++ s.wWords (Reg.QUE_PI q).addr 5 ++ wL (s.bytes (s.ringAddr q) (s.ringSize q)) ++
      wN (s.rxCount q).seq ++ wN (s.rxCount q).lost ++ wList (fun (t : Nat) => s.wAge t) ((Assoc.find? s.posted q).getD []))
    ((List.range 64).filter (fun q => s.queUsed q)) ++
  wList (fun (ch : Nat) =>
    let c := s.chan ch
    wN ch ++ s.pgnRec ch ++ s.wWords (Reg.PGN_CH_STAT ch).addr 2 ++ wN c.accepted ++ s.wAge c.since ++ s.wAge c.armAt ++
      wList (fun (m : PgnMsg) =>
        wN m.len ++ wN m.kind ++ wN m.seq ++ wN m.param ++ wL m.payload ++ wB m.visible ++ wB m.opened ++ s.wAge m.seenAt)
        c.msgs)
    ((List.range 32).filter (fun ch => s.pgnUsed ch))

/-- Kind 0x07. -/
def State.hamBlock (s : State) : List Byte :=
  s.wWords Reg.BAN_RB_BLOCK_LO.addr 2 ++ wN (s.rd Reg.GB_NEXT_SEQ)

/-- The sections taken at L, and again at a planned swap's landing (R228, R239). -/
def State.hamperAll (s : State) : List HamperSec :=
  [⟨1, 0, s.hamSoft⟩, ⟨2, 0, s.hamForces⟩, ⟨3, 0, s.hamTasks⟩, ⟨5, 0, s.hamLoops⟩, ⟨6, 0, s.hamQueues⟩, ⟨7, 0, s.hamBlock⟩]

/-- A task's section. -/
def State.hamperTask (s : State) (t : Nat) : HamperSec := ⟨4, t, s.hamInsts t⟩

/-- At tick L the active module sends every filter register of its CAN channels as mirrored writes, under the Banister
agent's identity (R341). -/
def State.canFiltersSend (s : State) : State :=
  ((List.range 8).filter (fun c => s.canRec c != [])).foldl (fun (s : State) c =>
    (List.range 64).foldl (fun (s : State) f =>
      let s := s.mirror .banister (Reg.CAN_FLT_ID c f).addr (s.fileAt (Reg.CAN_FLT_ID c f).addr)
      s.mirror .banister (Reg.CAN_FLT_MASK c f).addr (s.fileAt (Reg.CAN_FLT_MASK c f).addr)) s) s

/-- At tick L the sections of L are taken; where the grid has not begun, the tasks' too. -/
def State.hamperTick (s : State) : State :=
  match s.ban.join with
  | some j =>
    if j.active && !j.took && (match j.l with | some l => decide (l ≤ s.scn.ticks) | none => false) then
      let still := s.scn.origin.isNone
      let tasks := s.tasksByPrio
      let secs := s.hamperAll ++ (if still then tasks.map (fun t => s.hamperTask t) else [])
      let s : State :=
        { s with ban := { s.ban with join := some { j with took := true, secs, tasks := if still then [] else tasks } } }
      s.canFiltersSend
    else s
  | none => s

/-- A task's snapshot point: its first cycle start at or after L, before its input latch. -/
def State.hamperStart (s : State) (t : Nat) : State :=
  match s.ban.join with
  | some j =>
    if j.active && j.took && j.tasks.contains t then
      let secs := j.secs ++ [s.hamperTask t]
      { s with ban := { s.ban with join := some { j with secs, tasks := j.tasks.filter (fun u => u != t) } } }
    else s
  | none => s

/-! ### The top-up (R234) -/

def wAxis (s : State) (x : Axis) : List Byte :=
  wL x.block ++ wOpt wL x.next ++ wN x.err ++ wI x.pos ++ wI x.vel ++ wI x.acc ++
    wOpt (fun (p : Int × Int × Int) => wI p.1 ++ wI p.2.1 ++ wI p.2.2) x.plan ++
    wOpt (fun (c : AxCreep) => wI c.p0 ++ wI c.t ++ wN c.n ++ wN c.i) x.creep ++ wI x.tgt ++ wB x.pass ++ wB x.stay ++
    wOpt (fun (p : Nat × Nat) => wN p.1 ++ wN p.2) x.keep ++
    (wN x.lims.1 ++ wN x.lims.2.1 ++ wN x.lims.2.2.1 ++ wN x.lims.2.2.2) ++ wN x.count ++ wList wN x.hist ++ wI x.pc0 ++
    wN x.e0 ++ s.wAge x.badTo ++ wN x.beyond ++ wI x.loopVel ++ wOpt wN x.stageLo ++ wOpt wN x.stageHi ++ wN x.stager ++
    wB x.stageGo ++ s.wAge x.since ++ s.wAge x.checkAt ++ wB x.neg ++ wB x.resume

/-- The dynamic state of every loop, with the engine's tick count, the age of the next tick and the CRC. -/
def State.topLoops (s : State) : List Byte :=
  wN s.lp.ticks ++ wOpt (fun (t : Nat) => s.wAge t) s.loopNext ++ wN s.lp.crc ++ wList (fun (n : Nat) =>
    let x := s.loop n
    wN n ++ s.wWords (Reg.LOOP_STATE n).addr 4 ++ wI x.i ++ wI x.dPrev ++ wI x.xdPrev ++ wI x.uPrev ++ wOpt wI x.pend ++
      wL x.cmd ++ wB x.safe ++ wN x.last ++ wB x.bad ++ wN x.badN ++ wB x.held ++ wB x.dl ++ wOpt wI x.lastX ++ wB x.down)
    s.loopNums

/-- Every axis, with its AXIS payload. -/
def State.topAxes (s : State) : List Byte :=
  wList (fun (a : Nat) => wN a ++ wL (s.plan 0x8022 a) ++ s.wWords (Reg.AX_STATE a).addr 13 ++ wAxis s (s.axis a))
    ((List.range 8).filter (fun a => s.axOn a))

/-- Every Solver slot, the SEQ counters and the Solver CRC, where the Solver is fitted (R160). -/
def State.topSolver (s : State) : List Byte :=
  if !s.capOn Reg.SYS_CAPS_SLV then []
  else
    wList wSlot s.slv.slots ++
    wList (fun (p : Nat × Nat) => wN p.1 ++ wN p.2) s.slv.seqs ++ wN s.slv.crc

/-- The payload of TOPUP: J, the FRC of its tick, and the states. -/
def State.topupBytes (s : State) (j : Nat) : List Byte :=
  wN j ++ wN (s.scn.lastTick.getD 0) ++ s.topLoops ++ s.topAxes ++ s.topSolver

/-- At tick J the states go to the cold module. -/
def State.topupTick (s : State) : State :=
  match s.ban.join with
  | some j =>
    if j.active && j.j == some s.scn.ticks then
      let s : State := if j.upgrade then s else { s with ban := { s.ban with solo := s.slv.req.isSome } }
      s.banSend 0x46 (s.topupBytes s.scn.ticks)
    else s
  | none => s

end Sys2Proof.Machine
end

