-- ==== Sys2Proof/Machine/TripMatrix.lean ====
section
/-!
DEFINITION. The trip matrix: literals, products, sinks, latches, forced trip and first-out (R249, R254 to R259).
-/
namespace Sys2Proof.Machine

/-! ### The held safety section (R253) -/

/-- A field of the held section's body; an empty store reads 0. -/
def State.safB (s : State) (off n : Nat) : Nat := le s.saf.section_ (16 + off) n

def State.funcCount (s : State) : Nat := s.safB 0 2
def State.connCount (s : State) : Nat := s.safB 2 2

/-- The record of function f, if the section defines it. -/
def State.funcRec (s : State) (f : Nat) : Option (List Byte) :=
  match (List.range s.funcCount).find? (fun j => s.safB (0x3B0 + 16 * j) 1 == f) with
  | some j => some (slice s.saf.section_ (16 + 0x3B0 + 16 * j) 16)
  | none => none

/-- Excursion minutes of a function: EXC_HOURS, where 0 gives 24. -/
def excMinutes (hours : Nat) : Nat := (if hours = 0 then 24 else hours) * 60

def State.funMinutes (s : State) (f : Nat) : Nat :=
  match s.funcRec f with
  | some r => excMinutes (le r 1 1)
  | none => 0

/-- Whether a function uses a test-pulse line. -/
def State.funcLine (s : State) (f l : Nat) : Bool :=
  match s.funcRec f with
  | some r => bitAt (le r 2 1) l
  | none => false

/-- Whether a function uses a connection. -/
def State.funcConn (s : State) (f c : Nat) : Bool :=
  match s.funcRec f with
  | some r => bitAt (le r 8 8) c
  | none => false

/-- The enabled test-pulse lines, of islands given to the safety domain (R260). -/
def State.linesOn (s : State) : Nat :=
  ((List.range 8).map (fun l => if bitAt (s.safB 0x3A1 1) (l / 2) && s.safOwned (l / 4) then 2 ^ l else 0)).sum

/-! ### Literals (R254, R255) -/

/-- ITT0 to ITT63. -/
def State.itt (s : State) : Nat :=
  let app := (if s.saf.failA then 0 else s.saf.ittA) ||| (if s.saf.failB then 0 else s.saf.ittB)
  app + b2n s.saf.failA * 2 ^ 48 + b2n s.saf.failB * 2 ^ 49 + b2n s.saf.itt50 * 2 ^ 50 + b2n s.saf.itt51 * 2 ^ 51 +
  s.rd Reg.TRP_STAT_EXCURSION * 2 ^ 52 + b2n (!s.on Reg.TRP_STAT_GROUP_SUPPLY) * 2 ^ 53 +
  s.rd Reg.SAF_STAT_CTRL_HB_LOST * 2 ^ 54 + s.rd Reg.TRP_REQ_REQ * 2 ^ 56

/-- The 72 literals as bits. -/
def State.literals (s : State) : Nat := s.rd Reg.TRP_FTI_LIT + s.itt * 2 ^ 8

/-- Whether a product is true. -/
def State.product (s : State) (lits p : Nat) : Bool :=
  let t := s.safB (0x18 + 24 * p) 9
  let c := s.safB (0x18 + 24 * p + 9) 9
  (t != 0 || c != 0) && (lits &&& t) == t && (lits &&& c) == 0

/-- The products as bits. -/
def State.products (s : State) (lits : Nat) : Nat :=
  ((List.range 32).map (fun p => if s.product lits p then 2 ^ p else 0)).sum

/-- The OR mask of a sink. -/
def State.sinkMask (s : State) (k : Nat) : Nat := s.safB (0x318 + 8 * k) 4
def State.sinkLatch (s : State) (k : Nat) : Bool := bitAt (s.safB (0x318 + 8 * k + 4) 1) 0
def State.sinkDark (s : State) (k : Nat) : Bool := bitAt (s.safB (0x318 + 8 * k + 4) 1) 1

/-- The fitted sinks: FTO0 to FTO7 and the kill lines of the fitted islands. -/
def State.sinks (s : State) : List Nat := List.range (8 + s.cap Reg.SYS_CAPS_ISLANDS)

/-- forced: the forced trip, and BOOT, SAFE or ADOPTING. -/
def State.sinkForced (s : State) : Bool := s.saf.forced || s.rd Reg.SAF_STAT_STATE != 2

/-! ### Evaluation -/

/-- A sink trips: it is counted, captured first-out and recorded (SINK_TRIP). -/
def State.sinkTrip (s : State) (prods k : Nat) : State :=
  let mine := prods &&& s.sinkMask k
  let lowest := (List.range 32).find? (fun p => bitAt mine p)
  let product := lowest.getD 0
  let none_ := lowest.isNone
  let forced := s.sinkForced
  let s := s.bump Reg.TRP_CNT
  let s :=
    if s.on Reg.TRP_FIRST_VALID then s
    else
      let s := (((s.wr Reg.TRP_FIRST_VALID 1).wrB Reg.TRP_FIRST_NO_PRODUCT none_).wrB Reg.TRP_FIRST_FORCED forced).wr
        Reg.TRP_FIRST_SINK k
      let s := (s.wr Reg.TRP_FIRST_PRODUCT product).wr Reg.TRP_FIRST_FTI (s.rd Reg.TRP_FTI_LIT)
      let s := (s.wr64 Reg.TRP_FIRST_FRC_LO Reg.TRP_FIRST_FRC_HI s.frc).wr64 Reg.TRP_FIRST_ITT_LO Reg.TRP_FIRST_ITT_HI s.itt
      { s with firstOut := some (k, product, s.frc), nb := { s.nb with stripDue := true } }
  s.post Un.trp 0x0A01 k (product + b2n forced * 2 ^ 8 + b2n none_ * 2 ^ 9) (s.frc % 2 ^ 32)

/-- One sink follows its demand, its latch and the force. -/
def State.sinkUpdate (s : State) (prods k : Nat) : State :=
  let demand := (prods &&& s.sinkMask k) != 0
  let latched := bitAt (s.rd Reg.TRP_SINK_LATCHED) k
  let s :=
    if demand && s.sinkLatch k && !latched then
      { s with saf := { s.saf with latchAt := Assoc.insert s.saf.latchAt k s.safClock } }.wr Reg.TRP_SINK_LATCHED
        (putBit (s.rd Reg.TRP_SINK_LATCHED) k true)
    else s
  let tripped := demand || bitAt (s.rd Reg.TRP_SINK_LATCHED) k || s.sinkForced
  let was := bitAt (s.rd Reg.TRP_SINK_TRIPPED) k
  let s := s.wr Reg.TRP_SINK_TRIPPED (putBit (s.rd Reg.TRP_SINK_TRIPPED) k tripped)
  if tripped && !was then s.sinkTrip prods k else s

/-- The matrix evaluates without a clock: after every change of what it reads. -/
def State.matrix (s : State) : State :=
  if !s.saf.powered then s
  else
    let prods := s.products s.literals
    let s := (s.wr Reg.TRP_PROD prods).wr64 Reg.TRP_ITT_LO Reg.TRP_ITT_HI s.itt
    let s := s.wrB Reg.TRP_STAT_FORCED s.sinkForced
    s.sinks.foldl (fun s k => s.sinkUpdate prods k) s

/-- The fast-trip outputs that are energised: their sink is not tripped and the group supply is present (R258). -/
def State.ftoOn (s : State) (n : Nat) : Bool :=
  s.saf.powered && s.on Reg.TRP_STAT_GROUP_SUPPLY && !bitAt (s.rd Reg.TRP_SINK_TRIPPED) n

/-- The domain enters SAFE (R250): cause of SAFE_CAUSE. -/
def State.enterSafe (s : State) (cause : Nat) : State :=
  let was := s.rd Reg.SAF_STAT_STATE
  let s := s.wr Reg.SAF_STAT_SAFE_CAUSE cause
  if was = 1 then s.matrix
  else
    let s := { s with saf := { s.saf with agree := 0, inSafe := 0, lineGood := [], safeAt := s.safClock } }.wr Reg.SAF_STAT_STATE 1
    (s.post Un.saf 0x0901 cause was 0).matrix

/-- The forced trip of R249: until a reset of the safety domain. -/
def State.forceTrip (s : State) (cause : Nat) : State :=
  if s.saf.forced then s
  else { s with saf := { s.saf with forced := true } }.enterSafe cause

/-- FTI_CHANGE (R254): a fast-trip input has crossed its threshold and passed its filter. -/
def execFtiChange (n : Fin 8) (demand : Bool) (s : State) : Answer :=
  .next (s.wr Reg.TRP_FTI_LIT (putBit (s.rd Reg.TRP_FTI_LIT) n demand)).matrix

/-- A write of TRP_REQ (R255). -/
def State.trpReqWrite (s : State) (m : Master) (value : Nat) : State :=
  let old := s.rd Reg.TRP_REQ_REQ
  let new := bits value 0 8
  if new = old then s
  else ((s.wr Reg.TRP_REQ_REQ new).post Un.trp 0x0A03 old new (masterId m)).matrix

/-- TRP_REQ_WRITE (R255). -/
def execTrpReqWrite (m : Master) (value : Word) (s : State) : Answer :=
  .next (s.access m .w32 true Reg.TRP_REQ.addr (fun s => s.trpReqWrite m value.toNat))

/-- A write of TRP_FIRST: a 1 in VALID rearms the capture. -/
def State.trpFirstWrite (s : State) (value : Nat) : State :=
  if bitAt value 31 then { s.wr Reg.TRP_FIRST_VALID 0 with firstOut := none } else s

/-- FIRST_OUT_REARM (R254). -/
def execFirstOutRearm (m : Master) (value : Word) (s : State) : Answer :=
  .next (s.access m .w32 true Reg.TRP_FIRST.addr (fun s => s.trpFirstWrite value.toNat))

/-- CTRL_HB_LOST (R255): 5 ms without a heartbeat of the control domain. -/
def execCtrlHbLost (s : State) : Answer :=
  if s.saf.powered then .next ((s.waitTo (s.saf.hbAt + 5000000)).wr Reg.SAF_STAT_CTRL_HB_LOST 1).matrix else .next s

/-- The heartbeat of the SAF bridge at a base tick (R255, R278). -/
def State.safHeartbeat (s : State) (time : Int) : State :=
  if s.saf.powered then
    ({ s with saf := { s.saf with hbTime := time, hbAt := s.safClock } }.wr Reg.SAF_STAT_CTRL_HB_LOST 0).matrix
  else s

/-- FAST_TRIP_SUPPLY_CHANGE (R255): GL+ in mV. -/
def execFastTripSupplyChange (mV : Nat) (s : State) : Answer :=
  .next (s.wrB Reg.TRP_STAT_GROUP_SUPPLY (decide (18000 ≤ mV))).matrix

/-- SAFETY_MONITOR_WARNING (R255): ITT50 (rail outside 3.1 to 3.5 V) and ITT51 (clock outside ±1 %). -/
def execSafetyMonitorWarning (rail clock : Bool) (s : State) : Answer :=
  if s.saf.powered then
    .next { s with saf := { s.saf with itt50 := rail, itt51 := clock } }.matrix
  else .next s

/-- SUPERVISOR_FORCE (R249): the rail or the clock; both processors failed forces where the second one fails. -/
def execSupervisorForce (why : SafForce) (s : State) : Answer :=
  if s.saf.powered then
    .next (s.forceTrip (match why with
      | .rail => 4
      | .clock => 5))
  else .next s

/-- DARK_TEST (R258): an FTO with DARK_TEST is switched off for 200 µs every 60 s and read back, in volts × 10. -/
def execDarkTest (n : Fin 8) (failed : Bool) (volts10 : Nat) (s : State) : Answer :=
  if s.saf.powered && s.sinkDark n then
    let s := match Assoc.find? s.saf.darkAt n with
      | some t => s.waitTo (t + 60000000000)
      | none => s
    let s := { s with saf := { s.saf with darkAt := Assoc.insert s.saf.darkAt n s.safClock } }
    if failed then
      .next ((s.wr Reg.TRP_DARK_FAILED (putBit (s.rd Reg.TRP_DARK_FAILED) n true)).post Un.trp 0x0A04 n volts10 0)
    else .next s
  else .next s

end Sys2Proof.Machine
end

