-- ==== Sys2Proof/Machine/Scan.lean ====
section
/-!
DEFINITION. The Scan Engine's cycle: base ticks, mode commands, task states, commits and deadline checks (R75 to R95),
on a module alone and on both modules of a pair (R84, R195, R196, R200 to R204).
-/
namespace Sys2Proof.Machine

/-! ### Mode and task commands (R82 to R84, R87) -/

/-- A mode command is acted on (R82, R86). -/
def State.modeAct (s : State) (cmd : Nat) : State :=
  let new := if cmd = 1 then modeRun else if cmd = 2 then modeHold else modeStop
  let old := s.scnMode
  if cmd = 1 ∧ !s.locked then s.post Un.scn 0x040A 1 1 0
  else if cmd = 2 ∧ old = modeStop then s.post Un.scn 0x040A 2 2 0
  else if new = old then s
  else
    let s := (s.wr Reg.SCN_STAT_MODE new).post Un.scn 0x0403 old new 1
    let s := if new = modeStop then s else s.wake .scan
    if new = modeRun ∧ s.scn.origin.isNone then
      { s with scn := { s.scn with origin := some (s.scn.lastTick.getD 0 : Nat) } }
    else s

/-- A RESTART is acted on. -/
def State.restartAct (s : State) (t : Nat) : State :=
  if s.scnMode ≠ modeRun then s.post Un.scn 0x040A 4 4 t
  else if s.taskState t ≠ taskFault then s.post Un.scn 0x040A 4 3 t
  else s.setTask t { s.task t with restart := true }

/-- A command of the agreement is acted on. -/
def State.cmdAct (s : State) (c : AgrCmd) : State :=
  if c.kind = 0 then
    if c.cmd % 16 = 4 then s.restartAct (bits c.cmd 8 4) else s.modeAct (c.cmd % 16)
  else if c.kind = 1 then s.forceAct c.cmd c.tgt c.type c.val
  else if c.cmd % 16 = 2 then s.olcArmAct (c.val == 1) (s.scn.ticks + 2)
  else s.olcCancelAct

/-- A mode command. -/
def agrIsMode (c : AgrCmd) : Bool := c.kind == 0 && c.cmd % 16 != 4

/-- PENDING shows the mode command that waits. -/
def State.pendShow (s : State) : State :=
  match s.scn.cmds.find? (fun c => agrIsMode c) with
  | some c => s.wr Reg.SCN_STAT_PENDING (if c.cmd % 16 = 1 then 1 else if c.cmd % 16 = 2 then 2 else 0)
  | none => s.wr Reg.SCN_STAT_PENDING 3

/-- A write of SCN_CMD: it waits for the next base tick; a mode command replaces one that waits (R83). A module that is
neither in control nor still starting acts on the active module's commands only, and one that gives up control acts on
none (R217). -/
def State.scnCmdWrite (s : State) (v : Nat) : State :=
  let cmd := v % 16
  if bits v 24 8 ≠ 0xA5 ∨ cmd = 0 ∨ 4 < cmd ∨ !((s.inControl && s.leads) || s.role == roleBooting) then s
  else
    let s := s.wake .scan
    let c : AgrCmd := { kind := 0, cmd := v }
    let keep := if agrIsMode c then s.scn.cmds.filter (fun d => !agrIsMode d) else s.scn.cmds
    { s with scn := { s.scn with cmds := keep ++ [c] } }.pendShow

/-- SCN_RUN (R82). -/
def execScnRun (m : Master) (s : State) : Answer :=
  .next (s.access m .w32 true Reg.SCN_CMD.addr (fun s => s.scnCmdWrite 0xA5000001))

/-- SCN_HOLD (R86). -/
def execScnHold (m : Master) (s : State) : Answer :=
  .next (s.access m .w32 true Reg.SCN_CMD.addr (fun s => s.scnCmdWrite 0xA5000002))

/-- SCN_STOP (R86). -/
def execScnStop (m : Master) (s : State) : Answer :=
  .next (s.access m .w32 true Reg.SCN_CMD.addr (fun s => s.scnCmdWrite 0xA5000003))

/-- SCN_RESTART (R87). -/
def execScnRestart (m : Master) (t : Fin 16) (s : State) : Answer :=
  .next (s.access m .w32 true Reg.SCN_CMD.addr (fun s => s.scnCmdWrite (0xA5000004 + 256 * t.val)))

/-! ### Cycle starts (R80, R83, R87, R93) -/

/-- The module is in a pair whose modules compare their digests. -/
def State.compares (s : State) : Bool := s.leadsPair || s.follows

/-- A task's state at its cycle start (R83, R87). A RESTART that acted in RUN takes its task to STARTING at that start
also where a HOLD has acted since. DESIGN CHOICE (log 184): RESTART sets CONSEC to 0. -/
def State.startState (s : State) (t : Nat) : State :=
  let st := s.taskState t
  let x := s.task t
  let s := s.setTask t { x with restart := false }
  if s.scnMode = modeStop then
    if st = taskStopped then s
    else
      let s := s.setTaskState t taskStopped
      let s := s.setTask t { s.task t with fault := false, trapped := false }
      let s := if s.power.outputsOff then s else s.commitSafe t
      if s.compares ∨ s.joinLogs then (s.digest t 0).compare t else s
  else if st = taskFault ∧ x.restart then
    let cold := s.on (Reg.SCN_TASK_STAT_ABANDONED t)
    let s := if cold then s.reinit t else s
    let s := ((s.wr (Reg.SCN_TASK_STAT_ABANDONED t) 0).wr (Reg.SCN_TASK_STAT_CONSEC t) 0).setTaskState t taskStarting
    (s.setTask t { s.task t with good := 0, fault := false, trapped := false }).post Un.scn 0x0409 t (b2n cold) 0
  else if s.scnMode = modeRun then
    if st = taskStopped then (s.setTaskState t taskStarting).setTask t { s.task t with good := 0 }
    else if st = taskHeld then s.setTaskState t taskRunning
    else s
  else if st = taskRunning then s.setTaskState t taskHeld
  else s

/-- A task in a state that latches. -/
def State.taskLatches (s : State) (t : Nat) : Bool :=
  s.taskState t == taskStarting || s.taskState t == taskRunning || s.taskState t == taskHeld

/-- The execute of a latched cycle starts (R80, R86); its timers may advance once (R90). -/
def State.executeStart (s : State) (t : Nat) : State :=
  if s.scnMode = modeRun ∧ s.taskState t ≠ taskHeld then
    let s := s.mapInsts (fun x => if x.task = t then { x with stepped := false } else x)
    let s := s.wr64 (Reg.SCN_CYCLE_LO t) (Reg.SCN_CYCLE_HI t) (s.taskCycle t + 1)
    let s := s.coreCount (s.taskCore t)
    let s := s.setTask t { s.task t with latched := true, running := some s.frc, used := 0 }
    s.wake (.core (Fin.ofNat 4 (s.taskCore t)))
  else s

/-- At a task's next cycle start a digest of its own that still has no answer counts as MISSING (R205); a standby whose
commit waits for the lead's decision commits. -/
def State.digestMissing (s : State) (t : Nat) : State :=
  if !s.compares then s
  else
    let x := s.task t
    let s := if x.waits && !x.late then
        (if s.taskStrict t then s.commitNow t else ((s.commitNow t).digest t 0))
      else s
    let lost := s.ban.own.filter (fun d => d.task == t)
    let old (d : Digest) : Bool := d.task == t && (if bitAt d.flags 2 then decide (d.cycle < x.tick) else decide (d.cycle + 1 < s.taskCycle t))
    lost.foldl (fun s d => s.mismatch t d.cycle 2 false)
      { s with ban := { s.ban with
          own := s.ban.own.filter (fun d => d.task != t), peer := s.ban.peer.filter (fun d => !old d) } }

/-- A task's cycle opens at the present tick, in the state that it has there. -/
def State.cycleOpen (s : State) (t : Nat) : State :=
  let s := s.startState t
  s.setTask t { s.task t with
    start := s.scn.lastTick.getD 0, tick := s.scn.ticks, open_ := true
    latched := false, skipped := false, returned := false, waits := false, late := false }

/-- A task's cycle start: what the last cycle still waits for, its state, the links that join, and a due inquiry. -/
def State.cycleBegin (s : State) (t : Nat) : State :=
  let s := s.digestMissing t
  let s := ((s.taskLinks t).filter (fun l => !(s.rioLink l).joined)).foldl (fun s l => s.rioJoin l) s
  let s := s.cycleOpen t
  if s.ban.inqDue.contains t then s.inquiryStart t else s

/-- SKIPPED_LATCH (R93); while an inquiry holds a strict task, it counts no miss (R210). -/
def State.skipLatch (s : State) (t : Nat) : State :=
  let s := s.setTask t { s.task t with skipped := true }
  if s.on Reg.BAN_STAT_STRICT_HOLD && s.taskStrict t then s else s.taskMiss t 1

/-- The cycle start of a task on a module that leads. -/
def State.startLead (s : State) (t : Nat) : State :=
  let s := s.cycleBegin t
  if !s.taskLatches t then s
  else if (s.task t).running.isSome then s.skipLatch t
  else (s.latchOwn t).executeStart t

/-- The tasks that start a cycle at the present tick, in priority order. -/
def State.tasksDue (s : State) : List Nat := s.tasksByPrio.filter (fun t => s.cycleDue t (s.scn.lastTick.getD 0))

/-- A task latched at the present tick. -/
def State.latchedNow (s : State) (t : Nat) : Bool :=
  s.taskLatches t && !(s.task t).skipped && (s.task t).tick == s.scn.ticks

/-! ### The input agreement (R195, R196) -/

def agrCmdBytes (c : AgrCmd) : List Byte :=
  leBytes 1 c.kind ++ leBytes 3 0 ++ leBytes 4 c.cmd ++ leBytes 4 c.tgt ++ leBytes 4 c.type ++ leBytes 8 c.val ++ leBytes 8 0

def relBytes (r : Nat × Nat × Nat) : List Byte := leBytes 1 r.1 ++ leBytes 1 r.2.1 ++ leBytes 2 0 ++ leBytes 4 r.2.2

/-- The payload of an agreement (R196). -/
def agrBytes (g : Agreement) : List Byte :=
  leBytes 8 g.tick ++ leBytes 8 g.sec ++ leBytes 4 g.ns ++ leBytes 1 g.dom ++ leBytes 1 g.cmds.length ++
  leBytes 2 ((g.images.map (fun (p : Nat × List Byte) => 2 ^ p.1)).sum) ++ leBytes 2 g.rels.length ++ leBytes 6 0 ++
  g.cmds.flatMap agrCmdBytes ++ g.rels.flatMap relBytes ++ g.images.flatMap (fun (p : Nat × List Byte) => p.2)

/-- The agreement of the present tick. -/
def State.agreement (s : State) (cmds : List AgrCmd) (rels : List (Nat × Nat × Nat)) (tasks : List Nat) : Agreement :=
  { tick := s.scn.ticks, sec := secsOf s.t1, ns := (s.t1 % 1000000000).toNat, dom := s.rd Reg.TIM_STAT_C1_SRC % 2
    cmds, rels, images := ((List.range 16).filter (fun t => tasks.contains t)).map (fun t => (t, (s.task t).input)) }

/-- The agreement of a tick goes out, and its answer is awaited (R196, R200). -/
def State.sendAgreement (s : State) (cmds : List AgrCmd) (rels : List (Nat × Nat × Nat)) (tasks : List Nat) : State :=
  let b := agrBytes (s.agreement cmds rels tasks)
  if s.leadsPair then
    let s := s.banAsk 0x10 b
    { s with ban := { s.ban with wait := some (banCrc b) } }
  else s.banSend 0x10 b

/-! ### Commit points (R76, R80, R92, R94) -/

/-- No task commits any more after a power-fail warning's last commit (R479, R480). -/
def State.commitCut (s : State) : Bool := s.power.outputsOff || 
  (s.on Reg.PWR_STAT_PF_WARN && (s.power.cause == 3 || decide (s.power.warnAt + 20000000 ≤ s.frc)))

/-- The module's digests go to the other one. -/
def State.tells (s : State) : Bool := s.compares || s.joinLogs

/-- A commit point at which no image is committed; the fastest task's is told to the peer (R201). -/
def State.noImage (s : State) (t flags : Nat) : State :=
  if s.tells && s.fastest == some t then (s.digest t (digNoImage + flags)).compare t else s

/-- The digest of the image about to be committed (R203). -/
def State.digestAhead (s : State) (t : Nat) : State :=
  let y := (s.commitAhead t).digest t 0
  { y with scn := s.scn }

/-- A commit point's digest is sent, and compared where the other module's is held. -/
def State.told (s : State) (t flags : Nat) : State := if s.tells then (s.digest t flags).compare t else s

/-- A strict task's commit in a pair (R203): equal digests commit, unequal ones do not, and a missing one is awaited. -/
def State.strictStep (s : State) (t : Nat) : State :=
  let cycle := s.taskCycle t
  let mine := s.ban.own.find? (fun d => d.task == t && d.cycle == cycle)
  let theirs := s.ban.peer.find? (fun d => d.task == t && d.cycle == cycle)
  match mine, theirs with
  | some d, some e =>
    let s := s.compare t true
    if d.value = e.value then s.commitNow t else s.setTask t { s.task t with waits := false }
  | _, _ => s

/-- A strict commit waits for its digests; otherwise the commit is made and its digest sent. -/
def State.commitLead (s : State) (t : Nat) : State :=
  if s.leadsPair ∧ s.taskStrict t then
    let s := s.digestAhead t
    (s.setTask t { s.task t with waits := true }).strictStep t
  else (s.commitNow t).told t 0

/-- A housekeeping phase without a commit before it (R80, R86). -/
def State.housekeep (s : State) (t : Nat) : State := s.rndGrant t (s.nextStart t)

/-- A commit point of a task that is STOPPED or in FAULT_STOP: its links go on with safe outputs (R86, R387). DESIGN
CHOICE (log 195): in FAULT_STOP too. -/
def State.pointIdle (s : State) (t : Nat) : State :=
  let s := if s.taskUsed t && !s.power.outputsOff then (s.taskLinks t).foldl (fun s l => s.commitLink true [] l) s else s
  (s.noImage t 0).housekeep t

/-- A miss at the commit point, with the stop that it may bring. The lead tells the standby of every miss (R204). -/
def State.missAtCommit (s : State) (t : Nat) : State :=
  let s := (s.taskMiss t 0).housekeep t
  if (s.task t).fault then (s.taskLimitStop t).told t digMissed
  else if s.leadsLog then (s.digest t (digMissed + digNoImage)).compare t
  else s.noImage t digMissed

/-- A commit on a module that follows goes ahead once the lead's digest is held, which says whether the cycle missed
(R203, R204). A cycle that the lead missed is discarded and counts the same miss. -/
def State.followStep (s : State) (t : Nat) : State :=
  let x := s.task t
  let cycle := s.taskCycle t
  match s.ban.peer.find? (fun d => d.task == t && (d.cycle == cycle || (bitAt d.flags 2 && d.cycle == x.tick))) with
  | none => s
  | some e =>
    if bitAt e.flags 0 then
      let drop (s : State) : State := { s with ban := { s.ban with
        peer := if s.fastest = some t ∨ !bitAt e.flags 2 then s.ban.peer else s.ban.peer.filter (fun d => !d.meets e)
        own := s.ban.own.filter (fun d => !(d.task == t && d.cycle == cycle)) } }
      ((drop s).setTask t { x with waits := false, late := false, returned := false }).missAtCommit t
    else if bitAt e.flags 2 then (s.setTask t { x with waits := false, late := false }).noImage t 0
    else if x.late ∧ x.running.isSome then s
    else if s.taskStrict t then s.strictStep t
    else (s.commitNow t).told t 0

/-- The commit of a cycle on a module that follows: it waits for the lead's digest, a strict task with its own sent. -/
def State.commitFollow (s : State) (t : Nat) : State :=
  let x := s.task t
  if x.latched ∧ !x.returned then (s.setTask t { x with waits := true, late := true }).followStep t
  else
    let s := if s.taskStrict t then s.digestAhead t else s
    (s.setTask t { s.task t with waits := true }).followStep t

/-- A commit point on a module that leads, or follows. While an inquiry holds a strict task, it keeps its last image
(R210). -/
def State.pointAt (s : State) (t : Nat) : State :=
  let x := s.task t
  let st := s.taskState t
  if s.on Reg.BAN_STAT_STRICT_HOLD ∧ s.taskStrict t then s.noImage t 0
  else if st = taskFault then
    if x.trapped then (((s.setTask t { x with trapped := false }).commitSafe t).housekeep t).told t 0
    else s.pointIdle t
  else if st = taskStopped ∨ st = taskUnused then s.pointIdle t
  else if x.fault then ((s.taskLimitStop t).housekeep t).told t digMissed
  else if x.skipped then (s.noImage t digMissed).housekeep t
  else if s.follows then s.commitFollow t
  else if x.latched ∧ !x.returned then s.missAtCommit t
  else s.commitLead t

/-- A commit point is reached: the cycle is closed, and the loops that its commit arms are armed. -/
def State.commitBegin (s : State) (t : Nat) : State :=
  let s := { s with frc := max s.frc (s.commitPoint t) }
  let s := (s.setTask t { s.task t with open_ := false }).loopArm t
  if s.fastest = some t then s.foldCrcs else s

/-- A task's commit point comes; the fastest task's folds the engines' CRCs. During a handover commit points are skipped
and count no miss (R215). -/
def State.commitAt (s : State) (t : Nat) : State :=
  let at_ := s.commitPoint t
  let s := s.commitBegin t
  match s.ban.ho with
  | some h =>
    if s.taskLatches t then
      let s := s.bump Reg.BAN_HO_SKIPPED
      { s with ban := { s.ban with ho := some { h with skipped := h.skipped + 1 } } }
    else s
  | none =>
    if s.commitCut ∨ s.swapStopped ∨ !(s.inControl ∨ s.role = roleStandby) then s
    else (if s.fastest = some t then { s with ban := { s.ban with lastC := at_ } } else s : State).pointAt t

/-- The tasks whose commit points are to come, in the order of instants and, at one instant, of priority (R79). The cycles
of a cold module's replay have none. -/
def State.commitOrder (s : State) : List Nat :=
  if s.role = roleCold then [] else (s.tasksByPrio.reverse.filter (fun t => (s.task t).open_)).foldl (fun l t => insertBy (fun m => s.commitPoint m) t l) []

/-- The commit points up to an FRC instant come, each in its turn (R79). -/
def State.commitsTo (s : State) (at_ : Nat) : State :=
  (s.commitOrder.filter (fun t => decide (s.commitPoint t ≤ at_))).foldl (fun s t => s.commitAt t) s

/-- COMMIT (R80): a task's commit point, after those that come before it (R79). -/
def execCommit (t : Fin 16) (s : State) : Answer :=
  if s.power.running ∧ s.locked ∧ s.commitOrder.contains t.val then
    .next (((s.commitOrder.takeWhile (fun u => u != t.val)).foldl (fun s u => s.commitAt u) s).commitAt t)
  else .next s

/-! ### Base ticks (R75, R79) -/

/-- Commands that act at this tick: all of them, or the first eight in a pair (R195). -/
def State.takeCmds (s : State) : List AgrCmd × State :=
  let now := if s.leadsLog then s.scn.cmds.take 8 else s.scn.cmds
  (now, { s with scn := { s.scn with cmds := if s.leadsLog then s.scn.cmds.drop 8 else [] } }.pendShow)

/-- An exchange whose landing is this tick, or that is due in STOP, swaps (R98). One armed in STOP whose tasks a RUN has
kept from STOPPED gets a landing as in RUN. -/
def State.landNow (s : State) : State :=
  if s.olcState ≠ olcArmed then s
  else if s.scn.landing = some s.scn.ticks ∨ s.olcStopped then s.olcSwap
  else if s.scn.landing.isNone ∧ s.scnMode ≠ modeStop then
    let b := s.scn.shadow
    { s with scn := { s.scn with
        landing := s.commonStart (fun t => pkgHasTask b t) (s.pkgSlowest b) (s.scn.ticks + 2) } }
  else s

/-- The tick on a module that leads. In a pair an agreement goes out where a task latches. DESIGN CHOICE (log 202): also
where a task that would latch skips it or stops, and where commands or releases are to be told. -/
def State.tickLead (s : State) : State :=
  let s := s.hamperTick.topupTick
  let tc := s.takeCmds
  let s := tc.1.foldl (fun s c => s.cmdAct c) tc.2
  let s := s.landNow
  let due := s.tasksDue
  let was := due.any (fun t => s.taskLatches t)
  let s := due.foldl (fun (s : State) t => (s.hamperStart t).startLead t) s
  let latched := due.filter (fun t => s.latchedNow t)
  let before := s.releasePositions
  let s := if latched = [] then s else s.releaseAll
  let s : State := if s.leadsPair ∧ latched ≠ [] then
      (List.range 8).foldl (fun s c => s.canHpRelease c) { s with ban := { s.ban with relSeq := s.ban.mirrored } }
    else s
  let s := if latched = [] then s else s.pgnTimeoutsAct
  let rels := (s.releasePositions.zip before).filter (fun p => p.1 != p.2) |>.map (fun p => p.1)
  let s := if s.scnMode = modeRun ∧ latched ≠ [] then { s with firstLatch := true } else s
  let tell := was || due.any (fun t => s.taskLatches t) || tc.1 != [] || rels != []
  if s.leadsLog && tell then s.sendAgreement tc.1 rels latched else s

/-! ### A module that follows (R196, R198, R200, R204) -/

/-- At a tick that began earlier: what is done there sees its count and its instant. -/
def State.inTick (s : State) (d : Nat × Nat) (k : State → State) : State :=
  let t := k { s with scn := { s.scn with ticks := d.1, lastTick := some d.2 } }
  { t with scn := { t.scn with ticks := s.scn.ticks, lastTick := s.scn.lastTick } }

/-- The standby's class 1 takes the agreement's T1 at its tick and runs on at its own source's rate (R374). -/
def State.pairTime (s : State) (g : Agreement) : State :=
  let t : Int := (g.sec * 1000000000 + g.ns : Nat)
  let at_ := s.scn.lastTick.getD s.frc
  let k := { s.tim.c1 with base := t, baseAt := at_, rate := s.ownRate }
  let s := s.driftCount
  let s := { s with tim := { s.tim with c1 := k } }
  ((s.wr Reg.TIM_STAT_C1_SRC 3).wr Reg.TIM_STAT_C1_VALID 1).wr Reg.TIM_STAT_C1_SLEWING 0

/-- An entry that the old active module took and released is the one that the standby's own receivers took (R213). -/
def State.heldMatch (s : State) (q : Nat) (e : List Byte) : State :=
  let same (h : Nat × List Byte) : Bool := h.1 == q && rxBlank h.2 == rxBlank e
  { s with ban := { s.ban with held := s.ban.held.takeWhile (fun h => !same h) ++ (s.ban.held.dropWhile (fun h => !same h)).drop 1 } }

/-- A release of the agreement (R196): KIND, INDEX and POSITION. -/
def State.releaseTold (s : State) (r : Nat × Nat × Nat) : State :=
  if r.1 ≠ 0 then s.pgnReleaseTo r.2.1 r.2.2
  else
    let q := r.2.1
    let new := if s.queRound q then [] else
      (List.range (idxDiff r.2.2 (s.queRi q))).map (fun j => s.bytes (s.entryAddr q (s.queRi q + j)) (2 ^ s.queEsize q))
    let s := new.foldl (fun s e => s.heldMatch q e) s
    let s := { s with ban := { s.ban with mirr := s.ban.mirr.filter (fun m => !(m.2.1 == q && seqFrom r.2.2 m.2.2)) } }
    s.queReleaseTo q r.2.2

/-- The commands and releases of an agreement act. -/
def State.agreedActs (s : State) (g : Agreement) : State :=
  let s := g.cmds.foldl (fun s c => s.cmdAct c) s
  let s := g.rels.foldl (fun s r => s.releaseTold r) s
  if g.images = [] then s else ((List.range 8).foldl (fun s c => s.canHpRelease c) s).pgnTimeoutsAct

/-- A task's cycle start on a module that follows: it latches the agreement's image, with class-1 time at the tick; a task
that the lead did not latch counts the same miss (R195, R204). -/
def State.startFollow (s : State) (g : Option Agreement) (t : Nat) : State :=
  let img := g.bind (fun g => Assoc.find? g.images t)
  if s.role = roleCold then s
  else if (s.task t).running.isSome ∧ s.taskLatches t ∧ img.isSome then s.demote 3 t
  else
    let s := s.cycleBegin t
    match img, g with
    | some b, some g =>
      ((s.setTask t { s.task t with
        input := b, t1 := (g.sec * 1000000000 + g.ns : Nat), t1dom := g.dom }).latchOut t).executeStart t
    | _, _ => if s.taskLatches t then s.skipLatch t else s

/-- The tick on a module that follows, with the agreement that it brought, if it brought one. -/
def State.tickFollow (s : State) (g : Option Agreement) : State :=
  let s := match g with
    | some g => (s.pairTime g).agreedActs g
    | none => s
  let s := s.landNow
  s.tasksDue.foldl (fun s t => s.startFollow g t) s

/-- A task that latches at a tick, as far as this module knows: its lead sends an agreement there. -/
def State.expects (s : State) (d : Nat × Nat) : Bool :=
  (s.tasksByPrio.filter (fun t => s.cycleDue t d.2)).any (fun t => s.taskLatches t || (s.startState t).taskLatches t)

/-- The ticks that wait take their agreements, in order. One that can bring none passes without, once a later one has come
and no frame is missing. -/
def State.followTicks (s : State) : Nat → State
  | 0 => s
  | n + 1 =>
    match s.scn.dues with
    | [] => s
    | d :: rest =>
      let go (g : Option Agreement) : State :=
        let s : State := { s with
          scn := { s.scn with dues := rest }, ban := { s.ban with agrs := s.ban.agrs.filter (fun x => decide (d.1 < x.tick)) } }
        State.followTicks (s.inTick d (fun s => s.tickFollow g)) n
      match s.ban.agrs.find? (fun g => g.tick == d.1) with
      | some g => go (some g)
      | none =>
        let later := rest != [] || s.ban.agrs.any (fun g => decide (d.1 < g.tick))
        if later && s.ban.missing == [] && !s.expects d then go none else s

/-- Take the agreements that are here. -/
def State.followAll (s : State) : State := s.followTicks s.scn.dues.length

/-- The commit point, of a cycle whose agreement has not come, that a tick's tasks reach first (R193). -/
def State.agrNeeded (s : State) : Option Nat :=
  s.scn.dues.findSome? (fun d =>
    if s.expects d then
      ((s.tasksByPrio.filter (fun t => s.cycleDue t d.2 && (s.startState t).taskLatches t)).map (fun t => d.2 + baseTick * s.taskPeriod t - s.taskMargin t)).min?
    else none)

/-- FRC of the next base tick. -/
def State.tickNext (s : State) : Nat :=
  match s.scn.lastTick with
  | some p => p + baseTick
  | none => (s.frc + baseTick - 1) / baseTick * baseTick

/-- A loop tick that falls before an instant, or at it, is still to come: it precedes input latches (R79, R112). -/
def State.loopFirst (s : State) (at_ : Nat) : Bool :=
  match s.loopNext with
  | some t => s.locked && (s.inControl || s.leads) && decide (t ≤ at_)
  | none => false

/-- 20 µs after the commit point a strict commit that waits for the peer's digest is made (R203). -/
def State.strictLate (s : State) (t : Nat) : State :=
  if s.taskStrict t ∧ (s.task t).waits ∧ !(s.task t).late then
    let s := { s with frc := max s.frc (s.commitPoint t + 20000) }
    let s := ((s.bump Reg.BAN_CMP_LATE).cmpShow t (s.taskCycle t) 3).post Un.ban 0x080D t (s.taskCycle t)
      ((s.frc - s.commitPoint t) / 1000)
    s.commitNow t
  else s

/-- The strict commits whose 20 µs end by an instant. -/
def State.strictLates (s : State) (at_ : Nat) : State :=
  (s.tasksByPrio.filter (fun t => decide (s.commitPoint t + 20000 ≤ at_))).foldl (fun s t => s.strictLate t) s

/-- BASE_TICK (R75): the next base tick, after the commits up to its instant; it comes only after the loop ticks up to
its instant (R79, R112; log 196). On a module that follows, the tick's cycle starts come with its agreement; a standby
that has lacked one up to the commit point that needs it leaves lockstep (R193). -/
def execBaseTick (s : State) : Answer :=
  let tick := s.tickNext
  if !s.power.running ∨ s.loopFirst tick then .next s
  else
    let s := (s.commitsTo tick).strictLates tick
    let s := if s.role = roleStandby ∧ s.ban.ho.isNone ∧ s.agrNeeded.any (fun c => decide (c ≤ tick)) then s.demote 2 0x10 else s
    let n := if s.locked then s.scn.ticks + 1 else 0
    let s : State := { s with frc := max s.frc tick, scn := { s.scn with lastTick := some tick, ticks := n } }
    let s := s.safHeartbeat s.t1
    if s.follows then .next (({ s with scn := { s.scn with dues := s.scn.dues ++ [(n, tick)] } } : State).followAll)
    else if (s.leads ∨ s.role = roleBooting) ∧ !s.swapStopped then .next s.tickLead
    else .next s.topupTick

/-! ### Execute (R77, R92 to R95) -/

/-- LAST and MAX of SCN_TASK_EXEC. -/
def State.execTime (s : State) (t ns : Nat) : State :=
  let us := min (ns / 1000) 0xFFFF
  (s.wr (Reg.SCN_TASK_EXEC_LAST t) us).wr (Reg.SCN_TASK_EXEC_MAX t) (max us (s.rd (Reg.SCN_TASK_EXEC_MAX t)))

/-- EXECUTE_RETURN (R77, R94): the program has had its core for `ns`; it gives its output image (none where it wrote
nothing), the invocations of timers and edge detectors in order, and the variables that it wrote. An execute that a
task of a higher priority pre-empts cannot return. -/
def execExecuteReturn (t : Fin 16) (ns : Nat) (image : Option (List Byte)) (invokes : List Invoke)
    (writes : List (BitVec 32 × List Byte)) (s : State) : Answer :=
  let core := s.taskCore t
  if s.coreTop core ≠ some t.val then .next s
  else
    let s := { s with frc := max s.frc ((Assoc.find? s.scn.coreAt core).getD 0 + (ns - (s.task t).used)) }
    let s := s.coreCount core
    let s := invokes.foldl (fun s v => s.invoke t v) s
    let s := writes.foldl (fun s w => s.varWrite t w) s
    let x := s.task t
    let out := match image with
      | some b => padTo (s.taskOut t) b
      | none => padTo (s.taskOut t) x.output
    let s := s.execTime t ns
    let good : Bool := x.open_ && x.latched
    let s := s.setTask t { x with running := none, output := out, returned := good || x.late }
    if good then .next (s.wr (Reg.SCN_TASK_STAT_CONSEC t) 0)
    else if x.late then
      let s := s.wr (Reg.SCN_TASK_STAT_CONSEC t) 0
      .next ((if s.taskStrict t then s.digestAhead t else s).followStep t)
    else .next s

/-- A task's execute traps (R95). A task that a STOP has already taken to STOPPED stays there. -/
def State.trapAct (s : State) (t cause pc : Nat) : State :=
  let live := s.taskLatches t
  let s := s.setTask t { s.task t with running := none, trapped := live, late := false, fault := false }
  let s := (if live then s.setTaskState t taskFault else s).wr (Reg.SCN_TASK_STAT_ABANDONED t) 1
  s.post Un.scn 0x040B t cause pc

/-- TASK_TRAP (R95), of the task whose execute its core runs. -/
def execTaskTrap (t : Fin 16) (cause : BitVec 32) (pc : BitVec 64) (s : State) : Answer :=
  if s.coreTop (s.taskCore t) ≠ some t.val then .next s
  else
    .next ((s.coreCount (s.taskCore t)).trapAct t cause.toNat pc.toNat)

end Sys2Proof.Machine
end

