-- ==== Sys2Proof/Machine/Banister.lean ====
section
/-!
DEFINITION. The Banister link, lockstep and handover (R187 to R224).
-/
namespace Sys2Proof.Machine

/-! ### Heartbeats and tick placement (R191, R194) -/

/-- The mask of the lanes that are up. -/
def State.laneMask (s : State) : Nat := s.rd Reg.BAN_STAT_LANE0_UP + 2 * s.rd Reg.BAN_STAT_LANE1_UP

/-- HEARTBEAT_SEND (R191), 10 µs after the last frame: role, lane mask, tick phase. DESIGN CHOICE (log 203): the tick
phase is the FRC of the last base tick within its period; and a module that places its ticks on its peer's measures the
round trip with a ROLE handshake beside it, where none is under way. -/
def execHeartbeatSend (s : State) : Answer :=
  let s := { s with frc := max s.frc (s.ban.lastTx + 10000) }
  let s := s.banSend 0x01 (leBytes 1 s.role ++ leBytes 1 s.laneMask ++ leBytes 2 0 ++
    leBytes 4 (s.scn.lastTick.getD 0 % baseTick))
  let places : Bool := s.locked && (s.role == roleStandby || s.role == roleCold)
  .next (if places && !s.ban.hs.any (fun h => h.1 == 0x03) then s.banAsk 0x03 [0x81] else s)

/-! ### The election as frames decide it (R491) -/

def strapLeft : Nat := 1
def strapRight : Nat := 2

/-- An election is to be decided: out of reset, not locked, not decided. -/
def State.electing (s : State) : Bool := s.power.running && !s.locked && s.rd Reg.PWR_STAT_ELECT == 0

/-- The election is decided (R491, R496); a win is told with the ROLE handshake that settles wins that cross. -/
def State.elect (s : State) (code : Nat) : State :=
  let strap := match s.power.heard with
    | some h => h.2.1
    | none => 0
  let s := (s.wr Reg.PWR_STAT_ELECT code).post Un.pwr 0x1406 code (s.rd Reg.BAN_PEER_SERIAL) (s.power.strap + strap * 2 ^ 8)
  if code = 5 then s else s.banAsk 0x03 ([0x82, BitVec.ofNat 8 s.power.strap, 0, 0] ++ leBytes 4 s.ident.serial)

/-- What is heard from the peer: a module in control, or LEFT heard by RIGHT, makes this one lose at once. -/
def State.hear (s : State) (strap role : Nat) : State :=
  if s.electing then
    let s := { s with power := { s.power with heard := some (s.rd Reg.BAN_PEER_SERIAL, strap, role) } }
    if role = 1 ∨ role = 2 ∨ (role = 7 ∧ s.power.strap = strapRight ∧ strap = strapLeft) then s.elect 5 else s
  else s

/-- ns since P0 (R488). -/
def State.sinceP0 (s : State) : Nat := s.rd Reg.PWR_BOOT_RESET * 1000 + s.frc

/-- The peer's role has changed (R206): an active module whose peer has failed, gone cold or shut down is on its own. -/
def State.peerChange (s : State) (r : Nat) : State :=
  let s := s.setPeerRole r
  let s := if r = roleFailed then s.joinAbort else s
  if s.role = roleActive ∧ s.ban.ho.isNone ∧ (r == roleFailed || r == roleCold) then s.alone.sendRole else s

/-- The grid and the cycles on it move. -/
def State.gridShift (s : State) (d : Int) : State :=
  let tasks := s.scn.tasks.map (fun (p : Nat × ScanTask) => (p.1, { p.2 with start := ((p.2.start : Int) + d).toNat }))
  { s with scn := { s.scn with origin := s.scn.origin.map (fun o => o + d), tasks } }

/-- The tick generator is moved (R194): what is counted from base ticks moves with it. A cold module's cycles lie on its
replay's own grid. -/
def State.tickShift (s : State) (d : Int) : State :=
  let mv (n : Nat) : Nat := ((n : Int) + d).toNat
  let s := { s with
    scn := { s.scn with lastTick := s.scn.lastTick.map mv, dues := s.scn.dues.map (fun p => (p.1, mv p.2)) }
    lp := { s.lp with tick0 := s.lp.tick0.map mv } }
  if s.role = roleCold then s else s.gridShift d

/-- How far a tick generator lies from a tick that another one had `since` ago, to the nearest tick. -/
def tickOff (last frc since : Nat) : Int :=
  let d := ((frc : Int) - since - last + baseTick / 2) % baseTick
  d - baseTick / 2

/-- HEARTBEAT (R194): the peer's role; a standby or a cold module places its base tick on the sender's, from SENT_FRC, the
phase of the sender's tick and half the round trip. -/
def State.heartbeatTake (s : State) (sent role phase : Nat) : State :=
  let s := (s.peerChange role).hear (match s.power.heard with | some h => h.2.1 | none => 0) role
  match s.scn.lastTick with
  | some last =>
    if s.role = roleStandby ∨ s.role = roleCold then
      let since := (sent + baseTick - phase) % baseTick + s.rd Reg.BAN_RTT_RTT / 2
      s.tickShift (tickOff last s.frc since)
    else s
  | none => s

/-- BANISTER_FRAME_DISCARD (R190): a LEN above 2,048, an unknown TYPE, or a terminate block in the wrong place. -/
def execBanisterFrameDiscard (type : Byte) (len : Nat) (lane : Fin 2) (s : State) : Answer :=
  if s.power.running ∧ s.role ≠ roleSingle then
    .next ((s.bump Reg.BAN_DISCARD_COUNT).post Un.ban 0x080E type.toNat len lane.val)
  else .next s

/-- Strap first, serial second: this module loses an election that both have won (R491). -/
def State.crossLost (s : State) (strap serial : Nat) : Bool :=
  let own := s.power.strap
  if own = 2 ∧ strap = 1 then true
  else if own = 1 ∧ strap = 2 then false
  else decide (serial < s.ident.serial)

/-- A ROLE that asks is answered with a ROLE that names it. -/
def State.roleAnswer (s : State) (seq : Nat) : State := s.banSend 0x03 ([0x80, 0, 0, 0] ++ leBytes 4 seq)

/-- ROLE (R191, R192): a change, an election or a measurement is answered with ROLE; an answer to a ROLE gives the round
trip. -/
def State.roleTake (s : State) (seq : Nat) (x : RoleMsg) : State :=
  match x with
  | .change r => (s.roleAnswer seq).peerChange r.val
  | .election strap serial =>
    let s := (s.roleAnswer seq).wr Reg.BAN_PEER_SERIAL serial.toNat
    if s.crossLost strap.val serial.toNat && (s.rd Reg.PWR_STAT_ELECT != 0) && !s.locked then s.wr Reg.PWR_STAT_ELECT 5
    else s
  | .measure => s.roleAnswer seq
  | .answer n =>
    let s := match s.ban.hs.find? (fun h => h.1 == 0x03 && h.2.1 == n.toNat) with
      | some h => s.wr Reg.BAN_RTT_RTT (min (s.frc - h.2.2) 0xFFFF)
      | none => s
    s.hsDone (fun h => (h.1 == 0x03 || h.1 == 0x31) && h.2.1 == n.toNat)

/-- NAK (R193): of the last 256 frames sent, the missing ones go out again with RESENT = 1. -/
def State.nakTake (s : State) (seqs : List Nat) : State :=
  let again (f : BanFrame) : BanFrame :=
    if seqs.contains f.seq then ({ f with flags := f.flags ||| 2, sentFrc := s.frc } : BanFrame).sealed else f
  { s with ban := { s.ban with tx := s.ban.tx.map again, lastTx := s.frc } }

/-- HANDSHAKE_TIMEOUT (R192, R200): the oldest handshake that waits has had 8 µs from the end of sending. An unanswered
agreement holds nothing up. -/
def execHandshakeTimeout (s : State) : Answer :=
  match s.ban.hs with
  | [] => .next s
  | (type, seq, t) :: rest =>
    let s := { s with frc := max s.frc (t + 8000), ban := { s.ban with hs := rest } }
    let s := (s.bump Reg.BAN_HS_FAIL).post Un.ban 0x0803 type seq ((s.frc - t) / 1000)
    .next { s with ban := { s.ban with wait := if type = 0x10 then none else s.ban.wait } }

/-! ### Agreement and mirrors on the two sides (R196 to R200) -/

/-- A cold module logs what a join sends it for the replay, up to 512 MiB (R232). -/
def State.joinLog (s : State) (x : JoinLog) (len tick : Nat) : State :=
  match s.ban.join with
  | some j =>
    if j.active || j.upgrade || j.l.isNone then s
    else
      let newest := max j.newest tick
      let s := { s with ban := { s.ban with join := some { j with log := j.log ++ [x], logBytes := j.logBytes + len, newest } } }
      let s := s.wr Reg.BAN_JOIN_PROG_BACKLOG (min (newest - j.reached) 0xFFFF)
      if 512 * 2 ^ 20 < j.logBytes + len then s.joinEnd 0x08 else s
  | none => s

/-- The module is cold and a join is under way. -/
def State.logs (s : State) : Bool := s.role == roleCold && s.ban.join.isSome

/-- AGREEMENT (R196): the standby answers with the TICK and the CRC of the whole agreement, which acts at its tick. -/
def State.agreementTake (s : State) (g : Agreement) : State :=
  if s.follows then
    let s := s.banSend 0x11 (leBytes 8 g.tick ++ leBytes 4 (banCrc (agrBytes g)))
    ({ s with ban := { s.ban with agrs := s.ban.agrs ++ [g] } } : State).followAll
  else if s.logs then s.joinLog (.agreement g) (agrBytes g).length g.tick
  else s

/-- AGREE_ACK (R196): the answer to the agreement that waits. -/
def State.agreeAckTake (s : State) (tick crc : Nat) : State :=
  if s.ban.wait = some crc ∧ tick = s.scn.ticks then
    let s := s.hsDone (fun h => h.1 == 0x10)
    { s with ban := { s.ban with wait := none } }
  else s

/-- A mirrored entry is entered on the standby as the active module entered it (R198). -/
def State.mirrorEntry (s : State) (seq : Nat) (x : Mirrored) : State :=
  let q := x.index.val
  if x.kind.val = 0 then
    let s := { s with ban := { s.ban with mirr := s.ban.mirr ++ [(seq, q, x.pos.toNat)] } }
    let at_ := s.entryAddr q ((x.pos.toNat + 2 ^ 32 - 1) % 2 ^ 32)
    (s.setBytes at_ (x.bytes.take (2 ^ s.queEsize q))).wr (if s.queRound q then Reg.QUE_DI q else Reg.QUE_PI q) x.pos.toNat
  else if x.kind.val = 1 then
    s.pgnStore (q % 32) (le x.bytes 0 1) (le x.bytes 1 1) (le x.bytes 4 4) (x.bytes.drop 8)
  else s.setCanCh (q % 8) { s.canCh (q % 8) with hpWait := (s.canCh (q % 8)).hpWait ++ [x.bytes] }

/-- MIRROR_ACK goes out (R191): the newest RX_MIRROR that is held without a gap. -/
def State.mirrorAckSend (s : State) : State := s.banSend 0x13 (leBytes 4 s.ban.rxmHeld)

/-- RX_MIRROR (R198): the standby holds the entries until an agreement releases them, and acknowledges. -/
def State.rxMirrorTake (s : State) (seq : Nat) (entries : List Mirrored) : State :=
  if s.follows then
    let s := entries.foldl (fun s x => s.mirrorEntry seq x) s
    ({ s with ban := { s.ban with rxmHeld := seq } } : State).mirrorAckSend
  else if s.logs then s.joinLog (.mirrored seq entries) ((entries.map (fun x => x.bytes.length + 8)).sum) 0
  else s

/-- MIRROR_ACK (R198): entries up to the SEQ may be released. -/
def State.mirrorAckTake (s : State) (upTo : Nat) : State :=
  let s := s.hsDone (fun h => h.1 == 0x12 && seqFrom upTo h.2.1)
  { s with ban := { s.ban with
    mirrored := upTo
    rxm := s.ban.rxm.filter (fun (e : Nat × Nat × Nat × Nat) => seqAfter e.1 upTo) } }

/-! ### Digests (R202 to R205) -/

/-- DIGEST (R202): the peer's digest is compared as soon as both are held; it also decides a commit that waits. -/
def State.digestTake (s : State) (d : Digest) : State :=
  if s.logs then s.joinLog (.digest d) 24 0
  else if !s.compares then s
  else
    let s := { s with ban := { s.ban with peer := s.ban.peer ++ [d] } }
    if (s.task d.task).waits then (if s.follows then s.followStep d.task else s.strictStep d.task)
    else s.compare d.task

/-- DIGEST_MISSING (R205): at the task's next cycle start. -/
def execDigestMissing (t : Fin 16) (s : State) : Answer :=
  if s.compares ∧ ((s.task t).waits ∨ s.ban.own.any (fun d => d.task == t.val)) then
    .next (({ s with frc := max s.frc (s.nextStart t) } : State).digestMissing t)
  else .next s

/-- STRICT_DIGEST_TIMEOUT (R203): 20 µs after the commit point both modules commit. -/
def execStrictDigestTimeout (t : Fin 16) (s : State) : Answer := .next (s.strictLate t)

/-- The instant by which a standby in step needs a frame that it lacks (R193): none where it lacks none of that type. -/
def State.neededBy (s : State) (type : Nat) : Option Nat :=
  if type = 0x10 then s.agrNeeded
  else if type = 0x21 then
    let periods := (s.loopsDue s.lp.ticks).map (fun n => s.loopPeriod n)
    s.loopNext.bind (fun t => periods.min?.map (fun p => t + 50000 * p))
  else if type = 0x22 then
    if (List.range 8).any (fun a => s.axOn a) then some (s.axBoundaryAt + 10000) else none
  else if type = 0x14 then (if s.ban.missing = [] then none else some s.frc)
  else if type = 0x23 then
    match s.slv.permits, s.slv.req with
    | .complete _ _ f :: _, _ => some (f.toNat + 4000)
    | _, some _ => some s.frc
    | _, none => if s.slvNext.isSome then some s.frc else none
  else none

/-- MISSING_FRAME_DEMOTE (R193): a standby in step lacks a frame of a type at the instant by which it needs it. -/
def execMissingFrameDemote (type : Byte) (s : State) : Answer :=
  if s.power.running ∧ s.follows ∧ s.ban.ho.isNone then
    match s.neededBy type.toNat with
    | some t => .next (({ s with frc := max s.frc t } : State).demote 2 type.toNat)
    | none => .next s
  else .next s

/-! ### Inquiry (R208 to R210) -/

/-- The outcome (R209). Failed is a result with a failed check, or no result. -/
def State.inquiryDecide (s : State) (q : Inquiry) (own : Nat) (peer : Option Nat) : State :=
  let ownBad : Bool := own != 0
  let peerBad : Bool := peer != some 0
  let outcome := if ownBad && peerBad then 4 else if peerBad then 3 else if ownBad then 2 else 1
  let pm := peer.getD 0
  let s := (s.wr Reg.BAN_INQ_OUTCOME outcome).wr Reg.BAN_INQ_OWN_FAIL own
  let s := (s.wr Reg.BAN_INQ_PEER_FAIL pm).wr Reg.BAN_INQ_DURATION (min ((s.frc - q.at_) / 1000) 0xFFFF)
  let s := s.inquiryOver.post Un.ban 0x0805 outcome own pm
  let active : Bool := s.role == roleActive
  if outcome = 1 then (if active then (s.setPeerRole roleCold).alone else s.demote 1 q.task)
  else if outcome = 2 then (if active then s.handover 1 else s.fail 1)
  else if outcome = 3 then (if active then (s.setPeerRole roleFailed).alone else s)
  else if active then
    let old := s.scnMode
    let s := (s.tasksByPrio.filter (fun t => s.taskState t != taskStopped)).foldl (fun s t =>
      (s.commitSafe t).setTaskState t taskStopped) s
    let s := (s.wr Reg.SCN_STAT_MODE modeStop).post Un.scn 0x0403 old modeStop 3
    ((s.post Un.ban 0x080F own pm q.task).setPeerRole roleFailed).alone
  else s.fail 1

/-- A module's result is held; with both the outcome is decided (R208, R209). -/
def State.inquiryTake (s : State) (peer : Bool) (failed : Nat) : State :=
  match s.ban.inquiry with
  | none => s
  | some q =>
    let q := if peer then { q with peer := some (some failed) } else { q with own := some failed }
    let s := if peer then s else s.banSend 0x30 (leBytes 1 (b2n (failed != 0)) ++ leBytes 1 failed)
    let s := { s with ban := { s.ban with inquiry := some q } }
    match q.own, q.peer with
    | some own, some p => s.inquiryDecide q own p
    | _, _ => s

/-- INQUIRY_TIMEOUT (R208): the peer's result has not come 3.05 ms after the start. -/
def execInquiryTimeout (s : State) : Answer :=
  match s.ban.inquiry with
  | none => .next s
  | some q =>
    if q.peer.isSome then .next s
    else
      let s := { s with frc := max s.frc (q.at_ + 3050000) }
      match q.own with
      | some own => .next (s.inquiryDecide q own none)
      | none => .next { s with ban := { s.ban with inquiry := some { q with peer := some none } } }

/-! ### Triggers (R207, R211) -/

/-- UNCORRECTABLE_ECC (R207). -/
def execUncorrectableEcc (s : State) : Answer := .next (s.faultTrigger 3)

/-- LOCKSTEP_MISMATCH (R207). -/
def execLockstepMismatch (s : State) : Answer := .next (s.faultTrigger 2)

/-- WATCHDOG_EXPIRY (R207). -/
def execWatchdogExpiry (s : State) : Answer := .next (s.faultTrigger 4)

/-- The readback block bit of a channel. -/
def State.rbBlocked (s : State) (n : Nat) : Bool := bitAt (s.rd64 Reg.BAN_RB_BLOCK_LO Reg.BAN_RB_BLOCK_HI) n
def State.setRbBlock (s : State) (n : Nat) (b : Bool) : State :=
  s.wr64 Reg.BAN_RB_BLOCK_LO Reg.BAN_RB_BLOCK_HI (putBit (s.rd64 Reg.BAN_RB_BLOCK_LO Reg.BAN_RB_BLOCK_HI) n b)

/-- The readback blocks are told to the standby, so that a further mismatch triggers nothing on either module (R211). The
spec names no frame for it: DESIGN CHOICE (log 204), mirrored writes of the two registers. -/
def State.rbMirror (s : State) : State :=
  (s.mirror .banister Reg.BAN_RB_BLOCK_LO.addr (s.rd Reg.BAN_RB_BLOCK_LO)).mirror .banister Reg.BAN_RB_BLOCK_HI.addr
    (s.rd Reg.BAN_RB_BLOCK_HI)

/-- A readback mismatch triggers a handover at most once for each channel (R211); where no standby is in step it is
recorded, and a join ends (R207, R235). -/
def State.readbackTrigger (s : State) (n : Nat) : State :=
  if s.rbBlocked n then s.post Un.ban 0x0810 n 0 0
  else if s.role = roleActive ∧ s.ban.ho.isNone then ((s.setRbBlock n true).rbMirror).handover 5
  else if s.inControl ∨ s.ban.ho.isSome then s.joinAbort.wr Reg.BAN_HO_TRIGGER 5
  else s

/-- DO_READBACK_MISMATCH (R308): the terminal reading has differed from the effective state of row 5 for 2 ms. Not
checked on a module whose outputs are held off (R207, R310). -/
def execDoReadbackMismatch (k c : Fin 8) (s : State) : Answer :=
  let x := s.island k
  let eff := x.eff c
  match (x.chan c).misAt with
  | none => .next s
  | some since_ =>
    if s.inControl ∧ x.doMismatch c ∧ !(x.chan c).misTold then
      let s := (s.waitTo (since_ + 2000000)).setCh k c { x.chan c with misTold := true }
      .next ((s.post (islSource k) 0x0B0B c.val (b2n eff) (b2n (x.chan c).raw)).readbackTrigger (8 * k.val + c.val))
    else .next s

/-- AO_READBACK_MISMATCH (R326), after 20 ms. -/
def execAoReadbackMismatch (k c : Fin 8) (s : State) : Answer :=
  let x := s.island k
  match (x.chan c).misAt with
  | none => .next s
  | some since_ =>
    if !s.inControl ∨ !x.aoMismatch c ∨ s.on (Reg.ISL_AN_STAT_READBACK k c) then .next s
    else
    let s := s.waitTo (since_ + 20000000)
    let s := (s.wr (Reg.ISL_AN_STAT_READBACK k c) 1).aoFlags k c
    let s := s.post (islSource k) 0x0B0B c.val (x.aoTarget c / 1000) ((x.chan c).cur / 1000)
    .next (s.readbackTrigger (8 * k.val + c.val))

/-! ### BAN_CMD (R207, R211, R221) -/

/-- The state of R220 that BAN_ISO shows: lanes lost, heartbeat lost, outputs off for 1 ms, one seen energised in the
100 ms before the second lane was lost. -/
def State.isoShow (s : State) : State :=
  let lanes : Bool := s.laneMask == 0
  let hb : Bool := match s.ban.peerHbAt with
    | some t => decide (t + 5000000 ≤ s.frc)
    | none => true
  let off : Bool := decide (s.ban.outOffAt + 1000000 ≤ s.frc)
  let s := s.wr ⟨Reg.BAN_ISO_LANES_LOST.addr, 0, 4⟩ (b2n lanes + 2 * b2n hb + 4 * b2n off + 8 * b2n (lanes && s.ban.outSeen))
  s.wrB Reg.BAN_STAT_PEER_HB (!hb)

/-- All three conditions of R220 hold, 5 ms or more after the last frame from the peer (R223). -/
def State.isoMet (s : State) : Bool :=
  s.fileAt Reg.BAN_ISO_LANES_LOST.addr % 16 == 15 && decide (s.ban.lastRx + 5000000 ≤ s.frc)

/-- A transmit entry that was in flight at a handover or a takeover ends with OUTCOME_UNKNOWN and HANDOVER (R217, R346,
R360, R381). What the other module had sent of it, in how many attempts and since when, is free. -/
def State.unknownHead (s : State) (q : Nat) : State :=
  if !s.txReady q then s
  else
    let can := (List.range 8).any (fun c => s.canEvq c == q ||
      (decide (s.canTtqBase c ≤ q) && decide (q < s.canTtqBase c + s.canTtqCount c) && s.canMode c != 0))
    let eth := (List.range 6).any (fun p => s.ethOn p && s.ethTxq p == q)
    let e := s.txEntry q
    let stamp := (Config.freeLong s.free).toNat
    let len := if eth then max (le e 0 2) 60 else le e 0 2
    let n := s.freeSent len
    let s := s.useFree
    let s :=
      if can then s.canComplete q Sta.outcomeUnknown 0x07 (1 + n % 255) stamp
      else if eth then s.txDone q 0x7F0 (ethDone Sta.outcomeUnknown 0x07 n stamp)
      else s.txDone q 0x1F0 (serDone Sta.outcomeUnknown 0x07 n stamp)
    s.post Un.ban 0x080C q 1 0

/-- Lead again from a standing start: class 1 leaves PAIR, the axes wait to resume. -/
def State.takeLead (s : State) : State := (s.c1Choose).axTakeover

/-- Every transmission that was released and is not completed ends with OUTCOME_UNKNOWN (R220). -/
def State.unknownAll (s : State) : State :=
  (List.range 64).foldl (fun (s : State) q =>
    if s.queUsed q && s.queRound q && isCom (s.queConsumer q) then
      (List.range (s.queWaiting q)).foldl (fun s _ => s.unknownHead q) s
    else s) s

/-- The standby takes over after the loss of both lanes (R220, R221). -/
def State.laneTakeover (s : State) (forced : Bool) : State :=
  let s := s.isoShow
  let ms := (s.frc - s.ban.lostAt) / 1000000
  let iso := s.fileAt Reg.BAN_ISO_LANES_LOST.addr
  let s := s.pairOver.setRole roleAlone
  let s := (List.range 16).foldl (fun s t =>
    if (s.task t).open_ ∧ s.commitPoint t < s.frc + 20000 then s.setTask t { s.task t with open_ := false, waits := false }
    else s) s
  let s := ((s.wr Reg.BAN_HO_TRIGGER 8).bump Reg.BAN_HO_CNT_COUNT).unknownAll
  s.takeLead.post Un.ban 0x0809 iso (b2n forced) ms

/-- A write of BAN_CMD. -/
def State.banCmdWrite (s : State) (v : Nat) : State :=
  let cmd := v % 16
  let stat (s : State) (why : Nat) : State := s.cmdStat Reg.BAN_CMD_STAT_STATUS Reg.BAN_CMD_STAT_REASON why
  let permit := s.on Reg.SCN_STAT_FORCE_PERMIT
  if bits v 24 8 ≠ 0xA5 then s
  else if cmd = 1 then
    if s.role = roleSingle ∨ s.role = roleAlone then stat s 2
    else if s.role ≠ roleActive then stat s 1
    else if !permit then stat s 3
    else if s.ban.inquiry.isSome ∨ s.ban.ho.isSome then stat s 4
    else (stat s 0).handover 7
  else if cmd = 2 then ((stat s 0).setRbBlock (bits v 8 6) false).rbMirror
  else if cmd = 3 then ((stat s 0).wr64 Reg.BAN_RB_BLOCK_LO Reg.BAN_RB_BLOCK_HI 0).rbMirror
  else if cmd = 4 then
    if s.role ≠ roleIsolated then stat s 5
    else if !permit then stat s 3
    else (stat s 0).laneTakeover true
  else s

/-- BAN_HANDOVER (R207). -/
def execBanHandover (m : Master) (s : State) : Answer :=
  .next (s.access m .w32 true Reg.BAN_CMD.addr (fun s => s.banCmdWrite 0xA5000001))

/-- REARM_READBACK (R211). -/
def execRearmReadback (m : Master) (k c : Fin 8) (s : State) : Answer :=
  .next (s.access m .w32 true Reg.BAN_CMD.addr (fun s => s.banCmdWrite (0xA5000002 + 256 * (8 * k.val + c.val))))

/-- REARM_ALL (R211). -/
def execRearmAll (m : Master) (s : State) : Answer :=
  .next (s.access m .w32 true Reg.BAN_CMD.addr (fun s => s.banCmdWrite 0xA5000003))

/-- FORCE_TAKEOVER (R221). -/
def execForceTakeover (m : Master) (s : State) : Answer :=
  .next (s.access m .w32 true Reg.BAN_CMD.addr (fun s => s.banCmdWrite 0xA5000004))

/-! ### Handover (R212 to R217) -/

/-- Where SEQ lies in a receive entry. -/
def seqOffset (e : List Byte) : Nat := if e.length = 128 then 80 else 4

/-- An entry that the standby's own receivers took and the old active module did not release goes into its queue after
the last one (R213). -/
def State.takeHeld (s : State) (h : Nat × List Byte) : State :=
  let q := h.1
  let o := seqOffset h.2
  if s.queRoom q then
    let last := s.bytes (s.entryAddr q ((s.quePi q + 2 ^ 32 - 1) % 2 ^ 32)) (2 ^ s.queEsize q)
    s.quePush q (h.2.take o ++ leBytes 4 (le last o 4 + 1) ++ h.2.drop (o + 4))
  else s

/-- Commits that wait for the lead's decision at the notice: those whose cycle the old active module has committed are
made; the others fell after the trigger, and are skipped (R212, R215). The last commit point of the fastest task is the
old active module's. The number skipped is given too. -/
def State.settleWaits (s : State) (cycles : List Nat) : State × Nat :=
  (List.range 16).foldl (fun (r : State × Nat) t =>
    let s := r.1
    if !(s.task t).waits then r
    else if s.taskCycle t ≤ (cycles[t]?).getD 0 ∧ !(s.task t).late then (s.commitNow t, r.2)
    else
      let s := s.setTask t { s.task t with waits := false, late := false }
      let s : State := if s.fastest = some t then { s with ban := { s.ban with lastC := s.ban.lastC - baseTick * s.taskPeriod t } } else s
      (s, r.2 + 1)) (s, 0)

/-- Up to which index a queue's entries were released: by an agreement, or by one that this module did not get, as the
notice tells (R212, R213). -/
def State.toldLimit (s : State) (rxSeq q : Nat) : Nat :=
  (s.ban.mirr.filter (fun m => m.2.1 == q && seqFrom rxSeq m.1)).foldl (fun _ m => m.2.2) (s.queRi q)

/-- The ticks that wait fell after the trigger: the module latches its own inputs for them (R213). -/
def State.duesLead (s : State) : State :=
  let dues := s.scn.dues
  dues.foldl (fun (s : State) d => s.inTick d (fun s => s.tickLead)) { s with scn := { s.scn with dues := [] } }

/-- HANDOVER (R213): the standby takes the notice, unless it holds a power-fail warning of its own (R484). The ramp
starts 20 µs after receipt. -/
def State.handoverTake (s : State) (seq : Nat) (x : Notice) : State :=
  if s.on Reg.PWR_STAT_PF_WARN then s.shutdownSend
  else if s.role ≠ roleStandby ∨ s.ban.ho.isSome then s
  else
    let r := s.slvFollow.inquiryOver.settleWaits x.cycles
    let s := r.1
    let s := (s.wr Reg.BAN_STAT_HANDOVER 1).wr Reg.BAN_HO_TRIGGER x.trigger.val
    let s := (s.wr Reg.BAN_HO_SKIPPED (min r.2 255)).bump Reg.BAN_HO_CNT_COUNT
    let ramp := s.frc + 20000
    let s := (s.roleAnswer seq).banSend 0x32 (leBytes 8 (ramp - s.scn.lastTick.getD 0))
    let s := (List.range 64).foldl (fun (s : State) q =>
      let n := s.toldLimit x.rxSeq q
      if s.queUsed q && s.queHeld q && n != s.queRi q then s.releaseTold (0, q, n) else s) s
    let s := ({ s with ban := { s.ban with rolled := [] } } : State).rollBack (fun q => s.queRi q) false
    let held := s.ban.held
    let s : State := { s with
      slv := { s.slv with permits := [] }
      ban := { s.ban with
        held := [], own := [], peer := [], mirr := [], agrs := [], timeouts := []
        ho := some { old := false, trigger := x.trigger.val, before := s.role, at_ := s.frc, lastC := s.ban.lastC
                     ramp := some ramp, skipped := r.2 } } }
    let s := (List.range 8).foldl (fun (s : State) c => s.setCanCh c { s.canCh c with hpWait := [] }) s
    (held.foldl (fun s h => s.takeHeld h) s).duesLead

/-- DRIVING (R214): the old active module learns S, given as an offset from its last base tick. -/
def State.drivingTake (s : State) (offset : Nat) : State :=
  match s.ban.ho with
  | some h =>
    if h.old then { s with ban := { s.ban with ho := some { h with ramp := some (s.scn.lastTick.getD 0 + offset) } } } else s
  | none => s

/-- The converters of the module's islands ramp from S: up on the new module, down on the old (R214). -/
def State.rampSet (s : State) (r : Option (Nat × Bool)) : State :=
  ((List.range 8).filter (fun k => s.islFitted k)).foldl (fun (s : State) k => s.setIsland k { s.island k with ramp := r }) s

/-- RAMP_START (R214): at S the new module's outputs switch on, and the currents cross over in the island converters. -/
def execRampStart (s : State) : Answer :=
  match s.ban.ho with
  | some h => match h.ramp with
    | some t =>
      let s := ({ s with frc := max s.frc t } : State).rampSet (some (t, !h.old))
      .next (if h.old then s else { s with ban := { s.ban with driving := true } })
    | none => .next s
  | none => .next s

/-- RAMP_END (R214): at S + 60 µs the old module's outputs are off and it sends RELEASED. -/
def execRampEnd (s : State) : Answer :=
  match s.ban.ho with
  | some h => match h.ramp with
    | some t =>
      let s := { s with frc := max s.frc (t + 60000) }
      if h.old then
        let s := { s with ban := { s.ban with framesOff := true, ho := some { h with ended := some s.frc } } }
        .next (s.banSend 0x33 [])
      else .next s
    | none => .next s
  | none => .next s

/-- RELEASED (R214): the new module learns that the old one's outputs are released, which gives the overlap. -/
def State.releasedTake (s : State) : State :=
  match s.ban.ho with
  | some h =>
    if h.old then s
    else
      let beyond := min ((s.frc - h.ramp.getD s.frc) / 1000) 255
      { s with ban := { s.ban with ho := some { h with ended := some s.frc } } }.wr Reg.BAN_HO_CNT_OVERLAP beyond
  | none => s

/-- BARRIER_BACKSTOP (R214): 110 µs after HANDOVER was sent. -/
def execBarrierBackstop (s : State) : Answer :=
  match s.ban.ho with
  | some h =>
    if h.old then
      let s := { s with frc := max s.frc (h.at_ + 110000) }
      .next { s with ban := { s.ban with framesOff := true } }
    else .next s
  | none => .next s

/-- The handover is over on this module. -/
def State.handoverOver (s : State) : State :=
  let s := (s.wr Reg.BAN_STAT_HANDOVER 0).rampSet none
  { s with ban := { s.ban with ho := none, driving := false, framesOff := false, hs := [] } }

/-- One heartbeat of R219 on each plant port with HEARTBEAT that has a source address for it. -/
def State.plantBeats (s : State) (src : State → Nat → List Byte) : State :=
  let n := (s.ban.hbSeq + 1) % 2 ^ 32
  let body := leBytes 4 s.station ++ leBytes 4 s.ident.serial ++ leBytes 1 s.role ++ leBytes 1 s.laneMask ++
    leBytes 2 0 ++ leBytes 4 n
  let pay := padTo 46 (body ++ leBytes 4 (banCrc body))
  (List.range 4).foldl (fun s p =>
    if s.ethFlag p 0 && src s p != [] then
      s.ethHand p 2 (s.ethHead p (s.ethHbGroup p) (src s p) ++ [0x88, 0xB5] ++ pay)
    else s) { s with ban := { s.ban with hbSeq := n } }

/-- At K the new active module sends one heartbeat from the station address, on the ports that have it (R362). -/
def State.stationBeats (s : State) : State := s.plantBeats (fun s p => if s.ethFlag p 3 then s.stationMac p else [])

/-- K on the new active module. The gap ends when its first image is at the terminals, at most 60 µs after K (R216).
With no lane up there is no standby in step (R222). -/
def State.takeoverNew (s : State) (h : Handover) (unknown : List (Fin 64)) : State :=
  let gap := min ((s.frc - h.lastC) / 1000 + s.freeWord.toNat % 61) 0xFFFF
  let s := s.useFree.wr Reg.BAN_HO_GAP gap
  let pair : Bool := staysInStep h.trigger && s.laneMask != 0
  let rolled := s.ban.rolled
  let s := ({ s with ban := { s.ban with join := none, rolled := [] } } : State).handoverOver.setRole
    (if pair then roleActive else roleAlone)
  let s := s.setPeerRole (if staysInStep h.trigger then roleStandby else if h.trigger = 9 then roleCold else roleFailed)
  let s := rolled.foldl (fun s q => s.unknownHead q) s
  let s := unknown.foldl (fun s q => s.unknownHead q) s
  s.stationBeats.takeLead.post Un.ban 0x0807 gap (s.rd Reg.BAN_HO_CNT_OVERLAP) h.skipped

/-! ### Losing the lanes (R218 to R222) -/

def laneUp (l : Nat) : Fld := if l = 0 then Reg.BAN_STAT_LANE0_UP else Reg.BAN_STAT_LANE1_UP

def State.lane (s : State) (l : Nat) : Lane := (Assoc.find? s.ban.lanes l).getD {}

/-- Both lanes are lost: an active module is on its own (R222); a standby takes over where the conditions hold already,
else it is isolated (R221); a join ends (R235). A handover under way runs on to K (R214). -/
def State.lanesGone (s : State) : State :=
  let at_ := s.frc
  let seen : Bool := s.ban.outOnAt.any (fun t => decide (at_ ≤ t + 100000000))
  let s := s.joinAbort
  let s := { s with ban := { s.ban with lostAt := at_, outSeen := seen } }
  if s.ban.ho.isSome then s
  else if s.role = roleActive then s.alone
  else if s.role = roleStandby then
    let s := s.isoShow
    if s.isoMet then s.laneTakeover false
    else
      (s.inquiryOver.pairOver.setRole roleIsolated).post Un.ban 0x0808 (s.fileAt Reg.BAN_ISO_LANES_LOST.addr) 0 0
  else s

/-- K on the old active module (R206): STANDBY in step, COLD after a planned swap, else FAILED. -/
def State.takeoverOld (s : State) (h : Handover) : State :=
  let s := s.handoverOver
  let s := (List.range 8).foldl (fun (s : State) c => s.setCanCh c { s.canCh c with flight := none }) s
  let s := (List.range 6).foldl (fun (s : State) p => s.setEthPort p { s.ethPort p with flight := none }) s
  let s := (List.range 8).foldl (fun (s : State) p => s.wr (Reg.SER_STAT_TX_BUSY p) 0) { s with ser := [] }
  if staysInStep h.trigger then
    let s := (s.setRole roleStandby).setPeerRole roleActive
    if s.laneMask = 0 then s.lanesGone else s
  else if h.trigger = 9 then
    let s := match s.ban.join with
      | some j => if j.stopped then s.post Un.ban 0x0815 j.mapUs j.resets j.discarded else s
      | none => s
    let s := { s with ban := { s.ban with join := none } }
    (s.setRole roleCold).scnHalt.setPeerRole roleAlone
  else (s.fail h.trigger).setPeerRole roleAlone

/-- The first commit point of a task at or after an instant, on the grid that begins at `o`. -/
def State.pointFrom (s : State) (o : Int) (t at_ : Nat) : Nat :=
  let p := baseTick * max 1 (s.taskPeriod t)
  let first := o + (baseTick * s.taskPhase t + p : Nat) - (s.taskMargin t : Nat)
  let n := ((at_ : Int) - first + (p - 1 : Nat)) / p
  (first + max n 0 * p).toNat

/-- K (R215): the first commit point of the fastest task at least 100 µs after the receipt of the notice. The old active
module knows the receipt from S, 20 µs later; where DRIVING was lost it takes the latest receipt, 5 µs after the trigger
(DESIGN CHOICE, log 205). -/
def State.takeoverAt (s : State) (h : Handover) : Nat :=
  let got := if h.old then (match h.ramp with | some r => r - 20000 | none => h.at_ + 5000) else h.at_
  match s.fastest, s.scn.origin with
  | some t, some o => s.pointFrom o t (got + 100000)
  | _, _ => got + 100000

/-- TAKEOVER_INSTANT (R215): at K, after the commit points and base ticks before it. `unknown`: the queues whose head the
old active module had started and not released. -/
def execTakeoverInstant (unknown : List (Fin 64)) (s : State) : Answer :=
  match s.ban.ho with
  | none => .next s
  | some h =>
    let k := s.takeoverAt h
    if s.tickNext ≤ k then .next s
    else
      let s := s.commitsTo (k - 1)
      let h := s.ban.ho.getD h
      let s := { s with frc := max s.frc k }
      .next (if h.old then s.takeoverOld h else s.takeoverNew h unknown)

/-- A good copy of a frame arrives on a lane. -/
def State.laneSeen (s : State) (l seq : Nat) : State :=
  let x := s.lane l
  let back := if s.on (laneUp l) then none else some (x.backAt.getD s.frc)
  { s with ban := { s.ban with
      lastRx := s.frc, lanes := Assoc.insert s.ban.lanes l { x with lastSeq := seq, lastAt := s.frc, backAt := back } } }

/-- LANE_LOST (R218): no valid frame for 50 µs. -/
def execLaneLost (l : Fin 2) (s : State) : Answer :=
  if s.power.running ∧ s.on (laneUp l) then
    let x := s.lane l
    let s := { s with frc := max s.frc (x.lastAt + 50000) }
    let s := (s.wr (laneUp l) 0).wr (Reg.BAN_LANE_UP l) 0
    let other := s.on (laneUp (1 - l.val))
    let s := { s with ban := { s.ban with lanes := Assoc.insert s.ban.lanes l.val { x with downAt := s.frc, backAt := none } } }
    let s := s.post Un.ban 0x0801 l.val x.lastSeq (b2n other)
    .next (if other then s else s.lanesGone)
  else .next s

/-- LANE_RESTORED (R218): after 1 ms of valid frames. A lane that comes back to an isolated standby makes it COLD. -/
def execLaneRestored (l : Fin 2) (s : State) : Answer :=
  if s.power.running ∧ !s.on (laneUp l) then
    let x := s.lane l
    let s := { s with frc := max s.frc (x.backAt.getD s.frc + 1000000) }
    let s := (s.wr (laneUp l) 1).wr (Reg.BAN_LANE_UP l) 1
    let s := s.post Un.ban 0x0802 l.val ((s.frc - x.downAt) / 1000000) 0
    let s := s.isoShow
    .next (if s.role = roleIsolated then s.demote 4 l.val else s)
  else .next s

/-- PLANT_HEARTBEAT_SEND (R219): every 1 ms on each plant port with HEARTBEAT that is past its join point. -/
def execPlantHeartbeatSend (s : State) : Answer :=
  if s.power.running ∧ s.locked ∧ s.paired then
    let due := match s.ban.plantAt with
      | some t => t + 1000000
      | none => s.frc
    let s := { s with frc := max s.frc due }
    .next (({ s with ban := { s.ban with plantAt := some s.frc } } : State).plantBeats State.ownMac)
  else .next s

/-- A heartbeat is the peer's (R219). -/
def State.beatValid (s : State) (x : PlantBeat) : Bool :=
  let known := s.rd Reg.BAN_PEER_SERIAL
  x.crcGood && x.station.toNat == s.station &&
    (if known = 0 then x.serial.toNat != s.ident.serial else x.serial.toNat == known)

/-- PLANT_HEARTBEAT (R219). -/
def execPlantHeartbeat (p : Fin 4) (x : PlantBeat) (s : State) : Answer :=
  if s.power.running ∧ s.holdView.ethOn p ∧ s.holdView.beatValid x then
    let late : Bool := decide (300000000 ≤ s.sinceP0)
    let s := { s with ban := { s.ban with
      peerHbAt := some s.frc, peerHbSeq := x.seq.toNat
      beat := if late then some (x.serial.toNat, x.role.val) else s.ban.beat } }
    let s := (s.setPeerRole x.role.val).isoShow
    if s.electing ∧ late ∧ (x.role.val = roleAlone ∨ x.role.val = roleActive) then
      .next ((s.wr Reg.BAN_PEER_SERIAL x.serial.toNat).elect 5)
    else .next s
  else .next s

/-- LANE_LOSS_TAKEOVER (R220): all three conditions hold. -/
def execLaneLossTakeover (s : State) : Answer :=
  let s := s.isoShow
  if s.power.running ∧ (s.role = roleStandby ∨ s.role = roleIsolated) ∧ s.isoMet then .next (s.laneTakeover false)
  else .next s

end Sys2Proof.Machine
end

