-- ==== Sys2Proof/Machine/Noticeboard.lean ====
section
/-!
DEFINITION. The Noticeboard panel engine (R456 to R475).
-/
namespace Sys2Proof.Machine

/-! ### The panel's configuration (R456 to R458) -/

def State.nbRec (s : State) : List Byte := s.portRec 6 0
/-- The Noticeboard is fitted, the image is locked and configures a panel. -/
def State.nbPanel (s : State) : Bool := s.capOn Reg.SYS_CAPS_NB && s.locked && s.nbRec != []
def State.nbFlag (s : State) (n : Nat) : Bool := bitAt (le s.nbRec 2 1) n
def State.nbStrip (s : State) : Bool := s.nbFlag 1
def State.nbW (s : State) : Nat := le s.nbRec 4 2
def State.nbH (s : State) : Nat := le s.nbRec 6 2
def State.nbThresh (s : State) : Nat := le s.nbRec 0xA 2
def State.nbHz (s : State) : Nat := le s.nbRec 0xC 1
/-- FRAME_MAX (R457). -/
def State.nbFrameMax (s : State) : Nat := 12 * s.nbHz / 10

/-- CMDQ, or the queue that names the Noticeboard where no panel is configured (R456). -/
def State.nbCmdq (s : State) : Option Nat :=
  if !s.capOn Reg.SYS_CAPS_NB || !s.locked then none
  else if s.nbRec != [] then some (le s.nbRec 0xD 1)
  else (List.range 64).find? (fun q => s.queUsed q && s.queRound q && s.queConsumer q == 0x28)

/-- The engine is in FAULT (R468). -/
def State.nbFault (s : State) : Bool := s.rd Reg.NB_STAT_STATE == 4

/-- The transition record from level p to level q in a band. -/
def State.nbTrans (s : State) (band p q : Nat) : List Byte := slice (s.softPlan 0x8082 band) (8 + 64 * (16 * p + q)) 64

/-- The frame codes of a transition, all of them or those of a FAST update. -/
def State.nbCodes (s : State) (band p q : Nat) (fast : Bool) : List Nat :=
  let r := s.nbTrans band p q
  (List.range (le r (b2n fast) 1)).map (fun f => bits (le r (4 + f / 4) 1) (2 * (f % 4)) 2)

/-! ### Pixels -/

def pixKey (x y : Nat) : Nat := 1024 * y + x
def Nb.at_ (n : Nb) (k : Nat) : NbPix := (Assoc.find? n.pix k).getD {}
def Nb.set (n : Nb) (k : Nat) (x : NbPix) : Nb := { n with pix := Assoc.insert n.pix k x }

/-- The keys of a rectangle, row by row. -/
def rectKeys (x y w h : Nat) : List Nat := (List.range h).flatMap (fun j => (List.range w).map (fun i => pixKey (x + i) (y + j)))

/-- Every pixel of the panel. -/
def State.nbAll (s : State) : List Nat := rectKeys 0 0 s.nbW s.nbH

/-- A waveform is running. -/
def Nb.running (n : Nb) : Bool := n.pix.any (fun c => c.2.wave.isSome)
/-- A target is pending. -/
def Nb.pending (n : Nb) : Bool := n.pix.any (fun c => c.2.pend.isSome)

/-- The engine owns the trim box while a key session is open (R467). -/
def State.nbBoxRow (s : State) (k : Nat) : Bool := s.key.isSome && decide (48 ≤ k / 1024) && decide (k / 1024 < 96)

/-- The registers that sum up the ledger (NB_LEDGER, NB_STAT.BAL_DUE). -/
def State.nbShow (s : State) : State :=
  let due := (s.nb.pix.filter (fun c => c.2.due)).length
  let top := s.nb.pix.foldl (fun (m : Nat) c => max m c.2.ledger.natAbs) 0
  ((s.wr Reg.NB_LEDGER_DUE (min due 0xFFFF)).wr Reg.NB_LEDGER_MAX top).wrB Reg.NB_STAT_BAL_DUE (decide (0 < due))

/-- STATE of NB_STAT, from what runs. -/
def State.nbState (s : State) : State :=
  if s.nbFault then s
  else
    s.wr Reg.NB_STAT_STATE
      (if !s.nbPanel then 0
       else if s.nb.running || s.nb.job != .none then (if s.nb.recovery && s.nb.job != .none then 3 else 2)
       else 1)

/-- NB_PIX for a selection (y in [25:16], x in [9:0]). -/
def State.nbPixWord (s : State) (sel : Nat) : Nat :=
  let x := bits sel 0 10
  let y := bits sel 16 10
  if !s.nbPanel || decide (s.nbW ≤ x) || decide (s.nbH ≤ y) then 0
  else
    let p := s.nb.at_ (pixKey x y)
    let pend := (p.pend.map (fun e => e.tgt)).getD 0
    let band := (p.wave.map (fun e => e.band)).getD 0
    toBits 16 p.ledger * 2 ^ 16 + p.level * 2 ^ 12 + pend * 2 ^ 8 + band * 2 ^ 4 + b2n p.wave.isSome * 8 +
      b2n p.pend.isSome * 4 + b2n p.due * 2 + b2n p.sat

/-! ### Temperature (R459, R460) -/

/-- The band in use after a reading, seen from the present one. -/
def State.nbBandFor (s : State) (t : Int) : Nat → Nat → Nat
  | 0, b => b
  | n + 1, b =>
    let body := s.softPlan 0x8082 b
    if b < 11 ∧ les body 4 2 + 10 ≤ t then s.nbBandFor t n (b + 1)
    else if 0 < b ∧ t + 10 ≤ les body 2 2 then s.nbBandFor t n (b - 1)
    else b

/-- A compensating refresh is scheduled where the band in use lies more than 2 from BAND_REF (R460). -/
def State.nbRefreshCheck (s : State) : State :=
  let b := s.rd Reg.NB_TEMP_BAND
  let r := s.rd Reg.NB_TEMP_BAND_REF
  if (r + 2 < b ∨ b + 2 < r) ∧ !s.on Reg.NB_STAT_REFRESH_DUE then
    (s.wr Reg.NB_STAT_REFRESH_DUE 1).post Un.nb 0x1305 r b (toBits 32 (sgn 16 (s.rd Reg.NB_TEMP_TEMP)))
  else s

/-- The temperature is read. -/
def State.nbTemp (s : State) (temp : BitVec 16) : State :=
  let t := temp.toInt
  let below := decide (t < les (s.softPlan 0x8082 0) 2 2)
  let above := decide (les (s.softPlan 0x8082 11) 4 2 < t)
  let b := if below then 0 else if above then 11 else s.nbBandFor t 11 (s.rd Reg.NB_TEMP_BAND)
  let was := s.on Reg.NB_STAT_OUT_OF_BAND
  let s := ((s.wr Reg.NB_TEMP_TEMP temp.toNat).wr Reg.NB_TEMP_BAND b).wrB Reg.NB_STAT_OUT_OF_BAND (below || above)
  let s := if (below || above) && !was then s.post Un.nb 0x1306 (toBits 32 t) b 0 else s
  s.nbRefreshCheck

/-! ### Waveforms -/

/-- DIRTY is set in MRAM at the first waveform start after a quiescent commit (R469). -/
def State.nbDirty (s : State) : State := s.wr Reg.NB_STAT_DIRTY 1

/-- The 32 × 32 block of a pixel. -/
def blockOf (k : Nat) : Nat := 32 * (k / 1024 / 32) + k % 1024 / 32

/-- A waveform starts on pixels: each of their blocks counts one (R434). -/
def State.nbCount (s : State) (ks : List Nat) : State :=
  let bs := (ks.map blockOf).eraseDups
  let blocks := bs.foldl (fun (l : List (Nat × Nat × Nat)) b =>
    let o := (Assoc.find? l b).getD (0, 0)
    Assoc.insert l b (o.1 + 1, o.2)) s.nb.blocks
  let s := { s with nb := { s.nb with blocks } }
  if bs = [] then s
  else ((s.setWearQ 0xC3 (blocks.foldl (fun (m : Nat) c => max m c.2.1) 0)).wearStore 0xC3).wearSummary

/-- A pixel starts a waveform. -/
def NbPix.start (p : NbPix) (codes : List Nat) (tgt band : Nat) (upd : Option Nat) : NbPix :=
  { p with wave := some { codes, tgt, band, upd } }

/-- Every pixel of the panel starts a transition from one level to another: of the levels that a pixel has. -/
def State.nbStartAll (s : State) (from_ dest : NbPix → Nat) : State :=
  let b := s.rd Reg.NB_TEMP_BAND
  let ks := s.nbAll
  let pix := ks.foldl (fun (l : List (Nat × NbPix)) k =>
    let p := (Assoc.find? l k).getD {}
    Assoc.insert l k (p.start (s.nbCodes b (from_ p) (dest p) false) (dest p) b none)) s.nb.pix
  ({ s with nb := { s.nb with pix } } : State).nbCount ks |>.nbDirty

/-- A clean begins with its first phase (R470). -/
def State.nbClean (s : State) : State :=
  let s := s.wr Reg.NB_TEMP_BAND_REF (s.rd Reg.NB_TEMP_BAND)
  let s := { s with nb := { s.nb with job := .black } }
  s.nbStartAll (fun p => p.level) (fun _ => 0)

/-- A compensating refresh begins (R460). -/
def State.nbRefresh (s : State) : State :=
  let s := (s.wr Reg.NB_TEMP_BAND_REF (s.rd Reg.NB_TEMP_BAND)).wr Reg.NB_STAT_REFRESH_DUE 0
  let s := { s with nb := { s.nb with job := .refresh } }
  s.nbStartAll (fun p => p.level) (fun p => p.level)

/-- Frames that a balance pass drives a pixel for (R466). -/
def State.nbBalN (s : State) (p : NbPix) : Nat :=
  min p.ledger.natAbs (s.nbFrameMax - le (s.nbTrans (s.rd Reg.NB_TEMP_BAND) (if 0 < p.ledger then 0 else 15) p.level) 0 1)

/-- A balance pass begins: every BAL_DUE pixel is driven. -/
def State.nbBalance (s : State) : State :=
  let b := s.rd Reg.NB_TEMP_BAND
  let due := s.nb.pix.filter (fun c => c.2.due)
  let pix := s.nb.pix.map (fun c =>
    if c.2.due then
      let p := c.2
      let e := if 0 < p.ledger then 0 else 15
      let codes := List.replicate (s.nbBalN p) (if 0 < p.ledger then 2 else 1) ++ s.nbCodes b e p.level false
      (c.1, p.start codes p.level b none)
    else c)
  let blocks := due.foldl (fun (l : List (Nat × Nat × Nat)) c =>
    let o := (Assoc.find? l (blockOf c.1)).getD (0, 0)
    Assoc.insert l (blockOf c.1) (o.1, o.2 + s.nbBalN c.2)) s.nb.blocks
  let s := { s with nb := { s.nb with pix, blocks, job := .balance, balCmd := false } }
  let s := ((s.setWearQ 0xC4 (blocks.foldl (fun (m : Nat) c => max m c.2.2) 0)).wearStore 0xC4).wearSummary
  if due = [] then { s with nb := { s.nb with job := .none } }
  else (s.nbCount (due.map (fun c => c.1))).nbDirty

/-! ### The identity strip and the trim box (R467) -/

/-- Decimal digits of a number, most significant first, as ASCII. -/
def decimal : Nat → Nat → List Byte
  | 0, _ => []
  | f + 1, n => (if n < 10 then [] else decimal f (n / 10)) ++ [BitVec.ofNat 8 (0x30 + n % 10)]

/-- The two lines of the strip. -/
def State.nbLines (s : State) : List Byte × List Byte :=
  let name := (slice (s.plan 0x8001 0) 8 32).reverse.dropWhile (fun b => b == 0) |>.reverse
  let trip : List Byte := [0x54, 0x52, 0x49, 0x50]
  (name ++ [0x20, 0x53, 0x54, 0x4E] ++ decimal 10 s.station,
   match s.firstOut with
   | some (sink, product, frc) => trip ++ [0x20] ++ Config.stripTrip sink product frc
   | none => [0x4E, 0x4F, 0x20] ++ trip)

/-- The level of a pixel of rows 0 to 47 in the strip: black glyphs on white; a byte outside 0x20 to 0x7E is a "?". -/
def State.nbStripLevel (s : State) (k : Nat) : Nat :=
  let x := k % 1024
  let y := k / 1024
  let glyphs := if y < 24 then s.nbLines.1 else s.nbLines.2
  match glyphs[x / 16]? with
  | none => 15
  | some b =>
    let ch := if 0x20 ≤ b.toNat ∧ b.toNat ≤ 0x7E then b.toNat else 0x3F
    if Config.glyph ch (x % 16) (y % 24) then 0 else 15

/-- The level of a pixel of the trim box. -/
def State.nbBoxLevel (s : State) (k : Nat) : Nat :=
  match s.key with
  | some y =>
    if Config.trimBox (8 * y.island + y.ch) (s.rd (Reg.ISL_AN_TRIM y.island y.ch)) (k % 1024) (k / 1024 - 48) then 0 else 15
  | none => 15

/-- The engine draws rows of its own with FULL waveforms; a pixel in mid-waveform takes its level as pending. -/
def State.nbDraw (s : State) (ks : List Nat) (level : Nat → Nat) : State :=
  let b := s.rd Reg.NB_TEMP_BAND
  let idle := ks.filter (fun k => (s.nb.at_ k).wave.isNone)
  let pix := ks.foldl (fun (l : List (Nat × NbPix)) k =>
    let p := (Assoc.find? l k).getD {}
    Assoc.insert l k
      (if p.wave.isSome then { p with pend := some { tgt := level k, fast := false } }
       else p.start (s.nbCodes b p.level (level k) false) (level k) b none)) s.nb.pix
  let s := { s with nb := { s.nb with pix } }
  if idle = [] then s else (s.nbCount idle).nbDirty

/-- The strip is redrawn. -/
def State.nbStripDraw (s : State) : State :=
  let s := s.nbDraw (rectKeys 0 0 s.nbW 48) (fun k => s.nbStripLevel k)
  let why := s.nb.stripWhy
  ({ s with nb := { s.nb with stripDue := false, stripWhy := 2 } } : State).post Un.nb 0x1309 why (match s.firstOut with | some f => f.1 | none => 0) 0

/-- The trim box is drawn on the pixels that are not in mid-waveform; it stays due for the others. -/
def State.nbBoxDraw (s : State) : State :=
  let ks := rectKeys 0 48 s.nbW 48
  let idle := ks.filter (fun k => (s.nb.at_ k).wave.isNone)
  let s := s.nbDraw idle (fun k => s.nbBoxLevel k)
  { s with nb := { s.nb with boxDue := decide (idle.length < ks.length) } }

/-! ### Updates (R461 to R464) -/

/-- Recovery clean, strip redraw, a clean or other work on the whole panel comes before any further update. -/
def State.nbBusy (s : State) : Bool :=
  s.nb.recovery || s.nb.stripDue || s.nb.lightWait || s.nb.cleanCmd || s.nb.balCmd || s.nb.job != .none ||
  s.on Reg.NB_STAT_REFRESH_DUE || s.nb.upds.any (fun u => u.clean)

/-- The check of R462: the first row that applies. -/
def State.nbCheck (s : State) (e : List Byte) : Option (Nat × Nat) :=
  let f (o n : Nat) : Nat := le e o n
  let mode := f 1 1
  let (x, y, w, h, stride, src) := (f 4 2, f 6 2, f 8 2, f 0xA 2, f 0xC 2, f 0x10 8)
  let form := f 0 1 != 1 || decide (mode < 1) || decide (3 < mode) || f 2 2 != 0 || f 0xE 2 != 0 || f 0x1C 4 != 0
  if !s.nbPanel || s.nbFault then some (Sta.busError, 6)
  else if mode = 3 then
    if form || x + y + w + h + stride + src != 0 then some (Sta.lenInvalid, 2) else none
  else if x % 2 + w % 2 != 0 || w == 0 || h == 0 || decide (s.nbW < x + w) || decide (s.nbH < y + h) then some (Sta.lenInvalid, 1)
  else if form || decide (stride < w / 2) then some (Sta.lenInvalid, 2)
  else if s.nbStrip && decide (y < 48) then some (Sta.lenInvalid, 3)
  else if !(inSram src && inSram (src + stride * (h - 1) + w / 2 - 1)) then some (Sta.busError, 4)
  else none

/-- A pixel takes a target of an update. -/
def State.nbTarget (s : State) (k tgt : Nat) (fast : Bool) (no : Nat) : State :=
  let p := s.nb.at_ k
  let b := s.rd Reg.NB_TEMP_BAND
  if p.wave.isNone ∧ p.level = tgt ∧ s.nbCodes b tgt tgt false = [] ∧ !s.nbBoxRow k then
    { s with nb := s.nb.set k { p with pend := none } }
  else { s with nb := s.nb.set k { p with pend := some { tgt, fast, upd := some no } } }

/-- An update is finished: decided, or none of its targets is running or pending. -/
def Nb.finished (n : Nb) (u : NbUpd) : Bool :=
  u.refused.isSome ||
  (!u.clean && !n.pix.any (fun c =>
    (match c.2.wave with | some w => w.upd == some u.no | none => false) ||
    (match c.2.pend with | some e => e.upd == some u.no | none => false)))

/-- Write the oldest update's completion. -/
def State.nbComplete (s : State) (q : Nat) (u : NbUpd) (status detail : Nat) : State :=
  let (band, s) := match u.band with
    | some b => (b, s)
    | none => (s.freeWord.toNat % 256, s.useFree)
  let done := leBytes 1 status ++ leBytes 1 detail ++ leBytes 2 band ++ leBytes 4 (min u.frames 0xFFFF) ++
    leBytes 8 u.changed ++ leBytes 8 s.frc ++ leBytes 8 0
  let s := { s with nb := { s.nb with upds := s.nb.upds.drop 1, doneAt := s.frc } }
  s.queComplete q 0x20 done

/-- Completions in posting order (R463): every finished update with none unfinished before it; at a shutdown, once all
waveforms have ended, the unfinished ones too. -/
def State.nbCompletions (s : State) (shut : Bool) : Nat → State
  | 0 => s
  | f + 1 =>
    match s.nb.upds, s.nbCmdq with
    | u :: _, some q =>
      match u.refused with
      | some (st, d) => (s.nbComplete q u st d).nbCompletions shut f
      | none =>
        if s.nb.finished u && !u.cut then (s.nbComplete q u Sta.ok 0).nbCompletions shut f
        else if shut then (s.nbComplete q u Sta.outcomeUnknown 8).nbCompletions shut f
        else s
    | _, _ => s

/-- NB_UPDATE_TAKE (R462, R463): the descriptor behind those already taken. -/
def execNbUpdateTake (s : State) : Answer :=
  match s.nbCmdq with
  | none => .next s
  | some q =>
    let taken := s.nb.upds.length
    if s.queWaiting q ≤ taken ∨ 8 ≤ taken ∨ s.nbBusy ∨ s.on Reg.PWR_STAT_PF_WARN then .next s
    else
      let e := s.bytes (s.entryAddr q (s.queDi q + taken)) 64
      let no := s.nb.nextUpd
      let u : NbUpd := { no }
      let s := { s with nb := { s.nb with nextUpd := no + 1 } }
      match s.nbCheck e with
      | some (st, d) =>
        let s := { s with nb := { s.nb with upds := s.nb.upds ++ [{ u with refused := some (st, d) }] } }
        .next ((s.post Un.nb 0x1301 d (le e 0x18 4) (le e 1 1)).nbCompletions false 8)
      | none =>
        if le e 1 1 = 3 then
          .next ({ s with nb := { s.nb with upds := s.nb.upds ++ [{ u with clean := true }] } } : State).nbState
        else
          let (x, y, w, h, stride, src) := (le e 4 2, le e 6 2, le e 8 2, le e 0xA 2, le e 0xC 2, le e 0x10 8)
          let s := { s with nb := { s.nb with upds := s.nb.upds ++ [u] } }
          let s := (rectKeys 0 0 w h).foldl (fun (s : State) k =>
            let i := k % 1024
            let j := k / 1024
            let tgt := bits (s.byte (src + j * stride + i / 2)).toNat (4 * (i % 2)) 4
            s.nbTarget (pixKey (x + i) (y + j)) tgt (le e 1 1 == 2) no) s
          .next (s.nbCompletions false 8).nbState

/-! ### Frames (R463 to R465, R471) -/

/-- A note for the update that a waveform serves. -/
def noteUpd (l : List NbUpd) (no : Option Nat) (f : NbUpd → NbUpd) : List NbUpd :=
  l.map (fun u => if no = some u.no then f u else u)

/-- Idle pixels with a pending target start their waveforms; those under the trim box wait. -/
def State.nbStartPending (s : State) : State :=
  let b := s.rd Reg.NB_TEMP_BAND
  let go := s.nb.pix.filter (fun c => c.2.wave.isNone && c.2.pend.isSome && !s.nbBoxRow c.1)
  if go = [] then s
  else
    let pix := s.nb.pix.map (fun c =>
      match c.2.wave, c.2.pend with
      | none, some e =>
        if s.nbBoxRow c.1 then c
        else (c.1, { c.2 with pend := none, wave := some ⟨s.nbCodes b c.2.level e.tgt e.fast, e.tgt, b, e.upd⟩ })
      | _, _ => c)
    let nos : List Nat := (go.filterMap (fun c => c.2.pend.bind (fun e => e.upd))).eraseDups
    let upds : List NbUpd := s.nb.upds.map (fun (u : NbUpd) => if nos.contains u.no && u.band.isNone then { u with band := some b } else u)
    (({ s with nb := { s.nb with pix, upds } } : State).nbCount (go.map (fun c => c.1))).nbDirty

/-- The next work of R464 starts where it may. -/
def State.nbStart (s : State) : State :=
  if s.on Reg.PWR_STAT_PF_WARN then s
  else
    let clean := s.nb.lightWait || s.nb.cleanCmd || s.nb.upds.any (fun u => u.clean)
    let quiet := !s.nb.running
    if s.nb.job != .none then (if s.nb.job == .black && quiet then
        ({ s with nb := { s.nb with job := .white } } : State).nbStartAll (fun _ => 0) (fun _ => 15) else s)
    else if s.nb.recovery then (if quiet then
        ({ s with nb := { s.nb with indets := (s.nb.pix.filter (fun c => c.2.indet)).length } } : State).nbClean else s)
    else
      let s := if s.nb.stripDue && s.nbStrip then s.nbStripDraw else { s with nb := { s.nb with stripDue := false } }
      let s := if s.nb.boxDue && s.key.isSome then s.nbBoxDraw else s
      let first := s.nb.lightWait || s.nb.cleanCmd
      if first && quiet && !s.nb.running then s.nbClean
      else
        let s := if first then s else s.nbStartPending
        let calm := !s.nb.running && !s.nb.pending
        if clean && calm then s.nbClean
        else if s.on Reg.NB_STAT_REFRESH_DUE && calm then s.nbRefresh
        else s

/-- The pixel after one frame of its waveform. -/
def NbPix.frame (p : NbPix) : NbPix :=
  match p.wave with
  | some w =>
    match w.codes with
    | c :: t =>
      let l := p.ledger + (if c = 1 then 1 else if c = 2 then -1 else 0)
      { p with ledger := clampI (-32767) 32767 l, wave := some { w with codes := t } }
    | [] => p
  | none => p

/-- The pixel at the end of a frame: a waveform without codes to come has ended. -/
def NbPix.ended (thresh : Nat) (balance : Bool) (p : NbPix) : NbPix :=
  match p.wave with
  | some w =>
    if w.codes = [] then
      let beyond := decide (thresh < p.ledger.natAbs)
      { p with level := w.tgt, wave := none, indet := false, due := if balance then beyond else p.due || beyond }
    else p
  | none => p

/-- Every running waveform advances by one frame, and those at their end finish. -/
def State.nbScan (s : State) : State :=
  let s := s.wr64 Reg.NB_FRAMES_LO Reg.NB_FRAMES_HI (s.rd64 Reg.NB_FRAMES_LO Reg.NB_FRAMES_HI + 1)
  let stepped := s.nb.pix.map (fun c => (c.1, c.2.frame))
  let full := stepped.filter (fun c => !c.2.sat && c.2.wave.isSome && c.2.ledger.natAbs == 32767)
  let changed (u : NbUpd) : Nat := (stepped.filter (fun c => match c.2.wave with
    | some w => w.upd == some u.no && w.codes == [] && w.tgt != c.2.level
    | none => false)).length
  let upds := s.nb.upds.map (fun u => { u with frames := u.frames + 1, changed := u.changed + changed u })
  let pix := stepped.map (fun c =>
    let p := if c.2.wave.isSome && c.2.ledger.natAbs == 32767 then { c.2 with sat := true } else c.2
    (c.1, p.ended s.nbThresh (s.nb.job == .balance)))
  let s := { s with nb := { s.nb with pix, upds, fi := s.nb.fi + 1, waveAt := s.frc } }
  full.foldl (fun (s : State) c => s.post Un.nb 0x1308 (c.1 / 1024 * 2 ^ 16 + c.1 % 1024) (toBits 32 c.2.ledger) 0) s

/-- The work on the whole panel that has come to its end. -/
def State.nbJobEnd (s : State) : State :=
  if s.nb.running then s
  else
    match s.nb.job with
    | .white =>
      let s := s.wr Reg.NB_STAT_CLEANED 1
      let s := if s.nb.recovery then s.nbShow.post Un.nb 0x1304 s.nb.indets (s.nbShow.rd Reg.NB_LEDGER_MAX) 0 else s
      let upds := match s.nb.upds with
        | u :: t => if s.nb.recovery || s.nb.lightWait || s.nb.cleanCmd then u :: t else { u with clean := false } :: t
        | [] => []
      { s with nb := { s.nb with
          job := .none, upds, stripDue := s.nbStrip, stripWhy := 3
          lightDraw := s.nb.lightDraw || (s.nb.lightWait && !s.nb.recovery)
          recovery := false
          lightWait := s.nb.recovery && s.nb.lightWait
          cleanCmd := (s.nb.recovery || s.nb.lightWait) && s.nb.cleanCmd } }
    | .refresh => { s with nb := { s.nb with job := .none } }
    | .balance => { s with nb := { s.nb with job := .none } }
    | _ => s

/-- The frontlight goes on once a clean and the strip redraw after it are complete (R470). -/
def State.nbLightOn (s : State) : State :=
  if s.nb.lightDraw && !s.nb.stripDue && !s.nb.running && s.nb.job == .none then
    let s := { s with nb := { s.nb with lightDraw := false } }
    if s.on Reg.NB_LIGHT_ON then s.wr Reg.NB_STAT_LIGHT 1 else s
  else s

/-- The running waveforms end before their time (R471): each pixel keeps its previous level, marked INDET. -/
def State.nbCut (s : State) (why : Nat) : State :=
  let n := (s.nb.pix.filter (fun c => c.2.wave.isSome)).length
  let pix := s.nb.pix.map (fun c => if c.2.wave.isSome then (c.1, { c.2 with wave := none, indet := true }) else c)
  let plane := pix.map (fun c => (c.1, { c.2 with pend := none }))
  let s := { s with nb := { s.nb with pix, mram := plane, job := .none } }
  let s := (s.bump Reg.NB_ABORT_COUNT).wr Reg.NB_ABORT_FI (min s.nb.fi 0xFFFF)
  s.post Un.nb 0x1303 s.nb.fi why (min n 0xFFFFFFFF)

/-- The rails are off. -/
def State.nbRailsOff (s : State) : State := s.wr Reg.NB_STAT_RAILS_UP 0

/-- Frames that the longest running waveform still has. -/
def Nb.longest (n : Nb) : Nat := n.pix.foldl (fun (m : Nat) c => max m ((c.2.wave.map (fun w => w.codes.length)).getD 0)) 0

/-- After the warning, the hold-up is shorter than the longest waveform plus 20 ms, or the warning was a short one
(R471, R480). -/
def State.nbMustAbort (s : State) : Bool :=
  s.on Reg.PWR_STAT_PF_WARN && s.nb.running &&
  (s.power.cause == 3 || decide (s.rd Reg.PWR_HOLDUP_TIME * s.nbHz < 1000 * s.nb.longest + 20 * s.nbHz))

/-- At a shutdown with every waveform at its end, what was taken completes (R471). -/
def State.nbShut (s : State) : State :=
  if s.on Reg.PWR_STAT_PF_WARN && !s.nb.running then s.nbCompletions true 8 else s

/-- The abort of R471: one frame at ground, the planes to MRAM, the rails down. -/
def State.nbAbort (s : State) : State :=
  let s := s.wr64 Reg.NB_FRAMES_LO Reg.NB_FRAMES_HI (s.rd64 Reg.NB_FRAMES_LO Reg.NB_FRAMES_HI + 1)
  ((s.nbCut 1).nbRailsOff).nbShut

/-- The frame period at its shortest: SCAN_HZ holds to 0.1 % (R468). -/
def State.nbPeriod (s : State) : Nat := 1000000000000 / (1001 * s.nbHz)

/-- The next frame boundary is reached (R468). -/
def State.nbBoundary (s : State) : State :=
  let t := max s.frc s.nb.frameAt
  { s with frc := t, nb := { s.nb with frameAt := t + s.nbPeriod } }

/-- NB_FRAME (R463): a frame boundary and the frame that follows it, with the temperature read at the boundary. -/
def execNbFrame (temp : BitVec 16) (s : State) : Answer :=
  if s.nbPanel ∧ s.on Reg.NB_STAT_RAILS_UP ∧ !s.nbFault then
    let s := s.nbBoundary
    let s := if s.nb.running then s.nbTemp temp else s
    if s.nbMustAbort then .next s.nbAbort.nbState.nbShow
    else
      let s := s.nbStart
      if s.nb.running then
        let s := s.nbScan.nbJobEnd.nbLightOn
        .next ((s.nbCompletions false 8).nbShut).nbState.nbShow
      else .next s.nbJobEnd.nbLightOn.nbState.nbShow
  else .next s

/-! ### Balance passes, cleans, refreshes -/

/-- NB_BALANCE_PASS (R466): with nothing running, by command, or 10 s after the last completion with CMDQ empty. -/
def execNbBalancePass (s : State) : Answer :=
  let empty := match s.nbCmdq with
    | some q => s.queWaiting q == 0
    | none => true
  let above := s.nb.recovery || s.nb.stripDue || s.nb.lightWait || s.nb.cleanCmd || s.on Reg.NB_STAT_REFRESH_DUE ||
    s.nb.job != .none || s.nb.running || s.nb.pending || s.on Reg.PWR_STAT_PF_WARN
  let due := s.on Reg.NB_STAT_BAL_DUE && s.nb.upds.isEmpty && empty
  if s.nbPanel && !s.nbFault && !above && (s.nb.balCmd || due) then
    let s := if s.nb.balCmd then s else { s with frc := max s.frc (s.nb.doneAt + 10000000000) }
    .next s.nbBalance.nbState.nbShow
  else .next s

/-- A write of NB_CMD (R516). -/
def State.nbCmdWrite (s : State) (v : Nat) : State :=
  let cmd := bits v 0 4
  if bits v 24 8 ≠ 0xA5 ∨ cmd < 1 ∨ 3 < cmd then s
  else
    let stat (why : Nat) : State := s.cmdStat Reg.NB_CMD_STAT_STATUS Reg.NB_CMD_STAT_REASON why
    if !s.nbPanel || s.nbFault then stat 1
    else if cmd = 1 then
      if s.nb.cleanCmd then stat 2
      else
        let s := stat 0
        { s with nb := { s.nb with cleanCmd := true } }
    else if cmd = 2 then if s.on Reg.NB_STAT_REFRESH_DUE then stat 2 else (stat 0).wr Reg.NB_STAT_REFRESH_DUE 1
    else if s.nb.balCmd then stat 2
    else
      let s := stat 0
      { s with nb := { s.nb with balCmd := true } }

/-- NB_CLEAN_CMD (R470). -/
def execNbCleanCmd (m : Master) (s : State) : Answer :=
  .next (s.access m .w32 true Reg.NB_CMD.addr (fun s => s.nbCmdWrite 0xA5000001))

/-- NB_REFRESH_CMD (R460). -/
def execNbRefreshCmd (m : Master) (s : State) : Answer :=
  .next (s.access m .w32 true Reg.NB_CMD.addr (fun s => s.nbCmdWrite 0xA5000002))

/-- NB_BALANCE_CMD (R466). -/
def execNbBalanceCmd (m : Master) (s : State) : Answer :=
  .next (s.access m .w32 true Reg.NB_CMD.addr (fun s => s.nbCmdWrite 0xA5000003))

/-! ### The frontlight (R470) -/

/-- A write of NB_LIGHT. -/
def State.nbLightWrite (s : State) (v : Nat) : State :=
  if bits v 24 8 ≠ 0xA5 then s
  else
    let s := s.wr Reg.NB_LIGHT_LEVEL (bits v 0 8)
    if !(s.nbPanel && s.nbFlag 0) then s
    else if bitAt v 8 then
      let s := s.wr Reg.NB_LIGHT_ON 1
      if s.on Reg.NB_STAT_CLEANED && !s.nb.lightDraw then s.wr Reg.NB_STAT_LIGHT 1
      else if s.nb.lightWait || s.nb.lightDraw then s
      else { s with nb := { s.nb with lightWait := true } }
    else (s.wr Reg.NB_LIGHT_ON 0).wr Reg.NB_STAT_LIGHT 0

/-- NB_LIGHT_WRITE (R470). -/
def execNbLightWrite (m : Master) (value : Word) (s : State) : Answer :=
  .next (s.access m .w32 true Reg.NB_LIGHT.addr (fun s => s.nbLightWrite value.toNat))

/-! ### Rails (R468, R469) -/

/-- What needs the rails: a waveform that runs, and but for a shutdown what is pending or due. -/
def State.nbWork (s : State) : Bool :=
  s.nb.running || (!s.on Reg.PWR_STAT_PF_WARN && (s.nb.job != .none || s.nb.recovery || (s.nb.stripDue && s.nbStrip) ||
    (s.nb.boxDue && s.key.isSome) || s.nb.lightWait || s.nb.cleanCmd || s.nb.balCmd || s.on Reg.NB_STAT_REFRESH_DUE ||
    s.nb.upds.any (fun u => u.clean) || s.nb.pix.any (fun c => c.2.pend.isSome && !s.nbBoxRow c.1)))

/-- NB_IDLE_SCAN (R468): 1/IDLE_HZ after the last, held to 1 %: the rails rise, one hold frame, the health check with the rails and the current (mA) that it
finds wrong, the temperature; the rails fall. -/
def execNbIdleScan (temp : BitVec 16) (bad : Option (BitVec 5 × Nat)) (s : State) : Answer :=
  if s.nbPanel ∧ !s.nbFault ∧ !s.nb.running ∧ !s.on Reg.NB_STAT_RAILS_UP ∧ !s.on Reg.PWR_STAT_PF_WARN then
    let s := s.wake .noticeboard
    let t := max s.frc (s.nb.idleAt + 990000000 / le s.nbRec 3 1)
    let s := { s with frc := t, nb := { s.nb with idleAt := t, faultRun := 0 } }
    let s := s.wr64 Reg.NB_FRAMES_LO Reg.NB_FRAMES_HI (s.rd64 Reg.NB_FRAMES_LO Reg.NB_FRAMES_HI + 1)
    let s := match bad with
      | some (rails, mA) => s.post Un.nb 0x1307 rails.toNat mA 0
      | none => s
    .next (s.nbTemp temp).nbState
  else .next s

/-- NB_RAIL_RISE (R468): the rails start, for work that needs them, and every rail is good: the five in order take at
least 4 ms, and the first frame begins at least 2 ms later. -/
def execNbRailRise (s : State) : Answer :=
  if s.nbPanel ∧ !s.nbFault ∧ !s.on Reg.NB_STAT_RAILS_UP ∧ s.nbWork then
    let t := s.frc + 4000000
    let s := (s.wake .noticeboard).wr Reg.NB_STAT_RAILS_UP 1
    .next { s with frc := t, nb := { s.nb with frameAt := t + 2000000 } }
  else .next s

/-- NB_RAIL_FAULT (R468): rails that did not become good or left their band. The updates of the waveforms that end
complete with RAIL; a pending target of such an update is dropped. -/
def execNbRailFault (rails : BitVec 5) (s : State) : Answer :=
  if s.nbPanel ∧ !s.nbFault then
    let ended := (s.nb.pix.filter (fun c => c.2.wave.isSome)).length
    let hit := (s.nb.pix.filterMap (fun c => c.2.wave.bind (fun w => w.upd))).eraseDups
    let clean := (s.nb.job == .black || s.nb.job == .white) && !(s.nb.recovery || s.nb.lightWait || s.nb.cleanCmd)
    let upds := s.nb.upds.map (fun u =>
      if u.refused.isNone && (hit.contains u.no || (u.clean && clean)) then { u with refused := some (Sta.busError, 5), clean := false }
      else u)
    let pix := s.nb.pix.map (fun c => match c.2.pend with
      | some e => if (match e.upd with | some n => hit.contains n | none => false) then (c.1, { c.2 with pend := none }) else c
      | none => c)
    let s : State := { s with nb := { s.nb with upds, pix, faultRun := s.nb.faultRun + 1, recovery := true } }
    let s := (s.bump Reg.NB_RAIL_FAULTS).wr Reg.NB_RAIL_FAILED rails.toNat
    let s := s.post Un.nb 0x1302 rails.toNat s.nb.faultRun ended
    let s := if ended = 0 then s else s.nbCut 2
    let s := s.nbRailsOff
    let s := if 3 ≤ s.nb.faultRun then s.wr Reg.NB_STAT_STATE 4 else s.nbState
    .next ((s.nbCompletions false 8).nbShut).nbShow
  else .next s

/-- A quiescent commit may be made: nothing runs, and no level is in doubt, after an abort (R471) or before a recovery
clean (R472). -/
def State.nbMayCommit (s : State) : Bool :=
  s.nbPanel && !s.nb.running && !s.nb.pix.any (fun c => c.2.indet) && (!s.nb.recovery || s.nb.job != .none)

/-- NB_RAILS_DOWN (R468, R471): 100 ms after the last waveform ended, with none running or pending and the quiescent commit
made, where one is to be made; at a shutdown at once. -/
def execNbRailsDown (s : State) : Answer :=
  let warn := s.on Reg.PWR_STAT_PF_WARN
  let idle := (!s.on Reg.NB_STAT_DIRTY || !s.nbMayCommit) && (warn || s.nb.job == .none)
  if s.on Reg.NB_STAT_RAILS_UP ∧ !s.nb.running ∧ !s.nb.pending ∧ idle then
    let s := if warn then s else { s with frc := max s.frc (s.nb.waveAt + 100000000) }
    let s := s.nbRailsOff
    .next ({ s with nb := { s.nb with faultRun := 0 } } : State).nbState
  else .next s

/-- NB_QUIESCENT_COMMIT (R469): with nothing running, the planes are written and DIRTY clears. -/
def execNbQuiescentCommit (s : State) : Answer :=
  if s.power.running ∧ s.on Reg.NB_STAT_DIRTY ∧ s.nbMayCommit then
    let plane := s.nb.pix.map (fun c => (c.1, { c.2 with pend := none }))
    .next (({ s with nb := { s.nb with mram := plane, fi := 0 } } : State).wr Reg.NB_STAT_DIRTY 0)
  else .next s

/-! ### What other units' commands do to the engine -/

/-- At the power-fail warning (R471): pending targets and what is due are dropped. -/
def State.nbPowerFail (s : State) : State :=
  let hit := (s.nb.pix.filterMap (fun c => c.2.pend.bind (fun e => e.upd))).eraseDups
  let upds := s.nb.upds.map (fun u => if hit.contains u.no || u.clean then { u with cut := true } else u)
  let pix := s.nb.pix.map (fun c => if c.2.pend.isSome then (c.1, { c.2 with pend := none }) else c)
  let s := { s with nb := { s.nb with
    upds, pix, stripDue := false, lightWait := false, lightDraw := false, cleanCmd := false, balCmd := false, boxDue := false } }
  s.nbShut

/-- At reset release (R472): the planes come from MRAM, and DIRTY asks for a recovery clean. -/
def State.nbRelease (s : State) : State :=
  ({ s with nb := { pix := s.nb.mram, mram := s.nb.mram, blocks := s.nb.blocks, recovery := s.on Reg.NB_STAT_DIRTY
                    fresh := s.nb.fresh } } : State).nbShow

/-- At lock (R467, R472): the strip is redrawn; the first time after main power-on its cause tells whether it showed
another identity or first-out. -/
def State.nbLock (s : State) : State :=
  if !s.nbPanel then s
  else
    let differs := (rectKeys 0 0 s.nbW 48).any (fun k => (s.nb.at_ k).level != s.nbStripLevel k)
    let why := if s.nb.fresh && !s.on Reg.NB_STAT_DIRTY && differs then 4 else 1
    ({ s with nb := { s.nb with stripDue := s.nbStrip, stripWhy := why, fresh := false } } : State).nbState

end Sys2Proof.Machine
end

