-- ==== Sys2Proof/Machine/PlanCheck.lean ====
section
/-!
DEFINITION. What the Floor Plan loader checks (R44 to R57): the section walk, and steps 9 to 13 of R54 with the field
limits and the consistency rules of the owning chapters.
-/
namespace Sys2Proof.Machine

/-! ### REASON values (R54) -/

def fplShort : Nat := 0x01
def fplMagic : Nat := 0x02
def fplTotalLength : Nat := 0x03
def fplVersion : Nat := 0x04
def fplHeader : Nat := 0x05
def fplKey : Nat := 0x06
def fplSignature : Nat := 0x07
def fplOverrun : Nat := 0x08
def fplCount : Nat := 0x09
def fplUnknownCritical : Nat := 0x0A
def fplKindNotAllowed : Nat := 0x0B
def fplInstance : Nat := 0x0C
def fplDuplicate : Nat := 0x0D
def fplSectionSize : Nat := 0x0E
def fplMissing : Nat := 0x0F
def fplCapability : Nat := 0x10
def fplContent : Nat := 0x11
def fplConsistency : Nat := 0x12
def fplBase : Nat := 0x13
def fplSafety : Nat := 0x14
def fplSource : Nat := 0x15
def fplSourceChanged : Nat := 0x16
def fplSlotInUse : Nat := 0x17
def fplBusyChange : Nat := 0x18
def fplNotLocked : Nat := 0x19
def fplEmptySlot : Nat := 0x1A

/-! ### Section kinds (R48, R56) -/

/-- The bytes of a span are all 0. -/
def zeros (b : List Byte) (off n : Nat) : Bool := (slice b off n).all (fun x => x == 0)

/-- A value within two bounds. -/
def within (lo hi v : Nat) : Bool := decide (lo ≤ v) && decide (v ≤ hi)

/-- A structure section. -/
def secIsS (t : Nat) : Bool :=
  [0x8001, 0x8010, 0x8011, 0x8020, 0x8021, 0x8022, 0x8023, 0x8030, 0x8031, 0x8040, 0x8050, 0x8060, 0x8070].contains t
/-- A soft section. -/
def secIsW (t : Nat) : Bool := within 0x8080 0x8083 t
def secKnown (t : Nat) : Bool := secIsS t || secIsW t || t == 0x8002 || t == 1
/-- The kind belongs in the image's KIND. -/
def secAllowed (kind t : Nat) : Bool := if kind = 2 then secIsW t || t == 0x8002 || t == 1 else t != 0x8002
/-- The greatest INSTANCE; ANNOTATION takes any. -/
def secMaxInst (t : Nat) : Nat :=
  if t = 0x8010 ∨ t = 0x8022 ∨ t = 0x8040 then 7 else if t = 0x8023 then 63 else if t = 0x8082 then 11
  else if t = 1 then 0xFFFF else 0

/-- An array head, its reserved bytes and the length it gives (R49, R50). -/
def arrayOk (b : List Byte) (size lo hi base : Nat) : Bool :=
  decide (8 ≤ b.length) && within lo hi (le b 0 2) && le b 2 2 == size && zeros b 4 4 && b.length == base + le b 0 2 * size

/-- Item 8 of the walk (R48 to R50, R53). -/
def secSizeOk (t : Nat) (b : List Byte) : Bool :=
  match t with
  | 0x8001 => b.length == 64
  | 0x8002 => b.length == 32
  | 0x8010 => b.length == 136
  | 0x8011 => arrayOk b 16 1 64 8
  | 0x8020 => arrayOk b 32 1 16 8
  | 0x8021 => arrayOk b 32 0 512 8
  | 0x8022 => b.length == 64
  | 0x8023 => b.length == 1032
  | 0x8030 => b.length == 512
  | 0x8031 => b.length == 512
  | 0x8040 => b.length == 8208
  | 0x8050 => b.length == 32
  | 0x8060 => b.length == 32
  | 0x8070 => within 144 1048576 b.length && le b 8 4 == b.length - 80 && zeros b 3 5 && zeros b 0xC 4
  | 0x8080 => arrayOk b 4 0 4096 264
  | 0x8081 => b.length == 128
  | 0x8082 => b.length == 16392
  | 0x8083 => arrayOk b 32 0 512 8
  | 1 => decide (b.length ≤ 65536)
  | _ => false

/-! ### The section walk (R55) -/

/-- What the walk has found: sections with their offsets, unknown ones skipped, and its failure; `ran` where there has
been a walk. -/
structure FplWalk where
  ran     : Bool := false
  secs    : List (Nat × Section) := []
  skipped : Nat := 0
  fail    : Option FplFail := none
  deriving DecidableEq, Repr

/-- The first of items 4 to 8 that a known section fails, 0 where none. -/
def secCheck (kind : Nat) (done : List (Nat × Section)) (x : Section) : Nat :=
  if !secAllowed kind x.kind then fplKindNotAllowed
  else if secMaxInst x.kind < x.inst then fplInstance
  else if x.kind ≠ 1 ∧ done.any (fun d => d.2.kind == x.kind && d.2.inst == x.inst) then fplDuplicate
  else if !secSizeOk x.kind x.body then fplSectionSize
  else 0

/-- The walk from offset `o`, `seen` headers visited so far; at most `fuel` headers. -/
def fplWalk (img : List Byte) (kind count s : Nat) : Nat → Nat → Nat → FplWalk → FplWalk
  | 0, _, _, w => w
  | fuel + 1, o, seen, w =>
    let t := le img o 2
    let inst := le img (o + 2) 2
    let len := le img (o + 4) 4
    let bad (why : Nat) : FplWalk := { w with fail := some { reason := why, off := o, type := t + inst * 2 ^ 16 } }
    if s ≤ o then
      if seen < count then { w with fail := some { reason := fplCount } } else w
    else if s < o + 8 then { w with fail := some { reason := fplOverrun, off := o } }
    else if count < seen + 1 then bad fplCount
    else if s - (o + 8) < len then bad fplOverrun
    else
      let next := (o + 8 + len + 7) / 8 * 8
      if !secKnown t then
        if bitAt t 15 then bad fplUnknownCritical
        else fplWalk img kind count s fuel next (seen + 1) { w with skipped := w.skipped + 1 }
      else
        let x : Section := { kind := t, inst, body := slice img (o + 8) len }
        let why := secCheck kind w.secs x
        if why ≠ 0 then bad why
        else fplWalk img kind count s fuel next (seen + 1) { w with secs := w.secs ++ [(o, x)] }

/-! ### Step 9: mandatory sections (R48, R56) -/

def hasSec (l : List (Nat × Section)) (t i : Nat) : Bool := l.any (fun d => d.2.kind == t && d.2.inst == i)

def State.mandatoryOk (s : State) (kind : Nat) (l : List (Nat × Section)) : Bool :=
  if kind = 2 then hasSec l 0x8002 0 && l.any (fun d => secIsW d.2.kind)
  else
    [0x8001, 0x8011, 0x8020, 0x8030, 0x8031, 0x8050, 0x8070, 0x8080, 0x8081].all (fun t => hasSec l t 0) &&
    (List.range (s.cap Reg.SYS_CAPS_ISLANDS)).all (fun k => hasSec l 0x8010 k) &&
    (!s.capOn Reg.SYS_CAPS_ANX || hasSec l 0x8060 0) &&
    (!s.capOn Reg.SYS_CAPS_NB || (List.range 12).all (fun b => hasSec l 0x8082 b))

/-! ### Step 10: capability (R6, R109, R122, R394, R403) -/

/-- The unit of a master identity is absent. -/
def State.masterAbsent (s : State) (id : Nat) : Bool :=
  (id == 0x0A && !s.capOn Reg.SYS_CAPS_SLV) || (id == 0x18 && !s.capOn Reg.SYS_CAPS_ANX) || (id == 0x28 && !s.capOn Reg.SYS_CAPS_NB)

/-- A selector that names an island channel, island or axis above the fitted count. -/
def State.selAbove (s : State) (sel : Nat) : Bool :=
  let i := selIdx sel
  match selKind sel with
  | 1 => decide (8 * s.cap Reg.SYS_CAPS_ISLANDS ≤ i) && decide (i < 64)
  | 2 => decide (s.cap Reg.SYS_CAPS_ISLANDS ≤ i) && decide (i < 8)
  | 3 | 4 | 5 | 6 => decide (s.cap Reg.SYS_CAPS_AXES ≤ i) && decide (i < 8)
  | _ => false

/-- The records of an array section. -/
def arrayRecs (b : List Byte) (size : Nat) : List (List Byte) := (List.range (le b 0 2)).map (fun n => arrayRec b size n)

/-- The records of a section without an array head. -/
def plainRecs (b : List Byte) (size n : Nat) : List (List Byte) := (List.range n).map (fun j => slice b (size * j) size)

def recUsed (r : List Byte) : Bool := r.any (fun x => x != 0)

/-- Offsets of a loop record's selectors, with the kinds that each accepts (R109). -/
def loopSels : List (Nat × List Nat) :=
  [(0x08, [1, 3, 4]), (0x0A, [0, 1, 6]), (0x0C, [7, 8]), (0x0E, [0, 1, 2]), (0x10, [0, 5, 8]), (0x12, [0, 1, 3])]

def State.capsOk (s : State) (x : Section) : Bool :=
  match x.kind with
  | 0x8010 => decide (x.inst < s.cap Reg.SYS_CAPS_ISLANDS)
  | 0x8022 => decide (x.inst < s.cap Reg.SYS_CAPS_AXES)
  | 0x8040 => decide (x.inst < s.cap Reg.SYS_CAPS_CAN_CH)
  | 0x8023 => s.capOn Reg.SYS_CAPS_FFTAB
  | 0x8060 => s.capOn Reg.SYS_CAPS_ANX
  | 0x8082 => s.capOn Reg.SYS_CAPS_NB
  | 0x8011 => (arrayRecs x.body 16).all (fun r =>
      !(le r 0 1 == 2 && decide (s.cap Reg.SYS_CAPS_CAN_CH ≤ le r 1 1) && decide (le r 1 1 < 8)) &&
      !(le r 0 1 == 6 && !s.capOn Reg.SYS_CAPS_NB))
  | 0x8021 => (arrayRecs x.body 32).all (fun r =>
      (s.capOn Reg.SYS_CAPS_FFTAB || (le r 0x14 1 == 0xFF && le r 0x15 1 == 0xFF)) &&
      loopSels.all (fun f => !s.selAbove (le r f.1 2)))
  | 0x8030 => (plainRecs x.body 16 32).all (fun r =>
      !recUsed r || (!s.masterAbsent (le r 0 1) && !s.masterAbsent (le r 1 1)))
  | 0x8031 => (plainRecs x.body 8 64).all (fun r =>
      !recUsed r || (!s.masterAbsent (le r 0 1) && !s.masterAbsent (le r 1 1)))
  | _ => true

/-! ### Step 11: field limits -/

/-- IDENTITY (R51). DESIGN CHOICE (log 183): the bytes of NAME are not checked to be UTF-8. -/
def identityOk (b : List Byte) : Bool := within 1 0xFFFFFFFE (le b 0 4) && decide (le b 4 1 ≤ 1) && zeros b 5 3

/-- An offset of an entry or block: a multiple of 8, or 0xFFFF for none. -/
def offOk (v : Nat) : Bool := v == 0xFFFF || v % 8 == 0

/-- A channel record of ISLAND (R298, R299, R315). -/
def chanOk (r : List Byte) : Bool :=
  let p := le r 0 1
  let flags := le r 6 1
  let filter := le r 7 1
  let fail := le r 8 4
  let safe := le r 0xC 4
  let cur := bits fail 0 25
  let di := p == 1 || p == 2
  decide (p ≤ 9) && offOk (le r 2 2) && offOk (le r 4 2) && decide (flags ≤ (if di then 1 else 0)) &&
  (if di then decide (filter ≤ 200) else if p = 7 then filter != 1 else filter == 0) &&
  (if p = 3 then decide (fail ≤ 2)
   else if p = 9 then fail == 0
   else if p = 4 then decide (bits fail 0 16 ≤ 10000) && fail / 2 ^ 18 == 0 && safe == 0
   else if p = 5 ∨ p = 6 then
     decide (bits fail 28 4 ≤ 2) && decide (cur ≤ 24000000) && !(p == 6 && bits fail 28 4 == 2 && decide (cur < 3600000)) &&
     decide (aoLo p ≤ (safe : Int)) && decide (safe ≤ 24000000)
   else fail == 0 && safe == 0)

/-- ISLAND (R298). -/
def islandOk (x : Section) : Bool :=
  let b := x.body
  le b 0 1 == x.inst && decide (le b 1 1 ≤ 3) && !(bitAt (le b 1 1) 0 && decide (1 < x.inst)) && zeros b 2 6 &&
  (List.range 8).all (fun c => chanOk (slice b (8 + 16 * c) 16))

/-- An Ethernet port record (R357). -/
def ethRecOk (r : List Byte) : Bool :=
  let i := le r 1 1
  let f := le r 3 1
  decide (i ≤ 5) && decide (le r 2 1 ≤ 1) && decide (f < 32) && !(decide (3 < i) && f % 16 != 0) &&
  !(i == 5 && le r 5 1 != 0xFF) && (if bitAt f 0 then bitAt (le r 8 1) 0 else zeros r 8 6) && !bitAt (le r 0xE 2) 12

/-- A CAN FD channel record (R336, R337). -/
def canRecOk (r : List Byte) : Bool :=
  let f := le r 3 1
  let n := le r 4 2
  let d := le r 6 2
  decide (le r 1 1 ≤ 7) && decide (le r 2 1 ≤ 2) && decide (f < 16) && !(bitAt f 1 && !bitAt f 0) && within 125 1000 n &&
  (if bitAt f 1 then within 500 8000 d && decide (n ≤ d) && (canPrescale d 8 5 49).isSome else d == 0) &&
  (canPrescale n 32 8 256).isSome && within 50 90 (le r 8 1) && within 50 90 (le r 9 1) && decide (le r 0xE 1 ≤ 4) &&
  decide (le r 0xF 1 < 4)

/-- A NAV group record (R363). -/
def navRecOk (all : List (List Byte)) (r : List Byte) : Bool :=
  decide (le r 1 1 ≤ 7) && zeros r 2 2 && within 224 239 (le r 4 1) && le r 8 2 != 0 && zeros r 0xA 2 &&
  within 1 223 (le r 0xC 1) && (all.filter (fun q => le q 0 1 == 3 && le q 1 1 == le r 1 1)).length == 1

/-- A serial port record (R378). -/
def serRecOk (r : List Byte) : Bool :=
  let mode := le r 2 1
  let fmt := le r 8 1
  decide (le r 1 1 ≤ 7) && decide (mode ≤ 3) && decide (le r 3 1 < 16) && within 300 10000000 (le r 4 4) &&
  decide (fmt < 16) && decide (bits fmt 1 2 ≤ 2) && !(mode == 2 && fmt != 0) &&
  (if mode = 1 then decide (1 ≤ le r 9 1) else le r 9 1 == 0) && (bitAt (le r 3 1) 3 || le r 0xB 1 == 0xFF) &&
  within 1 464 (le r 0xC 2) && zeros r 0xE 2

/-- A Stairway link record (R384). -/
def rioRecOk (r : List Byte) : Bool :=
  let n := le r 5 1
  let i := le r 6 1
  let o := le r 7 1
  decide (le r 1 1 ≤ 7) && decide (le r 2 1 ≤ 1) && within 1 15 (le r 3 1) && within 1 32 n &&
  decide (i ≤ 64) && i % 8 == 0 && decide (o ≤ 64) && o % 8 == 0 && within 10 2000 (le r 8 2) &&
  le r 0xA 2 % 8 == 0 && le r 0xC 2 % 8 == 0 && decide (le r 0xE 2 ≤ 10000) &&
  decide (16 + n * (4 + i) ≤ 1500) && decide (16 + n * (4 + o) ≤ 1500)

/-- A panel record (R456). -/
def panelRecOk (r : List Byte) : Bool :=
  let h := le r 6 2
  le r 1 1 == 0 && decide (le r 2 1 < 4) && within 1 10 (le r 3 1) && within 16 800 (le r 4 2) && le r 4 2 % 16 == 0 &&
  within (if bitAt (le r 2 1) 1 then 96 else 48) 600 h && decide (-3500 ≤ les r 8 2) && decide (les r 8 2 ≤ -1500) &&
  within 16 16384 (le r 0xA 2) && within 50 85 (le r 0xC 1) && zeros r 0xE 2

/-- PORTS. -/
def portsOk (b : List Byte) : Bool :=
  let all := arrayRecs b 16
  all.all (fun r => match le r 0 1 with
    | 1 => ethRecOk r
    | 2 => canRecOk r
    | 3 => navRecOk all r
    | 4 => serRecOk r
    | 5 => rioRecOk r
    | 6 => panelRecOk r
    | _ => false)

/-- A task record (R76). -/
def taskRecOk (r : List Byte) : Bool :=
  let p := le r 4 4
  let m := le r 0xC 2
  decide (le r 0 1 ≤ 15) && decide (le r 1 1 ≤ 15) && decide (le r 2 1 ≤ 3) && within 1 15 (le r 3 1) && within 1 40000 p &&
  decide (le r 8 4 < p) && decide ((if bitAt (le r 0xE 1) 0 then 40 else 20) ≤ m) && decide (2 * m ≤ 250 * p) &&
  decide (le r 0xE 1 ≤ 1) && zeros r 0xF 1 && decide (le r 0x10 2 ≤ 8192) && le r 0x10 2 % 8 == 0 &&
  decide (le r 0x12 2 ≤ 8192) && le r 0x12 2 % 8 == 0 && within 4096 0x4000000 (le r 0x14 4) && zeros r 0x18 8

/-- A selector of an accepted kind with an index in its range (R109). -/
def selOk (kinds : List Nat) (sel : Nat) : Bool :=
  kinds.contains (selKind sel) && decide (selIdx sel ≤ (match selKind sel with
    | 1 => 63
    | 2 | 3 | 4 | 5 | 6 => 7
    | 7 => 511
    | _ => 0))

def tblOk (v : Nat) : Bool := decide (v ≤ 63) || v == 0xFF

/-- A loop record (R108, R109). -/
def loopRecOk (r : List Byte) : Bool :=
  decide (le r 0 2 ≤ 511) && decide (le r 3 1 ≤ 3) && within 1 20000 (le r 4 2) && decide (le r 6 2 < le r 4 2) &&
  loopSels.all (fun f => selOk f.2 (le r f.1 2)) && tblOk (le r 0x14 1) && tblOk (le r 0x15 1) &&
  le r 0x16 2 % 8 == 0 && offOk (le r 0x18 2) && zeros r 0x1A 2

/-- AXIS (R163). -/
def axisOk (x : Section) : Bool :=
  let b := x.body
  let lo := les b 0x18 8
  let hi := les b 0x20 8
  le b 0 1 == x.inst && decide (le b 2 1 ≤ 7) && decide (le b 3 1 ≤ 2) && le b 4 2 % 8 == 0 && offOk (le b 6 2) &&
  decide (le b 8 2 ≤ 60000) && decide (le b 0xA 2 ≤ 10000) && within 4 200 (le b 0xC 1) && within 1 200 (le b 0xD 1) &&
  decide (1 ≤ le b 0xE 1) && zeros b 0xF 1 && within 1 0x7FFFFFFF (le b 0x14 4) &&
  decide (-(2 ^ 47 - 1) ≤ lo) && decide (lo < hi) && decide (hi ≤ 2 ^ 47 - 1) && within 1 4000000 (le b 0x28 4) &&
  decide (1 ≤ le b 0x2C 4) && decide (1 ≤ le b 0x30 4) && zeros b 0x34 12 &&
  decide (le b 0x28 4 * le b 0xC 1 * 50 ≤ 1000000000)

/-- FFTABLE (R121). -/
def tableOk (b : List Byte) : Bool := decide (le b 0 1 ≤ 3) && decide (le b 1 1 ≤ 24) && zeros b 2 2

/-- A Pigeonhole record (R393). -/
def pgnRecOk (r : List Byte) : Bool :=
  !recUsed r || (within 1 16 (le r 2 1) && zeros r 3 1 && within 1 60000 (le r 4 2) && zeros r 6 10)

/-- A queue record (R403). -/
def queRecOk (r : List Byte) : Bool :=
  !recUsed r || (within 5 11 (le r 2 1) && within 2 12 (le r 3 1) && decide (le r 4 1 ≤ 1) && zeros r 5 3)

/-- The used windows of a basic cycle follow each other and end in it (R349). -/
def windowsOk (cycle : Nat) : Nat → List (List Byte) → Bool
  | _, [] => true
  | from_, w :: t =>
    let fin := le w 0 4 + 1000 * le w 4 2
    if le w 6 1 = 0 then le w 7 1 == 0 && windowsOk cycle from_ t
    else decide (le w 6 1 ≤ 2) && decide (1 ≤ le w 4 2) && decide (from_ ≤ le w 0 4) && decide (fin ≤ cycle) &&
      windowsOk cycle fin t

/-- CANSCHED (R349). -/
def schedOk (b : List Byte) : Bool :=
  let cyc := le b 0 4
  let n := le b 4 1
  within 250000 1000000000 cyc && cyc % 1000 == 0 && within 1 16 n && zeros b 6 2 && decide (le b 8 4 < cyc * n) &&
  zeros b 0xC 4 && (List.range 16).all (fun c =>
    let ws := plainRecs (slice b (16 + 512 * c) 512) 8 64
    if c < n then windowsOk cyc 0 ws else ws.all (fun w => le w 6 1 == 0 && le w 7 1 == 0))

/-- TIMECLASS (R366). -/
def timeOk (b : List Byte) : Bool :=
  decide (le b 0 1 ≤ 127) && decide (le b 1 1 ≤ 127) && decide (le b 2 1 ≤ 3) && decide (le b 3 1 ≤ 1) &&
  decide (le b 4 1 ≤ 1) && decide (le b 5 1 ≤ 2) && within 1 50000 (le b 6 2) && decide (le b 8 1 ≤ 2) &&
  decide (le b 9 1 ≤ 1) && within 1 600 (le b 0xA 2) && within 1 60000000 (le b 0xC 4) &&
  decide (-100000 ≤ les b 0x10 4) && decide (les b 0x10 4 ≤ 100000) && within 100 1000000 (le b 0x14 4) &&
  within 100 10000 (le b 0x18 2) && zeros b 0x1A 6

/-- A code that GBRATE may map (R39, R417). -/
def gbMapCode (c : Nat) : Bool :=
  within 0x01 0x14 (c / 256) && c % 256 != 0 && !within 0x0101 0x0103 c && c != 0x0911 && !within 0x1001 0x1004 c

/-- Mappings in strictly ascending CODE, each within its limits. -/
def gbMapsOk : Nat → List (List Byte) → Bool
  | _, [] => true
  | p, m :: t => decide (p < le m 0 2) && gbMapCode (le m 0 2) && decide (le m 2 1 ≤ 29) && within 1 5 (le m 3 1) &&
      gbMapsOk (le m 0 2) t

/-- GBRATE (R50, R417). -/
def gbrateOk (b : List Byte) : Bool :=
  (List.range 32).all (fun c =>
    let r := slice b (8 + 8 * c) 8
    if c < 30 then decide (1 ≤ le r 0 2) && zeros r 2 2 && within 1 3600000 (le r 4 4) else !recUsed r) &&
  gbMapsOk 0 (plainRecs (b.drop 264) 4 (le b 0 2))

/-- RNDBUDGET (R426). -/
def budgetOk (b : List Byte) : Bool :=
  let rs := plainRecs b 8 16
  rs.all (fun r =>
    let t := le r 0 1
    (decide (t ≤ 15) || t == 0xFF) && zeros r 1 1 && (le r 2 2 == 0 || within 10 200 (le r 2 2)) && zeros r 4 4 &&
    (t == 0xFF || (rs.filter (fun q => le q 0 1 == t)).length == 1))

/-- The code of frame `f` of a transition record (R458). -/
def waveCode (r : List Byte) (f : Nat) : Nat := bits (le r (4 + f / 4) 1) (2 * (f % 4)) 2

/-- A transition record from level p to level q (R458). -/
def waveOk (p q : Nat) (r : List Byte) : Bool :=
  let n := le r 0 1
  let codes := (List.range (min n 240)).map (fun f => waveCode r f)
  decide (n ≤ 240) && zeros r 2 2 && (List.range 240).all (fun f => decide (f < n) || waveCode r f == 0) &&
  (if n = 0 then p == q && le r 1 1 == 0 else within 1 n (le r 1 1)) && !codes.contains 3 &&
  codes.count 1 == codes.count 2

/-- NBWAVE (R458). -/
def bandOk (x : Section) : Bool :=
  let b := x.body
  le b 0 1 == x.inst && zeros b 1 1 && decide (les b 2 2 < les b 4 2) && zeros b 6 2 &&
  (List.range 256).all (fun j => waveOk (j / 16) (j % 16) (slice b (8 + 64 * j) 64))

/-- A LOOPDEF record (R124). -/
def loopDefOk (r : List Byte) : Bool :=
  zeros r 2 2 && decide (les r 0x18 4 ≤ les r 0x1C 4) && bits (le r 0x14 4) 20 5 != 31

/-- Every field of a section within its range, but for the offsets that `blocksFit` checks. -/
def contentOk (x : Section) : Bool :=
  let b := x.body
  match x.kind with
  | 0x8001 => identityOk b
  | 0x8010 => islandOk x
  | 0x8011 => portsOk b
  | 0x8020 => (arrayRecs b 32).all taskRecOk
  | 0x8021 => (arrayRecs b 32).all loopRecOk
  | 0x8022 => axisOk x
  | 0x8023 => tableOk b
  | 0x8030 => (plainRecs b 16 32).all pgnRecOk
  | 0x8031 => (plainRecs b 8 64).all queRecOk
  | 0x8040 => schedOk b
  | 0x8050 => timeOk b
  | 0x8080 => gbrateOk b
  | 0x8081 => budgetOk b
  | 0x8082 => bandOk x
  | 0x8083 => (arrayRecs b 32).all loopDefOk
  | _ => true

/-! ### Step 12: consistency. The state's plan holds the sections that would be in force. -/

/-- A block of an image: kind and instance of the section that gives it, task, output or input, offset, length. -/
structure PlanBlock where
  kind : Nat
  inst : Nat
  task : Nat
  out  : Bool
  off  : Nat
  len  : Nat
  deriving DecidableEq, Repr

def State.islBlocks (s : State) (k : Nat) : List PlanBlock :=
  (List.range 8).flatMap (fun c =>
    let b (out : Bool) (off : Nat) : List PlanBlock :=
      if s.chPers k c = 0 ∨ off = 0xFFFF then [] else [⟨0x8010, k, s.chTask k c, out, off, 8⟩]
    b false (s.chIn k c) ++ b true (s.chOut k c))

def loopBlocks (r : List Byte) : List PlanBlock :=
  [⟨0x8021, 0, le r 2 1, true, le r 0x16 2, 16⟩] ++
  (if le r 0x18 2 = 0xFFFF then [] else [⟨0x8021, 0, le r 2 1, false, le r 0x18 2, 16⟩])

def State.axBlocks (s : State) (a : Nat) : List PlanBlock :=
  if !s.axOn a then []
  else [⟨0x8022, a, s.axTask a, true, s.axCmdOff a, 32⟩] ++
    (if s.axStatOff a = 0xFFFF then [] else [⟨0x8022, a, s.axTask a, false, s.axStatOff a, 32⟩])

def rioBlocks (r : List Byte) : List PlanBlock :=
  let n := le r 5 1
  [⟨0x8011, 0, le r 4 1, false, le r 0xA 2, n * (8 + le r 6 1)⟩, ⟨0x8011, 0, le r 4 1, true, le r 0xC 2, n * le r 7 1⟩]

/-- Every block of the task images. -/
def State.planBlocks (s : State) : List PlanBlock :=
  (List.range 8).flatMap (fun k => s.islBlocks k) ++
  (arrayRecs (s.plan 0x8021 0) 32).flatMap loopBlocks ++
  (List.range 8).flatMap (fun a => s.axBlocks a) ++
  ((arrayRecs (s.plan 0x8011 0) 16).filter (fun r => le r 0 1 == 5)).flatMap (fun r => rioBlocks r)

def PlanBlock.overlaps (a b : PlanBlock) : Bool :=
  a.task == b.task && a.out == b.out && decide (a.off < b.off + b.len) && decide (b.off < a.off + a.len)

/-- A block ends in its task's image. -/
def State.blockFits (s : State) (b : PlanBlock) : Bool :=
  decide (b.off + b.len ≤ (if b.out then s.taskOut b.task else s.taskIn b.task))

/-- The limits of step 11 that TASKS sets: an island's, a loop's or an axis's offsets in the images of a task that TASKS
defines (R108, R163, R298), and the task of an axis (R163). -/
def State.blocksFit (s : State) (x : Section) : Bool :=
  !List.contains [0x8010, 0x8021, 0x8022] x.kind ||
  (s.planBlocks.all (fun b => !(b.kind == x.kind && b.inst == x.inst) || !s.taskUsed b.task || s.blockFits b) &&
    (x.kind != 0x8022 || s.taskUsed (s.axTask x.inst)))

/-- No block of a section overlaps an earlier or a later one, and each lies in its task's image. -/
def State.blocksOk (s : State) (x : Section) : Bool :=
  let all := s.planBlocks
  let own (n : Nat) : Bool := match all[n]? with
    | some b => b.kind == x.kind && b.inst == x.inst
    | none => false
  (List.range all.length).all (fun n => !own n ||
    (match all[n]? with
     | none => true
     | some b => s.taskUsed b.task && s.blockFits b &&
        (List.range all.length).all (fun m => m == n || (match all[m]? with
          | some c => !b.overlaps c
          | none => true))))

/-- The island channel is the OUT of a loop; the loop's task. -/
def State.loopOfChan (s : State) (k c : Nat) : Option Nat :=
  (s.loopNums.find? (fun n => s.loopOutSel n == 0x1000 + 8 * k + c)).map (fun n => s.loopTask n)

/-- An island channel (R57, R110, R197, R298, R299, R315). -/
def State.chanFits (s : State) (k c : Nat) : Bool :=
  let p := s.chPers k c
  let fail := s.chFail k c
  let owned := s.islOwned k
  (p == 0 || (p == 8 || p == 9) == owned) &&
  (match s.loopOfChan k c with
   | some t => s.chOut k c == 0xFFFF && s.chTask k c == t
   | none => !persOut p || (s.chOut k c != 0xFFFF && s.taskUsed (s.chTask k c))) &&
  (!s.paired || ((p != 3 || fail == 0) && (!persAo p || bits fail 28 4 == 0) && (p != 4 || !bitAt fail 17)))

/-- A queue record's ends and entry size. -/
def State.queIs (s : State) (q prod cons esize : Nat) : Bool :=
  let app (id : Nat) : Bool := within 1 4 id
  let is (want id : Nat) : Bool := if want = 0 then app id else id == want
  decide (q < 64) && s.queUsed q && is prod (s.queProducer q) && is cons (s.queConsumer q) && s.queEsize q == esize

/-- The communication core that serves a port or channel (chapters 13 to 15). -/
def comOf (kind i : Nat) : Nat :=
  if kind = 1 then (if i = 0 ∨ i = 1 ∨ i = 4 then 0x20 else 0x21) else if i < 4 then 0x20 else 0x21

/-- A PORTS record against the other sections (R338, R357, R363, R378, R384, R456). -/
def State.portFits (s : State) (all : List (List Byte)) (r : List Byte) : Bool :=
  let i := le r 1 1
  let com := comOf (le r 0 1) i
  let tx (q esize : Nat) : Bool := q == 0xFF || s.queIs q 0 com esize
  match le r 0 1 with
  | 1 => s.queIs (le r 4 1) com 0 11 && tx (le r 5 1) 11 && (!bitAt (le r 3 1) 3 || s.paired)
  | 2 =>
    let tt := (List.range (le r 0xE 1)).map (fun j => le r 0xD 1 + j)
    let evq := if le r 0xC 1 = 0xFF then [] else [le r 0xC 1]
    let flag := bitAt (le r 3 1) 2
    s.queIs (le r 0xB 1) com 0 7 && (evq ++ tt).all (fun q => s.queIs q 0 com 7) &&
    decide (([le r 0xB 1] ++ evq ++ tt).Nodup) && (flag == (s.canSched i != [])) && (!flag || tt != []) &&
    (le r 2 1 != 2 || (evq == [] && tt == [] && !flag))
  | 3 => all.all (fun q => le q 0 1 != 3 || slice q 0xC 4 == slice r 0xC 4)
  | 4 => s.queIs (le r 0xA 1) com 0 9 && tx (le r 0xB 1) 9
  | 5 =>
    let t := le r 4 1
    let tOut := 80 * (38 + max 46 (16 + le r 5 1 * (4 + le r 7 1)))
    let need := le r 8 2 * 1000 + (if s.taskStrict t then 25000 else 5000) + tOut
    s.taskUsed t && decide (need ≤ s.taskMargin t) &&
    (le r 0xE 2 == 0 || decide (3 * s.taskPeriod t * 250 ≤ le r 0xE 2 * 1000))
  | 6 => s.queIs (le r 0xD 1) 0 0x28 6 && s.queRound (le r 0xD 1)
  | _ => true

/-- The largest IN_SIZE sum of tasks that latch on one base tick (R197): two tasks share a tick where their phases agree
modulo the greatest common divisor of their periods. -/
def State.latchMax (s : State) (chosen : List Nat) : List Nat → Nat
  | [] => (chosen.map (fun t => s.taskIn t)).sum
  | t :: l =>
    let meets (u : Nat) : Bool :=
      ((s.taskPhase t : Int) - s.taskPhase u) % (Nat.gcd (s.taskPeriod t) (s.taskPeriod u) : Int) == 0
    max (State.latchMax s chosen l) (if chosen.all meets then State.latchMax s (t :: chosen) l else 0)

/-- TASKS (R76, R197, R230). -/
def State.tasksFit (s : State) (b : List Byte) : Bool :=
  let rs := arrayRecs b 32
  decide ((rs.map (fun r => le r 0 1)).Nodup) && decide ((rs.map (fun r => le r 1 1)).Nodup) &&
  (!s.paired || (decide ((rs.map (fun r => le r 0x14 4)).sum ≤ 192 * 2 ^ 20) &&
    decide (s.latchMax [] (rs.map (fun r => le r 0 1)) ≤ 8192)))

/-- An island channel source of a loop (R57). -/
def State.srcFits (s : State) (pers : List Nat) (sel : Nat) : Bool :=
  if selKind sel = 1 then pers.contains (s.chPers (selIdx sel / 8) (selIdx sel % 8))
  else if selKind sel = 3 ∨ selKind sel = 4 then s.axOn (selIdx sel) && s.axRatio (selIdx sel) != 0
  else true

/-- A loop record against the other sections (R57, R110). -/
def State.loopFits (s : State) (all : List (List Byte)) (r : List Byte) : Bool :=
  let out := le r 0xA 2
  let sp := le r 0xC 2
  let tbls := [le r 0x14 1, le r 0x15 1].filter (fun t => t != 0xFF)
  s.taskUsed (le r 2 1) && s.srcFits [4, 7] (le r 8 2) && s.srcFits [5, 6] out && s.srcFits [4] (le r 0xE 2) &&
  s.srcFits [4, 7] (le r 0x12 2) && (selKind out == 0 || (all.filter (fun q => le q 0xA 2 == out)).length == 1) &&
  (selKind sp != 7 || (s.loopOn (selIdx sp) && selIdx sp != le r 0 2)) &&
  (tbls == [] || (selKind (le r 0x12 2) != 0 && tbls.all (fun t => s.plan 0x8023 t != [])))

/-- LOOPS (R108, R110). The static demand never exceeds the 512 slots, since LOOPS holds at most 512 records. -/
def State.loopsFit (s : State) (b : List Byte) : Bool :=
  let all := arrayRecs b 32
  decide ((all.map (fun r => le r 0 2)).Nodup) && all.all (fun r => s.loopFits all r)

/-- AXIS (R163). -/
def State.axisFits (s : State) (a : Nat) : Bool :=
  (!s.axLoopSrc a ||
    (match s.loopNums.filter (fun n => s.loopOutSel n == 0x6000 + a) with
     | [n] => s.loopTask n == s.axTask a
     | _ => false))

def pgnEnd (id : Nat) : Bool := within 1 4 id || [0x10, 0x11, 0x18, 0x20, 0x21].contains id
def queEnd (id : Nat) : Bool := within 1 4 id || [0x0A, 0x20, 0x21, 0x28].contains id

/-- A Pigeonhole record (R394, R440). -/
def State.pgnFits (s : State) (ch : Nat) : Bool :=
  let a := s.pgnSender ch
  let b := s.pgnReceiver ch
  !s.pgnUsed ch || (pgnEnd a && pgnEnd b && a != b && (within 1 4 a || within 1 4 b) && b != 0x18 &&
    (!s.capOn Reg.SYS_CAPS_ANX || (if 30 ≤ ch then a == 0x18 && within 1 4 b else a != 0x18)))

/-- A queue record (R131, R403). -/
def State.queFits (s : State) (q : Nat) : Bool :=
  let a := s.queProducer q
  let b := s.queConsumer q
  !s.queUsed q || (queEnd a && queEnd b && a != 0x0A && a != b && (within 1 4 a || within 1 4 b) &&
    (b != 0x0A || s.queEsize q == 8))

/-- QUEUES (R131, R404). -/
def State.queuesFit (s : State) : Bool :=
  (List.range 64).all (fun q => s.queFits q) &&
  decide (((List.range 64).filter (fun q => s.queUsed q && s.queConsumer q == 0x0A)).length ≤ 4) &&
  decide (((List.range 64).map (fun q => s.ringSize q)).sum ≤ 4 * 2 ^ 20)

/-- CANSCHED (R57, R349): its task, and the queues that its windows name. -/
def State.schedFits (s : State) (c : Nat) : Bool :=
  let b := s.canSched c
  s.taskUsed (le b 5 1) && bitAt (le (s.canRec c) 3 1) 2 && (List.range (le b 4 1)).all (fun j =>
    (plainRecs (slice b (16 + 512 * j) 512) 8 64).all (fun w => le w 6 1 == 0 || decide (le w 7 1 < s.canTtqCount c)))

/-- RNDBUDGET (R57, R426). -/
def State.budgetFits (s : State) (b : List Byte) : Bool :=
  (plainRecs b 8 16).all (fun r =>
    let t := le r 0 1
    t == 0xFF || (s.taskUsed t && decide (le r 2 2 * 1000 + (if s.taskStrict t then 24000 else 4000) ≤ max
      (s.taskMargin t) (if le r 2 2 = 0 then 24000 else 0))))

/-- The panel record, empty where there is none (R456). -/
def State.panelRec (s : State) : List Byte := s.portRec 6 0

/-- FRAME_MAX (R457). -/
def State.frameMax (s : State) : Nat := 12 * le s.panelRec 0xC 1 / 10

/-- A band in force (R457, R458): its waveforms against FRAME_MAX, and its upper edge against the next band's lower. -/
def State.bandFits (s : State) (n : Nat) : Bool :=
  let b := s.softPlan 0x8082 n
  (s.panelRec == [] || (List.range 256).all (fun j => decide (le b (8 + 64 * j) 1 ≤ s.frameMax))) &&
  (n == 11 || les b 4 2 == les (s.softPlan 0x8082 (n + 1)) 2 2) && (n == 0 || les b 2 2 == les (s.softPlan 0x8082 (n - 1)) 4 2)

/-- A section against the others that would be in force with it. -/
def State.consistent (s : State) (x : Section) : Bool :=
  let b := x.body
  match x.kind with
  | 0x8010 => (List.range 8).all (fun c => s.chanFits x.inst c) && s.blocksOk x
  | 0x8011 => (arrayRecs b 16).all (fun r => s.portFits (arrayRecs b 16) r) && s.blocksOk x
  | 0x8020 => s.tasksFit b
  | 0x8021 => s.loopsFit b && s.blocksOk x
  | 0x8022 => s.axisFits x.inst && s.blocksOk x
  | 0x8030 => (List.range 32).all (fun ch => s.pgnFits ch)
  | 0x8031 => s.queuesFit
  | 0x8040 => s.schedFits x.inst
  | 0x8070 => le b (16 + 0x3A0) 1 == b2n (s.islOwned 0) + 2 * b2n (s.islOwned 1)
  | 0x8081 => s.budgetFits b
  | 0x8082 => s.bandFits x.inst
  | 0x8083 => (arrayRecs b 32).all (fun r => s.loopOn (le r 0 2))
  | _ => true

/-! ### Step 14: what the safety processors accept (R53, R253, R254, R274) -/

def safB (p : List Byte) (off n : Nat) : Nat := le p (16 + off) n

/-- A connection record (R274). -/
def connOk (p : List Byte) (j : Nat) : Bool :=
  let nf := safB p 0 2
  let nc := safB p 2 2
  let r := slice p (16 + 0x3B0 + 16 * nf + 32 * j) 32
  let c := le r 0 1
  let skew := if le r 0xE 2 = 0 then 20 else le r 0xE 2
  let named := (List.range nf).any (fun k => bitAt (safB p (0x3B0 + 16 * k + 8) 8) c)
  decide (c < nc) && ((List.range nc).filter (fun i => safB p (0x3B0 + 16 * nf + 32 * i) 1 == c)).length == 1 &&
  decide (le r 1 1 ≤ 1) && within 1 3 (bits (le r 2 1) 0 2) && within 1 3 (bits (le r 2 1) 2 2) && decide (le r 2 1 < 16) &&
  within 1 100 (le r 3 1) && within 1 0xFFFFFFFE (le r 4 4) && within 1 0xFFFFFFFE (le r 8 4) && decide (le r 0xC 2 ≤ 256) &&
  decide (le r 0xE 2 ≤ 100) && within 1 5000 (le r 0x10 2) && decide (200 * le r 3 1 + skew ≤ 10 * le r 0x12 2) &&
  decide (le r 0x12 2 ≤ 10000) && zeros r 0x14 4 && le r 0x18 8 != 0 && named == (le r 1 1 == 1)

/-- The body's layout and limits (R253, R254), with the whole kill mask of an owned island (R309). -/
def safBodyOk (p : List Byte) : Bool :=
  let nf := safB p 0 2
  let nc := safB p 2 2
  let code (v : Nat) : Bool := within 1024 491520 v && v % 8 == 0
  decide (nf ≤ 64) && decide (nc ≤ 64) && code (safB p 4 4) && code (safB p 8 4) && decide (safB p 0xC 1 ≤ 72) &&
  zeros p (16 + 0xD) 3 && (List.range 8).all (fun n => decide (safB p (0x10 + n) 1 ≤ 3)) &&
  (List.range 32).all (fun n =>
    safB p (0x18 + 24 * n) 9 &&& safB p (0x18 + 24 * n + 9) 9 == 0 && zeros p (16 + 0x18 + 24 * n + 18) 6) &&
  (List.range 16).all (fun n => decide (safB p (0x318 + 8 * n + 4) 1 ≤ 3) && zeros p (16 + 0x318 + 8 * n + 5) 3) &&
  decide (safB p 0x3A0 1 ≤ 3) &&
  (List.range 2).all (fun k => !bitAt (safB p 0x3A0 1) k || safB p (0x398 + k) 1 == 0xFF) && zeros p (16 + 0x3A4) 12 && le p 8 4 == 0x3B0 + 16 * nf + 32 * nc + safB p 4 4 + safB p 8 4 &&
  (List.range nf).all (fun j =>
    let o := 0x3B0 + 16 * j
    decide (safB p o 1 < 64) && ((List.range nf).filter (fun i => safB p (0x3B0 + 16 * i) 1 == safB p o 1)).length == 1 &&
    decide (safB p (o + 1) 1 ≤ 72) && zeros p (16 + o + 3) 5) &&
  (List.range nc).all (fun j => connOk p j)

/-- A safety processor that works accepts a SAFETY payload: one that the domain holds, or one whose format, body and
signature it finds good. DESIGN CHOICE (log 102): one declared failed accepts none. -/
def State.spAccepts (s : State) (failed : Bool) (p : List Byte) : Bool :=
  !failed && (p == s.saf.section_ ||
  (le p 0 2 == 1 && safBodyOk p &&
    Config.safetySignatureGood (le p 2 1) (Config.sha256 (p.take (p.length - 64))) (p.drop (p.length - 64))))

/-- Both processors accept a SAFETY payload, each for itself (R66). -/
def State.safAccepts (s : State) (p : List Byte) : Bool :=
  s.saf.powered && s.spAccepts s.saf.failA p && s.spAccepts s.saf.failB p

/-! ### Steps 9 to 14 together -/

/-- The first section that fails a check. -/
def firstFail (l : List (Nat × Section)) (ok : Section → Bool) (why : Nat) : Option FplFail :=
  (l.find? (fun d => !ok d.2)).map (fun d => { reason := why, off := d.1, type := d.2.kind + d.2.inst * 2 ^ 16 })

/-- Soft sections in force once some are replaced (R68). -/
def softMerge (old new : List Section) : List Section :=
  old.filter (fun x => !new.any (fun y => y.kind == x.kind && y.inst == x.inst)) ++ new

/-- The state as it would be with the sections of an image in force; a soft image lands with the one that waits. -/
def State.withPlan (s : State) (kind : Nat) (l : List Section) : State :=
  let w := l.filter (fun x => secIsW x.kind)
  if kind = 2 then { s with fpl := { s.fpl with soft := softMerge (softMerge s.fpl.soft (s.fpl.softNext.getD [])) w } }
  else { s with fpl := { s.fpl with plan := l.filter (fun x => secIsS x.kind), soft := w } }

/-- Steps 9 to 14; `digest` is the locked structure digest. -/
def State.fplSteps (s : State) (kind : Nat) (l : List (Nat × Section)) : Option FplFail :=
  let secs := l.map (fun d => d.2)
  let digest := (List.range 8).flatMap (fun i => leBytes 4 (s.rd (Reg.FPL_STRDIG i)))
  if !s.mandatoryOk kind l then some { reason := fplMissing }
  else match firstFail l (fun x => s.capsOk x) fplCapability with
    | some f => some f
    | none => match firstFail l (fun x => contentOk x && (s.withPlan kind secs).blocksFit x) fplContent with
      | some f => some f
      | none => match firstFail l (fun x => (s.withPlan kind secs).consistent x) fplConsistency with
        | some f => some f
        | none =>
          match firstFail l (fun x => x.kind != 0x8002 || x.body == digest) fplBase with
          | some f => some f
          | none => firstFail l (fun x => x.kind != 0x8070 || s.safAccepts x.body) fplSafety

end Sys2Proof.Machine
end

