-- ==== Sys2Proof/Machine/SafetyDomain.lean ====
section
/-!
DEFINITION. The safety domain: its states, its cycle, Excursion, test pulses and the safety section (R245 to R269),
and the sending of Twin-Gallery telegrams (R276 to R280).
-/
namespace Sys2Proof.Machine

/-! ### Functions and Excursion (R263) -/

/-- States of SAF_FUNC. -/
def funNormal : Nat := 0
def funExcursion : Nat := 1
def funTripped : Nat := 2
def funNone : Nat := 7

/-- Identities of a function's channels: a processor, a line, a contact, a connection. -/
def chProc (p : Nat) : Nat := p
def chLine (l : Nat) : Nat := 16 + l
def chContact (n : Nat) : Nat := 32 + n
def chConn (c : Nat) : Nat := 64 + c

/-- A function's channels in fault. -/
def State.funBad (s : State) (f : Nat) : List Nat := (Assoc.find? s.saf.bad f).getD []
def State.setFunBad (s : State) (f : Nat) (l : List Nat) : State :=
  { s with saf := { s.saf with bad := Assoc.insert s.saf.bad f l } }

/-- A fault during a function's return check spoils the check. -/
def State.spoil (s : State) (f : Nat) : State :=
  if s.on (Reg.SAF_FUNC_CHECK f) then { s with saf := { s.saf with clean := Assoc.insert s.saf.clean f false } } else s

/-- SAF_STAT.TRIPPED and EXCURSION follow the functions and the matrix. -/
def State.safSummary (s : State) : State :=
  let any (st : Nat) := (List.range 64).any (fun f => s.rd (Reg.SAF_FUNC_STATE f) == st)
  (s.wrB Reg.SAF_STAT_TRIPPED (any funTripped)).wrB Reg.SAF_STAT_EXCURSION
    (any funExcursion || s.on Reg.TRP_STAT_EXCURSION)

/-- A minute of the Excursion timers, in ns. -/
def minute : Nat := 60000000000

/-- Minutes that an Excursion still has, and that it has lasted. -/
def SafExc.remain (e : SafExc) (now : Nat) : Nat := (e.until_ - now) / minute
def SafExc.spent (e : SafExc) (now : Nat) : Nat := e.before + (now - e.since) / minute

/-- A function's Excursion. -/
def State.excOf (s : State) (f : Nat) : SafExc := (Assoc.find? s.saf.exc f).getD { since := s.safClock, until_ := s.safClock }
def State.setExc (s : State) (f : Nat) (e : SafExc) : State :=
  { s with saf := { s.saf with exc := Assoc.insert s.saf.exc f e } }

/-- A function trips: by a fault (0x0906) or by its timer (0x0905). -/
def State.funTrip (s : State) (f code cause shown : Nat) : State :=
  let st := s.rd (Reg.SAF_FUNC_STATE f)
  if st = funNormal ∨ st = funExcursion then
    let s := ((s.wr (Reg.SAF_FUNC_STATE f) funTripped).wr (Reg.SAF_FUNC_CHECK f) 0).wr (Reg.SAF_FUNC_CAUSE f) shown
    (s.wr (Reg.SAF_FUNC_REMAIN f) 0).post Un.saf code f cause 0 |>.safSummary
  else s

/-- A fault in one channel of a function (EXCURSION_ENTRY): NORMAL enters EXCURSION, EXCURSION trips where the fault
is a further one. -/
def State.funFault (s : State) (f id cause : Nat) (further : Bool) : State :=
  let st := s.rd (Reg.SAF_FUNC_STATE f)
  let known := (s.funBad f).contains id
  let s := (s.setFunBad f (if known then s.funBad f else id :: s.funBad f)).spoil f
  if st = funNormal then
    let min := s.funMinutes f
    let s := ((s.wr (Reg.SAF_FUNC_STATE f) funExcursion).wr (Reg.SAF_FUNC_CAUSE f) cause).wr (Reg.SAF_FUNC_REMAIN f) min
    let s := s.setExc f { since := s.safClock, until_ := s.safClock + min * minute }
    (s.post Un.saf 0x0904 f cause min).safSummary
  else if st = funExcursion ∧ (further ∨ !known) then s.funTrip f 0x0906 cause cause
  else s

/-- Every function that a test selects takes a fault. -/
def State.funFaults (s : State) (sel : Nat → Bool) (id cause : Nat) (further : Bool) : State :=
  (List.range 64).foldl (fun s f => if sel f then s.funFault f id cause further else s) s

/-- Every function that a test selects trips. -/
def State.funTrips (s : State) (sel : Nat → Bool) (cause : Nat) : State :=
  (List.range 64).foldl (fun s f => if sel f then s.funTrip f 0x0906 cause cause else s) s

/-! ### Processors -/

/-- A processor is declared failed: every function takes the fault, and a second failure forces a trip. -/
def State.procFail (s : State) (p cause : Nat) : State :=
  if (if p = 0 then s.saf.failA else s.saf.failB) then s
  else
    let saf := if p = 0 then { s.saf with failA := true } else { s.saf with failB := true }
    let s := { s with saf }
    let s := if p = 0 then s.wr Reg.SAF_STAT_SPA_OK 0 else s.wr Reg.SAF_STAT_SPB_OK 0
    let s := s.post Un.saf 0x0903 p cause (s.rd Reg.SAF_CYCLE_LO)
    let s := s.funFaults (fun f => (s.funcRec f).isSome) (chProc p) 1 false
    (if s.saf.failA && s.saf.failB then s.forceTrip 3 else s).matrix

/-- SAFETY_WATCHDOG_EXPIRY (R248): a service before 9.5 ms after the last one (`early`), or none within 10.5 ms. Each
cycle's end is a service of both processors. -/
def execSafetyWatchdogExpiry (spb early : Bool) (s : State) : Answer :=
  if !s.saf.powered ∨ s.rd Reg.SAF_STAT_STATE = 0 then .next s
  else if early then
    .next (if s.saf.cycleAt.any (fun t => decide (s.safClock < t + 9500000)) then s.procFail (b2n spb) 1 else s)
  else .next ((s.waitTo (s.saf.cycleAt.getD s.safClock + 10500000)).procFail (b2n spb) 1)

/-! ### Matrix planes (R257, R259) -/

/-- The forced trip of a second plane failure or of the matrix timer: SAFE_CAUSE has no code for it, so what it shows
is a free value. -/
def State.matrixForce (s : State) : State :=
  if s.saf.forced then s else (s.forceTrip (s.freeWord.toNat % 16)).useFree

/-- The outcome of a plane's test. -/
def State.planeTest (s : State) (plane : Nat) (ok : Bool) : State :=
  let fld := if plane = 0 then Reg.TRP_STAT_PLANE_A_OK else Reg.TRP_STAT_PLANE_B_OK
  if !s.on fld then
    { s with saf := { s.saf with excCheck := s.saf.excCheck.map (fun c => c && ok) } }
  else if ok then s
  else
    let s := s.wr fld 0
    let left := s.rd Reg.TRP_STAT_PLANE_A_OK + s.rd Reg.TRP_STAT_PLANE_B_OK
    let s := s.post Un.trp 0x0A05 plane left 0
    if left = 0 then s.matrixForce
    else
      let min := excMinutes (s.safB 0xC 1)
      let e : SafExc := { since := s.safClock, until_ := s.safClock + min * minute }
      let s := { s with saf := { s.saf with excM := some e, storeM := some (2 - plane, min, 0) } }.wr Reg.TRP_STAT_EXCURSION 1
      (s.post Un.saf 0x0904 0xFF 0 min).safSummary

/-! ### Twin-Gallery sending (R276 to R280) -/

/-- The record of a connection. -/
def State.connRec (s : State) (c : Nat) : List Byte :=
  let base := 16 + 0x3B0 + 16 * s.funcCount
  match (List.range s.connCount).find? (fun j => le s.saf.section_ (base + 32 * j) 1 == c) with
  | some j => slice s.saf.section_ (base + 32 * j) 32
  | none => []

def State.tgConn (s : State) (c : Nat) : TgConn := (Assoc.find? s.saf.tg c).getD {}
def State.setTg (s : State) (c : Nat) (x : TgConn) : State :=
  { s with saf := { s.saf with tg := Assoc.insert s.saf.tg c x } }

/-- CRC-32C of bytes (R272). -/
def crc32c (bs : List Byte) : Nat := revBits 32 (crcLsb 32 0x1EDC6F41 0xFFFFFFFF bs) ^^^ 0xFFFFFFFF

/-- A telegram with its SCRC (R271, R272). -/
def tgBuild (src dst seq time key : Nat) (payload : List Byte) : List Byte :=
  let t := leBytes 4 src ++ leBytes 4 dst ++ leBytes 4 seq ++ [0, 0] ++ leBytes 2 payload.length ++ leBytes 8 time ++ payload
  t ++ leBytes 4 (crc32c (leBytes 8 key ++ t))

/-- The ports of a network that PORTS names: 0 A1, 1 A2, 2 B1, 3 B2. -/
def tgPorts (ports net : Nat) : List Nat :=
  [2 * net, 2 * net + 1].filter (fun p => bitAt ports p)

/-- The class-1 time that the safety domain holds: the heartbeat's, advanced since (R278). -/
def State.safTime (s : State) : Int := s.saf.hbTime + (s.safClock - s.saf.hbAt : Nat)

/-- A telegram as the frame of R273. -/
def State.tgFrame (s : State) (port dst : Nat) (t : List Byte) : List Byte :=
  s.ethHead port ([0x03, 0x54] ++ (leBytes 4 dst).reverse) (s.ownMac port) ++ [0x88, 0xB6] ++
  (if t.length < 46 then (t ++ List.replicate (46 - t.length) 0) else t)

/-- The copies of a cycle's end that were handed to the Ethernet unit. -/
def State.tgHanded (s : State) (copies : List (Nat × List Byte)) : State :=
  { s with saf := { s.saf with sent := s.saf.sent ++ copies } }

/-- A transmit connection at the end of a safety cycle (TG_SEND). -/
def State.tgSend (s : State) (payloads : List (Nat × List Byte × List Byte)) (c : Nat) : State :=
  let r := s.connRec c
  if r = [] ∨ le r 1 1 ≠ 0 then s
  else
    let x := s.tgConn c
    let n := x.cycles + 1
    if n < le r 3 1 then s.setTg c { x with cycles := n }
    else if s.on Reg.SAF_STAT_CTRL_HB_LOST ∨ !s.locked ∨ !s.power.running then s.setTg c { x with cycles := 0 }
    else
      let limit := if x.limit ≤ x.txSeq + 32768 then x.limit + 65536 else x.limit
      let body := (Assoc.find? payloads c).getD ([], [])
      let len := le r 0xC 2
      let fix (p : List Byte) : List Byte := (p ++ List.replicate len 0).take len
      let a := fix (if s.saf.failA then body.2 else body.1)
      let b := fix (if s.saf.failB then body.1 else body.2)
      let build (p : List Byte) := tgBuild (le r 4 4) (le r 8 4) (x.txSeq % 2 ^ 32) (toBits 64 s.safTime) (le r 0x18 8) p
      let out (net : Nat) (p : List Byte) := (tgPorts (le r 2 1) net).map (fun q => (q, s.tgFrame q (le r 8 4) (build p)))
      let s := s.setTg c { x with cycles := 0, txSeq := x.txSeq + 1, limit }
      let copies := out 0 a ++ out 1 b
      (copies.foldl (fun s x => if s.ethFlag x.1 1 then s.ethHand x.1 0 x.2 else s) s).tgHanded copies

/-! ### The safety cycle (R246) -/

/-- A latched sink's reset, where its demand has returned to 0 (R256). -/
def State.sinkReset (s : State) (req : Nat) (k : Nat) : State :=
  let demand := (s.rd Reg.TRP_PROD &&& s.sinkMask k) != 0
  if bitAt req k && bitAt (s.rd Reg.TRP_SINK_LATCHED) k && !demand then
    let at_ := (Assoc.find? s.saf.latchAt k).getD s.safClock
    let s := s.wr Reg.TRP_SINK_LATCHED (putBit (s.rd Reg.TRP_SINK_LATCHED) k false)
    s.post Un.trp 0x0A02 k ((s.safClock - at_) / 1000000) 0
  else s

/-- The comparison of the demands (SAFETY_COMPARE), outside a failure of either processor. -/
def State.safCompare (s : State) (x : SafCycle) : State :=
  if s.saf.failA || s.saf.failB then
    let s := if !x.selfA then s.procFail 0 2 else s
    let s := if !x.selfB then s.procFail 1 2 else s
    { s with saf := { s.saf with agree := s.saf.agree + 1 } }
  else
    let same := x.ittA == x.ittB && x.demA == x.demB
    let cause := if same then 2 else 3
    let s := { s with saf := { s.saf with agree := if same then s.saf.agree + 1 else 0 } }
    let s := if !x.selfA then s.procFail 0 cause else s
    let s := if !x.selfB then s.procFail 1 cause else s
    if !same ∧ x.selfA ∧ x.selfB ∧ s.rd Reg.SAF_STAT_STATE = 2 then
      s.funTrips (fun f => bitAt x.affected.toNat f) 4
    else s

/-- The conditions of R251. -/
def State.safMayRun (s : State) : Bool :=
  !s.saf.forced && s.saf.confirmed && s.on Reg.TRP_STAT_GROUP_SUPPLY && decide (3 ≤ s.saf.agree) &&
  ((s.on Reg.SAF_STAT_SPA_OK && s.on Reg.SAF_STAT_SPB_OK) ||
    ((s.on Reg.SAF_STAT_SPA_OK || s.on Reg.SAF_STAT_SPB_OK) && s.saf.resumed)) &&
  (List.range 8).all (fun l => !bitAt s.linesOn l || (decide (2 ≤ (Assoc.find? s.saf.lineGood l).getD 0) &&
    decide (max s.saf.safeAt ((Assoc.find? s.saf.lineBadAt l).getD 0) + 40000000 ≤ s.safClock)))

/-- Connections are due from the entry to RUN (R276). -/
def State.tgRun (s : State) : State :=
  let tg := s.saf.tg.map (fun (c : Nat × TgConn) => (c.1, { c.2 with cycles := 0 }))
  { s with saf := { s.saf with tg } }

/-- SAFE_TO_RUN (R251). -/
def State.safRun (s : State) : State :=
  if s.rd Reg.SAF_STAT_STATE = 1 then
    let s := { s with saf := { s.saf with inSafe := s.saf.inSafe + 1 } }
    if s.safMayRun then
      let s := (s.wr Reg.SAF_STAT_STATE 2).post Un.saf 0x0902 s.saf.inSafe (s.rd (Reg.SAF_DIG 0)) 0
      s.tgRun.matrix
    else s
  else s

/-- At a cycle start the application reads its connections (R281): the accepted telegram's payload, or zeros. -/
def State.tgRead (s : State) : State :=
  let see (c : Nat) (x : TgConn) : TgConn :=
    let len := le (s.connRec c) 0xC 2
    let valid := decide (1 ≤ x.state) && decide (x.state ≤ 3)
    { x with valid, payload := if valid then slice x.accepted 0x18 len else List.replicate len 0 }
  { s with saf := { s.saf with tg := s.saf.tg.map (fun (c : Nat × TgConn) => (c.1, see c.1 c.2)) } }

/-- A cycle of the safety processors past the start (R246, R247, R255, R256). -/
def State.safCycle (s : State) (x : SafCycle) : State :=
  let s := s.safCompare x
  let s := (s.planeTest 0 x.planeA).planeTest 1 x.planeB
  let s := { s with saf := { s.saf with
    ittA := x.ittA.toNat, ittB := x.ittB.toNat, demA := x.demA.toNat, demB := x.demB.toNat, sent := [] } }
  let s := s.matrix
  let req := if s.saf.failA then x.resetB.toNat else if s.saf.failB then x.resetA.toNat
    else x.resetA.toNat &&& x.resetB.toNat
  let s := (s.sinks.foldl (fun s k => s.sinkReset req k) s).matrix
  let s : State := match x.discrep with
    | some (a, b, ms) => s.post Un.saf 0x090B a b ms
    | none => s
  if s.rd Reg.SAF_STAT_STATE = 2 then (List.range 64).foldl (fun s c => s.tgSend x.payloads c) s
  else s.safRun

/-- SAFETY_CYCLE (R246): the end of a cycle, 10 ms after the last one within R268's bounds. It is counted, and past the
start it is run; the next cycle starts with it. -/
def execSafetyCycle (x : SafCycle) (s : State) : Answer :=
  if !s.saf.powered then .next s
  else
    let s := match s.saf.cycleAt with
      | some t => s.waitTo (t + 9999000)
      | none => s
    let s := { s with saf := { s.saf with cycleAt := some s.safClock } }
    let s := s.wr64 Reg.SAF_CYCLE_LO Reg.SAF_CYCLE_HI (s.rd64 Reg.SAF_CYCLE_LO Reg.SAF_CYCLE_HI + 1)
    .next (if s.rd Reg.SAF_STAT_STATE = 0 then s else (s.safCycle x).tgRead)

/-! ### Start, adoption and the loader (R250, R66) -/

/-- The functions that the held section defines, kept from the store (R266): a function that is no longer defined is
dropped. `lost` is the minute that a power cycle costs. -/
def State.safFunctions (s : State) (lost : Nat) : State :=
  (List.range 64).foldl (fun s f =>
    match s.funcRec f, Assoc.find? s.saf.store f with
    | some _, some k =>
      let now := s.safClock
      let e : SafExc := if lost = 0 then s.excOf f else
        { since := now, before := k.spent, until_ := now + (k.remain - lost) * minute }
      let e := { e with until_ := min e.until_ (now + s.funMinutes f * minute) }
      let remain := e.remain now
      let s := if k.state = funExcursion then s.setExc f e else s
      ((s.wr (Reg.SAF_FUNC_STATE f) k.state).wr (Reg.SAF_FUNC_CAUSE f) k.cause).wr (Reg.SAF_FUNC_REMAIN f)
        (if k.state = funExcursion then remain else 0)
    | some _, none => s.wr (Reg.SAF_FUNC f) 0
    | none, some k =>
      let s := { s with saf := { s.saf with
        store := Assoc.erase s.saf.store f, bad := Assoc.erase s.saf.bad f, exc := Assoc.erase s.saf.exc f } }
      (s.wr (Reg.SAF_FUNC f) (funNone * 2 ^ 29)).post Un.saf 0x0904 f 7 k.remain
    | none, none => s.wr (Reg.SAF_FUNC f) (funNone * 2 ^ 29)) s

/-- Write the functions, and the matrix's Excursion, to the safety store (R259, R266). -/
def State.safStore (s : State) : State :=
  { s with saf := { s.saf with
    store := ((List.range 64).filter (fun f => (s.funcRec f).isSome)).map (fun f =>
      (f, { state := s.rd (Reg.SAF_FUNC_STATE f), cause := s.rd (Reg.SAF_FUNC_CAUSE f)
            remain := s.rd (Reg.SAF_FUNC_REMAIN f), spent := (s.excOf f).spent s.safClock }))
    storeM := s.saf.excM.map (fun e =>
      (s.rd Reg.TRP_STAT_PLANE_A_OK + 2 * s.rd Reg.TRP_STAT_PLANE_B_OK, e.remain s.safClock, e.spent s.safClock)) } }

/-- A plane that was disconnected stays so over a power cycle, and the matrix's Excursion goes on with its stored time
less 1 min (R257, R259, R266). -/
def State.matrixResume (s : State) : State :=
  match s.saf.storeM with
  | none => (s.wr Reg.TRP_STAT_PLANE_A_OK 1).wr Reg.TRP_STAT_PLANE_B_OK 1
  | some (planes, remain, spent) =>
    let e : SafExc := { since := s.safClock, before := spent, until_ := s.safClock + (remain - 1) * minute }
    let s := { s with saf := { s.saf with excM := some e } }
    ((s.wr Reg.TRP_STAT_PLANE_A_OK planes).wr Reg.TRP_STAT_PLANE_B_OK (planes / 2)).wr Reg.TRP_STAT_EXCURSION 1

/-- What the registers show of the held section. -/
def State.safShow (s : State) : State :=
  let h := if s.saf.section_ = [] then [] else Config.sha256 s.saf.section_
  let s := (List.range 8).foldl (fun s i => s.wr (Reg.SAF_DIG i) (le h (4 * i) 4)) s
  let s := (s.wr Reg.SAF_STAT_FUNC_COUNT s.funcCount).wr Reg.SAF_TP_LINE_EN s.linesOn
  s.wr Reg.TRP_DARK_ENABLED (((List.range 8).map (fun n => if s.sinkDark n then 2 ^ n else 0)).sum)

/-- The safety rail comes up: the domain resets and enters BOOT (R250). The held section and the safety store stay, and
with a stored state the channels it has lost (R266, log 234). -/
def State.safPowerOn (s : State) : State :=
  { s with saf := { powered := true, section_ := s.saf.section_, store := s.saf.store, bad := s.saf.bad, keyMaint := s.saf.keyMaint
                    storeM := s.saf.storeM, clock0 := s.saf.clock0, hbAt := s.safClock, safeAt := s.safClock
                    tg := s.saf.tg.map (fun (c : Nat × TgConn) => (c.1, { limit := c.2.limit, txSeq := c.2.limit })) } }

/-- What the tests of a start found. -/
def State.safTested (s : State) (okA okB planeA planeB : Bool) : State :=
  let s := if okA then s else s.procFail 0 2
  let s := if okB then s else s.procFail 1 2
  (s.planeTest 0 planeA).planeTest 1 planeB

/-- A stored Excursion of a processor is resumed by the one that passes (R251, R266). -/
def State.safResume (s : State) : State :=
  let resumed := (List.range 64).any (fun f =>
    s.rd (Reg.SAF_FUNC_STATE f) == funExcursion && s.rd (Reg.SAF_FUNC_CAUSE f) == 1)
  { s with saf := { s.saf with resumed } }

/-- The connections start on the held section: TIMEOUT counts from now (R283). -/
def State.tgStart (s : State) : State :=
  (List.range 64).foldl (fun s c => if s.connRec c = [] then s else s.setTg c { s.tgConn c with acceptAt := s.safClock }) s

/-- The start of the safety domain ends in SAFE, or in the adoption of an offered section (R250). -/
def State.safBoot (s : State) (okA okB planeA planeB : Bool) : State :=
  let s := ((s.wr Reg.SAF_STAT_SPA_OK 1).wr Reg.SAF_STAT_SPB_OK 1).matrixResume
  let s := { s with saf := { s.saf with minAt := s.safClock } }
  let s := (s.safShow.safFunctions 1).safResume
  let s := s.tgStart
  let s := (s.enterSafe 1).safTested okA okB planeA planeB
  let s := if s.saf.offered = [] then s else s.wr Reg.SAF_STAT_STATE 3
  s.safSummary.matrix

/-- SAFETY_BOOT_COMPLETE (R250): what each processor's self-test and each plane's test gave. -/
def execSafetyBootComplete (okA okB planeA planeB : Bool) (s : State) : Answer :=
  if !s.saf.powered ∨ s.rd Reg.SAF_STAT_STATE ≠ 0 then .next s
  else .next (s.safBoot okA okB planeA planeB)

/-- The loader offers a section at step 14 of a load (SAFETY_ADOPT): an identical one is confirmed, a different one
is adopted through safe state. -/
def State.safOffer (s : State) (payload : List Byte) : State :=
  if payload = s.saf.section_ then { s with saf := { s.saf with confirmed := true, offered := [] } }
  else
    let s := { s with saf := { s.saf with offered := payload, confirmed := false, offerAt := s.safClock } }
    if s.rd Reg.SAF_STAT_STATE = 0 then s else (s.wr Reg.SAF_STAT_STATE 3).matrix

/-- SAFETY_ADOPT_COMPLETE (R250, R252, R266), 10 ms after the start of step 14 at the earliest; a cycle of the new section
starts with it. -/
def execSafetyAdoptComplete (s : State) : Answer :=
  if !s.saf.powered ∨ s.saf.offered = [] ∨ s.rd Reg.SAF_STAT_STATE ≠ 3 then .next s
  else
    let s := (s.waitTo (s.saf.offerAt + 10000000)).safStore
    let s := { s with saf := { s.saf with
      cycleAt := some s.safClock
      section_ := s.saf.offered, offered := [], confirmed := true, ons := 0, lineGood := [], pulse := [], smpDue := 0
      tg := s.saf.tg.map (fun (c : Nat × TgConn) => (c.1, { limit := c.2.limit, txSeq := c.2.txSeq })) } }
    let s := (s.wr Reg.SAF_TP 0).safShow.safFunctions 0
    .next (s.tgStart.enterSafe 2).safSummary

/-- The loader enters NO_PLAN after a reset of the control domain (R250, R62). -/
def State.safNoPlan (s : State) : State :=
  let s := { s with saf := { s.saf with confirmed := false, offered := [] } }
  if 2 ≤ s.rd Reg.SAF_STAT_STATE then s.enterSafe 6 else s

/-! ### Test pulses (R260 to R262) -/

/-- The first instant of a period's phase from a given one on. -/
def nextPhase (from_ period phase : Nat) : Nat := from_ + (period - (from_ + period - phase) % period) % period

/-- The off edge of a line within 20 ms (R261). -/
def linePhase (l : Nat) : Nat := l / 2 * 2500000 + l % 2 * 10000000

/-- The surviving line of a group pulses in the failed line's slot as well, while a function that uses them is in
EXCURSION (R263). -/
def State.lineTwice (s : State) (l : Nat) : Bool :=
  let other := if l % 2 = 0 then l + 1 else l - 1
  bitAt (s.rd Reg.SAF_TP_LINE_FAULT) other && (List.range 64).any (fun f =>
    s.rd (Reg.SAF_FUNC_STATE f) == funExcursion && (s.funcLine f l || s.funcLine f other))

/-- TEST_PULSE_OFF (R261): an enabled line is switched off for 400 µs at its phase, while no other line is off. -/
def execTestPulseOff (l : Fin 8) (s : State) : Answer :=
  if s.saf.powered && s.rd Reg.SAF_STAT_STATE != 0 && bitAt s.linesOn l then
    let from_ := match Assoc.find? s.saf.pulse l with
      | some t => max s.safClock (t + 1)
      | none => s.safClock
    let s := s.waitTo (nextPhase from_ (if s.lineTwice l then 10000000 else 20000000) (linePhase l))
    if (List.range 8).any (fun j => s.lineOff j 400000) then .next s
    else .next { s with saf := { s.saf with
      pulse := Assoc.insert s.saf.pulse l s.safClock, smpDue := putBit s.saf.smpDue l true } }
  else .next s

/-- The channels that a line feeds. -/
def State.lineChannels (s : State) (l : Nat) : List Nat :=
  (List.range 4).map (fun j => 4 * (l / 2) + j) |>.filter (fun n => bitAt (s.safB 0x3A2 2) n == (l % 2 == 1))

/-- A channel at the sample of its line: a second consecutive ON declares a cross-short (CROSS_SHORT). `users` are
the functions whose contact it is. -/
def State.lineSample (s : State) (l n : Nat) (on : Bool) (users : Nat) : State :=
  let was := bitAt s.saf.ons n
  let s := { s with saf := { s.saf with ons := putBit s.saf.ons n on } }
  if on && was then
    if bitAt (s.rd Reg.SAF_TP_CH_FAULT) n then s.funFaults (fun f => bitAt users f) (chContact n) 3 false
    else
      let s := s.wr Reg.SAF_TP_CH_FAULT (putBit (s.rd Reg.SAF_TP_CH_FAULT) n true)
      let s := s.post Un.saf 0x0909 n l 0
      s.funFaults (fun f => bitAt users f) (chContact n) 3 false
  else if !on then s.wr Reg.SAF_TP_CH_FAULT (putBit (s.rd Reg.SAF_TP_CH_FAULT) n false)
  else s

/-- The sample of a line at the end of its test pulse (R262). -/
def State.pulseSample (s : State) (l : Nat) (on : BitVec 16) (volts10 : Nat) (users : List (BitVec 64)) : State :=
  let chans := s.lineChannels l
  let fault := decide (50 < volts10)
  let any := chans.any (fun n => on.getLsbD n)
  let s := { s with saf := { s.saf with
    smpDue := putBit s.saf.smpDue l false
    lineBadAt := if fault || any then Assoc.insert s.saf.lineBadAt l s.safClock else s.saf.lineBadAt
    lineGood := Assoc.insert s.saf.lineGood l (if fault || any then 0 else (Assoc.find? s.saf.lineGood l).getD 0 + 1) } }
  let was := bitAt (s.rd Reg.SAF_TP_LINE_FAULT) l
  let s := s.wr Reg.SAF_TP_LINE_FAULT (putBit (s.rd Reg.SAF_TP_LINE_FAULT) l fault)
  let s :=
    if fault then
      let s := if was then s else s.post Un.saf 0x090A l volts10 0
      s.funFaults (fun f => s.funcLine f l) (chLine l) 2 false
    else s
  (chans.foldl (fun s n => s.lineSample l n (on.getLsbD n) (users.getD n 0).toNat) s).matrix

/-- TEST_PULSE_SAMPLE (R262), 300 µs after the off edge: which channels read ON, the line's volts × 10, and the functions
of each channel's contact. -/
def execTestPulseSample (l : Fin 8) (on : BitVec 16) (volts10 : Nat) (users : List (BitVec 64)) (s : State) : Answer :=
  if !bitAt s.saf.smpDue l then .next s
  else .next ((s.waitTo ((Assoc.find? s.saf.pulse l).getD 0 + 300000)).pulseSample l on volts10 users)

/-! ### Excursion timers and commands (R259, R263, R264, R266) -/

/-- EXCURSION_STORE (R266): every minute each remaining time is shown and stored. -/
def execExcursionStore (s : State) : Answer :=
  if s.saf.powered ∧ s.rd Reg.SAF_STAT_STATE ≠ 0 then
    let s := s.waitTo (s.saf.minAt + minute)
    let s := { s with saf := { s.saf with minAt := s.safClock } }
    let s := (List.range 64).foldl (fun s f =>
      if s.rd (Reg.SAF_FUNC_STATE f) = funExcursion then
        s.wr (Reg.SAF_FUNC_REMAIN f) ((s.excOf f).remain s.safClock)
      else s) s
    .next s.safStore
  else .next s

/-- A function's timer reaches 0. -/
def State.funExpire (s : State) (f : Nat) : State :=
  ((s.waitTo (s.excOf f).until_).funTrip f 0x0905 (s.rd (Reg.SAF_FUNC_CAUSE f)) 7).matrix

/-- EXCURSION_EXPIRE (R259, R263): a timer reaches 0. -/
def execExcursionExpire (who : ExcOwner) (s : State) : Answer :=
  if !s.saf.powered then .next s
  else
    match who with
    | .function f => if s.rd (Reg.SAF_FUNC_STATE f) = funExcursion then .next (s.funExpire f) else .next s
    | .matrix =>
      match s.saf.excM with
      | some e => if s.on Reg.TRP_STAT_EXCURSION then .next (s.waitTo e.until_).matrixForce else .next s
      | none => .next s

/-- A function's channels all pass their diagnostics (R263, R284). -/
def State.funPasses (s : State) (f : Nat) : Bool :=
  !s.saf.failA && !s.saf.failB &&
  (List.range 8).all (fun l => !(s.funcLine f l && bitAt (s.rd Reg.SAF_TP_LINE_FAULT) l)) &&
  (List.range 16).all (fun n => !((s.funBad f).contains (chContact n) && bitAt (s.rd Reg.SAF_TP_CH_FAULT) n)) &&
  (List.range 64).all (fun c => !s.funcConn f c || (s.tgConn c).state == 1)

/-- A refused RETURN or RETURN_MATRIX is recorded (R270). -/
def State.safRefuse (s : State) (f why : Nat) : State :=
  (s.cmdStat Reg.SAF_CMD_STAT_STATUS Reg.SAF_CMD_STAT_REASON why).post Un.saf 0x0908 f why 0

/-- A write of SAF_CMD (R259, R263, R264). -/
def State.safCmdWrite (s : State) (value : Nat) : State :=
  let cmd := bits value 0 4
  let f := bits value 8 6
  let stat (s : State) (why : Nat) := s.cmdStat Reg.SAF_CMD_STAT_STATUS Reg.SAF_CMD_STAT_REASON why
  let st := s.rd (Reg.SAF_FUNC_STATE f)
  if bits value 24 8 ≠ 0xA5 ∨ !s.saf.powered then s
  else if cmd = 1 then
    if st = funNone then s.safRefuse f 6
    else if st ≠ funExcursion then s.safRefuse f 2
    else if s.on (Reg.SAF_FUNC_CHECK f) then s.safRefuse f 4
    else if !s.on Reg.SAF_STAT_KEY_MAINT then s.safRefuse f 1
    else
      let s := (stat s 0).wr (Reg.SAF_FUNC_CHECK f) 1
      { s with saf := { s.saf with
        clean := Assoc.insert s.saf.clean f true, checkAt := Assoc.insert s.saf.checkAt f s.safClock } }
  else if cmd = 2 then
    if st = funNone then stat s 6
    else if st ≠ funTripped then stat s 3
    else if !s.funPasses f then stat s 5
    else
      let s := ((stat s 0).wr (Reg.SAF_FUNC_STATE f) funNormal).wr (Reg.SAF_FUNC_CAUSE f) 0
      (s.setFunBad f []).safSummary
  else if cmd = 3 then
    if !s.on Reg.TRP_STAT_EXCURSION then s.safRefuse 0xFF 2
    else if s.saf.excCheck.isSome then s.safRefuse 0xFF 4
    else if !s.on Reg.SAF_STAT_KEY_MAINT then s.safRefuse 0xFF 1
    else
      let s := stat s 0
      { s with saf := { s.saf with excCheck := some true, checkMAt := s.safClock } }
  else s

/-- SAF_RETURN (R264). -/
def execSafReturn (m : Master) (f : Fin 64) (s : State) : Answer :=
  .next (s.access m .w32 true Reg.SAF_CMD.addr (fun s => s.safCmdWrite (0xA5000001 + f * 2 ^ 8)))

/-- SAF_RESET (R263). -/
def execSafReset (m : Master) (f : Fin 64) (s : State) : Answer :=
  .next (s.access m .w32 true Reg.SAF_CMD.addr (fun s => s.safCmdWrite (0xA5000002 + f * 2 ^ 8)))

/-- RETURN_MATRIX (R259). -/
def execReturnMatrix (m : Master) (s : State) : Answer :=
  .next (s.access m .w32 true Reg.SAF_CMD.addr (fun s => s.safCmdWrite 0xA5000003))

/-- MATRIX_CHECK_END (R259), 60 s after RETURN_MATRIX; a timer that reaches 0 before that forces every sink. -/
def execMatrixCheckEnd (s : State) : Answer :=
  match s.saf.excCheck, s.saf.excM with
  | some ok, some e =>
    if e.until_ ≤ s.saf.checkMAt + minute then
      .next (s.waitTo e.until_).matrixForce
    else
    let s := s.waitTo (s.saf.checkMAt + minute)
    let s := { s with saf := { s.saf with excCheck := none } }
    if ok then
      let spent := e.spent s.safClock
      let s := { s with saf := { s.saf with excM := none, storeM := none } }
      let s := ((s.wr Reg.TRP_STAT_EXCURSION 0).wr Reg.TRP_STAT_PLANE_A_OK 1).wr Reg.TRP_STAT_PLANE_B_OK 1
      .next ((s.post Un.saf 0x0907 0xFF spent 0).safSummary.matrix)
    else .next (s.post Un.saf 0x0908 0xFF 0 0)
  | _, _ => .next s

/-- Whether a path is named and its instant lies 1 ms back. -/
def staleNow (named : Bool) (at_ now : Nat) : Bool := named && decide (at_ + 1000000 ≤ now)

/-- The island's side (R309): a path's field has had no good check, or no advance of SSEQ, for 1 ms. -/
def State.fieldStale (s : State) (k : Nat) (spa spb : Bool) : State :=
  let x := s.island k
  let s := s.waitTo (max (if spa then x.safeA.at_ + 1000000 else 0) (if spb then x.safeB.at_ + 1000000 else 0))
  let y := { x with
    safeA := { x.safeA with stale := x.safeA.stale || staleNow spa x.safeA.at_ s.safClock }
    safeB := { x.safeB with stale := x.safeB.stale || staleNow spb x.safeB.at_ s.safClock } }
  s.setIsland k y.openNow

/-- The safety domain's side (R265): the field of an owned island has had no good check for 1 ms. Its channels are
faulty in both paths, and the functions that use it, which the safety application names, trip. -/
def State.fieldLost (s : State) (k : Nat) (spa spb : Bool) (users : Nat) : State :=
  let x := s.island k
  let s := s.waitTo (max (if spa then x.inA + 1000000 else 0) (if spb then x.inB + 1000000 else 0))
  let a := spa && !bitAt x.inStale 0
  let b := spb && !bitAt x.inStale 1
  if !a && !b then s
  else
    let s := s.setIsland k { x with inStale := x.inStale ||| (b2n a + 2 * b2n b) }
    let clear (v : Nat) : Nat := v - bits v (8 * k) 8 * 2 ^ (8 * k)
    let s := { s with saf := { s.saf with sdiA := clear s.saf.sdiA, sdiB := clear s.saf.sdiB } }
    let s := s.post Un.saf 0x090C k (if a && b then 2 else if b then 1 else 0) 0
    (s.funTrips (fun f => bitAt users f && (s.funcRec f).isSome) 6).matrix

/-- SAFETY_FIELD_STALE (R265, R309): on the island's side, or on the safety domain's (`inbound`). -/
def execSafetyFieldStale (k : Fin 8) (inbound spa spb : Bool) (users : BitVec 64) (s : State) : Answer :=
  if !(spa || spb) || !s.islFitted k then .next s
  else if !inbound then .next (if (s.island k).alive then s.fieldStale k spa spb else s)
  else .next (if s.saf.powered && s.safOwned k then s.fieldLost k spa spb users.toNat else s)

end Sys2Proof.Machine
end

