-- ==== Sys2Proof/Machine/Fpl.lean ====
section
/-!
DEFINITION. The Floor Plan loader (R54 to R74, R515): commands, the load at reset, the lock and the landing of soft
sections.
-/
namespace Sys2Proof.Machine

/-! ### Steps 1 to 8 of R54 -/

/-- The KIND that a command accepts (R515): a full image from a slot. -/
def kindSuits (cmd : FplCmd) (kind : Nat) : Bool :=
  match cmd with
  | .verify => kind == 1 || kind == 2
  | .softApply => kind == 2
  | _ => kind == 1

/-- The bit of VARIANTS that stands for a variant (R44). -/
def variantBit : Variant → Nat
  | .lean => 0
  | .standard => 1
  | .full => 2

/-- Steps 1 to 5 over the header `h` of an image of which `n` bytes are delivered; 0 where they pass. -/
def State.fplHeadCheck (s : State) (cmd : FplCmd) (h : List Byte) (n : Nat) : Nat :=
  let tl := le h 8 4
  if n < 64 then fplShort
  else if slice h 0 4 ≠ [0x46, 0x50, 0x4C, 0x4E] then fplMagic
  else if 0x2000000 < tl ∨ tl < 128 ∨ tl % 8 ≠ 0 ∨ tl ≠ n then fplTotalLength
  else if le h 4 1 ≠ 1 then fplVersion
  else if !kindSuits cmd (le h 6 1) || decide (1 < le h 0xE 2) || decide (1024 < le h 0xC 2) || !zeros h 0x11 3 ||
      !zeros h 0x18 40 || decide (7 < le h 0x10 1) then fplHeader
  else if !bitAt (le h 0x10 1) (variantBit s.ident.variant) then fplCapability
  else 0

/-- The signed part of an image, and its signature (R46). -/
def imgBody (b : List Byte) : List Byte := b.take (b.length - 64)
def imgSig (b : List Byte) : List Byte := b.drop (b.length - 64)

/-- Steps 1 to 7: the first pass. -/
def State.fplFirst (s : State) (cmd : FplCmd) (h : List Byte) (n : Nat) (b : List Byte) : Nat :=
  let why := s.fplHeadCheck cmd h n
  if why ≠ 0 then why
  else if cmd = .verify ∧ le h 6 1 = 2 ∧ !s.locked then fplNotLocked
  else if !s.keyUsable (le h 7 1) then fplKey
  else if !Config.imageSignatureGood (le h 7 1) (Config.sha256 (imgBody b)) (imgSig b) then fplSignature
  else 0

/-- Steps 8 to 14: the second pass, over the whole image. -/
def State.fplSecond (s : State) (b : List Byte) : FplWalk :=
  let kind := le b 6 1
  let count := le b 0xC 2
  let w := fplWalk b kind count (b.length - 64) (count + 2) 0x40 0 { ran := true }
  match w.fail with
  | some _ => w
  | none => { w with fail := s.fplSteps kind w.secs }

/-- The loader's outcome is shown (R54); FPL_SKIPPED is that of the last walk. -/
def State.fplShow (s : State) (w : FplWalk) : State :=
  let f := w.fail.getD { reason := 0 }
  let s := ((s.wr Reg.FPL_STAT_REASON f.reason).wr Reg.FPL_FAIL_OFF f.off).wr Reg.FPL_FAIL_TYPE f.type
  if w.ran then s.wr Reg.FPL_SKIPPED_COUNT w.skipped else s

/-- 0x0302. -/
def State.fplReject (s : State) : State :=
  s.post Un.fpl 0x0302 (s.rd Reg.FPL_STAT_REASON) (s.rd Reg.FPL_FAIL_OFF) (s.rd Reg.FPL_FAIL_TYPE)

/-- An accepted image with REVOKE_BELOW blows the revocation fuses of the keys below its own (R47). -/
def State.keyRevoke (s : State) (revoke : Bool) (key serial : Nat) : State :=
  let mask := s.rd Reg.FPL_KEYS_REVOKED ||| (2 ^ key - 1)
  if revoke ∧ mask ≠ s.rd Reg.FPL_KEYS_REVOKED then
    (s.wr Reg.FPL_KEYS_REVOKED mask).post Un.fpl 0x0307 mask key serial
  else s

/-! ### Digests (R60) -/

def fplBefore (x y : Section) : Bool := decide (x.kind < y.kind) || (x.kind == y.kind && decide (x.inst < y.inst))

def secInsert (x : Section) : List Section → List Section
  | [] => [x]
  | y :: t => if fplBefore x y then x :: y :: t else y :: secInsert x t

/-- The digest of sections in ascending order of TYPE and INSTANCE, each with its header and without padding. -/
def secDigest (l : List Section) : List Byte :=
  let sorted := l.foldl (fun (acc : List Section) x => secInsert x acc) []
  Config.sha256 (sorted.flatMap (fun x => leBytes 2 x.kind ++ leBytes 2 x.inst ++ leBytes 4 x.body.length ++ x.body))

/-- FPL_SOFTDIG shows the soft sections in force. -/
def State.softDigShow (s : State) : State :=
  let d := secDigest s.fpl.soft
  (List.range 8).foldl (fun (s : State) i => s.wr (Reg.FPL_SOFTDIG i) (le d (4 * i) 4)) s

/-! ### Commands (R65, R68, R73, R515) -/

/-- The state of the controller decides first (R515). -/
def State.fplState (s : State) (cmd : FplCmd) : Nat :=
  match cmd with
  | .softApply => if s.olcState = olcArmed then fplBusyChange else if !s.locked then fplNotLocked else 0
  | .store .a => if s.rd Reg.FPL_STAT_LOADED_SLOT = 1 then fplSlotInUse else 0
  | .store .b => if s.rd Reg.FPL_STAT_LOADED_SLOT = 2 then fplSlotInUse else 0
  | _ => 0

/-- A command starts: what its first pass finds is held until it completes. -/
def State.fplBegin (s : State) (cmd : FplCmd) : State :=
  let a := s.rd64 Reg.FPL_SRC_LO Reg.FPL_SRC_HI_ADDR_HI
  let n := s.rd Reg.FPL_SRC_LEN
  let st := s.fplState cmd
  let src : Nat := if a % 8 ≠ 0 ∨ !inRam a n then fplSource else 0
  let head := s.bytes a (min n 64)
  let hd := s.fplHeadCheck cmd head n
  let why : Nat := if st ≠ 0 then st else if src ≠ 0 then src else hd
  let b := if why = 0 then s.bytes a n else []
  let why := if why ≠ 0 then why else s.fplFirst cmd head n b
  let fail : Option FplFail := if why = 0 then none else some { reason := why }
  let s := if cmd = .softApply ∧ st = 0 then s.joinAbort else s
  let s := s.wr Reg.FPL_STAT_BUSY 1
  let good := why == 0 && (s.fplSecond b).fail.isNone
  { s with fpl := { s.fpl with op := some { cmd, src := a, len := n, fail, hash := Config.sha256 b, good } } }

/-- A write of FPL_CMD (R73). -/
def State.fplCmdWrite (s : State) (m : Master) (v : Nat) : State :=
  let cmd := v % 16
  if bits v 24 8 ≠ 0xA5 ∨ cmd = 0 ∨ 4 < cmd then s
  else if s.on Reg.FPL_STAT_BUSY then s.refuseWrite m Reg.FPL_CMD.addr
  else if cmd = 1 then s.fplBegin .verify
  else if cmd = 2 then s.fplBegin (.store .a)
  else if cmd = 3 then s.fplBegin (.store .b)
  else s.fplBegin .softApply

/-- FPL_VERIFY (R515). -/
def execFplVerify (m : Master) (s : State) : Answer :=
  .next (s.access m .w32 true Reg.FPL_CMD.addr (fun s => s.fplCmdWrite m 0xA5000001))

/-- FPL_STORE (R65). -/
def execFplStore (m : Master) (slot : Slot) (s : State) : Answer :=
  .next (s.access m .w32 true Reg.FPL_CMD.addr (fun s => s.fplCmdWrite m (if slot = .a then 0xA5000002 else 0xA5000003)))

/-- FPL_SOFT_APPLY (R68). -/
def execFplSoftApply (m : Master) (s : State) : Answer :=
  .next (s.access m .w32 true Reg.FPL_CMD.addr (fun s => s.fplCmdWrite m 0xA5000004))

def slotBytes (f : Fpl) : Slot → List Byte
  | .a => f.slotA
  | .b => f.slotB

/-- A stored image: its bytes, the VALID marker, its length (R65). -/
def State.slotStore (s : State) (slot : Slot) (b : List Byte) : State :=
  let s := match slot with
    | .a => { s with fpl := { s.fpl with slotA := b } }
    | .b => { s with fpl := { s.fpl with slotB := b } }
  let s := (s.wr (Reg.FPL_SLOT_INFO_VALID (slotNo slot)) 1).wr (Reg.FPL_SLOT_INFO_LENGTH (slotNo slot)) b.length
  let s := s.keyRevoke (le b 0xE 2 == 1) (le b 7 1) (le b 0x14 4)
  s.post Un.fpl 0x0306 (slotNo slot) (le b 0x14 4) b.length

/-- FPL_OPERATION_COMPLETE (R54, R58): the second pass, with the hash of the first. -/
def execFplOperationComplete (s : State) : Answer :=
  match s.fpl.op with
  | none => .next s
  | some op =>
    let b := if op.fail.isNone then s.bytes op.src op.len else []
    let w : FplWalk := match op.fail with
      | some f => { fail := some f }
      | none =>
        let w := s.fplSecond b
        if Config.sha256 b ≠ op.hash then { w with fail := some { reason := fplSourceChanged } } else w
    let s := { s with fpl := { s.fpl with op := none } }
    let s := (s.wr Reg.FPL_STAT_BUSY 0).fplShow w
    if w.fail.isSome then .next s.fplReject
    else match op.cmd with
      | .store slot => .next (s.slotStore slot b)
      | .softApply =>
        let secs := (w.secs.map (fun d => d.2)).filter (fun x => secIsW x.kind)
        .next { s with fpl := { s.fpl with softNext := some (softMerge (s.fpl.softNext.getD []) secs), softSerial := le b 0x14 4 } }
      | _ => .next s

/-! ### Soft sections at run time (R68 to R71) -/

/-- The kinds of 0x0305. -/
def softMask (l : List Section) : Nat :=
  ((List.range 4).map (fun j => if l.any (fun x => x.kind == 0x8080 + j) then 2 ^ j else 0)).sum

/-- A pending soft image's sections replace those in force (R68, R69). -/
def State.softLand (s : State) (new : List Section) : State :=
  let s := { s with fpl := { s.fpl with soft := softMerge s.fpl.soft new, softNext := none } }
  let s := if new.any (fun x => x.kind == 0x8080) then s.gbFillBuckets else s
  let s := s.softDigShow
  let s := s.post Un.fpl 0x0305 s.fpl.softSerial (softMask new) (s.rd (Reg.FPL_SOFTDIG 0))
  if s.capOn Reg.SYS_CAPS_NB then s.nbRefreshCheck else s

/-- SOFT_SECTION_LANDING (R68, R70): at a cycle boundary of the slowest task in RUN, at once in STOP and HOLD. In a pair
in step it is the landing of both modules: where the peer does not apply its soft image here (`peer` false), neither
does this module (DESIGN CHOICE, log 192). -/
def execSoftSectionLanding (peer : Bool) (s : State) : Answer :=
  match s.fpl.softNext with
  | none => .next s
  | some new =>
    if !peer && (s.role == roleActive || s.role == roleStandby) then .next s
    else match s.scnMode == modeRun, s.slowest with
    | true, some t =>
      let at_ := s.tickFrc (s.scn.ticks + 1)
      if s.cycleDue t at_ then .next (({ s with frc := max s.frc at_ } : State).softLand new) else .next s
    | _, _ => .next (s.softLand new)

/-! ### The load at reset (R61 to R63, R66, R492) -/

/-- The outcome of a slot: an image, or its failure. -/
def State.slotLoad (s : State) (slot : Slot) : FplWalk :=
  if !s.on (Reg.FPL_SLOT_INFO_VALID (slotNo slot)) then { fail := some { reason := fplEmptySlot } }
  else
    let b := slotBytes s.fpl slot
    let why := s.fplFirst .boot (b.take 64) b.length b
    if why ≠ 0 then { fail := some { reason := why } } else s.fplSecond b

/-- A slot's failure is shown, recorded and kept for 0x0304. -/
def State.slotFailed (s : State) (slot : Slot) (f : FplFail) : State :=
  let s := s.fplReject
  match slot with
  | .a => { s with fpl := { s.fpl with failA := f.reason } }
  | .b => { s with fpl := { s.fpl with failB := f.reason } }

/-- NO_PLAN_ENTRY (R62). -/
def State.noPlan (s : State) : State :=
  let s := (s.wr Reg.FPL_STAT_STATE 2).wr Reg.FPL_STAT_BUSY 0
  (s.post Un.fpl 0x0304 s.fpl.failA s.fpl.failB 0).safNoPlan

/-- An accepted image is held for the lock; its safety section is offered to the safety domain (R66). -/
def State.slotHold (s : State) (slot : Slot) (fallback : Bool) (w : FplWalk) : State :=
  let b := slotBytes s.fpl slot
  let secs := w.secs.map (fun d => d.2)
  let safety := sectionBody secs 0x8070 0
  let im : FplImage := {
    secs, serial := le b 0x14 4, key := le b 7 1, revoke := le b 0xE 2 == 1, slot, fallback
    adopting := safety != s.saf.section_ }
  let s := { s with fpl := { s.fpl with verified := some im } }
  let s := if fallback then
      (s.wr Reg.FPL_STAT_FALLBACK_USED 1).post Un.fpl 0x0303 (s.rd Reg.FPL_BOOT_SLOT) im.serial 0
    else s
  s.safOffer safety

/-- The boot slot is tried, and the other one once (R61). -/
def State.bootTry (s : State) : State :=
  let first : Slot := if s.on Reg.FPL_BOOT_SLOT then .b else .a
  let other : Slot := if s.on Reg.FPL_BOOT_SLOT then .a else .b
  let w := s.slotLoad first
  let s := s.fplShow w
  match w.fail with
  | none => s.slotHold first false w
  | some f =>
    let s := s.slotFailed first f
    if s.on Reg.FPL_BOOT_FALLBACK then
      let w := s.slotLoad other
      let s := s.fplShow w
      match w.fail with
      | none => s.slotHold other true w
      | some f => (s.slotFailed other f).noPlan
    else s.noPlan

/-- The registers that show the Pigeonhole bindings and the queues. -/
def State.queLock (s : State) : State :=
  let s := (List.range 32).foldl (fun (s : State) ch => s.wr (Reg.PGN_CH_STAT_DEPTH ch) (s.pgnDepth ch)) s
  let s := s.wr Reg.QUE_POOL_USED (((List.range 64).map (fun q => s.ringSize q)).sum)
  let s := (List.range 64).foldl (fun (s : State) q =>
    if s.queUsed q then
      let s := ((s.wr (Reg.QUE_CFG_PRODUCER q) (s.queProducer q)).wr (Reg.QUE_CFG_CONSUMER q) (s.queConsumer q)).wr
        (Reg.QUE_CFG_ESIZE q) (s.queEsize q)
      ((s.wr (Reg.QUE_CFG_DEPTH q) (s.queDepth q)).wrB (Reg.QUE_CFG_ROUND_TRIP q) (s.queRound q)).wr (Reg.QUE_ADDR q)
        (s.ringAddr q % 2 ^ 32)
    else s) s
  { s with pgn := [], rx := [] }

/-- Every unit takes its part of the plan. -/
def State.unitsLock (s : State) : State :=
  let s := s.queLock
  let s := (List.range 16).foldl (fun (s : State) t => s.setTaskState t (if s.taskUsed t then taskStopped else taskUnused)) s
  let s := (List.range 8).foldl (fun (s : State) k => if s.islFitted k then s.islLock k else s) s
  let s := (List.range 8).foldl (fun (s : State) c => s.canLock c) s
  let s := (List.range 8).foldl (fun (s : State) p => s.serLock p) s
  s.axLock.loopLock.slvLock.anxLock.wearLock.nbLock

/-- The role that a lock gives (R491): SINGLE, COLD after a lost election, else ALONE. -/
def State.lockRole (s : State) : Nat :=
  if !s.paired then roleSingle else if s.rd Reg.PWR_STAT_ELECT = 5 then roleCold else roleAlone

/-- LK_LOCK (R63). -/
def State.lock (s : State) (im : FplImage) : State :=
  let s := { s with fpl := { s.fpl with
    plan := im.secs.filter (fun x => secIsS x.kind), soft := im.secs.filter (fun x => secIsW x.kind)
    softSerial := im.serial, verified := none } }
  let s := if s.paired then s else s.wr Reg.PWR_STAT_ELECT 0xF
  let s := s.latentCount.wr Reg.BAN_STAT_ROLE s.lockRole
  let s := ((s.wr Reg.FPL_STAT_STATE 3).wr Reg.FPL_STAT_BUSY 0).wr Reg.FPL_STAT_LOADED_SLOT (slotNo im.slot + 1)
  let s := (s.wr Reg.FPL_SERIAL im.serial).wr Reg.FPL_KEYS_USED im.key
  let d := secDigest s.fpl.plan
  let s := (List.range 8).foldl (fun (s : State) i => s.wr (Reg.FPL_STRDIG i) (le d (4 * i) 4)) s
  let s := (s.softDigShow.wr Reg.GB_STAT_PRE_LOCK 0).gbFillBuckets
  let s := s.unitsLock.progShow
  let s := s.wr Reg.PWR_BOOT_LOCK (min (s.rd Reg.PWR_BOOT_RESET / 1000 + s.frc / 1000000) 0xFFFF)
  let s := s.setRole s.role
  let s := s.post Un.fpl 0x0301 im.serial (slotNo im.slot + 1) (s.rd Reg.FPL_SKIPPED_COUNT)
  let s := if im.adopting then s.post Un.fpl 0x0308 (le d 0 4) im.serial 0 else s
  let s := s.keyRevoke im.revoke im.key im.serial
  if s.paired then s.sendRole else s

/-- The lock waits for the safety domain and, in a pair, for the election (R492). -/
def State.bootLock (s : State) : State :=
  match s.fpl.verified with
  | some im =>
    let pair := le (sectionBody im.secs 0x8001 0) 4 1 == 1
    if s.saf.confirmed && (!pair || s.rd Reg.PWR_STAT_ELECT != 0) then s.lock im else s
  | none => s

/-- BOOT_LOAD (R61): the load, and, once what it waits for has come, the lock. -/
def execBootLoad (s : State) : Answer :=
  if !s.power.running ∨ s.rd Reg.FPL_STAT_STATE ≠ 1 then .next s
  else if s.fpl.verified.isSome then .next s.bootLock
  else .next s.bootTry.bootLock

end Sys2Proof.Machine
end

