-- ==== Sys2Proof/Machine/Join.lean ====
section
/-!
DEFINITION. Joining a cold module, rolling upgrade and latent hours (R225 to R244).
-/
namespace Sys2Proof.Machine

/-! ### Phases and reasons (BAN_JOIN_STAT) -/

def phCheck : Nat := 1
def phHamper : Nat := 2
def phReplay : Nat := 3
def phTopup : Nat := 4
def phJoined : Nat := 5
def phUpgrade : Nat := 6

def joinCaps : Nat := 1
def joinStation : Nat := 2
def joinStructure : Nat := 3
def joinProgram : Nat := 4
def joinNoPeer : Nat := 5
def joinHamperCrc : Nat := 6
def joinMismatch : Nat := 7
def joinNotPermitted : Nat := 0xA
def joinNotReady : Nat := 0xB
def joinAxisMoving : Nat := 0xC
def joinDirtyLarge : Nat := 0xD
def joinNoLanding : Nat := 0xE
def joinBusy : Nat := 0xF

def State.setPhase (s : State) (p : Nat) : State := s.wr Reg.BAN_JOIN_STAT_PHASE p
def State.setJoin (s : State) (j : Join) : State := { s with ban := { s.ban with join := some j } }

/-! ### The request and its checks (R225, R226) -/

/-- JOIN_REQUEST goes out (R225), and its answer is awaited. -/
def State.joinAsk (s : State) : State :=
  let s := match s.ban.join with
    | some j => s.setJoin { j with askedAt := s.frc }
    | none => s
  s.banAsk 0x40 (leBytes 4 s.caps ++ leBytes 4 s.station ++ leBytes 4 s.ident.serial ++ s.strDigest ++ s.progDigest ++
    leBytes 4 0)

/-- A module that may ask for a join: cold, in a pair, locked, in STOP, with none in progress. -/
def State.joinMay (s : State) : Bool :=
  s.power.running && s.locked && s.paired && s.role == roleCold && s.scnMode == modeStop && s.ban.join.isNone &&
  !s.on Reg.PWR_STAT_PF_WARN

/-- A join starts with its request. -/
def State.joinBegin (s : State) : State :=
  let s := (s.setPhase phCheck).setJoin { active := false }
  let s := { s with ban := { s.ban with joinDig := s.strDigest ++ s.progDigest } }
  s.joinAsk

/-- JOIN_START (R226): the module has become cold, or a digest of its own has changed. -/
def execJoinStart (s : State) : Answer :=
  if s.joinMay ∧ s.ban.joinDig ≠ s.strDigest ++ s.progDigest then
    .next ({ s with ban := { s.ban with lastFail := 0, stuck := false } } : State).joinBegin
  else .next s

/-- JOIN_RETRY (R226): after 1 s a waiting join is checked again, and a failed one started again, unless it has failed
twice with the same REASON. -/
def execJoinRetry (s : State) : Answer :=
  match s.ban.join with
  | some j =>
    if !j.active ∧ j.waiting then
      let s := { s with frc := max s.frc s.ban.retryAt }
      .next (s.setJoin { j with waiting := false }).joinAsk
    else .next s
  | none =>
    if s.joinMay ∧ s.ban.lastFail ≠ 0 ∧ !s.ban.stuck then
      .next ({ s with frc := max s.frc s.ban.retryAt } : State).joinBegin
    else .next s

/-- JOIN_REQUEST_RESEND (R225): the handshake has failed; the request goes out again 1 ms after the last one, and after
100 failures the join ends with NO_PEER. -/
def execJoinRequestResend (s : State) : Answer :=
  match s.ban.join with
  | some j =>
    if j.active ∨ j.waiting ∨ j.l.isSome ∨ s.ban.hs.any (fun h => h.1 == 0x40) then .next s
    else if 100 ≤ j.resent + 1 then .next ((s.setJoin { j with resent := j.resent + 1 }).joinEnd joinNoPeer)
    else .next (({ s with frc := max s.frc (j.askedAt + 1000000) } : State).setJoin { j with resent := j.resent + 1 }).joinAsk
  | none => .next s

/-- Checks 1 to 4 on the active module: the REASON, 0 where they pass. -/
def State.joinCheck (s : State) (caps station serial : Nat) (sdig pdig : List Byte) : Nat :=
  if caps ≠ s.caps then joinCaps
  else if station ≠ s.station ∨ !s.paired ∨ serial = s.ident.serial then joinStation
  else if sdig ≠ s.strDigest then joinStructure
  else if pdig ≠ s.progDigest then joinProgram
  else 0

/-- Check 5: the active module is free for a join. -/
def State.joinFree (s : State) : Bool :=
  (s.role == roleAlone || s.role == roleActive) && s.ban.inquiry.isNone && s.ban.inqDue == [] && s.ban.ho.isNone &&
  s.olcState != olcArmed && !s.softPending && s.ban.join.isNone && !s.on Reg.PWR_STAT_PF_WARN

/-- The payload of JOIN_ANSWER: REASON, whether the module is admitted for an upgrade, SYS_CAPS, and L (0 while none is
fixed). -/
def State.joinAnswer (s : State) (reason : Nat) (upgrade : Bool) (l : Nat) : State :=
  s.banSend 0x41 (leBytes 1 reason ++ leBytes 1 (b2n upgrade) ++ leBytes 2 0 ++ leBytes 4 s.caps ++ leBytes 8 l)

/-- JOIN_REQUEST (R225, R226, R237): a request replaces a join that its sender has given up. An armed admission is used
by a module that fails only check 3 or 4. L is the first base tick at least two ticks later (R228). -/
def State.joinRequestTake (s : State) (caps station serial : Nat) (sdig pdig : List Byte) : State :=
  let why := s.joinCheck caps station serial sdig pdig
  let upgrade := (why == joinStructure || why == joinProgram) && s.on Reg.BAN_JOIN_STAT_ADMIT
  let own : Bool := match s.ban.join with
    | some j => j.active && !j.upgrade
    | none => false
  let s := s.wr Reg.BAN_PEER_SERIAL serial
  let s := if own then { s with ban := { s.ban with join := none } } else s
  if why ≠ 0 ∧ !upgrade then s.joinAnswer why false 0
  else if !s.joinFree then s.joinAnswer 0 false 0
  else
    let l := s.tickAfter 2
    let s := if upgrade then s.wr Reg.BAN_JOIN_STAT_ADMIT 0 else s
    let s := (s.setPhase phHamper).wr Reg.BAN_JOIN_XFER 0
    let s := s.setJoin { active := true, upgrade, since := s.frc, l := some l }
    s.joinAnswer 0 upgrade l

/-- JOIN_ANSWER (R225, R226, R235): a refusal, a wait, L, or the end of a join that was in progress. -/
def State.joinAnswerTake (s : State) (reason : Nat) (upgrade : Bool) (caps : Nat) (l : Option Nat) : State :=
  match s.ban.join with
  | none => s
  | some j =>
    if j.active then s
    else
      let s := s.hsDone (fun h => h.1 == 0x40)
      if j.l.isSome then (if reason ≠ 0 then s.joinEnd reason else s)
      else if reason ≠ 0 then
        (s.post Un.ban 0x0811 reason (s.rd Reg.BAN_PEER_SERIAL) caps).joinFailed reason
      else match l with
        | none =>
          let s := s.setJoin { j with waiting := true }
          { s with ban := { s.ban with retryAt := s.frc + 1000000000 } }
        | some l =>
          let s := (s.setPhase phHamper).wr Reg.BAN_JOIN_XFER 0
          s.setJoin { j with l := some l, since := s.frc, upgrade }

/-! ### The Hamper on its way (R228, R229, R237) -/

/-- Pieces of at most 2,024 bytes of a part of a section: OFFSET and bytes. -/
def hamPieces : Nat → Nat → List Byte → List (Nat × List Byte)
  | 0, _, _ => []
  | n + 1, off, b => if b.length ≤ 2024 then [(off, b)] else (off, b.take 2024) :: hamPieces n (off + 2024) (b.drop 2024)

/-- The 4 KiB pages of a content, with their offsets, that differ from an older one. -/
def dirtyPages : Nat → Nat → List Byte → List Byte → List (Nat × List Byte)
  | 0, _, _, _ => []
  | n + 1, off, b, old =>
    if b = [] then []
    else (if b.take 4096 = old.take 4096 then [] else [(off, b.take 4096)]) ++
      dirtyPages n (off + 4096) (b.drop 4096) (old.drop 4096)

/-- HAMPER frames of parts of a section; the last one brings the CRC of the whole. -/
def State.hamperSend (s : State) (x : HamperSec) (parts : List (Nat × List Byte)) : State :=
  let head (off : Nat) : List Byte := leBytes 1 x.kind ++ leBytes 1 0 ++ leBytes 2 x.index ++ leBytes 4 off ++
    leBytes 4 x.bytes.length ++ leBytes 4 0
  let cut := parts.flatMap (fun p => hamPieces (p.2.length / 2024 + 1) p.1 p.2)
  let last := cut.getLast?.getD (x.bytes.length, [])
  let s := cut.dropLast.foldl (fun (s : State) f => s.banFrame 0x42 false (head f.1 ++ f.2)) s
  let s := s.banFrame 0x42 true (head last.1 ++ last.2 ++ leBytes 8 (crc64 x.bytes))
  match s.ban.join with
  | some j =>
    let n := j.bytes + (parts.map (fun p => p.2.length)).sum
    let last := x :: j.last.filter (fun y => !(y.kind == x.kind && y.index == x.index))
    (s.setJoin { j with bytes := n, last, acks := j.acks + 1 }).wr Reg.BAN_JOIN_XFER (min (n / 1024) 0xFFFFFFFF)
  | none => s

/-- What was last sent of a section. -/
def Join.sent (j : Join) (x : HamperSec) : List Byte :=
  match j.last.find? (fun y => y.kind == x.kind && y.index == x.index) with
  | some y => y.bytes
  | none => []

/-- The pages written since they were last sent go out again (R237): of each section that has changed. -/
def State.dirtySend (s : State) (now : List HamperSec) : State :=
  match s.ban.join with
  | some j =>
    let changed := now.filter (fun x => x.bytes != j.sent x)
    changed.foldl (fun (s : State) x => s.hamperSend x (dirtyPages (x.bytes.length + 1) 0 x.bytes (j.sent x))) s
  | none => s

/-- One round over what has changed since it was last sent, with its size (R237). -/
def State.dirtyRound (s : State) (j : Join) : State :=
  let now := s.hamperAll ++ s.tasksByPrio.map (fun t => s.hamperTask t)
  let pages := (now.map (fun x => (dirtyPages (x.bytes.length + 1) 0 x.bytes (j.sent x)).length)).sum
  (s.dirtySend now).wr Reg.BAN_JOIN_DIRTY (4 * pages)

/-- HAMPER_SEND (R229): the next section; with all of them acknowledged, a round of the pages written since, for an
upgrade candidate. -/
def execHamperSend (s : State) : Answer :=
  match s.ban.join with
  | some j =>
    if !j.active ∨ !j.took then .next s
    else match j.secs with
      | x :: t => .next ((s.setJoin { j with secs := t }).hamperSend x [(0, x.bytes)])
      | [] => .next (if j.upgrade && j.tasks.isEmpty && j.acks == 0 && j.swapAt.isNone then s.dirtyRound j else s)
  | none => .next s

/-- HAMPER_ACK (R228): a bad CRC ends the join. -/
def State.hamperAckTake (s : State) (kind index : Nat) (good : Bool) : State :=
  match s.ban.join with
  | some j =>
    if !j.active then s
    else if !good then s.joinEnd joinHamperCrc
    else
      let acks := j.acks - 1
      let s := s.setJoin { j with acks }
      if acks = 0 ∧ j.secs = [] ∧ j.took ∧ j.tasks = [] ∧ s.rd Reg.BAN_JOIN_STAT_PHASE = phHamper ∧
          j.last.any (fun x => x.kind == kind && x.index == index) then
        s.setPhase (if j.upgrade then phUpgrade else phReplay)
      else s
  | none => s

/-! ### What the cold module makes of the sections -/

/-- Sections of a soft image (R45, kind 0x01). -/
def rSecs : Nat → List Byte → List Section
  | 0, _ => []
  | n + 1, b =>
    if b.length < 8 then []
    else
      let len := le b 4 4
      { kind := le b 0 2, inst := le b 2 2, body := slice b 8 len } :: rSecs n (b.drop ((8 + len + 7) / 8 * 8))

def rForce : Rd Force := fun b =>
  let p := rB b
  let t := rN p.2
  let y := rN t.2
  let v := rN y.2
  ({ phys := p.1, tgt := t.1, type := y.1, val := v.1 }, v.2)

def State.applyForces (s : State) (b : List Byte) : State :=
  ({ s with scn := { s.scn with forces := (rList rForce b).1 } } : State).forceShow

/-- A task's record. -/
def rTask : Rd (Nat × List Nat × ScanTask) := fun b =>
  let t := rN b
  let w := rTimes rW 4 t.2
  let i := rL w.2
  let o := rL i.2
  let c := rL o.2
  let f := rTimes rB 4 c.2
  let g := rTimes rN 2 f.2
  let flag (n : Nat) : Bool := (f.1[n]?).getD false
  ((t.1, w.1, { input := i.1, output := o.1, committed := c.1, safe := flag 0, fault := flag 1, trapped := flag 2
                restart := flag 3, good := (g.1[0]?).getD 0, done := (g.1[1]?).getD 0 }), g.2)

/-- The mode that the active module has; outside STOP the Scan Engine is awake (R24). -/
def State.takeMode (s : State) (m : Nat) : State :=
  let s := if m = modeStop then s else s.wake .scan
  let s := if m = s.scnMode then s else s.post Un.scn 0x0403 s.scnMode m 3
  s.wr Reg.SCN_STAT_MODE m

/-- A task's record is entered. -/
def State.putTask (s : State) (x : Nat × List Nat × ScanTask) : State :=
  (s.setTask x.1 x.2.2).setWords (Reg.SCN_TASK_STAT x.1).addr x.2.1

/-- Kind 0x03: mode, pending command, TICK, position on the grid, FRC of the tick, FRC of the fastest task's last commit
point, tasks. -/
structure HamMode where
  mode    : Nat
  pending : Nat
  tick    : Nat
  grid    : Option Int
  at_     : Nat
  lastC   : Nat
  tasks   : List (Nat × List Nat × ScanTask)
  deriving DecidableEq, Repr

def rMode (b : List Byte) : HamMode :=
  let n := rTimes rN 3 b
  let g := rOpt rI n.2
  let m := rTimes rN 2 g.2
  let num (l : List Nat) (i : Nat) : Nat := (l[i]?).getD 0
  { mode := num n.1 0, pending := num n.1 1, tick := num n.1 2, grid := g.1, at_ := num m.1 0, lastC := num m.1 1
    tasks := (rList rTask m.2).1 }

/-- Where a base tick lies on a replay's own grid. -/
def replayFrc (tick : Nat) : Nat := tick * baseTick

/-- Mode, pending command and tasks (kind 0x03); the replay's grid runs on TICK. -/
def State.applyTasks (s : State) (b : List Byte) : State :=
  let m := rMode b
  let s := (s.takeMode m.mode).wr Reg.SCN_STAT_PENDING m.pending
  let s := m.tasks.foldl (fun (s : State) x => s.putTask x) s
  let s : State := { s with
    scn := { s.scn with origin := m.grid.map (fun g => ((m.tick : Int) - g) * baseTick) }
    ban := { s.ban with lastC := replayFrc m.tick + m.lastC - m.at_ } }
  match s.ban.join with
  | some j => s.setJoin { j with reached := m.tick - 1 }
  | none => s

def rInst : Rd Inst := fun b =>
  let n := rTimes rN 6 b
  let d := rOpt rL n.2
  let e := rN d.2
  let f := rTimes rB 5 e.2
  let num (i : Nat) : Nat := (n.1[i]?).getD 0
  let flag (i : Nat) : Bool := (f.1[i]?).getD false
  ({ id := num 0, type := num 1, off := num 2, size := num 3, task := num 4, flags := num 5, data := d.1, et := e.1
     m := flag 0, run := flag 1, q := flag 2, fresh := flag 3, stepped := flag 4 }, f.2)

/-- Instances take the place of a task's own. -/
def State.applyInsts (s : State) (t : Nat) (new : List Inst) : State :=
  let put (l : List Inst) (x : Inst) : List Inst := (l.filter (fun y => y.id < x.id)) ++ [x] ++ l.filter (fun y => x.id < y.id)
  { s with scn := { s.scn with insts := new.foldl put (s.scn.insts.filter (fun x => x.task != t)) } }

/-- Kind 0x04: a task's record at its snapshot point, and its instances. -/
def rTaskSec (b : List Byte) : (Nat × List Nat × ScanTask) × List Inst :=
  let t := rTask b
  (t.1, (rList rInst t.2).1)

def State.applyTask (s : State) (t : Nat) (b : List Byte) : State :=
  let x := rTaskSec b
  (s.putTask (t, x.1.2)).applyInsts t x.2

def rTune : Rd TunePend := fun b =>
  let i := rB b
  let m := rN i.2
  ({ at_ := none, init := i.1, master := m.1 }, m.2)

/-- A loop of kind 0x05: its number, 19 words, the active set, what is pending. -/
def rLoopSet : Rd (Nat × List Nat × List Nat × Option TunePend) := fun b =>
  let n := rN b
  let w := rTimes rW 19 n.2
  let a := rList rN w.2
  let t := rOpt rTune a.2
  ((n.1, w.1, a.1, t.1), t.2)

/-- Tuning sets of the loops that LOOPS defines here. -/
def State.applyLoops (s : State) (b : List Byte) : State :=
  (rList rLoopSet b).1.foldl (fun (s : State) x =>
    if s.loopOn x.1 then
      (s.setWords (Reg.LOOP_COEF x.1 0).addr x.2.1).setLoop x.1 { s.loop x.1 with active := x.2.2.1, tune := x.2.2.2 }
    else s) s

/-- A queue of kind 0x06: number, record, index words, ring, SEQ and LOST, posting ages. -/
structure HamQueue where
  q    : Nat
  rec_ : List Byte
  idx  : List Nat
  ring : List Byte
  seq  : Nat
  lost : Nat
  ages : List Int
  deriving DecidableEq, Repr

def rQueue : Rd HamQueue := fun b =>
  let q := rN b
  let r := rTake 8 q.2
  let w := rTimes rW 5 r.2
  let g := rL w.2
  let n := rTimes rN 2 g.2
  let a := rList rI n.2
  ({ q := q.1, rec_ := r.1, idx := w.1, ring := g.1, seq := (n.1[0]?).getD 0, lost := (n.1[1]?).getD 0, ages := a.1 }, a.2)

/-- A message, and how long ago it became visible. -/
def rMsg : Rd (PgnMsg × Int) := fun b =>
  let n := rTimes rN 4 b
  let p := rL n.2
  let f := rTimes rB 2 p.2
  let num (i : Nat) : Nat := (n.1[i]?).getD 0
  let a := rI f.2
  (({ len := num 0, kind := num 1, seq := num 2, param := num 3, payload := p.1, visible := (f.1[0]?).getD false
      opened := (f.1[1]?).getD false }, a.1), a.2)

/-- A Pigeonhole channel of kind 0x06. -/
structure HamChan where
  ch   : Nat
  rec_ : List Byte
  regs : List Nat
  acc  : Nat
  ages : List Int          -- since its TIMEOUT began, and since its sender last cleared one
  msgs : List (PgnMsg × Int)
  deriving DecidableEq, Repr

def rChan : Rd HamChan := fun b =>
  let c := rN b
  let r := rTake 16 c.2
  let w := rTimes rW 2 r.2
  let n := rN w.2
  let a := rTimes rI 2 n.2
  let m := rList rMsg a.2
  ({ ch := c.1, rec_ := r.1, regs := w.1, acc := n.1, ages := a.1, msgs := m.1 }, m.2)

/-- Entries of a queue that have not been consumed: PI − CI. -/
def HamQueue.left (x : HamQueue) : Nat := idxDiff ((x.idx[0]?).getD 0) ((x.idx[3]?).getD 0)

/-- Queues and channels of kind 0x06 whose records are the same here; the count of unconsumed entries of the others. -/
def State.applyQueues (s : State) (b : List Byte) : State × Nat :=
  let qs := rList rQueue b
  let cs := rList rChan qs.2
  let s := qs.1.foldl (fun (s : State) x =>
    if x.rec_ = s.queRec x.q then
      let s := (s.setWords (Reg.QUE_PI x.q).addr x.idx).setBytes (s.ringAddr x.q) x.ring
      let s := s.setRxCount x.q { seq := x.seq, lost := x.lost }
      { s with posted := if x.ages = [] then s.posted else Assoc.insert s.posted x.q (x.ages.map (fun i => s.fromAge i)) }
    else s) s
  let s := cs.1.foldl (fun (s : State) x =>
    if x.rec_ = s.pgnRec x.ch then
      let at_ (i : Nat) : Nat := s.fromAge ((x.ages[i]?).getD 0)
      (s.setWords (Reg.PGN_CH_STAT x.ch).addr x.regs).setChan x.ch
        { msgs := x.msgs.map (fun m => { m.1 with seenAt := s.fromAge m.2 }), accepted := x.acc, since := at_ 0, armAt := at_ 1 }
    else s) s
  (s, ((qs.1.filter (fun x => x.rec_ != s.queRec x.q)).map (fun x => x.left)).sum)

/-- Readback blocks, and the Guestbook sequence from the greater of the two (R231). -/
def State.applyBlock (s : State) (b : List Byte) : State :=
  let w := rTimes rW 2 b
  let n := rN w.2
  (s.setWords Reg.BAN_RB_BLOCK_LO.addr w.1).wr Reg.GB_NEXT_SEQ (max (s.rd Reg.GB_NEXT_SEQ) n.1)

/-- A section of the Hamper acts on a cold module that joins. -/
def State.applySec (s : State) (x : HamperSec) : State :=
  match x.kind with
  | 1 =>
    let s := ({ s with fpl := { s.fpl with soft := rSecs x.bytes.length x.bytes } } : State).softDigShow
    s.gbFillBuckets
  | 2 => s.applyForces x.bytes
  | 3 => s.applyTasks x.bytes
  | 4 => s.applyTask x.index x.bytes
  | 5 => s.applyLoops x.bytes
  | 6 => (s.applyQueues x.bytes).1
  | 7 => s.applyBlock x.bytes
  | _ => s

/-- A section that has been received. -/
def Join.sec (j : Join) (k i : Nat) : Option (List Byte) :=
  (j.secs.find? (fun x => x.kind == k && x.index == i)).map (fun x => x.bytes)

/-- Everything of the Hamper is here: the kinds of L, and every task that kind 0x03 names. -/
def Join.complete (j : Join) : Bool :=
  [1, 2, 3, 5, 6, 7].all (fun k => (j.sec k 0).isSome) &&
  (rMode ((j.sec 3 0).getD [])).tasks.all (fun t => (j.sec 4 t.1).isSome)

/-- The Hamper is complete: replay begins, or the candidate is ready. -/
def State.hamperDone (s : State) : State :=
  match s.ban.join with
  | some j =>
    if s.rd Reg.BAN_JOIN_STAT_PHASE ≠ phHamper ∨ !j.complete then s
    else if j.upgrade then
      (s.setPhase phUpgrade).post Un.ban 0x0814 s.ident.serial (le s.strDigest 0 4) (le s.progDigest 0 4)
    else
      let first := j.secs.filter (fun x => x.kind == 3) ++ j.secs.filter (fun x => x.kind != 3)
      (first.foldl (fun (s : State) x => s.applySec x) s).setPhase phReplay
  | none => s

/-! ### Top-up (R234) -/

def rAxis (s : State) : Rd Axis := fun b =>
  let block := rL b
  let next := rOpt rL block.2
  let err := rN next.2
  let kin := rTimes rI 3 err.2
  let plan := rOpt (rTimes rI 3) kin.2
  let creep := rOpt (fun b =>
    let p := rTimes rI 2 b
    let n := rTimes rN 2 p.2
    (({ p0 := (p.1[0]?).getD 0, t := (p.1[1]?).getD 0, n := (n.1[0]?).getD 0, i := (n.1[1]?).getD 0 } : AxCreep), n.2)) plan.2
  let tgt := rI creep.2
  let f := rTimes rB 2 tgt.2
  let keep := rOpt (rTimes rN 2) f.2
  let lims := rTimes rN 4 keep.2
  let count := rN lims.2
  let hist := rList rN count.2
  let pc0 := rI hist.2
  let e0 := rN pc0.2
  let bad := rI e0.2
  let beyond := rN bad.2
  let lv := rI beyond.2
  let lo := rOpt rN lv.2
  let hi := rOpt rN lo.2
  let st := rN hi.2
  let go := rB st.2
  let ages := rTimes rI 2 go.2
  let g := rTimes rB 2 ages.2
  let i (l : List Int) (n : Nat) : Int := (l[n]?).getD 0
  let n_ (l : List Nat) (n : Nat) : Nat := (l[n]?).getD 0
  let b_ (l : List Bool) (n : Nat) : Bool := (l[n]?).getD false
  ({ block := block.1, next := next.1, err := err.1, pos := i kin.1 0, vel := i kin.1 1, acc := i kin.1 2
     plan := plan.1.map (fun l => (i l 0, i l 1, i l 2)), creep := creep.1, tgt := tgt.1, pass := b_ f.1 0, stay := b_ f.1 1
     keep := keep.1.map (fun l => (n_ l 0, n_ l 1)), lims := (n_ lims.1 0, n_ lims.1 1, n_ lims.1 2, n_ lims.1 3)
     count := count.1, hist := hist.1, pc0 := pc0.1, e0 := e0.1, badTo := s.fromAge bad.1, beyond := beyond.1, loopVel := lv.1
     stageLo := lo.1, stageHi := hi.1, stager := st.1, stageGo := go.1, since := s.fromAge (i ages.1 0), lastAt := s.frc
     checkAt := s.fromAge (i ages.1 1), neg := b_ g.1 0, resume := b_ g.1 1 }, g.2)

/-- A loop of the top-up: number, 4 words, dynamic state. -/
def rLoopDyn (s : State) : Rd (Nat × List Nat × Loop) := fun b =>
  let n := rN b
  let w := rTimes rW 4 n.2
  let v := rTimes rI 4 w.2
  let p := rOpt rI v.2
  let c := rL p.2
  let safe := rB c.2
  let last := rN safe.2
  let bad := rB last.2
  let badN := rN bad.2
  let f := rTimes rB 2 badN.2
  let x := rOpt rI f.2
  let d := rB x.2
  let i (k : Nat) : Int := (v.1[k]?).getD 0
  ((n.1, w.1, { s.loop n.1 with
      i := i 0, dPrev := i 1, xdPrev := i 2, uPrev := i 3, pend := p.1, cmd := c.1, safe := safe.1, last := last.1
      bad := bad.1, badN := badN.1, held := (f.1[0]?).getD false, dl := (f.1[1]?).getD false, lastX := x.1, down := d.1 }), d.2)

/-- The loops and axes of a top-up act; an axis whose AXIS payload differs stays as it is (R239). -/
def State.applyTopup (s : State) (b : List Byte) : State × List Byte :=
  let j := rTimes rN 2 b
  let n := rN j.2
  let g := rOpt rI n.2
  let c := rN g.2
  let l := rList (rLoopDyn s) c.2
  let a := rList (fun b =>
    let k := rN b
    let p := rL k.2
    let w := rTimes rW 13 p.2
    let x := rAxis s w.2
    ((k.1, p.1, w.1, x.1), x.2)) l.2
  let first := g.1.map (fun i => s.fromAge i)
  let s := { s with lp := { s.lp with
    ticks := n.1, base := n.1, tick0 := if s.lp.tick0.isSome then first.orElse (fun _ => s.lp.tick0) else none, crc := c.1 } }
  let s := l.1.foldl (fun (s : State) (x : Nat × List Nat × Loop) =>
    if s.loopOn x.1 then (s.setLoop x.1 x.2.2).setWords (Reg.LOOP_STATE x.1).addr x.2.1 else s) s
  let s := a.1.foldl (fun (s : State) (x : Nat × List Byte × List Nat × Axis) =>
    if s.axOn x.1 ∧ s.plan 0x8022 x.1 = x.2.1 then (s.setAxis x.1 { x.2.2.2 with loss := (s.axis x.1).loss }).setWords (Reg.AX_STATE x.1).addr x.2.2.1 else s) s
  let s := if (List.range 8).any (fun x => s.axOn x && s.rd (Reg.AX_STATE_STATE x) != axDisabled) then s.wake .axes else s
  (s.axShowAll, a.2)

def State.applySlots (s : State) (b : List Byte) : State :=
  if !s.slvOn then s else
  let l := rList rSlot b
  let q := rList (fun b =>
    let k := rN b
    let n := rN k.2
    ((k.1, n.1), n.2)) l.2
  let c := rN q.2
  let s := { s with slv := { s.slv with slots := l.1, seqs := q.1, crc := c.1 } }
  (List.range 16).foldl (fun (s : State) k => s.slvShowSlot k) s

/-- Where an instant of the peer's falls on this module: the base tick that it is there, as a frame sent at `sent` tells of
the peer's FRC (R194). -/
def State.gridAt (s : State) (sent at_ : Nat) : Nat :=
  let since := sent - at_ + s.rd Reg.BAN_RTT_RTT / 2
  ((s.frc : Int) - since - (match s.scn.lastTick with
    | some p => tickOff p s.frc since
    | none => 0)).toNat

/-- The states of a top-up as from the instant that they were taken. -/
def State.topupAt (s : State) (at_ : Nat) (b : List Byte) : State :=
  let r := ({ s with frc := at_ } : State).applyTopup b
  { r.1 with frc := s.frc }.applySlots r.2

/-- TOPUP (R234, R239): the states are held until J, whose tick it names; an upgrade candidate takes them at once. -/
def State.topupTake (s : State) (sent : Nat) (b : List Byte) : State :=
  match s.ban.join with
  | some j =>
    let at_ := s.gridAt sent (le b 8 8)
    if j.active then s
    else if j.upgrade then s.topupAt at_ b
    else s.setJoin { j with topup := some b, j := some (le b 0 8), tickAt := at_ }
  | none => s

/-- CAUGHT_UP (R234): J is the first base tick at least 4 ticks after receipt. The states follow at J. -/
def State.caughtUpTake (s : State) : State :=
  match s.ban.join with
  | some j =>
    if j.active && !j.upgrade && j.j.isNone then (s.setPhase phTopup).setJoin { j with j := some (s.tickAfter 4) } else s
  | none => s

/-- JOINED (R234): the active module has a standby in step. -/
def State.joinedTake (s : State) : State :=
  match s.ban.join with
  | some j =>
    if j.active && !j.upgrade && j.j.isSome then
      let ms := min ((s.frc - j.since) / 1000000) 0xFFFF
      let s := { s with ban := { s.ban with join := none } }
      let s := ((s.setPhase phJoined).wr Reg.BAN_JOIN_PROG_TIME ms).setPeerRole roleStandby
      (s.setRole roleActive).sendRole
    else s
  | none => s

/-! ### Rolling upgrade (R237 to R239) -/

/-- A planned swap's REASON (R238): the first row that applies; the landing where none does: with every task affected, in STOP
within 1 ms (R98). -/
def State.swapCheck (s : State) (differ : Nat) : Nat × Nat :=
  let ready : Bool := match s.ban.join with
    | some j => j.active && j.upgrade && s.rd Reg.BAN_JOIN_STAT_PHASE == phUpgrade && j.swapAt.isNone
    | none => false
  let rest (a : Nat) : Bool := [axDisabled, axAtRest, axParked].contains (s.rd (Reg.AX_STATE_STATE a))
  let moving := (List.range 8).any (fun a => bitAt differ a && s.axOn a && !rest a)
  let land := if s.scnMode = modeStop then some (s.scn.ticks + 2)
    else s.commonStart (fun t => s.taskUsed t) (s.slowestOf (fun t => s.taskUsed t)) (s.tickAfter 2)
  let busy := s.olcState == olcArmed || s.softPending || s.ban.inquiry.isSome || s.ban.inqDue != []
  if !s.on Reg.SCN_STAT_FORCE_PERMIT then (joinNotPermitted, 0)
  else if !ready then (joinNotReady, 0)
  else if moving then (joinAxisMoving, 0)
  else if 8192 < s.rd Reg.BAN_JOIN_DIRTY then (joinDirtyLarge, 0)
  else if land.isNone then (joinNoLanding, 0)
  else if busy then (joinBusy, 0)
  else (0, land.getD 0)

/-- A write of BAN_JOIN_CMD, which shows its outcome in REASON (R516). DESIGN CHOICE (log 182): a JOIN that cannot run is
refused with BUSY where a join is in progress, else with NOT_READY, as is an UPGRADE_ADMIT on a module that is not in
control of a pair. `differ` names the axes whose AXIS payload the candidate's image changes. -/
def State.joinCmdWrite (s : State) (v differ : Nat) : State :=
  let cmd := v % 16
  if bits v 24 8 ≠ 0xA5 then s
  else if cmd = 1 then
    if s.joinMay then
      ({ s with ban := { s.ban with lastFail := 0, stuck := false } } : State).joinBegin.wr Reg.BAN_JOIN_STAT_REASON 0
    else s.wr Reg.BAN_JOIN_STAT_REASON (if s.ban.join.isSome then joinBusy else joinNotReady)
  else if cmd = 2 then
    if s.role ≠ roleActive ∧ s.role ≠ roleAlone then s.wr Reg.BAN_JOIN_STAT_REASON joinNotReady
    else if !s.on Reg.SCN_STAT_FORCE_PERMIT then s.wr Reg.BAN_JOIN_STAT_REASON joinNotPermitted
    else
      let s := (s.wr Reg.BAN_JOIN_STAT_ADMIT 1).wr Reg.BAN_JOIN_STAT_REASON 0
      { s with ban := { s.ban with admitAt := s.frc } }
  else if cmd = 3 then
    let r := s.swapCheck differ
    let s := s.wr Reg.BAN_JOIN_STAT_REASON r.1
    if r.1 ≠ 0 then s.post Un.ban 0x0817 r.1 (s.rd Reg.BAN_JOIN_DIRTY) 0
    else match s.ban.join with
      | some j => (s.setJoin { j with swapAt := some r.2 }).banSend 0x48 (leBytes 8 r.2)
      | none => s
  else if cmd = 4 then
    let s := s.wr Reg.BAN_JOIN_STAT_ADMIT 0
    let s := match s.ban.join with
      | some j => if j.active && j.upgrade && !j.stopped then s.joinAbort else s
      | none => s
    s.wr Reg.BAN_JOIN_STAT_REASON 0
  else s

/-- BAN_JOIN (R226). -/
def execBanJoin (m : Master) (s : State) : Answer :=
  .next (s.access m .w32 true Reg.BAN_JOIN_CMD.addr (fun s => s.joinCmdWrite 0xA5000001 0))

/-- UPGRADE_ADMIT (R237). -/
def execUpgradeAdmit (m : Master) (s : State) : Answer :=
  .next (s.access m .w32 true Reg.BAN_JOIN_CMD.addr (fun s => s.joinCmdWrite 0xA5000002 0))

/-- UPGRADE_ADMIT_LAPSE (R237). -/
def execUpgradeAdmitLapse (s : State) : Answer :=
  if s.on Reg.BAN_JOIN_STAT_ADMIT then
    .next (({ s with frc := max s.frc (s.ban.admitAt + 3600000000000) } : State).wr Reg.BAN_JOIN_STAT_ADMIT 0)
  else .next s

/-- ABANDON_UPGRADE (R237). -/
def execAbandonUpgrade (m : Master) (s : State) : Answer :=
  .next (s.access m .w32 true Reg.BAN_JOIN_CMD.addr (fun s => s.joinCmdWrite 0xA5000004 0))

/-- BAN_SWAP (R238). -/
def execBanSwap (m : Master) (differ : BitVec 8) (s : State) : Answer :=
  .next (s.access m .w32 true Reg.BAN_JOIN_CMD.addr (fun s => s.joinCmdWrite 0xA5000003 differ.toNat))

/-- SWAP (R239): the candidate learns S; the sections that follow are the final ones. -/
def State.swapTake (s : State) (landing : Nat) : State :=
  match s.ban.join with
  | some j => if !j.active && j.upgrade then s.setJoin { j with swapAt := some landing, final := [] } else s
  | none => s

/-- SWAP_LANDING (R239): at S the active module starts no execute, commits nothing further, and sends its final
pages: the tasks' first, then the kinds of L again. -/
def execSwapLanding (s : State) : Answer :=
  match s.ban.join with
  | some j =>
    match j.swapAt with
    | some n =>
      if j.active ∧ j.upgrade ∧ !j.stopped ∧ s.scn.ticks + 1 = n then
        let s := { s with frc := max s.frc (s.tickFrc n) }
        let s := { s with scn := { s.scn with lastTick := some (s.tickFrc n), ticks := n } }
        let s := s.setJoin { j with stopped := true, swapFrc := s.frc }
        let s := s.dirtySend (s.tasksByPrio.map (fun t => s.hamperTask t))
        .next (s.hamperAll.foldl (fun (s : State) x => s.hamperSend x [(0, x.bytes)]) s)
      else .next s
    | none => .next s
  | none => .next s

/-- The candidate maps the state (R239): task instances, forces, loops, queues and mode; its counts. S, and the old module's
last commit point of the fastest task, fall on its own grid where `at_` says. -/
def State.swapMap (s : State) (j : Join) : State × Nat × Nat :=
  let body (k : Nat) : List Byte := (j.sec k 0).getD []
  let old := (j.secs.filter (fun x => x.kind == 4)).flatMap (fun x => (rTaskSec x.bytes).2)
  let reset := s.scn.insts.filter (fun x => old.any (fun y => y.id == x.id && y.type != x.type))
  let s := reset.foldl (fun s x =>
    s.post Un.scn 0x0405 x.id ((old.find? (fun y => y.id == x.id)).map (fun y => y.type) |>.getD 0) x.type) s
  let s := s.mapInsts (fun x => carryInst old x)
  let s := ((s.applyForces (body 2)).forcesSettle).applyLoops (body 5)
  let q := s.applyQueues (body 6)
  let m := rMode (body 3)
  let s := q.1.applyBlock (body 7)
  let s := (s.takeMode m.mode).wr Reg.SCN_STAT_PENDING m.pending
  let s := m.tasks.foldl (fun (s : State) x => if s.taskUsed x.1 then s.putTask (x.1, x.2.1, { x.2.2 with input := [] }) else s) s
  let s : State := { s with
    scn := { s.scn with origin := m.grid.map (fun n => (j.tickAt : Int) - n * baseTick) }
    ban := { s.ban with lastC := j.tickAt + m.lastC - m.at_ } }
  (s, reset.length, q.2)

/-- The candidate has the final sections: it maps the state, sends READY and takes the terminals from the 20th µs on
(R214, R239). DESIGN CHOICE (log 209): READY is the notice's receipt. -/
def State.swapReady (s : State) : State :=
  match s.ban.join with
  | some j =>
    if j.swapAt.isSome && [1, 2, 3, 5, 6, 7].all (fun k => j.final.contains (k, 0)) && s.ban.ho.isNone then
      let r := s.swapMap j
      let s := r.1.banSend 0x49 (leBytes 4 r.2.1 ++ leBytes 4 r.2.2)
      let s := ((s.wr Reg.BAN_STAT_HANDOVER 1).wr Reg.BAN_HO_TRIGGER 9).wr Reg.BAN_HO_SKIPPED 0
      let s := s.bump Reg.BAN_HO_CNT_COUNT
      let ramp := s.frc + 20000
      let s := s.banSend 0x32 (leBytes 8 (ramp - s.scn.lastTick.getD 0))
      { s with ban := { s.ban with
          ho := some { old := false, trigger := 9, before := s.role, at_ := s.frc, lastC := s.ban.lastC, ramp := some ramp } } }
    else s
  | none => s

/-- A fragment goes into its section: what a round leaves out stays as it was. -/
def Join.patch (j : Join) (k i offset : Nat) (data : List Byte) : List Byte :=
  let so := match j.parts.find? (fun x => x.kind == k && x.index == i) with
    | some x => x.bytes
    | none => (j.sec k i).getD []
  padTo offset so ++ data ++ so.drop (offset + data.length)

/-- HAMPER (R228): a fragment; the last one brings the CRC of its section, which is acknowledged. -/
def State.hamperTake (s : State) (sent k i offset total : Nat) (last : Bool) (data : List Byte) : State :=
  match s.ban.join with
  | none => s
  | some j =>
    if j.active ∨ j.l.isNone then s
    else
      let parts := j.parts.filter (fun x => !(x.kind == k && x.index == i))
      if !last then s.setJoin { j with parts := ⟨k, i, j.patch k i offset data⟩ :: parts }
      else
        let own := data.take (data.length - 8)
        let all := (j.patch k i offset own).take total
        let good := crc64 all == leVal (data.drop (data.length - 8))
        let s := s.banSend 0x43 (leBytes 1 k ++ leBytes 1 (b2n good) ++ leBytes 2 i)
        if !good then (s.setJoin { j with parts }).joinEnd joinHamperCrc
        else
          let secs := j.secs.filter (fun x => !(x.kind == k && x.index == i)) ++ [⟨k, i, all⟩]
          let final := if j.swapAt.isSome then (k, i) :: j.final else j.final
          let tickAt := if k = 3 then s.gridAt sent (rMode all).at_ else j.tickAt
          let n := j.bytes + all.length
          let s := (s.setJoin { j with parts, secs, final, tickAt, bytes := n }).wr Reg.BAN_JOIN_XFER (min (n / 1024) 0xFFFFFFFF)
          s.hamperDone.swapReady

/-- READY (R239): the loop and axis states follow at the next tick, and the terminals transfer with trigger 9. -/
def State.readyTake (s : State) (resets discarded : Nat) : State :=
  match s.ban.join with
  | some j =>
    if j.active && j.stopped && s.ban.ho.isNone then
      let mapUs := (s.frc - j.swapFrc) / 1000
      let s := s.setJoin { j with mapUs, resets, discarded, j := some (s.scn.ticks + 1) }
      let before := s.role
      let s := s.post Un.ban 0x0806 9 before (s.rd Reg.BAN_PEER_SERIAL)
      let s := ((s.wr Reg.BAN_HO_TRIGGER 9).wr Reg.BAN_HO_SKIPPED 0).wr Reg.BAN_STAT_HANDOVER 1
      let s := s.bump Reg.BAN_HO_CNT_COUNT
      { s with ban := { s.ban with ho := some { old := true, trigger := 9, before, at_ := s.frc, lastC := s.ban.lastC } } }
    else s
  | none => s

/-! ### Latent hours (R242) -/

/-- LATENT_LIMIT_REACHED (R242): the hour that reaches a non-zero LIMIT has passed. -/
def execLatentLimitReached (s : State) : Answer :=
  let s := s.latentCount
  let limit := s.rd Reg.BAN_LATENT_LIMIT
  if s.power.running ∧ limit ≠ 0 ∧ limit ≤ s.rd Reg.BAN_LATENT_HOURS ∧ !s.ban.latDone then
    .next (({ s with ban := { s.ban with latDone := true } } : State).post Un.ban 0x0816 (s.rd Reg.BAN_LATENT_HOURS) limit 0)
  else .next s

end Sys2Proof.Machine
end

