-- ==== Sys2Proof/Machine/Keys.lean ====
section
/-!
DEFINITION. The front keys, the keyswitch and the service port (R332, R504, R507).
-/
namespace Sys2Proof.Machine

/-- A session opens or ends: KEY_SESSION and the trim box follow. -/
def State.keySet (s : State) (y : KeySession) (open_ : Bool) : State :=
  let s := s.wrB (Reg.ISL_AN_STAT_KEY_SESSION y.island y.ch) open_
  { s with key := if open_ then some y else none, nb := { s.nb with boxDue := open_ } }

/-- The session ends and the trim returns to the value held before it. -/
def State.keyRestore (s : State) : State :=
  match s.key with
  | some y => (s.wr (Reg.ISL_AN_TRIM y.island y.ch) y.before).keySet y false
  | none => s

/-- KEY_MENU (R332): a selection of island, channel and ZERO or SPAN. A refusal shows on the KEY LED (R7, R508). -/
def execKeyMenu (k c : Fin 8) (span : Bool) (s : State) : Answer :=
  let no (why : Nat) : Answer := .next (({ s with keyRefused := some s.frc } : State).post (islSource k) 0x0B2A (8 * k + c) why 0)
  if !s.power.running || !s.keyMaint || s.key.isSome then .next s
  else if !(s.nbPanel && s.nbStrip) then no 1
  else if !s.chAnalog k c then no 2
  else if s.islFault k then no 3
  else .next (s.keySet { island := k, ch := c, span, before := s.rd (Reg.ISL_AN_TRIM k c), pressAt := s.frc } true)

/-- A press of UP or DOWN changes the trim by one unit, within its limits (R329). -/
def State.keyStep (s : State) (by_ : Int) : State :=
  match s.key with
  | none => s
  | some y =>
    let old := s.rd (Reg.ISL_AN_TRIM y.island y.ch)
    let zero := sgn 16 (bits old 0 16)
    let span := bits old 16 16
    let s := { s with key := some { y with pressAt := s.frc } }
    let new := if y.span then ((span + by_).toNat) * 2 ^ 16 + bits old 0 16 else span * 2 ^ 16 + toBits 16 (zero + by_)
    if trimOk new then
      let s := s.wr (Reg.ISL_AN_TRIM y.island y.ch) new
      { s with nb := { s.nb with boxDue := true } }
    else s

/-- KEY_UP (R332). -/
def execKeyUp (s : State) : Answer := .next (s.keyStep 1)

/-- KEY_DOWN (R332). -/
def execKeyDown (s : State) : Answer := .next (s.keyStep (-1))

/-- KEY_ENTER (R332): the value is stored, as by a write that the keys make. -/
def execKeyEnter (s : State) : Answer :=
  match s.key with
  | some y => .next ((s.keySet y false).post (islSource y.island) 0x0B29 (8 * y.island + y.ch)
      (s.rd (Reg.ISL_AN_TRIM y.island y.ch)) 0)
  | none => .next s

/-- KEY_ESC (R332). -/
def execKeyEsc (s : State) : Answer := .next s.keyRestore

/-- KEY_SESSION_TIMEOUT (R332): 10 min have passed without a key press. -/
def execKeySessionTimeout (s : State) : Answer :=
  match s.key with
  | some y => .next { s with frc := max s.frc (y.pressAt + 600000000000) }.keyRestore
  | none => .next s

/-- KEYSWITCH_CHANGE (R104, R264, R332, R504, R507): what each domain's contact shows from now on. -/
def execKeyswitchChange (control safety : Bool) (s : State) : Answer :=
  let s := { s with keyMaint := control, usb := s.usb && control }
  let s := if control then s else s.keyRestore
  let s := if s.saf.powered then s.wrB Reg.SAF_STAT_KEY_MAINT safety else s
  let s := { s with saf := { s.saf with keyMaint := safety } }
  .next (if s.power.running then s.permitUpdate else s)

/-- USB_SESSION_OPEN (R504): only while the control domain's contact shows MAINT. -/
def execUsbSessionOpen (s : State) : Answer :=
  .next (if s.power.running ∧ s.keyMaint then { s with usb := true } else s)

end Sys2Proof.Machine
end

