-- ==== Sys2Proof/Machine/Power.lean ====
section
/-!
DEFINITION. Supply and hold-up, orderly shutdown, the Porter, the start of the control domain and the election
(R476 to R492).
-/
namespace Sys2Proof.Machine

/-! ### What a reset of the control domain keeps -/

/-- Registers that a reset of the control domain leaves alone: those of the Porter, of the safety domain and its
matrix, those kept in MRAM, flash or fuses, those fixed in manufacture, and what the power unit shows of the supply. -/
def regKept (a : Nat) : Bool :=
  let unit := unitOf a
  unit == Un.ptr || unit == Un.saf || unit == Un.trp || unit == Un.wr ||
  [Reg.SYS_ID.addr, Reg.SYS_CAPS.addr, Reg.FPL_BOOT.addr, Reg.FPL_KEYS.addr, (Reg.FPL_SLOT_INFO 0).addr,
   (Reg.FPL_SLOT_INFO 1).addr, Reg.BAN_LATENT.addr, Reg.GB_STAT.addr, Reg.GB_COUNT.addr, Reg.GB_NEXT_SEQ.addr,
   Reg.GB_FIRST_SEQ.addr, Reg.GB_LOST.addr, Reg.GB_FIRST_LOST.addr, Reg.RND_CTRL.addr, Reg.NB_STAT.addr,
   Reg.NB_ABORT.addr, Reg.PWR_STAT.addr, Reg.PWR_IN.addr, Reg.PWR_HOLDUP.addr, Reg.PWR_LOAD.addr].contains a ||
  (List.range 64).any (fun n => a == (Reg.ISL_AN_TRIM (n / 8) (n % 8)).addr)

/-- The registers after a reset that keeps some of them. -/
def State.regsReset (s : State) (keep : Nat → Bool) : State :=
  let kept := s.regs.filter (fun c => keep c.1)
  let fresh := resetRegs.filter (fun c => !keep c.1)
  { s with regs := kept.foldl (fun t c => Tab.put t c.1 c.2) fresh }

/-- The fields that are reset in registers that are otherwise kept. -/
def State.fieldsReset (s : State) : State :=
  let s := ((s.wr Reg.FPL_KEYS_USED 0).wr Reg.GB_STAT_PRE_LOCK 1).wr Reg.SAF_CMD_STAT 0
  let dirty := s.on Reg.NB_STAT_DIRTY
  let s := (s.wr Reg.NB_STAT 0).wrB Reg.NB_STAT_DIRTY dirty
  (((s.wr Reg.PWR_STAT_ELECT 0).wr Reg.PWR_STAT_SHUTDOWN 0).wr Reg.PWR_STAT_PF_WARN 0).wr Reg.PTR_CELL_MV 0

/-- An island's field side runs on; its barrier master loses what it held. -/
def Island.masterReset (x : Island) : Island :=
  { x with
    txCount := 0, sent := [], sentNo := 0, badRun := 0, goodRun := 0, lastSeq := none, faultAt := 0, restore := 0
    back := [], txSlot := 0, rxSlot := 0, ramp := none
    chans := x.chans.map (fun c => (c.1, { c.2 with
      cmd := 0, edges := [], misAt := none, misTold := false, agrAt := none, defAt := none, fitAt := none })) }

/-- A STORE that is cut off before its marker leaves its slot not VALID (R65, R73). DESIGN CHOICE (log 103): from the
command write on, where the image passes. -/
def State.storeCut (s : State) : State :=
  match s.fpl.op with
  | some { cmd := .store slot, good := true, .. } =>
    (s.wr (Reg.FPL_SLOT_INFO_VALID (slotNo slot)) 0).wr (Reg.FPL_SLOT_INFO_LENGTH (slotNo slot)) 0
  | _ => s

/-- The control domain loses its power: its registers, its memories and its units' states are gone. The clock of
the safety domain, the field sides and the Annex runs on (R21). -/
def State.controlOff (s : State) : State :=
  let s := s.storeCut.keyRestore
  let s := (s.regsReset regKept).fieldsReset
  { s with
    mem := [], resp := {}, latch := [], staged := [], gates := gatesReset, frc := 0, usb := false
    gb := { records := s.gb.records }
    fpl := { slotA := s.fpl.slotA, slotB := s.fpl.slotB }
    tim := {}, can := [], eth := [], ser := [], rio := [], heads := [], serEnd := []
    isl := s.isl.map (fun x => (x.1, x.2.masterReset))
    saf := { s.saf with
      clock0 := s.safClock, confirmed := false }
    axes := [], lp := {}, slv := {}, posted := [], scn := {}
    ban := { latFrac := s.ban.latFrac, latDone := s.ban.latDone }
    rnd := {}
    nb := { mram := s.nb.mram, blocks := s.nb.blocks, fresh := s.nb.fresh }
    anx := { s.anx with
      ident := none, compared := false, reident := 0, sent := [], sentAt := none, statusAt := 0, diff := none, told := 0 }
    keyRefused := none, rx := [], maintAt := 0, firstLatch := false, pgn := [] }

/-! ### Supply (R476 to R478) -/

/-- What the power unit measures is shown: TIME is how long the energy carries the load (R477). -/
def State.pwrMeasure (s : State) (x : PwrMeas) : State :=
  let ms := if x.load.toNat = 0 then 0xFFFF else min (x.energy.toNat * 1000 / x.load.toNat) 0xFFFF
  let s := (s.wr Reg.PWR_HOLDUP_ENERGY x.energy.toNat).wr Reg.PWR_HOLDUP_TIME ms
  (s.wr Reg.PWR_LOAD_NOW x.load.toNat).wr Reg.PWR_LOAD_PEAK (max x.load.toNat (s.rd Reg.PWR_LOAD_PEAK))

/-- A register of the safety domain or its matrix. -/
def regSafety (a : Nat) : Bool := unitOf a == Un.saf || unitOf a == Un.trp

/-- The safety rail comes up: the domain is reset (R250). Its contact of the keyswitch, the fast-trip inputs and the
group supply show what they are. -/
def State.safRailUp (s : State) : State :=
  let supply := s.rd Reg.TRP_STAT_GROUP_SUPPLY
  let lits := s.rd Reg.TRP_FTI_LIT
  let s := (s.regsReset (fun a => !regSafety a)).safPowerOn
  let s := ((s.wrB Reg.SAF_STAT_KEY_MAINT s.saf.keyMaint).wr Reg.TRP_STAT_GROUP_SUPPLY supply).wr Reg.TRP_FTI_LIT lits
  s.wr Reg.TRP_SINK_TRIPPED (2 ^ (8 + s.cap Reg.SYS_CAPS_ISLANDS) - 1)

/-- The Porter at P0 (R485, R486): its class-2 backup has run on through `off` ticks of 1/32,768 s, or, where it has
stopped, its counters resume from their shadows and its backup is invalid. One power cycle more. -/
def State.porterOn (s : State) (off : Nat) : State :=
  let s : State :=
    if s.power.porterStopped then
      let s := (s.wr64 Reg.PTR_OPTIME_LO Reg.PTR_OPTIME_HI_OPT_HI s.power.shadowOpt).wr Reg.PTR_PCYCLE s.power.shadowCyc
      { s.wr Reg.PTR_STAT_BACKUP_VALID 0 with power := { s.power with frac := 0 } }
    else
      let t := s.power.c2frac + off
      let sec := s.rd64 Reg.PTR_C2SEC_LO Reg.PTR_C2SEC_HI + t / 32768
      let s := (s.wr64 Reg.PTR_C2SEC_LO Reg.PTR_C2SEC_HI sec).wr Reg.PTR_STAT_BACKUP_VALID 1
      { s with power := { s.power with c2frac := t % 32768 } }
  s.wr Reg.PTR_PCYCLE (s.rd Reg.PTR_PCYCLE + 1)

/-- P0 (R476): main power is good. -/
def State.powerOn (s : State) (rail restart : Bool) (off : Nat) : State :=
  let p := s.power
  let s := { s with saf := { s.saf with clock0 := s.saf.clock0 + off * 1000000000 / 32768 } }
  let s := s.porterOn off
  let s := { s with
    power := {
      mainOn := true, frac := s.power.frac, c2frac := s.power.c2frac, restart, strap := p.strap, shadowOpt := p.shadowOpt
      shadowCyc := p.shadowCyc, offSeal := p.offSeal, offLid := p.offLid, offWrite := p.offWrite
      porterStopped := p.porterStopped, cellMv := p.cellMv, cellLow := p.cellLow, sinceW := p.sinceW
      p0At := s.safClock }
    nb := { s.nb with fresh := true } }
  let s := s.wr Reg.PWR_STAT_POS p.strap
  let s := if rail || !s.saf.powered then s.safRailUp else s
  if rail || !s.anx.powered then s.anxStart else s

/-- POWER_INPUT_CHANGE (R476, R478). -/
def execPowerInputChange (x : PowerInput) (s : State) : Answer :=
  let f := if x.inB then Reg.PWR_STAT_IN_B else Reg.PWR_STAT_IN_A
  let valid : Bool := if x.present then decide (18000 ≤ x.mV.toNat) else decide (x.mV.toNat < 16500)
  if !valid ∨ s.on f = x.present then .next s
  else
    let s := (s.wrB f x.present).wr (if x.inB then Reg.PWR_IN_IN_B else Reg.PWR_IN_IN_A) x.mV.toNat
    let s := s.pwrMeasure x.meas
    if !s.power.mainOn then .next (if x.present then s.powerOn x.rail false x.off else s)
    else
      let s := s.post Un.pwr 0x1401 (b2n x.inB) (b2n x.present) x.mV.toNat
      if !x.present then
        if s.on Reg.PWR_STAT_IN_A ∨ s.on Reg.PWR_STAT_IN_B then .next s
        else
          let s := (s.wr Reg.PWR_STAT_DIP 1).wr Reg.PWR_STAT_HOLDUP_OK 0
          .next { s with power := { s.power with dipAt := s.frc } }
      else if s.on Reg.PWR_STAT_DIP then
        let s := s.wr Reg.PWR_STAT_DIP 0
        if s.on Reg.PWR_STAT_PF_WARN then .next { s with power := { s.power with returned := true } }
        else
          let ms := (s.frc - s.power.dipAt) / 1000000
          let s := (s.bump Reg.PWR_DIPS_COUNT).wr Reg.PWR_DIPS_LONGEST (min (max ms (s.rd Reg.PWR_DIPS_LONGEST)) 0xFFFF)
          .next (s.post Un.pwr 0x1403 ms x.low.toNat 0)
      else .next s

/-- HOLDUP_FULL (R477): the store is full; the first time since P0 it is recorded. -/
def execHoldupFull (meas : PwrMeas) (s : State) : Answer :=
  if s.power.mainOn ∧ !s.on Reg.PWR_STAT_DIP ∧ !s.on Reg.PWR_STAT_PF_WARN ∧ !s.on Reg.PWR_STAT_HOLDUP_OK then
    let s := ((s.pwrMeasure meas).wr Reg.PWR_STAT_RESERVE_OK 1).wr Reg.PWR_STAT_HOLDUP_OK 1
    if s.power.reserved then .next s
    else
      let s := { s with power := { s.power with reserved := true } }
      .next (s.post Un.pwr 0x1407 (s.sinceP0 / 1000000) meas.energy.toNat 0)
  else .next s

/-! ### Orderly shutdown (R478 to R484) -/

def pfCode : PfCause → Nat
  | .dip => 1
  | .reserve => 2
  | .short => 3

/-- Entries in flight end with OUTCOME_UNKNOWN, SHUTDOWN. -/
def State.endFlights (s : State) : State :=
  let s := (List.range 8).foldl (fun s c => s.canEndFlight c Sta.outcomeUnknown 8) s
  let s := (List.range 6).foldl (fun s p => s.ethEndFlight p 8) s
  (List.range 8).foldl (fun s p => s.serAbort p 8) s

/-- A Solver request that runs at W takes an earlier deadline instant (R480, R481). -/
def State.slvCap (s : State) : State :=
  match s.slv.req with
  | some r => s.setReq { r with cap := some (s.power.warnAt + if s.power.cause = 3 then 1000000 else 10000000) }
  | none => s

/-- The first actions from W (R479, R480, R482): a module in control without a standby in step records the trigger, and a
standby is FAILED (R206, R207). -/
def State.pfActions (s : State) : State :=
  let s := s.endFlights.slvCap
  let s := (List.range 16).foldl (fun s t => s.axCommit t true []) s
  let s := s.nbPowerFail.anxPowerFail
  let s := if s.saf.powered then s.safStore else s
  let s := s.joinAbort
  if s.role = roleActive ∧ s.ban.ho.isNone then s.handover 6
  else
    let s := s.shutdownSend
    if s.role = roleStandby ∧ s.ban.ho.isNone then s.fail 6
    else if s.inControl then s.wr Reg.BAN_HO_TRIGGER 6
    else s

/-- Instant W (R478): 50 ms after a dip began, or at once. -/
def State.warned (s : State) (why : PfCause) (meas : PwrMeas) : State :=
  let s := s.pwrMeasure meas
  let s := if why = .dip then { s with frc := max s.frc (s.power.dipAt + 50000000) } else s
  let s := (s.wr Reg.PWR_STAT_PF_WARN 1).wr Reg.PWR_STAT_SHUTDOWN 1
  { s with power := { s.power with cause := pfCode why, warnAt := s.frc, returned := false } }

/-- POWER_FAIL_WARNING (R478): instant W. A control domain that has not left reset has nothing to shut down. -/
def execPowerFailWarning (why : PfCause) (meas : PwrMeas) (s : State) : Answer :=
  if !s.power.mainOn ∨ !s.on Reg.PWR_STAT_DIP ∨ s.on Reg.PWR_STAT_PF_WARN ∨ (why = .short ∧ s.power.reserved) then .next s
  else
    let s := s.warned why meas
    if !s.power.running then .next s
    else
      let s := s.post Un.pwr 0x1402 (pfCode why) ((s.frc - s.power.dipAt) / 1000000) (s.rd Reg.PWR_LOAD_NOW)
      .next s.pfActions

/-- SHUTDOWN_OUTPUTS_OFF (R479, R480): the barrier frames carry OUT_VALID = 0 from W + 20 ms, after a short warning
from W. -/
def execShutdownOutputsOff (s : State) : Answer :=
  if s.power.running ∧ s.on Reg.PWR_STAT_PF_WARN then
    let s := { s with frc := max s.frc (s.power.warnAt + if s.power.cause = 3 then 0 else 20000000) }
    .next { s with power := { s.power with outputsOff := true } }
  else .next s

/-- A writer's step, which always answers a state. -/
def Answer.getD (a : Answer) (s : State) : State :=
  match a with
  | .next t => t
  | _ => s

/-- The Guestbook's queue is drained (R424): at most `n` events, each written before the next is taken. -/
def State.gbDrain (s : State) : Nat → State
  | 0 => s
  | n + 1 =>
    let s := (execGbEvent s).getD s
    let s := (execGbRecordWrite false s).getD s
    State.gbDrain s n

/-- What is on its way in the writer is finished, then its queue. -/
def State.gbFlush (s : State) : State :=
  let s := (execGbClearComplete s).getD s
  let s := (execGbRecordWrite false s).getD s
  s.gbDrain (s.gb.anchors.length + s.gb.queue.length)

/-- SHUTDOWN_MRAM_COMMIT (R479, R480): code 0x1404 just before it; after a warning that is not a short one, the hold-up
capacitance in ‰ is taken too (R435). -/
def execShutdownMramCommit (meas : PwrMeas) (permille : Nat) (s : State) : Answer :=
  if s.power.running ∧ s.on Reg.PWR_STAT_PF_WARN ∧ s.power.outputsOff ∧ !s.power.mramDone then
    let s := { s with frc := max s.frc (s.power.warnAt + if s.power.cause = 3 then 1000000 else 20000000) }
    let s := (s.pwrMeasure meas).latentCount
    let s := s.post Un.pwr 0x1404 ((s.frc - s.power.warnAt) / 1000000) (s.rd Reg.PWR_HOLDUP_TIME) s.role
    let s := if s.power.cause = 3 then s else s.wearHoldup permille (s.rd Reg.PWR_LOAD_NOW) s.power.returned
    let s := s.gbFlush
    .next { s with power := { s.power with
      mramDone := true, shadowOpt := s.opTime, shadowCyc := s.rd Reg.PTR_PCYCLE } }
  else .next s

/-- The operating time since P0 goes into the Porter's count, but for the last part of a second: `ns` more. -/
def State.opTimeKeep (s : State) (ns : Nat) : State :=
  let t := s.power.frac + ns
  let s := s.wr64 Reg.PTR_OPTIME_LO Reg.PTR_OPTIME_HI_OPT_HI
    (s.rd64 Reg.PTR_OPTIME_LO Reg.PTR_OPTIME_HI + t / 1000000000 * 1024)
  { s with power := { s.power with frac := t % 1000000000 } }

/-- The main rail is down. Where an input is present it comes up again at once (R483). -/
def State.unpowered (s : State) : State :=
  let s := { s with power := { s.power with mainOn := false, running := false } }
  if s.on Reg.PWR_STAT_IN_A ∨ s.on Reg.PWR_STAT_IN_B then s.powerOn false true 0
  else
    let s := ((s.wr Reg.PWR_STAT_DIP 0).wr Reg.PWR_STAT_RESERVE_OK 0).wr Reg.PWR_STAT_HOLDUP_OK 0
    { s with
      anx := { s.anx with powered := false, clock := s.anxClock }
      power := { s.power with porterStopped := decide (s.power.cellMv < 2200) } }

/-- CONTROL_UNPOWERED (R479, R480, R483): after the MRAM commit and, but for a short warning, with the panel's
quiescent commit made and its rails down. A control domain that never left reset is unpowered `us` after P0. A supply still present is a new P0. -/
def execControlUnpowered (us : Fin 15000) (s : State) : Answer :=
  let ready : Bool := !s.power.running ||
    (s.power.mramDone && (s.power.cause == 3 || (!s.on Reg.NB_STAT_RAILS_UP && !(s.on Reg.NB_STAT_DIRTY && s.nbMayCommit))))
  if !s.power.mainOn ∨ !s.on Reg.PWR_STAT_PF_WARN ∨ !ready then .next s
  else
    let ran := s.power.running
    let s := s.opTimeKeep (if ran then s.frc else us.val * 1000)
    let s := { s with power := { s.power with sinceW := if ran then s.frc - s.power.warnAt else 0 } }
    .next s.controlOff.unpowered

/-- SHUTDOWN (R484, R206): the peer has given notice. An active module is on its own; a join ends (R235). -/
def State.shutdownTake (s : State) (serial : Nat) : State :=
  let s := if s.rd Reg.BAN_PEER_SERIAL = 0 then s.wr Reg.BAN_PEER_SERIAL serial else s
  let s := s.joinAbort
  if s.role = roleActive ∧ s.ban.ho.isNone then s.alone.sendRole else s

/-! ### Start of the control domain (R371, R488) -/

/-- What the Porter and the power unit had to record while no writer ran (R483, R486, R487). -/
def State.startRecords (s : State) (us : Nat) : State :=
  let p := s.power
  let s := if p.porterStopped then s.post Un.ptr 0x0201 p.cellMv 0 0 else s
  let s := if p.cellLow then s.post Un.ptr 0x0205 p.cellMv 0 0 else s
  let s := if p.offSeal = 0 then s else s.post Un.ptr 0x0202 (s.rd Reg.PTR_STAT_SEAL) (s.rd Reg.PTR_SWCNT_SEAL) 1
  let s := if p.offLid = 0 then s else s.post Un.ptr 0x0203 (s.rd Reg.PTR_STAT_LID) (s.rd Reg.PTR_SWCNT_LID) 1
  let s := if p.offWrite = 0 then s else s.post Un.ptr 0x0204 (s.rd Reg.PTR_STAT_WRITE_SW) (s.rd Reg.PTR_WRITE_CNT) 1
  let s := if p.restart then s.post Un.pwr 0x1405 ((p.sinceW + 1000 * us) / 1000000) 0 0 else s
  { s with power := { s.power with
    porterStopped := false, cellLow := false, offSeal := 0, offLid := 0, offWrite := 0, restart := false } }

/-- Class 2 continues from the Porter's backup, or from the FRC where that is invalid (R371). -/
def State.c2Start (s : State) (us : Nat) : State :=
  let ok := s.on Reg.PTR_STAT_BACKUP_VALID
  let sec := s.rd64 Reg.PTR_C2SEC_LO Reg.PTR_C2SEC_HI
  let base : Int := if ok then (sec * 1000000000 + s.power.c2frac * 1000000000 / 32768 + us * 1000 : Nat) else 0
  ({ s with tim := { s.tim with c2 := { base } } } : State).wrB Reg.TIM_STAT_C2_VALID ok

/-- CONTROL_RESET_RELEASE (R488): 10 to 15 ms after P0, with the commit reserve held; the FRC starts. -/
def execControlResetRelease (us : Fin 15001) (s : State) : Answer :=
  if !s.power.mainOn ∨ s.power.running ∨ s.on Reg.PWR_STAT_PF_WARN ∨ us.val < 10000 then .next s
  else
    let s := (s.wr Reg.PWR_STAT_RESERVE_OK 1).wr Reg.PWR_BOOT_RESET us.val
    let s := { s with
      frc := 0
      power := { s.power with running := true, frac := s.power.frac + us.val * 1000, dipAt := 0 }
      saf := { s.saf with clock0 := max s.saf.clock0 (s.power.p0At + us.val * 1000) } }
    let s := s.c2Start us.val
    let s := { s with ban := { s.ban with latAt := s.opTime } }
    let s := s.gbFillBuckets.rndReset.nbRelease.permitUpdate
    .next ((s.anchor 0).startRecords us.val)

/-! ### The Porter (R485 to R487) -/

/-- CELL_LOW (R486): the cell falls below 2.7 V; below 2.2 V the Porter stops while it runs from it. -/
def execCellLow (mV : BitVec 16) (s : State) : Answer :=
  if 2700 ≤ mV.toNat ∨ s.power.porterStopped then .next s
  else
    let was := s.on Reg.PTR_STAT_CELL_LOW
    let s := s.wr Reg.PTR_STAT_CELL_LOW 1
    let s := { s with power := { s.power with cellMv := mV.toNat } }
    if s.power.running then
      let s := s.wr Reg.PTR_CELL_MV mV.toNat
      .next (if was then s else s.post Un.ptr 0x0205 mV.toNat 0 0)
    else
      .next { s with power := { s.power with
        cellLow := s.power.cellLow || !was, porterStopped := !s.power.mainOn && decide (mV.toNat < 2200) } }

/-- SEAL_CHANGE (R485, R487): the seal or the lid opens or closes. On S and L the seal loop is closed inside the module
(R502). -/
def execSealChange (lid open_ : Bool) (s : State) : Answer :=
  let f := if lid then Reg.PTR_STAT_LID else Reg.PTR_STAT_SEAL
  if s.on f = open_ ∨ s.power.porterStopped ∨ (!lid ∧ !s.capOn Reg.SYS_CAPS_ANX) then .next s
  else
    let cnt := if lid then Reg.PTR_SWCNT_LID else Reg.PTR_SWCNT_SEAL
    let s := (s.wrB f open_).bump cnt
    if s.power.running then .next (s.post Un.ptr (if lid then 0x0203 else 0x0202) (b2n open_) (s.rd cnt) 0)
    else if lid then .next { s with power := { s.power with offLid := s.power.offLid + 1 } }
    else .next { s with power := { s.power with offSeal := s.power.offSeal + 1 } }

/-! ### Beacons and the election (R489, R491, R492) -/

/-- BEACON_SEND (R489): from P0 + 20 ms every 1 ms, while the module boots. -/
def execBeaconSend (s : State) : Answer :=
  if s.power.running ∧ !s.locked ∧ s.role = roleBooting then
    let at_ := if s.power.beaconAt.isSome then s.power.beaconLast + 1000000 else 20000000 - s.rd Reg.PWR_BOOT_RESET * 1000
    let s := { s with frc := max s.frc at_ }
    let s := { s with power := { s.power with beaconAt := some (s.power.beaconAt.getD s.frc), beaconLast := s.frc } }
    .next (s.banSend 0x02 (leBytes 4 s.ident.serial ++ leBytes 4 (s.caps) ++ leBytes 1 s.power.strap ++
      leBytes 1 s.role ++ List.replicate 6 0))
  else .next s

/-- BEACON (R491). -/
def State.beaconTake (s : State) (serial strap role : Nat) : State :=
  ((s.wr Reg.BAN_PEER_SERIAL serial).setPeerRole role).hear strap role

/-- The outcome that what is heard gives, as ELECT shows it: 1 won by strap, 2 won by serial, 3 won with the peer not
in control, 5 lost. -/
def electOf (own strap ownSerial serial role : Nat) : Nat :=
  if role = roleAlone ∨ role = roleActive then 5
  else if role = roleBooting then
    if own = strapLeft ∧ strap = strapRight then 1
    else if own = strapRight ∧ strap = strapLeft then 5
    else if ownSerial < serial then 2
    else 5
  else 3

/-- ELECTION_WINDOW_END (R491): 50 ms after the first beacon; with nothing heard the election is deferred. -/
def execElectionWindowEnd (s : State) : Answer :=
  match s.electing, s.power.beaconAt with
  | true, some t =>
    let s := { s with frc := max s.frc (t + 50000000) }
    match s.power.heard with
    | some (serial, strap, role) => .next (s.elect (electOf s.power.strap strap s.ident.serial serial role))
    | none => .next { s with power := { s.power with deferred := true } }
  | _, _ => .next s

/-- ELECTION_DEFER_END (R491): at P0 + 305 ms, by a frame heard since, else by a heartbeat that arrived from
P0 + 300 ms, else won with nothing heard. -/
def execElectionDeferEnd (s : State) : Answer :=
  if s.electing ∧ s.power.deferred then
    let s := { s with frc := max s.frc (305000000 - s.rd Reg.PWR_BOOT_RESET * 1000) }
    match s.power.heard, s.ban.beat with
    | some (serial, strap, role), _ => .next (s.elect (electOf s.power.strap strap s.ident.serial serial role))
    | none, some (serial, role) =>
      .next ((s.wr Reg.BAN_PEER_SERIAL serial).elect (electOf 0 0 s.ident.serial serial role))
    | none, none => .next (s.elect 4)
  else .next s

end Sys2Proof.Machine
end

