-- ==== Sys2Proof/Machine/Bus.lean ====
section
/-!
DEFINITION. Reads and writes of any register of the map (R9 to R14), each routed to what its unit does with it, and
the commands that are register accesses without a row of their own.
-/
namespace Sys2Proof.Machine

/-! ### Writes -/

/-- A write of the _HI register of a plain writable pair applies both halves (R14). -/
def State.applyPair (s : State) (m : Master) (lo hi mask v : Nat) : State :=
  let low := s.stagedLo m lo (s.fileAt lo)
  ((s.unstage m lo).wrMasked lo 0xFFFFFFFF low).wrMasked hi mask v

/-- A write of SYS_BUSERR_STAT: VALID and MORE are cleared by a 1; clearing VALID rearms the capture (R32). -/
def State.busErrWrite (s : State) (v : Nat) : State :=
  s.wrMasked Reg.SYS_BUSERR_STAT.addr (0xC0000000 &&& v) 0

/-- A write of SLV_CTRL: ignored on the standby but for the active module's mirrored value (R157). -/
def State.slvCtrlWrite (s : State) (m : Master) (v : Nat) : State :=
  if s.notOwn m then s
  else (s.wr Reg.SLV_CTRL_IDLE_HOLD v).mirror m Reg.SLV_CTRL.addr v

/-- A write of BAN_LATENT sets LIMIT, the hours counted up to now (R242). -/
def State.latentWrite (s : State) (v : Nat) : State :=
  s.latentCount.wr Reg.BAN_LATENT_LIMIT (bits v 16 16)

/-- A write in the block of the Pigeonhole channels (R398). -/
def State.pgnBusWrite (s : State) (m : Master) (a v : Nat) : State :=
  let ch := (a - 0x2000101000) / 0x100
  let off := (a - 0x2000101000) % 0x100
  if off = 0x00 then s.pgnStatWrite m ch v
  else if off = 0x08 ∨ (0x40 ≤ off ∧ off < 0x80) then s.pgnStageWrite m ch a v
  else if off = 0x0C then s.pgnPostWrite m ch v
  else if off = 0x10 then s.pgnCmdWrite m ch v
  else if off = 0x1C then s.pgnAckWrite m ch v
  else s.pgnDenied m true ch a

/-- A write in the block of the queues (R406); QUE_CFG, QUE_ADDR and QUE_RI are read only. -/
def State.queBusWrite (s : State) (m : Master) (a v : Nat) : State :=
  let q := (a - 0x2000111000) / 64
  let off := (a - 0x2000111000) % 64
  if off = 0x08 then s.quePiWrite m q v
  else if off = 0x10 then s.queDiWrite m q v
  else if off = 0x14 then s.queCiWrite m q v
  else if off = 0x18 then s.queStatWrite m q v
  else s

/-- A write in an island's register set (R331, R516). -/
def State.islBusWrite (s : State) (m : Master) (a v : Nat) : State :=
  let k := (a - 0x20000A0000) / 4096
  let off := (a - 0x20000A0000) % 4096
  if off = 0x008 then s.islCmdWrite k v
  else if 0x200 ≤ off ∧ off < 0x400 ∧ off % 64 = 8 then s.trimWrite m k ((off - 0x200) / 64) v
  else s

/-- A write in a CAN channel's register set (R341, R342, R516). -/
def State.canBusWrite (s : State) (m : Master) (a v : Nat) : State :=
  let c := (a - 0x20000B1000) / 4096
  let off := (a - 0x20000B1000) % 4096
  if off = 0x008 then s.canCmdWrite c v
  else if off = 0x020 then s.canHpAck c v
  else if 0x100 ≤ off ∧ off < 0x300 then
    s.canFilterWrite m c ((off - 0x100) / 8) (if off % 8 = 0 then .id else .mask) v
  else s

/-- A write of a loop's tuning registers (R123). -/
def State.tuneBusWrite (s : State) (m : Master) (a v : Nat) : State :=
  let n := (a - 0x2000044000) / 96
  let off := (a - 0x2000044000) % 96
  if off = 0x48 then s.loopCmdWrite m n v else s.loopShadowWrite m n (off / 4) v

/-- A write in an axis's register set: its virtual limits (R174). -/
def State.axBusWrite (s : State) (m : Master) (a v : Nat) : State :=
  let x := (a - 0x2000061000) / 4096
  let off := (a - 0x2000061000) % 4096
  if off = 0x20 then s.axVlimLoWrite m x false v
  else if off = 0x24 then s.axVlimHiWrite m x false v
  else if off = 0x28 then s.axVlimLoWrite m x true v
  else if off = 0x2C then s.axVlimHiWrite m x true v
  else s

/-- The registers that act when written, each by its own unit's rule, and the others by their access codes. -/
def State.unitWrite (s : State) (m : Master) (r : RegSpec) (a v : Nat) : State :=
  if a = Reg.SYS_BUSERR_STAT.addr then s.busErrWrite v
  else if a = Reg.FPL_CMD.addr then s.fplCmdWrite m v
  else if a = Reg.FPL_SRC_HI.addr then s.applyPair m Reg.FPL_SRC_LO.addr a 0xFF v
  else if a = Reg.SCN_CMD.addr then s.scnCmdWrite v
  else if a = Reg.SCN_OLC_SRC_HI.addr then s.applyPair m Reg.SCN_OLC_SRC_LO.addr a 0xFF v
  else if a = Reg.SCN_OLC_CMD.addr then s.useFree.olcCmdWrite m v (s.freeWord.toNat % 2 == 1)
  else if a = Reg.SCN_FORCE_VAL_HI.addr then s.applyPair m Reg.SCN_FORCE_VAL_LO.addr a 0xFFFFFFFF v
  else if a = Reg.SCN_FORCE_CMD.addr then s.forceCmdWrite m v
  else if a = Reg.SLV_CMD.addr then s.slvCmdWrite m v
  else if a = Reg.SLV_CTRL.addr then s.slvCtrlWrite m v
  else if a = Reg.BAN_CMD.addr then s.banCmdWrite v
  else if a = Reg.BAN_JOIN_CMD.addr then s.useFree.joinCmdWrite v (s.freeWord.toNat % 256)
  else if a = Reg.BAN_LATENT.addr then s.latentWrite v
  else if a = Reg.SAF_CMD.addr then s.safCmdWrite v
  else if a = Reg.TRP_REQ.addr then s.trpReqWrite m v
  else if a = Reg.TRP_FIRST.addr then s.trpFirstWrite v
  else if a = Reg.ETH_MAINT.addr then s.ethMaintWrite m v
  else if a = Reg.TIM_CMD.addr then s.timCmdWrite v
  else if a = Reg.GB_CMD.addr then s.gbCmdWrite v
  else if a = Reg.GB_CURSOR.addr then s.gbCursorWrite m v
  else if a = Reg.NB_LIGHT.addr then s.nbLightWrite v
  else if a = Reg.NB_CMD.addr then s.nbCmdWrite v
  else if a = Reg.NB_PIX_SEL.addr then s.setLatch m a (v &&& 0x3FF03FF)
  else if 0x2000044000 ≤ a ∧ a < 0x2000050000 then s.tuneBusWrite m a v
  else if 0x2000061000 ≤ a ∧ a < 0x2000069000 then s.axBusWrite m a v
  else if 0x20000A0000 ≤ a ∧ a < 0x20000A8000 then s.islBusWrite m a v
  else if 0x20000B1000 ≤ a ∧ a < 0x20000B9000 then s.canBusWrite m a v
  else if 0x2000101000 ≤ a ∧ a < 0x2000103000 then s.pgnBusWrite m a v
  else if 0x2000111000 ≤ a ∧ a < 0x2000112000 then s.queBusWrite m a v
  else if r.half = .lo ∧ r.rw ≠ 0 then s.stageLo m a v
  else s.plainWrite r a v

/-- A write of a register of the map, once its checks have passed. -/
def State.busWrite (s : State) (m : Master) (a v : Nat) : State :=
  match regAt a with
  | some r => s.unitWrite m r a v
  | none => s

/-! ### Reads -/

/-- What the registers that are kept in another form show now. -/
def State.refreshed (s : State) (a : Nat) : State :=
  if a = Reg.PTR_OPTIME_LO.addr then s.wr64 Reg.PTR_OPTIME_LO Reg.PTR_OPTIME_HI_OPT_HI s.opTime
  else if a = Reg.TIM_FRC_LO.addr then s.wr64 Reg.TIM_FRC_LO Reg.TIM_FRC_HI s.frc
  else if a = Reg.TIM_C1_CONT.addr then s.wr Reg.TIM_C1_CONT (toBits 32 (max (-2147483648) (min 2147483647 s.contC1)))
  else if a = Reg.TIM_C2_CONT.addr then s.wr Reg.TIM_C2_CONT (toBits 32 (max (-2147483648) (min 2147483647 s.contC2)))
  else if a = Reg.BAN_STAT.addr ∨ a = Reg.BAN_ISO.addr then s.isoShow
  else if a = Reg.BAN_LATENT.addr then s.latentCount
  else if a = Reg.ETH_MAINT.addr then s.maintCount
  else if (Reg.GB_CLASS 0).addr ≤ a ∧ a < (Reg.GB_CLASS 32).addr then s.gbGain ((a - (Reg.GB_CLASS 0).addr) / 4)
  else if a = Reg.RND_RATE.addr then
    s.wr Reg.RND_RATE_USED (min (2 ^ 20 - 1)
      ((s.rnd.served.filter (fun e => decide (s.frc < e.1 + 1000000000))).map (fun e => e.2)).sum)
  else s

/-- The word that a register shows to a master. -/
def State.shownWord (s : State) (m : Master) (r : RegSpec) (a : Nat) : Nat :=
  let v : Nat :=
    if a = sysCapsAddr then s.caps
    else if a = Reg.GB_CURSOR.addr then (Tab.get s.gb.cursors (masterId m)).toNat
    else if 0x2000120100 ≤ a ∧ a < 0x2000120300 then
      s.gbWindow m ((a - 0x2000120100) / 32) ((a - 0x2000120100) % 32 / 4)
    else if a = Reg.NB_PIX_SEL.addr then (Tab.get s.latch (latchKey m a)).toNat
    else if a = Reg.NB_PIX.addr then s.nbPixWord (Tab.get s.latch (latchKey m Reg.NB_PIX_SEL.addr)).toNat
    else if 0x2000101000 ≤ a ∧ a < 0x2000103000 ∧ !s.pgnUsed ((a - 0x2000101000) / 0x100) then 0
    else (s.refreshed a).fileAt a
  v &&& r.rd

/-- Whether the binding lets a master read a Pigeonhole register (R398): status and counts any master, the sending
side's registers the sender, the receiving side's the receiver; debug every one. -/
def State.pgnMayRead (s : State) (m : Master) (a : Nat) : Bool :=
  let ch := (a - 0x2000101000) / 0x100
  let off := (a - 0x2000101000) % 0x100
  if !s.pgnUsed ch || m == .debug || off == 0x00 || off == 0x04 then true
  else if (decide (0x08 ≤ off) && decide (off < 0x14)) || (decide (0x40 ≤ off) && decide (off < 0x80)) then
    s.pgnSender ch == masterId m
  else s.pgnReceiver ch == masterId m

/-- Clear a register's RC fields for a reader other than debug (R10); the lowest island supply starts again from its
largest value. -/
def State.readClears (s : State) (r : RegSpec) (m : Master) (a : Nat) : State :=
  if m == .debug || r.rc == 0 then s
  else if r.base = (Reg.ISL_SUPPLY 0).addr then s.wrMasked a r.rc 0xFFFFFFFF
  else s.wrMasked a r.rc 0

/-- A read of the _LO register of a pair, alone or with the _HI register (R12, R13). -/
def State.readLo (s : State) (m : Master) (w : Width) (r : RegSpec) (a : Nat) : State :=
  let t := s.refreshed a
  let lo := t.fileAt a &&& r.rd
  let hi := t.fileAt (a + 4) &&& ((regAt (a + 4)).map (fun h => h.rd)).getD 0
  (s.setLatch m (a + 4) hi).answer (if w = .w64 then lo + 2 ^ 32 * hi else lo)

/-- A read of a register of the map, once its checks have passed. -/
def State.busRead (s : State) (m : Master) (w : Width) (a : Nat) : State :=
  match regAt a with
  | none => s
  | some r =>
    if a = Reg.TIM_C1_SEC_LO.addr then s.classCapture m w s.t1 Reg.TIM_C1_SEC_HI Reg.TIM_C1_NS
    else if a = Reg.TIM_C2_SEC_LO.addr then s.classCapture m w s.t2 Reg.TIM_C2_SEC_HI Reg.TIM_C2_NS
    else if 0x2000101000 ≤ a ∧ a < 0x2000103000 ∧ (a - 0x2000101000) % 0x100 = 0x14 then
      s.pgnHdrRead m ((a - 0x2000101000) / 0x100)
    else if 0x2000101000 ≤ a ∧ a < 0x2000103000 ∧ !s.pgnMayRead m a then
      s.pgnDenied m false ((a - 0x2000101000) / 0x100) a
    else if r.half = .lo then s.readLo m w r a
    else if r.half = .hi ∨ a = Reg.TIM_C1_NS.addr ∨ a = Reg.TIM_C2_NS.addr then
      s.answer ((Tab.get s.latch (latchKey m a)).toNat &&& r.rd)
    else (s.readClears r m a).answer (s.shownWord m r a)

/-! ### The commands -/

/-- The bytes of an access of a width. -/
def widthBytes : Width → Nat
  | .w8 => 1
  | .w16 => 2
  | .w32 => 4
  | .w64 => 8

/-- A write into a memory (R28): into the queue pool by the entry's owner (R408), elsewhere as it stands; of a 64-bit
write the operand gives the low half. -/
def State.memWrite (s : State) (m : Master) (w : Width) (a v : Nat) : State :=
  let bs := leBytes (widthBytes w) v
  if poolBase ≤ a ∧ a < poolBase + 0x400000 then s.poolWrite m a bs
  else if inRam a (widthBytes w) then s.setBytes a bs
  else s.busFail m true a Sta.busError 0x0101

/-- REGISTER_WRITE (R10): a write of any width to any address, decided by the checks of R33 and the access codes. -/
def execRegisterWrite (m : Master) (w : Width) (addr : Nat) (value : Word) (s : State) : Answer :=
  .next (s.access m w true addr (fun s =>
    if inDram addr || inSram addr then s.memWrite m w addr value.toNat else s.busWrite m addr value.toNat))

/-- BUSERR_VALID_CLEAR (R32). -/
def execBuserrValidClear (m : Master) (value : Word) (s : State) : Answer :=
  .next (s.access m .w32 true Reg.SYS_BUSERR_STAT.addr (fun s => s.busErrWrite value.toNat))

/-- LO_READ_LATCH (R12, R13). -/
def execLoReadLatch (m : Master) (w : Width) (addr : Nat) (s : State) : Answer :=
  .next (s.access m w false addr (fun s => s.busRead m w addr))

/-- LO_WRITE_STAGE (R14). -/
def execLoWriteStage (m : Master) (addr : Nat) (value : Word) (s : State) : Answer :=
  .next (s.access m .w32 true addr (fun s => s.busWrite m addr value.toNat))

/-- HI_WRITE_APPLY (R14). -/
def execHiWriteApply (m : Master) (addr : Nat) (value : Word) (s : State) : Answer :=
  .next (s.access m .w32 true addr (fun s => s.busWrite m addr value.toNat))

/-- RC_READ_CLEAR (R10). -/
def execRcReadClear (m : Master) (addr : Nat) (s : State) : Answer :=
  .next (s.access m .w32 false addr (fun s => s.busRead m .w32 addr))

/-- ACCESS_TIMEOUT (R27): a register access that passes its checks and that no unit answers. A read of SYS_CAPS never
ends so (R2), and no access to a memory does. -/
def execAccessTimeout (m : Master) (write : Bool) (addr : Nat) (s : State) : Answer :=
  .next (s.access m .w32 write addr (fun s =>
    if addr = sysCapsAddr ∧ !write then s.answer s.caps
    else if inRegs addr then s.busFail m write addr Sta.timeout 0x0103
    else s))

end Sys2Proof.Machine
end

