-- ==== Sys2Proof/Machine/Replay.lean ====
section
/-!
DEFINITION. The cold module's replay from its log, and the tick from which it executes live (R232 to R234). The replay's
cycles lie on a grid of their own, which counts base ticks from 0 as the active module's TICK does.
-/
namespace Sys2Proof.Machine

/-! ### Mirrored writes (R199) -/

/-- A mirrored write is a write like any other. -/
def mirrorWrite (m : Master) (a v : Nat) (s : State) : State := (s.wakeAt a).busWrite m a v

/-- A mirrored register write is applied by the Banister agent for the master that made it (R199): of the readback blocks
(log 204), of the TIMEOUT of a Pigeonhole channel (R402, log 201), or of any register that the agent reaches. -/
def State.regMirror (s : State) (x : RegMirror) : State :=
  let a := regBase + 0x10000 * x.block.val + x.offset.val
  let v := x.value.toNat
  if !List.contains [Un.ban, Un.scn, Un.que, Un.pgn, Un.loop, Un.ax, Un.slv, Un.can] x.block.val ∨ a % 4 ≠ 0 then
    s.busFail .banister true a Sta.busError 0x0101
  else if s.absent a then s.busFail .banister true a Sta.absentUnit 0x0102
  else if (regAt a).isNone then s.busFail .banister true a Sta.busError 0x0101
  else if a = Reg.BAN_RB_BLOCK_LO.addr then s.wr Reg.BAN_RB_BLOCK_LO v
  else if a = Reg.BAN_RB_BLOCK_HI.addr then s.wr Reg.BAN_RB_BLOCK_HI v
  else if (pgnChannelOf a).isSome ∧ a % 0x100 = 0 ∧ 2 ^ 16 ≤ v then
    { s with ban := { s.ban with timeouts := s.ban.timeouts ++ [((pgnChannelOf a).getD 0, v % 2 ^ 16)] } }
  else
    let s := mirrorWrite .banister a v { s with ban := { s.ban with onBehalf := some x.master.val } }
    { s with ban := { s.ban with onBehalf := none } }

/-- The entries of a frame, in the order sent. -/
def State.regMirrors (s : State) (l : List RegMirror) : State := l.foldl (fun s e => s.regMirror e) s

/-! ### What the log gives (R232, R233) -/

/-- What a LOG_ENTRY gives the cold module: the bytes at the place in order where the active module wrote them. A request
that ran at J brings its slot, and the Solver CRC takes its bytes here too (R157, R234). -/
def State.entryAct (s : State) (x : LogEntry) : State :=
  match x with
  | .solver q done addr result slot =>
    let s := s.setBytes addr result
    let s := (s.setBytes (s.entryAddr q (s.queDi q) + 0xE0) done).wr (Reg.QUE_DI q) ((s.queDi q + 1) % 2 ^ 32)
    let s := { s with slv := { s.slv with crc := crc64Add s.slv.crc (result ++ done) } }
    if slot = [] then s
    else
      let p := (rSlot slot).1
      ({ s with slv := { s.slv with slots := Assoc.insert s.slv.slots p.1 p.2 } } : State).slvShowSlot p.1
  | .post channel i pos bytes =>
    if channel then s.pgnStore (i.val % 32) (le bytes 0 1) (le bytes 1 1) (le bytes 4 4) (bytes.drop 8)
    else
      let n := idxDiff pos.toNat (s.quePi i)
      let size := 2 ^ s.queEsize i
      let s := (List.range n).foldl (fun (s : State) k =>
        s.setBytes (s.entryAddr i (s.quePi i + k)) (slice bytes (k * size) size)) s
      s.wr (Reg.QUE_PI i) pos.toNat

/-- A task's cycle start in the replay: input latch takes the logged agreement, and an execute waits for its results. -/
def State.replayStart (s : State) (g : Option Agreement) (t : Nat) : State :=
  let s := s.cycleOpen t
  match g, g.bind (fun g => Assoc.find? g.images t) with
  | some g, some b =>
    let s := ((s.setTask t { s.task t with
      input := b, t1 := (g.sec * 1000000000 + g.ns : Nat), t1dom := g.dom }).latchOut t).executeStart t
    let s := s.setTask t { s.task t with running := none }
    match s.ban.join with
    | some j => s.setJoin { j with due := j.due ++ [t] }
    | none => s
  | _, _ => if s.taskLatches t then s.skipLatch t else s

/-- A base tick in the replay: what its agreement carries acts, and cycles start. -/
def State.replayTick (s : State) (g : Option Agreement) (n : Nat) : State :=
  s.inTick (n, replayFrc n) (fun s =>
    let s := match g with
      | some g => s.agreedActs g
      | none => s
    let s := s.landNow
    s.tasksDue.foldl (fun s t => s.replayStart g t) s)

/-- The base ticks that follow the one reached, up to one; the last brings the agreement. -/
def State.replayTicks (s : State) (last : Nat) (g : Option Agreement) : State :=
  match s.ban.join with
  | none => s
  | some j =>
    let s := s.setJoin { j with reached := max j.reached last }
    (List.range (last - j.reached)).foldl (fun (s : State) i =>
      s.replayTick (if j.reached + 1 + i = last then g else none) (j.reached + 1 + i)) s

/-- A replayed commit point, of a cycle that has begun here: it is made as the logged DIGEST tells, and the digest of what
is committed compared with it. DESIGN CHOICE (log 210): a digest without an image is not compared. -/
def State.replayDigest (s : State) (j : Join) (d : Digest) : State :=
  let t := d.task
  let x := s.task t
  if !x.open_ then s
  else
    let missed := bitAt d.flags 0
    let none_ := bitAt d.flags 2
    let st := s.taskState t
    let s := s.setTask t { x with open_ := false, trapped := false }
    let s : State := if s.fastest = some t then { s with ban := { s.ban with fold := j.crcs, lastC := s.commitPoint t } } else s
    let s :=
      if st = taskFault then (if x.trapped then s.commitSafe t else s)
      else if st = taskStopped ∨ st = taskUnused then s
      else if x.fault then s.taskLimitStop t
      else if x.skipped ∨ (none_ ∧ !missed) then s
      else if missed then
        let s := s.taskMiss t 0
        if (s.task t).fault then s.taskLimitStop t else s
      else
        let s := if x.latched && x.returned then s.commitGood t else s.commitHeld t
        s.setTask t { s.task t with done := s.taskCycle t }
    if none_ then s
    else if (s.digestOf t d.flags).value = d.value then s
    else s.joinEnd joinMismatch

/-- The log's front cannot be replayed yet: an agreement while cycles wait for their results, or of a tick from J on; the
digest of a cycle that waits. -/
def Join.blocked (j : Join) : JoinLog → Bool
  | .agreement g => j.due != [] || j.j.any (fun n => decide (n ≤ g.tick))
  | .digest d => j.due.contains d.task
  | _ => false

/-- The log is replayed as far as it can be; `n` bounds its entries. -/
def State.replayRun (s : State) : Nat → State
  | 0 => s
  | n + 1 =>
    match s.ban.join with
    | none => s
    | some j =>
      match j.log with
      | [] => s
      | x :: t =>
        if j.blocked x then s
        else
          let s := s.setJoin { j with log := t }
          let s := match x with
            | .agreement g => s.replayTicks g.tick (some g)
            | .mirrored seq l => l.foldl (fun s e => s.mirrorEntry seq e) s
            | .regs l => s.regMirrors l
            | .digest d => s.replayDigest j d
            | .entry e => s.entryAct e
          State.replayRun s n

/-- Within two base ticks of the newest agreement: CAUGHT_UP (R234). -/
def State.caughtUp (s : State) : State :=
  match s.ban.join with
  | some j =>
    let s := s.wr Reg.BAN_JOIN_PROG_BACKLOG (min (j.newest - j.reached) 0xFFFF)
    if j.newest ≤ j.reached + 2 ∧ s.rd Reg.BAN_JOIN_STAT_PHASE = phReplay then
      (s.setPhase phTopup).banSend 0x45 (leBytes 8 j.reached)
    else s
  | none => s

/-- The replay is under way. -/
def State.replays (s : State) : Bool :=
  s.logs && (s.rd Reg.BAN_JOIN_STAT_PHASE == phReplay || s.rd Reg.BAN_JOIN_STAT_PHASE == phTopup)

/-- The replay goes on. -/
def State.replayGo (s : State) : State :=
  match s.ban.join with
  | some j => if s.replays then (s.replayRun j.log.length).caughtUp else s
  | none => s

/-- REPLAY_CYCLE (R233): the cold module has executed one task cycle of its replay; the program's results, a trap (cause
and pc) and the fastest task's engine CRCs come with the command. -/
def execReplayCycle (t : Fin 16) (image : Option (List Byte)) (invokes : List Invoke)
    (writes : List (BitVec 32 × List Byte)) (trap : Option (BitVec 32 × BitVec 64)) (loopCrc solverCrc : BitVec 64)
    (s : State) : Answer :=
  match s.ban.join with
  | some j =>
    if !s.replays ∨ !j.due.contains t.val then .next s
    else
      let raw (x : BitVec 64) : Nat := revBits 64 (x.toNat ^^^ 0xFFFFFFFFFFFFFFFF)
      let crcs := if s.fastest = some t.val then (raw loopCrc, raw solverCrc) else j.crcs
      let s := s.setJoin { j with due := j.due.filter (fun u => u != t.val), cycles := j.cycles + 1, crcs }
      let s := if (s.task t).latched then
          let s := invokes.foldl (fun s v => s.invoke t v) s
          let s := writes.foldl (fun s w => s.varWrite t w) s
          match trap with
          | some c => s.trapAct t c.1.toNat c.2.toNat
          | none =>
            let x := s.task t
            let out := padTo (s.taskOut t) (image.getD x.output)
            (s.setTask t { x with output := out, returned := true }).wr (Reg.SCN_TASK_STAT_CONSEC t) 0
        else s
      .next s.replayGo
  | none => .next s

/-! ### The join tick (R234) -/

/-- What is left of the log is of J and later: it acts as it would have on a standby in step. -/
def State.liveLog (s : State) (x : JoinLog) : State :=
  match x with
  | .agreement g => { s with ban := { s.ban with agrs := s.ban.agrs ++ [g] } }
  | .mirrored seq l => { l.foldl (fun s e => s.mirrorEntry seq e) s with ban.rxmHeld := seq }
  | .regs l => s.regMirrors l
  | .digest d => { s with ban := { s.ban with peer := s.ban.peer ++ [d] } }
  | .entry e => s.entryAct e

/-- The replay is at J: its grid takes its place on the module's own ticks, and those from J on wait for their
agreements. -/
def State.replayLand (s : State) (n at_ : Nat) : State :=
  let s := s.replayTicks (n - 1) none
  let s := s.gridShift ((at_ : Int) - replayFrc n)
  let last := max at_ (s.scn.lastTick.getD 0)
  let late := (last - at_) / baseTick
  { s with
    scn := { s.scn with
      lastTick := some last, ticks := n + late
      dues := (List.range (late + 1)).map (fun i => (n + i, at_ + i * baseTick)) }
    ban := { s.ban with
      join := none, lastFail := 0, stuck := false, own := [], peer := [], held := [], agrs := []
      lastC := s.ban.lastC + at_ - replayFrc n } }

/-- JOIN_TICK (R234): at J, the top-up here and the replay done, the module executes live, sends JOINED and becomes
STANDBY. -/
def execJoinTick (s : State) : Answer :=
  match s.ban.join with
  | some j =>
    match j.topup, j.j with
    | some b, some n =>
      if j.active ∨ !s.replays ∨ j.due ≠ [] then .next s
      else
        let s := { s with frc := max s.frc j.tickAt }
        let s := (s.replayLand n j.tickAt).topupAt j.tickAt b
        let ms := min ((s.frc - j.since) / 1000000) 0xFFFF
        let s := ((s.setPhase phJoined).wr Reg.BAN_JOIN_STAT_REASON 0).wr Reg.BAN_JOIN_PROG_TIME ms
        let s := s.banSend 0x47 (leBytes 4 (s.rd Reg.GB_NEXT_SEQ))
        let s := (s.setRole roleStandby).setPeerRole roleActive
        let s := (s.post Un.ban 0x0813 ms (j.bytes / 1024) j.cycles).sendRole
        .next (j.log.foldl (fun s x => s.liveLog x) s).followAll
    | _, _ => .next s
  | none => .next s

end Sys2Proof.Machine
end

