-- ==== Sys2Proof/Machine/BanFrames.lean ====
section
/-!
DEFINITION. What arrives on the Banister: copies of frames, gaps and their filling, and what each message does (R188 to
R193, R225).
-/
namespace Sys2Proof.Machine

/-- Messages that act in the order sent: one that comes before a missing frame waits for it. DESIGN CHOICE (log 207): the
spec says so of mirrored writes, and of a cold module's log; the model has it of every stream whose frames build on one
another. -/
def State.ordered (s : State) : BanMsg → Bool
  | .rxMirror _ | .regMirror _ | .samples .. | .counts .. | .permit _ | .hamper .. | .logEntry _ | .topup _ => true
  | .agreement _ | .digest .. => s.logs
  | _ => false

/-- What a message does. -/
def State.msgAct (s : State) (a : Arrival) (m : BanMsg) : State :=
  let seq := a.seq.toNat
  let sent := a.sent.toNat
  match m with
  | .heartbeat role _ phase => s.heartbeatTake sent role.val phase.val
  | .beacon serial _ strap role => s.beaconTake serial.toNat strap.val role.val
  | .role x => s.roleTake seq x
  | .nak seqs => s.nakTake (seqs.map (fun n => n.toNat))
  | .agreement g => s.agreementTake g
  | .agreeAck tick crc => s.agreeAckTake tick crc.toNat
  | .rxMirror l => s.rxMirrorTake seq l
  | .mirrorAck n => s.mirrorAckTake n.toNat
  | .regMirror l => if s.follows then s.regMirrors l else if s.logs then s.joinLog (.regs l) (16 * l.length) 0 else s
  | .digest t missed none_ cycle value =>
    let strict := if s.taskStrict t then digStrict else 0
    s.digestTake { task := t.val, flags := b2n missed + strict + 4 * b2n none_, cycle, value := value.toNat }
  | .samples l ecc slots => s.samplesTake l ecc slots.val
  | .counts c loss bad => s.countsTake c loss bad
  | .permit p => s.permitTake p
  | .inquiry failed => s.inquiryTake true failed.toNat
  | .handover x => s.handoverTake seq x
  | .driving offset => s.drivingTake offset
  | .released => s.releasedTake
  | .joinRequest caps station serial sdig pdig => s.joinRequestTake caps.toNat station.toNat serial.toNat sdig pdig
  | .joinAnswer reason upgrade caps l => s.joinAnswerTake reason.toNat upgrade caps.toNat l
  | .hamper kind i offset total last data => s.hamperTake sent kind.toNat i.toNat offset total last data
  | .hamperAck kind i good => s.hamperAckTake kind.toNat i.toNat good
  | .logEntry x =>
    let n := match x with
      | .solver _ d _ r p => d.length + r.length + p.length + 16
      | .post _ _ _ b => b.length + 8
    if s.follows then s.entryAct x else if s.logs then s.joinLog (.entry x) n 0 else s
  | .caughtUp _ => s.caughtUpTake
  | .topup b => s.topupTake sent b
  | .joined _ => s.joinedTake
  | .swap n => s.swapTake n
  | .ready resets discarded => s.readyTake resets.toNat discarded.toNat
  | .shutdown serial => s.shutdownTake serial.toNat

/-- A message acts, and with it the replay goes on. -/
def State.msgTake (s : State) (a : Arrival) (m : BanMsg) : State := (s.msgAct a m).replayGo

/-- SEQ of the first of a message's frames. -/
def arrFirst (a : Arrival) : Nat := (a.seq.toNat + 2 ^ 32 - a.more % 256) % 2 ^ 32

/-- A message comes after a frame that has not arrived. -/
def State.behindGap (s : State) (a : Arrival) : Bool := s.ban.missing.any (fun n => seqAfter a.seq.toNat n)

/-- A frame is new: not among the newest 256, or one of those missing. DESIGN CHOICE (log 208): a SEQ that is neither the
copy of a recent frame nor a resent one begins the numbering of a peer that has been reset, as a BEACON does. -/
def State.newFrame (s : State) (n : Nat) (boots : Bool) : Bool :=
  match s.ban.rxSeq with
  | none => true
  | some r => decide (256 ≤ (r + 2 ^ 32 - n) % 2 ^ 32) || s.ban.missing.contains n || (boots && n != r)

/-- The values from one SEQ up to another, not itself; of a gap of more than 256 the newest (R193). -/
def gapSeqs (a b : Nat) : List Nat :=
  let d := (b + 2 ^ 32 - a) % 2 ^ 32
  let n := min d 256
  (List.range n).map (fun i => (a + (d - n) + i) % 2 ^ 32)

/-- A gap is seen: a NAK asks for the missing values (R193). -/
def State.gapSeen (s : State) (first : Nat) : State :=
  match s.ban.rxSeq with
  | none => s
  | some r =>
    let new := if seqAfter first r then gapSeqs ((r + 1) % 2 ^ 32) first else []
    if new = [] then s
    else
      let s := s.banAsk 0x04 (new.flatMap (fun n => leBytes 4 n))
      { s with ban := { s.ban with missing := (s.ban.missing ++ new).drop (s.ban.missing.length + new.length - 256) } }

/-- A frame, or the frames of a long message, are here: the gap that they fill, and the newest SEQ. -/
def State.seqTake (s : State) (a : Arrival) : State :=
  let last := a.seq.toNat
  let inside (n : Nat) : Bool := seqFrom n (arrFirst a) && seqFrom last n
  let fills := s.ban.missing.contains last
  let follows := s.ban.rxSeq.all (fun r => seqAfter last r)
  let missing := if fills || follows then s.ban.missing.filter (fun n => !inside n) else []
  let s : State := { s with ban := { s.ban with missing, rxSeq := if fills && !follows then s.ban.rxSeq else some last } }
  if missing = [] then s.hsDone (fun h => h.1 == 0x04) else s

/-- Messages that waited for a missing frame act, in the order sent, up to one that still waits. -/
def State.earlyRun (s : State) : Nat → State
  | 0 => s
  | n + 1 =>
    match s.ban.early with
    | [] => s
    | x :: t =>
      if s.behindGap x.1 then s
      else State.earlyRun (({ s with ban := { s.ban with early := t } } : State).msgTake x.1 x.2) n

/-- A message that waits takes its place by SEQ. -/
def earlyPut (x : Arrival × BanMsg) : List (Arrival × BanMsg) → List (Arrival × BanMsg)
  | [] => [x]
  | y :: t => if seqAfter y.1.seq.toNat x.1.seq.toNat then x :: y :: t else y :: earlyPut x t

/-- What a module takes before its join point (R490). -/
def msgBoots : BanMsg → Bool
  | .heartbeat .. | .beacon .. | .role _ => true
  | _ => false

/-- A message that comes before a missing one waits where order matters; a mirrored reception is held already, and the
acknowledgement tells how far there is no gap (R191). -/
def State.ordTake (s : State) (a : Arrival) (m : BanMsg) : State :=
  if s.ordered m && s.behindGap a then
    let s : State := { s with ban := { s.ban with early := earlyPut (a, m) s.ban.early } }
    match m with
    | .rxMirror _ => if s.follows then s.mirrorAckSend else s
    | _ => s
  else
    let s := s.msgTake a m
    s.earlyRun s.ban.early.length

/-- A copy of a message arrives (R188 to R190): one with a bad CRC is counted, the second of two good ones has no effect. -/
def State.arrive (s : State) (a : Arrival) (m : BanMsg) : State :=
  if !s.power.running ∨ s.role = roleSingle then s
  else if !a.good then s.bump (Reg.BAN_LANE_CRC_ERR a.lane)
  else
    let s := s.laneSeen a.lane a.seq.toNat
    if !s.locked ∧ !msgBoots m then s.bump Reg.BAN_DISCARD_COUNT
    else if !s.newFrame a.seq.toNat (match m with | .beacon .. => true | _ => false) then s
    else
      let s := if s.locked then s.gapSeen (arrFirst a) else s
      (s.seqTake a).ordTake a m

/-! ### The commands -/

/-- HEARTBEAT (R191, R194). -/
def execHeartbeat (a : Arrival) (role : Fin 8) (lanes : Fin 4) (phase : Fin 250000) (s : State) : Answer :=
  .next (s.arrive a (.heartbeat role lanes phase))

/-- BEACON (R491). -/
def execBeacon (a : Arrival) (serial caps : BitVec 32) (strap : Fin 4) (role : Fin 8) (s : State) : Answer :=
  .next (s.arrive a (.beacon serial caps strap role))

/-- ROLE (R191, R192). -/
def execRole (a : Arrival) (x : RoleMsg) (s : State) : Answer := .next (s.arrive a (.role x))

/-- NAK (R193). -/
def execNak (a : Arrival) (seqs : List (BitVec 32)) (s : State) : Answer := .next (s.arrive a (.nak seqs))

/-- AGREEMENT (R196). -/
def execAgreement (a : Arrival) (g : Agreement) (s : State) : Answer := .next (s.arrive a (.agreement g))

/-- AGREE_ACK (R196). -/
def execAgreeAck (a : Arrival) (tick : Nat) (crc : BitVec 32) (s : State) : Answer := .next (s.arrive a (.agreeAck tick crc))

/-- RX_MIRROR (R198). -/
def execRxMirror (a : Arrival) (entries : List Mirrored) (s : State) : Answer := .next (s.arrive a (.rxMirror entries))

/-- MIRROR_ACK (R198). -/
def execMirrorAck (a : Arrival) (upTo : BitVec 32) (s : State) : Answer := .next (s.arrive a (.mirrorAck upTo))

/-- REG_MIRROR (R199): applied in the order sent on a standby in step, logged on a cold module that joins (R232). -/
def execRegMirror (a : Arrival) (entries : List RegMirror) (s : State) : Answer := .next (s.arrive a (.regMirror entries))

/-- DIGEST (R201 to R204). -/
def execDigest (a : Arrival) (t : Fin 16) (missed noImage : Bool) (cycle : Nat) (value : BitVec 64) (s : State) : Answer :=
  .next (s.arrive a (.digest t missed noImage cycle value))

/-- LOOP_SAMPLES (R126). -/
def execLoopSamples (a : Arrival) (samples : List LoopSmp) (ecc : List (Fin 512)) (slots : Fin 513) (s : State) : Answer :=
  .next (s.arrive a (.samples samples ecc slots))

/-- AXIS_COUNTS (R184). -/
def execAxisCounts (a : Arrival) (counts : List (Option (BitVec 48))) (loss bad : BitVec 8) (s : State) : Answer :=
  .next (s.arrive a (.counts counts loss bad))

/-- SOLVER_PERMIT (R157). -/
def execSolverPermit (a : Arrival) (p : SlvPermit) (s : State) : Answer := .next (s.arrive a (.permit p))

/-- INQUIRY_RESULT (R208): the peer's arrives, or the module's own checks are done. -/
def execInquiryResult (peer : Option Arrival) (failed : BitVec 5) (s : State) : Answer :=
  match peer with
  | some a => .next (s.arrive a (.inquiry failed))
  | none => if s.power.running then .next (s.inquiryTake false failed.toNat) else .next s

/-- HANDOVER (R213). -/
def execHandover (a : Arrival) (x : Notice) (s : State) : Answer := .next (s.arrive a (.handover x))

/-- DRIVING (R214). -/
def execDriving (a : Arrival) (offset : Nat) (s : State) : Answer := .next (s.arrive a (.driving offset))

/-- RELEASED (R214). -/
def execReleased (a : Arrival) (s : State) : Answer := .next (s.arrive a .released)

/-- JOIN_REQUEST (R225, R226, R237). -/
def execJoinRequest (a : Arrival) (caps station serial : BitVec 32) (sdig pdig : List Byte) (s : State) : Answer :=
  .next (s.arrive a (.joinRequest caps station serial sdig pdig))

/-- JOIN_ANSWER (R225, R226, R235). -/
def execJoinAnswer (a : Arrival) (reason : Byte) (upgrade : Bool) (caps : BitVec 32) (l : Option Nat) (s : State) : Answer :=
  .next (s.arrive a (.joinAnswer reason upgrade caps l))

/-- HAMPER (R228). -/
def execHamper (a : Arrival) (kind : Byte) (index : BitVec 16) (offset total : Nat) (last : Bool) (data : List Byte)
    (s : State) : Answer :=
  .next (s.arrive a (.hamper kind index offset total last data))

/-- HAMPER_ACK (R228). -/
def execHamperAck (a : Arrival) (kind : Byte) (index : BitVec 16) (good : Bool) (s : State) : Answer :=
  .next (s.arrive a (.hamperAck kind index good))

/-- LOG_ENTRY (R232). -/
def execLogEntry (a : Arrival) (x : LogEntry) (s : State) : Answer := .next (s.arrive a (.logEntry x))

/-- CAUGHT_UP (R234). -/
def execCaughtUp (a : Arrival) (pos : Nat) (s : State) : Answer := .next (s.arrive a (.caughtUp pos))

/-- TOPUP (R234, R239). -/
def execTopup (a : Arrival) (payload : List Byte) (s : State) : Answer := .next (s.arrive a (.topup payload))

/-- JOINED (R234). -/
def execJoined (a : Arrival) (gbSeq : BitVec 32) (s : State) : Answer := .next (s.arrive a (.joined gbSeq))

/-- SWAP (R239). -/
def execSwap (a : Arrival) (landing : Nat) (s : State) : Answer := .next (s.arrive a (.swap landing))

/-- READY (R239). -/
def execReady (a : Arrival) (resets discarded : BitVec 32) (s : State) : Answer := .next (s.arrive a (.ready resets discarded))

/-- SHUTDOWN (R484). -/
def execShutdown (a : Arrival) (serial : BitVec 32) (s : State) : Answer := .next (s.arrive a (.shutdown serial))

end Sys2Proof.Machine
end

