-- ==== Sys2Proof/Machine/RoundsStep.lean ====
section
/-!
DEFINITION. A step of the Rounds self-test, which can raise the fault triggers of R207 (R428, R429, R432).
-/
namespace Sys2Proof.Machine

/-- An item may step: the Loop Engine in slots that no loop uses, the Solver while it serves no request (R429). -/
def State.rndMay (s : State) (i : Nat) : Bool :=
  (i != 6 || decide (s.rd Reg.LOOP_LOAD_PEAK < 512)) && (i != 7 || s.slv.req.isNone)

/-- RND_STEP (R428, R432): after the step before it, a step of an item, of 1 to 5 µs, in the first grant, where it has room
for the step and for the unit's wake latency. An item other than the first unfinished one steps only where those before it
do not fit. A fault is looked for once more at once. -/
def execRndStep (item : Fin 17) (us : Fin 6) (find : RndFind) (s : State) : Answer :=
  let i := item.val
  let s := ({ s with frc := max s.frc s.rnd.freeAt } : State).rndExpire
  match s.rnd.grants with
  | [] => .next s
  | g :: rest =>
    let need := us.val + s.rndWake i
    let fits : Bool := decide (0 < us.val) && decide (need ≤ g.left) && decide (s.frc + 1000 * need ≤ g.until_)
    let before := (s.rndNext.takeWhile (fun j => j != i)).any (fun j => s.rndMay j &&
      decide (s.rndWake j + us.val ≤ g.left) && decide (s.frc + 1000 * (s.rndWake j + us.val) ≤ g.until_))
    if s.power.running ∧ s.rd Reg.RND_STAT_PAUSED = 0 ∧ fits ∧ s.rndMay i ∧ s.rndNext.contains i ∧ !before then
      let again : Nat := match find with
        | .once | .fault _ _ => us.val
        | _ => 0
      let left := g.left - need - again
      let r : Rnd := { s.rnd with
        grants := (if left = 0 then [] else [{ g with left, served := true }]) ++ rest
        work := Assoc.insert s.rnd.work i (s.rnd.workOf i + us.val)
        steps := Assoc.insert s.rnd.steps i ((Assoc.find? s.rnd.steps i).getD 0 + 1)
        freeAt := s.frc + 1000 * (need + again)
        last := some (i, us.val)
        served := (s.frc, us.val + again) :: s.rnd.served.filter (fun e => decide (s.frc < e.1 + 1000000000)) }
      let s : State := { s.rndWakes i with rnd := r }
      let s := s.wr Reg.RND_RATE_USED (min (r.served.map (fun e => e.2)).sum (2 ^ 20 - 1))
      let s : State := match find with
        | .fault .ecc d => (s.rndFail i d.toNat).faultTrigger 3
        | .fault .lockstep d => (s.rndFail i d.toNat).faultTrigger 2
        | .fault .other d => s.rndFail i d.toNat
        | .corrected a => s.post Un.rnd 0x1104 i (a % 2 ^ 32) (bits a 32 8)
        | _ => s
      let whole : Bool := decide (s.rndWork i ≤ s.rnd.workOf i)
      let s := if whole && !s.rnd.ended.contains i then
          (s.wr (Reg.RND_ITEM_STATE i) 2).wr (Reg.RND_ITEM_T i) s.hours
        else s
      .next s.rndPass.rndShow
    else .next s

end Sys2Proof.Machine
end

