-- ==== Sys2Proof/Machine/SolverRun.lean ====
section
/-!
DEFINITION. The steps of the Dispatch Solver that the active module chooses, with the permits of a pair (R137, R138,
R154, R157) and the fault trigger of an uncorrectable ECC error in scratch or under a load (R207, R494).
-/
namespace Sys2Proof.Machine

/-- SOLVER_TAKE (R137). The standby's Solver goes by the permits it holds, or waits for one (R157). -/
def execSolverTake (ecc : Bool) (s : State) : Answer :=
  if s.slvOn ∧ s.power.running ∧ s.locked ∧ s.slv.req.isNone ∧ !s.joinHolds ∧
      !s.on Reg.PWR_STAT_PF_WARN then
    match s.slvNext with
    | some sq =>
      if s.leads then
        let r := s.slvRequest sq
        let t := s.slvTake sq ecc (r.timed s.frc)
        let t := t.slvSendTake (t.slv.req.getD r)
        .next (if (t.slv.req.getD r).done = some (0x02, 0x06) then t.faultTrigger 3 else t)
      else if s.follows then .next s.slvFollow.slvAwait
      else .next s
    | none => .next s
  else .next s

/-- SOLVER_ITERATION (R138), after its deadline check (R154). -/
def execSolverIteration (ecc : Bool) (s : State) : Answer :=
  match s.slv.req with
  | some r =>
    if r.done.isSome ∨ !s.power.running then .next s
    else if s.leads then
      if r.inTime s.frc (slvSolveBound r.order) then
        let t := s.slvIterate r ecc (r.timed s.frc)
        let t := t.slvSendIterate (r.iters + 1) (t.slv.req.getD r)
        .next (if ecc then t.faultTrigger 3 else t)
      else .next ((s.slvSend 2 r.sq []).slvStop r)
    else if s.follows then .next s.slvFollow.slvAwait
    else .next s
  | none => .next s

end Sys2Proof.Machine
end

