-- ==== Sys2Proof/Machine/Telegrams.lean ====
section
/-!
DEFINITION. Twin-Gallery safe telegrams: reception, the skew window, Excursion of a connection and its reports
(R279 to R286).
-/
namespace Sys2Proof.Machine

/-- States of a connection (R286). -/
def tgStarting : Nat := 0
def tgValid : Nat := 1
def tgSingleA : Nat := 2
def tgSingleB : Nat := 3
def tgFailed : Nat := 4

/-- A 16-bit count, saturating. -/
def inc16 (n : Nat) : Nat := min (n + 1) 65535

/-- Whether a connection receives. -/
def State.tgReceives (s : State) (c : Nat) : Bool := le (s.connRec c) 1 1 == 1 && s.connRec c != []

/-- The network that a connection in SINGLE runs on; none in any other state. -/
def TgConn.single (x : TgConn) : Option Nat :=
  if x.state = tgSingleA then some 0 else if x.state = tgSingleB then some 1 else none

/-- Fields of a telegram. -/
def tgSeq (t : List Byte) : Nat := le t 8 4
def tgLen (t : List Byte) : Nat := le t 0xE 2
def tgPayload (t : List Byte) : List Byte := slice t 0x18 (tgLen t)

/-- Whether a SEQ is newer than the last accepted one (R280). -/
def tgNewer (new : Nat) (last : Option Nat) : Bool :=
  match last with
  | none => true
  | some q => let d := (new + 2 ^ 32 - q) % 2 ^ 32; decide (1 ≤ d) && decide (d ≤ 2 ^ 31 - 1)

/-! ### Reports (R286) -/

/-- The lowest-numbered channel that binds SPA to an application core. -/
def State.tgReportChannel (s : State) : Option Nat :=
  (List.range 32).find? (fun ch => s.pgnUsed ch && s.pgnSender ch == 0x10 && decide (1 ≤ s.pgnReceiver ch) &&
    decide (s.pgnReceiver ch ≤ 4))

/-- The 32 bytes of a report. -/
def tgReportBytes (c : Nat) (x : TgConn) : List Byte :=
  leBytes 1 c ++ leBytes 1 x.state ++ [0, 0] ++ leBytes 4 (x.seq.getD 0) ++ leBytes 4 (min x.count (2 ^ 32 - 1)) ++
  leBytes 2 x.missA ++ leBytes 2 x.missB ++ leBytes 2 x.mismatch ++ leBytes 2 x.crc ++ leBytes 2 x.stale ++
  leBytes 2 x.len ++ leBytes 2 x.unknown ++ leBytes 2 x.seqBack ++ leBytes 2 x.late ++ leBytes 2 x.gap

/-- SPA stages 32 bytes and posts them, with TYPE and PARAM 0. -/
def State.tgPost (s : State) (c : Nat) (x : TgConn) : State :=
  match s.tgReportChannel with
  | none => s
  | some ch =>
    let b := tgReportBytes c x
    let s := (List.range 8).foldl (fun s w => s.wr (Reg.PGN_TX_DATA ch w) (le b (4 * w) 4)) s
    (s.wr (Reg.PGN_TX_PARAM ch) 0).pgnPost .spa ch 32

/-- The report of a connection; it reaches the control domain only while that runs (R275). -/
def State.tgReport (s : State) (c : Nat) : State :=
  if s.locked && s.power.running then s.tgPost c (s.tgConn c) else s

/-- A connection changes its state: its report goes out. -/
def State.tgState (s : State) (c : Nat) (x : TgConn) : State :=
  let was := (s.tgConn c).state
  let x := if x.state = tgFailed ∧ was ≠ tgFailed then { x with failAt := s.safClock } else x
  let s := s.setTg c x
  if x.state = was then s else s.tgReport c

/-! ### The return check (R264, R285) -/

/-- Whether the channels that a function lost have passed throughout its check: none of them shows a fault now, and a
failed processor has restarted and agreed. -/
def State.funReturned (s : State) (f : Nat) (proc : Bool) : Bool :=
  let bad := s.funBad f
  (Assoc.find? s.saf.clean f).getD false &&
  (!(bad.contains (chProc 0) || bad.contains (chProc 1)) || proc) &&
  (List.range 8).all (fun l => !(bad.contains (chLine l) && bitAt (s.rd Reg.SAF_TP_LINE_FAULT) l)) &&
  (List.range 16).all (fun n => !(bad.contains (chContact n) && bitAt (s.rd Reg.SAF_TP_CH_FAULT) n)) &&
  (List.range 64).all (fun c => !(s.funcConn f c && (s.tgConn c).state == 4))

/-- A function returns from Excursion (R264, R285). -/
def State.funReturn (s : State) (f : Nat) : State :=
  let bad := s.funBad f
  let s := if bad.contains (chProc 0) then { s with saf := { s.saf with failA := false } }.wr Reg.SAF_STAT_SPA_OK 1 else s
  let s := if bad.contains (chProc 1) then { s with saf := { s.saf with failB := false } }.wr Reg.SAF_STAT_SPB_OK 1 else s
  let s := (List.range 64).foldl (fun s c =>
    let x := s.tgConn c
    if s.funcConn f c && (x.state == 2 || x.state == 3) then
      (s.tgState c { x with state := tgValid, held := none }).post Un.saf 0x0910 c 1 (x.seq.getD 0)
    else s) s
  let spent := (s.excOf f).spent s.safClock
  let s := ((s.wr (Reg.SAF_FUNC_STATE f) funNormal).wr (Reg.SAF_FUNC_CAUSE f) 0).wr (Reg.SAF_FUNC_REMAIN f) 0
  ((s.setFunBad f []).post Un.saf 0x0907 f spent 0).safSummary.matrix

/-- RETURN_CHECK_END (R264, R285), 60 s after the RETURN; a timer that reaches 0 before that trips. `proc` says that a failed processor has been restarted, self-tested and compared. -/
def execReturnCheckEnd (f : Fin 64) (proc : Bool) (s : State) : Answer :=
  let end_ := (Assoc.find? s.saf.checkAt f).getD s.safClock + minute
  if !s.saf.powered ∨ !s.on (Reg.SAF_FUNC_CHECK f) then .next s
  else if (s.excOf f).until_ ≤ end_ then .next (s.funExpire f)
  else
    let s := (s.waitTo end_).wr (Reg.SAF_FUNC_CHECK f) 0
    if s.funReturned f proc then .next (s.funReturn f)
    else .next (s.post Un.saf 0x0908 f (s.rd (Reg.SAF_FUNC_CAUSE f)) 0)

/-! ### Outcomes -/

/-- A telegram is accepted; STARTING becomes VALID. -/
def State.tgAccept (s : State) (c st : Nat) (t : List Byte) : State :=
  let x := s.tgConn c
  let seq := tgSeq t
  let skipped := match x.seq with
    | some q => (seq + 2 ^ 32 - q) % 2 ^ 32 - 1
    | none => 0
  let s := s.tgState c { x with
    state := st, seq := some seq, accepted := t, window := none
    acceptAt := s.safClock, count := x.count + 1, gap := min (x.gap + skipped) 65535 }
  if x.state = tgStarting then s.post Un.saf 0x0910 c 0 seq else s

/-- Offset of the first byte in which two lists differ. -/
def firstDiff : List Byte → List Byte → Nat
  | a :: t, b :: u => if a = b then firstDiff t u + 1 else 0
  | _, _ => 0

/-- The functions that use a connection trip (R281, R283). -/
def State.tgTrip (s : State) (c : Nat) : State :=
  (s.funTrips (fun f => s.funcConn f c) 5).matrix

/-- Copies that differ (R281, R282). -/
def State.tgMismatch (s : State) (c : Nat) (a b : List Byte) : State :=
  let x := s.tgConn c
  let s := s.tgState c { x with
    state := tgFailed, window := none, held := none, mismatch := inc16 x.mismatch }
  (s.post Un.saf 0x090E c (tgSeq a) (firstDiff a b)).tgTrip c

/-- A missing copy of a network is counted, and spoils the return checks of the connection's functions (R285). -/
def State.tgMiss (s : State) (c net : Nat) : State :=
  let x := s.tgConn c
  let s := s.setTg c (if net = 0 then { x with missA := inc16 x.missA } else { x with missB := inc16 x.missB })
  (List.range 64).foldl (fun s f => if s.funcConn f c then s.spoil f else s) s

/-- A copy of the last accepted SEQ (R282). -/
def State.tgLate (s : State) (c net : Nat) (t : List Byte) : State :=
  let x := s.tgConn c
  if t = x.accepted then
    let window := match x.window with
      | some w => if w.1 ≠ net then none else x.window
      | none => none
    s.setTg c { x with late := inc16 x.late, window }
  else s.tgMismatch c x.accepted t

/-- In SINGLE the surviving network's copy is accepted at once and compared with a held one of its SEQ; where none is
held, the excused network's copy is awaited (R281, R282, R285). -/
def State.tgSingleTake (s : State) (c net : Nat) (t : List Byte) : State :=
  let x := s.tgConn c
  let s := s.tgAccept c x.state t
  let wait (s : State) : State := s.setTg c { s.tgConn c with window := some (net, t), winAt := s.safClock }
  match x.held with
  | some h =>
    if tgSeq h = tgSeq t then
      let s := s.setTg c { s.tgConn c with held := none }
      if h = t then s.setTg c { s.tgConn c with late := inc16 (s.tgConn c).late } else s.tgMismatch c t h
    else wait s
  | none => wait s

/-- SKEW in ns (R274). -/
def State.tgSkewTime (s : State) (c : Nat) : Nat :=
  let n := le (s.connRec c) 0xE 2
  (if n = 0 then 20 else n) * 100000

/-- The window closes without the second copy (R281). -/
def State.tgSkew (s : State) (c : Nat) : State :=
  let x := s.tgConn c
  match x.window with
  | none => s
  | some (net, t) =>
    let other := 1 - net
    let s := (s.setTg c { x with window := none }).tgMiss c other
    if x.state = tgValid then
      let s := s.tgAccept c (if net = 0 then tgSingleA else tgSingleB) t
      let s := s.post Un.saf 0x090D c other (tgSeq t)
      (s.funFaults (fun f => s.funcConn f c) (chConn c) 5 true).matrix
    else s

/-- A held copy is discarded: no copy of the surviving network came (R282). -/
def State.tgHeldOver (s : State) (c : Nat) : State :=
  let x := s.tgConn c
  match x.single, x.held with
  | some live, some _ => (s.setTg c { x with held := none }).tgMiss c live
  | _, _ => s

/-- The first copy of a SEQ opens a window; in SINGLE the excused network's copy is held instead. -/
def State.tgFirst (s : State) (c net : Nat) (t : List Byte) : State :=
  let x := s.tgConn c
  match x.single with
  | some live =>
    if net = live then (if x.window.isSome then s.tgSkew c else s).tgSingleTake c net t else s.setTg c { x with held := some t, heldAt := s.safClock }
  | none => s.setTg c { x with window := some (net, t), winAt := s.safClock }

/-- A copy that has passed every check (R281, R282); a window or a hold whose SKEW is over ends first. -/
def State.tgTake (s : State) (c net : Nat) (t : List Byte) : State :=
  let skew := s.tgSkewTime c
  let s := if (s.tgConn c).window.isSome && decide ((s.tgConn c).winAt + skew < s.safClock) then s.tgSkew c else s
  let s := if (s.tgConn c).held.isSome && decide ((s.tgConn c).heldAt + skew < s.safClock) then s.tgHeldOver c else s
  let x := s.tgConn c
  if x.state = tgFailed then s
  else if some (tgSeq t) = x.seq then s.tgLate c net t
  else
    match x.single with
    | some _ => s.tgFirst c net t
    | none =>
      match x.window with
      | none => s.tgFirst c net t
      | some (first, u) =>
        if tgSeq u ≠ tgSeq t then (s.tgSkew c).tgFirst c net t
        else if u ≠ t then s.tgMismatch c u t
        else if first = net then s.setTg c { x with late := inc16 x.late }
        else s.tgAccept c tgValid t

/-! ### Reception (R279) -/

/-- A discarded copy: its count and code 0x0911; connection 0xFF counts module-wide. -/
def State.tgDiscard (s : State) (c port why : Nat) : State :=
  let x := if c = 0xFF then s.saf.tgMod else s.tgConn c
  let x := match why with
    | 1 | 2 => { x with len := inc16 x.len }
    | 3 => { x with unknown := inc16 x.unknown }
    | 4 => { x with crc := inc16 x.crc }
    | 5 => { x with stale := inc16 x.stale }
    | _ => { x with seqBack := inc16 x.seqBack }
  let s := if c = 0xFF then { s with saf := { s.saf with tgMod := x } } else s.setTg c x
  s.post Un.saf 0x0911 c why (port / 2 + port * 2 ^ 8)

/-- The connection that receives a copy: its ID, source and length are those of the record (R279). -/
def State.tgConnection (s : State) (f : List Byte) : Option Nat :=
  (List.range 64).find? (fun c => s.tgReceives c && le (s.connRec c) 4 4 == le f 4 4 &&
    le (s.connRec c) 8 4 == le f 0 4 && le (s.connRec c) 0xC 2 == tgLen f)

/-- The connection that a copy names by its identities alone (R279); 0xFF where it names none. -/
def State.tgNamed (s : State) (f : List Byte) : Nat :=
  if f.length < 8 then 0xFF
  else ((List.range 64).find? (fun c => s.tgReceives c && le (s.connRec c) 4 4 == le f 4 4 &&
    le (s.connRec c) 8 4 == le f 0 4)).getD 0xFF

/-- TG_COPY_RECEIVE (R279): the payload of a frame of EtherType 0x88B6, and the port it came in on. -/
def execTgCopyReceive (port : Fin 4) (f : List Byte) (s : State) : Answer :=
  if !(s.saf.powered && s.power.running && s.locked) || s.rd Reg.SAF_STAT_STATE == 0 || s.rd Reg.SAF_STAT_STATE == 3 then
    .next s
  else
    let len := tgLen f
    if f.length < 28 then .next (s.tgDiscard (s.tgNamed f) port 1)
    else if 256 < len then .next (s.tgDiscard (s.tgNamed f) port 2)
    else if f.length < 28 + len then .next (s.tgDiscard (s.tgNamed f) port 1)
    else
      match s.tgConnection f with
      | none => .next (s.tgDiscard (s.tgNamed f) port 3)
      | some c =>
        let r := s.connRec c
        let t := f.take (28 + len)
        let age := s.safTime - (le t 0x10 8 : Int)
        if !bitAt (le r 2 1) port then .next (s.tgDiscard c port 3)
        else if le t (0x18 + len) 4 ≠ crc32c (leBytes 8 (le r 0x18 8) ++ t.take (0x18 + len)) then
          .next (s.tgDiscard c port 4)
        else if age < -1000000 ∨ (le r 0x10 2 : Int) * 1000000 < age then .next (s.tgDiscard c port 5)
        else if !tgNewer (tgSeq t) (s.tgConn c).seq && some (tgSeq t) != (s.tgConn c).seq then
          .next (s.tgDiscard c port 6)
        else .next (s.tgTake c (port / 2) t)

/-! ### Timed events -/

/-- SKEW_WINDOW_EXPIRE (R281): SKEW after the first copy. -/
def execSkewWindowExpire (c : Fin 64) (s : State) : Answer :=
  let x := s.tgConn c
  if s.saf.powered && x.window.isSome then .next ((s.waitTo (x.winAt + s.tgSkewTime c)).tgSkew c) else .next s

/-- HELD_COPY_EXPIRE (R282): SKEW after the held copy. -/
def execHeldCopyExpire (c : Fin 64) (s : State) : Answer :=
  let x := s.tgConn c
  if s.saf.powered && x.single.isSome && x.held.isSome then
    .next ((s.waitTo (x.heldAt + s.tgSkewTime c)).tgHeldOver c)
  else .next s

/-- TG_TIMEOUT (R283): TIMEOUT after the last accepted telegram. -/
def execTgTimeout (c : Fin 64) (s : State) : Answer :=
  let x := s.tgConn c
  if s.saf.powered && s.tgReceives c && x.state != tgFailed then
    let s := s.waitTo (x.acceptAt + le (s.connRec c) 0x12 2 * 1000000)
    let s := s.tgState c { x with state := tgFailed, window := none, held := none }
    .next ((s.post Un.saf 0x090F c ((s.safClock - x.acceptAt) / 1000000) (x.seq.getD 0)).tgTrip c)
  else .next s

/-- CONN_RESTART (R284): 1 s after it failed. -/
def execConnRestart (c : Fin 64) (s : State) : Answer :=
  let x := s.tgConn c
  if s.saf.powered ∧ x.state = tgFailed then
    let s := s.waitTo (x.failAt + 1000000000)
    .next (s.tgState c { x with state := tgStarting, acceptAt := s.safClock })
  else .next s

/-- A report of a second: 1 s after the last one. -/
def State.tgSecond (s : State) (x : TgConn) : State :=
  match x.reportAt with
  | some t => s.waitTo (t + 1000000000)
  | none => s

/-- CONN_REPORT (R286), once every second: of a connection, or of the module-wide counters. -/
def execConnReport (which : Option (Fin 64)) (s : State) : Answer :=
  if !(s.saf.powered && s.power.running && s.locked) then .next s
  else
    match which with
    | some c =>
      if s.connRec c = [] then .next s
      else
        let s := s.tgSecond (s.tgConn c)
        .next ((s.setTg c { s.tgConn c with reportAt := some s.safClock }).tgReport c)
    | none =>
      let s := s.tgSecond s.saf.tgMod
      let s := { s with saf := { s.saf with tgMod := { s.saf.tgMod with reportAt := some s.safClock } } }
      .next (s.tgPost 0xFF s.saf.tgMod)

end Sys2Proof.Machine
end

