-- ==== Sys2Proof/Machine/Wake.lean ====
section
/-!
DEFINITION. Idle states and wake-up (R22 to R26), and the replay of a correctable ECC error (R494).
-/
namespace Sys2Proof.Machine

/-- UNIT_WAKE (R23): a bell or wake event of a unit. -/
def execUnitWake (u : GUnit) (s : State) : Answer :=
  if s.power.running then .next (s.wake u) else .next s

/-- A unit has an unfinished request, an unacknowledged bell or a pending wake event, or is one that R24 does not gate
now. -/
def State.unitBusy (s : State) : GUnit → Bool
  | .core n =>
    (List.range 16).any (fun t => s.taskUsed t && s.taskCore t == n.val && (s.task t).running.isSome) ||
    (List.range 64).any (fun q => s.queUsed q && s.queBell q (n.val + 1)) ||
    (List.range 32).any (fun ch => s.pgnUsed ch && (s.pgnIrq ch (n.val + 1) ||
      (s.pgnReceiver ch == n.val + 1 && ((s.chan ch).head?).isSome))) ||
    (List.range 8).any (fun c => s.canIrq c (n.val + 1))
  | .scan => s.scnMode != modeStop || s.scn.cmds != [] || s.olcState == olcVerifying || s.olcState == olcArmed
  | .loops => s.loopCount != 0
  | .solver => s.slv.req.isSome || s.slvNext.isSome
  | .axes => (List.range 8).any (fun a => s.axOn a && (s.rd (Reg.AX_STATE_STATE a) != axDisabled ||
      (s.axis a).next.isSome || (s.axis a).stageLo.isSome || (s.axis a).stageHi.isSome))
  | .can c => (s.canCh c).flight.isSome || (s.canCh c).hpWait != [] ||
      (List.range 64).any (fun q => s.txReady q && (s.canEvq c == q ||
        (decide (s.canTtqBase c ≤ q) && decide (q < s.canTtqBase c + s.canTtqCount c))))
  | .serial p => (s.serFlight p).isSome || (s.serMode p != 0 && s.txReady (s.serTxq p))
  | .guestbook => s.gb.queue != [] || s.gb.writing.isSome || s.gb.clearing.isSome || s.gb.anchors != []
  | .rounds => s.rnd.grants != []
  | .noticeboard => s.on Reg.NB_STAT_RAILS_UP || s.nb.running || s.nb.pending || s.nb.upds != [] || s.nbBusy || s.nb.boxDue ||
      (match s.nbCmdq with
       | some q => s.queWaiting q != 0
       | none => false)

/-- The gated state is entered: a held wake event wakes the unit at once, and once (R23). -/
def State.gateEntered (s : State) (u : GUnit) : State :=
  let g := s.gate u
  (s.setGate u { gated := !g.held }).showPower u g.held

/-- UNIT_GATE_ENTRY (R22, R23): an idle unit begins to enter its gated state, or, where `complete`, has entered it. -/
def execUnitGateEntry (u : GUnit) (complete : Bool) (s : State) : Answer :=
  let g := s.gate u
  if !s.power.running || !s.fitted u then .next s
  else if complete then if g.entering then .next (s.gateEntered u) else .next s
  else if g.gated || g.entering || s.unitBusy u then .next s
  else .next (s.setGate u { entering := true })

/-- ECC_CORRECTABLE (R494): the access stalls, the corrected data is returned, and the location is rewritten; memory
holds the data that the code protects, so the syndrome changes nothing of it. -/
def execEccCorrectable (addr : Nat) (_syndrome : Byte) (s : State) : Answer :=
  if s.power.running && inRam addr 1 then .next ((s.setByte addr (s.byte addr)).answer (s.byte addr).toNat) else .next s

end Sys2Proof.Machine
end

