-- ==== Sys2Proof/Machine/Dispatch.lean ====
section
/-!
DEFINITION. One arm per command: the command's meaning.
-/
namespace Sys2Proof.Machine

def exec (i : Instr) (s : State) : Host.Outcome State Fault Refusal :=
  match i with
  | .registerWrite m w addr value => Sys2Proof.Machine.execRegisterWrite m w addr value s
  | .buserrValidClear m value => Sys2Proof.Machine.execBuserrValidClear m value s
  | .loReadLatch m w addr => Sys2Proof.Machine.execLoReadLatch m w addr s
  | .loWriteStage m addr value => Sys2Proof.Machine.execLoWriteStage m addr value s
  | .hiWriteApply m addr value => Sys2Proof.Machine.execHiWriteApply m addr value s
  | .rcReadClear m addr => Sys2Proof.Machine.execRcReadClear m addr s
  | .accessTimeout m write addr => Sys2Proof.Machine.execAccessTimeout m write addr s
  | .unitWake u => Sys2Proof.Machine.execUnitWake u s
  | .unitGateEntry u complete => Sys2Proof.Machine.execUnitGateEntry u complete s
  | .eccCorrectable addr syndrome => Sys2Proof.Machine.execEccCorrectable addr syndrome s
  | .uncorrectableEcc => Sys2Proof.Machine.execUncorrectableEcc s
  | .lockstepMismatch => Sys2Proof.Machine.execLockstepMismatch s
  | .watchdogExpiry => Sys2Proof.Machine.execWatchdogExpiry s
  | .fplVerify m => Sys2Proof.Machine.execFplVerify m s
  | .fplStore m slot => Sys2Proof.Machine.execFplStore m slot s
  | .fplSoftApply m => Sys2Proof.Machine.execFplSoftApply m s
  | .fplOperationComplete => Sys2Proof.Machine.execFplOperationComplete s
  | .bootLoad => Sys2Proof.Machine.execBootLoad s
  | .softSectionLanding peer => Sys2Proof.Machine.execSoftSectionLanding peer s
  | .baseTick => Sys2Proof.Machine.execBaseTick s
  | .executeReturn t ns image invokes writes => Sys2Proof.Machine.execExecuteReturn t ns image invokes writes s
  | .taskTrap t cause pc => Sys2Proof.Machine.execTaskTrap t cause pc s
  | .commit t => Sys2Proof.Machine.execCommit t s
  | .scnRun m => Sys2Proof.Machine.execScnRun m s
  | .scnHold m => Sys2Proof.Machine.execScnHold m s
  | .scnStop m => Sys2Proof.Machine.execScnStop m s
  | .scnRestart m t => Sys2Proof.Machine.execScnRestart m t s
  | .olcVerify m => Sys2Proof.Machine.execOlcVerify m s
  | .olcVerifyDone => Sys2Proof.Machine.execOlcVerifyDone s
  | .olcArm m same => Sys2Proof.Machine.execOlcArm m same s
  | .olcCancel m => Sys2Proof.Machine.execOlcCancel m s
  | .olcSwap => Sys2Proof.Machine.execOlcSwap s
  | .forceSet m => Sys2Proof.Machine.execForceSet m s
  | .forceRelease m => Sys2Proof.Machine.execForceRelease m s
  | .forceReleaseAll m => Sys2Proof.Machine.execForceReleaseAll m s
  | .loopTick ecc slots => Sys2Proof.Machine.execLoopTick ecc slots s
  | .loopCommit m n => Sys2Proof.Machine.execLoopCommit m n s
  | .loopDiscard m n => Sys2Proof.Machine.execLoopDiscard m n s
  | .loopInit m n => Sys2Proof.Machine.execLoopInit m n s
  | .solverTake ecc => Sys2Proof.Machine.execSolverTake ecc s
  | .solverIteration ecc => Sys2Proof.Machine.execSolverIteration ecc s
  | .solverComplete => Sys2Proof.Machine.execSolverComplete s
  | .slotClear m slot => Sys2Proof.Machine.execSlotClear m slot s
  | .slotClearAll m => Sys2Proof.Machine.execSlotClearAll m s
  | .solverPowerGate => Sys2Proof.Machine.execSolverPowerGate s
  | .stepBoundary deltas => Sys2Proof.Machine.execStepBoundary deltas s
  | .vlimStage m a upper value => Sys2Proof.Machine.execVlimStage m a upper value s
  | .encLoss a => Sys2Proof.Machine.execEncLoss a s
  | .encErr a => Sys2Proof.Machine.execEncErr a s
  | .enSettleElapsed a => Sys2Proof.Machine.execEnSettleElapsed a s
  | .stillDelayElapsed a => Sys2Proof.Machine.execStillDelayElapsed a s
  | .axisResume a => Sys2Proof.Machine.execAxisResume a s
  | .heartbeatSend => Sys2Proof.Machine.execHeartbeatSend s
  | .heartbeat a role lanes phase => Sys2Proof.Machine.execHeartbeat a role lanes phase s
  | .banisterFrameDiscard type len lane => Sys2Proof.Machine.execBanisterFrameDiscard type len lane s
  | .role a x => Sys2Proof.Machine.execRole a x s
  | .nak a seqs => Sys2Proof.Machine.execNak a seqs s
  | .handshakeTimeout => Sys2Proof.Machine.execHandshakeTimeout s
  | .agreement a g => Sys2Proof.Machine.execAgreement a g s
  | .agreeAck a tick crc => Sys2Proof.Machine.execAgreeAck a tick crc s
  | .rxMirror a entries => Sys2Proof.Machine.execRxMirror a entries s
  | .mirrorAck a upTo => Sys2Proof.Machine.execMirrorAck a upTo s
  | .regMirror a entries => Sys2Proof.Machine.execRegMirror a entries s
  | .digest a t missed noImage cycle value => Sys2Proof.Machine.execDigest a t missed noImage cycle value s
  | .digestMissing t => Sys2Proof.Machine.execDigestMissing t s
  | .strictDigestTimeout t => Sys2Proof.Machine.execStrictDigestTimeout t s
  | .loopSamples a samples ecc slots => Sys2Proof.Machine.execLoopSamples a samples ecc slots s
  | .axisCounts a counts loss bad => Sys2Proof.Machine.execAxisCounts a counts loss bad s
  | .solverPermit a p => Sys2Proof.Machine.execSolverPermit a p s
  | .missingFrameDemote type => Sys2Proof.Machine.execMissingFrameDemote type s
  | .inquiryResult peer failed => Sys2Proof.Machine.execInquiryResult peer failed s
  | .inquiryTimeout => Sys2Proof.Machine.execInquiryTimeout s
  | .banHandover m => Sys2Proof.Machine.execBanHandover m s
  | .rearmReadback m k c => Sys2Proof.Machine.execRearmReadback m k c s
  | .rearmAll m => Sys2Proof.Machine.execRearmAll m s
  | .forceTakeover m => Sys2Proof.Machine.execForceTakeover m s
  | .handover a x => Sys2Proof.Machine.execHandover a x s
  | .driving a offset => Sys2Proof.Machine.execDriving a offset s
  | .rampStart => Sys2Proof.Machine.execRampStart s
  | .rampEnd => Sys2Proof.Machine.execRampEnd s
  | .released a => Sys2Proof.Machine.execReleased a s
  | .barrierBackstop => Sys2Proof.Machine.execBarrierBackstop s
  | .takeoverInstant unknown => Sys2Proof.Machine.execTakeoverInstant unknown s
  | .laneLost l => Sys2Proof.Machine.execLaneLost l s
  | .laneRestored l => Sys2Proof.Machine.execLaneRestored l s
  | .plantHeartbeatSend => Sys2Proof.Machine.execPlantHeartbeatSend s
  | .plantHeartbeat p x => Sys2Proof.Machine.execPlantHeartbeat p x s
  | .laneLossTakeover => Sys2Proof.Machine.execLaneLossTakeover s
  | .joinStart => Sys2Proof.Machine.execJoinStart s
  | .joinRetry => Sys2Proof.Machine.execJoinRetry s
  | .joinRequest a caps station serial sdig pdig => Sys2Proof.Machine.execJoinRequest a caps station serial sdig pdig s
  | .joinRequestResend => Sys2Proof.Machine.execJoinRequestResend s
  | .joinAnswer a reason upgrade caps l => Sys2Proof.Machine.execJoinAnswer a reason upgrade caps l s
  | .hamperSend => Sys2Proof.Machine.execHamperSend s
  | .hamper a kind index offset total last data => Sys2Proof.Machine.execHamper a kind index offset total last data s
  | .hamperAck a kind index good => Sys2Proof.Machine.execHamperAck a kind index good s
  | .logEntry a x => Sys2Proof.Machine.execLogEntry a x s
  | .replayCycle t image invokes writes trap loopCrc solverCrc => Sys2Proof.Machine.execReplayCycle t image invokes writes trap loopCrc solverCrc s
  | .caughtUp a pos => Sys2Proof.Machine.execCaughtUp a pos s
  | .topup a payload => Sys2Proof.Machine.execTopup a payload s
  | .joinTick => Sys2Proof.Machine.execJoinTick s
  | .joined a gbSeq => Sys2Proof.Machine.execJoined a gbSeq s
  | .banJoin m => Sys2Proof.Machine.execBanJoin m s
  | .upgradeAdmit m => Sys2Proof.Machine.execUpgradeAdmit m s
  | .upgradeAdmitLapse => Sys2Proof.Machine.execUpgradeAdmitLapse s
  | .abandonUpgrade m => Sys2Proof.Machine.execAbandonUpgrade m s
  | .banSwap m differ => Sys2Proof.Machine.execBanSwap m differ s
  | .swap a landing => Sys2Proof.Machine.execSwap a landing s
  | .swapLanding => Sys2Proof.Machine.execSwapLanding s
  | .ready a resets discarded => Sys2Proof.Machine.execReady a resets discarded s
  | .latentLimitReached => Sys2Proof.Machine.execLatentLimitReached s
  | .safetyCycle x => Sys2Proof.Machine.execSafetyCycle x s
  | .safetyWatchdogExpiry spb early => Sys2Proof.Machine.execSafetyWatchdogExpiry spb early s
  | .supervisorForce why => Sys2Proof.Machine.execSupervisorForce why s
  | .safetyBootComplete okA okB planeA planeB => Sys2Proof.Machine.execSafetyBootComplete okA okB planeA planeB s
  | .safetyAdoptComplete => Sys2Proof.Machine.execSafetyAdoptComplete s
  | .ftiChange n demand => Sys2Proof.Machine.execFtiChange n demand s
  | .trpReqWrite m value => Sys2Proof.Machine.execTrpReqWrite m value s
  | .firstOutRearm m value => Sys2Proof.Machine.execFirstOutRearm m value s
  | .ctrlHbLost => Sys2Proof.Machine.execCtrlHbLost s
  | .darkTest n failed volts10 => Sys2Proof.Machine.execDarkTest n failed volts10 s
  | .killLineChange k => Sys2Proof.Machine.execKillLineChange k s
  | .testPulseOff l => Sys2Proof.Machine.execTestPulseOff l s
  | .testPulseSample l on volts10 users => Sys2Proof.Machine.execTestPulseSample l on volts10 users s
  | .excursionExpire who => Sys2Proof.Machine.execExcursionExpire who s
  | .excursionStore => Sys2Proof.Machine.execExcursionStore s
  | .safReturn m f => Sys2Proof.Machine.execSafReturn m f s
  | .safReset m f => Sys2Proof.Machine.execSafReset m f s
  | .returnMatrix m => Sys2Proof.Machine.execReturnMatrix m s
  | .returnCheckEnd f proc => Sys2Proof.Machine.execReturnCheckEnd f proc s
  | .matrixCheckEnd => Sys2Proof.Machine.execMatrixCheckEnd s
  | .safetyFieldStale k inbound spa spb users => Sys2Proof.Machine.execSafetyFieldStale k inbound spa spb users s
  | .tgCopyReceive port f => Sys2Proof.Machine.execTgCopyReceive port f s
  | .skewWindowExpire c => Sys2Proof.Machine.execSkewWindowExpire c s
  | .heldCopyExpire c => Sys2Proof.Machine.execHeldCopyExpire c s
  | .tgTimeout c => Sys2Proof.Machine.execTgTimeout c s
  | .connRestart c => Sys2Proof.Machine.execConnRestart c s
  | .connReport which => Sys2Proof.Machine.execConnReport which s
  | .barrierFrameSend k => Sys2Proof.Machine.execBarrierFrameSend k s
  | .barrierSlot k good skip field => Sys2Proof.Machine.execBarrierSlot k good skip field s
  | .islandFrameReceive k => Sys2Proof.Machine.execIslandFrameReceive k s
  | .islandWatchdog k => Sys2Proof.Machine.execIslandWatchdog k s
  | .inputSample k smp => Sys2Proof.Machine.execInputSample k smp s
  | .wireBreak k c uA => Sys2Proof.Machine.execWireBreak k c uA s
  | .wireBreakEnd k c => Sys2Proof.Machine.execWireBreakEnd k c s
  | .doOverload k c mA => Sys2Proof.Machine.execDoOverload k c mA s
  | .doRetry k c limits => Sys2Proof.Machine.execDoRetry k c limits s
  | .groupOverloadStep k total => Sys2Proof.Machine.execGroupOverloadStep k total s
  | .sagOff k supply => Sys2Proof.Machine.execSagOff k supply s
  | .restoreReady k supply => Sys2Proof.Machine.execRestoreReady k supply s
  | .islandLogicReset k => Sys2Proof.Machine.execIslandLogicReset k s
  | .islRestore m k => Sys2Proof.Machine.execIslRestore m k s
  | .islClearCounts m k => Sys2Proof.Machine.execIslClearCounts m k s
  | .restoreChannelOn k => Sys2Proof.Machine.execRestoreChannelOn k s
  | .doReadbackMismatch k c => Sys2Proof.Machine.execDoReadbackMismatch k c s
  | .aiSample k c raw => Sys2Proof.Machine.execAiSample k c raw s
  | .txOverload k c mA => Sys2Proof.Machine.execTxOverload k c mA s
  | .buckUpdate k c => Sys2Proof.Machine.execBuckUpdate k c s
  | .thermalTrip k c temp => Sys2Proof.Machine.execThermalTrip k c temp s
  | .thermalResume k c temp => Sys2Proof.Machine.execThermalResume k c temp s
  | .complianceSet k c => Sys2Proof.Machine.execComplianceSet k c s
  | .complianceClear k c => Sys2Proof.Machine.execComplianceClear k c s
  | .compFault k c => Sys2Proof.Machine.execCompFault k c s
  | .aoReadbackMismatch k c => Sys2Proof.Machine.execAoReadbackMismatch k c s
  | .trimWrite m k c value => Sys2Proof.Machine.execTrimWrite m k c value s
  | .keyMenu k c span => Sys2Proof.Machine.execKeyMenu k c span s
  | .keyUp => Sys2Proof.Machine.execKeyUp s
  | .keyDown => Sys2Proof.Machine.execKeyDown s
  | .keyEnter => Sys2Proof.Machine.execKeyEnter s
  | .keyEsc => Sys2Proof.Machine.execKeyEsc s
  | .keySessionTimeout => Sys2Proof.Machine.execKeySessionTimeout s
  | .keyswitchChange control safety => Sys2Proof.Machine.execKeyswitchChange control safety s
  | .usbSessionOpen => Sys2Proof.Machine.execUsbSessionOpen s
  | .canFrameReceive c x => Sys2Proof.Machine.execCanFrameReceive c x s
  | .canHpAck m c value => Sys2Proof.Machine.execCanHpAck m c value s
  | .canTxStart c which => Sys2Proof.Machine.execCanTxStart c which s
  | .canTxComplete c how => Sys2Proof.Machine.execCanTxComplete c how s
  | .busOff c => Sys2Proof.Machine.execBusOff c s
  | .canRecovered c => Sys2Proof.Machine.execCanRecovered c s
  | .canBusOn m c => Sys2Proof.Machine.execCanBusOn m c s
  | .canClearCounts m c => Sys2Proof.Machine.execCanClearCounts m c s
  | .canErrorFrame c kind => Sys2Proof.Machine.execCanErrorFrame c kind s
  | .ttWindowStart c basic win => Sys2Proof.Machine.execTtWindowStart c basic win s
  | .ttWindowMissed c basic win => Sys2Proof.Machine.execTtWindowMissed c basic win s
  | .canChannelActive c => Sys2Proof.Machine.execCanChannelActive c s
  | .canFilterWrite m c f which value => Sys2Proof.Machine.execCanFilterWrite m c f which value s
  | .ethFrameReceive p fcsGood f => Sys2Proof.Machine.execEthFrameReceive p fcsGood f s
  | .ethTxStart p => Sys2Proof.Machine.execEthTxStart p s
  | .ethTxComplete p => Sys2Proof.Machine.execEthTxComplete p s
  | .linkUp p => Sys2Proof.Machine.execLinkUp p s
  | .linkDown p unable => Sys2Proof.Machine.execLinkDown p unable s
  | .igmpReport => Sys2Proof.Machine.execIgmpReport s
  | .ethMaint m value => Sys2Proof.Machine.execEthMaint m value s
  | .maintSessionExpire => Sys2Proof.Machine.execMaintSessionExpire s
  | .ptpAnnounce d a => Sys2Proof.Machine.execPtpAnnounce d a s
  | .ptpSync d m => Sys2Proof.Machine.execPtpSync d m s
  | .delayReq d x => Sys2Proof.Machine.execDelayReq d x s
  | .domainHoldover d => Sys2Proof.Machine.execDomainHoldover d s
  | .announceTimeout d => Sys2Proof.Machine.execAnnounceTimeout d s
  | .timRealign m => Sys2Proof.Machine.execTimRealign m s
  | .ppsInEdge => Sys2Proof.Machine.execPpsInEdge s
  | .ppsOutEdge => Sys2Proof.Machine.execPpsOutEdge s
  | .classTimeCapture m w second => Sys2Proof.Machine.execClassTimeCapture m w second s
  | .c2BackupRefresh => Sys2Proof.Machine.execC2BackupRefresh s
  | .serMessageReceive p x => Sys2Proof.Machine.execSerMessageReceive p x s
  | .serTxStart p => Sys2Proof.Machine.execSerTxStart p s
  | .serTxComplete p sent echoErr => Sys2Proof.Machine.execSerTxComplete p sent echoErr s
  | .pollSend l => Sys2Proof.Machine.execPollSend l s
  | .pollReturn l fcsGood rtt payload => Sys2Proof.Machine.execPollReturn l fcsGood rtt payload s
  | .outputReturn l fcsGood payload => Sys2Proof.Machine.execOutputReturn l fcsGood payload s
  | .identReturn l fcsGood payload => Sys2Proof.Machine.execIdentReturn l fcsGood payload s
  | .stairwayTurnaround l payload => Sys2Proof.Machine.execStairwayTurnaround l payload s
  | .stairwayLinkChange l up => Sys2Proof.Machine.execStairwayLinkChange l up s
  | .pgnTxPost m ch value => Sys2Proof.Machine.execPgnTxPost m ch value s
  | .pgnRxHdrRead m ch => Sys2Proof.Machine.execPgnRxHdrRead m ch s
  | .pgnRxAck m ch value => Sys2Proof.Machine.execPgnRxAck m ch value s
  | .withdraw m ch => Sys2Proof.Machine.execWithdraw m ch s
  | .pgnTimeout ch => Sys2Proof.Machine.execPgnTimeout ch s
  | .pgnTimeoutClear m ch => Sys2Proof.Machine.execPgnTimeoutClear m ch s
  | .quePiWrite m q value => Sys2Proof.Machine.execQuePiWrite m q value s
  | .queDiWrite m q value => Sys2Proof.Machine.execQueDiWrite m q value s
  | .queCiWrite m q value => Sys2Proof.Machine.execQueCiWrite m q value s
  | .queuePoolWrite m off bs => Sys2Proof.Machine.execQueuePoolWrite m off bs s
  | .gbEvent => Sys2Proof.Machine.execGbEvent s
  | .gbRecordWrite cut => Sys2Proof.Machine.execGbRecordWrite cut s
  | .gbTokenRefill cls => Sys2Proof.Machine.execGbTokenRefill cls s
  | .gbClear m => Sys2Proof.Machine.execGbClear m s
  | .gbCursorWrite m value => Sys2Proof.Machine.execGbCursorWrite m value s
  | .rndStopGrant => Sys2Proof.Machine.execRndStopGrant s
  | .rndStep item us find => Sys2Proof.Machine.execRndStep item us find s
  | .rndGrantClose => Sys2Proof.Machine.execRndGrantClose s
  | .rndPassLate => Sys2Proof.Machine.execRndPassLate s
  | .wearSample mram flash => Sys2Proof.Machine.execWearSample mram flash s
  | .annexInterval pulses currents => Sys2Proof.Machine.execAnnexInterval pulses currents s
  | .annexResultPost => Sys2Proof.Machine.execAnnexResultPost s
  | .annexStatusPost => Sys2Proof.Machine.execAnnexStatusPost s
  | .annexReportRepost => Sys2Proof.Machine.execAnnexReportRepost s
  | .identIf => Sys2Proof.Machine.execIdentIf s
  | .annexStatusLost => Sys2Proof.Machine.execAnnexStatusLost s
  | .timeWordSend good => Sys2Proof.Machine.execTimeWordSend good s
  | .annexTimeHold => Sys2Proof.Machine.execAnnexTimeHold s
  | .annexWriteSwitch write => Sys2Proof.Machine.execAnnexWriteSwitch write s
  | .readParam nums => Sys2Proof.Machine.execReadParam nums s
  | .readLog => Sys2Proof.Machine.execReadLog s
  | .readTotals => Sys2Proof.Machine.execReadTotals s
  | .writeParam changes => Sys2Proof.Machine.execWriteParam changes s
  | .loadSoftware image sig name ifhash version build => Sys2Proof.Machine.execLoadSoftware image sig name ifhash version build s
  | .clearLog hash => Sys2Proof.Machine.execClearLog hash s
  | .annexTotalsCommit => Sys2Proof.Machine.execAnnexTotalsCommit s
  | .nbUpdateTake => Sys2Proof.Machine.execNbUpdateTake s
  | .nbFrame temp => Sys2Proof.Machine.execNbFrame temp s
  | .nbBalancePass => Sys2Proof.Machine.execNbBalancePass s
  | .nbCleanCmd m => Sys2Proof.Machine.execNbCleanCmd m s
  | .nbRefreshCmd m => Sys2Proof.Machine.execNbRefreshCmd m s
  | .nbBalanceCmd m => Sys2Proof.Machine.execNbBalanceCmd m s
  | .nbIdleScan temp bad => Sys2Proof.Machine.execNbIdleScan temp bad s
  | .nbRailRise => Sys2Proof.Machine.execNbRailRise s
  | .nbRailFault rails => Sys2Proof.Machine.execNbRailFault rails s
  | .nbRailsDown => Sys2Proof.Machine.execNbRailsDown s
  | .nbQuiescentCommit => Sys2Proof.Machine.execNbQuiescentCommit s
  | .nbLightWrite m value => Sys2Proof.Machine.execNbLightWrite m value s
  | .powerInputChange x => Sys2Proof.Machine.execPowerInputChange x s
  | .powerFailWarning why meas => Sys2Proof.Machine.execPowerFailWarning why meas s
  | .shutdownOutputsOff => Sys2Proof.Machine.execShutdownOutputsOff s
  | .shutdownMramCommit meas permille => Sys2Proof.Machine.execShutdownMramCommit meas permille s
  | .controlUnpowered us => Sys2Proof.Machine.execControlUnpowered us s
  | .holdupFull meas => Sys2Proof.Machine.execHoldupFull meas s
  | .controlResetRelease us => Sys2Proof.Machine.execControlResetRelease us s
  | .shutdown a serial => Sys2Proof.Machine.execShutdown a serial s
  | .cellLow mV => Sys2Proof.Machine.execCellLow mV s
  | .sealChange lid open_ => Sys2Proof.Machine.execSealChange lid open_ s
  | .beaconSend => Sys2Proof.Machine.execBeaconSend s
  | .beacon a serial caps strap role => Sys2Proof.Machine.execBeacon a serial caps strap role s
  | .electionWindowEnd => Sys2Proof.Machine.execElectionWindowEnd s
  | .electionDeferEnd => Sys2Proof.Machine.execElectionDeferEnd s
  | .ethJoinPoint => Sys2Proof.Machine.execEthJoinPoint s
  | .encLossClear a => Sys2Proof.Machine.execEncLossClear a s
  | .fastTripSupplyChange mV => Sys2Proof.Machine.execFastTripSupplyChange mV s
  | .safetyMonitorWarning rail clock => Sys2Proof.Machine.execSafetyMonitorWarning rail clock s
  | .islandSupplyReturn k supply => Sys2Proof.Machine.execIslandSupplyReturn k supply s
  | .txOverloadClear k c => Sys2Proof.Machine.execTxOverloadClear k c s
  | .loopSideStop k c vterm opened => Sys2Proof.Machine.execLoopSideStop k c vterm opened s
  | .aoReadbackClear k c => Sys2Proof.Machine.execAoReadbackClear k c s
  | .ppsInTimeout => Sys2Proof.Machine.execPpsInTimeout s
  | .slewingEnd second => Sys2Proof.Machine.execSlewingEnd second s
  | .gbClearComplete => Sys2Proof.Machine.execGbClearComplete s
  | .annexSelfTest pass => Sys2Proof.Machine.execAnnexSelfTest pass s
  | .thermalStressUpdate => Sys2Proof.Machine.execThermalStressUpdate s

end Sys2Proof.Machine
end

