-- ==== Sys2Proof/Machine/Step.lean ====
section
/-!
DEFINITION. A step of the block: the command at the front of the queue, or one nanosecond of the free-running counter.
-/
namespace Sys2Proof.Machine

/-- With nothing to do the block waits, and its free-running counter advances by 1 ns (R365). DESIGN CHOICE, log 2. -/
def State.idle (s : State) : State := if s.power.running then { s with frc := s.frc + 1 } else s

/-- One step: the oldest waiting command has its effect; with none waiting the block idles. -/
def step (s : State) : Host.Outcome State Fault Refusal :=
  match s.pending with
  | [] => .next s.idle
  | c :: rest => exec c { s with pending := rest }

/-- The state with the command that a word spells put at the front of its queue; no word spells one. -/
def State.withFetchWord (s : State) (nbits w : Nat) : State :=
  match decodeTableWord nbits w with
  | some c => { s with pending := c :: s.pending }
  | none => s

end Sys2Proof.Machine
end

