-- ==== Sys2Proof/Machine/Leds.lean ====
section
/-!
DEFINITION. The front LEDs (R508): each shows what the state holds, at every instant.
-/
namespace Sys2Proof.Machine

inductive Led where
  | pwr | mode | role | safe | lane0 | lane1 | fault | key
  deriving DecidableEq, Repr

inductive LedShow where
  | off | green | amber | red | greenFlash | amberFlash
  deriving DecidableEq, Repr

/-- PWR. -/
def State.ledPwr (s : State) : LedShow :=
  if s.on Reg.PWR_STAT_PF_WARN then .red
  else if s.on Reg.PWR_STAT_IN_A && s.on Reg.PWR_STAT_IN_B && !s.on Reg.PWR_STAT_DIP then .green
  else .amber

/-- MODE: off before lock, but for NO_PLAN. -/
def State.ledMode (s : State) : LedShow :=
  if s.rd Reg.FPL_STAT_STATE = 2 then .red
  else if !s.locked then .off
  else if s.scnMode = modeRun then .green
  else if s.scnMode = modeHold then .amberFlash
  else .amber

/-- ROLE. -/
def State.ledRole (s : State) : LedShow :=
  if s.role = roleBooting then .off
  else if s.role = roleFailed then .red
  else if s.role = roleIsolated then .amberFlash
  else if s.role = roleCold then .amber
  else if s.role = roleStandby then .greenFlash
  else .green

/-- SAFE. DESIGN CHOICE (log 211): red where a function is TRIPPED, also in an Excursion; while the domain adopts a section
as in SAFE. -/
def State.ledSafe (s : State) : LedShow :=
  if !s.saf.powered || s.rd Reg.SAF_STAT_STATE == 0 then .off
  else if s.on Reg.SAF_STAT_TRIPPED || s.rd Reg.SAF_STAT_STATE != 2 then .red
  else if s.on Reg.SAF_STAT_EXCURSION then .amberFlash
  else .green

/-- A lane's LED. -/
def State.ledLane (s : State) (up : Fld) : LedShow := if s.role ≠ roleSingle ∧ s.on up then .green else .off

/-- FAULT. -/
def State.ledFault (s : State) : LedShow :=
  if s.on Reg.RND_STAT_FAILED || s.on Reg.WR_STAT_EOL then .red
  else if s.on Reg.WR_STAT_WARN then .amber
  else .off

/-- KEY: a refused key action shows in three flashes at 2 Hz. -/
def State.ledKey (s : State) : LedShow :=
  if s.keyRefused.any (fun t => decide (s.frc < t + 1500000000)) then .amberFlash
  else if s.keyMaint then .green
  else .off

/-- A front LED (R508): all of them are off without main power. -/
def State.led (s : State) (l : Led) : LedShow :=
  if !s.power.mainOn then .off
  else match l with
    | .pwr => s.ledPwr
    | .mode => s.ledMode
    | .role => s.ledRole
    | .safe => s.ledSafe
    | .lane0 => s.ledLane Reg.BAN_STAT_LANE0_UP
    | .lane1 => s.ledLane Reg.BAN_STAT_LANE1_UP
    | .fault => s.ledFault
    | .key => s.ledKey

end Sys2Proof.Machine
end

