-- ==== Sys2Proof/Safety.lean ====
section
/-!
DEFINITION. What a state that commands can reach looks like, in the terms that statements use: the tables of the state
in canonical form, the stores of bounded size within their bounds; and a run that meets no stop.
-/
namespace Sys2Proof.Machine

/-- The sparse tables of words are in canonical form: registers, DRAM and SRAM, the high-half latches. -/
def State.tabled (s : State) : Bool := Tab.wf s.regs && Tab.wf s.mem && Tab.wf s.latch

/-- Stores that the spec bounds: the Guestbook's queue of 256 events (R414), the Banister's copies of the last 256
frames sent (R193), and the updates that the Noticeboard works on at once (R463). -/
def State.bounded (s : State) : Bool :=
  decide (s.gb.queue.length ≤ 256) && decide (s.ban.tx.length ≤ 256) && decide (s.nb.upds.length ≤ 8)

/-- The invariant of the block. -/
def State.sound (s : State) : Bool := s.tabled && s.bounded

/-- The parts of the state. -/
inductive Place where
  | pending | regs | mem | ident | resp | latch | staged | gates | free | frc | keyMaint | usb | gb | fpl
  | power | tim | can | eth | ser | serEnd | heads | rio | isl | key | keyRefused | trimPers | saf | axes | lp | slv | firstOut
  | posted | scn | ban | rnd | wear | nb | anx | rx | maintAt | firstLatch | pgn
  deriving DecidableEq, Repr

/-- A part of the state is the same in two states. -/
def Place.same (p : Place) (s t : State) : Prop :=
  match p with
  | .pending => t.pending = s.pending
  | .regs => t.regs = s.regs
  | .mem => t.mem = s.mem
  | .ident => t.ident = s.ident
  | .resp => t.resp = s.resp
  | .latch => t.latch = s.latch
  | .staged => t.staged = s.staged
  | .gates => t.gates = s.gates
  | .free => t.free = s.free
  | .frc => t.frc = s.frc
  | .keyMaint => t.keyMaint = s.keyMaint
  | .usb => t.usb = s.usb
  | .gb => t.gb = s.gb
  | .fpl => t.fpl = s.fpl
  | .power => t.power = s.power
  | .tim => t.tim = s.tim
  | .can => t.can = s.can
  | .eth => t.eth = s.eth
  | .ser => t.ser = s.ser
  | .serEnd => t.serEnd = s.serEnd
  | .heads => t.heads = s.heads
  | .rio => t.rio = s.rio
  | .isl => t.isl = s.isl
  | .key => t.key = s.key
  | .keyRefused => t.keyRefused = s.keyRefused
  | .trimPers => t.trimPers = s.trimPers
  | .saf => t.saf = s.saf
  | .axes => t.axes = s.axes
  | .lp => t.lp = s.lp
  | .slv => t.slv = s.slv
  | .firstOut => t.firstOut = s.firstOut
  | .posted => t.posted = s.posted
  | .scn => t.scn = s.scn
  | .ban => t.ban = s.ban
  | .rnd => t.rnd = s.rnd
  | .wear => t.wear = s.wear
  | .nb => t.nb = s.nb
  | .anx => t.anx = s.anx
  | .rx => t.rx = s.rx
  | .maintAt => t.maintAt = s.maintAt
  | .firstLatch => t.firstLatch = s.firstLatch
  | .pgn => t.pgn = s.pgn

/-- Two states agree everywhere but in the places listed. -/
def Agree (l : List Place) (s t : State) : Prop := ∀ p, p ∉ l → p.same s t

/-- The registers outside a list are the same in two states, those of the Guestbook apart, which every event may move. -/
def RegsSame (l : List Nat) (s t : State) : Prop := ∀ a, a ∉ l → unitOf a ≠ Un.gb → t.fileAt a = s.fileAt a

/-- The parts of the state that a command may change; every other part it leaves as it was. -/
def mayChange : Instr → List Place
  | .registerWrite _ _ _ _ | .loWriteStage _ _ _ | .hiWriteApply _ _ _ =>
    [.regs, .mem, .resp, .latch, .staged, .gates, .free, .gb, .fpl, .tim, .can, .heads, .isl, .saf, .axes, .lp, .slv, .firstOut, .posted, .scn, .ban, .wear, .nb, .anx, .maintAt, .pgn]
  | .buserrValidClear _ _ | .accessTimeout _ _ _ | .trimWrite _ _ _ _ | .canHpAck _ _ _ | .queCiWrite _ _ _
  | .gbClear _ | .gbCursorWrite _ _ =>
    [.regs, .resp, .gates, .gb]
  | .loReadLatch _ _ _ | .rcReadClear _ _ =>
    [.regs, .resp, .latch, .gates, .gb, .ban, .maintAt, .pgn]
  | .unitWake _ | .unitGateEntry _ _ =>
    [.regs, .gates]
  | .eccCorrectable _ _ =>
    [.mem, .resp]
  | .uncorrectableEcc | .lockstepMismatch | .watchdogExpiry =>
    [.regs, .gates, .gb, .can, .slv, .scn, .ban, .anx]
  | .fplVerify _ | .fplStore _ _ | .fplSoftApply _ =>
    [.regs, .resp, .gates, .gb, .fpl, .scn, .ban]
  | .fplOperationComplete =>
    [.regs, .gates, .gb, .fpl]
  | .bootLoad =>
    [.regs, .gates, .free, .gb, .fpl, .can, .isl, .trimPers, .saf, .axes, .lp, .slv, .firstOut, .posted, .ban, .wear, .nb, .anx, .rx, .pgn]
  | .softSectionLanding _ =>
    [.regs, .gates, .frc, .gb, .fpl]
  | .baseTick =>
    [.regs, .gates, .free, .frc, .gb, .tim, .can, .rio, .isl, .saf, .axes, .lp, .slv, .firstOut, .scn, .ban, .rnd, .wear, .nb, .anx, .firstLatch, .pgn]
  | .executeReturn _ _ _ _ _ | .digestMissing _ =>
    [.regs, .gates, .free, .frc, .gb, .can, .rio, .isl, .axes, .lp, .scn, .ban, .rnd]
  | .taskTrap _ _ _ =>
    [.regs, .gates, .gb, .scn]
  | .commit _ =>
    [.regs, .gates, .free, .frc, .gb, .can, .rio, .isl, .axes, .lp, .slv, .scn, .ban, .rnd]
  | .scnRun _ | .scnHold _ | .scnStop _ | .scnRestart _ _ | .forceSet _ | .forceRelease _ | .forceReleaseAll _ =>
    [.regs, .resp, .gates, .gb, .scn]
  | .olcVerify _ | .olcArm _ _ | .olcCancel _ | .banJoin _ | .upgradeAdmit _ | .abandonUpgrade _ | .banSwap _ _ =>
    [.regs, .resp, .gates, .gb, .scn, .ban]
  | .olcVerifyDone | .banisterFrameDiscard _ _ _ | .canErrorFrame _ _ | .stairwayLinkChange _ _ =>
    [.regs, .gates, .gb]
  | .olcSwap =>
    [.regs, .gates, .frc, .gb, .scn]
  | .loopTick _ _ =>
    [.regs, .gates, .free, .frc, .gb, .isl, .axes, .lp, .ban]
  | .loopCommit _ _ | .loopDiscard _ _ | .loopInit _ _ =>
    [.regs, .resp, .gates, .gb, .lp, .ban]
  | .solverTake _ | .solverIteration _ =>
    [.regs, .gates, .gb, .can, .slv, .posted, .scn, .ban, .rnd, .anx]
  | .solverComplete =>
    [.regs, .mem, .gates, .gb, .heads, .slv, .posted, .ban, .rnd]
  | .slotClear _ _ | .slotClearAll _ =>
    [.regs, .resp, .gates, .gb, .slv, .ban]
  | .solverPowerGate =>
    [.regs, .gates, .frc]
  | .stepBoundary _ =>
    [.regs, .gates, .free, .frc, .gb, .axes, .ban]
  | .vlimStage _ _ _ _ =>
    [.regs, .resp, .staged, .gates, .gb, .axes, .ban]
  | .encLoss _ | .encErr _ | .encLossClear _ =>
    [.regs, .gates, .gb, .axes]
  | .enSettleElapsed _ | .stillDelayElapsed _ =>
    [.regs, .frc, .axes]
  | .axisResume _ =>
    [.regs, .gates, .frc, .gb, .axes]
  | .heartbeatSend | .rampEnd | .barrierBackstop =>
    [.frc, .ban]
  | .heartbeat _ _ _ _ | .role _ _ | .nak _ _ | .agreement _ _ | .agreeAck _ _ _ | .rxMirror _ _
  | .mirrorAck _ _ | .regMirror _ _ | .digest _ _ _ _ _ _ | .loopSamples _ _ _ _ | .axisCounts _ _ _ _
  | .solverPermit _ _ | .inquiryResult _ _ | .handover _ _ | .driving _ _ | .released _
  | .joinRequest _ _ _ _ _ _ | .joinAnswer _ _ _ _ _ | .hamper _ _ _ _ _ _ _ | .hamperAck _ _ _ _
  | .logEntry _ _ | .caughtUp _ _ | .topup _ _ | .joined _ _ | .swap _ _ | .ready _ _ _ | .shutdown _ _
  | .beacon _ _ _ _ _ =>
    [.regs, .mem, .resp, .latch, .staged, .gates, .free, .frc, .gb, .fpl, .power, .tim, .can, .heads, .rio, .isl, .saf, .axes, .lp, .slv, .firstOut, .posted, .scn, .ban, .rnd, .wear, .nb, .anx, .rx, .maintAt, .firstLatch, .pgn]
  | .handshakeTimeout | .electionDeferEnd =>
    [.regs, .gates, .frc, .gb, .ban]
  | .strictDigestTimeout _ =>
    [.regs, .gates, .free, .frc, .gb, .can, .rio, .isl, .axes, .lp, .scn, .rnd]
  | .missingFrameDemote _ | .inquiryTimeout =>
    [.regs, .gates, .free, .frc, .gb, .can, .rio, .isl, .axes, .lp, .slv, .scn, .ban, .anx]
  | .banHandover _ | .rearmReadback _ _ _ | .rearmAll _ | .forceTakeover _ =>
    [.regs, .mem, .resp, .gates, .free, .gb, .tim, .can, .heads, .axes, .slv, .scn, .ban, .wear, .anx]
  | .rampStart =>
    [.regs, .free, .frc, .isl, .ban]
  | .takeoverInstant _ =>
    [.regs, .mem, .gates, .free, .frc, .gb, .tim, .can, .eth, .ser, .heads, .rio, .isl, .axes, .lp, .slv, .scn, .ban, .rnd, .wear, .anx]
  | .laneLost _ =>
    [.regs, .mem, .gates, .free, .frc, .gb, .tim, .can, .heads, .axes, .slv, .scn, .ban, .wear, .anx]
  | .laneRestored _ =>
    [.regs, .gates, .frc, .gb, .can, .slv, .scn, .ban, .anx]
  | .plantHeartbeatSend =>
    [.frc, .eth, .ban]
  | .plantHeartbeat _ _ =>
    [.regs, .gates, .gb, .fpl, .ban]
  | .laneLossTakeover =>
    [.regs, .mem, .gates, .free, .gb, .tim, .can, .heads, .axes, .slv, .scn, .ban, .wear, .anx]
  | .joinStart | .hamperSend =>
    [.regs, .ban]
  | .joinRetry =>
    [.regs, .frc, .ban]
  | .joinRequestResend =>
    [.regs, .gates, .frc, .gb, .scn, .ban]
  | .replayCycle _ _ _ _ _ _ _ =>
    [.regs, .mem, .resp, .latch, .staged, .gates, .free, .gb, .fpl, .tim, .can, .heads, .rio, .isl, .saf, .axes, .lp, .slv, .firstOut, .posted, .scn, .ban, .wear, .nb, .anx, .maintAt, .pgn]
  | .joinTick =>
    [.regs, .mem, .resp, .latch, .staged, .gates, .free, .frc, .gb, .fpl, .tim, .can, .heads, .rio, .isl, .saf, .axes, .lp, .slv, .firstOut, .posted, .scn, .ban, .rnd, .wear, .nb, .anx, .maintAt, .pgn]
  | .upgradeAdmitLapse | .maintSessionExpire | .ethJoinPoint | .slewingEnd _ =>
    [.regs, .frc]
  | .swapLanding =>
    [.regs, .frc, .scn, .ban]
  | .latentLimitReached =>
    [.regs, .gates, .gb, .ban]
  | .safetyCycle _ =>
    [.regs, .gates, .free, .frc, .gb, .eth, .saf, .firstOut, .nb]
  | .safetyWatchdogExpiry _ _ | .safetyAdoptComplete | .ctrlHbLost | .testPulseSample _ _ _ _ =>
    [.regs, .gates, .frc, .gb, .saf, .firstOut, .nb]
  | .supervisorForce _ | .ftiChange _ _ | .fastTripSupplyChange _ | .safetyMonitorWarning _ _ =>
    [.regs, .gates, .gb, .saf, .firstOut, .nb]
  | .safetyBootComplete _ _ _ _ =>
    [.regs, .gates, .free, .gb, .saf, .firstOut, .nb]
  | .trpReqWrite _ _ =>
    [.regs, .resp, .gates, .gb, .saf, .firstOut, .nb]
  | .firstOutRearm _ _ =>
    [.regs, .resp, .gates, .gb, .firstOut]
  | .darkTest _ _ _ | .complianceClear _ _ | .compFault _ _ =>
    [.regs, .gates, .frc, .gb, .saf]
  | .killLineChange _ | .islandLogicReset _ =>
    [.regs, .free, .isl]
  | .testPulseOff _ | .heldCopyExpire _ =>
    [.frc, .saf]
  | .excursionExpire _ | .matrixCheckEnd =>
    [.regs, .gates, .free, .frc, .gb, .saf, .firstOut, .nb]
  | .excursionStore | .aoReadbackClear _ _ =>
    [.regs, .frc, .saf]
  | .safReturn _ _ | .safReset _ _ | .returnMatrix _ =>
    [.regs, .resp, .gates, .gb, .saf]
  | .safetyFieldStale _ _ _ _ _ =>
    [.regs, .gates, .free, .frc, .gb, .isl, .saf, .firstOut, .nb]
  | .tgCopyReceive _ _ =>
    [.regs, .resp, .gates, .gb, .saf, .firstOut, .ban, .nb, .pgn]
  | .skewWindowExpire _ | .tgTimeout _ | .returnCheckEnd _ _ =>
    [.regs, .resp, .gates, .frc, .gb, .saf, .firstOut, .ban, .nb, .pgn]
  | .connRestart _ | .connReport _ =>
    [.regs, .resp, .gates, .frc, .gb, .saf, .ban, .pgn]
  | .barrierFrameSend _ =>
    [.regs, .free, .frc, .isl]
  | .barrierSlot _ _ _ _ =>
    [.regs, .gates, .free, .frc, .gb, .isl, .saf, .ban]
  | .islandFrameReceive _ =>
    [.regs, .gates, .free, .frc, .gb, .isl]
  | .islandWatchdog _ | .doRetry _ _ _ | .restoreChannelOn _ | .txOverloadClear _ _ =>
    [.regs, .free, .frc, .isl, .saf]
  | .inputSample _ _ =>
    [.regs, .free, .frc, .isl, .saf, .ban]
  | .wireBreak _ _ _ | .wireBreakEnd _ _ | .doOverload _ _ _ | .groupOverloadStep _ _ | .sagOff _ _
  | .restoreReady _ _ | .aiSample _ _ _ | .txOverload _ _ _ | .buckUpdate _ _ | .thermalResume _ _ _
  | .complianceSet _ _ =>
    [.regs, .gates, .free, .frc, .gb, .isl, .saf]
  | .islRestore _ _ | .islClearCounts _ _ =>
    [.regs, .resp, .gates, .free, .gb, .isl]
  | .doReadbackMismatch _ _ =>
    [.regs, .gates, .free, .frc, .gb, .isl, .saf, .scn, .ban]
  | .thermalTrip _ _ _ | .islandSupplyReturn _ _ | .loopSideStop _ _ _ _ =>
    [.regs, .gates, .free, .gb, .isl]
  | .aoReadbackMismatch _ _ =>
    [.regs, .gates, .frc, .gb, .saf, .scn, .ban]
  | .keyMenu _ _ _ =>
    [.regs, .gates, .gb, .key, .keyRefused, .nb]
  | .keyUp | .keyDown | .keyEsc =>
    [.regs, .key, .nb]
  | .keyEnter =>
    [.regs, .gates, .gb, .key, .nb]
  | .keySessionTimeout =>
    [.regs, .frc, .key, .nb]
  | .keyswitchChange _ _ =>
    [.regs, .keyMaint, .usb, .key, .saf, .nb]
  | .usbSessionOpen =>
    [.usb]
  | .canFrameReceive _ _ =>
    [.regs, .mem, .gates, .gb, .can, .heads, .posted, .ban]
  | .canTxStart _ _ | .ttWindowStart _ _ _ | .ttWindowMissed _ _ _ =>
    [.regs, .mem, .gates, .free, .frc, .gb, .can, .heads, .ban]
  | .canTxComplete _ _ | .busOff _ =>
    [.regs, .mem, .gates, .free, .gb, .can, .heads, .ban]
  | .canRecovered _ | .annexStatusLost | .ppsInTimeout =>
    [.regs, .gates, .frc, .gb]
  | .canBusOn _ _ | .canClearCounts _ _ =>
    [.regs, .resp, .gates, .gb, .can]
  | .canChannelActive _ =>
    [.regs, .gates, .frc, .gb, .can]
  | .canFilterWrite _ _ _ _ _ =>
    [.regs, .resp, .gates, .gb, .can, .ban]
  | .ethFrameReceive _ _ _ =>
    [.regs, .mem, .gates, .gb, .eth, .heads, .posted, .ban, .rx]
  | .ethTxStart _ =>
    [.regs, .mem, .gates, .frc, .gb, .eth, .heads, .ban]
  | .ethTxComplete _ =>
    [.regs, .mem, .gates, .free, .eth, .heads, .ban]
  | .linkUp _ =>
    [.regs, .gates, .gb, .eth]
  | .linkDown _ _ =>
    [.regs, .mem, .gates, .free, .gb, .eth, .heads, .ban]
  | .igmpReport =>
    [.eth]
  | .ethMaint _ _ =>
    [.regs, .resp, .gates, .gb, .maintAt]
  | .ptpAnnounce _ _ =>
    [.regs, .gates, .gb, .tim, .wear]
  | .ptpSync _ _ =>
    [.regs, .gates, .free, .gb, .tim, .wear]
  | .delayReq _ _ =>
    [.regs, .tim]
  | .domainHoldover _ | .announceTimeout _ | .wearSample _ _ =>
    [.regs, .gates, .frc, .gb, .tim, .wear]
  | .timRealign _ =>
    [.regs, .resp, .gates, .gb, .tim, .wear]
  | .ppsInEdge =>
    [.regs, .gates, .gb, .tim]
  | .ppsOutEdge =>
    [.frc, .tim]
  | .classTimeCapture _ _ _ =>
    [.regs, .resp, .latch, .gates, .gb]
  | .c2BackupRefresh =>
    [.regs, .frc, .power, .tim]
  | .serMessageReceive _ _ =>
    [.regs, .mem, .gates, .gb, .heads, .posted, .ban, .rx]
  | .serTxStart _ =>
    [.regs, .mem, .gates, .frc, .gb, .ser, .heads, .ban]
  | .serTxComplete _ _ _ =>
    [.regs, .mem, .gates, .ser, .serEnd, .heads, .ban]
  | .pollSend _ =>
    [.regs, .frc, .rio]
  | .pollReturn _ _ _ _ =>
    [.regs, .gates, .frc, .gb, .rio]
  | .outputReturn _ _ _ =>
    [.regs, .rio]
  | .identReturn _ _ _ =>
    [.regs, .gates, .gb, .rio]
  | .stairwayTurnaround _ _ =>
    [.rio]
  | .pgnTxPost _ _ _ =>
    [.regs, .resp, .gates, .gb, .ban, .pgn]
  | .pgnRxHdrRead _ _ | .pgnRxAck _ _ _ | .withdraw _ _ | .pgnTimeoutClear _ _ =>
    [.regs, .resp, .gates, .gb, .pgn]
  | .pgnTimeout _ =>
    [.regs, .gates, .frc, .gb, .ban, .pgn]
  | .quePiWrite _ _ _ =>
    [.regs, .resp, .gates, .gb, .heads, .posted, .ban]
  | .queDiWrite _ _ _ =>
    [.regs, .resp, .gates, .gb, .ban]
  | .queuePoolWrite _ _ _ =>
    [.regs, .mem, .resp, .gates, .gb]
  | .gbEvent | .gbClearComplete =>
    [.regs, .gb]
  | .gbRecordWrite _ | .gbTokenRefill _ =>
    [.regs, .frc, .gb]
  | .rndStopGrant =>
    [.regs, .gates, .frc, .rnd]
  | .rndStep _ _ _ =>
    [.regs, .gates, .frc, .gb, .can, .slv, .scn, .ban, .rnd, .anx]
  | .rndGrantClose =>
    [.regs, .frc, .rnd]
  | .rndPassLate =>
    [.regs, .gates, .frc, .gb, .rnd]
  | .annexInterval _ _ | .annexStatusPost | .annexReportRepost | .annexTimeHold =>
    [.regs, .resp, .gates, .frc, .gb, .saf, .ban, .anx, .pgn]
  | .annexResultPost =>
    [.regs, .resp, .gates, .free, .frc, .gb, .saf, .ban, .anx, .pgn]
  | .identIf =>
    [.regs, .gates, .gb, .anx]
  | .timeWordSend _ =>
    [.regs, .resp, .gates, .frc, .gb, .ban, .anx, .pgn]
  | .annexWriteSwitch _ =>
    [.regs, .resp, .gates, .gb, .power, .ban, .anx, .pgn]
  | .readParam _ | .readLog | .readTotals | .annexSelfTest _ =>
    [.anx]
  | .writeParam _ | .loadSoftware _ _ _ _ _ _ | .clearLog _ =>
    [.regs, .resp, .gates, .gb, .ban, .anx, .pgn]
  | .annexTotalsCommit =>
    [.frc, .saf, .anx]
  | .nbUpdateTake | .nbRailFault _ =>
    [.regs, .mem, .gates, .free, .gb, .ban, .nb]
  | .nbFrame _ =>
    [.regs, .mem, .gates, .free, .frc, .gb, .ban, .wear, .nb]
  | .nbBalancePass =>
    [.regs, .gates, .frc, .gb, .wear, .nb]
  | .nbCleanCmd _ | .nbRefreshCmd _ | .nbBalanceCmd _ | .nbLightWrite _ _ =>
    [.regs, .resp, .gates, .gb, .nb]
  | .nbIdleScan _ _ =>
    [.regs, .gates, .frc, .gb, .nb]
  | .nbRailRise =>
    [.regs, .gates, .frc, .nb]
  | .nbRailsDown =>
    [.regs, .frc, .nb]
  | .nbQuiescentCommit =>
    [.regs, .nb]
  | .powerInputChange _ =>
    [.regs, .resp, .gates, .gb, .power, .saf, .ban, .nb, .anx, .pgn]
  | .powerFailWarning _ _ =>
    [.regs, .mem, .resp, .gates, .free, .frc, .gb, .power, .can, .eth, .ser, .serEnd, .heads, .saf, .axes, .slv, .scn, .ban, .nb, .anx, .pgn]
  | .shutdownOutputsOff =>
    [.frc, .power]
  | .shutdownMramCommit _ _ =>
    [.regs, .gates, .frc, .gb, .power, .ban, .wear]
  | .controlUnpowered _ =>
    [.regs, .mem, .resp, .latch, .staged, .gates, .frc, .usb, .gb, .fpl, .power, .tim, .can, .eth, .ser, .serEnd, .heads, .rio, .isl, .key, .keyRefused, .saf, .axes, .lp, .slv, .posted, .scn, .ban, .rnd, .nb, .anx, .rx, .maintAt, .firstLatch, .pgn]
  | .holdupFull _ | .cellLow _ | .sealChange _ _ =>
    [.regs, .gates, .gb, .power]
  | .controlResetRelease _ =>
    [.regs, .gates, .frc, .gb, .power, .tim, .saf, .ban, .rnd, .nb]
  | .beaconSend =>
    [.frc, .power, .ban]
  | .electionWindowEnd =>
    [.regs, .gates, .frc, .gb, .power, .ban]
  | .thermalStressUpdate =>
    [.regs, .frc, .rnd, .wear]

/-- An access that is issued and passes the checks of R33. -/
abbrev State.allows (s : State) (m : Master) (w : Width) (write : Bool) (a : Nat) : Prop :=
  s.issued m = true ∧ s.checkAccess m w write a = none

/-- A good copy of a Banister message reaches a module that runs and is not SINGLE, in order of SEQ with nothing missing
(R188 to R193). -/
def State.inOrder (s : State) (a : Arrival) : Bool :=
  s.power.running && s.role != roleSingle && a.good && s.ban.missing == [] &&
  match s.ban.rxSeq with
  | some r => arrFirst a == (r + 1) % 2 ^ 32
  | none => true

/-- The same, with the module locked: it takes messages of every type. -/
def State.hears (s : State) (a : Arrival) : Bool := s.inOrder a && s.locked

/-- The module has seen the frame on its lane, and its SEQ is the highest received. -/
def State.heard (s : State) (a : Arrival) : State := (s.laneSeen a.lane a.seq.toNat).seqTake a

/-- What is done where a message acts that came in order: its effect, the replay that goes on with it (R233), and messages
that waited for it. -/
def State.deliver (s : State) (k : State → State) : State :=
  let t := (k s).replayGo
  t.earlyRun t.ban.early.length

/-- The copy that the arrival of a Banister frame names. -/
def arrivalOf : Instr → Option Arrival
  | .heartbeat a .. | .role a .. | .nak a .. | .agreement a .. | .agreeAck a .. | .rxMirror a ..
  | .mirrorAck a .. | .regMirror a .. | .digest a .. | .loopSamples a .. | .axisCounts a ..
  | .solverPermit a .. | .handover a .. | .driving a .. | .released a .. | .joinRequest a ..
  | .joinAnswer a .. | .hamper a .. | .hamperAck a .. | .logEntry a .. | .caughtUp a .. | .topup a ..
  | .joined a .. | .swap a .. | .ready a .. | .shutdown a .. | .beacon a .. => some a
  | _ => none

/-- An answer that is a next state with a property. -/
def Nexts (a : Answer) (p : State → Prop) : Prop := ∃ t, a = .next t ∧ p t

/-- A run of `n` steps meets no fault and no refusal. -/
def runsSafely (s : State) (n : Nat) : Prop := ∃ t, Host.Core.run
  { State := State, Fault := Fault, Refusal := Refusal, step := step, reset := State.reset } n s = .next t

end Sys2Proof.Machine
end

