-- ==== Sys2Proof/Certificates/Slice0/Obligations.lean ====
section
/-!
DEFINITION. The statements for the provers.
-/
section
open Sys2Proof Sys2Proof.Machine

/-- A step runs the command at the front of the queue on the rest. It rests on R8. -/
def Obligations.StepRunsTheFrontCommand : Prop :=
  ∀ (s : State) (c : Instr) (rest : List Instr), s.pending = c :: rest → step s = exec c { s with pending := rest }

/-- With no command waiting a nanosecond passes (the model's choice, log 2). It rests on R365. -/
def Obligations.StepWithoutACommandIdles : Prop :=
  ∀ s : State, s.pending = [] → step s = .next (if s.power.running then { s with frc := s.frc + 1 } else s)

/-- No word spells a command. It rests on R8. -/
def Obligations.NoWordSpellsACommand : Prop :=
  ∀ (nbits w : Nat) (s : State), decodeTableWord nbits w = none ∧ s.withFetchWord nbits w = s

/-- The state after reset meets the invariant, with no command waiting. It rests on R12, R193, R414. -/
def Obligations.ResetIsSound : Prop :=
  State.reset.sound = true ∧ State.reset.pending = [] ∧ State.reset.mem = [] ∧ State.reset.power.running = false

/-- Every step keeps the invariant. It rests on R12, R193, R414, R463. -/
def Obligations.StepKeepsSound : Prop :=
  ∀ s t : State, s.sound = true → step s = .next t → t.sound = true

/-- SYS_CAPS never changes, and every master may read it. It formalises R2. -/
def Obligations.SysCapsNeverChanges : Prop :=
  (∀ s t : State, step s = .next t → t.caps = s.caps) ∧
    (∀ (s : State) (m : Master), s.issued m = true →
      Nexts (exec (.loReadLatch m .w32 sysCapsAddr) s) (fun t => t.resp = { status := Sta.ok, data := s.caps } ∧ t.regs = s.regs))

/-- Every command leaves every part of the state that is not its own as it was. It rests on R8, R18, R26, R247, R429. -/
def Obligations.CommandsChangeOnlyTheirParts : Prop :=
  ∀ (c : Instr) (s t : State), exec c s = .next t → Agree (mayChange c) s t

/-- Memory changes only where a command stores. It rests on R404, R408, R494. -/
def Obligations.MemoryChangesOnlyWhereStored : Prop :=
  (∀ (c : Instr) (s t : State), exec c s = .next t → .mem ∉ mayChange c → ∀ a, t.byte a = s.byte a) ∧
    (∀ (m : Master) (off : Fin 0x400000) (bs : List Byte) (s t : State), exec (.queuePoolWrite m off bs) s = .next t →
      ∀ a, a < poolBase + off.val ∨ poolBase + off.val + bs.length ≤ a → t.byte a = s.byte a) ∧
    (∀ (addr : Nat) (syndrome : Byte) (s t : State), exec (.eccCorrectable addr syndrome) s = .next t → ∀ a, t.byte a = s.byte a)

/-- Commands of the simple groups change no register but their own. It rests on R300, R400, R428, R433, R447, R468,
R469, R477, R485, R486, R491. -/
def Obligations.RegistersBesideTheirsAreKept : Prop :=
  (∀ (lid open_ : Bool) (s t : State), exec (.sealChange lid open_) s = .next t → RegsSame [Reg.PTR_STAT_LID.addr, Reg.PTR_SWCNT_LID.addr] s t) ∧
    (∀ (mV : BitVec 16) (s t : State), exec (.cellLow mV) s = .next t → RegsSame [Reg.PTR_STAT_CELL_LOW.addr, Reg.PTR_CELL_MV.addr] s t) ∧
    (∀ (x : PwrMeas) (s t : State), exec (.holdupFull x) s = .next t →
      RegsSame [Reg.PWR_STAT_DIP.addr, Reg.PWR_HOLDUP_TIME.addr, Reg.PWR_LOAD_NOW.addr] s t) ∧
    (∀ (w : Bool) (s t : State), s.anxOn = false → exec (.annexWriteSwitch w) s = .next t → RegsSame [Reg.PTR_STAT_LID.addr, Reg.PTR_WRITE_CNT.addr] s t) ∧
    (∀ s t : State, exec .annexStatusLost s = .next t → RegsSame [Reg.ANX_STAT_CLOSED.addr] s t) ∧
    (∀ s t : State, exec .identIf s = .next t →
      RegsSame ([Reg.ANX_STAT_CLOSED.addr, Reg.ANX_SGB_PSET.addr] ++ (List.range 8).map (fun i => (Reg.ANX_IFHASH i).addr)) s t) ∧
    (∀ s t : State, exec .nbRailRise s = .next t → RegsSame [Reg.NB_STAT_STATE.addr] s t) ∧
    (∀ s t : State, exec .nbRailsDown s = .next t → RegsSame [Reg.NB_STAT_STATE.addr] s t) ∧
    (∀ s t : State, exec .nbQuiescentCommit s = .next t → RegsSame [Reg.NB_STAT_STATE.addr] s t) ∧
    (∀ s t : State, exec .rndStopGrant s = .next t → RegsSame [Reg.RND_LAPSED.addr] s t) ∧
    (∀ s t : State, exec .rndGrantClose s = .next t → RegsSame [Reg.RND_LAPSED.addr] s t) ∧
    (∀ s t : State, exec .rndPassLate s = .next t → RegsSame [Reg.RND_STAT_LATE.addr] s t) ∧
    (∀ (ch : Fin 32) (s t : State), exec (.pgnTimeout ch) s = .next t → RegsSame [(Reg.PGN_CH_STAT_LAST ch).addr] s t) ∧
    (∀ s t : State, exec .handshakeTimeout s = .next t → RegsSame [Reg.BAN_HS_FAIL.addr] s t) ∧
    (∀ (type : Byte) (len : Nat) (lane : Fin 2) (s t : State), exec (.banisterFrameDiscard type len lane) s = .next t →
      RegsSame [Reg.BAN_DISCARD_COUNT.addr] s t) ∧
    (∀ (a : Fin 8) (s t : State), exec (.encLossClear a) s = .next t → RegsSame [(Reg.AX_STATE_ENC_LOSS a).addr] s t) ∧
    (∀ (k c : Fin 8) (uA : Nat) (s t : State), exec (.wireBreak k c uA) s = .next t → RegsSame [(Reg.ISL_CH_CNT_BREAKS k c).addr] s t) ∧
    (∀ s t : State, exec .electionWindowEnd s = .next t → RegsSame [Reg.PWR_STAT_ELECT.addr] s t) ∧
    (∀ s t : State, exec .electionDeferEnd s = .next t → RegsSame [Reg.PWR_STAT_ELECT.addr, Reg.BAN_PEER_SERIAL.addr] s t) ∧
    (∀ (cls : Fin 33) (s t : State), exec (.gbTokenRefill cls) s = .next t → RegsSame [] s t) ∧
    (∀ (cut : Bool) (s t : State), exec (.gbRecordWrite cut) s = .next t → RegsSame [] s t) ∧
    (∀ s t : State, exec (.timeWordSend false) s = .next t → RegsSame [] s t)

/-- The capture registers hold the first bus error response; later ones set MORE. It formalises R32. -/
def Obligations.CaptureHoldsTheFirstError : Prop :=
  (∀ (s : State) (m : Master) (w : Width) (addr : Nat) (value : Word) (st code : Nat), s.issued m = true →
      s.checkAccess m w true addr = some (st, code) → s.on Reg.SYS_BUSERR_STAT_VALID = false →
      Nexts (exec (.registerWrite m w addr value) s) (fun t => t.on Reg.SYS_BUSERR_STAT_VALID = true ∧
        t.rd Reg.SYS_BUSERR_STAT_MASTER = masterId m ∧ t.rd Reg.SYS_BUSERR_STAT_STATUS = st ∧
        t.on Reg.SYS_BUSERR_STAT_WRITE = true ∧ t.rd64 Reg.SYS_BUSERR_ADDR_LO Reg.SYS_BUSERR_ADDR_HI_ADDR_HI = addr % 2 ^ 40)) ∧
    (∀ (s : State) (m : Master) (w : Width) (addr : Nat) (value : Word) (st code : Nat), s.issued m = true →
      s.checkAccess m w true addr = some (st, code) → s.on Reg.SYS_BUSERR_STAT_VALID = true →
      Nexts (exec (.registerWrite m w addr value) s) (fun t => t.on Reg.SYS_BUSERR_STAT_MORE = true ∧
        ∀ f ∈ [Reg.SYS_BUSERR_STAT_VALID, Reg.SYS_BUSERR_STAT_MASTER, Reg.SYS_BUSERR_STAT_STATUS, Reg.SYS_BUSERR_STAT_WRITE,
          Reg.SYS_BUSERR_ADDR_LO, Reg.SYS_BUSERR_ADDR_HI_ADDR_HI], t.rd f = s.rd f)) ∧
    (∀ (s : State) (m : Master) (value : Word), s.allows m .w32 true Reg.SYS_BUSERR_STAT.addr → value.getLsbD 31 = true →
      Nexts (exec (.buserrValidClear m value) s) (fun t => t.on Reg.SYS_BUSERR_STAT_VALID = false))

/-- An access that a check refuses has no effect but its report. It rests on R30, R31, R33, R34, R41. -/
def Obligations.RefusedAccessesHaveNoEffect : Prop :=
  (∀ (s t : State) (m : Master) (w : Width) (addr : Nat) (value : Word) (st code : Nat), s.issued m = true →
      s.checkAccess m w true addr = some (st, code) → exec (.registerWrite m w addr value) s = .next t →
      t.resp = { status := st, data := 0, coreFault := isCore m && st == Sta.absentUnit } ∧ Agree [.resp, .regs, .gates, .gb] s t ∧
      RegsSame [Reg.SYS_BUSERR_STAT_VALID.addr, Reg.SYS_BUSERR_ADDR_LO.addr, Reg.SYS_BUSERR_ADDR_HI_ADDR_HI.addr] s t) ∧
    (∀ (s : State) (m : Master) (w : Width) (addr : Nat) (value : Word), s.issued m = false →
      exec (.registerWrite m w addr value) s = .next s)

/-- A read of a low half latches for its master and leaves every other master's latch. It rests on R12, R13. -/
def Obligations.LatchesAreEachMastersOwn : Prop :=
  (∀ (s t : State) (m m' : Master) (w : Width) (addr a : Nat), m' ≠ m → a < 2 ^ 40 → addr < 2 ^ 40 - 4 →
      exec (.loReadLatch m w addr) s = .next t → Tab.get t.latch (latchKey m' a) = Tab.get s.latch (latchKey m' a)) ∧
    (∀ (s : State) (m : Master), s.allows m .w32 false Reg.TIM_FRC_HI.addr →
      Nexts (exec (.loReadLatch m .w32 Reg.TIM_FRC_HI.addr) s) (fun t =>
        t.resp = { status := Sta.ok, data := (Tab.get s.latch (latchKey m Reg.TIM_FRC_HI.addr)).toNat } ∧ t.latch = s.latch))

/-- The nanosecond counter never goes back while the control domain runs. It rests on R365, R488. -/
def Obligations.TheCounterNeverGoesBack : Prop :=
  (∀ s t : State, s.power.running = true → step s = .next t → t.power.running = true → s.frc ≤ t.frc) ∧
    (∀ (us : Fin 15001) (s t : State), s.power.running = false → exec (.controlResetRelease us) s = .next t → t.power.running = true → t.frc = 0)

/-- An event reaches the writer's queue, or is suppressed and counted. It rests on R414, R418. -/
def Obligations.EventsReachTheWritersQueue : Prop :=
  (∀ (s : State) (source code p1 p2 p3 : Nat), s.power.running = true → s.gb.queue.length < 256 →
      (s.post source code p1 p2 p3).gb.queue.map (fun e => (e.code, e.source, e.p1, e.p2, e.p3)) =
        s.gb.queue.map (fun e => (e.code, e.source, e.p1, e.p2, e.p3)) ++ [(code, source, p1 % 2 ^ 32, p2 % 2 ^ 32, p3 % 2 ^ 32)]) ∧
    (∀ (s : State) (source code p1 p2 p3 : Nat), s.power.running = true → 256 ≤ s.gb.queue.length →
      (s.post source code p1 p2 p3).gb.queue = s.gb.queue ∧
      (s.post source code p1 p2 p3).rd Reg.GB_OVERRUN = satInc 32 (s.rd Reg.GB_OVERRUN) ∧
      (s.post source code p1 p2 p3).rd Reg.GB_SUPPRESSED = satInc 32 (s.rd Reg.GB_SUPPRESSED) ∧
      Assoc.find? (s.post source code p1 p2 p3).gb.pend code = some ((Assoc.find? s.gb.pend code).getD 0 + 1))

/-- An event that finds no token is suppressed, and the next record of its code carries the count. It rests on R416,
R418. -/
def Obligations.TokensLimitRecords : Prop :=
  (∀ (s : State) (e : GbEvent) (l : List GbEvent), s.gb.writing = none → s.gb.clearing = none → s.gb.anchors = [] →
      s.gb.queue = e :: l → gbTryMerge e s.gb.records = none → 0 < (s.gbGain (s.gbClass e.code)).gbTokens (s.gbClass e.code) →
      Nexts (exec .gbEvent s) (fun t => t.gbTokens (s.gbClass e.code) = (s.gbGain (s.gbClass e.code)).gbTokens (s.gbClass e.code) - 1 ∧ t.gb.queue = l ∧
        t.gb.records = s.gb.records ∧ t.gb.pend = s.gb.pend)) ∧
    (∀ (s : State) (e : GbEvent) (l : List GbEvent), s.gb.writing = none → s.gb.clearing = none → s.gb.anchors = [] →
      s.gb.queue = e :: l → gbTryMerge e s.gb.records = none → (s.gbGain (s.gbClass e.code)).gbTokens (s.gbClass e.code) = 0 →
      Nexts (exec .gbEvent s) (fun t => t.gb.queue = l ∧ t.gb.records = s.gb.records ∧ t.gb.writing = none ∧
        t.rd Reg.GB_SUPPRESSED = satInc 32 (s.rd Reg.GB_SUPPRESSED) ∧
        Assoc.find? t.gb.pend e.code = some ((Assoc.find? s.gb.pend e.code).getD 0 + 1))) ∧
    (∀ (s : State) (r : GbRec), s.gb.writing = some r → s.on Reg.GB_STAT_SEQ_END = false →
      Nexts (exec (.gbRecordWrite false) s) (fun t =>
        t.gb.records.head?.map (fun x => (x.code, x.suppressed, x.suppSat)) =
          some (r.code, min ((Assoc.find? s.gb.pend r.code).getD 0) 255, decide (255 < (Assoc.find? s.gb.pend r.code).getD 0)) ∧
        Assoc.find? t.gb.pend r.code = none))

/-- A refused index write changes no index and gets a bus error response. It rests on R405, R406. -/
def Obligations.RefusedIndexWrites : Prop :=
  (∀ (s : State) (m : Master) (q : Fin 64) (value : Word), s.allows m .w32 true (Reg.QUE_PI q).addr → s.queUsed q = true →
      s.queProducer q = masterId m → 2 ^ s.queDepth q - s.queFill q < idxDiff value.toNat (s.quePi q) →
      Nexts (exec (.quePiWrite m q value) s) (fun t => t.resp.status = Sta.busError ∧ t.rd (Reg.QUE_STAT_LAST q) = Sta.rejectedFull ∧
        t.rd (Reg.QUE_STAT_REJECTS q) = satInc 16 (s.rd (Reg.QUE_STAT_REJECTS q)) ∧ t.quePi q = s.quePi q ∧ t.queDi q = s.queDi q ∧
        t.queCi q = s.queCi q ∧ t.queRi q = s.queRi q)) ∧
    (∀ (s : State) (m : Master) (q : Fin 64) (value : Word), s.allows m .w32 true (Reg.QUE_PI q).addr → s.queUsed q = true →
      s.queProducer q ≠ masterId m →
      Nexts (exec (.quePiWrite m q value) s) (fun t => t.resp.status = Sta.busError ∧ t.quePi q = s.quePi q ∧ t.queDi q = s.queDi q ∧
        t.queCi q = s.queCi q ∧ t.queRi q = s.queRi q)) ∧
    (∀ (s : State) (m : Master) (q : Fin 64) (value : Word), s.allows m .w32 true (Reg.QUE_CI q).addr → s.queUsed q = true →
      idxDiff (s.queRi q) (s.queCi q) < idxDiff value.toNat (s.queCi q) →
      Nexts (exec (.queCiWrite m q value) s) (fun t => t.resp.status = Sta.busError ∧ t.quePi q = s.quePi q ∧ t.queDi q = s.queDi q ∧
        t.queCi q = s.queCi q ∧ t.queRi q = s.queRi q))

/-- A command register with a status register reports a refusal there and answers OK. It rests on R421, R470, R516. -/
def Obligations.CommandsAreRefusedInTheirStatusRegister : Prop :=
  (∀ (s : State) (m : Master), s.allows m .w32 true Reg.GB_CMD.addr → s.on Reg.SCN_STAT_FORCE_PERMIT = false →
      Nexts (exec (.gbClear m) s) (fun t => t.resp.status = Sta.ok ∧ t.rd Reg.GB_CMD_STAT_STATUS = Sta.busError ∧
        t.rd Reg.GB_CMD_STAT_REASON = 1 ∧ t.gb = s.gb ∧ t.fileAt Reg.SYS_BUSERR_STAT.addr = s.fileAt Reg.SYS_BUSERR_STAT.addr)) ∧
    (∀ (s : State) (m : Master), s.allows m .w32 true Reg.NB_CMD.addr → s.nbPanel = false →
      Nexts (exec (.nbCleanCmd m) s) (fun t => t.resp.status = Sta.ok ∧ t.rd Reg.NB_CMD_STAT_STATUS = Sta.busError ∧
        t.rd Reg.NB_CMD_STAT_REASON = 1 ∧ t.nb = s.nb ∧ t.fileAt Reg.SYS_BUSERR_STAT.addr = s.fileAt Reg.SYS_BUSERR_STAT.addr)) ∧
    (∀ (s : State) (m : Master), s.allows m .w32 true Reg.NB_CMD.addr → s.nbPanel = true → s.nbFault = false → s.nb.cleanCmd = true →
      Nexts (exec (.nbCleanCmd m) s) (fun t => t.resp.status = Sta.ok ∧ t.rd Reg.NB_CMD_STAT_STATUS = Sta.busError ∧
        t.rd Reg.NB_CMD_STAT_REASON = 2 ∧ t.nb = s.nb)) ∧
    (∀ (s : State) (m : Master), s.allows m .w32 true Reg.NB_CMD.addr → s.nbPanel = true → s.nbFault = false →
      s.on Reg.NB_STAT_REFRESH_DUE = true →
      Nexts (exec (.nbRefreshCmd m) s) (fun t => t.resp.status = Sta.ok ∧ t.rd Reg.NB_CMD_STAT_STATUS = Sta.busError ∧
        t.rd Reg.NB_CMD_STAT_REASON = 2 ∧ t.nb = s.nb))

/-- A copy with a bad CRC is counted, and a second copy has no effect. It rests on R188, R189. -/
def Obligations.CopiesOfAFrameActOnce : Prop :=
  (∀ (c : Instr) (a : Arrival) (s : State), arrivalOf c = some a → s.power.running = true → s.role ≠ roleSingle → a.good = false →
      exec c s = .next (s.bump (Reg.BAN_LANE_CRC_ERR a.lane))) ∧
    (∀ (c : Instr) (a : Arrival) (s : State), arrivalOf c = some a → s.power.running = true → s.role ≠ roleSingle → a.good = true →
      s.locked = true → s.newFrame a.seq.toNat true = false → exec c s = .next (s.laneSeen a.lane a.seq.toNat)) ∧
    (∀ (c : Instr) (a : Arrival) (s : State), arrivalOf c = some a → s.power.running = false ∨ s.role = roleSingle → exec c s = .next s)

/-- What the front LEDs show. It rests on R508, R7, R332. -/
def Obligations.FrontLedsShow : Prop :=
  (∀ (s : State) (l : Led), s.power.mainOn = false → s.led l = .off) ∧
    (∀ s : State, s.power.mainOn = true →
      (s.on Reg.PWR_STAT_PF_WARN = true → s.led .pwr = .red) ∧
      (s.on Reg.PWR_STAT_PF_WARN = false →
        s.led .pwr = if s.on Reg.PWR_STAT_IN_A = true ∧ s.on Reg.PWR_STAT_IN_B = true ∧ s.on Reg.PWR_STAT_DIP = false then .green else .amber) ∧
      (s.rd Reg.FPL_STAT_STATE = 2 → s.led .mode = .red) ∧
      (s.locked = true → s.led .mode =
        if s.rd Reg.SCN_STAT_MODE = modeRun then .green else if s.rd Reg.SCN_STAT_MODE = modeHold then .amberFlash else .amber) ∧
      (s.role = roleSingle ∨ s.role = roleAlone ∨ s.role = roleActive → s.led .role = .green) ∧
      (s.role = roleStandby → s.led .role = .greenFlash) ∧ (s.role = roleCold → s.led .role = .amber) ∧
      (s.role = roleIsolated → s.led .role = .amberFlash) ∧ (s.role = roleFailed → s.led .role = .red) ∧
      (s.led .lane0 = if s.on Reg.BAN_STAT_LANE0_UP = true ∧ s.role ≠ roleSingle then .green else .off) ∧
      (s.led .lane1 = if s.on Reg.BAN_STAT_LANE1_UP = true ∧ s.role ≠ roleSingle then .green else .off)) ∧
    (∀ (s : State) (k c : Fin 8) (span : Bool), s.power.running = true → s.power.mainOn = true → s.keyMaint = true → s.key = none →
      s.nbPanel = false → Nexts (exec (.keyMenu k c span) s) (fun t => t.led .key = .amberFlash ∧ t.key = none))

/-- What SYS_CAPS reads on each variant. It formalises R3. -/
def Obligations.SysCapsByVariant : Prop :=
  ∀ (s : State) (m : Master), s.issued m = true → ∃ v : Nat, Nexts (exec (.loReadLatch m .w32 sysCapsAddr) s)
      (fun t => t.resp = { status := Sta.ok, data := v }) ∧ (s.ident.variant = .full → v = 0x0008883F) ∧
      (s.ident.variant = .standard → v = 0x00088812) ∧ (s.ident.variant = .lean → v = 0x00044401)

/-- Register accesses of every access code complete. It rests on R9, R10, R12, R13, R14, R31, R36. -/
def Obligations.RegisterAccessesComplete : Prop :=
  (∀ (s : State) (m : Master) (f : Fld) (value : Word),
      f ∈ [Reg.FPL_SRC_LEN, Reg.SCN_OLC_LEN, Reg.SCN_FORCE_TGT, Reg.SCN_FORCE_TYPE] →
      s.allows m .w32 true f.addr →
      Nexts (exec (.registerWrite m .w32 f.addr value) s) (fun t => t.rd f = value.toNat ∧ t.resp = { status := Sta.ok })) ∧
  (∀ (s : State) (m : Master) (value : Word),
      s.allows m .w32 true Reg.SYS_BUSERR_STAT.addr →
      value.getLsbD 31 = true →
      Nexts (exec (.buserrValidClear m value) s) (fun t => t.rd Reg.SYS_BUSERR_STAT_VALID = 0)) ∧
  (∀ (s : State) (m : Master),
      s.allows m .w32 false Reg.TIM_FRC_LO.addr →
      Nexts (exec (.loReadLatch m .w32 Reg.TIM_FRC_LO.addr) s) (fun t => t.resp = { status := Sta.ok, data := s.frc % 2 ^ 32 } ∧ (Tab.get t.latch (latchKey m Reg.TIM_FRC_HI.addr)).toNat = s.frc / 2 ^ 32 % 2 ^ 32)) ∧
  (∀ (s : State) (m : Master) (f : Fld) (value : Word),
      f ∈ [Reg.FPL_SRC_LO, Reg.SCN_OLC_SRC_LO, Reg.SCN_FORCE_VAL_LO] →
      s.allows m .w32 true f.addr →
      Nexts (exec (.loWriteStage m f.addr value) s) (fun t => Assoc.find? t.staged (latchKey m f.addr) = some value ∧ t.regs = s.regs)) ∧
  (∀ (s : State) (m : Master) (low value : Word),
      s.allows m .w32 true Reg.SCN_FORCE_VAL_HI.addr →
      Assoc.find? s.staged (latchKey m Reg.SCN_FORCE_VAL_LO.addr) = some low →
      Nexts (exec (.hiWriteApply m Reg.SCN_FORCE_VAL_HI.addr value) s) (fun t => t.rd64 Reg.SCN_FORCE_VAL_LO Reg.SCN_FORCE_VAL_HI = low.toNat + 2 ^ 32 * value.toNat)) ∧
  (∀ (s : State) (m : Master) (f : Fld),
      f ∈ [Reg.SLV_MAX_TIME, Reg.GB_OVERRUN, Reg.RND_LAPSED, Reg.ANX_DISC] →
      s.allows m .w32 false f.addr →
      m ≠ .debug →
      Nexts (exec (.rcReadClear m f.addr) s) (fun t => t.resp = { status := Sta.ok, data := s.fileAt f.addr } ∧ t.fileAt f.addr = 0)) ∧
  (∀ (s : State) (m : Master) (write : Bool) (addr : Nat),
      s.allows m .w32 write addr →
      inRegs addr = true →
      (addr = sysCapsAddr → write = true) →
      Nexts (exec (.accessTimeout m write addr) s) (fun t => t.resp.status = Sta.timeout ∧ t.on Reg.SYS_BUSERR_STAT_VALID = true))

/-- Wake events, gating and a correctable memory error complete. It rests on R22, R23, R494. -/
def Obligations.WakeAndGatingComplete : Prop :=
  (∀ (s : State) (u : GUnit),
      s.power.running = true →
      s.fitted u = true →
      (s.gate u).gated = true →
      (s.gate u).entering = false →
      Nexts (exec (.unitWake u) s) (fun t => (t.gate u).gated = false)) ∧
  (∀ (s : State) (u : GUnit),
      s.power.running = true →
      s.fitted u = true →
      (s.gate u).entering = true →
      Nexts (exec (.unitWake u) s) (fun t => (t.gate u).held = true ∧ (t.gate u).entering = true)) ∧
  (∀ (s : State) (u : GUnit),
      s.power.running = true →
      s.fitted u = true →
      (s.gate u).gated = false →
      (s.gate u).entering = false →
      s.unitBusy u = false →
      Nexts (exec (.unitGateEntry u false) s) (fun t => (t.gate u).entering = true)) ∧
  (∀ (s : State) (u : GUnit),
      s.power.running = true →
      s.fitted u = true →
      (s.gate u).entering = true →
      (s.gate u).held = false →
      Nexts (exec (.unitGateEntry u true) s) (fun t => (t.gate u).gated = true ∧ (t.gate u).entering = false)) ∧
  (∀ (s : State) (addr : Nat) (syndrome : Byte),
      s.power.running = true →
      inRam addr 1 = true →
      Nexts (exec (.eccCorrectable addr syndrome) s) (fun t => t.resp = { status := Sta.ok, data := (s.byte addr).toNat } ∧ ∀ a, t.byte a = s.byte a))

/-- The Floor Plan loader's commands are accepted and complete. It rests on R54, R65, R68, R73, R74. -/
def Obligations.FloorPlanCommandsComplete : Prop :=
  (∀ (s : State) (m : Master),
      s.allows m .w32 true Reg.FPL_CMD.addr →
      s.on Reg.FPL_STAT_BUSY = false →
      Nexts (exec (.fplVerify m) s) (fun t => t.on Reg.FPL_STAT_BUSY = true ∧ t.fpl.op.map (fun o => o.cmd) = some .verify)) ∧
  (∀ (s : State) (m : Master) (slot : Slot),
      s.allows m .w32 true Reg.FPL_CMD.addr →
      s.on Reg.FPL_STAT_BUSY = false →
      Nexts (exec (.fplStore m slot) s) (fun t => t.on Reg.FPL_STAT_BUSY = true ∧ t.fpl.op.map (fun o => o.cmd) = some (.store slot))) ∧
  (∀ (s : State) (m : Master),
      s.allows m .w32 true Reg.FPL_CMD.addr →
      s.on Reg.FPL_STAT_BUSY = false →
      Nexts (exec (.fplSoftApply m) s) (fun t => t.on Reg.FPL_STAT_BUSY = true ∧ t.fpl.op.map (fun o => o.cmd) = some .softApply)) ∧
  (∀ (s : State) (op : FplOp) (f : FplFail),
      s.fpl.op = some op →
      op.fail = some f →
      Nexts (exec .fplOperationComplete s) (fun t => t.on Reg.FPL_STAT_BUSY = false ∧ t.fpl.op = none ∧ t.rd Reg.FPL_STAT_REASON = f.reason % 256)) ∧
  (∀ (s : State),
      s.power.running = true →
      s.rd Reg.FPL_STAT_STATE = 1 →
      s.fpl.verified = none →
      exec .bootLoad s = .next (s.bootTry.bootLock)) ∧
  (∀ (s : State),
      s.power.running = true →
      s.rd Reg.FPL_STAT_STATE = 1 →
      s.fpl.verified ≠ none →
      exec .bootLoad s = .next (s.bootLock)) ∧
  (∀ (s : State) (peer : Bool) (new : List Section),
      s.fpl.softNext = some new →
      s.scnMode ≠ modeRun →
      peer = true ∨ s.role ≠ roleActive ∧ s.role ≠ roleStandby →
      Nexts (exec (.softSectionLanding peer) s) (fun t => t.fpl.softNext = none ∧ t.fpl.soft = softMerge s.fpl.soft new))

/-- Base ticks, returns, traps and commit points complete. It rests on R76, R80, R86, R87, R93, R94, R95. -/
def Obligations.ScanEngineEventsComplete : Prop :=
  (∀ (s : State),
      s.power.running = true →
      s.loopFirst s.tickNext = false →
      exec .baseTick s = .next ((let u := (s.commitsTo s.tickNext).strictLates s.tickNext
        let late : Bool := u.role == roleStandby && u.ban.ho.isNone && u.agrNeeded.any (fun c => decide (c ≤ s.tickNext))
        let u := if late then u.demote 2 0x10 else u
        let n := if u.locked then u.scn.ticks + 1 else 0
        let u : State := { u with frc := max u.frc s.tickNext, scn := { u.scn with lastTick := some s.tickNext, ticks := n } }
        let v := u.safHeartbeat u.t1
        if v.follows then ({ v with scn := { v.scn with dues := v.scn.dues ++ [(n, s.tickNext)] } } : State).followAll
        else if (v.leads ∨ v.role = roleBooting) ∧ v.swapStopped = false then v.tickLead
        else v.topupTick))) ∧
  (∀ (s : State) (n : Fin 16) (ns : Nat) (image : List Byte),
      s.coreTop (s.taskCore n) = some n.val →
      (s.task n).open_ = true →
      (s.task n).latched = true →
      Nexts (exec (.executeReturn n ns (some image) [] []) s) (fun t => (t.task n).running = none ∧ (t.task n).output = padTo (s.taskOut n) image ∧ (t.task n).returned = true ∧ t.rd (Reg.SCN_TASK_STAT_CONSEC n) = 0)) ∧
  (∀ (s : State) (n : Fin 16) (cause : BitVec 32) (pc : BitVec 64),
      s.coreTop (s.taskCore n) = some n.val →
      s.taskLatches n = true →
      Nexts (exec (.taskTrap n cause pc) s) (fun t => (t.task n).running = none ∧ t.taskState n = taskFault ∧ t.on (Reg.SCN_TASK_STAT_ABANDONED n) = true)) ∧
  (∀ (s : State) (n : Fin 16),
      s.power.running = true →
      s.locked = true →
      s.commitOrder.contains n.val = true →
      exec (.commit n) s = .next (((s.commitOrder.takeWhile (fun u => u != n.val)).foldl (fun s u => s.commitAt u) s).commitAt n))

/-- Scan Engine mode commands are accepted. It rests on R80, R82, R86. -/
def Obligations.ScanEngineCommandsComplete : Prop :=
  (∀ (s : State) (m : Master),
      s.allows m .w32 true Reg.SCN_CMD.addr →
      s.inControl = true →
      s.leads = true →
      Nexts (exec (.scnRun m) s) (fun t => { kind := 0, cmd := 0xA5000001 } ∈ t.scn.cmds ∧ t.rd Reg.SCN_STAT_PENDING = 1)) ∧
  (∀ (s : State) (m : Master),
      s.allows m .w32 true Reg.SCN_CMD.addr →
      s.inControl = true →
      s.leads = true →
      Nexts (exec (.scnHold m) s) (fun t => { kind := 0, cmd := 0xA5000002 } ∈ t.scn.cmds ∧ t.rd Reg.SCN_STAT_PENDING = 2)) ∧
  (∀ (s : State) (m : Master),
      s.allows m .w32 true Reg.SCN_CMD.addr →
      s.inControl = true →
      s.leads = true →
      Nexts (exec (.scnStop m) s) (fun t => { kind := 0, cmd := 0xA5000003 } ∈ t.scn.cmds ∧ t.rd Reg.SCN_STAT_PENDING = 0)) ∧
  (∀ (s : State) (m : Master) (n : Fin 16),
      s.allows m .w32 true Reg.SCN_CMD.addr →
      s.inControl = true →
      s.leads = true →
      Nexts (exec (.scnRestart m n) s) (fun t => t.scn.cmds = s.scn.cmds ++ [{ kind := 0, cmd := 0xA5000004 + 256 * n.val }]))

/-- On-line change and force commands complete. It rests on R99, R100, R101, R102, R103. -/
def Obligations.OnLineChangeCompletes : Prop :=
  (∀ (s : State) (m : Master),
      s.allows m .w32 true Reg.SCN_OLC_CMD.addr →
      s.olcState ≠ olcVerifying →
      s.olcState ≠ olcArmed →
      Nexts (exec (.olcVerify m) s) (fun t => t.olcState = olcVerifying ∧ t.rd Reg.SCN_OLC_STAT_REASON = 0)) ∧
  (∀ (s : State),
      s.olcState = olcVerifying →
      Nexts (exec .olcVerifyDone s) (fun t => (let b := s.scn.shadow
        let why := if s.scn.early ≠ 0 then s.scn.early
          else if Config.sha256 (s.bytes (s.rd64 Reg.SCN_OLC_SRC_LO Reg.SCN_OLC_SRC_HI) b.length) ≠ s.scn.hash then olcChanged
          else s.pkgCheck b
        t.olcState = (if why = 0 then olcVerified else olcFailed) ∧ t.rd Reg.SCN_OLC_STAT_REASON = why % 256))) ∧
  (∀ (s : State) (m : Master) (same : Bool),
      s.allows m .w32 true Reg.SCN_OLC_CMD.addr →
      s.olcState = olcVerified →
      s.leadsLog = false →
      s.softPending = false →
      s.scnMode = modeStop →
      s.ban.join = none →
      s.inControl = true ∨ s.role = roleBooting →
      s.follows = false ∨ same = true →
      Nexts (exec (.olcArm m same) s) (fun t => t.olcState = olcArmed ∧ t.scn.landing = none)) ∧
  (∀ (s : State) (m : Master),
      s.allows m .w32 true Reg.SCN_OLC_CMD.addr →
      s.olcState = olcArmed →
      s.leadsLog = false →
      s.inControl = true ∨ s.role = roleBooting →
      Nexts (exec (.olcCancel m) s) (fun t => t.olcState = olcVerified ∧ t.scn.landing = none)) ∧
  (∀ (s : State),
      s.olcState = olcArmed →
      s.power.running = true →
      s.olcStopped = true →
      Nexts (exec .olcSwap s) (fun t => t.olcState = olcSwapped ∧ t.scn.landing = none)) ∧
  (∀ (s : State) (m : Master),
      s.allows m .w32 true Reg.SCN_FORCE_CMD.addr →
      s.on Reg.SCN_STAT_FORCE_PERMIT = true →
      s.leadsLog = false →
      s.inControl = true ∨ s.role = roleBooting →
      exec (.forceSet m) s = .next (((s.wake .scan).answer 0).forceSet (s.rd Reg.SCN_FORCE_TGT) (s.fileAt Reg.SCN_FORCE_TYPE.addr) (s.rd64 Reg.SCN_FORCE_VAL_LO Reg.SCN_FORCE_VAL_HI))) ∧
  (∀ (s : State) (m : Master),
      s.allows m .w32 true Reg.SCN_FORCE_CMD.addr →
      s.on Reg.SCN_STAT_FORCE_PERMIT = true →
      s.leadsLog = false →
      s.inControl = true ∨ s.role = roleBooting →
      exec (.forceRelease m) s = .next (((s.wake .scan).answer 0).forceRelease (s.rd Reg.SCN_FORCE_TGT) (s.fileAt Reg.SCN_FORCE_TYPE.addr))) ∧
  (∀ (s : State) (m : Master),
      s.allows m .w32 true Reg.SCN_FORCE_CMD.addr →
      s.on Reg.SCN_STAT_FORCE_PERMIT = true →
      s.leadsLog = false →
      s.inControl = true ∨ s.role = roleBooting →
      Nexts (exec (.forceReleaseAll m) s) (fun t => t.scn.forces = []))

/-- Loop Engine ticks and tuning commands complete. It rests on R112, R123, R124, R126, R157. -/
def Obligations.LoopCommandsComplete : Prop :=
  (∀ (s : State) (at_ : Nat) (ecc : List (Fin 512)) (slots : Fin 513),
      s.loopNext = some at_ →
      s.power.running = true →
      s.locked = true →
      s.inControl = true ∨ s.leads = true →
      Nexts (exec (.loopTick ecc slots) s) (fun t => t = ({ s with frc := max s.frc at_ } : State).loopTick (fun n => ecc.any (fun e => e.val == n)) slots none ∧ t.lp.ticks = s.lp.ticks + 1)) ∧
  (∀ (s : State) (m : Master) (n : Fin 512),
      s.allows m .w32 true (Reg.LOOP_TUNE_CTRL n).addr →
      s.loopOn n = true →
      s.notOwn m = false →
      s.on (Reg.LOOP_TUNE_CTRL_PENDING n) = false →
      tuneWord (s.shadow n) 12 ≤ tuneWord (s.shadow n) 13 →
      Nexts (exec (.loopCommit m n) s) (fun t => t.on (Reg.LOOP_TUNE_CTRL_PENDING n) = true ∧ t.on (Reg.LOOP_TUNE_CTRL_ERR n) = false)) ∧
  (∀ (s : State) (m : Master) (n : Fin 512),
      s.allows m .w32 true (Reg.LOOP_TUNE_CTRL n).addr →
      s.loopOn n = true →
      s.notOwn m = false →
      s.on (Reg.LOOP_TUNE_CTRL_PENDING n) = false →
      Nexts (exec (.loopDiscard m n) s) (fun t => t = ((((s.wake .loops).answer 0).mirror m (Reg.LOOP_TUNE_CTRL n).addr 0xA5000002).setShadow n (s.loop n).active).wr (Reg.LOOP_TUNE_CTRL_ERR n) 0 ∧ t.on (Reg.LOOP_TUNE_CTRL_ERR n) = false)) ∧
  (∀ (s : State) (m : Master) (n : Fin 512),
      s.allows m .w32 true (Reg.LOOP_TUNE_CTRL n).addr →
      s.loopOn n = true →
      s.notOwn m = false →
      s.on (Reg.LOOP_TUNE_CTRL_PENDING n) = false →
      Nexts (exec (.loopInit m n) s) (fun t => t.on (Reg.LOOP_TUNE_CTRL_PENDING n) = true ∧ t.on (Reg.LOOP_TUNE_CTRL_ERR n) = false)) ∧
  (∀ (s : State) (a : Arrival) (samples : List LoopSmp) (ecc : List (Fin 512)) (slots : Fin 513) (at_ : Nat),
      s.hears a = true →
      s.follows = true →
      s.loopNext = some at_ →
      exec (.loopSamples a samples ecc slots) s = .next ((s.heard a).deliver (fun s => ({ s with frc := max s.frc at_ } : State).loopTick (fun n => ecc.any (fun e => e.val == n)) slots (some samples))))

/-- Dispatch Solver commands complete. It rests on R132, R139, R144, R145, R153, R157, R480. -/
def Obligations.SolverCommandsComplete : Prop :=
  (∀ (s : State) (sq : Nat),
      s.slvOn = true →
      s.power.running = true →
      s.locked = true →
      s.slv.req.isNone = true →
      s.joinHolds = false →
      s.on Reg.PWR_STAT_PF_WARN = false →
      s.slvNext = some sq →
      s.leads = true →
      Nexts (exec (.solverTake false) s) (fun t => t.slv.req.isSome = true ∧ t.rd Reg.SLV_STAT_QUEUE = sq)) ∧
  (∀ (s : State) (sq : Nat),
      s.slvOn = true →
      s.power.running = true →
      s.locked = true →
      s.slv.req.isNone = true →
      s.joinHolds = false →
      s.on Reg.PWR_STAT_PF_WARN = false →
      s.slvNext = some sq →
      s.leads = true →
      exec (.solverTake true) s = .next ((let r := s.slvRequest sq
        let t := s.slvTake sq true (r.timed s.frc)
        let u := t.slvSendTake (t.slv.req.getD r)
        if (t.slv.req.getD r).done = some (0x02, 0x06) then u.faultTrigger 3 else u))) ∧
  (∀ (s : State) (ecc : Bool) (r : SlvRequest),
      s.slv.req = some r →
      r.done = none →
      s.power.running = true →
      s.leads = true →
      r.inTime s.frc (slvSolveBound r.order) = true →
      exec (.solverIteration ecc) s = .next ((let t := s.slvIterate r ecc (r.timed s.frc)
        let u := t.slvSendIterate (r.iters + 1) (t.slv.req.getD r)
        if ecc then u.faultTrigger 3 else u))) ∧
  (∀ (s : State) (r : SlvRequest) (status detail : Nat),
      s.slv.req = some r →
      r.done = some (status, detail) →
      s.power.running = true →
      s.leads = true →
      Nexts (exec .solverComplete s) (fun t => t = (s.slvSend 4 r.sq (leBytes 8 (s.slvDoneAt r))).slvComplete r (s.slvDoneAt r) status detail ∧ t.slv.req = none ∧ t.slv.clears = [])) ∧
  (∀ (s : State) (m : Master) (slot : Fin 16),
      s.allows m .w32 true Reg.SLV_CMD.addr →
      s.notOwn m = false →
      s.slv.req = none →
      Nexts (exec (.slotClear m slot) s) (fun t => Assoc.find? t.slv.slots slot.val = none)) ∧
  (∀ (s : State) (m : Master),
      s.allows m .w32 true Reg.SLV_CMD.addr →
      s.notOwn m = false →
      s.slv.req = none →
      Nexts (exec (.slotClearAll m) s) (fun t => t.slv.slots = [])) ∧
  (∀ (s : State),
      s.slvOn = true →
      s.slv.req.isNone = true →
      s.slvNext.isNone = true →
      s.rd Reg.SLV_STAT_STATE = 1 →
      Nexts (exec .solverPowerGate s) (fun t => (t.gate .solver).gated = true ∧ t.rd Reg.SLV_STAT_STATE = 0 ∧ t.frc = max s.frc (s.slv.idleAt + 1000 * s.rd Reg.SLV_CTRL_IDLE_HOLD))) ∧
  (∀ (s : State) (a : Arrival) (p : SlvPermit),
      s.hears a = true →
      s.follows = true →
      s.slvOn = true →
      exec (.solverPermit a p) s = .next ((s.heard a).deliver (fun s => ({ s with slv := { s.slv with permits := s.slv.permits ++ [p] } } : State).slvFollow.wr Reg.SLV_STAT_PAIR_WAIT 0)))

/-- Axis events and virtual-limit writes complete. It rests on R162, R164, R167, R170, R174, R176, R178, R179. -/
def Obligations.AxisCommandsComplete : Prop :=
  (∀ (s : State) (deltas : List Int),
      s.power.running = true →
      s.locked = true →
      s.inControl = true →
      s.ban.ho = none →
      exec (.stepBoundary deltas) s = .next ((let u : State := { s with frc := s.axBoundaryAt }
        let v := (List.range 8).foldl (fun (s : State) a =>
          if s.axOn a then (s.axLossSet a (s.axis a).loss).axBoundary a (toBits 48 ((s.axis a).count + (deltas[a]?).getD 0)) else s) u
        if v.feeds then v.banSend 0x22 v.axCountsBytes else v))) ∧
  (∀ (s : State) (a : Arrival) (counts : List (Option (BitVec 48))) (loss bad : BitVec 8),
      s.hears a = true →
      s.role = 3 →
      exec (.axisCounts a counts loss bad) s = .next ((s.heard a).deliver (fun s => (List.range 8).foldl (fun s a =>
          s.axFollow a ((counts[a]?).getD none) (bitAt loss.toNat a) (bitAt bad.toNat a)) { s with frc := s.axBoundaryAt }))) ∧
  (∀ (s : State) (m : Master) (a : Fin 8) (upper : Bool) (value : Word),
      s.allows m .w32 true (axVlimHi a upper).addr →
      s.axOn a = true →
      s.notOwn m = false →
      s.axStaged a upper = false →
      Nexts (exec (.vlimStage m a upper value) s) (fun t => t.on (Reg.AX_LIM_CTRL_PENDING a) = true ∧ (if upper then (t.axis a).stageHi else (t.axis a).stageLo) = some (s.stagedLo m (axVlimLo a upper).addr (s.rd (axVlimLo a upper)) + 2 ^ 32 * value.toNat))) ∧
  (∀ (s : State) (a : Fin 8),
      s.axOn a = true →
      (s.axis a).loss = false →
      s.role ≠ roleStandby →
      Nexts (exec (.encLoss a) s) (fun t => t.on (Reg.AX_STATE_ENC_LOSS a) = true ∧ (t.axis a).loss = true)) ∧
  (∀ (s : State) (a : Fin 8),
      s.axOn a = true →
      (s.axis a).loss = false →
      s.role ≠ roleStandby →
      s.on (Reg.AX_STATE_ENC_LOSS a) = false →
      s.axRatio a ≠ 0 →
      s.rd (Reg.AX_STATE_STATE a) ∉ [axDisabled, axFault] →
      Nexts (exec (.encLoss a) s) (fun t => t.rd (Reg.AX_STATE_STATE a) = axFault)) ∧
  (∀ (s : State) (a : Fin 8),
      s.axOn a = true →
      (s.axis a).loss = false →
      s.role = roleStandby →
      exec (.encLoss a) s = .next ((s.setAxis a { s.axis a with loss := true }).post axSource 0x0706 a 2 ((s.axis a).count % 2 ^ 32))) ∧
  (∀ (s : State) (a : Fin 8),
      s.axOn a = true →
      s.role ≠ roleStandby →
      Nexts (exec (.encErr a) s) (fun t => t.on (Reg.AX_STATE_ENC_ERR a) = true ∧ (t.axis a).badTo = s.frc + 1000000)) ∧
  (∀ (s : State) (a : Fin 8),
      s.axOn a = true →
      s.role = roleStandby →
      exec (.encErr a) s = .next (s.post axSource 0x0706 a 1 ((s.axis a).count % 2 ^ 32))) ∧
  (∀ (s : State) (a : Fin 8),
      s.axOn a = true →
      s.role ≠ roleStandby →
      Nexts (exec (.encLossClear a) s) (fun t => t.on (Reg.AX_STATE_ENC_LOSS a) = false ∧ (t.axis a).loss = false)) ∧
  (∀ (s : State) (a : Fin 8),
      s.axOn a = true →
      s.rd (Reg.AX_STATE_STATE a) = axSettling →
      Nexts (exec (.enSettleElapsed a) s) (fun t => t.rd (Reg.AX_STATE_STATE a) = axMoving ∧ t.frc = max s.frc (max (s.axis a).since ((s.axis a).en.getD 0) + s.axEnSettle a))) ∧
  (∀ (s : State) (a : Fin 8),
      s.axOn a = true →
      s.rd (Reg.AX_STATE_STATE a) = axAtRest →
      Nexts (exec (.stillDelayElapsed a) s) (fun t => t.rd (Reg.AX_STATE_STATE a) = axParked ∧ t.frc = max s.frc ((s.axis a).since + s.axStillDelay a))) ∧
  (∀ (s : State) (a : Fin 8),
      s.axOn a = true →
      (s.axis a).resume = true →
      Nexts (exec (.axisResume a) s) (fun t => (t.axis a).resume = false ∧ t.frc = s.axBoundaryFrom s.frc ∧ (t.axis a).checkAt = s.axBoundaryFrom s.frc + 1000000))

/-- Banister frames are sent, taken and counted. It rests on R189, R190, R191, R192, R193, R197, R198, R220. -/
def Obligations.BanisterFramesComplete : Prop :=
  (∀ (s : State),
      s.power.running = true →
      s.role ≠ roleSingle →
      Nexts (exec .heartbeatSend s) (fun t => (∃ f ∈ t.ban.tx, f.type = 0x01 ∧ f.seq = s.ban.txSeq) ∧ t.frc = max s.frc (s.ban.lastTx + 10000))) ∧
  (∀ (s : State) (a : Arrival) (role : Fin 8) (lanes : Fin 4) (phase : Fin 250000),
      s.inOrder a = true →
      exec (.heartbeat a role lanes phase) s = .next ((s.heard a).deliver (fun s => s.heartbeatTake a.sent.toNat role.val phase.val))) ∧
  (∀ (s : State) (a : Arrival) (role : Fin 8) (lanes : Fin 4) (phase : Fin 250000),
      s.inOrder a = true →
      s.ban.join = none →
      s.ban.early = [] →
      s.role ∉ [roleActive, roleStandby, roleCold] →
      s.electing = false →
      Nexts (exec (.heartbeat a role lanes phase) s) (fun t => t.rd Reg.BAN_STAT_PEER_ROLE = role.val ∧ t.ban.rxSeq = some a.seq.toNat)) ∧
  (∀ (s : State) (type : Byte) (len : Nat) (lane : Fin 2),
      s.power.running = true →
      s.role ≠ roleSingle →
      Nexts (exec (.banisterFrameDiscard type len lane) s) (fun t => t.rd Reg.BAN_DISCARD_COUNT = satInc 16 (s.rd Reg.BAN_DISCARD_COUNT))) ∧
  (∀ (s : State) (a : Arrival) (x : RoleMsg),
      s.inOrder a = true →
      exec (.role a x) s = .next ((s.heard a).deliver (fun s => s.roleTake a.seq.toNat x))) ∧
  (∀ (s : State) (a : Arrival),
      s.inOrder a = true →
      s.ban.join = none →
      s.ban.early = [] →
      Nexts (exec (.role a .measure) s) (fun t => t.ban.tx.head?.map (fun f => (f.type, f.payload)) = some (0x03, [0x80, 0, 0, 0] ++ leBytes 4 a.seq.toNat))) ∧
  (∀ (s : State) (a : Arrival) (n : BitVec 32) (t0 : Nat),
      s.inOrder a = true →
      s.ban.join = none →
      s.ban.early = [] →
      s.ban.hs = [(0x03, n.toNat, t0)] →
      Nexts (exec (.role a (.answer n)) s) (fun t => t.ban.hs = [] ∧ t.rd Reg.BAN_RTT_RTT = min (s.frc - t0) 0xFFFF)) ∧
  (∀ (s : State) (a : Arrival) (seqs : List (BitVec 32)),
      s.hears a = true →
      s.ban.join = none →
      s.ban.early = [] →
      Nexts (exec (.nak a seqs) s) (fun t => t.ban.tx.length = s.ban.tx.length ∧ ∀ f ∈ t.ban.tx, f.seq ∈ seqs.map (fun n => n.toNat) → bitAt f.flags 1 = true)) ∧
  (∀ (s : State) (type n t0 : Nat) (rest : List (Nat × Nat × Nat)),
      s.ban.hs = (type, n, t0) :: rest →
      Nexts (exec .handshakeTimeout s) (fun t => t.ban.hs = rest ∧ t.rd Reg.BAN_HS_FAIL = satInc 32 (s.rd Reg.BAN_HS_FAIL) ∧ t.frc = max s.frc (t0 + 8000))) ∧
  (∀ (s : State) (a : Arrival) (g : Agreement),
      s.hears a = true →
      s.follows = true →
      exec (.agreement a g) s = .next ((s.heard a).deliver (fun s =>
          let u := s.banSend 0x11 (leBytes 8 g.tick ++ leBytes 4 (banCrc (agrBytes g)))
          ({ u with ban := { u.ban with agrs := u.ban.agrs ++ [g] } } : State).followAll))) ∧
  (∀ (s : State) (a : Arrival) (tick : Nat) (crc : BitVec 32),
      s.hears a = true →
      s.ban.join = none →
      s.ban.early = [] →
      s.ban.wait = some crc.toNat →
      tick = s.scn.ticks →
      Nexts (exec (.agreeAck a tick crc) s) (fun t => t.ban.wait = none ∧ ∀ h ∈ t.ban.hs, h.1 ≠ 0x10)) ∧
  (∀ (s : State) (a : Arrival) (entries : List Mirrored),
      s.hears a = true →
      s.follows = true →
      exec (.rxMirror a entries) s = .next ((s.heard a).deliver (fun s =>
          let u := entries.foldl (fun s x => s.mirrorEntry a.seq.toNat x) s
          ({ u with ban := { u.ban with rxmHeld := a.seq.toNat } } : State).mirrorAckSend))) ∧
  (∀ (s : State) (a : Arrival) (upTo : BitVec 32),
      s.hears a = true →
      s.ban.join = none →
      s.ban.early = [] →
      Nexts (exec (.mirrorAck a upTo) s) (fun t => t.ban.mirrored = upTo.toNat ∧ ∀ e ∈ t.ban.rxm, e ∈ s.ban.rxm ∧ seqAfter e.1 upTo.toNat = true)) ∧
  (∀ (s : State) (a : Arrival) (entries : List RegMirror),
      s.hears a = true →
      s.follows = true →
      exec (.regMirror a entries) s = .next ((s.heard a).deliver (fun s => s.regMirrors entries)))

/-- Digests, inquiries and faults complete. It rests on R201, R202, R203, R205, R208, R209, R211, R212. -/
def Obligations.ComparisonCommandsComplete : Prop :=
  (∀ (s : State) (a : Arrival) (n : Fin 16) (missed noImage : Bool) (cycle : Nat) (value : BitVec 64),
      s.hears a = true →
      s.logs = false →
      s.compares = true →
      (s.task n).waits = false →
      exec (.digest a n missed noImage cycle value) s = .next ((s.heard a).deliver (fun s => ({ s with ban := { s.ban with peer := s.ban.peer ++ [{ task := n, flags := b2n missed + (if s.taskStrict n then digStrict else 0) + 4 * b2n noImage, cycle, value := value.toNat }] } } : State).compare n))) ∧
  (∀ (s : State) (n : Fin 16),
      s.compares = true →
      (s.task n).waits = true ∨ s.ban.own.any (fun d => d.task == n.val) = true →
      exec (.digestMissing n) s = .next (({ s with frc := max s.frc (s.nextStart n) } : State).digestMissing n)) ∧
  (∀ (s : State) (n : Fin 16),
      s.taskStrict n = true →
      (s.task n).waits = true →
      (s.task n).late = false →
      Nexts (exec (.strictDigestTimeout n) s) (fun t => (t.task n).waits = false ∧ max s.frc (s.commitPoint n + 20000) ≤ t.frc)) ∧
  (∀ (s : State) (type : Byte) (at_ : Nat),
      s.power.running = true →
      s.follows = true →
      s.ban.ho = none →
      s.neededBy type.toNat = some at_ →
      Nexts (exec (.missingFrameDemote type) s) (fun t => t = ({ s with frc := max s.frc at_ } : State).demote 2 type.toNat ∧ t.role = roleCold)) ∧
  (∀ (s : State) (a : Arrival) (q : Inquiry) (failed : BitVec 5),
      s.hears a = true →
      s.ban.join = none →
      s.ban.early = [] →
      s.ban.inquiry = some q →
      q.own = none →
      Nexts (exec (.inquiryResult (some a) failed) s) (fun t => t.ban.inquiry = some { q with peer := some (some failed.toNat) })) ∧
  (∀ (s : State) (q : Inquiry) (failed : BitVec 5),
      s.power.running = true →
      s.ban.inquiry = some q →
      q.peer = none →
      Nexts (exec (.inquiryResult none failed) s) (fun t => t.ban.inquiry = some { q with own := some failed.toNat })) ∧
  (∀ (s : State) (q : Inquiry) (p : Option Nat) (failed : BitVec 5),
      s.power.running = true →
      s.ban.inquiry = some q →
      q.peer = some p →
      Nexts (exec (.inquiryResult none failed) s) (fun t => t.ban.inquiry = none ∧ t.rd Reg.BAN_INQ_OWN_FAIL = failed.toNat ∧ t.rd Reg.BAN_INQ_OUTCOME = (if failed ≠ 0 ∧ p ≠ some 0 then 4 else if p ≠ some 0 then 3 else if failed ≠ 0 then 2 else 1))) ∧
  (∀ (s : State) (q : Inquiry),
      s.ban.inquiry = some q →
      q.peer = none →
      q.own = none →
      Nexts (exec .inquiryTimeout s) (fun t => t.ban.inquiry = some { q with peer := some none } ∧ t.frc = max s.frc (q.at_ + 3050000))) ∧
  (∀ (s : State),
      s.power.running = true →
      s.role = roleActive →
      s.ban.ho = none →
      Nexts (exec .uncorrectableEcc s) (fun t => t = s.handover 3 ∧ t.on Reg.BAN_STAT_HANDOVER = true ∧ t.rd Reg.BAN_HO_TRIGGER = 3)) ∧
  (∀ (s : State),
      s.power.running = true →
      s.role = roleActive →
      s.ban.ho = none →
      Nexts (exec .lockstepMismatch s) (fun t => t = s.handover 2 ∧ t.on Reg.BAN_STAT_HANDOVER = true ∧ t.rd Reg.BAN_HO_TRIGGER = 2)) ∧
  (∀ (s : State),
      s.power.running = true →
      s.role = roleActive →
      s.ban.ho = none →
      Nexts (exec .watchdogExpiry s) (fun t => t = s.handover 4 ∧ t.on Reg.BAN_STAT_HANDOVER = true ∧ t.rd Reg.BAN_HO_TRIGGER = 4)) ∧
  (∀ (s : State),
      s.power.running = true →
      s.role = roleStandby →
      s.ban.ho = none →
      Nexts (exec .uncorrectableEcc s) (fun t => t = s.fail 3 ∧ t.role = roleFailed)) ∧
  (∀ (s : State) (k c : Fin 8) (since_ : Nat),
      s.inControl = true →
      (s.island k).doMismatch c = true →
      ((s.island k).chan c).misAt = some since_ →
      ((s.island k).chan c).misTold = false →
      exec (.doReadbackMismatch k c) s = .next ((((s.waitTo (since_ + 2000000)).setCh k c { (s.island k).chan c with misTold := true }).post (islSource k) 0x0B0B c.val (b2n ((s.island k).eff c)) (b2n ((s.island k).chan c).raw)).readbackTrigger (8 * k.val + c.val))) ∧
  (∀ (s : State) (k c : Fin 8) (since_ : Nat),
      s.inControl = true →
      (s.island k).aoMismatch c = true →
      ((s.island k).chan c).misAt = some since_ →
      s.on (Reg.ISL_AN_STAT_READBACK k c) = false →
      Nexts (exec (.aoReadbackMismatch k c) s) (fun t => t = (((((s.waitTo (since_ + 20000000)).wr (Reg.ISL_AN_STAT_READBACK k c) 1).aoFlags k c).post (islSource k) 0x0B0B c.val ((s.island k).aoTarget c / 1000) (((s.island k).chan c).cur / 1000)).readbackTrigger (8 * k.val + c.val)) ∧ t.on (Reg.ISL_AN_STAT_READBACK k c) = true))

/-- Handovers, lanes and takeovers complete. It rests on R212, R213, R214, R215, R216, R218, R219, R221, R222, R516. -/
def Obligations.HandoverCommandsComplete : Prop :=
  (∀ (s : State) (m : Master),
      s.allows m .w32 true Reg.BAN_CMD.addr →
      s.role = roleActive →
      s.on Reg.SCN_STAT_FORCE_PERMIT = true →
      s.ban.inquiry = none →
      s.ban.ho = none →
      Nexts (exec (.banHandover m) s) (fun t => t.on Reg.BAN_STAT_HANDOVER = true ∧ t.rd Reg.BAN_HO_TRIGGER = 7 ∧ t.rd Reg.BAN_CMD_STAT_STATUS = Sta.ok ∧ t.rd Reg.BAN_CMD_STAT_REASON = 0)) ∧
  (∀ (s : State) (m : Master) (k c : Fin 8),
      s.allows m .w32 true Reg.BAN_CMD.addr →
      Nexts (exec (.rearmReadback m k c) s) (fun t => t.rbBlocked (8 * k.val + c.val) = false ∧ t.rd Reg.BAN_CMD_STAT_STATUS = Sta.ok)) ∧
  (∀ (s : State) (m : Master),
      s.allows m .w32 true Reg.BAN_CMD.addr →
      Nexts (exec (.rearmAll m) s) (fun t => t.rd64 Reg.BAN_RB_BLOCK_LO Reg.BAN_RB_BLOCK_HI = 0 ∧ t.rd Reg.BAN_CMD_STAT_STATUS = Sta.ok)) ∧
  (∀ (s : State) (m : Master),
      s.allows m .w32 true Reg.BAN_CMD.addr →
      s.role = roleIsolated →
      s.on Reg.SCN_STAT_FORCE_PERMIT = true →
      exec (.forceTakeover m) s = .next (((s.answer 0).cmdStat Reg.BAN_CMD_STAT_STATUS Reg.BAN_CMD_STAT_REASON 0).laneTakeover true)) ∧
  (∀ (s : State) (a : Arrival) (x : Notice),
      s.hears a = true →
      s.ban.join = none →
      s.ban.early = [] →
      s.role = roleStandby →
      s.ban.ho = none →
      s.on Reg.PWR_STAT_PF_WARN = false →
      s.scn.dues = [] →
      Nexts (exec (.handover a x) s) (fun t => t.on Reg.BAN_STAT_HANDOVER = true ∧ t.rd Reg.BAN_HO_TRIGGER = x.trigger.val ∧ t.ban.ho.map (fun h => (h.old, h.trigger, h.ramp)) = some (false, x.trigger.val, some (s.frc + 20000)))) ∧
  (∀ (s : State) (a : Arrival) (x : Notice),
      s.hears a = true →
      exec (.handover a x) s = .next ((s.heard a).deliver (fun s => s.handoverTake a.seq.toNat x))) ∧
  (∀ (s : State) (a : Arrival) (offset : Nat) (h : Handover),
      s.hears a = true →
      s.ban.join = none →
      s.ban.early = [] →
      s.ban.ho = some h →
      h.old = true →
      Nexts (exec (.driving a offset) s) (fun t => t.ban.ho = some { h with ramp := some (s.scn.lastTick.getD 0 + offset) })) ∧
  (∀ (s : State) (h : Handover) (r : Nat),
      s.ban.ho = some h →
      h.old = false →
      h.ramp = some r →
      Nexts (exec .rampStart s) (fun t => t.ban.driving = true ∧ t.frc = max s.frc r)) ∧
  (∀ (s : State) (h : Handover) (r : Nat),
      s.ban.ho = some h →
      h.old = true →
      h.ramp = some r →
      Nexts (exec .rampEnd s) (fun t => t.ban.framesOff = true ∧ t.ban.ho = some { h with ended := some (max s.frc (r + 60000)) })) ∧
  (∀ (s : State) (a : Arrival) (h : Handover),
      s.hears a = true →
      s.ban.join = none →
      s.ban.early = [] →
      s.ban.ho = some h →
      h.old = false →
      Nexts (exec (.released a) s) (fun t => t.ban.ho = some { h with ended := some s.frc } ∧ t.rd Reg.BAN_HO_CNT_OVERLAP = min ((s.frc - h.ramp.getD s.frc) / 1000) 255)) ∧
  (∀ (s : State) (h : Handover),
      s.ban.ho = some h →
      h.old = true →
      Nexts (exec .barrierBackstop s) (fun t => t.ban.framesOff = true ∧ t.frc = max s.frc (h.at_ + 110000))) ∧
  (∀ (s : State) (unknown : List (Fin 64)) (h : Handover),
      s.ban.ho = some h →
      s.takeoverAt h < s.tickNext →
      exec (.takeoverInstant unknown) s = .next ((let u := s.commitsTo (s.takeoverAt h - 1)
        let g := u.ban.ho.getD h
        let v : State := { u with frc := max u.frc (s.takeoverAt h) }
        if g.old then v.takeoverOld g else v.takeoverNew g unknown))) ∧
  (∀ (s : State) (unknown : List (Fin 64)) (h : Handover),
      s.ban.ho = some h →
      s.takeoverAt h < s.tickNext →
      s.commitOrder = [] →
      h.old = true →
      staysInStep h.trigger = true →
      s.laneMask ≠ 0 →
      Nexts (exec (.takeoverInstant unknown) s) (fun t => t.role = roleStandby ∧ t.rd Reg.BAN_STAT_PEER_ROLE = roleActive ∧ t.ban.ho = none ∧ t.frc = max s.frc (s.takeoverAt h))) ∧
  (∀ (s : State) (l : Fin 2),
      s.power.running = true →
      s.on (laneUp l) = true →
      s.on (laneUp (1 - l.val)) = true →
      Nexts (exec (.laneLost l) s) (fun t => t.on (laneUp l) = false ∧ t.rd (Reg.BAN_LANE_UP l) = 0 ∧ (t.lane l).downAt = t.frc ∧ t.frc = max s.frc ((s.lane l).lastAt + 50000))) ∧
  (∀ (s : State) (l : Fin 2),
      s.power.running = true →
      s.on (laneUp l) = false →
      s.role ≠ roleIsolated →
      Nexts (exec (.laneRestored l) s) (fun t => t.on (laneUp l) = true ∧ t.rd (Reg.BAN_LANE_UP l) = 1 ∧ t.frc = max s.frc ((s.lane l).backAt.getD s.frc + 1000000))) ∧
  (∀ (s : State),
      s.power.running = true →
      s.locked = true →
      s.paired = true →
      Nexts (exec .plantHeartbeatSend s) (fun t => t.ban.hbSeq = (s.ban.hbSeq + 1) % 2 ^ 32 ∧ t.ban.plantAt = some t.frc ∧ t.frc = max s.frc ((s.ban.plantAt.map (fun n => n + 1000000)).getD s.frc))) ∧
  (∀ (s : State) (p : Fin 4) (x : PlantBeat),
      s.power.running = true →
      s.holdView.ethOn p = true →
      s.holdView.beatValid x = true →
      s.electing = false →
      Nexts (exec (.plantHeartbeat p x) s) (fun t => t.ban.peerHbAt = some s.frc ∧ t.ban.peerHbSeq = x.seq.toNat ∧ t.rd Reg.BAN_STAT_PEER_ROLE = x.role.val)) ∧
  (∀ (s : State),
      s.power.running = true →
      s.role = roleStandby ∨ s.role = roleIsolated →
      s.isoShow.isoMet = true →
      exec .laneLossTakeover s = .next (s.isoShow.laneTakeover false))

/-- A module's join completes command by command. It rests on R225, R226, R228, R229, R230, R232, R233, R234, R235,
R236, R516. -/
def Obligations.JoiningCommandsComplete : Prop :=
  (∀ (s : State),
      s.joinMay = true →
      s.ban.joinDig ≠ s.strDigest ++ s.progDigest →
      Nexts (exec .joinStart s) (fun t => t.ban.join = some { active := false, askedAt := s.frc } ∧ t.rd Reg.BAN_JOIN_STAT_PHASE = phCheck ∧ (0x40, s.ban.txSeq, s.frc) ∈ t.ban.hs)) ∧
  (∀ (s : State) (j : Join),
      s.ban.join = some j →
      j.active = false →
      j.waiting = true →
      Nexts (exec .joinRetry s) (fun t => t.ban.join = some { j with waiting := false, askedAt := max s.frc s.ban.retryAt } ∧ t.frc = max s.frc s.ban.retryAt)) ∧
  (∀ (s : State),
      s.joinMay = true →
      s.ban.lastFail ≠ 0 →
      s.ban.stuck = false →
      Nexts (exec .joinRetry s) (fun t => t.ban.join = some { active := false, askedAt := max s.frc s.ban.retryAt } ∧ t.frc = max s.frc s.ban.retryAt ∧ t.rd Reg.BAN_JOIN_STAT_PHASE = phCheck)) ∧
  (∀ (s : State) (a : Arrival) (caps station serial : BitVec 32) (sdig pdig : List Byte),
      s.hears a = true →
      s.joinCheck caps.toNat station.toNat serial.toNat sdig pdig = 0 →
      s.joinFree = true →
      s.ban.early = [] →
      Nexts (exec (.joinRequest a caps station serial sdig pdig) s) (fun t => t.ban.join = some { active := true, since := s.frc, l := some (s.tickAfter 2) } ∧ t.rd Reg.BAN_JOIN_STAT_PHASE = phHamper ∧ t.rd Reg.BAN_PEER_SERIAL = serial.toNat)) ∧
  (∀ (s : State) (j : Join),
      s.ban.join = some j →
      j.active = false →
      j.waiting = false →
      j.l = none →
      s.ban.hs.any (fun h => h.1 == 0x40) = false →
      j.resent < 99 →
      Nexts (exec .joinRequestResend s) (fun t => t.ban.join = some { j with resent := j.resent + 1, askedAt := max s.frc (j.askedAt + 1000000) } ∧ t.frc = max s.frc (j.askedAt + 1000000))) ∧
  (∀ (s : State) (j : Join),
      s.ban.join = some j →
      j.active = false →
      j.waiting = false →
      j.l = none →
      s.ban.hs.any (fun h => h.1 == 0x40) = false →
      99 ≤ j.resent →
      exec .joinRequestResend s = .next ((s.setJoin { j with resent := j.resent + 1 }).joinEnd joinNoPeer)) ∧
  (∀ (s : State) (a : Arrival) (upgrade : Bool) (caps : BitVec 32) (l : Nat) (j : Join),
      s.hears a = true →
      s.ban.join = some j →
      s.ban.early = [] →
      j.active = false →
      j.l = none →
      Nexts (exec (.joinAnswer a 0 upgrade caps (some l)) s) (fun t => t.ban.join = some { j with l := some l, since := s.frc, upgrade } ∧ t.rd Reg.BAN_JOIN_STAT_PHASE = phHamper ∧ ∀ h ∈ t.ban.hs, h.1 ≠ 0x40)) ∧
  (∀ (s : State) (a : Arrival) (reason : Byte) (upgrade : Bool) (caps : BitVec 32) (l : Option Nat) (j : Join),
      s.hears a = true →
      s.ban.join = some j →
      s.ban.early = [] →
      j.active = false →
      j.l = none →
      reason ≠ 0 →
      Nexts (exec (.joinAnswer a reason upgrade caps l) s) (fun t => t.ban.join = none ∧ t.rd Reg.BAN_JOIN_STAT_REASON = reason.toNat ∧ t.ban.lastFail = reason.toNat ∧ t.ban.retryAt = s.frc + 1000000000)) ∧
  (∀ (s : State) (j : Join) (x : HamperSec) (rest : List HamperSec),
      s.ban.join = some j →
      j.active = true →
      j.took = true →
      j.secs = x :: rest →
      exec .hamperSend s = .next ((s.setJoin { j with secs := rest }).hamperSend x [(0, x.bytes)])) ∧
  (∀ (s : State) (a : Arrival) (kind : Byte) (index : BitVec 16) (offset total : Nat) (data : List Byte) (j : Join),
      s.hears a = true →
      s.ban.join = some j →
      j.active = false →
      j.l.isSome = true →
      exec (.hamper a kind index offset total false data) s = .next ((s.heard a).deliver (fun s => s.setJoin { j with parts := ⟨kind.toNat, index.toNat, j.patch kind.toNat index.toNat offset data⟩ :: j.parts.filter (fun x => !(x.kind == kind.toNat && x.index == index.toNat)) }))) ∧
  (∀ (s : State) (a : Arrival) (kind : Byte) (index : BitVec 16) (offset total : Nat) (data : List Byte) (j : Join),
      s.hears a = true →
      s.ban.join = some j →
      s.ban.early = [] →
      j.active = false →
      j.l.isSome = true →
      crc64 ((j.patch kind.toNat index.toNat offset (data.take (data.length - 8))).take total) ≠ leVal (data.drop (data.length - 8)) →
      Nexts (exec (.hamper a kind index offset total true data) s) (fun t => t.ban.join = none ∧ t.rd Reg.BAN_JOIN_STAT_REASON = joinHamperCrc)) ∧
  (∀ (s : State) (a : Arrival) (kind : Byte) (index : BitVec 16) (j : Join),
      s.hears a = true →
      s.role ≠ roleCold →
      s.ban.join = some j →
      s.ban.early = [] →
      j.active = true →
      Nexts (exec (.hamperAck a kind index true) s) (fun t => t.ban.join = some { j with acks := j.acks - 1 })) ∧
  (∀ (s : State) (a : Arrival) (kind : Byte) (index : BitVec 16) (j : Join),
      s.hears a = true →
      s.role ≠ roleCold →
      s.ban.join = some j →
      s.ban.early = [] →
      j.active = true →
      Nexts (exec (.hamperAck a kind index false) s) (fun t => t = (s.heard a).joinEnd joinHamperCrc ∧ t.ban.join = none)) ∧
  (∀ (s : State) (a : Arrival) (x : LogEntry),
      s.hears a = true →
      s.logs = true →
      exec (.logEntry a x) s = .next ((s.heard a).deliver (fun s => s.joinLog (.entry x) (match x with
          | .solver _ d _ r p => d.length + r.length + p.length + 16
          | .post _ _ _ b => b.length + 8) 0))) ∧
  (∀ (s : State) (a : Arrival) (pos : Nat) (j : Join),
      s.hears a = true →
      s.role ≠ roleCold →
      s.ban.join = some j →
      s.ban.early = [] →
      j.active = true →
      j.upgrade = false →
      j.j = none →
      Nexts (exec (.caughtUp a pos) s) (fun t => t.ban.join = some { j with j := some (s.tickAfter 4) } ∧ t.rd Reg.BAN_JOIN_STAT_PHASE = phTopup)) ∧
  (∀ (s : State) (a : Arrival) (payload : List Byte) (j : Join),
      s.hears a = true →
      s.ban.join = some j →
      j.active = false →
      j.upgrade = false →
      exec (.topup a payload) s = .next ((s.heard a).deliver (fun s =>
          s.setJoin { j with topup := some payload, j := some (le payload 0 8), tickAt := s.gridAt a.sent.toNat (le payload 8 8) }))) ∧
  (∀ (s : State) (n : Fin 16) (image : Option (List Byte)) (invokes : List Invoke) (writes : List (BitVec 32 × List Byte)) (loopCrc solverCrc : BitVec 64) (j : Join),
      s.replays = true →
      s.ban.join = some j →
      j.due.contains n.val = true →
      s.fastest ≠ some n.val →
      (s.task n).latched = true →
      exec (.replayCycle n image invokes writes none loopCrc solverCrc) s = .next ((let u := s.setJoin { j with due := j.due.filter (fun u => u != n.val), cycles := j.cycles + 1 }
        let u := writes.foldl (fun u w => u.varWrite n w) (invokes.foldl (fun u v => u.invoke n v) u)
        let x := u.task n
        ((u.setTask n { x with output := padTo (u.taskOut n) (image.getD x.output), returned := true }).wr
          (Reg.SCN_TASK_STAT_CONSEC n) 0).replayGo))) ∧
  (∀ (s : State) (n : Fin 16) (image : Option (List Byte)) (invokes : List Invoke) (writes : List (BitVec 32 × List Byte)) (cause : BitVec 32) (pc loopCrc solverCrc : BitVec 64) (j : Join),
      s.replays = true →
      s.ban.join = some j →
      j.due.contains n.val = true →
      s.fastest ≠ some n.val →
      (s.task n).latched = true →
      exec (.replayCycle n image invokes writes (some (cause, pc)) loopCrc solverCrc) s = .next ((let u := s.setJoin { j with due := j.due.filter (fun u => u != n.val), cycles := j.cycles + 1 }
        let u := writes.foldl (fun u w => u.varWrite n w) (invokes.foldl (fun u v => u.invoke n v) u)
        (u.trapAct n cause.toNat pc.toNat).replayGo))) ∧
  (∀ (s : State) (j : Join) (b : List Byte) (n : Nat),
      s.ban.join = some j →
      j.topup = some b →
      j.j = some n →
      j.active = false →
      j.due = [] →
      j.log = [] →
      s.replays = true →
      Nexts (exec .joinTick s) (fun t => t.role = roleStandby ∧ t.rd Reg.BAN_STAT_PEER_ROLE = roleActive ∧ t.ban.join = none ∧ t.rd Reg.BAN_JOIN_STAT_PHASE = phJoined ∧ t.frc = max s.frc j.tickAt)) ∧
  (∀ (s : State) (a : Arrival) (gbSeq : BitVec 32) (j : Join),
      s.hears a = true →
      s.role ≠ roleCold →
      s.ban.join = some j →
      s.ban.early = [] →
      j.active = true →
      j.upgrade = false →
      j.j.isSome = true →
      Nexts (exec (.joined a gbSeq) s) (fun t => t.role = roleActive ∧ t.rd Reg.BAN_STAT_PEER_ROLE = roleStandby ∧ t.ban.join = none)) ∧
  (∀ (s : State) (m : Master),
      s.allows m .w32 true Reg.BAN_JOIN_CMD.addr →
      s.joinMay = true →
      Nexts (exec (.banJoin m) s) (fun t => t.ban.join = some { active := false, askedAt := s.frc } ∧ t.rd Reg.BAN_JOIN_STAT_PHASE = phCheck ∧ t.rd Reg.BAN_JOIN_STAT_REASON = 0 ∧ t.ban.lastFail = 0))

/-- Upgrades and swaps complete command by command. It rests on R237, R238, R239, R242, R516. -/
def Obligations.UpgradeCommandsComplete : Prop :=
  (∀ (s : State) (m : Master),
      s.allows m .w32 true Reg.BAN_JOIN_CMD.addr →
      s.role = roleAlone ∨ s.role = roleActive →
      s.on Reg.SCN_STAT_FORCE_PERMIT = true →
      Nexts (exec (.upgradeAdmit m) s) (fun t => t.on Reg.BAN_JOIN_STAT_ADMIT = true ∧ t.rd Reg.BAN_JOIN_STAT_REASON = 0 ∧ t.ban.admitAt = s.frc)) ∧
  (∀ (s : State),
      s.on Reg.BAN_JOIN_STAT_ADMIT = true →
      Nexts (exec .upgradeAdmitLapse s) (fun t => t.on Reg.BAN_JOIN_STAT_ADMIT = false ∧ t.frc = max s.frc (s.ban.admitAt + 3600000000000))) ∧
  (∀ (s : State) (m : Master) (j : Join),
      s.allows m .w32 true Reg.BAN_JOIN_CMD.addr →
      s.ban.join = some j →
      j.active = true →
      j.upgrade = true →
      j.stopped = false →
      Nexts (exec (.abandonUpgrade m) s) (fun t => t.on Reg.BAN_JOIN_STAT_ADMIT = false ∧ t.ban.join = none)) ∧
  (∀ (s : State) (m : Master) (differ : BitVec 8) (j : Join),
      s.allows m .w32 true Reg.BAN_JOIN_CMD.addr →
      (s.swapCheck differ.toNat).1 = 0 →
      s.ban.join = some j →
      Nexts (exec (.banSwap m differ) s) (fun t => t.ban.join = some { j with swapAt := some (s.swapCheck differ.toNat).2 } ∧ t.rd Reg.BAN_JOIN_STAT_REASON = 0)) ∧
  (∀ (s : State) (a : Arrival) (landing : Nat) (j : Join),
      s.hears a = true →
      s.ban.join = some j →
      j.active = false →
      j.upgrade = true →
      exec (.swap a landing) s = .next ((s.heard a).deliver (fun s => s.setJoin { j with swapAt := some landing, final := [] }))) ∧
  (∀ (s : State) (j : Join) (n : Nat),
      s.ban.join = some j →
      j.swapAt = some n →
      j.active = true →
      j.upgrade = true →
      j.stopped = false →
      s.scn.ticks + 1 = n →
      Nexts (exec .swapLanding s) (fun t => t.ban.join.map (fun j => j.stopped) = some true ∧ t.scn.ticks = n ∧ t.frc = max s.frc (s.tickFrc n))) ∧
  (∀ (s : State) (a : Arrival) (resets discarded : BitVec 32) (j : Join),
      s.hears a = true →
      s.role ≠ roleCold →
      s.ban.join = some j →
      s.ban.early = [] →
      j.active = true →
      j.stopped = true →
      s.ban.ho = none →
      Nexts (exec (.ready a resets discarded) s) (fun t => t.on Reg.BAN_STAT_HANDOVER = true ∧ t.rd Reg.BAN_HO_TRIGGER = 9 ∧ t.ban.ho = some { old := true, trigger := 9, before := s.role, at_ := s.frc, lastC := s.ban.lastC })) ∧
  (∀ (s : State),
      s.power.running = true →
      s.latentCount.rd Reg.BAN_LATENT_LIMIT ≠ 0 →
      s.latentCount.rd Reg.BAN_LATENT_LIMIT ≤ s.latentCount.rd Reg.BAN_LATENT_HOURS →
      s.ban.latDone = false →
      exec .latentLimitReached s = .next (({ s.latentCount with ban := { s.latentCount.ban with latDone := true } } : State).post Un.ban 0x0816 (s.latentCount.rd Reg.BAN_LATENT_HOURS) (s.latentCount.rd Reg.BAN_LATENT_LIMIT) 0))

/-- The safety domain's cycles, tests and forced trips complete. It rests on R246, R247, R249, R250, R259, R262, R264,
R266. -/
def Obligations.SafetyDomainCommandsComplete : Prop :=
  (∀ (s : State) (x : SafCycle),
      s.saf.powered = true →
      s.rd Reg.SAF_STAT_STATE = 0 →
      Nexts (exec (.safetyCycle x) s) (fun t => t.rd64 Reg.SAF_CYCLE_LO Reg.SAF_CYCLE_HI = (s.rd64 Reg.SAF_CYCLE_LO Reg.SAF_CYCLE_HI + 1) % 2 ^ 64 ∧ t.saf.cycleAt = some t.safClock ∧ t.frc = (s.waitTo (match s.saf.cycleAt with | some n => n + 9999000 | none => 0)).frc)) ∧
  (∀ (s : State) (x : SafCycle),
      s.saf.powered = true →
      s.rd Reg.SAF_STAT_STATE ≠ 0 →
      exec (.safetyCycle x) s = .next ((let u := match s.saf.cycleAt with
          | some n => s.waitTo (n + 9999000)
          | none => s
        let u : State := { u with saf := { u.saf with cycleAt := some u.safClock } }
        ((u.wr64 Reg.SAF_CYCLE_LO Reg.SAF_CYCLE_HI (s.rd64 Reg.SAF_CYCLE_LO Reg.SAF_CYCLE_HI + 1)).safCycle x).tgRead))) ∧
  (∀ (s : State) (spb : Bool),
      s.saf.powered = true →
      s.rd Reg.SAF_STAT_STATE ≠ 0 →
      exec (.safetyWatchdogExpiry spb false) s = .next ((s.waitTo (s.saf.cycleAt.getD s.safClock + 10500000)).procFail (b2n spb) 1)) ∧
  (∀ (s : State) (spb : Bool) (n : Nat),
      s.saf.powered = true →
      s.rd Reg.SAF_STAT_STATE ≠ 0 →
      s.saf.cycleAt = some n →
      s.safClock < n + 9500000 →
      exec (.safetyWatchdogExpiry spb true) s = .next (s.procFail (b2n spb) 1)) ∧
  (∀ (s : State) (why : SafForce),
      s.saf.powered = true →
      Nexts (exec (.supervisorForce why) s) (fun t => t = s.forceTrip (match why with | .rail => 4 | .clock => 5) ∧ t.saf.forced = true)) ∧
  (∀ (s : State) (okA okB planeA planeB : Bool),
      s.saf.powered = true →
      s.rd Reg.SAF_STAT_STATE = 0 →
      exec (.safetyBootComplete okA okB planeA planeB) s = .next (s.safBoot okA okB planeA planeB)) ∧
  (∀ (s : State),
      s.saf.powered = true →
      s.saf.offered ≠ [] →
      s.rd Reg.SAF_STAT_STATE = 3 →
      Nexts (exec .safetyAdoptComplete s) (fun t => t.saf.section_ = s.saf.offered ∧ t.saf.offered = [] ∧ t.saf.confirmed = true ∧ t.frc = (s.waitTo (s.saf.offerAt + 10000000)).frc)) ∧
  (∀ (s : State) (l : Fin 8),
      s.saf.powered = true →
      s.rd Reg.SAF_STAT_STATE ≠ 0 →
      bitAt s.linesOn l = true →
      exec (.testPulseOff l) s = .next ((let from_ := match Assoc.find? s.saf.pulse l with
          | some n => max s.safClock (n + 1)
          | none => s.safClock
        let u := s.waitTo (nextPhase from_ (if s.lineTwice l then 10000000 else 20000000) (linePhase l))
        if (List.range 8).any (fun j => u.lineOff j 400000) then u
        else { u with saf := { u.saf with pulse := Assoc.insert u.saf.pulse l u.safClock, smpDue := putBit u.saf.smpDue l true } }))) ∧
  (∀ (s : State) (l : Fin 8) (on : BitVec 16) (volts10 : Nat) (users : List (BitVec 64)),
      bitAt s.saf.smpDue l = true →
      exec (.testPulseSample l on volts10 users) s = .next ((s.waitTo ((Assoc.find? s.saf.pulse l).getD 0 + 300000)).pulseSample l on volts10 users)) ∧
  (∀ (s : State) (f : Fin 64),
      s.saf.powered = true →
      s.rd (Reg.SAF_FUNC_STATE f) = funExcursion →
      exec (.excursionExpire (.function f)) s = .next (((s.waitTo (s.excOf f).until_).funTrip f 0x0905 (s.rd (Reg.SAF_FUNC_CAUSE f)) 7).matrix)) ∧
  (∀ (s : State) (x : SafExc),
      s.saf.powered = true →
      s.on Reg.TRP_STAT_EXCURSION = true →
      s.saf.excM = some x →
      exec (.excursionExpire .matrix) s = .next ((s.waitTo x.until_).matrixForce)) ∧
  (∀ (s : State),
      s.saf.powered = true →
      s.rd Reg.SAF_STAT_STATE ≠ 0 →
      exec .excursionStore s = .next ((let u := s.waitTo (s.saf.minAt + minute)
        let u : State := { u with saf := { u.saf with minAt := u.safClock } }
        ((List.range 64).foldl (fun (u : State) f =>
          if u.rd (Reg.SAF_FUNC_STATE f) = funExcursion then u.wr (Reg.SAF_FUNC_REMAIN f) ((u.excOf f).remain u.safClock) else u) u).safStore))) ∧
  (∀ (s : State) (f : Fin 64) (proc : Bool),
      s.saf.powered = true →
      s.on (Reg.SAF_FUNC_CHECK f) = true →
      (s.excOf f).until_ ≤ (Assoc.find? s.saf.checkAt f).getD s.safClock + minute →
      exec (.returnCheckEnd f proc) s = .next (((s.waitTo (s.excOf f).until_).funTrip f 0x0905 (s.rd (Reg.SAF_FUNC_CAUSE f)) 7).matrix)) ∧
  (∀ (s : State) (f : Fin 64) (proc : Bool) (u : State),
      s.saf.powered = true →
      s.on (Reg.SAF_FUNC_CHECK f) = true →
      (Assoc.find? s.saf.checkAt f).getD s.safClock + minute < (s.excOf f).until_ →
      u = (s.waitTo ((Assoc.find? s.saf.checkAt f).getD s.safClock + minute)).wr (Reg.SAF_FUNC_CHECK f) 0 →
      u.funReturned f proc = true →
      exec (.returnCheckEnd f proc) s = .next (u.funReturn f)) ∧
  (∀ (s : State) (f : Fin 64) (proc : Bool) (u : State),
      s.saf.powered = true →
      s.on (Reg.SAF_FUNC_CHECK f) = true →
      (Assoc.find? s.saf.checkAt f).getD s.safClock + minute < (s.excOf f).until_ →
      u = (s.waitTo ((Assoc.find? s.saf.checkAt f).getD s.safClock + minute)).wr (Reg.SAF_FUNC_CHECK f) 0 →
      u.funReturned f proc = false →
      Nexts (exec (.returnCheckEnd f proc) s) (fun t => t.on (Reg.SAF_FUNC_CHECK f) = false ∧ t.rd (Reg.SAF_FUNC_STATE f) = s.rd (Reg.SAF_FUNC_STATE f))) ∧
  (∀ (s : State) (k : Fin 8) (spa spb : Bool) (users : BitVec 64),
      (spa || spb) = true →
      s.islFitted k = true →
      (s.island k).alive = true →
      exec (.safetyFieldStale k false spa spb users) s = .next (s.fieldStale k spa spb)) ∧
  (∀ (s : State) (k : Fin 8) (spa spb : Bool) (users : BitVec 64),
      (spa || spb) = true →
      s.islFitted k = true →
      s.saf.powered = true →
      s.safOwned k = true →
      exec (.safetyFieldStale k true spa spb users) s = .next (s.fieldLost k spa spb users.toNat)) ∧
  (∀ (s : State) (rail clock : Bool),
      s.saf.powered = true →
      exec (.safetyMonitorWarning rail clock) s = .next (({ s with saf := { s.saf with itt50 := rail, itt51 := clock } } : State).matrix))

/-- Commands to the safety domain are accepted. It rests on R258, R259, R263, R264, R516. -/
def Obligations.SafetyCommandsComplete : Prop :=
  (∀ (s : State) (m : Master) (f : Fin 64),
      s.allows m .w32 true Reg.SAF_CMD.addr →
      s.saf.powered = true →
      s.rd (Reg.SAF_FUNC_STATE f) = funExcursion →
      s.on (Reg.SAF_FUNC_CHECK f) = false →
      s.on Reg.SAF_STAT_KEY_MAINT = true →
      Nexts (exec (.safReturn m f) s) (fun t => t.on (Reg.SAF_FUNC_CHECK f) = true ∧ t.rd Reg.SAF_CMD_STAT_STATUS = Sta.ok ∧ t.rd Reg.SAF_CMD_STAT_REASON = 0)) ∧
  (∀ (s : State) (m : Master) (f : Fin 64),
      s.allows m .w32 true Reg.SAF_CMD.addr →
      s.saf.powered = true →
      s.rd (Reg.SAF_FUNC_STATE f) = funTripped →
      s.funPasses f = true →
      Nexts (exec (.safReset m f) s) (fun t => t.rd (Reg.SAF_FUNC_STATE f) = funNormal ∧ t.rd (Reg.SAF_FUNC_CAUSE f) = 0 ∧ t.rd Reg.SAF_CMD_STAT_STATUS = Sta.ok ∧ t.rd Reg.SAF_CMD_STAT_REASON = 0)) ∧
  (∀ (s : State) (m : Master),
      s.allows m .w32 true Reg.SAF_CMD.addr →
      s.saf.powered = true →
      s.on Reg.TRP_STAT_EXCURSION = true →
      s.saf.excCheck = none →
      s.on Reg.SAF_STAT_KEY_MAINT = true →
      Nexts (exec (.returnMatrix m) s) (fun t => t.saf.excCheck = some true ∧ t.rd Reg.SAF_CMD_STAT_STATUS = Sta.ok ∧ t.rd Reg.SAF_CMD_STAT_REASON = 0)) ∧
  (∀ (s : State) (ok : Bool) (x : SafExc),
      s.saf.excCheck = some ok →
      s.saf.excM = some x →
      x.until_ ≤ s.saf.checkMAt + minute →
      exec .matrixCheckEnd s = .next ((s.waitTo x.until_).matrixForce)) ∧
  (∀ (s : State) (x : SafExc),
      s.saf.excCheck = some false →
      s.saf.excM = some x →
      s.saf.checkMAt + minute < x.until_ →
      Nexts (exec .matrixCheckEnd s) (fun t => t.saf.excCheck = none ∧ t.saf.excM = some x ∧ t.rd Reg.TRP_STAT_EXCURSION = s.rd Reg.TRP_STAT_EXCURSION)) ∧
  (∀ (s : State) (x : SafExc),
      s.saf.excCheck = some true →
      s.saf.excM = some x →
      s.saf.checkMAt + minute < x.until_ →
      exec .matrixCheckEnd s = .next ((let u := s.waitTo (s.saf.checkMAt + minute)
        let v : State := { u with saf := { u.saf with excCheck := none, excM := none, storeM := none } }
        (((((v.wr Reg.TRP_STAT_EXCURSION 0).wr Reg.TRP_STAT_PLANE_A_OK 1).wr Reg.TRP_STAT_PLANE_B_OK 1).post Un.saf 0x0907 0xFF
          (x.spent u.safClock) 0).safSummary).matrix))) ∧
  (∀ (s : State) (m : Master) (value : Word),
      s.allows m .w32 true Reg.TRP_REQ.addr →
      bits value.toNat 0 8 ≠ s.rd Reg.TRP_REQ_REQ →
      exec (.trpReqWrite m value) s = .next ((((s.answer 0).wr Reg.TRP_REQ_REQ (bits value.toNat 0 8)).post Un.trp 0x0A03 (s.rd Reg.TRP_REQ_REQ) (bits value.toNat 0 8) (masterId m)).matrix)) ∧
  (∀ (s : State) (m : Master) (value : Word),
      s.allows m .w32 true Reg.TRP_FIRST.addr →
      bitAt value.toNat 31 = true →
      Nexts (exec (.firstOutRearm m value) s) (fun t => t.rd Reg.TRP_FIRST_VALID = 0 ∧ t.firstOut = none)) ∧
  (∀ (s : State) (n : Fin 8) (demand : Bool),
      exec (.ftiChange n demand) s = .next ((s.wr Reg.TRP_FTI_LIT (putBit (s.rd Reg.TRP_FTI_LIT) n demand)).matrix)) ∧
  (∀ (s : State) (mV : Nat),
      exec (.fastTripSupplyChange mV) s = .next ((s.wrB Reg.TRP_STAT_GROUP_SUPPLY (decide (18000 ≤ mV))).matrix)) ∧
  (∀ (s : State),
      s.saf.powered = true →
      exec .ctrlHbLost s = .next (((s.waitTo (s.saf.hbAt + 5000000)).wr Reg.SAF_STAT_CTRL_HB_LOST 1).matrix)) ∧
  (∀ (s : State) (n : Fin 8) (failed : Bool) (volts10 : Nat),
      s.saf.powered = true →
      s.sinkDark n = true →
      Nexts (exec (.darkTest n failed volts10) s) (fun t => bitAt (t.rd Reg.TRP_DARK_FAILED) n = (failed || bitAt (s.rd Reg.TRP_DARK_FAILED) n) ∧ Assoc.find? t.saf.darkAt n = some t.safClock ∧ t.frc = (s.waitTo (match Assoc.find? s.saf.darkAt n with | some i => i + 60000000000 | none => 0)).frc))

/-- Barrier frames, island supplies and island commands complete. It rests on R291, R292, R295, R297, R302, R303, R304,
R305, R309, R331, R516. -/
def Obligations.IslandFramesComplete : Prop :=
  (∀ (s : State) (k : Fin 8),
      s.power.running = true →
      s.islFitted k = true →
      Nexts (exec (.barrierFrameSend k) s) (fun t => (let slot := max ((s.island k).txSlot + 1) ((s.frc + 15999) / 10000)
        t.frc = max s.frc (10000 * slot - 6000) ∧
        t.island k = ({ s.island k with sent := ({ s with frc := t.frc } : State).islSend k, sentNo := (s.island k).txCount, txCount := (s.island k).txCount + 1, txSlot := slot, restore := (s.island k).restore - 1 } : Island).timed t.safClock))) ∧
  (∀ (s : State) (k : Fin 8) (good : Bool) (skip : Fin 256) (fld : IslField),
      s.power.running = true →
      s.islFitted k = true →
      (s.island k).alive = false →
      exec (.barrierSlot k good skip fld) s = .next ((let slot := max ((s.island k).rxSlot + 1) ((s.frc + 9999) / 10000)
        (({ s with frc := 10000 * slot } : State).setIsland k { s.island k with rxSlot := slot }).islBadSlots k ((s.island k).badRun + 1)))) ∧
  (∀ (s : State) (k : Fin 8) (good : Bool) (skip : Fin 256) (fld : IslField),
      s.power.running = true →
      s.islFitted k = true →
      (s.island k).alive = true →
      exec (.barrierSlot k good skip fld) s = .next ((let slot := max ((s.island k).rxSlot + 1) ((s.frc + 9999) / 10000)
        let u := (({ s with frc := 10000 * slot } : State).setIsland k { s.island k with rxSlot := slot }).islMeasure k fld.supply
        let x := ({ u.island k with temp := fld.temp, seq := (u.island k).seq + 1 + skip } : Island).measureAo fld.ao
        let v := (u.setIsland k x).outSample
        if good then (v.islGood k (v.islFrame k x)).islDiag k else v.islBadSlots k (x.badRun + 1)))) ∧
  (∀ (s : State) (k : Fin 8),
      (s.island k).alive = true →
      (s.island k).sent ≠ [] →
      exec (.islandFrameReceive k) s = .next (({ s with frc := max s.frc (10000 * (s.island k).txSlot) } : State).islTake k (s.island k).sent)) ∧
  (∀ (s : State) (k : Fin 8),
      (s.island k).alive = true →
      Nexts (exec (.islandWatchdog k) s) (fun t => t.island k = ({ s.island k with ovRun := 0, fsCause := if (s.island k).fs then (s.island k).fsCause else 0, fs := true } : Island).follow.timed t.safClock ∧ t.frc = (s.waitTo ((s.island k).frameAt + 40000)).frc)) ∧
  (∀ (s : State) (k : Fin 8) (supply : Nat),
      (s.island k).alive = false →
      s.islFitted k = true →
      11000 ≤ supply →
      Nexts (exec (.islandSupplyReturn k supply) s) (fun t => (t.island k).alive = true ∧ (t.island k).supply = supply)) ∧
  (∀ (s : State) (k : Fin 8),
      (s.island k).alive = true →
      Nexts (exec (.islandLogicReset k) s) (fun t => (t.island k).alive = false ∧ (t.island k).fs = true ∧ (t.island k).params = [] ∧ (t.island k).cfgOk = false)) ∧
  (∀ (s : State) (k : Fin 8) (supply : Nat),
      (s.island k).alive = true →
      supply < 15000 →
      Nexts (exec (.sagOff k supply) s) (fun t => (t.island k).sagOff = true ∧ (t.island k).unc = true ∧ (t.island k).ready = false ∧ t.frc = (s.waitTo ((s.island k).underAt.getD s.safClock + 1000000)).frc)) ∧
  (∀ (s : State) (k : Fin 8) (supply : Nat),
      (s.island k).alive = true →
      19200 < supply →
      (s.island k).sagOff = true →
      bitAt ((s.island k).par 128) 1 = false →
      Nexts (exec (.restoreReady k supply) s) (fun t => (t.island k).ready = true ∧ (t.island k).warn = false ∧ (t.island k).unc = false ∧ t.frc = (s.waitTo ((s.island k).overAt.getD s.safClock + 100000000)).frc)) ∧
  (∀ (s : State) (k : Fin 8) (supply : Nat),
      (s.island k).alive = true →
      19200 < supply →
      (s.island k).sagOff = false →
      (s.island k).unc = true →
      bitAt ((s.island k).par 128) 1 = false →
      Nexts (exec (.restoreReady k supply) s) (fun t => (t.island k).ready = false ∧ (t.island k).warn = false ∧ (t.island k).unc = false)) ∧
  (∀ (s : State) (m : Master) (k : Fin 8),
      s.allows m .w32 true (Reg.ISL_CMD k).addr →
      s.islFault k = false →
      s.on (Reg.ISL_STAT_SAG_OFF k) = true →
      s.on (Reg.ISL_STAT_RESTORE_READY k) = true →
      Nexts (exec (.islRestore m k) s) (fun t => (t.island k).restore = 3 ∧ t.rd (Reg.ISL_CMD_STAT_STATUS k) = Sta.ok ∧ t.rd (Reg.ISL_CMD_STAT_REASON k) = 0)) ∧
  (∀ (s : State) (m : Master) (k : Fin 8),
      s.allows m .w32 true (Reg.ISL_CMD k).addr →
      Nexts (exec (.islClearCounts m k) s) (fun t => (∀ c : Fin 8, t.rd (Reg.ISL_CH_CNT k c) = 0) ∧ t.rd (Reg.ISL_CMD_STAT_STATUS k) = Sta.ok ∧ t.rd (Reg.ISL_CMD_STAT_REASON k) = 0)) ∧
  (∀ (s : State) (k : Fin 8),
      (List.range 8).any (fun c => ((s.island k).chan c).waiting) = true →
      Nexts (exec (.restoreChannelOn k) s) (fun t => t.island k = ({ (s.island k).restoreOne with restAt := t.safClock } : Island).timed t.safClock ∧ t.frc = (s.waitTo ((s.island k).restAt + 1000000)).frc)) ∧
  (∀ (s : State) (k : Fin 8),
      s.islFitted k = true →
      Nexts (exec (.killLineChange k) s) (fun t => t.island k = ({ s.island k with kill := bitAt (s.rd Reg.TRP_SINK_TRIPPED) (8 + k) } : Island).openNow.timed s.safClock))

/-- Digital channels' samples and switch events complete. It rests on R298, R299, R300, R301, R306, R307, R308. -/
def Obligations.DigitalChannelsComplete : Prop :=
  (∀ (s : State) (k : Fin 8) (smp : List DigSample),
      (s.island k).alive = true →
      Nexts (exec (.inputSample k smp) s) (fun t => t.island k = ((List.range 8).foldl (fun (y : Island) c => match smp[c]? with
            | some d => y.sample c d
            | none => y) { s.island k with smpAt := t.safClock }).timed t.safClock ∧ t.frc = (s.waitTo ((s.island k).smpAt + 10000)).frc)) ∧
  (∀ (s : State) (k c : Fin 8) (uA : Nat),
      (s.island k).alive = true →
      (s.island k).pers c = 2 →
      ((s.island k).chan c).wb = false →
      uA < 350 →
      Nexts (exec (.wireBreak k c uA) s) (fun t => ((t.island k).chan c).wb = true ∧ ((t.island k).chan c).wbAt = t.safClock ∧ t.rd (Reg.ISL_CH_CNT_BREAKS k c) = satInc 16 (s.rd (Reg.ISL_CH_CNT_BREAKS k c)) ∧ t.frc = (s.waitTo (((s.island k).chan c).wbAt + 10000000)).frc)) ∧
  (∀ (s : State) (k c : Fin 8),
      (s.island k).alive = true →
      ((s.island k).chan c).wb = true →
      Nexts (exec (.wireBreakEnd k c) s) (fun t => ((t.island k).chan c).wb = false ∧ ((t.island k).chan c).wbAt = t.safClock ∧ t.frc = (s.waitTo (((s.island k).chan c).wbAt + 10000000)).frc)) ∧
  (∀ (s : State) (k c : Fin 8) (mA : Nat),
      (s.island k).alive = true →
      persDo ((s.island k).pers c) = true →
      ((s.island k).chan c).closed = true →
      Nexts (exec (.doOverload k c mA) s) (fun t => ((t.island k).chan c).overload = true ∧ ((t.island k).chan c).closed = false ∧ ((t.island k).chan c).offAt = t.safClock ∧ t.rd (Reg.ISL_CH_CNT_OVERLOADS k c) = satInc 16 (s.rd (Reg.ISL_CH_CNT_OVERLOADS k c)))) ∧
  (∀ (s : State) (k c : Fin 8) (limits : Bool),
      (s.island k).alive = true →
      ((s.island k).chan c).overload = true →
      ((s.island k).setChan c { (s.island k).chan c with retrying := true }).eff c = true →
      Nexts (exec (.doRetry k c limits) s) (fun t => ((t.island k).chan c).closed = true ∧ ((t.island k).chan c).overload = limits ∧ ((t.island k).chan c).retrying = limits ∧ t.frc = (s.waitTo (((s.island k).chan c).offAt + if limits then 1000000000 else 1005000000)).frc)) ∧
  (∀ (s : State) (k : Fin 8) (total : Nat) (c : Nat),
      (s.island k).alive = true →
      2000 < total →
      (List.range 8).reverse.find? (fun c => ((s.island k).chan c).closed && persDo ((s.island k).pers c)) = some c →
      Nexts (exec (.groupOverloadStep k total) s) (fun t => ((t.island k).chan c).overload = true ∧ ((t.island k).chan c).grouped = true ∧ ((t.island k).chan c).closed = false ∧ (t.island k).gTotal = some ((s.island k).gTotal.getD total) ∧ (t.island k).gAt = t.safClock ∧ t.frc = (s.waitTo ((s.island k).gAt + if (s.island k).gTotal.isSome then 1000000 else 10000000)).frc)) ∧
  (∀ (s : State) (k : Fin 8) (total first : Nat),
      (s.island k).alive = true →
      total ≤ 2000 →
      (s.island k).gTotal = some first →
      Nexts (exec (.groupOverloadStep k total) s) (fun t => (t.island k).gTotal = none ∧ (t.island k).gMask = 0 ∧ (t.island k).gAt = t.safClock))

/-- Analogue channels' samples, limits and flags complete. It rests on R313, R315, R318, R320, R321, R322, R323, R324,
R326, R327, R328, R329. -/
def Obligations.AnalogueChannelsComplete : Prop :=
  (∀ (s : State) (k c : Fin 8) (raw : Nat),
      (s.island k).alive = true →
      (s.island k).pers c = 4 →
      Nexts (exec (.aiSample k c raw) s) (fun t => ((t.island k).chan c).unf = ((s.island k).trimmed c raw).toNat ∧ ((t.island k).chan c).vterm = raw * 50 / 1000000 ∧ ((t.island k).chan c).aiAt = t.safClock ∧ t.frc = (s.waitTo (((s.island k).chan c).aiAt + 100000)).frc)) ∧
  (∀ (s : State) (k c : Fin 8) (raw : Nat),
      (s.island k).alive = true →
      (s.island k).pers c = 4 →
      (s.island k).par (16 * c + 5) = 0 →
      Nexts (exec (.aiSample k c raw) s) (fun t => ((t.island k).chan c).cur = ((s.island k).trimmed c raw).toNat)) ∧
  (∀ (s : State) (k c : Fin 8) (mA : Nat),
      (s.island k).alive = true →
      (s.island k).pers c = 4 →
      bitAt ((s.island k).par (16 * c + 6)) 1 = true →
      ((s.island k).chan c).txOver = false →
      Nexts (exec (.txOverload k c mA) s) (fun t => ((t.island k).chan c).txOver = true ∧ ((t.island k).chan c).txAt = t.safClock)) ∧
  (∀ (s : State) (k c : Fin 8),
      ((s.island k).chan c).txOver = true →
      Nexts (exec (.txOverloadClear k c) s) (fun t => ((t.island k).chan c).txOver = false ∧ ((t.island k).chan c).txAt = t.safClock)) ∧
  (∀ (s : State) (k c : Fin 8) (target : Nat),
      (s.island k).alive = true →
      (s.island k).pers c = 5 →
      target = ((s.island k).aoRequest (if ((s.island k).chan c).buckFor = some (((s.island k).aoRequest s.frc c).getD 0) then (s.waitTo (((s.island k).chan c).buckAt + 1000000)).frc else s.frc) c).getD 0 →
      Nexts (exec (.buckUpdate k c) s) (fun t => ((t.island k).chan c).buck = buckSetting target ((s.island k).chan c).cur ((s.island k).chan c).vterm ∧ ((t.island k).chan c).buckFor = some target ∧ ((t.island k).chan c).buckAt = t.safClock)) ∧
  (∀ (s : State) (k c : Fin 8) (temp : Int),
      (s.island k).alive = true →
      (s.island k).pers c = 5 →
      ((s.island k).chan c).thermal = false →
      1350 < temp →
      Nexts (exec (.thermalTrip k c temp) s) (fun t => ((t.island k).chan c).thermal = true ∧ ((t.island k).chan c).thermAt = s.safClock ∧ ((t.island k).chan c).temp = temp)) ∧
  (∀ (s : State) (k c : Fin 8) (temp : Int),
      (s.island k).alive = true →
      ((s.island k).chan c).thermal = true →
      temp < 1100 →
      Nexts (exec (.thermalResume k c temp) s) (fun t => ((t.island k).chan c).thermal = false ∧ ((t.island k).chan c).temp = temp)) ∧
  (∀ (s : State) (k c : Fin 8) (n : Nat),
      ((s.island k).chan c).defAt = some n →
      s.islFault k = false →
      s.on (Reg.ISL_AN_STAT_COMPLIANCE k c) = false →
      Nexts (exec (.complianceSet k c) s) (fun t => t.on (Reg.ISL_AN_STAT_COMPLIANCE k c) = true ∧ ((t.island k).chan c).compAt = t.safClock ∧ t.frc = (s.waitTo (n + 50000000)).frc)) ∧
  (∀ (s : State) (k c : Fin 8) (n : Nat),
      ((s.island k).chan c).fitAt = some n →
      s.islFault k = false →
      s.on (Reg.ISL_AN_STAT_COMPLIANCE k c) = true →
      Nexts (exec (.complianceClear k c) s) (fun t => t.on (Reg.ISL_AN_STAT_COMPLIANCE k c) = false ∧ t.on (Reg.ISL_AN_STAT_COMP_FAULT k c) = false ∧ t.frc = (s.waitTo (n + 50000000)).frc)) ∧
  (∀ (s : State) (k c : Fin 8),
      s.on (Reg.ISL_AN_STAT_COMPLIANCE k c) = true →
      bits (s.chFail k c) 25 3 ≠ 7 →
      s.on (Reg.ISL_AN_STAT_COMP_FAULT k c) = false →
      (s.island k).aoRow c = 4 →
      Nexts (exec (.compFault k c) s) (fun t => t.on (Reg.ISL_AN_STAT_COMP_FAULT k c) = true ∧ t.frc = (s.waitTo (((s.island k).chan c).compAt + ((s.island k).chan c).compOff + compTimeout (bits (s.chFail k c) 25 3))).frc)) ∧
  (∀ (s : State) (k c : Fin 8) (vterm : Nat) (opened : Bool),
      (s.island k).alive = true →
      (s.island k).pers c = 6 →
      (opened || decide (vterm < 7000)) = !((s.island k).chan c).stopped →
      Nexts (exec (.loopSideStop k c vterm opened) s) (fun t => ((t.island k).chan c).stopped = !((s.island k).chan c).stopped ∧ ((t.island k).chan c).vterm = vterm)) ∧
  (∀ (s : State) (k c : Fin 8) (n : Nat),
      ((s.island k).chan c).agrAt = some n →
      s.on (Reg.ISL_AN_STAT_READBACK k c) = true →
      Nexts (exec (.aoReadbackClear k c) s) (fun t => t.on (Reg.ISL_AN_STAT_READBACK k c) = false ∧ t.frc = (s.waitTo (n + 20000000)).frc)) ∧
  (∀ (s : State) (m : Master) (k c : Fin 8) (value : Word),
      s.allows m .w32 true (Reg.ISL_AN_TRIM k c).addr →
      s.chAnalog k c = true →
      s.on Reg.SCN_STAT_FORCE_PERMIT = true →
      trimOk value.toNat = true →
      s.keyOpen k c = false →
      Nexts (exec (.trimWrite m k c value) s) (fun t => t.rd (Reg.ISL_AN_TRIM k c) = value.toNat))

/-- The front keys and the keyswitch complete. It rests on R332, R504, R507. -/
def Obligations.FrontKeysComplete : Prop :=
  (∀ (s : State) (k c : Fin 8) (span : Bool),
      s.power.running = true →
      s.keyMaint = true →
      s.key = none →
      s.nbPanel = true →
      s.nbStrip = true →
      s.chAnalog k c = true →
      s.islFault k = false →
      Nexts (exec (.keyMenu k c span) s) (fun t => t.key = some { island := k, ch := c, span, before := s.rd (Reg.ISL_AN_TRIM k c), pressAt := s.frc } ∧ t.on (Reg.ISL_AN_STAT_KEY_SESSION k c) = true)) ∧
  (∀ (s : State) (y : KeySession),
      s.key = some y →
      y.island < 8 →
      y.ch < 8 →
      y.span = true →
      bits (s.rd (Reg.ISL_AN_TRIM y.island y.ch)) 16 16 < 0xFFFF →
      trimOk ((bits (s.rd (Reg.ISL_AN_TRIM y.island y.ch)) 16 16 + 1) * 2 ^ 16 + bits (s.rd (Reg.ISL_AN_TRIM y.island y.ch)) 0 16) = true →
      Nexts (exec .keyUp s) (fun t => t.rd (Reg.ISL_AN_TRIM y.island y.ch) = s.rd (Reg.ISL_AN_TRIM y.island y.ch) + 2 ^ 16 ∧ t.key = some { y with pressAt := s.frc })) ∧
  (∀ (s : State) (y : KeySession),
      s.key = some y →
      y.island < 8 →
      y.ch < 8 →
      y.span = true →
      0 < bits (s.rd (Reg.ISL_AN_TRIM y.island y.ch)) 16 16 →
      trimOk ((bits (s.rd (Reg.ISL_AN_TRIM y.island y.ch)) 16 16 - 1) * 2 ^ 16 + bits (s.rd (Reg.ISL_AN_TRIM y.island y.ch)) 0 16) = true →
      Nexts (exec .keyDown s) (fun t => t.rd (Reg.ISL_AN_TRIM y.island y.ch) + 2 ^ 16 = s.rd (Reg.ISL_AN_TRIM y.island y.ch) ∧ t.key = some { y with pressAt := s.frc })) ∧
  (∀ (s : State) (y : KeySession),
      s.key = some y →
      y.island < 8 →
      y.ch < 8 →
      Nexts (exec .keyEnter s) (fun t => t.key = none ∧ t.on (Reg.ISL_AN_STAT_KEY_SESSION y.island y.ch) = false ∧ t.rd (Reg.ISL_AN_TRIM y.island y.ch) = s.rd (Reg.ISL_AN_TRIM y.island y.ch))) ∧
  (∀ (s : State) (y : KeySession),
      s.key = some y →
      y.island < 8 →
      y.ch < 8 →
      Nexts (exec .keyEsc s) (fun t => t.key = none ∧ t.on (Reg.ISL_AN_STAT_KEY_SESSION y.island y.ch) = false ∧ t.rd (Reg.ISL_AN_TRIM y.island y.ch) = y.before % 2 ^ 32)) ∧
  (∀ (s : State) (y : KeySession),
      s.key = some y →
      y.island < 8 →
      y.ch < 8 →
      Nexts (exec .keySessionTimeout s) (fun t => t.key = none ∧ t.on (Reg.ISL_AN_STAT_KEY_SESSION y.island y.ch) = false ∧ t.rd (Reg.ISL_AN_TRIM y.island y.ch) = y.before % 2 ^ 32 ∧ t.frc = max s.frc (y.pressAt + 600000000000))) ∧
  (∀ (s : State) (safety : Bool),
      s.power.running = true →
      Nexts (exec (.keyswitchChange true safety) s) (fun t => t.keyMaint = true ∧ t.usb = s.usb ∧ t.saf.keyMaint = safety ∧ t.on Reg.SCN_STAT_FORCE_PERMIT = true)) ∧
  (∀ (s : State) (safety : Bool),
      Nexts (exec (.keyswitchChange false safety) s) (fun t => t.keyMaint = false ∧ t.usb = false ∧ t.saf.keyMaint = safety ∧ t.key = none)) ∧
  (∀ (s : State),
      s.power.running = true →
      s.keyMaint = true →
      Nexts (exec .usbSessionOpen s) (fun t => t = { s with usb := true }))

/-- CAN FD channels' frames, errors and commands complete. It rests on R336, R339, R340, R341, R343, R344, R345, R346,
R347, R348, R350, R516. -/
def Obligations.CanChannelsComplete : Prop :=
  (∀ (s : State) (c : Fin 8) (x : CanFrame),
      s.canState c = canMonitor →
      s.fltFirst c 0 4 x = none →
      s.fltFirst c 4 60 x = none →
      Nexts (exec (.canFrameReceive c x) s) (fun t => t.rd (Reg.CAN_LOST_FILT_MISS c) = satInc 16 (s.rd (Reg.CAN_LOST_FILT_MISS c)))) ∧
  (∀ (s : State) (c : Fin 8) (x : CanFrame) (f : Nat),
      s.canState c = canMonitor →
      s.fltFirst c 0 4 x = none →
      s.fltFirst c 4 60 x = some f →
      s.leads = true →
      exec (.canFrameReceive c x) s = .next ((s.wake (.can c)).canRxTake c f x)) ∧
  (∀ (s : State) (m : Master) (c : Fin 8) (value : Word),
      s.allows m .w32 true (Reg.CAN_HP_ACK c).addr →
      value.toNat % 2 = 1 →
      0 < s.rd (Reg.CAN_HP_STAT_COUNT c) →
      Nexts (exec (.canHpAck m c value) s) (fun t => t.rd (Reg.CAN_HP_STAT_COUNT c) + 1 = s.rd (Reg.CAN_HP_STAT_COUNT c) ∧ t.rd (Reg.CAN_HP_STAT_HEAD c) = (s.rd (Reg.CAN_HP_STAT_HEAD c) + 1) % 4)) ∧
  (∀ (s : State) (c : Fin 8) (u : State),
      s.canMaySend c = true →
      s.txReady (s.canEvq c) = true →
      u = s.headWait (s.canEvq c) →
      u.canCheck c (u.txEntry (s.canEvq c)) = 0 →
      u.canEventFits c (u.txEntry (s.canEvq c)) = true →
      Nexts (exec (.canTxStart c .event) s) (fun t => (t.canCh c).flight = some { queue := s.canEvq c, stamp := u.stamp, attempts := (match Assoc.find? (s.canCh c).tried (s.canEvq c) with | some x => x.1 + 1 | none => 1) } ∧ t.regs = s.regs ∧ t.frc = u.frc)) ∧
  (∀ (s : State) (c : Fin 8) (f : Flight),
      (s.canCh c).flight = some f →
      Nexts (exec (.canTxComplete c .acked) s) (fun t => (t.canCh c).flight = none)) ∧
  (∀ (s : State) (c : Fin 8) (f : Flight) (u : State),
      (s.canCh c).flight = some f →
      bitAt (le (s.txEntry f.queue) 0 1) 4 = false →
      f.window = false →
      u = s.setCanCh c { s.canCh c with flight := none, tried := Assoc.insert (s.canCh c).tried f.queue (f.attempts, f.stamp) } →
      u.canEventFits c (s.txEntry f.queue) = true →
      Nexts (exec (.canTxComplete c .lostArb) s) (fun t => (t.canCh c).flight = some { f with attempts := f.attempts + 1, stamp := s.stamp })) ∧
  (∀ (s : State) (c : Fin 8),
      s.canState c = canActive →
      256 ≤ s.rd (Reg.CAN_ERRCNT_TEC c) →
      Nexts (exec (.busOff c) s) (fun t => t.canState c = (if s.canAuto c then canRecovering else canBusOff) ∧ t.rd (Reg.CAN_STAT_ERR_STATE c) = 2 ∧ (t.canCh c).flight = none ∧ t.rd (Reg.CAN_ERRFRM_BUS_OFFS c) = satInc (Reg.CAN_ERRFRM_BUS_OFFS c).width (s.rd (Reg.CAN_ERRFRM_BUS_OFFS c)))) ∧
  (∀ (s : State) (c : Fin 8),
      s.canState c = canRecovering →
      Nexts (exec (.canRecovered c) s) (fun t => t.canState c = (if s.inControl then canActive else canMonitor) ∧ t.rd (Reg.CAN_ERRCNT_TEC c) = 0 ∧ t.rd (Reg.CAN_ERRCNT_REC c) = 0 ∧ t.frc = max s.frc ((s.canCh c).recAt + 1408000000 / s.canNrate c))) ∧
  (∀ (s : State) (m : Master) (c : Fin 8),
      s.allows m .w32 true (Reg.CAN_CMD c).addr →
      s.role ≠ 3 →
      s.canMode c ≠ 0 →
      s.canState c = canBusOff →
      Nexts (exec (.canBusOn m c) s) (fun t => t.canState c = canRecovering ∧ t.rd (Reg.CAN_CMD_STAT_STATUS c) = Sta.ok ∧ t.rd (Reg.CAN_CMD_STAT_REASON c) = 0)) ∧
  (∀ (s : State) (m : Master) (c : Fin 8),
      s.allows m .w32 true (Reg.CAN_CMD c).addr →
      s.role ≠ 3 →
      s.canMode c ≠ 0 →
      Nexts (exec (.canClearCounts m c) s) (fun t => t.rd (Reg.CAN_LOST c) = 0 ∧ t.rd (Reg.CAN_ERRFRM c) = 0 ∧ t.rd (Reg.CAN_TT_MISSED c) = 0 ∧ t.rd (Reg.CAN_CMD_STAT_STATUS c) = Sta.ok)) ∧
  (∀ (s : State) (c : Fin 8),
      s.canState c = canActive →
      Nexts (exec (.canErrorFrame c .transmit) s) (fun t => t.rd (Reg.CAN_ERRFRM_ERRORS c) = satInc 16 (s.rd (Reg.CAN_ERRFRM_ERRORS c)) ∧ t.rd (Reg.CAN_ERRCNT_TEC c) = min (s.rd (Reg.CAN_ERRCNT_TEC c) + 8) 511)) ∧
  (∀ (s : State) (c : Fin 8) (basic : Fin 16) (win : Fin 64),
      s.canTtMay c basic win = true →
      (s.canCh c).flight.isSome = true →
      Nexts (exec (.ttWindowStart c basic win) s) (fun t => t = (s.canToWindow c basic win).canShowWindow c basic win ∧ t.on (Reg.CAN_STAT_TT_RUN c) = true ∧ t.rd (Reg.CAN_TT_BASIC c) = basic.val ∧ t.rd (Reg.CAN_TT_WINDOW c) = win.val)) ∧
  (∀ (s : State) (c : Fin 8) (basic : Fin 16) (win : Fin 64) (u : State) (q n : Nat),
      s.canTtMay c basic win = true →
      u = (s.canToWindow c basic win).canShowWindow c basic win →
      q = u.canTtqBase c + le (u.canWindow c basic win) 7 1 →
      u.canEligible c q = true →
      (u.canCh c).flight = none →
      u.canCheck c (u.txEntry q) = 0 →
      u.canLatest c basic win (u.txEntry q) = some n →
      u.canSince c (u.canStart c basic win) ≤ n →
      exec (.ttWindowStart c basic win) s = .next ((u.setCanCh c { u.canCh c with winDone := some (u.t1 - u.canSince c (u.canStart c basic win)) }).canLaunch c q true)) ∧
  (∀ (s : State) (c : Fin 8) (basic : Fin 16) (win : Fin 64),
      s.canTtMay c basic win = true →
      s.canEligible c (s.canTtqBase c + le (s.canWindow c basic win) 7 1) = true →
      (s.canCh c).flight = none →
      Nexts (exec (.ttWindowMissed c basic win) s) (fun t => t.rd (Reg.CAN_TT_MISSED c) = satInc 16 (s.rd (Reg.CAN_TT_MISSED c)) ∧ t.rd (Reg.CAN_TT_BASIC c) = basic.val ∧ t.rd (Reg.CAN_TT_WINDOW c) = win.val)) ∧
  (∀ (s : State) (c : Fin 8),
      s.canState c = canJoining →
      s.inControl = true →
      Nexts (exec (.canChannelActive c) s) (fun t => t.canState c = canActive ∧ (t.canCh c).known = true ∧ t.frc = (if (s.canCh c).atK then s.frc else max s.frc ((s.canCh c).lockAt + 100000000)))) ∧
  (∀ (s : State) (m : Master) (c : Fin 8) (f : Fin 64) (which : CanFlt) (value : Word) (a : Nat),
      a = (match which with | .id => (Reg.CAN_FLT_ID c f).addr | .mask => (Reg.CAN_FLT_MASK c f).addr) →
      s.allows m .w32 true a →
      s.canRec c ≠ [] →
      s.inControl = true →
      Nexts (exec (.canFilterWrite m c f which value) s) (fun t => t.fileAt a % 2 ^ 29 = value.toNat % 2 ^ 29 ∧ (t.canCh c).fltOld.getLast?.map (fun o => (o.addr, o.old, o.at_)) = some (a, s.fileAt a, s.frc)))

/-- Ethernet ports' frames and links complete. It rests on R356, R357, R358, R359, R360, R361, R362, R363. -/
def Obligations.EthernetPortsComplete : Prop :=
  (∀ (s : State) (p : Fin 6) (f : List Byte),
      s.ethLink p = true →
      Nexts (exec (.ethFrameReceive p false f) s) (fun t => t.rd (Reg.ETH_ERRCNT_ERRORS p) = satInc 16 (s.rd (Reg.ETH_ERRCNT_ERRORS p)))) ∧
  (∀ (s : State) (p : Fin 6) (f : List Byte),
      s.ethLink p = true →
      60 ≤ f.length →
      f.length ≤ 1518 →
      be f 12 4 ≠ 0x88080001 →
      s.ethJoined p = true →
      s.ethRow p f = 5 →
      p.val ≠ 5 →
      ethGroup f = false →
      exec (.ethFrameReceive p true f) s = .next ((s.setEthPort p { s.ethPort p with lastRow := 5 }).ethStore p (b2n (ethTagged f) + b2n (ethGroup f) * 2 + b2n (s.ethFlag p 3 && f.take 6 == s.stationMac p) * 4) 0 f)) ∧
  (∀ (s : State) (p : Fin 6) (u : State),
      s.ethJoined p = true →
      s.mayStart = true →
      (s.ethPort p).flight = none →
      s.txReady (s.ethTxq p) = true →
      u = s.headWait (s.ethTxq p) →
      u.ethCheck p (u.txEntry (s.ethTxq p)) = 0 →
      Nexts (exec (.ethTxStart p) s) (fun t => (t.ethPort p).flight = some { queue := s.ethTxq p, stamp := u.stamp } ∧ (t.ethPort p).sent.map (fun f => decide (60 ≤ f.length)) = [true] ∧ t.frc = u.frc)) ∧
  (∀ (s : State) (p : Fin 6) (f : Flight),
      (s.ethPort p).flight = some f →
      Nexts (exec (.ethTxComplete p) s) (fun t => (t.ethPort p).flight = none)) ∧
  (∀ (s : State) (p : Fin 6),
      s.ethLink p = false →
      s.ethOn p = true →
      p.val ≠ 5 →
      Nexts (exec (.linkUp p) s) (fun t => t.ethLink p = true)) ∧
  (∀ (s : State) (p : Fin 6) (unable : Bool),
      s.ethLink p = true →
      Nexts (exec (.linkDown p unable) s) (fun t => t.ethLink p = false ∧ (t.ethPort p).flight = none)) ∧
  (∀ (s : State),
      s.ethOn 5 = true →
      s.ethLink 5 = true →
      s.ethJoined 5 = true →
      Nexts (exec .igmpReport s) (fun t => (t.ethPort 5).igmp = (s.ethPort 5).igmp + ((List.range 8).filter (fun g => s.portRec 3 g != [])).length)) ∧
  (∀ (s : State) (m : Master) (value : Word),
      s.allows m .w32 true Reg.ETH_MAINT.addr →
      isCore m = true →
      bits value.toNat 24 8 = 0xA5 →
      bits value.toNat 0 12 ≤ 3600 →
      Nexts (exec (.ethMaint m value) s) (fun t => t.rd Reg.ETH_MAINT_SECONDS = bits value.toNat 0 12 ∧ t.maintAt = s.frc ∧ t.on Reg.SCN_STAT_FORCE_PERMIT = (s.keyMaint || decide (bits value.toNat 0 12 ≠ 0)))) ∧
  (∀ (s : State),
      s.on Reg.ETH_MAINT_SECONDS = true →
      Nexts (exec .maintSessionExpire s) (fun t => t.rd Reg.ETH_MAINT_SECONDS = 0 ∧ t.on Reg.SCN_STAT_FORCE_PERMIT = s.keyMaint ∧ t.frc = max s.frc (s.maintAt + s.rd Reg.ETH_MAINT_SECONDS * 1000000000))) ∧
  (∀ (s : State),
      s.locked = true →
      Nexts (exec .ethJoinPoint s) (fun t => t.rd Reg.ETH_STAT_JOINED = ((List.range 6).map (fun p => if s.ethOn p then 2 ^ p else 0)).sum ∧ t.frc = max s.frc (300000000 - s.rd Reg.PWR_BOOT_RESET * 1000)))

/-- Time domains, classes and pulses complete. It rests on R365, R367, R368, R369, R370, R371, R372, R373, R374. -/
def Obligations.TimeCommandsComplete : Prop :=
  (∀ (s : State) (d : Fin 2) (a : Announce),
      s.locked = true →
      a.version = 2 →
      a.minor ≤ 1 →
      a.domain = s.domNum d →
      a.ptpScale = true →
      s.ptpPort d a.master.port = true →
      a.master.steps < 255 →
      Nexts (exec (.ptpAnnounce d a) s) (fun t => { m := a.master, at_ := s.frc, gap := announceGap a.logInterval } ∈ (t.dom d).masters)) ∧
  (∀ (s : State) (d : Fin 2) (y : Sync) (g : PtpMaster),
      (s.dom d).selected = some g →
      y.version = 2 →
      y.minor ≤ 1 →
      y.domain = s.domNum d →
      s.ptpPort d y.port = true →
      y.identity = g.identity →
      -7 ≤ y.logSync →
      y.logSync ≤ 1 →
      exec (.ptpSync d y) s = .next ((s.domSync d y).c1Update)) ∧
  (∀ (s : State) (d : Fin 2) (t1 t2 t3 t4 : Int),
      (s.dom d).selected.isSome = true →
      Nexts (exec (.delayReq d (.measured t1 t2 t3 t4)) s) (fun t => t.rd (Reg.TIM_DOM_DELAY d) = (clampI 0 (2 ^ 32 - 1) (((t2 - t1) + (t4 - t3)) / 2)).toNat ∧ (t.dom d).hasDelay = true)) ∧
  (∀ (s : State) (d : Fin 2) (u : State),
      s.domState d = 1 ∨ s.domState d = 2 →
      u = { s with frc := max s.frc ((s.dom d).lastSync + s.tcSyncLoss) } →
      Nexts (exec (.domainHoldover d) s) (fun t => t = (u.post Un.tim 0x0D04 d ((u.frc - (s.dom d).lastSync) / 1000000) 0).domEnter d 3 ∧ t.domState d = 3)) ∧
  (∀ (s : State) (d : Fin 2) (g : PtpMaster) (h : PtpHeard),
      (s.dom d).selected = some g →
      (s.dom d).masters = [h] →
      h.m.identity = g.identity →
      h.m.port = g.port →
      Nexts (exec (.announceTimeout d) s) (fun t => (t.dom d).selected = none ∧ (t.dom d).masters = [] ∧ t.domState d = 0 ∧ t.frc = max s.frc h.until_)) ∧
  (∀ (s : State) (m : Master),
      s.allows m .w32 true Reg.TIM_CMD.addr →
      s.rd Reg.SCN_STAT_MODE = 0 →
      s.on Reg.SCN_STAT_FORCE_PERMIT = true →
      s.domState s.tcPrefer = 2 →
      s.tcPrefer < 2 →
      s.c1Paired = false →
      exec (.timRealign m) s = .next ((((s.answer 0).cmdStat Reg.TIM_CMD_STAT_STATUS Reg.TIM_CMD_STAT_REASON 0).c1Step s.tcPrefer 1).canRealign)) ∧
  (∀ (s : State),
      s.locked = true →
      s.tcPpsIn ≠ 0 →
      Nexts (exec .ppsInEdge s) (fun t => t.tim.ppsLast = some s.frc ∧ t.rd Reg.TIM_PPS = sat32 (fromSecond (s.t1 - s.tcPpsDelay)))) ∧
  (∀ (s : State),
      s.on Reg.TIM_STAT_PPS_OK = true →
      Nexts (exec .ppsInTimeout s) (fun t => t.on Reg.TIM_STAT_PPS_OK = false ∧ t.frc = max s.frc (s.tim.ppsLast.getD s.frc + 1001000000))) ∧
  (∀ (s : State),
      s.tcPpsOut = 1 →
      s.on Reg.TIM_STAT_C1_VALID = true →
      Nexts (exec .ppsOutEdge s) (fun t => t.tim.ppsOut = s.tim.ppsOut + 1)) ∧
  (∀ (s : State) (m : Master),
      s.allows m .w32 false Reg.TIM_C1_SEC_LO.addr →
      Nexts (exec (.classTimeCapture m .w32 false) s) (fun t => t.resp = { status := Sta.ok, data := secsOf s.t1 % 2 ^ 32 } ∧ (Tab.get t.latch (latchKey m Reg.TIM_C1_SEC_HI.addr)).toNat = secsOf s.t1 / 2 ^ 32 % 2 ^ 32 ∧ (Tab.get t.latch (latchKey m Reg.TIM_C1_NS.addr)).toNat = nsOf s.t1 % 2 ^ 32)) ∧
  (∀ (s : State) (u : State),
      s.power.running = true →
      u = { s with frc := max s.frc (s.tim.backAt + 1000000000) } →
      Nexts (exec .c2BackupRefresh s) (fun t => t.rd64 Reg.PTR_C2SEC_LO Reg.PTR_C2SEC_HI = secsOf u.t2 ∧ t.power.c2frac = nsOf u.t2 * 32768 / 1000000000 ∧ t.frc = u.frc)) ∧
  (∀ (s : State),
      s.on Reg.TIM_STAT_C1_SLEWING = true →
      Nexts (exec (.slewingEnd false) s) (fun t => t.on Reg.TIM_STAT_C1_SLEWING = false ∧ t.frc = max s.frc (s.tim.c1.cAt + s.tim.c1.c.natAbs * 10000))) ∧
  (∀ (s : State),
      s.on Reg.TIM_STAT_C2_SLEWING = true →
      Nexts (exec (.slewingEnd true) s) (fun t => t.on Reg.TIM_STAT_C2_SLEWING = false ∧ t.frc = max s.frc (s.tim.c2.cAt + s.tim.c2.c.natAbs * 1000)))

/-- Serial ports and Stairway links complete. It rests on R379, R380, R381, R382, R384, R385, R386, R387, R389, R390. -/
def Obligations.FieldLinksComplete : Prop :=
  (∀ (s : State) (p : Fin 8) (x : SerMsg),
      s.locked = true →
      s.serMode p ≠ 0 →
      x.bytes.take (s.serMaxLen p) ≠ [] →
      s.follows = true →
      Nexts (exec (.serMessageReceive p x) s) (fun t => t.ban.held = s.ban.held ++ [(s.serRxq p, serRxEntry (x.bytes.take (s.serMaxLen p)).length p (s.serFlags p x (x.bytes.take (s.serMaxLen p))) 0 s.stamp 0 (x.bytes.take (s.serMaxLen p)))])) ∧
  (∀ (s : State) (p : Fin 8) (x : SerMsg),
      s.locked = false →
      Nexts (exec (.serMessageReceive p x) s) (fun t => t.rd (Reg.SER_ERR_ERRORS p) = min (s.rd (Reg.SER_ERR_ERRORS p) + (x.bytes.length + x.stray)) 0xFFFF)) ∧
  (∀ (s : State) (p : Fin 8) (u : State),
      s.on (Reg.SER_STAT_DRIVER p) = true →
      s.mayStart = true →
      s.serFlight p = none →
      s.txReady (s.serTxq p) = true →
      u = s.headWait (s.serTxq p) →
      u.serCheck p (u.txEntry (s.serTxq p)) = 0 →
      Nexts (exec (.serTxStart p) s) (fun t => t.serFlight p = some { queue := s.serTxq p, stamp := (u.rtuSilence p).stamp } ∧ t.on (Reg.SER_STAT_TX_BUSY p) = true ∧ t.frc = (u.rtuSilence p).frc)) ∧
  (∀ (s : State) (p : Fin 8) (sent : Nat) (f : Flight),
      s.serFlight p = some f →
      Nexts (exec (.serTxComplete p sent false) s) (fun t => t.serFlight p = none ∧ t.on (Reg.SER_STAT_TX_BUSY p) = false)) ∧
  (∀ (s : State) (l : Fin 8),
      s.rioMay l = true →
      (s.rioLink l).polled ≠ some ((Assoc.find? s.scn.tasks (s.rioTask l)).getD {}).start →
      s.frc ≤ s.rioPollAt l + 100 →
      Nexts (exec (.pollSend l) s) (fun t => (t.rioLink l).cycle = some ((s.taskCycle (s.rioTask l) + 1) % 2 ^ 32) ∧ (t.rioLink l).ret = none ∧ t.frc = max s.frc (s.rioPollAt l) ∧ (t.rioLink l).sentAt = t.frc)) ∧
  (∀ (s : State) (l : Fin 8) (fcsGood : Bool) (rtt : Nat) (payload : List Byte) (n : Nat),
      (s.rioLink l).cycle = some n →
      (s.rioLink l).polled = some ((Assoc.find? s.scn.tasks (s.rioTask l)).getD {}).start →
      rioAnswers fcsGood payload 1 n = true →
      rtt + 2000 ≤ s.rioLead l * 1000 →
      Nexts (exec (.pollReturn l fcsGood rtt payload) s) (fun t => (t.rioLink l).cycle = none ∧ (t.rioLink l).ret = some payload ∧ t.rd (Reg.RIO_RTT l) = rtt % 2 ^ (Reg.RIO_RTT l).width ∧ t.frc = max s.frc ((s.rioLink l).sentAt + rtt))) ∧
  (∀ (s : State) (l : Fin 8) (fcsGood : Bool) (payload : List Byte) (n : Nat),
      (s.rioLink l).outWait = some n →
      rioAnswers fcsGood payload 2 n = true →
      Nexts (exec (.outputReturn l fcsGood payload) s) (fun t => (t.rioLink l).outWait = none ∧ t.rd (Reg.RIO_OUTMAP l) = le payload 12 4)) ∧
  (∀ (s : State) (l : Fin 8) (fcsGood : Bool) (payload : List Byte) (n : Nat),
      (s.rioLink l).idWait = some n →
      rioAnswers fcsGood payload 3 n = true →
      exec (.identReturn l fcsGood payload) s = .next ((let u := s.setRioLink l { s.rioLink l with idWait := none }
        ((List.range (s.rioN l)).foldl (fun u a => u.rioIdent l payload n a) u).rioCount l))) ∧
  (∀ (s : State) (l : Fin 8) (payload : List Byte),
      s.rd (Reg.RIO_LINK_STAT_STATE l) = rioTurnaround →
      s.on (Reg.RIO_LINK_STAT_LINK_UP l) = true →
      bitAt (le payload 3 1) 7 = false →
      Nexts (exec (.stairwayTurnaround l payload) s) (fun t => (t.rioLink l).turned = (s.rioLink l).turned + 1 ∧ (t.rioLink l).sent = payload.take 3 ++ leBytes 1 (le payload 3 1 + 128) ++ payload.drop 4)) ∧
  (∀ (s : State) (l : Fin 8) (up : Bool),
      s.on (Reg.RIO_LINK_STAT_LINK_UP l) ≠ up →
      (up = true → s.rioOn l = true) →
      Nexts (exec (.stairwayLinkChange l up) s) (fun t => t.on (Reg.RIO_LINK_STAT_LINK_UP l) = up))

/-- Pigeonhole channels and queues complete. It rests on R395, R396, R398, R399, R400, R401, R405, R406, R407, R408,
R409. -/
def Obligations.PigeonAndQueueCommandsComplete : Prop :=
  (∀ (s : State) (m : Master) (ch : Fin 32) (value : Word),
      s.allows m .w32 true (Reg.PGN_TX_POST ch).addr →
      s.pgnUsed ch = true →
      s.pgnSender ch = masterId m →
      bits value.toNat 0 8 ≤ 64 →
      bits value.toNat 16 16 = 0 →
      ch ≠ 30 →
      s.follows = false →
      (s.chan ch).msgs.length < s.pgnDepth ch →
      Nexts (exec (.pgnTxPost m ch value) s) (fun t => (t.chan ch).msgs.map (fun x => (x.len, x.kind, x.param, x.payload)) = (s.chan ch).msgs.map (fun x => (x.len, x.kind, x.param, x.payload)) ++
          [(bits value.toNat 0 8, bits value.toNat 8 8, s.rd (Reg.PGN_TX_PARAM ch), (s.pgnStagedBytes ch).take (bits value.toNat 0 8))])) ∧
  (∀ (s : State) (m : Master) (ch : Fin 32) (x : PgnMsg) (l : List PgnMsg),
      s.allows m .w32 false (Reg.PGN_RX_HDR ch).addr →
      s.pgnUsed ch = true →
      s.pgnReceiver ch = masterId m →
      m ≠ .debug →
      (s.chan ch).msgs = x :: l →
      x.visible = true →
      Nexts (exec (.pgnRxHdrRead m ch) s) (fun t => t.resp.data = pgnHdrWord x ∧ (t.chan ch).msgs = { x with opened := true } :: l)) ∧
  (∀ (s : State) (m : Master) (ch : Fin 32) (value : Word),
      s.allows m .w32 true (Reg.PGN_RX_ACK ch).addr →
      s.pgnUsed ch = true →
      s.pgnReceiver ch = masterId m →
      value.toNat % 2 = 1 →
      (s.chan ch).head?.isSome = true →
      Nexts (exec (.pgnRxAck m ch value) s) (fun t => (t.chan ch).msgs = (s.chan ch).msgs.drop 1 ∧ t.on (Reg.PGN_CH_STAT_TIMEOUT ch) = false)) ∧
  (∀ (s : State) (m : Master) (ch : Fin 32),
      s.allows m .w32 true (Reg.PGN_TX_CMD ch).addr →
      s.pgnUsed ch = true →
      s.pgnSender ch = masterId m →
      Nexts (exec (.withdraw m ch) s) (fun t => (t.chan ch).msgs = (s.chan ch).msgs.filter (fun x => x.opened))) ∧
  (∀ (s : State) (ch : Fin 32) (x : PgnMsg),
      (s.chan ch).head? = some x →
      s.on (Reg.PGN_CH_STAT_TIMEOUT ch) = false →
      s.pgnReceiver ch ≤ 4 →
      Nexts (exec (.pgnTimeout ch) s) (fun t => t.on (Reg.PGN_CH_STAT_TIMEOUT ch) = true ∧ (t.chan ch).since = t.frc ∧ (t.chan ch).msgs = (s.chan ch).msgs ∧ t.frc = max s.frc (s.pgnDue ch x))) ∧
  (∀ (s : State) (m : Master) (ch : Fin 32),
      s.allows m .w32 true (Reg.PGN_CH_STAT ch).addr →
      s.pgnUsed ch = true →
      s.pgnSender ch = masterId m →
      Nexts (exec (.pgnTimeoutClear m ch) s) (fun t => t.on (Reg.PGN_CH_STAT_TIMEOUT ch) = false)) ∧
  (∀ (s : State) (m : Master) (q : Fin 64) (value : Word),
      s.allows m .w32 true (Reg.QUE_PI q).addr →
      s.queUsed q = true →
      s.queProducer q = masterId m →
      idxDiff value.toNat (s.quePi q) ≠ 0 →
      idxDiff value.toNat (s.quePi q) ≤ 2 ^ s.queDepth q - s.queFill q →
      Nexts (exec (.quePiWrite m q value) s) (fun t => t.quePi q = value.toNat ∧ t.rd (Reg.QUE_STAT_LAST q) = Sta.ok)) ∧
  (∀ (s : State) (m : Master) (q : Fin 64) (value : Word),
      s.allows m .w32 true (Reg.QUE_DI q).addr →
      s.queUsed q = true →
      s.queRound q = true →
      s.queConsumer q = masterId m →
      idxDiff value.toNat (s.queDi q) ≠ 0 →
      idxDiff value.toNat (s.queDi q) ≤ s.queWaiting q →
      Nexts (exec (.queDiWrite m q value) s) (fun t => t.queDi q = value.toNat)) ∧
  (∀ (s : State) (m : Master) (q : Fin 64) (value : Word),
      s.allows m .w32 true (Reg.QUE_CI q).addr →
      s.queUsed q = true →
      s.queRound q = false →
      s.queConsumer q = masterId m →
      idxDiff value.toNat (s.queCi q) ≤ idxDiff (s.queRi q) (s.queCi q) →
      Nexts (exec (.queCiWrite m q value) s) (fun t => t.queCi q = value.toNat)) ∧
  (∀ (s : State) (m : Master) (off : Fin 0x400000) (bs : List Byte) (q : Nat),
      s.issued m = true →
      s.reach m (poolBase + off.val) = true →
      [1, 2, 4, 8].contains bs.length = true →
      (poolBase + off.val) % bs.length = 0 →
      s.ringAt (poolBase + off.val) = some q →
      (if s.consumerOwns q ((poolBase + off.val - s.ringAddr q) / 2 ^ s.queEsize q) then s.queConsumer q else s.queProducer q) = masterId m →
      poolBase + off.val + bs.length ≤ s.ringAddr q + 2 ^ s.queEsize q * ((poolBase + off.val - s.ringAddr q) / 2 ^ s.queEsize q + 1) →
      exec (.queuePoolWrite m off bs) s = .next ((s.answer 0).setBytes (poolBase + off.val) bs))

/-- The Guestbook's writer completes. It rests on R412, R413, R414, R415, R416, R417, R418, R420, R421, R422. -/
def Obligations.GuestbookCommandsComplete : Prop :=
  (∀ (s : State) (e : GbEvent) (l : List GbEvent),
      s.gb.writing = none →
      s.gb.clearing = none →
      s.gb.anchors = e :: l →
      exec .gbEvent s = .next (({ s with gb := { s.gb with anchors := l, writeAt := e.at_ } } : State).gbNeed (s.gbRecOf e 0 true false))) ∧
  (∀ (s : State) (e : GbEvent) (l : List GbEvent) (rs : List GbRec),
      s.gb.writing = none →
      s.gb.clearing = none →
      s.gb.anchors = [] →
      s.gb.queue = e :: l →
      gbTryMerge e s.gb.records = some rs →
      Nexts (exec .gbEvent s) (fun t => t.gb = { s.gb with queue := l, records := rs, writeAt := e.at_ } ∧ t.regs = s.regs)) ∧
  (∀ (s : State) (e : GbEvent) (l : List GbEvent),
      s.gb.writing = none →
      s.gb.clearing = none →
      s.gb.anchors = [] →
      s.gb.queue = e :: l →
      gbTryMerge e s.gb.records = none →
      exec .gbEvent s = .next (({ s with gb := { s.gb with queue := l, writeAt := e.at_ } } : State).gbRate e)) ∧
  (∀ (s : State) (r : GbRec),
      s.gb.writing = some r →
      s.on Reg.GB_STAT_SEQ_END = false →
      s.rd Reg.GB_COUNT_COUNT < gbPlaces →
      Nexts (exec (.gbRecordWrite false) s) (fun t => t.gb.writing = none ∧ t.rd Reg.GB_NEXT_SEQ = (s.rd Reg.GB_NEXT_SEQ + 1) % 2 ^ 32 ∧ t.rd Reg.GB_COUNT_COUNT = s.rd Reg.GB_COUNT_COUNT + 1 ∧ (t.gb.records.head?.map (fun x => (x.code, x.seq))) = some (r.code, s.rd Reg.GB_NEXT_SEQ) ∧ t.frc = max s.frc (s.gb.writeAt + 3000))) ∧
  (∀ (s : State) (r : GbRec),
      s.gb.writing = some r →
      Nexts (exec (.gbRecordWrite true) s) (fun t => t.gb = { s.gb with writing := none } ∧ t.rd Reg.GB_NEXT_SEQ = (s.rd Reg.GB_NEXT_SEQ + 1) % 2 ^ 32)) ∧
  (∀ (s : State) (cls : Fin 33),
      s.gbTokens cls < s.gbDepth cls →
      0 < s.gbPeriod cls →
      s.frc < (Assoc.find? s.gb.gained cls).getD 0 + s.gbPeriod cls →
      Nexts (exec (.gbTokenRefill cls) s) (fun t => t.gbTokens cls = s.gbTokens cls + 1 ∧ t.frc = (Assoc.find? s.gb.gained cls).getD 0 + s.gbPeriod cls)) ∧
  (∀ (s : State) (m : Master),
      s.allows m .w32 true Reg.GB_CMD.addr →
      s.on Reg.SCN_STAT_FORCE_PERMIT = true →
      s.gb.clearing = none →
      Nexts (exec (.gbClear m) s) (fun t => t.gb.records = [] ∧ t.gb.clearing.isSome = true ∧ t.rd Reg.GB_CMD_STAT_STATUS = Sta.ok)) ∧
  (∀ (s : State) (lost first last : Nat),
      s.gb.clearing = some (lost, first, last) →
      Nexts (exec .gbClearComplete s) (fun t => t.gb.clearing = none ∧ t.gb.queue = s.gb.queue)) ∧
  (∀ (s : State) (m : Master) (value : Word),
      s.allows m .w32 true Reg.GB_CURSOR.addr →
      Nexts (exec (.gbCursorWrite m value) s) (fun t => t.gb.cursors = Tab.put s.gb.cursors (masterId m) value))

/-- The safety telegrams' commands complete. It rests on R276, R277, R278, R279, R281, R282, R283, R284, R286, R288. -/
def Obligations.TelegramCommandsComplete : Prop :=
  (∀ (s : State) (port : Fin 4) (f : List Byte),
      s.saf.powered = true →
      s.power.running = true →
      s.locked = true →
      s.rd Reg.SAF_STAT_STATE ≠ 0 →
      s.rd Reg.SAF_STAT_STATE ≠ 3 →
      f.length < 28 →
      Nexts (exec (.tgCopyReceive port f) s) (fun t => t.saf.tgMod.len = inc16 s.saf.tgMod.len ∧ t.saf.tg = s.saf.tg)) ∧
  (∀ (s : State) (port : Fin 4) (f : List Byte),
      s.saf.powered = true →
      s.power.running = true →
      s.locked = true →
      s.rd Reg.SAF_STAT_STATE ≠ 0 →
      s.rd Reg.SAF_STAT_STATE ≠ 3 →
      28 + tgLen f ≤ f.length →
      tgLen f ≤ 256 →
      s.tgConnection f = none →
      Nexts (exec (.tgCopyReceive port f) s) (fun t => t.saf.tgMod.unknown = inc16 s.saf.tgMod.unknown ∧ t.saf.tg = s.saf.tg)) ∧
  (∀ (s : State) (port : Fin 4) (f : List Byte) (c : Nat) (u : List Byte),
      u = f.take (28 + tgLen f) →
      s.saf.powered = true →
      s.power.running = true →
      s.locked = true →
      s.rd Reg.SAF_STAT_STATE ≠ 0 →
      s.rd Reg.SAF_STAT_STATE ≠ 3 →
      28 + tgLen f ≤ f.length →
      tgLen f ≤ 256 →
      s.tgConnection f = some c →
      bitAt (le (s.connRec c) 2 1) port = true →
      le u (0x18 + tgLen f) 4 = crc32c (leBytes 8 (le (s.connRec c) 0x18 8) ++ u.take (0x18 + tgLen f)) →
      -1000000 ≤ s.safTime - (le u 0x10 8 : Int) →
      s.safTime - (le u 0x10 8 : Int) ≤ (le (s.connRec c) 0x10 2 : Int) * 1000000 →
      (tgNewer (tgSeq u) (s.tgConn c).seq || some (tgSeq u) == (s.tgConn c).seq) = true →
      exec (.tgCopyReceive port f) s = .next (s.tgTake c (port / 2) u)) ∧
  (∀ (s : State) (c : Fin 64),
      s.saf.powered = true →
      (s.tgConn c).window.isSome = true →
      exec (.skewWindowExpire c) s = .next ((s.waitTo ((s.tgConn c).winAt + s.tgSkewTime c)).tgSkew c)) ∧
  (∀ (s : State) (c : Fin 64) (net : Nat) (f : List Byte),
      s.saf.powered = true →
      (s.tgConn c).window = some (net, f) →
      (s.tgConn c).state ≠ tgValid →
      Nexts (exec (.skewWindowExpire c) s) (fun t => (t.tgConn c).window = none ∧ t.frc = (s.waitTo ((s.tgConn c).winAt + s.tgSkewTime c)).frc ∧ (t.tgConn c).missA = (if 1 - net = 0 then inc16 (s.tgConn c).missA else (s.tgConn c).missA))) ∧
  (∀ (s : State) (c : Fin 64) (net : Nat) (f : List Byte),
      s.saf.powered = true →
      (s.tgConn c).single = some net →
      (s.tgConn c).held = some f →
      exec (.heldCopyExpire c) s = .next (((s.waitTo ((s.tgConn c).heldAt + s.tgSkewTime c)).setTg c { s.tgConn c with held := none }).tgMiss c net)) ∧
  (∀ (s : State) (c : Fin 64),
      s.saf.powered = true →
      s.tgReceives c = true →
      (s.tgConn c).state ≠ tgFailed →
      exec (.tgTimeout c) s = .next ((let x := s.tgConn c
          let u := (s.waitTo (x.acceptAt + le (s.connRec c) 0x12 2 * 1000000)).tgState c { x with state := tgFailed, window := none, held := none }
          (u.post Un.saf 0x090F c ((u.safClock - x.acceptAt) / 1000000) (x.seq.getD 0)).tgTrip c))) ∧
  (∀ (s : State) (c : Fin 64),
      s.saf.powered = true →
      (s.tgConn c).state = tgFailed →
      Nexts (exec (.connRestart c) s) (fun t => (t.tgConn c).state = tgStarting ∧ (t.tgConn c).acceptAt = t.safClock ∧ t.frc = (s.waitTo ((s.tgConn c).failAt + 1000000000)).frc)) ∧
  (∀ (s : State) (c : Fin 64),
      s.saf.powered = true →
      s.power.running = true →
      s.locked = true →
      s.connRec c ≠ [] →
      exec (.connReport (some c)) s = .next ((let u := match (s.tgConn c).reportAt with
          | some n => s.waitTo (n + 1000000000)
          | none => s
        let x : TgConn := { s.tgConn c with reportAt := some u.safClock }
        (u.setTg c x).tgPost c x))) ∧
  (∀ (s : State),
      s.saf.powered = true →
      s.power.running = true →
      s.locked = true →
      exec (.connReport none) s = .next ((let u := match s.saf.tgMod.reportAt with
          | some n => s.waitTo (n + 1000000000)
          | none => s
        let u : State := { u with saf := { u.saf with tgMod := { u.saf.tgMod with reportAt := some u.safClock } } }
        u.tgPost 0xFF u.saf.tgMod)))

/-- Grants of the Rounds are given, close, and a late pass is told. It rests on R427, R428, R433. -/
def Obligations.RoundsGrantsComplete : Prop :=
  (∀ (s : State) (up : Nat),
      s.power.running = true →
      s.rd Reg.SCN_STAT_MODE = 0 →
      s.rd Reg.RND_STAT_PAUSED = 0 →
      up = (s.frc + 999999) / 1000000 * 1000000 →
      s.rnd.stopAt ≠ some up →
      Nexts (exec .rndStopGrant s) (fun t => t.frc = up ∧ t.rnd.stopAt = some up ∧ t.rnd.grants = s.rnd.grants.filter (fun g => decide (up < g.until_)) ++ [{ left := 200, until_ := up + 1000000 }])) ∧
  (∀ (s : State) (up : Nat),
      s.power.running = true →
      s.rd Reg.SCN_STAT_MODE = 0 →
      s.rd Reg.RND_STAT_PAUSED = 0 →
      up = (s.frc + 999999) / 1000000 * 1000000 →
      s.rnd.stopAt = some up →
      Nexts (exec .rndStopGrant s) (fun t => t.frc = up + 1000000 ∧ t.rnd.stopAt = some (up + 1000000) ∧ t.rnd.grants = s.rnd.grants.filter (fun g => decide (up + 1000000 < g.until_)) ++ [{ left := 200, until_ := up + 2000000 }])) ∧
  (∀ (s : State) (g : RndGrant) (l : List RndGrant),
      s.rnd.grants = g :: l →
      Nexts (exec .rndGrantClose s) (fun t => t.frc = max s.frc g.until_ ∧ t.rnd.grants = s.rnd.grants.filter (fun x => decide (t.frc < x.until_)))) ∧
  (∀ (s : State),
      s.power.running = true →
      s.rd Reg.RND_CTRL_LIMIT_H ≠ 0 →
      s.rnd.late = false →
      Nexts (exec .rndPassLate s) (fun t => t.on Reg.RND_STAT_LATE = true ∧ t.rnd.late = true ∧ t.frc = (s.waitOp (s.rnd.startAt + s.rd Reg.RND_CTRL_LIMIT_H * 3600 * 1024 + 1)).frc))

/-- A step of the Rounds that fits its grant is done and counted. It rests on R427, R428, R431, R432. -/
def Obligations.RoundsStepsComplete : Prop :=
  (∀ (s : State) (item : Fin 17) (us : Fin 6) (find : RndFind) (u : State) (g : RndGrant) (l : List RndGrant) (need : Nat),
      s.power.running = true →
      s.rd Reg.RND_STAT_PAUSED = 0 →
      u = ({ s with frc := max s.frc s.rnd.freeAt } : State).rndExpire →
      u.rnd.grants = g :: l →
      need = us.val + u.rndWake item →
      0 < us.val →
      need ≤ g.left →
      u.frc + 1000 * need ≤ g.until_ →
      u.rndNext.head? = some item.val →
      u.rndMay item = true →
      Nexts (exec (.rndStep item us find) s) (fun t => (let again := (match find with | .once | .fault _ _ => us.val | _ => 0)
        t.frc = u.frc ∧ t.rnd.freeAt = u.frc + 1000 * (need + again) ∧
        t.rnd.grants = (if g.left - need - again = 0 then [] else [{ g with left := g.left - need - again, served := true }]) ++ l))) ∧
  (∀ (s : State) (item : Fin 17) (us : Fin 6) (u : State) (g : RndGrant) (l : List RndGrant) (need : Nat),
      s.power.running = true →
      s.rd Reg.RND_STAT_PAUSED = 0 →
      u = ({ s with frc := max s.frc s.rnd.freeAt } : State).rndExpire →
      u.rnd.grants = g :: l →
      need = us.val + u.rndWake item →
      0 < us.val →
      need ≤ g.left →
      u.frc + 1000 * need ≤ g.until_ →
      u.rndNext.head? = some item.val →
      u.rndMay item = true →
      u.rnd.workOf item + us.val < u.rndWork item →
      Nexts (exec (.rndStep item us .pass) s) (fun t => t.rnd.workOf item = s.rnd.workOf item + us.val ∧ t.rd (Reg.RND_ITEM_STATE item) = s.rd (Reg.RND_ITEM_STATE item) ∧ t.rd Reg.RND_STAT_ITEM = item.val)) ∧
  (∀ (s : State) (item : Fin 17) (us : Fin 6) (u : State) (g : RndGrant) (l : List RndGrant) (need : Nat),
      s.power.running = true →
      s.rd Reg.RND_STAT_PAUSED = 0 →
      u = ({ s with frc := max s.frc s.rnd.freeAt } : State).rndExpire →
      u.rnd.grants = g :: l →
      need = us.val + u.rndWake item →
      0 < us.val →
      need ≤ g.left →
      u.frc + 1000 * need ≤ g.until_ →
      u.rndNext.head? = some item.val →
      u.rndMay item = true →
      u.rndWork item ≤ u.rnd.workOf item + us.val →
      u.rnd.ended.contains item.val = false →
      Nexts (exec (.rndStep item us .pass) s) (fun t => t.rd (Reg.RND_ITEM_STATE item) = 2 ∧ t.rd (Reg.RND_ITEM_T item) = s.hours % 2 ^ (Reg.RND_ITEM_T item).width))

/-- The wear samples of every 10 hours and the thermal stress are taken. It rests on R432, R434, R436. -/
def Obligations.WearCommandsComplete : Prop :=
  (∀ (s : State) (mram flash : Nat),
      s.power.running = true →
      exec (.wearSample mram flash) s = .next ((let n := max (s.wear.period + 1) (s.opTime / 36864000)
        let u := (s.waitOp (n * 36864000)).driftCount
        let v := (u.setWearQ 0xC0 (u.wearQ 0xC0 + mram)).setWearQ 0xC1 flash
        let w := match u.driftMean with
          | some x => v.setWearQ 0xC5 x
          | none => v
        let w : State := { w with wear := { w.wear with period := n, drift := (0, 0) } }
        (((List.range 0xC6).filter (fun i => i != 0xC2 && (i != 0xC5 || u.driftMean.isSome))).foldl (fun (s : State) i => s.wearStore i) w).wearSummary))) ∧
  (∀ (s : State) (mram flash : Nat),
      s.power.running = true →
      Nexts (exec (.wearSample mram flash) s) (fun t => t.wear.period = max (s.wear.period + 1) (s.opTime / 36864000) ∧ t.wear.drift = (0, 0) ∧ t.frc = (s.waitOp (t.wear.period * 36864000)).frc)) ∧
  (∀ (s : State) (u : State),
      s.power.running = true →
      u = { s with frc := max s.frc (s.rnd.heatAt + 1000000000), rnd := { s.rnd with heatAt := max s.frc (s.rnd.heatAt + 1000000000) } } →
      exec .thermalStressUpdate s = .next (((List.range 64).filter (fun n => persAo (u.chPers (n / 8) (n % 8)))).foldl (fun (s : State) n => s.wearStress n) u))

/-- The Sealed Annex measures, posts and keeps its totals. It rests on R442, R444, R445, R446, R452. -/
def Obligations.AnnexEngineComplete : Prop :=
  (∀ (s : State) (pulses : List AnxPulse) (currents : List AnxCurrent),
      s.anxOn = true →
      exec (.annexInterval pulses currents) s = .next ((let u := s.waitTo (s.anx.intAt + 10000000)
        let u : State := { u with anx := { u.anx with ms10 := u.anx.ms10 + 1, intAt := u.safClock } }
        let u := (List.range 4).foldl (fun (u : State) i => match currents[i]? with
          | some c => u.anxCurrent i c
          | none => u) u
        let x := if u.anx.fault then u.anx else (List.range 4).foldl (fun (x : Anx) l => x.measure l ((pulses[l]?).getD ⟨0, false⟩)) u.anx
        let x := x.due.foldl (fun x c => x.change c) x
        { u with anx := { x with due := [], t2 := u.anxClock } }))) ∧
  (∀ (s : State) (u : State),
      s.anxOn = true →
      u = s.waitTo (s.anx.resultAt + s.anx.par 0x41 * 1000000) →
      exec .annexResultPost s = .next (((List.range 4).filter (fun l => s.anx.lineOn l)).foldl (fun (s : State) l =>
          let r := s.anxPost 30 0x01 s.anx.pset (s.anxResult l)
          let y := s.anx.line l
          let t := r.1.useFree
          { t with anx := { t.anx.setLine l { y with rseq := y.rseq + 1, since := y.mass } with dropped := t.anx.dropped + b2n (!r.2) } })
          ({ u with anx := { u.anx with resultAt := u.safClock } } : State))) ∧
  (∀ (s : State),
      s.anxOn = true →
      (∀ l < 4, s.anx.lineOn l = false) →
      Nexts (exec .annexResultPost s) (fun t => t.anx = { s.anx with resultAt := t.safClock } ∧ t.frc = (s.waitTo (s.anx.resultAt + s.anx.par 0x41 * 1000000)).frc)) ∧
  (∀ (s : State) (u : State),
      s.anxOn = true →
      u = s.waitTo (s.anx.lastStat + 1000000000) →
      exec .annexStatusPost s = .next ((let x := s.anx
        ({ u with anx := { u.anx with lastStat := u.safClock } } : State).anxReport 0x13 (leBytes 1 x.state ++ leBytes 1 (b2n x.switch) ++ leBytes 2 0 ++
          leBytes 4 x.writeCnt ++ leBytes 4 x.sgb.length ++ leBytes 4 (x.dropped + x.skipped) ++ leBytes 4 x.passes)))) ∧
  (∀ (s : State),
      s.anxOn = true →
      s.anx.waiting ≠ [] →
      s.anx.waiting.length < 256 →
      Nexts (exec .annexStatusPost s) (fun t => t.anx.waiting.map (fun x => x.1) = s.anx.waiting.map (fun x => x.1) ++ [0x13] ∧ t.regs = s.regs ∧ t.anx.lastStat = t.safClock)) ∧
  (∀ (s : State) (u : State),
      s.anxOn = true →
      s.anx.waiting ≠ [] →
      u = s.waitTo (s.anx.repostAt + 1000000) →
      exec .annexReportRepost s = .next (({ u with anx := { u.anx with repostAt := u.safClock } } : State).anxPostAll 256)) ∧
  (∀ (s : State) (pass : Bool),
      s.anxOn = true →
      Nexts (exec (.annexSelfTest pass) s) (fun t => t.anx = { s.anx with passes := (s.anx.passes + 1) % 2 ^ 32, fault := s.anx.fault || !pass })) ∧
  (∀ (s : State),
      s.anxOn = true →
      Nexts (exec .annexTotalsCommit s) (fun t => t.anx = { s.anx with committed := s.anx.lines, commitAt := t.safClock } ∧ t.frc = (s.waitTo (s.anx.commitAt + 1000000000)).frc))

/-- The port to the Annex and its time complete. It rests on R445, R447, R448. -/
def Obligations.AnnexPortComplete : Prop :=
  (∀ (s : State) (b : List Byte),
      s.locked = true →
      s.anx.ident = some b →
      b.take 32 = s.anxif →
      Nexts (exec .identIf s) (fun t => t.anx.ident = none ∧ t.anx.compared = true ∧ t.on Reg.ANX_STAT_CLOSED = false ∧ t.on Reg.ANX_STAT_IF_MISMATCH = false)) ∧
  (∀ (s : State) (b : List Byte),
      s.locked = true →
      s.anx.ident = some b →
      b.take 32 ≠ s.anxif →
      Nexts (exec .identIf s) (fun t => t.anx.ident = none ∧ t.anx.compared = true ∧ t.on Reg.ANX_STAT_CLOSED = true ∧ t.on Reg.ANX_STAT_IF_MISMATCH = true)) ∧
  (∀ (s : State),
      s.capOn Reg.SYS_CAPS_ANX = true →
      s.locked = true →
      s.on Reg.ANX_STAT_STATUS_LOST = false →
      Nexts (exec .annexStatusLost s) (fun t => t.on Reg.ANX_STAT_STATUS_LOST = true ∧ t.frc = max s.frc (s.anx.statusAt + 3000000000))) ∧
  (∀ (s : State) (good : Bool) (u : State),
      s.power.running = true →
      s.capOn Reg.SYS_CAPS_ANX = true →
      u = s.wordInstant →
      Nexts (exec (.timeWordSend good) s) (fun t => t.frc = u.frc ∧ t.anx.sent = u.timeWord ∧ t.anx.sentAt = some u.frc)) ∧
  (∀ (s : State) (u : State),
      s.power.running = true →
      s.anxOn = true →
      s.anx.reident = 0 →
      s.on Reg.TIM_STAT_C2_VALID = true →
      u = s.wordInstant →
      s.anx.hold = false →
      Nexts (exec (.timeWordSend true) s) (fun t => t.anx.word = u.t2 ∧ t.anx.wordAt = u.safClock ∧ t.anx.offset = u.t2 - u.anxClock ∧ t.anx.hold = false)) ∧
  (∀ (s : State),
      s.anxOn = true →
      s.anx.hold = false →
      Nexts (exec .annexTimeHold s) (fun t => t.anx.hold = true ∧ t.anx.offset = 0 ∧ t.frc = (s.waitTo (s.anx.wordAt + 10000000)).frc ∧ t.anx.sgb.length = min (s.anx.sgb.length + 1) (max s.anx.sgb.length 8192)))

/-- The parameter port of the Annex completes. It rests on R443, R449, R450, R451. -/
def Obligations.AnnexParameterPortComplete : Prop :=
  (∀ (s : State) (write : Bool),
      s.anxOn = true →
      s.anx.switch ≠ write →
      Nexts (exec (.annexWriteSwitch write) s) (fun t => t.anx.switch = write ∧ t.anx.writeCnt = s.anx.writeCnt + b2n write)) ∧
  (∀ (s : State) (nums : List (Fin 0x42)),
      s.anxOn = true →
      Nexts (exec (.readParam nums) s) (fun t => t.anx.answer = nums.flatMap (fun n => leBytes 4 (s.anx.par n.val)) ∧ t.regs = s.regs)) ∧
  (∀ (s : State),
      s.anxOn = true →
      Nexts (exec .readLog s) (fun t => t.anx.answer = s.anx.sgb.flatMap (fun r => r.bytes) ∧ t.regs = s.regs)) ∧
  (∀ (s : State),
      s.anxOn = true →
      Nexts (exec .readTotals s) (fun t => t.anx.answer = (List.range 4).flatMap (fun l => leBytes 8 (toBits 64 (s.anx.line l).mass.floor) ++ leBytes 8 (toBits 64 (s.anx.line l).v15.floor) ++ leBytes 8 (toBits 64 (s.anx.line l).vol.floor)) ∧ t.regs = s.regs)) ∧
  (∀ (s : State) (changes : List AnxChange),
      s.anxOn = true →
      changes ≠ [] →
      changes.length ≤ 16 →
      changes.find? (fun c => !anxValueOk (s.anx.parWith changes) c.key c.num.val) = none →
      (changes.any (fun c => c.num.val != 0x41) && !s.anx.switch) = false →
      changes.length ≤ s.anx.room →
      Nexts (exec (.writeParam changes) s) (fun t => t.anx.due = s.anx.due ++ changes.map (fun c => (c.num.val, c.value.toNat, c.key)) ∧ t.anx.pset = s.anx.pset + b2n (changes.any (fun c => c.num.val != 0x41)))) ∧
  (∀ (s : State) (image sig name ifhash : List Byte) (version build : BitVec 32),
      s.anxOn = true →
      s.anx.switch = true →
      1 ≤ s.anx.room →
      Nexts (exec (.loadSoftware image sig name ifhash version build) s) (fun t => if Config.annexSignatureGood (Config.sha256 image) sig then t.anx.name = name ∧ t.anx.version = version.toNat ∧ t.anx.build = build.toNat ∧ t.anx.swchk = Config.sha256 image ∧ t.anx.ifhash = ifhash ∧ t.anx.powered = true
          else t = s.anxRefuse anxCmdLoad anxSignature 0)) ∧
  (∀ (s : State) (image sig name ifhash : List Byte) (version build : BitVec 32),
      s.anxOn = true →
      s.anx.switch = false →
      exec (.loadSoftware image sig name ifhash version build) s = .next (s.anxRefuse anxCmdLoad anxNoSwitch 0)) ∧
  (∀ (s : State) (hash : List Byte),
      s.anxOn = true →
      s.anx.switch = true →
      hash = Config.sha256 (s.anx.sgb.flatMap (fun r => r.bytes)) →
      Nexts (exec (.clearLog hash) s) (fun t => t.anx.sgb.map (fun r => (r.scode, r.sseq, r.p1)) = [(0x0040, s.anx.sseq + 1, s.anx.sgb.length % 2 ^ 32)])) ∧
  (∀ (s : State) (hash : List Byte),
      s.anxOn = true →
      s.anx.switch = false →
      exec (.clearLog hash) s = .next (s.anxRefuse anxCmdClear anxNoSwitch 0))

/-- Updates and commands of the Noticeboard complete. It rests on R461, R462, R463, R464, R470, R516. -/
def Obligations.NoticeboardUpdatesComplete : Prop :=
  (∀ (s : State) (q : Nat) (st d : Nat),
      s.nbCmdq = some q →
      s.nb.upds.length < 8 →
      s.nb.upds.length < s.queWaiting q →
      s.nbBusy = false →
      s.on Reg.PWR_STAT_PF_WARN = false →
      s.nbCheck (s.bytes (s.entryAddr q (s.queDi q + s.nb.upds.length)) 64) = some (st, d) →
      exec .nbUpdateTake s = .next ((let e := s.bytes (s.entryAddr q (s.queDi q + s.nb.upds.length)) 64
          let u : State := { s with nb := { s.nb with nextUpd := s.nb.nextUpd + 1, upds := s.nb.upds ++ [{ no := s.nb.nextUpd, refused := some (st, d) }] } }
          (u.post Un.nb 0x1301 d (le e 0x18 4) (le e 1 1)).nbCompletions false 8))) ∧
  (∀ (s : State) (q : Nat),
      s.nbCmdq = some q →
      s.nb.upds.length < 8 →
      s.nb.upds.length < s.queWaiting q →
      s.nbBusy = false →
      s.on Reg.PWR_STAT_PF_WARN = false →
      s.nbCheck (s.bytes (s.entryAddr q (s.queDi q + s.nb.upds.length)) 64) = none →
      le (s.bytes (s.entryAddr q (s.queDi q + s.nb.upds.length)) 64) 1 1 = 3 →
      Nexts (exec .nbUpdateTake s) (fun t => t.nb.nextUpd = s.nb.nextUpd + 1 ∧ t.nb.upds = s.nb.upds ++ [{ no := s.nb.nextUpd, clean := true }])) ∧
  (∀ (s : State) (q no : Nat) (b : List Byte),
      s.nbCmdq = some q →
      s.nb.upds.length < 8 →
      s.nb.upds.length < s.queWaiting q →
      s.nbBusy = false →
      s.on Reg.PWR_STAT_PF_WARN = false →
      b = s.bytes (s.entryAddr q (s.queDi q + s.nb.upds.length)) 64 →
      no = s.nb.nextUpd →
      s.nbCheck b = none →
      le b 1 1 ≠ 3 →
      exec .nbUpdateTake s = .next ((let u : State := { s with nb := { s.nb with nextUpd := no + 1, upds := s.nb.upds ++ [{ no }] } }
        ((rectKeys 0 0 (le b 8 2) (le b 0xA 2)).foldl (fun (u : State) k =>
          u.nbTarget (pixKey (le b 4 2 + k % 1024) (le b 6 2 + k / 1024))
            (bits (u.byte (le b 0x10 8 + k / 1024 * le b 0xC 2 + k % 1024 / 2)).toNat (4 * (k % 1024 % 2)) 4) (le b 1 1 == 2) no) u
          |>.nbCompletions false 8).nbState))) ∧
  (∀ (s : State) (m : Master),
      s.allows m .w32 true Reg.NB_CMD.addr →
      s.nbPanel = true →
      s.nbFault = false →
      s.nb.cleanCmd = false →
      Nexts (exec (.nbCleanCmd m) s) (fun t => t.nb.cleanCmd = true ∧ t.rd Reg.NB_CMD_STAT_STATUS = Sta.ok ∧ t.rd Reg.NB_CMD_STAT_REASON = 0)) ∧
  (∀ (s : State) (m : Master),
      s.allows m .w32 true Reg.NB_CMD.addr →
      s.nbPanel = true →
      s.nbFault = false →
      s.on Reg.NB_STAT_REFRESH_DUE = false →
      Nexts (exec (.nbRefreshCmd m) s) (fun t => t.on Reg.NB_STAT_REFRESH_DUE = true ∧ t.rd Reg.NB_CMD_STAT_STATUS = Sta.ok ∧ t.rd Reg.NB_CMD_STAT_REASON = 0)) ∧
  (∀ (s : State) (m : Master),
      s.allows m .w32 true Reg.NB_CMD.addr →
      s.nbPanel = true →
      s.nbFault = false →
      s.nb.balCmd = false →
      Nexts (exec (.nbBalanceCmd m) s) (fun t => t.nb.balCmd = true ∧ t.rd Reg.NB_CMD_STAT_STATUS = Sta.ok ∧ t.rd Reg.NB_CMD_STAT_REASON = 0)) ∧
  (∀ (s : State) (m : Master) (value : Word),
      s.allows m .w32 true Reg.NB_LIGHT.addr →
      bits value.toNat 24 8 = 0xA5 →
      bitAt value.toNat 8 = false →
      (s.nbPanel && s.nbFlag 0) = true →
      Nexts (exec (.nbLightWrite m value) s) (fun t => t.rd Reg.NB_LIGHT_LEVEL = bits value.toNat 0 8 ∧ t.on Reg.NB_LIGHT_ON = false ∧ t.on Reg.NB_STAT_LIGHT = false)) ∧
  (∀ (s : State) (m : Master) (value : Word),
      s.allows m .w32 true Reg.NB_LIGHT.addr →
      bits value.toNat 24 8 = 0xA5 →
      bitAt value.toNat 8 = true →
      (s.nbPanel && s.nbFlag 0) = true →
      Nexts (exec (.nbLightWrite m value) s) (fun t => t.rd Reg.NB_LIGHT_LEVEL = bits value.toNat 0 8 ∧ t.on Reg.NB_LIGHT_ON = true))

/-- Frames of the Noticeboard run. It rests on R459, R460, R464, R466, R468, R471. -/
def Obligations.NoticeboardFramesComplete : Prop :=
  (∀ (s : State) (temp : BitVec 16) (u : State),
      s.nbPanel = true →
      s.on Reg.NB_STAT_RAILS_UP = true →
      s.nbFault = false →
      u = (if s.nb.running then s.nbBoundary.nbTemp temp else s.nbBoundary) →
      u.nbMustAbort = false →
      u.nbStart.nb.running = false →
      exec (.nbFrame temp) s = .next (u.nbStart.nbJobEnd.nbLightOn.nbState.nbShow)) ∧
  (∀ (s : State) (temp : BitVec 16) (u : State),
      s.nbPanel = true →
      s.on Reg.NB_STAT_RAILS_UP = true →
      s.nbFault = false →
      u = (if s.nb.running then s.nbBoundary.nbTemp temp else s.nbBoundary) →
      u.nbMustAbort = false →
      u.nbStart.nb.running = true →
      exec (.nbFrame temp) s = .next (((u.nbStart.nbScan.nbJobEnd.nbLightOn.nbCompletions false 8).nbShut).nbState.nbShow)) ∧
  (∀ (s : State) (temp : BitVec 16) (u : State),
      s.nbPanel = true →
      s.on Reg.NB_STAT_RAILS_UP = true →
      s.nbFault = false →
      s.nb.running = true →
      u = s.nbBoundary.nbTemp temp →
      u.nbMustAbort = true →
      exec (.nbFrame temp) s = .next (u.nbAbort.nbState.nbShow)) ∧
  (∀ (s : State),
      s.nbPanel = true →
      s.nbFault = false →
      s.nb.balCmd = true →
      (s.nb.recovery || s.nb.stripDue || s.nb.lightWait || s.nb.cleanCmd || s.on Reg.NB_STAT_REFRESH_DUE || s.nb.job != .none || s.nb.running || s.nb.pending || s.on Reg.PWR_STAT_PF_WARN) = false →
      Nexts (exec .nbBalancePass s) (fun t => t = s.nbBalance.nbState.nbShow ∧ t.nb.balCmd = false)) ∧
  (∀ (s : State) (q : Nat),
      s.nbPanel = true →
      s.nbFault = false →
      s.nb.balCmd = false →
      s.on Reg.NB_STAT_BAL_DUE = true →
      s.nb.upds = [] →
      s.nbCmdq = some q →
      s.queWaiting q = 0 →
      (s.nb.recovery || s.nb.stripDue || s.nb.lightWait || s.nb.cleanCmd || s.on Reg.NB_STAT_REFRESH_DUE || s.nb.job != .none || s.nb.running || s.nb.pending || s.on Reg.PWR_STAT_PF_WARN) = false →
      exec .nbBalancePass s = .next (({ s with frc := max s.frc (s.nb.doneAt + 10000000000) } : State).nbBalance.nbState.nbShow)) ∧
  (∀ (s : State) (temp : BitVec 16) (bad : Option (BitVec 5 × Nat)),
      s.nbPanel = true →
      s.nbFault = false →
      s.nb.running = false →
      s.on Reg.NB_STAT_RAILS_UP = false →
      s.on Reg.PWR_STAT_PF_WARN = false →
      Nexts (exec (.nbIdleScan temp bad) s) (fun t => t.rd64 Reg.NB_FRAMES_LO Reg.NB_FRAMES_HI = (s.rd64 Reg.NB_FRAMES_LO Reg.NB_FRAMES_HI + 1) % 2 ^ 64 ∧ t.rd Reg.NB_TEMP_TEMP = temp.toNat ∧ t.frc = max s.frc (s.nb.idleAt + 990000000 / le s.nbRec 3 1) ∧ t.nb.idleAt = t.frc))

/-- The rails of the Noticeboard rise, fail and go down, and its planes are kept. It rests on R468, R469, R471. -/
def Obligations.NoticeboardRailsComplete : Prop :=
  (∀ (s : State),
      s.nbPanel = true →
      s.nbFault = false →
      s.on Reg.NB_STAT_RAILS_UP = false →
      s.nbWork = true →
      Nexts (exec .nbRailRise s) (fun t => t.on Reg.NB_STAT_RAILS_UP = true ∧ t.frc = s.frc + 4000000 ∧ t.nb = { s.nb with frameAt := s.frc + 6000000 })) ∧
  (∀ (s : State) (rails : BitVec 5),
      s.nbPanel = true →
      s.nbFault = false →
      Nexts (exec (.nbRailFault rails) s) (fun t => t.on Reg.NB_STAT_RAILS_UP = false ∧ t.rd Reg.NB_RAIL_FAULTS = satInc 16 (s.rd Reg.NB_RAIL_FAULTS) ∧ t.rd Reg.NB_RAIL_FAILED = rails.toNat ∧ t.nb.faultRun = s.nb.faultRun + 1 ∧ t.nb.recovery = true)) ∧
  (∀ (s : State),
      s.on Reg.NB_STAT_RAILS_UP = true →
      s.nb.running = false →
      s.nb.pending = false →
      s.nb.job = .none →
      (s.on Reg.NB_STAT_DIRTY && s.nbMayCommit) = false →
      s.on Reg.PWR_STAT_PF_WARN = false →
      Nexts (exec .nbRailsDown s) (fun t => t.on Reg.NB_STAT_RAILS_UP = false ∧ t.nb.faultRun = 0 ∧ t.frc = max s.frc (s.nb.waveAt + 100000000))) ∧
  (∀ (s : State),
      s.on Reg.NB_STAT_RAILS_UP = true →
      s.nb.running = false →
      s.nb.pending = false →
      (s.on Reg.NB_STAT_DIRTY && s.nbMayCommit) = false →
      s.on Reg.PWR_STAT_PF_WARN = true →
      Nexts (exec .nbRailsDown s) (fun t => t.on Reg.NB_STAT_RAILS_UP = false ∧ t.nb.faultRun = 0 ∧ t.frc = s.frc)) ∧
  (∀ (s : State),
      s.power.running = true →
      s.on Reg.NB_STAT_DIRTY = true →
      s.nbMayCommit = true →
      Nexts (exec .nbQuiescentCommit s) (fun t => t.on Reg.NB_STAT_DIRTY = false ∧ t.nb.mram = s.nb.pix.map (fun c => (c.1, { c.2 with pend := none })) ∧ t.nb.fi = 0))

/-- Supply, hold-up, shutdown, the Porter, the start and the election complete. It rests on R476, R477, R478, R479,
R480, R483, R484, R485, R486, R487, R488, R491. -/
def Obligations.PowerCommandsComplete : Prop :=
  (∀ (s : State) (x : PowerInput),
      x.present = true →
      18000 ≤ x.mV.toNat →
      s.on (if x.inB then Reg.PWR_STAT_IN_B else Reg.PWR_STAT_IN_A) = false →
      s.power.mainOn = false →
      Nexts (exec (.powerInputChange x) s) (fun t => t.power.mainOn = true ∧ t.power.running = false ∧ t.power.restart = false)) ∧
  (∀ (s : State) (x : PowerInput),
      x.present = false →
      x.mV.toNat < 16500 →
      s.on (if x.inB then Reg.PWR_STAT_IN_B else Reg.PWR_STAT_IN_A) = true →
      s.on (if x.inB then Reg.PWR_STAT_IN_A else Reg.PWR_STAT_IN_B) = false →
      s.power.mainOn = true →
      Nexts (exec (.powerInputChange x) s) (fun t => t.on Reg.PWR_STAT_DIP = true ∧ t.on Reg.PWR_STAT_HOLDUP_OK = false ∧ t.power.dipAt = s.frc)) ∧
  (∀ (s : State) (x : PowerInput),
      x.present = true →
      18000 ≤ x.mV.toNat →
      s.on (if x.inB then Reg.PWR_STAT_IN_B else Reg.PWR_STAT_IN_A) = false →
      s.power.mainOn = true →
      s.on Reg.PWR_STAT_DIP = true →
      s.on Reg.PWR_STAT_PF_WARN = false →
      Nexts (exec (.powerInputChange x) s) (fun t => t.on Reg.PWR_STAT_DIP = false ∧ t.rd Reg.PWR_DIPS_COUNT = satInc 16 (s.rd Reg.PWR_DIPS_COUNT) ∧ t.rd Reg.PWR_DIPS_LONGEST = min (max ((s.frc - s.power.dipAt) / 1000000) (s.rd Reg.PWR_DIPS_LONGEST)) 0xFFFF)) ∧
  (∀ (s : State) (meas : PwrMeas),
      s.power.mainOn = true →
      s.on Reg.PWR_STAT_DIP = false →
      s.on Reg.PWR_STAT_PF_WARN = false →
      s.on Reg.PWR_STAT_HOLDUP_OK = false →
      Nexts (exec (.holdupFull meas) s) (fun t => t.on Reg.PWR_STAT_RESERVE_OK = true ∧ t.on Reg.PWR_STAT_HOLDUP_OK = true ∧ t.power.reserved = true)) ∧
  (∀ (s : State) (why : PfCause) (meas : PwrMeas),
      s.power.mainOn = true →
      s.power.running = false →
      s.on Reg.PWR_STAT_DIP = true →
      s.on Reg.PWR_STAT_PF_WARN = false →
      (why = .short → s.power.reserved = false) →
      Nexts (exec (.powerFailWarning why meas) s) (fun t => t.on Reg.PWR_STAT_PF_WARN = true ∧ t.on Reg.PWR_STAT_SHUTDOWN = true ∧ t.power.cause = pfCode why ∧ t.power.warnAt = t.frc)) ∧
  (∀ (s : State) (why : PfCause) (meas : PwrMeas) (u : State),
      s.power.mainOn = true →
      s.power.running = true →
      s.on Reg.PWR_STAT_DIP = true →
      s.on Reg.PWR_STAT_PF_WARN = false →
      (why = .short → s.power.reserved = false) →
      u = s.warned why meas →
      exec (.powerFailWarning why meas) s = .next ((u.post Un.pwr 0x1402 (pfCode why) ((u.frc - u.power.dipAt) / 1000000) (u.rd Reg.PWR_LOAD_NOW)).pfActions)) ∧
  (∀ (s : State),
      s.power.running = true →
      s.on Reg.PWR_STAT_PF_WARN = true →
      Nexts (exec .shutdownOutputsOff s) (fun t => t.power.outputsOff = true ∧ t.frc = max s.frc (s.power.warnAt + if s.power.cause = 3 then 0 else 20000000) ∧ t.regs = s.regs)) ∧
  (∀ (s : State) (meas : PwrMeas) (permille : Nat),
      s.power.running = true →
      s.on Reg.PWR_STAT_PF_WARN = true →
      s.power.outputsOff = true →
      s.power.mramDone = false →
      Nexts (exec (.shutdownMramCommit meas permille) s) (fun t => t.power.mramDone = true ∧ max s.frc (s.power.warnAt + if s.power.cause = 3 then 1000000 else 20000000) ≤ t.frc ∧ t.power.shadowCyc = t.rd Reg.PTR_PCYCLE ∧ t.power.shadowOpt = t.opTime)) ∧
  (∀ (s : State) (us : Fin 15000),
      s.power.mainOn = true →
      s.on Reg.PWR_STAT_PF_WARN = true →
      s.power.running = true →
      s.power.mramDone = true →
      (s.power.cause = 3 ∨ s.on Reg.NB_STAT_RAILS_UP = false ∧ (s.on Reg.NB_STAT_DIRTY && s.nbMayCommit) = false) →
      Nexts (exec (.controlUnpowered us) s) (fun t => t.power.running = false ∧ t.fpl.plan = [] ∧ t.mem = [] ∧ t.pgn = [] ∧ t.frc = 0 ∧ t.power.sinceW = s.frc - s.power.warnAt)) ∧
  (∀ (s : State) (us : Fin 15000),
      s.power.mainOn = true →
      s.on Reg.PWR_STAT_PF_WARN = true →
      s.power.running = false →
      Nexts (exec (.controlUnpowered us) s) (fun t => t.power.running = false ∧ t.frc = 0 ∧ t.power.sinceW = 0)) ∧
  (∀ (s : State) (us : Fin 15001),
      s.power.mainOn = true →
      s.power.running = false →
      s.on Reg.PWR_STAT_PF_WARN = false →
      10000 ≤ us.val →
      Nexts (exec (.controlResetRelease us) s) (fun t => t.power.running = true ∧ t.frc = 0 ∧ t.on Reg.PWR_STAT_RESERVE_OK = true ∧ t.rd Reg.PWR_BOOT_RESET = us.val)) ∧
  (∀ (s : State) (a : Arrival) (serial : BitVec 32),
      s.hears a = true →
      exec (.shutdown a serial) s = .next ((s.heard a).deliver (fun s => s.shutdownTake serial.toNat))) ∧
  (∀ (s : State) (a : Arrival) (serial : BitVec 32),
      s.hears a = true →
      s.role = roleActive →
      s.ban.ho = none →
      s.ban.join = none →
      s.ban.early = [] →
      Nexts (exec (.shutdown a serial) s) (fun t => t.role = roleAlone ∧ t.rd Reg.BAN_PEER_SERIAL = (if s.rd Reg.BAN_PEER_SERIAL = 0 then serial.toNat else s.rd Reg.BAN_PEER_SERIAL))) ∧
  (∀ (s : State) (mV : BitVec 16),
      mV.toNat < 2700 →
      s.power.porterStopped = false →
      s.power.running = true →
      Nexts (exec (.cellLow mV) s) (fun t => t.on Reg.PTR_STAT_CELL_LOW = true ∧ t.rd Reg.PTR_CELL_MV = mV.toNat ∧ t.power.cellMv = mV.toNat)) ∧
  (∀ (s : State) (mV : BitVec 16),
      mV.toNat < 2700 →
      s.power.porterStopped = false →
      s.power.running = false →
      Nexts (exec (.cellLow mV) s) (fun t => t.on Reg.PTR_STAT_CELL_LOW = true ∧ t.power.porterStopped = (!s.power.mainOn && decide (mV.toNat < 2200)))) ∧
  (∀ (s : State) (open_ : Bool),
      s.power.porterStopped = false →
      s.on Reg.PTR_STAT_LID ≠ open_ →
      Nexts (exec (.sealChange true open_) s) (fun t => t.on Reg.PTR_STAT_LID = open_ ∧ t.rd Reg.PTR_SWCNT_LID = satInc 16 (s.rd Reg.PTR_SWCNT_LID))) ∧
  (∀ (s : State) (open_ : Bool),
      s.power.porterStopped = false →
      s.capOn Reg.SYS_CAPS_ANX = true →
      s.on Reg.PTR_STAT_SEAL ≠ open_ →
      Nexts (exec (.sealChange false open_) s) (fun t => t.on Reg.PTR_STAT_SEAL = open_ ∧ t.rd Reg.PTR_SWCNT_SEAL = satInc 16 (s.rd Reg.PTR_SWCNT_SEAL))) ∧
  (∀ (s : State),
      s.power.running = true →
      s.locked = false →
      s.role = 7 →
      Nexts (exec .beaconSend s) (fun t => t.power.beaconLast = t.frc ∧ t.frc = max s.frc (if s.power.beaconAt.isSome then s.power.beaconLast + 1000000 else 20000000 - s.rd Reg.PWR_BOOT_RESET * 1000) ∧ t.ban.txSeq = (s.ban.txSeq + 1) % 2 ^ 32 ∧ t.ban.tx.head?.map (fun f => (f.type, f.seq)) = some (0x02, s.ban.txSeq))) ∧
  (∀ (s : State) (a : Arrival) (serial caps : BitVec 32) (strap : Fin 4) (role : Fin 8),
      s.inOrder a = true →
      s.electing = false →
      s.ban.join = none →
      s.ban.early = [] →
      Nexts (exec (.beacon a serial caps strap role) s) (fun t => t.rd Reg.BAN_PEER_SERIAL = serial.toNat ∧ t.rd Reg.BAN_STAT_PEER_ROLE = role.val)) ∧
  (∀ (s : State) (a : Arrival) (serial caps : BitVec 32) (strap : Fin 4) (role : Fin 8),
      s.inOrder a = true →
      s.electing = true →
      s.power.deferred = false →
      s.ban.join = none →
      s.ban.early = [] →
      Nexts (exec (.beacon a serial caps strap role) s) (fun t => t.rd Reg.BAN_PEER_SERIAL = serial.toNat ∧ t.power.heard = some (serial.toNat, strap.val, role.val))) ∧
  (∀ (s : State) (at_ : Nat),
      s.electing = true →
      s.power.beaconAt = some at_ →
      s.power.heard = none →
      Nexts (exec .electionWindowEnd s) (fun t => t.power.deferred = true ∧ t.frc = max s.frc (at_ + 50000000) ∧ t.regs = s.regs)) ∧
  (∀ (s : State) (at_ serial strap role : Nat),
      s.electing = true →
      s.power.beaconAt = some at_ →
      s.power.heard = some (serial, strap, role) →
      Nexts (exec .electionWindowEnd s) (fun t => t.rd Reg.PWR_STAT_ELECT = electOf s.power.strap strap s.ident.serial serial role)) ∧
  (∀ (s : State),
      s.electing = true →
      s.power.deferred = true →
      s.power.heard = none →
      s.ban.beat = none →
      Nexts (exec .electionDeferEnd s) (fun t => t.rd Reg.PWR_STAT_ELECT = 4 ∧ t.frc = max s.frc (305000000 - s.rd Reg.PWR_BOOT_RESET * 1000))) ∧
  (∀ (s : State) (serial role : Nat),
      s.electing = true →
      s.power.deferred = true →
      s.power.heard = none →
      s.ban.beat = some (serial, role) →
      Nexts (exec .electionDeferEnd s) (fun t => t.rd Reg.PWR_STAT_ELECT = electOf 0 0 s.ident.serial serial role ∧ t.rd Reg.BAN_PEER_SERIAL = serial % 2 ^ 32))

end
end

