-- ==== Sys2Proof/Laws/Tab.lean ====
section
/-!
SUPPORT. Sparse tables: a read after a write, and the canonical form that every write keeps.
-/
namespace Sys2Proof.Machine

variable {α : Type} {w : Nat}

theorem Assoc.find?_insert_self (t : List (Nat × α)) (a : Nat) (v : α) :
    Assoc.find? (Assoc.insert t a v) a = some v := by
  induction t with
  | nil => simp [Assoc.insert, Assoc.find?]
  | cons c t ih =>
    obtain ⟨k, x⟩ := c
    simp only [Assoc.insert]
    split_ifs with h1 h2
    · simp [Assoc.find?]
    · simp [Assoc.find?]
    · simp [Assoc.find?, h1, ih]

theorem Assoc.find?_insert_ne (t : List (Nat × α)) (a b : Nat) (v : α) (h : b ≠ a) :
    Assoc.find? (Assoc.insert t a v) b = Assoc.find? t b := by
  induction t with
  | nil => simp [Assoc.insert, Assoc.find?, h]
  | cons c t ih =>
    obtain ⟨k, x⟩ := c
    simp only [Assoc.insert]
    split_ifs with h1 h2
    · subst h1; simp [Assoc.find?, h]
    · simp [Assoc.find?, h]
    · simp [Assoc.find?, ih]

theorem Assoc.find?_erase_self (t : List (Nat × α)) (a : Nat) : Assoc.find? (Assoc.erase t a) a = none := by
  induction t with
  | nil => rfl
  | cons c t ih =>
    obtain ⟨k, x⟩ := c
    simp only [Assoc.erase]
    split_ifs with h1
    · exact ih
    · simp [Assoc.find?, h1, ih]

theorem Assoc.find?_erase_ne (t : List (Nat × α)) (a b : Nat) (h : b ≠ a) :
    Assoc.find? (Assoc.erase t a) b = Assoc.find? t b := by
  induction t with
  | nil => rfl
  | cons c t ih =>
    obtain ⟨k, x⟩ := c
    simp only [Assoc.erase]
    split_ifs with h1
    · subst h1; simp [Assoc.find?, h, ih]
    · simp [Assoc.find?, ih]

/-- A read gives what was written. -/
theorem Tab.get_put_self (t : List (Nat × BitVec w)) (a : Nat) (v : BitVec w) : Tab.get (Tab.put t a v) a = v := by
  unfold Tab.get Tab.put
  split_ifs with h
  · simp [Assoc.find?_erase_self, h]
  · simp [Assoc.find?_insert_self]

/-- A write leaves every other key alone. -/
theorem Tab.get_put_ne (t : List (Nat × BitVec w)) (a b : Nat) (v : BitVec w) (h : b ≠ a) :
    Tab.get (Tab.put t a v) b = Tab.get t b := by
  unfold Tab.get Tab.put
  split_ifs
  · rw [Assoc.find?_erase_ne _ _ _ h]
  · rw [Assoc.find?_insert_ne _ _ _ _ h]

/-- Every key is at least a bound. -/
def Assoc.above (k : Nat) (t : List (Nat × α)) : Prop := ∀ c ∈ t, k < c.1

theorem Assoc.sorted_cons (k : Nat) (v : α) (t : List (Nat × α)) :
    Assoc.sorted ((k, v) :: t) = true ↔ Assoc.above k t ∧ Assoc.sorted t = true := by
  induction t generalizing k v with
  | nil => simp [Assoc.sorted, Assoc.above]
  | cons c t ih =>
    obtain ⟨k', v'⟩ := c
    rw [Assoc.sorted, Bool.and_eq_true, decide_eq_true_eq]
    constructor
    · rintro ⟨h, hs⟩
      refine ⟨?_, hs⟩
      have := (ih k' v').1 hs
      intro c hc
      rcases List.mem_cons.1 hc with rfl | hc
      · exact h
      · exact lt_trans h (this.1 c hc)
    · rintro ⟨h, hs⟩
      exact ⟨h (k', v') (by simp), hs⟩

theorem Assoc.mem_insert {t : List (Nat × α)} {a : Nat} {v : α} {c : Nat × α} (h : c ∈ Assoc.insert t a v) :
    c = (a, v) ∨ c ∈ t := by
  induction t with
  | nil => simpa [Assoc.insert] using h
  | cons d t ih =>
    obtain ⟨k, x⟩ := d
    simp only [Assoc.insert] at h
    split_ifs at h
    · rcases List.mem_cons.1 h with h | h
      · exact .inl h
      · exact .inr (List.mem_cons_of_mem _ h)
    · rcases List.mem_cons.1 h with h | h
      · exact .inl h
      · exact .inr h
    · rcases List.mem_cons.1 h with h | h
      · exact .inr (by simp [h])
      · rcases ih h with h | h
        · exact .inl h
        · exact .inr (List.mem_cons_of_mem _ h)

theorem Assoc.mem_erase {t : List (Nat × α)} {a : Nat} {c : Nat × α} (h : c ∈ Assoc.erase t a) : c ∈ t := by
  induction t with
  | nil => simp [Assoc.erase] at h
  | cons d t ih =>
    obtain ⟨k, x⟩ := d
    simp only [Assoc.erase] at h
    split_ifs at h
    · exact List.mem_cons_of_mem _ (ih h)
    · rcases List.mem_cons.1 h with h | h
      · exact h ▸ List.mem_cons_self
      · exact List.mem_cons_of_mem _ (ih h)

theorem Assoc.sorted_insert (t : List (Nat × α)) (a : Nat) (v : α) (h : Assoc.sorted t = true) :
    Assoc.sorted (Assoc.insert t a v) = true := by
  induction t with
  | nil => rfl
  | cons d t ih =>
    obtain ⟨k, x⟩ := d
    obtain ⟨hb, hs⟩ := (Assoc.sorted_cons k x t).1 h
    simp only [Assoc.insert]
    split_ifs with h1 h2
    · subst h1; exact (Assoc.sorted_cons _ _ _).2 ⟨hb, hs⟩
    · refine (Assoc.sorted_cons _ _ _).2 ⟨?_, h⟩
      intro c hc
      rcases List.mem_cons.1 hc with rfl | hc
      · exact h2
      · exact lt_trans h2 (hb c hc)
    · refine (Assoc.sorted_cons _ _ _).2 ⟨?_, ih hs⟩
      intro c hc
      rcases Assoc.mem_insert hc with rfl | hc
      · show k < a
        omega
      · exact hb c hc

theorem Assoc.sorted_erase (t : List (Nat × α)) (a : Nat) (h : Assoc.sorted t = true) :
    Assoc.sorted (Assoc.erase t a) = true := by
  induction t with
  | nil => rfl
  | cons d t ih =>
    obtain ⟨k, x⟩ := d
    obtain ⟨hb, hs⟩ := (Assoc.sorted_cons k x t).1 h
    simp only [Assoc.erase]
    split_ifs with h1
    · exact ih hs
    · exact (Assoc.sorted_cons _ _ _).2 ⟨fun c hc => hb c (Assoc.mem_erase hc), ih hs⟩

/-- A write keeps the canonical form. -/
theorem Tab.wf_put (t : List (Nat × BitVec w)) (a : Nat) (v : BitVec w) (h : Tab.wf t = true) :
    Tab.wf (Tab.put t a v) = true := by
  obtain ⟨hs, hz⟩ := Bool.and_eq_true _ _ ▸ h
  have hz : ∀ c ∈ t, c.2 ≠ 0 := by simpa using hz
  unfold Tab.put
  split_ifs with hv
  · have : ∀ c ∈ Assoc.erase t a, c.2 ≠ 0 := fun c hc => hz c (Assoc.mem_erase hc)
    simpa [Tab.wf, Assoc.sorted_erase t a hs] using this
  · have : ∀ c ∈ Assoc.insert t a v, c.2 ≠ 0 := fun c hc => by
      rcases Assoc.mem_insert hc with rfl | hc
      · exact hv
      · exact hz c hc
    simpa [Tab.wf, Assoc.sorted_insert t a v hs] using this

theorem Assoc.sorted_filter (t : List (Nat × α)) (p : Nat × α → Bool) (h : Assoc.sorted t = true) :
    Assoc.sorted (t.filter p) = true := by
  induction t with
  | nil => rfl
  | cons d t ih =>
    obtain ⟨k, x⟩ := d
    obtain ⟨hb, hs⟩ := (Assoc.sorted_cons k x t).1 h
    rw [List.filter_cons]
    split_ifs
    · exact (Assoc.sorted_cons _ _ _).2 ⟨fun c hc => hb c (List.mem_of_mem_filter hc), ih hs⟩
    · exact ih hs

/-- A part of a canonical table is canonical. -/
theorem Tab.wf_filter (t : List (Nat × BitVec w)) (p : Nat × BitVec w → Bool) (h : Tab.wf t = true) :
    Tab.wf (t.filter p) = true := by
  obtain ⟨hs, hz⟩ := Bool.and_eq_true _ _ ▸ h
  have hz : ∀ c ∈ t, c.2 ≠ 0 := by simpa using hz
  have : ∀ c ∈ t.filter p, c.2 ≠ 0 := fun c hc => hz c (List.mem_of_mem_filter hc)
  rw [Tab.wf, Assoc.sorted_filter t p hs, Bool.true_and, List.all_eq_true]
  exact fun c hc => decide_eq_true (this c hc)

/-- Writing a list of entries keeps the canonical form. -/
theorem Tab.wf_putAll (l t : List (Nat × BitVec w)) (h : Tab.wf t = true) :
    Tab.wf (l.foldl (fun t c => Tab.put t c.1 c.2) t) = true := by
  induction l generalizing t with
  | nil => exact h
  | cons c l ih => exact ih _ (Tab.wf_put _ _ _ h)

theorem Assoc.find?_filter (t : List (Nat × α)) (p : Nat → Bool) (a : Nat) :
    Assoc.find? (t.filter (fun c => p c.1)) a = if p a then Assoc.find? t a else none := by
  induction t with
  | nil => simp [Assoc.find?]
  | cons d t ih =>
    obtain ⟨k, x⟩ := d
    rw [List.filter_cons]
    by_cases hk : a = k
    · subst hk
      by_cases hp : p a <;> simp [Assoc.find?, hp, ih]
    · by_cases hp : p k <;> simp [Assoc.find?, hp, hk, ih]

theorem Assoc.find?_above {t : List (Nat × α)} {k : Nat} (h : Assoc.above k t) : Assoc.find? t k = none := by
  induction t with
  | nil => rfl
  | cons d t ih =>
    obtain ⟨j, x⟩ := d
    have hj : k < j := h (j, x) (by simp)
    rw [Assoc.find?, if_neg (by omega)]
    exact ih fun c hc => h c (List.mem_cons_of_mem _ hc)

/-- What a key reads as after a whole table is written into another. -/
theorem Tab.get_putAll (l t : List (Nat × BitVec w)) (a : Nat) (h : Assoc.sorted l = true) :
    Tab.get (l.foldl (fun t c => Tab.put t c.1 c.2) t) a = (Assoc.find? l a).getD (Tab.get t a) := by
  induction l generalizing t with
  | nil => rfl
  | cons d l ih =>
    obtain ⟨k, x⟩ := d
    obtain ⟨hb, hs⟩ := (Assoc.sorted_cons k x l).1 h
    rw [List.foldl_cons, ih _ hs]
    by_cases hk : a = k
    · subst hk
      rw [Assoc.find?_above hb, Tab.get_put_self]
      simp [Assoc.find?]
    · rw [Tab.get_put_ne _ _ _ _ hk]
      simp [Assoc.find?, hk]

end Sys2Proof.Machine
end

