-- ==== Sys2Proof/Laws/File.lean ====
section
/-!
SUPPORT. The register file: a field reads as it was written, and a write changes no other field and no other register.
Memory: a byte reads as it was written, and a write changes no other byte.
-/
namespace Sys2Proof.Machine

/-- A bit of a field is the bit of the word. -/
theorem testBit_bits (n lo w i : Nat) : (bits n lo w).testBit i = (decide (i < w) && n.testBit (lo + i)) := by
  simp [bits, Nat.testBit_mod_two_pow, Nat.testBit_div_two_pow, Nat.add_comm]

/-- What a write of a field leaves: the bits above it, the field, the bits below it. -/
theorem put_split (old lo w v : Nat) :
    old - bits old lo w * 2 ^ lo + v % 2 ^ w * 2 ^ lo =
      2 ^ lo * (2 ^ w * (old / 2 ^ (lo + w)) + v % 2 ^ w) + old % 2 ^ lo := by
  have h1 := Nat.div_add_mod old (2 ^ lo)
  have h2 := Nat.div_add_mod (old / 2 ^ lo) (2 ^ w)
  rw [Nat.div_div_eq_div_mul, ← pow_add] at h2
  unfold bits
  generalize old / 2 ^ (lo + w) = q at *
  generalize old / 2 ^ lo % 2 ^ w = f at *
  generalize old % 2 ^ lo = r at *
  generalize v % 2 ^ w = x at *
  have : old = 2 ^ lo * (2 ^ w * q) + f * 2 ^ lo + r := by rw [← h1, ← h2]; ring
  rw [this, show 2 ^ lo * (2 ^ w * q) + f * 2 ^ lo + r = (2 ^ lo * (2 ^ w * q) + r) + f * 2 ^ lo by ring, Nat.add_sub_cancel]
  ring

/-- A write of a field sets the field's bits and no other. -/
theorem Fld.testBit_put (f : Fld) (old : Word) (v : Nat) (h : f.lo + f.width ≤ 32) (i : Nat) :
    (f.put old v).toNat.testBit i =
      if f.lo ≤ i ∧ i < f.lo + f.width then v.testBit (i - f.lo) else old.toNat.testBit i := by
  unfold Fld.put
  rw [BitVec.toNat_ofNat, Nat.testBit_mod_two_pow, put_split,
    Nat.testBit_two_pow_mul_add _ (Nat.mod_lt _ (Nat.two_pow_pos _)),
    Nat.testBit_two_pow_mul_add _ (Nat.mod_lt _ (Nat.two_pow_pos _))]
  by_cases h1 : i < f.lo
  · simp [h1, Nat.testBit_mod_two_pow, show i < 32 by omega]
  · by_cases h2 : i < f.lo + f.width
    · simp [h1, h2, Nat.testBit_mod_two_pow, show f.lo ≤ i by omega, show i - f.lo < f.width by omega, show i < 32 by omega]
    · have hb : i < 32 ∨ old.toNat.testBit i = false := by
        by_cases hi : i < 32
        · exact .inl hi
        · exact .inr (BitVec.testBit_toNat old ▸ BitVec.getLsbD_of_ge old i (by omega))
      simp only [h1, h2, if_false, and_false, show ¬ i - f.lo < f.width by omega, Nat.testBit_div_two_pow,
        show i - f.lo - f.width + (f.lo + f.width) = i by omega]
      rcases hb with hb | hb <;> simp [hb]

/-- A field reads as it was written. -/
theorem rd_wr_self (s : State) (f : Fld) (v : Nat) (h : f.lo + f.width ≤ 32) : (s.wr f v).rd f = v % 2 ^ f.width := by
  unfold State.rd State.wr
  simp only [Tab.get_put_self]
  apply Nat.eq_of_testBit_eq
  intro i
  rw [testBit_bits, Fld.testBit_put f _ _ h, Nat.testBit_mod_two_pow]
  by_cases hi : i < f.width
  · simp [hi]
  · simp [hi]

/-- A write changes no other register. -/
theorem rd_wr_addr (s : State) (f g : Fld) (v : Nat) (h : g.addr ≠ f.addr) : (s.wr f v).rd g = s.rd g := by
  unfold State.rd State.wr
  rw [Tab.get_put_ne _ _ _ _ h]

/-- A write changes no field beside the one written. -/
theorem rd_wr_bits (s : State) (f g : Fld) (v : Nat) (h : f.lo + f.width ≤ 32)
    (hd : g.lo + g.width ≤ f.lo ∨ f.lo + f.width ≤ g.lo) : (s.wr f v).rd g = s.rd g := by
  by_cases ha : g.addr = f.addr
  · unfold State.rd State.wr
    rw [ha, Tab.get_put_self]
    apply Nat.eq_of_testBit_eq
    intro i
    rw [testBit_bits, testBit_bits, Fld.testBit_put f _ _ h]
    by_cases hi : i < g.width
    · rw [if_neg (by omega)]
    · simp [hi]
  · exact rd_wr_addr s f g v ha

/-- A register that is not written keeps its word. -/
theorem fileAt_wr_ne (s : State) (f : Fld) (v a : Nat) (h : a ≠ f.addr) : (s.wr f v).fileAt a = s.fileAt a := by
  unfold State.fileAt State.wr
  rw [Tab.get_put_ne _ _ _ _ h]

theorem fileAt_wrMasked_ne (s : State) (b mask v a : Nat) (h : a ≠ b) : (s.wrMasked b mask v).fileAt a = s.fileAt a := by
  unfold State.fileAt State.wrMasked
  rw [Tab.get_put_ne _ _ _ _ h]

/-- A byte reads as it was written. -/
theorem byte_setByte_self (s : State) (a : Nat) (b : Byte) : (s.setByte a b).byte a = b := Tab.get_put_self _ _ _

/-- A write of a byte changes no other byte. -/
theorem byte_setByte_ne (s : State) (a c : Nat) (b : Byte) (h : c ≠ a) : (s.setByte a b).byte c = s.byte c :=
  Tab.get_put_ne _ _ _ _ h

/-- A write of bytes changes none outside them. -/
theorem byte_setBytes_ne (s : State) (a c : Nat) (bs : List Byte) (h : c < a ∨ a + bs.length ≤ c) :
    (s.setBytes a bs).byte c = s.byte c := by
  unfold State.byte State.setBytes
  simp only
  induction bs generalizing a s with
  | nil => rfl
  | cons b t ih =>
    simp only [List.length_cons] at h
    refine (ih (s.setByte a b) (a + 1) (by omega)).trans ?_
    exact Tab.get_put_ne _ _ _ _ (by omega)

/-- The bytes read as they were written. -/
theorem bytes_setBytes (s : State) (a : Nat) (bs : List Byte) : (s.setBytes a bs).bytes a bs.length = bs := by
  induction bs generalizing a s with
  | nil => rfl
  | cons b t ih =>
    have h1 : (s.setBytes a (b :: t)) = (s.setByte a b).setBytes (a + 1) t := rfl
    rw [h1, List.length_cons, State.bytes, ih, byte_setBytes_ne _ _ _ _ (by omega), byte_setByte_self]

/-! ### Events and wake-ups leave the registers of other units alone -/

/-- Waking a unit shows in no register but the two that give a power state. -/
theorem fileAt_wake (s : State) (u : GUnit) (a : Nat) (h1 : a ≠ Reg.SLV_STAT_STATE.addr) (h2 : a ≠ Reg.LOOP_STAT_STATE.addr) :
    (s.wake u).fileAt a = s.fileAt a := by
  unfold State.wake
  simp only
  split_ifs
  · rfl
  · rfl
  · cases u <;> first
      | rfl
      | exact fileAt_wr_ne _ _ _ _ h1
      | exact fileAt_wr_ne _ _ _ _ h2
  · rfl

/-- Waking the Guestbook shows in no register. -/
theorem regs_wake_guestbook (s : State) : (s.wake .guestbook).regs = s.regs := by
  unfold State.wake
  simp only
  split_ifs <;> rfl

/-- An event that is recorded changes the Guestbook's registers alone. -/
theorem fileAt_post (s : State) (source code p1 p2 p3 a : Nat) (h : unitOf a ≠ Un.gb) :
    (s.post source code p1 p2 p3).fileAt a = s.fileAt a := by
  have hg : ∀ n, n < 32 → a ≠ (Reg.GB_CLASS_SUPP n).addr := by
    rintro n hn rfl
    apply h
    simp only [unitOf, Reg.GB_CLASS_SUPP, regBase, Un.gb]
    omega
  have h1 : a ≠ Reg.GB_SUPPRESSED.addr := fun e => h (by rw [e]; decide)
  have h2 : a ≠ Reg.GB_OVERRUN.addr := fun e => h (by rw [e]; decide)
  have h3 : ∀ (t : State) (c : Nat), (t.gbSuppress c).fileAt a = t.fileAt a := by
    intro t c
    have h4 : ∀ u : State, (u.bump Reg.GB_SUPPRESSED).fileAt a = u.fileAt a := fun u => fileAt_wr_ne _ _ _ _ h1
    unfold State.gbSuppress
    refine (h4 _).trans ?_
    split_ifs with h5
    · exact fileAt_wr_ne _ _ _ _ (hg _ h5)
    · rfl
  unfold State.post
  have hw : (s.wake .guestbook).fileAt a = s.fileAt a := by
    unfold State.fileAt
    rw [regs_wake_guestbook]
  revert hw
  generalize s.wake .guestbook = w
  intro hw
  simp only
  split_ifs
  · rfl
  · exact hw
  · exact (fileAt_wr_ne _ _ _ _ h2).trans ((h3 _ _).trans hw)

theorem rd_eq_fileAt (s : State) (f : Fld) : s.rd f = bits (s.fileAt f.addr) f.lo f.width := rfl

theorem rd_post (s : State) (source code p1 p2 p3 : Nat) (f : Fld) (h : unitOf f.addr ≠ Un.gb) :
    (s.post source code p1 p2 p3).rd f = s.rd f := by
  rw [rd_eq_fileAt, fileAt_post _ _ _ _ _ _ _ h, rd_eq_fileAt]

/-- An event reaches the queue of the Guestbook, where the control domain runs and the queue is not full. -/
theorem post_queue (s : State) (source code p1 p2 p3 : Nat) (hr : s.power.running = true) (hq : s.gb.queue.length < 256) :
    (s.post source code p1 p2 p3).gb.queue = gbEnter
      { code, source, p1 := p1 % 2 ^ 32, p2 := p2 % 2 ^ 32, p3 := p3 % 2 ^ 32, at_ := s.frc
        optime := s.opTime, pcycle := s.rd Reg.PTR_PCYCLE } s.gb.queue := by
  have hw : (s.wake .guestbook).gb = s.gb := by
    unfold State.wake
    simp only
    split_ifs <;> rfl
  unfold State.post
  simp only [hr, Bool.not_true, Bool.false_eq_true, if_false]
  rw [if_pos (by rw [hw]; exact hq), hw]

end Sys2Proof.Machine
end

