-- ==== Sys2Proof/Laws/State.lean ====
section
/-!
SUPPORT. One lemma per operation and part of the state: the part that the operation replaces is named, and every
other part stays as it was. Each proof is `(rfl)`: simp then cites the lemma, and the kernel does not compare states.
-/
namespace Sys2Proof.Machine

/-! ### wr -/

@[simp] theorem wr_pending (s : State) (f : Fld) (v : Nat) : (s.wr f v).pending = s.pending := (rfl)
@[simp] theorem wr_mem (s : State) (f : Fld) (v : Nat) : (s.wr f v).mem = s.mem := (rfl)
@[simp] theorem wr_ident (s : State) (f : Fld) (v : Nat) : (s.wr f v).ident = s.ident := (rfl)
@[simp] theorem wr_resp (s : State) (f : Fld) (v : Nat) : (s.wr f v).resp = s.resp := (rfl)
@[simp] theorem wr_latch (s : State) (f : Fld) (v : Nat) : (s.wr f v).latch = s.latch := (rfl)
@[simp] theorem wr_staged (s : State) (f : Fld) (v : Nat) : (s.wr f v).staged = s.staged := (rfl)
@[simp] theorem wr_gates (s : State) (f : Fld) (v : Nat) : (s.wr f v).gates = s.gates := (rfl)
@[simp] theorem wr_free (s : State) (f : Fld) (v : Nat) : (s.wr f v).free = s.free := (rfl)
@[simp] theorem wr_frc (s : State) (f : Fld) (v : Nat) : (s.wr f v).frc = s.frc := (rfl)
@[simp] theorem wr_keyMaint (s : State) (f : Fld) (v : Nat) : (s.wr f v).keyMaint = s.keyMaint := (rfl)
@[simp] theorem wr_usb (s : State) (f : Fld) (v : Nat) : (s.wr f v).usb = s.usb := (rfl)
@[simp] theorem wr_gb (s : State) (f : Fld) (v : Nat) : (s.wr f v).gb = s.gb := (rfl)
@[simp] theorem wr_fpl (s : State) (f : Fld) (v : Nat) : (s.wr f v).fpl = s.fpl := (rfl)
@[simp] theorem wr_power (s : State) (f : Fld) (v : Nat) : (s.wr f v).power = s.power := (rfl)
@[simp] theorem wr_tim (s : State) (f : Fld) (v : Nat) : (s.wr f v).tim = s.tim := (rfl)
@[simp] theorem wr_can (s : State) (f : Fld) (v : Nat) : (s.wr f v).can = s.can := (rfl)
@[simp] theorem wr_eth (s : State) (f : Fld) (v : Nat) : (s.wr f v).eth = s.eth := (rfl)
@[simp] theorem wr_ser (s : State) (f : Fld) (v : Nat) : (s.wr f v).ser = s.ser := (rfl)
@[simp] theorem wr_serEnd (s : State) (f : Fld) (v : Nat) : (s.wr f v).serEnd = s.serEnd := (rfl)
@[simp] theorem wr_heads (s : State) (f : Fld) (v : Nat) : (s.wr f v).heads = s.heads := (rfl)
@[simp] theorem wr_rio (s : State) (f : Fld) (v : Nat) : (s.wr f v).rio = s.rio := (rfl)
@[simp] theorem wr_isl (s : State) (f : Fld) (v : Nat) : (s.wr f v).isl = s.isl := (rfl)
@[simp] theorem wr_key (s : State) (f : Fld) (v : Nat) : (s.wr f v).key = s.key := (rfl)
@[simp] theorem wr_keyRefused (s : State) (f : Fld) (v : Nat) : (s.wr f v).keyRefused = s.keyRefused := (rfl)
@[simp] theorem wr_trimPers (s : State) (f : Fld) (v : Nat) : (s.wr f v).trimPers = s.trimPers := (rfl)
@[simp] theorem wr_saf (s : State) (f : Fld) (v : Nat) : (s.wr f v).saf = s.saf := (rfl)
@[simp] theorem wr_axes (s : State) (f : Fld) (v : Nat) : (s.wr f v).axes = s.axes := (rfl)
@[simp] theorem wr_lp (s : State) (f : Fld) (v : Nat) : (s.wr f v).lp = s.lp := (rfl)
@[simp] theorem wr_slv (s : State) (f : Fld) (v : Nat) : (s.wr f v).slv = s.slv := (rfl)
@[simp] theorem wr_firstOut (s : State) (f : Fld) (v : Nat) : (s.wr f v).firstOut = s.firstOut := (rfl)
@[simp] theorem wr_posted (s : State) (f : Fld) (v : Nat) : (s.wr f v).posted = s.posted := (rfl)
@[simp] theorem wr_scn (s : State) (f : Fld) (v : Nat) : (s.wr f v).scn = s.scn := (rfl)
@[simp] theorem wr_ban (s : State) (f : Fld) (v : Nat) : (s.wr f v).ban = s.ban := (rfl)
@[simp] theorem wr_rnd (s : State) (f : Fld) (v : Nat) : (s.wr f v).rnd = s.rnd := (rfl)
@[simp] theorem wr_wear (s : State) (f : Fld) (v : Nat) : (s.wr f v).wear = s.wear := (rfl)
@[simp] theorem wr_nb (s : State) (f : Fld) (v : Nat) : (s.wr f v).nb = s.nb := (rfl)
@[simp] theorem wr_anx (s : State) (f : Fld) (v : Nat) : (s.wr f v).anx = s.anx := (rfl)
@[simp] theorem wr_rx (s : State) (f : Fld) (v : Nat) : (s.wr f v).rx = s.rx := (rfl)
@[simp] theorem wr_maintAt (s : State) (f : Fld) (v : Nat) : (s.wr f v).maintAt = s.maintAt := (rfl)
@[simp] theorem wr_firstLatch (s : State) (f : Fld) (v : Nat) : (s.wr f v).firstLatch = s.firstLatch := (rfl)
@[simp] theorem wr_pgn (s : State) (f : Fld) (v : Nat) : (s.wr f v).pgn = s.pgn := (rfl)

/-! ### wrB -/

@[simp] theorem wrB_pending (s : State) (f : Fld) (b : Bool) : (s.wrB f b).pending = s.pending := (rfl)
@[simp] theorem wrB_mem (s : State) (f : Fld) (b : Bool) : (s.wrB f b).mem = s.mem := (rfl)
@[simp] theorem wrB_ident (s : State) (f : Fld) (b : Bool) : (s.wrB f b).ident = s.ident := (rfl)
@[simp] theorem wrB_resp (s : State) (f : Fld) (b : Bool) : (s.wrB f b).resp = s.resp := (rfl)
@[simp] theorem wrB_latch (s : State) (f : Fld) (b : Bool) : (s.wrB f b).latch = s.latch := (rfl)
@[simp] theorem wrB_staged (s : State) (f : Fld) (b : Bool) : (s.wrB f b).staged = s.staged := (rfl)
@[simp] theorem wrB_gates (s : State) (f : Fld) (b : Bool) : (s.wrB f b).gates = s.gates := (rfl)
@[simp] theorem wrB_free (s : State) (f : Fld) (b : Bool) : (s.wrB f b).free = s.free := (rfl)
@[simp] theorem wrB_frc (s : State) (f : Fld) (b : Bool) : (s.wrB f b).frc = s.frc := (rfl)
@[simp] theorem wrB_keyMaint (s : State) (f : Fld) (b : Bool) : (s.wrB f b).keyMaint = s.keyMaint := (rfl)
@[simp] theorem wrB_usb (s : State) (f : Fld) (b : Bool) : (s.wrB f b).usb = s.usb := (rfl)
@[simp] theorem wrB_gb (s : State) (f : Fld) (b : Bool) : (s.wrB f b).gb = s.gb := (rfl)
@[simp] theorem wrB_fpl (s : State) (f : Fld) (b : Bool) : (s.wrB f b).fpl = s.fpl := (rfl)
@[simp] theorem wrB_power (s : State) (f : Fld) (b : Bool) : (s.wrB f b).power = s.power := (rfl)
@[simp] theorem wrB_tim (s : State) (f : Fld) (b : Bool) : (s.wrB f b).tim = s.tim := (rfl)
@[simp] theorem wrB_can (s : State) (f : Fld) (b : Bool) : (s.wrB f b).can = s.can := (rfl)
@[simp] theorem wrB_eth (s : State) (f : Fld) (b : Bool) : (s.wrB f b).eth = s.eth := (rfl)
@[simp] theorem wrB_ser (s : State) (f : Fld) (b : Bool) : (s.wrB f b).ser = s.ser := (rfl)
@[simp] theorem wrB_serEnd (s : State) (f : Fld) (b : Bool) : (s.wrB f b).serEnd = s.serEnd := (rfl)
@[simp] theorem wrB_heads (s : State) (f : Fld) (b : Bool) : (s.wrB f b).heads = s.heads := (rfl)
@[simp] theorem wrB_rio (s : State) (f : Fld) (b : Bool) : (s.wrB f b).rio = s.rio := (rfl)
@[simp] theorem wrB_isl (s : State) (f : Fld) (b : Bool) : (s.wrB f b).isl = s.isl := (rfl)
@[simp] theorem wrB_key (s : State) (f : Fld) (b : Bool) : (s.wrB f b).key = s.key := (rfl)
@[simp] theorem wrB_keyRefused (s : State) (f : Fld) (b : Bool) : (s.wrB f b).keyRefused = s.keyRefused := (rfl)
@[simp] theorem wrB_trimPers (s : State) (f : Fld) (b : Bool) : (s.wrB f b).trimPers = s.trimPers := (rfl)
@[simp] theorem wrB_saf (s : State) (f : Fld) (b : Bool) : (s.wrB f b).saf = s.saf := (rfl)
@[simp] theorem wrB_axes (s : State) (f : Fld) (b : Bool) : (s.wrB f b).axes = s.axes := (rfl)
@[simp] theorem wrB_lp (s : State) (f : Fld) (b : Bool) : (s.wrB f b).lp = s.lp := (rfl)
@[simp] theorem wrB_slv (s : State) (f : Fld) (b : Bool) : (s.wrB f b).slv = s.slv := (rfl)
@[simp] theorem wrB_firstOut (s : State) (f : Fld) (b : Bool) : (s.wrB f b).firstOut = s.firstOut := (rfl)
@[simp] theorem wrB_posted (s : State) (f : Fld) (b : Bool) : (s.wrB f b).posted = s.posted := (rfl)
@[simp] theorem wrB_scn (s : State) (f : Fld) (b : Bool) : (s.wrB f b).scn = s.scn := (rfl)
@[simp] theorem wrB_ban (s : State) (f : Fld) (b : Bool) : (s.wrB f b).ban = s.ban := (rfl)
@[simp] theorem wrB_rnd (s : State) (f : Fld) (b : Bool) : (s.wrB f b).rnd = s.rnd := (rfl)
@[simp] theorem wrB_wear (s : State) (f : Fld) (b : Bool) : (s.wrB f b).wear = s.wear := (rfl)
@[simp] theorem wrB_nb (s : State) (f : Fld) (b : Bool) : (s.wrB f b).nb = s.nb := (rfl)
@[simp] theorem wrB_anx (s : State) (f : Fld) (b : Bool) : (s.wrB f b).anx = s.anx := (rfl)
@[simp] theorem wrB_rx (s : State) (f : Fld) (b : Bool) : (s.wrB f b).rx = s.rx := (rfl)
@[simp] theorem wrB_maintAt (s : State) (f : Fld) (b : Bool) : (s.wrB f b).maintAt = s.maintAt := (rfl)
@[simp] theorem wrB_firstLatch (s : State) (f : Fld) (b : Bool) : (s.wrB f b).firstLatch = s.firstLatch := (rfl)
@[simp] theorem wrB_pgn (s : State) (f : Fld) (b : Bool) : (s.wrB f b).pgn = s.pgn := (rfl)

/-! ### bump -/

@[simp] theorem bump_pending (s : State) (f : Fld) : (s.bump f).pending = s.pending := (rfl)
@[simp] theorem bump_mem (s : State) (f : Fld) : (s.bump f).mem = s.mem := (rfl)
@[simp] theorem bump_ident (s : State) (f : Fld) : (s.bump f).ident = s.ident := (rfl)
@[simp] theorem bump_resp (s : State) (f : Fld) : (s.bump f).resp = s.resp := (rfl)
@[simp] theorem bump_latch (s : State) (f : Fld) : (s.bump f).latch = s.latch := (rfl)
@[simp] theorem bump_staged (s : State) (f : Fld) : (s.bump f).staged = s.staged := (rfl)
@[simp] theorem bump_gates (s : State) (f : Fld) : (s.bump f).gates = s.gates := (rfl)
@[simp] theorem bump_free (s : State) (f : Fld) : (s.bump f).free = s.free := (rfl)
@[simp] theorem bump_frc (s : State) (f : Fld) : (s.bump f).frc = s.frc := (rfl)
@[simp] theorem bump_keyMaint (s : State) (f : Fld) : (s.bump f).keyMaint = s.keyMaint := (rfl)
@[simp] theorem bump_usb (s : State) (f : Fld) : (s.bump f).usb = s.usb := (rfl)
@[simp] theorem bump_gb (s : State) (f : Fld) : (s.bump f).gb = s.gb := (rfl)
@[simp] theorem bump_fpl (s : State) (f : Fld) : (s.bump f).fpl = s.fpl := (rfl)
@[simp] theorem bump_power (s : State) (f : Fld) : (s.bump f).power = s.power := (rfl)
@[simp] theorem bump_tim (s : State) (f : Fld) : (s.bump f).tim = s.tim := (rfl)
@[simp] theorem bump_can (s : State) (f : Fld) : (s.bump f).can = s.can := (rfl)
@[simp] theorem bump_eth (s : State) (f : Fld) : (s.bump f).eth = s.eth := (rfl)
@[simp] theorem bump_ser (s : State) (f : Fld) : (s.bump f).ser = s.ser := (rfl)
@[simp] theorem bump_serEnd (s : State) (f : Fld) : (s.bump f).serEnd = s.serEnd := (rfl)
@[simp] theorem bump_heads (s : State) (f : Fld) : (s.bump f).heads = s.heads := (rfl)
@[simp] theorem bump_rio (s : State) (f : Fld) : (s.bump f).rio = s.rio := (rfl)
@[simp] theorem bump_isl (s : State) (f : Fld) : (s.bump f).isl = s.isl := (rfl)
@[simp] theorem bump_key (s : State) (f : Fld) : (s.bump f).key = s.key := (rfl)
@[simp] theorem bump_keyRefused (s : State) (f : Fld) : (s.bump f).keyRefused = s.keyRefused := (rfl)
@[simp] theorem bump_trimPers (s : State) (f : Fld) : (s.bump f).trimPers = s.trimPers := (rfl)
@[simp] theorem bump_saf (s : State) (f : Fld) : (s.bump f).saf = s.saf := (rfl)
@[simp] theorem bump_axes (s : State) (f : Fld) : (s.bump f).axes = s.axes := (rfl)
@[simp] theorem bump_lp (s : State) (f : Fld) : (s.bump f).lp = s.lp := (rfl)
@[simp] theorem bump_slv (s : State) (f : Fld) : (s.bump f).slv = s.slv := (rfl)
@[simp] theorem bump_firstOut (s : State) (f : Fld) : (s.bump f).firstOut = s.firstOut := (rfl)
@[simp] theorem bump_posted (s : State) (f : Fld) : (s.bump f).posted = s.posted := (rfl)
@[simp] theorem bump_scn (s : State) (f : Fld) : (s.bump f).scn = s.scn := (rfl)
@[simp] theorem bump_ban (s : State) (f : Fld) : (s.bump f).ban = s.ban := (rfl)
@[simp] theorem bump_rnd (s : State) (f : Fld) : (s.bump f).rnd = s.rnd := (rfl)
@[simp] theorem bump_wear (s : State) (f : Fld) : (s.bump f).wear = s.wear := (rfl)
@[simp] theorem bump_nb (s : State) (f : Fld) : (s.bump f).nb = s.nb := (rfl)
@[simp] theorem bump_anx (s : State) (f : Fld) : (s.bump f).anx = s.anx := (rfl)
@[simp] theorem bump_rx (s : State) (f : Fld) : (s.bump f).rx = s.rx := (rfl)
@[simp] theorem bump_maintAt (s : State) (f : Fld) : (s.bump f).maintAt = s.maintAt := (rfl)
@[simp] theorem bump_firstLatch (s : State) (f : Fld) : (s.bump f).firstLatch = s.firstLatch := (rfl)
@[simp] theorem bump_pgn (s : State) (f : Fld) : (s.bump f).pgn = s.pgn := (rfl)

/-! ### bumpBy -/

@[simp] theorem bumpBy_pending (s : State) (f : Fld) (n : Nat) : (s.bumpBy f n).pending = s.pending := (rfl)
@[simp] theorem bumpBy_mem (s : State) (f : Fld) (n : Nat) : (s.bumpBy f n).mem = s.mem := (rfl)
@[simp] theorem bumpBy_ident (s : State) (f : Fld) (n : Nat) : (s.bumpBy f n).ident = s.ident := (rfl)
@[simp] theorem bumpBy_resp (s : State) (f : Fld) (n : Nat) : (s.bumpBy f n).resp = s.resp := (rfl)
@[simp] theorem bumpBy_latch (s : State) (f : Fld) (n : Nat) : (s.bumpBy f n).latch = s.latch := (rfl)
@[simp] theorem bumpBy_staged (s : State) (f : Fld) (n : Nat) : (s.bumpBy f n).staged = s.staged := (rfl)
@[simp] theorem bumpBy_gates (s : State) (f : Fld) (n : Nat) : (s.bumpBy f n).gates = s.gates := (rfl)
@[simp] theorem bumpBy_free (s : State) (f : Fld) (n : Nat) : (s.bumpBy f n).free = s.free := (rfl)
@[simp] theorem bumpBy_frc (s : State) (f : Fld) (n : Nat) : (s.bumpBy f n).frc = s.frc := (rfl)
@[simp] theorem bumpBy_keyMaint (s : State) (f : Fld) (n : Nat) : (s.bumpBy f n).keyMaint = s.keyMaint := (rfl)
@[simp] theorem bumpBy_usb (s : State) (f : Fld) (n : Nat) : (s.bumpBy f n).usb = s.usb := (rfl)
@[simp] theorem bumpBy_gb (s : State) (f : Fld) (n : Nat) : (s.bumpBy f n).gb = s.gb := (rfl)
@[simp] theorem bumpBy_fpl (s : State) (f : Fld) (n : Nat) : (s.bumpBy f n).fpl = s.fpl := (rfl)
@[simp] theorem bumpBy_power (s : State) (f : Fld) (n : Nat) : (s.bumpBy f n).power = s.power := (rfl)
@[simp] theorem bumpBy_tim (s : State) (f : Fld) (n : Nat) : (s.bumpBy f n).tim = s.tim := (rfl)
@[simp] theorem bumpBy_can (s : State) (f : Fld) (n : Nat) : (s.bumpBy f n).can = s.can := (rfl)
@[simp] theorem bumpBy_eth (s : State) (f : Fld) (n : Nat) : (s.bumpBy f n).eth = s.eth := (rfl)
@[simp] theorem bumpBy_ser (s : State) (f : Fld) (n : Nat) : (s.bumpBy f n).ser = s.ser := (rfl)
@[simp] theorem bumpBy_serEnd (s : State) (f : Fld) (n : Nat) : (s.bumpBy f n).serEnd = s.serEnd := (rfl)
@[simp] theorem bumpBy_heads (s : State) (f : Fld) (n : Nat) : (s.bumpBy f n).heads = s.heads := (rfl)
@[simp] theorem bumpBy_rio (s : State) (f : Fld) (n : Nat) : (s.bumpBy f n).rio = s.rio := (rfl)
@[simp] theorem bumpBy_isl (s : State) (f : Fld) (n : Nat) : (s.bumpBy f n).isl = s.isl := (rfl)
@[simp] theorem bumpBy_key (s : State) (f : Fld) (n : Nat) : (s.bumpBy f n).key = s.key := (rfl)
@[simp] theorem bumpBy_keyRefused (s : State) (f : Fld) (n : Nat) : (s.bumpBy f n).keyRefused = s.keyRefused := (rfl)
@[simp] theorem bumpBy_trimPers (s : State) (f : Fld) (n : Nat) : (s.bumpBy f n).trimPers = s.trimPers := (rfl)
@[simp] theorem bumpBy_saf (s : State) (f : Fld) (n : Nat) : (s.bumpBy f n).saf = s.saf := (rfl)
@[simp] theorem bumpBy_axes (s : State) (f : Fld) (n : Nat) : (s.bumpBy f n).axes = s.axes := (rfl)
@[simp] theorem bumpBy_lp (s : State) (f : Fld) (n : Nat) : (s.bumpBy f n).lp = s.lp := (rfl)
@[simp] theorem bumpBy_slv (s : State) (f : Fld) (n : Nat) : (s.bumpBy f n).slv = s.slv := (rfl)
@[simp] theorem bumpBy_firstOut (s : State) (f : Fld) (n : Nat) : (s.bumpBy f n).firstOut = s.firstOut := (rfl)
@[simp] theorem bumpBy_posted (s : State) (f : Fld) (n : Nat) : (s.bumpBy f n).posted = s.posted := (rfl)
@[simp] theorem bumpBy_scn (s : State) (f : Fld) (n : Nat) : (s.bumpBy f n).scn = s.scn := (rfl)
@[simp] theorem bumpBy_ban (s : State) (f : Fld) (n : Nat) : (s.bumpBy f n).ban = s.ban := (rfl)
@[simp] theorem bumpBy_rnd (s : State) (f : Fld) (n : Nat) : (s.bumpBy f n).rnd = s.rnd := (rfl)
@[simp] theorem bumpBy_wear (s : State) (f : Fld) (n : Nat) : (s.bumpBy f n).wear = s.wear := (rfl)
@[simp] theorem bumpBy_nb (s : State) (f : Fld) (n : Nat) : (s.bumpBy f n).nb = s.nb := (rfl)
@[simp] theorem bumpBy_anx (s : State) (f : Fld) (n : Nat) : (s.bumpBy f n).anx = s.anx := (rfl)
@[simp] theorem bumpBy_rx (s : State) (f : Fld) (n : Nat) : (s.bumpBy f n).rx = s.rx := (rfl)
@[simp] theorem bumpBy_maintAt (s : State) (f : Fld) (n : Nat) : (s.bumpBy f n).maintAt = s.maintAt := (rfl)
@[simp] theorem bumpBy_firstLatch (s : State) (f : Fld) (n : Nat) : (s.bumpBy f n).firstLatch = s.firstLatch := (rfl)
@[simp] theorem bumpBy_pgn (s : State) (f : Fld) (n : Nat) : (s.bumpBy f n).pgn = s.pgn := (rfl)

/-! ### wr64 -/

@[simp] theorem wr64_pending (s : State) (l h : Fld) (v : Nat) : (s.wr64 l h v).pending = s.pending := (rfl)
@[simp] theorem wr64_mem (s : State) (l h : Fld) (v : Nat) : (s.wr64 l h v).mem = s.mem := (rfl)
@[simp] theorem wr64_ident (s : State) (l h : Fld) (v : Nat) : (s.wr64 l h v).ident = s.ident := (rfl)
@[simp] theorem wr64_resp (s : State) (l h : Fld) (v : Nat) : (s.wr64 l h v).resp = s.resp := (rfl)
@[simp] theorem wr64_latch (s : State) (l h : Fld) (v : Nat) : (s.wr64 l h v).latch = s.latch := (rfl)
@[simp] theorem wr64_staged (s : State) (l h : Fld) (v : Nat) : (s.wr64 l h v).staged = s.staged := (rfl)
@[simp] theorem wr64_gates (s : State) (l h : Fld) (v : Nat) : (s.wr64 l h v).gates = s.gates := (rfl)
@[simp] theorem wr64_free (s : State) (l h : Fld) (v : Nat) : (s.wr64 l h v).free = s.free := (rfl)
@[simp] theorem wr64_frc (s : State) (l h : Fld) (v : Nat) : (s.wr64 l h v).frc = s.frc := (rfl)
@[simp] theorem wr64_keyMaint (s : State) (l h : Fld) (v : Nat) : (s.wr64 l h v).keyMaint = s.keyMaint := (rfl)
@[simp] theorem wr64_usb (s : State) (l h : Fld) (v : Nat) : (s.wr64 l h v).usb = s.usb := (rfl)
@[simp] theorem wr64_gb (s : State) (l h : Fld) (v : Nat) : (s.wr64 l h v).gb = s.gb := (rfl)
@[simp] theorem wr64_fpl (s : State) (l h : Fld) (v : Nat) : (s.wr64 l h v).fpl = s.fpl := (rfl)
@[simp] theorem wr64_power (s : State) (l h : Fld) (v : Nat) : (s.wr64 l h v).power = s.power := (rfl)
@[simp] theorem wr64_tim (s : State) (l h : Fld) (v : Nat) : (s.wr64 l h v).tim = s.tim := (rfl)
@[simp] theorem wr64_can (s : State) (l h : Fld) (v : Nat) : (s.wr64 l h v).can = s.can := (rfl)
@[simp] theorem wr64_eth (s : State) (l h : Fld) (v : Nat) : (s.wr64 l h v).eth = s.eth := (rfl)
@[simp] theorem wr64_ser (s : State) (l h : Fld) (v : Nat) : (s.wr64 l h v).ser = s.ser := (rfl)
@[simp] theorem wr64_serEnd (s : State) (l h : Fld) (v : Nat) : (s.wr64 l h v).serEnd = s.serEnd := (rfl)
@[simp] theorem wr64_heads (s : State) (l h : Fld) (v : Nat) : (s.wr64 l h v).heads = s.heads := (rfl)
@[simp] theorem wr64_rio (s : State) (l h : Fld) (v : Nat) : (s.wr64 l h v).rio = s.rio := (rfl)
@[simp] theorem wr64_isl (s : State) (l h : Fld) (v : Nat) : (s.wr64 l h v).isl = s.isl := (rfl)
@[simp] theorem wr64_key (s : State) (l h : Fld) (v : Nat) : (s.wr64 l h v).key = s.key := (rfl)
@[simp] theorem wr64_keyRefused (s : State) (l h : Fld) (v : Nat) : (s.wr64 l h v).keyRefused = s.keyRefused := (rfl)
@[simp] theorem wr64_trimPers (s : State) (l h : Fld) (v : Nat) : (s.wr64 l h v).trimPers = s.trimPers := (rfl)
@[simp] theorem wr64_saf (s : State) (l h : Fld) (v : Nat) : (s.wr64 l h v).saf = s.saf := (rfl)
@[simp] theorem wr64_axes (s : State) (l h : Fld) (v : Nat) : (s.wr64 l h v).axes = s.axes := (rfl)
@[simp] theorem wr64_lp (s : State) (l h : Fld) (v : Nat) : (s.wr64 l h v).lp = s.lp := (rfl)
@[simp] theorem wr64_slv (s : State) (l h : Fld) (v : Nat) : (s.wr64 l h v).slv = s.slv := (rfl)
@[simp] theorem wr64_firstOut (s : State) (l h : Fld) (v : Nat) : (s.wr64 l h v).firstOut = s.firstOut := (rfl)
@[simp] theorem wr64_posted (s : State) (l h : Fld) (v : Nat) : (s.wr64 l h v).posted = s.posted := (rfl)
@[simp] theorem wr64_scn (s : State) (l h : Fld) (v : Nat) : (s.wr64 l h v).scn = s.scn := (rfl)
@[simp] theorem wr64_ban (s : State) (l h : Fld) (v : Nat) : (s.wr64 l h v).ban = s.ban := (rfl)
@[simp] theorem wr64_rnd (s : State) (l h : Fld) (v : Nat) : (s.wr64 l h v).rnd = s.rnd := (rfl)
@[simp] theorem wr64_wear (s : State) (l h : Fld) (v : Nat) : (s.wr64 l h v).wear = s.wear := (rfl)
@[simp] theorem wr64_nb (s : State) (l h : Fld) (v : Nat) : (s.wr64 l h v).nb = s.nb := (rfl)
@[simp] theorem wr64_anx (s : State) (l h : Fld) (v : Nat) : (s.wr64 l h v).anx = s.anx := (rfl)
@[simp] theorem wr64_rx (s : State) (l h : Fld) (v : Nat) : (s.wr64 l h v).rx = s.rx := (rfl)
@[simp] theorem wr64_maintAt (s : State) (l h : Fld) (v : Nat) : (s.wr64 l h v).maintAt = s.maintAt := (rfl)
@[simp] theorem wr64_firstLatch (s : State) (l h : Fld) (v : Nat) : (s.wr64 l h v).firstLatch = s.firstLatch := (rfl)
@[simp] theorem wr64_pgn (s : State) (l h : Fld) (v : Nat) : (s.wr64 l h v).pgn = s.pgn := (rfl)

/-! ### wrMasked -/

@[simp] theorem wrMasked_pending (s : State) (a m v : Nat) : (s.wrMasked a m v).pending = s.pending := (rfl)
@[simp] theorem wrMasked_mem (s : State) (a m v : Nat) : (s.wrMasked a m v).mem = s.mem := (rfl)
@[simp] theorem wrMasked_ident (s : State) (a m v : Nat) : (s.wrMasked a m v).ident = s.ident := (rfl)
@[simp] theorem wrMasked_resp (s : State) (a m v : Nat) : (s.wrMasked a m v).resp = s.resp := (rfl)
@[simp] theorem wrMasked_latch (s : State) (a m v : Nat) : (s.wrMasked a m v).latch = s.latch := (rfl)
@[simp] theorem wrMasked_staged (s : State) (a m v : Nat) : (s.wrMasked a m v).staged = s.staged := (rfl)
@[simp] theorem wrMasked_gates (s : State) (a m v : Nat) : (s.wrMasked a m v).gates = s.gates := (rfl)
@[simp] theorem wrMasked_free (s : State) (a m v : Nat) : (s.wrMasked a m v).free = s.free := (rfl)
@[simp] theorem wrMasked_frc (s : State) (a m v : Nat) : (s.wrMasked a m v).frc = s.frc := (rfl)
@[simp] theorem wrMasked_keyMaint (s : State) (a m v : Nat) : (s.wrMasked a m v).keyMaint = s.keyMaint := (rfl)
@[simp] theorem wrMasked_usb (s : State) (a m v : Nat) : (s.wrMasked a m v).usb = s.usb := (rfl)
@[simp] theorem wrMasked_gb (s : State) (a m v : Nat) : (s.wrMasked a m v).gb = s.gb := (rfl)
@[simp] theorem wrMasked_fpl (s : State) (a m v : Nat) : (s.wrMasked a m v).fpl = s.fpl := (rfl)
@[simp] theorem wrMasked_power (s : State) (a m v : Nat) : (s.wrMasked a m v).power = s.power := (rfl)
@[simp] theorem wrMasked_tim (s : State) (a m v : Nat) : (s.wrMasked a m v).tim = s.tim := (rfl)
@[simp] theorem wrMasked_can (s : State) (a m v : Nat) : (s.wrMasked a m v).can = s.can := (rfl)
@[simp] theorem wrMasked_eth (s : State) (a m v : Nat) : (s.wrMasked a m v).eth = s.eth := (rfl)
@[simp] theorem wrMasked_ser (s : State) (a m v : Nat) : (s.wrMasked a m v).ser = s.ser := (rfl)
@[simp] theorem wrMasked_serEnd (s : State) (a m v : Nat) : (s.wrMasked a m v).serEnd = s.serEnd := (rfl)
@[simp] theorem wrMasked_heads (s : State) (a m v : Nat) : (s.wrMasked a m v).heads = s.heads := (rfl)
@[simp] theorem wrMasked_rio (s : State) (a m v : Nat) : (s.wrMasked a m v).rio = s.rio := (rfl)
@[simp] theorem wrMasked_isl (s : State) (a m v : Nat) : (s.wrMasked a m v).isl = s.isl := (rfl)
@[simp] theorem wrMasked_key (s : State) (a m v : Nat) : (s.wrMasked a m v).key = s.key := (rfl)
@[simp] theorem wrMasked_keyRefused (s : State) (a m v : Nat) : (s.wrMasked a m v).keyRefused = s.keyRefused := (rfl)
@[simp] theorem wrMasked_trimPers (s : State) (a m v : Nat) : (s.wrMasked a m v).trimPers = s.trimPers := (rfl)
@[simp] theorem wrMasked_saf (s : State) (a m v : Nat) : (s.wrMasked a m v).saf = s.saf := (rfl)
@[simp] theorem wrMasked_axes (s : State) (a m v : Nat) : (s.wrMasked a m v).axes = s.axes := (rfl)
@[simp] theorem wrMasked_lp (s : State) (a m v : Nat) : (s.wrMasked a m v).lp = s.lp := (rfl)
@[simp] theorem wrMasked_slv (s : State) (a m v : Nat) : (s.wrMasked a m v).slv = s.slv := (rfl)
@[simp] theorem wrMasked_firstOut (s : State) (a m v : Nat) : (s.wrMasked a m v).firstOut = s.firstOut := (rfl)
@[simp] theorem wrMasked_posted (s : State) (a m v : Nat) : (s.wrMasked a m v).posted = s.posted := (rfl)
@[simp] theorem wrMasked_scn (s : State) (a m v : Nat) : (s.wrMasked a m v).scn = s.scn := (rfl)
@[simp] theorem wrMasked_ban (s : State) (a m v : Nat) : (s.wrMasked a m v).ban = s.ban := (rfl)
@[simp] theorem wrMasked_rnd (s : State) (a m v : Nat) : (s.wrMasked a m v).rnd = s.rnd := (rfl)
@[simp] theorem wrMasked_wear (s : State) (a m v : Nat) : (s.wrMasked a m v).wear = s.wear := (rfl)
@[simp] theorem wrMasked_nb (s : State) (a m v : Nat) : (s.wrMasked a m v).nb = s.nb := (rfl)
@[simp] theorem wrMasked_anx (s : State) (a m v : Nat) : (s.wrMasked a m v).anx = s.anx := (rfl)
@[simp] theorem wrMasked_rx (s : State) (a m v : Nat) : (s.wrMasked a m v).rx = s.rx := (rfl)
@[simp] theorem wrMasked_maintAt (s : State) (a m v : Nat) : (s.wrMasked a m v).maintAt = s.maintAt := (rfl)
@[simp] theorem wrMasked_firstLatch (s : State) (a m v : Nat) : (s.wrMasked a m v).firstLatch = s.firstLatch := (rfl)
@[simp] theorem wrMasked_pgn (s : State) (a m v : Nat) : (s.wrMasked a m v).pgn = s.pgn := (rfl)

/-! ### setByte -/

@[simp] theorem setByte_pending (s : State) (a : Nat) (b : Byte) : (s.setByte a b).pending = s.pending := (rfl)
@[simp] theorem setByte_regs (s : State) (a : Nat) (b : Byte) : (s.setByte a b).regs = s.regs := (rfl)
@[simp] theorem setByte_mem (s : State) (a : Nat) (b : Byte) : (s.setByte a b).mem = Tab.put s.mem a b := (rfl)
@[simp] theorem setByte_ident (s : State) (a : Nat) (b : Byte) : (s.setByte a b).ident = s.ident := (rfl)
@[simp] theorem setByte_resp (s : State) (a : Nat) (b : Byte) : (s.setByte a b).resp = s.resp := (rfl)
@[simp] theorem setByte_latch (s : State) (a : Nat) (b : Byte) : (s.setByte a b).latch = s.latch := (rfl)
@[simp] theorem setByte_staged (s : State) (a : Nat) (b : Byte) : (s.setByte a b).staged = s.staged := (rfl)
@[simp] theorem setByte_gates (s : State) (a : Nat) (b : Byte) : (s.setByte a b).gates = s.gates := (rfl)
@[simp] theorem setByte_free (s : State) (a : Nat) (b : Byte) : (s.setByte a b).free = s.free := (rfl)
@[simp] theorem setByte_frc (s : State) (a : Nat) (b : Byte) : (s.setByte a b).frc = s.frc := (rfl)
@[simp] theorem setByte_keyMaint (s : State) (a : Nat) (b : Byte) : (s.setByte a b).keyMaint = s.keyMaint := (rfl)
@[simp] theorem setByte_usb (s : State) (a : Nat) (b : Byte) : (s.setByte a b).usb = s.usb := (rfl)
@[simp] theorem setByte_gb (s : State) (a : Nat) (b : Byte) : (s.setByte a b).gb = s.gb := (rfl)
@[simp] theorem setByte_fpl (s : State) (a : Nat) (b : Byte) : (s.setByte a b).fpl = s.fpl := (rfl)
@[simp] theorem setByte_power (s : State) (a : Nat) (b : Byte) : (s.setByte a b).power = s.power := (rfl)
@[simp] theorem setByte_tim (s : State) (a : Nat) (b : Byte) : (s.setByte a b).tim = s.tim := (rfl)
@[simp] theorem setByte_can (s : State) (a : Nat) (b : Byte) : (s.setByte a b).can = s.can := (rfl)
@[simp] theorem setByte_eth (s : State) (a : Nat) (b : Byte) : (s.setByte a b).eth = s.eth := (rfl)
@[simp] theorem setByte_ser (s : State) (a : Nat) (b : Byte) : (s.setByte a b).ser = s.ser := (rfl)
@[simp] theorem setByte_serEnd (s : State) (a : Nat) (b : Byte) : (s.setByte a b).serEnd = s.serEnd := (rfl)
@[simp] theorem setByte_heads (s : State) (a : Nat) (b : Byte) : (s.setByte a b).heads = s.heads := (rfl)
@[simp] theorem setByte_rio (s : State) (a : Nat) (b : Byte) : (s.setByte a b).rio = s.rio := (rfl)
@[simp] theorem setByte_isl (s : State) (a : Nat) (b : Byte) : (s.setByte a b).isl = s.isl := (rfl)
@[simp] theorem setByte_key (s : State) (a : Nat) (b : Byte) : (s.setByte a b).key = s.key := (rfl)
@[simp] theorem setByte_keyRefused (s : State) (a : Nat) (b : Byte) : (s.setByte a b).keyRefused = s.keyRefused := (rfl)
@[simp] theorem setByte_trimPers (s : State) (a : Nat) (b : Byte) : (s.setByte a b).trimPers = s.trimPers := (rfl)
@[simp] theorem setByte_saf (s : State) (a : Nat) (b : Byte) : (s.setByte a b).saf = s.saf := (rfl)
@[simp] theorem setByte_axes (s : State) (a : Nat) (b : Byte) : (s.setByte a b).axes = s.axes := (rfl)
@[simp] theorem setByte_lp (s : State) (a : Nat) (b : Byte) : (s.setByte a b).lp = s.lp := (rfl)
@[simp] theorem setByte_slv (s : State) (a : Nat) (b : Byte) : (s.setByte a b).slv = s.slv := (rfl)
@[simp] theorem setByte_firstOut (s : State) (a : Nat) (b : Byte) : (s.setByte a b).firstOut = s.firstOut := (rfl)
@[simp] theorem setByte_posted (s : State) (a : Nat) (b : Byte) : (s.setByte a b).posted = s.posted := (rfl)
@[simp] theorem setByte_scn (s : State) (a : Nat) (b : Byte) : (s.setByte a b).scn = s.scn := (rfl)
@[simp] theorem setByte_ban (s : State) (a : Nat) (b : Byte) : (s.setByte a b).ban = s.ban := (rfl)
@[simp] theorem setByte_rnd (s : State) (a : Nat) (b : Byte) : (s.setByte a b).rnd = s.rnd := (rfl)
@[simp] theorem setByte_wear (s : State) (a : Nat) (b : Byte) : (s.setByte a b).wear = s.wear := (rfl)
@[simp] theorem setByte_nb (s : State) (a : Nat) (b : Byte) : (s.setByte a b).nb = s.nb := (rfl)
@[simp] theorem setByte_anx (s : State) (a : Nat) (b : Byte) : (s.setByte a b).anx = s.anx := (rfl)
@[simp] theorem setByte_rx (s : State) (a : Nat) (b : Byte) : (s.setByte a b).rx = s.rx := (rfl)
@[simp] theorem setByte_maintAt (s : State) (a : Nat) (b : Byte) : (s.setByte a b).maintAt = s.maintAt := (rfl)
@[simp] theorem setByte_firstLatch (s : State) (a : Nat) (b : Byte) : (s.setByte a b).firstLatch = s.firstLatch := (rfl)
@[simp] theorem setByte_pgn (s : State) (a : Nat) (b : Byte) : (s.setByte a b).pgn = s.pgn := (rfl)
@[simp] theorem setByte_rd (s : State) (a : Nat) (b : Byte) (k : Fld) : (s.setByte a b).rd k = s.rd k := (rfl)
@[simp] theorem setByte_on (s : State) (a : Nat) (b : Byte) (k : Fld) : (s.setByte a b).on k = s.on k := (rfl)

/-! ### setBytes -/

@[simp] theorem setBytes_pending (s : State) (a : Nat) (b : List Byte) : (s.setBytes a b).pending = s.pending := (rfl)
@[simp] theorem setBytes_regs (s : State) (a : Nat) (b : List Byte) : (s.setBytes a b).regs = s.regs := (rfl)
@[simp] theorem setBytes_mem (s : State) (a : Nat) (b : List Byte) : (s.setBytes a b).mem = putBytes s.mem a b := (rfl)
@[simp] theorem setBytes_ident (s : State) (a : Nat) (b : List Byte) : (s.setBytes a b).ident = s.ident := (rfl)
@[simp] theorem setBytes_resp (s : State) (a : Nat) (b : List Byte) : (s.setBytes a b).resp = s.resp := (rfl)
@[simp] theorem setBytes_latch (s : State) (a : Nat) (b : List Byte) : (s.setBytes a b).latch = s.latch := (rfl)
@[simp] theorem setBytes_staged (s : State) (a : Nat) (b : List Byte) : (s.setBytes a b).staged = s.staged := (rfl)
@[simp] theorem setBytes_gates (s : State) (a : Nat) (b : List Byte) : (s.setBytes a b).gates = s.gates := (rfl)
@[simp] theorem setBytes_free (s : State) (a : Nat) (b : List Byte) : (s.setBytes a b).free = s.free := (rfl)
@[simp] theorem setBytes_frc (s : State) (a : Nat) (b : List Byte) : (s.setBytes a b).frc = s.frc := (rfl)
@[simp] theorem setBytes_keyMaint (s : State) (a : Nat) (b : List Byte) : (s.setBytes a b).keyMaint = s.keyMaint := (rfl)
@[simp] theorem setBytes_usb (s : State) (a : Nat) (b : List Byte) : (s.setBytes a b).usb = s.usb := (rfl)
@[simp] theorem setBytes_gb (s : State) (a : Nat) (b : List Byte) : (s.setBytes a b).gb = s.gb := (rfl)
@[simp] theorem setBytes_fpl (s : State) (a : Nat) (b : List Byte) : (s.setBytes a b).fpl = s.fpl := (rfl)
@[simp] theorem setBytes_power (s : State) (a : Nat) (b : List Byte) : (s.setBytes a b).power = s.power := (rfl)
@[simp] theorem setBytes_tim (s : State) (a : Nat) (b : List Byte) : (s.setBytes a b).tim = s.tim := (rfl)
@[simp] theorem setBytes_can (s : State) (a : Nat) (b : List Byte) : (s.setBytes a b).can = s.can := (rfl)
@[simp] theorem setBytes_eth (s : State) (a : Nat) (b : List Byte) : (s.setBytes a b).eth = s.eth := (rfl)
@[simp] theorem setBytes_ser (s : State) (a : Nat) (b : List Byte) : (s.setBytes a b).ser = s.ser := (rfl)
@[simp] theorem setBytes_serEnd (s : State) (a : Nat) (b : List Byte) : (s.setBytes a b).serEnd = s.serEnd := (rfl)
@[simp] theorem setBytes_heads (s : State) (a : Nat) (b : List Byte) : (s.setBytes a b).heads = s.heads := (rfl)
@[simp] theorem setBytes_rio (s : State) (a : Nat) (b : List Byte) : (s.setBytes a b).rio = s.rio := (rfl)
@[simp] theorem setBytes_isl (s : State) (a : Nat) (b : List Byte) : (s.setBytes a b).isl = s.isl := (rfl)
@[simp] theorem setBytes_key (s : State) (a : Nat) (b : List Byte) : (s.setBytes a b).key = s.key := (rfl)
@[simp] theorem setBytes_keyRefused (s : State) (a : Nat) (b : List Byte) : (s.setBytes a b).keyRefused = s.keyRefused := (rfl)
@[simp] theorem setBytes_trimPers (s : State) (a : Nat) (b : List Byte) : (s.setBytes a b).trimPers = s.trimPers := (rfl)
@[simp] theorem setBytes_saf (s : State) (a : Nat) (b : List Byte) : (s.setBytes a b).saf = s.saf := (rfl)
@[simp] theorem setBytes_axes (s : State) (a : Nat) (b : List Byte) : (s.setBytes a b).axes = s.axes := (rfl)
@[simp] theorem setBytes_lp (s : State) (a : Nat) (b : List Byte) : (s.setBytes a b).lp = s.lp := (rfl)
@[simp] theorem setBytes_slv (s : State) (a : Nat) (b : List Byte) : (s.setBytes a b).slv = s.slv := (rfl)
@[simp] theorem setBytes_firstOut (s : State) (a : Nat) (b : List Byte) : (s.setBytes a b).firstOut = s.firstOut := (rfl)
@[simp] theorem setBytes_posted (s : State) (a : Nat) (b : List Byte) : (s.setBytes a b).posted = s.posted := (rfl)
@[simp] theorem setBytes_scn (s : State) (a : Nat) (b : List Byte) : (s.setBytes a b).scn = s.scn := (rfl)
@[simp] theorem setBytes_ban (s : State) (a : Nat) (b : List Byte) : (s.setBytes a b).ban = s.ban := (rfl)
@[simp] theorem setBytes_rnd (s : State) (a : Nat) (b : List Byte) : (s.setBytes a b).rnd = s.rnd := (rfl)
@[simp] theorem setBytes_wear (s : State) (a : Nat) (b : List Byte) : (s.setBytes a b).wear = s.wear := (rfl)
@[simp] theorem setBytes_nb (s : State) (a : Nat) (b : List Byte) : (s.setBytes a b).nb = s.nb := (rfl)
@[simp] theorem setBytes_anx (s : State) (a : Nat) (b : List Byte) : (s.setBytes a b).anx = s.anx := (rfl)
@[simp] theorem setBytes_rx (s : State) (a : Nat) (b : List Byte) : (s.setBytes a b).rx = s.rx := (rfl)
@[simp] theorem setBytes_maintAt (s : State) (a : Nat) (b : List Byte) : (s.setBytes a b).maintAt = s.maintAt := (rfl)
@[simp] theorem setBytes_firstLatch (s : State) (a : Nat) (b : List Byte) : (s.setBytes a b).firstLatch = s.firstLatch := (rfl)
@[simp] theorem setBytes_pgn (s : State) (a : Nat) (b : List Byte) : (s.setBytes a b).pgn = s.pgn := (rfl)
@[simp] theorem setBytes_rd (s : State) (a : Nat) (b : List Byte) (k : Fld) : (s.setBytes a b).rd k = s.rd k := (rfl)
@[simp] theorem setBytes_on (s : State) (a : Nat) (b : List Byte) (k : Fld) : (s.setBytes a b).on k = s.on k := (rfl)

/-! ### useFree -/

@[simp] theorem useFree_pending (s : State) : (s.useFree).pending = s.pending := (rfl)
@[simp] theorem useFree_regs (s : State) : (s.useFree).regs = s.regs := (rfl)
@[simp] theorem useFree_mem (s : State) : (s.useFree).mem = s.mem := (rfl)
@[simp] theorem useFree_ident (s : State) : (s.useFree).ident = s.ident := (rfl)
@[simp] theorem useFree_resp (s : State) : (s.useFree).resp = s.resp := (rfl)
@[simp] theorem useFree_latch (s : State) : (s.useFree).latch = s.latch := (rfl)
@[simp] theorem useFree_staged (s : State) : (s.useFree).staged = s.staged := (rfl)
@[simp] theorem useFree_gates (s : State) : (s.useFree).gates = s.gates := (rfl)
@[simp] theorem useFree_free (s : State) : (s.useFree).free = s.free + 1 := (rfl)
@[simp] theorem useFree_frc (s : State) : (s.useFree).frc = s.frc := (rfl)
@[simp] theorem useFree_keyMaint (s : State) : (s.useFree).keyMaint = s.keyMaint := (rfl)
@[simp] theorem useFree_usb (s : State) : (s.useFree).usb = s.usb := (rfl)
@[simp] theorem useFree_gb (s : State) : (s.useFree).gb = s.gb := (rfl)
@[simp] theorem useFree_fpl (s : State) : (s.useFree).fpl = s.fpl := (rfl)
@[simp] theorem useFree_power (s : State) : (s.useFree).power = s.power := (rfl)
@[simp] theorem useFree_tim (s : State) : (s.useFree).tim = s.tim := (rfl)
@[simp] theorem useFree_can (s : State) : (s.useFree).can = s.can := (rfl)
@[simp] theorem useFree_eth (s : State) : (s.useFree).eth = s.eth := (rfl)
@[simp] theorem useFree_ser (s : State) : (s.useFree).ser = s.ser := (rfl)
@[simp] theorem useFree_serEnd (s : State) : (s.useFree).serEnd = s.serEnd := (rfl)
@[simp] theorem useFree_heads (s : State) : (s.useFree).heads = s.heads := (rfl)
@[simp] theorem useFree_rio (s : State) : (s.useFree).rio = s.rio := (rfl)
@[simp] theorem useFree_isl (s : State) : (s.useFree).isl = s.isl := (rfl)
@[simp] theorem useFree_key (s : State) : (s.useFree).key = s.key := (rfl)
@[simp] theorem useFree_keyRefused (s : State) : (s.useFree).keyRefused = s.keyRefused := (rfl)
@[simp] theorem useFree_trimPers (s : State) : (s.useFree).trimPers = s.trimPers := (rfl)
@[simp] theorem useFree_saf (s : State) : (s.useFree).saf = s.saf := (rfl)
@[simp] theorem useFree_axes (s : State) : (s.useFree).axes = s.axes := (rfl)
@[simp] theorem useFree_lp (s : State) : (s.useFree).lp = s.lp := (rfl)
@[simp] theorem useFree_slv (s : State) : (s.useFree).slv = s.slv := (rfl)
@[simp] theorem useFree_firstOut (s : State) : (s.useFree).firstOut = s.firstOut := (rfl)
@[simp] theorem useFree_posted (s : State) : (s.useFree).posted = s.posted := (rfl)
@[simp] theorem useFree_scn (s : State) : (s.useFree).scn = s.scn := (rfl)
@[simp] theorem useFree_ban (s : State) : (s.useFree).ban = s.ban := (rfl)
@[simp] theorem useFree_rnd (s : State) : (s.useFree).rnd = s.rnd := (rfl)
@[simp] theorem useFree_wear (s : State) : (s.useFree).wear = s.wear := (rfl)
@[simp] theorem useFree_nb (s : State) : (s.useFree).nb = s.nb := (rfl)
@[simp] theorem useFree_anx (s : State) : (s.useFree).anx = s.anx := (rfl)
@[simp] theorem useFree_rx (s : State) : (s.useFree).rx = s.rx := (rfl)
@[simp] theorem useFree_maintAt (s : State) : (s.useFree).maintAt = s.maintAt := (rfl)
@[simp] theorem useFree_firstLatch (s : State) : (s.useFree).firstLatch = s.firstLatch := (rfl)
@[simp] theorem useFree_pgn (s : State) : (s.useFree).pgn = s.pgn := (rfl)
@[simp] theorem useFree_rd (s : State) (k : Fld) : (s.useFree).rd k = s.rd k := (rfl)
@[simp] theorem useFree_on (s : State) (k : Fld) : (s.useFree).on k = s.on k := (rfl)

/-! ### setGate -/

@[simp] theorem setGate_pending (s : State) (u : GUnit) (g : Gate) : (s.setGate u g).pending = s.pending := (rfl)
@[simp] theorem setGate_regs (s : State) (u : GUnit) (g : Gate) : (s.setGate u g).regs = s.regs := (rfl)
@[simp] theorem setGate_mem (s : State) (u : GUnit) (g : Gate) : (s.setGate u g).mem = s.mem := (rfl)
@[simp] theorem setGate_ident (s : State) (u : GUnit) (g : Gate) : (s.setGate u g).ident = s.ident := (rfl)
@[simp] theorem setGate_resp (s : State) (u : GUnit) (g : Gate) : (s.setGate u g).resp = s.resp := (rfl)
@[simp] theorem setGate_latch (s : State) (u : GUnit) (g : Gate) : (s.setGate u g).latch = s.latch := (rfl)
@[simp] theorem setGate_staged (s : State) (u : GUnit) (g : Gate) : (s.setGate u g).staged = s.staged := (rfl)
@[simp] theorem setGate_gates (s : State) (u : GUnit) (g : Gate) : (s.setGate u g).gates = Assoc.insert s.gates (gateKey u) g := (rfl)
@[simp] theorem setGate_free (s : State) (u : GUnit) (g : Gate) : (s.setGate u g).free = s.free := (rfl)
@[simp] theorem setGate_frc (s : State) (u : GUnit) (g : Gate) : (s.setGate u g).frc = s.frc := (rfl)
@[simp] theorem setGate_keyMaint (s : State) (u : GUnit) (g : Gate) : (s.setGate u g).keyMaint = s.keyMaint := (rfl)
@[simp] theorem setGate_usb (s : State) (u : GUnit) (g : Gate) : (s.setGate u g).usb = s.usb := (rfl)
@[simp] theorem setGate_gb (s : State) (u : GUnit) (g : Gate) : (s.setGate u g).gb = s.gb := (rfl)
@[simp] theorem setGate_fpl (s : State) (u : GUnit) (g : Gate) : (s.setGate u g).fpl = s.fpl := (rfl)
@[simp] theorem setGate_power (s : State) (u : GUnit) (g : Gate) : (s.setGate u g).power = s.power := (rfl)
@[simp] theorem setGate_tim (s : State) (u : GUnit) (g : Gate) : (s.setGate u g).tim = s.tim := (rfl)
@[simp] theorem setGate_can (s : State) (u : GUnit) (g : Gate) : (s.setGate u g).can = s.can := (rfl)
@[simp] theorem setGate_eth (s : State) (u : GUnit) (g : Gate) : (s.setGate u g).eth = s.eth := (rfl)
@[simp] theorem setGate_ser (s : State) (u : GUnit) (g : Gate) : (s.setGate u g).ser = s.ser := (rfl)
@[simp] theorem setGate_serEnd (s : State) (u : GUnit) (g : Gate) : (s.setGate u g).serEnd = s.serEnd := (rfl)
@[simp] theorem setGate_heads (s : State) (u : GUnit) (g : Gate) : (s.setGate u g).heads = s.heads := (rfl)
@[simp] theorem setGate_rio (s : State) (u : GUnit) (g : Gate) : (s.setGate u g).rio = s.rio := (rfl)
@[simp] theorem setGate_isl (s : State) (u : GUnit) (g : Gate) : (s.setGate u g).isl = s.isl := (rfl)
@[simp] theorem setGate_key (s : State) (u : GUnit) (g : Gate) : (s.setGate u g).key = s.key := (rfl)
@[simp] theorem setGate_keyRefused (s : State) (u : GUnit) (g : Gate) : (s.setGate u g).keyRefused = s.keyRefused := (rfl)
@[simp] theorem setGate_trimPers (s : State) (u : GUnit) (g : Gate) : (s.setGate u g).trimPers = s.trimPers := (rfl)
@[simp] theorem setGate_saf (s : State) (u : GUnit) (g : Gate) : (s.setGate u g).saf = s.saf := (rfl)
@[simp] theorem setGate_axes (s : State) (u : GUnit) (g : Gate) : (s.setGate u g).axes = s.axes := (rfl)
@[simp] theorem setGate_lp (s : State) (u : GUnit) (g : Gate) : (s.setGate u g).lp = s.lp := (rfl)
@[simp] theorem setGate_slv (s : State) (u : GUnit) (g : Gate) : (s.setGate u g).slv = s.slv := (rfl)
@[simp] theorem setGate_firstOut (s : State) (u : GUnit) (g : Gate) : (s.setGate u g).firstOut = s.firstOut := (rfl)
@[simp] theorem setGate_posted (s : State) (u : GUnit) (g : Gate) : (s.setGate u g).posted = s.posted := (rfl)
@[simp] theorem setGate_scn (s : State) (u : GUnit) (g : Gate) : (s.setGate u g).scn = s.scn := (rfl)
@[simp] theorem setGate_ban (s : State) (u : GUnit) (g : Gate) : (s.setGate u g).ban = s.ban := (rfl)
@[simp] theorem setGate_rnd (s : State) (u : GUnit) (g : Gate) : (s.setGate u g).rnd = s.rnd := (rfl)
@[simp] theorem setGate_wear (s : State) (u : GUnit) (g : Gate) : (s.setGate u g).wear = s.wear := (rfl)
@[simp] theorem setGate_nb (s : State) (u : GUnit) (g : Gate) : (s.setGate u g).nb = s.nb := (rfl)
@[simp] theorem setGate_anx (s : State) (u : GUnit) (g : Gate) : (s.setGate u g).anx = s.anx := (rfl)
@[simp] theorem setGate_rx (s : State) (u : GUnit) (g : Gate) : (s.setGate u g).rx = s.rx := (rfl)
@[simp] theorem setGate_maintAt (s : State) (u : GUnit) (g : Gate) : (s.setGate u g).maintAt = s.maintAt := (rfl)
@[simp] theorem setGate_firstLatch (s : State) (u : GUnit) (g : Gate) : (s.setGate u g).firstLatch = s.firstLatch := (rfl)
@[simp] theorem setGate_pgn (s : State) (u : GUnit) (g : Gate) : (s.setGate u g).pgn = s.pgn := (rfl)
@[simp] theorem setGate_rd (s : State) (u : GUnit) (g : Gate) (k : Fld) : (s.setGate u g).rd k = s.rd k := (rfl)
@[simp] theorem setGate_on (s : State) (u : GUnit) (g : Gate) (k : Fld) : (s.setGate u g).on k = s.on k := (rfl)

/-! ### setLatch -/

@[simp] theorem setLatch_pending (s : State) (m : Master) (a v : Nat) : (s.setLatch m a v).pending = s.pending := (rfl)
@[simp] theorem setLatch_regs (s : State) (m : Master) (a v : Nat) : (s.setLatch m a v).regs = s.regs := (rfl)
@[simp] theorem setLatch_mem (s : State) (m : Master) (a v : Nat) : (s.setLatch m a v).mem = s.mem := (rfl)
@[simp] theorem setLatch_ident (s : State) (m : Master) (a v : Nat) : (s.setLatch m a v).ident = s.ident := (rfl)
@[simp] theorem setLatch_resp (s : State) (m : Master) (a v : Nat) : (s.setLatch m a v).resp = s.resp := (rfl)
@[simp] theorem setLatch_staged (s : State) (m : Master) (a v : Nat) : (s.setLatch m a v).staged = s.staged := (rfl)
@[simp] theorem setLatch_gates (s : State) (m : Master) (a v : Nat) : (s.setLatch m a v).gates = s.gates := (rfl)
@[simp] theorem setLatch_free (s : State) (m : Master) (a v : Nat) : (s.setLatch m a v).free = s.free := (rfl)
@[simp] theorem setLatch_frc (s : State) (m : Master) (a v : Nat) : (s.setLatch m a v).frc = s.frc := (rfl)
@[simp] theorem setLatch_keyMaint (s : State) (m : Master) (a v : Nat) : (s.setLatch m a v).keyMaint = s.keyMaint := (rfl)
@[simp] theorem setLatch_usb (s : State) (m : Master) (a v : Nat) : (s.setLatch m a v).usb = s.usb := (rfl)
@[simp] theorem setLatch_gb (s : State) (m : Master) (a v : Nat) : (s.setLatch m a v).gb = s.gb := (rfl)
@[simp] theorem setLatch_fpl (s : State) (m : Master) (a v : Nat) : (s.setLatch m a v).fpl = s.fpl := (rfl)
@[simp] theorem setLatch_power (s : State) (m : Master) (a v : Nat) : (s.setLatch m a v).power = s.power := (rfl)
@[simp] theorem setLatch_tim (s : State) (m : Master) (a v : Nat) : (s.setLatch m a v).tim = s.tim := (rfl)
@[simp] theorem setLatch_can (s : State) (m : Master) (a v : Nat) : (s.setLatch m a v).can = s.can := (rfl)
@[simp] theorem setLatch_eth (s : State) (m : Master) (a v : Nat) : (s.setLatch m a v).eth = s.eth := (rfl)
@[simp] theorem setLatch_ser (s : State) (m : Master) (a v : Nat) : (s.setLatch m a v).ser = s.ser := (rfl)
@[simp] theorem setLatch_serEnd (s : State) (m : Master) (a v : Nat) : (s.setLatch m a v).serEnd = s.serEnd := (rfl)
@[simp] theorem setLatch_heads (s : State) (m : Master) (a v : Nat) : (s.setLatch m a v).heads = s.heads := (rfl)
@[simp] theorem setLatch_rio (s : State) (m : Master) (a v : Nat) : (s.setLatch m a v).rio = s.rio := (rfl)
@[simp] theorem setLatch_isl (s : State) (m : Master) (a v : Nat) : (s.setLatch m a v).isl = s.isl := (rfl)
@[simp] theorem setLatch_key (s : State) (m : Master) (a v : Nat) : (s.setLatch m a v).key = s.key := (rfl)
@[simp] theorem setLatch_keyRefused (s : State) (m : Master) (a v : Nat) : (s.setLatch m a v).keyRefused = s.keyRefused := (rfl)
@[simp] theorem setLatch_trimPers (s : State) (m : Master) (a v : Nat) : (s.setLatch m a v).trimPers = s.trimPers := (rfl)
@[simp] theorem setLatch_saf (s : State) (m : Master) (a v : Nat) : (s.setLatch m a v).saf = s.saf := (rfl)
@[simp] theorem setLatch_axes (s : State) (m : Master) (a v : Nat) : (s.setLatch m a v).axes = s.axes := (rfl)
@[simp] theorem setLatch_lp (s : State) (m : Master) (a v : Nat) : (s.setLatch m a v).lp = s.lp := (rfl)
@[simp] theorem setLatch_slv (s : State) (m : Master) (a v : Nat) : (s.setLatch m a v).slv = s.slv := (rfl)
@[simp] theorem setLatch_firstOut (s : State) (m : Master) (a v : Nat) : (s.setLatch m a v).firstOut = s.firstOut := (rfl)
@[simp] theorem setLatch_posted (s : State) (m : Master) (a v : Nat) : (s.setLatch m a v).posted = s.posted := (rfl)
@[simp] theorem setLatch_scn (s : State) (m : Master) (a v : Nat) : (s.setLatch m a v).scn = s.scn := (rfl)
@[simp] theorem setLatch_ban (s : State) (m : Master) (a v : Nat) : (s.setLatch m a v).ban = s.ban := (rfl)
@[simp] theorem setLatch_rnd (s : State) (m : Master) (a v : Nat) : (s.setLatch m a v).rnd = s.rnd := (rfl)
@[simp] theorem setLatch_wear (s : State) (m : Master) (a v : Nat) : (s.setLatch m a v).wear = s.wear := (rfl)
@[simp] theorem setLatch_nb (s : State) (m : Master) (a v : Nat) : (s.setLatch m a v).nb = s.nb := (rfl)
@[simp] theorem setLatch_anx (s : State) (m : Master) (a v : Nat) : (s.setLatch m a v).anx = s.anx := (rfl)
@[simp] theorem setLatch_rx (s : State) (m : Master) (a v : Nat) : (s.setLatch m a v).rx = s.rx := (rfl)
@[simp] theorem setLatch_maintAt (s : State) (m : Master) (a v : Nat) : (s.setLatch m a v).maintAt = s.maintAt := (rfl)
@[simp] theorem setLatch_firstLatch (s : State) (m : Master) (a v : Nat) : (s.setLatch m a v).firstLatch = s.firstLatch := (rfl)
@[simp] theorem setLatch_pgn (s : State) (m : Master) (a v : Nat) : (s.setLatch m a v).pgn = s.pgn := (rfl)
@[simp] theorem setLatch_rd (s : State) (m : Master) (a v : Nat) (k : Fld) : (s.setLatch m a v).rd k = s.rd k := (rfl)
@[simp] theorem setLatch_on (s : State) (m : Master) (a v : Nat) (k : Fld) : (s.setLatch m a v).on k = s.on k := (rfl)

/-! ### stageLo -/

@[simp] theorem stageLo_pending (s : State) (m : Master) (a v : Nat) : (s.stageLo m a v).pending = s.pending := (rfl)
@[simp] theorem stageLo_regs (s : State) (m : Master) (a v : Nat) : (s.stageLo m a v).regs = s.regs := (rfl)
@[simp] theorem stageLo_mem (s : State) (m : Master) (a v : Nat) : (s.stageLo m a v).mem = s.mem := (rfl)
@[simp] theorem stageLo_ident (s : State) (m : Master) (a v : Nat) : (s.stageLo m a v).ident = s.ident := (rfl)
@[simp] theorem stageLo_resp (s : State) (m : Master) (a v : Nat) : (s.stageLo m a v).resp = s.resp := (rfl)
@[simp] theorem stageLo_latch (s : State) (m : Master) (a v : Nat) : (s.stageLo m a v).latch = s.latch := (rfl)
@[simp] theorem stageLo_gates (s : State) (m : Master) (a v : Nat) : (s.stageLo m a v).gates = s.gates := (rfl)
@[simp] theorem stageLo_free (s : State) (m : Master) (a v : Nat) : (s.stageLo m a v).free = s.free := (rfl)
@[simp] theorem stageLo_frc (s : State) (m : Master) (a v : Nat) : (s.stageLo m a v).frc = s.frc := (rfl)
@[simp] theorem stageLo_keyMaint (s : State) (m : Master) (a v : Nat) : (s.stageLo m a v).keyMaint = s.keyMaint := (rfl)
@[simp] theorem stageLo_usb (s : State) (m : Master) (a v : Nat) : (s.stageLo m a v).usb = s.usb := (rfl)
@[simp] theorem stageLo_gb (s : State) (m : Master) (a v : Nat) : (s.stageLo m a v).gb = s.gb := (rfl)
@[simp] theorem stageLo_fpl (s : State) (m : Master) (a v : Nat) : (s.stageLo m a v).fpl = s.fpl := (rfl)
@[simp] theorem stageLo_power (s : State) (m : Master) (a v : Nat) : (s.stageLo m a v).power = s.power := (rfl)
@[simp] theorem stageLo_tim (s : State) (m : Master) (a v : Nat) : (s.stageLo m a v).tim = s.tim := (rfl)
@[simp] theorem stageLo_can (s : State) (m : Master) (a v : Nat) : (s.stageLo m a v).can = s.can := (rfl)
@[simp] theorem stageLo_eth (s : State) (m : Master) (a v : Nat) : (s.stageLo m a v).eth = s.eth := (rfl)
@[simp] theorem stageLo_ser (s : State) (m : Master) (a v : Nat) : (s.stageLo m a v).ser = s.ser := (rfl)
@[simp] theorem stageLo_serEnd (s : State) (m : Master) (a v : Nat) : (s.stageLo m a v).serEnd = s.serEnd := (rfl)
@[simp] theorem stageLo_heads (s : State) (m : Master) (a v : Nat) : (s.stageLo m a v).heads = s.heads := (rfl)
@[simp] theorem stageLo_rio (s : State) (m : Master) (a v : Nat) : (s.stageLo m a v).rio = s.rio := (rfl)
@[simp] theorem stageLo_isl (s : State) (m : Master) (a v : Nat) : (s.stageLo m a v).isl = s.isl := (rfl)
@[simp] theorem stageLo_key (s : State) (m : Master) (a v : Nat) : (s.stageLo m a v).key = s.key := (rfl)
@[simp] theorem stageLo_keyRefused (s : State) (m : Master) (a v : Nat) : (s.stageLo m a v).keyRefused = s.keyRefused := (rfl)
@[simp] theorem stageLo_trimPers (s : State) (m : Master) (a v : Nat) : (s.stageLo m a v).trimPers = s.trimPers := (rfl)
@[simp] theorem stageLo_saf (s : State) (m : Master) (a v : Nat) : (s.stageLo m a v).saf = s.saf := (rfl)
@[simp] theorem stageLo_axes (s : State) (m : Master) (a v : Nat) : (s.stageLo m a v).axes = s.axes := (rfl)
@[simp] theorem stageLo_lp (s : State) (m : Master) (a v : Nat) : (s.stageLo m a v).lp = s.lp := (rfl)
@[simp] theorem stageLo_slv (s : State) (m : Master) (a v : Nat) : (s.stageLo m a v).slv = s.slv := (rfl)
@[simp] theorem stageLo_firstOut (s : State) (m : Master) (a v : Nat) : (s.stageLo m a v).firstOut = s.firstOut := (rfl)
@[simp] theorem stageLo_posted (s : State) (m : Master) (a v : Nat) : (s.stageLo m a v).posted = s.posted := (rfl)
@[simp] theorem stageLo_scn (s : State) (m : Master) (a v : Nat) : (s.stageLo m a v).scn = s.scn := (rfl)
@[simp] theorem stageLo_ban (s : State) (m : Master) (a v : Nat) : (s.stageLo m a v).ban = s.ban := (rfl)
@[simp] theorem stageLo_rnd (s : State) (m : Master) (a v : Nat) : (s.stageLo m a v).rnd = s.rnd := (rfl)
@[simp] theorem stageLo_wear (s : State) (m : Master) (a v : Nat) : (s.stageLo m a v).wear = s.wear := (rfl)
@[simp] theorem stageLo_nb (s : State) (m : Master) (a v : Nat) : (s.stageLo m a v).nb = s.nb := (rfl)
@[simp] theorem stageLo_anx (s : State) (m : Master) (a v : Nat) : (s.stageLo m a v).anx = s.anx := (rfl)
@[simp] theorem stageLo_rx (s : State) (m : Master) (a v : Nat) : (s.stageLo m a v).rx = s.rx := (rfl)
@[simp] theorem stageLo_maintAt (s : State) (m : Master) (a v : Nat) : (s.stageLo m a v).maintAt = s.maintAt := (rfl)
@[simp] theorem stageLo_firstLatch (s : State) (m : Master) (a v : Nat) : (s.stageLo m a v).firstLatch = s.firstLatch := (rfl)
@[simp] theorem stageLo_pgn (s : State) (m : Master) (a v : Nat) : (s.stageLo m a v).pgn = s.pgn := (rfl)
@[simp] theorem stageLo_rd (s : State) (m : Master) (a v : Nat) (k : Fld) : (s.stageLo m a v).rd k = s.rd k := (rfl)
@[simp] theorem stageLo_on (s : State) (m : Master) (a v : Nat) (k : Fld) : (s.stageLo m a v).on k = s.on k := (rfl)

/-! ### unstage -/

@[simp] theorem unstage_pending (s : State) (m : Master) (a : Nat) : (s.unstage m a).pending = s.pending := (rfl)
@[simp] theorem unstage_regs (s : State) (m : Master) (a : Nat) : (s.unstage m a).regs = s.regs := (rfl)
@[simp] theorem unstage_mem (s : State) (m : Master) (a : Nat) : (s.unstage m a).mem = s.mem := (rfl)
@[simp] theorem unstage_ident (s : State) (m : Master) (a : Nat) : (s.unstage m a).ident = s.ident := (rfl)
@[simp] theorem unstage_resp (s : State) (m : Master) (a : Nat) : (s.unstage m a).resp = s.resp := (rfl)
@[simp] theorem unstage_latch (s : State) (m : Master) (a : Nat) : (s.unstage m a).latch = s.latch := (rfl)
@[simp] theorem unstage_gates (s : State) (m : Master) (a : Nat) : (s.unstage m a).gates = s.gates := (rfl)
@[simp] theorem unstage_free (s : State) (m : Master) (a : Nat) : (s.unstage m a).free = s.free := (rfl)
@[simp] theorem unstage_frc (s : State) (m : Master) (a : Nat) : (s.unstage m a).frc = s.frc := (rfl)
@[simp] theorem unstage_keyMaint (s : State) (m : Master) (a : Nat) : (s.unstage m a).keyMaint = s.keyMaint := (rfl)
@[simp] theorem unstage_usb (s : State) (m : Master) (a : Nat) : (s.unstage m a).usb = s.usb := (rfl)
@[simp] theorem unstage_gb (s : State) (m : Master) (a : Nat) : (s.unstage m a).gb = s.gb := (rfl)
@[simp] theorem unstage_fpl (s : State) (m : Master) (a : Nat) : (s.unstage m a).fpl = s.fpl := (rfl)
@[simp] theorem unstage_power (s : State) (m : Master) (a : Nat) : (s.unstage m a).power = s.power := (rfl)
@[simp] theorem unstage_tim (s : State) (m : Master) (a : Nat) : (s.unstage m a).tim = s.tim := (rfl)
@[simp] theorem unstage_can (s : State) (m : Master) (a : Nat) : (s.unstage m a).can = s.can := (rfl)
@[simp] theorem unstage_eth (s : State) (m : Master) (a : Nat) : (s.unstage m a).eth = s.eth := (rfl)
@[simp] theorem unstage_ser (s : State) (m : Master) (a : Nat) : (s.unstage m a).ser = s.ser := (rfl)
@[simp] theorem unstage_serEnd (s : State) (m : Master) (a : Nat) : (s.unstage m a).serEnd = s.serEnd := (rfl)
@[simp] theorem unstage_heads (s : State) (m : Master) (a : Nat) : (s.unstage m a).heads = s.heads := (rfl)
@[simp] theorem unstage_rio (s : State) (m : Master) (a : Nat) : (s.unstage m a).rio = s.rio := (rfl)
@[simp] theorem unstage_isl (s : State) (m : Master) (a : Nat) : (s.unstage m a).isl = s.isl := (rfl)
@[simp] theorem unstage_key (s : State) (m : Master) (a : Nat) : (s.unstage m a).key = s.key := (rfl)
@[simp] theorem unstage_keyRefused (s : State) (m : Master) (a : Nat) : (s.unstage m a).keyRefused = s.keyRefused := (rfl)
@[simp] theorem unstage_trimPers (s : State) (m : Master) (a : Nat) : (s.unstage m a).trimPers = s.trimPers := (rfl)
@[simp] theorem unstage_saf (s : State) (m : Master) (a : Nat) : (s.unstage m a).saf = s.saf := (rfl)
@[simp] theorem unstage_axes (s : State) (m : Master) (a : Nat) : (s.unstage m a).axes = s.axes := (rfl)
@[simp] theorem unstage_lp (s : State) (m : Master) (a : Nat) : (s.unstage m a).lp = s.lp := (rfl)
@[simp] theorem unstage_slv (s : State) (m : Master) (a : Nat) : (s.unstage m a).slv = s.slv := (rfl)
@[simp] theorem unstage_firstOut (s : State) (m : Master) (a : Nat) : (s.unstage m a).firstOut = s.firstOut := (rfl)
@[simp] theorem unstage_posted (s : State) (m : Master) (a : Nat) : (s.unstage m a).posted = s.posted := (rfl)
@[simp] theorem unstage_scn (s : State) (m : Master) (a : Nat) : (s.unstage m a).scn = s.scn := (rfl)
@[simp] theorem unstage_ban (s : State) (m : Master) (a : Nat) : (s.unstage m a).ban = s.ban := (rfl)
@[simp] theorem unstage_rnd (s : State) (m : Master) (a : Nat) : (s.unstage m a).rnd = s.rnd := (rfl)
@[simp] theorem unstage_wear (s : State) (m : Master) (a : Nat) : (s.unstage m a).wear = s.wear := (rfl)
@[simp] theorem unstage_nb (s : State) (m : Master) (a : Nat) : (s.unstage m a).nb = s.nb := (rfl)
@[simp] theorem unstage_anx (s : State) (m : Master) (a : Nat) : (s.unstage m a).anx = s.anx := (rfl)
@[simp] theorem unstage_rx (s : State) (m : Master) (a : Nat) : (s.unstage m a).rx = s.rx := (rfl)
@[simp] theorem unstage_maintAt (s : State) (m : Master) (a : Nat) : (s.unstage m a).maintAt = s.maintAt := (rfl)
@[simp] theorem unstage_firstLatch (s : State) (m : Master) (a : Nat) : (s.unstage m a).firstLatch = s.firstLatch := (rfl)
@[simp] theorem unstage_pgn (s : State) (m : Master) (a : Nat) : (s.unstage m a).pgn = s.pgn := (rfl)
@[simp] theorem unstage_rd (s : State) (m : Master) (a : Nat) (k : Fld) : (s.unstage m a).rd k = s.rd k := (rfl)
@[simp] theorem unstage_on (s : State) (m : Master) (a : Nat) (k : Fld) : (s.unstage m a).on k = s.on k := (rfl)

/-! ### respond -/

@[simp] theorem respond_pending (s : State) (r : Response) : (s.respond r).pending = s.pending := (rfl)
@[simp] theorem respond_regs (s : State) (r : Response) : (s.respond r).regs = s.regs := (rfl)
@[simp] theorem respond_mem (s : State) (r : Response) : (s.respond r).mem = s.mem := (rfl)
@[simp] theorem respond_ident (s : State) (r : Response) : (s.respond r).ident = s.ident := (rfl)
@[simp] theorem respond_resp (s : State) (r : Response) : (s.respond r).resp = r := (rfl)
@[simp] theorem respond_latch (s : State) (r : Response) : (s.respond r).latch = s.latch := (rfl)
@[simp] theorem respond_staged (s : State) (r : Response) : (s.respond r).staged = s.staged := (rfl)
@[simp] theorem respond_gates (s : State) (r : Response) : (s.respond r).gates = s.gates := (rfl)
@[simp] theorem respond_free (s : State) (r : Response) : (s.respond r).free = s.free := (rfl)
@[simp] theorem respond_frc (s : State) (r : Response) : (s.respond r).frc = s.frc := (rfl)
@[simp] theorem respond_keyMaint (s : State) (r : Response) : (s.respond r).keyMaint = s.keyMaint := (rfl)
@[simp] theorem respond_usb (s : State) (r : Response) : (s.respond r).usb = s.usb := (rfl)
@[simp] theorem respond_gb (s : State) (r : Response) : (s.respond r).gb = s.gb := (rfl)
@[simp] theorem respond_fpl (s : State) (r : Response) : (s.respond r).fpl = s.fpl := (rfl)
@[simp] theorem respond_power (s : State) (r : Response) : (s.respond r).power = s.power := (rfl)
@[simp] theorem respond_tim (s : State) (r : Response) : (s.respond r).tim = s.tim := (rfl)
@[simp] theorem respond_can (s : State) (r : Response) : (s.respond r).can = s.can := (rfl)
@[simp] theorem respond_eth (s : State) (r : Response) : (s.respond r).eth = s.eth := (rfl)
@[simp] theorem respond_ser (s : State) (r : Response) : (s.respond r).ser = s.ser := (rfl)
@[simp] theorem respond_serEnd (s : State) (r : Response) : (s.respond r).serEnd = s.serEnd := (rfl)
@[simp] theorem respond_heads (s : State) (r : Response) : (s.respond r).heads = s.heads := (rfl)
@[simp] theorem respond_rio (s : State) (r : Response) : (s.respond r).rio = s.rio := (rfl)
@[simp] theorem respond_isl (s : State) (r : Response) : (s.respond r).isl = s.isl := (rfl)
@[simp] theorem respond_key (s : State) (r : Response) : (s.respond r).key = s.key := (rfl)
@[simp] theorem respond_keyRefused (s : State) (r : Response) : (s.respond r).keyRefused = s.keyRefused := (rfl)
@[simp] theorem respond_trimPers (s : State) (r : Response) : (s.respond r).trimPers = s.trimPers := (rfl)
@[simp] theorem respond_saf (s : State) (r : Response) : (s.respond r).saf = s.saf := (rfl)
@[simp] theorem respond_axes (s : State) (r : Response) : (s.respond r).axes = s.axes := (rfl)
@[simp] theorem respond_lp (s : State) (r : Response) : (s.respond r).lp = s.lp := (rfl)
@[simp] theorem respond_slv (s : State) (r : Response) : (s.respond r).slv = s.slv := (rfl)
@[simp] theorem respond_firstOut (s : State) (r : Response) : (s.respond r).firstOut = s.firstOut := (rfl)
@[simp] theorem respond_posted (s : State) (r : Response) : (s.respond r).posted = s.posted := (rfl)
@[simp] theorem respond_scn (s : State) (r : Response) : (s.respond r).scn = s.scn := (rfl)
@[simp] theorem respond_ban (s : State) (r : Response) : (s.respond r).ban = s.ban := (rfl)
@[simp] theorem respond_rnd (s : State) (r : Response) : (s.respond r).rnd = s.rnd := (rfl)
@[simp] theorem respond_wear (s : State) (r : Response) : (s.respond r).wear = s.wear := (rfl)
@[simp] theorem respond_nb (s : State) (r : Response) : (s.respond r).nb = s.nb := (rfl)
@[simp] theorem respond_anx (s : State) (r : Response) : (s.respond r).anx = s.anx := (rfl)
@[simp] theorem respond_rx (s : State) (r : Response) : (s.respond r).rx = s.rx := (rfl)
@[simp] theorem respond_maintAt (s : State) (r : Response) : (s.respond r).maintAt = s.maintAt := (rfl)
@[simp] theorem respond_firstLatch (s : State) (r : Response) : (s.respond r).firstLatch = s.firstLatch := (rfl)
@[simp] theorem respond_pgn (s : State) (r : Response) : (s.respond r).pgn = s.pgn := (rfl)
@[simp] theorem respond_rd (s : State) (r : Response) (k : Fld) : (s.respond r).rd k = s.rd k := (rfl)
@[simp] theorem respond_on (s : State) (r : Response) (k : Fld) : (s.respond r).on k = s.on k := (rfl)

/-! ### answer -/

@[simp] theorem answer_pending (s : State) (d : Nat) : (s.answer d).pending = s.pending := (rfl)
@[simp] theorem answer_regs (s : State) (d : Nat) : (s.answer d).regs = s.regs := (rfl)
@[simp] theorem answer_mem (s : State) (d : Nat) : (s.answer d).mem = s.mem := (rfl)
@[simp] theorem answer_ident (s : State) (d : Nat) : (s.answer d).ident = s.ident := (rfl)
@[simp] theorem answer_resp (s : State) (d : Nat) : (s.answer d).resp = { status := Sta.ok, data := d, coreFault := false } := (rfl)
@[simp] theorem answer_latch (s : State) (d : Nat) : (s.answer d).latch = s.latch := (rfl)
@[simp] theorem answer_staged (s : State) (d : Nat) : (s.answer d).staged = s.staged := (rfl)
@[simp] theorem answer_gates (s : State) (d : Nat) : (s.answer d).gates = s.gates := (rfl)
@[simp] theorem answer_free (s : State) (d : Nat) : (s.answer d).free = s.free := (rfl)
@[simp] theorem answer_frc (s : State) (d : Nat) : (s.answer d).frc = s.frc := (rfl)
@[simp] theorem answer_keyMaint (s : State) (d : Nat) : (s.answer d).keyMaint = s.keyMaint := (rfl)
@[simp] theorem answer_usb (s : State) (d : Nat) : (s.answer d).usb = s.usb := (rfl)
@[simp] theorem answer_gb (s : State) (d : Nat) : (s.answer d).gb = s.gb := (rfl)
@[simp] theorem answer_fpl (s : State) (d : Nat) : (s.answer d).fpl = s.fpl := (rfl)
@[simp] theorem answer_power (s : State) (d : Nat) : (s.answer d).power = s.power := (rfl)
@[simp] theorem answer_tim (s : State) (d : Nat) : (s.answer d).tim = s.tim := (rfl)
@[simp] theorem answer_can (s : State) (d : Nat) : (s.answer d).can = s.can := (rfl)
@[simp] theorem answer_eth (s : State) (d : Nat) : (s.answer d).eth = s.eth := (rfl)
@[simp] theorem answer_ser (s : State) (d : Nat) : (s.answer d).ser = s.ser := (rfl)
@[simp] theorem answer_serEnd (s : State) (d : Nat) : (s.answer d).serEnd = s.serEnd := (rfl)
@[simp] theorem answer_heads (s : State) (d : Nat) : (s.answer d).heads = s.heads := (rfl)
@[simp] theorem answer_rio (s : State) (d : Nat) : (s.answer d).rio = s.rio := (rfl)
@[simp] theorem answer_isl (s : State) (d : Nat) : (s.answer d).isl = s.isl := (rfl)
@[simp] theorem answer_key (s : State) (d : Nat) : (s.answer d).key = s.key := (rfl)
@[simp] theorem answer_keyRefused (s : State) (d : Nat) : (s.answer d).keyRefused = s.keyRefused := (rfl)
@[simp] theorem answer_trimPers (s : State) (d : Nat) : (s.answer d).trimPers = s.trimPers := (rfl)
@[simp] theorem answer_saf (s : State) (d : Nat) : (s.answer d).saf = s.saf := (rfl)
@[simp] theorem answer_axes (s : State) (d : Nat) : (s.answer d).axes = s.axes := (rfl)
@[simp] theorem answer_lp (s : State) (d : Nat) : (s.answer d).lp = s.lp := (rfl)
@[simp] theorem answer_slv (s : State) (d : Nat) : (s.answer d).slv = s.slv := (rfl)
@[simp] theorem answer_firstOut (s : State) (d : Nat) : (s.answer d).firstOut = s.firstOut := (rfl)
@[simp] theorem answer_posted (s : State) (d : Nat) : (s.answer d).posted = s.posted := (rfl)
@[simp] theorem answer_scn (s : State) (d : Nat) : (s.answer d).scn = s.scn := (rfl)
@[simp] theorem answer_ban (s : State) (d : Nat) : (s.answer d).ban = s.ban := (rfl)
@[simp] theorem answer_rnd (s : State) (d : Nat) : (s.answer d).rnd = s.rnd := (rfl)
@[simp] theorem answer_wear (s : State) (d : Nat) : (s.answer d).wear = s.wear := (rfl)
@[simp] theorem answer_nb (s : State) (d : Nat) : (s.answer d).nb = s.nb := (rfl)
@[simp] theorem answer_anx (s : State) (d : Nat) : (s.answer d).anx = s.anx := (rfl)
@[simp] theorem answer_rx (s : State) (d : Nat) : (s.answer d).rx = s.rx := (rfl)
@[simp] theorem answer_maintAt (s : State) (d : Nat) : (s.answer d).maintAt = s.maintAt := (rfl)
@[simp] theorem answer_firstLatch (s : State) (d : Nat) : (s.answer d).firstLatch = s.firstLatch := (rfl)
@[simp] theorem answer_pgn (s : State) (d : Nat) : (s.answer d).pgn = s.pgn := (rfl)
@[simp] theorem answer_rd (s : State) (d : Nat) (k : Fld) : (s.answer d).rd k = s.rd k := (rfl)
@[simp] theorem answer_on (s : State) (d : Nat) (k : Fld) : (s.answer d).on k = s.on k := (rfl)

/-! ### setAxis -/

@[simp] theorem setAxis_pending (s : State) (a : Nat) (x : Axis) : (s.setAxis a x).pending = s.pending := (rfl)
@[simp] theorem setAxis_regs (s : State) (a : Nat) (x : Axis) : (s.setAxis a x).regs = s.regs := (rfl)
@[simp] theorem setAxis_mem (s : State) (a : Nat) (x : Axis) : (s.setAxis a x).mem = s.mem := (rfl)
@[simp] theorem setAxis_ident (s : State) (a : Nat) (x : Axis) : (s.setAxis a x).ident = s.ident := (rfl)
@[simp] theorem setAxis_resp (s : State) (a : Nat) (x : Axis) : (s.setAxis a x).resp = s.resp := (rfl)
@[simp] theorem setAxis_latch (s : State) (a : Nat) (x : Axis) : (s.setAxis a x).latch = s.latch := (rfl)
@[simp] theorem setAxis_staged (s : State) (a : Nat) (x : Axis) : (s.setAxis a x).staged = s.staged := (rfl)
@[simp] theorem setAxis_gates (s : State) (a : Nat) (x : Axis) : (s.setAxis a x).gates = s.gates := (rfl)
@[simp] theorem setAxis_free (s : State) (a : Nat) (x : Axis) : (s.setAxis a x).free = s.free := (rfl)
@[simp] theorem setAxis_frc (s : State) (a : Nat) (x : Axis) : (s.setAxis a x).frc = s.frc := (rfl)
@[simp] theorem setAxis_keyMaint (s : State) (a : Nat) (x : Axis) : (s.setAxis a x).keyMaint = s.keyMaint := (rfl)
@[simp] theorem setAxis_usb (s : State) (a : Nat) (x : Axis) : (s.setAxis a x).usb = s.usb := (rfl)
@[simp] theorem setAxis_gb (s : State) (a : Nat) (x : Axis) : (s.setAxis a x).gb = s.gb := (rfl)
@[simp] theorem setAxis_fpl (s : State) (a : Nat) (x : Axis) : (s.setAxis a x).fpl = s.fpl := (rfl)
@[simp] theorem setAxis_power (s : State) (a : Nat) (x : Axis) : (s.setAxis a x).power = s.power := (rfl)
@[simp] theorem setAxis_tim (s : State) (a : Nat) (x : Axis) : (s.setAxis a x).tim = s.tim := (rfl)
@[simp] theorem setAxis_can (s : State) (a : Nat) (x : Axis) : (s.setAxis a x).can = s.can := (rfl)
@[simp] theorem setAxis_eth (s : State) (a : Nat) (x : Axis) : (s.setAxis a x).eth = s.eth := (rfl)
@[simp] theorem setAxis_ser (s : State) (a : Nat) (x : Axis) : (s.setAxis a x).ser = s.ser := (rfl)
@[simp] theorem setAxis_serEnd (s : State) (a : Nat) (x : Axis) : (s.setAxis a x).serEnd = s.serEnd := (rfl)
@[simp] theorem setAxis_heads (s : State) (a : Nat) (x : Axis) : (s.setAxis a x).heads = s.heads := (rfl)
@[simp] theorem setAxis_rio (s : State) (a : Nat) (x : Axis) : (s.setAxis a x).rio = s.rio := (rfl)
@[simp] theorem setAxis_isl (s : State) (a : Nat) (x : Axis) : (s.setAxis a x).isl = s.isl := (rfl)
@[simp] theorem setAxis_key (s : State) (a : Nat) (x : Axis) : (s.setAxis a x).key = s.key := (rfl)
@[simp] theorem setAxis_keyRefused (s : State) (a : Nat) (x : Axis) : (s.setAxis a x).keyRefused = s.keyRefused := (rfl)
@[simp] theorem setAxis_trimPers (s : State) (a : Nat) (x : Axis) : (s.setAxis a x).trimPers = s.trimPers := (rfl)
@[simp] theorem setAxis_saf (s : State) (a : Nat) (x : Axis) : (s.setAxis a x).saf = s.saf := (rfl)
@[simp] theorem setAxis_axes (s : State) (a : Nat) (x : Axis) : (s.setAxis a x).axes = Assoc.insert s.axes a x := (rfl)
@[simp] theorem setAxis_lp (s : State) (a : Nat) (x : Axis) : (s.setAxis a x).lp = s.lp := (rfl)
@[simp] theorem setAxis_slv (s : State) (a : Nat) (x : Axis) : (s.setAxis a x).slv = s.slv := (rfl)
@[simp] theorem setAxis_firstOut (s : State) (a : Nat) (x : Axis) : (s.setAxis a x).firstOut = s.firstOut := (rfl)
@[simp] theorem setAxis_posted (s : State) (a : Nat) (x : Axis) : (s.setAxis a x).posted = s.posted := (rfl)
@[simp] theorem setAxis_scn (s : State) (a : Nat) (x : Axis) : (s.setAxis a x).scn = s.scn := (rfl)
@[simp] theorem setAxis_ban (s : State) (a : Nat) (x : Axis) : (s.setAxis a x).ban = s.ban := (rfl)
@[simp] theorem setAxis_rnd (s : State) (a : Nat) (x : Axis) : (s.setAxis a x).rnd = s.rnd := (rfl)
@[simp] theorem setAxis_wear (s : State) (a : Nat) (x : Axis) : (s.setAxis a x).wear = s.wear := (rfl)
@[simp] theorem setAxis_nb (s : State) (a : Nat) (x : Axis) : (s.setAxis a x).nb = s.nb := (rfl)
@[simp] theorem setAxis_anx (s : State) (a : Nat) (x : Axis) : (s.setAxis a x).anx = s.anx := (rfl)
@[simp] theorem setAxis_rx (s : State) (a : Nat) (x : Axis) : (s.setAxis a x).rx = s.rx := (rfl)
@[simp] theorem setAxis_maintAt (s : State) (a : Nat) (x : Axis) : (s.setAxis a x).maintAt = s.maintAt := (rfl)
@[simp] theorem setAxis_firstLatch (s : State) (a : Nat) (x : Axis) : (s.setAxis a x).firstLatch = s.firstLatch := (rfl)
@[simp] theorem setAxis_pgn (s : State) (a : Nat) (x : Axis) : (s.setAxis a x).pgn = s.pgn := (rfl)
@[simp] theorem setAxis_rd (s : State) (a : Nat) (x : Axis) (k : Fld) : (s.setAxis a x).rd k = s.rd k := (rfl)
@[simp] theorem setAxis_on (s : State) (a : Nat) (x : Axis) (k : Fld) : (s.setAxis a x).on k = s.on k := (rfl)

/-! ### setCanCh -/

@[simp] theorem setCanCh_pending (s : State) (c : Nat) (x : CanChan) : (s.setCanCh c x).pending = s.pending := (rfl)
@[simp] theorem setCanCh_regs (s : State) (c : Nat) (x : CanChan) : (s.setCanCh c x).regs = s.regs := (rfl)
@[simp] theorem setCanCh_mem (s : State) (c : Nat) (x : CanChan) : (s.setCanCh c x).mem = s.mem := (rfl)
@[simp] theorem setCanCh_ident (s : State) (c : Nat) (x : CanChan) : (s.setCanCh c x).ident = s.ident := (rfl)
@[simp] theorem setCanCh_resp (s : State) (c : Nat) (x : CanChan) : (s.setCanCh c x).resp = s.resp := (rfl)
@[simp] theorem setCanCh_latch (s : State) (c : Nat) (x : CanChan) : (s.setCanCh c x).latch = s.latch := (rfl)
@[simp] theorem setCanCh_staged (s : State) (c : Nat) (x : CanChan) : (s.setCanCh c x).staged = s.staged := (rfl)
@[simp] theorem setCanCh_gates (s : State) (c : Nat) (x : CanChan) : (s.setCanCh c x).gates = s.gates := (rfl)
@[simp] theorem setCanCh_free (s : State) (c : Nat) (x : CanChan) : (s.setCanCh c x).free = s.free := (rfl)
@[simp] theorem setCanCh_frc (s : State) (c : Nat) (x : CanChan) : (s.setCanCh c x).frc = s.frc := (rfl)
@[simp] theorem setCanCh_keyMaint (s : State) (c : Nat) (x : CanChan) : (s.setCanCh c x).keyMaint = s.keyMaint := (rfl)
@[simp] theorem setCanCh_usb (s : State) (c : Nat) (x : CanChan) : (s.setCanCh c x).usb = s.usb := (rfl)
@[simp] theorem setCanCh_gb (s : State) (c : Nat) (x : CanChan) : (s.setCanCh c x).gb = s.gb := (rfl)
@[simp] theorem setCanCh_fpl (s : State) (c : Nat) (x : CanChan) : (s.setCanCh c x).fpl = s.fpl := (rfl)
@[simp] theorem setCanCh_power (s : State) (c : Nat) (x : CanChan) : (s.setCanCh c x).power = s.power := (rfl)
@[simp] theorem setCanCh_tim (s : State) (c : Nat) (x : CanChan) : (s.setCanCh c x).tim = s.tim := (rfl)
@[simp] theorem setCanCh_can (s : State) (c : Nat) (x : CanChan) : (s.setCanCh c x).can = Assoc.insert s.can c x := (rfl)
@[simp] theorem setCanCh_eth (s : State) (c : Nat) (x : CanChan) : (s.setCanCh c x).eth = s.eth := (rfl)
@[simp] theorem setCanCh_ser (s : State) (c : Nat) (x : CanChan) : (s.setCanCh c x).ser = s.ser := (rfl)
@[simp] theorem setCanCh_serEnd (s : State) (c : Nat) (x : CanChan) : (s.setCanCh c x).serEnd = s.serEnd := (rfl)
@[simp] theorem setCanCh_heads (s : State) (c : Nat) (x : CanChan) : (s.setCanCh c x).heads = s.heads := (rfl)
@[simp] theorem setCanCh_rio (s : State) (c : Nat) (x : CanChan) : (s.setCanCh c x).rio = s.rio := (rfl)
@[simp] theorem setCanCh_isl (s : State) (c : Nat) (x : CanChan) : (s.setCanCh c x).isl = s.isl := (rfl)
@[simp] theorem setCanCh_key (s : State) (c : Nat) (x : CanChan) : (s.setCanCh c x).key = s.key := (rfl)
@[simp] theorem setCanCh_keyRefused (s : State) (c : Nat) (x : CanChan) : (s.setCanCh c x).keyRefused = s.keyRefused := (rfl)
@[simp] theorem setCanCh_trimPers (s : State) (c : Nat) (x : CanChan) : (s.setCanCh c x).trimPers = s.trimPers := (rfl)
@[simp] theorem setCanCh_saf (s : State) (c : Nat) (x : CanChan) : (s.setCanCh c x).saf = s.saf := (rfl)
@[simp] theorem setCanCh_axes (s : State) (c : Nat) (x : CanChan) : (s.setCanCh c x).axes = s.axes := (rfl)
@[simp] theorem setCanCh_lp (s : State) (c : Nat) (x : CanChan) : (s.setCanCh c x).lp = s.lp := (rfl)
@[simp] theorem setCanCh_slv (s : State) (c : Nat) (x : CanChan) : (s.setCanCh c x).slv = s.slv := (rfl)
@[simp] theorem setCanCh_firstOut (s : State) (c : Nat) (x : CanChan) : (s.setCanCh c x).firstOut = s.firstOut := (rfl)
@[simp] theorem setCanCh_posted (s : State) (c : Nat) (x : CanChan) : (s.setCanCh c x).posted = s.posted := (rfl)
@[simp] theorem setCanCh_scn (s : State) (c : Nat) (x : CanChan) : (s.setCanCh c x).scn = s.scn := (rfl)
@[simp] theorem setCanCh_ban (s : State) (c : Nat) (x : CanChan) : (s.setCanCh c x).ban = s.ban := (rfl)
@[simp] theorem setCanCh_rnd (s : State) (c : Nat) (x : CanChan) : (s.setCanCh c x).rnd = s.rnd := (rfl)
@[simp] theorem setCanCh_wear (s : State) (c : Nat) (x : CanChan) : (s.setCanCh c x).wear = s.wear := (rfl)
@[simp] theorem setCanCh_nb (s : State) (c : Nat) (x : CanChan) : (s.setCanCh c x).nb = s.nb := (rfl)
@[simp] theorem setCanCh_anx (s : State) (c : Nat) (x : CanChan) : (s.setCanCh c x).anx = s.anx := (rfl)
@[simp] theorem setCanCh_rx (s : State) (c : Nat) (x : CanChan) : (s.setCanCh c x).rx = s.rx := (rfl)
@[simp] theorem setCanCh_maintAt (s : State) (c : Nat) (x : CanChan) : (s.setCanCh c x).maintAt = s.maintAt := (rfl)
@[simp] theorem setCanCh_firstLatch (s : State) (c : Nat) (x : CanChan) : (s.setCanCh c x).firstLatch = s.firstLatch := (rfl)
@[simp] theorem setCanCh_pgn (s : State) (c : Nat) (x : CanChan) : (s.setCanCh c x).pgn = s.pgn := (rfl)
@[simp] theorem setCanCh_rd (s : State) (c : Nat) (x : CanChan) (k : Fld) : (s.setCanCh c x).rd k = s.rd k := (rfl)
@[simp] theorem setCanCh_on (s : State) (c : Nat) (x : CanChan) (k : Fld) : (s.setCanCh c x).on k = s.on k := (rfl)

/-! ### setEthPort -/

@[simp] theorem setEthPort_pending (s : State) (p : Nat) (x : EthPort) : (s.setEthPort p x).pending = s.pending := (rfl)
@[simp] theorem setEthPort_regs (s : State) (p : Nat) (x : EthPort) : (s.setEthPort p x).regs = s.regs := (rfl)
@[simp] theorem setEthPort_mem (s : State) (p : Nat) (x : EthPort) : (s.setEthPort p x).mem = s.mem := (rfl)
@[simp] theorem setEthPort_ident (s : State) (p : Nat) (x : EthPort) : (s.setEthPort p x).ident = s.ident := (rfl)
@[simp] theorem setEthPort_resp (s : State) (p : Nat) (x : EthPort) : (s.setEthPort p x).resp = s.resp := (rfl)
@[simp] theorem setEthPort_latch (s : State) (p : Nat) (x : EthPort) : (s.setEthPort p x).latch = s.latch := (rfl)
@[simp] theorem setEthPort_staged (s : State) (p : Nat) (x : EthPort) : (s.setEthPort p x).staged = s.staged := (rfl)
@[simp] theorem setEthPort_gates (s : State) (p : Nat) (x : EthPort) : (s.setEthPort p x).gates = s.gates := (rfl)
@[simp] theorem setEthPort_free (s : State) (p : Nat) (x : EthPort) : (s.setEthPort p x).free = s.free := (rfl)
@[simp] theorem setEthPort_frc (s : State) (p : Nat) (x : EthPort) : (s.setEthPort p x).frc = s.frc := (rfl)
@[simp] theorem setEthPort_keyMaint (s : State) (p : Nat) (x : EthPort) : (s.setEthPort p x).keyMaint = s.keyMaint := (rfl)
@[simp] theorem setEthPort_usb (s : State) (p : Nat) (x : EthPort) : (s.setEthPort p x).usb = s.usb := (rfl)
@[simp] theorem setEthPort_gb (s : State) (p : Nat) (x : EthPort) : (s.setEthPort p x).gb = s.gb := (rfl)
@[simp] theorem setEthPort_fpl (s : State) (p : Nat) (x : EthPort) : (s.setEthPort p x).fpl = s.fpl := (rfl)
@[simp] theorem setEthPort_power (s : State) (p : Nat) (x : EthPort) : (s.setEthPort p x).power = s.power := (rfl)
@[simp] theorem setEthPort_tim (s : State) (p : Nat) (x : EthPort) : (s.setEthPort p x).tim = s.tim := (rfl)
@[simp] theorem setEthPort_can (s : State) (p : Nat) (x : EthPort) : (s.setEthPort p x).can = s.can := (rfl)
@[simp] theorem setEthPort_eth (s : State) (p : Nat) (x : EthPort) : (s.setEthPort p x).eth = Assoc.insert s.eth p x := (rfl)
@[simp] theorem setEthPort_ser (s : State) (p : Nat) (x : EthPort) : (s.setEthPort p x).ser = s.ser := (rfl)
@[simp] theorem setEthPort_serEnd (s : State) (p : Nat) (x : EthPort) : (s.setEthPort p x).serEnd = s.serEnd := (rfl)
@[simp] theorem setEthPort_heads (s : State) (p : Nat) (x : EthPort) : (s.setEthPort p x).heads = s.heads := (rfl)
@[simp] theorem setEthPort_rio (s : State) (p : Nat) (x : EthPort) : (s.setEthPort p x).rio = s.rio := (rfl)
@[simp] theorem setEthPort_isl (s : State) (p : Nat) (x : EthPort) : (s.setEthPort p x).isl = s.isl := (rfl)
@[simp] theorem setEthPort_key (s : State) (p : Nat) (x : EthPort) : (s.setEthPort p x).key = s.key := (rfl)
@[simp] theorem setEthPort_keyRefused (s : State) (p : Nat) (x : EthPort) : (s.setEthPort p x).keyRefused = s.keyRefused := (rfl)
@[simp] theorem setEthPort_trimPers (s : State) (p : Nat) (x : EthPort) : (s.setEthPort p x).trimPers = s.trimPers := (rfl)
@[simp] theorem setEthPort_saf (s : State) (p : Nat) (x : EthPort) : (s.setEthPort p x).saf = s.saf := (rfl)
@[simp] theorem setEthPort_axes (s : State) (p : Nat) (x : EthPort) : (s.setEthPort p x).axes = s.axes := (rfl)
@[simp] theorem setEthPort_lp (s : State) (p : Nat) (x : EthPort) : (s.setEthPort p x).lp = s.lp := (rfl)
@[simp] theorem setEthPort_slv (s : State) (p : Nat) (x : EthPort) : (s.setEthPort p x).slv = s.slv := (rfl)
@[simp] theorem setEthPort_firstOut (s : State) (p : Nat) (x : EthPort) : (s.setEthPort p x).firstOut = s.firstOut := (rfl)
@[simp] theorem setEthPort_posted (s : State) (p : Nat) (x : EthPort) : (s.setEthPort p x).posted = s.posted := (rfl)
@[simp] theorem setEthPort_scn (s : State) (p : Nat) (x : EthPort) : (s.setEthPort p x).scn = s.scn := (rfl)
@[simp] theorem setEthPort_ban (s : State) (p : Nat) (x : EthPort) : (s.setEthPort p x).ban = s.ban := (rfl)
@[simp] theorem setEthPort_rnd (s : State) (p : Nat) (x : EthPort) : (s.setEthPort p x).rnd = s.rnd := (rfl)
@[simp] theorem setEthPort_wear (s : State) (p : Nat) (x : EthPort) : (s.setEthPort p x).wear = s.wear := (rfl)
@[simp] theorem setEthPort_nb (s : State) (p : Nat) (x : EthPort) : (s.setEthPort p x).nb = s.nb := (rfl)
@[simp] theorem setEthPort_anx (s : State) (p : Nat) (x : EthPort) : (s.setEthPort p x).anx = s.anx := (rfl)
@[simp] theorem setEthPort_rx (s : State) (p : Nat) (x : EthPort) : (s.setEthPort p x).rx = s.rx := (rfl)
@[simp] theorem setEthPort_maintAt (s : State) (p : Nat) (x : EthPort) : (s.setEthPort p x).maintAt = s.maintAt := (rfl)
@[simp] theorem setEthPort_firstLatch (s : State) (p : Nat) (x : EthPort) : (s.setEthPort p x).firstLatch = s.firstLatch := (rfl)
@[simp] theorem setEthPort_pgn (s : State) (p : Nat) (x : EthPort) : (s.setEthPort p x).pgn = s.pgn := (rfl)
@[simp] theorem setEthPort_rd (s : State) (p : Nat) (x : EthPort) (k : Fld) : (s.setEthPort p x).rd k = s.rd k := (rfl)
@[simp] theorem setEthPort_on (s : State) (p : Nat) (x : EthPort) (k : Fld) : (s.setEthPort p x).on k = s.on k := (rfl)

/-! ### setRxCount -/

@[simp] theorem setRxCount_pending (s : State) (q : Nat) (c : RxCount) : (s.setRxCount q c).pending = s.pending := (rfl)
@[simp] theorem setRxCount_regs (s : State) (q : Nat) (c : RxCount) : (s.setRxCount q c).regs = s.regs := (rfl)
@[simp] theorem setRxCount_mem (s : State) (q : Nat) (c : RxCount) : (s.setRxCount q c).mem = s.mem := (rfl)
@[simp] theorem setRxCount_ident (s : State) (q : Nat) (c : RxCount) : (s.setRxCount q c).ident = s.ident := (rfl)
@[simp] theorem setRxCount_resp (s : State) (q : Nat) (c : RxCount) : (s.setRxCount q c).resp = s.resp := (rfl)
@[simp] theorem setRxCount_latch (s : State) (q : Nat) (c : RxCount) : (s.setRxCount q c).latch = s.latch := (rfl)
@[simp] theorem setRxCount_staged (s : State) (q : Nat) (c : RxCount) : (s.setRxCount q c).staged = s.staged := (rfl)
@[simp] theorem setRxCount_gates (s : State) (q : Nat) (c : RxCount) : (s.setRxCount q c).gates = s.gates := (rfl)
@[simp] theorem setRxCount_free (s : State) (q : Nat) (c : RxCount) : (s.setRxCount q c).free = s.free := (rfl)
@[simp] theorem setRxCount_frc (s : State) (q : Nat) (c : RxCount) : (s.setRxCount q c).frc = s.frc := (rfl)
@[simp] theorem setRxCount_keyMaint (s : State) (q : Nat) (c : RxCount) : (s.setRxCount q c).keyMaint = s.keyMaint := (rfl)
@[simp] theorem setRxCount_usb (s : State) (q : Nat) (c : RxCount) : (s.setRxCount q c).usb = s.usb := (rfl)
@[simp] theorem setRxCount_gb (s : State) (q : Nat) (c : RxCount) : (s.setRxCount q c).gb = s.gb := (rfl)
@[simp] theorem setRxCount_fpl (s : State) (q : Nat) (c : RxCount) : (s.setRxCount q c).fpl = s.fpl := (rfl)
@[simp] theorem setRxCount_power (s : State) (q : Nat) (c : RxCount) : (s.setRxCount q c).power = s.power := (rfl)
@[simp] theorem setRxCount_tim (s : State) (q : Nat) (c : RxCount) : (s.setRxCount q c).tim = s.tim := (rfl)
@[simp] theorem setRxCount_can (s : State) (q : Nat) (c : RxCount) : (s.setRxCount q c).can = s.can := (rfl)
@[simp] theorem setRxCount_eth (s : State) (q : Nat) (c : RxCount) : (s.setRxCount q c).eth = s.eth := (rfl)
@[simp] theorem setRxCount_ser (s : State) (q : Nat) (c : RxCount) : (s.setRxCount q c).ser = s.ser := (rfl)
@[simp] theorem setRxCount_serEnd (s : State) (q : Nat) (c : RxCount) : (s.setRxCount q c).serEnd = s.serEnd := (rfl)
@[simp] theorem setRxCount_heads (s : State) (q : Nat) (c : RxCount) : (s.setRxCount q c).heads = s.heads := (rfl)
@[simp] theorem setRxCount_rio (s : State) (q : Nat) (c : RxCount) : (s.setRxCount q c).rio = s.rio := (rfl)
@[simp] theorem setRxCount_isl (s : State) (q : Nat) (c : RxCount) : (s.setRxCount q c).isl = s.isl := (rfl)
@[simp] theorem setRxCount_key (s : State) (q : Nat) (c : RxCount) : (s.setRxCount q c).key = s.key := (rfl)
@[simp] theorem setRxCount_keyRefused (s : State) (q : Nat) (c : RxCount) : (s.setRxCount q c).keyRefused = s.keyRefused := (rfl)
@[simp] theorem setRxCount_trimPers (s : State) (q : Nat) (c : RxCount) : (s.setRxCount q c).trimPers = s.trimPers := (rfl)
@[simp] theorem setRxCount_saf (s : State) (q : Nat) (c : RxCount) : (s.setRxCount q c).saf = s.saf := (rfl)
@[simp] theorem setRxCount_axes (s : State) (q : Nat) (c : RxCount) : (s.setRxCount q c).axes = s.axes := (rfl)
@[simp] theorem setRxCount_lp (s : State) (q : Nat) (c : RxCount) : (s.setRxCount q c).lp = s.lp := (rfl)
@[simp] theorem setRxCount_slv (s : State) (q : Nat) (c : RxCount) : (s.setRxCount q c).slv = s.slv := (rfl)
@[simp] theorem setRxCount_firstOut (s : State) (q : Nat) (c : RxCount) : (s.setRxCount q c).firstOut = s.firstOut := (rfl)
@[simp] theorem setRxCount_posted (s : State) (q : Nat) (c : RxCount) : (s.setRxCount q c).posted = s.posted := (rfl)
@[simp] theorem setRxCount_scn (s : State) (q : Nat) (c : RxCount) : (s.setRxCount q c).scn = s.scn := (rfl)
@[simp] theorem setRxCount_ban (s : State) (q : Nat) (c : RxCount) : (s.setRxCount q c).ban = s.ban := (rfl)
@[simp] theorem setRxCount_rnd (s : State) (q : Nat) (c : RxCount) : (s.setRxCount q c).rnd = s.rnd := (rfl)
@[simp] theorem setRxCount_wear (s : State) (q : Nat) (c : RxCount) : (s.setRxCount q c).wear = s.wear := (rfl)
@[simp] theorem setRxCount_nb (s : State) (q : Nat) (c : RxCount) : (s.setRxCount q c).nb = s.nb := (rfl)
@[simp] theorem setRxCount_anx (s : State) (q : Nat) (c : RxCount) : (s.setRxCount q c).anx = s.anx := (rfl)
@[simp] theorem setRxCount_rx (s : State) (q : Nat) (c : RxCount) : (s.setRxCount q c).rx = Assoc.insert s.rx q c := (rfl)
@[simp] theorem setRxCount_maintAt (s : State) (q : Nat) (c : RxCount) : (s.setRxCount q c).maintAt = s.maintAt := (rfl)
@[simp] theorem setRxCount_firstLatch (s : State) (q : Nat) (c : RxCount) : (s.setRxCount q c).firstLatch = s.firstLatch := (rfl)
@[simp] theorem setRxCount_pgn (s : State) (q : Nat) (c : RxCount) : (s.setRxCount q c).pgn = s.pgn := (rfl)
@[simp] theorem setRxCount_rd (s : State) (q : Nat) (c : RxCount) (k : Fld) : (s.setRxCount q c).rd k = s.rd k := (rfl)
@[simp] theorem setRxCount_on (s : State) (q : Nat) (c : RxCount) (k : Fld) : (s.setRxCount q c).on k = s.on k := (rfl)

/-! ### setJoin -/

@[simp] theorem setJoin_pending (s : State) (j : Join) : (s.setJoin j).pending = s.pending := (rfl)
@[simp] theorem setJoin_regs (s : State) (j : Join) : (s.setJoin j).regs = s.regs := (rfl)
@[simp] theorem setJoin_mem (s : State) (j : Join) : (s.setJoin j).mem = s.mem := (rfl)
@[simp] theorem setJoin_ident (s : State) (j : Join) : (s.setJoin j).ident = s.ident := (rfl)
@[simp] theorem setJoin_resp (s : State) (j : Join) : (s.setJoin j).resp = s.resp := (rfl)
@[simp] theorem setJoin_latch (s : State) (j : Join) : (s.setJoin j).latch = s.latch := (rfl)
@[simp] theorem setJoin_staged (s : State) (j : Join) : (s.setJoin j).staged = s.staged := (rfl)
@[simp] theorem setJoin_gates (s : State) (j : Join) : (s.setJoin j).gates = s.gates := (rfl)
@[simp] theorem setJoin_free (s : State) (j : Join) : (s.setJoin j).free = s.free := (rfl)
@[simp] theorem setJoin_frc (s : State) (j : Join) : (s.setJoin j).frc = s.frc := (rfl)
@[simp] theorem setJoin_keyMaint (s : State) (j : Join) : (s.setJoin j).keyMaint = s.keyMaint := (rfl)
@[simp] theorem setJoin_usb (s : State) (j : Join) : (s.setJoin j).usb = s.usb := (rfl)
@[simp] theorem setJoin_gb (s : State) (j : Join) : (s.setJoin j).gb = s.gb := (rfl)
@[simp] theorem setJoin_fpl (s : State) (j : Join) : (s.setJoin j).fpl = s.fpl := (rfl)
@[simp] theorem setJoin_power (s : State) (j : Join) : (s.setJoin j).power = s.power := (rfl)
@[simp] theorem setJoin_tim (s : State) (j : Join) : (s.setJoin j).tim = s.tim := (rfl)
@[simp] theorem setJoin_can (s : State) (j : Join) : (s.setJoin j).can = s.can := (rfl)
@[simp] theorem setJoin_eth (s : State) (j : Join) : (s.setJoin j).eth = s.eth := (rfl)
@[simp] theorem setJoin_ser (s : State) (j : Join) : (s.setJoin j).ser = s.ser := (rfl)
@[simp] theorem setJoin_serEnd (s : State) (j : Join) : (s.setJoin j).serEnd = s.serEnd := (rfl)
@[simp] theorem setJoin_heads (s : State) (j : Join) : (s.setJoin j).heads = s.heads := (rfl)
@[simp] theorem setJoin_rio (s : State) (j : Join) : (s.setJoin j).rio = s.rio := (rfl)
@[simp] theorem setJoin_isl (s : State) (j : Join) : (s.setJoin j).isl = s.isl := (rfl)
@[simp] theorem setJoin_key (s : State) (j : Join) : (s.setJoin j).key = s.key := (rfl)
@[simp] theorem setJoin_keyRefused (s : State) (j : Join) : (s.setJoin j).keyRefused = s.keyRefused := (rfl)
@[simp] theorem setJoin_trimPers (s : State) (j : Join) : (s.setJoin j).trimPers = s.trimPers := (rfl)
@[simp] theorem setJoin_saf (s : State) (j : Join) : (s.setJoin j).saf = s.saf := (rfl)
@[simp] theorem setJoin_axes (s : State) (j : Join) : (s.setJoin j).axes = s.axes := (rfl)
@[simp] theorem setJoin_lp (s : State) (j : Join) : (s.setJoin j).lp = s.lp := (rfl)
@[simp] theorem setJoin_slv (s : State) (j : Join) : (s.setJoin j).slv = s.slv := (rfl)
@[simp] theorem setJoin_firstOut (s : State) (j : Join) : (s.setJoin j).firstOut = s.firstOut := (rfl)
@[simp] theorem setJoin_posted (s : State) (j : Join) : (s.setJoin j).posted = s.posted := (rfl)
@[simp] theorem setJoin_scn (s : State) (j : Join) : (s.setJoin j).scn = s.scn := (rfl)
@[simp] theorem setJoin_rnd (s : State) (j : Join) : (s.setJoin j).rnd = s.rnd := (rfl)
@[simp] theorem setJoin_wear (s : State) (j : Join) : (s.setJoin j).wear = s.wear := (rfl)
@[simp] theorem setJoin_nb (s : State) (j : Join) : (s.setJoin j).nb = s.nb := (rfl)
@[simp] theorem setJoin_anx (s : State) (j : Join) : (s.setJoin j).anx = s.anx := (rfl)
@[simp] theorem setJoin_rx (s : State) (j : Join) : (s.setJoin j).rx = s.rx := (rfl)
@[simp] theorem setJoin_maintAt (s : State) (j : Join) : (s.setJoin j).maintAt = s.maintAt := (rfl)
@[simp] theorem setJoin_firstLatch (s : State) (j : Join) : (s.setJoin j).firstLatch = s.firstLatch := (rfl)
@[simp] theorem setJoin_pgn (s : State) (j : Join) : (s.setJoin j).pgn = s.pgn := (rfl)
@[simp] theorem setJoin_rd (s : State) (j : Join) (k : Fld) : (s.setJoin j).rd k = s.rd k := (rfl)
@[simp] theorem setJoin_on (s : State) (j : Join) (k : Fld) : (s.setJoin j).on k = s.on k := (rfl)

/-! ### setLoop -/

@[simp] theorem setLoop_pending (s : State) (n : Nat) (x : Loop) : (s.setLoop n x).pending = s.pending := (rfl)
@[simp] theorem setLoop_regs (s : State) (n : Nat) (x : Loop) : (s.setLoop n x).regs = s.regs := (rfl)
@[simp] theorem setLoop_mem (s : State) (n : Nat) (x : Loop) : (s.setLoop n x).mem = s.mem := (rfl)
@[simp] theorem setLoop_ident (s : State) (n : Nat) (x : Loop) : (s.setLoop n x).ident = s.ident := (rfl)
@[simp] theorem setLoop_resp (s : State) (n : Nat) (x : Loop) : (s.setLoop n x).resp = s.resp := (rfl)
@[simp] theorem setLoop_latch (s : State) (n : Nat) (x : Loop) : (s.setLoop n x).latch = s.latch := (rfl)
@[simp] theorem setLoop_staged (s : State) (n : Nat) (x : Loop) : (s.setLoop n x).staged = s.staged := (rfl)
@[simp] theorem setLoop_gates (s : State) (n : Nat) (x : Loop) : (s.setLoop n x).gates = s.gates := (rfl)
@[simp] theorem setLoop_free (s : State) (n : Nat) (x : Loop) : (s.setLoop n x).free = s.free := (rfl)
@[simp] theorem setLoop_frc (s : State) (n : Nat) (x : Loop) : (s.setLoop n x).frc = s.frc := (rfl)
@[simp] theorem setLoop_keyMaint (s : State) (n : Nat) (x : Loop) : (s.setLoop n x).keyMaint = s.keyMaint := (rfl)
@[simp] theorem setLoop_usb (s : State) (n : Nat) (x : Loop) : (s.setLoop n x).usb = s.usb := (rfl)
@[simp] theorem setLoop_gb (s : State) (n : Nat) (x : Loop) : (s.setLoop n x).gb = s.gb := (rfl)
@[simp] theorem setLoop_fpl (s : State) (n : Nat) (x : Loop) : (s.setLoop n x).fpl = s.fpl := (rfl)
@[simp] theorem setLoop_power (s : State) (n : Nat) (x : Loop) : (s.setLoop n x).power = s.power := (rfl)
@[simp] theorem setLoop_tim (s : State) (n : Nat) (x : Loop) : (s.setLoop n x).tim = s.tim := (rfl)
@[simp] theorem setLoop_can (s : State) (n : Nat) (x : Loop) : (s.setLoop n x).can = s.can := (rfl)
@[simp] theorem setLoop_eth (s : State) (n : Nat) (x : Loop) : (s.setLoop n x).eth = s.eth := (rfl)
@[simp] theorem setLoop_ser (s : State) (n : Nat) (x : Loop) : (s.setLoop n x).ser = s.ser := (rfl)
@[simp] theorem setLoop_serEnd (s : State) (n : Nat) (x : Loop) : (s.setLoop n x).serEnd = s.serEnd := (rfl)
@[simp] theorem setLoop_heads (s : State) (n : Nat) (x : Loop) : (s.setLoop n x).heads = s.heads := (rfl)
@[simp] theorem setLoop_rio (s : State) (n : Nat) (x : Loop) : (s.setLoop n x).rio = s.rio := (rfl)
@[simp] theorem setLoop_isl (s : State) (n : Nat) (x : Loop) : (s.setLoop n x).isl = s.isl := (rfl)
@[simp] theorem setLoop_key (s : State) (n : Nat) (x : Loop) : (s.setLoop n x).key = s.key := (rfl)
@[simp] theorem setLoop_keyRefused (s : State) (n : Nat) (x : Loop) : (s.setLoop n x).keyRefused = s.keyRefused := (rfl)
@[simp] theorem setLoop_trimPers (s : State) (n : Nat) (x : Loop) : (s.setLoop n x).trimPers = s.trimPers := (rfl)
@[simp] theorem setLoop_saf (s : State) (n : Nat) (x : Loop) : (s.setLoop n x).saf = s.saf := (rfl)
@[simp] theorem setLoop_axes (s : State) (n : Nat) (x : Loop) : (s.setLoop n x).axes = s.axes := (rfl)
@[simp] theorem setLoop_slv (s : State) (n : Nat) (x : Loop) : (s.setLoop n x).slv = s.slv := (rfl)
@[simp] theorem setLoop_firstOut (s : State) (n : Nat) (x : Loop) : (s.setLoop n x).firstOut = s.firstOut := (rfl)
@[simp] theorem setLoop_posted (s : State) (n : Nat) (x : Loop) : (s.setLoop n x).posted = s.posted := (rfl)
@[simp] theorem setLoop_scn (s : State) (n : Nat) (x : Loop) : (s.setLoop n x).scn = s.scn := (rfl)
@[simp] theorem setLoop_ban (s : State) (n : Nat) (x : Loop) : (s.setLoop n x).ban = s.ban := (rfl)
@[simp] theorem setLoop_rnd (s : State) (n : Nat) (x : Loop) : (s.setLoop n x).rnd = s.rnd := (rfl)
@[simp] theorem setLoop_wear (s : State) (n : Nat) (x : Loop) : (s.setLoop n x).wear = s.wear := (rfl)
@[simp] theorem setLoop_nb (s : State) (n : Nat) (x : Loop) : (s.setLoop n x).nb = s.nb := (rfl)
@[simp] theorem setLoop_anx (s : State) (n : Nat) (x : Loop) : (s.setLoop n x).anx = s.anx := (rfl)
@[simp] theorem setLoop_rx (s : State) (n : Nat) (x : Loop) : (s.setLoop n x).rx = s.rx := (rfl)
@[simp] theorem setLoop_maintAt (s : State) (n : Nat) (x : Loop) : (s.setLoop n x).maintAt = s.maintAt := (rfl)
@[simp] theorem setLoop_firstLatch (s : State) (n : Nat) (x : Loop) : (s.setLoop n x).firstLatch = s.firstLatch := (rfl)
@[simp] theorem setLoop_pgn (s : State) (n : Nat) (x : Loop) : (s.setLoop n x).pgn = s.pgn := (rfl)
@[simp] theorem setLoop_rd (s : State) (n : Nat) (x : Loop) (k : Fld) : (s.setLoop n x).rd k = s.rd k := (rfl)
@[simp] theorem setLoop_on (s : State) (n : Nat) (x : Loop) (k : Fld) : (s.setLoop n x).on k = s.on k := (rfl)

/-! ### Events (R414) leave every part but the Guestbook, its gate and its registers -/

@[simp] theorem showPower_pending (s : State) (u : GUnit) (b : Bool) : (s.showPower u b).pending = s.pending := by
  unfold State.showPower
  split <;> rfl

@[simp] theorem showPower_mem (s : State) (u : GUnit) (b : Bool) : (s.showPower u b).mem = s.mem := by
  unfold State.showPower
  split <;> rfl

@[simp] theorem showPower_ident (s : State) (u : GUnit) (b : Bool) : (s.showPower u b).ident = s.ident := by
  unfold State.showPower
  split <;> rfl

@[simp] theorem showPower_resp (s : State) (u : GUnit) (b : Bool) : (s.showPower u b).resp = s.resp := by
  unfold State.showPower
  split <;> rfl

@[simp] theorem showPower_latch (s : State) (u : GUnit) (b : Bool) : (s.showPower u b).latch = s.latch := by
  unfold State.showPower
  split <;> rfl

@[simp] theorem showPower_staged (s : State) (u : GUnit) (b : Bool) : (s.showPower u b).staged = s.staged := by
  unfold State.showPower
  split <;> rfl

@[simp] theorem showPower_gates (s : State) (u : GUnit) (b : Bool) : (s.showPower u b).gates = s.gates := by
  unfold State.showPower
  split <;> rfl

@[simp] theorem showPower_free (s : State) (u : GUnit) (b : Bool) : (s.showPower u b).free = s.free := by
  unfold State.showPower
  split <;> rfl

@[simp] theorem showPower_frc (s : State) (u : GUnit) (b : Bool) : (s.showPower u b).frc = s.frc := by
  unfold State.showPower
  split <;> rfl

@[simp] theorem showPower_keyMaint (s : State) (u : GUnit) (b : Bool) : (s.showPower u b).keyMaint = s.keyMaint := by
  unfold State.showPower
  split <;> rfl

@[simp] theorem showPower_usb (s : State) (u : GUnit) (b : Bool) : (s.showPower u b).usb = s.usb := by
  unfold State.showPower
  split <;> rfl

@[simp] theorem showPower_gb (s : State) (u : GUnit) (b : Bool) : (s.showPower u b).gb = s.gb := by
  unfold State.showPower
  split <;> rfl

@[simp] theorem showPower_fpl (s : State) (u : GUnit) (b : Bool) : (s.showPower u b).fpl = s.fpl := by
  unfold State.showPower
  split <;> rfl

@[simp] theorem showPower_power (s : State) (u : GUnit) (b : Bool) : (s.showPower u b).power = s.power := by
  unfold State.showPower
  split <;> rfl

@[simp] theorem showPower_tim (s : State) (u : GUnit) (b : Bool) : (s.showPower u b).tim = s.tim := by
  unfold State.showPower
  split <;> rfl

@[simp] theorem showPower_can (s : State) (u : GUnit) (b : Bool) : (s.showPower u b).can = s.can := by
  unfold State.showPower
  split <;> rfl

@[simp] theorem showPower_eth (s : State) (u : GUnit) (b : Bool) : (s.showPower u b).eth = s.eth := by
  unfold State.showPower
  split <;> rfl

@[simp] theorem showPower_ser (s : State) (u : GUnit) (b : Bool) : (s.showPower u b).ser = s.ser := by
  unfold State.showPower
  split <;> rfl

@[simp] theorem showPower_serEnd (s : State) (u : GUnit) (b : Bool) : (s.showPower u b).serEnd = s.serEnd := by
  unfold State.showPower
  split <;> rfl

@[simp] theorem showPower_heads (s : State) (u : GUnit) (b : Bool) : (s.showPower u b).heads = s.heads := by
  unfold State.showPower
  split <;> rfl

@[simp] theorem showPower_rio (s : State) (u : GUnit) (b : Bool) : (s.showPower u b).rio = s.rio := by
  unfold State.showPower
  split <;> rfl

@[simp] theorem showPower_isl (s : State) (u : GUnit) (b : Bool) : (s.showPower u b).isl = s.isl := by
  unfold State.showPower
  split <;> rfl

@[simp] theorem showPower_key (s : State) (u : GUnit) (b : Bool) : (s.showPower u b).key = s.key := by
  unfold State.showPower
  split <;> rfl

@[simp] theorem showPower_keyRefused (s : State) (u : GUnit) (b : Bool) : (s.showPower u b).keyRefused = s.keyRefused := by
  unfold State.showPower
  split <;> rfl

@[simp] theorem showPower_trimPers (s : State) (u : GUnit) (b : Bool) : (s.showPower u b).trimPers = s.trimPers := by
  unfold State.showPower
  split <;> rfl

@[simp] theorem showPower_saf (s : State) (u : GUnit) (b : Bool) : (s.showPower u b).saf = s.saf := by
  unfold State.showPower
  split <;> rfl

@[simp] theorem showPower_axes (s : State) (u : GUnit) (b : Bool) : (s.showPower u b).axes = s.axes := by
  unfold State.showPower
  split <;> rfl

@[simp] theorem showPower_lp (s : State) (u : GUnit) (b : Bool) : (s.showPower u b).lp = s.lp := by
  unfold State.showPower
  split <;> rfl

@[simp] theorem showPower_slv (s : State) (u : GUnit) (b : Bool) : (s.showPower u b).slv = s.slv := by
  unfold State.showPower
  split <;> rfl

@[simp] theorem showPower_firstOut (s : State) (u : GUnit) (b : Bool) : (s.showPower u b).firstOut = s.firstOut := by
  unfold State.showPower
  split <;> rfl

@[simp] theorem showPower_posted (s : State) (u : GUnit) (b : Bool) : (s.showPower u b).posted = s.posted := by
  unfold State.showPower
  split <;> rfl

@[simp] theorem showPower_scn (s : State) (u : GUnit) (b : Bool) : (s.showPower u b).scn = s.scn := by
  unfold State.showPower
  split <;> rfl

@[simp] theorem showPower_ban (s : State) (u : GUnit) (b : Bool) : (s.showPower u b).ban = s.ban := by
  unfold State.showPower
  split <;> rfl

@[simp] theorem showPower_rnd (s : State) (u : GUnit) (b : Bool) : (s.showPower u b).rnd = s.rnd := by
  unfold State.showPower
  split <;> rfl

@[simp] theorem showPower_wear (s : State) (u : GUnit) (b : Bool) : (s.showPower u b).wear = s.wear := by
  unfold State.showPower
  split <;> rfl

@[simp] theorem showPower_nb (s : State) (u : GUnit) (b : Bool) : (s.showPower u b).nb = s.nb := by
  unfold State.showPower
  split <;> rfl

@[simp] theorem showPower_anx (s : State) (u : GUnit) (b : Bool) : (s.showPower u b).anx = s.anx := by
  unfold State.showPower
  split <;> rfl

@[simp] theorem showPower_rx (s : State) (u : GUnit) (b : Bool) : (s.showPower u b).rx = s.rx := by
  unfold State.showPower
  split <;> rfl

@[simp] theorem showPower_maintAt (s : State) (u : GUnit) (b : Bool) : (s.showPower u b).maintAt = s.maintAt := by
  unfold State.showPower
  split <;> rfl

@[simp] theorem showPower_firstLatch (s : State) (u : GUnit) (b : Bool) : (s.showPower u b).firstLatch = s.firstLatch := by
  unfold State.showPower
  split <;> rfl

@[simp] theorem showPower_pgn (s : State) (u : GUnit) (b : Bool) : (s.showPower u b).pgn = s.pgn := by
  unfold State.showPower
  split <;> rfl

@[simp] theorem wake_pending (s : State) (u : GUnit) : (s.wake u).pending = s.pending := by
  simp only [State.wake]
  split_ifs <;> first | rfl | exact showPower_pending _ _ _

@[simp] theorem wake_mem (s : State) (u : GUnit) : (s.wake u).mem = s.mem := by
  simp only [State.wake]
  split_ifs <;> first | rfl | exact showPower_mem _ _ _

@[simp] theorem wake_ident (s : State) (u : GUnit) : (s.wake u).ident = s.ident := by
  simp only [State.wake]
  split_ifs <;> first | rfl | exact showPower_ident _ _ _

@[simp] theorem wake_resp (s : State) (u : GUnit) : (s.wake u).resp = s.resp := by
  simp only [State.wake]
  split_ifs <;> first | rfl | exact showPower_resp _ _ _

@[simp] theorem wake_latch (s : State) (u : GUnit) : (s.wake u).latch = s.latch := by
  simp only [State.wake]
  split_ifs <;> first | rfl | exact showPower_latch _ _ _

@[simp] theorem wake_staged (s : State) (u : GUnit) : (s.wake u).staged = s.staged := by
  simp only [State.wake]
  split_ifs <;> first | rfl | exact showPower_staged _ _ _

@[simp] theorem wake_free (s : State) (u : GUnit) : (s.wake u).free = s.free := by
  simp only [State.wake]
  split_ifs <;> first | rfl | exact showPower_free _ _ _

@[simp] theorem wake_frc (s : State) (u : GUnit) : (s.wake u).frc = s.frc := by
  simp only [State.wake]
  split_ifs <;> first | rfl | exact showPower_frc _ _ _

@[simp] theorem wake_keyMaint (s : State) (u : GUnit) : (s.wake u).keyMaint = s.keyMaint := by
  simp only [State.wake]
  split_ifs <;> first | rfl | exact showPower_keyMaint _ _ _

@[simp] theorem wake_usb (s : State) (u : GUnit) : (s.wake u).usb = s.usb := by
  simp only [State.wake]
  split_ifs <;> first | rfl | exact showPower_usb _ _ _

@[simp] theorem wake_gb (s : State) (u : GUnit) : (s.wake u).gb = s.gb := by
  simp only [State.wake]
  split_ifs <;> first | rfl | exact showPower_gb _ _ _

@[simp] theorem wake_fpl (s : State) (u : GUnit) : (s.wake u).fpl = s.fpl := by
  simp only [State.wake]
  split_ifs <;> first | rfl | exact showPower_fpl _ _ _

@[simp] theorem wake_power (s : State) (u : GUnit) : (s.wake u).power = s.power := by
  simp only [State.wake]
  split_ifs <;> first | rfl | exact showPower_power _ _ _

@[simp] theorem wake_tim (s : State) (u : GUnit) : (s.wake u).tim = s.tim := by
  simp only [State.wake]
  split_ifs <;> first | rfl | exact showPower_tim _ _ _

@[simp] theorem wake_can (s : State) (u : GUnit) : (s.wake u).can = s.can := by
  simp only [State.wake]
  split_ifs <;> first | rfl | exact showPower_can _ _ _

@[simp] theorem wake_eth (s : State) (u : GUnit) : (s.wake u).eth = s.eth := by
  simp only [State.wake]
  split_ifs <;> first | rfl | exact showPower_eth _ _ _

@[simp] theorem wake_ser (s : State) (u : GUnit) : (s.wake u).ser = s.ser := by
  simp only [State.wake]
  split_ifs <;> first | rfl | exact showPower_ser _ _ _

@[simp] theorem wake_serEnd (s : State) (u : GUnit) : (s.wake u).serEnd = s.serEnd := by
  simp only [State.wake]
  split_ifs <;> first | rfl | exact showPower_serEnd _ _ _

@[simp] theorem wake_heads (s : State) (u : GUnit) : (s.wake u).heads = s.heads := by
  simp only [State.wake]
  split_ifs <;> first | rfl | exact showPower_heads _ _ _

@[simp] theorem wake_rio (s : State) (u : GUnit) : (s.wake u).rio = s.rio := by
  simp only [State.wake]
  split_ifs <;> first | rfl | exact showPower_rio _ _ _

@[simp] theorem wake_isl (s : State) (u : GUnit) : (s.wake u).isl = s.isl := by
  simp only [State.wake]
  split_ifs <;> first | rfl | exact showPower_isl _ _ _

@[simp] theorem wake_key (s : State) (u : GUnit) : (s.wake u).key = s.key := by
  simp only [State.wake]
  split_ifs <;> first | rfl | exact showPower_key _ _ _

@[simp] theorem wake_keyRefused (s : State) (u : GUnit) : (s.wake u).keyRefused = s.keyRefused := by
  simp only [State.wake]
  split_ifs <;> first | rfl | exact showPower_keyRefused _ _ _

@[simp] theorem wake_trimPers (s : State) (u : GUnit) : (s.wake u).trimPers = s.trimPers := by
  simp only [State.wake]
  split_ifs <;> first | rfl | exact showPower_trimPers _ _ _

@[simp] theorem wake_saf (s : State) (u : GUnit) : (s.wake u).saf = s.saf := by
  simp only [State.wake]
  split_ifs <;> first | rfl | exact showPower_saf _ _ _

@[simp] theorem wake_axes (s : State) (u : GUnit) : (s.wake u).axes = s.axes := by
  simp only [State.wake]
  split_ifs <;> first | rfl | exact showPower_axes _ _ _

@[simp] theorem wake_lp (s : State) (u : GUnit) : (s.wake u).lp = s.lp := by
  simp only [State.wake]
  split_ifs <;> first | rfl | exact showPower_lp _ _ _

@[simp] theorem wake_slv (s : State) (u : GUnit) : (s.wake u).slv = s.slv := by
  simp only [State.wake]
  split_ifs <;> first | rfl | exact showPower_slv _ _ _

@[simp] theorem wake_firstOut (s : State) (u : GUnit) : (s.wake u).firstOut = s.firstOut := by
  simp only [State.wake]
  split_ifs <;> first | rfl | exact showPower_firstOut _ _ _

@[simp] theorem wake_posted (s : State) (u : GUnit) : (s.wake u).posted = s.posted := by
  simp only [State.wake]
  split_ifs <;> first | rfl | exact showPower_posted _ _ _

@[simp] theorem wake_scn (s : State) (u : GUnit) : (s.wake u).scn = s.scn := by
  simp only [State.wake]
  split_ifs <;> first | rfl | exact showPower_scn _ _ _

@[simp] theorem wake_ban (s : State) (u : GUnit) : (s.wake u).ban = s.ban := by
  simp only [State.wake]
  split_ifs <;> first | rfl | exact showPower_ban _ _ _

@[simp] theorem wake_rnd (s : State) (u : GUnit) : (s.wake u).rnd = s.rnd := by
  simp only [State.wake]
  split_ifs <;> first | rfl | exact showPower_rnd _ _ _

@[simp] theorem wake_wear (s : State) (u : GUnit) : (s.wake u).wear = s.wear := by
  simp only [State.wake]
  split_ifs <;> first | rfl | exact showPower_wear _ _ _

@[simp] theorem wake_nb (s : State) (u : GUnit) : (s.wake u).nb = s.nb := by
  simp only [State.wake]
  split_ifs <;> first | rfl | exact showPower_nb _ _ _

@[simp] theorem wake_anx (s : State) (u : GUnit) : (s.wake u).anx = s.anx := by
  simp only [State.wake]
  split_ifs <;> first | rfl | exact showPower_anx _ _ _

@[simp] theorem wake_rx (s : State) (u : GUnit) : (s.wake u).rx = s.rx := by
  simp only [State.wake]
  split_ifs <;> first | rfl | exact showPower_rx _ _ _

@[simp] theorem wake_maintAt (s : State) (u : GUnit) : (s.wake u).maintAt = s.maintAt := by
  simp only [State.wake]
  split_ifs <;> first | rfl | exact showPower_maintAt _ _ _

@[simp] theorem wake_firstLatch (s : State) (u : GUnit) : (s.wake u).firstLatch = s.firstLatch := by
  simp only [State.wake]
  split_ifs <;> first | rfl | exact showPower_firstLatch _ _ _

@[simp] theorem wake_pgn (s : State) (u : GUnit) : (s.wake u).pgn = s.pgn := by
  simp only [State.wake]
  split_ifs <;> first | rfl | exact showPower_pgn _ _ _

@[simp] theorem gbSuppress_pending (s : State) (c : Nat) : (s.gbSuppress c).pending = s.pending := by
  simp only [State.gbSuppress]
  split_ifs <;> rfl

@[simp] theorem gbSuppress_mem (s : State) (c : Nat) : (s.gbSuppress c).mem = s.mem := by
  simp only [State.gbSuppress]
  split_ifs <;> rfl

@[simp] theorem gbSuppress_ident (s : State) (c : Nat) : (s.gbSuppress c).ident = s.ident := by
  simp only [State.gbSuppress]
  split_ifs <;> rfl

@[simp] theorem gbSuppress_resp (s : State) (c : Nat) : (s.gbSuppress c).resp = s.resp := by
  simp only [State.gbSuppress]
  split_ifs <;> rfl

@[simp] theorem gbSuppress_latch (s : State) (c : Nat) : (s.gbSuppress c).latch = s.latch := by
  simp only [State.gbSuppress]
  split_ifs <;> rfl

@[simp] theorem gbSuppress_staged (s : State) (c : Nat) : (s.gbSuppress c).staged = s.staged := by
  simp only [State.gbSuppress]
  split_ifs <;> rfl

@[simp] theorem gbSuppress_free (s : State) (c : Nat) : (s.gbSuppress c).free = s.free := by
  simp only [State.gbSuppress]
  split_ifs <;> rfl

@[simp] theorem gbSuppress_frc (s : State) (c : Nat) : (s.gbSuppress c).frc = s.frc := by
  simp only [State.gbSuppress]
  split_ifs <;> rfl

@[simp] theorem gbSuppress_keyMaint (s : State) (c : Nat) : (s.gbSuppress c).keyMaint = s.keyMaint := by
  simp only [State.gbSuppress]
  split_ifs <;> rfl

@[simp] theorem gbSuppress_usb (s : State) (c : Nat) : (s.gbSuppress c).usb = s.usb := by
  simp only [State.gbSuppress]
  split_ifs <;> rfl

@[simp] theorem gbSuppress_fpl (s : State) (c : Nat) : (s.gbSuppress c).fpl = s.fpl := by
  simp only [State.gbSuppress]
  split_ifs <;> rfl

@[simp] theorem gbSuppress_power (s : State) (c : Nat) : (s.gbSuppress c).power = s.power := by
  simp only [State.gbSuppress]
  split_ifs <;> rfl

@[simp] theorem gbSuppress_tim (s : State) (c : Nat) : (s.gbSuppress c).tim = s.tim := by
  simp only [State.gbSuppress]
  split_ifs <;> rfl

@[simp] theorem gbSuppress_can (s : State) (c : Nat) : (s.gbSuppress c).can = s.can := by
  simp only [State.gbSuppress]
  split_ifs <;> rfl

@[simp] theorem gbSuppress_eth (s : State) (c : Nat) : (s.gbSuppress c).eth = s.eth := by
  simp only [State.gbSuppress]
  split_ifs <;> rfl

@[simp] theorem gbSuppress_ser (s : State) (c : Nat) : (s.gbSuppress c).ser = s.ser := by
  simp only [State.gbSuppress]
  split_ifs <;> rfl

@[simp] theorem gbSuppress_serEnd (s : State) (c : Nat) : (s.gbSuppress c).serEnd = s.serEnd := by
  simp only [State.gbSuppress]
  split_ifs <;> rfl

@[simp] theorem gbSuppress_heads (s : State) (c : Nat) : (s.gbSuppress c).heads = s.heads := by
  simp only [State.gbSuppress]
  split_ifs <;> rfl

@[simp] theorem gbSuppress_rio (s : State) (c : Nat) : (s.gbSuppress c).rio = s.rio := by
  simp only [State.gbSuppress]
  split_ifs <;> rfl

@[simp] theorem gbSuppress_isl (s : State) (c : Nat) : (s.gbSuppress c).isl = s.isl := by
  simp only [State.gbSuppress]
  split_ifs <;> rfl

@[simp] theorem gbSuppress_key (s : State) (c : Nat) : (s.gbSuppress c).key = s.key := by
  simp only [State.gbSuppress]
  split_ifs <;> rfl

@[simp] theorem gbSuppress_keyRefused (s : State) (c : Nat) : (s.gbSuppress c).keyRefused = s.keyRefused := by
  simp only [State.gbSuppress]
  split_ifs <;> rfl

@[simp] theorem gbSuppress_trimPers (s : State) (c : Nat) : (s.gbSuppress c).trimPers = s.trimPers := by
  simp only [State.gbSuppress]
  split_ifs <;> rfl

@[simp] theorem gbSuppress_saf (s : State) (c : Nat) : (s.gbSuppress c).saf = s.saf := by
  simp only [State.gbSuppress]
  split_ifs <;> rfl

@[simp] theorem gbSuppress_axes (s : State) (c : Nat) : (s.gbSuppress c).axes = s.axes := by
  simp only [State.gbSuppress]
  split_ifs <;> rfl

@[simp] theorem gbSuppress_lp (s : State) (c : Nat) : (s.gbSuppress c).lp = s.lp := by
  simp only [State.gbSuppress]
  split_ifs <;> rfl

@[simp] theorem gbSuppress_slv (s : State) (c : Nat) : (s.gbSuppress c).slv = s.slv := by
  simp only [State.gbSuppress]
  split_ifs <;> rfl

@[simp] theorem gbSuppress_firstOut (s : State) (c : Nat) : (s.gbSuppress c).firstOut = s.firstOut := by
  simp only [State.gbSuppress]
  split_ifs <;> rfl

@[simp] theorem gbSuppress_posted (s : State) (c : Nat) : (s.gbSuppress c).posted = s.posted := by
  simp only [State.gbSuppress]
  split_ifs <;> rfl

@[simp] theorem gbSuppress_scn (s : State) (c : Nat) : (s.gbSuppress c).scn = s.scn := by
  simp only [State.gbSuppress]
  split_ifs <;> rfl

@[simp] theorem gbSuppress_ban (s : State) (c : Nat) : (s.gbSuppress c).ban = s.ban := by
  simp only [State.gbSuppress]
  split_ifs <;> rfl

@[simp] theorem gbSuppress_rnd (s : State) (c : Nat) : (s.gbSuppress c).rnd = s.rnd := by
  simp only [State.gbSuppress]
  split_ifs <;> rfl

@[simp] theorem gbSuppress_wear (s : State) (c : Nat) : (s.gbSuppress c).wear = s.wear := by
  simp only [State.gbSuppress]
  split_ifs <;> rfl

@[simp] theorem gbSuppress_nb (s : State) (c : Nat) : (s.gbSuppress c).nb = s.nb := by
  simp only [State.gbSuppress]
  split_ifs <;> rfl

@[simp] theorem gbSuppress_anx (s : State) (c : Nat) : (s.gbSuppress c).anx = s.anx := by
  simp only [State.gbSuppress]
  split_ifs <;> rfl

@[simp] theorem gbSuppress_rx (s : State) (c : Nat) : (s.gbSuppress c).rx = s.rx := by
  simp only [State.gbSuppress]
  split_ifs <;> rfl

@[simp] theorem gbSuppress_maintAt (s : State) (c : Nat) : (s.gbSuppress c).maintAt = s.maintAt := by
  simp only [State.gbSuppress]
  split_ifs <;> rfl

@[simp] theorem gbSuppress_firstLatch (s : State) (c : Nat) : (s.gbSuppress c).firstLatch = s.firstLatch := by
  simp only [State.gbSuppress]
  split_ifs <;> rfl

@[simp] theorem gbSuppress_pgn (s : State) (c : Nat) : (s.gbSuppress c).pgn = s.pgn := by
  simp only [State.gbSuppress]
  split_ifs <;> rfl

@[simp] theorem post_pending (s : State) (source code p1 p2 p3 : Nat) :
    (s.post source code p1 p2 p3).pending = s.pending := by
  simp only [State.post]
  split_ifs <;> simp

@[simp] theorem post_mem (s : State) (source code p1 p2 p3 : Nat) :
    (s.post source code p1 p2 p3).mem = s.mem := by
  simp only [State.post]
  split_ifs <;> simp

@[simp] theorem post_ident (s : State) (source code p1 p2 p3 : Nat) :
    (s.post source code p1 p2 p3).ident = s.ident := by
  simp only [State.post]
  split_ifs <;> simp

@[simp] theorem post_resp (s : State) (source code p1 p2 p3 : Nat) :
    (s.post source code p1 p2 p3).resp = s.resp := by
  simp only [State.post]
  split_ifs <;> simp

@[simp] theorem post_latch (s : State) (source code p1 p2 p3 : Nat) :
    (s.post source code p1 p2 p3).latch = s.latch := by
  simp only [State.post]
  split_ifs <;> simp

@[simp] theorem post_staged (s : State) (source code p1 p2 p3 : Nat) :
    (s.post source code p1 p2 p3).staged = s.staged := by
  simp only [State.post]
  split_ifs <;> simp

@[simp] theorem post_free (s : State) (source code p1 p2 p3 : Nat) :
    (s.post source code p1 p2 p3).free = s.free := by
  simp only [State.post]
  split_ifs <;> simp

@[simp] theorem post_frc (s : State) (source code p1 p2 p3 : Nat) :
    (s.post source code p1 p2 p3).frc = s.frc := by
  simp only [State.post]
  split_ifs <;> simp

@[simp] theorem post_keyMaint (s : State) (source code p1 p2 p3 : Nat) :
    (s.post source code p1 p2 p3).keyMaint = s.keyMaint := by
  simp only [State.post]
  split_ifs <;> simp

@[simp] theorem post_usb (s : State) (source code p1 p2 p3 : Nat) :
    (s.post source code p1 p2 p3).usb = s.usb := by
  simp only [State.post]
  split_ifs <;> simp

@[simp] theorem post_fpl (s : State) (source code p1 p2 p3 : Nat) :
    (s.post source code p1 p2 p3).fpl = s.fpl := by
  simp only [State.post]
  split_ifs <;> simp

@[simp] theorem post_power (s : State) (source code p1 p2 p3 : Nat) :
    (s.post source code p1 p2 p3).power = s.power := by
  simp only [State.post]
  split_ifs <;> simp

@[simp] theorem post_tim (s : State) (source code p1 p2 p3 : Nat) :
    (s.post source code p1 p2 p3).tim = s.tim := by
  simp only [State.post]
  split_ifs <;> simp

@[simp] theorem post_can (s : State) (source code p1 p2 p3 : Nat) :
    (s.post source code p1 p2 p3).can = s.can := by
  simp only [State.post]
  split_ifs <;> simp

@[simp] theorem post_eth (s : State) (source code p1 p2 p3 : Nat) :
    (s.post source code p1 p2 p3).eth = s.eth := by
  simp only [State.post]
  split_ifs <;> simp

@[simp] theorem post_ser (s : State) (source code p1 p2 p3 : Nat) :
    (s.post source code p1 p2 p3).ser = s.ser := by
  simp only [State.post]
  split_ifs <;> simp

@[simp] theorem post_serEnd (s : State) (source code p1 p2 p3 : Nat) :
    (s.post source code p1 p2 p3).serEnd = s.serEnd := by
  simp only [State.post]
  split_ifs <;> simp

@[simp] theorem post_heads (s : State) (source code p1 p2 p3 : Nat) :
    (s.post source code p1 p2 p3).heads = s.heads := by
  simp only [State.post]
  split_ifs <;> simp

@[simp] theorem post_rio (s : State) (source code p1 p2 p3 : Nat) :
    (s.post source code p1 p2 p3).rio = s.rio := by
  simp only [State.post]
  split_ifs <;> simp

@[simp] theorem post_isl (s : State) (source code p1 p2 p3 : Nat) :
    (s.post source code p1 p2 p3).isl = s.isl := by
  simp only [State.post]
  split_ifs <;> simp

@[simp] theorem post_key (s : State) (source code p1 p2 p3 : Nat) :
    (s.post source code p1 p2 p3).key = s.key := by
  simp only [State.post]
  split_ifs <;> simp

@[simp] theorem post_keyRefused (s : State) (source code p1 p2 p3 : Nat) :
    (s.post source code p1 p2 p3).keyRefused = s.keyRefused := by
  simp only [State.post]
  split_ifs <;> simp

@[simp] theorem post_trimPers (s : State) (source code p1 p2 p3 : Nat) :
    (s.post source code p1 p2 p3).trimPers = s.trimPers := by
  simp only [State.post]
  split_ifs <;> simp

@[simp] theorem post_saf (s : State) (source code p1 p2 p3 : Nat) :
    (s.post source code p1 p2 p3).saf = s.saf := by
  simp only [State.post]
  split_ifs <;> simp

@[simp] theorem post_axes (s : State) (source code p1 p2 p3 : Nat) :
    (s.post source code p1 p2 p3).axes = s.axes := by
  simp only [State.post]
  split_ifs <;> simp

@[simp] theorem post_lp (s : State) (source code p1 p2 p3 : Nat) :
    (s.post source code p1 p2 p3).lp = s.lp := by
  simp only [State.post]
  split_ifs <;> simp

@[simp] theorem post_slv (s : State) (source code p1 p2 p3 : Nat) :
    (s.post source code p1 p2 p3).slv = s.slv := by
  simp only [State.post]
  split_ifs <;> simp

@[simp] theorem post_firstOut (s : State) (source code p1 p2 p3 : Nat) :
    (s.post source code p1 p2 p3).firstOut = s.firstOut := by
  simp only [State.post]
  split_ifs <;> simp

@[simp] theorem post_posted (s : State) (source code p1 p2 p3 : Nat) :
    (s.post source code p1 p2 p3).posted = s.posted := by
  simp only [State.post]
  split_ifs <;> simp

@[simp] theorem post_scn (s : State) (source code p1 p2 p3 : Nat) :
    (s.post source code p1 p2 p3).scn = s.scn := by
  simp only [State.post]
  split_ifs <;> simp

@[simp] theorem post_ban (s : State) (source code p1 p2 p3 : Nat) :
    (s.post source code p1 p2 p3).ban = s.ban := by
  simp only [State.post]
  split_ifs <;> simp

@[simp] theorem post_rnd (s : State) (source code p1 p2 p3 : Nat) :
    (s.post source code p1 p2 p3).rnd = s.rnd := by
  simp only [State.post]
  split_ifs <;> simp

@[simp] theorem post_wear (s : State) (source code p1 p2 p3 : Nat) :
    (s.post source code p1 p2 p3).wear = s.wear := by
  simp only [State.post]
  split_ifs <;> simp

@[simp] theorem post_nb (s : State) (source code p1 p2 p3 : Nat) :
    (s.post source code p1 p2 p3).nb = s.nb := by
  simp only [State.post]
  split_ifs <;> simp

@[simp] theorem post_anx (s : State) (source code p1 p2 p3 : Nat) :
    (s.post source code p1 p2 p3).anx = s.anx := by
  simp only [State.post]
  split_ifs <;> simp

@[simp] theorem post_rx (s : State) (source code p1 p2 p3 : Nat) :
    (s.post source code p1 p2 p3).rx = s.rx := by
  simp only [State.post]
  split_ifs <;> simp

@[simp] theorem post_maintAt (s : State) (source code p1 p2 p3 : Nat) :
    (s.post source code p1 p2 p3).maintAt = s.maintAt := by
  simp only [State.post]
  split_ifs <;> simp

@[simp] theorem post_firstLatch (s : State) (source code p1 p2 p3 : Nat) :
    (s.post source code p1 p2 p3).firstLatch = s.firstLatch := by
  simp only [State.post]
  split_ifs <;> simp

@[simp] theorem post_pgn (s : State) (source code p1 p2 p3 : Nat) :
    (s.post source code p1 p2 p3).pgn = s.pgn := by
  simp only [State.post]
  split_ifs <;> simp

@[simp] theorem busCapture_pending (s : State) (m : Master) (b : Bool) (a st : Nat) :
    (s.busCapture m b a st).pending = s.pending := by
  unfold State.busCapture
  split
  · exact wr_pending _ _ _
  · simp only [wr_pending, wrB_pending, wr64_pending]

@[simp] theorem busCapture_mem (s : State) (m : Master) (b : Bool) (a st : Nat) :
    (s.busCapture m b a st).mem = s.mem := by
  unfold State.busCapture
  split
  · exact wr_mem _ _ _
  · simp only [wr_mem, wrB_mem, wr64_mem]

@[simp] theorem busCapture_ident (s : State) (m : Master) (b : Bool) (a st : Nat) :
    (s.busCapture m b a st).ident = s.ident := by
  unfold State.busCapture
  split
  · exact wr_ident _ _ _
  · simp only [wr_ident, wrB_ident, wr64_ident]

@[simp] theorem busCapture_resp (s : State) (m : Master) (b : Bool) (a st : Nat) :
    (s.busCapture m b a st).resp = s.resp := by
  unfold State.busCapture
  split
  · exact wr_resp _ _ _
  · simp only [wr_resp, wrB_resp, wr64_resp]

@[simp] theorem busCapture_latch (s : State) (m : Master) (b : Bool) (a st : Nat) :
    (s.busCapture m b a st).latch = s.latch := by
  unfold State.busCapture
  split
  · exact wr_latch _ _ _
  · simp only [wr_latch, wrB_latch, wr64_latch]

@[simp] theorem busCapture_staged (s : State) (m : Master) (b : Bool) (a st : Nat) :
    (s.busCapture m b a st).staged = s.staged := by
  unfold State.busCapture
  split
  · exact wr_staged _ _ _
  · simp only [wr_staged, wrB_staged, wr64_staged]

@[simp] theorem busCapture_gates (s : State) (m : Master) (b : Bool) (a st : Nat) :
    (s.busCapture m b a st).gates = s.gates := by
  unfold State.busCapture
  split
  · exact wr_gates _ _ _
  · simp only [wr_gates, wrB_gates, wr64_gates]

@[simp] theorem busCapture_free (s : State) (m : Master) (b : Bool) (a st : Nat) :
    (s.busCapture m b a st).free = s.free := by
  unfold State.busCapture
  split
  · exact wr_free _ _ _
  · simp only [wr_free, wrB_free, wr64_free]

@[simp] theorem busCapture_frc (s : State) (m : Master) (b : Bool) (a st : Nat) :
    (s.busCapture m b a st).frc = s.frc := by
  unfold State.busCapture
  split
  · exact wr_frc _ _ _
  · simp only [wr_frc, wrB_frc, wr64_frc]

@[simp] theorem busCapture_keyMaint (s : State) (m : Master) (b : Bool) (a st : Nat) :
    (s.busCapture m b a st).keyMaint = s.keyMaint := by
  unfold State.busCapture
  split
  · exact wr_keyMaint _ _ _
  · simp only [wr_keyMaint, wrB_keyMaint, wr64_keyMaint]

@[simp] theorem busCapture_usb (s : State) (m : Master) (b : Bool) (a st : Nat) :
    (s.busCapture m b a st).usb = s.usb := by
  unfold State.busCapture
  split
  · exact wr_usb _ _ _
  · simp only [wr_usb, wrB_usb, wr64_usb]

@[simp] theorem busCapture_gb (s : State) (m : Master) (b : Bool) (a st : Nat) :
    (s.busCapture m b a st).gb = s.gb := by
  unfold State.busCapture
  split
  · exact wr_gb _ _ _
  · simp only [wr_gb, wrB_gb, wr64_gb]

@[simp] theorem busCapture_fpl (s : State) (m : Master) (b : Bool) (a st : Nat) :
    (s.busCapture m b a st).fpl = s.fpl := by
  unfold State.busCapture
  split
  · exact wr_fpl _ _ _
  · simp only [wr_fpl, wrB_fpl, wr64_fpl]

@[simp] theorem busCapture_power (s : State) (m : Master) (b : Bool) (a st : Nat) :
    (s.busCapture m b a st).power = s.power := by
  unfold State.busCapture
  split
  · exact wr_power _ _ _
  · simp only [wr_power, wrB_power, wr64_power]

@[simp] theorem busCapture_tim (s : State) (m : Master) (b : Bool) (a st : Nat) :
    (s.busCapture m b a st).tim = s.tim := by
  unfold State.busCapture
  split
  · exact wr_tim _ _ _
  · simp only [wr_tim, wrB_tim, wr64_tim]

@[simp] theorem busCapture_can (s : State) (m : Master) (b : Bool) (a st : Nat) :
    (s.busCapture m b a st).can = s.can := by
  unfold State.busCapture
  split
  · exact wr_can _ _ _
  · simp only [wr_can, wrB_can, wr64_can]

@[simp] theorem busCapture_eth (s : State) (m : Master) (b : Bool) (a st : Nat) :
    (s.busCapture m b a st).eth = s.eth := by
  unfold State.busCapture
  split
  · exact wr_eth _ _ _
  · simp only [wr_eth, wrB_eth, wr64_eth]

@[simp] theorem busCapture_ser (s : State) (m : Master) (b : Bool) (a st : Nat) :
    (s.busCapture m b a st).ser = s.ser := by
  unfold State.busCapture
  split
  · exact wr_ser _ _ _
  · simp only [wr_ser, wrB_ser, wr64_ser]

@[simp] theorem busCapture_serEnd (s : State) (m : Master) (b : Bool) (a st : Nat) :
    (s.busCapture m b a st).serEnd = s.serEnd := by
  unfold State.busCapture
  split
  · exact wr_serEnd _ _ _
  · simp only [wr_serEnd, wrB_serEnd, wr64_serEnd]

@[simp] theorem busCapture_heads (s : State) (m : Master) (b : Bool) (a st : Nat) :
    (s.busCapture m b a st).heads = s.heads := by
  unfold State.busCapture
  split
  · exact wr_heads _ _ _
  · simp only [wr_heads, wrB_heads, wr64_heads]

@[simp] theorem busCapture_rio (s : State) (m : Master) (b : Bool) (a st : Nat) :
    (s.busCapture m b a st).rio = s.rio := by
  unfold State.busCapture
  split
  · exact wr_rio _ _ _
  · simp only [wr_rio, wrB_rio, wr64_rio]

@[simp] theorem busCapture_isl (s : State) (m : Master) (b : Bool) (a st : Nat) :
    (s.busCapture m b a st).isl = s.isl := by
  unfold State.busCapture
  split
  · exact wr_isl _ _ _
  · simp only [wr_isl, wrB_isl, wr64_isl]

@[simp] theorem busCapture_key (s : State) (m : Master) (b : Bool) (a st : Nat) :
    (s.busCapture m b a st).key = s.key := by
  unfold State.busCapture
  split
  · exact wr_key _ _ _
  · simp only [wr_key, wrB_key, wr64_key]

@[simp] theorem busCapture_keyRefused (s : State) (m : Master) (b : Bool) (a st : Nat) :
    (s.busCapture m b a st).keyRefused = s.keyRefused := by
  unfold State.busCapture
  split
  · exact wr_keyRefused _ _ _
  · simp only [wr_keyRefused, wrB_keyRefused, wr64_keyRefused]

@[simp] theorem busCapture_trimPers (s : State) (m : Master) (b : Bool) (a st : Nat) :
    (s.busCapture m b a st).trimPers = s.trimPers := by
  unfold State.busCapture
  split
  · exact wr_trimPers _ _ _
  · simp only [wr_trimPers, wrB_trimPers, wr64_trimPers]

@[simp] theorem busCapture_saf (s : State) (m : Master) (b : Bool) (a st : Nat) :
    (s.busCapture m b a st).saf = s.saf := by
  unfold State.busCapture
  split
  · exact wr_saf _ _ _
  · simp only [wr_saf, wrB_saf, wr64_saf]

@[simp] theorem busCapture_axes (s : State) (m : Master) (b : Bool) (a st : Nat) :
    (s.busCapture m b a st).axes = s.axes := by
  unfold State.busCapture
  split
  · exact wr_axes _ _ _
  · simp only [wr_axes, wrB_axes, wr64_axes]

@[simp] theorem busCapture_lp (s : State) (m : Master) (b : Bool) (a st : Nat) :
    (s.busCapture m b a st).lp = s.lp := by
  unfold State.busCapture
  split
  · exact wr_lp _ _ _
  · simp only [wr_lp, wrB_lp, wr64_lp]

@[simp] theorem busCapture_slv (s : State) (m : Master) (b : Bool) (a st : Nat) :
    (s.busCapture m b a st).slv = s.slv := by
  unfold State.busCapture
  split
  · exact wr_slv _ _ _
  · simp only [wr_slv, wrB_slv, wr64_slv]

@[simp] theorem busCapture_firstOut (s : State) (m : Master) (b : Bool) (a st : Nat) :
    (s.busCapture m b a st).firstOut = s.firstOut := by
  unfold State.busCapture
  split
  · exact wr_firstOut _ _ _
  · simp only [wr_firstOut, wrB_firstOut, wr64_firstOut]

@[simp] theorem busCapture_posted (s : State) (m : Master) (b : Bool) (a st : Nat) :
    (s.busCapture m b a st).posted = s.posted := by
  unfold State.busCapture
  split
  · exact wr_posted _ _ _
  · simp only [wr_posted, wrB_posted, wr64_posted]

@[simp] theorem busCapture_scn (s : State) (m : Master) (b : Bool) (a st : Nat) :
    (s.busCapture m b a st).scn = s.scn := by
  unfold State.busCapture
  split
  · exact wr_scn _ _ _
  · simp only [wr_scn, wrB_scn, wr64_scn]

@[simp] theorem busCapture_ban (s : State) (m : Master) (b : Bool) (a st : Nat) :
    (s.busCapture m b a st).ban = s.ban := by
  unfold State.busCapture
  split
  · exact wr_ban _ _ _
  · simp only [wr_ban, wrB_ban, wr64_ban]

@[simp] theorem busCapture_rnd (s : State) (m : Master) (b : Bool) (a st : Nat) :
    (s.busCapture m b a st).rnd = s.rnd := by
  unfold State.busCapture
  split
  · exact wr_rnd _ _ _
  · simp only [wr_rnd, wrB_rnd, wr64_rnd]

@[simp] theorem busCapture_wear (s : State) (m : Master) (b : Bool) (a st : Nat) :
    (s.busCapture m b a st).wear = s.wear := by
  unfold State.busCapture
  split
  · exact wr_wear _ _ _
  · simp only [wr_wear, wrB_wear, wr64_wear]

@[simp] theorem busCapture_nb (s : State) (m : Master) (b : Bool) (a st : Nat) :
    (s.busCapture m b a st).nb = s.nb := by
  unfold State.busCapture
  split
  · exact wr_nb _ _ _
  · simp only [wr_nb, wrB_nb, wr64_nb]

@[simp] theorem busCapture_anx (s : State) (m : Master) (b : Bool) (a st : Nat) :
    (s.busCapture m b a st).anx = s.anx := by
  unfold State.busCapture
  split
  · exact wr_anx _ _ _
  · simp only [wr_anx, wrB_anx, wr64_anx]

@[simp] theorem busCapture_rx (s : State) (m : Master) (b : Bool) (a st : Nat) :
    (s.busCapture m b a st).rx = s.rx := by
  unfold State.busCapture
  split
  · exact wr_rx _ _ _
  · simp only [wr_rx, wrB_rx, wr64_rx]

@[simp] theorem busCapture_maintAt (s : State) (m : Master) (b : Bool) (a st : Nat) :
    (s.busCapture m b a st).maintAt = s.maintAt := by
  unfold State.busCapture
  split
  · exact wr_maintAt _ _ _
  · simp only [wr_maintAt, wrB_maintAt, wr64_maintAt]

@[simp] theorem busCapture_firstLatch (s : State) (m : Master) (b : Bool) (a st : Nat) :
    (s.busCapture m b a st).firstLatch = s.firstLatch := by
  unfold State.busCapture
  split
  · exact wr_firstLatch _ _ _
  · simp only [wr_firstLatch, wrB_firstLatch, wr64_firstLatch]

@[simp] theorem busCapture_pgn (s : State) (m : Master) (b : Bool) (a st : Nat) :
    (s.busCapture m b a st).pgn = s.pgn := by
  unfold State.busCapture
  split
  · exact wr_pgn _ _ _
  · simp only [wr_pgn, wrB_pgn, wr64_pgn]

@[simp] theorem busFail_pending (s : State) (m : Master) (b : Bool) (a st code : Nat) :
    (s.busFail m b a st code).pending = s.pending :=
  (post_pending _ _ _ _ _ _).trans (busCapture_pending _ _ _ _ _)

@[simp] theorem busFail_mem (s : State) (m : Master) (b : Bool) (a st code : Nat) :
    (s.busFail m b a st code).mem = s.mem :=
  (post_mem _ _ _ _ _ _).trans (busCapture_mem _ _ _ _ _)

@[simp] theorem busFail_ident (s : State) (m : Master) (b : Bool) (a st code : Nat) :
    (s.busFail m b a st code).ident = s.ident :=
  (post_ident _ _ _ _ _ _).trans (busCapture_ident _ _ _ _ _)

@[simp] theorem busFail_latch (s : State) (m : Master) (b : Bool) (a st code : Nat) :
    (s.busFail m b a st code).latch = s.latch :=
  (post_latch _ _ _ _ _ _).trans (busCapture_latch _ _ _ _ _)

@[simp] theorem busFail_staged (s : State) (m : Master) (b : Bool) (a st code : Nat) :
    (s.busFail m b a st code).staged = s.staged :=
  (post_staged _ _ _ _ _ _).trans (busCapture_staged _ _ _ _ _)

@[simp] theorem busFail_free (s : State) (m : Master) (b : Bool) (a st code : Nat) :
    (s.busFail m b a st code).free = s.free :=
  (post_free _ _ _ _ _ _).trans (busCapture_free _ _ _ _ _)

@[simp] theorem busFail_frc (s : State) (m : Master) (b : Bool) (a st code : Nat) :
    (s.busFail m b a st code).frc = s.frc :=
  (post_frc _ _ _ _ _ _).trans (busCapture_frc _ _ _ _ _)

@[simp] theorem busFail_keyMaint (s : State) (m : Master) (b : Bool) (a st code : Nat) :
    (s.busFail m b a st code).keyMaint = s.keyMaint :=
  (post_keyMaint _ _ _ _ _ _).trans (busCapture_keyMaint _ _ _ _ _)

@[simp] theorem busFail_usb (s : State) (m : Master) (b : Bool) (a st code : Nat) :
    (s.busFail m b a st code).usb = s.usb :=
  (post_usb _ _ _ _ _ _).trans (busCapture_usb _ _ _ _ _)

@[simp] theorem busFail_fpl (s : State) (m : Master) (b : Bool) (a st code : Nat) :
    (s.busFail m b a st code).fpl = s.fpl :=
  (post_fpl _ _ _ _ _ _).trans (busCapture_fpl _ _ _ _ _)

@[simp] theorem busFail_power (s : State) (m : Master) (b : Bool) (a st code : Nat) :
    (s.busFail m b a st code).power = s.power :=
  (post_power _ _ _ _ _ _).trans (busCapture_power _ _ _ _ _)

@[simp] theorem busFail_tim (s : State) (m : Master) (b : Bool) (a st code : Nat) :
    (s.busFail m b a st code).tim = s.tim :=
  (post_tim _ _ _ _ _ _).trans (busCapture_tim _ _ _ _ _)

@[simp] theorem busFail_can (s : State) (m : Master) (b : Bool) (a st code : Nat) :
    (s.busFail m b a st code).can = s.can :=
  (post_can _ _ _ _ _ _).trans (busCapture_can _ _ _ _ _)

@[simp] theorem busFail_eth (s : State) (m : Master) (b : Bool) (a st code : Nat) :
    (s.busFail m b a st code).eth = s.eth :=
  (post_eth _ _ _ _ _ _).trans (busCapture_eth _ _ _ _ _)

@[simp] theorem busFail_ser (s : State) (m : Master) (b : Bool) (a st code : Nat) :
    (s.busFail m b a st code).ser = s.ser :=
  (post_ser _ _ _ _ _ _).trans (busCapture_ser _ _ _ _ _)

@[simp] theorem busFail_serEnd (s : State) (m : Master) (b : Bool) (a st code : Nat) :
    (s.busFail m b a st code).serEnd = s.serEnd :=
  (post_serEnd _ _ _ _ _ _).trans (busCapture_serEnd _ _ _ _ _)

@[simp] theorem busFail_heads (s : State) (m : Master) (b : Bool) (a st code : Nat) :
    (s.busFail m b a st code).heads = s.heads :=
  (post_heads _ _ _ _ _ _).trans (busCapture_heads _ _ _ _ _)

@[simp] theorem busFail_rio (s : State) (m : Master) (b : Bool) (a st code : Nat) :
    (s.busFail m b a st code).rio = s.rio :=
  (post_rio _ _ _ _ _ _).trans (busCapture_rio _ _ _ _ _)

@[simp] theorem busFail_isl (s : State) (m : Master) (b : Bool) (a st code : Nat) :
    (s.busFail m b a st code).isl = s.isl :=
  (post_isl _ _ _ _ _ _).trans (busCapture_isl _ _ _ _ _)

@[simp] theorem busFail_key (s : State) (m : Master) (b : Bool) (a st code : Nat) :
    (s.busFail m b a st code).key = s.key :=
  (post_key _ _ _ _ _ _).trans (busCapture_key _ _ _ _ _)

@[simp] theorem busFail_keyRefused (s : State) (m : Master) (b : Bool) (a st code : Nat) :
    (s.busFail m b a st code).keyRefused = s.keyRefused :=
  (post_keyRefused _ _ _ _ _ _).trans (busCapture_keyRefused _ _ _ _ _)

@[simp] theorem busFail_trimPers (s : State) (m : Master) (b : Bool) (a st code : Nat) :
    (s.busFail m b a st code).trimPers = s.trimPers :=
  (post_trimPers _ _ _ _ _ _).trans (busCapture_trimPers _ _ _ _ _)

@[simp] theorem busFail_saf (s : State) (m : Master) (b : Bool) (a st code : Nat) :
    (s.busFail m b a st code).saf = s.saf :=
  (post_saf _ _ _ _ _ _).trans (busCapture_saf _ _ _ _ _)

@[simp] theorem busFail_axes (s : State) (m : Master) (b : Bool) (a st code : Nat) :
    (s.busFail m b a st code).axes = s.axes :=
  (post_axes _ _ _ _ _ _).trans (busCapture_axes _ _ _ _ _)

@[simp] theorem busFail_lp (s : State) (m : Master) (b : Bool) (a st code : Nat) :
    (s.busFail m b a st code).lp = s.lp :=
  (post_lp _ _ _ _ _ _).trans (busCapture_lp _ _ _ _ _)

@[simp] theorem busFail_slv (s : State) (m : Master) (b : Bool) (a st code : Nat) :
    (s.busFail m b a st code).slv = s.slv :=
  (post_slv _ _ _ _ _ _).trans (busCapture_slv _ _ _ _ _)

@[simp] theorem busFail_firstOut (s : State) (m : Master) (b : Bool) (a st code : Nat) :
    (s.busFail m b a st code).firstOut = s.firstOut :=
  (post_firstOut _ _ _ _ _ _).trans (busCapture_firstOut _ _ _ _ _)

@[simp] theorem busFail_posted (s : State) (m : Master) (b : Bool) (a st code : Nat) :
    (s.busFail m b a st code).posted = s.posted :=
  (post_posted _ _ _ _ _ _).trans (busCapture_posted _ _ _ _ _)

@[simp] theorem busFail_scn (s : State) (m : Master) (b : Bool) (a st code : Nat) :
    (s.busFail m b a st code).scn = s.scn :=
  (post_scn _ _ _ _ _ _).trans (busCapture_scn _ _ _ _ _)

@[simp] theorem busFail_ban (s : State) (m : Master) (b : Bool) (a st code : Nat) :
    (s.busFail m b a st code).ban = s.ban :=
  (post_ban _ _ _ _ _ _).trans (busCapture_ban _ _ _ _ _)

@[simp] theorem busFail_rnd (s : State) (m : Master) (b : Bool) (a st code : Nat) :
    (s.busFail m b a st code).rnd = s.rnd :=
  (post_rnd _ _ _ _ _ _).trans (busCapture_rnd _ _ _ _ _)

@[simp] theorem busFail_wear (s : State) (m : Master) (b : Bool) (a st code : Nat) :
    (s.busFail m b a st code).wear = s.wear :=
  (post_wear _ _ _ _ _ _).trans (busCapture_wear _ _ _ _ _)

@[simp] theorem busFail_nb (s : State) (m : Master) (b : Bool) (a st code : Nat) :
    (s.busFail m b a st code).nb = s.nb :=
  (post_nb _ _ _ _ _ _).trans (busCapture_nb _ _ _ _ _)

@[simp] theorem busFail_anx (s : State) (m : Master) (b : Bool) (a st code : Nat) :
    (s.busFail m b a st code).anx = s.anx :=
  (post_anx _ _ _ _ _ _).trans (busCapture_anx _ _ _ _ _)

@[simp] theorem busFail_rx (s : State) (m : Master) (b : Bool) (a st code : Nat) :
    (s.busFail m b a st code).rx = s.rx :=
  (post_rx _ _ _ _ _ _).trans (busCapture_rx _ _ _ _ _)

@[simp] theorem busFail_maintAt (s : State) (m : Master) (b : Bool) (a st code : Nat) :
    (s.busFail m b a st code).maintAt = s.maintAt :=
  (post_maintAt _ _ _ _ _ _).trans (busCapture_maintAt _ _ _ _ _)

@[simp] theorem busFail_firstLatch (s : State) (m : Master) (b : Bool) (a st code : Nat) :
    (s.busFail m b a st code).firstLatch = s.firstLatch :=
  (post_firstLatch _ _ _ _ _ _).trans (busCapture_firstLatch _ _ _ _ _)

@[simp] theorem busFail_pgn (s : State) (m : Master) (b : Bool) (a st code : Nat) :
    (s.busFail m b a st code).pgn = s.pgn :=
  (post_pgn _ _ _ _ _ _).trans (busCapture_pgn _ _ _ _ _)

/-! ### A state whose register file is that of another -/

@[simp] theorem mk_rd (s : State) (f : Fld) {x0 x1 x2 x3 x4 x5 x6 x7 x8 x9 x10 x11 x12 x13 x14 x15 x16 x17 x18 x19 x20 x21 x22 x23 x24 x25 x26 x27 x28 x29 x30 x31 x32 x33 x34 x35 x36 x37 x38 x39 x40} :
    (State.mk x0 s.regs x1 x2 x3 x4 x5 x6 x7 x8 x9 x10 x11 x12 x13 x14 x15 x16 x17 x18 x19 x20 x21 x22 x23 x24 x25 x26 x27 x28 x29 x30 x31 x32 x33 x34 x35 x36 x37 x38 x39 x40).rd f = s.rd f := (rfl)

@[simp] theorem mk_on (s : State) (f : Fld) {x0 x1 x2 x3 x4 x5 x6 x7 x8 x9 x10 x11 x12 x13 x14 x15 x16 x17 x18 x19 x20 x21 x22 x23 x24 x25 x26 x27 x28 x29 x30 x31 x32 x33 x34 x35 x36 x37 x38 x39 x40} :
    (State.mk x0 s.regs x1 x2 x3 x4 x5 x6 x7 x8 x9 x10 x11 x12 x13 x14 x15 x16 x17 x18 x19 x20 x21 x22 x23 x24 x25 x26 x27 x28 x29 x30 x31 x32 x33 x34 x35 x36 x37 x38 x39 x40).on f = s.on f := (rfl)

@[simp] theorem mk_role (s : State) {x0 x1 x2 x3 x4 x5 x6 x7 x8 x9 x10 x11 x12 x13 x14 x15 x16 x17 x18 x19 x20 x21 x22 x23 x24 x25 x26 x27 x28 x29 x30 x31 x32 x33 x34 x35 x36 x37 x38 x39 x40} :
    (State.mk x0 s.regs x1 x2 x3 x4 x5 x6 x7 x8 x9 x10 x11 x12 x13 x14 x15 x16 x17 x18 x19 x20 x21 x22 x23 x24 x25 x26 x27 x28 x29 x30 x31 x32 x33 x34 x35 x36 x37 x38 x39 x40).role = s.role := (rfl)

@[simp] theorem mk_inControl (s : State) {x0 x1 x2 x3 x4 x5 x6 x7 x8 x9 x10 x11 x12 x13 x14 x15 x16 x17 x18 x19 x20 x21 x22 x23 x24 x25 x26 x27 x28 x29 x30 x31 x32 x33 x34 x35 x36 x37 x38 x39 x40} :
    (State.mk x0 s.regs x1 x2 x3 x4 x5 x6 x7 x8 x9 x10 x11 x12 x13 x14 x15 x16 x17 x18 x19 x20 x21 x22 x23 x24 x25 x26 x27 x28 x29 x30 x31 x32 x33 x34 x35 x36 x37 x38 x39 x40).inControl = s.inControl := (rfl)

@[simp] theorem mk_locked (s : State) {x0 x1 x2 x3 x4 x5 x6 x7 x8 x9 x10 x11 x12 x13 x14 x15 x16 x17 x18 x19 x20 x21 x22 x23 x24 x25 x26 x27 x28 x29 x30 x31 x32 x33 x34 x35 x36 x37 x38 x39 x40} :
    (State.mk x0 s.regs x1 x2 x3 x4 x5 x6 x7 x8 x9 x10 x11 x12 x13 x14 x15 x16 x17 x18 x19 x20 x21 x22 x23 x24 x25 x26 x27 x28 x29 x30 x31 x32 x33 x34 x35 x36 x37 x38 x39 x40).locked = s.locked := (rfl)

end Sys2Proof.Machine
end

