-- ==== Sys2Proof/Laws/Access.lean ====
section
/-!
SUPPORT. What an access does, once for each outcome of its checks (R33).
-/
namespace Sys2Proof.Machine

theorem nexts_next (t : State) (p : State → Prop) : Nexts (.next t) p ↔ p t :=
  ⟨fun ⟨_, e, h⟩ => (Host.Outcome.next.inj e) ▸ h, fun h => ⟨t, rfl, h⟩⟩

theorem access_allows {s : State} {m : Master} {w : Width} {b : Bool} {a : Nat} (h : s.allows m w b a)
    (k : State → State) : s.access m w b a k = k ((s.wakeAt a).answer 0) := by
  simp [State.access, h.1, h.2]

theorem access_refused {s : State} {m : Master} {w : Width} {b : Bool} {a st code : Nat} (hi : s.issued m = true)
    (hc : s.checkAccess m w b a = some (st, code)) (k : State → State) :
    s.access m w b a k = s.busFail m b a st code := by
  simp [State.access, hi, hc]

/-- The response that a refused access gets. -/
theorem busFail_resp (s : State) (m : Master) (b : Bool) (a st code : Nat) :
    (s.busFail m b a st code).resp = { status := st, data := 0, coreFault := isCore m && st == Sta.absentUnit } := by
  unfold State.busFail
  exact (post_resp _ _ _ _ _ _).trans (busCapture_resp _ _ _ _ _)

/-- After a refused access the capture register shows a valid capture. -/
theorem busFail_valid (s : State) (m : Master) (b : Bool) (a st code : Nat) :
    (s.busFail m b a st code).on Reg.SYS_BUSERR_STAT_VALID = true := by
  simp only [State.busFail, State.on]
  rw [rd_post _ _ _ _ _ _ _ (by decide)]
  simp only [State.busCapture]
  split_ifs with h
  · rw [rd_wr_bits _ _ _ _ (by decide) (by decide)]
    exact h
  · simp only [State.wr64, State.wrB]
    rw [rd_wr_addr _ _ _ _ (by decide), rd_wr_addr _ _ _ _ (by decide), rd_wr_bits _ _ _ _ (by decide) (by decide),
      rd_wr_bits _ _ _ _ (by decide) (by decide), rd_wr_bits _ _ _ _ (by decide) (by decide), rd_wr_self _ _ _ (by decide)]
    rfl

end Sys2Proof.Machine
end

