-- ==== Sys2Proof/Laws/Frames.lean ====
section
/-!
SUPPORT. Frames, said once for each operation: which parts of the state it may change.
-/
namespace Sys2Proof.Machine

/-- Two states agree in every part that `F` does not allow to change. -/
def Fr (F : Place → Bool) (z s : State) : Prop := ∀ p, F p = false → p.same z s

/-- An answer's next state has that frame. -/
def FrA (F : Place → Bool) (z : State) (a : Answer) : Prop := ∀ t, a = .next t → Fr F z t

/-- `F` allows every part of a list to change. -/
def Al (F : Place → Bool) (l : List Place) : Prop := l.all F = true

theorem fr_self (F : Place → Bool) (s : State) : Fr F s s := by
  intro p _
  cases p <;> rfl

theorem al {F : Place → Bool} {l : List Place} (h : Al F l) {p : Place} (e : l.contains p = true) : F p = true :=
  List.all_eq_true.1 h p (List.contains_iff_mem.1 e)

theorem sub {F : Place → Bool} {l k : List Place} (h : Al F l) (e : k.all (fun p => l.contains p) = true) : Al F k :=
  List.all_eq_true.2 fun p hp => al h (List.all_eq_true.1 e p hp)

theorem fr_id {Q : Prop} (h : Q) : Q := h

theorem fr_fst {F : Place → Bool} {β : Type} {z s : State} {p : State × β} {x : β} (e : p = (s, x)) (h : Fr F z p.1) :
    Fr F z s := by
  subst e
  exact h

theorem fr_ite {F : Place → Bool} {z s t : State} {c : Prop} [Decidable c] (h1 : Fr F z s) (h2 : Fr F z t) :
    Fr F z (if c then s else t) := by
  split <;> assumption

theorem fr_iteA {F : Place → Bool} {z : State} {s t : Answer} {c : Prop} [Decidable c] (h1 : FrA F z s)
    (h2 : FrA F z t) : FrA F z (if c then s else t) := by
  split <;> assumption

theorem fr_iteP {F : Place → Bool} {β : Type} {z : State} {s t : State × β} {c : Prop} [Decidable c]
    (h1 : Fr F z s.1) (h2 : Fr F z t.1) : Fr F z (if c then s else t).1 := by
  split <;> assumption

theorem fr_dite {F : Place → Bool} {z : State} {c : Prop} [Decidable c] {s : c → State} {t : ¬c → State}
    (h1 : ∀ h, Fr F z (s h)) (h2 : ∀ h, Fr F z (t h)) : Fr F z (if h : c then s h else t h) := by
  split
  · exact h1 _
  · exact h2 _

theorem fr_diteA {F : Place → Bool} {z : State} {c : Prop} [Decidable c] {s : c → Answer} {t : ¬c → Answer}
    (h1 : ∀ h, FrA F z (s h)) (h2 : ∀ h, FrA F z (t h)) : FrA F z (if h : c then s h else t h) := by
  split
  · exact h1 _
  · exact h2 _

theorem fr_foldl {F : Place → Bool} {α : Type} {z : State} {f : State → α → State} {l : List α} {s : State}
    (hf : ∀ s x, Fr F z s → Fr F z (f s x)) (h : Fr F z s) : Fr F z (List.foldl f s l) := by
  induction l generalizing s with
  | nil => exact h
  | cons x l ih => exact ih (hf s x h)

theorem frA_next {F : Place → Bool} {z s : State} (h : Fr F z s) : FrA F z (.next s) := by
  intro t e
  cases e
  exact h

theorem frA_fault {F : Place → Bool} {z : State} {r : Fault} : FrA F z (.fault r) := by
  intro t e
  cases e

theorem frA_refused {F : Place → Bool} {z : State} {r : Refusal} : FrA F z (.refused r) := by
  intro t e
  cases e

theorem fr_eq {z s t : State} {p : Place} (h : p.same z s) (e : p.same s t) : p.same z t := by
  cases p <;> exact Eq.trans e h

theorem fr_no {F : Place → Bool} {p : Place} {Q : Prop} (h : F p = true) (e : F p = false) : Q := by
  rw [h] at e
  cases e

/-! ### One part replaced -/

theorem fr_pending {F : Place → Bool} {z s : State} {v : List Instr} (h : Fr F z s) (hu : F .pending = true) :
    Fr F z { s with pending := v } := by
  intro p hp
  cases p
  case pending => rw [hu] at hp; cases hp
  all_goals exact h _ hp

theorem fr_regs {F : Place → Bool} {z s : State} {v : Tab 32} (h : Fr F z s) (hu : F .regs = true) :
    Fr F z { s with regs := v } := by
  intro p hp
  cases p
  case regs => rw [hu] at hp; cases hp
  all_goals exact h _ hp

theorem fr_mem {F : Place → Bool} {z s : State} {v : Tab 8} (h : Fr F z s) (hu : F .mem = true) :
    Fr F z { s with mem := v } := by
  intro p hp
  cases p
  case mem => rw [hu] at hp; cases hp
  all_goals exact h _ hp

theorem fr_ident {F : Place → Bool} {z s : State} {v : Identity} (h : Fr F z s) (hu : F .ident = true) :
    Fr F z { s with ident := v } := by
  intro p hp
  cases p
  case ident => rw [hu] at hp; cases hp
  all_goals exact h _ hp

theorem fr_resp {F : Place → Bool} {z s : State} {v : Response} (h : Fr F z s) (hu : F .resp = true) :
    Fr F z { s with resp := v } := by
  intro p hp
  cases p
  case resp => rw [hu] at hp; cases hp
  all_goals exact h _ hp

theorem fr_latch {F : Place → Bool} {z s : State} {v : Tab 32} (h : Fr F z s) (hu : F .latch = true) :
    Fr F z { s with latch := v } := by
  intro p hp
  cases p
  case latch => rw [hu] at hp; cases hp
  all_goals exact h _ hp

theorem fr_staged {F : Place → Bool} {z s : State} {v : List (Nat × Word)} (h : Fr F z s) (hu : F .staged = true) :
    Fr F z { s with staged := v } := by
  intro p hp
  cases p
  case staged => rw [hu] at hp; cases hp
  all_goals exact h _ hp

theorem fr_gates {F : Place → Bool} {z s : State} {v : List (Nat × Gate)} (h : Fr F z s) (hu : F .gates = true) :
    Fr F z { s with gates := v } := by
  intro p hp
  cases p
  case gates => rw [hu] at hp; cases hp
  all_goals exact h _ hp

theorem fr_free {F : Place → Bool} {z s : State} {v : Nat} (h : Fr F z s) (hu : F .free = true) :
    Fr F z { s with free := v } := by
  intro p hp
  cases p
  case free => rw [hu] at hp; cases hp
  all_goals exact h _ hp

theorem fr_frc {F : Place → Bool} {z s : State} {v : Nat} (h : Fr F z s) (hu : F .frc = true) :
    Fr F z { s with frc := v } := by
  intro p hp
  cases p
  case frc => rw [hu] at hp; cases hp
  all_goals exact h _ hp

theorem fr_keyMaint {F : Place → Bool} {z s : State} {v : Bool} (h : Fr F z s) (hu : F .keyMaint = true) :
    Fr F z { s with keyMaint := v } := by
  intro p hp
  cases p
  case keyMaint => rw [hu] at hp; cases hp
  all_goals exact h _ hp

theorem fr_usb {F : Place → Bool} {z s : State} {v : Bool} (h : Fr F z s) (hu : F .usb = true) :
    Fr F z { s with usb := v } := by
  intro p hp
  cases p
  case usb => rw [hu] at hp; cases hp
  all_goals exact h _ hp

theorem fr_gb {F : Place → Bool} {z s : State} {v : Gb} (h : Fr F z s) (hu : F .gb = true) :
    Fr F z { s with gb := v } := by
  intro p hp
  cases p
  case gb => rw [hu] at hp; cases hp
  all_goals exact h _ hp

theorem fr_fpl {F : Place → Bool} {z s : State} {v : Fpl} (h : Fr F z s) (hu : F .fpl = true) :
    Fr F z { s with fpl := v } := by
  intro p hp
  cases p
  case fpl => rw [hu] at hp; cases hp
  all_goals exact h _ hp

theorem fr_power {F : Place → Bool} {z s : State} {v : Power} (h : Fr F z s) (hu : F .power = true) :
    Fr F z { s with power := v } := by
  intro p hp
  cases p
  case power => rw [hu] at hp; cases hp
  all_goals exact h _ hp

theorem fr_tim {F : Place → Bool} {z s : State} {v : Tim} (h : Fr F z s) (hu : F .tim = true) :
    Fr F z { s with tim := v } := by
  intro p hp
  cases p
  case tim => rw [hu] at hp; cases hp
  all_goals exact h _ hp

theorem fr_can {F : Place → Bool} {z s : State} {v : List (Nat × CanChan)} (h : Fr F z s) (hu : F .can = true) :
    Fr F z { s with can := v } := by
  intro p hp
  cases p
  case can => rw [hu] at hp; cases hp
  all_goals exact h _ hp

theorem fr_eth {F : Place → Bool} {z s : State} {v : List (Nat × EthPort)} (h : Fr F z s) (hu : F .eth = true) :
    Fr F z { s with eth := v } := by
  intro p hp
  cases p
  case eth => rw [hu] at hp; cases hp
  all_goals exact h _ hp

theorem fr_ser {F : Place → Bool} {z s : State} {v : List (Nat × Flight)} (h : Fr F z s) (hu : F .ser = true) :
    Fr F z { s with ser := v } := by
  intro p hp
  cases p
  case ser => rw [hu] at hp; cases hp
  all_goals exact h _ hp

theorem fr_serEnd {F : Place → Bool} {z s : State} {v : List (Nat × Nat)} (h : Fr F z s) (hu : F .serEnd = true) :
    Fr F z { s with serEnd := v } := by
  intro p hp
  cases p
  case serEnd => rw [hu] at hp; cases hp
  all_goals exact h _ hp

theorem fr_heads {F : Place → Bool} {z s : State} {v : List (Nat × Nat)} (h : Fr F z s) (hu : F .heads = true) :
    Fr F z { s with heads := v } := by
  intro p hp
  cases p
  case heads => rw [hu] at hp; cases hp
  all_goals exact h _ hp

theorem fr_rio {F : Place → Bool} {z s : State} {v : List (Nat × RioLink)} (h : Fr F z s) (hu : F .rio = true) :
    Fr F z { s with rio := v } := by
  intro p hp
  cases p
  case rio => rw [hu] at hp; cases hp
  all_goals exact h _ hp

theorem fr_isl {F : Place → Bool} {z s : State} {v : List (Nat × Island)} (h : Fr F z s) (hu : F .isl = true) :
    Fr F z { s with isl := v } := by
  intro p hp
  cases p
  case isl => rw [hu] at hp; cases hp
  all_goals exact h _ hp

theorem fr_key {F : Place → Bool} {z s : State} {v : Option KeySession} (h : Fr F z s) (hu : F .key = true) :
    Fr F z { s with key := v } := by
  intro p hp
  cases p
  case key => rw [hu] at hp; cases hp
  all_goals exact h _ hp

theorem fr_keyRefused {F : Place → Bool} {z s : State} {v : Option Nat} (h : Fr F z s) (hu : F .keyRefused = true) :
    Fr F z { s with keyRefused := v } := by
  intro p hp
  cases p
  case keyRefused => rw [hu] at hp; cases hp
  all_goals exact h _ hp

theorem fr_trimPers {F : Place → Bool} {z s : State} {v : List (Nat × Nat)} (h : Fr F z s) (hu : F .trimPers = true) :
    Fr F z { s with trimPers := v } := by
  intro p hp
  cases p
  case trimPers => rw [hu] at hp; cases hp
  all_goals exact h _ hp

theorem fr_saf {F : Place → Bool} {z s : State} {v : Saf} (h : Fr F z s) (hu : F .saf = true) :
    Fr F z { s with saf := v } := by
  intro p hp
  cases p
  case saf => rw [hu] at hp; cases hp
  all_goals exact h _ hp

theorem fr_axes {F : Place → Bool} {z s : State} {v : List (Nat × Axis)} (h : Fr F z s) (hu : F .axes = true) :
    Fr F z { s with axes := v } := by
  intro p hp
  cases p
  case axes => rw [hu] at hp; cases hp
  all_goals exact h _ hp

theorem fr_lp {F : Place → Bool} {z s : State} {v : LoopUnit} (h : Fr F z s) (hu : F .lp = true) :
    Fr F z { s with lp := v } := by
  intro p hp
  cases p
  case lp => rw [hu] at hp; cases hp
  all_goals exact h _ hp

theorem fr_slv {F : Place → Bool} {z s : State} {v : Slv} (h : Fr F z s) (hu : F .slv = true) :
    Fr F z { s with slv := v } := by
  intro p hp
  cases p
  case slv => rw [hu] at hp; cases hp
  all_goals exact h _ hp

theorem fr_firstOut {F : Place → Bool} {z s : State} {v : Option (Nat × Nat × Nat)} (h : Fr F z s) (hu : F .firstOut = true) :
    Fr F z { s with firstOut := v } := by
  intro p hp
  cases p
  case firstOut => rw [hu] at hp; cases hp
  all_goals exact h _ hp

theorem fr_posted {F : Place → Bool} {z s : State} {v : List (Nat × List Nat)} (h : Fr F z s) (hu : F .posted = true) :
    Fr F z { s with posted := v } := by
  intro p hp
  cases p
  case posted => rw [hu] at hp; cases hp
  all_goals exact h _ hp

theorem fr_scn {F : Place → Bool} {z s : State} {v : Scan} (h : Fr F z s) (hu : F .scn = true) :
    Fr F z { s with scn := v } := by
  intro p hp
  cases p
  case scn => rw [hu] at hp; cases hp
  all_goals exact h _ hp

theorem fr_ban {F : Place → Bool} {z s : State} {v : Ban} (h : Fr F z s) (hu : F .ban = true) :
    Fr F z { s with ban := v } := by
  intro p hp
  cases p
  case ban => rw [hu] at hp; cases hp
  all_goals exact h _ hp

theorem fr_rnd {F : Place → Bool} {z s : State} {v : Rnd} (h : Fr F z s) (hu : F .rnd = true) :
    Fr F z { s with rnd := v } := by
  intro p hp
  cases p
  case rnd => rw [hu] at hp; cases hp
  all_goals exact h _ hp

theorem fr_wear {F : Place → Bool} {z s : State} {v : Wear} (h : Fr F z s) (hu : F .wear = true) :
    Fr F z { s with wear := v } := by
  intro p hp
  cases p
  case wear => rw [hu] at hp; cases hp
  all_goals exact h _ hp

theorem fr_nb {F : Place → Bool} {z s : State} {v : Nb} (h : Fr F z s) (hu : F .nb = true) :
    Fr F z { s with nb := v } := by
  intro p hp
  cases p
  case nb => rw [hu] at hp; cases hp
  all_goals exact h _ hp

theorem fr_anx {F : Place → Bool} {z s : State} {v : Anx} (h : Fr F z s) (hu : F .anx = true) :
    Fr F z { s with anx := v } := by
  intro p hp
  cases p
  case anx => rw [hu] at hp; cases hp
  all_goals exact h _ hp

theorem fr_rx {F : Place → Bool} {z s : State} {v : List (Nat × RxCount)} (h : Fr F z s) (hu : F .rx = true) :
    Fr F z { s with rx := v } := by
  intro p hp
  cases p
  case rx => rw [hu] at hp; cases hp
  all_goals exact h _ hp

theorem fr_maintAt {F : Place → Bool} {z s : State} {v : Nat} (h : Fr F z s) (hu : F .maintAt = true) :
    Fr F z { s with maintAt := v } := by
  intro p hp
  cases p
  case maintAt => rw [hu] at hp; cases hp
  all_goals exact h _ hp

theorem fr_firstLatch {F : Place → Bool} {z s : State} {v : Bool} (h : Fr F z s) (hu : F .firstLatch = true) :
    Fr F z { s with firstLatch := v } := by
  intro p hp
  cases p
  case firstLatch => rw [hu] at hp; cases hp
  all_goals exact h _ hp

theorem fr_pgn {F : Place → Bool} {z s : State} {v : List (Nat × PgnChan)} (h : Fr F z s) (hu : F .pgn = true) :
    Fr F z { s with pgn := v } := by
  intro p hp
  cases p
  case pgn => rw [hu] at hp; cases hp
  all_goals exact h _ hp

end Sys2Proof.Machine
end

