-- ==== Sys2Proof/Laws/Agree.lean ====
section
/-!
SUPPORT. From a frame over parts of the state to agreement of two states; flags after
a write or an event.
-/
namespace Sys2Proof.Machine

theorem agree_of {l : List Place} {s t : State} {a : Answer} (h : FrA (fun p => l.contains p) s a) (e : a = .next t) :
    Agree l s t :=
  fun p hp => h t e p (by simpa using hp)

theorem al_contains (l : List Place) : Al (fun p => l.contains p) l := by
  simp [Al]

theorem on_wr_self (s : State) (f : Fld) (v : Nat) (h : f.lo + f.width ≤ 32) : (s.wr f v).on f = (v % 2 ^ f.width != 0) := by
  simp only [State.on, rd_wr_self _ _ _ h]

theorem on_wr_addr (s : State) (f g : Fld) (v : Nat) (h : g.addr ≠ f.addr) : (s.wr f v).on g = s.on g := by
  simp only [State.on, rd_wr_addr _ _ _ _ h]

theorem on_wr_bits (s : State) (f g : Fld) (v : Nat) (h : f.lo + f.width ≤ 32)
    (hd : g.lo + g.width ≤ f.lo ∨ f.lo + f.width ≤ g.lo) : (s.wr f v).on g = s.on g := by
  simp only [State.on, rd_wr_bits _ _ _ _ h hd]

theorem on_post (s : State) (source code p1 p2 p3 : Nat) (f : Fld) (h : unitOf f.addr ≠ Un.gb) :
    (s.post source code p1 p2 p3).on f = s.on f := by
  simp only [State.on, rd_post _ _ _ _ _ _ _ h]

end Sys2Proof.Machine
end

