-- ==== Sys2Proof/Laws/FrameOps.lean ====
section
/-!
SUPPORT. What the operations of Machine/Ops.lean may change (Laws/Frames.lean).
-/
namespace Sys2Proof.Machine

theorem State.setByte_frame {F : Place → Bool} {z : State} (s : State) (a : Nat) (b : Byte)
    (hu : Al F [.mem]) (hz : Fr F z s) :
    Fr F z (State.setByte s a b) := by
  unfold State.setByte
  exact (fr_mem hz (al hu rfl))

theorem State.waitOp_frame {F : Place → Bool} {z : State} (s : State) (n : Nat)
    (hu : Al F [.frc]) (hz : Fr F z s) :
    Fr F z (State.waitOp s n) := by
  unfold State.waitOp
  exact (fr_frc hz (al hu rfl))

theorem State.useFree_frame {F : Place → Bool} {z : State} (s : State)
    (hu : Al F [.free]) (hz : Fr F z s) :
    Fr F z (State.useFree s) := by
  unfold State.useFree
  exact (fr_free hz (al hu rfl))

theorem State.setGate_frame {F : Place → Bool} {z : State} (s : State) (u : GUnit) (g : Gate)
    (hu : Al F [.gates]) (hz : Fr F z s) :
    Fr F z (State.setGate s u g) := by
  unfold State.setGate
  exact (fr_gates hz (al hu rfl))

theorem State.waitTo_frame {F : Place → Bool} {z : State} (s : State) (t : Nat)
    (hu : Al F [.saf, .frc]) (hz : Fr F z s) :
    Fr F z (State.waitTo s t) := by
  unfold State.waitTo
  exact (fr_ite (fr_frc hz (al hu rfl))
  (fr_saf hz (al hu rfl)))

theorem State.setBytes_frame {F : Place → Bool} {z : State} (s : State) (a : Nat) (bs : List Byte)
    (hu : Al F [.mem]) (hz : Fr F z s) :
    Fr F z (State.setBytes s a bs) := by
  unfold State.setBytes
  exact (fr_mem hz (al hu rfl))

theorem State.wr_frame {F : Place → Bool} {z : State} (s : State) (f : Fld) (v : Nat)
    (hu : Al F [.regs]) (hz : Fr F z s) :
    Fr F z (State.wr s f v) := by
  unfold State.wr
  exact (fr_regs hz (al hu rfl))

theorem State.wr64_frame {F : Place → Bool} {z : State} (s : State) (lo : Fld) (hi2' : Fld) (v : Nat)
    (hu : Al F [.regs]) (hz : Fr F z s) :
    Fr F z (State.wr64 s lo hi2' v) := by
  unfold State.wr64
  exact (State.wr_frame _ _ _ (sub hu rfl) (State.wr_frame _ _ _ (sub hu rfl) hz))

theorem State.wrB_frame {F : Place → Bool} {z : State} (s : State) (f : Fld) (b : Bool)
    (hu : Al F [.regs]) (hz : Fr F z s) :
    Fr F z (State.wrB s f b) := by
  unfold State.wrB
  exact (State.wr_frame _ _ _ (sub hu rfl) hz)

theorem State.bumpBy_frame {F : Place → Bool} {z : State} (s : State) (f : Fld) (n : Nat)
    (hu : Al F [.regs]) (hz : Fr F z s) :
    Fr F z (State.bumpBy s f n) := by
  unfold State.bumpBy
  exact (State.wr_frame _ _ _ (sub hu rfl) hz)

theorem State.showPower_frame {F : Place → Bool} {z : State} (s : State) (u : GUnit) (on_ : Bool)
    (hu : Al F [.regs]) (hz : Fr F z s) :
    Fr F z (State.showPower s u on_) := by
  unfold State.showPower
  exact (by
    split
    · exact (State.wrB_frame _ _ _ (sub hu rfl) hz)
    · exact (State.wrB_frame _ _ _ (sub hu rfl) hz)
    · exact hz)

theorem State.bump_frame {F : Place → Bool} {z : State} (s : State) (f : Fld)
    (hu : Al F [.regs]) (hz : Fr F z s) :
    Fr F z (State.bump s f) := by
  unfold State.bump
  exact (State.wr_frame _ _ _ (sub hu rfl) hz)

theorem State.gbSuppress_frame {F : Place → Bool} {z : State} (s : State) (code : Nat)
    (hu : Al F [.gb, .regs]) (hz : Fr F z s) :
    Fr F z (State.gbSuppress s code) := by
  unfold State.gbSuppress
  extract_lets +onlyGivenNames x0_
  have h0_ : Fr F z x0_ := (fr_ite (State.bump_frame _ _ (sub hu rfl) hz)
  hz)
  try clear_value x0_
  revert x0_
  refine fr_id ?_
  intro x0_ h0_
  extract_lets +onlyGivenNames x1_
  have h1_ : Fr F z x1_ := (State.bump_frame _ _ (sub hu rfl) h0_)
  try clear_value x1_
  revert x1_
  refine fr_id ?_
  intro x1_ h1_
  exact (fr_gb h1_ (al hu rfl))

theorem State.wake_frame {F : Place → Bool} {z : State} (s : State) (u : GUnit)
    (hu : Al F [.regs, .gates]) (hz : Fr F z s) :
    Fr F z (State.wake s u) := by
  unfold State.wake
  extract_lets +onlyGivenNames x0_
  exact (fr_ite hz
  (fr_ite (State.setGate_frame _ _ _ (sub hu rfl) hz)
  (fr_ite (State.showPower_frame _ _ _ (sub hu rfl) (State.setGate_frame _ _ _ (sub hu rfl) hz))
  hz)))

theorem State.post_frame {F : Place → Bool} {z : State} (s : State) (source : Nat) (code : Nat) (p1 : Nat) (p2 : Nat) (p3 : Nat)
    (hu : Al F [.gb, .regs, .gates]) (hz : Fr F z s) :
    Fr F z (State.post s source code p1 p2 p3) := by
  unfold State.post
  extract_lets +onlyGivenNames x0_
  exact (fr_ite hz
  (by
    extract_lets +onlyGivenNames x1_
    have h1_ : Fr F z x1_ := (State.wake_frame _ _ (sub hu rfl) hz)
    try clear_value x1_
    revert x1_
    refine fr_id ?_
    intro x1_ h1_
    exact (fr_ite (fr_gb h1_ (al hu rfl))
    (State.bump_frame _ _ (sub hu rfl) (State.gbSuppress_frame _ _ (sub hu rfl) h1_)))))

theorem State.ring_frame {F : Place → Bool} {z : State} (s : State) (id : Nat)
    (hu : Al F [.regs, .gates]) (hz : Fr F z s) :
    Fr F z (State.ring s id) := by
  unfold State.ring
  exact (fr_dite (fun _ => (State.wake_frame _ _ (sub hu rfl) hz))
  (fun _ => (fr_ite (State.wake_frame _ _ (sub hu rfl) hz)
  (fr_ite (State.wake_frame _ _ (sub hu rfl) hz)
  hz))))

end Sys2Proof.Machine
end

