-- ==== Sys2Proof/Laws/FrameFlags.lean ====
section
/-!
SUPPORT. What the operations of Machine/Flags.lean may change (Laws/Frames.lean).
-/
namespace Sys2Proof.Machine

theorem State.cmdStat_frame {F : Place → Bool} {z : State} (s : State) (status : Fld) (reason : Fld) (why : Nat)
    (hu : Al F [.regs]) (hz : Fr F z s) :
    Fr F z (State.cmdStat s status reason why) := by
  unfold State.cmdStat
  exact (State.wr_frame _ _ _ (sub hu rfl) (State.wr_frame _ _ _ (sub hu rfl) hz))

end Sys2Proof.Machine
end

