-- ==== Sys2Proof/Laws/FramePlan.lean ====
section
/-!
SUPPORT. What the operations of Machine/Plan.lean may change (Laws/Frames.lean).
-/
namespace Sys2Proof.Machine

theorem State.holdView_frame {F : Place → Bool} {z : State} (s : State)
    (hu : Al F [.fpl]) (hz : Fr F z s) :
    Fr F z (State.holdView s) := by
  unfold State.holdView
  exact (by
    split
    · exact (fr_ite hz
      (fr_fpl hz (al hu rfl)))
    · exact hz)

end Sys2Proof.Machine
end

