-- ==== Sys2Proof/Laws/FrameOperands.lean ====
section
/-!
SUPPORT. What the operations of Machine/Operands.lean may change (Laws/Frames.lean).
-/
namespace Sys2Proof.Machine

theorem State.setLatch_frame {F : Place → Bool} {z : State} (s : State) (m : Master) (hi2' : Nat) (v : Nat)
    (hu : Al F [.latch]) (hz : Fr F z s) :
    Fr F z (State.setLatch s m hi2' v) := by
  unfold State.setLatch
  exact (fr_latch hz (al hu rfl))

theorem State.stageLo_frame {F : Place → Bool} {z : State} (s : State) (m : Master) (a : Nat) (v : Nat)
    (hu : Al F [.staged]) (hz : Fr F z s) :
    Fr F z (State.stageLo s m a v) := by
  unfold State.stageLo
  exact (fr_staged hz (al hu rfl))

theorem State.unstage_frame {F : Place → Bool} {z : State} (s : State) (m : Master) (a : Nat)
    (hu : Al F [.staged]) (hz : Fr F z s) :
    Fr F z (State.unstage s m a) := by
  unfold State.unstage
  exact (fr_staged hz (al hu rfl))

theorem State.respond_frame {F : Place → Bool} {z : State} (s : State) (r : Response)
    (hu : Al F [.resp]) (hz : Fr F z s) :
    Fr F z (State.respond s r) := by
  unfold State.respond
  exact (fr_resp hz (al hu rfl))

theorem State.wrMasked_frame {F : Place → Bool} {z : State} (s : State) (a : Nat) (mask : Nat) (v : Nat)
    (hu : Al F [.regs]) (hz : Fr F z s) :
    Fr F z (State.wrMasked s a mask v) := by
  unfold State.wrMasked
  extract_lets +onlyGivenNames x0_
  exact (fr_regs hz (al hu rfl))

theorem State.answer_frame {F : Place → Bool} {z : State} (s : State) (data : Nat)
    (hu : Al F [.resp]) (hz : Fr F z s) :
    Fr F z (State.answer s data) := by
  unfold State.answer
  exact (State.respond_frame _ _ (sub hu rfl) hz)

theorem State.plainWrite_frame {F : Place → Bool} {z : State} (s : State) (r : RegSpec) (a : Nat) (v : Nat)
    (hu : Al F [.regs]) (hz : Fr F z s) :
    Fr F z (State.plainWrite s r a v) := by
  unfold State.plainWrite
  exact (State.wrMasked_frame _ _ _ _ (sub hu rfl) (State.wrMasked_frame _ _ _ _ (sub hu rfl) hz))

theorem State.busCapture_frame {F : Place → Bool} {z : State} (s : State) (m : Master) (write : Bool) (a : Nat) (status : Nat)
    (hu : Al F [.regs]) (hz : Fr F z s) :
    Fr F z (State.busCapture s m write a status) := by
  unfold State.busCapture
  exact (fr_ite (State.wr_frame _ _ _ (sub hu rfl) hz)
  (State.wr64_frame _ _ _ _ (sub hu rfl) (State.wrB_frame _ _ _ (sub hu rfl) (State.wr_frame _ _ _ (sub hu rfl) (State.wr_frame _ _ _ (sub hu rfl) (State.wr_frame _ _ _ (sub hu rfl) hz))))))

theorem State.wakeAt_frame {F : Place → Bool} {z : State} (s : State) (a : Nat)
    (hu : Al F [.regs, .gates]) (hz : Fr F z s) :
    Fr F z (State.wakeAt s a) := by
  unfold State.wakeAt
  exact (by
    split
    · exact (State.wake_frame _ _ (sub hu rfl) hz)
    · exact hz)

theorem State.busFail_frame {F : Place → Bool} {z : State} (s : State) (m : Master) (write : Bool) (a : Nat) (status : Nat) (code : Nat)
    (hu : Al F [.gb, .regs, .resp, .gates]) (hz : Fr F z s) :
    Fr F z (State.busFail s m write a status code) := by
  unfold State.busFail
  extract_lets +onlyGivenNames x0_
  have h0_ : Fr F z x0_ := (State.respond_frame _ _ (sub hu rfl) hz)
  try clear_value x0_
  revert x0_
  refine fr_id ?_
  intro x0_ h0_
  exact (State.post_frame _ _ _ _ _ _ (sub hu rfl) (State.busCapture_frame _ _ _ _ _ (sub hu rfl) h0_))

theorem State.refuseWrite_frame {F : Place → Bool} {z : State} (s : State) (m : Master) (a : Nat)
    (hu : Al F [.gb, .regs, .resp, .gates]) (hz : Fr F z s) :
    Fr F z (State.refuseWrite s m a) := by
  unfold State.refuseWrite
  exact (State.busFail_frame _ _ _ _ _ _ (sub hu rfl) hz)

theorem State.access_frame {F : Place → Bool} {z : State} (s : State) (m : Master) (w : Width) (write : Bool) (a : Nat) (k : State → State)
    (hu : Al F [.gb, .regs, .resp, .gates]) (hz : Fr F z s) (hk : ∀ (a0 : State), Fr F z a0 → Fr F z (k a0)) :
    Fr F z (State.access s m w write a k) := by
  unfold State.access
  exact (fr_ite (by
    split
    · exact (State.busFail_frame _ _ _ _ _ _ (sub hu rfl) hz)
    · exact (hk _ (State.answer_frame _ _ (sub hu rfl) (State.wakeAt_frame _ _ (sub hu rfl) hz))))
  hz)

end Sys2Proof.Machine
end

