-- ==== Sys2Proof/Laws/FrameIslands.lean ====
section
/-!
SUPPORT. What the operations of Machine/Islands.lean may change (Laws/Frames.lean).
-/
namespace Sys2Proof.Machine

theorem State.outSample_frame {F : Place → Bool} {z : State} (s : State)
    (hu : Al F [.ban]) (hz : Fr F z s) :
    Fr F z (State.outSample s) := by
  unfold State.outSample
  exact (fr_ite (fr_ban hz (al hu rfl))
  hz)

theorem State.islSupplyShow_frame {F : Place → Bool} {z : State} (s : State) (k : Nat) (mv : Nat)
    (hu : Al F [.regs]) (hz : Fr F z s) :
    Fr F z (State.islSupplyShow s k mv) := by
  unfold State.islSupplyShow
  exact (State.wr_frame _ _ _ (sub hu rfl) (State.wr_frame _ _ _ (sub hu rfl) hz))

theorem State.islDiag_frame {F : Place → Bool} {z : State} (s : State) (k : Nat)
    (hu : Al F [.regs]) (hz : Fr F z s) :
    Fr F z (State.islDiag s k) := by
  unfold State.islDiag
  exact (fr_foldl (fun _ _ h0_ => (fr_ite (by
    extract_lets +onlyGivenNames x1_
    exact (State.wr_frame _ _ _ (sub hu rfl) (State.wr_frame _ _ _ (sub hu rfl) h0_)))
  h0_))
  hz)

theorem State.wearSwitch_frame {F : Place → Bool} {z : State} (s : State) (n : Nat) (was : Bool) (now : Bool)
    (hu : Al F [.regs, .free]) (hz : Fr F z s) :
    Fr F z (State.wearSwitch s n was now) := by
  unfold State.wearSwitch
  exact (fr_ite (State.wr64_frame _ _ _ _ (sub hu rfl) hz)
  (fr_ite (State.useFree_frame _ (sub hu rfl) (State.wr64_frame _ _ _ _ (sub hu rfl) hz))
  hz))

theorem State.islBad_frame {F : Place → Bool} {z : State} (s : State) (k : Nat)
    (hu : Al F [.regs]) (hz : Fr F z s) :
    Fr F z (State.islBad s k) := by
  unfold State.islBad
  exact (fr_foldl (fun _ _ h0_ => (State.wr_frame _ _ _ (sub hu rfl) (State.wr_frame _ _ _ (sub hu rfl) h0_)))
  hz)

theorem State.setIsland_frame {F : Place → Bool} {z : State} (s : State) (k : Nat) (x : Island)
    (hu : Al F [.isl, .regs, .free]) (hz : Fr F z s) :
    Fr F z (State.setIsland s k x) := by
  unfold State.setIsland
  extract_lets +onlyGivenNames x0_
  extract_lets +onlyGivenNames x1_
  extract_lets +onlyGivenNames x2_
  have h2_ : Fr F z x2_ := (fr_foldl (fun _ _ h3_ => (State.wearSwitch_frame _ _ _ _ (sub hu rfl) h3_))
  hz)
  try clear_value x2_
  revert x2_
  refine fr_id ?_
  intro x2_ h2_
  exact (fr_isl h2_ (al hu rfl))

theorem execBarrierFrameSend_frame {F : Place → Bool} {z : State} (k : Fin 8) (s : State)
    (hu : Al F [.isl, .regs, .free, .frc]) (hz : Fr F z s) :
    FrA F z (execBarrierFrameSend k s) := by
  unfold execBarrierFrameSend
  exact (fr_iteA (by
    extract_lets +onlyGivenNames x0_
    extract_lets +onlyGivenNames x1_
    extract_lets +onlyGivenNames x2_
    have h2_ : Fr F z x2_ := (fr_frc hz (al hu rfl))
    try clear_value x2_
    revert x2_
    refine fr_id ?_
    intro x2_ h2_
    exact (frA_next (State.setIsland_frame _ _ _ (sub hu rfl) h2_)))
  (frA_next hz))

theorem State.islShowCh_frame {F : Place → Bool} {z : State} (s : State) (k : Nat) (c : Nat) (word : Nat) (hdr4' : Nat)
    (hu : Al F [.regs]) (hz : Fr F z s) :
    Fr F z (State.islShowCh s k c word hdr4') := by
  unfold State.islShowCh
  extract_lets +onlyGivenNames x0_
  extract_lets +onlyGivenNames x1_
  extract_lets +onlyGivenNames x2_
  extract_lets +onlyGivenNames x3_
  extract_lets +onlyGivenNames x4_
  extract_lets +onlyGivenNames x5_
  extract_lets +onlyGivenNames x6_
  extract_lets +onlyGivenNames x7_
  extract_lets +onlyGivenNames x8_
  extract_lets +onlyGivenNames x9_
  extract_lets +onlyGivenNames x10_
  extract_lets +onlyGivenNames x11_
  extract_lets +onlyGivenNames x12_
  extract_lets +onlyGivenNames x13_
  extract_lets +onlyGivenNames x14_
  extract_lets +onlyGivenNames x15_
  extract_lets +onlyGivenNames x16_
  have h16_ : Fr F z x16_ := (State.wr_frame _ _ _ (sub hu rfl) (State.wr_frame _ _ _ (sub hu rfl) hz))
  try clear_value x16_
  revert x16_
  refine fr_id ?_
  intro x16_ h16_
  extract_lets +onlyGivenNames x17_
  have h17_ : Fr F z x17_ := (fr_ite h16_
  (State.wr_frame _ _ _ (sub hu rfl) h16_))
  try clear_value x17_
  revert x17_
  refine fr_id ?_
  intro x17_ h17_
  exact (fr_ite (by
    extract_lets +onlyGivenNames x18_
    have h18_ : Fr F z x18_ := (State.wrB_frame _ _ _ (sub hu rfl) (State.wrB_frame _ _ _ (sub hu rfl) (State.wrB_frame _ _ _ (sub hu rfl) h17_)))
    try clear_value x18_
    revert x18_
    refine fr_id ?_
    intro x18_ h18_
    exact (State.wr_frame _ _ _ (sub hu rfl) (State.wrB_frame _ _ _ (sub hu rfl) h18_)))
  (fr_ite (by
    extract_lets +onlyGivenNames x19_
    have h19_ : Fr F z x19_ := (State.wrB_frame _ _ _ (sub hu rfl) (State.wrB_frame _ _ _ (sub hu rfl) (State.wrB_frame _ _ _ (sub hu rfl) h17_)))
    try clear_value x19_
    revert x19_
    refine fr_id ?_
    intro x19_ h19_
    exact (State.wr_frame _ _ _ (sub hu rfl) h19_))
  h17_))

theorem execIslandLogicReset_frame {F : Place → Bool} {z : State} (k : Fin 8) (s : State)
    (hu : Al F [.isl, .regs, .free]) (hz : Fr F z s) :
    FrA F z (execIslandLogicReset k s) := by
  unfold execIslandLogicReset
  extract_lets +onlyGivenNames x0_
  exact (fr_iteA (by
    extract_lets +onlyGivenNames x1_
    exact (frA_next (State.setIsland_frame _ _ _ (sub hu rfl) hz)))
  (frA_next hz))

theorem State.islCmdWrite_frame {F : Place → Bool} {z : State} (s : State) (k : Nat) (value : Nat)
    (hu : Al F [.isl, .regs, .free]) (hz : Fr F z s) :
    Fr F z (State.islCmdWrite s k value) := by
  unfold State.islCmdWrite
  extract_lets +onlyGivenNames x0_
  extract_lets +onlyGivenNames x1_
  extract_lets +onlyGivenNames x2_
  exact (fr_ite hz
  (fr_ite (fr_ite (State.cmdStat_frame _ _ _ _ (sub hu rfl) hz)
  (fr_ite (State.cmdStat_frame _ _ _ _ (sub hu rfl) hz)
  (fr_ite (State.cmdStat_frame _ _ _ _ (sub hu rfl) hz)
  (State.setIsland_frame _ _ _ (sub hu rfl) (State.cmdStat_frame _ _ _ _ (sub hu rfl) hz)))))
  (fr_ite (fr_foldl (fun _ _ h3_ => (State.wr_frame _ _ _ (sub hu rfl) h3_))
  (State.cmdStat_frame _ _ _ _ (sub hu rfl) hz))
  hz)))

theorem execKillLineChange_frame {F : Place → Bool} {z : State} (k : Fin 8) (s : State)
    (hu : Al F [.isl, .regs, .free]) (hz : Fr F z s) :
    FrA F z (execKillLineChange k s) := by
  unfold execKillLineChange
  exact (fr_iteA (frA_next (State.setIsland_frame _ _ _ (sub hu rfl) hz))
  (frA_next hz))

theorem execRestoreChannelOn_frame {F : Place → Bool} {z : State} (k : Fin 8) (s : State)
    (hu : Al F [.isl, .regs, .free, .saf, .frc]) (hz : Fr F z s) :
    FrA F z (execRestoreChannelOn k s) := by
  unfold execRestoreChannelOn
  extract_lets +onlyGivenNames x0_
  exact (fr_iteA (by
    extract_lets +onlyGivenNames x1_
    have h1_ : Fr F z x1_ := (State.waitTo_frame _ _ (sub hu rfl) hz)
    try clear_value x1_
    revert x1_
    refine fr_id ?_
    intro x1_ h1_
    exact (frA_next (State.setIsland_frame _ _ _ (sub hu rfl) h1_)))
  (frA_next hz))

theorem execInputSample_frame {F : Place → Bool} {z : State} (k : Fin 8) (smp : List DigSample) (s : State)
    (hu : Al F [.ban, .isl, .regs, .free, .saf, .frc]) (hz : Fr F z s) :
    FrA F z (execInputSample k smp s) := by
  unfold execInputSample
  extract_lets +onlyGivenNames x0_
  exact (fr_iteA (by
    extract_lets +onlyGivenNames x1_
    have h1_ : Fr F z x1_ := (State.waitTo_frame _ _ (sub hu rfl) hz)
    try clear_value x1_
    revert x1_
    refine fr_id ?_
    intro x1_ h1_
    exact (frA_next (State.outSample_frame _ (sub hu rfl) (State.setIsland_frame _ _ _ (sub hu rfl) h1_))))
  (frA_next hz))

theorem State.islSdi_frame {F : Place → Bool} {z : State} (s : State) (k : Nat) (f : List Byte)
    (hu : Al F [.isl, .regs, .free, .saf]) (hz : Fr F z s) :
    Fr F z (State.islSdi s k f) := by
  unfold State.islSdi
  exact (fr_ite (by
    extract_lets +onlyGivenNames x0_
    extract_lets +onlyGivenNames x1_
    extract_lets +onlyGivenNames x2_
    extract_lets +onlyGivenNames x3_
    extract_lets +onlyGivenNames x4_
    extract_lets +onlyGivenNames x5_
    extract_lets +onlyGivenNames x6_
    extract_lets +onlyGivenNames x7_
    have h7_ : Fr F z x7_ := (State.setIsland_frame _ _ _ (sub hu rfl) hz)
    try clear_value x7_
    revert x7_
    refine fr_id ?_
    intro x7_ h7_
    exact (fr_ite h7_
    (fr_saf h7_ (al hu rfl))))
  hz)

theorem execIslandWatchdog_frame {F : Place → Bool} {z : State} (k : Fin 8) (s : State)
    (hu : Al F [.isl, .regs, .free, .saf, .frc]) (hz : Fr F z s) :
    FrA F z (execIslandWatchdog k s) := by
  unfold execIslandWatchdog
  extract_lets +onlyGivenNames x0_
  exact (fr_iteA (by
    extract_lets +onlyGivenNames x1_
    have h1_ : Fr F z x1_ := (State.waitTo_frame _ _ (sub hu rfl) hz)
    try clear_value x1_
    revert x1_
    refine fr_id ?_
    intro x1_ h1_
    exact (frA_next (State.setIsland_frame _ _ _ (sub hu rfl) h1_)))
  (frA_next hz))

theorem State.islFaultOn_frame {F : Place → Bool} {z : State} (s : State) (k : Nat)
    (hu : Al F [.isl, .gb, .regs, .free, .gates]) (hz : Fr F z s) :
    Fr F z (State.islFaultOn s k) := by
  unfold State.islFaultOn
  extract_lets +onlyGivenNames x0_
  extract_lets +onlyGivenNames x1_
  have h1_ : Fr F z x1_ := (State.wr_frame _ _ _ (sub hu rfl) (State.setIsland_frame _ _ _ (sub hu rfl) hz))
  try clear_value x1_
  revert x1_
  refine fr_id ?_
  intro x1_ h1_
  exact (State.post_frame _ _ _ _ _ _ (sub hu rfl) (State.bump_frame _ _ (sub hu rfl) (State.islBad_frame _ _ (sub hu rfl) h1_)))

theorem State.setCh_frame {F : Place → Bool} {z : State} (s : State) (k : Nat) (c : Nat) (h3' : IslChan)
    (hu : Al F [.isl, .regs, .free]) (hz : Fr F z s) :
    Fr F z (State.setCh s k c h3') := by
  unfold State.setCh
  exact (State.setIsland_frame _ _ _ (sub hu rfl) hz)

theorem State.sagRelease_frame {F : Place → Bool} {z : State} (s : State) (k : Nat) (cause : Nat)
    (hu : Al F [.isl, .gb, .regs, .free, .gates]) (hz : Fr F z s) :
    Fr F z (State.sagRelease s k cause) := by
  unfold State.sagRelease
  extract_lets +onlyGivenNames x0_
  exact (fr_ite (State.post_frame _ _ _ _ _ _ (sub hu rfl) (State.setIsland_frame _ _ _ (sub hu rfl) hz))
  hz)

theorem execGroupOverloadStep_frame {F : Place → Bool} {z : State} (k : Fin 8) (total : Nat) (s : State)
    (hu : Al F [.isl, .gb, .regs, .free, .gates, .saf, .frc]) (hz : Fr F z s) :
    FrA F z (execGroupOverloadStep k total s) := by
  unfold execGroupOverloadStep
  extract_lets +onlyGivenNames x0_
  extract_lets +onlyGivenNames x1_
  have h1_ : Fr F z x1_ := (fr_ite (State.waitTo_frame _ _ (sub hu rfl) hz)
  hz)
  try clear_value x1_
  revert x1_
  refine fr_id ?_
  intro x1_ h1_
  exact (fr_iteA (frA_next h1_)
  (fr_iteA (by
    split
    · exact (frA_next h1_)
    · extract_lets +onlyGivenNames x2_
      extract_lets +onlyGivenNames x3_
      extract_lets +onlyGivenNames x4_
      exact (frA_next (State.bump_frame _ _ (sub hu rfl) (State.setIsland_frame _ _ _ (sub hu rfl) h1_))))
  (by
    split
    · exact (frA_next (State.post_frame _ _ _ _ _ _ (sub hu rfl) (State.setIsland_frame _ _ _ (sub hu rfl) h1_)))
    · exact (frA_next h1_))))

theorem State.islBadSlots_frame {F : Place → Bool} {z : State} (s : State) (k : Nat) (n : Nat)
    (hu : Al F [.isl, .gb, .regs, .free, .gates]) (hz : Fr F z s) :
    Fr F z (State.islBadSlots s k n) := by
  unfold State.islBadSlots
  extract_lets +onlyGivenNames x0_
  extract_lets +onlyGivenNames x1_
  have h1_ : Fr F z x1_ := (State.bumpBy_frame _ _ _ (sub hu rfl) hz)
  try clear_value x1_
  revert x1_
  refine fr_id ?_
  intro x1_ h1_
  extract_lets +onlyGivenNames x2_
  have h2_ : Fr F z x2_ := (State.setIsland_frame _ _ _ (sub hu rfl) h1_)
  try clear_value x2_
  revert x2_
  refine fr_id ?_
  intro x2_ h2_
  exact (fr_ite (State.islFaultOn_frame _ _ (sub hu rfl) h2_)
  h2_)

theorem execRestoreReady_frame {F : Place → Bool} {z : State} (k : Fin 8) (supply : Nat) (s : State)
    (hu : Al F [.isl, .gb, .regs, .free, .gates, .saf, .frc]) (hz : Fr F z s) :
    FrA F z (execRestoreReady k supply s) := by
  unfold execRestoreReady
  extract_lets +onlyGivenNames x0_
  exact (fr_iteA (by
    extract_lets +onlyGivenNames x1_
    have h1_ : Fr F z x1_ := (State.waitTo_frame _ _ (sub hu rfl) hz)
    try clear_value x1_
    revert x1_
    refine fr_id ?_
    intro x1_ h1_
    extract_lets +onlyGivenNames x2_
    have h2_ : Fr F z x2_ := (State.setIsland_frame _ _ _ (sub hu rfl) h1_)
    try clear_value x2_
    revert x2_
    refine fr_id ?_
    intro x2_ h2_
    exact (frA_next (fr_ite (State.sagRelease_frame _ _ _ (sub hu rfl) h2_)
    h2_)))
  (frA_next hz))

theorem execWireBreakEnd_frame {F : Place → Bool} {z : State} (k : Fin 8) (c : Fin 8) (s : State)
    (hu : Al F [.isl, .gb, .regs, .free, .gates, .saf, .frc]) (hz : Fr F z s) :
    FrA F z (execWireBreakEnd k c s) := by
  unfold execWireBreakEnd
  extract_lets +onlyGivenNames x0_
  extract_lets +onlyGivenNames x1_
  exact (fr_iteA (by
    extract_lets +onlyGivenNames x2_
    have h2_ : Fr F z x2_ := (State.waitTo_frame _ _ (sub hu rfl) hz)
    try clear_value x2_
    revert x2_
    refine fr_id ?_
    intro x2_ h2_
    exact (frA_next (State.post_frame _ _ _ _ _ _ (sub hu rfl) (State.setCh_frame _ _ _ _ (sub hu rfl) h2_))))
  (frA_next hz))

theorem execWireBreak_frame {F : Place → Bool} {z : State} (k : Fin 8) (c : Fin 8) (uA : Nat) (s : State)
    (hu : Al F [.isl, .gb, .regs, .free, .gates, .saf, .frc]) (hz : Fr F z s) :
    FrA F z (execWireBreak k c uA s) := by
  unfold execWireBreak
  extract_lets +onlyGivenNames x0_
  extract_lets +onlyGivenNames x1_
  exact (fr_iteA (by
    extract_lets +onlyGivenNames x2_
    have h2_ : Fr F z x2_ := (State.waitTo_frame _ _ (sub hu rfl) hz)
    try clear_value x2_
    revert x2_
    refine fr_id ?_
    intro x2_ h2_
    extract_lets +onlyGivenNames x3_
    have h3_ : Fr F z x3_ := (State.bump_frame _ _ (sub hu rfl) (State.setCh_frame _ _ _ _ (sub hu rfl) h2_))
    try clear_value x3_
    revert x3_
    refine fr_id ?_
    intro x3_ h3_
    exact (frA_next (State.post_frame _ _ _ _ _ _ (sub hu rfl) h3_)))
  (frA_next hz))

theorem State.islMeasure_frame {F : Place → Bool} {z : State} (s : State) (k : Nat) (supply : Nat)
    (hu : Al F [.isl, .gb, .regs, .free, .gates]) (hz : Fr F z s) :
    Fr F z (State.islMeasure s k supply) := by
  unfold State.islMeasure
  extract_lets +onlyGivenNames x0_
  extract_lets +onlyGivenNames x1_
  extract_lets +onlyGivenNames x2_
  extract_lets +onlyGivenNames x3_
  have h3_ : Fr F z x3_ := (State.setIsland_frame _ _ _ (sub hu rfl) hz)
  try clear_value x3_
  revert x3_
  refine fr_id ?_
  intro x3_ h3_
  exact (fr_ite (State.post_frame _ _ _ _ _ _ (sub hu rfl) h3_)
  h3_)

theorem State.islHdr_frame {F : Place → Bool} {z : State} (s : State) (k : Nat) (hdr2' : Nat)
    (hu : Al F [.gb, .regs, .gates]) (hz : Fr F z s) :
    Fr F z (State.islHdr s k hdr2') := by
  unfold State.islHdr
  extract_lets +onlyGivenNames x0_
  extract_lets +onlyGivenNames x1_
  extract_lets +onlyGivenNames x2_
  have h2_ : Fr F z x2_ := (State.wrB_frame _ _ _ (sub hu rfl) (State.wrB_frame _ _ _ (sub hu rfl) (State.wrB_frame _ _ _ (sub hu rfl) (State.wrB_frame _ _ _ (sub hu rfl) hz))))
  try clear_value x2_
  revert x2_
  refine fr_id ?_
  intro x2_ h2_
  extract_lets +onlyGivenNames x3_
  have h3_ : Fr F z x3_ := (State.wrB_frame _ _ _ (sub hu rfl) (State.wrB_frame _ _ _ (sub hu rfl) (State.wrB_frame _ _ _ (sub hu rfl) h2_)))
  try clear_value x3_
  revert x3_
  refine fr_id ?_
  intro x3_ h3_
  exact (fr_ite (State.post_frame _ _ _ _ _ _ (sub hu rfl) h3_)
  h3_)

theorem State.islPulse_frame {F : Place → Bool} {z : State} (s : State) (k : Nat) (c : Nat) (word : Nat) (fault : Bool)
    (hu : Al F [.isl, .regs, .free]) (hz : Fr F z s) :
    Fr F z (State.islPulse s k c word fault) := by
  unfold State.islPulse
  extract_lets +onlyGivenNames x0_
  extract_lets +onlyGivenNames x1_
  extract_lets +onlyGivenNames x2_
  extract_lets +onlyGivenNames x3_
  extract_lets +onlyGivenNames x4_
  have h4_ : Fr F z x4_ := (State.setCh_frame _ _ _ _ (sub hu rfl) hz)
  try clear_value x4_
  revert x4_
  refine fr_id ?_
  intro x4_ h4_
  exact (State.wr_frame _ _ _ (sub hu rfl) h4_)

theorem execDoRetry_frame {F : Place → Bool} {z : State} (k : Fin 8) (c : Fin 8) (limits : Bool) (s : State)
    (hu : Al F [.isl, .regs, .free, .saf, .frc]) (hz : Fr F z s) :
    FrA F z (execDoRetry k c limits s) := by
  unfold execDoRetry
  extract_lets +onlyGivenNames x0_
  extract_lets +onlyGivenNames x1_
  extract_lets +onlyGivenNames x2_
  exact (fr_iteA (fr_iteA (frA_next (State.setCh_frame _ _ _ _ (sub hu rfl) (State.waitTo_frame _ _ (sub hu rfl) hz)))
  (frA_next (State.setCh_frame _ _ _ _ (sub hu rfl) (State.waitTo_frame _ _ (sub hu rfl) hz))))
  (frA_next hz))

theorem State.islTake_frame {F : Place → Bool} {z : State} (s : State) (k : Nat) (f : List Byte)
    (hu : Al F [.isl, .gb, .regs, .free, .gates]) (hz : Fr F z s) :
    Fr F z (State.islTake s k f) := by
  unfold State.islTake
  extract_lets +onlyGivenNames x0_
  extract_lets +onlyGivenNames x1_
  extract_lets +onlyGivenNames x2_
  extract_lets +onlyGivenNames x3_
  extract_lets +onlyGivenNames x4_
  extract_lets +onlyGivenNames x5_
  extract_lets +onlyGivenNames x6_
  extract_lets +onlyGivenNames x7_
  extract_lets +onlyGivenNames x8_
  extract_lets +onlyGivenNames x9_
  extract_lets +onlyGivenNames x10_
  extract_lets +onlyGivenNames x11_
  have h11_ : Fr F z x11_ := (State.setIsland_frame _ _ _ (sub hu rfl) hz)
  try clear_value x11_
  revert x11_
  refine fr_id ?_
  intro x11_ h11_
  exact (fr_ite (State.sagRelease_frame _ _ _ (sub hu rfl) h11_)
  h11_)

theorem execIslandSupplyReturn_frame {F : Place → Bool} {z : State} (k : Fin 8) (supply : Nat) (s : State)
    (hu : Al F [.isl, .gb, .regs, .free, .gates]) (hz : Fr F z s) :
    FrA F z (execIslandSupplyReturn k supply s) := by
  unfold execIslandSupplyReturn
  extract_lets +onlyGivenNames x0_
  exact (fr_iteA (frA_next (State.islMeasure_frame _ _ _ (sub hu rfl) (State.setIsland_frame _ _ _ (sub hu rfl) hz)))
  (frA_next hz))

theorem execDoOverload_frame {F : Place → Bool} {z : State} (k : Fin 8) (c : Fin 8) (mA : Nat) (s : State)
    (hu : Al F [.isl, .gb, .regs, .free, .gates, .saf, .frc]) (hz : Fr F z s) :
    FrA F z (execDoOverload k c mA s) := by
  unfold execDoOverload
  extract_lets +onlyGivenNames x0_
  extract_lets +onlyGivenNames x1_
  exact (fr_iteA (by
    extract_lets +onlyGivenNames x2_
    have h2_ : Fr F z x2_ := (State.waitTo_frame _ _ (sub hu rfl) hz)
    try clear_value x2_
    revert x2_
    refine fr_id ?_
    intro x2_ h2_
    extract_lets +onlyGivenNames x3_
    have h3_ : Fr F z x3_ := (State.bump_frame _ _ (sub hu rfl) (State.setCh_frame _ _ _ _ (sub hu rfl) h2_))
    try clear_value x3_
    revert x3_
    refine fr_id ?_
    intro x3_ h3_
    exact (frA_next (State.post_frame _ _ _ _ _ _ (sub hu rfl) h3_)))
  (frA_next hz))

theorem State.setOut_frame {F : Place → Bool} {z : State} (s : State) (k : Nat) (c : Nat) (value : Nat)
    (hu : Al F [.isl, .regs, .free]) (hz : Fr F z s) :
    Fr F z (State.setOut s k c value) := by
  unfold State.setOut
  extract_lets +onlyGivenNames x0_
  extract_lets +onlyGivenNames x1_
  have h1_ : Fr F z x1_ := (State.setCh_frame _ _ _ _ (sub hu rfl) hz)
  try clear_value x1_
  revert x1_
  refine fr_id ?_
  intro x1_ h1_
  exact (fr_ite (by
    extract_lets +onlyGivenNames x2_
    extract_lets +onlyGivenNames x3_
    exact (State.wrB_frame _ _ _ (sub hu rfl) (State.wrB_frame _ _ _ (sub hu rfl) h1_)))
  h1_)

theorem State.islLock_frame {F : Place → Bool} {z : State} (s : State) (k : Nat)
    (hu : Al F [.isl, .trimPers, .regs, .free]) (hz : Fr F z s) :
    Fr F z (State.islLock s k) := by
  unfold State.islLock
  extract_lets +onlyGivenNames x0_
  have h0_ : Fr F z x0_ := (State.wrB_frame _ _ _ (sub hu rfl) (State.wrB_frame _ _ _ (sub hu rfl) hz))
  try clear_value x0_
  revert x0_
  refine fr_id ?_
  intro x0_ h0_
  exact (fr_foldl (fun _ _ h1_ => (by
    extract_lets +onlyGivenNames x2_
    extract_lets +onlyGivenNames x3_
    have h3_ : Fr F z x3_ := (State.wr_frame _ _ _ (sub hu rfl) (State.wr_frame _ _ _ (sub hu rfl) h1_))
    try clear_value x3_
    revert x3_
    refine fr_id ?_
    intro x3_ h3_
    extract_lets +onlyGivenNames x4_
    extract_lets +onlyGivenNames x5_
    have h5_ : Fr F z x5_ := (State.setCh_frame _ _ _ _ (sub hu rfl) h3_)
    try clear_value x5_
    revert x5_
    refine fr_id ?_
    intro x5_ h5_
    extract_lets +onlyGivenNames x6_
    have h6_ : Fr F z x6_ := (State.wr_frame _ _ _ (sub hu rfl) h5_)
    try clear_value x6_
    revert x6_
    refine fr_id ?_
    intro x6_ h6_
    extract_lets +onlyGivenNames x7_
    have h7_ : Fr F z x7_ := (fr_ite h5_
    (fr_trimPers h6_ (al hu rfl)))
    try clear_value x7_
    revert x7_
    refine fr_id ?_
    intro x7_ h7_
    exact (State.setOut_frame _ _ _ _ (sub hu rfl) h7_)))
  h0_)

theorem execIslandFrameReceive_frame {F : Place → Bool} {z : State} (k : Fin 8) (s : State)
    (hu : Al F [.isl, .gb, .regs, .free, .gates, .frc]) (hz : Fr F z s) :
    FrA F z (execIslandFrameReceive k s) := by
  unfold execIslandFrameReceive
  extract_lets +onlyGivenNames x0_
  exact (fr_iteA (frA_next (State.islTake_frame _ _ _ (sub hu rfl) (fr_frc hz (al hu rfl))))
  (frA_next hz))

theorem execSagOff_frame {F : Place → Bool} {z : State} (k : Fin 8) (supply : Nat) (s : State)
    (hu : Al F [.isl, .gb, .regs, .free, .gates, .saf, .frc]) (hz : Fr F z s) :
    FrA F z (execSagOff k supply s) := by
  unfold execSagOff
  exact (fr_iteA (by
    extract_lets +onlyGivenNames x0_
    have h0_ : Fr F z x0_ := (State.waitTo_frame _ _ (sub hu rfl) hz)
    try clear_value x0_
    revert x0_
    refine fr_id ?_
    intro x0_ h0_
    extract_lets +onlyGivenNames x1_
    have h1_ : Fr F z x1_ := (State.islMeasure_frame _ _ _ (sub hu rfl) h0_)
    try clear_value x1_
    revert x1_
    refine fr_id ?_
    intro x1_ h1_
    extract_lets +onlyGivenNames x2_
    extract_lets +onlyGivenNames x3_
    extract_lets +onlyGivenNames x4_
    extract_lets +onlyGivenNames x5_
    have h5_ : Fr F z x5_ := (State.setIsland_frame _ _ _ (sub hu rfl) h1_)
    try clear_value x5_
    revert x5_
    refine fr_id ?_
    intro x5_ h5_
    exact (frA_next (fr_ite h5_
    (State.post_frame _ _ _ _ _ _ (sub hu rfl) h5_))))
  (frA_next hz))

theorem State.islGood_frame {F : Place → Bool} {z : State} (s : State) (k : Nat) (f : List Byte)
    (hu : Al F [.isl, .gb, .regs, .free, .gates, .saf]) (hz : Fr F z s) :
    Fr F z (State.islGood s k f) := by
  unfold State.islGood
  extract_lets +onlyGivenNames x0_
  extract_lets +onlyGivenNames x1_
  extract_lets +onlyGivenNames x2_
  extract_lets +onlyGivenNames x3_
  have h3_ : Fr F z x3_ := (fr_ite (State.islBadSlots_frame _ _ _ (sub hu rfl) hz)
  hz)
  try clear_value x3_
  revert x3_
  refine fr_id ?_
  intro x3_ h3_
  extract_lets +onlyGivenNames x4_
  extract_lets +onlyGivenNames x5_
  extract_lets +onlyGivenNames x6_
  have h6_ : Fr F z x6_ := (State.setIsland_frame _ _ _ (sub hu rfl) h3_)
  try clear_value x6_
  revert x6_
  refine fr_id ?_
  intro x6_ h6_
  extract_lets +onlyGivenNames x7_
  have h7_ : Fr F z x7_ := (State.islHdr_frame _ _ _ (sub hu rfl) h6_)
  try clear_value x7_
  revert x7_
  refine fr_id ?_
  intro x7_ h7_
  extract_lets +onlyGivenNames x8_
  have h8_ : Fr F z x8_ := (fr_ite (State.islSupplyShow_frame _ _ _ (sub hu rfl) h7_)
  h7_)
  try clear_value x8_
  revert x8_
  refine fr_id ?_
  intro x8_ h8_
  extract_lets +onlyGivenNames x9_
  have h9_ : Fr F z x9_ := (State.islSdi_frame _ _ _ (sub hu rfl) h8_)
  try clear_value x9_
  revert x9_
  refine fr_id ?_
  intro x9_ h9_
  extract_lets +onlyGivenNames x10_
  have h10_ : Fr F z x10_ := (fr_ite (State.post_frame _ _ _ _ _ _ (sub hu rfl) (State.wr_frame _ _ _ (sub hu rfl) h9_))
  h9_)
  try clear_value x10_
  revert x10_
  refine fr_id ?_
  intro x10_ h10_
  extract_lets +onlyGivenNames x11_
  exact (fr_foldl (fun _ _ h12_ => (by
    extract_lets +onlyGivenNames x13_
    extract_lets +onlyGivenNames x14_
    have h14_ : Fr F z x14_ := (fr_ite (State.islPulse_frame _ _ _ _ _ (sub hu rfl) h12_)
    h12_)
    try clear_value x14_
    revert x14_
    refine fr_id ?_
    intro x14_ h14_
    exact (fr_ite h14_
    (State.islShowCh_frame _ _ _ _ _ (sub hu rfl) h14_))))
  h10_)

theorem execBarrierSlot_frame {F : Place → Bool} {z : State} (k : Fin 8) (good : Bool) (skip : Fin 256) (field : IslField) (s : State)
    (hu : Al F [.ban, .isl, .gb, .regs, .free, .gates, .saf, .frc]) (hz : Fr F z s) :
    FrA F z (execBarrierSlot k good skip field s) := by
  unfold execBarrierSlot
  exact (fr_iteA (frA_next hz)
  (by
    extract_lets +onlyGivenNames x0_
    extract_lets +onlyGivenNames x1_
    extract_lets +onlyGivenNames x2_
    have h2_ : Fr F z x2_ := (State.setIsland_frame _ _ _ (sub hu rfl) (fr_frc hz (al hu rfl)))
    try clear_value x2_
    revert x2_
    refine fr_id ?_
    intro x2_ h2_
    extract_lets +onlyGivenNames x3_
    exact (fr_iteA (frA_next (State.islBadSlots_frame _ _ _ (sub hu rfl) h2_))
    (by
      extract_lets +onlyGivenNames x4_
      have h4_ : Fr F z x4_ := (State.islMeasure_frame _ _ _ (sub hu rfl) h2_)
      try clear_value x4_
      revert x4_
      refine fr_id ?_
      intro x4_ h4_
      extract_lets +onlyGivenNames x5_
      extract_lets +onlyGivenNames x6_
      extract_lets +onlyGivenNames x7_
      have h7_ : Fr F z x7_ := (State.outSample_frame _ (sub hu rfl) (State.setIsland_frame _ _ _ (sub hu rfl) h4_))
      try clear_value x7_
      revert x7_
      refine fr_id ?_
      intro x7_ h7_
      exact (fr_iteA (frA_next (State.islDiag_frame _ _ (sub hu rfl) (State.islGood_frame _ _ _ (sub hu rfl) h7_)))
      (frA_next (State.islBadSlots_frame _ _ _ (sub hu rfl) h7_)))))))

theorem execIslRestore_frame {F : Place → Bool} {z : State} (m : Master) (k : Fin 8) (s : State)
    (hu : Al F [.isl, .gb, .regs, .free, .resp, .gates]) (hz : Fr F z s) :
    FrA F z (execIslRestore m k s) := by
  unfold execIslRestore
  exact (frA_next (State.access_frame _ _ _ _ _ _ (sub hu rfl) hz (fun _ h0_ => (State.islCmdWrite_frame _ _ _ (sub hu rfl) h0_))))

theorem execIslClearCounts_frame {F : Place → Bool} {z : State} (m : Master) (k : Fin 8) (s : State)
    (hu : Al F [.isl, .gb, .regs, .free, .resp, .gates]) (hz : Fr F z s) :
    FrA F z (execIslClearCounts m k s) := by
  unfold execIslClearCounts
  exact (frA_next (State.access_frame _ _ _ _ _ _ (sub hu rfl) hz (fun _ h0_ => (State.islCmdWrite_frame _ _ _ (sub hu rfl) h0_))))

end Sys2Proof.Machine
end

