-- ==== Sys2Proof/Laws/FrameAnalogue.lean ====
section
/-!
SUPPORT. What the operations of Machine/Analogue.lean may change (Laws/Frames.lean).
-/
namespace Sys2Proof.Machine

theorem State.aoFlags_frame {F : Place → Bool} {z : State} (s : State) (k : Nat) (c : Nat)
    (hu : Al F [.regs]) (hz : Fr F z s) :
    Fr F z (State.aoFlags s k c) := by
  unfold State.aoFlags
  exact (fr_ite hz
  (by
    extract_lets +onlyGivenNames x0_
    extract_lets +onlyGivenNames x1_
    extract_lets +onlyGivenNames x2_
    exact (State.wr_frame _ _ _ (sub hu rfl) (State.wr_frame _ _ _ (sub hu rfl) hz))))

theorem execAoReadbackClear_frame {F : Place → Bool} {z : State} (k : Fin 8) (c : Fin 8) (s : State)
    (hu : Al F [.regs, .saf, .frc]) (hz : Fr F z s) :
    FrA F z (execAoReadbackClear k c s) := by
  unfold execAoReadbackClear
  extract_lets +onlyGivenNames x0_
  exact (by
    split
    · exact (frA_next hz)
    · exact (fr_iteA (frA_next (State.aoFlags_frame _ _ _ (sub hu rfl) (State.wr_frame _ _ _ (sub hu rfl) (State.waitTo_frame _ _ (sub hu rfl) hz))))
      (frA_next hz)))

theorem execComplianceSet_frame {F : Place → Bool} {z : State} (k : Fin 8) (c : Fin 8) (s : State)
    (hu : Al F [.isl, .gb, .regs, .free, .gates, .saf, .frc]) (hz : Fr F z s) :
    FrA F z (execComplianceSet k c s) := by
  unfold execComplianceSet
  extract_lets +onlyGivenNames x0_
  extract_lets +onlyGivenNames x1_
  extract_lets +onlyGivenNames x2_
  exact (by
    split
    · exact (frA_next hz)
    · exact (fr_iteA (frA_next hz)
      (by
        extract_lets +onlyGivenNames x3_
        have h3_ : Fr F z x3_ := (State.waitTo_frame _ _ (sub hu rfl) hz)
        try clear_value x3_
        revert x3_
        refine fr_id ?_
        intro x3_ h3_
        extract_lets +onlyGivenNames x4_
        have h4_ : Fr F z x4_ := (State.wr_frame _ _ _ (sub hu rfl) (State.setCh_frame _ _ _ _ (sub hu rfl) h3_))
        try clear_value x4_
        revert x4_
        refine fr_id ?_
        intro x4_ h4_
        exact (frA_next (State.post_frame _ _ _ _ _ _ (sub hu rfl) (State.aoFlags_frame _ _ _ (sub hu rfl) h4_))))))

theorem execLoopSideStop_frame {F : Place → Bool} {z : State} (k : Fin 8) (c : Fin 8) (vterm : Nat) (opened : Bool) (s : State)
    (hu : Al F [.isl, .gb, .regs, .free, .gates]) (hz : Fr F z s) :
    FrA F z (execLoopSideStop k c vterm opened s) := by
  unfold execLoopSideStop
  extract_lets +onlyGivenNames x0_
  extract_lets +onlyGivenNames x1_
  extract_lets +onlyGivenNames x2_
  exact (fr_iteA (fr_iteA (frA_next (State.post_frame _ _ _ _ _ _ (sub hu rfl) (State.setCh_frame _ _ _ _ (sub hu rfl) hz)))
  (frA_next (State.setCh_frame _ _ _ _ (sub hu rfl) hz)))
  (frA_next hz))

theorem execComplianceClear_frame {F : Place → Bool} {z : State} (k : Fin 8) (c : Fin 8) (s : State)
    (hu : Al F [.gb, .regs, .gates, .saf, .frc]) (hz : Fr F z s) :
    FrA F z (execComplianceClear k c s) := by
  unfold execComplianceClear
  extract_lets +onlyGivenNames x0_
  extract_lets +onlyGivenNames x1_
  exact (by
    split
    · exact (frA_next hz)
    · exact (fr_iteA (frA_next hz)
      (by
        extract_lets +onlyGivenNames x2_
        have h2_ : Fr F z x2_ := (State.waitTo_frame _ _ (sub hu rfl) hz)
        try clear_value x2_
        revert x2_
        refine fr_id ?_
        intro x2_ h2_
        extract_lets +onlyGivenNames x3_
        have h3_ : Fr F z x3_ := (State.wr_frame _ _ _ (sub hu rfl) (State.wr_frame _ _ _ (sub hu rfl) h2_))
        try clear_value x3_
        revert x3_
        refine fr_id ?_
        intro x3_ h3_
        exact (frA_next (State.post_frame _ _ _ _ _ _ (sub hu rfl) (State.aoFlags_frame _ _ _ (sub hu rfl) h3_))))))

theorem execCompFault_frame {F : Place → Bool} {z : State} (k : Fin 8) (c : Fin 8) (s : State)
    (hu : Al F [.gb, .regs, .gates, .saf, .frc]) (hz : Fr F z s) :
    FrA F z (execCompFault k c s) := by
  unfold execCompFault
  extract_lets +onlyGivenNames x0_
  exact (fr_iteA (by
    extract_lets +onlyGivenNames x1_
    have h1_ : Fr F z x1_ := (State.waitTo_frame _ _ (sub hu rfl) hz)
    try clear_value x1_
    revert x1_
    refine fr_id ?_
    intro x1_ h1_
    extract_lets +onlyGivenNames x2_
    have h2_ : Fr F z x2_ := (State.wr_frame _ _ _ (sub hu rfl) h1_)
    try clear_value x2_
    revert x2_
    refine fr_id ?_
    intro x2_ h2_
    exact (frA_next (State.post_frame _ _ _ _ _ _ (sub hu rfl) (State.aoFlags_frame _ _ _ (sub hu rfl) h2_))))
  (frA_next hz))

theorem execThermalResume_frame {F : Place → Bool} {z : State} (k : Fin 8) (c : Fin 8) (temp : Int) (s : State)
    (hu : Al F [.isl, .gb, .regs, .free, .gates, .saf, .frc]) (hz : Fr F z s) :
    FrA F z (execThermalResume k c temp s) := by
  unfold execThermalResume
  extract_lets +onlyGivenNames x0_
  extract_lets +onlyGivenNames x1_
  exact (fr_iteA (by
    extract_lets +onlyGivenNames x2_
    have h2_ : Fr F z x2_ := (State.waitTo_frame _ _ (sub hu rfl) hz)
    try clear_value x2_
    revert x2_
    refine fr_id ?_
    intro x2_ h2_
    exact (frA_next (State.post_frame _ _ _ _ _ _ (sub hu rfl) (State.setCh_frame _ _ _ _ (sub hu rfl) h2_))))
  (frA_next hz))

theorem execBuckUpdate_frame {F : Place → Bool} {z : State} (k : Fin 8) (c : Fin 8) (s : State)
    (hu : Al F [.isl, .gb, .regs, .free, .gates, .saf, .frc]) (hz : Fr F z s) :
    FrA F z (execBuckUpdate k c s) := by
  unfold execBuckUpdate
  extract_lets +onlyGivenNames x0_
  extract_lets +onlyGivenNames x1_
  exact (fr_iteA (by
    extract_lets +onlyGivenNames x2_
    have h2_ : Fr F z x2_ := (fr_ite (State.waitTo_frame _ _ (sub hu rfl) hz)
    hz)
    try clear_value x2_
    revert x2_
    refine fr_id ?_
    intro x2_ h2_
    extract_lets +onlyGivenNames x3_
    extract_lets +onlyGivenNames x4_
    extract_lets +onlyGivenNames x5_
    extract_lets +onlyGivenNames x6_
    extract_lets +onlyGivenNames x7_
    extract_lets +onlyGivenNames x8_
    have h8_ : Fr F z x8_ := (State.setIsland_frame _ _ _ (sub hu rfl) h2_)
    try clear_value x8_
    revert x8_
    refine fr_id ?_
    intro x8_ h8_
    exact (frA_next (fr_ite (State.post_frame _ _ _ _ _ _ (sub hu rfl) h8_)
    h8_)))
  (frA_next hz))

theorem execTxOverload_frame {F : Place → Bool} {z : State} (k : Fin 8) (c : Fin 8) (mA : Nat) (s : State)
    (hu : Al F [.isl, .gb, .regs, .free, .gates, .saf, .frc]) (hz : Fr F z s) :
    FrA F z (execTxOverload k c mA s) := by
  unfold execTxOverload
  extract_lets +onlyGivenNames x0_
  exact (fr_iteA (by
    extract_lets +onlyGivenNames x1_
    have h1_ : Fr F z x1_ := (State.waitTo_frame _ _ (sub hu rfl) hz)
    try clear_value x1_
    revert x1_
    refine fr_id ?_
    intro x1_ h1_
    exact (frA_next (State.post_frame _ _ _ _ _ _ (sub hu rfl) (State.setCh_frame _ _ _ _ (sub hu rfl) h1_))))
  (frA_next hz))

theorem execThermalTrip_frame {F : Place → Bool} {z : State} (k : Fin 8) (c : Fin 8) (temp : Int) (s : State)
    (hu : Al F [.isl, .gb, .regs, .free, .gates]) (hz : Fr F z s) :
    FrA F z (execThermalTrip k c temp s) := by
  unfold execThermalTrip
  extract_lets +onlyGivenNames x0_
  extract_lets +onlyGivenNames x1_
  exact (fr_iteA (frA_next (State.post_frame _ _ _ _ _ _ (sub hu rfl) (State.setCh_frame _ _ _ _ (sub hu rfl) hz)))
  (frA_next hz))

theorem execTxOverloadClear_frame {F : Place → Bool} {z : State} (k : Fin 8) (c : Fin 8) (s : State)
    (hu : Al F [.isl, .regs, .free, .saf, .frc]) (hz : Fr F z s) :
    FrA F z (execTxOverloadClear k c s) := by
  unfold execTxOverloadClear
  extract_lets +onlyGivenNames x0_
  exact (fr_iteA (by
    extract_lets +onlyGivenNames x1_
    have h1_ : Fr F z x1_ := (State.waitTo_frame _ _ (sub hu rfl) hz)
    try clear_value x1_
    revert x1_
    refine fr_id ?_
    intro x1_ h1_
    exact (frA_next (State.setCh_frame _ _ _ _ (sub hu rfl) h1_)))
  (frA_next hz))

theorem State.aiClassify_frame {F : Place → Bool} {z : State} (s : State) (k : Nat) (c : Nat)
    (hu : Al F [.isl, .gb, .regs, .free, .gates]) (hz : Fr F z s) :
    Fr F z (State.aiClassify s k c) := by
  unfold State.aiClassify
  extract_lets +onlyGivenNames x0_
  extract_lets +onlyGivenNames x1_
  extract_lets +onlyGivenNames x2_
  extract_lets +onlyGivenNames x3_
  exact (by
    split
    · exact (State.setCh_frame _ _ _ _ (sub hu rfl) hz)
    · extract_lets +onlyGivenNames x4_
      exact (fr_ite (State.setCh_frame _ _ _ _ (sub hu rfl) hz)
      (by
        extract_lets +onlyGivenNames x5_
        extract_lets +onlyGivenNames x6_
        extract_lets +onlyGivenNames x7_
        have h7_ : Fr F z x7_ := (State.setCh_frame _ _ _ _ (sub hu rfl) hz)
        try clear_value x7_
        revert x7_
        refine fr_id ?_
        intro x7_ h7_
        extract_lets +onlyGivenNames x8_
        have h8_ : Fr F z x8_ := (fr_ite (State.post_frame _ _ _ _ _ _ (sub hu rfl) h7_)
        h7_)
        try clear_value x8_
        revert x8_
        refine fr_id ?_
        intro x8_ h8_
        exact (fr_ite (State.post_frame _ _ _ _ _ _ (sub hu rfl) h8_)
        h8_))))

theorem State.trimWrite_frame {F : Place → Bool} {z : State} (s : State) (m : Master) (k : Nat) (c : Nat) (value : Nat)
    (hu : Al F [.gb, .regs, .resp, .gates]) (hz : Fr F z s) :
    Fr F z (State.trimWrite s m k c value) := by
  unfold State.trimWrite
  exact (fr_ite hz
  (fr_ite (State.refuseWrite_frame _ _ _ (sub hu rfl) hz)
  (State.post_frame _ _ _ _ _ _ (sub hu rfl) (State.wr_frame _ _ _ (sub hu rfl) hz))))

theorem execTrimWrite_frame {F : Place → Bool} {z : State} (m : Master) (k : Fin 8) (c : Fin 8) (value : Word) (s : State)
    (hu : Al F [.gb, .regs, .resp, .gates]) (hz : Fr F z s) :
    FrA F z (execTrimWrite m k c value s) := by
  unfold execTrimWrite
  exact (frA_next (State.access_frame _ _ _ _ _ _ (sub hu rfl) hz (fun _ h0_ => (State.trimWrite_frame _ _ _ _ _ (sub hu rfl) h0_))))

theorem execAiSample_frame {F : Place → Bool} {z : State} (k : Fin 8) (c : Fin 8) (raw : Nat) (s : State)
    (hu : Al F [.isl, .gb, .regs, .free, .gates, .saf, .frc]) (hz : Fr F z s) :
    FrA F z (execAiSample k c raw s) := by
  unfold execAiSample
  extract_lets +onlyGivenNames x0_
  exact (fr_iteA (by
    extract_lets +onlyGivenNames x1_
    have h1_ : Fr F z x1_ := (State.waitTo_frame _ _ (sub hu rfl) hz)
    try clear_value x1_
    revert x1_
    refine fr_id ?_
    intro x1_ h1_
    extract_lets +onlyGivenNames x2_
    extract_lets +onlyGivenNames x3_
    extract_lets +onlyGivenNames x4_
    extract_lets +onlyGivenNames x5_
    extract_lets +onlyGivenNames x6_
    have h6_ : Fr F z x6_ := (State.setCh_frame _ _ _ _ (sub hu rfl) h1_)
    try clear_value x6_
    revert x6_
    refine fr_id ?_
    intro x6_ h6_
    extract_lets +onlyGivenNames x7_
    have h7_ : Fr F z x7_ := (fr_ite h6_
    (State.useFree_frame _ (sub hu rfl) h6_))
    try clear_value x7_
    revert x7_
    refine fr_id ?_
    intro x7_ h7_
    exact (frA_next (State.aiClassify_frame _ _ _ (sub hu rfl) h7_)))
  (frA_next hz))

end Sys2Proof.Machine
end

