-- ==== Sys2Proof/Laws/FrameClassTime.lean ====
section
/-!
SUPPORT. What the operations of Machine/ClassTime.lean may change (Laws/Frames.lean).
-/
namespace Sys2Proof.Machine

theorem State.anchor_frame {F : Place → Bool} {z : State} (s : State) (cause : Nat)
    (hu : Al F [.gb]) (hz : Fr F z s) :
    Fr F z (State.anchor s cause) := by
  unfold State.anchor
  exact (fr_gb hz (al hu rfl))

theorem waitRounds_frame {F : Place → Bool} {z : State} (time : State → Int) (goal : Int) (n : Nat) (s : State)
    (hu : Al F [.frc]) (hz : Fr F z s) :
    Fr F z (waitRounds time goal n s) := by
  induction n generalizing s with
  | zero => exact hz
  | succ n ih => exact fr_ite hz (ih _ (fr_frc hz (al hu rfl)))

theorem State.waitClass_frame {F : Place → Bool} {z : State} (s : State) (time : State → Int) (goal : Int)
    (hu : Al F [.frc]) (hz : Fr F z s) :
    Fr F z (State.waitClass s time goal) := by
  unfold State.waitClass
  exact (waitRounds_frame _ _ _ _ (sub hu rfl) hz)

theorem State.setDom_frame {F : Place → Bool} {z : State} (s : State) (d : Nat) (x : TimDom)
    (hu : Al F [.tim]) (hz : Fr F z s) :
    Fr F z (State.setDom s d x) := by
  unfold State.setDom
  exact (fr_ite (fr_tim hz (al hu rfl))
  (fr_tim hz (al hu rfl)))

end Sys2Proof.Machine
end

