-- ==== Sys2Proof/Laws/FrameBanLink.lean ====
section
/-!
SUPPORT. What the operations of Machine/BanLink.lean may change (Laws/Frames.lean).
-/
namespace Sys2Proof.Machine

theorem State.rxHold_frame {F : Place → Bool} {z : State} (s : State) (q : Nat) (e : List Byte)
    (hu : Al F [.ban]) (hz : Fr F z s) :
    Fr F z (State.rxHold s q e) := by
  unfold State.rxHold
  exact (fr_ban hz (al hu rfl))

theorem State.hsDone_frame {F : Place → Bool} {z : State} (s : State) (f : Nat × Nat × Nat → Bool)
    (hu : Al F [.ban]) (hz : Fr F z s) :
    Fr F z (State.hsDone s f) := by
  unfold State.hsDone
  exact (fr_ban hz (al hu rfl))

theorem State.banFrame_frame {F : Place → Bool} {z : State} (s : State) (type : Nat) (last : Bool) (payload : List Byte)
    (hu : Al F [.ban]) (hz : Fr F z s) :
    Fr F z (State.banFrame s type last payload) := by
  unfold State.banFrame
  exact (fr_ite (fr_ban hz (al hu rfl))
  hz)

theorem State.banFrames_frame {F : Place → Bool} {z : State} (s : State) (type n : Nat) (b : List Byte) 
    (hu : Al F [.ban]) (hz : Fr F z s) :
    Fr F z (State.banFrames s type n b) := by
  induction n generalizing s b with
  | zero => exact State.banFrame_frame _ _ _ _ (sub hu rfl) hz
  | succ n ih => exact fr_ite (State.banFrame_frame _ _ _ _ (sub hu rfl) hz) (ih _ _ (State.banFrame_frame _ _ _ _ (sub hu rfl) hz))

theorem State.banSend_frame {F : Place → Bool} {z : State} (s : State) (type : Nat) (payload : List Byte)
    (hu : Al F [.ban]) (hz : Fr F z s) :
    Fr F z (State.banSend s type payload) := by
  unfold State.banSend
  exact (State.banFrames_frame _ _ _ _ (sub hu rfl) hz)

theorem State.banAsk_frame {F : Place → Bool} {z : State} (s : State) (type : Nat) (payload : List Byte)
    (hu : Al F [.ban]) (hz : Fr F z s) :
    Fr F z (State.banAsk s type payload) := by
  unfold State.banAsk
  extract_lets +onlyGivenNames x0_
  have h0_ : Fr F z x0_ := (State.banSend_frame _ _ _ (sub hu rfl) hz)
  try clear_value x0_
  revert x0_
  refine fr_id ?_
  intro x0_ h0_
  exact (fr_ite (fr_ban h0_ (al hu rfl))
  h0_)

theorem State.mirror_frame {F : Place → Bool} {z : State} (s : State) (m : Master) (a : Nat) (v : Nat)
    (hu : Al F [.ban]) (hz : Fr F z s) :
    Fr F z (State.mirror s m a v) := by
  unfold State.mirror
  exact (fr_ite (State.banSend_frame _ _ _ (sub hu rfl) hz)
  hz)

theorem State.rxMirror_frame {F : Place → Bool} {z : State} (s : State) (kind : Nat) (idx : Nat) (pos : Nat) (bytes : List Byte)
    (hu : Al F [.ban]) (hz : Fr F z s) :
    Fr F z (State.rxMirror s kind idx pos bytes) := by
  unfold State.rxMirror
  extract_lets +onlyGivenNames x0_
  exact (fr_ite (by
    extract_lets +onlyGivenNames x1_
    have h1_ : Fr F z x1_ := (State.banAsk_frame _ _ _ (sub hu rfl) hz)
    try clear_value x1_
    revert x1_
    refine fr_id ?_
    intro x1_ h1_
    exact (fr_ban h1_ (al hu rfl)))
  (fr_ite (State.banSend_frame _ _ _ (sub hu rfl) hz)
  hz))

theorem State.shutdownSend_frame {F : Place → Bool} {z : State} (s : State)
    (hu : Al F [.ban, .free]) (hz : Fr F z s) :
    Fr F z (State.shutdownSend s) := by
  unfold State.shutdownSend
  extract_lets +onlyGivenNames x0_
  extract_lets +onlyGivenNames x1_
  exact (State.banSend_frame _ _ _ (sub hu rfl) (State.useFree_frame _ (sub hu rfl) hz))

theorem State.logEntry_frame {F : Place → Bool} {z : State} (s : State) (bytes : List Byte)
    (hu : Al F [.ban]) (hz : Fr F z s) :
    Fr F z (State.logEntry s bytes) := by
  unfold State.logEntry
  exact (fr_ite (State.banSend_frame _ _ _ (sub hu rfl) hz)
  hz)

theorem State.logPost_frame {F : Place → Bool} {z : State} (s : State) (m : Master) (bytes : List Byte)
    (hu : Al F [.ban]) (hz : Fr F z s) :
    Fr F z (State.logPost s m bytes) := by
  unfold State.logPost
  exact (by
    split
    · exact (fr_ite (State.logEntry_frame _ _ (sub hu rfl) hz)
      hz)
    · exact hz)

end Sys2Proof.Machine
end

