-- ==== Sys2Proof/Laws/FramePgn.lean ====
section
/-!
SUPPORT. What the operations of Machine/Pgn.lean may change (Laws/Frames.lean).
-/
namespace Sys2Proof.Machine

theorem State.setChan_frame {F : Place → Bool} {z : State} (s : State) (ch : Nat) (c : PgnChan)
    (hu : Al F [.pgn, .regs]) (hz : Fr F z s) :
    Fr F z (State.setChan s ch c) := by
  unfold State.setChan
  exact (State.wr_frame _ _ _ (sub hu rfl) (fr_pgn hz (al hu rfl)))

theorem State.pgnEndTimeout_frame {F : Place → Bool} {z : State} (s : State) (ch : Nat) (why : Nat)
    (hu : Al F [.gb, .regs, .gates]) (hz : Fr F z s) :
    Fr F z (State.pgnEndTimeout s ch why) := by
  unfold State.pgnEndTimeout
  exact (fr_ite (State.post_frame _ _ _ _ _ _ (sub hu rfl) (State.wr_frame _ _ _ (sub hu rfl) hz))
  hz)

theorem State.queMirror_frame {F : Place → Bool} {z : State} (s : State) (q : Nat) (from_ : Nat) (to_ : Nat)
    (hu : Al F [.ban]) (hz : Fr F z s) :
    Fr F z (State.queMirror s q from_ to_) := by
  unfold State.queMirror
  exact (fr_foldl (fun _ _ h0_ => (State.rxMirror_frame _ _ _ _ _ (sub hu rfl) h0_))
  hz)

theorem State.queFollow_frame {F : Place → Bool} {z : State} (s : State) (q : Nat)
    (hu : Al F [.regs, .gates]) (hz : Fr F z s) :
    Fr F z (State.queFollow s q) := by
  unfold State.queFollow
  exact (fr_ite (State.ring_frame _ _ (sub hu rfl) (State.wr_frame _ _ _ (sub hu rfl) hz))
  (State.wr_frame _ _ _ (sub hu rfl) hz))

theorem State.pgnWithdraw_frame {F : Place → Bool} {z : State} (s : State) (ch : Nat)
    (hu : Al F [.gb, .pgn, .regs, .gates]) (hz : Fr F z s) :
    Fr F z (State.pgnWithdraw s ch) := by
  unfold State.pgnWithdraw
  extract_lets +onlyGivenNames x0_
  extract_lets +onlyGivenNames x1_
  extract_lets +onlyGivenNames x2_
  have h2_ : Fr F z x2_ := (State.setChan_frame _ _ _ (sub hu rfl) hz)
  try clear_value x2_
  revert x2_
  refine fr_id ?_
  intro x2_ h2_
  extract_lets +onlyGivenNames x3_
  have h3_ : Fr F z x3_ := (State.wr_frame _ _ _ (sub hu rfl) h2_)
  try clear_value x3_
  revert x3_
  refine fr_id ?_
  intro x3_ h3_
  extract_lets +onlyGivenNames x4_
  have h4_ : Fr F z x4_ := (State.post_frame _ _ _ _ _ _ (sub hu rfl) h3_)
  try clear_value x4_
  revert x4_
  refine fr_id ?_
  intro x4_ h4_
  exact (fr_ite (State.pgnEndTimeout_frame _ _ _ (sub hu rfl) h4_)
  h4_)

theorem State.pgnTimeout_frame {F : Place → Bool} {z : State} (s : State) (ch : Nat)
    (hu : Al F [.gb, .pgn, .regs, .gates]) (hz : Fr F z s) :
    Fr F z (State.pgnTimeout s ch) := by
  unfold State.pgnTimeout
  exact (fr_ite hz
  (by
    extract_lets +onlyGivenNames x0_
    extract_lets +onlyGivenNames x1_
    have h1_ : Fr F z x1_ := (fr_pgn hz (al hu rfl))
    try clear_value x1_
    revert x1_
    refine fr_id ?_
    intro x1_ h1_
    extract_lets +onlyGivenNames x2_
    have h2_ : Fr F z x2_ := (State.ring_frame _ _ (sub hu rfl) (State.wr_frame _ _ _ (sub hu rfl) h1_))
    try clear_value x2_
    revert x2_
    refine fr_id ?_
    intro x2_ h2_
    exact (State.post_frame _ _ _ _ _ _ (sub hu rfl) h2_)))

theorem State.pgnStore_frame {F : Place → Bool} {z : State} (s : State) (ch : Nat) (len : Nat) (kind : Nat) (param : Nat) (payload : List Byte)
    (hu : Al F [.ban, .pgn, .regs, .gates]) (hz : Fr F z s) :
    Fr F z (State.pgnStore s ch len kind param payload) := by
  unfold State.pgnStore
  extract_lets +onlyGivenNames x0_
  extract_lets +onlyGivenNames x1_
  extract_lets +onlyGivenNames x2_
  extract_lets +onlyGivenNames x3_
  extract_lets +onlyGivenNames x4_
  have h4_ : Fr F z x4_ := (State.setChan_frame _ _ _ (sub hu rfl) hz)
  try clear_value x4_
  revert x4_
  refine fr_id ?_
  intro x4_ h4_
  extract_lets +onlyGivenNames x5_
  have h5_ : Fr F z x5_ := (State.wr_frame _ _ _ (sub hu rfl) h4_)
  try clear_value x5_
  revert x5_
  refine fr_id ?_
  intro x5_ h5_
  exact (fr_ite (State.ring_frame _ _ (sub hu rfl) h5_)
  (State.rxMirror_frame _ _ _ _ _ (sub hu rfl) h5_))

theorem State.queReleaseTo_frame {F : Place → Bool} {z : State} (s : State) (q : Nat) (idx : Nat)
    (hu : Al F [.regs, .gates]) (hz : Fr F z s) :
    Fr F z (State.queReleaseTo s q idx) := by
  unfold State.queReleaseTo
  exact (fr_ite (State.ring_frame _ _ (sub hu rfl) (State.wr_frame _ _ _ (sub hu rfl) hz))
  hz)

theorem State.pgnDenied_frame {F : Place → Bool} {z : State} (s : State) (m : Master) (write : Bool) (ch : Nat) (a : Nat)
    (hu : Al F [.gb, .regs, .resp, .gates]) (hz : Fr F z s) :
    Fr F z (State.pgnDenied s m write ch a) := by
  unfold State.pgnDenied
  exact (State.post_frame _ _ _ _ _ _ (sub hu rfl) (State.busFail_frame _ _ _ _ _ _ (sub hu rfl) hz))

theorem State.pgnCmdWrite_frame {F : Place → Bool} {z : State} (s : State) (m : Master) (ch : Nat) (value : Nat)
    (hu : Al F [.gb, .pgn, .regs, .resp, .gates]) (hz : Fr F z s) :
    Fr F z (State.pgnCmdWrite s m ch value) := by
  unfold State.pgnCmdWrite
  exact (fr_ite (fr_ite (State.pgnWithdraw_frame _ _ (sub hu rfl) hz)
  hz)
  (State.pgnDenied_frame _ _ _ _ _ (sub hu rfl) hz))

theorem State.pgnReleaseTo_frame {F : Place → Bool} {z : State} (s : State) (ch : Nat) (pos : Nat)
    (hu : Al F [.pgn, .regs, .gates]) (hz : Fr F z s) :
    Fr F z (State.pgnReleaseTo s ch pos) := by
  unfold State.pgnReleaseTo
  extract_lets +onlyGivenNames x0_
  extract_lets +onlyGivenNames x1_
  exact (fr_ite (by
    extract_lets +onlyGivenNames x2_
    exact (State.ring_frame _ _ (sub hu rfl) (State.setChan_frame _ _ _ (sub hu rfl) hz)))
  hz)

theorem State.pgnAck_frame {F : Place → Bool} {z : State} (s : State) (ch : Nat) (value : Nat)
    (hu : Al F [.gb, .pgn, .regs, .gates]) (hz : Fr F z s) :
    Fr F z (State.pgnAck s ch value) := by
  unfold State.pgnAck
  exact (fr_ite (by
    split
    · extract_lets +onlyGivenNames x0_
      extract_lets +onlyGivenNames x1_
      have h1_ : Fr F z x1_ := (State.setChan_frame _ _ _ (sub hu rfl) hz)
      try clear_value x1_
      revert x1_
      refine fr_id ?_
      intro x1_ h1_
      exact (State.pgnEndTimeout_frame _ _ _ (sub hu rfl) h1_)
    · exact hz)
  hz)

theorem execPgnTimeout_frame {F : Place → Bool} {z : State} (ch : Fin 32) (s : State)
    (hu : Al F [.ban, .gb, .pgn, .regs, .gates, .frc]) (hz : Fr F z s) :
    FrA F z (execPgnTimeout ch s) := by
  unfold execPgnTimeout
  exact (by
    split
    · exact (fr_iteA (frA_next hz)
      (fr_iteA (frA_next hz)
      (fr_iteA (by
        extract_lets +onlyGivenNames x0_
        have h0_ : Fr F z x0_ := (fr_frc hz (al hu rfl))
        try clear_value x0_
        revert x0_
        refine fr_id ?_
        intro x0_ h0_
        extract_lets +onlyGivenNames x1_
        have h1_ : Fr F z x1_ := (State.mirror_frame _ _ _ _ (sub hu rfl) h0_)
        try clear_value x1_
        revert x1_
        refine fr_id ?_
        intro x1_ h1_
        exact (frA_next (fr_ban h1_ (al hu rfl))))
      (frA_next (State.pgnTimeout_frame _ _ (sub hu rfl) (fr_frc hz (al hu rfl)))))))
    · exact (frA_next hz))

theorem State.queRelease_frame {F : Place → Bool} {z : State} (s : State) (q : Nat)
    (hu : Al F [.regs, .gates]) (hz : Fr F z s) :
    Fr F z (State.queRelease s q) := by
  unfold State.queRelease
  exact (State.queReleaseTo_frame _ _ _ (sub hu rfl) hz)

theorem State.queReleaseAll_frame {F : Place → Bool} {z : State} (s : State)
    (hu : Al F [.regs, .gates]) (hz : Fr F z s) :
    Fr F z (State.queReleaseAll s) := by
  unfold State.queReleaseAll
  exact (fr_foldl (fun _ _ h0_ => (State.queRelease_frame _ _ (sub hu rfl) h0_))
  hz)

theorem State.queDiSet_frame {F : Place → Bool} {z : State} (s : State) (q : Nat) (v : Nat)
    (hu : Al F [.ban, .regs, .gates]) (hz : Fr F z s) :
    Fr F z (State.queDiSet s q v) := by
  unfold State.queDiSet
  extract_lets +onlyGivenNames x0_
  extract_lets +onlyGivenNames x1_
  have h1_ : Fr F z x1_ := (State.wr_frame _ _ _ (sub hu rfl) hz)
  try clear_value x1_
  revert x1_
  refine fr_id ?_
  intro x1_ h1_
  exact (fr_ite (State.queMirror_frame _ _ _ _ (sub hu rfl) h1_)
  (State.queFollow_frame _ _ (sub hu rfl) h1_))

theorem State.pgnRelease_frame {F : Place → Bool} {z : State} (s : State) (ch : Nat)
    (hu : Al F [.pgn, .regs, .gates]) (hz : Fr F z s) :
    Fr F z (State.pgnRelease s ch) := by
  unfold State.pgnRelease
  exact (State.pgnReleaseTo_frame _ _ _ (sub hu rfl) hz)

theorem State.quePiSet_frame {F : Place → Bool} {z : State} (s : State) (q : Nat) (v : Nat)
    (hu : Al F [.ban, .posted, .regs, .gates, .heads]) (hz : Fr F z s) :
    Fr F z (State.quePiSet s q v) := by
  unfold State.quePiSet
  extract_lets +onlyGivenNames x0_
  extract_lets +onlyGivenNames x1_
  extract_lets +onlyGivenNames x2_
  have h2_ : Fr F z x2_ := (fr_ite (fr_posted hz (al hu rfl))
  hz)
  try clear_value x2_
  revert x2_
  refine fr_id ?_
  intro x2_ h2_
  extract_lets +onlyGivenNames x3_
  have h3_ : Fr F z x3_ := (fr_ite (fr_heads h2_ (al hu rfl))
  h2_)
  try clear_value x3_
  revert x3_
  refine fr_id ?_
  intro x3_ h3_
  extract_lets +onlyGivenNames x4_
  have h4_ : Fr F z x4_ := (State.wr_frame _ _ _ (sub hu rfl) (State.wr_frame _ _ _ (sub hu rfl) h3_))
  try clear_value x4_
  revert x4_
  refine fr_id ?_
  intro x4_ h4_
  exact (fr_ite (State.ring_frame _ _ (sub hu rfl) (State.queMirror_frame _ _ _ _ (sub hu rfl) h4_))
  (fr_ite (State.ring_frame _ _ (sub hu rfl) h4_)
  (State.ring_frame _ _ (sub hu rfl) (State.queFollow_frame _ _ (sub hu rfl) h4_))))

theorem State.pgnTimeoutsAct_frame {F : Place → Bool} {z : State} (s : State)
    (hu : Al F [.ban, .gb, .pgn, .regs, .gates]) (hz : Fr F z s) :
    Fr F z (State.pgnTimeoutsAct s) := by
  unfold State.pgnTimeoutsAct
  extract_lets +onlyGivenNames x0_
  exact (fr_foldl (fun _ _ h1_ => (fr_ite (State.pgnTimeout_frame _ _ (sub hu rfl) h1_)
  h1_))
  (fr_ban hz (al hu rfl)))

theorem State.poolWrite_frame {F : Place → Bool} {z : State} (s : State) (m : Master) (a : Nat) (bs : List Byte)
    (hu : Al F [.gb, .regs, .resp, .mem, .gates]) (hz : Fr F z s) :
    Fr F z (State.poolWrite s m a bs) := by
  unfold State.poolWrite
  exact (by
    split
    · exact (State.post_frame _ _ _ _ _ _ (sub hu rfl) (State.busFail_frame _ _ _ _ _ _ (sub hu rfl) hz))
    · extract_lets +onlyGivenNames x0_
      extract_lets +onlyGivenNames x1_
      exact (fr_ite (State.setBytes_frame _ _ _ (sub hu rfl) (State.answer_frame _ _ (sub hu rfl) hz))
      (State.post_frame _ _ _ _ _ _ (sub hu rfl) (State.busFail_frame _ _ _ _ _ _ (sub hu rfl) hz))))

theorem State.pgnHdrRead_frame {F : Place → Bool} {z : State} (s : State) (m : Master) (ch : Nat)
    (hu : Al F [.gb, .pgn, .regs, .resp, .gates]) (hz : Fr F z s) :
    Fr F z (State.pgnHdrRead s m ch) := by
  unfold State.pgnHdrRead
  exact (fr_ite (State.answer_frame _ _ (sub hu rfl) hz)
  (fr_ite (by
    split
    · exact (fr_ite (by
        extract_lets +onlyGivenNames x0_
        have h0_ : Fr F z x0_ := (State.answer_frame _ _ (sub hu rfl) hz)
        try clear_value x0_
        revert x0_
        refine fr_id ?_
        intro x0_ h0_
        exact (fr_ite h0_
        (State.setChan_frame _ _ _ (sub hu rfl) h0_)))
      (State.answer_frame _ _ (sub hu rfl) hz))
    · exact (State.answer_frame _ _ (sub hu rfl) hz))
  (State.pgnDenied_frame _ _ _ _ _ (sub hu rfl) hz)))

theorem State.queStatWrite_frame {F : Place → Bool} {z : State} (s : State) (m : Master) (q : Nat) (value : Nat)
    (hu : Al F [.gb, .regs, .resp, .gates]) (hz : Fr F z s) :
    Fr F z (State.queStatWrite s m q value) := by
  unfold State.queStatWrite
  exact (fr_ite (State.refuseWrite_frame _ _ _ (sub hu rfl) hz)
  (by
    extract_lets +onlyGivenNames x0_
    have h0_ : Fr F z x0_ := (fr_ite (State.wr_frame _ _ _ (sub hu rfl) hz)
    hz)
    try clear_value x0_
    revert x0_
    refine fr_id ?_
    intro x0_ h0_
    exact (fr_ite (State.wr_frame _ _ _ (sub hu rfl) h0_)
    h0_)))

theorem State.pgnReleaseAll_frame {F : Place → Bool} {z : State} (s : State)
    (hu : Al F [.pgn, .regs, .gates]) (hz : Fr F z s) :
    Fr F z (State.pgnReleaseAll s) := by
  unfold State.pgnReleaseAll
  exact (fr_foldl (fun _ _ h0_ => (State.pgnRelease_frame _ _ (sub hu rfl) h0_))
  hz)

theorem State.pgnStageWrite_frame {F : Place → Bool} {z : State} (s : State) (m : Master) (ch : Nat) (a : Nat) (value : Nat)
    (hu : Al F [.gb, .regs, .resp, .gates]) (hz : Fr F z s) :
    Fr F z (State.pgnStageWrite s m ch a value) := by
  unfold State.pgnStageWrite
  exact (fr_ite (State.wr_frame _ _ _ (sub hu rfl) hz)
  (State.pgnDenied_frame _ _ _ _ _ (sub hu rfl) hz))

theorem State.pgnStatWrite_frame {F : Place → Bool} {z : State} (s : State) (m : Master) (ch : Nat) (value : Nat)
    (hu : Al F [.gb, .pgn, .regs, .resp, .gates]) (hz : Fr F z s) :
    Fr F z (State.pgnStatWrite s m ch value) := by
  unfold State.pgnStatWrite
  exact (fr_ite (fr_ite (State.setChan_frame _ _ _ (sub hu rfl) (State.pgnEndTimeout_frame _ _ _ (sub hu rfl) hz))
  hz)
  (fr_ite (State.wr_frame _ _ _ (sub hu rfl) hz)
  (State.pgnDenied_frame _ _ _ _ _ (sub hu rfl) hz)))

theorem State.quePush_frame {F : Place → Bool} {z : State} (s : State) (q : Nat) (entry : List Byte)
    (hu : Al F [.ban, .posted, .regs, .mem, .gates, .heads]) (hz : Fr F z s) :
    Fr F z (State.quePush s q entry) := by
  unfold State.quePush
  exact (State.quePiSet_frame _ _ _ (sub hu rfl) (State.setBytes_frame _ _ _ (sub hu rfl) hz))

theorem State.queComplete_frame {F : Place → Bool} {z : State} (s : State) (q : Nat) (off : Nat) (done : List Byte)
    (hu : Al F [.ban, .regs, .mem, .gates]) (hz : Fr F z s) :
    Fr F z (State.queComplete s q off done) := by
  unfold State.queComplete
  exact (State.queDiSet_frame _ _ _ (sub hu rfl) (State.setBytes_frame _ _ _ (sub hu rfl) hz))

theorem State.pgnPost_frame {F : Place → Bool} {z : State} (s : State) (m : Master) (ch : Nat) (value : Nat)
    (hu : Al F [.ban, .gb, .pgn, .regs, .resp, .gates]) (hz : Fr F z s) :
    Fr F z (State.pgnPost s m ch value) := by
  unfold State.pgnPost
  extract_lets +onlyGivenNames x0_
  extract_lets +onlyGivenNames x1_
  exact (fr_ite (State.post_frame _ _ _ _ _ _ (sub hu rfl) (State.wr_frame _ _ _ (sub hu rfl) (State.refuseWrite_frame _ _ _ (sub hu rfl) hz)))
  (fr_ite (State.bump_frame _ _ (sub hu rfl) (State.wr_frame _ _ _ (sub hu rfl) hz))
  (fr_ite (State.wr_frame _ _ _ (sub hu rfl) hz)
  (fr_ite (by
    extract_lets +onlyGivenNames x2_
    have h2_ : Fr F z x2_ := (State.wr_frame _ _ _ (sub hu rfl) (State.bump_frame _ _ (sub hu rfl) (State.refuseWrite_frame _ _ _ (sub hu rfl) hz)))
    try clear_value x2_
    revert x2_
    refine fr_id ?_
    intro x2_ h2_
    exact (State.post_frame _ _ _ _ _ _ (sub hu rfl) h2_))
  (by
    extract_lets +onlyGivenNames x3_
    extract_lets +onlyGivenNames x4_
    extract_lets +onlyGivenNames x5_
    have h5_ : Fr F z x5_ := (State.logPost_frame _ _ _ (sub hu rfl) hz)
    try clear_value x5_
    revert x5_
    refine fr_id ?_
    intro x5_ h5_
    exact (State.pgnStore_frame _ _ _ _ _ _ (sub hu rfl) h5_))))))

theorem State.pgnAckWrite_frame {F : Place → Bool} {z : State} (s : State) (m : Master) (ch : Nat) (value : Nat)
    (hu : Al F [.gb, .pgn, .regs, .resp, .gates]) (hz : Fr F z s) :
    Fr F z (State.pgnAckWrite s m ch value) := by
  unfold State.pgnAckWrite
  exact (fr_ite (State.pgnAck_frame _ _ _ (sub hu rfl) hz)
  (State.pgnDenied_frame _ _ _ _ _ (sub hu rfl) hz))

theorem execPgnRxHdrRead_frame {F : Place → Bool} {z : State} (m : Master) (ch : Fin 32) (s : State)
    (hu : Al F [.gb, .pgn, .regs, .resp, .gates]) (hz : Fr F z s) :
    FrA F z (execPgnRxHdrRead m ch s) := by
  unfold execPgnRxHdrRead
  exact (frA_next (State.access_frame _ _ _ _ _ _ (sub hu rfl) hz (fun _ h0_ => (State.pgnHdrRead_frame _ _ _ (sub hu rfl) h0_))))

theorem State.queIdxRefused_frame {F : Place → Bool} {z : State} (s : State) (m : Master) (q : Nat) (which : Nat) (value : Nat) (a : Nat)
    (hu : Al F [.gb, .regs, .resp, .gates]) (hz : Fr F z s) :
    Fr F z (State.queIdxRefused s m q which value a) := by
  unfold State.queIdxRefused
  exact (State.post_frame _ _ _ _ _ _ (sub hu rfl) (State.wr_frame _ _ _ (sub hu rfl) (State.refuseWrite_frame _ _ _ (sub hu rfl) hz)))

theorem State.pgnPostWrite_frame {F : Place → Bool} {z : State} (s : State) (m : Master) (ch : Nat) (value : Nat)
    (hu : Al F [.ban, .gb, .pgn, .regs, .resp, .gates]) (hz : Fr F z s) :
    Fr F z (State.pgnPostWrite s m ch value) := by
  unfold State.pgnPostWrite
  exact (fr_ite (State.pgnPost_frame _ _ _ _ (sub hu rfl) hz)
  (State.pgnDenied_frame _ _ _ _ _ (sub hu rfl) hz))

theorem State.queCiWrite_frame {F : Place → Bool} {z : State} (s : State) (m : Master) (q : Nat) (value : Nat)
    (hu : Al F [.gb, .regs, .resp, .gates]) (hz : Fr F z s) :
    Fr F z (State.queCiWrite s m q value) := by
  unfold State.queCiWrite
  extract_lets +onlyGivenNames x0_
  exact (fr_ite (State.refuseWrite_frame _ _ _ (sub hu rfl) hz)
  (fr_ite (State.queIdxRefused_frame _ _ _ _ _ _ (sub hu rfl) hz)
  (by
    extract_lets +onlyGivenNames x1_
    exact (fr_ite hz
    (fr_ite (State.wr_frame _ _ _ (sub hu rfl) hz)
    (State.queIdxRefused_frame _ _ _ _ _ _ (sub hu rfl) hz))))))

theorem execQueuePoolWrite_frame {F : Place → Bool} {z : State} (m : Master) (off : Fin 4194304) (bs : List Byte) (s : State)
    (hu : Al F [.gb, .regs, .resp, .mem, .gates]) (hz : Fr F z s) :
    FrA F z (execQueuePoolWrite m off bs s) := by
  unfold execQueuePoolWrite
  extract_lets +onlyGivenNames x0_
  exact (fr_iteA (frA_next hz)
  (fr_iteA (frA_next (State.busFail_frame _ _ _ _ _ _ (sub hu rfl) hz))
  (frA_next (State.poolWrite_frame _ _ _ _ (sub hu rfl) hz))))

theorem execWithdraw_frame {F : Place → Bool} {z : State} (m : Master) (ch : Fin 32) (s : State)
    (hu : Al F [.gb, .pgn, .regs, .resp, .gates]) (hz : Fr F z s) :
    FrA F z (execWithdraw m ch s) := by
  unfold execWithdraw
  exact (frA_next (State.access_frame _ _ _ _ _ _ (sub hu rfl) hz (fun _ h0_ => (State.pgnCmdWrite_frame _ _ _ _ (sub hu rfl) h0_))))

theorem execPgnTimeoutClear_frame {F : Place → Bool} {z : State} (m : Master) (ch : Fin 32) (s : State)
    (hu : Al F [.gb, .pgn, .regs, .resp, .gates]) (hz : Fr F z s) :
    FrA F z (execPgnTimeoutClear m ch s) := by
  unfold execPgnTimeoutClear
  exact (frA_next (State.access_frame _ _ _ _ _ _ (sub hu rfl) hz (fun _ h0_ => (State.pgnStatWrite_frame _ _ _ _ (sub hu rfl) h0_))))

theorem State.queDiWrite_frame {F : Place → Bool} {z : State} (s : State) (m : Master) (q : Nat) (value : Nat)
    (hu : Al F [.ban, .gb, .regs, .resp, .gates]) (hz : Fr F z s) :
    Fr F z (State.queDiWrite s m q value) := by
  unfold State.queDiWrite
  extract_lets +onlyGivenNames x0_
  exact (fr_ite (State.refuseWrite_frame _ _ _ (sub hu rfl) hz)
  (fr_ite (State.queIdxRefused_frame _ _ _ _ _ _ (sub hu rfl) hz)
  (by
    extract_lets +onlyGivenNames x1_
    exact (fr_ite hz
    (fr_ite (State.queDiSet_frame _ _ _ (sub hu rfl) hz)
    (State.queIdxRefused_frame _ _ _ _ _ _ (sub hu rfl) hz))))))

theorem State.quePiWrite_frame {F : Place → Bool} {z : State} (s : State) (m : Master) (q : Nat) (value : Nat)
    (hu : Al F [.ban, .posted, .gb, .regs, .resp, .gates, .heads]) (hz : Fr F z s) :
    Fr F z (State.quePiWrite s m q value) := by
  unfold State.quePiWrite
  extract_lets +onlyGivenNames x0_
  exact (fr_ite (State.refuseWrite_frame _ _ _ (sub hu rfl) hz)
  (fr_ite (State.queIdxRefused_frame _ _ _ _ _ _ (sub hu rfl) hz)
  (by
    extract_lets +onlyGivenNames x1_
    exact (fr_ite hz
    (fr_ite (by
      extract_lets +onlyGivenNames x2_
      exact (State.quePiSet_frame _ _ _ (sub hu rfl) (State.logPost_frame _ _ _ (sub hu rfl) hz)))
    (by
      extract_lets +onlyGivenNames x3_
      have h3_ : Fr F z x3_ := (State.wr_frame _ _ _ (sub hu rfl) (State.bump_frame _ _ (sub hu rfl) (State.refuseWrite_frame _ _ _ (sub hu rfl) hz)))
      try clear_value x3_
      revert x3_
      refine fr_id ?_
      intro x3_ h3_
      exact (State.post_frame _ _ _ _ _ _ (sub hu rfl) h3_)))))))

theorem execQueCiWrite_frame {F : Place → Bool} {z : State} (m : Master) (q : Fin 64) (value : Word) (s : State)
    (hu : Al F [.gb, .regs, .resp, .gates]) (hz : Fr F z s) :
    FrA F z (execQueCiWrite m q value s) := by
  unfold execQueCiWrite
  exact (frA_next (State.access_frame _ _ _ _ _ _ (sub hu rfl) hz (fun _ h0_ => (State.queCiWrite_frame _ _ _ _ (sub hu rfl) h0_))))

theorem execPgnTxPost_frame {F : Place → Bool} {z : State} (m : Master) (ch : Fin 32) (value : Word) (s : State)
    (hu : Al F [.ban, .gb, .pgn, .regs, .resp, .gates]) (hz : Fr F z s) :
    FrA F z (execPgnTxPost m ch value s) := by
  unfold execPgnTxPost
  exact (frA_next (State.access_frame _ _ _ _ _ _ (sub hu rfl) hz (fun _ h0_ => (State.pgnPostWrite_frame _ _ _ _ (sub hu rfl) h0_))))

theorem execPgnRxAck_frame {F : Place → Bool} {z : State} (m : Master) (ch : Fin 32) (value : Word) (s : State)
    (hu : Al F [.gb, .pgn, .regs, .resp, .gates]) (hz : Fr F z s) :
    FrA F z (execPgnRxAck m ch value s) := by
  unfold execPgnRxAck
  exact (frA_next (State.access_frame _ _ _ _ _ _ (sub hu rfl) hz (fun _ h0_ => (State.pgnAckWrite_frame _ _ _ _ (sub hu rfl) h0_))))

theorem execQuePiWrite_frame {F : Place → Bool} {z : State} (m : Master) (q : Fin 64) (value : Word) (s : State)
    (hu : Al F [.ban, .posted, .gb, .regs, .resp, .gates, .heads]) (hz : Fr F z s) :
    FrA F z (execQuePiWrite m q value s) := by
  unfold execQuePiWrite
  exact (frA_next (State.access_frame _ _ _ _ _ _ (sub hu rfl) hz (fun _ h0_ => (State.quePiWrite_frame _ _ _ _ (sub hu rfl) h0_))))

theorem execQueDiWrite_frame {F : Place → Bool} {z : State} (m : Master) (q : Fin 64) (value : Word) (s : State)
    (hu : Al F [.ban, .gb, .regs, .resp, .gates]) (hz : Fr F z s) :
    FrA F z (execQueDiWrite m q value s) := by
  unfold execQueDiWrite
  exact (frA_next (State.access_frame _ _ _ _ _ _ (sub hu rfl) hz (fun _ h0_ => (State.queDiWrite_frame _ _ _ _ (sub hu rfl) h0_))))

end Sys2Proof.Machine
end

