-- ==== Sys2Proof/Laws/FrameAnnex.lean ====
section
/-!
SUPPORT. What the operations of Machine/Annex.lean may change (Laws/Frames.lean).
-/
namespace Sys2Proof.Machine

theorem State.anxPset_frame {F : Place → Bool} {z : State} (s : State) (pset : Nat)
    (hu : Al F [.gb, .regs, .gates]) (hz : Fr F z s) :
    Fr F z (State.anxPset s pset) := by
  unfold State.anxPset
  extract_lets +onlyGivenNames x0_
  extract_lets +onlyGivenNames x1_
  have h1_ : Fr F z x1_ := (State.wr_frame _ _ _ (sub hu rfl) hz)
  try clear_value x1_
  revert x1_
  refine fr_id ?_
  intro x1_ h1_
  exact (fr_ite (State.post_frame _ _ _ _ _ _ (sub hu rfl) h1_)
  h1_)

theorem State.anxStatus_frame {F : Place → Bool} {z : State} (s : State) (b : List Byte)
    (hu : Al F [.gb, .regs, .gates, .anx]) (hz : Fr F z s) :
    Fr F z (State.anxStatus s b) := by
  unfold State.anxStatus
  extract_lets +onlyGivenNames x0_
  extract_lets +onlyGivenNames x1_
  extract_lets +onlyGivenNames x2_
  extract_lets +onlyGivenNames x3_
  extract_lets +onlyGivenNames x4_
  extract_lets +onlyGivenNames x5_
  extract_lets +onlyGivenNames x6_
  have h6_ : Fr F z x6_ := (State.wr_frame _ _ _ (sub hu rfl) (State.wrB_frame _ _ _ (sub hu rfl) (State.wr_frame _ _ _ (sub hu rfl) (State.wr_frame _ _ _ (sub hu rfl) hz))))
  try clear_value x6_
  revert x6_
  refine fr_id ?_
  intro x6_ h6_
  extract_lets +onlyGivenNames x7_
  have h7_ : Fr F z x7_ := (State.wr_frame _ _ _ (sub hu rfl) h6_)
  try clear_value x7_
  revert x7_
  refine fr_id ?_
  intro x7_ h7_
  extract_lets +onlyGivenNames x8_
  extract_lets +onlyGivenNames x9_
  have h9_ : Fr F z x9_ := (fr_anx h7_ (al hu rfl))
  try clear_value x9_
  revert x9_
  refine fr_id ?_
  intro x9_ h9_
  extract_lets +onlyGivenNames x10_
  have h10_ : Fr F z x10_ := (fr_ite (State.post_frame _ _ _ _ _ _ (sub hu rfl) h9_)
  h9_)
  try clear_value x10_
  revert x10_
  refine fr_id ?_
  intro x10_ h10_
  extract_lets +onlyGivenNames x11_
  have h11_ : Fr F z x11_ := (fr_ite (State.post_frame _ _ _ _ _ _ (sub hu rfl) h10_)
  h10_)
  try clear_value x11_
  revert x11_
  refine fr_id ?_
  intro x11_ h11_
  extract_lets +onlyGivenNames x12_
  exact (by
    split
    · exact (fr_anx h11_ (al hu rfl))
    · exact (fr_ite (State.post_frame _ _ _ _ _ _ (sub hu rfl) (fr_anx h11_ (al hu rfl)))
      h11_))

theorem State.anxTake_frame {F : Place → Bool} {z : State} (s : State) (kind : Nat) (param : Nat) (b : List Byte)
    (hu : Al F [.gb, .regs, .gates, .anx]) (hz : Fr F z s) :
    Fr F z (State.anxTake s kind param b) := by
  unfold State.anxTake
  exact (fr_ite (by
    extract_lets +onlyGivenNames x0_
    exact (State.anxPset_frame _ _ (sub hu rfl) (State.wr64_frame _ _ _ _ (sub hu rfl) hz)))
  (fr_ite (by
    extract_lets +onlyGivenNames x1_
    have h1_ : Fr F z x1_ := (State.wr_frame _ _ _ (sub hu rfl) (State.wr_frame _ _ _ (sub hu rfl) hz))
    try clear_value x1_
    revert x1_
    refine fr_id ?_
    intro x1_ h1_
    exact (fr_foldl (fun _ _ h2_ => (State.wr_frame _ _ _ (sub hu rfl) h2_))
    h1_))
  (fr_ite (fr_anx hz (al hu rfl))
  (fr_ite (State.anxStatus_frame _ _ (sub hu rfl) hz)
  hz))))

theorem State.anxPost_frame {F : Place → Bool} {z : State} (s : State) (ch : Nat) (kind : Nat) (param : Nat) (payload : List Byte)
    (hu : Al F [.ban, .gb, .pgn, .regs, .resp, .gates, .anx]) (hz : Fr F z s) :
    Fr F z (State.anxPost s ch kind param payload).1 := by
  unfold State.anxPost
  extract_lets +onlyGivenNames x0_
  exact (fr_iteP hz
  (fr_iteP (State.anxTake_frame _ _ _ _ (sub hu rfl) hz)
  (by
    extract_lets +onlyGivenNames x1_
    have h1_ : Fr F z x1_ := (fr_foldl (fun _ _ h2_ => (State.wr_frame _ _ _ (sub hu rfl) h2_))
    hz)
    try clear_value x1_
    revert x1_
    refine fr_id ?_
    intro x1_ h1_
    extract_lets +onlyGivenNames x3_
    have h3_ : Fr F z x3_ := (State.answer_frame _ _ (sub hu rfl) (State.wr_frame _ _ _ (sub hu rfl) h1_))
    try clear_value x3_
    revert x3_
    refine fr_id ?_
    intro x3_ h3_
    extract_lets +onlyGivenNames x4_
    have h4_ : Fr F z x4_ := (State.pgnPostWrite_frame _ _ _ _ (sub hu rfl) h3_)
    try clear_value x4_
    revert x4_
    refine fr_id ?_
    intro x4_ h4_
    exact (fr_iteP (State.anxTake_frame _ _ _ _ (sub hu rfl) h4_)
    h4_))))

theorem State.anxPostAll_frame {F : Place → Bool} {z : State} (s : State) (n : Nat) 
    (hu : Al F [.ban, .gb, .pgn, .regs, .resp, .gates, .anx]) (hz : Fr F z s) : Fr F z (State.anxPostAll s n) := by
  induction n generalizing s with
  | zero => exact hz
  | succ n ih =>
    unfold State.anxPostAll
    split
    · exact hz
    · rename_i kind b t _
      have h := State.anxPost_frame s 31 kind 0 b (sub hu rfl) hz
      exact fr_ite (ih _ (fr_anx h (al hu rfl))) h

theorem execReadParam_frame {F : Place → Bool} {z : State} (nums : List (Fin 66)) (s : State)
    (hu : Al F [.anx]) (hz : Fr F z s) :
    FrA F z (execReadParam nums s) := by
  unfold execReadParam
  exact (frA_next (fr_ite (fr_anx hz (al hu rfl))
  hz))

theorem execReadTotals_frame {F : Place → Bool} {z : State} (s : State)
    (hu : Al F [.anx]) (hz : Fr F z s) :
    FrA F z (execReadTotals s) := by
  unfold execReadTotals
  exact (frA_next (fr_ite (fr_anx hz (al hu rfl))
  hz))

theorem State.anxCommit_frame {F : Place → Bool} {z : State} (s : State)
    (hu : Al F [.anx]) (hz : Fr F z s) :
    Fr F z (State.anxCommit s) := by
  unfold State.anxCommit
  exact (fr_anx hz (al hu rfl))

theorem execAnnexSelfTest_frame {F : Place → Bool} {z : State} (pass : Bool) (s : State)
    (hu : Al F [.anx]) (hz : Fr F z s) :
    FrA F z (execAnnexSelfTest pass s) := by
  unfold execAnnexSelfTest
  exact (fr_iteA (frA_next (fr_anx hz (al hu rfl)))
  (frA_next hz))

theorem execReadLog_frame {F : Place → Bool} {z : State} (s : State)
    (hu : Al F [.anx]) (hz : Fr F z s) :
    FrA F z (execReadLog s) := by
  unfold execReadLog
  exact (frA_next (fr_ite (fr_anx hz (al hu rfl))
  hz))

theorem State.wordInstant_frame {F : Place → Bool} {z : State} (s : State)
    (hu : Al F [.frc]) (hz : Fr F z s) :
    Fr F z (State.wordInstant s) := by
  unfold State.wordInstant
  extract_lets +onlyGivenNames x0_
  exact (fr_frc hz (al hu rfl))

theorem State.anxRebase_frame {F : Place → Bool} {z : State} (s : State) (offset : Int)
    (hu : Al F [.anx]) (hz : Fr F z s) :
    Fr F z (State.anxRebase s offset) := by
  unfold State.anxRebase
  exact (fr_anx hz (al hu rfl))

theorem execAnnexReportRepost_frame {F : Place → Bool} {z : State} (s : State)
    (hu : Al F [.ban, .gb, .pgn, .regs, .resp, .gates, .saf, .frc, .anx]) (hz : Fr F z s) :
    FrA F z (execAnnexReportRepost s) := by
  unfold execAnnexReportRepost
  exact (fr_iteA (frA_next hz)
  (by
    extract_lets +onlyGivenNames x0_
    have h0_ : Fr F z x0_ := (State.waitTo_frame _ _ (sub hu rfl) hz)
    try clear_value x0_
    revert x0_
    refine fr_id ?_
    intro x0_ h0_
    exact (frA_next (State.anxPostAll_frame _ _ (sub hu rfl) (fr_anx h0_ (al hu rfl))))))

theorem execAnnexTotalsCommit_frame {F : Place → Bool} {z : State} (s : State)
    (hu : Al F [.saf, .frc, .anx]) (hz : Fr F z s) :
    FrA F z (execAnnexTotalsCommit s) := by
  unfold execAnnexTotalsCommit
  exact (frA_next (fr_ite (State.anxCommit_frame _ (sub hu rfl) (State.waitTo_frame _ _ (sub hu rfl) hz))
  hz))

theorem State.anxLock_frame {F : Place → Bool} {z : State} (s : State)
    (hu : Al F [.regs, .anx]) (hz : Fr F z s) :
    Fr F z (State.anxLock s) := by
  unfold State.anxLock
  exact (fr_ite hz
  (by
    extract_lets +onlyGivenNames x0_
    have h0_ : Fr F z x0_ := (State.wr_frame _ _ _ (sub hu rfl) (State.wr_frame _ _ _ (sub hu rfl) hz))
    try clear_value x0_
    revert x0_
    refine fr_id ?_
    intro x0_ h0_
    exact (fr_anx h0_ (al hu rfl))))

theorem execIdentIf_frame {F : Place → Bool} {z : State} (s : State)
    (hu : Al F [.gb, .regs, .gates, .anx]) (hz : Fr F z s) :
    FrA F z (execIdentIf s) := by
  unfold execIdentIf
  exact (by
    split
    · exact (frA_next hz)
    · exact (fr_iteA (frA_next hz)
      (by
        extract_lets +onlyGivenNames x0_
        extract_lets +onlyGivenNames x1_
        extract_lets +onlyGivenNames x2_
        extract_lets +onlyGivenNames x3_
        have h3_ : Fr F z x3_ := (fr_anx hz (al hu rfl))
        try clear_value x3_
        revert x3_
        refine fr_id ?_
        intro x3_ h3_
        extract_lets +onlyGivenNames x4_
        have h4_ : Fr F z x4_ := (fr_foldl (fun _ _ h5_ => (State.wr_frame _ _ _ (sub hu rfl) h5_))
        h3_)
        try clear_value x4_
        revert x4_
        refine fr_id ?_
        intro x4_ h4_
        extract_lets +onlyGivenNames x6_
        have h6_ : Fr F z x6_ := (State.wr_frame _ _ _ (sub hu rfl) (State.wr_frame _ _ _ (sub hu rfl) h4_))
        try clear_value x6_
        revert x6_
        refine fr_id ?_
        intro x6_ h6_
        extract_lets +onlyGivenNames x7_
        have h7_ : Fr F z x7_ := (State.post_frame _ _ _ _ _ _ (sub hu rfl) (State.wr_frame _ _ _ (sub hu rfl) h6_))
        try clear_value x7_
        revert x7_
        refine fr_id ?_
        intro x7_ h7_
        extract_lets +onlyGivenNames x8_
        exact (fr_iteA (by
          extract_lets +onlyGivenNames x9_
          have h9_ : Fr F z x9_ := (State.wr_frame _ _ _ (sub hu rfl) (State.wr_frame _ _ _ (sub hu rfl) h7_))
          try clear_value x9_
          revert x9_
          refine fr_id ?_
          intro x9_ h9_
          exact (frA_next (fr_ite (State.post_frame _ _ _ _ _ _ (sub hu rfl) h9_)
          h9_)))
        (by
          extract_lets +onlyGivenNames x10_
          have h10_ : Fr F z x10_ := (State.wr_frame _ _ _ (sub hu rfl) (State.wr_frame _ _ _ (sub hu rfl) h7_))
          try clear_value x10_
          revert x10_
          refine fr_id ?_
          intro x10_ h10_
          extract_lets +onlyGivenNames x11_
          have h11_ : Fr F z x11_ := (fr_ite (State.post_frame _ _ _ _ _ _ (sub hu rfl) h10_)
          h10_)
          try clear_value x11_
          revert x11_
          refine fr_id ?_
          intro x11_ h11_
          exact (frA_next (fr_ite h11_
          (State.post_frame _ _ _ _ _ _ (sub hu rfl) h11_))))))))

theorem execAnnexStatusLost_frame {F : Place → Bool} {z : State} (s : State)
    (hu : Al F [.gb, .regs, .gates, .frc]) (hz : Fr F z s) :
    FrA F z (execAnnexStatusLost s) := by
  unfold execAnnexStatusLost
  exact (fr_iteA (by
    extract_lets +onlyGivenNames x0_
    have h0_ : Fr F z x0_ := (fr_frc hz (al hu rfl))
    try clear_value x0_
    revert x0_
    refine fr_id ?_
    intro x0_ h0_
    exact (frA_next (State.post_frame _ _ _ _ _ _ (sub hu rfl) (State.wr_frame _ _ _ (sub hu rfl) h0_))))
  (frA_next hz))

theorem State.anxReport_frame {F : Place → Bool} {z : State} (s : State) (kind : Nat) (payload : List Byte)
    (hu : Al F [.ban, .gb, .pgn, .regs, .resp, .gates, .anx]) (hz : Fr F z s) :
    Fr F z (State.anxReport s kind payload) := by
  unfold State.anxReport
  exact (fr_ite (by
    extract_lets +onlyGivenNames x0_
    have h0_ : Fr F z x0_.1 := (State.anxPost_frame _ _ _ _ _ (sub hu rfl) hz)
    try clear_value x0_
    revert x0_
    refine fr_id ?_
    intro x0_ h0_
    exact (fr_ite h0_
    (by
      extract_lets +onlyGivenNames x1_
      have h1_ : Fr F z x1_ := h0_
      try clear_value x1_
      revert x1_
      refine fr_id ?_
      intro x1_ h1_
      exact (fr_anx h1_ (al hu rfl)))))
  (fr_ite (fr_anx hz (al hu rfl))
  (fr_anx hz (al hu rfl))))

theorem execAnnexResultPost_frame {F : Place → Bool} {z : State} (s : State)
    (hu : Al F [.ban, .gb, .pgn, .regs, .free, .resp, .gates, .saf, .frc, .anx]) (hz : Fr F z s) :
    FrA F z (execAnnexResultPost s) := by
  unfold execAnnexResultPost
  exact (fr_iteA (frA_next hz)
  (by
    extract_lets +onlyGivenNames x0_
    have h0_ : Fr F z x0_ := (State.waitTo_frame _ _ (sub hu rfl) hz)
    try clear_value x0_
    revert x0_
    refine fr_id ?_
    intro x0_ h0_
    extract_lets +onlyGivenNames x1_
    extract_lets +onlyGivenNames x2_
    have h2_ : Fr F z x2_ := (fr_anx h0_ (al hu rfl))
    try clear_value x2_
    revert x2_
    refine fr_id ?_
    intro x2_ h2_
    exact (frA_next (fr_foldl (fun _ _ h3_ => (by
      extract_lets +onlyGivenNames x4_
      have h4_ : Fr F z x4_.1 := (State.anxPost_frame _ _ _ _ _ (sub hu rfl) h3_)
      try clear_value x4_
      revert x4_
      refine fr_id ?_
      intro x4_ h4_
      extract_lets +onlyGivenNames x5_
      extract_lets +onlyGivenNames x6_
      have h6_ : Fr F z x6_ := (State.useFree_frame _ (sub hu rfl) h4_)
      try clear_value x6_
      revert x6_
      refine fr_id ?_
      intro x6_ h6_
      exact (fr_anx h6_ (al hu rfl))))
    h2_))))

theorem State.anxRecord_frame {F : Place → Bool} {z : State} (s : State) (scode : Nat) (p1 : Nat) (p2 : Nat) (p3 : Nat)
    (hu : Al F [.ban, .gb, .pgn, .regs, .resp, .gates, .anx]) (hz : Fr F z s) :
    Fr F z (State.anxRecord s scode p1 p2 p3) := by
  unfold State.anxRecord
  extract_lets +onlyGivenNames x0_
  extract_lets +onlyGivenNames x1_
  exact (fr_ite hz
  (by
    extract_lets +onlyGivenNames x2_
    exact (State.anxReport_frame _ _ _ (sub hu rfl) (fr_anx hz (al hu rfl)))))

theorem State.anxPowerFail_frame {F : Place → Bool} {z : State} (s : State)
    (hu : Al F [.ban, .gb, .pgn, .regs, .resp, .gates, .anx]) (hz : Fr F z s) :
    Fr F z (State.anxPowerFail s) := by
  unfold State.anxPowerFail
  exact (fr_ite (State.anxRecord_frame _ _ _ _ _ (sub hu rfl) (State.anxCommit_frame _ (sub hu rfl) hz))
  hz)

theorem State.anxRefuse_frame {F : Place → Bool} {z : State} (s : State) (cmd : Nat) (why : Nat) (num : Nat)
    (hu : Al F [.ban, .gb, .pgn, .regs, .resp, .gates, .anx]) (hz : Fr F z s) :
    Fr F z (State.anxRefuse s cmd why num) := by
  unfold State.anxRefuse
  exact (fr_ite hz
  (State.anxRecord_frame _ _ _ _ _ (sub hu rfl) hz))

theorem State.anxIdentify_frame {F : Place → Bool} {z : State} (s : State)
    (hu : Al F [.ban, .gb, .pgn, .regs, .resp, .gates, .anx]) (hz : Fr F z s) :
    Fr F z (State.anxIdentify s) := by
  unfold State.anxIdentify
  extract_lets +onlyGivenNames x0_
  extract_lets +onlyGivenNames x1_
  have h1_ : Fr F z x1_ := (State.anxReport_frame _ _ _ (sub hu rfl) hz)
  try clear_value x1_
  revert x1_
  refine fr_id ?_
  intro x1_ h1_
  exact (State.anxReport_frame _ _ _ (sub hu rfl) h1_)

theorem execAnnexStatusPost_frame {F : Place → Bool} {z : State} (s : State)
    (hu : Al F [.ban, .gb, .pgn, .regs, .resp, .gates, .saf, .frc, .anx]) (hz : Fr F z s) :
    FrA F z (execAnnexStatusPost s) := by
  unfold execAnnexStatusPost
  exact (fr_iteA (frA_next hz)
  (by
    extract_lets +onlyGivenNames x0_
    have h0_ : Fr F z x0_ := (State.waitTo_frame _ _ (sub hu rfl) hz)
    try clear_value x0_
    revert x0_
    refine fr_id ?_
    intro x0_ h0_
    extract_lets +onlyGivenNames x1_
    extract_lets +onlyGivenNames x2_
    have h2_ : Fr F z x2_ := (fr_anx h0_ (al hu rfl))
    try clear_value x2_
    revert x2_
    refine fr_id ?_
    intro x2_ h2_
    extract_lets +onlyGivenNames x3_
    exact (frA_next (State.anxReport_frame _ _ _ (sub hu rfl) h2_))))

theorem execAnnexTimeHold_frame {F : Place → Bool} {z : State} (s : State)
    (hu : Al F [.ban, .gb, .pgn, .regs, .resp, .gates, .saf, .frc, .anx]) (hz : Fr F z s) :
    FrA F z (execAnnexTimeHold s) := by
  unfold execAnnexTimeHold
  exact (fr_iteA (by
    extract_lets +onlyGivenNames x0_
    have h0_ : Fr F z x0_ := (State.waitTo_frame _ _ (sub hu rfl) hz)
    try clear_value x0_
    revert x0_
    refine fr_id ?_
    intro x0_ h0_
    extract_lets +onlyGivenNames x1_
    extract_lets +onlyGivenNames x2_
    have h2_ : Fr F z x2_ := (State.anxRebase_frame _ _ (sub hu rfl) h0_)
    try clear_value x2_
    revert x2_
    refine fr_id ?_
    intro x2_ h2_
    exact (frA_next (State.anxRecord_frame _ _ _ _ _ (sub hu rfl) (fr_anx h2_ (al hu rfl)))))
  (frA_next hz))

theorem execAnnexWriteSwitch_frame {F : Place → Bool} {z : State} (write : Bool) (s : State)
    (hu : Al F [.ban, .gb, .power, .pgn, .regs, .resp, .gates, .anx]) (hz : Fr F z s) :
    FrA F z (execAnnexWriteSwitch write s) := by
  unfold execAnnexWriteSwitch
  exact (fr_iteA (frA_next hz)
  (by
    extract_lets +onlyGivenNames x0_
    have h0_ : Fr F z x0_ := (State.wrB_frame _ _ _ (sub hu rfl) hz)
    try clear_value x0_
    revert x0_
    refine fr_id ?_
    intro x0_ h0_
    extract_lets +onlyGivenNames x1_
    have h1_ : Fr F z x1_ := (fr_ite (State.wr_frame _ _ _ (sub hu rfl) h0_)
    h0_)
    try clear_value x1_
    revert x1_
    refine fr_id ?_
    intro x1_ h1_
    extract_lets +onlyGivenNames x2_
    extract_lets +onlyGivenNames x3_
    have h3_ : Fr F z x3_ := (fr_ite hz
    (fr_ite (State.post_frame _ _ _ _ _ _ (sub hu rfl) h1_)
    (fr_power h1_ (al hu rfl))))
    try clear_value x3_
    revert x3_
    refine fr_id ?_
    intro x3_ h3_
    exact (fr_iteA (by
      extract_lets +onlyGivenNames x4_
      extract_lets +onlyGivenNames x5_
      have h5_ : Fr F z x5_ := (fr_anx h3_ (al hu rfl))
      try clear_value x5_
      revert x5_
      refine fr_id ?_
      intro x5_ h5_
      exact (frA_next (State.anxRecord_frame _ _ _ _ _ (sub hu rfl) h5_)))
    (frA_next h3_))))

theorem execClearLog_frame {F : Place → Bool} {z : State} (hash0' : List Byte) (s : State)
    (hu : Al F [.ban, .gb, .pgn, .regs, .resp, .gates, .anx]) (hz : Fr F z s) :
    FrA F z (execClearLog hash0' s) := by
  unfold execClearLog
  exact (fr_iteA (frA_next hz)
  (by
    extract_lets +onlyGivenNames x0_
    extract_lets +onlyGivenNames x1_
    exact (fr_iteA (frA_next (State.anxRefuse_frame _ _ _ _ (sub hu rfl) hz))
    (fr_iteA (frA_next (State.anxRefuse_frame _ _ _ _ (sub hu rfl) hz))
    (frA_next (State.anxRecord_frame _ _ _ _ _ (sub hu rfl) (fr_anx hz (al hu rfl))))))))

theorem State.anxChanged_frame {F : Place → Bool} {z : State} (s : State) (c : AnxChange)
    (hu : Al F [.ban, .gb, .pgn, .regs, .resp, .gates, .anx]) (hz : Fr F z s) :
    Fr F z (State.anxChanged s c) := by
  unfold State.anxChanged
  extract_lets +onlyGivenNames x0_
  exact (fr_ite (State.anxRecord_frame _ _ _ _ _ (sub hu rfl) hz)
  (State.anxRecord_frame _ _ _ _ _ (sub hu rfl) hz))

theorem State.anxCurrent_frame {F : Place → Bool} {z : State} (s : State) (i : Nat) (c : AnxCurrent)
    (hu : Al F [.ban, .gb, .pgn, .regs, .resp, .gates, .anx]) (hz : Fr F z s) :
    Fr F z (State.anxCurrent s i c) := by
  unfold State.anxCurrent
  extract_lets +onlyGivenNames x0_
  extract_lets +onlyGivenNames x1_
  extract_lets +onlyGivenNames x2_
  extract_lets +onlyGivenNames x3_
  exact (fr_ite (fr_ite (fr_anx hz (al hu rfl))
  (State.anxRecord_frame _ _ _ _ _ (sub hu rfl) (fr_anx hz (al hu rfl))))
  (by
    extract_lets +onlyGivenNames x4_
    have h4_ : Fr F z x4_ := (fr_anx hz (al hu rfl))
    try clear_value x4_
    revert x4_
    refine fr_id ?_
    intro x4_ h4_
    exact (fr_ite (State.anxRecord_frame _ _ _ _ _ (sub hu rfl) h4_)
    h4_)))

theorem State.anxWord_frame {F : Place → Bool} {z : State} (s : State) (word : Int)
    (hu : Al F [.ban, .gb, .pgn, .regs, .resp, .gates, .anx]) (hz : Fr F z s) :
    Fr F z (State.anxWord s word) := by
  unfold State.anxWord
  extract_lets +onlyGivenNames x0_
  extract_lets +onlyGivenNames x1_
  extract_lets +onlyGivenNames x2_
  have h2_ : Fr F z x2_ := (State.anxRebase_frame _ _ (sub hu rfl) hz)
  try clear_value x2_
  revert x2_
  refine fr_id ?_
  intro x2_ h2_
  extract_lets +onlyGivenNames x3_
  extract_lets +onlyGivenNames x4_
  have h4_ : Fr F z x4_ := (fr_anx h2_ (al hu rfl))
  try clear_value x4_
  revert x4_
  refine fr_id ?_
  intro x4_ h4_
  exact (fr_ite (State.anxRecord_frame _ _ _ _ _ (sub hu rfl) h4_)
  h4_)

theorem execAnnexInterval_frame {F : Place → Bool} {z : State} (pulses : List AnxPulse) (currents : List AnxCurrent) (s : State)
    (hu : Al F [.ban, .gb, .pgn, .regs, .resp, .gates, .saf, .frc, .anx]) (hz : Fr F z s) :
    FrA F z (execAnnexInterval pulses currents s) := by
  unfold execAnnexInterval
  exact (fr_iteA (frA_next hz)
  (by
    extract_lets +onlyGivenNames x0_
    have h0_ : Fr F z x0_ := (State.waitTo_frame _ _ (sub hu rfl) hz)
    try clear_value x0_
    revert x0_
    refine fr_id ?_
    intro x0_ h0_
    extract_lets +onlyGivenNames x1_
    extract_lets +onlyGivenNames x2_
    have h2_ : Fr F z x2_ := (fr_anx h0_ (al hu rfl))
    try clear_value x2_
    revert x2_
    refine fr_id ?_
    intro x2_ h2_
    extract_lets +onlyGivenNames x3_
    have h3_ : Fr F z x3_ := (fr_foldl (fun _ _ h4_ => (by
      split
      · exact (State.anxCurrent_frame _ _ _ (sub hu rfl) h4_)
      · exact h4_))
    h2_)
    try clear_value x3_
    revert x3_
    refine fr_id ?_
    intro x3_ h3_
    extract_lets +onlyGivenNames x5_
    extract_lets +onlyGivenNames x6_
    exact (frA_next (fr_anx h3_ (al hu rfl)))))

theorem State.anxStart_frame {F : Place → Bool} {z : State} (s : State)
    (hu : Al F [.ban, .gb, .pgn, .regs, .resp, .gates, .anx]) (hz : Fr F z s) :
    Fr F z (State.anxStart s) := by
  unfold State.anxStart
  exact (fr_ite hz
  (by
    extract_lets +onlyGivenNames x0_
    extract_lets +onlyGivenNames x1_
    extract_lets +onlyGivenNames x2_
    have h2_ : Fr F z x2_ := (fr_anx hz (al hu rfl))
    try clear_value x2_
    revert x2_
    refine fr_id ?_
    intro x2_ h2_
    exact (State.anxIdentify_frame _ (sub hu rfl) (State.anxRecord_frame _ _ _ _ _ (sub hu rfl) h2_))))

theorem execTimeWordSend_frame {F : Place → Bool} {z : State} (good : Bool) (s : State)
    (hu : Al F [.ban, .gb, .pgn, .regs, .resp, .gates, .frc, .anx]) (hz : Fr F z s) :
    FrA F z (execTimeWordSend good s) := by
  unfold execTimeWordSend
  exact (fr_iteA (frA_next hz)
  (by
    extract_lets +onlyGivenNames x0_
    have h0_ : Fr F z x0_ := (State.wordInstant_frame _ (sub hu rfl) hz)
    try clear_value x0_
    revert x0_
    refine fr_id ?_
    intro x0_ h0_
    extract_lets +onlyGivenNames x1_
    extract_lets +onlyGivenNames x2_
    extract_lets +onlyGivenNames x3_
    have h3_ : Fr F z x3_ := (fr_anx h0_ (al hu rfl))
    try clear_value x3_
    revert x3_
    refine fr_id ?_
    intro x3_ h3_
    exact (fr_iteA (frA_next h3_)
    (by
      extract_lets +onlyGivenNames x4_
      extract_lets +onlyGivenNames x5_
      extract_lets +onlyGivenNames x6_
      have h6_ : Fr F z x6_ := (fr_anx h3_ (al hu rfl))
      try clear_value x6_
      revert x6_
      refine fr_id ?_
      intro x6_ h6_
      extract_lets +onlyGivenNames x7_
      have h7_ : Fr F z x7_ := (fr_ite (State.anxIdentify_frame _ (sub hu rfl) h6_)
      h6_)
      try clear_value x7_
      revert x7_
      refine fr_id ?_
      intro x7_ h7_
      exact (frA_next (fr_ite (State.anxWord_frame _ _ (sub hu rfl) h7_)
      h7_))))))

theorem execLoadSoftware_frame {F : Place → Bool} {z : State} (image : List Byte) (sig : List Byte) (name : List Byte) (ifhash : List Byte) (version : BitVec 32) (build : BitVec 32) (s : State)
    (hu : Al F [.ban, .gb, .pgn, .regs, .resp, .gates, .anx]) (hz : Fr F z s) :
    FrA F z (execLoadSoftware image sig name ifhash version build s) := by
  unfold execLoadSoftware
  exact (fr_iteA (frA_next hz)
  (by
    extract_lets +onlyGivenNames x0_
    extract_lets +onlyGivenNames x1_
    exact (fr_iteA (frA_next (State.anxRefuse_frame _ _ _ _ (sub hu rfl) hz))
    (fr_iteA (frA_next (State.anxRefuse_frame _ _ _ _ (sub hu rfl) hz))
    (fr_iteA (frA_next (State.anxRefuse_frame _ _ _ _ (sub hu rfl) hz))
    (by
      extract_lets +onlyGivenNames x2_
      have h2_ : Fr F z x2_ := (State.anxCommit_frame _ (sub hu rfl) (State.anxRecord_frame _ _ _ _ _ (sub hu rfl) hz))
      try clear_value x2_
      revert x2_
      refine fr_id ?_
      intro x2_ h2_
      exact (frA_next (State.anxStart_frame _ (sub hu rfl) (fr_anx h2_ (al hu rfl))))))))))

theorem execWriteParam_frame {F : Place → Bool} {z : State} (changes : List AnxChange) (s : State)
    (hu : Al F [.ban, .gb, .pgn, .regs, .resp, .gates, .anx]) (hz : Fr F z s) :
    FrA F z (execWriteParam changes s) := by
  unfold execWriteParam
  exact (fr_iteA (frA_next hz)
  (by
    extract_lets +onlyGivenNames x0_
    extract_lets +onlyGivenNames x1_
    exact (by
      split
      · exact (frA_next (State.anxRefuse_frame _ _ _ _ (sub hu rfl) hz))
      · exact (fr_iteA (frA_next (State.anxRefuse_frame _ _ _ _ (sub hu rfl) hz))
        (fr_iteA (frA_next (State.anxRefuse_frame _ _ _ _ (sub hu rfl) hz))
        (by
          extract_lets +onlyGivenNames x2_
          have h2_ : Fr F z x2_ := (fr_foldl (fun _ _ h3_ => (State.anxChanged_frame _ _ (sub hu rfl) h3_))
          hz)
          try clear_value x2_
          revert x2_
          refine fr_id ?_
          intro x2_ h2_
          exact (frA_next (fr_anx h2_ (al hu rfl)))))))))

end Sys2Proof.Machine
end

