-- ==== Sys2Proof/Laws/FrameAxis.lean ====
section
/-!
SUPPORT. What the operations of Machine/Axis.lean may change (Laws/Frames.lean).
-/
namespace Sys2Proof.Machine

theorem State.setAxis_frame {F : Place → Bool} {z : State} (s : State) (a : Nat) (x : Axis)
    (hu : Al F [.axes]) (hz : Fr F z s) :
    Fr F z (State.setAxis s a x) := by
  unfold State.setAxis
  exact (fr_axes hz (al hu rfl))

theorem State.axLines_frame {F : Place → Bool} {z : State} (s : State) (a : Nat)
    (hu : Al F [.axes]) (hz : Fr F z s) :
    Fr F z (State.axLines s a) := by
  unfold State.axLines
  extract_lets +onlyGivenNames x0_
  extract_lets +onlyGivenNames x1_
  extract_lets +onlyGivenNames x2_
  extract_lets +onlyGivenNames x3_
  extract_lets +onlyGivenNames x4_
  extract_lets +onlyGivenNames x5_
  exact (State.setAxis_frame _ _ _ (sub hu rfl) hz)

theorem State.axTakeover_frame {F : Place → Bool} {z : State} (s : State)
    (hu : Al F [.axes]) (hz : Fr F z s) :
    Fr F z (State.axTakeover s) := by
  unfold State.axTakeover
  exact (fr_foldl (fun _ _ h0_ => (fr_ite (State.setAxis_frame _ _ _ (sub hu rfl) h0_)
  h0_))
  hz)

theorem State.axEnter_frame {F : Place → Bool} {z : State} (s : State) (a : Nat) (st : Nat)
    (hu : Al F [.axes, .regs]) (hz : Fr F z s) :
    Fr F z (State.axEnter s a st) := by
  unfold State.axEnter
  extract_lets +onlyGivenNames x0_
  have h0_ : Fr F z x0_ := (State.wr_frame _ _ _ (sub hu rfl) hz)
  try clear_value x0_
  revert x0_
  refine fr_id ?_
  intro x0_ h0_
  extract_lets +onlyGivenNames x1_
  extract_lets +onlyGivenNames x2_
  exact (State.setAxis_frame _ _ _ (sub hu rfl) h0_)

theorem State.axAdvance_frame {F : Place → Bool} {z : State} (s : State) (a : Nat)
    (hu : Al F [.axes, .free]) (hz : Fr F z s) :
    Fr F z (State.axAdvance s a) := by
  unfold State.axAdvance
  extract_lets +onlyGivenNames x0_
  extract_lets +onlyGivenNames x1_
  exact (fr_ite (by
    extract_lets +onlyGivenNames x2_
    extract_lets +onlyGivenNames x3_
    extract_lets +onlyGivenNames x4_
    extract_lets +onlyGivenNames x5_
    extract_lets +onlyGivenNames x6_
    extract_lets +onlyGivenNames x7_
    extract_lets +onlyGivenNames x8_
    extract_lets +onlyGivenNames x9_
    extract_lets +onlyGivenNames x10_
    extract_lets +onlyGivenNames x11_
    extract_lets +onlyGivenNames x12_
    extract_lets +onlyGivenNames x13_
    extract_lets +onlyGivenNames x14_
    exact (State.useFree_frame _ (sub hu rfl) (State.setAxis_frame _ _ _ (sub hu rfl) hz)))
  (State.setAxis_frame _ _ _ (sub hu rfl) hz))

theorem State.axProgress_frame {F : Place → Bool} {z : State} (s : State) (a : Nat)
    (hu : Al F [.axes, .regs]) (hz : Fr F z s) :
    Fr F z (State.axProgress s a) := by
  unfold State.axProgress
  extract_lets +onlyGivenNames x0_
  extract_lets +onlyGivenNames x1_
  extract_lets +onlyGivenNames x2_
  have h2_ : Fr F z x2_ := (fr_ite (State.setAxis_frame _ _ _ (sub hu rfl) hz)
  hz)
  try clear_value x2_
  revert x2_
  refine fr_id ?_
  intro x2_ h2_
  extract_lets +onlyGivenNames x3_
  exact (fr_ite (fr_ite h2_
  (State.axEnter_frame _ _ _ (sub hu rfl) h2_))
  (fr_ite (fr_ite (State.axEnter_frame _ _ _ (sub hu rfl) h2_)
  h2_)
  (fr_ite h2_
  (fr_ite (fr_ite (State.axEnter_frame _ _ _ (sub hu rfl) h2_)
  (fr_ite (State.axEnter_frame _ _ _ (sub hu rfl) h2_)
  h2_))
  h2_))))

theorem State.axShowAll_frame {F : Place → Bool} {z : State} (s : State)
    (hu : Al F [.regs]) (hz : Fr F z s) :
    Fr F z (State.axShowAll s) := by
  unfold State.axShowAll
  extract_lets +onlyGivenNames x0_
  extract_lets +onlyGivenNames x1_
  have h1_ : Fr F z x1_ := (State.wr_frame _ _ _ (sub hu rfl) hz)
  try clear_value x1_
  revert x1_
  refine fr_id ?_
  intro x1_ h1_
  extract_lets +onlyGivenNames x2_
  have h2_ : Fr F z x2_ := (State.wr_frame _ _ _ (sub hu rfl) h1_)
  try clear_value x2_
  revert x2_
  refine fr_id ?_
  intro x2_ h2_
  exact (State.wr_frame _ _ _ (sub hu rfl) h2_)

theorem State.axShow_frame {F : Place → Bool} {z : State} (s : State) (a : Nat)
    (hu : Al F [.axes, .regs]) (hz : Fr F z s) :
    Fr F z (State.axShow s a) := by
  unfold State.axShow
  extract_lets +onlyGivenNames x0_
  extract_lets +onlyGivenNames x1_
  have h1_ : Fr F z x1_ := (State.wr64_frame _ _ _ _ (sub hu rfl) hz)
  try clear_value x1_
  revert x1_
  refine fr_id ?_
  intro x1_ h1_
  extract_lets +onlyGivenNames x2_
  have h2_ : Fr F z x2_ := (State.wr64_frame _ _ _ _ (sub hu rfl) h1_)
  try clear_value x2_
  revert x2_
  refine fr_id ?_
  intro x2_ h2_
  extract_lets +onlyGivenNames x3_
  have h3_ : Fr F z x3_ := (State.wr_frame _ _ _ (sub hu rfl) h2_)
  try clear_value x3_
  revert x3_
  refine fr_id ?_
  intro x3_ h3_
  extract_lets +onlyGivenNames x4_
  have h4_ : Fr F z x4_ := (State.wr_frame _ _ _ (sub hu rfl) h3_)
  try clear_value x4_
  revert x4_
  refine fr_id ?_
  intro x4_ h4_
  exact (State.axShowAll_frame _ (sub hu rfl) (State.axLines_frame _ _ (sub hu rfl) (State.wrB_frame _ _ _ (sub hu rfl) h4_)))

theorem execEnSettleElapsed_frame {F : Place → Bool} {z : State} (a : Fin 8) (s : State)
    (hu : Al F [.axes, .regs, .frc]) (hz : Fr F z s) :
    FrA F z (execEnSettleElapsed a s) := by
  unfold execEnSettleElapsed
  exact (fr_iteA (by
    extract_lets +onlyGivenNames x0_
    extract_lets +onlyGivenNames x1_
    have h1_ : Fr F z x1_ := (fr_frc hz (al hu rfl))
    try clear_value x1_
    revert x1_
    refine fr_id ?_
    intro x1_ h1_
    exact (frA_next (State.axShow_frame _ _ (sub hu rfl) (State.axEnter_frame _ _ _ (sub hu rfl) h1_))))
  (frA_next hz))

theorem State.axCommit_frame {F : Place → Bool} {z : State} (s : State) (t : Nat) (safe : Bool) (img : List Byte)
    (hu : Al F [.axes, .regs, .gates]) (hz : Fr F z s) :
    Fr F z (State.axCommit s t safe img) := by
  unfold State.axCommit
  extract_lets +onlyGivenNames x0_
  exact (fr_foldl (fun _ _ h1_ => (fr_ite (by
    extract_lets +onlyGivenNames x2_
    extract_lets +onlyGivenNames x3_
    extract_lets +onlyGivenNames x4_
    extract_lets +onlyGivenNames x5_
    have h5_ : Fr F z x5_ := (State.setAxis_frame _ _ _ (sub hu rfl) h1_)
    try clear_value x5_
    revert x5_
    refine fr_id ?_
    intro x5_ h5_
    exact (State.wake_frame _ _ (sub hu rfl) h5_))
  h1_))
  hz)

theorem execStillDelayElapsed_frame {F : Place → Bool} {z : State} (a : Fin 8) (s : State)
    (hu : Al F [.axes, .regs, .frc]) (hz : Fr F z s) :
    FrA F z (execStillDelayElapsed a s) := by
  unfold execStillDelayElapsed
  exact (fr_iteA (by
    extract_lets +onlyGivenNames x0_
    have h0_ : Fr F z x0_ := (fr_frc hz (al hu rfl))
    try clear_value x0_
    revert x0_
    refine fr_id ?_
    intro x0_ h0_
    exact (frA_next (State.axShow_frame _ _ (sub hu rfl) (State.axEnter_frame _ _ _ (sub hu rfl) h0_))))
  (frA_next hz))

theorem State.axLock_frame {F : Place → Bool} {z : State} (s : State)
    (hu : Al F [.axes, .regs]) (hz : Fr F z s) :
    Fr F z (State.axLock s) := by
  unfold State.axLock
  exact (State.axShowAll_frame _ (sub hu rfl) (fr_foldl (fun _ _ h0_ => (fr_ite (by
    extract_lets +onlyGivenNames x1_
    have h1_ : Fr F z x1_ := (State.setAxis_frame _ _ _ (sub hu rfl) h0_)
    try clear_value x1_
    revert x1_
    refine fr_id ?_
    intro x1_ h1_
    extract_lets +onlyGivenNames x2_
    have h2_ : Fr F z x2_ := (State.wr64_frame _ _ _ _ (sub hu rfl) h1_)
    try clear_value x2_
    revert x2_
    refine fr_id ?_
    intro x2_ h2_
    exact (State.wr64_frame _ _ _ _ (sub hu rfl) h2_))
  h0_))
  hz))

theorem State.axStall_frame {F : Place → Bool} {z : State} (s : State) (a : Nat)
    (hu : Al F [.gb, .axes, .regs, .gates]) (hz : Fr F z s) :
    Fr F z (State.axStall s a) := by
  unfold State.axStall
  extract_lets +onlyGivenNames x0_
  extract_lets +onlyGivenNames x1_
  extract_lets +onlyGivenNames x2_
  exact (fr_ite hz
  (by
    extract_lets +onlyGivenNames x3_
    extract_lets +onlyGivenNames x4_
    exact (fr_ite (State.setAxis_frame _ _ _ (sub hu rfl) hz)
    (fr_ite (State.setAxis_frame _ _ _ (sub hu rfl) hz)
    (by
      extract_lets +onlyGivenNames x5_
      have h5_ : Fr F z x5_ := (State.setAxis_frame _ _ _ (sub hu rfl) hz)
      try clear_value x5_
      revert x5_
      refine fr_id ?_
      intro x5_ h5_
      extract_lets +onlyGivenNames x6_
      have h6_ : Fr F z x6_ := (State.axEnter_frame _ _ _ (sub hu rfl) (State.wr_frame _ _ _ (sub hu rfl) h5_))
      try clear_value x6_
      revert x6_
      refine fr_id ?_
      intro x6_ h6_
      exact (State.post_frame _ _ _ _ _ _ (sub hu rfl) h6_))))))

theorem execAxisResume_frame {F : Place → Bool} {z : State} (a : Fin 8) (s : State)
    (hu : Al F [.gb, .axes, .regs, .gates, .frc]) (hz : Fr F z s) :
    FrA F z (execAxisResume a s) := by
  unfold execAxisResume
  extract_lets +onlyGivenNames x0_
  exact (fr_iteA (by
    extract_lets +onlyGivenNames x1_
    have h1_ : Fr F z x1_ := (fr_frc hz (al hu rfl))
    try clear_value x1_
    revert x1_
    refine fr_id ?_
    intro x1_ h1_
    extract_lets +onlyGivenNames x2_
    have h2_ : Fr F z x2_ := (State.setAxis_frame _ _ _ (sub hu rfl) h1_)
    try clear_value x2_
    revert x2_
    refine fr_id ?_
    intro x2_ h2_
    exact (frA_next (State.axShow_frame _ _ (sub hu rfl) (State.post_frame _ _ _ _ _ _ (sub hu rfl) h2_))))
  (frA_next hz))

theorem State.axPlan_frame {F : Place → Bool} {z : State} (s : State) (a : Nat)
    (hu : Al F [.gb, .axes, .regs, .gates]) (hz : Fr F z s) :
    Fr F z (State.axPlan s a) := by
  unfold State.axPlan
  extract_lets +onlyGivenNames x0_
  extract_lets +onlyGivenNames x1_
  extract_lets +onlyGivenNames x2_
  extract_lets +onlyGivenNames x3_
  extract_lets +onlyGivenNames x4_
  extract_lets +onlyGivenNames x5_
  extract_lets +onlyGivenNames x6_
  extract_lets +onlyGivenNames x7_
  extract_lets +onlyGivenNames x8_
  extract_lets +onlyGivenNames x9_
  extract_lets +onlyGivenNames x10_
  extract_lets +onlyGivenNames x11_
  extract_lets +onlyGivenNames x12_
  extract_lets +onlyGivenNames x13_
  extract_lets +onlyGivenNames x14_
  extract_lets +onlyGivenNames x15_
  exact (fr_ite (State.setAxis_frame _ _ _ (sub hu rfl) hz)
  (fr_ite (fr_ite (by
    extract_lets +onlyGivenNames x16_
    have h16_ : Fr F z x16_ := (State.wr_frame _ _ _ (sub hu rfl) (State.setAxis_frame _ _ _ (sub hu rfl) hz))
    try clear_value x16_
    revert x16_
    refine fr_id ?_
    intro x16_ h16_
    exact (State.post_frame _ _ _ _ _ _ (sub hu rfl) h16_))
  (by
    extract_lets +onlyGivenNames x17_
    have h17_ : Fr F z x17_ := (State.setAxis_frame _ _ _ (sub hu rfl) hz)
    try clear_value x17_
    revert x17_
    refine fr_id ?_
    intro x17_ h17_
    exact (fr_ite (fr_ite (State.wr_frame _ _ _ (sub hu rfl) h17_)
    h17_)
    (by
      extract_lets +onlyGivenNames x18_
      extract_lets +onlyGivenNames x19_
      have h19_ : Fr F z x19_ := (State.wr_frame _ _ _ (sub hu rfl) (State.setAxis_frame _ _ _ (sub hu rfl) h17_))
      try clear_value x19_
      revert x19_
      refine fr_id ?_
      intro x19_ h19_
      exact (State.post_frame _ _ _ _ _ _ (sub hu rfl) h19_)))))
  (by
    extract_lets +onlyGivenNames x20_
    have h20_ : Fr F z x20_ := (State.setAxis_frame _ _ _ (sub hu rfl) hz)
    try clear_value x20_
    revert x20_
    refine fr_id ?_
    intro x20_ h20_
    exact (fr_ite (State.post_frame _ _ _ _ _ _ (sub hu rfl) (State.wr_frame _ _ _ (sub hu rfl) h20_))
    h20_))))

theorem execEncErr_frame {F : Place → Bool} {z : State} (a : Fin 8) (s : State)
    (hu : Al F [.gb, .axes, .regs, .gates]) (hz : Fr F z s) :
    FrA F z (execEncErr a s) := by
  unfold execEncErr
  exact (fr_iteA (fr_iteA (frA_next (State.post_frame _ _ _ _ _ _ (sub hu rfl) hz))
  (by
    extract_lets +onlyGivenNames x0_
    extract_lets +onlyGivenNames x1_
    have h1_ : Fr F z x1_ := (State.setAxis_frame _ _ _ (sub hu rfl) hz)
    try clear_value x1_
    revert x1_
    refine fr_id ?_
    intro x1_ h1_
    extract_lets +onlyGivenNames x2_
    have h2_ : Fr F z x2_ := (State.wr_frame _ _ _ (sub hu rfl) h1_)
    try clear_value x2_
    revert x2_
    refine fr_id ?_
    intro x2_ h2_
    exact (frA_next (State.post_frame _ _ _ _ _ _ (sub hu rfl) h2_))))
  (frA_next hz))

theorem State.axLossFault_frame {F : Place → Bool} {z : State} (s : State) (a : Nat)
    (hu : Al F [.gb, .axes, .regs, .gates]) (hz : Fr F z s) :
    Fr F z (State.axLossFault s a) := by
  unfold State.axLossFault
  extract_lets +onlyGivenNames x0_
  exact (fr_ite (State.axPlan_frame _ _ (sub hu rfl) (State.axEnter_frame _ _ _ (sub hu rfl) hz))
  hz)

theorem State.axAim_frame {F : Place → Bool} {z : State} (s : State) (a : Nat)
    (hu : Al F [.gb, .axes, .regs, .gates]) (hz : Fr F z s) :
    Fr F z (State.axAim s a) := by
  unfold State.axAim
  extract_lets +onlyGivenNames x0_
  extract_lets +onlyGivenNames x1_
  extract_lets +onlyGivenNames x2_
  extract_lets +onlyGivenNames x3_
  have h3_ : Fr F z x3_ := (State.setAxis_frame _ _ _ (sub hu rfl) hz)
  try clear_value x3_
  revert x3_
  refine fr_id ?_
  intro x3_ h3_
  extract_lets +onlyGivenNames x4_
  have h4_ : Fr F z x4_ := (fr_ite (by
    split
    · exact (State.post_frame _ _ _ _ _ _ (sub hu rfl) (State.wr_frame _ _ _ (sub hu rfl) h3_))
    · exact h3_)
  hz)
  try clear_value x4_
  revert x4_
  refine fr_id ?_
  intro x4_ h4_
  exact (State.axPlan_frame _ _ (sub hu rfl) h4_)

theorem State.axLossSet_frame {F : Place → Bool} {z : State} (s : State) (a : Nat) (loss : Bool)
    (hu : Al F [.gb, .axes, .regs, .gates]) (hz : Fr F z s) :
    Fr F z (State.axLossSet s a loss) := by
  unfold State.axLossSet
  exact (fr_ite hz
  (by
    extract_lets +onlyGivenNames x0_
    have h0_ : Fr F z x0_ := (State.wrB_frame _ _ _ (sub hu rfl) hz)
    try clear_value x0_
    revert x0_
    refine fr_id ?_
    intro x0_ h0_
    exact (fr_ite (State.axLossFault_frame _ _ (sub hu rfl) (State.post_frame _ _ _ _ _ _ (sub hu rfl) h0_))
    h0_)))

theorem State.axAccept_frame {F : Place → Bool} {z : State} (s : State) (a : Nat) (b : List Byte)
    (hu : Al F [.gb, .axes, .regs, .gates]) (hz : Fr F z s) :
    Fr F z (State.axAccept s a b) := by
  unfold State.axAccept
  extract_lets +onlyGivenNames x0_
  extract_lets +onlyGivenNames x1_
  extract_lets +onlyGivenNames x2_
  extract_lets +onlyGivenNames x3_
  extract_lets +onlyGivenNames x4_
  have h4_ : Fr F z x4_ := (State.setAxis_frame _ _ _ (sub hu rfl) hz)
  try clear_value x4_
  revert x4_
  refine fr_id ?_
  intro x4_ h4_
  extract_lets +onlyGivenNames x5_
  have h5_ : Fr F z x5_ := (fr_ite (State.wr_frame _ _ _ (sub hu rfl) (State.wr_frame _ _ _ (sub hu rfl) (State.wr_frame _ _ _ (sub hu rfl) (State.wr_frame _ _ _ (sub hu rfl) (State.wr_frame _ _ _ (sub hu rfl) h4_)))))
  h4_)
  try clear_value x5_
  revert x5_
  refine fr_id ?_
  intro x5_ h5_
  extract_lets +onlyGivenNames x6_
  extract_lets +onlyGivenNames x7_
  extract_lets +onlyGivenNames x8_
  have h8_ : Fr F z x8_ := (State.wr_frame _ _ _ (sub hu rfl) (State.setAxis_frame _ _ _ (sub hu rfl) h5_))
  try clear_value x8_
  revert x8_
  refine fr_id ?_
  intro x8_ h8_
  extract_lets +onlyGivenNames x9_
  have h9_ : Fr F z x9_ := (fr_ite (fr_ite (State.axEnter_frame _ _ _ (sub hu rfl) h8_)
  h8_)
  h5_)
  try clear_value x9_
  revert x9_
  refine fr_id ?_
  intro x9_ h9_
  extract_lets +onlyGivenNames x10_
  extract_lets +onlyGivenNames x11_
  have h11_ : Fr F z x11_ := (fr_ite (State.setAxis_frame _ _ _ (sub hu rfl) h9_)
  h9_)
  try clear_value x11_
  revert x11_
  refine fr_id ?_
  intro x11_ h11_
  exact (State.axAim_frame _ _ (sub hu rfl) h11_)

theorem State.axVlimLoWrite_frame {F : Place → Bool} {z : State} (s : State) (m : Master) (a : Nat) (upper : Bool) (v : Nat)
    (hu : Al F [.ban, .gb, .regs, .resp, .gates, .staged]) (hz : Fr F z s) :
    Fr F z (State.axVlimLoWrite s m a upper v) := by
  unfold State.axVlimLoWrite
  exact (fr_ite hz
  (fr_ite (State.refuseWrite_frame _ _ _ (sub hu rfl) hz)
  (State.mirror_frame _ _ _ _ (sub hu rfl) (State.stageLo_frame _ _ _ _ (sub hu rfl) hz))))

theorem State.axVlim_frame {F : Place → Bool} {z : State} (s : State) (a : Nat)
    (hu : Al F [.gb, .axes, .regs, .gates]) (hz : Fr F z s) :
    Fr F z (State.axVlim s a) := by
  unfold State.axVlim
  extract_lets +onlyGivenNames x0_
  exact (fr_ite hz
  (by
    extract_lets +onlyGivenNames x1_
    extract_lets +onlyGivenNames x2_
    extract_lets +onlyGivenNames x3_
    extract_lets +onlyGivenNames x4_
    extract_lets +onlyGivenNames x5_
    have h5_ : Fr F z x5_ := (State.setAxis_frame _ _ _ (sub hu rfl) hz)
    try clear_value x5_
    revert x5_
    refine fr_id ?_
    intro x5_ h5_
    extract_lets +onlyGivenNames x6_
    have h6_ : Fr F z x6_ := (State.wr_frame _ _ _ (sub hu rfl) h5_)
    try clear_value x6_
    revert x6_
    refine fr_id ?_
    intro x6_ h6_
    exact (fr_ite (by
      extract_lets +onlyGivenNames x7_
      have h7_ : Fr F z x7_ := (State.wr64_frame _ _ _ _ (sub hu rfl) h6_)
      try clear_value x7_
      revert x7_
      refine fr_id ?_
      intro x7_ h7_
      extract_lets +onlyGivenNames x8_
      have h8_ : Fr F z x8_ := (State.wr64_frame _ _ _ _ (sub hu rfl) h7_)
      try clear_value x8_
      revert x8_
      refine fr_id ?_
      intro x8_ h8_
      exact (State.axAim_frame _ _ (sub hu rfl) (State.wr_frame _ _ _ (sub hu rfl) h8_)))
    (State.post_frame _ _ _ _ _ _ (sub hu rfl) (State.wr_frame _ _ _ (sub hu rfl) h6_)))))

theorem execEncLossClear_frame {F : Place → Bool} {z : State} (a : Fin 8) (s : State)
    (hu : Al F [.gb, .axes, .regs, .gates]) (hz : Fr F z s) :
    FrA F z (execEncLossClear a s) := by
  unfold execEncLossClear
  exact (fr_iteA (by
    extract_lets +onlyGivenNames x0_
    extract_lets +onlyGivenNames x1_
    have h1_ : Fr F z x1_ := (State.setAxis_frame _ _ _ (sub hu rfl) hz)
    try clear_value x1_
    revert x1_
    refine fr_id ?_
    intro x1_ h1_
    exact (frA_next (fr_ite h1_
    (State.axLossSet_frame _ _ _ (sub hu rfl) h1_))))
  (frA_next hz))

theorem State.axVlimHiWrite_frame {F : Place → Bool} {z : State} (s : State) (m : Master) (a : Nat) (upper : Bool) (v : Nat)
    (hu : Al F [.ban, .gb, .axes, .regs, .resp, .gates, .staged]) (hz : Fr F z s) :
    Fr F z (State.axVlimHiWrite s m a upper v) := by
  unfold State.axVlimHiWrite
  extract_lets +onlyGivenNames x0_
  exact (fr_ite hz
  (fr_ite (State.refuseWrite_frame _ _ _ (sub hu rfl) hz)
  (by
    extract_lets +onlyGivenNames x1_
    extract_lets +onlyGivenNames x2_
    have h2_ : Fr F z x2_ := (State.mirror_frame _ _ _ _ (sub hu rfl) (State.unstage_frame _ _ _ (sub hu rfl) hz))
    try clear_value x2_
    revert x2_
    refine fr_id ?_
    intro x2_ h2_
    extract_lets +onlyGivenNames x3_
    extract_lets +onlyGivenNames x4_
    exact (State.wr_frame _ _ _ (sub hu rfl) (State.setAxis_frame _ _ _ (sub hu rfl) h2_)))))

theorem execEncLoss_frame {F : Place → Bool} {z : State} (a : Fin 8) (s : State)
    (hu : Al F [.gb, .axes, .regs, .gates]) (hz : Fr F z s) :
    FrA F z (execEncLoss a s) := by
  unfold execEncLoss
  exact (fr_iteA (by
    extract_lets +onlyGivenNames x0_
    extract_lets +onlyGivenNames x1_
    have h1_ : Fr F z x1_ := (State.setAxis_frame _ _ _ (sub hu rfl) hz)
    try clear_value x1_
    revert x1_
    refine fr_id ?_
    intro x1_ h1_
    exact (fr_iteA (frA_next (State.post_frame _ _ _ _ _ _ (sub hu rfl) h1_))
    (frA_next (State.axShow_frame _ _ (sub hu rfl) (State.axLossSet_frame _ _ _ (sub hu rfl) h1_)))))
  (frA_next hz))

theorem State.axTake_frame {F : Place → Bool} {z : State} (s : State) (a : Nat)
    (hu : Al F [.gb, .axes, .regs, .gates]) (hz : Fr F z s) :
    Fr F z (State.axTake s a) := by
  unfold State.axTake
  exact (by
    split
    · exact hz
    · extract_lets +onlyGivenNames x0_
      extract_lets +onlyGivenNames x1_
      have h1_ : Fr F z x1_ := (State.setAxis_frame _ _ _ (sub hu rfl) hz)
      try clear_value x1_
      revert x1_
      refine fr_id ?_
      intro x1_ h1_
      extract_lets +onlyGivenNames x2_
      exact (fr_ite h1_
      (fr_ite (State.axAccept_frame _ _ _ (sub hu rfl) h1_)
      (State.post_frame _ _ _ _ _ _ (sub hu rfl) (State.setAxis_frame _ _ _ (sub hu rfl) h1_)))))

theorem execVlimStage_frame {F : Place → Bool} {z : State} (m : Master) (a : Fin 8) (upper : Bool) (value : Word) (s : State)
    (hu : Al F [.ban, .gb, .axes, .regs, .resp, .gates, .staged]) (hz : Fr F z s) :
    FrA F z (execVlimStage m a upper value s) := by
  unfold execVlimStage
  exact (frA_next (State.access_frame _ _ _ _ _ _ (sub hu rfl) hz (fun _ h0_ => (State.axVlimHiWrite_frame _ _ _ _ _ (sub hu rfl) h0_))))

theorem State.axBoundary_frame {F : Place → Bool} {z : State} (s : State) (a : Nat) (count : Nat)
    (hu : Al F [.gb, .axes, .regs, .free, .gates]) (hz : Fr F z s) :
    Fr F z (State.axBoundary s a count) := by
  unfold State.axBoundary
  exact (fr_ite hz
  (by
    extract_lets +onlyGivenNames x0_
    extract_lets +onlyGivenNames x1_
    extract_lets +onlyGivenNames x2_
    have h2_ : Fr F z x2_ := (State.setAxis_frame _ _ _ (sub hu rfl) hz)
    try clear_value x2_
    revert x2_
    refine fr_id ?_
    intro x2_ h2_
    extract_lets +onlyGivenNames x3_
    have h3_ : Fr F z x3_ := (State.axLossFault_frame _ _ (sub hu rfl) (State.axProgress_frame _ _ (sub hu rfl) (State.axTake_frame _ _ (sub hu rfl) (State.axVlim_frame _ _ (sub hu rfl) h2_))))
    try clear_value x3_
    revert x3_
    refine fr_id ?_
    intro x3_ h3_
    exact (State.axShow_frame _ _ (sub hu rfl) (State.axAdvance_frame _ _ (sub hu rfl) (State.axProgress_frame _ _ (sub hu rfl) (State.axStall_frame _ _ (sub hu rfl) h3_))))))

theorem execStepBoundary_frame {F : Place → Bool} {z : State} (deltas : List Int) (s : State)
    (hu : Al F [.ban, .gb, .axes, .regs, .free, .gates, .frc]) (hz : Fr F z s) :
    FrA F z (execStepBoundary deltas s) := by
  unfold execStepBoundary
  exact (fr_iteA (by
    extract_lets +onlyGivenNames x0_
    have h0_ : Fr F z x0_ := (fr_frc hz (al hu rfl))
    try clear_value x0_
    revert x0_
    refine fr_id ?_
    intro x0_ h0_
    extract_lets +onlyGivenNames x1_
    exact (fr_iteA (by
      extract_lets +onlyGivenNames x2_
      have h2_ : Fr F z x2_ := (fr_foldl (fun _ _ h3_ => (fr_ite (State.axBoundary_frame _ _ _ (sub hu rfl) (State.axLossSet_frame _ _ _ (sub hu rfl) h3_))
      h3_))
      h0_)
      try clear_value x2_
      revert x2_
      refine fr_id ?_
      intro x2_ h2_
      exact (frA_next (fr_ite (State.banSend_frame _ _ _ (sub hu rfl) h2_)
      h2_)))
    (frA_next h0_)))
  (frA_next hz))

theorem State.axFollow_frame {F : Place → Bool} {z : State} (s : State) (a : Nat) (count : Option (BitVec 48)) (loss : Bool) (bad : Bool)
    (hu : Al F [.gb, .axes, .regs, .free, .gates]) (hz : Fr F z s) :
    Fr F z (State.axFollow s a count loss bad) := by
  unfold State.axFollow
  exact (fr_ite hz
  (by
    extract_lets +onlyGivenNames x0_
    extract_lets +onlyGivenNames x1_
    have h1_ : Fr F z x1_ := (State.setAxis_frame _ _ _ (sub hu rfl) hz)
    try clear_value x1_
    revert x1_
    refine fr_id ?_
    intro x1_ h1_
    exact (State.axBoundary_frame _ _ _ (sub hu rfl) (State.axLossSet_frame _ _ _ (sub hu rfl) h1_))))

theorem State.countsTake_frame {F : Place → Bool} {z : State} (s : State) (counts : List (Option (BitVec 48))) (loss : BitVec 8) (bad : BitVec 8)
    (hu : Al F [.gb, .axes, .regs, .free, .gates, .frc]) (hz : Fr F z s) :
    Fr F z (State.countsTake s counts loss bad) := by
  unfold State.countsTake
  exact (fr_ite (by
    extract_lets +onlyGivenNames x0_
    have h0_ : Fr F z x0_ := (fr_frc hz (al hu rfl))
    try clear_value x0_
    revert x0_
    refine fr_id ?_
    intro x0_ h0_
    exact (fr_foldl (fun _ _ h1_ => (State.axFollow_frame _ _ _ _ _ (sub hu rfl) h1_))
    h0_))
  hz)

end Sys2Proof.Machine
end

