-- ==== Sys2Proof/Laws/FrameGuestbook.lean ====
section
/-!
SUPPORT. What the operations of Machine/Guestbook.lean may change (Laws/Frames.lean).
-/
namespace Sys2Proof.Machine

theorem State.setGbGained_frame {F : Place → Bool} {z : State} (s : State) (c : Nat) (at_ : Nat)
    (hu : Al F [.gb]) (hz : Fr F z s) :
    Fr F z (State.setGbGained s c at_) := by
  unfold State.setGbGained
  exact (fr_gb hz (al hu rfl))

theorem State.gbAdvance_frame {F : Place → Bool} {z : State} (s : State)
    (hu : Al F [.regs]) (hz : Fr F z s) :
    Fr F z (State.gbAdvance s) := by
  unfold State.gbAdvance
  extract_lets +onlyGivenNames x0_
  extract_lets +onlyGivenNames x1_
  have h1_ : Fr F z x1_ := (State.wr_frame _ _ _ (sub hu rfl) hz)
  try clear_value x1_
  revert x1_
  refine fr_id ?_
  intro x1_ h1_
  exact (fr_ite (State.wr_frame _ _ _ (sub hu rfl) (State.wr_frame _ _ _ (sub hu rfl) h1_))
  h1_)

theorem State.gbCursorWrite_frame {F : Place → Bool} {z : State} (s : State) (m : Master) (value : Nat)
    (hu : Al F [.gb]) (hz : Fr F z s) :
    Fr F z (State.gbCursorWrite s m value) := by
  unfold State.gbCursorWrite
  exact (fr_gb hz (al hu rfl))

theorem State.setGbTokens_frame {F : Place → Bool} {z : State} (s : State) (c : Nat) (n : Nat)
    (hu : Al F [.gb, .regs]) (hz : Fr F z s) :
    Fr F z (State.setGbTokens s c n) := by
  unfold State.setGbTokens
  exact (fr_ite (State.wr_frame _ _ _ (sub hu rfl) hz)
  (fr_gb hz (al hu rfl)))

theorem State.gbWrite_frame {F : Place → Bool} {z : State} (s : State) (r : GbRec)
    (hu : Al F [.gb, .regs]) (hz : Fr F z s) :
    Fr F z (State.gbWrite s r) := by
  unfold State.gbWrite
  exact (fr_ite (by
    extract_lets +onlyGivenNames x0_
    have h0_ : Fr F z x0_ := (fr_ite hz
    (State.wr_frame _ _ _ (sub hu rfl) hz))
    try clear_value x0_
    revert x0_
    refine fr_id ?_
    intro x0_ h0_
    exact (State.bump_frame _ _ (sub hu rfl) h0_))
  (by
    extract_lets +onlyGivenNames x1_
    extract_lets +onlyGivenNames x2_
    extract_lets +onlyGivenNames x3_
    extract_lets +onlyGivenNames x4_
    have h4_ : Fr F z x4_ := (State.gbAdvance_frame _ (sub hu rfl) hz)
    try clear_value x4_
    revert x4_
    refine fr_id ?_
    intro x4_ h4_
    extract_lets +onlyGivenNames x5_
    have h5_ : Fr F z x5_ := (fr_ite (State.wr_frame _ _ _ (sub hu rfl) h4_)
    h4_)
    try clear_value x5_
    revert x5_
    refine fr_id ?_
    intro x5_ h5_
    extract_lets +onlyGivenNames x6_
    have h6_ : Fr F z x6_ := (State.wr_frame _ _ _ (sub hu rfl) h5_)
    try clear_value x6_
    revert x6_
    refine fr_id ?_
    intro x6_ h6_
    exact (fr_gb h6_ (al hu rfl))))

theorem execGbRecordWrite_frame {F : Place → Bool} {z : State} (cut : Bool) (s : State)
    (hu : Al F [.gb, .regs, .frc]) (hz : Fr F z s) :
    FrA F z (execGbRecordWrite cut s) := by
  unfold execGbRecordWrite
  exact (by
    split
    · exact (frA_next hz)
    · extract_lets +onlyGivenNames x0_
      extract_lets +onlyGivenNames x1_
      have h1_ : Fr F z x1_ := (by
        intro p hp
        cases p
        case gb => exact fr_no (al hu rfl) hp
        case frc => exact fr_no (al hu rfl) hp
        all_goals exact fr_eq (hz _ hp) rfl)
      try clear_value x1_
      revert x1_
      refine fr_id ?_
      intro x1_ h1_
      exact (frA_next (fr_ite (State.gbAdvance_frame _ (sub hu rfl) h1_)
      (State.gbWrite_frame _ _ (sub hu rfl) h1_))))

theorem State.gbEmpty_frame {F : Place → Bool} {z : State} (s : State)
    (hu : Al F [.gb, .regs]) (hz : Fr F z s) :
    Fr F z (State.gbEmpty s) := by
  unfold State.gbEmpty
  extract_lets +onlyGivenNames x0_
  extract_lets +onlyGivenNames x1_
  have h1_ : Fr F z x1_ := by
    subst x1_
    exact (by
      split
      · exact (State.gbWrite_frame _ _ (sub hu rfl) (fr_gb hz (al hu rfl)))
      · exact hz)
  try clear_value x1_
  revert x1_
  refine fr_id ?_
  intro x1_ h1_
  extract_lets +onlyGivenNames x2_
  extract_lets +onlyGivenNames x3_
  extract_lets +onlyGivenNames x4_
  have h4_ : Fr F z x4_ := (State.wr_frame _ _ _ (sub hu rfl) (State.wr_frame _ _ _ (sub hu rfl) (State.wr_frame _ _ _ (sub hu rfl) h1_)))
  try clear_value x4_
  revert x4_
  refine fr_id ?_
  intro x4_ h4_
  extract_lets +onlyGivenNames x5_
  have h5_ : Fr F z x5_ := (fr_ite h4_
  (State.wr_frame _ _ _ (sub hu rfl) h4_))
  try clear_value x5_
  revert x5_
  refine fr_id ?_
  intro x5_ h5_
  exact (fr_gb h5_ (al hu rfl))

theorem State.gbNeed_frame {F : Place → Bool} {z : State} (s : State) (r : GbRec)
    (hu : Al F [.gb, .regs]) (hz : Fr F z s) :
    Fr F z (State.gbNeed s r) := by
  unfold State.gbNeed
  exact (fr_ite (State.bump_frame _ _ (sub hu rfl) (fr_ite hz
  (State.wr_frame _ _ _ (sub hu rfl) hz)))
  (fr_ite (fr_gb hz (al hu rfl))
  (by
    extract_lets +onlyGivenNames x0_
    have h0_ : Fr F z x0_ := (State.bump_frame _ _ (sub hu rfl) (State.wr_frame _ _ _ (sub hu rfl) (State.wr_frame _ _ _ (sub hu rfl) hz)))
    try clear_value x0_
    revert x0_
    refine fr_id ?_
    intro x0_ h0_
    extract_lets +onlyGivenNames x1_
    exact (fr_gb h0_ (al hu rfl)))))

theorem State.gbFillBuckets_frame {F : Place → Bool} {z : State} (s : State)
    (hu : Al F [.gb, .regs]) (hz : Fr F z s) :
    Fr F z (State.gbFillBuckets s) := by
  unfold State.gbFillBuckets
  exact (fr_foldl (fun _ _ h0_ => (State.setGbTokens_frame _ _ _ (sub hu rfl) h0_))
  hz)

theorem State.gbTake_frame {F : Place → Bool} {z : State} (s : State) (c : Nat)
    (hu : Al F [.gb, .regs]) (hz : Fr F z s) :
    Fr F z (State.gbTake s c) := by
  unfold State.gbTake
  extract_lets +onlyGivenNames x0_
  have h0_ : Fr F z x0_ := (State.setGbTokens_frame _ _ _ (sub hu rfl) hz)
  try clear_value x0_
  revert x0_
  refine fr_id ?_
  intro x0_ h0_
  exact (fr_ite h0_
  (State.setGbGained_frame _ _ _ (sub hu rfl) h0_))

theorem State.gbGain_frame {F : Place → Bool} {z : State} (s : State) (c : Nat)
    (hu : Al F [.gb, .regs]) (hz : Fr F z s) :
    Fr F z (State.gbGain s c) := by
  unfold State.gbGain
  exact (fr_ite hz
  (by
    extract_lets +onlyGivenNames x0_
    extract_lets +onlyGivenNames x1_
    exact (State.setGbGained_frame _ _ _ (sub hu rfl) (State.setGbTokens_frame _ _ _ (sub hu rfl) hz))))

theorem execGbClearComplete_frame {F : Place → Bool} {z : State} (s : State)
    (hu : Al F [.gb, .regs]) (hz : Fr F z s) :
    FrA F z (execGbClearComplete s) := by
  unfold execGbClearComplete
  exact (by
    split
    · exact (frA_next hz)
    · extract_lets +onlyGivenNames x0_
      extract_lets +onlyGivenNames x1_
      extract_lets +onlyGivenNames x2_
      have h2_ : Fr F z x2_ := (fr_gb hz (al hu rfl))
      try clear_value x2_
      revert x2_
      refine fr_id ?_
      intro x2_ h2_
      extract_lets +onlyGivenNames x3_
      have h3_ : Fr F z x3_ := (State.gbWrite_frame _ _ (sub hu rfl) h2_)
      try clear_value x3_
      revert x3_
      refine fr_id ?_
      intro x3_ h3_
      exact (frA_next (State.gbWrite_frame _ _ (sub hu rfl) h3_)))

theorem State.gbRate_frame {F : Place → Bool} {z : State} (s : State) (e : GbEvent)
    (hu : Al F [.gb, .regs]) (hz : Fr F z s) :
    Fr F z (State.gbRate s e) := by
  unfold State.gbRate
  extract_lets +onlyGivenNames x0_
  extract_lets +onlyGivenNames x1_
  have h1_ : Fr F z x1_ := (State.gbGain_frame _ _ (sub hu rfl) hz)
  try clear_value x1_
  revert x1_
  refine fr_id ?_
  intro x1_ h1_
  exact (fr_ite (State.gbNeed_frame _ _ (sub hu rfl) (State.gbTake_frame _ _ (sub hu rfl) h1_))
  (State.gbSuppress_frame _ _ (sub hu rfl) h1_))

theorem State.gbClearCmd_frame {F : Place → Bool} {z : State} (s : State)
    (hu : Al F [.gb, .regs]) (hz : Fr F z s) :
    Fr F z (State.gbClearCmd s) := by
  unfold State.gbClearCmd
  exact (fr_ite (State.cmdStat_frame _ _ _ _ (sub hu rfl) hz)
  (fr_ite (State.cmdStat_frame _ _ _ _ (sub hu rfl) hz)
  (State.gbEmpty_frame _ (sub hu rfl) (State.cmdStat_frame _ _ _ _ (sub hu rfl) hz))))

theorem execGbTokenRefill_frame {F : Place → Bool} {z : State} (cls : Fin 33) (s : State)
    (hu : Al F [.gb, .regs, .frc]) (hz : Fr F z s) :
    FrA F z (execGbTokenRefill cls s) := by
  unfold execGbTokenRefill
  exact (fr_iteA (by
    extract_lets +onlyGivenNames x0_
    exact (frA_next (State.gbGain_frame _ _ (sub hu rfl) (fr_frc hz (al hu rfl)))))
  (frA_next hz))

theorem execGbEvent_frame {F : Place → Bool} {z : State} (s : State)
    (hu : Al F [.gb, .regs]) (hz : Fr F z s) :
    FrA F z (execGbEvent s) := by
  unfold execGbEvent
  exact (fr_iteA (frA_next hz)
  (by
    split
    · exact (frA_next (State.gbNeed_frame _ _ (sub hu rfl) (fr_gb hz (al hu rfl))))
    · extract_lets +onlyGivenNames x0_
      extract_lets +onlyGivenNames x1_
      have h1_ : Fr F z x1_ := (fr_gb hz (al hu rfl))
      try clear_value x1_
      revert x1_
      refine fr_id ?_
      intro x1_ h1_
      exact (by
        split
        · exact (frA_next (fr_gb h1_ (al hu rfl)))
        · exact (frA_next (State.gbRate_frame _ _ (sub hu rfl) h1_)))
    · exact (frA_next hz)))

theorem State.gbCmdWrite_frame {F : Place → Bool} {z : State} (s : State) (value : Nat)
    (hu : Al F [.gb, .regs]) (hz : Fr F z s) :
    Fr F z (State.gbCmdWrite s value) := by
  unfold State.gbCmdWrite
  exact (fr_ite (State.gbClearCmd_frame _ (sub hu rfl) hz)
  hz)

theorem execGbCursorWrite_frame {F : Place → Bool} {z : State} (m : Master) (value : Word) (s : State)
    (hu : Al F [.gb, .regs, .resp, .gates]) (hz : Fr F z s) :
    FrA F z (execGbCursorWrite m value s) := by
  unfold execGbCursorWrite
  exact (frA_next (State.access_frame _ _ _ _ _ _ (sub hu rfl) hz (fun _ h0_ => (State.gbCursorWrite_frame _ _ _ (sub hu rfl) h0_))))

theorem execGbClear_frame {F : Place → Bool} {z : State} (m : Master) (s : State)
    (hu : Al F [.gb, .regs, .resp, .gates]) (hz : Fr F z s) :
    FrA F z (execGbClear m s) := by
  unfold execGbClear
  exact (frA_next (State.access_frame _ _ _ _ _ _ (sub hu rfl) hz (fun _ h0_ => (State.gbCmdWrite_frame _ _ (sub hu rfl) h0_))))

end Sys2Proof.Machine
end

