-- ==== Sys2Proof/Laws/FrameComm.lean ====
section
/-!
SUPPORT. What the operations of Machine/Comm.lean may change (Laws/Frames.lean).
-/
namespace Sys2Proof.Machine

theorem State.headWait_frame {F : Place → Bool} {z : State} (s : State) (q : Nat)
    (hu : Al F [.frc]) (hz : Fr F z s) :
    Fr F z (State.headWait s q) := by
  unfold State.headWait
  exact (fr_frc hz (al hu rfl))

theorem State.setRxCount_frame {F : Place → Bool} {z : State} (s : State) (q : Nat) (c : RxCount)
    (hu : Al F [.rx]) (hz : Fr F z s) :
    Fr F z (State.setRxCount s q c) := by
  unfold State.setRxCount
  exact (fr_rx hz (al hu rfl))

theorem State.setEthPort_frame {F : Place → Bool} {z : State} (s : State) (p : Nat) (x : EthPort)
    (hu : Al F [.eth]) (hz : Fr F z s) :
    Fr F z (State.setEthPort s p x) := by
  unfold State.setEthPort
  exact (fr_eth hz (al hu rfl))

theorem State.ethHand_frame {F : Place → Bool} {z : State} (s : State) (p : Nat) (cls : Nat) (frame : List Byte)
    (hu : Al F [.eth]) (hz : Fr F z s) :
    Fr F z (State.ethHand s p cls frame) := by
  unfold State.ethHand
  extract_lets +onlyGivenNames x0_
  exact (fr_ite hz
  (fr_ite (State.setEthPort_frame _ _ _ (sub hu rfl) hz)
  (State.setEthPort_frame _ _ _ (sub hu rfl) hz)))

theorem State.txDone_frame {F : Place → Bool} {z : State} (s : State) (q : Nat) (off : Nat) (done : List Byte)
    (hu : Al F [.ban, .regs, .mem, .gates, .heads]) (hz : Fr F z s) :
    Fr F z (State.txDone s q off done) := by
  unfold State.txDone
  extract_lets +onlyGivenNames x0_
  have h0_ : Fr F z x0_ := (State.setBytes_frame _ _ _ (sub hu rfl) (fr_heads hz (al hu rfl)))
  try clear_value x0_
  revert x0_
  refine fr_id ?_
  intro x0_ h0_
  exact (fr_ite (State.queDiSet_frame _ _ _ (sub hu rfl) h0_)
  (State.wr_frame _ _ _ (sub hu rfl) h0_))

end Sys2Proof.Machine
end

