-- ==== Sys2Proof/Laws/FrameCan.lean ====
section
/-!
SUPPORT. What the operations of Machine/Can.lean may change (Laws/Frames.lean).
-/
namespace Sys2Proof.Machine

theorem State.setCanCh_frame {F : Place → Bool} {z : State} (s : State) (c : Nat) (x : CanChan)
    (hu : Al F [.can]) (hz : Fr F z s) :
    Fr F z (State.setCanCh s c x) := by
  unfold State.setCanCh
  exact (fr_can hz (al hu rfl))

theorem State.canRealign_frame {F : Place → Bool} {z : State} (s : State)
    (hu : Al F [.regs]) (hz : Fr F z s) :
    Fr F z (State.canRealign s) := by
  unfold State.canRealign
  exact (fr_foldl (fun _ _ h0_ => (State.wr_frame _ _ _ (sub hu rfl) h0_))
  hz)

theorem State.canRecGood_frame {F : Place → Bool} {z : State} (s : State) (c : Nat)
    (hu : Al F [.regs]) (hz : Fr F z s) :
    Fr F z (State.canRecGood s c) := by
  unfold State.canRecGood
  extract_lets +onlyGivenNames x0_
  exact (State.wr_frame _ _ _ (sub hu rfl) hz)

theorem State.canLaunch_frame {F : Place → Bool} {z : State} (s : State) (c : Nat) (q : Nat) (window : Bool)
    (hu : Al F [.can]) (hz : Fr F z s) :
    Fr F z (State.canLaunch s c q window) := by
  unfold State.canLaunch
  extract_lets +onlyGivenNames x0_
  extract_lets +onlyGivenNames x1_
  exact (State.setCanCh_frame _ _ _ (sub hu rfl) hz)

theorem State.canToWindow_frame {F : Place → Bool} {z : State} (s : State) (c : Nat) (basic : Nat) (win : Nat)
    (hu : Al F [.frc]) (hz : Fr F z s) :
    Fr F z (State.canToWindow s c basic win) := by
  unfold State.canToWindow
  extract_lets +onlyGivenNames x0_
  extract_lets +onlyGivenNames x1_
  exact (fr_ite hz
  (by
    extract_lets +onlyGivenNames x2_
    extract_lets +onlyGivenNames x3_
    exact (State.waitClass_frame _ _ _ (sub hu rfl) hz)))

theorem State.canHpSlotSet_frame {F : Place → Bool} {z : State} (s : State) (c : Nat) (slot : Nat) (e : List Byte)
    (hu : Al F [.regs]) (hz : Fr F z s) :
    Fr F z (State.canHpSlotSet s c slot e) := by
  unfold State.canHpSlotSet
  exact (fr_foldl (fun _ _ h0_ => (State.wr_frame _ _ _ (sub hu rfl) h0_))
  hz)

theorem State.canShowWindow_frame {F : Place → Bool} {z : State} (s : State) (c : Nat) (basic : Nat) (win : Nat)
    (hu : Al F [.regs]) (hz : Fr F z s) :
    Fr F z (State.canShowWindow s c basic win) := by
  unfold State.canShowWindow
  exact (State.wr_frame _ _ _ (sub hu rfl) (State.wr_frame _ _ _ (sub hu rfl) (State.wr_frame _ _ _ (sub hu rfl) hz)))

theorem State.canTiming_frame {F : Place → Bool} {z : State} (s : State) (c : Nat)
    (hu : Al F [.regs]) (hz : Fr F z s) :
    Fr F z (State.canTiming s c) := by
  unfold State.canTiming
  extract_lets +onlyGivenNames x0_
  have h0_ : Fr F z x0_ := by
    subst x0_
    exact (by
      split
      · extract_lets +onlyGivenNames x1_
        exact (State.wr_frame _ _ _ (sub hu rfl) (State.wr_frame _ _ _ (sub hu rfl) (State.wr_frame _ _ _ (sub hu rfl) (State.wr_frame _ _ _ (sub hu rfl) hz))))
      · exact hz)
  try clear_value x0_
  revert x0_
  refine fr_id ?_
  intro x0_ h0_
  exact (fr_ite (by
    split
    · extract_lets +onlyGivenNames x2_
      exact (State.wr_frame _ _ _ (sub hu rfl) (State.wr_frame _ _ _ (sub hu rfl) (State.wr_frame _ _ _ (sub hu rfl) (State.wr_frame _ _ _ (sub hu rfl) (State.wr_frame _ _ _ (sub hu rfl) h0_)))))
    · exact h0_)
  h0_)

theorem State.setCanState_frame {F : Place → Bool} {z : State} (s : State) (c : Nat) (st : Nat)
    (hu : Al F [.regs]) (hz : Fr F z s) :
    Fr F z (State.setCanState s c st) := by
  unfold State.setCanState
  extract_lets +onlyGivenNames x0_
  have h0_ : Fr F z x0_ := (State.wr_frame _ _ _ (sub hu rfl) hz)
  try clear_value x0_
  revert x0_
  refine fr_id ?_
  intro x0_ h0_
  extract_lets +onlyGivenNames x1_
  have h1_ : Fr F z x1_ := (State.wr_frame _ _ _ (sub hu rfl) h0_)
  try clear_value x1_
  revert x1_
  refine fr_id ?_
  intro x1_ h1_
  exact (State.wr_frame _ _ _ (sub hu rfl) h1_)

theorem State.canCommit_frame {F : Place → Bool} {z : State} (s : State) (task : Nat)
    (hu : Al F [.can]) (hz : Fr F z s) :
    Fr F z (State.canCommit s task) := by
  unfold State.canCommit
  exact (fr_foldl (fun _ _ h0_ => (fr_ite (State.setCanCh_frame _ _ _ (sub hu rfl) h0_)
  h0_))
  hz)

theorem State.canHpPush_frame {F : Place → Bool} {z : State} (s : State) (c : Nat) (e : List Byte)
    (hu : Al F [.regs]) (hz : Fr F z s) :
    Fr F z (State.canHpPush s c e) := by
  unfold State.canHpPush
  extract_lets +onlyGivenNames x0_
  extract_lets +onlyGivenNames x1_
  have h1_ : Fr F z x1_ := (State.canHpSlotSet_frame _ _ _ _ (sub hu rfl) hz)
  try clear_value x1_
  revert x1_
  refine fr_id ?_
  intro x1_ h1_
  exact (State.wr_frame _ _ _ (sub hu rfl) (State.wr_frame _ _ _ (sub hu rfl) h1_))

theorem State.canAtK_frame {F : Place → Bool} {z : State} (s : State) (c : Nat)
    (hu : Al F [.regs, .can]) (hz : Fr F z s) :
    Fr F z (State.canAtK s c) := by
  unfold State.canAtK
  exact (fr_ite (fr_ite (State.setCanState_frame _ _ _ (sub hu rfl) hz)
  (State.setCanState_frame _ _ _ (sub hu rfl) (State.setCanCh_frame _ _ _ (sub hu rfl) hz)))
  hz)

theorem State.canLock_frame {F : Place → Bool} {z : State} (s : State) (c : Nat)
    (hu : Al F [.regs, .can]) (hz : Fr F z s) :
    Fr F z (State.canLock s c) := by
  unfold State.canLock
  extract_lets +onlyGivenNames x0_
  have h0_ : Fr F z x0_ := (State.setCanCh_frame _ _ _ (sub hu rfl) hz)
  try clear_value x0_
  revert x0_
  refine fr_id ?_
  intro x0_ h0_
  exact (fr_ite (State.setCanState_frame _ _ _ (sub hu rfl) h0_)
  (by
    extract_lets +onlyGivenNames x1_
    have h1_ : Fr F z x1_ := (State.canTiming_frame _ _ (sub hu rfl) h0_)
    try clear_value x1_
    revert x1_
    refine fr_id ?_
    intro x1_ h1_
    exact (fr_ite (State.setCanState_frame _ _ _ (sub hu rfl) h1_)
    (fr_ite (State.setCanState_frame _ _ _ (sub hu rfl) h1_)
    (State.setCanState_frame _ _ _ (sub hu rfl) h1_)))))

theorem State.canHpAck_frame {F : Place → Bool} {z : State} (s : State) (c : Nat) (value : Nat)
    (hu : Al F [.regs]) (hz : Fr F z s) :
    Fr F z (State.canHpAck s c value) := by
  unfold State.canHpAck
  extract_lets +onlyGivenNames x0_
  exact (fr_ite (by
    extract_lets +onlyGivenNames x1_
    have h1_ : Fr F z x1_ := (State.wr_frame _ _ _ (sub hu rfl) hz)
    try clear_value x1_
    revert x1_
    refine fr_id ?_
    intro x1_ h1_
    exact (State.wrB_frame _ _ _ (sub hu rfl) (State.wr_frame _ _ _ (sub hu rfl) h1_)))
  hz)

theorem State.canClearCounts_frame {F : Place → Bool} {z : State} (s : State) (c : Nat)
    (hu : Al F [.regs]) (hz : Fr F z s) :
    Fr F z (State.canClearCounts s c) := by
  unfold State.canClearCounts
  exact (State.wr_frame _ _ _ (sub hu rfl) (State.wr_frame _ _ _ (sub hu rfl) (State.wr_frame _ _ _ (sub hu rfl) (State.wr_frame _ _ _ (sub hu rfl) hz))))

theorem State.canToMonitor_frame {F : Place → Bool} {z : State} (s : State) (c : Nat)
    (hu : Al F [.regs]) (hz : Fr F z s) :
    Fr F z (State.canToMonitor s c) := by
  unfold State.canToMonitor
  exact (fr_ite hz
  (State.setCanState_frame _ _ _ (sub hu rfl) hz))

theorem State.canHpRelease_frame {F : Place → Bool} {z : State} (s : State) (c : Nat)
    (hu : Al F [.regs, .can]) (hz : Fr F z s) :
    Fr F z (State.canHpRelease s c) := by
  unfold State.canHpRelease
  extract_lets +onlyGivenNames x0_
  extract_lets +onlyGivenNames x1_
  exact (fr_foldl (fun _ _ h2_ => (State.canHpPush_frame _ _ _ (sub hu rfl) h2_))
  (State.setCanCh_frame _ _ _ (sub hu rfl) hz))

theorem State.canCmdWrite_frame {F : Place → Bool} {z : State} (s : State) (c : Nat) (value : Nat)
    (hu : Al F [.regs, .can]) (hz : Fr F z s) :
    Fr F z (State.canCmdWrite s c value) := by
  unfold State.canCmdWrite
  extract_lets +onlyGivenNames x0_
  extract_lets +onlyGivenNames x1_
  exact (fr_ite hz
  (fr_ite (State.cmdStat_frame _ _ _ _ (sub hu rfl) hz)
  (fr_ite (State.canClearCounts_frame _ _ (sub hu rfl) (State.cmdStat_frame _ _ _ _ (sub hu rfl) hz))
  (fr_ite (State.setCanState_frame _ _ _ (sub hu rfl) (State.setCanCh_frame _ _ _ (sub hu rfl) (State.cmdStat_frame _ _ _ _ (sub hu rfl) hz)))
  (State.cmdStat_frame _ _ _ _ (sub hu rfl) hz)))))

theorem State.canErrState_frame {F : Place → Bool} {z : State} (s : State) (c : Nat)
    (hu : Al F [.gb, .regs, .gates]) (hz : Fr F z s) :
    Fr F z (State.canErrState s c) := by
  unfold State.canErrState
  exact (fr_ite hz
  (by
    extract_lets +onlyGivenNames x0_
    extract_lets +onlyGivenNames x1_
    extract_lets +onlyGivenNames x2_
    have h2_ : Fr F z x2_ := (State.wrB_frame _ _ _ (sub hu rfl) hz)
    try clear_value x2_
    revert x2_
    refine fr_id ?_
    intro x2_ h2_
    exact (fr_ite (State.post_frame _ _ _ _ _ _ (sub hu rfl) h2_)
    h2_)))

theorem execCanChannelActive_frame {F : Place → Bool} {z : State} (c : Fin 8) (s : State)
    (hu : Al F [.gb, .regs, .can, .gates, .frc]) (hz : Fr F z s) :
    FrA F z (execCanChannelActive c s) := by
  unfold execCanChannelActive
  exact (fr_iteA (by
    extract_lets +onlyGivenNames x0_
    extract_lets +onlyGivenNames x1_
    have h1_ : Fr F z x1_ := (fr_ite hz
    (fr_frc hz (al hu rfl)))
    try clear_value x1_
    revert x1_
    refine fr_id ?_
    intro x1_ h1_
    extract_lets +onlyGivenNames x2_
    have h2_ : Fr F z x2_ := (State.setCanCh_frame _ _ _ (sub hu rfl) (State.setCanState_frame _ _ _ (sub hu rfl) h1_))
    try clear_value x2_
    revert x2_
    refine fr_id ?_
    intro x2_ h2_
    exact (frA_next (fr_ite h2_
    (State.post_frame _ _ _ _ _ _ (sub hu rfl) h2_))))
  (frA_next hz))

theorem execCanRecovered_frame {F : Place → Bool} {z : State} (c : Fin 8) (s : State)
    (hu : Al F [.gb, .regs, .gates, .frc]) (hz : Fr F z s) :
    FrA F z (execCanRecovered c s) := by
  unfold execCanRecovered
  exact (fr_iteA (by
    extract_lets +onlyGivenNames x0_
    have h0_ : Fr F z x0_ := (fr_frc hz (al hu rfl))
    try clear_value x0_
    revert x0_
    refine fr_id ?_
    intro x0_ h0_
    extract_lets +onlyGivenNames x1_
    have h1_ : Fr F z x1_ := (State.setCanState_frame _ _ _ (sub hu rfl) h0_)
    try clear_value x1_
    revert x1_
    refine fr_id ?_
    intro x1_ h1_
    extract_lets +onlyGivenNames x2_
    have h2_ : Fr F z x2_ := (State.wr_frame _ _ _ (sub hu rfl) (State.wr_frame _ _ _ (sub hu rfl) (State.wr_frame _ _ _ (sub hu rfl) h1_)))
    try clear_value x2_
    revert x2_
    refine fr_id ?_
    intro x2_ h2_
    exact (frA_next (State.post_frame _ _ _ _ _ _ (sub hu rfl) h2_)))
  (frA_next hz))

theorem State.canHpTake_frame {F : Place → Bool} {z : State} (s : State) (c : Nat) (filter : Nat) (x : CanFrame)
    (hu : Al F [.ban, .gb, .regs, .can, .gates]) (hz : Fr F z s) :
    Fr F z (State.canHpTake s c filter x) := by
  unfold State.canHpTake
  extract_lets +onlyGivenNames x0_
  exact (fr_ite (by
    extract_lets +onlyGivenNames x1_
    have h1_ : Fr F z x1_ := (State.bump_frame _ _ (sub hu rfl) hz)
    try clear_value x1_
    revert x1_
    refine fr_id ?_
    intro x1_ h1_
    exact (State.post_frame _ _ _ _ _ _ (sub hu rfl) h1_))
  (by
    extract_lets +onlyGivenNames x2_
    extract_lets +onlyGivenNames x3_
    have h3_ : Fr F z x3_ := (State.setCanCh_frame _ _ _ (sub hu rfl) hz)
    try clear_value x3_
    revert x3_
    refine fr_id ?_
    intro x3_ h3_
    exact (fr_ite (State.rxMirror_frame _ _ _ _ _ (sub hu rfl) (State.setCanCh_frame _ _ _ (sub hu rfl) h3_))
    (State.rxMirror_frame _ _ _ _ _ (sub hu rfl) (State.canHpPush_frame _ _ _ (sub hu rfl) h3_)))))

theorem State.canFilterWrite_frame {F : Place → Bool} {z : State} (s : State) (m : Master) (c : Nat) (f : Nat) (which : CanFlt) (value : Nat)
    (hu : Al F [.ban, .gb, .regs, .can, .gates]) (hz : Fr F z s) :
    Fr F z (State.canFilterWrite s m c f which value) := by
  unfold State.canFilterWrite
  exact (fr_ite hz
  (by
    extract_lets +onlyGivenNames x0_
    extract_lets +onlyGivenNames x1_
    extract_lets +onlyGivenNames x2_
    extract_lets +onlyGivenNames x3_
    extract_lets +onlyGivenNames x4_
    have h4_ : Fr F z x4_ := (State.setCanCh_frame _ _ _ (sub hu rfl) hz)
    try clear_value x4_
    revert x4_
    refine fr_id ?_
    intro x4_ h4_
    extract_lets +onlyGivenNames x5_
    have h5_ : Fr F z x5_ := (State.mirror_frame _ _ _ _ (sub hu rfl) h4_)
    try clear_value x5_
    revert x5_
    refine fr_id ?_
    intro x5_ h5_
    exact (State.post_frame _ _ _ _ _ _ (sub hu rfl) (State.wrMasked_frame _ _ _ _ (sub hu rfl) h5_))))

theorem execCanErrorFrame_frame {F : Place → Bool} {z : State} (c : Fin 8) (kind : CanErr) (s : State)
    (hu : Al F [.gb, .regs, .gates]) (hz : Fr F z s) :
    FrA F z (execCanErrorFrame c kind s) := by
  unfold execCanErrorFrame
  exact (fr_iteA (frA_next hz)
  (by
    extract_lets +onlyGivenNames x0_
    have h0_ : Fr F z x0_ := (State.bump_frame _ _ (sub hu rfl) hz)
    try clear_value x0_
    revert x0_
    refine fr_id ?_
    intro x0_ h0_
    exact (fr_iteA (by
      extract_lets +onlyGivenNames x1_
      have h1_ : Fr F z x1_ := by
        subst x1_
        exact (by
          split
          · exact (State.bumpBy_frame _ _ _ (sub hu rfl) h0_)
          · exact (State.bump_frame _ _ (sub hu rfl) h0_)
          · exact (State.bumpBy_frame _ _ _ (sub hu rfl) h0_))
      try clear_value x1_
      revert x1_
      refine fr_id ?_
      intro x1_ h1_
      exact (frA_next (State.canErrState_frame _ _ (sub hu rfl) h1_)))
    (frA_next h0_))))

theorem execCanHpAck_frame {F : Place → Bool} {z : State} (m : Master) (c : Fin 8) (value : Word) (s : State)
    (hu : Al F [.gb, .regs, .resp, .gates]) (hz : Fr F z s) :
    FrA F z (execCanHpAck m c value s) := by
  unfold execCanHpAck
  exact (frA_next (State.access_frame _ _ _ _ _ _ (sub hu rfl) hz (fun _ h0_ => (State.canHpAck_frame _ _ _ (sub hu rfl) h0_))))

theorem execCanFilterWrite_frame {F : Place → Bool} {z : State} (m : Master) (c : Fin 8) (f : Fin 64) (which : CanFlt) (value : Word) (s : State)
    (hu : Al F [.ban, .gb, .regs, .can, .resp, .gates]) (hz : Fr F z s) :
    FrA F z (execCanFilterWrite m c f which value s) := by
  unfold execCanFilterWrite
  extract_lets +onlyGivenNames x0_
  exact (frA_next (State.access_frame _ _ _ _ _ _ (sub hu rfl) hz (fun _ h1_ => (State.canFilterWrite_frame _ _ _ _ _ _ (sub hu rfl) h1_))))

theorem execCanClearCounts_frame {F : Place → Bool} {z : State} (m : Master) (c : Fin 8) (s : State)
    (hu : Al F [.gb, .regs, .can, .resp, .gates]) (hz : Fr F z s) :
    FrA F z (execCanClearCounts m c s) := by
  unfold execCanClearCounts
  exact (frA_next (State.access_frame _ _ _ _ _ _ (sub hu rfl) hz (fun _ h0_ => (State.canCmdWrite_frame _ _ _ (sub hu rfl) h0_))))

theorem execCanBusOn_frame {F : Place → Bool} {z : State} (m : Master) (c : Fin 8) (s : State)
    (hu : Al F [.gb, .regs, .can, .resp, .gates]) (hz : Fr F z s) :
    FrA F z (execCanBusOn m c s) := by
  unfold execCanBusOn
  exact (frA_next (State.access_frame _ _ _ _ _ _ (sub hu rfl) hz (fun _ h0_ => (State.canCmdWrite_frame _ _ _ (sub hu rfl) h0_))))

theorem State.canComplete_frame {F : Place → Bool} {z : State} (s : State) (q : Nat) (status : Nat) (detail : Nat) (attempts : Nat) (stamp : Nat)
    (hu : Al F [.ban, .regs, .free, .mem, .gates, .heads]) (hz : Fr F z s) :
    Fr F z (State.canComplete s q status detail attempts stamp) := by
  unfold State.canComplete
  extract_lets +onlyGivenNames x0_
  extract_lets +onlyGivenNames x1_
  extract_lets +onlyGivenNames x2_
  extract_lets +onlyGivenNames x3_
  have h3_ : Fr F z x3_ := (fr_ite (State.useFree_frame _ (sub hu rfl) hz)
  hz)
  try clear_value x3_
  revert x3_
  refine fr_id ?_
  intro x3_ h3_
  exact (State.txDone_frame _ _ _ _ (sub hu rfl) h3_)

theorem State.canEndFlight_frame {F : Place → Bool} {z : State} (s : State) (c : Nat) (status : Nat) (detail : Nat)
    (hu : Al F [.ban, .regs, .can, .free, .mem, .gates, .heads]) (hz : Fr F z s) :
    Fr F z (State.canEndFlight s c status detail) := by
  unfold State.canEndFlight
  exact (by
    split
    · exact (State.canComplete_frame _ _ _ _ _ _ (sub hu rfl) (State.setCanCh_frame _ _ _ (sub hu rfl) hz))
    · exact hz)

theorem State.canRxTake_frame {F : Place → Bool} {z : State} (s : State) (c : Nat) (filter : Nat) (x : CanFrame)
    (hu : Al F [.ban, .posted, .gb, .regs, .can, .mem, .gates, .heads]) (hz : Fr F z s) :
    Fr F z (State.canRxTake s c filter x) := by
  unfold State.canRxTake
  extract_lets +onlyGivenNames x0_
  extract_lets +onlyGivenNames x1_
  exact (fr_ite (by
    extract_lets +onlyGivenNames x2_
    extract_lets +onlyGivenNames x3_
    have h3_ : Fr F z x3_ := (fr_ite hz
    (State.post_frame _ _ _ _ _ _ (sub hu rfl) hz))
    try clear_value x3_
    revert x3_
    refine fr_id ?_
    intro x3_ h3_
    exact (State.quePush_frame _ _ _ (sub hu rfl) (State.setCanCh_frame _ _ _ (sub hu rfl) h3_)))
  (State.bump_frame _ _ (sub hu rfl) (State.setCanCh_frame _ _ _ (sub hu rfl) hz)))

theorem State.canRefuse_frame {F : Place → Bool} {z : State} (s : State) (c : Nat) (q : Nat) (detail : Nat)
    (hu : Al F [.ban, .gb, .regs, .free, .mem, .gates, .heads]) (hz : Fr F z s) :
    Fr F z (State.canRefuse s c q detail) := by
  unfold State.canRefuse
  extract_lets +onlyGivenNames x0_
  exact (State.post_frame _ _ _ _ _ _ (sub hu rfl) (State.canComplete_frame _ _ _ _ _ _ (sub hu rfl) hz))

theorem execCanTxComplete_frame {F : Place → Bool} {z : State} (c : Fin 8) (how1' : CanEnd) (s : State)
    (hu : Al F [.ban, .gb, .regs, .can, .free, .mem, .gates, .heads]) (hz : Fr F z s) :
    FrA F z (execCanTxComplete c how1' s) := by
  unfold execCanTxComplete
  exact (by
    split
    · exact (frA_next hz)
    · extract_lets +onlyGivenNames x0_
      extract_lets +onlyGivenNames x1_
      extract_lets +onlyGivenNames x2_
      have h2_ : Fr F z x2_ := (State.setCanCh_frame _ _ _ (sub hu rfl) hz)
      try clear_value x2_
      revert x2_
      refine fr_id ?_
      intro x2_ h2_
      extract_lets +onlyGivenNames x3_
      have h3_ : Fr F z x3_ := (State.setCanCh_frame _ _ _ (sub hu rfl) hz)
      try clear_value x3_
      revert x3_
      refine fr_id ?_
      intro x3_ h3_
      extract_lets +onlyGivenNames x4_
      have h4_ : Fr F z x4_ := (fr_ite h3_
      (State.canLaunch_frame _ _ _ _ (sub hu rfl) h3_))
      try clear_value x4_
      revert x4_
      refine fr_id ?_
      intro x4_ h4_
      exact (by
        split
        · extract_lets +onlyGivenNames x5_
          have h5_ : Fr F z x5_ := (State.wr_frame _ _ _ (sub hu rfl) h2_)
          try clear_value x5_
          revert x5_
          refine fr_id ?_
          intro x5_ h5_
          exact (frA_next (State.canComplete_frame _ _ _ _ _ _ (sub hu rfl) (State.canErrState_frame _ _ (sub hu rfl) h5_)))
        · exact (fr_iteA (frA_next (State.canComplete_frame _ _ _ _ _ _ (sub hu rfl) h2_))
          (frA_next h4_))
        · exact (fr_iteA (frA_next (State.canComplete_frame _ _ _ _ _ _ (sub hu rfl) h2_))
          (frA_next h4_))))

theorem execTtWindowStart_frame {F : Place → Bool} {z : State} (c : Fin 8) (basic : Fin 16) (win : Fin 64) (s : State)
    (hu : Al F [.ban, .gb, .regs, .can, .free, .mem, .gates, .frc, .heads]) (hz : Fr F z s) :
    FrA F z (execTtWindowStart c basic win s) := by
  unfold execTtWindowStart
  exact (fr_iteA (by
    extract_lets +onlyGivenNames x0_
    have h0_ : Fr F z x0_ := (State.canShowWindow_frame _ _ _ _ (sub hu rfl) (State.canToWindow_frame _ _ _ _ (sub hu rfl) hz))
    try clear_value x0_
    revert x0_
    refine fr_id ?_
    intro x0_ h0_
    extract_lets +onlyGivenNames x1_
    extract_lets +onlyGivenNames x2_
    exact (fr_iteA (by
      extract_lets +onlyGivenNames x3_
      extract_lets +onlyGivenNames x4_
      exact (fr_iteA (frA_next (State.canRefuse_frame _ _ _ _ (sub hu rfl) h0_))
      (by
        split
        · exact (fr_iteA (frA_next (State.canLaunch_frame _ _ _ _ (sub hu rfl) (State.setCanCh_frame _ _ _ (sub hu rfl) h0_)))
          (frA_next h0_))
        · exact (frA_next h0_))))
    (frA_next h0_)))
  (frA_next hz))

theorem execCanFrameReceive_frame {F : Place → Bool} {z : State} (c : Fin 8) (x : CanFrame) (s : State)
    (hu : Al F [.ban, .posted, .gb, .regs, .can, .mem, .gates, .heads]) (hz : Fr F z s) :
    FrA F z (execCanFrameReceive c x s) := by
  unfold execCanFrameReceive
  extract_lets +onlyGivenNames x0_
  exact (fr_iteA (frA_next hz)
  (by
    extract_lets +onlyGivenNames x1_
    have h1_ : Fr F z x1_ := (State.wake_frame _ _ (sub hu rfl) hz)
    try clear_value x1_
    revert x1_
    refine fr_id ?_
    intro x1_ h1_
    extract_lets +onlyGivenNames x2_
    extract_lets +onlyGivenNames x3_
    have h3_ : Fr F z x3_ := (fr_ite (State.setCanCh_frame _ _ _ (sub hu rfl) h1_)
    h1_)
    try clear_value x3_
    revert x3_
    refine fr_id ?_
    intro x3_ h3_
    extract_lets +onlyGivenNames x4_
    have h4_ : Fr F z x4_ := (fr_ite (State.canErrState_frame _ _ (sub hu rfl) (State.canRecGood_frame _ _ (sub hu rfl) h3_))
    h3_)
    try clear_value x4_
    revert x4_
    refine fr_id ?_
    intro x4_ h4_
    exact (by
      split
      · exact (frA_next (fr_ite (State.canHpTake_frame _ _ _ _ (sub hu rfl) h4_)
        h4_))
      · exact (by
          split
          · exact (frA_next (fr_ite (State.canRxTake_frame _ _ _ _ (sub hu rfl) h4_)
            (fr_ite (State.rxHold_frame _ _ _ (sub hu rfl) h4_)
            h4_)))
          · exact (frA_next (State.bump_frame _ _ (sub hu rfl) h4_))))))

theorem execCanTxStart_frame {F : Place → Bool} {z : State} (c : Fin 8) (which : CanQueue) (s : State)
    (hu : Al F [.ban, .gb, .regs, .can, .free, .mem, .gates, .frc, .heads]) (hz : Fr F z s) :
    FrA F z (execCanTxStart c which s) := by
  unfold execCanTxStart
  extract_lets +onlyGivenNames x0_
  exact (fr_iteA (by
    extract_lets +onlyGivenNames x1_
    have h1_ : Fr F z x1_ := (State.headWait_frame _ _ (sub hu rfl) hz)
    try clear_value x1_
    revert x1_
    refine fr_id ?_
    intro x1_ h1_
    extract_lets +onlyGivenNames x2_
    exact (fr_iteA (frA_next (State.canRefuse_frame _ _ _ _ (sub hu rfl) h1_))
    (by
      split
      · exact (frA_next (fr_ite (State.canLaunch_frame _ _ _ _ (sub hu rfl) h1_)
        h1_))
      · exact (frA_next h1_))))
  (frA_next hz))

theorem execTtWindowMissed_frame {F : Place → Bool} {z : State} (c : Fin 8) (basic : Fin 16) (win : Fin 64) (s : State)
    (hu : Al F [.ban, .gb, .regs, .can, .free, .mem, .gates, .frc, .heads]) (hz : Fr F z s) :
    FrA F z (execTtWindowMissed c basic win s) := by
  unfold execTtWindowMissed
  extract_lets +onlyGivenNames x0_
  extract_lets +onlyGivenNames x1_
  extract_lets +onlyGivenNames x2_
  exact (fr_iteA (by
    extract_lets +onlyGivenNames x3_
    have h3_ : Fr F z x3_ := (State.canShowWindow_frame _ _ _ _ (sub hu rfl) (State.canToWindow_frame _ _ _ _ (sub hu rfl) hz))
    try clear_value x3_
    revert x3_
    refine fr_id ?_
    intro x3_ h3_
    extract_lets +onlyGivenNames x4_
    extract_lets +onlyGivenNames x5_
    have h5_ : Fr F z x5_ := (State.waitClass_frame _ _ _ (sub hu rfl) h3_)
    try clear_value x5_
    revert x5_
    refine fr_id ?_
    intro x5_ h5_
    extract_lets +onlyGivenNames x6_
    extract_lets +onlyGivenNames x7_
    have h7_ : Fr F z x7_ := (State.bump_frame _ _ (sub hu rfl) (State.setCanCh_frame _ _ _ (sub hu rfl) h5_))
    try clear_value x7_
    revert x7_
    refine fr_id ?_
    intro x7_ h7_
    extract_lets +onlyGivenNames x8_
    have h8_ : Fr F z x8_ := (State.post_frame _ _ _ _ _ _ (sub hu rfl) h7_)
    try clear_value x8_
    revert x8_
    refine fr_id ?_
    intro x8_ h8_
    exact (fr_iteA (frA_next (State.canComplete_frame _ _ _ _ _ _ (sub hu rfl) h8_))
    (frA_next h8_)))
  (frA_next hz))

theorem execBusOff_frame {F : Place → Bool} {z : State} (c : Fin 8) (s : State)
    (hu : Al F [.ban, .gb, .regs, .can, .free, .mem, .gates, .heads]) (hz : Fr F z s) :
    FrA F z (execBusOff c s) := by
  unfold execBusOff
  exact (fr_iteA (by
    extract_lets +onlyGivenNames x0_
    extract_lets +onlyGivenNames x1_
    have h1_ : Fr F z x1_ := (State.canEndFlight_frame _ _ _ _ (sub hu rfl) hz)
    try clear_value x1_
    revert x1_
    refine fr_id ?_
    intro x1_ h1_
    extract_lets +onlyGivenNames x2_
    extract_lets +onlyGivenNames x3_
    have h3_ : Fr F z x3_ := (State.setCanCh_frame _ _ _ (sub hu rfl) h1_)
    try clear_value x3_
    revert x3_
    refine fr_id ?_
    intro x3_ h3_
    extract_lets +onlyGivenNames x4_
    have h4_ : Fr F z x4_ := (State.setCanState_frame _ _ _ (sub hu rfl) h3_)
    try clear_value x4_
    revert x4_
    refine fr_id ?_
    intro x4_ h4_
    extract_lets +onlyGivenNames x5_
    have h5_ : Fr F z x5_ := (State.bump_frame _ _ (sub hu rfl) (State.wr_frame _ _ _ (sub hu rfl) h4_))
    try clear_value x5_
    revert x5_
    refine fr_id ?_
    intro x5_ h5_
    exact (frA_next (State.post_frame _ _ _ _ _ _ (sub hu rfl) h5_)))
  (frA_next hz))

end Sys2Proof.Machine
end

