-- ==== Sys2Proof/Laws/FrameTimeUnit.lean ====
section
/-!
SUPPORT. What the operations of Machine/TimeUnit.lean may change (Laws/Frames.lean).
-/
namespace Sys2Proof.Machine

theorem State.ppsSteer_frame {F : Place → Bool} {z : State} (s : State) (interval : Nat)
    (hu : Al F [.tim]) (hz : Fr F z s) :
    Fr F z (State.ppsSteer s interval) := by
  unfold State.ppsSteer
  exact (fr_ite (by
    extract_lets +onlyGivenNames x0_
    extract_lets +onlyGivenNames x1_
    extract_lets +onlyGivenNames x2_
    exact (fr_tim hz (al hu rfl)))
  hz)

theorem State.driftCount_frame {F : Place → Bool} {z : State} (s : State)
    (hu : Al F [.wear, .tim]) (hz : Fr F z s) :
    Fr F z (State.driftCount s) := by
  unfold State.driftCount
  extract_lets +onlyGivenNames x0_
  extract_lets +onlyGivenNames x1_
  extract_lets +onlyGivenNames x2_
  exact (by
    intro p hp
    cases p
    case wear => exact fr_no (al hu rfl) hp
    case tim => exact fr_no (al hu rfl) hp
    all_goals exact fr_eq (hz _ hp) rfl)

theorem execC2BackupRefresh_frame {F : Place → Bool} {z : State} (s : State)
    (hu : Al F [.power, .tim, .regs, .frc]) (hz : Fr F z s) :
    FrA F z (execC2BackupRefresh s) := by
  unfold execC2BackupRefresh
  exact (fr_iteA (by
    extract_lets +onlyGivenNames x0_
    have h0_ : Fr F z x0_ := (fr_frc hz (al hu rfl))
    try clear_value x0_
    revert x0_
    refine fr_id ?_
    intro x0_ h0_
    extract_lets +onlyGivenNames x1_
    extract_lets +onlyGivenNames x2_
    have h2_ : Fr F z x2_ := (fr_tim h0_ (al hu rfl))
    try clear_value x2_
    revert x2_
    refine fr_id ?_
    intro x2_ h2_
    extract_lets +onlyGivenNames x3_
    have h3_ : Fr F z x3_ := (State.wr64_frame _ _ _ _ (sub hu rfl) h2_)
    try clear_value x3_
    revert x3_
    refine fr_id ?_
    intro x3_ h3_
    exact (frA_next (fr_power h3_ (al hu rfl))))
  (frA_next hz))

theorem execPpsOutEdge_frame {F : Place → Bool} {z : State} (s : State)
    (hu : Al F [.tim, .frc]) (hz : Fr F z s) :
    FrA F z (execPpsOutEdge s) := by
  unfold execPpsOutEdge
  exact (by
    split
    · exact (frA_next hz)
    · extract_lets +onlyGivenNames x0_
      extract_lets +onlyGivenNames x1_
      extract_lets +onlyGivenNames x2_
      have h2_ : Fr F z x2_ := (fr_ite hz
      (State.waitClass_frame _ _ _ (sub hu rfl) hz))
      try clear_value x2_
      revert x2_
      refine fr_id ?_
      intro x2_ h2_
      extract_lets +onlyGivenNames x3_
      exact (frA_next (fr_tim h2_ (al hu rfl))))

theorem State.domGm_frame {F : Place → Bool} {z : State} (s : State) (d : Nat) (m : PtpMaster)
    (hu : Al F [.regs]) (hz : Fr F z s) :
    Fr F z (State.domGm s d m) := by
  unfold State.domGm
  extract_lets +onlyGivenNames x0_
  have h0_ : Fr F z x0_ := (State.wr64_frame _ _ _ _ (sub hu rfl) hz)
  try clear_value x0_
  revert x0_
  refine fr_id ?_
  intro x0_ h0_
  exact (State.wr_frame _ _ _ (sub hu rfl) (State.wr_frame _ _ _ (sub hu rfl) h0_))

theorem State.setDomOfs_frame {F : Place → Bool} {z : State} (s : State) (d : Nat) (ofs : Int)
    (hu : Al F [.regs]) (hz : Fr F z s) :
    Fr F z (State.setDomOfs s d ofs) := by
  unfold State.setDomOfs
  exact (State.wr64_frame _ _ _ _ (sub hu rfl) hz)

theorem State.classCapture_frame {F : Place → Bool} {z : State} (s : State) (m : Master) (w : Width) (t : Int) (hi4' : Fld) (ns : Fld)
    (hu : Al F [.resp, .latch]) (hz : Fr F z s) :
    Fr F z (State.classCapture s m w t hi4' ns) := by
  unfold State.classCapture
  extract_lets +onlyGivenNames x0_
  have h0_ : Fr F z x0_ := (State.setLatch_frame _ _ _ _ (sub hu rfl) (State.setLatch_frame _ _ _ _ (sub hu rfl) hz))
  try clear_value x0_
  revert x0_
  refine fr_id ?_
  intro x0_ h0_
  exact (State.answer_frame _ _ (sub hu rfl) h0_)

theorem execDelayReq_frame {F : Place → Bool} {z : State} (d : Fin 2) (x : DelayStep) (s : State)
    (hu : Al F [.tim, .regs]) (hz : Fr F z s) :
    FrA F z (execDelayReq d x s) := by
  unfold execDelayReq
  exact (by
    split
    · exact (frA_next hz)
    · exact (fr_iteA (by
        extract_lets +onlyGivenNames x0_
        extract_lets +onlyGivenNames x1_
        have h1_ : Fr F z x1_ := (State.wr_frame _ _ _ (sub hu rfl) hz)
        try clear_value x1_
        revert x1_
        refine fr_id ?_
        intro x1_ h1_
        exact (frA_next (State.setDom_frame _ _ _ (sub hu rfl) h1_)))
      (frA_next hz)))

theorem execSlewingEnd_frame {F : Place → Bool} {z : State} (second : Bool) (s : State)
    (hu : Al F [.regs, .frc]) (hz : Fr F z s) :
    FrA F z (execSlewingEnd second s) := by
  unfold execSlewingEnd
  exact (fr_iteA (fr_iteA (frA_next (State.wr_frame _ _ _ (sub hu rfl) (fr_frc hz (al hu rfl))))
  (frA_next hz))
  (fr_iteA (frA_next (State.wr_frame _ _ _ (sub hu rfl) (fr_frc hz (al hu rfl))))
  (frA_next hz)))

theorem State.c2Leave_frame {F : Place → Bool} {z : State} (s : State) (d : Nat)
    (hu : Al F [.tim, .regs]) (hz : Fr F z s) :
    Fr F z (State.c2Leave s d) := by
  unfold State.c2Leave
  exact (fr_ite hz
  (by
    extract_lets +onlyGivenNames x0_
    extract_lets +onlyGivenNames x1_
    extract_lets +onlyGivenNames x2_
    extract_lets +onlyGivenNames x3_
    have h3_ : Fr F z x3_ := (fr_tim hz (al hu rfl))
    try clear_value x3_
    revert x3_
    refine fr_id ?_
    intro x3_ h3_
    exact (State.wr_frame _ _ _ (sub hu rfl) (State.wr_frame _ _ _ (sub hu rfl) h3_))))

theorem State.domServo_frame {F : Place → Bool} {z : State} (s : State) (d : Nat)
    (hu : Al F [.wear, .tim, .regs, .free]) (hz : Fr F z s) :
    Fr F z (State.domServo s d) := by
  unfold State.domServo
  extract_lets +onlyGivenNames x0_
  have h0_ : Fr F z x0_ := (State.driftCount_frame _ (sub hu rfl) hz)
  try clear_value x0_
  revert x0_
  refine fr_id ?_
  intro x0_ h0_
  extract_lets +onlyGivenNames x1_
  extract_lets +onlyGivenNames x2_
  extract_lets +onlyGivenNames x3_
  have h3_ : Fr F z x3_ := (State.useFree_frame _ (sub hu rfl) h0_)
  try clear_value x3_
  revert x3_
  refine fr_id ?_
  intro x3_ h3_
  extract_lets +onlyGivenNames x4_
  extract_lets +onlyGivenNames x5_
  have h5_ : Fr F z x5_ := (State.setDomOfs_frame _ _ _ (sub hu rfl) h3_)
  try clear_value x5_
  revert x5_
  refine fr_id ?_
  intro x5_ h5_
  extract_lets +onlyGivenNames x6_
  extract_lets +onlyGivenNames x7_
  have h7_ : Fr F z x7_ := (State.setDom_frame _ _ _ (sub hu rfl) h5_)
  try clear_value x7_
  revert x7_
  refine fr_id ?_
  intro x7_ h7_
  exact (State.wr_frame _ _ _ (sub hu rfl) h7_)

theorem State.c1Source_frame {F : Place → Bool} {z : State} (s : State) (src : Nat)
    (hu : Al F [.wear, .gb, .tim, .regs, .gates]) (hz : Fr F z s) :
    Fr F z (State.c1Source s src) := by
  unfold State.c1Source
  extract_lets +onlyGivenNames x0_
  exact (fr_ite hz
  (by
    extract_lets +onlyGivenNames x1_
    have h1_ : Fr F z x1_ := (State.driftCount_frame _ (sub hu rfl) hz)
    try clear_value x1_
    revert x1_
    refine fr_id ?_
    intro x1_ h1_
    extract_lets +onlyGivenNames x2_
    extract_lets +onlyGivenNames x3_
    extract_lets +onlyGivenNames x4_
    extract_lets +onlyGivenNames x5_
    extract_lets +onlyGivenNames x6_
    extract_lets +onlyGivenNames x7_
    extract_lets +onlyGivenNames x8_
    have h8_ : Fr F z x8_ := (fr_tim h1_ (al hu rfl))
    try clear_value x8_
    revert x8_
    refine fr_id ?_
    intro x8_ h8_
    extract_lets +onlyGivenNames x9_
    have h9_ : Fr F z x9_ := (State.wrB_frame _ _ _ (sub hu rfl) (State.wr_frame _ _ _ (sub hu rfl) h8_))
    try clear_value x9_
    revert x9_
    refine fr_id ?_
    intro x9_ h9_
    extract_lets +onlyGivenNames x10_
    have h10_ : Fr F z x10_ := (State.post_frame _ _ _ _ _ _ (sub hu rfl) h9_)
    try clear_value x10_
    revert x10_
    refine fr_id ?_
    intro x10_ h10_
    exact (State.anchor_frame _ _ (sub hu rfl) h10_)))

theorem State.c1Disagree_frame {F : Place → Bool} {z : State} (s : State) (d : Nat)
    (hu : Al F [.gb, .regs, .gates]) (hz : Fr F z s) :
    Fr F z (State.c1Disagree s d) := by
  unfold State.c1Disagree
  exact (fr_ite hz
  (State.post_frame _ _ _ _ _ _ (sub hu rfl) (State.wr_frame _ _ _ (sub hu rfl) hz)))

theorem State.setPpsOk_frame {F : Place → Bool} {z : State} (s : State) (ok : Bool) (dev : Int)
    (hu : Al F [.gb, .regs, .gates]) (hz : Fr F z s) :
    Fr F z (State.setPpsOk s ok dev) := by
  unfold State.setPpsOk
  exact (fr_ite hz
  (State.post_frame _ _ _ _ _ _ (sub hu rfl) (State.wrB_frame _ _ _ (sub hu rfl) hz)))

theorem State.c2Lock_frame {F : Place → Bool} {z : State} (s : State) (d : Nat)
    (hu : Al F [.gb, .tim, .regs, .gates]) (hz : Fr F z s) :
    Fr F z (State.c2Lock s d) := by
  unfold State.c2Lock
  exact (fr_ite (by
    extract_lets +onlyGivenNames x0_
    extract_lets +onlyGivenNames x1_
    extract_lets +onlyGivenNames x2_
    have h2_ : Fr F z x2_ := (fr_tim hz (al hu rfl))
    try clear_value x2_
    revert x2_
    refine fr_id ?_
    intro x2_ h2_
    extract_lets +onlyGivenNames x3_
    have h3_ : Fr F z x3_ := (State.wr_frame _ _ _ (sub hu rfl) (State.wr_frame _ _ _ (sub hu rfl) (State.wr_frame _ _ _ (sub hu rfl) h2_)))
    try clear_value x3_
    revert x3_
    refine fr_id ?_
    intro x3_ h3_
    exact (State.post_frame _ _ _ _ _ _ (sub hu rfl) h3_))
  (by
    extract_lets +onlyGivenNames x4_
    exact (fr_ite (State.post_frame _ _ _ _ _ _ (sub hu rfl) hz)
    (by
      extract_lets +onlyGivenNames x5_
      extract_lets +onlyGivenNames x6_
      extract_lets +onlyGivenNames x7_
      have h7_ : Fr F z x7_ := (fr_tim hz (al hu rfl))
      try clear_value x7_
      revert x7_
      refine fr_id ?_
      intro x7_ h7_
      extract_lets +onlyGivenNames x8_
      have h8_ : Fr F z x8_ := (State.wrB_frame _ _ _ (sub hu rfl) (State.wr_frame _ _ _ (sub hu rfl) h7_))
      try clear_value x8_
      revert x8_
      refine fr_id ?_
      intro x8_ h8_
      exact (State.post_frame _ _ _ _ _ _ (sub hu rfl) h8_)))))

theorem execPpsInEdge_frame {F : Place → Bool} {z : State} (s : State)
    (hu : Al F [.gb, .tim, .regs, .gates]) (hz : Fr F z s) :
    FrA F z (execPpsInEdge s) := by
  unfold execPpsInEdge
  exact (fr_iteA (frA_next hz)
  (by
    extract_lets +onlyGivenNames x0_
    extract_lets +onlyGivenNames x1_
    have h1_ : Fr F z x1_ := (State.wr_frame _ _ _ (sub hu rfl) hz)
    try clear_value x1_
    revert x1_
    refine fr_id ?_
    intro x1_ h1_
    extract_lets +onlyGivenNames x2_
    extract_lets +onlyGivenNames x3_
    extract_lets +onlyGivenNames x4_
    extract_lets +onlyGivenNames x5_
    have h5_ : Fr F z x5_ := (fr_tim h1_ (al hu rfl))
    try clear_value x5_
    revert x5_
    refine fr_id ?_
    intro x5_ h5_
    extract_lets +onlyGivenNames x6_
    have h6_ : Fr F z x6_ := (State.setPpsOk_frame _ _ _ (sub hu rfl) h5_)
    try clear_value x6_
    revert x6_
    refine fr_id ?_
    intro x6_ h6_
    exact (frA_next (State.ppsSteer_frame _ _ (sub hu rfl) h6_))))

theorem State.c1Step_frame {F : Place → Bool} {z : State} (s : State) (d : Nat) (why : Nat)
    (hu : Al F [.wear, .gb, .tim, .regs, .gates]) (hz : Fr F z s) :
    Fr F z (State.c1Step s d why) := by
  unfold State.c1Step
  extract_lets +onlyGivenNames x0_
  have h0_ : Fr F z x0_ := (State.driftCount_frame _ (sub hu rfl) hz)
  try clear_value x0_
  revert x0_
  refine fr_id ?_
  intro x0_ h0_
  extract_lets +onlyGivenNames x1_
  extract_lets +onlyGivenNames x2_
  extract_lets +onlyGivenNames x3_
  extract_lets +onlyGivenNames x4_
  have h4_ : Fr F z x4_ := (fr_tim h0_ (al hu rfl))
  try clear_value x4_
  revert x4_
  refine fr_id ?_
  intro x4_ h4_
  extract_lets +onlyGivenNames x5_
  have h5_ : Fr F z x5_ := (State.wr_frame _ _ _ (sub hu rfl) (State.wr_frame _ _ _ (sub hu rfl) (State.wr_frame _ _ _ (sub hu rfl) h4_)))
  try clear_value x5_
  revert x5_
  refine fr_id ?_
  intro x5_ h5_
  extract_lets +onlyGivenNames x6_
  have h6_ : Fr F z x6_ := (State.wr_frame _ _ _ (sub hu rfl) h5_)
  try clear_value x6_
  revert x6_
  refine fr_id ?_
  intro x6_ h6_
  exact (State.anchor_frame _ _ (sub hu rfl) (State.post_frame _ _ _ _ _ _ (sub hu rfl) h6_))

theorem State.c1Choose_frame {F : Place → Bool} {z : State} (s : State)
    (hu : Al F [.wear, .gb, .tim, .regs, .gates]) (hz : Fr F z s) :
    Fr F z (State.c1Choose s) := by
  unfold State.c1Choose
  extract_lets +onlyGivenNames x0_
  extract_lets +onlyGivenNames x1_
  exact (fr_ite (State.c1Source_frame _ _ (sub hu rfl) (State.wr_frame _ _ _ (sub hu rfl) hz))
  (by
    extract_lets +onlyGivenNames x2_
    have h2_ : Fr F z x2_ := (fr_ite (State.c1Disagree_frame _ _ (sub hu rfl) hz)
    hz)
    try clear_value x2_
    revert x2_
    refine fr_id ?_
    intro x2_ h2_
    exact (fr_ite (State.c1Source_frame _ _ (sub hu rfl) (fr_ite h2_
    (State.wr_frame _ _ _ (sub hu rfl) h2_)))
    (by
      extract_lets +onlyGivenNames x3_
      have h3_ : Fr F z x3_ := (fr_ite (State.c1Disagree_frame _ _ (sub hu rfl) h2_)
      (fr_ite h2_
      (State.wr_frame _ _ _ (sub hu rfl) h2_)))
      try clear_value x3_
      revert x3_
      refine fr_id ?_
      intro x3_ h3_
      exact (State.c1Source_frame _ _ (sub hu rfl) h3_)))))

theorem execPpsInTimeout_frame {F : Place → Bool} {z : State} (s : State)
    (hu : Al F [.gb, .regs, .gates, .frc]) (hz : Fr F z s) :
    FrA F z (execPpsInTimeout s) := by
  unfold execPpsInTimeout
  exact (fr_iteA (by
    extract_lets +onlyGivenNames x0_
    have h0_ : Fr F z x0_ := (fr_frc hz (al hu rfl))
    try clear_value x0_
    revert x0_
    refine fr_id ?_
    intro x0_ h0_
    exact (frA_next (State.setPpsOk_frame _ _ _ (sub hu rfl) h0_)))
  (frA_next hz))

theorem State.timCmdWrite_frame {F : Place → Bool} {z : State} (s : State) (value : Nat)
    (hu : Al F [.wear, .gb, .tim, .regs, .gates]) (hz : Fr F z s) :
    Fr F z (State.timCmdWrite s value) := by
  unfold State.timCmdWrite
  extract_lets +onlyGivenNames x0_
  exact (fr_ite hz
  (fr_ite (State.cmdStat_frame _ _ _ _ (sub hu rfl) hz)
  (fr_ite (State.cmdStat_frame _ _ _ _ (sub hu rfl) hz)
  (fr_ite (State.cmdStat_frame _ _ _ _ (sub hu rfl) hz)
  (fr_ite (State.cmdStat_frame _ _ _ _ (sub hu rfl) hz)
  (by
    extract_lets +onlyGivenNames x1_
    exact (State.canRealign_frame _ (sub hu rfl) (State.c1Step_frame _ _ _ (sub hu rfl) (State.cmdStat_frame _ _ _ _ (sub hu rfl) hz)))))))))

theorem State.c1Update_frame {F : Place → Bool} {z : State} (s : State)
    (hu : Al F [.wear, .gb, .tim, .regs, .gates]) (hz : Fr F z s) :
    Fr F z (State.c1Update s) := by
  unfold State.c1Update
  exact (fr_ite hz
  (fr_ite (State.c1Choose_frame _ (sub hu rfl) hz)
  (fr_ite (State.c1Step_frame _ _ _ (sub hu rfl) hz)
  (fr_ite (State.c1Step_frame _ _ _ (sub hu rfl) hz)
  hz))))

theorem execClassTimeCapture_frame {F : Place → Bool} {z : State} (m : Master) (w : Width) (second : Bool) (s : State)
    (hu : Al F [.gb, .regs, .resp, .gates, .latch]) (hz : Fr F z s) :
    FrA F z (execClassTimeCapture m w second s) := by
  unfold execClassTimeCapture
  exact (fr_iteA (frA_next (State.access_frame _ _ _ _ _ _ (sub hu rfl) hz (fun _ h0_ => (State.classCapture_frame _ _ _ _ _ _ (sub hu rfl) h0_))))
  (frA_next (State.access_frame _ _ _ _ _ _ (sub hu rfl) hz (fun _ h1_ => (State.classCapture_frame _ _ _ _ _ _ (sub hu rfl) h1_)))))

theorem execTimRealign_frame {F : Place → Bool} {z : State} (m : Master) (s : State)
    (hu : Al F [.wear, .gb, .tim, .regs, .resp, .gates]) (hz : Fr F z s) :
    FrA F z (execTimRealign m s) := by
  unfold execTimRealign
  exact (frA_next (State.access_frame _ _ _ _ _ _ (sub hu rfl) hz (fun _ h0_ => (State.timCmdWrite_frame _ _ (sub hu rfl) h0_))))

theorem State.domEnter_frame {F : Place → Bool} {z : State} (s : State) (d : Nat) (st : Nat)
    (hu : Al F [.wear, .gb, .tim, .regs, .gates]) (hz : Fr F z s) :
    Fr F z (State.domEnter s d st) := by
  unfold State.domEnter
  extract_lets +onlyGivenNames x0_
  exact (fr_ite hz
  (by
    extract_lets +onlyGivenNames x1_
    have h1_ : Fr F z x1_ := (State.driftCount_frame _ (sub hu rfl) hz)
    try clear_value x1_
    revert x1_
    refine fr_id ?_
    intro x1_ h1_
    extract_lets +onlyGivenNames x2_
    have h2_ : Fr F z x2_ := (fr_ite (State.c2Leave_frame _ _ (sub hu rfl) h1_)
    h1_)
    try clear_value x2_
    revert x2_
    refine fr_id ?_
    intro x2_ h2_
    extract_lets +onlyGivenNames x3_
    have h3_ : Fr F z x3_ := (State.wr_frame _ _ _ (sub hu rfl) h2_)
    try clear_value x3_
    revert x3_
    refine fr_id ?_
    intro x3_ h3_
    extract_lets +onlyGivenNames x4_
    have h4_ : Fr F z x4_ := (fr_ite (State.wr_frame _ _ _ (sub hu rfl) h3_)
    (State.wr_frame _ _ _ (sub hu rfl) h3_))
    try clear_value x4_
    revert x4_
    refine fr_id ?_
    intro x4_ h4_
    extract_lets +onlyGivenNames x5_
    extract_lets +onlyGivenNames x6_
    have h6_ : Fr F z x6_ := (fr_ite (State.setDom_frame _ _ _ (sub hu rfl) h4_)
    h4_)
    try clear_value x6_
    revert x6_
    refine fr_id ?_
    intro x6_ h6_
    extract_lets +onlyGivenNames x7_
    extract_lets +onlyGivenNames x8_
    have h8_ : Fr F z x8_ := (fr_ite (State.setDom_frame _ _ _ (sub hu rfl) h6_)
    h6_)
    try clear_value x8_
    revert x8_
    refine fr_id ?_
    intro x8_ h8_
    extract_lets +onlyGivenNames x9_
    have h9_ : Fr F z x9_ := (fr_ite (State.c2Lock_frame _ _ (sub hu rfl) h8_)
    h8_)
    try clear_value x9_
    revert x9_
    refine fr_id ?_
    intro x9_ h9_
    exact (State.c1Update_frame _ (sub hu rfl) h9_)))

theorem State.domJudge_frame {F : Place → Bool} {z : State} (s : State) (d : Nat) (meas : Int)
    (hu : Al F [.wear, .gb, .tim, .regs, .gates]) (hz : Fr F z s) :
    Fr F z (State.domJudge s d meas) := by
  unfold State.domJudge
  extract_lets +onlyGivenNames x0_
  exact (fr_ite (fr_ite (State.setDom_frame _ _ _ (sub hu rfl) hz)
  (fr_ite (State.domEnter_frame _ _ _ (sub hu rfl) hz)
  (State.setDom_frame _ _ _ (sub hu rfl) hz)))
  (fr_ite (by
    extract_lets +onlyGivenNames x1_
    extract_lets +onlyGivenNames x2_
    have h2_ : Fr F z x2_ := (State.setDom_frame _ _ _ (sub hu rfl) hz)
    try clear_value x2_
    revert x2_
    refine fr_id ?_
    intro x2_ h2_
    exact (fr_ite (by
      extract_lets +onlyGivenNames x3_
      have h3_ : Fr F z x3_ := (State.post_frame _ _ _ _ _ _ (sub hu rfl) h2_)
      try clear_value x3_
      revert x3_
      refine fr_id ?_
      intro x3_ h3_
      exact (State.domEnter_frame _ _ _ (sub hu rfl) h3_))
    h2_))
  (State.setDom_frame _ _ _ (sub hu rfl) hz)))

theorem State.domSync_frame {F : Place → Bool} {z : State} (s : State) (d : Nat) (m : Sync)
    (hu : Al F [.wear, .gb, .tim, .regs, .free, .gates]) (hz : Fr F z s) :
    Fr F z (State.domSync s d m) := by
  unfold State.domSync
  extract_lets +onlyGivenNames x0_
  have h0_ : Fr F z x0_ := (State.wr_frame _ _ _ (sub hu rfl) hz)
  try clear_value x0_
  revert x0_
  refine fr_id ?_
  intro x0_ h0_
  extract_lets +onlyGivenNames x1_
  extract_lets +onlyGivenNames x2_
  have h2_ : Fr F z x2_ := (State.setDom_frame _ _ _ (sub hu rfl) h0_)
  try clear_value x2_
  revert x2_
  refine fr_id ?_
  intro x2_ h2_
  extract_lets +onlyGivenNames x3_
  have h3_ : Fr F z x3_ := (fr_ite (State.domEnter_frame _ _ _ (sub hu rfl) h2_)
  h2_)
  try clear_value x3_
  revert x3_
  refine fr_id ?_
  intro x3_ h3_
  exact (fr_ite h3_
  (by
    extract_lets +onlyGivenNames x4_
    extract_lets +onlyGivenNames x5_
    extract_lets +onlyGivenNames x6_
    have h6_ : Fr F z x6_ := (State.wr_frame _ _ _ (sub hu rfl) h3_)
    try clear_value x6_
    revert x6_
    refine fr_id ?_
    intro x6_ h6_
    exact (fr_ite (State.setDom_frame _ _ _ (sub hu rfl) (State.setDomOfs_frame _ _ _ (sub hu rfl) h6_))
    (State.domJudge_frame _ _ _ (sub hu rfl) (State.domServo_frame _ _ (sub hu rfl) h6_)))))

theorem execDomainHoldover_frame {F : Place → Bool} {z : State} (d : Fin 2) (s : State)
    (hu : Al F [.wear, .gb, .tim, .regs, .gates, .frc]) (hz : Fr F z s) :
    FrA F z (execDomainHoldover d s) := by
  unfold execDomainHoldover
  exact (fr_iteA (by
    extract_lets +onlyGivenNames x0_
    have h0_ : Fr F z x0_ := (fr_frc hz (al hu rfl))
    try clear_value x0_
    revert x0_
    refine fr_id ?_
    intro x0_ h0_
    extract_lets +onlyGivenNames x1_
    have h1_ : Fr F z x1_ := (State.post_frame _ _ _ _ _ _ (sub hu rfl) h0_)
    try clear_value x1_
    revert x1_
    refine fr_id ?_
    intro x1_ h1_
    exact (frA_next (State.domEnter_frame _ _ _ (sub hu rfl) h1_)))
  (frA_next hz))

theorem State.domSelect_frame {F : Place → Bool} {z : State} (s : State) (d : Nat) (m : PtpMaster)
    (hu : Al F [.wear, .gb, .tim, .regs, .gates]) (hz : Fr F z s) :
    Fr F z (State.domSelect s d m) := by
  unfold State.domSelect
  exact (by
    split
    · exact (State.domEnter_frame _ _ _ (sub hu rfl) (State.domGm_frame _ _ _ (sub hu rfl) (State.setDom_frame _ _ _ (sub hu rfl) hz)))
    · extract_lets +onlyGivenNames x0_
      extract_lets +onlyGivenNames x1_
      have h1_ : Fr F z x1_ := (State.setDom_frame _ _ _ (sub hu rfl) hz)
      try clear_value x1_
      revert x1_
      refine fr_id ?_
      intro x1_ h1_
      exact (fr_ite (State.domGm_frame _ _ _ (sub hu rfl) h1_)
      (by
        extract_lets +onlyGivenNames x2_
        extract_lets +onlyGivenNames x3_
        have h3_ : Fr F z x3_ := (State.domGm_frame _ _ _ (sub hu rfl) h1_)
        try clear_value x3_
        revert x3_
        refine fr_id ?_
        intro x3_ h3_
        extract_lets +onlyGivenNames x4_
        have h4_ : Fr F z x4_ := (State.post_frame _ _ _ _ _ _ (sub hu rfl) h3_)
        try clear_value x4_
        revert x4_
        refine fr_id ?_
        intro x4_ h4_
        exact (fr_ite (State.setDom_frame _ _ _ (sub hu rfl) h4_)
        (State.domEnter_frame _ _ _ (sub hu rfl) (State.setDom_frame _ _ _ (sub hu rfl) h4_))))))

theorem execPtpAnnounce_frame {F : Place → Bool} {z : State} (d : Fin 2) (a : Announce) (s : State)
    (hu : Al F [.wear, .gb, .tim, .regs, .gates]) (hz : Fr F z s) :
    FrA F z (execPtpAnnounce d a s) := by
  unfold execPtpAnnounce
  exact (fr_iteA (frA_next hz)
  (by
    extract_lets +onlyGivenNames x0_
    extract_lets +onlyGivenNames x1_
    extract_lets +onlyGivenNames x2_
    have h2_ : Fr F z x2_ := (State.setDom_frame _ _ _ (sub hu rfl) hz)
    try clear_value x2_
    revert x2_
    refine fr_id ?_
    intro x2_ h2_
    exact (by
      split
      · exact (frA_next (State.domSelect_frame _ _ _ (sub hu rfl) h2_))
      · exact (frA_next h2_))))

theorem execAnnounceTimeout_frame {F : Place → Bool} {z : State} (d : Fin 2) (s : State)
    (hu : Al F [.wear, .gb, .tim, .regs, .gates, .frc]) (hz : Fr F z s) :
    FrA F z (execAnnounceTimeout d s) := by
  unfold execAnnounceTimeout
  exact (by
    split
    · exact (frA_next hz)
    · extract_lets +onlyGivenNames x0_
      extract_lets +onlyGivenNames x1_
      extract_lets +onlyGivenNames x2_
      have h2_ : Fr F z x2_ := (fr_frc hz (al hu rfl))
      try clear_value x2_
      revert x2_
      refine fr_id ?_
      intro x2_ h2_
      extract_lets +onlyGivenNames x3_
      extract_lets +onlyGivenNames x4_
      extract_lets +onlyGivenNames x5_
      have h5_ : Fr F z x5_ := (State.setDom_frame _ _ _ (sub hu rfl) h2_)
      try clear_value x5_
      revert x5_
      refine fr_id ?_
      intro x5_ h5_
      exact (by
        split
        · exact (frA_next (State.domSelect_frame _ _ _ (sub hu rfl) h5_))
        · exact (frA_next (State.domEnter_frame _ _ _ (sub hu rfl) (State.setDom_frame _ _ _ (sub hu rfl) h5_)))))

theorem execPtpSync_frame {F : Place → Bool} {z : State} (d : Fin 2) (m : Sync) (s : State)
    (hu : Al F [.wear, .gb, .tim, .regs, .free, .gates]) (hz : Fr F z s) :
    FrA F z (execPtpSync d m s) := by
  unfold execPtpSync
  exact (by
    split
    · exact (frA_next hz)
    · exact (fr_iteA (frA_next hz)
      (fr_iteA (frA_next (State.bump_frame _ _ (sub hu rfl) hz))
      (frA_next (State.c1Update_frame _ (sub hu rfl) (State.domSync_frame _ _ _ (sub hu rfl) hz))))))

end Sys2Proof.Machine
end

