-- ==== Sys2Proof/Laws/FrameEthernet.lean ====
section
/-!
SUPPORT. What the operations of Machine/Ethernet.lean may change (Laws/Frames.lean).
-/
namespace Sys2Proof.Machine

theorem execEthJoinPoint_frame {F : Place → Bool} {z : State} (s : State)
    (hu : Al F [.regs, .frc]) (hz : Fr F z s) :
    FrA F z (execEthJoinPoint s) := by
  unfold execEthJoinPoint
  extract_lets +onlyGivenNames x0_
  extract_lets +onlyGivenNames x1_
  have h1_ : Fr F z x1_ := (fr_ite (fr_frc hz (al hu rfl))
  hz)
  try clear_value x1_
  revert x1_
  refine fr_id ?_
  intro x1_ h1_
  exact (fr_iteA (frA_next (State.wr_frame _ _ _ (sub hu rfl) h1_))
  (fr_iteA (frA_next (State.wr_frame _ _ _ (sub hu rfl) h1_))
  (frA_next h1_)))

theorem State.igmp_frame {F : Place → Bool} {z : State} (s : State)
    (hu : Al F [.eth]) (hz : Fr F z s) :
    Fr F z (State.igmp s) := by
  unfold State.igmp
  extract_lets +onlyGivenNames x0_
  exact (fr_ite (State.setEthPort_frame _ _ _ (sub hu rfl) hz)
  hz)

theorem State.permitUpdate_frame {F : Place → Bool} {z : State} (s : State)
    (hu : Al F [.regs]) (hz : Fr F z s) :
    Fr F z (State.permitUpdate s) := by
  unfold State.permitUpdate
  exact (State.wrB_frame _ _ _ (sub hu rfl) hz)

theorem execMaintSessionExpire_frame {F : Place → Bool} {z : State} (s : State)
    (hu : Al F [.regs, .frc]) (hz : Fr F z s) :
    FrA F z (execMaintSessionExpire s) := by
  unfold execMaintSessionExpire
  exact (fr_iteA (by
    extract_lets +onlyGivenNames x0_
    have h0_ : Fr F z x0_ := (fr_frc hz (al hu rfl))
    try clear_value x0_
    revert x0_
    refine fr_id ?_
    intro x0_ h0_
    exact (frA_next (State.permitUpdate_frame _ (sub hu rfl) (State.wr_frame _ _ _ (sub hu rfl) h0_))))
  (frA_next hz))

theorem State.ethAdmit_frame {F : Place → Bool} {z : State} (s : State) (p : Nat) (k : State → State)
    (hu : Al F [.regs, .eth]) (hz : Fr F z s) (hk : ∀ (a0 : State), Fr F z a0 → Fr F z (k a0)) :
    Fr F z (State.ethAdmit s p k) := by
  unfold State.ethAdmit
  extract_lets +onlyGivenNames x0_
  extract_lets +onlyGivenNames x1_
  extract_lets +onlyGivenNames x2_
  extract_lets +onlyGivenNames x3_
  exact (fr_ite (State.bump_frame _ _ (sub hu rfl) hz)
  (hk _ (State.setEthPort_frame _ _ _ (sub hu rfl) hz)))

theorem execIgmpReport_frame {F : Place → Bool} {z : State} (s : State)
    (hu : Al F [.eth]) (hz : Fr F z s) :
    FrA F z (execIgmpReport s) := by
  unfold execIgmpReport
  exact (frA_next (State.igmp_frame _ (sub hu rfl) hz))

theorem State.ethMaintWrite_frame {F : Place → Bool} {z : State} (s : State) (m : Master) (value : Nat)
    (hu : Al F [.regs, .maintAt]) (hz : Fr F z s) :
    Fr F z (State.ethMaintWrite s m value) := by
  unfold State.ethMaintWrite
  extract_lets +onlyGivenNames x0_
  exact (fr_ite hz
  (State.permitUpdate_frame _ (sub hu rfl) (State.wr_frame _ _ _ (sub hu rfl) (fr_maintAt hz (al hu rfl)))))

theorem State.maintCount_frame {F : Place → Bool} {z : State} (s : State)
    (hu : Al F [.regs, .maintAt]) (hz : Fr F z s) :
    Fr F z (State.maintCount s) := by
  unfold State.maintCount
  extract_lets +onlyGivenNames x0_
  exact (fr_ite (State.permitUpdate_frame _ (sub hu rfl) (State.wr_frame _ _ _ (sub hu rfl) (fr_maintAt hz (al hu rfl))))
  hz)

theorem execLinkUp_frame {F : Place → Bool} {z : State} (p : Fin 6) (s : State)
    (hu : Al F [.gb, .regs, .eth, .gates]) (hz : Fr F z s) :
    FrA F z (execLinkUp p s) := by
  unfold execLinkUp
  exact (fr_iteA (frA_next hz)
  (by
    extract_lets +onlyGivenNames x0_
    have h0_ : Fr F z x0_ := (State.post_frame _ _ _ _ _ _ (sub hu rfl) (State.wr_frame _ _ _ (sub hu rfl) hz))
    try clear_value x0_
    revert x0_
    refine fr_id ?_
    intro x0_ h0_
    exact (frA_next (fr_ite (State.igmp_frame _ (sub hu rfl) h0_)
    h0_))))

theorem State.navBad_frame {F : Place → Bool} {z : State} (s : State) (p : Nat) (group : Nat) (check : Nat)
    (hu : Al F [.gb, .regs, .gates]) (hz : Fr F z s) :
    Fr F z (State.navBad s p group check) := by
  unfold State.navBad
  extract_lets +onlyGivenNames x0_
  have h0_ : Fr F z x0_ := (fr_ite (State.bump_frame _ _ (sub hu rfl) hz)
  (State.bump_frame _ _ (sub hu rfl) hz))
  try clear_value x0_
  revert x0_
  refine fr_id ?_
  intro x0_ h0_
  exact (State.post_frame _ _ _ _ _ _ (sub hu rfl) h0_)

theorem execEthMaint_frame {F : Place → Bool} {z : State} (m : Master) (value : Word) (s : State)
    (hu : Al F [.gb, .regs, .resp, .gates, .maintAt]) (hz : Fr F z s) :
    FrA F z (execEthMaint m value s) := by
  unfold execEthMaint
  exact (frA_next (State.access_frame _ _ _ _ _ _ (sub hu rfl) hz (fun _ h0_ => (State.ethMaintWrite_frame _ _ _ (sub hu rfl) h0_))))

theorem State.ethEndFlight_frame {F : Place → Bool} {z : State} (s : State) (p : Nat) (detail : Nat)
    (hu : Al F [.ban, .regs, .eth, .free, .mem, .gates, .heads]) (hz : Fr F z s) :
    Fr F z (State.ethEndFlight s p detail) := by
  unfold State.ethEndFlight
  extract_lets +onlyGivenNames x0_
  exact (by
    split
    · extract_lets +onlyGivenNames x1_
      extract_lets +onlyGivenNames x2_
      extract_lets +onlyGivenNames x3_
      have h3_ : Fr F z x3_ := (fr_ite hz
      (State.useFree_frame _ (sub hu rfl) hz))
      try clear_value x3_
      revert x3_
      refine fr_id ?_
      intro x3_ h3_
      extract_lets +onlyGivenNames x4_
      have h4_ : Fr F z x4_ := (State.setEthPort_frame _ _ _ (sub hu rfl) h3_)
      try clear_value x4_
      revert x4_
      refine fr_id ?_
      intro x4_ h4_
      exact (State.txDone_frame _ _ _ _ (sub hu rfl) h4_)
    · exact hz)

theorem execEthTxComplete_frame {F : Place → Bool} {z : State} (p : Fin 6) (s : State)
    (hu : Al F [.ban, .regs, .eth, .free, .mem, .gates, .heads]) (hz : Fr F z s) :
    FrA F z (execEthTxComplete p s) := by
  unfold execEthTxComplete
  exact (frA_next (State.ethEndFlight_frame _ _ _ (sub hu rfl) hz))

theorem execEthTxStart_frame {F : Place → Bool} {z : State} (p : Fin 6) (s : State)
    (hu : Al F [.ban, .gb, .regs, .eth, .mem, .gates, .frc, .heads]) (hz : Fr F z s) :
    FrA F z (execEthTxStart p s) := by
  unfold execEthTxStart
  extract_lets +onlyGivenNames x0_
  exact (fr_iteA (by
    extract_lets +onlyGivenNames x1_
    have h1_ : Fr F z x1_ := (State.headWait_frame _ _ (sub hu rfl) hz)
    try clear_value x1_
    revert x1_
    refine fr_id ?_
    intro x1_ h1_
    extract_lets +onlyGivenNames x2_
    extract_lets +onlyGivenNames x3_
    exact (fr_iteA (by
      extract_lets +onlyGivenNames x4_
      exact (frA_next (State.post_frame _ _ _ _ _ _ (sub hu rfl) (State.txDone_frame _ _ _ _ (sub hu rfl) h1_))))
    (by
      extract_lets +onlyGivenNames x5_
      extract_lets +onlyGivenNames x6_
      extract_lets +onlyGivenNames x7_
      extract_lets +onlyGivenNames x8_
      exact (frA_next (State.setEthPort_frame _ _ _ (sub hu rfl) h1_)))))
  (frA_next hz))

theorem State.ethStore_frame {F : Place → Bool} {z : State} (s : State) (p : Nat) (flags : Nat) (group : Nat) (frame : List Byte)
    (hu : Al F [.ban, .rx, .posted, .gb, .regs, .mem, .gates, .heads]) (hz : Fr F z s) :
    Fr F z (State.ethStore s p flags group frame) := by
  unfold State.ethStore
  exact (fr_ite (State.rxHold_frame _ _ _ (sub hu rfl) hz)
  (fr_ite hz
  (by
    extract_lets +onlyGivenNames x0_
    extract_lets +onlyGivenNames x1_
    exact (fr_ite (by
      extract_lets +onlyGivenNames x2_
      have h2_ : Fr F z x2_ := (fr_ite hz
      (State.post_frame _ _ _ _ _ _ (sub hu rfl) hz))
      try clear_value x2_
      revert x2_
      refine fr_id ?_
      intro x2_ h2_
      extract_lets +onlyGivenNames x3_
      have h3_ : Fr F z x3_ := (State.setRxCount_frame _ _ _ (sub hu rfl) h2_)
      try clear_value x3_
      revert x3_
      refine fr_id ?_
      intro x3_ h3_
      exact (State.quePush_frame _ _ _ (sub hu rfl) h3_))
    (State.bump_frame _ _ (sub hu rfl) (State.setRxCount_frame _ _ _ (sub hu rfl) hz))))))

theorem execLinkDown_frame {F : Place → Bool} {z : State} (p : Fin 6) (unable : Bool) (s : State)
    (hu : Al F [.ban, .gb, .regs, .eth, .free, .mem, .gates, .heads]) (hz : Fr F z s) :
    FrA F z (execLinkDown p unable s) := by
  unfold execLinkDown
  exact (fr_iteA (by
    extract_lets +onlyGivenNames x0_
    have h0_ : Fr F z x0_ := (State.wr_frame _ _ _ (sub hu rfl) hz)
    try clear_value x0_
    revert x0_
    refine fr_id ?_
    intro x0_ h0_
    exact (frA_next (State.post_frame _ _ _ _ _ _ (sub hu rfl) (State.ethEndFlight_frame _ _ _ (sub hu rfl) h0_))))
  (fr_iteA (frA_next (State.post_frame _ _ _ _ _ _ (sub hu rfl) hz))
  (frA_next hz)))

theorem State.navReceive_frame {F : Place → Bool} {z : State} (s : State) (p : Nat) (f : List Byte)
    (hu : Al F [.ban, .rx, .posted, .gb, .regs, .eth, .mem, .gates, .heads]) (hz : Fr F z s) :
    Fr F z (State.navReceive s p f) := by
  unfold State.navReceive
  extract_lets +onlyGivenNames x0_
  exact (fr_ite (State.navBad_frame _ _ _ _ (sub hu rfl) hz)
  (by
    split
    · exact (State.navBad_frame _ _ _ _ (sub hu rfl) hz)
    · extract_lets +onlyGivenNames x1_
      exact (fr_ite (State.navBad_frame _ _ _ _ (sub hu rfl) hz)
      (by
        extract_lets +onlyGivenNames x2_
        exact (fr_ite (State.navBad_frame _ _ _ _ (sub hu rfl) hz)
        (by
          extract_lets +onlyGivenNames x3_
          exact (fr_ite (State.ethAdmit_frame _ _ _ (sub hu rfl) hz (fun _ h4_ => (State.ethStore_frame _ _ _ _ _ (sub hu rfl) h4_)))
          (State.ethStore_frame _ _ _ _ _ (sub hu rfl) hz))))))))

theorem execEthFrameReceive_frame {F : Place → Bool} {z : State} (p : Fin 6) (fcsGood : Bool) (f : List Byte) (s : State)
    (hu : Al F [.ban, .rx, .posted, .gb, .regs, .eth, .mem, .gates, .heads]) (hz : Fr F z s) :
    FrA F z (execEthFrameReceive p fcsGood f s) := by
  unfold execEthFrameReceive
  exact (fr_iteA (frA_next hz)
  (fr_iteA (frA_next (State.bump_frame _ _ (sub hu rfl) hz))
  (fr_iteA (frA_next hz)
  (fr_iteA (frA_next (State.bump_frame _ _ (sub hu rfl) hz))
  (by
    extract_lets +onlyGivenNames x0_
    extract_lets +onlyGivenNames x1_
    extract_lets +onlyGivenNames x2_
    have h2_ : Fr F z x2_ := (State.setEthPort_frame _ _ _ (sub hu rfl) hz)
    try clear_value x2_
    revert x2_
    refine fr_id ?_
    intro x2_ h2_
    exact (fr_iteA (frA_next h2_)
    (fr_iteA (frA_next (State.bump_frame _ _ (sub hu rfl) h2_))
    (fr_iteA (frA_next (State.navReceive_frame _ _ _ (sub hu rfl) h2_))
    (by
      extract_lets +onlyGivenNames x3_
      exact (fr_iteA (frA_next (State.ethAdmit_frame _ _ _ (sub hu rfl) h2_ (fun _ h4_ => (State.ethStore_frame _ _ _ _ _ (sub hu rfl) h4_))))
      (frA_next (State.ethStore_frame _ _ _ _ _ (sub hu rfl) h2_))))))))))))

end Sys2Proof.Machine
end

