-- ==== Sys2Proof/Laws/FrameLoopEngine.lean ====
section
/-!
SUPPORT. What the operations of Machine/LoopEngine.lean may change (Laws/Frames.lean).
-/
namespace Sys2Proof.Machine

theorem State.setLoop_frame {F : Place → Bool} {z : State} (s : State) (n : Nat) (x : Loop)
    (hu : Al F [.lp]) (hz : Fr F z s) :
    Fr F z (State.setLoop s n x) := by
  unfold State.setLoop
  exact (fr_lp hz (al hu rfl))

theorem State.loopArm_frame {F : Place → Bool} {z : State} (s : State) (t : Nat)
    (hu : Al F [.lp]) (hz : Fr F z s) :
    Fr F z (State.loopArm s t) := by
  unfold State.loopArm
  exact (fr_foldl (fun _ _ h0_ => (by
    split
    · exact (fr_ite (State.setLoop_frame _ _ _ (sub hu rfl) h0_)
      h0_)
    · exact h0_))
  hz)

theorem State.loopLatched_frame {F : Place → Bool} {z : State} (s : State) (n : Nat)
    (hu : Al F [.lp]) (hz : Fr F z s) :
    Fr F z (State.loopLatched s n) := by
  unfold State.loopLatched
  exact (State.setLoop_frame _ _ _ (sub hu rfl) hz)

theorem State.loopDirty_frame {F : Place → Bool} {z : State} (s : State) (n : Nat)
    (hu : Al F [.regs]) (hz : Fr F z s) :
    Fr F z (State.loopDirty s n) := by
  unfold State.loopDirty
  exact (State.wrB_frame _ _ _ (sub hu rfl) hz)

theorem State.loopTuneCopy_frame {F : Place → Bool} {z : State} (s : State) (n : Nat)
    (hu : Al F [.gb, .lp, .regs, .gates]) (hz : Fr F z s) :
    Fr F z (State.loopTuneCopy s n) := by
  unfold State.loopTuneCopy
  exact (by
    split
    · exact (fr_ite (by
        extract_lets +onlyGivenNames x0_
        extract_lets +onlyGivenNames x1_
        have h1_ : Fr F z x1_ := (State.setLoop_frame _ _ _ (sub hu rfl) hz)
        try clear_value x1_
        revert x1_
        refine fr_id ?_
        intro x1_ h1_
        exact (State.post_frame _ _ _ _ _ _ (sub hu rfl) (State.loopDirty_frame _ _ (sub hu rfl) (State.wr_frame _ _ _ (sub hu rfl) h1_))))
      hz)
    · exact hz)

theorem State.loopMiss_frame {F : Place → Bool} {z : State} (s : State) (n : Nat) (demand : Nat)
    (hu : Al F [.gb, .lp, .regs, .gates]) (hz : Fr F z s) :
    Fr F z (State.loopMiss s n demand) := by
  unfold State.loopMiss
  extract_lets +onlyGivenNames x0_
  extract_lets +onlyGivenNames x1_
  have h1_ : Fr F z x1_ := (State.setLoop_frame _ _ _ (sub hu rfl) hz)
  try clear_value x1_
  revert x1_
  refine fr_id ?_
  intro x1_ h1_
  extract_lets +onlyGivenNames x2_
  have h2_ : Fr F z x2_ := (State.wr_frame _ _ _ (sub hu rfl) (State.bump_frame _ _ (sub hu rfl) (State.wr_frame _ _ _ (sub hu rfl) h1_)))
  try clear_value x2_
  revert x2_
  refine fr_id ?_
  intro x2_ h2_
  exact (State.post_frame _ _ _ _ _ _ (sub hu rfl) h2_)

theorem State.loopTables_frame {F : Place → Bool} {z : State} (s : State) (n : Nat) (x : Int)
    (hu : Al F [.lp]) (hz : Fr F z s) :
    Fr F z (State.loopTables s n x).1 := by
  unfold State.loopTables
  extract_lets +onlyGivenNames x0_
  extract_lets +onlyGivenNames x1_
  extract_lets +onlyGivenNames x2_
  extract_lets +onlyGivenNames x3_
  exact (fr_iteP (State.setLoop_frame _ _ _ (sub hu rfl) hz)
  hz)

theorem State.loopHealth_frame {F : Place → Bool} {z : State} (s : State) (n : Nat) (x : LoopSmp)
    (hu : Al F [.gb, .lp, .regs, .gates]) (hz : Fr F z s) :
    Fr F z (State.loopHealth s n x) := by
  unfold State.loopHealth
  extract_lets +onlyGivenNames x0_
  extract_lets +onlyGivenNames x1_
  have h1_ : Fr F z x1_ := (State.wr_frame _ _ _ (sub hu rfl) hz)
  try clear_value x1_
  revert x1_
  refine fr_id ?_
  intro x1_ h1_
  extract_lets +onlyGivenNames x2_
  have h2_ : Fr F z x2_ := (fr_ite (State.post_frame _ _ _ _ _ _ (sub hu rfl) h1_)
  (fr_ite (State.post_frame _ _ _ _ _ _ (sub hu rfl) h1_)
  h1_))
  try clear_value x2_
  revert x2_
  refine fr_id ?_
  intro x2_ h2_
  extract_lets +onlyGivenNames x3_
  have h3_ : Fr F z x3_ := (fr_ite (State.post_frame _ _ _ _ _ _ (sub hu rfl) h2_)
  h2_)
  try clear_value x3_
  revert x3_
  refine fr_id ?_
  intro x3_ h3_
  exact (State.setLoop_frame _ _ _ (sub hu rfl) h3_)

theorem State.loopShow_frame {F : Place → Bool} {z : State} (s : State) (n : Nat) (f : LoopFlags) (frozen : Bool) (safe : Bool) (auto : Bool)
    (hu : Al F [.regs]) (hz : Fr F z s) :
    Fr F z (State.loopShow s n f frozen safe auto) := by
  unfold State.loopShow
  extract_lets +onlyGivenNames x0_
  extract_lets +onlyGivenNames x1_
  exact (State.wr_frame _ _ _ (sub hu rfl) (State.wr_frame _ _ _ (sub hu rfl) hz))

theorem State.loopEval_frame {F : Place → Bool} {z : State} (s : State) (n : Nat) (x : LoopSmp)
    (hu : Al F [.gb, .lp, .regs, .gates]) (hz : Fr F z s) :
    Fr F z (State.loopEval s n x) := by
  unfold State.loopEval
  extract_lets +onlyGivenNames x0_
  extract_lets +onlyGivenNames x1_
  have h1_ : Fr F z x1_.1 := (State.loopTables_frame _ _ _ (sub hu rfl) (State.loopHealth_frame _ _ _ (sub hu rfl) hz))
  try clear_value x1_
  revert x1_
  refine fr_id ?_
  intro x1_ h1_
  extract_lets +onlyGivenNames x2_
  have h2_ : Fr F z x2_ := h1_
  try clear_value x2_
  revert x2_
  refine fr_id ?_
  intro x2_ h2_
  extract_lets +onlyGivenNames x3_
  extract_lets +onlyGivenNames x4_
  extract_lets +onlyGivenNames x5_
  extract_lets +onlyGivenNames x6_
  extract_lets +onlyGivenNames x7_
  extract_lets +onlyGivenNames x8_
  extract_lets +onlyGivenNames x9_
  extract_lets +onlyGivenNames x10_
  exact (fr_ite (State.loopShow_frame _ _ _ _ _ _ (sub hu rfl) (State.loopShow_frame _ _ _ _ _ _ (sub hu rfl) (State.setLoop_frame _ _ _ (sub hu rfl) h2_)))
  (fr_ite (by
    extract_lets +onlyGivenNames x11_
    exact (State.loopShow_frame _ _ _ _ _ _ (sub hu rfl) (State.setLoop_frame _ _ _ (sub hu rfl) h2_)))
  (fr_ite (by
    extract_lets +onlyGivenNames x12_
    exact (State.loopShow_frame _ _ _ _ _ _ (sub hu rfl) (State.setLoop_frame _ _ _ (sub hu rfl) h2_)))
  (fr_ite (by
    extract_lets +onlyGivenNames x13_
    extract_lets +onlyGivenNames x14_
    exact (State.loopShow_frame _ _ _ _ _ _ (sub hu rfl) (State.setLoop_frame _ _ _ (sub hu rfl) h2_)))
  (by
    extract_lets +onlyGivenNames x15_
    exact (State.loopShow_frame _ _ _ _ _ _ (sub hu rfl) (State.setLoop_frame _ _ _ (sub hu rfl) h2_)))))))

theorem State.loopRun_frame {F : Place → Bool} {z : State} (s : State) (ecc : Nat → Bool) (slots demand used : Nat)
    (l : List (Nat × LoopSmp)) 
    (hu : Al F [.gb, .lp, .regs, .gates]) (hz : Fr F z s) : Fr F z (State.loopRun s ecc slots demand used l) := by
  induction l generalizing s used with
  | nil => exact hz
  | cons x t ih =>
    obtain ⟨n, x⟩ := x
    unfold State.loopRun
    have h := State.loopTuneCopy_frame s n (sub hu rfl) hz
    exact fr_ite (ih _ _ (State.loopMiss_frame _ _ _ (sub hu rfl) h)) (ih _ _ (State.loopEval_frame _ _ _ (sub hu rfl) h))

theorem State.loopTake_frame {F : Place → Bool} {z : State} (s : State) (t : Nat) (safe : Bool) (img : List Byte)
    (hu : Al F [.lp]) (hz : Fr F z s) :
    Fr F z (State.loopTake s t safe img) := by
  unfold State.loopTake
  exact (fr_foldl (fun _ _ h0_ => (fr_ite (by
    extract_lets +onlyGivenNames x1_
    exact (State.setLoop_frame _ _ _ (sub hu rfl) h0_))
  h0_))
  hz)

theorem State.loopLockStates_frame {F : Place → Bool} {z : State} (s : State)
    (hu : Al F [.regs]) (hz : Fr F z s) :
    Fr F z (State.loopLockStates s) := by
  unfold State.loopLockStates
  exact (fr_foldl (fun _ _ h0_ => (State.wrB_frame _ _ _ (sub hu rfl) h0_))
  hz)

theorem State.tunePend_frame {F : Place → Bool} {z : State} (s : State) (n : Nat) (master : Nat) (init : Bool)
    (hu : Al F [.lp, .regs]) (hz : Fr F z s) :
    Fr F z (State.tunePend s n master init) := by
  unfold State.tunePend
  extract_lets +onlyGivenNames x0_
  exact (State.wr_frame _ _ _ (sub hu rfl) (State.wr_frame _ _ _ (sub hu rfl) (State.setLoop_frame _ _ _ (sub hu rfl) hz)))

theorem State.setShadow_frame {F : Place → Bool} {z : State} (s : State) (n : Nat) (t : TuneSet)
    (hu : Al F [.regs]) (hz : Fr F z s) :
    Fr F z (State.setShadow s n t) := by
  unfold State.setShadow
  exact (State.loopDirty_frame _ _ (sub hu rfl) (fr_foldl (fun _ _ h0_ => (by
    extract_lets +onlyGivenNames x1_
    exact (State.wr_frame _ _ _ (sub hu rfl) h0_)))
  hz))

theorem State.loopDefaults_frame {F : Place → Bool} {z : State} (s : State) (n : Nat)
    (hu : Al F [.lp, .regs]) (hz : Fr F z s) :
    Fr F z (State.loopDefaults s n) := by
  unfold State.loopDefaults
  extract_lets +onlyGivenNames x0_
  have h0_ : Fr F z x0_ := (State.setShadow_frame _ _ _ (sub hu rfl) hz)
  try clear_value x0_
  revert x0_
  refine fr_id ?_
  intro x0_ h0_
  exact (State.loopDirty_frame _ _ (sub hu rfl) (State.setLoop_frame _ _ _ (sub hu rfl) h0_))

theorem State.loopLock_frame {F : Place → Bool} {z : State} (s : State)
    (hu : Al F [.lp, .regs, .gates]) (hz : Fr F z s) :
    Fr F z (State.loopLock s) := by
  unfold State.loopLock
  extract_lets +onlyGivenNames x0_
  extract_lets +onlyGivenNames x1_
  extract_lets +onlyGivenNames x2_
  extract_lets +onlyGivenNames x3_
  have h3_ : Fr F z x3_ := (State.loopLockStates_frame _ (sub hu rfl) (State.wr_frame _ _ _ (sub hu rfl) (State.wr_frame _ _ _ (sub hu rfl) (fr_lp hz (al hu rfl)))))
  try clear_value x3_
  revert x3_
  refine fr_id ?_
  intro x3_ h3_
  extract_lets +onlyGivenNames x4_
  have h4_ : Fr F z x4_ := (fr_foldl (fun _ _ h5_ => (State.loopDefaults_frame _ _ (sub hu rfl) h5_))
  h3_)
  try clear_value x4_
  revert x4_
  refine fr_id ?_
  intro x4_ h4_
  exact (fr_ite h4_
  (State.wake_frame _ _ (sub hu rfl) h4_))

theorem State.loopCmdWrite_frame {F : Place → Bool} {z : State} (s : State) (m : Master) (n : Nat) (v : Nat)
    (hu : Al F [.ban, .gb, .lp, .regs, .resp, .gates]) (hz : Fr F z s) :
    Fr F z (State.loopCmdWrite s m n v) := by
  unfold State.loopCmdWrite
  exact (fr_ite hz
  (fr_ite (State.refuseWrite_frame _ _ _ (sub hu rfl) hz)
  (by
    extract_lets +onlyGivenNames x0_
    have h0_ : Fr F z x0_ := (State.mirror_frame _ _ _ _ (sub hu rfl) hz)
    try clear_value x0_
    revert x0_
    refine fr_id ?_
    intro x0_ h0_
    exact (fr_ite (State.wr_frame _ _ _ (sub hu rfl) (State.setShadow_frame _ _ _ (sub hu rfl) h0_))
    (fr_ite (State.tunePend_frame _ _ _ _ (sub hu rfl) (State.setShadow_frame _ _ _ (sub hu rfl) h0_))
    (fr_ite (State.post_frame _ _ _ _ _ _ (sub hu rfl) (State.wr_frame _ _ _ (sub hu rfl) h0_))
    (State.tunePend_frame _ _ _ _ (sub hu rfl) h0_)))))))

theorem execLoopCommit_frame {F : Place → Bool} {z : State} (m : Master) (n : Fin 512) (s : State)
    (hu : Al F [.ban, .gb, .lp, .regs, .resp, .gates]) (hz : Fr F z s) :
    FrA F z (execLoopCommit m n s) := by
  unfold execLoopCommit
  exact (frA_next (State.access_frame _ _ _ _ _ _ (sub hu rfl) hz (fun _ h0_ => (State.loopCmdWrite_frame _ _ _ _ (sub hu rfl) h0_))))

theorem State.loopShadowWrite_frame {F : Place → Bool} {z : State} (s : State) (m : Master) (n : Nat) (j : Nat) (v : Nat)
    (hu : Al F [.ban, .gb, .regs, .resp, .gates]) (hz : Fr F z s) :
    Fr F z (State.loopShadowWrite s m n j v) := by
  unfold State.loopShadowWrite
  exact (fr_ite hz
  (fr_ite hz
  (fr_ite (State.refuseWrite_frame _ _ _ (sub hu rfl) hz)
  (by
    extract_lets +onlyGivenNames x0_
    extract_lets +onlyGivenNames x1_
    have h1_ : Fr F z x1_ := (State.mirror_frame _ _ _ _ (sub hu rfl) hz)
    try clear_value x1_
    revert x1_
    refine fr_id ?_
    intro x1_ h1_
    exact (State.loopDirty_frame _ _ (sub hu rfl) (State.wr_frame _ _ _ (sub hu rfl) h1_))))))

theorem State.loopApply_frame {F : Place → Bool} {z : State} (s : State) (n : Nat)
    (hu : Al F [.isl, .axes, .lp, .regs, .free]) (hz : Fr F z s) :
    Fr F z (State.loopApply s n) := by
  unfold State.loopApply
  exact (by
    split
    · exact hz
    · extract_lets +onlyGivenNames x0_
      extract_lets +onlyGivenNames x1_
      extract_lets +onlyGivenNames x2_
      have h2_ : Fr F z x2_ := (State.wr_frame _ _ _ (sub hu rfl) hz)
      try clear_value x2_
      revert x2_
      refine fr_id ?_
      intro x2_ h2_
      extract_lets +onlyGivenNames x3_
      extract_lets +onlyGivenNames x4_
      have h4_ : Fr F z x4_ := (fr_ite (State.setOut_frame _ _ _ _ (sub hu rfl) h2_)
      (fr_ite (State.setAxis_frame _ _ _ (sub hu rfl) h2_)
      h2_))
      try clear_value x4_
      revert x4_
      refine fr_id ?_
      intro x4_ h4_
      exact (fr_lp h4_ (al hu rfl)))

theorem execLoopDiscard_frame {F : Place → Bool} {z : State} (m : Master) (n : Fin 512) (s : State)
    (hu : Al F [.ban, .gb, .lp, .regs, .resp, .gates]) (hz : Fr F z s) :
    FrA F z (execLoopDiscard m n s) := by
  unfold execLoopDiscard
  exact (frA_next (State.access_frame _ _ _ _ _ _ (sub hu rfl) hz (fun _ h0_ => (State.loopCmdWrite_frame _ _ _ _ (sub hu rfl) h0_))))

theorem State.loopTick_frame {F : Place → Bool} {z : State} (s : State) (ecc : Nat → Bool) (slots : Nat) (given : Option (List LoopSmp))
    (hu : Al F [.ban, .isl, .gb, .axes, .lp, .regs, .free, .gates]) (hz : Fr F z s) :
    Fr F z (State.loopTick s ecc slots given) := by
  unfold State.loopTick
  extract_lets +onlyGivenNames x0_
  extract_lets +onlyGivenNames x1_
  extract_lets +onlyGivenNames x2_
  extract_lets +onlyGivenNames x3_
  have h3_ : Fr F z x3_ := (fr_foldl (fun _ _ h4_ => (State.loopApply_frame _ _ (sub hu rfl) h4_))
  hz)
  try clear_value x3_
  revert x3_
  refine fr_id ?_
  intro x3_ h3_
  extract_lets +onlyGivenNames x5_
  extract_lets +onlyGivenNames x6_
  extract_lets +onlyGivenNames x7_
  have h7_ : Fr F z x7_ := (fr_ite (State.banSend_frame _ _ _ (sub hu rfl) h3_)
  h3_)
  try clear_value x7_
  revert x7_
  refine fr_id ?_
  intro x7_ h7_
  extract_lets +onlyGivenNames x8_
  extract_lets +onlyGivenNames x9_
  have h9_ : Fr F z x9_ := (State.wr_frame _ _ _ (sub hu rfl) h7_)
  try clear_value x9_
  revert x9_
  refine fr_id ?_
  intro x9_ h9_
  extract_lets +onlyGivenNames x10_
  have h10_ : Fr F z x10_ := (State.loopRun_frame _ _ _ _ _ _ (sub hu rfl) (State.wr_frame _ _ _ (sub hu rfl) h9_))
  try clear_value x10_
  revert x10_
  refine fr_id ?_
  intro x10_ h10_
  exact (fr_lp h10_ (al hu rfl))

theorem execLoopInit_frame {F : Place → Bool} {z : State} (m : Master) (n : Fin 512) (s : State)
    (hu : Al F [.ban, .gb, .lp, .regs, .resp, .gates]) (hz : Fr F z s) :
    FrA F z (execLoopInit m n s) := by
  unfold execLoopInit
  exact (frA_next (State.access_frame _ _ _ _ _ _ (sub hu rfl) hz (fun _ h0_ => (State.loopCmdWrite_frame _ _ _ _ (sub hu rfl) h0_))))

theorem State.samplesTake_frame {F : Place → Bool} {z : State} (s : State) (samples : List LoopSmp) (ecc : List (Fin 512)) (slots : Nat)
    (hu : Al F [.ban, .isl, .gb, .axes, .lp, .regs, .free, .gates, .frc]) (hz : Fr F z s) :
    Fr F z (State.samplesTake s samples ecc slots) := by
  unfold State.samplesTake
  exact (by
    split
    · exact (fr_ite (by
        extract_lets +onlyGivenNames x0_
        have h0_ : Fr F z x0_ := (fr_frc hz (al hu rfl))
        try clear_value x0_
        revert x0_
        refine fr_id ?_
        intro x0_ h0_
        exact (State.loopTick_frame _ _ _ _ (sub hu rfl) h0_))
      hz)
    · exact hz)

theorem execLoopTick_frame {F : Place → Bool} {z : State} (ecc : List (Fin 512)) (slots : Fin 513) (s : State)
    (hu : Al F [.ban, .isl, .gb, .axes, .lp, .regs, .free, .gates, .frc]) (hz : Fr F z s) :
    FrA F z (execLoopTick ecc slots s) := by
  unfold execLoopTick
  exact (by
    split
    · exact (fr_iteA (by
        extract_lets +onlyGivenNames x0_
        have h0_ : Fr F z x0_ := (fr_frc hz (al hu rfl))
        try clear_value x0_
        revert x0_
        refine fr_id ?_
        intro x0_ h0_
        exact (frA_next (State.loopTick_frame _ _ _ _ (sub hu rfl) h0_)))
      (frA_next hz))
    · exact (frA_next hz))

end Sys2Proof.Machine
end

