-- ==== Sys2Proof/Laws/FrameRounds.lean ====
section
/-!
SUPPORT. What the operations of Machine/Rounds.lean may change (Laws/Frames.lean).
-/
namespace Sys2Proof.Machine

theorem State.rndShow_frame {F : Place → Bool} {z : State} (s : State)
    (hu : Al F [.regs]) (hz : Fr F z s) :
    Fr F z (State.rndShow s) := by
  unfold State.rndShow
  extract_lets +onlyGivenNames x0_
  extract_lets +onlyGivenNames x1_
  extract_lets +onlyGivenNames x2_
  have h2_ : Fr F z x2_ := (State.wr_frame _ _ _ (sub hu rfl) hz)
  try clear_value x2_
  revert x2_
  refine fr_id ?_
  intro x2_ h2_
  extract_lets +onlyGivenNames x3_
  have h3_ : Fr F z x3_ := (State.wr_frame _ _ _ (sub hu rfl) h2_)
  try clear_value x3_
  revert x3_
  refine fr_id ?_
  intro x3_ h3_
  exact (State.wrB_frame _ _ _ (sub hu rfl) h3_)

theorem State.wearSummary_frame {F : Place → Bool} {z : State} (s : State)
    (hu : Al F [.regs]) (hz : Fr F z s) :
    Fr F z (State.wearSummary s) := by
  unfold State.wearSummary
  extract_lets +onlyGivenNames x0_
  exact (State.wr_frame _ _ _ (sub hu rfl) (State.wr_frame _ _ _ (sub hu rfl) hz))

theorem State.setWearQ_frame {F : Place → Bool} {z : State} (s : State) (i : Nat) (v : Nat)
    (hu : Al F [.regs]) (hz : Fr F z s) :
    Fr F z (State.setWearQ s i v) := by
  unfold State.setWearQ
  exact (State.wr64_frame _ _ _ _ (sub hu rfl) hz)

theorem State.rndRole_frame {F : Place → Bool} {z : State} (s : State)
    (hu : Al F [.regs]) (hz : Fr F z s) :
    Fr F z (State.rndRole s) := by
  unfold State.rndRole
  exact (fr_foldl (fun _ _ h0_ => (State.wr_frame _ _ _ (sub hu rfl) h0_))
  hz)

theorem State.rndExpire_frame {F : Place → Bool} {z : State} (s : State)
    (hu : Al F [.regs, .rnd]) (hz : Fr F z s) :
    Fr F z (State.rndExpire s) := by
  unfold State.rndExpire
  extract_lets +onlyGivenNames x0_
  extract_lets +onlyGivenNames x1_
  have h1_ : Fr F z x1_ := (State.bumpBy_frame _ _ _ (sub hu rfl) hz)
  try clear_value x1_
  revert x1_
  refine fr_id ?_
  intro x1_ h1_
  exact (fr_rnd h1_ (al hu rfl))

theorem State.rndWakes_frame {F : Place → Bool} {z : State} (s : State) (i : Nat)
    (hu : Al F [.regs, .gates]) (hz : Fr F z s) :
    Fr F z (State.rndWakes s i) := by
  unfold State.rndWakes
  exact (fr_ite (State.wake_frame _ _ (sub hu rfl) hz)
  (fr_ite (State.wake_frame _ _ (sub hu rfl) hz)
  (fr_ite (State.wake_frame _ _ (sub hu rfl) hz)
  (fr_ite (State.wake_frame _ _ (sub hu rfl) hz)
  (fr_ite (State.wake_frame _ _ (sub hu rfl) hz)
  (fr_ite (fr_foldl (fun _ _ h0_ => (State.wake_frame _ _ (sub hu rfl) h0_))
  hz)
  (fr_ite (State.wake_frame _ _ (sub hu rfl) hz)
  (fr_ite (fr_foldl (fun _ _ h1_ => (State.wake_frame _ _ (sub hu rfl) (State.wake_frame _ _ (sub hu rfl) h1_)))
  hz)
  hz))))))))

theorem State.rndReset_frame {F : Place → Bool} {z : State} (s : State)
    (hu : Al F [.regs, .rnd]) (hz : Fr F z s) :
    Fr F z (State.rndReset s) := by
  unfold State.rndReset
  extract_lets +onlyGivenNames x0_
  have h0_ : Fr F z x0_ := (fr_rnd hz (al hu rfl))
  try clear_value x0_
  revert x0_
  refine fr_id ?_
  intro x0_ h0_
  exact (State.rndRole_frame _ (sub hu rfl) (fr_foldl (fun _ _ h1_ => (State.wr_frame _ _ _ (sub hu rfl) h1_))
  h0_))

theorem State.wearStress_frame {F : Place → Bool} {z : State} (s : State) (n : Nat)
    (hu : Al F [.wear, .regs]) (hz : Fr F z s) :
    Fr F z (State.wearStress s n) := by
  unfold State.wearStress
  extract_lets +onlyGivenNames x0_
  extract_lets +onlyGivenNames x1_
  extract_lets +onlyGivenNames x2_
  have h2_ : Fr F z x2_ := (State.setWearQ_frame _ _ _ (sub hu rfl) hz)
  try clear_value x2_
  revert x2_
  refine fr_id ?_
  intro x2_ h2_
  exact (fr_wear h2_ (al hu rfl))

theorem State.rndIssue_frame {F : Place → Bool} {z : State} (s : State) (us : Nat) (until_ : Nat)
    (hu : Al F [.regs, .gates, .rnd]) (hz : Fr F z s) :
    Fr F z (State.rndIssue s us until_) := by
  unfold State.rndIssue
  exact (fr_ite hz
  (by
    extract_lets +onlyGivenNames x0_
    have h0_ : Fr F z x0_ := (State.wake_frame _ _ (sub hu rfl) hz)
    try clear_value x0_
    revert x0_
    refine fr_id ?_
    intro x0_ h0_
    exact (fr_rnd h0_ (al hu rfl))))

theorem execRndStopGrant_frame {F : Place → Bool} {z : State} (s : State)
    (hu : Al F [.regs, .gates, .frc, .rnd]) (hz : Fr F z s) :
    FrA F z (execRndStopGrant s) := by
  unfold execRndStopGrant
  exact (fr_iteA (by
    extract_lets +onlyGivenNames x0_
    extract_lets +onlyGivenNames x1_
    extract_lets +onlyGivenNames x2_
    extract_lets +onlyGivenNames x3_
    have h3_ : Fr F z x3_ := (by
      intro p hp
      cases p
      case rnd => exact fr_no (al hu rfl) hp
      case frc => exact fr_no (al hu rfl) hp
      all_goals exact fr_eq (hz _ hp) rfl)
    try clear_value x3_
    revert x3_
    refine fr_id ?_
    intro x3_ h3_
    exact (frA_next (State.rndIssue_frame _ _ _ (sub hu rfl) (State.rndExpire_frame _ (sub hu rfl) h3_))))
  (frA_next hz))

theorem State.rndGrant_frame {F : Place → Bool} {z : State} (s : State) (t : Nat) (next : Nat)
    (hu : Al F [.regs, .gates, .rnd]) (hz : Fr F z s) :
    Fr F z (State.rndGrant s t next) := by
  unfold State.rndGrant
  exact (fr_ite hz
  (State.rndIssue_frame _ _ _ (sub hu rfl) hz))

theorem State.wearShow_frame {F : Place → Bool} {z : State} (s : State) (i : Nat)
    (hu : Al F [.wear, .gb, .regs, .gates]) (hz : Fr F z s) :
    Fr F z (State.wearShow s i) := by
  unfold State.wearShow
  exact (fr_ite (State.wr_frame _ _ _ (sub hu rfl) (State.wr_frame _ _ _ (sub hu rfl) hz))
  (by
    extract_lets +onlyGivenNames x0_
    extract_lets +onlyGivenNames x1_
    extract_lets +onlyGivenNames x2_
    extract_lets +onlyGivenNames x3_
    have h3_ : Fr F z x3_ := (State.wr_frame _ _ _ (sub hu rfl) (State.wr_frame _ _ _ (sub hu rfl) hz))
    try clear_value x3_
    revert x3_
    refine fr_id ?_
    intro x3_ h3_
    extract_lets +onlyGivenNames x4_
    have h4_ : Fr F z x4_ := (State.wr_frame _ _ _ (sub hu rfl) (State.wrB_frame _ _ _ (sub hu rfl) h3_))
    try clear_value x4_
    revert x4_
    refine fr_id ?_
    intro x4_ h4_
    extract_lets +onlyGivenNames x5_
    extract_lets +onlyGivenNames x6_
    have h6_ : Fr F z x6_ := (fr_ite (State.post_frame _ _ _ _ _ _ (sub hu rfl) h4_)
    h4_)
    try clear_value x6_
    revert x6_
    refine fr_id ?_
    intro x6_ h6_
    extract_lets +onlyGivenNames x7_
    have h7_ : Fr F z x7_ := (fr_ite (State.post_frame _ _ _ _ _ _ (sub hu rfl) h6_)
    h6_)
    try clear_value x7_
    revert x7_
    refine fr_id ?_
    intro x7_ h7_
    extract_lets +onlyGivenNames x8_
    exact (fr_wear h7_ (al hu rfl))))

theorem State.wearStore_frame {F : Place → Bool} {z : State} (s : State) (i : Nat)
    (hu : Al F [.wear, .gb, .regs, .gates]) (hz : Fr F z s) :
    Fr F z (State.wearStore s i) := by
  unfold State.wearStore
  extract_lets +onlyGivenNames x0_
  exact (State.wearShow_frame _ _ (sub hu rfl) (fr_wear hz (al hu rfl)))

theorem execRndPassLate_frame {F : Place → Bool} {z : State} (s : State)
    (hu : Al F [.gb, .regs, .gates, .frc, .rnd]) (hz : Fr F z s) :
    FrA F z (execRndPassLate s) := by
  unfold execRndPassLate
  extract_lets +onlyGivenNames x0_
  exact (fr_iteA (by
    extract_lets +onlyGivenNames x1_
    have h1_ : Fr F z x1_ := (State.waitOp_frame _ _ (sub hu rfl) hz)
    try clear_value x1_
    revert x1_
    refine fr_id ?_
    intro x1_ h1_
    extract_lets +onlyGivenNames x2_
    have h2_ : Fr F z x2_ := (State.post_frame _ _ _ _ _ _ (sub hu rfl) (State.wr_frame _ _ _ (sub hu rfl) h1_))
    try clear_value x2_
    revert x2_
    refine fr_id ?_
    intro x2_ h2_
    exact (frA_next (fr_rnd h2_ (al hu rfl))))
  (frA_next hz))

theorem State.wearHoldup_frame {F : Place → Bool} {z : State} (s : State) (permille : Nat) (load10 : Nat) (returned : Bool)
    (hu : Al F [.wear, .gb, .regs, .gates]) (hz : Fr F z s) :
    Fr F z (State.wearHoldup s permille load10 returned) := by
  unfold State.wearHoldup
  extract_lets +onlyGivenNames x0_
  have h0_ : Fr F z x0_ := (fr_ite hz
  (State.wearStore_frame _ _ (sub hu rfl) (State.setWearQ_frame _ _ _ (sub hu rfl) hz)))
  try clear_value x0_
  revert x0_
  refine fr_id ?_
  intro x0_ h0_
  exact (State.post_frame _ _ _ _ _ _ (sub hu rfl) (State.wearSummary_frame _ (sub hu rfl) h0_))

theorem execRndGrantClose_frame {F : Place → Bool} {z : State} (s : State)
    (hu : Al F [.regs, .frc, .rnd]) (hz : Fr F z s) :
    FrA F z (execRndGrantClose s) := by
  unfold execRndGrantClose
  exact (by
    split
    · exact (frA_next hz)
    · exact (frA_next (State.rndExpire_frame _ (sub hu rfl) (fr_frc hz (al hu rfl)))))

theorem State.rndPass_frame {F : Place → Bool} {z : State} (s : State)
    (hu : Al F [.gb, .regs, .gates, .rnd]) (hz : Fr F z s) :
    Fr F z (State.rndPass s) := by
  unfold State.rndPass
  exact (fr_ite (by
    extract_lets +onlyGivenNames x0_
    extract_lets +onlyGivenNames x1_
    extract_lets +onlyGivenNames x2_
    have h2_ : Fr F z x2_ := (State.wr_frame _ _ _ (sub hu rfl) (State.wr_frame _ _ _ (sub hu rfl) (State.bump_frame _ _ (sub hu rfl) hz)))
    try clear_value x2_
    revert x2_
    refine fr_id ?_
    intro x2_ h2_
    extract_lets +onlyGivenNames x3_
    have h3_ : Fr F z x3_ := (State.post_frame _ _ _ _ _ _ (sub hu rfl) h2_)
    try clear_value x3_
    revert x3_
    refine fr_id ?_
    intro x3_ h3_
    exact (fr_rnd h3_ (al hu rfl)))
  hz)

theorem execThermalStressUpdate_frame {F : Place → Bool} {z : State} (s : State)
    (hu : Al F [.wear, .regs, .frc, .rnd]) (hz : Fr F z s) :
    FrA F z (execThermalStressUpdate s) := by
  unfold execThermalStressUpdate
  exact (fr_iteA (by
    extract_lets +onlyGivenNames x0_
    have h0_ : Fr F z x0_ := (fr_frc hz (al hu rfl))
    try clear_value x0_
    revert x0_
    refine fr_id ?_
    intro x0_ h0_
    extract_lets +onlyGivenNames x1_
    extract_lets +onlyGivenNames x2_
    have h2_ : Fr F z x2_ := (fr_rnd h0_ (al hu rfl))
    try clear_value x2_
    revert x2_
    refine fr_id ?_
    intro x2_ h2_
    exact (frA_next (fr_foldl (fun _ _ h3_ => (State.wearStress_frame _ _ (sub hu rfl) h3_))
    h2_)))
  (frA_next hz))

theorem State.wearLock_frame {F : Place → Bool} {z : State} (s : State)
    (hu : Al F [.wear, .gb, .regs, .gates]) (hz : Fr F z s) :
    Fr F z (State.wearLock s) := by
  unfold State.wearLock
  exact (State.wearSummary_frame _ (sub hu rfl) (fr_foldl (fun _ _ h0_ => (State.wearShow_frame _ _ (sub hu rfl) h0_))
  hz))

theorem State.rndFail_frame {F : Place → Bool} {z : State} (s : State) (i : Nat) (detail : Nat)
    (hu : Al F [.gb, .regs, .gates, .rnd]) (hz : Fr F z s) :
    Fr F z (State.rndFail s i detail) := by
  unfold State.rndFail
  extract_lets +onlyGivenNames x0_
  have h0_ : Fr F z x0_ := (State.bump_frame _ _ (sub hu rfl) (State.wr_frame _ _ _ (sub hu rfl) hz))
  try clear_value x0_
  revert x0_
  refine fr_id ?_
  intro x0_ h0_
  extract_lets +onlyGivenNames x1_
  have h1_ : Fr F z x1_ := (State.post_frame _ _ _ _ _ _ (sub hu rfl) h0_)
  try clear_value x1_
  revert x1_
  refine fr_id ?_
  intro x1_ h1_
  exact (fr_rnd h1_ (al hu rfl))

theorem execWearSample_frame {F : Place → Bool} {z : State} (mram : Nat) (flash : Nat) (s : State)
    (hu : Al F [.wear, .gb, .tim, .regs, .gates, .frc]) (hz : Fr F z s) :
    FrA F z (execWearSample mram flash s) := by
  unfold execWearSample
  exact (fr_iteA (frA_next hz)
  (by
    extract_lets +onlyGivenNames x0_
    extract_lets +onlyGivenNames x1_
    have h1_ : Fr F z x1_ := (State.driftCount_frame _ (sub hu rfl) (State.waitOp_frame _ _ (sub hu rfl) hz))
    try clear_value x1_
    revert x1_
    refine fr_id ?_
    intro x1_ h1_
    extract_lets +onlyGivenNames x2_
    have h2_ : Fr F z x2_ := (State.setWearQ_frame _ _ _ (sub hu rfl) (State.setWearQ_frame _ _ _ (sub hu rfl) h1_))
    try clear_value x2_
    revert x2_
    refine fr_id ?_
    intro x2_ h2_
    extract_lets +onlyGivenNames x3_
    extract_lets +onlyGivenNames x4_
    have h4_ : Fr F z x4_ := by
      subst x4_
      exact (by
        clear_value x3_
        split
        · exact (State.setWearQ_frame _ _ _ (sub hu rfl) h2_)
        · exact h2_)
    try clear_value x4_
    revert x4_
    refine fr_id ?_
    intro x4_ h4_
    extract_lets +onlyGivenNames x5_
    extract_lets +onlyGivenNames x6_
    have h6_ : Fr F z x6_ := (fr_wear h4_ (al hu rfl))
    try clear_value x6_
    revert x6_
    refine fr_id ?_
    intro x6_ h6_
    extract_lets +onlyGivenNames x7_
    exact (frA_next (State.wearSummary_frame _ (sub hu rfl) (fr_foldl (fun _ _ h8_ => (State.wearStore_frame _ _ (sub hu rfl) h8_))
    h6_)))))

end Sys2Proof.Machine
end

