-- ==== Sys2Proof/Laws/FrameSolver.lean ====
section
/-!
SUPPORT. What the operations of Machine/Solver.lean may change (Laws/Frames.lean).
-/
namespace Sys2Proof.Machine

theorem State.rndYield_frame {F : Place → Bool} {z : State} (s : State)
    (hu : Al F [.rnd]) (hz : Fr F z s) :
    Fr F z (State.rndYield s) := by
  unfold State.rndYield
  exact (by
    split
    · extract_lets +onlyGivenNames x0_
      exact (fr_ite (fr_rnd hz (al hu rfl))
      hz)
    · exact hz)

theorem State.setReq_frame {F : Place → Bool} {z : State} (s : State) (r : SlvRequest)
    (hu : Al F [.slv]) (hz : Fr F z s) :
    Fr F z (State.setReq s r) := by
  unfold State.setReq
  exact (fr_slv hz (al hu rfl))

theorem State.slvStart_frame {F : Place → Bool} {z : State} (s : State) (r : SlvRequest)
    (hu : Al F [.gb, .regs, .gates]) (hz : Fr F z s) :
    Fr F z (State.slvStart s r).1 := by
  unfold State.slvStart
  extract_lets +onlyGivenNames x0_
  exact (by
    split
    · exact hz
    · exact (fr_iteP hz
      (fr_iteP (by
        extract_lets +onlyGivenNames x1_
        exact (fr_iteP hz
        hz))
      (State.post_frame _ _ _ _ _ _ (sub hu rfl) hz))))

theorem State.slvAdmit_frame {F : Place → Bool} {z : State} (s : State) (r : SlvRequest) (ecc : Bool) (may : SlvMay)
    (hu : Al F [.gb, .regs, .gates]) (hz : Fr F z s) :
    Fr F z (State.slvAdmit s r ecc may).1 := by
  unfold State.slvAdmit
  exact (fr_iteP hz
  (fr_iteP hz
  (fr_iteP hz
  (fr_iteP hz
  (fr_iteP hz
  (fr_iteP hz
  (fr_iteP hz
  (by
    extract_lets +onlyGivenNames x0_
    exact (fr_iteP hz
    (fr_iteP hz
    (by
      extract_lets +onlyGivenNames x1_
      exact (by
        split
        · exact hz
        · extract_lets +onlyGivenNames x2_
          have h2_ : Fr F z x2_.1 := (State.slvStart_frame _ _ (sub hu rfl) hz)
          try clear_value x2_
          revert x2_
          refine fr_id ?_
          intro x2_ h2_
          exact h2_))))))))))))

theorem State.slvTake_frame {F : Place → Bool} {z : State} (s0 : State) (sq : Nat) (ecc : Bool) (may : SlvMay)
    (hu : Al F [.posted, .gb, .regs, .slv, .gates, .rnd]) (hz : Fr F z s0) :
    Fr F z (State.slvTake s0 sq ecc may) := by
  unfold State.slvTake
  extract_lets +onlyGivenNames x0_
  have h0_ : Fr F z x0_ := (State.rndYield_frame _ (sub hu rfl) hz)
  try clear_value x0_
  revert x0_
  refine fr_id ?_
  intro x0_ h0_
  extract_lets +onlyGivenNames x1_
  extract_lets +onlyGivenNames x2_
  extract_lets +onlyGivenNames x3_
  extract_lets +onlyGivenNames x4_
  have h4_ : Fr F z x4_ := (fr_posted h0_ (al hu rfl))
  try clear_value x4_
  revert x4_
  refine fr_id ?_
  intro x4_ h4_
  extract_lets +onlyGivenNames x5_
  have h5_ : Fr F z x5_.1 := (State.slvAdmit_frame _ _ _ _ (sub hu rfl) h4_)
  try clear_value x5_
  revert x5_
  refine fr_id ?_
  intro x5_ h5_
  extract_lets +onlyGivenNames x6_
  have h6_ : Fr F z x6_ := h5_
  try clear_value x6_
  revert x6_
  refine fr_id ?_
  intro x6_ h6_
  extract_lets +onlyGivenNames x7_
  extract_lets +onlyGivenNames x8_
  have h8_ : Fr F z x8_ := (fr_slv h6_ (al hu rfl))
  try clear_value x8_
  revert x8_
  refine fr_id ?_
  intro x8_ h8_
  extract_lets +onlyGivenNames x9_
  have h9_ : Fr F z x9_ := (fr_ite (State.post_frame _ _ _ _ _ _ (sub hu rfl) h8_)
  h8_)
  try clear_value x9_
  revert x9_
  refine fr_id ?_
  intro x9_ h9_
  exact (State.wr_frame _ _ _ (sub hu rfl) (State.wr_frame _ _ _ (sub hu rfl) (State.wr_frame _ _ _ (sub hu rfl) h9_)))

theorem State.slvIterate_frame {F : Place → Bool} {z : State} (s : State) (r : SlvRequest) (ecc : Bool) (may : SlvMay)
    (hu : Al F [.gb, .regs, .slv, .gates]) (hz : Fr F z s) :
    Fr F z (State.slvIterate s r ecc may) := by
  unfold State.slvIterate
  extract_lets +onlyGivenNames x0_
  extract_lets +onlyGivenNames x1_
  have h1_ : Fr F z x1_ := (fr_ite (State.post_frame _ _ _ _ _ _ (sub hu rfl) hz)
  hz)
  try clear_value x1_
  revert x1_
  refine fr_id ?_
  intro x1_ h1_
  exact (State.wr_frame _ _ _ (sub hu rfl) (State.setReq_frame _ _ (sub hu rfl) h1_))

theorem State.slvStop_frame {F : Place → Bool} {z : State} (s : State) (r : SlvRequest)
    (hu : Al F [.regs, .slv]) (hz : Fr F z s) :
    Fr F z (State.slvStop s r) := by
  unfold State.slvStop
  exact (State.wr_frame _ _ _ (sub hu rfl) (State.setReq_frame _ _ (sub hu rfl) hz))

theorem State.slvShowSlot_frame {F : Place → Bool} {z : State} (s : State) (k : Nat)
    (hu : Al F [.regs]) (hz : Fr F z s) :
    Fr F z (State.slvShowSlot s k) := by
  unfold State.slvShowSlot
  exact (by
    split
    · exact (State.wr_frame _ _ _ (sub hu rfl) (State.wr_frame _ _ _ (sub hu rfl) (State.wr_frame _ _ _ (sub hu rfl) (State.wr_frame _ _ _ (sub hu rfl) hz))))
    · extract_lets +onlyGivenNames x0_
      have h0_ : Fr F z x0_ := (State.wr_frame _ _ _ (sub hu rfl) hz)
      try clear_value x0_
      revert x0_
      refine fr_id ?_
      intro x0_ h0_
      exact (State.wr64_frame _ _ _ _ (sub hu rfl) (State.wr_frame _ _ _ (sub hu rfl) h0_)))

theorem State.slvClear_frame {F : Place → Bool} {z : State} (s : State) (k : Nat) (master : Nat)
    (hu : Al F [.gb, .regs, .slv, .gates]) (hz : Fr F z s) :
    Fr F z (State.slvClear s k master) := by
  unfold State.slvClear
  extract_lets +onlyGivenNames x0_
  extract_lets +onlyGivenNames x1_
  have h1_ : Fr F z x1_ := (fr_ite (State.slvShowSlot_frame _ _ (sub hu rfl) (fr_slv hz (al hu rfl)))
  (fr_foldl (fun _ _ h2_ => (State.slvShowSlot_frame _ _ (sub hu rfl) h2_))
  (fr_slv hz (al hu rfl))))
  try clear_value x1_
  revert x1_
  refine fr_id ?_
  intro x1_ h1_
  exact (State.post_frame _ _ _ _ _ _ (sub hu rfl) h1_)

theorem State.slvAskClear_frame {F : Place → Bool} {z : State} (s : State) (k : Nat) (master : Nat)
    (hu : Al F [.ban, .gb, .regs, .slv, .gates]) (hz : Fr F z s) :
    Fr F z (State.slvAskClear s k master) := by
  unfold State.slvAskClear
  extract_lets +onlyGivenNames x0_
  have h0_ : Fr F z x0_ := (fr_ite (State.banSend_frame _ _ _ (sub hu rfl) hz)
  hz)
  try clear_value x0_
  revert x0_
  refine fr_id ?_
  intro x0_ h0_
  exact (fr_ite (fr_slv h0_ (al hu rfl))
  (State.slvClear_frame _ _ _ (sub hu rfl) h0_))

theorem State.slvPermit_frame {F : Place → Bool} {z : State} (s : State) (p : SlvPermit)
    (hu : Al F [.ban, .posted, .gb, .regs, .slv, .gates, .rnd]) (hz : Fr F z s) :
    ∀ t, s.slvPermit p = some t → Fr F z t := by
  intro t e
  unfold State.slvPermit at e
  dsimp only at e
  split at e
  · split at e
    · cases e
      exact State.slvTake_frame _ _ _ _ (sub hu rfl) hz
    · cases e
  · cases e
  · cases e
    exact fr_ite (State.slvIterate_frame _ _ _ _ (sub hu rfl) hz) hz
  · cases e
    exact fr_ite (State.slvStop_frame _ _ (sub hu rfl) hz) hz
  · split at e
    · cases e
    · cases e
      exact hz
  · cases e
    exact State.slvAskClear_frame _ _ _ (sub hu rfl) hz
  · cases e
    exact hz

theorem State.slvDrain_frame {F : Place → Bool} {z : State} (s : State) (n : Nat)
    (hu : Al F [.ban, .posted, .gb, .regs, .slv, .gates, .rnd]) (hz : Fr F z s) : Fr F z (State.slvDrain s n) := by
  induction n generalizing s with
  | zero => exact hz
  | succ n ih =>
    unfold State.slvDrain
    split
    · exact hz
    · split
      · rename_i e
        exact ih _ (fr_slv (State.slvPermit_frame _ _ (sub hu rfl) hz _ e) (al hu rfl))
      · exact hz

theorem State.slvFollow_frame {F : Place → Bool} {z : State} (s : State)
    (hu : Al F [.ban, .posted, .gb, .regs, .slv, .gates, .rnd]) (hz : Fr F z s) :
    Fr F z (State.slvFollow s) := by
  unfold State.slvFollow
  exact (State.slvDrain_frame _ _ (sub hu rfl) hz)

theorem State.permitTake_frame {F : Place → Bool} {z : State} (s : State) (p : SlvPermit)
    (hu : Al F [.ban, .posted, .gb, .regs, .slv, .gates, .rnd]) (hz : Fr F z s) :
    Fr F z (State.permitTake s p) := by
  unfold State.permitTake
  exact (fr_ite (by
    extract_lets +onlyGivenNames x0_
    extract_lets +onlyGivenNames x1_
    have h1_ : Fr F z x1_ := (fr_slv hz (al hu rfl))
    try clear_value x1_
    revert x1_
    refine fr_id ?_
    intro x1_ h1_
    exact (State.wr_frame _ _ _ (sub hu rfl) (State.slvFollow_frame _ (sub hu rfl) h1_)))
  hz)

theorem State.slvStore_frame {F : Place → Bool} {z : State} (s : State) (r : SlvRequest) (b : SlvIterate)
    (hu : Al F [.regs, .slv]) (hz : Fr F z s) :
    Fr F z (State.slvStore s r b) := by
  unfold State.slvStore
  exact (fr_ite hz
  (by
    extract_lets +onlyGivenNames x0_
    extract_lets +onlyGivenNames x1_
    exact (State.slvShowSlot_frame _ _ (sub hu rfl) (fr_slv hz (al hu rfl)))))

theorem State.slvAwait_frame {F : Place → Bool} {z : State} (s : State)
    (hu : Al F [.regs]) (hz : Fr F z s) :
    Fr F z (State.slvAwait s) := by
  unfold State.slvAwait
  extract_lets +onlyGivenNames x0_
  exact (State.wrB_frame _ _ _ (sub hu rfl) hz)

theorem execSolverPowerGate_frame {F : Place → Bool} {z : State} (s : State)
    (hu : Al F [.regs, .gates, .frc]) (hz : Fr F z s) :
    FrA F z (execSolverPowerGate s) := by
  unfold execSolverPowerGate
  exact (fr_iteA (by
    extract_lets +onlyGivenNames x0_
    have h0_ : Fr F z x0_ := (fr_frc hz (al hu rfl))
    try clear_value x0_
    revert x0_
    refine fr_id ?_
    intro x0_ h0_
    exact (frA_next (State.setGate_frame _ _ _ (sub hu rfl) (State.wr_frame _ _ _ (sub hu rfl) h0_))))
  (frA_next hz))

theorem State.slvSend_frame {F : Place → Bool} {z : State} (s : State) (kind : Nat) (sq : Nat) (rest : List Byte)
    (hu : Al F [.ban]) (hz : Fr F z s) :
    Fr F z (State.slvSend s kind sq rest) := by
  unfold State.slvSend
  exact (fr_ite (State.banSend_frame _ _ _ (sub hu rfl) hz)
  hz)

theorem State.slvLock_frame {F : Place → Bool} {z : State} (s : State)
    (hu : Al F [.posted, .regs, .slv]) (hz : Fr F z s) :
    Fr F z (State.slvLock s) := by
  unfold State.slvLock
  exact (fr_ite hz
  (by
    extract_lets +onlyGivenNames x0_
    extract_lets +onlyGivenNames x1_
    have h1_ : Fr F z x1_ := (by
      intro p hp
      cases p
      case posted => exact fr_no (al hu rfl) hp
      case slv => exact fr_no (al hu rfl) hp
      all_goals exact fr_eq (hz _ hp) rfl)
    try clear_value x1_
    revert x1_
    refine fr_id ?_
    intro x1_ h1_
    extract_lets +onlyGivenNames x2_
    have h2_ : Fr F z x2_ := (fr_foldl (fun _ _ h3_ => (by
      split
      · exact (State.wr_frame _ _ _ (sub hu rfl) (State.wr_frame _ _ _ (sub hu rfl) h3_))
      · exact (State.wr_frame _ _ _ (sub hu rfl) h3_)))
    h1_)
    try clear_value x2_
    revert x2_
    refine fr_id ?_
    intro x2_ h2_
    exact (fr_foldl (fun _ _ h4_ => (State.slvShowSlot_frame _ _ (sub hu rfl) h4_))
    h2_)))

theorem State.slvSendTake_frame {F : Place → Bool} {z : State} (s : State) (r : SlvRequest)
    (hu : Al F [.ban]) (hz : Fr F z s) :
    Fr F z (State.slvSendTake s r) := by
  unfold State.slvSendTake
  exact (State.slvSend_frame _ _ _ _ (sub hu rfl) hz)

theorem State.slvSendIterate_frame {F : Place → Bool} {z : State} (s : State) (n : Nat) (r : SlvRequest)
    (hu : Al F [.ban]) (hz : Fr F z s) :
    Fr F z (State.slvSendIterate s n r) := by
  unfold State.slvSendIterate
  exact (State.slvSend_frame _ _ _ _ (sub hu rfl) hz)

theorem State.slvCode_frame {F : Place → Bool} {z : State} (s : State) (r : SlvRequest) (status : Nat) (detail : Nat)
    (hu : Al F [.gb, .regs, .gates]) (hz : Fr F z s) :
    Fr F z (State.slvCode s r status detail) := by
  unfold State.slvCode
  extract_lets +onlyGivenNames x0_
  exact (fr_ite (State.post_frame _ _ _ _ _ _ (sub hu rfl) (State.bump_frame _ _ (sub hu rfl) (State.wr_frame _ _ _ (sub hu rfl) hz)))
  (fr_ite (State.post_frame _ _ _ _ _ _ (sub hu rfl) hz)
  (fr_ite (State.post_frame _ _ _ _ _ _ (sub hu rfl) hz)
  (fr_ite (State.post_frame _ _ _ _ _ _ (sub hu rfl) hz)
  (fr_ite (State.post_frame _ _ _ _ _ _ (sub hu rfl) hz)
  (fr_ite (State.post_frame _ _ _ _ _ _ (sub hu rfl) hz)
  hz))))))

theorem State.slvCmdWrite_frame {F : Place → Bool} {z : State} (s : State) (m : Master) (v : Nat)
    (hu : Al F [.ban, .gb, .regs, .slv, .gates]) (hz : Fr F z s) :
    Fr F z (State.slvCmdWrite s m v) := by
  unfold State.slvCmdWrite
  exact (fr_ite hz
  (State.slvAskClear_frame _ _ _ (sub hu rfl) hz))

theorem execSlotClear_frame {F : Place → Bool} {z : State} (m : Master) (slot : Fin 16) (s : State)
    (hu : Al F [.ban, .gb, .regs, .slv, .resp, .gates]) (hz : Fr F z s) :
    FrA F z (execSlotClear m slot s) := by
  unfold execSlotClear
  exact (frA_next (State.access_frame _ _ _ _ _ _ (sub hu rfl) hz (fun _ h0_ => (State.slvCmdWrite_frame _ _ _ (sub hu rfl) h0_))))

theorem execSlotClearAll_frame {F : Place → Bool} {z : State} (m : Master) (s : State)
    (hu : Al F [.ban, .gb, .regs, .slv, .resp, .gates]) (hz : Fr F z s) :
    FrA F z (execSlotClearAll m s) := by
  unfold execSlotClearAll
  exact (frA_next (State.access_frame _ _ _ _ _ _ (sub hu rfl) hz (fun _ h0_ => (State.slvCmdWrite_frame _ _ _ (sub hu rfl) h0_))))

theorem State.slvComplete_frame {F : Place → Bool} {z : State} (s : State) (r : SlvRequest) (done : Nat) (status : Nat) (detail : Nat)
    (hu : Al F [.ban, .gb, .regs, .slv, .mem, .gates, .heads]) (hz : Fr F z s) :
    Fr F z (State.slvComplete s r done status detail) := by
  unfold State.slvComplete
  extract_lets +onlyGivenNames x0_
  extract_lets +onlyGivenNames x1_
  extract_lets +onlyGivenNames x2_
  extract_lets +onlyGivenNames x3_
  extract_lets +onlyGivenNames x4_
  extract_lets +onlyGivenNames x5_
  extract_lets +onlyGivenNames x6_
  extract_lets +onlyGivenNames x7_
  have h7_ : Fr F z x7_ := (State.setBytes_frame _ _ _ (sub hu rfl) hz)
  try clear_value x7_
  revert x7_
  refine fr_id ?_
  intro x7_ h7_
  extract_lets +onlyGivenNames x8_
  have h8_ : Fr F z x8_ := (State.txDone_frame _ _ _ _ (sub hu rfl) h7_)
  try clear_value x8_
  revert x8_
  refine fr_id ?_
  intro x8_ h8_
  extract_lets +onlyGivenNames x9_
  have h9_ : Fr F z x9_ := by
    subst x9_
    exact (by
      clear_value x0_
      split
      · exact (State.slvStore_frame _ _ _ (sub hu rfl) h8_)
      · exact h8_)
  try clear_value x9_
  revert x9_
  refine fr_id ?_
  intro x9_ h9_
  extract_lets +onlyGivenNames x10_
  extract_lets +onlyGivenNames x11_
  have h11_ : Fr F z x11_ := (State.bump_frame _ _ (sub hu rfl) (State.slvCode_frame _ _ _ _ (sub hu rfl) h9_))
  try clear_value x11_
  revert x11_
  refine fr_id ?_
  intro x11_ h11_
  extract_lets +onlyGivenNames x12_
  have h12_ : Fr F z x12_ := (State.wr_frame _ _ _ (sub hu rfl) (State.wr_frame _ _ _ (sub hu rfl) (State.wr_frame _ _ _ (sub hu rfl) (State.wr_frame _ _ _ (sub hu rfl) h11_))))
  try clear_value x12_
  revert x12_
  refine fr_id ?_
  intro x12_ h12_
  extract_lets +onlyGivenNames x13_
  have h13_ : Fr F z x13_ := (State.wr_frame _ _ _ (sub hu rfl) (State.wr_frame _ _ _ (sub hu rfl) h12_))
  try clear_value x13_
  revert x13_
  refine fr_id ?_
  intro x13_ h13_
  extract_lets +onlyGivenNames x14_
  have h14_ : Fr F z x14_ := (State.wr_frame _ _ _ (sub hu rfl) (State.wr_frame _ _ _ (sub hu rfl) h13_))
  try clear_value x14_
  revert x14_
  refine fr_id ?_
  intro x14_ h14_
  extract_lets +onlyGivenNames x15_
  extract_lets +onlyGivenNames x16_
  extract_lets +onlyGivenNames x17_
  extract_lets +onlyGivenNames x18_
  have h18_ : Fr F z x18_ := (fr_ite (State.banSend_frame _ _ _ (sub hu rfl) h14_)
  (State.logEntry_frame _ _ (sub hu rfl) h14_))
  try clear_value x18_
  revert x18_
  refine fr_id ?_
  intro x18_ h18_
  extract_lets +onlyGivenNames x19_
  extract_lets +onlyGivenNames x20_
  have h20_ : Fr F z x20_ := (fr_ban h18_ (al hu rfl))
  try clear_value x20_
  revert x20_
  refine fr_id ?_
  intro x20_ h20_
  extract_lets +onlyGivenNames x21_
  extract_lets +onlyGivenNames x22_
  have h22_ : Fr F z x22_ := (fr_slv h20_ (al hu rfl))
  try clear_value x22_
  revert x22_
  refine fr_id ?_
  intro x22_ h22_
  exact (fr_foldl (fun _ _ h23_ => (State.slvClear_frame _ _ _ (sub hu rfl) h23_))
  (State.wr_frame _ _ _ (sub hu rfl) h22_))

theorem execSolverComplete_frame {F : Place → Bool} {z : State} (s : State)
    (hu : Al F [.ban, .posted, .gb, .regs, .slv, .mem, .gates, .heads, .rnd]) (hz : Fr F z s) :
    FrA F z (execSolverComplete s) := by
  unfold execSolverComplete
  exact (by
    split
    · exact (by
        split
        · exact (fr_iteA (frA_next hz)
          (fr_iteA (by
            extract_lets +onlyGivenNames x0_
            exact (frA_next (State.slvComplete_frame _ _ _ _ _ (sub hu rfl) (State.slvSend_frame _ _ _ _ (sub hu rfl) hz))))
          (fr_iteA (by
            split
            · extract_lets +onlyGivenNames x1_
              have h1_ : Fr F z x1_ := (State.slvComplete_frame _ _ _ _ _ (sub hu rfl) hz)
              try clear_value x1_
              revert x1_
              refine fr_id ?_
              intro x1_ h1_
              exact (frA_next (State.slvFollow_frame _ (sub hu rfl) (fr_slv h1_ (al hu rfl))))
            · exact (frA_next hz))
          (frA_next hz))))
        · exact (frA_next hz))
    · exact (frA_next hz))

end Sys2Proof.Machine
end

