-- ==== Sys2Proof/Laws/FrameStairway.lean ====
section
/-!
SUPPORT. What the operations of Machine/Stairway.lean may change (Laws/Frames.lean).
-/
namespace Sys2Proof.Machine

theorem State.setRioLink_frame {F : Place → Bool} {z : State} (s : State) (l : Nat) (x : RioLink)
    (hu : Al F [.rio]) (hz : Fr F z s) :
    Fr F z (State.setRioLink s l x) := by
  unfold State.setRioLink
  exact (fr_rio hz (al hu rfl))

theorem State.rioCount_frame {F : Place → Bool} {z : State} (s : State) (l : Nat)
    (hu : Al F [.regs]) (hz : Fr F z s) :
    Fr F z (State.rioCount s l) := by
  unfold State.rioCount
  exact (State.wr_frame _ _ _ (sub hu rfl) hz)

theorem State.rioRole_frame {F : Place → Bool} {z : State} (s : State) (l : Nat)
    (hu : Al F [.regs]) (hz : Fr F z s) :
    Fr F z (State.rioRole s l) := by
  unfold State.rioRole
  exact (fr_ite (State.wr_frame _ _ _ (sub hu rfl) hz)
  hz)

theorem execStairwayTurnaround_frame {F : Place → Bool} {z : State} (l : Fin 8) (payload : List Byte) (s : State)
    (hu : Al F [.rio]) (hz : Fr F z s) :
    FrA F z (execStairwayTurnaround l payload s) := by
  unfold execStairwayTurnaround
  exact (fr_iteA (by
    extract_lets +onlyGivenNames x0_
    exact (frA_next (State.setRioLink_frame _ _ _ (sub hu rfl) hz)))
  (frA_next hz))

theorem State.rioUnreturned_frame {F : Place → Bool} {z : State} (s : State) (l : Nat) (w : Option Nat)
    (hu : Al F [.regs]) (hz : Fr F z s) :
    Fr F z (State.rioUnreturned s l w) := by
  unfold State.rioUnreturned
  exact (fr_ite (State.bump_frame _ _ (sub hu rfl) hz)
  hz)

theorem execOutputReturn_frame {F : Place → Bool} {z : State} (l : Fin 8) (fcsGood : Bool) (payload : List Byte) (s : State)
    (hu : Al F [.rio, .regs]) (hz : Fr F z s) :
    FrA F z (execOutputReturn l fcsGood payload s) := by
  unfold execOutputReturn
  exact (by
    split
    · exact (frA_next hz)
    · extract_lets +onlyGivenNames x0_
      extract_lets +onlyGivenNames x1_
      have h1_ : Fr F z x1_ := (State.setRioLink_frame _ _ _ (sub hu rfl) hz)
      try clear_value x1_
      revert x1_
      refine fr_id ?_
      intro x1_ h1_
      exact (fr_iteA (frA_next (State.wr_frame _ _ _ (sub hu rfl) h1_))
      (frA_next (State.bump_frame _ _ (sub hu rfl) h1_))))

theorem State.rioOutput_frame {F : Place → Bool} {z : State} (s : State) (l : Nat) (safe : Bool) (data : Nat → List Byte)
    (hu : Al F [.rio, .regs]) (hz : Fr F z s) :
    Fr F z (State.rioOutput s l safe data) := by
  unfold State.rioOutput
  exact (fr_ite (by
    extract_lets +onlyGivenNames x0_
    have h0_ : Fr F z x0_ := (State.rioUnreturned_frame _ _ _ (sub hu rfl) hz)
    try clear_value x0_
    revert x0_
    refine fr_id ?_
    intro x0_ h0_
    extract_lets +onlyGivenNames x1_
    have h1_ : Fr F z x1_ := (State.rioUnreturned_frame _ _ _ (sub hu rfl) h0_)
    try clear_value x1_
    revert x1_
    refine fr_id ?_
    intro x1_ h1_
    extract_lets +onlyGivenNames x2_
    extract_lets +onlyGivenNames x3_
    exact (State.setRioLink_frame _ _ _ (sub hu rfl) h1_))
  hz)

theorem State.rioJoin_frame {F : Place → Bool} {z : State} (s : State) (l : Nat)
    (hu : Al F [.rio, .regs]) (hz : Fr F z s) :
    Fr F z (State.rioJoin s l) := by
  unfold State.rioJoin
  exact (fr_ite (State.rioRole_frame _ _ (sub hu rfl) (State.setRioLink_frame _ _ _ (sub hu rfl) hz))
  hz)

theorem execPollSend_frame {F : Place → Bool} {z : State} (l : Fin 8) (s : State)
    (hu : Al F [.rio, .regs, .frc]) (hz : Fr F z s) :
    FrA F z (execPollSend l s) := by
  unfold execPollSend
  extract_lets +onlyGivenNames x0_
  exact (fr_iteA (by
    extract_lets +onlyGivenNames x1_
    have h1_ : Fr F z x1_ := (fr_frc hz (al hu rfl))
    try clear_value x1_
    revert x1_
    refine fr_id ?_
    intro x1_ h1_
    extract_lets +onlyGivenNames x2_
    have h2_ : Fr F z x2_ := (State.rioUnreturned_frame _ _ _ (sub hu rfl) h1_)
    try clear_value x2_
    revert x2_
    refine fr_id ?_
    intro x2_ h2_
    extract_lets +onlyGivenNames x3_
    exact (frA_next (State.setRioLink_frame _ _ _ (sub hu rfl) h2_)))
  (frA_next hz))

theorem execStairwayLinkChange_frame {F : Place → Bool} {z : State} (l : Fin 8) (up : Bool) (s : State)
    (hu : Al F [.gb, .regs, .gates]) (hz : Fr F z s) :
    FrA F z (execStairwayLinkChange l up s) := by
  unfold execStairwayLinkChange
  exact (fr_iteA (frA_next hz)
  (frA_next (State.post_frame _ _ _ _ _ _ (sub hu rfl) (State.wrB_frame _ _ _ (sub hu rfl) hz))))

theorem execPollReturn_frame {F : Place → Bool} {z : State} (l : Fin 8) (fcsGood : Bool) (rtt : Nat) (payload : List Byte) (s : State)
    (hu : Al F [.rio, .gb, .regs, .gates, .frc]) (hz : Fr F z s) :
    FrA F z (execPollReturn l fcsGood rtt payload s) := by
  unfold execPollReturn
  exact (by
    split
    · exact (frA_next hz)
    · extract_lets +onlyGivenNames x0_
      extract_lets +onlyGivenNames x1_
      have h1_ : Fr F z x1_ := (fr_frc hz (al hu rfl))
      try clear_value x1_
      revert x1_
      refine fr_id ?_
      intro x1_ h1_
      extract_lets +onlyGivenNames x2_
      extract_lets +onlyGivenNames x3_
      have h3_ : Fr F z x3_ := (State.setRioLink_frame _ _ _ (sub hu rfl) h1_)
      try clear_value x3_
      revert x3_
      refine fr_id ?_
      intro x3_ h3_
      exact (fr_iteA (frA_next (State.bump_frame _ _ (sub hu rfl) h3_))
      (by
        extract_lets +onlyGivenNames x4_
        have h4_ : Fr F z x4_ := (State.wr_frame _ _ _ (sub hu rfl) h3_)
        try clear_value x4_
        revert x4_
        refine fr_id ?_
        intro x4_ h4_
        exact (fr_iteA (frA_next (State.post_frame _ _ _ _ _ _ (sub hu rfl) (State.bump_frame _ _ (sub hu rfl) h4_)))
        (by
          extract_lets +onlyGivenNames x5_
          exact (frA_next (State.setRioLink_frame _ _ _ (sub hu rfl) (State.bumpBy_frame _ _ _ (sub hu rfl) h4_))))))))

theorem State.rioLatchStation_frame {F : Place → Bool} {z : State} (s : State) (l : Nat) (ret : Option (List Byte)) (a : Nat)
    (hu : Al F [.rio, .gb, .regs, .gates]) (hz : Fr F z s) :
    Fr F z (State.rioLatchStation s l ret a) := by
  unfold State.rioLatchStation
  extract_lets +onlyGivenNames x0_
  extract_lets +onlyGivenNames x1_
  extract_lets +onlyGivenNames x2_
  exact (fr_ite (by
    extract_lets +onlyGivenNames x3_
    extract_lets +onlyGivenNames x4_
    extract_lets +onlyGivenNames x5_
    extract_lets +onlyGivenNames x6_
    extract_lets +onlyGivenNames x7_
    have h7_ : Fr F z x7_ := (State.setRioLink_frame _ _ _ (sub hu rfl) hz)
    try clear_value x7_
    revert x7_
    refine fr_id ?_
    intro x7_ h7_
    extract_lets +onlyGivenNames x8_
    have h8_ : Fr F z x8_ := (State.wrB_frame _ _ _ (sub hu rfl) (State.wr_frame _ _ _ (sub hu rfl) (State.wr_frame _ _ _ (sub hu rfl) h7_)))
    try clear_value x8_
    revert x8_
    refine fr_id ?_
    intro x8_ h8_
    exact (fr_ite (State.post_frame _ _ _ _ _ _ (sub hu rfl) h8_)
    h8_))
  (by
    extract_lets +onlyGivenNames x9_
    extract_lets +onlyGivenNames x10_
    extract_lets +onlyGivenNames x11_
    have h11_ : Fr F z x11_ := (State.setRioLink_frame _ _ _ (sub hu rfl) hz)
    try clear_value x11_
    revert x11_
    refine fr_id ?_
    intro x11_ h11_
    extract_lets +onlyGivenNames x12_
    have h12_ : Fr F z x12_ := (State.wr_frame _ _ _ (sub hu rfl) h11_)
    try clear_value x12_
    revert x12_
    refine fr_id ?_
    intro x12_ h12_
    exact (fr_ite (State.post_frame _ _ _ _ _ _ (sub hu rfl) (State.wr_frame _ _ _ (sub hu rfl) h12_))
    h12_)))

theorem State.rioLatch_frame {F : Place → Bool} {z : State} (s : State) (l : Nat)
    (hu : Al F [.rio, .gb, .regs, .gates]) (hz : Fr F z s) :
    Fr F z (State.rioLatch s l) := by
  unfold State.rioLatch
  exact (fr_ite hz
  (by
    extract_lets +onlyGivenNames x0_
    extract_lets +onlyGivenNames x1_
    extract_lets +onlyGivenNames x2_
    have h2_ : Fr F z x2_ := (State.setRioLink_frame _ _ _ (sub hu rfl) hz)
    try clear_value x2_
    revert x2_
    refine fr_id ?_
    intro x2_ h2_
    exact (State.rioCount_frame _ _ (sub hu rfl) (fr_foldl (fun _ _ h3_ => (State.rioLatchStation_frame _ _ _ _ (sub hu rfl) h3_))
    h2_))))

theorem State.rioIdent_frame {F : Place → Bool} {z : State} (s : State) (l : Nat) (payload : List Byte) (cycle : Nat) (a : Nat)
    (hu : Al F [.rio, .gb, .regs, .gates]) (hz : Fr F z s) :
    Fr F z (State.rioIdent s l payload cycle a) := by
  unfold State.rioIdent
  extract_lets +onlyGivenNames x0_
  extract_lets +onlyGivenNames x1_
  extract_lets +onlyGivenNames x2_
  extract_lets +onlyGivenNames x3_
  extract_lets +onlyGivenNames x4_
  extract_lets +onlyGivenNames x5_
  exact (fr_ite hz
  (fr_ite (by
    extract_lets +onlyGivenNames x6_
    have h6_ : Fr F z x6_ := (fr_foldl (fun _ _ h7_ => (State.wr_frame _ _ _ (sub hu rfl) h7_))
    hz)
    try clear_value x6_
    revert x6_
    refine fr_id ?_
    intro x6_ h6_
    extract_lets +onlyGivenNames x8_
    have h8_ : Fr F z x8_ := (State.wr_frame _ _ _ (sub hu rfl) (State.wr_frame _ _ _ (sub hu rfl) h6_))
    try clear_value x8_
    revert x8_
    refine fr_id ?_
    intro x8_ h8_
    extract_lets +onlyGivenNames x9_
    extract_lets +onlyGivenNames x10_
    extract_lets +onlyGivenNames x11_
    have h11_ : Fr F z x11_ := (State.setRioLink_frame _ _ _ (sub hu rfl) h8_)
    try clear_value x11_
    revert x11_
    refine fr_id ?_
    intro x11_ h11_
    exact (State.post_frame _ _ _ _ _ _ (sub hu rfl) h11_))
  (fr_ite hz
  (State.post_frame _ _ _ _ _ _ (sub hu rfl) (State.wr_frame _ _ _ (sub hu rfl) hz)))))

theorem execIdentReturn_frame {F : Place → Bool} {z : State} (l : Fin 8) (fcsGood : Bool) (payload : List Byte) (s : State)
    (hu : Al F [.rio, .gb, .regs, .gates]) (hz : Fr F z s) :
    FrA F z (execIdentReturn l fcsGood payload s) := by
  unfold execIdentReturn
  exact (by
    split
    · exact (frA_next hz)
    · extract_lets +onlyGivenNames x0_
      extract_lets +onlyGivenNames x1_
      have h1_ : Fr F z x1_ := (State.setRioLink_frame _ _ _ (sub hu rfl) hz)
      try clear_value x1_
      revert x1_
      refine fr_id ?_
      intro x1_ h1_
      exact (fr_iteA (frA_next (State.rioCount_frame _ _ (sub hu rfl) (fr_foldl (fun _ _ h2_ => (State.rioIdent_frame _ _ _ _ _ (sub hu rfl) h2_))
      h1_)))
      (frA_next (State.bump_frame _ _ (sub hu rfl) h1_))))

end Sys2Proof.Machine
end

