-- ==== Sys2Proof/Laws/FrameScanBase.lean ====
section
/-!
SUPPORT. What the operations of Machine/ScanBase.lean may change (Laws/Frames.lean).
-/
namespace Sys2Proof.Machine

theorem State.forceVars_frame {F : Place → Bool} {z : State} (s : State) (t : Nat)
    (hu : Al F [.scn]) (hz : Fr F z s) :
    Fr F z (State.forceVars s t) := by
  unfold State.forceVars
  extract_lets +onlyGivenNames x0_
  exact (fr_scn hz (al hu rfl))

theorem State.setTask_frame {F : Place → Bool} {z : State} (s : State) (t : Nat) (x : ScanTask)
    (hu : Al F [.scn]) (hz : Fr F z s) :
    Fr F z (State.setTask s t x) := by
  unfold State.setTask
  exact (fr_scn hz (al hu rfl))

theorem State.coreCount_frame {F : Place → Bool} {z : State} (s : State) (c : Nat)
    (hu : Al F [.scn]) (hz : Fr F z s) :
    Fr F z (State.coreCount s c) := by
  unfold State.coreCount
  extract_lets +onlyGivenNames x0_
  extract_lets +onlyGivenNames x1_
  have h1_ : Fr F z x1_ := by
    subst x1_
    exact (by
      split
      · exact (State.setTask_frame _ _ _ (sub hu rfl) hz)
      · exact hz)
  try clear_value x1_
  revert x1_
  refine fr_id ?_
  intro x1_ h1_
  exact (fr_scn h1_ (al hu rfl))

theorem State.latchOut_frame {F : Place → Bool} {z : State} (s : State) (t : Nat)
    (hu : Al F [.scn]) (hz : Fr F z s) :
    Fr F z (State.latchOut s t) := by
  unfold State.latchOut
  exact (State.forceVars_frame _ _ (sub hu rfl) (State.setTask_frame _ _ _ (sub hu rfl) hz))

theorem State.setTaskState_frame {F : Place → Bool} {z : State} (s : State) (t : Nat) (st : Nat)
    (hu : Al F [.regs]) (hz : Fr F z s) :
    Fr F z (State.setTaskState s t st) := by
  unfold State.setTaskState
  exact (State.wr_frame _ _ _ (sub hu rfl) hz)

theorem State.commitLink_frame {F : Place → Bool} {z : State} (s : State) (safe : Bool) (img : List Byte) (l : Nat)
    (hu : Al F [.rio, .regs]) (hz : Fr F z s) :
    Fr F z (State.commitLink s safe img l) := by
  unfold State.commitLink
  extract_lets +onlyGivenNames x0_
  exact (State.rioOutput_frame _ _ _ _ (sub hu rfl) hz)

theorem State.scnHalt_frame {F : Place → Bool} {z : State} (s : State)
    (hu : Al F [.scn, .gb, .regs, .gates]) (hz : Fr F z s) :
    Fr F z (State.scnHalt s) := by
  unfold State.scnHalt
  extract_lets +onlyGivenNames x0_
  have h0_ : Fr F z x0_ := (fr_ite hz
  (State.post_frame _ _ _ _ _ _ (sub hu rfl) hz))
  try clear_value x0_
  revert x0_
  refine fr_id ?_
  intro x0_ h0_
  extract_lets +onlyGivenNames x1_
  have h1_ : Fr F z x1_ := (State.wr_frame _ _ _ (sub hu rfl) (State.wr_frame _ _ _ (sub hu rfl) h0_))
  try clear_value x1_
  revert x1_
  refine fr_id ?_
  intro x1_ h1_
  extract_lets +onlyGivenNames x2_
  have h2_ : Fr F z x2_ := (fr_foldl (fun _ _ h3_ => (State.setTaskState_frame _ _ _ (sub hu rfl) (State.setTask_frame _ _ _ (sub hu rfl) h3_)))
  h1_)
  try clear_value x2_
  revert x2_
  refine fr_id ?_
  intro x2_ h2_
  exact (fr_scn h2_ (al hu rfl))

theorem State.taskMiss_frame {F : Place → Bool} {z : State} (s : State) (t : Nat) (how2' : Nat)
    (hu : Al F [.scn, .gb, .regs, .gates]) (hz : Fr F z s) :
    Fr F z (State.taskMiss s t how2') := by
  unfold State.taskMiss
  extract_lets +onlyGivenNames x0_
  extract_lets +onlyGivenNames x1_
  have h1_ : Fr F z x1_ := (State.wr_frame _ _ _ (sub hu rfl) (State.bump_frame _ _ (sub hu rfl) hz))
  try clear_value x1_
  revert x1_
  refine fr_id ?_
  intro x1_ h1_
  extract_lets +onlyGivenNames x2_
  exact (State.post_frame _ _ _ _ _ _ (sub hu rfl) (State.setTask_frame _ _ _ (sub hu rfl) h1_))

theorem State.joinFailed_frame {F : Place → Bool} {z : State} (s : State) (reason : Nat)
    (hu : Al F [.ban, .scn, .gb, .regs, .gates]) (hz : Fr F z s) :
    Fr F z (State.joinFailed s reason) := by
  unfold State.joinFailed
  extract_lets +onlyGivenNames x0_
  have h0_ : Fr F z x0_ := (State.wr_frame _ _ _ (sub hu rfl) (State.wr_frame _ _ _ (sub hu rfl) hz))
  try clear_value x0_
  revert x0_
  refine fr_id ?_
  intro x0_ h0_
  exact (State.scnHalt_frame _ (sub hu rfl) (fr_ban h0_ (al hu rfl)))

theorem State.joinEnd_frame {F : Place → Bool} {z : State} (s : State) (reason : Nat)
    (hu : Al F [.ban, .scn, .gb, .regs, .gates]) (hz : Fr F z s) :
    Fr F z (State.joinEnd s reason) := by
  unfold State.joinEnd
  exact (by
    split
    · exact hz
    · extract_lets +onlyGivenNames x0_
      have h0_ : Fr F z x0_ := (State.post_frame _ _ _ _ _ _ (sub hu rfl) hz)
      try clear_value x0_
      revert x0_
      refine fr_id ?_
      intro x0_ h0_
      exact (fr_ite (by
        extract_lets +onlyGivenNames x1_
        have h1_ : Fr F z x1_ := (State.banSend_frame _ _ _ (sub hu rfl) h0_)
        try clear_value x1_
        revert x1_
        refine fr_id ?_
        intro x1_ h1_
        extract_lets +onlyGivenNames x2_
        have h2_ : Fr F z x2_ := (State.wr_frame _ _ _ (sub hu rfl) (State.wr_frame _ _ _ (sub hu rfl) h1_))
        try clear_value x2_
        revert x2_
        refine fr_id ?_
        intro x2_ h2_
        exact (fr_ban h2_ (al hu rfl)))
      (State.joinFailed_frame _ _ (sub hu rfl) h0_)))

theorem State.latchOwn_frame {F : Place → Bool} {z : State} (s : State) (t : Nat)
    (hu : Al F [.rio, .scn, .gb, .lp, .regs, .gates]) (hz : Fr F z s) :
    Fr F z (State.latchOwn s t) := by
  unfold State.latchOwn
  extract_lets +onlyGivenNames x0_
  have h0_ : Fr F z x0_ := (fr_foldl (fun _ _ h1_ => (State.rioLatch_frame _ _ (sub hu rfl) h1_))
  hz)
  try clear_value x0_
  revert x0_
  refine fr_id ?_
  intro x0_ h0_
  extract_lets +onlyGivenNames x2_
  extract_lets +onlyGivenNames x3_
  have h3_ : Fr F z x3_ := (fr_foldl (fun _ _ h4_ => (fr_ite h4_
  (State.loopLatched_frame _ _ (sub hu rfl) h4_)))
  h0_)
  try clear_value x3_
  revert x3_
  refine fr_id ?_
  intro x3_ h3_
  exact (State.latchOut_frame _ _ (sub hu rfl) (State.setTask_frame _ _ _ (sub hu rfl) h3_))

theorem State.joinAbort_frame {F : Place → Bool} {z : State} (s : State)
    (hu : Al F [.ban, .scn, .gb, .regs, .gates]) (hz : Fr F z s) :
    Fr F z (State.joinAbort s) := by
  unfold State.joinAbort
  exact (State.joinEnd_frame _ _ (sub hu rfl) hz)

theorem State.commitChan_frame {F : Place → Bool} {z : State} (s : State) (safe : Bool) (img : List Byte) (n : Nat)
    (hu : Al F [.isl, .regs, .free]) (hz : Fr F z s) :
    Fr F z (State.commitChan s safe img n) := by
  unfold State.commitChan
  extract_lets +onlyGivenNames x0_
  extract_lets +onlyGivenNames x1_
  exact (fr_ite hz
  (by
    split
    · exact (State.setOut_frame _ _ _ _ (sub hu rfl) hz)
    · exact (fr_ite hz
      (fr_ite (State.setOut_frame _ _ _ _ (sub hu rfl) hz)
      (fr_ite hz
      (State.setOut_frame _ _ _ _ (sub hu rfl) hz))))))

theorem State.releaseAll_frame {F : Place → Bool} {z : State} (s : State)
    (hu : Al F [.pgn, .regs, .gates]) (hz : Fr F z s) :
    Fr F z (State.releaseAll s) := by
  unfold State.releaseAll
  exact (State.pgnReleaseAll_frame _ (sub hu rfl) (State.queReleaseAll_frame _ (sub hu rfl) hz))

theorem State.commitOut_frame {F : Place → Bool} {z : State} (s : State) (t : Nat)
    (hu : Al F [.rio, .isl, .axes, .lp, .regs, .can, .free, .gates]) (hz : Fr F z s) :
    Fr F z (State.commitOut s t) := by
  unfold State.commitOut
  extract_lets +onlyGivenNames x0_
  extract_lets +onlyGivenNames x1_
  extract_lets +onlyGivenNames x2_
  have h2_ : Fr F z x2_ := (fr_foldl (fun _ _ h3_ => (State.commitChan_frame _ _ _ _ (sub hu rfl) h3_))
  hz)
  try clear_value x2_
  revert x2_
  refine fr_id ?_
  intro x2_ h2_
  extract_lets +onlyGivenNames x4_
  have h4_ : Fr F z x4_ := (State.loopTake_frame _ _ _ _ (sub hu rfl) h2_)
  try clear_value x4_
  revert x4_
  refine fr_id ?_
  intro x4_ h4_
  extract_lets +onlyGivenNames x5_
  have h5_ : Fr F z x5_ := (State.axCommit_frame _ _ _ _ (sub hu rfl) h4_)
  try clear_value x5_
  revert x5_
  refine fr_id ?_
  intro x5_ h5_
  extract_lets +onlyGivenNames x6_
  have h6_ : Fr F z x6_ := (fr_foldl (fun _ _ h7_ => (State.commitLink_frame _ _ _ _ (sub hu rfl) h7_))
  h5_)
  try clear_value x6_
  revert x6_
  refine fr_id ?_
  intro x6_ h6_
  exact (State.canCommit_frame _ _ (sub hu rfl) h6_)

theorem State.commitOwn_frame {F : Place → Bool} {z : State} (s : State) (t : Nat)
    (hu : Al F [.rio, .isl, .scn, .axes, .lp, .regs, .can, .free, .gates]) (hz : Fr F z s) :
    Fr F z (State.commitOwn s t) := by
  unfold State.commitOwn
  extract_lets +onlyGivenNames x0_
  extract_lets +onlyGivenNames x1_
  have h1_ : Fr F z x1_ := (State.setTask_frame _ _ _ (sub hu rfl) hz)
  try clear_value x1_
  revert x1_
  refine fr_id ?_
  intro x1_ h1_
  exact (State.commitOut_frame _ _ (sub hu rfl) (State.forceVars_frame _ _ (sub hu rfl) h1_))

theorem State.commitSafe_frame {F : Place → Bool} {z : State} (s : State) (t : Nat)
    (hu : Al F [.rio, .isl, .scn, .axes, .lp, .regs, .can, .free, .gates]) (hz : Fr F z s) :
    Fr F z (State.commitSafe s t) := by
  unfold State.commitSafe
  exact (State.commitOut_frame _ _ (sub hu rfl) (State.forceVars_frame _ _ (sub hu rfl) (State.setTask_frame _ _ _ (sub hu rfl) hz)))

theorem State.taskLimitStop_frame {F : Place → Bool} {z : State} (s : State) (t : Nat)
    (hu : Al F [.rio, .isl, .scn, .gb, .axes, .lp, .regs, .can, .free, .gates]) (hz : Fr F z s) :
    Fr F z (State.taskLimitStop s t) := by
  unfold State.taskLimitStop
  extract_lets +onlyGivenNames x0_
  have h0_ : Fr F z x0_ := (State.coreCount_frame _ _ (sub hu rfl) hz)
  try clear_value x0_
  revert x0_
  refine fr_id ?_
  intro x0_ h0_
  extract_lets +onlyGivenNames x1_
  extract_lets +onlyGivenNames x2_
  extract_lets +onlyGivenNames x3_
  have h3_ : Fr F z x3_ := (State.setTask_frame _ _ _ (sub hu rfl) h0_)
  try clear_value x3_
  revert x3_
  refine fr_id ?_
  intro x3_ h3_
  extract_lets +onlyGivenNames x4_
  have h4_ : Fr F z x4_ := (fr_ite (State.wr_frame _ _ _ (sub hu rfl) h3_)
  h3_)
  try clear_value x4_
  revert x4_
  refine fr_id ?_
  intro x4_ h4_
  extract_lets +onlyGivenNames x5_
  have h5_ : Fr F z x5_ := (State.setTaskState_frame _ _ _ (sub hu rfl) h4_)
  try clear_value x5_
  revert x5_
  refine fr_id ?_
  intro x5_ h5_
  exact (State.commitSafe_frame _ _ (sub hu rfl) (State.post_frame _ _ _ _ _ _ (sub hu rfl) h5_))

end Sys2Proof.Machine
end

