-- ==== Sys2Proof/Laws/FrameProgram.lean ====
section
/-!
SUPPORT. What the operations of Machine/Program.lean may change (Laws/Frames.lean).
-/
namespace Sys2Proof.Machine

theorem State.mapInsts_frame {F : Place → Bool} {z : State} (s : State) (f : Inst → Inst)
    (hu : Al F [.scn]) (hz : Fr F z s) :
    Fr F z (State.mapInsts s f) := by
  unfold State.mapInsts
  exact (fr_scn hz (al hu rfl))

theorem State.varWrite_frame {F : Place → Bool} {z : State} (s : State) (t : Nat) (w : BitVec 32 × List Byte)
    (hu : Al F [.scn]) (hz : Fr F z s) :
    Fr F z (State.varWrite s t w) := by
  unfold State.varWrite
  exact (State.mapInsts_frame _ _ (sub hu rfl) hz)

theorem State.progShow_frame {F : Place → Bool} {z : State} (s : State)
    (hu : Al F [.regs]) (hz : Fr F z s) :
    Fr F z (State.progShow s) := by
  unfold State.progShow
  exact (fr_foldl (fun _ _ h0_ => (State.wr_frame _ _ _ (sub hu rfl) h0_))
  hz)

theorem State.invoke_frame {F : Place → Bool} {z : State} (s : State) (t : Nat) (v : Invoke)
    (hu : Al F [.scn]) (hz : Fr F z s) :
    Fr F z (State.invoke s t v) := by
  unfold State.invoke
  exact (State.mapInsts_frame _ _ (sub hu rfl) hz)

theorem State.agree_frame {F : Place → Bool} {z : State} (s : State) (c : AgrCmd)
    (hu : Al F [.scn]) (hz : Fr F z s) :
    Fr F z (State.agree s c) := by
  unfold State.agree
  exact (fr_scn hz (al hu rfl))

theorem State.olcSet_frame {F : Place → Bool} {z : State} (s : State) (st : Nat) (reason : Nat)
    (hu : Al F [.regs]) (hz : Fr F z s) :
    Fr F z (State.olcSet s st reason) := by
  unfold State.olcSet
  exact (State.wr_frame _ _ _ (sub hu rfl) (State.wr_frame _ _ _ (sub hu rfl) hz))

theorem State.reinit_frame {F : Place → Bool} {z : State} (s : State) (t : Nat)
    (hu : Al F [.scn]) (hz : Fr F z s) :
    Fr F z (State.reinit s t) := by
  unfold State.reinit
  exact (State.mapInsts_frame _ _ (sub hu rfl) hz)

theorem State.olcBegin_frame {F : Place → Bool} {z : State} (s : State)
    (hu : Al F [.scn, .regs]) (hz : Fr F z s) :
    Fr F z (State.olcBegin s) := by
  unfold State.olcBegin
  extract_lets +onlyGivenNames x0_
  extract_lets +onlyGivenNames x1_
  extract_lets +onlyGivenNames x2_
  extract_lets +onlyGivenNames x3_
  extract_lets +onlyGivenNames x4_
  extract_lets +onlyGivenNames x5_
  have h5_ : Fr F z x5_ := (State.olcSet_frame _ _ _ (sub hu rfl) hz)
  try clear_value x5_
  revert x5_
  refine fr_id ?_
  intro x5_ h5_
  exact (fr_scn h5_ (al hu rfl))

theorem State.forceShow_frame {F : Place → Bool} {z : State} (s : State)
    (hu : Al F [.regs]) (hz : Fr F z s) :
    Fr F z (State.forceShow s) := by
  unfold State.forceShow
  exact (State.wrB_frame _ _ _ (sub hu rfl) (State.wr_frame _ _ _ (sub hu rfl) hz))

theorem State.olcCancelAct_frame {F : Place → Bool} {z : State} (s : State)
    (hu : Al F [.scn, .regs]) (hz : Fr F z s) :
    Fr F z (State.olcCancelAct s) := by
  unfold State.olcCancelAct
  exact (fr_ite (by
    extract_lets +onlyGivenNames x0_
    have h0_ : Fr F z x0_ := (State.olcSet_frame _ _ _ (sub hu rfl) hz)
    try clear_value x0_
    revert x0_
    refine fr_id ?_
    intro x0_ h0_
    exact (fr_scn h0_ (al hu rfl)))
  hz)

theorem execOlcVerifyDone_frame {F : Place → Bool} {z : State} (s : State)
    (hu : Al F [.gb, .regs, .gates]) (hz : Fr F z s) :
    FrA F z (execOlcVerifyDone s) := by
  unfold execOlcVerifyDone
  exact (fr_iteA (frA_next hz)
  (by
    extract_lets +onlyGivenNames x0_
    extract_lets +onlyGivenNames x1_
    extract_lets +onlyGivenNames x2_
    exact (fr_iteA (frA_next (State.olcSet_frame _ _ _ (sub hu rfl) hz))
    (frA_next (State.post_frame _ _ _ _ _ _ (sub hu rfl) (State.olcSet_frame _ _ _ (sub hu rfl) hz))))))

theorem State.forceSet_frame {F : Place → Bool} {z : State} (s : State) (tgt : Nat) (type : Nat) (val : Nat)
    (hu : Al F [.scn, .gb, .regs, .gates]) (hz : Fr F z s) :
    Fr F z (State.forceSet s tgt type val) := by
  unfold State.forceSet
  extract_lets +onlyGivenNames x0_
  extract_lets +onlyGivenNames x1_
  exact (fr_ite (State.wr_frame _ _ _ (sub hu rfl) hz)
  (by
    extract_lets +onlyGivenNames x2_
    exact (fr_ite (State.wr_frame _ _ _ (sub hu rfl) hz)
    (by
      extract_lets +onlyGivenNames x3_
      extract_lets +onlyGivenNames x4_
      have h4_ : Fr F z x4_ := (fr_scn hz (al hu rfl))
      try clear_value x4_
      revert x4_
      refine fr_id ?_
      intro x4_ h4_
      exact (State.post_frame _ _ _ _ _ _ (sub hu rfl) (State.wr_frame _ _ _ (sub hu rfl) (State.forceShow_frame _ (sub hu rfl) h4_)))))))

theorem State.forceDrop_frame {F : Place → Bool} {z : State} (s : State) (f : Force)
    (hu : Al F [.scn, .gb, .regs, .gates]) (hz : Fr F z s) :
    Fr F z (State.forceDrop s f) := by
  unfold State.forceDrop
  exact (State.post_frame _ _ _ _ _ _ (sub hu rfl) (State.forceShow_frame _ (sub hu rfl) (fr_scn hz (al hu rfl))))

theorem State.forcesSettle_frame {F : Place → Bool} {z : State} (s : State)
    (hu : Al F [.scn, .gb, .regs, .gates]) (hz : Fr F z s) :
    Fr F z (State.forcesSettle s) := by
  unfold State.forcesSettle
  extract_lets +onlyGivenNames x0_
  extract_lets +onlyGivenNames x1_
  have h1_ : Fr F z x1_ := (fr_foldl (fun _ _ h2_ => (State.post_frame _ _ _ _ _ _ (sub hu rfl) h2_))
  hz)
  try clear_value x1_
  revert x1_
  refine fr_id ?_
  intro x1_ h1_
  extract_lets +onlyGivenNames x3_
  exact (State.forceShow_frame _ (sub hu rfl) (State.wr_frame _ _ _ (sub hu rfl) (fr_scn h1_ (al hu rfl))))

theorem State.forceRelease_frame {F : Place → Bool} {z : State} (s : State) (tgt : Nat) (type : Nat)
    (hu : Al F [.scn, .gb, .regs, .gates]) (hz : Fr F z s) :
    Fr F z (State.forceRelease s tgt type) := by
  unfold State.forceRelease
  extract_lets +onlyGivenNames x0_
  have h0_ : Fr F z x0_ := (State.wr_frame _ _ _ (sub hu rfl) hz)
  try clear_value x0_
  revert x0_
  refine fr_id ?_
  intro x0_ h0_
  exact (fr_ite (State.forceDrop_frame _ _ (sub hu rfl) h0_)
  h0_)

theorem State.forceReleaseAll_frame {F : Place → Bool} {z : State} (s : State)
    (hu : Al F [.scn, .gb, .regs, .gates]) (hz : Fr F z s) :
    Fr F z (State.forceReleaseAll s) := by
  unfold State.forceReleaseAll
  exact (fr_foldl (fun _ _ h0_ => (State.forceDrop_frame _ _ (sub hu rfl) h0_))
  (State.wr_frame _ _ _ (sub hu rfl) hz))

theorem State.olcSwap_frame {F : Place → Bool} {z : State} (s : State)
    (hu : Al F [.scn, .gb, .regs, .gates]) (hz : Fr F z s) :
    Fr F z (State.olcSwap s) := by
  unfold State.olcSwap
  extract_lets +onlyGivenNames x0_
  extract_lets +onlyGivenNames x1_
  extract_lets +onlyGivenNames x2_
  extract_lets +onlyGivenNames x3_
  extract_lets +onlyGivenNames x4_
  extract_lets +onlyGivenNames x5_
  have h5_ : Fr F z x5_ := (fr_foldl (fun _ _ h6_ => (State.post_frame _ _ _ _ _ _ (sub hu rfl) h6_))
  hz)
  try clear_value x5_
  revert x5_
  refine fr_id ?_
  intro x5_ h5_
  extract_lets +onlyGivenNames x7_
  extract_lets +onlyGivenNames x8_
  extract_lets +onlyGivenNames x9_
  extract_lets +onlyGivenNames x10_
  have h10_ : Fr F z x10_ := (fr_scn h5_ (al hu rfl))
  try clear_value x10_
  revert x10_
  refine fr_id ?_
  intro x10_ h10_
  extract_lets +onlyGivenNames x11_
  have h11_ : Fr F z x11_ := (State.olcSet_frame _ _ _ (sub hu rfl) (State.wr_frame _ _ _ (sub hu rfl) (State.forcesSettle_frame _ (sub hu rfl) h10_)))
  try clear_value x11_
  revert x11_
  refine fr_id ?_
  intro x11_ h11_
  exact (State.post_frame _ _ _ _ _ _ (sub hu rfl) (State.progShow_frame _ (sub hu rfl) h11_))

theorem execOlcSwap_frame {F : Place → Bool} {z : State} (s : State)
    (hu : Al F [.scn, .gb, .regs, .gates, .frc]) (hz : Fr F z s) :
    FrA F z (execOlcSwap s) := by
  unfold execOlcSwap
  exact (fr_iteA (frA_next hz)
  (fr_iteA (frA_next (State.olcSwap_frame _ (sub hu rfl) hz))
  (by
    split
    · exact (fr_iteA (frA_next (State.olcSwap_frame _ (sub hu rfl) (fr_frc hz (al hu rfl))))
      (frA_next hz))
    · exact (frA_next hz))))

theorem State.olcArmAct_frame {F : Place → Bool} {z : State} (s : State) (same : Bool) (first : Nat)
    (hu : Al F [.ban, .scn, .gb, .regs, .gates]) (hz : Fr F z s) :
    Fr F z (State.olcArmAct s same first) := by
  unfold State.olcArmAct
  exact (fr_ite hz
  (by
    extract_lets +onlyGivenNames x0_
    extract_lets +onlyGivenNames x1_
    extract_lets +onlyGivenNames x2_
    exact (fr_ite (State.post_frame _ _ _ _ _ _ (sub hu rfl) (State.wr_frame _ _ _ (sub hu rfl) hz))
    (by
      extract_lets +onlyGivenNames x3_
      have h3_ : Fr F z x3_ := (State.joinAbort_frame _ (sub hu rfl) hz)
      try clear_value x3_
      revert x3_
      refine fr_id ?_
      intro x3_ h3_
      extract_lets +onlyGivenNames x4_
      have h4_ : Fr F z x4_ := (State.olcSet_frame _ _ _ (sub hu rfl) h3_)
      try clear_value x4_
      revert x4_
      refine fr_id ?_
      intro x4_ h4_
      exact (fr_scn h4_ (al hu rfl))))))

theorem State.forceAct_frame {F : Place → Bool} {z : State} (s : State) (cmd : Nat) (tgt : Nat) (type : Nat) (val : Nat)
    (hu : Al F [.scn, .gb, .regs, .gates]) (hz : Fr F z s) :
    Fr F z (State.forceAct s cmd tgt type val) := by
  unfold State.forceAct
  exact (fr_ite (State.forceSet_frame _ _ _ _ (sub hu rfl) hz)
  (fr_ite (State.forceRelease_frame _ _ _ (sub hu rfl) hz)
  (fr_ite (State.forceReleaseAll_frame _ (sub hu rfl) hz)
  hz)))

theorem State.olcCmdWrite_frame {F : Place → Bool} {z : State} (s : State) (m : Master) (v : Nat) (same : Bool)
    (hu : Al F [.ban, .scn, .gb, .regs, .resp, .gates]) (hz : Fr F z s) :
    Fr F z (State.olcCmdWrite s m v same) := by
  unfold State.olcCmdWrite
  extract_lets +onlyGivenNames x0_
  extract_lets +onlyGivenNames x1_
  extract_lets +onlyGivenNames x2_
  exact (fr_ite hz
  (fr_ite (State.refuseWrite_frame _ _ _ (sub hu rfl) hz)
  (fr_ite (State.olcBegin_frame _ (sub hu rfl) hz)
  (fr_ite hz
  (fr_ite (State.agree_frame _ _ (sub hu rfl) hz)
  (fr_ite (State.olcArmAct_frame _ _ _ (sub hu rfl) hz)
  (State.olcCancelAct_frame _ (sub hu rfl) hz)))))))

theorem execOlcArm_frame {F : Place → Bool} {z : State} (m : Master) (same : Bool) (s : State)
    (hu : Al F [.ban, .scn, .gb, .regs, .resp, .gates]) (hz : Fr F z s) :
    FrA F z (execOlcArm m same s) := by
  unfold execOlcArm
  exact (frA_next (State.access_frame _ _ _ _ _ _ (sub hu rfl) hz (fun _ h0_ => (State.olcCmdWrite_frame _ _ _ _ (sub hu rfl) h0_))))

theorem State.forceCmdWrite_frame {F : Place → Bool} {z : State} (s : State) (m : Master) (v : Nat)
    (hu : Al F [.scn, .gb, .regs, .resp, .gates]) (hz : Fr F z s) :
    Fr F z (State.forceCmdWrite s m v) := by
  unfold State.forceCmdWrite
  extract_lets +onlyGivenNames x0_
  extract_lets +onlyGivenNames x1_
  extract_lets +onlyGivenNames x2_
  exact (fr_ite hz
  (fr_ite (State.refuseWrite_frame _ _ _ (sub hu rfl) hz)
  (fr_ite hz
  (fr_ite (State.agree_frame _ _ (sub hu rfl) hz)
  (State.forceAct_frame _ _ _ _ _ (sub hu rfl) hz)))))

theorem execOlcVerify_frame {F : Place → Bool} {z : State} (m : Master) (s : State)
    (hu : Al F [.ban, .scn, .gb, .regs, .resp, .gates]) (hz : Fr F z s) :
    FrA F z (execOlcVerify m s) := by
  unfold execOlcVerify
  exact (frA_next (State.access_frame _ _ _ _ _ _ (sub hu rfl) hz (fun _ h0_ => (State.olcCmdWrite_frame _ _ _ _ (sub hu rfl) h0_))))

theorem execForceRelease_frame {F : Place → Bool} {z : State} (m : Master) (s : State)
    (hu : Al F [.scn, .gb, .regs, .resp, .gates]) (hz : Fr F z s) :
    FrA F z (execForceRelease m s) := by
  unfold execForceRelease
  exact (frA_next (State.access_frame _ _ _ _ _ _ (sub hu rfl) hz (fun _ h0_ => (State.forceCmdWrite_frame _ _ _ (sub hu rfl) h0_))))

theorem execOlcCancel_frame {F : Place → Bool} {z : State} (m : Master) (s : State)
    (hu : Al F [.ban, .scn, .gb, .regs, .resp, .gates]) (hz : Fr F z s) :
    FrA F z (execOlcCancel m s) := by
  unfold execOlcCancel
  exact (frA_next (State.access_frame _ _ _ _ _ _ (sub hu rfl) hz (fun _ h0_ => (State.olcCmdWrite_frame _ _ _ _ (sub hu rfl) h0_))))

theorem execForceReleaseAll_frame {F : Place → Bool} {z : State} (m : Master) (s : State)
    (hu : Al F [.scn, .gb, .regs, .resp, .gates]) (hz : Fr F z s) :
    FrA F z (execForceReleaseAll m s) := by
  unfold execForceReleaseAll
  exact (frA_next (State.access_frame _ _ _ _ _ _ (sub hu rfl) hz (fun _ h0_ => (State.forceCmdWrite_frame _ _ _ (sub hu rfl) h0_))))

theorem execForceSet_frame {F : Place → Bool} {z : State} (m : Master) (s : State)
    (hu : Al F [.scn, .gb, .regs, .resp, .gates]) (hz : Fr F z s) :
    FrA F z (execForceSet m s) := by
  unfold execForceSet
  exact (frA_next (State.access_frame _ _ _ _ _ _ (sub hu rfl) hz (fun _ h0_ => (State.forceCmdWrite_frame _ _ _ (sub hu rfl) h0_))))

end Sys2Proof.Machine
end

