-- ==== Sys2Proof/Laws/FrameSerial.lean ====
section
/-!
SUPPORT. What the operations of Machine/Serial.lean may change (Laws/Frames.lean).
-/
namespace Sys2Proof.Machine

theorem State.rtuSilence_frame {F : Place → Bool} {z : State} (s : State) (p : Nat)
    (hu : Al F [.frc]) (hz : Fr F z s) :
    Fr F z (State.rtuSilence s p) := by
  unfold State.rtuSilence
  exact (by
    split
    · exact (fr_ite (fr_frc hz (al hu rfl))
      hz)
    · exact hz)

theorem State.serDriver_frame {F : Place → Bool} {z : State} (s : State) (p : Nat)
    (hu : Al F [.regs]) (hz : Fr F z s) :
    Fr F z (State.serDriver s p) := by
  unfold State.serDriver
  exact (State.wrB_frame _ _ _ (sub hu rfl) hz)

theorem State.serLock_frame {F : Place → Bool} {z : State} (s : State) (p : Nat)
    (hu : Al F [.regs]) (hz : Fr F z s) :
    Fr F z (State.serLock s p) := by
  unfold State.serLock
  exact (fr_ite hz
  (by
    extract_lets +onlyGivenNames x0_
    have h0_ : Fr F z x0_ := (State.wr_frame _ _ _ (sub hu rfl) hz)
    try clear_value x0_
    revert x0_
    refine fr_id ?_
    intro x0_ h0_
    exact (State.serDriver_frame _ _ (sub hu rfl) (State.wr_frame _ _ _ (sub hu rfl) h0_))))

theorem State.serEndFlight_frame {F : Place → Bool} {z : State} (s : State) (p : Nat) (status : Nat) (detail : Nat) (sent : Nat)
    (hu : Al F [.ban, .ser, .regs, .serEnd, .mem, .gates, .heads]) (hz : Fr F z s) :
    Fr F z (State.serEndFlight s p status detail sent) := by
  unfold State.serEndFlight
  exact (by
    split
    · extract_lets +onlyGivenNames x0_
      have h0_ : Fr F z x0_ := (by
        intro p hp
        cases p
        case serEnd => exact fr_no (al hu rfl) hp
        case ser => exact fr_no (al hu rfl) hp
        all_goals exact fr_eq (hz _ hp) rfl)
      try clear_value x0_
      revert x0_
      refine fr_id ?_
      intro x0_ h0_
      exact (State.wr_frame _ _ _ (sub hu rfl) (State.txDone_frame _ _ _ _ (sub hu rfl) h0_))
    · exact hz)

theorem execSerTxStart_frame {F : Place → Bool} {z : State} (p : Fin 8) (s : State)
    (hu : Al F [.ban, .ser, .gb, .regs, .mem, .gates, .frc, .heads]) (hz : Fr F z s) :
    FrA F z (execSerTxStart p s) := by
  unfold execSerTxStart
  extract_lets +onlyGivenNames x0_
  exact (fr_iteA (by
    extract_lets +onlyGivenNames x1_
    have h1_ : Fr F z x1_ := (State.headWait_frame _ _ (sub hu rfl) hz)
    try clear_value x1_
    revert x1_
    refine fr_id ?_
    intro x1_ h1_
    extract_lets +onlyGivenNames x2_
    extract_lets +onlyGivenNames x3_
    exact (fr_iteA (by
      extract_lets +onlyGivenNames x4_
      exact (frA_next (State.post_frame _ _ _ _ _ _ (sub hu rfl) (State.txDone_frame _ _ _ _ (sub hu rfl) h1_))))
    (by
      extract_lets +onlyGivenNames x5_
      have h5_ : Fr F z x5_ := (State.wake_frame _ _ (sub hu rfl) (State.rtuSilence_frame _ _ (sub hu rfl) h1_))
      try clear_value x5_
      revert x5_
      refine fr_id ?_
      intro x5_ h5_
      exact (frA_next (State.wr_frame _ _ _ (sub hu rfl) (fr_ser h5_ (al hu rfl)))))))
  (frA_next hz))

theorem execSerTxComplete_frame {F : Place → Bool} {z : State} (p : Fin 8) (sent : Nat) (echoErr : Bool) (s : State)
    (hu : Al F [.ban, .ser, .regs, .serEnd, .mem, .gates, .heads]) (hz : Fr F z s) :
    FrA F z (execSerTxComplete p sent echoErr s) := by
  unfold execSerTxComplete
  exact (fr_iteA (frA_next (State.serEndFlight_frame _ _ _ _ _ (sub hu rfl) hz))
  (frA_next (State.serEndFlight_frame _ _ _ _ _ (sub hu rfl) hz)))

theorem execSerMessageReceive_frame {F : Place → Bool} {z : State} (p : Fin 8) (x : SerMsg) (s : State)
    (hu : Al F [.ban, .rx, .posted, .gb, .regs, .mem, .gates, .heads]) (hz : Fr F z s) :
    FrA F z (execSerMessageReceive p x s) := by
  unfold execSerMessageReceive
  exact (fr_iteA (frA_next (State.bumpBy_frame _ _ _ (sub hu rfl) hz))
  (fr_iteA (frA_next hz)
  (by
    extract_lets +onlyGivenNames x0_
    have h0_ : Fr F z x0_ := (State.wake_frame _ _ (sub hu rfl) (State.bumpBy_frame _ _ _ (sub hu rfl) hz))
    try clear_value x0_
    revert x0_
    refine fr_id ?_
    intro x0_ h0_
    extract_lets +onlyGivenNames x1_
    exact (fr_iteA (frA_next h0_)
    (fr_iteA (frA_next (State.rxHold_frame _ _ _ (sub hu rfl) h0_))
    (fr_iteA (frA_next h0_)
    (by
      extract_lets +onlyGivenNames x2_
      extract_lets +onlyGivenNames x3_
      exact (fr_iteA (by
        extract_lets +onlyGivenNames x4_
        have h4_ : Fr F z x4_ := (fr_ite h0_
        (State.post_frame _ _ _ _ _ _ (sub hu rfl) h0_))
        try clear_value x4_
        revert x4_
        refine fr_id ?_
        intro x4_ h4_
        extract_lets +onlyGivenNames x5_
        exact (frA_next (State.quePush_frame _ _ _ (sub hu rfl) (State.setRxCount_frame _ _ _ (sub hu rfl) h4_))))
      (frA_next (State.bump_frame _ _ (sub hu rfl) (State.setRxCount_frame _ _ _ (sub hu rfl) h0_)))))))))))

theorem State.serAbort_frame {F : Place → Bool} {z : State} (s : State) (p : Nat) (detail : Nat)
    (hu : Al F [.ban, .ser, .regs, .serEnd, .free, .mem, .gates, .heads]) (hz : Fr F z s) :
    Fr F z (State.serAbort s p detail) := by
  unfold State.serAbort
  exact (fr_ite hz
  (State.useFree_frame _ (sub hu rfl) (State.serEndFlight_frame _ _ _ _ _ (sub hu rfl) hz)))

end Sys2Proof.Machine
end

