-- ==== Sys2Proof/Laws/FramePair.lean ====
section
/-!
SUPPORT. What the operations of Machine/Pair.lean may change (Laws/Frames.lean).
-/
namespace Sys2Proof.Machine

theorem State.foldCrcs_frame {F : Place → Bool} {z : State} (s : State)
    (hu : Al F [.ban, .lp, .slv]) (hz : Fr F z s) :
    Fr F z (State.foldCrcs s) := by
  unfold State.foldCrcs
  exact (by
    intro p hp
    cases p
    case ban => exact fr_no (al hu rfl) hp
    case slv => exact fr_no (al hu rfl) hp
    case lp => exact fr_no (al hu rfl) hp
    all_goals exact fr_eq (hz _ hp) rfl)

theorem State.pairOver_frame {F : Place → Bool} {z : State} (s : State)
    (hu : Al F [.ban, .scn, .slv]) (hz : Fr F z s) :
    Fr F z (State.pairOver s) := by
  unfold State.pairOver
  exact (by
    intro p hp
    cases p
    case ban => exact fr_no (al hu rfl) hp
    case scn => exact fr_no (al hu rfl) hp
    case slv => exact fr_no (al hu rfl) hp
    all_goals exact fr_eq (hz _ hp) rfl)

theorem State.rollBack_frame {F : Place → Bool} {z : State} (s : State) (limit : Nat → Nat) (keep : Bool)
    (hu : Al F [.ban, .regs]) (hz : Fr F z s) :
    Fr F z (State.rollBack s limit keep) := by
  unfold State.rollBack
  exact (fr_foldl (fun _ _ h0_ => (by
    extract_lets +onlyGivenNames x1_
    exact (fr_ite (by
      extract_lets +onlyGivenNames x2_
      exact (State.wr_frame _ _ _ (sub hu rfl) (fr_ban h0_ (al hu rfl))))
    (by
      extract_lets +onlyGivenNames x3_
      extract_lets +onlyGivenNames x4_
      have h4_ : Fr F z x4_ := (State.wr_frame _ _ _ (sub hu rfl) h0_)
      try clear_value x4_
      revert x4_
      refine fr_id ?_
      intro x4_ h4_
      exact (fr_ite (fr_ban h4_ (al hu rfl))
      h4_)))))
  hz)

theorem State.setPeerRole_frame {F : Place → Bool} {z : State} (s : State) (r : Nat)
    (hu : Al F [.regs]) (hz : Fr F z s) :
    Fr F z (State.setPeerRole s r) := by
  unfold State.setPeerRole
  exact (State.wr_frame _ _ _ (sub hu rfl) hz)

theorem State.inquiryOver_frame {F : Place → Bool} {z : State} (s : State)
    (hu : Al F [.ban, .regs]) (hz : Fr F z s) :
    Fr F z (State.inquiryOver s) := by
  unfold State.inquiryOver
  extract_lets +onlyGivenNames x0_
  have h0_ : Fr F z x0_ := (State.wr_frame _ _ _ (sub hu rfl) (State.wr_frame _ _ _ (sub hu rfl) (State.wr_frame _ _ _ (sub hu rfl) hz)))
  try clear_value x0_
  revert x0_
  refine fr_id ?_
  intro x0_ h0_
  exact (fr_ban h0_ (al hu rfl))

theorem State.digest_frame {F : Place → Bool} {z : State} (s : State) (t : Nat) (flags : Nat)
    (hu : Al F [.ban, .regs]) (hz : Fr F z s) :
    Fr F z (State.digest s t flags) := by
  unfold State.digest
  extract_lets +onlyGivenNames x0_
  extract_lets +onlyGivenNames x1_
  have h1_ : Fr F z x1_ := (State.wr64_frame _ _ _ _ (sub hu rfl) hz)
  try clear_value x1_
  revert x1_
  refine fr_id ?_
  intro x1_ h1_
  extract_lets +onlyGivenNames x2_
  have h2_ : Fr F z x2_ := (State.banSend_frame _ _ _ (sub hu rfl) h1_)
  try clear_value x2_
  revert x2_
  refine fr_id ?_
  intro x2_ h2_
  extract_lets +onlyGivenNames x3_
  exact (fr_ite h2_
  (fr_ban h2_ (al hu rfl)))

theorem State.commitAhead_frame {F : Place → Bool} {z : State} (s : State) (t : Nat)
    (hu : Al F [.scn]) (hz : Fr F z s) :
    Fr F z (State.commitAhead s t) := by
  unfold State.commitAhead
  extract_lets +onlyGivenNames x0_
  extract_lets +onlyGivenNames x1_
  exact (fr_ite (State.setTask_frame _ _ _ (sub hu rfl) hz)
  hz)

theorem State.sendRole_frame {F : Place → Bool} {z : State} (s : State)
    (hu : Al F [.ban]) (hz : Fr F z s) :
    Fr F z (State.sendRole s) := by
  unfold State.sendRole
  exact (State.banAsk_frame _ _ _ (sub hu rfl) hz)

theorem State.latentCount_frame {F : Place → Bool} {z : State} (s : State)
    (hu : Al F [.ban, .regs]) (hz : Fr F z s) :
    Fr F z (State.latentCount s) := by
  unfold State.latentCount
  extract_lets +onlyGivenNames x0_
  extract_lets +onlyGivenNames x1_
  extract_lets +onlyGivenNames x2_
  have h2_ : Fr F z x2_ := (State.bumpBy_frame _ _ _ (sub hu rfl) hz)
  try clear_value x2_
  revert x2_
  refine fr_id ?_
  intro x2_ h2_
  exact (fr_ban h2_ (al hu rfl))

theorem State.cmpShow_frame {F : Place → Bool} {z : State} (s : State) (t : Nat) (cycle : Nat) (kind : Nat)
    (hu : Al F [.regs]) (hz : Fr F z s) :
    Fr F z (State.cmpShow s t cycle kind) := by
  unfold State.cmpShow
  extract_lets +onlyGivenNames x0_
  have h0_ : Fr F z x0_ := (State.wr_frame _ _ _ (sub hu rfl) (State.wrB_frame _ _ _ (sub hu rfl) (State.wr_frame _ _ _ (sub hu rfl) hz)))
  try clear_value x0_
  revert x0_
  refine fr_id ?_
  intro x0_ h0_
  exact (State.wr64_frame _ _ _ _ (sub hu rfl) h0_)

theorem State.inquiryStart_frame {F : Place → Bool} {z : State} (s : State) (t : Nat)
    (hu : Al F [.ban, .scn, .regs]) (hz : Fr F z s) :
    Fr F z (State.inquiryStart s t) := by
  unfold State.inquiryStart
  extract_lets +onlyGivenNames x0_
  have h0_ : Fr F z x0_ := (State.wr_frame _ _ _ (sub hu rfl) (State.wr_frame _ _ _ (sub hu rfl) hz))
  try clear_value x0_
  revert x0_
  refine fr_id ?_
  intro x0_ h0_
  extract_lets +onlyGivenNames x1_
  extract_lets +onlyGivenNames x2_
  have h2_ : Fr F z x2_ := (State.wrB_frame _ _ _ (sub hu rfl) h0_)
  try clear_value x2_
  revert x2_
  refine fr_id ?_
  intro x2_ h2_
  extract_lets +onlyGivenNames x3_
  have h3_ : Fr F z x3_ := (fr_foldl (fun _ _ h4_ => (State.setTask_frame _ _ _ (sub hu rfl) h4_))
  h2_)
  try clear_value x3_
  revert x3_
  refine fr_id ?_
  intro x3_ h3_
  exact (fr_ban h3_ (al hu rfl))

theorem State.mismatch_frame {F : Place → Bool} {z : State} (s : State) (t : Nat) (cycle : Nat) (kind : Nat) (now : Bool)
    (hu : Al F [.ban, .scn, .gb, .regs, .gates]) (hz : Fr F z s) :
    Fr F z (State.mismatch s t cycle kind now) := by
  unfold State.mismatch
  extract_lets +onlyGivenNames x0_
  have h0_ : Fr F z x0_ := (State.post_frame _ _ _ _ _ _ (sub hu rfl) (State.cmpShow_frame _ _ _ _ (sub hu rfl) (State.bump_frame _ _ (sub hu rfl) hz)))
  try clear_value x0_
  revert x0_
  refine fr_id ?_
  intro x0_ h0_
  exact (fr_ite h0_
  (fr_ite (State.inquiryStart_frame _ _ (sub hu rfl) h0_)
  (fr_ban h0_ (al hu rfl))))

theorem State.compare_frame {F : Place → Bool} {z : State} (s : State) (t : Nat) (now : Bool)
    (hu : Al F [.ban, .scn, .gb, .regs, .gates]) (hz : Fr F z s) :
    Fr F z (State.compare s t now) := by
  unfold State.compare
  exact (by
    split
    · exact hz
    · exact (by
        split
        · exact hz
        · extract_lets +onlyGivenNames x0_
          extract_lets +onlyGivenNames x1_
          have h1_ : Fr F z x1_ := (fr_ban hz (al hu rfl))
          try clear_value x1_
          revert x1_
          refine fr_id ?_
          intro x1_ h1_
          exact (fr_ite h1_
          (State.mismatch_frame _ _ _ _ _ (sub hu rfl) h1_))))

theorem State.setRole_frame {F : Place → Bool} {z : State} (s : State) (r : Nat)
    (hu : Al F [.ban, .regs, .can, .anx]) (hz : Fr F z s) :
    Fr F z (State.setRole s r) := by
  unfold State.setRole
  extract_lets +onlyGivenNames x0_
  extract_lets +onlyGivenNames x1_
  have h1_ : Fr F z x1_ := (State.latentCount_frame _ (sub hu rfl) hz)
  try clear_value x1_
  revert x1_
  refine fr_id ?_
  intro x1_ h1_
  extract_lets +onlyGivenNames x2_
  have h2_ : Fr F z x2_ := (State.wr_frame _ _ _ (sub hu rfl) h1_)
  try clear_value x2_
  revert x2_
  refine fr_id ?_
  intro x2_ h2_
  extract_lets +onlyGivenNames x3_
  have h3_ : Fr F z x3_ := (fr_foldl (fun _ _ h4_ => (State.serDriver_frame _ _ (sub hu rfl) h4_))
  h2_)
  try clear_value x3_
  revert x3_
  refine fr_id ?_
  intro x3_ h3_
  extract_lets +onlyGivenNames x5_
  have h5_ : Fr F z x5_ := (fr_foldl (fun _ _ h6_ => (State.rioRole_frame _ _ (sub hu rfl) h6_))
  h3_)
  try clear_value x5_
  revert x5_
  refine fr_id ?_
  intro x5_ h5_
  extract_lets +onlyGivenNames x7_
  have h7_ : Fr F z x7_ := (fr_ite (fr_foldl (fun _ _ h8_ => (fr_ite (State.canAtK_frame _ _ (sub hu rfl) h8_)
  (State.canToMonitor_frame _ _ (sub hu rfl) h8_)))
  h5_)
  h5_)
  try clear_value x7_
  revert x7_
  refine fr_id ?_
  intro x7_ h7_
  extract_lets +onlyGivenNames x9_
  extract_lets +onlyGivenNames x10_
  have h10_ : Fr F z x10_ := (fr_ite (State.wr_frame _ _ _ (sub hu rfl) (fr_ban h7_ (al hu rfl)))
  h7_)
  try clear_value x10_
  revert x10_
  refine fr_id ?_
  intro x10_ h10_
  extract_lets +onlyGivenNames x11_
  extract_lets +onlyGivenNames x12_
  have h12_ : Fr F z x12_ := (fr_ite (fr_ban h10_ (al hu rfl))
  h10_)
  try clear_value x12_
  revert x12_
  refine fr_id ?_
  intro x12_ h12_
  extract_lets +onlyGivenNames x13_
  extract_lets +onlyGivenNames x14_
  have h14_ : Fr F z x14_ := (fr_ite (fr_anx h12_ (al hu rfl))
  h12_)
  try clear_value x14_
  revert x14_
  refine fr_id ?_
  intro x14_ h14_
  exact (State.rndRole_frame _ (sub hu rfl) h14_)

theorem State.commitDone_frame {F : Place → Bool} {z : State} (s : State) (t : Nat)
    (hu : Al F [.scn, .regs, .gates, .rnd]) (hz : Fr F z s) :
    Fr F z (State.commitDone s t) := by
  unfold State.commitDone
  extract_lets +onlyGivenNames x0_
  extract_lets +onlyGivenNames x1_
  have h1_ : Fr F z x1_ := (State.setTask_frame _ _ _ (sub hu rfl) hz)
  try clear_value x1_
  revert x1_
  refine fr_id ?_
  intro x1_ h1_
  exact (State.rndGrant_frame _ _ _ (sub hu rfl) h1_)

theorem State.fail_frame {F : Place → Bool} {z : State} (s : State) (trigger : Nat)
    (hu : Al F [.ban, .scn, .gb, .regs, .can, .slv, .gates, .anx]) (hz : Fr F z s) :
    Fr F z (State.fail s trigger) := by
  unfold State.fail
  extract_lets +onlyGivenNames x0_
  exact (State.sendRole_frame _ (sub hu rfl) (State.post_frame _ _ _ _ _ _ (sub hu rfl) (State.scnHalt_frame _ (sub hu rfl) (State.setRole_frame _ _ (sub hu rfl) (State.pairOver_frame _ (sub hu rfl) (State.inquiryOver_frame _ (sub hu rfl) hz))))))

theorem State.handover_frame {F : Place → Bool} {z : State} (s : State) (trigger : Nat)
    (hu : Al F [.ban, .scn, .gb, .regs, .gates]) (hz : Fr F z s) :
    Fr F z (State.handover s trigger) := by
  unfold State.handover
  extract_lets +onlyGivenNames x0_
  extract_lets +onlyGivenNames x1_
  have h1_ : Fr F z x1_ := (State.inquiryOver_frame _ (sub hu rfl) hz)
  try clear_value x1_
  revert x1_
  refine fr_id ?_
  intro x1_ h1_
  extract_lets +onlyGivenNames x2_
  have h2_ : Fr F z x2_ := (State.post_frame _ _ _ _ _ _ (sub hu rfl) h1_)
  try clear_value x2_
  revert x2_
  refine fr_id ?_
  intro x2_ h2_
  extract_lets +onlyGivenNames x3_
  have h3_ : Fr F z x3_ := (State.wr_frame _ _ _ (sub hu rfl) (State.wr_frame _ _ _ (sub hu rfl) (State.wr_frame _ _ _ (sub hu rfl) h2_)))
  try clear_value x3_
  revert x3_
  refine fr_id ?_
  intro x3_ h3_
  extract_lets +onlyGivenNames x4_
  have h4_ : Fr F z x4_ := (State.bump_frame _ _ (sub hu rfl) h3_)
  try clear_value x4_
  revert x4_
  refine fr_id ?_
  intro x4_ h4_
  extract_lets +onlyGivenNames x5_
  have h5_ : Fr F z x5_ := (State.banAsk_frame _ _ _ (sub hu rfl) h4_)
  try clear_value x5_
  revert x5_
  refine fr_id ?_
  intro x5_ h5_
  extract_lets +onlyGivenNames x6_
  have h6_ : Fr F z x6_ := (fr_foldl (fun _ _ h7_ => (State.setTask_frame _ _ _ (sub hu rfl) h7_))
  h5_)
  try clear_value x6_
  revert x6_
  refine fr_id ?_
  intro x6_ h6_
  extract_lets +onlyGivenNames x8_
  extract_lets +onlyGivenNames x9_
  have h9_ : Fr F z x9_ := (State.wr_frame _ _ _ (sub hu rfl) (fr_scn h6_ (al hu rfl)))
  try clear_value x9_
  revert x9_
  refine fr_id ?_
  intro x9_ h9_
  extract_lets +onlyGivenNames x10_
  extract_lets +onlyGivenNames x11_
  have h11_ : Fr F z x11_ := (fr_ban h9_ (al hu rfl))
  try clear_value x11_
  revert x11_
  refine fr_id ?_
  intro x11_ h11_
  extract_lets +onlyGivenNames x12_
  have h12_ : Fr F z x12_ := (State.rollBack_frame _ _ _ (sub hu rfl) h11_)
  try clear_value x12_
  revert x12_
  refine fr_id ?_
  intro x12_ h12_
  exact (fr_ban h12_ (al hu rfl))

theorem State.demote_frame {F : Place → Bool} {z : State} (s : State) (cause : Nat) (p2 : Nat)
    (hu : Al F [.ban, .scn, .gb, .regs, .can, .slv, .gates, .anx]) (hz : Fr F z s) :
    Fr F z (State.demote s cause p2) := by
  unfold State.demote
  exact (State.sendRole_frame _ (sub hu rfl) (State.post_frame _ _ _ _ _ _ (sub hu rfl) (State.scnHalt_frame _ (sub hu rfl) (State.setRole_frame _ _ (sub hu rfl) (State.pairOver_frame _ (sub hu rfl) (State.inquiryOver_frame _ (sub hu rfl) hz))))))

theorem State.alone_frame {F : Place → Bool} {z : State} (s : State)
    (hu : Al F [.ban, .scn, .regs, .can, .slv, .anx]) (hz : Fr F z s) :
    Fr F z (State.alone s) := by
  unfold State.alone
  exact (fr_ite (State.setRole_frame _ _ (sub hu rfl) (State.pairOver_frame _ (sub hu rfl) (State.inquiryOver_frame _ (sub hu rfl) hz)))
  hz)

theorem State.faultTrigger_frame {F : Place → Bool} {z : State} (s : State) (trigger : Nat)
    (hu : Al F [.ban, .scn, .gb, .regs, .can, .slv, .gates, .anx]) (hz : Fr F z s) :
    Fr F z (State.faultTrigger s trigger) := by
  unfold State.faultTrigger
  exact (fr_ite hz
  (fr_ite (State.handover_frame _ _ (sub hu rfl) hz)
  (fr_ite (State.fail_frame _ _ (sub hu rfl) hz)
  (fr_ite (State.wr_frame _ _ _ (sub hu rfl) (State.joinAbort_frame _ (sub hu rfl) hz))
  hz))))

theorem State.commitHeld_frame {F : Place → Bool} {z : State} (s : State) (t : Nat)
    (hu : Al F [.rio, .isl, .scn, .axes, .lp, .regs, .can, .free, .gates]) (hz : Fr F z s) :
    Fr F z (State.commitHeld s t) := by
  unfold State.commitHeld
  exact (State.commitOut_frame _ _ (sub hu rfl) (State.forceVars_frame _ _ (sub hu rfl) hz))

theorem State.commitGood_frame {F : Place → Bool} {z : State} (s : State) (t : Nat)
    (hu : Al F [.rio, .isl, .scn, .axes, .lp, .regs, .can, .free, .gates]) (hz : Fr F z s) :
    Fr F z (State.commitGood s t) := by
  unfold State.commitGood
  extract_lets +onlyGivenNames x0_
  exact (fr_ite (fr_ite (State.commitSafe_frame _ _ (sub hu rfl) (State.setTask_frame _ _ _ (sub hu rfl) hz))
  (State.commitOwn_frame _ _ (sub hu rfl) (State.setTaskState_frame _ _ _ (sub hu rfl) (State.setTask_frame _ _ _ (sub hu rfl) hz))))
  (State.commitOwn_frame _ _ (sub hu rfl) hz))

theorem State.commitNow_frame {F : Place → Bool} {z : State} (s : State) (t : Nat)
    (hu : Al F [.rio, .isl, .scn, .axes, .lp, .regs, .can, .free, .gates, .rnd]) (hz : Fr F z s) :
    Fr F z (State.commitNow s t) := by
  unfold State.commitNow
  extract_lets +onlyGivenNames x0_
  extract_lets +onlyGivenNames x1_
  have h1_ : Fr F z x1_ := (fr_ite (State.commitGood_frame _ _ (sub hu rfl) hz)
  (State.commitHeld_frame _ _ (sub hu rfl) hz))
  try clear_value x1_
  revert x1_
  refine fr_id ?_
  intro x1_ h1_
  exact (State.commitDone_frame _ _ (sub hu rfl) h1_)

end Sys2Proof.Machine
end

