-- ==== Sys2Proof/Laws/FrameHamper.lean ====
section
/-!
SUPPORT. What the operations of Machine/Hamper.lean may change (Laws/Frames.lean).
-/
namespace Sys2Proof.Machine

theorem State.setWords_frame {F : Place → Bool} {z : State} (s : State) (a : Nat) (l : List Nat)
    (hu : Al F [.regs]) (hz : Fr F z s) :
    Fr F z (State.setWords s a l) := by
  unfold State.setWords
  exact (fr_foldl (fun _ _ h0_ => (State.wr_frame _ _ _ (sub hu rfl) h0_))
  hz)

theorem State.hamperStart_frame {F : Place → Bool} {z : State} (s : State) (t : Nat)
    (hu : Al F [.ban]) (hz : Fr F z s) :
    Fr F z (State.hamperStart s t) := by
  unfold State.hamperStart
  exact (by
    split
    · exact (fr_ite (by
        extract_lets +onlyGivenNames x0_
        exact (fr_ban hz (al hu rfl)))
      hz)
    · exact hz)

theorem State.topupTick_frame {F : Place → Bool} {z : State} (s : State)
    (hu : Al F [.ban]) (hz : Fr F z s) :
    Fr F z (State.topupTick s) := by
  unfold State.topupTick
  exact (by
    split
    · exact (fr_ite (by
        extract_lets +onlyGivenNames x0_
        extract_lets +onlyGivenNames x1_
        have h1_ : Fr F z x1_ := (fr_ite hz
        (fr_ban hz (al hu rfl)))
        try clear_value x1_
        revert x1_
        refine fr_id ?_
        intro x1_ h1_
        exact (State.banSend_frame _ _ _ (sub hu rfl) h1_))
      hz)
    · exact hz)

theorem State.canFiltersSend_frame {F : Place → Bool} {z : State} (s : State)
    (hu : Al F [.ban]) (hz : Fr F z s) :
    Fr F z (State.canFiltersSend s) := by
  unfold State.canFiltersSend
  exact (fr_foldl (fun _ _ h0_ => (fr_foldl (fun _ _ h1_ => (by
    extract_lets +onlyGivenNames x2_
    have h2_ : Fr F z x2_ := (State.mirror_frame _ _ _ _ (sub hu rfl) h1_)
    try clear_value x2_
    revert x2_
    refine fr_id ?_
    intro x2_ h2_
    exact (State.mirror_frame _ _ _ _ (sub hu rfl) h2_)))
  h0_))
  hz)

theorem State.hamperTick_frame {F : Place → Bool} {z : State} (s : State)
    (hu : Al F [.ban]) (hz : Fr F z s) :
    Fr F z (State.hamperTick s) := by
  unfold State.hamperTick
  exact (by
    split
    · exact (fr_ite (by
        extract_lets +onlyGivenNames x0_
        extract_lets +onlyGivenNames x1_
        extract_lets +onlyGivenNames x2_
        extract_lets +onlyGivenNames x3_
        extract_lets +onlyGivenNames x4_
        have h4_ : Fr F z x4_ := (fr_ban hz (al hu rfl))
        try clear_value x4_
        revert x4_
        refine fr_id ?_
        intro x4_ h4_
        exact (State.canFiltersSend_frame _ (sub hu rfl) h4_))
      hz)
    · exact hz)

end Sys2Proof.Machine
end

