-- ==== Sys2Proof/Laws/FrameTripMatrix.lean ====
section
/-!
SUPPORT. What the operations of Machine/TripMatrix.lean may change (Laws/Frames.lean).
-/
namespace Sys2Proof.Machine

theorem State.trpFirstWrite_frame {F : Place → Bool} {z : State} (s : State) (value : Nat)
    (hu : Al F [.firstOut, .regs]) (hz : Fr F z s) :
    Fr F z (State.trpFirstWrite s value) := by
  unfold State.trpFirstWrite
  exact (fr_ite (by
    extract_lets +onlyGivenNames x0_
    have h0_ : Fr F z x0_ := (State.wr_frame _ _ _ (sub hu rfl) hz)
    try clear_value x0_
    revert x0_
    refine fr_id ?_
    intro x0_ h0_
    exact (fr_firstOut h0_ (al hu rfl)))
  hz)

theorem execDarkTest_frame {F : Place → Bool} {z : State} (n : Fin 8) (failed : Bool) (volts10 : Nat) (s : State)
    (hu : Al F [.gb, .regs, .gates, .saf, .frc]) (hz : Fr F z s) :
    FrA F z (execDarkTest n failed volts10 s) := by
  unfold execDarkTest
  exact (fr_iteA (by
    extract_lets +onlyGivenNames x0_
    have h0_ : Fr F z x0_ := by
      subst x0_
      exact (by
        split
        · exact (State.waitTo_frame _ _ (sub hu rfl) hz)
        · exact hz)
    try clear_value x0_
    revert x0_
    refine fr_id ?_
    intro x0_ h0_
    extract_lets +onlyGivenNames x1_
    extract_lets +onlyGivenNames x2_
    have h2_ : Fr F z x2_ := (fr_saf h0_ (al hu rfl))
    try clear_value x2_
    revert x2_
    refine fr_id ?_
    intro x2_ h2_
    exact (fr_iteA (frA_next (State.post_frame _ _ _ _ _ _ (sub hu rfl) (State.wr_frame _ _ _ (sub hu rfl) h2_)))
    (frA_next h2_)))
  (frA_next hz))

theorem State.sinkTrip_frame {F : Place → Bool} {z : State} (s : State) (prods : Nat) (k : Nat)
    (hu : Al F [.firstOut, .gb, .regs, .gates, .nb]) (hz : Fr F z s) :
    Fr F z (State.sinkTrip s prods k) := by
  unfold State.sinkTrip
  extract_lets +onlyGivenNames x0_
  extract_lets +onlyGivenNames x1_
  extract_lets +onlyGivenNames x2_
  extract_lets +onlyGivenNames x3_
  extract_lets +onlyGivenNames x4_
  extract_lets +onlyGivenNames x5_
  have h5_ : Fr F z x5_ := (State.bump_frame _ _ (sub hu rfl) hz)
  try clear_value x5_
  revert x5_
  refine fr_id ?_
  intro x5_ h5_
  extract_lets +onlyGivenNames x6_
  have h6_ : Fr F z x6_ := (State.wr_frame _ _ _ (sub hu rfl) (State.wrB_frame _ _ _ (sub hu rfl) (State.wrB_frame _ _ _ (sub hu rfl) (State.wr_frame _ _ _ (sub hu rfl) h5_))))
  try clear_value x6_
  revert x6_
  refine fr_id ?_
  intro x6_ h6_
  extract_lets +onlyGivenNames x7_
  have h7_ : Fr F z x7_ := (State.wr_frame _ _ _ (sub hu rfl) (State.wr_frame _ _ _ (sub hu rfl) h6_))
  try clear_value x7_
  revert x7_
  refine fr_id ?_
  intro x7_ h7_
  extract_lets +onlyGivenNames x8_
  have h8_ : Fr F z x8_ := (State.wr64_frame _ _ _ _ (sub hu rfl) (State.wr64_frame _ _ _ _ (sub hu rfl) h7_))
  try clear_value x8_
  revert x8_
  refine fr_id ?_
  intro x8_ h8_
  extract_lets +onlyGivenNames x9_
  extract_lets +onlyGivenNames x10_
  have h10_ : Fr F z x10_ := (fr_ite h5_
  (by
    intro p hp
    cases p
    case nb => exact fr_no (al hu rfl) hp
    case firstOut => exact fr_no (al hu rfl) hp
    all_goals exact fr_eq (h8_ _ hp) rfl))
  try clear_value x10_
  revert x10_
  refine fr_id ?_
  intro x10_ h10_
  exact (State.post_frame _ _ _ _ _ _ (sub hu rfl) h10_)

theorem State.sinkUpdate_frame {F : Place → Bool} {z : State} (s : State) (prods : Nat) (k : Nat)
    (hu : Al F [.firstOut, .gb, .regs, .gates, .nb, .saf]) (hz : Fr F z s) :
    Fr F z (State.sinkUpdate s prods k) := by
  unfold State.sinkUpdate
  extract_lets +onlyGivenNames x0_
  extract_lets +onlyGivenNames x1_
  extract_lets +onlyGivenNames x2_
  extract_lets +onlyGivenNames x3_
  have h3_ : Fr F z x3_ := (fr_ite (State.wr_frame _ _ _ (sub hu rfl) (fr_saf hz (al hu rfl)))
  hz)
  try clear_value x3_
  revert x3_
  refine fr_id ?_
  intro x3_ h3_
  extract_lets +onlyGivenNames x4_
  extract_lets +onlyGivenNames x5_
  extract_lets +onlyGivenNames x6_
  have h6_ : Fr F z x6_ := (State.wr_frame _ _ _ (sub hu rfl) h3_)
  try clear_value x6_
  revert x6_
  refine fr_id ?_
  intro x6_ h6_
  exact (fr_ite (State.sinkTrip_frame _ _ _ (sub hu rfl) h6_)
  h6_)

theorem State.matrix_frame {F : Place → Bool} {z : State} (s : State)
    (hu : Al F [.firstOut, .gb, .regs, .gates, .nb, .saf]) (hz : Fr F z s) :
    Fr F z (State.matrix s) := by
  unfold State.matrix
  exact (fr_ite hz
  (by
    extract_lets +onlyGivenNames x0_
    extract_lets +onlyGivenNames x1_
    have h1_ : Fr F z x1_ := (State.wr64_frame _ _ _ _ (sub hu rfl) (State.wr_frame _ _ _ (sub hu rfl) hz))
    try clear_value x1_
    revert x1_
    refine fr_id ?_
    intro x1_ h1_
    extract_lets +onlyGivenNames x2_
    have h2_ : Fr F z x2_ := (State.wrB_frame _ _ _ (sub hu rfl) h1_)
    try clear_value x2_
    revert x2_
    refine fr_id ?_
    intro x2_ h2_
    exact (fr_foldl (fun _ _ h3_ => (State.sinkUpdate_frame _ _ _ (sub hu rfl) h3_))
    h2_)))

theorem execFastTripSupplyChange_frame {F : Place → Bool} {z : State} (mV : Nat) (s : State)
    (hu : Al F [.firstOut, .gb, .regs, .gates, .nb, .saf]) (hz : Fr F z s) :
    FrA F z (execFastTripSupplyChange mV s) := by
  unfold execFastTripSupplyChange
  exact (frA_next (State.matrix_frame _ (sub hu rfl) (State.wrB_frame _ _ _ (sub hu rfl) hz)))

theorem execCtrlHbLost_frame {F : Place → Bool} {z : State} (s : State)
    (hu : Al F [.firstOut, .gb, .regs, .gates, .nb, .saf, .frc]) (hz : Fr F z s) :
    FrA F z (execCtrlHbLost s) := by
  unfold execCtrlHbLost
  exact (fr_iteA (frA_next (State.matrix_frame _ (sub hu rfl) (State.wr_frame _ _ _ (sub hu rfl) (State.waitTo_frame _ _ (sub hu rfl) hz))))
  (frA_next hz))

theorem execSafetyMonitorWarning_frame {F : Place → Bool} {z : State} (rail : Bool) (clock : Bool) (s : State)
    (hu : Al F [.firstOut, .gb, .regs, .gates, .nb, .saf]) (hz : Fr F z s) :
    FrA F z (execSafetyMonitorWarning rail clock s) := by
  unfold execSafetyMonitorWarning
  exact (fr_iteA (frA_next (State.matrix_frame _ (sub hu rfl) (fr_saf hz (al hu rfl))))
  (frA_next hz))

theorem execFirstOutRearm_frame {F : Place → Bool} {z : State} (m : Master) (value : Word) (s : State)
    (hu : Al F [.firstOut, .gb, .regs, .resp, .gates]) (hz : Fr F z s) :
    FrA F z (execFirstOutRearm m value s) := by
  unfold execFirstOutRearm
  exact (frA_next (State.access_frame _ _ _ _ _ _ (sub hu rfl) hz (fun _ h0_ => (State.trpFirstWrite_frame _ _ (sub hu rfl) h0_))))

theorem execFtiChange_frame {F : Place → Bool} {z : State} (n : Fin 8) (demand : Bool) (s : State)
    (hu : Al F [.firstOut, .gb, .regs, .gates, .nb, .saf]) (hz : Fr F z s) :
    FrA F z (execFtiChange n demand s) := by
  unfold execFtiChange
  exact (frA_next (State.matrix_frame _ (sub hu rfl) (State.wr_frame _ _ _ (sub hu rfl) hz)))

theorem State.enterSafe_frame {F : Place → Bool} {z : State} (s : State) (cause : Nat)
    (hu : Al F [.firstOut, .gb, .regs, .gates, .nb, .saf]) (hz : Fr F z s) :
    Fr F z (State.enterSafe s cause) := by
  unfold State.enterSafe
  extract_lets +onlyGivenNames x0_
  extract_lets +onlyGivenNames x1_
  have h1_ : Fr F z x1_ := (State.wr_frame _ _ _ (sub hu rfl) hz)
  try clear_value x1_
  revert x1_
  refine fr_id ?_
  intro x1_ h1_
  exact (fr_ite (State.matrix_frame _ (sub hu rfl) h1_)
  (by
    extract_lets +onlyGivenNames x2_
    extract_lets +onlyGivenNames x3_
    have h3_ : Fr F z x3_ := (State.wr_frame _ _ _ (sub hu rfl) (fr_saf h1_ (al hu rfl)))
    try clear_value x3_
    revert x3_
    refine fr_id ?_
    intro x3_ h3_
    exact (State.matrix_frame _ (sub hu rfl) (State.post_frame _ _ _ _ _ _ (sub hu rfl) h3_))))

theorem State.safHeartbeat_frame {F : Place → Bool} {z : State} (s : State) (time : Int)
    (hu : Al F [.firstOut, .gb, .regs, .gates, .nb, .saf]) (hz : Fr F z s) :
    Fr F z (State.safHeartbeat s time) := by
  unfold State.safHeartbeat
  exact (fr_ite (State.matrix_frame _ (sub hu rfl) (State.wr_frame _ _ _ (sub hu rfl) (fr_saf hz (al hu rfl))))
  hz)

theorem State.trpReqWrite_frame {F : Place → Bool} {z : State} (s : State) (m : Master) (value : Nat)
    (hu : Al F [.firstOut, .gb, .regs, .gates, .nb, .saf]) (hz : Fr F z s) :
    Fr F z (State.trpReqWrite s m value) := by
  unfold State.trpReqWrite
  extract_lets +onlyGivenNames x0_
  extract_lets +onlyGivenNames x1_
  exact (fr_ite hz
  (State.matrix_frame _ (sub hu rfl) (State.post_frame _ _ _ _ _ _ (sub hu rfl) (State.wr_frame _ _ _ (sub hu rfl) hz))))

theorem execTrpReqWrite_frame {F : Place → Bool} {z : State} (m : Master) (value : Word) (s : State)
    (hu : Al F [.firstOut, .gb, .regs, .resp, .gates, .nb, .saf]) (hz : Fr F z s) :
    FrA F z (execTrpReqWrite m value s) := by
  unfold execTrpReqWrite
  exact (frA_next (State.access_frame _ _ _ _ _ _ (sub hu rfl) hz (fun _ h0_ => (State.trpReqWrite_frame _ _ _ (sub hu rfl) h0_))))

theorem State.forceTrip_frame {F : Place → Bool} {z : State} (s : State) (cause : Nat)
    (hu : Al F [.firstOut, .gb, .regs, .gates, .nb, .saf]) (hz : Fr F z s) :
    Fr F z (State.forceTrip s cause) := by
  unfold State.forceTrip
  exact (fr_ite hz
  (State.enterSafe_frame _ _ (sub hu rfl) (fr_saf hz (al hu rfl))))

theorem execSupervisorForce_frame {F : Place → Bool} {z : State} (why : SafForce) (s : State)
    (hu : Al F [.firstOut, .gb, .regs, .gates, .nb, .saf]) (hz : Fr F z s) :
    FrA F z (execSupervisorForce why s) := by
  unfold execSupervisorForce
  exact (fr_iteA (frA_next (State.forceTrip_frame _ _ (sub hu rfl) hz))
  (frA_next hz))

end Sys2Proof.Machine
end

