-- ==== Sys2Proof/Laws/FrameScan.lean ====
section
/-!
SUPPORT. What the operations of Machine/Scan.lean may change (Laws/Frames.lean).
-/
namespace Sys2Proof.Machine

theorem State.heldMatch_frame {F : Place → Bool} {z : State} (s : State) (q : Nat) (e : List Byte)
    (hu : Al F [.ban]) (hz : Fr F z s) :
    Fr F z (State.heldMatch s q e) := by
  unfold State.heldMatch
  extract_lets +onlyGivenNames x0_
  exact (fr_ban hz (al hu rfl))

theorem State.inTick_frame {F : Place → Bool} {z : State} (s : State) (d : Nat × Nat) (k : State → State)
    (hu : Al F [.scn]) (hz : Fr F z s) (hk : ∀ (a0 : State), Fr F z a0 → Fr F z (k a0)) :
    Fr F z (State.inTick s d k) := by
  unfold State.inTick
  extract_lets +onlyGivenNames x0_
  extract_lets +onlyGivenNames x1_
  have h1_ : Fr F z x1_ := (hk _ (fr_scn hz (al hu rfl)))
  try clear_value x1_
  revert x1_
  refine fr_id ?_
  intro x1_ h1_
  exact (fr_scn h1_ (al hu rfl))

theorem State.restartAct_frame {F : Place → Bool} {z : State} (s : State) (t : Nat)
    (hu : Al F [.scn, .gb, .regs, .gates]) (hz : Fr F z s) :
    Fr F z (State.restartAct s t) := by
  unfold State.restartAct
  exact (fr_ite (State.post_frame _ _ _ _ _ _ (sub hu rfl) hz)
  (fr_ite (State.post_frame _ _ _ _ _ _ (sub hu rfl) hz)
  (State.setTask_frame _ _ _ (sub hu rfl) hz)))

theorem State.modeAct_frame {F : Place → Bool} {z : State} (s : State) (cmd : Nat)
    (hu : Al F [.scn, .gb, .regs, .gates]) (hz : Fr F z s) :
    Fr F z (State.modeAct s cmd) := by
  unfold State.modeAct
  extract_lets +onlyGivenNames x0_
  extract_lets +onlyGivenNames x1_
  exact (fr_ite (State.post_frame _ _ _ _ _ _ (sub hu rfl) hz)
  (fr_ite (State.post_frame _ _ _ _ _ _ (sub hu rfl) hz)
  (fr_ite hz
  (by
    extract_lets +onlyGivenNames x2_
    have h2_ : Fr F z x2_ := (State.post_frame _ _ _ _ _ _ (sub hu rfl) (State.wr_frame _ _ _ (sub hu rfl) hz))
    try clear_value x2_
    revert x2_
    refine fr_id ?_
    intro x2_ h2_
    extract_lets +onlyGivenNames x3_
    have h3_ : Fr F z x3_ := (fr_ite h2_
    (State.wake_frame _ _ (sub hu rfl) h2_))
    try clear_value x3_
    revert x3_
    refine fr_id ?_
    intro x3_ h3_
    exact (fr_ite (fr_scn h3_ (al hu rfl))
    h3_)))))

theorem State.cmdAct_frame {F : Place → Bool} {z : State} (s : State) (c : AgrCmd)
    (hu : Al F [.ban, .scn, .gb, .regs, .gates]) (hz : Fr F z s) :
    Fr F z (State.cmdAct s c) := by
  unfold State.cmdAct
  exact (fr_ite (fr_ite (State.restartAct_frame _ _ (sub hu rfl) hz)
  (State.modeAct_frame _ _ (sub hu rfl) hz))
  (fr_ite (State.forceAct_frame _ _ _ _ _ (sub hu rfl) hz)
  (fr_ite (State.olcArmAct_frame _ _ _ (sub hu rfl) hz)
  (State.olcCancelAct_frame _ (sub hu rfl) hz))))

theorem State.releaseTold_frame {F : Place → Bool} {z : State} (s : State) (r : Nat × Nat × Nat)
    (hu : Al F [.ban, .pgn, .regs, .gates]) (hz : Fr F z s) :
    Fr F z (State.releaseTold s r) := by
  unfold State.releaseTold
  exact (fr_ite (State.pgnReleaseTo_frame _ _ _ (sub hu rfl) hz)
  (by
    extract_lets +onlyGivenNames x0_
    extract_lets +onlyGivenNames x1_
    extract_lets +onlyGivenNames x2_
    have h2_ : Fr F z x2_ := (fr_foldl (fun _ _ h3_ => (State.heldMatch_frame _ _ _ (sub hu rfl) h3_))
    hz)
    try clear_value x2_
    revert x2_
    refine fr_id ?_
    intro x2_ h2_
    extract_lets +onlyGivenNames x4_
    extract_lets +onlyGivenNames x5_
    have h5_ : Fr F z x5_ := (fr_ban h2_ (al hu rfl))
    try clear_value x5_
    revert x5_
    refine fr_id ?_
    intro x5_ h5_
    exact (State.queReleaseTo_frame _ _ _ (sub hu rfl) h5_)))

theorem State.agreedActs_frame {F : Place → Bool} {z : State} (s : State) (g : Agreement)
    (hu : Al F [.ban, .scn, .gb, .pgn, .regs, .can, .gates]) (hz : Fr F z s) :
    Fr F z (State.agreedActs s g) := by
  unfold State.agreedActs
  extract_lets +onlyGivenNames x0_
  have h0_ : Fr F z x0_ := (fr_foldl (fun _ _ h1_ => (State.cmdAct_frame _ _ (sub hu rfl) h1_))
  hz)
  try clear_value x0_
  revert x0_
  refine fr_id ?_
  intro x0_ h0_
  extract_lets +onlyGivenNames x2_
  have h2_ : Fr F z x2_ := (fr_foldl (fun _ _ h3_ => (State.releaseTold_frame _ _ (sub hu rfl) h3_))
  h0_)
  try clear_value x2_
  revert x2_
  refine fr_id ?_
  intro x2_ h2_
  exact (fr_ite h2_
  (State.pgnTimeoutsAct_frame _ (sub hu rfl) (fr_foldl (fun _ _ h4_ => (State.canHpRelease_frame _ _ (sub hu rfl) h4_))
  h2_)))

theorem State.pairTime_frame {F : Place → Bool} {z : State} (s : State) (g : Agreement)
    (hu : Al F [.wear, .tim, .regs]) (hz : Fr F z s) :
    Fr F z (State.pairTime s g) := by
  unfold State.pairTime
  extract_lets +onlyGivenNames x0_
  extract_lets +onlyGivenNames x1_
  extract_lets +onlyGivenNames x2_
  extract_lets +onlyGivenNames x3_
  extract_lets +onlyGivenNames x4_
  have h4_ : Fr F z x4_ := (State.driftCount_frame _ (sub hu rfl) hz)
  try clear_value x4_
  revert x4_
  refine fr_id ?_
  intro x4_ h4_
  extract_lets +onlyGivenNames x5_
  extract_lets +onlyGivenNames x6_
  have h6_ : Fr F z x6_ := (fr_tim h4_ (al hu rfl))
  try clear_value x6_
  revert x6_
  refine fr_id ?_
  intro x6_ h6_
  exact (State.wr_frame _ _ _ (sub hu rfl) (State.wr_frame _ _ _ (sub hu rfl) (State.wr_frame _ _ _ (sub hu rfl) h6_)))

theorem State.landNow_frame {F : Place → Bool} {z : State} (s : State)
    (hu : Al F [.scn, .gb, .regs, .gates]) (hz : Fr F z s) :
    Fr F z (State.landNow s) := by
  unfold State.landNow
  exact (fr_ite hz
  (fr_ite (State.olcSwap_frame _ (sub hu rfl) hz)
  (fr_ite (by
    extract_lets +onlyGivenNames x0_
    exact (fr_scn hz (al hu rfl)))
  hz)))

theorem State.digestMissing_frame {F : Place → Bool} {z : State} (s : State) (t : Nat)
    (hu : Al F [.ban, .rio, .isl, .scn, .gb, .axes, .lp, .regs, .can, .free, .gates, .rnd]) (hz : Fr F z s) :
    Fr F z (State.digestMissing s t) := by
  unfold State.digestMissing
  exact (fr_ite hz
  (by
    extract_lets +onlyGivenNames x0_
    extract_lets +onlyGivenNames x1_
    have h1_ : Fr F z x1_ := (fr_ite (fr_ite (State.commitNow_frame _ _ (sub hu rfl) hz)
    (State.digest_frame _ _ _ (sub hu rfl) (State.commitNow_frame _ _ (sub hu rfl) hz)))
    hz)
    try clear_value x1_
    revert x1_
    refine fr_id ?_
    intro x1_ h1_
    extract_lets +onlyGivenNames x2_
    extract_lets +onlyGivenNames x3_
    exact (fr_foldl (fun _ _ h4_ => (State.mismatch_frame _ _ _ _ _ (sub hu rfl) h4_))
    (fr_ban h1_ (al hu rfl)))))

theorem State.startState_frame {F : Place → Bool} {z : State} (s : State) (t : Nat)
    (hu : Al F [.ban, .rio, .isl, .scn, .gb, .axes, .lp, .regs, .can, .free, .gates]) (hz : Fr F z s) :
    Fr F z (State.startState s t) := by
  unfold State.startState
  extract_lets +onlyGivenNames x0_
  extract_lets +onlyGivenNames x1_
  extract_lets +onlyGivenNames x2_
  have h2_ : Fr F z x2_ := (State.setTask_frame _ _ _ (sub hu rfl) hz)
  try clear_value x2_
  revert x2_
  refine fr_id ?_
  intro x2_ h2_
  exact (fr_ite (fr_ite h2_
  (by
    extract_lets +onlyGivenNames x3_
    have h3_ : Fr F z x3_ := (State.setTaskState_frame _ _ _ (sub hu rfl) h2_)
    try clear_value x3_
    revert x3_
    refine fr_id ?_
    intro x3_ h3_
    extract_lets +onlyGivenNames x4_
    extract_lets +onlyGivenNames x5_
    have h5_ : Fr F z x5_ := (State.setTask_frame _ _ _ (sub hu rfl) h3_)
    try clear_value x5_
    revert x5_
    refine fr_id ?_
    intro x5_ h5_
    extract_lets +onlyGivenNames x6_
    have h6_ : Fr F z x6_ := (fr_ite h5_
    (State.commitSafe_frame _ _ (sub hu rfl) h5_))
    try clear_value x6_
    revert x6_
    refine fr_id ?_
    intro x6_ h6_
    exact (fr_ite (State.compare_frame _ _ _ (sub hu rfl) (State.digest_frame _ _ _ (sub hu rfl) h6_))
    h6_)))
  (fr_ite (by
    extract_lets +onlyGivenNames x7_
    extract_lets +onlyGivenNames x8_
    have h8_ : Fr F z x8_ := (fr_ite (State.reinit_frame _ _ (sub hu rfl) h2_)
    h2_)
    try clear_value x8_
    revert x8_
    refine fr_id ?_
    intro x8_ h8_
    extract_lets +onlyGivenNames x9_
    have h9_ : Fr F z x9_ := (State.setTaskState_frame _ _ _ (sub hu rfl) (State.wr_frame _ _ _ (sub hu rfl) (State.wr_frame _ _ _ (sub hu rfl) h8_)))
    try clear_value x9_
    revert x9_
    refine fr_id ?_
    intro x9_ h9_
    exact (State.post_frame _ _ _ _ _ _ (sub hu rfl) (State.setTask_frame _ _ _ (sub hu rfl) h9_)))
  (fr_ite (fr_ite (State.setTask_frame _ _ _ (sub hu rfl) (State.setTaskState_frame _ _ _ (sub hu rfl) h2_))
  (fr_ite (State.setTaskState_frame _ _ _ (sub hu rfl) h2_)
  h2_))
  (fr_ite (State.setTaskState_frame _ _ _ (sub hu rfl) h2_)
  h2_))))

theorem State.cycleOpen_frame {F : Place → Bool} {z : State} (s : State) (t : Nat)
    (hu : Al F [.ban, .rio, .isl, .scn, .gb, .axes, .lp, .regs, .can, .free, .gates]) (hz : Fr F z s) :
    Fr F z (State.cycleOpen s t) := by
  unfold State.cycleOpen
  extract_lets +onlyGivenNames x0_
  have h0_ : Fr F z x0_ := (State.startState_frame _ _ (sub hu rfl) hz)
  try clear_value x0_
  revert x0_
  refine fr_id ?_
  intro x0_ h0_
  exact (State.setTask_frame _ _ _ (sub hu rfl) h0_)

theorem State.cycleBegin_frame {F : Place → Bool} {z : State} (s : State) (t : Nat)
    (hu : Al F [.ban, .rio, .isl, .scn, .gb, .axes, .lp, .regs, .can, .free, .gates, .rnd]) (hz : Fr F z s) :
    Fr F z (State.cycleBegin s t) := by
  unfold State.cycleBegin
  extract_lets +onlyGivenNames x0_
  have h0_ : Fr F z x0_ := (State.digestMissing_frame _ _ (sub hu rfl) hz)
  try clear_value x0_
  revert x0_
  refine fr_id ?_
  intro x0_ h0_
  extract_lets +onlyGivenNames x1_
  have h1_ : Fr F z x1_ := (fr_foldl (fun _ _ h2_ => (State.rioJoin_frame _ _ (sub hu rfl) h2_))
  h0_)
  try clear_value x1_
  revert x1_
  refine fr_id ?_
  intro x1_ h1_
  extract_lets +onlyGivenNames x3_
  have h3_ : Fr F z x3_ := (State.cycleOpen_frame _ _ (sub hu rfl) h1_)
  try clear_value x3_
  revert x3_
  refine fr_id ?_
  intro x3_ h3_
  exact (fr_ite (State.inquiryStart_frame _ _ (sub hu rfl) h3_)
  h3_)

theorem State.executeStart_frame {F : Place → Bool} {z : State} (s : State) (t : Nat)
    (hu : Al F [.scn, .regs, .gates]) (hz : Fr F z s) :
    Fr F z (State.executeStart s t) := by
  unfold State.executeStart
  exact (fr_ite (by
    extract_lets +onlyGivenNames x0_
    have h0_ : Fr F z x0_ := (State.mapInsts_frame _ _ (sub hu rfl) hz)
    try clear_value x0_
    revert x0_
    refine fr_id ?_
    intro x0_ h0_
    extract_lets +onlyGivenNames x1_
    have h1_ : Fr F z x1_ := (State.wr64_frame _ _ _ _ (sub hu rfl) h0_)
    try clear_value x1_
    revert x1_
    refine fr_id ?_
    intro x1_ h1_
    extract_lets +onlyGivenNames x2_
    have h2_ : Fr F z x2_ := (State.coreCount_frame _ _ (sub hu rfl) h1_)
    try clear_value x2_
    revert x2_
    refine fr_id ?_
    intro x2_ h2_
    extract_lets +onlyGivenNames x3_
    extract_lets +onlyGivenNames x4_
    have h4_ : Fr F z x4_ := (State.setTask_frame _ _ _ (sub hu rfl) h2_)
    try clear_value x4_
    revert x4_
    refine fr_id ?_
    intro x4_ h4_
    exact (State.wake_frame _ _ (sub hu rfl) h4_))
  hz)

theorem State.skipLatch_frame {F : Place → Bool} {z : State} (s : State) (t : Nat)
    (hu : Al F [.scn, .gb, .regs, .gates]) (hz : Fr F z s) :
    Fr F z (State.skipLatch s t) := by
  unfold State.skipLatch
  extract_lets +onlyGivenNames x0_
  extract_lets +onlyGivenNames x1_
  have h1_ : Fr F z x1_ := (State.setTask_frame _ _ _ (sub hu rfl) hz)
  try clear_value x1_
  revert x1_
  refine fr_id ?_
  intro x1_ h1_
  exact (fr_ite h1_
  (State.taskMiss_frame _ _ _ (sub hu rfl) h1_))

theorem State.startFollow_frame {F : Place → Bool} {z : State} (s : State) (g : Option Agreement) (t : Nat)
    (hu : Al F [.ban, .rio, .isl, .scn, .gb, .axes, .lp, .regs, .can, .free, .slv, .gates, .anx, .rnd]) (hz : Fr F z s) :
    Fr F z (State.startFollow s g t) := by
  unfold State.startFollow
  extract_lets +onlyGivenNames x0_
  exact (fr_ite hz
  (fr_ite (State.demote_frame _ _ _ (sub hu rfl) hz)
  (by
    extract_lets +onlyGivenNames x1_
    have h1_ : Fr F z x1_ := (State.cycleBegin_frame _ _ (sub hu rfl) hz)
    try clear_value x1_
    revert x1_
    refine fr_id ?_
    intro x1_ h1_
    exact (by
      clear_value x0_
      split
      · exact (State.executeStart_frame _ _ (sub hu rfl) (State.latchOut_frame _ _ (sub hu rfl) (State.setTask_frame _ _ _ (sub hu rfl) h1_)))
      · exact (fr_ite (State.skipLatch_frame _ _ (sub hu rfl) h1_)
        h1_)))))

theorem State.tickFollow_frame {F : Place → Bool} {z : State} (s : State) (g : Option Agreement)
    (hu : Al F [.ban, .wear, .rio, .isl, .scn, .gb, .axes, .tim, .lp, .pgn, .regs, .can, .free, .slv, .gates, .anx, .rnd]) (hz : Fr F z s) :
    Fr F z (State.tickFollow s g) := by
  unfold State.tickFollow
  extract_lets +onlyGivenNames x0_
  have h0_ : Fr F z x0_ := by
    subst x0_
    exact (by
      split
      · exact (State.agreedActs_frame _ _ (sub hu rfl) (State.pairTime_frame _ _ (sub hu rfl) hz))
      · exact hz)
  try clear_value x0_
  revert x0_
  refine fr_id ?_
  intro x0_ h0_
  extract_lets +onlyGivenNames x1_
  have h1_ : Fr F z x1_ := (State.landNow_frame _ (sub hu rfl) h0_)
  try clear_value x1_
  revert x1_
  refine fr_id ?_
  intro x1_ h1_
  exact (fr_foldl (fun _ _ h2_ => (State.startFollow_frame _ _ _ (sub hu rfl) h2_))
  h1_)

theorem State.followTicks_frame {F : Place → Bool} {z : State} (s : State) (n : Nat)
    (hu : Al F [.ban, .wear, .rio, .isl, .scn, .gb, .axes, .tim, .lp, .pgn, .regs, .can, .free, .slv, .gates, .anx, .rnd]) (hz : Fr F z s) : Fr F z (State.followTicks s n) := by
  induction n generalizing s with
  | zero => exact hz
  | succ n ih =>
    unfold State.followTicks
    split
    · exact hz
    · have go : ∀ (f : State → State), (∀ t, Fr F z t → Fr F z (f t)) → ∀ d r a, Fr F z (State.followTicks
          (State.inTick { s with scn := { s.scn with dues := r }, ban := { s.ban with agrs := a } } d f) n) := fun f hf d r a =>
        ih _ (State.inTick_frame _ _ _ (sub hu rfl) (fr_ban (s := { s with scn := { s.scn with dues := r } })
          (fr_scn hz (al hu rfl)) (al hu rfl)) hf)
      extract_lets g
      split
      · exact go _ (fun t h => State.tickFollow_frame _ _ (sub hu rfl) h) _ _ _
      · exact fr_ite (go _ (fun t h => State.tickFollow_frame _ _ (sub hu rfl) h) _ _ _) hz

theorem State.pendShow_frame {F : Place → Bool} {z : State} (s : State)
    (hu : Al F [.regs]) (hz : Fr F z s) :
    Fr F z (State.pendShow s) := by
  unfold State.pendShow
  exact (by
    split
    · exact (State.wr_frame _ _ _ (sub hu rfl) hz)
    · exact (State.wr_frame _ _ _ (sub hu rfl) hz))

theorem State.execTime_frame {F : Place → Bool} {z : State} (s : State) (t : Nat) (ns : Nat)
    (hu : Al F [.regs]) (hz : Fr F z s) :
    Fr F z (State.execTime s t ns) := by
  unfold State.execTime
  extract_lets +onlyGivenNames x0_
  exact (State.wr_frame _ _ _ (sub hu rfl) (State.wr_frame _ _ _ (sub hu rfl) hz))

theorem State.commitBegin_frame {F : Place → Bool} {z : State} (s : State) (t : Nat)
    (hu : Al F [.ban, .scn, .lp, .slv, .frc]) (hz : Fr F z s) :
    Fr F z (State.commitBegin s t) := by
  unfold State.commitBegin
  extract_lets +onlyGivenNames x0_
  have h0_ : Fr F z x0_ := (fr_frc hz (al hu rfl))
  extract_lets +onlyGivenNames x1_
  extract_lets +onlyGivenNames x2_
  have h2_ : Fr F z x2_ := (State.loopArm_frame _ _ (sub hu rfl) (State.setTask_frame _ _ _ (sub hu rfl) h0_))
  exact (fr_ite (State.foldCrcs_frame _ (sub hu rfl) h2_)
  h2_)

theorem State.takeCmds_frame {F : Place → Bool} {z : State} (s : State)
    (hu : Al F [.scn, .regs]) (hz : Fr F z s) :
    Fr F z (State.takeCmds s).2 := by
  unfold State.takeCmds
  extract_lets +onlyGivenNames x0_
  exact (State.pendShow_frame _ (sub hu rfl) (fr_scn hz (al hu rfl)))

theorem State.followAll_frame {F : Place → Bool} {z : State} (s : State)
    (hu : Al F [.ban, .wear, .rio, .isl, .scn, .gb, .axes, .tim, .lp, .pgn, .regs, .can, .free, .slv, .gates, .anx, .rnd]) (hz : Fr F z s) :
    Fr F z (State.followAll s) := by
  unfold State.followAll
  exact (State.followTicks_frame _ _ (sub hu rfl) hz)

theorem State.sendAgreement_frame {F : Place → Bool} {z : State} (s : State) (cmds : List AgrCmd) (rels : List (Nat × Nat × Nat)) (tasks : List Nat)
    (hu : Al F [.ban]) (hz : Fr F z s) :
    Fr F z (State.sendAgreement s cmds rels tasks) := by
  unfold State.sendAgreement
  extract_lets +onlyGivenNames x0_
  exact (fr_ite (by
    extract_lets +onlyGivenNames x1_
    have h1_ : Fr F z x1_ := (State.banAsk_frame _ _ _ (sub hu rfl) hz)
    try clear_value x1_
    revert x1_
    refine fr_id ?_
    intro x1_ h1_
    exact (fr_ban h1_ (al hu rfl)))
  (State.banSend_frame _ _ _ (sub hu rfl) hz))

theorem State.scnCmdWrite_frame {F : Place → Bool} {z : State} (s : State) (v : Nat)
    (hu : Al F [.scn, .regs, .gates]) (hz : Fr F z s) :
    Fr F z (State.scnCmdWrite s v) := by
  unfold State.scnCmdWrite
  extract_lets +onlyGivenNames x0_
  exact (fr_ite hz
  (by
    extract_lets +onlyGivenNames x1_
    have h1_ : Fr F z x1_ := (State.wake_frame _ _ (sub hu rfl) hz)
    try clear_value x1_
    revert x1_
    refine fr_id ?_
    intro x1_ h1_
    extract_lets +onlyGivenNames x2_
    extract_lets +onlyGivenNames x3_
    exact (State.pendShow_frame _ (sub hu rfl) (fr_scn h1_ (al hu rfl)))))

theorem State.digestAhead_frame {F : Place → Bool} {z : State} (s : State) (t : Nat)
    (hu : Al F [.ban, .scn, .regs]) (hz : Fr F z s) :
    Fr F z (State.digestAhead s t) := by
  unfold State.digestAhead
  extract_lets +onlyGivenNames x0_
  have h0_ : Fr F z x0_ := (State.digest_frame _ _ _ (sub hu rfl) (State.commitAhead_frame _ _ (sub hu rfl) hz))
  try clear_value x0_
  revert x0_
  refine fr_id ?_
  intro x0_ h0_
  exact (fr_scn h0_ (al hu rfl))

theorem State.trapAct_frame {F : Place → Bool} {z : State} (s : State) (t : Nat) (cause : Nat) (pc : Nat)
    (hu : Al F [.scn, .gb, .regs, .gates]) (hz : Fr F z s) :
    Fr F z (State.trapAct s t cause pc) := by
  unfold State.trapAct
  extract_lets +onlyGivenNames x0_
  extract_lets +onlyGivenNames x1_
  extract_lets +onlyGivenNames x2_
  have h2_ : Fr F z x2_ := (State.setTask_frame _ _ _ (sub hu rfl) hz)
  try clear_value x2_
  revert x2_
  refine fr_id ?_
  intro x2_ h2_
  extract_lets +onlyGivenNames x3_
  have h3_ : Fr F z x3_ := (State.wr_frame _ _ _ (sub hu rfl) (fr_ite (State.setTaskState_frame _ _ _ (sub hu rfl) h2_)
  h2_))
  try clear_value x3_
  revert x3_
  refine fr_id ?_
  intro x3_ h3_
  exact (State.post_frame _ _ _ _ _ _ (sub hu rfl) h3_)

theorem State.told_frame {F : Place → Bool} {z : State} (s : State) (t : Nat) (flags : Nat)
    (hu : Al F [.ban, .scn, .gb, .regs, .gates]) (hz : Fr F z s) :
    Fr F z (State.told s t flags) := by
  unfold State.told
  exact (fr_ite (State.compare_frame _ _ _ (sub hu rfl) (State.digest_frame _ _ _ (sub hu rfl) hz))
  hz)

theorem State.housekeep_frame {F : Place → Bool} {z : State} (s : State) (t : Nat)
    (hu : Al F [.regs, .gates, .rnd]) (hz : Fr F z s) :
    Fr F z (State.housekeep s t) := by
  unfold State.housekeep
  exact (State.rndGrant_frame _ _ _ (sub hu rfl) hz)

theorem State.noImage_frame {F : Place → Bool} {z : State} (s : State) (t : Nat) (flags : Nat)
    (hu : Al F [.ban, .scn, .gb, .regs, .gates]) (hz : Fr F z s) :
    Fr F z (State.noImage s t flags) := by
  unfold State.noImage
  exact (fr_ite (State.compare_frame _ _ _ (sub hu rfl) (State.digest_frame _ _ _ (sub hu rfl) hz))
  hz)

theorem State.pointIdle_frame {F : Place → Bool} {z : State} (s : State) (t : Nat)
    (hu : Al F [.ban, .rio, .scn, .gb, .regs, .gates, .rnd]) (hz : Fr F z s) :
    Fr F z (State.pointIdle s t) := by
  unfold State.pointIdle
  extract_lets +onlyGivenNames x0_
  have h0_ : Fr F z x0_ := (fr_ite (fr_foldl (fun _ _ h1_ => (State.commitLink_frame _ _ _ _ (sub hu rfl) h1_))
  hz)
  hz)
  try clear_value x0_
  revert x0_
  refine fr_id ?_
  intro x0_ h0_
  exact (State.housekeep_frame _ _ (sub hu rfl) (State.noImage_frame _ _ _ (sub hu rfl) h0_))

theorem execTaskTrap_frame {F : Place → Bool} {z : State} (t : Fin 16) (cause : BitVec 32) (pc : BitVec 64) (s : State)
    (hu : Al F [.scn, .gb, .regs, .gates]) (hz : Fr F z s) :
    FrA F z (execTaskTrap t cause pc s) := by
  unfold execTaskTrap
  exact (fr_iteA (frA_next hz)
  (frA_next (State.trapAct_frame _ _ _ _ (sub hu rfl) (State.coreCount_frame _ _ (sub hu rfl) hz))))

theorem execScnStop_frame {F : Place → Bool} {z : State} (m : Master) (s : State)
    (hu : Al F [.scn, .gb, .regs, .resp, .gates]) (hz : Fr F z s) :
    FrA F z (execScnStop m s) := by
  unfold execScnStop
  exact (frA_next (State.access_frame _ _ _ _ _ _ (sub hu rfl) hz (fun _ h0_ => (State.scnCmdWrite_frame _ _ (sub hu rfl) h0_))))

theorem execScnRun_frame {F : Place → Bool} {z : State} (m : Master) (s : State)
    (hu : Al F [.scn, .gb, .regs, .resp, .gates]) (hz : Fr F z s) :
    FrA F z (execScnRun m s) := by
  unfold execScnRun
  exact (frA_next (State.access_frame _ _ _ _ _ _ (sub hu rfl) hz (fun _ h0_ => (State.scnCmdWrite_frame _ _ (sub hu rfl) h0_))))

theorem execScnRestart_frame {F : Place → Bool} {z : State} (m : Master) (t : Fin 16) (s : State)
    (hu : Al F [.scn, .gb, .regs, .resp, .gates]) (hz : Fr F z s) :
    FrA F z (execScnRestart m t s) := by
  unfold execScnRestart
  exact (frA_next (State.access_frame _ _ _ _ _ _ (sub hu rfl) hz (fun _ h0_ => (State.scnCmdWrite_frame _ _ (sub hu rfl) h0_))))

theorem execScnHold_frame {F : Place → Bool} {z : State} (m : Master) (s : State)
    (hu : Al F [.scn, .gb, .regs, .resp, .gates]) (hz : Fr F z s) :
    FrA F z (execScnHold m s) := by
  unfold execScnHold
  exact (frA_next (State.access_frame _ _ _ _ _ _ (sub hu rfl) hz (fun _ h0_ => (State.scnCmdWrite_frame _ _ (sub hu rfl) h0_))))

theorem State.strictStep_frame {F : Place → Bool} {z : State} (s : State) (t : Nat)
    (hu : Al F [.ban, .rio, .isl, .scn, .gb, .axes, .lp, .regs, .can, .free, .gates, .rnd]) (hz : Fr F z s) :
    Fr F z (State.strictStep s t) := by
  unfold State.strictStep
  extract_lets +onlyGivenNames x0_
  extract_lets +onlyGivenNames x1_
  extract_lets +onlyGivenNames x2_
  exact (by
    clear_value x1_
    clear_value x2_
    split
    · extract_lets +onlyGivenNames x3_
      have h3_ : Fr F z x3_ := (State.compare_frame _ _ _ (sub hu rfl) hz)
      try clear_value x3_
      revert x3_
      refine fr_id ?_
      intro x3_ h3_
      exact (fr_ite (State.commitNow_frame _ _ (sub hu rfl) h3_)
      (State.setTask_frame _ _ _ (sub hu rfl) h3_))
    · exact hz)

theorem State.commitLead_frame {F : Place → Bool} {z : State} (s : State) (t : Nat)
    (hu : Al F [.ban, .rio, .isl, .scn, .gb, .axes, .lp, .regs, .can, .free, .gates, .rnd]) (hz : Fr F z s) :
    Fr F z (State.commitLead s t) := by
  unfold State.commitLead
  exact (fr_ite (by
    extract_lets +onlyGivenNames x0_
    have h0_ : Fr F z x0_ := (State.digestAhead_frame _ _ (sub hu rfl) hz)
    try clear_value x0_
    revert x0_
    refine fr_id ?_
    intro x0_ h0_
    exact (State.strictStep_frame _ _ (sub hu rfl) (State.setTask_frame _ _ _ (sub hu rfl) h0_)))
  (State.told_frame _ _ _ (sub hu rfl) (State.commitNow_frame _ _ (sub hu rfl) hz)))

theorem State.missAtCommit_frame {F : Place → Bool} {z : State} (s : State) (t : Nat)
    (hu : Al F [.ban, .rio, .isl, .scn, .gb, .axes, .lp, .regs, .can, .free, .gates, .rnd]) (hz : Fr F z s) :
    Fr F z (State.missAtCommit s t) := by
  unfold State.missAtCommit
  extract_lets +onlyGivenNames x0_
  have h0_ : Fr F z x0_ := (State.housekeep_frame _ _ (sub hu rfl) (State.taskMiss_frame _ _ _ (sub hu rfl) hz))
  try clear_value x0_
  revert x0_
  refine fr_id ?_
  intro x0_ h0_
  exact (fr_ite (State.told_frame _ _ _ (sub hu rfl) (State.taskLimitStop_frame _ _ (sub hu rfl) h0_))
  (fr_ite (State.compare_frame _ _ _ (sub hu rfl) (State.digest_frame _ _ _ (sub hu rfl) h0_))
  (State.noImage_frame _ _ _ (sub hu rfl) h0_)))

theorem State.strictLate_frame {F : Place → Bool} {z : State} (s : State) (t : Nat)
    (hu : Al F [.rio, .isl, .scn, .gb, .axes, .lp, .regs, .can, .free, .gates, .frc, .rnd]) (hz : Fr F z s) :
    Fr F z (State.strictLate s t) := by
  unfold State.strictLate
  exact (fr_ite (by
    extract_lets +onlyGivenNames x0_
    have h0_ : Fr F z x0_ := (fr_frc hz (al hu rfl))
    try clear_value x0_
    revert x0_
    refine fr_id ?_
    intro x0_ h0_
    extract_lets +onlyGivenNames x1_
    have h1_ : Fr F z x1_ := (State.post_frame _ _ _ _ _ _ (sub hu rfl) (State.cmpShow_frame _ _ _ _ (sub hu rfl) (State.bump_frame _ _ (sub hu rfl) h0_)))
    try clear_value x1_
    revert x1_
    refine fr_id ?_
    intro x1_ h1_
    exact (State.commitNow_frame _ _ (sub hu rfl) h1_))
  hz)

theorem State.strictLates_frame {F : Place → Bool} {z : State} (s : State) (at_ : Nat)
    (hu : Al F [.rio, .isl, .scn, .gb, .axes, .lp, .regs, .can, .free, .gates, .frc, .rnd]) (hz : Fr F z s) :
    Fr F z (State.strictLates s at_) := by
  unfold State.strictLates
  exact (fr_foldl (fun _ _ h0_ => (State.strictLate_frame _ _ (sub hu rfl) h0_))
  hz)

theorem State.followStep_frame {F : Place → Bool} {z : State} (s : State) (t : Nat)
    (hu : Al F [.ban, .rio, .isl, .scn, .gb, .axes, .lp, .regs, .can, .free, .gates, .rnd]) (hz : Fr F z s) :
    Fr F z (State.followStep s t) := by
  unfold State.followStep
  extract_lets +onlyGivenNames x0_
  extract_lets +onlyGivenNames x1_
  exact (by
    split
    · exact hz
    · exact (fr_ite (by
        extract_lets +onlyGivenNames x2_
        exact (State.missAtCommit_frame _ _ (sub hu rfl) (State.setTask_frame _ _ _ (sub hu rfl) (fr_ban hz (al hu rfl)))))
      (fr_ite (State.noImage_frame _ _ _ (sub hu rfl) (State.setTask_frame _ _ _ (sub hu rfl) hz))
      (fr_ite hz
      (fr_ite (State.strictStep_frame _ _ (sub hu rfl) hz)
      (State.told_frame _ _ _ (sub hu rfl) (State.commitNow_frame _ _ (sub hu rfl) hz)))))))

theorem State.startLead_frame {F : Place → Bool} {z : State} (s : State) (t : Nat)
    (hu : Al F [.ban, .rio, .isl, .scn, .gb, .axes, .lp, .regs, .can, .free, .gates, .rnd]) (hz : Fr F z s) :
    Fr F z (State.startLead s t) := by
  unfold State.startLead
  extract_lets +onlyGivenNames x0_
  have h0_ : Fr F z x0_ := (State.cycleBegin_frame _ _ (sub hu rfl) hz)
  try clear_value x0_
  revert x0_
  refine fr_id ?_
  intro x0_ h0_
  exact (fr_ite h0_
  (fr_ite (State.skipLatch_frame _ _ (sub hu rfl) h0_)
  (State.executeStart_frame _ _ (sub hu rfl) (State.latchOwn_frame _ _ (sub hu rfl) h0_))))

theorem State.tickLead_frame {F : Place → Bool} {z : State} (s : State)
    (hu : Al F [.ban, .rio, .firstLatch, .isl, .scn, .gb, .axes, .lp, .pgn, .regs, .can, .free, .gates, .rnd]) (hz : Fr F z s) :
    Fr F z (State.tickLead s) := by
  unfold State.tickLead
  extract_lets +onlyGivenNames x0_
  have h0_ : Fr F z x0_ := (State.topupTick_frame _ (sub hu rfl) (State.hamperTick_frame _ (sub hu rfl) hz))
  try clear_value x0_
  revert x0_
  refine fr_id ?_
  intro x0_ h0_
  extract_lets +onlyGivenNames x1_
  extract_lets +onlyGivenNames x2_
  have h2_ : Fr F z x2_ := (fr_foldl (fun _ _ h3_ => (State.cmdAct_frame _ _ (sub hu rfl) h3_))
  (State.takeCmds_frame _ (sub hu rfl) h0_))
  try clear_value x2_
  revert x2_
  refine fr_id ?_
  intro x2_ h2_
  extract_lets +onlyGivenNames x4_
  have h4_ : Fr F z x4_ := (State.landNow_frame _ (sub hu rfl) h2_)
  try clear_value x4_
  revert x4_
  refine fr_id ?_
  intro x4_ h4_
  extract_lets +onlyGivenNames x5_
  extract_lets +onlyGivenNames x6_
  extract_lets +onlyGivenNames x7_
  have h7_ : Fr F z x7_ := (fr_foldl (fun _ _ h8_ => (State.startLead_frame _ _ (sub hu rfl) (State.hamperStart_frame _ _ (sub hu rfl) h8_)))
  h4_)
  try clear_value x7_
  revert x7_
  refine fr_id ?_
  intro x7_ h7_
  extract_lets +onlyGivenNames x9_
  extract_lets +onlyGivenNames x10_
  extract_lets +onlyGivenNames x11_
  have h11_ : Fr F z x11_ := (fr_ite h7_
  (State.releaseAll_frame _ (sub hu rfl) h7_))
  try clear_value x11_
  revert x11_
  refine fr_id ?_
  intro x11_ h11_
  extract_lets +onlyGivenNames x12_
  extract_lets +onlyGivenNames x13_
  have h13_ : Fr F z x13_ := (fr_ite (fr_foldl (fun _ _ h14_ => (State.canHpRelease_frame _ _ (sub hu rfl) h14_))
  (fr_ban h11_ (al hu rfl)))
  h11_)
  try clear_value x13_
  revert x13_
  refine fr_id ?_
  intro x13_ h13_
  extract_lets +onlyGivenNames x15_
  have h15_ : Fr F z x15_ := (fr_ite h13_
  (State.pgnTimeoutsAct_frame _ (sub hu rfl) h13_))
  try clear_value x15_
  revert x15_
  refine fr_id ?_
  intro x15_ h15_
  extract_lets +onlyGivenNames x16_
  extract_lets +onlyGivenNames x17_
  have h17_ : Fr F z x17_ := (fr_ite (fr_firstLatch h15_ (al hu rfl))
  h15_)
  try clear_value x17_
  revert x17_
  refine fr_id ?_
  intro x17_ h17_
  extract_lets +onlyGivenNames x18_
  exact (fr_ite (State.sendAgreement_frame _ _ _ _ (sub hu rfl) h17_)
  h17_)

theorem execExecuteReturn_frame {F : Place → Bool} {z : State} (t : Fin 16) (ns : Nat) (image : Option (List Byte)) (invokes : List Invoke) (writes : List (BitVec 32 × List Byte)) (s : State)
    (hu : Al F [.ban, .rio, .isl, .scn, .gb, .axes, .lp, .regs, .can, .free, .gates, .frc, .rnd]) (hz : Fr F z s) :
    FrA F z (execExecuteReturn t ns image invokes writes s) := by
  unfold execExecuteReturn
  extract_lets +onlyGivenNames x0_
  exact (fr_iteA (frA_next hz)
  (by
    extract_lets +onlyGivenNames x1_
    have h1_ : Fr F z x1_ := (fr_frc hz (al hu rfl))
    try clear_value x1_
    revert x1_
    refine fr_id ?_
    intro x1_ h1_
    extract_lets +onlyGivenNames x2_
    have h2_ : Fr F z x2_ := (State.coreCount_frame _ _ (sub hu rfl) h1_)
    try clear_value x2_
    revert x2_
    refine fr_id ?_
    intro x2_ h2_
    extract_lets +onlyGivenNames x3_
    have h3_ : Fr F z x3_ := (fr_foldl (fun _ _ h4_ => (State.invoke_frame _ _ _ (sub hu rfl) h4_))
    h2_)
    try clear_value x3_
    revert x3_
    refine fr_id ?_
    intro x3_ h3_
    extract_lets +onlyGivenNames x5_
    have h5_ : Fr F z x5_ := (fr_foldl (fun _ _ h6_ => (State.varWrite_frame _ _ _ (sub hu rfl) h6_))
    h3_)
    try clear_value x5_
    revert x5_
    refine fr_id ?_
    intro x5_ h5_
    extract_lets +onlyGivenNames x7_
    extract_lets +onlyGivenNames x8_
    extract_lets +onlyGivenNames x9_
    have h9_ : Fr F z x9_ := (State.execTime_frame _ _ _ (sub hu rfl) h5_)
    try clear_value x9_
    revert x9_
    refine fr_id ?_
    intro x9_ h9_
    extract_lets +onlyGivenNames x10_
    extract_lets +onlyGivenNames x11_
    have h11_ : Fr F z x11_ := (State.setTask_frame _ _ _ (sub hu rfl) h9_)
    try clear_value x11_
    revert x11_
    refine fr_id ?_
    intro x11_ h11_
    exact (fr_iteA (frA_next (State.wr_frame _ _ _ (sub hu rfl) h11_))
    (fr_iteA (by
      extract_lets +onlyGivenNames x12_
      have h12_ : Fr F z x12_ := (State.wr_frame _ _ _ (sub hu rfl) h11_)
      try clear_value x12_
      revert x12_
      refine fr_id ?_
      intro x12_ h12_
      exact (frA_next (State.followStep_frame _ _ (sub hu rfl) (fr_ite (State.digestAhead_frame _ _ (sub hu rfl) h12_)
      h12_))))
    (frA_next h11_)))))

theorem State.commitFollow_frame {F : Place → Bool} {z : State} (s : State) (t : Nat)
    (hu : Al F [.ban, .rio, .isl, .scn, .gb, .axes, .lp, .regs, .can, .free, .gates, .rnd]) (hz : Fr F z s) :
    Fr F z (State.commitFollow s t) := by
  unfold State.commitFollow
  extract_lets +onlyGivenNames x0_
  exact (fr_ite (State.followStep_frame _ _ (sub hu rfl) (State.setTask_frame _ _ _ (sub hu rfl) hz))
  (by
    extract_lets +onlyGivenNames x1_
    have h1_ : Fr F z x1_ := (fr_ite (State.digestAhead_frame _ _ (sub hu rfl) hz)
    hz)
    try clear_value x1_
    revert x1_
    refine fr_id ?_
    intro x1_ h1_
    exact (State.followStep_frame _ _ (sub hu rfl) (State.setTask_frame _ _ _ (sub hu rfl) h1_))))

theorem State.pointAt_frame {F : Place → Bool} {z : State} (s : State) (t : Nat)
    (hu : Al F [.ban, .rio, .isl, .scn, .gb, .axes, .lp, .regs, .can, .free, .gates, .rnd]) (hz : Fr F z s) :
    Fr F z (State.pointAt s t) := by
  unfold State.pointAt
  extract_lets +onlyGivenNames x0_
  extract_lets +onlyGivenNames x1_
  exact (fr_ite (State.noImage_frame _ _ _ (sub hu rfl) hz)
  (fr_ite (fr_ite (State.told_frame _ _ _ (sub hu rfl) (State.housekeep_frame _ _ (sub hu rfl) (State.commitSafe_frame _ _ (sub hu rfl) (State.setTask_frame _ _ _ (sub hu rfl) hz))))
  (State.pointIdle_frame _ _ (sub hu rfl) hz))
  (fr_ite (State.pointIdle_frame _ _ (sub hu rfl) hz)
  (fr_ite (State.told_frame _ _ _ (sub hu rfl) (State.housekeep_frame _ _ (sub hu rfl) (State.taskLimitStop_frame _ _ (sub hu rfl) hz)))
  (fr_ite (State.housekeep_frame _ _ (sub hu rfl) (State.noImage_frame _ _ _ (sub hu rfl) hz))
  (fr_ite (State.commitFollow_frame _ _ (sub hu rfl) hz)
  (fr_ite (State.missAtCommit_frame _ _ (sub hu rfl) hz)
  (State.commitLead_frame _ _ (sub hu rfl) hz))))))))

theorem State.commitAt_frame {F : Place → Bool} {z : State} (s : State) (t : Nat)
    (hu : Al F [.ban, .rio, .isl, .scn, .gb, .axes, .lp, .regs, .can, .free, .slv, .gates, .frc, .rnd]) (hz : Fr F z s) :
    Fr F z (State.commitAt s t) := by
  unfold State.commitAt
  extract_lets +onlyGivenNames x0_
  extract_lets +onlyGivenNames x1_
  have h1_ : Fr F z x1_ := (State.commitBegin_frame _ _ (sub hu rfl) hz)
  try clear_value x1_
  revert x1_
  refine fr_id ?_
  intro x1_ h1_
  exact (by
    split
    · exact (fr_ite (by
        extract_lets +onlyGivenNames x2_
        have h2_ : Fr F z x2_ := (State.bump_frame _ _ (sub hu rfl) h1_)
        try clear_value x2_
        revert x2_
        refine fr_id ?_
        intro x2_ h2_
        exact (fr_ban h2_ (al hu rfl)))
      h1_)
    · exact (fr_ite h1_
      (State.pointAt_frame _ _ (sub hu rfl) (fr_ite (fr_ban h1_ (al hu rfl))
      h1_))))

theorem State.commitsTo_frame {F : Place → Bool} {z : State} (s : State) (at_ : Nat)
    (hu : Al F [.ban, .rio, .isl, .scn, .gb, .axes, .lp, .regs, .can, .free, .slv, .gates, .frc, .rnd]) (hz : Fr F z s) :
    Fr F z (State.commitsTo s at_) := by
  unfold State.commitsTo
  exact (fr_foldl (fun _ _ h0_ => (State.commitAt_frame _ _ (sub hu rfl) h0_))
  hz)

theorem execCommit_frame {F : Place → Bool} {z : State} (t : Fin 16) (s : State)
    (hu : Al F [.ban, .rio, .isl, .scn, .gb, .axes, .lp, .regs, .can, .free, .slv, .gates, .frc, .rnd]) (hz : Fr F z s) :
    FrA F z (execCommit t s) := by
  unfold execCommit
  exact (fr_iteA (frA_next (State.commitAt_frame _ _ (sub hu rfl) (fr_foldl (fun _ _ h0_ => (State.commitAt_frame _ _ (sub hu rfl) h0_))
  hz)))
  (frA_next hz))

theorem execBaseTick_frame {F : Place → Bool} {z : State} (s : State)
    (hu : Al F [.ban, .wear, .rio, .firstOut, .firstLatch, .isl, .scn, .gb, .axes, .tim, .lp, .pgn, .regs, .can, .free, .slv, .gates, .nb, .saf, .frc, .anx, .rnd]) (hz : Fr F z s) :
    FrA F z (execBaseTick s) := by
  unfold execBaseTick
  extract_lets +onlyGivenNames x0_
  exact (fr_iteA (frA_next hz)
  (by
    extract_lets +onlyGivenNames x1_
    have h1_ : Fr F z x1_ := (State.strictLates_frame _ _ (sub hu rfl) (State.commitsTo_frame _ _ (sub hu rfl) hz))
    try clear_value x1_
    revert x1_
    refine fr_id ?_
    intro x1_ h1_
    extract_lets +onlyGivenNames x2_
    have h2_ : Fr F z x2_ := (fr_ite (State.demote_frame _ _ _ (sub hu rfl) h1_)
    h1_)
    try clear_value x2_
    revert x2_
    refine fr_id ?_
    intro x2_ h2_
    extract_lets +onlyGivenNames x3_
    extract_lets +onlyGivenNames x4_
    extract_lets +onlyGivenNames x5_
    have h5_ : Fr F z x5_ := (by
      intro p hp
      cases p
      case scn => exact fr_no (al hu rfl) hp
      case frc => exact fr_no (al hu rfl) hp
      all_goals exact fr_eq (h2_ _ hp) rfl)
    try clear_value x5_
    revert x5_
    refine fr_id ?_
    intro x5_ h5_
    extract_lets +onlyGivenNames x6_
    have h6_ : Fr F z x6_ := (State.safHeartbeat_frame _ _ (sub hu rfl) h5_)
    try clear_value x6_
    revert x6_
    refine fr_id ?_
    intro x6_ h6_
    exact (fr_iteA (frA_next (State.followAll_frame _ (sub hu rfl) (fr_scn h6_ (al hu rfl))))
    (fr_iteA (frA_next (State.tickLead_frame _ (sub hu rfl) h6_))
    (frA_next (State.topupTick_frame _ (sub hu rfl) h6_))))))

end Sys2Proof.Machine
end

