-- ==== Sys2Proof/Laws/FrameBanister.lean ====
section
/-!
SUPPORT. What the operations of Machine/Banister.lean may change (Laws/Frames.lean).
-/
namespace Sys2Proof.Machine

theorem State.laneSeen_frame {F : Place → Bool} {z : State} (s : State) (l : Nat) (seq : Nat)
    (hu : Al F [.ban]) (hz : Fr F z s) :
    Fr F z (State.laneSeen s l seq) := by
  unfold State.laneSeen
  extract_lets +onlyGivenNames x0_
  extract_lets +onlyGivenNames x1_
  exact (fr_ban hz (al hu rfl))

theorem State.nakTake_frame {F : Place → Bool} {z : State} (s : State) (seqs : List Nat)
    (hu : Al F [.ban]) (hz : Fr F z s) :
    Fr F z (State.nakTake s seqs) := by
  unfold State.nakTake
  extract_lets +onlyGivenNames x0_
  exact (fr_ban hz (al hu rfl))

theorem State.drivingTake_frame {F : Place → Bool} {z : State} (s : State) (offset : Nat)
    (hu : Al F [.ban]) (hz : Fr F z s) :
    Fr F z (State.drivingTake s offset) := by
  unfold State.drivingTake
  exact (by
    split
    · exact (fr_ite (fr_ban hz (al hu rfl))
      hz)
    · exact hz)

theorem State.gridShift_frame {F : Place → Bool} {z : State} (s : State) (d : Int)
    (hu : Al F [.scn]) (hz : Fr F z s) :
    Fr F z (State.gridShift s d) := by
  unfold State.gridShift
  extract_lets +onlyGivenNames x0_
  exact (fr_scn hz (al hu rfl))

theorem State.agreeAckTake_frame {F : Place → Bool} {z : State} (s : State) (tick : Nat) (crc : Nat)
    (hu : Al F [.ban]) (hz : Fr F z s) :
    Fr F z (State.agreeAckTake s tick crc) := by
  unfold State.agreeAckTake
  exact (fr_ite (by
    extract_lets +onlyGivenNames x0_
    have h0_ : Fr F z x0_ := (State.hsDone_frame _ _ (sub hu rfl) hz)
    try clear_value x0_
    revert x0_
    refine fr_id ?_
    intro x0_ h0_
    exact (fr_ban h0_ (al hu rfl)))
  hz)

theorem execBarrierBackstop_frame {F : Place → Bool} {z : State} (s : State)
    (hu : Al F [.ban, .frc]) (hz : Fr F z s) :
    FrA F z (execBarrierBackstop s) := by
  unfold execBarrierBackstop
  exact (by
    split
    · exact (fr_iteA (by
        extract_lets +onlyGivenNames x0_
        have h0_ : Fr F z x0_ := (fr_frc hz (al hu rfl))
        try clear_value x0_
        revert x0_
        refine fr_id ?_
        intro x0_ h0_
        exact (frA_next (fr_ban h0_ (al hu rfl))))
      (frA_next hz))
    · exact (frA_next hz))

theorem State.plantBeats_frame {F : Place → Bool} {z : State} (s : State) (src : State → Nat → List Byte)
    (hu : Al F [.ban, .eth]) (hz : Fr F z s) :
    Fr F z (State.plantBeats s src) := by
  unfold State.plantBeats
  extract_lets +onlyGivenNames x0_
  extract_lets +onlyGivenNames x1_
  extract_lets +onlyGivenNames x2_
  exact (fr_foldl (fun _ _ h3_ => (fr_ite (State.ethHand_frame _ _ _ _ (sub hu rfl) h3_)
  h3_))
  (fr_ban hz (al hu rfl)))

theorem State.tickShift_frame {F : Place → Bool} {z : State} (s : State) (d : Int)
    (hu : Al F [.scn, .lp]) (hz : Fr F z s) :
    Fr F z (State.tickShift s d) := by
  unfold State.tickShift
  extract_lets +onlyGivenNames x0_
  extract_lets +onlyGivenNames x1_
  extract_lets +onlyGivenNames x2_
  extract_lets +onlyGivenNames x3_
  have h3_ : Fr F z x3_ := (by
    intro p hp
    cases p
    case scn => exact fr_no (al hu rfl) hp
    case lp => exact fr_no (al hu rfl) hp
    all_goals exact fr_eq (hz _ hp) rfl)
  try clear_value x3_
  revert x3_
  refine fr_id ?_
  intro x3_ h3_
  exact (fr_ite h3_
  (State.gridShift_frame _ _ (sub hu rfl) h3_))

theorem State.stationBeats_frame {F : Place → Bool} {z : State} (s : State)
    (hu : Al F [.ban, .eth]) (hz : Fr F z s) :
    Fr F z (State.stationBeats s) := by
  unfold State.stationBeats
  exact (State.plantBeats_frame _ _ (sub hu rfl) hz)

theorem State.mirrorAckTake_frame {F : Place → Bool} {z : State} (s : State) (upTo : Nat)
    (hu : Al F [.ban]) (hz : Fr F z s) :
    Fr F z (State.mirrorAckTake s upTo) := by
  unfold State.mirrorAckTake
  extract_lets +onlyGivenNames x0_
  have h0_ : Fr F z x0_ := (State.hsDone_frame _ _ (sub hu rfl) hz)
  try clear_value x0_
  revert x0_
  refine fr_id ?_
  intro x0_ h0_
  exact (fr_ban h0_ (al hu rfl))

theorem State.rbMirror_frame {F : Place → Bool} {z : State} (s : State)
    (hu : Al F [.ban]) (hz : Fr F z s) :
    Fr F z (State.rbMirror s) := by
  unfold State.rbMirror
  exact (State.mirror_frame _ _ _ _ (sub hu rfl) (State.mirror_frame _ _ _ _ (sub hu rfl) hz))

theorem State.releasedTake_frame {F : Place → Bool} {z : State} (s : State)
    (hu : Al F [.ban, .regs]) (hz : Fr F z s) :
    Fr F z (State.releasedTake s) := by
  unfold State.releasedTake
  exact (by
    split
    · exact (fr_ite hz
      (by
        extract_lets +onlyGivenNames x0_
        exact (State.wr_frame _ _ _ (sub hu rfl) (fr_ban hz (al hu rfl)))))
    · exact hz)

theorem State.mirrorAckSend_frame {F : Place → Bool} {z : State} (s : State)
    (hu : Al F [.ban]) (hz : Fr F z s) :
    Fr F z (State.mirrorAckSend s) := by
  unfold State.mirrorAckSend
  exact (State.banSend_frame _ _ _ (sub hu rfl) hz)

theorem execRampEnd_frame {F : Place → Bool} {z : State} (s : State)
    (hu : Al F [.ban, .frc]) (hz : Fr F z s) :
    FrA F z (execRampEnd s) := by
  unfold execRampEnd
  exact (by
    split
    · exact (by
        split
        · extract_lets +onlyGivenNames x0_
          have h0_ : Fr F z x0_ := (fr_frc hz (al hu rfl))
          try clear_value x0_
          revert x0_
          refine fr_id ?_
          intro x0_ h0_
          exact (fr_iteA (by
            extract_lets +onlyGivenNames x1_
            extract_lets +onlyGivenNames x2_
            have h2_ : Fr F z x2_ := (fr_ban h0_ (al hu rfl))
            try clear_value x2_
            revert x2_
            refine fr_id ?_
            intro x2_ h2_
            exact (frA_next (State.banSend_frame _ _ _ (sub hu rfl) h2_)))
          (frA_next h0_))
        · exact (frA_next hz))
    · exact (frA_next hz))

theorem State.setRbBlock_frame {F : Place → Bool} {z : State} (s : State) (n : Nat) (b : Bool)
    (hu : Al F [.regs]) (hz : Fr F z s) :
    Fr F z (State.setRbBlock s n b) := by
  unfold State.setRbBlock
  exact (State.wr64_frame _ _ _ _ (sub hu rfl) hz)

theorem State.roleAnswer_frame {F : Place → Bool} {z : State} (s : State) (seq : Nat)
    (hu : Al F [.ban]) (hz : Fr F z s) :
    Fr F z (State.roleAnswer s seq) := by
  unfold State.roleAnswer
  exact (State.banSend_frame _ _ _ (sub hu rfl) hz)

theorem execPlantHeartbeatSend_frame {F : Place → Bool} {z : State} (s : State)
    (hu : Al F [.ban, .eth, .frc]) (hz : Fr F z s) :
    FrA F z (execPlantHeartbeatSend s) := by
  unfold execPlantHeartbeatSend
  exact (fr_iteA (by
    extract_lets +onlyGivenNames x0_
    extract_lets +onlyGivenNames x1_
    have h1_ : Fr F z x1_ := (fr_frc hz (al hu rfl))
    try clear_value x1_
    revert x1_
    refine fr_id ?_
    intro x1_ h1_
    exact (frA_next (State.plantBeats_frame _ _ (sub hu rfl) (fr_ban h1_ (al hu rfl)))))
  (frA_next hz))

theorem State.isoShow_frame {F : Place → Bool} {z : State} (s : State)
    (hu : Al F [.regs]) (hz : Fr F z s) :
    Fr F z (State.isoShow s) := by
  unfold State.isoShow
  extract_lets +onlyGivenNames x0_
  extract_lets +onlyGivenNames x1_
  extract_lets +onlyGivenNames x2_
  extract_lets +onlyGivenNames x3_
  have h3_ : Fr F z x3_ := (State.wr_frame _ _ _ (sub hu rfl) hz)
  try clear_value x3_
  revert x3_
  refine fr_id ?_
  intro x3_ h3_
  exact (State.wrB_frame _ _ _ (sub hu rfl) h3_)

theorem execHeartbeatSend_frame {F : Place → Bool} {z : State} (s : State)
    (hu : Al F [.ban, .frc]) (hz : Fr F z s) :
    FrA F z (execHeartbeatSend s) := by
  unfold execHeartbeatSend
  extract_lets +onlyGivenNames x0_
  have h0_ : Fr F z x0_ := (fr_frc hz (al hu rfl))
  try clear_value x0_
  revert x0_
  refine fr_id ?_
  intro x0_ h0_
  extract_lets +onlyGivenNames x1_
  have h1_ : Fr F z x1_ := (State.banSend_frame _ _ _ (sub hu rfl) h0_)
  try clear_value x1_
  revert x1_
  refine fr_id ?_
  intro x1_ h1_
  extract_lets +onlyGivenNames x2_
  exact (frA_next (fr_ite (State.banAsk_frame _ _ _ (sub hu rfl) h1_)
  h1_))

theorem State.rampSet_frame {F : Place → Bool} {z : State} (s : State) (r : Option (Nat × Bool))
    (hu : Al F [.isl, .regs, .free]) (hz : Fr F z s) :
    Fr F z (State.rampSet s r) := by
  unfold State.rampSet
  exact (fr_foldl (fun _ _ h0_ => (State.setIsland_frame _ _ _ (sub hu rfl) h0_))
  hz)

theorem execBanisterFrameDiscard_frame {F : Place → Bool} {z : State} (type : Byte) (len : Nat) (lane : Fin 2) (s : State)
    (hu : Al F [.gb, .regs, .gates]) (hz : Fr F z s) :
    FrA F z (execBanisterFrameDiscard type len lane s) := by
  unfold execBanisterFrameDiscard
  exact (fr_iteA (frA_next (State.post_frame _ _ _ _ _ _ (sub hu rfl) (State.bump_frame _ _ (sub hu rfl) hz)))
  (frA_next hz))

theorem execRampStart_frame {F : Place → Bool} {z : State} (s : State)
    (hu : Al F [.ban, .isl, .regs, .free, .frc]) (hz : Fr F z s) :
    FrA F z (execRampStart s) := by
  unfold execRampStart
  exact (by
    split
    · exact (by
        split
        · extract_lets +onlyGivenNames x0_
          have h0_ : Fr F z x0_ := (State.rampSet_frame _ _ (sub hu rfl) (fr_frc hz (al hu rfl)))
          try clear_value x0_
          revert x0_
          refine fr_id ?_
          intro x0_ h0_
          exact (frA_next (fr_ite h0_
          (fr_ban h0_ (al hu rfl))))
        · exact (frA_next hz))
    · exact (frA_next hz))

theorem State.elect_frame {F : Place → Bool} {z : State} (s : State) (code : Nat)
    (hu : Al F [.ban, .gb, .regs, .gates]) (hz : Fr F z s) :
    Fr F z (State.elect s code) := by
  unfold State.elect
  extract_lets +onlyGivenNames x0_
  extract_lets +onlyGivenNames x1_
  have h1_ : Fr F z x1_ := (State.post_frame _ _ _ _ _ _ (sub hu rfl) (State.wr_frame _ _ _ (sub hu rfl) hz))
  try clear_value x1_
  revert x1_
  refine fr_id ?_
  intro x1_ h1_
  exact (fr_ite h1_
  (State.banAsk_frame _ _ _ (sub hu rfl) h1_))

theorem execLaneRestored_frame {F : Place → Bool} {z : State} (l : Fin 2) (s : State)
    (hu : Al F [.ban, .scn, .gb, .regs, .can, .slv, .gates, .frc, .anx]) (hz : Fr F z s) :
    FrA F z (execLaneRestored l s) := by
  unfold execLaneRestored
  exact (fr_iteA (by
    extract_lets +onlyGivenNames x0_
    extract_lets +onlyGivenNames x1_
    have h1_ : Fr F z x1_ := (fr_frc hz (al hu rfl))
    try clear_value x1_
    revert x1_
    refine fr_id ?_
    intro x1_ h1_
    extract_lets +onlyGivenNames x2_
    have h2_ : Fr F z x2_ := (State.wr_frame _ _ _ (sub hu rfl) (State.wr_frame _ _ _ (sub hu rfl) h1_))
    try clear_value x2_
    revert x2_
    refine fr_id ?_
    intro x2_ h2_
    extract_lets +onlyGivenNames x3_
    have h3_ : Fr F z x3_ := (State.post_frame _ _ _ _ _ _ (sub hu rfl) h2_)
    try clear_value x3_
    revert x3_
    refine fr_id ?_
    intro x3_ h3_
    extract_lets +onlyGivenNames x4_
    have h4_ : Fr F z x4_ := (State.isoShow_frame _ (sub hu rfl) h3_)
    try clear_value x4_
    revert x4_
    refine fr_id ?_
    intro x4_ h4_
    exact (frA_next (fr_ite (State.demote_frame _ _ _ (sub hu rfl) h4_)
    h4_)))
  (frA_next hz))

theorem execHandshakeTimeout_frame {F : Place → Bool} {z : State} (s : State)
    (hu : Al F [.ban, .gb, .regs, .gates, .frc]) (hz : Fr F z s) :
    FrA F z (execHandshakeTimeout s) := by
  unfold execHandshakeTimeout
  exact (by
    split
    · exact (frA_next hz)
    · extract_lets +onlyGivenNames x0_
      extract_lets +onlyGivenNames x1_
      have h1_ : Fr F z x1_ := (by
        intro p hp
        cases p
        case ban => exact fr_no (al hu rfl) hp
        case frc => exact fr_no (al hu rfl) hp
        all_goals exact fr_eq (hz _ hp) rfl)
      try clear_value x1_
      revert x1_
      refine fr_id ?_
      intro x1_ h1_
      extract_lets +onlyGivenNames x2_
      have h2_ : Fr F z x2_ := (State.post_frame _ _ _ _ _ _ (sub hu rfl) (State.bump_frame _ _ (sub hu rfl) h1_))
      try clear_value x2_
      revert x2_
      refine fr_id ?_
      intro x2_ h2_
      exact (frA_next (fr_ban h2_ (al hu rfl))))

theorem State.hear_frame {F : Place → Bool} {z : State} (s : State) (strap : Nat) (role : Nat)
    (hu : Al F [.ban, .gb, .power, .regs, .gates]) (hz : Fr F z s) :
    Fr F z (State.hear s strap role) := by
  unfold State.hear
  exact (fr_ite (by
    extract_lets +onlyGivenNames x0_
    extract_lets +onlyGivenNames x1_
    have h1_ : Fr F z x1_ := (fr_power hz (al hu rfl))
    try clear_value x1_
    revert x1_
    refine fr_id ?_
    intro x1_ h1_
    exact (fr_ite (State.elect_frame _ _ (sub hu rfl) h1_)
    h1_))
  hz)

theorem State.handoverOver_frame {F : Place → Bool} {z : State} (s : State)
    (hu : Al F [.ban, .isl, .regs, .free]) (hz : Fr F z s) :
    Fr F z (State.handoverOver s) := by
  unfold State.handoverOver
  extract_lets +onlyGivenNames x0_
  have h0_ : Fr F z x0_ := (State.rampSet_frame _ _ (sub hu rfl) (State.wr_frame _ _ _ (sub hu rfl) hz))
  try clear_value x0_
  revert x0_
  refine fr_id ?_
  intro x0_ h0_
  exact (fr_ban h0_ (al hu rfl))

theorem execPlantHeartbeat_frame {F : Place → Bool} {z : State} (p : Fin 4) (x : PlantBeat) (s : State)
    (hu : Al F [.ban, .gb, .fpl, .regs, .gates]) (hz : Fr F z s) :
    FrA F z (execPlantHeartbeat p x s) := by
  unfold execPlantHeartbeat
  exact (fr_iteA (by
    extract_lets +onlyGivenNames x0_
    extract_lets +onlyGivenNames x1_
    extract_lets +onlyGivenNames x2_
    have h2_ : Fr F z x2_ := (fr_ban hz (al hu rfl))
    try clear_value x2_
    revert x2_
    refine fr_id ?_
    intro x2_ h2_
    extract_lets +onlyGivenNames x3_
    have h3_ : Fr F z x3_ := (State.isoShow_frame _ (sub hu rfl) (State.setPeerRole_frame _ _ (sub hu rfl) h2_))
    try clear_value x3_
    revert x3_
    refine fr_id ?_
    intro x3_ h3_
    exact (fr_iteA (frA_next (State.elect_frame _ _ (sub hu rfl) (State.wr_frame _ _ _ (sub hu rfl) h3_)))
    (frA_next h3_)))
  (frA_next hz))

theorem State.mirrorEntry_frame {F : Place → Bool} {z : State} (s : State) (seq : Nat) (x : Mirrored)
    (hu : Al F [.ban, .pgn, .regs, .can, .mem, .gates]) (hz : Fr F z s) :
    Fr F z (State.mirrorEntry s seq x) := by
  unfold State.mirrorEntry
  extract_lets +onlyGivenNames x0_
  exact (fr_ite (by
    extract_lets +onlyGivenNames x1_
    extract_lets +onlyGivenNames x2_
    have h2_ : Fr F z x2_ := (fr_ban hz (al hu rfl))
    try clear_value x2_
    revert x2_
    refine fr_id ?_
    intro x2_ h2_
    extract_lets +onlyGivenNames x3_
    exact (State.wr_frame _ _ _ (sub hu rfl) (State.setBytes_frame _ _ _ (sub hu rfl) h2_)))
  (fr_ite (State.pgnStore_frame _ _ _ _ _ _ (sub hu rfl) hz)
  (State.setCanCh_frame _ _ _ (sub hu rfl) hz)))

theorem execMissingFrameDemote_frame {F : Place → Bool} {z : State} (type : Byte) (s : State)
    (hu : Al F [.ban, .rio, .isl, .scn, .gb, .axes, .lp, .regs, .can, .free, .slv, .gates, .frc, .anx]) (hz : Fr F z s) :
    FrA F z (execMissingFrameDemote type s) := by
  unfold execMissingFrameDemote
  exact (fr_iteA (by
    split
    · exact (frA_next (State.demote_frame _ _ _ (sub hu rfl) (fr_frc hz (al hu rfl))))
    · exact (frA_next hz))
  (frA_next hz))

theorem State.joinLog_frame {F : Place → Bool} {z : State} (s : State) (x : JoinLog) (len : Nat) (tick : Nat)
    (hu : Al F [.ban, .scn, .gb, .regs, .gates]) (hz : Fr F z s) :
    Fr F z (State.joinLog s x len tick) := by
  unfold State.joinLog
  exact (by
    split
    · exact (fr_ite hz
      (by
        extract_lets +onlyGivenNames x0_
        extract_lets +onlyGivenNames x1_
        extract_lets +onlyGivenNames x2_
        have h2_ : Fr F z x2_ := (fr_ban hz (al hu rfl))
        try clear_value x2_
        revert x2_
        refine fr_id ?_
        intro x2_ h2_
        extract_lets +onlyGivenNames x3_
        have h3_ : Fr F z x3_ := (State.wr_frame _ _ _ (sub hu rfl) h2_)
        try clear_value x3_
        revert x3_
        refine fr_id ?_
        intro x3_ h3_
        exact (fr_ite (State.joinEnd_frame _ _ (sub hu rfl) h3_)
        h3_)))
    · exact hz)

theorem execUncorrectableEcc_frame {F : Place → Bool} {z : State} (s : State)
    (hu : Al F [.ban, .scn, .gb, .regs, .can, .slv, .gates, .anx]) (hz : Fr F z s) :
    FrA F z (execUncorrectableEcc s) := by
  unfold execUncorrectableEcc
  exact (frA_next (State.faultTrigger_frame _ _ (sub hu rfl) hz))

theorem State.rxMirrorTake_frame {F : Place → Bool} {z : State} (s : State) (seq : Nat) (entries : List Mirrored)
    (hu : Al F [.ban, .scn, .gb, .pgn, .regs, .can, .mem, .gates]) (hz : Fr F z s) :
    Fr F z (State.rxMirrorTake s seq entries) := by
  unfold State.rxMirrorTake
  exact (fr_ite (by
    extract_lets +onlyGivenNames x0_
    have h0_ : Fr F z x0_ := (fr_foldl (fun _ _ h1_ => (State.mirrorEntry_frame _ _ _ (sub hu rfl) h1_))
    hz)
    try clear_value x0_
    revert x0_
    refine fr_id ?_
    intro x0_ h0_
    exact (State.mirrorAckSend_frame _ (sub hu rfl) (fr_ban h0_ (al hu rfl))))
  (fr_ite (State.joinLog_frame _ _ _ _ (sub hu rfl) hz)
  hz))

theorem State.readbackTrigger_frame {F : Place → Bool} {z : State} (s : State) (n : Nat)
    (hu : Al F [.ban, .scn, .gb, .regs, .gates]) (hz : Fr F z s) :
    Fr F z (State.readbackTrigger s n) := by
  unfold State.readbackTrigger
  exact (fr_ite (State.post_frame _ _ _ _ _ _ (sub hu rfl) hz)
  (fr_ite (State.handover_frame _ _ (sub hu rfl) (State.rbMirror_frame _ (sub hu rfl) (State.setRbBlock_frame _ _ _ (sub hu rfl) hz)))
  (fr_ite (State.wr_frame _ _ _ (sub hu rfl) (State.joinAbort_frame _ (sub hu rfl) hz))
  hz)))

theorem State.takeLead_frame {F : Place → Bool} {z : State} (s : State)
    (hu : Al F [.wear, .gb, .axes, .tim, .regs, .gates]) (hz : Fr F z s) :
    Fr F z (State.takeLead s) := by
  unfold State.takeLead
  exact (State.axTakeover_frame _ (sub hu rfl) (State.c1Choose_frame _ (sub hu rfl) hz))

theorem execLockstepMismatch_frame {F : Place → Bool} {z : State} (s : State)
    (hu : Al F [.ban, .scn, .gb, .regs, .can, .slv, .gates, .anx]) (hz : Fr F z s) :
    FrA F z (execLockstepMismatch s) := by
  unfold execLockstepMismatch
  exact (frA_next (State.faultTrigger_frame _ _ (sub hu rfl) hz))

theorem State.peerChange_frame {F : Place → Bool} {z : State} (s : State) (r : Nat)
    (hu : Al F [.ban, .scn, .gb, .regs, .can, .slv, .gates, .anx]) (hz : Fr F z s) :
    Fr F z (State.peerChange s r) := by
  unfold State.peerChange
  extract_lets +onlyGivenNames x0_
  have h0_ : Fr F z x0_ := (State.setPeerRole_frame _ _ (sub hu rfl) hz)
  try clear_value x0_
  revert x0_
  refine fr_id ?_
  intro x0_ h0_
  extract_lets +onlyGivenNames x1_
  have h1_ : Fr F z x1_ := (fr_ite (State.joinAbort_frame _ (sub hu rfl) h0_)
  h0_)
  try clear_value x1_
  revert x1_
  refine fr_id ?_
  intro x1_ h1_
  exact (fr_ite (State.sendRole_frame _ (sub hu rfl) (State.alone_frame _ (sub hu rfl) h1_))
  h1_)

theorem State.roleTake_frame {F : Place → Bool} {z : State} (s : State) (seq : Nat) (x : RoleMsg)
    (hu : Al F [.ban, .scn, .gb, .regs, .can, .slv, .gates, .anx]) (hz : Fr F z s) :
    Fr F z (State.roleTake s seq x) := by
  unfold State.roleTake
  exact (by
    split
    · exact (State.peerChange_frame _ _ (sub hu rfl) (State.roleAnswer_frame _ _ (sub hu rfl) hz))
    · extract_lets +onlyGivenNames x0_
      have h0_ : Fr F z x0_ := (State.wr_frame _ _ _ (sub hu rfl) (State.roleAnswer_frame _ _ (sub hu rfl) hz))
      try clear_value x0_
      revert x0_
      refine fr_id ?_
      intro x0_ h0_
      exact (fr_ite (State.wr_frame _ _ _ (sub hu rfl) h0_)
      h0_)
    · exact (State.roleAnswer_frame _ _ (sub hu rfl) hz)
    · extract_lets +onlyGivenNames x1_
      have h1_ : Fr F z x1_ := by
        subst x1_
        exact (by
          split
          · exact (State.wr_frame _ _ _ (sub hu rfl) hz)
          · exact hz)
      try clear_value x1_
      revert x1_
      refine fr_id ?_
      intro x1_ h1_
      exact (State.hsDone_frame _ _ (sub hu rfl) h1_))

theorem State.takeHeld_frame {F : Place → Bool} {z : State} (s : State) (h1' : Nat × List Byte)
    (hu : Al F [.ban, .posted, .regs, .mem, .gates, .heads]) (hz : Fr F z s) :
    Fr F z (State.takeHeld s h1') := by
  unfold State.takeHeld
  extract_lets +onlyGivenNames x0_
  extract_lets +onlyGivenNames x1_
  exact (fr_ite (by
    extract_lets +onlyGivenNames x2_
    exact (State.quePush_frame _ _ _ (sub hu rfl) hz))
  hz)

theorem execWatchdogExpiry_frame {F : Place → Bool} {z : State} (s : State)
    (hu : Al F [.ban, .scn, .gb, .regs, .can, .slv, .gates, .anx]) (hz : Fr F z s) :
    FrA F z (execWatchdogExpiry s) := by
  unfold execWatchdogExpiry
  exact (frA_next (State.faultTrigger_frame _ _ (sub hu rfl) hz))

theorem State.agreementTake_frame {F : Place → Bool} {z : State} (s : State) (g : Agreement)
    (hu : Al F [.ban, .wear, .rio, .isl, .scn, .gb, .axes, .tim, .lp, .pgn, .regs, .can, .free, .slv, .gates, .anx, .rnd]) (hz : Fr F z s) :
    Fr F z (State.agreementTake s g) := by
  unfold State.agreementTake
  exact (fr_ite (by
    extract_lets +onlyGivenNames x0_
    have h0_ : Fr F z x0_ := (State.banSend_frame _ _ _ (sub hu rfl) hz)
    try clear_value x0_
    revert x0_
    refine fr_id ?_
    intro x0_ h0_
    exact (State.followAll_frame _ (sub hu rfl) (fr_ban h0_ (al hu rfl))))
  (fr_ite (State.joinLog_frame _ _ _ _ (sub hu rfl) hz)
  hz))

theorem State.heartbeatTake_frame {F : Place → Bool} {z : State} (s : State) (sent : Nat) (role : Nat) (phase : Nat)
    (hu : Al F [.ban, .scn, .gb, .power, .lp, .regs, .can, .slv, .gates, .anx]) (hz : Fr F z s) :
    Fr F z (State.heartbeatTake s sent role phase) := by
  unfold State.heartbeatTake
  extract_lets +onlyGivenNames x0_
  have h0_ : Fr F z x0_ := (State.hear_frame _ _ _ (sub hu rfl) (State.peerChange_frame _ _ (sub hu rfl) hz))
  try clear_value x0_
  revert x0_
  refine fr_id ?_
  intro x0_ h0_
  exact (by
    split
    · exact (fr_ite (by
        extract_lets +onlyGivenNames x1_
        exact (State.tickShift_frame _ _ (sub hu rfl) h0_))
      h0_)
    · exact h0_)

theorem State.unknownHead_frame {F : Place → Bool} {z : State} (s : State) (q : Nat)
    (hu : Al F [.ban, .gb, .regs, .free, .mem, .gates, .heads]) (hz : Fr F z s) :
    Fr F z (State.unknownHead s q) := by
  unfold State.unknownHead
  exact (fr_ite hz
  (by
    extract_lets +onlyGivenNames x0_
    extract_lets +onlyGivenNames x1_
    extract_lets +onlyGivenNames x2_
    extract_lets +onlyGivenNames x3_
    extract_lets +onlyGivenNames x4_
    extract_lets +onlyGivenNames x5_
    extract_lets +onlyGivenNames x6_
    have h6_ : Fr F z x6_ := (State.useFree_frame _ (sub hu rfl) hz)
    try clear_value x6_
    revert x6_
    refine fr_id ?_
    intro x6_ h6_
    extract_lets +onlyGivenNames x7_
    have h7_ : Fr F z x7_ := (fr_ite (State.canComplete_frame _ _ _ _ _ _ (sub hu rfl) h6_)
    (fr_ite (State.txDone_frame _ _ _ _ (sub hu rfl) h6_)
    (State.txDone_frame _ _ _ _ (sub hu rfl) h6_)))
    try clear_value x7_
    revert x7_
    refine fr_id ?_
    intro x7_ h7_
    exact (State.post_frame _ _ _ _ _ _ (sub hu rfl) h7_)))

theorem execAoReadbackMismatch_frame {F : Place → Bool} {z : State} (k : Fin 8) (c : Fin 8) (s : State)
    (hu : Al F [.ban, .scn, .gb, .regs, .gates, .saf, .frc]) (hz : Fr F z s) :
    FrA F z (execAoReadbackMismatch k c s) := by
  unfold execAoReadbackMismatch
  extract_lets +onlyGivenNames x0_
  exact (by
    split
    · exact (frA_next hz)
    · exact (fr_iteA (frA_next hz)
      (by
        extract_lets +onlyGivenNames x1_
        have h1_ : Fr F z x1_ := (State.waitTo_frame _ _ (sub hu rfl) hz)
        try clear_value x1_
        revert x1_
        refine fr_id ?_
        intro x1_ h1_
        extract_lets +onlyGivenNames x2_
        have h2_ : Fr F z x2_ := (State.aoFlags_frame _ _ _ (sub hu rfl) (State.wr_frame _ _ _ (sub hu rfl) h1_))
        try clear_value x2_
        revert x2_
        refine fr_id ?_
        intro x2_ h2_
        extract_lets +onlyGivenNames x3_
        have h3_ : Fr F z x3_ := (State.post_frame _ _ _ _ _ _ (sub hu rfl) h2_)
        try clear_value x3_
        revert x3_
        refine fr_id ?_
        intro x3_ h3_
        exact (frA_next (State.readbackTrigger_frame _ _ (sub hu rfl) h3_)))))

theorem execDoReadbackMismatch_frame {F : Place → Bool} {z : State} (k : Fin 8) (c : Fin 8) (s : State)
    (hu : Al F [.ban, .isl, .scn, .gb, .regs, .free, .gates, .saf, .frc]) (hz : Fr F z s) :
    FrA F z (execDoReadbackMismatch k c s) := by
  unfold execDoReadbackMismatch
  extract_lets +onlyGivenNames x0_
  extract_lets +onlyGivenNames x1_
  exact (by
    split
    · exact (frA_next hz)
    · exact (fr_iteA (by
        extract_lets +onlyGivenNames x2_
        extract_lets +onlyGivenNames x3_
        have h3_ : Fr F z x3_ := (State.setCh_frame _ _ _ _ (sub hu rfl) (State.waitTo_frame _ _ (sub hu rfl) hz))
        try clear_value x3_
        revert x3_
        refine fr_id ?_
        intro x3_ h3_
        exact (frA_next (State.readbackTrigger_frame _ _ (sub hu rfl) (State.post_frame _ _ _ _ _ _ (sub hu rfl) h3_))))
      (frA_next hz)))

theorem State.unknownAll_frame {F : Place → Bool} {z : State} (s : State)
    (hu : Al F [.ban, .gb, .regs, .free, .mem, .gates, .heads]) (hz : Fr F z s) :
    Fr F z (State.unknownAll s) := by
  unfold State.unknownAll
  exact (fr_foldl (fun _ _ h0_ => (fr_ite (fr_foldl (fun _ _ h1_ => (State.unknownHead_frame _ _ (sub hu rfl) h1_))
  h0_)
  h0_))
  hz)

theorem State.takeoverNew_frame {F : Place → Bool} {z : State} (s : State) (h1' : Handover) (unknown : List (Fin 64))
    (hu : Al F [.ban, .wear, .isl, .gb, .axes, .tim, .regs, .can, .eth, .free, .mem, .gates, .heads, .anx]) (hz : Fr F z s) :
    Fr F z (State.takeoverNew s h1' unknown) := by
  unfold State.takeoverNew
  extract_lets +onlyGivenNames x0_
  extract_lets +onlyGivenNames x1_
  have h1_ : Fr F z x1_ := (State.wr_frame _ _ _ (sub hu rfl) (State.useFree_frame _ (sub hu rfl) hz))
  try clear_value x1_
  revert x1_
  refine fr_id ?_
  intro x1_ h1_
  extract_lets +onlyGivenNames x2_
  extract_lets +onlyGivenNames x3_
  extract_lets +onlyGivenNames x4_
  extract_lets +onlyGivenNames x5_
  have h5_ : Fr F z x5_ := (State.setRole_frame _ _ (sub hu rfl) (State.handoverOver_frame _ (sub hu rfl) (fr_ban h1_ (al hu rfl))))
  try clear_value x5_
  revert x5_
  refine fr_id ?_
  intro x5_ h5_
  extract_lets +onlyGivenNames x6_
  have h6_ : Fr F z x6_ := (State.setPeerRole_frame _ _ (sub hu rfl) h5_)
  try clear_value x6_
  revert x6_
  refine fr_id ?_
  intro x6_ h6_
  extract_lets +onlyGivenNames x7_
  have h7_ : Fr F z x7_ := (fr_foldl (fun _ _ h8_ => (State.unknownHead_frame _ _ (sub hu rfl) h8_))
  h6_)
  try clear_value x7_
  revert x7_
  refine fr_id ?_
  intro x7_ h7_
  extract_lets +onlyGivenNames x9_
  have h9_ : Fr F z x9_ := (fr_foldl (fun _ _ h10_ => (State.unknownHead_frame _ _ (sub hu rfl) h10_))
  h7_)
  try clear_value x9_
  revert x9_
  refine fr_id ?_
  intro x9_ h9_
  exact (State.post_frame _ _ _ _ _ _ (sub hu rfl) (State.takeLead_frame _ (sub hu rfl) (State.stationBeats_frame _ (sub hu rfl) h9_)))

theorem State.laneTakeover_frame {F : Place → Bool} {z : State} (s : State) (forced : Bool)
    (hu : Al F [.ban, .wear, .scn, .gb, .axes, .tim, .regs, .can, .free, .slv, .mem, .gates, .heads, .anx]) (hz : Fr F z s) :
    Fr F z (State.laneTakeover s forced) := by
  unfold State.laneTakeover
  extract_lets +onlyGivenNames x0_
  have h0_ : Fr F z x0_ := (State.isoShow_frame _ (sub hu rfl) hz)
  try clear_value x0_
  revert x0_
  refine fr_id ?_
  intro x0_ h0_
  extract_lets +onlyGivenNames x1_
  extract_lets +onlyGivenNames x2_
  extract_lets +onlyGivenNames x3_
  have h3_ : Fr F z x3_ := (State.setRole_frame _ _ (sub hu rfl) (State.pairOver_frame _ (sub hu rfl) h0_))
  try clear_value x3_
  revert x3_
  refine fr_id ?_
  intro x3_ h3_
  extract_lets +onlyGivenNames x4_
  have h4_ : Fr F z x4_ := (fr_foldl (fun _ _ h5_ => (fr_ite (State.setTask_frame _ _ _ (sub hu rfl) h5_)
  h5_))
  h3_)
  try clear_value x4_
  revert x4_
  refine fr_id ?_
  intro x4_ h4_
  extract_lets +onlyGivenNames x6_
  have h6_ : Fr F z x6_ := (State.unknownAll_frame _ (sub hu rfl) (State.bump_frame _ _ (sub hu rfl) (State.wr_frame _ _ _ (sub hu rfl) h4_)))
  try clear_value x6_
  revert x6_
  refine fr_id ?_
  intro x6_ h6_
  exact (State.post_frame _ _ _ _ _ _ (sub hu rfl) (State.takeLead_frame _ (sub hu rfl) h6_))

theorem State.banCmdWrite_frame {F : Place → Bool} {z : State} (s : State) (v : Nat)
    (hu : Al F [.ban, .wear, .scn, .gb, .axes, .tim, .regs, .can, .free, .slv, .mem, .gates, .heads, .anx]) (hz : Fr F z s) :
    Fr F z (State.banCmdWrite s v) := by
  unfold State.banCmdWrite
  extract_lets +onlyGivenNames x0_
  extract_lets +onlyGivenNames x1_
  extract_lets +onlyGivenNames x2_
  exact (fr_ite hz
  (fr_ite (fr_ite (State.cmdStat_frame _ _ _ _ (sub hu rfl) hz)
  (fr_ite (State.cmdStat_frame _ _ _ _ (sub hu rfl) hz)
  (fr_ite (State.cmdStat_frame _ _ _ _ (sub hu rfl) hz)
  (fr_ite (State.cmdStat_frame _ _ _ _ (sub hu rfl) hz)
  (State.handover_frame _ _ (sub hu rfl) (State.cmdStat_frame _ _ _ _ (sub hu rfl) hz))))))
  (fr_ite (State.rbMirror_frame _ (sub hu rfl) (State.setRbBlock_frame _ _ _ (sub hu rfl) (State.cmdStat_frame _ _ _ _ (sub hu rfl) hz)))
  (fr_ite (State.rbMirror_frame _ (sub hu rfl) (State.wr64_frame _ _ _ _ (sub hu rfl) (State.cmdStat_frame _ _ _ _ (sub hu rfl) hz)))
  (fr_ite (fr_ite (State.cmdStat_frame _ _ _ _ (sub hu rfl) hz)
  (fr_ite (State.cmdStat_frame _ _ _ _ (sub hu rfl) hz)
  (State.laneTakeover_frame _ _ (sub hu rfl) (State.cmdStat_frame _ _ _ _ (sub hu rfl) hz))))
  hz)))))

theorem State.inquiryDecide_frame {F : Place → Bool} {z : State} (s : State) (q : Inquiry) (own : Nat) (peer : Option Nat)
    (hu : Al F [.ban, .rio, .isl, .scn, .gb, .axes, .lp, .regs, .can, .free, .slv, .gates, .anx]) (hz : Fr F z s) :
    Fr F z (State.inquiryDecide s q own peer) := by
  unfold State.inquiryDecide
  extract_lets +onlyGivenNames x0_
  extract_lets +onlyGivenNames x1_
  extract_lets +onlyGivenNames x2_
  extract_lets +onlyGivenNames x3_
  extract_lets +onlyGivenNames x4_
  have h4_ : Fr F z x4_ := (State.wr_frame _ _ _ (sub hu rfl) (State.wr_frame _ _ _ (sub hu rfl) hz))
  try clear_value x4_
  revert x4_
  refine fr_id ?_
  intro x4_ h4_
  extract_lets +onlyGivenNames x5_
  have h5_ : Fr F z x5_ := (State.wr_frame _ _ _ (sub hu rfl) (State.wr_frame _ _ _ (sub hu rfl) h4_))
  try clear_value x5_
  revert x5_
  refine fr_id ?_
  intro x5_ h5_
  extract_lets +onlyGivenNames x6_
  have h6_ : Fr F z x6_ := (State.post_frame _ _ _ _ _ _ (sub hu rfl) (State.inquiryOver_frame _ (sub hu rfl) h5_))
  try clear_value x6_
  revert x6_
  refine fr_id ?_
  intro x6_ h6_
  extract_lets +onlyGivenNames x7_
  exact (fr_ite (fr_ite (State.alone_frame _ (sub hu rfl) (State.setPeerRole_frame _ _ (sub hu rfl) h6_))
  (State.demote_frame _ _ _ (sub hu rfl) h6_))
  (fr_ite (fr_ite (State.handover_frame _ _ (sub hu rfl) h6_)
  (State.fail_frame _ _ (sub hu rfl) h6_))
  (fr_ite (fr_ite (State.alone_frame _ (sub hu rfl) (State.setPeerRole_frame _ _ (sub hu rfl) h6_))
  h6_)
  (fr_ite (by
    extract_lets +onlyGivenNames x8_
    extract_lets +onlyGivenNames x9_
    have h9_ : Fr F z x9_ := (fr_foldl (fun _ _ h10_ => (State.setTaskState_frame _ _ _ (sub hu rfl) (State.commitSafe_frame _ _ (sub hu rfl) h10_)))
    h6_)
    try clear_value x9_
    revert x9_
    refine fr_id ?_
    intro x9_ h9_
    extract_lets +onlyGivenNames x11_
    have h11_ : Fr F z x11_ := (State.post_frame _ _ _ _ _ _ (sub hu rfl) (State.wr_frame _ _ _ (sub hu rfl) h9_))
    try clear_value x11_
    revert x11_
    refine fr_id ?_
    intro x11_ h11_
    exact (State.alone_frame _ (sub hu rfl) (State.setPeerRole_frame _ _ (sub hu rfl) (State.post_frame _ _ _ _ _ _ (sub hu rfl) h11_))))
  (State.fail_frame _ _ (sub hu rfl) h6_)))))

theorem execForceTakeover_frame {F : Place → Bool} {z : State} (m : Master) (s : State)
    (hu : Al F [.ban, .wear, .scn, .gb, .axes, .tim, .regs, .can, .free, .slv, .resp, .mem, .gates, .heads, .anx]) (hz : Fr F z s) :
    FrA F z (execForceTakeover m s) := by
  unfold execForceTakeover
  exact (frA_next (State.access_frame _ _ _ _ _ _ (sub hu rfl) hz (fun _ h0_ => (State.banCmdWrite_frame _ _ (sub hu rfl) h0_))))

theorem execLaneLossTakeover_frame {F : Place → Bool} {z : State} (s : State)
    (hu : Al F [.ban, .wear, .scn, .gb, .axes, .tim, .regs, .can, .free, .slv, .mem, .gates, .heads, .anx]) (hz : Fr F z s) :
    FrA F z (execLaneLossTakeover s) := by
  unfold execLaneLossTakeover
  extract_lets +onlyGivenNames x0_
  have h0_ : Fr F z x0_ := (State.isoShow_frame _ (sub hu rfl) hz)
  try clear_value x0_
  revert x0_
  refine fr_id ?_
  intro x0_ h0_
  exact (fr_iteA (frA_next (State.laneTakeover_frame _ _ (sub hu rfl) h0_))
  (frA_next h0_))

theorem execBanHandover_frame {F : Place → Bool} {z : State} (m : Master) (s : State)
    (hu : Al F [.ban, .wear, .scn, .gb, .axes, .tim, .regs, .can, .free, .slv, .resp, .mem, .gates, .heads, .anx]) (hz : Fr F z s) :
    FrA F z (execBanHandover m s) := by
  unfold execBanHandover
  exact (frA_next (State.access_frame _ _ _ _ _ _ (sub hu rfl) hz (fun _ h0_ => (State.banCmdWrite_frame _ _ (sub hu rfl) h0_))))

theorem State.lanesGone_frame {F : Place → Bool} {z : State} (s : State)
    (hu : Al F [.ban, .wear, .scn, .gb, .axes, .tim, .regs, .can, .free, .slv, .mem, .gates, .heads, .anx]) (hz : Fr F z s) :
    Fr F z (State.lanesGone s) := by
  unfold State.lanesGone
  extract_lets +onlyGivenNames x0_
  extract_lets +onlyGivenNames x1_
  extract_lets +onlyGivenNames x2_
  have h2_ : Fr F z x2_ := (State.joinAbort_frame _ (sub hu rfl) hz)
  try clear_value x2_
  revert x2_
  refine fr_id ?_
  intro x2_ h2_
  extract_lets +onlyGivenNames x3_
  extract_lets +onlyGivenNames x4_
  have h4_ : Fr F z x4_ := (fr_ban h2_ (al hu rfl))
  try clear_value x4_
  revert x4_
  refine fr_id ?_
  intro x4_ h4_
  exact (fr_ite h4_
  (fr_ite (State.alone_frame _ (sub hu rfl) h4_)
  (fr_ite (by
    extract_lets +onlyGivenNames x5_
    have h5_ : Fr F z x5_ := (State.isoShow_frame _ (sub hu rfl) h4_)
    try clear_value x5_
    revert x5_
    refine fr_id ?_
    intro x5_ h5_
    exact (fr_ite (State.laneTakeover_frame _ _ (sub hu rfl) h5_)
    (State.post_frame _ _ _ _ _ _ (sub hu rfl) (State.setRole_frame _ _ (sub hu rfl) (State.pairOver_frame _ (sub hu rfl) (State.inquiryOver_frame _ (sub hu rfl) h5_))))))
  h4_)))

theorem State.settleWaits_frame {F : Place → Bool} {z : State} (s : State) (cycles : List Nat)
    (hu : Al F [.ban, .rio, .isl, .scn, .axes, .lp, .regs, .can, .free, .gates, .rnd]) (hz : Fr F z s) :
    Fr F z (State.settleWaits s cycles).1 := by
  unfold State.settleWaits
  have key : ∀ (l : List Nat) (r : State × Nat), Fr F z r.1 → Fr F z (l.foldl (fun (r : State × Nat) t =>
      let s := r.1
      if !(s.task t).waits then r
      else if s.taskCycle t ≤ (cycles[t]?).getD 0 ∧ !(s.task t).late then (s.commitNow t, r.2)
      else
        let s := s.setTask t { s.task t with waits := false, late := false }
        let s : State := if s.fastest = some t then { s with ban := { s.ban with lastC := s.ban.lastC - baseTick * s.taskPeriod t } } else s
        (s, r.2 + 1)) r).1 := by
    intro l
    induction l with
    | nil => exact fun r h => h
    | cons t l ih =>
      intro r h
      refine ih _ ?_
      dsimp only
      refine fr_iteP h (fr_iteP (State.commitNow_frame _ _ (sub hu rfl) h) ?_)
      have h1 := State.setTask_frame r.1 t { r.1.task t with waits := false, late := false } (sub hu rfl) h
      exact fr_ite (fr_ban h1 (al hu rfl)) h1
  exact key _ _ hz

theorem execRearmAll_frame {F : Place → Bool} {z : State} (m : Master) (s : State)
    (hu : Al F [.ban, .wear, .scn, .gb, .axes, .tim, .regs, .can, .free, .slv, .resp, .mem, .gates, .heads, .anx]) (hz : Fr F z s) :
    FrA F z (execRearmAll m s) := by
  unfold execRearmAll
  exact (frA_next (State.access_frame _ _ _ _ _ _ (sub hu rfl) hz (fun _ h0_ => (State.banCmdWrite_frame _ _ (sub hu rfl) h0_))))

theorem execRearmReadback_frame {F : Place → Bool} {z : State} (m : Master) (k : Fin 8) (c : Fin 8) (s : State)
    (hu : Al F [.ban, .wear, .scn, .gb, .axes, .tim, .regs, .can, .free, .slv, .resp, .mem, .gates, .heads, .anx]) (hz : Fr F z s) :
    FrA F z (execRearmReadback m k c s) := by
  unfold execRearmReadback
  exact (frA_next (State.access_frame _ _ _ _ _ _ (sub hu rfl) hz (fun _ h0_ => (State.banCmdWrite_frame _ _ (sub hu rfl) h0_))))

theorem State.inquiryTake_frame {F : Place → Bool} {z : State} (s : State) (peer : Bool) (failed : Nat)
    (hu : Al F [.ban, .rio, .isl, .scn, .gb, .axes, .lp, .regs, .can, .free, .slv, .gates, .anx]) (hz : Fr F z s) :
    Fr F z (State.inquiryTake s peer failed) := by
  unfold State.inquiryTake
  exact (by
    split
    · exact hz
    · extract_lets +onlyGivenNames x0_
      extract_lets +onlyGivenNames x1_
      have h1_ : Fr F z x1_ := (fr_ite hz
      (State.banSend_frame _ _ _ (sub hu rfl) hz))
      try clear_value x1_
      revert x1_
      refine fr_id ?_
      intro x1_ h1_
      extract_lets +onlyGivenNames x2_
      extract_lets +onlyGivenNames x3_
      have h3_ : Fr F z x3_ := (fr_ban h1_ (al hu rfl))
      try clear_value x3_
      revert x3_
      refine fr_id ?_
      intro x3_ h3_
      exact (by
        split
        · exact (State.inquiryDecide_frame _ _ _ _ (sub hu rfl) h3_)
        · exact h3_))

theorem execInquiryTimeout_frame {F : Place → Bool} {z : State} (s : State)
    (hu : Al F [.ban, .rio, .isl, .scn, .gb, .axes, .lp, .regs, .can, .free, .slv, .gates, .frc, .anx]) (hz : Fr F z s) :
    FrA F z (execInquiryTimeout s) := by
  unfold execInquiryTimeout
  exact (by
    split
    · exact (frA_next hz)
    · exact (fr_iteA (frA_next hz)
      (by
        extract_lets +onlyGivenNames x0_
        have h0_ : Fr F z x0_ := (fr_frc hz (al hu rfl))
        try clear_value x0_
        revert x0_
        refine fr_id ?_
        intro x0_ h0_
        exact (by
          split
          · exact (frA_next (State.inquiryDecide_frame _ _ _ _ (sub hu rfl) h0_))
          · exact (frA_next (fr_ban h0_ (al hu rfl)))))))

theorem State.takeoverOld_frame {F : Place → Bool} {z : State} (s : State) (h1' : Handover)
    (hu : Al F [.ban, .wear, .ser, .isl, .scn, .gb, .axes, .tim, .regs, .can, .eth, .free, .slv, .mem, .gates, .heads, .anx]) (hz : Fr F z s) :
    Fr F z (State.takeoverOld s h1') := by
  unfold State.takeoverOld
  extract_lets +onlyGivenNames x0_
  have h0_ : Fr F z x0_ := (State.handoverOver_frame _ (sub hu rfl) hz)
  try clear_value x0_
  revert x0_
  refine fr_id ?_
  intro x0_ h0_
  extract_lets +onlyGivenNames x1_
  have h1_ : Fr F z x1_ := (fr_foldl (fun _ _ h2_ => (State.setCanCh_frame _ _ _ (sub hu rfl) h2_))
  h0_)
  try clear_value x1_
  revert x1_
  refine fr_id ?_
  intro x1_ h1_
  extract_lets +onlyGivenNames x3_
  have h3_ : Fr F z x3_ := (fr_foldl (fun _ _ h4_ => (State.setEthPort_frame _ _ _ (sub hu rfl) h4_))
  h1_)
  try clear_value x3_
  revert x3_
  refine fr_id ?_
  intro x3_ h3_
  extract_lets +onlyGivenNames x5_
  have h5_ : Fr F z x5_ := (fr_foldl (fun _ _ h6_ => (State.wr_frame _ _ _ (sub hu rfl) h6_))
  (fr_ser h3_ (al hu rfl)))
  try clear_value x5_
  revert x5_
  refine fr_id ?_
  intro x5_ h5_
  exact (fr_ite (by
    extract_lets +onlyGivenNames x7_
    have h7_ : Fr F z x7_ := (State.setPeerRole_frame _ _ (sub hu rfl) (State.setRole_frame _ _ (sub hu rfl) h5_))
    try clear_value x7_
    revert x7_
    refine fr_id ?_
    intro x7_ h7_
    exact (fr_ite (State.lanesGone_frame _ (sub hu rfl) h7_)
    h7_))
  (fr_ite (by
    extract_lets +onlyGivenNames x8_
    have h8_ : Fr F z x8_ := by
      subst x8_
      exact (by
        split
        · exact (fr_ite (State.post_frame _ _ _ _ _ _ (sub hu rfl) h5_)
          h5_)
        · exact h5_)
    try clear_value x8_
    revert x8_
    refine fr_id ?_
    intro x8_ h8_
    extract_lets +onlyGivenNames x9_
    extract_lets +onlyGivenNames x10_
    have h10_ : Fr F z x10_ := (fr_ban h8_ (al hu rfl))
    try clear_value x10_
    revert x10_
    refine fr_id ?_
    intro x10_ h10_
    exact (State.setPeerRole_frame _ _ (sub hu rfl) (State.scnHalt_frame _ (sub hu rfl) (State.setRole_frame _ _ (sub hu rfl) h10_))))
  (State.setPeerRole_frame _ _ (sub hu rfl) (State.fail_frame _ _ (sub hu rfl) h5_))))

theorem execLaneLost_frame {F : Place → Bool} {z : State} (l : Fin 2) (s : State)
    (hu : Al F [.ban, .wear, .scn, .gb, .axes, .tim, .regs, .can, .free, .slv, .mem, .gates, .frc, .heads, .anx]) (hz : Fr F z s) :
    FrA F z (execLaneLost l s) := by
  unfold execLaneLost
  exact (fr_iteA (by
    extract_lets +onlyGivenNames x0_
    extract_lets +onlyGivenNames x1_
    have h1_ : Fr F z x1_ := (fr_frc hz (al hu rfl))
    try clear_value x1_
    revert x1_
    refine fr_id ?_
    intro x1_ h1_
    extract_lets +onlyGivenNames x2_
    have h2_ : Fr F z x2_ := (State.wr_frame _ _ _ (sub hu rfl) (State.wr_frame _ _ _ (sub hu rfl) h1_))
    try clear_value x2_
    revert x2_
    refine fr_id ?_
    intro x2_ h2_
    extract_lets +onlyGivenNames x3_
    extract_lets +onlyGivenNames x4_
    extract_lets +onlyGivenNames x5_
    have h5_ : Fr F z x5_ := (fr_ban h2_ (al hu rfl))
    try clear_value x5_
    revert x5_
    refine fr_id ?_
    intro x5_ h5_
    extract_lets +onlyGivenNames x6_
    have h6_ : Fr F z x6_ := (State.post_frame _ _ _ _ _ _ (sub hu rfl) h5_)
    try clear_value x6_
    revert x6_
    refine fr_id ?_
    intro x6_ h6_
    exact (frA_next (fr_ite h6_
    (State.lanesGone_frame _ (sub hu rfl) h6_))))
  (frA_next hz))

theorem execStrictDigestTimeout_frame {F : Place → Bool} {z : State} (t : Fin 16) (s : State)
    (hu : Al F [.rio, .isl, .scn, .gb, .axes, .lp, .regs, .can, .free, .gates, .frc, .rnd]) (hz : Fr F z s) :
    FrA F z (execStrictDigestTimeout t s) := by
  unfold execStrictDigestTimeout
  exact (frA_next (State.strictLate_frame _ _ (sub hu rfl) hz))

theorem execDigestMissing_frame {F : Place → Bool} {z : State} (t : Fin 16) (s : State)
    (hu : Al F [.ban, .rio, .isl, .scn, .gb, .axes, .lp, .regs, .can, .free, .gates, .frc, .rnd]) (hz : Fr F z s) :
    FrA F z (execDigestMissing t s) := by
  unfold execDigestMissing
  exact (fr_iteA (frA_next (State.digestMissing_frame _ _ (sub hu rfl) (fr_frc hz (al hu rfl))))
  (frA_next hz))

theorem State.duesLead_frame {F : Place → Bool} {z : State} (s : State)
    (hu : Al F [.ban, .rio, .firstLatch, .isl, .scn, .gb, .axes, .lp, .pgn, .regs, .can, .free, .gates, .rnd]) (hz : Fr F z s) :
    Fr F z (State.duesLead s) := by
  unfold State.duesLead
  extract_lets +onlyGivenNames x0_
  exact (fr_foldl (fun _ _ h1_ => (State.inTick_frame _ _ _ (sub hu rfl) h1_ (fun _ h2_ => (State.tickLead_frame _ (sub hu rfl) h2_))))
  (fr_scn hz (al hu rfl)))

theorem State.digestTake_frame {F : Place → Bool} {z : State} (s : State) (d : Digest)
    (hu : Al F [.ban, .rio, .isl, .scn, .gb, .axes, .lp, .regs, .can, .free, .gates, .rnd]) (hz : Fr F z s) :
    Fr F z (State.digestTake s d) := by
  unfold State.digestTake
  exact (fr_ite (State.joinLog_frame _ _ _ _ (sub hu rfl) hz)
  (fr_ite hz
  (by
    extract_lets +onlyGivenNames x0_
    extract_lets +onlyGivenNames x1_
    have h1_ : Fr F z x1_ := (fr_ban hz (al hu rfl))
    try clear_value x1_
    revert x1_
    refine fr_id ?_
    intro x1_ h1_
    exact (fr_ite (fr_ite (State.followStep_frame _ _ (sub hu rfl) h1_)
    (State.strictStep_frame _ _ (sub hu rfl) h1_))
    (State.compare_frame _ _ _ (sub hu rfl) h1_)))))

theorem State.handoverTake_frame {F : Place → Bool} {z : State} (s : State) (seq : Nat) (x : Notice)
    (hu : Al F [.ban, .rio, .posted, .firstLatch, .isl, .scn, .gb, .axes, .lp, .pgn, .regs, .can, .free, .slv, .mem, .gates, .heads, .rnd]) (hz : Fr F z s) :
    Fr F z (State.handoverTake s seq x) := by
  unfold State.handoverTake
  exact (fr_ite (State.shutdownSend_frame _ (sub hu rfl) hz)
  (fr_ite hz
  (by
    extract_lets +onlyGivenNames x0_
    have h0_ : Fr F z x0_.1 := (State.settleWaits_frame _ _ (sub hu rfl) (State.inquiryOver_frame _ (sub hu rfl) (State.slvFollow_frame _ (sub hu rfl) hz)))
    try clear_value x0_
    revert x0_
    refine fr_id ?_
    intro x0_ h0_
    extract_lets +onlyGivenNames x1_
    have h1_ : Fr F z x1_ := h0_
    try clear_value x1_
    revert x1_
    refine fr_id ?_
    intro x1_ h1_
    extract_lets +onlyGivenNames x2_
    have h2_ : Fr F z x2_ := (State.wr_frame _ _ _ (sub hu rfl) (State.wr_frame _ _ _ (sub hu rfl) h1_))
    try clear_value x2_
    revert x2_
    refine fr_id ?_
    intro x2_ h2_
    extract_lets +onlyGivenNames x3_
    have h3_ : Fr F z x3_ := (State.bump_frame _ _ (sub hu rfl) (State.wr_frame _ _ _ (sub hu rfl) h2_))
    try clear_value x3_
    revert x3_
    refine fr_id ?_
    intro x3_ h3_
    extract_lets +onlyGivenNames x4_
    extract_lets +onlyGivenNames x5_
    have h5_ : Fr F z x5_ := (State.banSend_frame _ _ _ (sub hu rfl) (State.roleAnswer_frame _ _ (sub hu rfl) h3_))
    try clear_value x5_
    revert x5_
    refine fr_id ?_
    intro x5_ h5_
    extract_lets +onlyGivenNames x6_
    have h6_ : Fr F z x6_ := (fr_foldl (fun _ _ h7_ => (by
      extract_lets +onlyGivenNames x8_
      exact (fr_ite (State.releaseTold_frame _ _ (sub hu rfl) h7_)
      h7_)))
    h5_)
    try clear_value x6_
    revert x6_
    refine fr_id ?_
    intro x6_ h6_
    extract_lets +onlyGivenNames x9_
    extract_lets +onlyGivenNames x10_
    have h10_ : Fr F z x10_ := (State.rollBack_frame _ _ _ (sub hu rfl) (fr_ban h6_ (al hu rfl)))
    try clear_value x10_
    revert x10_
    refine fr_id ?_
    intro x10_ h10_
    extract_lets +onlyGivenNames x11_
    extract_lets +onlyGivenNames x12_
    extract_lets +onlyGivenNames x13_
    extract_lets +onlyGivenNames x14_
    have h14_ : Fr F z x14_ := (by
      intro p hp
      cases p
      case ban => exact fr_no (al hu rfl) hp
      case slv => exact fr_no (al hu rfl) hp
      all_goals exact fr_eq (h10_ _ hp) rfl)
    try clear_value x14_
    revert x14_
    refine fr_id ?_
    intro x14_ h14_
    extract_lets +onlyGivenNames x15_
    have h15_ : Fr F z x15_ := (fr_foldl (fun _ _ h16_ => (State.setCanCh_frame _ _ _ (sub hu rfl) h16_))
    h14_)
    try clear_value x15_
    revert x15_
    refine fr_id ?_
    intro x15_ h15_
    exact (State.duesLead_frame _ (sub hu rfl) (fr_foldl (fun _ _ h17_ => (State.takeHeld_frame _ _ (sub hu rfl) h17_))
    h15_)))))

theorem execTakeoverInstant_frame {F : Place → Bool} {z : State} (unknown : List (Fin 64)) (s : State)
    (hu : Al F [.ban, .wear, .rio, .ser, .isl, .scn, .gb, .axes, .tim, .lp, .regs, .can, .eth, .free, .slv, .mem, .gates, .frc, .heads, .anx, .rnd]) (hz : Fr F z s) :
    FrA F z (execTakeoverInstant unknown s) := by
  unfold execTakeoverInstant
  exact (by
    split
    · exact (frA_next hz)
    · extract_lets +onlyGivenNames x0_
      exact (fr_iteA (frA_next hz)
      (by
        extract_lets +onlyGivenNames x1_
        have h1_ : Fr F z x1_ := (State.commitsTo_frame _ _ (sub hu rfl) hz)
        try clear_value x1_
        revert x1_
        refine fr_id ?_
        intro x1_ h1_
        extract_lets +onlyGivenNames x2_
        extract_lets +onlyGivenNames x3_
        have h3_ : Fr F z x3_ := (fr_frc h1_ (al hu rfl))
        try clear_value x3_
        revert x3_
        refine fr_id ?_
        intro x3_ h3_
        exact (frA_next (fr_ite (State.takeoverOld_frame _ _ (sub hu rfl) h3_)
        (State.takeoverNew_frame _ _ _ (sub hu rfl) h3_))))))

end Sys2Proof.Machine
end

