-- ==== Sys2Proof/Laws/FrameNoticeboard.lean ====
section
/-!
SUPPORT. What the operations of Machine/Noticeboard.lean may change (Laws/Frames.lean).
-/
namespace Sys2Proof.Machine

theorem State.nbBoundary_frame {F : Place → Bool} {z : State} (s : State)
    (hu : Al F [.nb, .frc]) (hz : Fr F z s) :
    Fr F z (State.nbBoundary s) := by
  unfold State.nbBoundary
  extract_lets +onlyGivenNames x0_
  exact (by
    intro p hp
    cases p
    case nb => exact fr_no (al hu rfl) hp
    case frc => exact fr_no (al hu rfl) hp
    all_goals exact fr_eq (hz _ hp) rfl)

theorem State.nbComplete_frame {F : Place → Bool} {z : State} (s : State) (q : Nat) (u : NbUpd) (status detail : Nat) 
    (hu : Al F [.ban, .regs, .free, .mem, .gates, .nb]) (hz : Fr F z s) :
    Fr F z (State.nbComplete s q u status detail) := by
  unfold State.nbComplete
  have h : ∀ t : State, Fr F z t →
      Fr F z { t with nb := { t.nb with upds := t.nb.upds.drop 1, doneAt := t.frc } } := by
    intro t ht
    exact fr_nb ht (al hu rfl)
  cases u.band with
  | none => exact State.queComplete_frame _ _ _ _ (sub hu rfl) (h _ (State.useFree_frame s (sub hu rfl) hz))
  | some b => exact State.queComplete_frame _ _ _ _ (sub hu rfl) (h _ hz)

theorem State.nbCompletions_frame {F : Place → Bool} {z : State} (s : State) (shut : Bool) (n : Nat) 
    (hu : Al F [.ban, .regs, .free, .mem, .gates, .nb]) (hz : Fr F z s) :
    Fr F z (State.nbCompletions s shut n) := by
  induction n generalizing s with
  | zero => exact hz
  | succ n ih =>
    unfold State.nbCompletions
    split
    · split
      · exact ih _ (State.nbComplete_frame _ _ _ _ _ (sub hu rfl) hz)
      · exact fr_ite (ih _ (State.nbComplete_frame _ _ _ _ _ (sub hu rfl) hz))
          (fr_ite (ih _ (State.nbComplete_frame _ _ _ _ _ (sub hu rfl) hz)) hz)
    · exact hz

theorem State.nbTarget_frame {F : Place → Bool} {z : State} (s : State) (k : Nat) (tgt : Nat) (fast : Bool) (no : Nat)
    (hu : Al F [.nb]) (hz : Fr F z s) :
    Fr F z (State.nbTarget s k tgt fast no) := by
  unfold State.nbTarget
  extract_lets +onlyGivenNames x0_
  extract_lets +onlyGivenNames x1_
  exact (fr_ite (fr_nb hz (al hu rfl))
  (fr_nb hz (al hu rfl)))

theorem State.nbShut_frame {F : Place → Bool} {z : State} (s : State)
    (hu : Al F [.ban, .regs, .free, .mem, .gates, .nb]) (hz : Fr F z s) :
    Fr F z (State.nbShut s) := by
  unfold State.nbShut
  exact (fr_ite (State.nbCompletions_frame _ _ _ (sub hu rfl) hz)
  hz)

theorem State.nbLightWrite_frame {F : Place → Bool} {z : State} (s : State) (v : Nat)
    (hu : Al F [.regs, .nb]) (hz : Fr F z s) :
    Fr F z (State.nbLightWrite s v) := by
  unfold State.nbLightWrite
  exact (fr_ite hz
  (by
    extract_lets +onlyGivenNames x0_
    have h0_ : Fr F z x0_ := (State.wr_frame _ _ _ (sub hu rfl) hz)
    try clear_value x0_
    revert x0_
    refine fr_id ?_
    intro x0_ h0_
    exact (fr_ite h0_
    (fr_ite (by
      extract_lets +onlyGivenNames x1_
      have h1_ : Fr F z x1_ := (State.wr_frame _ _ _ (sub hu rfl) h0_)
      try clear_value x1_
      revert x1_
      refine fr_id ?_
      intro x1_ h1_
      exact (fr_ite (State.wr_frame _ _ _ (sub hu rfl) h1_)
      (fr_ite h1_
      (fr_nb h1_ (al hu rfl)))))
    (State.wr_frame _ _ _ (sub hu rfl) (State.wr_frame _ _ _ (sub hu rfl) h0_))))))

theorem State.nbLightOn_frame {F : Place → Bool} {z : State} (s : State)
    (hu : Al F [.regs, .nb]) (hz : Fr F z s) :
    Fr F z (State.nbLightOn s) := by
  unfold State.nbLightOn
  exact (fr_ite (by
    extract_lets +onlyGivenNames x0_
    extract_lets +onlyGivenNames x1_
    have h1_ : Fr F z x1_ := (fr_nb hz (al hu rfl))
    try clear_value x1_
    revert x1_
    refine fr_id ?_
    intro x1_ h1_
    exact (fr_ite (State.wr_frame _ _ _ (sub hu rfl) h1_)
    h1_))
  hz)

theorem execNbQuiescentCommit_frame {F : Place → Bool} {z : State} (s : State)
    (hu : Al F [.regs, .nb]) (hz : Fr F z s) :
    FrA F z (execNbQuiescentCommit s) := by
  unfold execNbQuiescentCommit
  exact (fr_iteA (by
    extract_lets +onlyGivenNames x0_
    exact (frA_next (State.wr_frame _ _ _ (sub hu rfl) (fr_nb hz (al hu rfl)))))
  (frA_next hz))

theorem State.nbState_frame {F : Place → Bool} {z : State} (s : State)
    (hu : Al F [.regs]) (hz : Fr F z s) :
    Fr F z (State.nbState s) := by
  unfold State.nbState
  exact (fr_ite hz
  (State.wr_frame _ _ _ (sub hu rfl) hz))

theorem State.nbDirty_frame {F : Place → Bool} {z : State} (s : State)
    (hu : Al F [.regs]) (hz : Fr F z s) :
    Fr F z (State.nbDirty s) := by
  unfold State.nbDirty
  exact (State.wr_frame _ _ _ (sub hu rfl) hz)

theorem State.nbPowerFail_frame {F : Place → Bool} {z : State} (s : State)
    (hu : Al F [.ban, .regs, .free, .mem, .gates, .nb]) (hz : Fr F z s) :
    Fr F z (State.nbPowerFail s) := by
  unfold State.nbPowerFail
  extract_lets +onlyGivenNames x0_
  extract_lets +onlyGivenNames x1_
  extract_lets +onlyGivenNames x2_
  extract_lets +onlyGivenNames x3_
  extract_lets +onlyGivenNames x4_
  have h4_ : Fr F z x4_ := (fr_nb hz (al hu rfl))
  try clear_value x4_
  revert x4_
  refine fr_id ?_
  intro x4_ h4_
  exact (State.nbShut_frame _ (sub hu rfl) h4_)

theorem State.nbShow_frame {F : Place → Bool} {z : State} (s : State)
    (hu : Al F [.regs]) (hz : Fr F z s) :
    Fr F z (State.nbShow s) := by
  unfold State.nbShow
  extract_lets +onlyGivenNames x0_
  extract_lets +onlyGivenNames x1_
  exact (State.wrB_frame _ _ _ (sub hu rfl) (State.wr_frame _ _ _ (sub hu rfl) (State.wr_frame _ _ _ (sub hu rfl) hz)))

theorem State.nbCmdWrite_frame {F : Place → Bool} {z : State} (s : State) (v : Nat)
    (hu : Al F [.regs, .nb]) (hz : Fr F z s) :
    Fr F z (State.nbCmdWrite s v) := by
  unfold State.nbCmdWrite
  extract_lets +onlyGivenNames x0_
  exact (fr_ite hz
  (by
    extract_lets +onlyGivenNames x1_
    exact (fr_ite (State.cmdStat_frame _ _ _ _ (sub hu rfl) hz)
    (fr_ite (fr_ite (State.cmdStat_frame _ _ _ _ (sub hu rfl) hz)
    (by
      extract_lets +onlyGivenNames x2_
      have h2_ : Fr F z x2_ := (State.cmdStat_frame _ _ _ _ (sub hu rfl) hz)
      try clear_value x2_
      revert x2_
      refine fr_id ?_
      intro x2_ h2_
      exact (fr_nb h2_ (al hu rfl))))
    (fr_ite (fr_ite (State.cmdStat_frame _ _ _ _ (sub hu rfl) hz)
    (State.wr_frame _ _ _ (sub hu rfl) (State.cmdStat_frame _ _ _ _ (sub hu rfl) hz)))
    (fr_ite (State.cmdStat_frame _ _ _ _ (sub hu rfl) hz)
    (by
      extract_lets +onlyGivenNames x3_
      have h3_ : Fr F z x3_ := (State.cmdStat_frame _ _ _ _ (sub hu rfl) hz)
      try clear_value x3_
      revert x3_
      refine fr_id ?_
      intro x3_ h3_
      exact (fr_nb h3_ (al hu rfl)))))))))

theorem State.nbRailsOff_frame {F : Place → Bool} {z : State} (s : State)
    (hu : Al F [.regs]) (hz : Fr F z s) :
    Fr F z (State.nbRailsOff s) := by
  unfold State.nbRailsOff
  exact (State.wr_frame _ _ _ (sub hu rfl) hz)

theorem execNbRailsDown_frame {F : Place → Bool} {z : State} (s : State)
    (hu : Al F [.regs, .nb, .frc]) (hz : Fr F z s) :
    FrA F z (execNbRailsDown s) := by
  unfold execNbRailsDown
  extract_lets +onlyGivenNames x0_
  extract_lets +onlyGivenNames x1_
  exact (fr_iteA (by
    extract_lets +onlyGivenNames x2_
    have h2_ : Fr F z x2_ := (fr_ite hz
    (fr_frc hz (al hu rfl)))
    try clear_value x2_
    revert x2_
    refine fr_id ?_
    intro x2_ h2_
    extract_lets +onlyGivenNames x3_
    have h3_ : Fr F z x3_ := (State.nbRailsOff_frame _ (sub hu rfl) h2_)
    try clear_value x3_
    revert x3_
    refine fr_id ?_
    intro x3_ h3_
    exact (frA_next (State.nbState_frame _ (sub hu rfl) (fr_nb h3_ (al hu rfl)))))
  (frA_next hz))

theorem State.nbRelease_frame {F : Place → Bool} {z : State} (s : State)
    (hu : Al F [.regs, .nb]) (hz : Fr F z s) :
    Fr F z (State.nbRelease s) := by
  unfold State.nbRelease
  exact (State.nbShow_frame _ (sub hu rfl) (fr_nb hz (al hu rfl)))

theorem execNbUpdateTake_frame {F : Place → Bool} {z : State} (s : State)
    (hu : Al F [.ban, .gb, .regs, .free, .mem, .gates, .nb]) (hz : Fr F z s) :
    FrA F z (execNbUpdateTake s) := by
  unfold execNbUpdateTake
  exact (by
    split
    · exact (frA_next hz)
    · extract_lets +onlyGivenNames x0_
      exact (fr_iteA (frA_next hz)
      (by
        extract_lets +onlyGivenNames x1_
        extract_lets +onlyGivenNames x2_
        extract_lets +onlyGivenNames x3_
        extract_lets +onlyGivenNames x4_
        extract_lets +onlyGivenNames x5_
        have h5_ : Fr F z x5_ := (fr_nb hz (al hu rfl))
        try clear_value x5_
        revert x5_
        refine fr_id ?_
        intro x5_ h5_
        exact (by
          split
          · extract_lets +onlyGivenNames x6_
            extract_lets +onlyGivenNames x7_
            have h7_ : Fr F z x7_ := (fr_nb h5_ (al hu rfl))
            try clear_value x7_
            revert x7_
            refine fr_id ?_
            intro x7_ h7_
            exact (frA_next (State.nbCompletions_frame _ _ _ (sub hu rfl) (State.post_frame _ _ _ _ _ _ (sub hu rfl) h7_)))
          · exact (fr_iteA (frA_next (State.nbState_frame _ (sub hu rfl) (fr_nb h5_ (al hu rfl))))
            (by
              split
              · extract_lets +onlyGivenNames x8_
                extract_lets +onlyGivenNames x9_
                have h9_ : Fr F z x9_ := (fr_nb h5_ (al hu rfl))
                try clear_value x9_
                revert x9_
                refine fr_id ?_
                intro x9_ h9_
                extract_lets +onlyGivenNames x10_
                have h10_ : Fr F z x10_ := (fr_foldl (fun _ _ h11_ => (by
                  extract_lets +onlyGivenNames x12_
                  extract_lets +onlyGivenNames x13_
                  extract_lets +onlyGivenNames x14_
                  exact (State.nbTarget_frame _ _ _ _ _ (sub hu rfl) h11_)))
                h9_)
                try clear_value x10_
                revert x10_
                refine fr_id ?_
                intro x10_ h10_
                exact (frA_next (State.nbState_frame _ (sub hu rfl) (State.nbCompletions_frame _ _ _ (sub hu rfl) h10_)))))))))

theorem State.nbLock_frame {F : Place → Bool} {z : State} (s : State)
    (hu : Al F [.regs, .nb]) (hz : Fr F z s) :
    Fr F z (State.nbLock s) := by
  unfold State.nbLock
  exact (fr_ite hz
  (by
    extract_lets +onlyGivenNames x0_
    extract_lets +onlyGivenNames x1_
    exact (State.nbState_frame _ (sub hu rfl) (fr_nb hz (al hu rfl)))))

theorem State.nbScan_frame {F : Place → Bool} {z : State} (s : State)
    (hu : Al F [.gb, .regs, .gates, .nb]) (hz : Fr F z s) :
    Fr F z (State.nbScan s) := by
  unfold State.nbScan
  extract_lets +onlyGivenNames x0_
  have h0_ : Fr F z x0_ := (State.wr64_frame _ _ _ _ (sub hu rfl) hz)
  try clear_value x0_
  revert x0_
  refine fr_id ?_
  intro x0_ h0_
  extract_lets +onlyGivenNames x1_
  extract_lets +onlyGivenNames x2_
  extract_lets +onlyGivenNames x3_
  extract_lets +onlyGivenNames x4_
  extract_lets +onlyGivenNames x5_
  extract_lets +onlyGivenNames x6_
  extract_lets +onlyGivenNames x7_
  have h7_ : Fr F z x7_ := (fr_nb h0_ (al hu rfl))
  try clear_value x7_
  revert x7_
  refine fr_id ?_
  intro x7_ h7_
  exact (fr_foldl (fun _ _ h8_ => (State.post_frame _ _ _ _ _ _ (sub hu rfl) h8_))
  h7_)

theorem State.nbRefreshCheck_frame {F : Place → Bool} {z : State} (s : State)
    (hu : Al F [.gb, .regs, .gates]) (hz : Fr F z s) :
    Fr F z (State.nbRefreshCheck s) := by
  unfold State.nbRefreshCheck
  extract_lets +onlyGivenNames x0_
  extract_lets +onlyGivenNames x1_
  exact (fr_ite (State.post_frame _ _ _ _ _ _ (sub hu rfl) (State.wr_frame _ _ _ (sub hu rfl) hz))
  hz)

theorem State.nbTemp_frame {F : Place → Bool} {z : State} (s : State) (temp : BitVec 16)
    (hu : Al F [.gb, .regs, .gates]) (hz : Fr F z s) :
    Fr F z (State.nbTemp s temp) := by
  unfold State.nbTemp
  extract_lets +onlyGivenNames x0_
  extract_lets +onlyGivenNames x1_
  extract_lets +onlyGivenNames x2_
  extract_lets +onlyGivenNames x3_
  extract_lets +onlyGivenNames x4_
  extract_lets +onlyGivenNames x5_
  have h5_ : Fr F z x5_ := (State.wrB_frame _ _ _ (sub hu rfl) (State.wr_frame _ _ _ (sub hu rfl) (State.wr_frame _ _ _ (sub hu rfl) hz)))
  try clear_value x5_
  revert x5_
  refine fr_id ?_
  intro x5_ h5_
  extract_lets +onlyGivenNames x6_
  have h6_ : Fr F z x6_ := (fr_ite (State.post_frame _ _ _ _ _ _ (sub hu rfl) h5_)
  h5_)
  try clear_value x6_
  revert x6_
  refine fr_id ?_
  intro x6_ h6_
  exact (State.nbRefreshCheck_frame _ (sub hu rfl) h6_)

theorem execNbRailRise_frame {F : Place → Bool} {z : State} (s : State)
    (hu : Al F [.regs, .gates, .nb, .frc]) (hz : Fr F z s) :
    FrA F z (execNbRailRise s) := by
  unfold execNbRailRise
  exact (fr_iteA (by
    extract_lets +onlyGivenNames x0_
    extract_lets +onlyGivenNames x1_
    have h1_ : Fr F z x1_ := (State.wr_frame _ _ _ (sub hu rfl) (State.wake_frame _ _ (sub hu rfl) hz))
    try clear_value x1_
    revert x1_
    refine fr_id ?_
    intro x1_ h1_
    exact (frA_next (by
      intro p hp
      cases p
      case nb => exact fr_no (al hu rfl) hp
      case frc => exact fr_no (al hu rfl) hp
      all_goals exact fr_eq (h1_ _ hp) rfl)))
  (frA_next hz))

theorem State.nbJobEnd_frame {F : Place → Bool} {z : State} (s : State)
    (hu : Al F [.gb, .regs, .gates, .nb]) (hz : Fr F z s) :
    Fr F z (State.nbJobEnd s) := by
  unfold State.nbJobEnd
  exact (fr_ite hz
  (by
    split
    · extract_lets +onlyGivenNames x0_
      have h0_ : Fr F z x0_ := (State.wr_frame _ _ _ (sub hu rfl) hz)
      try clear_value x0_
      revert x0_
      refine fr_id ?_
      intro x0_ h0_
      extract_lets +onlyGivenNames x1_
      have h1_ : Fr F z x1_ := (fr_ite (State.post_frame _ _ _ _ _ _ (sub hu rfl) (State.nbShow_frame _ (sub hu rfl) h0_))
      h0_)
      try clear_value x1_
      revert x1_
      refine fr_id ?_
      intro x1_ h1_
      extract_lets +onlyGivenNames x2_
      exact (fr_nb h1_ (al hu rfl))
    · exact (fr_nb hz (al hu rfl))
    · exact (fr_nb hz (al hu rfl))
    · exact hz))

theorem State.nbCut_frame {F : Place → Bool} {z : State} (s : State) (why : Nat)
    (hu : Al F [.gb, .regs, .gates, .nb]) (hz : Fr F z s) :
    Fr F z (State.nbCut s why) := by
  unfold State.nbCut
  extract_lets +onlyGivenNames x0_
  extract_lets +onlyGivenNames x1_
  extract_lets +onlyGivenNames x2_
  extract_lets +onlyGivenNames x3_
  extract_lets +onlyGivenNames x4_
  have h4_ : Fr F z x4_ := (fr_nb hz (al hu rfl))
  try clear_value x4_
  revert x4_
  refine fr_id ?_
  intro x4_ h4_
  extract_lets +onlyGivenNames x5_
  have h5_ : Fr F z x5_ := (State.wr_frame _ _ _ (sub hu rfl) (State.bump_frame _ _ (sub hu rfl) h4_))
  try clear_value x5_
  revert x5_
  refine fr_id ?_
  intro x5_ h5_
  exact (State.post_frame _ _ _ _ _ _ (sub hu rfl) h5_)

theorem State.nbCount_frame {F : Place → Bool} {z : State} (s : State) (ks : List Nat)
    (hu : Al F [.wear, .gb, .regs, .gates, .nb]) (hz : Fr F z s) :
    Fr F z (State.nbCount s ks) := by
  unfold State.nbCount
  extract_lets +onlyGivenNames x0_
  extract_lets +onlyGivenNames x1_
  extract_lets +onlyGivenNames x2_
  extract_lets +onlyGivenNames x3_
  have h3_ : Fr F z x3_ := (fr_nb hz (al hu rfl))
  try clear_value x3_
  revert x3_
  refine fr_id ?_
  intro x3_ h3_
  exact (fr_ite h3_
  (State.wearSummary_frame _ (sub hu rfl) (State.wearStore_frame _ _ (sub hu rfl) (State.setWearQ_frame _ _ _ (sub hu rfl) h3_))))

theorem State.nbAbort_frame {F : Place → Bool} {z : State} (s : State)
    (hu : Al F [.ban, .gb, .regs, .free, .mem, .gates, .nb]) (hz : Fr F z s) :
    Fr F z (State.nbAbort s) := by
  unfold State.nbAbort
  extract_lets +onlyGivenNames x0_
  have h0_ : Fr F z x0_ := (State.wr64_frame _ _ _ _ (sub hu rfl) hz)
  try clear_value x0_
  revert x0_
  refine fr_id ?_
  intro x0_ h0_
  exact (State.nbShut_frame _ (sub hu rfl) (State.nbRailsOff_frame _ (sub hu rfl) (State.nbCut_frame _ _ (sub hu rfl) h0_)))

theorem execNbIdleScan_frame {F : Place → Bool} {z : State} (temp : BitVec 16) (bad : Option (BitVec 5 × Nat)) (s : State)
    (hu : Al F [.gb, .regs, .gates, .nb, .frc]) (hz : Fr F z s) :
    FrA F z (execNbIdleScan temp bad s) := by
  unfold execNbIdleScan
  exact (fr_iteA (by
    extract_lets +onlyGivenNames x0_
    have h0_ : Fr F z x0_ := (State.wake_frame _ _ (sub hu rfl) hz)
    try clear_value x0_
    revert x0_
    refine fr_id ?_
    intro x0_ h0_
    extract_lets +onlyGivenNames x1_
    extract_lets +onlyGivenNames x2_
    extract_lets +onlyGivenNames x3_
    have h3_ : Fr F z x3_ := (by
      intro p hp
      cases p
      case nb => exact fr_no (al hu rfl) hp
      case frc => exact fr_no (al hu rfl) hp
      all_goals exact fr_eq (h0_ _ hp) rfl)
    try clear_value x3_
    revert x3_
    refine fr_id ?_
    intro x3_ h3_
    extract_lets +onlyGivenNames x4_
    have h4_ : Fr F z x4_ := (State.wr64_frame _ _ _ _ (sub hu rfl) h3_)
    try clear_value x4_
    revert x4_
    refine fr_id ?_
    intro x4_ h4_
    extract_lets +onlyGivenNames x5_
    have h5_ : Fr F z x5_ := by
      subst x5_
      exact (by
        split
        · exact (State.post_frame _ _ _ _ _ _ (sub hu rfl) h4_)
        · exact h4_)
    try clear_value x5_
    revert x5_
    refine fr_id ?_
    intro x5_ h5_
    exact (frA_next (State.nbState_frame _ (sub hu rfl) (State.nbTemp_frame _ _ (sub hu rfl) h5_))))
  (frA_next hz))

theorem State.nbStartAll_frame {F : Place → Bool} {z : State} (s : State) (from_ : NbPix → Nat) (dest : NbPix → Nat)
    (hu : Al F [.wear, .gb, .regs, .gates, .nb]) (hz : Fr F z s) :
    Fr F z (State.nbStartAll s from_ dest) := by
  unfold State.nbStartAll
  extract_lets +onlyGivenNames x0_
  extract_lets +onlyGivenNames x1_
  extract_lets +onlyGivenNames x2_
  exact (State.nbDirty_frame _ (sub hu rfl) (State.nbCount_frame _ _ (sub hu rfl) (fr_nb hz (al hu rfl))))

theorem execNbRailFault_frame {F : Place → Bool} {z : State} (rails : BitVec 5) (s : State)
    (hu : Al F [.ban, .gb, .regs, .free, .mem, .gates, .nb]) (hz : Fr F z s) :
    FrA F z (execNbRailFault rails s) := by
  unfold execNbRailFault
  exact (fr_iteA (by
    extract_lets +onlyGivenNames x0_
    extract_lets +onlyGivenNames x1_
    extract_lets +onlyGivenNames x2_
    extract_lets +onlyGivenNames x3_
    extract_lets +onlyGivenNames x4_
    extract_lets +onlyGivenNames x5_
    extract_lets +onlyGivenNames x6_
    have h6_ : Fr F z x6_ := (fr_nb hz (al hu rfl))
    try clear_value x6_
    revert x6_
    refine fr_id ?_
    intro x6_ h6_
    extract_lets +onlyGivenNames x7_
    have h7_ : Fr F z x7_ := (State.wr_frame _ _ _ (sub hu rfl) (State.bump_frame _ _ (sub hu rfl) h6_))
    try clear_value x7_
    revert x7_
    refine fr_id ?_
    intro x7_ h7_
    extract_lets +onlyGivenNames x8_
    have h8_ : Fr F z x8_ := (State.post_frame _ _ _ _ _ _ (sub hu rfl) h7_)
    try clear_value x8_
    revert x8_
    refine fr_id ?_
    intro x8_ h8_
    extract_lets +onlyGivenNames x9_
    have h9_ : Fr F z x9_ := (fr_ite h8_
    (State.nbCut_frame _ _ (sub hu rfl) h8_))
    try clear_value x9_
    revert x9_
    refine fr_id ?_
    intro x9_ h9_
    extract_lets +onlyGivenNames x10_
    have h10_ : Fr F z x10_ := (State.nbRailsOff_frame _ (sub hu rfl) h9_)
    try clear_value x10_
    revert x10_
    refine fr_id ?_
    intro x10_ h10_
    extract_lets +onlyGivenNames x11_
    have h11_ : Fr F z x11_ := (fr_ite (State.wr_frame _ _ _ (sub hu rfl) h10_)
    (State.nbState_frame _ (sub hu rfl) h10_))
    try clear_value x11_
    revert x11_
    refine fr_id ?_
    intro x11_ h11_
    exact (frA_next (State.nbShow_frame _ (sub hu rfl) (State.nbShut_frame _ (sub hu rfl) (State.nbCompletions_frame _ _ _ (sub hu rfl) h11_)))))
  (frA_next hz))

theorem State.nbDraw_frame {F : Place → Bool} {z : State} (s : State) (ks : List Nat) (level : Nat → Nat)
    (hu : Al F [.wear, .gb, .regs, .gates, .nb]) (hz : Fr F z s) :
    Fr F z (State.nbDraw s ks level) := by
  unfold State.nbDraw
  extract_lets +onlyGivenNames x0_
  extract_lets +onlyGivenNames x1_
  extract_lets +onlyGivenNames x2_
  extract_lets +onlyGivenNames x3_
  extract_lets +onlyGivenNames x4_
  have h4_ : Fr F z x4_ := (fr_nb hz (al hu rfl))
  try clear_value x4_
  revert x4_
  refine fr_id ?_
  intro x4_ h4_
  exact (fr_ite h4_
  (State.nbDirty_frame _ (sub hu rfl) (State.nbCount_frame _ _ (sub hu rfl) h4_)))

theorem State.nbRefresh_frame {F : Place → Bool} {z : State} (s : State)
    (hu : Al F [.wear, .gb, .regs, .gates, .nb]) (hz : Fr F z s) :
    Fr F z (State.nbRefresh s) := by
  unfold State.nbRefresh
  extract_lets +onlyGivenNames x0_
  have h0_ : Fr F z x0_ := (State.wr_frame _ _ _ (sub hu rfl) (State.wr_frame _ _ _ (sub hu rfl) hz))
  try clear_value x0_
  revert x0_
  refine fr_id ?_
  intro x0_ h0_
  extract_lets +onlyGivenNames x1_
  extract_lets +onlyGivenNames x2_
  have h2_ : Fr F z x2_ := (fr_nb h0_ (al hu rfl))
  try clear_value x2_
  revert x2_
  refine fr_id ?_
  intro x2_ h2_
  exact (State.nbStartAll_frame _ _ _ (sub hu rfl) h2_)

theorem State.nbStartPending_frame {F : Place → Bool} {z : State} (s : State)
    (hu : Al F [.wear, .gb, .regs, .gates, .nb]) (hz : Fr F z s) :
    Fr F z (State.nbStartPending s) := by
  unfold State.nbStartPending
  extract_lets +onlyGivenNames x0_
  extract_lets +onlyGivenNames x1_
  exact (fr_ite hz
  (by
    extract_lets +onlyGivenNames x2_
    extract_lets +onlyGivenNames x3_
    extract_lets +onlyGivenNames x4_
    exact (State.nbDirty_frame _ (sub hu rfl) (State.nbCount_frame _ _ (sub hu rfl) (fr_nb hz (al hu rfl))))))

theorem State.nbBalance_frame {F : Place → Bool} {z : State} (s : State)
    (hu : Al F [.wear, .gb, .regs, .gates, .nb]) (hz : Fr F z s) :
    Fr F z (State.nbBalance s) := by
  unfold State.nbBalance
  extract_lets +onlyGivenNames x0_
  extract_lets +onlyGivenNames x1_
  extract_lets +onlyGivenNames x2_
  extract_lets +onlyGivenNames x3_
  extract_lets +onlyGivenNames x4_
  extract_lets +onlyGivenNames x5_
  have h5_ : Fr F z x5_ := (fr_nb hz (al hu rfl))
  try clear_value x5_
  revert x5_
  refine fr_id ?_
  intro x5_ h5_
  extract_lets +onlyGivenNames x6_
  have h6_ : Fr F z x6_ := (State.wearSummary_frame _ (sub hu rfl) (State.wearStore_frame _ _ (sub hu rfl) (State.setWearQ_frame _ _ _ (sub hu rfl) h5_)))
  try clear_value x6_
  revert x6_
  refine fr_id ?_
  intro x6_ h6_
  exact (fr_ite (fr_nb h6_ (al hu rfl))
  (State.nbDirty_frame _ (sub hu rfl) (State.nbCount_frame _ _ (sub hu rfl) h6_)))

theorem State.nbBoxDraw_frame {F : Place → Bool} {z : State} (s : State)
    (hu : Al F [.wear, .gb, .regs, .gates, .nb]) (hz : Fr F z s) :
    Fr F z (State.nbBoxDraw s) := by
  unfold State.nbBoxDraw
  extract_lets +onlyGivenNames x0_
  extract_lets +onlyGivenNames x1_
  extract_lets +onlyGivenNames x2_
  have h2_ : Fr F z x2_ := (State.nbDraw_frame _ _ _ (sub hu rfl) hz)
  try clear_value x2_
  revert x2_
  refine fr_id ?_
  intro x2_ h2_
  exact (fr_nb h2_ (al hu rfl))

theorem execNbCleanCmd_frame {F : Place → Bool} {z : State} (m : Master) (s : State)
    (hu : Al F [.gb, .regs, .resp, .gates, .nb]) (hz : Fr F z s) :
    FrA F z (execNbCleanCmd m s) := by
  unfold execNbCleanCmd
  exact (frA_next (State.access_frame _ _ _ _ _ _ (sub hu rfl) hz (fun _ h0_ => (State.nbCmdWrite_frame _ _ (sub hu rfl) h0_))))

theorem execNbBalancePass_frame {F : Place → Bool} {z : State} (s : State)
    (hu : Al F [.wear, .gb, .regs, .gates, .nb, .frc]) (hz : Fr F z s) :
    FrA F z (execNbBalancePass s) := by
  unfold execNbBalancePass
  extract_lets +onlyGivenNames x0_
  extract_lets +onlyGivenNames x1_
  extract_lets +onlyGivenNames x2_
  exact (fr_iteA (by
    extract_lets +onlyGivenNames x3_
    have h3_ : Fr F z x3_ := (fr_ite hz
    (fr_frc hz (al hu rfl)))
    try clear_value x3_
    revert x3_
    refine fr_id ?_
    intro x3_ h3_
    exact (frA_next (State.nbShow_frame _ (sub hu rfl) (State.nbState_frame _ (sub hu rfl) (State.nbBalance_frame _ (sub hu rfl) h3_)))))
  (frA_next hz))

theorem execNbLightWrite_frame {F : Place → Bool} {z : State} (m : Master) (value : Word) (s : State)
    (hu : Al F [.gb, .regs, .resp, .gates, .nb]) (hz : Fr F z s) :
    FrA F z (execNbLightWrite m value s) := by
  unfold execNbLightWrite
  exact (frA_next (State.access_frame _ _ _ _ _ _ (sub hu rfl) hz (fun _ h0_ => (State.nbLightWrite_frame _ _ (sub hu rfl) h0_))))

theorem State.nbStripDraw_frame {F : Place → Bool} {z : State} (s : State)
    (hu : Al F [.wear, .gb, .regs, .gates, .nb]) (hz : Fr F z s) :
    Fr F z (State.nbStripDraw s) := by
  unfold State.nbStripDraw
  extract_lets +onlyGivenNames x0_
  have h0_ : Fr F z x0_ := (State.nbDraw_frame _ _ _ (sub hu rfl) hz)
  try clear_value x0_
  revert x0_
  refine fr_id ?_
  intro x0_ h0_
  extract_lets +onlyGivenNames x1_
  exact (State.post_frame _ _ _ _ _ _ (sub hu rfl) (fr_nb h0_ (al hu rfl)))

theorem State.nbClean_frame {F : Place → Bool} {z : State} (s : State)
    (hu : Al F [.wear, .gb, .regs, .gates, .nb]) (hz : Fr F z s) :
    Fr F z (State.nbClean s) := by
  unfold State.nbClean
  extract_lets +onlyGivenNames x0_
  have h0_ : Fr F z x0_ := (State.wr_frame _ _ _ (sub hu rfl) hz)
  try clear_value x0_
  revert x0_
  refine fr_id ?_
  intro x0_ h0_
  extract_lets +onlyGivenNames x1_
  extract_lets +onlyGivenNames x2_
  have h2_ : Fr F z x2_ := (fr_nb h0_ (al hu rfl))
  try clear_value x2_
  revert x2_
  refine fr_id ?_
  intro x2_ h2_
  exact (State.nbStartAll_frame _ _ _ (sub hu rfl) h2_)

theorem execNbRefreshCmd_frame {F : Place → Bool} {z : State} (m : Master) (s : State)
    (hu : Al F [.gb, .regs, .resp, .gates, .nb]) (hz : Fr F z s) :
    FrA F z (execNbRefreshCmd m s) := by
  unfold execNbRefreshCmd
  exact (frA_next (State.access_frame _ _ _ _ _ _ (sub hu rfl) hz (fun _ h0_ => (State.nbCmdWrite_frame _ _ (sub hu rfl) h0_))))

theorem State.nbStart_frame {F : Place → Bool} {z : State} (s : State)
    (hu : Al F [.wear, .gb, .regs, .gates, .nb]) (hz : Fr F z s) :
    Fr F z (State.nbStart s) := by
  unfold State.nbStart
  exact (fr_ite hz
  (by
    extract_lets +onlyGivenNames x0_
    extract_lets +onlyGivenNames x1_
    exact (fr_ite (fr_ite (State.nbStartAll_frame _ _ _ (sub hu rfl) (fr_nb hz (al hu rfl)))
    hz)
    (fr_ite (fr_ite (State.nbClean_frame _ (sub hu rfl) (fr_nb hz (al hu rfl)))
    hz)
    (by
      extract_lets +onlyGivenNames x2_
      extract_lets +onlyGivenNames x3_
      have h3_ : Fr F z x3_ := (fr_ite (State.nbStripDraw_frame _ (sub hu rfl) hz)
      (fr_nb hz (al hu rfl)))
      try clear_value x3_
      revert x3_
      refine fr_id ?_
      intro x3_ h3_
      extract_lets +onlyGivenNames x4_
      have h4_ : Fr F z x4_ := (fr_ite (State.nbBoxDraw_frame _ (sub hu rfl) h3_)
      h3_)
      try clear_value x4_
      revert x4_
      refine fr_id ?_
      intro x4_ h4_
      extract_lets +onlyGivenNames x5_
      exact (fr_ite (State.nbClean_frame _ (sub hu rfl) h4_)
      (by
        extract_lets +onlyGivenNames x6_
        have h6_ : Fr F z x6_ := (fr_ite h4_
        (State.nbStartPending_frame _ (sub hu rfl) h4_))
        try clear_value x6_
        revert x6_
        refine fr_id ?_
        intro x6_ h6_
        extract_lets +onlyGivenNames x7_
        exact (fr_ite (State.nbClean_frame _ (sub hu rfl) h6_)
        (fr_ite (State.nbRefresh_frame _ (sub hu rfl) h6_)
        h6_)))))))))

theorem execNbBalanceCmd_frame {F : Place → Bool} {z : State} (m : Master) (s : State)
    (hu : Al F [.gb, .regs, .resp, .gates, .nb]) (hz : Fr F z s) :
    FrA F z (execNbBalanceCmd m s) := by
  unfold execNbBalanceCmd
  exact (frA_next (State.access_frame _ _ _ _ _ _ (sub hu rfl) hz (fun _ h0_ => (State.nbCmdWrite_frame _ _ (sub hu rfl) h0_))))

theorem execNbFrame_frame {F : Place → Bool} {z : State} (temp : BitVec 16) (s : State)
    (hu : Al F [.ban, .wear, .gb, .regs, .free, .mem, .gates, .nb, .frc]) (hz : Fr F z s) :
    FrA F z (execNbFrame temp s) := by
  unfold execNbFrame
  exact (fr_iteA (by
    extract_lets +onlyGivenNames x0_
    have h0_ : Fr F z x0_ := (State.nbBoundary_frame _ (sub hu rfl) hz)
    try clear_value x0_
    revert x0_
    refine fr_id ?_
    intro x0_ h0_
    extract_lets +onlyGivenNames x1_
    have h1_ : Fr F z x1_ := (fr_ite (State.nbTemp_frame _ _ (sub hu rfl) h0_)
    h0_)
    try clear_value x1_
    revert x1_
    refine fr_id ?_
    intro x1_ h1_
    exact (fr_iteA (frA_next (State.nbShow_frame _ (sub hu rfl) (State.nbState_frame _ (sub hu rfl) (State.nbAbort_frame _ (sub hu rfl) h1_))))
    (by
      extract_lets +onlyGivenNames x2_
      have h2_ : Fr F z x2_ := (State.nbStart_frame _ (sub hu rfl) h1_)
      try clear_value x2_
      revert x2_
      refine fr_id ?_
      intro x2_ h2_
      exact (fr_iteA (by
        extract_lets +onlyGivenNames x3_
        have h3_ : Fr F z x3_ := (State.nbLightOn_frame _ (sub hu rfl) (State.nbJobEnd_frame _ (sub hu rfl) (State.nbScan_frame _ (sub hu rfl) h2_)))
        try clear_value x3_
        revert x3_
        refine fr_id ?_
        intro x3_ h3_
        exact (frA_next (State.nbShow_frame _ (sub hu rfl) (State.nbState_frame _ (sub hu rfl) (State.nbShut_frame _ (sub hu rfl) (State.nbCompletions_frame _ _ _ (sub hu rfl) h3_))))))
      (frA_next (State.nbShow_frame _ (sub hu rfl) (State.nbState_frame _ (sub hu rfl) (State.nbLightOn_frame _ (sub hu rfl) (State.nbJobEnd_frame _ (sub hu rfl) h2_)))))))))
  (frA_next hz))

end Sys2Proof.Machine
end

