-- ==== Sys2Proof/Laws/FramePlanCheck.lean ====
section
/-!
SUPPORT. What the operations of Machine/PlanCheck.lean may change (Laws/Frames.lean).
-/
namespace Sys2Proof.Machine

theorem State.withPlan_frame {F : Place → Bool} {z : State} (s : State) (kind : Nat) (l : List Section)
    (hu : Al F [.fpl]) (hz : Fr F z s) :
    Fr F z (State.withPlan s kind l) := by
  unfold State.withPlan
  extract_lets +onlyGivenNames x0_
  exact (fr_ite (fr_fpl hz (al hu rfl))
  (fr_fpl hz (al hu rfl)))

end Sys2Proof.Machine
end

