-- ==== Sys2Proof/Laws/FrameSafetyDomain.lean ====
section
/-!
SUPPORT. What the operations of Machine/SafetyDomain.lean may change (Laws/Frames.lean).
-/
namespace Sys2Proof.Machine

theorem State.tgHanded_frame {F : Place → Bool} {z : State} (s : State) (copies : List (Nat × List Byte))
    (hu : Al F [.saf]) (hz : Fr F z s) :
    Fr F z (State.tgHanded s copies) := by
  unfold State.tgHanded
  exact (fr_saf hz (al hu rfl))

theorem State.safResume_frame {F : Place → Bool} {z : State} (s : State)
    (hu : Al F [.saf]) (hz : Fr F z s) :
    Fr F z (State.safResume s) := by
  unfold State.safResume
  extract_lets +onlyGivenNames x0_
  exact (fr_saf hz (al hu rfl))

theorem State.tgRead_frame {F : Place → Bool} {z : State} (s : State)
    (hu : Al F [.saf]) (hz : Fr F z s) :
    Fr F z (State.tgRead s) := by
  unfold State.tgRead
  extract_lets +onlyGivenNames x0_
  exact (fr_saf hz (al hu rfl))

theorem State.setTg_frame {F : Place → Bool} {z : State} (s : State) (c : Nat) (x : TgConn)
    (hu : Al F [.saf]) (hz : Fr F z s) :
    Fr F z (State.setTg s c x) := by
  unfold State.setTg
  exact (fr_saf hz (al hu rfl))

theorem State.tgRun_frame {F : Place → Bool} {z : State} (s : State)
    (hu : Al F [.saf]) (hz : Fr F z s) :
    Fr F z (State.tgRun s) := by
  unfold State.tgRun
  extract_lets +onlyGivenNames x0_
  exact (fr_saf hz (al hu rfl))

theorem State.setFunBad_frame {F : Place → Bool} {z : State} (s : State) (f : Nat) (l : List Nat)
    (hu : Al F [.saf]) (hz : Fr F z s) :
    Fr F z (State.setFunBad s f l) := by
  unfold State.setFunBad
  exact (fr_saf hz (al hu rfl))

theorem State.safStore_frame {F : Place → Bool} {z : State} (s : State)
    (hu : Al F [.saf]) (hz : Fr F z s) :
    Fr F z (State.safStore s) := by
  unfold State.safStore
  exact (fr_saf hz (al hu rfl))

theorem State.spoil_frame {F : Place → Bool} {z : State} (s : State) (f : Nat)
    (hu : Al F [.saf]) (hz : Fr F z s) :
    Fr F z (State.spoil s f) := by
  unfold State.spoil
  exact (fr_ite (fr_saf hz (al hu rfl))
  hz)

theorem State.safPowerOn_frame {F : Place → Bool} {z : State} (s : State)
    (hu : Al F [.saf]) (hz : Fr F z s) :
    Fr F z (State.safPowerOn s) := by
  unfold State.safPowerOn
  exact (fr_saf hz (al hu rfl))

theorem State.setExc_frame {F : Place → Bool} {z : State} (s : State) (f : Nat) (e : SafExc)
    (hu : Al F [.saf]) (hz : Fr F z s) :
    Fr F z (State.setExc s f e) := by
  unfold State.setExc
  exact (fr_saf hz (al hu rfl))

theorem State.tgStart_frame {F : Place → Bool} {z : State} (s : State)
    (hu : Al F [.saf]) (hz : Fr F z s) :
    Fr F z (State.tgStart s) := by
  unfold State.tgStart
  exact (fr_foldl (fun _ _ h0_ => (fr_ite h0_
  (State.setTg_frame _ _ _ (sub hu rfl) h0_)))
  hz)

theorem execExcursionStore_frame {F : Place → Bool} {z : State} (s : State)
    (hu : Al F [.regs, .saf, .frc]) (hz : Fr F z s) :
    FrA F z (execExcursionStore s) := by
  unfold execExcursionStore
  exact (fr_iteA (by
    extract_lets +onlyGivenNames x0_
    have h0_ : Fr F z x0_ := (State.waitTo_frame _ _ (sub hu rfl) hz)
    try clear_value x0_
    revert x0_
    refine fr_id ?_
    intro x0_ h0_
    extract_lets +onlyGivenNames x1_
    extract_lets +onlyGivenNames x2_
    have h2_ : Fr F z x2_ := (fr_saf h0_ (al hu rfl))
    try clear_value x2_
    revert x2_
    refine fr_id ?_
    intro x2_ h2_
    extract_lets +onlyGivenNames x3_
    have h3_ : Fr F z x3_ := (fr_foldl (fun _ _ h4_ => (fr_ite (State.wr_frame _ _ _ (sub hu rfl) h4_)
    h4_))
    h2_)
    try clear_value x3_
    revert x3_
    refine fr_id ?_
    intro x3_ h3_
    exact (frA_next (State.safStore_frame _ (sub hu rfl) h3_)))
  (frA_next hz))

theorem State.matrixResume_frame {F : Place → Bool} {z : State} (s : State)
    (hu : Al F [.regs, .saf]) (hz : Fr F z s) :
    Fr F z (State.matrixResume s) := by
  unfold State.matrixResume
  exact (by
    split
    · exact (State.wr_frame _ _ _ (sub hu rfl) (State.wr_frame _ _ _ (sub hu rfl) hz))
    · extract_lets +onlyGivenNames x0_
      extract_lets +onlyGivenNames x1_
      extract_lets +onlyGivenNames x2_
      have h2_ : Fr F z x2_ := (fr_saf hz (al hu rfl))
      try clear_value x2_
      revert x2_
      refine fr_id ?_
      intro x2_ h2_
      exact (State.wr_frame _ _ _ (sub hu rfl) (State.wr_frame _ _ _ (sub hu rfl) (State.wr_frame _ _ _ (sub hu rfl) h2_))))

theorem State.safSummary_frame {F : Place → Bool} {z : State} (s : State)
    (hu : Al F [.regs]) (hz : Fr F z s) :
    Fr F z (State.safSummary s) := by
  unfold State.safSummary
  extract_lets +onlyGivenNames x0_
  exact (State.wrB_frame _ _ _ (sub hu rfl) (State.wrB_frame _ _ _ (sub hu rfl) hz))

theorem State.safShow_frame {F : Place → Bool} {z : State} (s : State)
    (hu : Al F [.regs]) (hz : Fr F z s) :
    Fr F z (State.safShow s) := by
  unfold State.safShow
  extract_lets +onlyGivenNames x0_
  extract_lets +onlyGivenNames x1_
  have h1_ : Fr F z x1_ := (fr_foldl (fun _ _ h2_ => (State.wr_frame _ _ _ (sub hu rfl) h2_))
  hz)
  try clear_value x1_
  revert x1_
  refine fr_id ?_
  intro x1_ h1_
  extract_lets +onlyGivenNames x3_
  have h3_ : Fr F z x3_ := (State.wr_frame _ _ _ (sub hu rfl) (State.wr_frame _ _ _ (sub hu rfl) h1_))
  try clear_value x3_
  revert x3_
  refine fr_id ?_
  intro x3_ h3_
  exact (State.wr_frame _ _ _ (sub hu rfl) h3_)

theorem execTestPulseOff_frame {F : Place → Bool} {z : State} (l : Fin 8) (s : State)
    (hu : Al F [.saf, .frc]) (hz : Fr F z s) :
    FrA F z (execTestPulseOff l s) := by
  unfold execTestPulseOff
  exact (fr_iteA (by
    extract_lets +onlyGivenNames x0_
    extract_lets +onlyGivenNames x1_
    have h1_ : Fr F z x1_ := (State.waitTo_frame _ _ (sub hu rfl) hz)
    try clear_value x1_
    revert x1_
    refine fr_id ?_
    intro x1_ h1_
    exact (fr_iteA (frA_next h1_)
    (frA_next (fr_saf h1_ (al hu rfl)))))
  (frA_next hz))

theorem State.tgSend_frame {F : Place → Bool} {z : State} (s : State) (payloads : List (Nat × List Byte × List Byte)) (c : Nat)
    (hu : Al F [.eth, .saf]) (hz : Fr F z s) :
    Fr F z (State.tgSend s payloads c) := by
  unfold State.tgSend
  extract_lets +onlyGivenNames x0_
  exact (fr_ite hz
  (by
    extract_lets +onlyGivenNames x1_
    extract_lets +onlyGivenNames x2_
    exact (fr_ite (State.setTg_frame _ _ _ (sub hu rfl) hz)
    (fr_ite (State.setTg_frame _ _ _ (sub hu rfl) hz)
    (by
      extract_lets +onlyGivenNames x3_
      extract_lets +onlyGivenNames x4_
      extract_lets +onlyGivenNames x5_
      extract_lets +onlyGivenNames x6_
      extract_lets +onlyGivenNames x7_
      extract_lets +onlyGivenNames x8_
      extract_lets +onlyGivenNames x9_
      extract_lets +onlyGivenNames x10_
      extract_lets +onlyGivenNames x11_
      have h11_ : Fr F z x11_ := (State.setTg_frame _ _ _ (sub hu rfl) hz)
      try clear_value x11_
      revert x11_
      refine fr_id ?_
      intro x11_ h11_
      extract_lets +onlyGivenNames x12_
      exact (State.tgHanded_frame _ _ (sub hu rfl) (fr_foldl (fun _ _ h13_ => (fr_ite (State.ethHand_frame _ _ _ _ (sub hu rfl) h13_)
      h13_))
      h11_)))))))

theorem State.fieldStale_frame {F : Place → Bool} {z : State} (s : State) (k : Nat) (spa : Bool) (spb : Bool)
    (hu : Al F [.isl, .regs, .free, .saf, .frc]) (hz : Fr F z s) :
    Fr F z (State.fieldStale s k spa spb) := by
  unfold State.fieldStale
  extract_lets +onlyGivenNames x0_
  extract_lets +onlyGivenNames x1_
  have h1_ : Fr F z x1_ := (State.waitTo_frame _ _ (sub hu rfl) hz)
  try clear_value x1_
  revert x1_
  refine fr_id ?_
  intro x1_ h1_
  extract_lets +onlyGivenNames x2_
  extract_lets +onlyGivenNames x3_
  extract_lets +onlyGivenNames x4_
  exact (State.setIsland_frame _ _ _ (sub hu rfl) h1_)

theorem State.safFunctions_frame {F : Place → Bool} {z : State} (s : State) (lost : Nat)
    (hu : Al F [.gb, .regs, .gates, .saf]) (hz : Fr F z s) :
    Fr F z (State.safFunctions s lost) := by
  unfold State.safFunctions
  exact (fr_foldl (fun _ _ h0_ => (by
    split
    · extract_lets +onlyGivenNames x1_
      extract_lets +onlyGivenNames x2_
      extract_lets +onlyGivenNames x3_
      extract_lets +onlyGivenNames x4_
      extract_lets +onlyGivenNames x5_
      have h5_ : Fr F z x5_ := (fr_ite (State.setExc_frame _ _ _ (sub hu rfl) h0_)
      h0_)
      try clear_value x5_
      revert x5_
      refine fr_id ?_
      intro x5_ h5_
      exact (State.wr_frame _ _ _ (sub hu rfl) (State.wr_frame _ _ _ (sub hu rfl) (State.wr_frame _ _ _ (sub hu rfl) h5_)))
    · exact (State.wr_frame _ _ _ (sub hu rfl) h0_)
    · extract_lets +onlyGivenNames x6_
      extract_lets +onlyGivenNames x7_
      have h7_ : Fr F z x7_ := (fr_saf h0_ (al hu rfl))
      try clear_value x7_
      revert x7_
      refine fr_id ?_
      intro x7_ h7_
      exact (State.post_frame _ _ _ _ _ _ (sub hu rfl) (State.wr_frame _ _ _ (sub hu rfl) h7_))
    · exact (State.wr_frame _ _ _ (sub hu rfl) h0_)))
  hz)

theorem State.funTrip_frame {F : Place → Bool} {z : State} (s : State) (f : Nat) (code : Nat) (cause : Nat) (shown : Nat)
    (hu : Al F [.gb, .regs, .gates]) (hz : Fr F z s) :
    Fr F z (State.funTrip s f code cause shown) := by
  unfold State.funTrip
  extract_lets +onlyGivenNames x0_
  exact (fr_ite (by
    extract_lets +onlyGivenNames x1_
    have h1_ : Fr F z x1_ := (State.wr_frame _ _ _ (sub hu rfl) (State.wr_frame _ _ _ (sub hu rfl) (State.wr_frame _ _ _ (sub hu rfl) hz)))
    try clear_value x1_
    revert x1_
    refine fr_id ?_
    intro x1_ h1_
    exact (State.safSummary_frame _ (sub hu rfl) (State.post_frame _ _ _ _ _ _ (sub hu rfl) (State.wr_frame _ _ _ (sub hu rfl) h1_))))
  hz)

theorem State.funFault_frame {F : Place → Bool} {z : State} (s : State) (f : Nat) (id : Nat) (cause : Nat) (further : Bool)
    (hu : Al F [.gb, .regs, .gates, .saf]) (hz : Fr F z s) :
    Fr F z (State.funFault s f id cause further) := by
  unfold State.funFault
  extract_lets +onlyGivenNames x0_
  extract_lets +onlyGivenNames x1_
  extract_lets +onlyGivenNames x2_
  have h2_ : Fr F z x2_ := (State.spoil_frame _ _ (sub hu rfl) (State.setFunBad_frame _ _ _ (sub hu rfl) hz))
  try clear_value x2_
  revert x2_
  refine fr_id ?_
  intro x2_ h2_
  exact (fr_ite (by
    extract_lets +onlyGivenNames x3_
    extract_lets +onlyGivenNames x4_
    have h4_ : Fr F z x4_ := (State.wr_frame _ _ _ (sub hu rfl) (State.wr_frame _ _ _ (sub hu rfl) (State.wr_frame _ _ _ (sub hu rfl) h2_)))
    try clear_value x4_
    revert x4_
    refine fr_id ?_
    intro x4_ h4_
    extract_lets +onlyGivenNames x5_
    have h5_ : Fr F z x5_ := (State.setExc_frame _ _ _ (sub hu rfl) h4_)
    try clear_value x5_
    revert x5_
    refine fr_id ?_
    intro x5_ h5_
    exact (State.safSummary_frame _ (sub hu rfl) (State.post_frame _ _ _ _ _ _ (sub hu rfl) h5_)))
  (fr_ite (State.funTrip_frame _ _ _ _ _ (sub hu rfl) h2_)
  h2_))

theorem State.safRefuse_frame {F : Place → Bool} {z : State} (s : State) (f : Nat) (why : Nat)
    (hu : Al F [.gb, .regs, .gates]) (hz : Fr F z s) :
    Fr F z (State.safRefuse s f why) := by
  unfold State.safRefuse
  exact (State.post_frame _ _ _ _ _ _ (sub hu rfl) (State.cmdStat_frame _ _ _ _ (sub hu rfl) hz))

theorem State.funFaults_frame {F : Place → Bool} {z : State} (s : State) (sel : Nat → Bool) (id : Nat) (cause : Nat) (further : Bool)
    (hu : Al F [.gb, .regs, .gates, .saf]) (hz : Fr F z s) :
    Fr F z (State.funFaults s sel id cause further) := by
  unfold State.funFaults
  exact (fr_foldl (fun _ _ h0_ => (fr_ite (State.funFault_frame _ _ _ _ _ (sub hu rfl) h0_)
  h0_))
  hz)

theorem State.sinkReset_frame {F : Place → Bool} {z : State} (s : State) (req : Nat) (k : Nat)
    (hu : Al F [.gb, .regs, .gates]) (hz : Fr F z s) :
    Fr F z (State.sinkReset s req k) := by
  unfold State.sinkReset
  extract_lets +onlyGivenNames x0_
  exact (fr_ite (by
    extract_lets +onlyGivenNames x1_
    extract_lets +onlyGivenNames x2_
    have h2_ : Fr F z x2_ := (State.wr_frame _ _ _ (sub hu rfl) hz)
    try clear_value x2_
    revert x2_
    refine fr_id ?_
    intro x2_ h2_
    exact (State.post_frame _ _ _ _ _ _ (sub hu rfl) h2_))
  hz)

theorem State.safCmdWrite_frame {F : Place → Bool} {z : State} (s : State) (value : Nat)
    (hu : Al F [.gb, .regs, .gates, .saf]) (hz : Fr F z s) :
    Fr F z (State.safCmdWrite s value) := by
  unfold State.safCmdWrite
  extract_lets +onlyGivenNames x0_
  extract_lets +onlyGivenNames x1_
  extract_lets +onlyGivenNames x2_
  extract_lets +onlyGivenNames x3_
  exact (fr_ite hz
  (fr_ite (fr_ite (State.safRefuse_frame _ _ _ (sub hu rfl) hz)
  (fr_ite (State.safRefuse_frame _ _ _ (sub hu rfl) hz)
  (fr_ite (State.safRefuse_frame _ _ _ (sub hu rfl) hz)
  (fr_ite (State.safRefuse_frame _ _ _ (sub hu rfl) hz)
  (by
    extract_lets +onlyGivenNames x4_
    have h4_ : Fr F z x4_ := (State.wr_frame _ _ _ (sub hu rfl) (State.cmdStat_frame _ _ _ _ (sub hu rfl) hz))
    try clear_value x4_
    revert x4_
    refine fr_id ?_
    intro x4_ h4_
    exact (fr_saf h4_ (al hu rfl)))))))
  (fr_ite (fr_ite (State.cmdStat_frame _ _ _ _ (sub hu rfl) hz)
  (fr_ite (State.cmdStat_frame _ _ _ _ (sub hu rfl) hz)
  (fr_ite (State.cmdStat_frame _ _ _ _ (sub hu rfl) hz)
  (by
    extract_lets +onlyGivenNames x5_
    have h5_ : Fr F z x5_ := (State.wr_frame _ _ _ (sub hu rfl) (State.wr_frame _ _ _ (sub hu rfl) (State.cmdStat_frame _ _ _ _ (sub hu rfl) hz)))
    try clear_value x5_
    revert x5_
    refine fr_id ?_
    intro x5_ h5_
    exact (State.safSummary_frame _ (sub hu rfl) (State.setFunBad_frame _ _ _ (sub hu rfl) h5_))))))
  (fr_ite (fr_ite (State.safRefuse_frame _ _ _ (sub hu rfl) hz)
  (fr_ite (State.safRefuse_frame _ _ _ (sub hu rfl) hz)
  (fr_ite (State.safRefuse_frame _ _ _ (sub hu rfl) hz)
  (by
    extract_lets +onlyGivenNames x6_
    have h6_ : Fr F z x6_ := (State.cmdStat_frame _ _ _ _ (sub hu rfl) hz)
    try clear_value x6_
    revert x6_
    refine fr_id ?_
    intro x6_ h6_
    exact (fr_saf h6_ (al hu rfl))))))
  hz))))

theorem State.lineSample_frame {F : Place → Bool} {z : State} (s : State) (l : Nat) (n : Nat) (on : Bool) (users : Nat)
    (hu : Al F [.gb, .regs, .gates, .saf]) (hz : Fr F z s) :
    Fr F z (State.lineSample s l n on users) := by
  unfold State.lineSample
  extract_lets +onlyGivenNames x0_
  extract_lets +onlyGivenNames x1_
  extract_lets +onlyGivenNames x2_
  have h2_ : Fr F z x2_ := (fr_saf hz (al hu rfl))
  try clear_value x2_
  revert x2_
  refine fr_id ?_
  intro x2_ h2_
  exact (fr_ite (fr_ite (State.funFaults_frame _ _ _ _ _ (sub hu rfl) h2_)
  (by
    extract_lets +onlyGivenNames x3_
    have h3_ : Fr F z x3_ := (State.wr_frame _ _ _ (sub hu rfl) h2_)
    try clear_value x3_
    revert x3_
    refine fr_id ?_
    intro x3_ h3_
    extract_lets +onlyGivenNames x4_
    have h4_ : Fr F z x4_ := (State.post_frame _ _ _ _ _ _ (sub hu rfl) h3_)
    try clear_value x4_
    revert x4_
    refine fr_id ?_
    intro x4_ h4_
    exact (State.funFaults_frame _ _ _ _ _ (sub hu rfl) h4_)))
  (fr_ite (State.wr_frame _ _ _ (sub hu rfl) h2_)
  h2_))

theorem State.funTrips_frame {F : Place → Bool} {z : State} (s : State) (sel : Nat → Bool) (cause : Nat)
    (hu : Al F [.gb, .regs, .gates]) (hz : Fr F z s) :
    Fr F z (State.funTrips s sel cause) := by
  unfold State.funTrips
  exact (fr_foldl (fun _ _ h0_ => (fr_ite (State.funTrip_frame _ _ _ _ _ (sub hu rfl) h0_)
  h0_))
  hz)

theorem execSafReset_frame {F : Place → Bool} {z : State} (m : Master) (f : Fin 64) (s : State)
    (hu : Al F [.gb, .regs, .resp, .gates, .saf]) (hz : Fr F z s) :
    FrA F z (execSafReset m f s) := by
  unfold execSafReset
  exact (frA_next (State.access_frame _ _ _ _ _ _ (sub hu rfl) hz (fun _ h0_ => (State.safCmdWrite_frame _ _ (sub hu rfl) h0_))))

theorem execSafReturn_frame {F : Place → Bool} {z : State} (m : Master) (f : Fin 64) (s : State)
    (hu : Al F [.gb, .regs, .resp, .gates, .saf]) (hz : Fr F z s) :
    FrA F z (execSafReturn m f s) := by
  unfold execSafReturn
  exact (frA_next (State.access_frame _ _ _ _ _ _ (sub hu rfl) hz (fun _ h0_ => (State.safCmdWrite_frame _ _ (sub hu rfl) h0_))))

theorem State.safOffer_frame {F : Place → Bool} {z : State} (s : State) (payload : List Byte)
    (hu : Al F [.firstOut, .gb, .regs, .gates, .nb, .saf]) (hz : Fr F z s) :
    Fr F z (State.safOffer s payload) := by
  unfold State.safOffer
  exact (fr_ite (fr_saf hz (al hu rfl))
  (by
    extract_lets +onlyGivenNames x0_
    extract_lets +onlyGivenNames x1_
    have h1_ : Fr F z x1_ := (fr_saf hz (al hu rfl))
    try clear_value x1_
    revert x1_
    refine fr_id ?_
    intro x1_ h1_
    exact (fr_ite h1_
    (State.matrix_frame _ (sub hu rfl) (State.wr_frame _ _ _ (sub hu rfl) h1_)))))

theorem State.funExpire_frame {F : Place → Bool} {z : State} (s : State) (f : Nat)
    (hu : Al F [.firstOut, .gb, .regs, .gates, .nb, .saf, .frc]) (hz : Fr F z s) :
    Fr F z (State.funExpire s f) := by
  unfold State.funExpire
  exact (State.matrix_frame _ (sub hu rfl) (State.funTrip_frame _ _ _ _ _ (sub hu rfl) (State.waitTo_frame _ _ (sub hu rfl) hz)))

theorem execReturnMatrix_frame {F : Place → Bool} {z : State} (m : Master) (s : State)
    (hu : Al F [.gb, .regs, .resp, .gates, .saf]) (hz : Fr F z s) :
    FrA F z (execReturnMatrix m s) := by
  unfold execReturnMatrix
  exact (frA_next (State.access_frame _ _ _ _ _ _ (sub hu rfl) hz (fun _ h0_ => (State.safCmdWrite_frame _ _ (sub hu rfl) h0_))))

theorem State.safRun_frame {F : Place → Bool} {z : State} (s : State)
    (hu : Al F [.firstOut, .gb, .regs, .gates, .nb, .saf]) (hz : Fr F z s) :
    Fr F z (State.safRun s) := by
  unfold State.safRun
  exact (fr_ite (by
    extract_lets +onlyGivenNames x0_
    extract_lets +onlyGivenNames x1_
    have h1_ : Fr F z x1_ := (fr_saf hz (al hu rfl))
    try clear_value x1_
    revert x1_
    refine fr_id ?_
    intro x1_ h1_
    exact (fr_ite (by
      extract_lets +onlyGivenNames x2_
      have h2_ : Fr F z x2_ := (State.post_frame _ _ _ _ _ _ (sub hu rfl) (State.wr_frame _ _ _ (sub hu rfl) h1_))
      try clear_value x2_
      revert x2_
      refine fr_id ?_
      intro x2_ h2_
      exact (State.matrix_frame _ (sub hu rfl) (State.tgRun_frame _ (sub hu rfl) h2_)))
    h1_))
  hz)

theorem State.fieldLost_frame {F : Place → Bool} {z : State} (s : State) (k : Nat) (spa : Bool) (spb : Bool) (users : Nat)
    (hu : Al F [.firstOut, .isl, .gb, .regs, .free, .gates, .nb, .saf, .frc]) (hz : Fr F z s) :
    Fr F z (State.fieldLost s k spa spb users) := by
  unfold State.fieldLost
  extract_lets +onlyGivenNames x0_
  extract_lets +onlyGivenNames x1_
  have h1_ : Fr F z x1_ := (State.waitTo_frame _ _ (sub hu rfl) hz)
  try clear_value x1_
  revert x1_
  refine fr_id ?_
  intro x1_ h1_
  extract_lets +onlyGivenNames x2_
  extract_lets +onlyGivenNames x3_
  exact (fr_ite h1_
  (by
    extract_lets +onlyGivenNames x4_
    have h4_ : Fr F z x4_ := (State.setIsland_frame _ _ _ (sub hu rfl) h1_)
    try clear_value x4_
    revert x4_
    refine fr_id ?_
    intro x4_ h4_
    extract_lets +onlyGivenNames x5_
    extract_lets +onlyGivenNames x6_
    extract_lets +onlyGivenNames x7_
    have h7_ : Fr F z x7_ := (fr_saf h4_ (al hu rfl))
    try clear_value x7_
    revert x7_
    refine fr_id ?_
    intro x7_ h7_
    extract_lets +onlyGivenNames x8_
    have h8_ : Fr F z x8_ := (State.post_frame _ _ _ _ _ _ (sub hu rfl) h7_)
    try clear_value x8_
    revert x8_
    refine fr_id ?_
    intro x8_ h8_
    exact (State.matrix_frame _ (sub hu rfl) (State.funTrips_frame _ _ _ (sub hu rfl) h8_))))

theorem State.pulseSample_frame {F : Place → Bool} {z : State} (s : State) (l : Nat) (on : BitVec 16) (volts10 : Nat) (users : List (BitVec 64))
    (hu : Al F [.firstOut, .gb, .regs, .gates, .nb, .saf]) (hz : Fr F z s) :
    Fr F z (State.pulseSample s l on volts10 users) := by
  unfold State.pulseSample
  extract_lets +onlyGivenNames x0_
  extract_lets +onlyGivenNames x1_
  extract_lets +onlyGivenNames x2_
  extract_lets +onlyGivenNames x3_
  extract_lets +onlyGivenNames x4_
  have h4_ : Fr F z x4_ := (fr_saf hz (al hu rfl))
  try clear_value x4_
  revert x4_
  refine fr_id ?_
  intro x4_ h4_
  extract_lets +onlyGivenNames x5_
  extract_lets +onlyGivenNames x6_
  have h6_ : Fr F z x6_ := (State.wr_frame _ _ _ (sub hu rfl) h4_)
  try clear_value x6_
  revert x6_
  refine fr_id ?_
  intro x6_ h6_
  extract_lets +onlyGivenNames x7_
  have h7_ : Fr F z x7_ := (fr_ite h6_
  (State.post_frame _ _ _ _ _ _ (sub hu rfl) h6_))
  try clear_value x7_
  revert x7_
  refine fr_id ?_
  intro x7_ h7_
  extract_lets +onlyGivenNames x8_
  have h8_ : Fr F z x8_ := (fr_ite (State.funFaults_frame _ _ _ _ _ (sub hu rfl) h7_)
  h6_)
  try clear_value x8_
  revert x8_
  refine fr_id ?_
  intro x8_ h8_
  exact (State.matrix_frame _ (sub hu rfl) (fr_foldl (fun _ _ h9_ => (State.lineSample_frame _ _ _ _ _ (sub hu rfl) h9_))
  h8_))

theorem execSafetyFieldStale_frame {F : Place → Bool} {z : State} (k : Fin 8) (inbound : Bool) (spa : Bool) (spb : Bool) (users : BitVec 64) (s : State)
    (hu : Al F [.firstOut, .isl, .gb, .regs, .free, .gates, .nb, .saf, .frc]) (hz : Fr F z s) :
    FrA F z (execSafetyFieldStale k inbound spa spb users s) := by
  unfold execSafetyFieldStale
  exact (fr_iteA (frA_next hz)
  (fr_iteA (frA_next (fr_ite (State.fieldStale_frame _ _ _ _ (sub hu rfl) hz)
  hz))
  (frA_next (fr_ite (State.fieldLost_frame _ _ _ _ _ (sub hu rfl) hz)
  hz))))

theorem execSafetyAdoptComplete_frame {F : Place → Bool} {z : State} (s : State)
    (hu : Al F [.firstOut, .gb, .regs, .gates, .nb, .saf, .frc]) (hz : Fr F z s) :
    FrA F z (execSafetyAdoptComplete s) := by
  unfold execSafetyAdoptComplete
  exact (fr_iteA (frA_next hz)
  (by
    extract_lets +onlyGivenNames x0_
    have h0_ : Fr F z x0_ := (State.safStore_frame _ (sub hu rfl) (State.waitTo_frame _ _ (sub hu rfl) hz))
    try clear_value x0_
    revert x0_
    refine fr_id ?_
    intro x0_ h0_
    extract_lets +onlyGivenNames x1_
    extract_lets +onlyGivenNames x2_
    have h2_ : Fr F z x2_ := (fr_saf h0_ (al hu rfl))
    try clear_value x2_
    revert x2_
    refine fr_id ?_
    intro x2_ h2_
    extract_lets +onlyGivenNames x3_
    have h3_ : Fr F z x3_ := (State.safFunctions_frame _ _ (sub hu rfl) (State.safShow_frame _ (sub hu rfl) (State.wr_frame _ _ _ (sub hu rfl) h2_)))
    try clear_value x3_
    revert x3_
    refine fr_id ?_
    intro x3_ h3_
    exact (frA_next (State.safSummary_frame _ (sub hu rfl) (State.enterSafe_frame _ _ (sub hu rfl) (State.tgStart_frame _ (sub hu rfl) h3_))))))

theorem State.safNoPlan_frame {F : Place → Bool} {z : State} (s : State)
    (hu : Al F [.firstOut, .gb, .regs, .gates, .nb, .saf]) (hz : Fr F z s) :
    Fr F z (State.safNoPlan s) := by
  unfold State.safNoPlan
  extract_lets +onlyGivenNames x0_
  extract_lets +onlyGivenNames x1_
  have h1_ : Fr F z x1_ := (fr_saf hz (al hu rfl))
  try clear_value x1_
  revert x1_
  refine fr_id ?_
  intro x1_ h1_
  exact (fr_ite (State.enterSafe_frame _ _ (sub hu rfl) h1_)
  h1_)

theorem State.matrixForce_frame {F : Place → Bool} {z : State} (s : State)
    (hu : Al F [.firstOut, .gb, .regs, .free, .gates, .nb, .saf]) (hz : Fr F z s) :
    Fr F z (State.matrixForce s) := by
  unfold State.matrixForce
  exact (fr_ite hz
  (State.useFree_frame _ (sub hu rfl) (State.forceTrip_frame _ _ (sub hu rfl) hz)))

theorem execTestPulseSample_frame {F : Place → Bool} {z : State} (l : Fin 8) (on : BitVec 16) (volts10 : Nat) (users : List (BitVec 64)) (s : State)
    (hu : Al F [.firstOut, .gb, .regs, .gates, .nb, .saf, .frc]) (hz : Fr F z s) :
    FrA F z (execTestPulseSample l on volts10 users s) := by
  unfold execTestPulseSample
  exact (fr_iteA (frA_next hz)
  (frA_next (State.pulseSample_frame _ _ _ _ _ (sub hu rfl) (State.waitTo_frame _ _ (sub hu rfl) hz))))

theorem execExcursionExpire_frame {F : Place → Bool} {z : State} (who : ExcOwner) (s : State)
    (hu : Al F [.firstOut, .gb, .regs, .free, .gates, .nb, .saf, .frc]) (hz : Fr F z s) :
    FrA F z (execExcursionExpire who s) := by
  unfold execExcursionExpire
  exact (fr_iteA (frA_next hz)
  (by
    split
    · exact (fr_iteA (frA_next (State.funExpire_frame _ _ (sub hu rfl) hz))
      (frA_next hz))
    · exact (by
        split
        · exact (fr_iteA (frA_next (State.matrixForce_frame _ (sub hu rfl) (State.waitTo_frame _ _ (sub hu rfl) hz)))
          (frA_next hz))
        · exact (frA_next hz))))

theorem execMatrixCheckEnd_frame {F : Place → Bool} {z : State} (s : State)
    (hu : Al F [.firstOut, .gb, .regs, .free, .gates, .nb, .saf, .frc]) (hz : Fr F z s) :
    FrA F z (execMatrixCheckEnd s) := by
  unfold execMatrixCheckEnd
  exact (by
    split
    · exact (fr_iteA (frA_next (State.matrixForce_frame _ (sub hu rfl) (State.waitTo_frame _ _ (sub hu rfl) hz)))
      (by
        extract_lets +onlyGivenNames x0_
        have h0_ : Fr F z x0_ := (State.waitTo_frame _ _ (sub hu rfl) hz)
        try clear_value x0_
        revert x0_
        refine fr_id ?_
        intro x0_ h0_
        extract_lets +onlyGivenNames x1_
        extract_lets +onlyGivenNames x2_
        have h2_ : Fr F z x2_ := (fr_saf h0_ (al hu rfl))
        try clear_value x2_
        revert x2_
        refine fr_id ?_
        intro x2_ h2_
        exact (fr_iteA (by
          extract_lets +onlyGivenNames x3_
          extract_lets +onlyGivenNames x4_
          extract_lets +onlyGivenNames x5_
          have h5_ : Fr F z x5_ := (fr_saf h2_ (al hu rfl))
          try clear_value x5_
          revert x5_
          refine fr_id ?_
          intro x5_ h5_
          extract_lets +onlyGivenNames x6_
          have h6_ : Fr F z x6_ := (State.wr_frame _ _ _ (sub hu rfl) (State.wr_frame _ _ _ (sub hu rfl) (State.wr_frame _ _ _ (sub hu rfl) h5_)))
          try clear_value x6_
          revert x6_
          refine fr_id ?_
          intro x6_ h6_
          exact (frA_next (State.matrix_frame _ (sub hu rfl) (State.safSummary_frame _ (sub hu rfl) (State.post_frame _ _ _ _ _ _ (sub hu rfl) h6_)))))
        (frA_next (State.post_frame _ _ _ _ _ _ (sub hu rfl) h2_)))))
    · exact (frA_next hz))

theorem State.procFail_frame {F : Place → Bool} {z : State} (s : State) (p : Nat) (cause : Nat)
    (hu : Al F [.firstOut, .gb, .regs, .gates, .nb, .saf]) (hz : Fr F z s) :
    Fr F z (State.procFail s p cause) := by
  unfold State.procFail
  exact (fr_ite hz
  (by
    extract_lets +onlyGivenNames x0_
    extract_lets +onlyGivenNames x1_
    extract_lets +onlyGivenNames x2_
    have h2_ : Fr F z x2_ := (fr_saf hz (al hu rfl))
    try clear_value x2_
    revert x2_
    refine fr_id ?_
    intro x2_ h2_
    extract_lets +onlyGivenNames x3_
    have h3_ : Fr F z x3_ := (fr_ite (State.wr_frame _ _ _ (sub hu rfl) h2_)
    (State.wr_frame _ _ _ (sub hu rfl) h2_))
    try clear_value x3_
    revert x3_
    refine fr_id ?_
    intro x3_ h3_
    extract_lets +onlyGivenNames x4_
    have h4_ : Fr F z x4_ := (State.post_frame _ _ _ _ _ _ (sub hu rfl) h3_)
    try clear_value x4_
    revert x4_
    refine fr_id ?_
    intro x4_ h4_
    extract_lets +onlyGivenNames x5_
    have h5_ : Fr F z x5_ := (State.funFaults_frame _ _ _ _ _ (sub hu rfl) h4_)
    try clear_value x5_
    revert x5_
    refine fr_id ?_
    intro x5_ h5_
    exact (State.matrix_frame _ (sub hu rfl) (fr_ite (State.forceTrip_frame _ _ (sub hu rfl) h5_)
    h5_))))

theorem State.safCompare_frame {F : Place → Bool} {z : State} (s : State) (x : SafCycle)
    (hu : Al F [.firstOut, .gb, .regs, .gates, .nb, .saf]) (hz : Fr F z s) :
    Fr F z (State.safCompare s x) := by
  unfold State.safCompare
  exact (fr_ite (by
    extract_lets +onlyGivenNames x0_
    have h0_ : Fr F z x0_ := (fr_ite (State.procFail_frame _ _ _ (sub hu rfl) hz)
    hz)
    try clear_value x0_
    revert x0_
    refine fr_id ?_
    intro x0_ h0_
    extract_lets +onlyGivenNames x1_
    have h1_ : Fr F z x1_ := (fr_ite (State.procFail_frame _ _ _ (sub hu rfl) h0_)
    h0_)
    try clear_value x1_
    revert x1_
    refine fr_id ?_
    intro x1_ h1_
    exact (fr_saf h1_ (al hu rfl)))
  (by
    extract_lets +onlyGivenNames x2_
    extract_lets +onlyGivenNames x3_
    extract_lets +onlyGivenNames x4_
    extract_lets +onlyGivenNames x5_
    have h5_ : Fr F z x5_ := (fr_saf hz (al hu rfl))
    try clear_value x5_
    revert x5_
    refine fr_id ?_
    intro x5_ h5_
    extract_lets +onlyGivenNames x6_
    have h6_ : Fr F z x6_ := (fr_ite (State.procFail_frame _ _ _ (sub hu rfl) h5_)
    h5_)
    try clear_value x6_
    revert x6_
    refine fr_id ?_
    intro x6_ h6_
    extract_lets +onlyGivenNames x7_
    have h7_ : Fr F z x7_ := (fr_ite (State.procFail_frame _ _ _ (sub hu rfl) h6_)
    h6_)
    try clear_value x7_
    revert x7_
    refine fr_id ?_
    intro x7_ h7_
    exact (fr_ite (State.funTrips_frame _ _ _ (sub hu rfl) h7_)
    h7_)))

theorem execSafetyWatchdogExpiry_frame {F : Place → Bool} {z : State} (spb : Bool) (early : Bool) (s : State)
    (hu : Al F [.firstOut, .gb, .regs, .gates, .nb, .saf, .frc]) (hz : Fr F z s) :
    FrA F z (execSafetyWatchdogExpiry spb early s) := by
  unfold execSafetyWatchdogExpiry
  exact (fr_iteA (frA_next hz)
  (fr_iteA (frA_next (fr_ite (State.procFail_frame _ _ _ (sub hu rfl) hz)
  hz))
  (frA_next (State.procFail_frame _ _ _ (sub hu rfl) (State.waitTo_frame _ _ (sub hu rfl) hz)))))

theorem State.planeTest_frame {F : Place → Bool} {z : State} (s : State) (plane : Nat) (ok : Bool)
    (hu : Al F [.firstOut, .gb, .regs, .free, .gates, .nb, .saf]) (hz : Fr F z s) :
    Fr F z (State.planeTest s plane ok) := by
  unfold State.planeTest
  extract_lets +onlyGivenNames x0_
  exact (fr_ite (fr_saf hz (al hu rfl))
  (fr_ite hz
  (by
    extract_lets +onlyGivenNames x1_
    have h1_ : Fr F z x1_ := (State.wr_frame _ _ _ (sub hu rfl) hz)
    try clear_value x1_
    revert x1_
    refine fr_id ?_
    intro x1_ h1_
    extract_lets +onlyGivenNames x2_
    extract_lets +onlyGivenNames x3_
    have h3_ : Fr F z x3_ := (State.post_frame _ _ _ _ _ _ (sub hu rfl) h1_)
    try clear_value x3_
    revert x3_
    refine fr_id ?_
    intro x3_ h3_
    exact (fr_ite (State.matrixForce_frame _ (sub hu rfl) h3_)
    (by
      extract_lets +onlyGivenNames x4_
      extract_lets +onlyGivenNames x5_
      extract_lets +onlyGivenNames x6_
      extract_lets +onlyGivenNames x7_
      have h7_ : Fr F z x7_ := (State.wr_frame _ _ _ (sub hu rfl) (fr_saf h3_ (al hu rfl)))
      try clear_value x7_
      revert x7_
      refine fr_id ?_
      intro x7_ h7_
      exact (State.safSummary_frame _ (sub hu rfl) (State.post_frame _ _ _ _ _ _ (sub hu rfl) h7_)))))))

theorem State.safTested_frame {F : Place → Bool} {z : State} (s : State) (okA : Bool) (okB : Bool) (planeA : Bool) (planeB : Bool)
    (hu : Al F [.firstOut, .gb, .regs, .free, .gates, .nb, .saf]) (hz : Fr F z s) :
    Fr F z (State.safTested s okA okB planeA planeB) := by
  unfold State.safTested
  extract_lets +onlyGivenNames x0_
  have h0_ : Fr F z x0_ := (fr_ite hz
  (State.procFail_frame _ _ _ (sub hu rfl) hz))
  try clear_value x0_
  revert x0_
  refine fr_id ?_
  intro x0_ h0_
  extract_lets +onlyGivenNames x1_
  have h1_ : Fr F z x1_ := (fr_ite h0_
  (State.procFail_frame _ _ _ (sub hu rfl) h0_))
  try clear_value x1_
  revert x1_
  refine fr_id ?_
  intro x1_ h1_
  exact (State.planeTest_frame _ _ _ (sub hu rfl) (State.planeTest_frame _ _ _ (sub hu rfl) h1_))

theorem State.safCycle_frame {F : Place → Bool} {z : State} (s : State) (x : SafCycle)
    (hu : Al F [.firstOut, .gb, .regs, .eth, .free, .gates, .nb, .saf]) (hz : Fr F z s) :
    Fr F z (State.safCycle s x) := by
  unfold State.safCycle
  extract_lets +onlyGivenNames x0_
  have h0_ : Fr F z x0_ := (State.safCompare_frame _ _ (sub hu rfl) hz)
  try clear_value x0_
  revert x0_
  refine fr_id ?_
  intro x0_ h0_
  extract_lets +onlyGivenNames x1_
  have h1_ : Fr F z x1_ := (State.planeTest_frame _ _ _ (sub hu rfl) (State.planeTest_frame _ _ _ (sub hu rfl) h0_))
  try clear_value x1_
  revert x1_
  refine fr_id ?_
  intro x1_ h1_
  extract_lets +onlyGivenNames x2_
  extract_lets +onlyGivenNames x3_
  have h3_ : Fr F z x3_ := (fr_saf h1_ (al hu rfl))
  try clear_value x3_
  revert x3_
  refine fr_id ?_
  intro x3_ h3_
  extract_lets +onlyGivenNames x4_
  have h4_ : Fr F z x4_ := (State.matrix_frame _ (sub hu rfl) h3_)
  try clear_value x4_
  revert x4_
  refine fr_id ?_
  intro x4_ h4_
  extract_lets +onlyGivenNames x5_
  extract_lets +onlyGivenNames x6_
  have h6_ : Fr F z x6_ := (State.matrix_frame _ (sub hu rfl) (fr_foldl (fun _ _ h7_ => (State.sinkReset_frame _ _ _ (sub hu rfl) h7_))
  h4_))
  try clear_value x6_
  revert x6_
  refine fr_id ?_
  intro x6_ h6_
  extract_lets +onlyGivenNames x8_
  have h8_ : Fr F z x8_ := by
    subst x8_
    exact (by
      split
      · exact (State.post_frame _ _ _ _ _ _ (sub hu rfl) h6_)
      · exact h6_)
  try clear_value x8_
  revert x8_
  refine fr_id ?_
  intro x8_ h8_
  exact (fr_ite (fr_foldl (fun _ _ h9_ => (State.tgSend_frame _ _ _ (sub hu rfl) h9_))
  h8_)
  (State.safRun_frame _ (sub hu rfl) h8_))

theorem State.safBoot_frame {F : Place → Bool} {z : State} (s : State) (okA okB planeA planeB : Bool)
    (hu : Al F [.firstOut, .gb, .regs, .free, .gates, .nb, .saf]) (hz : Fr F z s) :
    Fr F z (State.safBoot s okA okB planeA planeB) := by
  have h0 := State.matrixResume_frame _ (sub hu rfl) (State.wr_frame _ Reg.SAF_STAT_SPB_OK 1 (sub hu rfl)
    (State.wr_frame s Reg.SAF_STAT_SPA_OK 1 (sub hu rfl) hz))
  have h1 := fun v => State.tgStart_frame _ (sub hu rfl) (State.safResume_frame _ (sub hu rfl)
    (State.safFunctions_frame _ 1 (sub hu rfl) (State.safShow_frame _ (sub hu rfl) (fr_saf (v := v) h0 (al hu rfl)))))
  have h2 := fun v => State.safTested_frame _ okA okB planeA planeB (sub hu rfl)
    (State.enterSafe_frame _ 1 (sub hu rfl) (h1 v))
  exact State.matrix_frame _ (sub hu rfl) (State.safSummary_frame _ (sub hu rfl)
    (fr_ite (h2 _) (State.wr_frame _ Reg.SAF_STAT_STATE 3 (sub hu rfl) (h2 _))))

theorem execSafetyBootComplete_frame {F : Place → Bool} {z : State} (okA : Bool) (okB : Bool) (planeA : Bool) (planeB : Bool) (s : State)
    (hu : Al F [.firstOut, .gb, .regs, .free, .gates, .nb, .saf]) (hz : Fr F z s) :
    FrA F z (execSafetyBootComplete okA okB planeA planeB s) := by
  unfold execSafetyBootComplete
  exact (fr_iteA (frA_next hz)
  (frA_next (State.safBoot_frame _ _ _ _ _ (sub hu rfl) hz)))

theorem execSafetyCycle_frame {F : Place → Bool} {z : State} (x : SafCycle) (s : State)
    (hu : Al F [.firstOut, .gb, .regs, .eth, .free, .gates, .nb, .saf, .frc]) (hz : Fr F z s) :
    FrA F z (execSafetyCycle x s) := by
  unfold execSafetyCycle
  refine fr_iteA (frA_next hz) ?_
  have h0 : ∀ o : Option Nat, Fr F z (match o with
      | some t => s.waitTo (t + 9999000)
      | none => s) := by
    intro o
    cases o with
    | none => exact hz
    | some t => exact State.waitTo_frame _ _ (sub hu rfl) hz
  have h1 := fun v n => State.wr64_frame _ Reg.SAF_CYCLE_LO Reg.SAF_CYCLE_HI n (sub hu rfl)
    (fr_saf (v := v) (h0 s.saf.cycleAt) (al hu rfl))
  exact frA_next (fr_ite (h1 _ _) (State.tgRead_frame _ (sub hu rfl) (State.safCycle_frame _ _ (sub hu rfl) (h1 _ _))))

end Sys2Proof.Machine
end

