-- ==== Sys2Proof/Laws/FrameFpl.lean ====
section
/-!
SUPPORT. What the operations of Machine/Fpl.lean may change (Laws/Frames.lean).
-/
namespace Sys2Proof.Machine

theorem State.softDigShow_frame {F : Place → Bool} {z : State} (s : State)
    (hu : Al F [.regs]) (hz : Fr F z s) :
    Fr F z (State.softDigShow s) := by
  unfold State.softDigShow
  extract_lets +onlyGivenNames x0_
  exact (fr_foldl (fun _ _ h1_ => (State.wr_frame _ _ _ (sub hu rfl) h1_))
  hz)

theorem State.fplShow_frame {F : Place → Bool} {z : State} (s : State) (w : FplWalk)
    (hu : Al F [.regs]) (hz : Fr F z s) :
    Fr F z (State.fplShow s w) := by
  unfold State.fplShow
  extract_lets +onlyGivenNames x0_
  extract_lets +onlyGivenNames x1_
  have h1_ : Fr F z x1_ := (State.wr_frame _ _ _ (sub hu rfl) (State.wr_frame _ _ _ (sub hu rfl) (State.wr_frame _ _ _ (sub hu rfl) hz)))
  try clear_value x1_
  revert x1_
  refine fr_id ?_
  intro x1_ h1_
  exact (fr_ite (State.wr_frame _ _ _ (sub hu rfl) h1_)
  h1_)

theorem State.queLock_frame {F : Place → Bool} {z : State} (s : State)
    (hu : Al F [.rx, .pgn, .regs]) (hz : Fr F z s) :
    Fr F z (State.queLock s) := by
  unfold State.queLock
  extract_lets +onlyGivenNames x0_
  have h0_ : Fr F z x0_ := (fr_foldl (fun _ _ h1_ => (State.wr_frame _ _ _ (sub hu rfl) h1_))
  hz)
  try clear_value x0_
  revert x0_
  refine fr_id ?_
  intro x0_ h0_
  extract_lets +onlyGivenNames x2_
  have h2_ : Fr F z x2_ := (State.wr_frame _ _ _ (sub hu rfl) h0_)
  try clear_value x2_
  revert x2_
  refine fr_id ?_
  intro x2_ h2_
  extract_lets +onlyGivenNames x3_
  have h3_ : Fr F z x3_ := (fr_foldl (fun _ _ h4_ => (fr_ite (by
    extract_lets +onlyGivenNames x5_
    have h5_ : Fr F z x5_ := (State.wr_frame _ _ _ (sub hu rfl) (State.wr_frame _ _ _ (sub hu rfl) (State.wr_frame _ _ _ (sub hu rfl) h4_)))
    try clear_value x5_
    revert x5_
    refine fr_id ?_
    intro x5_ h5_
    exact (State.wr_frame _ _ _ (sub hu rfl) (State.wrB_frame _ _ _ (sub hu rfl) (State.wr_frame _ _ _ (sub hu rfl) h5_))))
  h4_))
  h2_)
  try clear_value x3_
  revert x3_
  refine fr_id ?_
  intro x3_ h3_
  exact (by
    intro p hp
    cases p
    case pgn => exact fr_no (al hu rfl) hp
    case rx => exact fr_no (al hu rfl) hp
    all_goals exact fr_eq (h3_ _ hp) rfl)

theorem State.keyRevoke_frame {F : Place → Bool} {z : State} (s : State) (revoke : Bool) (key : Nat) (serial : Nat)
    (hu : Al F [.gb, .regs, .gates]) (hz : Fr F z s) :
    Fr F z (State.keyRevoke s revoke key serial) := by
  unfold State.keyRevoke
  extract_lets +onlyGivenNames x0_
  exact (fr_ite (State.post_frame _ _ _ _ _ _ (sub hu rfl) (State.wr_frame _ _ _ (sub hu rfl) hz))
  hz)

theorem State.softLand_frame {F : Place → Bool} {z : State} (s : State) (new : List Section)
    (hu : Al F [.gb, .fpl, .regs, .gates]) (hz : Fr F z s) :
    Fr F z (State.softLand s new) := by
  unfold State.softLand
  extract_lets +onlyGivenNames x0_
  extract_lets +onlyGivenNames x1_
  have h1_ : Fr F z x1_ := (fr_fpl hz (al hu rfl))
  try clear_value x1_
  revert x1_
  refine fr_id ?_
  intro x1_ h1_
  extract_lets +onlyGivenNames x2_
  have h2_ : Fr F z x2_ := (fr_ite (State.gbFillBuckets_frame _ (sub hu rfl) h1_)
  h1_)
  try clear_value x2_
  revert x2_
  refine fr_id ?_
  intro x2_ h2_
  extract_lets +onlyGivenNames x3_
  have h3_ : Fr F z x3_ := (State.softDigShow_frame _ (sub hu rfl) h2_)
  try clear_value x3_
  revert x3_
  refine fr_id ?_
  intro x3_ h3_
  extract_lets +onlyGivenNames x4_
  have h4_ : Fr F z x4_ := (State.post_frame _ _ _ _ _ _ (sub hu rfl) h3_)
  try clear_value x4_
  revert x4_
  refine fr_id ?_
  intro x4_ h4_
  exact (fr_ite (State.nbRefreshCheck_frame _ (sub hu rfl) h4_)
  h4_)

theorem State.slotStore_frame {F : Place → Bool} {z : State} (s : State) (slot : Slot) (b : List Byte)
    (hu : Al F [.gb, .fpl, .regs, .gates]) (hz : Fr F z s) :
    Fr F z (State.slotStore s slot b) := by
  unfold State.slotStore
  extract_lets +onlyGivenNames x0_
  extract_lets +onlyGivenNames x1_
  have h1_ : Fr F z x1_ := by
    subst x1_
    exact (by
      split
      · exact (fr_fpl hz (al hu rfl))
      · exact (fr_fpl hz (al hu rfl)))
  try clear_value x1_
  revert x1_
  refine fr_id ?_
  intro x1_ h1_
  extract_lets +onlyGivenNames x2_
  have h2_ : Fr F z x2_ := (State.wr_frame _ _ _ (sub hu rfl) (State.wr_frame _ _ _ (sub hu rfl) h1_))
  try clear_value x2_
  revert x2_
  refine fr_id ?_
  intro x2_ h2_
  extract_lets +onlyGivenNames x3_
  have h3_ : Fr F z x3_ := (State.keyRevoke_frame _ _ _ _ (sub hu rfl) h2_)
  try clear_value x3_
  revert x3_
  refine fr_id ?_
  intro x3_ h3_
  exact (State.post_frame _ _ _ _ _ _ (sub hu rfl) h3_)

theorem execSoftSectionLanding_frame {F : Place → Bool} {z : State} (peer : Bool) (s : State)
    (hu : Al F [.gb, .fpl, .regs, .gates, .frc]) (hz : Fr F z s) :
    FrA F z (execSoftSectionLanding peer s) := by
  unfold execSoftSectionLanding
  exact (by
    split
    · exact (frA_next hz)
    · exact (fr_iteA (frA_next hz)
      (by
        split
        · extract_lets +onlyGivenNames x0_
          exact (fr_iteA (frA_next (State.softLand_frame _ _ (sub hu rfl) (fr_frc hz (al hu rfl))))
          (frA_next hz))
        · exact (frA_next (State.softLand_frame _ _ (sub hu rfl) hz)))))

theorem State.fplReject_frame {F : Place → Bool} {z : State} (s : State)
    (hu : Al F [.gb, .regs, .gates]) (hz : Fr F z s) :
    Fr F z (State.fplReject s) := by
  unfold State.fplReject
  exact (State.post_frame _ _ _ _ _ _ (sub hu rfl) hz)

theorem execFplOperationComplete_frame {F : Place → Bool} {z : State} (s : State)
    (hu : Al F [.gb, .fpl, .regs, .gates]) (hz : Fr F z s) :
    FrA F z (execFplOperationComplete s) := by
  unfold execFplOperationComplete
  exact (by
    split
    · exact (frA_next hz)
    · extract_lets +onlyGivenNames x0_
      extract_lets +onlyGivenNames x1_
      extract_lets +onlyGivenNames x2_
      extract_lets +onlyGivenNames x3_
      extract_lets +onlyGivenNames x4_
      have h4_ : Fr F z x4_ := (fr_fpl hz (al hu rfl))
      try clear_value x4_
      revert x4_
      refine fr_id ?_
      intro x4_ h4_
      extract_lets +onlyGivenNames x5_
      have h5_ : Fr F z x5_ := (State.fplShow_frame _ _ (sub hu rfl) (State.wr_frame _ _ _ (sub hu rfl) h4_))
      try clear_value x5_
      revert x5_
      refine fr_id ?_
      intro x5_ h5_
      exact (fr_iteA (frA_next (State.fplReject_frame _ (sub hu rfl) h5_))
      (by
        split
        · exact (frA_next (State.slotStore_frame _ _ _ (sub hu rfl) h5_))
        · extract_lets +onlyGivenNames x6_
          exact (frA_next (fr_fpl h5_ (al hu rfl)))
        · exact (frA_next h5_))))

theorem State.slotFailed_frame {F : Place → Bool} {z : State} (s : State) (slot : Slot) (f : FplFail)
    (hu : Al F [.gb, .fpl, .regs, .gates]) (hz : Fr F z s) :
    Fr F z (State.slotFailed s slot f) := by
  unfold State.slotFailed
  extract_lets +onlyGivenNames x0_
  have h0_ : Fr F z x0_ := (State.fplReject_frame _ (sub hu rfl) hz)
  try clear_value x0_
  revert x0_
  refine fr_id ?_
  intro x0_ h0_
  exact (by
    split
    · exact (fr_fpl h0_ (al hu rfl))
    · exact (fr_fpl h0_ (al hu rfl)))

theorem State.fplBegin_frame {F : Place → Bool} {z : State} (s : State) (cmd : FplCmd)
    (hu : Al F [.ban, .scn, .gb, .fpl, .regs, .gates]) (hz : Fr F z s) :
    Fr F z (State.fplBegin s cmd) := by
  unfold State.fplBegin
  extract_lets +onlyGivenNames x0_
  extract_lets +onlyGivenNames x1_
  extract_lets +onlyGivenNames x2_
  extract_lets +onlyGivenNames x3_
  extract_lets +onlyGivenNames x4_
  extract_lets +onlyGivenNames x5_
  extract_lets +onlyGivenNames x6_
  extract_lets +onlyGivenNames x7_
  extract_lets +onlyGivenNames x8_
  extract_lets +onlyGivenNames x9_
  extract_lets +onlyGivenNames x10_
  have h10_ : Fr F z x10_ := (fr_ite (State.joinAbort_frame _ (sub hu rfl) hz)
  hz)
  try clear_value x10_
  revert x10_
  refine fr_id ?_
  intro x10_ h10_
  extract_lets +onlyGivenNames x11_
  have h11_ : Fr F z x11_ := (State.wr_frame _ _ _ (sub hu rfl) h10_)
  try clear_value x11_
  revert x11_
  refine fr_id ?_
  intro x11_ h11_
  extract_lets +onlyGivenNames x12_
  exact (fr_fpl h11_ (al hu rfl))

theorem State.slotHold_frame {F : Place → Bool} {z : State} (s : State) (slot : Slot) (fallback : Bool) (w : FplWalk)
    (hu : Al F [.firstOut, .gb, .fpl, .regs, .gates, .nb, .saf]) (hz : Fr F z s) :
    Fr F z (State.slotHold s slot fallback w) := by
  unfold State.slotHold
  extract_lets +onlyGivenNames x0_
  extract_lets +onlyGivenNames x1_
  extract_lets +onlyGivenNames x2_
  extract_lets +onlyGivenNames x3_
  extract_lets +onlyGivenNames x4_
  extract_lets +onlyGivenNames x5_
  have h5_ : Fr F z x5_ := (fr_fpl hz (al hu rfl))
  try clear_value x5_
  revert x5_
  refine fr_id ?_
  intro x5_ h5_
  extract_lets +onlyGivenNames x6_
  have h6_ : Fr F z x6_ := (fr_ite (State.post_frame _ _ _ _ _ _ (sub hu rfl) (State.wr_frame _ _ _ (sub hu rfl) h5_))
  h5_)
  try clear_value x6_
  revert x6_
  refine fr_id ?_
  intro x6_ h6_
  exact (State.safOffer_frame _ _ (sub hu rfl) h6_)

theorem State.fplCmdWrite_frame {F : Place → Bool} {z : State} (s : State) (m : Master) (v : Nat)
    (hu : Al F [.ban, .scn, .gb, .fpl, .regs, .resp, .gates]) (hz : Fr F z s) :
    Fr F z (State.fplCmdWrite s m v) := by
  unfold State.fplCmdWrite
  extract_lets +onlyGivenNames x0_
  exact (fr_ite hz
  (fr_ite (State.refuseWrite_frame _ _ _ (sub hu rfl) hz)
  (fr_ite (State.fplBegin_frame _ _ (sub hu rfl) hz)
  (fr_ite (State.fplBegin_frame _ _ (sub hu rfl) hz)
  (fr_ite (State.fplBegin_frame _ _ (sub hu rfl) hz)
  (State.fplBegin_frame _ _ (sub hu rfl) hz))))))

theorem State.unitsLock_frame {F : Place → Bool} {z : State} (s : State)
    (hu : Al F [.wear, .rx, .posted, .isl, .gb, .axes, .lp, .pgn, .trimPers, .regs, .can, .free, .slv, .gates, .nb, .anx]) (hz : Fr F z s) :
    Fr F z (State.unitsLock s) := by
  unfold State.unitsLock
  extract_lets +onlyGivenNames x0_
  have h0_ : Fr F z x0_ := (State.queLock_frame _ (sub hu rfl) hz)
  try clear_value x0_
  revert x0_
  refine fr_id ?_
  intro x0_ h0_
  extract_lets +onlyGivenNames x1_
  have h1_ : Fr F z x1_ := (fr_foldl (fun _ _ h2_ => (State.setTaskState_frame _ _ _ (sub hu rfl) h2_))
  h0_)
  try clear_value x1_
  revert x1_
  refine fr_id ?_
  intro x1_ h1_
  extract_lets +onlyGivenNames x3_
  have h3_ : Fr F z x3_ := (fr_foldl (fun _ _ h4_ => (fr_ite (State.islLock_frame _ _ (sub hu rfl) h4_)
  h4_))
  h1_)
  try clear_value x3_
  revert x3_
  refine fr_id ?_
  intro x3_ h3_
  extract_lets +onlyGivenNames x5_
  have h5_ : Fr F z x5_ := (fr_foldl (fun _ _ h6_ => (State.canLock_frame _ _ (sub hu rfl) h6_))
  h3_)
  try clear_value x5_
  revert x5_
  refine fr_id ?_
  intro x5_ h5_
  extract_lets +onlyGivenNames x7_
  have h7_ : Fr F z x7_ := (fr_foldl (fun _ _ h8_ => (State.serLock_frame _ _ (sub hu rfl) h8_))
  h5_)
  try clear_value x7_
  revert x7_
  refine fr_id ?_
  intro x7_ h7_
  exact (State.nbLock_frame _ (sub hu rfl) (State.wearLock_frame _ (sub hu rfl) (State.anxLock_frame _ (sub hu rfl) (State.slvLock_frame _ (sub hu rfl) (State.loopLock_frame _ (sub hu rfl) (State.axLock_frame _ (sub hu rfl) h7_))))))

theorem execFplSoftApply_frame {F : Place → Bool} {z : State} (m : Master) (s : State)
    (hu : Al F [.ban, .scn, .gb, .fpl, .regs, .resp, .gates]) (hz : Fr F z s) :
    FrA F z (execFplSoftApply m s) := by
  unfold execFplSoftApply
  exact (frA_next (State.access_frame _ _ _ _ _ _ (sub hu rfl) hz (fun _ h0_ => (State.fplCmdWrite_frame _ _ _ (sub hu rfl) h0_))))

theorem State.lock_frame {F : Place → Bool} {z : State} (s : State) (im : FplImage)
    (hu : Al F [.ban, .wear, .rx, .posted, .isl, .gb, .axes, .fpl, .lp, .pgn, .trimPers, .regs, .can, .free, .slv, .gates, .nb, .anx]) (hz : Fr F z s) :
    Fr F z (State.lock s im) := by
  unfold State.lock
  extract_lets +onlyGivenNames x0_
  extract_lets +onlyGivenNames x1_
  have h1_ : Fr F z x1_ := (fr_fpl hz (al hu rfl))
  try clear_value x1_
  revert x1_
  refine fr_id ?_
  intro x1_ h1_
  extract_lets +onlyGivenNames x2_
  have h2_ : Fr F z x2_ := (fr_ite h1_
  (State.wr_frame _ _ _ (sub hu rfl) h1_))
  try clear_value x2_
  revert x2_
  refine fr_id ?_
  intro x2_ h2_
  extract_lets +onlyGivenNames x3_
  have h3_ : Fr F z x3_ := (State.wr_frame _ _ _ (sub hu rfl) (State.latentCount_frame _ (sub hu rfl) h2_))
  try clear_value x3_
  revert x3_
  refine fr_id ?_
  intro x3_ h3_
  extract_lets +onlyGivenNames x4_
  have h4_ : Fr F z x4_ := (State.wr_frame _ _ _ (sub hu rfl) (State.wr_frame _ _ _ (sub hu rfl) (State.wr_frame _ _ _ (sub hu rfl) h3_)))
  try clear_value x4_
  revert x4_
  refine fr_id ?_
  intro x4_ h4_
  extract_lets +onlyGivenNames x5_
  have h5_ : Fr F z x5_ := (State.wr_frame _ _ _ (sub hu rfl) (State.wr_frame _ _ _ (sub hu rfl) h4_))
  try clear_value x5_
  revert x5_
  refine fr_id ?_
  intro x5_ h5_
  extract_lets +onlyGivenNames x6_
  extract_lets +onlyGivenNames x7_
  have h7_ : Fr F z x7_ := (fr_foldl (fun _ _ h8_ => (State.wr_frame _ _ _ (sub hu rfl) h8_))
  h5_)
  try clear_value x7_
  revert x7_
  refine fr_id ?_
  intro x7_ h7_
  extract_lets +onlyGivenNames x9_
  have h9_ : Fr F z x9_ := (State.gbFillBuckets_frame _ (sub hu rfl) (State.wr_frame _ _ _ (sub hu rfl) (State.softDigShow_frame _ (sub hu rfl) h7_)))
  try clear_value x9_
  revert x9_
  refine fr_id ?_
  intro x9_ h9_
  extract_lets +onlyGivenNames x10_
  have h10_ : Fr F z x10_ := (State.progShow_frame _ (sub hu rfl) (State.unitsLock_frame _ (sub hu rfl) h9_))
  try clear_value x10_
  revert x10_
  refine fr_id ?_
  intro x10_ h10_
  extract_lets +onlyGivenNames x11_
  have h11_ : Fr F z x11_ := (State.wr_frame _ _ _ (sub hu rfl) h10_)
  try clear_value x11_
  revert x11_
  refine fr_id ?_
  intro x11_ h11_
  extract_lets +onlyGivenNames x12_
  have h12_ : Fr F z x12_ := (State.setRole_frame _ _ (sub hu rfl) h11_)
  try clear_value x12_
  revert x12_
  refine fr_id ?_
  intro x12_ h12_
  extract_lets +onlyGivenNames x13_
  have h13_ : Fr F z x13_ := (State.post_frame _ _ _ _ _ _ (sub hu rfl) h12_)
  try clear_value x13_
  revert x13_
  refine fr_id ?_
  intro x13_ h13_
  extract_lets +onlyGivenNames x14_
  have h14_ : Fr F z x14_ := (fr_ite (State.post_frame _ _ _ _ _ _ (sub hu rfl) h13_)
  h13_)
  try clear_value x14_
  revert x14_
  refine fr_id ?_
  intro x14_ h14_
  extract_lets +onlyGivenNames x15_
  have h15_ : Fr F z x15_ := (State.keyRevoke_frame _ _ _ _ (sub hu rfl) h14_)
  try clear_value x15_
  revert x15_
  refine fr_id ?_
  intro x15_ h15_
  exact (fr_ite (State.sendRole_frame _ (sub hu rfl) h15_)
  h15_)

theorem execFplStore_frame {F : Place → Bool} {z : State} (m : Master) (slot : Slot) (s : State)
    (hu : Al F [.ban, .scn, .gb, .fpl, .regs, .resp, .gates]) (hz : Fr F z s) :
    FrA F z (execFplStore m slot s) := by
  unfold execFplStore
  exact (frA_next (State.access_frame _ _ _ _ _ _ (sub hu rfl) hz (fun _ h0_ => (State.fplCmdWrite_frame _ _ _ (sub hu rfl) h0_))))

theorem execFplVerify_frame {F : Place → Bool} {z : State} (m : Master) (s : State)
    (hu : Al F [.ban, .scn, .gb, .fpl, .regs, .resp, .gates]) (hz : Fr F z s) :
    FrA F z (execFplVerify m s) := by
  unfold execFplVerify
  exact (frA_next (State.access_frame _ _ _ _ _ _ (sub hu rfl) hz (fun _ h0_ => (State.fplCmdWrite_frame _ _ _ (sub hu rfl) h0_))))

theorem State.bootLock_frame {F : Place → Bool} {z : State} (s : State)
    (hu : Al F [.ban, .wear, .rx, .posted, .isl, .gb, .axes, .fpl, .lp, .pgn, .trimPers, .regs, .can, .free, .slv, .gates, .nb, .anx]) (hz : Fr F z s) :
    Fr F z (State.bootLock s) := by
  unfold State.bootLock
  exact (by
    split
    · extract_lets +onlyGivenNames x0_
      exact (fr_ite (State.lock_frame _ _ (sub hu rfl) hz)
      hz)
    · exact hz)

theorem State.noPlan_frame {F : Place → Bool} {z : State} (s : State)
    (hu : Al F [.firstOut, .gb, .regs, .gates, .nb, .saf]) (hz : Fr F z s) :
    Fr F z (State.noPlan s) := by
  unfold State.noPlan
  extract_lets +onlyGivenNames x0_
  have h0_ : Fr F z x0_ := (State.wr_frame _ _ _ (sub hu rfl) (State.wr_frame _ _ _ (sub hu rfl) hz))
  try clear_value x0_
  revert x0_
  refine fr_id ?_
  intro x0_ h0_
  exact (State.safNoPlan_frame _ (sub hu rfl) (State.post_frame _ _ _ _ _ _ (sub hu rfl) h0_))

theorem State.bootTry_frame {F : Place → Bool} {z : State} (s : State)
    (hu : Al F [.firstOut, .gb, .fpl, .regs, .gates, .nb, .saf]) (hz : Fr F z s) :
    Fr F z (State.bootTry s) := by
  unfold State.bootTry
  extract_lets +onlyGivenNames x0_
  extract_lets +onlyGivenNames x1_
  extract_lets +onlyGivenNames x2_
  extract_lets +onlyGivenNames x3_
  have h3_ : Fr F z x3_ := (State.fplShow_frame _ _ (sub hu rfl) hz)
  try clear_value x3_
  revert x3_
  refine fr_id ?_
  intro x3_ h3_
  exact (by
    split
    · exact (State.slotHold_frame _ _ _ _ (sub hu rfl) h3_)
    · extract_lets +onlyGivenNames x4_
      have h4_ : Fr F z x4_ := (State.slotFailed_frame _ _ _ (sub hu rfl) h3_)
      try clear_value x4_
      revert x4_
      refine fr_id ?_
      intro x4_ h4_
      exact (fr_ite (by
        extract_lets +onlyGivenNames x5_
        extract_lets +onlyGivenNames x6_
        have h6_ : Fr F z x6_ := (State.fplShow_frame _ _ (sub hu rfl) h4_)
        try clear_value x6_
        revert x6_
        refine fr_id ?_
        intro x6_ h6_
        exact (by
          split
          · exact (State.slotHold_frame _ _ _ _ (sub hu rfl) h6_)
          · exact (State.noPlan_frame _ (sub hu rfl) (State.slotFailed_frame _ _ _ (sub hu rfl) h6_))))
      (State.noPlan_frame _ (sub hu rfl) h4_)))

theorem execBootLoad_frame {F : Place → Bool} {z : State} (s : State)
    (hu : Al F [.ban, .wear, .rx, .firstOut, .posted, .isl, .gb, .axes, .fpl, .lp, .pgn, .trimPers, .regs, .can, .free, .slv, .gates, .nb, .saf, .anx]) (hz : Fr F z s) :
    FrA F z (execBootLoad s) := by
  unfold execBootLoad
  exact (fr_iteA (frA_next hz)
  (fr_iteA (frA_next (State.bootLock_frame _ (sub hu rfl) hz))
  (frA_next (State.bootLock_frame _ (sub hu rfl) (State.bootTry_frame _ (sub hu rfl) hz)))))

end Sys2Proof.Machine
end

