-- ==== Sys2Proof/Laws/FrameJoin.lean ====
section
/-!
SUPPORT. What the operations of Machine/Join.lean may change (Laws/Frames.lean).
-/
namespace Sys2Proof.Machine

theorem State.applyInsts_frame {F : Place → Bool} {z : State} (s : State) (t : Nat) (new : List Inst)
    (hu : Al F [.scn]) (hz : Fr F z s) :
    Fr F z (State.applyInsts s t new) := by
  unfold State.applyInsts
  extract_lets +onlyGivenNames x0_
  exact (fr_scn hz (al hu rfl))

theorem State.setJoin_frame {F : Place → Bool} {z : State} (s : State) (j : Join)
    (hu : Al F [.ban]) (hz : Fr F z s) :
    Fr F z (State.setJoin s j) := by
  unfold State.setJoin
  exact (fr_ban hz (al hu rfl))

theorem State.applySlots_frame {F : Place → Bool} {z : State} (s : State) (b : List Byte)
    (hu : Al F [.regs, .slv]) (hz : Fr F z s) :
    Fr F z (State.applySlots s b) := by
  unfold State.applySlots
  exact (fr_ite hz
  (by
    extract_lets +onlyGivenNames x0_
    extract_lets +onlyGivenNames x1_
    extract_lets +onlyGivenNames x2_
    extract_lets +onlyGivenNames x3_
    extract_lets +onlyGivenNames x4_
    have h4_ : Fr F z x4_ := (fr_slv hz (al hu rfl))
    try clear_value x4_
    revert x4_
    refine fr_id ?_
    intro x4_ h4_
    exact (fr_foldl (fun _ _ h5_ => (State.slvShowSlot_frame _ _ (sub hu rfl) h5_))
    h4_)))

theorem State.swapTake_frame {F : Place → Bool} {z : State} (s : State) (landing : Nat)
    (hu : Al F [.ban]) (hz : Fr F z s) :
    Fr F z (State.swapTake s landing) := by
  unfold State.swapTake
  exact (by
    split
    · exact (fr_ite (State.setJoin_frame _ _ (sub hu rfl) hz)
      hz)
    · exact hz)

theorem State.setPhase_frame {F : Place → Bool} {z : State} (s : State) (p : Nat)
    (hu : Al F [.regs]) (hz : Fr F z s) :
    Fr F z (State.setPhase s p) := by
  unfold State.setPhase
  exact (State.wr_frame _ _ _ (sub hu rfl) hz)

theorem State.hamperSend_frame {F : Place → Bool} {z : State} (s : State) (x : HamperSec) (parts : List (Nat × List Byte))
    (hu : Al F [.ban, .regs]) (hz : Fr F z s) :
    Fr F z (State.hamperSend s x parts) := by
  unfold State.hamperSend
  extract_lets +onlyGivenNames x0_
  extract_lets +onlyGivenNames x1_
  extract_lets +onlyGivenNames x2_
  extract_lets +onlyGivenNames x3_
  have h3_ : Fr F z x3_ := (fr_foldl (fun _ _ h4_ => (State.banFrame_frame _ _ _ _ (sub hu rfl) h4_))
  hz)
  try clear_value x3_
  revert x3_
  refine fr_id ?_
  intro x3_ h3_
  extract_lets +onlyGivenNames x5_
  have h5_ : Fr F z x5_ := (State.banFrame_frame _ _ _ _ (sub hu rfl) h3_)
  try clear_value x5_
  revert x5_
  refine fr_id ?_
  intro x5_ h5_
  exact (by
    split
    · extract_lets +onlyGivenNames x6_
      extract_lets +onlyGivenNames x7_
      exact (State.wr_frame _ _ _ (sub hu rfl) (State.setJoin_frame _ _ (sub hu rfl) h5_))
    · exact h5_)

theorem State.joinAnswer_frame {F : Place → Bool} {z : State} (s : State) (reason : Nat) (upgrade : Bool) (l : Nat)
    (hu : Al F [.ban]) (hz : Fr F z s) :
    Fr F z (State.joinAnswer s reason upgrade l) := by
  unfold State.joinAnswer
  exact (State.banSend_frame _ _ _ (sub hu rfl) hz)

theorem execUpgradeAdmitLapse_frame {F : Place → Bool} {z : State} (s : State)
    (hu : Al F [.regs, .frc]) (hz : Fr F z s) :
    FrA F z (execUpgradeAdmitLapse s) := by
  unfold execUpgradeAdmitLapse
  exact (fr_iteA (frA_next (State.wr_frame _ _ _ (sub hu rfl) (fr_frc hz (al hu rfl))))
  (frA_next hz))

theorem State.applyBlock_frame {F : Place → Bool} {z : State} (s : State) (b : List Byte)
    (hu : Al F [.regs]) (hz : Fr F z s) :
    Fr F z (State.applyBlock s b) := by
  unfold State.applyBlock
  extract_lets +onlyGivenNames x0_
  extract_lets +onlyGivenNames x1_
  exact (State.wr_frame _ _ _ (sub hu rfl) (State.setWords_frame _ _ _ (sub hu rfl) hz))

theorem State.applyLoops_frame {F : Place → Bool} {z : State} (s : State) (b : List Byte)
    (hu : Al F [.lp, .regs]) (hz : Fr F z s) :
    Fr F z (State.applyLoops s b) := by
  unfold State.applyLoops
  exact (fr_foldl (fun _ _ h0_ => (fr_ite (State.setLoop_frame _ _ _ (sub hu rfl) (State.setWords_frame _ _ _ (sub hu rfl) h0_))
  h0_))
  hz)

theorem State.putTask_frame {F : Place → Bool} {z : State} (s : State) (x : Nat × List Nat × ScanTask)
    (hu : Al F [.scn, .regs]) (hz : Fr F z s) :
    Fr F z (State.putTask s x) := by
  unfold State.putTask
  exact (State.setWords_frame _ _ _ (sub hu rfl) (State.setTask_frame _ _ _ (sub hu rfl) hz))

theorem State.caughtUpTake_frame {F : Place → Bool} {z : State} (s : State)
    (hu : Al F [.ban, .regs]) (hz : Fr F z s) :
    Fr F z (State.caughtUpTake s) := by
  unfold State.caughtUpTake
  exact (by
    split
    · exact (fr_ite (State.setJoin_frame _ _ (sub hu rfl) (State.setPhase_frame _ _ (sub hu rfl) hz))
      hz)
    · exact hz)

theorem State.applyTopup_frame {F : Place → Bool} {z : State} (s : State) (b : List Byte)
    (hu : Al F [.axes, .lp, .regs, .gates]) (hz : Fr F z s) :
    Fr F z (State.applyTopup s b).1 := by
  unfold State.applyTopup
  extract_lets +onlyGivenNames x0_
  extract_lets +onlyGivenNames x1_
  extract_lets +onlyGivenNames x2_
  extract_lets +onlyGivenNames x3_
  extract_lets +onlyGivenNames x4_
  extract_lets +onlyGivenNames x5_
  extract_lets +onlyGivenNames x6_
  extract_lets +onlyGivenNames x7_
  extract_lets +onlyGivenNames x8_
  have h8_ : Fr F z x8_ := (fr_lp hz (al hu rfl))
  try clear_value x8_
  revert x8_
  refine fr_id ?_
  intro x8_ h8_
  extract_lets +onlyGivenNames x9_
  have h9_ : Fr F z x9_ := (fr_foldl (fun _ _ h10_ => (fr_ite (State.setWords_frame _ _ _ (sub hu rfl) (State.setLoop_frame _ _ _ (sub hu rfl) h10_))
  h10_))
  h8_)
  try clear_value x9_
  revert x9_
  refine fr_id ?_
  intro x9_ h9_
  extract_lets +onlyGivenNames x11_
  have h11_ : Fr F z x11_ := (fr_foldl (fun _ _ h12_ => (fr_ite (State.setWords_frame _ _ _ (sub hu rfl) (State.setAxis_frame _ _ _ (sub hu rfl) h12_))
  h12_))
  h9_)
  try clear_value x11_
  revert x11_
  refine fr_id ?_
  intro x11_ h11_
  extract_lets +onlyGivenNames x13_
  have h13_ : Fr F z x13_ := (fr_ite (State.wake_frame _ _ (sub hu rfl) h11_)
  h11_)
  try clear_value x13_
  revert x13_
  refine fr_id ?_
  intro x13_ h13_
  exact (State.axShowAll_frame _ (sub hu rfl) h13_)

theorem State.applyForces_frame {F : Place → Bool} {z : State} (s : State) (b : List Byte)
    (hu : Al F [.scn, .regs]) (hz : Fr F z s) :
    Fr F z (State.applyForces s b) := by
  unfold State.applyForces
  exact (State.forceShow_frame _ (sub hu rfl) (fr_scn hz (al hu rfl)))

theorem State.joinAsk_frame {F : Place → Bool} {z : State} (s : State)
    (hu : Al F [.ban]) (hz : Fr F z s) :
    Fr F z (State.joinAsk s) := by
  unfold State.joinAsk
  extract_lets +onlyGivenNames x0_
  have h0_ : Fr F z x0_ := by
    subst x0_
    exact (by
      split
      · exact (State.setJoin_frame _ _ (sub hu rfl) hz)
      · exact hz)
  try clear_value x0_
  revert x0_
  refine fr_id ?_
  intro x0_ h0_
  exact (State.banAsk_frame _ _ _ (sub hu rfl) h0_)

theorem State.applyTask_frame {F : Place → Bool} {z : State} (s : State) (t : Nat) (b : List Byte)
    (hu : Al F [.scn, .regs]) (hz : Fr F z s) :
    Fr F z (State.applyTask s t b) := by
  unfold State.applyTask
  extract_lets +onlyGivenNames x0_
  exact (State.applyInsts_frame _ _ _ (sub hu rfl) (State.putTask_frame _ _ (sub hu rfl) hz))

theorem State.joinRequestTake_frame {F : Place → Bool} {z : State} (s : State) (caps : Nat) (station : Nat) (serial : Nat) (sdig : List Byte) (pdig : List Byte)
    (hu : Al F [.ban, .regs]) (hz : Fr F z s) :
    Fr F z (State.joinRequestTake s caps station serial sdig pdig) := by
  unfold State.joinRequestTake
  extract_lets +onlyGivenNames x0_
  extract_lets +onlyGivenNames x1_
  extract_lets +onlyGivenNames x2_
  extract_lets +onlyGivenNames x3_
  have h3_ : Fr F z x3_ := (State.wr_frame _ _ _ (sub hu rfl) hz)
  try clear_value x3_
  revert x3_
  refine fr_id ?_
  intro x3_ h3_
  extract_lets +onlyGivenNames x4_
  extract_lets +onlyGivenNames x5_
  have h5_ : Fr F z x5_ := (fr_ite (fr_ban h3_ (al hu rfl))
  h3_)
  try clear_value x5_
  revert x5_
  refine fr_id ?_
  intro x5_ h5_
  exact (fr_ite (State.joinAnswer_frame _ _ _ _ (sub hu rfl) h5_)
  (fr_ite (State.joinAnswer_frame _ _ _ _ (sub hu rfl) h5_)
  (by
    extract_lets +onlyGivenNames x6_
    extract_lets +onlyGivenNames x7_
    have h7_ : Fr F z x7_ := (fr_ite (State.wr_frame _ _ _ (sub hu rfl) h5_)
    h5_)
    try clear_value x7_
    revert x7_
    refine fr_id ?_
    intro x7_ h7_
    extract_lets +onlyGivenNames x8_
    have h8_ : Fr F z x8_ := (State.wr_frame _ _ _ (sub hu rfl) (State.setPhase_frame _ _ (sub hu rfl) h7_))
    try clear_value x8_
    revert x8_
    refine fr_id ?_
    intro x8_ h8_
    extract_lets +onlyGivenNames x9_
    have h9_ : Fr F z x9_ := (State.setJoin_frame _ _ (sub hu rfl) h8_)
    try clear_value x9_
    revert x9_
    refine fr_id ?_
    intro x9_ h9_
    exact (State.joinAnswer_frame _ _ _ _ (sub hu rfl) h9_))))

theorem execLatentLimitReached_frame {F : Place → Bool} {z : State} (s : State)
    (hu : Al F [.ban, .gb, .regs, .gates]) (hz : Fr F z s) :
    FrA F z (execLatentLimitReached s) := by
  unfold execLatentLimitReached
  extract_lets +onlyGivenNames x0_
  have h0_ : Fr F z x0_ := (State.latentCount_frame _ (sub hu rfl) hz)
  try clear_value x0_
  revert x0_
  refine fr_id ?_
  intro x0_ h0_
  extract_lets +onlyGivenNames x1_
  exact (fr_iteA (frA_next (State.post_frame _ _ _ _ _ _ (sub hu rfl) (fr_ban h0_ (al hu rfl))))
  (frA_next h0_))

theorem State.dirtySend_frame {F : Place → Bool} {z : State} (s : State) (now : List HamperSec)
    (hu : Al F [.ban, .regs]) (hz : Fr F z s) :
    Fr F z (State.dirtySend s now) := by
  unfold State.dirtySend
  exact (by
    split
    · extract_lets +onlyGivenNames x0_
      exact (fr_foldl (fun _ _ h1_ => (State.hamperSend_frame _ _ _ (sub hu rfl) h1_))
      hz)
    · exact hz)

theorem State.takeMode_frame {F : Place → Bool} {z : State} (s : State) (m : Nat)
    (hu : Al F [.gb, .regs, .gates]) (hz : Fr F z s) :
    Fr F z (State.takeMode s m) := by
  unfold State.takeMode
  extract_lets +onlyGivenNames x0_
  have h0_ : Fr F z x0_ := (fr_ite hz
  (State.wake_frame _ _ (sub hu rfl) hz))
  try clear_value x0_
  revert x0_
  refine fr_id ?_
  intro x0_ h0_
  extract_lets +onlyGivenNames x1_
  have h1_ : Fr F z x1_ := (fr_ite h0_
  (State.post_frame _ _ _ _ _ _ (sub hu rfl) h0_))
  try clear_value x1_
  revert x1_
  refine fr_id ?_
  intro x1_ h1_
  exact (State.wr_frame _ _ _ (sub hu rfl) h1_)

theorem execSwapLanding_frame {F : Place → Bool} {z : State} (s : State)
    (hu : Al F [.ban, .scn, .regs, .frc]) (hz : Fr F z s) :
    FrA F z (execSwapLanding s) := by
  unfold execSwapLanding
  exact (by
    split
    · exact (by
        split
        · exact (fr_iteA (by
            extract_lets +onlyGivenNames x0_
            have h0_ : Fr F z x0_ := (fr_frc hz (al hu rfl))
            try clear_value x0_
            revert x0_
            refine fr_id ?_
            intro x0_ h0_
            extract_lets +onlyGivenNames x1_
            extract_lets +onlyGivenNames x2_
            have h2_ : Fr F z x2_ := (fr_scn h0_ (al hu rfl))
            try clear_value x2_
            revert x2_
            refine fr_id ?_
            intro x2_ h2_
            extract_lets +onlyGivenNames x3_
            have h3_ : Fr F z x3_ := (State.setJoin_frame _ _ (sub hu rfl) h2_)
            try clear_value x3_
            revert x3_
            refine fr_id ?_
            intro x3_ h3_
            extract_lets +onlyGivenNames x4_
            have h4_ : Fr F z x4_ := (State.dirtySend_frame _ _ (sub hu rfl) h3_)
            try clear_value x4_
            revert x4_
            refine fr_id ?_
            intro x4_ h4_
            exact (frA_next (fr_foldl (fun _ _ h5_ => (State.hamperSend_frame _ _ _ (sub hu rfl) h5_))
            h4_)))
          (frA_next hz))
        · exact (frA_next hz))
    · exact (frA_next hz))

theorem State.joinBegin_frame {F : Place → Bool} {z : State} (s : State)
    (hu : Al F [.ban, .regs]) (hz : Fr F z s) :
    Fr F z (State.joinBegin s) := by
  unfold State.joinBegin
  extract_lets +onlyGivenNames x0_
  have h0_ : Fr F z x0_ := (State.setJoin_frame _ _ (sub hu rfl) (State.setPhase_frame _ _ (sub hu rfl) hz))
  try clear_value x0_
  revert x0_
  refine fr_id ?_
  intro x0_ h0_
  extract_lets +onlyGivenNames x1_
  extract_lets +onlyGivenNames x2_
  have h2_ : Fr F z x2_ := (fr_ban h0_ (al hu rfl))
  try clear_value x2_
  revert x2_
  refine fr_id ?_
  intro x2_ h2_
  exact (State.joinAsk_frame _ (sub hu rfl) h2_)

theorem State.applyQueues_frame {F : Place → Bool} {z : State} (s : State) (b : List Byte)
    (hu : Al F [.rx, .posted, .pgn, .regs, .mem]) (hz : Fr F z s) :
    Fr F z (State.applyQueues s b).1 := by
  unfold State.applyQueues
  extract_lets +onlyGivenNames x0_
  extract_lets +onlyGivenNames x1_
  extract_lets +onlyGivenNames x2_
  have h2_ : Fr F z x2_ := (fr_foldl (fun _ _ h3_ => (fr_ite (by
    extract_lets +onlyGivenNames x4_
    have h4_ : Fr F z x4_ := (State.setBytes_frame _ _ _ (sub hu rfl) (State.setWords_frame _ _ _ (sub hu rfl) h3_))
    try clear_value x4_
    revert x4_
    refine fr_id ?_
    intro x4_ h4_
    extract_lets +onlyGivenNames x5_
    have h5_ : Fr F z x5_ := (State.setRxCount_frame _ _ _ (sub hu rfl) h4_)
    try clear_value x5_
    revert x5_
    refine fr_id ?_
    intro x5_ h5_
    exact (fr_posted h5_ (al hu rfl)))
  h3_))
  hz)
  try clear_value x2_
  revert x2_
  refine fr_id ?_
  intro x2_ h2_
  extract_lets +onlyGivenNames x6_
  have h6_ : Fr F z x6_ := (fr_foldl (fun _ _ h7_ => (fr_ite (by
    extract_lets +onlyGivenNames x8_
    exact (State.setChan_frame _ _ _ (sub hu rfl) (State.setWords_frame _ _ _ (sub hu rfl) h7_)))
  h7_))
  h2_)
  try clear_value x6_
  revert x6_
  refine fr_id ?_
  intro x6_ h6_
  exact h6_

theorem State.dirtyRound_frame {F : Place → Bool} {z : State} (s : State) (j : Join)
    (hu : Al F [.ban, .regs]) (hz : Fr F z s) :
    Fr F z (State.dirtyRound s j) := by
  unfold State.dirtyRound
  extract_lets +onlyGivenNames x0_
  extract_lets +onlyGivenNames x1_
  exact (State.wr_frame _ _ _ (sub hu rfl) (State.dirtySend_frame _ _ (sub hu rfl) hz))

theorem State.joinedTake_frame {F : Place → Bool} {z : State} (s : State)
    (hu : Al F [.ban, .regs, .can, .anx]) (hz : Fr F z s) :
    Fr F z (State.joinedTake s) := by
  unfold State.joinedTake
  exact (by
    split
    · exact (fr_ite (by
        extract_lets +onlyGivenNames x0_
        extract_lets +onlyGivenNames x1_
        extract_lets +onlyGivenNames x2_
        have h2_ : Fr F z x2_ := (fr_ban hz (al hu rfl))
        try clear_value x2_
        revert x2_
        refine fr_id ?_
        intro x2_ h2_
        extract_lets +onlyGivenNames x3_
        have h3_ : Fr F z x3_ := (State.setPeerRole_frame _ _ (sub hu rfl) (State.wr_frame _ _ _ (sub hu rfl) (State.setPhase_frame _ _ (sub hu rfl) h2_)))
        try clear_value x3_
        revert x3_
        refine fr_id ?_
        intro x3_ h3_
        exact (State.sendRole_frame _ (sub hu rfl) (State.setRole_frame _ _ (sub hu rfl) h3_)))
      hz)
    · exact hz)

theorem State.topupAt_frame {F : Place → Bool} {z : State} (s : State) (at_ : Nat) (b : List Byte)
    (hu : Al F [.axes, .lp, .regs, .slv, .gates, .frc]) (hz : Fr F z s) :
    Fr F z (State.topupAt s at_ b) := by
  unfold State.topupAt
  extract_lets +onlyGivenNames x0_
  have h0_ : Fr F z x0_.1 := (State.applyTopup_frame _ _ (sub hu rfl) (fr_frc hz (al hu rfl)))
  try clear_value x0_
  revert x0_
  refine fr_id ?_
  intro x0_ h0_
  exact (State.applySlots_frame _ _ (sub hu rfl) (by
    extract_lets +onlyGivenNames x1_
    have h1_ : Fr F z x1_ := h0_
    try clear_value x1_
    revert x1_
    refine fr_id ?_
    intro x1_ h1_
    exact (fr_frc h1_ (al hu rfl))))

theorem execHamperSend_frame {F : Place → Bool} {z : State} (s : State)
    (hu : Al F [.ban, .regs]) (hz : Fr F z s) :
    FrA F z (execHamperSend s) := by
  unfold execHamperSend
  exact (by
    split
    · exact (fr_iteA (frA_next hz)
      (by
        split
        · exact (frA_next (State.hamperSend_frame _ _ _ (sub hu rfl) (State.setJoin_frame _ _ (sub hu rfl) hz)))
        · exact (frA_next (fr_ite (State.dirtyRound_frame _ _ (sub hu rfl) hz)
          hz))))
    · exact (frA_next hz))

theorem State.readyTake_frame {F : Place → Bool} {z : State} (s : State) (resets : Nat) (discarded : Nat)
    (hu : Al F [.ban, .gb, .regs, .gates]) (hz : Fr F z s) :
    Fr F z (State.readyTake s resets discarded) := by
  unfold State.readyTake
  exact (by
    split
    · exact (fr_ite (by
        extract_lets +onlyGivenNames x0_
        extract_lets +onlyGivenNames x1_
        have h1_ : Fr F z x1_ := (State.setJoin_frame _ _ (sub hu rfl) hz)
        try clear_value x1_
        revert x1_
        refine fr_id ?_
        intro x1_ h1_
        extract_lets +onlyGivenNames x2_
        extract_lets +onlyGivenNames x3_
        have h3_ : Fr F z x3_ := (State.post_frame _ _ _ _ _ _ (sub hu rfl) h1_)
        try clear_value x3_
        revert x3_
        refine fr_id ?_
        intro x3_ h3_
        extract_lets +onlyGivenNames x4_
        have h4_ : Fr F z x4_ := (State.wr_frame _ _ _ (sub hu rfl) (State.wr_frame _ _ _ (sub hu rfl) (State.wr_frame _ _ _ (sub hu rfl) h3_)))
        try clear_value x4_
        revert x4_
        refine fr_id ?_
        intro x4_ h4_
        extract_lets +onlyGivenNames x5_
        have h5_ : Fr F z x5_ := (State.bump_frame _ _ (sub hu rfl) h4_)
        try clear_value x5_
        revert x5_
        refine fr_id ?_
        intro x5_ h5_
        exact (fr_ban h5_ (al hu rfl)))
      hz)
    · exact hz)

theorem State.topupTake_frame {F : Place → Bool} {z : State} (s : State) (sent : Nat) (b : List Byte)
    (hu : Al F [.ban, .axes, .lp, .regs, .slv, .gates, .frc]) (hz : Fr F z s) :
    Fr F z (State.topupTake s sent b) := by
  unfold State.topupTake
  exact (by
    split
    · extract_lets +onlyGivenNames x0_
      exact (fr_ite hz
      (fr_ite (State.topupAt_frame _ _ _ (sub hu rfl) hz)
      (State.setJoin_frame _ _ (sub hu rfl) hz)))
    · exact hz)

theorem State.swapMap_frame {F : Place → Bool} {z : State} (s : State) (j : Join)
    (hu : Al F [.ban, .rx, .posted, .scn, .gb, .lp, .pgn, .regs, .mem, .gates]) (hz : Fr F z s) :
    Fr F z (State.swapMap s j).1 := by
  unfold State.swapMap
  extract_lets +onlyGivenNames x0_
  extract_lets +onlyGivenNames x1_
  extract_lets +onlyGivenNames x2_
  extract_lets +onlyGivenNames x3_
  have h3_ : Fr F z x3_ := (fr_foldl (fun _ _ h4_ => (State.post_frame _ _ _ _ _ _ (sub hu rfl) h4_))
  hz)
  try clear_value x3_
  revert x3_
  refine fr_id ?_
  intro x3_ h3_
  extract_lets +onlyGivenNames x5_
  have h5_ : Fr F z x5_ := (State.mapInsts_frame _ _ (sub hu rfl) h3_)
  try clear_value x5_
  revert x5_
  refine fr_id ?_
  intro x5_ h5_
  extract_lets +onlyGivenNames x6_
  have h6_ : Fr F z x6_ := (State.applyLoops_frame _ _ (sub hu rfl) (State.forcesSettle_frame _ (sub hu rfl) (State.applyForces_frame _ _ (sub hu rfl) h5_)))
  try clear_value x6_
  revert x6_
  refine fr_id ?_
  intro x6_ h6_
  extract_lets +onlyGivenNames x7_
  have h7_ : Fr F z x7_.1 := (State.applyQueues_frame _ _ (sub hu rfl) h6_)
  try clear_value x7_
  revert x7_
  refine fr_id ?_
  intro x7_ h7_
  extract_lets +onlyGivenNames x8_
  extract_lets +onlyGivenNames x9_
  have h9_ : Fr F z x9_ := (State.applyBlock_frame _ _ (sub hu rfl) h7_)
  try clear_value x9_
  revert x9_
  refine fr_id ?_
  intro x9_ h9_
  extract_lets +onlyGivenNames x10_
  have h10_ : Fr F z x10_ := (State.wr_frame _ _ _ (sub hu rfl) (State.takeMode_frame _ _ (sub hu rfl) h9_))
  try clear_value x10_
  revert x10_
  refine fr_id ?_
  intro x10_ h10_
  extract_lets +onlyGivenNames x11_
  have h11_ : Fr F z x11_ := (fr_foldl (fun _ _ h12_ => (fr_ite (State.putTask_frame _ _ (sub hu rfl) h12_)
  h12_))
  h10_)
  try clear_value x11_
  revert x11_
  refine fr_id ?_
  intro x11_ h11_
  extract_lets +onlyGivenNames x13_
  extract_lets +onlyGivenNames x14_
  extract_lets +onlyGivenNames x15_
  have h15_ : Fr F z x15_ := (by
    intro p hp
    cases p
    case ban => exact fr_no (al hu rfl) hp
    case scn => exact fr_no (al hu rfl) hp
    all_goals exact fr_eq (h11_ _ hp) rfl)
  try clear_value x15_
  revert x15_
  refine fr_id ?_
  intro x15_ h15_
  exact h15_

theorem execJoinStart_frame {F : Place → Bool} {z : State} (s : State)
    (hu : Al F [.ban, .regs]) (hz : Fr F z s) :
    FrA F z (execJoinStart s) := by
  unfold execJoinStart
  exact (fr_iteA (frA_next (State.joinBegin_frame _ (sub hu rfl) (fr_ban hz (al hu rfl))))
  (frA_next hz))

theorem State.applyTasks_frame {F : Place → Bool} {z : State} (s : State) (b : List Byte)
    (hu : Al F [.ban, .scn, .gb, .regs, .gates]) (hz : Fr F z s) :
    Fr F z (State.applyTasks s b) := by
  unfold State.applyTasks
  extract_lets +onlyGivenNames x0_
  extract_lets +onlyGivenNames x1_
  have h1_ : Fr F z x1_ := (State.wr_frame _ _ _ (sub hu rfl) (State.takeMode_frame _ _ (sub hu rfl) hz))
  try clear_value x1_
  revert x1_
  refine fr_id ?_
  intro x1_ h1_
  extract_lets +onlyGivenNames x2_
  have h2_ : Fr F z x2_ := (fr_foldl (fun _ _ h3_ => (State.putTask_frame _ _ (sub hu rfl) h3_))
  h1_)
  try clear_value x2_
  revert x2_
  refine fr_id ?_
  intro x2_ h2_
  extract_lets +onlyGivenNames x4_
  extract_lets +onlyGivenNames x5_
  extract_lets +onlyGivenNames x6_
  have h6_ : Fr F z x6_ := (by
    intro p hp
    cases p
    case ban => exact fr_no (al hu rfl) hp
    case scn => exact fr_no (al hu rfl) hp
    all_goals exact fr_eq (h2_ _ hp) rfl)
  try clear_value x6_
  revert x6_
  refine fr_id ?_
  intro x6_ h6_
  exact (by
    split
    · exact (State.setJoin_frame _ _ (sub hu rfl) h6_)
    · exact h6_)

theorem execJoinRetry_frame {F : Place → Bool} {z : State} (s : State)
    (hu : Al F [.ban, .regs, .frc]) (hz : Fr F z s) :
    FrA F z (execJoinRetry s) := by
  unfold execJoinRetry
  exact (by
    split
    · exact (fr_iteA (by
        extract_lets +onlyGivenNames x0_
        have h0_ : Fr F z x0_ := (fr_frc hz (al hu rfl))
        try clear_value x0_
        revert x0_
        refine fr_id ?_
        intro x0_ h0_
        exact (frA_next (State.joinAsk_frame _ (sub hu rfl) (State.setJoin_frame _ _ (sub hu rfl) h0_))))
      (frA_next hz))
    · exact (fr_iteA (frA_next (State.joinBegin_frame _ (sub hu rfl) (fr_frc hz (al hu rfl))))
      (frA_next hz)))

theorem State.hamperAckTake_frame {F : Place → Bool} {z : State} (s : State) (kind : Nat) (index : Nat) (good : Bool)
    (hu : Al F [.ban, .scn, .gb, .regs, .gates]) (hz : Fr F z s) :
    Fr F z (State.hamperAckTake s kind index good) := by
  unfold State.hamperAckTake
  exact (by
    split
    · exact (fr_ite hz
      (fr_ite (State.joinEnd_frame _ _ (sub hu rfl) hz)
      (by
        extract_lets +onlyGivenNames x0_
        extract_lets +onlyGivenNames x1_
        have h1_ : Fr F z x1_ := (State.setJoin_frame _ _ (sub hu rfl) hz)
        try clear_value x1_
        revert x1_
        refine fr_id ?_
        intro x1_ h1_
        exact (fr_ite (State.setPhase_frame _ _ (sub hu rfl) h1_)
        h1_))))
    · exact hz)

theorem State.applySec_frame {F : Place → Bool} {z : State} (s : State) (x : HamperSec)
    (hu : Al F [.ban, .rx, .posted, .scn, .gb, .fpl, .lp, .pgn, .regs, .mem, .gates]) (hz : Fr F z s) :
    Fr F z (State.applySec s x) := by
  unfold State.applySec
  exact (by
    split
    · extract_lets +onlyGivenNames x0_
      extract_lets +onlyGivenNames x1_
      have h1_ : Fr F z x1_ := (State.softDigShow_frame _ (sub hu rfl) (fr_fpl hz (al hu rfl)))
      try clear_value x1_
      revert x1_
      refine fr_id ?_
      intro x1_ h1_
      exact (State.gbFillBuckets_frame _ (sub hu rfl) h1_)
    · exact (State.applyForces_frame _ _ (sub hu rfl) hz)
    · exact (State.applyTasks_frame _ _ (sub hu rfl) hz)
    · exact (State.applyTask_frame _ _ _ (sub hu rfl) hz)
    · exact (State.applyLoops_frame _ _ (sub hu rfl) hz)
    · exact (State.applyQueues_frame _ _ (sub hu rfl) hz)
    · exact (State.applyBlock_frame _ _ (sub hu rfl) hz)
    · exact hz)

theorem execJoinRequestResend_frame {F : Place → Bool} {z : State} (s : State)
    (hu : Al F [.ban, .scn, .gb, .regs, .gates, .frc]) (hz : Fr F z s) :
    FrA F z (execJoinRequestResend s) := by
  unfold execJoinRequestResend
  exact (by
    split
    · exact (fr_iteA (frA_next hz)
      (fr_iteA (frA_next (State.joinEnd_frame _ _ (sub hu rfl) (State.setJoin_frame _ _ (sub hu rfl) hz)))
      (frA_next (State.joinAsk_frame _ (sub hu rfl) (State.setJoin_frame _ _ (sub hu rfl) (fr_frc hz (al hu rfl)))))))
    · exact (frA_next hz))

theorem State.swapReady_frame {F : Place → Bool} {z : State} (s : State)
    (hu : Al F [.ban, .rx, .posted, .scn, .gb, .lp, .pgn, .regs, .mem, .gates]) (hz : Fr F z s) :
    Fr F z (State.swapReady s) := by
  unfold State.swapReady
  exact (by
    split
    · exact (fr_ite (by
        extract_lets +onlyGivenNames x0_
        have h0_ : Fr F z x0_.1 := (State.swapMap_frame _ _ (sub hu rfl) hz)
        try clear_value x0_
        revert x0_
        refine fr_id ?_
        intro x0_ h0_
        extract_lets +onlyGivenNames x1_
        have h1_ : Fr F z x1_ := (State.banSend_frame _ _ _ (sub hu rfl) h0_)
        try clear_value x1_
        revert x1_
        refine fr_id ?_
        intro x1_ h1_
        extract_lets +onlyGivenNames x2_
        have h2_ : Fr F z x2_ := (State.wr_frame _ _ _ (sub hu rfl) (State.wr_frame _ _ _ (sub hu rfl) (State.wr_frame _ _ _ (sub hu rfl) h1_)))
        try clear_value x2_
        revert x2_
        refine fr_id ?_
        intro x2_ h2_
        extract_lets +onlyGivenNames x3_
        have h3_ : Fr F z x3_ := (State.bump_frame _ _ (sub hu rfl) h2_)
        try clear_value x3_
        revert x3_
        refine fr_id ?_
        intro x3_ h3_
        extract_lets +onlyGivenNames x4_
        extract_lets +onlyGivenNames x5_
        have h5_ : Fr F z x5_ := (State.banSend_frame _ _ _ (sub hu rfl) h3_)
        try clear_value x5_
        revert x5_
        refine fr_id ?_
        intro x5_ h5_
        exact (fr_ban h5_ (al hu rfl)))
      hz)
    · exact hz)

theorem State.hamperDone_frame {F : Place → Bool} {z : State} (s : State)
    (hu : Al F [.ban, .rx, .posted, .scn, .gb, .fpl, .lp, .pgn, .regs, .mem, .gates]) (hz : Fr F z s) :
    Fr F z (State.hamperDone s) := by
  unfold State.hamperDone
  exact (by
    split
    · exact (fr_ite hz
      (fr_ite (State.post_frame _ _ _ _ _ _ (sub hu rfl) (State.setPhase_frame _ _ (sub hu rfl) hz))
      (by
        extract_lets +onlyGivenNames x0_
        exact (State.setPhase_frame _ _ (sub hu rfl) (fr_foldl (fun _ _ h1_ => (State.applySec_frame _ _ (sub hu rfl) h1_))
        hz)))))
    · exact hz)

theorem State.joinCmdWrite_frame {F : Place → Bool} {z : State} (s : State) (v : Nat) (differ : Nat)
    (hu : Al F [.ban, .scn, .gb, .regs, .gates]) (hz : Fr F z s) :
    Fr F z (State.joinCmdWrite s v differ) := by
  unfold State.joinCmdWrite
  extract_lets +onlyGivenNames x0_
  exact (fr_ite hz
  (fr_ite (fr_ite (State.wr_frame _ _ _ (sub hu rfl) (State.joinBegin_frame _ (sub hu rfl) (fr_ban hz (al hu rfl))))
  (State.wr_frame _ _ _ (sub hu rfl) hz))
  (fr_ite (fr_ite (State.wr_frame _ _ _ (sub hu rfl) hz)
  (fr_ite (State.wr_frame _ _ _ (sub hu rfl) hz)
  (by
    extract_lets +onlyGivenNames x1_
    have h1_ : Fr F z x1_ := (State.wr_frame _ _ _ (sub hu rfl) (State.wr_frame _ _ _ (sub hu rfl) hz))
    try clear_value x1_
    revert x1_
    refine fr_id ?_
    intro x1_ h1_
    exact (fr_ban h1_ (al hu rfl)))))
  (fr_ite (by
    extract_lets +onlyGivenNames x2_
    extract_lets +onlyGivenNames x3_
    have h3_ : Fr F z x3_ := (State.wr_frame _ _ _ (sub hu rfl) hz)
    try clear_value x3_
    revert x3_
    refine fr_id ?_
    intro x3_ h3_
    exact (fr_ite (State.post_frame _ _ _ _ _ _ (sub hu rfl) h3_)
    (by
      split
      · exact (State.banSend_frame _ _ _ (sub hu rfl) (State.setJoin_frame _ _ (sub hu rfl) h3_))
      · exact h3_)))
  (fr_ite (by
    extract_lets +onlyGivenNames x4_
    have h4_ : Fr F z x4_ := (State.wr_frame _ _ _ (sub hu rfl) hz)
    try clear_value x4_
    revert x4_
    refine fr_id ?_
    intro x4_ h4_
    extract_lets +onlyGivenNames x5_
    have h5_ : Fr F z x5_ := by
      subst x5_
      exact (by
        split
        · exact (fr_ite (State.joinAbort_frame _ (sub hu rfl) h4_)
          h4_)
        · exact h4_)
    try clear_value x5_
    revert x5_
    refine fr_id ?_
    intro x5_ h5_
    exact (State.wr_frame _ _ _ (sub hu rfl) h5_))
  hz)))))

theorem State.joinAnswerTake_frame {F : Place → Bool} {z : State} (s : State) (reason : Nat) (upgrade : Bool) (caps : Nat) (l : Option Nat)
    (hu : Al F [.ban, .scn, .gb, .regs, .gates]) (hz : Fr F z s) :
    Fr F z (State.joinAnswerTake s reason upgrade caps l) := by
  unfold State.joinAnswerTake
  exact (by
    split
    · exact hz
    · exact (fr_ite hz
      (by
        extract_lets +onlyGivenNames x0_
        have h0_ : Fr F z x0_ := (State.hsDone_frame _ _ (sub hu rfl) hz)
        try clear_value x0_
        revert x0_
        refine fr_id ?_
        intro x0_ h0_
        exact (fr_ite (fr_ite (State.joinEnd_frame _ _ (sub hu rfl) h0_)
        h0_)
        (fr_ite (State.joinFailed_frame _ _ (sub hu rfl) (State.post_frame _ _ _ _ _ _ (sub hu rfl) h0_))
        (by
          split
          · extract_lets +onlyGivenNames x1_
            have h1_ : Fr F z x1_ := (State.setJoin_frame _ _ (sub hu rfl) h0_)
            try clear_value x1_
            revert x1_
            refine fr_id ?_
            intro x1_ h1_
            exact (fr_ban h1_ (al hu rfl))
          · extract_lets +onlyGivenNames x2_
            have h2_ : Fr F z x2_ := (State.wr_frame _ _ _ (sub hu rfl) (State.setPhase_frame _ _ (sub hu rfl) h0_))
            try clear_value x2_
            revert x2_
            refine fr_id ?_
            intro x2_ h2_
            exact (State.setJoin_frame _ _ (sub hu rfl) h2_)))))))

theorem execBanSwap_frame {F : Place → Bool} {z : State} (m : Master) (differ : BitVec 8) (s : State)
    (hu : Al F [.ban, .scn, .gb, .regs, .resp, .gates]) (hz : Fr F z s) :
    FrA F z (execBanSwap m differ s) := by
  unfold execBanSwap
  exact (frA_next (State.access_frame _ _ _ _ _ _ (sub hu rfl) hz (fun _ h0_ => (State.joinCmdWrite_frame _ _ _ (sub hu rfl) h0_))))

theorem State.hamperTake_frame {F : Place → Bool} {z : State} (s : State) (sent : Nat) (k : Nat) (i : Nat) (offset : Nat) (total : Nat) (last : Bool) (data : List Byte)
    (hu : Al F [.ban, .rx, .posted, .scn, .gb, .fpl, .lp, .pgn, .regs, .mem, .gates]) (hz : Fr F z s) :
    Fr F z (State.hamperTake s sent k i offset total last data) := by
  unfold State.hamperTake
  exact (by
    split
    · exact hz
    · exact (fr_ite hz
      (by
        extract_lets +onlyGivenNames x0_
        exact (fr_ite (State.setJoin_frame _ _ (sub hu rfl) hz)
        (by
          extract_lets +onlyGivenNames x1_
          extract_lets +onlyGivenNames x2_
          extract_lets +onlyGivenNames x3_
          extract_lets +onlyGivenNames x4_
          have h4_ : Fr F z x4_ := (State.banSend_frame _ _ _ (sub hu rfl) hz)
          try clear_value x4_
          revert x4_
          refine fr_id ?_
          intro x4_ h4_
          exact (fr_ite (State.joinEnd_frame _ _ (sub hu rfl) (State.setJoin_frame _ _ (sub hu rfl) h4_))
          (by
            extract_lets +onlyGivenNames x5_
            extract_lets +onlyGivenNames x6_
            extract_lets +onlyGivenNames x7_
            extract_lets +onlyGivenNames x8_
            extract_lets +onlyGivenNames x9_
            have h9_ : Fr F z x9_ := (State.wr_frame _ _ _ (sub hu rfl) (State.setJoin_frame _ _ (sub hu rfl) h4_))
            try clear_value x9_
            revert x9_
            refine fr_id ?_
            intro x9_ h9_
            exact (State.swapReady_frame _ (sub hu rfl) (State.hamperDone_frame _ (sub hu rfl) h9_)))))))))

theorem execBanJoin_frame {F : Place → Bool} {z : State} (m : Master) (s : State)
    (hu : Al F [.ban, .scn, .gb, .regs, .resp, .gates]) (hz : Fr F z s) :
    FrA F z (execBanJoin m s) := by
  unfold execBanJoin
  exact (frA_next (State.access_frame _ _ _ _ _ _ (sub hu rfl) hz (fun _ h0_ => (State.joinCmdWrite_frame _ _ _ (sub hu rfl) h0_))))

theorem execUpgradeAdmit_frame {F : Place → Bool} {z : State} (m : Master) (s : State)
    (hu : Al F [.ban, .scn, .gb, .regs, .resp, .gates]) (hz : Fr F z s) :
    FrA F z (execUpgradeAdmit m s) := by
  unfold execUpgradeAdmit
  exact (frA_next (State.access_frame _ _ _ _ _ _ (sub hu rfl) hz (fun _ h0_ => (State.joinCmdWrite_frame _ _ _ (sub hu rfl) h0_))))

theorem execAbandonUpgrade_frame {F : Place → Bool} {z : State} (m : Master) (s : State)
    (hu : Al F [.ban, .scn, .gb, .regs, .resp, .gates]) (hz : Fr F z s) :
    FrA F z (execAbandonUpgrade m s) := by
  unfold execAbandonUpgrade
  exact (frA_next (State.access_frame _ _ _ _ _ _ (sub hu rfl) hz (fun _ h0_ => (State.joinCmdWrite_frame _ _ _ (sub hu rfl) h0_))))

end Sys2Proof.Machine
end

