-- ==== Sys2Proof/Laws/FrameKeys.lean ====
section
/-!
SUPPORT. What the operations of Machine/Keys.lean may change (Laws/Frames.lean).
-/
namespace Sys2Proof.Machine

theorem execUsbSessionOpen_frame {F : Place → Bool} {z : State} (s : State)
    (hu : Al F [.usb]) (hz : Fr F z s) :
    FrA F z (execUsbSessionOpen s) := by
  unfold execUsbSessionOpen
  exact (frA_next (fr_ite (fr_usb hz (al hu rfl))
  hz))

theorem State.keyStep_frame {F : Place → Bool} {z : State} (s : State) (by_ : Int)
    (hu : Al F [.key, .regs, .nb]) (hz : Fr F z s) :
    Fr F z (State.keyStep s by_) := by
  unfold State.keyStep
  exact (by
    split
    · exact hz
    · extract_lets +onlyGivenNames x0_
      extract_lets +onlyGivenNames x1_
      extract_lets +onlyGivenNames x2_
      extract_lets +onlyGivenNames x3_
      have h3_ : Fr F z x3_ := (fr_key hz (al hu rfl))
      try clear_value x3_
      revert x3_
      refine fr_id ?_
      intro x3_ h3_
      extract_lets +onlyGivenNames x4_
      exact (fr_ite (by
        extract_lets +onlyGivenNames x5_
        have h5_ : Fr F z x5_ := (State.wr_frame _ _ _ (sub hu rfl) h3_)
        try clear_value x5_
        revert x5_
        refine fr_id ?_
        intro x5_ h5_
        exact (fr_nb h5_ (al hu rfl)))
      h3_))

theorem State.keySet_frame {F : Place → Bool} {z : State} (s : State) (y : KeySession) (open_ : Bool)
    (hu : Al F [.key, .regs, .nb]) (hz : Fr F z s) :
    Fr F z (State.keySet s y open_) := by
  unfold State.keySet
  extract_lets +onlyGivenNames x0_
  have h0_ : Fr F z x0_ := (State.wrB_frame _ _ _ (sub hu rfl) hz)
  try clear_value x0_
  revert x0_
  refine fr_id ?_
  intro x0_ h0_
  exact (by
    intro p hp
    cases p
    case nb => exact fr_no (al hu rfl) hp
    case key => exact fr_no (al hu rfl) hp
    all_goals exact fr_eq (h0_ _ hp) rfl)

theorem execKeyDown_frame {F : Place → Bool} {z : State} (s : State)
    (hu : Al F [.key, .regs, .nb]) (hz : Fr F z s) :
    FrA F z (execKeyDown s) := by
  unfold execKeyDown
  exact (frA_next (State.keyStep_frame _ _ (sub hu rfl) hz))

theorem execKeyUp_frame {F : Place → Bool} {z : State} (s : State)
    (hu : Al F [.key, .regs, .nb]) (hz : Fr F z s) :
    FrA F z (execKeyUp s) := by
  unfold execKeyUp
  exact (frA_next (State.keyStep_frame _ _ (sub hu rfl) hz))

theorem State.keyRestore_frame {F : Place → Bool} {z : State} (s : State)
    (hu : Al F [.key, .regs, .nb]) (hz : Fr F z s) :
    Fr F z (State.keyRestore s) := by
  unfold State.keyRestore
  exact (by
    split
    · exact (State.keySet_frame _ _ _ (sub hu rfl) (State.wr_frame _ _ _ (sub hu rfl) hz))
    · exact hz)

theorem execKeySessionTimeout_frame {F : Place → Bool} {z : State} (s : State)
    (hu : Al F [.key, .regs, .nb, .frc]) (hz : Fr F z s) :
    FrA F z (execKeySessionTimeout s) := by
  unfold execKeySessionTimeout
  exact (by
    split
    · exact (frA_next (State.keyRestore_frame _ (sub hu rfl) (fr_frc hz (al hu rfl))))
    · exact (frA_next hz))

theorem execKeyswitchChange_frame {F : Place → Bool} {z : State} (control : Bool) (safety : Bool) (s : State)
    (hu : Al F [.key, .keyMaint, .regs, .usb, .nb, .saf]) (hz : Fr F z s) :
    FrA F z (execKeyswitchChange control safety s) := by
  unfold execKeyswitchChange
  extract_lets +onlyGivenNames x0_
  have h0_ : Fr F z x0_ := (by
    intro p hp
    cases p
    case usb => exact fr_no (al hu rfl) hp
    case keyMaint => exact fr_no (al hu rfl) hp
    all_goals exact fr_eq (hz _ hp) rfl)
  try clear_value x0_
  revert x0_
  refine fr_id ?_
  intro x0_ h0_
  extract_lets +onlyGivenNames x1_
  have h1_ : Fr F z x1_ := (fr_ite h0_
  (State.keyRestore_frame _ (sub hu rfl) h0_))
  try clear_value x1_
  revert x1_
  refine fr_id ?_
  intro x1_ h1_
  extract_lets +onlyGivenNames x2_
  have h2_ : Fr F z x2_ := (fr_ite (State.wrB_frame _ _ _ (sub hu rfl) h1_)
  h1_)
  try clear_value x2_
  revert x2_
  refine fr_id ?_
  intro x2_ h2_
  extract_lets +onlyGivenNames x3_
  extract_lets +onlyGivenNames x4_
  have h4_ : Fr F z x4_ := (fr_saf h2_ (al hu rfl))
  try clear_value x4_
  revert x4_
  refine fr_id ?_
  intro x4_ h4_
  exact (frA_next (fr_ite (State.permitUpdate_frame _ (sub hu rfl) h4_)
  h4_))

theorem execKeyEsc_frame {F : Place → Bool} {z : State} (s : State)
    (hu : Al F [.key, .regs, .nb]) (hz : Fr F z s) :
    FrA F z (execKeyEsc s) := by
  unfold execKeyEsc
  exact (frA_next (State.keyRestore_frame _ (sub hu rfl) hz))

theorem execKeyMenu_frame {F : Place → Bool} {z : State} (k : Fin 8) (c : Fin 8) (span : Bool) (s : State)
    (hu : Al F [.key, .keyRefused, .gb, .regs, .gates, .nb]) (hz : Fr F z s) :
    FrA F z (execKeyMenu k c span s) := by
  unfold execKeyMenu
  extract_lets +onlyGivenNames x0_
  exact (fr_iteA (frA_next hz)
  (fr_iteA (frA_next (State.post_frame _ _ _ _ _ _ (sub hu rfl) (fr_keyRefused hz (al hu rfl))))
  (fr_iteA (frA_next (State.post_frame _ _ _ _ _ _ (sub hu rfl) (fr_keyRefused hz (al hu rfl))))
  (fr_iteA (frA_next (State.post_frame _ _ _ _ _ _ (sub hu rfl) (fr_keyRefused hz (al hu rfl))))
  (frA_next (State.keySet_frame _ _ _ (sub hu rfl) hz))))))

theorem execKeyEnter_frame {F : Place → Bool} {z : State} (s : State)
    (hu : Al F [.key, .gb, .regs, .gates, .nb]) (hz : Fr F z s) :
    FrA F z (execKeyEnter s) := by
  unfold execKeyEnter
  exact (by
    split
    · exact (frA_next (State.post_frame _ _ _ _ _ _ (sub hu rfl) (State.keySet_frame _ _ _ (sub hu rfl) hz)))
    · exact (frA_next hz))

end Sys2Proof.Machine
end

