-- ==== Sys2Proof/Laws/FramePower.lean ====
section
/-!
SUPPORT. What the operations of Machine/Power.lean may change (Laws/Frames.lean).
-/
namespace Sys2Proof.Machine

theorem Answer.getD_frame {F : Place → Bool} {z : State} (a : Answer) (s : State) 
    (hu : Al F []) (ha : FrA F z a) (hz : Fr F z s) :
    Fr F z (Answer.getD a s) := by
  unfold Answer.getD
  split
  · exact ha _ rfl
  · exact hz

theorem execShutdownOutputsOff_frame {F : Place → Bool} {z : State} (s : State)
    (hu : Al F [.power, .frc]) (hz : Fr F z s) :
    FrA F z (execShutdownOutputsOff s) := by
  unfold execShutdownOutputsOff
  exact (fr_iteA (by
    extract_lets +onlyGivenNames x0_
    have h0_ : Fr F z x0_ := (fr_frc hz (al hu rfl))
    try clear_value x0_
    revert x0_
    refine fr_id ?_
    intro x0_ h0_
    exact (frA_next (fr_power h0_ (al hu rfl))))
  (frA_next hz))

theorem State.gbDrain_frame {F : Place → Bool} {z : State} (s : State) (n : Nat) 
    (hu : Al F [.gb, .regs, .frc]) (hz : Fr F z s) : Fr F z (State.gbDrain s n) := by
  induction n generalizing s with
  | zero => exact hz
  | succ n ih =>
    have h := Answer.getD_frame _ s (sub hu rfl) (execGbEvent_frame s (sub hu rfl) hz) hz
    exact ih _ (Answer.getD_frame _ _ (sub hu rfl) (execGbRecordWrite_frame false _ (sub hu rfl) h) h)

theorem State.regsReset_frame {F : Place → Bool} {z : State} (s : State) (keep : Nat → Bool)
    (hu : Al F [.regs]) (hz : Fr F z s) :
    Fr F z (State.regsReset s keep) := by
  unfold State.regsReset
  extract_lets +onlyGivenNames x0_
  extract_lets +onlyGivenNames x1_
  exact (fr_regs hz (al hu rfl))

theorem State.slvCap_frame {F : Place → Bool} {z : State} (s : State)
    (hu : Al F [.slv]) (hz : Fr F z s) :
    Fr F z (State.slvCap s) := by
  unfold State.slvCap
  exact (by
    split
    · exact (State.setReq_frame _ _ (sub hu rfl) hz)
    · exact hz)

theorem execBeaconSend_frame {F : Place → Bool} {z : State} (s : State)
    (hu : Al F [.ban, .power, .frc]) (hz : Fr F z s) :
    FrA F z (execBeaconSend s) := by
  unfold execBeaconSend
  exact (fr_iteA (by
    extract_lets +onlyGivenNames x0_
    extract_lets +onlyGivenNames x1_
    have h1_ : Fr F z x1_ := (fr_frc hz (al hu rfl))
    try clear_value x1_
    revert x1_
    refine fr_id ?_
    intro x1_ h1_
    extract_lets +onlyGivenNames x2_
    extract_lets +onlyGivenNames x3_
    have h3_ : Fr F z x3_ := (fr_power h1_ (al hu rfl))
    try clear_value x3_
    revert x3_
    refine fr_id ?_
    intro x3_ h3_
    exact (frA_next (State.banSend_frame _ _ _ (sub hu rfl) h3_)))
  (frA_next hz))

theorem State.storeCut_frame {F : Place → Bool} {z : State} (s : State)
    (hu : Al F [.regs]) (hz : Fr F z s) :
    Fr F z (State.storeCut s) := by
  unfold State.storeCut
  exact (by
    split
    · exact (State.wr_frame _ _ _ (sub hu rfl) (State.wr_frame _ _ _ (sub hu rfl) hz))
    · exact hz)

theorem State.safRailUp_frame {F : Place → Bool} {z : State} (s : State)
    (hu : Al F [.regs, .saf]) (hz : Fr F z s) :
    Fr F z (State.safRailUp s) := by
  unfold State.safRailUp
  extract_lets +onlyGivenNames x0_
  extract_lets +onlyGivenNames x1_
  extract_lets +onlyGivenNames x2_
  have h2_ : Fr F z x2_ := (State.safPowerOn_frame _ (sub hu rfl) (State.regsReset_frame _ _ (sub hu rfl) hz))
  try clear_value x2_
  revert x2_
  refine fr_id ?_
  intro x2_ h2_
  extract_lets +onlyGivenNames x3_
  have h3_ : Fr F z x3_ := (State.wr_frame _ _ _ (sub hu rfl) (State.wr_frame _ _ _ (sub hu rfl) (State.wrB_frame _ _ _ (sub hu rfl) h2_)))
  try clear_value x3_
  revert x3_
  refine fr_id ?_
  intro x3_ h3_
  exact (State.wr_frame _ _ _ (sub hu rfl) h3_)

theorem State.opTimeKeep_frame {F : Place → Bool} {z : State} (s : State) (ns : Nat)
    (hu : Al F [.power, .regs]) (hz : Fr F z s) :
    Fr F z (State.opTimeKeep s ns) := by
  unfold State.opTimeKeep
  extract_lets +onlyGivenNames x0_
  extract_lets +onlyGivenNames x1_
  have h1_ : Fr F z x1_ := (State.wr64_frame _ _ _ _ (sub hu rfl) hz)
  try clear_value x1_
  revert x1_
  refine fr_id ?_
  intro x1_ h1_
  exact (fr_power h1_ (al hu rfl))

theorem State.porterOn_frame {F : Place → Bool} {z : State} (s : State) (off : Nat)
    (hu : Al F [.power, .regs]) (hz : Fr F z s) :
    Fr F z (State.porterOn s off) := by
  unfold State.porterOn
  extract_lets +onlyGivenNames x0_
  have h0_ : Fr F z x0_ := (State.wr_frame _ _ _ (sub hu rfl) (State.wr64_frame _ _ _ _ (sub hu rfl) hz))
  try clear_value x0_
  revert x0_
  refine fr_id ?_
  intro x0_ h0_
  extract_lets +onlyGivenNames x1_
  have h1_ : Fr F z x1_ := (State.wr_frame _ _ _ (sub hu rfl) h0_)
  try clear_value x1_
  revert x1_
  refine fr_id ?_
  intro x1_ h1_
  extract_lets +onlyGivenNames x2_
  extract_lets +onlyGivenNames x3_
  extract_lets +onlyGivenNames x4_
  extract_lets +onlyGivenNames x5_
  have h5_ : Fr F z x5_ := (State.wr_frame _ _ _ (sub hu rfl) (State.wr64_frame _ _ _ _ (sub hu rfl) hz))
  try clear_value x5_
  revert x5_
  refine fr_id ?_
  intro x5_ h5_
  extract_lets +onlyGivenNames x6_
  extract_lets +onlyGivenNames x7_
  have h7_ : Fr F z x7_ := (fr_ite (fr_power h1_ (al hu rfl))
  (fr_power h5_ (al hu rfl)))
  try clear_value x7_
  revert x7_
  refine fr_id ?_
  intro x7_ h7_
  exact (State.wr_frame _ _ _ (sub hu rfl) h7_)

theorem State.pwrMeasure_frame {F : Place → Bool} {z : State} (s : State) (x : PwrMeas)
    (hu : Al F [.regs]) (hz : Fr F z s) :
    Fr F z (State.pwrMeasure s x) := by
  unfold State.pwrMeasure
  extract_lets +onlyGivenNames x0_
  extract_lets +onlyGivenNames x1_
  have h1_ : Fr F z x1_ := (State.wr_frame _ _ _ (sub hu rfl) (State.wr_frame _ _ _ (sub hu rfl) hz))
  try clear_value x1_
  revert x1_
  refine fr_id ?_
  intro x1_ h1_
  exact (State.wr_frame _ _ _ (sub hu rfl) (State.wr_frame _ _ _ (sub hu rfl) h1_))

theorem State.fieldsReset_frame {F : Place → Bool} {z : State} (s : State)
    (hu : Al F [.regs]) (hz : Fr F z s) :
    Fr F z (State.fieldsReset s) := by
  unfold State.fieldsReset
  extract_lets +onlyGivenNames x0_
  have h0_ : Fr F z x0_ := (State.wr_frame _ _ _ (sub hu rfl) (State.wr_frame _ _ _ (sub hu rfl) (State.wr_frame _ _ _ (sub hu rfl) hz)))
  try clear_value x0_
  revert x0_
  refine fr_id ?_
  intro x0_ h0_
  extract_lets +onlyGivenNames x1_
  extract_lets +onlyGivenNames x2_
  have h2_ : Fr F z x2_ := (State.wrB_frame _ _ _ (sub hu rfl) (State.wr_frame _ _ _ (sub hu rfl) h0_))
  try clear_value x2_
  revert x2_
  refine fr_id ?_
  intro x2_ h2_
  exact (State.wr_frame _ _ _ (sub hu rfl) (State.wr_frame _ _ _ (sub hu rfl) (State.wr_frame _ _ _ (sub hu rfl) (State.wr_frame _ _ _ (sub hu rfl) h2_))))

theorem State.c2Start_frame {F : Place → Bool} {z : State} (s : State) (us : Nat)
    (hu : Al F [.tim, .regs]) (hz : Fr F z s) :
    Fr F z (State.c2Start s us) := by
  unfold State.c2Start
  extract_lets +onlyGivenNames x0_
  extract_lets +onlyGivenNames x1_
  extract_lets +onlyGivenNames x2_
  exact (State.wrB_frame _ _ _ (sub hu rfl) (fr_tim hz (al hu rfl)))

theorem State.controlOff_frame {F : Place → Bool} {z : State} (s : State)
    (hu : Al F [.key, .ban, .rio, .ser, .keyRefused, .rx, .posted, .firstLatch, .isl, .scn, .gb, .axes, .fpl, .tim, .lp, .pgn, .regs, .serEnd, .can, .eth, .usb, .slv, .resp, .mem, .gates, .nb, .maintAt, .saf, .latch, .frc, .heads, .anx, .staged, .rnd]) (hz : Fr F z s) :
    Fr F z (State.controlOff s) := by
  unfold State.controlOff
  extract_lets +onlyGivenNames x0_
  have h0_ : Fr F z x0_ := (State.keyRestore_frame _ (sub hu rfl) (State.storeCut_frame _ (sub hu rfl) hz))
  try clear_value x0_
  revert x0_
  refine fr_id ?_
  intro x0_ h0_
  extract_lets +onlyGivenNames x1_
  have h1_ : Fr F z x1_ := (State.fieldsReset_frame _ (sub hu rfl) (State.regsReset_frame _ _ (sub hu rfl) h0_))
  try clear_value x1_
  revert x1_
  refine fr_id ?_
  intro x1_ h1_
  exact (by
    intro p hp
    cases p
    case pgn => exact fr_no (al hu rfl) hp
    case firstLatch => exact fr_no (al hu rfl) hp
    case maintAt => exact fr_no (al hu rfl) hp
    case rx => exact fr_no (al hu rfl) hp
    case anx => exact fr_no (al hu rfl) hp
    case nb => exact fr_no (al hu rfl) hp
    case rnd => exact fr_no (al hu rfl) hp
    case ban => exact fr_no (al hu rfl) hp
    case scn => exact fr_no (al hu rfl) hp
    case posted => exact fr_no (al hu rfl) hp
    case slv => exact fr_no (al hu rfl) hp
    case lp => exact fr_no (al hu rfl) hp
    case axes => exact fr_no (al hu rfl) hp
    case saf => exact fr_no (al hu rfl) hp
    case keyRefused => exact fr_no (al hu rfl) hp
    case isl => exact fr_no (al hu rfl) hp
    case rio => exact fr_no (al hu rfl) hp
    case heads => exact fr_no (al hu rfl) hp
    case serEnd => exact fr_no (al hu rfl) hp
    case ser => exact fr_no (al hu rfl) hp
    case eth => exact fr_no (al hu rfl) hp
    case can => exact fr_no (al hu rfl) hp
    case tim => exact fr_no (al hu rfl) hp
    case fpl => exact fr_no (al hu rfl) hp
    case gb => exact fr_no (al hu rfl) hp
    case usb => exact fr_no (al hu rfl) hp
    case frc => exact fr_no (al hu rfl) hp
    case gates => exact fr_no (al hu rfl) hp
    case staged => exact fr_no (al hu rfl) hp
    case latch => exact fr_no (al hu rfl) hp
    case resp => exact fr_no (al hu rfl) hp
    case mem => exact fr_no (al hu rfl) hp
    all_goals exact fr_eq (h1_ _ hp) rfl)

theorem execCellLow_frame {F : Place → Bool} {z : State} (mV : BitVec 16) (s : State)
    (hu : Al F [.gb, .power, .regs, .gates]) (hz : Fr F z s) :
    FrA F z (execCellLow mV s) := by
  unfold execCellLow
  exact (fr_iteA (frA_next hz)
  (by
    extract_lets +onlyGivenNames x0_
    extract_lets +onlyGivenNames x1_
    have h1_ : Fr F z x1_ := (State.wr_frame _ _ _ (sub hu rfl) hz)
    try clear_value x1_
    revert x1_
    refine fr_id ?_
    intro x1_ h1_
    extract_lets +onlyGivenNames x2_
    extract_lets +onlyGivenNames x3_
    have h3_ : Fr F z x3_ := (fr_power h1_ (al hu rfl))
    try clear_value x3_
    revert x3_
    refine fr_id ?_
    intro x3_ h3_
    exact (fr_iteA (by
      extract_lets +onlyGivenNames x4_
      have h4_ : Fr F z x4_ := (State.wr_frame _ _ _ (sub hu rfl) h3_)
      try clear_value x4_
      revert x4_
      refine fr_id ?_
      intro x4_ h4_
      exact (frA_next (fr_ite h4_
      (State.post_frame _ _ _ _ _ _ (sub hu rfl) h4_))))
    (frA_next (fr_power h3_ (al hu rfl))))))

theorem execSealChange_frame {F : Place → Bool} {z : State} (lid : Bool) (open_ : Bool) (s : State)
    (hu : Al F [.gb, .power, .regs, .gates]) (hz : Fr F z s) :
    FrA F z (execSealChange lid open_ s) := by
  unfold execSealChange
  extract_lets +onlyGivenNames x0_
  exact (fr_iteA (frA_next hz)
  (by
    extract_lets +onlyGivenNames x1_
    extract_lets +onlyGivenNames x2_
    have h2_ : Fr F z x2_ := (State.bump_frame _ _ (sub hu rfl) (State.wrB_frame _ _ _ (sub hu rfl) hz))
    try clear_value x2_
    revert x2_
    refine fr_id ?_
    intro x2_ h2_
    exact (fr_iteA (frA_next (State.post_frame _ _ _ _ _ _ (sub hu rfl) h2_))
    (fr_iteA (frA_next (fr_power h2_ (al hu rfl)))
    (frA_next (fr_power h2_ (al hu rfl)))))))

theorem State.warned_frame {F : Place → Bool} {z : State} (s : State) (why : PfCause) (meas : PwrMeas)
    (hu : Al F [.power, .regs, .frc]) (hz : Fr F z s) :
    Fr F z (State.warned s why meas) := by
  unfold State.warned
  extract_lets +onlyGivenNames x0_
  have h0_ : Fr F z x0_ := (State.pwrMeasure_frame _ _ (sub hu rfl) hz)
  try clear_value x0_
  revert x0_
  refine fr_id ?_
  intro x0_ h0_
  extract_lets +onlyGivenNames x1_
  have h1_ : Fr F z x1_ := (fr_ite (fr_frc h0_ (al hu rfl))
  h0_)
  try clear_value x1_
  revert x1_
  refine fr_id ?_
  intro x1_ h1_
  extract_lets +onlyGivenNames x2_
  have h2_ : Fr F z x2_ := (State.wr_frame _ _ _ (sub hu rfl) (State.wr_frame _ _ _ (sub hu rfl) h1_))
  try clear_value x2_
  revert x2_
  refine fr_id ?_
  intro x2_ h2_
  exact (fr_power h2_ (al hu rfl))

theorem State.gbFlush_frame {F : Place → Bool} {z : State} (s : State)
    (hu : Al F [.gb, .regs, .frc]) (hz : Fr F z s) :
    Fr F z (State.gbFlush s) := by
  unfold State.gbFlush
  extract_lets +onlyGivenNames x0_
  have h0_ : Fr F z x0_ := (Answer.getD_frame _ _ (sub hu rfl) (execGbClearComplete_frame _ (sub hu rfl) hz) hz)
  try clear_value x0_
  revert x0_
  refine fr_id ?_
  intro x0_ h0_
  extract_lets +onlyGivenNames x1_
  have h1_ : Fr F z x1_ := (Answer.getD_frame _ _ (sub hu rfl) (execGbRecordWrite_frame _ _ (sub hu rfl) h0_) h0_)
  try clear_value x1_
  revert x1_
  refine fr_id ?_
  intro x1_ h1_
  exact (State.gbDrain_frame _ _ (sub hu rfl) h1_)

theorem State.startRecords_frame {F : Place → Bool} {z : State} (s : State) (us : Nat)
    (hu : Al F [.gb, .power, .regs, .gates]) (hz : Fr F z s) :
    Fr F z (State.startRecords s us) := by
  unfold State.startRecords
  extract_lets +onlyGivenNames x0_
  extract_lets +onlyGivenNames x1_
  have h1_ : Fr F z x1_ := (fr_ite (State.post_frame _ _ _ _ _ _ (sub hu rfl) hz)
  hz)
  try clear_value x1_
  revert x1_
  refine fr_id ?_
  intro x1_ h1_
  extract_lets +onlyGivenNames x2_
  have h2_ : Fr F z x2_ := (fr_ite (State.post_frame _ _ _ _ _ _ (sub hu rfl) h1_)
  h1_)
  try clear_value x2_
  revert x2_
  refine fr_id ?_
  intro x2_ h2_
  extract_lets +onlyGivenNames x3_
  have h3_ : Fr F z x3_ := (fr_ite h2_
  (State.post_frame _ _ _ _ _ _ (sub hu rfl) h2_))
  try clear_value x3_
  revert x3_
  refine fr_id ?_
  intro x3_ h3_
  extract_lets +onlyGivenNames x4_
  have h4_ : Fr F z x4_ := (fr_ite h3_
  (State.post_frame _ _ _ _ _ _ (sub hu rfl) h3_))
  try clear_value x4_
  revert x4_
  refine fr_id ?_
  intro x4_ h4_
  extract_lets +onlyGivenNames x5_
  have h5_ : Fr F z x5_ := (fr_ite h4_
  (State.post_frame _ _ _ _ _ _ (sub hu rfl) h4_))
  try clear_value x5_
  revert x5_
  refine fr_id ?_
  intro x5_ h5_
  extract_lets +onlyGivenNames x6_
  have h6_ : Fr F z x6_ := (fr_ite (State.post_frame _ _ _ _ _ _ (sub hu rfl) h5_)
  h5_)
  try clear_value x6_
  revert x6_
  refine fr_id ?_
  intro x6_ h6_
  exact (fr_power h6_ (al hu rfl))

theorem execHoldupFull_frame {F : Place → Bool} {z : State} (meas : PwrMeas) (s : State)
    (hu : Al F [.gb, .power, .regs, .gates]) (hz : Fr F z s) :
    FrA F z (execHoldupFull meas s) := by
  unfold execHoldupFull
  exact (fr_iteA (by
    extract_lets +onlyGivenNames x0_
    have h0_ : Fr F z x0_ := (State.wr_frame _ _ _ (sub hu rfl) (State.wr_frame _ _ _ (sub hu rfl) (State.pwrMeasure_frame _ _ (sub hu rfl) hz)))
    try clear_value x0_
    revert x0_
    refine fr_id ?_
    intro x0_ h0_
    exact (fr_iteA (frA_next h0_)
    (by
      extract_lets +onlyGivenNames x1_
      extract_lets +onlyGivenNames x2_
      have h2_ : Fr F z x2_ := (fr_power h0_ (al hu rfl))
      try clear_value x2_
      revert x2_
      refine fr_id ?_
      intro x2_ h2_
      exact (frA_next (State.post_frame _ _ _ _ _ _ (sub hu rfl) h2_)))))
  (frA_next hz))

theorem execElectionWindowEnd_frame {F : Place → Bool} {z : State} (s : State)
    (hu : Al F [.ban, .gb, .power, .regs, .gates, .frc]) (hz : Fr F z s) :
    FrA F z (execElectionWindowEnd s) := by
  unfold execElectionWindowEnd
  exact (by
    split
    · extract_lets +onlyGivenNames x0_
      have h0_ : Fr F z x0_ := (fr_frc hz (al hu rfl))
      try clear_value x0_
      revert x0_
      refine fr_id ?_
      intro x0_ h0_
      exact (by
        split
        · exact (frA_next (State.elect_frame _ _ (sub hu rfl) h0_))
        · exact (frA_next (fr_power h0_ (al hu rfl))))
    · exact (frA_next hz))

theorem execShutdownMramCommit_frame {F : Place → Bool} {z : State} (meas : PwrMeas) (permille : Nat) (s : State)
    (hu : Al F [.ban, .wear, .gb, .power, .regs, .gates, .frc]) (hz : Fr F z s) :
    FrA F z (execShutdownMramCommit meas permille s) := by
  unfold execShutdownMramCommit
  exact (fr_iteA (by
    extract_lets +onlyGivenNames x0_
    have h0_ : Fr F z x0_ := (fr_frc hz (al hu rfl))
    try clear_value x0_
    revert x0_
    refine fr_id ?_
    intro x0_ h0_
    extract_lets +onlyGivenNames x1_
    have h1_ : Fr F z x1_ := (State.latentCount_frame _ (sub hu rfl) (State.pwrMeasure_frame _ _ (sub hu rfl) h0_))
    try clear_value x1_
    revert x1_
    refine fr_id ?_
    intro x1_ h1_
    extract_lets +onlyGivenNames x2_
    have h2_ : Fr F z x2_ := (State.post_frame _ _ _ _ _ _ (sub hu rfl) h1_)
    try clear_value x2_
    revert x2_
    refine fr_id ?_
    intro x2_ h2_
    extract_lets +onlyGivenNames x3_
    have h3_ : Fr F z x3_ := (fr_ite h2_
    (State.wearHoldup_frame _ _ _ _ (sub hu rfl) h2_))
    try clear_value x3_
    revert x3_
    refine fr_id ?_
    intro x3_ h3_
    extract_lets +onlyGivenNames x4_
    have h4_ : Fr F z x4_ := (State.gbFlush_frame _ (sub hu rfl) h3_)
    try clear_value x4_
    revert x4_
    refine fr_id ?_
    intro x4_ h4_
    exact (frA_next (fr_power h4_ (al hu rfl))))
  (frA_next hz))

theorem execControlResetRelease_frame {F : Place → Bool} {z : State} (us : Fin 15001) (s : State)
    (hu : Al F [.ban, .gb, .power, .tim, .regs, .gates, .nb, .saf, .frc, .rnd]) (hz : Fr F z s) :
    FrA F z (execControlResetRelease us s) := by
  unfold execControlResetRelease
  exact (fr_iteA (frA_next hz)
  (by
    extract_lets +onlyGivenNames x0_
    have h0_ : Fr F z x0_ := (State.wr_frame _ _ _ (sub hu rfl) (State.wr_frame _ _ _ (sub hu rfl) hz))
    try clear_value x0_
    revert x0_
    refine fr_id ?_
    intro x0_ h0_
    extract_lets +onlyGivenNames x1_
    extract_lets +onlyGivenNames x2_
    extract_lets +onlyGivenNames x3_
    have h3_ : Fr F z x3_ := (by
      intro p hp
      cases p
      case saf => exact fr_no (al hu rfl) hp
      case power => exact fr_no (al hu rfl) hp
      case frc => exact fr_no (al hu rfl) hp
      all_goals exact fr_eq (h0_ _ hp) rfl)
    try clear_value x3_
    revert x3_
    refine fr_id ?_
    intro x3_ h3_
    extract_lets +onlyGivenNames x4_
    have h4_ : Fr F z x4_ := (State.c2Start_frame _ _ (sub hu rfl) h3_)
    try clear_value x4_
    revert x4_
    refine fr_id ?_
    intro x4_ h4_
    extract_lets +onlyGivenNames x5_
    extract_lets +onlyGivenNames x6_
    have h6_ : Fr F z x6_ := (fr_ban h4_ (al hu rfl))
    try clear_value x6_
    revert x6_
    refine fr_id ?_
    intro x6_ h6_
    extract_lets +onlyGivenNames x7_
    have h7_ : Fr F z x7_ := (State.permitUpdate_frame _ (sub hu rfl) (State.nbRelease_frame _ (sub hu rfl) (State.rndReset_frame _ (sub hu rfl) (State.gbFillBuckets_frame _ (sub hu rfl) h6_))))
    try clear_value x7_
    revert x7_
    refine fr_id ?_
    intro x7_ h7_
    exact (frA_next (State.startRecords_frame _ _ (sub hu rfl) (State.anchor_frame _ _ (sub hu rfl) h7_)))))

theorem execElectionDeferEnd_frame {F : Place → Bool} {z : State} (s : State)
    (hu : Al F [.ban, .gb, .regs, .gates, .frc]) (hz : Fr F z s) :
    FrA F z (execElectionDeferEnd s) := by
  unfold execElectionDeferEnd
  exact (fr_iteA (by
    extract_lets +onlyGivenNames x0_
    have h0_ : Fr F z x0_ := (fr_frc hz (al hu rfl))
    try clear_value x0_
    revert x0_
    refine fr_id ?_
    intro x0_ h0_
    exact (by
      split
      · exact (frA_next (State.elect_frame _ _ (sub hu rfl) h0_))
      · exact (frA_next (State.elect_frame _ _ (sub hu rfl) (State.wr_frame _ _ _ (sub hu rfl) h0_)))
      · exact (frA_next (State.elect_frame _ _ (sub hu rfl) h0_))))
  (frA_next hz))

theorem State.beaconTake_frame {F : Place → Bool} {z : State} (s : State) (serial : Nat) (strap : Nat) (role : Nat)
    (hu : Al F [.ban, .gb, .power, .regs, .gates]) (hz : Fr F z s) :
    Fr F z (State.beaconTake s serial strap role) := by
  unfold State.beaconTake
  exact (State.hear_frame _ _ _ (sub hu rfl) (State.setPeerRole_frame _ _ (sub hu rfl) (State.wr_frame _ _ _ (sub hu rfl) hz)))

theorem State.shutdownTake_frame {F : Place → Bool} {z : State} (s : State) (serial : Nat)
    (hu : Al F [.ban, .scn, .gb, .regs, .can, .slv, .gates, .anx]) (hz : Fr F z s) :
    Fr F z (State.shutdownTake s serial) := by
  unfold State.shutdownTake
  extract_lets +onlyGivenNames x0_
  have h0_ : Fr F z x0_ := (fr_ite (State.wr_frame _ _ _ (sub hu rfl) hz)
  hz)
  try clear_value x0_
  revert x0_
  refine fr_id ?_
  intro x0_ h0_
  extract_lets +onlyGivenNames x1_
  have h1_ : Fr F z x1_ := (State.joinAbort_frame _ (sub hu rfl) h0_)
  try clear_value x1_
  revert x1_
  refine fr_id ?_
  intro x1_ h1_
  exact (fr_ite (State.sendRole_frame _ (sub hu rfl) (State.alone_frame _ (sub hu rfl) h1_))
  h1_)

theorem State.endFlights_frame {F : Place → Bool} {z : State} (s : State)
    (hu : Al F [.ban, .ser, .regs, .serEnd, .can, .eth, .free, .mem, .gates, .heads]) (hz : Fr F z s) :
    Fr F z (State.endFlights s) := by
  unfold State.endFlights
  extract_lets +onlyGivenNames x0_
  have h0_ : Fr F z x0_ := (fr_foldl (fun _ _ h1_ => (State.canEndFlight_frame _ _ _ _ (sub hu rfl) h1_))
  hz)
  try clear_value x0_
  revert x0_
  refine fr_id ?_
  intro x0_ h0_
  extract_lets +onlyGivenNames x2_
  have h2_ : Fr F z x2_ := (fr_foldl (fun _ _ h3_ => (State.ethEndFlight_frame _ _ _ (sub hu rfl) h3_))
  h0_)
  try clear_value x2_
  revert x2_
  refine fr_id ?_
  intro x2_ h2_
  exact (fr_foldl (fun _ _ h4_ => (State.serAbort_frame _ _ _ (sub hu rfl) h4_))
  h2_)

theorem State.pfActions_frame {F : Place → Bool} {z : State} (s : State)
    (hu : Al F [.ban, .ser, .scn, .gb, .axes, .pgn, .regs, .serEnd, .can, .eth, .free, .slv, .resp, .mem, .gates, .nb, .saf, .heads, .anx]) (hz : Fr F z s) :
    Fr F z (State.pfActions s) := by
  unfold State.pfActions
  extract_lets +onlyGivenNames x0_
  have h0_ : Fr F z x0_ := (State.slvCap_frame _ (sub hu rfl) (State.endFlights_frame _ (sub hu rfl) hz))
  try clear_value x0_
  revert x0_
  refine fr_id ?_
  intro x0_ h0_
  extract_lets +onlyGivenNames x1_
  have h1_ : Fr F z x1_ := (fr_foldl (fun _ _ h2_ => (State.axCommit_frame _ _ _ _ (sub hu rfl) h2_))
  h0_)
  try clear_value x1_
  revert x1_
  refine fr_id ?_
  intro x1_ h1_
  extract_lets +onlyGivenNames x3_
  have h3_ : Fr F z x3_ := (State.anxPowerFail_frame _ (sub hu rfl) (State.nbPowerFail_frame _ (sub hu rfl) h1_))
  try clear_value x3_
  revert x3_
  refine fr_id ?_
  intro x3_ h3_
  extract_lets +onlyGivenNames x4_
  have h4_ : Fr F z x4_ := (fr_ite (State.safStore_frame _ (sub hu rfl) h3_)
  h3_)
  try clear_value x4_
  revert x4_
  refine fr_id ?_
  intro x4_ h4_
  extract_lets +onlyGivenNames x5_
  have h5_ : Fr F z x5_ := (State.joinAbort_frame _ (sub hu rfl) h4_)
  try clear_value x5_
  revert x5_
  refine fr_id ?_
  intro x5_ h5_
  exact (fr_ite (State.handover_frame _ _ (sub hu rfl) h5_)
  (by
    extract_lets +onlyGivenNames x6_
    have h6_ : Fr F z x6_ := (State.shutdownSend_frame _ (sub hu rfl) h5_)
    try clear_value x6_
    revert x6_
    refine fr_id ?_
    intro x6_ h6_
    exact (fr_ite (State.fail_frame _ _ (sub hu rfl) h6_)
    (fr_ite (State.wr_frame _ _ _ (sub hu rfl) h6_)
    h6_))))

theorem execPowerFailWarning_frame {F : Place → Bool} {z : State} (why : PfCause) (meas : PwrMeas) (s : State)
    (hu : Al F [.ban, .ser, .scn, .gb, .axes, .power, .pgn, .regs, .serEnd, .can, .eth, .free, .slv, .resp, .mem, .gates, .nb, .saf, .frc, .heads, .anx]) (hz : Fr F z s) :
    FrA F z (execPowerFailWarning why meas s) := by
  unfold execPowerFailWarning
  exact (fr_iteA (frA_next hz)
  (by
    extract_lets +onlyGivenNames x0_
    have h0_ : Fr F z x0_ := (State.warned_frame _ _ _ (sub hu rfl) hz)
    try clear_value x0_
    revert x0_
    refine fr_id ?_
    intro x0_ h0_
    exact (fr_iteA (frA_next h0_)
    (by
      extract_lets +onlyGivenNames x1_
      have h1_ : Fr F z x1_ := (State.post_frame _ _ _ _ _ _ (sub hu rfl) h0_)
      try clear_value x1_
      revert x1_
      refine fr_id ?_
      intro x1_ h1_
      exact (frA_next (State.pfActions_frame _ (sub hu rfl) h1_))))))

theorem State.powerOn_frame {F : Place → Bool} {z : State} (s : State) (rail : Bool) (restart : Bool) (off : Nat)
    (hu : Al F [.ban, .gb, .power, .pgn, .regs, .resp, .gates, .nb, .saf, .anx]) (hz : Fr F z s) :
    Fr F z (State.powerOn s rail restart off) := by
  unfold State.powerOn
  extract_lets +onlyGivenNames x0_
  extract_lets +onlyGivenNames x1_
  extract_lets +onlyGivenNames x2_
  have h2_ : Fr F z x2_ := (fr_saf hz (al hu rfl))
  try clear_value x2_
  revert x2_
  refine fr_id ?_
  intro x2_ h2_
  extract_lets +onlyGivenNames x3_
  have h3_ : Fr F z x3_ := (State.porterOn_frame _ _ (sub hu rfl) h2_)
  try clear_value x3_
  revert x3_
  refine fr_id ?_
  intro x3_ h3_
  extract_lets +onlyGivenNames x4_
  extract_lets +onlyGivenNames x5_
  have h5_ : Fr F z x5_ := (by
    intro p hp
    cases p
    case nb => exact fr_no (al hu rfl) hp
    case power => exact fr_no (al hu rfl) hp
    all_goals exact fr_eq (h3_ _ hp) rfl)
  try clear_value x5_
  revert x5_
  refine fr_id ?_
  intro x5_ h5_
  extract_lets +onlyGivenNames x6_
  have h6_ : Fr F z x6_ := (State.wr_frame _ _ _ (sub hu rfl) h5_)
  try clear_value x6_
  revert x6_
  refine fr_id ?_
  intro x6_ h6_
  extract_lets +onlyGivenNames x7_
  have h7_ : Fr F z x7_ := (fr_ite (State.safRailUp_frame _ (sub hu rfl) h6_)
  h6_)
  try clear_value x7_
  revert x7_
  refine fr_id ?_
  intro x7_ h7_
  exact (fr_ite (State.anxStart_frame _ (sub hu rfl) h7_)
  h7_)

theorem State.unpowered_frame {F : Place → Bool} {z : State} (s : State)
    (hu : Al F [.ban, .gb, .power, .pgn, .regs, .resp, .gates, .nb, .saf, .anx]) (hz : Fr F z s) :
    Fr F z (State.unpowered s) := by
  unfold State.unpowered
  extract_lets +onlyGivenNames x0_
  extract_lets +onlyGivenNames x1_
  have h1_ : Fr F z x1_ := (fr_power hz (al hu rfl))
  try clear_value x1_
  revert x1_
  refine fr_id ?_
  intro x1_ h1_
  exact (fr_ite (State.powerOn_frame _ _ _ _ (sub hu rfl) h1_)
  (by
    extract_lets +onlyGivenNames x2_
    have h2_ : Fr F z x2_ := (State.wr_frame _ _ _ (sub hu rfl) (State.wr_frame _ _ _ (sub hu rfl) (State.wr_frame _ _ _ (sub hu rfl) h1_)))
    try clear_value x2_
    revert x2_
    refine fr_id ?_
    intro x2_ h2_
    exact (by
      intro p hp
      cases p
      case anx => exact fr_no (al hu rfl) hp
      case power => exact fr_no (al hu rfl) hp
      all_goals exact fr_eq (h2_ _ hp) rfl)))

theorem execControlUnpowered_frame {F : Place → Bool} {z : State} (us : Fin 15000) (s : State)
    (hu : Al F [.key, .ban, .rio, .ser, .keyRefused, .rx, .posted, .firstLatch, .isl, .scn, .gb, .axes, .power, .fpl, .tim, .lp, .pgn, .regs, .serEnd, .can, .eth, .usb, .slv, .resp, .mem, .gates, .nb, .maintAt, .saf, .latch, .frc, .heads, .anx, .staged, .rnd]) (hz : Fr F z s) :
    FrA F z (execControlUnpowered us s) := by
  unfold execControlUnpowered
  extract_lets +onlyGivenNames x0_
  exact (fr_iteA (frA_next hz)
  (by
    extract_lets +onlyGivenNames x1_
    extract_lets +onlyGivenNames x2_
    have h2_ : Fr F z x2_ := (State.opTimeKeep_frame _ _ (sub hu rfl) hz)
    try clear_value x2_
    revert x2_
    refine fr_id ?_
    intro x2_ h2_
    extract_lets +onlyGivenNames x3_
    extract_lets +onlyGivenNames x4_
    have h4_ : Fr F z x4_ := (fr_power h2_ (al hu rfl))
    try clear_value x4_
    revert x4_
    refine fr_id ?_
    intro x4_ h4_
    exact (frA_next (State.unpowered_frame _ (sub hu rfl) (State.controlOff_frame _ (sub hu rfl) h4_)))))

theorem execPowerInputChange_frame {F : Place → Bool} {z : State} (x : PowerInput) (s : State)
    (hu : Al F [.ban, .gb, .power, .pgn, .regs, .resp, .gates, .nb, .saf, .anx]) (hz : Fr F z s) :
    FrA F z (execPowerInputChange x s) := by
  unfold execPowerInputChange
  extract_lets +onlyGivenNames x0_
  extract_lets +onlyGivenNames x1_
  exact (fr_iteA (frA_next hz)
  (by
    extract_lets +onlyGivenNames x2_
    have h2_ : Fr F z x2_ := (State.wr_frame _ _ _ (sub hu rfl) (State.wrB_frame _ _ _ (sub hu rfl) hz))
    try clear_value x2_
    revert x2_
    refine fr_id ?_
    intro x2_ h2_
    extract_lets +onlyGivenNames x3_
    have h3_ : Fr F z x3_ := (State.pwrMeasure_frame _ _ (sub hu rfl) h2_)
    try clear_value x3_
    revert x3_
    refine fr_id ?_
    intro x3_ h3_
    exact (fr_iteA (frA_next (fr_ite (State.powerOn_frame _ _ _ _ (sub hu rfl) h3_)
    h3_))
    (by
      extract_lets +onlyGivenNames x4_
      have h4_ : Fr F z x4_ := (State.post_frame _ _ _ _ _ _ (sub hu rfl) h3_)
      try clear_value x4_
      revert x4_
      refine fr_id ?_
      intro x4_ h4_
      exact (fr_iteA (fr_iteA (frA_next h4_)
      (by
        extract_lets +onlyGivenNames x5_
        have h5_ : Fr F z x5_ := (State.wr_frame _ _ _ (sub hu rfl) (State.wr_frame _ _ _ (sub hu rfl) h4_))
        try clear_value x5_
        revert x5_
        refine fr_id ?_
        intro x5_ h5_
        exact (frA_next (fr_power h5_ (al hu rfl)))))
      (fr_iteA (by
        extract_lets +onlyGivenNames x6_
        have h6_ : Fr F z x6_ := (State.wr_frame _ _ _ (sub hu rfl) h4_)
        try clear_value x6_
        revert x6_
        refine fr_id ?_
        intro x6_ h6_
        exact (fr_iteA (frA_next (fr_power h6_ (al hu rfl)))
        (by
          extract_lets +onlyGivenNames x7_
          extract_lets +onlyGivenNames x8_
          have h8_ : Fr F z x8_ := (State.wr_frame _ _ _ (sub hu rfl) (State.bump_frame _ _ (sub hu rfl) h6_))
          try clear_value x8_
          revert x8_
          refine fr_id ?_
          intro x8_ h8_
          exact (frA_next (State.post_frame _ _ _ _ _ _ (sub hu rfl) h8_)))))
      (frA_next h4_)))))))

end Sys2Proof.Machine
end

