-- ==== Sys2Proof/Laws/FrameBus.lean ====
section
/-!
SUPPORT. What the operations of Machine/Bus.lean may change (Laws/Frames.lean).
-/
namespace Sys2Proof.Machine

theorem State.busErrWrite_frame {F : Place → Bool} {z : State} (s : State) (v : Nat)
    (hu : Al F [.regs]) (hz : Fr F z s) :
    Fr F z (State.busErrWrite s v) := by
  unfold State.busErrWrite
  exact (State.wrMasked_frame _ _ _ _ (sub hu rfl) hz)

theorem State.readClears_frame {F : Place → Bool} {z : State} (s : State) (r : RegSpec) (m : Master) (a : Nat)
    (hu : Al F [.regs]) (hz : Fr F z s) :
    Fr F z (State.readClears s r m a) := by
  unfold State.readClears
  exact (fr_ite hz
  (fr_ite (State.wrMasked_frame _ _ _ _ (sub hu rfl) hz)
  (State.wrMasked_frame _ _ _ _ (sub hu rfl) hz)))

theorem State.applyPair_frame {F : Place → Bool} {z : State} (s : State) (m : Master) (lo : Nat) (hi3' : Nat) (mask : Nat) (v : Nat)
    (hu : Al F [.regs, .staged]) (hz : Fr F z s) :
    Fr F z (State.applyPair s m lo hi3' mask v) := by
  unfold State.applyPair
  extract_lets +onlyGivenNames x0_
  exact (State.wrMasked_frame _ _ _ _ (sub hu rfl) (State.wrMasked_frame _ _ _ _ (sub hu rfl) (State.unstage_frame _ _ _ (sub hu rfl) hz)))

theorem State.slvCtrlWrite_frame {F : Place → Bool} {z : State} (s : State) (m : Master) (v : Nat)
    (hu : Al F [.ban, .regs]) (hz : Fr F z s) :
    Fr F z (State.slvCtrlWrite s m v) := by
  unfold State.slvCtrlWrite
  exact (fr_ite hz
  (State.mirror_frame _ _ _ _ (sub hu rfl) (State.wr_frame _ _ _ (sub hu rfl) hz)))

theorem State.latentWrite_frame {F : Place → Bool} {z : State} (s : State) (v : Nat)
    (hu : Al F [.ban, .regs]) (hz : Fr F z s) :
    Fr F z (State.latentWrite s v) := by
  unfold State.latentWrite
  exact (State.wr_frame _ _ _ (sub hu rfl) (State.latentCount_frame _ (sub hu rfl) hz))

theorem State.refreshed_frame {F : Place → Bool} {z : State} (s : State) (a : Nat)
    (hu : Al F [.ban, .gb, .regs, .maintAt]) (hz : Fr F z s) :
    Fr F z (State.refreshed s a) := by
  unfold State.refreshed
  exact (fr_ite (State.wr64_frame _ _ _ _ (sub hu rfl) hz)
  (fr_ite (State.wr64_frame _ _ _ _ (sub hu rfl) hz)
  (fr_ite (State.wr_frame _ _ _ (sub hu rfl) hz)
  (fr_ite (State.wr_frame _ _ _ (sub hu rfl) hz)
  (fr_ite (State.isoShow_frame _ (sub hu rfl) hz)
  (fr_ite (State.latentCount_frame _ (sub hu rfl) hz)
  (fr_ite (State.maintCount_frame _ (sub hu rfl) hz)
  (fr_ite (State.gbGain_frame _ _ (sub hu rfl) hz)
  (fr_ite (State.wr_frame _ _ _ (sub hu rfl) hz)
  hz)))))))))

theorem State.readLo_frame {F : Place → Bool} {z : State} (s : State) (m : Master) (w : Width) (r : RegSpec) (a : Nat)
    (hu : Al F [.ban, .gb, .regs, .resp, .maintAt, .latch]) (hz : Fr F z s) :
    Fr F z (State.readLo s m w r a) := by
  unfold State.readLo
  extract_lets +onlyGivenNames x0_
  have h0_ : Fr F z x0_ := (State.refreshed_frame _ _ (sub hu rfl) hz)
  try clear_value x0_
  revert x0_
  refine fr_id ?_
  intro x0_ h0_
  extract_lets +onlyGivenNames x1_
  extract_lets +onlyGivenNames x2_
  exact (State.answer_frame _ _ (sub hu rfl) (State.setLatch_frame _ _ _ _ (sub hu rfl) hz))

theorem execAccessTimeout_frame {F : Place → Bool} {z : State} (m : Master) (write : Bool) (addr : Nat) (s : State)
    (hu : Al F [.gb, .regs, .resp, .gates]) (hz : Fr F z s) :
    FrA F z (execAccessTimeout m write addr s) := by
  unfold execAccessTimeout
  exact (frA_next (State.access_frame _ _ _ _ _ _ (sub hu rfl) hz (fun _ h0_ => (fr_ite (State.answer_frame _ _ (sub hu rfl) h0_)
  (fr_ite (State.busFail_frame _ _ _ _ _ _ (sub hu rfl) h0_)
  h0_)))))

theorem State.canBusWrite_frame {F : Place → Bool} {z : State} (s : State) (m : Master) (a : Nat) (v : Nat)
    (hu : Al F [.ban, .gb, .regs, .can, .gates]) (hz : Fr F z s) :
    Fr F z (State.canBusWrite s m a v) := by
  unfold State.canBusWrite
  extract_lets +onlyGivenNames x0_
  extract_lets +onlyGivenNames x1_
  exact (fr_ite (State.canCmdWrite_frame _ _ _ (sub hu rfl) hz)
  (fr_ite (State.canHpAck_frame _ _ _ (sub hu rfl) hz)
  (fr_ite (State.canFilterWrite_frame _ _ _ _ _ _ (sub hu rfl) hz)
  hz)))

theorem State.islBusWrite_frame {F : Place → Bool} {z : State} (s : State) (m : Master) (a : Nat) (v : Nat)
    (hu : Al F [.isl, .gb, .regs, .free, .resp, .gates]) (hz : Fr F z s) :
    Fr F z (State.islBusWrite s m a v) := by
  unfold State.islBusWrite
  extract_lets +onlyGivenNames x0_
  extract_lets +onlyGivenNames x1_
  exact (fr_ite (State.islCmdWrite_frame _ _ _ (sub hu rfl) hz)
  (fr_ite (State.trimWrite_frame _ _ _ _ _ (sub hu rfl) hz)
  hz))

theorem State.memWrite_frame {F : Place → Bool} {z : State} (s : State) (m : Master) (w : Width) (a : Nat) (v : Nat)
    (hu : Al F [.gb, .regs, .resp, .mem, .gates]) (hz : Fr F z s) :
    Fr F z (State.memWrite s m w a v) := by
  unfold State.memWrite
  extract_lets +onlyGivenNames x0_
  exact (fr_ite (State.poolWrite_frame _ _ _ _ (sub hu rfl) hz)
  (fr_ite (State.setBytes_frame _ _ _ (sub hu rfl) hz)
  (State.busFail_frame _ _ _ _ _ _ (sub hu rfl) hz)))

theorem execBuserrValidClear_frame {F : Place → Bool} {z : State} (m : Master) (value : Word) (s : State)
    (hu : Al F [.gb, .regs, .resp, .gates]) (hz : Fr F z s) :
    FrA F z (execBuserrValidClear m value s) := by
  unfold execBuserrValidClear
  exact (frA_next (State.access_frame _ _ _ _ _ _ (sub hu rfl) hz (fun _ h0_ => (State.busErrWrite_frame _ _ (sub hu rfl) h0_))))

theorem State.axBusWrite_frame {F : Place → Bool} {z : State} (s : State) (m : Master) (a : Nat) (v : Nat)
    (hu : Al F [.ban, .gb, .axes, .regs, .resp, .gates, .staged]) (hz : Fr F z s) :
    Fr F z (State.axBusWrite s m a v) := by
  unfold State.axBusWrite
  extract_lets +onlyGivenNames x0_
  extract_lets +onlyGivenNames x1_
  exact (fr_ite (State.axVlimLoWrite_frame _ _ _ _ _ (sub hu rfl) hz)
  (fr_ite (State.axVlimHiWrite_frame _ _ _ _ _ (sub hu rfl) hz)
  (fr_ite (State.axVlimLoWrite_frame _ _ _ _ _ (sub hu rfl) hz)
  (fr_ite (State.axVlimHiWrite_frame _ _ _ _ _ (sub hu rfl) hz)
  hz))))

theorem State.pgnBusWrite_frame {F : Place → Bool} {z : State} (s : State) (m : Master) (a : Nat) (v : Nat)
    (hu : Al F [.ban, .gb, .pgn, .regs, .resp, .gates]) (hz : Fr F z s) :
    Fr F z (State.pgnBusWrite s m a v) := by
  unfold State.pgnBusWrite
  extract_lets +onlyGivenNames x0_
  extract_lets +onlyGivenNames x1_
  exact (fr_ite (State.pgnStatWrite_frame _ _ _ _ (sub hu rfl) hz)
  (fr_ite (State.pgnStageWrite_frame _ _ _ _ _ (sub hu rfl) hz)
  (fr_ite (State.pgnPostWrite_frame _ _ _ _ (sub hu rfl) hz)
  (fr_ite (State.pgnCmdWrite_frame _ _ _ _ (sub hu rfl) hz)
  (fr_ite (State.pgnAckWrite_frame _ _ _ _ (sub hu rfl) hz)
  (State.pgnDenied_frame _ _ _ _ _ (sub hu rfl) hz))))))

theorem State.busRead_frame {F : Place → Bool} {z : State} (s : State) (m : Master) (w : Width) (a : Nat)
    (hu : Al F [.ban, .gb, .pgn, .regs, .resp, .gates, .maintAt, .latch]) (hz : Fr F z s) :
    Fr F z (State.busRead s m w a) := by
  unfold State.busRead
  exact (by
    split
    · exact hz
    · exact (fr_ite (State.classCapture_frame _ _ _ _ _ _ (sub hu rfl) hz)
      (fr_ite (State.classCapture_frame _ _ _ _ _ _ (sub hu rfl) hz)
      (fr_ite (State.pgnHdrRead_frame _ _ _ (sub hu rfl) hz)
      (fr_ite (State.pgnDenied_frame _ _ _ _ _ (sub hu rfl) hz)
      (fr_ite (State.readLo_frame _ _ _ _ _ (sub hu rfl) hz)
      (fr_ite (State.answer_frame _ _ (sub hu rfl) hz)
      (State.answer_frame _ _ (sub hu rfl) (State.readClears_frame _ _ _ _ (sub hu rfl) hz)))))))))

theorem execLoReadLatch_frame {F : Place → Bool} {z : State} (m : Master) (w : Width) (addr : Nat) (s : State)
    (hu : Al F [.ban, .gb, .pgn, .regs, .resp, .gates, .maintAt, .latch]) (hz : Fr F z s) :
    FrA F z (execLoReadLatch m w addr s) := by
  unfold execLoReadLatch
  exact (frA_next (State.access_frame _ _ _ _ _ _ (sub hu rfl) hz (fun _ h0_ => (State.busRead_frame _ _ _ _ (sub hu rfl) h0_))))

theorem State.tuneBusWrite_frame {F : Place → Bool} {z : State} (s : State) (m : Master) (a : Nat) (v : Nat)
    (hu : Al F [.ban, .gb, .lp, .regs, .resp, .gates]) (hz : Fr F z s) :
    Fr F z (State.tuneBusWrite s m a v) := by
  unfold State.tuneBusWrite
  extract_lets +onlyGivenNames x0_
  extract_lets +onlyGivenNames x1_
  exact (fr_ite (State.loopCmdWrite_frame _ _ _ _ (sub hu rfl) hz)
  (State.loopShadowWrite_frame _ _ _ _ _ (sub hu rfl) hz))

theorem execRcReadClear_frame {F : Place → Bool} {z : State} (m : Master) (addr : Nat) (s : State)
    (hu : Al F [.ban, .gb, .pgn, .regs, .resp, .gates, .maintAt, .latch]) (hz : Fr F z s) :
    FrA F z (execRcReadClear m addr s) := by
  unfold execRcReadClear
  exact (frA_next (State.access_frame _ _ _ _ _ _ (sub hu rfl) hz (fun _ h0_ => (State.busRead_frame _ _ _ _ (sub hu rfl) h0_))))

theorem State.queBusWrite_frame {F : Place → Bool} {z : State} (s : State) (m : Master) (a : Nat) (v : Nat)
    (hu : Al F [.ban, .posted, .gb, .regs, .resp, .gates, .heads]) (hz : Fr F z s) :
    Fr F z (State.queBusWrite s m a v) := by
  unfold State.queBusWrite
  extract_lets +onlyGivenNames x0_
  extract_lets +onlyGivenNames x1_
  exact (fr_ite (State.quePiWrite_frame _ _ _ _ (sub hu rfl) hz)
  (fr_ite (State.queDiWrite_frame _ _ _ _ (sub hu rfl) hz)
  (fr_ite (State.queCiWrite_frame _ _ _ _ (sub hu rfl) hz)
  (fr_ite (State.queStatWrite_frame _ _ _ _ (sub hu rfl) hz)
  hz))))

theorem State.unitWrite_frame {F : Place → Bool} {z : State} (s : State) (m : Master) (r : RegSpec) (a : Nat) (v : Nat)
    (hu : Al F [.ban, .wear, .firstOut, .posted, .isl, .scn, .gb, .axes, .fpl, .tim, .lp, .pgn, .regs, .can, .free, .slv, .resp, .mem, .gates, .nb, .maintAt, .saf, .latch, .heads, .anx, .staged]) (hz : Fr F z s) :
    Fr F z (State.unitWrite s m r a v) := by
  unfold State.unitWrite
  exact (fr_ite (State.busErrWrite_frame _ _ (sub hu rfl) hz)
  (fr_ite (State.fplCmdWrite_frame _ _ _ (sub hu rfl) hz)
  (fr_ite (State.applyPair_frame _ _ _ _ _ _ (sub hu rfl) hz)
  (fr_ite (State.scnCmdWrite_frame _ _ (sub hu rfl) hz)
  (fr_ite (State.applyPair_frame _ _ _ _ _ _ (sub hu rfl) hz)
  (fr_ite (State.olcCmdWrite_frame _ _ _ _ (sub hu rfl) (State.useFree_frame _ (sub hu rfl) hz))
  (fr_ite (State.applyPair_frame _ _ _ _ _ _ (sub hu rfl) hz)
  (fr_ite (State.forceCmdWrite_frame _ _ _ (sub hu rfl) hz)
  (fr_ite (State.slvCmdWrite_frame _ _ _ (sub hu rfl) hz)
  (fr_ite (State.slvCtrlWrite_frame _ _ _ (sub hu rfl) hz)
  (fr_ite (State.banCmdWrite_frame _ _ (sub hu rfl) hz)
  (fr_ite (State.joinCmdWrite_frame _ _ _ (sub hu rfl) (State.useFree_frame _ (sub hu rfl) hz))
  (fr_ite (State.latentWrite_frame _ _ (sub hu rfl) hz)
  (fr_ite (State.safCmdWrite_frame _ _ (sub hu rfl) hz)
  (fr_ite (State.trpReqWrite_frame _ _ _ (sub hu rfl) hz)
  (fr_ite (State.trpFirstWrite_frame _ _ (sub hu rfl) hz)
  (fr_ite (State.ethMaintWrite_frame _ _ _ (sub hu rfl) hz)
  (fr_ite (State.timCmdWrite_frame _ _ (sub hu rfl) hz)
  (fr_ite (State.gbCmdWrite_frame _ _ (sub hu rfl) hz)
  (fr_ite (State.gbCursorWrite_frame _ _ _ (sub hu rfl) hz)
  (fr_ite (State.nbLightWrite_frame _ _ (sub hu rfl) hz)
  (fr_ite (State.nbCmdWrite_frame _ _ (sub hu rfl) hz)
  (fr_ite (State.setLatch_frame _ _ _ _ (sub hu rfl) hz)
  (fr_ite (State.tuneBusWrite_frame _ _ _ _ (sub hu rfl) hz)
  (fr_ite (State.axBusWrite_frame _ _ _ _ (sub hu rfl) hz)
  (fr_ite (State.islBusWrite_frame _ _ _ _ (sub hu rfl) hz)
  (fr_ite (State.canBusWrite_frame _ _ _ _ (sub hu rfl) hz)
  (fr_ite (State.pgnBusWrite_frame _ _ _ _ (sub hu rfl) hz)
  (fr_ite (State.queBusWrite_frame _ _ _ _ (sub hu rfl) hz)
  (fr_ite (State.stageLo_frame _ _ _ _ (sub hu rfl) hz)
  (State.plainWrite_frame _ _ _ _ (sub hu rfl) hz)))))))))))))))))))))))))))))))

theorem State.busWrite_frame {F : Place → Bool} {z : State} (s : State) (m : Master) (a : Nat) (v : Nat)
    (hu : Al F [.ban, .wear, .firstOut, .posted, .isl, .scn, .gb, .axes, .fpl, .tim, .lp, .pgn, .regs, .can, .free, .slv, .resp, .mem, .gates, .nb, .maintAt, .saf, .latch, .heads, .anx, .staged]) (hz : Fr F z s) :
    Fr F z (State.busWrite s m a v) := by
  unfold State.busWrite
  exact (by
    split
    · exact (State.unitWrite_frame _ _ _ _ _ (sub hu rfl) hz)
    · exact hz)

theorem execHiWriteApply_frame {F : Place → Bool} {z : State} (m : Master) (addr : Nat) (value : Word) (s : State)
    (hu : Al F [.ban, .wear, .firstOut, .posted, .isl, .scn, .gb, .axes, .fpl, .tim, .lp, .pgn, .regs, .can, .free, .slv, .resp, .mem, .gates, .nb, .maintAt, .saf, .latch, .heads, .anx, .staged]) (hz : Fr F z s) :
    FrA F z (execHiWriteApply m addr value s) := by
  unfold execHiWriteApply
  exact (frA_next (State.access_frame _ _ _ _ _ _ (sub hu rfl) hz (fun _ h0_ => (State.busWrite_frame _ _ _ _ (sub hu rfl) h0_))))

theorem execLoWriteStage_frame {F : Place → Bool} {z : State} (m : Master) (addr : Nat) (value : Word) (s : State)
    (hu : Al F [.ban, .wear, .firstOut, .posted, .isl, .scn, .gb, .axes, .fpl, .tim, .lp, .pgn, .regs, .can, .free, .slv, .resp, .mem, .gates, .nb, .maintAt, .saf, .latch, .heads, .anx, .staged]) (hz : Fr F z s) :
    FrA F z (execLoWriteStage m addr value s) := by
  unfold execLoWriteStage
  exact (frA_next (State.access_frame _ _ _ _ _ _ (sub hu rfl) hz (fun _ h0_ => (State.busWrite_frame _ _ _ _ (sub hu rfl) h0_))))

theorem execRegisterWrite_frame {F : Place → Bool} {z : State} (m : Master) (w : Width) (addr : Nat) (value : Word) (s : State)
    (hu : Al F [.ban, .wear, .firstOut, .posted, .isl, .scn, .gb, .axes, .fpl, .tim, .lp, .pgn, .regs, .can, .free, .slv, .resp, .mem, .gates, .nb, .maintAt, .saf, .latch, .heads, .anx, .staged]) (hz : Fr F z s) :
    FrA F z (execRegisterWrite m w addr value s) := by
  unfold execRegisterWrite
  exact (frA_next (State.access_frame _ _ _ _ _ _ (sub hu rfl) hz (fun _ h0_ => (fr_ite (State.memWrite_frame _ _ _ _ _ (sub hu rfl) h0_)
  (State.busWrite_frame _ _ _ _ (sub hu rfl) h0_)))))

end Sys2Proof.Machine
end

