-- ==== Sys2Proof/Laws/FrameReplay.lean ====
section
/-!
SUPPORT. What the operations of Machine/Replay.lean may change (Laws/Frames.lean).
-/
namespace Sys2Proof.Machine

theorem State.replayStart_frame {F : Place → Bool} {z : State} (s : State) (g : Option Agreement) (t : Nat)
    (hu : Al F [.ban, .rio, .isl, .scn, .gb, .axes, .lp, .regs, .can, .free, .gates]) (hz : Fr F z s) :
    Fr F z (State.replayStart s g t) := by
  unfold State.replayStart
  extract_lets +onlyGivenNames x0_
  have h0_ : Fr F z x0_ := (State.cycleOpen_frame _ _ (sub hu rfl) hz)
  try clear_value x0_
  revert x0_
  refine fr_id ?_
  intro x0_ h0_
  exact (by
    split
    · extract_lets +onlyGivenNames x1_
      extract_lets +onlyGivenNames x2_
      have h2_ : Fr F z x2_ := (State.executeStart_frame _ _ (sub hu rfl) (State.latchOut_frame _ _ (sub hu rfl) (State.setTask_frame _ _ _ (sub hu rfl) h0_)))
      try clear_value x2_
      revert x2_
      refine fr_id ?_
      intro x2_ h2_
      extract_lets +onlyGivenNames x3_
      extract_lets +onlyGivenNames x4_
      have h4_ : Fr F z x4_ := (State.setTask_frame _ _ _ (sub hu rfl) h2_)
      try clear_value x4_
      revert x4_
      refine fr_id ?_
      intro x4_ h4_
      exact (by
        split
        · exact (State.setJoin_frame _ _ (sub hu rfl) h4_)
        · exact h4_)
    · exact (fr_ite (State.skipLatch_frame _ _ (sub hu rfl) h0_)
      h0_))

theorem State.replayTick_frame {F : Place → Bool} {z : State} (s : State) (g : Option Agreement) (n : Nat)
    (hu : Al F [.ban, .rio, .isl, .scn, .gb, .axes, .lp, .pgn, .regs, .can, .free, .gates]) (hz : Fr F z s) :
    Fr F z (State.replayTick s g n) := by
  unfold State.replayTick
  exact (State.inTick_frame _ _ _ (sub hu rfl) hz (fun _ h0_ => (by
    extract_lets +onlyGivenNames x1_
    have h1_ : Fr F z x1_ := by
      subst x1_
      exact (by
        split
        · exact (State.agreedActs_frame _ _ (sub hu rfl) h0_)
        · exact h0_)
    try clear_value x1_
    revert x1_
    refine fr_id ?_
    intro x1_ h1_
    extract_lets +onlyGivenNames x2_
    have h2_ : Fr F z x2_ := (State.landNow_frame _ (sub hu rfl) h1_)
    try clear_value x2_
    revert x2_
    refine fr_id ?_
    intro x2_ h2_
    exact (fr_foldl (fun _ _ h3_ => (State.replayStart_frame _ _ _ (sub hu rfl) h3_))
    h2_))))

theorem State.replayTicks_frame {F : Place → Bool} {z : State} (s : State) (last : Nat) (g : Option Agreement)
    (hu : Al F [.ban, .rio, .isl, .scn, .gb, .axes, .lp, .pgn, .regs, .can, .free, .gates]) (hz : Fr F z s) :
    Fr F z (State.replayTicks s last g) := by
  unfold State.replayTicks
  exact (by
    split
    · exact hz
    · extract_lets +onlyGivenNames x0_
      have h0_ : Fr F z x0_ := (State.setJoin_frame _ _ (sub hu rfl) hz)
      try clear_value x0_
      revert x0_
      refine fr_id ?_
      intro x0_ h0_
      exact (fr_foldl (fun _ _ h1_ => (State.replayTick_frame _ _ _ (sub hu rfl) h1_))
      h0_))

theorem mirrorWrite_frame {F : Place → Bool} {z : State} (m : Master) (a : Nat) (v : Nat) (s : State)
    (hu : Al F [.ban, .wear, .firstOut, .posted, .isl, .scn, .gb, .axes, .fpl, .tim, .lp, .pgn, .regs, .can, .free, .slv, .resp, .mem, .gates, .nb, .maintAt, .saf, .latch, .heads, .anx, .staged]) (hz : Fr F z s) :
    Fr F z (mirrorWrite m a v s) := by
  unfold mirrorWrite
  exact (State.busWrite_frame _ _ _ _ (sub hu rfl) (State.wakeAt_frame _ _ (sub hu rfl) hz))

theorem State.regMirror_frame {F : Place → Bool} {z : State} (s : State) (x : RegMirror)
    (hu : Al F [.ban, .wear, .firstOut, .posted, .isl, .scn, .gb, .axes, .fpl, .tim, .lp, .pgn, .regs, .can, .free, .slv, .resp, .mem, .gates, .nb, .maintAt, .saf, .latch, .heads, .anx, .staged]) (hz : Fr F z s) :
    Fr F z (State.regMirror s x) := by
  unfold State.regMirror
  extract_lets +onlyGivenNames x0_
  extract_lets +onlyGivenNames x1_
  exact (fr_ite (State.busFail_frame _ _ _ _ _ _ (sub hu rfl) hz)
  (fr_ite (State.busFail_frame _ _ _ _ _ _ (sub hu rfl) hz)
  (fr_ite (State.busFail_frame _ _ _ _ _ _ (sub hu rfl) hz)
  (fr_ite (State.wr_frame _ _ _ (sub hu rfl) hz)
  (fr_ite (State.wr_frame _ _ _ (sub hu rfl) hz)
  (fr_ite (fr_ban hz (al hu rfl))
  (by
    extract_lets +onlyGivenNames x2_
    extract_lets +onlyGivenNames x3_
    have h3_ : Fr F z x3_ := (mirrorWrite_frame _ _ _ _ (sub hu rfl) (fr_ban hz (al hu rfl)))
    try clear_value x3_
    revert x3_
    refine fr_id ?_
    intro x3_ h3_
    exact (fr_ban h3_ (al hu rfl)))))))))

theorem State.regMirrors_frame {F : Place → Bool} {z : State} (s : State) (l : List RegMirror)
    (hu : Al F [.ban, .wear, .firstOut, .posted, .isl, .scn, .gb, .axes, .fpl, .tim, .lp, .pgn, .regs, .can, .free, .slv, .resp, .mem, .gates, .nb, .maintAt, .saf, .latch, .heads, .anx, .staged]) (hz : Fr F z s) :
    Fr F z (State.regMirrors s l) := by
  unfold State.regMirrors
  exact (fr_foldl (fun _ _ h0_ => (State.regMirror_frame _ _ (sub hu rfl) h0_))
  hz)

theorem State.replayDigest_frame {F : Place → Bool} {z : State} (s : State) (j : Join) (d : Digest)
    (hu : Al F [.ban, .rio, .isl, .scn, .gb, .axes, .lp, .regs, .can, .free, .gates]) (hz : Fr F z s) :
    Fr F z (State.replayDigest s j d) := by
  unfold State.replayDigest
  extract_lets +onlyGivenNames x0_
  extract_lets +onlyGivenNames x1_
  exact (fr_ite hz
  (by
    extract_lets +onlyGivenNames x2_
    extract_lets +onlyGivenNames x3_
    extract_lets +onlyGivenNames x4_
    extract_lets +onlyGivenNames x5_
    have h5_ : Fr F z x5_ := (State.setTask_frame _ _ _ (sub hu rfl) hz)
    try clear_value x5_
    revert x5_
    refine fr_id ?_
    intro x5_ h5_
    extract_lets +onlyGivenNames x6_
    extract_lets +onlyGivenNames x7_
    have h7_ : Fr F z x7_ := (fr_ite (fr_ban h5_ (al hu rfl))
    h5_)
    try clear_value x7_
    revert x7_
    refine fr_id ?_
    intro x7_ h7_
    extract_lets +onlyGivenNames x8_
    have h8_ : Fr F z x8_ := (State.taskMiss_frame _ _ _ (sub hu rfl) h7_)
    try clear_value x8_
    revert x8_
    refine fr_id ?_
    intro x8_ h8_
    extract_lets +onlyGivenNames x9_
    have h9_ : Fr F z x9_ := (fr_ite (State.commitGood_frame _ _ (sub hu rfl) h7_)
    (State.commitHeld_frame _ _ (sub hu rfl) h7_))
    try clear_value x9_
    revert x9_
    refine fr_id ?_
    intro x9_ h9_
    extract_lets +onlyGivenNames x10_
    extract_lets +onlyGivenNames x11_
    have h11_ : Fr F z x11_ := (fr_ite (fr_ite (State.commitSafe_frame _ _ (sub hu rfl) h7_)
    h7_)
    (fr_ite h7_
    (fr_ite (State.taskLimitStop_frame _ _ (sub hu rfl) h7_)
    (fr_ite h7_
    (fr_ite (fr_ite (State.taskLimitStop_frame _ _ (sub hu rfl) h8_)
    h8_)
    (State.setTask_frame _ _ _ (sub hu rfl) h9_))))))
    try clear_value x11_
    revert x11_
    refine fr_id ?_
    intro x11_ h11_
    exact (fr_ite h11_
    (fr_ite h11_
    (State.joinEnd_frame _ _ (sub hu rfl) h11_)))))

theorem State.entryAct_frame {F : Place → Bool} {z : State} (s : State) (x : LogEntry)
    (hu : Al F [.ban, .pgn, .regs, .slv, .mem, .gates]) (hz : Fr F z s) :
    Fr F z (State.entryAct s x) := by
  unfold State.entryAct
  exact (by
    split
    · extract_lets +onlyGivenNames x0_
      have h0_ : Fr F z x0_ := (State.setBytes_frame _ _ _ (sub hu rfl) hz)
      try clear_value x0_
      revert x0_
      refine fr_id ?_
      intro x0_ h0_
      extract_lets +onlyGivenNames x1_
      have h1_ : Fr F z x1_ := (State.wr_frame _ _ _ (sub hu rfl) (State.setBytes_frame _ _ _ (sub hu rfl) h0_))
      try clear_value x1_
      revert x1_
      refine fr_id ?_
      intro x1_ h1_
      extract_lets +onlyGivenNames x2_
      extract_lets +onlyGivenNames x3_
      have h3_ : Fr F z x3_ := (fr_slv h1_ (al hu rfl))
      try clear_value x3_
      revert x3_
      refine fr_id ?_
      intro x3_ h3_
      exact (fr_ite h3_
      (by
        extract_lets +onlyGivenNames x4_
        exact (State.slvShowSlot_frame _ _ (sub hu rfl) (fr_slv h3_ (al hu rfl)))))
    · exact (fr_ite (State.pgnStore_frame _ _ _ _ _ _ (sub hu rfl) hz)
      (by
        extract_lets +onlyGivenNames x5_
        extract_lets +onlyGivenNames x6_
        extract_lets +onlyGivenNames x7_
        have h7_ : Fr F z x7_ := (fr_foldl (fun _ _ h8_ => (State.setBytes_frame _ _ _ (sub hu rfl) h8_))
        hz)
        try clear_value x7_
        revert x7_
        refine fr_id ?_
        intro x7_ h7_
        exact (State.wr_frame _ _ _ (sub hu rfl) h7_))))

theorem State.replayRun_frame {F : Place → Bool} {z : State} (s : State) (n : Nat)
    (hu : Al F [.ban, .wear, .rio, .firstOut, .posted, .isl, .scn, .gb, .axes, .fpl, .tim, .lp, .pgn, .regs, .can, .free, .slv, .resp, .mem, .gates, .nb, .maintAt, .saf, .latch, .heads, .anx, .staged]) (hz : Fr F z s) : Fr F z (State.replayRun s n) := by
  induction n generalizing s with
  | zero => exact hz
  | succ n ih =>
    unfold State.replayRun
    split
    · exact hz
    · split
      · exact hz
      · refine fr_ite hz (ih _ ?_)
        have h := fun j => State.setJoin_frame s j (sub hu rfl) hz
        split
        · exact State.replayTicks_frame _ _ _ (sub hu rfl) (h _)
        · exact fr_foldl (fun _ _ h => State.mirrorEntry_frame _ _ _ (sub hu rfl) h) (h _)
        · exact State.regMirrors_frame _ _ (sub hu rfl) (h _)
        · exact State.replayDigest_frame _ _ _ (sub hu rfl) (h _)
        · exact State.entryAct_frame _ _ (sub hu rfl) (h _)

theorem State.caughtUp_frame {F : Place → Bool} {z : State} (s : State)
    (hu : Al F [.ban, .regs]) (hz : Fr F z s) :
    Fr F z (State.caughtUp s) := by
  unfold State.caughtUp
  exact (by
    split
    · extract_lets +onlyGivenNames x0_
      have h0_ : Fr F z x0_ := (State.wr_frame _ _ _ (sub hu rfl) hz)
      try clear_value x0_
      revert x0_
      refine fr_id ?_
      intro x0_ h0_
      exact (fr_ite (State.banSend_frame _ _ _ (sub hu rfl) (State.setPhase_frame _ _ (sub hu rfl) h0_))
      h0_)
    · exact hz)

theorem State.replayGo_frame {F : Place → Bool} {z : State} (s : State)
    (hu : Al F [.ban, .wear, .rio, .firstOut, .posted, .isl, .scn, .gb, .axes, .fpl, .tim, .lp, .pgn, .regs, .can, .free, .slv, .resp, .mem, .gates, .nb, .maintAt, .saf, .latch, .heads, .anx, .staged]) (hz : Fr F z s) :
    Fr F z (State.replayGo s) := by
  unfold State.replayGo
  exact (by
    split
    · exact (fr_ite (State.caughtUp_frame _ (sub hu rfl) (State.replayRun_frame _ _ (sub hu rfl) hz))
      hz)
    · exact hz)

theorem execReplayCycle_frame {F : Place → Bool} {z : State} (t : Fin 16) (image : Option (List Byte)) (invokes : List Invoke) (writes : List (BitVec 32 × List Byte)) (trap : Option (BitVec 32 × BitVec 64)) (loopCrc : BitVec 64) (solverCrc : BitVec 64) (s : State)
    (hu : Al F [.ban, .wear, .rio, .firstOut, .posted, .isl, .scn, .gb, .axes, .fpl, .tim, .lp, .pgn, .regs, .can, .free, .slv, .resp, .mem, .gates, .nb, .maintAt, .saf, .latch, .heads, .anx, .staged]) (hz : Fr F z s) :
    FrA F z (execReplayCycle t image invokes writes trap loopCrc solverCrc s) := by
  unfold execReplayCycle
  exact (by
    split
    · exact (fr_iteA (frA_next hz)
      (by
        extract_lets +onlyGivenNames x0_
        extract_lets +onlyGivenNames x1_
        extract_lets +onlyGivenNames x2_
        have h2_ : Fr F z x2_ := (State.setJoin_frame _ _ (sub hu rfl) hz)
        try clear_value x2_
        revert x2_
        refine fr_id ?_
        intro x2_ h2_
        extract_lets +onlyGivenNames x3_
        have h3_ : Fr F z x3_ := (fr_foldl (fun _ _ h4_ => (State.invoke_frame _ _ _ (sub hu rfl) h4_))
        h2_)
        try clear_value x3_
        revert x3_
        refine fr_id ?_
        intro x3_ h3_
        extract_lets +onlyGivenNames x5_
        have h5_ : Fr F z x5_ := (fr_foldl (fun _ _ h6_ => (State.varWrite_frame _ _ _ (sub hu rfl) h6_))
        h3_)
        try clear_value x5_
        revert x5_
        refine fr_id ?_
        intro x5_ h5_
        extract_lets +onlyGivenNames x7_
        extract_lets +onlyGivenNames x8_
        extract_lets +onlyGivenNames x9_
        have h9_ : Fr F z x9_ := (fr_ite (by
          split
          · exact (State.trapAct_frame _ _ _ _ (sub hu rfl) h5_)
          · exact (State.wr_frame _ _ _ (sub hu rfl) (State.setTask_frame _ _ _ (sub hu rfl) h5_)))
        h2_)
        try clear_value x9_
        revert x9_
        refine fr_id ?_
        intro x9_ h9_
        exact (frA_next (State.replayGo_frame _ (sub hu rfl) h9_))))
    · exact (frA_next hz))

theorem State.replayLand_frame {F : Place → Bool} {z : State} (s : State) (n : Nat) (at_ : Nat)
    (hu : Al F [.ban, .rio, .isl, .scn, .gb, .axes, .lp, .pgn, .regs, .can, .free, .gates]) (hz : Fr F z s) :
    Fr F z (State.replayLand s n at_) := by
  unfold State.replayLand
  extract_lets +onlyGivenNames x0_
  have h0_ : Fr F z x0_ := (State.replayTicks_frame _ _ _ (sub hu rfl) hz)
  try clear_value x0_
  revert x0_
  refine fr_id ?_
  intro x0_ h0_
  extract_lets +onlyGivenNames x1_
  have h1_ : Fr F z x1_ := (State.gridShift_frame _ _ (sub hu rfl) h0_)
  try clear_value x1_
  revert x1_
  refine fr_id ?_
  intro x1_ h1_
  extract_lets +onlyGivenNames x2_
  extract_lets +onlyGivenNames x3_
  exact (by
    intro p hp
    cases p
    case ban => exact fr_no (al hu rfl) hp
    case scn => exact fr_no (al hu rfl) hp
    all_goals exact fr_eq (h1_ _ hp) rfl)

theorem State.liveLog_frame {F : Place → Bool} {z : State} (s : State) (x : JoinLog)
    (hu : Al F [.ban, .wear, .firstOut, .posted, .isl, .scn, .gb, .axes, .fpl, .tim, .lp, .pgn, .regs, .can, .free, .slv, .resp, .mem, .gates, .nb, .maintAt, .saf, .latch, .heads, .anx, .staged]) (hz : Fr F z s) :
    Fr F z (State.liveLog s x) := by
  unfold State.liveLog
  exact (by
    split
    · exact (fr_ban hz (al hu rfl))
    · extract_lets +onlyGivenNames x0_
      have h0_ : Fr F z x0_ := (fr_foldl (fun _ _ h1_ => (State.mirrorEntry_frame _ _ _ (sub hu rfl) h1_))
      hz)
      try clear_value x0_
      revert x0_
      refine fr_id ?_
      intro x0_ h0_
      exact (fr_ban h0_ (al hu rfl))
    · exact (State.regMirrors_frame _ _ (sub hu rfl) hz)
    · exact (fr_ban hz (al hu rfl))
    · exact (State.entryAct_frame _ _ (sub hu rfl) hz))

theorem execJoinTick_frame {F : Place → Bool} {z : State} (s : State)
    (hu : Al F [.ban, .wear, .rio, .firstOut, .posted, .isl, .scn, .gb, .axes, .fpl, .tim, .lp, .pgn, .regs, .can, .free, .slv, .resp, .mem, .gates, .nb, .maintAt, .saf, .latch, .frc, .heads, .anx, .staged, .rnd]) (hz : Fr F z s) :
    FrA F z (execJoinTick s) := by
  unfold execJoinTick
  exact (by
    split
    · exact (by
        split
        · exact (fr_iteA (frA_next hz)
          (by
            extract_lets +onlyGivenNames x0_
            have h0_ : Fr F z x0_ := (fr_frc hz (al hu rfl))
            try clear_value x0_
            revert x0_
            refine fr_id ?_
            intro x0_ h0_
            extract_lets +onlyGivenNames x1_
            have h1_ : Fr F z x1_ := (State.topupAt_frame _ _ _ (sub hu rfl) (State.replayLand_frame _ _ _ (sub hu rfl) h0_))
            try clear_value x1_
            revert x1_
            refine fr_id ?_
            intro x1_ h1_
            extract_lets +onlyGivenNames x2_
            extract_lets +onlyGivenNames x3_
            have h3_ : Fr F z x3_ := (State.wr_frame _ _ _ (sub hu rfl) (State.wr_frame _ _ _ (sub hu rfl) (State.setPhase_frame _ _ (sub hu rfl) h1_)))
            try clear_value x3_
            revert x3_
            refine fr_id ?_
            intro x3_ h3_
            extract_lets +onlyGivenNames x4_
            have h4_ : Fr F z x4_ := (State.banSend_frame _ _ _ (sub hu rfl) h3_)
            try clear_value x4_
            revert x4_
            refine fr_id ?_
            intro x4_ h4_
            extract_lets +onlyGivenNames x5_
            have h5_ : Fr F z x5_ := (State.setPeerRole_frame _ _ (sub hu rfl) (State.setRole_frame _ _ (sub hu rfl) h4_))
            try clear_value x5_
            revert x5_
            refine fr_id ?_
            intro x5_ h5_
            extract_lets +onlyGivenNames x6_
            have h6_ : Fr F z x6_ := (State.sendRole_frame _ (sub hu rfl) (State.post_frame _ _ _ _ _ _ (sub hu rfl) h5_))
            try clear_value x6_
            revert x6_
            refine fr_id ?_
            intro x6_ h6_
            exact (frA_next (State.followAll_frame _ (sub hu rfl) (fr_foldl (fun _ _ h7_ => (State.liveLog_frame _ _ (sub hu rfl) h7_))
            h6_)))))
        · exact (frA_next hz))
    · exact (frA_next hz))

end Sys2Proof.Machine
end

