-- ==== Sys2Proof/Laws/FrameBanFrames.lean ====
section
/-!
SUPPORT. What the operations of Machine/BanFrames.lean may change (Laws/Frames.lean).
-/
namespace Sys2Proof.Machine

theorem State.msgAct_frame {F : Place → Bool} {z : State} (s : State) (a : Arrival) (m : BanMsg)
    (hu : Al F [.ban, .wear, .rio, .rx, .firstOut, .posted, .firstLatch, .isl, .scn, .gb, .axes, .power, .fpl, .tim, .lp, .pgn, .regs, .can, .free, .slv, .resp, .mem, .gates, .nb, .maintAt, .saf, .latch, .frc, .heads, .anx, .staged, .rnd]) (hz : Fr F z s) :
    Fr F z (State.msgAct s a m) := by
  unfold State.msgAct
  extract_lets +onlyGivenNames x0_
  extract_lets +onlyGivenNames x1_
  exact (by
    split
    · exact (State.heartbeatTake_frame _ _ _ _ (sub hu rfl) hz)
    · exact (State.beaconTake_frame _ _ _ _ (sub hu rfl) hz)
    · exact (State.roleTake_frame _ _ _ (sub hu rfl) hz)
    · exact (State.nakTake_frame _ _ (sub hu rfl) hz)
    · exact (State.agreementTake_frame _ _ (sub hu rfl) hz)
    · exact (State.agreeAckTake_frame _ _ _ (sub hu rfl) hz)
    · exact (State.rxMirrorTake_frame _ _ _ (sub hu rfl) hz)
    · exact (State.mirrorAckTake_frame _ _ (sub hu rfl) hz)
    · exact (fr_ite (State.regMirrors_frame _ _ (sub hu rfl) hz)
      (fr_ite (State.joinLog_frame _ _ _ _ (sub hu rfl) hz)
      hz))
    · extract_lets +onlyGivenNames x2_
      exact (State.digestTake_frame _ _ (sub hu rfl) hz)
    · exact (State.samplesTake_frame _ _ _ _ (sub hu rfl) hz)
    · exact (State.countsTake_frame _ _ _ _ (sub hu rfl) hz)
    · exact (State.permitTake_frame _ _ (sub hu rfl) hz)
    · exact (State.inquiryTake_frame _ _ _ (sub hu rfl) hz)
    · exact (State.handoverTake_frame _ _ _ (sub hu rfl) hz)
    · exact (State.drivingTake_frame _ _ (sub hu rfl) hz)
    · exact (State.releasedTake_frame _ (sub hu rfl) hz)
    · exact (State.joinRequestTake_frame _ _ _ _ _ _ (sub hu rfl) hz)
    · exact (State.joinAnswerTake_frame _ _ _ _ _ (sub hu rfl) hz)
    · exact (State.hamperTake_frame _ _ _ _ _ _ _ _ (sub hu rfl) hz)
    · exact (State.hamperAckTake_frame _ _ _ _ (sub hu rfl) hz)
    · extract_lets +onlyGivenNames x3_
      exact (fr_ite (State.entryAct_frame _ _ (sub hu rfl) hz)
      (fr_ite (State.joinLog_frame _ _ _ _ (sub hu rfl) hz)
      hz))
    · exact (State.caughtUpTake_frame _ (sub hu rfl) hz)
    · exact (State.topupTake_frame _ _ _ (sub hu rfl) hz)
    · exact (State.joinedTake_frame _ (sub hu rfl) hz)
    · exact (State.swapTake_frame _ _ (sub hu rfl) hz)
    · exact (State.readyTake_frame _ _ _ (sub hu rfl) hz)
    · exact (State.shutdownTake_frame _ _ (sub hu rfl) hz))

theorem State.msgTake_frame {F : Place → Bool} {z : State} (s : State) (a : Arrival) (m : BanMsg)
    (hu : Al F [.ban, .wear, .rio, .rx, .firstOut, .posted, .firstLatch, .isl, .scn, .gb, .axes, .power, .fpl, .tim, .lp, .pgn, .regs, .can, .free, .slv, .resp, .mem, .gates, .nb, .maintAt, .saf, .latch, .frc, .heads, .anx, .staged, .rnd]) (hz : Fr F z s) :
    Fr F z (State.msgTake s a m) := by
  unfold State.msgTake
  exact (State.replayGo_frame _ (sub hu rfl) (State.msgAct_frame _ _ _ (sub hu rfl) hz))

theorem State.earlyRun_frame {F : Place → Bool} {z : State} (s : State) (n : Nat)
    (hu : Al F [.ban, .wear, .rio, .rx, .firstOut, .posted, .firstLatch, .isl, .scn, .gb, .axes, .power, .fpl, .tim, .lp, .pgn, .regs, .can, .free, .slv, .resp, .mem, .gates, .nb, .maintAt, .saf, .latch, .frc, .heads, .anx, .staged, .rnd]) (hz : Fr F z s) : Fr F z (State.earlyRun s n) := by
  induction n generalizing s with
  | zero => exact hz
  | succ n ih =>
    unfold State.earlyRun
    split
    · exact hz
    · exact fr_ite hz (ih _ (State.msgTake_frame _ _ _ (sub hu rfl) (fr_ban hz (al hu rfl))))

theorem State.seqTake_frame {F : Place → Bool} {z : State} (s : State) (a : Arrival)
    (hu : Al F [.ban]) (hz : Fr F z s) :
    Fr F z (State.seqTake s a) := by
  unfold State.seqTake
  extract_lets +onlyGivenNames x0_
  extract_lets +onlyGivenNames x1_
  extract_lets +onlyGivenNames x2_
  extract_lets +onlyGivenNames x3_
  extract_lets +onlyGivenNames x4_
  extract_lets +onlyGivenNames x5_
  extract_lets +onlyGivenNames x6_
  have h6_ : Fr F z x6_ := (fr_ban hz (al hu rfl))
  try clear_value x6_
  revert x6_
  refine fr_id ?_
  intro x6_ h6_
  exact (fr_ite (State.hsDone_frame _ _ (sub hu rfl) h6_)
  h6_)

theorem State.gapSeen_frame {F : Place → Bool} {z : State} (s : State) (first : Nat)
    (hu : Al F [.ban]) (hz : Fr F z s) :
    Fr F z (State.gapSeen s first) := by
  unfold State.gapSeen
  exact (by
    split
    · exact hz
    · extract_lets +onlyGivenNames x0_
      exact (fr_ite hz
      (by
        extract_lets +onlyGivenNames x1_
        have h1_ : Fr F z x1_ := (State.banAsk_frame _ _ _ (sub hu rfl) hz)
        try clear_value x1_
        revert x1_
        refine fr_id ?_
        intro x1_ h1_
        exact (fr_ban h1_ (al hu rfl)))))

theorem State.ordTake_frame {F : Place → Bool} {z : State} (s : State) (a : Arrival) (m : BanMsg)
    (hu : Al F [.ban, .wear, .rio, .rx, .firstOut, .posted, .firstLatch, .isl, .scn, .gb, .axes, .power, .fpl, .tim, .lp, .pgn, .regs, .can, .free, .slv, .resp, .mem, .gates, .nb, .maintAt, .saf, .latch, .frc, .heads, .anx, .staged, .rnd]) (hz : Fr F z s) :
    Fr F z (State.ordTake s a m) := by
  unfold State.ordTake
  exact (fr_ite (by
    extract_lets +onlyGivenNames x0_
    extract_lets +onlyGivenNames x1_
    have h1_ : Fr F z x1_ := (fr_ban hz (al hu rfl))
    try clear_value x1_
    revert x1_
    refine fr_id ?_
    intro x1_ h1_
    exact (by
      split
      · exact (fr_ite (State.mirrorAckSend_frame _ (sub hu rfl) h1_)
        h1_)
      · exact h1_))
  (by
    extract_lets +onlyGivenNames x2_
    have h2_ : Fr F z x2_ := (State.msgTake_frame _ _ _ (sub hu rfl) hz)
    try clear_value x2_
    revert x2_
    refine fr_id ?_
    intro x2_ h2_
    exact (State.earlyRun_frame _ _ (sub hu rfl) h2_)))

theorem State.arrive_frame {F : Place → Bool} {z : State} (s : State) (a : Arrival) (m : BanMsg)
    (hu : Al F [.ban, .wear, .rio, .rx, .firstOut, .posted, .firstLatch, .isl, .scn, .gb, .axes, .power, .fpl, .tim, .lp, .pgn, .regs, .can, .free, .slv, .resp, .mem, .gates, .nb, .maintAt, .saf, .latch, .frc, .heads, .anx, .staged, .rnd]) (hz : Fr F z s) :
    Fr F z (State.arrive s a m) := by
  unfold State.arrive
  exact (fr_ite hz
  (fr_ite (State.bump_frame _ _ (sub hu rfl) hz)
  (by
    extract_lets +onlyGivenNames x0_
    have h0_ : Fr F z x0_ := (State.laneSeen_frame _ _ _ (sub hu rfl) hz)
    try clear_value x0_
    revert x0_
    refine fr_id ?_
    intro x0_ h0_
    exact (fr_ite (State.bump_frame _ _ (sub hu rfl) h0_)
    (fr_ite h0_
    (by
      extract_lets +onlyGivenNames x1_
      have h1_ : Fr F z x1_ := (fr_ite (State.gapSeen_frame _ _ (sub hu rfl) h0_)
      h0_)
      try clear_value x1_
      revert x1_
      refine fr_id ?_
      intro x1_ h1_
      exact (State.ordTake_frame _ _ _ (sub hu rfl) (State.seqTake_frame _ _ (sub hu rfl) h1_))))))))

theorem execReady_frame {F : Place → Bool} {z : State} (a : Arrival) (resets : BitVec 32) (discarded : BitVec 32) (s : State)
    (hu : Al F [.ban, .wear, .rio, .rx, .firstOut, .posted, .firstLatch, .isl, .scn, .gb, .axes, .power, .fpl, .tim, .lp, .pgn, .regs, .can, .free, .slv, .resp, .mem, .gates, .nb, .maintAt, .saf, .latch, .frc, .heads, .anx, .staged, .rnd]) (hz : Fr F z s) :
    FrA F z (execReady a resets discarded s) := by
  unfold execReady
  exact (frA_next (State.arrive_frame _ _ _ (sub hu rfl) hz))

theorem execInquiryResult_frame {F : Place → Bool} {z : State} (peer : Option Arrival) (failed : BitVec 5) (s : State)
    (hu : Al F [.ban, .wear, .rio, .rx, .firstOut, .posted, .firstLatch, .isl, .scn, .gb, .axes, .power, .fpl, .tim, .lp, .pgn, .regs, .can, .free, .slv, .resp, .mem, .gates, .nb, .maintAt, .saf, .latch, .frc, .heads, .anx, .staged, .rnd]) (hz : Fr F z s) :
    FrA F z (execInquiryResult peer failed s) := by
  unfold execInquiryResult
  exact (by
    split
    · exact (frA_next (State.arrive_frame _ _ _ (sub hu rfl) hz))
    · exact (fr_iteA (frA_next (State.inquiryTake_frame _ _ _ (sub hu rfl) hz))
      (frA_next hz)))

theorem execRole_frame {F : Place → Bool} {z : State} (a : Arrival) (x : RoleMsg) (s : State)
    (hu : Al F [.ban, .wear, .rio, .rx, .firstOut, .posted, .firstLatch, .isl, .scn, .gb, .axes, .power, .fpl, .tim, .lp, .pgn, .regs, .can, .free, .slv, .resp, .mem, .gates, .nb, .maintAt, .saf, .latch, .frc, .heads, .anx, .staged, .rnd]) (hz : Fr F z s) :
    FrA F z (execRole a x s) := by
  unfold execRole
  exact (frA_next (State.arrive_frame _ _ _ (sub hu rfl) hz))

theorem execHamperAck_frame {F : Place → Bool} {z : State} (a : Arrival) (kind : Byte) (index : BitVec 16) (good : Bool) (s : State)
    (hu : Al F [.ban, .wear, .rio, .rx, .firstOut, .posted, .firstLatch, .isl, .scn, .gb, .axes, .power, .fpl, .tim, .lp, .pgn, .regs, .can, .free, .slv, .resp, .mem, .gates, .nb, .maintAt, .saf, .latch, .frc, .heads, .anx, .staged, .rnd]) (hz : Fr F z s) :
    FrA F z (execHamperAck a kind index good s) := by
  unfold execHamperAck
  exact (frA_next (State.arrive_frame _ _ _ (sub hu rfl) hz))

theorem execShutdown_frame {F : Place → Bool} {z : State} (a : Arrival) (serial : BitVec 32) (s : State)
    (hu : Al F [.ban, .wear, .rio, .rx, .firstOut, .posted, .firstLatch, .isl, .scn, .gb, .axes, .power, .fpl, .tim, .lp, .pgn, .regs, .can, .free, .slv, .resp, .mem, .gates, .nb, .maintAt, .saf, .latch, .frc, .heads, .anx, .staged, .rnd]) (hz : Fr F z s) :
    FrA F z (execShutdown a serial s) := by
  unfold execShutdown
  exact (frA_next (State.arrive_frame _ _ _ (sub hu rfl) hz))

theorem execSolverPermit_frame {F : Place → Bool} {z : State} (a : Arrival) (p : SlvPermit) (s : State)
    (hu : Al F [.ban, .wear, .rio, .rx, .firstOut, .posted, .firstLatch, .isl, .scn, .gb, .axes, .power, .fpl, .tim, .lp, .pgn, .regs, .can, .free, .slv, .resp, .mem, .gates, .nb, .maintAt, .saf, .latch, .frc, .heads, .anx, .staged, .rnd]) (hz : Fr F z s) :
    FrA F z (execSolverPermit a p s) := by
  unfold execSolverPermit
  exact (frA_next (State.arrive_frame _ _ _ (sub hu rfl) hz))

theorem execLogEntry_frame {F : Place → Bool} {z : State} (a : Arrival) (x : LogEntry) (s : State)
    (hu : Al F [.ban, .wear, .rio, .rx, .firstOut, .posted, .firstLatch, .isl, .scn, .gb, .axes, .power, .fpl, .tim, .lp, .pgn, .regs, .can, .free, .slv, .resp, .mem, .gates, .nb, .maintAt, .saf, .latch, .frc, .heads, .anx, .staged, .rnd]) (hz : Fr F z s) :
    FrA F z (execLogEntry a x s) := by
  unfold execLogEntry
  exact (frA_next (State.arrive_frame _ _ _ (sub hu rfl) hz))

theorem execLoopSamples_frame {F : Place → Bool} {z : State} (a : Arrival) (samples : List LoopSmp) (ecc : List (Fin 512)) (slots : Fin 513) (s : State)
    (hu : Al F [.ban, .wear, .rio, .rx, .firstOut, .posted, .firstLatch, .isl, .scn, .gb, .axes, .power, .fpl, .tim, .lp, .pgn, .regs, .can, .free, .slv, .resp, .mem, .gates, .nb, .maintAt, .saf, .latch, .frc, .heads, .anx, .staged, .rnd]) (hz : Fr F z s) :
    FrA F z (execLoopSamples a samples ecc slots s) := by
  unfold execLoopSamples
  exact (frA_next (State.arrive_frame _ _ _ (sub hu rfl) hz))

theorem execRegMirror_frame {F : Place → Bool} {z : State} (a : Arrival) (entries : List RegMirror) (s : State)
    (hu : Al F [.ban, .wear, .rio, .rx, .firstOut, .posted, .firstLatch, .isl, .scn, .gb, .axes, .power, .fpl, .tim, .lp, .pgn, .regs, .can, .free, .slv, .resp, .mem, .gates, .nb, .maintAt, .saf, .latch, .frc, .heads, .anx, .staged, .rnd]) (hz : Fr F z s) :
    FrA F z (execRegMirror a entries s) := by
  unfold execRegMirror
  exact (frA_next (State.arrive_frame _ _ _ (sub hu rfl) hz))

theorem execHandover_frame {F : Place → Bool} {z : State} (a : Arrival) (x : Notice) (s : State)
    (hu : Al F [.ban, .wear, .rio, .rx, .firstOut, .posted, .firstLatch, .isl, .scn, .gb, .axes, .power, .fpl, .tim, .lp, .pgn, .regs, .can, .free, .slv, .resp, .mem, .gates, .nb, .maintAt, .saf, .latch, .frc, .heads, .anx, .staged, .rnd]) (hz : Fr F z s) :
    FrA F z (execHandover a x s) := by
  unfold execHandover
  exact (frA_next (State.arrive_frame _ _ _ (sub hu rfl) hz))

theorem execAxisCounts_frame {F : Place → Bool} {z : State} (a : Arrival) (counts : List (Option (BitVec 48))) (loss : BitVec 8) (bad : BitVec 8) (s : State)
    (hu : Al F [.ban, .wear, .rio, .rx, .firstOut, .posted, .firstLatch, .isl, .scn, .gb, .axes, .power, .fpl, .tim, .lp, .pgn, .regs, .can, .free, .slv, .resp, .mem, .gates, .nb, .maintAt, .saf, .latch, .frc, .heads, .anx, .staged, .rnd]) (hz : Fr F z s) :
    FrA F z (execAxisCounts a counts loss bad s) := by
  unfold execAxisCounts
  exact (frA_next (State.arrive_frame _ _ _ (sub hu rfl) hz))

theorem execRxMirror_frame {F : Place → Bool} {z : State} (a : Arrival) (entries : List Mirrored) (s : State)
    (hu : Al F [.ban, .wear, .rio, .rx, .firstOut, .posted, .firstLatch, .isl, .scn, .gb, .axes, .power, .fpl, .tim, .lp, .pgn, .regs, .can, .free, .slv, .resp, .mem, .gates, .nb, .maintAt, .saf, .latch, .frc, .heads, .anx, .staged, .rnd]) (hz : Fr F z s) :
    FrA F z (execRxMirror a entries s) := by
  unfold execRxMirror
  exact (frA_next (State.arrive_frame _ _ _ (sub hu rfl) hz))

theorem execAgreeAck_frame {F : Place → Bool} {z : State} (a : Arrival) (tick : Nat) (crc : BitVec 32) (s : State)
    (hu : Al F [.ban, .wear, .rio, .rx, .firstOut, .posted, .firstLatch, .isl, .scn, .gb, .axes, .power, .fpl, .tim, .lp, .pgn, .regs, .can, .free, .slv, .resp, .mem, .gates, .nb, .maintAt, .saf, .latch, .frc, .heads, .anx, .staged, .rnd]) (hz : Fr F z s) :
    FrA F z (execAgreeAck a tick crc s) := by
  unfold execAgreeAck
  exact (frA_next (State.arrive_frame _ _ _ (sub hu rfl) hz))

theorem execHeartbeat_frame {F : Place → Bool} {z : State} (a : Arrival) (role : Fin 8) (lanes : Fin 4) (phase : Fin 250000) (s : State)
    (hu : Al F [.ban, .wear, .rio, .rx, .firstOut, .posted, .firstLatch, .isl, .scn, .gb, .axes, .power, .fpl, .tim, .lp, .pgn, .regs, .can, .free, .slv, .resp, .mem, .gates, .nb, .maintAt, .saf, .latch, .frc, .heads, .anx, .staged, .rnd]) (hz : Fr F z s) :
    FrA F z (execHeartbeat a role lanes phase s) := by
  unfold execHeartbeat
  exact (frA_next (State.arrive_frame _ _ _ (sub hu rfl) hz))

theorem execBeacon_frame {F : Place → Bool} {z : State} (a : Arrival) (serial : BitVec 32) (caps : BitVec 32) (strap : Fin 4) (role : Fin 8) (s : State)
    (hu : Al F [.ban, .wear, .rio, .rx, .firstOut, .posted, .firstLatch, .isl, .scn, .gb, .axes, .power, .fpl, .tim, .lp, .pgn, .regs, .can, .free, .slv, .resp, .mem, .gates, .nb, .maintAt, .saf, .latch, .frc, .heads, .anx, .staged, .rnd]) (hz : Fr F z s) :
    FrA F z (execBeacon a serial caps strap role s) := by
  unfold execBeacon
  exact (frA_next (State.arrive_frame _ _ _ (sub hu rfl) hz))

theorem execJoinRequest_frame {F : Place → Bool} {z : State} (a : Arrival) (caps : BitVec 32) (station : BitVec 32) (serial : BitVec 32) (sdig : List Byte) (pdig : List Byte) (s : State)
    (hu : Al F [.ban, .wear, .rio, .rx, .firstOut, .posted, .firstLatch, .isl, .scn, .gb, .axes, .power, .fpl, .tim, .lp, .pgn, .regs, .can, .free, .slv, .resp, .mem, .gates, .nb, .maintAt, .saf, .latch, .frc, .heads, .anx, .staged, .rnd]) (hz : Fr F z s) :
    FrA F z (execJoinRequest a caps station serial sdig pdig s) := by
  unfold execJoinRequest
  exact (frA_next (State.arrive_frame _ _ _ (sub hu rfl) hz))

theorem execSwap_frame {F : Place → Bool} {z : State} (a : Arrival) (landing : Nat) (s : State)
    (hu : Al F [.ban, .wear, .rio, .rx, .firstOut, .posted, .firstLatch, .isl, .scn, .gb, .axes, .power, .fpl, .tim, .lp, .pgn, .regs, .can, .free, .slv, .resp, .mem, .gates, .nb, .maintAt, .saf, .latch, .frc, .heads, .anx, .staged, .rnd]) (hz : Fr F z s) :
    FrA F z (execSwap a landing s) := by
  unfold execSwap
  exact (frA_next (State.arrive_frame _ _ _ (sub hu rfl) hz))

theorem execNak_frame {F : Place → Bool} {z : State} (a : Arrival) (seqs : List (BitVec 32)) (s : State)
    (hu : Al F [.ban, .wear, .rio, .rx, .firstOut, .posted, .firstLatch, .isl, .scn, .gb, .axes, .power, .fpl, .tim, .lp, .pgn, .regs, .can, .free, .slv, .resp, .mem, .gates, .nb, .maintAt, .saf, .latch, .frc, .heads, .anx, .staged, .rnd]) (hz : Fr F z s) :
    FrA F z (execNak a seqs s) := by
  unfold execNak
  exact (frA_next (State.arrive_frame _ _ _ (sub hu rfl) hz))

theorem execJoinAnswer_frame {F : Place → Bool} {z : State} (a : Arrival) (reason : Byte) (upgrade : Bool) (caps : BitVec 32) (l : Option Nat) (s : State)
    (hu : Al F [.ban, .wear, .rio, .rx, .firstOut, .posted, .firstLatch, .isl, .scn, .gb, .axes, .power, .fpl, .tim, .lp, .pgn, .regs, .can, .free, .slv, .resp, .mem, .gates, .nb, .maintAt, .saf, .latch, .frc, .heads, .anx, .staged, .rnd]) (hz : Fr F z s) :
    FrA F z (execJoinAnswer a reason upgrade caps l s) := by
  unfold execJoinAnswer
  exact (frA_next (State.arrive_frame _ _ _ (sub hu rfl) hz))

theorem execReleased_frame {F : Place → Bool} {z : State} (a : Arrival) (s : State)
    (hu : Al F [.ban, .wear, .rio, .rx, .firstOut, .posted, .firstLatch, .isl, .scn, .gb, .axes, .power, .fpl, .tim, .lp, .pgn, .regs, .can, .free, .slv, .resp, .mem, .gates, .nb, .maintAt, .saf, .latch, .frc, .heads, .anx, .staged, .rnd]) (hz : Fr F z s) :
    FrA F z (execReleased a s) := by
  unfold execReleased
  exact (frA_next (State.arrive_frame _ _ _ (sub hu rfl) hz))

theorem execCaughtUp_frame {F : Place → Bool} {z : State} (a : Arrival) (pos : Nat) (s : State)
    (hu : Al F [.ban, .wear, .rio, .rx, .firstOut, .posted, .firstLatch, .isl, .scn, .gb, .axes, .power, .fpl, .tim, .lp, .pgn, .regs, .can, .free, .slv, .resp, .mem, .gates, .nb, .maintAt, .saf, .latch, .frc, .heads, .anx, .staged, .rnd]) (hz : Fr F z s) :
    FrA F z (execCaughtUp a pos s) := by
  unfold execCaughtUp
  exact (frA_next (State.arrive_frame _ _ _ (sub hu rfl) hz))

theorem execDigest_frame {F : Place → Bool} {z : State} (a : Arrival) (t : Fin 16) (missed : Bool) (noImage : Bool) (cycle : Nat) (value : BitVec 64) (s : State)
    (hu : Al F [.ban, .wear, .rio, .rx, .firstOut, .posted, .firstLatch, .isl, .scn, .gb, .axes, .power, .fpl, .tim, .lp, .pgn, .regs, .can, .free, .slv, .resp, .mem, .gates, .nb, .maintAt, .saf, .latch, .frc, .heads, .anx, .staged, .rnd]) (hz : Fr F z s) :
    FrA F z (execDigest a t missed noImage cycle value s) := by
  unfold execDigest
  exact (frA_next (State.arrive_frame _ _ _ (sub hu rfl) hz))

theorem execJoined_frame {F : Place → Bool} {z : State} (a : Arrival) (gbSeq : BitVec 32) (s : State)
    (hu : Al F [.ban, .wear, .rio, .rx, .firstOut, .posted, .firstLatch, .isl, .scn, .gb, .axes, .power, .fpl, .tim, .lp, .pgn, .regs, .can, .free, .slv, .resp, .mem, .gates, .nb, .maintAt, .saf, .latch, .frc, .heads, .anx, .staged, .rnd]) (hz : Fr F z s) :
    FrA F z (execJoined a gbSeq s) := by
  unfold execJoined
  exact (frA_next (State.arrive_frame _ _ _ (sub hu rfl) hz))

theorem execMirrorAck_frame {F : Place → Bool} {z : State} (a : Arrival) (upTo : BitVec 32) (s : State)
    (hu : Al F [.ban, .wear, .rio, .rx, .firstOut, .posted, .firstLatch, .isl, .scn, .gb, .axes, .power, .fpl, .tim, .lp, .pgn, .regs, .can, .free, .slv, .resp, .mem, .gates, .nb, .maintAt, .saf, .latch, .frc, .heads, .anx, .staged, .rnd]) (hz : Fr F z s) :
    FrA F z (execMirrorAck a upTo s) := by
  unfold execMirrorAck
  exact (frA_next (State.arrive_frame _ _ _ (sub hu rfl) hz))

theorem execAgreement_frame {F : Place → Bool} {z : State} (a : Arrival) (g : Agreement) (s : State)
    (hu : Al F [.ban, .wear, .rio, .rx, .firstOut, .posted, .firstLatch, .isl, .scn, .gb, .axes, .power, .fpl, .tim, .lp, .pgn, .regs, .can, .free, .slv, .resp, .mem, .gates, .nb, .maintAt, .saf, .latch, .frc, .heads, .anx, .staged, .rnd]) (hz : Fr F z s) :
    FrA F z (execAgreement a g s) := by
  unfold execAgreement
  exact (frA_next (State.arrive_frame _ _ _ (sub hu rfl) hz))

theorem execDriving_frame {F : Place → Bool} {z : State} (a : Arrival) (offset : Nat) (s : State)
    (hu : Al F [.ban, .wear, .rio, .rx, .firstOut, .posted, .firstLatch, .isl, .scn, .gb, .axes, .power, .fpl, .tim, .lp, .pgn, .regs, .can, .free, .slv, .resp, .mem, .gates, .nb, .maintAt, .saf, .latch, .frc, .heads, .anx, .staged, .rnd]) (hz : Fr F z s) :
    FrA F z (execDriving a offset s) := by
  unfold execDriving
  exact (frA_next (State.arrive_frame _ _ _ (sub hu rfl) hz))

theorem execTopup_frame {F : Place → Bool} {z : State} (a : Arrival) (payload : List Byte) (s : State)
    (hu : Al F [.ban, .wear, .rio, .rx, .firstOut, .posted, .firstLatch, .isl, .scn, .gb, .axes, .power, .fpl, .tim, .lp, .pgn, .regs, .can, .free, .slv, .resp, .mem, .gates, .nb, .maintAt, .saf, .latch, .frc, .heads, .anx, .staged, .rnd]) (hz : Fr F z s) :
    FrA F z (execTopup a payload s) := by
  unfold execTopup
  exact (frA_next (State.arrive_frame _ _ _ (sub hu rfl) hz))

theorem execHamper_frame {F : Place → Bool} {z : State} (a : Arrival) (kind : Byte) (index : BitVec 16) (offset : Nat) (total : Nat) (last : Bool) (data : List Byte) (s : State)
    (hu : Al F [.ban, .wear, .rio, .rx, .firstOut, .posted, .firstLatch, .isl, .scn, .gb, .axes, .power, .fpl, .tim, .lp, .pgn, .regs, .can, .free, .slv, .resp, .mem, .gates, .nb, .maintAt, .saf, .latch, .frc, .heads, .anx, .staged, .rnd]) (hz : Fr F z s) :
    FrA F z (execHamper a kind index offset total last data s) := by
  unfold execHamper
  exact (frA_next (State.arrive_frame _ _ _ (sub hu rfl) hz))

end Sys2Proof.Machine
end

