-- ==== Sys2Proof/Laws/FrameRoundsStep.lean ====
section
/-!
SUPPORT. What the operations of Machine/RoundsStep.lean may change (Laws/Frames.lean).
-/
namespace Sys2Proof.Machine

theorem execRndStep_frame {F : Place → Bool} {z : State} (item : Fin 17) (us : Fin 6) (find : RndFind) (s : State)
    (hu : Al F [.ban, .scn, .gb, .regs, .can, .slv, .gates, .frc, .anx, .rnd]) (hz : Fr F z s) :
    FrA F z (execRndStep item us find s) := by
  unfold execRndStep
  extract_lets +onlyGivenNames x0_
  extract_lets +onlyGivenNames x1_
  have h1_ : Fr F z x1_ := (State.rndExpire_frame _ (sub hu rfl) (fr_frc hz (al hu rfl)))
  try clear_value x1_
  revert x1_
  refine fr_id ?_
  intro x1_ h1_
  exact (by
    split
    · exact (frA_next h1_)
    · extract_lets +onlyGivenNames x2_
      extract_lets +onlyGivenNames x3_
      extract_lets +onlyGivenNames x4_
      exact (fr_iteA (by
        extract_lets +onlyGivenNames x5_
        extract_lets +onlyGivenNames x6_
        extract_lets +onlyGivenNames x7_
        extract_lets +onlyGivenNames x8_
        extract_lets +onlyGivenNames x9_
        have h9_ : Fr F z x9_ := (State.rndWakes_frame _ _ (sub hu rfl) h1_)
        try clear_value x9_
        revert x9_
        refine fr_id ?_
        intro x9_ h9_
        extract_lets +onlyGivenNames x10_
        have h10_ : Fr F z x10_ := (fr_rnd h9_ (al hu rfl))
        try clear_value x10_
        revert x10_
        refine fr_id ?_
        intro x10_ h10_
        extract_lets +onlyGivenNames x11_
        have h11_ : Fr F z x11_ := (State.wr_frame _ _ _ (sub hu rfl) h10_)
        try clear_value x11_
        revert x11_
        refine fr_id ?_
        intro x11_ h11_
        extract_lets +onlyGivenNames x12_
        have h12_ : Fr F z x12_ := by
          subst x12_
          exact (by
            split
            · exact (State.faultTrigger_frame _ _ (sub hu rfl) (State.rndFail_frame _ _ _ (sub hu rfl) h11_))
            · exact (State.faultTrigger_frame _ _ (sub hu rfl) (State.rndFail_frame _ _ _ (sub hu rfl) h11_))
            · exact (State.rndFail_frame _ _ _ (sub hu rfl) h11_)
            · exact (State.post_frame _ _ _ _ _ _ (sub hu rfl) h11_)
            · exact h11_)
        try clear_value x12_
        revert x12_
        refine fr_id ?_
        intro x12_ h12_
        extract_lets +onlyGivenNames x13_
        extract_lets +onlyGivenNames x14_
        have h14_ : Fr F z x14_ := (fr_ite (State.wr_frame _ _ _ (sub hu rfl) (State.wr_frame _ _ _ (sub hu rfl) h12_))
        h12_)
        try clear_value x14_
        revert x14_
        refine fr_id ?_
        intro x14_ h14_
        exact (frA_next (State.rndShow_frame _ (sub hu rfl) (State.rndPass_frame _ (sub hu rfl) h14_))))
      (frA_next h1_)))

end Sys2Proof.Machine
end

