-- ==== Sys2Proof/Laws/FrameSolverRun.lean ====
section
/-!
SUPPORT. What the operations of Machine/SolverRun.lean may change (Laws/Frames.lean).
-/
namespace Sys2Proof.Machine

theorem execSolverTake_frame {F : Place → Bool} {z : State} (ecc : Bool) (s : State)
    (hu : Al F [.ban, .posted, .scn, .gb, .regs, .can, .slv, .gates, .anx, .rnd]) (hz : Fr F z s) :
    FrA F z (execSolverTake ecc s) := by
  unfold execSolverTake
  exact (fr_iteA (by
    split
    · exact (fr_iteA (by
        extract_lets +onlyGivenNames x0_
        extract_lets +onlyGivenNames x1_
        have h1_ : Fr F z x1_ := (State.slvTake_frame _ _ _ _ (sub hu rfl) hz)
        try clear_value x1_
        revert x1_
        refine fr_id ?_
        intro x1_ h1_
        extract_lets +onlyGivenNames x2_
        have h2_ : Fr F z x2_ := (State.slvSendTake_frame _ _ (sub hu rfl) h1_)
        try clear_value x2_
        revert x2_
        refine fr_id ?_
        intro x2_ h2_
        exact (frA_next (fr_ite (State.faultTrigger_frame _ _ (sub hu rfl) h2_)
        h2_)))
      (fr_iteA (frA_next (State.slvAwait_frame _ (sub hu rfl) (State.slvFollow_frame _ (sub hu rfl) hz)))
      (frA_next hz)))
    · exact (frA_next hz))
  (frA_next hz))

theorem execSolverIteration_frame {F : Place → Bool} {z : State} (ecc : Bool) (s : State)
    (hu : Al F [.ban, .posted, .scn, .gb, .regs, .can, .slv, .gates, .anx, .rnd]) (hz : Fr F z s) :
    FrA F z (execSolverIteration ecc s) := by
  unfold execSolverIteration
  exact (by
    split
    · exact (fr_iteA (frA_next hz)
      (fr_iteA (fr_iteA (by
        extract_lets +onlyGivenNames x0_
        have h0_ : Fr F z x0_ := (State.slvIterate_frame _ _ _ _ (sub hu rfl) hz)
        try clear_value x0_
        revert x0_
        refine fr_id ?_
        intro x0_ h0_
        extract_lets +onlyGivenNames x1_
        have h1_ : Fr F z x1_ := (State.slvSendIterate_frame _ _ _ (sub hu rfl) h0_)
        try clear_value x1_
        revert x1_
        refine fr_id ?_
        intro x1_ h1_
        exact (frA_next (fr_ite (State.faultTrigger_frame _ _ (sub hu rfl) h1_)
        h1_)))
      (frA_next (State.slvStop_frame _ _ (sub hu rfl) (State.slvSend_frame _ _ _ _ (sub hu rfl) hz))))
      (fr_iteA (frA_next (State.slvAwait_frame _ (sub hu rfl) (State.slvFollow_frame _ (sub hu rfl) hz)))
      (frA_next hz))))
    · exact (frA_next hz))

end Sys2Proof.Machine
end

