-- ==== Sys2Proof/Laws/FrameTelegrams.lean ====
section
/-!
SUPPORT. What the operations of Machine/Telegrams.lean may change (Laws/Frames.lean).
-/
namespace Sys2Proof.Machine

theorem State.tgSecond_frame {F : Place → Bool} {z : State} (s : State) (x : TgConn)
    (hu : Al F [.saf, .frc]) (hz : Fr F z s) :
    Fr F z (State.tgSecond s x) := by
  unfold State.tgSecond
  exact (by
    split
    · exact (State.waitTo_frame _ _ (sub hu rfl) hz)
    · exact hz)

theorem State.tgMiss_frame {F : Place → Bool} {z : State} (s : State) (c : Nat) (net : Nat)
    (hu : Al F [.saf]) (hz : Fr F z s) :
    Fr F z (State.tgMiss s c net) := by
  unfold State.tgMiss
  extract_lets +onlyGivenNames x0_
  extract_lets +onlyGivenNames x1_
  have h1_ : Fr F z x1_ := (State.setTg_frame _ _ _ (sub hu rfl) hz)
  try clear_value x1_
  revert x1_
  refine fr_id ?_
  intro x1_ h1_
  exact (fr_foldl (fun _ _ h2_ => (fr_ite (State.spoil_frame _ _ (sub hu rfl) h2_)
  h2_))
  h1_)

theorem State.tgHeldOver_frame {F : Place → Bool} {z : State} (s : State) (c : Nat)
    (hu : Al F [.saf]) (hz : Fr F z s) :
    Fr F z (State.tgHeldOver s c) := by
  unfold State.tgHeldOver
  extract_lets +onlyGivenNames x0_
  exact (by
    split
    · exact (State.tgMiss_frame _ _ _ (sub hu rfl) (State.setTg_frame _ _ _ (sub hu rfl) hz))
    · exact hz)

theorem execHeldCopyExpire_frame {F : Place → Bool} {z : State} (c : Fin 64) (s : State)
    (hu : Al F [.saf, .frc]) (hz : Fr F z s) :
    FrA F z (execHeldCopyExpire c s) := by
  unfold execHeldCopyExpire
  extract_lets +onlyGivenNames x0_
  exact (fr_iteA (frA_next (State.tgHeldOver_frame _ _ (sub hu rfl) (State.waitTo_frame _ _ (sub hu rfl) hz)))
  (frA_next hz))

theorem State.tgDiscard_frame {F : Place → Bool} {z : State} (s : State) (c : Nat) (port : Nat) (why : Nat)
    (hu : Al F [.gb, .regs, .gates, .saf]) (hz : Fr F z s) :
    Fr F z (State.tgDiscard s c port why) := by
  unfold State.tgDiscard
  extract_lets +onlyGivenNames x0_
  extract_lets +onlyGivenNames x1_
  extract_lets +onlyGivenNames x2_
  extract_lets +onlyGivenNames x3_
  have h3_ : Fr F z x3_ := (fr_ite (fr_saf hz (al hu rfl))
  (State.setTg_frame _ _ _ (sub hu rfl) hz))
  try clear_value x3_
  revert x3_
  refine fr_id ?_
  intro x3_ h3_
  exact (State.post_frame _ _ _ _ _ _ (sub hu rfl) h3_)

theorem State.tgTrip_frame {F : Place → Bool} {z : State} (s : State) (c : Nat)
    (hu : Al F [.firstOut, .gb, .regs, .gates, .nb, .saf]) (hz : Fr F z s) :
    Fr F z (State.tgTrip s c) := by
  unfold State.tgTrip
  exact (State.matrix_frame _ (sub hu rfl) (State.funTrips_frame _ _ _ (sub hu rfl) hz))

theorem State.tgPost_frame {F : Place → Bool} {z : State} (s : State) (c : Nat) (x : TgConn)
    (hu : Al F [.ban, .gb, .pgn, .regs, .resp, .gates]) (hz : Fr F z s) :
    Fr F z (State.tgPost s c x) := by
  unfold State.tgPost
  exact (by
    split
    · exact hz
    · extract_lets +onlyGivenNames x0_
      extract_lets +onlyGivenNames x1_
      have h1_ : Fr F z x1_ := (fr_foldl (fun _ _ h2_ => (State.wr_frame _ _ _ (sub hu rfl) h2_))
      hz)
      try clear_value x1_
      revert x1_
      refine fr_id ?_
      intro x1_ h1_
      exact (State.pgnPost_frame _ _ _ _ (sub hu rfl) (State.wr_frame _ _ _ (sub hu rfl) h1_)))

theorem State.tgReport_frame {F : Place → Bool} {z : State} (s : State) (c : Nat)
    (hu : Al F [.ban, .gb, .pgn, .regs, .resp, .gates]) (hz : Fr F z s) :
    Fr F z (State.tgReport s c) := by
  unfold State.tgReport
  exact (fr_ite (State.tgPost_frame _ _ _ (sub hu rfl) hz)
  hz)

theorem State.tgState_frame {F : Place → Bool} {z : State} (s : State) (c : Nat) (x : TgConn)
    (hu : Al F [.ban, .gb, .pgn, .regs, .resp, .gates, .saf]) (hz : Fr F z s) :
    Fr F z (State.tgState s c x) := by
  unfold State.tgState
  extract_lets +onlyGivenNames x0_
  extract_lets +onlyGivenNames x1_
  extract_lets +onlyGivenNames x2_
  have h2_ : Fr F z x2_ := (State.setTg_frame _ _ _ (sub hu rfl) hz)
  try clear_value x2_
  revert x2_
  refine fr_id ?_
  intro x2_ h2_
  exact (fr_ite h2_
  (State.tgReport_frame _ _ (sub hu rfl) h2_))

theorem execConnReport_frame {F : Place → Bool} {z : State} (which : Option (Fin 64)) (s : State)
    (hu : Al F [.ban, .gb, .pgn, .regs, .resp, .gates, .saf, .frc]) (hz : Fr F z s) :
    FrA F z (execConnReport which s) := by
  unfold execConnReport
  exact (fr_iteA (frA_next hz)
  (by
    split
    · exact (fr_iteA (frA_next hz)
      (by
        extract_lets +onlyGivenNames x0_
        have h0_ : Fr F z x0_ := (State.tgSecond_frame _ _ (sub hu rfl) hz)
        try clear_value x0_
        revert x0_
        refine fr_id ?_
        intro x0_ h0_
        exact (frA_next (State.tgReport_frame _ _ (sub hu rfl) (State.setTg_frame _ _ _ (sub hu rfl) h0_)))))
    · extract_lets +onlyGivenNames x1_
      have h1_ : Fr F z x1_ := (State.tgSecond_frame _ _ (sub hu rfl) hz)
      try clear_value x1_
      revert x1_
      refine fr_id ?_
      intro x1_ h1_
      extract_lets +onlyGivenNames x2_
      extract_lets +onlyGivenNames x3_
      extract_lets +onlyGivenNames x4_
      have h4_ : Fr F z x4_ := (fr_saf h1_ (al hu rfl))
      try clear_value x4_
      revert x4_
      refine fr_id ?_
      intro x4_ h4_
      exact (frA_next (State.tgPost_frame _ _ _ (sub hu rfl) h4_))))

theorem State.funReturn_frame {F : Place → Bool} {z : State} (s : State) (f : Nat)
    (hu : Al F [.ban, .firstOut, .gb, .pgn, .regs, .resp, .gates, .nb, .saf]) (hz : Fr F z s) :
    Fr F z (State.funReturn s f) := by
  unfold State.funReturn
  extract_lets +onlyGivenNames x0_
  extract_lets +onlyGivenNames x1_
  extract_lets +onlyGivenNames x2_
  have h2_ : Fr F z x2_ := (fr_ite (State.wr_frame _ _ _ (sub hu rfl) (fr_saf hz (al hu rfl)))
  hz)
  try clear_value x2_
  revert x2_
  refine fr_id ?_
  intro x2_ h2_
  extract_lets +onlyGivenNames x3_
  extract_lets +onlyGivenNames x4_
  have h4_ : Fr F z x4_ := (fr_ite (State.wr_frame _ _ _ (sub hu rfl) (fr_saf h2_ (al hu rfl)))
  h2_)
  try clear_value x4_
  revert x4_
  refine fr_id ?_
  intro x4_ h4_
  extract_lets +onlyGivenNames x5_
  have h5_ : Fr F z x5_ := (fr_foldl (fun _ _ h6_ => (by
    extract_lets +onlyGivenNames x7_
    exact (fr_ite (State.post_frame _ _ _ _ _ _ (sub hu rfl) (State.tgState_frame _ _ _ (sub hu rfl) h6_))
    h6_)))
  h4_)
  try clear_value x5_
  revert x5_
  refine fr_id ?_
  intro x5_ h5_
  extract_lets +onlyGivenNames x8_
  extract_lets +onlyGivenNames x9_
  have h9_ : Fr F z x9_ := (State.wr_frame _ _ _ (sub hu rfl) (State.wr_frame _ _ _ (sub hu rfl) (State.wr_frame _ _ _ (sub hu rfl) h5_)))
  try clear_value x9_
  revert x9_
  refine fr_id ?_
  intro x9_ h9_
  exact (State.matrix_frame _ (sub hu rfl) (State.safSummary_frame _ (sub hu rfl) (State.post_frame _ _ _ _ _ _ (sub hu rfl) (State.setFunBad_frame _ _ _ (sub hu rfl) h9_))))

theorem execTgTimeout_frame {F : Place → Bool} {z : State} (c : Fin 64) (s : State)
    (hu : Al F [.ban, .firstOut, .gb, .pgn, .regs, .resp, .gates, .nb, .saf, .frc]) (hz : Fr F z s) :
    FrA F z (execTgTimeout c s) := by
  unfold execTgTimeout
  extract_lets +onlyGivenNames x0_
  exact (fr_iteA (by
    extract_lets +onlyGivenNames x1_
    have h1_ : Fr F z x1_ := (State.waitTo_frame _ _ (sub hu rfl) hz)
    try clear_value x1_
    revert x1_
    refine fr_id ?_
    intro x1_ h1_
    extract_lets +onlyGivenNames x2_
    have h2_ : Fr F z x2_ := (State.tgState_frame _ _ _ (sub hu rfl) h1_)
    try clear_value x2_
    revert x2_
    refine fr_id ?_
    intro x2_ h2_
    exact (frA_next (State.tgTrip_frame _ _ (sub hu rfl) (State.post_frame _ _ _ _ _ _ (sub hu rfl) h2_))))
  (frA_next hz))

theorem State.tgMismatch_frame {F : Place → Bool} {z : State} (s : State) (c : Nat) (a : List Byte) (b : List Byte)
    (hu : Al F [.ban, .firstOut, .gb, .pgn, .regs, .resp, .gates, .nb, .saf]) (hz : Fr F z s) :
    Fr F z (State.tgMismatch s c a b) := by
  unfold State.tgMismatch
  extract_lets +onlyGivenNames x0_
  extract_lets +onlyGivenNames x1_
  have h1_ : Fr F z x1_ := (State.tgState_frame _ _ _ (sub hu rfl) hz)
  try clear_value x1_
  revert x1_
  refine fr_id ?_
  intro x1_ h1_
  exact (State.tgTrip_frame _ _ (sub hu rfl) (State.post_frame _ _ _ _ _ _ (sub hu rfl) h1_))

theorem execReturnCheckEnd_frame {F : Place → Bool} {z : State} (f : Fin 64) (proc : Bool) (s : State)
    (hu : Al F [.ban, .firstOut, .gb, .pgn, .regs, .resp, .gates, .nb, .saf, .frc]) (hz : Fr F z s) :
    FrA F z (execReturnCheckEnd f proc s) := by
  unfold execReturnCheckEnd
  extract_lets +onlyGivenNames x0_
  exact (fr_iteA (frA_next hz)
  (fr_iteA (frA_next (State.funExpire_frame _ _ (sub hu rfl) hz))
  (by
    extract_lets +onlyGivenNames x1_
    have h1_ : Fr F z x1_ := (State.wr_frame _ _ _ (sub hu rfl) (State.waitTo_frame _ _ (sub hu rfl) hz))
    try clear_value x1_
    revert x1_
    refine fr_id ?_
    intro x1_ h1_
    exact (fr_iteA (frA_next (State.funReturn_frame _ _ (sub hu rfl) h1_))
    (frA_next (State.post_frame _ _ _ _ _ _ (sub hu rfl) h1_))))))

theorem State.tgAccept_frame {F : Place → Bool} {z : State} (s : State) (c : Nat) (st : Nat) (t : List Byte)
    (hu : Al F [.ban, .gb, .pgn, .regs, .resp, .gates, .saf]) (hz : Fr F z s) :
    Fr F z (State.tgAccept s c st t) := by
  unfold State.tgAccept
  extract_lets +onlyGivenNames x0_
  extract_lets +onlyGivenNames x1_
  extract_lets +onlyGivenNames x2_
  extract_lets +onlyGivenNames x3_
  have h3_ : Fr F z x3_ := (State.tgState_frame _ _ _ (sub hu rfl) hz)
  try clear_value x3_
  revert x3_
  refine fr_id ?_
  intro x3_ h3_
  exact (fr_ite (State.post_frame _ _ _ _ _ _ (sub hu rfl) h3_)
  h3_)

theorem execConnRestart_frame {F : Place → Bool} {z : State} (c : Fin 64) (s : State)
    (hu : Al F [.ban, .gb, .pgn, .regs, .resp, .gates, .saf, .frc]) (hz : Fr F z s) :
    FrA F z (execConnRestart c s) := by
  unfold execConnRestart
  extract_lets +onlyGivenNames x0_
  exact (fr_iteA (by
    extract_lets +onlyGivenNames x1_
    have h1_ : Fr F z x1_ := (State.waitTo_frame _ _ (sub hu rfl) hz)
    try clear_value x1_
    revert x1_
    refine fr_id ?_
    intro x1_ h1_
    exact (frA_next (State.tgState_frame _ _ _ (sub hu rfl) h1_)))
  (frA_next hz))

theorem State.tgSingleTake_frame {F : Place → Bool} {z : State} (s : State) (c : Nat) (net : Nat) (t : List Byte)
    (hu : Al F [.ban, .firstOut, .gb, .pgn, .regs, .resp, .gates, .nb, .saf]) (hz : Fr F z s) :
    Fr F z (State.tgSingleTake s c net t) := by
  unfold State.tgSingleTake
  extract_lets +onlyGivenNames x0_
  extract_lets +onlyGivenNames x1_
  have h1_ : Fr F z x1_ := (State.tgAccept_frame _ _ _ _ (sub hu rfl) hz)
  try clear_value x1_
  revert x1_
  refine fr_id ?_
  intro x1_ h1_
  extract_lets +onlyGivenNames x2_
  exact (by
    split
    · exact (fr_ite (by
        extract_lets +onlyGivenNames x3_
        extract_lets +onlyGivenNames x4_
        have h4_ : Fr F z x4_ := (State.setTg_frame _ _ _ (sub hu rfl) h1_)
        try clear_value x4_
        revert x4_
        refine fr_id ?_
        intro x4_ h4_
        exact (fr_ite (State.setTg_frame _ _ _ (sub hu rfl) h4_)
        (State.tgMismatch_frame _ _ _ _ (sub hu rfl) h4_)))
      (State.setTg_frame _ _ _ (sub hu rfl) h1_))
    · exact (State.setTg_frame _ _ _ (sub hu rfl) h1_))

theorem State.tgSkew_frame {F : Place → Bool} {z : State} (s : State) (c : Nat)
    (hu : Al F [.ban, .firstOut, .gb, .pgn, .regs, .resp, .gates, .nb, .saf]) (hz : Fr F z s) :
    Fr F z (State.tgSkew s c) := by
  unfold State.tgSkew
  extract_lets +onlyGivenNames x0_
  exact (by
    split
    · exact hz
    · extract_lets +onlyGivenNames x1_
      extract_lets +onlyGivenNames x2_
      have h2_ : Fr F z x2_ := (State.tgMiss_frame _ _ _ (sub hu rfl) (State.setTg_frame _ _ _ (sub hu rfl) hz))
      try clear_value x2_
      revert x2_
      refine fr_id ?_
      intro x2_ h2_
      exact (fr_ite (by
        extract_lets +onlyGivenNames x3_
        have h3_ : Fr F z x3_ := (State.tgAccept_frame _ _ _ _ (sub hu rfl) h2_)
        try clear_value x3_
        revert x3_
        refine fr_id ?_
        intro x3_ h3_
        extract_lets +onlyGivenNames x4_
        have h4_ : Fr F z x4_ := (State.post_frame _ _ _ _ _ _ (sub hu rfl) h3_)
        try clear_value x4_
        revert x4_
        refine fr_id ?_
        intro x4_ h4_
        exact (State.matrix_frame _ (sub hu rfl) (State.funFaults_frame _ _ _ _ _ (sub hu rfl) h4_)))
      h2_))

theorem State.tgLate_frame {F : Place → Bool} {z : State} (s : State) (c : Nat) (net : Nat) (t : List Byte)
    (hu : Al F [.ban, .firstOut, .gb, .pgn, .regs, .resp, .gates, .nb, .saf]) (hz : Fr F z s) :
    Fr F z (State.tgLate s c net t) := by
  unfold State.tgLate
  extract_lets +onlyGivenNames x0_
  exact (fr_ite (by
    extract_lets +onlyGivenNames x1_
    exact (State.setTg_frame _ _ _ (sub hu rfl) hz))
  (State.tgMismatch_frame _ _ _ _ (sub hu rfl) hz))

theorem State.tgFirst_frame {F : Place → Bool} {z : State} (s : State) (c : Nat) (net : Nat) (t : List Byte)
    (hu : Al F [.ban, .firstOut, .gb, .pgn, .regs, .resp, .gates, .nb, .saf]) (hz : Fr F z s) :
    Fr F z (State.tgFirst s c net t) := by
  unfold State.tgFirst
  extract_lets +onlyGivenNames x0_
  exact (by
    split
    · exact (fr_ite (State.tgSingleTake_frame _ _ _ _ (sub hu rfl) (fr_ite (State.tgSkew_frame _ _ (sub hu rfl) hz)
      hz))
      (State.setTg_frame _ _ _ (sub hu rfl) hz))
    · exact (State.setTg_frame _ _ _ (sub hu rfl) hz))

theorem execSkewWindowExpire_frame {F : Place → Bool} {z : State} (c : Fin 64) (s : State)
    (hu : Al F [.ban, .firstOut, .gb, .pgn, .regs, .resp, .gates, .nb, .saf, .frc]) (hz : Fr F z s) :
    FrA F z (execSkewWindowExpire c s) := by
  unfold execSkewWindowExpire
  extract_lets +onlyGivenNames x0_
  exact (fr_iteA (frA_next (State.tgSkew_frame _ _ (sub hu rfl) (State.waitTo_frame _ _ (sub hu rfl) hz)))
  (frA_next hz))

theorem State.tgTake_frame {F : Place → Bool} {z : State} (s : State) (c : Nat) (net : Nat) (t : List Byte)
    (hu : Al F [.ban, .firstOut, .gb, .pgn, .regs, .resp, .gates, .nb, .saf]) (hz : Fr F z s) :
    Fr F z (State.tgTake s c net t) := by
  unfold State.tgTake
  extract_lets +onlyGivenNames x0_
  extract_lets +onlyGivenNames x1_
  have h1_ : Fr F z x1_ := (fr_ite (State.tgSkew_frame _ _ (sub hu rfl) hz)
  hz)
  try clear_value x1_
  revert x1_
  refine fr_id ?_
  intro x1_ h1_
  extract_lets +onlyGivenNames x2_
  have h2_ : Fr F z x2_ := (fr_ite (State.tgHeldOver_frame _ _ (sub hu rfl) h1_)
  h1_)
  try clear_value x2_
  revert x2_
  refine fr_id ?_
  intro x2_ h2_
  extract_lets +onlyGivenNames x3_
  exact (fr_ite h2_
  (fr_ite (State.tgLate_frame _ _ _ _ (sub hu rfl) h2_)
  (by
    split
    · exact (State.tgFirst_frame _ _ _ _ (sub hu rfl) h2_)
    · exact (by
        split
        · exact (State.tgFirst_frame _ _ _ _ (sub hu rfl) h2_)
        · exact (fr_ite (State.tgFirst_frame _ _ _ _ (sub hu rfl) (State.tgSkew_frame _ _ (sub hu rfl) h2_))
          (fr_ite (State.tgMismatch_frame _ _ _ _ (sub hu rfl) h2_)
          (fr_ite (State.setTg_frame _ _ _ (sub hu rfl) h2_)
          (State.tgAccept_frame _ _ _ _ (sub hu rfl) h2_))))))))

theorem execTgCopyReceive_frame {F : Place → Bool} {z : State} (port : Fin 4) (f : List Byte) (s : State)
    (hu : Al F [.ban, .firstOut, .gb, .pgn, .regs, .resp, .gates, .nb, .saf]) (hz : Fr F z s) :
    FrA F z (execTgCopyReceive port f s) := by
  unfold execTgCopyReceive
  exact (fr_iteA (frA_next hz)
  (by
    extract_lets +onlyGivenNames x0_
    exact (fr_iteA (frA_next (State.tgDiscard_frame _ _ _ _ (sub hu rfl) hz))
    (fr_iteA (frA_next (State.tgDiscard_frame _ _ _ _ (sub hu rfl) hz))
    (fr_iteA (frA_next (State.tgDiscard_frame _ _ _ _ (sub hu rfl) hz))
    (by
      split
      · exact (frA_next (State.tgDiscard_frame _ _ _ _ (sub hu rfl) hz))
      · extract_lets +onlyGivenNames x1_
        extract_lets +onlyGivenNames x2_
        extract_lets +onlyGivenNames x3_
        exact (fr_iteA (frA_next (State.tgDiscard_frame _ _ _ _ (sub hu rfl) hz))
        (fr_iteA (frA_next (State.tgDiscard_frame _ _ _ _ (sub hu rfl) hz))
        (fr_iteA (frA_next (State.tgDiscard_frame _ _ _ _ (sub hu rfl) hz))
        (fr_iteA (frA_next (State.tgDiscard_frame _ _ _ _ (sub hu rfl) hz))
        (frA_next (State.tgTake_frame _ _ _ _ (sub hu rfl) hz))))))))))))

end Sys2Proof.Machine
end

