-- ==== Sys2Proof/Laws/FrameWake.lean ====
section
/-!
SUPPORT. What the operations of Machine/Wake.lean may change (Laws/Frames.lean).
-/
namespace Sys2Proof.Machine

theorem execEccCorrectable_frame {F : Place → Bool} {z : State} (addr : Nat) (u1 : Byte) (s : State)
    (hu : Al F [.resp, .mem]) (hz : Fr F z s) :
    FrA F z (execEccCorrectable addr u1 s) := by
  unfold execEccCorrectable
  exact (fr_iteA (frA_next (State.answer_frame _ _ (sub hu rfl) (State.setByte_frame _ _ _ (sub hu rfl) hz)))
  (frA_next hz))

theorem State.gateEntered_frame {F : Place → Bool} {z : State} (s : State) (u : GUnit)
    (hu : Al F [.regs, .gates]) (hz : Fr F z s) :
    Fr F z (State.gateEntered s u) := by
  unfold State.gateEntered
  extract_lets +onlyGivenNames x0_
  exact (State.showPower_frame _ _ _ (sub hu rfl) (State.setGate_frame _ _ _ (sub hu rfl) hz))

theorem execUnitGateEntry_frame {F : Place → Bool} {z : State} (u : GUnit) (complete : Bool) (s : State)
    (hu : Al F [.regs, .gates]) (hz : Fr F z s) :
    FrA F z (execUnitGateEntry u complete s) := by
  unfold execUnitGateEntry
  extract_lets +onlyGivenNames x0_
  exact (fr_iteA (frA_next hz)
  (fr_iteA (fr_iteA (frA_next (State.gateEntered_frame _ _ (sub hu rfl) hz))
  (frA_next hz))
  (fr_iteA (frA_next hz)
  (frA_next (State.setGate_frame _ _ _ (sub hu rfl) hz)))))

theorem execUnitWake_frame {F : Place → Bool} {z : State} (u : GUnit) (s : State)
    (hu : Al F [.regs, .gates]) (hz : Fr F z s) :
    FrA F z (execUnitWake u s) := by
  unfold execUnitWake
  exact (fr_iteA (frA_next (State.wake_frame _ _ (sub hu rfl) hz))
  (frA_next hz))

end Sys2Proof.Machine
end

