-- ==== Sys2Proof/Laws/Keeps.lean ====
section
/-!
SUPPORT. What every operation of the block keeps, said once for each: the queue of waiting commands, the module's
identity, the canonical form of the tables and the bounds of the stores.
-/
namespace Sys2Proof.Machine

/-- What `Keeps` says, of the parts of the new state that it is about. -/
def Kept (z : State) (p : List Instr) (i : Identity) (r : Tab 32) (m : Tab 8) (l : Tab 32) (q : List GbEvent)
    (x : List BanFrame) (u : List NbUpd) : Prop :=
  p = z.pending ∧ i = z.ident ∧
    (z.sound = true → Tab.wf r = true ∧ Tab.wf m = true ∧ Tab.wf l = true ∧ q.length ≤ 256 ∧ x.length ≤ 256 ∧
      u.length ≤ 8)

/-- The step from `z` to `s` has kept the queue and the identity, and, where `z` is sound, soundness. -/
def Keeps (z s : State) : Prop :=
  Kept z s.pending s.ident s.regs s.mem s.latch s.gb.queue s.ban.tx s.nb.upds

/-- An answer's next state has kept all that. -/
def KeepsA (z : State) (a : Answer) : Prop := ∀ t, a = .next t → Keeps z t

/-- Two states agree in the parts that `Keeps` is about. -/
def Same (s t : State) : Prop :=
  t.pending = s.pending ∧ t.ident = s.ident ∧ t.regs = s.regs ∧ t.mem = s.mem ∧ t.latch = s.latch ∧
    t.gb.queue = s.gb.queue ∧ t.ban.tx = s.ban.tx ∧ t.nb.upds = s.nb.upds

theorem keeps_self (s : State) : Keeps s s := by
  refine ⟨rfl, rfl, fun h => ?_⟩
  simp only [State.sound, State.tabled, State.bounded, Bool.and_eq_true, decide_eq_true_eq] at h
  obtain ⟨⟨⟨h1, h2⟩, h3⟩, ⟨h4, h5⟩, h6⟩ := h
  exact ⟨h1, h2, h3, h4, h5, h6⟩

theorem Keeps.sound {z s : State} (h : Keeps z s) (hz : z.sound = true) : s.sound = true := by
  obtain ⟨h1, h2, h3, h4, h5, h6⟩ := h.2.2 hz
  simp [State.sound, State.tabled, State.bounded, h1, h2, h3, h4, h5, h6]

theorem Keeps.caps {z s : State} (h : Keeps z s) : s.caps = z.caps := by
  rw [State.caps, State.caps, h.2.1]

theorem keeps_upd {z s t : State} (e : Same s t) (h : Keeps z s) : Keeps z t := by
  obtain ⟨e1, e2, e3, e4, e5, e6, e7, e8⟩ := e
  unfold Keeps
  rw [e1, e2, e3, e4, e5, e6, e7, e8]
  exact h

theorem keeps_gb {z s : State} (h : Keeps z s) (v : Gb) (e : v.queue = s.gb.queue) : Keeps z { s with gb := v } :=
  keeps_upd (s := s) ⟨rfl, rfl, rfl, rfl, rfl, e, rfl, rfl⟩ h

theorem keeps_ban {z s : State} (h : Keeps z s) (v : Ban) (e : v.tx = s.ban.tx) : Keeps z { s with ban := v } :=
  keeps_upd (s := s) ⟨rfl, rfl, rfl, rfl, rfl, rfl, e, rfl⟩ h

theorem keeps_nb {z s : State} (h : Keeps z s) (v : Nb) (e : v.upds = s.nb.upds) : Keeps z { s with nb := v } :=
  keeps_upd (s := s) ⟨rfl, rfl, rfl, rfl, rfl, rfl, rfl, e⟩ h

/-! ### One part replaced that it is not about -/

theorem keeps_resp {z s : State} (h : Keeps z s) (v : Response) : Keeps z { s with resp := v } := h
theorem keeps_staged {z s : State} (h : Keeps z s) (v : List (Nat × Word)) : Keeps z { s with staged := v } := h
theorem keeps_gates {z s : State} (h : Keeps z s) (v : List (Nat × Gate)) : Keeps z { s with gates := v } := h
theorem keeps_free {z s : State} (h : Keeps z s) (v : Nat) : Keeps z { s with free := v } := h
theorem keeps_frc {z s : State} (h : Keeps z s) (v : Nat) : Keeps z { s with frc := v } := h
theorem keeps_keyMaint {z s : State} (h : Keeps z s) (v : Bool) : Keeps z { s with keyMaint := v } := h
theorem keeps_usb {z s : State} (h : Keeps z s) (v : Bool) : Keeps z { s with usb := v } := h
theorem keeps_fpl {z s : State} (h : Keeps z s) (v : Fpl) : Keeps z { s with fpl := v } := h
theorem keeps_power {z s : State} (h : Keeps z s) (v : Power) : Keeps z { s with power := v } := h
theorem keeps_tim {z s : State} (h : Keeps z s) (v : Tim) : Keeps z { s with tim := v } := h
theorem keeps_can {z s : State} (h : Keeps z s) (v : List (Nat × CanChan)) : Keeps z { s with can := v } := h
theorem keeps_eth {z s : State} (h : Keeps z s) (v : List (Nat × EthPort)) : Keeps z { s with eth := v } := h
theorem keeps_ser {z s : State} (h : Keeps z s) (v : List (Nat × Flight)) : Keeps z { s with ser := v } := h
theorem keeps_serEnd {z s : State} (h : Keeps z s) (v : List (Nat × Nat)) : Keeps z { s with serEnd := v } := h
theorem keeps_heads {z s : State} (h : Keeps z s) (v : List (Nat × Nat)) : Keeps z { s with heads := v } := h
theorem keeps_rio {z s : State} (h : Keeps z s) (v : List (Nat × RioLink)) : Keeps z { s with rio := v } := h
theorem keeps_isl {z s : State} (h : Keeps z s) (v : List (Nat × Island)) : Keeps z { s with isl := v } := h
theorem keeps_key {z s : State} (h : Keeps z s) (v : Option KeySession) : Keeps z { s with key := v } := h
theorem keeps_keyRefused {z s : State} (h : Keeps z s) (v : Option Nat) : Keeps z { s with keyRefused := v } := h
theorem keeps_trimPers {z s : State} (h : Keeps z s) (v : List (Nat × Nat)) : Keeps z { s with trimPers := v } := h
theorem keeps_saf {z s : State} (h : Keeps z s) (v : Saf) : Keeps z { s with saf := v } := h
theorem keeps_axes {z s : State} (h : Keeps z s) (v : List (Nat × Axis)) : Keeps z { s with axes := v } := h
theorem keeps_lp {z s : State} (h : Keeps z s) (v : LoopUnit) : Keeps z { s with lp := v } := h
theorem keeps_slv {z s : State} (h : Keeps z s) (v : Slv) : Keeps z { s with slv := v } := h
theorem keeps_firstOut {z s : State} (h : Keeps z s) (v : Option (Nat × Nat × Nat)) : Keeps z { s with firstOut := v } := h
theorem keeps_posted {z s : State} (h : Keeps z s) (v : List (Nat × List Nat)) : Keeps z { s with posted := v } := h
theorem keeps_scn {z s : State} (h : Keeps z s) (v : Scan) : Keeps z { s with scn := v } := h
theorem keeps_rnd {z s : State} (h : Keeps z s) (v : Rnd) : Keeps z { s with rnd := v } := h
theorem keeps_wear {z s : State} (h : Keeps z s) (v : Wear) : Keeps z { s with wear := v } := h
theorem keeps_anx {z s : State} (h : Keeps z s) (v : Anx) : Keeps z { s with anx := v } := h
theorem keeps_rx {z s : State} (h : Keeps z s) (v : List (Nat × RxCount)) : Keeps z { s with rx := v } := h
theorem keeps_maintAt {z s : State} (h : Keeps z s) (v : Nat) : Keeps z { s with maintAt := v } := h
theorem keeps_firstLatch {z s : State} (h : Keeps z s) (v : Bool) : Keeps z { s with firstLatch := v } := h
theorem keeps_pgn {z s : State} (h : Keeps z s) (v : List (Nat × PgnChan)) : Keeps z { s with pgn := v } := h

theorem keeps_id {Q : Prop} (h : Q) : Q := h

theorem keeps_fst {β : Type} {z s : State} {p : State × β} {x : β} (e : p = (s, x)) (h : Keeps z p.1) : Keeps z s := by
  subst e
  exact h

theorem keeps_ite {z s t : State} {c : Prop} [Decidable c] (h1 : Keeps z s) (h2 : Keeps z t) :
    Keeps z (if c then s else t) := by
  split <;> assumption

/-- As `keeps_ite`, where the first arm rests on the condition. -/
theorem keeps_iteC {z s t : State} {c : Prop} [Decidable c] (h1 : c → Keeps z s) (h2 : Keeps z t) :
    Keeps z (if c then s else t) := by
  split
  · exact h1 ‹_›
  · exact h2

theorem keeps_iteA {z : State} {s t : Answer} {c : Prop} [Decidable c] (h1 : KeepsA z s) (h2 : KeepsA z t) :
    KeepsA z (if c then s else t) := by
  split <;> assumption

theorem keeps_iteP {β : Type} {z : State} {s t : State × β} {c : Prop} [Decidable c] (h1 : Keeps z s.1)
    (h2 : Keeps z t.1) : Keeps z (if c then s else t).1 := by
  split <;> assumption

theorem keeps_dite {z : State} {c : Prop} [Decidable c] {s : c → State} {t : ¬c → State} (h1 : ∀ h, Keeps z (s h))
    (h2 : ∀ h, Keeps z (t h)) : Keeps z (if h : c then s h else t h) := by
  split
  · exact h1 _
  · exact h2 _

theorem keeps_diteA {z : State} {c : Prop} [Decidable c] {s : c → Answer} {t : ¬c → Answer} (h1 : ∀ h, KeepsA z (s h))
    (h2 : ∀ h, KeepsA z (t h)) : KeepsA z (if h : c then s h else t h) := by
  split
  · exact h1 _
  · exact h2 _

theorem keeps_foldl {α : Type} {z : State} {f : State → α → State} {l : List α} {s : State}
    (hf : ∀ s x, Keeps z s → Keeps z (f s x)) (h : Keeps z s) : Keeps z (List.foldl f s l) := by
  induction l generalizing s with
  | nil => exact h
  | cons x l ih => exact ih (hf s x h)

theorem keepsA_next {z s : State} (h : Keeps z s) : KeepsA z (.next s) := by
  intro t e
  cases e
  exact h

theorem keepsA_fault {z : State} {r : Fault} : KeepsA z (.fault r) := by
  intro t e
  cases e

theorem keepsA_refused {z : State} {r : Refusal} : KeepsA z (.refused r) := by
  intro t e
  cases e

/-! ### The operations that write a table or a bounded store -/

theorem keeps_put {z : State} (s : State) (a : Nat) (v : Word) (hz : Keeps z s) :
    Keeps z { s with regs := Tab.put s.regs a v } := by
  obtain ⟨hp, hi, h⟩ := hz
  refine ⟨hp, hi, fun hs => ?_⟩
  obtain ⟨h1, h2⟩ := h hs
  exact ⟨Tab.wf_put _ _ _ h1, h2⟩

theorem State.wr_keeps {z : State} (s : State) (f : Fld) (v : Nat) (hz : Keeps z s) : Keeps z (State.wr s f v) :=
  keeps_put _ _ _ hz

theorem State.wrMasked_keeps {z : State} (s : State) (a mask v : Nat) (hz : Keeps z s) :
    Keeps z (State.wrMasked s a mask v) :=
  keeps_put _ _ _ hz

theorem putBytes_wf (m : Tab 8) (a : Nat) (bs : List Byte) (h : Tab.wf m = true) : Tab.wf (putBytes m a bs) = true := by
  induction bs generalizing m a with
  | nil => exact h
  | cons b t ih => exact ih _ _ (Tab.wf_put _ _ _ h)

theorem State.setByte_keeps {z : State} (s : State) (a : Nat) (b : Byte) (hz : Keeps z s) :
    Keeps z (State.setByte s a b) := by
  obtain ⟨hp, hi, h⟩ := hz
  refine ⟨hp, hi, fun hs => ?_⟩
  obtain ⟨h1, h2, h3⟩ := h hs
  exact ⟨h1, Tab.wf_put _ _ _ h2, h3⟩

theorem State.setBytes_keeps {z : State} (s : State) (a : Nat) (bs : List Byte) (hz : Keeps z s) :
    Keeps z (State.setBytes s a bs) := by
  obtain ⟨hp, hi, h⟩ := hz
  refine ⟨hp, hi, fun hs => ?_⟩
  obtain ⟨h1, h2, h3⟩ := h hs
  exact ⟨h1, putBytes_wf _ _ _ h2, h3⟩

theorem State.setLatch_keeps {z : State} (s : State) (m : Master) (hi v : Nat) (hz : Keeps z s) :
    Keeps z (State.setLatch s m hi v) := by
  obtain ⟨hp, hj, h⟩ := hz
  refine ⟨hp, hj, fun hs => ?_⟩
  obtain ⟨h1, h2, h3, h4⟩ := h hs
  exact ⟨h1, h2, Tab.wf_put _ _ _ h3, h4⟩

/-- The Guestbook's queue may be replaced by one of at most 256 events. -/
theorem keeps_queue {z s t : State} (hz : Keeps z s) (hq : z.sound = true → t.gb.queue.length ≤ 256)
    (e : t.pending = s.pending ∧ t.ident = s.ident ∧ t.regs = s.regs ∧ t.mem = s.mem ∧ t.latch = s.latch ∧
      t.ban.tx = s.ban.tx ∧ t.nb.upds = s.nb.upds) : Keeps z t := by
  obtain ⟨e1, e2, e3, e4, e5, e6, e7⟩ := e
  obtain ⟨hp, hi, h⟩ := hz
  refine ⟨e1.trans hp, e2.trans hi, fun hs => ?_⟩
  obtain ⟨h1, h2, h3, h4, h5, h6⟩ := h hs
  rw [e3, e4, e5, e6, e7]
  exact ⟨h1, h2, h3, hq hs, h5, h6⟩

/-- The copies of sent frames may be replaced by at most 256 of them. -/
theorem keeps_tx {z s t : State} (hz : Keeps z s) (hq : z.sound = true → t.ban.tx.length ≤ 256)
    (e : t.pending = s.pending ∧ t.ident = s.ident ∧ t.regs = s.regs ∧ t.mem = s.mem ∧ t.latch = s.latch ∧
      t.gb.queue = s.gb.queue ∧ t.nb.upds = s.nb.upds) : Keeps z t := by
  obtain ⟨e1, e2, e3, e4, e5, e6, e7⟩ := e
  obtain ⟨hp, hi, h⟩ := hz
  refine ⟨e1.trans hp, e2.trans hi, fun hs => ?_⟩
  obtain ⟨h1, h2, h3, h4, h5, h6⟩ := h hs
  rw [e3, e4, e5, e6, e7]
  exact ⟨h1, h2, h3, h4, hq hs, h6⟩

/-- The Noticeboard's updates may be replaced by at most 8 of them. -/
theorem keeps_upds {z s t : State} (hz : Keeps z s) (hq : z.sound = true → t.nb.upds.length ≤ 8)
    (e : t.pending = s.pending ∧ t.ident = s.ident ∧ t.regs = s.regs ∧ t.mem = s.mem ∧ t.latch = s.latch ∧
      t.gb.queue = s.gb.queue ∧ t.ban.tx = s.ban.tx) : Keeps z t := by
  obtain ⟨e1, e2, e3, e4, e5, e6, e7⟩ := e
  obtain ⟨hp, hi, h⟩ := hz
  refine ⟨e1.trans hp, e2.trans hi, fun hs => ?_⟩
  obtain ⟨h1, h2, h3, h4, h5, h6⟩ := h hs
  rw [e3, e4, e5, e6, e7]
  exact ⟨h1, h2, h3, h4, h5, hq hs⟩

/-- The memory, the latches and the bounded stores may be emptied. -/
theorem keeps_clear {z s t : State} (hz : Keeps z s)
    (e : t.pending = s.pending ∧ t.ident = s.ident ∧ t.regs = s.regs ∧ t.mem = [] ∧ t.latch = [] ∧ t.gb.queue = [] ∧
      t.ban.tx = [] ∧ t.nb.upds = []) : Keeps z t := by
  obtain ⟨e1, e2, e3, e4, e5, e6, e7, e8⟩ := e
  obtain ⟨hp, hi, h⟩ := hz
  refine ⟨e1.trans hp, e2.trans hi, fun hs => ?_⟩
  obtain ⟨h1, -⟩ := h hs
  rw [e3, e4, e5, e6, e7, e8]
  exact ⟨h1, rfl, rfl, Nat.zero_le _, Nat.zero_le _, Nat.zero_le _⟩

end Sys2Proof.Machine
end

