-- ==== Sys2Proof/Laws/KeepsOps.lean ====
section
/-!
SUPPORT. What the operations of Machine/Ops.lean keep (Laws/Keeps.lean).
-/
namespace Sys2Proof.Machine

theorem State.waitOp_keeps {z : State} (s : State) (n : Nat) (hz : Keeps z s) : Keeps z (State.waitOp s n) := by
  unfold State.waitOp
  exact keeps_frc hz _

theorem State.useFree_keeps {z : State} (s : State) (hz : Keeps z s) :
    Keeps z (State.useFree s) := by
  unfold State.useFree
  exact (keeps_free hz _)

theorem State.setGate_keeps {z : State} (s : State) (u : GUnit) (g : Gate) (hz : Keeps z s) :
    Keeps z (State.setGate s u g) := by
  unfold State.setGate
  exact (keeps_gates hz _)

theorem State.waitTo_keeps {z : State} (s : State) (t : Nat) (hz : Keeps z s) :
    Keeps z (State.waitTo s t) := by
  unfold State.waitTo
  exact (keeps_ite (keeps_frc hz _)
  (keeps_saf hz _))

theorem State.wr64_keeps {z : State} (s : State) (lo : Fld) (hi2' : Fld) (v : Nat) (hz : Keeps z s) :
    Keeps z (State.wr64 s lo hi2' v) := by
  unfold State.wr64
  exact (State.wr_keeps _ _ _ (State.wr_keeps _ _ _ hz))

theorem State.wrB_keeps {z : State} (s : State) (f : Fld) (b : Bool) (hz : Keeps z s) :
    Keeps z (State.wrB s f b) := by
  unfold State.wrB
  exact (State.wr_keeps _ _ _ hz)

theorem State.bumpBy_keeps {z : State} (s : State) (f : Fld) (n : Nat) (hz : Keeps z s) :
    Keeps z (State.bumpBy s f n) := by
  unfold State.bumpBy
  exact (State.wr_keeps _ _ _ hz)

theorem State.showPower_keeps {z : State} (s : State) (u : GUnit) (on_ : Bool) (hz : Keeps z s) :
    Keeps z (State.showPower s u on_) := by
  unfold State.showPower
  exact (by
    split
    · exact (State.wrB_keeps _ _ _ hz)
    · exact (State.wrB_keeps _ _ _ hz)
    · exact hz)

theorem State.bump_keeps {z : State} (s : State) (f : Fld) (hz : Keeps z s) :
    Keeps z (State.bump s f) := by
  unfold State.bump
  exact (State.wr_keeps _ _ _ hz)

theorem State.gbSuppress_keeps {z : State} (s : State) (code : Nat) (hz : Keeps z s) :
    Keeps z (State.gbSuppress s code) := by
  unfold State.gbSuppress
  extract_lets +onlyGivenNames x0_
  have h0_ : Keeps z x0_ := (keeps_ite (State.bump_keeps _ _ hz)
  hz)
  try clear_value x0_
  revert x0_
  refine keeps_id ?_
  intro x0_ h0_
  extract_lets +onlyGivenNames x1_
  have h1_ : Keeps z x1_ := (State.bump_keeps _ _ h0_)
  try clear_value x1_
  revert x1_
  refine keeps_id ?_
  intro x1_ h1_
  exact (keeps_gb h1_ _ rfl)

theorem State.wake_keeps {z : State} (s : State) (u : GUnit) (hz : Keeps z s) :
    Keeps z (State.wake s u) := by
  unfold State.wake
  extract_lets +onlyGivenNames x0_
  exact (keeps_ite hz
  (keeps_ite (State.setGate_keeps _ _ _ hz)
  (keeps_ite (State.showPower_keeps _ _ _ (State.setGate_keeps _ _ _ hz))
  hz)))

theorem gbEnter_length (e : GbEvent) (l : List GbEvent) : (gbEnter e l).length = l.length + 1 := by
  induction l with
  | nil => rfl
  | cons x t ih =>
    unfold gbEnter
    split
    · rfl
    · rw [List.length_cons, ih, List.length_cons]

theorem State.post_keeps {z : State} (s : State) (source code p1 p2 p3 : Nat) (hz : Keeps z s) :
    Keeps z (State.post s source code p1 p2 p3) := by
  unfold State.post
  have h := State.wake_keeps s GUnit.guestbook hz
  refine keeps_ite hz ?_
  show Keeps z (if (s.wake GUnit.guestbook).gb.queue.length < 256 then _ else _)
  split
  · refine keeps_queue h (fun _ => ?_) ⟨rfl, rfl, rfl, rfl, rfl, rfl, rfl⟩
    rw [gbEnter_length]
    omega
  · exact State.bump_keeps _ _ (State.gbSuppress_keeps _ _ h)

theorem State.ring_keeps {z : State} (s : State) (id : Nat) (hz : Keeps z s) :
    Keeps z (State.ring s id) := by
  unfold State.ring
  exact (keeps_dite (fun _ => (State.wake_keeps _ _ hz))
  (fun _ => (keeps_ite (State.wake_keeps _ _ hz)
  (keeps_ite (State.wake_keeps _ _ hz)
  hz))))

end Sys2Proof.Machine
end

