-- ==== Sys2Proof/Laws/KeepsFlags.lean ====
section
/-!
SUPPORT. What the operations of Machine/Flags.lean keep (Laws/Keeps.lean).
-/
namespace Sys2Proof.Machine

theorem State.cmdStat_keeps {z : State} (s : State) (status : Fld) (reason : Fld) (why : Nat) (hz : Keeps z s) :
    Keeps z (State.cmdStat s status reason why) := by
  unfold State.cmdStat
  exact (State.wr_keeps _ _ _ (State.wr_keeps _ _ _ hz))

end Sys2Proof.Machine
end

