-- ==== Sys2Proof/Laws/KeepsPlan.lean ====
section
/-!
SUPPORT. What the operations of Machine/Plan.lean keep (Laws/Keeps.lean).
-/
namespace Sys2Proof.Machine

theorem State.holdView_keeps {z : State} (s : State) (hz : Keeps z s) :
    Keeps z (State.holdView s) := by
  unfold State.holdView
  exact (by
    split
    · exact (keeps_ite hz
      (keeps_fpl hz _))
    · exact hz)

end Sys2Proof.Machine
end

