-- ==== Sys2Proof/Laws/KeepsOperands.lean ====
section
/-!
SUPPORT. What the operations of Machine/Operands.lean keep (Laws/Keeps.lean).
-/
namespace Sys2Proof.Machine

theorem State.stageLo_keeps {z : State} (s : State) (m : Master) (a : Nat) (v : Nat) (hz : Keeps z s) :
    Keeps z (State.stageLo s m a v) := by
  unfold State.stageLo
  exact (keeps_staged hz _)

theorem State.unstage_keeps {z : State} (s : State) (m : Master) (a : Nat) (hz : Keeps z s) :
    Keeps z (State.unstage s m a) := by
  unfold State.unstage
  exact (keeps_staged hz _)

theorem State.respond_keeps {z : State} (s : State) (r : Response) (hz : Keeps z s) :
    Keeps z (State.respond s r) := by
  unfold State.respond
  exact (keeps_resp hz _)

theorem State.answer_keeps {z : State} (s : State) (data : Nat) (hz : Keeps z s) :
    Keeps z (State.answer s data) := by
  unfold State.answer
  exact (State.respond_keeps _ _ hz)

theorem State.plainWrite_keeps {z : State} (s : State) (r : RegSpec) (a : Nat) (v : Nat) (hz : Keeps z s) :
    Keeps z (State.plainWrite s r a v) := by
  unfold State.plainWrite
  exact (State.wrMasked_keeps _ _ _ _ (State.wrMasked_keeps _ _ _ _ hz))

theorem State.busCapture_keeps {z : State} (s : State) (m : Master) (write : Bool) (a : Nat) (status : Nat) (hz : Keeps z s) :
    Keeps z (State.busCapture s m write a status) := by
  unfold State.busCapture
  exact (keeps_ite (State.wr_keeps _ _ _ hz)
  (State.wr64_keeps _ _ _ _ (State.wrB_keeps _ _ _ (State.wr_keeps _ _ _ (State.wr_keeps _ _ _ (State.wr_keeps _ _ _ hz))))))

theorem State.wakeAt_keeps {z : State} (s : State) (a : Nat) (hz : Keeps z s) :
    Keeps z (State.wakeAt s a) := by
  unfold State.wakeAt
  exact (by
    split
    · exact (State.wake_keeps _ _ hz)
    · exact hz)

theorem State.busFail_keeps {z : State} (s : State) (m : Master) (write : Bool) (a : Nat) (status : Nat) (code : Nat) (hz : Keeps z s) :
    Keeps z (State.busFail s m write a status code) := by
  unfold State.busFail
  extract_lets +onlyGivenNames x0_
  have h0_ : Keeps z x0_ := (State.respond_keeps _ _ hz)
  try clear_value x0_
  revert x0_
  refine keeps_id ?_
  intro x0_ h0_
  exact (State.post_keeps _ _ _ _ _ _ (State.busCapture_keeps _ _ _ _ _ h0_))

theorem State.refuseWrite_keeps {z : State} (s : State) (m : Master) (a : Nat) (hz : Keeps z s) :
    Keeps z (State.refuseWrite s m a) := by
  unfold State.refuseWrite
  exact (State.busFail_keeps _ _ _ _ _ _ hz)

theorem State.access_keeps {z : State} (s : State) (m : Master) (w : Width) (write : Bool) (a : Nat) (k : State → State) (hz : Keeps z s) (hk : ∀ (a0 : State), Keeps z a0 → Keeps z (k a0)) :
    Keeps z (State.access s m w write a k) := by
  unfold State.access
  exact (keeps_ite (by
    split
    · exact (State.busFail_keeps _ _ _ _ _ _ hz)
    · exact (hk _ (State.answer_keeps _ _ (State.wakeAt_keeps _ _ hz))))
  hz)

end Sys2Proof.Machine
end

