-- ==== Sys2Proof/Laws/KeepsIslands.lean ====
section
/-!
SUPPORT. What the operations of Machine/Islands.lean keep (Laws/Keeps.lean).
-/
namespace Sys2Proof.Machine

theorem State.outSample_keeps {z : State} (s : State) (hz : Keeps z s) :
    Keeps z (State.outSample s) := by
  unfold State.outSample
  exact (keeps_ite (keeps_ban hz _ rfl)
  hz)

theorem State.islSupplyShow_keeps {z : State} (s : State) (k : Nat) (mv : Nat) (hz : Keeps z s) :
    Keeps z (State.islSupplyShow s k mv) := by
  unfold State.islSupplyShow
  exact (State.wr_keeps _ _ _ (State.wr_keeps _ _ _ hz))

theorem State.islDiag_keeps {z : State} (s : State) (k : Nat) (hz : Keeps z s) :
    Keeps z (State.islDiag s k) := by
  unfold State.islDiag
  exact (keeps_foldl (fun _ _ h0_ => (keeps_ite (by
    extract_lets +onlyGivenNames x1_
    exact (State.wr_keeps _ _ _ (State.wr_keeps _ _ _ h0_)))
  h0_))
  hz)

theorem State.wearSwitch_keeps {z : State} (s : State) (n : Nat) (was : Bool) (now : Bool) (hz : Keeps z s) :
    Keeps z (State.wearSwitch s n was now) := by
  unfold State.wearSwitch
  exact (keeps_ite (State.wr64_keeps _ _ _ _ hz)
  (keeps_ite (State.useFree_keeps _ (State.wr64_keeps _ _ _ _ hz))
  hz))

theorem State.islBad_keeps {z : State} (s : State) (k : Nat) (hz : Keeps z s) :
    Keeps z (State.islBad s k) := by
  unfold State.islBad
  exact (keeps_foldl (fun _ _ h0_ => (State.wr_keeps _ _ _ (State.wr_keeps _ _ _ h0_)))
  hz)

theorem State.setIsland_keeps {z : State} (s : State) (k : Nat) (x : Island) (hz : Keeps z s) :
    Keeps z (State.setIsland s k x) := by
  unfold State.setIsland
  extract_lets +onlyGivenNames x0_
  extract_lets +onlyGivenNames x1_
  extract_lets +onlyGivenNames x2_
  have h2_ : Keeps z x2_ := (keeps_foldl (fun _ _ h3_ => (State.wearSwitch_keeps _ _ _ _ h3_))
  hz)
  try clear_value x2_
  revert x2_
  refine keeps_id ?_
  intro x2_ h2_
  exact (keeps_isl h2_ _)

theorem execBarrierFrameSend_keeps {z : State} (k : Fin 8) (s : State) (hz : Keeps z s) :
    KeepsA z (execBarrierFrameSend k s) := by
  unfold execBarrierFrameSend
  exact (keeps_iteA (by
    extract_lets +onlyGivenNames x0_
    extract_lets +onlyGivenNames x1_
    extract_lets +onlyGivenNames x2_
    have h2_ : Keeps z x2_ := (keeps_frc hz _)
    try clear_value x2_
    revert x2_
    refine keeps_id ?_
    intro x2_ h2_
    exact (keepsA_next (State.setIsland_keeps _ _ _ h2_)))
  (keepsA_next hz))

theorem State.islShowCh_keeps {z : State} (s : State) (k : Nat) (c : Nat) (word : Nat) (hdr4' : Nat) (hz : Keeps z s) :
    Keeps z (State.islShowCh s k c word hdr4') := by
  unfold State.islShowCh
  extract_lets +onlyGivenNames x0_
  extract_lets +onlyGivenNames x1_
  extract_lets +onlyGivenNames x2_
  extract_lets +onlyGivenNames x3_
  extract_lets +onlyGivenNames x4_
  extract_lets +onlyGivenNames x5_
  extract_lets +onlyGivenNames x6_
  extract_lets +onlyGivenNames x7_
  extract_lets +onlyGivenNames x8_
  extract_lets +onlyGivenNames x9_
  extract_lets +onlyGivenNames x10_
  extract_lets +onlyGivenNames x11_
  extract_lets +onlyGivenNames x12_
  extract_lets +onlyGivenNames x13_
  extract_lets +onlyGivenNames x14_
  extract_lets +onlyGivenNames x15_
  extract_lets +onlyGivenNames x16_
  have h16_ : Keeps z x16_ := (State.wr_keeps _ _ _ (State.wr_keeps _ _ _ hz))
  try clear_value x16_
  revert x16_
  refine keeps_id ?_
  intro x16_ h16_
  extract_lets +onlyGivenNames x17_
  have h17_ : Keeps z x17_ := (keeps_ite h16_
  (State.wr_keeps _ _ _ h16_))
  try clear_value x17_
  revert x17_
  refine keeps_id ?_
  intro x17_ h17_
  exact (keeps_ite (by
    extract_lets +onlyGivenNames x18_
    have h18_ : Keeps z x18_ := (State.wrB_keeps _ _ _ (State.wrB_keeps _ _ _ (State.wrB_keeps _ _ _ h17_)))
    try clear_value x18_
    revert x18_
    refine keeps_id ?_
    intro x18_ h18_
    exact (State.wr_keeps _ _ _ (State.wrB_keeps _ _ _ h18_)))
  (keeps_ite (by
    extract_lets +onlyGivenNames x19_
    have h19_ : Keeps z x19_ := (State.wrB_keeps _ _ _ (State.wrB_keeps _ _ _ (State.wrB_keeps _ _ _ h17_)))
    try clear_value x19_
    revert x19_
    refine keeps_id ?_
    intro x19_ h19_
    exact (State.wr_keeps _ _ _ h19_))
  h17_))

theorem execIslandLogicReset_keeps {z : State} (k : Fin 8) (s : State) (hz : Keeps z s) :
    KeepsA z (execIslandLogicReset k s) := by
  unfold execIslandLogicReset
  extract_lets +onlyGivenNames x0_
  exact (keeps_iteA (by
    extract_lets +onlyGivenNames x1_
    exact (keepsA_next (State.setIsland_keeps _ _ _ hz)))
  (keepsA_next hz))

theorem State.islCmdWrite_keeps {z : State} (s : State) (k : Nat) (value : Nat) (hz : Keeps z s) :
    Keeps z (State.islCmdWrite s k value) := by
  unfold State.islCmdWrite
  extract_lets +onlyGivenNames x0_
  extract_lets +onlyGivenNames x1_
  extract_lets +onlyGivenNames x2_
  exact (keeps_ite hz
  (keeps_ite (keeps_ite (State.cmdStat_keeps _ _ _ _ hz)
  (keeps_ite (State.cmdStat_keeps _ _ _ _ hz)
  (keeps_ite (State.cmdStat_keeps _ _ _ _ hz)
  (State.setIsland_keeps _ _ _ (State.cmdStat_keeps _ _ _ _ hz)))))
  (keeps_ite (keeps_foldl (fun _ _ h3_ => (State.wr_keeps _ _ _ h3_))
  (State.cmdStat_keeps _ _ _ _ hz))
  hz)))

theorem execKillLineChange_keeps {z : State} (k : Fin 8) (s : State) (hz : Keeps z s) :
    KeepsA z (execKillLineChange k s) := by
  unfold execKillLineChange
  exact (keeps_iteA (keepsA_next (State.setIsland_keeps _ _ _ hz))
  (keepsA_next hz))

theorem execRestoreChannelOn_keeps {z : State} (k : Fin 8) (s : State) (hz : Keeps z s) :
    KeepsA z (execRestoreChannelOn k s) := by
  unfold execRestoreChannelOn
  extract_lets +onlyGivenNames x0_
  exact (keeps_iteA (by
    extract_lets +onlyGivenNames x1_
    have h1_ : Keeps z x1_ := (State.waitTo_keeps _ _ hz)
    try clear_value x1_
    revert x1_
    refine keeps_id ?_
    intro x1_ h1_
    exact (keepsA_next (State.setIsland_keeps _ _ _ h1_)))
  (keepsA_next hz))

theorem execInputSample_keeps {z : State} (k : Fin 8) (smp : List DigSample) (s : State) (hz : Keeps z s) :
    KeepsA z (execInputSample k smp s) := by
  unfold execInputSample
  extract_lets +onlyGivenNames x0_
  exact (keeps_iteA (by
    extract_lets +onlyGivenNames x1_
    have h1_ : Keeps z x1_ := (State.waitTo_keeps _ _ hz)
    try clear_value x1_
    revert x1_
    refine keeps_id ?_
    intro x1_ h1_
    exact (keepsA_next (State.outSample_keeps _ (State.setIsland_keeps _ _ _ h1_))))
  (keepsA_next hz))

theorem State.islSdi_keeps {z : State} (s : State) (k : Nat) (f : List Byte) (hz : Keeps z s) :
    Keeps z (State.islSdi s k f) := by
  unfold State.islSdi
  exact (keeps_ite (by
    extract_lets +onlyGivenNames x0_
    extract_lets +onlyGivenNames x1_
    extract_lets +onlyGivenNames x2_
    extract_lets +onlyGivenNames x3_
    extract_lets +onlyGivenNames x4_
    extract_lets +onlyGivenNames x5_
    extract_lets +onlyGivenNames x6_
    extract_lets +onlyGivenNames x7_
    have h7_ : Keeps z x7_ := (State.setIsland_keeps _ _ _ hz)
    try clear_value x7_
    revert x7_
    refine keeps_id ?_
    intro x7_ h7_
    exact (keeps_ite h7_
    (keeps_saf h7_ _)))
  hz)

theorem execIslandWatchdog_keeps {z : State} (k : Fin 8) (s : State) (hz : Keeps z s) :
    KeepsA z (execIslandWatchdog k s) := by
  unfold execIslandWatchdog
  extract_lets +onlyGivenNames x0_
  exact (keeps_iteA (by
    extract_lets +onlyGivenNames x1_
    have h1_ : Keeps z x1_ := (State.waitTo_keeps _ _ hz)
    try clear_value x1_
    revert x1_
    refine keeps_id ?_
    intro x1_ h1_
    exact (keepsA_next (State.setIsland_keeps _ _ _ h1_)))
  (keepsA_next hz))

theorem State.islFaultOn_keeps {z : State} (s : State) (k : Nat) (hz : Keeps z s) :
    Keeps z (State.islFaultOn s k) := by
  unfold State.islFaultOn
  extract_lets +onlyGivenNames x0_
  extract_lets +onlyGivenNames x1_
  have h1_ : Keeps z x1_ := (State.wr_keeps _ _ _ (State.setIsland_keeps _ _ _ hz))
  try clear_value x1_
  revert x1_
  refine keeps_id ?_
  intro x1_ h1_
  exact (State.post_keeps _ _ _ _ _ _ (State.bump_keeps _ _ (State.islBad_keeps _ _ h1_)))

theorem State.setCh_keeps {z : State} (s : State) (k : Nat) (c : Nat) (h3' : IslChan) (hz : Keeps z s) :
    Keeps z (State.setCh s k c h3') := by
  unfold State.setCh
  exact (State.setIsland_keeps _ _ _ hz)

theorem State.sagRelease_keeps {z : State} (s : State) (k : Nat) (cause : Nat) (hz : Keeps z s) :
    Keeps z (State.sagRelease s k cause) := by
  unfold State.sagRelease
  extract_lets +onlyGivenNames x0_
  exact (keeps_ite (State.post_keeps _ _ _ _ _ _ (State.setIsland_keeps _ _ _ hz))
  hz)

theorem execGroupOverloadStep_keeps {z : State} (k : Fin 8) (total : Nat) (s : State) (hz : Keeps z s) :
    KeepsA z (execGroupOverloadStep k total s) := by
  unfold execGroupOverloadStep
  extract_lets +onlyGivenNames x0_
  extract_lets +onlyGivenNames x1_
  have h1_ : Keeps z x1_ := (keeps_ite (State.waitTo_keeps _ _ hz)
  hz)
  try clear_value x1_
  revert x1_
  refine keeps_id ?_
  intro x1_ h1_
  exact (keeps_iteA (keepsA_next h1_)
  (keeps_iteA (by
    split
    · exact (keepsA_next h1_)
    · extract_lets +onlyGivenNames x2_
      extract_lets +onlyGivenNames x3_
      extract_lets +onlyGivenNames x4_
      exact (keepsA_next (State.bump_keeps _ _ (State.setIsland_keeps _ _ _ h1_))))
  (by
    split
    · exact (keepsA_next (State.post_keeps _ _ _ _ _ _ (State.setIsland_keeps _ _ _ h1_)))
    · exact (keepsA_next h1_))))

theorem State.islBadSlots_keeps {z : State} (s : State) (k : Nat) (n : Nat) (hz : Keeps z s) :
    Keeps z (State.islBadSlots s k n) := by
  unfold State.islBadSlots
  extract_lets +onlyGivenNames x0_
  extract_lets +onlyGivenNames x1_
  have h1_ : Keeps z x1_ := (State.bumpBy_keeps _ _ _ hz)
  try clear_value x1_
  revert x1_
  refine keeps_id ?_
  intro x1_ h1_
  extract_lets +onlyGivenNames x2_
  have h2_ : Keeps z x2_ := (State.setIsland_keeps _ _ _ h1_)
  try clear_value x2_
  revert x2_
  refine keeps_id ?_
  intro x2_ h2_
  exact (keeps_ite (State.islFaultOn_keeps _ _ h2_)
  h2_)

theorem execRestoreReady_keeps {z : State} (k : Fin 8) (supply : Nat) (s : State) (hz : Keeps z s) :
    KeepsA z (execRestoreReady k supply s) := by
  unfold execRestoreReady
  extract_lets +onlyGivenNames x0_
  exact (keeps_iteA (by
    extract_lets +onlyGivenNames x1_
    have h1_ : Keeps z x1_ := (State.waitTo_keeps _ _ hz)
    try clear_value x1_
    revert x1_
    refine keeps_id ?_
    intro x1_ h1_
    extract_lets +onlyGivenNames x2_
    have h2_ : Keeps z x2_ := (State.setIsland_keeps _ _ _ h1_)
    try clear_value x2_
    revert x2_
    refine keeps_id ?_
    intro x2_ h2_
    exact (keepsA_next (keeps_ite (State.sagRelease_keeps _ _ _ h2_)
    h2_)))
  (keepsA_next hz))

theorem execWireBreakEnd_keeps {z : State} (k : Fin 8) (c : Fin 8) (s : State) (hz : Keeps z s) :
    KeepsA z (execWireBreakEnd k c s) := by
  unfold execWireBreakEnd
  extract_lets +onlyGivenNames x0_
  extract_lets +onlyGivenNames x1_
  exact (keeps_iteA (by
    extract_lets +onlyGivenNames x2_
    have h2_ : Keeps z x2_ := (State.waitTo_keeps _ _ hz)
    try clear_value x2_
    revert x2_
    refine keeps_id ?_
    intro x2_ h2_
    exact (keepsA_next (State.post_keeps _ _ _ _ _ _ (State.setCh_keeps _ _ _ _ h2_))))
  (keepsA_next hz))

theorem execWireBreak_keeps {z : State} (k : Fin 8) (c : Fin 8) (uA : Nat) (s : State) (hz : Keeps z s) :
    KeepsA z (execWireBreak k c uA s) := by
  unfold execWireBreak
  extract_lets +onlyGivenNames x0_
  extract_lets +onlyGivenNames x1_
  exact (keeps_iteA (by
    extract_lets +onlyGivenNames x2_
    have h2_ : Keeps z x2_ := (State.waitTo_keeps _ _ hz)
    try clear_value x2_
    revert x2_
    refine keeps_id ?_
    intro x2_ h2_
    extract_lets +onlyGivenNames x3_
    have h3_ : Keeps z x3_ := (State.bump_keeps _ _ (State.setCh_keeps _ _ _ _ h2_))
    try clear_value x3_
    revert x3_
    refine keeps_id ?_
    intro x3_ h3_
    exact (keepsA_next (State.post_keeps _ _ _ _ _ _ h3_)))
  (keepsA_next hz))

theorem State.islMeasure_keeps {z : State} (s : State) (k : Nat) (supply : Nat) (hz : Keeps z s) :
    Keeps z (State.islMeasure s k supply) := by
  unfold State.islMeasure
  extract_lets +onlyGivenNames x0_
  extract_lets +onlyGivenNames x1_
  extract_lets +onlyGivenNames x2_
  extract_lets +onlyGivenNames x3_
  have h3_ : Keeps z x3_ := (State.setIsland_keeps _ _ _ hz)
  try clear_value x3_
  revert x3_
  refine keeps_id ?_
  intro x3_ h3_
  exact (keeps_ite (State.post_keeps _ _ _ _ _ _ h3_)
  h3_)

theorem State.islHdr_keeps {z : State} (s : State) (k : Nat) (hdr2' : Nat) (hz : Keeps z s) :
    Keeps z (State.islHdr s k hdr2') := by
  unfold State.islHdr
  extract_lets +onlyGivenNames x0_
  extract_lets +onlyGivenNames x1_
  extract_lets +onlyGivenNames x2_
  have h2_ : Keeps z x2_ := (State.wrB_keeps _ _ _ (State.wrB_keeps _ _ _ (State.wrB_keeps _ _ _ (State.wrB_keeps _ _ _ hz))))
  try clear_value x2_
  revert x2_
  refine keeps_id ?_
  intro x2_ h2_
  extract_lets +onlyGivenNames x3_
  have h3_ : Keeps z x3_ := (State.wrB_keeps _ _ _ (State.wrB_keeps _ _ _ (State.wrB_keeps _ _ _ h2_)))
  try clear_value x3_
  revert x3_
  refine keeps_id ?_
  intro x3_ h3_
  exact (keeps_ite (State.post_keeps _ _ _ _ _ _ h3_)
  h3_)

theorem State.islPulse_keeps {z : State} (s : State) (k : Nat) (c : Nat) (word : Nat) (fault : Bool) (hz : Keeps z s) :
    Keeps z (State.islPulse s k c word fault) := by
  unfold State.islPulse
  extract_lets +onlyGivenNames x0_
  extract_lets +onlyGivenNames x1_
  extract_lets +onlyGivenNames x2_
  extract_lets +onlyGivenNames x3_
  extract_lets +onlyGivenNames x4_
  have h4_ : Keeps z x4_ := (State.setCh_keeps _ _ _ _ hz)
  try clear_value x4_
  revert x4_
  refine keeps_id ?_
  intro x4_ h4_
  exact (State.wr_keeps _ _ _ h4_)

theorem execDoRetry_keeps {z : State} (k : Fin 8) (c : Fin 8) (limits : Bool) (s : State) (hz : Keeps z s) :
    KeepsA z (execDoRetry k c limits s) := by
  unfold execDoRetry
  extract_lets +onlyGivenNames x0_
  extract_lets +onlyGivenNames x1_
  extract_lets +onlyGivenNames x2_
  exact (keeps_iteA (keeps_iteA (keepsA_next (State.setCh_keeps _ _ _ _ (State.waitTo_keeps _ _ hz)))
  (keepsA_next (State.setCh_keeps _ _ _ _ (State.waitTo_keeps _ _ hz))))
  (keepsA_next hz))

theorem State.islTake_keeps {z : State} (s : State) (k : Nat) (f : List Byte) (hz : Keeps z s) :
    Keeps z (State.islTake s k f) := by
  unfold State.islTake
  extract_lets +onlyGivenNames x0_
  extract_lets +onlyGivenNames x1_
  extract_lets +onlyGivenNames x2_
  extract_lets +onlyGivenNames x3_
  extract_lets +onlyGivenNames x4_
  extract_lets +onlyGivenNames x5_
  extract_lets +onlyGivenNames x6_
  extract_lets +onlyGivenNames x7_
  extract_lets +onlyGivenNames x8_
  extract_lets +onlyGivenNames x9_
  extract_lets +onlyGivenNames x10_
  extract_lets +onlyGivenNames x11_
  have h11_ : Keeps z x11_ := (State.setIsland_keeps _ _ _ hz)
  try clear_value x11_
  revert x11_
  refine keeps_id ?_
  intro x11_ h11_
  exact (keeps_ite (State.sagRelease_keeps _ _ _ h11_)
  h11_)

theorem execIslandSupplyReturn_keeps {z : State} (k : Fin 8) (supply : Nat) (s : State) (hz : Keeps z s) :
    KeepsA z (execIslandSupplyReturn k supply s) := by
  unfold execIslandSupplyReturn
  extract_lets +onlyGivenNames x0_
  exact (keeps_iteA (keepsA_next (State.islMeasure_keeps _ _ _ (State.setIsland_keeps _ _ _ hz)))
  (keepsA_next hz))

theorem execDoOverload_keeps {z : State} (k : Fin 8) (c : Fin 8) (mA : Nat) (s : State) (hz : Keeps z s) :
    KeepsA z (execDoOverload k c mA s) := by
  unfold execDoOverload
  extract_lets +onlyGivenNames x0_
  extract_lets +onlyGivenNames x1_
  exact (keeps_iteA (by
    extract_lets +onlyGivenNames x2_
    have h2_ : Keeps z x2_ := (State.waitTo_keeps _ _ hz)
    try clear_value x2_
    revert x2_
    refine keeps_id ?_
    intro x2_ h2_
    extract_lets +onlyGivenNames x3_
    have h3_ : Keeps z x3_ := (State.bump_keeps _ _ (State.setCh_keeps _ _ _ _ h2_))
    try clear_value x3_
    revert x3_
    refine keeps_id ?_
    intro x3_ h3_
    exact (keepsA_next (State.post_keeps _ _ _ _ _ _ h3_)))
  (keepsA_next hz))

theorem State.setOut_keeps {z : State} (s : State) (k : Nat) (c : Nat) (value : Nat) (hz : Keeps z s) :
    Keeps z (State.setOut s k c value) := by
  unfold State.setOut
  extract_lets +onlyGivenNames x0_
  extract_lets +onlyGivenNames x1_
  have h1_ : Keeps z x1_ := (State.setCh_keeps _ _ _ _ hz)
  try clear_value x1_
  revert x1_
  refine keeps_id ?_
  intro x1_ h1_
  exact (keeps_ite (by
    extract_lets +onlyGivenNames x2_
    extract_lets +onlyGivenNames x3_
    exact (State.wrB_keeps _ _ _ (State.wrB_keeps _ _ _ h1_)))
  h1_)

theorem State.islLock_keeps {z : State} (s : State) (k : Nat) (hz : Keeps z s) :
    Keeps z (State.islLock s k) := by
  unfold State.islLock
  extract_lets +onlyGivenNames x0_
  have h0_ : Keeps z x0_ := (State.wrB_keeps _ _ _ (State.wrB_keeps _ _ _ hz))
  try clear_value x0_
  revert x0_
  refine keeps_id ?_
  intro x0_ h0_
  exact (keeps_foldl (fun _ _ h1_ => (by
    extract_lets +onlyGivenNames x2_
    extract_lets +onlyGivenNames x3_
    have h3_ : Keeps z x3_ := (State.wr_keeps _ _ _ (State.wr_keeps _ _ _ h1_))
    try clear_value x3_
    revert x3_
    refine keeps_id ?_
    intro x3_ h3_
    extract_lets +onlyGivenNames x4_
    extract_lets +onlyGivenNames x5_
    have h5_ : Keeps z x5_ := (State.setCh_keeps _ _ _ _ h3_)
    try clear_value x5_
    revert x5_
    refine keeps_id ?_
    intro x5_ h5_
    extract_lets +onlyGivenNames x6_
    have h6_ : Keeps z x6_ := (State.wr_keeps _ _ _ h5_)
    try clear_value x6_
    revert x6_
    refine keeps_id ?_
    intro x6_ h6_
    extract_lets +onlyGivenNames x7_
    have h7_ : Keeps z x7_ := (keeps_ite h5_
    (keeps_trimPers h6_ _))
    try clear_value x7_
    revert x7_
    refine keeps_id ?_
    intro x7_ h7_
    exact (State.setOut_keeps _ _ _ _ h7_)))
  h0_)

theorem execIslandFrameReceive_keeps {z : State} (k : Fin 8) (s : State) (hz : Keeps z s) :
    KeepsA z (execIslandFrameReceive k s) := by
  unfold execIslandFrameReceive
  extract_lets +onlyGivenNames x0_
  exact (keeps_iteA (keepsA_next (State.islTake_keeps _ _ _ (keeps_frc hz _)))
  (keepsA_next hz))

theorem execSagOff_keeps {z : State} (k : Fin 8) (supply : Nat) (s : State) (hz : Keeps z s) :
    KeepsA z (execSagOff k supply s) := by
  unfold execSagOff
  exact (keeps_iteA (by
    extract_lets +onlyGivenNames x0_
    have h0_ : Keeps z x0_ := (State.waitTo_keeps _ _ hz)
    try clear_value x0_
    revert x0_
    refine keeps_id ?_
    intro x0_ h0_
    extract_lets +onlyGivenNames x1_
    have h1_ : Keeps z x1_ := (State.islMeasure_keeps _ _ _ h0_)
    try clear_value x1_
    revert x1_
    refine keeps_id ?_
    intro x1_ h1_
    extract_lets +onlyGivenNames x2_
    extract_lets +onlyGivenNames x3_
    extract_lets +onlyGivenNames x4_
    extract_lets +onlyGivenNames x5_
    have h5_ : Keeps z x5_ := (State.setIsland_keeps _ _ _ h1_)
    try clear_value x5_
    revert x5_
    refine keeps_id ?_
    intro x5_ h5_
    exact (keepsA_next (keeps_ite h5_
    (State.post_keeps _ _ _ _ _ _ h5_))))
  (keepsA_next hz))

theorem State.islGood_keeps {z : State} (s : State) (k : Nat) (f : List Byte) (hz : Keeps z s) :
    Keeps z (State.islGood s k f) := by
  unfold State.islGood
  extract_lets +onlyGivenNames x0_
  extract_lets +onlyGivenNames x1_
  extract_lets +onlyGivenNames x2_
  extract_lets +onlyGivenNames x3_
  have h3_ : Keeps z x3_ := (keeps_ite (State.islBadSlots_keeps _ _ _ hz)
  hz)
  try clear_value x3_
  revert x3_
  refine keeps_id ?_
  intro x3_ h3_
  extract_lets +onlyGivenNames x4_
  extract_lets +onlyGivenNames x5_
  extract_lets +onlyGivenNames x6_
  have h6_ : Keeps z x6_ := (State.setIsland_keeps _ _ _ h3_)
  try clear_value x6_
  revert x6_
  refine keeps_id ?_
  intro x6_ h6_
  extract_lets +onlyGivenNames x7_
  have h7_ : Keeps z x7_ := (State.islHdr_keeps _ _ _ h6_)
  try clear_value x7_
  revert x7_
  refine keeps_id ?_
  intro x7_ h7_
  extract_lets +onlyGivenNames x8_
  have h8_ : Keeps z x8_ := (keeps_ite (State.islSupplyShow_keeps _ _ _ h7_)
  h7_)
  try clear_value x8_
  revert x8_
  refine keeps_id ?_
  intro x8_ h8_
  extract_lets +onlyGivenNames x9_
  have h9_ : Keeps z x9_ := (State.islSdi_keeps _ _ _ h8_)
  try clear_value x9_
  revert x9_
  refine keeps_id ?_
  intro x9_ h9_
  extract_lets +onlyGivenNames x10_
  have h10_ : Keeps z x10_ := (keeps_ite (State.post_keeps _ _ _ _ _ _ (State.wr_keeps _ _ _ h9_))
  h9_)
  try clear_value x10_
  revert x10_
  refine keeps_id ?_
  intro x10_ h10_
  extract_lets +onlyGivenNames x11_
  exact (keeps_foldl (fun _ _ h12_ => (by
    extract_lets +onlyGivenNames x13_
    extract_lets +onlyGivenNames x14_
    have h14_ : Keeps z x14_ := (keeps_ite (State.islPulse_keeps _ _ _ _ _ h12_)
    h12_)
    try clear_value x14_
    revert x14_
    refine keeps_id ?_
    intro x14_ h14_
    exact (keeps_ite h14_
    (State.islShowCh_keeps _ _ _ _ _ h14_))))
  h10_)

theorem execBarrierSlot_keeps {z : State} (k : Fin 8) (good : Bool) (skip : Fin 256) (field : IslField) (s : State) (hz : Keeps z s) :
    KeepsA z (execBarrierSlot k good skip field s) := by
  unfold execBarrierSlot
  exact (keeps_iteA (keepsA_next hz)
  (by
    extract_lets +onlyGivenNames x0_
    extract_lets +onlyGivenNames x1_
    extract_lets +onlyGivenNames x2_
    have h2_ : Keeps z x2_ := (State.setIsland_keeps _ _ _ (keeps_frc hz _))
    try clear_value x2_
    revert x2_
    refine keeps_id ?_
    intro x2_ h2_
    extract_lets +onlyGivenNames x3_
    exact (keeps_iteA (keepsA_next (State.islBadSlots_keeps _ _ _ h2_))
    (by
      extract_lets +onlyGivenNames x4_
      have h4_ : Keeps z x4_ := (State.islMeasure_keeps _ _ _ h2_)
      try clear_value x4_
      revert x4_
      refine keeps_id ?_
      intro x4_ h4_
      extract_lets +onlyGivenNames x5_
      extract_lets +onlyGivenNames x6_
      extract_lets +onlyGivenNames x7_
      have h7_ : Keeps z x7_ := (State.outSample_keeps _ (State.setIsland_keeps _ _ _ h4_))
      try clear_value x7_
      revert x7_
      refine keeps_id ?_
      intro x7_ h7_
      exact (keeps_iteA (keepsA_next (State.islDiag_keeps _ _ (State.islGood_keeps _ _ _ h7_)))
      (keepsA_next (State.islBadSlots_keeps _ _ _ h7_)))))))

theorem execIslRestore_keeps {z : State} (m : Master) (k : Fin 8) (s : State) (hz : Keeps z s) :
    KeepsA z (execIslRestore m k s) := by
  unfold execIslRestore
  exact (keepsA_next (State.access_keeps _ _ _ _ _ _ hz (fun _ h0_ => (State.islCmdWrite_keeps _ _ _ h0_))))

theorem execIslClearCounts_keeps {z : State} (m : Master) (k : Fin 8) (s : State) (hz : Keeps z s) :
    KeepsA z (execIslClearCounts m k s) := by
  unfold execIslClearCounts
  exact (keepsA_next (State.access_keeps _ _ _ _ _ _ hz (fun _ h0_ => (State.islCmdWrite_keeps _ _ _ h0_))))

end Sys2Proof.Machine
end

