-- ==== Sys2Proof/Laws/KeepsAnalogue.lean ====
section
/-!
SUPPORT. What the operations of Machine/Analogue.lean keep (Laws/Keeps.lean).
-/
namespace Sys2Proof.Machine

theorem State.aoFlags_keeps {z : State} (s : State) (k : Nat) (c : Nat) (hz : Keeps z s) :
    Keeps z (State.aoFlags s k c) := by
  unfold State.aoFlags
  exact (keeps_ite hz
  (by
    extract_lets +onlyGivenNames x0_
    extract_lets +onlyGivenNames x1_
    extract_lets +onlyGivenNames x2_
    exact (State.wr_keeps _ _ _ (State.wr_keeps _ _ _ hz))))

theorem execAoReadbackClear_keeps {z : State} (k : Fin 8) (c : Fin 8) (s : State) (hz : Keeps z s) :
    KeepsA z (execAoReadbackClear k c s) := by
  unfold execAoReadbackClear
  extract_lets +onlyGivenNames x0_
  exact (by
    split
    · exact (keepsA_next hz)
    · exact (keeps_iteA (keepsA_next (State.aoFlags_keeps _ _ _ (State.wr_keeps _ _ _ (State.waitTo_keeps _ _ hz))))
      (keepsA_next hz)))

theorem execComplianceSet_keeps {z : State} (k : Fin 8) (c : Fin 8) (s : State) (hz : Keeps z s) :
    KeepsA z (execComplianceSet k c s) := by
  unfold execComplianceSet
  extract_lets +onlyGivenNames x0_
  extract_lets +onlyGivenNames x1_
  extract_lets +onlyGivenNames x2_
  exact (by
    split
    · exact (keepsA_next hz)
    · exact (keeps_iteA (keepsA_next hz)
      (by
        extract_lets +onlyGivenNames x3_
        have h3_ : Keeps z x3_ := (State.waitTo_keeps _ _ hz)
        try clear_value x3_
        revert x3_
        refine keeps_id ?_
        intro x3_ h3_
        extract_lets +onlyGivenNames x4_
        have h4_ : Keeps z x4_ := (State.wr_keeps _ _ _ (State.setCh_keeps _ _ _ _ h3_))
        try clear_value x4_
        revert x4_
        refine keeps_id ?_
        intro x4_ h4_
        exact (keepsA_next (State.post_keeps _ _ _ _ _ _ (State.aoFlags_keeps _ _ _ h4_))))))

theorem execLoopSideStop_keeps {z : State} (k : Fin 8) (c : Fin 8) (vterm : Nat) (opened : Bool) (s : State) (hz : Keeps z s) :
    KeepsA z (execLoopSideStop k c vterm opened s) := by
  unfold execLoopSideStop
  extract_lets +onlyGivenNames x0_
  extract_lets +onlyGivenNames x1_
  extract_lets +onlyGivenNames x2_
  exact (keeps_iteA (keeps_iteA (keepsA_next (State.post_keeps _ _ _ _ _ _ (State.setCh_keeps _ _ _ _ hz)))
  (keepsA_next (State.setCh_keeps _ _ _ _ hz)))
  (keepsA_next hz))

theorem execComplianceClear_keeps {z : State} (k : Fin 8) (c : Fin 8) (s : State) (hz : Keeps z s) :
    KeepsA z (execComplianceClear k c s) := by
  unfold execComplianceClear
  extract_lets +onlyGivenNames x0_
  extract_lets +onlyGivenNames x1_
  exact (by
    split
    · exact (keepsA_next hz)
    · exact (keeps_iteA (keepsA_next hz)
      (by
        extract_lets +onlyGivenNames x2_
        have h2_ : Keeps z x2_ := (State.waitTo_keeps _ _ hz)
        try clear_value x2_
        revert x2_
        refine keeps_id ?_
        intro x2_ h2_
        extract_lets +onlyGivenNames x3_
        have h3_ : Keeps z x3_ := (State.wr_keeps _ _ _ (State.wr_keeps _ _ _ h2_))
        try clear_value x3_
        revert x3_
        refine keeps_id ?_
        intro x3_ h3_
        exact (keepsA_next (State.post_keeps _ _ _ _ _ _ (State.aoFlags_keeps _ _ _ h3_))))))

theorem execCompFault_keeps {z : State} (k : Fin 8) (c : Fin 8) (s : State) (hz : Keeps z s) :
    KeepsA z (execCompFault k c s) := by
  unfold execCompFault
  extract_lets +onlyGivenNames x0_
  exact (keeps_iteA (by
    extract_lets +onlyGivenNames x1_
    have h1_ : Keeps z x1_ := (State.waitTo_keeps _ _ hz)
    try clear_value x1_
    revert x1_
    refine keeps_id ?_
    intro x1_ h1_
    extract_lets +onlyGivenNames x2_
    have h2_ : Keeps z x2_ := (State.wr_keeps _ _ _ h1_)
    try clear_value x2_
    revert x2_
    refine keeps_id ?_
    intro x2_ h2_
    exact (keepsA_next (State.post_keeps _ _ _ _ _ _ (State.aoFlags_keeps _ _ _ h2_))))
  (keepsA_next hz))

theorem execThermalResume_keeps {z : State} (k : Fin 8) (c : Fin 8) (temp : Int) (s : State) (hz : Keeps z s) :
    KeepsA z (execThermalResume k c temp s) := by
  unfold execThermalResume
  extract_lets +onlyGivenNames x0_
  extract_lets +onlyGivenNames x1_
  exact (keeps_iteA (by
    extract_lets +onlyGivenNames x2_
    have h2_ : Keeps z x2_ := (State.waitTo_keeps _ _ hz)
    try clear_value x2_
    revert x2_
    refine keeps_id ?_
    intro x2_ h2_
    exact (keepsA_next (State.post_keeps _ _ _ _ _ _ (State.setCh_keeps _ _ _ _ h2_))))
  (keepsA_next hz))

theorem execBuckUpdate_keeps {z : State} (k : Fin 8) (c : Fin 8) (s : State) (hz : Keeps z s) :
    KeepsA z (execBuckUpdate k c s) := by
  unfold execBuckUpdate
  extract_lets +onlyGivenNames x0_
  extract_lets +onlyGivenNames x1_
  exact (keeps_iteA (by
    extract_lets +onlyGivenNames x2_
    have h2_ : Keeps z x2_ := (keeps_ite (State.waitTo_keeps _ _ hz)
    hz)
    try clear_value x2_
    revert x2_
    refine keeps_id ?_
    intro x2_ h2_
    extract_lets +onlyGivenNames x3_
    extract_lets +onlyGivenNames x4_
    extract_lets +onlyGivenNames x5_
    extract_lets +onlyGivenNames x6_
    extract_lets +onlyGivenNames x7_
    extract_lets +onlyGivenNames x8_
    have h8_ : Keeps z x8_ := (State.setIsland_keeps _ _ _ h2_)
    try clear_value x8_
    revert x8_
    refine keeps_id ?_
    intro x8_ h8_
    exact (keepsA_next (keeps_ite (State.post_keeps _ _ _ _ _ _ h8_)
    h8_)))
  (keepsA_next hz))

theorem execTxOverload_keeps {z : State} (k : Fin 8) (c : Fin 8) (mA : Nat) (s : State) (hz : Keeps z s) :
    KeepsA z (execTxOverload k c mA s) := by
  unfold execTxOverload
  extract_lets +onlyGivenNames x0_
  exact (keeps_iteA (by
    extract_lets +onlyGivenNames x1_
    have h1_ : Keeps z x1_ := (State.waitTo_keeps _ _ hz)
    try clear_value x1_
    revert x1_
    refine keeps_id ?_
    intro x1_ h1_
    exact (keepsA_next (State.post_keeps _ _ _ _ _ _ (State.setCh_keeps _ _ _ _ h1_))))
  (keepsA_next hz))

theorem execThermalTrip_keeps {z : State} (k : Fin 8) (c : Fin 8) (temp : Int) (s : State) (hz : Keeps z s) :
    KeepsA z (execThermalTrip k c temp s) := by
  unfold execThermalTrip
  extract_lets +onlyGivenNames x0_
  extract_lets +onlyGivenNames x1_
  exact (keeps_iteA (keepsA_next (State.post_keeps _ _ _ _ _ _ (State.setCh_keeps _ _ _ _ hz)))
  (keepsA_next hz))

theorem execTxOverloadClear_keeps {z : State} (k : Fin 8) (c : Fin 8) (s : State) (hz : Keeps z s) :
    KeepsA z (execTxOverloadClear k c s) := by
  unfold execTxOverloadClear
  extract_lets +onlyGivenNames x0_
  exact (keeps_iteA (by
    extract_lets +onlyGivenNames x1_
    have h1_ : Keeps z x1_ := (State.waitTo_keeps _ _ hz)
    try clear_value x1_
    revert x1_
    refine keeps_id ?_
    intro x1_ h1_
    exact (keepsA_next (State.setCh_keeps _ _ _ _ h1_)))
  (keepsA_next hz))

theorem State.aiClassify_keeps {z : State} (s : State) (k : Nat) (c : Nat) (hz : Keeps z s) :
    Keeps z (State.aiClassify s k c) := by
  unfold State.aiClassify
  extract_lets +onlyGivenNames x0_
  extract_lets +onlyGivenNames x1_
  extract_lets +onlyGivenNames x2_
  extract_lets +onlyGivenNames x3_
  exact (by
    split
    · exact (State.setCh_keeps _ _ _ _ hz)
    · extract_lets +onlyGivenNames x4_
      exact (keeps_ite (State.setCh_keeps _ _ _ _ hz)
      (by
        extract_lets +onlyGivenNames x5_
        extract_lets +onlyGivenNames x6_
        extract_lets +onlyGivenNames x7_
        have h7_ : Keeps z x7_ := (State.setCh_keeps _ _ _ _ hz)
        try clear_value x7_
        revert x7_
        refine keeps_id ?_
        intro x7_ h7_
        extract_lets +onlyGivenNames x8_
        have h8_ : Keeps z x8_ := (keeps_ite (State.post_keeps _ _ _ _ _ _ h7_)
        h7_)
        try clear_value x8_
        revert x8_
        refine keeps_id ?_
        intro x8_ h8_
        exact (keeps_ite (State.post_keeps _ _ _ _ _ _ h8_)
        h8_))))

theorem State.trimWrite_keeps {z : State} (s : State) (m : Master) (k : Nat) (c : Nat) (value : Nat) (hz : Keeps z s) :
    Keeps z (State.trimWrite s m k c value) := by
  unfold State.trimWrite
  exact (keeps_ite hz
  (keeps_ite (State.refuseWrite_keeps _ _ _ hz)
  (State.post_keeps _ _ _ _ _ _ (State.wr_keeps _ _ _ hz))))

theorem execTrimWrite_keeps {z : State} (m : Master) (k : Fin 8) (c : Fin 8) (value : Word) (s : State) (hz : Keeps z s) :
    KeepsA z (execTrimWrite m k c value s) := by
  unfold execTrimWrite
  exact (keepsA_next (State.access_keeps _ _ _ _ _ _ hz (fun _ h0_ => (State.trimWrite_keeps _ _ _ _ _ h0_))))

theorem execAiSample_keeps {z : State} (k : Fin 8) (c : Fin 8) (raw : Nat) (s : State) (hz : Keeps z s) :
    KeepsA z (execAiSample k c raw s) := by
  unfold execAiSample
  extract_lets +onlyGivenNames x0_
  exact (keeps_iteA (by
    extract_lets +onlyGivenNames x1_
    have h1_ : Keeps z x1_ := (State.waitTo_keeps _ _ hz)
    try clear_value x1_
    revert x1_
    refine keeps_id ?_
    intro x1_ h1_
    extract_lets +onlyGivenNames x2_
    extract_lets +onlyGivenNames x3_
    extract_lets +onlyGivenNames x4_
    extract_lets +onlyGivenNames x5_
    extract_lets +onlyGivenNames x6_
    have h6_ : Keeps z x6_ := (State.setCh_keeps _ _ _ _ h1_)
    try clear_value x6_
    revert x6_
    refine keeps_id ?_
    intro x6_ h6_
    extract_lets +onlyGivenNames x7_
    have h7_ : Keeps z x7_ := (keeps_ite h6_
    (State.useFree_keeps _ h6_))
    try clear_value x7_
    revert x7_
    refine keeps_id ?_
    intro x7_ h7_
    exact (keepsA_next (State.aiClassify_keeps _ _ _ h7_)))
  (keepsA_next hz))

end Sys2Proof.Machine
end

