-- ==== Sys2Proof/Laws/KeepsClassTime.lean ====
section
/-!
SUPPORT. What the operations of Machine/ClassTime.lean keep (Laws/Keeps.lean).
-/
namespace Sys2Proof.Machine

theorem State.anchor_keeps {z : State} (s : State) (cause : Nat) (hz : Keeps z s) :
    Keeps z (State.anchor s cause) := by
  unfold State.anchor
  exact (keeps_gb hz _ rfl)

theorem waitRounds_keeps {z : State} (time : State → Int) (goal : Int) (n : Nat) (s : State) (hz : Keeps z s) :
    Keeps z (waitRounds time goal n s) := by
  induction n generalizing s with
  | zero => exact hz
  | succ n ih => exact keeps_ite hz (ih _ (keeps_upd ⟨rfl, rfl, rfl, rfl, rfl, rfl, rfl, rfl⟩ hz))

theorem State.waitClass_keeps {z : State} (s : State) (time : State → Int) (goal : Int) (hz : Keeps z s) :
    Keeps z (State.waitClass s time goal) := by
  unfold State.waitClass
  exact (waitRounds_keeps _ _ _ _ hz)

theorem State.setDom_keeps {z : State} (s : State) (d : Nat) (x : TimDom) (hz : Keeps z s) :
    Keeps z (State.setDom s d x) := by
  unfold State.setDom
  exact (keeps_ite (keeps_tim hz _)
  (keeps_tim hz _))

end Sys2Proof.Machine
end

