-- ==== Sys2Proof/Laws/KeepsBanLink.lean ====
section
/-!
SUPPORT. What the operations of Machine/BanLink.lean keep (Laws/Keeps.lean).
-/
namespace Sys2Proof.Machine

theorem State.rxHold_keeps {z : State} (s : State) (q : Nat) (e : List Byte) (hz : Keeps z s) :
    Keeps z (State.rxHold s q e) := by
  unfold State.rxHold
  exact (keeps_ban hz _ rfl)

theorem State.hsDone_keeps {z : State} (s : State) (f : Nat × Nat × Nat → Bool) (hz : Keeps z s) :
    Keeps z (State.hsDone s f) := by
  unfold State.hsDone
  exact (keeps_ban hz _ rfl)

theorem State.banFrame_keeps {z : State} (s : State) (type : Nat) (last : Bool) (payload : List Byte) (hz : Keeps z s) :
    Keeps z (State.banFrame s type last payload) := by
  unfold State.banFrame
  refine keeps_ite (keeps_tx hz (fun _ => ?_) ⟨rfl, rfl, rfl, rfl, rfl, rfl, rfl⟩) hz
  exact List.length_take_le _ _

theorem State.banFrames_keeps {z : State} (s : State) (type n : Nat) (b : List Byte) (hz : Keeps z s) :
    Keeps z (State.banFrames s type n b) := by
  induction n generalizing s b with
  | zero => exact State.banFrame_keeps _ _ _ _ hz
  | succ n ih => exact keeps_ite (State.banFrame_keeps _ _ _ _ hz) (ih _ _ (State.banFrame_keeps _ _ _ _ hz))

theorem State.banSend_keeps {z : State} (s : State) (type : Nat) (payload : List Byte) (hz : Keeps z s) :
    Keeps z (State.banSend s type payload) := by
  unfold State.banSend
  exact (State.banFrames_keeps _ _ _ _ hz)

theorem State.banAsk_keeps {z : State} (s : State) (type : Nat) (payload : List Byte) (hz : Keeps z s) :
    Keeps z (State.banAsk s type payload) := by
  unfold State.banAsk
  extract_lets +onlyGivenNames x0_
  have h0_ : Keeps z x0_ := (State.banSend_keeps _ _ _ hz)
  try clear_value x0_
  revert x0_
  refine keeps_id ?_
  intro x0_ h0_
  exact (keeps_ite (keeps_ban h0_ _ rfl)
  h0_)

theorem State.mirror_keeps {z : State} (s : State) (m : Master) (a : Nat) (v : Nat) (hz : Keeps z s) :
    Keeps z (State.mirror s m a v) := by
  unfold State.mirror
  exact (keeps_ite (State.banSend_keeps _ _ _ hz)
  hz)

theorem State.rxMirror_keeps {z : State} (s : State) (kind : Nat) (idx : Nat) (pos : Nat) (bytes : List Byte) (hz : Keeps z s) :
    Keeps z (State.rxMirror s kind idx pos bytes) := by
  unfold State.rxMirror
  extract_lets +onlyGivenNames x0_
  exact (keeps_ite (by
    extract_lets +onlyGivenNames x1_
    have h1_ : Keeps z x1_ := (State.banAsk_keeps _ _ _ hz)
    try clear_value x1_
    revert x1_
    refine keeps_id ?_
    intro x1_ h1_
    exact (keeps_ban h1_ _ rfl))
  (keeps_ite (State.banSend_keeps _ _ _ hz)
  hz))

theorem State.shutdownSend_keeps {z : State} (s : State) (hz : Keeps z s) :
    Keeps z (State.shutdownSend s) := by
  unfold State.shutdownSend
  extract_lets +onlyGivenNames x0_
  extract_lets +onlyGivenNames x1_
  exact (State.banSend_keeps _ _ _ (State.useFree_keeps _ hz))

theorem State.logEntry_keeps {z : State} (s : State) (bytes : List Byte) (hz : Keeps z s) :
    Keeps z (State.logEntry s bytes) := by
  unfold State.logEntry
  exact (keeps_ite (State.banSend_keeps _ _ _ hz)
  hz)

theorem State.logPost_keeps {z : State} (s : State) (m : Master) (bytes : List Byte) (hz : Keeps z s) :
    Keeps z (State.logPost s m bytes) := by
  unfold State.logPost
  exact (by
    split
    · exact (keeps_ite (State.logEntry_keeps _ _ hz)
      hz)
    · exact hz)

end Sys2Proof.Machine
end

