-- ==== Sys2Proof/Laws/KeepsPgn.lean ====
section
/-!
SUPPORT. What the operations of Machine/Pgn.lean keep (Laws/Keeps.lean).
-/
namespace Sys2Proof.Machine

theorem State.setChan_keeps {z : State} (s : State) (ch : Nat) (c : PgnChan) (hz : Keeps z s) :
    Keeps z (State.setChan s ch c) := by
  unfold State.setChan
  exact (State.wr_keeps _ _ _ (keeps_pgn hz _))

theorem State.pgnEndTimeout_keeps {z : State} (s : State) (ch : Nat) (why : Nat) (hz : Keeps z s) :
    Keeps z (State.pgnEndTimeout s ch why) := by
  unfold State.pgnEndTimeout
  exact (keeps_ite (State.post_keeps _ _ _ _ _ _ (State.wr_keeps _ _ _ hz))
  hz)

theorem State.queMirror_keeps {z : State} (s : State) (q : Nat) (from_ : Nat) (to_ : Nat) (hz : Keeps z s) :
    Keeps z (State.queMirror s q from_ to_) := by
  unfold State.queMirror
  exact (keeps_foldl (fun _ _ h0_ => (State.rxMirror_keeps _ _ _ _ _ h0_))
  hz)

theorem State.queFollow_keeps {z : State} (s : State) (q : Nat) (hz : Keeps z s) :
    Keeps z (State.queFollow s q) := by
  unfold State.queFollow
  exact (keeps_ite (State.ring_keeps _ _ (State.wr_keeps _ _ _ hz))
  (State.wr_keeps _ _ _ hz))

theorem State.pgnWithdraw_keeps {z : State} (s : State) (ch : Nat) (hz : Keeps z s) :
    Keeps z (State.pgnWithdraw s ch) := by
  unfold State.pgnWithdraw
  extract_lets +onlyGivenNames x0_
  extract_lets +onlyGivenNames x1_
  extract_lets +onlyGivenNames x2_
  have h2_ : Keeps z x2_ := (State.setChan_keeps _ _ _ hz)
  try clear_value x2_
  revert x2_
  refine keeps_id ?_
  intro x2_ h2_
  extract_lets +onlyGivenNames x3_
  have h3_ : Keeps z x3_ := (State.wr_keeps _ _ _ h2_)
  try clear_value x3_
  revert x3_
  refine keeps_id ?_
  intro x3_ h3_
  extract_lets +onlyGivenNames x4_
  have h4_ : Keeps z x4_ := (State.post_keeps _ _ _ _ _ _ h3_)
  try clear_value x4_
  revert x4_
  refine keeps_id ?_
  intro x4_ h4_
  exact (keeps_ite (State.pgnEndTimeout_keeps _ _ _ h4_)
  h4_)

theorem State.pgnTimeout_keeps {z : State} (s : State) (ch : Nat) (hz : Keeps z s) :
    Keeps z (State.pgnTimeout s ch) := by
  unfold State.pgnTimeout
  exact (keeps_ite hz
  (by
    extract_lets +onlyGivenNames x0_
    extract_lets +onlyGivenNames x1_
    have h1_ : Keeps z x1_ := (keeps_pgn hz _)
    try clear_value x1_
    revert x1_
    refine keeps_id ?_
    intro x1_ h1_
    extract_lets +onlyGivenNames x2_
    have h2_ : Keeps z x2_ := (State.ring_keeps _ _ (State.wr_keeps _ _ _ h1_))
    try clear_value x2_
    revert x2_
    refine keeps_id ?_
    intro x2_ h2_
    exact (State.post_keeps _ _ _ _ _ _ h2_)))

theorem State.pgnStore_keeps {z : State} (s : State) (ch : Nat) (len : Nat) (kind : Nat) (param : Nat) (payload : List Byte) (hz : Keeps z s) :
    Keeps z (State.pgnStore s ch len kind param payload) := by
  unfold State.pgnStore
  extract_lets +onlyGivenNames x0_
  extract_lets +onlyGivenNames x1_
  extract_lets +onlyGivenNames x2_
  extract_lets +onlyGivenNames x3_
  extract_lets +onlyGivenNames x4_
  have h4_ : Keeps z x4_ := (State.setChan_keeps _ _ _ hz)
  try clear_value x4_
  revert x4_
  refine keeps_id ?_
  intro x4_ h4_
  extract_lets +onlyGivenNames x5_
  have h5_ : Keeps z x5_ := (State.wr_keeps _ _ _ h4_)
  try clear_value x5_
  revert x5_
  refine keeps_id ?_
  intro x5_ h5_
  exact (keeps_ite (State.ring_keeps _ _ h5_)
  (State.rxMirror_keeps _ _ _ _ _ h5_))

theorem State.queReleaseTo_keeps {z : State} (s : State) (q : Nat) (idx : Nat) (hz : Keeps z s) :
    Keeps z (State.queReleaseTo s q idx) := by
  unfold State.queReleaseTo
  exact (keeps_ite (State.ring_keeps _ _ (State.wr_keeps _ _ _ hz))
  hz)

theorem State.pgnDenied_keeps {z : State} (s : State) (m : Master) (write : Bool) (ch : Nat) (a : Nat) (hz : Keeps z s) :
    Keeps z (State.pgnDenied s m write ch a) := by
  unfold State.pgnDenied
  exact (State.post_keeps _ _ _ _ _ _ (State.busFail_keeps _ _ _ _ _ _ hz))

theorem State.pgnCmdWrite_keeps {z : State} (s : State) (m : Master) (ch : Nat) (value : Nat) (hz : Keeps z s) :
    Keeps z (State.pgnCmdWrite s m ch value) := by
  unfold State.pgnCmdWrite
  exact (keeps_ite (keeps_ite (State.pgnWithdraw_keeps _ _ hz)
  hz)
  (State.pgnDenied_keeps _ _ _ _ _ hz))

theorem State.pgnReleaseTo_keeps {z : State} (s : State) (ch : Nat) (pos : Nat) (hz : Keeps z s) :
    Keeps z (State.pgnReleaseTo s ch pos) := by
  unfold State.pgnReleaseTo
  extract_lets +onlyGivenNames x0_
  extract_lets +onlyGivenNames x1_
  exact (keeps_ite (by
    extract_lets +onlyGivenNames x2_
    exact (State.ring_keeps _ _ (State.setChan_keeps _ _ _ hz)))
  hz)

theorem State.pgnAck_keeps {z : State} (s : State) (ch : Nat) (value : Nat) (hz : Keeps z s) :
    Keeps z (State.pgnAck s ch value) := by
  unfold State.pgnAck
  exact (keeps_ite (by
    split
    · extract_lets +onlyGivenNames x0_
      extract_lets +onlyGivenNames x1_
      have h1_ : Keeps z x1_ := (State.setChan_keeps _ _ _ hz)
      try clear_value x1_
      revert x1_
      refine keeps_id ?_
      intro x1_ h1_
      exact (State.pgnEndTimeout_keeps _ _ _ h1_)
    · exact hz)
  hz)

theorem execPgnTimeout_keeps {z : State} (ch : Fin 32) (s : State) (hz : Keeps z s) :
    KeepsA z (execPgnTimeout ch s) := by
  unfold execPgnTimeout
  exact (by
    split
    · exact (keeps_iteA (keepsA_next hz)
      (keeps_iteA (keepsA_next hz)
      (keeps_iteA (by
        extract_lets +onlyGivenNames x0_
        have h0_ : Keeps z x0_ := (keeps_frc hz _)
        try clear_value x0_
        revert x0_
        refine keeps_id ?_
        intro x0_ h0_
        extract_lets +onlyGivenNames x1_
        have h1_ : Keeps z x1_ := (State.mirror_keeps _ _ _ _ h0_)
        try clear_value x1_
        revert x1_
        refine keeps_id ?_
        intro x1_ h1_
        exact (keepsA_next (keeps_ban h1_ _ rfl)))
      (keepsA_next (State.pgnTimeout_keeps _ _ (keeps_frc hz _))))))
    · exact (keepsA_next hz))

theorem State.queRelease_keeps {z : State} (s : State) (q : Nat) (hz : Keeps z s) :
    Keeps z (State.queRelease s q) := by
  unfold State.queRelease
  exact (State.queReleaseTo_keeps _ _ _ hz)

theorem State.queReleaseAll_keeps {z : State} (s : State) (hz : Keeps z s) :
    Keeps z (State.queReleaseAll s) := by
  unfold State.queReleaseAll
  exact (keeps_foldl (fun _ _ h0_ => (State.queRelease_keeps _ _ h0_))
  hz)

theorem State.queDiSet_keeps {z : State} (s : State) (q : Nat) (v : Nat) (hz : Keeps z s) :
    Keeps z (State.queDiSet s q v) := by
  unfold State.queDiSet
  extract_lets +onlyGivenNames x0_
  extract_lets +onlyGivenNames x1_
  have h1_ : Keeps z x1_ := (State.wr_keeps _ _ _ hz)
  try clear_value x1_
  revert x1_
  refine keeps_id ?_
  intro x1_ h1_
  exact (keeps_ite (State.queMirror_keeps _ _ _ _ h1_)
  (State.queFollow_keeps _ _ h1_))

theorem State.pgnRelease_keeps {z : State} (s : State) (ch : Nat) (hz : Keeps z s) :
    Keeps z (State.pgnRelease s ch) := by
  unfold State.pgnRelease
  exact (State.pgnReleaseTo_keeps _ _ _ hz)

theorem State.quePiSet_keeps {z : State} (s : State) (q : Nat) (v : Nat) (hz : Keeps z s) :
    Keeps z (State.quePiSet s q v) := by
  unfold State.quePiSet
  extract_lets +onlyGivenNames x0_
  extract_lets +onlyGivenNames x1_
  extract_lets +onlyGivenNames x2_
  have h2_ : Keeps z x2_ := (keeps_ite (keeps_posted hz _)
  hz)
  try clear_value x2_
  revert x2_
  refine keeps_id ?_
  intro x2_ h2_
  extract_lets +onlyGivenNames x3_
  have h3_ : Keeps z x3_ := (keeps_ite (keeps_heads h2_ _)
  h2_)
  try clear_value x3_
  revert x3_
  refine keeps_id ?_
  intro x3_ h3_
  extract_lets +onlyGivenNames x4_
  have h4_ : Keeps z x4_ := (State.wr_keeps _ _ _ (State.wr_keeps _ _ _ h3_))
  try clear_value x4_
  revert x4_
  refine keeps_id ?_
  intro x4_ h4_
  exact (keeps_ite (State.ring_keeps _ _ (State.queMirror_keeps _ _ _ _ h4_))
  (keeps_ite (State.ring_keeps _ _ h4_)
  (State.ring_keeps _ _ (State.queFollow_keeps _ _ h4_))))

theorem State.pgnTimeoutsAct_keeps {z : State} (s : State) (hz : Keeps z s) :
    Keeps z (State.pgnTimeoutsAct s) := by
  unfold State.pgnTimeoutsAct
  extract_lets +onlyGivenNames x0_
  exact (keeps_foldl (fun _ _ h1_ => (keeps_ite (State.pgnTimeout_keeps _ _ h1_)
  h1_))
  (keeps_ban hz _ rfl))

theorem State.poolWrite_keeps {z : State} (s : State) (m : Master) (a : Nat) (bs : List Byte) (hz : Keeps z s) :
    Keeps z (State.poolWrite s m a bs) := by
  unfold State.poolWrite
  exact (by
    split
    · exact (State.post_keeps _ _ _ _ _ _ (State.busFail_keeps _ _ _ _ _ _ hz))
    · extract_lets +onlyGivenNames x0_
      extract_lets +onlyGivenNames x1_
      exact (keeps_ite (State.setBytes_keeps _ _ _ (State.answer_keeps _ _ hz))
      (State.post_keeps _ _ _ _ _ _ (State.busFail_keeps _ _ _ _ _ _ hz))))

theorem State.pgnHdrRead_keeps {z : State} (s : State) (m : Master) (ch : Nat) (hz : Keeps z s) :
    Keeps z (State.pgnHdrRead s m ch) := by
  unfold State.pgnHdrRead
  exact (keeps_ite (State.answer_keeps _ _ hz)
  (keeps_ite (by
    split
    · exact (keeps_ite (by
        extract_lets +onlyGivenNames x0_
        have h0_ : Keeps z x0_ := (State.answer_keeps _ _ hz)
        try clear_value x0_
        revert x0_
        refine keeps_id ?_
        intro x0_ h0_
        exact (keeps_ite h0_
        (State.setChan_keeps _ _ _ h0_)))
      (State.answer_keeps _ _ hz))
    · exact (State.answer_keeps _ _ hz))
  (State.pgnDenied_keeps _ _ _ _ _ hz)))

theorem State.queStatWrite_keeps {z : State} (s : State) (m : Master) (q : Nat) (value : Nat) (hz : Keeps z s) :
    Keeps z (State.queStatWrite s m q value) := by
  unfold State.queStatWrite
  exact (keeps_ite (State.refuseWrite_keeps _ _ _ hz)
  (by
    extract_lets +onlyGivenNames x0_
    have h0_ : Keeps z x0_ := (keeps_ite (State.wr_keeps _ _ _ hz)
    hz)
    try clear_value x0_
    revert x0_
    refine keeps_id ?_
    intro x0_ h0_
    exact (keeps_ite (State.wr_keeps _ _ _ h0_)
    h0_)))

theorem State.pgnReleaseAll_keeps {z : State} (s : State) (hz : Keeps z s) :
    Keeps z (State.pgnReleaseAll s) := by
  unfold State.pgnReleaseAll
  exact (keeps_foldl (fun _ _ h0_ => (State.pgnRelease_keeps _ _ h0_))
  hz)

theorem State.pgnStageWrite_keeps {z : State} (s : State) (m : Master) (ch : Nat) (a : Nat) (value : Nat) (hz : Keeps z s) :
    Keeps z (State.pgnStageWrite s m ch a value) := by
  unfold State.pgnStageWrite
  exact (keeps_ite (State.wr_keeps _ _ _ hz)
  (State.pgnDenied_keeps _ _ _ _ _ hz))

theorem State.pgnStatWrite_keeps {z : State} (s : State) (m : Master) (ch : Nat) (value : Nat) (hz : Keeps z s) :
    Keeps z (State.pgnStatWrite s m ch value) := by
  unfold State.pgnStatWrite
  exact (keeps_ite (keeps_ite (State.setChan_keeps _ _ _ (State.pgnEndTimeout_keeps _ _ _ hz))
  hz)
  (keeps_ite (State.wr_keeps _ _ _ hz)
  (State.pgnDenied_keeps _ _ _ _ _ hz)))

theorem State.quePush_keeps {z : State} (s : State) (q : Nat) (entry : List Byte) (hz : Keeps z s) :
    Keeps z (State.quePush s q entry) := by
  unfold State.quePush
  exact (State.quePiSet_keeps _ _ _ (State.setBytes_keeps _ _ _ hz))

theorem State.queComplete_keeps {z : State} (s : State) (q : Nat) (off : Nat) (done : List Byte) (hz : Keeps z s) :
    Keeps z (State.queComplete s q off done) := by
  unfold State.queComplete
  exact (State.queDiSet_keeps _ _ _ (State.setBytes_keeps _ _ _ hz))

theorem State.pgnPost_keeps {z : State} (s : State) (m : Master) (ch : Nat) (value : Nat) (hz : Keeps z s) :
    Keeps z (State.pgnPost s m ch value) := by
  unfold State.pgnPost
  extract_lets +onlyGivenNames x0_
  extract_lets +onlyGivenNames x1_
  exact (keeps_ite (State.post_keeps _ _ _ _ _ _ (State.wr_keeps _ _ _ (State.refuseWrite_keeps _ _ _ hz)))
  (keeps_ite (State.bump_keeps _ _ (State.wr_keeps _ _ _ hz))
  (keeps_ite (State.wr_keeps _ _ _ hz)
  (keeps_ite (by
    extract_lets +onlyGivenNames x2_
    have h2_ : Keeps z x2_ := (State.wr_keeps _ _ _ (State.bump_keeps _ _ (State.refuseWrite_keeps _ _ _ hz)))
    try clear_value x2_
    revert x2_
    refine keeps_id ?_
    intro x2_ h2_
    exact (State.post_keeps _ _ _ _ _ _ h2_))
  (by
    extract_lets +onlyGivenNames x3_
    extract_lets +onlyGivenNames x4_
    extract_lets +onlyGivenNames x5_
    have h5_ : Keeps z x5_ := (State.logPost_keeps _ _ _ hz)
    try clear_value x5_
    revert x5_
    refine keeps_id ?_
    intro x5_ h5_
    exact (State.pgnStore_keeps _ _ _ _ _ _ h5_))))))

theorem State.pgnAckWrite_keeps {z : State} (s : State) (m : Master) (ch : Nat) (value : Nat) (hz : Keeps z s) :
    Keeps z (State.pgnAckWrite s m ch value) := by
  unfold State.pgnAckWrite
  exact (keeps_ite (State.pgnAck_keeps _ _ _ hz)
  (State.pgnDenied_keeps _ _ _ _ _ hz))

theorem execPgnRxHdrRead_keeps {z : State} (m : Master) (ch : Fin 32) (s : State) (hz : Keeps z s) :
    KeepsA z (execPgnRxHdrRead m ch s) := by
  unfold execPgnRxHdrRead
  exact (keepsA_next (State.access_keeps _ _ _ _ _ _ hz (fun _ h0_ => (State.pgnHdrRead_keeps _ _ _ h0_))))

theorem State.queIdxRefused_keeps {z : State} (s : State) (m : Master) (q : Nat) (which : Nat) (value : Nat) (a : Nat) (hz : Keeps z s) :
    Keeps z (State.queIdxRefused s m q which value a) := by
  unfold State.queIdxRefused
  exact (State.post_keeps _ _ _ _ _ _ (State.wr_keeps _ _ _ (State.refuseWrite_keeps _ _ _ hz)))

theorem State.pgnPostWrite_keeps {z : State} (s : State) (m : Master) (ch : Nat) (value : Nat) (hz : Keeps z s) :
    Keeps z (State.pgnPostWrite s m ch value) := by
  unfold State.pgnPostWrite
  exact (keeps_ite (State.pgnPost_keeps _ _ _ _ hz)
  (State.pgnDenied_keeps _ _ _ _ _ hz))

theorem State.queCiWrite_keeps {z : State} (s : State) (m : Master) (q : Nat) (value : Nat) (hz : Keeps z s) :
    Keeps z (State.queCiWrite s m q value) := by
  unfold State.queCiWrite
  extract_lets +onlyGivenNames x0_
  exact (keeps_ite (State.refuseWrite_keeps _ _ _ hz)
  (keeps_ite (State.queIdxRefused_keeps _ _ _ _ _ _ hz)
  (by
    extract_lets +onlyGivenNames x1_
    exact (keeps_ite hz
    (keeps_ite (State.wr_keeps _ _ _ hz)
    (State.queIdxRefused_keeps _ _ _ _ _ _ hz))))))

theorem execQueuePoolWrite_keeps {z : State} (m : Master) (off : Fin 4194304) (bs : List Byte) (s : State) (hz : Keeps z s) :
    KeepsA z (execQueuePoolWrite m off bs s) := by
  unfold execQueuePoolWrite
  extract_lets +onlyGivenNames x0_
  exact (keeps_iteA (keepsA_next hz)
  (keeps_iteA (keepsA_next (State.busFail_keeps _ _ _ _ _ _ hz))
  (keepsA_next (State.poolWrite_keeps _ _ _ _ hz))))

theorem execWithdraw_keeps {z : State} (m : Master) (ch : Fin 32) (s : State) (hz : Keeps z s) :
    KeepsA z (execWithdraw m ch s) := by
  unfold execWithdraw
  exact (keepsA_next (State.access_keeps _ _ _ _ _ _ hz (fun _ h0_ => (State.pgnCmdWrite_keeps _ _ _ _ h0_))))

theorem execPgnTimeoutClear_keeps {z : State} (m : Master) (ch : Fin 32) (s : State) (hz : Keeps z s) :
    KeepsA z (execPgnTimeoutClear m ch s) := by
  unfold execPgnTimeoutClear
  exact (keepsA_next (State.access_keeps _ _ _ _ _ _ hz (fun _ h0_ => (State.pgnStatWrite_keeps _ _ _ _ h0_))))

theorem State.queDiWrite_keeps {z : State} (s : State) (m : Master) (q : Nat) (value : Nat) (hz : Keeps z s) :
    Keeps z (State.queDiWrite s m q value) := by
  unfold State.queDiWrite
  extract_lets +onlyGivenNames x0_
  exact (keeps_ite (State.refuseWrite_keeps _ _ _ hz)
  (keeps_ite (State.queIdxRefused_keeps _ _ _ _ _ _ hz)
  (by
    extract_lets +onlyGivenNames x1_
    exact (keeps_ite hz
    (keeps_ite (State.queDiSet_keeps _ _ _ hz)
    (State.queIdxRefused_keeps _ _ _ _ _ _ hz))))))

theorem State.quePiWrite_keeps {z : State} (s : State) (m : Master) (q : Nat) (value : Nat) (hz : Keeps z s) :
    Keeps z (State.quePiWrite s m q value) := by
  unfold State.quePiWrite
  extract_lets +onlyGivenNames x0_
  exact (keeps_ite (State.refuseWrite_keeps _ _ _ hz)
  (keeps_ite (State.queIdxRefused_keeps _ _ _ _ _ _ hz)
  (by
    extract_lets +onlyGivenNames x1_
    exact (keeps_ite hz
    (keeps_ite (by
      extract_lets +onlyGivenNames x2_
      exact (State.quePiSet_keeps _ _ _ (State.logPost_keeps _ _ _ hz)))
    (by
      extract_lets +onlyGivenNames x3_
      have h3_ : Keeps z x3_ := (State.wr_keeps _ _ _ (State.bump_keeps _ _ (State.refuseWrite_keeps _ _ _ hz)))
      try clear_value x3_
      revert x3_
      refine keeps_id ?_
      intro x3_ h3_
      exact (State.post_keeps _ _ _ _ _ _ h3_)))))))

theorem execQueCiWrite_keeps {z : State} (m : Master) (q : Fin 64) (value : Word) (s : State) (hz : Keeps z s) :
    KeepsA z (execQueCiWrite m q value s) := by
  unfold execQueCiWrite
  exact (keepsA_next (State.access_keeps _ _ _ _ _ _ hz (fun _ h0_ => (State.queCiWrite_keeps _ _ _ _ h0_))))

theorem execPgnTxPost_keeps {z : State} (m : Master) (ch : Fin 32) (value : Word) (s : State) (hz : Keeps z s) :
    KeepsA z (execPgnTxPost m ch value s) := by
  unfold execPgnTxPost
  exact (keepsA_next (State.access_keeps _ _ _ _ _ _ hz (fun _ h0_ => (State.pgnPostWrite_keeps _ _ _ _ h0_))))

theorem execPgnRxAck_keeps {z : State} (m : Master) (ch : Fin 32) (value : Word) (s : State) (hz : Keeps z s) :
    KeepsA z (execPgnRxAck m ch value s) := by
  unfold execPgnRxAck
  exact (keepsA_next (State.access_keeps _ _ _ _ _ _ hz (fun _ h0_ => (State.pgnAckWrite_keeps _ _ _ _ h0_))))

theorem execQuePiWrite_keeps {z : State} (m : Master) (q : Fin 64) (value : Word) (s : State) (hz : Keeps z s) :
    KeepsA z (execQuePiWrite m q value s) := by
  unfold execQuePiWrite
  exact (keepsA_next (State.access_keeps _ _ _ _ _ _ hz (fun _ h0_ => (State.quePiWrite_keeps _ _ _ _ h0_))))

theorem execQueDiWrite_keeps {z : State} (m : Master) (q : Fin 64) (value : Word) (s : State) (hz : Keeps z s) :
    KeepsA z (execQueDiWrite m q value s) := by
  unfold execQueDiWrite
  exact (keepsA_next (State.access_keeps _ _ _ _ _ _ hz (fun _ h0_ => (State.queDiWrite_keeps _ _ _ _ h0_))))

end Sys2Proof.Machine
end

