-- ==== Sys2Proof/Laws/KeepsAnnex.lean ====
section
/-!
SUPPORT. What the operations of Machine/Annex.lean keep (Laws/Keeps.lean).
-/
namespace Sys2Proof.Machine

theorem State.anxPset_keeps {z : State} (s : State) (pset : Nat) (hz : Keeps z s) :
    Keeps z (State.anxPset s pset) := by
  unfold State.anxPset
  extract_lets +onlyGivenNames x0_
  extract_lets +onlyGivenNames x1_
  have h1_ : Keeps z x1_ := (State.wr_keeps _ _ _ hz)
  try clear_value x1_
  revert x1_
  refine keeps_id ?_
  intro x1_ h1_
  exact (keeps_ite (State.post_keeps _ _ _ _ _ _ h1_)
  h1_)

theorem State.anxStatus_keeps {z : State} (s : State) (b : List Byte) (hz : Keeps z s) :
    Keeps z (State.anxStatus s b) := by
  unfold State.anxStatus
  extract_lets +onlyGivenNames x0_
  extract_lets +onlyGivenNames x1_
  extract_lets +onlyGivenNames x2_
  extract_lets +onlyGivenNames x3_
  extract_lets +onlyGivenNames x4_
  extract_lets +onlyGivenNames x5_
  extract_lets +onlyGivenNames x6_
  have h6_ : Keeps z x6_ := (State.wr_keeps _ _ _ (State.wrB_keeps _ _ _ (State.wr_keeps _ _ _ (State.wr_keeps _ _ _ hz))))
  try clear_value x6_
  revert x6_
  refine keeps_id ?_
  intro x6_ h6_
  extract_lets +onlyGivenNames x7_
  have h7_ : Keeps z x7_ := (State.wr_keeps _ _ _ h6_)
  try clear_value x7_
  revert x7_
  refine keeps_id ?_
  intro x7_ h7_
  extract_lets +onlyGivenNames x8_
  extract_lets +onlyGivenNames x9_
  have h9_ : Keeps z x9_ := (keeps_anx h7_ _)
  try clear_value x9_
  revert x9_
  refine keeps_id ?_
  intro x9_ h9_
  extract_lets +onlyGivenNames x10_
  have h10_ : Keeps z x10_ := (keeps_ite (State.post_keeps _ _ _ _ _ _ h9_)
  h9_)
  try clear_value x10_
  revert x10_
  refine keeps_id ?_
  intro x10_ h10_
  extract_lets +onlyGivenNames x11_
  have h11_ : Keeps z x11_ := (keeps_ite (State.post_keeps _ _ _ _ _ _ h10_)
  h10_)
  try clear_value x11_
  revert x11_
  refine keeps_id ?_
  intro x11_ h11_
  extract_lets +onlyGivenNames x12_
  exact (by
    split
    · exact (keeps_anx h11_ _)
    · exact (keeps_ite (State.post_keeps _ _ _ _ _ _ (keeps_anx h11_ _))
      h11_))

theorem State.anxTake_keeps {z : State} (s : State) (kind : Nat) (param : Nat) (b : List Byte) (hz : Keeps z s) :
    Keeps z (State.anxTake s kind param b) := by
  unfold State.anxTake
  exact (keeps_ite (by
    extract_lets +onlyGivenNames x0_
    exact (State.anxPset_keeps _ _ (State.wr64_keeps _ _ _ _ hz)))
  (keeps_ite (by
    extract_lets +onlyGivenNames x1_
    have h1_ : Keeps z x1_ := (State.wr_keeps _ _ _ (State.wr_keeps _ _ _ hz))
    try clear_value x1_
    revert x1_
    refine keeps_id ?_
    intro x1_ h1_
    exact (keeps_foldl (fun _ _ h2_ => (State.wr_keeps _ _ _ h2_))
    h1_))
  (keeps_ite (keeps_anx hz _)
  (keeps_ite (State.anxStatus_keeps _ _ hz)
  hz))))

theorem State.anxPost_keeps {z : State} (s : State) (ch : Nat) (kind : Nat) (param : Nat) (payload : List Byte) (hz : Keeps z s) :
    Keeps z (State.anxPost s ch kind param payload).1 := by
  unfold State.anxPost
  extract_lets +onlyGivenNames x0_
  exact (keeps_iteP hz
  (keeps_iteP (State.anxTake_keeps _ _ _ _ hz)
  (by
    extract_lets +onlyGivenNames x1_
    have h1_ : Keeps z x1_ := (keeps_foldl (fun _ _ h2_ => (State.wr_keeps _ _ _ h2_))
    hz)
    try clear_value x1_
    revert x1_
    refine keeps_id ?_
    intro x1_ h1_
    extract_lets +onlyGivenNames x3_
    have h3_ : Keeps z x3_ := (State.answer_keeps _ _ (State.wr_keeps _ _ _ h1_))
    try clear_value x3_
    revert x3_
    refine keeps_id ?_
    intro x3_ h3_
    extract_lets +onlyGivenNames x4_
    have h4_ : Keeps z x4_ := (State.pgnPostWrite_keeps _ _ _ _ h3_)
    try clear_value x4_
    revert x4_
    refine keeps_id ?_
    intro x4_ h4_
    exact (keeps_iteP (State.anxTake_keeps _ _ _ _ h4_)
    h4_))))

theorem State.anxPostAll_keeps {z : State} (s : State) (n : Nat) (hz : Keeps z s) : Keeps z (State.anxPostAll s n) := by
  induction n generalizing s with
  | zero => exact hz
  | succ n ih =>
    unfold State.anxPostAll
    split
    · exact hz
    · rename_i kind b t _
      have h := State.anxPost_keeps s 31 kind 0 b hz
      exact keeps_ite (ih _ (keeps_upd ⟨rfl, rfl, rfl, rfl, rfl, rfl, rfl, rfl⟩ h)) h

theorem execReadParam_keeps {z : State} (nums : List (Fin 66)) (s : State) (hz : Keeps z s) :
    KeepsA z (execReadParam nums s) := by
  unfold execReadParam
  exact (keepsA_next (keeps_ite (keeps_anx hz _)
  hz))

theorem execReadTotals_keeps {z : State} (s : State) (hz : Keeps z s) :
    KeepsA z (execReadTotals s) := by
  unfold execReadTotals
  exact (keepsA_next (keeps_ite (keeps_anx hz _)
  hz))

theorem State.anxCommit_keeps {z : State} (s : State) (hz : Keeps z s) :
    Keeps z (State.anxCommit s) := by
  unfold State.anxCommit
  exact (keeps_anx hz _)

theorem execAnnexSelfTest_keeps {z : State} (pass : Bool) (s : State) (hz : Keeps z s) :
    KeepsA z (execAnnexSelfTest pass s) := by
  unfold execAnnexSelfTest
  exact (keeps_iteA (keepsA_next (keeps_anx hz _))
  (keepsA_next hz))

theorem execReadLog_keeps {z : State} (s : State) (hz : Keeps z s) :
    KeepsA z (execReadLog s) := by
  unfold execReadLog
  exact (keepsA_next (keeps_ite (keeps_anx hz _)
  hz))

theorem State.wordInstant_keeps {z : State} (s : State) (hz : Keeps z s) :
    Keeps z (State.wordInstant s) := by
  unfold State.wordInstant
  extract_lets +onlyGivenNames x0_
  exact (keeps_frc hz _)

theorem State.anxRebase_keeps {z : State} (s : State) (offset : Int) (hz : Keeps z s) :
    Keeps z (State.anxRebase s offset) := by
  unfold State.anxRebase
  exact (keeps_anx hz _)

theorem execAnnexReportRepost_keeps {z : State} (s : State) (hz : Keeps z s) :
    KeepsA z (execAnnexReportRepost s) := by
  unfold execAnnexReportRepost
  exact (keeps_iteA (keepsA_next hz)
  (by
    extract_lets +onlyGivenNames x0_
    have h0_ : Keeps z x0_ := (State.waitTo_keeps _ _ hz)
    try clear_value x0_
    revert x0_
    refine keeps_id ?_
    intro x0_ h0_
    exact (keepsA_next (State.anxPostAll_keeps _ _ (keeps_anx h0_ _)))))

theorem execAnnexTotalsCommit_keeps {z : State} (s : State) (hz : Keeps z s) :
    KeepsA z (execAnnexTotalsCommit s) := by
  unfold execAnnexTotalsCommit
  exact (keepsA_next (keeps_ite (State.anxCommit_keeps _ (State.waitTo_keeps _ _ hz))
  hz))

theorem State.anxLock_keeps {z : State} (s : State) (hz : Keeps z s) :
    Keeps z (State.anxLock s) := by
  unfold State.anxLock
  exact (keeps_ite hz
  (by
    extract_lets +onlyGivenNames x0_
    have h0_ : Keeps z x0_ := (State.wr_keeps _ _ _ (State.wr_keeps _ _ _ hz))
    try clear_value x0_
    revert x0_
    refine keeps_id ?_
    intro x0_ h0_
    exact (keeps_anx h0_ _)))

theorem execIdentIf_keeps {z : State} (s : State) (hz : Keeps z s) :
    KeepsA z (execIdentIf s) := by
  unfold execIdentIf
  exact (by
    split
    · exact (keepsA_next hz)
    · exact (keeps_iteA (keepsA_next hz)
      (by
        extract_lets +onlyGivenNames x0_
        extract_lets +onlyGivenNames x1_
        extract_lets +onlyGivenNames x2_
        extract_lets +onlyGivenNames x3_
        have h3_ : Keeps z x3_ := (keeps_anx hz _)
        try clear_value x3_
        revert x3_
        refine keeps_id ?_
        intro x3_ h3_
        extract_lets +onlyGivenNames x4_
        have h4_ : Keeps z x4_ := (keeps_foldl (fun _ _ h5_ => (State.wr_keeps _ _ _ h5_))
        h3_)
        try clear_value x4_
        revert x4_
        refine keeps_id ?_
        intro x4_ h4_
        extract_lets +onlyGivenNames x6_
        have h6_ : Keeps z x6_ := (State.wr_keeps _ _ _ (State.wr_keeps _ _ _ h4_))
        try clear_value x6_
        revert x6_
        refine keeps_id ?_
        intro x6_ h6_
        extract_lets +onlyGivenNames x7_
        have h7_ : Keeps z x7_ := (State.post_keeps _ _ _ _ _ _ (State.wr_keeps _ _ _ h6_))
        try clear_value x7_
        revert x7_
        refine keeps_id ?_
        intro x7_ h7_
        extract_lets +onlyGivenNames x8_
        exact (keeps_iteA (by
          extract_lets +onlyGivenNames x9_
          have h9_ : Keeps z x9_ := (State.wr_keeps _ _ _ (State.wr_keeps _ _ _ h7_))
          try clear_value x9_
          revert x9_
          refine keeps_id ?_
          intro x9_ h9_
          exact (keepsA_next (keeps_ite (State.post_keeps _ _ _ _ _ _ h9_)
          h9_)))
        (by
          extract_lets +onlyGivenNames x10_
          have h10_ : Keeps z x10_ := (State.wr_keeps _ _ _ (State.wr_keeps _ _ _ h7_))
          try clear_value x10_
          revert x10_
          refine keeps_id ?_
          intro x10_ h10_
          extract_lets +onlyGivenNames x11_
          have h11_ : Keeps z x11_ := (keeps_ite (State.post_keeps _ _ _ _ _ _ h10_)
          h10_)
          try clear_value x11_
          revert x11_
          refine keeps_id ?_
          intro x11_ h11_
          exact (keepsA_next (keeps_ite h11_
          (State.post_keeps _ _ _ _ _ _ h11_))))))))

theorem execAnnexStatusLost_keeps {z : State} (s : State) (hz : Keeps z s) :
    KeepsA z (execAnnexStatusLost s) := by
  unfold execAnnexStatusLost
  exact (keeps_iteA (by
    extract_lets +onlyGivenNames x0_
    have h0_ : Keeps z x0_ := (keeps_frc hz _)
    try clear_value x0_
    revert x0_
    refine keeps_id ?_
    intro x0_ h0_
    exact (keepsA_next (State.post_keeps _ _ _ _ _ _ (State.wr_keeps _ _ _ h0_))))
  (keepsA_next hz))

theorem State.anxReport_keeps {z : State} (s : State) (kind : Nat) (payload : List Byte) (hz : Keeps z s) :
    Keeps z (State.anxReport s kind payload) := by
  unfold State.anxReport
  exact (keeps_ite (by
    extract_lets +onlyGivenNames x0_
    have h0_ : Keeps z x0_.1 := (State.anxPost_keeps _ _ _ _ _ hz)
    try clear_value x0_
    revert x0_
    refine keeps_id ?_
    intro x0_ h0_
    exact (keeps_ite h0_
    (by
      extract_lets +onlyGivenNames x1_
      have h1_ : Keeps z x1_ := h0_
      try clear_value x1_
      revert x1_
      refine keeps_id ?_
      intro x1_ h1_
      exact (keeps_anx h1_ _))))
  (keeps_ite (keeps_anx hz _)
  (keeps_anx hz _)))

theorem execAnnexResultPost_keeps {z : State} (s : State) (hz : Keeps z s) :
    KeepsA z (execAnnexResultPost s) := by
  unfold execAnnexResultPost
  exact (keeps_iteA (keepsA_next hz)
  (by
    extract_lets +onlyGivenNames x0_
    have h0_ : Keeps z x0_ := (State.waitTo_keeps _ _ hz)
    try clear_value x0_
    revert x0_
    refine keeps_id ?_
    intro x0_ h0_
    extract_lets +onlyGivenNames x1_
    extract_lets +onlyGivenNames x2_
    have h2_ : Keeps z x2_ := (keeps_anx h0_ _)
    try clear_value x2_
    revert x2_
    refine keeps_id ?_
    intro x2_ h2_
    exact (keepsA_next (keeps_foldl (fun _ _ h3_ => (by
      extract_lets +onlyGivenNames x4_
      have h4_ : Keeps z x4_.1 := (State.anxPost_keeps _ _ _ _ _ h3_)
      try clear_value x4_
      revert x4_
      refine keeps_id ?_
      intro x4_ h4_
      extract_lets +onlyGivenNames x5_
      extract_lets +onlyGivenNames x6_
      have h6_ : Keeps z x6_ := (State.useFree_keeps _ h4_)
      try clear_value x6_
      revert x6_
      refine keeps_id ?_
      intro x6_ h6_
      exact (keeps_anx h6_ _)))
    h2_))))

theorem State.anxRecord_keeps {z : State} (s : State) (scode : Nat) (p1 : Nat) (p2 : Nat) (p3 : Nat) (hz : Keeps z s) :
    Keeps z (State.anxRecord s scode p1 p2 p3) := by
  unfold State.anxRecord
  extract_lets +onlyGivenNames x0_
  extract_lets +onlyGivenNames x1_
  exact (keeps_ite hz
  (by
    extract_lets +onlyGivenNames x2_
    exact (State.anxReport_keeps _ _ _ (keeps_anx hz _))))

theorem State.anxPowerFail_keeps {z : State} (s : State) (hz : Keeps z s) :
    Keeps z (State.anxPowerFail s) := by
  unfold State.anxPowerFail
  exact (keeps_ite (State.anxRecord_keeps _ _ _ _ _ (State.anxCommit_keeps _ hz))
  hz)

theorem State.anxRefuse_keeps {z : State} (s : State) (cmd : Nat) (why : Nat) (num : Nat) (hz : Keeps z s) :
    Keeps z (State.anxRefuse s cmd why num) := by
  unfold State.anxRefuse
  exact (keeps_ite hz
  (State.anxRecord_keeps _ _ _ _ _ hz))

theorem State.anxIdentify_keeps {z : State} (s : State) (hz : Keeps z s) :
    Keeps z (State.anxIdentify s) := by
  unfold State.anxIdentify
  extract_lets +onlyGivenNames x0_
  extract_lets +onlyGivenNames x1_
  have h1_ : Keeps z x1_ := (State.anxReport_keeps _ _ _ hz)
  try clear_value x1_
  revert x1_
  refine keeps_id ?_
  intro x1_ h1_
  exact (State.anxReport_keeps _ _ _ h1_)

theorem execAnnexStatusPost_keeps {z : State} (s : State) (hz : Keeps z s) :
    KeepsA z (execAnnexStatusPost s) := by
  unfold execAnnexStatusPost
  exact (keeps_iteA (keepsA_next hz)
  (by
    extract_lets +onlyGivenNames x0_
    have h0_ : Keeps z x0_ := (State.waitTo_keeps _ _ hz)
    try clear_value x0_
    revert x0_
    refine keeps_id ?_
    intro x0_ h0_
    extract_lets +onlyGivenNames x1_
    extract_lets +onlyGivenNames x2_
    have h2_ : Keeps z x2_ := (keeps_anx h0_ _)
    try clear_value x2_
    revert x2_
    refine keeps_id ?_
    intro x2_ h2_
    extract_lets +onlyGivenNames x3_
    exact (keepsA_next (State.anxReport_keeps _ _ _ h2_))))

theorem execAnnexTimeHold_keeps {z : State} (s : State) (hz : Keeps z s) :
    KeepsA z (execAnnexTimeHold s) := by
  unfold execAnnexTimeHold
  exact (keeps_iteA (by
    extract_lets +onlyGivenNames x0_
    have h0_ : Keeps z x0_ := (State.waitTo_keeps _ _ hz)
    try clear_value x0_
    revert x0_
    refine keeps_id ?_
    intro x0_ h0_
    extract_lets +onlyGivenNames x1_
    extract_lets +onlyGivenNames x2_
    have h2_ : Keeps z x2_ := (State.anxRebase_keeps _ _ h0_)
    try clear_value x2_
    revert x2_
    refine keeps_id ?_
    intro x2_ h2_
    exact (keepsA_next (State.anxRecord_keeps _ _ _ _ _ (keeps_anx h2_ _))))
  (keepsA_next hz))

theorem execAnnexWriteSwitch_keeps {z : State} (write : Bool) (s : State) (hz : Keeps z s) :
    KeepsA z (execAnnexWriteSwitch write s) := by
  unfold execAnnexWriteSwitch
  exact (keeps_iteA (keepsA_next hz)
  (by
    extract_lets +onlyGivenNames x0_
    have h0_ : Keeps z x0_ := (State.wrB_keeps _ _ _ hz)
    try clear_value x0_
    revert x0_
    refine keeps_id ?_
    intro x0_ h0_
    extract_lets +onlyGivenNames x1_
    have h1_ : Keeps z x1_ := (keeps_ite (State.wr_keeps _ _ _ h0_)
    h0_)
    try clear_value x1_
    revert x1_
    refine keeps_id ?_
    intro x1_ h1_
    extract_lets +onlyGivenNames x2_
    extract_lets +onlyGivenNames x3_
    have h3_ : Keeps z x3_ := (keeps_ite hz
    (keeps_ite (State.post_keeps _ _ _ _ _ _ h1_)
    (keeps_power h1_ _)))
    try clear_value x3_
    revert x3_
    refine keeps_id ?_
    intro x3_ h3_
    exact (keeps_iteA (by
      extract_lets +onlyGivenNames x4_
      extract_lets +onlyGivenNames x5_
      have h5_ : Keeps z x5_ := (keeps_anx h3_ _)
      try clear_value x5_
      revert x5_
      refine keeps_id ?_
      intro x5_ h5_
      exact (keepsA_next (State.anxRecord_keeps _ _ _ _ _ h5_)))
    (keepsA_next h3_))))

theorem execClearLog_keeps {z : State} (hash0' : List Byte) (s : State) (hz : Keeps z s) :
    KeepsA z (execClearLog hash0' s) := by
  unfold execClearLog
  exact (keeps_iteA (keepsA_next hz)
  (by
    extract_lets +onlyGivenNames x0_
    extract_lets +onlyGivenNames x1_
    exact (keeps_iteA (keepsA_next (State.anxRefuse_keeps _ _ _ _ hz))
    (keeps_iteA (keepsA_next (State.anxRefuse_keeps _ _ _ _ hz))
    (keepsA_next (State.anxRecord_keeps _ _ _ _ _ (keeps_anx hz _)))))))

theorem State.anxChanged_keeps {z : State} (s : State) (c : AnxChange) (hz : Keeps z s) :
    Keeps z (State.anxChanged s c) := by
  unfold State.anxChanged
  extract_lets +onlyGivenNames x0_
  exact (keeps_ite (State.anxRecord_keeps _ _ _ _ _ hz)
  (State.anxRecord_keeps _ _ _ _ _ hz))

theorem State.anxCurrent_keeps {z : State} (s : State) (i : Nat) (c : AnxCurrent) (hz : Keeps z s) :
    Keeps z (State.anxCurrent s i c) := by
  unfold State.anxCurrent
  extract_lets +onlyGivenNames x0_
  extract_lets +onlyGivenNames x1_
  extract_lets +onlyGivenNames x2_
  extract_lets +onlyGivenNames x3_
  exact (keeps_ite (keeps_ite (keeps_anx hz _)
  (State.anxRecord_keeps _ _ _ _ _ (keeps_anx hz _)))
  (by
    extract_lets +onlyGivenNames x4_
    have h4_ : Keeps z x4_ := (keeps_anx hz _)
    try clear_value x4_
    revert x4_
    refine keeps_id ?_
    intro x4_ h4_
    exact (keeps_ite (State.anxRecord_keeps _ _ _ _ _ h4_)
    h4_)))

theorem State.anxWord_keeps {z : State} (s : State) (word : Int) (hz : Keeps z s) :
    Keeps z (State.anxWord s word) := by
  unfold State.anxWord
  extract_lets +onlyGivenNames x0_
  extract_lets +onlyGivenNames x1_
  extract_lets +onlyGivenNames x2_
  have h2_ : Keeps z x2_ := (State.anxRebase_keeps _ _ hz)
  try clear_value x2_
  revert x2_
  refine keeps_id ?_
  intro x2_ h2_
  extract_lets +onlyGivenNames x3_
  extract_lets +onlyGivenNames x4_
  have h4_ : Keeps z x4_ := (keeps_anx h2_ _)
  try clear_value x4_
  revert x4_
  refine keeps_id ?_
  intro x4_ h4_
  exact (keeps_ite (State.anxRecord_keeps _ _ _ _ _ h4_)
  h4_)

theorem execAnnexInterval_keeps {z : State} (pulses : List AnxPulse) (currents : List AnxCurrent) (s : State) (hz : Keeps z s) :
    KeepsA z (execAnnexInterval pulses currents s) := by
  unfold execAnnexInterval
  exact (keeps_iteA (keepsA_next hz)
  (by
    extract_lets +onlyGivenNames x0_
    have h0_ : Keeps z x0_ := (State.waitTo_keeps _ _ hz)
    try clear_value x0_
    revert x0_
    refine keeps_id ?_
    intro x0_ h0_
    extract_lets +onlyGivenNames x1_
    extract_lets +onlyGivenNames x2_
    have h2_ : Keeps z x2_ := (keeps_anx h0_ _)
    try clear_value x2_
    revert x2_
    refine keeps_id ?_
    intro x2_ h2_
    extract_lets +onlyGivenNames x3_
    have h3_ : Keeps z x3_ := (keeps_foldl (fun _ _ h4_ => (by
      split
      · exact (State.anxCurrent_keeps _ _ _ h4_)
      · exact h4_))
    h2_)
    try clear_value x3_
    revert x3_
    refine keeps_id ?_
    intro x3_ h3_
    extract_lets +onlyGivenNames x5_
    extract_lets +onlyGivenNames x6_
    exact (keepsA_next (keeps_anx h3_ _))))

theorem State.anxStart_keeps {z : State} (s : State) (hz : Keeps z s) :
    Keeps z (State.anxStart s) := by
  unfold State.anxStart
  exact (keeps_ite hz
  (by
    extract_lets +onlyGivenNames x0_
    extract_lets +onlyGivenNames x1_
    extract_lets +onlyGivenNames x2_
    have h2_ : Keeps z x2_ := (keeps_anx hz _)
    try clear_value x2_
    revert x2_
    refine keeps_id ?_
    intro x2_ h2_
    exact (State.anxIdentify_keeps _ (State.anxRecord_keeps _ _ _ _ _ h2_))))

theorem execTimeWordSend_keeps {z : State} (good : Bool) (s : State) (hz : Keeps z s) :
    KeepsA z (execTimeWordSend good s) := by
  unfold execTimeWordSend
  exact (keeps_iteA (keepsA_next hz)
  (by
    extract_lets +onlyGivenNames x0_
    have h0_ : Keeps z x0_ := (State.wordInstant_keeps _ hz)
    try clear_value x0_
    revert x0_
    refine keeps_id ?_
    intro x0_ h0_
    extract_lets +onlyGivenNames x1_
    extract_lets +onlyGivenNames x2_
    extract_lets +onlyGivenNames x3_
    have h3_ : Keeps z x3_ := (keeps_anx h0_ _)
    try clear_value x3_
    revert x3_
    refine keeps_id ?_
    intro x3_ h3_
    exact (keeps_iteA (keepsA_next h3_)
    (by
      extract_lets +onlyGivenNames x4_
      extract_lets +onlyGivenNames x5_
      extract_lets +onlyGivenNames x6_
      have h6_ : Keeps z x6_ := (keeps_anx h3_ _)
      try clear_value x6_
      revert x6_
      refine keeps_id ?_
      intro x6_ h6_
      extract_lets +onlyGivenNames x7_
      have h7_ : Keeps z x7_ := (keeps_ite (State.anxIdentify_keeps _ h6_)
      h6_)
      try clear_value x7_
      revert x7_
      refine keeps_id ?_
      intro x7_ h7_
      exact (keepsA_next (keeps_ite (State.anxWord_keeps _ _ h7_)
      h7_))))))

theorem execLoadSoftware_keeps {z : State} (image : List Byte) (sig : List Byte) (name : List Byte) (ifhash : List Byte) (version : BitVec 32) (build : BitVec 32) (s : State) (hz : Keeps z s) :
    KeepsA z (execLoadSoftware image sig name ifhash version build s) := by
  unfold execLoadSoftware
  exact (keeps_iteA (keepsA_next hz)
  (by
    extract_lets +onlyGivenNames x0_
    extract_lets +onlyGivenNames x1_
    exact (keeps_iteA (keepsA_next (State.anxRefuse_keeps _ _ _ _ hz))
    (keeps_iteA (keepsA_next (State.anxRefuse_keeps _ _ _ _ hz))
    (keeps_iteA (keepsA_next (State.anxRefuse_keeps _ _ _ _ hz))
    (by
      extract_lets +onlyGivenNames x2_
      have h2_ : Keeps z x2_ := (State.anxCommit_keeps _ (State.anxRecord_keeps _ _ _ _ _ hz))
      try clear_value x2_
      revert x2_
      refine keeps_id ?_
      intro x2_ h2_
      exact (keepsA_next (State.anxStart_keeps _ (keeps_anx h2_ _)))))))))

theorem execWriteParam_keeps {z : State} (changes : List AnxChange) (s : State) (hz : Keeps z s) :
    KeepsA z (execWriteParam changes s) := by
  unfold execWriteParam
  exact (keeps_iteA (keepsA_next hz)
  (by
    extract_lets +onlyGivenNames x0_
    extract_lets +onlyGivenNames x1_
    exact (by
      split
      · exact (keepsA_next (State.anxRefuse_keeps _ _ _ _ hz))
      · exact (keeps_iteA (keepsA_next (State.anxRefuse_keeps _ _ _ _ hz))
        (keeps_iteA (keepsA_next (State.anxRefuse_keeps _ _ _ _ hz))
        (by
          extract_lets +onlyGivenNames x2_
          have h2_ : Keeps z x2_ := (keeps_foldl (fun _ _ h3_ => (State.anxChanged_keeps _ _ h3_))
          hz)
          try clear_value x2_
          revert x2_
          refine keeps_id ?_
          intro x2_ h2_
          exact (keepsA_next (keeps_anx h2_ _))))))))

end Sys2Proof.Machine
end

