-- ==== Sys2Proof/Laws/KeepsAxis.lean ====
section
/-!
SUPPORT. What the operations of Machine/Axis.lean keep (Laws/Keeps.lean).
-/
namespace Sys2Proof.Machine

theorem State.setAxis_keeps {z : State} (s : State) (a : Nat) (x : Axis) (hz : Keeps z s) :
    Keeps z (State.setAxis s a x) := by
  unfold State.setAxis
  exact (keeps_axes hz _)

theorem State.axLines_keeps {z : State} (s : State) (a : Nat) (hz : Keeps z s) :
    Keeps z (State.axLines s a) := by
  unfold State.axLines
  extract_lets +onlyGivenNames x0_
  extract_lets +onlyGivenNames x1_
  extract_lets +onlyGivenNames x2_
  extract_lets +onlyGivenNames x3_
  extract_lets +onlyGivenNames x4_
  extract_lets +onlyGivenNames x5_
  exact (State.setAxis_keeps _ _ _ hz)

theorem State.axTakeover_keeps {z : State} (s : State) (hz : Keeps z s) :
    Keeps z (State.axTakeover s) := by
  unfold State.axTakeover
  exact (keeps_foldl (fun _ _ h0_ => (keeps_ite (State.setAxis_keeps _ _ _ h0_)
  h0_))
  hz)

theorem State.axEnter_keeps {z : State} (s : State) (a : Nat) (st : Nat) (hz : Keeps z s) :
    Keeps z (State.axEnter s a st) := by
  unfold State.axEnter
  extract_lets +onlyGivenNames x0_
  have h0_ : Keeps z x0_ := (State.wr_keeps _ _ _ hz)
  try clear_value x0_
  revert x0_
  refine keeps_id ?_
  intro x0_ h0_
  extract_lets +onlyGivenNames x1_
  extract_lets +onlyGivenNames x2_
  exact (State.setAxis_keeps _ _ _ h0_)

theorem State.axAdvance_keeps {z : State} (s : State) (a : Nat) (hz : Keeps z s) :
    Keeps z (State.axAdvance s a) := by
  unfold State.axAdvance
  extract_lets +onlyGivenNames x0_
  extract_lets +onlyGivenNames x1_
  exact (keeps_ite (by
    extract_lets +onlyGivenNames x2_
    extract_lets +onlyGivenNames x3_
    extract_lets +onlyGivenNames x4_
    extract_lets +onlyGivenNames x5_
    extract_lets +onlyGivenNames x6_
    extract_lets +onlyGivenNames x7_
    extract_lets +onlyGivenNames x8_
    extract_lets +onlyGivenNames x9_
    extract_lets +onlyGivenNames x10_
    extract_lets +onlyGivenNames x11_
    extract_lets +onlyGivenNames x12_
    extract_lets +onlyGivenNames x13_
    extract_lets +onlyGivenNames x14_
    exact (State.useFree_keeps _ (State.setAxis_keeps _ _ _ hz)))
  (State.setAxis_keeps _ _ _ hz))

theorem State.axProgress_keeps {z : State} (s : State) (a : Nat) (hz : Keeps z s) :
    Keeps z (State.axProgress s a) := by
  unfold State.axProgress
  extract_lets +onlyGivenNames x0_
  extract_lets +onlyGivenNames x1_
  extract_lets +onlyGivenNames x2_
  have h2_ : Keeps z x2_ := (keeps_ite (State.setAxis_keeps _ _ _ hz)
  hz)
  try clear_value x2_
  revert x2_
  refine keeps_id ?_
  intro x2_ h2_
  extract_lets +onlyGivenNames x3_
  exact (keeps_ite (keeps_ite h2_
  (State.axEnter_keeps _ _ _ h2_))
  (keeps_ite (keeps_ite (State.axEnter_keeps _ _ _ h2_)
  h2_)
  (keeps_ite h2_
  (keeps_ite (keeps_ite (State.axEnter_keeps _ _ _ h2_)
  (keeps_ite (State.axEnter_keeps _ _ _ h2_)
  h2_))
  h2_))))

theorem State.axShowAll_keeps {z : State} (s : State) (hz : Keeps z s) :
    Keeps z (State.axShowAll s) := by
  unfold State.axShowAll
  extract_lets +onlyGivenNames x0_
  extract_lets +onlyGivenNames x1_
  have h1_ : Keeps z x1_ := (State.wr_keeps _ _ _ hz)
  try clear_value x1_
  revert x1_
  refine keeps_id ?_
  intro x1_ h1_
  extract_lets +onlyGivenNames x2_
  have h2_ : Keeps z x2_ := (State.wr_keeps _ _ _ h1_)
  try clear_value x2_
  revert x2_
  refine keeps_id ?_
  intro x2_ h2_
  exact (State.wr_keeps _ _ _ h2_)

theorem State.axShow_keeps {z : State} (s : State) (a : Nat) (hz : Keeps z s) :
    Keeps z (State.axShow s a) := by
  unfold State.axShow
  extract_lets +onlyGivenNames x0_
  extract_lets +onlyGivenNames x1_
  have h1_ : Keeps z x1_ := (State.wr64_keeps _ _ _ _ hz)
  try clear_value x1_
  revert x1_
  refine keeps_id ?_
  intro x1_ h1_
  extract_lets +onlyGivenNames x2_
  have h2_ : Keeps z x2_ := (State.wr64_keeps _ _ _ _ h1_)
  try clear_value x2_
  revert x2_
  refine keeps_id ?_
  intro x2_ h2_
  extract_lets +onlyGivenNames x3_
  have h3_ : Keeps z x3_ := (State.wr_keeps _ _ _ h2_)
  try clear_value x3_
  revert x3_
  refine keeps_id ?_
  intro x3_ h3_
  extract_lets +onlyGivenNames x4_
  have h4_ : Keeps z x4_ := (State.wr_keeps _ _ _ h3_)
  try clear_value x4_
  revert x4_
  refine keeps_id ?_
  intro x4_ h4_
  exact (State.axShowAll_keeps _ (State.axLines_keeps _ _ (State.wrB_keeps _ _ _ h4_)))

theorem execEnSettleElapsed_keeps {z : State} (a : Fin 8) (s : State) (hz : Keeps z s) :
    KeepsA z (execEnSettleElapsed a s) := by
  unfold execEnSettleElapsed
  exact (keeps_iteA (by
    extract_lets +onlyGivenNames x0_
    extract_lets +onlyGivenNames x1_
    have h1_ : Keeps z x1_ := (keeps_frc hz _)
    try clear_value x1_
    revert x1_
    refine keeps_id ?_
    intro x1_ h1_
    exact (keepsA_next (State.axShow_keeps _ _ (State.axEnter_keeps _ _ _ h1_))))
  (keepsA_next hz))

theorem State.axCommit_keeps {z : State} (s : State) (t : Nat) (safe : Bool) (img : List Byte) (hz : Keeps z s) :
    Keeps z (State.axCommit s t safe img) := by
  unfold State.axCommit
  extract_lets +onlyGivenNames x0_
  exact (keeps_foldl (fun _ _ h1_ => (keeps_ite (by
    extract_lets +onlyGivenNames x2_
    extract_lets +onlyGivenNames x3_
    extract_lets +onlyGivenNames x4_
    extract_lets +onlyGivenNames x5_
    have h5_ : Keeps z x5_ := (State.setAxis_keeps _ _ _ h1_)
    try clear_value x5_
    revert x5_
    refine keeps_id ?_
    intro x5_ h5_
    exact (State.wake_keeps _ _ h5_))
  h1_))
  hz)

theorem execStillDelayElapsed_keeps {z : State} (a : Fin 8) (s : State) (hz : Keeps z s) :
    KeepsA z (execStillDelayElapsed a s) := by
  unfold execStillDelayElapsed
  exact (keeps_iteA (by
    extract_lets +onlyGivenNames x0_
    have h0_ : Keeps z x0_ := (keeps_frc hz _)
    try clear_value x0_
    revert x0_
    refine keeps_id ?_
    intro x0_ h0_
    exact (keepsA_next (State.axShow_keeps _ _ (State.axEnter_keeps _ _ _ h0_))))
  (keepsA_next hz))

theorem State.axLock_keeps {z : State} (s : State) (hz : Keeps z s) :
    Keeps z (State.axLock s) := by
  unfold State.axLock
  exact (State.axShowAll_keeps _ (keeps_foldl (fun _ _ h0_ => (keeps_ite (by
    extract_lets +onlyGivenNames x1_
    have h1_ : Keeps z x1_ := (State.setAxis_keeps _ _ _ h0_)
    try clear_value x1_
    revert x1_
    refine keeps_id ?_
    intro x1_ h1_
    extract_lets +onlyGivenNames x2_
    have h2_ : Keeps z x2_ := (State.wr64_keeps _ _ _ _ h1_)
    try clear_value x2_
    revert x2_
    refine keeps_id ?_
    intro x2_ h2_
    exact (State.wr64_keeps _ _ _ _ h2_))
  h0_))
  hz))

theorem State.axStall_keeps {z : State} (s : State) (a : Nat) (hz : Keeps z s) :
    Keeps z (State.axStall s a) := by
  unfold State.axStall
  extract_lets +onlyGivenNames x0_
  extract_lets +onlyGivenNames x1_
  extract_lets +onlyGivenNames x2_
  exact (keeps_ite hz
  (by
    extract_lets +onlyGivenNames x3_
    extract_lets +onlyGivenNames x4_
    exact (keeps_ite (State.setAxis_keeps _ _ _ hz)
    (keeps_ite (State.setAxis_keeps _ _ _ hz)
    (by
      extract_lets +onlyGivenNames x5_
      have h5_ : Keeps z x5_ := (State.setAxis_keeps _ _ _ hz)
      try clear_value x5_
      revert x5_
      refine keeps_id ?_
      intro x5_ h5_
      extract_lets +onlyGivenNames x6_
      have h6_ : Keeps z x6_ := (State.axEnter_keeps _ _ _ (State.wr_keeps _ _ _ h5_))
      try clear_value x6_
      revert x6_
      refine keeps_id ?_
      intro x6_ h6_
      exact (State.post_keeps _ _ _ _ _ _ h6_))))))

theorem execAxisResume_keeps {z : State} (a : Fin 8) (s : State) (hz : Keeps z s) :
    KeepsA z (execAxisResume a s) := by
  unfold execAxisResume
  extract_lets +onlyGivenNames x0_
  exact (keeps_iteA (by
    extract_lets +onlyGivenNames x1_
    have h1_ : Keeps z x1_ := (keeps_frc hz _)
    try clear_value x1_
    revert x1_
    refine keeps_id ?_
    intro x1_ h1_
    extract_lets +onlyGivenNames x2_
    have h2_ : Keeps z x2_ := (State.setAxis_keeps _ _ _ h1_)
    try clear_value x2_
    revert x2_
    refine keeps_id ?_
    intro x2_ h2_
    exact (keepsA_next (State.axShow_keeps _ _ (State.post_keeps _ _ _ _ _ _ h2_))))
  (keepsA_next hz))

theorem State.axPlan_keeps {z : State} (s : State) (a : Nat) (hz : Keeps z s) :
    Keeps z (State.axPlan s a) := by
  unfold State.axPlan
  extract_lets +onlyGivenNames x0_
  extract_lets +onlyGivenNames x1_
  extract_lets +onlyGivenNames x2_
  extract_lets +onlyGivenNames x3_
  extract_lets +onlyGivenNames x4_
  extract_lets +onlyGivenNames x5_
  extract_lets +onlyGivenNames x6_
  extract_lets +onlyGivenNames x7_
  extract_lets +onlyGivenNames x8_
  extract_lets +onlyGivenNames x9_
  extract_lets +onlyGivenNames x10_
  extract_lets +onlyGivenNames x11_
  extract_lets +onlyGivenNames x12_
  extract_lets +onlyGivenNames x13_
  extract_lets +onlyGivenNames x14_
  extract_lets +onlyGivenNames x15_
  exact (keeps_ite (State.setAxis_keeps _ _ _ hz)
  (keeps_ite (keeps_ite (by
    extract_lets +onlyGivenNames x16_
    have h16_ : Keeps z x16_ := (State.wr_keeps _ _ _ (State.setAxis_keeps _ _ _ hz))
    try clear_value x16_
    revert x16_
    refine keeps_id ?_
    intro x16_ h16_
    exact (State.post_keeps _ _ _ _ _ _ h16_))
  (by
    extract_lets +onlyGivenNames x17_
    have h17_ : Keeps z x17_ := (State.setAxis_keeps _ _ _ hz)
    try clear_value x17_
    revert x17_
    refine keeps_id ?_
    intro x17_ h17_
    exact (keeps_ite (keeps_ite (State.wr_keeps _ _ _ h17_)
    h17_)
    (by
      extract_lets +onlyGivenNames x18_
      extract_lets +onlyGivenNames x19_
      have h19_ : Keeps z x19_ := (State.wr_keeps _ _ _ (State.setAxis_keeps _ _ _ h17_))
      try clear_value x19_
      revert x19_
      refine keeps_id ?_
      intro x19_ h19_
      exact (State.post_keeps _ _ _ _ _ _ h19_)))))
  (by
    extract_lets +onlyGivenNames x20_
    have h20_ : Keeps z x20_ := (State.setAxis_keeps _ _ _ hz)
    try clear_value x20_
    revert x20_
    refine keeps_id ?_
    intro x20_ h20_
    exact (keeps_ite (State.post_keeps _ _ _ _ _ _ (State.wr_keeps _ _ _ h20_))
    h20_))))

theorem execEncErr_keeps {z : State} (a : Fin 8) (s : State) (hz : Keeps z s) :
    KeepsA z (execEncErr a s) := by
  unfold execEncErr
  exact (keeps_iteA (keeps_iteA (keepsA_next (State.post_keeps _ _ _ _ _ _ hz))
  (by
    extract_lets +onlyGivenNames x0_
    extract_lets +onlyGivenNames x1_
    have h1_ : Keeps z x1_ := (State.setAxis_keeps _ _ _ hz)
    try clear_value x1_
    revert x1_
    refine keeps_id ?_
    intro x1_ h1_
    extract_lets +onlyGivenNames x2_
    have h2_ : Keeps z x2_ := (State.wr_keeps _ _ _ h1_)
    try clear_value x2_
    revert x2_
    refine keeps_id ?_
    intro x2_ h2_
    exact (keepsA_next (State.post_keeps _ _ _ _ _ _ h2_))))
  (keepsA_next hz))

theorem State.axLossFault_keeps {z : State} (s : State) (a : Nat) (hz : Keeps z s) :
    Keeps z (State.axLossFault s a) := by
  unfold State.axLossFault
  extract_lets +onlyGivenNames x0_
  exact (keeps_ite (State.axPlan_keeps _ _ (State.axEnter_keeps _ _ _ hz))
  hz)

theorem State.axAim_keeps {z : State} (s : State) (a : Nat) (hz : Keeps z s) :
    Keeps z (State.axAim s a) := by
  unfold State.axAim
  extract_lets +onlyGivenNames x0_
  extract_lets +onlyGivenNames x1_
  extract_lets +onlyGivenNames x2_
  extract_lets +onlyGivenNames x3_
  have h3_ : Keeps z x3_ := (State.setAxis_keeps _ _ _ hz)
  try clear_value x3_
  revert x3_
  refine keeps_id ?_
  intro x3_ h3_
  extract_lets +onlyGivenNames x4_
  have h4_ : Keeps z x4_ := (keeps_ite (by
    split
    · exact (State.post_keeps _ _ _ _ _ _ (State.wr_keeps _ _ _ h3_))
    · exact h3_)
  hz)
  try clear_value x4_
  revert x4_
  refine keeps_id ?_
  intro x4_ h4_
  exact (State.axPlan_keeps _ _ h4_)

theorem State.axLossSet_keeps {z : State} (s : State) (a : Nat) (loss : Bool) (hz : Keeps z s) :
    Keeps z (State.axLossSet s a loss) := by
  unfold State.axLossSet
  exact (keeps_ite hz
  (by
    extract_lets +onlyGivenNames x0_
    have h0_ : Keeps z x0_ := (State.wrB_keeps _ _ _ hz)
    try clear_value x0_
    revert x0_
    refine keeps_id ?_
    intro x0_ h0_
    exact (keeps_ite (State.axLossFault_keeps _ _ (State.post_keeps _ _ _ _ _ _ h0_))
    h0_)))

theorem State.axAccept_keeps {z : State} (s : State) (a : Nat) (b : List Byte) (hz : Keeps z s) :
    Keeps z (State.axAccept s a b) := by
  unfold State.axAccept
  extract_lets +onlyGivenNames x0_
  extract_lets +onlyGivenNames x1_
  extract_lets +onlyGivenNames x2_
  extract_lets +onlyGivenNames x3_
  extract_lets +onlyGivenNames x4_
  have h4_ : Keeps z x4_ := (State.setAxis_keeps _ _ _ hz)
  try clear_value x4_
  revert x4_
  refine keeps_id ?_
  intro x4_ h4_
  extract_lets +onlyGivenNames x5_
  have h5_ : Keeps z x5_ := (keeps_ite (State.wr_keeps _ _ _ (State.wr_keeps _ _ _ (State.wr_keeps _ _ _ (State.wr_keeps _ _ _ (State.wr_keeps _ _ _ h4_)))))
  h4_)
  try clear_value x5_
  revert x5_
  refine keeps_id ?_
  intro x5_ h5_
  extract_lets +onlyGivenNames x6_
  extract_lets +onlyGivenNames x7_
  extract_lets +onlyGivenNames x8_
  have h8_ : Keeps z x8_ := (State.wr_keeps _ _ _ (State.setAxis_keeps _ _ _ h5_))
  try clear_value x8_
  revert x8_
  refine keeps_id ?_
  intro x8_ h8_
  extract_lets +onlyGivenNames x9_
  have h9_ : Keeps z x9_ := (keeps_ite (keeps_ite (State.axEnter_keeps _ _ _ h8_)
  h8_)
  h5_)
  try clear_value x9_
  revert x9_
  refine keeps_id ?_
  intro x9_ h9_
  extract_lets +onlyGivenNames x10_
  extract_lets +onlyGivenNames x11_
  have h11_ : Keeps z x11_ := (keeps_ite (State.setAxis_keeps _ _ _ h9_)
  h9_)
  try clear_value x11_
  revert x11_
  refine keeps_id ?_
  intro x11_ h11_
  exact (State.axAim_keeps _ _ h11_)

theorem State.axVlimLoWrite_keeps {z : State} (s : State) (m : Master) (a : Nat) (upper : Bool) (v : Nat) (hz : Keeps z s) :
    Keeps z (State.axVlimLoWrite s m a upper v) := by
  unfold State.axVlimLoWrite
  exact (keeps_ite hz
  (keeps_ite (State.refuseWrite_keeps _ _ _ hz)
  (State.mirror_keeps _ _ _ _ (State.stageLo_keeps _ _ _ _ hz))))

theorem State.axVlim_keeps {z : State} (s : State) (a : Nat) (hz : Keeps z s) :
    Keeps z (State.axVlim s a) := by
  unfold State.axVlim
  extract_lets +onlyGivenNames x0_
  exact (keeps_ite hz
  (by
    extract_lets +onlyGivenNames x1_
    extract_lets +onlyGivenNames x2_
    extract_lets +onlyGivenNames x3_
    extract_lets +onlyGivenNames x4_
    extract_lets +onlyGivenNames x5_
    have h5_ : Keeps z x5_ := (State.setAxis_keeps _ _ _ hz)
    try clear_value x5_
    revert x5_
    refine keeps_id ?_
    intro x5_ h5_
    extract_lets +onlyGivenNames x6_
    have h6_ : Keeps z x6_ := (State.wr_keeps _ _ _ h5_)
    try clear_value x6_
    revert x6_
    refine keeps_id ?_
    intro x6_ h6_
    exact (keeps_ite (by
      extract_lets +onlyGivenNames x7_
      have h7_ : Keeps z x7_ := (State.wr64_keeps _ _ _ _ h6_)
      try clear_value x7_
      revert x7_
      refine keeps_id ?_
      intro x7_ h7_
      extract_lets +onlyGivenNames x8_
      have h8_ : Keeps z x8_ := (State.wr64_keeps _ _ _ _ h7_)
      try clear_value x8_
      revert x8_
      refine keeps_id ?_
      intro x8_ h8_
      exact (State.axAim_keeps _ _ (State.wr_keeps _ _ _ h8_)))
    (State.post_keeps _ _ _ _ _ _ (State.wr_keeps _ _ _ h6_)))))

theorem execEncLossClear_keeps {z : State} (a : Fin 8) (s : State) (hz : Keeps z s) :
    KeepsA z (execEncLossClear a s) := by
  unfold execEncLossClear
  exact (keeps_iteA (by
    extract_lets +onlyGivenNames x0_
    extract_lets +onlyGivenNames x1_
    have h1_ : Keeps z x1_ := (State.setAxis_keeps _ _ _ hz)
    try clear_value x1_
    revert x1_
    refine keeps_id ?_
    intro x1_ h1_
    exact (keepsA_next (keeps_ite h1_
    (State.axLossSet_keeps _ _ _ h1_))))
  (keepsA_next hz))

theorem State.axVlimHiWrite_keeps {z : State} (s : State) (m : Master) (a : Nat) (upper : Bool) (v : Nat) (hz : Keeps z s) :
    Keeps z (State.axVlimHiWrite s m a upper v) := by
  unfold State.axVlimHiWrite
  extract_lets +onlyGivenNames x0_
  exact (keeps_ite hz
  (keeps_ite (State.refuseWrite_keeps _ _ _ hz)
  (by
    extract_lets +onlyGivenNames x1_
    extract_lets +onlyGivenNames x2_
    have h2_ : Keeps z x2_ := (State.mirror_keeps _ _ _ _ (State.unstage_keeps _ _ _ hz))
    try clear_value x2_
    revert x2_
    refine keeps_id ?_
    intro x2_ h2_
    extract_lets +onlyGivenNames x3_
    extract_lets +onlyGivenNames x4_
    exact (State.wr_keeps _ _ _ (State.setAxis_keeps _ _ _ h2_)))))

theorem execEncLoss_keeps {z : State} (a : Fin 8) (s : State) (hz : Keeps z s) :
    KeepsA z (execEncLoss a s) := by
  unfold execEncLoss
  exact (keeps_iteA (by
    extract_lets +onlyGivenNames x0_
    extract_lets +onlyGivenNames x1_
    have h1_ : Keeps z x1_ := (State.setAxis_keeps _ _ _ hz)
    try clear_value x1_
    revert x1_
    refine keeps_id ?_
    intro x1_ h1_
    exact (keeps_iteA (keepsA_next (State.post_keeps _ _ _ _ _ _ h1_))
    (keepsA_next (State.axShow_keeps _ _ (State.axLossSet_keeps _ _ _ h1_)))))
  (keepsA_next hz))

theorem State.axTake_keeps {z : State} (s : State) (a : Nat) (hz : Keeps z s) :
    Keeps z (State.axTake s a) := by
  unfold State.axTake
  exact (by
    split
    · exact hz
    · extract_lets +onlyGivenNames x0_
      extract_lets +onlyGivenNames x1_
      have h1_ : Keeps z x1_ := (State.setAxis_keeps _ _ _ hz)
      try clear_value x1_
      revert x1_
      refine keeps_id ?_
      intro x1_ h1_
      extract_lets +onlyGivenNames x2_
      exact (keeps_ite h1_
      (keeps_ite (State.axAccept_keeps _ _ _ h1_)
      (State.post_keeps _ _ _ _ _ _ (State.setAxis_keeps _ _ _ h1_)))))

theorem execVlimStage_keeps {z : State} (m : Master) (a : Fin 8) (upper : Bool) (value : Word) (s : State) (hz : Keeps z s) :
    KeepsA z (execVlimStage m a upper value s) := by
  unfold execVlimStage
  exact (keepsA_next (State.access_keeps _ _ _ _ _ _ hz (fun _ h0_ => (State.axVlimHiWrite_keeps _ _ _ _ _ h0_))))

theorem State.axBoundary_keeps {z : State} (s : State) (a : Nat) (count : Nat) (hz : Keeps z s) :
    Keeps z (State.axBoundary s a count) := by
  unfold State.axBoundary
  exact (keeps_ite hz
  (by
    extract_lets +onlyGivenNames x0_
    extract_lets +onlyGivenNames x1_
    extract_lets +onlyGivenNames x2_
    have h2_ : Keeps z x2_ := (State.setAxis_keeps _ _ _ hz)
    try clear_value x2_
    revert x2_
    refine keeps_id ?_
    intro x2_ h2_
    extract_lets +onlyGivenNames x3_
    have h3_ : Keeps z x3_ := (State.axLossFault_keeps _ _ (State.axProgress_keeps _ _ (State.axTake_keeps _ _ (State.axVlim_keeps _ _ h2_))))
    try clear_value x3_
    revert x3_
    refine keeps_id ?_
    intro x3_ h3_
    exact (State.axShow_keeps _ _ (State.axAdvance_keeps _ _ (State.axProgress_keeps _ _ (State.axStall_keeps _ _ h3_))))))

theorem execStepBoundary_keeps {z : State} (deltas : List Int) (s : State) (hz : Keeps z s) :
    KeepsA z (execStepBoundary deltas s) := by
  unfold execStepBoundary
  exact (keeps_iteA (by
    extract_lets +onlyGivenNames x0_
    have h0_ : Keeps z x0_ := (keeps_frc hz _)
    try clear_value x0_
    revert x0_
    refine keeps_id ?_
    intro x0_ h0_
    extract_lets +onlyGivenNames x1_
    exact (keeps_iteA (by
      extract_lets +onlyGivenNames x2_
      have h2_ : Keeps z x2_ := (keeps_foldl (fun _ _ h3_ => (keeps_ite (State.axBoundary_keeps _ _ _ (State.axLossSet_keeps _ _ _ h3_))
      h3_))
      h0_)
      try clear_value x2_
      revert x2_
      refine keeps_id ?_
      intro x2_ h2_
      exact (keepsA_next (keeps_ite (State.banSend_keeps _ _ _ h2_)
      h2_)))
    (keepsA_next h0_)))
  (keepsA_next hz))

theorem State.axFollow_keeps {z : State} (s : State) (a : Nat) (count : Option (BitVec 48)) (loss : Bool) (bad : Bool) (hz : Keeps z s) :
    Keeps z (State.axFollow s a count loss bad) := by
  unfold State.axFollow
  exact (keeps_ite hz
  (by
    extract_lets +onlyGivenNames x0_
    extract_lets +onlyGivenNames x1_
    have h1_ : Keeps z x1_ := (State.setAxis_keeps _ _ _ hz)
    try clear_value x1_
    revert x1_
    refine keeps_id ?_
    intro x1_ h1_
    exact (State.axBoundary_keeps _ _ _ (State.axLossSet_keeps _ _ _ h1_))))

theorem State.countsTake_keeps {z : State} (s : State) (counts : List (Option (BitVec 48))) (loss : BitVec 8) (bad : BitVec 8) (hz : Keeps z s) :
    Keeps z (State.countsTake s counts loss bad) := by
  unfold State.countsTake
  exact (keeps_ite (by
    extract_lets +onlyGivenNames x0_
    have h0_ : Keeps z x0_ := (keeps_frc hz _)
    try clear_value x0_
    revert x0_
    refine keeps_id ?_
    intro x0_ h0_
    exact (keeps_foldl (fun _ _ h1_ => (State.axFollow_keeps _ _ _ _ _ h1_))
    h0_))
  hz)

end Sys2Proof.Machine
end

