-- ==== Sys2Proof/Laws/KeepsGuestbook.lean ====
section
/-!
SUPPORT. What the operations of Machine/Guestbook.lean keep (Laws/Keeps.lean).
-/
namespace Sys2Proof.Machine

theorem State.setGbGained_keeps {z : State} (s : State) (c : Nat) (at_ : Nat) (hz : Keeps z s) :
    Keeps z (State.setGbGained s c at_) := by
  unfold State.setGbGained
  exact (keeps_gb hz _ rfl)

theorem State.gbAdvance_keeps {z : State} (s : State) (hz : Keeps z s) :
    Keeps z (State.gbAdvance s) := by
  unfold State.gbAdvance
  extract_lets +onlyGivenNames x0_
  extract_lets +onlyGivenNames x1_
  have h1_ : Keeps z x1_ := (State.wr_keeps _ _ _ hz)
  try clear_value x1_
  revert x1_
  refine keeps_id ?_
  intro x1_ h1_
  exact (keeps_ite (State.wr_keeps _ _ _ (State.wr_keeps _ _ _ h1_))
  h1_)

theorem State.gbCursorWrite_keeps {z : State} (s : State) (m : Master) (value : Nat) (hz : Keeps z s) :
    Keeps z (State.gbCursorWrite s m value) := by
  unfold State.gbCursorWrite
  exact (keeps_gb hz _ rfl)

theorem State.setGbTokens_keeps {z : State} (s : State) (c : Nat) (n : Nat) (hz : Keeps z s) :
    Keeps z (State.setGbTokens s c n) := by
  unfold State.setGbTokens
  exact (keeps_ite (State.wr_keeps _ _ _ hz)
  (keeps_gb hz _ rfl))

theorem State.gbWrite_keeps {z : State} (s : State) (r : GbRec) (hz : Keeps z s) :
    Keeps z (State.gbWrite s r) := by
  unfold State.gbWrite
  exact (keeps_ite (by
    extract_lets +onlyGivenNames x0_
    have h0_ : Keeps z x0_ := (keeps_ite hz
    (State.wr_keeps _ _ _ hz))
    try clear_value x0_
    revert x0_
    refine keeps_id ?_
    intro x0_ h0_
    exact (State.bump_keeps _ _ h0_))
  (by
    extract_lets +onlyGivenNames x1_
    extract_lets +onlyGivenNames x2_
    extract_lets +onlyGivenNames x3_
    extract_lets +onlyGivenNames x4_
    have h4_ : Keeps z x4_ := (State.gbAdvance_keeps _ hz)
    try clear_value x4_
    revert x4_
    refine keeps_id ?_
    intro x4_ h4_
    extract_lets +onlyGivenNames x5_
    have h5_ : Keeps z x5_ := (keeps_ite (State.wr_keeps _ _ _ h4_)
    h4_)
    try clear_value x5_
    revert x5_
    refine keeps_id ?_
    intro x5_ h5_
    extract_lets +onlyGivenNames x6_
    have h6_ : Keeps z x6_ := (State.wr_keeps _ _ _ h5_)
    try clear_value x6_
    revert x6_
    refine keeps_id ?_
    intro x6_ h6_
    exact (keeps_gb h6_ _ rfl)))

theorem execGbRecordWrite_keeps {z : State} (cut : Bool) (s : State) (hz : Keeps z s) :
    KeepsA z (execGbRecordWrite cut s) := by
  unfold execGbRecordWrite
  exact (by
    split
    · exact (keepsA_next hz)
    · extract_lets +onlyGivenNames x0_
      extract_lets +onlyGivenNames x1_
      have h1_ : Keeps z x1_ := (keeps_upd ⟨rfl, rfl, rfl, rfl, rfl, rfl, rfl, rfl⟩ hz)
      try clear_value x1_
      revert x1_
      refine keeps_id ?_
      intro x1_ h1_
      exact (keepsA_next (keeps_ite (State.gbAdvance_keeps _ h1_)
      (State.gbWrite_keeps _ _ h1_))))

theorem State.gbEmpty_keeps {z : State} (s : State) (hz : Keeps z s) :
    Keeps z (State.gbEmpty s) := by
  unfold State.gbEmpty
  extract_lets +onlyGivenNames x0_
  extract_lets +onlyGivenNames x1_
  have h1_ : Keeps z x1_ := by
    subst x1_
    exact (by
      split
      · exact (State.gbWrite_keeps _ _ (keeps_gb hz _ rfl))
      · exact hz)
  try clear_value x1_
  revert x1_
  refine keeps_id ?_
  intro x1_ h1_
  extract_lets +onlyGivenNames x2_
  extract_lets +onlyGivenNames x3_
  extract_lets +onlyGivenNames x4_
  have h4_ : Keeps z x4_ := (State.wr_keeps _ _ _ (State.wr_keeps _ _ _ (State.wr_keeps _ _ _ h1_)))
  try clear_value x4_
  revert x4_
  refine keeps_id ?_
  intro x4_ h4_
  extract_lets +onlyGivenNames x5_
  have h5_ : Keeps z x5_ := (keeps_ite h4_
  (State.wr_keeps _ _ _ h4_))
  try clear_value x5_
  revert x5_
  refine keeps_id ?_
  intro x5_ h5_
  exact (keeps_gb h5_ _ rfl)

theorem State.gbNeed_keeps {z : State} (s : State) (r : GbRec) (hz : Keeps z s) :
    Keeps z (State.gbNeed s r) := by
  unfold State.gbNeed
  exact (keeps_ite (State.bump_keeps _ _ (keeps_ite hz
  (State.wr_keeps _ _ _ hz)))
  (keeps_ite (keeps_gb hz _ rfl)
  (by
    extract_lets +onlyGivenNames x0_
    have h0_ : Keeps z x0_ := (State.bump_keeps _ _ (State.wr_keeps _ _ _ (State.wr_keeps _ _ _ hz)))
    try clear_value x0_
    revert x0_
    refine keeps_id ?_
    intro x0_ h0_
    extract_lets +onlyGivenNames x1_
    exact (keeps_gb h0_ _ rfl))))

theorem State.gbFillBuckets_keeps {z : State} (s : State) (hz : Keeps z s) :
    Keeps z (State.gbFillBuckets s) := by
  unfold State.gbFillBuckets
  exact (keeps_foldl (fun _ _ h0_ => (State.setGbTokens_keeps _ _ _ h0_))
  hz)

theorem State.gbTake_keeps {z : State} (s : State) (c : Nat) (hz : Keeps z s) :
    Keeps z (State.gbTake s c) := by
  unfold State.gbTake
  extract_lets +onlyGivenNames x0_
  have h0_ : Keeps z x0_ := (State.setGbTokens_keeps _ _ _ hz)
  try clear_value x0_
  revert x0_
  refine keeps_id ?_
  intro x0_ h0_
  exact (keeps_ite h0_
  (State.setGbGained_keeps _ _ _ h0_))

theorem State.gbGain_keeps {z : State} (s : State) (c : Nat) (hz : Keeps z s) :
    Keeps z (State.gbGain s c) := by
  unfold State.gbGain
  exact (keeps_ite hz
  (by
    extract_lets +onlyGivenNames x0_
    extract_lets +onlyGivenNames x1_
    exact (State.setGbGained_keeps _ _ _ (State.setGbTokens_keeps _ _ _ hz))))

theorem execGbClearComplete_keeps {z : State} (s : State) (hz : Keeps z s) :
    KeepsA z (execGbClearComplete s) := by
  unfold execGbClearComplete
  exact (by
    split
    · exact (keepsA_next hz)
    · extract_lets +onlyGivenNames x0_
      extract_lets +onlyGivenNames x1_
      extract_lets +onlyGivenNames x2_
      have h2_ : Keeps z x2_ := (keeps_gb hz _ rfl)
      try clear_value x2_
      revert x2_
      refine keeps_id ?_
      intro x2_ h2_
      extract_lets +onlyGivenNames x3_
      have h3_ : Keeps z x3_ := (State.gbWrite_keeps _ _ h2_)
      try clear_value x3_
      revert x3_
      refine keeps_id ?_
      intro x3_ h3_
      exact (keepsA_next (State.gbWrite_keeps _ _ h3_)))

theorem State.gbRate_keeps {z : State} (s : State) (e : GbEvent) (hz : Keeps z s) :
    Keeps z (State.gbRate s e) := by
  unfold State.gbRate
  extract_lets +onlyGivenNames x0_
  extract_lets +onlyGivenNames x1_
  have h1_ : Keeps z x1_ := (State.gbGain_keeps _ _ hz)
  try clear_value x1_
  revert x1_
  refine keeps_id ?_
  intro x1_ h1_
  exact (keeps_ite (State.gbNeed_keeps _ _ (State.gbTake_keeps _ _ h1_))
  (State.gbSuppress_keeps _ _ h1_))

theorem State.gbClearCmd_keeps {z : State} (s : State) (hz : Keeps z s) :
    Keeps z (State.gbClearCmd s) := by
  unfold State.gbClearCmd
  exact (keeps_ite (State.cmdStat_keeps _ _ _ _ hz)
  (keeps_ite (State.cmdStat_keeps _ _ _ _ hz)
  (State.gbEmpty_keeps _ (State.cmdStat_keeps _ _ _ _ hz))))

theorem execGbTokenRefill_keeps {z : State} (cls : Fin 33) (s : State) (hz : Keeps z s) :
    KeepsA z (execGbTokenRefill cls s) := by
  unfold execGbTokenRefill
  exact (keeps_iteA (by
    extract_lets +onlyGivenNames x0_
    exact (keepsA_next (State.gbGain_keeps _ _ (keeps_frc hz _))))
  (keepsA_next hz))

theorem execGbEvent_keeps {z : State} (s : State) (hz : Keeps z s) : KeepsA z (execGbEvent s) := by
  unfold execGbEvent
  refine keeps_iteA (keepsA_next hz) ?_
  split
  · exact keepsA_next (State.gbNeed_keeps _ _ (keeps_upd ⟨rfl, rfl, rfl, rfl, rfl, rfl, rfl, rfl⟩ hz))
  · rename_i e t _ hq
    have h : Keeps z { s with gb := { s.gb with queue := t } } := by
      refine keeps_queue hz (fun hs => ?_) ⟨rfl, rfl, rfl, rfl, rfl, rfl, rfl⟩
      have hl := (hz.2.2 hs).2.2.2.1
      rw [hq] at hl
      exact Nat.le_of_succ_le hl
    show KeepsA z (match gbTryMerge e s.gb.records with
      | some l => _
      | none => _)
    split
    · exact keepsA_next (keeps_upd ⟨rfl, rfl, rfl, rfl, rfl, rfl, rfl, rfl⟩ h)
    · exact keepsA_next (State.gbRate_keeps _ _ h)
  · exact keepsA_next hz

theorem State.gbCmdWrite_keeps {z : State} (s : State) (value : Nat) (hz : Keeps z s) :
    Keeps z (State.gbCmdWrite s value) := by
  unfold State.gbCmdWrite
  exact (keeps_ite (State.gbClearCmd_keeps _ hz)
  hz)

theorem execGbCursorWrite_keeps {z : State} (m : Master) (value : Word) (s : State) (hz : Keeps z s) :
    KeepsA z (execGbCursorWrite m value s) := by
  unfold execGbCursorWrite
  exact (keepsA_next (State.access_keeps _ _ _ _ _ _ hz (fun _ h0_ => (State.gbCursorWrite_keeps _ _ _ h0_))))

theorem execGbClear_keeps {z : State} (m : Master) (s : State) (hz : Keeps z s) :
    KeepsA z (execGbClear m s) := by
  unfold execGbClear
  exact (keepsA_next (State.access_keeps _ _ _ _ _ _ hz (fun _ h0_ => (State.gbCmdWrite_keeps _ _ h0_))))

end Sys2Proof.Machine
end

