-- ==== Sys2Proof/Laws/KeepsComm.lean ====
section
/-!
SUPPORT. What the operations of Machine/Comm.lean keep (Laws/Keeps.lean).
-/
namespace Sys2Proof.Machine

theorem State.headWait_keeps {z : State} (s : State) (q : Nat) (hz : Keeps z s) :
    Keeps z (State.headWait s q) := by
  unfold State.headWait
  exact (keeps_frc hz _)

theorem State.setRxCount_keeps {z : State} (s : State) (q : Nat) (c : RxCount) (hz : Keeps z s) :
    Keeps z (State.setRxCount s q c) := by
  unfold State.setRxCount
  exact (keeps_rx hz _)

theorem State.setEthPort_keeps {z : State} (s : State) (p : Nat) (x : EthPort) (hz : Keeps z s) :
    Keeps z (State.setEthPort s p x) := by
  unfold State.setEthPort
  exact (keeps_eth hz _)

theorem State.ethHand_keeps {z : State} (s : State) (p : Nat) (cls : Nat) (frame : List Byte) (hz : Keeps z s) :
    Keeps z (State.ethHand s p cls frame) := by
  unfold State.ethHand
  extract_lets +onlyGivenNames x0_
  exact (keeps_ite hz
  (keeps_ite (State.setEthPort_keeps _ _ _ hz)
  (State.setEthPort_keeps _ _ _ hz)))

theorem State.txDone_keeps {z : State} (s : State) (q : Nat) (off : Nat) (done : List Byte) (hz : Keeps z s) :
    Keeps z (State.txDone s q off done) := by
  unfold State.txDone
  extract_lets +onlyGivenNames x0_
  have h0_ : Keeps z x0_ := (State.setBytes_keeps _ _ _ (keeps_heads hz _))
  try clear_value x0_
  revert x0_
  refine keeps_id ?_
  intro x0_ h0_
  exact (keeps_ite (State.queDiSet_keeps _ _ _ h0_)
  (State.wr_keeps _ _ _ h0_))

end Sys2Proof.Machine
end

