-- ==== Sys2Proof/Laws/KeepsCan.lean ====
section
/-!
SUPPORT. What the operations of Machine/Can.lean keep (Laws/Keeps.lean).
-/
namespace Sys2Proof.Machine

theorem State.setCanCh_keeps {z : State} (s : State) (c : Nat) (x : CanChan) (hz : Keeps z s) :
    Keeps z (State.setCanCh s c x) := by
  unfold State.setCanCh
  exact (keeps_can hz _)

theorem State.canRealign_keeps {z : State} (s : State) (hz : Keeps z s) :
    Keeps z (State.canRealign s) := by
  unfold State.canRealign
  exact (keeps_foldl (fun _ _ h0_ => (State.wr_keeps _ _ _ h0_))
  hz)

theorem State.canRecGood_keeps {z : State} (s : State) (c : Nat) (hz : Keeps z s) :
    Keeps z (State.canRecGood s c) := by
  unfold State.canRecGood
  extract_lets +onlyGivenNames x0_
  exact (State.wr_keeps _ _ _ hz)

theorem State.canLaunch_keeps {z : State} (s : State) (c : Nat) (q : Nat) (window : Bool) (hz : Keeps z s) :
    Keeps z (State.canLaunch s c q window) := by
  unfold State.canLaunch
  extract_lets +onlyGivenNames x0_
  extract_lets +onlyGivenNames x1_
  exact (State.setCanCh_keeps _ _ _ hz)

theorem State.canToWindow_keeps {z : State} (s : State) (c : Nat) (basic : Nat) (win : Nat) (hz : Keeps z s) :
    Keeps z (State.canToWindow s c basic win) := by
  unfold State.canToWindow
  extract_lets +onlyGivenNames x0_
  extract_lets +onlyGivenNames x1_
  exact (keeps_ite hz
  (by
    extract_lets +onlyGivenNames x2_
    extract_lets +onlyGivenNames x3_
    exact (State.waitClass_keeps _ _ _ hz)))

theorem State.canHpSlotSet_keeps {z : State} (s : State) (c : Nat) (slot : Nat) (e : List Byte) (hz : Keeps z s) :
    Keeps z (State.canHpSlotSet s c slot e) := by
  unfold State.canHpSlotSet
  exact (keeps_foldl (fun _ _ h0_ => (State.wr_keeps _ _ _ h0_))
  hz)

theorem State.canShowWindow_keeps {z : State} (s : State) (c : Nat) (basic : Nat) (win : Nat) (hz : Keeps z s) :
    Keeps z (State.canShowWindow s c basic win) := by
  unfold State.canShowWindow
  exact (State.wr_keeps _ _ _ (State.wr_keeps _ _ _ (State.wr_keeps _ _ _ hz)))

theorem State.canTiming_keeps {z : State} (s : State) (c : Nat) (hz : Keeps z s) :
    Keeps z (State.canTiming s c) := by
  unfold State.canTiming
  extract_lets +onlyGivenNames x0_
  have h0_ : Keeps z x0_ := by
    subst x0_
    exact (by
      split
      · extract_lets +onlyGivenNames x1_
        exact (State.wr_keeps _ _ _ (State.wr_keeps _ _ _ (State.wr_keeps _ _ _ (State.wr_keeps _ _ _ hz))))
      · exact hz)
  try clear_value x0_
  revert x0_
  refine keeps_id ?_
  intro x0_ h0_
  exact (keeps_ite (by
    split
    · extract_lets +onlyGivenNames x2_
      exact (State.wr_keeps _ _ _ (State.wr_keeps _ _ _ (State.wr_keeps _ _ _ (State.wr_keeps _ _ _ (State.wr_keeps _ _ _ h0_)))))
    · exact h0_)
  h0_)

theorem State.setCanState_keeps {z : State} (s : State) (c : Nat) (st : Nat) (hz : Keeps z s) :
    Keeps z (State.setCanState s c st) := by
  unfold State.setCanState
  extract_lets +onlyGivenNames x0_
  have h0_ : Keeps z x0_ := (State.wr_keeps _ _ _ hz)
  try clear_value x0_
  revert x0_
  refine keeps_id ?_
  intro x0_ h0_
  extract_lets +onlyGivenNames x1_
  have h1_ : Keeps z x1_ := (State.wr_keeps _ _ _ h0_)
  try clear_value x1_
  revert x1_
  refine keeps_id ?_
  intro x1_ h1_
  exact (State.wr_keeps _ _ _ h1_)

theorem State.canCommit_keeps {z : State} (s : State) (task : Nat) (hz : Keeps z s) :
    Keeps z (State.canCommit s task) := by
  unfold State.canCommit
  exact (keeps_foldl (fun _ _ h0_ => (keeps_ite (State.setCanCh_keeps _ _ _ h0_)
  h0_))
  hz)

theorem State.canHpPush_keeps {z : State} (s : State) (c : Nat) (e : List Byte) (hz : Keeps z s) :
    Keeps z (State.canHpPush s c e) := by
  unfold State.canHpPush
  extract_lets +onlyGivenNames x0_
  extract_lets +onlyGivenNames x1_
  have h1_ : Keeps z x1_ := (State.canHpSlotSet_keeps _ _ _ _ hz)
  try clear_value x1_
  revert x1_
  refine keeps_id ?_
  intro x1_ h1_
  exact (State.wr_keeps _ _ _ (State.wr_keeps _ _ _ h1_))

theorem State.canAtK_keeps {z : State} (s : State) (c : Nat) (hz : Keeps z s) :
    Keeps z (State.canAtK s c) := by
  unfold State.canAtK
  exact (keeps_ite (keeps_ite (State.setCanState_keeps _ _ _ hz)
  (State.setCanState_keeps _ _ _ (State.setCanCh_keeps _ _ _ hz)))
  hz)

theorem State.canLock_keeps {z : State} (s : State) (c : Nat) (hz : Keeps z s) :
    Keeps z (State.canLock s c) := by
  unfold State.canLock
  extract_lets +onlyGivenNames x0_
  have h0_ : Keeps z x0_ := (State.setCanCh_keeps _ _ _ hz)
  try clear_value x0_
  revert x0_
  refine keeps_id ?_
  intro x0_ h0_
  exact (keeps_ite (State.setCanState_keeps _ _ _ h0_)
  (by
    extract_lets +onlyGivenNames x1_
    have h1_ : Keeps z x1_ := (State.canTiming_keeps _ _ h0_)
    try clear_value x1_
    revert x1_
    refine keeps_id ?_
    intro x1_ h1_
    exact (keeps_ite (State.setCanState_keeps _ _ _ h1_)
    (keeps_ite (State.setCanState_keeps _ _ _ h1_)
    (State.setCanState_keeps _ _ _ h1_)))))

theorem State.canHpAck_keeps {z : State} (s : State) (c : Nat) (value : Nat) (hz : Keeps z s) :
    Keeps z (State.canHpAck s c value) := by
  unfold State.canHpAck
  extract_lets +onlyGivenNames x0_
  exact (keeps_ite (by
    extract_lets +onlyGivenNames x1_
    have h1_ : Keeps z x1_ := (State.wr_keeps _ _ _ hz)
    try clear_value x1_
    revert x1_
    refine keeps_id ?_
    intro x1_ h1_
    exact (State.wrB_keeps _ _ _ (State.wr_keeps _ _ _ h1_)))
  hz)

theorem State.canClearCounts_keeps {z : State} (s : State) (c : Nat) (hz : Keeps z s) :
    Keeps z (State.canClearCounts s c) := by
  unfold State.canClearCounts
  exact (State.wr_keeps _ _ _ (State.wr_keeps _ _ _ (State.wr_keeps _ _ _ (State.wr_keeps _ _ _ hz))))

theorem State.canToMonitor_keeps {z : State} (s : State) (c : Nat) (hz : Keeps z s) :
    Keeps z (State.canToMonitor s c) := by
  unfold State.canToMonitor
  exact (keeps_ite hz
  (State.setCanState_keeps _ _ _ hz))

theorem State.canHpRelease_keeps {z : State} (s : State) (c : Nat) (hz : Keeps z s) :
    Keeps z (State.canHpRelease s c) := by
  unfold State.canHpRelease
  extract_lets +onlyGivenNames x0_
  extract_lets +onlyGivenNames x1_
  exact (keeps_foldl (fun _ _ h2_ => (State.canHpPush_keeps _ _ _ h2_))
  (State.setCanCh_keeps _ _ _ hz))

theorem State.canCmdWrite_keeps {z : State} (s : State) (c : Nat) (value : Nat) (hz : Keeps z s) :
    Keeps z (State.canCmdWrite s c value) := by
  unfold State.canCmdWrite
  extract_lets +onlyGivenNames x0_
  extract_lets +onlyGivenNames x1_
  exact (keeps_ite hz
  (keeps_ite (State.cmdStat_keeps _ _ _ _ hz)
  (keeps_ite (State.canClearCounts_keeps _ _ (State.cmdStat_keeps _ _ _ _ hz))
  (keeps_ite (State.setCanState_keeps _ _ _ (State.setCanCh_keeps _ _ _ (State.cmdStat_keeps _ _ _ _ hz)))
  (State.cmdStat_keeps _ _ _ _ hz)))))

theorem State.canErrState_keeps {z : State} (s : State) (c : Nat) (hz : Keeps z s) :
    Keeps z (State.canErrState s c) := by
  unfold State.canErrState
  exact (keeps_ite hz
  (by
    extract_lets +onlyGivenNames x0_
    extract_lets +onlyGivenNames x1_
    extract_lets +onlyGivenNames x2_
    have h2_ : Keeps z x2_ := (State.wrB_keeps _ _ _ hz)
    try clear_value x2_
    revert x2_
    refine keeps_id ?_
    intro x2_ h2_
    exact (keeps_ite (State.post_keeps _ _ _ _ _ _ h2_)
    h2_)))

theorem execCanChannelActive_keeps {z : State} (c : Fin 8) (s : State) (hz : Keeps z s) :
    KeepsA z (execCanChannelActive c s) := by
  unfold execCanChannelActive
  exact (keeps_iteA (by
    extract_lets +onlyGivenNames x0_
    extract_lets +onlyGivenNames x1_
    have h1_ : Keeps z x1_ := (keeps_ite hz
    (keeps_frc hz _))
    try clear_value x1_
    revert x1_
    refine keeps_id ?_
    intro x1_ h1_
    extract_lets +onlyGivenNames x2_
    have h2_ : Keeps z x2_ := (State.setCanCh_keeps _ _ _ (State.setCanState_keeps _ _ _ h1_))
    try clear_value x2_
    revert x2_
    refine keeps_id ?_
    intro x2_ h2_
    exact (keepsA_next (keeps_ite h2_
    (State.post_keeps _ _ _ _ _ _ h2_))))
  (keepsA_next hz))

theorem execCanRecovered_keeps {z : State} (c : Fin 8) (s : State) (hz : Keeps z s) :
    KeepsA z (execCanRecovered c s) := by
  unfold execCanRecovered
  exact (keeps_iteA (by
    extract_lets +onlyGivenNames x0_
    have h0_ : Keeps z x0_ := (keeps_frc hz _)
    try clear_value x0_
    revert x0_
    refine keeps_id ?_
    intro x0_ h0_
    extract_lets +onlyGivenNames x1_
    have h1_ : Keeps z x1_ := (State.setCanState_keeps _ _ _ h0_)
    try clear_value x1_
    revert x1_
    refine keeps_id ?_
    intro x1_ h1_
    extract_lets +onlyGivenNames x2_
    have h2_ : Keeps z x2_ := (State.wr_keeps _ _ _ (State.wr_keeps _ _ _ (State.wr_keeps _ _ _ h1_)))
    try clear_value x2_
    revert x2_
    refine keeps_id ?_
    intro x2_ h2_
    exact (keepsA_next (State.post_keeps _ _ _ _ _ _ h2_)))
  (keepsA_next hz))

theorem State.canHpTake_keeps {z : State} (s : State) (c : Nat) (filter : Nat) (x : CanFrame) (hz : Keeps z s) :
    Keeps z (State.canHpTake s c filter x) := by
  unfold State.canHpTake
  extract_lets +onlyGivenNames x0_
  exact (keeps_ite (by
    extract_lets +onlyGivenNames x1_
    have h1_ : Keeps z x1_ := (State.bump_keeps _ _ hz)
    try clear_value x1_
    revert x1_
    refine keeps_id ?_
    intro x1_ h1_
    exact (State.post_keeps _ _ _ _ _ _ h1_))
  (by
    extract_lets +onlyGivenNames x2_
    extract_lets +onlyGivenNames x3_
    have h3_ : Keeps z x3_ := (State.setCanCh_keeps _ _ _ hz)
    try clear_value x3_
    revert x3_
    refine keeps_id ?_
    intro x3_ h3_
    exact (keeps_ite (State.rxMirror_keeps _ _ _ _ _ (State.setCanCh_keeps _ _ _ h3_))
    (State.rxMirror_keeps _ _ _ _ _ (State.canHpPush_keeps _ _ _ h3_)))))

theorem State.canFilterWrite_keeps {z : State} (s : State) (m : Master) (c : Nat) (f : Nat) (which : CanFlt) (value : Nat) (hz : Keeps z s) :
    Keeps z (State.canFilterWrite s m c f which value) := by
  unfold State.canFilterWrite
  exact (keeps_ite hz
  (by
    extract_lets +onlyGivenNames x0_
    extract_lets +onlyGivenNames x1_
    extract_lets +onlyGivenNames x2_
    extract_lets +onlyGivenNames x3_
    extract_lets +onlyGivenNames x4_
    have h4_ : Keeps z x4_ := (State.setCanCh_keeps _ _ _ hz)
    try clear_value x4_
    revert x4_
    refine keeps_id ?_
    intro x4_ h4_
    extract_lets +onlyGivenNames x5_
    have h5_ : Keeps z x5_ := (State.mirror_keeps _ _ _ _ h4_)
    try clear_value x5_
    revert x5_
    refine keeps_id ?_
    intro x5_ h5_
    exact (State.post_keeps _ _ _ _ _ _ (State.wrMasked_keeps _ _ _ _ h5_))))

theorem execCanErrorFrame_keeps {z : State} (c : Fin 8) (kind : CanErr) (s : State) (hz : Keeps z s) :
    KeepsA z (execCanErrorFrame c kind s) := by
  unfold execCanErrorFrame
  exact (keeps_iteA (keepsA_next hz)
  (by
    extract_lets +onlyGivenNames x0_
    have h0_ : Keeps z x0_ := (State.bump_keeps _ _ hz)
    try clear_value x0_
    revert x0_
    refine keeps_id ?_
    intro x0_ h0_
    exact (keeps_iteA (by
      extract_lets +onlyGivenNames x1_
      have h1_ : Keeps z x1_ := by
        subst x1_
        exact (by
          split
          · exact (State.bumpBy_keeps _ _ _ h0_)
          · exact (State.bump_keeps _ _ h0_)
          · exact (State.bumpBy_keeps _ _ _ h0_))
      try clear_value x1_
      revert x1_
      refine keeps_id ?_
      intro x1_ h1_
      exact (keepsA_next (State.canErrState_keeps _ _ h1_)))
    (keepsA_next h0_))))

theorem execCanHpAck_keeps {z : State} (m : Master) (c : Fin 8) (value : Word) (s : State) (hz : Keeps z s) :
    KeepsA z (execCanHpAck m c value s) := by
  unfold execCanHpAck
  exact (keepsA_next (State.access_keeps _ _ _ _ _ _ hz (fun _ h0_ => (State.canHpAck_keeps _ _ _ h0_))))

theorem execCanFilterWrite_keeps {z : State} (m : Master) (c : Fin 8) (f : Fin 64) (which : CanFlt) (value : Word) (s : State) (hz : Keeps z s) :
    KeepsA z (execCanFilterWrite m c f which value s) := by
  unfold execCanFilterWrite
  extract_lets +onlyGivenNames x0_
  exact (keepsA_next (State.access_keeps _ _ _ _ _ _ hz (fun _ h1_ => (State.canFilterWrite_keeps _ _ _ _ _ _ h1_))))

theorem execCanClearCounts_keeps {z : State} (m : Master) (c : Fin 8) (s : State) (hz : Keeps z s) :
    KeepsA z (execCanClearCounts m c s) := by
  unfold execCanClearCounts
  exact (keepsA_next (State.access_keeps _ _ _ _ _ _ hz (fun _ h0_ => (State.canCmdWrite_keeps _ _ _ h0_))))

theorem execCanBusOn_keeps {z : State} (m : Master) (c : Fin 8) (s : State) (hz : Keeps z s) :
    KeepsA z (execCanBusOn m c s) := by
  unfold execCanBusOn
  exact (keepsA_next (State.access_keeps _ _ _ _ _ _ hz (fun _ h0_ => (State.canCmdWrite_keeps _ _ _ h0_))))

theorem State.canComplete_keeps {z : State} (s : State) (q : Nat) (status : Nat) (detail : Nat) (attempts : Nat) (stamp : Nat) (hz : Keeps z s) :
    Keeps z (State.canComplete s q status detail attempts stamp) := by
  unfold State.canComplete
  extract_lets +onlyGivenNames x0_
  extract_lets +onlyGivenNames x1_
  extract_lets +onlyGivenNames x2_
  extract_lets +onlyGivenNames x3_
  have h3_ : Keeps z x3_ := (keeps_ite (State.useFree_keeps _ hz)
  hz)
  try clear_value x3_
  revert x3_
  refine keeps_id ?_
  intro x3_ h3_
  exact (State.txDone_keeps _ _ _ _ h3_)

theorem State.canEndFlight_keeps {z : State} (s : State) (c : Nat) (status : Nat) (detail : Nat) (hz : Keeps z s) :
    Keeps z (State.canEndFlight s c status detail) := by
  unfold State.canEndFlight
  exact (by
    split
    · exact (State.canComplete_keeps _ _ _ _ _ _ (State.setCanCh_keeps _ _ _ hz))
    · exact hz)

theorem State.canRxTake_keeps {z : State} (s : State) (c : Nat) (filter : Nat) (x : CanFrame) (hz : Keeps z s) :
    Keeps z (State.canRxTake s c filter x) := by
  unfold State.canRxTake
  extract_lets +onlyGivenNames x0_
  extract_lets +onlyGivenNames x1_
  exact (keeps_ite (by
    extract_lets +onlyGivenNames x2_
    extract_lets +onlyGivenNames x3_
    have h3_ : Keeps z x3_ := (keeps_ite hz
    (State.post_keeps _ _ _ _ _ _ hz))
    try clear_value x3_
    revert x3_
    refine keeps_id ?_
    intro x3_ h3_
    exact (State.quePush_keeps _ _ _ (State.setCanCh_keeps _ _ _ h3_)))
  (State.bump_keeps _ _ (State.setCanCh_keeps _ _ _ hz)))

theorem State.canRefuse_keeps {z : State} (s : State) (c : Nat) (q : Nat) (detail : Nat) (hz : Keeps z s) :
    Keeps z (State.canRefuse s c q detail) := by
  unfold State.canRefuse
  extract_lets +onlyGivenNames x0_
  exact (State.post_keeps _ _ _ _ _ _ (State.canComplete_keeps _ _ _ _ _ _ hz))

theorem execCanTxComplete_keeps {z : State} (c : Fin 8) (how1' : CanEnd) (s : State) (hz : Keeps z s) :
    KeepsA z (execCanTxComplete c how1' s) := by
  unfold execCanTxComplete
  exact (by
    split
    · exact (keepsA_next hz)
    · extract_lets +onlyGivenNames x0_
      extract_lets +onlyGivenNames x1_
      extract_lets +onlyGivenNames x2_
      have h2_ : Keeps z x2_ := (State.setCanCh_keeps _ _ _ hz)
      try clear_value x2_
      revert x2_
      refine keeps_id ?_
      intro x2_ h2_
      extract_lets +onlyGivenNames x3_
      have h3_ : Keeps z x3_ := (State.setCanCh_keeps _ _ _ hz)
      try clear_value x3_
      revert x3_
      refine keeps_id ?_
      intro x3_ h3_
      extract_lets +onlyGivenNames x4_
      have h4_ : Keeps z x4_ := (keeps_ite h3_
      (State.canLaunch_keeps _ _ _ _ h3_))
      try clear_value x4_
      revert x4_
      refine keeps_id ?_
      intro x4_ h4_
      exact (by
        split
        · extract_lets +onlyGivenNames x5_
          have h5_ : Keeps z x5_ := (State.wr_keeps _ _ _ h2_)
          try clear_value x5_
          revert x5_
          refine keeps_id ?_
          intro x5_ h5_
          exact (keepsA_next (State.canComplete_keeps _ _ _ _ _ _ (State.canErrState_keeps _ _ h5_)))
        · exact (keeps_iteA (keepsA_next (State.canComplete_keeps _ _ _ _ _ _ h2_))
          (keepsA_next h4_))
        · exact (keeps_iteA (keepsA_next (State.canComplete_keeps _ _ _ _ _ _ h2_))
          (keepsA_next h4_))))

theorem execTtWindowStart_keeps {z : State} (c : Fin 8) (basic : Fin 16) (win : Fin 64) (s : State) (hz : Keeps z s) :
    KeepsA z (execTtWindowStart c basic win s) := by
  unfold execTtWindowStart
  exact (keeps_iteA (by
    extract_lets +onlyGivenNames x0_
    have h0_ : Keeps z x0_ := (State.canShowWindow_keeps _ _ _ _ (State.canToWindow_keeps _ _ _ _ hz))
    try clear_value x0_
    revert x0_
    refine keeps_id ?_
    intro x0_ h0_
    extract_lets +onlyGivenNames x1_
    extract_lets +onlyGivenNames x2_
    exact (keeps_iteA (by
      extract_lets +onlyGivenNames x3_
      extract_lets +onlyGivenNames x4_
      exact (keeps_iteA (keepsA_next (State.canRefuse_keeps _ _ _ _ h0_))
      (by
        split
        · exact (keeps_iteA (keepsA_next (State.canLaunch_keeps _ _ _ _ (State.setCanCh_keeps _ _ _ h0_)))
          (keepsA_next h0_))
        · exact (keepsA_next h0_))))
    (keepsA_next h0_)))
  (keepsA_next hz))

theorem execCanFrameReceive_keeps {z : State} (c : Fin 8) (x : CanFrame) (s : State) (hz : Keeps z s) :
    KeepsA z (execCanFrameReceive c x s) := by
  unfold execCanFrameReceive
  extract_lets +onlyGivenNames x0_
  exact (keeps_iteA (keepsA_next hz)
  (by
    extract_lets +onlyGivenNames x1_
    have h1_ : Keeps z x1_ := (State.wake_keeps _ _ hz)
    try clear_value x1_
    revert x1_
    refine keeps_id ?_
    intro x1_ h1_
    extract_lets +onlyGivenNames x2_
    extract_lets +onlyGivenNames x3_
    have h3_ : Keeps z x3_ := (keeps_ite (State.setCanCh_keeps _ _ _ h1_)
    h1_)
    try clear_value x3_
    revert x3_
    refine keeps_id ?_
    intro x3_ h3_
    extract_lets +onlyGivenNames x4_
    have h4_ : Keeps z x4_ := (keeps_ite (State.canErrState_keeps _ _ (State.canRecGood_keeps _ _ h3_))
    h3_)
    try clear_value x4_
    revert x4_
    refine keeps_id ?_
    intro x4_ h4_
    exact (by
      split
      · exact (keepsA_next (keeps_ite (State.canHpTake_keeps _ _ _ _ h4_)
        h4_))
      · exact (by
          split
          · exact (keepsA_next (keeps_ite (State.canRxTake_keeps _ _ _ _ h4_)
            (keeps_ite (State.rxHold_keeps _ _ _ h4_)
            h4_)))
          · exact (keepsA_next (State.bump_keeps _ _ h4_))))))

theorem execCanTxStart_keeps {z : State} (c : Fin 8) (which : CanQueue) (s : State) (hz : Keeps z s) :
    KeepsA z (execCanTxStart c which s) := by
  unfold execCanTxStart
  extract_lets +onlyGivenNames x0_
  exact (keeps_iteA (by
    extract_lets +onlyGivenNames x1_
    have h1_ : Keeps z x1_ := (State.headWait_keeps _ _ hz)
    try clear_value x1_
    revert x1_
    refine keeps_id ?_
    intro x1_ h1_
    extract_lets +onlyGivenNames x2_
    exact (keeps_iteA (keepsA_next (State.canRefuse_keeps _ _ _ _ h1_))
    (by
      split
      · exact (keepsA_next (keeps_ite (State.canLaunch_keeps _ _ _ _ h1_)
        h1_))
      · exact (keepsA_next h1_))))
  (keepsA_next hz))

theorem execTtWindowMissed_keeps {z : State} (c : Fin 8) (basic : Fin 16) (win : Fin 64) (s : State) (hz : Keeps z s) :
    KeepsA z (execTtWindowMissed c basic win s) := by
  unfold execTtWindowMissed
  extract_lets +onlyGivenNames x0_
  extract_lets +onlyGivenNames x1_
  extract_lets +onlyGivenNames x2_
  exact (keeps_iteA (by
    extract_lets +onlyGivenNames x3_
    have h3_ : Keeps z x3_ := (State.canShowWindow_keeps _ _ _ _ (State.canToWindow_keeps _ _ _ _ hz))
    try clear_value x3_
    revert x3_
    refine keeps_id ?_
    intro x3_ h3_
    extract_lets +onlyGivenNames x4_
    extract_lets +onlyGivenNames x5_
    have h5_ : Keeps z x5_ := (State.waitClass_keeps _ _ _ h3_)
    try clear_value x5_
    revert x5_
    refine keeps_id ?_
    intro x5_ h5_
    extract_lets +onlyGivenNames x6_
    extract_lets +onlyGivenNames x7_
    have h7_ : Keeps z x7_ := (State.bump_keeps _ _ (State.setCanCh_keeps _ _ _ h5_))
    try clear_value x7_
    revert x7_
    refine keeps_id ?_
    intro x7_ h7_
    extract_lets +onlyGivenNames x8_
    have h8_ : Keeps z x8_ := (State.post_keeps _ _ _ _ _ _ h7_)
    try clear_value x8_
    revert x8_
    refine keeps_id ?_
    intro x8_ h8_
    exact (keeps_iteA (keepsA_next (State.canComplete_keeps _ _ _ _ _ _ h8_))
    (keepsA_next h8_)))
  (keepsA_next hz))

theorem execBusOff_keeps {z : State} (c : Fin 8) (s : State) (hz : Keeps z s) :
    KeepsA z (execBusOff c s) := by
  unfold execBusOff
  exact (keeps_iteA (by
    extract_lets +onlyGivenNames x0_
    extract_lets +onlyGivenNames x1_
    have h1_ : Keeps z x1_ := (State.canEndFlight_keeps _ _ _ _ hz)
    try clear_value x1_
    revert x1_
    refine keeps_id ?_
    intro x1_ h1_
    extract_lets +onlyGivenNames x2_
    extract_lets +onlyGivenNames x3_
    have h3_ : Keeps z x3_ := (State.setCanCh_keeps _ _ _ h1_)
    try clear_value x3_
    revert x3_
    refine keeps_id ?_
    intro x3_ h3_
    extract_lets +onlyGivenNames x4_
    have h4_ : Keeps z x4_ := (State.setCanState_keeps _ _ _ h3_)
    try clear_value x4_
    revert x4_
    refine keeps_id ?_
    intro x4_ h4_
    extract_lets +onlyGivenNames x5_
    have h5_ : Keeps z x5_ := (State.bump_keeps _ _ (State.wr_keeps _ _ _ h4_))
    try clear_value x5_
    revert x5_
    refine keeps_id ?_
    intro x5_ h5_
    exact (keepsA_next (State.post_keeps _ _ _ _ _ _ h5_)))
  (keepsA_next hz))

end Sys2Proof.Machine
end

