-- ==== Sys2Proof/Laws/KeepsTimeUnit.lean ====
section
/-!
SUPPORT. What the operations of Machine/TimeUnit.lean keep (Laws/Keeps.lean).
-/
namespace Sys2Proof.Machine

theorem State.ppsSteer_keeps {z : State} (s : State) (interval : Nat) (hz : Keeps z s) :
    Keeps z (State.ppsSteer s interval) := by
  unfold State.ppsSteer
  exact (keeps_ite (by
    extract_lets +onlyGivenNames x0_
    extract_lets +onlyGivenNames x1_
    extract_lets +onlyGivenNames x2_
    exact (keeps_tim hz _))
  hz)

theorem State.driftCount_keeps {z : State} (s : State) (hz : Keeps z s) :
    Keeps z (State.driftCount s) := by
  unfold State.driftCount
  extract_lets +onlyGivenNames x0_
  extract_lets +onlyGivenNames x1_
  extract_lets +onlyGivenNames x2_
  exact (keeps_upd ⟨rfl, rfl, rfl, rfl, rfl, rfl, rfl, rfl⟩ hz)

theorem execC2BackupRefresh_keeps {z : State} (s : State) (hz : Keeps z s) :
    KeepsA z (execC2BackupRefresh s) := by
  unfold execC2BackupRefresh
  exact (keeps_iteA (by
    extract_lets +onlyGivenNames x0_
    have h0_ : Keeps z x0_ := (keeps_frc hz _)
    try clear_value x0_
    revert x0_
    refine keeps_id ?_
    intro x0_ h0_
    extract_lets +onlyGivenNames x1_
    extract_lets +onlyGivenNames x2_
    have h2_ : Keeps z x2_ := (keeps_tim h0_ _)
    try clear_value x2_
    revert x2_
    refine keeps_id ?_
    intro x2_ h2_
    extract_lets +onlyGivenNames x3_
    have h3_ : Keeps z x3_ := (State.wr64_keeps _ _ _ _ h2_)
    try clear_value x3_
    revert x3_
    refine keeps_id ?_
    intro x3_ h3_
    exact (keepsA_next (keeps_power h3_ _)))
  (keepsA_next hz))

theorem execPpsOutEdge_keeps {z : State} (s : State) (hz : Keeps z s) :
    KeepsA z (execPpsOutEdge s) := by
  unfold execPpsOutEdge
  exact (by
    split
    · exact (keepsA_next hz)
    · extract_lets +onlyGivenNames x0_
      extract_lets +onlyGivenNames x1_
      extract_lets +onlyGivenNames x2_
      have h2_ : Keeps z x2_ := (keeps_ite hz
      (State.waitClass_keeps _ _ _ hz))
      try clear_value x2_
      revert x2_
      refine keeps_id ?_
      intro x2_ h2_
      extract_lets +onlyGivenNames x3_
      exact (keepsA_next (keeps_tim h2_ _)))

theorem State.domGm_keeps {z : State} (s : State) (d : Nat) (m : PtpMaster) (hz : Keeps z s) :
    Keeps z (State.domGm s d m) := by
  unfold State.domGm
  extract_lets +onlyGivenNames x0_
  have h0_ : Keeps z x0_ := (State.wr64_keeps _ _ _ _ hz)
  try clear_value x0_
  revert x0_
  refine keeps_id ?_
  intro x0_ h0_
  exact (State.wr_keeps _ _ _ (State.wr_keeps _ _ _ h0_))

theorem State.setDomOfs_keeps {z : State} (s : State) (d : Nat) (ofs : Int) (hz : Keeps z s) :
    Keeps z (State.setDomOfs s d ofs) := by
  unfold State.setDomOfs
  exact (State.wr64_keeps _ _ _ _ hz)

theorem State.classCapture_keeps {z : State} (s : State) (m : Master) (w : Width) (t : Int) (hi4' : Fld) (ns : Fld) (hz : Keeps z s) :
    Keeps z (State.classCapture s m w t hi4' ns) := by
  unfold State.classCapture
  extract_lets +onlyGivenNames x0_
  have h0_ : Keeps z x0_ := (State.setLatch_keeps _ _ _ _ (State.setLatch_keeps _ _ _ _ hz))
  try clear_value x0_
  revert x0_
  refine keeps_id ?_
  intro x0_ h0_
  exact (State.answer_keeps _ _ h0_)

theorem execDelayReq_keeps {z : State} (d : Fin 2) (x : DelayStep) (s : State) (hz : Keeps z s) :
    KeepsA z (execDelayReq d x s) := by
  unfold execDelayReq
  exact (by
    split
    · exact (keepsA_next hz)
    · exact (keeps_iteA (by
        extract_lets +onlyGivenNames x0_
        extract_lets +onlyGivenNames x1_
        have h1_ : Keeps z x1_ := (State.wr_keeps _ _ _ hz)
        try clear_value x1_
        revert x1_
        refine keeps_id ?_
        intro x1_ h1_
        exact (keepsA_next (State.setDom_keeps _ _ _ h1_)))
      (keepsA_next hz)))

theorem execSlewingEnd_keeps {z : State} (second : Bool) (s : State) (hz : Keeps z s) :
    KeepsA z (execSlewingEnd second s) := by
  unfold execSlewingEnd
  exact (keeps_iteA (keeps_iteA (keepsA_next (State.wr_keeps _ _ _ (keeps_frc hz _)))
  (keepsA_next hz))
  (keeps_iteA (keepsA_next (State.wr_keeps _ _ _ (keeps_frc hz _)))
  (keepsA_next hz)))

theorem State.c2Leave_keeps {z : State} (s : State) (d : Nat) (hz : Keeps z s) :
    Keeps z (State.c2Leave s d) := by
  unfold State.c2Leave
  exact (keeps_ite hz
  (by
    extract_lets +onlyGivenNames x0_
    extract_lets +onlyGivenNames x1_
    extract_lets +onlyGivenNames x2_
    extract_lets +onlyGivenNames x3_
    have h3_ : Keeps z x3_ := (keeps_tim hz _)
    try clear_value x3_
    revert x3_
    refine keeps_id ?_
    intro x3_ h3_
    exact (State.wr_keeps _ _ _ (State.wr_keeps _ _ _ h3_))))

theorem State.domServo_keeps {z : State} (s : State) (d : Nat) (hz : Keeps z s) :
    Keeps z (State.domServo s d) := by
  unfold State.domServo
  extract_lets +onlyGivenNames x0_
  have h0_ : Keeps z x0_ := (State.driftCount_keeps _ hz)
  try clear_value x0_
  revert x0_
  refine keeps_id ?_
  intro x0_ h0_
  extract_lets +onlyGivenNames x1_
  extract_lets +onlyGivenNames x2_
  extract_lets +onlyGivenNames x3_
  have h3_ : Keeps z x3_ := (State.useFree_keeps _ h0_)
  try clear_value x3_
  revert x3_
  refine keeps_id ?_
  intro x3_ h3_
  extract_lets +onlyGivenNames x4_
  extract_lets +onlyGivenNames x5_
  have h5_ : Keeps z x5_ := (State.setDomOfs_keeps _ _ _ h3_)
  try clear_value x5_
  revert x5_
  refine keeps_id ?_
  intro x5_ h5_
  extract_lets +onlyGivenNames x6_
  extract_lets +onlyGivenNames x7_
  have h7_ : Keeps z x7_ := (State.setDom_keeps _ _ _ h5_)
  try clear_value x7_
  revert x7_
  refine keeps_id ?_
  intro x7_ h7_
  exact (State.wr_keeps _ _ _ h7_)

theorem State.c1Source_keeps {z : State} (s : State) (src : Nat) (hz : Keeps z s) :
    Keeps z (State.c1Source s src) := by
  unfold State.c1Source
  extract_lets +onlyGivenNames x0_
  exact (keeps_ite hz
  (by
    extract_lets +onlyGivenNames x1_
    have h1_ : Keeps z x1_ := (State.driftCount_keeps _ hz)
    try clear_value x1_
    revert x1_
    refine keeps_id ?_
    intro x1_ h1_
    extract_lets +onlyGivenNames x2_
    extract_lets +onlyGivenNames x3_
    extract_lets +onlyGivenNames x4_
    extract_lets +onlyGivenNames x5_
    extract_lets +onlyGivenNames x6_
    extract_lets +onlyGivenNames x7_
    extract_lets +onlyGivenNames x8_
    have h8_ : Keeps z x8_ := (keeps_tim h1_ _)
    try clear_value x8_
    revert x8_
    refine keeps_id ?_
    intro x8_ h8_
    extract_lets +onlyGivenNames x9_
    have h9_ : Keeps z x9_ := (State.wrB_keeps _ _ _ (State.wr_keeps _ _ _ h8_))
    try clear_value x9_
    revert x9_
    refine keeps_id ?_
    intro x9_ h9_
    extract_lets +onlyGivenNames x10_
    have h10_ : Keeps z x10_ := (State.post_keeps _ _ _ _ _ _ h9_)
    try clear_value x10_
    revert x10_
    refine keeps_id ?_
    intro x10_ h10_
    exact (State.anchor_keeps _ _ h10_)))

theorem State.c1Disagree_keeps {z : State} (s : State) (d : Nat) (hz : Keeps z s) :
    Keeps z (State.c1Disagree s d) := by
  unfold State.c1Disagree
  exact (keeps_ite hz
  (State.post_keeps _ _ _ _ _ _ (State.wr_keeps _ _ _ hz)))

theorem State.setPpsOk_keeps {z : State} (s : State) (ok : Bool) (dev : Int) (hz : Keeps z s) :
    Keeps z (State.setPpsOk s ok dev) := by
  unfold State.setPpsOk
  exact (keeps_ite hz
  (State.post_keeps _ _ _ _ _ _ (State.wrB_keeps _ _ _ hz)))

theorem State.c2Lock_keeps {z : State} (s : State) (d : Nat) (hz : Keeps z s) :
    Keeps z (State.c2Lock s d) := by
  unfold State.c2Lock
  exact (keeps_ite (by
    extract_lets +onlyGivenNames x0_
    extract_lets +onlyGivenNames x1_
    extract_lets +onlyGivenNames x2_
    have h2_ : Keeps z x2_ := (keeps_tim hz _)
    try clear_value x2_
    revert x2_
    refine keeps_id ?_
    intro x2_ h2_
    extract_lets +onlyGivenNames x3_
    have h3_ : Keeps z x3_ := (State.wr_keeps _ _ _ (State.wr_keeps _ _ _ (State.wr_keeps _ _ _ h2_)))
    try clear_value x3_
    revert x3_
    refine keeps_id ?_
    intro x3_ h3_
    exact (State.post_keeps _ _ _ _ _ _ h3_))
  (by
    extract_lets +onlyGivenNames x4_
    exact (keeps_ite (State.post_keeps _ _ _ _ _ _ hz)
    (by
      extract_lets +onlyGivenNames x5_
      extract_lets +onlyGivenNames x6_
      extract_lets +onlyGivenNames x7_
      have h7_ : Keeps z x7_ := (keeps_tim hz _)
      try clear_value x7_
      revert x7_
      refine keeps_id ?_
      intro x7_ h7_
      extract_lets +onlyGivenNames x8_
      have h8_ : Keeps z x8_ := (State.wrB_keeps _ _ _ (State.wr_keeps _ _ _ h7_))
      try clear_value x8_
      revert x8_
      refine keeps_id ?_
      intro x8_ h8_
      exact (State.post_keeps _ _ _ _ _ _ h8_)))))

theorem execPpsInEdge_keeps {z : State} (s : State) (hz : Keeps z s) :
    KeepsA z (execPpsInEdge s) := by
  unfold execPpsInEdge
  exact (keeps_iteA (keepsA_next hz)
  (by
    extract_lets +onlyGivenNames x0_
    extract_lets +onlyGivenNames x1_
    have h1_ : Keeps z x1_ := (State.wr_keeps _ _ _ hz)
    try clear_value x1_
    revert x1_
    refine keeps_id ?_
    intro x1_ h1_
    extract_lets +onlyGivenNames x2_
    extract_lets +onlyGivenNames x3_
    extract_lets +onlyGivenNames x4_
    extract_lets +onlyGivenNames x5_
    have h5_ : Keeps z x5_ := (keeps_tim h1_ _)
    try clear_value x5_
    revert x5_
    refine keeps_id ?_
    intro x5_ h5_
    extract_lets +onlyGivenNames x6_
    have h6_ : Keeps z x6_ := (State.setPpsOk_keeps _ _ _ h5_)
    try clear_value x6_
    revert x6_
    refine keeps_id ?_
    intro x6_ h6_
    exact (keepsA_next (State.ppsSteer_keeps _ _ h6_))))

theorem State.c1Step_keeps {z : State} (s : State) (d : Nat) (why : Nat) (hz : Keeps z s) :
    Keeps z (State.c1Step s d why) := by
  unfold State.c1Step
  extract_lets +onlyGivenNames x0_
  have h0_ : Keeps z x0_ := (State.driftCount_keeps _ hz)
  try clear_value x0_
  revert x0_
  refine keeps_id ?_
  intro x0_ h0_
  extract_lets +onlyGivenNames x1_
  extract_lets +onlyGivenNames x2_
  extract_lets +onlyGivenNames x3_
  extract_lets +onlyGivenNames x4_
  have h4_ : Keeps z x4_ := (keeps_tim h0_ _)
  try clear_value x4_
  revert x4_
  refine keeps_id ?_
  intro x4_ h4_
  extract_lets +onlyGivenNames x5_
  have h5_ : Keeps z x5_ := (State.wr_keeps _ _ _ (State.wr_keeps _ _ _ (State.wr_keeps _ _ _ h4_)))
  try clear_value x5_
  revert x5_
  refine keeps_id ?_
  intro x5_ h5_
  extract_lets +onlyGivenNames x6_
  have h6_ : Keeps z x6_ := (State.wr_keeps _ _ _ h5_)
  try clear_value x6_
  revert x6_
  refine keeps_id ?_
  intro x6_ h6_
  exact (State.anchor_keeps _ _ (State.post_keeps _ _ _ _ _ _ h6_))

theorem State.c1Choose_keeps {z : State} (s : State) (hz : Keeps z s) :
    Keeps z (State.c1Choose s) := by
  unfold State.c1Choose
  extract_lets +onlyGivenNames x0_
  extract_lets +onlyGivenNames x1_
  exact (keeps_ite (State.c1Source_keeps _ _ (State.wr_keeps _ _ _ hz))
  (by
    extract_lets +onlyGivenNames x2_
    have h2_ : Keeps z x2_ := (keeps_ite (State.c1Disagree_keeps _ _ hz)
    hz)
    try clear_value x2_
    revert x2_
    refine keeps_id ?_
    intro x2_ h2_
    exact (keeps_ite (State.c1Source_keeps _ _ (keeps_ite h2_
    (State.wr_keeps _ _ _ h2_)))
    (by
      extract_lets +onlyGivenNames x3_
      have h3_ : Keeps z x3_ := (keeps_ite (State.c1Disagree_keeps _ _ h2_)
      (keeps_ite h2_
      (State.wr_keeps _ _ _ h2_)))
      try clear_value x3_
      revert x3_
      refine keeps_id ?_
      intro x3_ h3_
      exact (State.c1Source_keeps _ _ h3_)))))

theorem execPpsInTimeout_keeps {z : State} (s : State) (hz : Keeps z s) :
    KeepsA z (execPpsInTimeout s) := by
  unfold execPpsInTimeout
  exact (keeps_iteA (by
    extract_lets +onlyGivenNames x0_
    have h0_ : Keeps z x0_ := (keeps_frc hz _)
    try clear_value x0_
    revert x0_
    refine keeps_id ?_
    intro x0_ h0_
    exact (keepsA_next (State.setPpsOk_keeps _ _ _ h0_)))
  (keepsA_next hz))

theorem State.timCmdWrite_keeps {z : State} (s : State) (value : Nat) (hz : Keeps z s) :
    Keeps z (State.timCmdWrite s value) := by
  unfold State.timCmdWrite
  extract_lets +onlyGivenNames x0_
  exact (keeps_ite hz
  (keeps_ite (State.cmdStat_keeps _ _ _ _ hz)
  (keeps_ite (State.cmdStat_keeps _ _ _ _ hz)
  (keeps_ite (State.cmdStat_keeps _ _ _ _ hz)
  (keeps_ite (State.cmdStat_keeps _ _ _ _ hz)
  (by
    extract_lets +onlyGivenNames x1_
    exact (State.canRealign_keeps _ (State.c1Step_keeps _ _ _ (State.cmdStat_keeps _ _ _ _ hz)))))))))

theorem State.c1Update_keeps {z : State} (s : State) (hz : Keeps z s) :
    Keeps z (State.c1Update s) := by
  unfold State.c1Update
  exact (keeps_ite hz
  (keeps_ite (State.c1Choose_keeps _ hz)
  (keeps_ite (State.c1Step_keeps _ _ _ hz)
  (keeps_ite (State.c1Step_keeps _ _ _ hz)
  hz))))

theorem execClassTimeCapture_keeps {z : State} (m : Master) (w : Width) (second : Bool) (s : State) (hz : Keeps z s) :
    KeepsA z (execClassTimeCapture m w second s) := by
  unfold execClassTimeCapture
  exact (keeps_iteA (keepsA_next (State.access_keeps _ _ _ _ _ _ hz (fun _ h0_ => (State.classCapture_keeps _ _ _ _ _ _ h0_))))
  (keepsA_next (State.access_keeps _ _ _ _ _ _ hz (fun _ h1_ => (State.classCapture_keeps _ _ _ _ _ _ h1_)))))

theorem execTimRealign_keeps {z : State} (m : Master) (s : State) (hz : Keeps z s) :
    KeepsA z (execTimRealign m s) := by
  unfold execTimRealign
  exact (keepsA_next (State.access_keeps _ _ _ _ _ _ hz (fun _ h0_ => (State.timCmdWrite_keeps _ _ h0_))))

theorem State.domEnter_keeps {z : State} (s : State) (d : Nat) (st : Nat) (hz : Keeps z s) :
    Keeps z (State.domEnter s d st) := by
  unfold State.domEnter
  extract_lets +onlyGivenNames x0_
  exact (keeps_ite hz
  (by
    extract_lets +onlyGivenNames x1_
    have h1_ : Keeps z x1_ := (State.driftCount_keeps _ hz)
    try clear_value x1_
    revert x1_
    refine keeps_id ?_
    intro x1_ h1_
    extract_lets +onlyGivenNames x2_
    have h2_ : Keeps z x2_ := (keeps_ite (State.c2Leave_keeps _ _ h1_)
    h1_)
    try clear_value x2_
    revert x2_
    refine keeps_id ?_
    intro x2_ h2_
    extract_lets +onlyGivenNames x3_
    have h3_ : Keeps z x3_ := (State.wr_keeps _ _ _ h2_)
    try clear_value x3_
    revert x3_
    refine keeps_id ?_
    intro x3_ h3_
    extract_lets +onlyGivenNames x4_
    have h4_ : Keeps z x4_ := (keeps_ite (State.wr_keeps _ _ _ h3_)
    (State.wr_keeps _ _ _ h3_))
    try clear_value x4_
    revert x4_
    refine keeps_id ?_
    intro x4_ h4_
    extract_lets +onlyGivenNames x5_
    extract_lets +onlyGivenNames x6_
    have h6_ : Keeps z x6_ := (keeps_ite (State.setDom_keeps _ _ _ h4_)
    h4_)
    try clear_value x6_
    revert x6_
    refine keeps_id ?_
    intro x6_ h6_
    extract_lets +onlyGivenNames x7_
    extract_lets +onlyGivenNames x8_
    have h8_ : Keeps z x8_ := (keeps_ite (State.setDom_keeps _ _ _ h6_)
    h6_)
    try clear_value x8_
    revert x8_
    refine keeps_id ?_
    intro x8_ h8_
    extract_lets +onlyGivenNames x9_
    have h9_ : Keeps z x9_ := (keeps_ite (State.c2Lock_keeps _ _ h8_)
    h8_)
    try clear_value x9_
    revert x9_
    refine keeps_id ?_
    intro x9_ h9_
    exact (State.c1Update_keeps _ h9_)))

theorem State.domJudge_keeps {z : State} (s : State) (d : Nat) (meas : Int) (hz : Keeps z s) :
    Keeps z (State.domJudge s d meas) := by
  unfold State.domJudge
  extract_lets +onlyGivenNames x0_
  exact (keeps_ite (keeps_ite (State.setDom_keeps _ _ _ hz)
  (keeps_ite (State.domEnter_keeps _ _ _ hz)
  (State.setDom_keeps _ _ _ hz)))
  (keeps_ite (by
    extract_lets +onlyGivenNames x1_
    extract_lets +onlyGivenNames x2_
    have h2_ : Keeps z x2_ := (State.setDom_keeps _ _ _ hz)
    try clear_value x2_
    revert x2_
    refine keeps_id ?_
    intro x2_ h2_
    exact (keeps_ite (by
      extract_lets +onlyGivenNames x3_
      have h3_ : Keeps z x3_ := (State.post_keeps _ _ _ _ _ _ h2_)
      try clear_value x3_
      revert x3_
      refine keeps_id ?_
      intro x3_ h3_
      exact (State.domEnter_keeps _ _ _ h3_))
    h2_))
  (State.setDom_keeps _ _ _ hz)))

theorem State.domSync_keeps {z : State} (s : State) (d : Nat) (m : Sync) (hz : Keeps z s) :
    Keeps z (State.domSync s d m) := by
  unfold State.domSync
  extract_lets +onlyGivenNames x0_
  have h0_ : Keeps z x0_ := (State.wr_keeps _ _ _ hz)
  try clear_value x0_
  revert x0_
  refine keeps_id ?_
  intro x0_ h0_
  extract_lets +onlyGivenNames x1_
  extract_lets +onlyGivenNames x2_
  have h2_ : Keeps z x2_ := (State.setDom_keeps _ _ _ h0_)
  try clear_value x2_
  revert x2_
  refine keeps_id ?_
  intro x2_ h2_
  extract_lets +onlyGivenNames x3_
  have h3_ : Keeps z x3_ := (keeps_ite (State.domEnter_keeps _ _ _ h2_)
  h2_)
  try clear_value x3_
  revert x3_
  refine keeps_id ?_
  intro x3_ h3_
  exact (keeps_ite h3_
  (by
    extract_lets +onlyGivenNames x4_
    extract_lets +onlyGivenNames x5_
    extract_lets +onlyGivenNames x6_
    have h6_ : Keeps z x6_ := (State.wr_keeps _ _ _ h3_)
    try clear_value x6_
    revert x6_
    refine keeps_id ?_
    intro x6_ h6_
    exact (keeps_ite (State.setDom_keeps _ _ _ (State.setDomOfs_keeps _ _ _ h6_))
    (State.domJudge_keeps _ _ _ (State.domServo_keeps _ _ h6_)))))

theorem execDomainHoldover_keeps {z : State} (d : Fin 2) (s : State) (hz : Keeps z s) :
    KeepsA z (execDomainHoldover d s) := by
  unfold execDomainHoldover
  exact (keeps_iteA (by
    extract_lets +onlyGivenNames x0_
    have h0_ : Keeps z x0_ := (keeps_frc hz _)
    try clear_value x0_
    revert x0_
    refine keeps_id ?_
    intro x0_ h0_
    extract_lets +onlyGivenNames x1_
    have h1_ : Keeps z x1_ := (State.post_keeps _ _ _ _ _ _ h0_)
    try clear_value x1_
    revert x1_
    refine keeps_id ?_
    intro x1_ h1_
    exact (keepsA_next (State.domEnter_keeps _ _ _ h1_)))
  (keepsA_next hz))

theorem State.domSelect_keeps {z : State} (s : State) (d : Nat) (m : PtpMaster) (hz : Keeps z s) :
    Keeps z (State.domSelect s d m) := by
  unfold State.domSelect
  exact (by
    split
    · exact (State.domEnter_keeps _ _ _ (State.domGm_keeps _ _ _ (State.setDom_keeps _ _ _ hz)))
    · extract_lets +onlyGivenNames x0_
      extract_lets +onlyGivenNames x1_
      have h1_ : Keeps z x1_ := (State.setDom_keeps _ _ _ hz)
      try clear_value x1_
      revert x1_
      refine keeps_id ?_
      intro x1_ h1_
      exact (keeps_ite (State.domGm_keeps _ _ _ h1_)
      (by
        extract_lets +onlyGivenNames x2_
        extract_lets +onlyGivenNames x3_
        have h3_ : Keeps z x3_ := (State.domGm_keeps _ _ _ h1_)
        try clear_value x3_
        revert x3_
        refine keeps_id ?_
        intro x3_ h3_
        extract_lets +onlyGivenNames x4_
        have h4_ : Keeps z x4_ := (State.post_keeps _ _ _ _ _ _ h3_)
        try clear_value x4_
        revert x4_
        refine keeps_id ?_
        intro x4_ h4_
        exact (keeps_ite (State.setDom_keeps _ _ _ h4_)
        (State.domEnter_keeps _ _ _ (State.setDom_keeps _ _ _ h4_))))))

theorem execPtpAnnounce_keeps {z : State} (d : Fin 2) (a : Announce) (s : State) (hz : Keeps z s) :
    KeepsA z (execPtpAnnounce d a s) := by
  unfold execPtpAnnounce
  exact (keeps_iteA (keepsA_next hz)
  (by
    extract_lets +onlyGivenNames x0_
    extract_lets +onlyGivenNames x1_
    extract_lets +onlyGivenNames x2_
    have h2_ : Keeps z x2_ := (State.setDom_keeps _ _ _ hz)
    try clear_value x2_
    revert x2_
    refine keeps_id ?_
    intro x2_ h2_
    exact (by
      split
      · exact (keepsA_next (State.domSelect_keeps _ _ _ h2_))
      · exact (keepsA_next h2_))))

theorem execAnnounceTimeout_keeps {z : State} (d : Fin 2) (s : State) (hz : Keeps z s) :
    KeepsA z (execAnnounceTimeout d s) := by
  unfold execAnnounceTimeout
  exact (by
    split
    · exact (keepsA_next hz)
    · extract_lets +onlyGivenNames x0_
      extract_lets +onlyGivenNames x1_
      extract_lets +onlyGivenNames x2_
      have h2_ : Keeps z x2_ := (keeps_frc hz _)
      try clear_value x2_
      revert x2_
      refine keeps_id ?_
      intro x2_ h2_
      extract_lets +onlyGivenNames x3_
      extract_lets +onlyGivenNames x4_
      extract_lets +onlyGivenNames x5_
      have h5_ : Keeps z x5_ := (State.setDom_keeps _ _ _ h2_)
      try clear_value x5_
      revert x5_
      refine keeps_id ?_
      intro x5_ h5_
      exact (by
        split
        · exact (keepsA_next (State.domSelect_keeps _ _ _ h5_))
        · exact (keepsA_next (State.domEnter_keeps _ _ _ (State.setDom_keeps _ _ _ h5_)))))

theorem execPtpSync_keeps {z : State} (d : Fin 2) (m : Sync) (s : State) (hz : Keeps z s) :
    KeepsA z (execPtpSync d m s) := by
  unfold execPtpSync
  exact (by
    split
    · exact (keepsA_next hz)
    · exact (keeps_iteA (keepsA_next hz)
      (keeps_iteA (keepsA_next (State.bump_keeps _ _ hz))
      (keepsA_next (State.c1Update_keeps _ (State.domSync_keeps _ _ _ hz))))))

end Sys2Proof.Machine
end

