-- ==== Sys2Proof/Laws/KeepsEthernet.lean ====
section
/-!
SUPPORT. What the operations of Machine/Ethernet.lean keep (Laws/Keeps.lean).
-/
namespace Sys2Proof.Machine

theorem execEthJoinPoint_keeps {z : State} (s : State) (hz : Keeps z s) :
    KeepsA z (execEthJoinPoint s) := by
  unfold execEthJoinPoint
  extract_lets +onlyGivenNames x0_
  extract_lets +onlyGivenNames x1_
  have h1_ : Keeps z x1_ := (keeps_ite (keeps_frc hz _)
  hz)
  try clear_value x1_
  revert x1_
  refine keeps_id ?_
  intro x1_ h1_
  exact (keeps_iteA (keepsA_next (State.wr_keeps _ _ _ h1_))
  (keeps_iteA (keepsA_next (State.wr_keeps _ _ _ h1_))
  (keepsA_next h1_)))

theorem State.igmp_keeps {z : State} (s : State) (hz : Keeps z s) :
    Keeps z (State.igmp s) := by
  unfold State.igmp
  extract_lets +onlyGivenNames x0_
  exact (keeps_ite (State.setEthPort_keeps _ _ _ hz)
  hz)

theorem State.permitUpdate_keeps {z : State} (s : State) (hz : Keeps z s) :
    Keeps z (State.permitUpdate s) := by
  unfold State.permitUpdate
  exact (State.wrB_keeps _ _ _ hz)

theorem execMaintSessionExpire_keeps {z : State} (s : State) (hz : Keeps z s) :
    KeepsA z (execMaintSessionExpire s) := by
  unfold execMaintSessionExpire
  exact (keeps_iteA (by
    extract_lets +onlyGivenNames x0_
    have h0_ : Keeps z x0_ := (keeps_frc hz _)
    try clear_value x0_
    revert x0_
    refine keeps_id ?_
    intro x0_ h0_
    exact (keepsA_next (State.permitUpdate_keeps _ (State.wr_keeps _ _ _ h0_))))
  (keepsA_next hz))

theorem State.ethAdmit_keeps {z : State} (s : State) (p : Nat) (k : State → State) (hz : Keeps z s) (hk : ∀ (a0 : State), Keeps z a0 → Keeps z (k a0)) :
    Keeps z (State.ethAdmit s p k) := by
  unfold State.ethAdmit
  extract_lets +onlyGivenNames x0_
  extract_lets +onlyGivenNames x1_
  extract_lets +onlyGivenNames x2_
  extract_lets +onlyGivenNames x3_
  exact (keeps_ite (State.bump_keeps _ _ hz)
  (hk _ (State.setEthPort_keeps _ _ _ hz)))

theorem execIgmpReport_keeps {z : State} (s : State) (hz : Keeps z s) :
    KeepsA z (execIgmpReport s) := by
  unfold execIgmpReport
  exact (keepsA_next (State.igmp_keeps _ hz))

theorem State.ethMaintWrite_keeps {z : State} (s : State) (m : Master) (value : Nat) (hz : Keeps z s) :
    Keeps z (State.ethMaintWrite s m value) := by
  unfold State.ethMaintWrite
  extract_lets +onlyGivenNames x0_
  exact (keeps_ite hz
  (State.permitUpdate_keeps _ (State.wr_keeps _ _ _ (keeps_maintAt hz _))))

theorem State.maintCount_keeps {z : State} (s : State) (hz : Keeps z s) :
    Keeps z (State.maintCount s) := by
  unfold State.maintCount
  extract_lets +onlyGivenNames x0_
  exact (keeps_ite (State.permitUpdate_keeps _ (State.wr_keeps _ _ _ (keeps_maintAt hz _)))
  hz)

theorem execLinkUp_keeps {z : State} (p : Fin 6) (s : State) (hz : Keeps z s) :
    KeepsA z (execLinkUp p s) := by
  unfold execLinkUp
  exact (keeps_iteA (keepsA_next hz)
  (by
    extract_lets +onlyGivenNames x0_
    have h0_ : Keeps z x0_ := (State.post_keeps _ _ _ _ _ _ (State.wr_keeps _ _ _ hz))
    try clear_value x0_
    revert x0_
    refine keeps_id ?_
    intro x0_ h0_
    exact (keepsA_next (keeps_ite (State.igmp_keeps _ h0_)
    h0_))))

theorem State.navBad_keeps {z : State} (s : State) (p : Nat) (group : Nat) (check : Nat) (hz : Keeps z s) :
    Keeps z (State.navBad s p group check) := by
  unfold State.navBad
  extract_lets +onlyGivenNames x0_
  have h0_ : Keeps z x0_ := (keeps_ite (State.bump_keeps _ _ hz)
  (State.bump_keeps _ _ hz))
  try clear_value x0_
  revert x0_
  refine keeps_id ?_
  intro x0_ h0_
  exact (State.post_keeps _ _ _ _ _ _ h0_)

theorem execEthMaint_keeps {z : State} (m : Master) (value : Word) (s : State) (hz : Keeps z s) :
    KeepsA z (execEthMaint m value s) := by
  unfold execEthMaint
  exact (keepsA_next (State.access_keeps _ _ _ _ _ _ hz (fun _ h0_ => (State.ethMaintWrite_keeps _ _ _ h0_))))

theorem State.ethEndFlight_keeps {z : State} (s : State) (p : Nat) (detail : Nat) (hz : Keeps z s) :
    Keeps z (State.ethEndFlight s p detail) := by
  unfold State.ethEndFlight
  extract_lets +onlyGivenNames x0_
  exact (by
    split
    · extract_lets +onlyGivenNames x1_
      extract_lets +onlyGivenNames x2_
      extract_lets +onlyGivenNames x3_
      have h3_ : Keeps z x3_ := (keeps_ite hz
      (State.useFree_keeps _ hz))
      try clear_value x3_
      revert x3_
      refine keeps_id ?_
      intro x3_ h3_
      extract_lets +onlyGivenNames x4_
      have h4_ : Keeps z x4_ := (State.setEthPort_keeps _ _ _ h3_)
      try clear_value x4_
      revert x4_
      refine keeps_id ?_
      intro x4_ h4_
      exact (State.txDone_keeps _ _ _ _ h4_)
    · exact hz)

theorem execEthTxComplete_keeps {z : State} (p : Fin 6) (s : State) (hz : Keeps z s) :
    KeepsA z (execEthTxComplete p s) := by
  unfold execEthTxComplete
  exact (keepsA_next (State.ethEndFlight_keeps _ _ _ hz))

theorem execEthTxStart_keeps {z : State} (p : Fin 6) (s : State) (hz : Keeps z s) :
    KeepsA z (execEthTxStart p s) := by
  unfold execEthTxStart
  extract_lets +onlyGivenNames x0_
  exact (keeps_iteA (by
    extract_lets +onlyGivenNames x1_
    have h1_ : Keeps z x1_ := (State.headWait_keeps _ _ hz)
    try clear_value x1_
    revert x1_
    refine keeps_id ?_
    intro x1_ h1_
    extract_lets +onlyGivenNames x2_
    extract_lets +onlyGivenNames x3_
    exact (keeps_iteA (by
      extract_lets +onlyGivenNames x4_
      exact (keepsA_next (State.post_keeps _ _ _ _ _ _ (State.txDone_keeps _ _ _ _ h1_))))
    (by
      extract_lets +onlyGivenNames x5_
      extract_lets +onlyGivenNames x6_
      extract_lets +onlyGivenNames x7_
      extract_lets +onlyGivenNames x8_
      exact (keepsA_next (State.setEthPort_keeps _ _ _ h1_)))))
  (keepsA_next hz))

theorem State.ethStore_keeps {z : State} (s : State) (p : Nat) (flags : Nat) (group : Nat) (frame : List Byte) (hz : Keeps z s) :
    Keeps z (State.ethStore s p flags group frame) := by
  unfold State.ethStore
  exact (keeps_ite (State.rxHold_keeps _ _ _ hz)
  (keeps_ite hz
  (by
    extract_lets +onlyGivenNames x0_
    extract_lets +onlyGivenNames x1_
    exact (keeps_ite (by
      extract_lets +onlyGivenNames x2_
      have h2_ : Keeps z x2_ := (keeps_ite hz
      (State.post_keeps _ _ _ _ _ _ hz))
      try clear_value x2_
      revert x2_
      refine keeps_id ?_
      intro x2_ h2_
      extract_lets +onlyGivenNames x3_
      have h3_ : Keeps z x3_ := (State.setRxCount_keeps _ _ _ h2_)
      try clear_value x3_
      revert x3_
      refine keeps_id ?_
      intro x3_ h3_
      exact (State.quePush_keeps _ _ _ h3_))
    (State.bump_keeps _ _ (State.setRxCount_keeps _ _ _ hz))))))

theorem execLinkDown_keeps {z : State} (p : Fin 6) (unable : Bool) (s : State) (hz : Keeps z s) :
    KeepsA z (execLinkDown p unable s) := by
  unfold execLinkDown
  exact (keeps_iteA (by
    extract_lets +onlyGivenNames x0_
    have h0_ : Keeps z x0_ := (State.wr_keeps _ _ _ hz)
    try clear_value x0_
    revert x0_
    refine keeps_id ?_
    intro x0_ h0_
    exact (keepsA_next (State.post_keeps _ _ _ _ _ _ (State.ethEndFlight_keeps _ _ _ h0_))))
  (keeps_iteA (keepsA_next (State.post_keeps _ _ _ _ _ _ hz))
  (keepsA_next hz)))

theorem State.navReceive_keeps {z : State} (s : State) (p : Nat) (f : List Byte) (hz : Keeps z s) :
    Keeps z (State.navReceive s p f) := by
  unfold State.navReceive
  extract_lets +onlyGivenNames x0_
  exact (keeps_ite (State.navBad_keeps _ _ _ _ hz)
  (by
    split
    · exact (State.navBad_keeps _ _ _ _ hz)
    · extract_lets +onlyGivenNames x1_
      exact (keeps_ite (State.navBad_keeps _ _ _ _ hz)
      (by
        extract_lets +onlyGivenNames x2_
        exact (keeps_ite (State.navBad_keeps _ _ _ _ hz)
        (by
          extract_lets +onlyGivenNames x3_
          exact (keeps_ite (State.ethAdmit_keeps _ _ _ hz (fun _ h4_ => (State.ethStore_keeps _ _ _ _ _ h4_)))
          (State.ethStore_keeps _ _ _ _ _ hz))))))))

theorem execEthFrameReceive_keeps {z : State} (p : Fin 6) (fcsGood : Bool) (f : List Byte) (s : State) (hz : Keeps z s) :
    KeepsA z (execEthFrameReceive p fcsGood f s) := by
  unfold execEthFrameReceive
  exact (keeps_iteA (keepsA_next hz)
  (keeps_iteA (keepsA_next (State.bump_keeps _ _ hz))
  (keeps_iteA (keepsA_next hz)
  (keeps_iteA (keepsA_next (State.bump_keeps _ _ hz))
  (by
    extract_lets +onlyGivenNames x0_
    extract_lets +onlyGivenNames x1_
    extract_lets +onlyGivenNames x2_
    have h2_ : Keeps z x2_ := (State.setEthPort_keeps _ _ _ hz)
    try clear_value x2_
    revert x2_
    refine keeps_id ?_
    intro x2_ h2_
    exact (keeps_iteA (keepsA_next h2_)
    (keeps_iteA (keepsA_next (State.bump_keeps _ _ h2_))
    (keeps_iteA (keepsA_next (State.navReceive_keeps _ _ _ h2_))
    (by
      extract_lets +onlyGivenNames x3_
      exact (keeps_iteA (keepsA_next (State.ethAdmit_keeps _ _ _ h2_ (fun _ h4_ => (State.ethStore_keeps _ _ _ _ _ h4_))))
      (keepsA_next (State.ethStore_keeps _ _ _ _ _ h2_))))))))))))

end Sys2Proof.Machine
end

