-- ==== Sys2Proof/Laws/KeepsLoopEngine.lean ====
section
/-!
SUPPORT. What the operations of Machine/LoopEngine.lean keep (Laws/Keeps.lean).
-/
namespace Sys2Proof.Machine

theorem State.setLoop_keeps {z : State} (s : State) (n : Nat) (x : Loop) (hz : Keeps z s) :
    Keeps z (State.setLoop s n x) := by
  unfold State.setLoop
  exact (keeps_lp hz _)

theorem State.loopArm_keeps {z : State} (s : State) (t : Nat) (hz : Keeps z s) :
    Keeps z (State.loopArm s t) := by
  unfold State.loopArm
  exact (keeps_foldl (fun _ _ h0_ => (by
    split
    · exact (keeps_ite (State.setLoop_keeps _ _ _ h0_)
      h0_)
    · exact h0_))
  hz)

theorem State.loopLatched_keeps {z : State} (s : State) (n : Nat) (hz : Keeps z s) :
    Keeps z (State.loopLatched s n) := by
  unfold State.loopLatched
  exact (State.setLoop_keeps _ _ _ hz)

theorem State.loopDirty_keeps {z : State} (s : State) (n : Nat) (hz : Keeps z s) :
    Keeps z (State.loopDirty s n) := by
  unfold State.loopDirty
  exact (State.wrB_keeps _ _ _ hz)

theorem State.loopTuneCopy_keeps {z : State} (s : State) (n : Nat) (hz : Keeps z s) :
    Keeps z (State.loopTuneCopy s n) := by
  unfold State.loopTuneCopy
  exact (by
    split
    · exact (keeps_ite (by
        extract_lets +onlyGivenNames x0_
        extract_lets +onlyGivenNames x1_
        have h1_ : Keeps z x1_ := (State.setLoop_keeps _ _ _ hz)
        try clear_value x1_
        revert x1_
        refine keeps_id ?_
        intro x1_ h1_
        exact (State.post_keeps _ _ _ _ _ _ (State.loopDirty_keeps _ _ (State.wr_keeps _ _ _ h1_))))
      hz)
    · exact hz)

theorem State.loopMiss_keeps {z : State} (s : State) (n : Nat) (demand : Nat) (hz : Keeps z s) :
    Keeps z (State.loopMiss s n demand) := by
  unfold State.loopMiss
  extract_lets +onlyGivenNames x0_
  extract_lets +onlyGivenNames x1_
  have h1_ : Keeps z x1_ := (State.setLoop_keeps _ _ _ hz)
  try clear_value x1_
  revert x1_
  refine keeps_id ?_
  intro x1_ h1_
  extract_lets +onlyGivenNames x2_
  have h2_ : Keeps z x2_ := (State.wr_keeps _ _ _ (State.bump_keeps _ _ (State.wr_keeps _ _ _ h1_)))
  try clear_value x2_
  revert x2_
  refine keeps_id ?_
  intro x2_ h2_
  exact (State.post_keeps _ _ _ _ _ _ h2_)

theorem State.loopTables_keeps {z : State} (s : State) (n : Nat) (x : Int) (hz : Keeps z s) :
    Keeps z (State.loopTables s n x).1 := by
  unfold State.loopTables
  extract_lets +onlyGivenNames x0_
  extract_lets +onlyGivenNames x1_
  extract_lets +onlyGivenNames x2_
  extract_lets +onlyGivenNames x3_
  exact (keeps_iteP (State.setLoop_keeps _ _ _ hz)
  hz)

theorem State.loopHealth_keeps {z : State} (s : State) (n : Nat) (x : LoopSmp) (hz : Keeps z s) :
    Keeps z (State.loopHealth s n x) := by
  unfold State.loopHealth
  extract_lets +onlyGivenNames x0_
  extract_lets +onlyGivenNames x1_
  have h1_ : Keeps z x1_ := (State.wr_keeps _ _ _ hz)
  try clear_value x1_
  revert x1_
  refine keeps_id ?_
  intro x1_ h1_
  extract_lets +onlyGivenNames x2_
  have h2_ : Keeps z x2_ := (keeps_ite (State.post_keeps _ _ _ _ _ _ h1_)
  (keeps_ite (State.post_keeps _ _ _ _ _ _ h1_)
  h1_))
  try clear_value x2_
  revert x2_
  refine keeps_id ?_
  intro x2_ h2_
  extract_lets +onlyGivenNames x3_
  have h3_ : Keeps z x3_ := (keeps_ite (State.post_keeps _ _ _ _ _ _ h2_)
  h2_)
  try clear_value x3_
  revert x3_
  refine keeps_id ?_
  intro x3_ h3_
  exact (State.setLoop_keeps _ _ _ h3_)

theorem State.loopShow_keeps {z : State} (s : State) (n : Nat) (f : LoopFlags) (frozen : Bool) (safe : Bool) (auto : Bool) (hz : Keeps z s) :
    Keeps z (State.loopShow s n f frozen safe auto) := by
  unfold State.loopShow
  extract_lets +onlyGivenNames x0_
  extract_lets +onlyGivenNames x1_
  exact (State.wr_keeps _ _ _ (State.wr_keeps _ _ _ hz))

theorem State.loopEval_keeps {z : State} (s : State) (n : Nat) (x : LoopSmp) (hz : Keeps z s) :
    Keeps z (State.loopEval s n x) := by
  unfold State.loopEval
  extract_lets +onlyGivenNames x0_
  extract_lets +onlyGivenNames x1_
  have h1_ : Keeps z x1_.1 := (State.loopTables_keeps _ _ _ (State.loopHealth_keeps _ _ _ hz))
  try clear_value x1_
  revert x1_
  refine keeps_id ?_
  intro x1_ h1_
  extract_lets +onlyGivenNames x2_
  have h2_ : Keeps z x2_ := h1_
  try clear_value x2_
  revert x2_
  refine keeps_id ?_
  intro x2_ h2_
  extract_lets +onlyGivenNames x3_
  extract_lets +onlyGivenNames x4_
  extract_lets +onlyGivenNames x5_
  extract_lets +onlyGivenNames x6_
  extract_lets +onlyGivenNames x7_
  extract_lets +onlyGivenNames x8_
  extract_lets +onlyGivenNames x9_
  extract_lets +onlyGivenNames x10_
  exact (keeps_ite (State.loopShow_keeps _ _ _ _ _ _ (State.loopShow_keeps _ _ _ _ _ _ (State.setLoop_keeps _ _ _ h2_)))
  (keeps_ite (by
    extract_lets +onlyGivenNames x11_
    exact (State.loopShow_keeps _ _ _ _ _ _ (State.setLoop_keeps _ _ _ h2_)))
  (keeps_ite (by
    extract_lets +onlyGivenNames x12_
    exact (State.loopShow_keeps _ _ _ _ _ _ (State.setLoop_keeps _ _ _ h2_)))
  (keeps_ite (by
    extract_lets +onlyGivenNames x13_
    extract_lets +onlyGivenNames x14_
    exact (State.loopShow_keeps _ _ _ _ _ _ (State.setLoop_keeps _ _ _ h2_)))
  (by
    extract_lets +onlyGivenNames x15_
    exact (State.loopShow_keeps _ _ _ _ _ _ (State.setLoop_keeps _ _ _ h2_)))))))

theorem State.loopRun_keeps {z : State} (s : State) (ecc : Nat → Bool) (slots demand used : Nat)
    (l : List (Nat × LoopSmp)) (hz : Keeps z s) : Keeps z (State.loopRun s ecc slots demand used l) := by
  induction l generalizing s used with
  | nil => exact hz
  | cons x t ih =>
    obtain ⟨n, x⟩ := x
    unfold State.loopRun
    have h := State.loopTuneCopy_keeps s n hz
    exact keeps_ite (ih _ _ (State.loopMiss_keeps _ _ _ h)) (ih _ _ (State.loopEval_keeps _ _ _ h))

theorem State.loopTake_keeps {z : State} (s : State) (t : Nat) (safe : Bool) (img : List Byte) (hz : Keeps z s) :
    Keeps z (State.loopTake s t safe img) := by
  unfold State.loopTake
  exact (keeps_foldl (fun _ _ h0_ => (keeps_ite (by
    extract_lets +onlyGivenNames x1_
    exact (State.setLoop_keeps _ _ _ h0_))
  h0_))
  hz)

theorem State.loopLockStates_keeps {z : State} (s : State) (hz : Keeps z s) :
    Keeps z (State.loopLockStates s) := by
  unfold State.loopLockStates
  exact (keeps_foldl (fun _ _ h0_ => (State.wrB_keeps _ _ _ h0_))
  hz)

theorem State.tunePend_keeps {z : State} (s : State) (n : Nat) (master : Nat) (init : Bool) (hz : Keeps z s) :
    Keeps z (State.tunePend s n master init) := by
  unfold State.tunePend
  extract_lets +onlyGivenNames x0_
  exact (State.wr_keeps _ _ _ (State.wr_keeps _ _ _ (State.setLoop_keeps _ _ _ hz)))

theorem State.setShadow_keeps {z : State} (s : State) (n : Nat) (t : TuneSet) (hz : Keeps z s) :
    Keeps z (State.setShadow s n t) := by
  unfold State.setShadow
  exact (State.loopDirty_keeps _ _ (keeps_foldl (fun _ _ h0_ => (by
    extract_lets +onlyGivenNames x1_
    exact (State.wr_keeps _ _ _ h0_)))
  hz))

theorem State.loopDefaults_keeps {z : State} (s : State) (n : Nat) (hz : Keeps z s) :
    Keeps z (State.loopDefaults s n) := by
  unfold State.loopDefaults
  extract_lets +onlyGivenNames x0_
  have h0_ : Keeps z x0_ := (State.setShadow_keeps _ _ _ hz)
  try clear_value x0_
  revert x0_
  refine keeps_id ?_
  intro x0_ h0_
  exact (State.loopDirty_keeps _ _ (State.setLoop_keeps _ _ _ h0_))

theorem State.loopLock_keeps {z : State} (s : State) (hz : Keeps z s) :
    Keeps z (State.loopLock s) := by
  unfold State.loopLock
  extract_lets +onlyGivenNames x0_
  extract_lets +onlyGivenNames x1_
  extract_lets +onlyGivenNames x2_
  extract_lets +onlyGivenNames x3_
  have h3_ : Keeps z x3_ := (State.loopLockStates_keeps _ (State.wr_keeps _ _ _ (State.wr_keeps _ _ _ (keeps_lp hz _))))
  try clear_value x3_
  revert x3_
  refine keeps_id ?_
  intro x3_ h3_
  extract_lets +onlyGivenNames x4_
  have h4_ : Keeps z x4_ := (keeps_foldl (fun _ _ h5_ => (State.loopDefaults_keeps _ _ h5_))
  h3_)
  try clear_value x4_
  revert x4_
  refine keeps_id ?_
  intro x4_ h4_
  exact (keeps_ite h4_
  (State.wake_keeps _ _ h4_))

theorem State.loopCmdWrite_keeps {z : State} (s : State) (m : Master) (n : Nat) (v : Nat) (hz : Keeps z s) :
    Keeps z (State.loopCmdWrite s m n v) := by
  unfold State.loopCmdWrite
  exact (keeps_ite hz
  (keeps_ite (State.refuseWrite_keeps _ _ _ hz)
  (by
    extract_lets +onlyGivenNames x0_
    have h0_ : Keeps z x0_ := (State.mirror_keeps _ _ _ _ hz)
    try clear_value x0_
    revert x0_
    refine keeps_id ?_
    intro x0_ h0_
    exact (keeps_ite (State.wr_keeps _ _ _ (State.setShadow_keeps _ _ _ h0_))
    (keeps_ite (State.tunePend_keeps _ _ _ _ (State.setShadow_keeps _ _ _ h0_))
    (keeps_ite (State.post_keeps _ _ _ _ _ _ (State.wr_keeps _ _ _ h0_))
    (State.tunePend_keeps _ _ _ _ h0_)))))))

theorem execLoopCommit_keeps {z : State} (m : Master) (n : Fin 512) (s : State) (hz : Keeps z s) :
    KeepsA z (execLoopCommit m n s) := by
  unfold execLoopCommit
  exact (keepsA_next (State.access_keeps _ _ _ _ _ _ hz (fun _ h0_ => (State.loopCmdWrite_keeps _ _ _ _ h0_))))

theorem State.loopShadowWrite_keeps {z : State} (s : State) (m : Master) (n : Nat) (j : Nat) (v : Nat) (hz : Keeps z s) :
    Keeps z (State.loopShadowWrite s m n j v) := by
  unfold State.loopShadowWrite
  exact (keeps_ite hz
  (keeps_ite hz
  (keeps_ite (State.refuseWrite_keeps _ _ _ hz)
  (by
    extract_lets +onlyGivenNames x0_
    extract_lets +onlyGivenNames x1_
    have h1_ : Keeps z x1_ := (State.mirror_keeps _ _ _ _ hz)
    try clear_value x1_
    revert x1_
    refine keeps_id ?_
    intro x1_ h1_
    exact (State.loopDirty_keeps _ _ (State.wr_keeps _ _ _ h1_))))))

theorem State.loopApply_keeps {z : State} (s : State) (n : Nat) (hz : Keeps z s) :
    Keeps z (State.loopApply s n) := by
  unfold State.loopApply
  exact (by
    split
    · exact hz
    · extract_lets +onlyGivenNames x0_
      extract_lets +onlyGivenNames x1_
      extract_lets +onlyGivenNames x2_
      have h2_ : Keeps z x2_ := (State.wr_keeps _ _ _ hz)
      try clear_value x2_
      revert x2_
      refine keeps_id ?_
      intro x2_ h2_
      extract_lets +onlyGivenNames x3_
      extract_lets +onlyGivenNames x4_
      have h4_ : Keeps z x4_ := (keeps_ite (State.setOut_keeps _ _ _ _ h2_)
      (keeps_ite (State.setAxis_keeps _ _ _ h2_)
      h2_))
      try clear_value x4_
      revert x4_
      refine keeps_id ?_
      intro x4_ h4_
      exact (keeps_lp h4_ _))

theorem execLoopDiscard_keeps {z : State} (m : Master) (n : Fin 512) (s : State) (hz : Keeps z s) :
    KeepsA z (execLoopDiscard m n s) := by
  unfold execLoopDiscard
  exact (keepsA_next (State.access_keeps _ _ _ _ _ _ hz (fun _ h0_ => (State.loopCmdWrite_keeps _ _ _ _ h0_))))

theorem State.loopTick_keeps {z : State} (s : State) (ecc : Nat → Bool) (slots : Nat) (given : Option (List LoopSmp)) (hz : Keeps z s) :
    Keeps z (State.loopTick s ecc slots given) := by
  unfold State.loopTick
  extract_lets +onlyGivenNames x0_
  extract_lets +onlyGivenNames x1_
  extract_lets +onlyGivenNames x2_
  extract_lets +onlyGivenNames x3_
  have h3_ : Keeps z x3_ := (keeps_foldl (fun _ _ h4_ => (State.loopApply_keeps _ _ h4_))
  hz)
  try clear_value x3_
  revert x3_
  refine keeps_id ?_
  intro x3_ h3_
  extract_lets +onlyGivenNames x5_
  extract_lets +onlyGivenNames x6_
  extract_lets +onlyGivenNames x7_
  have h7_ : Keeps z x7_ := (keeps_ite (State.banSend_keeps _ _ _ h3_)
  h3_)
  try clear_value x7_
  revert x7_
  refine keeps_id ?_
  intro x7_ h7_
  extract_lets +onlyGivenNames x8_
  extract_lets +onlyGivenNames x9_
  have h9_ : Keeps z x9_ := (State.wr_keeps _ _ _ h7_)
  try clear_value x9_
  revert x9_
  refine keeps_id ?_
  intro x9_ h9_
  extract_lets +onlyGivenNames x10_
  have h10_ : Keeps z x10_ := (State.loopRun_keeps _ _ _ _ _ _ (State.wr_keeps _ _ _ h9_))
  try clear_value x10_
  revert x10_
  refine keeps_id ?_
  intro x10_ h10_
  exact (keeps_lp h10_ _)

theorem execLoopInit_keeps {z : State} (m : Master) (n : Fin 512) (s : State) (hz : Keeps z s) :
    KeepsA z (execLoopInit m n s) := by
  unfold execLoopInit
  exact (keepsA_next (State.access_keeps _ _ _ _ _ _ hz (fun _ h0_ => (State.loopCmdWrite_keeps _ _ _ _ h0_))))

theorem State.samplesTake_keeps {z : State} (s : State) (samples : List LoopSmp) (ecc : List (Fin 512)) (slots : Nat) (hz : Keeps z s) :
    Keeps z (State.samplesTake s samples ecc slots) := by
  unfold State.samplesTake
  exact (by
    split
    · exact (keeps_ite (by
        extract_lets +onlyGivenNames x0_
        have h0_ : Keeps z x0_ := (keeps_frc hz _)
        try clear_value x0_
        revert x0_
        refine keeps_id ?_
        intro x0_ h0_
        exact (State.loopTick_keeps _ _ _ _ h0_))
      hz)
    · exact hz)

theorem execLoopTick_keeps {z : State} (ecc : List (Fin 512)) (slots : Fin 513) (s : State) (hz : Keeps z s) :
    KeepsA z (execLoopTick ecc slots s) := by
  unfold execLoopTick
  exact (by
    split
    · exact (keeps_iteA (by
        extract_lets +onlyGivenNames x0_
        have h0_ : Keeps z x0_ := (keeps_frc hz _)
        try clear_value x0_
        revert x0_
        refine keeps_id ?_
        intro x0_ h0_
        exact (keepsA_next (State.loopTick_keeps _ _ _ _ h0_)))
      (keepsA_next hz))
    · exact (keepsA_next hz))

end Sys2Proof.Machine
end

