-- ==== Sys2Proof/Laws/KeepsRounds.lean ====
section
/-!
SUPPORT. What the operations of Machine/Rounds.lean keep (Laws/Keeps.lean).
-/
namespace Sys2Proof.Machine

theorem State.rndShow_keeps {z : State} (s : State) (hz : Keeps z s) :
    Keeps z (State.rndShow s) := by
  unfold State.rndShow
  extract_lets +onlyGivenNames x0_
  extract_lets +onlyGivenNames x1_
  extract_lets +onlyGivenNames x2_
  have h2_ : Keeps z x2_ := (State.wr_keeps _ _ _ hz)
  try clear_value x2_
  revert x2_
  refine keeps_id ?_
  intro x2_ h2_
  extract_lets +onlyGivenNames x3_
  have h3_ : Keeps z x3_ := (State.wr_keeps _ _ _ h2_)
  try clear_value x3_
  revert x3_
  refine keeps_id ?_
  intro x3_ h3_
  exact (State.wrB_keeps _ _ _ h3_)

theorem State.wearSummary_keeps {z : State} (s : State) (hz : Keeps z s) :
    Keeps z (State.wearSummary s) := by
  unfold State.wearSummary
  extract_lets +onlyGivenNames x0_
  exact (State.wr_keeps _ _ _ (State.wr_keeps _ _ _ hz))

theorem State.setWearQ_keeps {z : State} (s : State) (i : Nat) (v : Nat) (hz : Keeps z s) :
    Keeps z (State.setWearQ s i v) := by
  unfold State.setWearQ
  exact (State.wr64_keeps _ _ _ _ hz)

theorem State.rndRole_keeps {z : State} (s : State) (hz : Keeps z s) :
    Keeps z (State.rndRole s) := by
  unfold State.rndRole
  exact (keeps_foldl (fun _ _ h0_ => (State.wr_keeps _ _ _ h0_))
  hz)

theorem State.rndExpire_keeps {z : State} (s : State) (hz : Keeps z s) :
    Keeps z (State.rndExpire s) := by
  unfold State.rndExpire
  extract_lets +onlyGivenNames x0_
  extract_lets +onlyGivenNames x1_
  have h1_ : Keeps z x1_ := (State.bumpBy_keeps _ _ _ hz)
  try clear_value x1_
  revert x1_
  refine keeps_id ?_
  intro x1_ h1_
  exact (keeps_rnd h1_ _)

theorem State.rndWakes_keeps {z : State} (s : State) (i : Nat) (hz : Keeps z s) :
    Keeps z (State.rndWakes s i) := by
  unfold State.rndWakes
  exact (keeps_ite (State.wake_keeps _ _ hz)
  (keeps_ite (State.wake_keeps _ _ hz)
  (keeps_ite (State.wake_keeps _ _ hz)
  (keeps_ite (State.wake_keeps _ _ hz)
  (keeps_ite (State.wake_keeps _ _ hz)
  (keeps_ite (keeps_foldl (fun _ _ h0_ => (State.wake_keeps _ _ h0_))
  hz)
  (keeps_ite (State.wake_keeps _ _ hz)
  (keeps_ite (keeps_foldl (fun _ _ h1_ => (State.wake_keeps _ _ (State.wake_keeps _ _ h1_)))
  hz)
  hz))))))))

theorem State.rndReset_keeps {z : State} (s : State) (hz : Keeps z s) :
    Keeps z (State.rndReset s) := by
  unfold State.rndReset
  extract_lets +onlyGivenNames x0_
  have h0_ : Keeps z x0_ := (keeps_rnd hz _)
  try clear_value x0_
  revert x0_
  refine keeps_id ?_
  intro x0_ h0_
  exact (State.rndRole_keeps _ (keeps_foldl (fun _ _ h1_ => (State.wr_keeps _ _ _ h1_))
  h0_))

theorem State.wearStress_keeps {z : State} (s : State) (n : Nat) (hz : Keeps z s) :
    Keeps z (State.wearStress s n) := by
  unfold State.wearStress
  extract_lets +onlyGivenNames x0_
  extract_lets +onlyGivenNames x1_
  extract_lets +onlyGivenNames x2_
  have h2_ : Keeps z x2_ := (State.setWearQ_keeps _ _ _ hz)
  try clear_value x2_
  revert x2_
  refine keeps_id ?_
  intro x2_ h2_
  exact (keeps_wear h2_ _)

theorem State.rndIssue_keeps {z : State} (s : State) (us : Nat) (until_ : Nat) (hz : Keeps z s) :
    Keeps z (State.rndIssue s us until_) := by
  unfold State.rndIssue
  exact (keeps_ite hz
  (by
    extract_lets +onlyGivenNames x0_
    have h0_ : Keeps z x0_ := (State.wake_keeps _ _ hz)
    try clear_value x0_
    revert x0_
    refine keeps_id ?_
    intro x0_ h0_
    exact (keeps_rnd h0_ _)))

theorem execRndStopGrant_keeps {z : State} (s : State) (hz : Keeps z s) :
    KeepsA z (execRndStopGrant s) := by
  unfold execRndStopGrant
  exact (keeps_iteA (by
    extract_lets +onlyGivenNames x0_
    extract_lets +onlyGivenNames x1_
    extract_lets +onlyGivenNames x2_
    extract_lets +onlyGivenNames x3_
    have h3_ : Keeps z x3_ := (keeps_upd ⟨rfl, rfl, rfl, rfl, rfl, rfl, rfl, rfl⟩ hz)
    try clear_value x3_
    revert x3_
    refine keeps_id ?_
    intro x3_ h3_
    exact (keepsA_next (State.rndIssue_keeps _ _ _ (State.rndExpire_keeps _ h3_))))
  (keepsA_next hz))

theorem State.rndGrant_keeps {z : State} (s : State) (t : Nat) (next : Nat) (hz : Keeps z s) :
    Keeps z (State.rndGrant s t next) := by
  unfold State.rndGrant
  exact (keeps_ite hz
  (State.rndIssue_keeps _ _ _ hz))

theorem State.wearShow_keeps {z : State} (s : State) (i : Nat) (hz : Keeps z s) :
    Keeps z (State.wearShow s i) := by
  unfold State.wearShow
  exact (keeps_ite (State.wr_keeps _ _ _ (State.wr_keeps _ _ _ hz))
  (by
    extract_lets +onlyGivenNames x0_
    extract_lets +onlyGivenNames x1_
    extract_lets +onlyGivenNames x2_
    extract_lets +onlyGivenNames x3_
    have h3_ : Keeps z x3_ := (State.wr_keeps _ _ _ (State.wr_keeps _ _ _ hz))
    try clear_value x3_
    revert x3_
    refine keeps_id ?_
    intro x3_ h3_
    extract_lets +onlyGivenNames x4_
    have h4_ : Keeps z x4_ := (State.wr_keeps _ _ _ (State.wrB_keeps _ _ _ h3_))
    try clear_value x4_
    revert x4_
    refine keeps_id ?_
    intro x4_ h4_
    extract_lets +onlyGivenNames x5_
    extract_lets +onlyGivenNames x6_
    have h6_ : Keeps z x6_ := (keeps_ite (State.post_keeps _ _ _ _ _ _ h4_)
    h4_)
    try clear_value x6_
    revert x6_
    refine keeps_id ?_
    intro x6_ h6_
    extract_lets +onlyGivenNames x7_
    have h7_ : Keeps z x7_ := (keeps_ite (State.post_keeps _ _ _ _ _ _ h6_)
    h6_)
    try clear_value x7_
    revert x7_
    refine keeps_id ?_
    intro x7_ h7_
    extract_lets +onlyGivenNames x8_
    exact (keeps_wear h7_ _)))

theorem State.wearStore_keeps {z : State} (s : State) (i : Nat) (hz : Keeps z s) :
    Keeps z (State.wearStore s i) := by
  unfold State.wearStore
  extract_lets +onlyGivenNames x0_
  exact (State.wearShow_keeps _ _ (keeps_wear hz _))

theorem execRndPassLate_keeps {z : State} (s : State) (hz : Keeps z s) :
    KeepsA z (execRndPassLate s) := by
  unfold execRndPassLate
  extract_lets +onlyGivenNames x0_
  exact (keeps_iteA (by
    extract_lets +onlyGivenNames x1_
    have h1_ : Keeps z x1_ := (State.waitOp_keeps _ _ hz)
    try clear_value x1_
    revert x1_
    refine keeps_id ?_
    intro x1_ h1_
    extract_lets +onlyGivenNames x2_
    have h2_ : Keeps z x2_ := (State.post_keeps _ _ _ _ _ _ (State.wr_keeps _ _ _ h1_))
    try clear_value x2_
    revert x2_
    refine keeps_id ?_
    intro x2_ h2_
    exact (keepsA_next (keeps_rnd h2_ _)))
  (keepsA_next hz))

theorem State.wearHoldup_keeps {z : State} (s : State) (permille : Nat) (load10 : Nat) (returned : Bool) (hz : Keeps z s) :
    Keeps z (State.wearHoldup s permille load10 returned) := by
  unfold State.wearHoldup
  extract_lets +onlyGivenNames x0_
  have h0_ : Keeps z x0_ := (keeps_ite hz
  (State.wearStore_keeps _ _ (State.setWearQ_keeps _ _ _ hz)))
  try clear_value x0_
  revert x0_
  refine keeps_id ?_
  intro x0_ h0_
  exact (State.post_keeps _ _ _ _ _ _ (State.wearSummary_keeps _ h0_))

theorem execRndGrantClose_keeps {z : State} (s : State) (hz : Keeps z s) :
    KeepsA z (execRndGrantClose s) := by
  unfold execRndGrantClose
  exact (by
    split
    · exact (keepsA_next hz)
    · exact (keepsA_next (State.rndExpire_keeps _ (keeps_frc hz _))))

theorem State.rndPass_keeps {z : State} (s : State) (hz : Keeps z s) :
    Keeps z (State.rndPass s) := by
  unfold State.rndPass
  exact (keeps_ite (by
    extract_lets +onlyGivenNames x0_
    extract_lets +onlyGivenNames x1_
    extract_lets +onlyGivenNames x2_
    have h2_ : Keeps z x2_ := (State.wr_keeps _ _ _ (State.wr_keeps _ _ _ (State.bump_keeps _ _ hz)))
    try clear_value x2_
    revert x2_
    refine keeps_id ?_
    intro x2_ h2_
    extract_lets +onlyGivenNames x3_
    have h3_ : Keeps z x3_ := (State.post_keeps _ _ _ _ _ _ h2_)
    try clear_value x3_
    revert x3_
    refine keeps_id ?_
    intro x3_ h3_
    exact (keeps_rnd h3_ _))
  hz)

theorem execThermalStressUpdate_keeps {z : State} (s : State) (hz : Keeps z s) :
    KeepsA z (execThermalStressUpdate s) := by
  unfold execThermalStressUpdate
  exact (keeps_iteA (by
    extract_lets +onlyGivenNames x0_
    have h0_ : Keeps z x0_ := (keeps_frc hz _)
    try clear_value x0_
    revert x0_
    refine keeps_id ?_
    intro x0_ h0_
    extract_lets +onlyGivenNames x1_
    extract_lets +onlyGivenNames x2_
    have h2_ : Keeps z x2_ := (keeps_rnd h0_ _)
    try clear_value x2_
    revert x2_
    refine keeps_id ?_
    intro x2_ h2_
    exact (keepsA_next (keeps_foldl (fun _ _ h3_ => (State.wearStress_keeps _ _ h3_))
    h2_)))
  (keepsA_next hz))

theorem State.wearLock_keeps {z : State} (s : State) (hz : Keeps z s) :
    Keeps z (State.wearLock s) := by
  unfold State.wearLock
  exact (State.wearSummary_keeps _ (keeps_foldl (fun _ _ h0_ => (State.wearShow_keeps _ _ h0_))
  hz))

theorem State.rndFail_keeps {z : State} (s : State) (i : Nat) (detail : Nat) (hz : Keeps z s) :
    Keeps z (State.rndFail s i detail) := by
  unfold State.rndFail
  extract_lets +onlyGivenNames x0_
  have h0_ : Keeps z x0_ := (State.bump_keeps _ _ (State.wr_keeps _ _ _ hz))
  try clear_value x0_
  revert x0_
  refine keeps_id ?_
  intro x0_ h0_
  extract_lets +onlyGivenNames x1_
  have h1_ : Keeps z x1_ := (State.post_keeps _ _ _ _ _ _ h0_)
  try clear_value x1_
  revert x1_
  refine keeps_id ?_
  intro x1_ h1_
  exact (keeps_rnd h1_ _)

theorem execWearSample_keeps {z : State} (mram : Nat) (flash : Nat) (s : State) (hz : Keeps z s) :
    KeepsA z (execWearSample mram flash s) := by
  unfold execWearSample
  exact (keeps_iteA (keepsA_next hz)
  (by
    extract_lets +onlyGivenNames x0_
    extract_lets +onlyGivenNames x1_
    have h1_ : Keeps z x1_ := (State.driftCount_keeps _ (State.waitOp_keeps _ _ hz))
    try clear_value x1_
    revert x1_
    refine keeps_id ?_
    intro x1_ h1_
    extract_lets +onlyGivenNames x2_
    have h2_ : Keeps z x2_ := (State.setWearQ_keeps _ _ _ (State.setWearQ_keeps _ _ _ h1_))
    try clear_value x2_
    revert x2_
    refine keeps_id ?_
    intro x2_ h2_
    extract_lets +onlyGivenNames x3_
    extract_lets +onlyGivenNames x4_
    have h4_ : Keeps z x4_ := by
      subst x4_
      exact (by
        clear_value x3_
        split
        · exact (State.setWearQ_keeps _ _ _ h2_)
        · exact h2_)
    try clear_value x4_
    revert x4_
    refine keeps_id ?_
    intro x4_ h4_
    extract_lets +onlyGivenNames x5_
    extract_lets +onlyGivenNames x6_
    have h6_ : Keeps z x6_ := (keeps_wear h4_ _)
    try clear_value x6_
    revert x6_
    refine keeps_id ?_
    intro x6_ h6_
    extract_lets +onlyGivenNames x7_
    exact (keepsA_next (State.wearSummary_keeps _ (keeps_foldl (fun _ _ h8_ => (State.wearStore_keeps _ _ h8_))
    h6_)))))

end Sys2Proof.Machine
end

