-- ==== Sys2Proof/Laws/KeepsSolver.lean ====
section
/-!
SUPPORT. What the operations of Machine/Solver.lean keep (Laws/Keeps.lean).
-/
namespace Sys2Proof.Machine

theorem State.rndYield_keeps {z : State} (s : State) (hz : Keeps z s) :
    Keeps z (State.rndYield s) := by
  unfold State.rndYield
  exact (by
    split
    · extract_lets +onlyGivenNames x0_
      exact (keeps_ite (keeps_rnd hz _)
      hz)
    · exact hz)

theorem State.setReq_keeps {z : State} (s : State) (r : SlvRequest) (hz : Keeps z s) :
    Keeps z (State.setReq s r) := by
  unfold State.setReq
  exact (keeps_slv hz _)

theorem State.slvStart_keeps {z : State} (s : State) (r : SlvRequest) (hz : Keeps z s) :
    Keeps z (State.slvStart s r).1 := by
  unfold State.slvStart
  extract_lets +onlyGivenNames x0_
  exact (by
    split
    · exact hz
    · exact (keeps_iteP hz
      (keeps_iteP (by
        extract_lets +onlyGivenNames x1_
        exact (keeps_iteP hz
        hz))
      (State.post_keeps _ _ _ _ _ _ hz))))

theorem State.slvAdmit_keeps {z : State} (s : State) (r : SlvRequest) (ecc : Bool) (may : SlvMay) (hz : Keeps z s) :
    Keeps z (State.slvAdmit s r ecc may).1 := by
  unfold State.slvAdmit
  exact (keeps_iteP hz
  (keeps_iteP hz
  (keeps_iteP hz
  (keeps_iteP hz
  (keeps_iteP hz
  (keeps_iteP hz
  (keeps_iteP hz
  (by
    extract_lets +onlyGivenNames x0_
    exact (keeps_iteP hz
    (keeps_iteP hz
    (by
      extract_lets +onlyGivenNames x1_
      exact (by
        split
        · exact hz
        · extract_lets +onlyGivenNames x2_
          have h2_ : Keeps z x2_.1 := (State.slvStart_keeps _ _ hz)
          try clear_value x2_
          revert x2_
          refine keeps_id ?_
          intro x2_ h2_
          exact h2_))))))))))))

theorem State.slvTake_keeps {z : State} (s0 : State) (sq : Nat) (ecc : Bool) (may : SlvMay) (hz : Keeps z s0) :
    Keeps z (State.slvTake s0 sq ecc may) := by
  unfold State.slvTake
  extract_lets +onlyGivenNames x0_
  have h0_ : Keeps z x0_ := (State.rndYield_keeps _ hz)
  try clear_value x0_
  revert x0_
  refine keeps_id ?_
  intro x0_ h0_
  extract_lets +onlyGivenNames x1_
  extract_lets +onlyGivenNames x2_
  extract_lets +onlyGivenNames x3_
  extract_lets +onlyGivenNames x4_
  have h4_ : Keeps z x4_ := (keeps_posted h0_ _)
  try clear_value x4_
  revert x4_
  refine keeps_id ?_
  intro x4_ h4_
  extract_lets +onlyGivenNames x5_
  have h5_ : Keeps z x5_.1 := (State.slvAdmit_keeps _ _ _ _ h4_)
  try clear_value x5_
  revert x5_
  refine keeps_id ?_
  intro x5_ h5_
  extract_lets +onlyGivenNames x6_
  have h6_ : Keeps z x6_ := h5_
  try clear_value x6_
  revert x6_
  refine keeps_id ?_
  intro x6_ h6_
  extract_lets +onlyGivenNames x7_
  extract_lets +onlyGivenNames x8_
  have h8_ : Keeps z x8_ := (keeps_slv h6_ _)
  try clear_value x8_
  revert x8_
  refine keeps_id ?_
  intro x8_ h8_
  extract_lets +onlyGivenNames x9_
  have h9_ : Keeps z x9_ := (keeps_ite (State.post_keeps _ _ _ _ _ _ h8_)
  h8_)
  try clear_value x9_
  revert x9_
  refine keeps_id ?_
  intro x9_ h9_
  exact (State.wr_keeps _ _ _ (State.wr_keeps _ _ _ (State.wr_keeps _ _ _ h9_)))

theorem State.slvIterate_keeps {z : State} (s : State) (r : SlvRequest) (ecc : Bool) (may : SlvMay) (hz : Keeps z s) :
    Keeps z (State.slvIterate s r ecc may) := by
  unfold State.slvIterate
  extract_lets +onlyGivenNames x0_
  extract_lets +onlyGivenNames x1_
  have h1_ : Keeps z x1_ := (keeps_ite (State.post_keeps _ _ _ _ _ _ hz)
  hz)
  try clear_value x1_
  revert x1_
  refine keeps_id ?_
  intro x1_ h1_
  exact (State.wr_keeps _ _ _ (State.setReq_keeps _ _ h1_))

theorem State.slvStop_keeps {z : State} (s : State) (r : SlvRequest) (hz : Keeps z s) :
    Keeps z (State.slvStop s r) := by
  unfold State.slvStop
  exact (State.wr_keeps _ _ _ (State.setReq_keeps _ _ hz))

theorem State.slvShowSlot_keeps {z : State} (s : State) (k : Nat) (hz : Keeps z s) :
    Keeps z (State.slvShowSlot s k) := by
  unfold State.slvShowSlot
  exact (by
    split
    · exact (State.wr_keeps _ _ _ (State.wr_keeps _ _ _ (State.wr_keeps _ _ _ (State.wr_keeps _ _ _ hz))))
    · extract_lets +onlyGivenNames x0_
      have h0_ : Keeps z x0_ := (State.wr_keeps _ _ _ hz)
      try clear_value x0_
      revert x0_
      refine keeps_id ?_
      intro x0_ h0_
      exact (State.wr64_keeps _ _ _ _ (State.wr_keeps _ _ _ h0_)))

theorem State.slvClear_keeps {z : State} (s : State) (k : Nat) (master : Nat) (hz : Keeps z s) :
    Keeps z (State.slvClear s k master) := by
  unfold State.slvClear
  extract_lets +onlyGivenNames x0_
  extract_lets +onlyGivenNames x1_
  have h1_ : Keeps z x1_ := (keeps_ite (State.slvShowSlot_keeps _ _ (keeps_slv hz _))
  (keeps_foldl (fun _ _ h2_ => (State.slvShowSlot_keeps _ _ h2_))
  (keeps_slv hz _)))
  try clear_value x1_
  revert x1_
  refine keeps_id ?_
  intro x1_ h1_
  exact (State.post_keeps _ _ _ _ _ _ h1_)

theorem State.slvAskClear_keeps {z : State} (s : State) (k : Nat) (master : Nat) (hz : Keeps z s) :
    Keeps z (State.slvAskClear s k master) := by
  unfold State.slvAskClear
  extract_lets +onlyGivenNames x0_
  have h0_ : Keeps z x0_ := (keeps_ite (State.banSend_keeps _ _ _ hz)
  hz)
  try clear_value x0_
  revert x0_
  refine keeps_id ?_
  intro x0_ h0_
  exact (keeps_ite (keeps_slv h0_ _)
  (State.slvClear_keeps _ _ _ h0_))

theorem State.slvPermit_keeps {z : State} (s : State) (p : SlvPermit) (hz : Keeps z s) :
    ∀ t, s.slvPermit p = some t → Keeps z t := by
  intro t e
  unfold State.slvPermit at e
  dsimp only at e
  split at e
  · split at e
    · cases e
      exact State.slvTake_keeps _ _ _ _ hz
    · cases e
  · cases e
  · cases e
    exact keeps_ite (State.slvIterate_keeps _ _ _ _ hz) hz
  · cases e
    exact keeps_ite (State.slvStop_keeps _ _ hz) hz
  · split at e
    · cases e
    · cases e
      exact hz
  · cases e
    exact State.slvAskClear_keeps _ _ _ hz
  · cases e
    exact hz

theorem State.slvDrain_keeps {z : State} (s : State) (n : Nat) (hz : Keeps z s) : Keeps z (State.slvDrain s n) := by
  induction n generalizing s with
  | zero => exact hz
  | succ n ih =>
    unfold State.slvDrain
    split
    · exact hz
    · split
      · rename_i e
        exact ih _ (keeps_slv (State.slvPermit_keeps _ _ hz _ e) _)
      · exact hz

theorem State.slvFollow_keeps {z : State} (s : State) (hz : Keeps z s) :
    Keeps z (State.slvFollow s) := by
  unfold State.slvFollow
  exact (State.slvDrain_keeps _ _ hz)

theorem State.permitTake_keeps {z : State} (s : State) (p : SlvPermit) (hz : Keeps z s) :
    Keeps z (State.permitTake s p) := by
  unfold State.permitTake
  exact (keeps_ite (by
    extract_lets +onlyGivenNames x0_
    extract_lets +onlyGivenNames x1_
    have h1_ : Keeps z x1_ := (keeps_slv hz _)
    try clear_value x1_
    revert x1_
    refine keeps_id ?_
    intro x1_ h1_
    exact (State.wr_keeps _ _ _ (State.slvFollow_keeps _ h1_)))
  hz)

theorem State.slvStore_keeps {z : State} (s : State) (r : SlvRequest) (b : SlvIterate) (hz : Keeps z s) :
    Keeps z (State.slvStore s r b) := by
  unfold State.slvStore
  exact (keeps_ite hz
  (by
    extract_lets +onlyGivenNames x0_
    extract_lets +onlyGivenNames x1_
    exact (State.slvShowSlot_keeps _ _ (keeps_slv hz _))))

theorem State.slvAwait_keeps {z : State} (s : State) (hz : Keeps z s) :
    Keeps z (State.slvAwait s) := by
  unfold State.slvAwait
  extract_lets +onlyGivenNames x0_
  exact (State.wrB_keeps _ _ _ hz)

theorem execSolverPowerGate_keeps {z : State} (s : State) (hz : Keeps z s) :
    KeepsA z (execSolverPowerGate s) := by
  unfold execSolverPowerGate
  exact (keeps_iteA (by
    extract_lets +onlyGivenNames x0_
    have h0_ : Keeps z x0_ := (keeps_frc hz _)
    try clear_value x0_
    revert x0_
    refine keeps_id ?_
    intro x0_ h0_
    exact (keepsA_next (State.setGate_keeps _ _ _ (State.wr_keeps _ _ _ h0_))))
  (keepsA_next hz))

theorem State.slvSend_keeps {z : State} (s : State) (kind : Nat) (sq : Nat) (rest : List Byte) (hz : Keeps z s) :
    Keeps z (State.slvSend s kind sq rest) := by
  unfold State.slvSend
  exact (keeps_ite (State.banSend_keeps _ _ _ hz)
  hz)

theorem State.slvLock_keeps {z : State} (s : State) (hz : Keeps z s) :
    Keeps z (State.slvLock s) := by
  unfold State.slvLock
  exact (keeps_ite hz
  (by
    extract_lets +onlyGivenNames x0_
    extract_lets +onlyGivenNames x1_
    have h1_ : Keeps z x1_ := (keeps_upd ⟨rfl, rfl, rfl, rfl, rfl, rfl, rfl, rfl⟩ hz)
    try clear_value x1_
    revert x1_
    refine keeps_id ?_
    intro x1_ h1_
    extract_lets +onlyGivenNames x2_
    have h2_ : Keeps z x2_ := (keeps_foldl (fun _ _ h3_ => (by
      split
      · exact (State.wr_keeps _ _ _ (State.wr_keeps _ _ _ h3_))
      · exact (State.wr_keeps _ _ _ h3_)))
    h1_)
    try clear_value x2_
    revert x2_
    refine keeps_id ?_
    intro x2_ h2_
    exact (keeps_foldl (fun _ _ h4_ => (State.slvShowSlot_keeps _ _ h4_))
    h2_)))

theorem State.slvSendTake_keeps {z : State} (s : State) (r : SlvRequest) (hz : Keeps z s) :
    Keeps z (State.slvSendTake s r) := by
  unfold State.slvSendTake
  exact (State.slvSend_keeps _ _ _ _ hz)

theorem State.slvSendIterate_keeps {z : State} (s : State) (n : Nat) (r : SlvRequest) (hz : Keeps z s) :
    Keeps z (State.slvSendIterate s n r) := by
  unfold State.slvSendIterate
  exact (State.slvSend_keeps _ _ _ _ hz)

theorem State.slvCode_keeps {z : State} (s : State) (r : SlvRequest) (status : Nat) (detail : Nat) (hz : Keeps z s) :
    Keeps z (State.slvCode s r status detail) := by
  unfold State.slvCode
  extract_lets +onlyGivenNames x0_
  exact (keeps_ite (State.post_keeps _ _ _ _ _ _ (State.bump_keeps _ _ (State.wr_keeps _ _ _ hz)))
  (keeps_ite (State.post_keeps _ _ _ _ _ _ hz)
  (keeps_ite (State.post_keeps _ _ _ _ _ _ hz)
  (keeps_ite (State.post_keeps _ _ _ _ _ _ hz)
  (keeps_ite (State.post_keeps _ _ _ _ _ _ hz)
  (keeps_ite (State.post_keeps _ _ _ _ _ _ hz)
  hz))))))

theorem State.slvCmdWrite_keeps {z : State} (s : State) (m : Master) (v : Nat) (hz : Keeps z s) :
    Keeps z (State.slvCmdWrite s m v) := by
  unfold State.slvCmdWrite
  exact (keeps_ite hz
  (State.slvAskClear_keeps _ _ _ hz))

theorem execSlotClear_keeps {z : State} (m : Master) (slot : Fin 16) (s : State) (hz : Keeps z s) :
    KeepsA z (execSlotClear m slot s) := by
  unfold execSlotClear
  exact (keepsA_next (State.access_keeps _ _ _ _ _ _ hz (fun _ h0_ => (State.slvCmdWrite_keeps _ _ _ h0_))))

theorem execSlotClearAll_keeps {z : State} (m : Master) (s : State) (hz : Keeps z s) :
    KeepsA z (execSlotClearAll m s) := by
  unfold execSlotClearAll
  exact (keepsA_next (State.access_keeps _ _ _ _ _ _ hz (fun _ h0_ => (State.slvCmdWrite_keeps _ _ _ h0_))))

theorem State.slvComplete_keeps {z : State} (s : State) (r : SlvRequest) (done : Nat) (status : Nat) (detail : Nat) (hz : Keeps z s) :
    Keeps z (State.slvComplete s r done status detail) := by
  unfold State.slvComplete
  extract_lets +onlyGivenNames x0_
  extract_lets +onlyGivenNames x1_
  extract_lets +onlyGivenNames x2_
  extract_lets +onlyGivenNames x3_
  extract_lets +onlyGivenNames x4_
  extract_lets +onlyGivenNames x5_
  extract_lets +onlyGivenNames x6_
  extract_lets +onlyGivenNames x7_
  have h7_ : Keeps z x7_ := (State.setBytes_keeps _ _ _ hz)
  try clear_value x7_
  revert x7_
  refine keeps_id ?_
  intro x7_ h7_
  extract_lets +onlyGivenNames x8_
  have h8_ : Keeps z x8_ := (State.txDone_keeps _ _ _ _ h7_)
  try clear_value x8_
  revert x8_
  refine keeps_id ?_
  intro x8_ h8_
  extract_lets +onlyGivenNames x9_
  have h9_ : Keeps z x9_ := by
    subst x9_
    exact (by
      clear_value x0_
      split
      · exact (State.slvStore_keeps _ _ _ h8_)
      · exact h8_)
  try clear_value x9_
  revert x9_
  refine keeps_id ?_
  intro x9_ h9_
  extract_lets +onlyGivenNames x10_
  extract_lets +onlyGivenNames x11_
  have h11_ : Keeps z x11_ := (State.bump_keeps _ _ (State.slvCode_keeps _ _ _ _ h9_))
  try clear_value x11_
  revert x11_
  refine keeps_id ?_
  intro x11_ h11_
  extract_lets +onlyGivenNames x12_
  have h12_ : Keeps z x12_ := (State.wr_keeps _ _ _ (State.wr_keeps _ _ _ (State.wr_keeps _ _ _ (State.wr_keeps _ _ _ h11_))))
  try clear_value x12_
  revert x12_
  refine keeps_id ?_
  intro x12_ h12_
  extract_lets +onlyGivenNames x13_
  have h13_ : Keeps z x13_ := (State.wr_keeps _ _ _ (State.wr_keeps _ _ _ h12_))
  try clear_value x13_
  revert x13_
  refine keeps_id ?_
  intro x13_ h13_
  extract_lets +onlyGivenNames x14_
  have h14_ : Keeps z x14_ := (State.wr_keeps _ _ _ (State.wr_keeps _ _ _ h13_))
  try clear_value x14_
  revert x14_
  refine keeps_id ?_
  intro x14_ h14_
  extract_lets +onlyGivenNames x15_
  extract_lets +onlyGivenNames x16_
  extract_lets +onlyGivenNames x17_
  extract_lets +onlyGivenNames x18_
  have h18_ : Keeps z x18_ := (keeps_ite (State.banSend_keeps _ _ _ h14_)
  (State.logEntry_keeps _ _ h14_))
  try clear_value x18_
  revert x18_
  refine keeps_id ?_
  intro x18_ h18_
  extract_lets +onlyGivenNames x19_
  extract_lets +onlyGivenNames x20_
  have h20_ : Keeps z x20_ := (keeps_ban h18_ _ rfl)
  try clear_value x20_
  revert x20_
  refine keeps_id ?_
  intro x20_ h20_
  extract_lets +onlyGivenNames x21_
  extract_lets +onlyGivenNames x22_
  have h22_ : Keeps z x22_ := (keeps_slv h20_ _)
  try clear_value x22_
  revert x22_
  refine keeps_id ?_
  intro x22_ h22_
  exact (keeps_foldl (fun _ _ h23_ => (State.slvClear_keeps _ _ _ h23_))
  (State.wr_keeps _ _ _ h22_))

theorem execSolverComplete_keeps {z : State} (s : State) (hz : Keeps z s) :
    KeepsA z (execSolverComplete s) := by
  unfold execSolverComplete
  exact (by
    split
    · exact (by
        split
        · exact (keeps_iteA (keepsA_next hz)
          (keeps_iteA (by
            extract_lets +onlyGivenNames x0_
            exact (keepsA_next (State.slvComplete_keeps _ _ _ _ _ (State.slvSend_keeps _ _ _ _ hz))))
          (keeps_iteA (by
            split
            · extract_lets +onlyGivenNames x1_
              have h1_ : Keeps z x1_ := (State.slvComplete_keeps _ _ _ _ _ hz)
              try clear_value x1_
              revert x1_
              refine keeps_id ?_
              intro x1_ h1_
              exact (keepsA_next (State.slvFollow_keeps _ (keeps_slv h1_ _)))
            · exact (keepsA_next hz))
          (keepsA_next hz))))
        · exact (keepsA_next hz))
    · exact (keepsA_next hz))

end Sys2Proof.Machine
end

