-- ==== Sys2Proof/Laws/KeepsStairway.lean ====
section
/-!
SUPPORT. What the operations of Machine/Stairway.lean keep (Laws/Keeps.lean).
-/
namespace Sys2Proof.Machine

theorem State.setRioLink_keeps {z : State} (s : State) (l : Nat) (x : RioLink) (hz : Keeps z s) :
    Keeps z (State.setRioLink s l x) := by
  unfold State.setRioLink
  exact (keeps_rio hz _)

theorem State.rioCount_keeps {z : State} (s : State) (l : Nat) (hz : Keeps z s) :
    Keeps z (State.rioCount s l) := by
  unfold State.rioCount
  exact (State.wr_keeps _ _ _ hz)

theorem State.rioRole_keeps {z : State} (s : State) (l : Nat) (hz : Keeps z s) :
    Keeps z (State.rioRole s l) := by
  unfold State.rioRole
  exact (keeps_ite (State.wr_keeps _ _ _ hz)
  hz)

theorem execStairwayTurnaround_keeps {z : State} (l : Fin 8) (payload : List Byte) (s : State) (hz : Keeps z s) :
    KeepsA z (execStairwayTurnaround l payload s) := by
  unfold execStairwayTurnaround
  exact (keeps_iteA (by
    extract_lets +onlyGivenNames x0_
    exact (keepsA_next (State.setRioLink_keeps _ _ _ hz)))
  (keepsA_next hz))

theorem State.rioUnreturned_keeps {z : State} (s : State) (l : Nat) (w : Option Nat) (hz : Keeps z s) :
    Keeps z (State.rioUnreturned s l w) := by
  unfold State.rioUnreturned
  exact (keeps_ite (State.bump_keeps _ _ hz)
  hz)

theorem execOutputReturn_keeps {z : State} (l : Fin 8) (fcsGood : Bool) (payload : List Byte) (s : State) (hz : Keeps z s) :
    KeepsA z (execOutputReturn l fcsGood payload s) := by
  unfold execOutputReturn
  exact (by
    split
    · exact (keepsA_next hz)
    · extract_lets +onlyGivenNames x0_
      extract_lets +onlyGivenNames x1_
      have h1_ : Keeps z x1_ := (State.setRioLink_keeps _ _ _ hz)
      try clear_value x1_
      revert x1_
      refine keeps_id ?_
      intro x1_ h1_
      exact (keeps_iteA (keepsA_next (State.wr_keeps _ _ _ h1_))
      (keepsA_next (State.bump_keeps _ _ h1_))))

theorem State.rioOutput_keeps {z : State} (s : State) (l : Nat) (safe : Bool) (data : Nat → List Byte) (hz : Keeps z s) :
    Keeps z (State.rioOutput s l safe data) := by
  unfold State.rioOutput
  exact (keeps_ite (by
    extract_lets +onlyGivenNames x0_
    have h0_ : Keeps z x0_ := (State.rioUnreturned_keeps _ _ _ hz)
    try clear_value x0_
    revert x0_
    refine keeps_id ?_
    intro x0_ h0_
    extract_lets +onlyGivenNames x1_
    have h1_ : Keeps z x1_ := (State.rioUnreturned_keeps _ _ _ h0_)
    try clear_value x1_
    revert x1_
    refine keeps_id ?_
    intro x1_ h1_
    extract_lets +onlyGivenNames x2_
    extract_lets +onlyGivenNames x3_
    exact (State.setRioLink_keeps _ _ _ h1_))
  hz)

theorem State.rioJoin_keeps {z : State} (s : State) (l : Nat) (hz : Keeps z s) :
    Keeps z (State.rioJoin s l) := by
  unfold State.rioJoin
  exact (keeps_ite (State.rioRole_keeps _ _ (State.setRioLink_keeps _ _ _ hz))
  hz)

theorem execPollSend_keeps {z : State} (l : Fin 8) (s : State) (hz : Keeps z s) :
    KeepsA z (execPollSend l s) := by
  unfold execPollSend
  extract_lets +onlyGivenNames x0_
  exact (keeps_iteA (by
    extract_lets +onlyGivenNames x1_
    have h1_ : Keeps z x1_ := (keeps_frc hz _)
    try clear_value x1_
    revert x1_
    refine keeps_id ?_
    intro x1_ h1_
    extract_lets +onlyGivenNames x2_
    have h2_ : Keeps z x2_ := (State.rioUnreturned_keeps _ _ _ h1_)
    try clear_value x2_
    revert x2_
    refine keeps_id ?_
    intro x2_ h2_
    extract_lets +onlyGivenNames x3_
    exact (keepsA_next (State.setRioLink_keeps _ _ _ h2_)))
  (keepsA_next hz))

theorem execStairwayLinkChange_keeps {z : State} (l : Fin 8) (up : Bool) (s : State) (hz : Keeps z s) :
    KeepsA z (execStairwayLinkChange l up s) := by
  unfold execStairwayLinkChange
  exact (keeps_iteA (keepsA_next hz)
  (keepsA_next (State.post_keeps _ _ _ _ _ _ (State.wrB_keeps _ _ _ hz))))

theorem execPollReturn_keeps {z : State} (l : Fin 8) (fcsGood : Bool) (rtt : Nat) (payload : List Byte) (s : State) (hz : Keeps z s) :
    KeepsA z (execPollReturn l fcsGood rtt payload s) := by
  unfold execPollReturn
  exact (by
    split
    · exact (keepsA_next hz)
    · extract_lets +onlyGivenNames x0_
      extract_lets +onlyGivenNames x1_
      have h1_ : Keeps z x1_ := (keeps_frc hz _)
      try clear_value x1_
      revert x1_
      refine keeps_id ?_
      intro x1_ h1_
      extract_lets +onlyGivenNames x2_
      extract_lets +onlyGivenNames x3_
      have h3_ : Keeps z x3_ := (State.setRioLink_keeps _ _ _ h1_)
      try clear_value x3_
      revert x3_
      refine keeps_id ?_
      intro x3_ h3_
      exact (keeps_iteA (keepsA_next (State.bump_keeps _ _ h3_))
      (by
        extract_lets +onlyGivenNames x4_
        have h4_ : Keeps z x4_ := (State.wr_keeps _ _ _ h3_)
        try clear_value x4_
        revert x4_
        refine keeps_id ?_
        intro x4_ h4_
        exact (keeps_iteA (keepsA_next (State.post_keeps _ _ _ _ _ _ (State.bump_keeps _ _ h4_)))
        (by
          extract_lets +onlyGivenNames x5_
          exact (keepsA_next (State.setRioLink_keeps _ _ _ (State.bumpBy_keeps _ _ _ h4_))))))))

theorem State.rioLatchStation_keeps {z : State} (s : State) (l : Nat) (ret : Option (List Byte)) (a : Nat) (hz : Keeps z s) :
    Keeps z (State.rioLatchStation s l ret a) := by
  unfold State.rioLatchStation
  extract_lets +onlyGivenNames x0_
  extract_lets +onlyGivenNames x1_
  extract_lets +onlyGivenNames x2_
  exact (keeps_ite (by
    extract_lets +onlyGivenNames x3_
    extract_lets +onlyGivenNames x4_
    extract_lets +onlyGivenNames x5_
    extract_lets +onlyGivenNames x6_
    extract_lets +onlyGivenNames x7_
    have h7_ : Keeps z x7_ := (State.setRioLink_keeps _ _ _ hz)
    try clear_value x7_
    revert x7_
    refine keeps_id ?_
    intro x7_ h7_
    extract_lets +onlyGivenNames x8_
    have h8_ : Keeps z x8_ := (State.wrB_keeps _ _ _ (State.wr_keeps _ _ _ (State.wr_keeps _ _ _ h7_)))
    try clear_value x8_
    revert x8_
    refine keeps_id ?_
    intro x8_ h8_
    exact (keeps_ite (State.post_keeps _ _ _ _ _ _ h8_)
    h8_))
  (by
    extract_lets +onlyGivenNames x9_
    extract_lets +onlyGivenNames x10_
    extract_lets +onlyGivenNames x11_
    have h11_ : Keeps z x11_ := (State.setRioLink_keeps _ _ _ hz)
    try clear_value x11_
    revert x11_
    refine keeps_id ?_
    intro x11_ h11_
    extract_lets +onlyGivenNames x12_
    have h12_ : Keeps z x12_ := (State.wr_keeps _ _ _ h11_)
    try clear_value x12_
    revert x12_
    refine keeps_id ?_
    intro x12_ h12_
    exact (keeps_ite (State.post_keeps _ _ _ _ _ _ (State.wr_keeps _ _ _ h12_))
    h12_)))

theorem State.rioLatch_keeps {z : State} (s : State) (l : Nat) (hz : Keeps z s) :
    Keeps z (State.rioLatch s l) := by
  unfold State.rioLatch
  exact (keeps_ite hz
  (by
    extract_lets +onlyGivenNames x0_
    extract_lets +onlyGivenNames x1_
    extract_lets +onlyGivenNames x2_
    have h2_ : Keeps z x2_ := (State.setRioLink_keeps _ _ _ hz)
    try clear_value x2_
    revert x2_
    refine keeps_id ?_
    intro x2_ h2_
    exact (State.rioCount_keeps _ _ (keeps_foldl (fun _ _ h3_ => (State.rioLatchStation_keeps _ _ _ _ h3_))
    h2_))))

theorem State.rioIdent_keeps {z : State} (s : State) (l : Nat) (payload : List Byte) (cycle : Nat) (a : Nat) (hz : Keeps z s) :
    Keeps z (State.rioIdent s l payload cycle a) := by
  unfold State.rioIdent
  extract_lets +onlyGivenNames x0_
  extract_lets +onlyGivenNames x1_
  extract_lets +onlyGivenNames x2_
  extract_lets +onlyGivenNames x3_
  extract_lets +onlyGivenNames x4_
  extract_lets +onlyGivenNames x5_
  exact (keeps_ite hz
  (keeps_ite (by
    extract_lets +onlyGivenNames x6_
    have h6_ : Keeps z x6_ := (keeps_foldl (fun _ _ h7_ => (State.wr_keeps _ _ _ h7_))
    hz)
    try clear_value x6_
    revert x6_
    refine keeps_id ?_
    intro x6_ h6_
    extract_lets +onlyGivenNames x8_
    have h8_ : Keeps z x8_ := (State.wr_keeps _ _ _ (State.wr_keeps _ _ _ h6_))
    try clear_value x8_
    revert x8_
    refine keeps_id ?_
    intro x8_ h8_
    extract_lets +onlyGivenNames x9_
    extract_lets +onlyGivenNames x10_
    extract_lets +onlyGivenNames x11_
    have h11_ : Keeps z x11_ := (State.setRioLink_keeps _ _ _ h8_)
    try clear_value x11_
    revert x11_
    refine keeps_id ?_
    intro x11_ h11_
    exact (State.post_keeps _ _ _ _ _ _ h11_))
  (keeps_ite hz
  (State.post_keeps _ _ _ _ _ _ (State.wr_keeps _ _ _ hz)))))

theorem execIdentReturn_keeps {z : State} (l : Fin 8) (fcsGood : Bool) (payload : List Byte) (s : State) (hz : Keeps z s) :
    KeepsA z (execIdentReturn l fcsGood payload s) := by
  unfold execIdentReturn
  exact (by
    split
    · exact (keepsA_next hz)
    · extract_lets +onlyGivenNames x0_
      extract_lets +onlyGivenNames x1_
      have h1_ : Keeps z x1_ := (State.setRioLink_keeps _ _ _ hz)
      try clear_value x1_
      revert x1_
      refine keeps_id ?_
      intro x1_ h1_
      exact (keeps_iteA (keepsA_next (State.rioCount_keeps _ _ (keeps_foldl (fun _ _ h2_ => (State.rioIdent_keeps _ _ _ _ _ h2_))
      h1_)))
      (keepsA_next (State.bump_keeps _ _ h1_))))

end Sys2Proof.Machine
end

