-- ==== Sys2Proof/Laws/KeepsScanBase.lean ====
section
/-!
SUPPORT. What the operations of Machine/ScanBase.lean keep (Laws/Keeps.lean).
-/
namespace Sys2Proof.Machine

theorem State.forceVars_keeps {z : State} (s : State) (t : Nat) (hz : Keeps z s) :
    Keeps z (State.forceVars s t) := by
  unfold State.forceVars
  extract_lets +onlyGivenNames x0_
  exact (keeps_scn hz _)

theorem State.setTask_keeps {z : State} (s : State) (t : Nat) (x : ScanTask) (hz : Keeps z s) :
    Keeps z (State.setTask s t x) := by
  unfold State.setTask
  exact (keeps_scn hz _)

theorem State.coreCount_keeps {z : State} (s : State) (c : Nat) (hz : Keeps z s) :
    Keeps z (State.coreCount s c) := by
  unfold State.coreCount
  extract_lets +onlyGivenNames x0_
  extract_lets +onlyGivenNames x1_
  have h1_ : Keeps z x1_ := by
    subst x1_
    exact (by
      split
      · exact (State.setTask_keeps _ _ _ hz)
      · exact hz)
  try clear_value x1_
  revert x1_
  refine keeps_id ?_
  intro x1_ h1_
  exact (keeps_scn h1_ _)

theorem State.latchOut_keeps {z : State} (s : State) (t : Nat) (hz : Keeps z s) :
    Keeps z (State.latchOut s t) := by
  unfold State.latchOut
  exact (State.forceVars_keeps _ _ (State.setTask_keeps _ _ _ hz))

theorem State.setTaskState_keeps {z : State} (s : State) (t : Nat) (st : Nat) (hz : Keeps z s) :
    Keeps z (State.setTaskState s t st) := by
  unfold State.setTaskState
  exact (State.wr_keeps _ _ _ hz)

theorem State.commitLink_keeps {z : State} (s : State) (safe : Bool) (img : List Byte) (l : Nat) (hz : Keeps z s) :
    Keeps z (State.commitLink s safe img l) := by
  unfold State.commitLink
  extract_lets +onlyGivenNames x0_
  exact (State.rioOutput_keeps _ _ _ _ hz)

theorem State.scnHalt_keeps {z : State} (s : State) (hz : Keeps z s) :
    Keeps z (State.scnHalt s) := by
  unfold State.scnHalt
  extract_lets +onlyGivenNames x0_
  have h0_ : Keeps z x0_ := (keeps_ite hz
  (State.post_keeps _ _ _ _ _ _ hz))
  try clear_value x0_
  revert x0_
  refine keeps_id ?_
  intro x0_ h0_
  extract_lets +onlyGivenNames x1_
  have h1_ : Keeps z x1_ := (State.wr_keeps _ _ _ (State.wr_keeps _ _ _ h0_))
  try clear_value x1_
  revert x1_
  refine keeps_id ?_
  intro x1_ h1_
  extract_lets +onlyGivenNames x2_
  have h2_ : Keeps z x2_ := (keeps_foldl (fun _ _ h3_ => (State.setTaskState_keeps _ _ _ (State.setTask_keeps _ _ _ h3_)))
  h1_)
  try clear_value x2_
  revert x2_
  refine keeps_id ?_
  intro x2_ h2_
  exact (keeps_scn h2_ _)

theorem State.taskMiss_keeps {z : State} (s : State) (t : Nat) (how2' : Nat) (hz : Keeps z s) :
    Keeps z (State.taskMiss s t how2') := by
  unfold State.taskMiss
  extract_lets +onlyGivenNames x0_
  extract_lets +onlyGivenNames x1_
  have h1_ : Keeps z x1_ := (State.wr_keeps _ _ _ (State.bump_keeps _ _ hz))
  try clear_value x1_
  revert x1_
  refine keeps_id ?_
  intro x1_ h1_
  extract_lets +onlyGivenNames x2_
  exact (State.post_keeps _ _ _ _ _ _ (State.setTask_keeps _ _ _ h1_))

theorem State.joinFailed_keeps {z : State} (s : State) (reason : Nat) (hz : Keeps z s) :
    Keeps z (State.joinFailed s reason) := by
  unfold State.joinFailed
  extract_lets +onlyGivenNames x0_
  have h0_ : Keeps z x0_ := (State.wr_keeps _ _ _ (State.wr_keeps _ _ _ hz))
  try clear_value x0_
  revert x0_
  refine keeps_id ?_
  intro x0_ h0_
  exact (State.scnHalt_keeps _ (keeps_ban h0_ _ rfl))

theorem State.joinEnd_keeps {z : State} (s : State) (reason : Nat) (hz : Keeps z s) :
    Keeps z (State.joinEnd s reason) := by
  unfold State.joinEnd
  exact (by
    split
    · exact hz
    · extract_lets +onlyGivenNames x0_
      have h0_ : Keeps z x0_ := (State.post_keeps _ _ _ _ _ _ hz)
      try clear_value x0_
      revert x0_
      refine keeps_id ?_
      intro x0_ h0_
      exact (keeps_ite (by
        extract_lets +onlyGivenNames x1_
        have h1_ : Keeps z x1_ := (State.banSend_keeps _ _ _ h0_)
        try clear_value x1_
        revert x1_
        refine keeps_id ?_
        intro x1_ h1_
        extract_lets +onlyGivenNames x2_
        have h2_ : Keeps z x2_ := (State.wr_keeps _ _ _ (State.wr_keeps _ _ _ h1_))
        try clear_value x2_
        revert x2_
        refine keeps_id ?_
        intro x2_ h2_
        exact (keeps_ban h2_ _ rfl))
      (State.joinFailed_keeps _ _ h0_)))

theorem State.latchOwn_keeps {z : State} (s : State) (t : Nat) (hz : Keeps z s) :
    Keeps z (State.latchOwn s t) := by
  unfold State.latchOwn
  extract_lets +onlyGivenNames x0_
  have h0_ : Keeps z x0_ := (keeps_foldl (fun _ _ h1_ => (State.rioLatch_keeps _ _ h1_))
  hz)
  try clear_value x0_
  revert x0_
  refine keeps_id ?_
  intro x0_ h0_
  extract_lets +onlyGivenNames x2_
  extract_lets +onlyGivenNames x3_
  have h3_ : Keeps z x3_ := (keeps_foldl (fun _ _ h4_ => (keeps_ite h4_
  (State.loopLatched_keeps _ _ h4_)))
  h0_)
  try clear_value x3_
  revert x3_
  refine keeps_id ?_
  intro x3_ h3_
  exact (State.latchOut_keeps _ _ (State.setTask_keeps _ _ _ h3_))

theorem State.joinAbort_keeps {z : State} (s : State) (hz : Keeps z s) :
    Keeps z (State.joinAbort s) := by
  unfold State.joinAbort
  exact (State.joinEnd_keeps _ _ hz)

theorem State.commitChan_keeps {z : State} (s : State) (safe : Bool) (img : List Byte) (n : Nat) (hz : Keeps z s) :
    Keeps z (State.commitChan s safe img n) := by
  unfold State.commitChan
  extract_lets +onlyGivenNames x0_
  extract_lets +onlyGivenNames x1_
  exact (keeps_ite hz
  (by
    split
    · exact (State.setOut_keeps _ _ _ _ hz)
    · exact (keeps_ite hz
      (keeps_ite (State.setOut_keeps _ _ _ _ hz)
      (keeps_ite hz
      (State.setOut_keeps _ _ _ _ hz))))))

theorem State.releaseAll_keeps {z : State} (s : State) (hz : Keeps z s) :
    Keeps z (State.releaseAll s) := by
  unfold State.releaseAll
  exact (State.pgnReleaseAll_keeps _ (State.queReleaseAll_keeps _ hz))

theorem State.commitOut_keeps {z : State} (s : State) (t : Nat) (hz : Keeps z s) :
    Keeps z (State.commitOut s t) := by
  unfold State.commitOut
  extract_lets +onlyGivenNames x0_
  extract_lets +onlyGivenNames x1_
  extract_lets +onlyGivenNames x2_
  have h2_ : Keeps z x2_ := (keeps_foldl (fun _ _ h3_ => (State.commitChan_keeps _ _ _ _ h3_))
  hz)
  try clear_value x2_
  revert x2_
  refine keeps_id ?_
  intro x2_ h2_
  extract_lets +onlyGivenNames x4_
  have h4_ : Keeps z x4_ := (State.loopTake_keeps _ _ _ _ h2_)
  try clear_value x4_
  revert x4_
  refine keeps_id ?_
  intro x4_ h4_
  extract_lets +onlyGivenNames x5_
  have h5_ : Keeps z x5_ := (State.axCommit_keeps _ _ _ _ h4_)
  try clear_value x5_
  revert x5_
  refine keeps_id ?_
  intro x5_ h5_
  extract_lets +onlyGivenNames x6_
  have h6_ : Keeps z x6_ := (keeps_foldl (fun _ _ h7_ => (State.commitLink_keeps _ _ _ _ h7_))
  h5_)
  try clear_value x6_
  revert x6_
  refine keeps_id ?_
  intro x6_ h6_
  exact (State.canCommit_keeps _ _ h6_)

theorem State.commitOwn_keeps {z : State} (s : State) (t : Nat) (hz : Keeps z s) :
    Keeps z (State.commitOwn s t) := by
  unfold State.commitOwn
  extract_lets +onlyGivenNames x0_
  extract_lets +onlyGivenNames x1_
  have h1_ : Keeps z x1_ := (State.setTask_keeps _ _ _ hz)
  try clear_value x1_
  revert x1_
  refine keeps_id ?_
  intro x1_ h1_
  exact (State.commitOut_keeps _ _ (State.forceVars_keeps _ _ h1_))

theorem State.commitSafe_keeps {z : State} (s : State) (t : Nat) (hz : Keeps z s) :
    Keeps z (State.commitSafe s t) := by
  unfold State.commitSafe
  exact (State.commitOut_keeps _ _ (State.forceVars_keeps _ _ (State.setTask_keeps _ _ _ hz)))

theorem State.taskLimitStop_keeps {z : State} (s : State) (t : Nat) (hz : Keeps z s) :
    Keeps z (State.taskLimitStop s t) := by
  unfold State.taskLimitStop
  extract_lets +onlyGivenNames x0_
  have h0_ : Keeps z x0_ := (State.coreCount_keeps _ _ hz)
  try clear_value x0_
  revert x0_
  refine keeps_id ?_
  intro x0_ h0_
  extract_lets +onlyGivenNames x1_
  extract_lets +onlyGivenNames x2_
  extract_lets +onlyGivenNames x3_
  have h3_ : Keeps z x3_ := (State.setTask_keeps _ _ _ h0_)
  try clear_value x3_
  revert x3_
  refine keeps_id ?_
  intro x3_ h3_
  extract_lets +onlyGivenNames x4_
  have h4_ : Keeps z x4_ := (keeps_ite (State.wr_keeps _ _ _ h3_)
  h3_)
  try clear_value x4_
  revert x4_
  refine keeps_id ?_
  intro x4_ h4_
  extract_lets +onlyGivenNames x5_
  have h5_ : Keeps z x5_ := (State.setTaskState_keeps _ _ _ h4_)
  try clear_value x5_
  revert x5_
  refine keeps_id ?_
  intro x5_ h5_
  exact (State.commitSafe_keeps _ _ (State.post_keeps _ _ _ _ _ _ h5_))

end Sys2Proof.Machine
end

