-- ==== Sys2Proof/Laws/KeepsProgram.lean ====
section
/-!
SUPPORT. What the operations of Machine/Program.lean keep (Laws/Keeps.lean).
-/
namespace Sys2Proof.Machine

theorem State.mapInsts_keeps {z : State} (s : State) (f : Inst → Inst) (hz : Keeps z s) :
    Keeps z (State.mapInsts s f) := by
  unfold State.mapInsts
  exact (keeps_scn hz _)

theorem State.varWrite_keeps {z : State} (s : State) (t : Nat) (w : BitVec 32 × List Byte) (hz : Keeps z s) :
    Keeps z (State.varWrite s t w) := by
  unfold State.varWrite
  exact (State.mapInsts_keeps _ _ hz)

theorem State.progShow_keeps {z : State} (s : State) (hz : Keeps z s) :
    Keeps z (State.progShow s) := by
  unfold State.progShow
  exact (keeps_foldl (fun _ _ h0_ => (State.wr_keeps _ _ _ h0_))
  hz)

theorem State.invoke_keeps {z : State} (s : State) (t : Nat) (v : Invoke) (hz : Keeps z s) :
    Keeps z (State.invoke s t v) := by
  unfold State.invoke
  exact (State.mapInsts_keeps _ _ hz)

theorem State.agree_keeps {z : State} (s : State) (c : AgrCmd) (hz : Keeps z s) :
    Keeps z (State.agree s c) := by
  unfold State.agree
  exact (keeps_scn hz _)

theorem State.olcSet_keeps {z : State} (s : State) (st : Nat) (reason : Nat) (hz : Keeps z s) :
    Keeps z (State.olcSet s st reason) := by
  unfold State.olcSet
  exact (State.wr_keeps _ _ _ (State.wr_keeps _ _ _ hz))

theorem State.reinit_keeps {z : State} (s : State) (t : Nat) (hz : Keeps z s) :
    Keeps z (State.reinit s t) := by
  unfold State.reinit
  exact (State.mapInsts_keeps _ _ hz)

theorem State.olcBegin_keeps {z : State} (s : State) (hz : Keeps z s) :
    Keeps z (State.olcBegin s) := by
  unfold State.olcBegin
  extract_lets +onlyGivenNames x0_
  extract_lets +onlyGivenNames x1_
  extract_lets +onlyGivenNames x2_
  extract_lets +onlyGivenNames x3_
  extract_lets +onlyGivenNames x4_
  extract_lets +onlyGivenNames x5_
  have h5_ : Keeps z x5_ := (State.olcSet_keeps _ _ _ hz)
  try clear_value x5_
  revert x5_
  refine keeps_id ?_
  intro x5_ h5_
  exact (keeps_scn h5_ _)

theorem State.forceShow_keeps {z : State} (s : State) (hz : Keeps z s) :
    Keeps z (State.forceShow s) := by
  unfold State.forceShow
  exact (State.wrB_keeps _ _ _ (State.wr_keeps _ _ _ hz))

theorem State.olcCancelAct_keeps {z : State} (s : State) (hz : Keeps z s) :
    Keeps z (State.olcCancelAct s) := by
  unfold State.olcCancelAct
  exact (keeps_ite (by
    extract_lets +onlyGivenNames x0_
    have h0_ : Keeps z x0_ := (State.olcSet_keeps _ _ _ hz)
    try clear_value x0_
    revert x0_
    refine keeps_id ?_
    intro x0_ h0_
    exact (keeps_scn h0_ _))
  hz)

theorem execOlcVerifyDone_keeps {z : State} (s : State) (hz : Keeps z s) :
    KeepsA z (execOlcVerifyDone s) := by
  unfold execOlcVerifyDone
  exact (keeps_iteA (keepsA_next hz)
  (by
    extract_lets +onlyGivenNames x0_
    extract_lets +onlyGivenNames x1_
    extract_lets +onlyGivenNames x2_
    exact (keeps_iteA (keepsA_next (State.olcSet_keeps _ _ _ hz))
    (keepsA_next (State.post_keeps _ _ _ _ _ _ (State.olcSet_keeps _ _ _ hz))))))

theorem State.forceSet_keeps {z : State} (s : State) (tgt : Nat) (type : Nat) (val : Nat) (hz : Keeps z s) :
    Keeps z (State.forceSet s tgt type val) := by
  unfold State.forceSet
  extract_lets +onlyGivenNames x0_
  extract_lets +onlyGivenNames x1_
  exact (keeps_ite (State.wr_keeps _ _ _ hz)
  (by
    extract_lets +onlyGivenNames x2_
    exact (keeps_ite (State.wr_keeps _ _ _ hz)
    (by
      extract_lets +onlyGivenNames x3_
      extract_lets +onlyGivenNames x4_
      have h4_ : Keeps z x4_ := (keeps_scn hz _)
      try clear_value x4_
      revert x4_
      refine keeps_id ?_
      intro x4_ h4_
      exact (State.post_keeps _ _ _ _ _ _ (State.wr_keeps _ _ _ (State.forceShow_keeps _ h4_)))))))

theorem State.forceDrop_keeps {z : State} (s : State) (f : Force) (hz : Keeps z s) :
    Keeps z (State.forceDrop s f) := by
  unfold State.forceDrop
  exact (State.post_keeps _ _ _ _ _ _ (State.forceShow_keeps _ (keeps_scn hz _)))

theorem State.forcesSettle_keeps {z : State} (s : State) (hz : Keeps z s) :
    Keeps z (State.forcesSettle s) := by
  unfold State.forcesSettle
  extract_lets +onlyGivenNames x0_
  extract_lets +onlyGivenNames x1_
  have h1_ : Keeps z x1_ := (keeps_foldl (fun _ _ h2_ => (State.post_keeps _ _ _ _ _ _ h2_))
  hz)
  try clear_value x1_
  revert x1_
  refine keeps_id ?_
  intro x1_ h1_
  extract_lets +onlyGivenNames x3_
  exact (State.forceShow_keeps _ (State.wr_keeps _ _ _ (keeps_scn h1_ _)))

theorem State.forceRelease_keeps {z : State} (s : State) (tgt : Nat) (type : Nat) (hz : Keeps z s) :
    Keeps z (State.forceRelease s tgt type) := by
  unfold State.forceRelease
  extract_lets +onlyGivenNames x0_
  have h0_ : Keeps z x0_ := (State.wr_keeps _ _ _ hz)
  try clear_value x0_
  revert x0_
  refine keeps_id ?_
  intro x0_ h0_
  exact (keeps_ite (State.forceDrop_keeps _ _ h0_)
  h0_)

theorem State.forceReleaseAll_keeps {z : State} (s : State) (hz : Keeps z s) :
    Keeps z (State.forceReleaseAll s) := by
  unfold State.forceReleaseAll
  exact (keeps_foldl (fun _ _ h0_ => (State.forceDrop_keeps _ _ h0_))
  (State.wr_keeps _ _ _ hz))

theorem State.olcSwap_keeps {z : State} (s : State) (hz : Keeps z s) :
    Keeps z (State.olcSwap s) := by
  unfold State.olcSwap
  extract_lets +onlyGivenNames x0_
  extract_lets +onlyGivenNames x1_
  extract_lets +onlyGivenNames x2_
  extract_lets +onlyGivenNames x3_
  extract_lets +onlyGivenNames x4_
  extract_lets +onlyGivenNames x5_
  have h5_ : Keeps z x5_ := (keeps_foldl (fun _ _ h6_ => (State.post_keeps _ _ _ _ _ _ h6_))
  hz)
  try clear_value x5_
  revert x5_
  refine keeps_id ?_
  intro x5_ h5_
  extract_lets +onlyGivenNames x7_
  extract_lets +onlyGivenNames x8_
  extract_lets +onlyGivenNames x9_
  extract_lets +onlyGivenNames x10_
  have h10_ : Keeps z x10_ := (keeps_scn h5_ _)
  try clear_value x10_
  revert x10_
  refine keeps_id ?_
  intro x10_ h10_
  extract_lets +onlyGivenNames x11_
  have h11_ : Keeps z x11_ := (State.olcSet_keeps _ _ _ (State.wr_keeps _ _ _ (State.forcesSettle_keeps _ h10_)))
  try clear_value x11_
  revert x11_
  refine keeps_id ?_
  intro x11_ h11_
  exact (State.post_keeps _ _ _ _ _ _ (State.progShow_keeps _ h11_))

theorem execOlcSwap_keeps {z : State} (s : State) (hz : Keeps z s) :
    KeepsA z (execOlcSwap s) := by
  unfold execOlcSwap
  exact (keeps_iteA (keepsA_next hz)
  (keeps_iteA (keepsA_next (State.olcSwap_keeps _ hz))
  (by
    split
    · exact (keeps_iteA (keepsA_next (State.olcSwap_keeps _ (keeps_frc hz _)))
      (keepsA_next hz))
    · exact (keepsA_next hz))))

theorem State.olcArmAct_keeps {z : State} (s : State) (same : Bool) (first : Nat) (hz : Keeps z s) :
    Keeps z (State.olcArmAct s same first) := by
  unfold State.olcArmAct
  exact (keeps_ite hz
  (by
    extract_lets +onlyGivenNames x0_
    extract_lets +onlyGivenNames x1_
    extract_lets +onlyGivenNames x2_
    exact (keeps_ite (State.post_keeps _ _ _ _ _ _ (State.wr_keeps _ _ _ hz))
    (by
      extract_lets +onlyGivenNames x3_
      have h3_ : Keeps z x3_ := (State.joinAbort_keeps _ hz)
      try clear_value x3_
      revert x3_
      refine keeps_id ?_
      intro x3_ h3_
      extract_lets +onlyGivenNames x4_
      have h4_ : Keeps z x4_ := (State.olcSet_keeps _ _ _ h3_)
      try clear_value x4_
      revert x4_
      refine keeps_id ?_
      intro x4_ h4_
      exact (keeps_scn h4_ _)))))

theorem State.forceAct_keeps {z : State} (s : State) (cmd : Nat) (tgt : Nat) (type : Nat) (val : Nat) (hz : Keeps z s) :
    Keeps z (State.forceAct s cmd tgt type val) := by
  unfold State.forceAct
  exact (keeps_ite (State.forceSet_keeps _ _ _ _ hz)
  (keeps_ite (State.forceRelease_keeps _ _ _ hz)
  (keeps_ite (State.forceReleaseAll_keeps _ hz)
  hz)))

theorem State.olcCmdWrite_keeps {z : State} (s : State) (m : Master) (v : Nat) (same : Bool) (hz : Keeps z s) :
    Keeps z (State.olcCmdWrite s m v same) := by
  unfold State.olcCmdWrite
  extract_lets +onlyGivenNames x0_
  extract_lets +onlyGivenNames x1_
  extract_lets +onlyGivenNames x2_
  exact (keeps_ite hz
  (keeps_ite (State.refuseWrite_keeps _ _ _ hz)
  (keeps_ite (State.olcBegin_keeps _ hz)
  (keeps_ite hz
  (keeps_ite (State.agree_keeps _ _ hz)
  (keeps_ite (State.olcArmAct_keeps _ _ _ hz)
  (State.olcCancelAct_keeps _ hz)))))))

theorem execOlcArm_keeps {z : State} (m : Master) (same : Bool) (s : State) (hz : Keeps z s) :
    KeepsA z (execOlcArm m same s) := by
  unfold execOlcArm
  exact (keepsA_next (State.access_keeps _ _ _ _ _ _ hz (fun _ h0_ => (State.olcCmdWrite_keeps _ _ _ _ h0_))))

theorem State.forceCmdWrite_keeps {z : State} (s : State) (m : Master) (v : Nat) (hz : Keeps z s) :
    Keeps z (State.forceCmdWrite s m v) := by
  unfold State.forceCmdWrite
  extract_lets +onlyGivenNames x0_
  extract_lets +onlyGivenNames x1_
  extract_lets +onlyGivenNames x2_
  exact (keeps_ite hz
  (keeps_ite (State.refuseWrite_keeps _ _ _ hz)
  (keeps_ite hz
  (keeps_ite (State.agree_keeps _ _ hz)
  (State.forceAct_keeps _ _ _ _ _ hz)))))

theorem execOlcVerify_keeps {z : State} (m : Master) (s : State) (hz : Keeps z s) :
    KeepsA z (execOlcVerify m s) := by
  unfold execOlcVerify
  exact (keepsA_next (State.access_keeps _ _ _ _ _ _ hz (fun _ h0_ => (State.olcCmdWrite_keeps _ _ _ _ h0_))))

theorem execForceRelease_keeps {z : State} (m : Master) (s : State) (hz : Keeps z s) :
    KeepsA z (execForceRelease m s) := by
  unfold execForceRelease
  exact (keepsA_next (State.access_keeps _ _ _ _ _ _ hz (fun _ h0_ => (State.forceCmdWrite_keeps _ _ _ h0_))))

theorem execOlcCancel_keeps {z : State} (m : Master) (s : State) (hz : Keeps z s) :
    KeepsA z (execOlcCancel m s) := by
  unfold execOlcCancel
  exact (keepsA_next (State.access_keeps _ _ _ _ _ _ hz (fun _ h0_ => (State.olcCmdWrite_keeps _ _ _ _ h0_))))

theorem execForceReleaseAll_keeps {z : State} (m : Master) (s : State) (hz : Keeps z s) :
    KeepsA z (execForceReleaseAll m s) := by
  unfold execForceReleaseAll
  exact (keepsA_next (State.access_keeps _ _ _ _ _ _ hz (fun _ h0_ => (State.forceCmdWrite_keeps _ _ _ h0_))))

theorem execForceSet_keeps {z : State} (m : Master) (s : State) (hz : Keeps z s) :
    KeepsA z (execForceSet m s) := by
  unfold execForceSet
  exact (keepsA_next (State.access_keeps _ _ _ _ _ _ hz (fun _ h0_ => (State.forceCmdWrite_keeps _ _ _ h0_))))

end Sys2Proof.Machine
end

