-- ==== Sys2Proof/Laws/KeepsSerial.lean ====
section
/-!
SUPPORT. What the operations of Machine/Serial.lean keep (Laws/Keeps.lean).
-/
namespace Sys2Proof.Machine

theorem State.rtuSilence_keeps {z : State} (s : State) (p : Nat) (hz : Keeps z s) :
    Keeps z (State.rtuSilence s p) := by
  unfold State.rtuSilence
  exact (by
    split
    · exact (keeps_ite (keeps_frc hz _)
      hz)
    · exact hz)

theorem State.serDriver_keeps {z : State} (s : State) (p : Nat) (hz : Keeps z s) :
    Keeps z (State.serDriver s p) := by
  unfold State.serDriver
  exact (State.wrB_keeps _ _ _ hz)

theorem State.serLock_keeps {z : State} (s : State) (p : Nat) (hz : Keeps z s) :
    Keeps z (State.serLock s p) := by
  unfold State.serLock
  exact (keeps_ite hz
  (by
    extract_lets +onlyGivenNames x0_
    have h0_ : Keeps z x0_ := (State.wr_keeps _ _ _ hz)
    try clear_value x0_
    revert x0_
    refine keeps_id ?_
    intro x0_ h0_
    exact (State.serDriver_keeps _ _ (State.wr_keeps _ _ _ h0_))))

theorem State.serEndFlight_keeps {z : State} (s : State) (p : Nat) (status : Nat) (detail : Nat) (sent : Nat) (hz : Keeps z s) :
    Keeps z (State.serEndFlight s p status detail sent) := by
  unfold State.serEndFlight
  exact (by
    split
    · extract_lets +onlyGivenNames x0_
      have h0_ : Keeps z x0_ := (keeps_upd ⟨rfl, rfl, rfl, rfl, rfl, rfl, rfl, rfl⟩ hz)
      try clear_value x0_
      revert x0_
      refine keeps_id ?_
      intro x0_ h0_
      exact (State.wr_keeps _ _ _ (State.txDone_keeps _ _ _ _ h0_))
    · exact hz)

theorem execSerTxStart_keeps {z : State} (p : Fin 8) (s : State) (hz : Keeps z s) :
    KeepsA z (execSerTxStart p s) := by
  unfold execSerTxStart
  extract_lets +onlyGivenNames x0_
  exact (keeps_iteA (by
    extract_lets +onlyGivenNames x1_
    have h1_ : Keeps z x1_ := (State.headWait_keeps _ _ hz)
    try clear_value x1_
    revert x1_
    refine keeps_id ?_
    intro x1_ h1_
    extract_lets +onlyGivenNames x2_
    extract_lets +onlyGivenNames x3_
    exact (keeps_iteA (by
      extract_lets +onlyGivenNames x4_
      exact (keepsA_next (State.post_keeps _ _ _ _ _ _ (State.txDone_keeps _ _ _ _ h1_))))
    (by
      extract_lets +onlyGivenNames x5_
      have h5_ : Keeps z x5_ := (State.wake_keeps _ _ (State.rtuSilence_keeps _ _ h1_))
      try clear_value x5_
      revert x5_
      refine keeps_id ?_
      intro x5_ h5_
      exact (keepsA_next (State.wr_keeps _ _ _ (keeps_ser h5_ _))))))
  (keepsA_next hz))

theorem execSerTxComplete_keeps {z : State} (p : Fin 8) (sent : Nat) (echoErr : Bool) (s : State) (hz : Keeps z s) :
    KeepsA z (execSerTxComplete p sent echoErr s) := by
  unfold execSerTxComplete
  exact (keeps_iteA (keepsA_next (State.serEndFlight_keeps _ _ _ _ _ hz))
  (keepsA_next (State.serEndFlight_keeps _ _ _ _ _ hz)))

theorem execSerMessageReceive_keeps {z : State} (p : Fin 8) (x : SerMsg) (s : State) (hz : Keeps z s) :
    KeepsA z (execSerMessageReceive p x s) := by
  unfold execSerMessageReceive
  exact (keeps_iteA (keepsA_next (State.bumpBy_keeps _ _ _ hz))
  (keeps_iteA (keepsA_next hz)
  (by
    extract_lets +onlyGivenNames x0_
    have h0_ : Keeps z x0_ := (State.wake_keeps _ _ (State.bumpBy_keeps _ _ _ hz))
    try clear_value x0_
    revert x0_
    refine keeps_id ?_
    intro x0_ h0_
    extract_lets +onlyGivenNames x1_
    exact (keeps_iteA (keepsA_next h0_)
    (keeps_iteA (keepsA_next (State.rxHold_keeps _ _ _ h0_))
    (keeps_iteA (keepsA_next h0_)
    (by
      extract_lets +onlyGivenNames x2_
      extract_lets +onlyGivenNames x3_
      exact (keeps_iteA (by
        extract_lets +onlyGivenNames x4_
        have h4_ : Keeps z x4_ := (keeps_ite h0_
        (State.post_keeps _ _ _ _ _ _ h0_))
        try clear_value x4_
        revert x4_
        refine keeps_id ?_
        intro x4_ h4_
        extract_lets +onlyGivenNames x5_
        exact (keepsA_next (State.quePush_keeps _ _ _ (State.setRxCount_keeps _ _ _ h4_))))
      (keepsA_next (State.bump_keeps _ _ (State.setRxCount_keeps _ _ _ h0_)))))))))))

theorem State.serAbort_keeps {z : State} (s : State) (p : Nat) (detail : Nat) (hz : Keeps z s) :
    Keeps z (State.serAbort s p detail) := by
  unfold State.serAbort
  exact (keeps_ite hz
  (State.useFree_keeps _ (State.serEndFlight_keeps _ _ _ _ _ hz)))

end Sys2Proof.Machine
end

