-- ==== Sys2Proof/Laws/KeepsPair.lean ====
section
/-!
SUPPORT. What the operations of Machine/Pair.lean keep (Laws/Keeps.lean).
-/
namespace Sys2Proof.Machine

theorem State.foldCrcs_keeps {z : State} (s : State) (hz : Keeps z s) :
    Keeps z (State.foldCrcs s) := by
  unfold State.foldCrcs
  exact (keeps_upd ⟨rfl, rfl, rfl, rfl, rfl, rfl, rfl, rfl⟩ hz)

theorem State.pairOver_keeps {z : State} (s : State) (hz : Keeps z s) :
    Keeps z (State.pairOver s) := by
  unfold State.pairOver
  exact (keeps_upd ⟨rfl, rfl, rfl, rfl, rfl, rfl, rfl, rfl⟩ hz)

theorem State.rollBack_keeps {z : State} (s : State) (limit : Nat → Nat) (keep : Bool) (hz : Keeps z s) :
    Keeps z (State.rollBack s limit keep) := by
  unfold State.rollBack
  exact (keeps_foldl (fun _ _ h0_ => (by
    extract_lets +onlyGivenNames x1_
    exact (keeps_ite (by
      extract_lets +onlyGivenNames x2_
      exact (State.wr_keeps _ _ _ (keeps_ban h0_ _ rfl)))
    (by
      extract_lets +onlyGivenNames x3_
      extract_lets +onlyGivenNames x4_
      have h4_ : Keeps z x4_ := (State.wr_keeps _ _ _ h0_)
      try clear_value x4_
      revert x4_
      refine keeps_id ?_
      intro x4_ h4_
      exact (keeps_ite (keeps_ban h4_ _ rfl)
      h4_)))))
  hz)

theorem State.setPeerRole_keeps {z : State} (s : State) (r : Nat) (hz : Keeps z s) :
    Keeps z (State.setPeerRole s r) := by
  unfold State.setPeerRole
  exact (State.wr_keeps _ _ _ hz)

theorem State.inquiryOver_keeps {z : State} (s : State) (hz : Keeps z s) :
    Keeps z (State.inquiryOver s) := by
  unfold State.inquiryOver
  extract_lets +onlyGivenNames x0_
  have h0_ : Keeps z x0_ := (State.wr_keeps _ _ _ (State.wr_keeps _ _ _ (State.wr_keeps _ _ _ hz)))
  try clear_value x0_
  revert x0_
  refine keeps_id ?_
  intro x0_ h0_
  exact (keeps_ban h0_ _ rfl)

theorem State.digest_keeps {z : State} (s : State) (t : Nat) (flags : Nat) (hz : Keeps z s) :
    Keeps z (State.digest s t flags) := by
  unfold State.digest
  extract_lets +onlyGivenNames x0_
  extract_lets +onlyGivenNames x1_
  have h1_ : Keeps z x1_ := (State.wr64_keeps _ _ _ _ hz)
  try clear_value x1_
  revert x1_
  refine keeps_id ?_
  intro x1_ h1_
  extract_lets +onlyGivenNames x2_
  have h2_ : Keeps z x2_ := (State.banSend_keeps _ _ _ h1_)
  try clear_value x2_
  revert x2_
  refine keeps_id ?_
  intro x2_ h2_
  extract_lets +onlyGivenNames x3_
  exact (keeps_ite h2_
  (keeps_ban h2_ _ rfl))

theorem State.commitAhead_keeps {z : State} (s : State) (t : Nat) (hz : Keeps z s) :
    Keeps z (State.commitAhead s t) := by
  unfold State.commitAhead
  extract_lets +onlyGivenNames x0_
  extract_lets +onlyGivenNames x1_
  exact (keeps_ite (State.setTask_keeps _ _ _ hz)
  hz)

theorem State.sendRole_keeps {z : State} (s : State) (hz : Keeps z s) :
    Keeps z (State.sendRole s) := by
  unfold State.sendRole
  exact (State.banAsk_keeps _ _ _ hz)

theorem State.latentCount_keeps {z : State} (s : State) (hz : Keeps z s) :
    Keeps z (State.latentCount s) := by
  unfold State.latentCount
  extract_lets +onlyGivenNames x0_
  extract_lets +onlyGivenNames x1_
  extract_lets +onlyGivenNames x2_
  have h2_ : Keeps z x2_ := (State.bumpBy_keeps _ _ _ hz)
  try clear_value x2_
  revert x2_
  refine keeps_id ?_
  intro x2_ h2_
  exact (keeps_ban h2_ _ rfl)

theorem State.cmpShow_keeps {z : State} (s : State) (t : Nat) (cycle : Nat) (kind : Nat) (hz : Keeps z s) :
    Keeps z (State.cmpShow s t cycle kind) := by
  unfold State.cmpShow
  extract_lets +onlyGivenNames x0_
  have h0_ : Keeps z x0_ := (State.wr_keeps _ _ _ (State.wrB_keeps _ _ _ (State.wr_keeps _ _ _ hz)))
  try clear_value x0_
  revert x0_
  refine keeps_id ?_
  intro x0_ h0_
  exact (State.wr64_keeps _ _ _ _ h0_)

theorem State.inquiryStart_keeps {z : State} (s : State) (t : Nat) (hz : Keeps z s) :
    Keeps z (State.inquiryStart s t) := by
  unfold State.inquiryStart
  extract_lets +onlyGivenNames x0_
  have h0_ : Keeps z x0_ := (State.wr_keeps _ _ _ (State.wr_keeps _ _ _ hz))
  try clear_value x0_
  revert x0_
  refine keeps_id ?_
  intro x0_ h0_
  extract_lets +onlyGivenNames x1_
  extract_lets +onlyGivenNames x2_
  have h2_ : Keeps z x2_ := (State.wrB_keeps _ _ _ h0_)
  try clear_value x2_
  revert x2_
  refine keeps_id ?_
  intro x2_ h2_
  extract_lets +onlyGivenNames x3_
  have h3_ : Keeps z x3_ := (keeps_foldl (fun _ _ h4_ => (State.setTask_keeps _ _ _ h4_))
  h2_)
  try clear_value x3_
  revert x3_
  refine keeps_id ?_
  intro x3_ h3_
  exact (keeps_ban h3_ _ rfl)

theorem State.mismatch_keeps {z : State} (s : State) (t : Nat) (cycle : Nat) (kind : Nat) (now : Bool) (hz : Keeps z s) :
    Keeps z (State.mismatch s t cycle kind now) := by
  unfold State.mismatch
  extract_lets +onlyGivenNames x0_
  have h0_ : Keeps z x0_ := (State.post_keeps _ _ _ _ _ _ (State.cmpShow_keeps _ _ _ _ (State.bump_keeps _ _ hz)))
  try clear_value x0_
  revert x0_
  refine keeps_id ?_
  intro x0_ h0_
  exact (keeps_ite h0_
  (keeps_ite (State.inquiryStart_keeps _ _ h0_)
  (keeps_ban h0_ _ rfl)))

theorem State.compare_keeps {z : State} (s : State) (t : Nat) (now : Bool) (hz : Keeps z s) :
    Keeps z (State.compare s t now) := by
  unfold State.compare
  exact (by
    split
    · exact hz
    · exact (by
        split
        · exact hz
        · extract_lets +onlyGivenNames x0_
          extract_lets +onlyGivenNames x1_
          have h1_ : Keeps z x1_ := (keeps_ban hz _ rfl)
          try clear_value x1_
          revert x1_
          refine keeps_id ?_
          intro x1_ h1_
          exact (keeps_ite h1_
          (State.mismatch_keeps _ _ _ _ _ h1_))))

theorem State.setRole_keeps {z : State} (s : State) (r : Nat) (hz : Keeps z s) :
    Keeps z (State.setRole s r) := by
  unfold State.setRole
  extract_lets +onlyGivenNames x0_
  extract_lets +onlyGivenNames x1_
  have h1_ : Keeps z x1_ := (State.latentCount_keeps _ hz)
  try clear_value x1_
  revert x1_
  refine keeps_id ?_
  intro x1_ h1_
  extract_lets +onlyGivenNames x2_
  have h2_ : Keeps z x2_ := (State.wr_keeps _ _ _ h1_)
  try clear_value x2_
  revert x2_
  refine keeps_id ?_
  intro x2_ h2_
  extract_lets +onlyGivenNames x3_
  have h3_ : Keeps z x3_ := (keeps_foldl (fun _ _ h4_ => (State.serDriver_keeps _ _ h4_))
  h2_)
  try clear_value x3_
  revert x3_
  refine keeps_id ?_
  intro x3_ h3_
  extract_lets +onlyGivenNames x5_
  have h5_ : Keeps z x5_ := (keeps_foldl (fun _ _ h6_ => (State.rioRole_keeps _ _ h6_))
  h3_)
  try clear_value x5_
  revert x5_
  refine keeps_id ?_
  intro x5_ h5_
  extract_lets +onlyGivenNames x7_
  have h7_ : Keeps z x7_ := (keeps_ite (keeps_foldl (fun _ _ h8_ => (keeps_ite (State.canAtK_keeps _ _ h8_)
  (State.canToMonitor_keeps _ _ h8_)))
  h5_)
  h5_)
  try clear_value x7_
  revert x7_
  refine keeps_id ?_
  intro x7_ h7_
  extract_lets +onlyGivenNames x9_
  extract_lets +onlyGivenNames x10_
  have h10_ : Keeps z x10_ := (keeps_ite (State.wr_keeps _ _ _ (keeps_ban h7_ _ rfl))
  h7_)
  try clear_value x10_
  revert x10_
  refine keeps_id ?_
  intro x10_ h10_
  extract_lets +onlyGivenNames x11_
  extract_lets +onlyGivenNames x12_
  have h12_ : Keeps z x12_ := (keeps_ite (keeps_ban h10_ _ rfl)
  h10_)
  try clear_value x12_
  revert x12_
  refine keeps_id ?_
  intro x12_ h12_
  extract_lets +onlyGivenNames x13_
  extract_lets +onlyGivenNames x14_
  have h14_ : Keeps z x14_ := (keeps_ite (keeps_anx h12_ _)
  h12_)
  try clear_value x14_
  revert x14_
  refine keeps_id ?_
  intro x14_ h14_
  exact (State.rndRole_keeps _ h14_)

theorem State.commitDone_keeps {z : State} (s : State) (t : Nat) (hz : Keeps z s) :
    Keeps z (State.commitDone s t) := by
  unfold State.commitDone
  extract_lets +onlyGivenNames x0_
  extract_lets +onlyGivenNames x1_
  have h1_ : Keeps z x1_ := (State.setTask_keeps _ _ _ hz)
  try clear_value x1_
  revert x1_
  refine keeps_id ?_
  intro x1_ h1_
  exact (State.rndGrant_keeps _ _ _ h1_)

theorem State.fail_keeps {z : State} (s : State) (trigger : Nat) (hz : Keeps z s) :
    Keeps z (State.fail s trigger) := by
  unfold State.fail
  extract_lets +onlyGivenNames x0_
  exact (State.sendRole_keeps _ (State.post_keeps _ _ _ _ _ _ (State.scnHalt_keeps _ (State.setRole_keeps _ _ (State.pairOver_keeps _ (State.inquiryOver_keeps _ hz))))))

theorem State.handover_keeps {z : State} (s : State) (trigger : Nat) (hz : Keeps z s) :
    Keeps z (State.handover s trigger) := by
  unfold State.handover
  extract_lets +onlyGivenNames x0_
  extract_lets +onlyGivenNames x1_
  have h1_ : Keeps z x1_ := (State.inquiryOver_keeps _ hz)
  try clear_value x1_
  revert x1_
  refine keeps_id ?_
  intro x1_ h1_
  extract_lets +onlyGivenNames x2_
  have h2_ : Keeps z x2_ := (State.post_keeps _ _ _ _ _ _ h1_)
  try clear_value x2_
  revert x2_
  refine keeps_id ?_
  intro x2_ h2_
  extract_lets +onlyGivenNames x3_
  have h3_ : Keeps z x3_ := (State.wr_keeps _ _ _ (State.wr_keeps _ _ _ (State.wr_keeps _ _ _ h2_)))
  try clear_value x3_
  revert x3_
  refine keeps_id ?_
  intro x3_ h3_
  extract_lets +onlyGivenNames x4_
  have h4_ : Keeps z x4_ := (State.bump_keeps _ _ h3_)
  try clear_value x4_
  revert x4_
  refine keeps_id ?_
  intro x4_ h4_
  extract_lets +onlyGivenNames x5_
  have h5_ : Keeps z x5_ := (State.banAsk_keeps _ _ _ h4_)
  try clear_value x5_
  revert x5_
  refine keeps_id ?_
  intro x5_ h5_
  extract_lets +onlyGivenNames x6_
  have h6_ : Keeps z x6_ := (keeps_foldl (fun _ _ h7_ => (State.setTask_keeps _ _ _ h7_))
  h5_)
  try clear_value x6_
  revert x6_
  refine keeps_id ?_
  intro x6_ h6_
  extract_lets +onlyGivenNames x8_
  extract_lets +onlyGivenNames x9_
  have h9_ : Keeps z x9_ := (State.wr_keeps _ _ _ (keeps_scn h6_ _))
  try clear_value x9_
  revert x9_
  refine keeps_id ?_
  intro x9_ h9_
  extract_lets +onlyGivenNames x10_
  extract_lets +onlyGivenNames x11_
  have h11_ : Keeps z x11_ := (keeps_ban h9_ _ rfl)
  try clear_value x11_
  revert x11_
  refine keeps_id ?_
  intro x11_ h11_
  extract_lets +onlyGivenNames x12_
  have h12_ : Keeps z x12_ := (State.rollBack_keeps _ _ _ h11_)
  try clear_value x12_
  revert x12_
  refine keeps_id ?_
  intro x12_ h12_
  exact (keeps_ban h12_ _ rfl)

theorem State.demote_keeps {z : State} (s : State) (cause : Nat) (p2 : Nat) (hz : Keeps z s) :
    Keeps z (State.demote s cause p2) := by
  unfold State.demote
  exact (State.sendRole_keeps _ (State.post_keeps _ _ _ _ _ _ (State.scnHalt_keeps _ (State.setRole_keeps _ _ (State.pairOver_keeps _ (State.inquiryOver_keeps _ hz))))))

theorem State.alone_keeps {z : State} (s : State) (hz : Keeps z s) :
    Keeps z (State.alone s) := by
  unfold State.alone
  exact (keeps_ite (State.setRole_keeps _ _ (State.pairOver_keeps _ (State.inquiryOver_keeps _ hz)))
  hz)

theorem State.faultTrigger_keeps {z : State} (s : State) (trigger : Nat) (hz : Keeps z s) :
    Keeps z (State.faultTrigger s trigger) := by
  unfold State.faultTrigger
  exact (keeps_ite hz
  (keeps_ite (State.handover_keeps _ _ hz)
  (keeps_ite (State.fail_keeps _ _ hz)
  (keeps_ite (State.wr_keeps _ _ _ (State.joinAbort_keeps _ hz))
  hz))))

theorem State.commitHeld_keeps {z : State} (s : State) (t : Nat) (hz : Keeps z s) :
    Keeps z (State.commitHeld s t) := by
  unfold State.commitHeld
  exact (State.commitOut_keeps _ _ (State.forceVars_keeps _ _ hz))

theorem State.commitGood_keeps {z : State} (s : State) (t : Nat) (hz : Keeps z s) :
    Keeps z (State.commitGood s t) := by
  unfold State.commitGood
  extract_lets +onlyGivenNames x0_
  exact (keeps_ite (keeps_ite (State.commitSafe_keeps _ _ (State.setTask_keeps _ _ _ hz))
  (State.commitOwn_keeps _ _ (State.setTaskState_keeps _ _ _ (State.setTask_keeps _ _ _ hz))))
  (State.commitOwn_keeps _ _ hz))

theorem State.commitNow_keeps {z : State} (s : State) (t : Nat) (hz : Keeps z s) :
    Keeps z (State.commitNow s t) := by
  unfold State.commitNow
  extract_lets +onlyGivenNames x0_
  extract_lets +onlyGivenNames x1_
  have h1_ : Keeps z x1_ := (keeps_ite (State.commitGood_keeps _ _ hz)
  (State.commitHeld_keeps _ _ hz))
  try clear_value x1_
  revert x1_
  refine keeps_id ?_
  intro x1_ h1_
  exact (State.commitDone_keeps _ _ h1_)

end Sys2Proof.Machine
end

