-- ==== Sys2Proof/Laws/KeepsHamper.lean ====
section
/-!
SUPPORT. What the operations of Machine/Hamper.lean keep (Laws/Keeps.lean).
-/
namespace Sys2Proof.Machine

theorem State.setWords_keeps {z : State} (s : State) (a : Nat) (l : List Nat) (hz : Keeps z s) :
    Keeps z (State.setWords s a l) := by
  unfold State.setWords
  exact (keeps_foldl (fun _ _ h0_ => (State.wr_keeps _ _ _ h0_))
  hz)

theorem State.hamperStart_keeps {z : State} (s : State) (t : Nat) (hz : Keeps z s) :
    Keeps z (State.hamperStart s t) := by
  unfold State.hamperStart
  exact (by
    split
    · exact (keeps_ite (by
        extract_lets +onlyGivenNames x0_
        exact (keeps_ban hz _ rfl))
      hz)
    · exact hz)

theorem State.topupTick_keeps {z : State} (s : State) (hz : Keeps z s) :
    Keeps z (State.topupTick s) := by
  unfold State.topupTick
  exact (by
    split
    · exact (keeps_ite (by
        extract_lets +onlyGivenNames x0_
        extract_lets +onlyGivenNames x1_
        have h1_ : Keeps z x1_ := (keeps_ite hz
        (keeps_ban hz _ rfl))
        try clear_value x1_
        revert x1_
        refine keeps_id ?_
        intro x1_ h1_
        exact (State.banSend_keeps _ _ _ h1_))
      hz)
    · exact hz)

theorem State.canFiltersSend_keeps {z : State} (s : State) (hz : Keeps z s) :
    Keeps z (State.canFiltersSend s) := by
  unfold State.canFiltersSend
  exact (keeps_foldl (fun _ _ h0_ => (keeps_foldl (fun _ _ h1_ => (by
    extract_lets +onlyGivenNames x2_
    have h2_ : Keeps z x2_ := (State.mirror_keeps _ _ _ _ h1_)
    try clear_value x2_
    revert x2_
    refine keeps_id ?_
    intro x2_ h2_
    exact (State.mirror_keeps _ _ _ _ h2_)))
  h0_))
  hz)

theorem State.hamperTick_keeps {z : State} (s : State) (hz : Keeps z s) :
    Keeps z (State.hamperTick s) := by
  unfold State.hamperTick
  exact (by
    split
    · exact (keeps_ite (by
        extract_lets +onlyGivenNames x0_
        extract_lets +onlyGivenNames x1_
        extract_lets +onlyGivenNames x2_
        extract_lets +onlyGivenNames x3_
        extract_lets +onlyGivenNames x4_
        have h4_ : Keeps z x4_ := (keeps_ban hz _ rfl)
        try clear_value x4_
        revert x4_
        refine keeps_id ?_
        intro x4_ h4_
        exact (State.canFiltersSend_keeps _ h4_))
      hz)
    · exact hz)

end Sys2Proof.Machine
end

