-- ==== Sys2Proof/Laws/KeepsTripMatrix.lean ====
section
/-!
SUPPORT. What the operations of Machine/TripMatrix.lean keep (Laws/Keeps.lean).
-/
namespace Sys2Proof.Machine

theorem State.trpFirstWrite_keeps {z : State} (s : State) (value : Nat) (hz : Keeps z s) :
    Keeps z (State.trpFirstWrite s value) := by
  unfold State.trpFirstWrite
  exact (keeps_ite (by
    extract_lets +onlyGivenNames x0_
    have h0_ : Keeps z x0_ := (State.wr_keeps _ _ _ hz)
    try clear_value x0_
    revert x0_
    refine keeps_id ?_
    intro x0_ h0_
    exact (keeps_firstOut h0_ _))
  hz)

theorem execDarkTest_keeps {z : State} (n : Fin 8) (failed : Bool) (volts10 : Nat) (s : State) (hz : Keeps z s) :
    KeepsA z (execDarkTest n failed volts10 s) := by
  unfold execDarkTest
  exact (keeps_iteA (by
    extract_lets +onlyGivenNames x0_
    have h0_ : Keeps z x0_ := by
      subst x0_
      exact (by
        split
        · exact (State.waitTo_keeps _ _ hz)
        · exact hz)
    try clear_value x0_
    revert x0_
    refine keeps_id ?_
    intro x0_ h0_
    extract_lets +onlyGivenNames x1_
    extract_lets +onlyGivenNames x2_
    have h2_ : Keeps z x2_ := (keeps_saf h0_ _)
    try clear_value x2_
    revert x2_
    refine keeps_id ?_
    intro x2_ h2_
    exact (keeps_iteA (keepsA_next (State.post_keeps _ _ _ _ _ _ (State.wr_keeps _ _ _ h2_)))
    (keepsA_next h2_)))
  (keepsA_next hz))

theorem State.sinkTrip_keeps {z : State} (s : State) (prods : Nat) (k : Nat) (hz : Keeps z s) :
    Keeps z (State.sinkTrip s prods k) := by
  unfold State.sinkTrip
  extract_lets +onlyGivenNames x0_
  extract_lets +onlyGivenNames x1_
  extract_lets +onlyGivenNames x2_
  extract_lets +onlyGivenNames x3_
  extract_lets +onlyGivenNames x4_
  extract_lets +onlyGivenNames x5_
  have h5_ : Keeps z x5_ := (State.bump_keeps _ _ hz)
  try clear_value x5_
  revert x5_
  refine keeps_id ?_
  intro x5_ h5_
  extract_lets +onlyGivenNames x6_
  have h6_ : Keeps z x6_ := (State.wr_keeps _ _ _ (State.wrB_keeps _ _ _ (State.wrB_keeps _ _ _ (State.wr_keeps _ _ _ h5_))))
  try clear_value x6_
  revert x6_
  refine keeps_id ?_
  intro x6_ h6_
  extract_lets +onlyGivenNames x7_
  have h7_ : Keeps z x7_ := (State.wr_keeps _ _ _ (State.wr_keeps _ _ _ h6_))
  try clear_value x7_
  revert x7_
  refine keeps_id ?_
  intro x7_ h7_
  extract_lets +onlyGivenNames x8_
  have h8_ : Keeps z x8_ := (State.wr64_keeps _ _ _ _ (State.wr64_keeps _ _ _ _ h7_))
  try clear_value x8_
  revert x8_
  refine keeps_id ?_
  intro x8_ h8_
  extract_lets +onlyGivenNames x9_
  extract_lets +onlyGivenNames x10_
  have h10_ : Keeps z x10_ := (keeps_ite h5_
  (keeps_upd ⟨rfl, rfl, rfl, rfl, rfl, rfl, rfl, rfl⟩ h8_))
  try clear_value x10_
  revert x10_
  refine keeps_id ?_
  intro x10_ h10_
  exact (State.post_keeps _ _ _ _ _ _ h10_)

theorem State.sinkUpdate_keeps {z : State} (s : State) (prods : Nat) (k : Nat) (hz : Keeps z s) :
    Keeps z (State.sinkUpdate s prods k) := by
  unfold State.sinkUpdate
  extract_lets +onlyGivenNames x0_
  extract_lets +onlyGivenNames x1_
  extract_lets +onlyGivenNames x2_
  extract_lets +onlyGivenNames x3_
  have h3_ : Keeps z x3_ := (keeps_ite (State.wr_keeps _ _ _ (keeps_saf hz _))
  hz)
  try clear_value x3_
  revert x3_
  refine keeps_id ?_
  intro x3_ h3_
  extract_lets +onlyGivenNames x4_
  extract_lets +onlyGivenNames x5_
  extract_lets +onlyGivenNames x6_
  have h6_ : Keeps z x6_ := (State.wr_keeps _ _ _ h3_)
  try clear_value x6_
  revert x6_
  refine keeps_id ?_
  intro x6_ h6_
  exact (keeps_ite (State.sinkTrip_keeps _ _ _ h6_)
  h6_)

theorem State.matrix_keeps {z : State} (s : State) (hz : Keeps z s) :
    Keeps z (State.matrix s) := by
  unfold State.matrix
  exact (keeps_ite hz
  (by
    extract_lets +onlyGivenNames x0_
    extract_lets +onlyGivenNames x1_
    have h1_ : Keeps z x1_ := (State.wr64_keeps _ _ _ _ (State.wr_keeps _ _ _ hz))
    try clear_value x1_
    revert x1_
    refine keeps_id ?_
    intro x1_ h1_
    extract_lets +onlyGivenNames x2_
    have h2_ : Keeps z x2_ := (State.wrB_keeps _ _ _ h1_)
    try clear_value x2_
    revert x2_
    refine keeps_id ?_
    intro x2_ h2_
    exact (keeps_foldl (fun _ _ h3_ => (State.sinkUpdate_keeps _ _ _ h3_))
    h2_)))

theorem execFastTripSupplyChange_keeps {z : State} (mV : Nat) (s : State) (hz : Keeps z s) :
    KeepsA z (execFastTripSupplyChange mV s) := by
  unfold execFastTripSupplyChange
  exact (keepsA_next (State.matrix_keeps _ (State.wrB_keeps _ _ _ hz)))

theorem execCtrlHbLost_keeps {z : State} (s : State) (hz : Keeps z s) :
    KeepsA z (execCtrlHbLost s) := by
  unfold execCtrlHbLost
  exact (keeps_iteA (keepsA_next (State.matrix_keeps _ (State.wr_keeps _ _ _ (State.waitTo_keeps _ _ hz))))
  (keepsA_next hz))

theorem execSafetyMonitorWarning_keeps {z : State} (rail : Bool) (clock : Bool) (s : State) (hz : Keeps z s) :
    KeepsA z (execSafetyMonitorWarning rail clock s) := by
  unfold execSafetyMonitorWarning
  exact (keeps_iteA (keepsA_next (State.matrix_keeps _ (keeps_saf hz _)))
  (keepsA_next hz))

theorem execFirstOutRearm_keeps {z : State} (m : Master) (value : Word) (s : State) (hz : Keeps z s) :
    KeepsA z (execFirstOutRearm m value s) := by
  unfold execFirstOutRearm
  exact (keepsA_next (State.access_keeps _ _ _ _ _ _ hz (fun _ h0_ => (State.trpFirstWrite_keeps _ _ h0_))))

theorem execFtiChange_keeps {z : State} (n : Fin 8) (demand : Bool) (s : State) (hz : Keeps z s) :
    KeepsA z (execFtiChange n demand s) := by
  unfold execFtiChange
  exact (keepsA_next (State.matrix_keeps _ (State.wr_keeps _ _ _ hz)))

theorem State.enterSafe_keeps {z : State} (s : State) (cause : Nat) (hz : Keeps z s) :
    Keeps z (State.enterSafe s cause) := by
  unfold State.enterSafe
  extract_lets +onlyGivenNames x0_
  extract_lets +onlyGivenNames x1_
  have h1_ : Keeps z x1_ := (State.wr_keeps _ _ _ hz)
  try clear_value x1_
  revert x1_
  refine keeps_id ?_
  intro x1_ h1_
  exact (keeps_ite (State.matrix_keeps _ h1_)
  (by
    extract_lets +onlyGivenNames x2_
    extract_lets +onlyGivenNames x3_
    have h3_ : Keeps z x3_ := (State.wr_keeps _ _ _ (keeps_saf h1_ _))
    try clear_value x3_
    revert x3_
    refine keeps_id ?_
    intro x3_ h3_
    exact (State.matrix_keeps _ (State.post_keeps _ _ _ _ _ _ h3_))))

theorem State.safHeartbeat_keeps {z : State} (s : State) (time : Int) (hz : Keeps z s) :
    Keeps z (State.safHeartbeat s time) := by
  unfold State.safHeartbeat
  exact (keeps_ite (State.matrix_keeps _ (State.wr_keeps _ _ _ (keeps_saf hz _)))
  hz)

theorem State.trpReqWrite_keeps {z : State} (s : State) (m : Master) (value : Nat) (hz : Keeps z s) :
    Keeps z (State.trpReqWrite s m value) := by
  unfold State.trpReqWrite
  extract_lets +onlyGivenNames x0_
  extract_lets +onlyGivenNames x1_
  exact (keeps_ite hz
  (State.matrix_keeps _ (State.post_keeps _ _ _ _ _ _ (State.wr_keeps _ _ _ hz))))

theorem execTrpReqWrite_keeps {z : State} (m : Master) (value : Word) (s : State) (hz : Keeps z s) :
    KeepsA z (execTrpReqWrite m value s) := by
  unfold execTrpReqWrite
  exact (keepsA_next (State.access_keeps _ _ _ _ _ _ hz (fun _ h0_ => (State.trpReqWrite_keeps _ _ _ h0_))))

theorem State.forceTrip_keeps {z : State} (s : State) (cause : Nat) (hz : Keeps z s) :
    Keeps z (State.forceTrip s cause) := by
  unfold State.forceTrip
  exact (keeps_ite hz
  (State.enterSafe_keeps _ _ (keeps_saf hz _)))

theorem execSupervisorForce_keeps {z : State} (why : SafForce) (s : State) (hz : Keeps z s) :
    KeepsA z (execSupervisorForce why s) := by
  unfold execSupervisorForce
  exact (keeps_iteA (keepsA_next (State.forceTrip_keeps _ _ hz))
  (keepsA_next hz))

end Sys2Proof.Machine
end

