-- ==== Sys2Proof/Laws/KeepsScan.lean ====
section
/-!
SUPPORT. What the operations of Machine/Scan.lean keep (Laws/Keeps.lean).
-/
namespace Sys2Proof.Machine

theorem State.heldMatch_keeps {z : State} (s : State) (q : Nat) (e : List Byte) (hz : Keeps z s) :
    Keeps z (State.heldMatch s q e) := by
  unfold State.heldMatch
  extract_lets +onlyGivenNames x0_
  exact (keeps_ban hz _ rfl)

theorem State.inTick_keeps {z : State} (s : State) (d : Nat × Nat) (k : State → State) (hz : Keeps z s) (hk : ∀ (a0 : State), Keeps z a0 → Keeps z (k a0)) :
    Keeps z (State.inTick s d k) := by
  unfold State.inTick
  extract_lets +onlyGivenNames x0_
  extract_lets +onlyGivenNames x1_
  have h1_ : Keeps z x1_ := (hk _ (keeps_scn hz _))
  try clear_value x1_
  revert x1_
  refine keeps_id ?_
  intro x1_ h1_
  exact (keeps_scn h1_ _)

theorem State.restartAct_keeps {z : State} (s : State) (t : Nat) (hz : Keeps z s) :
    Keeps z (State.restartAct s t) := by
  unfold State.restartAct
  exact (keeps_ite (State.post_keeps _ _ _ _ _ _ hz)
  (keeps_ite (State.post_keeps _ _ _ _ _ _ hz)
  (State.setTask_keeps _ _ _ hz)))

theorem State.modeAct_keeps {z : State} (s : State) (cmd : Nat) (hz : Keeps z s) :
    Keeps z (State.modeAct s cmd) := by
  unfold State.modeAct
  extract_lets +onlyGivenNames x0_
  extract_lets +onlyGivenNames x1_
  exact (keeps_ite (State.post_keeps _ _ _ _ _ _ hz)
  (keeps_ite (State.post_keeps _ _ _ _ _ _ hz)
  (keeps_ite hz
  (by
    extract_lets +onlyGivenNames x2_
    have h2_ : Keeps z x2_ := (State.post_keeps _ _ _ _ _ _ (State.wr_keeps _ _ _ hz))
    try clear_value x2_
    revert x2_
    refine keeps_id ?_
    intro x2_ h2_
    extract_lets +onlyGivenNames x3_
    have h3_ : Keeps z x3_ := (keeps_ite h2_
    (State.wake_keeps _ _ h2_))
    try clear_value x3_
    revert x3_
    refine keeps_id ?_
    intro x3_ h3_
    exact (keeps_ite (keeps_scn h3_ _)
    h3_)))))

theorem State.cmdAct_keeps {z : State} (s : State) (c : AgrCmd) (hz : Keeps z s) :
    Keeps z (State.cmdAct s c) := by
  unfold State.cmdAct
  exact (keeps_ite (keeps_ite (State.restartAct_keeps _ _ hz)
  (State.modeAct_keeps _ _ hz))
  (keeps_ite (State.forceAct_keeps _ _ _ _ _ hz)
  (keeps_ite (State.olcArmAct_keeps _ _ _ hz)
  (State.olcCancelAct_keeps _ hz))))

theorem State.releaseTold_keeps {z : State} (s : State) (r : Nat × Nat × Nat) (hz : Keeps z s) :
    Keeps z (State.releaseTold s r) := by
  unfold State.releaseTold
  exact (keeps_ite (State.pgnReleaseTo_keeps _ _ _ hz)
  (by
    extract_lets +onlyGivenNames x0_
    extract_lets +onlyGivenNames x1_
    extract_lets +onlyGivenNames x2_
    have h2_ : Keeps z x2_ := (keeps_foldl (fun _ _ h3_ => (State.heldMatch_keeps _ _ _ h3_))
    hz)
    try clear_value x2_
    revert x2_
    refine keeps_id ?_
    intro x2_ h2_
    extract_lets +onlyGivenNames x4_
    extract_lets +onlyGivenNames x5_
    have h5_ : Keeps z x5_ := (keeps_ban h2_ _ rfl)
    try clear_value x5_
    revert x5_
    refine keeps_id ?_
    intro x5_ h5_
    exact (State.queReleaseTo_keeps _ _ _ h5_)))

theorem State.agreedActs_keeps {z : State} (s : State) (g : Agreement) (hz : Keeps z s) :
    Keeps z (State.agreedActs s g) := by
  unfold State.agreedActs
  extract_lets +onlyGivenNames x0_
  have h0_ : Keeps z x0_ := (keeps_foldl (fun _ _ h1_ => (State.cmdAct_keeps _ _ h1_))
  hz)
  try clear_value x0_
  revert x0_
  refine keeps_id ?_
  intro x0_ h0_
  extract_lets +onlyGivenNames x2_
  have h2_ : Keeps z x2_ := (keeps_foldl (fun _ _ h3_ => (State.releaseTold_keeps _ _ h3_))
  h0_)
  try clear_value x2_
  revert x2_
  refine keeps_id ?_
  intro x2_ h2_
  exact (keeps_ite h2_
  (State.pgnTimeoutsAct_keeps _ (keeps_foldl (fun _ _ h4_ => (State.canHpRelease_keeps _ _ h4_))
  h2_)))

theorem State.pairTime_keeps {z : State} (s : State) (g : Agreement) (hz : Keeps z s) :
    Keeps z (State.pairTime s g) := by
  unfold State.pairTime
  extract_lets +onlyGivenNames x0_
  extract_lets +onlyGivenNames x1_
  extract_lets +onlyGivenNames x2_
  extract_lets +onlyGivenNames x3_
  extract_lets +onlyGivenNames x4_
  have h4_ : Keeps z x4_ := (State.driftCount_keeps _ hz)
  try clear_value x4_
  revert x4_
  refine keeps_id ?_
  intro x4_ h4_
  extract_lets +onlyGivenNames x5_
  extract_lets +onlyGivenNames x6_
  have h6_ : Keeps z x6_ := (keeps_tim h4_ _)
  try clear_value x6_
  revert x6_
  refine keeps_id ?_
  intro x6_ h6_
  exact (State.wr_keeps _ _ _ (State.wr_keeps _ _ _ (State.wr_keeps _ _ _ h6_)))

theorem State.landNow_keeps {z : State} (s : State) (hz : Keeps z s) :
    Keeps z (State.landNow s) := by
  unfold State.landNow
  exact (keeps_ite hz
  (keeps_ite (State.olcSwap_keeps _ hz)
  (keeps_ite (by
    extract_lets +onlyGivenNames x0_
    exact (keeps_scn hz _))
  hz)))

theorem State.digestMissing_keeps {z : State} (s : State) (t : Nat) (hz : Keeps z s) :
    Keeps z (State.digestMissing s t) := by
  unfold State.digestMissing
  exact (keeps_ite hz
  (by
    extract_lets +onlyGivenNames x0_
    extract_lets +onlyGivenNames x1_
    have h1_ : Keeps z x1_ := (keeps_ite (keeps_ite (State.commitNow_keeps _ _ hz)
    (State.digest_keeps _ _ _ (State.commitNow_keeps _ _ hz)))
    hz)
    try clear_value x1_
    revert x1_
    refine keeps_id ?_
    intro x1_ h1_
    extract_lets +onlyGivenNames x2_
    extract_lets +onlyGivenNames x3_
    exact (keeps_foldl (fun _ _ h4_ => (State.mismatch_keeps _ _ _ _ _ h4_))
    (keeps_ban h1_ _ rfl))))

theorem State.startState_keeps {z : State} (s : State) (t : Nat) (hz : Keeps z s) :
    Keeps z (State.startState s t) := by
  unfold State.startState
  extract_lets +onlyGivenNames x0_
  extract_lets +onlyGivenNames x1_
  extract_lets +onlyGivenNames x2_
  have h2_ : Keeps z x2_ := (State.setTask_keeps _ _ _ hz)
  try clear_value x2_
  revert x2_
  refine keeps_id ?_
  intro x2_ h2_
  exact (keeps_ite (keeps_ite h2_
  (by
    extract_lets +onlyGivenNames x3_
    have h3_ : Keeps z x3_ := (State.setTaskState_keeps _ _ _ h2_)
    try clear_value x3_
    revert x3_
    refine keeps_id ?_
    intro x3_ h3_
    extract_lets +onlyGivenNames x4_
    extract_lets +onlyGivenNames x5_
    have h5_ : Keeps z x5_ := (State.setTask_keeps _ _ _ h3_)
    try clear_value x5_
    revert x5_
    refine keeps_id ?_
    intro x5_ h5_
    extract_lets +onlyGivenNames x6_
    have h6_ : Keeps z x6_ := (keeps_ite h5_
    (State.commitSafe_keeps _ _ h5_))
    try clear_value x6_
    revert x6_
    refine keeps_id ?_
    intro x6_ h6_
    exact (keeps_ite (State.compare_keeps _ _ _ (State.digest_keeps _ _ _ h6_))
    h6_)))
  (keeps_ite (by
    extract_lets +onlyGivenNames x7_
    extract_lets +onlyGivenNames x8_
    have h8_ : Keeps z x8_ := (keeps_ite (State.reinit_keeps _ _ h2_)
    h2_)
    try clear_value x8_
    revert x8_
    refine keeps_id ?_
    intro x8_ h8_
    extract_lets +onlyGivenNames x9_
    have h9_ : Keeps z x9_ := (State.setTaskState_keeps _ _ _ (State.wr_keeps _ _ _ (State.wr_keeps _ _ _ h8_)))
    try clear_value x9_
    revert x9_
    refine keeps_id ?_
    intro x9_ h9_
    exact (State.post_keeps _ _ _ _ _ _ (State.setTask_keeps _ _ _ h9_)))
  (keeps_ite (keeps_ite (State.setTask_keeps _ _ _ (State.setTaskState_keeps _ _ _ h2_))
  (keeps_ite (State.setTaskState_keeps _ _ _ h2_)
  h2_))
  (keeps_ite (State.setTaskState_keeps _ _ _ h2_)
  h2_))))

theorem State.cycleOpen_keeps {z : State} (s : State) (t : Nat) (hz : Keeps z s) :
    Keeps z (State.cycleOpen s t) := by
  unfold State.cycleOpen
  extract_lets +onlyGivenNames x0_
  have h0_ : Keeps z x0_ := (State.startState_keeps _ _ hz)
  try clear_value x0_
  revert x0_
  refine keeps_id ?_
  intro x0_ h0_
  exact (State.setTask_keeps _ _ _ h0_)

theorem State.cycleBegin_keeps {z : State} (s : State) (t : Nat) (hz : Keeps z s) :
    Keeps z (State.cycleBegin s t) := by
  unfold State.cycleBegin
  extract_lets +onlyGivenNames x0_
  have h0_ : Keeps z x0_ := (State.digestMissing_keeps _ _ hz)
  try clear_value x0_
  revert x0_
  refine keeps_id ?_
  intro x0_ h0_
  extract_lets +onlyGivenNames x1_
  have h1_ : Keeps z x1_ := (keeps_foldl (fun _ _ h2_ => (State.rioJoin_keeps _ _ h2_))
  h0_)
  try clear_value x1_
  revert x1_
  refine keeps_id ?_
  intro x1_ h1_
  extract_lets +onlyGivenNames x3_
  have h3_ : Keeps z x3_ := (State.cycleOpen_keeps _ _ h1_)
  try clear_value x3_
  revert x3_
  refine keeps_id ?_
  intro x3_ h3_
  exact (keeps_ite (State.inquiryStart_keeps _ _ h3_)
  h3_)

theorem State.executeStart_keeps {z : State} (s : State) (t : Nat) (hz : Keeps z s) :
    Keeps z (State.executeStart s t) := by
  unfold State.executeStart
  exact (keeps_ite (by
    extract_lets +onlyGivenNames x0_
    have h0_ : Keeps z x0_ := (State.mapInsts_keeps _ _ hz)
    try clear_value x0_
    revert x0_
    refine keeps_id ?_
    intro x0_ h0_
    extract_lets +onlyGivenNames x1_
    have h1_ : Keeps z x1_ := (State.wr64_keeps _ _ _ _ h0_)
    try clear_value x1_
    revert x1_
    refine keeps_id ?_
    intro x1_ h1_
    extract_lets +onlyGivenNames x2_
    have h2_ : Keeps z x2_ := (State.coreCount_keeps _ _ h1_)
    try clear_value x2_
    revert x2_
    refine keeps_id ?_
    intro x2_ h2_
    extract_lets +onlyGivenNames x3_
    extract_lets +onlyGivenNames x4_
    have h4_ : Keeps z x4_ := (State.setTask_keeps _ _ _ h2_)
    try clear_value x4_
    revert x4_
    refine keeps_id ?_
    intro x4_ h4_
    exact (State.wake_keeps _ _ h4_))
  hz)

theorem State.skipLatch_keeps {z : State} (s : State) (t : Nat) (hz : Keeps z s) :
    Keeps z (State.skipLatch s t) := by
  unfold State.skipLatch
  extract_lets +onlyGivenNames x0_
  extract_lets +onlyGivenNames x1_
  have h1_ : Keeps z x1_ := (State.setTask_keeps _ _ _ hz)
  try clear_value x1_
  revert x1_
  refine keeps_id ?_
  intro x1_ h1_
  exact (keeps_ite h1_
  (State.taskMiss_keeps _ _ _ h1_))

theorem State.startFollow_keeps {z : State} (s : State) (g : Option Agreement) (t : Nat) (hz : Keeps z s) :
    Keeps z (State.startFollow s g t) := by
  unfold State.startFollow
  extract_lets +onlyGivenNames x0_
  exact (keeps_ite hz
  (keeps_ite (State.demote_keeps _ _ _ hz)
  (by
    extract_lets +onlyGivenNames x1_
    have h1_ : Keeps z x1_ := (State.cycleBegin_keeps _ _ hz)
    try clear_value x1_
    revert x1_
    refine keeps_id ?_
    intro x1_ h1_
    exact (by
      clear_value x0_
      split
      · exact (State.executeStart_keeps _ _ (State.latchOut_keeps _ _ (State.setTask_keeps _ _ _ h1_)))
      · exact (keeps_ite (State.skipLatch_keeps _ _ h1_)
        h1_)))))

theorem State.tickFollow_keeps {z : State} (s : State) (g : Option Agreement) (hz : Keeps z s) :
    Keeps z (State.tickFollow s g) := by
  unfold State.tickFollow
  extract_lets +onlyGivenNames x0_
  have h0_ : Keeps z x0_ := by
    subst x0_
    exact (by
      split
      · exact (State.agreedActs_keeps _ _ (State.pairTime_keeps _ _ hz))
      · exact hz)
  try clear_value x0_
  revert x0_
  refine keeps_id ?_
  intro x0_ h0_
  extract_lets +onlyGivenNames x1_
  have h1_ : Keeps z x1_ := (State.landNow_keeps _ h0_)
  try clear_value x1_
  revert x1_
  refine keeps_id ?_
  intro x1_ h1_
  exact (keeps_foldl (fun _ _ h2_ => (State.startFollow_keeps _ _ _ h2_))
  h1_)

theorem State.followTicks_keeps {z : State} (s : State) (n : Nat) (hz : Keeps z s) : Keeps z (State.followTicks s n) := by
  induction n generalizing s with
  | zero => exact hz
  | succ n ih =>
    unfold State.followTicks
    split
    · exact hz
    · have go : ∀ (f : State → State), (∀ t, Keeps z t → Keeps z (f t)) → ∀ d r a, Keeps z (State.followTicks
          (State.inTick { s with scn := { s.scn with dues := r }, ban := { s.ban with agrs := a } } d f) n) := fun f hf d r a =>
        ih _ (State.inTick_keeps _ _ _ (keeps_upd ⟨rfl, rfl, rfl, rfl, rfl, rfl, rfl, rfl⟩ hz) hf)
      extract_lets g
      split
      · exact go _ (fun t h => State.tickFollow_keeps _ _ h) _ _ _
      · exact keeps_ite (go _ (fun t h => State.tickFollow_keeps _ _ h) _ _ _) hz

theorem State.pendShow_keeps {z : State} (s : State) (hz : Keeps z s) :
    Keeps z (State.pendShow s) := by
  unfold State.pendShow
  exact (by
    split
    · exact (State.wr_keeps _ _ _ hz)
    · exact (State.wr_keeps _ _ _ hz))

theorem State.execTime_keeps {z : State} (s : State) (t : Nat) (ns : Nat) (hz : Keeps z s) :
    Keeps z (State.execTime s t ns) := by
  unfold State.execTime
  extract_lets +onlyGivenNames x0_
  exact (State.wr_keeps _ _ _ (State.wr_keeps _ _ _ hz))

theorem State.commitBegin_keeps {z : State} (s : State) (t : Nat) (hz : Keeps z s) :
    Keeps z (State.commitBegin s t) := by
  unfold State.commitBegin
  extract_lets +onlyGivenNames x0_
  have h0_ : Keeps z x0_ := (keeps_frc hz _)
  extract_lets +onlyGivenNames x1_
  extract_lets +onlyGivenNames x2_
  have h2_ : Keeps z x2_ := (State.loopArm_keeps _ _ (State.setTask_keeps _ _ _ h0_))
  exact (keeps_ite (State.foldCrcs_keeps _ h2_)
  h2_)

theorem State.takeCmds_keeps {z : State} (s : State) (hz : Keeps z s) :
    Keeps z (State.takeCmds s).2 := by
  unfold State.takeCmds
  extract_lets +onlyGivenNames x0_
  exact (State.pendShow_keeps _ (keeps_scn hz _))

theorem State.followAll_keeps {z : State} (s : State) (hz : Keeps z s) :
    Keeps z (State.followAll s) := by
  unfold State.followAll
  exact (State.followTicks_keeps _ _ hz)

theorem State.sendAgreement_keeps {z : State} (s : State) (cmds : List AgrCmd) (rels : List (Nat × Nat × Nat)) (tasks : List Nat) (hz : Keeps z s) :
    Keeps z (State.sendAgreement s cmds rels tasks) := by
  unfold State.sendAgreement
  extract_lets +onlyGivenNames x0_
  exact (keeps_ite (by
    extract_lets +onlyGivenNames x1_
    have h1_ : Keeps z x1_ := (State.banAsk_keeps _ _ _ hz)
    try clear_value x1_
    revert x1_
    refine keeps_id ?_
    intro x1_ h1_
    exact (keeps_ban h1_ _ rfl))
  (State.banSend_keeps _ _ _ hz))

theorem State.scnCmdWrite_keeps {z : State} (s : State) (v : Nat) (hz : Keeps z s) :
    Keeps z (State.scnCmdWrite s v) := by
  unfold State.scnCmdWrite
  extract_lets +onlyGivenNames x0_
  exact (keeps_ite hz
  (by
    extract_lets +onlyGivenNames x1_
    have h1_ : Keeps z x1_ := (State.wake_keeps _ _ hz)
    try clear_value x1_
    revert x1_
    refine keeps_id ?_
    intro x1_ h1_
    extract_lets +onlyGivenNames x2_
    extract_lets +onlyGivenNames x3_
    exact (State.pendShow_keeps _ (keeps_scn h1_ _))))

theorem State.digestAhead_keeps {z : State} (s : State) (t : Nat) (hz : Keeps z s) :
    Keeps z (State.digestAhead s t) := by
  unfold State.digestAhead
  extract_lets +onlyGivenNames x0_
  have h0_ : Keeps z x0_ := (State.digest_keeps _ _ _ (State.commitAhead_keeps _ _ hz))
  try clear_value x0_
  revert x0_
  refine keeps_id ?_
  intro x0_ h0_
  exact (keeps_scn h0_ _)

theorem State.trapAct_keeps {z : State} (s : State) (t : Nat) (cause : Nat) (pc : Nat) (hz : Keeps z s) :
    Keeps z (State.trapAct s t cause pc) := by
  unfold State.trapAct
  extract_lets +onlyGivenNames x0_
  extract_lets +onlyGivenNames x1_
  extract_lets +onlyGivenNames x2_
  have h2_ : Keeps z x2_ := (State.setTask_keeps _ _ _ hz)
  try clear_value x2_
  revert x2_
  refine keeps_id ?_
  intro x2_ h2_
  extract_lets +onlyGivenNames x3_
  have h3_ : Keeps z x3_ := (State.wr_keeps _ _ _ (keeps_ite (State.setTaskState_keeps _ _ _ h2_)
  h2_))
  try clear_value x3_
  revert x3_
  refine keeps_id ?_
  intro x3_ h3_
  exact (State.post_keeps _ _ _ _ _ _ h3_)

theorem State.told_keeps {z : State} (s : State) (t : Nat) (flags : Nat) (hz : Keeps z s) :
    Keeps z (State.told s t flags) := by
  unfold State.told
  exact (keeps_ite (State.compare_keeps _ _ _ (State.digest_keeps _ _ _ hz))
  hz)

theorem State.housekeep_keeps {z : State} (s : State) (t : Nat) (hz : Keeps z s) :
    Keeps z (State.housekeep s t) := by
  unfold State.housekeep
  exact (State.rndGrant_keeps _ _ _ hz)

theorem State.noImage_keeps {z : State} (s : State) (t : Nat) (flags : Nat) (hz : Keeps z s) :
    Keeps z (State.noImage s t flags) := by
  unfold State.noImage
  exact (keeps_ite (State.compare_keeps _ _ _ (State.digest_keeps _ _ _ hz))
  hz)

theorem State.pointIdle_keeps {z : State} (s : State) (t : Nat) (hz : Keeps z s) :
    Keeps z (State.pointIdle s t) := by
  unfold State.pointIdle
  extract_lets +onlyGivenNames x0_
  have h0_ : Keeps z x0_ := (keeps_ite (keeps_foldl (fun _ _ h1_ => (State.commitLink_keeps _ _ _ _ h1_))
  hz)
  hz)
  try clear_value x0_
  revert x0_
  refine keeps_id ?_
  intro x0_ h0_
  exact (State.housekeep_keeps _ _ (State.noImage_keeps _ _ _ h0_))

theorem execTaskTrap_keeps {z : State} (t : Fin 16) (cause : BitVec 32) (pc : BitVec 64) (s : State) (hz : Keeps z s) :
    KeepsA z (execTaskTrap t cause pc s) := by
  unfold execTaskTrap
  exact (keeps_iteA (keepsA_next hz)
  (keepsA_next (State.trapAct_keeps _ _ _ _ (State.coreCount_keeps _ _ hz))))

theorem execScnStop_keeps {z : State} (m : Master) (s : State) (hz : Keeps z s) :
    KeepsA z (execScnStop m s) := by
  unfold execScnStop
  exact (keepsA_next (State.access_keeps _ _ _ _ _ _ hz (fun _ h0_ => (State.scnCmdWrite_keeps _ _ h0_))))

theorem execScnRun_keeps {z : State} (m : Master) (s : State) (hz : Keeps z s) :
    KeepsA z (execScnRun m s) := by
  unfold execScnRun
  exact (keepsA_next (State.access_keeps _ _ _ _ _ _ hz (fun _ h0_ => (State.scnCmdWrite_keeps _ _ h0_))))

theorem execScnRestart_keeps {z : State} (m : Master) (t : Fin 16) (s : State) (hz : Keeps z s) :
    KeepsA z (execScnRestart m t s) := by
  unfold execScnRestart
  exact (keepsA_next (State.access_keeps _ _ _ _ _ _ hz (fun _ h0_ => (State.scnCmdWrite_keeps _ _ h0_))))

theorem execScnHold_keeps {z : State} (m : Master) (s : State) (hz : Keeps z s) :
    KeepsA z (execScnHold m s) := by
  unfold execScnHold
  exact (keepsA_next (State.access_keeps _ _ _ _ _ _ hz (fun _ h0_ => (State.scnCmdWrite_keeps _ _ h0_))))

theorem State.strictStep_keeps {z : State} (s : State) (t : Nat) (hz : Keeps z s) :
    Keeps z (State.strictStep s t) := by
  unfold State.strictStep
  extract_lets +onlyGivenNames x0_
  extract_lets +onlyGivenNames x1_
  extract_lets +onlyGivenNames x2_
  exact (by
    clear_value x1_
    clear_value x2_
    split
    · extract_lets +onlyGivenNames x3_
      have h3_ : Keeps z x3_ := (State.compare_keeps _ _ _ hz)
      try clear_value x3_
      revert x3_
      refine keeps_id ?_
      intro x3_ h3_
      exact (keeps_ite (State.commitNow_keeps _ _ h3_)
      (State.setTask_keeps _ _ _ h3_))
    · exact hz)

theorem State.commitLead_keeps {z : State} (s : State) (t : Nat) (hz : Keeps z s) :
    Keeps z (State.commitLead s t) := by
  unfold State.commitLead
  exact (keeps_ite (by
    extract_lets +onlyGivenNames x0_
    have h0_ : Keeps z x0_ := (State.digestAhead_keeps _ _ hz)
    try clear_value x0_
    revert x0_
    refine keeps_id ?_
    intro x0_ h0_
    exact (State.strictStep_keeps _ _ (State.setTask_keeps _ _ _ h0_)))
  (State.told_keeps _ _ _ (State.commitNow_keeps _ _ hz)))

theorem State.missAtCommit_keeps {z : State} (s : State) (t : Nat) (hz : Keeps z s) :
    Keeps z (State.missAtCommit s t) := by
  unfold State.missAtCommit
  extract_lets +onlyGivenNames x0_
  have h0_ : Keeps z x0_ := (State.housekeep_keeps _ _ (State.taskMiss_keeps _ _ _ hz))
  try clear_value x0_
  revert x0_
  refine keeps_id ?_
  intro x0_ h0_
  exact (keeps_ite (State.told_keeps _ _ _ (State.taskLimitStop_keeps _ _ h0_))
  (keeps_ite (State.compare_keeps _ _ _ (State.digest_keeps _ _ _ h0_))
  (State.noImage_keeps _ _ _ h0_)))

theorem State.strictLate_keeps {z : State} (s : State) (t : Nat) (hz : Keeps z s) :
    Keeps z (State.strictLate s t) := by
  unfold State.strictLate
  exact (keeps_ite (by
    extract_lets +onlyGivenNames x0_
    have h0_ : Keeps z x0_ := (keeps_frc hz _)
    try clear_value x0_
    revert x0_
    refine keeps_id ?_
    intro x0_ h0_
    extract_lets +onlyGivenNames x1_
    have h1_ : Keeps z x1_ := (State.post_keeps _ _ _ _ _ _ (State.cmpShow_keeps _ _ _ _ (State.bump_keeps _ _ h0_)))
    try clear_value x1_
    revert x1_
    refine keeps_id ?_
    intro x1_ h1_
    exact (State.commitNow_keeps _ _ h1_))
  hz)

theorem State.strictLates_keeps {z : State} (s : State) (at_ : Nat) (hz : Keeps z s) :
    Keeps z (State.strictLates s at_) := by
  unfold State.strictLates
  exact (keeps_foldl (fun _ _ h0_ => (State.strictLate_keeps _ _ h0_))
  hz)

theorem State.followStep_keeps {z : State} (s : State) (t : Nat) (hz : Keeps z s) :
    Keeps z (State.followStep s t) := by
  unfold State.followStep
  extract_lets +onlyGivenNames x0_
  extract_lets +onlyGivenNames x1_
  exact (by
    split
    · exact hz
    · exact (keeps_ite (by
        extract_lets +onlyGivenNames x2_
        exact (State.missAtCommit_keeps _ _ (State.setTask_keeps _ _ _ (keeps_ban hz _ rfl))))
      (keeps_ite (State.noImage_keeps _ _ _ (State.setTask_keeps _ _ _ hz))
      (keeps_ite hz
      (keeps_ite (State.strictStep_keeps _ _ hz)
      (State.told_keeps _ _ _ (State.commitNow_keeps _ _ hz)))))))

theorem State.startLead_keeps {z : State} (s : State) (t : Nat) (hz : Keeps z s) :
    Keeps z (State.startLead s t) := by
  unfold State.startLead
  extract_lets +onlyGivenNames x0_
  have h0_ : Keeps z x0_ := (State.cycleBegin_keeps _ _ hz)
  try clear_value x0_
  revert x0_
  refine keeps_id ?_
  intro x0_ h0_
  exact (keeps_ite h0_
  (keeps_ite (State.skipLatch_keeps _ _ h0_)
  (State.executeStart_keeps _ _ (State.latchOwn_keeps _ _ h0_))))

theorem State.tickLead_keeps {z : State} (s : State) (hz : Keeps z s) :
    Keeps z (State.tickLead s) := by
  unfold State.tickLead
  extract_lets +onlyGivenNames x0_
  have h0_ : Keeps z x0_ := (State.topupTick_keeps _ (State.hamperTick_keeps _ hz))
  try clear_value x0_
  revert x0_
  refine keeps_id ?_
  intro x0_ h0_
  extract_lets +onlyGivenNames x1_
  extract_lets +onlyGivenNames x2_
  have h2_ : Keeps z x2_ := (keeps_foldl (fun _ _ h3_ => (State.cmdAct_keeps _ _ h3_))
  (State.takeCmds_keeps _ h0_))
  try clear_value x2_
  revert x2_
  refine keeps_id ?_
  intro x2_ h2_
  extract_lets +onlyGivenNames x4_
  have h4_ : Keeps z x4_ := (State.landNow_keeps _ h2_)
  try clear_value x4_
  revert x4_
  refine keeps_id ?_
  intro x4_ h4_
  extract_lets +onlyGivenNames x5_
  extract_lets +onlyGivenNames x6_
  extract_lets +onlyGivenNames x7_
  have h7_ : Keeps z x7_ := (keeps_foldl (fun _ _ h8_ => (State.startLead_keeps _ _ (State.hamperStart_keeps _ _ h8_)))
  h4_)
  try clear_value x7_
  revert x7_
  refine keeps_id ?_
  intro x7_ h7_
  extract_lets +onlyGivenNames x9_
  extract_lets +onlyGivenNames x10_
  extract_lets +onlyGivenNames x11_
  have h11_ : Keeps z x11_ := (keeps_ite h7_
  (State.releaseAll_keeps _ h7_))
  try clear_value x11_
  revert x11_
  refine keeps_id ?_
  intro x11_ h11_
  extract_lets +onlyGivenNames x12_
  extract_lets +onlyGivenNames x13_
  have h13_ : Keeps z x13_ := (keeps_ite (keeps_foldl (fun _ _ h14_ => (State.canHpRelease_keeps _ _ h14_))
  (keeps_ban h11_ _ rfl))
  h11_)
  try clear_value x13_
  revert x13_
  refine keeps_id ?_
  intro x13_ h13_
  extract_lets +onlyGivenNames x15_
  have h15_ : Keeps z x15_ := (keeps_ite h13_
  (State.pgnTimeoutsAct_keeps _ h13_))
  try clear_value x15_
  revert x15_
  refine keeps_id ?_
  intro x15_ h15_
  extract_lets +onlyGivenNames x16_
  extract_lets +onlyGivenNames x17_
  have h17_ : Keeps z x17_ := (keeps_ite (keeps_firstLatch h15_ _)
  h15_)
  try clear_value x17_
  revert x17_
  refine keeps_id ?_
  intro x17_ h17_
  extract_lets +onlyGivenNames x18_
  exact (keeps_ite (State.sendAgreement_keeps _ _ _ _ h17_)
  h17_)

theorem execExecuteReturn_keeps {z : State} (t : Fin 16) (ns : Nat) (image : Option (List Byte)) (invokes : List Invoke) (writes : List (BitVec 32 × List Byte)) (s : State) (hz : Keeps z s) :
    KeepsA z (execExecuteReturn t ns image invokes writes s) := by
  unfold execExecuteReturn
  extract_lets +onlyGivenNames x0_
  exact (keeps_iteA (keepsA_next hz)
  (by
    extract_lets +onlyGivenNames x1_
    have h1_ : Keeps z x1_ := (keeps_frc hz _)
    try clear_value x1_
    revert x1_
    refine keeps_id ?_
    intro x1_ h1_
    extract_lets +onlyGivenNames x2_
    have h2_ : Keeps z x2_ := (State.coreCount_keeps _ _ h1_)
    try clear_value x2_
    revert x2_
    refine keeps_id ?_
    intro x2_ h2_
    extract_lets +onlyGivenNames x3_
    have h3_ : Keeps z x3_ := (keeps_foldl (fun _ _ h4_ => (State.invoke_keeps _ _ _ h4_))
    h2_)
    try clear_value x3_
    revert x3_
    refine keeps_id ?_
    intro x3_ h3_
    extract_lets +onlyGivenNames x5_
    have h5_ : Keeps z x5_ := (keeps_foldl (fun _ _ h6_ => (State.varWrite_keeps _ _ _ h6_))
    h3_)
    try clear_value x5_
    revert x5_
    refine keeps_id ?_
    intro x5_ h5_
    extract_lets +onlyGivenNames x7_
    extract_lets +onlyGivenNames x8_
    extract_lets +onlyGivenNames x9_
    have h9_ : Keeps z x9_ := (State.execTime_keeps _ _ _ h5_)
    try clear_value x9_
    revert x9_
    refine keeps_id ?_
    intro x9_ h9_
    extract_lets +onlyGivenNames x10_
    extract_lets +onlyGivenNames x11_
    have h11_ : Keeps z x11_ := (State.setTask_keeps _ _ _ h9_)
    try clear_value x11_
    revert x11_
    refine keeps_id ?_
    intro x11_ h11_
    exact (keeps_iteA (keepsA_next (State.wr_keeps _ _ _ h11_))
    (keeps_iteA (by
      extract_lets +onlyGivenNames x12_
      have h12_ : Keeps z x12_ := (State.wr_keeps _ _ _ h11_)
      try clear_value x12_
      revert x12_
      refine keeps_id ?_
      intro x12_ h12_
      exact (keepsA_next (State.followStep_keeps _ _ (keeps_ite (State.digestAhead_keeps _ _ h12_)
      h12_))))
    (keepsA_next h11_)))))

theorem State.commitFollow_keeps {z : State} (s : State) (t : Nat) (hz : Keeps z s) :
    Keeps z (State.commitFollow s t) := by
  unfold State.commitFollow
  extract_lets +onlyGivenNames x0_
  exact (keeps_ite (State.followStep_keeps _ _ (State.setTask_keeps _ _ _ hz))
  (by
    extract_lets +onlyGivenNames x1_
    have h1_ : Keeps z x1_ := (keeps_ite (State.digestAhead_keeps _ _ hz)
    hz)
    try clear_value x1_
    revert x1_
    refine keeps_id ?_
    intro x1_ h1_
    exact (State.followStep_keeps _ _ (State.setTask_keeps _ _ _ h1_))))

theorem State.pointAt_keeps {z : State} (s : State) (t : Nat) (hz : Keeps z s) :
    Keeps z (State.pointAt s t) := by
  unfold State.pointAt
  extract_lets +onlyGivenNames x0_
  extract_lets +onlyGivenNames x1_
  exact (keeps_ite (State.noImage_keeps _ _ _ hz)
  (keeps_ite (keeps_ite (State.told_keeps _ _ _ (State.housekeep_keeps _ _ (State.commitSafe_keeps _ _ (State.setTask_keeps _ _ _ hz))))
  (State.pointIdle_keeps _ _ hz))
  (keeps_ite (State.pointIdle_keeps _ _ hz)
  (keeps_ite (State.told_keeps _ _ _ (State.housekeep_keeps _ _ (State.taskLimitStop_keeps _ _ hz)))
  (keeps_ite (State.housekeep_keeps _ _ (State.noImage_keeps _ _ _ hz))
  (keeps_ite (State.commitFollow_keeps _ _ hz)
  (keeps_ite (State.missAtCommit_keeps _ _ hz)
  (State.commitLead_keeps _ _ hz))))))))

theorem State.commitAt_keeps {z : State} (s : State) (t : Nat) (hz : Keeps z s) :
    Keeps z (State.commitAt s t) := by
  unfold State.commitAt
  extract_lets +onlyGivenNames x0_
  extract_lets +onlyGivenNames x1_
  have h1_ : Keeps z x1_ := (State.commitBegin_keeps _ _ hz)
  try clear_value x1_
  revert x1_
  refine keeps_id ?_
  intro x1_ h1_
  exact (by
    split
    · exact (keeps_ite (by
        extract_lets +onlyGivenNames x2_
        have h2_ : Keeps z x2_ := (State.bump_keeps _ _ h1_)
        try clear_value x2_
        revert x2_
        refine keeps_id ?_
        intro x2_ h2_
        exact (keeps_ban h2_ _ rfl))
      h1_)
    · exact (keeps_ite h1_
      (State.pointAt_keeps _ _ (keeps_ite (keeps_ban h1_ _ rfl)
      h1_))))

theorem State.commitsTo_keeps {z : State} (s : State) (at_ : Nat) (hz : Keeps z s) :
    Keeps z (State.commitsTo s at_) := by
  unfold State.commitsTo
  exact (keeps_foldl (fun _ _ h0_ => (State.commitAt_keeps _ _ h0_))
  hz)

theorem execCommit_keeps {z : State} (t : Fin 16) (s : State) (hz : Keeps z s) :
    KeepsA z (execCommit t s) := by
  unfold execCommit
  exact (keeps_iteA (keepsA_next (State.commitAt_keeps _ _ (keeps_foldl (fun _ _ h0_ => (State.commitAt_keeps _ _ h0_))
  hz)))
  (keepsA_next hz))

theorem execBaseTick_keeps {z : State} (s : State) (hz : Keeps z s) :
    KeepsA z (execBaseTick s) := by
  unfold execBaseTick
  extract_lets +onlyGivenNames x0_
  exact (keeps_iteA (keepsA_next hz)
  (by
    extract_lets +onlyGivenNames x1_
    have h1_ : Keeps z x1_ := (State.strictLates_keeps _ _ (State.commitsTo_keeps _ _ hz))
    try clear_value x1_
    revert x1_
    refine keeps_id ?_
    intro x1_ h1_
    extract_lets +onlyGivenNames x2_
    have h2_ : Keeps z x2_ := (keeps_ite (State.demote_keeps _ _ _ h1_)
    h1_)
    try clear_value x2_
    revert x2_
    refine keeps_id ?_
    intro x2_ h2_
    extract_lets +onlyGivenNames x3_
    extract_lets +onlyGivenNames x4_
    extract_lets +onlyGivenNames x5_
    have h5_ : Keeps z x5_ := (keeps_upd ⟨rfl, rfl, rfl, rfl, rfl, rfl, rfl, rfl⟩ h2_)
    try clear_value x5_
    revert x5_
    refine keeps_id ?_
    intro x5_ h5_
    extract_lets +onlyGivenNames x6_
    have h6_ : Keeps z x6_ := (State.safHeartbeat_keeps _ _ h5_)
    try clear_value x6_
    revert x6_
    refine keeps_id ?_
    intro x6_ h6_
    exact (keeps_iteA (keepsA_next (State.followAll_keeps _ (keeps_scn h6_ _)))
    (keeps_iteA (keepsA_next (State.tickLead_keeps _ h6_))
    (keepsA_next (State.topupTick_keeps _ h6_))))))

end Sys2Proof.Machine
end

