-- ==== Sys2Proof/Laws/KeepsBanister.lean ====
section
/-!
SUPPORT. What the operations of Machine/Banister.lean keep (Laws/Keeps.lean).
-/
namespace Sys2Proof.Machine

theorem State.laneSeen_keeps {z : State} (s : State) (l : Nat) (seq : Nat) (hz : Keeps z s) :
    Keeps z (State.laneSeen s l seq) := by
  unfold State.laneSeen
  extract_lets +onlyGivenNames x0_
  extract_lets +onlyGivenNames x1_
  exact (keeps_ban hz _ rfl)

theorem State.nakTake_keeps {z : State} (s : State) (seqs : List Nat) (hz : Keeps z s) : Keeps z (State.nakTake s seqs) := by
  refine keeps_tx hz (fun hs => ?_) ⟨rfl, rfl, rfl, rfl, rfl, rfl, rfl⟩
  have hl := (hz.2.2 hs).2.2.2.2.1
  simpa [State.nakTake] using hl

theorem State.drivingTake_keeps {z : State} (s : State) (offset : Nat) (hz : Keeps z s) :
    Keeps z (State.drivingTake s offset) := by
  unfold State.drivingTake
  exact (by
    split
    · exact (keeps_ite (keeps_ban hz _ rfl)
      hz)
    · exact hz)

theorem State.gridShift_keeps {z : State} (s : State) (d : Int) (hz : Keeps z s) :
    Keeps z (State.gridShift s d) := by
  unfold State.gridShift
  extract_lets +onlyGivenNames x0_
  exact (keeps_scn hz _)

theorem State.agreeAckTake_keeps {z : State} (s : State) (tick : Nat) (crc : Nat) (hz : Keeps z s) :
    Keeps z (State.agreeAckTake s tick crc) := by
  unfold State.agreeAckTake
  exact (keeps_ite (by
    extract_lets +onlyGivenNames x0_
    have h0_ : Keeps z x0_ := (State.hsDone_keeps _ _ hz)
    try clear_value x0_
    revert x0_
    refine keeps_id ?_
    intro x0_ h0_
    exact (keeps_ban h0_ _ rfl))
  hz)

theorem execBarrierBackstop_keeps {z : State} (s : State) (hz : Keeps z s) :
    KeepsA z (execBarrierBackstop s) := by
  unfold execBarrierBackstop
  exact (by
    split
    · exact (keeps_iteA (by
        extract_lets +onlyGivenNames x0_
        have h0_ : Keeps z x0_ := (keeps_frc hz _)
        try clear_value x0_
        revert x0_
        refine keeps_id ?_
        intro x0_ h0_
        exact (keepsA_next (keeps_ban h0_ _ rfl)))
      (keepsA_next hz))
    · exact (keepsA_next hz))

theorem State.plantBeats_keeps {z : State} (s : State) (src : State → Nat → List Byte) (hz : Keeps z s) :
    Keeps z (State.plantBeats s src) := by
  unfold State.plantBeats
  extract_lets +onlyGivenNames x0_
  extract_lets +onlyGivenNames x1_
  extract_lets +onlyGivenNames x2_
  exact (keeps_foldl (fun _ _ h3_ => (keeps_ite (State.ethHand_keeps _ _ _ _ h3_)
  h3_))
  (keeps_ban hz _ rfl))

theorem State.tickShift_keeps {z : State} (s : State) (d : Int) (hz : Keeps z s) :
    Keeps z (State.tickShift s d) := by
  unfold State.tickShift
  extract_lets +onlyGivenNames x0_
  extract_lets +onlyGivenNames x1_
  extract_lets +onlyGivenNames x2_
  extract_lets +onlyGivenNames x3_
  have h3_ : Keeps z x3_ := (keeps_upd ⟨rfl, rfl, rfl, rfl, rfl, rfl, rfl, rfl⟩ hz)
  try clear_value x3_
  revert x3_
  refine keeps_id ?_
  intro x3_ h3_
  exact (keeps_ite h3_
  (State.gridShift_keeps _ _ h3_))

theorem State.stationBeats_keeps {z : State} (s : State) (hz : Keeps z s) :
    Keeps z (State.stationBeats s) := by
  unfold State.stationBeats
  exact (State.plantBeats_keeps _ _ hz)

theorem State.mirrorAckTake_keeps {z : State} (s : State) (upTo : Nat) (hz : Keeps z s) :
    Keeps z (State.mirrorAckTake s upTo) := by
  unfold State.mirrorAckTake
  extract_lets +onlyGivenNames x0_
  have h0_ : Keeps z x0_ := (State.hsDone_keeps _ _ hz)
  try clear_value x0_
  revert x0_
  refine keeps_id ?_
  intro x0_ h0_
  exact (keeps_ban h0_ _ rfl)

theorem State.rbMirror_keeps {z : State} (s : State) (hz : Keeps z s) :
    Keeps z (State.rbMirror s) := by
  unfold State.rbMirror
  exact (State.mirror_keeps _ _ _ _ (State.mirror_keeps _ _ _ _ hz))

theorem State.releasedTake_keeps {z : State} (s : State) (hz : Keeps z s) :
    Keeps z (State.releasedTake s) := by
  unfold State.releasedTake
  exact (by
    split
    · exact (keeps_ite hz
      (by
        extract_lets +onlyGivenNames x0_
        exact (State.wr_keeps _ _ _ (keeps_ban hz _ rfl))))
    · exact hz)

theorem State.mirrorAckSend_keeps {z : State} (s : State) (hz : Keeps z s) :
    Keeps z (State.mirrorAckSend s) := by
  unfold State.mirrorAckSend
  exact (State.banSend_keeps _ _ _ hz)

theorem execRampEnd_keeps {z : State} (s : State) (hz : Keeps z s) :
    KeepsA z (execRampEnd s) := by
  unfold execRampEnd
  exact (by
    split
    · exact (by
        split
        · extract_lets +onlyGivenNames x0_
          have h0_ : Keeps z x0_ := (keeps_frc hz _)
          try clear_value x0_
          revert x0_
          refine keeps_id ?_
          intro x0_ h0_
          exact (keeps_iteA (by
            extract_lets +onlyGivenNames x1_
            extract_lets +onlyGivenNames x2_
            have h2_ : Keeps z x2_ := (keeps_ban h0_ _ rfl)
            try clear_value x2_
            revert x2_
            refine keeps_id ?_
            intro x2_ h2_
            exact (keepsA_next (State.banSend_keeps _ _ _ h2_)))
          (keepsA_next h0_))
        · exact (keepsA_next hz))
    · exact (keepsA_next hz))

theorem State.setRbBlock_keeps {z : State} (s : State) (n : Nat) (b : Bool) (hz : Keeps z s) :
    Keeps z (State.setRbBlock s n b) := by
  unfold State.setRbBlock
  exact (State.wr64_keeps _ _ _ _ hz)

theorem State.roleAnswer_keeps {z : State} (s : State) (seq : Nat) (hz : Keeps z s) :
    Keeps z (State.roleAnswer s seq) := by
  unfold State.roleAnswer
  exact (State.banSend_keeps _ _ _ hz)

theorem execPlantHeartbeatSend_keeps {z : State} (s : State) (hz : Keeps z s) :
    KeepsA z (execPlantHeartbeatSend s) := by
  unfold execPlantHeartbeatSend
  exact (keeps_iteA (by
    extract_lets +onlyGivenNames x0_
    extract_lets +onlyGivenNames x1_
    have h1_ : Keeps z x1_ := (keeps_frc hz _)
    try clear_value x1_
    revert x1_
    refine keeps_id ?_
    intro x1_ h1_
    exact (keepsA_next (State.plantBeats_keeps _ _ (keeps_ban h1_ _ rfl))))
  (keepsA_next hz))

theorem State.isoShow_keeps {z : State} (s : State) (hz : Keeps z s) :
    Keeps z (State.isoShow s) := by
  unfold State.isoShow
  extract_lets +onlyGivenNames x0_
  extract_lets +onlyGivenNames x1_
  extract_lets +onlyGivenNames x2_
  extract_lets +onlyGivenNames x3_
  have h3_ : Keeps z x3_ := (State.wr_keeps _ _ _ hz)
  try clear_value x3_
  revert x3_
  refine keeps_id ?_
  intro x3_ h3_
  exact (State.wrB_keeps _ _ _ h3_)

theorem execHeartbeatSend_keeps {z : State} (s : State) (hz : Keeps z s) :
    KeepsA z (execHeartbeatSend s) := by
  unfold execHeartbeatSend
  extract_lets +onlyGivenNames x0_
  have h0_ : Keeps z x0_ := (keeps_frc hz _)
  try clear_value x0_
  revert x0_
  refine keeps_id ?_
  intro x0_ h0_
  extract_lets +onlyGivenNames x1_
  have h1_ : Keeps z x1_ := (State.banSend_keeps _ _ _ h0_)
  try clear_value x1_
  revert x1_
  refine keeps_id ?_
  intro x1_ h1_
  extract_lets +onlyGivenNames x2_
  exact (keepsA_next (keeps_ite (State.banAsk_keeps _ _ _ h1_)
  h1_))

theorem State.rampSet_keeps {z : State} (s : State) (r : Option (Nat × Bool)) (hz : Keeps z s) :
    Keeps z (State.rampSet s r) := by
  unfold State.rampSet
  exact (keeps_foldl (fun _ _ h0_ => (State.setIsland_keeps _ _ _ h0_))
  hz)

theorem execBanisterFrameDiscard_keeps {z : State} (type : Byte) (len : Nat) (lane : Fin 2) (s : State) (hz : Keeps z s) :
    KeepsA z (execBanisterFrameDiscard type len lane s) := by
  unfold execBanisterFrameDiscard
  exact (keeps_iteA (keepsA_next (State.post_keeps _ _ _ _ _ _ (State.bump_keeps _ _ hz)))
  (keepsA_next hz))

theorem execRampStart_keeps {z : State} (s : State) (hz : Keeps z s) :
    KeepsA z (execRampStart s) := by
  unfold execRampStart
  exact (by
    split
    · exact (by
        split
        · extract_lets +onlyGivenNames x0_
          have h0_ : Keeps z x0_ := (State.rampSet_keeps _ _ (keeps_frc hz _))
          try clear_value x0_
          revert x0_
          refine keeps_id ?_
          intro x0_ h0_
          exact (keepsA_next (keeps_ite h0_
          (keeps_ban h0_ _ rfl)))
        · exact (keepsA_next hz))
    · exact (keepsA_next hz))

theorem State.elect_keeps {z : State} (s : State) (code : Nat) (hz : Keeps z s) :
    Keeps z (State.elect s code) := by
  unfold State.elect
  extract_lets +onlyGivenNames x0_
  extract_lets +onlyGivenNames x1_
  have h1_ : Keeps z x1_ := (State.post_keeps _ _ _ _ _ _ (State.wr_keeps _ _ _ hz))
  try clear_value x1_
  revert x1_
  refine keeps_id ?_
  intro x1_ h1_
  exact (keeps_ite h1_
  (State.banAsk_keeps _ _ _ h1_))

theorem execLaneRestored_keeps {z : State} (l : Fin 2) (s : State) (hz : Keeps z s) :
    KeepsA z (execLaneRestored l s) := by
  unfold execLaneRestored
  exact (keeps_iteA (by
    extract_lets +onlyGivenNames x0_
    extract_lets +onlyGivenNames x1_
    have h1_ : Keeps z x1_ := (keeps_frc hz _)
    try clear_value x1_
    revert x1_
    refine keeps_id ?_
    intro x1_ h1_
    extract_lets +onlyGivenNames x2_
    have h2_ : Keeps z x2_ := (State.wr_keeps _ _ _ (State.wr_keeps _ _ _ h1_))
    try clear_value x2_
    revert x2_
    refine keeps_id ?_
    intro x2_ h2_
    extract_lets +onlyGivenNames x3_
    have h3_ : Keeps z x3_ := (State.post_keeps _ _ _ _ _ _ h2_)
    try clear_value x3_
    revert x3_
    refine keeps_id ?_
    intro x3_ h3_
    extract_lets +onlyGivenNames x4_
    have h4_ : Keeps z x4_ := (State.isoShow_keeps _ h3_)
    try clear_value x4_
    revert x4_
    refine keeps_id ?_
    intro x4_ h4_
    exact (keepsA_next (keeps_ite (State.demote_keeps _ _ _ h4_)
    h4_)))
  (keepsA_next hz))

theorem execHandshakeTimeout_keeps {z : State} (s : State) (hz : Keeps z s) :
    KeepsA z (execHandshakeTimeout s) := by
  unfold execHandshakeTimeout
  exact (by
    split
    · exact (keepsA_next hz)
    · extract_lets +onlyGivenNames x0_
      extract_lets +onlyGivenNames x1_
      have h1_ : Keeps z x1_ := (keeps_upd ⟨rfl, rfl, rfl, rfl, rfl, rfl, rfl, rfl⟩ hz)
      try clear_value x1_
      revert x1_
      refine keeps_id ?_
      intro x1_ h1_
      extract_lets +onlyGivenNames x2_
      have h2_ : Keeps z x2_ := (State.post_keeps _ _ _ _ _ _ (State.bump_keeps _ _ h1_))
      try clear_value x2_
      revert x2_
      refine keeps_id ?_
      intro x2_ h2_
      exact (keepsA_next (keeps_ban h2_ _ rfl)))

theorem State.hear_keeps {z : State} (s : State) (strap : Nat) (role : Nat) (hz : Keeps z s) :
    Keeps z (State.hear s strap role) := by
  unfold State.hear
  exact (keeps_ite (by
    extract_lets +onlyGivenNames x0_
    extract_lets +onlyGivenNames x1_
    have h1_ : Keeps z x1_ := (keeps_power hz _)
    try clear_value x1_
    revert x1_
    refine keeps_id ?_
    intro x1_ h1_
    exact (keeps_ite (State.elect_keeps _ _ h1_)
    h1_))
  hz)

theorem State.handoverOver_keeps {z : State} (s : State) (hz : Keeps z s) :
    Keeps z (State.handoverOver s) := by
  unfold State.handoverOver
  extract_lets +onlyGivenNames x0_
  have h0_ : Keeps z x0_ := (State.rampSet_keeps _ _ (State.wr_keeps _ _ _ hz))
  try clear_value x0_
  revert x0_
  refine keeps_id ?_
  intro x0_ h0_
  exact (keeps_ban h0_ _ rfl)

theorem execPlantHeartbeat_keeps {z : State} (p : Fin 4) (x : PlantBeat) (s : State) (hz : Keeps z s) :
    KeepsA z (execPlantHeartbeat p x s) := by
  unfold execPlantHeartbeat
  exact (keeps_iteA (by
    extract_lets +onlyGivenNames x0_
    extract_lets +onlyGivenNames x1_
    extract_lets +onlyGivenNames x2_
    have h2_ : Keeps z x2_ := (keeps_ban hz _ rfl)
    try clear_value x2_
    revert x2_
    refine keeps_id ?_
    intro x2_ h2_
    extract_lets +onlyGivenNames x3_
    have h3_ : Keeps z x3_ := (State.isoShow_keeps _ (State.setPeerRole_keeps _ _ h2_))
    try clear_value x3_
    revert x3_
    refine keeps_id ?_
    intro x3_ h3_
    exact (keeps_iteA (keepsA_next (State.elect_keeps _ _ (State.wr_keeps _ _ _ h3_)))
    (keepsA_next h3_)))
  (keepsA_next hz))

theorem State.mirrorEntry_keeps {z : State} (s : State) (seq : Nat) (x : Mirrored) (hz : Keeps z s) :
    Keeps z (State.mirrorEntry s seq x) := by
  unfold State.mirrorEntry
  extract_lets +onlyGivenNames x0_
  exact (keeps_ite (by
    extract_lets +onlyGivenNames x1_
    extract_lets +onlyGivenNames x2_
    have h2_ : Keeps z x2_ := (keeps_ban hz _ rfl)
    try clear_value x2_
    revert x2_
    refine keeps_id ?_
    intro x2_ h2_
    extract_lets +onlyGivenNames x3_
    exact (State.wr_keeps _ _ _ (State.setBytes_keeps _ _ _ h2_)))
  (keeps_ite (State.pgnStore_keeps _ _ _ _ _ _ hz)
  (State.setCanCh_keeps _ _ _ hz)))

theorem execMissingFrameDemote_keeps {z : State} (type : Byte) (s : State) (hz : Keeps z s) :
    KeepsA z (execMissingFrameDemote type s) := by
  unfold execMissingFrameDemote
  exact (keeps_iteA (by
    split
    · exact (keepsA_next (State.demote_keeps _ _ _ (keeps_frc hz _)))
    · exact (keepsA_next hz))
  (keepsA_next hz))

theorem State.joinLog_keeps {z : State} (s : State) (x : JoinLog) (len : Nat) (tick : Nat) (hz : Keeps z s) :
    Keeps z (State.joinLog s x len tick) := by
  unfold State.joinLog
  exact (by
    split
    · exact (keeps_ite hz
      (by
        extract_lets +onlyGivenNames x0_
        extract_lets +onlyGivenNames x1_
        extract_lets +onlyGivenNames x2_
        have h2_ : Keeps z x2_ := (keeps_ban hz _ rfl)
        try clear_value x2_
        revert x2_
        refine keeps_id ?_
        intro x2_ h2_
        extract_lets +onlyGivenNames x3_
        have h3_ : Keeps z x3_ := (State.wr_keeps _ _ _ h2_)
        try clear_value x3_
        revert x3_
        refine keeps_id ?_
        intro x3_ h3_
        exact (keeps_ite (State.joinEnd_keeps _ _ h3_)
        h3_)))
    · exact hz)

theorem execUncorrectableEcc_keeps {z : State} (s : State) (hz : Keeps z s) :
    KeepsA z (execUncorrectableEcc s) := by
  unfold execUncorrectableEcc
  exact (keepsA_next (State.faultTrigger_keeps _ _ hz))

theorem State.rxMirrorTake_keeps {z : State} (s : State) (seq : Nat) (entries : List Mirrored) (hz : Keeps z s) :
    Keeps z (State.rxMirrorTake s seq entries) := by
  unfold State.rxMirrorTake
  exact (keeps_ite (by
    extract_lets +onlyGivenNames x0_
    have h0_ : Keeps z x0_ := (keeps_foldl (fun _ _ h1_ => (State.mirrorEntry_keeps _ _ _ h1_))
    hz)
    try clear_value x0_
    revert x0_
    refine keeps_id ?_
    intro x0_ h0_
    exact (State.mirrorAckSend_keeps _ (keeps_ban h0_ _ rfl)))
  (keeps_ite (State.joinLog_keeps _ _ _ _ hz)
  hz))

theorem State.readbackTrigger_keeps {z : State} (s : State) (n : Nat) (hz : Keeps z s) :
    Keeps z (State.readbackTrigger s n) := by
  unfold State.readbackTrigger
  exact (keeps_ite (State.post_keeps _ _ _ _ _ _ hz)
  (keeps_ite (State.handover_keeps _ _ (State.rbMirror_keeps _ (State.setRbBlock_keeps _ _ _ hz)))
  (keeps_ite (State.wr_keeps _ _ _ (State.joinAbort_keeps _ hz))
  hz)))

theorem State.takeLead_keeps {z : State} (s : State) (hz : Keeps z s) :
    Keeps z (State.takeLead s) := by
  unfold State.takeLead
  exact (State.axTakeover_keeps _ (State.c1Choose_keeps _ hz))

theorem execLockstepMismatch_keeps {z : State} (s : State) (hz : Keeps z s) :
    KeepsA z (execLockstepMismatch s) := by
  unfold execLockstepMismatch
  exact (keepsA_next (State.faultTrigger_keeps _ _ hz))

theorem State.peerChange_keeps {z : State} (s : State) (r : Nat) (hz : Keeps z s) :
    Keeps z (State.peerChange s r) := by
  unfold State.peerChange
  extract_lets +onlyGivenNames x0_
  have h0_ : Keeps z x0_ := (State.setPeerRole_keeps _ _ hz)
  try clear_value x0_
  revert x0_
  refine keeps_id ?_
  intro x0_ h0_
  extract_lets +onlyGivenNames x1_
  have h1_ : Keeps z x1_ := (keeps_ite (State.joinAbort_keeps _ h0_)
  h0_)
  try clear_value x1_
  revert x1_
  refine keeps_id ?_
  intro x1_ h1_
  exact (keeps_ite (State.sendRole_keeps _ (State.alone_keeps _ h1_))
  h1_)

theorem State.roleTake_keeps {z : State} (s : State) (seq : Nat) (x : RoleMsg) (hz : Keeps z s) :
    Keeps z (State.roleTake s seq x) := by
  unfold State.roleTake
  exact (by
    split
    · exact (State.peerChange_keeps _ _ (State.roleAnswer_keeps _ _ hz))
    · extract_lets +onlyGivenNames x0_
      have h0_ : Keeps z x0_ := (State.wr_keeps _ _ _ (State.roleAnswer_keeps _ _ hz))
      try clear_value x0_
      revert x0_
      refine keeps_id ?_
      intro x0_ h0_
      exact (keeps_ite (State.wr_keeps _ _ _ h0_)
      h0_)
    · exact (State.roleAnswer_keeps _ _ hz)
    · extract_lets +onlyGivenNames x1_
      have h1_ : Keeps z x1_ := by
        subst x1_
        exact (by
          split
          · exact (State.wr_keeps _ _ _ hz)
          · exact hz)
      try clear_value x1_
      revert x1_
      refine keeps_id ?_
      intro x1_ h1_
      exact (State.hsDone_keeps _ _ h1_))

theorem State.takeHeld_keeps {z : State} (s : State) (h1' : Nat × List Byte) (hz : Keeps z s) :
    Keeps z (State.takeHeld s h1') := by
  unfold State.takeHeld
  extract_lets +onlyGivenNames x0_
  extract_lets +onlyGivenNames x1_
  exact (keeps_ite (by
    extract_lets +onlyGivenNames x2_
    exact (State.quePush_keeps _ _ _ hz))
  hz)

theorem execWatchdogExpiry_keeps {z : State} (s : State) (hz : Keeps z s) :
    KeepsA z (execWatchdogExpiry s) := by
  unfold execWatchdogExpiry
  exact (keepsA_next (State.faultTrigger_keeps _ _ hz))

theorem State.agreementTake_keeps {z : State} (s : State) (g : Agreement) (hz : Keeps z s) :
    Keeps z (State.agreementTake s g) := by
  unfold State.agreementTake
  exact (keeps_ite (by
    extract_lets +onlyGivenNames x0_
    have h0_ : Keeps z x0_ := (State.banSend_keeps _ _ _ hz)
    try clear_value x0_
    revert x0_
    refine keeps_id ?_
    intro x0_ h0_
    exact (State.followAll_keeps _ (keeps_ban h0_ _ rfl)))
  (keeps_ite (State.joinLog_keeps _ _ _ _ hz)
  hz))

theorem State.heartbeatTake_keeps {z : State} (s : State) (sent : Nat) (role : Nat) (phase : Nat) (hz : Keeps z s) :
    Keeps z (State.heartbeatTake s sent role phase) := by
  unfold State.heartbeatTake
  extract_lets +onlyGivenNames x0_
  have h0_ : Keeps z x0_ := (State.hear_keeps _ _ _ (State.peerChange_keeps _ _ hz))
  try clear_value x0_
  revert x0_
  refine keeps_id ?_
  intro x0_ h0_
  exact (by
    split
    · exact (keeps_ite (by
        extract_lets +onlyGivenNames x1_
        exact (State.tickShift_keeps _ _ h0_))
      h0_)
    · exact h0_)

theorem State.unknownHead_keeps {z : State} (s : State) (q : Nat) (hz : Keeps z s) :
    Keeps z (State.unknownHead s q) := by
  unfold State.unknownHead
  exact (keeps_ite hz
  (by
    extract_lets +onlyGivenNames x0_
    extract_lets +onlyGivenNames x1_
    extract_lets +onlyGivenNames x2_
    extract_lets +onlyGivenNames x3_
    extract_lets +onlyGivenNames x4_
    extract_lets +onlyGivenNames x5_
    extract_lets +onlyGivenNames x6_
    have h6_ : Keeps z x6_ := (State.useFree_keeps _ hz)
    try clear_value x6_
    revert x6_
    refine keeps_id ?_
    intro x6_ h6_
    extract_lets +onlyGivenNames x7_
    have h7_ : Keeps z x7_ := (keeps_ite (State.canComplete_keeps _ _ _ _ _ _ h6_)
    (keeps_ite (State.txDone_keeps _ _ _ _ h6_)
    (State.txDone_keeps _ _ _ _ h6_)))
    try clear_value x7_
    revert x7_
    refine keeps_id ?_
    intro x7_ h7_
    exact (State.post_keeps _ _ _ _ _ _ h7_)))

theorem execAoReadbackMismatch_keeps {z : State} (k : Fin 8) (c : Fin 8) (s : State) (hz : Keeps z s) :
    KeepsA z (execAoReadbackMismatch k c s) := by
  unfold execAoReadbackMismatch
  extract_lets +onlyGivenNames x0_
  exact (by
    split
    · exact (keepsA_next hz)
    · exact (keeps_iteA (keepsA_next hz)
      (by
        extract_lets +onlyGivenNames x1_
        have h1_ : Keeps z x1_ := (State.waitTo_keeps _ _ hz)
        try clear_value x1_
        revert x1_
        refine keeps_id ?_
        intro x1_ h1_
        extract_lets +onlyGivenNames x2_
        have h2_ : Keeps z x2_ := (State.aoFlags_keeps _ _ _ (State.wr_keeps _ _ _ h1_))
        try clear_value x2_
        revert x2_
        refine keeps_id ?_
        intro x2_ h2_
        extract_lets +onlyGivenNames x3_
        have h3_ : Keeps z x3_ := (State.post_keeps _ _ _ _ _ _ h2_)
        try clear_value x3_
        revert x3_
        refine keeps_id ?_
        intro x3_ h3_
        exact (keepsA_next (State.readbackTrigger_keeps _ _ h3_)))))

theorem execDoReadbackMismatch_keeps {z : State} (k : Fin 8) (c : Fin 8) (s : State) (hz : Keeps z s) :
    KeepsA z (execDoReadbackMismatch k c s) := by
  unfold execDoReadbackMismatch
  extract_lets +onlyGivenNames x0_
  extract_lets +onlyGivenNames x1_
  exact (by
    split
    · exact (keepsA_next hz)
    · exact (keeps_iteA (by
        extract_lets +onlyGivenNames x2_
        extract_lets +onlyGivenNames x3_
        have h3_ : Keeps z x3_ := (State.setCh_keeps _ _ _ _ (State.waitTo_keeps _ _ hz))
        try clear_value x3_
        revert x3_
        refine keeps_id ?_
        intro x3_ h3_
        exact (keepsA_next (State.readbackTrigger_keeps _ _ (State.post_keeps _ _ _ _ _ _ h3_))))
      (keepsA_next hz)))

theorem State.unknownAll_keeps {z : State} (s : State) (hz : Keeps z s) :
    Keeps z (State.unknownAll s) := by
  unfold State.unknownAll
  exact (keeps_foldl (fun _ _ h0_ => (keeps_ite (keeps_foldl (fun _ _ h1_ => (State.unknownHead_keeps _ _ h1_))
  h0_)
  h0_))
  hz)

theorem State.takeoverNew_keeps {z : State} (s : State) (h1' : Handover) (unknown : List (Fin 64)) (hz : Keeps z s) :
    Keeps z (State.takeoverNew s h1' unknown) := by
  unfold State.takeoverNew
  extract_lets +onlyGivenNames x0_
  extract_lets +onlyGivenNames x1_
  have h1_ : Keeps z x1_ := (State.wr_keeps _ _ _ (State.useFree_keeps _ hz))
  try clear_value x1_
  revert x1_
  refine keeps_id ?_
  intro x1_ h1_
  extract_lets +onlyGivenNames x2_
  extract_lets +onlyGivenNames x3_
  extract_lets +onlyGivenNames x4_
  extract_lets +onlyGivenNames x5_
  have h5_ : Keeps z x5_ := (State.setRole_keeps _ _ (State.handoverOver_keeps _ (keeps_ban h1_ _ rfl)))
  try clear_value x5_
  revert x5_
  refine keeps_id ?_
  intro x5_ h5_
  extract_lets +onlyGivenNames x6_
  have h6_ : Keeps z x6_ := (State.setPeerRole_keeps _ _ h5_)
  try clear_value x6_
  revert x6_
  refine keeps_id ?_
  intro x6_ h6_
  extract_lets +onlyGivenNames x7_
  have h7_ : Keeps z x7_ := (keeps_foldl (fun _ _ h8_ => (State.unknownHead_keeps _ _ h8_))
  h6_)
  try clear_value x7_
  revert x7_
  refine keeps_id ?_
  intro x7_ h7_
  extract_lets +onlyGivenNames x9_
  have h9_ : Keeps z x9_ := (keeps_foldl (fun _ _ h10_ => (State.unknownHead_keeps _ _ h10_))
  h7_)
  try clear_value x9_
  revert x9_
  refine keeps_id ?_
  intro x9_ h9_
  exact (State.post_keeps _ _ _ _ _ _ (State.takeLead_keeps _ (State.stationBeats_keeps _ h9_)))

theorem State.laneTakeover_keeps {z : State} (s : State) (forced : Bool) (hz : Keeps z s) :
    Keeps z (State.laneTakeover s forced) := by
  unfold State.laneTakeover
  extract_lets +onlyGivenNames x0_
  have h0_ : Keeps z x0_ := (State.isoShow_keeps _ hz)
  try clear_value x0_
  revert x0_
  refine keeps_id ?_
  intro x0_ h0_
  extract_lets +onlyGivenNames x1_
  extract_lets +onlyGivenNames x2_
  extract_lets +onlyGivenNames x3_
  have h3_ : Keeps z x3_ := (State.setRole_keeps _ _ (State.pairOver_keeps _ h0_))
  try clear_value x3_
  revert x3_
  refine keeps_id ?_
  intro x3_ h3_
  extract_lets +onlyGivenNames x4_
  have h4_ : Keeps z x4_ := (keeps_foldl (fun _ _ h5_ => (keeps_ite (State.setTask_keeps _ _ _ h5_)
  h5_))
  h3_)
  try clear_value x4_
  revert x4_
  refine keeps_id ?_
  intro x4_ h4_
  extract_lets +onlyGivenNames x6_
  have h6_ : Keeps z x6_ := (State.unknownAll_keeps _ (State.bump_keeps _ _ (State.wr_keeps _ _ _ h4_)))
  try clear_value x6_
  revert x6_
  refine keeps_id ?_
  intro x6_ h6_
  exact (State.post_keeps _ _ _ _ _ _ (State.takeLead_keeps _ h6_))

theorem State.banCmdWrite_keeps {z : State} (s : State) (v : Nat) (hz : Keeps z s) :
    Keeps z (State.banCmdWrite s v) := by
  unfold State.banCmdWrite
  extract_lets +onlyGivenNames x0_
  extract_lets +onlyGivenNames x1_
  extract_lets +onlyGivenNames x2_
  exact (keeps_ite hz
  (keeps_ite (keeps_ite (State.cmdStat_keeps _ _ _ _ hz)
  (keeps_ite (State.cmdStat_keeps _ _ _ _ hz)
  (keeps_ite (State.cmdStat_keeps _ _ _ _ hz)
  (keeps_ite (State.cmdStat_keeps _ _ _ _ hz)
  (State.handover_keeps _ _ (State.cmdStat_keeps _ _ _ _ hz))))))
  (keeps_ite (State.rbMirror_keeps _ (State.setRbBlock_keeps _ _ _ (State.cmdStat_keeps _ _ _ _ hz)))
  (keeps_ite (State.rbMirror_keeps _ (State.wr64_keeps _ _ _ _ (State.cmdStat_keeps _ _ _ _ hz)))
  (keeps_ite (keeps_ite (State.cmdStat_keeps _ _ _ _ hz)
  (keeps_ite (State.cmdStat_keeps _ _ _ _ hz)
  (State.laneTakeover_keeps _ _ (State.cmdStat_keeps _ _ _ _ hz))))
  hz)))))

theorem State.inquiryDecide_keeps {z : State} (s : State) (q : Inquiry) (own : Nat) (peer : Option Nat) (hz : Keeps z s) :
    Keeps z (State.inquiryDecide s q own peer) := by
  unfold State.inquiryDecide
  extract_lets +onlyGivenNames x0_
  extract_lets +onlyGivenNames x1_
  extract_lets +onlyGivenNames x2_
  extract_lets +onlyGivenNames x3_
  extract_lets +onlyGivenNames x4_
  have h4_ : Keeps z x4_ := (State.wr_keeps _ _ _ (State.wr_keeps _ _ _ hz))
  try clear_value x4_
  revert x4_
  refine keeps_id ?_
  intro x4_ h4_
  extract_lets +onlyGivenNames x5_
  have h5_ : Keeps z x5_ := (State.wr_keeps _ _ _ (State.wr_keeps _ _ _ h4_))
  try clear_value x5_
  revert x5_
  refine keeps_id ?_
  intro x5_ h5_
  extract_lets +onlyGivenNames x6_
  have h6_ : Keeps z x6_ := (State.post_keeps _ _ _ _ _ _ (State.inquiryOver_keeps _ h5_))
  try clear_value x6_
  revert x6_
  refine keeps_id ?_
  intro x6_ h6_
  extract_lets +onlyGivenNames x7_
  exact (keeps_ite (keeps_ite (State.alone_keeps _ (State.setPeerRole_keeps _ _ h6_))
  (State.demote_keeps _ _ _ h6_))
  (keeps_ite (keeps_ite (State.handover_keeps _ _ h6_)
  (State.fail_keeps _ _ h6_))
  (keeps_ite (keeps_ite (State.alone_keeps _ (State.setPeerRole_keeps _ _ h6_))
  h6_)
  (keeps_ite (by
    extract_lets +onlyGivenNames x8_
    extract_lets +onlyGivenNames x9_
    have h9_ : Keeps z x9_ := (keeps_foldl (fun _ _ h10_ => (State.setTaskState_keeps _ _ _ (State.commitSafe_keeps _ _ h10_)))
    h6_)
    try clear_value x9_
    revert x9_
    refine keeps_id ?_
    intro x9_ h9_
    extract_lets +onlyGivenNames x11_
    have h11_ : Keeps z x11_ := (State.post_keeps _ _ _ _ _ _ (State.wr_keeps _ _ _ h9_))
    try clear_value x11_
    revert x11_
    refine keeps_id ?_
    intro x11_ h11_
    exact (State.alone_keeps _ (State.setPeerRole_keeps _ _ (State.post_keeps _ _ _ _ _ _ h11_))))
  (State.fail_keeps _ _ h6_)))))

theorem execForceTakeover_keeps {z : State} (m : Master) (s : State) (hz : Keeps z s) :
    KeepsA z (execForceTakeover m s) := by
  unfold execForceTakeover
  exact (keepsA_next (State.access_keeps _ _ _ _ _ _ hz (fun _ h0_ => (State.banCmdWrite_keeps _ _ h0_))))

theorem execLaneLossTakeover_keeps {z : State} (s : State) (hz : Keeps z s) :
    KeepsA z (execLaneLossTakeover s) := by
  unfold execLaneLossTakeover
  extract_lets +onlyGivenNames x0_
  have h0_ : Keeps z x0_ := (State.isoShow_keeps _ hz)
  try clear_value x0_
  revert x0_
  refine keeps_id ?_
  intro x0_ h0_
  exact (keeps_iteA (keepsA_next (State.laneTakeover_keeps _ _ h0_))
  (keepsA_next h0_))

theorem execBanHandover_keeps {z : State} (m : Master) (s : State) (hz : Keeps z s) :
    KeepsA z (execBanHandover m s) := by
  unfold execBanHandover
  exact (keepsA_next (State.access_keeps _ _ _ _ _ _ hz (fun _ h0_ => (State.banCmdWrite_keeps _ _ h0_))))

theorem State.lanesGone_keeps {z : State} (s : State) (hz : Keeps z s) :
    Keeps z (State.lanesGone s) := by
  unfold State.lanesGone
  extract_lets +onlyGivenNames x0_
  extract_lets +onlyGivenNames x1_
  extract_lets +onlyGivenNames x2_
  have h2_ : Keeps z x2_ := (State.joinAbort_keeps _ hz)
  try clear_value x2_
  revert x2_
  refine keeps_id ?_
  intro x2_ h2_
  extract_lets +onlyGivenNames x3_
  extract_lets +onlyGivenNames x4_
  have h4_ : Keeps z x4_ := (keeps_ban h2_ _ rfl)
  try clear_value x4_
  revert x4_
  refine keeps_id ?_
  intro x4_ h4_
  exact (keeps_ite h4_
  (keeps_ite (State.alone_keeps _ h4_)
  (keeps_ite (by
    extract_lets +onlyGivenNames x5_
    have h5_ : Keeps z x5_ := (State.isoShow_keeps _ h4_)
    try clear_value x5_
    revert x5_
    refine keeps_id ?_
    intro x5_ h5_
    exact (keeps_ite (State.laneTakeover_keeps _ _ h5_)
    (State.post_keeps _ _ _ _ _ _ (State.setRole_keeps _ _ (State.pairOver_keeps _ (State.inquiryOver_keeps _ h5_))))))
  h4_)))

theorem State.settleWaits_keeps {z : State} (s : State) (cycles : List Nat) (hz : Keeps z s) :
    Keeps z (State.settleWaits s cycles).1 := by
  unfold State.settleWaits
  have key : ∀ (l : List Nat) (r : State × Nat), Keeps z r.1 → Keeps z (l.foldl (fun (r : State × Nat) t =>
      let s := r.1
      if !(s.task t).waits then r
      else if s.taskCycle t ≤ (cycles[t]?).getD 0 ∧ !(s.task t).late then (s.commitNow t, r.2)
      else
        let s := s.setTask t { s.task t with waits := false, late := false }
        let s : State := if s.fastest = some t then { s with ban := { s.ban with lastC := s.ban.lastC - baseTick * s.taskPeriod t } } else s
        (s, r.2 + 1)) r).1 := by
    intro l
    induction l with
    | nil => exact fun r h => h
    | cons t l ih =>
      intro r h
      refine ih _ ?_
      dsimp only
      refine keeps_iteP h (keeps_iteP (State.commitNow_keeps _ _ h) ?_)
      have h1 := State.setTask_keeps r.1 t { r.1.task t with waits := false, late := false } h
      exact keeps_ite (keeps_upd ⟨rfl, rfl, rfl, rfl, rfl, rfl, rfl, rfl⟩ h1) h1
  exact key _ _ hz

theorem execRearmAll_keeps {z : State} (m : Master) (s : State) (hz : Keeps z s) :
    KeepsA z (execRearmAll m s) := by
  unfold execRearmAll
  exact (keepsA_next (State.access_keeps _ _ _ _ _ _ hz (fun _ h0_ => (State.banCmdWrite_keeps _ _ h0_))))

theorem execRearmReadback_keeps {z : State} (m : Master) (k : Fin 8) (c : Fin 8) (s : State) (hz : Keeps z s) :
    KeepsA z (execRearmReadback m k c s) := by
  unfold execRearmReadback
  exact (keepsA_next (State.access_keeps _ _ _ _ _ _ hz (fun _ h0_ => (State.banCmdWrite_keeps _ _ h0_))))

theorem State.inquiryTake_keeps {z : State} (s : State) (peer : Bool) (failed : Nat) (hz : Keeps z s) :
    Keeps z (State.inquiryTake s peer failed) := by
  unfold State.inquiryTake
  exact (by
    split
    · exact hz
    · extract_lets +onlyGivenNames x0_
      extract_lets +onlyGivenNames x1_
      have h1_ : Keeps z x1_ := (keeps_ite hz
      (State.banSend_keeps _ _ _ hz))
      try clear_value x1_
      revert x1_
      refine keeps_id ?_
      intro x1_ h1_
      extract_lets +onlyGivenNames x2_
      extract_lets +onlyGivenNames x3_
      have h3_ : Keeps z x3_ := (keeps_ban h1_ _ rfl)
      try clear_value x3_
      revert x3_
      refine keeps_id ?_
      intro x3_ h3_
      exact (by
        split
        · exact (State.inquiryDecide_keeps _ _ _ _ h3_)
        · exact h3_))

theorem execInquiryTimeout_keeps {z : State} (s : State) (hz : Keeps z s) :
    KeepsA z (execInquiryTimeout s) := by
  unfold execInquiryTimeout
  exact (by
    split
    · exact (keepsA_next hz)
    · exact (keeps_iteA (keepsA_next hz)
      (by
        extract_lets +onlyGivenNames x0_
        have h0_ : Keeps z x0_ := (keeps_frc hz _)
        try clear_value x0_
        revert x0_
        refine keeps_id ?_
        intro x0_ h0_
        exact (by
          split
          · exact (keepsA_next (State.inquiryDecide_keeps _ _ _ _ h0_))
          · exact (keepsA_next (keeps_ban h0_ _ rfl))))))

theorem State.takeoverOld_keeps {z : State} (s : State) (h1' : Handover) (hz : Keeps z s) :
    Keeps z (State.takeoverOld s h1') := by
  unfold State.takeoverOld
  extract_lets +onlyGivenNames x0_
  have h0_ : Keeps z x0_ := (State.handoverOver_keeps _ hz)
  try clear_value x0_
  revert x0_
  refine keeps_id ?_
  intro x0_ h0_
  extract_lets +onlyGivenNames x1_
  have h1_ : Keeps z x1_ := (keeps_foldl (fun _ _ h2_ => (State.setCanCh_keeps _ _ _ h2_))
  h0_)
  try clear_value x1_
  revert x1_
  refine keeps_id ?_
  intro x1_ h1_
  extract_lets +onlyGivenNames x3_
  have h3_ : Keeps z x3_ := (keeps_foldl (fun _ _ h4_ => (State.setEthPort_keeps _ _ _ h4_))
  h1_)
  try clear_value x3_
  revert x3_
  refine keeps_id ?_
  intro x3_ h3_
  extract_lets +onlyGivenNames x5_
  have h5_ : Keeps z x5_ := (keeps_foldl (fun _ _ h6_ => (State.wr_keeps _ _ _ h6_))
  (keeps_ser h3_ _))
  try clear_value x5_
  revert x5_
  refine keeps_id ?_
  intro x5_ h5_
  exact (keeps_ite (by
    extract_lets +onlyGivenNames x7_
    have h7_ : Keeps z x7_ := (State.setPeerRole_keeps _ _ (State.setRole_keeps _ _ h5_))
    try clear_value x7_
    revert x7_
    refine keeps_id ?_
    intro x7_ h7_
    exact (keeps_ite (State.lanesGone_keeps _ h7_)
    h7_))
  (keeps_ite (by
    extract_lets +onlyGivenNames x8_
    have h8_ : Keeps z x8_ := by
      subst x8_
      exact (by
        split
        · exact (keeps_ite (State.post_keeps _ _ _ _ _ _ h5_)
          h5_)
        · exact h5_)
    try clear_value x8_
    revert x8_
    refine keeps_id ?_
    intro x8_ h8_
    extract_lets +onlyGivenNames x9_
    extract_lets +onlyGivenNames x10_
    have h10_ : Keeps z x10_ := (keeps_ban h8_ _ rfl)
    try clear_value x10_
    revert x10_
    refine keeps_id ?_
    intro x10_ h10_
    exact (State.setPeerRole_keeps _ _ (State.scnHalt_keeps _ (State.setRole_keeps _ _ h10_))))
  (State.setPeerRole_keeps _ _ (State.fail_keeps _ _ h5_))))

theorem execLaneLost_keeps {z : State} (l : Fin 2) (s : State) (hz : Keeps z s) :
    KeepsA z (execLaneLost l s) := by
  unfold execLaneLost
  exact (keeps_iteA (by
    extract_lets +onlyGivenNames x0_
    extract_lets +onlyGivenNames x1_
    have h1_ : Keeps z x1_ := (keeps_frc hz _)
    try clear_value x1_
    revert x1_
    refine keeps_id ?_
    intro x1_ h1_
    extract_lets +onlyGivenNames x2_
    have h2_ : Keeps z x2_ := (State.wr_keeps _ _ _ (State.wr_keeps _ _ _ h1_))
    try clear_value x2_
    revert x2_
    refine keeps_id ?_
    intro x2_ h2_
    extract_lets +onlyGivenNames x3_
    extract_lets +onlyGivenNames x4_
    extract_lets +onlyGivenNames x5_
    have h5_ : Keeps z x5_ := (keeps_ban h2_ _ rfl)
    try clear_value x5_
    revert x5_
    refine keeps_id ?_
    intro x5_ h5_
    extract_lets +onlyGivenNames x6_
    have h6_ : Keeps z x6_ := (State.post_keeps _ _ _ _ _ _ h5_)
    try clear_value x6_
    revert x6_
    refine keeps_id ?_
    intro x6_ h6_
    exact (keepsA_next (keeps_ite h6_
    (State.lanesGone_keeps _ h6_))))
  (keepsA_next hz))

theorem execStrictDigestTimeout_keeps {z : State} (t : Fin 16) (s : State) (hz : Keeps z s) :
    KeepsA z (execStrictDigestTimeout t s) := by
  unfold execStrictDigestTimeout
  exact (keepsA_next (State.strictLate_keeps _ _ hz))

theorem execDigestMissing_keeps {z : State} (t : Fin 16) (s : State) (hz : Keeps z s) :
    KeepsA z (execDigestMissing t s) := by
  unfold execDigestMissing
  exact (keeps_iteA (keepsA_next (State.digestMissing_keeps _ _ (keeps_frc hz _)))
  (keepsA_next hz))

theorem State.duesLead_keeps {z : State} (s : State) (hz : Keeps z s) :
    Keeps z (State.duesLead s) := by
  unfold State.duesLead
  extract_lets +onlyGivenNames x0_
  exact (keeps_foldl (fun _ _ h1_ => (State.inTick_keeps _ _ _ h1_ (fun _ h2_ => (State.tickLead_keeps _ h2_))))
  (keeps_scn hz _))

theorem State.digestTake_keeps {z : State} (s : State) (d : Digest) (hz : Keeps z s) :
    Keeps z (State.digestTake s d) := by
  unfold State.digestTake
  exact (keeps_ite (State.joinLog_keeps _ _ _ _ hz)
  (keeps_ite hz
  (by
    extract_lets +onlyGivenNames x0_
    extract_lets +onlyGivenNames x1_
    have h1_ : Keeps z x1_ := (keeps_ban hz _ rfl)
    try clear_value x1_
    revert x1_
    refine keeps_id ?_
    intro x1_ h1_
    exact (keeps_ite (keeps_ite (State.followStep_keeps _ _ h1_)
    (State.strictStep_keeps _ _ h1_))
    (State.compare_keeps _ _ _ h1_)))))

theorem State.handoverTake_keeps {z : State} (s : State) (seq : Nat) (x : Notice) (hz : Keeps z s) :
    Keeps z (State.handoverTake s seq x) := by
  unfold State.handoverTake
  exact (keeps_ite (State.shutdownSend_keeps _ hz)
  (keeps_ite hz
  (by
    extract_lets +onlyGivenNames x0_
    have h0_ : Keeps z x0_.1 := (State.settleWaits_keeps _ _ (State.inquiryOver_keeps _ (State.slvFollow_keeps _ hz)))
    try clear_value x0_
    revert x0_
    refine keeps_id ?_
    intro x0_ h0_
    extract_lets +onlyGivenNames x1_
    have h1_ : Keeps z x1_ := h0_
    try clear_value x1_
    revert x1_
    refine keeps_id ?_
    intro x1_ h1_
    extract_lets +onlyGivenNames x2_
    have h2_ : Keeps z x2_ := (State.wr_keeps _ _ _ (State.wr_keeps _ _ _ h1_))
    try clear_value x2_
    revert x2_
    refine keeps_id ?_
    intro x2_ h2_
    extract_lets +onlyGivenNames x3_
    have h3_ : Keeps z x3_ := (State.bump_keeps _ _ (State.wr_keeps _ _ _ h2_))
    try clear_value x3_
    revert x3_
    refine keeps_id ?_
    intro x3_ h3_
    extract_lets +onlyGivenNames x4_
    extract_lets +onlyGivenNames x5_
    have h5_ : Keeps z x5_ := (State.banSend_keeps _ _ _ (State.roleAnswer_keeps _ _ h3_))
    try clear_value x5_
    revert x5_
    refine keeps_id ?_
    intro x5_ h5_
    extract_lets +onlyGivenNames x6_
    have h6_ : Keeps z x6_ := (keeps_foldl (fun _ _ h7_ => (by
      extract_lets +onlyGivenNames x8_
      exact (keeps_ite (State.releaseTold_keeps _ _ h7_)
      h7_)))
    h5_)
    try clear_value x6_
    revert x6_
    refine keeps_id ?_
    intro x6_ h6_
    extract_lets +onlyGivenNames x9_
    extract_lets +onlyGivenNames x10_
    have h10_ : Keeps z x10_ := (State.rollBack_keeps _ _ _ (keeps_ban h6_ _ rfl))
    try clear_value x10_
    revert x10_
    refine keeps_id ?_
    intro x10_ h10_
    extract_lets +onlyGivenNames x11_
    extract_lets +onlyGivenNames x12_
    extract_lets +onlyGivenNames x13_
    extract_lets +onlyGivenNames x14_
    have h14_ : Keeps z x14_ := (keeps_upd ⟨rfl, rfl, rfl, rfl, rfl, rfl, rfl, rfl⟩ h10_)
    try clear_value x14_
    revert x14_
    refine keeps_id ?_
    intro x14_ h14_
    extract_lets +onlyGivenNames x15_
    have h15_ : Keeps z x15_ := (keeps_foldl (fun _ _ h16_ => (State.setCanCh_keeps _ _ _ h16_))
    h14_)
    try clear_value x15_
    revert x15_
    refine keeps_id ?_
    intro x15_ h15_
    exact (State.duesLead_keeps _ (keeps_foldl (fun _ _ h17_ => (State.takeHeld_keeps _ _ h17_))
    h15_)))))

theorem execTakeoverInstant_keeps {z : State} (unknown : List (Fin 64)) (s : State) (hz : Keeps z s) :
    KeepsA z (execTakeoverInstant unknown s) := by
  unfold execTakeoverInstant
  exact (by
    split
    · exact (keepsA_next hz)
    · extract_lets +onlyGivenNames x0_
      exact (keeps_iteA (keepsA_next hz)
      (by
        extract_lets +onlyGivenNames x1_
        have h1_ : Keeps z x1_ := (State.commitsTo_keeps _ _ hz)
        try clear_value x1_
        revert x1_
        refine keeps_id ?_
        intro x1_ h1_
        extract_lets +onlyGivenNames x2_
        extract_lets +onlyGivenNames x3_
        have h3_ : Keeps z x3_ := (keeps_frc h1_ _)
        try clear_value x3_
        revert x3_
        refine keeps_id ?_
        intro x3_ h3_
        exact (keepsA_next (keeps_ite (State.takeoverOld_keeps _ _ h3_)
        (State.takeoverNew_keeps _ _ _ h3_))))))

end Sys2Proof.Machine
end

