-- ==== Sys2Proof/Laws/KeepsNoticeboard.lean ====
section
/-!
SUPPORT. What the operations of Machine/Noticeboard.lean keep (Laws/Keeps.lean).
-/
namespace Sys2Proof.Machine

theorem State.nbBoundary_keeps {z : State} (s : State) (hz : Keeps z s) :
    Keeps z (State.nbBoundary s) := by
  unfold State.nbBoundary
  extract_lets +onlyGivenNames x0_
  exact (keeps_upd ⟨rfl, rfl, rfl, rfl, rfl, rfl, rfl, rfl⟩ hz)

theorem State.nbComplete_keeps {z : State} (s : State) (q : Nat) (u : NbUpd) (status detail : Nat) (hz : Keeps z s) :
    Keeps z (State.nbComplete s q u status detail) := by
  unfold State.nbComplete
  have h : ∀ t : State, Keeps z t →
      Keeps z { t with nb := { t.nb with upds := t.nb.upds.drop 1, doneAt := t.frc } } := by
    intro t ht
    refine keeps_upds ht (fun hs => ?_) ⟨rfl, rfl, rfl, rfl, rfl, rfl, rfl⟩
    have hl := (ht.2.2 hs).2.2.2.2.2
    simp only [List.length_drop]
    omega
  cases u.band with
  | none => exact State.queComplete_keeps _ _ _ _ (h _ (State.useFree_keeps s hz))
  | some b => exact State.queComplete_keeps _ _ _ _ (h _ hz)

theorem State.nbCompletions_keeps {z : State} (s : State) (shut : Bool) (n : Nat) (hz : Keeps z s) :
    Keeps z (State.nbCompletions s shut n) := by
  induction n generalizing s with
  | zero => exact hz
  | succ n ih =>
    unfold State.nbCompletions
    split
    · split
      · exact ih _ (State.nbComplete_keeps _ _ _ _ _ hz)
      · exact keeps_ite (ih _ (State.nbComplete_keeps _ _ _ _ _ hz))
          (keeps_ite (ih _ (State.nbComplete_keeps _ _ _ _ _ hz)) hz)
    · exact hz

theorem State.nbTarget_keeps {z : State} (s : State) (k : Nat) (tgt : Nat) (fast : Bool) (no : Nat) (hz : Keeps z s) :
    Keeps z (State.nbTarget s k tgt fast no) := by
  unfold State.nbTarget
  extract_lets +onlyGivenNames x0_
  extract_lets +onlyGivenNames x1_
  exact (keeps_ite (keeps_nb hz _ rfl)
  (keeps_nb hz _ rfl))

theorem State.nbShut_keeps {z : State} (s : State) (hz : Keeps z s) :
    Keeps z (State.nbShut s) := by
  unfold State.nbShut
  exact (keeps_ite (State.nbCompletions_keeps _ _ _ hz)
  hz)

theorem State.nbLightWrite_keeps {z : State} (s : State) (v : Nat) (hz : Keeps z s) :
    Keeps z (State.nbLightWrite s v) := by
  unfold State.nbLightWrite
  exact (keeps_ite hz
  (by
    extract_lets +onlyGivenNames x0_
    have h0_ : Keeps z x0_ := (State.wr_keeps _ _ _ hz)
    try clear_value x0_
    revert x0_
    refine keeps_id ?_
    intro x0_ h0_
    exact (keeps_ite h0_
    (keeps_ite (by
      extract_lets +onlyGivenNames x1_
      have h1_ : Keeps z x1_ := (State.wr_keeps _ _ _ h0_)
      try clear_value x1_
      revert x1_
      refine keeps_id ?_
      intro x1_ h1_
      exact (keeps_ite (State.wr_keeps _ _ _ h1_)
      (keeps_ite h1_
      (keeps_nb h1_ _ rfl))))
    (State.wr_keeps _ _ _ (State.wr_keeps _ _ _ h0_))))))

theorem State.nbLightOn_keeps {z : State} (s : State) (hz : Keeps z s) :
    Keeps z (State.nbLightOn s) := by
  unfold State.nbLightOn
  exact (keeps_ite (by
    extract_lets +onlyGivenNames x0_
    extract_lets +onlyGivenNames x1_
    have h1_ : Keeps z x1_ := (keeps_nb hz _ rfl)
    try clear_value x1_
    revert x1_
    refine keeps_id ?_
    intro x1_ h1_
    exact (keeps_ite (State.wr_keeps _ _ _ h1_)
    h1_))
  hz)

theorem execNbQuiescentCommit_keeps {z : State} (s : State) (hz : Keeps z s) :
    KeepsA z (execNbQuiescentCommit s) := by
  unfold execNbQuiescentCommit
  exact (keeps_iteA (by
    extract_lets +onlyGivenNames x0_
    exact (keepsA_next (State.wr_keeps _ _ _ (keeps_nb hz _ rfl))))
  (keepsA_next hz))

theorem State.nbState_keeps {z : State} (s : State) (hz : Keeps z s) :
    Keeps z (State.nbState s) := by
  unfold State.nbState
  exact (keeps_ite hz
  (State.wr_keeps _ _ _ hz))

theorem State.nbDirty_keeps {z : State} (s : State) (hz : Keeps z s) :
    Keeps z (State.nbDirty s) := by
  unfold State.nbDirty
  exact (State.wr_keeps _ _ _ hz)

theorem State.nbPowerFail_keeps {z : State} (s : State) (hz : Keeps z s) :
    Keeps z (State.nbPowerFail s) := by
  unfold State.nbPowerFail
  extract_lets +onlyGivenNames x0_
  extract_lets +onlyGivenNames x1_
  extract_lets +onlyGivenNames x2_
  extract_lets +onlyGivenNames x3_
  extract_lets +onlyGivenNames x4_
  have h4_ : Keeps z x4_ := (keeps_upds hz (fun hs => by have hl := (hz.2.2 hs).2.2.2.2.2; first | simpa +zetaDelta using hl | (simp +zetaDelta; split <;> (try split) <;> simp_all)) ⟨rfl, rfl, rfl, rfl, rfl, rfl, rfl⟩)
  try clear_value x4_
  revert x4_
  refine keeps_id ?_
  intro x4_ h4_
  exact (State.nbShut_keeps _ h4_)

theorem State.nbShow_keeps {z : State} (s : State) (hz : Keeps z s) :
    Keeps z (State.nbShow s) := by
  unfold State.nbShow
  extract_lets +onlyGivenNames x0_
  extract_lets +onlyGivenNames x1_
  exact (State.wrB_keeps _ _ _ (State.wr_keeps _ _ _ (State.wr_keeps _ _ _ hz)))

theorem State.nbCmdWrite_keeps {z : State} (s : State) (v : Nat) (hz : Keeps z s) :
    Keeps z (State.nbCmdWrite s v) := by
  unfold State.nbCmdWrite
  extract_lets +onlyGivenNames x0_
  exact (keeps_ite hz
  (by
    extract_lets +onlyGivenNames x1_
    exact (keeps_ite (State.cmdStat_keeps _ _ _ _ hz)
    (keeps_ite (keeps_ite (State.cmdStat_keeps _ _ _ _ hz)
    (by
      extract_lets +onlyGivenNames x2_
      have h2_ : Keeps z x2_ := (State.cmdStat_keeps _ _ _ _ hz)
      try clear_value x2_
      revert x2_
      refine keeps_id ?_
      intro x2_ h2_
      exact (keeps_nb h2_ _ rfl)))
    (keeps_ite (keeps_ite (State.cmdStat_keeps _ _ _ _ hz)
    (State.wr_keeps _ _ _ (State.cmdStat_keeps _ _ _ _ hz)))
    (keeps_ite (State.cmdStat_keeps _ _ _ _ hz)
    (by
      extract_lets +onlyGivenNames x3_
      have h3_ : Keeps z x3_ := (State.cmdStat_keeps _ _ _ _ hz)
      try clear_value x3_
      revert x3_
      refine keeps_id ?_
      intro x3_ h3_
      exact (keeps_nb h3_ _ rfl))))))))

theorem State.nbRailsOff_keeps {z : State} (s : State) (hz : Keeps z s) :
    Keeps z (State.nbRailsOff s) := by
  unfold State.nbRailsOff
  exact (State.wr_keeps _ _ _ hz)

theorem execNbRailsDown_keeps {z : State} (s : State) (hz : Keeps z s) :
    KeepsA z (execNbRailsDown s) := by
  unfold execNbRailsDown
  extract_lets +onlyGivenNames x0_
  extract_lets +onlyGivenNames x1_
  exact (keeps_iteA (by
    extract_lets +onlyGivenNames x2_
    have h2_ : Keeps z x2_ := (keeps_ite hz
    (keeps_frc hz _))
    try clear_value x2_
    revert x2_
    refine keeps_id ?_
    intro x2_ h2_
    extract_lets +onlyGivenNames x3_
    have h3_ : Keeps z x3_ := (State.nbRailsOff_keeps _ h2_)
    try clear_value x3_
    revert x3_
    refine keeps_id ?_
    intro x3_ h3_
    exact (keepsA_next (State.nbState_keeps _ (keeps_nb h3_ _ rfl))))
  (keepsA_next hz))

theorem State.nbRelease_keeps {z : State} (s : State) (hz : Keeps z s) :
    Keeps z (State.nbRelease s) := by
  unfold State.nbRelease
  exact (State.nbShow_keeps _ (keeps_upds hz (fun hs => by have hl := (hz.2.2 hs).2.2.2.2.2; first | simpa +zetaDelta using hl | (simp +zetaDelta; split <;> (try split) <;> simp_all)) ⟨rfl, rfl, rfl, rfl, rfl, rfl, rfl⟩))

theorem execNbUpdateTake_keeps {z : State} (s : State) (hz : Keeps z s) : KeepsA z (execNbUpdateTake s) := by
  have ha : ∀ (t : State) (u : NbUpd) (n : Nat), ¬ 8 ≤ t.nb.upds.length → Keeps z t →
      Keeps z { t with nb := { t.nb with nextUpd := n, upds := t.nb.upds ++ [u] } } := by
    intro t u n hn ht
    refine keeps_upds ht (fun hs => ?_) ⟨rfl, rfl, rfl, rfl, rfl, rfl, rfl⟩
    simp only [List.length_append, List.length_singleton]
    omega
  unfold execNbUpdateTake
  split
  · exact keepsA_next hz
  · rename_i q _
    extract_lets taken
    split
    · exact keepsA_next hz
    · rename_i hc
      have hn : ¬ 8 ≤ s.nb.upds.length := fun h => hc (Or.inr (Or.inl h))
      split
      · exact keepsA_next (State.nbCompletions_keeps _ _ _ (State.post_keeps _ _ _ _ _ _ (ha s _ (s.nb.nextUpd + 1) hn hz)))
      · split
        · exact keepsA_next (State.nbState_keeps _ (ha s _ (s.nb.nextUpd + 1) hn hz))
        · exact keepsA_next (State.nbState_keeps _ (State.nbCompletions_keeps _ _ _
            (keeps_foldl (fun _ _ h => State.nbTarget_keeps _ _ _ _ _ h) (ha s _ (s.nb.nextUpd + 1) hn hz))))

theorem State.nbLock_keeps {z : State} (s : State) (hz : Keeps z s) :
    Keeps z (State.nbLock s) := by
  unfold State.nbLock
  exact (keeps_ite hz
  (by
    extract_lets +onlyGivenNames x0_
    extract_lets +onlyGivenNames x1_
    exact (State.nbState_keeps _ (keeps_nb hz _ rfl))))

theorem State.nbScan_keeps {z : State} (s : State) (hz : Keeps z s) :
    Keeps z (State.nbScan s) := by
  unfold State.nbScan
  extract_lets +onlyGivenNames x0_
  have h0_ : Keeps z x0_ := (State.wr64_keeps _ _ _ _ hz)
  try clear_value x0_
  revert x0_
  refine keeps_id ?_
  intro x0_ h0_
  extract_lets +onlyGivenNames x1_
  extract_lets +onlyGivenNames x2_
  extract_lets +onlyGivenNames x3_
  extract_lets +onlyGivenNames x4_
  extract_lets +onlyGivenNames x5_
  extract_lets +onlyGivenNames x6_
  extract_lets +onlyGivenNames x7_
  have h7_ : Keeps z x7_ := (keeps_upds h0_ (fun hs => by have hl := (h0_.2.2 hs).2.2.2.2.2; first | simpa +zetaDelta using hl | (simp +zetaDelta; split <;> (try split) <;> simp_all)) ⟨rfl, rfl, rfl, rfl, rfl, rfl, rfl⟩)
  try clear_value x7_
  revert x7_
  refine keeps_id ?_
  intro x7_ h7_
  exact (keeps_foldl (fun _ _ h8_ => (State.post_keeps _ _ _ _ _ _ h8_))
  h7_)

theorem State.nbRefreshCheck_keeps {z : State} (s : State) (hz : Keeps z s) :
    Keeps z (State.nbRefreshCheck s) := by
  unfold State.nbRefreshCheck
  extract_lets +onlyGivenNames x0_
  extract_lets +onlyGivenNames x1_
  exact (keeps_ite (State.post_keeps _ _ _ _ _ _ (State.wr_keeps _ _ _ hz))
  hz)

theorem State.nbTemp_keeps {z : State} (s : State) (temp : BitVec 16) (hz : Keeps z s) :
    Keeps z (State.nbTemp s temp) := by
  unfold State.nbTemp
  extract_lets +onlyGivenNames x0_
  extract_lets +onlyGivenNames x1_
  extract_lets +onlyGivenNames x2_
  extract_lets +onlyGivenNames x3_
  extract_lets +onlyGivenNames x4_
  extract_lets +onlyGivenNames x5_
  have h5_ : Keeps z x5_ := (State.wrB_keeps _ _ _ (State.wr_keeps _ _ _ (State.wr_keeps _ _ _ hz)))
  try clear_value x5_
  revert x5_
  refine keeps_id ?_
  intro x5_ h5_
  extract_lets +onlyGivenNames x6_
  have h6_ : Keeps z x6_ := (keeps_ite (State.post_keeps _ _ _ _ _ _ h5_)
  h5_)
  try clear_value x6_
  revert x6_
  refine keeps_id ?_
  intro x6_ h6_
  exact (State.nbRefreshCheck_keeps _ h6_)

theorem execNbRailRise_keeps {z : State} (s : State) (hz : Keeps z s) :
    KeepsA z (execNbRailRise s) := by
  unfold execNbRailRise
  exact (keeps_iteA (by
    extract_lets +onlyGivenNames x0_
    extract_lets +onlyGivenNames x1_
    have h1_ : Keeps z x1_ := (State.wr_keeps _ _ _ (State.wake_keeps _ _ hz))
    try clear_value x1_
    revert x1_
    refine keeps_id ?_
    intro x1_ h1_
    exact (keepsA_next (keeps_upd ⟨rfl, rfl, rfl, rfl, rfl, rfl, rfl, rfl⟩ h1_)))
  (keepsA_next hz))

theorem State.nbJobEnd_keeps {z : State} (s : State) (hz : Keeps z s) :
    Keeps z (State.nbJobEnd s) := by
  unfold State.nbJobEnd
  exact (keeps_ite hz
  (by
    split
    · extract_lets +onlyGivenNames x0_
      have h0_ : Keeps z x0_ := (State.wr_keeps _ _ _ hz)
      try clear_value x0_
      revert x0_
      refine keeps_id ?_
      intro x0_ h0_
      extract_lets +onlyGivenNames x1_
      have h1_ : Keeps z x1_ := (keeps_ite (State.post_keeps _ _ _ _ _ _ (State.nbShow_keeps _ h0_))
      h0_)
      try clear_value x1_
      revert x1_
      refine keeps_id ?_
      intro x1_ h1_
      extract_lets +onlyGivenNames x2_
      exact (keeps_upds h1_ (fun hs => by have hl := (h1_.2.2 hs).2.2.2.2.2; first | simpa +zetaDelta using hl | (simp +zetaDelta; split <;> (try split) <;> simp_all)) ⟨rfl, rfl, rfl, rfl, rfl, rfl, rfl⟩)
    · exact (keeps_nb hz _ rfl)
    · exact (keeps_nb hz _ rfl)
    · exact hz))

theorem State.nbCut_keeps {z : State} (s : State) (why : Nat) (hz : Keeps z s) :
    Keeps z (State.nbCut s why) := by
  unfold State.nbCut
  extract_lets +onlyGivenNames x0_
  extract_lets +onlyGivenNames x1_
  extract_lets +onlyGivenNames x2_
  extract_lets +onlyGivenNames x3_
  extract_lets +onlyGivenNames x4_
  have h4_ : Keeps z x4_ := (keeps_nb hz _ rfl)
  try clear_value x4_
  revert x4_
  refine keeps_id ?_
  intro x4_ h4_
  extract_lets +onlyGivenNames x5_
  have h5_ : Keeps z x5_ := (State.wr_keeps _ _ _ (State.bump_keeps _ _ h4_))
  try clear_value x5_
  revert x5_
  refine keeps_id ?_
  intro x5_ h5_
  exact (State.post_keeps _ _ _ _ _ _ h5_)

theorem State.nbCount_keeps {z : State} (s : State) (ks : List Nat) (hz : Keeps z s) :
    Keeps z (State.nbCount s ks) := by
  unfold State.nbCount
  extract_lets +onlyGivenNames x0_
  extract_lets +onlyGivenNames x1_
  extract_lets +onlyGivenNames x2_
  extract_lets +onlyGivenNames x3_
  have h3_ : Keeps z x3_ := (keeps_nb hz _ rfl)
  try clear_value x3_
  revert x3_
  refine keeps_id ?_
  intro x3_ h3_
  exact (keeps_ite h3_
  (State.wearSummary_keeps _ (State.wearStore_keeps _ _ (State.setWearQ_keeps _ _ _ h3_))))

theorem State.nbAbort_keeps {z : State} (s : State) (hz : Keeps z s) :
    Keeps z (State.nbAbort s) := by
  unfold State.nbAbort
  extract_lets +onlyGivenNames x0_
  have h0_ : Keeps z x0_ := (State.wr64_keeps _ _ _ _ hz)
  try clear_value x0_
  revert x0_
  refine keeps_id ?_
  intro x0_ h0_
  exact (State.nbShut_keeps _ (State.nbRailsOff_keeps _ (State.nbCut_keeps _ _ h0_)))

theorem execNbIdleScan_keeps {z : State} (temp : BitVec 16) (bad : Option (BitVec 5 × Nat)) (s : State) (hz : Keeps z s) :
    KeepsA z (execNbIdleScan temp bad s) := by
  unfold execNbIdleScan
  exact (keeps_iteA (by
    extract_lets +onlyGivenNames x0_
    have h0_ : Keeps z x0_ := (State.wake_keeps _ _ hz)
    try clear_value x0_
    revert x0_
    refine keeps_id ?_
    intro x0_ h0_
    extract_lets +onlyGivenNames x1_
    extract_lets +onlyGivenNames x2_
    extract_lets +onlyGivenNames x3_
    have h3_ : Keeps z x3_ := (keeps_upd ⟨rfl, rfl, rfl, rfl, rfl, rfl, rfl, rfl⟩ h0_)
    try clear_value x3_
    revert x3_
    refine keeps_id ?_
    intro x3_ h3_
    extract_lets +onlyGivenNames x4_
    have h4_ : Keeps z x4_ := (State.wr64_keeps _ _ _ _ h3_)
    try clear_value x4_
    revert x4_
    refine keeps_id ?_
    intro x4_ h4_
    extract_lets +onlyGivenNames x5_
    have h5_ : Keeps z x5_ := by
      subst x5_
      exact (by
        split
        · exact (State.post_keeps _ _ _ _ _ _ h4_)
        · exact h4_)
    try clear_value x5_
    revert x5_
    refine keeps_id ?_
    intro x5_ h5_
    exact (keepsA_next (State.nbState_keeps _ (State.nbTemp_keeps _ _ h5_))))
  (keepsA_next hz))

theorem State.nbStartAll_keeps {z : State} (s : State) (from_ : NbPix → Nat) (dest : NbPix → Nat) (hz : Keeps z s) :
    Keeps z (State.nbStartAll s from_ dest) := by
  unfold State.nbStartAll
  extract_lets +onlyGivenNames x0_
  extract_lets +onlyGivenNames x1_
  extract_lets +onlyGivenNames x2_
  exact (State.nbDirty_keeps _ (State.nbCount_keeps _ _ (keeps_nb hz _ rfl)))

theorem execNbRailFault_keeps {z : State} (rails : BitVec 5) (s : State) (hz : Keeps z s) :
    KeepsA z (execNbRailFault rails s) := by
  unfold execNbRailFault
  exact (keeps_iteA (by
    extract_lets +onlyGivenNames x0_
    extract_lets +onlyGivenNames x1_
    extract_lets +onlyGivenNames x2_
    extract_lets +onlyGivenNames x3_
    extract_lets +onlyGivenNames x4_
    extract_lets +onlyGivenNames x5_
    extract_lets +onlyGivenNames x6_
    have h6_ : Keeps z x6_ := (keeps_upds hz (fun hs => by have hl := (hz.2.2 hs).2.2.2.2.2; first | simpa +zetaDelta using hl | (simp +zetaDelta; split <;> (try split) <;> simp_all)) ⟨rfl, rfl, rfl, rfl, rfl, rfl, rfl⟩)
    try clear_value x6_
    revert x6_
    refine keeps_id ?_
    intro x6_ h6_
    extract_lets +onlyGivenNames x7_
    have h7_ : Keeps z x7_ := (State.wr_keeps _ _ _ (State.bump_keeps _ _ h6_))
    try clear_value x7_
    revert x7_
    refine keeps_id ?_
    intro x7_ h7_
    extract_lets +onlyGivenNames x8_
    have h8_ : Keeps z x8_ := (State.post_keeps _ _ _ _ _ _ h7_)
    try clear_value x8_
    revert x8_
    refine keeps_id ?_
    intro x8_ h8_
    extract_lets +onlyGivenNames x9_
    have h9_ : Keeps z x9_ := (keeps_ite h8_
    (State.nbCut_keeps _ _ h8_))
    try clear_value x9_
    revert x9_
    refine keeps_id ?_
    intro x9_ h9_
    extract_lets +onlyGivenNames x10_
    have h10_ : Keeps z x10_ := (State.nbRailsOff_keeps _ h9_)
    try clear_value x10_
    revert x10_
    refine keeps_id ?_
    intro x10_ h10_
    extract_lets +onlyGivenNames x11_
    have h11_ : Keeps z x11_ := (keeps_ite (State.wr_keeps _ _ _ h10_)
    (State.nbState_keeps _ h10_))
    try clear_value x11_
    revert x11_
    refine keeps_id ?_
    intro x11_ h11_
    exact (keepsA_next (State.nbShow_keeps _ (State.nbShut_keeps _ (State.nbCompletions_keeps _ _ _ h11_)))))
  (keepsA_next hz))

theorem State.nbDraw_keeps {z : State} (s : State) (ks : List Nat) (level : Nat → Nat) (hz : Keeps z s) :
    Keeps z (State.nbDraw s ks level) := by
  unfold State.nbDraw
  extract_lets +onlyGivenNames x0_
  extract_lets +onlyGivenNames x1_
  extract_lets +onlyGivenNames x2_
  extract_lets +onlyGivenNames x3_
  extract_lets +onlyGivenNames x4_
  have h4_ : Keeps z x4_ := (keeps_nb hz _ rfl)
  try clear_value x4_
  revert x4_
  refine keeps_id ?_
  intro x4_ h4_
  exact (keeps_ite h4_
  (State.nbDirty_keeps _ (State.nbCount_keeps _ _ h4_)))

theorem State.nbRefresh_keeps {z : State} (s : State) (hz : Keeps z s) :
    Keeps z (State.nbRefresh s) := by
  unfold State.nbRefresh
  extract_lets +onlyGivenNames x0_
  have h0_ : Keeps z x0_ := (State.wr_keeps _ _ _ (State.wr_keeps _ _ _ hz))
  try clear_value x0_
  revert x0_
  refine keeps_id ?_
  intro x0_ h0_
  extract_lets +onlyGivenNames x1_
  extract_lets +onlyGivenNames x2_
  have h2_ : Keeps z x2_ := (keeps_nb h0_ _ rfl)
  try clear_value x2_
  revert x2_
  refine keeps_id ?_
  intro x2_ h2_
  exact (State.nbStartAll_keeps _ _ _ h2_)

theorem State.nbStartPending_keeps {z : State} (s : State) (hz : Keeps z s) :
    Keeps z (State.nbStartPending s) := by
  unfold State.nbStartPending
  extract_lets +onlyGivenNames x0_
  extract_lets +onlyGivenNames x1_
  exact (keeps_ite hz
  (by
    extract_lets +onlyGivenNames x2_
    extract_lets +onlyGivenNames x3_
    extract_lets +onlyGivenNames x4_
    exact (State.nbDirty_keeps _ (State.nbCount_keeps _ _ (keeps_upds hz (fun hs => by have hl := (hz.2.2 hs).2.2.2.2.2; first | simpa +zetaDelta using hl | (simp +zetaDelta; split <;> (try split) <;> simp_all)) ⟨rfl, rfl, rfl, rfl, rfl, rfl, rfl⟩)))))

theorem State.nbBalance_keeps {z : State} (s : State) (hz : Keeps z s) :
    Keeps z (State.nbBalance s) := by
  unfold State.nbBalance
  extract_lets +onlyGivenNames x0_
  extract_lets +onlyGivenNames x1_
  extract_lets +onlyGivenNames x2_
  extract_lets +onlyGivenNames x3_
  extract_lets +onlyGivenNames x4_
  extract_lets +onlyGivenNames x5_
  have h5_ : Keeps z x5_ := (keeps_nb hz _ rfl)
  try clear_value x5_
  revert x5_
  refine keeps_id ?_
  intro x5_ h5_
  extract_lets +onlyGivenNames x6_
  have h6_ : Keeps z x6_ := (State.wearSummary_keeps _ (State.wearStore_keeps _ _ (State.setWearQ_keeps _ _ _ h5_)))
  try clear_value x6_
  revert x6_
  refine keeps_id ?_
  intro x6_ h6_
  exact (keeps_ite (keeps_nb h6_ _ rfl)
  (State.nbDirty_keeps _ (State.nbCount_keeps _ _ h6_)))

theorem State.nbBoxDraw_keeps {z : State} (s : State) (hz : Keeps z s) :
    Keeps z (State.nbBoxDraw s) := by
  unfold State.nbBoxDraw
  extract_lets +onlyGivenNames x0_
  extract_lets +onlyGivenNames x1_
  extract_lets +onlyGivenNames x2_
  have h2_ : Keeps z x2_ := (State.nbDraw_keeps _ _ _ hz)
  try clear_value x2_
  revert x2_
  refine keeps_id ?_
  intro x2_ h2_
  exact (keeps_nb h2_ _ rfl)

theorem execNbCleanCmd_keeps {z : State} (m : Master) (s : State) (hz : Keeps z s) :
    KeepsA z (execNbCleanCmd m s) := by
  unfold execNbCleanCmd
  exact (keepsA_next (State.access_keeps _ _ _ _ _ _ hz (fun _ h0_ => (State.nbCmdWrite_keeps _ _ h0_))))

theorem execNbBalancePass_keeps {z : State} (s : State) (hz : Keeps z s) :
    KeepsA z (execNbBalancePass s) := by
  unfold execNbBalancePass
  extract_lets +onlyGivenNames x0_
  extract_lets +onlyGivenNames x1_
  extract_lets +onlyGivenNames x2_
  exact (keeps_iteA (by
    extract_lets +onlyGivenNames x3_
    have h3_ : Keeps z x3_ := (keeps_ite hz
    (keeps_frc hz _))
    try clear_value x3_
    revert x3_
    refine keeps_id ?_
    intro x3_ h3_
    exact (keepsA_next (State.nbShow_keeps _ (State.nbState_keeps _ (State.nbBalance_keeps _ h3_)))))
  (keepsA_next hz))

theorem execNbLightWrite_keeps {z : State} (m : Master) (value : Word) (s : State) (hz : Keeps z s) :
    KeepsA z (execNbLightWrite m value s) := by
  unfold execNbLightWrite
  exact (keepsA_next (State.access_keeps _ _ _ _ _ _ hz (fun _ h0_ => (State.nbLightWrite_keeps _ _ h0_))))

theorem State.nbStripDraw_keeps {z : State} (s : State) (hz : Keeps z s) :
    Keeps z (State.nbStripDraw s) := by
  unfold State.nbStripDraw
  extract_lets +onlyGivenNames x0_
  have h0_ : Keeps z x0_ := (State.nbDraw_keeps _ _ _ hz)
  try clear_value x0_
  revert x0_
  refine keeps_id ?_
  intro x0_ h0_
  extract_lets +onlyGivenNames x1_
  exact (State.post_keeps _ _ _ _ _ _ (keeps_nb h0_ _ rfl))

theorem State.nbClean_keeps {z : State} (s : State) (hz : Keeps z s) :
    Keeps z (State.nbClean s) := by
  unfold State.nbClean
  extract_lets +onlyGivenNames x0_
  have h0_ : Keeps z x0_ := (State.wr_keeps _ _ _ hz)
  try clear_value x0_
  revert x0_
  refine keeps_id ?_
  intro x0_ h0_
  extract_lets +onlyGivenNames x1_
  extract_lets +onlyGivenNames x2_
  have h2_ : Keeps z x2_ := (keeps_nb h0_ _ rfl)
  try clear_value x2_
  revert x2_
  refine keeps_id ?_
  intro x2_ h2_
  exact (State.nbStartAll_keeps _ _ _ h2_)

theorem execNbRefreshCmd_keeps {z : State} (m : Master) (s : State) (hz : Keeps z s) :
    KeepsA z (execNbRefreshCmd m s) := by
  unfold execNbRefreshCmd
  exact (keepsA_next (State.access_keeps _ _ _ _ _ _ hz (fun _ h0_ => (State.nbCmdWrite_keeps _ _ h0_))))

theorem State.nbStart_keeps {z : State} (s : State) (hz : Keeps z s) :
    Keeps z (State.nbStart s) := by
  unfold State.nbStart
  exact (keeps_ite hz
  (by
    extract_lets +onlyGivenNames x0_
    extract_lets +onlyGivenNames x1_
    exact (keeps_ite (keeps_ite (State.nbStartAll_keeps _ _ _ (keeps_nb hz _ rfl))
    hz)
    (keeps_ite (keeps_ite (State.nbClean_keeps _ (keeps_nb hz _ rfl))
    hz)
    (by
      extract_lets +onlyGivenNames x2_
      extract_lets +onlyGivenNames x3_
      have h3_ : Keeps z x3_ := (keeps_ite (State.nbStripDraw_keeps _ hz)
      (keeps_nb hz _ rfl))
      try clear_value x3_
      revert x3_
      refine keeps_id ?_
      intro x3_ h3_
      extract_lets +onlyGivenNames x4_
      have h4_ : Keeps z x4_ := (keeps_ite (State.nbBoxDraw_keeps _ h3_)
      h3_)
      try clear_value x4_
      revert x4_
      refine keeps_id ?_
      intro x4_ h4_
      extract_lets +onlyGivenNames x5_
      exact (keeps_ite (State.nbClean_keeps _ h4_)
      (by
        extract_lets +onlyGivenNames x6_
        have h6_ : Keeps z x6_ := (keeps_ite h4_
        (State.nbStartPending_keeps _ h4_))
        try clear_value x6_
        revert x6_
        refine keeps_id ?_
        intro x6_ h6_
        extract_lets +onlyGivenNames x7_
        exact (keeps_ite (State.nbClean_keeps _ h6_)
        (keeps_ite (State.nbRefresh_keeps _ h6_)
        h6_)))))))))

theorem execNbBalanceCmd_keeps {z : State} (m : Master) (s : State) (hz : Keeps z s) :
    KeepsA z (execNbBalanceCmd m s) := by
  unfold execNbBalanceCmd
  exact (keepsA_next (State.access_keeps _ _ _ _ _ _ hz (fun _ h0_ => (State.nbCmdWrite_keeps _ _ h0_))))

theorem execNbFrame_keeps {z : State} (temp : BitVec 16) (s : State) (hz : Keeps z s) :
    KeepsA z (execNbFrame temp s) := by
  unfold execNbFrame
  exact (keeps_iteA (by
    extract_lets +onlyGivenNames x0_
    have h0_ : Keeps z x0_ := (State.nbBoundary_keeps _ hz)
    try clear_value x0_
    revert x0_
    refine keeps_id ?_
    intro x0_ h0_
    extract_lets +onlyGivenNames x1_
    have h1_ : Keeps z x1_ := (keeps_ite (State.nbTemp_keeps _ _ h0_)
    h0_)
    try clear_value x1_
    revert x1_
    refine keeps_id ?_
    intro x1_ h1_
    exact (keeps_iteA (keepsA_next (State.nbShow_keeps _ (State.nbState_keeps _ (State.nbAbort_keeps _ h1_))))
    (by
      extract_lets +onlyGivenNames x2_
      have h2_ : Keeps z x2_ := (State.nbStart_keeps _ h1_)
      try clear_value x2_
      revert x2_
      refine keeps_id ?_
      intro x2_ h2_
      exact (keeps_iteA (by
        extract_lets +onlyGivenNames x3_
        have h3_ : Keeps z x3_ := (State.nbLightOn_keeps _ (State.nbJobEnd_keeps _ (State.nbScan_keeps _ h2_)))
        try clear_value x3_
        revert x3_
        refine keeps_id ?_
        intro x3_ h3_
        exact (keepsA_next (State.nbShow_keeps _ (State.nbState_keeps _ (State.nbShut_keeps _ (State.nbCompletions_keeps _ _ _ h3_))))))
      (keepsA_next (State.nbShow_keeps _ (State.nbState_keeps _ (State.nbLightOn_keeps _ (State.nbJobEnd_keeps _ h2_)))))))))
  (keepsA_next hz))

end Sys2Proof.Machine
end

