-- ==== Sys2Proof/Laws/KeepsPlanCheck.lean ====
section
/-!
SUPPORT. What the operations of Machine/PlanCheck.lean keep (Laws/Keeps.lean).
-/
namespace Sys2Proof.Machine

theorem State.withPlan_keeps {z : State} (s : State) (kind : Nat) (l : List Section) (hz : Keeps z s) :
    Keeps z (State.withPlan s kind l) := by
  unfold State.withPlan
  extract_lets +onlyGivenNames x0_
  exact (keeps_ite (keeps_fpl hz _)
  (keeps_fpl hz _))

end Sys2Proof.Machine
end

