-- ==== Sys2Proof/Laws/KeepsSafetyDomain.lean ====
section
/-!
SUPPORT. What the operations of Machine/SafetyDomain.lean keep (Laws/Keeps.lean).
-/
namespace Sys2Proof.Machine

theorem State.tgHanded_keeps {z : State} (s : State) (copies : List (Nat × List Byte)) (hz : Keeps z s) :
    Keeps z (State.tgHanded s copies) := by
  unfold State.tgHanded
  exact (keeps_saf hz _)

theorem State.safResume_keeps {z : State} (s : State) (hz : Keeps z s) :
    Keeps z (State.safResume s) := by
  unfold State.safResume
  extract_lets +onlyGivenNames x0_
  exact (keeps_saf hz _)

theorem State.tgRead_keeps {z : State} (s : State) (hz : Keeps z s) :
    Keeps z (State.tgRead s) := by
  unfold State.tgRead
  extract_lets +onlyGivenNames x0_
  exact (keeps_saf hz _)

theorem State.setTg_keeps {z : State} (s : State) (c : Nat) (x : TgConn) (hz : Keeps z s) :
    Keeps z (State.setTg s c x) := by
  unfold State.setTg
  exact (keeps_saf hz _)

theorem State.tgRun_keeps {z : State} (s : State) (hz : Keeps z s) :
    Keeps z (State.tgRun s) := by
  unfold State.tgRun
  extract_lets +onlyGivenNames x0_
  exact (keeps_saf hz _)

theorem State.setFunBad_keeps {z : State} (s : State) (f : Nat) (l : List Nat) (hz : Keeps z s) :
    Keeps z (State.setFunBad s f l) := by
  unfold State.setFunBad
  exact (keeps_saf hz _)

theorem State.safStore_keeps {z : State} (s : State) (hz : Keeps z s) :
    Keeps z (State.safStore s) := by
  unfold State.safStore
  exact (keeps_saf hz _)

theorem State.spoil_keeps {z : State} (s : State) (f : Nat) (hz : Keeps z s) :
    Keeps z (State.spoil s f) := by
  unfold State.spoil
  exact (keeps_ite (keeps_saf hz _)
  hz)

theorem State.safPowerOn_keeps {z : State} (s : State) (hz : Keeps z s) :
    Keeps z (State.safPowerOn s) := by
  unfold State.safPowerOn
  exact (keeps_saf hz _)

theorem State.setExc_keeps {z : State} (s : State) (f : Nat) (e : SafExc) (hz : Keeps z s) :
    Keeps z (State.setExc s f e) := by
  unfold State.setExc
  exact (keeps_saf hz _)

theorem State.tgStart_keeps {z : State} (s : State) (hz : Keeps z s) :
    Keeps z (State.tgStart s) := by
  unfold State.tgStart
  exact (keeps_foldl (fun _ _ h0_ => (keeps_ite h0_
  (State.setTg_keeps _ _ _ h0_)))
  hz)

theorem execExcursionStore_keeps {z : State} (s : State) (hz : Keeps z s) :
    KeepsA z (execExcursionStore s) := by
  unfold execExcursionStore
  exact (keeps_iteA (by
    extract_lets +onlyGivenNames x0_
    have h0_ : Keeps z x0_ := (State.waitTo_keeps _ _ hz)
    try clear_value x0_
    revert x0_
    refine keeps_id ?_
    intro x0_ h0_
    extract_lets +onlyGivenNames x1_
    extract_lets +onlyGivenNames x2_
    have h2_ : Keeps z x2_ := (keeps_saf h0_ _)
    try clear_value x2_
    revert x2_
    refine keeps_id ?_
    intro x2_ h2_
    extract_lets +onlyGivenNames x3_
    have h3_ : Keeps z x3_ := (keeps_foldl (fun _ _ h4_ => (keeps_ite (State.wr_keeps _ _ _ h4_)
    h4_))
    h2_)
    try clear_value x3_
    revert x3_
    refine keeps_id ?_
    intro x3_ h3_
    exact (keepsA_next (State.safStore_keeps _ h3_)))
  (keepsA_next hz))

theorem State.matrixResume_keeps {z : State} (s : State) (hz : Keeps z s) :
    Keeps z (State.matrixResume s) := by
  unfold State.matrixResume
  exact (by
    split
    · exact (State.wr_keeps _ _ _ (State.wr_keeps _ _ _ hz))
    · extract_lets +onlyGivenNames x0_
      extract_lets +onlyGivenNames x1_
      extract_lets +onlyGivenNames x2_
      have h2_ : Keeps z x2_ := (keeps_saf hz _)
      try clear_value x2_
      revert x2_
      refine keeps_id ?_
      intro x2_ h2_
      exact (State.wr_keeps _ _ _ (State.wr_keeps _ _ _ (State.wr_keeps _ _ _ h2_))))

theorem State.safSummary_keeps {z : State} (s : State) (hz : Keeps z s) :
    Keeps z (State.safSummary s) := by
  unfold State.safSummary
  extract_lets +onlyGivenNames x0_
  exact (State.wrB_keeps _ _ _ (State.wrB_keeps _ _ _ hz))

theorem State.safShow_keeps {z : State} (s : State) (hz : Keeps z s) :
    Keeps z (State.safShow s) := by
  unfold State.safShow
  extract_lets +onlyGivenNames x0_
  extract_lets +onlyGivenNames x1_
  have h1_ : Keeps z x1_ := (keeps_foldl (fun _ _ h2_ => (State.wr_keeps _ _ _ h2_))
  hz)
  try clear_value x1_
  revert x1_
  refine keeps_id ?_
  intro x1_ h1_
  extract_lets +onlyGivenNames x3_
  have h3_ : Keeps z x3_ := (State.wr_keeps _ _ _ (State.wr_keeps _ _ _ h1_))
  try clear_value x3_
  revert x3_
  refine keeps_id ?_
  intro x3_ h3_
  exact (State.wr_keeps _ _ _ h3_)

theorem execTestPulseOff_keeps {z : State} (l : Fin 8) (s : State) (hz : Keeps z s) :
    KeepsA z (execTestPulseOff l s) := by
  unfold execTestPulseOff
  exact (keeps_iteA (by
    extract_lets +onlyGivenNames x0_
    extract_lets +onlyGivenNames x1_
    have h1_ : Keeps z x1_ := (State.waitTo_keeps _ _ hz)
    try clear_value x1_
    revert x1_
    refine keeps_id ?_
    intro x1_ h1_
    exact (keeps_iteA (keepsA_next h1_)
    (keepsA_next (keeps_saf h1_ _))))
  (keepsA_next hz))

theorem State.tgSend_keeps {z : State} (s : State) (payloads : List (Nat × List Byte × List Byte)) (c : Nat) (hz : Keeps z s) :
    Keeps z (State.tgSend s payloads c) := by
  unfold State.tgSend
  extract_lets +onlyGivenNames x0_
  exact (keeps_ite hz
  (by
    extract_lets +onlyGivenNames x1_
    extract_lets +onlyGivenNames x2_
    exact (keeps_ite (State.setTg_keeps _ _ _ hz)
    (keeps_ite (State.setTg_keeps _ _ _ hz)
    (by
      extract_lets +onlyGivenNames x3_
      extract_lets +onlyGivenNames x4_
      extract_lets +onlyGivenNames x5_
      extract_lets +onlyGivenNames x6_
      extract_lets +onlyGivenNames x7_
      extract_lets +onlyGivenNames x8_
      extract_lets +onlyGivenNames x9_
      extract_lets +onlyGivenNames x10_
      extract_lets +onlyGivenNames x11_
      have h11_ : Keeps z x11_ := (State.setTg_keeps _ _ _ hz)
      try clear_value x11_
      revert x11_
      refine keeps_id ?_
      intro x11_ h11_
      extract_lets +onlyGivenNames x12_
      exact (State.tgHanded_keeps _ _ (keeps_foldl (fun _ _ h13_ => (keeps_ite (State.ethHand_keeps _ _ _ _ h13_)
      h13_))
      h11_)))))))

theorem State.fieldStale_keeps {z : State} (s : State) (k : Nat) (spa : Bool) (spb : Bool) (hz : Keeps z s) :
    Keeps z (State.fieldStale s k spa spb) := by
  unfold State.fieldStale
  extract_lets +onlyGivenNames x0_
  extract_lets +onlyGivenNames x1_
  have h1_ : Keeps z x1_ := (State.waitTo_keeps _ _ hz)
  try clear_value x1_
  revert x1_
  refine keeps_id ?_
  intro x1_ h1_
  extract_lets +onlyGivenNames x2_
  extract_lets +onlyGivenNames x3_
  extract_lets +onlyGivenNames x4_
  exact (State.setIsland_keeps _ _ _ h1_)

theorem State.safFunctions_keeps {z : State} (s : State) (lost : Nat) (hz : Keeps z s) :
    Keeps z (State.safFunctions s lost) := by
  unfold State.safFunctions
  exact (keeps_foldl (fun _ _ h0_ => (by
    split
    · extract_lets +onlyGivenNames x1_
      extract_lets +onlyGivenNames x2_
      extract_lets +onlyGivenNames x3_
      extract_lets +onlyGivenNames x4_
      extract_lets +onlyGivenNames x5_
      have h5_ : Keeps z x5_ := (keeps_ite (State.setExc_keeps _ _ _ h0_)
      h0_)
      try clear_value x5_
      revert x5_
      refine keeps_id ?_
      intro x5_ h5_
      exact (State.wr_keeps _ _ _ (State.wr_keeps _ _ _ (State.wr_keeps _ _ _ h5_)))
    · exact (State.wr_keeps _ _ _ h0_)
    · extract_lets +onlyGivenNames x6_
      extract_lets +onlyGivenNames x7_
      have h7_ : Keeps z x7_ := (keeps_saf h0_ _)
      try clear_value x7_
      revert x7_
      refine keeps_id ?_
      intro x7_ h7_
      exact (State.post_keeps _ _ _ _ _ _ (State.wr_keeps _ _ _ h7_))
    · exact (State.wr_keeps _ _ _ h0_)))
  hz)

theorem State.funTrip_keeps {z : State} (s : State) (f : Nat) (code : Nat) (cause : Nat) (shown : Nat) (hz : Keeps z s) :
    Keeps z (State.funTrip s f code cause shown) := by
  unfold State.funTrip
  extract_lets +onlyGivenNames x0_
  exact (keeps_ite (by
    extract_lets +onlyGivenNames x1_
    have h1_ : Keeps z x1_ := (State.wr_keeps _ _ _ (State.wr_keeps _ _ _ (State.wr_keeps _ _ _ hz)))
    try clear_value x1_
    revert x1_
    refine keeps_id ?_
    intro x1_ h1_
    exact (State.safSummary_keeps _ (State.post_keeps _ _ _ _ _ _ (State.wr_keeps _ _ _ h1_))))
  hz)

theorem State.funFault_keeps {z : State} (s : State) (f : Nat) (id : Nat) (cause : Nat) (further : Bool) (hz : Keeps z s) :
    Keeps z (State.funFault s f id cause further) := by
  unfold State.funFault
  extract_lets +onlyGivenNames x0_
  extract_lets +onlyGivenNames x1_
  extract_lets +onlyGivenNames x2_
  have h2_ : Keeps z x2_ := (State.spoil_keeps _ _ (State.setFunBad_keeps _ _ _ hz))
  try clear_value x2_
  revert x2_
  refine keeps_id ?_
  intro x2_ h2_
  exact (keeps_ite (by
    extract_lets +onlyGivenNames x3_
    extract_lets +onlyGivenNames x4_
    have h4_ : Keeps z x4_ := (State.wr_keeps _ _ _ (State.wr_keeps _ _ _ (State.wr_keeps _ _ _ h2_)))
    try clear_value x4_
    revert x4_
    refine keeps_id ?_
    intro x4_ h4_
    extract_lets +onlyGivenNames x5_
    have h5_ : Keeps z x5_ := (State.setExc_keeps _ _ _ h4_)
    try clear_value x5_
    revert x5_
    refine keeps_id ?_
    intro x5_ h5_
    exact (State.safSummary_keeps _ (State.post_keeps _ _ _ _ _ _ h5_)))
  (keeps_ite (State.funTrip_keeps _ _ _ _ _ h2_)
  h2_))

theorem State.safRefuse_keeps {z : State} (s : State) (f : Nat) (why : Nat) (hz : Keeps z s) :
    Keeps z (State.safRefuse s f why) := by
  unfold State.safRefuse
  exact (State.post_keeps _ _ _ _ _ _ (State.cmdStat_keeps _ _ _ _ hz))

theorem State.funFaults_keeps {z : State} (s : State) (sel : Nat → Bool) (id : Nat) (cause : Nat) (further : Bool) (hz : Keeps z s) :
    Keeps z (State.funFaults s sel id cause further) := by
  unfold State.funFaults
  exact (keeps_foldl (fun _ _ h0_ => (keeps_ite (State.funFault_keeps _ _ _ _ _ h0_)
  h0_))
  hz)

theorem State.sinkReset_keeps {z : State} (s : State) (req : Nat) (k : Nat) (hz : Keeps z s) :
    Keeps z (State.sinkReset s req k) := by
  unfold State.sinkReset
  extract_lets +onlyGivenNames x0_
  exact (keeps_ite (by
    extract_lets +onlyGivenNames x1_
    extract_lets +onlyGivenNames x2_
    have h2_ : Keeps z x2_ := (State.wr_keeps _ _ _ hz)
    try clear_value x2_
    revert x2_
    refine keeps_id ?_
    intro x2_ h2_
    exact (State.post_keeps _ _ _ _ _ _ h2_))
  hz)

theorem State.safCmdWrite_keeps {z : State} (s : State) (value : Nat) (hz : Keeps z s) :
    Keeps z (State.safCmdWrite s value) := by
  unfold State.safCmdWrite
  extract_lets +onlyGivenNames x0_
  extract_lets +onlyGivenNames x1_
  extract_lets +onlyGivenNames x2_
  extract_lets +onlyGivenNames x3_
  exact (keeps_ite hz
  (keeps_ite (keeps_ite (State.safRefuse_keeps _ _ _ hz)
  (keeps_ite (State.safRefuse_keeps _ _ _ hz)
  (keeps_ite (State.safRefuse_keeps _ _ _ hz)
  (keeps_ite (State.safRefuse_keeps _ _ _ hz)
  (by
    extract_lets +onlyGivenNames x4_
    have h4_ : Keeps z x4_ := (State.wr_keeps _ _ _ (State.cmdStat_keeps _ _ _ _ hz))
    try clear_value x4_
    revert x4_
    refine keeps_id ?_
    intro x4_ h4_
    exact (keeps_saf h4_ _))))))
  (keeps_ite (keeps_ite (State.cmdStat_keeps _ _ _ _ hz)
  (keeps_ite (State.cmdStat_keeps _ _ _ _ hz)
  (keeps_ite (State.cmdStat_keeps _ _ _ _ hz)
  (by
    extract_lets +onlyGivenNames x5_
    have h5_ : Keeps z x5_ := (State.wr_keeps _ _ _ (State.wr_keeps _ _ _ (State.cmdStat_keeps _ _ _ _ hz)))
    try clear_value x5_
    revert x5_
    refine keeps_id ?_
    intro x5_ h5_
    exact (State.safSummary_keeps _ (State.setFunBad_keeps _ _ _ h5_))))))
  (keeps_ite (keeps_ite (State.safRefuse_keeps _ _ _ hz)
  (keeps_ite (State.safRefuse_keeps _ _ _ hz)
  (keeps_ite (State.safRefuse_keeps _ _ _ hz)
  (by
    extract_lets +onlyGivenNames x6_
    have h6_ : Keeps z x6_ := (State.cmdStat_keeps _ _ _ _ hz)
    try clear_value x6_
    revert x6_
    refine keeps_id ?_
    intro x6_ h6_
    exact (keeps_saf h6_ _)))))
  hz))))

theorem State.lineSample_keeps {z : State} (s : State) (l : Nat) (n : Nat) (on : Bool) (users : Nat) (hz : Keeps z s) :
    Keeps z (State.lineSample s l n on users) := by
  unfold State.lineSample
  extract_lets +onlyGivenNames x0_
  extract_lets +onlyGivenNames x1_
  extract_lets +onlyGivenNames x2_
  have h2_ : Keeps z x2_ := (keeps_saf hz _)
  try clear_value x2_
  revert x2_
  refine keeps_id ?_
  intro x2_ h2_
  exact (keeps_ite (keeps_ite (State.funFaults_keeps _ _ _ _ _ h2_)
  (by
    extract_lets +onlyGivenNames x3_
    have h3_ : Keeps z x3_ := (State.wr_keeps _ _ _ h2_)
    try clear_value x3_
    revert x3_
    refine keeps_id ?_
    intro x3_ h3_
    extract_lets +onlyGivenNames x4_
    have h4_ : Keeps z x4_ := (State.post_keeps _ _ _ _ _ _ h3_)
    try clear_value x4_
    revert x4_
    refine keeps_id ?_
    intro x4_ h4_
    exact (State.funFaults_keeps _ _ _ _ _ h4_)))
  (keeps_ite (State.wr_keeps _ _ _ h2_)
  h2_))

theorem State.funTrips_keeps {z : State} (s : State) (sel : Nat → Bool) (cause : Nat) (hz : Keeps z s) :
    Keeps z (State.funTrips s sel cause) := by
  unfold State.funTrips
  exact (keeps_foldl (fun _ _ h0_ => (keeps_ite (State.funTrip_keeps _ _ _ _ _ h0_)
  h0_))
  hz)

theorem execSafReset_keeps {z : State} (m : Master) (f : Fin 64) (s : State) (hz : Keeps z s) :
    KeepsA z (execSafReset m f s) := by
  unfold execSafReset
  exact (keepsA_next (State.access_keeps _ _ _ _ _ _ hz (fun _ h0_ => (State.safCmdWrite_keeps _ _ h0_))))

theorem execSafReturn_keeps {z : State} (m : Master) (f : Fin 64) (s : State) (hz : Keeps z s) :
    KeepsA z (execSafReturn m f s) := by
  unfold execSafReturn
  exact (keepsA_next (State.access_keeps _ _ _ _ _ _ hz (fun _ h0_ => (State.safCmdWrite_keeps _ _ h0_))))

theorem State.safOffer_keeps {z : State} (s : State) (payload : List Byte) (hz : Keeps z s) :
    Keeps z (State.safOffer s payload) := by
  unfold State.safOffer
  exact (keeps_ite (keeps_saf hz _)
  (by
    extract_lets +onlyGivenNames x0_
    extract_lets +onlyGivenNames x1_
    have h1_ : Keeps z x1_ := (keeps_saf hz _)
    try clear_value x1_
    revert x1_
    refine keeps_id ?_
    intro x1_ h1_
    exact (keeps_ite h1_
    (State.matrix_keeps _ (State.wr_keeps _ _ _ h1_)))))

theorem State.funExpire_keeps {z : State} (s : State) (f : Nat) (hz : Keeps z s) :
    Keeps z (State.funExpire s f) := by
  unfold State.funExpire
  exact (State.matrix_keeps _ (State.funTrip_keeps _ _ _ _ _ (State.waitTo_keeps _ _ hz)))

theorem execReturnMatrix_keeps {z : State} (m : Master) (s : State) (hz : Keeps z s) :
    KeepsA z (execReturnMatrix m s) := by
  unfold execReturnMatrix
  exact (keepsA_next (State.access_keeps _ _ _ _ _ _ hz (fun _ h0_ => (State.safCmdWrite_keeps _ _ h0_))))

theorem State.safRun_keeps {z : State} (s : State) (hz : Keeps z s) :
    Keeps z (State.safRun s) := by
  unfold State.safRun
  exact (keeps_ite (by
    extract_lets +onlyGivenNames x0_
    extract_lets +onlyGivenNames x1_
    have h1_ : Keeps z x1_ := (keeps_saf hz _)
    try clear_value x1_
    revert x1_
    refine keeps_id ?_
    intro x1_ h1_
    exact (keeps_ite (by
      extract_lets +onlyGivenNames x2_
      have h2_ : Keeps z x2_ := (State.post_keeps _ _ _ _ _ _ (State.wr_keeps _ _ _ h1_))
      try clear_value x2_
      revert x2_
      refine keeps_id ?_
      intro x2_ h2_
      exact (State.matrix_keeps _ (State.tgRun_keeps _ h2_)))
    h1_))
  hz)

theorem State.fieldLost_keeps {z : State} (s : State) (k : Nat) (spa : Bool) (spb : Bool) (users : Nat) (hz : Keeps z s) :
    Keeps z (State.fieldLost s k spa spb users) := by
  unfold State.fieldLost
  extract_lets +onlyGivenNames x0_
  extract_lets +onlyGivenNames x1_
  have h1_ : Keeps z x1_ := (State.waitTo_keeps _ _ hz)
  try clear_value x1_
  revert x1_
  refine keeps_id ?_
  intro x1_ h1_
  extract_lets +onlyGivenNames x2_
  extract_lets +onlyGivenNames x3_
  exact (keeps_ite h1_
  (by
    extract_lets +onlyGivenNames x4_
    have h4_ : Keeps z x4_ := (State.setIsland_keeps _ _ _ h1_)
    try clear_value x4_
    revert x4_
    refine keeps_id ?_
    intro x4_ h4_
    extract_lets +onlyGivenNames x5_
    extract_lets +onlyGivenNames x6_
    extract_lets +onlyGivenNames x7_
    have h7_ : Keeps z x7_ := (keeps_saf h4_ _)
    try clear_value x7_
    revert x7_
    refine keeps_id ?_
    intro x7_ h7_
    extract_lets +onlyGivenNames x8_
    have h8_ : Keeps z x8_ := (State.post_keeps _ _ _ _ _ _ h7_)
    try clear_value x8_
    revert x8_
    refine keeps_id ?_
    intro x8_ h8_
    exact (State.matrix_keeps _ (State.funTrips_keeps _ _ _ h8_))))

theorem State.pulseSample_keeps {z : State} (s : State) (l : Nat) (on : BitVec 16) (volts10 : Nat) (users : List (BitVec 64)) (hz : Keeps z s) :
    Keeps z (State.pulseSample s l on volts10 users) := by
  unfold State.pulseSample
  extract_lets +onlyGivenNames x0_
  extract_lets +onlyGivenNames x1_
  extract_lets +onlyGivenNames x2_
  extract_lets +onlyGivenNames x3_
  extract_lets +onlyGivenNames x4_
  have h4_ : Keeps z x4_ := (keeps_saf hz _)
  try clear_value x4_
  revert x4_
  refine keeps_id ?_
  intro x4_ h4_
  extract_lets +onlyGivenNames x5_
  extract_lets +onlyGivenNames x6_
  have h6_ : Keeps z x6_ := (State.wr_keeps _ _ _ h4_)
  try clear_value x6_
  revert x6_
  refine keeps_id ?_
  intro x6_ h6_
  extract_lets +onlyGivenNames x7_
  have h7_ : Keeps z x7_ := (keeps_ite h6_
  (State.post_keeps _ _ _ _ _ _ h6_))
  try clear_value x7_
  revert x7_
  refine keeps_id ?_
  intro x7_ h7_
  extract_lets +onlyGivenNames x8_
  have h8_ : Keeps z x8_ := (keeps_ite (State.funFaults_keeps _ _ _ _ _ h7_)
  h6_)
  try clear_value x8_
  revert x8_
  refine keeps_id ?_
  intro x8_ h8_
  exact (State.matrix_keeps _ (keeps_foldl (fun _ _ h9_ => (State.lineSample_keeps _ _ _ _ _ h9_))
  h8_))

theorem execSafetyFieldStale_keeps {z : State} (k : Fin 8) (inbound : Bool) (spa : Bool) (spb : Bool) (users : BitVec 64) (s : State) (hz : Keeps z s) :
    KeepsA z (execSafetyFieldStale k inbound spa spb users s) := by
  unfold execSafetyFieldStale
  exact (keeps_iteA (keepsA_next hz)
  (keeps_iteA (keepsA_next (keeps_ite (State.fieldStale_keeps _ _ _ _ hz)
  hz))
  (keepsA_next (keeps_ite (State.fieldLost_keeps _ _ _ _ _ hz)
  hz))))

theorem execSafetyAdoptComplete_keeps {z : State} (s : State) (hz : Keeps z s) :
    KeepsA z (execSafetyAdoptComplete s) := by
  unfold execSafetyAdoptComplete
  exact (keeps_iteA (keepsA_next hz)
  (by
    extract_lets +onlyGivenNames x0_
    have h0_ : Keeps z x0_ := (State.safStore_keeps _ (State.waitTo_keeps _ _ hz))
    try clear_value x0_
    revert x0_
    refine keeps_id ?_
    intro x0_ h0_
    extract_lets +onlyGivenNames x1_
    extract_lets +onlyGivenNames x2_
    have h2_ : Keeps z x2_ := (keeps_saf h0_ _)
    try clear_value x2_
    revert x2_
    refine keeps_id ?_
    intro x2_ h2_
    extract_lets +onlyGivenNames x3_
    have h3_ : Keeps z x3_ := (State.safFunctions_keeps _ _ (State.safShow_keeps _ (State.wr_keeps _ _ _ h2_)))
    try clear_value x3_
    revert x3_
    refine keeps_id ?_
    intro x3_ h3_
    exact (keepsA_next (State.safSummary_keeps _ (State.enterSafe_keeps _ _ (State.tgStart_keeps _ h3_))))))

theorem State.safNoPlan_keeps {z : State} (s : State) (hz : Keeps z s) :
    Keeps z (State.safNoPlan s) := by
  unfold State.safNoPlan
  extract_lets +onlyGivenNames x0_
  extract_lets +onlyGivenNames x1_
  have h1_ : Keeps z x1_ := (keeps_saf hz _)
  try clear_value x1_
  revert x1_
  refine keeps_id ?_
  intro x1_ h1_
  exact (keeps_ite (State.enterSafe_keeps _ _ h1_)
  h1_)

theorem State.matrixForce_keeps {z : State} (s : State) (hz : Keeps z s) :
    Keeps z (State.matrixForce s) := by
  unfold State.matrixForce
  exact (keeps_ite hz
  (State.useFree_keeps _ (State.forceTrip_keeps _ _ hz)))

theorem execTestPulseSample_keeps {z : State} (l : Fin 8) (on : BitVec 16) (volts10 : Nat) (users : List (BitVec 64)) (s : State) (hz : Keeps z s) :
    KeepsA z (execTestPulseSample l on volts10 users s) := by
  unfold execTestPulseSample
  exact (keeps_iteA (keepsA_next hz)
  (keepsA_next (State.pulseSample_keeps _ _ _ _ _ (State.waitTo_keeps _ _ hz))))

theorem execExcursionExpire_keeps {z : State} (who : ExcOwner) (s : State) (hz : Keeps z s) :
    KeepsA z (execExcursionExpire who s) := by
  unfold execExcursionExpire
  exact (keeps_iteA (keepsA_next hz)
  (by
    split
    · exact (keeps_iteA (keepsA_next (State.funExpire_keeps _ _ hz))
      (keepsA_next hz))
    · exact (by
        split
        · exact (keeps_iteA (keepsA_next (State.matrixForce_keeps _ (State.waitTo_keeps _ _ hz)))
          (keepsA_next hz))
        · exact (keepsA_next hz))))

theorem execMatrixCheckEnd_keeps {z : State} (s : State) (hz : Keeps z s) :
    KeepsA z (execMatrixCheckEnd s) := by
  unfold execMatrixCheckEnd
  exact (by
    split
    · exact (keeps_iteA (keepsA_next (State.matrixForce_keeps _ (State.waitTo_keeps _ _ hz)))
      (by
        extract_lets +onlyGivenNames x0_
        have h0_ : Keeps z x0_ := (State.waitTo_keeps _ _ hz)
        try clear_value x0_
        revert x0_
        refine keeps_id ?_
        intro x0_ h0_
        extract_lets +onlyGivenNames x1_
        extract_lets +onlyGivenNames x2_
        have h2_ : Keeps z x2_ := (keeps_saf h0_ _)
        try clear_value x2_
        revert x2_
        refine keeps_id ?_
        intro x2_ h2_
        exact (keeps_iteA (by
          extract_lets +onlyGivenNames x3_
          extract_lets +onlyGivenNames x4_
          extract_lets +onlyGivenNames x5_
          have h5_ : Keeps z x5_ := (keeps_saf h2_ _)
          try clear_value x5_
          revert x5_
          refine keeps_id ?_
          intro x5_ h5_
          extract_lets +onlyGivenNames x6_
          have h6_ : Keeps z x6_ := (State.wr_keeps _ _ _ (State.wr_keeps _ _ _ (State.wr_keeps _ _ _ h5_)))
          try clear_value x6_
          revert x6_
          refine keeps_id ?_
          intro x6_ h6_
          exact (keepsA_next (State.matrix_keeps _ (State.safSummary_keeps _ (State.post_keeps _ _ _ _ _ _ h6_)))))
        (keepsA_next (State.post_keeps _ _ _ _ _ _ h2_)))))
    · exact (keepsA_next hz))

theorem State.procFail_keeps {z : State} (s : State) (p : Nat) (cause : Nat) (hz : Keeps z s) :
    Keeps z (State.procFail s p cause) := by
  unfold State.procFail
  exact (keeps_ite hz
  (by
    extract_lets +onlyGivenNames x0_
    extract_lets +onlyGivenNames x1_
    extract_lets +onlyGivenNames x2_
    have h2_ : Keeps z x2_ := (keeps_saf hz _)
    try clear_value x2_
    revert x2_
    refine keeps_id ?_
    intro x2_ h2_
    extract_lets +onlyGivenNames x3_
    have h3_ : Keeps z x3_ := (keeps_ite (State.wr_keeps _ _ _ h2_)
    (State.wr_keeps _ _ _ h2_))
    try clear_value x3_
    revert x3_
    refine keeps_id ?_
    intro x3_ h3_
    extract_lets +onlyGivenNames x4_
    have h4_ : Keeps z x4_ := (State.post_keeps _ _ _ _ _ _ h3_)
    try clear_value x4_
    revert x4_
    refine keeps_id ?_
    intro x4_ h4_
    extract_lets +onlyGivenNames x5_
    have h5_ : Keeps z x5_ := (State.funFaults_keeps _ _ _ _ _ h4_)
    try clear_value x5_
    revert x5_
    refine keeps_id ?_
    intro x5_ h5_
    exact (State.matrix_keeps _ (keeps_ite (State.forceTrip_keeps _ _ h5_)
    h5_))))

theorem State.safCompare_keeps {z : State} (s : State) (x : SafCycle) (hz : Keeps z s) :
    Keeps z (State.safCompare s x) := by
  unfold State.safCompare
  exact (keeps_ite (by
    extract_lets +onlyGivenNames x0_
    have h0_ : Keeps z x0_ := (keeps_ite (State.procFail_keeps _ _ _ hz)
    hz)
    try clear_value x0_
    revert x0_
    refine keeps_id ?_
    intro x0_ h0_
    extract_lets +onlyGivenNames x1_
    have h1_ : Keeps z x1_ := (keeps_ite (State.procFail_keeps _ _ _ h0_)
    h0_)
    try clear_value x1_
    revert x1_
    refine keeps_id ?_
    intro x1_ h1_
    exact (keeps_saf h1_ _))
  (by
    extract_lets +onlyGivenNames x2_
    extract_lets +onlyGivenNames x3_
    extract_lets +onlyGivenNames x4_
    extract_lets +onlyGivenNames x5_
    have h5_ : Keeps z x5_ := (keeps_saf hz _)
    try clear_value x5_
    revert x5_
    refine keeps_id ?_
    intro x5_ h5_
    extract_lets +onlyGivenNames x6_
    have h6_ : Keeps z x6_ := (keeps_ite (State.procFail_keeps _ _ _ h5_)
    h5_)
    try clear_value x6_
    revert x6_
    refine keeps_id ?_
    intro x6_ h6_
    extract_lets +onlyGivenNames x7_
    have h7_ : Keeps z x7_ := (keeps_ite (State.procFail_keeps _ _ _ h6_)
    h6_)
    try clear_value x7_
    revert x7_
    refine keeps_id ?_
    intro x7_ h7_
    exact (keeps_ite (State.funTrips_keeps _ _ _ h7_)
    h7_)))

theorem execSafetyWatchdogExpiry_keeps {z : State} (spb : Bool) (early : Bool) (s : State) (hz : Keeps z s) :
    KeepsA z (execSafetyWatchdogExpiry spb early s) := by
  unfold execSafetyWatchdogExpiry
  exact (keeps_iteA (keepsA_next hz)
  (keeps_iteA (keepsA_next (keeps_ite (State.procFail_keeps _ _ _ hz)
  hz))
  (keepsA_next (State.procFail_keeps _ _ _ (State.waitTo_keeps _ _ hz)))))

theorem State.planeTest_keeps {z : State} (s : State) (plane : Nat) (ok : Bool) (hz : Keeps z s) :
    Keeps z (State.planeTest s plane ok) := by
  unfold State.planeTest
  extract_lets +onlyGivenNames x0_
  exact (keeps_ite (keeps_saf hz _)
  (keeps_ite hz
  (by
    extract_lets +onlyGivenNames x1_
    have h1_ : Keeps z x1_ := (State.wr_keeps _ _ _ hz)
    try clear_value x1_
    revert x1_
    refine keeps_id ?_
    intro x1_ h1_
    extract_lets +onlyGivenNames x2_
    extract_lets +onlyGivenNames x3_
    have h3_ : Keeps z x3_ := (State.post_keeps _ _ _ _ _ _ h1_)
    try clear_value x3_
    revert x3_
    refine keeps_id ?_
    intro x3_ h3_
    exact (keeps_ite (State.matrixForce_keeps _ h3_)
    (by
      extract_lets +onlyGivenNames x4_
      extract_lets +onlyGivenNames x5_
      extract_lets +onlyGivenNames x6_
      extract_lets +onlyGivenNames x7_
      have h7_ : Keeps z x7_ := (State.wr_keeps _ _ _ (keeps_saf h3_ _))
      try clear_value x7_
      revert x7_
      refine keeps_id ?_
      intro x7_ h7_
      exact (State.safSummary_keeps _ (State.post_keeps _ _ _ _ _ _ h7_)))))))

theorem State.safTested_keeps {z : State} (s : State) (okA : Bool) (okB : Bool) (planeA : Bool) (planeB : Bool) (hz : Keeps z s) :
    Keeps z (State.safTested s okA okB planeA planeB) := by
  unfold State.safTested
  extract_lets +onlyGivenNames x0_
  have h0_ : Keeps z x0_ := (keeps_ite hz
  (State.procFail_keeps _ _ _ hz))
  try clear_value x0_
  revert x0_
  refine keeps_id ?_
  intro x0_ h0_
  extract_lets +onlyGivenNames x1_
  have h1_ : Keeps z x1_ := (keeps_ite h0_
  (State.procFail_keeps _ _ _ h0_))
  try clear_value x1_
  revert x1_
  refine keeps_id ?_
  intro x1_ h1_
  exact (State.planeTest_keeps _ _ _ (State.planeTest_keeps _ _ _ h1_))

theorem State.safCycle_keeps {z : State} (s : State) (x : SafCycle) (hz : Keeps z s) :
    Keeps z (State.safCycle s x) := by
  unfold State.safCycle
  extract_lets +onlyGivenNames x0_
  have h0_ : Keeps z x0_ := (State.safCompare_keeps _ _ hz)
  try clear_value x0_
  revert x0_
  refine keeps_id ?_
  intro x0_ h0_
  extract_lets +onlyGivenNames x1_
  have h1_ : Keeps z x1_ := (State.planeTest_keeps _ _ _ (State.planeTest_keeps _ _ _ h0_))
  try clear_value x1_
  revert x1_
  refine keeps_id ?_
  intro x1_ h1_
  extract_lets +onlyGivenNames x2_
  extract_lets +onlyGivenNames x3_
  have h3_ : Keeps z x3_ := (keeps_saf h1_ _)
  try clear_value x3_
  revert x3_
  refine keeps_id ?_
  intro x3_ h3_
  extract_lets +onlyGivenNames x4_
  have h4_ : Keeps z x4_ := (State.matrix_keeps _ h3_)
  try clear_value x4_
  revert x4_
  refine keeps_id ?_
  intro x4_ h4_
  extract_lets +onlyGivenNames x5_
  extract_lets +onlyGivenNames x6_
  have h6_ : Keeps z x6_ := (State.matrix_keeps _ (keeps_foldl (fun _ _ h7_ => (State.sinkReset_keeps _ _ _ h7_))
  h4_))
  try clear_value x6_
  revert x6_
  refine keeps_id ?_
  intro x6_ h6_
  extract_lets +onlyGivenNames x8_
  have h8_ : Keeps z x8_ := by
    subst x8_
    exact (by
      split
      · exact (State.post_keeps _ _ _ _ _ _ h6_)
      · exact h6_)
  try clear_value x8_
  revert x8_
  refine keeps_id ?_
  intro x8_ h8_
  exact (keeps_ite (keeps_foldl (fun _ _ h9_ => (State.tgSend_keeps _ _ _ h9_))
  h8_)
  (State.safRun_keeps _ h8_))

theorem State.safBoot_keeps {z : State} (s : State) (okA okB planeA planeB : Bool) (hz : Keeps z s) :
    Keeps z (State.safBoot s okA okB planeA planeB) := by
  have h0 := State.matrixResume_keeps _ (State.wr_keeps _ Reg.SAF_STAT_SPB_OK 1 (State.wr_keeps s Reg.SAF_STAT_SPA_OK 1 hz))
  have h1 := fun v => State.tgStart_keeps _ (State.safResume_keeps _ (State.safFunctions_keeps _ 1 (State.safShow_keeps _
    (keeps_saf h0 v))))
  have h2 := fun v => State.safTested_keeps _ okA okB planeA planeB (State.enterSafe_keeps _ 1 (h1 v))
  exact State.matrix_keeps _ (State.safSummary_keeps _ (keeps_ite (h2 _) (State.wr_keeps _ Reg.SAF_STAT_STATE 3 (h2 _))))

theorem execSafetyBootComplete_keeps {z : State} (okA : Bool) (okB : Bool) (planeA : Bool) (planeB : Bool) (s : State) (hz : Keeps z s) :
    KeepsA z (execSafetyBootComplete okA okB planeA planeB s) := by
  unfold execSafetyBootComplete
  exact (keeps_iteA (keepsA_next hz)
  (keepsA_next (State.safBoot_keeps _ _ _ _ _ hz)))

theorem execSafetyCycle_keeps {z : State} (x : SafCycle) (s : State) (hz : Keeps z s) :
    KeepsA z (execSafetyCycle x s) := by
  unfold execSafetyCycle
  refine keeps_iteA (keepsA_next hz) ?_
  have h0 : ∀ o : Option Nat, Keeps z (match o with
      | some t => s.waitTo (t + 9999000)
      | none => s) := by
    intro o
    cases o with
    | none => exact hz
    | some t => exact State.waitTo_keeps _ _ hz
  have h1 := fun v n => State.wr64_keeps _ Reg.SAF_CYCLE_LO Reg.SAF_CYCLE_HI n (keeps_saf (h0 s.saf.cycleAt) v)
  exact keepsA_next (keeps_ite (h1 _ _) (State.tgRead_keeps _ (State.safCycle_keeps _ _ (h1 _ _))))

end Sys2Proof.Machine
end

