-- ==== Sys2Proof/Laws/KeepsFpl.lean ====
section
/-!
SUPPORT. What the operations of Machine/Fpl.lean keep (Laws/Keeps.lean).
-/
namespace Sys2Proof.Machine

theorem State.softDigShow_keeps {z : State} (s : State) (hz : Keeps z s) :
    Keeps z (State.softDigShow s) := by
  unfold State.softDigShow
  extract_lets +onlyGivenNames x0_
  exact (keeps_foldl (fun _ _ h1_ => (State.wr_keeps _ _ _ h1_))
  hz)

theorem State.fplShow_keeps {z : State} (s : State) (w : FplWalk) (hz : Keeps z s) :
    Keeps z (State.fplShow s w) := by
  unfold State.fplShow
  extract_lets +onlyGivenNames x0_
  extract_lets +onlyGivenNames x1_
  have h1_ : Keeps z x1_ := (State.wr_keeps _ _ _ (State.wr_keeps _ _ _ (State.wr_keeps _ _ _ hz)))
  try clear_value x1_
  revert x1_
  refine keeps_id ?_
  intro x1_ h1_
  exact (keeps_ite (State.wr_keeps _ _ _ h1_)
  h1_)

theorem State.queLock_keeps {z : State} (s : State) (hz : Keeps z s) :
    Keeps z (State.queLock s) := by
  unfold State.queLock
  extract_lets +onlyGivenNames x0_
  have h0_ : Keeps z x0_ := (keeps_foldl (fun _ _ h1_ => (State.wr_keeps _ _ _ h1_))
  hz)
  try clear_value x0_
  revert x0_
  refine keeps_id ?_
  intro x0_ h0_
  extract_lets +onlyGivenNames x2_
  have h2_ : Keeps z x2_ := (State.wr_keeps _ _ _ h0_)
  try clear_value x2_
  revert x2_
  refine keeps_id ?_
  intro x2_ h2_
  extract_lets +onlyGivenNames x3_
  have h3_ : Keeps z x3_ := (keeps_foldl (fun _ _ h4_ => (keeps_ite (by
    extract_lets +onlyGivenNames x5_
    have h5_ : Keeps z x5_ := (State.wr_keeps _ _ _ (State.wr_keeps _ _ _ (State.wr_keeps _ _ _ h4_)))
    try clear_value x5_
    revert x5_
    refine keeps_id ?_
    intro x5_ h5_
    exact (State.wr_keeps _ _ _ (State.wrB_keeps _ _ _ (State.wr_keeps _ _ _ h5_))))
  h4_))
  h2_)
  try clear_value x3_
  revert x3_
  refine keeps_id ?_
  intro x3_ h3_
  exact (keeps_upd ⟨rfl, rfl, rfl, rfl, rfl, rfl, rfl, rfl⟩ h3_)

theorem State.keyRevoke_keeps {z : State} (s : State) (revoke : Bool) (key : Nat) (serial : Nat) (hz : Keeps z s) :
    Keeps z (State.keyRevoke s revoke key serial) := by
  unfold State.keyRevoke
  extract_lets +onlyGivenNames x0_
  exact (keeps_ite (State.post_keeps _ _ _ _ _ _ (State.wr_keeps _ _ _ hz))
  hz)

theorem State.softLand_keeps {z : State} (s : State) (new : List Section) (hz : Keeps z s) :
    Keeps z (State.softLand s new) := by
  unfold State.softLand
  extract_lets +onlyGivenNames x0_
  extract_lets +onlyGivenNames x1_
  have h1_ : Keeps z x1_ := (keeps_fpl hz _)
  try clear_value x1_
  revert x1_
  refine keeps_id ?_
  intro x1_ h1_
  extract_lets +onlyGivenNames x2_
  have h2_ : Keeps z x2_ := (keeps_ite (State.gbFillBuckets_keeps _ h1_)
  h1_)
  try clear_value x2_
  revert x2_
  refine keeps_id ?_
  intro x2_ h2_
  extract_lets +onlyGivenNames x3_
  have h3_ : Keeps z x3_ := (State.softDigShow_keeps _ h2_)
  try clear_value x3_
  revert x3_
  refine keeps_id ?_
  intro x3_ h3_
  extract_lets +onlyGivenNames x4_
  have h4_ : Keeps z x4_ := (State.post_keeps _ _ _ _ _ _ h3_)
  try clear_value x4_
  revert x4_
  refine keeps_id ?_
  intro x4_ h4_
  exact (keeps_ite (State.nbRefreshCheck_keeps _ h4_)
  h4_)

theorem State.slotStore_keeps {z : State} (s : State) (slot : Slot) (b : List Byte) (hz : Keeps z s) :
    Keeps z (State.slotStore s slot b) := by
  unfold State.slotStore
  extract_lets +onlyGivenNames x0_
  extract_lets +onlyGivenNames x1_
  have h1_ : Keeps z x1_ := by
    subst x1_
    exact (by
      split
      · exact (keeps_fpl hz _)
      · exact (keeps_fpl hz _))
  try clear_value x1_
  revert x1_
  refine keeps_id ?_
  intro x1_ h1_
  extract_lets +onlyGivenNames x2_
  have h2_ : Keeps z x2_ := (State.wr_keeps _ _ _ (State.wr_keeps _ _ _ h1_))
  try clear_value x2_
  revert x2_
  refine keeps_id ?_
  intro x2_ h2_
  extract_lets +onlyGivenNames x3_
  have h3_ : Keeps z x3_ := (State.keyRevoke_keeps _ _ _ _ h2_)
  try clear_value x3_
  revert x3_
  refine keeps_id ?_
  intro x3_ h3_
  exact (State.post_keeps _ _ _ _ _ _ h3_)

theorem execSoftSectionLanding_keeps {z : State} (peer : Bool) (s : State) (hz : Keeps z s) :
    KeepsA z (execSoftSectionLanding peer s) := by
  unfold execSoftSectionLanding
  exact (by
    split
    · exact (keepsA_next hz)
    · exact (keeps_iteA (keepsA_next hz)
      (by
        split
        · extract_lets +onlyGivenNames x0_
          exact (keeps_iteA (keepsA_next (State.softLand_keeps _ _ (keeps_frc hz _)))
          (keepsA_next hz))
        · exact (keepsA_next (State.softLand_keeps _ _ hz)))))

theorem State.fplReject_keeps {z : State} (s : State) (hz : Keeps z s) :
    Keeps z (State.fplReject s) := by
  unfold State.fplReject
  exact (State.post_keeps _ _ _ _ _ _ hz)

theorem execFplOperationComplete_keeps {z : State} (s : State) (hz : Keeps z s) :
    KeepsA z (execFplOperationComplete s) := by
  unfold execFplOperationComplete
  exact (by
    split
    · exact (keepsA_next hz)
    · extract_lets +onlyGivenNames x0_
      extract_lets +onlyGivenNames x1_
      extract_lets +onlyGivenNames x2_
      extract_lets +onlyGivenNames x3_
      extract_lets +onlyGivenNames x4_
      have h4_ : Keeps z x4_ := (keeps_fpl hz _)
      try clear_value x4_
      revert x4_
      refine keeps_id ?_
      intro x4_ h4_
      extract_lets +onlyGivenNames x5_
      have h5_ : Keeps z x5_ := (State.fplShow_keeps _ _ (State.wr_keeps _ _ _ h4_))
      try clear_value x5_
      revert x5_
      refine keeps_id ?_
      intro x5_ h5_
      exact (keeps_iteA (keepsA_next (State.fplReject_keeps _ h5_))
      (by
        split
        · exact (keepsA_next (State.slotStore_keeps _ _ _ h5_))
        · extract_lets +onlyGivenNames x6_
          exact (keepsA_next (keeps_fpl h5_ _))
        · exact (keepsA_next h5_))))

theorem State.slotFailed_keeps {z : State} (s : State) (slot : Slot) (f : FplFail) (hz : Keeps z s) :
    Keeps z (State.slotFailed s slot f) := by
  unfold State.slotFailed
  extract_lets +onlyGivenNames x0_
  have h0_ : Keeps z x0_ := (State.fplReject_keeps _ hz)
  try clear_value x0_
  revert x0_
  refine keeps_id ?_
  intro x0_ h0_
  exact (by
    split
    · exact (keeps_fpl h0_ _)
    · exact (keeps_fpl h0_ _))

theorem State.fplBegin_keeps {z : State} (s : State) (cmd : FplCmd) (hz : Keeps z s) :
    Keeps z (State.fplBegin s cmd) := by
  unfold State.fplBegin
  extract_lets +onlyGivenNames x0_
  extract_lets +onlyGivenNames x1_
  extract_lets +onlyGivenNames x2_
  extract_lets +onlyGivenNames x3_
  extract_lets +onlyGivenNames x4_
  extract_lets +onlyGivenNames x5_
  extract_lets +onlyGivenNames x6_
  extract_lets +onlyGivenNames x7_
  extract_lets +onlyGivenNames x8_
  extract_lets +onlyGivenNames x9_
  extract_lets +onlyGivenNames x10_
  have h10_ : Keeps z x10_ := (keeps_ite (State.joinAbort_keeps _ hz)
  hz)
  try clear_value x10_
  revert x10_
  refine keeps_id ?_
  intro x10_ h10_
  extract_lets +onlyGivenNames x11_
  have h11_ : Keeps z x11_ := (State.wr_keeps _ _ _ h10_)
  try clear_value x11_
  revert x11_
  refine keeps_id ?_
  intro x11_ h11_
  extract_lets +onlyGivenNames x12_
  exact (keeps_fpl h11_ _)

theorem State.slotHold_keeps {z : State} (s : State) (slot : Slot) (fallback : Bool) (w : FplWalk) (hz : Keeps z s) :
    Keeps z (State.slotHold s slot fallback w) := by
  unfold State.slotHold
  extract_lets +onlyGivenNames x0_
  extract_lets +onlyGivenNames x1_
  extract_lets +onlyGivenNames x2_
  extract_lets +onlyGivenNames x3_
  extract_lets +onlyGivenNames x4_
  extract_lets +onlyGivenNames x5_
  have h5_ : Keeps z x5_ := (keeps_fpl hz _)
  try clear_value x5_
  revert x5_
  refine keeps_id ?_
  intro x5_ h5_
  extract_lets +onlyGivenNames x6_
  have h6_ : Keeps z x6_ := (keeps_ite (State.post_keeps _ _ _ _ _ _ (State.wr_keeps _ _ _ h5_))
  h5_)
  try clear_value x6_
  revert x6_
  refine keeps_id ?_
  intro x6_ h6_
  exact (State.safOffer_keeps _ _ h6_)

theorem State.fplCmdWrite_keeps {z : State} (s : State) (m : Master) (v : Nat) (hz : Keeps z s) :
    Keeps z (State.fplCmdWrite s m v) := by
  unfold State.fplCmdWrite
  extract_lets +onlyGivenNames x0_
  exact (keeps_ite hz
  (keeps_ite (State.refuseWrite_keeps _ _ _ hz)
  (keeps_ite (State.fplBegin_keeps _ _ hz)
  (keeps_ite (State.fplBegin_keeps _ _ hz)
  (keeps_ite (State.fplBegin_keeps _ _ hz)
  (State.fplBegin_keeps _ _ hz))))))

theorem State.unitsLock_keeps {z : State} (s : State) (hz : Keeps z s) :
    Keeps z (State.unitsLock s) := by
  unfold State.unitsLock
  extract_lets +onlyGivenNames x0_
  have h0_ : Keeps z x0_ := (State.queLock_keeps _ hz)
  try clear_value x0_
  revert x0_
  refine keeps_id ?_
  intro x0_ h0_
  extract_lets +onlyGivenNames x1_
  have h1_ : Keeps z x1_ := (keeps_foldl (fun _ _ h2_ => (State.setTaskState_keeps _ _ _ h2_))
  h0_)
  try clear_value x1_
  revert x1_
  refine keeps_id ?_
  intro x1_ h1_
  extract_lets +onlyGivenNames x3_
  have h3_ : Keeps z x3_ := (keeps_foldl (fun _ _ h4_ => (keeps_ite (State.islLock_keeps _ _ h4_)
  h4_))
  h1_)
  try clear_value x3_
  revert x3_
  refine keeps_id ?_
  intro x3_ h3_
  extract_lets +onlyGivenNames x5_
  have h5_ : Keeps z x5_ := (keeps_foldl (fun _ _ h6_ => (State.canLock_keeps _ _ h6_))
  h3_)
  try clear_value x5_
  revert x5_
  refine keeps_id ?_
  intro x5_ h5_
  extract_lets +onlyGivenNames x7_
  have h7_ : Keeps z x7_ := (keeps_foldl (fun _ _ h8_ => (State.serLock_keeps _ _ h8_))
  h5_)
  try clear_value x7_
  revert x7_
  refine keeps_id ?_
  intro x7_ h7_
  exact (State.nbLock_keeps _ (State.wearLock_keeps _ (State.anxLock_keeps _ (State.slvLock_keeps _ (State.loopLock_keeps _ (State.axLock_keeps _ h7_))))))

theorem execFplSoftApply_keeps {z : State} (m : Master) (s : State) (hz : Keeps z s) :
    KeepsA z (execFplSoftApply m s) := by
  unfold execFplSoftApply
  exact (keepsA_next (State.access_keeps _ _ _ _ _ _ hz (fun _ h0_ => (State.fplCmdWrite_keeps _ _ _ h0_))))

theorem State.lock_keeps {z : State} (s : State) (im : FplImage) (hz : Keeps z s) :
    Keeps z (State.lock s im) := by
  unfold State.lock
  extract_lets +onlyGivenNames x0_
  extract_lets +onlyGivenNames x1_
  have h1_ : Keeps z x1_ := (keeps_fpl hz _)
  try clear_value x1_
  revert x1_
  refine keeps_id ?_
  intro x1_ h1_
  extract_lets +onlyGivenNames x2_
  have h2_ : Keeps z x2_ := (keeps_ite h1_
  (State.wr_keeps _ _ _ h1_))
  try clear_value x2_
  revert x2_
  refine keeps_id ?_
  intro x2_ h2_
  extract_lets +onlyGivenNames x3_
  have h3_ : Keeps z x3_ := (State.wr_keeps _ _ _ (State.latentCount_keeps _ h2_))
  try clear_value x3_
  revert x3_
  refine keeps_id ?_
  intro x3_ h3_
  extract_lets +onlyGivenNames x4_
  have h4_ : Keeps z x4_ := (State.wr_keeps _ _ _ (State.wr_keeps _ _ _ (State.wr_keeps _ _ _ h3_)))
  try clear_value x4_
  revert x4_
  refine keeps_id ?_
  intro x4_ h4_
  extract_lets +onlyGivenNames x5_
  have h5_ : Keeps z x5_ := (State.wr_keeps _ _ _ (State.wr_keeps _ _ _ h4_))
  try clear_value x5_
  revert x5_
  refine keeps_id ?_
  intro x5_ h5_
  extract_lets +onlyGivenNames x6_
  extract_lets +onlyGivenNames x7_
  have h7_ : Keeps z x7_ := (keeps_foldl (fun _ _ h8_ => (State.wr_keeps _ _ _ h8_))
  h5_)
  try clear_value x7_
  revert x7_
  refine keeps_id ?_
  intro x7_ h7_
  extract_lets +onlyGivenNames x9_
  have h9_ : Keeps z x9_ := (State.gbFillBuckets_keeps _ (State.wr_keeps _ _ _ (State.softDigShow_keeps _ h7_)))
  try clear_value x9_
  revert x9_
  refine keeps_id ?_
  intro x9_ h9_
  extract_lets +onlyGivenNames x10_
  have h10_ : Keeps z x10_ := (State.progShow_keeps _ (State.unitsLock_keeps _ h9_))
  try clear_value x10_
  revert x10_
  refine keeps_id ?_
  intro x10_ h10_
  extract_lets +onlyGivenNames x11_
  have h11_ : Keeps z x11_ := (State.wr_keeps _ _ _ h10_)
  try clear_value x11_
  revert x11_
  refine keeps_id ?_
  intro x11_ h11_
  extract_lets +onlyGivenNames x12_
  have h12_ : Keeps z x12_ := (State.setRole_keeps _ _ h11_)
  try clear_value x12_
  revert x12_
  refine keeps_id ?_
  intro x12_ h12_
  extract_lets +onlyGivenNames x13_
  have h13_ : Keeps z x13_ := (State.post_keeps _ _ _ _ _ _ h12_)
  try clear_value x13_
  revert x13_
  refine keeps_id ?_
  intro x13_ h13_
  extract_lets +onlyGivenNames x14_
  have h14_ : Keeps z x14_ := (keeps_ite (State.post_keeps _ _ _ _ _ _ h13_)
  h13_)
  try clear_value x14_
  revert x14_
  refine keeps_id ?_
  intro x14_ h14_
  extract_lets +onlyGivenNames x15_
  have h15_ : Keeps z x15_ := (State.keyRevoke_keeps _ _ _ _ h14_)
  try clear_value x15_
  revert x15_
  refine keeps_id ?_
  intro x15_ h15_
  exact (keeps_ite (State.sendRole_keeps _ h15_)
  h15_)

theorem execFplStore_keeps {z : State} (m : Master) (slot : Slot) (s : State) (hz : Keeps z s) :
    KeepsA z (execFplStore m slot s) := by
  unfold execFplStore
  exact (keepsA_next (State.access_keeps _ _ _ _ _ _ hz (fun _ h0_ => (State.fplCmdWrite_keeps _ _ _ h0_))))

theorem execFplVerify_keeps {z : State} (m : Master) (s : State) (hz : Keeps z s) :
    KeepsA z (execFplVerify m s) := by
  unfold execFplVerify
  exact (keepsA_next (State.access_keeps _ _ _ _ _ _ hz (fun _ h0_ => (State.fplCmdWrite_keeps _ _ _ h0_))))

theorem State.bootLock_keeps {z : State} (s : State) (hz : Keeps z s) :
    Keeps z (State.bootLock s) := by
  unfold State.bootLock
  exact (by
    split
    · extract_lets +onlyGivenNames x0_
      exact (keeps_ite (State.lock_keeps _ _ hz)
      hz)
    · exact hz)

theorem State.noPlan_keeps {z : State} (s : State) (hz : Keeps z s) :
    Keeps z (State.noPlan s) := by
  unfold State.noPlan
  extract_lets +onlyGivenNames x0_
  have h0_ : Keeps z x0_ := (State.wr_keeps _ _ _ (State.wr_keeps _ _ _ hz))
  try clear_value x0_
  revert x0_
  refine keeps_id ?_
  intro x0_ h0_
  exact (State.safNoPlan_keeps _ (State.post_keeps _ _ _ _ _ _ h0_))

theorem State.bootTry_keeps {z : State} (s : State) (hz : Keeps z s) :
    Keeps z (State.bootTry s) := by
  unfold State.bootTry
  extract_lets +onlyGivenNames x0_
  extract_lets +onlyGivenNames x1_
  extract_lets +onlyGivenNames x2_
  extract_lets +onlyGivenNames x3_
  have h3_ : Keeps z x3_ := (State.fplShow_keeps _ _ hz)
  try clear_value x3_
  revert x3_
  refine keeps_id ?_
  intro x3_ h3_
  exact (by
    split
    · exact (State.slotHold_keeps _ _ _ _ h3_)
    · extract_lets +onlyGivenNames x4_
      have h4_ : Keeps z x4_ := (State.slotFailed_keeps _ _ _ h3_)
      try clear_value x4_
      revert x4_
      refine keeps_id ?_
      intro x4_ h4_
      exact (keeps_ite (by
        extract_lets +onlyGivenNames x5_
        extract_lets +onlyGivenNames x6_
        have h6_ : Keeps z x6_ := (State.fplShow_keeps _ _ h4_)
        try clear_value x6_
        revert x6_
        refine keeps_id ?_
        intro x6_ h6_
        exact (by
          split
          · exact (State.slotHold_keeps _ _ _ _ h6_)
          · exact (State.noPlan_keeps _ (State.slotFailed_keeps _ _ _ h6_))))
      (State.noPlan_keeps _ h4_)))

theorem execBootLoad_keeps {z : State} (s : State) (hz : Keeps z s) :
    KeepsA z (execBootLoad s) := by
  unfold execBootLoad
  exact (keeps_iteA (keepsA_next hz)
  (keeps_iteA (keepsA_next (State.bootLock_keeps _ hz))
  (keepsA_next (State.bootLock_keeps _ (State.bootTry_keeps _ hz)))))

end Sys2Proof.Machine
end

