-- ==== Sys2Proof/Laws/KeepsJoin.lean ====
section
/-!
SUPPORT. What the operations of Machine/Join.lean keep (Laws/Keeps.lean).
-/
namespace Sys2Proof.Machine

theorem State.applyInsts_keeps {z : State} (s : State) (t : Nat) (new : List Inst) (hz : Keeps z s) :
    Keeps z (State.applyInsts s t new) := by
  unfold State.applyInsts
  extract_lets +onlyGivenNames x0_
  exact (keeps_scn hz _)

theorem State.setJoin_keeps {z : State} (s : State) (j : Join) (hz : Keeps z s) :
    Keeps z (State.setJoin s j) := by
  unfold State.setJoin
  exact (keeps_ban hz _ rfl)

theorem State.applySlots_keeps {z : State} (s : State) (b : List Byte) (hz : Keeps z s) :
    Keeps z (State.applySlots s b) := by
  unfold State.applySlots
  exact (keeps_ite hz
  (by
    extract_lets +onlyGivenNames x0_
    extract_lets +onlyGivenNames x1_
    extract_lets +onlyGivenNames x2_
    extract_lets +onlyGivenNames x3_
    extract_lets +onlyGivenNames x4_
    have h4_ : Keeps z x4_ := (keeps_slv hz _)
    try clear_value x4_
    revert x4_
    refine keeps_id ?_
    intro x4_ h4_
    exact (keeps_foldl (fun _ _ h5_ => (State.slvShowSlot_keeps _ _ h5_))
    h4_)))

theorem State.swapTake_keeps {z : State} (s : State) (landing : Nat) (hz : Keeps z s) :
    Keeps z (State.swapTake s landing) := by
  unfold State.swapTake
  exact (by
    split
    · exact (keeps_ite (State.setJoin_keeps _ _ hz)
      hz)
    · exact hz)

theorem State.setPhase_keeps {z : State} (s : State) (p : Nat) (hz : Keeps z s) :
    Keeps z (State.setPhase s p) := by
  unfold State.setPhase
  exact (State.wr_keeps _ _ _ hz)

theorem State.hamperSend_keeps {z : State} (s : State) (x : HamperSec) (parts : List (Nat × List Byte)) (hz : Keeps z s) :
    Keeps z (State.hamperSend s x parts) := by
  unfold State.hamperSend
  extract_lets +onlyGivenNames x0_
  extract_lets +onlyGivenNames x1_
  extract_lets +onlyGivenNames x2_
  extract_lets +onlyGivenNames x3_
  have h3_ : Keeps z x3_ := (keeps_foldl (fun _ _ h4_ => (State.banFrame_keeps _ _ _ _ h4_))
  hz)
  try clear_value x3_
  revert x3_
  refine keeps_id ?_
  intro x3_ h3_
  extract_lets +onlyGivenNames x5_
  have h5_ : Keeps z x5_ := (State.banFrame_keeps _ _ _ _ h3_)
  try clear_value x5_
  revert x5_
  refine keeps_id ?_
  intro x5_ h5_
  exact (by
    split
    · extract_lets +onlyGivenNames x6_
      extract_lets +onlyGivenNames x7_
      exact (State.wr_keeps _ _ _ (State.setJoin_keeps _ _ h5_))
    · exact h5_)

theorem State.joinAnswer_keeps {z : State} (s : State) (reason : Nat) (upgrade : Bool) (l : Nat) (hz : Keeps z s) :
    Keeps z (State.joinAnswer s reason upgrade l) := by
  unfold State.joinAnswer
  exact (State.banSend_keeps _ _ _ hz)

theorem execUpgradeAdmitLapse_keeps {z : State} (s : State) (hz : Keeps z s) :
    KeepsA z (execUpgradeAdmitLapse s) := by
  unfold execUpgradeAdmitLapse
  exact (keeps_iteA (keepsA_next (State.wr_keeps _ _ _ (keeps_frc hz _)))
  (keepsA_next hz))

theorem State.applyBlock_keeps {z : State} (s : State) (b : List Byte) (hz : Keeps z s) :
    Keeps z (State.applyBlock s b) := by
  unfold State.applyBlock
  extract_lets +onlyGivenNames x0_
  extract_lets +onlyGivenNames x1_
  exact (State.wr_keeps _ _ _ (State.setWords_keeps _ _ _ hz))

theorem State.applyLoops_keeps {z : State} (s : State) (b : List Byte) (hz : Keeps z s) :
    Keeps z (State.applyLoops s b) := by
  unfold State.applyLoops
  exact (keeps_foldl (fun _ _ h0_ => (keeps_ite (State.setLoop_keeps _ _ _ (State.setWords_keeps _ _ _ h0_))
  h0_))
  hz)

theorem State.putTask_keeps {z : State} (s : State) (x : Nat × List Nat × ScanTask) (hz : Keeps z s) :
    Keeps z (State.putTask s x) := by
  unfold State.putTask
  exact (State.setWords_keeps _ _ _ (State.setTask_keeps _ _ _ hz))

theorem State.caughtUpTake_keeps {z : State} (s : State) (hz : Keeps z s) :
    Keeps z (State.caughtUpTake s) := by
  unfold State.caughtUpTake
  exact (by
    split
    · exact (keeps_ite (State.setJoin_keeps _ _ (State.setPhase_keeps _ _ hz))
      hz)
    · exact hz)

theorem State.applyTopup_keeps {z : State} (s : State) (b : List Byte) (hz : Keeps z s) :
    Keeps z (State.applyTopup s b).1 := by
  unfold State.applyTopup
  extract_lets +onlyGivenNames x0_
  extract_lets +onlyGivenNames x1_
  extract_lets +onlyGivenNames x2_
  extract_lets +onlyGivenNames x3_
  extract_lets +onlyGivenNames x4_
  extract_lets +onlyGivenNames x5_
  extract_lets +onlyGivenNames x6_
  extract_lets +onlyGivenNames x7_
  extract_lets +onlyGivenNames x8_
  have h8_ : Keeps z x8_ := (keeps_lp hz _)
  try clear_value x8_
  revert x8_
  refine keeps_id ?_
  intro x8_ h8_
  extract_lets +onlyGivenNames x9_
  have h9_ : Keeps z x9_ := (keeps_foldl (fun _ _ h10_ => (keeps_ite (State.setWords_keeps _ _ _ (State.setLoop_keeps _ _ _ h10_))
  h10_))
  h8_)
  try clear_value x9_
  revert x9_
  refine keeps_id ?_
  intro x9_ h9_
  extract_lets +onlyGivenNames x11_
  have h11_ : Keeps z x11_ := (keeps_foldl (fun _ _ h12_ => (keeps_ite (State.setWords_keeps _ _ _ (State.setAxis_keeps _ _ _ h12_))
  h12_))
  h9_)
  try clear_value x11_
  revert x11_
  refine keeps_id ?_
  intro x11_ h11_
  extract_lets +onlyGivenNames x13_
  have h13_ : Keeps z x13_ := (keeps_ite (State.wake_keeps _ _ h11_)
  h11_)
  try clear_value x13_
  revert x13_
  refine keeps_id ?_
  intro x13_ h13_
  exact (State.axShowAll_keeps _ h13_)

theorem State.applyForces_keeps {z : State} (s : State) (b : List Byte) (hz : Keeps z s) :
    Keeps z (State.applyForces s b) := by
  unfold State.applyForces
  exact (State.forceShow_keeps _ (keeps_scn hz _))

theorem State.joinAsk_keeps {z : State} (s : State) (hz : Keeps z s) :
    Keeps z (State.joinAsk s) := by
  unfold State.joinAsk
  extract_lets +onlyGivenNames x0_
  have h0_ : Keeps z x0_ := by
    subst x0_
    exact (by
      split
      · exact (State.setJoin_keeps _ _ hz)
      · exact hz)
  try clear_value x0_
  revert x0_
  refine keeps_id ?_
  intro x0_ h0_
  exact (State.banAsk_keeps _ _ _ h0_)

theorem State.applyTask_keeps {z : State} (s : State) (t : Nat) (b : List Byte) (hz : Keeps z s) :
    Keeps z (State.applyTask s t b) := by
  unfold State.applyTask
  extract_lets +onlyGivenNames x0_
  exact (State.applyInsts_keeps _ _ _ (State.putTask_keeps _ _ hz))

theorem State.joinRequestTake_keeps {z : State} (s : State) (caps : Nat) (station : Nat) (serial : Nat) (sdig : List Byte) (pdig : List Byte) (hz : Keeps z s) :
    Keeps z (State.joinRequestTake s caps station serial sdig pdig) := by
  unfold State.joinRequestTake
  extract_lets +onlyGivenNames x0_
  extract_lets +onlyGivenNames x1_
  extract_lets +onlyGivenNames x2_
  extract_lets +onlyGivenNames x3_
  have h3_ : Keeps z x3_ := (State.wr_keeps _ _ _ hz)
  try clear_value x3_
  revert x3_
  refine keeps_id ?_
  intro x3_ h3_
  extract_lets +onlyGivenNames x4_
  extract_lets +onlyGivenNames x5_
  have h5_ : Keeps z x5_ := (keeps_ite (keeps_ban h3_ _ rfl)
  h3_)
  try clear_value x5_
  revert x5_
  refine keeps_id ?_
  intro x5_ h5_
  exact (keeps_ite (State.joinAnswer_keeps _ _ _ _ h5_)
  (keeps_ite (State.joinAnswer_keeps _ _ _ _ h5_)
  (by
    extract_lets +onlyGivenNames x6_
    extract_lets +onlyGivenNames x7_
    have h7_ : Keeps z x7_ := (keeps_ite (State.wr_keeps _ _ _ h5_)
    h5_)
    try clear_value x7_
    revert x7_
    refine keeps_id ?_
    intro x7_ h7_
    extract_lets +onlyGivenNames x8_
    have h8_ : Keeps z x8_ := (State.wr_keeps _ _ _ (State.setPhase_keeps _ _ h7_))
    try clear_value x8_
    revert x8_
    refine keeps_id ?_
    intro x8_ h8_
    extract_lets +onlyGivenNames x9_
    have h9_ : Keeps z x9_ := (State.setJoin_keeps _ _ h8_)
    try clear_value x9_
    revert x9_
    refine keeps_id ?_
    intro x9_ h9_
    exact (State.joinAnswer_keeps _ _ _ _ h9_))))

theorem execLatentLimitReached_keeps {z : State} (s : State) (hz : Keeps z s) :
    KeepsA z (execLatentLimitReached s) := by
  unfold execLatentLimitReached
  extract_lets +onlyGivenNames x0_
  have h0_ : Keeps z x0_ := (State.latentCount_keeps _ hz)
  try clear_value x0_
  revert x0_
  refine keeps_id ?_
  intro x0_ h0_
  extract_lets +onlyGivenNames x1_
  exact (keeps_iteA (keepsA_next (State.post_keeps _ _ _ _ _ _ (keeps_ban h0_ _ rfl)))
  (keepsA_next h0_))

theorem State.dirtySend_keeps {z : State} (s : State) (now : List HamperSec) (hz : Keeps z s) :
    Keeps z (State.dirtySend s now) := by
  unfold State.dirtySend
  exact (by
    split
    · extract_lets +onlyGivenNames x0_
      exact (keeps_foldl (fun _ _ h1_ => (State.hamperSend_keeps _ _ _ h1_))
      hz)
    · exact hz)

theorem State.takeMode_keeps {z : State} (s : State) (m : Nat) (hz : Keeps z s) :
    Keeps z (State.takeMode s m) := by
  unfold State.takeMode
  extract_lets +onlyGivenNames x0_
  have h0_ : Keeps z x0_ := (keeps_ite hz
  (State.wake_keeps _ _ hz))
  try clear_value x0_
  revert x0_
  refine keeps_id ?_
  intro x0_ h0_
  extract_lets +onlyGivenNames x1_
  have h1_ : Keeps z x1_ := (keeps_ite h0_
  (State.post_keeps _ _ _ _ _ _ h0_))
  try clear_value x1_
  revert x1_
  refine keeps_id ?_
  intro x1_ h1_
  exact (State.wr_keeps _ _ _ h1_)

theorem execSwapLanding_keeps {z : State} (s : State) (hz : Keeps z s) :
    KeepsA z (execSwapLanding s) := by
  unfold execSwapLanding
  exact (by
    split
    · exact (by
        split
        · exact (keeps_iteA (by
            extract_lets +onlyGivenNames x0_
            have h0_ : Keeps z x0_ := (keeps_frc hz _)
            try clear_value x0_
            revert x0_
            refine keeps_id ?_
            intro x0_ h0_
            extract_lets +onlyGivenNames x1_
            extract_lets +onlyGivenNames x2_
            have h2_ : Keeps z x2_ := (keeps_scn h0_ _)
            try clear_value x2_
            revert x2_
            refine keeps_id ?_
            intro x2_ h2_
            extract_lets +onlyGivenNames x3_
            have h3_ : Keeps z x3_ := (State.setJoin_keeps _ _ h2_)
            try clear_value x3_
            revert x3_
            refine keeps_id ?_
            intro x3_ h3_
            extract_lets +onlyGivenNames x4_
            have h4_ : Keeps z x4_ := (State.dirtySend_keeps _ _ h3_)
            try clear_value x4_
            revert x4_
            refine keeps_id ?_
            intro x4_ h4_
            exact (keepsA_next (keeps_foldl (fun _ _ h5_ => (State.hamperSend_keeps _ _ _ h5_))
            h4_)))
          (keepsA_next hz))
        · exact (keepsA_next hz))
    · exact (keepsA_next hz))

theorem State.joinBegin_keeps {z : State} (s : State) (hz : Keeps z s) :
    Keeps z (State.joinBegin s) := by
  unfold State.joinBegin
  extract_lets +onlyGivenNames x0_
  have h0_ : Keeps z x0_ := (State.setJoin_keeps _ _ (State.setPhase_keeps _ _ hz))
  try clear_value x0_
  revert x0_
  refine keeps_id ?_
  intro x0_ h0_
  extract_lets +onlyGivenNames x1_
  extract_lets +onlyGivenNames x2_
  have h2_ : Keeps z x2_ := (keeps_ban h0_ _ rfl)
  try clear_value x2_
  revert x2_
  refine keeps_id ?_
  intro x2_ h2_
  exact (State.joinAsk_keeps _ h2_)

theorem State.applyQueues_keeps {z : State} (s : State) (b : List Byte) (hz : Keeps z s) :
    Keeps z (State.applyQueues s b).1 := by
  unfold State.applyQueues
  extract_lets +onlyGivenNames x0_
  extract_lets +onlyGivenNames x1_
  extract_lets +onlyGivenNames x2_
  have h2_ : Keeps z x2_ := (keeps_foldl (fun _ _ h3_ => (keeps_ite (by
    extract_lets +onlyGivenNames x4_
    have h4_ : Keeps z x4_ := (State.setBytes_keeps _ _ _ (State.setWords_keeps _ _ _ h3_))
    try clear_value x4_
    revert x4_
    refine keeps_id ?_
    intro x4_ h4_
    extract_lets +onlyGivenNames x5_
    have h5_ : Keeps z x5_ := (State.setRxCount_keeps _ _ _ h4_)
    try clear_value x5_
    revert x5_
    refine keeps_id ?_
    intro x5_ h5_
    exact (keeps_posted h5_ _))
  h3_))
  hz)
  try clear_value x2_
  revert x2_
  refine keeps_id ?_
  intro x2_ h2_
  extract_lets +onlyGivenNames x6_
  have h6_ : Keeps z x6_ := (keeps_foldl (fun _ _ h7_ => (keeps_ite (by
    extract_lets +onlyGivenNames x8_
    exact (State.setChan_keeps _ _ _ (State.setWords_keeps _ _ _ h7_)))
  h7_))
  h2_)
  try clear_value x6_
  revert x6_
  refine keeps_id ?_
  intro x6_ h6_
  exact h6_

theorem State.dirtyRound_keeps {z : State} (s : State) (j : Join) (hz : Keeps z s) :
    Keeps z (State.dirtyRound s j) := by
  unfold State.dirtyRound
  extract_lets +onlyGivenNames x0_
  extract_lets +onlyGivenNames x1_
  exact (State.wr_keeps _ _ _ (State.dirtySend_keeps _ _ hz))

theorem State.joinedTake_keeps {z : State} (s : State) (hz : Keeps z s) :
    Keeps z (State.joinedTake s) := by
  unfold State.joinedTake
  exact (by
    split
    · exact (keeps_ite (by
        extract_lets +onlyGivenNames x0_
        extract_lets +onlyGivenNames x1_
        extract_lets +onlyGivenNames x2_
        have h2_ : Keeps z x2_ := (keeps_ban hz _ rfl)
        try clear_value x2_
        revert x2_
        refine keeps_id ?_
        intro x2_ h2_
        extract_lets +onlyGivenNames x3_
        have h3_ : Keeps z x3_ := (State.setPeerRole_keeps _ _ (State.wr_keeps _ _ _ (State.setPhase_keeps _ _ h2_)))
        try clear_value x3_
        revert x3_
        refine keeps_id ?_
        intro x3_ h3_
        exact (State.sendRole_keeps _ (State.setRole_keeps _ _ h3_)))
      hz)
    · exact hz)

theorem State.topupAt_keeps {z : State} (s : State) (at_ : Nat) (b : List Byte) (hz : Keeps z s) :
    Keeps z (State.topupAt s at_ b) := by
  unfold State.topupAt
  extract_lets +onlyGivenNames x0_
  have h0_ : Keeps z x0_.1 := (State.applyTopup_keeps _ _ (keeps_frc hz _))
  try clear_value x0_
  revert x0_
  refine keeps_id ?_
  intro x0_ h0_
  exact (State.applySlots_keeps _ _ (by
    extract_lets +onlyGivenNames x1_
    have h1_ : Keeps z x1_ := h0_
    try clear_value x1_
    revert x1_
    refine keeps_id ?_
    intro x1_ h1_
    exact (keeps_frc h1_ _)))

theorem execHamperSend_keeps {z : State} (s : State) (hz : Keeps z s) :
    KeepsA z (execHamperSend s) := by
  unfold execHamperSend
  exact (by
    split
    · exact (keeps_iteA (keepsA_next hz)
      (by
        split
        · exact (keepsA_next (State.hamperSend_keeps _ _ _ (State.setJoin_keeps _ _ hz)))
        · exact (keepsA_next (keeps_ite (State.dirtyRound_keeps _ _ hz)
          hz))))
    · exact (keepsA_next hz))

theorem State.readyTake_keeps {z : State} (s : State) (resets : Nat) (discarded : Nat) (hz : Keeps z s) :
    Keeps z (State.readyTake s resets discarded) := by
  unfold State.readyTake
  exact (by
    split
    · exact (keeps_ite (by
        extract_lets +onlyGivenNames x0_
        extract_lets +onlyGivenNames x1_
        have h1_ : Keeps z x1_ := (State.setJoin_keeps _ _ hz)
        try clear_value x1_
        revert x1_
        refine keeps_id ?_
        intro x1_ h1_
        extract_lets +onlyGivenNames x2_
        extract_lets +onlyGivenNames x3_
        have h3_ : Keeps z x3_ := (State.post_keeps _ _ _ _ _ _ h1_)
        try clear_value x3_
        revert x3_
        refine keeps_id ?_
        intro x3_ h3_
        extract_lets +onlyGivenNames x4_
        have h4_ : Keeps z x4_ := (State.wr_keeps _ _ _ (State.wr_keeps _ _ _ (State.wr_keeps _ _ _ h3_)))
        try clear_value x4_
        revert x4_
        refine keeps_id ?_
        intro x4_ h4_
        extract_lets +onlyGivenNames x5_
        have h5_ : Keeps z x5_ := (State.bump_keeps _ _ h4_)
        try clear_value x5_
        revert x5_
        refine keeps_id ?_
        intro x5_ h5_
        exact (keeps_ban h5_ _ rfl))
      hz)
    · exact hz)

theorem State.topupTake_keeps {z : State} (s : State) (sent : Nat) (b : List Byte) (hz : Keeps z s) :
    Keeps z (State.topupTake s sent b) := by
  unfold State.topupTake
  exact (by
    split
    · extract_lets +onlyGivenNames x0_
      exact (keeps_ite hz
      (keeps_ite (State.topupAt_keeps _ _ _ hz)
      (State.setJoin_keeps _ _ hz)))
    · exact hz)

theorem State.swapMap_keeps {z : State} (s : State) (j : Join) (hz : Keeps z s) :
    Keeps z (State.swapMap s j).1 := by
  unfold State.swapMap
  extract_lets +onlyGivenNames x0_
  extract_lets +onlyGivenNames x1_
  extract_lets +onlyGivenNames x2_
  extract_lets +onlyGivenNames x3_
  have h3_ : Keeps z x3_ := (keeps_foldl (fun _ _ h4_ => (State.post_keeps _ _ _ _ _ _ h4_))
  hz)
  try clear_value x3_
  revert x3_
  refine keeps_id ?_
  intro x3_ h3_
  extract_lets +onlyGivenNames x5_
  have h5_ : Keeps z x5_ := (State.mapInsts_keeps _ _ h3_)
  try clear_value x5_
  revert x5_
  refine keeps_id ?_
  intro x5_ h5_
  extract_lets +onlyGivenNames x6_
  have h6_ : Keeps z x6_ := (State.applyLoops_keeps _ _ (State.forcesSettle_keeps _ (State.applyForces_keeps _ _ h5_)))
  try clear_value x6_
  revert x6_
  refine keeps_id ?_
  intro x6_ h6_
  extract_lets +onlyGivenNames x7_
  have h7_ : Keeps z x7_.1 := (State.applyQueues_keeps _ _ h6_)
  try clear_value x7_
  revert x7_
  refine keeps_id ?_
  intro x7_ h7_
  extract_lets +onlyGivenNames x8_
  extract_lets +onlyGivenNames x9_
  have h9_ : Keeps z x9_ := (State.applyBlock_keeps _ _ h7_)
  try clear_value x9_
  revert x9_
  refine keeps_id ?_
  intro x9_ h9_
  extract_lets +onlyGivenNames x10_
  have h10_ : Keeps z x10_ := (State.wr_keeps _ _ _ (State.takeMode_keeps _ _ h9_))
  try clear_value x10_
  revert x10_
  refine keeps_id ?_
  intro x10_ h10_
  extract_lets +onlyGivenNames x11_
  have h11_ : Keeps z x11_ := (keeps_foldl (fun _ _ h12_ => (keeps_ite (State.putTask_keeps _ _ h12_)
  h12_))
  h10_)
  try clear_value x11_
  revert x11_
  refine keeps_id ?_
  intro x11_ h11_
  extract_lets +onlyGivenNames x13_
  extract_lets +onlyGivenNames x14_
  extract_lets +onlyGivenNames x15_
  have h15_ : Keeps z x15_ := (keeps_upd ⟨rfl, rfl, rfl, rfl, rfl, rfl, rfl, rfl⟩ h11_)
  try clear_value x15_
  revert x15_
  refine keeps_id ?_
  intro x15_ h15_
  exact h15_

theorem execJoinStart_keeps {z : State} (s : State) (hz : Keeps z s) :
    KeepsA z (execJoinStart s) := by
  unfold execJoinStart
  exact (keeps_iteA (keepsA_next (State.joinBegin_keeps _ (keeps_ban hz _ rfl)))
  (keepsA_next hz))

theorem State.applyTasks_keeps {z : State} (s : State) (b : List Byte) (hz : Keeps z s) :
    Keeps z (State.applyTasks s b) := by
  unfold State.applyTasks
  extract_lets +onlyGivenNames x0_
  extract_lets +onlyGivenNames x1_
  have h1_ : Keeps z x1_ := (State.wr_keeps _ _ _ (State.takeMode_keeps _ _ hz))
  try clear_value x1_
  revert x1_
  refine keeps_id ?_
  intro x1_ h1_
  extract_lets +onlyGivenNames x2_
  have h2_ : Keeps z x2_ := (keeps_foldl (fun _ _ h3_ => (State.putTask_keeps _ _ h3_))
  h1_)
  try clear_value x2_
  revert x2_
  refine keeps_id ?_
  intro x2_ h2_
  extract_lets +onlyGivenNames x4_
  extract_lets +onlyGivenNames x5_
  extract_lets +onlyGivenNames x6_
  have h6_ : Keeps z x6_ := (keeps_upd ⟨rfl, rfl, rfl, rfl, rfl, rfl, rfl, rfl⟩ h2_)
  try clear_value x6_
  revert x6_
  refine keeps_id ?_
  intro x6_ h6_
  exact (by
    split
    · exact (State.setJoin_keeps _ _ h6_)
    · exact h6_)

theorem execJoinRetry_keeps {z : State} (s : State) (hz : Keeps z s) :
    KeepsA z (execJoinRetry s) := by
  unfold execJoinRetry
  exact (by
    split
    · exact (keeps_iteA (by
        extract_lets +onlyGivenNames x0_
        have h0_ : Keeps z x0_ := (keeps_frc hz _)
        try clear_value x0_
        revert x0_
        refine keeps_id ?_
        intro x0_ h0_
        exact (keepsA_next (State.joinAsk_keeps _ (State.setJoin_keeps _ _ h0_))))
      (keepsA_next hz))
    · exact (keeps_iteA (keepsA_next (State.joinBegin_keeps _ (keeps_frc hz _)))
      (keepsA_next hz)))

theorem State.hamperAckTake_keeps {z : State} (s : State) (kind : Nat) (index : Nat) (good : Bool) (hz : Keeps z s) :
    Keeps z (State.hamperAckTake s kind index good) := by
  unfold State.hamperAckTake
  exact (by
    split
    · exact (keeps_ite hz
      (keeps_ite (State.joinEnd_keeps _ _ hz)
      (by
        extract_lets +onlyGivenNames x0_
        extract_lets +onlyGivenNames x1_
        have h1_ : Keeps z x1_ := (State.setJoin_keeps _ _ hz)
        try clear_value x1_
        revert x1_
        refine keeps_id ?_
        intro x1_ h1_
        exact (keeps_ite (State.setPhase_keeps _ _ h1_)
        h1_))))
    · exact hz)

theorem State.applySec_keeps {z : State} (s : State) (x : HamperSec) (hz : Keeps z s) :
    Keeps z (State.applySec s x) := by
  unfold State.applySec
  exact (by
    split
    · extract_lets +onlyGivenNames x0_
      extract_lets +onlyGivenNames x1_
      have h1_ : Keeps z x1_ := (State.softDigShow_keeps _ (keeps_fpl hz _))
      try clear_value x1_
      revert x1_
      refine keeps_id ?_
      intro x1_ h1_
      exact (State.gbFillBuckets_keeps _ h1_)
    · exact (State.applyForces_keeps _ _ hz)
    · exact (State.applyTasks_keeps _ _ hz)
    · exact (State.applyTask_keeps _ _ _ hz)
    · exact (State.applyLoops_keeps _ _ hz)
    · exact (State.applyQueues_keeps _ _ hz)
    · exact (State.applyBlock_keeps _ _ hz)
    · exact hz)

theorem execJoinRequestResend_keeps {z : State} (s : State) (hz : Keeps z s) :
    KeepsA z (execJoinRequestResend s) := by
  unfold execJoinRequestResend
  exact (by
    split
    · exact (keeps_iteA (keepsA_next hz)
      (keeps_iteA (keepsA_next (State.joinEnd_keeps _ _ (State.setJoin_keeps _ _ hz)))
      (keepsA_next (State.joinAsk_keeps _ (State.setJoin_keeps _ _ (keeps_frc hz _))))))
    · exact (keepsA_next hz))

theorem State.swapReady_keeps {z : State} (s : State) (hz : Keeps z s) :
    Keeps z (State.swapReady s) := by
  unfold State.swapReady
  exact (by
    split
    · exact (keeps_ite (by
        extract_lets +onlyGivenNames x0_
        have h0_ : Keeps z x0_.1 := (State.swapMap_keeps _ _ hz)
        try clear_value x0_
        revert x0_
        refine keeps_id ?_
        intro x0_ h0_
        extract_lets +onlyGivenNames x1_
        have h1_ : Keeps z x1_ := (State.banSend_keeps _ _ _ h0_)
        try clear_value x1_
        revert x1_
        refine keeps_id ?_
        intro x1_ h1_
        extract_lets +onlyGivenNames x2_
        have h2_ : Keeps z x2_ := (State.wr_keeps _ _ _ (State.wr_keeps _ _ _ (State.wr_keeps _ _ _ h1_)))
        try clear_value x2_
        revert x2_
        refine keeps_id ?_
        intro x2_ h2_
        extract_lets +onlyGivenNames x3_
        have h3_ : Keeps z x3_ := (State.bump_keeps _ _ h2_)
        try clear_value x3_
        revert x3_
        refine keeps_id ?_
        intro x3_ h3_
        extract_lets +onlyGivenNames x4_
        extract_lets +onlyGivenNames x5_
        have h5_ : Keeps z x5_ := (State.banSend_keeps _ _ _ h3_)
        try clear_value x5_
        revert x5_
        refine keeps_id ?_
        intro x5_ h5_
        exact (keeps_ban h5_ _ rfl))
      hz)
    · exact hz)

theorem State.hamperDone_keeps {z : State} (s : State) (hz : Keeps z s) :
    Keeps z (State.hamperDone s) := by
  unfold State.hamperDone
  exact (by
    split
    · exact (keeps_ite hz
      (keeps_ite (State.post_keeps _ _ _ _ _ _ (State.setPhase_keeps _ _ hz))
      (by
        extract_lets +onlyGivenNames x0_
        exact (State.setPhase_keeps _ _ (keeps_foldl (fun _ _ h1_ => (State.applySec_keeps _ _ h1_))
        hz)))))
    · exact hz)

theorem State.joinCmdWrite_keeps {z : State} (s : State) (v : Nat) (differ : Nat) (hz : Keeps z s) :
    Keeps z (State.joinCmdWrite s v differ) := by
  unfold State.joinCmdWrite
  extract_lets +onlyGivenNames x0_
  exact (keeps_ite hz
  (keeps_ite (keeps_ite (State.wr_keeps _ _ _ (State.joinBegin_keeps _ (keeps_ban hz _ rfl)))
  (State.wr_keeps _ _ _ hz))
  (keeps_ite (keeps_ite (State.wr_keeps _ _ _ hz)
  (keeps_ite (State.wr_keeps _ _ _ hz)
  (by
    extract_lets +onlyGivenNames x1_
    have h1_ : Keeps z x1_ := (State.wr_keeps _ _ _ (State.wr_keeps _ _ _ hz))
    try clear_value x1_
    revert x1_
    refine keeps_id ?_
    intro x1_ h1_
    exact (keeps_ban h1_ _ rfl))))
  (keeps_ite (by
    extract_lets +onlyGivenNames x2_
    extract_lets +onlyGivenNames x3_
    have h3_ : Keeps z x3_ := (State.wr_keeps _ _ _ hz)
    try clear_value x3_
    revert x3_
    refine keeps_id ?_
    intro x3_ h3_
    exact (keeps_ite (State.post_keeps _ _ _ _ _ _ h3_)
    (by
      split
      · exact (State.banSend_keeps _ _ _ (State.setJoin_keeps _ _ h3_))
      · exact h3_)))
  (keeps_ite (by
    extract_lets +onlyGivenNames x4_
    have h4_ : Keeps z x4_ := (State.wr_keeps _ _ _ hz)
    try clear_value x4_
    revert x4_
    refine keeps_id ?_
    intro x4_ h4_
    extract_lets +onlyGivenNames x5_
    have h5_ : Keeps z x5_ := by
      subst x5_
      exact (by
        split
        · exact (keeps_ite (State.joinAbort_keeps _ h4_)
          h4_)
        · exact h4_)
    try clear_value x5_
    revert x5_
    refine keeps_id ?_
    intro x5_ h5_
    exact (State.wr_keeps _ _ _ h5_))
  hz)))))

theorem State.joinAnswerTake_keeps {z : State} (s : State) (reason : Nat) (upgrade : Bool) (caps : Nat) (l : Option Nat) (hz : Keeps z s) :
    Keeps z (State.joinAnswerTake s reason upgrade caps l) := by
  unfold State.joinAnswerTake
  exact (by
    split
    · exact hz
    · exact (keeps_ite hz
      (by
        extract_lets +onlyGivenNames x0_
        have h0_ : Keeps z x0_ := (State.hsDone_keeps _ _ hz)
        try clear_value x0_
        revert x0_
        refine keeps_id ?_
        intro x0_ h0_
        exact (keeps_ite (keeps_ite (State.joinEnd_keeps _ _ h0_)
        h0_)
        (keeps_ite (State.joinFailed_keeps _ _ (State.post_keeps _ _ _ _ _ _ h0_))
        (by
          split
          · extract_lets +onlyGivenNames x1_
            have h1_ : Keeps z x1_ := (State.setJoin_keeps _ _ h0_)
            try clear_value x1_
            revert x1_
            refine keeps_id ?_
            intro x1_ h1_
            exact (keeps_ban h1_ _ rfl)
          · extract_lets +onlyGivenNames x2_
            have h2_ : Keeps z x2_ := (State.wr_keeps _ _ _ (State.setPhase_keeps _ _ h0_))
            try clear_value x2_
            revert x2_
            refine keeps_id ?_
            intro x2_ h2_
            exact (State.setJoin_keeps _ _ h2_)))))))

theorem execBanSwap_keeps {z : State} (m : Master) (differ : BitVec 8) (s : State) (hz : Keeps z s) :
    KeepsA z (execBanSwap m differ s) := by
  unfold execBanSwap
  exact (keepsA_next (State.access_keeps _ _ _ _ _ _ hz (fun _ h0_ => (State.joinCmdWrite_keeps _ _ _ h0_))))

theorem State.hamperTake_keeps {z : State} (s : State) (sent : Nat) (k : Nat) (i : Nat) (offset : Nat) (total : Nat) (last : Bool) (data : List Byte) (hz : Keeps z s) :
    Keeps z (State.hamperTake s sent k i offset total last data) := by
  unfold State.hamperTake
  exact (by
    split
    · exact hz
    · exact (keeps_ite hz
      (by
        extract_lets +onlyGivenNames x0_
        exact (keeps_ite (State.setJoin_keeps _ _ hz)
        (by
          extract_lets +onlyGivenNames x1_
          extract_lets +onlyGivenNames x2_
          extract_lets +onlyGivenNames x3_
          extract_lets +onlyGivenNames x4_
          have h4_ : Keeps z x4_ := (State.banSend_keeps _ _ _ hz)
          try clear_value x4_
          revert x4_
          refine keeps_id ?_
          intro x4_ h4_
          exact (keeps_ite (State.joinEnd_keeps _ _ (State.setJoin_keeps _ _ h4_))
          (by
            extract_lets +onlyGivenNames x5_
            extract_lets +onlyGivenNames x6_
            extract_lets +onlyGivenNames x7_
            extract_lets +onlyGivenNames x8_
            extract_lets +onlyGivenNames x9_
            have h9_ : Keeps z x9_ := (State.wr_keeps _ _ _ (State.setJoin_keeps _ _ h4_))
            try clear_value x9_
            revert x9_
            refine keeps_id ?_
            intro x9_ h9_
            exact (State.swapReady_keeps _ (State.hamperDone_keeps _ h9_)))))))))

theorem execBanJoin_keeps {z : State} (m : Master) (s : State) (hz : Keeps z s) :
    KeepsA z (execBanJoin m s) := by
  unfold execBanJoin
  exact (keepsA_next (State.access_keeps _ _ _ _ _ _ hz (fun _ h0_ => (State.joinCmdWrite_keeps _ _ _ h0_))))

theorem execUpgradeAdmit_keeps {z : State} (m : Master) (s : State) (hz : Keeps z s) :
    KeepsA z (execUpgradeAdmit m s) := by
  unfold execUpgradeAdmit
  exact (keepsA_next (State.access_keeps _ _ _ _ _ _ hz (fun _ h0_ => (State.joinCmdWrite_keeps _ _ _ h0_))))

theorem execAbandonUpgrade_keeps {z : State} (m : Master) (s : State) (hz : Keeps z s) :
    KeepsA z (execAbandonUpgrade m s) := by
  unfold execAbandonUpgrade
  exact (keepsA_next (State.access_keeps _ _ _ _ _ _ hz (fun _ h0_ => (State.joinCmdWrite_keeps _ _ _ h0_))))

end Sys2Proof.Machine
end

