-- ==== Sys2Proof/Laws/KeepsKeys.lean ====
section
/-!
SUPPORT. What the operations of Machine/Keys.lean keep (Laws/Keeps.lean).
-/
namespace Sys2Proof.Machine

theorem execUsbSessionOpen_keeps {z : State} (s : State) (hz : Keeps z s) :
    KeepsA z (execUsbSessionOpen s) := by
  unfold execUsbSessionOpen
  exact (keepsA_next (keeps_ite (keeps_usb hz _)
  hz))

theorem State.keyStep_keeps {z : State} (s : State) (by_ : Int) (hz : Keeps z s) :
    Keeps z (State.keyStep s by_) := by
  unfold State.keyStep
  exact (by
    split
    · exact hz
    · extract_lets +onlyGivenNames x0_
      extract_lets +onlyGivenNames x1_
      extract_lets +onlyGivenNames x2_
      extract_lets +onlyGivenNames x3_
      have h3_ : Keeps z x3_ := (keeps_key hz _)
      try clear_value x3_
      revert x3_
      refine keeps_id ?_
      intro x3_ h3_
      extract_lets +onlyGivenNames x4_
      exact (keeps_ite (by
        extract_lets +onlyGivenNames x5_
        have h5_ : Keeps z x5_ := (State.wr_keeps _ _ _ h3_)
        try clear_value x5_
        revert x5_
        refine keeps_id ?_
        intro x5_ h5_
        exact (keeps_nb h5_ _ rfl))
      h3_))

theorem State.keySet_keeps {z : State} (s : State) (y : KeySession) (open_ : Bool) (hz : Keeps z s) :
    Keeps z (State.keySet s y open_) := by
  unfold State.keySet
  extract_lets +onlyGivenNames x0_
  have h0_ : Keeps z x0_ := (State.wrB_keeps _ _ _ hz)
  try clear_value x0_
  revert x0_
  refine keeps_id ?_
  intro x0_ h0_
  exact (keeps_upd ⟨rfl, rfl, rfl, rfl, rfl, rfl, rfl, rfl⟩ h0_)

theorem execKeyDown_keeps {z : State} (s : State) (hz : Keeps z s) :
    KeepsA z (execKeyDown s) := by
  unfold execKeyDown
  exact (keepsA_next (State.keyStep_keeps _ _ hz))

theorem execKeyUp_keeps {z : State} (s : State) (hz : Keeps z s) :
    KeepsA z (execKeyUp s) := by
  unfold execKeyUp
  exact (keepsA_next (State.keyStep_keeps _ _ hz))

theorem State.keyRestore_keeps {z : State} (s : State) (hz : Keeps z s) :
    Keeps z (State.keyRestore s) := by
  unfold State.keyRestore
  exact (by
    split
    · exact (State.keySet_keeps _ _ _ (State.wr_keeps _ _ _ hz))
    · exact hz)

theorem execKeySessionTimeout_keeps {z : State} (s : State) (hz : Keeps z s) :
    KeepsA z (execKeySessionTimeout s) := by
  unfold execKeySessionTimeout
  exact (by
    split
    · exact (keepsA_next (State.keyRestore_keeps _ (keeps_frc hz _)))
    · exact (keepsA_next hz))

theorem execKeyswitchChange_keeps {z : State} (control : Bool) (safety : Bool) (s : State) (hz : Keeps z s) :
    KeepsA z (execKeyswitchChange control safety s) := by
  unfold execKeyswitchChange
  extract_lets +onlyGivenNames x0_
  have h0_ : Keeps z x0_ := (keeps_upd ⟨rfl, rfl, rfl, rfl, rfl, rfl, rfl, rfl⟩ hz)
  try clear_value x0_
  revert x0_
  refine keeps_id ?_
  intro x0_ h0_
  extract_lets +onlyGivenNames x1_
  have h1_ : Keeps z x1_ := (keeps_ite h0_
  (State.keyRestore_keeps _ h0_))
  try clear_value x1_
  revert x1_
  refine keeps_id ?_
  intro x1_ h1_
  extract_lets +onlyGivenNames x2_
  have h2_ : Keeps z x2_ := (keeps_ite (State.wrB_keeps _ _ _ h1_)
  h1_)
  try clear_value x2_
  revert x2_
  refine keeps_id ?_
  intro x2_ h2_
  extract_lets +onlyGivenNames x3_
  extract_lets +onlyGivenNames x4_
  have h4_ : Keeps z x4_ := (keeps_saf h2_ _)
  try clear_value x4_
  revert x4_
  refine keeps_id ?_
  intro x4_ h4_
  exact (keepsA_next (keeps_ite (State.permitUpdate_keeps _ h4_)
  h4_))

theorem execKeyEsc_keeps {z : State} (s : State) (hz : Keeps z s) :
    KeepsA z (execKeyEsc s) := by
  unfold execKeyEsc
  exact (keepsA_next (State.keyRestore_keeps _ hz))

theorem execKeyMenu_keeps {z : State} (k : Fin 8) (c : Fin 8) (span : Bool) (s : State) (hz : Keeps z s) :
    KeepsA z (execKeyMenu k c span s) := by
  unfold execKeyMenu
  extract_lets +onlyGivenNames x0_
  exact (keeps_iteA (keepsA_next hz)
  (keeps_iteA (keepsA_next (State.post_keeps _ _ _ _ _ _ (keeps_keyRefused hz _)))
  (keeps_iteA (keepsA_next (State.post_keeps _ _ _ _ _ _ (keeps_keyRefused hz _)))
  (keeps_iteA (keepsA_next (State.post_keeps _ _ _ _ _ _ (keeps_keyRefused hz _)))
  (keepsA_next (State.keySet_keeps _ _ _ hz))))))

theorem execKeyEnter_keeps {z : State} (s : State) (hz : Keeps z s) :
    KeepsA z (execKeyEnter s) := by
  unfold execKeyEnter
  exact (by
    split
    · exact (keepsA_next (State.post_keeps _ _ _ _ _ _ (State.keySet_keeps _ _ _ hz)))
    · exact (keepsA_next hz))

end Sys2Proof.Machine
end

