-- ==== Sys2Proof/Laws/KeepsPower.lean ====
section
/-!
SUPPORT. What the operations of Machine/Power.lean keep (Laws/Keeps.lean).
-/
namespace Sys2Proof.Machine

theorem Answer.getD_keeps {z : State} (a : Answer) (s : State) (ha : KeepsA z a) (hz : Keeps z s) :
    Keeps z (Answer.getD a s) := by
  unfold Answer.getD
  split
  · exact ha _ rfl
  · exact hz

theorem execShutdownOutputsOff_keeps {z : State} (s : State) (hz : Keeps z s) :
    KeepsA z (execShutdownOutputsOff s) := by
  unfold execShutdownOutputsOff
  exact (keeps_iteA (by
    extract_lets +onlyGivenNames x0_
    have h0_ : Keeps z x0_ := (keeps_frc hz _)
    try clear_value x0_
    revert x0_
    refine keeps_id ?_
    intro x0_ h0_
    exact (keepsA_next (keeps_power h0_ _)))
  (keepsA_next hz))

theorem State.gbDrain_keeps {z : State} (s : State) (n : Nat) (hz : Keeps z s) : Keeps z (State.gbDrain s n) := by
  induction n generalizing s with
  | zero => exact hz
  | succ n ih =>
    have h := Answer.getD_keeps _ s (execGbEvent_keeps s hz) hz
    exact ih _ (Answer.getD_keeps _ _ (execGbRecordWrite_keeps false _ h) h)

set_option maxRecDepth 8000 in
theorem resetRegs_wf : Tab.wf resetRegs = true := by decide

theorem State.regsReset_keeps {z : State} (s : State) (keep : Nat → Bool) (hz : Keeps z s) :
    Keeps z (State.regsReset s keep) := by
  obtain ⟨hp, hi, h⟩ := hz
  refine ⟨hp, hi, fun hs => ?_⟩
  obtain ⟨-, h2⟩ := h hs
  exact ⟨Tab.wf_putAll _ _ (Tab.wf_filter _ _ resetRegs_wf), h2⟩

theorem State.slvCap_keeps {z : State} (s : State) (hz : Keeps z s) :
    Keeps z (State.slvCap s) := by
  unfold State.slvCap
  exact (by
    split
    · exact (State.setReq_keeps _ _ hz)
    · exact hz)

theorem execBeaconSend_keeps {z : State} (s : State) (hz : Keeps z s) :
    KeepsA z (execBeaconSend s) := by
  unfold execBeaconSend
  exact (keeps_iteA (by
    extract_lets +onlyGivenNames x0_
    extract_lets +onlyGivenNames x1_
    have h1_ : Keeps z x1_ := (keeps_frc hz _)
    try clear_value x1_
    revert x1_
    refine keeps_id ?_
    intro x1_ h1_
    extract_lets +onlyGivenNames x2_
    extract_lets +onlyGivenNames x3_
    have h3_ : Keeps z x3_ := (keeps_power h1_ _)
    try clear_value x3_
    revert x3_
    refine keeps_id ?_
    intro x3_ h3_
    exact (keepsA_next (State.banSend_keeps _ _ _ h3_)))
  (keepsA_next hz))

theorem State.storeCut_keeps {z : State} (s : State) (hz : Keeps z s) :
    Keeps z (State.storeCut s) := by
  unfold State.storeCut
  exact (by
    split
    · exact (State.wr_keeps _ _ _ (State.wr_keeps _ _ _ hz))
    · exact hz)

theorem State.safRailUp_keeps {z : State} (s : State) (hz : Keeps z s) :
    Keeps z (State.safRailUp s) := by
  unfold State.safRailUp
  extract_lets +onlyGivenNames x0_
  extract_lets +onlyGivenNames x1_
  extract_lets +onlyGivenNames x2_
  have h2_ : Keeps z x2_ := (State.safPowerOn_keeps _ (State.regsReset_keeps _ _ hz))
  try clear_value x2_
  revert x2_
  refine keeps_id ?_
  intro x2_ h2_
  extract_lets +onlyGivenNames x3_
  have h3_ : Keeps z x3_ := (State.wr_keeps _ _ _ (State.wr_keeps _ _ _ (State.wrB_keeps _ _ _ h2_)))
  try clear_value x3_
  revert x3_
  refine keeps_id ?_
  intro x3_ h3_
  exact (State.wr_keeps _ _ _ h3_)

theorem State.opTimeKeep_keeps {z : State} (s : State) (ns : Nat) (hz : Keeps z s) :
    Keeps z (State.opTimeKeep s ns) := by
  unfold State.opTimeKeep
  extract_lets +onlyGivenNames x0_
  extract_lets +onlyGivenNames x1_
  have h1_ : Keeps z x1_ := (State.wr64_keeps _ _ _ _ hz)
  try clear_value x1_
  revert x1_
  refine keeps_id ?_
  intro x1_ h1_
  exact (keeps_power h1_ _)

theorem State.porterOn_keeps {z : State} (s : State) (off : Nat) (hz : Keeps z s) :
    Keeps z (State.porterOn s off) := by
  unfold State.porterOn
  extract_lets +onlyGivenNames x0_
  have h0_ : Keeps z x0_ := (State.wr_keeps _ _ _ (State.wr64_keeps _ _ _ _ hz))
  try clear_value x0_
  revert x0_
  refine keeps_id ?_
  intro x0_ h0_
  extract_lets +onlyGivenNames x1_
  have h1_ : Keeps z x1_ := (State.wr_keeps _ _ _ h0_)
  try clear_value x1_
  revert x1_
  refine keeps_id ?_
  intro x1_ h1_
  extract_lets +onlyGivenNames x2_
  extract_lets +onlyGivenNames x3_
  extract_lets +onlyGivenNames x4_
  extract_lets +onlyGivenNames x5_
  have h5_ : Keeps z x5_ := (State.wr_keeps _ _ _ (State.wr64_keeps _ _ _ _ hz))
  try clear_value x5_
  revert x5_
  refine keeps_id ?_
  intro x5_ h5_
  extract_lets +onlyGivenNames x6_
  extract_lets +onlyGivenNames x7_
  have h7_ : Keeps z x7_ := (keeps_ite (keeps_power h1_ _)
  (keeps_power h5_ _))
  try clear_value x7_
  revert x7_
  refine keeps_id ?_
  intro x7_ h7_
  exact (State.wr_keeps _ _ _ h7_)

theorem State.pwrMeasure_keeps {z : State} (s : State) (x : PwrMeas) (hz : Keeps z s) :
    Keeps z (State.pwrMeasure s x) := by
  unfold State.pwrMeasure
  extract_lets +onlyGivenNames x0_
  extract_lets +onlyGivenNames x1_
  have h1_ : Keeps z x1_ := (State.wr_keeps _ _ _ (State.wr_keeps _ _ _ hz))
  try clear_value x1_
  revert x1_
  refine keeps_id ?_
  intro x1_ h1_
  exact (State.wr_keeps _ _ _ (State.wr_keeps _ _ _ h1_))

theorem State.fieldsReset_keeps {z : State} (s : State) (hz : Keeps z s) :
    Keeps z (State.fieldsReset s) := by
  unfold State.fieldsReset
  extract_lets +onlyGivenNames x0_
  have h0_ : Keeps z x0_ := (State.wr_keeps _ _ _ (State.wr_keeps _ _ _ (State.wr_keeps _ _ _ hz)))
  try clear_value x0_
  revert x0_
  refine keeps_id ?_
  intro x0_ h0_
  extract_lets +onlyGivenNames x1_
  extract_lets +onlyGivenNames x2_
  have h2_ : Keeps z x2_ := (State.wrB_keeps _ _ _ (State.wr_keeps _ _ _ h0_))
  try clear_value x2_
  revert x2_
  refine keeps_id ?_
  intro x2_ h2_
  exact (State.wr_keeps _ _ _ (State.wr_keeps _ _ _ (State.wr_keeps _ _ _ (State.wr_keeps _ _ _ h2_))))

theorem State.c2Start_keeps {z : State} (s : State) (us : Nat) (hz : Keeps z s) :
    Keeps z (State.c2Start s us) := by
  unfold State.c2Start
  extract_lets +onlyGivenNames x0_
  extract_lets +onlyGivenNames x1_
  extract_lets +onlyGivenNames x2_
  exact (State.wrB_keeps _ _ _ (keeps_tim hz _))

theorem State.controlOff_keeps {z : State} (s : State) (hz : Keeps z s) : Keeps z (State.controlOff s) := by
  unfold State.controlOff
  extract_lets +onlyGivenNames x0
  have h0 : Keeps z x0 := State.keyRestore_keeps _ (State.storeCut_keeps _ hz)
  clear_value x0
  revert x0
  refine keeps_id ?_
  intro x0 h0
  extract_lets +onlyGivenNames x1
  have h1 : Keeps z x1 := State.fieldsReset_keeps _ (State.regsReset_keeps _ _ h0)
  clear_value x1
  revert x1
  refine keeps_id ?_
  intro x1 h1
  exact keeps_clear h1 ⟨rfl, rfl, rfl, rfl, rfl, rfl, rfl, rfl⟩

theorem execCellLow_keeps {z : State} (mV : BitVec 16) (s : State) (hz : Keeps z s) :
    KeepsA z (execCellLow mV s) := by
  unfold execCellLow
  exact (keeps_iteA (keepsA_next hz)
  (by
    extract_lets +onlyGivenNames x0_
    extract_lets +onlyGivenNames x1_
    have h1_ : Keeps z x1_ := (State.wr_keeps _ _ _ hz)
    try clear_value x1_
    revert x1_
    refine keeps_id ?_
    intro x1_ h1_
    extract_lets +onlyGivenNames x2_
    extract_lets +onlyGivenNames x3_
    have h3_ : Keeps z x3_ := (keeps_power h1_ _)
    try clear_value x3_
    revert x3_
    refine keeps_id ?_
    intro x3_ h3_
    exact (keeps_iteA (by
      extract_lets +onlyGivenNames x4_
      have h4_ : Keeps z x4_ := (State.wr_keeps _ _ _ h3_)
      try clear_value x4_
      revert x4_
      refine keeps_id ?_
      intro x4_ h4_
      exact (keepsA_next (keeps_ite h4_
      (State.post_keeps _ _ _ _ _ _ h4_))))
    (keepsA_next (keeps_power h3_ _)))))

theorem execSealChange_keeps {z : State} (lid : Bool) (open_ : Bool) (s : State) (hz : Keeps z s) :
    KeepsA z (execSealChange lid open_ s) := by
  unfold execSealChange
  extract_lets +onlyGivenNames x0_
  exact (keeps_iteA (keepsA_next hz)
  (by
    extract_lets +onlyGivenNames x1_
    extract_lets +onlyGivenNames x2_
    have h2_ : Keeps z x2_ := (State.bump_keeps _ _ (State.wrB_keeps _ _ _ hz))
    try clear_value x2_
    revert x2_
    refine keeps_id ?_
    intro x2_ h2_
    exact (keeps_iteA (keepsA_next (State.post_keeps _ _ _ _ _ _ h2_))
    (keeps_iteA (keepsA_next (keeps_power h2_ _))
    (keepsA_next (keeps_power h2_ _))))))

theorem State.warned_keeps {z : State} (s : State) (why : PfCause) (meas : PwrMeas) (hz : Keeps z s) :
    Keeps z (State.warned s why meas) := by
  unfold State.warned
  extract_lets +onlyGivenNames x0_
  have h0_ : Keeps z x0_ := (State.pwrMeasure_keeps _ _ hz)
  try clear_value x0_
  revert x0_
  refine keeps_id ?_
  intro x0_ h0_
  extract_lets +onlyGivenNames x1_
  have h1_ : Keeps z x1_ := (keeps_ite (keeps_frc h0_ _)
  h0_)
  try clear_value x1_
  revert x1_
  refine keeps_id ?_
  intro x1_ h1_
  extract_lets +onlyGivenNames x2_
  have h2_ : Keeps z x2_ := (State.wr_keeps _ _ _ (State.wr_keeps _ _ _ h1_))
  try clear_value x2_
  revert x2_
  refine keeps_id ?_
  intro x2_ h2_
  exact (keeps_power h2_ _)

theorem State.gbFlush_keeps {z : State} (s : State) (hz : Keeps z s) :
    Keeps z (State.gbFlush s) := by
  unfold State.gbFlush
  extract_lets +onlyGivenNames x0_
  have h0_ : Keeps z x0_ := (Answer.getD_keeps _ _ (execGbClearComplete_keeps _ hz) hz)
  try clear_value x0_
  revert x0_
  refine keeps_id ?_
  intro x0_ h0_
  extract_lets +onlyGivenNames x1_
  have h1_ : Keeps z x1_ := (Answer.getD_keeps _ _ (execGbRecordWrite_keeps _ _ h0_) h0_)
  try clear_value x1_
  revert x1_
  refine keeps_id ?_
  intro x1_ h1_
  exact (State.gbDrain_keeps _ _ h1_)

theorem State.startRecords_keeps {z : State} (s : State) (us : Nat) (hz : Keeps z s) :
    Keeps z (State.startRecords s us) := by
  unfold State.startRecords
  extract_lets +onlyGivenNames x0_
  extract_lets +onlyGivenNames x1_
  have h1_ : Keeps z x1_ := (keeps_ite (State.post_keeps _ _ _ _ _ _ hz)
  hz)
  try clear_value x1_
  revert x1_
  refine keeps_id ?_
  intro x1_ h1_
  extract_lets +onlyGivenNames x2_
  have h2_ : Keeps z x2_ := (keeps_ite (State.post_keeps _ _ _ _ _ _ h1_)
  h1_)
  try clear_value x2_
  revert x2_
  refine keeps_id ?_
  intro x2_ h2_
  extract_lets +onlyGivenNames x3_
  have h3_ : Keeps z x3_ := (keeps_ite h2_
  (State.post_keeps _ _ _ _ _ _ h2_))
  try clear_value x3_
  revert x3_
  refine keeps_id ?_
  intro x3_ h3_
  extract_lets +onlyGivenNames x4_
  have h4_ : Keeps z x4_ := (keeps_ite h3_
  (State.post_keeps _ _ _ _ _ _ h3_))
  try clear_value x4_
  revert x4_
  refine keeps_id ?_
  intro x4_ h4_
  extract_lets +onlyGivenNames x5_
  have h5_ : Keeps z x5_ := (keeps_ite h4_
  (State.post_keeps _ _ _ _ _ _ h4_))
  try clear_value x5_
  revert x5_
  refine keeps_id ?_
  intro x5_ h5_
  extract_lets +onlyGivenNames x6_
  have h6_ : Keeps z x6_ := (keeps_ite (State.post_keeps _ _ _ _ _ _ h5_)
  h5_)
  try clear_value x6_
  revert x6_
  refine keeps_id ?_
  intro x6_ h6_
  exact (keeps_power h6_ _)

theorem execHoldupFull_keeps {z : State} (meas : PwrMeas) (s : State) (hz : Keeps z s) :
    KeepsA z (execHoldupFull meas s) := by
  unfold execHoldupFull
  exact (keeps_iteA (by
    extract_lets +onlyGivenNames x0_
    have h0_ : Keeps z x0_ := (State.wr_keeps _ _ _ (State.wr_keeps _ _ _ (State.pwrMeasure_keeps _ _ hz)))
    try clear_value x0_
    revert x0_
    refine keeps_id ?_
    intro x0_ h0_
    exact (keeps_iteA (keepsA_next h0_)
    (by
      extract_lets +onlyGivenNames x1_
      extract_lets +onlyGivenNames x2_
      have h2_ : Keeps z x2_ := (keeps_power h0_ _)
      try clear_value x2_
      revert x2_
      refine keeps_id ?_
      intro x2_ h2_
      exact (keepsA_next (State.post_keeps _ _ _ _ _ _ h2_)))))
  (keepsA_next hz))

theorem execElectionWindowEnd_keeps {z : State} (s : State) (hz : Keeps z s) :
    KeepsA z (execElectionWindowEnd s) := by
  unfold execElectionWindowEnd
  exact (by
    split
    · extract_lets +onlyGivenNames x0_
      have h0_ : Keeps z x0_ := (keeps_frc hz _)
      try clear_value x0_
      revert x0_
      refine keeps_id ?_
      intro x0_ h0_
      exact (by
        split
        · exact (keepsA_next (State.elect_keeps _ _ h0_))
        · exact (keepsA_next (keeps_power h0_ _)))
    · exact (keepsA_next hz))

theorem execShutdownMramCommit_keeps {z : State} (meas : PwrMeas) (permille : Nat) (s : State) (hz : Keeps z s) :
    KeepsA z (execShutdownMramCommit meas permille s) := by
  unfold execShutdownMramCommit
  exact (keeps_iteA (by
    extract_lets +onlyGivenNames x0_
    have h0_ : Keeps z x0_ := (keeps_frc hz _)
    try clear_value x0_
    revert x0_
    refine keeps_id ?_
    intro x0_ h0_
    extract_lets +onlyGivenNames x1_
    have h1_ : Keeps z x1_ := (State.latentCount_keeps _ (State.pwrMeasure_keeps _ _ h0_))
    try clear_value x1_
    revert x1_
    refine keeps_id ?_
    intro x1_ h1_
    extract_lets +onlyGivenNames x2_
    have h2_ : Keeps z x2_ := (State.post_keeps _ _ _ _ _ _ h1_)
    try clear_value x2_
    revert x2_
    refine keeps_id ?_
    intro x2_ h2_
    extract_lets +onlyGivenNames x3_
    have h3_ : Keeps z x3_ := (keeps_ite h2_
    (State.wearHoldup_keeps _ _ _ _ h2_))
    try clear_value x3_
    revert x3_
    refine keeps_id ?_
    intro x3_ h3_
    extract_lets +onlyGivenNames x4_
    have h4_ : Keeps z x4_ := (State.gbFlush_keeps _ h3_)
    try clear_value x4_
    revert x4_
    refine keeps_id ?_
    intro x4_ h4_
    exact (keepsA_next (keeps_power h4_ _)))
  (keepsA_next hz))

theorem execControlResetRelease_keeps {z : State} (us : Fin 15001) (s : State) (hz : Keeps z s) :
    KeepsA z (execControlResetRelease us s) := by
  unfold execControlResetRelease
  exact (keeps_iteA (keepsA_next hz)
  (by
    extract_lets +onlyGivenNames x0_
    have h0_ : Keeps z x0_ := (State.wr_keeps _ _ _ (State.wr_keeps _ _ _ hz))
    try clear_value x0_
    revert x0_
    refine keeps_id ?_
    intro x0_ h0_
    extract_lets +onlyGivenNames x1_
    extract_lets +onlyGivenNames x2_
    extract_lets +onlyGivenNames x3_
    have h3_ : Keeps z x3_ := (keeps_upd ⟨rfl, rfl, rfl, rfl, rfl, rfl, rfl, rfl⟩ h0_)
    try clear_value x3_
    revert x3_
    refine keeps_id ?_
    intro x3_ h3_
    extract_lets +onlyGivenNames x4_
    have h4_ : Keeps z x4_ := (State.c2Start_keeps _ _ h3_)
    try clear_value x4_
    revert x4_
    refine keeps_id ?_
    intro x4_ h4_
    extract_lets +onlyGivenNames x5_
    extract_lets +onlyGivenNames x6_
    have h6_ : Keeps z x6_ := (keeps_ban h4_ _ rfl)
    try clear_value x6_
    revert x6_
    refine keeps_id ?_
    intro x6_ h6_
    extract_lets +onlyGivenNames x7_
    have h7_ : Keeps z x7_ := (State.permitUpdate_keeps _ (State.nbRelease_keeps _ (State.rndReset_keeps _ (State.gbFillBuckets_keeps _ h6_))))
    try clear_value x7_
    revert x7_
    refine keeps_id ?_
    intro x7_ h7_
    exact (keepsA_next (State.startRecords_keeps _ _ (State.anchor_keeps _ _ h7_)))))

theorem execElectionDeferEnd_keeps {z : State} (s : State) (hz : Keeps z s) :
    KeepsA z (execElectionDeferEnd s) := by
  unfold execElectionDeferEnd
  exact (keeps_iteA (by
    extract_lets +onlyGivenNames x0_
    have h0_ : Keeps z x0_ := (keeps_frc hz _)
    try clear_value x0_
    revert x0_
    refine keeps_id ?_
    intro x0_ h0_
    exact (by
      split
      · exact (keepsA_next (State.elect_keeps _ _ h0_))
      · exact (keepsA_next (State.elect_keeps _ _ (State.wr_keeps _ _ _ h0_)))
      · exact (keepsA_next (State.elect_keeps _ _ h0_))))
  (keepsA_next hz))

theorem State.beaconTake_keeps {z : State} (s : State) (serial : Nat) (strap : Nat) (role : Nat) (hz : Keeps z s) :
    Keeps z (State.beaconTake s serial strap role) := by
  unfold State.beaconTake
  exact (State.hear_keeps _ _ _ (State.setPeerRole_keeps _ _ (State.wr_keeps _ _ _ hz)))

theorem State.shutdownTake_keeps {z : State} (s : State) (serial : Nat) (hz : Keeps z s) :
    Keeps z (State.shutdownTake s serial) := by
  unfold State.shutdownTake
  extract_lets +onlyGivenNames x0_
  have h0_ : Keeps z x0_ := (keeps_ite (State.wr_keeps _ _ _ hz)
  hz)
  try clear_value x0_
  revert x0_
  refine keeps_id ?_
  intro x0_ h0_
  extract_lets +onlyGivenNames x1_
  have h1_ : Keeps z x1_ := (State.joinAbort_keeps _ h0_)
  try clear_value x1_
  revert x1_
  refine keeps_id ?_
  intro x1_ h1_
  exact (keeps_ite (State.sendRole_keeps _ (State.alone_keeps _ h1_))
  h1_)

theorem State.endFlights_keeps {z : State} (s : State) (hz : Keeps z s) :
    Keeps z (State.endFlights s) := by
  unfold State.endFlights
  extract_lets +onlyGivenNames x0_
  have h0_ : Keeps z x0_ := (keeps_foldl (fun _ _ h1_ => (State.canEndFlight_keeps _ _ _ _ h1_))
  hz)
  try clear_value x0_
  revert x0_
  refine keeps_id ?_
  intro x0_ h0_
  extract_lets +onlyGivenNames x2_
  have h2_ : Keeps z x2_ := (keeps_foldl (fun _ _ h3_ => (State.ethEndFlight_keeps _ _ _ h3_))
  h0_)
  try clear_value x2_
  revert x2_
  refine keeps_id ?_
  intro x2_ h2_
  exact (keeps_foldl (fun _ _ h4_ => (State.serAbort_keeps _ _ _ h4_))
  h2_)

theorem State.pfActions_keeps {z : State} (s : State) (hz : Keeps z s) :
    Keeps z (State.pfActions s) := by
  unfold State.pfActions
  extract_lets +onlyGivenNames x0_
  have h0_ : Keeps z x0_ := (State.slvCap_keeps _ (State.endFlights_keeps _ hz))
  try clear_value x0_
  revert x0_
  refine keeps_id ?_
  intro x0_ h0_
  extract_lets +onlyGivenNames x1_
  have h1_ : Keeps z x1_ := (keeps_foldl (fun _ _ h2_ => (State.axCommit_keeps _ _ _ _ h2_))
  h0_)
  try clear_value x1_
  revert x1_
  refine keeps_id ?_
  intro x1_ h1_
  extract_lets +onlyGivenNames x3_
  have h3_ : Keeps z x3_ := (State.anxPowerFail_keeps _ (State.nbPowerFail_keeps _ h1_))
  try clear_value x3_
  revert x3_
  refine keeps_id ?_
  intro x3_ h3_
  extract_lets +onlyGivenNames x4_
  have h4_ : Keeps z x4_ := (keeps_ite (State.safStore_keeps _ h3_)
  h3_)
  try clear_value x4_
  revert x4_
  refine keeps_id ?_
  intro x4_ h4_
  extract_lets +onlyGivenNames x5_
  have h5_ : Keeps z x5_ := (State.joinAbort_keeps _ h4_)
  try clear_value x5_
  revert x5_
  refine keeps_id ?_
  intro x5_ h5_
  exact (keeps_ite (State.handover_keeps _ _ h5_)
  (by
    extract_lets +onlyGivenNames x6_
    have h6_ : Keeps z x6_ := (State.shutdownSend_keeps _ h5_)
    try clear_value x6_
    revert x6_
    refine keeps_id ?_
    intro x6_ h6_
    exact (keeps_ite (State.fail_keeps _ _ h6_)
    (keeps_ite (State.wr_keeps _ _ _ h6_)
    h6_))))

theorem execPowerFailWarning_keeps {z : State} (why : PfCause) (meas : PwrMeas) (s : State) (hz : Keeps z s) :
    KeepsA z (execPowerFailWarning why meas s) := by
  unfold execPowerFailWarning
  exact (keeps_iteA (keepsA_next hz)
  (by
    extract_lets +onlyGivenNames x0_
    have h0_ : Keeps z x0_ := (State.warned_keeps _ _ _ hz)
    try clear_value x0_
    revert x0_
    refine keeps_id ?_
    intro x0_ h0_
    exact (keeps_iteA (keepsA_next h0_)
    (by
      extract_lets +onlyGivenNames x1_
      have h1_ : Keeps z x1_ := (State.post_keeps _ _ _ _ _ _ h0_)
      try clear_value x1_
      revert x1_
      refine keeps_id ?_
      intro x1_ h1_
      exact (keepsA_next (State.pfActions_keeps _ h1_))))))

theorem State.powerOn_keeps {z : State} (s : State) (rail : Bool) (restart : Bool) (off : Nat) (hz : Keeps z s) :
    Keeps z (State.powerOn s rail restart off) := by
  unfold State.powerOn
  extract_lets +onlyGivenNames x0_
  extract_lets +onlyGivenNames x1_
  extract_lets +onlyGivenNames x2_
  have h2_ : Keeps z x2_ := (keeps_saf hz _)
  try clear_value x2_
  revert x2_
  refine keeps_id ?_
  intro x2_ h2_
  extract_lets +onlyGivenNames x3_
  have h3_ : Keeps z x3_ := (State.porterOn_keeps _ _ h2_)
  try clear_value x3_
  revert x3_
  refine keeps_id ?_
  intro x3_ h3_
  extract_lets +onlyGivenNames x4_
  extract_lets +onlyGivenNames x5_
  have h5_ : Keeps z x5_ := (keeps_upd ⟨rfl, rfl, rfl, rfl, rfl, rfl, rfl, rfl⟩ h3_)
  try clear_value x5_
  revert x5_
  refine keeps_id ?_
  intro x5_ h5_
  extract_lets +onlyGivenNames x6_
  have h6_ : Keeps z x6_ := (State.wr_keeps _ _ _ h5_)
  try clear_value x6_
  revert x6_
  refine keeps_id ?_
  intro x6_ h6_
  extract_lets +onlyGivenNames x7_
  have h7_ : Keeps z x7_ := (keeps_ite (State.safRailUp_keeps _ h6_)
  h6_)
  try clear_value x7_
  revert x7_
  refine keeps_id ?_
  intro x7_ h7_
  exact (keeps_ite (State.anxStart_keeps _ h7_)
  h7_)

theorem State.unpowered_keeps {z : State} (s : State) (hz : Keeps z s) :
    Keeps z (State.unpowered s) := by
  unfold State.unpowered
  extract_lets +onlyGivenNames x0_
  extract_lets +onlyGivenNames x1_
  have h1_ : Keeps z x1_ := (keeps_power hz _)
  try clear_value x1_
  revert x1_
  refine keeps_id ?_
  intro x1_ h1_
  exact (keeps_ite (State.powerOn_keeps _ _ _ _ h1_)
  (by
    extract_lets +onlyGivenNames x2_
    have h2_ : Keeps z x2_ := (State.wr_keeps _ _ _ (State.wr_keeps _ _ _ (State.wr_keeps _ _ _ h1_)))
    try clear_value x2_
    revert x2_
    refine keeps_id ?_
    intro x2_ h2_
    exact (keeps_upd ⟨rfl, rfl, rfl, rfl, rfl, rfl, rfl, rfl⟩ h2_)))

theorem execControlUnpowered_keeps {z : State} (us : Fin 15000) (s : State) (hz : Keeps z s) :
    KeepsA z (execControlUnpowered us s) := by
  unfold execControlUnpowered
  extract_lets +onlyGivenNames x0_
  exact (keeps_iteA (keepsA_next hz)
  (by
    extract_lets +onlyGivenNames x1_
    extract_lets +onlyGivenNames x2_
    have h2_ : Keeps z x2_ := (State.opTimeKeep_keeps _ _ hz)
    try clear_value x2_
    revert x2_
    refine keeps_id ?_
    intro x2_ h2_
    extract_lets +onlyGivenNames x3_
    extract_lets +onlyGivenNames x4_
    have h4_ : Keeps z x4_ := (keeps_power h2_ _)
    try clear_value x4_
    revert x4_
    refine keeps_id ?_
    intro x4_ h4_
    exact (keepsA_next (State.unpowered_keeps _ (State.controlOff_keeps _ h4_)))))

theorem execPowerInputChange_keeps {z : State} (x : PowerInput) (s : State) (hz : Keeps z s) :
    KeepsA z (execPowerInputChange x s) := by
  unfold execPowerInputChange
  extract_lets +onlyGivenNames x0_
  extract_lets +onlyGivenNames x1_
  exact (keeps_iteA (keepsA_next hz)
  (by
    extract_lets +onlyGivenNames x2_
    have h2_ : Keeps z x2_ := (State.wr_keeps _ _ _ (State.wrB_keeps _ _ _ hz))
    try clear_value x2_
    revert x2_
    refine keeps_id ?_
    intro x2_ h2_
    extract_lets +onlyGivenNames x3_
    have h3_ : Keeps z x3_ := (State.pwrMeasure_keeps _ _ h2_)
    try clear_value x3_
    revert x3_
    refine keeps_id ?_
    intro x3_ h3_
    exact (keeps_iteA (keepsA_next (keeps_ite (State.powerOn_keeps _ _ _ _ h3_)
    h3_))
    (by
      extract_lets +onlyGivenNames x4_
      have h4_ : Keeps z x4_ := (State.post_keeps _ _ _ _ _ _ h3_)
      try clear_value x4_
      revert x4_
      refine keeps_id ?_
      intro x4_ h4_
      exact (keeps_iteA (keeps_iteA (keepsA_next h4_)
      (by
        extract_lets +onlyGivenNames x5_
        have h5_ : Keeps z x5_ := (State.wr_keeps _ _ _ (State.wr_keeps _ _ _ h4_))
        try clear_value x5_
        revert x5_
        refine keeps_id ?_
        intro x5_ h5_
        exact (keepsA_next (keeps_power h5_ _))))
      (keeps_iteA (by
        extract_lets +onlyGivenNames x6_
        have h6_ : Keeps z x6_ := (State.wr_keeps _ _ _ h4_)
        try clear_value x6_
        revert x6_
        refine keeps_id ?_
        intro x6_ h6_
        exact (keeps_iteA (keepsA_next (keeps_power h6_ _))
        (by
          extract_lets +onlyGivenNames x7_
          extract_lets +onlyGivenNames x8_
          have h8_ : Keeps z x8_ := (State.wr_keeps _ _ _ (State.bump_keeps _ _ h6_))
          try clear_value x8_
          revert x8_
          refine keeps_id ?_
          intro x8_ h8_
          exact (keepsA_next (State.post_keeps _ _ _ _ _ _ h8_)))))
      (keepsA_next h4_)))))))

end Sys2Proof.Machine
end

