-- ==== Sys2Proof/Laws/KeepsBus.lean ====
section
/-!
SUPPORT. What the operations of Machine/Bus.lean keep (Laws/Keeps.lean).
-/
namespace Sys2Proof.Machine

theorem State.busErrWrite_keeps {z : State} (s : State) (v : Nat) (hz : Keeps z s) :
    Keeps z (State.busErrWrite s v) := by
  unfold State.busErrWrite
  exact (State.wrMasked_keeps _ _ _ _ hz)

theorem State.readClears_keeps {z : State} (s : State) (r : RegSpec) (m : Master) (a : Nat) (hz : Keeps z s) :
    Keeps z (State.readClears s r m a) := by
  unfold State.readClears
  exact (keeps_ite hz
  (keeps_ite (State.wrMasked_keeps _ _ _ _ hz)
  (State.wrMasked_keeps _ _ _ _ hz)))

theorem State.applyPair_keeps {z : State} (s : State) (m : Master) (lo : Nat) (hi3' : Nat) (mask : Nat) (v : Nat) (hz : Keeps z s) :
    Keeps z (State.applyPair s m lo hi3' mask v) := by
  unfold State.applyPair
  extract_lets +onlyGivenNames x0_
  exact (State.wrMasked_keeps _ _ _ _ (State.wrMasked_keeps _ _ _ _ (State.unstage_keeps _ _ _ hz)))

theorem State.slvCtrlWrite_keeps {z : State} (s : State) (m : Master) (v : Nat) (hz : Keeps z s) :
    Keeps z (State.slvCtrlWrite s m v) := by
  unfold State.slvCtrlWrite
  exact (keeps_ite hz
  (State.mirror_keeps _ _ _ _ (State.wr_keeps _ _ _ hz)))

theorem State.latentWrite_keeps {z : State} (s : State) (v : Nat) (hz : Keeps z s) :
    Keeps z (State.latentWrite s v) := by
  unfold State.latentWrite
  exact (State.wr_keeps _ _ _ (State.latentCount_keeps _ hz))

theorem State.refreshed_keeps {z : State} (s : State) (a : Nat) (hz : Keeps z s) :
    Keeps z (State.refreshed s a) := by
  unfold State.refreshed
  exact (keeps_ite (State.wr64_keeps _ _ _ _ hz)
  (keeps_ite (State.wr64_keeps _ _ _ _ hz)
  (keeps_ite (State.wr_keeps _ _ _ hz)
  (keeps_ite (State.wr_keeps _ _ _ hz)
  (keeps_ite (State.isoShow_keeps _ hz)
  (keeps_ite (State.latentCount_keeps _ hz)
  (keeps_ite (State.maintCount_keeps _ hz)
  (keeps_ite (State.gbGain_keeps _ _ hz)
  (keeps_ite (State.wr_keeps _ _ _ hz)
  hz)))))))))

theorem State.readLo_keeps {z : State} (s : State) (m : Master) (w : Width) (r : RegSpec) (a : Nat) (hz : Keeps z s) :
    Keeps z (State.readLo s m w r a) := by
  unfold State.readLo
  extract_lets +onlyGivenNames x0_
  have h0_ : Keeps z x0_ := (State.refreshed_keeps _ _ hz)
  try clear_value x0_
  revert x0_
  refine keeps_id ?_
  intro x0_ h0_
  extract_lets +onlyGivenNames x1_
  extract_lets +onlyGivenNames x2_
  exact (State.answer_keeps _ _ (State.setLatch_keeps _ _ _ _ hz))

theorem execAccessTimeout_keeps {z : State} (m : Master) (write : Bool) (addr : Nat) (s : State) (hz : Keeps z s) :
    KeepsA z (execAccessTimeout m write addr s) := by
  unfold execAccessTimeout
  exact (keepsA_next (State.access_keeps _ _ _ _ _ _ hz (fun _ h0_ => (keeps_ite (State.answer_keeps _ _ h0_)
  (keeps_ite (State.busFail_keeps _ _ _ _ _ _ h0_)
  h0_)))))

theorem State.canBusWrite_keeps {z : State} (s : State) (m : Master) (a : Nat) (v : Nat) (hz : Keeps z s) :
    Keeps z (State.canBusWrite s m a v) := by
  unfold State.canBusWrite
  extract_lets +onlyGivenNames x0_
  extract_lets +onlyGivenNames x1_
  exact (keeps_ite (State.canCmdWrite_keeps _ _ _ hz)
  (keeps_ite (State.canHpAck_keeps _ _ _ hz)
  (keeps_ite (State.canFilterWrite_keeps _ _ _ _ _ _ hz)
  hz)))

theorem State.islBusWrite_keeps {z : State} (s : State) (m : Master) (a : Nat) (v : Nat) (hz : Keeps z s) :
    Keeps z (State.islBusWrite s m a v) := by
  unfold State.islBusWrite
  extract_lets +onlyGivenNames x0_
  extract_lets +onlyGivenNames x1_
  exact (keeps_ite (State.islCmdWrite_keeps _ _ _ hz)
  (keeps_ite (State.trimWrite_keeps _ _ _ _ _ hz)
  hz))

theorem State.memWrite_keeps {z : State} (s : State) (m : Master) (w : Width) (a : Nat) (v : Nat) (hz : Keeps z s) :
    Keeps z (State.memWrite s m w a v) := by
  unfold State.memWrite
  extract_lets +onlyGivenNames x0_
  exact (keeps_ite (State.poolWrite_keeps _ _ _ _ hz)
  (keeps_ite (State.setBytes_keeps _ _ _ hz)
  (State.busFail_keeps _ _ _ _ _ _ hz)))

theorem execBuserrValidClear_keeps {z : State} (m : Master) (value : Word) (s : State) (hz : Keeps z s) :
    KeepsA z (execBuserrValidClear m value s) := by
  unfold execBuserrValidClear
  exact (keepsA_next (State.access_keeps _ _ _ _ _ _ hz (fun _ h0_ => (State.busErrWrite_keeps _ _ h0_))))

theorem State.axBusWrite_keeps {z : State} (s : State) (m : Master) (a : Nat) (v : Nat) (hz : Keeps z s) :
    Keeps z (State.axBusWrite s m a v) := by
  unfold State.axBusWrite
  extract_lets +onlyGivenNames x0_
  extract_lets +onlyGivenNames x1_
  exact (keeps_ite (State.axVlimLoWrite_keeps _ _ _ _ _ hz)
  (keeps_ite (State.axVlimHiWrite_keeps _ _ _ _ _ hz)
  (keeps_ite (State.axVlimLoWrite_keeps _ _ _ _ _ hz)
  (keeps_ite (State.axVlimHiWrite_keeps _ _ _ _ _ hz)
  hz))))

theorem State.pgnBusWrite_keeps {z : State} (s : State) (m : Master) (a : Nat) (v : Nat) (hz : Keeps z s) :
    Keeps z (State.pgnBusWrite s m a v) := by
  unfold State.pgnBusWrite
  extract_lets +onlyGivenNames x0_
  extract_lets +onlyGivenNames x1_
  exact (keeps_ite (State.pgnStatWrite_keeps _ _ _ _ hz)
  (keeps_ite (State.pgnStageWrite_keeps _ _ _ _ _ hz)
  (keeps_ite (State.pgnPostWrite_keeps _ _ _ _ hz)
  (keeps_ite (State.pgnCmdWrite_keeps _ _ _ _ hz)
  (keeps_ite (State.pgnAckWrite_keeps _ _ _ _ hz)
  (State.pgnDenied_keeps _ _ _ _ _ hz))))))

theorem State.busRead_keeps {z : State} (s : State) (m : Master) (w : Width) (a : Nat) (hz : Keeps z s) :
    Keeps z (State.busRead s m w a) := by
  unfold State.busRead
  exact (by
    split
    · exact hz
    · exact (keeps_ite (State.classCapture_keeps _ _ _ _ _ _ hz)
      (keeps_ite (State.classCapture_keeps _ _ _ _ _ _ hz)
      (keeps_ite (State.pgnHdrRead_keeps _ _ _ hz)
      (keeps_ite (State.pgnDenied_keeps _ _ _ _ _ hz)
      (keeps_ite (State.readLo_keeps _ _ _ _ _ hz)
      (keeps_ite (State.answer_keeps _ _ hz)
      (State.answer_keeps _ _ (State.readClears_keeps _ _ _ _ hz)))))))))

theorem execLoReadLatch_keeps {z : State} (m : Master) (w : Width) (addr : Nat) (s : State) (hz : Keeps z s) :
    KeepsA z (execLoReadLatch m w addr s) := by
  unfold execLoReadLatch
  exact (keepsA_next (State.access_keeps _ _ _ _ _ _ hz (fun _ h0_ => (State.busRead_keeps _ _ _ _ h0_))))

theorem State.tuneBusWrite_keeps {z : State} (s : State) (m : Master) (a : Nat) (v : Nat) (hz : Keeps z s) :
    Keeps z (State.tuneBusWrite s m a v) := by
  unfold State.tuneBusWrite
  extract_lets +onlyGivenNames x0_
  extract_lets +onlyGivenNames x1_
  exact (keeps_ite (State.loopCmdWrite_keeps _ _ _ _ hz)
  (State.loopShadowWrite_keeps _ _ _ _ _ hz))

theorem execRcReadClear_keeps {z : State} (m : Master) (addr : Nat) (s : State) (hz : Keeps z s) :
    KeepsA z (execRcReadClear m addr s) := by
  unfold execRcReadClear
  exact (keepsA_next (State.access_keeps _ _ _ _ _ _ hz (fun _ h0_ => (State.busRead_keeps _ _ _ _ h0_))))

theorem State.queBusWrite_keeps {z : State} (s : State) (m : Master) (a : Nat) (v : Nat) (hz : Keeps z s) :
    Keeps z (State.queBusWrite s m a v) := by
  unfold State.queBusWrite
  extract_lets +onlyGivenNames x0_
  extract_lets +onlyGivenNames x1_
  exact (keeps_ite (State.quePiWrite_keeps _ _ _ _ hz)
  (keeps_ite (State.queDiWrite_keeps _ _ _ _ hz)
  (keeps_ite (State.queCiWrite_keeps _ _ _ _ hz)
  (keeps_ite (State.queStatWrite_keeps _ _ _ _ hz)
  hz))))

theorem State.unitWrite_keeps {z : State} (s : State) (m : Master) (r : RegSpec) (a : Nat) (v : Nat) (hz : Keeps z s) :
    Keeps z (State.unitWrite s m r a v) := by
  unfold State.unitWrite
  exact (keeps_ite (State.busErrWrite_keeps _ _ hz)
  (keeps_ite (State.fplCmdWrite_keeps _ _ _ hz)
  (keeps_ite (State.applyPair_keeps _ _ _ _ _ _ hz)
  (keeps_ite (State.scnCmdWrite_keeps _ _ hz)
  (keeps_ite (State.applyPair_keeps _ _ _ _ _ _ hz)
  (keeps_ite (State.olcCmdWrite_keeps _ _ _ _ (State.useFree_keeps _ hz))
  (keeps_ite (State.applyPair_keeps _ _ _ _ _ _ hz)
  (keeps_ite (State.forceCmdWrite_keeps _ _ _ hz)
  (keeps_ite (State.slvCmdWrite_keeps _ _ _ hz)
  (keeps_ite (State.slvCtrlWrite_keeps _ _ _ hz)
  (keeps_ite (State.banCmdWrite_keeps _ _ hz)
  (keeps_ite (State.joinCmdWrite_keeps _ _ _ (State.useFree_keeps _ hz))
  (keeps_ite (State.latentWrite_keeps _ _ hz)
  (keeps_ite (State.safCmdWrite_keeps _ _ hz)
  (keeps_ite (State.trpReqWrite_keeps _ _ _ hz)
  (keeps_ite (State.trpFirstWrite_keeps _ _ hz)
  (keeps_ite (State.ethMaintWrite_keeps _ _ _ hz)
  (keeps_ite (State.timCmdWrite_keeps _ _ hz)
  (keeps_ite (State.gbCmdWrite_keeps _ _ hz)
  (keeps_ite (State.gbCursorWrite_keeps _ _ _ hz)
  (keeps_ite (State.nbLightWrite_keeps _ _ hz)
  (keeps_ite (State.nbCmdWrite_keeps _ _ hz)
  (keeps_ite (State.setLatch_keeps _ _ _ _ hz)
  (keeps_ite (State.tuneBusWrite_keeps _ _ _ _ hz)
  (keeps_ite (State.axBusWrite_keeps _ _ _ _ hz)
  (keeps_ite (State.islBusWrite_keeps _ _ _ _ hz)
  (keeps_ite (State.canBusWrite_keeps _ _ _ _ hz)
  (keeps_ite (State.pgnBusWrite_keeps _ _ _ _ hz)
  (keeps_ite (State.queBusWrite_keeps _ _ _ _ hz)
  (keeps_ite (State.stageLo_keeps _ _ _ _ hz)
  (State.plainWrite_keeps _ _ _ _ hz)))))))))))))))))))))))))))))))

theorem State.busWrite_keeps {z : State} (s : State) (m : Master) (a : Nat) (v : Nat) (hz : Keeps z s) :
    Keeps z (State.busWrite s m a v) := by
  unfold State.busWrite
  exact (by
    split
    · exact (State.unitWrite_keeps _ _ _ _ _ hz)
    · exact hz)

theorem execHiWriteApply_keeps {z : State} (m : Master) (addr : Nat) (value : Word) (s : State) (hz : Keeps z s) :
    KeepsA z (execHiWriteApply m addr value s) := by
  unfold execHiWriteApply
  exact (keepsA_next (State.access_keeps _ _ _ _ _ _ hz (fun _ h0_ => (State.busWrite_keeps _ _ _ _ h0_))))

theorem execLoWriteStage_keeps {z : State} (m : Master) (addr : Nat) (value : Word) (s : State) (hz : Keeps z s) :
    KeepsA z (execLoWriteStage m addr value s) := by
  unfold execLoWriteStage
  exact (keepsA_next (State.access_keeps _ _ _ _ _ _ hz (fun _ h0_ => (State.busWrite_keeps _ _ _ _ h0_))))

theorem execRegisterWrite_keeps {z : State} (m : Master) (w : Width) (addr : Nat) (value : Word) (s : State) (hz : Keeps z s) :
    KeepsA z (execRegisterWrite m w addr value s) := by
  unfold execRegisterWrite
  exact (keepsA_next (State.access_keeps _ _ _ _ _ _ hz (fun _ h0_ => (keeps_ite (State.memWrite_keeps _ _ _ _ _ h0_)
  (State.busWrite_keeps _ _ _ _ h0_)))))

end Sys2Proof.Machine
end

