-- ==== Sys2Proof/Laws/KeepsReplay.lean ====
section
/-!
SUPPORT. What the operations of Machine/Replay.lean keep (Laws/Keeps.lean).
-/
namespace Sys2Proof.Machine

theorem State.replayStart_keeps {z : State} (s : State) (g : Option Agreement) (t : Nat) (hz : Keeps z s) :
    Keeps z (State.replayStart s g t) := by
  unfold State.replayStart
  extract_lets +onlyGivenNames x0_
  have h0_ : Keeps z x0_ := (State.cycleOpen_keeps _ _ hz)
  try clear_value x0_
  revert x0_
  refine keeps_id ?_
  intro x0_ h0_
  exact (by
    split
    · extract_lets +onlyGivenNames x1_
      extract_lets +onlyGivenNames x2_
      have h2_ : Keeps z x2_ := (State.executeStart_keeps _ _ (State.latchOut_keeps _ _ (State.setTask_keeps _ _ _ h0_)))
      try clear_value x2_
      revert x2_
      refine keeps_id ?_
      intro x2_ h2_
      extract_lets +onlyGivenNames x3_
      extract_lets +onlyGivenNames x4_
      have h4_ : Keeps z x4_ := (State.setTask_keeps _ _ _ h2_)
      try clear_value x4_
      revert x4_
      refine keeps_id ?_
      intro x4_ h4_
      exact (by
        split
        · exact (State.setJoin_keeps _ _ h4_)
        · exact h4_)
    · exact (keeps_ite (State.skipLatch_keeps _ _ h0_)
      h0_))

theorem State.replayTick_keeps {z : State} (s : State) (g : Option Agreement) (n : Nat) (hz : Keeps z s) :
    Keeps z (State.replayTick s g n) := by
  unfold State.replayTick
  exact (State.inTick_keeps _ _ _ hz (fun _ h0_ => (by
    extract_lets +onlyGivenNames x1_
    have h1_ : Keeps z x1_ := by
      subst x1_
      exact (by
        split
        · exact (State.agreedActs_keeps _ _ h0_)
        · exact h0_)
    try clear_value x1_
    revert x1_
    refine keeps_id ?_
    intro x1_ h1_
    extract_lets +onlyGivenNames x2_
    have h2_ : Keeps z x2_ := (State.landNow_keeps _ h1_)
    try clear_value x2_
    revert x2_
    refine keeps_id ?_
    intro x2_ h2_
    exact (keeps_foldl (fun _ _ h3_ => (State.replayStart_keeps _ _ _ h3_))
    h2_))))

theorem State.replayTicks_keeps {z : State} (s : State) (last : Nat) (g : Option Agreement) (hz : Keeps z s) :
    Keeps z (State.replayTicks s last g) := by
  unfold State.replayTicks
  exact (by
    split
    · exact hz
    · extract_lets +onlyGivenNames x0_
      have h0_ : Keeps z x0_ := (State.setJoin_keeps _ _ hz)
      try clear_value x0_
      revert x0_
      refine keeps_id ?_
      intro x0_ h0_
      exact (keeps_foldl (fun _ _ h1_ => (State.replayTick_keeps _ _ _ h1_))
      h0_))

theorem mirrorWrite_keeps {z : State} (m : Master) (a : Nat) (v : Nat) (s : State) (hz : Keeps z s) :
    Keeps z (mirrorWrite m a v s) := by
  unfold mirrorWrite
  exact (State.busWrite_keeps _ _ _ _ (State.wakeAt_keeps _ _ hz))

theorem State.regMirror_keeps {z : State} (s : State) (x : RegMirror) (hz : Keeps z s) :
    Keeps z (State.regMirror s x) := by
  unfold State.regMirror
  extract_lets +onlyGivenNames x0_
  extract_lets +onlyGivenNames x1_
  exact (keeps_ite (State.busFail_keeps _ _ _ _ _ _ hz)
  (keeps_ite (State.busFail_keeps _ _ _ _ _ _ hz)
  (keeps_ite (State.busFail_keeps _ _ _ _ _ _ hz)
  (keeps_ite (State.wr_keeps _ _ _ hz)
  (keeps_ite (State.wr_keeps _ _ _ hz)
  (keeps_ite (keeps_ban hz _ rfl)
  (by
    extract_lets +onlyGivenNames x2_
    extract_lets +onlyGivenNames x3_
    have h3_ : Keeps z x3_ := (mirrorWrite_keeps _ _ _ _ (keeps_ban hz _ rfl))
    try clear_value x3_
    revert x3_
    refine keeps_id ?_
    intro x3_ h3_
    exact (keeps_ban h3_ _ rfl))))))))

theorem State.regMirrors_keeps {z : State} (s : State) (l : List RegMirror) (hz : Keeps z s) :
    Keeps z (State.regMirrors s l) := by
  unfold State.regMirrors
  exact (keeps_foldl (fun _ _ h0_ => (State.regMirror_keeps _ _ h0_))
  hz)

theorem State.replayDigest_keeps {z : State} (s : State) (j : Join) (d : Digest) (hz : Keeps z s) :
    Keeps z (State.replayDigest s j d) := by
  unfold State.replayDigest
  extract_lets +onlyGivenNames x0_
  extract_lets +onlyGivenNames x1_
  exact (keeps_ite hz
  (by
    extract_lets +onlyGivenNames x2_
    extract_lets +onlyGivenNames x3_
    extract_lets +onlyGivenNames x4_
    extract_lets +onlyGivenNames x5_
    have h5_ : Keeps z x5_ := (State.setTask_keeps _ _ _ hz)
    try clear_value x5_
    revert x5_
    refine keeps_id ?_
    intro x5_ h5_
    extract_lets +onlyGivenNames x6_
    extract_lets +onlyGivenNames x7_
    have h7_ : Keeps z x7_ := (keeps_ite (keeps_ban h5_ _ rfl)
    h5_)
    try clear_value x7_
    revert x7_
    refine keeps_id ?_
    intro x7_ h7_
    extract_lets +onlyGivenNames x8_
    have h8_ : Keeps z x8_ := (State.taskMiss_keeps _ _ _ h7_)
    try clear_value x8_
    revert x8_
    refine keeps_id ?_
    intro x8_ h8_
    extract_lets +onlyGivenNames x9_
    have h9_ : Keeps z x9_ := (keeps_ite (State.commitGood_keeps _ _ h7_)
    (State.commitHeld_keeps _ _ h7_))
    try clear_value x9_
    revert x9_
    refine keeps_id ?_
    intro x9_ h9_
    extract_lets +onlyGivenNames x10_
    extract_lets +onlyGivenNames x11_
    have h11_ : Keeps z x11_ := (keeps_ite (keeps_ite (State.commitSafe_keeps _ _ h7_)
    h7_)
    (keeps_ite h7_
    (keeps_ite (State.taskLimitStop_keeps _ _ h7_)
    (keeps_ite h7_
    (keeps_ite (keeps_ite (State.taskLimitStop_keeps _ _ h8_)
    h8_)
    (State.setTask_keeps _ _ _ h9_))))))
    try clear_value x11_
    revert x11_
    refine keeps_id ?_
    intro x11_ h11_
    exact (keeps_ite h11_
    (keeps_ite h11_
    (State.joinEnd_keeps _ _ h11_)))))

theorem State.entryAct_keeps {z : State} (s : State) (x : LogEntry) (hz : Keeps z s) :
    Keeps z (State.entryAct s x) := by
  unfold State.entryAct
  exact (by
    split
    · extract_lets +onlyGivenNames x0_
      have h0_ : Keeps z x0_ := (State.setBytes_keeps _ _ _ hz)
      try clear_value x0_
      revert x0_
      refine keeps_id ?_
      intro x0_ h0_
      extract_lets +onlyGivenNames x1_
      have h1_ : Keeps z x1_ := (State.wr_keeps _ _ _ (State.setBytes_keeps _ _ _ h0_))
      try clear_value x1_
      revert x1_
      refine keeps_id ?_
      intro x1_ h1_
      extract_lets +onlyGivenNames x2_
      extract_lets +onlyGivenNames x3_
      have h3_ : Keeps z x3_ := (keeps_slv h1_ _)
      try clear_value x3_
      revert x3_
      refine keeps_id ?_
      intro x3_ h3_
      exact (keeps_ite h3_
      (by
        extract_lets +onlyGivenNames x4_
        exact (State.slvShowSlot_keeps _ _ (keeps_slv h3_ _))))
    · exact (keeps_ite (State.pgnStore_keeps _ _ _ _ _ _ hz)
      (by
        extract_lets +onlyGivenNames x5_
        extract_lets +onlyGivenNames x6_
        extract_lets +onlyGivenNames x7_
        have h7_ : Keeps z x7_ := (keeps_foldl (fun _ _ h8_ => (State.setBytes_keeps _ _ _ h8_))
        hz)
        try clear_value x7_
        revert x7_
        refine keeps_id ?_
        intro x7_ h7_
        exact (State.wr_keeps _ _ _ h7_))))

theorem State.replayRun_keeps {z : State} (s : State) (n : Nat) (hz : Keeps z s) : Keeps z (State.replayRun s n) := by
  induction n generalizing s with
  | zero => exact hz
  | succ n ih =>
    unfold State.replayRun
    split
    · exact hz
    · split
      · exact hz
      · refine keeps_ite hz (ih _ ?_)
        have h := fun j => State.setJoin_keeps s j hz
        split
        · exact State.replayTicks_keeps _ _ _ (h _)
        · exact keeps_foldl (fun _ _ h => State.mirrorEntry_keeps _ _ _ h) (h _)
        · exact State.regMirrors_keeps _ _ (h _)
        · exact State.replayDigest_keeps _ _ _ (h _)
        · exact State.entryAct_keeps _ _ (h _)

theorem State.caughtUp_keeps {z : State} (s : State) (hz : Keeps z s) :
    Keeps z (State.caughtUp s) := by
  unfold State.caughtUp
  exact (by
    split
    · extract_lets +onlyGivenNames x0_
      have h0_ : Keeps z x0_ := (State.wr_keeps _ _ _ hz)
      try clear_value x0_
      revert x0_
      refine keeps_id ?_
      intro x0_ h0_
      exact (keeps_ite (State.banSend_keeps _ _ _ (State.setPhase_keeps _ _ h0_))
      h0_)
    · exact hz)

theorem State.replayGo_keeps {z : State} (s : State) (hz : Keeps z s) :
    Keeps z (State.replayGo s) := by
  unfold State.replayGo
  exact (by
    split
    · exact (keeps_ite (State.caughtUp_keeps _ (State.replayRun_keeps _ _ hz))
      hz)
    · exact hz)

theorem execReplayCycle_keeps {z : State} (t : Fin 16) (image : Option (List Byte)) (invokes : List Invoke) (writes : List (BitVec 32 × List Byte)) (trap : Option (BitVec 32 × BitVec 64)) (loopCrc : BitVec 64) (solverCrc : BitVec 64) (s : State) (hz : Keeps z s) :
    KeepsA z (execReplayCycle t image invokes writes trap loopCrc solverCrc s) := by
  unfold execReplayCycle
  exact (by
    split
    · exact (keeps_iteA (keepsA_next hz)
      (by
        extract_lets +onlyGivenNames x0_
        extract_lets +onlyGivenNames x1_
        extract_lets +onlyGivenNames x2_
        have h2_ : Keeps z x2_ := (State.setJoin_keeps _ _ hz)
        try clear_value x2_
        revert x2_
        refine keeps_id ?_
        intro x2_ h2_
        extract_lets +onlyGivenNames x3_
        have h3_ : Keeps z x3_ := (keeps_foldl (fun _ _ h4_ => (State.invoke_keeps _ _ _ h4_))
        h2_)
        try clear_value x3_
        revert x3_
        refine keeps_id ?_
        intro x3_ h3_
        extract_lets +onlyGivenNames x5_
        have h5_ : Keeps z x5_ := (keeps_foldl (fun _ _ h6_ => (State.varWrite_keeps _ _ _ h6_))
        h3_)
        try clear_value x5_
        revert x5_
        refine keeps_id ?_
        intro x5_ h5_
        extract_lets +onlyGivenNames x7_
        extract_lets +onlyGivenNames x8_
        extract_lets +onlyGivenNames x9_
        have h9_ : Keeps z x9_ := (keeps_ite (by
          split
          · exact (State.trapAct_keeps _ _ _ _ h5_)
          · exact (State.wr_keeps _ _ _ (State.setTask_keeps _ _ _ h5_)))
        h2_)
        try clear_value x9_
        revert x9_
        refine keeps_id ?_
        intro x9_ h9_
        exact (keepsA_next (State.replayGo_keeps _ h9_))))
    · exact (keepsA_next hz))

theorem State.replayLand_keeps {z : State} (s : State) (n : Nat) (at_ : Nat) (hz : Keeps z s) :
    Keeps z (State.replayLand s n at_) := by
  unfold State.replayLand
  extract_lets +onlyGivenNames x0_
  have h0_ : Keeps z x0_ := (State.replayTicks_keeps _ _ _ hz)
  try clear_value x0_
  revert x0_
  refine keeps_id ?_
  intro x0_ h0_
  extract_lets +onlyGivenNames x1_
  have h1_ : Keeps z x1_ := (State.gridShift_keeps _ _ h0_)
  try clear_value x1_
  revert x1_
  refine keeps_id ?_
  intro x1_ h1_
  extract_lets +onlyGivenNames x2_
  extract_lets +onlyGivenNames x3_
  exact (keeps_upd ⟨rfl, rfl, rfl, rfl, rfl, rfl, rfl, rfl⟩ h1_)

theorem State.liveLog_keeps {z : State} (s : State) (x : JoinLog) (hz : Keeps z s) :
    Keeps z (State.liveLog s x) := by
  unfold State.liveLog
  exact (by
    split
    · exact (keeps_ban hz _ rfl)
    · extract_lets +onlyGivenNames x0_
      have h0_ : Keeps z x0_ := (keeps_foldl (fun _ _ h1_ => (State.mirrorEntry_keeps _ _ _ h1_))
      hz)
      try clear_value x0_
      revert x0_
      refine keeps_id ?_
      intro x0_ h0_
      exact (keeps_ban h0_ _ rfl)
    · exact (State.regMirrors_keeps _ _ hz)
    · exact (keeps_ban hz _ rfl)
    · exact (State.entryAct_keeps _ _ hz))

theorem execJoinTick_keeps {z : State} (s : State) (hz : Keeps z s) :
    KeepsA z (execJoinTick s) := by
  unfold execJoinTick
  exact (by
    split
    · exact (by
        split
        · exact (keeps_iteA (keepsA_next hz)
          (by
            extract_lets +onlyGivenNames x0_
            have h0_ : Keeps z x0_ := (keeps_frc hz _)
            try clear_value x0_
            revert x0_
            refine keeps_id ?_
            intro x0_ h0_
            extract_lets +onlyGivenNames x1_
            have h1_ : Keeps z x1_ := (State.topupAt_keeps _ _ _ (State.replayLand_keeps _ _ _ h0_))
            try clear_value x1_
            revert x1_
            refine keeps_id ?_
            intro x1_ h1_
            extract_lets +onlyGivenNames x2_
            extract_lets +onlyGivenNames x3_
            have h3_ : Keeps z x3_ := (State.wr_keeps _ _ _ (State.wr_keeps _ _ _ (State.setPhase_keeps _ _ h1_)))
            try clear_value x3_
            revert x3_
            refine keeps_id ?_
            intro x3_ h3_
            extract_lets +onlyGivenNames x4_
            have h4_ : Keeps z x4_ := (State.banSend_keeps _ _ _ h3_)
            try clear_value x4_
            revert x4_
            refine keeps_id ?_
            intro x4_ h4_
            extract_lets +onlyGivenNames x5_
            have h5_ : Keeps z x5_ := (State.setPeerRole_keeps _ _ (State.setRole_keeps _ _ h4_))
            try clear_value x5_
            revert x5_
            refine keeps_id ?_
            intro x5_ h5_
            extract_lets +onlyGivenNames x6_
            have h6_ : Keeps z x6_ := (State.sendRole_keeps _ (State.post_keeps _ _ _ _ _ _ h5_))
            try clear_value x6_
            revert x6_
            refine keeps_id ?_
            intro x6_ h6_
            exact (keepsA_next (State.followAll_keeps _ (keeps_foldl (fun _ _ h7_ => (State.liveLog_keeps _ _ h7_))
            h6_)))))
        · exact (keepsA_next hz))
    · exact (keepsA_next hz))

end Sys2Proof.Machine
end

