-- ==== Sys2Proof/Laws/KeepsBanFrames.lean ====
section
/-!
SUPPORT. What the operations of Machine/BanFrames.lean keep (Laws/Keeps.lean).
-/
namespace Sys2Proof.Machine

theorem State.msgAct_keeps {z : State} (s : State) (a : Arrival) (m : BanMsg) (hz : Keeps z s) :
    Keeps z (State.msgAct s a m) := by
  unfold State.msgAct
  extract_lets +onlyGivenNames x0_
  extract_lets +onlyGivenNames x1_
  exact (by
    split
    · exact (State.heartbeatTake_keeps _ _ _ _ hz)
    · exact (State.beaconTake_keeps _ _ _ _ hz)
    · exact (State.roleTake_keeps _ _ _ hz)
    · exact (State.nakTake_keeps _ _ hz)
    · exact (State.agreementTake_keeps _ _ hz)
    · exact (State.agreeAckTake_keeps _ _ _ hz)
    · exact (State.rxMirrorTake_keeps _ _ _ hz)
    · exact (State.mirrorAckTake_keeps _ _ hz)
    · exact (keeps_ite (State.regMirrors_keeps _ _ hz)
      (keeps_ite (State.joinLog_keeps _ _ _ _ hz)
      hz))
    · extract_lets +onlyGivenNames x2_
      exact (State.digestTake_keeps _ _ hz)
    · exact (State.samplesTake_keeps _ _ _ _ hz)
    · exact (State.countsTake_keeps _ _ _ _ hz)
    · exact (State.permitTake_keeps _ _ hz)
    · exact (State.inquiryTake_keeps _ _ _ hz)
    · exact (State.handoverTake_keeps _ _ _ hz)
    · exact (State.drivingTake_keeps _ _ hz)
    · exact (State.releasedTake_keeps _ hz)
    · exact (State.joinRequestTake_keeps _ _ _ _ _ _ hz)
    · exact (State.joinAnswerTake_keeps _ _ _ _ _ hz)
    · exact (State.hamperTake_keeps _ _ _ _ _ _ _ _ hz)
    · exact (State.hamperAckTake_keeps _ _ _ _ hz)
    · extract_lets +onlyGivenNames x3_
      exact (keeps_ite (State.entryAct_keeps _ _ hz)
      (keeps_ite (State.joinLog_keeps _ _ _ _ hz)
      hz))
    · exact (State.caughtUpTake_keeps _ hz)
    · exact (State.topupTake_keeps _ _ _ hz)
    · exact (State.joinedTake_keeps _ hz)
    · exact (State.swapTake_keeps _ _ hz)
    · exact (State.readyTake_keeps _ _ _ hz)
    · exact (State.shutdownTake_keeps _ _ hz))

theorem State.msgTake_keeps {z : State} (s : State) (a : Arrival) (m : BanMsg) (hz : Keeps z s) :
    Keeps z (State.msgTake s a m) := by
  unfold State.msgTake
  exact (State.replayGo_keeps _ (State.msgAct_keeps _ _ _ hz))

theorem State.earlyRun_keeps {z : State} (s : State) (n : Nat) (hz : Keeps z s) : Keeps z (State.earlyRun s n) := by
  induction n generalizing s with
  | zero => exact hz
  | succ n ih =>
    unfold State.earlyRun
    split
    · exact hz
    · exact keeps_ite hz (ih _ (State.msgTake_keeps _ _ _ (keeps_upd ⟨rfl, rfl, rfl, rfl, rfl, rfl, rfl, rfl⟩ hz)))

theorem State.seqTake_keeps {z : State} (s : State) (a : Arrival) (hz : Keeps z s) :
    Keeps z (State.seqTake s a) := by
  unfold State.seqTake
  extract_lets +onlyGivenNames x0_
  extract_lets +onlyGivenNames x1_
  extract_lets +onlyGivenNames x2_
  extract_lets +onlyGivenNames x3_
  extract_lets +onlyGivenNames x4_
  extract_lets +onlyGivenNames x5_
  extract_lets +onlyGivenNames x6_
  have h6_ : Keeps z x6_ := (keeps_ban hz _ rfl)
  try clear_value x6_
  revert x6_
  refine keeps_id ?_
  intro x6_ h6_
  exact (keeps_ite (State.hsDone_keeps _ _ h6_)
  h6_)

theorem State.gapSeen_keeps {z : State} (s : State) (first : Nat) (hz : Keeps z s) :
    Keeps z (State.gapSeen s first) := by
  unfold State.gapSeen
  exact (by
    split
    · exact hz
    · extract_lets +onlyGivenNames x0_
      exact (keeps_ite hz
      (by
        extract_lets +onlyGivenNames x1_
        have h1_ : Keeps z x1_ := (State.banAsk_keeps _ _ _ hz)
        try clear_value x1_
        revert x1_
        refine keeps_id ?_
        intro x1_ h1_
        exact (keeps_ban h1_ _ rfl))))

theorem State.ordTake_keeps {z : State} (s : State) (a : Arrival) (m : BanMsg) (hz : Keeps z s) :
    Keeps z (State.ordTake s a m) := by
  unfold State.ordTake
  exact (keeps_ite (by
    extract_lets +onlyGivenNames x0_
    extract_lets +onlyGivenNames x1_
    have h1_ : Keeps z x1_ := (keeps_ban hz _ rfl)
    try clear_value x1_
    revert x1_
    refine keeps_id ?_
    intro x1_ h1_
    exact (by
      split
      · exact (keeps_ite (State.mirrorAckSend_keeps _ h1_)
        h1_)
      · exact h1_))
  (by
    extract_lets +onlyGivenNames x2_
    have h2_ : Keeps z x2_ := (State.msgTake_keeps _ _ _ hz)
    try clear_value x2_
    revert x2_
    refine keeps_id ?_
    intro x2_ h2_
    exact (State.earlyRun_keeps _ _ h2_)))

theorem State.arrive_keeps {z : State} (s : State) (a : Arrival) (m : BanMsg) (hz : Keeps z s) :
    Keeps z (State.arrive s a m) := by
  unfold State.arrive
  exact (keeps_ite hz
  (keeps_ite (State.bump_keeps _ _ hz)
  (by
    extract_lets +onlyGivenNames x0_
    have h0_ : Keeps z x0_ := (State.laneSeen_keeps _ _ _ hz)
    try clear_value x0_
    revert x0_
    refine keeps_id ?_
    intro x0_ h0_
    exact (keeps_ite (State.bump_keeps _ _ h0_)
    (keeps_ite h0_
    (by
      extract_lets +onlyGivenNames x1_
      have h1_ : Keeps z x1_ := (keeps_ite (State.gapSeen_keeps _ _ h0_)
      h0_)
      try clear_value x1_
      revert x1_
      refine keeps_id ?_
      intro x1_ h1_
      exact (State.ordTake_keeps _ _ _ (State.seqTake_keeps _ _ h1_))))))))

theorem execReady_keeps {z : State} (a : Arrival) (resets : BitVec 32) (discarded : BitVec 32) (s : State) (hz : Keeps z s) :
    KeepsA z (execReady a resets discarded s) := by
  unfold execReady
  exact (keepsA_next (State.arrive_keeps _ _ _ hz))

theorem execInquiryResult_keeps {z : State} (peer : Option Arrival) (failed : BitVec 5) (s : State) (hz : Keeps z s) :
    KeepsA z (execInquiryResult peer failed s) := by
  unfold execInquiryResult
  exact (by
    split
    · exact (keepsA_next (State.arrive_keeps _ _ _ hz))
    · exact (keeps_iteA (keepsA_next (State.inquiryTake_keeps _ _ _ hz))
      (keepsA_next hz)))

theorem execRole_keeps {z : State} (a : Arrival) (x : RoleMsg) (s : State) (hz : Keeps z s) :
    KeepsA z (execRole a x s) := by
  unfold execRole
  exact (keepsA_next (State.arrive_keeps _ _ _ hz))

theorem execHamperAck_keeps {z : State} (a : Arrival) (kind : Byte) (index : BitVec 16) (good : Bool) (s : State) (hz : Keeps z s) :
    KeepsA z (execHamperAck a kind index good s) := by
  unfold execHamperAck
  exact (keepsA_next (State.arrive_keeps _ _ _ hz))

theorem execShutdown_keeps {z : State} (a : Arrival) (serial : BitVec 32) (s : State) (hz : Keeps z s) :
    KeepsA z (execShutdown a serial s) := by
  unfold execShutdown
  exact (keepsA_next (State.arrive_keeps _ _ _ hz))

theorem execSolverPermit_keeps {z : State} (a : Arrival) (p : SlvPermit) (s : State) (hz : Keeps z s) :
    KeepsA z (execSolverPermit a p s) := by
  unfold execSolverPermit
  exact (keepsA_next (State.arrive_keeps _ _ _ hz))

theorem execLogEntry_keeps {z : State} (a : Arrival) (x : LogEntry) (s : State) (hz : Keeps z s) :
    KeepsA z (execLogEntry a x s) := by
  unfold execLogEntry
  exact (keepsA_next (State.arrive_keeps _ _ _ hz))

theorem execLoopSamples_keeps {z : State} (a : Arrival) (samples : List LoopSmp) (ecc : List (Fin 512)) (slots : Fin 513) (s : State) (hz : Keeps z s) :
    KeepsA z (execLoopSamples a samples ecc slots s) := by
  unfold execLoopSamples
  exact (keepsA_next (State.arrive_keeps _ _ _ hz))

theorem execRegMirror_keeps {z : State} (a : Arrival) (entries : List RegMirror) (s : State) (hz : Keeps z s) :
    KeepsA z (execRegMirror a entries s) := by
  unfold execRegMirror
  exact (keepsA_next (State.arrive_keeps _ _ _ hz))

theorem execHandover_keeps {z : State} (a : Arrival) (x : Notice) (s : State) (hz : Keeps z s) :
    KeepsA z (execHandover a x s) := by
  unfold execHandover
  exact (keepsA_next (State.arrive_keeps _ _ _ hz))

theorem execAxisCounts_keeps {z : State} (a : Arrival) (counts : List (Option (BitVec 48))) (loss : BitVec 8) (bad : BitVec 8) (s : State) (hz : Keeps z s) :
    KeepsA z (execAxisCounts a counts loss bad s) := by
  unfold execAxisCounts
  exact (keepsA_next (State.arrive_keeps _ _ _ hz))

theorem execRxMirror_keeps {z : State} (a : Arrival) (entries : List Mirrored) (s : State) (hz : Keeps z s) :
    KeepsA z (execRxMirror a entries s) := by
  unfold execRxMirror
  exact (keepsA_next (State.arrive_keeps _ _ _ hz))

theorem execAgreeAck_keeps {z : State} (a : Arrival) (tick : Nat) (crc : BitVec 32) (s : State) (hz : Keeps z s) :
    KeepsA z (execAgreeAck a tick crc s) := by
  unfold execAgreeAck
  exact (keepsA_next (State.arrive_keeps _ _ _ hz))

theorem execHeartbeat_keeps {z : State} (a : Arrival) (role : Fin 8) (lanes : Fin 4) (phase : Fin 250000) (s : State) (hz : Keeps z s) :
    KeepsA z (execHeartbeat a role lanes phase s) := by
  unfold execHeartbeat
  exact (keepsA_next (State.arrive_keeps _ _ _ hz))

theorem execBeacon_keeps {z : State} (a : Arrival) (serial : BitVec 32) (caps : BitVec 32) (strap : Fin 4) (role : Fin 8) (s : State) (hz : Keeps z s) :
    KeepsA z (execBeacon a serial caps strap role s) := by
  unfold execBeacon
  exact (keepsA_next (State.arrive_keeps _ _ _ hz))

theorem execJoinRequest_keeps {z : State} (a : Arrival) (caps : BitVec 32) (station : BitVec 32) (serial : BitVec 32) (sdig : List Byte) (pdig : List Byte) (s : State) (hz : Keeps z s) :
    KeepsA z (execJoinRequest a caps station serial sdig pdig s) := by
  unfold execJoinRequest
  exact (keepsA_next (State.arrive_keeps _ _ _ hz))

theorem execSwap_keeps {z : State} (a : Arrival) (landing : Nat) (s : State) (hz : Keeps z s) :
    KeepsA z (execSwap a landing s) := by
  unfold execSwap
  exact (keepsA_next (State.arrive_keeps _ _ _ hz))

theorem execNak_keeps {z : State} (a : Arrival) (seqs : List (BitVec 32)) (s : State) (hz : Keeps z s) :
    KeepsA z (execNak a seqs s) := by
  unfold execNak
  exact (keepsA_next (State.arrive_keeps _ _ _ hz))

theorem execJoinAnswer_keeps {z : State} (a : Arrival) (reason : Byte) (upgrade : Bool) (caps : BitVec 32) (l : Option Nat) (s : State) (hz : Keeps z s) :
    KeepsA z (execJoinAnswer a reason upgrade caps l s) := by
  unfold execJoinAnswer
  exact (keepsA_next (State.arrive_keeps _ _ _ hz))

theorem execReleased_keeps {z : State} (a : Arrival) (s : State) (hz : Keeps z s) :
    KeepsA z (execReleased a s) := by
  unfold execReleased
  exact (keepsA_next (State.arrive_keeps _ _ _ hz))

theorem execCaughtUp_keeps {z : State} (a : Arrival) (pos : Nat) (s : State) (hz : Keeps z s) :
    KeepsA z (execCaughtUp a pos s) := by
  unfold execCaughtUp
  exact (keepsA_next (State.arrive_keeps _ _ _ hz))

theorem execDigest_keeps {z : State} (a : Arrival) (t : Fin 16) (missed : Bool) (noImage : Bool) (cycle : Nat) (value : BitVec 64) (s : State) (hz : Keeps z s) :
    KeepsA z (execDigest a t missed noImage cycle value s) := by
  unfold execDigest
  exact (keepsA_next (State.arrive_keeps _ _ _ hz))

theorem execJoined_keeps {z : State} (a : Arrival) (gbSeq : BitVec 32) (s : State) (hz : Keeps z s) :
    KeepsA z (execJoined a gbSeq s) := by
  unfold execJoined
  exact (keepsA_next (State.arrive_keeps _ _ _ hz))

theorem execMirrorAck_keeps {z : State} (a : Arrival) (upTo : BitVec 32) (s : State) (hz : Keeps z s) :
    KeepsA z (execMirrorAck a upTo s) := by
  unfold execMirrorAck
  exact (keepsA_next (State.arrive_keeps _ _ _ hz))

theorem execAgreement_keeps {z : State} (a : Arrival) (g : Agreement) (s : State) (hz : Keeps z s) :
    KeepsA z (execAgreement a g s) := by
  unfold execAgreement
  exact (keepsA_next (State.arrive_keeps _ _ _ hz))

theorem execDriving_keeps {z : State} (a : Arrival) (offset : Nat) (s : State) (hz : Keeps z s) :
    KeepsA z (execDriving a offset s) := by
  unfold execDriving
  exact (keepsA_next (State.arrive_keeps _ _ _ hz))

theorem execTopup_keeps {z : State} (a : Arrival) (payload : List Byte) (s : State) (hz : Keeps z s) :
    KeepsA z (execTopup a payload s) := by
  unfold execTopup
  exact (keepsA_next (State.arrive_keeps _ _ _ hz))

theorem execHamper_keeps {z : State} (a : Arrival) (kind : Byte) (index : BitVec 16) (offset : Nat) (total : Nat) (last : Bool) (data : List Byte) (s : State) (hz : Keeps z s) :
    KeepsA z (execHamper a kind index offset total last data s) := by
  unfold execHamper
  exact (keepsA_next (State.arrive_keeps _ _ _ hz))

end Sys2Proof.Machine
end

