-- ==== Sys2Proof/Laws/KeepsRoundsStep.lean ====
section
/-!
SUPPORT. What the operations of Machine/RoundsStep.lean keep (Laws/Keeps.lean).
-/
namespace Sys2Proof.Machine

theorem execRndStep_keeps {z : State} (item : Fin 17) (us : Fin 6) (find : RndFind) (s : State) (hz : Keeps z s) :
    KeepsA z (execRndStep item us find s) := by
  unfold execRndStep
  extract_lets +onlyGivenNames x0_
  extract_lets +onlyGivenNames x1_
  have h1_ : Keeps z x1_ := (State.rndExpire_keeps _ (keeps_frc hz _))
  try clear_value x1_
  revert x1_
  refine keeps_id ?_
  intro x1_ h1_
  exact (by
    split
    · exact (keepsA_next h1_)
    · extract_lets +onlyGivenNames x2_
      extract_lets +onlyGivenNames x3_
      extract_lets +onlyGivenNames x4_
      exact (keeps_iteA (by
        extract_lets +onlyGivenNames x5_
        extract_lets +onlyGivenNames x6_
        extract_lets +onlyGivenNames x7_
        extract_lets +onlyGivenNames x8_
        extract_lets +onlyGivenNames x9_
        have h9_ : Keeps z x9_ := (State.rndWakes_keeps _ _ h1_)
        try clear_value x9_
        revert x9_
        refine keeps_id ?_
        intro x9_ h9_
        extract_lets +onlyGivenNames x10_
        have h10_ : Keeps z x10_ := (keeps_rnd h9_ _)
        try clear_value x10_
        revert x10_
        refine keeps_id ?_
        intro x10_ h10_
        extract_lets +onlyGivenNames x11_
        have h11_ : Keeps z x11_ := (State.wr_keeps _ _ _ h10_)
        try clear_value x11_
        revert x11_
        refine keeps_id ?_
        intro x11_ h11_
        extract_lets +onlyGivenNames x12_
        have h12_ : Keeps z x12_ := by
          subst x12_
          exact (by
            split
            · exact (State.faultTrigger_keeps _ _ (State.rndFail_keeps _ _ _ h11_))
            · exact (State.faultTrigger_keeps _ _ (State.rndFail_keeps _ _ _ h11_))
            · exact (State.rndFail_keeps _ _ _ h11_)
            · exact (State.post_keeps _ _ _ _ _ _ h11_)
            · exact h11_)
        try clear_value x12_
        revert x12_
        refine keeps_id ?_
        intro x12_ h12_
        extract_lets +onlyGivenNames x13_
        extract_lets +onlyGivenNames x14_
        have h14_ : Keeps z x14_ := (keeps_ite (State.wr_keeps _ _ _ (State.wr_keeps _ _ _ h12_))
        h12_)
        try clear_value x14_
        revert x14_
        refine keeps_id ?_
        intro x14_ h14_
        exact (keepsA_next (State.rndShow_keeps _ (State.rndPass_keeps _ h14_))))
      (keepsA_next h1_)))

end Sys2Proof.Machine
end

