-- ==== Sys2Proof/Laws/KeepsSolverRun.lean ====
section
/-!
SUPPORT. What the operations of Machine/SolverRun.lean keep (Laws/Keeps.lean).
-/
namespace Sys2Proof.Machine

theorem execSolverTake_keeps {z : State} (ecc : Bool) (s : State) (hz : Keeps z s) :
    KeepsA z (execSolverTake ecc s) := by
  unfold execSolverTake
  exact (keeps_iteA (by
    split
    · exact (keeps_iteA (by
        extract_lets +onlyGivenNames x0_
        extract_lets +onlyGivenNames x1_
        have h1_ : Keeps z x1_ := (State.slvTake_keeps _ _ _ _ hz)
        try clear_value x1_
        revert x1_
        refine keeps_id ?_
        intro x1_ h1_
        extract_lets +onlyGivenNames x2_
        have h2_ : Keeps z x2_ := (State.slvSendTake_keeps _ _ h1_)
        try clear_value x2_
        revert x2_
        refine keeps_id ?_
        intro x2_ h2_
        exact (keepsA_next (keeps_ite (State.faultTrigger_keeps _ _ h2_)
        h2_)))
      (keeps_iteA (keepsA_next (State.slvAwait_keeps _ (State.slvFollow_keeps _ hz)))
      (keepsA_next hz)))
    · exact (keepsA_next hz))
  (keepsA_next hz))

theorem execSolverIteration_keeps {z : State} (ecc : Bool) (s : State) (hz : Keeps z s) :
    KeepsA z (execSolverIteration ecc s) := by
  unfold execSolverIteration
  exact (by
    split
    · exact (keeps_iteA (keepsA_next hz)
      (keeps_iteA (keeps_iteA (by
        extract_lets +onlyGivenNames x0_
        have h0_ : Keeps z x0_ := (State.slvIterate_keeps _ _ _ _ hz)
        try clear_value x0_
        revert x0_
        refine keeps_id ?_
        intro x0_ h0_
        extract_lets +onlyGivenNames x1_
        have h1_ : Keeps z x1_ := (State.slvSendIterate_keeps _ _ _ h0_)
        try clear_value x1_
        revert x1_
        refine keeps_id ?_
        intro x1_ h1_
        exact (keepsA_next (keeps_ite (State.faultTrigger_keeps _ _ h1_)
        h1_)))
      (keepsA_next (State.slvStop_keeps _ _ (State.slvSend_keeps _ _ _ _ hz))))
      (keeps_iteA (keepsA_next (State.slvAwait_keeps _ (State.slvFollow_keeps _ hz)))
      (keepsA_next hz))))
    · exact (keepsA_next hz))

end Sys2Proof.Machine
end

