-- ==== Sys2Proof/Laws/KeepsTelegrams.lean ====
section
/-!
SUPPORT. What the operations of Machine/Telegrams.lean keep (Laws/Keeps.lean).
-/
namespace Sys2Proof.Machine

theorem State.tgSecond_keeps {z : State} (s : State) (x : TgConn) (hz : Keeps z s) :
    Keeps z (State.tgSecond s x) := by
  unfold State.tgSecond
  exact (by
    split
    · exact (State.waitTo_keeps _ _ hz)
    · exact hz)

theorem State.tgMiss_keeps {z : State} (s : State) (c : Nat) (net : Nat) (hz : Keeps z s) :
    Keeps z (State.tgMiss s c net) := by
  unfold State.tgMiss
  extract_lets +onlyGivenNames x0_
  extract_lets +onlyGivenNames x1_
  have h1_ : Keeps z x1_ := (State.setTg_keeps _ _ _ hz)
  try clear_value x1_
  revert x1_
  refine keeps_id ?_
  intro x1_ h1_
  exact (keeps_foldl (fun _ _ h2_ => (keeps_ite (State.spoil_keeps _ _ h2_)
  h2_))
  h1_)

theorem State.tgHeldOver_keeps {z : State} (s : State) (c : Nat) (hz : Keeps z s) :
    Keeps z (State.tgHeldOver s c) := by
  unfold State.tgHeldOver
  extract_lets +onlyGivenNames x0_
  exact (by
    split
    · exact (State.tgMiss_keeps _ _ _ (State.setTg_keeps _ _ _ hz))
    · exact hz)

theorem execHeldCopyExpire_keeps {z : State} (c : Fin 64) (s : State) (hz : Keeps z s) :
    KeepsA z (execHeldCopyExpire c s) := by
  unfold execHeldCopyExpire
  extract_lets +onlyGivenNames x0_
  exact (keeps_iteA (keepsA_next (State.tgHeldOver_keeps _ _ (State.waitTo_keeps _ _ hz)))
  (keepsA_next hz))

theorem State.tgDiscard_keeps {z : State} (s : State) (c : Nat) (port : Nat) (why : Nat) (hz : Keeps z s) :
    Keeps z (State.tgDiscard s c port why) := by
  unfold State.tgDiscard
  extract_lets +onlyGivenNames x0_
  extract_lets +onlyGivenNames x1_
  extract_lets +onlyGivenNames x2_
  extract_lets +onlyGivenNames x3_
  have h3_ : Keeps z x3_ := (keeps_ite (keeps_saf hz _)
  (State.setTg_keeps _ _ _ hz))
  try clear_value x3_
  revert x3_
  refine keeps_id ?_
  intro x3_ h3_
  exact (State.post_keeps _ _ _ _ _ _ h3_)

theorem State.tgTrip_keeps {z : State} (s : State) (c : Nat) (hz : Keeps z s) :
    Keeps z (State.tgTrip s c) := by
  unfold State.tgTrip
  exact (State.matrix_keeps _ (State.funTrips_keeps _ _ _ hz))

theorem State.tgPost_keeps {z : State} (s : State) (c : Nat) (x : TgConn) (hz : Keeps z s) :
    Keeps z (State.tgPost s c x) := by
  unfold State.tgPost
  exact (by
    split
    · exact hz
    · extract_lets +onlyGivenNames x0_
      extract_lets +onlyGivenNames x1_
      have h1_ : Keeps z x1_ := (keeps_foldl (fun _ _ h2_ => (State.wr_keeps _ _ _ h2_))
      hz)
      try clear_value x1_
      revert x1_
      refine keeps_id ?_
      intro x1_ h1_
      exact (State.pgnPost_keeps _ _ _ _ (State.wr_keeps _ _ _ h1_)))

theorem State.tgReport_keeps {z : State} (s : State) (c : Nat) (hz : Keeps z s) :
    Keeps z (State.tgReport s c) := by
  unfold State.tgReport
  exact (keeps_ite (State.tgPost_keeps _ _ _ hz)
  hz)

theorem State.tgState_keeps {z : State} (s : State) (c : Nat) (x : TgConn) (hz : Keeps z s) :
    Keeps z (State.tgState s c x) := by
  unfold State.tgState
  extract_lets +onlyGivenNames x0_
  extract_lets +onlyGivenNames x1_
  extract_lets +onlyGivenNames x2_
  have h2_ : Keeps z x2_ := (State.setTg_keeps _ _ _ hz)
  try clear_value x2_
  revert x2_
  refine keeps_id ?_
  intro x2_ h2_
  exact (keeps_ite h2_
  (State.tgReport_keeps _ _ h2_))

theorem execConnReport_keeps {z : State} (which : Option (Fin 64)) (s : State) (hz : Keeps z s) :
    KeepsA z (execConnReport which s) := by
  unfold execConnReport
  exact (keeps_iteA (keepsA_next hz)
  (by
    split
    · exact (keeps_iteA (keepsA_next hz)
      (by
        extract_lets +onlyGivenNames x0_
        have h0_ : Keeps z x0_ := (State.tgSecond_keeps _ _ hz)
        try clear_value x0_
        revert x0_
        refine keeps_id ?_
        intro x0_ h0_
        exact (keepsA_next (State.tgReport_keeps _ _ (State.setTg_keeps _ _ _ h0_)))))
    · extract_lets +onlyGivenNames x1_
      have h1_ : Keeps z x1_ := (State.tgSecond_keeps _ _ hz)
      try clear_value x1_
      revert x1_
      refine keeps_id ?_
      intro x1_ h1_
      extract_lets +onlyGivenNames x2_
      extract_lets +onlyGivenNames x3_
      extract_lets +onlyGivenNames x4_
      have h4_ : Keeps z x4_ := (keeps_saf h1_ _)
      try clear_value x4_
      revert x4_
      refine keeps_id ?_
      intro x4_ h4_
      exact (keepsA_next (State.tgPost_keeps _ _ _ h4_))))

theorem State.funReturn_keeps {z : State} (s : State) (f : Nat) (hz : Keeps z s) :
    Keeps z (State.funReturn s f) := by
  unfold State.funReturn
  extract_lets +onlyGivenNames x0_
  extract_lets +onlyGivenNames x1_
  extract_lets +onlyGivenNames x2_
  have h2_ : Keeps z x2_ := (keeps_ite (State.wr_keeps _ _ _ (keeps_saf hz _))
  hz)
  try clear_value x2_
  revert x2_
  refine keeps_id ?_
  intro x2_ h2_
  extract_lets +onlyGivenNames x3_
  extract_lets +onlyGivenNames x4_
  have h4_ : Keeps z x4_ := (keeps_ite (State.wr_keeps _ _ _ (keeps_saf h2_ _))
  h2_)
  try clear_value x4_
  revert x4_
  refine keeps_id ?_
  intro x4_ h4_
  extract_lets +onlyGivenNames x5_
  have h5_ : Keeps z x5_ := (keeps_foldl (fun _ _ h6_ => (by
    extract_lets +onlyGivenNames x7_
    exact (keeps_ite (State.post_keeps _ _ _ _ _ _ (State.tgState_keeps _ _ _ h6_))
    h6_)))
  h4_)
  try clear_value x5_
  revert x5_
  refine keeps_id ?_
  intro x5_ h5_
  extract_lets +onlyGivenNames x8_
  extract_lets +onlyGivenNames x9_
  have h9_ : Keeps z x9_ := (State.wr_keeps _ _ _ (State.wr_keeps _ _ _ (State.wr_keeps _ _ _ h5_)))
  try clear_value x9_
  revert x9_
  refine keeps_id ?_
  intro x9_ h9_
  exact (State.matrix_keeps _ (State.safSummary_keeps _ (State.post_keeps _ _ _ _ _ _ (State.setFunBad_keeps _ _ _ h9_))))

theorem execTgTimeout_keeps {z : State} (c : Fin 64) (s : State) (hz : Keeps z s) :
    KeepsA z (execTgTimeout c s) := by
  unfold execTgTimeout
  extract_lets +onlyGivenNames x0_
  exact (keeps_iteA (by
    extract_lets +onlyGivenNames x1_
    have h1_ : Keeps z x1_ := (State.waitTo_keeps _ _ hz)
    try clear_value x1_
    revert x1_
    refine keeps_id ?_
    intro x1_ h1_
    extract_lets +onlyGivenNames x2_
    have h2_ : Keeps z x2_ := (State.tgState_keeps _ _ _ h1_)
    try clear_value x2_
    revert x2_
    refine keeps_id ?_
    intro x2_ h2_
    exact (keepsA_next (State.tgTrip_keeps _ _ (State.post_keeps _ _ _ _ _ _ h2_))))
  (keepsA_next hz))

theorem State.tgMismatch_keeps {z : State} (s : State) (c : Nat) (a : List Byte) (b : List Byte) (hz : Keeps z s) :
    Keeps z (State.tgMismatch s c a b) := by
  unfold State.tgMismatch
  extract_lets +onlyGivenNames x0_
  extract_lets +onlyGivenNames x1_
  have h1_ : Keeps z x1_ := (State.tgState_keeps _ _ _ hz)
  try clear_value x1_
  revert x1_
  refine keeps_id ?_
  intro x1_ h1_
  exact (State.tgTrip_keeps _ _ (State.post_keeps _ _ _ _ _ _ h1_))

theorem execReturnCheckEnd_keeps {z : State} (f : Fin 64) (proc : Bool) (s : State) (hz : Keeps z s) :
    KeepsA z (execReturnCheckEnd f proc s) := by
  unfold execReturnCheckEnd
  extract_lets +onlyGivenNames x0_
  exact (keeps_iteA (keepsA_next hz)
  (keeps_iteA (keepsA_next (State.funExpire_keeps _ _ hz))
  (by
    extract_lets +onlyGivenNames x1_
    have h1_ : Keeps z x1_ := (State.wr_keeps _ _ _ (State.waitTo_keeps _ _ hz))
    try clear_value x1_
    revert x1_
    refine keeps_id ?_
    intro x1_ h1_
    exact (keeps_iteA (keepsA_next (State.funReturn_keeps _ _ h1_))
    (keepsA_next (State.post_keeps _ _ _ _ _ _ h1_))))))

theorem State.tgAccept_keeps {z : State} (s : State) (c : Nat) (st : Nat) (t : List Byte) (hz : Keeps z s) :
    Keeps z (State.tgAccept s c st t) := by
  unfold State.tgAccept
  extract_lets +onlyGivenNames x0_
  extract_lets +onlyGivenNames x1_
  extract_lets +onlyGivenNames x2_
  extract_lets +onlyGivenNames x3_
  have h3_ : Keeps z x3_ := (State.tgState_keeps _ _ _ hz)
  try clear_value x3_
  revert x3_
  refine keeps_id ?_
  intro x3_ h3_
  exact (keeps_ite (State.post_keeps _ _ _ _ _ _ h3_)
  h3_)

theorem execConnRestart_keeps {z : State} (c : Fin 64) (s : State) (hz : Keeps z s) :
    KeepsA z (execConnRestart c s) := by
  unfold execConnRestart
  extract_lets +onlyGivenNames x0_
  exact (keeps_iteA (by
    extract_lets +onlyGivenNames x1_
    have h1_ : Keeps z x1_ := (State.waitTo_keeps _ _ hz)
    try clear_value x1_
    revert x1_
    refine keeps_id ?_
    intro x1_ h1_
    exact (keepsA_next (State.tgState_keeps _ _ _ h1_)))
  (keepsA_next hz))

theorem State.tgSingleTake_keeps {z : State} (s : State) (c : Nat) (net : Nat) (t : List Byte) (hz : Keeps z s) :
    Keeps z (State.tgSingleTake s c net t) := by
  unfold State.tgSingleTake
  extract_lets +onlyGivenNames x0_
  extract_lets +onlyGivenNames x1_
  have h1_ : Keeps z x1_ := (State.tgAccept_keeps _ _ _ _ hz)
  try clear_value x1_
  revert x1_
  refine keeps_id ?_
  intro x1_ h1_
  extract_lets +onlyGivenNames x2_
  exact (by
    split
    · exact (keeps_ite (by
        extract_lets +onlyGivenNames x3_
        extract_lets +onlyGivenNames x4_
        have h4_ : Keeps z x4_ := (State.setTg_keeps _ _ _ h1_)
        try clear_value x4_
        revert x4_
        refine keeps_id ?_
        intro x4_ h4_
        exact (keeps_ite (State.setTg_keeps _ _ _ h4_)
        (State.tgMismatch_keeps _ _ _ _ h4_)))
      (State.setTg_keeps _ _ _ h1_))
    · exact (State.setTg_keeps _ _ _ h1_))

theorem State.tgSkew_keeps {z : State} (s : State) (c : Nat) (hz : Keeps z s) :
    Keeps z (State.tgSkew s c) := by
  unfold State.tgSkew
  extract_lets +onlyGivenNames x0_
  exact (by
    split
    · exact hz
    · extract_lets +onlyGivenNames x1_
      extract_lets +onlyGivenNames x2_
      have h2_ : Keeps z x2_ := (State.tgMiss_keeps _ _ _ (State.setTg_keeps _ _ _ hz))
      try clear_value x2_
      revert x2_
      refine keeps_id ?_
      intro x2_ h2_
      exact (keeps_ite (by
        extract_lets +onlyGivenNames x3_
        have h3_ : Keeps z x3_ := (State.tgAccept_keeps _ _ _ _ h2_)
        try clear_value x3_
        revert x3_
        refine keeps_id ?_
        intro x3_ h3_
        extract_lets +onlyGivenNames x4_
        have h4_ : Keeps z x4_ := (State.post_keeps _ _ _ _ _ _ h3_)
        try clear_value x4_
        revert x4_
        refine keeps_id ?_
        intro x4_ h4_
        exact (State.matrix_keeps _ (State.funFaults_keeps _ _ _ _ _ h4_)))
      h2_))

theorem State.tgLate_keeps {z : State} (s : State) (c : Nat) (net : Nat) (t : List Byte) (hz : Keeps z s) :
    Keeps z (State.tgLate s c net t) := by
  unfold State.tgLate
  extract_lets +onlyGivenNames x0_
  exact (keeps_ite (by
    extract_lets +onlyGivenNames x1_
    exact (State.setTg_keeps _ _ _ hz))
  (State.tgMismatch_keeps _ _ _ _ hz))

theorem State.tgFirst_keeps {z : State} (s : State) (c : Nat) (net : Nat) (t : List Byte) (hz : Keeps z s) :
    Keeps z (State.tgFirst s c net t) := by
  unfold State.tgFirst
  extract_lets +onlyGivenNames x0_
  exact (by
    split
    · exact (keeps_ite (State.tgSingleTake_keeps _ _ _ _ (keeps_ite (State.tgSkew_keeps _ _ hz)
      hz))
      (State.setTg_keeps _ _ _ hz))
    · exact (State.setTg_keeps _ _ _ hz))

theorem execSkewWindowExpire_keeps {z : State} (c : Fin 64) (s : State) (hz : Keeps z s) :
    KeepsA z (execSkewWindowExpire c s) := by
  unfold execSkewWindowExpire
  extract_lets +onlyGivenNames x0_
  exact (keeps_iteA (keepsA_next (State.tgSkew_keeps _ _ (State.waitTo_keeps _ _ hz)))
  (keepsA_next hz))

theorem State.tgTake_keeps {z : State} (s : State) (c : Nat) (net : Nat) (t : List Byte) (hz : Keeps z s) :
    Keeps z (State.tgTake s c net t) := by
  unfold State.tgTake
  extract_lets +onlyGivenNames x0_
  extract_lets +onlyGivenNames x1_
  have h1_ : Keeps z x1_ := (keeps_ite (State.tgSkew_keeps _ _ hz)
  hz)
  try clear_value x1_
  revert x1_
  refine keeps_id ?_
  intro x1_ h1_
  extract_lets +onlyGivenNames x2_
  have h2_ : Keeps z x2_ := (keeps_ite (State.tgHeldOver_keeps _ _ h1_)
  h1_)
  try clear_value x2_
  revert x2_
  refine keeps_id ?_
  intro x2_ h2_
  extract_lets +onlyGivenNames x3_
  exact (keeps_ite h2_
  (keeps_ite (State.tgLate_keeps _ _ _ _ h2_)
  (by
    split
    · exact (State.tgFirst_keeps _ _ _ _ h2_)
    · exact (by
        split
        · exact (State.tgFirst_keeps _ _ _ _ h2_)
        · exact (keeps_ite (State.tgFirst_keeps _ _ _ _ (State.tgSkew_keeps _ _ h2_))
          (keeps_ite (State.tgMismatch_keeps _ _ _ _ h2_)
          (keeps_ite (State.setTg_keeps _ _ _ h2_)
          (State.tgAccept_keeps _ _ _ _ h2_))))))))

theorem execTgCopyReceive_keeps {z : State} (port : Fin 4) (f : List Byte) (s : State) (hz : Keeps z s) :
    KeepsA z (execTgCopyReceive port f s) := by
  unfold execTgCopyReceive
  exact (keeps_iteA (keepsA_next hz)
  (by
    extract_lets +onlyGivenNames x0_
    exact (keeps_iteA (keepsA_next (State.tgDiscard_keeps _ _ _ _ hz))
    (keeps_iteA (keepsA_next (State.tgDiscard_keeps _ _ _ _ hz))
    (keeps_iteA (keepsA_next (State.tgDiscard_keeps _ _ _ _ hz))
    (by
      split
      · exact (keepsA_next (State.tgDiscard_keeps _ _ _ _ hz))
      · extract_lets +onlyGivenNames x1_
        extract_lets +onlyGivenNames x2_
        extract_lets +onlyGivenNames x3_
        exact (keeps_iteA (keepsA_next (State.tgDiscard_keeps _ _ _ _ hz))
        (keeps_iteA (keepsA_next (State.tgDiscard_keeps _ _ _ _ hz))
        (keeps_iteA (keepsA_next (State.tgDiscard_keeps _ _ _ _ hz))
        (keeps_iteA (keepsA_next (State.tgDiscard_keeps _ _ _ _ hz))
        (keepsA_next (State.tgTake_keeps _ _ _ _ hz))))))))))))

end Sys2Proof.Machine
end

