-- ==== Sys2Proof/Laws/KeepsWake.lean ====
section
/-!
SUPPORT. What the operations of Machine/Wake.lean keep (Laws/Keeps.lean).
-/
namespace Sys2Proof.Machine

theorem execEccCorrectable_keeps {z : State} (addr : Nat) (u1 : Byte) (s : State) (hz : Keeps z s) :
    KeepsA z (execEccCorrectable addr u1 s) := by
  unfold execEccCorrectable
  exact (keeps_iteA (keepsA_next (State.answer_keeps _ _ (State.setByte_keeps _ _ _ hz)))
  (keepsA_next hz))

theorem State.gateEntered_keeps {z : State} (s : State) (u : GUnit) (hz : Keeps z s) :
    Keeps z (State.gateEntered s u) := by
  unfold State.gateEntered
  extract_lets +onlyGivenNames x0_
  exact (State.showPower_keeps _ _ _ (State.setGate_keeps _ _ _ hz))

theorem execUnitGateEntry_keeps {z : State} (u : GUnit) (complete : Bool) (s : State) (hz : Keeps z s) :
    KeepsA z (execUnitGateEntry u complete s) := by
  unfold execUnitGateEntry
  extract_lets +onlyGivenNames x0_
  exact (keeps_iteA (keepsA_next hz)
  (keeps_iteA (keeps_iteA (keepsA_next (State.gateEntered_keeps _ _ hz))
  (keepsA_next hz))
  (keeps_iteA (keepsA_next hz)
  (keepsA_next (State.setGate_keeps _ _ _ hz)))))

theorem execUnitWake_keeps {z : State} (u : GUnit) (s : State) (hz : Keeps z s) :
    KeepsA z (execUnitWake u s) := by
  unfold execUnitWake
  exact (keeps_iteA (keepsA_next (State.wake_keeps _ _ hz))
  (keepsA_next hz))

end Sys2Proof.Machine
end

