-- ==== Sys2Proof/Laws/KeepsExec.lean ====
section
/-!
SUPPORT. What every command and every step keeps (Laws/Keeps.lean).
-/
namespace Sys2Proof.Machine

/-- Every command keeps the queue, the identity, the tables' form and the stores' bounds. -/
theorem exec_keeps (c : Instr) {z s : State} (hz : Keeps z s) : KeepsA z (exec c s) := by
  cases c with
  | registerWrite m w addr value => exact execRegisterWrite_keeps m w addr value _ hz
  | buserrValidClear m value => exact execBuserrValidClear_keeps m value _ hz
  | loReadLatch m w addr => exact execLoReadLatch_keeps m w addr _ hz
  | loWriteStage m addr value => exact execLoWriteStage_keeps m addr value _ hz
  | hiWriteApply m addr value => exact execHiWriteApply_keeps m addr value _ hz
  | rcReadClear m addr => exact execRcReadClear_keeps m addr _ hz
  | accessTimeout m write addr => exact execAccessTimeout_keeps m write addr _ hz
  | unitWake u => exact execUnitWake_keeps u _ hz
  | unitGateEntry u complete => exact execUnitGateEntry_keeps u complete _ hz
  | eccCorrectable addr syndrome => exact execEccCorrectable_keeps addr syndrome _ hz
  | uncorrectableEcc => exact execUncorrectableEcc_keeps _ hz
  | lockstepMismatch => exact execLockstepMismatch_keeps _ hz
  | watchdogExpiry => exact execWatchdogExpiry_keeps _ hz
  | fplVerify m => exact execFplVerify_keeps m _ hz
  | fplStore m slot => exact execFplStore_keeps m slot _ hz
  | fplSoftApply m => exact execFplSoftApply_keeps m _ hz
  | fplOperationComplete => exact execFplOperationComplete_keeps _ hz
  | bootLoad => exact execBootLoad_keeps _ hz
  | softSectionLanding peer => exact execSoftSectionLanding_keeps peer _ hz
  | baseTick => exact execBaseTick_keeps _ hz
  | executeReturn t ns image invokes writes => exact execExecuteReturn_keeps t ns image invokes writes _ hz
  | taskTrap t cause pc => exact execTaskTrap_keeps t cause pc _ hz
  | commit t => exact execCommit_keeps t _ hz
  | scnRun m => exact execScnRun_keeps m _ hz
  | scnHold m => exact execScnHold_keeps m _ hz
  | scnStop m => exact execScnStop_keeps m _ hz
  | scnRestart m t => exact execScnRestart_keeps m t _ hz
  | olcVerify m => exact execOlcVerify_keeps m _ hz
  | olcVerifyDone => exact execOlcVerifyDone_keeps _ hz
  | olcArm m same => exact execOlcArm_keeps m same _ hz
  | olcCancel m => exact execOlcCancel_keeps m _ hz
  | olcSwap => exact execOlcSwap_keeps _ hz
  | forceSet m => exact execForceSet_keeps m _ hz
  | forceRelease m => exact execForceRelease_keeps m _ hz
  | forceReleaseAll m => exact execForceReleaseAll_keeps m _ hz
  | loopTick ecc slots => exact execLoopTick_keeps ecc slots _ hz
  | loopCommit m n => exact execLoopCommit_keeps m n _ hz
  | loopDiscard m n => exact execLoopDiscard_keeps m n _ hz
  | loopInit m n => exact execLoopInit_keeps m n _ hz
  | solverTake ecc => exact execSolverTake_keeps ecc _ hz
  | solverIteration ecc => exact execSolverIteration_keeps ecc _ hz
  | solverComplete => exact execSolverComplete_keeps _ hz
  | slotClear m slot => exact execSlotClear_keeps m slot _ hz
  | slotClearAll m => exact execSlotClearAll_keeps m _ hz
  | solverPowerGate => exact execSolverPowerGate_keeps _ hz
  | stepBoundary deltas => exact execStepBoundary_keeps deltas _ hz
  | vlimStage m a upper value => exact execVlimStage_keeps m a upper value _ hz
  | encLoss a => exact execEncLoss_keeps a _ hz
  | encErr a => exact execEncErr_keeps a _ hz
  | enSettleElapsed a => exact execEnSettleElapsed_keeps a _ hz
  | stillDelayElapsed a => exact execStillDelayElapsed_keeps a _ hz
  | axisResume a => exact execAxisResume_keeps a _ hz
  | heartbeatSend => exact execHeartbeatSend_keeps _ hz
  | heartbeat a role lanes phase => exact execHeartbeat_keeps a role lanes phase _ hz
  | banisterFrameDiscard type len lane => exact execBanisterFrameDiscard_keeps type len lane _ hz
  | role a x => exact execRole_keeps a x _ hz
  | nak a seqs => exact execNak_keeps a seqs _ hz
  | handshakeTimeout => exact execHandshakeTimeout_keeps _ hz
  | agreement a g => exact execAgreement_keeps a g _ hz
  | agreeAck a tick crc => exact execAgreeAck_keeps a tick crc _ hz
  | rxMirror a entries => exact execRxMirror_keeps a entries _ hz
  | mirrorAck a upTo => exact execMirrorAck_keeps a upTo _ hz
  | regMirror a entries => exact execRegMirror_keeps a entries _ hz
  | digest a t missed noImage cycle value => exact execDigest_keeps a t missed noImage cycle value _ hz
  | digestMissing t => exact execDigestMissing_keeps t _ hz
  | strictDigestTimeout t => exact execStrictDigestTimeout_keeps t _ hz
  | loopSamples a samples ecc slots => exact execLoopSamples_keeps a samples ecc slots _ hz
  | axisCounts a counts loss bad => exact execAxisCounts_keeps a counts loss bad _ hz
  | solverPermit a p => exact execSolverPermit_keeps a p _ hz
  | missingFrameDemote type => exact execMissingFrameDemote_keeps type _ hz
  | inquiryResult peer failed => exact execInquiryResult_keeps peer failed _ hz
  | inquiryTimeout => exact execInquiryTimeout_keeps _ hz
  | banHandover m => exact execBanHandover_keeps m _ hz
  | rearmReadback m k c => exact execRearmReadback_keeps m k c _ hz
  | rearmAll m => exact execRearmAll_keeps m _ hz
  | forceTakeover m => exact execForceTakeover_keeps m _ hz
  | handover a x => exact execHandover_keeps a x _ hz
  | driving a offset => exact execDriving_keeps a offset _ hz
  | rampStart => exact execRampStart_keeps _ hz
  | rampEnd => exact execRampEnd_keeps _ hz
  | released a => exact execReleased_keeps a _ hz
  | barrierBackstop => exact execBarrierBackstop_keeps _ hz
  | takeoverInstant unknown => exact execTakeoverInstant_keeps unknown _ hz
  | laneLost l => exact execLaneLost_keeps l _ hz
  | laneRestored l => exact execLaneRestored_keeps l _ hz
  | plantHeartbeatSend => exact execPlantHeartbeatSend_keeps _ hz
  | plantHeartbeat p x => exact execPlantHeartbeat_keeps p x _ hz
  | laneLossTakeover => exact execLaneLossTakeover_keeps _ hz
  | joinStart => exact execJoinStart_keeps _ hz
  | joinRetry => exact execJoinRetry_keeps _ hz
  | joinRequest a caps station serial sdig pdig => exact execJoinRequest_keeps a caps station serial sdig pdig _ hz
  | joinRequestResend => exact execJoinRequestResend_keeps _ hz
  | joinAnswer a reason upgrade caps l => exact execJoinAnswer_keeps a reason upgrade caps l _ hz
  | hamperSend => exact execHamperSend_keeps _ hz
  | hamper a kind index offset total last data => exact execHamper_keeps a kind index offset total last data _ hz
  | hamperAck a kind index good => exact execHamperAck_keeps a kind index good _ hz
  | logEntry a x => exact execLogEntry_keeps a x _ hz
  | replayCycle t image invokes writes trap loopCrc solverCrc => exact execReplayCycle_keeps t image invokes writes trap loopCrc solverCrc _ hz
  | caughtUp a pos => exact execCaughtUp_keeps a pos _ hz
  | topup a payload => exact execTopup_keeps a payload _ hz
  | joinTick => exact execJoinTick_keeps _ hz
  | joined a gbSeq => exact execJoined_keeps a gbSeq _ hz
  | banJoin m => exact execBanJoin_keeps m _ hz
  | upgradeAdmit m => exact execUpgradeAdmit_keeps m _ hz
  | upgradeAdmitLapse => exact execUpgradeAdmitLapse_keeps _ hz
  | abandonUpgrade m => exact execAbandonUpgrade_keeps m _ hz
  | banSwap m differ => exact execBanSwap_keeps m differ _ hz
  | swap a landing => exact execSwap_keeps a landing _ hz
  | swapLanding => exact execSwapLanding_keeps _ hz
  | ready a resets discarded => exact execReady_keeps a resets discarded _ hz
  | latentLimitReached => exact execLatentLimitReached_keeps _ hz
  | safetyCycle x => exact execSafetyCycle_keeps x _ hz
  | safetyWatchdogExpiry spb early => exact execSafetyWatchdogExpiry_keeps spb early _ hz
  | supervisorForce why => exact execSupervisorForce_keeps why _ hz
  | safetyBootComplete okA okB planeA planeB => exact execSafetyBootComplete_keeps okA okB planeA planeB _ hz
  | safetyAdoptComplete => exact execSafetyAdoptComplete_keeps _ hz
  | ftiChange n demand => exact execFtiChange_keeps n demand _ hz
  | trpReqWrite m value => exact execTrpReqWrite_keeps m value _ hz
  | firstOutRearm m value => exact execFirstOutRearm_keeps m value _ hz
  | ctrlHbLost => exact execCtrlHbLost_keeps _ hz
  | darkTest n failed volts10 => exact execDarkTest_keeps n failed volts10 _ hz
  | killLineChange k => exact execKillLineChange_keeps k _ hz
  | testPulseOff l => exact execTestPulseOff_keeps l _ hz
  | testPulseSample l on volts10 users => exact execTestPulseSample_keeps l on volts10 users _ hz
  | excursionExpire who => exact execExcursionExpire_keeps who _ hz
  | excursionStore => exact execExcursionStore_keeps _ hz
  | safReturn m f => exact execSafReturn_keeps m f _ hz
  | safReset m f => exact execSafReset_keeps m f _ hz
  | returnMatrix m => exact execReturnMatrix_keeps m _ hz
  | returnCheckEnd f proc => exact execReturnCheckEnd_keeps f proc _ hz
  | matrixCheckEnd => exact execMatrixCheckEnd_keeps _ hz
  | safetyFieldStale k inbound spa spb users => exact execSafetyFieldStale_keeps k inbound spa spb users _ hz
  | tgCopyReceive port f => exact execTgCopyReceive_keeps port f _ hz
  | skewWindowExpire c => exact execSkewWindowExpire_keeps c _ hz
  | heldCopyExpire c => exact execHeldCopyExpire_keeps c _ hz
  | tgTimeout c => exact execTgTimeout_keeps c _ hz
  | connRestart c => exact execConnRestart_keeps c _ hz
  | connReport which => exact execConnReport_keeps which _ hz
  | barrierFrameSend k => exact execBarrierFrameSend_keeps k _ hz
  | barrierSlot k good skip field => exact execBarrierSlot_keeps k good skip field _ hz
  | islandFrameReceive k => exact execIslandFrameReceive_keeps k _ hz
  | islandWatchdog k => exact execIslandWatchdog_keeps k _ hz
  | inputSample k smp => exact execInputSample_keeps k smp _ hz
  | wireBreak k c uA => exact execWireBreak_keeps k c uA _ hz
  | wireBreakEnd k c => exact execWireBreakEnd_keeps k c _ hz
  | doOverload k c mA => exact execDoOverload_keeps k c mA _ hz
  | doRetry k c limits => exact execDoRetry_keeps k c limits _ hz
  | groupOverloadStep k total => exact execGroupOverloadStep_keeps k total _ hz
  | sagOff k supply => exact execSagOff_keeps k supply _ hz
  | restoreReady k supply => exact execRestoreReady_keeps k supply _ hz
  | islandLogicReset k => exact execIslandLogicReset_keeps k _ hz
  | islRestore m k => exact execIslRestore_keeps m k _ hz
  | islClearCounts m k => exact execIslClearCounts_keeps m k _ hz
  | restoreChannelOn k => exact execRestoreChannelOn_keeps k _ hz
  | doReadbackMismatch k c => exact execDoReadbackMismatch_keeps k c _ hz
  | aiSample k c raw => exact execAiSample_keeps k c raw _ hz
  | txOverload k c mA => exact execTxOverload_keeps k c mA _ hz
  | buckUpdate k c => exact execBuckUpdate_keeps k c _ hz
  | thermalTrip k c temp => exact execThermalTrip_keeps k c temp _ hz
  | thermalResume k c temp => exact execThermalResume_keeps k c temp _ hz
  | complianceSet k c => exact execComplianceSet_keeps k c _ hz
  | complianceClear k c => exact execComplianceClear_keeps k c _ hz
  | compFault k c => exact execCompFault_keeps k c _ hz
  | aoReadbackMismatch k c => exact execAoReadbackMismatch_keeps k c _ hz
  | trimWrite m k c value => exact execTrimWrite_keeps m k c value _ hz
  | keyMenu k c span => exact execKeyMenu_keeps k c span _ hz
  | keyUp => exact execKeyUp_keeps _ hz
  | keyDown => exact execKeyDown_keeps _ hz
  | keyEnter => exact execKeyEnter_keeps _ hz
  | keyEsc => exact execKeyEsc_keeps _ hz
  | keySessionTimeout => exact execKeySessionTimeout_keeps _ hz
  | keyswitchChange control safety => exact execKeyswitchChange_keeps control safety _ hz
  | usbSessionOpen => exact execUsbSessionOpen_keeps _ hz
  | canFrameReceive c x => exact execCanFrameReceive_keeps c x _ hz
  | canHpAck m c value => exact execCanHpAck_keeps m c value _ hz
  | canTxStart c which => exact execCanTxStart_keeps c which _ hz
  | canTxComplete c how => exact execCanTxComplete_keeps c how _ hz
  | busOff c => exact execBusOff_keeps c _ hz
  | canRecovered c => exact execCanRecovered_keeps c _ hz
  | canBusOn m c => exact execCanBusOn_keeps m c _ hz
  | canClearCounts m c => exact execCanClearCounts_keeps m c _ hz
  | canErrorFrame c kind => exact execCanErrorFrame_keeps c kind _ hz
  | ttWindowStart c basic win => exact execTtWindowStart_keeps c basic win _ hz
  | ttWindowMissed c basic win => exact execTtWindowMissed_keeps c basic win _ hz
  | canChannelActive c => exact execCanChannelActive_keeps c _ hz
  | canFilterWrite m c f which value => exact execCanFilterWrite_keeps m c f which value _ hz
  | ethFrameReceive p fcsGood f => exact execEthFrameReceive_keeps p fcsGood f _ hz
  | ethTxStart p => exact execEthTxStart_keeps p _ hz
  | ethTxComplete p => exact execEthTxComplete_keeps p _ hz
  | linkUp p => exact execLinkUp_keeps p _ hz
  | linkDown p unable => exact execLinkDown_keeps p unable _ hz
  | igmpReport => exact execIgmpReport_keeps _ hz
  | ethMaint m value => exact execEthMaint_keeps m value _ hz
  | maintSessionExpire => exact execMaintSessionExpire_keeps _ hz
  | ptpAnnounce d a => exact execPtpAnnounce_keeps d a _ hz
  | ptpSync d m => exact execPtpSync_keeps d m _ hz
  | delayReq d x => exact execDelayReq_keeps d x _ hz
  | domainHoldover d => exact execDomainHoldover_keeps d _ hz
  | announceTimeout d => exact execAnnounceTimeout_keeps d _ hz
  | timRealign m => exact execTimRealign_keeps m _ hz
  | ppsInEdge => exact execPpsInEdge_keeps _ hz
  | ppsOutEdge => exact execPpsOutEdge_keeps _ hz
  | classTimeCapture m w second => exact execClassTimeCapture_keeps m w second _ hz
  | c2BackupRefresh => exact execC2BackupRefresh_keeps _ hz
  | serMessageReceive p x => exact execSerMessageReceive_keeps p x _ hz
  | serTxStart p => exact execSerTxStart_keeps p _ hz
  | serTxComplete p sent echoErr => exact execSerTxComplete_keeps p sent echoErr _ hz
  | pollSend l => exact execPollSend_keeps l _ hz
  | pollReturn l fcsGood rtt payload => exact execPollReturn_keeps l fcsGood rtt payload _ hz
  | outputReturn l fcsGood payload => exact execOutputReturn_keeps l fcsGood payload _ hz
  | identReturn l fcsGood payload => exact execIdentReturn_keeps l fcsGood payload _ hz
  | stairwayTurnaround l payload => exact execStairwayTurnaround_keeps l payload _ hz
  | stairwayLinkChange l up => exact execStairwayLinkChange_keeps l up _ hz
  | pgnTxPost m ch value => exact execPgnTxPost_keeps m ch value _ hz
  | pgnRxHdrRead m ch => exact execPgnRxHdrRead_keeps m ch _ hz
  | pgnRxAck m ch value => exact execPgnRxAck_keeps m ch value _ hz
  | withdraw m ch => exact execWithdraw_keeps m ch _ hz
  | pgnTimeout ch => exact execPgnTimeout_keeps ch _ hz
  | pgnTimeoutClear m ch => exact execPgnTimeoutClear_keeps m ch _ hz
  | quePiWrite m q value => exact execQuePiWrite_keeps m q value _ hz
  | queDiWrite m q value => exact execQueDiWrite_keeps m q value _ hz
  | queCiWrite m q value => exact execQueCiWrite_keeps m q value _ hz
  | queuePoolWrite m off bs => exact execQueuePoolWrite_keeps m off bs _ hz
  | gbEvent => exact execGbEvent_keeps _ hz
  | gbRecordWrite cut => exact execGbRecordWrite_keeps cut _ hz
  | gbTokenRefill cls => exact execGbTokenRefill_keeps cls _ hz
  | gbClear m => exact execGbClear_keeps m _ hz
  | gbCursorWrite m value => exact execGbCursorWrite_keeps m value _ hz
  | rndStopGrant => exact execRndStopGrant_keeps _ hz
  | rndStep item us find => exact execRndStep_keeps item us find _ hz
  | rndGrantClose => exact execRndGrantClose_keeps _ hz
  | rndPassLate => exact execRndPassLate_keeps _ hz
  | wearSample mram flash => exact execWearSample_keeps mram flash _ hz
  | annexInterval pulses currents => exact execAnnexInterval_keeps pulses currents _ hz
  | annexResultPost => exact execAnnexResultPost_keeps _ hz
  | annexStatusPost => exact execAnnexStatusPost_keeps _ hz
  | annexReportRepost => exact execAnnexReportRepost_keeps _ hz
  | identIf => exact execIdentIf_keeps _ hz
  | annexStatusLost => exact execAnnexStatusLost_keeps _ hz
  | timeWordSend good => exact execTimeWordSend_keeps good _ hz
  | annexTimeHold => exact execAnnexTimeHold_keeps _ hz
  | annexWriteSwitch write => exact execAnnexWriteSwitch_keeps write _ hz
  | readParam nums => exact execReadParam_keeps nums _ hz
  | readLog => exact execReadLog_keeps _ hz
  | readTotals => exact execReadTotals_keeps _ hz
  | writeParam changes => exact execWriteParam_keeps changes _ hz
  | loadSoftware image sig name ifhash version build => exact execLoadSoftware_keeps image sig name ifhash version build _ hz
  | clearLog hash => exact execClearLog_keeps hash _ hz
  | annexTotalsCommit => exact execAnnexTotalsCommit_keeps _ hz
  | nbUpdateTake => exact execNbUpdateTake_keeps _ hz
  | nbFrame temp => exact execNbFrame_keeps temp _ hz
  | nbBalancePass => exact execNbBalancePass_keeps _ hz
  | nbCleanCmd m => exact execNbCleanCmd_keeps m _ hz
  | nbRefreshCmd m => exact execNbRefreshCmd_keeps m _ hz
  | nbBalanceCmd m => exact execNbBalanceCmd_keeps m _ hz
  | nbIdleScan temp bad => exact execNbIdleScan_keeps temp bad _ hz
  | nbRailRise => exact execNbRailRise_keeps _ hz
  | nbRailFault rails => exact execNbRailFault_keeps rails _ hz
  | nbRailsDown => exact execNbRailsDown_keeps _ hz
  | nbQuiescentCommit => exact execNbQuiescentCommit_keeps _ hz
  | nbLightWrite m value => exact execNbLightWrite_keeps m value _ hz
  | powerInputChange x => exact execPowerInputChange_keeps x _ hz
  | powerFailWarning why meas => exact execPowerFailWarning_keeps why meas _ hz
  | shutdownOutputsOff => exact execShutdownOutputsOff_keeps _ hz
  | shutdownMramCommit meas permille => exact execShutdownMramCommit_keeps meas permille _ hz
  | controlUnpowered us => exact execControlUnpowered_keeps us _ hz
  | holdupFull meas => exact execHoldupFull_keeps meas _ hz
  | controlResetRelease us => exact execControlResetRelease_keeps us _ hz
  | shutdown a serial => exact execShutdown_keeps a serial _ hz
  | cellLow mV => exact execCellLow_keeps mV _ hz
  | sealChange lid open_ => exact execSealChange_keeps lid open_ _ hz
  | beaconSend => exact execBeaconSend_keeps _ hz
  | beacon a serial caps strap role => exact execBeacon_keeps a serial caps strap role _ hz
  | electionWindowEnd => exact execElectionWindowEnd_keeps _ hz
  | electionDeferEnd => exact execElectionDeferEnd_keeps _ hz
  | ethJoinPoint => exact execEthJoinPoint_keeps _ hz
  | encLossClear a => exact execEncLossClear_keeps a _ hz
  | fastTripSupplyChange mV => exact execFastTripSupplyChange_keeps mV _ hz
  | safetyMonitorWarning rail clock => exact execSafetyMonitorWarning_keeps rail clock _ hz
  | islandSupplyReturn k supply => exact execIslandSupplyReturn_keeps k supply _ hz
  | txOverloadClear k c => exact execTxOverloadClear_keeps k c _ hz
  | loopSideStop k c vterm opened => exact execLoopSideStop_keeps k c vterm opened _ hz
  | aoReadbackClear k c => exact execAoReadbackClear_keeps k c _ hz
  | ppsInTimeout => exact execPpsInTimeout_keeps _ hz
  | slewingEnd second => exact execSlewingEnd_keeps second _ hz
  | gbClearComplete => exact execGbClearComplete_keeps _ hz
  | annexSelfTest pass => exact execAnnexSelfTest_keeps pass _ hz
  | thermalStressUpdate => exact execThermalStressUpdate_keeps _ hz

end Sys2Proof.Machine
end

