-- ==== Sys2Proof/Laws/PerInstr.lean ====
section
/-!
SUPPORT. What is said of every command as syntax, one lemma per row of the table: no word spells it, since the table
gives the rows no bits, and the queue and the module's identity are not among what it may change.
-/
namespace Sys2Proof.Laws.Rows

open Sys2Proof.Machine

/-- No word spells the command, and it changes neither the queue of commands nor the identity. -/
def Statement (i : Instr) : Prop :=
  (∀ nbits w, decodeTableWord nbits w ≠ some i) ∧ (mayChange i).contains .pending = false ∧ (mayChange i).contains .ident = false

theorem unspelled (i : Instr) (nbits w : Nat) : decodeTableWord nbits w ≠ some i := nofun

theorem registerWrite : ∀ a0 a1 a2 a3, Statement (.registerWrite a0 a1 a2 a3) :=
  fun _ _ _ _ => ⟨unspelled _, rfl, rfl⟩

theorem buserrValidClear : ∀ a0 a1, Statement (.buserrValidClear a0 a1) :=
  fun _ _ => ⟨unspelled _, rfl, rfl⟩

theorem loReadLatch : ∀ a0 a1 a2, Statement (.loReadLatch a0 a1 a2) :=
  fun _ _ _ => ⟨unspelled _, rfl, rfl⟩

theorem loWriteStage : ∀ a0 a1 a2, Statement (.loWriteStage a0 a1 a2) :=
  fun _ _ _ => ⟨unspelled _, rfl, rfl⟩

theorem hiWriteApply : ∀ a0 a1 a2, Statement (.hiWriteApply a0 a1 a2) :=
  fun _ _ _ => ⟨unspelled _, rfl, rfl⟩

theorem rcReadClear : ∀ a0 a1, Statement (.rcReadClear a0 a1) :=
  fun _ _ => ⟨unspelled _, rfl, rfl⟩

theorem accessTimeout : ∀ a0 a1 a2, Statement (.accessTimeout a0 a1 a2) :=
  fun _ _ _ => ⟨unspelled _, rfl, rfl⟩

theorem unitWake : ∀ a0, Statement (.unitWake a0) :=
  fun _ => ⟨unspelled _, rfl, rfl⟩

theorem unitGateEntry : ∀ a0 a1, Statement (.unitGateEntry a0 a1) :=
  fun _ _ => ⟨unspelled _, rfl, rfl⟩

theorem eccCorrectable : ∀ a0 a1, Statement (.eccCorrectable a0 a1) :=
  fun _ _ => ⟨unspelled _, rfl, rfl⟩

theorem uncorrectableEcc : Statement .uncorrectableEcc := ⟨unspelled _, rfl, rfl⟩

theorem lockstepMismatch : Statement .lockstepMismatch := ⟨unspelled _, rfl, rfl⟩

theorem watchdogExpiry : Statement .watchdogExpiry := ⟨unspelled _, rfl, rfl⟩

theorem fplVerify : ∀ a0, Statement (.fplVerify a0) :=
  fun _ => ⟨unspelled _, rfl, rfl⟩

theorem fplStore : ∀ a0 a1, Statement (.fplStore a0 a1) :=
  fun _ _ => ⟨unspelled _, rfl, rfl⟩

theorem fplSoftApply : ∀ a0, Statement (.fplSoftApply a0) :=
  fun _ => ⟨unspelled _, rfl, rfl⟩

theorem fplOperationComplete : Statement .fplOperationComplete := ⟨unspelled _, rfl, rfl⟩

theorem bootLoad : Statement .bootLoad := ⟨unspelled _, rfl, rfl⟩

theorem softSectionLanding : ∀ a0, Statement (.softSectionLanding a0) :=
  fun _ => ⟨unspelled _, rfl, rfl⟩

theorem baseTick : Statement .baseTick := ⟨unspelled _, rfl, rfl⟩

theorem executeReturn : ∀ a0 a1 a2 a3 a4, Statement (.executeReturn a0 a1 a2 a3 a4) :=
  fun _ _ _ _ _ => ⟨unspelled _, rfl, rfl⟩

theorem taskTrap : ∀ a0 a1 a2, Statement (.taskTrap a0 a1 a2) :=
  fun _ _ _ => ⟨unspelled _, rfl, rfl⟩

theorem commit : ∀ a0, Statement (.commit a0) :=
  fun _ => ⟨unspelled _, rfl, rfl⟩

theorem scnRun : ∀ a0, Statement (.scnRun a0) :=
  fun _ => ⟨unspelled _, rfl, rfl⟩

theorem scnHold : ∀ a0, Statement (.scnHold a0) :=
  fun _ => ⟨unspelled _, rfl, rfl⟩

theorem scnStop : ∀ a0, Statement (.scnStop a0) :=
  fun _ => ⟨unspelled _, rfl, rfl⟩

theorem scnRestart : ∀ a0 a1, Statement (.scnRestart a0 a1) :=
  fun _ _ => ⟨unspelled _, rfl, rfl⟩

theorem olcVerify : ∀ a0, Statement (.olcVerify a0) :=
  fun _ => ⟨unspelled _, rfl, rfl⟩

theorem olcVerifyDone : Statement .olcVerifyDone := ⟨unspelled _, rfl, rfl⟩

theorem olcArm : ∀ a0 a1, Statement (.olcArm a0 a1) :=
  fun _ _ => ⟨unspelled _, rfl, rfl⟩

theorem olcCancel : ∀ a0, Statement (.olcCancel a0) :=
  fun _ => ⟨unspelled _, rfl, rfl⟩

theorem olcSwap : Statement .olcSwap := ⟨unspelled _, rfl, rfl⟩

theorem forceSet : ∀ a0, Statement (.forceSet a0) :=
  fun _ => ⟨unspelled _, rfl, rfl⟩

theorem forceRelease : ∀ a0, Statement (.forceRelease a0) :=
  fun _ => ⟨unspelled _, rfl, rfl⟩

theorem forceReleaseAll : ∀ a0, Statement (.forceReleaseAll a0) :=
  fun _ => ⟨unspelled _, rfl, rfl⟩

theorem loopTick : ∀ a0 a1, Statement (.loopTick a0 a1) :=
  fun _ _ => ⟨unspelled _, rfl, rfl⟩

theorem loopCommit : ∀ a0 a1, Statement (.loopCommit a0 a1) :=
  fun _ _ => ⟨unspelled _, rfl, rfl⟩

theorem loopDiscard : ∀ a0 a1, Statement (.loopDiscard a0 a1) :=
  fun _ _ => ⟨unspelled _, rfl, rfl⟩

theorem loopInit : ∀ a0 a1, Statement (.loopInit a0 a1) :=
  fun _ _ => ⟨unspelled _, rfl, rfl⟩

theorem solverTake : ∀ a0, Statement (.solverTake a0) :=
  fun _ => ⟨unspelled _, rfl, rfl⟩

theorem solverIteration : ∀ a0, Statement (.solverIteration a0) :=
  fun _ => ⟨unspelled _, rfl, rfl⟩

theorem solverComplete : Statement .solverComplete := ⟨unspelled _, rfl, rfl⟩

theorem slotClear : ∀ a0 a1, Statement (.slotClear a0 a1) :=
  fun _ _ => ⟨unspelled _, rfl, rfl⟩

theorem slotClearAll : ∀ a0, Statement (.slotClearAll a0) :=
  fun _ => ⟨unspelled _, rfl, rfl⟩

theorem solverPowerGate : Statement .solverPowerGate := ⟨unspelled _, rfl, rfl⟩

theorem stepBoundary : ∀ a0, Statement (.stepBoundary a0) :=
  fun _ => ⟨unspelled _, rfl, rfl⟩

theorem vlimStage : ∀ a0 a1 a2 a3, Statement (.vlimStage a0 a1 a2 a3) :=
  fun _ _ _ _ => ⟨unspelled _, rfl, rfl⟩

theorem encLoss : ∀ a0, Statement (.encLoss a0) :=
  fun _ => ⟨unspelled _, rfl, rfl⟩

theorem encErr : ∀ a0, Statement (.encErr a0) :=
  fun _ => ⟨unspelled _, rfl, rfl⟩

theorem enSettleElapsed : ∀ a0, Statement (.enSettleElapsed a0) :=
  fun _ => ⟨unspelled _, rfl, rfl⟩

theorem stillDelayElapsed : ∀ a0, Statement (.stillDelayElapsed a0) :=
  fun _ => ⟨unspelled _, rfl, rfl⟩

theorem axisResume : ∀ a0, Statement (.axisResume a0) :=
  fun _ => ⟨unspelled _, rfl, rfl⟩

theorem heartbeatSend : Statement .heartbeatSend := ⟨unspelled _, rfl, rfl⟩

theorem heartbeat : ∀ a0 a1 a2 a3, Statement (.heartbeat a0 a1 a2 a3) :=
  fun _ _ _ _ => ⟨unspelled _, rfl, rfl⟩

theorem banisterFrameDiscard : ∀ a0 a1 a2, Statement (.banisterFrameDiscard a0 a1 a2) :=
  fun _ _ _ => ⟨unspelled _, rfl, rfl⟩

theorem role : ∀ a0 a1, Statement (.role a0 a1) :=
  fun _ _ => ⟨unspelled _, rfl, rfl⟩

theorem nak : ∀ a0 a1, Statement (.nak a0 a1) :=
  fun _ _ => ⟨unspelled _, rfl, rfl⟩

theorem handshakeTimeout : Statement .handshakeTimeout := ⟨unspelled _, rfl, rfl⟩

theorem agreement : ∀ a0 a1, Statement (.agreement a0 a1) :=
  fun _ _ => ⟨unspelled _, rfl, rfl⟩

theorem agreeAck : ∀ a0 a1 a2, Statement (.agreeAck a0 a1 a2) :=
  fun _ _ _ => ⟨unspelled _, rfl, rfl⟩

theorem rxMirror : ∀ a0 a1, Statement (.rxMirror a0 a1) :=
  fun _ _ => ⟨unspelled _, rfl, rfl⟩

theorem mirrorAck : ∀ a0 a1, Statement (.mirrorAck a0 a1) :=
  fun _ _ => ⟨unspelled _, rfl, rfl⟩

theorem regMirror : ∀ a0 a1, Statement (.regMirror a0 a1) :=
  fun _ _ => ⟨unspelled _, rfl, rfl⟩

theorem digest : ∀ a0 a1 a2 a3 a4 a5, Statement (.digest a0 a1 a2 a3 a4 a5) :=
  fun _ _ _ _ _ _ => ⟨unspelled _, rfl, rfl⟩

theorem digestMissing : ∀ a0, Statement (.digestMissing a0) :=
  fun _ => ⟨unspelled _, rfl, rfl⟩

theorem strictDigestTimeout : ∀ a0, Statement (.strictDigestTimeout a0) :=
  fun _ => ⟨unspelled _, rfl, rfl⟩

theorem loopSamples : ∀ a0 a1 a2 a3, Statement (.loopSamples a0 a1 a2 a3) :=
  fun _ _ _ _ => ⟨unspelled _, rfl, rfl⟩

theorem axisCounts : ∀ a0 a1 a2 a3, Statement (.axisCounts a0 a1 a2 a3) :=
  fun _ _ _ _ => ⟨unspelled _, rfl, rfl⟩

theorem solverPermit : ∀ a0 a1, Statement (.solverPermit a0 a1) :=
  fun _ _ => ⟨unspelled _, rfl, rfl⟩

theorem missingFrameDemote : ∀ a0, Statement (.missingFrameDemote a0) :=
  fun _ => ⟨unspelled _, rfl, rfl⟩

theorem inquiryResult : ∀ a0 a1, Statement (.inquiryResult a0 a1) :=
  fun _ _ => ⟨unspelled _, rfl, rfl⟩

theorem inquiryTimeout : Statement .inquiryTimeout := ⟨unspelled _, rfl, rfl⟩

theorem banHandover : ∀ a0, Statement (.banHandover a0) :=
  fun _ => ⟨unspelled _, rfl, rfl⟩

theorem rearmReadback : ∀ a0 a1 a2, Statement (.rearmReadback a0 a1 a2) :=
  fun _ _ _ => ⟨unspelled _, rfl, rfl⟩

theorem rearmAll : ∀ a0, Statement (.rearmAll a0) :=
  fun _ => ⟨unspelled _, rfl, rfl⟩

theorem forceTakeover : ∀ a0, Statement (.forceTakeover a0) :=
  fun _ => ⟨unspelled _, rfl, rfl⟩

theorem handover : ∀ a0 a1, Statement (.handover a0 a1) :=
  fun _ _ => ⟨unspelled _, rfl, rfl⟩

theorem driving : ∀ a0 a1, Statement (.driving a0 a1) :=
  fun _ _ => ⟨unspelled _, rfl, rfl⟩

theorem rampStart : Statement .rampStart := ⟨unspelled _, rfl, rfl⟩

theorem rampEnd : Statement .rampEnd := ⟨unspelled _, rfl, rfl⟩

theorem released : ∀ a0, Statement (.released a0) :=
  fun _ => ⟨unspelled _, rfl, rfl⟩

theorem barrierBackstop : Statement .barrierBackstop := ⟨unspelled _, rfl, rfl⟩

theorem takeoverInstant : ∀ a0, Statement (.takeoverInstant a0) :=
  fun _ => ⟨unspelled _, rfl, rfl⟩

theorem laneLost : ∀ a0, Statement (.laneLost a0) :=
  fun _ => ⟨unspelled _, rfl, rfl⟩

theorem laneRestored : ∀ a0, Statement (.laneRestored a0) :=
  fun _ => ⟨unspelled _, rfl, rfl⟩

theorem plantHeartbeatSend : Statement .plantHeartbeatSend := ⟨unspelled _, rfl, rfl⟩

theorem plantHeartbeat : ∀ a0 a1, Statement (.plantHeartbeat a0 a1) :=
  fun _ _ => ⟨unspelled _, rfl, rfl⟩

theorem laneLossTakeover : Statement .laneLossTakeover := ⟨unspelled _, rfl, rfl⟩

theorem joinStart : Statement .joinStart := ⟨unspelled _, rfl, rfl⟩

theorem joinRetry : Statement .joinRetry := ⟨unspelled _, rfl, rfl⟩

theorem joinRequest : ∀ a0 a1 a2 a3 a4 a5, Statement (.joinRequest a0 a1 a2 a3 a4 a5) :=
  fun _ _ _ _ _ _ => ⟨unspelled _, rfl, rfl⟩

theorem joinRequestResend : Statement .joinRequestResend := ⟨unspelled _, rfl, rfl⟩

theorem joinAnswer : ∀ a0 a1 a2 a3 a4, Statement (.joinAnswer a0 a1 a2 a3 a4) :=
  fun _ _ _ _ _ => ⟨unspelled _, rfl, rfl⟩

theorem hamperSend : Statement .hamperSend := ⟨unspelled _, rfl, rfl⟩

theorem hamper : ∀ a0 a1 a2 a3 a4 a5 a6, Statement (.hamper a0 a1 a2 a3 a4 a5 a6) :=
  fun _ _ _ _ _ _ _ => ⟨unspelled _, rfl, rfl⟩

theorem hamperAck : ∀ a0 a1 a2 a3, Statement (.hamperAck a0 a1 a2 a3) :=
  fun _ _ _ _ => ⟨unspelled _, rfl, rfl⟩

theorem logEntry : ∀ a0 a1, Statement (.logEntry a0 a1) :=
  fun _ _ => ⟨unspelled _, rfl, rfl⟩

theorem replayCycle : ∀ a0 a1 a2 a3 a4 a5 a6, Statement (.replayCycle a0 a1 a2 a3 a4 a5 a6) :=
  fun _ _ _ _ _ _ _ => ⟨unspelled _, rfl, rfl⟩

theorem caughtUp : ∀ a0 a1, Statement (.caughtUp a0 a1) :=
  fun _ _ => ⟨unspelled _, rfl, rfl⟩

theorem topup : ∀ a0 a1, Statement (.topup a0 a1) :=
  fun _ _ => ⟨unspelled _, rfl, rfl⟩

theorem joinTick : Statement .joinTick := ⟨unspelled _, rfl, rfl⟩

theorem joined : ∀ a0 a1, Statement (.joined a0 a1) :=
  fun _ _ => ⟨unspelled _, rfl, rfl⟩

theorem banJoin : ∀ a0, Statement (.banJoin a0) :=
  fun _ => ⟨unspelled _, rfl, rfl⟩

theorem upgradeAdmit : ∀ a0, Statement (.upgradeAdmit a0) :=
  fun _ => ⟨unspelled _, rfl, rfl⟩

theorem upgradeAdmitLapse : Statement .upgradeAdmitLapse := ⟨unspelled _, rfl, rfl⟩

theorem abandonUpgrade : ∀ a0, Statement (.abandonUpgrade a0) :=
  fun _ => ⟨unspelled _, rfl, rfl⟩

theorem banSwap : ∀ a0 a1, Statement (.banSwap a0 a1) :=
  fun _ _ => ⟨unspelled _, rfl, rfl⟩

theorem swap : ∀ a0 a1, Statement (.swap a0 a1) :=
  fun _ _ => ⟨unspelled _, rfl, rfl⟩

theorem swapLanding : Statement .swapLanding := ⟨unspelled _, rfl, rfl⟩

theorem ready : ∀ a0 a1 a2, Statement (.ready a0 a1 a2) :=
  fun _ _ _ => ⟨unspelled _, rfl, rfl⟩

theorem latentLimitReached : Statement .latentLimitReached := ⟨unspelled _, rfl, rfl⟩

theorem safetyCycle : ∀ a0, Statement (.safetyCycle a0) :=
  fun _ => ⟨unspelled _, rfl, rfl⟩

theorem safetyWatchdogExpiry : ∀ a0 a1, Statement (.safetyWatchdogExpiry a0 a1) :=
  fun _ _ => ⟨unspelled _, rfl, rfl⟩

theorem supervisorForce : ∀ a0, Statement (.supervisorForce a0) :=
  fun _ => ⟨unspelled _, rfl, rfl⟩

theorem safetyBootComplete : ∀ a0 a1 a2 a3, Statement (.safetyBootComplete a0 a1 a2 a3) :=
  fun _ _ _ _ => ⟨unspelled _, rfl, rfl⟩

theorem safetyAdoptComplete : Statement .safetyAdoptComplete := ⟨unspelled _, rfl, rfl⟩

theorem ftiChange : ∀ a0 a1, Statement (.ftiChange a0 a1) :=
  fun _ _ => ⟨unspelled _, rfl, rfl⟩

theorem trpReqWrite : ∀ a0 a1, Statement (.trpReqWrite a0 a1) :=
  fun _ _ => ⟨unspelled _, rfl, rfl⟩

theorem firstOutRearm : ∀ a0 a1, Statement (.firstOutRearm a0 a1) :=
  fun _ _ => ⟨unspelled _, rfl, rfl⟩

theorem ctrlHbLost : Statement .ctrlHbLost := ⟨unspelled _, rfl, rfl⟩

theorem darkTest : ∀ a0 a1 a2, Statement (.darkTest a0 a1 a2) :=
  fun _ _ _ => ⟨unspelled _, rfl, rfl⟩

theorem killLineChange : ∀ a0, Statement (.killLineChange a0) :=
  fun _ => ⟨unspelled _, rfl, rfl⟩

theorem testPulseOff : ∀ a0, Statement (.testPulseOff a0) :=
  fun _ => ⟨unspelled _, rfl, rfl⟩

theorem testPulseSample : ∀ a0 a1 a2 a3, Statement (.testPulseSample a0 a1 a2 a3) :=
  fun _ _ _ _ => ⟨unspelled _, rfl, rfl⟩

theorem excursionExpire : ∀ a0, Statement (.excursionExpire a0) :=
  fun _ => ⟨unspelled _, rfl, rfl⟩

theorem excursionStore : Statement .excursionStore := ⟨unspelled _, rfl, rfl⟩

theorem safReturn : ∀ a0 a1, Statement (.safReturn a0 a1) :=
  fun _ _ => ⟨unspelled _, rfl, rfl⟩

theorem safReset : ∀ a0 a1, Statement (.safReset a0 a1) :=
  fun _ _ => ⟨unspelled _, rfl, rfl⟩

theorem returnMatrix : ∀ a0, Statement (.returnMatrix a0) :=
  fun _ => ⟨unspelled _, rfl, rfl⟩

theorem returnCheckEnd : ∀ a0 a1, Statement (.returnCheckEnd a0 a1) :=
  fun _ _ => ⟨unspelled _, rfl, rfl⟩

theorem matrixCheckEnd : Statement .matrixCheckEnd := ⟨unspelled _, rfl, rfl⟩

theorem safetyFieldStale : ∀ a0 a1 a2 a3 a4, Statement (.safetyFieldStale a0 a1 a2 a3 a4) :=
  fun _ _ _ _ _ => ⟨unspelled _, rfl, rfl⟩

theorem tgCopyReceive : ∀ a0 a1, Statement (.tgCopyReceive a0 a1) :=
  fun _ _ => ⟨unspelled _, rfl, rfl⟩

theorem skewWindowExpire : ∀ a0, Statement (.skewWindowExpire a0) :=
  fun _ => ⟨unspelled _, rfl, rfl⟩

theorem heldCopyExpire : ∀ a0, Statement (.heldCopyExpire a0) :=
  fun _ => ⟨unspelled _, rfl, rfl⟩

theorem tgTimeout : ∀ a0, Statement (.tgTimeout a0) :=
  fun _ => ⟨unspelled _, rfl, rfl⟩

theorem connRestart : ∀ a0, Statement (.connRestart a0) :=
  fun _ => ⟨unspelled _, rfl, rfl⟩

theorem connReport : ∀ a0, Statement (.connReport a0) :=
  fun _ => ⟨unspelled _, rfl, rfl⟩

theorem barrierFrameSend : ∀ a0, Statement (.barrierFrameSend a0) :=
  fun _ => ⟨unspelled _, rfl, rfl⟩

theorem barrierSlot : ∀ a0 a1 a2 a3, Statement (.barrierSlot a0 a1 a2 a3) :=
  fun _ _ _ _ => ⟨unspelled _, rfl, rfl⟩

theorem islandFrameReceive : ∀ a0, Statement (.islandFrameReceive a0) :=
  fun _ => ⟨unspelled _, rfl, rfl⟩

theorem islandWatchdog : ∀ a0, Statement (.islandWatchdog a0) :=
  fun _ => ⟨unspelled _, rfl, rfl⟩

theorem inputSample : ∀ a0 a1, Statement (.inputSample a0 a1) :=
  fun _ _ => ⟨unspelled _, rfl, rfl⟩

theorem wireBreak : ∀ a0 a1 a2, Statement (.wireBreak a0 a1 a2) :=
  fun _ _ _ => ⟨unspelled _, rfl, rfl⟩

theorem wireBreakEnd : ∀ a0 a1, Statement (.wireBreakEnd a0 a1) :=
  fun _ _ => ⟨unspelled _, rfl, rfl⟩

theorem doOverload : ∀ a0 a1 a2, Statement (.doOverload a0 a1 a2) :=
  fun _ _ _ => ⟨unspelled _, rfl, rfl⟩

theorem doRetry : ∀ a0 a1 a2, Statement (.doRetry a0 a1 a2) :=
  fun _ _ _ => ⟨unspelled _, rfl, rfl⟩

theorem groupOverloadStep : ∀ a0 a1, Statement (.groupOverloadStep a0 a1) :=
  fun _ _ => ⟨unspelled _, rfl, rfl⟩

theorem sagOff : ∀ a0 a1, Statement (.sagOff a0 a1) :=
  fun _ _ => ⟨unspelled _, rfl, rfl⟩

theorem restoreReady : ∀ a0 a1, Statement (.restoreReady a0 a1) :=
  fun _ _ => ⟨unspelled _, rfl, rfl⟩

theorem islandLogicReset : ∀ a0, Statement (.islandLogicReset a0) :=
  fun _ => ⟨unspelled _, rfl, rfl⟩

theorem islRestore : ∀ a0 a1, Statement (.islRestore a0 a1) :=
  fun _ _ => ⟨unspelled _, rfl, rfl⟩

theorem islClearCounts : ∀ a0 a1, Statement (.islClearCounts a0 a1) :=
  fun _ _ => ⟨unspelled _, rfl, rfl⟩

theorem restoreChannelOn : ∀ a0, Statement (.restoreChannelOn a0) :=
  fun _ => ⟨unspelled _, rfl, rfl⟩

theorem doReadbackMismatch : ∀ a0 a1, Statement (.doReadbackMismatch a0 a1) :=
  fun _ _ => ⟨unspelled _, rfl, rfl⟩

theorem aiSample : ∀ a0 a1 a2, Statement (.aiSample a0 a1 a2) :=
  fun _ _ _ => ⟨unspelled _, rfl, rfl⟩

theorem txOverload : ∀ a0 a1 a2, Statement (.txOverload a0 a1 a2) :=
  fun _ _ _ => ⟨unspelled _, rfl, rfl⟩

theorem buckUpdate : ∀ a0 a1, Statement (.buckUpdate a0 a1) :=
  fun _ _ => ⟨unspelled _, rfl, rfl⟩

theorem thermalTrip : ∀ a0 a1 a2, Statement (.thermalTrip a0 a1 a2) :=
  fun _ _ _ => ⟨unspelled _, rfl, rfl⟩

theorem thermalResume : ∀ a0 a1 a2, Statement (.thermalResume a0 a1 a2) :=
  fun _ _ _ => ⟨unspelled _, rfl, rfl⟩

theorem complianceSet : ∀ a0 a1, Statement (.complianceSet a0 a1) :=
  fun _ _ => ⟨unspelled _, rfl, rfl⟩

theorem complianceClear : ∀ a0 a1, Statement (.complianceClear a0 a1) :=
  fun _ _ => ⟨unspelled _, rfl, rfl⟩

theorem compFault : ∀ a0 a1, Statement (.compFault a0 a1) :=
  fun _ _ => ⟨unspelled _, rfl, rfl⟩

theorem aoReadbackMismatch : ∀ a0 a1, Statement (.aoReadbackMismatch a0 a1) :=
  fun _ _ => ⟨unspelled _, rfl, rfl⟩

theorem trimWrite : ∀ a0 a1 a2 a3, Statement (.trimWrite a0 a1 a2 a3) :=
  fun _ _ _ _ => ⟨unspelled _, rfl, rfl⟩

theorem keyMenu : ∀ a0 a1 a2, Statement (.keyMenu a0 a1 a2) :=
  fun _ _ _ => ⟨unspelled _, rfl, rfl⟩

theorem keyUp : Statement .keyUp := ⟨unspelled _, rfl, rfl⟩

theorem keyDown : Statement .keyDown := ⟨unspelled _, rfl, rfl⟩

theorem keyEnter : Statement .keyEnter := ⟨unspelled _, rfl, rfl⟩

theorem keyEsc : Statement .keyEsc := ⟨unspelled _, rfl, rfl⟩

theorem keySessionTimeout : Statement .keySessionTimeout := ⟨unspelled _, rfl, rfl⟩

theorem keyswitchChange : ∀ a0 a1, Statement (.keyswitchChange a0 a1) :=
  fun _ _ => ⟨unspelled _, rfl, rfl⟩

theorem usbSessionOpen : Statement .usbSessionOpen := ⟨unspelled _, rfl, rfl⟩

theorem canFrameReceive : ∀ a0 a1, Statement (.canFrameReceive a0 a1) :=
  fun _ _ => ⟨unspelled _, rfl, rfl⟩

theorem canHpAck : ∀ a0 a1 a2, Statement (.canHpAck a0 a1 a2) :=
  fun _ _ _ => ⟨unspelled _, rfl, rfl⟩

theorem canTxStart : ∀ a0 a1, Statement (.canTxStart a0 a1) :=
  fun _ _ => ⟨unspelled _, rfl, rfl⟩

theorem canTxComplete : ∀ a0 a1, Statement (.canTxComplete a0 a1) :=
  fun _ _ => ⟨unspelled _, rfl, rfl⟩

theorem busOff : ∀ a0, Statement (.busOff a0) :=
  fun _ => ⟨unspelled _, rfl, rfl⟩

theorem canRecovered : ∀ a0, Statement (.canRecovered a0) :=
  fun _ => ⟨unspelled _, rfl, rfl⟩

theorem canBusOn : ∀ a0 a1, Statement (.canBusOn a0 a1) :=
  fun _ _ => ⟨unspelled _, rfl, rfl⟩

theorem canClearCounts : ∀ a0 a1, Statement (.canClearCounts a0 a1) :=
  fun _ _ => ⟨unspelled _, rfl, rfl⟩

theorem canErrorFrame : ∀ a0 a1, Statement (.canErrorFrame a0 a1) :=
  fun _ _ => ⟨unspelled _, rfl, rfl⟩

theorem ttWindowStart : ∀ a0 a1 a2, Statement (.ttWindowStart a0 a1 a2) :=
  fun _ _ _ => ⟨unspelled _, rfl, rfl⟩

theorem ttWindowMissed : ∀ a0 a1 a2, Statement (.ttWindowMissed a0 a1 a2) :=
  fun _ _ _ => ⟨unspelled _, rfl, rfl⟩

theorem canChannelActive : ∀ a0, Statement (.canChannelActive a0) :=
  fun _ => ⟨unspelled _, rfl, rfl⟩

theorem canFilterWrite : ∀ a0 a1 a2 a3 a4, Statement (.canFilterWrite a0 a1 a2 a3 a4) :=
  fun _ _ _ _ _ => ⟨unspelled _, rfl, rfl⟩

theorem ethFrameReceive : ∀ a0 a1 a2, Statement (.ethFrameReceive a0 a1 a2) :=
  fun _ _ _ => ⟨unspelled _, rfl, rfl⟩

theorem ethTxStart : ∀ a0, Statement (.ethTxStart a0) :=
  fun _ => ⟨unspelled _, rfl, rfl⟩

theorem ethTxComplete : ∀ a0, Statement (.ethTxComplete a0) :=
  fun _ => ⟨unspelled _, rfl, rfl⟩

theorem linkUp : ∀ a0, Statement (.linkUp a0) :=
  fun _ => ⟨unspelled _, rfl, rfl⟩

theorem linkDown : ∀ a0 a1, Statement (.linkDown a0 a1) :=
  fun _ _ => ⟨unspelled _, rfl, rfl⟩

theorem igmpReport : Statement .igmpReport := ⟨unspelled _, rfl, rfl⟩

theorem ethMaint : ∀ a0 a1, Statement (.ethMaint a0 a1) :=
  fun _ _ => ⟨unspelled _, rfl, rfl⟩

theorem maintSessionExpire : Statement .maintSessionExpire := ⟨unspelled _, rfl, rfl⟩

theorem ptpAnnounce : ∀ a0 a1, Statement (.ptpAnnounce a0 a1) :=
  fun _ _ => ⟨unspelled _, rfl, rfl⟩

theorem ptpSync : ∀ a0 a1, Statement (.ptpSync a0 a1) :=
  fun _ _ => ⟨unspelled _, rfl, rfl⟩

theorem delayReq : ∀ a0 a1, Statement (.delayReq a0 a1) :=
  fun _ _ => ⟨unspelled _, rfl, rfl⟩

theorem domainHoldover : ∀ a0, Statement (.domainHoldover a0) :=
  fun _ => ⟨unspelled _, rfl, rfl⟩

theorem announceTimeout : ∀ a0, Statement (.announceTimeout a0) :=
  fun _ => ⟨unspelled _, rfl, rfl⟩

theorem timRealign : ∀ a0, Statement (.timRealign a0) :=
  fun _ => ⟨unspelled _, rfl, rfl⟩

theorem ppsInEdge : Statement .ppsInEdge := ⟨unspelled _, rfl, rfl⟩

theorem ppsOutEdge : Statement .ppsOutEdge := ⟨unspelled _, rfl, rfl⟩

theorem classTimeCapture : ∀ a0 a1 a2, Statement (.classTimeCapture a0 a1 a2) :=
  fun _ _ _ => ⟨unspelled _, rfl, rfl⟩

theorem c2BackupRefresh : Statement .c2BackupRefresh := ⟨unspelled _, rfl, rfl⟩

theorem serMessageReceive : ∀ a0 a1, Statement (.serMessageReceive a0 a1) :=
  fun _ _ => ⟨unspelled _, rfl, rfl⟩

theorem serTxStart : ∀ a0, Statement (.serTxStart a0) :=
  fun _ => ⟨unspelled _, rfl, rfl⟩

theorem serTxComplete : ∀ a0 a1 a2, Statement (.serTxComplete a0 a1 a2) :=
  fun _ _ _ => ⟨unspelled _, rfl, rfl⟩

theorem pollSend : ∀ a0, Statement (.pollSend a0) :=
  fun _ => ⟨unspelled _, rfl, rfl⟩

theorem pollReturn : ∀ a0 a1 a2 a3, Statement (.pollReturn a0 a1 a2 a3) :=
  fun _ _ _ _ => ⟨unspelled _, rfl, rfl⟩

theorem outputReturn : ∀ a0 a1 a2, Statement (.outputReturn a0 a1 a2) :=
  fun _ _ _ => ⟨unspelled _, rfl, rfl⟩

theorem identReturn : ∀ a0 a1 a2, Statement (.identReturn a0 a1 a2) :=
  fun _ _ _ => ⟨unspelled _, rfl, rfl⟩

theorem stairwayTurnaround : ∀ a0 a1, Statement (.stairwayTurnaround a0 a1) :=
  fun _ _ => ⟨unspelled _, rfl, rfl⟩

theorem stairwayLinkChange : ∀ a0 a1, Statement (.stairwayLinkChange a0 a1) :=
  fun _ _ => ⟨unspelled _, rfl, rfl⟩

theorem pgnTxPost : ∀ a0 a1 a2, Statement (.pgnTxPost a0 a1 a2) :=
  fun _ _ _ => ⟨unspelled _, rfl, rfl⟩

theorem pgnRxHdrRead : ∀ a0 a1, Statement (.pgnRxHdrRead a0 a1) :=
  fun _ _ => ⟨unspelled _, rfl, rfl⟩

theorem pgnRxAck : ∀ a0 a1 a2, Statement (.pgnRxAck a0 a1 a2) :=
  fun _ _ _ => ⟨unspelled _, rfl, rfl⟩

theorem withdraw : ∀ a0 a1, Statement (.withdraw a0 a1) :=
  fun _ _ => ⟨unspelled _, rfl, rfl⟩

theorem pgnTimeout : ∀ a0, Statement (.pgnTimeout a0) :=
  fun _ => ⟨unspelled _, rfl, rfl⟩

theorem pgnTimeoutClear : ∀ a0 a1, Statement (.pgnTimeoutClear a0 a1) :=
  fun _ _ => ⟨unspelled _, rfl, rfl⟩

theorem quePiWrite : ∀ a0 a1 a2, Statement (.quePiWrite a0 a1 a2) :=
  fun _ _ _ => ⟨unspelled _, rfl, rfl⟩

theorem queDiWrite : ∀ a0 a1 a2, Statement (.queDiWrite a0 a1 a2) :=
  fun _ _ _ => ⟨unspelled _, rfl, rfl⟩

theorem queCiWrite : ∀ a0 a1 a2, Statement (.queCiWrite a0 a1 a2) :=
  fun _ _ _ => ⟨unspelled _, rfl, rfl⟩

theorem queuePoolWrite : ∀ a0 a1 a2, Statement (.queuePoolWrite a0 a1 a2) :=
  fun _ _ _ => ⟨unspelled _, rfl, rfl⟩

theorem gbEvent : Statement .gbEvent := ⟨unspelled _, rfl, rfl⟩

theorem gbRecordWrite : ∀ a0, Statement (.gbRecordWrite a0) :=
  fun _ => ⟨unspelled _, rfl, rfl⟩

theorem gbTokenRefill : ∀ a0, Statement (.gbTokenRefill a0) :=
  fun _ => ⟨unspelled _, rfl, rfl⟩

theorem gbClear : ∀ a0, Statement (.gbClear a0) :=
  fun _ => ⟨unspelled _, rfl, rfl⟩

theorem gbCursorWrite : ∀ a0 a1, Statement (.gbCursorWrite a0 a1) :=
  fun _ _ => ⟨unspelled _, rfl, rfl⟩

theorem rndStopGrant : Statement .rndStopGrant := ⟨unspelled _, rfl, rfl⟩

theorem rndStep : ∀ a0 a1 a2, Statement (.rndStep a0 a1 a2) :=
  fun _ _ _ => ⟨unspelled _, rfl, rfl⟩

theorem rndGrantClose : Statement .rndGrantClose := ⟨unspelled _, rfl, rfl⟩

theorem rndPassLate : Statement .rndPassLate := ⟨unspelled _, rfl, rfl⟩

theorem wearSample : ∀ a0 a1, Statement (.wearSample a0 a1) :=
  fun _ _ => ⟨unspelled _, rfl, rfl⟩

theorem annexInterval : ∀ a0 a1, Statement (.annexInterval a0 a1) :=
  fun _ _ => ⟨unspelled _, rfl, rfl⟩

theorem annexResultPost : Statement .annexResultPost := ⟨unspelled _, rfl, rfl⟩

theorem annexStatusPost : Statement .annexStatusPost := ⟨unspelled _, rfl, rfl⟩

theorem annexReportRepost : Statement .annexReportRepost := ⟨unspelled _, rfl, rfl⟩

theorem identIf : Statement .identIf := ⟨unspelled _, rfl, rfl⟩

theorem annexStatusLost : Statement .annexStatusLost := ⟨unspelled _, rfl, rfl⟩

theorem timeWordSend : ∀ a0, Statement (.timeWordSend a0) :=
  fun _ => ⟨unspelled _, rfl, rfl⟩

theorem annexTimeHold : Statement .annexTimeHold := ⟨unspelled _, rfl, rfl⟩

theorem annexWriteSwitch : ∀ a0, Statement (.annexWriteSwitch a0) :=
  fun _ => ⟨unspelled _, rfl, rfl⟩

theorem readParam : ∀ a0, Statement (.readParam a0) :=
  fun _ => ⟨unspelled _, rfl, rfl⟩

theorem readLog : Statement .readLog := ⟨unspelled _, rfl, rfl⟩

theorem readTotals : Statement .readTotals := ⟨unspelled _, rfl, rfl⟩

theorem writeParam : ∀ a0, Statement (.writeParam a0) :=
  fun _ => ⟨unspelled _, rfl, rfl⟩

theorem loadSoftware : ∀ a0 a1 a2 a3 a4 a5, Statement (.loadSoftware a0 a1 a2 a3 a4 a5) :=
  fun _ _ _ _ _ _ => ⟨unspelled _, rfl, rfl⟩

theorem clearLog : ∀ a0, Statement (.clearLog a0) :=
  fun _ => ⟨unspelled _, rfl, rfl⟩

theorem annexTotalsCommit : Statement .annexTotalsCommit := ⟨unspelled _, rfl, rfl⟩

theorem nbUpdateTake : Statement .nbUpdateTake := ⟨unspelled _, rfl, rfl⟩

theorem nbFrame : ∀ a0, Statement (.nbFrame a0) :=
  fun _ => ⟨unspelled _, rfl, rfl⟩

theorem nbBalancePass : Statement .nbBalancePass := ⟨unspelled _, rfl, rfl⟩

theorem nbCleanCmd : ∀ a0, Statement (.nbCleanCmd a0) :=
  fun _ => ⟨unspelled _, rfl, rfl⟩

theorem nbRefreshCmd : ∀ a0, Statement (.nbRefreshCmd a0) :=
  fun _ => ⟨unspelled _, rfl, rfl⟩

theorem nbBalanceCmd : ∀ a0, Statement (.nbBalanceCmd a0) :=
  fun _ => ⟨unspelled _, rfl, rfl⟩

theorem nbIdleScan : ∀ a0 a1, Statement (.nbIdleScan a0 a1) :=
  fun _ _ => ⟨unspelled _, rfl, rfl⟩

theorem nbRailRise : Statement .nbRailRise := ⟨unspelled _, rfl, rfl⟩

theorem nbRailFault : ∀ a0, Statement (.nbRailFault a0) :=
  fun _ => ⟨unspelled _, rfl, rfl⟩

theorem nbRailsDown : Statement .nbRailsDown := ⟨unspelled _, rfl, rfl⟩

theorem nbQuiescentCommit : Statement .nbQuiescentCommit := ⟨unspelled _, rfl, rfl⟩

theorem nbLightWrite : ∀ a0 a1, Statement (.nbLightWrite a0 a1) :=
  fun _ _ => ⟨unspelled _, rfl, rfl⟩

theorem powerInputChange : ∀ a0, Statement (.powerInputChange a0) :=
  fun _ => ⟨unspelled _, rfl, rfl⟩

theorem powerFailWarning : ∀ a0 a1, Statement (.powerFailWarning a0 a1) :=
  fun _ _ => ⟨unspelled _, rfl, rfl⟩

theorem shutdownOutputsOff : Statement .shutdownOutputsOff := ⟨unspelled _, rfl, rfl⟩

theorem shutdownMramCommit : ∀ a0 a1, Statement (.shutdownMramCommit a0 a1) :=
  fun _ _ => ⟨unspelled _, rfl, rfl⟩

theorem controlUnpowered : ∀ a0, Statement (.controlUnpowered a0) :=
  fun _ => ⟨unspelled _, rfl, rfl⟩

theorem holdupFull : ∀ a0, Statement (.holdupFull a0) :=
  fun _ => ⟨unspelled _, rfl, rfl⟩

theorem controlResetRelease : ∀ a0, Statement (.controlResetRelease a0) :=
  fun _ => ⟨unspelled _, rfl, rfl⟩

theorem shutdown : ∀ a0 a1, Statement (.shutdown a0 a1) :=
  fun _ _ => ⟨unspelled _, rfl, rfl⟩

theorem cellLow : ∀ a0, Statement (.cellLow a0) :=
  fun _ => ⟨unspelled _, rfl, rfl⟩

theorem sealChange : ∀ a0 a1, Statement (.sealChange a0 a1) :=
  fun _ _ => ⟨unspelled _, rfl, rfl⟩

theorem beaconSend : Statement .beaconSend := ⟨unspelled _, rfl, rfl⟩

theorem beacon : ∀ a0 a1 a2 a3 a4, Statement (.beacon a0 a1 a2 a3 a4) :=
  fun _ _ _ _ _ => ⟨unspelled _, rfl, rfl⟩

theorem electionWindowEnd : Statement .electionWindowEnd := ⟨unspelled _, rfl, rfl⟩

theorem electionDeferEnd : Statement .electionDeferEnd := ⟨unspelled _, rfl, rfl⟩

theorem ethJoinPoint : Statement .ethJoinPoint := ⟨unspelled _, rfl, rfl⟩

theorem encLossClear : ∀ a0, Statement (.encLossClear a0) :=
  fun _ => ⟨unspelled _, rfl, rfl⟩

theorem fastTripSupplyChange : ∀ a0, Statement (.fastTripSupplyChange a0) :=
  fun _ => ⟨unspelled _, rfl, rfl⟩

theorem safetyMonitorWarning : ∀ a0 a1, Statement (.safetyMonitorWarning a0 a1) :=
  fun _ _ => ⟨unspelled _, rfl, rfl⟩

theorem islandSupplyReturn : ∀ a0 a1, Statement (.islandSupplyReturn a0 a1) :=
  fun _ _ => ⟨unspelled _, rfl, rfl⟩

theorem txOverloadClear : ∀ a0 a1, Statement (.txOverloadClear a0 a1) :=
  fun _ _ => ⟨unspelled _, rfl, rfl⟩

theorem loopSideStop : ∀ a0 a1 a2 a3, Statement (.loopSideStop a0 a1 a2 a3) :=
  fun _ _ _ _ => ⟨unspelled _, rfl, rfl⟩

theorem aoReadbackClear : ∀ a0 a1, Statement (.aoReadbackClear a0 a1) :=
  fun _ _ => ⟨unspelled _, rfl, rfl⟩

theorem ppsInTimeout : Statement .ppsInTimeout := ⟨unspelled _, rfl, rfl⟩

theorem slewingEnd : ∀ a0, Statement (.slewingEnd a0) :=
  fun _ => ⟨unspelled _, rfl, rfl⟩

theorem gbClearComplete : Statement .gbClearComplete := ⟨unspelled _, rfl, rfl⟩

theorem annexSelfTest : ∀ a0, Statement (.annexSelfTest a0) :=
  fun _ => ⟨unspelled _, rfl, rfl⟩

theorem thermalStressUpdate : Statement .thermalStressUpdate := ⟨unspelled _, rfl, rfl⟩

end Sys2Proof.Laws.Rows
end

