-- ==== Sys2Proof/WellFormed.lean ====
section
/-!
DEFINITION. Well-formed commands: operands that the rows of the table can have. The meanings are total; a command that
is not well formed is no command of the block, and what a meaning does with it says nothing.
-/
namespace Sys2Proof

open Machine (regAt)

/-- Within the 40-bit address space (R28). -/
def inSpace (a : Nat) : Bool := decide (a < 2 ^ 40)

/-- In DRAM or in SRAM (R28): REGISTER_WRITE is a write of a register. -/
def inMemory (a : Nat) : Bool := decide (a < 0x0200000000) || (decide (0x1000000000 ≤ a) && decide (a < 0x1001000000))

/-- The _LO register of a pair (R12). -/
def isLo (a : Nat) : Bool := (regAt a).any (fun r => r.half == .lo)

/-- The _HI register of a pair (R12). -/
def isHi (a : Nat) : Bool := (regAt a).any (fun r => r.half == .hi)

/-- A register with a field that can be written. -/
def isWritable (a : Nat) : Bool := (regAt a).any (fun r => r.rw != 0)

/-- A register with a field that a read clears (R10). -/
def hasRc (a : Nat) : Bool := (regAt a).any (fun r => r.rc != 0)

/-- A CAN frame (R343): a data length of its format, and that many bytes; a remote frame has none. -/
def canWf (x : CanFrame) : Bool :=
  if x.rtr then !x.fdf && decide (x.len ≤ 15) && x.data == []
  else if x.fdf then (decide (x.len ≤ 8) || [12, 16, 20, 24, 32, 48, 64].contains x.len) && x.data.length == x.len
  else decide (x.len ≤ 8) && x.data.length == x.len

/-- The image list of an agreement is in ascending order of task (R196). -/
def ascending : List Nat → Bool
  | [] => true
  | [t] => decide (t < 16)
  | t :: u :: l => decide (t < u) && ascending (u :: l)

/-- An agreement (R196). -/
def agrWf (g : Agreement) : Bool :=
  decide (g.tick < 2 ^ 64) && decide (g.ns < 10 ^ 9) && ascending (g.images.map (fun p => p.1))

/-- An entry of RX_MIRROR names a queue, a channel or a CAN channel (R198). -/
def mirrorWf (x : Mirrored) : Bool :=
  match x.kind.val with
  | 0 => true
  | 1 => decide (x.index.val < 32)
  | _ => decide (x.index.val < 8)

/-- An entry of REG_MIRROR names a register of a block that the Banister agent reaches (R34, R199): SCN, LOOP, SLV, AX,
BAN, CAN, PGN or QUE. -/
def regMirrorWf (x : RegMirror) : Bool :=
  [3, 4, 5, 6, 7, 0xB, 0x10, 0x11].contains x.block.val && x.offset.val % 4 == 0

/-- Well-formed commands. -/
def Instr.wf : Instr → Bool
  | .registerWrite _ _ addr _ => inSpace addr && !inMemory addr
  | .buserrValidClear .. => true
  | .loReadLatch _ w addr => isLo addr && (w == .w32 || w == .w64)
  | .loWriteStage _ addr _ => isLo addr && isWritable addr
  | .hiWriteApply _ addr _ => isHi addr && isWritable addr
  | .rcReadClear _ addr => hasRc addr
  | .accessTimeout _ _ addr => inSpace addr && addr % 4 == 0
  | .unitWake .. => true
  | .unitGateEntry .. => true
  | .eccCorrectable addr _ => inSpace addr
  | .uncorrectableEcc => true
  | .lockstepMismatch => true
  | .watchdogExpiry => true
  | .fplVerify .. => true
  | .fplStore .. => true
  | .fplSoftApply .. => true
  | .fplOperationComplete => true
  | .bootLoad => true
  | .softSectionLanding .. => true
  | .baseTick => true
  | .executeReturn .. => true
  | .taskTrap .. => true
  | .commit .. => true
  | .scnRun .. => true
  | .scnHold .. => true
  | .scnStop .. => true
  | .scnRestart .. => true
  | .olcVerify .. => true
  | .olcVerifyDone => true
  | .olcArm .. => true
  | .olcCancel .. => true
  | .olcSwap => true
  | .forceSet .. => true
  | .forceRelease .. => true
  | .forceReleaseAll .. => true
  | .loopTick .. => true
  | .loopCommit .. => true
  | .loopDiscard .. => true
  | .loopInit .. => true
  | .solverTake .. => true
  | .solverIteration .. => true
  | .solverComplete => true
  | .slotClear .. => true
  | .slotClearAll .. => true
  | .solverPowerGate => true
  | .stepBoundary deltas => deltas.length == 8
  | .vlimStage .. => true
  | .encLoss .. => true
  | .encErr .. => true
  | .enSettleElapsed .. => true
  | .stillDelayElapsed .. => true
  | .axisResume .. => true
  | .heartbeatSend => true
  | .heartbeat .. => true
  | .banisterFrameDiscard .. => true
  | .role .. => true
  | .nak _ seqs => decide (seqs.length ≤ 256)
  | .handshakeTimeout => true
  | .agreement _ g => agrWf g
  | .agreeAck _ tick _ => decide (tick < 2 ^ 64)
  | .rxMirror _ entries => entries.all mirrorWf
  | .mirrorAck .. => true
  | .regMirror _ entries => entries.all regMirrorWf
  | .digest _ _ _ _ cycle _ => decide (cycle < 2 ^ 64)
  | .digestMissing .. => true
  | .strictDigestTimeout .. => true
  | .loopSamples .. => true
  | .axisCounts _ counts _ _ => counts.length == 8
  | .solverPermit .. => true
  | .missingFrameDemote .. => true
  | .inquiryResult .. => true
  | .inquiryTimeout => true
  | .banHandover .. => true
  | .rearmReadback .. => true
  | .rearmAll .. => true
  | .forceTakeover .. => true
  | .handover _ x => x.cycles.length == 16 && decide (x.rxSeq < 2 ^ 32)
  | .driving .. => true
  | .rampStart => true
  | .rampEnd => true
  | .released .. => true
  | .barrierBackstop => true
  | .takeoverInstant .. => true
  | .laneLost .. => true
  | .laneRestored .. => true
  | .plantHeartbeatSend => true
  | .plantHeartbeat .. => true
  | .laneLossTakeover => true
  | .joinStart => true
  | .joinRetry => true
  | .joinRequest _ _ _ _ sdig pdig => sdig.length == 32 && pdig.length == 32
  | .joinRequestResend => true
  | .joinAnswer _ _ _ _ l => l.all (fun n => decide (n < 2 ^ 64))
  | .hamperSend => true
  | .hamper _ _ _ offset total _ _ => decide (offset < 2 ^ 32) && decide (total < 2 ^ 32)
  | .hamperAck .. => true
  | .logEntry .. => true
  | .replayCycle .. => true
  | .caughtUp _ pos => decide (pos < 2 ^ 64)
  | .topup .. => true
  | .joinTick => true
  | .joined .. => true
  | .banJoin .. => true
  | .upgradeAdmit .. => true
  | .upgradeAdmitLapse => true
  | .abandonUpgrade .. => true
  | .banSwap .. => true
  | .swap _ landing => decide (landing < 2 ^ 64)
  | .swapLanding => true
  | .ready .. => true
  | .latentLimitReached => true
  | .safetyCycle x => x.payloads.all (fun p => decide (p.1 < 64))
  | .safetyWatchdogExpiry .. => true
  | .supervisorForce .. => true
  | .safetyBootComplete .. => true
  | .safetyAdoptComplete => true
  | .ftiChange .. => true
  | .trpReqWrite .. => true
  | .firstOutRearm .. => true
  | .ctrlHbLost => true
  | .darkTest .. => true
  | .killLineChange .. => true
  | .testPulseOff .. => true
  | .testPulseSample .. => true
  | .excursionExpire .. => true
  | .excursionStore => true
  | .safReturn .. => true
  | .safReset .. => true
  | .returnMatrix .. => true
  | .returnCheckEnd .. => true
  | .matrixCheckEnd => true
  | .safetyFieldStale .. => true
  | .tgCopyReceive .. => true
  | .skewWindowExpire .. => true
  | .heldCopyExpire .. => true
  | .tgTimeout .. => true
  | .connRestart .. => true
  | .connReport .. => true
  | .barrierFrameSend .. => true
  | .barrierSlot _ _ _ field => field.ao.length == 8
  | .islandFrameReceive .. => true
  | .islandWatchdog .. => true
  | .inputSample _ smp => smp.length == 8
  | .wireBreak .. => true
  | .wireBreakEnd .. => true
  | .doOverload .. => true
  | .doRetry .. => true
  | .groupOverloadStep .. => true
  | .sagOff .. => true
  | .restoreReady .. => true
  | .islandLogicReset .. => true
  | .islRestore .. => true
  | .islClearCounts .. => true
  | .restoreChannelOn .. => true
  | .doReadbackMismatch .. => true
  | .aiSample .. => true
  | .txOverload .. => true
  | .buckUpdate .. => true
  | .thermalTrip .. => true
  | .thermalResume .. => true
  | .complianceSet .. => true
  | .complianceClear .. => true
  | .compFault .. => true
  | .aoReadbackMismatch .. => true
  | .trimWrite .. => true
  | .keyMenu .. => true
  | .keyUp => true
  | .keyDown => true
  | .keyEnter => true
  | .keyEsc => true
  | .keySessionTimeout => true
  | .keyswitchChange .. => true
  | .usbSessionOpen => true
  | .canFrameReceive _ x => canWf x
  | .canHpAck .. => true
  | .canTxStart .. => true
  | .canTxComplete .. => true
  | .busOff .. => true
  | .canRecovered .. => true
  | .canBusOn .. => true
  | .canClearCounts .. => true
  | .canErrorFrame .. => true
  | .ttWindowStart .. => true
  | .ttWindowMissed .. => true
  | .canChannelActive .. => true
  | .canFilterWrite .. => true
  | .ethFrameReceive .. => true
  | .ethTxStart .. => true
  | .ethTxComplete .. => true
  | .linkUp .. => true
  | .linkDown .. => true
  | .igmpReport => true
  | .ethMaint .. => true
  | .maintSessionExpire => true
  | .ptpAnnounce .. => true
  | .ptpSync .. => true
  | .delayReq .. => true
  | .domainHoldover .. => true
  | .announceTimeout .. => true
  | .timRealign .. => true
  | .ppsInEdge => true
  | .ppsOutEdge => true
  | .classTimeCapture .. => true
  | .c2BackupRefresh => true
  | .serMessageReceive .. => true
  | .serTxStart .. => true
  | .serTxComplete _ sent _ => decide (sent ≤ 480)
  | .pollSend .. => true
  | .pollReturn .. => true
  | .outputReturn .. => true
  | .identReturn .. => true
  | .stairwayTurnaround .. => true
  | .stairwayLinkChange .. => true
  | .pgnTxPost .. => true
  | .pgnRxHdrRead .. => true
  | .pgnRxAck .. => true
  | .withdraw .. => true
  | .pgnTimeout .. => true
  | .pgnTimeoutClear .. => true
  | .quePiWrite .. => true
  | .queDiWrite .. => true
  | .queCiWrite .. => true
  | .queuePoolWrite _ off bs => decide (off.val + bs.length ≤ 0x400000)
  | .gbEvent => true
  | .gbRecordWrite .. => true
  | .gbTokenRefill .. => true
  | .gbClear .. => true
  | .gbCursorWrite .. => true
  | .rndStopGrant => true
  | .rndStep .. => true
  | .rndGrantClose => true
  | .rndPassLate => true
  | .wearSample .. => true
  | .annexInterval pulses currents => pulses.length == 4 && currents.length == 4
  | .annexResultPost => true
  | .annexStatusPost => true
  | .annexReportRepost => true
  | .identIf => true
  | .annexStatusLost => true
  | .timeWordSend .. => true
  | .annexTimeHold => true
  | .annexWriteSwitch .. => true
  | .readParam .. => true
  | .readLog => true
  | .readTotals => true
  | .writeParam changes => changes.all (fun c => c.key.length == 32)
  | .loadSoftware .. => true
  | .clearLog hash => hash.length == 32
  | .annexTotalsCommit => true
  | .nbUpdateTake => true
  | .nbFrame .. => true
  | .nbBalancePass => true
  | .nbCleanCmd .. => true
  | .nbRefreshCmd .. => true
  | .nbBalanceCmd .. => true
  | .nbIdleScan .. => true
  | .nbRailRise => true
  | .nbRailFault .. => true
  | .nbRailsDown => true
  | .nbQuiescentCommit => true
  | .nbLightWrite .. => true
  | .powerInputChange .. => true
  | .powerFailWarning .. => true
  | .shutdownOutputsOff => true
  | .shutdownMramCommit .. => true
  | .controlUnpowered .. => true
  | .holdupFull .. => true
  | .controlResetRelease .. => true
  | .shutdown .. => true
  | .cellLow .. => true
  | .sealChange .. => true
  | .beaconSend => true
  | .beacon .. => true
  | .electionWindowEnd => true
  | .electionDeferEnd => true
  | .ethJoinPoint => true
  | .encLossClear .. => true
  | .fastTripSupplyChange .. => true
  | .safetyMonitorWarning .. => true
  | .islandSupplyReturn .. => true
  | .txOverloadClear .. => true
  | .loopSideStop .. => true
  | .aoReadbackClear .. => true
  | .ppsInTimeout => true
  | .slewingEnd .. => true
  | .gbClearComplete => true
  | .annexSelfTest .. => true
  | .thermalStressUpdate => true

end Sys2Proof
end

