-- ==== Sys2Proof/Tests/Slice0.lean ====
section
/-!
SUPPORT. Tests: the well-formedness checks refuse ill-formed commands; single commands on small states with results
taken from the spec's tables and examples; and for every statement that has hypotheses a state and operands that meet
them.
-/
namespace Sys2Proof.Machine
set_option Elab.async false


/-! ### Small states -/

/-- Out of reset, the service port in a session, no image locked yet. -/
def awake : State := { State.reset with power := { State.reset.power with running := true }, usb := true }
/-- Out of reset and locked, in control with no peer. -/
def live : State := ((awake.wr Reg.FPL_STAT_STATE 3).wr Reg.FPL_STAT_BUSY 0).wr Reg.BAN_STAT_ROLE 1
/-- In another role. -/
def as_ (role : Nat) : State := live.wr Reg.BAN_STAT_ROLE role
/-- A plan is locked. -/
def planned (l : List Section) (s : State := live) : State := { s with fpl := { s.fpl with plan := l } }
/-- Axis 2 without an encoder and axis 3 with one. -/
def oneAxis : State := planned [⟨0x8022, 2, [2]⟩, ⟨0x8022, 3, List.replicate 64 1⟩]
/-- LOOPS defines loop 0. -/
def oneLoop : State := planned [⟨0x8021, 0, [1, 0, 0, 0, 0, 0, 0, 0] ++ List.replicate 32 0⟩]
/-- Queue 1 of 4 entries of 64 bytes from producer 1 to consumer `c`, with one entry posted. -/
def oneQueue (c : Nat) : State :=
  (planned [⟨0x8031, 0, List.replicate 8 0 ++ [1, BitVec.ofNat 8 c, 6, 2, 0, 0, 0, 0]⟩]).wr (Reg.QUE_PI 1) 1
/-- A Solver with a request waiting on solver queue 0. -/
def solving : State :=
  (((oneQueue 10)).wr (Reg.SLV_QUEUE_VALID 0) 1).wr (Reg.SLV_QUEUE_QUE 0) 1
/-- Island 1 with its logic running and channel 2 of a personality. -/
def field (pers : Nat) (h : IslChan) : State :=
  { live with isl := [(1, { alive := true, kill := false, fs := false, params := [(32, { val := pers, no := 0, applied := some pers })], chans := [(2, h)] })] }
def hoOld : Handover := { old := true, trigger := 7, before := 2, at_ := 0, lastC := 0 }
/-- Task 2, strict. -/
def strictTask : State :=
  planned [⟨0x8020, 0, leBytes 8 1 ++ [2, 0, 0, 0, 1, 0, 0, 0, 0, 0, 0, 0, 0, 0, 1, 0] ++ List.replicate 16 0⟩]
/-- A module of a pair, alone in control, with the link up. -/
def plannedPair : State := planned [⟨0x8001, 0, [0, 0, 0, 0, 1]⟩]
/-- A cold module of a pair. -/
def cold : State := plannedPair.wr Reg.BAN_STAT_ROLE 4
/-- A module with a join in progress: the cold one, or the one in control. -/
def joining (j : Join) : State :=
  let s := if j.active then plannedPair else cold
  { s with ban := { s.ban with join := some j } }
def swapJoin : Join := { active := true, upgrade := true }
/-- Task 2, with a period of 500 base ticks, is the only task, and runs. -/
def swappable : State :=
  let s := planned [⟨0x8001, 0, [0, 0, 0, 0, 1]⟩,
    ⟨0x8020, 0, leBytes 8 1 ++ [2, 0, 0, 0, 0xF4, 1] ++ List.replicate 26 0⟩]
  let s := ((s.wr Reg.SCN_STAT_FORCE_PERMIT 1).wr (Reg.SCN_TASK_STAT_STATE 2) taskRunning).setPhase phUpgrade
  { s with scn := { s.scn with origin := some 0, lastTick := some 0 }, ban := { s.ban with join := some swapJoin } }
/-- The safety domain powered, in a state. -/
def safety (st : Nat) : State := ({ live with saf := { live.saf with powered := true } } : State).wr Reg.SAF_STAT_STATE st
def safCyc : SafCycle :=
  { ittA := 0, ittB := 0, demA := 0, demB := 0, resetA := 0, resetB := 0, selfA := true, selfB := true, planeA := true,
    planeB := true, affected := 0, discrep := none, payloads := [] }
def analogPlan : List Section :=
  [⟨0x8010, 1, List.replicate 40 0 ++ [4] ++ List.replicate 100 0⟩, ⟨0x8011, 0, leBytes 8 1 ++ [6, 0, 2] ++ List.replicate 13 0⟩]
/-- Channel 2 of island 1 is a 4-20 mA input, and a panel with a strip is fitted. -/
def analog : State := ((planned analogPlan)).wr (Reg.ISL_STAT_BARRIER_FAULT 1) 0
/-- A plan with a CAN FD channel 1, Ethernet ports 0 and 5, a serial port 3 and a Stairway link 2, on queues 1 to 3,
each with one entry posted that passes its port's checks. -/
def commPlan : List Section :=
  [⟨0x8011, 0, leBytes 8 5 ++ [2, 1, 1, 15, 0, 0, 0, 0, 0, 0, 0, 0, 1, 1, 1, 0]
      ++ [1, 0, 1, 0, 0, 2, 0, 0, 0, 0, 0, 0, 0, 0, 0, 0] ++ [1, 5, 1, 0, 0, 2, 0, 0, 0, 0, 0, 0, 0, 0, 0, 0]
      ++ [4, 3, 1, 0, 0, 0, 0, 0, 0, 0, 0, 3, 8, 0, 0, 0] ++ [5, 2, 1, 0, 2, 1, 4, 4, 100, 0, 0, 0, 0, 0, 0, 0]⟩,
   ⟨0x8031, 0, List.replicate 8 0 ++ [1, 0x20, 7, 2, 0, 0, 0, 0] ++ [1, 0x21, 11, 2, 0, 0, 0, 0] ++ [1, 0x22, 9, 2, 0, 0, 0, 0]⟩,
   ⟨0x8040, 1, [0, 0, 0, 0, 1] ++ List.replicate 17 0 ++ [1, 0]⟩]
def comms : State :=
  let s := (((((planned commPlan).wr (Reg.QUE_PI 1) 1).wr (Reg.QUE_PI 2) 1).wr (Reg.QUE_PI 3) 1).wr Reg.ETH_STAT_LINK 33).wr
    Reg.ETH_STAT_JOINED 33
  let s := ((s.wr (Reg.QUE_ADDR 1) 1).wr (Reg.QUE_ADDR 2) 2).wr (Reg.QUE_ADDR 3) 3
  (s.setBytes (s.entryAddr 2 0) ([60] ++ List.replicate 43 0 ++ [8, 0])).setBytes (s.entryAddr 3 0) [1]
def flying : State := { comms with can := [(1, { flight := some { queue := 1, stamp := 0 } })] }
/-- Channel 1 is active and its first window is due. -/
def windows : State := (comms.wr (Reg.CAN_STAT_STATE 1) canActive).wr Reg.TIM_STAT_C1_VALID 1
/-- The entry of queue 1 is committed for the window. -/
def eligible : State := { windows with can := [(1, { elig := [(1, 1)] })] }
def canX : CanFrame := { ide := false, fdf := false, brs := false, rtr := false, esi := false, id := 0, len := 0, data := [] }
def gm : PtpMaster := { port := 0, identity := 7, prio1 := 0, cls := 0, accuracy := 0, variance := 0, prio2 := 0, steps := 0 }
/-- Ethernet port 0 with PTP, joined. -/
def ptp : State :=
  (planned [⟨0x8011, 0, leBytes 8 1 ++ [1, 0, 1, 4, 0, 2, 0, 0, 0, 0, 0, 0, 0, 0, 0, 0]⟩]).wr Reg.ETH_STAT_JOINED 1
def timed : State := planned [⟨0x8050, 0, [0, 0, 0, 0, 0, 1, 0, 0, 1]⟩]
def stairs : State := planned commPlan
/-- Channel 1 goes from core 0 to core 1. -/
def pigeon : State := planned [⟨0x8030, 0, List.replicate 16 0 ++ [1, 2, 4] ++ List.replicate 13 0⟩]
def mail : PgnMsg := { len := 4, kind := 5, seq := 1, param := 0, payload := [1, 2, 3, 4], visible := true }
def pigeonMail : State := { pigeon with pgn := [(1, { msgs := [mail] })] }
def event : GbEvent := { code := 0x0F06, source := 0, p1 := 1, p2 := 2, p3 := 3, at_ := 0, optime := 0, pcycle := 0 }
/-- The safety section has one connection, 9, which receives on both networks. -/
def telegrams : State :=
  let s := safety 2
  { s with saf := { s.saf with section_ := List.replicate 16 0 ++ [0, 0, 1, 0] ++ List.replicate 940 0 ++ [9, 1, 3] ++ List.replicate 29 0 } }
def telegram : List Byte := List.replicate 24 0 ++ leBytes 4 (crc32c (List.replicate 32 0))
def annex : State :=
  { live with anx := { live.anx with powered := true } }
/-- A panel with a frontlight, its updates on queue 1, on which one is posted. -/
def panel : State :=
  ((planned [⟨0x8011, 0, leBytes 8 1 ++ [6, 0, 1, 0, 128, 0, 128, 0, 0, 0, 10, 0, 50, 1, 0, 0]⟩,
    ⟨0x8031, 0, List.replicate 8 0 ++ [1, 0x28, 6, 2, 1, 0, 0, 0]⟩])).wr (Reg.QUE_PI 1) 1
def panelClean : State := panel.setBytes (panel.entryAddr 1 0) [1, 3]
def panelUp : State := panel.wr Reg.NB_STAT_RAILS_UP 1
/-- A waveform runs on the first pixel. -/
def driving : State := { panelUp with nb := { panelUp.nb with pix := [(0, { wave := some { codes := [1], tgt := 3, band := 0, upd := none } })] } }
/-- An area of 2 by 1 pixels is posted. -/
def panelArea : State :=
  panel.setBytes (panel.entryAddr 1 0) ([1, 1, 0, 0, 0, 0, 64, 0, 2, 0, 1, 0, 1, 0, 0, 0] ++ leBytes 8 poolBase)
def powered : State :=
  let s := (live.wr Reg.PWR_STAT_IN_A 1).wr Reg.PWR_STAT_HOLDUP_OK 1
  { s with power := { s.power with mainOn := true } }
def warned : State := powered.wr Reg.PWR_STAT_PF_WARN 1
def booting : State := awake.wr Reg.BAN_STAT_ROLE 7
def input (present : Bool) (mV : BitVec 16) : PowerInput := ⟨false, present, mV, 0, ⟨1000, 100⟩, false, 0⟩
/-- A good frame, the next after `n` or the first. -/
def frameAt (n : Nat) : Arrival := { lane := 0, seq := BitVec.ofNat 32 n, more := 0, sent := 0, good := true }
def frame : Arrival := frameAt 1

theorem runs {o : Host.Outcome State Fault Refusal} (h : (match o with | .next _ => true | _ => false) = true) :
    ∃ t, o = .next t := by
  cases o with
  | next t => exact ⟨t, rfl⟩
  | _ => cases h
theorem runsTo {o : Host.Outcome State Fault Refusal} {P : State → Prop} [DecidablePred P]
    (h : (match o with | .next t => decide (P t) | _ => false) = true) : ∃ t, o = .next t ∧ P t := by
  cases o with
  | next t => exact ⟨t, rfl, of_decide_eq_true h⟩
  | _ => cases h

/-! ### Well-formedness refuses (one ill-formed command for each check) -/

theorem test_wf_registerWrite_space : Instr.wf (.registerWrite (.apc 0) .w32 (2 ^ 40) 0) = false := by decide +kernel
theorem test_wf_registerWrite_memory : Instr.wf (.registerWrite (.apc 0) .w32 0x1000000000 0) = false := by decide +kernel
theorem test_wf_loReadLatch_half : Instr.wf (.loReadLatch .debug .w32 Reg.TIM_FRC_HI.addr) = false := by decide +kernel
theorem test_wf_loReadLatch_width : Instr.wf (.loReadLatch .debug .w8 Reg.TIM_FRC_LO.addr) = false := by decide +kernel
theorem test_wf_loWriteStage : Instr.wf (.loWriteStage .debug Reg.TIM_FRC_LO.addr 0) = false := by decide +kernel
theorem test_wf_hiWriteApply : Instr.wf (.hiWriteApply .debug Reg.TIM_FRC_HI.addr 0) = false := by decide +kernel
theorem test_wf_rcReadClear : Instr.wf (.rcReadClear .debug sysCapsAddr) = false := by decide +kernel
theorem test_wf_accessTimeout : Instr.wf (.accessTimeout .debug true 0x2000000002) = false := by decide
theorem test_wf_eccCorrectable : Instr.wf (.eccCorrectable (2 ^ 40) 0) = false := by decide
theorem test_wf_stepBoundary : Instr.wf (.stepBoundary [0]) = false := by decide
theorem test_wf_nak : Instr.wf (.nak frame (List.replicate 257 0)) = false := by decide +kernel
theorem test_wf_agreement : Instr.wf (.agreement frame ⟨0, 0, 0, 0, [], [], [(2, []), (1, [])]⟩) = false := by decide
theorem test_wf_agreeAck : Instr.wf (.agreeAck frame (2 ^ 64) 0) = false := by decide
theorem test_wf_rxMirror : Instr.wf (.rxMirror frame [⟨1, 32, 0, []⟩]) = false := by decide
theorem test_wf_regMirror : Instr.wf (.regMirror frame [⟨0, 0, 0, 0⟩]) = false := by decide
theorem test_wf_digest : Instr.wf (.digest frame 0 false false (2 ^ 64) 0) = false := by decide
theorem test_wf_axisCounts : Instr.wf (.axisCounts frame [] 0 0) = false := by decide
theorem test_wf_handover : Instr.wf (.handover frame ⟨1, [], 0⟩) = false := by decide
theorem test_wf_joinRequest : Instr.wf (.joinRequest frame 0 0 0 [] []) = false := by decide
theorem test_wf_joinAnswer : Instr.wf (.joinAnswer frame 0 false 0 (some (2 ^ 64))) = false := by decide
theorem test_wf_hamper : Instr.wf (.hamper frame 0 0 (2 ^ 32) 0 false []) = false := by decide
theorem test_wf_caughtUp : Instr.wf (.caughtUp frame (2 ^ 64)) = false := by decide
theorem test_wf_swap : Instr.wf (.swap frame (2 ^ 64)) = false := by decide
theorem test_wf_safetyCycle :
    Instr.wf (.safetyCycle ⟨0, 0, 0, 0, 0, 0, true, true, true, true, 0, none, [(64, [], [])]⟩) = false := by decide
theorem test_wf_barrierSlot : Instr.wf (.barrierSlot 0 true 0 ⟨0, 0, []⟩) = false := by decide
theorem test_wf_inputSample : Instr.wf (.inputSample 0 []) = false := by decide
theorem test_wf_canFrame : Instr.wf (.canFrameReceive 0 ⟨false, true, false, false, false, 0, 9, List.replicate 9 0⟩) = false := by
  decide
theorem test_wf_serTxComplete : Instr.wf (.serTxComplete 0 481 false) = false := by decide
theorem test_wf_queuePoolWrite : Instr.wf (.queuePoolWrite .debug 0x3FFFFF [0, 0]) = false := by decide
theorem test_wf_annexInterval : Instr.wf (.annexInterval [] []) = false := by decide
theorem test_wf_writeParam : Instr.wf (.writeParam [⟨0, 0, []⟩]) = false := by decide
theorem test_wf_clearLog : Instr.wf (.clearLog []) = false := by decide

/-! ### The spec's worked examples, step by step -/

/-- The four queues of the worked example of spec file 16, with the indices of queue 4 before the writes. -/
def ferry (pi_ di ri ci : Nat) : State :=
  let z (n : Nat) : List Byte := List.replicate (8 * n) 0
  let s := planned [⟨0x8031, 0, z 3 ++ [0x20, 1, 7, 6, 0, 0, 0, 0] ++ [1, 0x20, 7, 4, 1, 0, 0, 0] ++ z 5 ++
    [1, 0x0A, 8, 3, 1, 0, 0, 0] ++ z 9 ++ [0x20, 1, 11, 8, 0, 0, 0, 0] ++ z 43⟩]
  (((s.wr (Reg.QUE_PI 4) pi_).wr (Reg.QUE_DI 4) di).wr (Reg.QUE_RI 4) ri).wr (Reg.QUE_CI 4) ci

/-- Spec file 16, worked example: where the rings are placed, and the entry at index 0xFFFF_FFF8. -/
theorem test_queue_rings : [20, 3, 4, 10].map (ferry 0 0 0 0).ringAddr = [0x1000C00000, 0x1000C80000, 0x1000C82000, 0x1000C82800] ∧
    (ferry 0 0 0 0).entryAddr 4 0xFFFFFFF8 = 0x1000C82400 := by decide +kernel
/-- Spec file 16, worked example: all 16 entries are posted. -/
theorem test_queue_post : ∃ t, exec (.quePiWrite (.apc 0) 4 8) (ferry 0xFFFFFFF8 0xFFFFFFF8 0xFFFFFFF8 0xFFFFFFF8) = .next t ∧
    (t.quePi 4 = 8 ∧ t.resp.status = Sta.ok ∧ t.queFill 4 = 16) := runsTo (by decide +kernel)
/-- Spec file 16, worked example: a further one is refused. -/
theorem test_queue_full : ∃ t, exec (.quePiWrite (.apc 0) 4 9) (ferry 8 0xFFFFFFF8 0xFFFFFFF8 0xFFFFFFF8) = .next t ∧
    (t.quePi 4 = 8 ∧ t.rd (Reg.QUE_STAT_LAST 4) = Sta.rejectedFull ∧ t.rd (Reg.QUE_STAT_REJECTS 4) = 1 ∧
      t.gb.queue.getLast?.map (fun e => e.code) = some 0x0F10) := runsTo (by decide +kernel)
/-- Spec file 16, worked example: CI may not pass RI. -/
theorem test_queue_past_ri :
    ∃ t, exec (.queCiWrite (.apc 0) 4 0xFFFFFFFC) (ferry 8 0xFFFFFFFB 0xFFFFFFFB 0xFFFFFFF8) = .next t ∧
    (t.queCi 4 = 0xFFFFFFF8 ∧ t.resp.status = Sta.busError ∧ t.gb.queue.getLast?.map (fun e => e.code) = some 0x0F11) :=
  runsTo (by decide +kernel)
/-- Spec file 16, worked example: up to RI it is accepted, and leaves a space of 3. -/
theorem test_queue_consume :
    ∃ t, exec (.queCiWrite (.apc 0) 4 0xFFFFFFFB) (ferry 8 0xFFFFFFFB 0xFFFFFFFB 0xFFFFFFF8) = .next t ∧
    (t.queCi 4 = 0xFFFFFFFB ∧ 16 - t.queFill 4 = 3) := runsTo (by decide +kernel)
/-- R12: the read of the low half latches the high half for that master. -/
theorem test_latch : ∃ t, exec (.loReadLatch (.apc 0) .w32 Reg.TIM_FRC_LO.addr) { awake with frc := 0x1FFFFFFFE } = .next t ∧
    (t.resp.data = 0xFFFFFFFE ∧ Tab.get t.latch (latchKey (.apc 0) Reg.TIM_FRC_HI.addr) = 1 ∧
      Tab.get t.latch (latchKey (.apc 1) Reg.TIM_FRC_HI.addr) = 0) := runsTo (by decide +kernel)
/-- Spec file 04, worked example: the tuning set, with the shift of KP. -/
def pressure (sp : Nat) : TuneSet :=
  [824633721, 2061584, 1851279007, 1421782277, 1, 0, 0, 0, 0, 0, sp + 31 * 2 ^ 5 + 31 * 2 ^ 10 + 29 * 2 ^ 15, 0, 4000000, 20000000,
    0, 0, 0, 0]
/-- Spec file 04, worked example: one tick at the limit holds the integrator. -/
theorem test_loop_tick : loopAuto (pressure 31) ⟨19950000, 250000, -7100000, 20000000⟩ ⟨10000000, 7000000, 0, 0, 0, 0⟩ false false =
    (⟨19950000, 480345, -7000000, 20000000⟩, { intHeld := true, limHi := true }) := by decide +kernel
/-- Spec file 04, worked example: the shift of KP set wrongly. -/
theorem test_loop_shift : loopP (pressure 7) ⟨10000000, 7000000, 0, 0, 0, 0⟩ = 19327352835938 ∧
    (loopAuto (pressure 7) ⟨19950000, 250000, -7100000, 20000000⟩ ⟨10000000, 7000000, 0, 0, 0, 0⟩ false false).2.accSat = true := by
  decide +kernel
/-- R272: the published check value of CRC-32C over the digits 1 to 9. -/
theorem test_crc32c : crc32c [0x31, 0x32, 0x33, 0x34, 0x35, 0x36, 0x37, 0x38, 0x39] = 0xE3069283 := by decide +kernel

/-! ### Witnesses of the statements' hypotheses -/

theorem test_witness_StepRunsTheFrontCommand :
    ∃ (s : State) (c : Instr) (rest : List Instr), s.pending = c :: rest :=
  ⟨{ State.reset with pending := [.lockstepMismatch] }, .lockstepMismatch, [], rfl⟩

theorem test_witness_StepWithoutACommandIdles :
    ∃ s : State, s.pending = [] :=
  ⟨State.reset, rfl⟩

theorem test_witness_StepKeepsSound :
    ∃ s t : State, s.sound = true ∧ step s = .next t :=
  ⟨State.reset, State.reset, by decide +kernel, rfl⟩

theorem test_witness_SysCapsNeverChanges :
    (∃ s t : State, step s = .next t) ∧ (∃ (s : State) (m : Master), s.issued m = true) :=
  ⟨⟨State.reset, State.reset, rfl⟩, ⟨awake, .annex, by decide +kernel⟩⟩

theorem test_witness_CommandsChangeOnlyTheirParts :
    ∃ (c : Instr) (s t : State), exec c s = .next t :=
  ⟨.readLog, State.reset, runs (by decide +kernel)⟩

theorem test_witness_MemoryChangesOnlyWhereStored :
    (∃ (c : Instr) (s : State), .mem ∉ mayChange c ∧ ∃ t, exec c s = .next t) ∧ (∃ (m : Master) (off : Fin 0x400000) (bs : List Byte) (s t : State), exec (.queuePoolWrite m off bs) s = .next t) ∧ (∃ (addr : Nat) (syndrome : Byte) (s t : State), exec (.eccCorrectable addr syndrome) s = .next t) :=
  ⟨⟨.readLog, State.reset, by decide, runs (by decide +kernel)⟩, ⟨.debug, 0, [], State.reset, runs (by decide +kernel)⟩, ⟨0, 0, State.reset, runs (by decide +kernel)⟩⟩

theorem test_witness_RegistersBesideTheirsAreKept :
    ∃ (s t : State), exec .electionDeferEnd s = .next t :=
  ⟨State.reset, runs (by decide +kernel)⟩

theorem test_witness_CaptureHoldsTheFirstError :
    (∃ (s : State) (m : Master) (w : Width) (addr st code : Nat), s.issued m = true ∧ s.checkAccess m w true addr = some (st, code) ∧ s.on Reg.SYS_BUSERR_STAT_VALID = false) ∧ (∃ (s : State) (m : Master) (w : Width) (addr st code : Nat), s.issued m = true ∧ s.checkAccess m w true addr = some (st, code) ∧ s.on Reg.SYS_BUSERR_STAT_VALID = true) ∧ (∃ (s : State) (m : Master) (value : Word), s.allows m .w32 true Reg.SYS_BUSERR_STAT.addr ∧ value.getLsbD 31 = true) :=
  ⟨⟨awake, .apc 0, .w32, 0x2000190000, Sta.busError, 0x0101, by decide +kernel⟩, ⟨awake.wr Reg.SYS_BUSERR_STAT_VALID 1, .apc 0, .w32, 0x2000190000, Sta.busError, 0x0101, by decide +kernel⟩, ⟨awake, .apc 0, 0x80000000, by decide +kernel⟩⟩

theorem test_witness_RefusedAccessesHaveNoEffect :
    (∃ (s : State) (m : Master) (w : Width) (addr st code : Nat) (value : Word), s.issued m = true ∧ s.checkAccess m w true addr = some (st, code) ∧ ∃ t, exec (.registerWrite m w addr value) s = .next t) ∧ (∃ (s : State) (m : Master), s.issued m = false) :=
  ⟨⟨awake, .apc 0, .w32, 0x2000190000, Sta.busError, 0x0101, 0, by decide +kernel, by decide +kernel, runs (by decide +kernel)⟩, ⟨State.reset, .debug, by decide +kernel⟩⟩

theorem test_witness_LatchesAreEachMastersOwn :
    (∃ (s : State) (m m' : Master) (w : Width) (addr a : Nat), m' ≠ m ∧ a < 2 ^ 40 ∧ addr < 2 ^ 40 - 4 ∧ ∃ t, exec (.loReadLatch m w addr) s = .next t) ∧ (∃ (s : State) (m : Master), s.allows m .w32 false Reg.TIM_FRC_HI.addr) :=
  ⟨⟨State.reset, .debug, .annex, .w32, 0, 0, by decide, by decide, by decide, runs (by decide +kernel)⟩, ⟨awake, .apc 1, by decide +kernel⟩⟩

theorem test_witness_TheCounterNeverGoesBack :
    (∃ s : State, s.power.running = true ∧ ∃ t, step s = .next t ∧ t.power.running = true) ∧ (∃ (us : Fin 15001) (s : State), s.power.running = false ∧ ∃ t, exec (.controlResetRelease us) s = .next t ∧ t.power.running = true) :=
  ⟨⟨awake, by decide +kernel, runsTo (by decide +kernel)⟩, ⟨12000, { powered with power := { powered.power with running := false } }, by decide +kernel, runsTo (by decide +kernel)⟩⟩

theorem test_witness_EventsReachTheWritersQueue :
    (∃ s : State, s.power.running = true ∧ s.gb.queue.length < 256) ∧ (∃ s : State, s.power.running = true ∧ 256 ≤ s.gb.queue.length) :=
  ⟨⟨awake, by decide +kernel⟩, ⟨{ awake with gb := { awake.gb with queue := List.replicate 256 event } }, by decide +kernel⟩⟩

theorem test_witness_TokensLimitRecords :
    (∃ (s : State) (e : GbEvent) (l : List GbEvent), s.gb.writing = none ∧ s.gb.clearing = none ∧ s.gb.anchors = [] ∧ s.gb.queue = e :: l ∧ gbTryMerge e s.gb.records = none ∧ 0 < (s.gbGain (s.gbClass e.code)).gbTokens (s.gbClass e.code)) ∧ (∃ (s : State) (e : GbEvent) (l : List GbEvent), s.gb.writing = none ∧ s.gb.clearing = none ∧ s.gb.anchors = [] ∧ s.gb.queue = e :: l ∧ gbTryMerge e s.gb.records = none ∧ (s.gbGain (s.gbClass e.code)).gbTokens (s.gbClass e.code) = 0) ∧ (∃ (s : State) (r : GbRec), s.gb.writing = some r ∧ s.on Reg.GB_STAT_SEQ_END = false) :=
  ⟨⟨{ live with gb := { live.gb with queue := [{ event with code := 0x0911 }] } }.wr (Reg.GB_CLASS_TOKENS 30) 4, { event with code := 0x0911 }, [], by decide +kernel⟩, ⟨{ live with gb := { live.gb with queue := [{ event with code := 0x0911 }] } }.wr (Reg.GB_CLASS_TOKENS 30) 0, { event with code := 0x0911 }, [], by decide +kernel⟩, ⟨{ live with gb := { live.gb with writing := some (live.gbRecOf event 1 false false) } }, live.gbRecOf event 1 false false, by decide +kernel⟩⟩

theorem test_witness_RefusedIndexWrites :
    (∃ (s : State) (m : Master) (q : Fin 64) (value : Word), s.allows m .w32 true (Reg.QUE_PI q).addr ∧ s.queUsed q = true ∧ s.queProducer q = masterId m ∧ 2 ^ s.queDepth q - s.queFill q < idxDiff value.toNat (s.quePi q)) ∧ (∃ (s : State) (m : Master) (q : Fin 64), s.allows m .w32 true (Reg.QUE_PI q).addr ∧ s.queUsed q = true ∧ s.queProducer q ≠ masterId m) ∧ (∃ (s : State) (m : Master) (q : Fin 64) (value : Word), s.allows m .w32 true (Reg.QUE_CI q).addr ∧ s.queUsed q = true ∧ idxDiff (s.queRi q) (s.queCi q) < idxDiff value.toNat (s.queCi q)) :=
  ⟨⟨oneQueue 2, .apc 0, 1, 5, by decide +kernel⟩, ⟨oneQueue 2, .apc 1, 1, by decide +kernel⟩, ⟨oneQueue 2, .apc 1, 1, 7, by decide +kernel⟩⟩

theorem test_witness_CommandsAreRefusedInTheirStatusRegister :
    (∃ (s : State) (m : Master), s.allows m .w32 true Reg.GB_CMD.addr ∧ s.on Reg.SCN_STAT_FORCE_PERMIT = false) ∧ (∃ (s : State) (m : Master), s.allows m .w32 true Reg.NB_CMD.addr ∧ s.nbPanel = false) ∧ (∃ (s : State) (m : Master), s.allows m .w32 true Reg.NB_CMD.addr ∧ s.nbPanel = true ∧ s.nbFault = false ∧ s.nb.cleanCmd = true) ∧ (∃ (s : State) (m : Master), s.allows m .w32 true Reg.NB_CMD.addr ∧ s.nbPanel = true ∧ s.nbFault = false ∧ s.on Reg.NB_STAT_REFRESH_DUE = true) :=
  ⟨⟨live, .apc 0, by decide +kernel⟩, ⟨live, .apc 0, by decide +kernel⟩, ⟨{ panelUp with nb := { panelUp.nb with cleanCmd := true } }, .apc 0, by decide +kernel⟩, ⟨panelUp.wr Reg.NB_STAT_REFRESH_DUE 1, .apc 0, by decide +kernel⟩⟩

theorem test_witness_CopiesOfAFrameActOnce :
    (∃ (c : Instr) (a : Arrival) (s : State), arrivalOf c = some a ∧ s.power.running = true ∧ s.role ≠ roleSingle ∧ a.good = false) ∧ (∃ (c : Instr) (a : Arrival) (s : State), arrivalOf c = some a ∧ s.power.running = true ∧ s.role ≠ roleSingle ∧ a.good = true ∧ s.locked = true ∧ s.newFrame a.seq.toNat true = false) ∧ (∃ (c : Instr) (a : Arrival) (s : State), arrivalOf c = some a ∧ (s.power.running = false ∨ s.role = roleSingle)) :=
  ⟨⟨.released { frame with good := false }, { frame with good := false }, live, by decide +kernel⟩, ⟨.released frame, frame, { live with ban := { live.ban with rxSeq := some 1 } }, by decide +kernel⟩, ⟨.released frame, frame, State.reset, rfl, .inl (by decide +kernel)⟩⟩

theorem test_witness_FrontLedsShow :
    (∃ s : State, s.power.mainOn = false) ∧ (∃ s : State, s.power.mainOn = true) ∧ (∃ s : State, s.power.running = true ∧ s.power.mainOn = true ∧ s.keyMaint = true ∧ s.key = none ∧ s.nbPanel = false) :=
  ⟨⟨State.reset, by decide +kernel⟩, ⟨powered, by decide +kernel⟩, ⟨{ powered with keyMaint := true }, by decide +kernel⟩⟩

theorem test_witness_SysCapsByVariant :
    ∃ (s : State) (m : Master), s.issued m = true :=
  ⟨awake, .annex, by decide +kernel⟩

theorem test_witness_RegisterAccessesComplete_1 :
    ∃ (s : State) (m : Master) (f : Fld), (f ∈ [Reg.FPL_SRC_LEN, Reg.SCN_OLC_LEN, Reg.SCN_FORCE_TGT, Reg.SCN_FORCE_TYPE]) ∧ (s.allows m .w32 true f.addr) :=
  ⟨live, .debug, Reg.SCN_OLC_LEN, by decide +kernel⟩

theorem test_witness_RegisterAccessesComplete_2 :
    ∃ (s : State) (m : Master) (value : Word), (s.allows m .w32 true Reg.SYS_BUSERR_STAT.addr) ∧ (value.getLsbD 31 = true) :=
  ⟨live, .debug, 0x80000000, by decide +kernel⟩

theorem test_witness_RegisterAccessesComplete_3 :
    ∃ (s : State) (m : Master), (s.allows m .w32 false Reg.TIM_FRC_LO.addr) :=
  ⟨live, .debug, by decide +kernel⟩

theorem test_witness_RegisterAccessesComplete_4 :
    ∃ (s : State) (m : Master) (f : Fld), (f ∈ [Reg.FPL_SRC_LO, Reg.SCN_OLC_SRC_LO, Reg.SCN_FORCE_VAL_LO]) ∧ (s.allows m .w32 true f.addr) :=
  ⟨live, .debug, Reg.FPL_SRC_LO, by decide +kernel⟩

theorem test_witness_RegisterAccessesComplete_5 :
    ∃ (s : State) (m : Master) (low : Word), (s.allows m .w32 true Reg.SCN_FORCE_VAL_HI.addr) ∧ (Assoc.find? s.staged (latchKey m Reg.SCN_FORCE_VAL_LO.addr) = some low) :=
  ⟨{ live with staged := [(latchKey .debug Reg.SCN_FORCE_VAL_LO.addr, 5)] }, .debug, 5, by decide +kernel⟩

theorem test_witness_RegisterAccessesComplete_6 :
    ∃ (s : State) (m : Master) (f : Fld), (f ∈ [Reg.SLV_MAX_TIME, Reg.GB_OVERRUN, Reg.RND_LAPSED, Reg.ANX_DISC]) ∧ (s.allows m .w32 false f.addr) ∧ (m ≠ .debug) :=
  ⟨live, (.apc 1), Reg.GB_OVERRUN, by decide +kernel⟩

theorem test_witness_RegisterAccessesComplete_7 :
    ∃ (s : State) (m : Master) (write : Bool) (addr : Nat), (s.allows m .w32 write addr) ∧ (inRegs addr = true) ∧ (addr = sysCapsAddr → write = true) :=
  ⟨live, .debug, true, Reg.FPL_CMD.addr, by decide +kernel⟩

theorem test_witness_WakeAndGatingComplete_1 :
    ∃ (s : State) (u : GUnit), (s.power.running = true) ∧ (s.fitted u = true) ∧ ((s.gate u).gated = true) ∧ ((s.gate u).entering = false) :=
  ⟨{ live with gates := [(24, { gated := true })] }, .guestbook, by decide +kernel⟩

theorem test_witness_WakeAndGatingComplete_2 :
    ∃ (s : State) (u : GUnit), (s.power.running = true) ∧ (s.fitted u = true) ∧ ((s.gate u).entering = true) :=
  ⟨{ live with gates := [(24, { entering := true })] }, .guestbook, by decide +kernel⟩

theorem test_witness_WakeAndGatingComplete_3 :
    ∃ (s : State) (u : GUnit), (s.power.running = true) ∧ (s.fitted u = true) ∧ ((s.gate u).gated = false) ∧ ((s.gate u).entering = false) ∧ (s.unitBusy u = false) :=
  ⟨live, .guestbook, by decide +kernel⟩

theorem test_witness_WakeAndGatingComplete_4 :
    ∃ (s : State) (u : GUnit), (s.power.running = true) ∧ (s.fitted u = true) ∧ ((s.gate u).entering = true) ∧ ((s.gate u).held = false) :=
  ⟨{ live with gates := [(24, { entering := true })] }, .guestbook, by decide +kernel⟩

theorem test_witness_WakeAndGatingComplete_5 :
    ∃ (s : State) (addr : Nat), (s.power.running = true) ∧ (inRam addr 1 = true) :=
  ⟨live, 0x100, by decide +kernel⟩

theorem test_witness_FloorPlanCommandsComplete_1 :
    ∃ (s : State) (m : Master), (s.allows m .w32 true Reg.FPL_CMD.addr) ∧ (s.on Reg.FPL_STAT_BUSY = false) :=
  ⟨live, .debug, by decide +kernel⟩

theorem test_witness_FloorPlanCommandsComplete_2 :
    ∃ (s : State) (m : Master), (s.allows m .w32 true Reg.FPL_CMD.addr) ∧ (s.on Reg.FPL_STAT_BUSY = false) :=
  ⟨live, .debug, by decide +kernel⟩

theorem test_witness_FloorPlanCommandsComplete_3 :
    ∃ (s : State) (m : Master), (s.allows m .w32 true Reg.FPL_CMD.addr) ∧ (s.on Reg.FPL_STAT_BUSY = false) :=
  ⟨live, .debug, by decide +kernel⟩

theorem test_witness_FloorPlanCommandsComplete_4 :
    ∃ (s : State) (op : FplOp) (f : FplFail), (s.fpl.op = some op) ∧ (op.fail = some f) :=
  ⟨{ live with fpl := { live.fpl with op := some { cmd := .verify, fail := some { reason := 3 } } } }, { cmd := .verify, fail := some { reason := 3 } }, { reason := 3 }, by decide +kernel⟩

theorem test_witness_FloorPlanCommandsComplete_5 :
    ∃ (s : State), (s.power.running = true) ∧ (s.rd Reg.FPL_STAT_STATE = 1) ∧ (s.fpl.verified = none) :=
  ⟨awake, by decide +kernel⟩

theorem test_witness_FloorPlanCommandsComplete_6 :
    ∃ (s : State), (s.power.running = true) ∧ (s.rd Reg.FPL_STAT_STATE = 1) ∧ (s.fpl.verified ≠ none) :=
  ⟨{ awake with fpl := { awake.fpl with verified := some { secs := [], serial := 0, key := 0, revoke := false, slot := .a, fallback := false, adopting := false } } }, by decide +kernel⟩

theorem test_witness_FloorPlanCommandsComplete_7 :
    ∃ (s : State) (peer : Bool) (new : List Section), (s.fpl.softNext = some new) ∧ (s.scnMode ≠ modeRun) ∧ (peer = true ∨ s.role ≠ roleActive ∧ s.role ≠ roleStandby) :=
  ⟨{ live with fpl := { live.fpl with softNext := some [] } }, false, [], by decide +kernel⟩

theorem test_witness_ScanEngineEventsComplete_1 :
    ∃ (s : State), (s.power.running = true) ∧ (s.loopFirst s.tickNext = false) :=
  ⟨live, by decide +kernel⟩

theorem test_witness_ScanEngineEventsComplete_2 :
    ∃ (s : State) (n : Fin 16), (s.coreTop (s.taskCore n) = some n.val) ∧ ((s.task n).open_ = true) ∧ ((s.task n).latched = true) :=
  ⟨{ strictTask with scn := { strictTask.scn with tasks := [(2, { running := some 0, open_ := true, latched := true })] } }, 2, by decide +kernel⟩

theorem test_witness_ScanEngineEventsComplete_3 :
    ∃ (s : State) (n : Fin 16), (s.coreTop (s.taskCore n) = some n.val) ∧ (s.taskLatches n = true) :=
  ⟨({ strictTask with scn := { strictTask.scn with tasks := [(2, { running := some 0 })] } } : State).wr (Reg.SCN_TASK_STAT_STATE 2) taskRunning, 2, by decide +kernel⟩

theorem test_witness_ScanEngineEventsComplete_4 :
    ∃ (s : State) (n : Fin 16), (s.power.running = true) ∧ (s.locked = true) ∧ (s.commitOrder.contains n.val = true) :=
  ⟨{ strictTask with scn := { strictTask.scn with tasks := [(2, { open_ := true })] } }, 2, by decide +kernel⟩

theorem test_witness_ScanEngineCommandsComplete_1 :
    ∃ (s : State) (m : Master), (s.allows m .w32 true Reg.SCN_CMD.addr) ∧ (s.inControl = true) ∧ (s.leads = true) :=
  ⟨live, .debug, by decide +kernel⟩

theorem test_witness_ScanEngineCommandsComplete_2 :
    ∃ (s : State) (m : Master), (s.allows m .w32 true Reg.SCN_CMD.addr) ∧ (s.inControl = true) ∧ (s.leads = true) :=
  ⟨live, .debug, by decide +kernel⟩

theorem test_witness_ScanEngineCommandsComplete_3 :
    ∃ (s : State) (m : Master), (s.allows m .w32 true Reg.SCN_CMD.addr) ∧ (s.inControl = true) ∧ (s.leads = true) :=
  ⟨live, .debug, by decide +kernel⟩

theorem test_witness_ScanEngineCommandsComplete_4 :
    ∃ (s : State) (m : Master), (s.allows m .w32 true Reg.SCN_CMD.addr) ∧ (s.inControl = true) ∧ (s.leads = true) :=
  ⟨live, .debug, by decide +kernel⟩

theorem test_witness_OnLineChangeCompletes_1 :
    ∃ (s : State) (m : Master), (s.allows m .w32 true Reg.SCN_OLC_CMD.addr) ∧ (s.olcState ≠ olcVerifying) ∧ (s.olcState ≠ olcArmed) :=
  ⟨live, .debug, by decide +kernel⟩

theorem test_witness_OnLineChangeCompletes_2 :
    ∃ (s : State), (s.olcState = olcVerifying) :=
  ⟨(live.olcSet olcVerifying 0), by decide +kernel⟩

theorem test_witness_OnLineChangeCompletes_3 :
    ∃ (s : State) (m : Master) (same : Bool), (s.allows m .w32 true Reg.SCN_OLC_CMD.addr) ∧ (s.olcState = olcVerified) ∧ (s.leadsLog = false) ∧ (s.softPending = false) ∧ (s.scnMode = modeStop) ∧ (s.ban.join = none) ∧ (s.inControl = true ∨ s.role = roleBooting) ∧ (s.follows = false ∨ same = true) :=
  ⟨(live.olcSet olcVerified 0), .debug, true, by decide +kernel⟩

theorem test_witness_OnLineChangeCompletes_4 :
    ∃ (s : State) (m : Master), (s.allows m .w32 true Reg.SCN_OLC_CMD.addr) ∧ (s.olcState = olcArmed) ∧ (s.leadsLog = false) ∧ (s.inControl = true ∨ s.role = roleBooting) :=
  ⟨(live.olcSet olcArmed 0), .debug, by decide +kernel⟩

theorem test_witness_OnLineChangeCompletes_5 :
    ∃ (s : State), (s.olcState = olcArmed) ∧ (s.power.running = true) ∧ (s.olcStopped = true) :=
  ⟨(live.olcSet olcArmed 0), by decide +kernel⟩

theorem test_witness_OnLineChangeCompletes_6 :
    ∃ (s : State) (m : Master), (s.allows m .w32 true Reg.SCN_FORCE_CMD.addr) ∧ (s.on Reg.SCN_STAT_FORCE_PERMIT = true) ∧ (s.leadsLog = false) ∧ (s.inControl = true ∨ s.role = roleBooting) :=
  ⟨(live.wr Reg.SCN_STAT_FORCE_PERMIT 1), .debug, by decide +kernel⟩

theorem test_witness_OnLineChangeCompletes_7 :
    ∃ (s : State) (m : Master), (s.allows m .w32 true Reg.SCN_FORCE_CMD.addr) ∧ (s.on Reg.SCN_STAT_FORCE_PERMIT = true) ∧ (s.leadsLog = false) ∧ (s.inControl = true ∨ s.role = roleBooting) :=
  ⟨(live.wr Reg.SCN_STAT_FORCE_PERMIT 1), .debug, by decide +kernel⟩

theorem test_witness_OnLineChangeCompletes_8 :
    ∃ (s : State) (m : Master), (s.allows m .w32 true Reg.SCN_FORCE_CMD.addr) ∧ (s.on Reg.SCN_STAT_FORCE_PERMIT = true) ∧ (s.leadsLog = false) ∧ (s.inControl = true ∨ s.role = roleBooting) :=
  ⟨(live.wr Reg.SCN_STAT_FORCE_PERMIT 1), .debug, by decide +kernel⟩

theorem test_witness_LoopCommandsComplete_1 :
    ∃ (s : State) (at_ : Nat), (s.loopNext = some at_) ∧ (s.power.running = true) ∧ (s.locked = true) ∧ (s.inControl = true ∨ s.leads = true) :=
  ⟨{ live with lp := { live.lp with tick0 := some 0 } }, 0, by decide +kernel⟩

theorem test_witness_LoopCommandsComplete_2 :
    ∃ (s : State) (m : Master) (n : Fin 512), (s.allows m .w32 true (Reg.LOOP_TUNE_CTRL n).addr) ∧ (s.loopOn n = true) ∧ (s.notOwn m = false) ∧ (s.on (Reg.LOOP_TUNE_CTRL_PENDING n) = false) ∧ (tuneWord (s.shadow n) 12 ≤ tuneWord (s.shadow n) 13) :=
  ⟨oneLoop, .debug, 0, by decide +kernel⟩

theorem test_witness_LoopCommandsComplete_3 :
    ∃ (s : State) (m : Master) (n : Fin 512), (s.allows m .w32 true (Reg.LOOP_TUNE_CTRL n).addr) ∧ (s.loopOn n = true) ∧ (s.notOwn m = false) ∧ (s.on (Reg.LOOP_TUNE_CTRL_PENDING n) = false) :=
  ⟨oneLoop, .debug, 0, by decide +kernel⟩

theorem test_witness_LoopCommandsComplete_4 :
    ∃ (s : State) (m : Master) (n : Fin 512), (s.allows m .w32 true (Reg.LOOP_TUNE_CTRL n).addr) ∧ (s.loopOn n = true) ∧ (s.notOwn m = false) ∧ (s.on (Reg.LOOP_TUNE_CTRL_PENDING n) = false) :=
  ⟨oneLoop, .debug, 0, by decide +kernel⟩

theorem test_witness_LoopCommandsComplete_5 :
    ∃ (s : State) (a : Arrival) (at_ : Nat), (s.hears a = true) ∧ (s.follows = true) ∧ (s.loopNext = some at_) :=
  ⟨(let s := as_ 3; { s with lp := { s.lp with tick0 := some 0 } }), frame, 0, by decide +kernel⟩

theorem test_witness_SolverCommandsComplete_1 :
    ∃ (s : State) (sq : Nat), (s.slvOn = true) ∧ (s.power.running = true) ∧ (s.locked = true) ∧ (s.slv.req.isNone = true) ∧ (s.joinHolds = false) ∧ (s.on Reg.PWR_STAT_PF_WARN = false) ∧ (s.slvNext = some sq) ∧ (s.leads = true) :=
  ⟨solving, 0, by decide +kernel⟩

theorem test_witness_SolverCommandsComplete_2 :
    ∃ (s : State) (sq : Nat), (s.slvOn = true) ∧ (s.power.running = true) ∧ (s.locked = true) ∧ (s.slv.req.isNone = true) ∧ (s.joinHolds = false) ∧ (s.on Reg.PWR_STAT_PF_WARN = false) ∧ (s.slvNext = some sq) ∧ (s.leads = true) :=
  ⟨solving, 0, by decide +kernel⟩

theorem test_witness_SolverCommandsComplete_3 :
    ∃ (s : State) (r : SlvRequest), (s.slv.req = some r) ∧ (r.done = none) ∧ (s.power.running = true) ∧ (s.leads = true) ∧ (r.inTime s.frc (slvSolveBound r.order) = true) :=
  ⟨{ live with slv := { live.slv with req := some { sq := 0, entry := List.replicate 16 0 ++ List.replicate 8 255, seq := 0, posted := 0, taken := 0 } } }, { sq := 0, entry := List.replicate 16 0 ++ List.replicate 8 255, seq := 0, posted := 0, taken := 0 }, by decide +kernel⟩

theorem test_witness_SolverCommandsComplete_4 :
    ∃ (s : State) (r : SlvRequest) (status : Nat) (detail : Nat), (s.slv.req = some r) ∧ (r.done = some (status, detail)) ∧ (s.power.running = true) ∧ (s.leads = true) :=
  ⟨{ live with slv := { live.slv with req := some { sq := 0, entry := [], seq := 0, posted := 0, taken := 0, done := some (8, 14) } } }, { sq := 0, entry := [], seq := 0, posted := 0, taken := 0, done := some (8, 14) }, 8, 14, by decide +kernel⟩

theorem test_witness_SolverCommandsComplete_5 :
    ∃ (s : State) (m : Master), (s.allows m .w32 true Reg.SLV_CMD.addr) ∧ (s.notOwn m = false) ∧ (s.slv.req = none) :=
  ⟨live, .debug, by decide +kernel⟩

theorem test_witness_SolverCommandsComplete_6 :
    ∃ (s : State) (m : Master), (s.allows m .w32 true Reg.SLV_CMD.addr) ∧ (s.notOwn m = false) ∧ (s.slv.req = none) :=
  ⟨live, .debug, by decide +kernel⟩

theorem test_witness_SolverCommandsComplete_7 :
    ∃ (s : State), (s.slvOn = true) ∧ (s.slv.req.isNone = true) ∧ (s.slvNext.isNone = true) ∧ (s.rd Reg.SLV_STAT_STATE = 1) :=
  ⟨(live.wr Reg.SLV_STAT_STATE 1), by decide +kernel⟩

theorem test_witness_SolverCommandsComplete_8 :
    ∃ (s : State) (a : Arrival), (s.hears a = true) ∧ (s.follows = true) ∧ (s.slvOn = true) :=
  ⟨(as_ 3), frame, by decide +kernel⟩

theorem test_witness_AxisCommandsComplete_1 :
    ∃ (s : State), (s.power.running = true) ∧ (s.locked = true) ∧ (s.inControl = true) ∧ (s.ban.ho = none) :=
  ⟨oneAxis, by decide +kernel⟩

theorem test_witness_AxisCommandsComplete_2 :
    ∃ (s : State) (a : Arrival), (s.hears a = true) ∧ (s.role = 3) :=
  ⟨(as_ 3), frame, by decide +kernel⟩

theorem test_witness_AxisCommandsComplete_3 :
    ∃ (s : State) (m : Master) (a : Fin 8) (upper : Bool), (s.allows m .w32 true (axVlimHi a upper).addr) ∧ (s.axOn a = true) ∧ (s.notOwn m = false) ∧ (s.axStaged a upper = false) :=
  ⟨oneAxis, .debug, 2, true, by decide +kernel⟩

theorem test_witness_AxisCommandsComplete_4 :
    ∃ (s : State) (a : Fin 8), (s.axOn a = true) ∧ ((s.axis a).loss = false) ∧ (s.role ≠ roleStandby) :=
  ⟨oneAxis, 2, by decide +kernel⟩

theorem test_witness_AxisCommandsComplete_5 :
    ∃ (s : State) (a : Fin 8), (s.axOn a = true) ∧ ((s.axis a).loss = false) ∧ (s.role ≠ roleStandby) ∧ (s.on (Reg.AX_STATE_ENC_LOSS a) = false) ∧ (s.axRatio a ≠ 0) ∧ (s.rd (Reg.AX_STATE_STATE a) ∉ [axDisabled, axFault]) :=
  ⟨(oneAxis.wr (Reg.AX_STATE_STATE 3) axMoving), 3, by decide +kernel⟩

theorem test_witness_AxisCommandsComplete_6 :
    ∃ (s : State) (a : Fin 8), (s.axOn a = true) ∧ ((s.axis a).loss = false) ∧ (s.role = roleStandby) :=
  ⟨(oneAxis.wr Reg.BAN_STAT_ROLE 3), 2, by decide +kernel⟩

theorem test_witness_AxisCommandsComplete_7 :
    ∃ (s : State) (a : Fin 8), (s.axOn a = true) ∧ (s.role ≠ roleStandby) :=
  ⟨oneAxis, 2, by decide +kernel⟩

theorem test_witness_AxisCommandsComplete_8 :
    ∃ (s : State) (a : Fin 8), (s.axOn a = true) ∧ (s.role = roleStandby) :=
  ⟨(oneAxis.wr Reg.BAN_STAT_ROLE 3), 2, by decide +kernel⟩

theorem test_witness_AxisCommandsComplete_9 :
    ∃ (s : State) (a : Fin 8), (s.axOn a = true) ∧ (s.role ≠ roleStandby) :=
  ⟨oneAxis, 2, by decide +kernel⟩

theorem test_witness_AxisCommandsComplete_10 :
    ∃ (s : State) (a : Fin 8), (s.axOn a = true) ∧ (s.rd (Reg.AX_STATE_STATE a) = axSettling) :=
  ⟨(oneAxis.wr (Reg.AX_STATE_STATE 2) axSettling), 2, by decide +kernel⟩

theorem test_witness_AxisCommandsComplete_11 :
    ∃ (s : State) (a : Fin 8), (s.axOn a = true) ∧ (s.rd (Reg.AX_STATE_STATE a) = axAtRest) :=
  ⟨(oneAxis.wr (Reg.AX_STATE_STATE 2) axAtRest), 2, by decide +kernel⟩

theorem test_witness_AxisCommandsComplete_12 :
    ∃ (s : State) (a : Fin 8), (s.axOn a = true) ∧ ((s.axis a).resume = true) :=
  ⟨{ oneAxis with axes := [(2, { resume := true })] }, 2, by decide +kernel⟩

theorem test_witness_BanisterFramesComplete_1 :
    ∃ (s : State), (s.power.running = true) ∧ (s.role ≠ roleSingle) :=
  ⟨live, by decide +kernel⟩

theorem test_witness_BanisterFramesComplete_2 :
    ∃ (s : State) (a : Arrival), (s.inOrder a = true) :=
  ⟨(as_ 3), frame, by decide +kernel⟩

theorem test_witness_BanisterFramesComplete_3 :
    ∃ (s : State) (a : Arrival), (s.inOrder a = true) ∧ (s.ban.join = none) ∧ (s.ban.early = []) ∧ (s.role ∉ [roleActive, roleStandby, roleCold]) ∧ (s.electing = false) :=
  ⟨live, frame, by decide +kernel⟩

theorem test_witness_BanisterFramesComplete_4 :
    ∃ (s : State), (s.power.running = true) ∧ (s.role ≠ roleSingle) :=
  ⟨live, by decide +kernel⟩

theorem test_witness_BanisterFramesComplete_5 :
    ∃ (s : State) (a : Arrival), (s.inOrder a = true) :=
  ⟨live, frame, by decide +kernel⟩

theorem test_witness_BanisterFramesComplete_6 :
    ∃ (s : State) (a : Arrival), (s.inOrder a = true) ∧ (s.ban.join = none) ∧ (s.ban.early = []) :=
  ⟨live, frame, by decide +kernel⟩

theorem test_witness_BanisterFramesComplete_7 :
    ∃ (s : State) (a : Arrival) (n : BitVec 32) (t0 : Nat), (s.inOrder a = true) ∧ (s.ban.join = none) ∧ (s.ban.early = []) ∧ (s.ban.hs = [(0x03, n.toNat, t0)]) :=
  ⟨{ live with ban := { live.ban with hs := [(3, 4, 0)] } }, frame, 4, 0, by decide +kernel⟩

theorem test_witness_BanisterFramesComplete_8 :
    ∃ (s : State) (a : Arrival), (s.hears a = true) ∧ (s.ban.join = none) ∧ (s.ban.early = []) :=
  ⟨live, frame, by decide +kernel⟩

theorem test_witness_BanisterFramesComplete_9 :
    ∃ (s : State) (type : Nat) (n : Nat) (t0 : Nat) (rest : List (Nat × Nat × Nat)), (s.ban.hs = (type, n, t0) :: rest) :=
  ⟨{ live with ban := { live.ban with hs := [(3, 4, 0)] } }, 3, 4, 0, [], by decide +kernel⟩

theorem test_witness_BanisterFramesComplete_10 :
    ∃ (s : State) (a : Arrival), (s.hears a = true) ∧ (s.follows = true) :=
  ⟨(as_ 3), frame, by decide +kernel⟩

theorem test_witness_BanisterFramesComplete_11 :
    ∃ (s : State) (a : Arrival) (tick : Nat) (crc : BitVec 32), (s.hears a = true) ∧ (s.ban.join = none) ∧ (s.ban.early = []) ∧ (s.ban.wait = some crc.toNat) ∧ (tick = s.scn.ticks) :=
  ⟨{ live with ban := { live.ban with wait := some 5 } }, frame, 0, 5, by decide +kernel⟩

theorem test_witness_BanisterFramesComplete_12 :
    ∃ (s : State) (a : Arrival), (s.hears a = true) ∧ (s.follows = true) :=
  ⟨(as_ 3), frame, by decide +kernel⟩

theorem test_witness_BanisterFramesComplete_13 :
    ∃ (s : State) (a : Arrival), (s.hears a = true) ∧ (s.ban.join = none) ∧ (s.ban.early = []) :=
  ⟨live, frame, by decide +kernel⟩

theorem test_witness_BanisterFramesComplete_14 :
    ∃ (s : State) (a : Arrival), (s.hears a = true) ∧ (s.follows = true) :=
  ⟨(as_ 3), frame, by decide +kernel⟩

theorem test_witness_ComparisonCommandsComplete_1 :
    ∃ (s : State) (a : Arrival) (n : Fin 16), (s.hears a = true) ∧ (s.logs = false) ∧ (s.compares = true) ∧ ((s.task n).waits = false) :=
  ⟨(as_ 2), frame, 2, by decide +kernel⟩

theorem test_witness_ComparisonCommandsComplete_2 :
    ∃ (s : State) (n : Fin 16), (s.compares = true) ∧ ((s.task n).waits = true ∨ s.ban.own.any (fun d => d.task == n.val) = true) :=
  ⟨(let s := as_ 2; { s with ban := { s.ban with own := [⟨2, 0, 0, 0⟩] } }), 2, by decide +kernel⟩

theorem test_witness_ComparisonCommandsComplete_3 :
    ∃ (s : State) (n : Fin 16), (s.taskStrict n = true) ∧ ((s.task n).waits = true) ∧ ((s.task n).late = false) :=
  ⟨(let s := strictTask.wr Reg.BAN_STAT_ROLE 2; { s with scn := { s.scn with tasks := [(2, { waits := true })] } }), 2, by decide +kernel⟩

theorem test_witness_ComparisonCommandsComplete_4 :
    ∃ (s : State) (type : Byte) (at_ : Nat), (s.power.running = true) ∧ (s.follows = true) ∧ (s.ban.ho = none) ∧ (s.neededBy type.toNat = some at_) :=
  ⟨(let s := as_ 3; { s with ban := { s.ban with missing := [5] } }), 0x14, 0, by decide +kernel⟩

theorem test_witness_ComparisonCommandsComplete_5 :
    ∃ (s : State) (a : Arrival) (q : Inquiry), (s.hears a = true) ∧ (s.ban.join = none) ∧ (s.ban.early = []) ∧ (s.ban.inquiry = some q) ∧ (q.own = none) :=
  ⟨{ live with ban := { live.ban with inquiry := some { task := 1, at_ := 0 } } }, frame, { task := 1, at_ := 0 }, by decide +kernel⟩

theorem test_witness_ComparisonCommandsComplete_6 :
    ∃ (s : State) (q : Inquiry), (s.power.running = true) ∧ (s.ban.inquiry = some q) ∧ (q.peer = none) :=
  ⟨{ live with ban := { live.ban with inquiry := some { task := 1, at_ := 0 } } }, { task := 1, at_ := 0 }, by decide +kernel⟩

theorem test_witness_ComparisonCommandsComplete_7 :
    ∃ (s : State) (q : Inquiry) (p : Option Nat), (s.power.running = true) ∧ (s.ban.inquiry = some q) ∧ (q.peer = some p) :=
  ⟨{ live with ban := { live.ban with inquiry := some { task := 1, at_ := 0, peer := some none } } }, { task := 1, at_ := 0, peer := some none }, none, by decide +kernel⟩

theorem test_witness_ComparisonCommandsComplete_8 :
    ∃ (s : State) (q : Inquiry), (s.ban.inquiry = some q) ∧ (q.peer = none) ∧ (q.own = none) :=
  ⟨{ live with ban := { live.ban with inquiry := some { task := 1, at_ := 0 } } }, { task := 1, at_ := 0 }, by decide +kernel⟩

theorem test_witness_ComparisonCommandsComplete_9 :
    ∃ (s : State), (s.power.running = true) ∧ (s.role = roleActive) ∧ (s.ban.ho = none) :=
  ⟨(as_ 2), by decide +kernel⟩

theorem test_witness_ComparisonCommandsComplete_10 :
    ∃ (s : State), (s.power.running = true) ∧ (s.role = roleActive) ∧ (s.ban.ho = none) :=
  ⟨(as_ 2), by decide +kernel⟩

theorem test_witness_ComparisonCommandsComplete_11 :
    ∃ (s : State), (s.power.running = true) ∧ (s.role = roleActive) ∧ (s.ban.ho = none) :=
  ⟨(as_ 2), by decide +kernel⟩

theorem test_witness_ComparisonCommandsComplete_12 :
    ∃ (s : State), (s.power.running = true) ∧ (s.role = roleStandby) ∧ (s.ban.ho = none) :=
  ⟨(as_ 3), by decide +kernel⟩

theorem test_witness_ComparisonCommandsComplete_13 :
    ∃ (s : State) (k : Fin 8) (c : Fin 8) (since_ : Nat), (s.inControl = true) ∧ ((s.island k).doMismatch c = true) ∧ (((s.island k).chan c).misAt = some since_) ∧ (((s.island k).chan c).misTold = false) :=
  ⟨(field 3 { raw := true, misAt := some 0 }), 1, 2, 0, by decide +kernel⟩

theorem test_witness_ComparisonCommandsComplete_14 :
    ∃ (s : State) (k : Fin 8) (c : Fin 8) (since_ : Nat), (s.inControl = true) ∧ ((s.island k).aoMismatch c = true) ∧ (((s.island k).chan c).misAt = some since_) ∧ (s.on (Reg.ISL_AN_STAT_READBACK k c) = false) :=
  ⟨(field 5 { cur := 15000000, misAt := some 0 }), 1, 2, 0, by decide +kernel⟩

theorem test_witness_HandoverCommandsComplete_1 :
    ∃ (s : State) (m : Master), (s.allows m .w32 true Reg.BAN_CMD.addr) ∧ (s.role = roleActive) ∧ (s.on Reg.SCN_STAT_FORCE_PERMIT = true) ∧ (s.ban.inquiry = none) ∧ (s.ban.ho = none) :=
  ⟨(as_ 2).wr Reg.SCN_STAT_FORCE_PERMIT 1, .debug, by decide +kernel⟩

theorem test_witness_HandoverCommandsComplete_2 :
    ∃ (s : State) (m : Master), (s.allows m .w32 true Reg.BAN_CMD.addr) :=
  ⟨(live.wr Reg.BAN_RB_BLOCK_HI 0x80), .debug, by decide +kernel⟩

theorem test_witness_HandoverCommandsComplete_3 :
    ∃ (s : State) (m : Master), (s.allows m .w32 true Reg.BAN_CMD.addr) :=
  ⟨(live.wr Reg.BAN_RB_BLOCK_HI 0x80), .debug, by decide +kernel⟩

theorem test_witness_HandoverCommandsComplete_4 :
    ∃ (s : State) (m : Master), (s.allows m .w32 true Reg.BAN_CMD.addr) ∧ (s.role = roleIsolated) ∧ (s.on Reg.SCN_STAT_FORCE_PERMIT = true) :=
  ⟨(as_ 5).wr Reg.SCN_STAT_FORCE_PERMIT 1, .debug, by decide +kernel⟩

theorem test_witness_HandoverCommandsComplete_5 :
    ∃ (s : State) (a : Arrival), (s.hears a = true) ∧ (s.ban.join = none) ∧ (s.ban.early = []) ∧ (s.role = roleStandby) ∧ (s.ban.ho = none) ∧ (s.on Reg.PWR_STAT_PF_WARN = false) ∧ (s.scn.dues = []) :=
  ⟨(as_ 3), frame, by decide +kernel⟩

theorem test_witness_HandoverCommandsComplete_6 :
    ∃ (s : State) (a : Arrival), (s.hears a = true) :=
  ⟨(as_ 3), frame, by decide +kernel⟩

theorem test_witness_HandoverCommandsComplete_7 :
    ∃ (s : State) (a : Arrival) (h : Handover), (s.hears a = true) ∧ (s.ban.join = none) ∧ (s.ban.early = []) ∧ (s.ban.ho = some h) ∧ (h.old = true) :=
  ⟨{ live with ban := { live.ban with ho := some hoOld } }, frame, hoOld, by decide +kernel⟩

theorem test_witness_HandoverCommandsComplete_8 :
    ∃ (s : State) (h : Handover) (r : Nat), (s.ban.ho = some h) ∧ (h.old = false) ∧ (h.ramp = some r) :=
  ⟨{ live with ban := { live.ban with ho := some { hoOld with old := false, ramp := some 9 } } }, { hoOld with old := false, ramp := some 9 }, 9, by decide +kernel⟩

theorem test_witness_HandoverCommandsComplete_9 :
    ∃ (s : State) (h : Handover) (r : Nat), (s.ban.ho = some h) ∧ (h.old = true) ∧ (h.ramp = some r) :=
  ⟨{ live with ban := { live.ban with ho := some { hoOld with ramp := some 9 } } }, { hoOld with ramp := some 9 }, 9, by decide +kernel⟩

theorem test_witness_HandoverCommandsComplete_10 :
    ∃ (s : State) (a : Arrival) (h : Handover), (s.hears a = true) ∧ (s.ban.join = none) ∧ (s.ban.early = []) ∧ (s.ban.ho = some h) ∧ (h.old = false) :=
  ⟨{ live with ban := { live.ban with ho := some { hoOld with old := false } } }, frame, { hoOld with old := false }, by decide +kernel⟩

theorem test_witness_HandoverCommandsComplete_11 :
    ∃ (s : State) (h : Handover), (s.ban.ho = some h) ∧ (h.old = true) :=
  ⟨{ live with ban := { live.ban with ho := some hoOld } }, hoOld, by decide +kernel⟩

theorem test_witness_HandoverCommandsComplete_12 :
    ∃ (s : State) (h : Handover), (s.ban.ho = some h) ∧ (s.takeoverAt h < s.tickNext) :=
  ⟨(let s := as_ 2; { s with ban := { s.ban with ho := some hoOld }, scn := { s.scn with lastTick := some 0 } }), hoOld, by decide +kernel⟩

theorem test_witness_HandoverCommandsComplete_13 :
    ∃ (s : State) (h : Handover), (s.ban.ho = some h) ∧ (s.takeoverAt h < s.tickNext) ∧ (s.commitOrder = []) ∧ (h.old = true) ∧ (staysInStep h.trigger = true) ∧ (s.laneMask ≠ 0) :=
  ⟨(let s := (as_ 2).wr (laneUp 0) 1; { s with ban := { s.ban with ho := some hoOld }, scn := { s.scn with lastTick := some 0 } }), hoOld, by decide +kernel⟩

theorem test_witness_HandoverCommandsComplete_14 :
    ∃ (s : State) (l : Fin 2), (s.power.running = true) ∧ (s.on (laneUp l) = true) ∧ (s.on (laneUp (1 - l.val)) = true) :=
  ⟨(live.wr (laneUp 0) 1).wr (laneUp 1) 1, 1, by decide +kernel⟩

theorem test_witness_HandoverCommandsComplete_15 :
    ∃ (s : State) (l : Fin 2), (s.power.running = true) ∧ (s.on (laneUp l) = false) ∧ (s.role ≠ roleIsolated) :=
  ⟨live, 1, by decide +kernel⟩

theorem test_witness_HandoverCommandsComplete_16 :
    ∃ (s : State), (s.power.running = true) ∧ (s.locked = true) ∧ (s.paired = true) :=
  ⟨(planned [⟨0x8001, 0, [0, 0, 0, 0, 1]⟩]), by decide +kernel⟩

theorem test_witness_HandoverCommandsComplete_17 :
    ∃ (s : State) (p : Fin 4) (x : PlantBeat), (s.power.running = true) ∧ (s.holdView.ethOn p = true) ∧ (s.holdView.beatValid x = true) ∧ (s.electing = false) :=
  ⟨(planned [⟨0x8001, 0, [0, 0, 0, 0, 1]⟩, ⟨0x8011, 0, leBytes 8 1 ++ [1, 0, 1] ++ List.replicate 13 0⟩]), 0, ⟨0, 2, 3, 0, 5, true⟩, by decide +kernel⟩

theorem test_witness_HandoverCommandsComplete_18 :
    ∃ (s : State), (s.power.running = true) ∧ (s.role = roleStandby ∨ s.role = roleIsolated) ∧ (s.isoShow.isoMet = true) :=
  ⟨(let s := as_ 5; { s with frc := 5000000, ban := { s.ban with outSeen := true } }), by decide +kernel⟩

theorem test_witness_JoiningCommandsComplete_1 :
    ∃ (s : State), (s.joinMay = true) ∧ (s.ban.joinDig ≠ s.strDigest ++ s.progDigest) :=
  ⟨cold, by decide +kernel⟩

theorem test_witness_JoiningCommandsComplete_2 :
    ∃ (s : State) (j : Join), (s.ban.join = some j) ∧ (j.active = false) ∧ (j.waiting = true) :=
  ⟨(joining { active := false, waiting := true }), { active := false, waiting := true }, by decide +kernel⟩

theorem test_witness_JoiningCommandsComplete_3 :
    ∃ (s : State), (s.joinMay = true) ∧ (s.ban.lastFail ≠ 0) ∧ (s.ban.stuck = false) :=
  ⟨{ cold with ban := { cold.ban with lastFail := 6 } }, by decide +kernel⟩

theorem test_witness_JoiningCommandsComplete_4 :
    ∃ (s : State) (a : Arrival) (caps : BitVec 32) (station : BitVec 32) (serial : BitVec 32) (sdig : List Byte) (pdig : List Byte), (s.hears a = true) ∧ (s.joinCheck caps.toNat station.toNat serial.toNat sdig pdig = 0) ∧ (s.joinFree = true) ∧ (s.ban.early = []) :=
  ⟨plannedPair, frame, (BitVec.ofNat 32 plannedPair.caps), 0, 9, plannedPair.strDigest, plannedPair.progDigest, by decide +kernel, by rw [State.joinCheck, if_neg (by decide +kernel), if_neg (by decide +kernel), if_neg (not_not_intro rfl), if_neg (not_not_intro rfl)], by decide +kernel⟩

theorem test_witness_JoiningCommandsComplete_5 :
    ∃ (s : State) (j : Join), (s.ban.join = some j) ∧ (j.active = false) ∧ (j.waiting = false) ∧ (j.l = none) ∧ (s.ban.hs.any (fun h => h.1 == 0x40) = false) ∧ (j.resent < 99) :=
  ⟨(joining { active := false }), { active := false }, by decide +kernel⟩

theorem test_witness_JoiningCommandsComplete_6 :
    ∃ (s : State) (j : Join), (s.ban.join = some j) ∧ (j.active = false) ∧ (j.waiting = false) ∧ (j.l = none) ∧ (s.ban.hs.any (fun h => h.1 == 0x40) = false) ∧ (99 ≤ j.resent) :=
  ⟨(joining { active := false, resent := 99 }), { active := false, resent := 99 }, by decide +kernel⟩

theorem test_witness_JoiningCommandsComplete_7 :
    ∃ (s : State) (a : Arrival) (j : Join), (s.hears a = true) ∧ (s.ban.join = some j) ∧ (s.ban.early = []) ∧ (j.active = false) ∧ (j.l = none) :=
  ⟨(joining { active := false }), frame, { active := false }, by decide +kernel⟩

theorem test_witness_JoiningCommandsComplete_8 :
    ∃ (s : State) (a : Arrival) (reason : Byte) (j : Join), (s.hears a = true) ∧ (s.ban.join = some j) ∧ (s.ban.early = []) ∧ (j.active = false) ∧ (j.l = none) ∧ (reason ≠ 0) :=
  ⟨(joining { active := false }), frame, 3, { active := false }, by decide +kernel⟩

theorem test_witness_JoiningCommandsComplete_9 :
    ∃ (s : State) (j : Join) (x : HamperSec) (rest : List HamperSec), (s.ban.join = some j) ∧ (j.active = true) ∧ (j.took = true) ∧ (j.secs = x :: rest) :=
  ⟨(joining { active := true, took := true, secs := [⟨2, 0, []⟩] }), { active := true, took := true, secs := [⟨2, 0, []⟩] }, ⟨2, 0, []⟩, [], by decide +kernel⟩

theorem test_witness_JoiningCommandsComplete_10 :
    ∃ (s : State) (a : Arrival) (j : Join), (s.hears a = true) ∧ (s.ban.join = some j) ∧ (j.active = false) ∧ (j.l.isSome = true) :=
  ⟨(joining { active := false, l := some 3 }), frame, { active := false, l := some 3 }, by decide +kernel⟩

theorem test_witness_JoiningCommandsComplete_11 :
    ∃ (s : State) (a : Arrival) (kind : Byte) (index : BitVec 16) (offset : Nat) (total : Nat) (data : List Byte) (j : Join), (s.hears a = true) ∧ (s.ban.join = some j) ∧ (s.ban.early = []) ∧ (j.active = false) ∧ (j.l.isSome = true) ∧ (crc64 ((j.patch kind.toNat index.toNat offset (data.take (data.length - 8))).take total) ≠ leVal (data.drop (data.length - 8))) :=
  ⟨(joining { active := false, l := some 3 }), frame, 2, 0, 0, 9, [5], { active := false, l := some 3 }, by decide +kernel⟩

theorem test_witness_JoiningCommandsComplete_12 :
    ∃ (s : State) (a : Arrival) (j : Join), (s.hears a = true) ∧ (s.role ≠ roleCold) ∧ (s.ban.join = some j) ∧ (s.ban.early = []) ∧ (j.active = true) :=
  ⟨(joining { active := true, acks := 2 }), frame, { active := true, acks := 2 }, by decide +kernel⟩

theorem test_witness_JoiningCommandsComplete_13 :
    ∃ (s : State) (a : Arrival) (j : Join), (s.hears a = true) ∧ (s.role ≠ roleCold) ∧ (s.ban.join = some j) ∧ (s.ban.early = []) ∧ (j.active = true) :=
  ⟨(joining { active := true, acks := 2 }), frame, { active := true, acks := 2 }, by decide +kernel⟩

theorem test_witness_JoiningCommandsComplete_14 :
    ∃ (s : State) (a : Arrival), (s.hears a = true) ∧ (s.logs = true) :=
  ⟨(joining { active := false, l := some 3 }), frame, by decide +kernel⟩

theorem test_witness_JoiningCommandsComplete_15 :
    ∃ (s : State) (a : Arrival) (j : Join), (s.hears a = true) ∧ (s.role ≠ roleCold) ∧ (s.ban.join = some j) ∧ (s.ban.early = []) ∧ (j.active = true) ∧ (j.upgrade = false) ∧ (j.j = none) :=
  ⟨(joining { active := true }), frame, { active := true }, by decide +kernel⟩

theorem test_witness_JoiningCommandsComplete_16 :
    ∃ (s : State) (a : Arrival) (j : Join), (s.hears a = true) ∧ (s.ban.join = some j) ∧ (j.active = false) ∧ (j.upgrade = false) :=
  ⟨(joining { active := false }), frame, { active := false }, by decide +kernel⟩

theorem test_witness_JoiningCommandsComplete_17 :
    ∃ (s : State) (n : Fin 16) (j : Join), (s.replays = true) ∧ (s.ban.join = some j) ∧ (j.due.contains n.val = true) ∧ (s.fastest ≠ some n.val) ∧ ((s.task n).latched = true) :=
  ⟨(({ joining { active := false, due := [2] } with scn := { live.scn with tasks := [(2, { latched := true })] } } : State).setPhase phReplay), 2, { active := false, due := [2] }, by decide +kernel⟩

theorem test_witness_JoiningCommandsComplete_18 :
    ∃ (s : State) (n : Fin 16) (j : Join), (s.replays = true) ∧ (s.ban.join = some j) ∧ (j.due.contains n.val = true) ∧ (s.fastest ≠ some n.val) ∧ ((s.task n).latched = true) :=
  ⟨(({ joining { active := false, due := [2] } with scn := { live.scn with tasks := [(2, { latched := true })] } } : State).setPhase phReplay), 2, { active := false, due := [2] }, by decide +kernel⟩

theorem test_witness_JoiningCommandsComplete_19 :
    ∃ (s : State) (j : Join) (b : List Byte) (n : Nat), (s.ban.join = some j) ∧ (j.topup = some b) ∧ (j.j = some n) ∧ (j.active = false) ∧ (j.due = []) ∧ (j.log = []) ∧ (s.replays = true) :=
  ⟨(joining { active := false, topup := some [], j := some 4 }).setPhase phTopup, { active := false, topup := some [], j := some 4 }, [], 4, by decide +kernel⟩

theorem test_witness_JoiningCommandsComplete_20 :
    ∃ (s : State) (a : Arrival) (j : Join), (s.hears a = true) ∧ (s.role ≠ roleCold) ∧ (s.ban.join = some j) ∧ (s.ban.early = []) ∧ (j.active = true) ∧ (j.upgrade = false) ∧ (j.j.isSome = true) :=
  ⟨(joining { active := true, j := some 4 }), frame, { active := true, j := some 4 }, by decide +kernel⟩

theorem test_witness_JoiningCommandsComplete_21 :
    ∃ (s : State) (m : Master), (s.allows m .w32 true Reg.BAN_JOIN_CMD.addr) ∧ (s.joinMay = true) :=
  ⟨cold, .debug, by decide +kernel⟩

theorem test_witness_UpgradeCommandsComplete_1 :
    ∃ (s : State) (m : Master), (s.allows m .w32 true Reg.BAN_JOIN_CMD.addr) ∧ (s.role = roleAlone ∨ s.role = roleActive) ∧ (s.on Reg.SCN_STAT_FORCE_PERMIT = true) :=
  ⟨(live.wr Reg.SCN_STAT_FORCE_PERMIT 1), .debug, by decide +kernel⟩

theorem test_witness_UpgradeCommandsComplete_2 :
    ∃ (s : State), (s.on Reg.BAN_JOIN_STAT_ADMIT = true) :=
  ⟨(live.wr Reg.BAN_JOIN_STAT_ADMIT 1), by decide +kernel⟩

theorem test_witness_UpgradeCommandsComplete_3 :
    ∃ (s : State) (m : Master) (j : Join), (s.allows m .w32 true Reg.BAN_JOIN_CMD.addr) ∧ (s.ban.join = some j) ∧ (j.active = true) ∧ (j.upgrade = true) ∧ (j.stopped = false) :=
  ⟨(joining { active := true, upgrade := true }), .debug, { active := true, upgrade := true }, by decide +kernel⟩

theorem test_witness_UpgradeCommandsComplete_4 :
    ∃ (s : State) (m : Master) (differ : BitVec 8) (j : Join), (s.allows m .w32 true Reg.BAN_JOIN_CMD.addr) ∧ ((s.swapCheck differ.toNat).1 = 0) ∧ (s.ban.join = some j) :=
  ⟨swappable, .debug, 0, swapJoin, by decide +kernel⟩

theorem test_witness_UpgradeCommandsComplete_5 :
    ∃ (s : State) (a : Arrival) (j : Join), (s.hears a = true) ∧ (s.ban.join = some j) ∧ (j.active = false) ∧ (j.upgrade = true) :=
  ⟨(joining { active := false, upgrade := true }), frame, { active := false, upgrade := true }, by decide +kernel⟩

theorem test_witness_UpgradeCommandsComplete_6 :
    ∃ (s : State) (j : Join) (n : Nat), (s.ban.join = some j) ∧ (j.swapAt = some n) ∧ (j.active = true) ∧ (j.upgrade = true) ∧ (j.stopped = false) ∧ (s.scn.ticks + 1 = n) :=
  ⟨(joining { active := true, upgrade := true, swapAt := some 1 }), { active := true, upgrade := true, swapAt := some 1 }, 1, by decide +kernel⟩

theorem test_witness_UpgradeCommandsComplete_7 :
    ∃ (s : State) (a : Arrival) (j : Join), (s.hears a = true) ∧ (s.role ≠ roleCold) ∧ (s.ban.join = some j) ∧ (s.ban.early = []) ∧ (j.active = true) ∧ (j.stopped = true) ∧ (s.ban.ho = none) :=
  ⟨(joining { active := true, stopped := true }), frame, { active := true, stopped := true }, by decide +kernel⟩

theorem test_witness_UpgradeCommandsComplete_8 :
    ∃ (s : State), (s.power.running = true) ∧ (s.latentCount.rd Reg.BAN_LATENT_LIMIT ≠ 0) ∧ (s.latentCount.rd Reg.BAN_LATENT_LIMIT ≤ s.latentCount.rd Reg.BAN_LATENT_HOURS) ∧ (s.ban.latDone = false) :=
  ⟨(live.wr Reg.BAN_LATENT_LIMIT 2).wr Reg.BAN_LATENT_HOURS 3, by decide +kernel⟩

theorem test_witness_SafetyDomainCommandsComplete_1 :
    ∃ (s : State), (s.saf.powered = true) ∧ (s.rd Reg.SAF_STAT_STATE = 0) :=
  ⟨(safety 0), by decide +kernel⟩

theorem test_witness_SafetyDomainCommandsComplete_2 :
    ∃ (s : State), (s.saf.powered = true) ∧ (s.rd Reg.SAF_STAT_STATE ≠ 0) :=
  ⟨(safety 2), by decide +kernel⟩

theorem test_witness_SafetyDomainCommandsComplete_3 :
    ∃ (s : State), (s.saf.powered = true) ∧ (s.rd Reg.SAF_STAT_STATE ≠ 0) :=
  ⟨(safety 2), by decide +kernel⟩

theorem test_witness_SafetyDomainCommandsComplete_4 :
    ∃ (s : State) (n : Nat), (s.saf.powered = true) ∧ (s.rd Reg.SAF_STAT_STATE ≠ 0) ∧ (s.saf.cycleAt = some n) ∧ (s.safClock < n + 9500000) :=
  ⟨(let s := safety 2; { s with saf := { s.saf with cycleAt := some 0 } }), 0, by decide +kernel⟩

theorem test_witness_SafetyDomainCommandsComplete_5 :
    ∃ (s : State), (s.saf.powered = true) :=
  ⟨(safety 2), by decide +kernel⟩

theorem test_witness_SafetyDomainCommandsComplete_6 :
    ∃ (s : State), (s.saf.powered = true) ∧ (s.rd Reg.SAF_STAT_STATE = 0) :=
  ⟨(safety 0), by decide +kernel⟩

theorem test_witness_SafetyDomainCommandsComplete_7 :
    ∃ (s : State), (s.saf.powered = true) ∧ (s.saf.offered ≠ []) ∧ (s.rd Reg.SAF_STAT_STATE = 3) :=
  ⟨(let s := safety 3; { s with saf := { s.saf with offered := [1] } }), by decide +kernel⟩

theorem test_witness_SafetyDomainCommandsComplete_8 :
    ∃ (s : State) (l : Fin 8), (s.saf.powered = true) ∧ (s.rd Reg.SAF_STAT_STATE ≠ 0) ∧ (bitAt s.linesOn l = true) :=
  ⟨(let s := safety 2; { s with saf := { s.saf with section_ := List.replicate 1600 255 } }), 3, by decide +kernel⟩

theorem test_witness_SafetyDomainCommandsComplete_9 :
    ∃ (s : State) (l : Fin 8), (bitAt s.saf.smpDue l = true) :=
  ⟨(let s := safety 2; { s with saf := { s.saf with smpDue := 8 } }), 3, by decide +kernel⟩

theorem test_witness_SafetyDomainCommandsComplete_10 :
    ∃ (s : State) (f : Fin 64), (s.saf.powered = true) ∧ (s.rd (Reg.SAF_FUNC_STATE f) = funExcursion) :=
  ⟨(safety 2).wr (Reg.SAF_FUNC_STATE 4) funExcursion, 4, by decide +kernel⟩

theorem test_witness_SafetyDomainCommandsComplete_11 :
    ∃ (s : State) (x : SafExc), (s.saf.powered = true) ∧ (s.on Reg.TRP_STAT_EXCURSION = true) ∧ (s.saf.excM = some x) :=
  ⟨(let s := (safety 2).wr Reg.TRP_STAT_EXCURSION 1; { s with saf := { s.saf with excM := some { since := 0, until_ := 9 } } }), { since := 0, until_ := 9 }, by decide +kernel⟩

theorem test_witness_SafetyDomainCommandsComplete_12 :
    ∃ (s : State), (s.saf.powered = true) ∧ (s.rd Reg.SAF_STAT_STATE ≠ 0) :=
  ⟨(safety 2), by decide +kernel⟩

theorem test_witness_SafetyDomainCommandsComplete_13 :
    ∃ (s : State) (f : Fin 64), (s.saf.powered = true) ∧ (s.on (Reg.SAF_FUNC_CHECK f) = true) ∧ ((s.excOf f).until_ ≤ (Assoc.find? s.saf.checkAt f).getD s.safClock + minute) :=
  ⟨(safety 2).wr (Reg.SAF_FUNC_CHECK 4) 1, 4, by decide +kernel⟩

theorem test_witness_SafetyDomainCommandsComplete_14 :
    ∃ (s : State) (f : Fin 64) (proc : Bool) (u : State), (s.saf.powered = true) ∧ (s.on (Reg.SAF_FUNC_CHECK f) = true) ∧ ((Assoc.find? s.saf.checkAt f).getD s.safClock + minute < (s.excOf f).until_) ∧ (u = (s.waitTo ((Assoc.find? s.saf.checkAt f).getD s.safClock + minute)).wr (Reg.SAF_FUNC_CHECK f) 0) ∧ (u.funReturned f proc = true) :=
  ⟨(let s := (safety 2).wr (Reg.SAF_FUNC_CHECK 4) 1; { s with saf := { s.saf with clean := [(4, true)], exc := [(4, { since := 0, until_ := 90000000000 })] } }), 4, false, (((let s := (safety 2).wr (Reg.SAF_FUNC_CHECK 4) 1; { s with saf := { s.saf with clean := [(4, true)], exc := [(4, { since := 0, until_ := 90000000000 })] } } : State)).waitTo minute).wr (Reg.SAF_FUNC_CHECK 4) 0, by decide +kernel⟩

theorem test_witness_SafetyDomainCommandsComplete_15 :
    ∃ (s : State) (f : Fin 64) (proc : Bool) (u : State), (s.saf.powered = true) ∧ (s.on (Reg.SAF_FUNC_CHECK f) = true) ∧ ((Assoc.find? s.saf.checkAt f).getD s.safClock + minute < (s.excOf f).until_) ∧ (u = (s.waitTo ((Assoc.find? s.saf.checkAt f).getD s.safClock + minute)).wr (Reg.SAF_FUNC_CHECK f) 0) ∧ (u.funReturned f proc = false) :=
  ⟨(let s := (safety 2).wr (Reg.SAF_FUNC_CHECK 4) 1; { s with saf := { s.saf with exc := [(4, { since := 0, until_ := 90000000000 })] } }), 4, false, (((let s := (safety 2).wr (Reg.SAF_FUNC_CHECK 4) 1; { s with saf := { s.saf with exc := [(4, { since := 0, until_ := 90000000000 })] } } : State)).waitTo minute).wr (Reg.SAF_FUNC_CHECK 4) 0, by decide +kernel⟩

theorem test_witness_SafetyDomainCommandsComplete_16 :
    ∃ (s : State) (k : Fin 8) (spa : Bool) (spb : Bool), ((spa || spb) = true) ∧ (s.islFitted k = true) ∧ ((s.island k).alive = true) :=
  ⟨(field 0 {}), 1, true, false, by decide +kernel⟩

theorem test_witness_SafetyDomainCommandsComplete_17 :
    ∃ (s : State) (k : Fin 8) (spa : Bool) (spb : Bool), ((spa || spb) = true) ∧ (s.islFitted k = true) ∧ (s.saf.powered = true) ∧ (s.safOwned k = true) :=
  ⟨(let s := safety 2; { s with saf := { s.saf with section_ := List.replicate 1600 255 } }), 1, true, false, by decide +kernel⟩

theorem test_witness_SafetyDomainCommandsComplete_18 :
    ∃ (s : State), (s.saf.powered = true) :=
  ⟨(safety 2), by decide +kernel⟩

theorem test_witness_SafetyCommandsComplete_1 :
    ∃ (s : State) (m : Master) (f : Fin 64), (s.allows m .w32 true Reg.SAF_CMD.addr) ∧ (s.saf.powered = true) ∧ (s.rd (Reg.SAF_FUNC_STATE f) = funExcursion) ∧ (s.on (Reg.SAF_FUNC_CHECK f) = false) ∧ (s.on Reg.SAF_STAT_KEY_MAINT = true) :=
  ⟨((safety 2).wr (Reg.SAF_FUNC_STATE 4) funExcursion).wr Reg.SAF_STAT_KEY_MAINT 1, .debug, 4, by decide +kernel⟩

theorem test_witness_SafetyCommandsComplete_2 :
    ∃ (s : State) (m : Master) (f : Fin 64), (s.allows m .w32 true Reg.SAF_CMD.addr) ∧ (s.saf.powered = true) ∧ (s.rd (Reg.SAF_FUNC_STATE f) = funTripped) ∧ (s.funPasses f = true) :=
  ⟨(safety 2).wr (Reg.SAF_FUNC_STATE 4) funTripped, .debug, 4, by decide +kernel⟩

theorem test_witness_SafetyCommandsComplete_3 :
    ∃ (s : State) (m : Master), (s.allows m .w32 true Reg.SAF_CMD.addr) ∧ (s.saf.powered = true) ∧ (s.on Reg.TRP_STAT_EXCURSION = true) ∧ (s.saf.excCheck = none) ∧ (s.on Reg.SAF_STAT_KEY_MAINT = true) :=
  ⟨((safety 2).wr Reg.TRP_STAT_EXCURSION 1).wr Reg.SAF_STAT_KEY_MAINT 1, .debug, by decide +kernel⟩

theorem test_witness_SafetyCommandsComplete_4 :
    ∃ (s : State) (ok : Bool) (x : SafExc), (s.saf.excCheck = some ok) ∧ (s.saf.excM = some x) ∧ (x.until_ ≤ s.saf.checkMAt + minute) :=
  ⟨(let s := safety 2; { s with saf := { s.saf with excCheck := some false, excM := some { since := 0, until_ := 9 } } }), false, { since := 0, until_ := 9 }, by decide +kernel⟩

theorem test_witness_SafetyCommandsComplete_5 :
    ∃ (s : State) (x : SafExc), (s.saf.excCheck = some false) ∧ (s.saf.excM = some x) ∧ (s.saf.checkMAt + minute < x.until_) :=
  ⟨(let s := safety 2; { s with saf := { s.saf with excCheck := some false, excM := some { since := 0, until_ := 90000000000 } } }), { since := 0, until_ := 90000000000 }, by decide +kernel⟩

theorem test_witness_SafetyCommandsComplete_6 :
    ∃ (s : State) (x : SafExc), (s.saf.excCheck = some true) ∧ (s.saf.excM = some x) ∧ (s.saf.checkMAt + minute < x.until_) :=
  ⟨(let s := safety 2; { s with saf := { s.saf with excCheck := some true, excM := some { since := 0, until_ := 90000000000 } } }), { since := 0, until_ := 90000000000 }, by decide +kernel⟩

theorem test_witness_SafetyCommandsComplete_7 :
    ∃ (s : State) (m : Master) (value : Word), (s.allows m .w32 true Reg.TRP_REQ.addr) ∧ (bits value.toNat 0 8 ≠ s.rd Reg.TRP_REQ_REQ) :=
  ⟨(safety 2), .debug, 5, by decide +kernel⟩

theorem test_witness_SafetyCommandsComplete_8 :
    ∃ (s : State) (m : Master) (value : Word), (s.allows m .w32 true Reg.TRP_FIRST.addr) ∧ (bitAt value.toNat 31 = true) :=
  ⟨live, .debug, 0x80000000, by decide +kernel⟩

theorem test_witness_SafetyCommandsComplete_9 :
    ∃ (s : State), (s.saf.powered = true) :=
  ⟨(safety 2), by decide +kernel⟩

theorem test_witness_SafetyCommandsComplete_10 :
    ∃ (s : State) (n : Fin 8), (s.saf.powered = true) ∧ (s.sinkDark n = true) :=
  ⟨(let s := safety 2; { s with saf := { s.saf with section_ := List.replicate 1600 255 } }), 3, by decide +kernel⟩

theorem test_witness_IslandFramesComplete_1 :
    ∃ (s : State) (k : Fin 8), (s.power.running = true) ∧ (s.islFitted k = true) :=
  ⟨live, 0, by decide +kernel⟩

theorem test_witness_IslandFramesComplete_2 :
    ∃ (s : State) (k : Fin 8), (s.power.running = true) ∧ (s.islFitted k = true) ∧ ((s.island k).alive = false) :=
  ⟨live, 0, by decide +kernel⟩

theorem test_witness_IslandFramesComplete_3 :
    ∃ (s : State) (k : Fin 8), (s.power.running = true) ∧ (s.islFitted k = true) ∧ ((s.island k).alive = true) :=
  ⟨(field 3 {}), 1, by decide +kernel⟩

theorem test_witness_IslandFramesComplete_4 :
    ∃ (s : State) (k : Fin 8), ((s.island k).alive = true) ∧ ((s.island k).sent ≠ []) :=
  ⟨{ live with isl := [(1, { alive := true, sent := [4] })] }, 1, by decide +kernel⟩

theorem test_witness_IslandFramesComplete_5 :
    ∃ (s : State) (k : Fin 8), ((s.island k).alive = true) :=
  ⟨(field 3 {}), 1, by decide +kernel⟩

theorem test_witness_IslandFramesComplete_6 :
    ∃ (s : State) (k : Fin 8) (supply : Nat), ((s.island k).alive = false) ∧ (s.islFitted k = true) ∧ (11000 ≤ supply) :=
  ⟨live, 1, 24000, by decide +kernel⟩

theorem test_witness_IslandFramesComplete_7 :
    ∃ (s : State) (k : Fin 8), ((s.island k).alive = true) :=
  ⟨(field 3 {}), 1, by decide +kernel⟩

theorem test_witness_IslandFramesComplete_8 :
    ∃ (s : State) (k : Fin 8) (supply : Nat), ((s.island k).alive = true) ∧ (supply < 15000) :=
  ⟨(field 3 {}), 1, 14000, by decide +kernel⟩

theorem test_witness_IslandFramesComplete_9 :
    ∃ (s : State) (k : Fin 8) (supply : Nat), ((s.island k).alive = true) ∧ (19200 < supply) ∧ ((s.island k).sagOff = true) ∧ (bitAt ((s.island k).par 128) 1 = false) :=
  ⟨{ live with isl := [(1, { alive := true, sagOff := true })] }, 1, 24000, by decide +kernel⟩

theorem test_witness_IslandFramesComplete_10 :
    ∃ (s : State) (k : Fin 8) (supply : Nat), ((s.island k).alive = true) ∧ (19200 < supply) ∧ ((s.island k).sagOff = false) ∧ ((s.island k).unc = true) ∧ (bitAt ((s.island k).par 128) 1 = false) :=
  ⟨{ live with isl := [(1, { alive := true, unc := true })] }, 1, 24000, by decide +kernel⟩

theorem test_witness_IslandFramesComplete_11 :
    ∃ (s : State) (m : Master) (k : Fin 8), (s.allows m .w32 true (Reg.ISL_CMD k).addr) ∧ (s.islFault k = false) ∧ (s.on (Reg.ISL_STAT_SAG_OFF k) = true) ∧ (s.on (Reg.ISL_STAT_RESTORE_READY k) = true) :=
  ⟨(((live.wr (Reg.ISL_STAT_BARRIER_FAULT 1) 0).wr (Reg.ISL_STAT_SAG_OFF 1) 1).wr (Reg.ISL_STAT_RESTORE_READY 1) 1), .debug, 1, by decide +kernel⟩

theorem test_witness_IslandFramesComplete_12 :
    ∃ (s : State) (m : Master) (k : Fin 8), (s.allows m .w32 true (Reg.ISL_CMD k).addr) :=
  ⟨(live.wr (Reg.ISL_CH_CNT 1 2) 7), .debug, 1, by decide +kernel⟩

theorem test_witness_IslandFramesComplete_13 :
    ∃ (s : State) (k : Fin 8), ((List.range 8).any (fun c => ((s.island k).chan c).waiting) = true) :=
  ⟨(field 3 { waiting := true }), 1, by decide +kernel⟩

theorem test_witness_IslandFramesComplete_14 :
    ∃ (s : State) (k : Fin 8), (s.islFitted k = true) :=
  ⟨live, 1, by decide +kernel⟩

theorem test_witness_DigitalChannelsComplete_1 :
    ∃ (s : State) (k : Fin 8), ((s.island k).alive = true) :=
  ⟨(field 1 {}), 1, by decide +kernel⟩

theorem test_witness_DigitalChannelsComplete_2 :
    ∃ (s : State) (k : Fin 8) (c : Fin 8) (uA : Nat), ((s.island k).alive = true) ∧ ((s.island k).pers c = 2) ∧ (((s.island k).chan c).wb = false) ∧ (uA < 350) :=
  ⟨(field 2 {}), 1, 2, 5, by decide +kernel⟩

theorem test_witness_DigitalChannelsComplete_3 :
    ∃ (s : State) (k : Fin 8) (c : Fin 8), ((s.island k).alive = true) ∧ (((s.island k).chan c).wb = true) :=
  ⟨(field 2 { wb := true }), 1, 2, by decide +kernel⟩

theorem test_witness_DigitalChannelsComplete_4 :
    ∃ (s : State) (k : Fin 8) (c : Fin 8), ((s.island k).alive = true) ∧ (persDo ((s.island k).pers c) = true) ∧ (((s.island k).chan c).closed = true) :=
  ⟨(field 3 { closed := true }), 1, 2, by decide +kernel⟩

theorem test_witness_DigitalChannelsComplete_5 :
    ∃ (s : State) (k : Fin 8) (c : Fin 8), ((s.island k).alive = true) ∧ (((s.island k).chan c).overload = true) ∧ (((s.island k).setChan c { (s.island k).chan c with retrying := true }).eff c = true) :=
  ⟨(field 3 { overload := true, word := 1 }), 1, 2, by decide +kernel⟩

theorem test_witness_DigitalChannelsComplete_6 :
    ∃ (s : State) (k : Fin 8) (total : Nat) (c : Nat), ((s.island k).alive = true) ∧ (2000 < total) ∧ ((List.range 8).reverse.find? (fun c => ((s.island k).chan c).closed && persDo ((s.island k).pers c)) = some c) :=
  ⟨(field 3 { closed := true }), 1, 2100, 2, by decide +kernel⟩

theorem test_witness_DigitalChannelsComplete_7 :
    ∃ (s : State) (k : Fin 8) (total : Nat) (first : Nat), ((s.island k).alive = true) ∧ (total ≤ 2000) ∧ ((s.island k).gTotal = some first) :=
  ⟨{ live with isl := [(1, { alive := true, gTotal := some 2100 })] }, 1, 1000, 2100, by decide +kernel⟩

theorem test_witness_AnalogueChannelsComplete_1 :
    ∃ (s : State) (k : Fin 8) (c : Fin 8), ((s.island k).alive = true) ∧ ((s.island k).pers c = 4) :=
  ⟨(field 4 {}), 1, 2, by decide +kernel⟩

theorem test_witness_AnalogueChannelsComplete_2 :
    ∃ (s : State) (k : Fin 8) (c : Fin 8), ((s.island k).alive = true) ∧ ((s.island k).pers c = 4) ∧ ((s.island k).par (16 * c + 5) = 0) :=
  ⟨(field 4 {}), 1, 2, by decide +kernel⟩

theorem test_witness_AnalogueChannelsComplete_3 :
    ∃ (s : State) (k : Fin 8) (c : Fin 8), ((s.island k).alive = true) ∧ ((s.island k).pers c = 4) ∧ (bitAt ((s.island k).par (16 * c + 6)) 1 = true) ∧ (((s.island k).chan c).txOver = false) :=
  ⟨{ live with isl := [(1, { alive := true, params := [(32, ⟨4, 0, some 4⟩), (38, ⟨2, 0, some 2⟩)] })] }, 1, 2, by decide +kernel⟩

theorem test_witness_AnalogueChannelsComplete_4 :
    ∃ (s : State) (k : Fin 8) (c : Fin 8), (((s.island k).chan c).txOver = true) :=
  ⟨(field 4 { txOver := true }), 1, 2, by decide +kernel⟩

theorem test_witness_AnalogueChannelsComplete_5 :
    ∃ (s : State) (k : Fin 8) (c : Fin 8) (target : Nat), ((s.island k).alive = true) ∧ ((s.island k).pers c = 5) ∧ (target = ((s.island k).aoRequest (if ((s.island k).chan c).buckFor = some (((s.island k).aoRequest s.frc c).getD 0) then (s.waitTo (((s.island k).chan c).buckAt + 1000000)).frc else s.frc) c).getD 0) :=
  ⟨(field 5 {}), 1, 2, ((field 5 {}).island 1).aoRequest 0 2 |>.getD 0, by decide +kernel⟩

theorem test_witness_AnalogueChannelsComplete_6 :
    ∃ (s : State) (k : Fin 8) (c : Fin 8) (temp : Int), ((s.island k).alive = true) ∧ ((s.island k).pers c = 5) ∧ (((s.island k).chan c).thermal = false) ∧ (1350 < temp) :=
  ⟨(field 5 {}), 1, 2, 1400, by decide +kernel⟩

theorem test_witness_AnalogueChannelsComplete_7 :
    ∃ (s : State) (k : Fin 8) (c : Fin 8) (temp : Int), ((s.island k).alive = true) ∧ (((s.island k).chan c).thermal = true) ∧ (temp < 1100) :=
  ⟨(field 5 { thermal := true }), 1, 2, 1000, by decide +kernel⟩

theorem test_witness_AnalogueChannelsComplete_8 :
    ∃ (s : State) (k : Fin 8) (c : Fin 8) (n : Nat), (((s.island k).chan c).defAt = some n) ∧ (s.islFault k = false) ∧ (s.on (Reg.ISL_AN_STAT_COMPLIANCE k c) = false) :=
  ⟨(field 5 { defAt := some 0 }).wr (Reg.ISL_STAT_BARRIER_FAULT 1) 0, 1, 2, 0, by decide +kernel⟩

theorem test_witness_AnalogueChannelsComplete_9 :
    ∃ (s : State) (k : Fin 8) (c : Fin 8) (n : Nat), (((s.island k).chan c).fitAt = some n) ∧ (s.islFault k = false) ∧ (s.on (Reg.ISL_AN_STAT_COMPLIANCE k c) = true) :=
  ⟨((field 5 { fitAt := some 0 }).wr (Reg.ISL_STAT_BARRIER_FAULT 1) 0).wr (Reg.ISL_AN_STAT_COMPLIANCE 1 2) 1, 1, 2, 0, by decide +kernel⟩

theorem test_witness_AnalogueChannelsComplete_10 :
    ∃ (s : State) (k : Fin 8) (c : Fin 8), (s.on (Reg.ISL_AN_STAT_COMPLIANCE k c) = true) ∧ (bits (s.chFail k c) 25 3 ≠ 7) ∧ (s.on (Reg.ISL_AN_STAT_COMP_FAULT k c) = false) ∧ ((s.island k).aoRow c = 4) :=
  ⟨(field 5 {}).wr (Reg.ISL_AN_STAT_COMPLIANCE 1 2) 1, 1, 2, by decide +kernel⟩

theorem test_witness_AnalogueChannelsComplete_11 :
    ∃ (s : State) (k : Fin 8) (c : Fin 8) (vterm : Nat) (opened : Bool), ((s.island k).alive = true) ∧ ((s.island k).pers c = 6) ∧ ((opened || decide (vterm < 7000)) = !((s.island k).chan c).stopped) :=
  ⟨(field 6 {}), 1, 2, 6000, false, by decide +kernel⟩

theorem test_witness_AnalogueChannelsComplete_12 :
    ∃ (s : State) (k : Fin 8) (c : Fin 8) (n : Nat), (((s.island k).chan c).agrAt = some n) ∧ (s.on (Reg.ISL_AN_STAT_READBACK k c) = true) :=
  ⟨(field 5 { agrAt := some 0 }).wr (Reg.ISL_AN_STAT_READBACK 1 2) 1, 1, 2, 0, by decide +kernel⟩

theorem test_witness_AnalogueChannelsComplete_13 :
    ∃ (s : State) (m : Master) (k : Fin 8) (c : Fin 8) (value : Word), (s.allows m .w32 true (Reg.ISL_AN_TRIM k c).addr) ∧ (s.chAnalog k c = true) ∧ (s.on Reg.SCN_STAT_FORCE_PERMIT = true) ∧ (trimOk value.toNat = true) ∧ (s.keyOpen k c = false) :=
  ⟨(analog.wr Reg.SCN_STAT_FORCE_PERMIT 1), .debug, 1, 2, 0x40000000, by decide +kernel⟩

theorem test_witness_FrontKeysComplete_1 :
    ∃ (s : State) (k : Fin 8) (c : Fin 8), (s.power.running = true) ∧ (s.keyMaint = true) ∧ (s.key = none) ∧ (s.nbPanel = true) ∧ (s.nbStrip = true) ∧ (s.chAnalog k c = true) ∧ (s.islFault k = false) :=
  ⟨{ analog with keyMaint := true }, 1, 2, by decide +kernel⟩

theorem test_witness_FrontKeysComplete_2 :
    ∃ (s : State) (y : KeySession), (s.key = some y) ∧ (y.island < 8) ∧ (y.ch < 8) ∧ (y.span = true) ∧ (bits (s.rd (Reg.ISL_AN_TRIM y.island y.ch)) 16 16 < 0xFFFF) ∧ (trimOk ((bits (s.rd (Reg.ISL_AN_TRIM y.island y.ch)) 16 16 + 1) * 2 ^ 16 + bits (s.rd (Reg.ISL_AN_TRIM y.island y.ch)) 0 16) = true) :=
  ⟨{ analog.wr (Reg.ISL_AN_TRIM 1 2) 0x40000000 with key := some ⟨1, 2, true, 0, 0⟩ }, ⟨1, 2, true, 0, 0⟩, by decide +kernel⟩

theorem test_witness_FrontKeysComplete_3 :
    ∃ (s : State) (y : KeySession), (s.key = some y) ∧ (y.island < 8) ∧ (y.ch < 8) ∧ (y.span = true) ∧ (0 < bits (s.rd (Reg.ISL_AN_TRIM y.island y.ch)) 16 16) ∧ (trimOk ((bits (s.rd (Reg.ISL_AN_TRIM y.island y.ch)) 16 16 - 1) * 2 ^ 16 + bits (s.rd (Reg.ISL_AN_TRIM y.island y.ch)) 0 16) = true) :=
  ⟨{ analog.wr (Reg.ISL_AN_TRIM 1 2) 0x40000000 with key := some ⟨1, 2, true, 0, 0⟩ }, ⟨1, 2, true, 0, 0⟩, by decide +kernel⟩

theorem test_witness_FrontKeysComplete_4 :
    ∃ (s : State) (y : KeySession), (s.key = some y) ∧ (y.island < 8) ∧ (y.ch < 8) :=
  ⟨{ analog with key := some ⟨1, 2, true, 0, 0⟩ }, ⟨1, 2, true, 0, 0⟩, by decide +kernel⟩

theorem test_witness_FrontKeysComplete_5 :
    ∃ (s : State) (y : KeySession), (s.key = some y) ∧ (y.island < 8) ∧ (y.ch < 8) :=
  ⟨{ analog with key := some ⟨1, 2, true, 0, 0⟩ }, ⟨1, 2, true, 0, 0⟩, by decide +kernel⟩

theorem test_witness_FrontKeysComplete_6 :
    ∃ (s : State) (y : KeySession), (s.key = some y) ∧ (y.island < 8) ∧ (y.ch < 8) :=
  ⟨{ analog with key := some ⟨1, 2, true, 0, 0⟩ }, ⟨1, 2, true, 0, 0⟩, by decide +kernel⟩

theorem test_witness_FrontKeysComplete_7 :
    ∃ (s : State), (s.power.running = true) :=
  ⟨live, by decide +kernel⟩

theorem test_witness_FrontKeysComplete_8 :
    ∃ (s : State), (s.power.running = true) ∧ (s.keyMaint = true) :=
  ⟨{ live with keyMaint := true }, by decide +kernel⟩

theorem test_witness_CanChannelsComplete_1 :
    ∃ (s : State) (c : Fin 8) (x : CanFrame), (s.canState c = canMonitor) ∧ (s.fltFirst c 0 4 x = none) ∧ (s.fltFirst c 4 60 x = none) :=
  ⟨(comms.wr (Reg.CAN_STAT_STATE 1) canMonitor), 1, canX, by decide +kernel⟩

theorem test_witness_CanChannelsComplete_2 :
    ∃ (s : State) (c : Fin 8) (x : CanFrame) (f : Nat), (s.canState c = canMonitor) ∧ (s.fltFirst c 0 4 x = none) ∧ (s.fltFirst c 4 60 x = some f) ∧ (s.leads = true) :=
  ⟨(comms.wr (Reg.CAN_STAT_STATE 1) canMonitor).wr (Reg.CAN_FLT_ID 1 5) 0x80000000, 1, canX, 5, by decide +kernel⟩

theorem test_witness_CanChannelsComplete_3 :
    ∃ (s : State) (m : Master) (c : Fin 8) (value : Word), (s.allows m .w32 true (Reg.CAN_HP_ACK c).addr) ∧ (value.toNat % 2 = 1) ∧ (0 < s.rd (Reg.CAN_HP_STAT_COUNT c)) :=
  ⟨(comms.wr (Reg.CAN_HP_STAT_COUNT 1) 2), .debug, 1, 1, by decide +kernel⟩

theorem test_witness_CanChannelsComplete_4 :
    ∃ (s : State) (c : Fin 8) (u : State), (s.canMaySend c = true) ∧ (s.txReady (s.canEvq c) = true) ∧ (u = s.headWait (s.canEvq c)) ∧ (u.canCheck c (u.txEntry (s.canEvq c)) = 0) ∧ (u.canEventFits c (u.txEntry (s.canEvq c)) = true) :=
  ⟨(comms.wr (Reg.CAN_STAT_STATE 1) canActive), 1, (comms.wr (Reg.CAN_STAT_STATE 1) canActive).headWait 1, by decide +kernel⟩

theorem test_witness_CanChannelsComplete_5 :
    ∃ (s : State) (c : Fin 8) (f : Flight), ((s.canCh c).flight = some f) :=
  ⟨flying, 1, { queue := 1, stamp := 0 }, by decide +kernel⟩

theorem test_witness_CanChannelsComplete_6 :
    ∃ (s : State) (c : Fin 8) (f : Flight) (u : State), ((s.canCh c).flight = some f) ∧ (bitAt (le (s.txEntry f.queue) 0 1) 4 = false) ∧ (f.window = false) ∧ (u = s.setCanCh c { s.canCh c with flight := none, tried := Assoc.insert (s.canCh c).tried f.queue (f.attempts, f.stamp) }) ∧ (u.canEventFits c (s.txEntry f.queue) = true) :=
  ⟨flying, 1, { queue := 1, stamp := 0 }, (flying.setCanCh 1 { flying.canCh 1 with flight := none, tried := Assoc.insert (flying.canCh 1).tried 1 (1, 0) }), by decide +kernel⟩

theorem test_witness_CanChannelsComplete_7 :
    ∃ (s : State) (c : Fin 8), (s.canState c = canActive) ∧ (256 ≤ s.rd (Reg.CAN_ERRCNT_TEC c)) :=
  ⟨(flying.wr (Reg.CAN_STAT_STATE 1) canActive).wr (Reg.CAN_ERRCNT_TEC 1) 256, 1, by decide +kernel⟩

theorem test_witness_CanChannelsComplete_8 :
    ∃ (s : State) (c : Fin 8), (s.canState c = canRecovering) :=
  ⟨(comms.wr (Reg.CAN_STAT_STATE 1) canRecovering), 1, by decide +kernel⟩

theorem test_witness_CanChannelsComplete_9 :
    ∃ (s : State) (m : Master) (c : Fin 8), (s.allows m .w32 true (Reg.CAN_CMD c).addr) ∧ (s.role ≠ 3) ∧ (s.canMode c ≠ 0) ∧ (s.canState c = canBusOff) :=
  ⟨(comms.wr (Reg.CAN_STAT_STATE 1) canBusOff), .debug, 1, by decide +kernel⟩

theorem test_witness_CanChannelsComplete_10 :
    ∃ (s : State) (m : Master) (c : Fin 8), (s.allows m .w32 true (Reg.CAN_CMD c).addr) ∧ (s.role ≠ 3) ∧ (s.canMode c ≠ 0) :=
  ⟨comms, .debug, 1, by decide +kernel⟩

theorem test_witness_CanChannelsComplete_11 :
    ∃ (s : State) (c : Fin 8), (s.canState c = canActive) :=
  ⟨(comms.wr (Reg.CAN_STAT_STATE 1) canActive), 1, by decide +kernel⟩

theorem test_witness_CanChannelsComplete_12 :
    ∃ (s : State) (c : Fin 8) (basic : Fin 16) (win : Fin 64), (s.canTtMay c basic win = true) ∧ ((s.canCh c).flight.isSome = true) :=
  ⟨{ windows with can := [(1, { flight := some { queue := 1, stamp := 0 } })] }, 1, 0, 0, by decide +kernel⟩

theorem test_witness_CanChannelsComplete_13 :
    ∃ (s : State) (c : Fin 8) (basic : Fin 16) (win : Fin 64) (u : State) (q : Nat) (n : Nat), (s.canTtMay c basic win = true) ∧ (u = (s.canToWindow c basic win).canShowWindow c basic win) ∧ (q = u.canTtqBase c + le (u.canWindow c basic win) 7 1) ∧ (u.canEligible c q = true) ∧ ((u.canCh c).flight = none) ∧ (u.canCheck c (u.txEntry q) = 0) ∧ (u.canLatest c basic win (u.txEntry q) = some n) ∧ (u.canSince c (u.canStart c basic win) ≤ n) :=
  ⟨eligible, 1, 0, 0, (eligible.canToWindow 1 0 0).canShowWindow 1 0 0, 1, (((eligible.canToWindow 1 0 0).canShowWindow 1 0 0).canLatest 1 0 0 (eligible.txEntry 1)).getD 0, by decide +kernel⟩

theorem test_witness_CanChannelsComplete_14 :
    ∃ (s : State) (c : Fin 8) (basic : Fin 16) (win : Fin 64), (s.canTtMay c basic win = true) ∧ (s.canEligible c (s.canTtqBase c + le (s.canWindow c basic win) 7 1) = true) ∧ ((s.canCh c).flight = none) :=
  ⟨eligible, 1, 0, 0, by decide +kernel⟩

theorem test_witness_CanChannelsComplete_15 :
    ∃ (s : State) (c : Fin 8), (s.canState c = canJoining) ∧ (s.inControl = true) :=
  ⟨(comms.wr (Reg.CAN_STAT_STATE 1) canJoining), 1, by decide +kernel⟩

theorem test_witness_CanChannelsComplete_16 :
    ∃ (s : State) (m : Master) (c : Fin 8) (f : Fin 64) (which : CanFlt) (a : Nat), (a = (match which with | .id => (Reg.CAN_FLT_ID c f).addr | .mask => (Reg.CAN_FLT_MASK c f).addr)) ∧ (s.allows m .w32 true a) ∧ (s.canRec c ≠ []) ∧ (s.inControl = true) :=
  ⟨comms, .debug, 1, 5, .id, (Reg.CAN_FLT_ID 1 5).addr, by decide +kernel⟩

theorem test_witness_EthernetPortsComplete_1 :
    ∃ (s : State) (p : Fin 6), (s.ethLink p = true) :=
  ⟨comms, 0, by decide +kernel⟩

theorem test_witness_EthernetPortsComplete_2 :
    ∃ (s : State) (p : Fin 6) (f : List Byte), (s.ethLink p = true) ∧ (60 ≤ f.length) ∧ (f.length ≤ 1518) ∧ (be f 12 4 ≠ 0x88080001) ∧ (s.ethJoined p = true) ∧ (s.ethRow p f = 5) ∧ (p.val ≠ 5) ∧ (ethGroup f = false) :=
  ⟨{ comms with ident := { macs := [[2, 0, 0, 0, 0, 1]] } }, 0, [2, 0, 0, 0, 0, 1] ++ List.replicate 6 0 ++ [8] ++ List.replicate 60 0, by decide +kernel⟩

theorem test_witness_EthernetPortsComplete_3 :
    ∃ (s : State) (p : Fin 6) (u : State), (s.ethJoined p = true) ∧ (s.mayStart = true) ∧ ((s.ethPort p).flight = none) ∧ (s.txReady (s.ethTxq p) = true) ∧ (u = s.headWait (s.ethTxq p)) ∧ (u.ethCheck p (u.txEntry (s.ethTxq p)) = 0) :=
  ⟨comms, 0, (comms.headWait 2), by decide +kernel⟩

theorem test_witness_EthernetPortsComplete_4 :
    ∃ (s : State) (p : Fin 6) (f : Flight), ((s.ethPort p).flight = some f) :=
  ⟨{ comms with eth := [(0, { flight := some { queue := 2, stamp := 0 } })] }, 0, { queue := 2, stamp := 0 }, by decide +kernel⟩

theorem test_witness_EthernetPortsComplete_5 :
    ∃ (s : State) (p : Fin 6), (s.ethLink p = false) ∧ (s.ethOn p = true) ∧ (p.val ≠ 5) :=
  ⟨(comms.wr Reg.ETH_STAT_LINK 0), 0, by decide +kernel⟩

theorem test_witness_EthernetPortsComplete_6 :
    ∃ (s : State) (p : Fin 6), (s.ethLink p = true) :=
  ⟨comms, 0, by decide +kernel⟩

theorem test_witness_EthernetPortsComplete_7 :
    ∃ (s : State), (s.ethOn 5 = true) ∧ (s.ethLink 5 = true) ∧ (s.ethJoined 5 = true) :=
  ⟨comms, by decide +kernel⟩

theorem test_witness_EthernetPortsComplete_8 :
    ∃ (s : State) (m : Master) (value : Word), (s.allows m .w32 true Reg.ETH_MAINT.addr) ∧ (isCore m = true) ∧ (bits value.toNat 24 8 = 0xA5) ∧ (bits value.toNat 0 12 ≤ 3600) :=
  ⟨live, (.apc 1), 0xA5000064, by decide +kernel⟩

theorem test_witness_EthernetPortsComplete_9 :
    ∃ (s : State), (s.on Reg.ETH_MAINT_SECONDS = true) :=
  ⟨(live.wr Reg.ETH_MAINT_SECONDS 9), by decide +kernel⟩

theorem test_witness_EthernetPortsComplete_10 :
    ∃ (s : State), (s.locked = true) :=
  ⟨comms, by decide +kernel⟩

theorem test_witness_TimeCommandsComplete_1 :
    ∃ (s : State) (d : Fin 2) (a : Announce), (s.locked = true) ∧ (a.version = 2) ∧ (a.minor ≤ 1) ∧ (a.domain = s.domNum d) ∧ (a.ptpScale = true) ∧ (s.ptpPort d a.master.port = true) ∧ (a.master.steps < 255) :=
  ⟨ptp, 0, { version := 2, minor := 1, domain := 0, ptpScale := true, logInterval := 0, master := gm }, by decide +kernel⟩

theorem test_witness_TimeCommandsComplete_2 :
    ∃ (s : State) (d : Fin 2) (y : Sync) (g : PtpMaster), ((s.dom d).selected = some g) ∧ (y.version = 2) ∧ (y.minor ≤ 1) ∧ (y.domain = s.domNum d) ∧ (s.ptpPort d y.port = true) ∧ (y.identity = g.identity) ∧ (-7 ≤ y.logSync) ∧ (y.logSync ≤ 1) :=
  ⟨{ ptp with tim := { ptp.tim with domA := { selected := some gm } } }, 0, { version := 2, minor := 0, port := 0, domain := 0, identity := 7, logSync := 0, origin := 0 }, gm, by decide +kernel⟩

theorem test_witness_TimeCommandsComplete_3 :
    ∃ (s : State) (d : Fin 2), ((s.dom d).selected.isSome = true) :=
  ⟨{ live with tim := { live.tim with domA := { selected := some gm } } }, 0, by decide +kernel⟩

theorem test_witness_TimeCommandsComplete_4 :
    ∃ (s : State) (d : Fin 2) (u : State), (s.domState d = 1 ∨ s.domState d = 2) ∧ (u = { s with frc := max s.frc ((s.dom d).lastSync + s.tcSyncLoss) }) :=
  ⟨(live.wr (Reg.TIM_DOM_STAT_STATE 0) 2), 0, { live.wr (Reg.TIM_DOM_STAT_STATE 0) 2 with frc := max live.frc live.tcSyncLoss }, by decide +kernel⟩

theorem test_witness_TimeCommandsComplete_5 :
    ∃ (s : State) (d : Fin 2) (g : PtpMaster) (h : PtpHeard), ((s.dom d).selected = some g) ∧ ((s.dom d).masters = [h]) ∧ (h.m.identity = g.identity) ∧ (h.m.port = g.port) :=
  ⟨{ live with tim := { live.tim with domA := { selected := some gm, masters := [⟨gm, 0, 0⟩] } } }, 0, gm, ⟨gm, 0, 0⟩, by decide +kernel⟩

theorem test_witness_TimeCommandsComplete_6 :
    ∃ (s : State) (m : Master), (s.allows m .w32 true Reg.TIM_CMD.addr) ∧ (s.rd Reg.SCN_STAT_MODE = 0) ∧ (s.on Reg.SCN_STAT_FORCE_PERMIT = true) ∧ (s.domState s.tcPrefer = 2) ∧ (s.tcPrefer < 2) ∧ (s.c1Paired = false) :=
  ⟨(live.wr Reg.SCN_STAT_FORCE_PERMIT 1).wr (Reg.TIM_DOM_STAT_STATE 0) 2, .debug, by decide +kernel⟩

theorem test_witness_TimeCommandsComplete_7 :
    ∃ (s : State), (s.locked = true) ∧ (s.tcPpsIn ≠ 0) :=
  ⟨timed, by decide +kernel⟩

theorem test_witness_TimeCommandsComplete_8 :
    ∃ (s : State), (s.on Reg.TIM_STAT_PPS_OK = true) :=
  ⟨(timed.wr Reg.TIM_STAT_PPS_OK 1), by decide +kernel⟩

theorem test_witness_TimeCommandsComplete_9 :
    ∃ (s : State), (s.tcPpsOut = 1) ∧ (s.on Reg.TIM_STAT_C1_VALID = true) :=
  ⟨(timed.wr Reg.TIM_STAT_C1_VALID 1), by decide +kernel⟩

theorem test_witness_TimeCommandsComplete_10 :
    ∃ (s : State) (m : Master), (s.allows m .w32 false Reg.TIM_C1_SEC_LO.addr) :=
  ⟨live, .debug, by decide +kernel⟩

theorem test_witness_TimeCommandsComplete_11 :
    ∃ (s : State) (u : State), (s.power.running = true) ∧ (u = { s with frc := max s.frc (s.tim.backAt + 1000000000) }) :=
  ⟨live, { live with frc := max live.frc 1000000000 }, by decide +kernel⟩

theorem test_witness_TimeCommandsComplete_12 :
    ∃ (s : State), (s.on Reg.TIM_STAT_C1_SLEWING = true) :=
  ⟨(live.wr Reg.TIM_STAT_C1_SLEWING 1), by decide +kernel⟩

theorem test_witness_TimeCommandsComplete_13 :
    ∃ (s : State), (s.on Reg.TIM_STAT_C2_SLEWING = true) :=
  ⟨(live.wr Reg.TIM_STAT_C2_SLEWING 1), by decide +kernel⟩

theorem test_witness_FieldLinksComplete_1 :
    ∃ (s : State) (p : Fin 8) (x : SerMsg), (s.locked = true) ∧ (s.serMode p ≠ 0) ∧ (x.bytes.take (s.serMaxLen p) ≠ []) ∧ (s.follows = true) :=
  ⟨(comms.wr Reg.BAN_STAT_ROLE 3), 3, { bytes := [5], parity := 0, framing := 0, cut := false, incomplete := false, gapErr := false, stray := 0 }, by decide +kernel⟩

theorem test_witness_FieldLinksComplete_2 :
    ∃ (s : State), (s.locked = false) :=
  ⟨awake, by decide +kernel⟩

theorem test_witness_FieldLinksComplete_3 :
    ∃ (s : State) (p : Fin 8) (u : State), (s.on (Reg.SER_STAT_DRIVER p) = true) ∧ (s.mayStart = true) ∧ (s.serFlight p = none) ∧ (s.txReady (s.serTxq p) = true) ∧ (u = s.headWait (s.serTxq p)) ∧ (u.serCheck p (u.txEntry (s.serTxq p)) = 0) :=
  ⟨(comms.wr (Reg.SER_STAT_DRIVER 3) 1), 3, (comms.wr (Reg.SER_STAT_DRIVER 3) 1).headWait 3, by decide +kernel⟩

theorem test_witness_FieldLinksComplete_4 :
    ∃ (s : State) (p : Fin 8) (f : Flight), (s.serFlight p = some f) :=
  ⟨{ comms with ser := [(3, { queue := 3, stamp := 0 })] }, 3, { queue := 3, stamp := 0 }, by decide +kernel⟩

theorem test_witness_FieldLinksComplete_5 :
    ∃ (s : State) (l : Fin 8), (s.rioMay l = true) ∧ ((s.rioLink l).polled ≠ some ((Assoc.find? s.scn.tasks (s.rioTask l)).getD {}).start) ∧ (s.frc ≤ s.rioPollAt l + 100) :=
  ⟨(live.wr (Reg.RIO_LINK_STAT_STATE 2) rioPolling).wr (Reg.RIO_LINK_STAT_LINK_UP 2) 1, 2, by decide +kernel⟩

theorem test_witness_FieldLinksComplete_6 :
    ∃ (s : State) (l : Fin 8) (fcsGood : Bool) (rtt : Nat) (payload : List Byte) (n : Nat), ((s.rioLink l).cycle = some n) ∧ ((s.rioLink l).polled = some ((Assoc.find? s.scn.tasks (s.rioTask l)).getD {}).start) ∧ (rioAnswers fcsGood payload 1 n = true) ∧ (rtt + 2000 ≤ s.rioLead l * 1000) :=
  ⟨{ stairs with rio := [(2, { cycle := some 5, polled := some 0 })] }, 2, true, 900, [1, 0, 0, 128, 5, 0, 0, 0], 5, by decide +kernel⟩

theorem test_witness_FieldLinksComplete_7 :
    ∃ (s : State) (l : Fin 8) (fcsGood : Bool) (payload : List Byte) (n : Nat), ((s.rioLink l).outWait = some n) ∧ (rioAnswers fcsGood payload 2 n = true) :=
  ⟨{ live with rio := [(2, { outWait := some 5 })] }, 2, true, [2, 0, 0, 128, 5, 0, 0, 0], 5, by decide +kernel⟩

theorem test_witness_FieldLinksComplete_8 :
    ∃ (s : State) (l : Fin 8) (fcsGood : Bool) (payload : List Byte) (n : Nat), ((s.rioLink l).idWait = some n) ∧ (rioAnswers fcsGood payload 3 n = true) :=
  ⟨{ stairs with rio := [(2, { idWait := some 5 })] }, 2, true, [3, 0, 0, 128, 5, 0, 0, 0], 5, by decide +kernel⟩

theorem test_witness_FieldLinksComplete_9 :
    ∃ (s : State) (l : Fin 8) (payload : List Byte), (s.rd (Reg.RIO_LINK_STAT_STATE l) = rioTurnaround) ∧ (s.on (Reg.RIO_LINK_STAT_LINK_UP l) = true) ∧ (bitAt (le payload 3 1) 7 = false) :=
  ⟨(live.wr (Reg.RIO_LINK_STAT_STATE 2) rioTurnaround).wr (Reg.RIO_LINK_STAT_LINK_UP 2) 1, 2, [], by decide +kernel⟩

theorem test_witness_FieldLinksComplete_10 :
    ∃ (s : State) (l : Fin 8) (up : Bool), (s.on (Reg.RIO_LINK_STAT_LINK_UP l) ≠ up) ∧ ((up = true → s.rioOn l = true)) :=
  ⟨stairs, 2, true, by decide +kernel⟩

theorem test_witness_PigeonAndQueueCommandsComplete_1 :
    ∃ (s : State) (m : Master) (ch : Fin 32) (value : Word), (s.allows m .w32 true (Reg.PGN_TX_POST ch).addr) ∧ (s.pgnUsed ch = true) ∧ (s.pgnSender ch = masterId m) ∧ (bits value.toNat 0 8 ≤ 64) ∧ (bits value.toNat 16 16 = 0) ∧ (ch ≠ 30) ∧ (s.follows = false) ∧ ((s.chan ch).msgs.length < s.pgnDepth ch) :=
  ⟨pigeon, (.apc 0), 1, 0x504, by decide +kernel⟩

theorem test_witness_PigeonAndQueueCommandsComplete_2 :
    ∃ (s : State) (m : Master) (ch : Fin 32) (x : PgnMsg) (l : List PgnMsg), (s.allows m .w32 false (Reg.PGN_RX_HDR ch).addr) ∧ (s.pgnUsed ch = true) ∧ (s.pgnReceiver ch = masterId m) ∧ (m ≠ .debug) ∧ ((s.chan ch).msgs = x :: l) ∧ (x.visible = true) :=
  ⟨pigeonMail, (.apc 1), 1, mail, [], by decide +kernel⟩

theorem test_witness_PigeonAndQueueCommandsComplete_3 :
    ∃ (s : State) (m : Master) (ch : Fin 32) (value : Word), (s.allows m .w32 true (Reg.PGN_RX_ACK ch).addr) ∧ (s.pgnUsed ch = true) ∧ (s.pgnReceiver ch = masterId m) ∧ (value.toNat % 2 = 1) ∧ ((s.chan ch).head?.isSome = true) :=
  ⟨pigeonMail, (.apc 1), 1, 1, by decide +kernel⟩

theorem test_witness_PigeonAndQueueCommandsComplete_4 :
    ∃ (s : State) (m : Master) (ch : Fin 32), (s.allows m .w32 true (Reg.PGN_TX_CMD ch).addr) ∧ (s.pgnUsed ch = true) ∧ (s.pgnSender ch = masterId m) :=
  ⟨pigeonMail, (.apc 0), 1, by decide +kernel⟩

theorem test_witness_PigeonAndQueueCommandsComplete_5 :
    ∃ (s : State) (ch : Fin 32) (x : PgnMsg), ((s.chan ch).head? = some x) ∧ (s.on (Reg.PGN_CH_STAT_TIMEOUT ch) = false) ∧ (s.pgnReceiver ch ≤ 4) :=
  ⟨pigeonMail, 1, mail, by decide +kernel⟩

theorem test_witness_PigeonAndQueueCommandsComplete_6 :
    ∃ (s : State) (m : Master) (ch : Fin 32), (s.allows m .w32 true (Reg.PGN_CH_STAT ch).addr) ∧ (s.pgnUsed ch = true) ∧ (s.pgnSender ch = masterId m) :=
  ⟨(pigeonMail.wr (Reg.PGN_CH_STAT_TIMEOUT 1) 1), (.apc 0), 1, by decide +kernel⟩

theorem test_witness_PigeonAndQueueCommandsComplete_7 :
    ∃ (s : State) (m : Master) (q : Fin 64) (value : Word), (s.allows m .w32 true (Reg.QUE_PI q).addr) ∧ (s.queUsed q = true) ∧ (s.queProducer q = masterId m) ∧ (idxDiff value.toNat (s.quePi q) ≠ 0) ∧ (idxDiff value.toNat (s.quePi q) ≤ 2 ^ s.queDepth q - s.queFill q) :=
  ⟨(oneQueue 2), (.apc 0), 1, 4, by decide +kernel⟩

theorem test_witness_PigeonAndQueueCommandsComplete_8 :
    ∃ (s : State) (m : Master) (q : Fin 64) (value : Word), (s.allows m .w32 true (Reg.QUE_DI q).addr) ∧ (s.queUsed q = true) ∧ (s.queRound q = true) ∧ (s.queConsumer q = masterId m) ∧ (idxDiff value.toNat (s.queDi q) ≠ 0) ∧ (idxDiff value.toNat (s.queDi q) ≤ s.queWaiting q) :=
  ⟨(let s := oneQueue 2; { s with fpl := { s.fpl with plan := (planned [⟨0x8031, 0, List.replicate 8 0 ++ [1, 2, 6, 2, 1, 0, 0, 0]⟩]).fpl.plan } }), (.apc 1), 1, 1, by decide +kernel⟩

theorem test_witness_PigeonAndQueueCommandsComplete_9 :
    ∃ (s : State) (m : Master) (q : Fin 64) (value : Word), (s.allows m .w32 true (Reg.QUE_CI q).addr) ∧ (s.queUsed q = true) ∧ (s.queRound q = false) ∧ (s.queConsumer q = masterId m) ∧ (idxDiff value.toNat (s.queCi q) ≤ idxDiff (s.queRi q) (s.queCi q)) :=
  ⟨(oneQueue 2).wr (Reg.QUE_RI 1) 1, (.apc 1), 1, 1, by decide +kernel⟩

theorem test_witness_PigeonAndQueueCommandsComplete_10 :
    ∃ (s : State) (m : Master) (off : Fin 0x400000) (bs : List Byte) (q : Nat), (s.issued m = true) ∧ (s.reach m (poolBase + off.val) = true) ∧ ([1, 2, 4, 8].contains bs.length = true) ∧ ((poolBase + off.val) % bs.length = 0) ∧ (s.ringAt (poolBase + off.val) = some q) ∧ ((if s.consumerOwns q ((poolBase + off.val - s.ringAddr q) / 2 ^ s.queEsize q) then s.queConsumer q else s.queProducer q) = masterId m) ∧ (poolBase + off.val + bs.length ≤ s.ringAddr q + 2 ^ s.queEsize q * ((poolBase + off.val - s.ringAddr q) / 2 ^ s.queEsize q + 1)) :=
  ⟨(oneQueue 2), (.apc 0), 64, [7, 8], 1, by decide +kernel⟩

theorem test_witness_GuestbookCommandsComplete_1 :
    ∃ (s : State) (e : GbEvent) (l : List GbEvent), (s.gb.writing = none) ∧ (s.gb.clearing = none) ∧ (s.gb.anchors = e :: l) :=
  ⟨{ live with gb := { live.gb with anchors := [event] } }, event, [], by decide +kernel⟩

theorem test_witness_GuestbookCommandsComplete_2 :
    ∃ (s : State) (e : GbEvent) (l : List GbEvent) (rs : List GbRec), (s.gb.writing = none) ∧ (s.gb.clearing = none) ∧ (s.gb.anchors = []) ∧ (s.gb.queue = e :: l) ∧ (gbTryMerge e s.gb.records = some rs) :=
  ⟨(let s : State := { live with gb := { live.gb with anchors := [], queue := [event] } }; { s with gb := { s.gb with records := [s.gbRecOf event 1 false false] } }), event, [], (match gbTryMerge event [live.gbRecOf event 1 false false] with | some l => l | none => []), by decide +kernel⟩

theorem test_witness_GuestbookCommandsComplete_3 :
    ∃ (s : State) (e : GbEvent) (l : List GbEvent), (s.gb.writing = none) ∧ (s.gb.clearing = none) ∧ (s.gb.anchors = []) ∧ (s.gb.queue = e :: l) ∧ (gbTryMerge e s.gb.records = none) :=
  ⟨{ live with gb := { live.gb with anchors := [], queue := [event] } }, event, [], by decide +kernel⟩

theorem test_witness_GuestbookCommandsComplete_4 :
    ∃ (s : State) (r : GbRec), (s.gb.writing = some r) ∧ (s.on Reg.GB_STAT_SEQ_END = false) ∧ (s.rd Reg.GB_COUNT_COUNT < gbPlaces) :=
  ⟨{ live with gb := { live.gb with writing := some (live.gbRecOf event 1 false false) } }, (live.gbRecOf event 1 false false), by decide +kernel⟩

theorem test_witness_GuestbookCommandsComplete_5 :
    ∃ (s : State) (r : GbRec), (s.gb.writing = some r) :=
  ⟨{ live with gb := { live.gb with writing := some (live.gbRecOf event 1 false false) } }, (live.gbRecOf event 1 false false), by decide +kernel⟩

theorem test_witness_GuestbookCommandsComplete_6 :
    ∃ (s : State) (cls : Fin 33), (s.gbTokens cls < s.gbDepth cls) ∧ (0 < s.gbPeriod cls) ∧ (s.frc < (Assoc.find? s.gb.gained cls).getD 0 + s.gbPeriod cls) :=
  ⟨(live.wr (Reg.GB_CLASS_TOKENS 30) 1), 30, by decide +kernel⟩

theorem test_witness_GuestbookCommandsComplete_7 :
    ∃ (s : State) (m : Master), (s.allows m .w32 true Reg.GB_CMD.addr) ∧ (s.on Reg.SCN_STAT_FORCE_PERMIT = true) ∧ (s.gb.clearing = none) :=
  ⟨(live.wr Reg.SCN_STAT_FORCE_PERMIT 1), .debug, by decide +kernel⟩

theorem test_witness_GuestbookCommandsComplete_8 :
    ∃ (s : State) (lost : Nat) (first : Nat) (last : Nat), (s.gb.clearing = some (lost, first, last)) :=
  ⟨{ live with gb := { live.gb with clearing := some (1, 2, 3) } }, 1, 2, 3, by decide +kernel⟩

theorem test_witness_GuestbookCommandsComplete_9 :
    ∃ (s : State) (m : Master), (s.allows m .w32 true Reg.GB_CURSOR.addr) :=
  ⟨live, (.apc 1), by decide +kernel⟩

theorem test_witness_TelegramCommandsComplete_1 :
    ∃ (s : State) (f : List Byte), (s.saf.powered = true) ∧ (s.power.running = true) ∧ (s.locked = true) ∧ (s.rd Reg.SAF_STAT_STATE ≠ 0) ∧ (s.rd Reg.SAF_STAT_STATE ≠ 3) ∧ (f.length < 28) :=
  ⟨(safety 2), [], by decide +kernel⟩

theorem test_witness_TelegramCommandsComplete_2 :
    ∃ (s : State) (f : List Byte), (s.saf.powered = true) ∧ (s.power.running = true) ∧ (s.locked = true) ∧ (s.rd Reg.SAF_STAT_STATE ≠ 0) ∧ (s.rd Reg.SAF_STAT_STATE ≠ 3) ∧ (28 + tgLen f ≤ f.length) ∧ (tgLen f ≤ 256) ∧ (s.tgConnection f = none) :=
  ⟨(safety 2), (List.replicate 28 0), by decide +kernel⟩

theorem test_witness_TelegramCommandsComplete_3 :
    ∃ (s : State) (port : Fin 4) (f : List Byte) (c : Nat) (u : List Byte), (u = f.take (28 + tgLen f)) ∧ (s.saf.powered = true) ∧ (s.power.running = true) ∧ (s.locked = true) ∧ (s.rd Reg.SAF_STAT_STATE ≠ 0) ∧ (s.rd Reg.SAF_STAT_STATE ≠ 3) ∧ (28 + tgLen f ≤ f.length) ∧ (tgLen f ≤ 256) ∧ (s.tgConnection f = some c) ∧ (bitAt (le (s.connRec c) 2 1) port = true) ∧ (le u (0x18 + tgLen f) 4 = crc32c (leBytes 8 (le (s.connRec c) 0x18 8) ++ u.take (0x18 + tgLen f))) ∧ (-1000000 ≤ s.safTime - (le u 0x10 8 : Int)) ∧ (s.safTime - (le u 0x10 8 : Int) ≤ (le (s.connRec c) 0x10 2 : Int) * 1000000) ∧ ((tgNewer (tgSeq u) (s.tgConn c).seq || some (tgSeq u) == (s.tgConn c).seq) = true) :=
  ⟨telegrams, 0, telegram, 9, telegram, by decide +kernel⟩

theorem test_witness_TelegramCommandsComplete_4 :
    ∃ (s : State) (c : Fin 64), (s.saf.powered = true) ∧ ((s.tgConn c).window.isSome = true) :=
  ⟨(telegrams.setTg 9 { window := some (0, telegram) }), 9, by decide +kernel⟩

theorem test_witness_TelegramCommandsComplete_5 :
    ∃ (s : State) (c : Fin 64) (net : Nat) (f : List Byte), (s.saf.powered = true) ∧ ((s.tgConn c).window = some (net, f)) ∧ ((s.tgConn c).state ≠ tgValid) :=
  ⟨(telegrams.setTg 9 { window := some (0, telegram) }), 9, 0, telegram, by decide +kernel⟩

theorem test_witness_TelegramCommandsComplete_6 :
    ∃ (s : State) (c : Fin 64) (net : Nat) (f : List Byte), (s.saf.powered = true) ∧ ((s.tgConn c).single = some net) ∧ ((s.tgConn c).held = some f) :=
  ⟨(telegrams.setTg 9 { state := tgSingleA, held := some telegram }), 9, 0, telegram, by decide +kernel⟩

theorem test_witness_TelegramCommandsComplete_7 :
    ∃ (s : State) (c : Fin 64), (s.saf.powered = true) ∧ (s.tgReceives c = true) ∧ ((s.tgConn c).state ≠ tgFailed) :=
  ⟨telegrams, 9, by decide +kernel⟩

theorem test_witness_TelegramCommandsComplete_8 :
    ∃ (s : State) (c : Fin 64), (s.saf.powered = true) ∧ ((s.tgConn c).state = tgFailed) :=
  ⟨(telegrams.setTg 9 { state := tgFailed }), 9, by decide +kernel⟩

theorem test_witness_TelegramCommandsComplete_9 :
    ∃ (s : State) (c : Fin 64), (s.saf.powered = true) ∧ (s.power.running = true) ∧ (s.locked = true) ∧ (s.connRec c ≠ []) :=
  ⟨telegrams, 9, by decide +kernel⟩

theorem test_witness_TelegramCommandsComplete_10 :
    ∃ (s : State), (s.saf.powered = true) ∧ (s.power.running = true) ∧ (s.locked = true) :=
  ⟨telegrams, by decide +kernel⟩

theorem test_witness_RoundsGrantsComplete_1 :
    ∃ (s : State) (up : Nat), (s.power.running = true) ∧ (s.rd Reg.SCN_STAT_MODE = 0) ∧ (s.rd Reg.RND_STAT_PAUSED = 0) ∧ (up = (s.frc + 999999) / 1000000 * 1000000) ∧ (s.rnd.stopAt ≠ some up) :=
  ⟨live, 0, by decide +kernel⟩

theorem test_witness_RoundsGrantsComplete_2 :
    ∃ (s : State) (up : Nat), (s.power.running = true) ∧ (s.rd Reg.SCN_STAT_MODE = 0) ∧ (s.rd Reg.RND_STAT_PAUSED = 0) ∧ (up = (s.frc + 999999) / 1000000 * 1000000) ∧ (s.rnd.stopAt = some up) :=
  ⟨{ live with rnd := { live.rnd with stopAt := some 0 } }, 0, by decide +kernel⟩

theorem test_witness_RoundsGrantsComplete_3 :
    ∃ (s : State) (g : RndGrant) (l : List RndGrant), (s.rnd.grants = g :: l) :=
  ⟨{ live with rnd := { live.rnd with grants := [{ left := 200, until_ := 1000000 }] } }, { left := 200, until_ := 1000000 }, [], by decide +kernel⟩

theorem test_witness_RoundsGrantsComplete_4 :
    ∃ (s : State), (s.power.running = true) ∧ (s.rd Reg.RND_CTRL_LIMIT_H ≠ 0) ∧ (s.rnd.late = false) :=
  ⟨(live.wr Reg.RND_CTRL_LIMIT_H 1), by decide +kernel⟩

theorem test_witness_RoundsStepsComplete_1 :
    ∃ (s : State) (item : Fin 17) (us : Fin 6) (u : State) (g : RndGrant) (l : List RndGrant) (need : Nat), (s.power.running = true) ∧ (s.rd Reg.RND_STAT_PAUSED = 0) ∧ (u = ({ s with frc := max s.frc s.rnd.freeAt } : State).rndExpire) ∧ (u.rnd.grants = g :: l) ∧ (need = us.val + u.rndWake item) ∧ (0 < us.val) ∧ (need ≤ g.left) ∧ (u.frc + 1000 * need ≤ g.until_) ∧ (u.rndNext.head? = some item.val) ∧ (u.rndMay item = true) :=
  ⟨{ live with rnd := { live.rnd with grants := [{ left := 200, until_ := 1000000 }] } }, 0, 5, ({ live with rnd := { live.rnd with grants := [{ left := 200, until_ := 1000000 }] } } : State).rndExpire, { left := 200, until_ := 1000000 }, [], (5 + live.rndWake 0), by decide +kernel⟩

theorem test_witness_RoundsStepsComplete_2 :
    ∃ (s : State) (item : Fin 17) (us : Fin 6) (u : State) (g : RndGrant) (l : List RndGrant) (need : Nat), (s.power.running = true) ∧ (s.rd Reg.RND_STAT_PAUSED = 0) ∧ (u = ({ s with frc := max s.frc s.rnd.freeAt } : State).rndExpire) ∧ (u.rnd.grants = g :: l) ∧ (need = us.val + u.rndWake item) ∧ (0 < us.val) ∧ (need ≤ g.left) ∧ (u.frc + 1000 * need ≤ g.until_) ∧ (u.rndNext.head? = some item.val) ∧ (u.rndMay item = true) ∧ (u.rnd.workOf item + us.val < u.rndWork item) :=
  ⟨{ live with rnd := { live.rnd with grants := [{ left := 200, until_ := 1000000 }] } }, 0, 5, ({ live with rnd := { live.rnd with grants := [{ left := 200, until_ := 1000000 }] } } : State).rndExpire, { left := 200, until_ := 1000000 }, [], (5 + live.rndWake 0), by decide +kernel⟩

theorem test_witness_RoundsStepsComplete_3 :
    ∃ (s : State) (item : Fin 17) (us : Fin 6) (u : State) (g : RndGrant) (l : List RndGrant) (need : Nat), (s.power.running = true) ∧ (s.rd Reg.RND_STAT_PAUSED = 0) ∧ (u = ({ s with frc := max s.frc s.rnd.freeAt } : State).rndExpire) ∧ (u.rnd.grants = g :: l) ∧ (need = us.val + u.rndWake item) ∧ (0 < us.val) ∧ (need ≤ g.left) ∧ (u.frc + 1000 * need ≤ g.until_) ∧ (u.rndNext.head? = some item.val) ∧ (u.rndMay item = true) ∧ (u.rndWork item ≤ u.rnd.workOf item + us.val) ∧ (u.rnd.ended.contains item.val = false) :=
  ⟨(let r := { live.rnd with grants := [{ left := 200, until_ := 1000000 }], work := [(0, live.rndWork 0 - 1)] }; { live with rnd := r }), 0, 5, ({ live with rnd := { live.rnd with grants := [{ left := 200, until_ := 1000000 }], work := [(0, live.rndWork 0 - 1)] } } : State).rndExpire, { left := 200, until_ := 1000000 }, [], (5 + live.rndWake 0), by decide +kernel⟩

theorem test_witness_WearCommandsComplete_1 :
    ∃ (s : State), (s.power.running = true) :=
  ⟨live, by decide +kernel⟩

theorem test_witness_WearCommandsComplete_2 :
    ∃ (s : State), (s.power.running = true) :=
  ⟨live, by decide +kernel⟩

theorem test_witness_WearCommandsComplete_3 :
    ∃ (s : State) (u : State), (s.power.running = true) ∧ (u = { s with frc := max s.frc (s.rnd.heatAt + 1000000000), rnd := { s.rnd with heatAt := max s.frc (s.rnd.heatAt + 1000000000) } }) :=
  ⟨(field 4 {}), { field 4 {} with frc := 1000000000, rnd := { live.rnd with heatAt := 1000000000 } }, by decide +kernel⟩

theorem test_witness_AnnexEngineComplete_1 :
    ∃ (s : State), (s.anxOn = true) :=
  ⟨annex, by decide +kernel⟩

theorem test_witness_AnnexEngineComplete_2 :
    ∃ (s : State) (u : State), (s.anxOn = true) ∧ (u = s.waitTo (s.anx.resultAt + s.anx.par 0x41 * 1000000)) :=
  ⟨{ annex with anx := { annex.anx with params := [(0, 1)] } }, ({ annex with anx := { annex.anx with params := [(0, 1)] } } : State).waitTo 0, by decide +kernel⟩

theorem test_witness_AnnexEngineComplete_3 :
    ∃ (s : State), (s.anxOn = true) ∧ ((∀ l < 4, s.anx.lineOn l = false)) :=
  ⟨annex, by decide +kernel⟩

theorem test_witness_AnnexEngineComplete_4 :
    ∃ (s : State) (u : State), (s.anxOn = true) ∧ (u = s.waitTo (s.anx.lastStat + 1000000000)) :=
  ⟨annex, (annex.waitTo 1000000000), by decide +kernel⟩

theorem test_witness_AnnexEngineComplete_5 :
    ∃ (s : State), (s.anxOn = true) ∧ (s.anx.waiting ≠ []) ∧ (s.anx.waiting.length < 256) :=
  ⟨{ annex with anx := { annex.anx with waiting := [(0x13, [])] } }, by decide +kernel⟩

theorem test_witness_AnnexEngineComplete_6 :
    ∃ (s : State) (u : State), (s.anxOn = true) ∧ (s.anx.waiting ≠ []) ∧ (u = s.waitTo (s.anx.repostAt + 1000000)) :=
  ⟨{ annex with anx := { annex.anx with waiting := [(0x13, List.replicate 20 0)] } }, ({ annex with anx := { annex.anx with waiting := [(0x13, List.replicate 20 0)] } } : State).waitTo 1000000, by decide +kernel⟩

theorem test_witness_AnnexEngineComplete_7 :
    ∃ (s : State), (s.anxOn = true) :=
  ⟨annex, by decide +kernel⟩

theorem test_witness_AnnexEngineComplete_8 :
    ∃ (s : State), (s.anxOn = true) :=
  ⟨annex, by decide +kernel⟩

theorem test_witness_AnnexPortComplete_1 :
    ∃ (s : State) (b : List Byte), (s.locked = true) ∧ (s.anx.ident = some b) ∧ (b.take 32 = s.anxif) :=
  ⟨(let s : State := annex; { s with anx := { s.anx with ident := some [] } }), [], by decide +kernel⟩

theorem test_witness_AnnexPortComplete_2 :
    ∃ (s : State) (b : List Byte), (s.locked = true) ∧ (s.anx.ident = some b) ∧ (b.take 32 ≠ s.anxif) :=
  ⟨(let s : State := annex; { s with anx := { s.anx with ident := some [1] } }), [1], by decide +kernel⟩

theorem test_witness_AnnexPortComplete_3 :
    ∃ (s : State), (s.capOn Reg.SYS_CAPS_ANX = true) ∧ (s.locked = true) ∧ (s.on Reg.ANX_STAT_STATUS_LOST = false) :=
  ⟨annex, by decide +kernel⟩

theorem test_witness_AnnexPortComplete_4 :
    ∃ (s : State) (u : State), (s.power.running = true) ∧ (s.capOn Reg.SYS_CAPS_ANX = true) ∧ (u = s.wordInstant) :=
  ⟨annex, annex.wordInstant, by decide +kernel⟩

theorem test_witness_AnnexPortComplete_5 :
    ∃ (s : State) (u : State), (s.power.running = true) ∧ (s.anxOn = true) ∧ (s.anx.reident = 0) ∧ (s.on Reg.TIM_STAT_C2_VALID = true) ∧ (u = s.wordInstant) ∧ (s.anx.hold = false) :=
  ⟨(annex.wr Reg.TIM_STAT_C2_VALID 1), (annex.wr Reg.TIM_STAT_C2_VALID 1).wordInstant, by decide +kernel⟩

theorem test_witness_AnnexPortComplete_6 :
    ∃ (s : State), (s.anxOn = true) ∧ (s.anx.hold = false) :=
  ⟨annex, by decide +kernel⟩

theorem test_witness_AnnexParameterPortComplete_1 :
    ∃ (s : State) (write : Bool), (s.anxOn = true) ∧ (s.anx.switch ≠ write) :=
  ⟨annex, true, by decide +kernel⟩

theorem test_witness_AnnexParameterPortComplete_2 :
    ∃ (s : State), (s.anxOn = true) :=
  ⟨annex, by decide +kernel⟩

theorem test_witness_AnnexParameterPortComplete_3 :
    ∃ (s : State), (s.anxOn = true) :=
  ⟨annex, by decide +kernel⟩

theorem test_witness_AnnexParameterPortComplete_4 :
    ∃ (s : State), (s.anxOn = true) :=
  ⟨annex, by decide +kernel⟩

theorem test_witness_AnnexParameterPortComplete_5 :
    ∃ (s : State) (changes : List AnxChange), (s.anxOn = true) ∧ (changes ≠ []) ∧ (changes.length ≤ 16) ∧ (changes.find? (fun c => !anxValueOk (s.anx.parWith changes) c.key c.num.val) = none) ∧ ((changes.any (fun c => c.num.val != 0x41) && !s.anx.switch) = false) ∧ (changes.length ≤ s.anx.room) :=
  ⟨annex, [⟨0x41, 500, []⟩], by decide +kernel⟩

theorem test_witness_AnnexParameterPortComplete_6 :
    ∃ (s : State), (s.anxOn = true) ∧ (s.anx.switch = true) ∧ (1 ≤ s.anx.room) :=
  ⟨{ annex with anx := { annex.anx with switch := true } }, by decide +kernel⟩

theorem test_witness_AnnexParameterPortComplete_7 :
    ∃ (s : State), (s.anxOn = true) ∧ (s.anx.switch = false) :=
  ⟨annex, by decide +kernel⟩

theorem test_witness_AnnexParameterPortComplete_8 :
    ∃ (s : State) (hash : List Byte), (s.anxOn = true) ∧ (s.anx.switch = true) ∧ (hash = Config.sha256 (s.anx.sgb.flatMap (fun r => r.bytes))) :=
  ⟨{ annex with anx := { annex.anx with switch := true } }, (Config.sha256 []), by decide +kernel, by decide +kernel, rfl⟩

theorem test_witness_AnnexParameterPortComplete_9 :
    ∃ (s : State), (s.anxOn = true) ∧ (s.anx.switch = false) :=
  ⟨annex, by decide +kernel⟩

theorem test_witness_NoticeboardUpdatesComplete_1 :
    ∃ (s : State) (q : Nat) (st : Nat) (d : Nat), (s.nbCmdq = some q) ∧ (s.nb.upds.length < 8) ∧ (s.nb.upds.length < s.queWaiting q) ∧ (s.nbBusy = false) ∧ (s.on Reg.PWR_STAT_PF_WARN = false) ∧ (s.nbCheck (s.bytes (s.entryAddr q (s.queDi q + s.nb.upds.length)) 64) = some (st, d)) :=
  ⟨panel, 1, (match panel.nbCheck (panel.bytes (panel.entryAddr 1 (panel.queDi 1)) 64) with | some x => x.1 | none => 0), (match panel.nbCheck (panel.bytes (panel.entryAddr 1 (panel.queDi 1)) 64) with | some x => x.2 | none => 0), by decide +kernel⟩

theorem test_witness_NoticeboardUpdatesComplete_2 :
    ∃ (s : State) (q : Nat), (s.nbCmdq = some q) ∧ (s.nb.upds.length < 8) ∧ (s.nb.upds.length < s.queWaiting q) ∧ (s.nbBusy = false) ∧ (s.on Reg.PWR_STAT_PF_WARN = false) ∧ (s.nbCheck (s.bytes (s.entryAddr q (s.queDi q + s.nb.upds.length)) 64) = none) ∧ (le (s.bytes (s.entryAddr q (s.queDi q + s.nb.upds.length)) 64) 1 1 = 3) :=
  ⟨panelClean, 1, by decide +kernel⟩

theorem test_witness_NoticeboardUpdatesComplete_3 :
    ∃ (s : State) (q : Nat) (no : Nat) (b : List Byte), (s.nbCmdq = some q) ∧ (s.nb.upds.length < 8) ∧ (s.nb.upds.length < s.queWaiting q) ∧ (s.nbBusy = false) ∧ (s.on Reg.PWR_STAT_PF_WARN = false) ∧ (b = s.bytes (s.entryAddr q (s.queDi q + s.nb.upds.length)) 64) ∧ (no = s.nb.nextUpd) ∧ (s.nbCheck b = none) ∧ (le b 1 1 ≠ 3) :=
  ⟨panelArea, 1, 0, (panelArea.bytes (panelArea.entryAddr 1 0) 64), by decide +kernel⟩

theorem test_witness_NoticeboardUpdatesComplete_4 :
    ∃ (s : State) (m : Master), (s.allows m .w32 true Reg.NB_CMD.addr) ∧ (s.nbPanel = true) ∧ (s.nbFault = false) ∧ (s.nb.cleanCmd = false) :=
  ⟨panelUp, .debug, by decide +kernel⟩

theorem test_witness_NoticeboardUpdatesComplete_5 :
    ∃ (s : State) (m : Master), (s.allows m .w32 true Reg.NB_CMD.addr) ∧ (s.nbPanel = true) ∧ (s.nbFault = false) ∧ (s.on Reg.NB_STAT_REFRESH_DUE = false) :=
  ⟨panelUp, .debug, by decide +kernel⟩

theorem test_witness_NoticeboardUpdatesComplete_6 :
    ∃ (s : State) (m : Master), (s.allows m .w32 true Reg.NB_CMD.addr) ∧ (s.nbPanel = true) ∧ (s.nbFault = false) ∧ (s.nb.balCmd = false) :=
  ⟨panelUp, .debug, by decide +kernel⟩

theorem test_witness_NoticeboardUpdatesComplete_7 :
    ∃ (s : State) (m : Master) (value : Word), (s.allows m .w32 true Reg.NB_LIGHT.addr) ∧ (bits value.toNat 24 8 = 0xA5) ∧ (bitAt value.toNat 8 = false) ∧ ((s.nbPanel && s.nbFlag 0) = true) :=
  ⟨panelUp, .debug, 0xA5000040, by decide +kernel⟩

theorem test_witness_NoticeboardUpdatesComplete_8 :
    ∃ (s : State) (m : Master) (value : Word), (s.allows m .w32 true Reg.NB_LIGHT.addr) ∧ (bits value.toNat 24 8 = 0xA5) ∧ (bitAt value.toNat 8 = true) ∧ ((s.nbPanel && s.nbFlag 0) = true) :=
  ⟨panelUp, .debug, 0xA5000140, by decide +kernel⟩

theorem test_witness_NoticeboardFramesComplete_1 :
    ∃ (s : State) (temp : BitVec 16) (u : State), (s.nbPanel = true) ∧ (s.on Reg.NB_STAT_RAILS_UP = true) ∧ (s.nbFault = false) ∧ (u = (if s.nb.running then s.nbBoundary.nbTemp temp else s.nbBoundary)) ∧ (u.nbMustAbort = false) ∧ (u.nbStart.nb.running = false) :=
  ⟨panelUp, 250, panelUp.nbBoundary, by decide +kernel⟩

theorem test_witness_NoticeboardFramesComplete_2 :
    ∃ (s : State) (temp : BitVec 16) (u : State), (s.nbPanel = true) ∧ (s.on Reg.NB_STAT_RAILS_UP = true) ∧ (s.nbFault = false) ∧ (u = (if s.nb.running then s.nbBoundary.nbTemp temp else s.nbBoundary)) ∧ (u.nbMustAbort = false) ∧ (u.nbStart.nb.running = true) :=
  ⟨driving, 250, (driving.nbBoundary.nbTemp 250), by decide +kernel⟩

theorem test_witness_NoticeboardFramesComplete_3 :
    ∃ (s : State) (temp : BitVec 16) (u : State), (s.nbPanel = true) ∧ (s.on Reg.NB_STAT_RAILS_UP = true) ∧ (s.nbFault = false) ∧ (s.nb.running = true) ∧ (u = s.nbBoundary.nbTemp temp) ∧ (u.nbMustAbort = true) :=
  ⟨(driving.wr Reg.PWR_STAT_PF_WARN 1), 250, (driving.wr Reg.PWR_STAT_PF_WARN 1).nbBoundary.nbTemp 250, by decide +kernel⟩

theorem test_witness_NoticeboardFramesComplete_4 :
    ∃ (s : State), (s.nbPanel = true) ∧ (s.nbFault = false) ∧ (s.nb.balCmd = true) ∧ ((s.nb.recovery || s.nb.stripDue || s.nb.lightWait || s.nb.cleanCmd || s.on Reg.NB_STAT_REFRESH_DUE || s.nb.job != .none || s.nb.running || s.nb.pending || s.on Reg.PWR_STAT_PF_WARN) = false) :=
  ⟨{ panelUp with nb := { panelUp.nb with balCmd := true } }, by decide +kernel⟩

theorem test_witness_NoticeboardFramesComplete_5 :
    ∃ (s : State) (q : Nat), (s.nbPanel = true) ∧ (s.nbFault = false) ∧ (s.nb.balCmd = false) ∧ (s.on Reg.NB_STAT_BAL_DUE = true) ∧ (s.nb.upds = []) ∧ (s.nbCmdq = some q) ∧ (s.queWaiting q = 0) ∧ ((s.nb.recovery || s.nb.stripDue || s.nb.lightWait || s.nb.cleanCmd || s.on Reg.NB_STAT_REFRESH_DUE || s.nb.job != .none || s.nb.running || s.nb.pending || s.on Reg.PWR_STAT_PF_WARN) = false) :=
  ⟨(panelUp.wr Reg.NB_STAT_BAL_DUE 1).wr (Reg.QUE_PI 1) 0, 1, by decide +kernel⟩

theorem test_witness_NoticeboardFramesComplete_6 :
    ∃ (s : State), (s.nbPanel = true) ∧ (s.nbFault = false) ∧ (s.nb.running = false) ∧ (s.on Reg.NB_STAT_RAILS_UP = false) ∧ (s.on Reg.PWR_STAT_PF_WARN = false) :=
  ⟨panel, by decide +kernel⟩

theorem test_witness_NoticeboardRailsComplete_1 :
    ∃ (s : State), (s.nbPanel = true) ∧ (s.nbFault = false) ∧ (s.on Reg.NB_STAT_RAILS_UP = false) ∧ (s.nbWork = true) :=
  ⟨{ panel with nb := { panel.nb with balCmd := true } }, by decide +kernel⟩

theorem test_witness_NoticeboardRailsComplete_2 :
    ∃ (s : State), (s.nbPanel = true) ∧ (s.nbFault = false) :=
  ⟨panelUp, by decide +kernel⟩

theorem test_witness_NoticeboardRailsComplete_3 :
    ∃ (s : State), (s.on Reg.NB_STAT_RAILS_UP = true) ∧ (s.nb.running = false) ∧ (s.nb.pending = false) ∧ (s.nb.job = .none) ∧ ((s.on Reg.NB_STAT_DIRTY && s.nbMayCommit) = false) ∧ (s.on Reg.PWR_STAT_PF_WARN = false) :=
  ⟨panelUp, by decide +kernel⟩

theorem test_witness_NoticeboardRailsComplete_4 :
    ∃ (s : State), (s.on Reg.NB_STAT_RAILS_UP = true) ∧ (s.nb.running = false) ∧ (s.nb.pending = false) ∧ ((s.on Reg.NB_STAT_DIRTY && s.nbMayCommit) = false) ∧ (s.on Reg.PWR_STAT_PF_WARN = true) :=
  ⟨(panelUp.wr Reg.PWR_STAT_PF_WARN 1), by decide +kernel⟩

theorem test_witness_NoticeboardRailsComplete_5 :
    ∃ (s : State), (s.power.running = true) ∧ (s.on Reg.NB_STAT_DIRTY = true) ∧ (s.nbMayCommit = true) :=
  ⟨(panelUp.wr Reg.NB_STAT_DIRTY 1), by decide +kernel⟩

theorem test_witness_PowerCommandsComplete_1 :
    ∃ (s : State) (x : PowerInput), (x.present = true) ∧ (18000 ≤ x.mV.toNat) ∧ (s.on (if x.inB then Reg.PWR_STAT_IN_B else Reg.PWR_STAT_IN_A) = false) ∧ (s.power.mainOn = false) :=
  ⟨State.reset, (input true 24000), by decide +kernel⟩

theorem test_witness_PowerCommandsComplete_2 :
    ∃ (s : State) (x : PowerInput), (x.present = false) ∧ (x.mV.toNat < 16500) ∧ (s.on (if x.inB then Reg.PWR_STAT_IN_B else Reg.PWR_STAT_IN_A) = true) ∧ (s.on (if x.inB then Reg.PWR_STAT_IN_A else Reg.PWR_STAT_IN_B) = false) ∧ (s.power.mainOn = true) :=
  ⟨powered, (input false 16000), by decide +kernel⟩

theorem test_witness_PowerCommandsComplete_3 :
    ∃ (s : State) (x : PowerInput), (x.present = true) ∧ (18000 ≤ x.mV.toNat) ∧ (s.on (if x.inB then Reg.PWR_STAT_IN_B else Reg.PWR_STAT_IN_A) = false) ∧ (s.power.mainOn = true) ∧ (s.on Reg.PWR_STAT_DIP = true) ∧ (s.on Reg.PWR_STAT_PF_WARN = false) :=
  ⟨(powered.wr Reg.PWR_STAT_DIP 1).wr Reg.PWR_STAT_IN_A 0, (input true 24000), by decide +kernel⟩

theorem test_witness_PowerCommandsComplete_4 :
    ∃ (s : State), (s.power.mainOn = true) ∧ (s.on Reg.PWR_STAT_DIP = false) ∧ (s.on Reg.PWR_STAT_PF_WARN = false) ∧ (s.on Reg.PWR_STAT_HOLDUP_OK = false) :=
  ⟨(powered.wr Reg.PWR_STAT_HOLDUP_OK 0), by decide +kernel⟩

theorem test_witness_PowerCommandsComplete_5 :
    ∃ (s : State) (why : PfCause), (s.power.mainOn = true) ∧ (s.power.running = false) ∧ (s.on Reg.PWR_STAT_DIP = true) ∧ (s.on Reg.PWR_STAT_PF_WARN = false) ∧ ((why = .short → s.power.reserved = false)) :=
  ⟨(let s := powered.wr Reg.PWR_STAT_DIP 1; { s with power := { s.power with running := false } }), .dip, by decide +kernel⟩

theorem test_witness_PowerCommandsComplete_6 :
    ∃ (s : State) (why : PfCause) (meas : PwrMeas) (u : State), (s.power.mainOn = true) ∧ (s.power.running = true) ∧ (s.on Reg.PWR_STAT_DIP = true) ∧ (s.on Reg.PWR_STAT_PF_WARN = false) ∧ ((why = .short → s.power.reserved = false)) ∧ (u = s.warned why meas) :=
  ⟨(powered.wr Reg.PWR_STAT_DIP 1), .dip, ⟨1000, 100⟩, (powered.wr Reg.PWR_STAT_DIP 1).warned .dip ⟨1000, 100⟩, by decide +kernel⟩

theorem test_witness_PowerCommandsComplete_7 :
    ∃ (s : State), (s.power.running = true) ∧ (s.on Reg.PWR_STAT_PF_WARN = true) :=
  ⟨warned, by decide +kernel⟩

theorem test_witness_PowerCommandsComplete_8 :
    ∃ (s : State), (s.power.running = true) ∧ (s.on Reg.PWR_STAT_PF_WARN = true) ∧ (s.power.outputsOff = true) ∧ (s.power.mramDone = false) :=
  ⟨{ warned with power := { warned.power with outputsOff := true } }, by decide +kernel⟩

theorem test_witness_PowerCommandsComplete_9 :
    ∃ (s : State), (s.power.mainOn = true) ∧ (s.on Reg.PWR_STAT_PF_WARN = true) ∧ (s.power.running = true) ∧ (s.power.mramDone = true) ∧ ((s.power.cause = 3 ∨ s.on Reg.NB_STAT_RAILS_UP = false ∧ (s.on Reg.NB_STAT_DIRTY && s.nbMayCommit) = false)) :=
  ⟨{ warned with power := { warned.power with mramDone := true } }, by decide +kernel⟩

theorem test_witness_PowerCommandsComplete_10 :
    ∃ (s : State), (s.power.mainOn = true) ∧ (s.on Reg.PWR_STAT_PF_WARN = true) ∧ (s.power.running = false) :=
  ⟨{ warned with power := { warned.power with running := false } }, by decide +kernel⟩

theorem test_witness_PowerCommandsComplete_11 :
    ∃ (s : State) (us : Fin 15001), (s.power.mainOn = true) ∧ (s.power.running = false) ∧ (s.on Reg.PWR_STAT_PF_WARN = false) ∧ (10000 ≤ us.val) :=
  ⟨{ powered with power := { powered.power with running := false } }, 12000, by decide +kernel⟩

theorem test_witness_PowerCommandsComplete_12 :
    ∃ (s : State) (a : Arrival), (s.hears a = true) :=
  ⟨(as_ 3).wr Reg.BAN_PEER_SERIAL 5, frame, by decide +kernel⟩

theorem test_witness_PowerCommandsComplete_13 :
    ∃ (s : State) (a : Arrival), (s.hears a = true) ∧ (s.role = roleActive) ∧ (s.ban.ho = none) ∧ (s.ban.join = none) ∧ (s.ban.early = []) :=
  ⟨(as_ 2).wr Reg.BAN_PEER_SERIAL 5, frame, by decide +kernel⟩

theorem test_witness_PowerCommandsComplete_14 :
    ∃ (s : State) (mV : BitVec 16), (mV.toNat < 2700) ∧ (s.power.porterStopped = false) ∧ (s.power.running = true) :=
  ⟨live, 2500, by decide +kernel⟩

theorem test_witness_PowerCommandsComplete_15 :
    ∃ (s : State) (mV : BitVec 16), (mV.toNat < 2700) ∧ (s.power.porterStopped = false) ∧ (s.power.running = false) :=
  ⟨State.reset, 2100, by decide +kernel⟩

theorem test_witness_PowerCommandsComplete_16 :
    ∃ (s : State) (open_ : Bool), (s.power.porterStopped = false) ∧ (s.on Reg.PTR_STAT_LID ≠ open_) :=
  ⟨live, true, by decide +kernel⟩

theorem test_witness_PowerCommandsComplete_17 :
    ∃ (s : State) (open_ : Bool), (s.power.porterStopped = false) ∧ (s.capOn Reg.SYS_CAPS_ANX = true) ∧ (s.on Reg.PTR_STAT_SEAL ≠ open_) :=
  ⟨live, true, by decide +kernel⟩

theorem test_witness_PowerCommandsComplete_18 :
    ∃ (s : State), (s.power.running = true) ∧ (s.locked = false) ∧ (s.role = 7) :=
  ⟨booting, by decide +kernel⟩

theorem test_witness_PowerCommandsComplete_19 :
    ∃ (s : State) (a : Arrival), (s.inOrder a = true) ∧ (s.electing = false) ∧ (s.ban.join = none) ∧ (s.ban.early = []) :=
  ⟨live, frame, by decide +kernel⟩

theorem test_witness_PowerCommandsComplete_20 :
    ∃ (s : State) (a : Arrival), (s.inOrder a = true) ∧ (s.electing = true) ∧ (s.power.deferred = false) ∧ (s.ban.join = none) ∧ (s.ban.early = []) :=
  ⟨booting, frame, by decide +kernel⟩

theorem test_witness_PowerCommandsComplete_21 :
    ∃ (s : State) (at_ : Nat), (s.electing = true) ∧ (s.power.beaconAt = some at_) ∧ (s.power.heard = none) :=
  ⟨{ booting with power := { booting.power with beaconAt := some 7 } }, 7, by decide +kernel⟩

theorem test_witness_PowerCommandsComplete_22 :
    ∃ (s : State) (at_ : Nat) (serial : Nat) (strap : Nat) (role : Nat), (s.electing = true) ∧ (s.power.beaconAt = some at_) ∧ (s.power.heard = some (serial, strap, role)) :=
  ⟨{ booting with power := { booting.power with beaconAt := some 7, heard := some (9, 1, 7) } }, 7, 9, 1, 7, by decide +kernel⟩

theorem test_witness_PowerCommandsComplete_23 :
    ∃ (s : State), (s.electing = true) ∧ (s.power.deferred = true) ∧ (s.power.heard = none) ∧ (s.ban.beat = none) :=
  ⟨{ booting with power := { booting.power with deferred := true } }, by decide +kernel⟩

theorem test_witness_PowerCommandsComplete_24 :
    ∃ (s : State) (serial : Nat) (role : Nat), (s.electing = true) ∧ (s.power.deferred = true) ∧ (s.power.heard = none) ∧ (s.ban.beat = some (serial, role)) :=
  ⟨{ booting with power := { booting.power with deferred := true }, ban := { booting.ban with beat := some (9, 2) } }, 9, 2, by decide +kernel⟩

end Sys2Proof.Machine
end

section
/-!
Every command and every step: the parts of the state that a command may change (R8, R18, R26, R247, R429), the
soundness that a step keeps (R12, R193, R414, R463), and SYS_CAPS, which nothing changes (R2).
-/
namespace Sys2Proof.Machine

/-! ### What every command leaves as it was -/

/-- Each command has the frame that its row of `mayChange` gives: its operation's own frame asks for no part outside
that row. -/
theorem exec_frame (c : Instr) (s : State) : FrA (fun p => (mayChange c).contains p) s (exec c s) := by
  cases c with
  | registerWrite => exact execRegisterWrite_frame _ _ _ _ _ rfl (fr_self _ _)
  | buserrValidClear => exact execBuserrValidClear_frame _ _ _ rfl (fr_self _ _)
  | loReadLatch => exact execLoReadLatch_frame _ _ _ _ rfl (fr_self _ _)
  | loWriteStage => exact execLoWriteStage_frame _ _ _ _ rfl (fr_self _ _)
  | hiWriteApply => exact execHiWriteApply_frame _ _ _ _ rfl (fr_self _ _)
  | rcReadClear => exact execRcReadClear_frame _ _ _ rfl (fr_self _ _)
  | accessTimeout => exact execAccessTimeout_frame _ _ _ _ rfl (fr_self _ _)
  | unitWake => exact execUnitWake_frame _ _ rfl (fr_self _ _)
  | unitGateEntry => exact execUnitGateEntry_frame _ _ _ rfl (fr_self _ _)
  | eccCorrectable addr syndrome => exact execEccCorrectable_frame addr syndrome _ rfl (fr_self _ _)
  | uncorrectableEcc => exact execUncorrectableEcc_frame _ rfl (fr_self _ _)
  | lockstepMismatch => exact execLockstepMismatch_frame _ rfl (fr_self _ _)
  | watchdogExpiry => exact execWatchdogExpiry_frame _ rfl (fr_self _ _)
  | fplVerify => exact execFplVerify_frame _ _ rfl (fr_self _ _)
  | fplStore => exact execFplStore_frame _ _ _ rfl (fr_self _ _)
  | fplSoftApply => exact execFplSoftApply_frame _ _ rfl (fr_self _ _)
  | fplOperationComplete => exact execFplOperationComplete_frame _ rfl (fr_self _ _)
  | bootLoad => exact execBootLoad_frame _ rfl (fr_self _ _)
  | softSectionLanding => exact execSoftSectionLanding_frame _ _ rfl (fr_self _ _)
  | baseTick => exact execBaseTick_frame _ rfl (fr_self _ _)
  | executeReturn => exact execExecuteReturn_frame _ _ _ _ _ _ rfl (fr_self _ _)
  | taskTrap => exact execTaskTrap_frame _ _ _ _ rfl (fr_self _ _)
  | commit => exact execCommit_frame _ _ rfl (fr_self _ _)
  | scnRun => exact execScnRun_frame _ _ rfl (fr_self _ _)
  | scnHold => exact execScnHold_frame _ _ rfl (fr_self _ _)
  | scnStop => exact execScnStop_frame _ _ rfl (fr_self _ _)
  | scnRestart => exact execScnRestart_frame _ _ _ rfl (fr_self _ _)
  | olcVerify => exact execOlcVerify_frame _ _ rfl (fr_self _ _)
  | olcVerifyDone => exact execOlcVerifyDone_frame _ rfl (fr_self _ _)
  | olcArm => exact execOlcArm_frame _ _ _ rfl (fr_self _ _)
  | olcCancel => exact execOlcCancel_frame _ _ rfl (fr_self _ _)
  | olcSwap => exact execOlcSwap_frame _ rfl (fr_self _ _)
  | forceSet => exact execForceSet_frame _ _ rfl (fr_self _ _)
  | forceRelease => exact execForceRelease_frame _ _ rfl (fr_self _ _)
  | forceReleaseAll => exact execForceReleaseAll_frame _ _ rfl (fr_self _ _)
  | loopTick => exact execLoopTick_frame _ _ _ rfl (fr_self _ _)
  | loopCommit => exact execLoopCommit_frame _ _ _ rfl (fr_self _ _)
  | loopDiscard => exact execLoopDiscard_frame _ _ _ rfl (fr_self _ _)
  | loopInit => exact execLoopInit_frame _ _ _ rfl (fr_self _ _)
  | solverTake => exact execSolverTake_frame _ _ rfl (fr_self _ _)
  | solverIteration => exact execSolverIteration_frame _ _ rfl (fr_self _ _)
  | solverComplete => exact execSolverComplete_frame _ rfl (fr_self _ _)
  | slotClear => exact execSlotClear_frame _ _ _ rfl (fr_self _ _)
  | slotClearAll => exact execSlotClearAll_frame _ _ rfl (fr_self _ _)
  | solverPowerGate => exact execSolverPowerGate_frame _ rfl (fr_self _ _)
  | stepBoundary => exact execStepBoundary_frame _ _ rfl (fr_self _ _)
  | vlimStage => exact execVlimStage_frame _ _ _ _ _ rfl (fr_self _ _)
  | encLoss => exact execEncLoss_frame _ _ rfl (fr_self _ _)
  | encErr => exact execEncErr_frame _ _ rfl (fr_self _ _)
  | enSettleElapsed => exact execEnSettleElapsed_frame _ _ rfl (fr_self _ _)
  | stillDelayElapsed => exact execStillDelayElapsed_frame _ _ rfl (fr_self _ _)
  | axisResume => exact execAxisResume_frame _ _ rfl (fr_self _ _)
  | heartbeatSend => exact execHeartbeatSend_frame _ rfl (fr_self _ _)
  | heartbeat => exact execHeartbeat_frame _ _ _ _ _ rfl (fr_self _ _)
  | banisterFrameDiscard => exact execBanisterFrameDiscard_frame _ _ _ _ rfl (fr_self _ _)
  | role => exact execRole_frame _ _ _ rfl (fr_self _ _)
  | nak => exact execNak_frame _ _ _ rfl (fr_self _ _)
  | handshakeTimeout => exact execHandshakeTimeout_frame _ rfl (fr_self _ _)
  | agreement => exact execAgreement_frame _ _ _ rfl (fr_self _ _)
  | agreeAck => exact execAgreeAck_frame _ _ _ _ rfl (fr_self _ _)
  | rxMirror => exact execRxMirror_frame _ _ _ rfl (fr_self _ _)
  | mirrorAck => exact execMirrorAck_frame _ _ _ rfl (fr_self _ _)
  | regMirror => exact execRegMirror_frame _ _ _ rfl (fr_self _ _)
  | digest => exact execDigest_frame _ _ _ _ _ _ _ rfl (fr_self _ _)
  | digestMissing => exact execDigestMissing_frame _ _ rfl (fr_self _ _)
  | strictDigestTimeout => exact execStrictDigestTimeout_frame _ _ rfl (fr_self _ _)
  | loopSamples => exact execLoopSamples_frame _ _ _ _ _ rfl (fr_self _ _)
  | axisCounts => exact execAxisCounts_frame _ _ _ _ _ rfl (fr_self _ _)
  | solverPermit => exact execSolverPermit_frame _ _ _ rfl (fr_self _ _)
  | missingFrameDemote => exact execMissingFrameDemote_frame _ _ rfl (fr_self _ _)
  | inquiryResult => exact execInquiryResult_frame _ _ _ rfl (fr_self _ _)
  | inquiryTimeout => exact execInquiryTimeout_frame _ rfl (fr_self _ _)
  | banHandover => exact execBanHandover_frame _ _ rfl (fr_self _ _)
  | rearmReadback => exact execRearmReadback_frame _ _ _ _ rfl (fr_self _ _)
  | rearmAll => exact execRearmAll_frame _ _ rfl (fr_self _ _)
  | forceTakeover => exact execForceTakeover_frame _ _ rfl (fr_self _ _)
  | handover => exact execHandover_frame _ _ _ rfl (fr_self _ _)
  | driving => exact execDriving_frame _ _ _ rfl (fr_self _ _)
  | rampStart => exact execRampStart_frame _ rfl (fr_self _ _)
  | rampEnd => exact execRampEnd_frame _ rfl (fr_self _ _)
  | released => exact execReleased_frame _ _ rfl (fr_self _ _)
  | barrierBackstop => exact execBarrierBackstop_frame _ rfl (fr_self _ _)
  | takeoverInstant => exact execTakeoverInstant_frame _ _ rfl (fr_self _ _)
  | laneLost => exact execLaneLost_frame _ _ rfl (fr_self _ _)
  | laneRestored => exact execLaneRestored_frame _ _ rfl (fr_self _ _)
  | plantHeartbeatSend => exact execPlantHeartbeatSend_frame _ rfl (fr_self _ _)
  | plantHeartbeat => exact execPlantHeartbeat_frame _ _ _ rfl (fr_self _ _)
  | laneLossTakeover => exact execLaneLossTakeover_frame _ rfl (fr_self _ _)
  | joinStart => exact execJoinStart_frame _ rfl (fr_self _ _)
  | joinRetry => exact execJoinRetry_frame _ rfl (fr_self _ _)
  | joinRequest => exact execJoinRequest_frame _ _ _ _ _ _ _ rfl (fr_self _ _)
  | joinRequestResend => exact execJoinRequestResend_frame _ rfl (fr_self _ _)
  | joinAnswer => exact execJoinAnswer_frame _ _ _ _ _ _ rfl (fr_self _ _)
  | hamperSend => exact execHamperSend_frame _ rfl (fr_self _ _)
  | hamper => exact execHamper_frame _ _ _ _ _ _ _ _ rfl (fr_self _ _)
  | hamperAck => exact execHamperAck_frame _ _ _ _ _ rfl (fr_self _ _)
  | logEntry => exact execLogEntry_frame _ _ _ rfl (fr_self _ _)
  | replayCycle => exact execReplayCycle_frame _ _ _ _ _ _ _ _ rfl (fr_self _ _)
  | caughtUp => exact execCaughtUp_frame _ _ _ rfl (fr_self _ _)
  | topup => exact execTopup_frame _ _ _ rfl (fr_self _ _)
  | joinTick => exact execJoinTick_frame _ rfl (fr_self _ _)
  | joined => exact execJoined_frame _ _ _ rfl (fr_self _ _)
  | banJoin => exact execBanJoin_frame _ _ rfl (fr_self _ _)
  | upgradeAdmit => exact execUpgradeAdmit_frame _ _ rfl (fr_self _ _)
  | upgradeAdmitLapse => exact execUpgradeAdmitLapse_frame _ rfl (fr_self _ _)
  | abandonUpgrade => exact execAbandonUpgrade_frame _ _ rfl (fr_self _ _)
  | banSwap => exact execBanSwap_frame _ _ _ rfl (fr_self _ _)
  | swap => exact execSwap_frame _ _ _ rfl (fr_self _ _)
  | swapLanding => exact execSwapLanding_frame _ rfl (fr_self _ _)
  | ready => exact execReady_frame _ _ _ _ rfl (fr_self _ _)
  | latentLimitReached => exact execLatentLimitReached_frame _ rfl (fr_self _ _)
  | safetyCycle => exact execSafetyCycle_frame _ _ rfl (fr_self _ _)
  | safetyWatchdogExpiry => exact execSafetyWatchdogExpiry_frame _ _ _ rfl (fr_self _ _)
  | supervisorForce => exact execSupervisorForce_frame _ _ rfl (fr_self _ _)
  | safetyBootComplete => exact execSafetyBootComplete_frame _ _ _ _ _ rfl (fr_self _ _)
  | safetyAdoptComplete => exact execSafetyAdoptComplete_frame _ rfl (fr_self _ _)
  | ftiChange => exact execFtiChange_frame _ _ _ rfl (fr_self _ _)
  | trpReqWrite => exact execTrpReqWrite_frame _ _ _ rfl (fr_self _ _)
  | firstOutRearm => exact execFirstOutRearm_frame _ _ _ rfl (fr_self _ _)
  | ctrlHbLost => exact execCtrlHbLost_frame _ rfl (fr_self _ _)
  | darkTest => exact execDarkTest_frame _ _ _ _ rfl (fr_self _ _)
  | killLineChange => exact execKillLineChange_frame _ _ rfl (fr_self _ _)
  | testPulseOff => exact execTestPulseOff_frame _ _ rfl (fr_self _ _)
  | testPulseSample => exact execTestPulseSample_frame _ _ _ _ _ rfl (fr_self _ _)
  | excursionExpire => exact execExcursionExpire_frame _ _ rfl (fr_self _ _)
  | excursionStore => exact execExcursionStore_frame _ rfl (fr_self _ _)
  | safReturn => exact execSafReturn_frame _ _ _ rfl (fr_self _ _)
  | safReset => exact execSafReset_frame _ _ _ rfl (fr_self _ _)
  | returnMatrix => exact execReturnMatrix_frame _ _ rfl (fr_self _ _)
  | returnCheckEnd => exact execReturnCheckEnd_frame _ _ _ rfl (fr_self _ _)
  | matrixCheckEnd => exact execMatrixCheckEnd_frame _ rfl (fr_self _ _)
  | safetyFieldStale => exact execSafetyFieldStale_frame _ _ _ _ _ _ rfl (fr_self _ _)
  | tgCopyReceive => exact execTgCopyReceive_frame _ _ _ rfl (fr_self _ _)
  | skewWindowExpire => exact execSkewWindowExpire_frame _ _ rfl (fr_self _ _)
  | heldCopyExpire => exact execHeldCopyExpire_frame _ _ rfl (fr_self _ _)
  | tgTimeout => exact execTgTimeout_frame _ _ rfl (fr_self _ _)
  | connRestart => exact execConnRestart_frame _ _ rfl (fr_self _ _)
  | connReport => exact execConnReport_frame _ _ rfl (fr_self _ _)
  | barrierFrameSend => exact execBarrierFrameSend_frame _ _ rfl (fr_self _ _)
  | barrierSlot => exact execBarrierSlot_frame _ _ _ _ _ rfl (fr_self _ _)
  | islandFrameReceive => exact execIslandFrameReceive_frame _ _ rfl (fr_self _ _)
  | islandWatchdog => exact execIslandWatchdog_frame _ _ rfl (fr_self _ _)
  | inputSample => exact execInputSample_frame _ _ _ rfl (fr_self _ _)
  | wireBreak => exact execWireBreak_frame _ _ _ _ rfl (fr_self _ _)
  | wireBreakEnd => exact execWireBreakEnd_frame _ _ _ rfl (fr_self _ _)
  | doOverload => exact execDoOverload_frame _ _ _ _ rfl (fr_self _ _)
  | doRetry => exact execDoRetry_frame _ _ _ _ rfl (fr_self _ _)
  | groupOverloadStep => exact execGroupOverloadStep_frame _ _ _ rfl (fr_self _ _)
  | sagOff => exact execSagOff_frame _ _ _ rfl (fr_self _ _)
  | restoreReady => exact execRestoreReady_frame _ _ _ rfl (fr_self _ _)
  | islandLogicReset => exact execIslandLogicReset_frame _ _ rfl (fr_self _ _)
  | islRestore => exact execIslRestore_frame _ _ _ rfl (fr_self _ _)
  | islClearCounts => exact execIslClearCounts_frame _ _ _ rfl (fr_self _ _)
  | restoreChannelOn => exact execRestoreChannelOn_frame _ _ rfl (fr_self _ _)
  | doReadbackMismatch => exact execDoReadbackMismatch_frame _ _ _ rfl (fr_self _ _)
  | aiSample => exact execAiSample_frame _ _ _ _ rfl (fr_self _ _)
  | txOverload => exact execTxOverload_frame _ _ _ _ rfl (fr_self _ _)
  | buckUpdate => exact execBuckUpdate_frame _ _ _ rfl (fr_self _ _)
  | thermalTrip => exact execThermalTrip_frame _ _ _ _ rfl (fr_self _ _)
  | thermalResume => exact execThermalResume_frame _ _ _ _ rfl (fr_self _ _)
  | complianceSet => exact execComplianceSet_frame _ _ _ rfl (fr_self _ _)
  | complianceClear => exact execComplianceClear_frame _ _ _ rfl (fr_self _ _)
  | compFault => exact execCompFault_frame _ _ _ rfl (fr_self _ _)
  | aoReadbackMismatch => exact execAoReadbackMismatch_frame _ _ _ rfl (fr_self _ _)
  | trimWrite => exact execTrimWrite_frame _ _ _ _ _ rfl (fr_self _ _)
  | keyMenu => exact execKeyMenu_frame _ _ _ _ rfl (fr_self _ _)
  | keyUp => exact execKeyUp_frame _ rfl (fr_self _ _)
  | keyDown => exact execKeyDown_frame _ rfl (fr_self _ _)
  | keyEnter => exact execKeyEnter_frame _ rfl (fr_self _ _)
  | keyEsc => exact execKeyEsc_frame _ rfl (fr_self _ _)
  | keySessionTimeout => exact execKeySessionTimeout_frame _ rfl (fr_self _ _)
  | keyswitchChange => exact execKeyswitchChange_frame _ _ _ rfl (fr_self _ _)
  | usbSessionOpen => exact execUsbSessionOpen_frame _ rfl (fr_self _ _)
  | canFrameReceive => exact execCanFrameReceive_frame _ _ _ rfl (fr_self _ _)
  | canHpAck => exact execCanHpAck_frame _ _ _ _ rfl (fr_self _ _)
  | canTxStart => exact execCanTxStart_frame _ _ _ rfl (fr_self _ _)
  | canTxComplete => exact execCanTxComplete_frame _ _ _ rfl (fr_self _ _)
  | busOff => exact execBusOff_frame _ _ rfl (fr_self _ _)
  | canRecovered => exact execCanRecovered_frame _ _ rfl (fr_self _ _)
  | canBusOn => exact execCanBusOn_frame _ _ _ rfl (fr_self _ _)
  | canClearCounts => exact execCanClearCounts_frame _ _ _ rfl (fr_self _ _)
  | canErrorFrame => exact execCanErrorFrame_frame _ _ _ rfl (fr_self _ _)
  | ttWindowStart => exact execTtWindowStart_frame _ _ _ _ rfl (fr_self _ _)
  | ttWindowMissed => exact execTtWindowMissed_frame _ _ _ _ rfl (fr_self _ _)
  | canChannelActive => exact execCanChannelActive_frame _ _ rfl (fr_self _ _)
  | canFilterWrite => exact execCanFilterWrite_frame _ _ _ _ _ _ rfl (fr_self _ _)
  | ethFrameReceive => exact execEthFrameReceive_frame _ _ _ _ rfl (fr_self _ _)
  | ethTxStart => exact execEthTxStart_frame _ _ rfl (fr_self _ _)
  | ethTxComplete => exact execEthTxComplete_frame _ _ rfl (fr_self _ _)
  | linkUp => exact execLinkUp_frame _ _ rfl (fr_self _ _)
  | linkDown => exact execLinkDown_frame _ _ _ rfl (fr_self _ _)
  | igmpReport => exact execIgmpReport_frame _ rfl (fr_self _ _)
  | ethMaint => exact execEthMaint_frame _ _ _ rfl (fr_self _ _)
  | maintSessionExpire => exact execMaintSessionExpire_frame _ rfl (fr_self _ _)
  | ptpAnnounce => exact execPtpAnnounce_frame _ _ _ rfl (fr_self _ _)
  | ptpSync => exact execPtpSync_frame _ _ _ rfl (fr_self _ _)
  | delayReq => exact execDelayReq_frame _ _ _ rfl (fr_self _ _)
  | domainHoldover => exact execDomainHoldover_frame _ _ rfl (fr_self _ _)
  | announceTimeout => exact execAnnounceTimeout_frame _ _ rfl (fr_self _ _)
  | timRealign => exact execTimRealign_frame _ _ rfl (fr_self _ _)
  | ppsInEdge => exact execPpsInEdge_frame _ rfl (fr_self _ _)
  | ppsOutEdge => exact execPpsOutEdge_frame _ rfl (fr_self _ _)
  | classTimeCapture => exact execClassTimeCapture_frame _ _ _ _ rfl (fr_self _ _)
  | c2BackupRefresh => exact execC2BackupRefresh_frame _ rfl (fr_self _ _)
  | serMessageReceive => exact execSerMessageReceive_frame _ _ _ rfl (fr_self _ _)
  | serTxStart => exact execSerTxStart_frame _ _ rfl (fr_self _ _)
  | serTxComplete => exact execSerTxComplete_frame _ _ _ _ rfl (fr_self _ _)
  | pollSend => exact execPollSend_frame _ _ rfl (fr_self _ _)
  | pollReturn => exact execPollReturn_frame _ _ _ _ _ rfl (fr_self _ _)
  | outputReturn => exact execOutputReturn_frame _ _ _ _ rfl (fr_self _ _)
  | identReturn => exact execIdentReturn_frame _ _ _ _ rfl (fr_self _ _)
  | stairwayTurnaround => exact execStairwayTurnaround_frame _ _ _ rfl (fr_self _ _)
  | stairwayLinkChange => exact execStairwayLinkChange_frame _ _ _ rfl (fr_self _ _)
  | pgnTxPost => exact execPgnTxPost_frame _ _ _ _ rfl (fr_self _ _)
  | pgnRxHdrRead => exact execPgnRxHdrRead_frame _ _ _ rfl (fr_self _ _)
  | pgnRxAck => exact execPgnRxAck_frame _ _ _ _ rfl (fr_self _ _)
  | withdraw => exact execWithdraw_frame _ _ _ rfl (fr_self _ _)
  | pgnTimeout => exact execPgnTimeout_frame _ _ rfl (fr_self _ _)
  | pgnTimeoutClear => exact execPgnTimeoutClear_frame _ _ _ rfl (fr_self _ _)
  | quePiWrite => exact execQuePiWrite_frame _ _ _ _ rfl (fr_self _ _)
  | queDiWrite => exact execQueDiWrite_frame _ _ _ _ rfl (fr_self _ _)
  | queCiWrite => exact execQueCiWrite_frame _ _ _ _ rfl (fr_self _ _)
  | queuePoolWrite => exact execQueuePoolWrite_frame _ _ _ _ rfl (fr_self _ _)
  | gbEvent => exact execGbEvent_frame _ rfl (fr_self _ _)
  | gbRecordWrite => exact execGbRecordWrite_frame _ _ rfl (fr_self _ _)
  | gbTokenRefill => exact execGbTokenRefill_frame _ _ rfl (fr_self _ _)
  | gbClear => exact execGbClear_frame _ _ rfl (fr_self _ _)
  | gbCursorWrite => exact execGbCursorWrite_frame _ _ _ rfl (fr_self _ _)
  | rndStopGrant => exact execRndStopGrant_frame _ rfl (fr_self _ _)
  | rndStep => exact execRndStep_frame _ _ _ _ rfl (fr_self _ _)
  | rndGrantClose => exact execRndGrantClose_frame _ rfl (fr_self _ _)
  | rndPassLate => exact execRndPassLate_frame _ rfl (fr_self _ _)
  | wearSample => exact execWearSample_frame _ _ _ rfl (fr_self _ _)
  | annexInterval => exact execAnnexInterval_frame _ _ _ rfl (fr_self _ _)
  | annexResultPost => exact execAnnexResultPost_frame _ rfl (fr_self _ _)
  | annexStatusPost => exact execAnnexStatusPost_frame _ rfl (fr_self _ _)
  | annexReportRepost => exact execAnnexReportRepost_frame _ rfl (fr_self _ _)
  | identIf => exact execIdentIf_frame _ rfl (fr_self _ _)
  | annexStatusLost => exact execAnnexStatusLost_frame _ rfl (fr_self _ _)
  | timeWordSend => exact execTimeWordSend_frame _ _ rfl (fr_self _ _)
  | annexTimeHold => exact execAnnexTimeHold_frame _ rfl (fr_self _ _)
  | annexWriteSwitch => exact execAnnexWriteSwitch_frame _ _ rfl (fr_self _ _)
  | readParam => exact execReadParam_frame _ _ rfl (fr_self _ _)
  | readLog => exact execReadLog_frame _ rfl (fr_self _ _)
  | readTotals => exact execReadTotals_frame _ rfl (fr_self _ _)
  | writeParam => exact execWriteParam_frame _ _ rfl (fr_self _ _)
  | loadSoftware => exact execLoadSoftware_frame _ _ _ _ _ _ _ rfl (fr_self _ _)
  | clearLog => exact execClearLog_frame _ _ rfl (fr_self _ _)
  | annexTotalsCommit => exact execAnnexTotalsCommit_frame _ rfl (fr_self _ _)
  | nbUpdateTake => exact execNbUpdateTake_frame _ rfl (fr_self _ _)
  | nbFrame => exact execNbFrame_frame _ _ rfl (fr_self _ _)
  | nbBalancePass => exact execNbBalancePass_frame _ rfl (fr_self _ _)
  | nbCleanCmd => exact execNbCleanCmd_frame _ _ rfl (fr_self _ _)
  | nbRefreshCmd => exact execNbRefreshCmd_frame _ _ rfl (fr_self _ _)
  | nbBalanceCmd => exact execNbBalanceCmd_frame _ _ rfl (fr_self _ _)
  | nbIdleScan => exact execNbIdleScan_frame _ _ _ rfl (fr_self _ _)
  | nbRailRise => exact execNbRailRise_frame _ rfl (fr_self _ _)
  | nbRailFault => exact execNbRailFault_frame _ _ rfl (fr_self _ _)
  | nbRailsDown => exact execNbRailsDown_frame _ rfl (fr_self _ _)
  | nbQuiescentCommit => exact execNbQuiescentCommit_frame _ rfl (fr_self _ _)
  | nbLightWrite => exact execNbLightWrite_frame _ _ _ rfl (fr_self _ _)
  | powerInputChange => exact execPowerInputChange_frame _ _ rfl (fr_self _ _)
  | powerFailWarning => exact execPowerFailWarning_frame _ _ _ rfl (fr_self _ _)
  | shutdownOutputsOff => exact execShutdownOutputsOff_frame _ rfl (fr_self _ _)
  | shutdownMramCommit => exact execShutdownMramCommit_frame _ _ _ rfl (fr_self _ _)
  | controlUnpowered => exact execControlUnpowered_frame _ _ rfl (fr_self _ _)
  | holdupFull => exact execHoldupFull_frame _ _ rfl (fr_self _ _)
  | controlResetRelease => exact execControlResetRelease_frame _ _ rfl (fr_self _ _)
  | shutdown => exact execShutdown_frame _ _ _ rfl (fr_self _ _)
  | cellLow => exact execCellLow_frame _ _ rfl (fr_self _ _)
  | sealChange => exact execSealChange_frame _ _ _ rfl (fr_self _ _)
  | beaconSend => exact execBeaconSend_frame _ rfl (fr_self _ _)
  | beacon => exact execBeacon_frame _ _ _ _ _ _ rfl (fr_self _ _)
  | electionWindowEnd => exact execElectionWindowEnd_frame _ rfl (fr_self _ _)
  | electionDeferEnd => exact execElectionDeferEnd_frame _ rfl (fr_self _ _)
  | ethJoinPoint => exact execEthJoinPoint_frame _ rfl (fr_self _ _)
  | encLossClear => exact execEncLossClear_frame _ _ rfl (fr_self _ _)
  | fastTripSupplyChange => exact execFastTripSupplyChange_frame _ _ rfl (fr_self _ _)
  | safetyMonitorWarning => exact execSafetyMonitorWarning_frame _ _ _ rfl (fr_self _ _)
  | islandSupplyReturn => exact execIslandSupplyReturn_frame _ _ _ rfl (fr_self _ _)
  | txOverloadClear => exact execTxOverloadClear_frame _ _ _ rfl (fr_self _ _)
  | loopSideStop => exact execLoopSideStop_frame _ _ _ _ _ rfl (fr_self _ _)
  | aoReadbackClear => exact execAoReadbackClear_frame _ _ _ rfl (fr_self _ _)
  | ppsInTimeout => exact execPpsInTimeout_frame _ rfl (fr_self _ _)
  | slewingEnd => exact execSlewingEnd_frame _ _ rfl (fr_self _ _)
  | gbClearComplete => exact execGbClearComplete_frame _ rfl (fr_self _ _)
  | annexSelfTest => exact execAnnexSelfTest_frame _ _ rfl (fr_self _ _)
  | thermalStressUpdate => exact execThermalStressUpdate_frame _ rfl (fr_self _ _)

/-! ### What every step keeps -/

/-- A step is the front command's meaning on the rest of the queue. -/
theorem step_of_pending {s : State} {c : Instr} {rest : List Instr} (h : s.pending = c :: rest) :
    step s = exec c { s with pending := rest } := by
  rw [step, h]

/-- A step with no command waiting idles. -/
theorem step_of_no_pending {s : State} (h : s.pending = []) : step s = .next s.idle := by
  rw [step, h]

/-- What a step can do: idle, or the front command, which keeps what `Keeps` says of the state without it. -/
theorem step_cases {s t : State} (h : step s = .next t) :
    (s.pending = [] ∧ t = s.idle) ∨
      ∃ c rest, s.pending = c :: rest ∧ Keeps { s with pending := rest } t := by
  cases hp : s.pending with
  | nil =>
    rw [step_of_no_pending hp] at h
    exact .inl ⟨rfl, (Host.Outcome.next.inj h).symm⟩
  | cons c rest =>
    rw [step_of_pending hp] at h
    exact .inr ⟨c, rest, rfl, exec_keeps c (keeps_self _) t h⟩

/-- The free-running counter is no part of the invariant. -/
theorem sound_idle (s : State) : s.idle.sound = s.sound := by
  unfold State.idle
  split <;> rfl

theorem caps_idle (s : State) : s.idle.caps = s.caps := by
  unfold State.idle
  split <;> rfl

theorem step_caps {s t : State} (h : step s = .next t) : t.caps = s.caps := by
  obtain ⟨-, rfl⟩ | ⟨c, rest, -, hk⟩ := step_cases h
  · exact caps_idle s
  · exact hk.caps

/-! ### The state after reset -/

/-- The reset values stand in order of address, and none is 0. -/
theorem tab_wf_resetRegs : Tab.wf resetRegs = true := by
  decide +kernel

/-- A state that holds nothing but registers is sound where their table is canonical. -/
theorem sound_of_regs_only {s : State} (h : Tab.wf s.regs = true) (hm : s.mem = []) (hl : s.latch = [])
    (hq : s.gb.queue = []) (ht : s.ban.tx = []) (hu : s.nb.upds = []) : s.sound = true := by
  have hnil : ∀ w, Tab.wf ([] : Tab w) = true := fun _ => rfl
  simp [State.sound, State.tabled, State.bounded, h, hm, hl, hq, ht, hu, hnil]

end Sys2Proof.Machine
end

section
/-!
What a register access does (R9 to R14, R27, R31 to R36): the checks that SYS_CAPS passes for every master, the latches
that each master has for itself, and the words that a write by access code and a read that clears leave.
-/
namespace Sys2Proof.Machine

/-! ### Waking a unit for an access -/

@[simp] theorem wakeAt_latch (s : State) (a : Nat) : (s.wakeAt a).latch = s.latch := by
  unfold State.wakeAt
  split
  · exact wake_latch _ _
  · rfl

@[simp] theorem wakeAt_staged (s : State) (a : Nat) : (s.wakeAt a).staged = s.staged := by
  unfold State.wakeAt
  split
  · exact wake_staged _ _
  · rfl

@[simp] theorem wakeAt_frc (s : State) (a : Nat) : (s.wakeAt a).frc = s.frc := by
  unfold State.wakeAt
  split
  · exact wake_frc _ _
  · rfl

/-- The wake-up that an access brings shows in no register but the two that give a power state. -/
theorem fileAt_wakeAt (s : State) (b a : Nat) (h1 : a ≠ Reg.SLV_STAT_STATE.addr) (h2 : a ≠ Reg.LOOP_STAT_STATE.addr) :
    (s.wakeAt b).fileAt a = s.fileAt a := by
  unfold State.wakeAt
  split
  · exact fileAt_wake _ _ _ h1 h2
  · rfl

/-! ### SYS_CAPS (R2, R3) -/

theorem absent_sysCaps (s : State) : s.absent sysCapsAddr = false := rfl

/-- Whatever its reach, a master may read SYS_CAPS. -/
theorem checkAccess_sysCaps (s : State) (m : Master) : s.checkAccess m .w32 false sysCapsAddr = none := by
  have hreg : (regAt sysCapsAddr).isNone = false := rfl
  have hmem : (inDram sysCapsAddr || inSram sysCapsAddr) = false := rfl
  have hin : inRegs sysCapsAddr = true := rfl
  have hw : widthOk .w32 false sysCapsAddr = true := rfl
  simp [State.checkAccess, hreg, hmem, hin, hw, absent_sysCaps]

/-- The register shows every bit that a variant sets. -/
theorem caps_masked (s : State) : s.caps &&& 0xFFF3F = s.caps := by
  unfold State.caps
  cases s.ident.variant <;> rfl

theorem busRead_sysCaps (s : State) (m : Master) : s.busRead m .w32 sysCapsAddr = s.answer s.caps := by
  have hc : s.readClears ⟨sysCapsAddr, [], 0xFFF3F, 0, 0, 0, .whole⟩ m sysCapsAddr = s := by
    simp [State.readClears]
  calc s.busRead m .w32 sysCapsAddr
      = (s.readClears ⟨sysCapsAddr, [], 0xFFF3F, 0, 0, 0, .whole⟩ m sysCapsAddr).answer (s.caps &&& 0xFFF3F) := rfl
    _ = s.answer s.caps := by rw [hc, caps_masked]

/-! ### The latches of each master (R12, R13) -/

theorem masterId_injective : Function.Injective masterId := by
  intro m m' h
  cases m <;> cases m' <;>
    simp only [masterId, reduceCtorEq, Master.apc.injEq, Master.com.injEq, Fin.ext_iff] at h ⊢ <;> omega

theorem latchKey_ne {m m' : Master} {a b : Nat} (hm : m' ≠ m) (ha : a < 2 ^ 40) (hb : b < 2 ^ 40) :
    latchKey m' a ≠ latchKey m b := by
  have hid : masterId m' ≠ masterId m := fun e => hm (masterId_injective e)
  unfold latchKey
  omega

theorem get_setLatch_self (s : State) (m : Master) (a v : Nat) :
    Tab.get (s.setLatch m a v).latch (latchKey m a) = BitVec.ofNat 32 v :=
  Tab.get_put_self _ _ _

/-- A master's latch is no other master's. -/
theorem get_setLatch_other (s : State) {m m' : Master} {a b : Nat} (v : Nat) (hm : m' ≠ m) (ha : a < 2 ^ 40)
    (hb : b < 2 ^ 40) : Tab.get (s.setLatch m b v).latch (latchKey m' a) = Tab.get s.latch (latchKey m' a) :=
  Tab.get_put_ne _ _ _ _ (latchKey_ne hm ha hb)

@[simp] theorem pgnDenied_latch (s : State) (m : Master) (b : Bool) (ch a : Nat) :
    (s.pgnDenied m b ch a).latch = s.latch :=
  State.pgnDenied_frame s m b ch a (al_contains _) (fr_self _ s) .latch rfl

@[simp] theorem pgnHdrRead_latch (s : State) (m : Master) (ch : Nat) : (s.pgnHdrRead m ch).latch = s.latch :=
  State.pgnHdrRead_frame s m ch (al_contains _) (fr_self _ s) .latch rfl

@[simp] theorem readClears_latch (s : State) (r : RegSpec) (m : Master) (a : Nat) : (s.readClears r m a).latch = s.latch :=
  State.readClears_frame s r m a (al_contains _) (fr_self _ s) .latch rfl

/-- Of the reads, those of a class time latch two registers beside the one read (R373). -/
theorem classCapture_latch_other (s : State) {m m' : Master} (w : Width) (t : Int) {hi ns : Fld} {a : Nat} (hm : m' ≠ m)
    (ha : a < 2 ^ 40) (hhi : hi.addr < 2 ^ 40) (hns : ns.addr < 2 ^ 40) :
    Tab.get (s.classCapture m w t hi ns).latch (latchKey m' a) = Tab.get s.latch (latchKey m' a) :=
  (get_setLatch_other _ _ hm ha hns).trans (get_setLatch_other _ _ hm ha hhi)

/-- A read of a register changes no other master's latch. -/
theorem busRead_latch_other (s : State) {m m' : Master} (w : Width) {addr a : Nat} (hm : m' ≠ m) (ha : a < 2 ^ 40)
    (hb : addr + 4 < 2 ^ 40) : Tab.get (s.busRead m w addr).latch (latchKey m' a) = Tab.get s.latch (latchKey m' a) := by
  unfold State.busRead
  split
  · rfl
  · split_ifs
    · exact classCapture_latch_other s w _ hm ha (by decide) (by decide)
    · exact classCapture_latch_other s w _ hm ha (by decide) (by decide)
    · rw [pgnHdrRead_latch]
    · rw [pgnDenied_latch]
    · exact get_setLatch_other s _ hm ha hb
    · rw [answer_latch]
    · rw [answer_latch, readClears_latch]

/-- An access leaves a latch as it was where what the register does leaves it. -/
theorem access_latch_other (s : State) (m : Master) (w : Width) (b : Bool) (addr : Nat) (k : State → State) (key : Nat)
    (hk : ∀ t, Tab.get (k t).latch key = Tab.get t.latch key) :
    Tab.get (s.access m w b addr k).latch key = Tab.get s.latch key := by
  unfold State.access
  split_ifs
  · split
    · rw [busFail_latch]
    · rw [hk, answer_latch, wakeAt_latch]
  · rfl

/-! ### The words that a write leaves (R10, R11, R14) -/

/-- A masked write sets the bits of its mask and no other. -/
theorem getLsbD_wrMasked (s : State) (a mask v : Nat) {i : Nat} (hi : i < 32) :
    (Tab.get (s.wrMasked a mask v).regs a).getLsbD i =
      if mask.testBit i then v.testBit i else (Tab.get s.regs a).getLsbD i := by
  unfold State.wrMasked
  rw [Tab.get_put_self]
  simp only [BitVec.getLsbD_or, BitVec.getLsbD_and, BitVec.getLsbD_not, BitVec.getLsbD_ofNat, hi, decide_true, Bool.true_and]
  cases mask.testBit i <;> simp

/-- A write of all bits leaves the word written. -/
theorem get_wrMasked_all (s : State) (a v : Nat) :
    Tab.get (s.wrMasked a 0xFFFFFFFF v).regs a = BitVec.ofNat 32 v := by
  apply BitVec.eq_of_getLsbD_eq
  intro i hi
  have hm : (0xFFFFFFFF : Nat).testBit i = true := (Nat.testBit_two_pow_sub_one 32 i).trans (decide_eq_true hi)
  rw [getLsbD_wrMasked s a _ v hi, if_pos hm, BitVec.getLsbD_ofNat, decide_eq_true hi, Bool.true_and]

/-- A write of no bit leaves the register as it was. -/
theorem get_wrMasked_none (s : State) (a v : Nat) : Tab.get (s.wrMasked a 0 v).regs a = Tab.get s.regs a := by
  apply BitVec.eq_of_getLsbD_eq
  intro i hi
  rw [getLsbD_wrMasked s a 0 v hi, Nat.zero_testBit]
  rfl

/-- A one-bit field that a mask names and a write sets to 0 reads 0. -/
theorem rd_wrMasked_cleared (s : State) {a mask n : Nat} (hn : n < 32) (hm : mask.testBit n = true) :
    (s.wrMasked a mask 0).rd ⟨a, n, 1⟩ = 0 := by
  have hbit : (Tab.get (s.wrMasked a mask 0).regs a).toNat.testBit n = false := by
    rw [BitVec.testBit_toNat, getLsbD_wrMasked s a mask 0 hn, if_pos hm, Nat.zero_testBit]
  apply Nat.eq_of_testBit_eq
  intro i
  rw [State.rd, testBit_bits, Nat.zero_testBit]
  cases i with
  | zero => simpa using hbit
  | succ i => simp

/-- A whole register reads as its word. -/
theorem rd_word (s : State) (a : Nat) : s.rd ⟨a, 0, 32⟩ = s.fileAt a := by
  rw [rd_eq_fileAt, bits, Nat.pow_zero, Nat.div_one]
  exact Nat.mod_eq_of_lt (BitVec.isLt _)

/-- The access codes of a register all of whose bits are RW. -/
def rwWord (a : Nat) : RegSpec := ⟨a, [], 0xFFFFFFFF, 0xFFFFFFFF, 0, 0, .whole⟩

/-- The access codes of a register all of whose bits a read clears. -/
def rcWord (a : Nat) : RegSpec := ⟨a, [], 0xFFFFFFFF, 0, 0, 0xFFFFFFFF, .whole⟩

/-- A plain RW register holds what is written to it. -/
theorem get_plainWrite_rwWord (s : State) (a v : Nat) :
    Tab.get (s.plainWrite (rwWord a) a v).regs a = BitVec.ofNat 32 v := by
  have hw : (0 : Nat) &&& v = 0 := Nat.zero_and v
  show Tab.get ((s.wrMasked a 0xFFFFFFFF v).wrMasked a (0 &&& v) 0).regs a = _
  rw [hw, get_wrMasked_none, get_wrMasked_all]

/-- A write of the high register of a pair all of whose bits are RW applies the low half staged for its master and
the high half written. -/
theorem rd64_applyPair (s : State) (m : Master) (lo hi : Nat) {low : Word} (value : Word) (hne : lo ≠ hi)
    (h : Assoc.find? s.staged (latchKey m lo) = some low) :
    (s.applyPair m lo hi 0xFFFFFFFF value.toNat).rd64 ⟨lo, 0, 32⟩ ⟨hi, 0, 32⟩ = low.toNat + 2 ^ 32 * value.toNat := by
  have hs : s.stagedLo m lo (s.fileAt lo) = low.toNat := by simp [State.stagedLo, h]
  have hlo : (s.applyPair m lo hi 0xFFFFFFFF value.toNat).fileAt lo = low.toNat := by
    rw [State.applyPair, fileAt_wrMasked_ne _ _ _ _ _ hne, State.fileAt, get_wrMasked_all, hs, BitVec.ofNat_toNat]
    simp
  have hhi : (s.applyPair m lo hi 0xFFFFFFFF value.toNat).fileAt hi = value.toNat := by
    rw [State.applyPair, State.fileAt, get_wrMasked_all, BitVec.ofNat_toNat]
    simp
  rw [State.rd64, rd_word, rd_word, hlo, hhi]

/-- What a register all of whose bits a read clears shows to a reader, and holds after one other than debug. -/
theorem readClears_rcWord (s : State) {m : Master} {a : Nat} (hm : m ≠ .debug) (ha : a ≠ (Reg.ISL_SUPPLY 0).addr) :
    (s.readClears (rcWord a) m a).fileAt a = 0 := by
  have he : s.readClears (rcWord a) m a = s.wrMasked a 0xFFFFFFFF 0 := by
    simp [State.readClears, rcWord, hm, ha]
  rw [he, State.fileAt, get_wrMasked_all]
  rfl

end Sys2Proof.Machine
end

section
/-!
The registers that the statements name: what an access of each of them comes to, once its checks have passed.
-/
namespace Sys2Proof.Machine

/-- A word is all of its 32 bits. -/
theorem toNat_and_word (v : Word) : v.toNat &&& 0xFFFFFFFF = v.toNat :=
  (Nat.and_two_pow_sub_one_eq_mod v.toNat 32).trans (Nat.mod_eq_of_lt v.isLt)

theorem fileAt_and_word (s : State) (a : Nat) : s.fileAt a &&& 0xFFFFFFFF = s.fileAt a := toNat_and_word _

/-- The plain RW registers of 32 bits are whole words, and none is an address in a memory. -/
theorem rwWord_addr {f : Fld} (hf : f ∈ [Reg.FPL_SRC_LEN, Reg.SCN_OLC_LEN, Reg.SCN_FORCE_TGT, Reg.SCN_FORCE_TYPE]) :
    (inDram f.addr || inSram f.addr) = false ∧ f = ⟨f.addr, 0, 32⟩ := by
  revert f
  decide

/-- A write of such a register goes by its access codes. -/
theorem busWrite_rwWord (s : State) (m : Master) (v : Nat) {f : Fld}
    (hf : f ∈ [Reg.FPL_SRC_LEN, Reg.SCN_OLC_LEN, Reg.SCN_FORCE_TGT, Reg.SCN_FORCE_TYPE]) :
    s.busWrite m f.addr v = s.plainWrite (rwWord f.addr) f.addr v := by
  simp only [List.mem_cons, List.not_mem_nil, or_false] at hf
  obtain rfl | rfl | rfl | rfl := hf <;> rfl

/-- A write of the low register of a pair is staged (R14). -/
theorem busWrite_lo (s : State) (m : Master) (v : Nat) {f : Fld}
    (hf : f ∈ [Reg.FPL_SRC_LO, Reg.SCN_OLC_SRC_LO, Reg.SCN_FORCE_VAL_LO]) :
    s.busWrite m f.addr v = s.stageLo m f.addr v := by
  simp only [List.mem_cons, List.not_mem_nil, or_false] at hf
  obtain rfl | rfl | rfl := hf <;> rfl

/-- None of these pairs belongs to a unit that shows its power state. -/
theorem wakeAt_lo_regs (s : State) {f : Fld}
    (hf : f ∈ [Reg.FPL_SRC_LO, Reg.SCN_OLC_SRC_LO, Reg.SCN_FORCE_VAL_LO]) : (s.wakeAt f.addr).regs = s.regs := by
  have hscan : (s.wake .scan).regs = s.regs := by
    unfold State.wake
    simp only
    split_ifs <;> rfl
  simp only [List.mem_cons, List.not_mem_nil, or_false] at hf
  obtain rfl | rfl | rfl := hf
  · rfl
  · exact hscan
  · exact hscan

/-- A read of a register all of whose bits a read clears (R10). -/
theorem busRead_rcWord (s : State) (m : Master) {f : Fld}
    (hf : f ∈ [Reg.SLV_MAX_TIME, Reg.GB_OVERRUN, Reg.RND_LAPSED, Reg.ANX_DISC]) :
    s.busRead m .w32 f.addr = (s.readClears (rcWord f.addr) m f.addr).answer (s.fileAt f.addr &&& 0xFFFFFFFF) := by
  simp only [List.mem_cons, List.not_mem_nil, or_false] at hf
  obtain rfl | rfl | rfl | rfl := hf <;> rfl

theorem rcWord_addr_ne {f : Fld} (hf : f ∈ [Reg.SLV_MAX_TIME, Reg.GB_OVERRUN, Reg.RND_LAPSED, Reg.ANX_DISC]) :
    f.addr ≠ Reg.SLV_STAT_STATE.addr ∧ f.addr ≠ Reg.LOOP_STAT_STATE.addr ∧ f.addr ≠ (Reg.ISL_SUPPLY 0).addr := by
  revert f
  decide

/-- A read of the low half of the nanosecond counter answers it, and latches the high half (R12). -/
theorem busRead_frcLo (s : State) (m : Master) :
    s.busRead m .w32 Reg.TIM_FRC_LO.addr =
      (s.setLatch m Reg.TIM_FRC_HI.addr (s.frc / 2 ^ 32 % 2 ^ 32)).answer (s.frc % 2 ^ 32) := by
  have hlo : (s.wr64 Reg.TIM_FRC_LO Reg.TIM_FRC_HI s.frc).fileAt Reg.TIM_FRC_LO.addr = s.frc % 2 ^ 32 := by
    rw [State.wr64, fileAt_wr_ne _ _ _ _ (by decide), ← rd_word]
    exact rd_wr_self s Reg.TIM_FRC_LO s.frc (by decide)
  have hhi : (s.wr64 Reg.TIM_FRC_LO Reg.TIM_FRC_HI s.frc).fileAt Reg.TIM_FRC_HI.addr = s.frc / 2 ^ 32 % 2 ^ 32 := by
    rw [State.wr64, ← rd_word]
    exact rd_wr_self _ Reg.TIM_FRC_HI (s.frc / 2 ^ 32) (by decide)
  calc s.busRead m .w32 Reg.TIM_FRC_LO.addr
      = (s.setLatch m Reg.TIM_FRC_HI.addr
          ((s.wr64 Reg.TIM_FRC_LO Reg.TIM_FRC_HI s.frc).fileAt Reg.TIM_FRC_HI.addr &&& 0xFFFFFFFF)).answer
          ((s.wr64 Reg.TIM_FRC_LO Reg.TIM_FRC_HI s.frc).fileAt Reg.TIM_FRC_LO.addr &&& 0xFFFFFFFF) := rfl
    _ = _ := by rw [fileAt_and_word, fileAt_and_word, hlo, hhi]

/-- A read of its high half. -/
theorem busRead_frcHi (s : State) (m : Master) :
    s.busRead m .w32 Reg.TIM_FRC_HI.addr =
      s.answer ((Tab.get s.latch (latchKey m Reg.TIM_FRC_HI.addr)).toNat &&& 0xFFFFFFFF) := rfl

theorem busWrite_forceValHi (s : State) (m : Master) (v : Nat) :
    s.busWrite m Reg.SCN_FORCE_VAL_HI.addr v =
      s.applyPair m Reg.SCN_FORCE_VAL_LO.addr Reg.SCN_FORCE_VAL_HI.addr 0xFFFFFFFF v := rfl

end Sys2Proof.Machine
end

section
/-!
The rows that are register accesses, as commands whose checks pass: one lemma per row and outcome.
-/
namespace Sys2Proof.Machine

theorem exec_registerWrite {s : State} {m : Master} {a : Nat} (value : Word) (h : s.allows m .w32 true a)
    (ha : (inDram a || inSram a) = false) :
    exec (.registerWrite m .w32 a value) s = .next (((s.wakeAt a).answer 0).busWrite m a value.toNat) := by
  show Host.Outcome.next (s.access m .w32 true a _) = _
  rw [access_allows h, ha]
  rfl

theorem exec_loReadLatch {s : State} {m : Master} {w : Width} {a : Nat} (h : s.allows m w false a) :
    exec (.loReadLatch m w a) s = .next (((s.wakeAt a).answer 0).busRead m w a) :=
  congrArg Host.Outcome.next (access_allows h _)

/-- A read of SYS_CAPS by any master answers it, and changes nothing but the response (R2). -/
theorem exec_loReadLatch_sysCaps (s : State) (m : Master) (h : s.issued m = true) :
    exec (.loReadLatch m .w32 sysCapsAddr) s = .next (s.answer s.caps) := by
  rw [exec_loReadLatch ⟨h, checkAccess_sysCaps s m⟩, busRead_sysCaps]
  rfl

theorem exec_loWriteStage {s : State} {m : Master} {a : Nat} (value : Word) (h : s.allows m .w32 true a) :
    exec (.loWriteStage m a value) s = .next (((s.wakeAt a).answer 0).busWrite m a value.toNat) :=
  congrArg Host.Outcome.next (access_allows h _)

theorem exec_hiWriteApply {s : State} {m : Master} {a : Nat} (value : Word) (h : s.allows m .w32 true a) :
    exec (.hiWriteApply m a value) s = .next (((s.wakeAt a).answer 0).busWrite m a value.toNat) :=
  congrArg Host.Outcome.next (access_allows h _)

theorem exec_rcReadClear {s : State} {m : Master} {a : Nat} (h : s.allows m .w32 false a) :
    exec (.rcReadClear m a) s = .next (((s.wakeAt a).answer 0).busRead m .w32 a) :=
  congrArg Host.Outcome.next (access_allows h _)

theorem exec_buserrValidClear {s : State} {m : Master} (value : Word) (h : s.allows m .w32 true Reg.SYS_BUSERR_STAT.addr) :
    exec (.buserrValidClear m value) s =
      .next (((s.wakeAt Reg.SYS_BUSERR_STAT.addr).answer 0).busErrWrite value.toNat) :=
  congrArg Host.Outcome.next (access_allows h _)

/-- An access that no unit completes ends in a bus error response, a read of SYS_CAPS apart (R2, R27). -/
theorem exec_accessTimeout {s : State} {m : Master} {write : Bool} {a : Nat} (h : s.allows m .w32 write a)
    (hin : inRegs a = true) (hcaps : a = sysCapsAddr → write = true) :
    exec (.accessTimeout m write a) s =
      .next (((s.wakeAt a).answer 0).busFail m write a Sta.timeout 0x0103) := by
  have hne : ¬(a = sysCapsAddr ∧ (!write) = true) := by
    rintro ⟨e, hw⟩
    simp [hcaps e] at hw
  show Host.Outcome.next (s.access m .w32 write a _) = _
  rw [access_allows h, if_neg hne, if_pos hin]

/-- A write of a plain RW register stores the word (R10). -/
theorem registerWrite_rwWord (s : State) (m : Master) (f : Fld) (value : Word)
    (hf : f ∈ [Reg.FPL_SRC_LEN, Reg.SCN_OLC_LEN, Reg.SCN_FORCE_TGT, Reg.SCN_FORCE_TYPE]) (h : s.allows m .w32 true f.addr) :
    Nexts (exec (.registerWrite m .w32 f.addr value) s)
      (fun t => t.rd f = value.toNat ∧ t.resp = { status := Sta.ok }) := by
  obtain ⟨hmem, hwhole⟩ := rwWord_addr hf
  rw [exec_registerWrite value h hmem, nexts_next, busWrite_rwWord _ m _ hf]
  refine ⟨?_, rfl⟩
  rw [hwhole, rd_word, State.fileAt, get_plainWrite_rwWord, BitVec.ofNat_toNat]
  simp

/-- A 1 written to VALID clears it (R32). -/
theorem buserrValidClear_valid (s : State) (m : Master) (value : Word) (h : s.allows m .w32 true Reg.SYS_BUSERR_STAT.addr)
    (hv : value.getLsbD 31 = true) :
    Nexts (exec (.buserrValidClear m value) s) (fun t => t.rd Reg.SYS_BUSERR_STAT_VALID = 0) := by
  have hbit : (0xC0000000 &&& value.toNat).testBit 31 = true := by
    rw [Nat.testBit_and, BitVec.testBit_toNat, hv]
    rfl
  rw [exec_buserrValidClear value h, nexts_next]
  exact rd_wrMasked_cleared _ (by decide) hbit

/-- A read of the counter's low half answers it and latches the high half (R12, R13). -/
theorem loReadLatch_frcLo (s : State) (m : Master) (h : s.allows m .w32 false Reg.TIM_FRC_LO.addr) :
    Nexts (exec (.loReadLatch m .w32 Reg.TIM_FRC_LO.addr) s) (fun t =>
      t.resp = { status := Sta.ok, data := s.frc % 2 ^ 32 } ∧
        (Tab.get t.latch (latchKey m Reg.TIM_FRC_HI.addr)).toNat = s.frc / 2 ^ 32 % 2 ^ 32) := by
  rw [exec_loReadLatch h, nexts_next, busRead_frcLo]
  refine ⟨by simp, ?_⟩
  rw [answer_latch, get_setLatch_self]
  simp

/-- A read of its high half answers what its master's latch holds (R12, R13). -/
theorem loReadLatch_frcHi (s : State) (m : Master) (h : s.allows m .w32 false Reg.TIM_FRC_HI.addr) :
    Nexts (exec (.loReadLatch m .w32 Reg.TIM_FRC_HI.addr) s) (fun t =>
      t.resp = { status := Sta.ok, data := (Tab.get s.latch (latchKey m Reg.TIM_FRC_HI.addr)).toNat } ∧
        t.latch = s.latch) := by
  rw [exec_loReadLatch h, nexts_next, busRead_frcHi, toNat_and_word]
  simp

/-- A write of a low half is staged, and changes no register (R14). -/
theorem loWriteStage_staged (s : State) (m : Master) (f : Fld) (value : Word)
    (hf : f ∈ [Reg.FPL_SRC_LO, Reg.SCN_OLC_SRC_LO, Reg.SCN_FORCE_VAL_LO]) (h : s.allows m .w32 true f.addr) :
    Nexts (exec (.loWriteStage m f.addr value) s) (fun t =>
      Assoc.find? t.staged (latchKey m f.addr) = some value ∧ t.regs = s.regs) := by
  rw [exec_loWriteStage value h, nexts_next, busWrite_lo _ m _ hf]
  refine ⟨?_, ?_⟩
  · rw [State.stageLo, Assoc.find?_insert_self, BitVec.ofNat_toNat, BitVec.setWidth_eq]
  · rw [stageLo_regs, answer_regs, wakeAt_lo_regs s hf]

/-- A write of the high half applies both halves (R14). -/
theorem hiWriteApply_both (s : State) (m : Master) (low value : Word) (h : s.allows m .w32 true Reg.SCN_FORCE_VAL_HI.addr)
    (hl : Assoc.find? s.staged (latchKey m Reg.SCN_FORCE_VAL_LO.addr) = some low) :
    Nexts (exec (.hiWriteApply m Reg.SCN_FORCE_VAL_HI.addr value) s) (fun t =>
      t.rd64 Reg.SCN_FORCE_VAL_LO Reg.SCN_FORCE_VAL_HI = low.toNat + 2 ^ 32 * value.toNat) := by
  rw [exec_hiWriteApply value h, nexts_next, busWrite_forceValHi]
  exact rd64_applyPair _ m _ _ value (by decide) (by rw [answer_staged, wakeAt_staged, hl])

/-- A read other than debug's answers a read-to-clear register and leaves it 0 (R10). -/
theorem rcReadClear_cleared (s : State) (m : Master) (f : Fld)
    (hf : f ∈ [Reg.SLV_MAX_TIME, Reg.GB_OVERRUN, Reg.RND_LAPSED, Reg.ANX_DISC]) (h : s.allows m .w32 false f.addr)
    (hm : m ≠ .debug) :
    Nexts (exec (.rcReadClear m f.addr) s) (fun t =>
      t.resp = { status := Sta.ok, data := s.fileAt f.addr } ∧ t.fileAt f.addr = 0) := by
  obtain ⟨hslv, hloop, hisl⟩ := rcWord_addr_ne hf
  have hfile : ((s.wakeAt f.addr).answer 0).fileAt f.addr = s.fileAt f.addr := fileAt_wakeAt s _ _ hslv hloop
  rw [exec_rcReadClear h, nexts_next, busRead_rcWord _ m hf, fileAt_and_word, hfile]
  exact ⟨rfl, readClears_rcWord _ hm hisl⟩

/-- An access that its unit does not complete answers TIMEOUT, and the capture register shows it (R27, R32). -/
theorem accessTimeout_timeout (s : State) (m : Master) (write : Bool) (a : Nat) (h : s.allows m .w32 write a)
    (hin : inRegs a = true) (hcaps : a = sysCapsAddr → write = true) :
    Nexts (exec (.accessTimeout m write a) s) (fun t =>
      t.resp.status = Sta.timeout ∧ t.on Reg.SYS_BUSERR_STAT_VALID = true) := by
  rw [exec_accessTimeout h hin hcaps, nexts_next]
  exact ⟨by rw [busFail_resp], busFail_valid _ _ _ _ _ _⟩

end Sys2Proof.Machine
end

section
open Sys2Proof Sys2Proof.Machine

/-- Settles O7: the frame of each command's operation, over all commands. -/
theorem commandsChangeOnlyTheirParts : Obligations.CommandsChangeOnlyTheirParts :=
  fun c s _ h => agree_of (exec_frame c s) h

/-- Settles O5: a step idles or runs a command, and every command keeps soundness. -/
theorem stepKeepsSound : Obligations.StepKeepsSound := by
  intro s t hs h
  obtain ⟨-, rfl⟩ | ⟨c, rest, -, hk⟩ := step_cases h
  · rw [sound_idle, hs]
  · exact hk.sound hs

/-- Settles O6: a step keeps the identity, which alone fixes SYS_CAPS; its read passes the checks for every master. -/
theorem sysCapsNeverChanges : Obligations.SysCapsNeverChanges := by
  refine ⟨fun s t h => step_caps h, fun s m h => ?_⟩
  rw [exec_loReadLatch_sysCaps s m h, nexts_next]
  exact ⟨rfl, rfl⟩

/-- Settles O12: the keys of two masters' latches differ, and a high half is read from its master's latch. -/
theorem latchesAreEachMastersOwn : Obligations.LatchesAreEachMastersOwn := by
  refine ⟨fun s t m m' w addr a hm ha hb h => ?_, loReadLatch_frcHi⟩
  cases h
  exact access_latch_other _ _ _ _ _ _ _ fun t => busRead_latch_other t w hm ha (by omega)

/-- Settles O1: the definition of a step, on a queue that is not empty. -/
theorem stepRunsTheFrontCommand : Obligations.StepRunsTheFrontCommand :=
  fun _ _ _ h => step_of_pending h

/-- Settles O3: no row of the table has bits, so no word decodes. -/
theorem noWordSpellsACommand : Obligations.NoWordSpellsACommand :=
  fun _ _ _ => ⟨rfl, rfl⟩

/-- Settles O4: the reset values of the registers are canonical, and every other table and store is empty. -/
theorem resetIsSound : Obligations.ResetIsSound :=
  ⟨sound_of_regs_only tab_wf_resetRegs rfl rfl rfl rfl rfl, rfl, rfl, rfl⟩

/-- Settles O20: the value that a read of SYS_CAPS answers, by variant. -/
theorem sysCapsByVariant : Obligations.SysCapsByVariant := by
  intro s m h
  refine ⟨s.caps, ?_, fun e => ?_, fun e => ?_, fun e => ?_⟩
  · rw [exec_loReadLatch_sysCaps s m h, nexts_next]
    rfl
  all_goals
    rw [State.caps, e]
    rfl

/-- Settles O21: each access code's rule, at the registers named. -/
theorem registerAccessesComplete : Obligations.RegisterAccessesComplete :=
  ⟨registerWrite_rwWord, buserrValidClear_valid, loReadLatch_frcLo, loWriteStage_staged, hiWriteApply_both,
    rcReadClear_cleared, accessTimeout_timeout⟩

end

section
/-!
Bus error responses (R31 to R33, R40, R41): what the capture registers hold after one, and that a refused access moves
nothing beside its report.
-/
namespace Sys2Proof.Machine

/-- An identity fits the six bits of its field (R34). -/
theorem masterId_lt (m : Master) : masterId m < 2 ^ 6 := by
  cases m with
  | apc n | com n =>
    simp only [masterId]
    omega
  | _ => decide

/-- A check refuses with BUS_ERROR or with ABSENT_UNIT (R33). -/
theorem checkAccess_status {s : State} {m : Master} {w : Width} {b : Bool} {a st code : Nat}
    (h : s.checkAccess m w b a = some (st, code)) : st = Sta.busError ∨ st = Sta.absentUnit := by
  unfold State.checkAccess at h
  split_ifs at h <;> cases h <;> decide

/-! ### The capture registers (R32) -/

/-- The fields of a capture, MORE apart. -/
def captureFields : List Fld :=
  [Reg.SYS_BUSERR_STAT_VALID, Reg.SYS_BUSERR_STAT_MASTER, Reg.SYS_BUSERR_STAT_STATUS, Reg.SYS_BUSERR_STAT_WRITE,
    Reg.SYS_BUSERR_ADDR_LO, Reg.SYS_BUSERR_ADDR_HI_ADDR_HI]

/-- A capture field lies in another register than MORE, or in other bits. -/
theorem captureFields_beside_more {f : Fld} (hf : f ∈ captureFields) :
    f.addr ≠ Reg.SYS_BUSERR_STAT_MORE.addr ∨ f.lo + f.width ≤ 30 ∨ 31 ≤ f.lo := by
  revert f
  decide

theorem captureFields_unit {f : Fld} (hf : f ∈ captureFields) : unitOf f.addr ≠ Un.gb := by
  revert f
  decide

/-- A capture writes the capture registers alone. -/
theorem fileAt_busCapture_ne (s : State) (m : Master) (b : Bool) (a st : Nat) {c : Nat}
    (hc : c ∉ [Reg.SYS_BUSERR_STAT_VALID.addr, Reg.SYS_BUSERR_ADDR_LO.addr, Reg.SYS_BUSERR_ADDR_HI_ADDR_HI.addr]) :
    (s.busCapture m b a st).fileAt c = s.fileAt c := by
  simp only [List.mem_cons, List.not_mem_nil, or_false, not_or] at hc
  obtain ⟨hstat, hlo, hhi⟩ := hc
  unfold State.busCapture
  split_ifs
  · exact fileAt_wr_ne _ Reg.SYS_BUSERR_STAT_MORE _ _ hstat
  · rw [State.wr64, fileAt_wr_ne _ _ _ _ hhi, fileAt_wr_ne _ _ _ _ hlo, State.wrB,
      fileAt_wr_ne _ Reg.SYS_BUSERR_STAT_WRITE _ _ hstat, fileAt_wr_ne _ Reg.SYS_BUSERR_STAT_STATUS _ _ hstat,
      fileAt_wr_ne _ Reg.SYS_BUSERR_STAT_MASTER _ _ hstat, fileAt_wr_ne _ Reg.SYS_BUSERR_STAT_VALID _ _ hstat]

/-- With VALID set a capture sets MORE. -/
theorem busCapture_later {s : State} (h : s.on Reg.SYS_BUSERR_STAT_VALID = true) (m : Master) (b : Bool) (a st : Nat) :
    s.busCapture m b a st = s.wr Reg.SYS_BUSERR_STAT_MORE 1 :=
  if_pos h

/-- With VALID clear it takes the access into every field. -/
theorem busCapture_first {s : State} (h : s.on Reg.SYS_BUSERR_STAT_VALID = false) (m : Master) (b : Bool) (a st : Nat) :
    s.busCapture m b a st =
      ((((s.wr Reg.SYS_BUSERR_STAT_VALID 1).wr Reg.SYS_BUSERR_STAT_MASTER (masterId m)).wr
        Reg.SYS_BUSERR_STAT_STATUS st).wrB Reg.SYS_BUSERR_STAT_WRITE b).wr64
        Reg.SYS_BUSERR_ADDR_LO Reg.SYS_BUSERR_ADDR_HI_ADDR_HI a :=
  if_neg (by simp [h])

/-- A write of MORE leaves the capture. -/
theorem rd_wr_more (s : State) (v : Nat) {f : Fld} (hf : f ∈ captureFields) :
    (s.wr Reg.SYS_BUSERR_STAT_MORE v).rd f = s.rd f := by
  obtain ha | hd := captureFields_beside_more hf
  · exact rd_wr_addr _ _ _ _ ha
  · exact rd_wr_bits _ _ _ _ (by decide) hd

theorem rd_busCapture_master {s : State} (h : s.on Reg.SYS_BUSERR_STAT_VALID = false) (m : Master) (b : Bool) (a st : Nat) :
    (s.busCapture m b a st).rd Reg.SYS_BUSERR_STAT_MASTER = masterId m := by
  rw [busCapture_first h, State.wr64, State.wrB, rd_wr_addr _ _ _ _ (by decide), rd_wr_addr _ _ _ _ (by decide),
    rd_wr_bits _ _ _ _ (by decide) (by decide), rd_wr_bits _ _ _ _ (by decide) (by decide), rd_wr_self _ _ _ (by decide)]
  exact Nat.mod_eq_of_lt (masterId_lt m)

theorem rd_busCapture_status {s : State} (h : s.on Reg.SYS_BUSERR_STAT_VALID = false) (m : Master) (b : Bool) (a : Nat)
    {st : Nat} (hst : st < 2 ^ 8) : (s.busCapture m b a st).rd Reg.SYS_BUSERR_STAT_STATUS = st := by
  rw [busCapture_first h, State.wr64, State.wrB, rd_wr_addr _ _ _ _ (by decide), rd_wr_addr _ _ _ _ (by decide),
    rd_wr_bits _ _ _ _ (by decide) (by decide), rd_wr_self _ _ _ (by decide)]
  exact Nat.mod_eq_of_lt hst

theorem on_busCapture_write {s : State} (h : s.on Reg.SYS_BUSERR_STAT_VALID = false) (m : Master) (b : Bool) (a st : Nat) :
    (s.busCapture m b a st).on Reg.SYS_BUSERR_STAT_WRITE = b := by
  rw [busCapture_first h, State.wr64, on_wr_addr _ _ _ _ (by decide), on_wr_addr _ _ _ _ (by decide), State.wrB,
    on_wr_self _ _ _ (by decide)]
  cases b <;> rfl

/-- The address registers hold the 40 bits of the address. -/
theorem rd64_busCapture_addr {s : State} (h : s.on Reg.SYS_BUSERR_STAT_VALID = false) (m : Master) (b : Bool) (a st : Nat) :
    (s.busCapture m b a st).rd64 Reg.SYS_BUSERR_ADDR_LO Reg.SYS_BUSERR_ADDR_HI_ADDR_HI = a % 2 ^ 40 := by
  have hw : Reg.SYS_BUSERR_ADDR_LO.width = 32 ∧ Reg.SYS_BUSERR_ADDR_HI_ADDR_HI.width = 8 := ⟨rfl, rfl⟩
  rw [busCapture_first h, State.wr64, State.rd64, rd_wr_self _ _ _ (by decide), rd_wr_addr _ _ _ _ (by decide),
    rd_wr_self _ _ _ (by decide), hw.1, hw.2]
  omega

/-! ### The whole response -/

/-- What the master sees of the response is no register. -/
theorem fileAt_busCapture_respond (s : State) (r : Response) (m : Master) (b : Bool) (a st c : Nat) :
    ((s.respond r).busCapture m b a st).fileAt c = (s.busCapture m b a st).fileAt c := by
  simp only [State.busCapture, respond_on]
  split_ifs <;> rfl

/-- Outside the Guestbook's registers a bus error response shows as its capture. -/
theorem fileAt_busFail (s : State) (m : Master) (b : Bool) (a st code : Nat) {c : Nat} (hc : unitOf c ≠ Un.gb) :
    (s.busFail m b a st code).fileAt c = (s.busCapture m b a st).fileAt c :=
  (fileAt_post _ _ _ _ _ _ _ hc).trans (fileAt_busCapture_respond _ _ _ _ _ _ _)

theorem rd_busFail (s : State) (m : Master) (b : Bool) (a st code : Nat) {f : Fld} (hf : unitOf f.addr ≠ Un.gb) :
    (s.busFail m b a st code).rd f = (s.busCapture m b a st).rd f := by
  rw [rd_eq_fileAt, fileAt_busFail _ _ _ _ _ _ hf, rd_eq_fileAt]

theorem on_busFail (s : State) (m : Master) (b : Bool) (a st code : Nat) {f : Fld} (hf : unitOf f.addr ≠ Un.gb) :
    (s.busFail m b a st code).on f = (s.busCapture m b a st).on f := by
  rw [State.on, rd_busFail _ _ _ _ _ _ hf, State.on]

/-- A bus error response moves the response, registers, and what an event moves in the Guestbook and its gate. -/
theorem busFail_agree (s : State) (m : Master) (b : Bool) (a st code : Nat) :
    Agree [.resp, .regs, .gates, .gb] s (s.busFail m b a st code) :=
  fun p hp => State.busFail_frame (F := fun q => [Place.resp, .regs, .gates, .gb].contains q) s m b a st code rfl
    (fr_self _ s) p (by simpa using hp)

/-- Of the registers beside the Guestbook's it moves the capture registers alone. -/
theorem busFail_regsSame (s : State) (m : Master) (b : Bool) (a st code : Nat) :
    RegsSame [Reg.SYS_BUSERR_STAT_VALID.addr, Reg.SYS_BUSERR_ADDR_LO.addr, Reg.SYS_BUSERR_ADDR_HI_ADDR_HI.addr] s
      (s.busFail m b a st code) :=
  fun _ hc hgb => (fileAt_busFail s m b a st code hgb).trans (fileAt_busCapture_ne s m b a st hc)

/-! ### The commands -/

theorem exec_registerWrite_refused {s : State} {m : Master} {w : Width} {a st code : Nat} (value : Word)
    (hi : s.issued m = true) (hc : s.checkAccess m w true a = some (st, code)) :
    exec (.registerWrite m w a value) s = .next (s.busFail m true a st code) :=
  congrArg Host.Outcome.next (access_refused hi hc _)

/-- An access of a master that is not issued does not happen (R34, log 13). -/
theorem access_notIssued {s : State} {m : Master} (h : s.issued m = false) (w : Width) (b : Bool) (a : Nat)
    (k : State → State) : s.access m w b a k = s :=
  if_neg (by simp [h])

theorem exec_registerWrite_notIssued {s : State} {m : Master} (h : s.issued m = false) (w : Width) (a : Nat) (value : Word) :
    exec (.registerWrite m w a value) s = .next s :=
  congrArg Host.Outcome.next (access_notIssued h _ _ _ _)

/-- With VALID clear a refused write is captured. -/
theorem registerWrite_refused_first (s : State) (m : Master) (w : Width) (a : Nat) (value : Word) (st code : Nat)
    (hi : s.issued m = true) (hc : s.checkAccess m w true a = some (st, code))
    (hv : s.on Reg.SYS_BUSERR_STAT_VALID = false) :
    Nexts (exec (.registerWrite m w a value) s) (fun t => t.on Reg.SYS_BUSERR_STAT_VALID = true ∧
      t.rd Reg.SYS_BUSERR_STAT_MASTER = masterId m ∧ t.rd Reg.SYS_BUSERR_STAT_STATUS = st ∧
      t.on Reg.SYS_BUSERR_STAT_WRITE = true ∧
      t.rd64 Reg.SYS_BUSERR_ADDR_LO Reg.SYS_BUSERR_ADDR_HI_ADDR_HI = a % 2 ^ 40) := by
  have hst : st < 2 ^ 8 := by
    obtain rfl | rfl := checkAccess_status hc <;> decide
  rw [exec_registerWrite_refused value hi hc, nexts_next]
  refine ⟨busFail_valid _ _ _ _ _ _, ?_, ?_, ?_, ?_⟩
  · rw [rd_busFail _ _ _ _ _ _ (by decide), rd_busCapture_master hv]
  · rw [rd_busFail _ _ _ _ _ _ (by decide), rd_busCapture_status hv _ _ _ hst]
  · rw [on_busFail _ _ _ _ _ _ (by decide), on_busCapture_write hv]
  · rw [State.rd64, rd_busFail _ _ _ _ _ _ (by decide), rd_busFail _ _ _ _ _ _ (by decide)]
    exact rd64_busCapture_addr hv _ _ _ _

/-- With VALID set it shows in MORE, and the capture stands. -/
theorem registerWrite_refused_later (s : State) (m : Master) (w : Width) (a : Nat) (value : Word) (st code : Nat)
    (hi : s.issued m = true) (hc : s.checkAccess m w true a = some (st, code))
    (hv : s.on Reg.SYS_BUSERR_STAT_VALID = true) :
    Nexts (exec (.registerWrite m w a value) s) (fun t => t.on Reg.SYS_BUSERR_STAT_MORE = true ∧
      ∀ f ∈ captureFields, t.rd f = s.rd f) := by
  rw [exec_registerWrite_refused value hi hc, nexts_next]
  refine ⟨?_, fun f hf => ?_⟩
  · rw [on_busFail _ _ _ _ _ _ (by decide), busCapture_later hv, on_wr_self _ _ _ (by decide)]
    rfl
  · rw [rd_busFail _ _ _ _ _ _ (captureFields_unit hf), busCapture_later hv, rd_wr_more _ _ hf]

/-- A refused write answers its status with data 0, and moves nothing beside its report. -/
theorem registerWrite_refused_frame (s t : State) (m : Master) (w : Width) (a : Nat) (value : Word) (st code : Nat)
    (hi : s.issued m = true) (hc : s.checkAccess m w true a = some (st, code))
    (h : exec (.registerWrite m w a value) s = .next t) :
    t.resp = { status := st, data := 0, coreFault := isCore m && st == Sta.absentUnit } ∧
      Agree [.resp, .regs, .gates, .gb] s t ∧
      RegsSame [Reg.SYS_BUSERR_STAT_VALID.addr, Reg.SYS_BUSERR_ADDR_LO.addr, Reg.SYS_BUSERR_ADDR_HI_ADDR_HI.addr] s t := by
  rw [exec_registerWrite_refused value hi hc] at h
  obtain rfl := Host.Outcome.next.inj h
  exact ⟨busFail_resp _ _ _ _ _ _, busFail_agree _ _ _ _ _ _, busFail_regsSame _ _ _ _ _ _⟩

end Sys2Proof.Machine
end

section
/-!
Idle states (R22, R23) and the replay of a correctable memory error (R494).
-/
namespace Sys2Proof.Machine

/-! ### Gates -/

theorem gate_setGate_self (s : State) (u : GUnit) (g : Gate) : (s.setGate u g).gate u = g := by
  rw [State.gate, setGate_gates, Assoc.find?_insert_self]
  rfl

/-- A unit that shows its power state shows it in a register. -/
@[simp] theorem gate_showPower (s : State) (u v : GUnit) (b : Bool) : (s.showPower u b).gate v = s.gate v := by
  rw [State.gate, showPower_gates, State.gate]

/-- A wake event wakes a gated unit. -/
theorem gate_wake_of_gated {s : State} {u : GUnit} (hf : s.fitted u = true) (hg : (s.gate u).gated = true)
    (he : (s.gate u).entering = false) : (s.wake u).gate u = { s.gate u with gated := false } := by
  have hw : s.wake u = (s.setGate u { s.gate u with gated := false }).showPower u true := by
    simp [State.wake, hf, hg, he]
  rw [hw, gate_showPower, gate_setGate_self]

/-- A wake event is held while the unit enters its gated state. -/
theorem gate_wake_of_entering {s : State} {u : GUnit} (hf : s.fitted u = true) (he : (s.gate u).entering = true) :
    (s.wake u).gate u = { s.gate u with held := true } := by
  have hw : s.wake u = s.setGate u { s.gate u with held := true } := by
    simp [State.wake, hf, he]
  rw [hw, gate_setGate_self]

/-- A unit that has entered its gated state is gated, or awake again where a wake event was held. -/
theorem gate_gateEntered (s : State) (u : GUnit) : (s.gateEntered u).gate u = { gated := !(s.gate u).held } := by
  rw [State.gateEntered, gate_showPower, gate_setGate_self]

/-- The location is rewritten with what it holds. -/
theorem byte_rewrite (s : State) (a c : Nat) : (s.setByte a (s.byte a)).byte c = s.byte c := by
  by_cases hc : c = a
  · rw [hc, byte_setByte_self]
  · rw [byte_setByte_ne _ _ _ _ hc]

/-! ### The commands -/

theorem exec_unitWake {s : State} (u : GUnit) (hr : s.power.running = true) : exec (.unitWake u) s = .next (s.wake u) :=
  if_pos hr

theorem unitWake_gated (s : State) (u : GUnit) (hr : s.power.running = true) (hf : s.fitted u = true)
    (hg : (s.gate u).gated = true) (he : (s.gate u).entering = false) :
    Nexts (exec (.unitWake u) s) (fun t => (t.gate u).gated = false) := by
  rw [exec_unitWake u hr, nexts_next, gate_wake_of_gated hf hg he]

theorem unitWake_entering (s : State) (u : GUnit) (hr : s.power.running = true) (hf : s.fitted u = true)
    (he : (s.gate u).entering = true) :
    Nexts (exec (.unitWake u) s) (fun t => (t.gate u).held = true ∧ (t.gate u).entering = true) := by
  rw [exec_unitWake u hr, nexts_next, gate_wake_of_entering hf he]
  exact ⟨rfl, he⟩

/-- An idle unit begins to enter its gated state (R22). -/
theorem unitGateEntry_begins (s : State) (u : GUnit) (hr : s.power.running = true) (hf : s.fitted u = true)
    (hg : (s.gate u).gated = false) (he : (s.gate u).entering = false) (hb : s.unitBusy u = false) :
    Nexts (exec (.unitGateEntry u false) s) (fun t => (t.gate u).entering = true) := by
  have hx : exec (.unitGateEntry u false) s = .next (s.setGate u { entering := true }) := by
    show execUnitGateEntry u false s = _
    simp [execUnitGateEntry, hr, hf, hg, he, hb]
  rw [hx, nexts_next, gate_setGate_self]

/-- A unit that no wake event disturbed is gated at the end of its entry (R23). -/
theorem unitGateEntry_completes (s : State) (u : GUnit) (hr : s.power.running = true) (hf : s.fitted u = true)
    (he : (s.gate u).entering = true) (hh : (s.gate u).held = false) :
    Nexts (exec (.unitGateEntry u true) s) (fun t => (t.gate u).gated = true ∧ (t.gate u).entering = false) := by
  have hx : exec (.unitGateEntry u true) s = .next (s.gateEntered u) := by
    show execUnitGateEntry u true s = _
    simp [execUnitGateEntry, hr, hf, he]
  rw [hx, nexts_next, gate_gateEntered, hh]
  exact ⟨rfl, rfl⟩

theorem eccCorrectable_rewrites (s : State) (addr : Nat) (syndrome : Byte) (hr : s.power.running = true)
    (hin : inRam addr 1 = true) :
    Nexts (exec (.eccCorrectable addr syndrome) s) (fun t =>
      t.resp = { status := Sta.ok, data := (s.byte addr).toNat } ∧ ∀ a, t.byte a = s.byte a) := by
  have hx : exec (.eccCorrectable addr syndrome) s =
      .next ((s.setByte addr (s.byte addr)).answer (s.byte addr).toNat) := if_pos (by rw [hr, hin]; rfl)
  rw [hx, nexts_next]
  exact ⟨rfl, byte_rewrite s addr⟩

end Sys2Proof.Machine
end

section
open Sys2Proof Sys2Proof.Machine

/-- Settles O10: by whether VALID is set when a bus error response is captured; a 1 written to VALID clears it. -/
theorem captureHoldsTheFirstError : Obligations.CaptureHoldsTheFirstError := by
  refine ⟨registerWrite_refused_first, registerWrite_refused_later, fun s m value h hv => ?_⟩
  obtain ⟨t, ht, hclear⟩ := buserrValidClear_valid s m value h hv
  exact ⟨t, ht, by simp [State.on, hclear]⟩

/-- Settles O11: a refused write is its bus error response alone, and one of a master not issued does not happen. -/
theorem refusedAccessesHaveNoEffect : Obligations.RefusedAccessesHaveNoEffect :=
  ⟨registerWrite_refused_frame, fun _ _ w addr value h => exec_registerWrite_notIssued h w addr value⟩

/-- Settles O22: each command of the idle states and of the correctable error, by what its gate or memory holds. -/
theorem wakeAndGatingComplete : Obligations.WakeAndGatingComplete :=
  ⟨unitWake_gated, unitWake_entering, unitGateEntry_begins, unitGateEntry_completes, eccCorrectable_rewrites⟩

end

section
/-!
The Floor Plan loader's commands, their completion, the load at start and the landing of soft sections (R54, R61, R65,
R68, R73).
-/
namespace Sys2Proof.Machine

/-! ### What leaves the loader alone -/

/-- A frame that does not list the loader keeps it. -/
theorem fpl_of_frame {s t : State} (h : Fr (fun p => p != .fpl) s t) : t.fpl = s.fpl := h .fpl rfl

@[simp] theorem gbFillBuckets_fpl (s : State) : s.gbFillBuckets.fpl = s.fpl :=
  fpl_of_frame (State.gbFillBuckets_frame s rfl (fr_self _ s))

@[simp] theorem softDigShow_fpl (s : State) : s.softDigShow.fpl = s.fpl :=
  fpl_of_frame (State.softDigShow_frame s rfl (fr_self _ s))

@[simp] theorem nbRefreshCheck_fpl (s : State) : s.nbRefreshCheck.fpl = s.fpl :=
  fpl_of_frame (State.nbRefreshCheck_frame s rfl (fr_self _ s))

@[simp] theorem fplShow_fpl (s : State) (w : FplWalk) : (s.fplShow w).fpl = s.fpl :=
  fpl_of_frame (State.fplShow_frame s w rfl (fr_self _ s))

@[simp] theorem fplReject_fpl (s : State) : s.fplReject.fpl = s.fpl := post_fpl _ _ _ _ _ _

/-! ### A write of FPL_CMD (R73) -/

/-- A command that begins shows BUSY, whatever its first pass finds. -/
theorem on_fplBegin_busy (s : State) (cmd : FplCmd) : (s.fplBegin cmd).on Reg.FPL_STAT_BUSY = true := by
  unfold State.fplBegin
  extract_lets
  exact (mk_on _ _).trans (on_wr_self _ _ 1 (by decide))

/-- It is held, with its name, until it completes. -/
theorem fplBegin_cmd (s : State) (cmd : FplCmd) : (s.fplBegin cmd).fpl.op.map (fun o => o.cmd) = some cmd := rfl

/-- The response to an access and the wake-up that it brings do not show in BUSY. -/
theorem on_busy_accessed (s : State) (a : Nat) :
    ((s.wakeAt a).answer 0).on Reg.FPL_STAT_BUSY = s.on Reg.FPL_STAT_BUSY := by
  rw [answer_on, State.on, rd_eq_fileAt, fileAt_wakeAt _ _ _ (by decide) (by decide), State.on, rd_eq_fileAt]

theorem fplCmdWrite_verify {s : State} (h : s.on Reg.FPL_STAT_BUSY = false) (m : Master) :
    s.fplCmdWrite m 0xA5000001 = s.fplBegin .verify := by
  simp [State.fplCmdWrite, h, bits]

theorem fplCmdWrite_store {s : State} (h : s.on Reg.FPL_STAT_BUSY = false) (m : Master) (slot : Slot) :
    s.fplCmdWrite m (if slot = .a then 0xA5000002 else 0xA5000003) = s.fplBegin (.store slot) := by
  cases slot <;> simp [State.fplCmdWrite, h, bits]

theorem fplCmdWrite_softApply {s : State} (h : s.on Reg.FPL_STAT_BUSY = false) (m : Master) :
    s.fplCmdWrite m 0xA5000004 = s.fplBegin .softApply := by
  simp [State.fplCmdWrite, h, bits]

/-- An access that passes its checks and whose write begins a command, wherever the loader is free, starts it. -/
theorem access_begins {s : State} {m : Master} {cmd : FplCmd} {k : State → State}
    (h : s.allows m .w32 true Reg.FPL_CMD.addr) (hb : s.on Reg.FPL_STAT_BUSY = false)
    (hk : ∀ {u : State}, u.on Reg.FPL_STAT_BUSY = false → k u = u.fplBegin cmd) :
    Nexts (.next (s.access m .w32 true Reg.FPL_CMD.addr k))
      (fun t => t.on Reg.FPL_STAT_BUSY = true ∧ t.fpl.op.map (fun o => o.cmd) = some cmd) := by
  rw [access_allows h, hk (by rw [on_busy_accessed, hb]), nexts_next]
  exact ⟨on_fplBegin_busy _ _, fplBegin_cmd _ _⟩

theorem fplVerify_begins (s : State) (m : Master) (h : s.allows m .w32 true Reg.FPL_CMD.addr)
    (hb : s.on Reg.FPL_STAT_BUSY = false) :
    Nexts (exec (.fplVerify m) s)
      (fun t => t.on Reg.FPL_STAT_BUSY = true ∧ t.fpl.op.map (fun o => o.cmd) = some .verify) :=
  access_begins h hb fun hu => fplCmdWrite_verify hu m

theorem fplStore_begins (s : State) (m : Master) (slot : Slot) (h : s.allows m .w32 true Reg.FPL_CMD.addr)
    (hb : s.on Reg.FPL_STAT_BUSY = false) :
    Nexts (exec (.fplStore m slot) s)
      (fun t => t.on Reg.FPL_STAT_BUSY = true ∧ t.fpl.op.map (fun o => o.cmd) = some (.store slot)) :=
  access_begins h hb fun hu => fplCmdWrite_store hu m slot

theorem fplSoftApply_begins (s : State) (m : Master) (h : s.allows m .w32 true Reg.FPL_CMD.addr)
    (hb : s.on Reg.FPL_STAT_BUSY = false) :
    Nexts (exec (.fplSoftApply m) s)
      (fun t => t.on Reg.FPL_STAT_BUSY = true ∧ t.fpl.op.map (fun o => o.cmd) = some .softApply) :=
  access_begins h hb fun hu => fplCmdWrite_softApply hu m

/-! ### Completion with a failure of the first pass (R54) -/

/-- REASON shows a walk's failure. -/
theorem rd_fplShow_reason (s : State) {w : FplWalk} {f : FplFail} (hf : w.fail = some f) :
    (s.fplShow w).rd Reg.FPL_STAT_REASON = f.reason % 256 := by
  have hshow : (((s.wr Reg.FPL_STAT_REASON f.reason).wr Reg.FPL_FAIL_OFF f.off).wr Reg.FPL_FAIL_TYPE f.type).rd
      Reg.FPL_STAT_REASON = f.reason % 256 := by
    rw [rd_wr_addr _ _ _ _ (by decide), rd_wr_addr _ _ _ _ (by decide), rd_wr_self _ _ _ (by decide)]
    rfl
  simp only [State.fplShow, hf, Option.getD_some]
  split_ifs
  · rw [rd_wr_addr _ _ _ _ (by decide), hshow]
  · exact hshow

/-- What a walk shows leaves BUSY. -/
theorem on_fplShow_busy (s : State) (w : FplWalk) : (s.fplShow w).on Reg.FPL_STAT_BUSY = s.on Reg.FPL_STAT_BUSY := by
  have hshow (f : FplFail) : (((s.wr Reg.FPL_STAT_REASON f.reason).wr Reg.FPL_FAIL_OFF f.off).wr Reg.FPL_FAIL_TYPE
      f.type).on Reg.FPL_STAT_BUSY = s.on Reg.FPL_STAT_BUSY := by
    rw [on_wr_addr _ _ _ _ (by decide), on_wr_addr _ _ _ _ (by decide), on_wr_bits _ _ _ _ (by decide) (by decide)]
  simp only [State.fplShow]
  split_ifs
  · rw [on_wr_addr _ _ _ _ (by decide), hshow]
  · exact hshow _

/-- A command that its first pass failed completes as a rejection, which shows that failure. -/
theorem exec_fplOperationComplete_failed {s : State} {op : FplOp} {f : FplFail} (ho : s.fpl.op = some op)
    (hf : op.fail = some f) :
    exec .fplOperationComplete s =
      .next ((({ s with fpl := { s.fpl with op := none } } : State).wr Reg.FPL_STAT_BUSY 0).fplShow
        { fail := some f }).fplReject := by
  show execFplOperationComplete s = _
  simp [execFplOperationComplete, ho, hf]

theorem fplOperationComplete_failed (s : State) (op : FplOp) (f : FplFail) (ho : s.fpl.op = some op)
    (hf : op.fail = some f) :
    Nexts (exec .fplOperationComplete s) (fun t =>
      t.on Reg.FPL_STAT_BUSY = false ∧ t.fpl.op = none ∧ t.rd Reg.FPL_STAT_REASON = f.reason % 256) := by
  rw [exec_fplOperationComplete_failed ho hf, nexts_next]
  refine ⟨?_, by simp, ?_⟩
  · rw [State.fplReject, on_post _ _ _ _ _ _ _ (by decide), on_fplShow_busy, on_wr_self _ _ _ (by decide)]
    rfl
  · rw [State.fplReject, rd_post _ _ _ _ _ _ _ (by decide), rd_fplShow_reason _ rfl]

/-! ### The load at start (R61 to R63, R492) -/

/-- With no image held for its lock the slots are tried, and what was found is locked where it may be. -/
theorem exec_bootLoad_tries (s : State) (hr : s.power.running = true) (hst : s.rd Reg.FPL_STAT_STATE = 1)
    (hv : s.fpl.verified = none) : exec .bootLoad s = .next s.bootTry.bootLock := by
  show execBootLoad s = _
  simp [execBootLoad, hr, hst, hv]

/-- An image held for its lock is not loaded again. -/
theorem exec_bootLoad_held (s : State) (hr : s.power.running = true) (hst : s.rd Reg.FPL_STAT_STATE = 1)
    (hv : s.fpl.verified ≠ none) : exec .bootLoad s = .next s.bootLock := by
  show execBootLoad s = _
  simp [execBootLoad, hr, hst, Option.isSome_iff_ne_none.2 hv]

/-! ### The landing (R68) -/

/-- A landing puts the new sections in force; all that it brings beside leaves the loader. -/
theorem softLand_fpl (s : State) (new : List Section) :
    (s.softLand new).fpl = { s.fpl with soft := softMerge s.fpl.soft new, softNext := none } := by
  simp only [State.softLand]
  split_ifs <;> simp

/-- Outside RUN sections that wait land at once, where the pair's landing, if it is one, is both modules' (R70, log 192). -/
theorem exec_softSectionLanding_lands {s : State} {peer : Bool} {new : List Section} (hn : s.fpl.softNext = some new)
    (hm : s.scnMode ≠ modeRun) (hp : peer = true ∨ s.role ≠ roleActive ∧ s.role ≠ roleStandby) :
    exec (.softSectionLanding peer) s = .next (s.softLand new) := by
  have hpair : (!peer && (s.role == roleActive || s.role == roleStandby)) = false := by
    obtain rfl | ⟨ha, hs⟩ := hp
    · rfl
    · simp [ha, hs]
  show execSoftSectionLanding peer s = _
  simp [execSoftSectionLanding, hn, hpair, beq_eq_false_iff_ne.2 hm]

theorem softSectionLanding_lands (s : State) (peer : Bool) (new : List Section) (hn : s.fpl.softNext = some new)
    (hm : s.scnMode ≠ modeRun) (hp : peer = true ∨ s.role ≠ roleActive ∧ s.role ≠ roleStandby) :
    Nexts (exec (.softSectionLanding peer) s)
      (fun t => t.fpl.softNext = none ∧ t.fpl.soft = softMerge s.fpl.soft new) := by
  rw [exec_softSectionLanding_lands hn hm hp, nexts_next, softLand_fpl]
  exact ⟨rfl, rfl⟩

end Sys2Proof.Machine
end

section
open Sys2Proof Sys2Proof.Machine

/-- Settles O23: a write of FPL_CMD begins its command where the loader is free, and each completion, load and landing
by what the loader holds. -/
theorem floorPlanCommandsComplete : Obligations.FloorPlanCommandsComplete :=
  ⟨fplVerify_begins, fplStore_begins, fplSoftApply_begins, fplOperationComplete_failed, exec_bootLoad_tries,
    exec_bootLoad_held, softSectionLanding_lands⟩

end

section
/-!
Writes of the Scan Engine's command registers, and those of SCN_CMD (R82, R83, R86, R87): a mode command or a RESTART
waits for the next base tick.
-/
namespace Sys2Proof.Machine

/-! ### An access of the Scan Engine's registers -/

/-- The Scan Engine shows its power state in no register: a wake-up of it moves its gate alone. -/
theorem wake_scan_gates (s : State) : ∃ g, s.wake .scan = { s with gates := g } := by
  unfold State.wake
  simp only
  split_ifs
  all_goals exact ⟨_, rfl⟩

/-- The Scan Engine's command registers. -/
def scanCmdRegs : List Fld := [Reg.SCN_CMD, Reg.SCN_OLC_CMD, Reg.SCN_FORCE_CMD]

/-- An access to one of them wakes the Scan Engine. -/
theorem wakeAt_scanCmd (s : State) {f : Fld} (hf : f ∈ scanCmdRegs) : s.wakeAt f.addr = s.wake .scan := by
  simp only [scanCmdRegs, List.mem_cons, List.not_mem_nil, or_false] at hf
  obtain rfl | rfl | rfl := hf <;> rfl

/-- What the wake-up and the response to such an access may leave: gates and the response apart, the state before it. -/
def Accessed (s u : State) : Prop := ∃ g r, u = { s with gates := g, resp := r }

namespace Accessed
variable {s u : State}

theorem scn (h : Accessed s u) : u.scn = s.scn := by
  obtain ⟨g, r, rfl⟩ := h
  rfl

theorem inControl (h : Accessed s u) : u.inControl = s.inControl := by
  obtain ⟨g, r, rfl⟩ := h
  rfl

theorem leads (h : Accessed s u) : u.leads = s.leads := by
  obtain ⟨g, r, rfl⟩ := h
  rfl

theorem rd (h : Accessed s u) (f : Fld) : u.rd f = s.rd f := by
  obtain ⟨g, r, rfl⟩ := h
  rfl

theorem olcState (h : Accessed s u) : u.olcState = s.olcState := h.rd _

theorem scnMode (h : Accessed s u) : u.scnMode = s.scnMode := h.rd _

theorem role (h : Accessed s u) : u.role = s.role := h.rd _

theorem ban (h : Accessed s u) : u.ban = s.ban := by
  obtain ⟨g, r, rfl⟩ := h
  rfl

theorem softPending (h : Accessed s u) : u.softPending = s.softPending := by
  obtain ⟨g, r, rfl⟩ := h
  rfl

theorem leadsLog (h : Accessed s u) : u.leadsLog = s.leadsLog := by
  obtain ⟨g, r, rfl⟩ := h
  rfl

theorem follows (h : Accessed s u) : u.follows = s.follows := by
  obtain ⟨g, r, rfl⟩ := h
  rfl

/-- A module in control, or starting, acts on the commands of its own masters. -/
theorem acts (h : Accessed s u) (hc : s.inControl = true ∨ s.role = roleBooting) :
    (u.inControl || u.role == 7) = true := by
  rw [h.inControl, h.role]
  simpa [roleBooting] using hc

end Accessed

/-- A write that its checks allow does what its register does, in such a state. -/
theorem access_scanCmd_nexts {s : State} {m : Master} {f : Fld} {k : State → State} {P : State → Prop}
    (h : s.allows m .w32 true f.addr) (hf : f ∈ scanCmdRegs) (hk : ∀ u, Accessed s u → P (k u)) :
    Nexts (.next (s.access m .w32 true f.addr k)) P := by
  obtain ⟨g, hg⟩ := wake_scan_gates s
  rw [access_allows h, wakeAt_scanCmd s hf, hg, nexts_next]
  exact hk _ ⟨g, _, rfl⟩

/-! ### The commands that wait (R83) -/

theorem pendShow_scn (s : State) : s.pendShow.scn = s.scn := by
  unfold State.pendShow
  split <;> rfl

/-- PENDING shows the mode command that waits. -/
theorem rd_pendShow {s : State} {c : AgrCmd} (h : s.scn.cmds.find? (fun c => agrIsMode c) = some c) :
    s.pendShow.rd Reg.SCN_STAT_PENDING = if c.cmd % 16 = 1 then 1 else if c.cmd % 16 = 2 then 2 else 0 := by
  rw [State.pendShow, h]
  refine (rd_wr_self _ _ _ (by decide)).trans ?_
  split_ifs <;> rfl

/-- The commands that wait once a command has come: a mode command replaces one that waits. -/
def cmdsWith (l : List AgrCmd) (c : AgrCmd) : List AgrCmd :=
  (if agrIsMode c then l.filter (fun d => !agrIsMode d) else l) ++ [c]

theorem mem_cmdsWith (l : List AgrCmd) (c : AgrCmd) : c ∈ cmdsWith l c :=
  List.mem_append_right _ (List.mem_singleton_self c)

/-- The mode command that has come is the only one that waits. -/
theorem find_cmdsWith_mode (l : List AgrCmd) {c : AgrCmd} (h : agrIsMode c = true) :
    (cmdsWith l c).find? (fun c => agrIsMode c) = some c := by
  have hnone : (l.filter (fun d => !agrIsMode d)).find? (fun c => agrIsMode c) = none :=
    List.find?_eq_none.2 fun d hd => by simpa using (List.mem_filter.1 hd).2
  rw [cmdsWith, if_pos h, List.find?_append, hnone, Option.none_or, List.find?_cons_of_pos h]

/-- The state in which a command waits with the others. -/
def State.queueCmd (s : State) (c : AgrCmd) : State := { s with scn := { s.scn with cmds := cmdsWith s.scn.cmds c } }

theorem queueCmd_cmds (s : State) (c : AgrCmd) : (s.queueCmd c).scn.cmds = cmdsWith s.scn.cmds c := rfl

/-- A module in control that leads takes a keyed command, whatever waits. -/
theorem scnCmdWrite_waits {s : State} {v : Nat} (hkey : bits v 24 8 = 0xA5) (h0 : v % 16 ≠ 0) (h4 : v % 16 ≤ 4)
    (hc : s.inControl = true) (hl : s.leads = true) :
    s.scnCmdWrite v = ((s.wake .scan).queueCmd { kind := 0, cmd := v }).pendShow := by
  have hgo : ¬(bits v 24 8 ≠ 0xA5 ∨ v % 16 = 0 ∨ 4 < v % 16 ∨
      (!((s.inControl && s.leads) || s.role == roleBooting)) = true) := by
    simp [hkey, h0, h4, hc, hl]
  rw [State.scnCmdWrite, if_neg hgo]
  rfl

/-- RUN, HOLD and STOP wait, and PENDING shows the command. -/
theorem access_modeCmd_waits {s : State} {m : Master} {v : Nat} (h : s.allows m .w32 true Reg.SCN_CMD.addr)
    (hc : s.inControl = true) (hl : s.leads = true) (hkey : bits v 24 8 = 0xA5) (hv : v % 16 ∈ [1, 2, 3]) :
    Nexts (.next (s.access m .w32 true Reg.SCN_CMD.addr (fun s => s.scnCmdWrite v))) (fun t =>
      { kind := 0, cmd := v } ∈ t.scn.cmds ∧
        t.rd Reg.SCN_STAT_PENDING = if v % 16 = 1 then 1 else if v % 16 = 2 then 2 else 0) := by
  simp only [List.mem_cons, List.not_mem_nil, or_false] at hv
  have hmode : agrIsMode { kind := 0, cmd := v } = true := by
    simp only [agrIsMode, beq_self_eq_true, Bool.true_and, bne_iff_ne]
    omega
  refine access_scanCmd_nexts h (by decide) fun u hu => ?_
  rw [scnCmdWrite_waits hkey (by omega) (by omega) (hu.inControl.trans hc) (hu.leads.trans hl)]
  refine ⟨?_, rd_pendShow (c := { kind := 0, cmd := v }) (find_cmdsWith_mode _ hmode)⟩
  rw [pendShow_scn, queueCmd_cmds, wake_scn]
  exact mem_cmdsWith _ _

theorem scnRun_waits (s : State) (m : Master) (h : s.allows m .w32 true Reg.SCN_CMD.addr) (hc : s.inControl = true)
    (hl : s.leads = true) :
    Nexts (exec (.scnRun m) s)
      (fun t => { kind := 0, cmd := 0xA5000001 } ∈ t.scn.cmds ∧ t.rd Reg.SCN_STAT_PENDING = 1) :=
  access_modeCmd_waits h hc hl (by decide) (by decide)

theorem scnHold_waits (s : State) (m : Master) (h : s.allows m .w32 true Reg.SCN_CMD.addr) (hc : s.inControl = true)
    (hl : s.leads = true) :
    Nexts (exec (.scnHold m) s)
      (fun t => { kind := 0, cmd := 0xA5000002 } ∈ t.scn.cmds ∧ t.rd Reg.SCN_STAT_PENDING = 2) :=
  access_modeCmd_waits h hc hl (by decide) (by decide)

theorem scnStop_waits (s : State) (m : Master) (h : s.allows m .w32 true Reg.SCN_CMD.addr) (hc : s.inControl = true)
    (hl : s.leads = true) :
    Nexts (exec (.scnStop m) s)
      (fun t => { kind := 0, cmd := 0xA5000003 } ∈ t.scn.cmds ∧ t.rd Reg.SCN_STAT_PENDING = 0) :=
  access_modeCmd_waits h hc hl (by decide) (by decide)

/-- RESTART waits behind what waits; it is no mode command, and replaces none. -/
theorem scnRestart_waits (s : State) (m : Master) (n : Fin 16) (h : s.allows m .w32 true Reg.SCN_CMD.addr)
    (hc : s.inControl = true) (hl : s.leads = true) :
    Nexts (exec (.scnRestart m n) s)
      (fun t => t.scn.cmds = s.scn.cmds ++ [{ kind := 0, cmd := 0xA5000004 + 256 * n.val }]) := by
  have hcmd : (0xA5000004 + 256 * n.val) % 16 = 4 := by omega
  have hkey : bits (0xA5000004 + 256 * n.val) 24 8 = 0xA5 := by
    rw [bits]
    omega
  have hmode : agrIsMode { kind := 0, cmd := 0xA5000004 + 256 * n.val } = false := by
    simp [agrIsMode, hcmd]
  refine access_scanCmd_nexts h (by decide) fun u hu => ?_
  rw [scnCmdWrite_waits hkey (by omega) (by omega) (hu.inControl.trans hc) (hu.leads.trans hl), pendShow_scn,
    queueCmd_cmds, wake_scn, hu.scn]
  simp [cmdsWith, hmode]

end Sys2Proof.Machine
end

section
open Sys2Proof Sys2Proof.Machine

/-- Settles O25: a keyed command on a module in control waits, and a mode command among those that wait is the one that
PENDING shows. -/
theorem scanEngineCommandsComplete : Obligations.ScanEngineCommandsComplete :=
  ⟨scnRun_waits, scnHold_waits, scnStop_waits, scnRestart_waits⟩

end

section
/-!
On-line change (R98 to R101, R103) and force commands (R102, R104): what a write of their command registers does, the
end of a verification and the swap.
-/
namespace Sys2Proof.Machine

/-! ### SCN_OLC_STAT -/

theorem olcState_olcSet (s : State) {st : Nat} (reason : Nat) (h : st < 2 ^ 4) :
    (s.olcSet st reason).olcState = st := by
  rw [State.olcState, State.olcSet, rd_wr_bits _ _ _ _ (by decide) (by decide), rd_wr_self _ _ _ (by decide)]
  exact Nat.mod_eq_of_lt h

theorem rd_olcSet_reason (s : State) (st reason : Nat) :
    (s.olcSet st reason).rd Reg.SCN_OLC_STAT_REASON = reason % 256 :=
  rd_wr_self _ _ _ (by decide)

/-- SCN_OLC_STAT shows a state, and no landing is set. -/
theorem olcSet_noLanding (s : State) {st : Nat} (reason : Nat) (h : st < 2 ^ 4) :
    ({ s.olcSet st reason with scn := { s.scn with landing := none } } : State).olcState = st ∧
      ({ s.olcSet st reason with scn := { s.scn with landing := none } } : State).scn.landing = none :=
  ⟨(mk_rd (s.olcSet st reason) _).trans (olcState_olcSet s reason h), rfl⟩

theorem olcState_post (s : State) (source code p1 p2 p3 : Nat) :
    (s.post source code p1 p2 p3).olcState = s.olcState :=
  rd_post _ _ _ _ _ _ _ (by decide)

/-! ### A write of SCN_OLC_CMD -/

/-- VERIFY is refused in VERIFYING and ARMED alone, and begins on any module. -/
theorem olcCmdWrite_verify {s : State} (m : Master) (same : Bool) (hv : s.olcState ≠ olcVerifying)
    (ha : s.olcState ≠ olcArmed) : s.olcCmdWrite m 0xA5000001 same = s.olcBegin := by
  simp [State.olcCmdWrite, hv, ha, bits]

/-- ARM of a verified package acts at once where no other module has to be told. -/
theorem olcCmdWrite_arm {s : State} (m : Master) (same : Bool) (hv : s.olcState = olcVerified)
    (hl : s.leadsLog = false) (hc : (s.inControl || s.role == 7) = true) :
    s.olcCmdWrite m 0xA5000002 same = s.olcArmAct same (s.tickAfter 2) := by
  simp [State.olcCmdWrite, hv, hl, hc, bits, olcVerified, olcVerifying, olcArmed]

/-- CANCEL of a package that is armed acts at once there too. -/
theorem olcCmdWrite_cancel {s : State} (m : Master) (same : Bool) (ha : s.olcState = olcArmed)
    (hl : s.leadsLog = false) (hc : (s.inControl || s.role == 7) = true) :
    s.olcCmdWrite m 0xA5000003 same = s.olcCancelAct := by
  simp [State.olcCmdWrite, ha, hl, hc, bits]

/-- A verification begins with the registers of VERIFYING. -/
theorem rd_olcBegin (s : State) (f : Fld) : s.olcBegin.rd f = (s.olcSet olcVerifying 0).rd f :=
  mk_rd (s.olcSet olcVerifying 0) f

theorem olcVerify_begins (s : State) (m : Master) (h : s.allows m .w32 true Reg.SCN_OLC_CMD.addr)
    (hv : s.olcState ≠ olcVerifying) (ha : s.olcState ≠ olcArmed) :
    Nexts (exec (.olcVerify m) s) (fun t => t.olcState = olcVerifying ∧ t.rd Reg.SCN_OLC_STAT_REASON = 0) := by
  refine access_scanCmd_nexts h (by decide) fun u hu => ?_
  rw [olcCmdWrite_verify m false (hu.olcState ▸ hv) (hu.olcState ▸ ha)]
  exact ⟨(rd_olcBegin u _).trans (olcState_olcSet u 0 (by decide)),
    (rd_olcBegin u _).trans (rd_olcSet_reason u _ 0)⟩

/-- In STOP an ARM that no join, soft image or differing peer stands against waits without a landing (R98). -/
theorem olcArmAct_stop {s : State} {same : Bool} (first : Nat) (hv : s.olcState = olcVerified)
    (hsoft : s.softPending = false) (hpair : ((s.leadsPair || s.follows) && !same) = false)
    (hm : s.scnMode = modeStop) (hj : s.ban.join = none) :
    s.olcArmAct same first = { s.olcSet olcArmed 0 with scn := { s.scn with landing := none } } := by
  have hjoin : s.joinAbort = s := by simp [State.joinAbort, State.joinEnd, hj]
  simp [State.olcArmAct, hv, hsoft, hpair, hm, hjoin]

theorem olcArm_arms (s : State) (m : Master) (same : Bool) (h : s.allows m .w32 true Reg.SCN_OLC_CMD.addr)
    (hv : s.olcState = olcVerified) (hl : s.leadsLog = false) (hsoft : s.softPending = false)
    (hm : s.scnMode = modeStop) (hj : s.ban.join = none) (hc : s.inControl = true ∨ s.role = roleBooting)
    (hp : s.follows = false ∨ same = true) :
    Nexts (exec (.olcArm m same) s) (fun t => t.olcState = olcArmed ∧ t.scn.landing = none) := by
  refine access_scanCmd_nexts h (by decide) fun u hu => ?_
  have hul : u.leadsLog = false := hu.leadsLog.trans hl
  have hpair : ((u.leadsPair || u.follows) && !same) = false := by
    have hlp : u.leadsPair = false := (Bool.or_eq_false_iff.1 hul).1
    obtain hf | rfl := hp
    · simp [hlp, hu.follows, hf]
    · exact Bool.and_false _
  rw [olcCmdWrite_arm m same (hu.olcState.trans hv) hul (hu.acts hc),
    olcArmAct_stop _ (hu.olcState.trans hv) (hu.softPending.trans hsoft) hpair (hu.scnMode.trans hm)
      ((congrArg Ban.join hu.ban).trans hj)]
  exact olcSet_noLanding u 0 (by decide)

theorem olcCancel_cancels (s : State) (m : Master) (h : s.allows m .w32 true Reg.SCN_OLC_CMD.addr)
    (ha : s.olcState = olcArmed) (hl : s.leadsLog = false) (hc : s.inControl = true ∨ s.role = roleBooting) :
    Nexts (exec (.olcCancel m) s) (fun t => t.olcState = olcVerified ∧ t.scn.landing = none) := by
  refine access_scanCmd_nexts h (by decide) fun u hu => ?_
  have hua : u.olcState = olcArmed := hu.olcState.trans ha
  rw [olcCmdWrite_cancel m false hua (hu.leadsLog.trans hl) (hu.acts hc), State.olcCancelAct, if_pos hua]
  exact olcSet_noLanding u 0 (by decide)

/-! ### The end of a verification (R98) -/

/-- The REASON of a verification's end: what the first bytes showed, a source that has changed, or what the checks of
the copy find; 0 where there is none. -/
def State.olcVerdict (s : State) : Nat :=
  if s.scn.early ≠ 0 then s.scn.early
  else if Config.sha256 (s.bytes (s.rd64 Reg.SCN_OLC_SRC_LO Reg.SCN_OLC_SRC_HI) s.scn.shadow.length) ≠ s.scn.hash then
    olcChanged
  else s.pkgCheck s.scn.shadow

theorem exec_olcVerifyDone {s : State} (h : s.olcState = olcVerifying) :
    exec .olcVerifyDone s = if s.olcVerdict = 0 then .next (s.olcSet olcVerified 0)
      else .next ((s.olcSet olcFailed s.olcVerdict).post Un.scn 0x0408 s.olcVerdict (pkgSerial s.scn.shadow) 0) :=
  if_neg (by simp [h])

theorem olcVerifyDone_ends (s : State) (h : s.olcState = olcVerifying) :
    Nexts (exec .olcVerifyDone s) (fun t =>
      t.olcState = (if s.olcVerdict = 0 then olcVerified else olcFailed) ∧
        t.rd Reg.SCN_OLC_STAT_REASON = s.olcVerdict % 256) := by
  rw [exec_olcVerifyDone h]
  split_ifs with hw
  · rw [nexts_next, rd_olcSet_reason, hw]
    exact ⟨olcState_olcSet s 0 (by decide), rfl⟩
  · rw [nexts_next, olcState_post, rd_post _ _ _ _ _ _ _ (by decide), rd_olcSet_reason]
    exact ⟨olcState_olcSet s _ (by decide), rfl⟩

/-! ### The swap (R99, R103) -/

/-- Events alone leave the Scan Engine. -/
theorem foldl_post_scn {α : Type} (l : List α) (source code : Nat) (p1 p2 p3 : State → α → Nat) (s : State) :
    (l.foldl (fun s x => s.post source code (p1 s x) (p2 s x) (p3 s x)) s).scn = s.scn := by
  induction l generalizing s with
  | nil => rfl
  | cons x l ih => rw [List.foldl_cons, ih, post_scn]

theorem forcesSettle_landing (s : State) : s.forcesSettle.scn.landing = s.scn.landing := by
  simp only [State.forcesSettle, State.forceShow, wrB_scn, wr_scn]
  rw [foldl_post_scn]

/-- The program's digest is shown in registers beside SCN_OLC_STAT. -/
theorem olcState_progShow (s : State) : s.progShow.olcState = s.olcState := by
  have hne : ∀ i, Reg.SCN_OLC_STAT_STATE.addr ≠ (Reg.BAN_PROGDIG i).addr := fun i => by
    simp only [Reg.SCN_OLC_STAT_STATE, Reg.BAN_PROGDIG]
    omega
  unfold State.progShow
  generalize List.range 8 = l
  induction l generalizing s with
  | nil => rfl
  | cons i l ih => exact (ih _).trans (rd_wr_addr _ _ _ _ (hne i))

theorem progShow_scn (s : State) : s.progShow.scn = s.scn :=
  State.progShow_frame (F := fun p => p != .scn) s rfl (fr_self _ s) .scn rfl

theorem olcSwap_swapped (s : State) : s.olcSwap.olcState = olcSwapped ∧ s.olcSwap.scn.landing = none := by
  constructor
  · simp only [State.olcSwap]
    rw [olcState_post, olcState_progShow, olcState_olcSet _ _ (by decide)]
  · simp only [State.olcSwap, State.olcSet, post_scn, progShow_scn, wr_scn, forcesSettle_landing]

theorem olcSwap_swaps (s : State) (ha : s.olcState = olcArmed) (hr : s.power.running = true)
    (hst : s.olcStopped = true) :
    Nexts (exec .olcSwap s) (fun t => t.olcState = olcSwapped ∧ t.scn.landing = none) := by
  have hx : exec .olcSwap s = .next s.olcSwap := by
    show execOlcSwap s = _
    simp [execOlcSwap, ha, hr, hst]
  rw [hx, nexts_next]
  exact olcSwap_swapped s

/-! ### Forces (R102, R104) -/

/-- A permitted force command acts at once where no other module has to be told. -/
theorem forceCmdWrite_acts {s : State} {v : Nat} (m : Master) (hkey : bits v 24 8 = 0xA5) (hv : v % 4 ≠ 0)
    (hp : s.on Reg.SCN_STAT_FORCE_PERMIT = true) (hl : s.leadsLog = false)
    (hc : (s.inControl || s.role == 7) = true) :
    s.forceCmdWrite m v = s.forceAct v (s.rd Reg.SCN_FORCE_TGT) (s.fileAt Reg.SCN_FORCE_TYPE.addr)
      (s.rd64 Reg.SCN_FORCE_VAL_LO Reg.SCN_FORCE_VAL_HI) := by
  simp only [State.forceCmdWrite, hkey, hv, hp, hl, hc]
  rfl

/-- A write that its checks allow brings such a command about. -/
theorem access_forceCmd {s : State} {m : Master} {v : Nat} (h : s.allows m .w32 true Reg.SCN_FORCE_CMD.addr)
    (hkey : bits v 24 8 = 0xA5) (hv : v % 4 ≠ 0) (hp : s.on Reg.SCN_STAT_FORCE_PERMIT = true)
    (hl : s.leadsLog = false) (hc : s.inControl = true ∨ s.role = roleBooting) :
    s.access m .w32 true Reg.SCN_FORCE_CMD.addr (fun s => s.forceCmdWrite m v) =
      ((s.wake .scan).answer 0).forceAct v (s.rd Reg.SCN_FORCE_TGT) (s.fileAt Reg.SCN_FORCE_TYPE.addr)
        (s.rd64 Reg.SCN_FORCE_VAL_LO Reg.SCN_FORCE_VAL_HI) := by
  obtain ⟨g, hg⟩ := wake_scan_gates s
  have hu : Accessed s ((s.wake .scan).answer 0) := ⟨g, _, by rw [hg]; rfl⟩
  have hup : ((s.wake .scan).answer 0).on Reg.SCN_STAT_FORCE_PERMIT = true := by
    rw [State.on, hu.rd]
    exact hp
  rw [access_allows h, wakeAt_scanCmd s (by decide),
    forceCmdWrite_acts m hkey hv hup (hu.leadsLog.trans hl) (hu.acts hc), hg]
  rfl

theorem exec_forceSet_acts (s : State) (m : Master) (h : s.allows m .w32 true Reg.SCN_FORCE_CMD.addr)
    (hp : s.on Reg.SCN_STAT_FORCE_PERMIT = true) (hl : s.leadsLog = false)
    (hc : s.inControl = true ∨ s.role = roleBooting) :
    exec (.forceSet m) s = .next (((s.wake .scan).answer 0).forceSet (s.rd Reg.SCN_FORCE_TGT)
      (s.fileAt Reg.SCN_FORCE_TYPE.addr) (s.rd64 Reg.SCN_FORCE_VAL_LO Reg.SCN_FORCE_VAL_HI)) :=
  congrArg Host.Outcome.next (access_forceCmd h (by decide) (by decide) hp hl hc)

theorem exec_forceRelease_acts (s : State) (m : Master) (h : s.allows m .w32 true Reg.SCN_FORCE_CMD.addr)
    (hp : s.on Reg.SCN_STAT_FORCE_PERMIT = true) (hl : s.leadsLog = false)
    (hc : s.inControl = true ∨ s.role = roleBooting) :
    exec (.forceRelease m) s = .next (((s.wake .scan).answer 0).forceRelease (s.rd Reg.SCN_FORCE_TGT)
      (s.fileAt Reg.SCN_FORCE_TYPE.addr)) :=
  congrArg Host.Outcome.next (access_forceCmd h (by decide) (by decide) hp hl hc)

/-- A force is the same as itself. -/
theorem force_same_self (f : Force) : f.same f = true := by
  simp [Force.same]

theorem forceDrop_forces (s : State) (f : Force) :
    (s.forceDrop f).scn.forces = s.scn.forces.filter (fun g => !g.same f) := by
  simp [State.forceDrop, State.forceShow]

/-- Of the forces in the table those stay that are none of a list's. -/
theorem foldl_forceDrop_forces (l : List Force) (s : State) :
    (l.foldl (fun s f => s.forceDrop f) s).scn.forces = s.scn.forces.filter (fun g => l.all (fun f => !g.same f)) := by
  induction l generalizing s with
  | nil => simp
  | cons f l ih =>
    rw [List.foldl_cons, ih, forceDrop_forces, List.filter_filter]
    simp [Bool.and_comm]

/-- RELEASE ALL leaves no force in the table. -/
theorem forceReleaseAll_forces (s : State) : s.forceReleaseAll.scn.forces = [] := by
  rw [State.forceReleaseAll, foldl_forceDrop_forces, wr_scn, List.filter_eq_nil_iff]
  intro f hf hall
  have hself := List.all_eq_true.1 hall f hf
  simp [force_same_self] at hself

theorem forceReleaseAll_releases (s : State) (m : Master) (h : s.allows m .w32 true Reg.SCN_FORCE_CMD.addr)
    (hp : s.on Reg.SCN_STAT_FORCE_PERMIT = true) (hl : s.leadsLog = false)
    (hc : s.inControl = true ∨ s.role = roleBooting) :
    Nexts (exec (.forceReleaseAll m) s) (fun t => t.scn.forces = []) := by
  have hx : exec (.forceReleaseAll m) s = .next ((s.wake .scan).answer 0).forceReleaseAll :=
    congrArg Host.Outcome.next (access_forceCmd h (by decide) (by decide) hp hl hc)
  rw [hx, nexts_next, forceReleaseAll_forces]

end Sys2Proof.Machine
end

section
open Sys2Proof Sys2Proof.Machine

/-- Settles O26: each command by what its write does in the state that SCN_OLC_STAT or FORCE_PERMIT shows, and the end
of a verification by its verdict. -/
theorem onLineChangeCompletes : Obligations.OnLineChangeCompletes :=
  ⟨olcVerify_begins, olcVerifyDone_ends, olcArm_arms, olcCancel_cancels, olcSwap_swaps, exec_forceSet_acts,
    exec_forceRelease_acts, forceReleaseAll_releases⟩

end

section
/-!
The Scan Engine's own events (R76 to R80, R87, R92 to R95): the base tick, an execute's return and trap, and a commit
point.
-/
namespace Sys2Proof.Machine

/-! ### A task and the core that runs it (R77) -/

theorem task_setTask_self (s : State) (t : Nat) (x : ScanTask) : (s.setTask t x).task t = x := by
  rw [State.task, State.setTask, Assoc.find?_insert_self]
  rfl

/-- A core that runs a task's execute counts its time to that task. -/
theorem coreCount_of_coreTop {s : State} {c t : Nat} (h : s.coreTop c = some t) :
    s.coreCount c = { s.setTask t { s.task t with
      used := (s.task t).used + (s.frc - (Assoc.find? s.scn.coreAt c).getD 0) } with
        scn.coreAt := Assoc.insert s.scn.coreAt c s.frc } := by
  simp [State.coreCount, h, State.setTask]

/-- The task's other parts stay as they were. -/
theorem task_coreCount {s : State} {c t : Nat} (h : s.coreTop c = some t) :
    (s.coreCount c).task t = { s.task t with
      used := (s.task t).used + (s.frc - (Assoc.find? s.scn.coreAt c).getD 0) } := by
  rw [coreCount_of_coreTop h]
  exact task_setTask_self _ _ _

/-! ### Base ticks (R75, R193) -/

/-- A tick once it has been settled whether the module leaves lockstep there: it is counted, and its cycles start on the
module that leads. -/
def State.tickAt (u : State) (tick : Nat) : State :=
  let n := if u.locked then u.scn.ticks + 1 else 0
  let u : State := { u with frc := max u.frc tick, scn := { u.scn with lastTick := some tick, ticks := n } }
  let v := u.safHeartbeat u.t1
  if v.follows then ({ v with scn := { v.scn with dues := v.scn.dues ++ [(n, tick)] } } : State).followAll
  else if (v.leads ∨ v.role = roleBooting) ∧ v.swapStopped = false then v.tickLead
  else v.topupTick

/-- Where each branch answers a next state, so does the whole; the inner condition may be said in another way. -/
theorem answer_ite_next {p q r : Prop} [Decidable p] [Decidable q] [Decidable r] (h : q ↔ r) (a b c : State) :
    (if p then .next a else if q then .next b else .next c : Answer) = .next (if p then a else if r then b else c) := by
  split_ifs with hp hq hr hr
  · rfl
  · rfl
  · exact absurd (h.1 hq) hr
  · exact absurd (h.2 hr) hq
  · rfl

/-- A tick comes after the commit points and the late strict commits up to its instant; a standby that has lacked an
agreement up to it leaves lockstep. -/
theorem exec_baseTick (s : State) (hr : s.power.running = true) (hl : s.loopFirst s.tickNext = false) :
    exec .baseTick s = .next (let u := (s.commitsTo s.tickNext).strictLates s.tickNext
      let late : Bool := u.role == roleStandby && u.ban.ho.isNone && u.agrNeeded.any (fun c => decide (c ≤ s.tickNext))
      let u := if late then u.demote 2 0x10 else u
      u.tickAt s.tickNext) := by
  have hgo : ¬((!s.power.running) = true ∨ s.loopFirst s.tickNext = true) := by simp [hr, hl]
  show execBaseTick s = _
  unfold execBaseTick
  extract_lets tick u w n scn x v scn' u' late w'
  have hlate : late = true ↔
      u.role = roleStandby ∧ u.ban.ho.isNone ∧ u.agrNeeded.any (fun c => decide (c ≤ tick)) := by
    rw [Bool.and_eq_true, Bool.and_eq_true, beq_iff_eq, and_assoc]
  have hw : w' = w := if_congr hlate rfl rfl
  rw [if_neg hgo, hw]
  clear_value w
  exact answer_ite_next (and_congr_right fun _ => iff_of_eq (Bool.not_eq_true' _)) _ _ _

/-! ### An execute's return (R77, R94) -/

/-- The state in which an execute that has had its core for `ns` returns: the core's time is counted up to there. -/
def State.atReturn (s : State) (t ns : Nat) : State :=
  let from_ := (Assoc.find? s.scn.coreAt (s.taskCore t)).getD 0
  ({ s with frc := max s.frc (from_ + (ns - (s.task t).used)) } : State).coreCount (s.taskCore t)

/-- The task whose execute the core runs is then as it was, but for the core time that it has had. -/
theorem task_atReturn {s : State} {t : Nat} (ns : Nat) (h : s.coreTop (s.taskCore t) = some t) :
    ∃ used, (s.atReturn t ns).task t = { s.task t with used := used } :=
  ⟨_, task_coreCount (s := { s with frc := _ }) h⟩

theorem taskOut_atReturn (s : State) (t ns : Nat) : (s.atReturn t ns).taskOut t = s.taskOut t := by
  have hfpl : (s.atReturn t ns).fpl = s.fpl :=
    State.coreCount_frame (F := fun p => p != .fpl) _ _ rfl (fr_self _ _) .fpl rfl
  simp only [State.taskOut, State.taskFld, State.taskOf, State.taskRec, State.plan, hfpl]

/-- The return's state: the image is held, the time is shown, and the run of misses is over. -/
def State.returnGood (s : State) (t ns : Nat) (out : List Byte) (returned : Bool) : State :=
  ((s.execTime t ns).setTask t { s.task t with running := none, output := out, returned := returned }).wr
    (Reg.SCN_TASK_STAT_CONSEC t) 0

theorem task_returnGood (s : State) (t ns : Nat) (out : List Byte) (returned : Bool) :
    (s.returnGood t ns out returned).task t =
      { s.task t with running := none, output := out, returned := returned } := by
  rw [State.returnGood, State.task, wr_scn]
  exact task_setTask_self _ _ _

theorem rd_returnGood_consec (s : State) (t ns : Nat) (out : List Byte) (returned : Bool) :
    (s.returnGood t ns out returned).rd (Reg.SCN_TASK_STAT_CONSEC t) = 0 :=
  rd_wr_self _ _ _ (Nat.le_of_ble_eq_true rfl)

/-- The return of an execute of a cycle that latched and has not committed holds its image for that commit. -/
theorem exec_executeReturn_good {s : State} {n : Fin 16} (ns : Nat) (image : List Byte)
    (h : s.coreTop (s.taskCore n) = some n.val) (ho : (s.task n).open_ = true) (hl : (s.task n).latched = true) :
    exec (.executeReturn n ns (some image) [] []) s =
      .next ((s.atReturn n ns).returnGood n ns (padTo (s.taskOut n) image) true) := by
  obtain ⟨used, hu⟩ := task_atReturn ns h
  have hgood : (((s.atReturn n ns).task n).open_ && ((s.atReturn n ns).task n).latched) = true := by
    rw [hu, ho, hl]
    rfl
  have hx : exec (.executeReturn n ns (some image) [] []) s =
      .next ((s.atReturn n ns).returnGood n ns (padTo ((s.atReturn n ns).taskOut n) image)
        (((s.atReturn n ns).task n).open_ && ((s.atReturn n ns).task n).latched || ((s.atReturn n ns).task n).late)) :=
    (if_neg (not_not.2 h)).trans (if_pos hgood)
  rw [hx, hgood, taskOut_atReturn, Bool.true_or]

theorem executeReturn_holds (s : State) (n : Fin 16) (ns : Nat) (image : List Byte)
    (h : s.coreTop (s.taskCore n) = some n.val) (ho : (s.task n).open_ = true) (hl : (s.task n).latched = true) :
    Nexts (exec (.executeReturn n ns (some image) [] []) s) (fun t => (t.task n).running = none ∧
      (t.task n).output = padTo (s.taskOut n) image ∧ (t.task n).returned = true ∧
      t.rd (Reg.SCN_TASK_STAT_CONSEC n) = 0) := by
  rw [exec_executeReturn_good ns image h ho hl, nexts_next, task_returnGood]
  exact ⟨rfl, rfl, rfl, rd_returnGood_consec _ _ _ _ _⟩

/-! ### A trap (R95) -/

/-- A task's status register is none of the Guestbook's. -/
theorem unitOf_taskStat {t : Nat} (ht : t < 16) : unitOf (Reg.SCN_TASK_STAT t).addr ≠ Un.gb := by
  simp only [unitOf, Reg.SCN_TASK_STAT, regBase, Un.gb]
  omega

/-- A trap of a task that is in a state that latches stops it there, with its execute abandoned. -/
theorem trapAct_stops {s : State} {t : Nat} (cause pc : Nat) (ht : t < 16) (h : s.taskLatches t = true) :
    ((s.trapAct t cause pc).task t).running = none ∧ (s.trapAct t cause pc).taskState t = taskFault ∧
      (s.trapAct t cause pc).on (Reg.SCN_TASK_STAT_ABANDONED t) = true := by
  simp only [State.trapAct, h, if_true]
  refine ⟨?_, ?_, ?_⟩
  · rw [State.task, post_scn, wr_scn, State.setTaskState, wr_scn, ← State.task, task_setTask_self]
  · rw [State.taskState, rd_post _ _ _ _ _ _ (Reg.SCN_TASK_STAT_STATE t) (unitOf_taskStat ht),
      rd_wr_bits _ _ _ _ (Nat.le_of_ble_eq_true rfl) (.inl (Nat.le_of_ble_eq_true rfl))]
    exact rd_wr_self _ _ _ (Nat.le_of_ble_eq_true rfl)
  · rw [on_post _ _ _ _ _ _ (Reg.SCN_TASK_STAT_ABANDONED t) (unitOf_taskStat ht),
      on_wr_self _ _ _ (Nat.le_of_ble_eq_true rfl)]
    rfl

theorem taskTrap_stops (s : State) (n : Fin 16) (cause : BitVec 32) (pc : BitVec 64)
    (h : s.coreTop (s.taskCore n) = some n.val) (hl : s.taskLatches n = true) :
    Nexts (exec (.taskTrap n cause pc) s) (fun t => (t.task n).running = none ∧ t.taskState n = taskFault ∧
      t.on (Reg.SCN_TASK_STAT_ABANDONED n) = true) := by
  have hx : exec (.taskTrap n cause pc) s = .next ((s.coreCount (s.taskCore n)).trapAct n cause.toNat pc.toNat) :=
    if_neg (not_not.2 h)
  have hlatch : (s.coreCount (s.taskCore n)).taskLatches n = true := by
    rw [coreCount_of_coreTop h]
    exact hl
  rw [hx, nexts_next]
  exact trapAct_stops _ _ n.isLt hlatch

/-! ### Commit points (R79, R80) -/

/-- A task's commit point comes after those that precede it in the order of the commits to come. -/
theorem exec_commit (s : State) (n : Fin 16) (hr : s.power.running = true) (hl : s.locked = true)
    (hn : s.commitOrder.contains n.val = true) :
    exec (.commit n) s =
      .next (((s.commitOrder.takeWhile (fun u => u != n.val)).foldl (fun s u => s.commitAt u) s).commitAt n) :=
  if_pos ⟨hr, hl, hn⟩

end Sys2Proof.Machine
end

section
open Sys2Proof Sys2Proof.Machine

/-- Settles O24: a tick by its stages (its condition is log 196), and each event of a task by what its core runs and the
state it is in. -/
theorem scanEngineEventsComplete : Obligations.ScanEngineEventsComplete :=
  ⟨exec_baseTick, executeReturn_holds, taskTrap_stops, exec_commit⟩

end

section
/-!
The Loop Engine's ticks (R107, R112) and the commands on a loop's tuning (R123, R124, R126).
-/
namespace Sys2Proof.Machine

/-! ### Ticks (R107, R112) -/

/-- A tick is counted once, whatever loops it evaluates. -/
theorem loopTick_ticks (s : State) (ecc : Nat → Bool) (slots : Nat) (given : Option (List LoopSmp)) :
    (s.loopTick ecc slots given).lp.ticks = s.lp.ticks + 1 := rfl

/-- The next tick moves the counter up to its instant, and is evaluated there. -/
theorem exec_loopTick {s : State} {at_ : Nat} (ecc : List (Fin 512)) (slots : Fin 513) (hn : s.loopNext = some at_)
    (hr : s.power.running = true) (hl : s.locked = true) (hc : s.inControl = true ∨ s.leads = true) :
    exec (.loopTick ecc slots) s = .next (({ s with frc := max s.frc at_ } : State).loopTick
      (fun n => ecc.any (fun e => e.val == n)) slots none) := by
  show execLoopTick ecc slots s = _
  rw [execLoopTick, hn]
  exact if_pos ⟨hr, hl, hc⟩

theorem loopTick_evaluates (s : State) (at_ : Nat) (ecc : List (Fin 512)) (slots : Fin 513)
    (hn : s.loopNext = some at_) (hr : s.power.running = true) (hl : s.locked = true)
    (hc : s.inControl = true ∨ s.leads = true) :
    Nexts (exec (.loopTick ecc slots) s) (fun t =>
      t = ({ s with frc := max s.frc at_ } : State).loopTick (fun n => ecc.any (fun e => e.val == n)) slots none ∧
        t.lp.ticks = s.lp.ticks + 1) := by
  rw [exec_loopTick ecc slots hn hr hl hc, nexts_next]
  exact ⟨rfl, loopTick_ticks _ _ _ _⟩

/-! ### An access of a loop's tuning registers -/

/-- An access to LOOP_TUNE_CTRL wakes the Loop Engine. -/
theorem wakeAt_tuneCtrl (s : State) (n : Fin 512) : s.wakeAt (Reg.LOOP_TUNE_CTRL n).addr = s.wake .loops := by
  have hunit : unitOf (Reg.LOOP_TUNE_CTRL n).addr = Un.loop := by
    simp only [unitOf, Reg.LOOP_TUNE_CTRL, regBase, Un.loop]
    omega
  have hin : inRegs (Reg.LOOP_TUNE_CTRL n).addr = true := by
    refine Bool.and_eq_true_iff.2 ⟨decide_eq_true ?_, decide_eq_true ?_⟩
    all_goals
      simp only [Reg.LOOP_TUNE_CTRL, regBase]
      omega
  have hat : unitAt (Reg.LOOP_TUNE_CTRL n).addr = some .loops := by
    simp [unitAt, hunit, hin, Un.loop, Un.scn]
  rw [State.wakeAt, hat]

theorem mirror_regs (s : State) (m : Master) (a v : Nat) : (s.mirror m a v).regs = s.regs :=
  State.mirror_frame (F := fun p => p != .regs) s m a v rfl (fr_self _ s) .regs rfl

theorem mirror_lp (s : State) (m : Master) (a v : Nat) : (s.mirror m a v).lp = s.lp :=
  State.mirror_frame (F := fun p => p != .lp) s m a v rfl (fr_self _ s) .lp rfl

/-- The state in which a write of LOOP_TUNE_CTRL does its work: the engine is woken, the access answered, and the write
mirrored (R199). -/
def State.tuneTold (s : State) (m : Master) (n v : Nat) : State :=
  ((s.wake .loops).answer 0).mirror m (Reg.LOOP_TUNE_CTRL n).addr v

/-- Of the Loop Engine's registers its wake-up may change LOOP_STAT alone. -/
theorem fileAt_wake_loops (s : State) {a : Nat} (ha : Reg.LOOP_STAT_STATE.addr < a)
    (hb : a < Reg.SLV_STAT_STATE.addr) : (s.wake .loops).fileAt a = s.fileAt a :=
  fileAt_wake s .loops a (Nat.ne_of_lt hb) (Nat.ne_of_gt ha)

theorem tuneTold_shadow (s : State) (m : Master) (n : Fin 512) (v : Nat) :
    (s.tuneTold m n v).shadow n = s.shadow n := by
  refine List.map_congr_left fun j hj => ?_
  have hj18 : j < 18 := List.mem_range.1 hj
  have hfile : ∀ a, (s.tuneTold m n v).fileAt a = (s.wake .loops).fileAt a := fun a => by
    rw [State.fileAt, State.tuneTold, mirror_regs, answer_regs, State.fileAt]
  rw [hfile, fileAt_wake_loops]
  all_goals
    simp only [Reg.LOOP_COEF, Reg.LOOP_STAT_STATE, Reg.SLV_STAT_STATE]
    omega

theorem tuneTold_loop (s : State) (m : Master) (n v k : Nat) : (s.tuneTold m n v).loop k = s.loop k := by
  rw [State.loop, State.tuneTold, mirror_lp, answer_lp, wake_lp, State.loop]

theorem wake_loops_loopOn (s : State) (n : Nat) : (s.wake .loops).loopOn n = s.loopOn n := by
  simp only [State.loopOn, State.loopRec, State.loopCount, State.loopRecAt, State.plan, wake_fpl]

theorem wake_loops_notOwn (s : State) (m : Master) : (s.wake .loops).notOwn m = s.notOwn m := by
  have hrole : (s.wake .loops).role = s.role := by
    rw [State.role, rd_eq_fileAt, fileAt_wake _ _ _ (by decide) (by decide), State.role, rd_eq_fileAt]
  rw [State.notOwn, hrole, State.notOwn]

theorem wake_loops_pending (s : State) (n : Fin 512) :
    (s.wake .loops).on (Reg.LOOP_TUNE_CTRL_PENDING n) = s.on (Reg.LOOP_TUNE_CTRL_PENDING n) := by
  rw [State.on, rd_eq_fileAt, fileAt_wake_loops, State.on, rd_eq_fileAt]
  all_goals
    simp only [Reg.LOOP_TUNE_CTRL_PENDING, Reg.LOOP_STAT_STATE, Reg.SLV_STAT_STATE]
    omega

/-! ### A write of LOOP_TUNE_CTRL (R123, R124) -/

/-- What a keyed command on a loop's tuning does, once it is told: DISCARD, INIT or COMMIT. -/
def State.tuneAct (s : State) (m : Master) (n v : Nat) : State :=
  if v % 4 = 2 then (s.setShadow n (s.loop n).active).wr (Reg.LOOP_TUNE_CTRL_ERR n) 0
  else if v % 4 = 3 then (s.setShadow n (defaultTune (s.loopDef n))).tunePend n (s.asMaster m) true
  else if tuneWord (s.shadow n) 13 < tuneWord (s.shadow n) 12 then
    (s.wr (Reg.LOOP_TUNE_CTRL_ERR n) 1).post Un.loop 0x0506 n 1 (s.asMaster m)
  else s.tunePend n (s.asMaster m) false

/-- With no change pending a command on an enabled loop acts, by a master whose writes are not ignored. -/
theorem loopCmdWrite_acts {s : State} {m : Master} {n v : Nat} (hkey : bits v 24 8 = 0xA5) (hv : v % 4 ≠ 0)
    (hon : s.loopOn n = true) (hown : s.notOwn m = false) (hp : s.on (Reg.LOOP_TUNE_CTRL_PENDING n) = false) :
    s.loopCmdWrite m n v = (s.mirror m (Reg.LOOP_TUNE_CTRL n).addr v).tuneAct m n v := by
  have hheard : ¬(!s.loopOn n || s.notOwn m || bits v 24 8 != 0xA5 || v % 4 == 0) = true := by
    simp [hon, hown, hkey, hv]
  exact (if_neg hheard).trans (if_neg (by simp [hp]))

/-- A write that its checks allow brings such a command about. -/
theorem access_tuneCmd {s : State} {m : Master} {n : Fin 512} {v : Nat}
    (h : s.allows m .w32 true (Reg.LOOP_TUNE_CTRL n).addr) (hkey : bits v 24 8 = 0xA5) (hv : v % 4 ≠ 0)
    (hon : s.loopOn n = true) (hown : s.notOwn m = false) (hp : s.on (Reg.LOOP_TUNE_CTRL_PENDING n) = false) :
    s.access m .w32 true (Reg.LOOP_TUNE_CTRL n).addr (fun s => s.loopCmdWrite m n v) =
      (s.tuneTold m n v).tuneAct m n v := by
  rw [access_allows h, wakeAt_tuneCtrl]
  exact loopCmdWrite_acts hkey hv ((wake_loops_loopOn s n).trans hon) ((wake_loops_notOwn s m).trans hown)
    ((wake_loops_pending s n).trans hp)

/-- A change that becomes pending shows in PENDING, and clears ERR. -/
theorem tunePend_shows (s : State) (n master : Nat) (init : Bool) :
    (s.tunePend n master init).on (Reg.LOOP_TUNE_CTRL_PENDING n) = true ∧
      (s.tunePend n master init).on (Reg.LOOP_TUNE_CTRL_ERR n) = false := by
  have hfit : (Reg.LOOP_TUNE_CTRL_PENDING n).lo + (Reg.LOOP_TUNE_CTRL_PENDING n).width ≤ 32 ∧
      (Reg.LOOP_TUNE_CTRL_ERR n).lo + (Reg.LOOP_TUNE_CTRL_ERR n).width ≤ 32 := by
    simp only [Reg.LOOP_TUNE_CTRL_PENDING, Reg.LOOP_TUNE_CTRL_ERR]
    omega
  constructor
  · rw [State.tunePend, on_wr_bits _ _ _ _ hfit.2 (.inl (Nat.le_of_ble_eq_true rfl)), on_wr_self _ _ _ hfit.1]
    rfl
  · rw [State.tunePend, on_wr_self _ _ _ hfit.2]
    rfl

/-- COMMIT of a set whose output limits are in order leaves it pending. -/
theorem loopCommit_pends (s : State) (m : Master) (n : Fin 512)
    (h : s.allows m .w32 true (Reg.LOOP_TUNE_CTRL n).addr) (hon : s.loopOn n = true) (hown : s.notOwn m = false)
    (hp : s.on (Reg.LOOP_TUNE_CTRL_PENDING n) = false)
    (hlim : tuneWord (s.shadow n) 12 ≤ tuneWord (s.shadow n) 13) :
    Nexts (exec (.loopCommit m n) s) (fun t => t.on (Reg.LOOP_TUNE_CTRL_PENDING n) = true ∧
      t.on (Reg.LOOP_TUNE_CTRL_ERR n) = false) := by
  have hx : exec (.loopCommit m n) s = .next ((s.tuneTold m n 0xA5000001).tuneAct m n 0xA5000001) :=
    congrArg Host.Outcome.next (access_tuneCmd h (by decide) (by decide) hon hown hp)
  have hact : ∀ u : State, u.shadow n = s.shadow n →
      u.tuneAct m n 0xA5000001 = u.tunePend n (u.asMaster m) false := fun u hu => by
    rw [State.tuneAct, if_neg (by decide), if_neg (by decide), hu, if_neg (Int.not_lt.2 hlim)]
  rw [hx, nexts_next, hact _ (tuneTold_shadow s m n _)]
  exact tunePend_shows _ _ _ _

/-- DISCARD takes the active set back, and clears ERR. -/
theorem loopDiscard_takesBack (s : State) (m : Master) (n : Fin 512)
    (h : s.allows m .w32 true (Reg.LOOP_TUNE_CTRL n).addr) (hon : s.loopOn n = true) (hown : s.notOwn m = false)
    (hp : s.on (Reg.LOOP_TUNE_CTRL_PENDING n) = false) :
    Nexts (exec (.loopDiscard m n) s) (fun t =>
      t = ((s.tuneTold m n 0xA5000002).setShadow n (s.loop n).active).wr (Reg.LOOP_TUNE_CTRL_ERR n) 0 ∧
        t.on (Reg.LOOP_TUNE_CTRL_ERR n) = false) := by
  have hx : exec (.loopDiscard m n) s = .next ((s.tuneTold m n 0xA5000002).tuneAct m n 0xA5000002) :=
    congrArg Host.Outcome.next (access_tuneCmd h (by decide) (by decide) hon hown hp)
  rw [hx, nexts_next, State.tuneAct, if_pos (by decide), tuneTold_loop]
  refine ⟨rfl, ?_⟩
  rw [on_wr_self _ _ _ (Nat.le_of_ble_eq_true rfl)]
  rfl

/-- INIT leaves the default set pending. -/
theorem loopInit_pends (s : State) (m : Master) (n : Fin 512)
    (h : s.allows m .w32 true (Reg.LOOP_TUNE_CTRL n).addr) (hon : s.loopOn n = true) (hown : s.notOwn m = false)
    (hp : s.on (Reg.LOOP_TUNE_CTRL_PENDING n) = false) :
    Nexts (exec (.loopInit m n) s) (fun t => t.on (Reg.LOOP_TUNE_CTRL_PENDING n) = true ∧
      t.on (Reg.LOOP_TUNE_CTRL_ERR n) = false) := by
  have hx : exec (.loopInit m n) s = .next ((s.tuneTold m n 0xA5000003).tuneAct m n 0xA5000003) :=
    congrArg Host.Outcome.next (access_tuneCmd h (by decide) (by decide) hon hown hp)
  rw [hx, nexts_next, State.tuneAct, if_neg (by decide), if_pos (by decide)]
  exact tunePend_shows _ _ _ _

end Sys2Proof.Machine
end

section
/-!
A Banister message that arrives in order (R188 to R193), and LOOP_SAMPLES (R126).
-/
namespace Sys2Proof.Machine

/-! ### The order of frames -/

theorem inOrder_iff {s : State} {a : Arrival} : s.inOrder a = true ↔
    s.power.running = true ∧ s.role ≠ roleSingle ∧ a.good = true ∧ s.ban.missing = [] ∧
      ∀ r, s.ban.rxSeq = some r → arrFirst a = (r + 1) % 2 ^ 32 := by
  rw [State.inOrder]
  cases s.ban.rxSeq <;> simp [and_assoc]

/-- To see a frame on its lane leaves what the order of frames is told by. -/
theorem inOrder_laneSeen (s : State) (a : Arrival) (l n : Nat) : (s.laneSeen l n).inOrder a = s.inOrder a := rfl

/-- A frame that comes next is none of the newest 256: its number is ahead of them by at most those of its message. -/
theorem newFrame_of_inOrder {s : State} {a : Arrival} (h : s.inOrder a = true) (boots : Bool) :
    s.newFrame a.seq.toNat boots = true := by
  obtain ⟨-, -, -, -, hnext⟩ := inOrder_iff.1 h
  unfold State.newFrame
  split
  case h_1 => rfl
  case h_2 r hr =>
    have hfirst := hnext r hr
    rw [arrFirst] at hfirst
    have hfar : 256 ≤ (r + 2 ^ 32 - a.seq.toNat) % 2 ^ 32 := by
      have hlt := a.seq.isLt
      omega
    rw [decide_eq_true hfar, Bool.true_or, Bool.true_or]

/-- It shows no gap. -/
theorem gapSeen_of_inOrder {s : State} {a : Arrival} (h : s.inOrder a = true) : s.gapSeen (arrFirst a) = s := by
  obtain ⟨-, -, -, -, hnext⟩ := inOrder_iff.1 h
  unfold State.gapSeen
  split
  case h_1 => rfl
  case h_2 r hr =>
    have hnone : gapSeqs ((r + 1) % 2 ^ 32) (arrFirst a) = [] := by
      rw [hnext r hr]
      simp [gapSeqs]
    exact if_pos (by rw [hnone, ite_self])

/-- With no frame missing none is missing after the next one. -/
theorem heard_missing {s : State} {a : Arrival} (h : s.ban.missing = []) : (s.heard a).ban.missing = [] := by
  have hlane : (s.laneSeen a.lane a.seq.toNat).ban.missing = [] := h
  unfold State.heard
  generalize s.laneSeen a.lane a.seq.toNat = u at hlane
  have hfills : ∀ p : Nat → Bool, u.ban.missing.filter p = [] := fun p => by rw [hlane, List.filter_nil]
  simp [State.seqTake, State.hsDone, hfills]

/-- A locked module acts on a message that arrives in order. -/
theorem arrive_of_hears {s : State} {a : Arrival} (h : s.hears a = true) (m : BanMsg) :
    s.arrive a m = (s.heard a).deliver (fun t => t.msgAct a m) := by
  obtain ⟨hord, hlock⟩ := (Bool.and_eq_true _ _).mp h
  obtain ⟨hrun, hrole, hgood, hmiss, -⟩ := inOrder_iff.1 hord
  have hu : (s.laneSeen a.lane a.seq.toNat).inOrder a = true := hord
  have hul : (s.laneSeen a.lane a.seq.toNat).locked = true := hlock
  have hbehind : (s.heard a).behindGap a = false := by
    rw [State.behindGap, heard_missing hmiss, List.any_nil]
  have hact : (s.heard a).ordTake a m = (s.heard a).deliver (fun t => t.msgAct a m) :=
    if_neg (by simp [hbehind])
  unfold State.arrive
  rw [if_neg (by simp [hrun, hrole]), if_neg (by simp [hgood])]
  simp only [hul, newFrame_of_inOrder hu, gapSeen_of_inOrder hu]
  exact hact

/-! ### LOOP_SAMPLES (R126) -/

/-- To hear a frame moves the Banister's part of the state alone. -/
theorem heard_frame {F : Place → Bool} (s : State) (a : Arrival) (h : Al F [.ban]) : Fr F s (s.heard a) :=
  State.seqTake_frame _ _ h (State.laneSeen_frame _ _ _ h (fr_self _ s))

theorem heard_regs (s : State) (a : Arrival) : (s.heard a).regs = s.regs :=
  heard_frame (F := fun p => p != .regs) s a rfl .regs rfl

theorem heard_lp (s : State) (a : Arrival) : (s.heard a).lp = s.lp :=
  heard_frame (F := fun p => p != .lp) s a rfl .lp rfl

/-- It leaves a handover that is under way. -/
theorem heard_ho (s : State) (a : Arrival) : (s.heard a).ban.ho = s.ban.ho := by
  unfold State.heard State.seqTake
  extract_lets
  split_ifs <;> rfl

theorem heard_rd (s : State) (a : Arrival) (f : Fld) : (s.heard a).rd f = s.rd f := by
  rw [State.rd, heard_regs, State.rd]

theorem heard_locked (s : State) (a : Arrival) : (s.heard a).locked = s.locked := by
  rw [State.locked, heard_rd, State.locked]

theorem heard_follows (s : State) (a : Arrival) : (s.heard a).follows = s.follows := by
  rw [State.follows, heard_ho, State.role, State.on, heard_rd, heard_rd]
  rfl

theorem heard_loopNext (s : State) (a : Arrival) : (s.heard a).loopNext = s.loopNext := by
  rw [State.loopNext, heard_lp, State.loopNext]

/-- A module that follows runs the tick with the samples that it is given. -/
theorem samplesTake_ticks {s : State} {at_ : Nat} (samples : List LoopSmp) (ecc : List (Fin 512)) (slots : Nat)
    (hn : s.loopNext = some at_) (hl : s.locked = true) (hf : s.follows = true) :
    s.samplesTake samples ecc slots = ({ s with frc := max s.frc at_ } : State).loopTick
      (fun n => ecc.any (fun e => e.val == n)) slots (some samples) := by
  rw [State.samplesTake, hn]
  exact if_pos ⟨hl, hf⟩

/-- A delivery asks of its message's effect only what it does to the state that it meets. -/
theorem deliver_congr {s : State} {k k' : State → State} (h : k s = k' s) : s.deliver k = s.deliver k' := by
  rw [State.deliver, h, State.deliver]

theorem exec_loopSamples (s : State) (a : Arrival) (samples : List LoopSmp) (ecc : List (Fin 512)) (slots : Fin 513)
    (at_ : Nat) (h : s.hears a = true) (hf : s.follows = true) (hn : s.loopNext = some at_) :
    exec (.loopSamples a samples ecc slots) s = .next ((s.heard a).deliver (fun s =>
      ({ s with frc := max s.frc at_ } : State).loopTick (fun n => ecc.any (fun e => e.val == n)) slots
        (some samples))) := by
  have hl : s.locked = true := ((Bool.and_eq_true _ _).mp h).2
  refine congrArg Host.Outcome.next ((arrive_of_hears h _).trans (deliver_congr ?_))
  exact samplesTake_ticks samples ecc slots ((heard_loopNext s a).trans hn) ((heard_locked s a).trans hl)
    ((heard_follows s a).trans hf)

end Sys2Proof.Machine
end

section
open Sys2Proof Sys2Proof.Machine

/-- Settles O27: a tick at its instant (log 12), each tuning command by what its write does once it is told, and
LOOP_SAMPLES as a message that arrives in order. -/
theorem loopCommandsComplete : Obligations.LoopCommandsComplete :=
  ⟨loopTick_evaluates, loopCommit_pends, loopDiscard_takesBack, loopInit_pends, exec_loopSamples⟩

end

section
/-!
The ends of a Dispatch Solver request (R137, R142, R151 to R155): DETAIL 0x06 of BUS_ERROR, which triggers a handover
(R207), comes of an uncorrectable error during the load and of nothing else.
-/
namespace Sys2Proof.Machine

/-! ### What ends a factorisation -/

/-- A factorisation or an update ends a request, if it does, by its arithmetic, never with BUS_ERROR. -/
def SlvFactored.arithmetic (x : SlvFactored) : Prop := ∀ detail, x ≠ .ended 0x02 detail

theorem arithmetic_ok (f : SlvFactor) : (SlvFactored.ok f).arithmetic := nofun

theorem arithmetic_dependent : SlvFactored.dependent.arithmetic := nofun

theorem arithmetic_of_judge {q : SlvProblem} {rel d : Nat} {strict : Bool} {kind : Option SlvMember} {x : SlvFactored}
    (h : q.judge rel strict kind d = some x) : x.arithmetic := by
  rintro detail rfl
  cases kind with
  | none =>
    simp only [SlvProblem.judge] at h
    split_ifs at h <;> simp at h
  | some c =>
    simp only [SlvProblem.judge] at h
    split_ifs at h <;> simp at h

theorem arithmetic_appendVar (q : SlvProblem) (rel : Nat) (f : SlvFactor) (j : Nat) :
    (q.appendVar rel f j).arithmetic := by
  unfold SlvProblem.appendVar
  extract_lets e
  split
  case h_1 r hr => exact arithmetic_of_judge hr
  case h_2 => exact arithmetic_ok _

theorem arithmetic_appendRow (q : SlvProblem) (rel : Nat) (strict : Bool) (f : SlvFactor) (c : SlvMember) :
    (q.appendRow rel strict f c).arithmetic := by
  unfold SlvProblem.appendRow
  extract_lets e
  split_ifs
  · exact arithmetic_dependent
  · split
    case h_1 r hr => exact arithmetic_of_judge hr
    case h_2 => exact arithmetic_ok _

theorem arithmetic_factor (q : SlvProblem) (rel : Nat) (w : List SlvMember) : (q.factor rel w).arithmetic := by
  unfold SlvProblem.factor
  extract_lets vars
  have hvars : vars.arithmetic := by
    refine List.foldlRecOn (motive := SlvFactored.arithmetic) _ _ (arithmetic_ok _) fun x hx j _ => ?_
    cases x with
    | ok f => exact arithmetic_appendVar q rel f j
    | zeroPivot | dependent | ended => exact hx
  split
  case h_1 => exact arithmetic_ok _
  case h_2 =>
    refine List.foldlRecOn (motive := SlvFactored.arithmetic) _ _ hvars fun x hx c _ => ?_
    cases x with
    | ok f => exact arithmetic_appendRow q rel false f c
    | zeroPivot | dependent | ended => exact hx

/-! ### What ends a request -/

/-- The request has not ended by an uncorrectable error during its load: DETAIL 0x06 of BUS_ERROR (R137). -/
def SlvRequest.noEccEnd (r : SlvRequest) : Prop := r.done ≠ some (0x02, 0x06)

theorem noEccEnd_stop (r : SlvRequest) {a b : Nat} (h : (a, b) ≠ (0x02, 0x06)) : (r.stop a b).noEccEnd :=
  fun e => h (Option.some.inj e)

theorem noEccEnd_outOfTime (r : SlvRequest) : r.outOfTime.noEccEnd := by
  refine noEccEnd_stop r ?_
  unfold SlvRequest.timeOut
  split <;> decide

/-- A step that is begun, or not, leaves a request without that end where what it does leaves it so. -/
theorem noEccEnd_begin {r : SlvRequest} {k : SlvRequest → SlvRequest} (hk : (k r).noEccEnd) (may : SlvMay)
    (st : SlvStep) (spent : Nat) : (r.begin_ may st spent k).noEccEnd := by
  unfold SlvRequest.begin_
  split
  · exact hk
  · exact noEccEnd_outOfTime r

theorem noEccEnd_hold {r : SlvRequest} {x : SlvFactored} (hr : r.noEccEnd) (hx : x.arithmetic) :
    (r.hold x).noEccEnd := by
  cases x with
  | ok f => exact hr
  | zeroPivot | dependent => exact noEccEnd_stop r (by simp)
  | ended a b =>
    refine noEccEnd_stop r fun h => ?_
    obtain ⟨rfl, -⟩ := Prod.mk.inj h
    exact hx b rfl

theorem noEccEnd_regularise {r : SlvRequest} (hr : r.noEccEnd) : r.regularise.noEccEnd := by
  unfold SlvRequest.regularise
  extract_lets prob r'
  split_ifs
  · exact noEccEnd_hold hr (arithmetic_factor _ _ _)
  · exact noEccEnd_stop _ (by decide)

theorem noEccEnd_settle {r : SlvRequest} {x : SlvFactored} (hr : r.noEccEnd) (hx : x.arithmetic) (may : SlvMay)
    (spent : Nat) : (r.settle may spent x).noEccEnd := by
  unfold SlvRequest.settle
  split
  · split_ifs
    · exact noEccEnd_begin (noEccEnd_regularise hr) _ _ _
    · exact noEccEnd_hold hr hx
  · exact noEccEnd_hold hr hx

theorem noEccEnd_enterEq {r : SlvRequest} (hr : r.noEccEnd) (i : Nat) : (r.enterEq i).noEccEnd := by
  have hx := arithmetic_appendRow r.prob r.floorRel true r.fact (.eq i)
  unfold SlvRequest.enterEq
  split_ifs
  · exact hr
  · split
    · exact hr
    · extract_lets res
      split_ifs
      · exact noEccEnd_stop _ (by decide)
      · exact hr
      · exact noEccEnd_stop _ (by decide)
    · exact noEccEnd_hold hr hx

/-- The factorisation before the first iteration, and the entry of the equality rows. -/
theorem noEccEnd_first {r : SlvRequest} (hr : r.noEccEnd) (may : SlvMay) (spent : Nat) (held : Option SlvFactor) :
    (r.first may spent held).noEccEnd := by
  have hrows : ∀ (l : List Nat) {r : SlvRequest}, r.noEccEnd → (l.foldl (fun r i => r.enterEq i) r).noEccEnd :=
    fun l r hr => List.foldlRecOn (motive := SlvRequest.noEccEnd) l _ hr fun r hr i _ => noEccEnd_enterEq hr i
  unfold SlvRequest.first
  cases held with
  | some f => exact hrows _ (r := { r with fact := f }) hr
  | none => exact hrows _ (noEccEnd_begin (noEccEnd_settle hr (arithmetic_factor _ _ _) _ _) _ _ _)

/-- A request starts from its slot undecided, as it was. -/
theorem slvStart_done (s : State) (r : SlvRequest) : (s.slvStart r).2.1.done = r.done := by
  unfold State.slvStart
  extract_lets
  split
  · rfl
  · split_ifs <;> rfl

theorem check_status {q : SlvProblem} {ftol : Nat} {e : Nat × Nat} (h : q.check ftol = some e) : e.1 ≠ 0x02 := by
  unfold SlvProblem.check at h
  split_ifs at h <;> obtain rfl := Option.some.inj h <;> decide

/-- Without an uncorrectable error during its load no request ends by one. -/
theorem noEccEnd_slvAdmit (s : State) {r : SlvRequest} (hr : r.noEccEnd) (may : SlvMay) :
    (s.slvAdmit r false may).2.noEccEnd := by
  unfold State.slvAdmit
  split
  · exact noEccEnd_stop r (by decide)
  split
  · exact noEccEnd_outOfTime r
  -- Steps 2 to 4 of R137: the form, the three sizes and the addresses.
  iterate 5
    split
    · exact noEccEnd_stop r (by decide)
  extract_lets +onlyGivenNames spent
  split
  · exact noEccEnd_outOfTime r
  rw [if_neg Bool.false_ne_true]
  extract_lets +onlyGivenNames prob
  split
  case h_1 e he => exact noEccEnd_stop r fun h => check_status he (congrArg Prod.fst h)
  case h_2 =>
    refine noEccEnd_first ?_ _ _ _
    rw [SlvRequest.noEccEnd, slvStart_done]
    exact hr

end Sys2Proof.Machine
end

section
/-!
The Dispatch Solver's requests, slots and permits on the module that leads and on the standby (R131, R137 to R139, R144,
R145, R150, R153, R156, R157).
-/
namespace Sys2Proof.Machine

/-! ### What leaves the Solver alone -/

/-- A frame that does not list the Solver keeps it. -/
theorem slv_of_frame {s t : State} (h : Fr (fun p => p != .slv) s t) : t.slv = s.slv := h .slv rfl

@[simp] theorem slvShowSlot_slv (s : State) (k : Nat) : (s.slvShowSlot k).slv = s.slv :=
  slv_of_frame (State.slvShowSlot_frame s k rfl (fr_self _ s))

@[simp] theorem banSend_slv (s : State) (type : Nat) (payload : List Byte) : (s.banSend type payload).slv = s.slv :=
  slv_of_frame (State.banSend_frame s type payload rfl (fr_self _ s))

@[simp] theorem slvSendTake_slv (s : State) (r : SlvRequest) : (s.slvSendTake r).slv = s.slv :=
  slv_of_frame (State.slvSendTake_frame s r rfl (fr_self _ s))

@[simp] theorem slvSendTake_rd (s : State) (r : SlvRequest) (f : Fld) : (s.slvSendTake r).rd f = s.rd f := by
  have hregs : (s.slvSendTake r).regs = s.regs :=
    State.slvSendTake_frame (F := fun p => p != .regs) s r rfl (fr_self _ s) .regs rfl
  rw [State.rd, hregs, State.rd]

@[simp] theorem wakeAt_slv (s : State) (a : Nat) : (s.wakeAt a).slv = s.slv := by
  unfold State.wakeAt
  split
  · exact wake_slv _ _
  · rfl

/-! ### SOLVER_TAKE (R131, R137) -/

/-- The Solver has four queues. -/
theorem slvNext_lt {s : State} {sq : Nat} (h : s.slvNext = some sq) : sq < 4 :=
  List.mem_range.1 (List.mem_of_find?_eq_some h)

/-- Taken without an uncorrectable error during its load, a request is in progress and has not ended by one. -/
theorem slvTake_req (s : State) (sq : Nat) (may : SlvMay) :
    ∃ r, (s.slvTake sq false may).slv.req = some r ∧ r.noEccEnd := by
  unfold State.slvTake
  extract_lets +onlyGivenNames u que seq r v t
  refine ⟨t.2, ?_, noEccEnd_slvAdmit v (r := r) nofun may⟩
  simp only [wr_slv]
  split_ifs
  · rw [post_slv]
  · rfl

theorem rd_slvTake_queue (s : State) (sq : Nat) (ecc : Bool) (may : SlvMay) :
    (s.slvTake sq ecc may).rd Reg.SLV_STAT_QUEUE = sq % 4 := by
  unfold State.slvTake
  extract_lets
  rw [rd_wr_bits _ _ _ _ (by decide) (by decide), rd_wr_bits _ _ _ _ (by decide) (by decide),
    rd_wr_self _ _ _ (by decide)]
  rfl

/-- On the module that leads, a waiting request is taken and its permit sent; an uncorrectable error during its load
triggers a handover (R207). -/
theorem exec_solverTake (s : State) (sq : Nat) (ecc : Bool) (hon : s.slvOn = true) (hr : s.power.running = true)
    (hl : s.locked = true) (hreq : s.slv.req.isNone = true) (hj : s.joinHolds = false)
    (hpf : s.on Reg.PWR_STAT_PF_WARN = false) (hn : s.slvNext = some sq) (hlead : s.leads = true) :
    exec (.solverTake ecc) s = .next (
      let r := s.slvRequest sq
      let t := s.slvTake sq ecc (r.timed s.frc)
      let u := t.slvSendTake (t.slv.req.getD r)
      if (t.slv.req.getD r).done = some (0x02, 0x06) then u.faultTrigger 3 else u) := by
  show execSolverTake ecc s = _
  rw [execSolverTake, if_pos ⟨hon, hr, hl, hreq, by rw [hj]; rfl, by rw [hpf]; rfl⟩, hn]
  dsimp only
  rw [if_pos hlead, slvSendTake_slv]

theorem solverTake_takes (s : State) (sq : Nat) (hon : s.slvOn = true) (hr : s.power.running = true)
    (hl : s.locked = true) (hreq : s.slv.req.isNone = true) (hj : s.joinHolds = false)
    (hpf : s.on Reg.PWR_STAT_PF_WARN = false) (hn : s.slvNext = some sq) (hlead : s.leads = true) :
    Nexts (exec (.solverTake false) s)
      (fun t => t.slv.req.isSome = true ∧ t.rd Reg.SLV_STAT_QUEUE = sq) := by
  obtain ⟨r, htaken, hclean⟩ := slvTake_req s sq ((s.slvRequest sq).timed s.frc)
  rw [exec_solverTake s sq false hon hr hl hreq hj hpf hn hlead, nexts_next]
  simp only [htaken, Option.getD_some]
  rw [if_neg hclean, slvSendTake_slv, htaken, slvSendTake_rd, rd_slvTake_queue, Nat.mod_eq_of_lt (slvNext_lt hn)]
  exact ⟨rfl, rfl⟩

/-! ### SOLVER_ITERATION (R138, R154) -/

theorem exec_solverIteration (s : State) (ecc : Bool) (r : SlvRequest) (hreq : s.slv.req = some r)
    (hd : r.done = none) (hr : s.power.running = true) (hlead : s.leads = true)
    (ht : r.inTime s.frc (slvSolveBound r.order) = true) :
    exec (.solverIteration ecc) s = .next (
      let t := s.slvIterate r ecc (r.timed s.frc)
      let u := t.slvSendIterate (r.iters + 1) (t.slv.req.getD r)
      if ecc then u.faultTrigger 3 else u) := by
  show execSolverIteration ecc s = _
  rw [execSolverIteration, hreq]
  exact (if_neg (by simp [hd, hr])).trans ((if_pos hlead).trans (if_pos ht))

/-! ### Slot clears (R145, R150) -/

/-- A slot clear empties its slot, or every slot, and nothing else of the Solver's. -/
theorem slvClear_slv (s : State) (k master : Nat) : (s.slvClear k master).slv =
    { s.slv with slots := if k < 16 then Assoc.erase s.slv.slots k else [] } := by
  unfold State.slvClear
  dsimp only
  rw [post_slv]
  split_ifs
  · exact slvShowSlot_slv _ _
  · exact slv_of_frame (fr_foldl (fun _ _ h => State.slvShowSlot_frame _ _ rfl h) (fr_self _ _))

/-- Between requests a slot clear that is asked for takes effect at once. -/
theorem slvAskClear_slv {s : State} (h : s.slv.req = none) (k master : Nat) : (s.slvAskClear k master).slv =
    { s.slv with slots := if k < 16 then Assoc.erase s.slv.slots k else [] } := by
  unfold State.slvAskClear
  extract_lets t
  have ht : t.slv = s.slv := by
    simp only [t]
    split_ifs
    · exact banSend_slv _ _ _
    · rfl
  rw [if_neg (by simp [ht, h]), slvClear_slv, ht]

/-- The response to an access and the wake-up that it brings do not show in the role. -/
theorem notOwn_accessed (s : State) (m : Master) (a : Nat) : ((s.wakeAt a).answer 0).notOwn m = s.notOwn m := by
  have hrole : ((s.wakeAt a).answer 0).role = s.role := by
    rw [State.role, answer_rd, rd_eq_fileAt, fileAt_wakeAt _ _ _ (by decide) (by decide), State.role, rd_eq_fileAt]
  rw [State.notOwn, hrole, State.notOwn]

/-- A keyed write of SLV_CMD that its checks allow, by a master whose writes are not ignored, clears what it names. -/
theorem access_slotClear_slv {s : State} {m : Master} {v : Nat} (h : s.allows m .w32 true Reg.SLV_CMD.addr)
    (hkey : bits v 24 8 = 0xA5) (hown : s.notOwn m = false) (hreq : s.slv.req = none) :
    (s.access m .w32 true Reg.SLV_CMD.addr (fun s => s.slvCmdWrite m v)).slv =
      { s.slv with slots := if bitAt v 4 then [] else Assoc.erase s.slv.slots (v % 16) } := by
  have hslv : ((s.wakeAt Reg.SLV_CMD.addr).answer 0).slv = s.slv := by rw [answer_slv, wakeAt_slv]
  rw [access_allows h, State.slvCmdWrite, if_neg (by simp [hkey, notOwn_accessed, hown]),
    slvAskClear_slv (by rw [hslv, hreq]), hslv]
  cases bitAt v 4
  · simp [Nat.mod_lt]
  · rfl

theorem slotClear_clears (s : State) (m : Master) (slot : Fin 16) (h : s.allows m .w32 true Reg.SLV_CMD.addr)
    (hown : s.notOwn m = false) (hreq : s.slv.req = none) :
    Nexts (exec (.slotClear m slot) s) (fun t => Assoc.find? t.slv.slots slot.val = none) := by
  have hkey : bits (0xA5000000 + slot.val) 24 8 = 0xA5 := by
    rw [bits]
    omega
  have hone : bitAt (0xA5000000 + slot.val) 4 = false := by
    rw [bitAt, Nat.testBit_eq_decide_div_mod_eq, decide_eq_false_iff_not]
    omega
  have hslot : (0xA5000000 + slot.val) % 16 = slot.val := by omega
  refine (nexts_next _ _).2 ?_
  rw [access_slotClear_slv h hkey hown hreq, hone, hslot]
  exact Assoc.find?_erase_self _ _

theorem slotClearAll_clears (s : State) (m : Master) (h : s.allows m .w32 true Reg.SLV_CMD.addr)
    (hown : s.notOwn m = false) (hreq : s.slv.req = none) :
    Nexts (exec (.slotClearAll m) s) (fun t => t.slv.slots = []) := by
  refine (nexts_next _ _).2 ?_
  rw [access_slotClear_slv h (by decide) hown hreq]
  rfl

/-! ### SOLVER_COMPLETE (R133, R154) -/

/-- Slot clears that take effect between requests leave none in progress and none waiting. -/
theorem foldl_slvClear_idle (l : List (Nat × Nat)) {s : State} (h : s.slv.req = none ∧ s.slv.clears = []) :
    (l.foldl (fun (s : State) c => s.slvClear c.1 c.2) s).slv.req = none ∧
      (l.foldl (fun (s : State) c => s.slvClear c.1 c.2) s).slv.clears = [] := by
  induction l generalizing s with
  | nil => exact h
  | cons c l ih => exact ih (by rw [slvClear_slv]; exact h)

/-- After a completion no request is in progress, and no slot clear waits. -/
theorem slvComplete_idle (s : State) (r : SlvRequest) (done status detail : Nat) :
    (s.slvComplete r done status detail).slv.req = none ∧ (s.slvComplete r done status detail).slv.clears = [] := by
  unfold State.slvComplete
  exact foldl_slvClear_idle _ ⟨rfl, rfl⟩

theorem solverComplete_completes (s : State) (r : SlvRequest) (status detail : Nat) (hreq : s.slv.req = some r)
    (hd : r.done = some (status, detail)) (hr : s.power.running = true) (hlead : s.leads = true) :
    Nexts (exec .solverComplete s) (fun t =>
      t = (s.slvSend 4 r.sq (leBytes 8 (s.slvDoneAt r))).slvComplete r (s.slvDoneAt r) status detail ∧
        t.slv.req = none ∧ t.slv.clears = []) := by
  have hx : exec .solverComplete s =
      .next ((s.slvSend 4 r.sq (leBytes 8 (s.slvDoneAt r))).slvComplete r (s.slvDoneAt r) status detail) := by
    show execSolverComplete s = _
    simp only [execSolverComplete, hreq, hd]
    exact (if_neg (by simp [hr])).trans (if_pos hlead)
  rw [hx, nexts_next]
  exact ⟨rfl, slvComplete_idle _ _ _ _ _⟩

/-! ### SOLVER_POWER_GATE (R156) -/

theorem solverPowerGate_gates (s : State) (hon : s.slvOn = true) (hreq : s.slv.req.isNone = true)
    (hn : s.slvNext.isNone = true) (hst : s.rd Reg.SLV_STAT_STATE = 1) :
    Nexts (exec .solverPowerGate s) (fun t => (t.gate .solver).gated = true ∧ t.rd Reg.SLV_STAT_STATE = 0 ∧
      t.frc = max s.frc (s.slv.idleAt + 1000 * s.rd Reg.SLV_CTRL_IDLE_HOLD)) := by
  have hx : exec .solverPowerGate s =
      .next ((({ s with frc := max s.frc (s.slv.idleAt + 1000 * s.rd Reg.SLV_CTRL_IDLE_HOLD) } : State).wr
        Reg.SLV_STAT_STATE 0).setGate .solver { gated := true }) := if_pos ⟨hon, hreq, hn, hst⟩
  rw [hx, nexts_next, gate_setGate_self]
  exact ⟨rfl, rd_wr_self _ _ _ (by decide), rfl⟩

/-! ### SOLVER_PERMIT (R157) -/

theorem heard_slvOn (s : State) (a : Arrival) : (s.heard a).slvOn = s.slvOn := by
  have hident : (s.heard a).ident = s.ident := heard_frame (F := fun p => p != .ident) s a rfl .ident rfl
  rw [State.slvOn, State.capOn, State.cap, State.caps, hident]
  rfl

/-- A standby with a Solver acts on the permit with those that it holds. -/
theorem permitTake_follows {s : State} (hf : s.follows = true) (hon : s.slvOn = true) (p : SlvPermit) :
    s.permitTake p =
      ({ s with slv := { s.slv with permits := s.slv.permits ++ [p] } } : State).slvFollow.wr
        Reg.SLV_STAT_PAIR_WAIT 0 :=
  if_pos ⟨hf, hon⟩

theorem exec_solverPermit (s : State) (a : Arrival) (p : SlvPermit) (h : s.hears a = true) (hf : s.follows = true)
    (hon : s.slvOn = true) :
    exec (.solverPermit a p) s = .next ((s.heard a).deliver (fun s =>
      ({ s with slv := { s.slv with permits := s.slv.permits ++ [p] } } : State).slvFollow.wr
        Reg.SLV_STAT_PAIR_WAIT 0)) :=
  congrArg Host.Outcome.next ((arrive_of_hears h _).trans (deliver_congr
    (permitTake_follows ((heard_follows s a).trans hf) ((heard_slvOn s a).trans hon) p)))

end Sys2Proof.Machine
end

section
open Sys2Proof Sys2Proof.Machine

/-- Settles O28: each of the engine's moves as a command (log 12) by what it comes to where it is due; a take without a
memory error triggers no handover, since nothing else ends a request with that error's status. -/
theorem solverCommandsComplete : Obligations.SolverCommandsComplete :=
  ⟨solverTake_takes, fun s sq => exec_solverTake s sq true, exec_solverIteration, solverComplete_completes,
    slotClear_clears, slotClearAll_clears, solverPowerGate_gates, exec_solverPermit⟩

end

section
/-!
The Axis Unit's events and the staging of virtual limits (R169, R174, R177, R178, R181, R184, R185). An event does its
work on the axis and then shows the axis; both are told apart by the fields of AX_STATE, which few of its operations
write.
-/
namespace Sys2Proof.Machine

/-! ### An axis behind its registers -/

@[simp] theorem axis_setAxis_self (s : State) (a : Nat) (x : Axis) : (s.setAxis a x).axis a = x := by
  rw [State.axis, setAxis_axes, Assoc.find?_insert_self]
  rfl

theorem axis_of_axes {s t : State} (h : t.axes = s.axes) (a : Nat) : t.axis a = s.axis a := by
  rw [State.axis, h, State.axis]

@[simp] theorem axis_wr (s : State) (f : Fld) (v a : Nat) : (s.wr f v).axis a = s.axis a := rfl

@[simp] theorem axis_wrB (s : State) (f : Fld) (b : Bool) (a : Nat) : (s.wrB f b).axis a = s.axis a := rfl

@[simp] theorem axis_wr64 (s : State) (l h : Fld) (v a : Nat) : (s.wr64 l h v).axis a = s.axis a := rfl

@[simp] theorem axis_post (s : State) (source code p1 p2 p3 a : Nat) :
    (s.post source code p1 p2 p3).axis a = s.axis a :=
  axis_of_axes (post_axes _ _ _ _ _ _) a

theorem axState_ne_gb (a : Fin 8) : unitOf (Reg.AX_STATE a).addr ≠ Un.gb := by
  revert a
  decide

/-! ### What shows an axis (R176, R182) -/

theorem axis_axLines (s : State) (a : Nat) :
    ∃ en short lineAt, (s.axLines a).axis a = { s.axis a with en := en, short := short, lineAt := lineAt } :=
  ⟨_, _, _, axis_setAxis_self s a _⟩

theorem axis_axShowAll (s : State) (a : Nat) : s.axShowAll.axis a = s.axis a :=
  axis_of_axes (State.axShowAll_frame (F := fun p => p != .axes) s rfl (fr_self _ s) .axes rfl) a

/-- To show an axis moves its lines, and nothing else behind its registers. -/
theorem axis_axShow (s : State) (a : Nat) :
    ∃ en short lineAt, (s.axShow a).axis a = { s.axis a with en := en, short := short, lineAt := lineAt } := by
  unfold State.axShow
  extract_lets x t u v w
  obtain ⟨en, short, lineAt, hlines⟩ := axis_axLines (w.wrB (Reg.AX_STATE_HELD_AT_LIMIT a) (w.axHeld a)) a
  refine ⟨en, short, lineAt, ?_⟩
  rw [axis_axShowAll, hlines, axis_wrB, axis_wr, axis_wr, axis_wr64, axis_wr64]

theorem axShow_frc (s : State) (a : Nat) : (s.axShow a).frc = s.frc :=
  State.axShow_frame (F := fun p => p != .frc) s a rfl (fr_self _ s) .frc rfl

/-- Of AX_STATE it writes HELD_AT_LIMIT alone. -/
theorem rd_axShow (s : State) (a : Nat) (f : Fld) (hf : f.addr = (Reg.AX_STATE a).addr)
    (hb : f.lo + f.width ≤ 8 ∨ 9 ≤ f.lo) : (s.axShow a).rd f = s.rd f := by
  have hne : ∀ (u : State) (g : Fld) (v : Nat), g.addr ≠ (Reg.AX_STATE a).addr → (u.wr g v).rd f = u.rd f :=
    fun u g v hg => rd_wr_addr u g f v (by rw [hf]; exact hg.symm)
  have hwr64 : ∀ (u : State) (l h : Fld) (v : Nat), l.addr ≠ (Reg.AX_STATE a).addr → h.addr ≠ (Reg.AX_STATE a).addr →
      (u.wr64 l h v).rd f = u.rd f := fun u l h v hl hh => by rw [State.wr64, hne _ _ _ hh, hne _ _ _ hl]
  have hall : ∀ u : State, u.axShowAll.rd f = u.rd f := fun u => by
    have hg : Reg.AX_GSTAT.addr ≠ (Reg.AX_STATE a).addr := by
      simp only [Reg.AX_GSTAT, Reg.AX_STATE]
      omega
    unfold State.axShowAll
    extract_lets
    rw [hne _ Reg.AX_GSTAT_ENABLED _ hg, hne _ Reg.AX_GSTAT_MOVING _ hg, hne _ Reg.AX_GSTAT_FAULT _ hg]
  have hlines : ∀ u : State, (u.axLines a).rd f = u.rd f := fun _ => rfl
  unfold State.axShow
  extract_lets
  rw [hall, hlines, State.wrB, rd_wr_bits _ _ _ _ (Nat.le_of_ble_eq_true rfl) hb, hne, hne, hwr64, hwr64]
  all_goals
    simp only [Reg.AX_STATE, Reg.AX_POS_LO, Reg.AX_POS_HI, Reg.AX_ENC_LO, Reg.AX_ENC_HI, Reg.AX_VEL, Reg.AX_DEV]
    omega

/-! ### Entering a state, and planning anew -/

theorem rd_axEnter_state (s : State) (a : Nat) {st : Nat} (hst : st < 8) :
    (s.axEnter a st).rd (Reg.AX_STATE_STATE a) = st :=
  (rd_wr_self s (Reg.AX_STATE_STATE a) st (Nat.le_of_ble_eq_true rfl)).trans (Nat.mod_eq_of_lt hst)

/-- A state entered leaves the rest of AX_STATE. -/
theorem rd_axEnter (s : State) (a st : Nat) (f : Fld) (hb : 3 ≤ f.lo) : (s.axEnter a st).rd f = s.rd f :=
  rd_wr_bits s (Reg.AX_STATE_STATE a) f st (Nat.le_of_ble_eq_true rfl) (.inr hb)

theorem axEnter_loss (s : State) (a st : Nat) : ((s.axEnter a st).axis a).loss = (s.axis a).loss := by
  unfold State.axEnter
  extract_lets
  rw [axis_setAxis_self]
  split_ifs <;> rfl

/-- What planning anew keeps: whether the receiver reports a loss, and the bits of AX_STATE below the flags of a stop,
LIMIT_DECEL, OVERSHOOT and LIMIT_PASSED. -/
def KeepsLoss (a : Nat) (s t : State) : Prop :=
  (t.axis a).loss = (s.axis a).loss ∧ ∀ f : Fld, f.addr = (Reg.AX_STATE a).addr → f.lo + f.width ≤ 12 → t.rd f = s.rd f

namespace KeepsLoss
variable {a : Fin 8} {s t : State}

theorem setAxis (h : KeepsLoss a s t) {x : Axis} (hx : x.loss = (t.axis a).loss) : KeepsLoss a s (t.setAxis a x) :=
  ⟨by rw [axis_setAxis_self, hx, h.1], h.2⟩

theorem wr (h : KeepsLoss a s t) {g : Fld} (v : Nat) (hfit : g.lo + g.width ≤ 32) (hg : 12 ≤ g.lo) :
    KeepsLoss a s (t.wr g v) :=
  ⟨h.1, fun f hf hb => (rd_wr_bits t g f v hfit (.inl (hb.trans hg))).trans (h.2 f hf hb)⟩

theorem post (h : KeepsLoss a s t) (source code p1 p2 p3 : Nat) : KeepsLoss a s (t.post source code p1 p2 p3) :=
  ⟨by rw [axis_post, h.1], fun f hf hb =>
    (rd_post _ _ _ _ _ _ f (by rw [hf]; exact axState_ne_gb a)).trans (h.2 f hf hb)⟩

theorem limitDecel (h : KeepsLoss a s t) (v : Nat) : KeepsLoss a s (t.wr (Reg.AX_STATE_LIMIT_DECEL a) v) :=
  h.wr v (Nat.le_of_ble_eq_true rfl) (Nat.le_of_ble_eq_true rfl)

theorem overshoot (h : KeepsLoss a s t) (v : Nat) : KeepsLoss a s (t.wr (Reg.AX_STATE_OVERSHOOT a) v) :=
  h.wr v (Nat.le_of_ble_eq_true rfl) (Nat.le_of_ble_eq_true rfl)

theorem limitPassed (h : KeepsLoss a s t) (v : Nat) : KeepsLoss a s (t.wr (Reg.AX_STATE_LIMIT_PASSED a) v) :=
  h.wr v (Nat.le_of_ble_eq_true rfl) (Nat.le_of_ble_eq_true rfl)

end KeepsLoss

theorem axPlan_keepsLoss (s : State) (a : Fin 8) : KeepsLoss a s (s.axPlan a) := by
  have hself : KeepsLoss a s s := ⟨rfl, fun _ _ _ => rfl⟩
  unfold State.axPlan
  extract_lets
  split_ifs
  · exact .setAxis hself (by rfl)
  · exact .post (.limitDecel (.setAxis hself (by rfl)) _) _ _ _ _ _
  · exact .limitDecel (.setAxis hself (by rfl)) _
  · exact .setAxis hself (by rfl)
  · exact .post (.limitPassed (.setAxis (.setAxis hself (by rfl)) (by rfl)) _) _ _ _ _ _
  · exact .post (.overshoot (.setAxis hself (by rfl)) _) _ _ _ _ _
  · exact .setAxis hself (by rfl)

/-! ### The encoder's condition (R178, R181) -/

theorem on_wrB_encLoss (s : State) (a : Nat) (loss : Bool) :
    (s.wrB (Reg.AX_STATE_ENC_LOSS a) loss).on (Reg.AX_STATE_ENC_LOSS a) = loss := by
  rw [State.wrB, on_wr_self _ _ _ (Nat.le_of_ble_eq_true rfl)]
  cases loss <;> rfl

theorem axRatio_of_fpl {s t : State} (h : t.fpl = s.fpl) (a : Nat) : t.axRatio a = s.axRatio a := by
  simp only [State.axRatio, State.axFld, State.axRec, State.plan, h]

theorem axLossFault_loss (s : State) (a : Fin 8) : ((s.axLossFault a).axis a).loss = (s.axis a).loss := by
  unfold State.axLossFault
  extract_lets
  split_ifs
  · rw [(axPlan_keepsLoss _ a).1, axEnter_loss]
  · rfl

/-- A loss that faults leaves ENC_LOSS as it is shown. -/
theorem on_axLossFault (s : State) (a : Fin 8) :
    (s.axLossFault a).on (Reg.AX_STATE_ENC_LOSS a) = s.on (Reg.AX_STATE_ENC_LOSS a) := by
  unfold State.axLossFault
  extract_lets
  split_ifs
  · rw [State.on, (axPlan_keepsLoss _ a).2 (Reg.AX_STATE_ENC_LOSS a) rfl (Nat.le_of_ble_eq_true rfl),
      rd_axEnter _ _ _ (Reg.AX_STATE_ENC_LOSS a) (Nat.le_of_ble_eq_true rfl), State.on]
  · rfl

/-- Shown on an axis with an encoder that is not DISABLED, it faults the axis. -/
theorem rd_axLossFault {s : State} {a : Fin 8} (hloss : s.axLost a = true)
    (hst : s.rd (Reg.AX_STATE_STATE a) ∉ [axDisabled, axFault]) :
    (s.axLossFault a).rd (Reg.AX_STATE_STATE a) = axFault := by
  have hdue : s.axLossFault a = (s.axEnter a axFault).axPlan a := if_pos (by simpa [hloss] using hst)
  rw [hdue, (axPlan_keepsLoss _ a).2 (Reg.AX_STATE_STATE a) rfl (Nat.le_of_ble_eq_true rfl), rd_axEnter_state _ _ (by decide)]

theorem axLossSet_loss (s : State) (a : Fin 8) (loss : Bool) :
    ((s.axLossSet a loss).axis a).loss = (s.axis a).loss := by
  unfold State.axLossSet
  extract_lets
  split_ifs
  · rfl
  · rw [axLossFault_loss, axis_post, axis_wrB]
  · rfl

/-- The condition that an axis goes by is the one that ENC_LOSS shows. -/
theorem on_axLossSet (s : State) (a : Fin 8) (loss : Bool) :
    (s.axLossSet a loss).on (Reg.AX_STATE_ENC_LOSS a) = loss := by
  unfold State.axLossSet
  extract_lets
  split_ifs with hsame
  · exact hsame.symm
  · rw [on_axLossFault, on_post _ _ _ _ _ _ (Reg.AX_STATE_ENC_LOSS a) (axState_ne_gb a), on_wrB_encLoss]
  · exact on_wrB_encLoss s a loss

/-- A loss that was not shown, of an axis with an encoder, is posted and may fault the axis. -/
theorem axLossSet_new {s : State} {a : Nat} (hnew : s.on (Reg.AX_STATE_ENC_LOSS a) = false) (hratio : s.axRatio a ≠ 0) :
    s.axLossSet a true = ((s.wrB (Reg.AX_STATE_ENC_LOSS a) true).post axSource 0x0706 a 2
      ((s.axis a).count % 2 ^ 32)).axLossFault a := by
  have henc : (true && (s.wrB (Reg.AX_STATE_ENC_LOSS a) true).axRatio a != 0) = true := by
    rw [axRatio_of_fpl (wrB_fpl s _ _)]
    simpa using hratio
  unfold State.axLossSet
  rw [if_neg (by simp [hnew])]
  dsimp only
  rw [if_pos henc, axis_wrB]

/-- It does so on an axis that is not DISABLED. -/
theorem rd_axLossSet {s : State} {a : Fin 8} (hnew : s.on (Reg.AX_STATE_ENC_LOSS a) = false) (hratio : s.axRatio a ≠ 0)
    (hst : s.rd (Reg.AX_STATE_STATE a) ∉ [axDisabled, axFault]) :
    (s.axLossSet a true).rd (Reg.AX_STATE_STATE a) = axFault := by
  rw [axLossSet_new hnew hratio, rd_axLossFault]
  · rw [State.axLost, on_post _ _ _ _ _ _ (Reg.AX_STATE_ENC_LOSS a) (axState_ne_gb a), on_wrB_encLoss,
      axRatio_of_fpl (s := s) (by simp)]
    simpa using hratio
  · rwa [rd_post _ _ _ _ _ _ (Reg.AX_STATE_STATE a) (axState_ne_gb a), State.wrB,
      rd_wr_bits _ _ _ _ (Nat.le_of_ble_eq_true rfl) (.inl (Nat.le_of_ble_eq_true rfl))]

/-! ### Step boundaries (R169, R184) -/

theorem exec_stepBoundary (s : State) (deltas : List Int) (hr : s.power.running = true) (hl : s.locked = true)
    (hc : s.inControl = true) (hho : s.ban.ho = none) :
    exec (.stepBoundary deltas) s = .next (
      let u : State := { s with frc := s.axBoundaryAt }
      let v := (List.range 8).foldl (fun (s : State) a =>
        if s.axOn a then
          (s.axLossSet a (s.axis a).loss).axBoundary a (toBits 48 ((s.axis a).count + (deltas[a]?).getD 0))
        else s) u
      if v.feeds then v.banSend 0x22 v.axCountsBytes else v) :=
  (if_pos ⟨hr, hl⟩).trans (if_pos ⟨hc, Option.isNone_iff_eq_none.2 hho⟩)

/-- A locked standby takes the counts of an AXIS_COUNTS frame. -/
theorem countsTake_standby {s : State} (hl : s.locked = true) (hr : s.role = 3) (counts : List (Option (BitVec 48)))
    (loss bad : BitVec 8) :
    s.countsTake counts loss bad = (List.range 8).foldl (fun s a =>
      s.axFollow a ((counts[a]?).getD none) (bitAt loss.toNat a) (bitAt bad.toNat a))
        { s with frc := s.axBoundaryAt } :=
  if_pos ⟨hl, hr⟩

theorem exec_axisCounts (s : State) (a : Arrival) (counts : List (Option (BitVec 48))) (loss bad : BitVec 8)
    (h : s.hears a = true) (hr : s.role = 3) :
    exec (.axisCounts a counts loss bad) s = .next ((s.heard a).deliver (fun s => (List.range 8).foldl (fun s a =>
      s.axFollow a ((counts[a]?).getD none) (bitAt loss.toNat a) (bitAt bad.toNat a))
        { s with frc := s.axBoundaryAt })) := by
  have hl : s.locked = true := ((Bool.and_eq_true _ _).mp h).2
  exact congrArg Host.Outcome.next ((arrive_of_hears h _).trans (deliver_congr
    (countsTake_standby ((heard_locked s a).trans hl) ((heard_rd s a _).trans hr) counts loss bad)))

/-! ### Virtual limits (R174) -/

/-- The response to an access and the wake-up that it brings leave the Axis Unit's registers. -/
theorem rd_axisReg_accessed (s : State) (b : Nat) {f : Fld} (hf : Reg.AX_GSTAT.addr ≤ f.addr) :
    ((s.wakeAt b).answer 0).rd f = s.rd f := by
  rw [answer_rd, rd_eq_fileAt, fileAt_wakeAt, rd_eq_fileAt]
  all_goals
    simp only [Reg.AX_GSTAT, Reg.SLV_STAT_STATE, Reg.LOOP_STAT_STATE] at hf ⊢
    omega

/-- They leave the Floor Plan and what is behind the axes' registers. -/
theorem wakeAt_fpl (s : State) (b : Nat) : (s.wakeAt b).fpl = s.fpl := by
  unfold State.wakeAt
  split
  · exact wake_fpl _ _
  · rfl

theorem wakeAt_axes (s : State) (b : Nat) : (s.wakeAt b).axes = s.axes := by
  unfold State.wakeAt
  split
  · exact wake_axes _ _
  · rfl

theorem axOn_accessed (s : State) (b a : Nat) : ((s.wakeAt b).answer 0).axOn a = s.axOn a := by
  simp only [State.axOn, State.axRec, State.plan, answer_fpl, wakeAt_fpl]

theorem axis_accessed (s : State) (b a : Nat) : ((s.wakeAt b).answer 0).axis a = s.axis a := by
  simp only [State.axis, answer_axes, wakeAt_axes]

theorem axStaged_accessed (s : State) (b a : Nat) (upper : Bool) :
    ((s.wakeAt b).answer 0).axStaged a upper = s.axStaged a upper := by
  have hpend : ((s.wakeAt b).answer 0).rd (Reg.AX_LIM_CTRL_PENDING a) = s.rd (Reg.AX_LIM_CTRL_PENDING a) :=
    rd_axisReg_accessed s b (by simp only [Reg.AX_GSTAT, Reg.AX_LIM_CTRL_PENDING]; omega)
  rw [State.axStaged, State.on, hpend, axis_accessed, State.axStaged, State.on]

theorem stagedLo_accessed (s : State) (b : Nat) (m : Master) (a current : Nat) :
    ((s.wakeAt b).answer 0).stagedLo m a current = s.stagedLo m a current := by
  rw [State.stagedLo, answer_staged, wakeAt_staged, State.stagedLo]

theorem axVlimLo_addr (a : Nat) (upper : Bool) : Reg.AX_GSTAT.addr ≤ (axVlimLo a upper).addr := by
  simp only [axVlimLo, Reg.AX_GSTAT, Reg.AX_VLIM_LO_LO, Reg.AX_VLIM_HI_LO]
  split_ifs
  all_goals
    dsimp only
    omega

/-- A write of a limit's high half on an axis that has none staged, by a master whose writes are not ignored, stages it
with the low half and shows PENDING. -/
theorem axVlimHiWrite_stages {s t : State} {m : Master} {a v : Nat} {upper : Bool} (hon : s.axOn a = true)
    (hown : s.notOwn m = false) (hst : s.axStaged a upper = false) (ht : s.axVlimHiWrite m a upper v = t) :
    t.on (Reg.AX_LIM_CTRL_PENDING a) = true ∧
      (if upper then (t.axis a).stageHi else (t.axis a).stageLo) =
        some (s.stagedLo m (axVlimLo a upper).addr (s.rd (axVlimLo a upper)) + 2 ^ 32 * v) := by
  unfold State.axVlimHiWrite at ht
  extract_lets at ht
  rw [if_neg (by simp [hon, hown]), if_neg (by simp [hst])] at ht
  subst ht
  refine ⟨?_, ?_⟩
  · rw [on_wr_self _ _ _ (Nat.le_of_ble_eq_true rfl)]
    rfl
  · rw [axis_wr, axis_setAxis_self]
    cases upper <;> rfl

theorem vlimStage_stages (s : State) (m : Master) (a : Fin 8) (upper : Bool) (value : Word)
    (h : s.allows m .w32 true (axVlimHi a upper).addr) (hon : s.axOn a = true) (hown : s.notOwn m = false)
    (hst : s.axStaged a upper = false) :
    Nexts (exec (.vlimStage m a upper value) s) (fun t => t.on (Reg.AX_LIM_CTRL_PENDING a) = true ∧
      (if upper then (t.axis a).stageHi else (t.axis a).stageLo) =
        some (s.stagedLo m (axVlimLo a upper).addr (s.rd (axVlimLo a upper)) + 2 ^ 32 * value.toNat)) := by
  refine (nexts_next _ _).2 ?_
  rw [access_allows h]
  have hstaged := axVlimHiWrite_stages (v := value.toNat) ((axOn_accessed s (axVlimHi a upper).addr a).trans hon)
    ((notOwn_accessed s m _).trans hown) ((axStaged_accessed s _ a upper).trans hst) rfl
  rwa [stagedLo_accessed, rd_axisReg_accessed s _ (axVlimLo_addr a upper)] at hstaged

/-! ### Encoder events (R178, R181, R184) -/

theorem exec_encLoss {s : State} {a : Fin 8} (hon : s.axOn a = true) (hl : (s.axis a).loss = false)
    (hr : s.role ≠ roleStandby) :
    exec (.encLoss a) s = .next (((s.setAxis a { s.axis a with loss := true }).axLossSet a true).axShow a) :=
  (if_pos ⟨hon, by rw [hl]; rfl⟩).trans (if_neg hr)

theorem encLoss_shown (s : State) (a : Fin 8) (hon : s.axOn a = true) (hl : (s.axis a).loss = false)
    (hr : s.role ≠ roleStandby) :
    Nexts (exec (.encLoss a) s) (fun t => t.on (Reg.AX_STATE_ENC_LOSS a) = true ∧ (t.axis a).loss = true) := by
  rw [exec_encLoss hon hl hr, nexts_next]
  refine ⟨?_, ?_⟩
  · rw [State.on, rd_axShow _ _ (Reg.AX_STATE_ENC_LOSS a) rfl (.inr (Nat.le_of_ble_eq_true rfl))]
    exact on_axLossSet _ a true
  · obtain ⟨en, short, lineAt, hshow⟩ := axis_axShow ((s.setAxis a { s.axis a with loss := true }).axLossSet a true) a
    rw [hshow]
    exact (axLossSet_loss _ _ _).trans (by rw [axis_setAxis_self])

theorem encLoss_faults (s : State) (a : Fin 8) (hon : s.axOn a = true) (hl : (s.axis a).loss = false)
    (hr : s.role ≠ roleStandby) (hnew : s.on (Reg.AX_STATE_ENC_LOSS a) = false) (hratio : s.axRatio a ≠ 0)
    (hst : s.rd (Reg.AX_STATE_STATE a) ∉ [axDisabled, axFault]) :
    Nexts (exec (.encLoss a) s) (fun t => t.rd (Reg.AX_STATE_STATE a) = axFault) := by
  rw [exec_encLoss hon hl hr, nexts_next, rd_axShow _ _ (Reg.AX_STATE_STATE a) rfl (.inl (Nat.le_of_ble_eq_true rfl))]
  exact rd_axLossSet hnew hratio hst

/-- On a standby it is recorded, and shown once the module is in control. -/
theorem exec_encLoss_standby (s : State) (a : Fin 8) (hon : s.axOn a = true) (hl : (s.axis a).loss = false)
    (hr : s.role = roleStandby) :
    exec (.encLoss a) s = .next ((s.setAxis a { s.axis a with loss := true }).post axSource 0x0706 a 2
      ((s.axis a).count % 2 ^ 32)) := by
  have hx : exec (.encLoss a) s = .next ((s.setAxis a { s.axis a with loss := true }).post axSource 0x0706 a 2
      (((s.setAxis a { s.axis a with loss := true }).axis a).count % 2 ^ 32)) :=
    (if_pos ⟨hon, by rw [hl]; rfl⟩).trans (if_pos hr)
  rw [hx, axis_setAxis_self]

theorem encErr_shown (s : State) (a : Fin 8) (hon : s.axOn a = true) (hr : s.role ≠ roleStandby) :
    Nexts (exec (.encErr a) s)
      (fun t => t.on (Reg.AX_STATE_ENC_ERR a) = true ∧ (t.axis a).badTo = s.frc + 1000000) := by
  refine ⟨_, (if_pos hon).trans (if_neg hr), ?_, ?_⟩
  · rw [on_post _ _ _ _ _ _ (Reg.AX_STATE_ENC_ERR a) (axState_ne_gb a), on_wr_self _ _ _ (Nat.le_of_ble_eq_true rfl)]
    rfl
  · rw [axis_post, axis_wr, axis_setAxis_self]

theorem exec_encErr_standby (s : State) (a : Fin 8) (hon : s.axOn a = true) (hr : s.role = roleStandby) :
    exec (.encErr a) s = .next (s.post axSource 0x0706 a 1 ((s.axis a).count % 2 ^ 32)) :=
  (if_pos hon).trans (if_pos hr)

theorem encLossClear_cleared (s : State) (a : Fin 8) (hon : s.axOn a = true) (hr : s.role ≠ roleStandby) :
    Nexts (exec (.encLossClear a) s)
      (fun t => t.on (Reg.AX_STATE_ENC_LOSS a) = false ∧ (t.axis a).loss = false) := by
  have hx : exec (.encLossClear a) s = .next ((s.setAxis a { s.axis a with loss := false }).axLossSet a false) :=
    (if_pos hon).trans (congrArg Host.Outcome.next (if_neg hr))
  rw [hx, nexts_next, axLossSet_loss, axis_setAxis_self]
  exact ⟨on_axLossSet _ a false, rfl⟩

/-! ### The settle and still times (R177) -/

/-- Entering a state and showing the axis takes no time. -/
theorem axEnter_axShow (s : State) (a : Nat) {st : Nat} (hst : st < 8) :
    ((s.axEnter a st).axShow a).rd (Reg.AX_STATE_STATE a) = st ∧ ((s.axEnter a st).axShow a).frc = s.frc :=
  ⟨(rd_axShow _ _ (Reg.AX_STATE_STATE a) rfl (.inl (Nat.le_of_ble_eq_true rfl))).trans (rd_axEnter_state s a hst),
    axShow_frc _ _⟩

theorem enSettleElapsed_moves (s : State) (a : Fin 8) (hon : s.axOn a = true)
    (hst : s.rd (Reg.AX_STATE_STATE a) = axSettling) :
    Nexts (exec (.enSettleElapsed a) s) (fun t => t.rd (Reg.AX_STATE_STATE a) = axMoving ∧
      t.frc = max s.frc (max (s.axis a).since ((s.axis a).en.getD 0) + s.axEnSettle a)) :=
  ⟨_, if_pos ⟨hon, hst⟩, axEnter_axShow _ a (by decide)⟩

theorem stillDelayElapsed_parks (s : State) (a : Fin 8) (hon : s.axOn a = true)
    (hst : s.rd (Reg.AX_STATE_STATE a) = axAtRest) :
    Nexts (exec (.stillDelayElapsed a) s) (fun t => t.rd (Reg.AX_STATE_STATE a) = axParked ∧
      t.frc = max s.frc ((s.axis a).since + s.axStillDelay a)) :=
  ⟨_, if_pos ⟨hon, hst⟩, axEnter_axShow _ a (by decide)⟩

/-! ### After a takeover (R185) -/

theorem axisResume_resumes (s : State) (a : Fin 8) (hon : s.axOn a = true) (hres : (s.axis a).resume = true) :
    Nexts (exec (.axisResume a) s) (fun t => (t.axis a).resume = false ∧ t.frc = s.axBoundaryFrom s.frc ∧
      (t.axis a).checkAt = s.axBoundaryFrom s.frc + 1000000) := by
  refine ⟨_, if_pos ⟨hon, hres⟩, ?_⟩
  generalize hu : State.post _ _ _ _ _ _ = u
  obtain ⟨en, short, lineAt, hshow⟩ := axis_axShow u a
  rw [hshow, axShow_frc, ← hu, axis_post, axis_setAxis_self, post_frc, setAxis_frc]
  exact ⟨rfl, rfl, rfl⟩

end Sys2Proof.Machine
end

section
open Sys2Proof Sys2Proof.Machine

/-- Settles O29: a boundary at its instant (log 12) by the axes in turn, each event by what it shows where its axis is
in the state that it is for (an encoder loss by log 82), and AXIS_COUNTS as a message that arrives in order. -/
theorem axisCommandsComplete : Obligations.AxisCommandsComplete :=
  ⟨exec_stepBoundary, exec_axisCounts, vlimStage_stages, encLoss_shown, encLoss_faults, exec_encLoss_standby,
    encErr_shown, exec_encErr_standby, encLossClear_cleared, enSettleElapsed_moves, stillDelayElapsed_parks,
    axisResume_resumes⟩

end

section
/-!
What goes out on the Banister and what comes in (R188 to R193): a message that is sent moves the copies kept of it, and
one that arrives in order, where no join and no message waits with it, is its effect alone.
-/
namespace Sys2Proof.Machine

/-! ### Sending (R188, R189) -/

theorem leBytes_length (n v : Nat) : (leBytes n v).length = n := by
  induction n generalizing v with
  | zero => rfl
  | succ n ih => rw [leBytes, List.length_cons, ih]

/-- A frame that goes out moves the copies kept, the next SEQ and the instant of the last frame. -/
theorem banFrame_eq (s : State) (type : Nat) (last : Bool) (p : List Byte) : ∃ tx n at_,
    s.banFrame type last p = { s with ban := { s.ban with tx, txSeq := n, lastTx := at_ } } := by
  unfold State.banFrame
  split
  · exact ⟨_, _, _, rfl⟩
  · exact ⟨s.ban.tx, s.ban.txSeq, s.ban.lastTx, rfl⟩

theorem banFrames_eq (n : Nat) (s : State) (type : Nat) (p : List Byte) : ∃ tx m at_,
    s.banFrames type n p = { s with ban := { s.ban with tx, txSeq := m, lastTx := at_ } } := by
  induction n generalizing s p with
  | zero => exact banFrame_eq s type true p
  | succ n ih =>
    unfold State.banFrames
    split
    · exact banFrame_eq s type true p
    · obtain ⟨tx, m, at_, h⟩ := banFrame_eq s type false (p.take 2048)
      rw [h]
      exact ih _ _

/-- So does a message. -/
theorem banSend_eq (s : State) (type : Nat) (p : List Byte) : ∃ tx n at_,
    s.banSend type p = { s with ban := { s.ban with tx, txSeq := n, lastTx := at_ } } :=
  banFrames_eq _ s type p

/-- One whose answer is awaited moves the handshakes that wait as well. -/
theorem banAsk_eq (s : State) (type : Nat) (p : List Byte) : ∃ tx n at_ hs,
    s.banAsk type p = { s with ban := { s.ban with tx, txSeq := n, lastTx := at_, hs } } := by
  obtain ⟨tx, n, at_, h⟩ := banSend_eq s type p
  unfold State.banAsk
  rw [h]
  dsimp only
  split
  · exact ⟨tx, n, at_, _, rfl⟩
  · exact ⟨tx, n, at_, s.ban.hs, rfl⟩

theorem banAsk_tx (s : State) (type : Nat) (p : List Byte) : (s.banAsk type p).ban.tx = (s.banSend type p).ban.tx := by
  unfold State.banAsk
  extract_lets
  split <;> rfl

theorem banSend_frc (s : State) (type : Nat) (p : List Byte) : (s.banSend type p).frc = s.frc := by
  obtain ⟨tx, n, at_, h⟩ := banSend_eq s type p
  rw [h]

theorem banAsk_frc (s : State) (type : Nat) (p : List Byte) : (s.banAsk type p).frc = s.frc := by
  obtain ⟨tx, n, at_, hs, h⟩ := banAsk_eq s type p
  rw [h]

/-- The frame that a short message goes out in. -/
def State.frameOf (s : State) (type : Nat) (p : List Byte) : BanFrame :=
  ({ type, flags := 1, seq := s.ban.txSeq, sentFrc := s.frc, payload := p } : BanFrame).sealed

/-- A module that runs and is not SINGLE sends a short message in one frame. -/
theorem banSend_tx {s : State} (hr : s.power.running = true) (hrole : s.role ≠ roleSingle) (type : Nat) {p : List Byte}
    (hp : p.length < 2048) : (s.banSend type p).ban.tx = (s.frameOf type p :: s.ban.tx).take 256 := by
  have hone : s.banSend type p = s.banFrame type true p := by rw [State.banSend, Nat.div_eq_of_lt hp]; rfl
  have hgo : (s.power.running && s.role != 0) = true := by simpa [hr, roleSingle] using hrole
  rw [hone, State.banFrame, if_pos hgo]
  rfl

/-! ### Messages that arrive in order (R188 to R193) -/

/-- A frame that comes next is seen on its lane, is the newest, and answers the NAKs that wait. -/
theorem heard_of_inOrder {s : State} {a : Arrival} (h : s.inOrder a = true) :
    s.heard a = { s with ban := { s.ban with
      lastRx := s.frc, lanes := (s.laneSeen a.lane a.seq.toNat).ban.lanes, missing := [], rxSeq := some a.seq.toNat
      hs := s.ban.hs.filter (fun h => !(h.1 == 0x04)) } } := by
  obtain ⟨-, -, -, hmiss, -⟩ := inOrder_iff.1 h
  have hlane : (s.laneSeen a.lane a.seq.toNat).ban.missing = [] := hmiss
  unfold State.heard State.seqTake
  simp only [hlane, List.filter_nil, ite_self, List.contains_nil, Bool.false_and, Bool.false_eq_true, if_false, if_true]
  rfl

/-- A module acts on a message that arrives in order: a locked one on any, one that is not on those that it takes before
its join point (R490). -/
theorem arrive_of_inOrder {s : State} {a : Arrival} {m : BanMsg} (h : s.inOrder a = true) (hm : msgBoots m = true) :
    s.arrive a m = (s.heard a).deliver (fun t => t.msgAct a m) := by
  obtain ⟨hrun, hrole, hgood, hmiss, -⟩ := inOrder_iff.1 h
  have hu : (s.laneSeen a.lane a.seq.toNat).inOrder a = true := h
  have hbehind : (s.heard a).behindGap a = false := by
    rw [State.behindGap, heard_missing hmiss, List.any_nil]
  have hact : (s.heard a).ordTake a m = (s.heard a).deliver (fun t => t.msgAct a m) :=
    if_neg (by simp [hbehind])
  unfold State.arrive
  rw [if_neg (by simp [hrun, hrole]), if_neg (by simp [hgood])]
  simp only [hm, newFrame_of_inOrder hu, gapSeen_of_inOrder hu, ite_self, Bool.not_true, Bool.false_eq_true, and_false,
    if_false]
  exact hact

theorem inOrder_of_hears {s : State} {a : Arrival} (h : s.hears a = true) : s.inOrder a = true :=
  ((Bool.and_eq_true _ _).mp h).1

theorem locked_of_hears {s : State} {a : Arrival} (h : s.hears a = true) : s.locked = true :=
  ((Bool.and_eq_true _ _).mp h).2

/-- With no join under way and no message waiting, a delivery is its effect. -/
theorem deliver_alone {s t : State} {k : State → State} (hk : k s = t) (hj : t.ban.join = none) (he : t.ban.early = []) :
    s.deliver k = t := by
  have hgo : t.replayGo = t := by rw [State.replayGo, hj]
  rw [State.deliver, hk, hgo, he]
  rfl

/-- A message that arrives in order at such a module: its effect on the state that has heard it. -/
theorem nexts_arrive {s t : State} {a : Arrival} {m : BanMsg} {P : State → Prop}
    (harr : s.arrive a m = (s.heard a).deliver (fun t => t.msgAct a m)) (ht : (s.heard a).msgAct a m = t)
    (hj : t.ban.join = none) (he : t.ban.early = []) (hp : P t) : Nexts (.next (s.arrive a m)) P := by
  rw [harr, deliver_alone ht hj he, nexts_next]
  exact hp

end Sys2Proof.Machine
end

section
/-!
The frames of the Banister: heartbeats, roles and round trips, NAKs, the agreement and the mirrors (R191 to R200).
-/
namespace Sys2Proof.Machine

/-! ### What a module that has heard a frame still holds -/

theorem heard_frc (s : State) (a : Arrival) : (s.heard a).frc = s.frc :=
  heard_frame (F := fun p => p != .frc) s a rfl .frc rfl

theorem heard_power (s : State) (a : Arrival) : (s.heard a).power = s.power :=
  heard_frame (F := fun p => p != .power) s a rfl .power rfl

theorem heard_scn (s : State) (a : Arrival) : (s.heard a).scn = s.scn :=
  heard_frame (F := fun p => p != .scn) s a rfl .scn rfl

theorem heard_role (s : State) (a : Arrival) : (s.heard a).role = s.role := heard_rd s a _

theorem heard_join {s : State} {a : Arrival} (h : s.inOrder a = true) : (s.heard a).ban.join = s.ban.join := by
  rw [heard_of_inOrder h]

theorem heard_early {s : State} {a : Arrival} (h : s.inOrder a = true) : (s.heard a).ban.early = s.ban.early := by
  rw [heard_of_inOrder h]

theorem heard_hs {s : State} {a : Arrival} (h : s.inOrder a = true) :
    (s.heard a).ban.hs = s.ban.hs.filter (fun h => !(h.1 == 0x04)) := by
  rw [heard_of_inOrder h]

/-! ### Heartbeats (R191, R194) -/

/-- A frame among the newest 255 is kept when a short message goes out. -/
theorem mem_banSend_tx {s : State} (hr : s.power.running = true) (hrole : s.role ≠ roleSingle) (type : Nat)
    {p : List Byte} (hp : p.length < 2048) {f : BanFrame} (hf : f ∈ s.ban.tx.take 255) :
    f ∈ (s.banSend type p).ban.tx := by
  rw [banSend_tx hr hrole type hp, List.take_succ_cons]
  exact List.mem_cons_of_mem _ hf

/-- What a heartbeat carries (R191): role, lanes and tick phase. -/
def State.beatBytes (s : State) : List Byte :=
  leBytes 1 s.role ++ leBytes 1 s.laneMask ++ leBytes 2 0 ++ leBytes 4 (s.scn.lastTick.getD 0 % baseTick)

/-- A heartbeat is among the frames kept, also behind a measurement that goes out after it. -/
theorem beat_kept {s : State} (hr : s.power.running = true) (hrole : s.role ≠ roleSingle) :
    s.frameOf 0x01 s.beatBytes ∈ (s.banSend 0x01 s.beatBytes).ban.tx ∧
      s.frameOf 0x01 s.beatBytes ∈ ((s.banSend 0x01 s.beatBytes).banAsk 0x03 [0x81]).ban.tx := by
  have htx := banSend_tx hr hrole 0x01 (p := s.beatBytes) (by simp [State.beatBytes, leBytes_length])
  obtain ⟨tx, n, at_, hsent⟩ := banSend_eq s 0x01 s.beatBytes
  have hrun' : (s.banSend 0x01 s.beatBytes).power.running = true := by rw [hsent]; exact hr
  have hrole' : (s.banSend 0x01 s.beatBytes).role ≠ roleSingle := by rw [hsent]; exact hrole
  refine ⟨by rw [htx]; exact List.mem_cons_self, ?_⟩
  rw [banAsk_tx]
  refine mem_banSend_tx hrun' hrole' 0x03 (by decide) ?_
  rw [htx, List.take_take]
  exact List.mem_cons_self

/-- A heartbeat goes out 10 µs after the last frame. -/
theorem heartbeatSend_sends (s : State) (hr : s.power.running = true) (hrole : s.role ≠ roleSingle) :
    Nexts (exec .heartbeatSend s) (fun t => (∃ f ∈ t.ban.tx, f.type = 0x01 ∧ f.seq = s.ban.txSeq) ∧
      t.frc = max s.frc (s.ban.lastTx + 10000)) := by
  obtain ⟨hbeat, hbehind⟩ := beat_kept (s := { s with frc := max s.frc (s.ban.lastTx + 10000) }) hr hrole
  refine ⟨_, rfl, ?_⟩
  split
  · exact ⟨⟨_, hbehind, rfl, rfl⟩, (banAsk_frc _ _ _).trans (banSend_frc _ _ _)⟩
  · exact ⟨⟨_, hbeat, rfl, rfl⟩, banSend_frc _ _ _⟩

theorem exec_heartbeat (s : State) (a : Arrival) (role : Fin 8) (lanes : Fin 4) (phase : Fin 250000)
    (h : s.inOrder a = true) :
    exec (.heartbeat a role lanes phase) s =
      .next ((s.heard a).deliver (fun s => s.heartbeatTake a.sent.toNat role.val phase.val)) :=
  congrArg Host.Outcome.next (arrive_of_inOrder h rfl)

theorem joinAbort_none {s : State} (h : s.ban.join = none) : s.joinAbort = s := by
  rw [State.joinAbort, State.joinEnd, h]

theorem role_setPeerRole (s : State) (r : Nat) : (s.setPeerRole r).role = s.role :=
  rd_wr_bits _ _ _ _ (by decide) (by decide)

theorem peerRole_setPeerRole (s : State) {r : Nat} (h : r < 16) : (s.setPeerRole r).rd Reg.BAN_STAT_PEER_ROLE = r :=
  (rd_wr_self _ _ _ (by decide)).trans (Nat.mod_eq_of_lt h)

theorem electing_setPeerRole (s : State) (r : Nat) : (s.setPeerRole r).electing = s.electing := by
  have hrd : ∀ f : Fld, f.addr ≠ Reg.BAN_STAT_PEER_ROLE.addr → (s.setPeerRole r).rd f = s.rd f :=
    fun f hf => rd_wr_addr s Reg.BAN_STAT_PEER_ROLE f r hf
  rw [State.electing, State.locked, hrd _ (by decide), hrd _ (by decide)]
  rfl

/-- A module that is in no pair, joins none and elects no longer takes of a heartbeat the peer's role alone. -/
theorem heartbeatTake_apart {s : State} (hj : s.ban.join = none)
    (hrole : s.role ∉ [roleActive, roleStandby, roleCold]) (he : s.electing = false) (sent role phase : Nat) :
    s.heartbeatTake sent role phase = s.setPeerRole role := by
  simp only [List.mem_cons, List.not_mem_nil, or_false, not_or] at hrole
  obtain ⟨hactive, hstandby, hcold⟩ := hrole
  have hjoin : (s.setPeerRole role).joinAbort = s.setPeerRole role := joinAbort_none hj
  have hchange : s.peerChange role = s.setPeerRole role := by
    unfold State.peerChange
    simp only [hjoin, ite_self, role_setPeerRole]
    exact if_neg fun h => hactive h.1
  have hhear : ∀ strap, (s.setPeerRole role).hear strap role = s.setPeerRole role := fun strap =>
    if_neg (by rw [electing_setPeerRole, he]; decide)
  unfold State.heartbeatTake
  simp only [hchange, hhear, role_setPeerRole, hstandby, hcold, or_self, if_false]
  split <;> rfl

theorem heartbeat_role (s : State) (a : Arrival) (role : Fin 8) (lanes : Fin 4) (phase : Fin 250000)
    (h : s.inOrder a = true) (hj : s.ban.join = none) (hearly : s.ban.early = [])
    (hrole : s.role ∉ [roleActive, roleStandby, roleCold]) (he : s.electing = false) :
    Nexts (exec (.heartbeat a role lanes phase) s)
      (fun t => t.rd Reg.BAN_STAT_PEER_ROLE = role.val ∧ t.ban.rxSeq = some a.seq.toNat) := by
  have helect : (s.heard a).electing = false := by
    rw [State.electing, heard_power, heard_locked, heard_rd]
    exact he
  refine nexts_arrive (arrive_of_inOrder h rfl) (heartbeatTake_apart ((heard_join h).trans hj)
    (by rwa [heard_role]) helect _ _ _) ((heard_join h).trans hj) ((heard_early h).trans hearly) ⟨?_, ?_⟩
  · exact peerRole_setPeerRole _ (by omega)
  · rw [heard_of_inOrder h]
    rfl

/-! ### Discarded frames (R190) -/

/-- A counter that is counted on reads one more, up to its highest value. -/
theorem rd_bump_self (s : State) (f : Fld) (h : f.lo + f.width ≤ 32) : (s.bump f).rd f = satInc f.width (s.rd f) := by
  have hlt : satInc f.width (s.rd f) < 2 ^ f.width := by
    have hpos := Nat.two_pow_pos f.width
    rw [satInc]
    omega
  exact (rd_wr_self s f _ h).trans (Nat.mod_eq_of_lt hlt)

theorem banisterFrameDiscard_counts (s : State) (type : Byte) (len : Nat) (lane : Fin 2)
    (hr : s.power.running = true) (hrole : s.role ≠ roleSingle) :
    Nexts (exec (.banisterFrameDiscard type len lane) s)
      (fun t => t.rd Reg.BAN_DISCARD_COUNT = satInc 16 (s.rd Reg.BAN_DISCARD_COUNT)) :=
  ⟨_, if_pos ⟨hr, hrole⟩, (rd_post _ _ _ _ _ _ _ (by decide)).trans (rd_bump_self s _ (by decide))⟩

/-! ### Roles and round trips (R191, R192) -/

theorem exec_role (s : State) (a : Arrival) (x : RoleMsg) (h : s.inOrder a = true) :
    exec (.role a x) s = .next ((s.heard a).deliver (fun s => s.roleTake a.seq.toNat x)) :=
  congrArg Host.Outcome.next (arrive_of_inOrder h rfl)

/-- A measurement is answered with a ROLE that names it. -/
theorem role_measure_answered (s : State) (a : Arrival) (h : s.inOrder a = true) (hj : s.ban.join = none)
    (hearly : s.ban.early = []) :
    Nexts (exec (.role a .measure) s) (fun t =>
      t.ban.tx.head?.map (fun f => (f.type, f.payload)) = some (0x03, [0x80, 0, 0, 0] ++ leBytes 4 a.seq.toNat)) := by
  obtain ⟨hrun, hrole, -⟩ := inOrder_iff.1 h
  have htx := banSend_tx (s := s.heard a) (by rwa [heard_power]) (by rwa [heard_role]) 0x03
    (p := [0x80, 0, 0, 0] ++ leBytes 4 a.seq.toNat) (by simp [leBytes_length])
  obtain ⟨tx, n, at_, hsent⟩ := banSend_eq (s.heard a) 0x03 ([0x80, 0, 0, 0] ++ leBytes 4 a.seq.toNat)
  have hjoin := (heard_join h).trans hj
  have hwait := (heard_early h).trans hearly
  refine nexts_arrive (arrive_of_inOrder h rfl) (t := (s.heard a).roleAnswer a.seq.toNat) rfl ?_ ?_ ?_
  · rw [State.roleAnswer, hsent]
    exact hjoin
  · rw [State.roleAnswer, hsent]
    exact hwait
  · rw [State.roleAnswer, htx]
    rfl

/-- An answer to the handshake that waits ends it, and gives the round trip. -/
theorem role_answer_measures (s : State) (a : Arrival) (n : BitVec 32) (t0 : Nat) (h : s.inOrder a = true)
    (hj : s.ban.join = none) (hearly : s.ban.early = []) (hhs : s.ban.hs = [(0x03, n.toNat, t0)]) :
    Nexts (exec (.role a (.answer n)) s)
      (fun t => t.ban.hs = [] ∧ t.rd Reg.BAN_RTT_RTT = min (s.frc - t0) 0xFFFF) := by
  have hwait : (s.heard a).ban.hs = [(0x03, n.toNat, t0)] := by rw [heard_hs h, hhs]; rfl
  have htake : (s.heard a).msgAct a (.role (.answer n)) =
      ((s.heard a).wr Reg.BAN_RTT_RTT (min ((s.heard a).frc - t0) 0xFFFF)).hsDone
        (fun h => (h.1 == 0x03 || h.1 == 0x31) && h.2.1 == n.toNat) := by
    show (s.heard a).roleTake a.seq.toNat (.answer n) = _
    rw [State.roleTake, hwait]
    simp
  refine nexts_arrive (arrive_of_inOrder h rfl) htake ((heard_join h).trans hj) ((heard_early h).trans hearly) ⟨?_, ?_⟩
  · rw [State.hsDone]
    simp [hwait]
  · have hlt : min (s.frc - t0) 0xFFFF < 2 ^ 16 := by omega
    rw [heard_frc]
    exact (rd_wr_self _ Reg.BAN_RTT_RTT _ (by decide)).trans (Nat.mod_eq_of_lt hlt)

/-! ### NAKs and handshakes (R192, R193) -/

/-- A frame that is named goes out again as RESENT; one that is not stays as it is. -/
theorem nak_resends (s : State) (a : Arrival) (seqs : List (BitVec 32)) (h : s.hears a = true)
    (hj : s.ban.join = none) (hearly : s.ban.early = []) :
    Nexts (exec (.nak a seqs) s) (fun t => t.ban.tx.length = s.ban.tx.length ∧
      ∀ f ∈ t.ban.tx, f.seq ∈ seqs.map (fun n => n.toNat) → bitAt f.flags 1 = true) := by
  have hord := inOrder_of_hears h
  have htx : (s.heard a).ban.tx = s.ban.tx := by rw [heard_of_inOrder hord]
  refine nexts_arrive (arrive_of_hears h _) rfl ((heard_join hord).trans hj) ((heard_early hord).trans hearly) ⟨?_, ?_⟩
  · exact (List.length_map _).trans (congrArg List.length htx)
  · intro f hf hseq
    obtain ⟨g, -, rfl⟩ := List.mem_map.1 hf
    by_cases hnamed : (seqs.map (fun n => n.toNat)).contains g.seq = true
    · rw [if_pos hnamed]
      show (g.flags ||| 2).testBit 1 = true
      rw [Nat.testBit_or, Bool.or_eq_true]
      exact .inr rfl
    · rw [if_neg hnamed] at hseq
      exact absurd (List.contains_iff_mem.2 hseq) hnamed

theorem exec_handshakeTimeout {s : State} {type n t0 : Nat} {rest : List (Nat × Nat × Nat)}
    (hhs : s.ban.hs = (type, n, t0) :: rest) :
    exec .handshakeTimeout s = .next (
      let u : State := { s with frc := max s.frc (t0 + 8000), ban := { s.ban with hs := rest } }
      let v : State := (u.bump Reg.BAN_HS_FAIL).post Un.ban 0x0803 type n ((u.frc - t0) / 1000)
      { v with ban := { v.ban with wait := if type = 0x10 then none else v.ban.wait } }) := by
  show execHandshakeTimeout s = _
  rw [execHandshakeTimeout, hhs]

/-- The oldest handshake that waits ends 8 µs after its sending, and is counted. -/
theorem handshakeTimeout_counts (s : State) (type n t0 : Nat) (rest : List (Nat × Nat × Nat))
    (hhs : s.ban.hs = (type, n, t0) :: rest) :
    Nexts (exec .handshakeTimeout s) (fun t => t.ban.hs = rest ∧
      t.rd Reg.BAN_HS_FAIL = satInc 32 (s.rd Reg.BAN_HS_FAIL) ∧ t.frc = max s.frc (t0 + 8000)) := by
  rw [exec_handshakeTimeout hhs, nexts_next]
  refine ⟨congrArg Ban.hs (post_ban _ _ _ _ _ _), ?_, post_frc _ _ _ _ _ _⟩
  exact (rd_post _ _ _ _ _ _ _ (by decide)).trans (rd_bump_self _ _ (by decide))

/-! ### The agreement and the mirrors (R196, R198, R199) -/

/-- The standby in step answers an agreement, and takes it for its tick. -/
theorem exec_agreement (s : State) (a : Arrival) (g : Agreement) (h : s.hears a = true) (hf : s.follows = true) :
    exec (.agreement a g) s = .next ((s.heard a).deliver (fun s =>
      let u := s.banSend 0x11 (leBytes 8 g.tick ++ leBytes 4 (banCrc (agrBytes g)))
      ({ u with ban := { u.ban with agrs := u.ban.agrs ++ [g] } } : State).followAll)) :=
  congrArg Host.Outcome.next ((arrive_of_hears h _).trans
    (deliver_congr (if_pos ((heard_follows s a).trans hf))))

theorem agreeAck_ends (s : State) (a : Arrival) (tick : Nat) (crc : BitVec 32) (h : s.hears a = true)
    (hj : s.ban.join = none) (hearly : s.ban.early = []) (hw : s.ban.wait = some crc.toNat)
    (ht : tick = s.scn.ticks) :
    Nexts (exec (.agreeAck a tick crc) s) (fun t => t.ban.wait = none ∧ ∀ h ∈ t.ban.hs, h.1 ≠ 0x10) := by
  have hord := inOrder_of_hears h
  have hwait : (s.heard a).ban.wait = some crc.toNat := by
    rw [heard_of_inOrder hord]
    exact hw
  have htick : tick = (s.heard a).scn.ticks := by rw [heard_scn, ht]
  refine nexts_arrive (arrive_of_hears h _) (if_pos ⟨hwait, htick⟩) ((heard_join hord).trans hj)
    ((heard_early hord).trans hearly) ⟨rfl, fun x hx => ?_⟩
  simpa using (List.mem_filter.1 hx).2

/-- The standby in step enters the mirrored entries and acknowledges. -/
theorem exec_rxMirror (s : State) (a : Arrival) (entries : List Mirrored) (h : s.hears a = true)
    (hf : s.follows = true) :
    exec (.rxMirror a entries) s = .next ((s.heard a).deliver (fun s =>
      let u := entries.foldl (fun s x => s.mirrorEntry a.seq.toNat x) s
      ({ u with ban := { u.ban with rxmHeld := a.seq.toNat } } : State).mirrorAckSend)) :=
  congrArg Host.Outcome.next ((arrive_of_hears h _).trans
    (deliver_congr (if_pos ((heard_follows s a).trans hf))))

theorem mirrorAck_covers (s : State) (a : Arrival) (upTo : BitVec 32) (h : s.hears a = true)
    (hj : s.ban.join = none) (hearly : s.ban.early = []) :
    Nexts (exec (.mirrorAck a upTo) s) (fun t => t.ban.mirrored = upTo.toNat ∧
      ∀ e ∈ t.ban.rxm, e ∈ s.ban.rxm ∧ seqAfter e.1 upTo.toNat = true) := by
  have hord := inOrder_of_hears h
  have hrxm : (s.heard a).ban.rxm = s.ban.rxm := by rw [heard_of_inOrder hord]
  refine nexts_arrive (arrive_of_hears h _) rfl ((heard_join hord).trans hj) ((heard_early hord).trans hearly)
    ⟨rfl, fun e he => ?_⟩
  obtain ⟨hmem, hafter⟩ := List.mem_filter.1 he
  exact ⟨hrxm ▸ hmem, hafter⟩

/-- The standby in step applies the mirrored writes. -/
theorem exec_regMirror (s : State) (a : Arrival) (entries : List RegMirror) (h : s.hears a = true)
    (hf : s.follows = true) :
    exec (.regMirror a entries) s = .next ((s.heard a).deliver (fun s => s.regMirrors entries)) :=
  congrArg Host.Outcome.next ((arrive_of_hears h _).trans
    (deliver_congr (if_pos ((heard_follows s a).trans hf))))

end Sys2Proof.Machine
end

section
open Sys2Proof Sys2Proof.Machine

/-- Settles O30: each message that arrives in order by its effect, which is all of it where no join and no message waits;
the tick phase and the measurement beside a heartbeat are log 203, and sending is a command of its own (log 12). -/
theorem banisterFramesComplete : Obligations.BanisterFramesComplete :=
  ⟨heartbeatSend_sends, exec_heartbeat, heartbeat_role, banisterFrameDiscard_counts, exec_role, role_measure_answered,
    role_answer_measures, nak_resends, handshakeTimeout_counts, exec_agreement, agreeAck_ends, exec_rxMirror,
    mirrorAck_covers, exec_regMirror⟩

end

section
/-!
Registers that a pair's operations leave. Each operation writes a few registers of its own; the others are told apart by
where they lie: the Banister's status registers below its digests, and the units between it and the Pigeonhole's queues.
-/
namespace Sys2Proof.Machine

/-- From one state to another a register is left as it was. -/
def KeepsReg (a : Nat) (s t : State) : Prop := t.fileAt a = s.fileAt a

namespace KeepsReg
variable {a : Nat} {s t u : State}

theorem self : KeepsReg a s s := rfl

theorem trans (h : KeepsReg a s t) (h' : KeepsReg a t u) : KeepsReg a s u := Eq.trans h' h

/-- What leaves every register leaves this one. -/
theorem of_regs (e : t.regs = s.regs) : KeepsReg a s t := by rw [KeepsReg, State.fileAt, e, State.fileAt]

/-- What replaces another part of the state leaves this one too. -/
theorem of_eq (h : KeepsReg a s t) (e : u.regs = t.regs) : KeepsReg a s u := h.trans (of_regs e)

theorem rd {f : Fld} (h : KeepsReg f.addr s t) : t.rd f = s.rd f := by rw [rd_eq_fileAt, h, rd_eq_fileAt]

theorem on {f : Fld} (h : KeepsReg f.addr s t) : t.on f = s.on f := by rw [State.on, h.rd, State.on]

theorem wr (h : KeepsReg a s t) {g : Fld} (v : Nat) (hne : a ≠ g.addr) : KeepsReg a s (t.wr g v) :=
  (fileAt_wr_ne t g v a hne).trans h

theorem wr64 (h : KeepsReg a s t) {l g : Fld} (v : Nat) (hl : a ≠ l.addr) (hg : a ≠ g.addr) :
    KeepsReg a s (t.wr64 l g v) :=
  (h.wr v hl).wr _ hg

/-- A write to both states leaves what they differ in. -/
theorem congr_wr (h : KeepsReg a s t) (g : Fld) (v : Nat) : KeepsReg a (s.wr g v) (t.wr g v) := by
  by_cases ha : a = g.addr
  · subst ha
    have hget : Tab.get t.regs g.addr = Tab.get s.regs g.addr := BitVec.eq_of_toNat_eq h
    rw [KeepsReg, State.fileAt, State.fileAt, State.wr, State.wr, Tab.get_put_self, Tab.get_put_self, hget]
  · rw [KeepsReg, fileAt_wr_ne _ _ _ _ ha, fileAt_wr_ne _ _ _ _ ha]
    exact h

theorem post (h : KeepsReg a s t) (source code p1 p2 p3 : Nat) (ha : a < 0x2000120000) :
    KeepsReg a s (t.post source code p1 p2 p3) :=
  (fileAt_post t _ _ _ _ _ a (by simp only [unitOf, regBase, Un.gb]; omega)).trans h

theorem wake (h : KeepsReg a s t) (u : GUnit) (ha : 0x2000070000 ≤ a) : KeepsReg a s (t.wake u) :=
  (fileAt_wake t u a (by simp only [Reg.SLV_STAT_STATE]; omega) (by simp only [Reg.LOOP_STAT_STATE]; omega)).trans h

theorem ring (h : KeepsReg a s t) (id : Nat) (ha : 0x2000070000 ≤ a) : KeepsReg a s (t.ring id) := by
  unfold State.ring
  split_ifs
  · exact h.wake _ ha
  · exact h.wake _ ha
  · exact h.wake _ ha
  · exact h

theorem foldl {α : Type} {l : List α} {f : State → α → State}
    (hf : ∀ x ∈ l, ∀ t, KeepsReg a s t → KeepsReg a s (f t x)) (h : KeepsReg a s t) : KeepsReg a s (l.foldl f t) :=
  List.foldlRecOn l f h fun t ht x hx => hf x hx t ht

theorem banSend (h : KeepsReg a s t) (type : Nat) (p : List Byte) : KeepsReg a s (t.banSend type p) :=
  h.trans (of_regs (State.banSend_frame (F := fun p => p != .regs) t type p rfl (fr_self _ t) .regs rfl))

theorem banAsk (h : KeepsReg a s t) (type : Nat) (p : List Byte) : KeepsReg a s (t.banAsk type p) :=
  h.trans (of_regs (State.banAsk_frame (F := fun p => p != .regs) t type p rfl (fr_self _ t) .regs rfl))

/-! ### Roles (R206) -/

theorem inquiryOver (h : KeepsReg a s t) (hs : a ≠ Reg.BAN_STAT.addr) (ha : a < 0x2000130000) :
    KeepsReg a s t.inquiryOver := by
  unfold State.inquiryOver
  have hstat : KeepsReg a s ((t.wr Reg.BAN_STAT_INQUIRY 0).wr Reg.BAN_STAT_STRICT_HOLD 0) :=
    (h.wr (g := Reg.BAN_STAT_INQUIRY) 0 hs).wr (g := Reg.BAN_STAT_STRICT_HOLD) 0 hs
  exact (hstat.wr (g := Reg.RND_STAT_PAUSED) 0 (by simp only [Reg.RND_STAT_PAUSED]; omega)).of_eq rfl

theorem pairOver (h : KeepsReg a s t) : KeepsReg a s t.pairOver := h.of_eq rfl

theorem setCanState (h : KeepsReg a s t) (c st : Nat) (ha : a < 0x20000B0000) : KeepsReg a s (t.setCanState c st) := by
  unfold State.setCanState
  extract_lets u v
  have hu : KeepsReg a s u := h.wr st (by simp only [Reg.CAN_STAT_STATE]; omega)
  have hv : KeepsReg a s v := hu.wr _ (by simp only [Reg.CAN_GSTAT_ACTIVE]; omega)
  exact hv.wr _ (by simp only [Reg.CAN_GSTAT_BUS_OFF]; omega)

theorem canAtK (h : KeepsReg a s t) (c : Nat) (ha : a < 0x20000B0000) : KeepsReg a s (t.canAtK c) := by
  unfold State.canAtK
  split_ifs
  · exact h.setCanState _ _ ha
  · exact (h.of_eq (setCanCh_regs _ _ _)).setCanState _ _ ha
  · exact h

theorem canToMonitor (h : KeepsReg a s t) (c : Nat) (ha : a < 0x20000B0000) : KeepsReg a s (t.canToMonitor c) := by
  unfold State.canToMonitor
  split_ifs
  · exact h
  · exact h.setCanState _ _ ha

theorem rioRole (h : KeepsReg a s t) (l : Nat) (ha : a < 0x20000F0000) : KeepsReg a s (t.rioRole l) := by
  unfold State.rioRole
  split_ifs
  · exact h.wr _ (by simp only [Reg.RIO_LINK_STAT_STATE]; omega)
  · exact h.wr _ (by simp only [Reg.RIO_LINK_STAT_STATE]; omega)
  · exact h

theorem rndRole (h : KeepsReg a s t) (ha : a < 0x2000130000) : KeepsReg a s t.rndRole :=
  foldl (fun i _ _ ht => ht.wr _ (by simp only [Reg.RND_ITEM_COVERAGE]; omega)) h

/-- Of the Banister's status registers a role that changes writes ROLE alone. -/
theorem setRole (r : Nat) (ha : a < 0x2000070100) : KeepsReg a (s.wr Reg.BAN_STAT_ROLE r) (s.setRole r) := by
  have hcount : KeepsReg a s s.latentCount :=
    (self.wr (g := Reg.BAN_LATENT_HOURS) _ (by simp only [Reg.BAN_LATENT_HOURS]; omega)).of_eq rfl
  unfold State.setRole
  extract_lets was s1 s2 s3 s4 s5 b5 s6 b6 s7 x7 s8
  have h2 : KeepsReg a (s.wr Reg.BAN_STAT_ROLE r) s2 := hcount.congr_wr _ _
  have h3 : KeepsReg a (s.wr Reg.BAN_STAT_ROLE r) s3 :=
    foldl (fun p _ _ ht => ht.wr _ (by simp only [Reg.SER_STAT_DRIVER]; omega)) h2
  have h4 : KeepsReg a (s.wr Reg.BAN_STAT_ROLE r) s4 := foldl (fun l _ _ ht => ht.rioRole l (by omega)) h3
  have h5 : KeepsReg a (s.wr Reg.BAN_STAT_ROLE r) s5 := by
    simp only [s5]
    split_ifs
    · refine foldl (fun c _ t ht => ?_) h4
      split_ifs
      · exact ht.canAtK c (by omega)
      · exact ht.canToMonitor c (by omega)
    · exact h4
  have h6 : KeepsReg a (s.wr Reg.BAN_STAT_ROLE r) s6 := by
    simp only [s6]
    split_ifs
    · exact (h5.of_eq rfl).wr _ (by simp only [Reg.BAN_LATENT_HOURS]; omega)
    · exact h5
  have h7 : KeepsReg a (s.wr Reg.BAN_STAT_ROLE r) s7 := by
    simp only [s7]
    split_ifs
    · exact h6.of_eq rfl
    · exact h6
  have h8 : KeepsReg a (s.wr Reg.BAN_STAT_ROLE r) s8 := by
    simp only [s8]
    split_ifs
    · exact h7.of_eq rfl
    · exact h7
  exact h8.rndRole (by omega)

theorem setRole_of_ne (h : KeepsReg a s t) (r : Nat) (hs : a ≠ Reg.BAN_STAT.addr) (ha : a < 0x2000070100) :
    KeepsReg a s (t.setRole r) :=
  (h.wr (g := Reg.BAN_STAT_ROLE) r hs).trans (KeepsReg.setRole r ha)

/-- To halt the tasks writes the Scan Engine's registers. -/
theorem scnHalt (h : KeepsReg a s t) (hlo : 0x2000070000 ≤ a) (ha : a < 0x2000120000) : KeepsReg a s t.scnHalt := by
  unfold State.scnHalt
  extract_lets t1 t2 t3
  have h1 : KeepsReg a s t1 := by
    simp only [t1]
    split_ifs
    · exact h
    · exact h.post _ _ _ _ _ ha
  have h2 : KeepsReg a s t2 :=
    (h1.wr _ (by simp only [Reg.SCN_STAT_MODE]; omega)).wr _ (by simp only [Reg.SCN_STAT_PENDING]; omega)
  have h3 : KeepsReg a s t3 := by
    refine foldl (fun n hn v hv => ?_) h2
    have hlt : n < 16 := List.mem_range.1 (List.mem_of_mem_filter hn)
    exact (hv.of_eq rfl).wr _ (by simp only [Reg.SCN_TASK_STAT_STATE]; omega)
  exact h3.of_eq rfl

theorem sendRole (h : KeepsReg a s t) : KeepsReg a s t.sendRole := h.banAsk _ _

end KeepsReg

/-- A role that is set shows, and stays while the tasks halt and the role is told. -/
theorem role_setRole (s : State) {r : Nat} (hr : r < 16) : (s.setRole r).role = r :=
  ((KeepsReg.setRole (a := Reg.BAN_STAT_ROLE.addr) r (by decide)).rd (f := Reg.BAN_STAT_ROLE)).trans
    ((rd_wr_self s Reg.BAN_STAT_ROLE r (by decide)).trans (Nat.mod_eq_of_lt hr))

theorem demote_keepsReg {a : Nat} (s : State) (cause p2 : Nat) (hlo : 0x2000070000 ≤ a) (ha : a < 0x2000070100) :
    KeepsReg a (s.inquiryOver.pairOver.setRole roleCold) (s.demote cause p2) :=
  ((KeepsReg.self.scnHalt hlo (by omega)).post _ _ _ _ _ (by omega)).sendRole

theorem fail_keepsReg {a : Nat} (s : State) (trigger : Nat) (hlo : 0x2000070000 ≤ a) (ha : a < 0x2000070100) :
    KeepsReg a (s.inquiryOver.pairOver.setRole roleFailed) (s.fail trigger) :=
  ((KeepsReg.self.scnHalt hlo (by omega)).post _ _ _ _ _ (by omega)).sendRole

/-- A module that leaves lockstep is COLD. -/
theorem role_demote (s : State) (cause p2 : Nat) : (s.demote cause p2).role = roleCold :=
  ((demote_keepsReg (a := Reg.BAN_STAT_ROLE.addr) s cause p2 (by decide) (by decide)).rd (f := Reg.BAN_STAT_ROLE)).trans
    (role_setRole _ (by decide))

/-- A module that fails is FAILED. -/
theorem role_fail (s : State) (trigger : Nat) : (s.fail trigger).role = roleFailed :=
  ((fail_keepsReg (a := Reg.BAN_STAT_ROLE.addr) s trigger (by decide) (by decide)).rd (f := Reg.BAN_STAT_ROLE)).trans
    (role_setRole _ (by decide))

/-! ### The handover notice (R212) -/

/-- To roll the queues back writes their indexes. -/
theorem KeepsReg.rollBack {a : Nat} {s t : State} (h : KeepsReg a s t) (limit : Nat → Nat) (keep : Bool)
    (ha : a < 0x2000110000) : KeepsReg a s (t.rollBack limit keep) := by
  refine foldl (fun q _ u hu => ?_) h
  dsimp only
  split_ifs
  · exact (hu.of_eq rfl).wr _ (by simp only [Reg.QUE_DI]; omega)
  · exact (hu.wr _ (by simp only [Reg.QUE_PI]; omega)).of_eq rfl
  · exact hu.wr _ (by simp only [Reg.QUE_PI]; omega)

/-- The notice as the registers show it. -/
def State.noticeShown (s : State) (trigger : Nat) : State :=
  (((s.inquiryOver.post Un.ban 0x0806 trigger s.role (s.inquiryOver.rd Reg.BAN_PEER_SERIAL)).wr
    Reg.BAN_HO_TRIGGER trigger).wr Reg.BAN_HO_SKIPPED 0).wr Reg.BAN_STAT_HANDOVER 1

/-- What follows on it counts the handover and rolls the queues back. -/
theorem noticeShown_keepsReg {a : Nat} (s : State) (trigger : Nat) (hlo : 0x2000070000 ≤ a) (ha : a < 0x2000110000)
    (hne : a ≠ Reg.BAN_HO_CNT.addr) : KeepsReg a (s.noticeShown trigger) (s.handover trigger) := by
  unfold State.handover
  extract_lets before s1 s2 s3 s4 s5 s6 c6 s7 b7 s8
  have h3 : s3 = s.noticeShown trigger := rfl
  have h4 : KeepsReg a (s.noticeShown trigger) s4 := by
    rw [← h3]
    exact KeepsReg.self.wr (g := Reg.BAN_HO_CNT_COUNT) _ hne
  clear_value s4
  have h5 : KeepsReg a (s.noticeShown trigger) s5 := h4.banAsk _ _
  clear_value s5
  have h6 : KeepsReg a (s.noticeShown trigger) s6 := KeepsReg.foldl (fun n _ u hu => hu.of_eq rfl) h5
  clear_value s6
  have h7 : KeepsReg a (s.noticeShown trigger) s7 :=
    (h6.of_eq rfl).wr _ (by simp only [Reg.SCN_STAT_PENDING]; omega)
  have h8 : KeepsReg a (s.noticeShown trigger) s8 := h7.of_eq rfl
  exact (h8.rollBack _ _ ha).of_eq rfl

/-- The notice writes BAN_STAT, BAN_HO and its count, and beside the Banister no unit below the queues. -/
theorem KeepsReg.handover {a : Nat} {s t : State} (h : KeepsReg a s t) (trigger : Nat) (hlo : 0x2000070000 ≤ a)
    (ha : a < 0x2000110000) (hs : a ≠ Reg.BAN_STAT.addr) (hh : a ≠ Reg.BAN_HO.addr) (hc : a ≠ Reg.BAN_HO_CNT.addr) :
    KeepsReg a s (t.handover trigger) :=
  have hshown : KeepsReg a s (t.noticeShown trigger) :=
    ((((h.inquiryOver hs (by omega)).post _ _ _ _ _ (by omega)).wr (g := Reg.BAN_HO_TRIGGER) _ hh).wr
      (g := Reg.BAN_HO_SKIPPED) _ hh).wr (g := Reg.BAN_STAT_HANDOVER) _ hs
  hshown.trans (noticeShown_keepsReg t trigger hlo ha hc)

/-- A handover that begins shows, with its trigger. -/
theorem handover_shows (s : State) {trigger : Nat} (ht : trigger < 2 ^ 8) :
    (s.handover trigger).on Reg.BAN_STAT_HANDOVER = true ∧ (s.handover trigger).rd Reg.BAN_HO_TRIGGER = trigger := by
  refine ⟨?_, ?_⟩
  · rw [(noticeShown_keepsReg s trigger (by decide) (by decide) (by decide)).on (f := Reg.BAN_STAT_HANDOVER),
      State.noticeShown, on_wr_self _ _ _ (by decide)]
    rfl
  · rw [(noticeShown_keepsReg s trigger (by decide) (by decide) (by decide)).rd (f := Reg.BAN_HO_TRIGGER),
      State.noticeShown, rd_wr_addr _ _ _ _ (by decide), rd_wr_bits _ _ _ _ (by decide) (by decide),
      rd_wr_self _ _ _ (by decide)]
    exact Nat.mod_eq_of_lt ht

end Sys2Proof.Machine
end

section
/-!
Comparison, inquiry and the faults that trigger a handover (R201 to R211).
-/
namespace Sys2Proof.Machine

/-! ### Digests (R202, R203, R205) -/

theorem heard_task (s : State) (a : Arrival) (n : Nat) : (s.heard a).task n = s.task n := by
  rw [State.task, heard_scn, State.task]

theorem heard_compares (s : State) (a : Arrival) : (s.heard a).compares = s.compares := by
  rw [State.compares, heard_follows, State.leadsPair, heard_ho, heard_role]
  rfl

theorem heard_logs {s : State} {a : Arrival} (h : s.inOrder a = true) : (s.heard a).logs = s.logs := by
  rw [State.logs, heard_role, heard_join h, State.logs]

/-- A digest of a task whose commit does not wait is compared with the module's own. -/
theorem exec_digest (s : State) (a : Arrival) (n : Fin 16) (missed noImage : Bool) (cycle : Nat) (value : BitVec 64)
    (h : s.hears a = true) (hlogs : s.logs = false) (hcomp : s.compares = true) (hw : (s.task n).waits = false) :
    exec (.digest a n missed noImage cycle value) s = .next ((s.heard a).deliver (fun s =>
      ({ s with ban := { s.ban with peer := s.ban.peer ++ [{
        task := n, flags := b2n missed + (if s.taskStrict n then digStrict else 0) + 4 * b2n noImage
        cycle, value := value.toNat }] } } : State).compare n)) := by
  refine congrArg Host.Outcome.next ((arrive_of_hears h _).trans (deliver_congr ?_))
  have hlogs' : ¬(s.heard a).logs = true := by rw [heard_logs (inOrder_of_hears h), hlogs]; decide
  have hcomp' : ¬(!(s.heard a).compares) = true := by rw [heard_compares, hcomp]; decide
  have hw' : ¬((s.heard a).task n).waits = true := by rw [heard_task, hw]; decide
  exact (if_neg hlogs').trans ((if_neg hcomp').trans (if_neg hw'))

theorem exec_digestMissing (s : State) (n : Fin 16) (hcomp : s.compares = true)
    (h : (s.task n).waits = true ∨ s.ban.own.any (fun d => d.task == n.val) = true) :
    exec (.digestMissing n) s = .next (({ s with frc := max s.frc (s.nextStart n) } : State).digestMissing n) :=
  if_pos ⟨hcomp, h⟩

/-- A commit that is made waits no longer. -/
theorem commitNow_waits (s : State) (t : Nat) : ((s.commitNow t).task t).waits = false := by
  have hgrant : ∀ (u : State) (next : Nat), (u.rndGrant t next).scn = u.scn := fun u next =>
    State.rndGrant_frame (F := fun p => p != .scn) u t next rfl (fr_self _ u) .scn rfl
  have hdone : ∀ u : State, ((u.commitDone t).task t).waits = false := fun u => by
    rw [State.commitDone, State.task, hgrant, ← State.task, task_setTask_self]
  exact hdone _

theorem commitNow_frc (s : State) (t : Nat) : (s.commitNow t).frc = s.frc :=
  State.commitNow_frame (F := fun p => p != .frc) s t rfl (fr_self _ s) .frc rfl

/-- A strict task's commit that waits for a digest is made 20 µs after its commit point. -/
theorem strictDigestTimeout_commits (s : State) (n : Fin 16) (hstrict : s.taskStrict n = true)
    (hw : (s.task n).waits = true) (hl : (s.task n).late = false) :
    Nexts (exec (.strictDigestTimeout n) s)
      (fun t => (t.task n).waits = false ∧ max s.frc (s.commitPoint n + 20000) ≤ t.frc) := by
  have hlate : (!(s.task n).late) = true := by rw [hl]; rfl
  refine ⟨_, congrArg Host.Outcome.next (if_pos ⟨hstrict, hw, hlate⟩), commitNow_waits _ _, le_of_eq ?_⟩
  rw [commitNow_frc, post_frc]
  rfl

/-! ### A frame that is missing (R193) -/

/-- A standby that lacks a frame that it needs is COLD from the instant at which it needs it. -/
theorem missingFrame_demotes (s : State) (type : Byte) (at_ : Nat) (hr : s.power.running = true)
    (hf : s.follows = true) (hho : s.ban.ho = none) (hn : s.neededBy type.toNat = some at_) :
    Nexts (exec (.missingFrameDemote type) s) (fun t =>
      t = ({ s with frc := max s.frc at_ } : State).demote 2 type.toNat ∧ t.role = roleCold) := by
  have hx : exec (.missingFrameDemote type) s =
      .next (({ s with frc := max s.frc at_ } : State).demote 2 type.toNat) := by
    refine (if_pos ⟨hr, hf, by rw [hho]; rfl⟩).trans ?_
    rw [hn]
  rw [hx, nexts_next]
  exact ⟨rfl, role_demote _ _ _⟩

/-! ### Faults (R207) -/

/-- On an active module a fault begins a handover. -/
theorem faultTrigger_active {s : State} {trigger : Nat} (hr : s.power.running = true) (hrole : s.role = roleActive)
    (hho : s.ban.ho = none) (ht : trigger < 2 ^ 8) :
    Nexts (.next (s.faultTrigger trigger)) (fun t =>
      t = s.handover trigger ∧ t.on Reg.BAN_STAT_HANDOVER = true ∧ t.rd Reg.BAN_HO_TRIGGER = trigger) := by
  have hgo : s.faultTrigger trigger = s.handover trigger :=
    (if_neg (by simp [hr])).trans (if_pos ⟨hrole, by rw [hho]; rfl⟩)
  rw [nexts_next, hgo]
  exact ⟨rfl, handover_shows s ht⟩

theorem uncorrectableEcc_hands_over (s : State) (hr : s.power.running = true) (hrole : s.role = roleActive)
    (hho : s.ban.ho = none) :
    Nexts (exec .uncorrectableEcc s) (fun t =>
      t = s.handover 3 ∧ t.on Reg.BAN_STAT_HANDOVER = true ∧ t.rd Reg.BAN_HO_TRIGGER = 3) :=
  faultTrigger_active hr hrole hho (by decide)

theorem lockstepMismatch_hands_over (s : State) (hr : s.power.running = true) (hrole : s.role = roleActive)
    (hho : s.ban.ho = none) :
    Nexts (exec .lockstepMismatch s) (fun t =>
      t = s.handover 2 ∧ t.on Reg.BAN_STAT_HANDOVER = true ∧ t.rd Reg.BAN_HO_TRIGGER = 2) :=
  faultTrigger_active hr hrole hho (by decide)

theorem watchdogExpiry_hands_over (s : State) (hr : s.power.running = true) (hrole : s.role = roleActive)
    (hho : s.ban.ho = none) :
    Nexts (exec .watchdogExpiry s) (fun t =>
      t = s.handover 4 ∧ t.on Reg.BAN_STAT_HANDOVER = true ∧ t.rd Reg.BAN_HO_TRIGGER = 4) :=
  faultTrigger_active hr hrole hho (by decide)

/-- On a standby it fails the module. -/
theorem uncorrectableEcc_fails (s : State) (hr : s.power.running = true) (hrole : s.role = roleStandby)
    (hho : s.ban.ho = none) :
    Nexts (exec .uncorrectableEcc s) (fun t => t = s.fail 3 ∧ t.role = roleFailed) := by
  have hgo : s.faultTrigger 3 = s.fail 3 := by
    unfold State.faultTrigger
    rw [if_neg (by simp [hr]), if_neg (by simp [hrole, roleActive, roleStandby]), if_pos (by simp [hrole, hho])]
  have hx : exec .uncorrectableEcc s = .next (s.fail 3) := congrArg Host.Outcome.next hgo
  rw [hx, nexts_next]
  exact ⟨rfl, role_fail s 3⟩

/-! ### Readback mismatches (R211, R308, R326) -/

namespace KeepsReg
variable {a : Nat} {s t : State}

/-- A join that ends shows in its own registers, and may halt the tasks. -/
theorem joinAbort (h : KeepsReg a s t) (hlo : 0x2000070000 ≤ a) (ha : a < 0x2000120000) (hj : a ≠ Reg.BAN_JOIN_STAT.addr) :
    KeepsReg a s t.joinAbort := by
  unfold State.joinAbort State.joinEnd
  split
  · exact h
  · extract_lets u v w
    have hu : KeepsReg a s u := h.post _ _ _ _ _ ha
    clear_value u
    split_ifs
    · have hshown := ((hu.banSend 0x41 (leBytes 1 0x09 ++ List.replicate 15 0)).wr (g := ⟨0x2000070200, 24, 8⟩) 0x09 hj).wr
        (g := ⟨0x2000070200, 0, 4⟩) 7 hj
      exact hshown.of_eq rfl
    · have hshown := (hu.wr (g := ⟨0x2000070200, 24, 8⟩) 0x09 hj).wr (g := ⟨0x2000070200, 0, 4⟩) 7 hj
      refine KeepsReg.scnHalt (t := { (u.wr _ _).wr _ _ with ban := _ }) ?_ hlo ha
      exact hshown.of_eq rfl

theorem mirror (h : KeepsReg a s t) (m : Master) (b v : Nat) : KeepsReg a s (t.mirror m b v) :=
  h.of_eq (mirror_regs t m b v)

theorem rbMirror (h : KeepsReg a s t) : KeepsReg a s t.rbMirror := (h.mirror _ _ _).mirror _ _ _

/-- A readback mismatch leaves the registers of the islands. -/
theorem readbackTrigger (h : KeepsReg a s t) (n : Nat) (hlo : 0x20000A0000 ≤ a) (ha : a < 0x2000110000) :
    KeepsReg a s (t.readbackTrigger n) := by
  have hban : ∀ f : Fld, f.addr < 0x2000080000 → a ≠ f.addr := fun f hf => by omega
  unfold State.readbackTrigger
  split_ifs
  · exact h.post _ _ _ _ _ (by omega)
  · have hblock : KeepsReg a s (t.setRbBlock n true) := h.wr64 _ (hban _ (by decide)) (hban _ (by decide))
    exact hblock.rbMirror.handover 5 (by omega) ha (hban _ (by decide)) (hban _ (by decide)) (hban _ (by decide))
  · exact (h.joinAbort (by omega) (by omega) (hban _ (by decide))).wr _ (hban _ (by decide))
  · exact h

end KeepsReg

/-- The flags of a channel's status leave what its analogue status shows. -/
theorem aoFlags_keepsReg (s : State) (k c : Fin 8) : KeepsReg (Reg.ISL_AN_STAT k c).addr s (s.aoFlags k c) := by
  unfold State.aoFlags
  extract_lets
  split_ifs
  · exact .self
  all_goals
    refine (KeepsReg.self.wr _ ?_).wr _ ?_
    all_goals
      simp only [Reg.ISL_AN_STAT, Reg.ISL_CH_STAT_FLAGS, Reg.ISL_CH_STAT_QUAL]
      omega

theorem exec_doReadbackMismatch (s : State) (k c : Fin 8) (since_ : Nat) (hc : s.inControl = true)
    (hm : (s.island k).doMismatch c = true) (hat : ((s.island k).chan c).misAt = some since_)
    (htold : ((s.island k).chan c).misTold = false) :
    exec (.doReadbackMismatch k c) s = .next ((((s.waitTo (since_ + 2000000)).setCh k c
      { (s.island k).chan c with misTold := true }).post (islSource k) 0x0B0B c.val (b2n ((s.island k).eff c))
      (b2n ((s.island k).chan c).raw)).readbackTrigger (8 * k.val + c.val)) := by
  have hnew : (!((s.island k).chan c).misTold) = true := by rw [htold]; rfl
  show execDoReadbackMismatch k c s = _
  unfold execDoReadbackMismatch
  simp only [hat]
  exact if_pos ⟨hc, hm, hnew⟩

theorem aoReadbackMismatch_shows (s : State) (k c : Fin 8) (since_ : Nat) (hc : s.inControl = true)
    (hm : (s.island k).aoMismatch c = true) (hat : ((s.island k).chan c).misAt = some since_)
    (hnew : s.on (Reg.ISL_AN_STAT_READBACK k c) = false) :
    Nexts (exec (.aoReadbackMismatch k c) s) (fun t =>
      t = (((((s.waitTo (since_ + 20000000)).wr (Reg.ISL_AN_STAT_READBACK k c) 1).aoFlags k c).post (islSource k) 0x0B0B
        c.val ((s.island k).aoTarget c / 1000) (((s.island k).chan c).cur / 1000)).readbackTrigger (8 * k.val + c.val)) ∧
      t.on (Reg.ISL_AN_STAT_READBACK k c) = true) := by
  have hx : exec (.aoReadbackMismatch k c) s = .next (((((s.waitTo (since_ + 20000000)).wr
      (Reg.ISL_AN_STAT_READBACK k c) 1).aoFlags k c).post (islSource k) 0x0B0B c.val ((s.island k).aoTarget c / 1000)
      (((s.island k).chan c).cur / 1000)).readbackTrigger (8 * k.val + c.val)) := by
    show execAoReadbackMismatch k c s = _
    unfold execAoReadbackMismatch
    simp only [hat]
    exact if_neg (by simp [hc, hm, hnew])
  have hlo : 0x20000A0000 ≤ (Reg.ISL_AN_STAT k c).addr := by simp only [Reg.ISL_AN_STAT]; omega
  have hhi : (Reg.ISL_AN_STAT k c).addr < 0x2000110000 := by simp only [Reg.ISL_AN_STAT]; omega
  have hkept := ((aoFlags_keepsReg ((s.waitTo (since_ + 20000000)).wr (Reg.ISL_AN_STAT_READBACK k c) 1) k c).post
    (islSource k) 0x0B0B c.val ((s.island k).aoTarget c / 1000) (((s.island k).chan c).cur / 1000) (by omega)
    ).readbackTrigger (8 * k.val + c.val) hlo hhi
  rw [hx, nexts_next]
  refine ⟨rfl, (hkept.on (f := Reg.ISL_AN_STAT_READBACK k c)).trans ?_⟩
  rw [on_wr_self _ _ _ (Nat.le_of_ble_eq_true rfl)]
  rfl

end Sys2Proof.Machine
end

section
/-!
The inquiry (R208, R209): a result that comes is held, and with both the outcome is shown, whatever its consequence.
-/
namespace Sys2Proof.Machine

/-! ### What a change of role leaves of the Banister's own part (R206) -/

theorem foldl_ban {α : Type} (l : List α) {f : State → α → State} (hf : ∀ t x, (f t x).ban = t.ban) (s : State) :
    (l.foldl f s).ban = s.ban :=
  List.foldlRecOn (motive := fun t => t.ban = s.ban) l f rfl fun t ht x _ => (hf t x).trans ht

theorem rioRole_ban (s : State) (l : Nat) : (s.rioRole l).ban = s.ban :=
  State.rioRole_frame (F := fun p => p != .ban) s l rfl (fr_self _ s) .ban rfl

theorem canAtK_ban (s : State) (c : Nat) : (s.canAtK c).ban = s.ban :=
  State.canAtK_frame (F := fun p => p != .ban) s c rfl (fr_self _ s) .ban rfl

theorem canToMonitor_ban (s : State) (c : Nat) : (s.canToMonitor c).ban = s.ban :=
  State.canToMonitor_frame (F := fun p => p != .ban) s c rfl (fr_self _ s) .ban rfl

theorem rndRole_ban (s : State) : s.rndRole.ban = s.ban :=
  State.rndRole_frame (F := fun p => p != .ban) s rfl (fr_self _ s) .ban rfl

theorem scnHalt_ban (s : State) : s.scnHalt.ban = s.ban :=
  State.scnHalt_frame (F := fun p => p != .ban) s rfl (fr_self _ s) .ban rfl

/-- A role that changes moves the count of BAN_LATENT and what a failed join has left. -/
theorem setRole_ban (s : State) (r : Nat) : ∃ latAt latFrac latDone joinDig lastFail stuck,
    (s.setRole r).ban = { s.ban with latAt, latFrac, latDone, joinDig, lastFail, stuck } := by
  unfold State.setRole
  extract_lets was s1 s2 s3 s4 s5 b5 s6 b6 s7 x7 s8
  have h1 : s1.ban = { s.ban with latAt := s1.ban.latAt, latFrac := s1.ban.latFrac } := rfl
  have h4 : s4.ban = s1.ban := (foldl_ban _ rioRole_ban s3).trans (foldl_ban _ (f := fun s p => s.serDriver p) (fun _ _ => rfl) s2)
  have h5 : s5.ban = s4.ban := by
    simp only [s5]
    split_ifs
    · refine foldl_ban _ (fun t c => ?_) s4
      split_ifs
      · exact canAtK_ban t c
      · exact canToMonitor_ban t c
    · rfl
  have h6 : s6.ban = { s5.ban with latDone := s6.ban.latDone, latFrac := s6.ban.latFrac } := by
    simp only [s6]
    split_ifs <;> rfl
  have h7 : s7.ban = { s6.ban with joinDig := s7.ban.joinDig, lastFail := s7.ban.lastFail, stuck := s7.ban.stuck } := by
    simp only [s7]
    split_ifs <;> rfl
  have h8 : s8.ban = s7.ban := by
    simp only [s8]
    split_ifs <;> rfl
  clear_value s1 s4 s5 s6 s7 s8
  rw [rndRole_ban, h8, h7, h6, h5, h4, h1]
  exact ⟨_, _, _, _, _, _, rfl⟩

theorem setRole_inquiry (s : State) (r : Nat) : (s.setRole r).ban.inquiry = s.ban.inquiry := by
  obtain ⟨_, _, _, _, _, _, h⟩ := setRole_ban s r
  rw [h]

theorem banAsk_inquiry (s : State) (type : Nat) (p : List Byte) : (s.banAsk type p).ban.inquiry = s.ban.inquiry := by
  obtain ⟨tx, n, at_, hs, h⟩ := banAsk_eq s type p
  rw [h]

theorem banSend_inquiry (s : State) (type : Nat) (p : List Byte) : (s.banSend type p).ban.inquiry = s.ban.inquiry := by
  obtain ⟨tx, n, at_, h⟩ := banSend_eq s type p
  rw [h]

/-- To roll the queues back moves the receptions kept and the completions noted. -/
theorem rollBack_ban (s : State) (limit : Nat → Nat) (keep : Bool) : ∃ rolled held,
    (s.rollBack limit keep).ban = { s.ban with rolled, held } := by
  refine List.foldlRecOn (motive := fun t : State => ∃ rolled held, t.ban = { s.ban with rolled, held }) _ _
    ⟨s.ban.rolled, s.ban.held, rfl⟩ fun t ht q _ => ?_
  obtain ⟨rolled, held, ht⟩ := ht
  dsimp only
  split_ifs
  · exact ⟨_, _, by rw [wr_ban, ht]⟩
  · exact ⟨_, _, by rw [wr_ban, ht]⟩
  · exact ⟨rolled, held, ht⟩

theorem setTask_ban (s : State) (n : Nat) (x : ScanTask) : (s.setTask n x).ban = s.ban := rfl

/-- A notice ends an inquiry. -/
theorem handover_inquiry (s : State) (trigger : Nat) : (s.handover trigger).ban.inquiry = none := by
  unfold State.handover
  extract_lets before s1 s2 s3 s4 s5 s6 c6 s7 b7 s8
  have h2 : s2.ban.inquiry = none := congrArg Ban.inquiry (post_ban s1 _ _ _ _ _)
  have h4 : s4.ban.inquiry = none := by
    simp only [s4, s3, bump_ban, wr_ban]
    exact h2
  clear_value s4
  have h5 : s5.ban.inquiry = none := (banAsk_inquiry s4 _ _).trans h4
  clear_value s5
  have h6 : s6.ban = s5.ban := by
    simp only [s6]
    exact foldl_ban _ (fun t n => setTask_ban t n _) s5
  have h8 : s8.ban.inquiry = none := (congrArg Ban.inquiry h6).trans h5
  clear_value s8
  obtain ⟨rolled, held, h⟩ := rollBack_ban s8 (fun q => s8.queRi q) (staysInStep trigger)
  show (s8.rollBack _ _).ban.inquiry = none
  rw [h]
  exact h8

/-! ### Commits, as the Banister's registers and its own part meet them (R112, R209) -/

theorem commitSafe_ban (s : State) (t : Nat) : (s.commitSafe t).ban = s.ban :=
  State.commitSafe_frame (F := fun p => p != .ban) s t rfl (fr_self _ s) .ban rfl

namespace KeepsReg
variable {a : Nat} {s t : State}

theorem setIsland (h : KeepsReg a s t) (k : Nat) (x : Island) (ha : a < 0x2000140000) : KeepsReg a s (t.setIsland k x) := by
  unfold State.setIsland
  extract_lets old y
  have hwear : KeepsReg a s ((List.range 8).foldl
      (fun s c => s.wearSwitch (8 * k + c) ((old.chan c).closed) ((y.chan c).closed)) t) := by
    refine foldl (fun c _ u hu => ?_) h
    unfold State.wearSwitch
    split_ifs
    · exact hu.wr64 _ (by simp only [Reg.WR_Q_LO]; omega) (by simp only [Reg.WR_Q_HI]; omega)
    · exact (hu.wr64 _ (by simp only [Reg.WR_Q_LO]; omega) (by simp only [Reg.WR_Q_HI]; omega)).of_eq (useFree_regs _)
    · exact hu
  exact hwear.of_eq rfl

theorem setCh (h : KeepsReg a s t) (k c : Nat) (x : IslChan) (ha : a < 0x2000140000) : KeepsReg a s (t.setCh k c x) :=
  h.setIsland k _ ha

theorem ite {c : Prop} [Decidable c] (ht : KeepsReg a s t) {u : State} (hu : KeepsReg a s u) :
    KeepsReg a s (if c then t else u) := by
  split <;> assumption

theorem setOut (h : KeepsReg a s t) (k c v : Nat) (ha : a < 0x20000A0000) : KeepsReg a s (t.setOut k c v) := by
  unfold State.setOut
  extract_lets x u w floor
  have hu : KeepsReg a s u := h.setCh k c _ (by omega)
  clear_value u
  refine ite ?_ hu
  exact (hu.wr _ (by simp only [Reg.ISL_AN_STAT_FLOOR]; omega)).wr _ (by simp only [Reg.ISL_AN_STAT_CLAMPED]; omega)

theorem commitChan (h : KeepsReg a s t) (safe : Bool) (img : List Byte) (n : Nat) (ha : a < 0x20000A0000) :
    KeepsReg a s (t.commitChan safe img n) := by
  have hset : ∀ k c v, KeepsReg a s (t.setOut k c v) := fun k c v => h.setOut k c v ha
  unfold State.commitChan
  extract_lets k c
  refine ite h ?_
  split
  · exact hset _ _ _
  · exact ite h (ite (hset _ _ _) (ite h (hset _ _ _)))

theorem axCommit (h : KeepsReg a s t) (n : Nat) (safe : Bool) (img : List Byte) (hlo : 0x2000070000 ≤ a) :
    KeepsReg a s (t.axCommit n safe img) :=
  foldl (fun _ _ _ hu => ite ((hu.of_eq (setAxis_regs _ _ _)).wake _ hlo) hu) h

theorem rioUnreturned (h : KeepsReg a s t) (l : Nat) (w : Option Nat) (ha : a < 0x20000F0000) :
    KeepsReg a s (t.rioUnreturned l w) :=
  ite (h.wr _ (by simp only [Reg.RIO_CNT_BAD]; omega)) h

theorem rioOutput (h : KeepsReg a s t) (l : Nat) (safe : Bool) (data : Nat → List Byte) (ha : a < 0x20000F0000) :
    KeepsReg a s (t.rioOutput l safe data) := by
  unfold State.rioOutput
  refine ite ?_ h
  extract_lets u v
  have hv : KeepsReg a s v := (h.rioUnreturned _ _ ha).rioUnreturned _ _ ha
  clear_value v
  exact hv.of_eq rfl

/-- A commit writes registers of the islands and of the units beyond them. -/
theorem commitOut (h : KeepsReg a s t) (n : Nat) (hlo : 0x2000070000 ≤ a) (ha : a < 0x20000A0000) :
    KeepsReg a s (t.commitOut n) := by
  have hcan : ∀ u : State, (u.canCommit n).regs = u.regs := fun u =>
    State.canCommit_frame (F := fun p => p != .regs) u n rfl (fr_self _ u) .regs rfl
  have hloop : ∀ (u : State) (safe : Bool) (img : List Byte), (u.loopTake n safe img).regs = u.regs := fun u _ _ =>
    State.loopTake_frame (F := fun p => p != .regs) u n _ _ rfl (fr_self _ u) .regs rfl
  unfold State.commitOut
  extract_lets x img s1 s2 s3 s4
  have h1 : KeepsReg a s s1 := foldl (fun m _ u hu => hu.commitChan _ _ _ ha) h
  have h2 : KeepsReg a s s2 := h1.of_eq (hloop _ _ _)
  have h3 : KeepsReg a s s3 := h2.axCommit _ _ _ hlo
  have h4 : KeepsReg a s s4 := foldl (fun l _ u hu => hu.rioOutput _ _ _ (by omega)) h3
  exact h4.of_eq (hcan _)

theorem commitSafe (h : KeepsReg a s t) (n : Nat) (hlo : 0x2000070000 ≤ a) (ha : a < 0x20000A0000) :
    KeepsReg a s (t.commitSafe n) :=
  (h.of_eq (u := (t.setTask n { t.task n with safe := true }).forceVars n) rfl).commitOut n hlo ha

end KeepsReg

/-! ### An inquiry decided (R209) -/

/-- The outcome of both results. -/
def inquiryOutcome (own : Nat) (peer : Option Nat) : Nat :=
  if (own != 0 && peer != some 0) = true then 4 else if (peer != some 0) = true then 3 else if (own != 0) = true then 2 else 1

/-- The outcome as BAN_INQ shows it. -/
def State.inquiryShown (s : State) (q : Inquiry) (own : Nat) (peer : Option Nat) : State :=
  let s := (s.wr Reg.BAN_INQ_OUTCOME (inquiryOutcome own peer)).wr Reg.BAN_INQ_OWN_FAIL own
  (s.wr Reg.BAN_INQ_PEER_FAIL (peer.getD 0)).wr Reg.BAN_INQ_DURATION (min ((s.frc - q.at_) / 1000) 0xFFFF)

theorem rd_inquiryShown_outcome (s : State) (q : Inquiry) (own : Nat) (peer : Option Nat) :
    (s.inquiryShown q own peer).rd Reg.BAN_INQ_OUTCOME = inquiryOutcome own peer := by
  have hlt : inquiryOutcome own peer < 2 ^ 4 := by
    unfold inquiryOutcome
    split_ifs <;> decide
  rw [State.inquiryShown, rd_wr_bits _ _ _ _ (by decide) (by decide), rd_wr_bits _ _ _ _ (by decide) (by decide),
    rd_wr_bits _ _ _ _ (by decide) (by decide), rd_wr_self _ _ _ (by decide)]
  exact Nat.mod_eq_of_lt hlt

theorem rd_inquiryShown_own (s : State) (q : Inquiry) {own : Nat} (peer : Option Nat) (h : own < 2 ^ 5) :
    (s.inquiryShown q own peer).rd Reg.BAN_INQ_OWN_FAIL = own := by
  rw [State.inquiryShown, rd_wr_bits _ _ _ _ (by decide) (by decide), rd_wr_bits _ _ _ _ (by decide) (by decide),
    rd_wr_self _ _ _ (by decide)]
  exact Nat.mod_eq_of_lt h

/-- No inquiry is under way, and BAN_INQ shows what it showed in `z`. -/
def InquiryEnded (z t : State) : Prop := t.ban.inquiry = none ∧ KeepsReg Reg.BAN_INQ.addr z t

namespace InquiryEnded
variable {z t : State}

theorem post (h : InquiryEnded z t) (source code p1 p2 p3 : Nat) : InquiryEnded z (t.post source code p1 p2 p3) :=
  ⟨by rw [post_ban, h.1], h.2.post _ _ _ _ _ (by decide)⟩

theorem wr (h : InquiryEnded z t) {g : Fld} (v : Nat) (hg : Reg.BAN_INQ.addr ≠ g.addr) : InquiryEnded z (t.wr g v) :=
  ⟨by rw [wr_ban, h.1], h.2.wr v hg⟩

theorem setRole (h : InquiryEnded z t) (r : Nat) : InquiryEnded z (t.setRole r) :=
  ⟨by rw [setRole_inquiry, h.1], h.2.setRole_of_ne r (by decide) (by decide)⟩

theorem sendRole (h : InquiryEnded z t) : InquiryEnded z t.sendRole :=
  ⟨by rw [State.sendRole, banAsk_inquiry, h.1], h.2.sendRole⟩

theorem scnHalt (h : InquiryEnded z t) : InquiryEnded z t.scnHalt :=
  ⟨by rw [scnHalt_ban, h.1], h.2.scnHalt (by decide) (by decide)⟩

/-- An inquiry that ends leaves BAN_INQ. -/
theorem of_over (h : KeepsReg Reg.BAN_INQ.addr z t) : InquiryEnded z t.inquiryOver :=
  ⟨rfl, h.inquiryOver (by decide) (by decide)⟩

theorem pairOver (h : InquiryEnded z t) : InquiryEnded z t.pairOver := ⟨h.1, h.2.pairOver⟩

theorem alone (h : InquiryEnded z t) : InquiryEnded z t.alone := by
  unfold State.alone
  split_ifs
  · exact (of_over h.2).pairOver.setRole _
  · exact h

theorem demote (h : InquiryEnded z t) (cause p2 : Nat) : InquiryEnded z (t.demote cause p2) :=
  ((((of_over h.2).pairOver.setRole _).scnHalt).post _ _ _ _ _).sendRole

theorem fail (h : InquiryEnded z t) (trigger : Nat) : InquiryEnded z (t.fail trigger) :=
  ((((of_over h.2).pairOver.setRole _).scnHalt).post _ _ _ _ _).sendRole

theorem handover (h : InquiryEnded z t) (trigger : Nat) : InquiryEnded z (t.handover trigger) := by
  refine ⟨?_, h.2.handover trigger (by decide) (by decide) (by decide) (by decide) (by decide)⟩
  rw [handover_inquiry]

theorem commitSafe (h : InquiryEnded z t) (n : Nat) : InquiryEnded z (t.commitSafe n) :=
  ⟨by rw [commitSafe_ban, h.1], h.2.commitSafe n (by decide) (by decide)⟩

end InquiryEnded

/-- Every task of the plan is one of the sixteen. -/
theorem mem_tasksByPrio {s : State} {t : Nat} (h : t ∈ s.tasksByPrio) : t < 16 := by
  have hins : ∀ (key : Nat → Nat) (n : Nat) (l : List Nat), ∀ m ∈ insertBy key n l, m = n ∨ m ∈ l := by
    intro key n l
    induction l with
    | nil => simp [insertBy]
    | cons x l ih =>
      intro m hm
      rw [insertBy] at hm
      split at hm
      · simpa using hm
      · rcases List.mem_cons.1 hm with rfl | hm
        · exact .inr List.mem_cons_self
        · exact (ih m hm).imp_right (List.mem_cons_of_mem _)
  refine List.foldlRecOn (motive := fun l : List Nat => ∀ m ∈ l, m < 16) _ _ (by simp) (fun l hl n hn m hm => ?_) t h
  rcases hins _ _ _ m hm with rfl | hm
  · exact List.mem_range.1 (List.mem_of_mem_filter hn)
  · exact hl m hm

/-- A decision ends the inquiry, and leaves what it has shown. -/
theorem inquiryDecide_ends (s : State) (q : Inquiry) (own : Nat) (peer : Option Nat) :
    InquiryEnded (s.inquiryShown q own peer) (s.inquiryDecide q own peer) := by
  unfold State.inquiryDecide
  extract_lets ownBad peerBad outcome pm s1 s2 s3 active old s4 s5
  have hshown : s2 = s.inquiryShown q own peer := rfl
  have h3 : InquiryEnded (s.inquiryShown q own peer) s3 := by
    rw [← hshown]
    exact (InquiryEnded.of_over .self).post _ _ _ _ _
  clear_value s3
  have hpeer : ∀ r, InquiryEnded (s.inquiryShown q own peer) (s3.setPeerRole r) := fun r => h3.wr r (by decide)
  split_ifs
  · exact (hpeer _).alone
  · exact h3.demote _ _
  · exact h3.handover _
  · exact h3.fail _
  · exact (hpeer _).alone
  · exact h3
  · have h4 : InquiryEnded (s.inquiryShown q own peer) s4 := by
      refine List.foldlRecOn _ _ h3 fun u hu t ht => ?_
      have hlt := mem_tasksByPrio (List.mem_of_mem_filter ht)
      exact (hu.commitSafe t).wr _ (by simp only [Reg.BAN_INQ, Reg.SCN_TASK_STAT_STATE]; omega)
    have h5 : InquiryEnded (s.inquiryShown q own peer) s5 := (h4.wr _ (by decide)).post _ _ _ _ _
    exact ((h5.post _ _ _ _ _).wr _ (by decide)).alone
  · exact h3.fail _

/-! ### Results (R208) -/

theorem inquiryTake_peer {s : State} {q : Inquiry} (hq : s.ban.inquiry = some q) (ho : q.own = none) (failed : Nat) :
    s.inquiryTake true failed = { s with ban := { s.ban with inquiry := some { q with peer := some (some failed) } } } := by
  rw [State.inquiryTake, hq]
  simp [ho]

/-- The peer's result is held while the module's own is not there. -/
theorem inquiryResult_peer (s : State) (a : Arrival) (q : Inquiry) (failed : BitVec 5) (h : s.hears a = true)
    (hj : s.ban.join = none) (hearly : s.ban.early = []) (hq : s.ban.inquiry = some q) (ho : q.own = none) :
    Nexts (exec (.inquiryResult (some a) failed) s)
      (fun t => t.ban.inquiry = some { q with peer := some (some failed.toNat) }) := by
  have hord := inOrder_of_hears h
  have hq' : (s.heard a).ban.inquiry = some q := by rw [heard_of_inOrder hord, hq]
  exact nexts_arrive (arrive_of_hears h _) (inquiryTake_peer hq' ho failed.toNat) ((heard_join hord).trans hj)
    ((heard_early hord).trans hearly) rfl

theorem exec_inquiryResult_own {s : State} (hr : s.power.running = true) (failed : BitVec 5) :
    exec (.inquiryResult none failed) s = .next (s.inquiryTake false failed.toNat) := if_pos hr

/-- The module's own result as it goes out and is held. -/
def State.ownHeld (s : State) (q : Inquiry) (failed : Nat) : State :=
  let u := s.banSend 0x30 (leBytes 1 (b2n (failed != 0)) ++ leBytes 1 failed)
  { u with ban := { u.ban with inquiry := some { q with own := some failed } } }

theorem inquiryTake_own {s : State} {q : Inquiry} (hq : s.ban.inquiry = some q) (hp : q.peer = none) (failed : Nat) :
    s.inquiryTake false failed = s.ownHeld q failed := by
  rw [State.inquiryTake, hq]
  simp [hp, State.ownHeld]

theorem inquiryTake_both {s : State} {q : Inquiry} {p : Option Nat} (hq : s.ban.inquiry = some q)
    (hp : q.peer = some p) (failed : Nat) :
    s.inquiryTake false failed = (s.ownHeld q failed).inquiryDecide { q with own := some failed } failed p := by
  rw [State.inquiryTake, hq]
  simp [hp, State.ownHeld]

theorem inquiryResult_own (s : State) (q : Inquiry) (failed : BitVec 5) (hr : s.power.running = true)
    (hq : s.ban.inquiry = some q) (hp : q.peer = none) :
    Nexts (exec (.inquiryResult none failed) s) (fun t => t.ban.inquiry = some { q with own := some failed.toNat }) := by
  rw [exec_inquiryResult_own hr, inquiryTake_own hq hp, nexts_next]
  rfl

theorem inquiryOutcome_bits (failed : BitVec 5) (p : Option Nat) : inquiryOutcome failed.toNat p =
    if failed ≠ 0 ∧ p ≠ some 0 then 4 else if p ≠ some 0 then 3 else if failed ≠ 0 then 2 else 1 := by
  have hzero : failed.toNat ≠ 0 ↔ failed ≠ 0 := (BitVec.toNat_ne_iff_ne (y := 0))
  simp only [inquiryOutcome, Bool.and_eq_true, bne_iff_ne, hzero]

/-- With both results the outcome is decided, and shown. -/
theorem inquiryResult_decides (s : State) (q : Inquiry) (p : Option Nat) (failed : BitVec 5)
    (hr : s.power.running = true) (hq : s.ban.inquiry = some q) (hp : q.peer = some p) :
    Nexts (exec (.inquiryResult none failed) s) (fun t => t.ban.inquiry = none ∧
      t.rd Reg.BAN_INQ_OWN_FAIL = failed.toNat ∧ t.rd Reg.BAN_INQ_OUTCOME =
        (if failed ≠ 0 ∧ p ≠ some 0 then 4 else if p ≠ some 0 then 3 else if failed ≠ 0 then 2 else 1)) := by
  obtain ⟨hnone, hkept⟩ := inquiryDecide_ends (s.ownHeld q failed.toNat) { q with own := some failed.toNat } failed.toNat p
  rw [exec_inquiryResult_own hr, inquiryTake_both hq hp, nexts_next]
  refine ⟨hnone, ?_, ?_⟩
  · rw [hkept.rd (f := Reg.BAN_INQ_OWN_FAIL), rd_inquiryShown_own _ _ _ failed.isLt]
  · rw [hkept.rd (f := Reg.BAN_INQ_OUTCOME), rd_inquiryShown_outcome, inquiryOutcome_bits]

/-- A peer's result that has not come 3.05 ms after the start is missing. -/
theorem inquiryTimeout_missing (s : State) (q : Inquiry) (hq : s.ban.inquiry = some q) (hp : q.peer = none)
    (ho : q.own = none) :
    Nexts (exec .inquiryTimeout s) (fun t => t.ban.inquiry = some { q with peer := some none } ∧
      t.frc = max s.frc (q.at_ + 3050000)) := by
  have hx : exec .inquiryTimeout s = .next { s with
      frc := max s.frc (q.at_ + 3050000), ban := { s.ban with inquiry := some { q with peer := some none } } } := by
    show execInquiryTimeout s = _
    rw [execInquiryTimeout, hq]
    simp [hp, ho]
  rw [hx, nexts_next]
  exact ⟨rfl, rfl⟩

end Sys2Proof.Machine
end

section
open Sys2Proof Sys2Proof.Machine

/-- Settles O31: each command where what it is for is due (log 12). A decision leaves what it has shown whatever its
consequence, and a readback mismatch its flag through the handover that it begins. How digests are compared is log 173. -/
theorem comparisonCommandsComplete : Obligations.ComparisonCommandsComplete :=
  ⟨exec_digest, exec_digestMissing, strictDigestTimeout_commits, missingFrame_demotes, inquiryResult_peer,
    inquiryResult_own, inquiryResult_decides, inquiryTimeout_missing, uncorrectableEcc_hands_over,
    lockstepMismatch_hands_over, watchdogExpiry_hands_over, uncorrectableEcc_fails, exec_doReadbackMismatch,
    aoReadbackMismatch_shows⟩

end

section
/-!
Operator commands of the Banister, the lanes, the plant heartbeats and the ramps (R207, R211, R214, R218 to R221).
-/
namespace Sys2Proof.Machine

/-! ### BAN_CMD (R207, R211, R221, R516) -/

/-- The Banister has no idle state: an access of BAN_CMD wakes nothing. -/
theorem wakeAt_banCmd (s : State) : s.wakeAt Reg.BAN_CMD.addr = s := rfl

/-- A write of BAN_CMD that its checks allow does what BAN_CMD does. -/
theorem access_banCmd {s : State} {m : Master} (h : s.allows m .w32 true Reg.BAN_CMD.addr) (k : State → State) :
    s.access m .w32 true Reg.BAN_CMD.addr k = k (s.answer 0) := by
  rw [access_allows h, wakeAt_banCmd]

/-- A command that is taken shows OK. -/
theorem cmdStat_ok (s : State) :
    (s.cmdStat Reg.BAN_CMD_STAT_STATUS Reg.BAN_CMD_STAT_REASON 0).rd Reg.BAN_CMD_STAT_STATUS = Sta.ok ∧
      (s.cmdStat Reg.BAN_CMD_STAT_STATUS Reg.BAN_CMD_STAT_REASON 0).rd Reg.BAN_CMD_STAT_REASON = 0 := by
  refine ⟨?_, rd_wr_self _ _ _ (by decide)⟩
  rw [State.cmdStat, rd_wr_bits _ _ _ _ (by decide) (by decide), rd_wr_self _ _ _ (by decide)]
  rfl

theorem banCmdWrite_handover {s : State} (hrole : s.role = roleActive) (hp : s.on Reg.SCN_STAT_FORCE_PERMIT = true)
    (hq : s.ban.inquiry = none) (hho : s.ban.ho = none) : s.banCmdWrite 0xA5000001 =
      (s.cmdStat Reg.BAN_CMD_STAT_STATUS Reg.BAN_CMD_STAT_REASON 0).handover 7 := by
  unfold State.banCmdWrite
  simp [bits, hrole, roleSingle, roleAlone, roleActive, hp, hq, hho]

theorem banHandover_begins (s : State) (m : Master) (h : s.allows m .w32 true Reg.BAN_CMD.addr)
    (hrole : s.role = roleActive) (hp : s.on Reg.SCN_STAT_FORCE_PERMIT = true) (hq : s.ban.inquiry = none)
    (hho : s.ban.ho = none) :
    Nexts (exec (.banHandover m) s) (fun t => t.on Reg.BAN_STAT_HANDOVER = true ∧ t.rd Reg.BAN_HO_TRIGGER = 7 ∧
      t.rd Reg.BAN_CMD_STAT_STATUS = Sta.ok ∧ t.rd Reg.BAN_CMD_STAT_REASON = 0) := by
  have hx : exec (.banHandover m) s =
      .next (((s.answer 0).cmdStat Reg.BAN_CMD_STAT_STATUS Reg.BAN_CMD_STAT_REASON 0).handover 7) :=
    congrArg Host.Outcome.next ((access_banCmd h _).trans (banCmdWrite_handover (s := s.answer 0) hrole hp hq hho))
  rw [hx, nexts_next]
  generalize hu : (s.answer 0).cmdStat Reg.BAN_CMD_STAT_STATUS Reg.BAN_CMD_STAT_REASON 0 = u
  obtain ⟨hstatus, hreason⟩ := cmdStat_ok (s.answer 0)
  obtain ⟨hon, htrig⟩ := handover_shows u (trigger := 7) (by decide)
  have hkept : KeepsReg Reg.BAN_CMD_STAT.addr u (u.handover 7) :=
    KeepsReg.self.handover 7 (by decide) (by decide) (by decide) (by decide) (by decide)
  refine ⟨hon, htrig, ?_, ?_⟩
  · rw [hkept.rd (f := Reg.BAN_CMD_STAT_STATUS), ← hu, hstatus]
  · rw [hkept.rd (f := Reg.BAN_CMD_STAT_REASON), ← hu, hreason]

/-- A pair of registers reads what was written to it. -/
theorem rd64_wr64 (s : State) {lo hi : Fld} {v : Nat} (hlo : lo.lo = 0 ∧ lo.width = 32) (hhi : hi.lo = 0 ∧ hi.width = 32)
    (hne : lo.addr ≠ hi.addr) (hv : v < 2 ^ 64) : (s.wr64 lo hi v).rd64 lo hi = v := by
  rw [State.rd64, State.wr64, rd_wr_addr _ _ _ _ hne, rd_wr_self _ _ _ (by omega), rd_wr_self _ _ _ (by omega), hlo.2, hhi.2]
  omega

/-- A bit that is cleared reads 0, and a value grows by no bit that is cleared. -/
theorem putBit_false (v n : Nat) : bitAt (putBit v n false) n = false ∧ putBit v n false ≤ v := by
  refine ⟨?_, Nat.sub_le _ _⟩
  have hput : putBit v n false = v - v / 2 ^ n % 2 * 2 ^ n := by
    rw [putBit, if_neg (by decide), Nat.and_two_pow, Nat.testBit_eq_decide_div_mod_eq]
    rcases Nat.mod_two_eq_zero_or_one (v / 2 ^ n) with h | h <;> simp [h]
  rw [bitAt, hput, Nat.testBit_eq_decide_div_mod_eq, Nat.mul_comm, Nat.sub_mul_div]
  simp only [decide_eq_false_iff_not]
  omega

theorem rd_lt (s : State) (f : Fld) : s.rd f < 2 ^ f.width := Nat.mod_lt _ (Nat.two_pow_pos _)

theorem rbBlock_lt (s : State) : s.rd64 Reg.BAN_RB_BLOCK_LO Reg.BAN_RB_BLOCK_HI < 2 ^ 64 := by
  have hlo : s.rd Reg.BAN_RB_BLOCK_LO < 2 ^ 32 := rd_lt s Reg.BAN_RB_BLOCK_LO
  have hhi : s.rd Reg.BAN_RB_BLOCK_HI < 2 ^ 32 := rd_lt s Reg.BAN_RB_BLOCK_HI
  rw [State.rd64]
  omega

/-- A block that is taken off is off. -/
theorem rbBlocked_setRbBlock (s : State) (n : Nat) : (s.setRbBlock n false).rbBlocked n = false := by
  obtain ⟨hbit, hle⟩ := putBit_false (s.rd64 Reg.BAN_RB_BLOCK_LO Reg.BAN_RB_BLOCK_HI) n
  rw [State.rbBlocked, State.setRbBlock, rd64_wr64 _ (by decide) (by decide) (by decide) (hle.trans_lt (rbBlock_lt s))]
  exact hbit

/-- To tell the blocks to the standby writes no register. -/
theorem rbMirror_rd (s : State) (f : Fld) : s.rbMirror.rd f = s.rd f := KeepsReg.self.rbMirror.rd

theorem rbMirror_rd64 (s : State) (lo hi : Fld) : s.rbMirror.rd64 lo hi = s.rd64 lo hi := by
  rw [State.rd64, rbMirror_rd, rbMirror_rd, State.rd64]

theorem rd_wr64_ne (s : State) (lo hi f : Fld) (v : Nat) (hl : f.addr ≠ lo.addr) (hh : f.addr ≠ hi.addr) :
    (s.wr64 lo hi v).rd f = s.rd f :=
  (KeepsReg.self.wr64 v hl hh).rd

theorem rearmReadback_unblocks (s : State) (m : Master) (k c : Fin 8)
    (h : s.allows m .w32 true Reg.BAN_CMD.addr) :
    Nexts (exec (.rearmReadback m k c) s) (fun t =>
      t.rbBlocked (8 * k.val + c.val) = false ∧ t.rd Reg.BAN_CMD_STAT_STATUS = Sta.ok) := by
  have hwrite : ∀ u : State, u.banCmdWrite (0xA5000002 + 256 * (8 * k.val + c.val)) =
      ((u.cmdStat Reg.BAN_CMD_STAT_STATUS Reg.BAN_CMD_STAT_REASON 0).setRbBlock (8 * k.val + c.val) false).rbMirror := by
    intro u
    have hkey : bits (0xA5000002 + 256 * (8 * k.val + c.val)) 24 8 = 0xA5 := by rw [bits]; omega
    have hchan : bits (0xA5000002 + 256 * (8 * k.val + c.val)) 8 6 = 8 * k.val + c.val := by rw [bits]; omega
    have hcmd : (0xA5000002 + 256 * (8 * k.val + c.val)) % 16 = 2 := by omega
    unfold State.banCmdWrite
    simp [hkey, hchan, hcmd]
  refine ⟨_, congrArg Host.Outcome.next ((access_banCmd h _).trans (hwrite _)), ?_, ?_⟩
  · rw [State.rbBlocked, rbMirror_rd64]
    exact rbBlocked_setRbBlock _ _
  · rw [rbMirror_rd, State.setRbBlock, rd_wr64_ne _ _ _ _ _ (by decide) (by decide)]
    exact (cmdStat_ok _).1

theorem rearmAll_unblocks (s : State) (m : Master) (h : s.allows m .w32 true Reg.BAN_CMD.addr) :
    Nexts (exec (.rearmAll m) s) (fun t =>
      t.rd64 Reg.BAN_RB_BLOCK_LO Reg.BAN_RB_BLOCK_HI = 0 ∧ t.rd Reg.BAN_CMD_STAT_STATUS = Sta.ok) := by
  have hwrite : ∀ u : State, u.banCmdWrite 0xA5000003 = ((u.cmdStat Reg.BAN_CMD_STAT_STATUS Reg.BAN_CMD_STAT_REASON 0).wr64
      Reg.BAN_RB_BLOCK_LO Reg.BAN_RB_BLOCK_HI 0).rbMirror := fun u => by
    unfold State.banCmdWrite
    simp [bits]
  refine ⟨_, congrArg Host.Outcome.next ((access_banCmd h _).trans (hwrite _)), ?_, ?_⟩
  · rw [rbMirror_rd64]
    exact rd64_wr64 _ (by decide) (by decide) (by decide) (by decide)
  · rw [rbMirror_rd, rd_wr64_ne _ _ _ _ _ (by decide) (by decide)]
    exact (cmdStat_ok _).1

theorem exec_forceTakeover (s : State) (m : Master) (h : s.allows m .w32 true Reg.BAN_CMD.addr)
    (hrole : s.role = roleIsolated) (hp : s.on Reg.SCN_STAT_FORCE_PERMIT = true) :
    exec (.forceTakeover m) s = .next
      (((s.answer 0).cmdStat Reg.BAN_CMD_STAT_STATUS Reg.BAN_CMD_STAT_REASON 0).laneTakeover true) := by
  have hrole' : (s.answer 0).role = roleIsolated := hrole
  have hp' : (s.answer 0).on Reg.SCN_STAT_FORCE_PERMIT = true := hp
  refine congrArg Host.Outcome.next ((access_banCmd h _).trans ?_)
  unfold State.banCmdWrite
  simp [bits, hrole', hp', -answer_on]

/-! ### The notice, DRIVING, RELEASED and the ramps (R213, R214) -/

theorem exec_handover (s : State) (a : Arrival) (x : Notice) (h : s.hears a = true) :
    exec (.handover a x) s = .next ((s.heard a).deliver (fun s => s.handoverTake a.seq.toNat x)) :=
  congrArg Host.Outcome.next (arrive_of_hears h _)

theorem drivingTake_old {s : State} {ho : Handover} (hho : s.ban.ho = some ho) (hold : ho.old = true) (offset : Nat) :
    s.drivingTake offset =
      { s with ban := { s.ban with ho := some { ho with ramp := some (s.scn.lastTick.getD 0 + offset) } } } := by
  rw [State.drivingTake, hho]
  exact if_pos hold

/-- The old active module learns S. -/
theorem driving_told (s : State) (a : Arrival) (offset : Nat) (ho : Handover) (h : s.hears a = true)
    (hj : s.ban.join = none) (hearly : s.ban.early = []) (hho : s.ban.ho = some ho) (hold : ho.old = true) :
    Nexts (exec (.driving a offset) s)
      (fun t => t.ban.ho = some { ho with ramp := some (s.scn.lastTick.getD 0 + offset) }) := by
  have hord := inOrder_of_hears h
  have htake := drivingTake_old ((heard_ho s a).trans hho) hold offset
  exact nexts_arrive (arrive_of_hears h _) htake ((heard_join hord).trans hj) ((heard_early hord).trans hearly)
    (by rw [heard_scn])

theorem rampSet_ban (s : State) (r : Option (Nat × Bool)) : (s.rampSet r).ban = s.ban :=
  State.rampSet_frame (F := fun p => p != .ban) s r rfl (fr_self _ s) .ban rfl

theorem rampSet_frc (s : State) (r : Option (Nat × Bool)) : (s.rampSet r).frc = s.frc :=
  State.rampSet_frame (F := fun p => p != .frc) s r rfl (fr_self _ s) .frc rfl

theorem rampStart_drives (s : State) (ho : Handover) (r : Nat) (hho : s.ban.ho = some ho) (hold : ho.old = false)
    (hr : ho.ramp = some r) :
    Nexts (exec .rampStart s) (fun t => t.ban.driving = true ∧ t.frc = max s.frc r) := by
  have hx : exec .rampStart s =
      .next (let u := ({ s with frc := max s.frc r } : State).rampSet (some (r, true))
        { u with ban := { u.ban with driving := true } }) := by
    show execRampStart s = _
    rw [execRampStart, hho]
    simp [hr, hold]
  rw [hx, nexts_next]
  exact ⟨rfl, rampSet_frc _ _⟩

theorem rampEnd_releases (s : State) (ho : Handover) (r : Nat) (hho : s.ban.ho = some ho) (hold : ho.old = true)
    (hr : ho.ramp = some r) :
    Nexts (exec .rampEnd s) (fun t => t.ban.framesOff = true ∧
      t.ban.ho = some { ho with ended := some (max s.frc (r + 60000)) }) := by
  have hx : exec .rampEnd s = .next (State.banSend { s with frc := max s.frc (r + 60000), ban := { s.ban with
      framesOff := true, ho := some { ho with ended := some (max s.frc (r + 60000)) } } } 0x33 []) := by
    show execRampEnd s = _
    rw [execRampEnd, hho]
    simp [hr, hold]
  rw [hx, nexts_next]
  obtain ⟨tx, n, at_, hsent⟩ := banSend_eq { s with frc := max s.frc (r + 60000), ban := { s.ban with
    framesOff := true, ho := some { ho with ended := some (max s.frc (r + 60000)) } } } 0x33 []
  rw [hsent]
  exact ⟨rfl, rfl⟩

theorem releasedTake_new {s : State} {ho : Handover} (hho : s.ban.ho = some ho) (hold : ho.old = false) :
    s.releasedTake = State.wr { s with ban := { s.ban with ho := some { ho with ended := some s.frc } } }
      Reg.BAN_HO_CNT_OVERLAP (min ((s.frc - ho.ramp.getD s.frc) / 1000) 255) := by
  have hnew : ¬ho.old = true := by rw [hold]; decide
  rw [State.releasedTake, hho]
  exact if_neg hnew

/-- The new module learns that the old one has released its outputs, which gives the overlap. -/
theorem released_learns (s : State) (a : Arrival) (ho : Handover) (h : s.hears a = true) (hj : s.ban.join = none)
    (hearly : s.ban.early = []) (hho : s.ban.ho = some ho) (hold : ho.old = false) :
    Nexts (exec (.released a) s) (fun t => t.ban.ho = some { ho with ended := some s.frc } ∧
      t.rd Reg.BAN_HO_CNT_OVERLAP = min ((s.frc - ho.ramp.getD s.frc) / 1000) 255) := by
  have hord := inOrder_of_hears h
  have htake := releasedTake_new ((heard_ho s a).trans hho) hold
  refine nexts_arrive (arrive_of_hears h _) htake ((heard_join hord).trans hj) ((heard_early hord).trans hearly) ⟨?_, ?_⟩
  · rw [wr_ban, heard_frc]
  · have hlt : min ((s.frc - ho.ramp.getD s.frc) / 1000) 255 < 2 ^ 8 := by omega
    rw [heard_frc]
    exact (rd_wr_self _ _ _ (by decide)).trans (Nat.mod_eq_of_lt hlt)

theorem barrierBackstop_stops (s : State) (ho : Handover) (hho : s.ban.ho = some ho) (hold : ho.old = true) :
    Nexts (exec .barrierBackstop s) (fun t => t.ban.framesOff = true ∧ t.frc = max s.frc (ho.at_ + 110000)) := by
  have hx : exec .barrierBackstop s =
      .next { s with frc := max s.frc (ho.at_ + 110000), ban := { s.ban with framesOff := true } } := by
    show execBarrierBackstop s = _
    rw [execBarrierBackstop, hho]
    exact if_pos hold
  rw [hx, nexts_next]
  exact ⟨rfl, rfl⟩

/-! ### Lanes (R218) -/

/-- The two lanes' flags are beside each other, and neither is where BAN_LANE shows them. -/
theorem laneUp_beside (l : Fin 2) : (laneUp (1 - l.val)).lo + (laneUp (1 - l.val)).width ≤ (laneUp l).lo ∨
    (laneUp l).lo + (laneUp l).width ≤ (laneUp (1 - l.val)).lo := by
  revert l
  decide

theorem laneUp_fits (l : Fin 2) : (laneUp l).lo + (laneUp l).width ≤ 32 ∧ (laneUp l).width = 1 := by
  revert l
  decide

/-- They lie above ROLE and below the bit of the peer's heartbeat. -/
theorem laneUp_within (l : Fin 2) : 4 ≤ (laneUp l).lo ∧ (laneUp l).lo + (laneUp l).width ≤ 12 := by
  revert l
  decide

theorem laneUp_addr (l : Nat) : (laneUp l).addr = Reg.BAN_STAT.addr := by
  unfold laneUp
  split <;> rfl

theorem banLaneUp_addr_ne (l : Fin 2) : (Reg.BAN_LANE_UP l).addr ≠ Reg.BAN_STAT.addr := by
  revert l
  decide

/-- The flag of a lane as both of its registers show it. -/
def State.showLane (s : State) (l v : Nat) : State := (s.wr (laneUp l) v).wr (Reg.BAN_LANE_UP l) v

theorem rd_showLane (s : State) (l : Fin 2) {v : Nat} (hv : v < 2) :
    (s.showLane l v).rd (laneUp l) = v ∧ (s.showLane l v).rd (Reg.BAN_LANE_UP l) = v := by
  obtain ⟨hfit, hwidth⟩ := laneUp_fits l
  refine ⟨?_, ?_⟩
  · rw [State.showLane, rd_wr_addr _ _ _ _ (by rw [laneUp_addr]; exact (banLaneUp_addr_ne l).symm), rd_wr_self _ _ _ hfit,
      hwidth]
    omega
  · rw [State.showLane, rd_wr_self _ _ _ (Nat.le_of_ble_eq_true rfl)]
    show v % 2 ^ 1 = v
    omega

theorem on_showLane_other (s : State) (l : Fin 2) (v : Nat) :
    (s.showLane l v).on (laneUp (1 - l.val)) = s.on (laneUp (1 - l.val)) := by
  rw [State.showLane, on_wr_addr _ _ _ _ (by rw [laneUp_addr]; exact (banLaneUp_addr_ne l).symm),
    on_wr_bits _ _ _ _ (laneUp_fits l).1 (laneUp_beside l)]

theorem banLaneUp_addr_ne_iso (l : Fin 2) : (Reg.BAN_LANE_UP l).addr ≠ Reg.BAN_ISO.addr := by
  revert l
  decide

theorem unitOf_laneUp (l : Nat) : unitOf (laneUp l).addr ≠ Un.gb := by
  rw [laneUp_addr]
  decide

theorem unitOf_banLaneUp (l : Fin 2) : unitOf (Reg.BAN_LANE_UP l).addr ≠ Un.gb := by
  revert l
  decide

/-- The Banister's own part is behind its registers. -/
theorem rd_with_ban (s : State) (b : Ban) (f : Fld) : ({ s with ban := b } : State).rd f = s.rd f := rfl

theorem on_with_ban (s : State) (b : Ban) (f : Fld) : ({ s with ban := b } : State).on f = s.on f := rfl

/-- A lane on which nothing has come for 50 µs is lost; with the other one up nothing follows on it. -/
theorem exec_laneLost {s : State} {l : Fin 2} (hr : s.power.running = true) (hup : s.on (laneUp l) = true)
    (hother : s.on (laneUp (1 - l.val)) = true) :
    exec (.laneLost l) s = .next (
      let u : State := State.showLane { s with frc := max s.frc ((s.lane l).lastAt + 50000) } l 0
      State.post { u with ban := { u.ban with
        lanes := Assoc.insert u.ban.lanes l.val { s.lane l with downAt := u.frc, backAt := none } } }
        Un.ban 0x0801 l.val (s.lane l).lastSeq (b2n (u.on (laneUp (1 - l.val))))) := by
  have hkeep := (on_showLane_other { s with frc := max s.frc ((s.lane l).lastAt + 50000) } l 0).trans hother
  exact (if_pos ⟨hr, hup⟩).trans (congrArg Host.Outcome.next (if_pos hkeep))

theorem laneLost_shows (s : State) (l : Fin 2) (hr : s.power.running = true) (hup : s.on (laneUp l) = true)
    (hother : s.on (laneUp (1 - l.val)) = true) :
    Nexts (exec (.laneLost l) s) (fun t => t.on (laneUp l) = false ∧ t.rd (Reg.BAN_LANE_UP l) = 0 ∧
      (t.lane l).downAt = t.frc ∧ t.frc = max s.frc ((s.lane l).lastAt + 50000)) := by
  rw [exec_laneLost hr hup hother, nexts_next]
  obtain ⟨hstat, hlane⟩ := rd_showLane { s with frc := max s.frc ((s.lane l).lastAt + 50000) } l (v := 0) (by decide)
  refine ⟨?_, ?_, ?_, ?_⟩
  · rw [on_post _ _ _ _ _ _ _ (unitOf_laneUp l), on_with_ban, State.on, hstat]
    rfl
  · rw [rd_post _ _ _ _ _ _ _ (unitOf_banLaneUp l), rd_with_ban, hlane]
  · simp only [State.lane, post_ban, post_frc, Assoc.find?_insert_self, Option.getD_some]
  · simp only [post_frc, State.showLane, wr_frc]

/-- To show the state of R220 writes BAN_ISO, and of BAN_STAT the bit of the peer's heartbeat. -/
theorem isoShow_rd (s : State) {f : Fld} (hi : f.addr ≠ Reg.BAN_ISO.addr) (hb : f.lo + f.width ≤ 12 ∨ 13 ≤ f.lo) :
    s.isoShow.rd f = s.rd f := by
  unfold State.isoShow
  extract_lets
  rw [State.wrB, rd_wr_bits _ _ _ _ (by decide) hb]
  exact rd_wr_addr _ _ _ _ hi

theorem isoShow_role (s : State) : s.isoShow.role = s.role :=
  isoShow_rd s (f := Reg.BAN_STAT_ROLE) (by decide) (by decide)

theorem isoShow_frc (s : State) : s.isoShow.frc = s.frc :=
  State.isoShow_frame (F := fun p => p != .frc) s rfl (fr_self _ s) .frc rfl

theorem isoShow_ban (s : State) : s.isoShow.ban = s.ban :=
  State.isoShow_frame (F := fun p => p != .ban) s rfl (fr_self _ s) .ban rfl

theorem isoShow_power (s : State) : s.isoShow.power = s.power :=
  State.isoShow_frame (F := fun p => p != .power) s rfl (fr_self _ s) .power rfl

theorem showLane_role (s : State) (l : Fin 2) (v : Nat) : (s.showLane l v).role = s.role :=
  (rd_wr_addr _ (Reg.BAN_LANE_UP l) Reg.BAN_STAT_ROLE v (banLaneUp_addr_ne l).symm).trans
    (rd_wr_bits _ _ _ _ (laneUp_fits l).1 (.inl (laneUp_within l).1))

theorem exec_laneRestored {s : State} {l : Fin 2} (hr : s.power.running = true) (hup : s.on (laneUp l) = false)
    (hrole : s.role ≠ roleIsolated) :
    exec (.laneRestored l) s = .next (
      let u : State := State.showLane { s with frc := max s.frc ((s.lane l).backAt.getD s.frc + 1000000) } l 1
      (u.post Un.ban 0x0802 l.val ((u.frc - (s.lane l).downAt) / 1000000) 0).isoShow) := by
  have hrole' : (((State.showLane { s with frc := max s.frc ((s.lane l).backAt.getD s.frc + 1000000) } l 1).post Un.ban
      0x0802 l.val ((State.frc (State.showLane { s with frc := max s.frc ((s.lane l).backAt.getD s.frc + 1000000) } l 1)
        - (s.lane l).downAt) / 1000000) 0).isoShow).role ≠ roleIsolated := by
    rw [isoShow_role, State.role, rd_post _ _ _ _ _ _ _ (by decide)]
    exact fun h => hrole ((showLane_role _ l 1).symm.trans h)
  have hdown : (!s.on (laneUp l)) = true := by rw [hup]; rfl
  exact (if_pos ⟨hr, hdown⟩).trans (congrArg Host.Outcome.next (if_neg hrole'))

/-- A lane on which frames have come for 1 ms is up again. -/
theorem laneRestored_shows (s : State) (l : Fin 2) (hr : s.power.running = true) (hup : s.on (laneUp l) = false)
    (hrole : s.role ≠ roleIsolated) :
    Nexts (exec (.laneRestored l) s) (fun t => t.on (laneUp l) = true ∧ t.rd (Reg.BAN_LANE_UP l) = 1 ∧
      t.frc = max s.frc ((s.lane l).backAt.getD s.frc + 1000000)) := by
  rw [exec_laneRestored hr hup hrole, nexts_next]
  obtain ⟨hstat, hlane⟩ :=
    rd_showLane { s with frc := max s.frc ((s.lane l).backAt.getD s.frc + 1000000) } l (v := 1) (by decide)
  refine ⟨?_, ?_, ?_⟩
  · rw [State.on, isoShow_rd _ (by rw [laneUp_addr]; decide) (.inl (laneUp_within l).2),
      rd_post _ _ _ _ _ _ _ (unitOf_laneUp l), hstat]
    rfl
  · rw [isoShow_rd _ (banLaneUp_addr_ne_iso l) (.inr (Nat.le_of_ble_eq_true rfl)), rd_post _ _ _ _ _ _ _ (unitOf_banLaneUp l),
      hlane]
  · rw [isoShow_frc, post_frc]
    rfl

/-! ### Plant heartbeats (R219) and the loss of both lanes (R220) -/

/-- Heartbeats that go out on the plant ports count on, and move the ports alone beside that. -/
theorem plantBeats_ban (s : State) (src : State → Nat → List Byte) :
    (s.plantBeats src).ban = { s.ban with hbSeq := (s.ban.hbSeq + 1) % 2 ^ 32 } := by
  have hhand : ∀ (u : State) (p : Nat) (frame : List Byte), (u.ethHand p 2 frame).ban = u.ban := fun u p frame =>
    State.ethHand_frame (F := fun p => p != .ban) u p 2 frame rfl (fr_self _ u) .ban rfl
  refine foldl_ban _ (fun t p => ?_) _
  split_ifs
  · exact hhand _ _ _
  · rfl

theorem plantBeats_frc (s : State) (src : State → Nat → List Byte) : (s.plantBeats src).frc = s.frc :=
  State.plantBeats_frame (F := fun p => p != .frc) s src rfl (fr_self _ s) .frc rfl

theorem plantHeartbeatSend_counts (s : State) (hr : s.power.running = true) (hl : s.locked = true)
    (hp : s.paired = true) :
    Nexts (exec .plantHeartbeatSend s) (fun t => t.ban.hbSeq = (s.ban.hbSeq + 1) % 2 ^ 32 ∧
      t.ban.plantAt = some t.frc ∧ t.frc = max s.frc ((s.ban.plantAt.map (fun n => n + 1000000)).getD s.frc)) := by
  refine ⟨_, if_pos ⟨hr, hl, hp⟩, ?_⟩
  dsimp only
  rw [plantBeats_ban, plantBeats_frc]
  refine ⟨rfl, rfl, ?_⟩
  cases s.ban.plantAt <;> rfl

/-- A heartbeat of the peer's shows the peer's role on a module that does not elect. -/
theorem plantHeartbeat_shows (s : State) (p : Fin 4) (x : PlantBeat) (hr : s.power.running = true)
    (hon : s.holdView.ethOn p = true) (hv : s.holdView.beatValid x = true) (he : s.electing = false) :
    Nexts (exec (.plantHeartbeat p x) s) (fun t => t.ban.peerHbAt = some s.frc ∧ t.ban.peerHbSeq = x.seq.toNat ∧
      t.rd Reg.BAN_STAT_PEER_ROLE = x.role.val) := by
  have helect : ∀ b : Ban, (({ s with ban := b } : State).setPeerRole x.role.val).isoShow.electing = false := fun b => by
    rw [State.electing, isoShow_power, State.locked, isoShow_rd _ (by decide) (by decide),
      isoShow_rd _ (by decide) (by decide)]
    exact (electing_setPeerRole _ _).trans he
  refine ⟨_, (if_pos ⟨hr, hon, hv⟩).trans (if_neg fun h => ?_), ?_, ?_, ?_⟩
  · exact absurd h.1 (by rw [helect]; decide)
  · rw [isoShow_ban]
    rfl
  · rw [isoShow_ban]
    rfl
  · rw [isoShow_rd _ (by decide) (by decide)]
    exact peerRole_setPeerRole _ (by omega)

theorem exec_laneLossTakeover (s : State) (hr : s.power.running = true)
    (hrole : s.role = roleStandby ∨ s.role = roleIsolated) (hm : s.isoShow.isoMet = true) :
    exec .laneLossTakeover s = .next (s.isoShow.laneTakeover false) := by
  have hrun : s.isoShow.power.running = true := by rw [isoShow_power, hr]
  have hrole' : s.isoShow.role = roleStandby ∨ s.isoShow.role = roleIsolated := by rwa [isoShow_role]
  exact if_pos ⟨hrun, hrole', hm⟩

end Sys2Proof.Machine
end

section
/-!
The takeover instant (R206, R215) and the notice that the standby takes (R213).
-/
namespace Sys2Proof.Machine

/-! ### The takeover instant (R206, R215) -/

theorem exec_takeoverInstant (s : State) (unknown : List (Fin 64)) (h : Handover) (hho : s.ban.ho = some h)
    (hk : s.takeoverAt h < s.tickNext) :
    exec (.takeoverInstant unknown) s = .next (
      let u := s.commitsTo (s.takeoverAt h - 1)
      let g := u.ban.ho.getD h
      let v : State := { u with frc := max u.frc (s.takeoverAt h) }
      if g.old then v.takeoverOld g else v.takeoverNew g unknown) := by
  show execTakeoverInstant unknown s = _
  rw [execTakeoverInstant, hho]
  exact if_neg (Nat.not_le.2 hk)

/-- The handover is over, and so is what the old active module had begun to send. -/
def State.sendsOver (s : State) : State :=
  let s := s.handoverOver
  let s := (List.range 8).foldl (fun (s : State) c => s.setCanCh c { s.canCh c with flight := none }) s
  let s := (List.range 6).foldl (fun (s : State) p => s.setEthPort p { s.ethPort p with flight := none }) s
  (List.range 8).foldl (fun (s : State) p => s.wr (Reg.SER_STAT_TX_BUSY p) 0) { s with ser := [] }

theorem handoverOver_ban (s : State) :
    s.handoverOver.ban = { s.ban with ho := none, driving := false, framesOff := false, hs := [] } :=
  congrArg (fun b : Ban => { b with ho := none, driving := false, framesOff := false, hs := [] })
    ((rampSet_ban _ _).trans (wr_ban _ _ _))

theorem sendsOver_ban (s : State) :
    s.sendsOver.ban = { s.ban with ho := none, driving := false, framesOff := false, hs := [] } := by
  unfold State.sendsOver
  extract_lets s1 s2 s3
  have h2 : s2.ban = s1.ban := foldl_ban _ (fun t c => setCanCh_ban t c _) s1
  have h3 : s3.ban = s2.ban := foldl_ban _ (fun t p => setEthPort_ban t p _) s2
  refine (foldl_ban _ (f := fun (s : State) p => s.wr (Reg.SER_STAT_TX_BUSY p) 0) (fun t p => wr_ban t _ _) _).trans ?_
  exact (h3.trans h2).trans (handoverOver_ban s)

theorem takeoverOld_frc (s : State) (h : Handover) : (s.takeoverOld h).frc = s.frc :=
  State.takeoverOld_frame (F := fun p => p != .frc) s h rfl (fr_self _ s) .frc rfl

theorem handoverOver_keepsReg {a : Nat} (s : State) (ha : a < 0x20000E0000) :
    KeepsReg a (s.wr Reg.BAN_STAT_HANDOVER 0) s.handoverOver :=
  (KeepsReg.foldl (fun k _ _ ht => ht.setIsland k _ (by omega)) .self : KeepsReg a _ (State.rampSet _ none)).of_eq rfl

/-- Of the Banister's registers it writes HANDOVER alone. -/
theorem sendsOver_keepsReg {a : Nat} (s : State) (ha : a < 0x20000E0000) :
    KeepsReg a (s.wr Reg.BAN_STAT_HANDOVER 0) s.sendsOver := by
  unfold State.sendsOver
  extract_lets s1 s2 s3
  have h1 : KeepsReg a (s.wr Reg.BAN_STAT_HANDOVER 0) s1 := handoverOver_keepsReg s ha
  have h2 : KeepsReg a (s.wr Reg.BAN_STAT_HANDOVER 0) s2 :=
    KeepsReg.foldl (fun c _ t ht => ht.of_eq (setCanCh_regs t c _)) h1
  have h3 : KeepsReg a (s.wr Reg.BAN_STAT_HANDOVER 0) s3 :=
    KeepsReg.foldl (fun p _ t ht => ht.of_eq (setEthPort_regs t p _)) h2
  exact KeepsReg.foldl (fun p _ t ht => ht.wr _ (by simp only [Reg.SER_STAT_TX_BUSY]; omega)) (h3.of_eq rfl)

theorem laneMask_keeps {s t : State} (h : KeepsReg Reg.BAN_STAT.addr s t) : t.laneMask = s.laneMask := by
  rw [State.laneMask, h.rd (f := Reg.BAN_STAT_LANE0_UP), h.rd (f := Reg.BAN_STAT_LANE1_UP), State.laneMask]

theorem laneMask_wr (s : State) (f : Fld) (v : Nat) (hfit : f.lo + f.width ≤ 32) (hf : f.lo + f.width ≤ 8 ∨ 10 ≤ f.lo) :
    (s.wr f v).laneMask = s.laneMask := by
  have h0 : (s.wr f v).rd Reg.BAN_STAT_LANE0_UP = s.rd Reg.BAN_STAT_LANE0_UP :=
    rd_wr_bits _ _ _ _ hfit (by simp only [Reg.BAN_STAT_LANE0_UP]; omega)
  have h1 : (s.wr f v).rd Reg.BAN_STAT_LANE1_UP = s.rd Reg.BAN_STAT_LANE1_UP :=
    rd_wr_bits _ _ _ _ hfit (by simp only [Reg.BAN_STAT_LANE1_UP]; omega)
  rw [State.laneMask, h0, h1, State.laneMask]

/-- Neither the change of role nor the end of the handover touches the lanes. -/
theorem laneMask_standby (s : State) :
    ((s.sendsOver.setRole roleStandby).setPeerRole roleActive).laneMask = s.laneMask := by
  rw [State.setPeerRole, laneMask_wr _ _ _ (by decide) (by decide), laneMask_keeps (KeepsReg.setRole _ (by decide)),
    laneMask_wr _ _ _ (by decide) (by decide), laneMask_keeps (sendsOver_keepsReg s (by decide)),
    laneMask_wr _ _ _ (by decide) (by decide)]

/-- A module that stays in step, with a lane up, is the standby of the peer (R206). -/
theorem takeoverOld_inStep {s : State} {h : Handover} (hs : staysInStep h.trigger = true) (hm : s.laneMask ≠ 0) :
    s.takeoverOld h = (s.sendsOver.setRole roleStandby).setPeerRole roleActive := by
  have hlanes : ¬((s.sendsOver.setRole roleStandby).setPeerRole roleActive).laneMask = 0 := by
    rwa [laneMask_standby]
  exact (if_pos hs).trans (if_neg hlanes)

theorem takeoverInstant_inStep (s : State) (unknown : List (Fin 64)) (h : Handover) (hho : s.ban.ho = some h)
    (hk : s.takeoverAt h < s.tickNext) (hc : s.commitOrder = []) (hold : h.old = true)
    (hs : staysInStep h.trigger = true) (hm : s.laneMask ≠ 0) :
    Nexts (exec (.takeoverInstant unknown) s) (fun t => t.role = roleStandby ∧
      t.rd Reg.BAN_STAT_PEER_ROLE = roleActive ∧ t.ban.ho = none ∧ t.frc = max s.frc (s.takeoverAt h)) := by
  have hnone : s.commitsTo (s.takeoverAt h - 1) = s := by rw [State.commitsTo, hc]; rfl
  have hx : exec (.takeoverInstant unknown) s =
      .next (State.takeoverOld { s with frc := max s.frc (s.takeoverAt h) } h) := by
    rw [exec_takeoverInstant s unknown h hho hk]
    dsimp only
    rw [hnone, hho]
    exact congrArg _ (if_pos hold)
  rw [hx, nexts_next]
  refine ⟨?_, ?_, ?_, takeoverOld_frc _ _⟩
  all_goals rw [takeoverOld_inStep hs (s := { s with frc := max s.frc (s.takeoverAt h) }) hm]
  · rw [role_setPeerRole, role_setRole _ (by decide)]
  · exact peerRole_setPeerRole _ (by decide)
  · obtain ⟨_, _, _, _, _, _, hb⟩ := setRole_ban (State.sendsOver { s with frc := max s.frc (s.takeoverAt h) }) roleStandby
    rw [State.setPeerRole, wr_ban, hb, sendsOver_ban]

/-! ### What the steps of a notice that is taken leave (R213) -/

/-- The join, the messages that wait, the handover and the ticks that wait are as they were. -/
structure PairKeeps (s t : State) : Prop where
  join : t.ban.join = s.ban.join
  early : t.ban.early = s.ban.early
  ho : t.ban.ho = s.ban.ho
  dues : t.scn.dues = s.scn.dues

namespace PairKeeps
variable {s t u : State}

theorem self : PairKeeps s s := ⟨rfl, rfl, rfl, rfl⟩

theorem trans (h : PairKeeps s t) (h' : PairKeeps t u) : PairKeeps s u :=
  ⟨h'.join.trans h.join, h'.early.trans h.early, h'.ho.trans h.ho, h'.dues.trans h.dues⟩

/-- What leaves the Banister's part and the Scan Engine's leaves these. -/
theorem of_eq (h : PairKeeps s t) (hb : u.ban = t.ban) (hd : u.scn.dues = t.scn.dues) : PairKeeps s u :=
  h.trans ⟨by rw [hb], by rw [hb], by rw [hb], hd⟩

theorem foldl {α : Type} {l : List α} {f : State → α → State}
    (hf : ∀ x ∈ l, ∀ t, PairKeeps s t → PairKeeps s (f t x)) (h : PairKeeps s t) : PairKeeps s (l.foldl f t) :=
  List.foldlRecOn l f h fun t ht x hx => hf x hx t ht

theorem banSend (h : PairKeeps s t) (type : Nat) (p : List Byte) : PairKeeps s (t.banSend type p) := by
  obtain ⟨tx, n, at_, hsent⟩ := banSend_eq t type p
  rw [hsent]
  exact h.trans ⟨rfl, rfl, rfl, rfl⟩

theorem banAsk (h : PairKeeps s t) (type : Nat) (p : List Byte) : PairKeeps s (t.banAsk type p) := by
  obtain ⟨tx, n, at_, hs, hsent⟩ := banAsk_eq t type p
  rw [hsent]
  exact h.trans ⟨rfl, rfl, rfl, rfl⟩

theorem inquiryOver (h : PairKeeps s t) : PairKeeps s t.inquiryOver := h.trans ⟨rfl, rfl, rfl, rfl⟩

/-! The standby's Solver follows its permits (R157). -/

theorem slvAskClear (h : PairKeeps s t) (k master : Nat) : PairKeeps s (t.slvAskClear k master) := by
  have hclear : ∀ u : State, PairKeeps s u → PairKeeps s (u.slvClear k master) := fun u hu => hu.of_eq
    (State.slvClear_frame (F := fun p => p != .ban) u k master rfl (fr_self _ u) .ban rfl)
    (congrArg Scan.dues (State.slvClear_frame (F := fun p => p != .scn) u k master rfl (fr_self _ u) .scn rfl))
  unfold State.slvAskClear
  extract_lets u
  have hu : PairKeeps s u := by
    simp only [u]
    split_ifs
    · exact h.banSend _ _
    · exact h
  clear_value u
  split_ifs
  · exact hu.of_eq rfl rfl
  · exact hclear u hu

theorem slvTake (h : PairKeeps s t) (sq : Nat) (ecc : Bool) (may : SlvMay) : PairKeeps s (t.slvTake sq ecc may) :=
  h.of_eq (State.slvTake_frame (F := fun p => p != .ban) t sq ecc may rfl (fr_self _ t) .ban rfl)
    (congrArg Scan.dues (State.slvTake_frame (F := fun p => p != .scn) t sq ecc may rfl (fr_self _ t) .scn rfl))

theorem slvIterate (h : PairKeeps s t) (r : SlvRequest) (ecc : Bool) (may : SlvMay) :
    PairKeeps s (t.slvIterate r ecc may) :=
  h.of_eq (State.slvIterate_frame (F := fun p => p != .ban) t r ecc may rfl (fr_self _ t) .ban rfl)
    (congrArg Scan.dues (State.slvIterate_frame (F := fun p => p != .scn) t r ecc may rfl (fr_self _ t) .scn rfl))

theorem slvStop (h : PairKeeps s t) (r : SlvRequest) : PairKeeps s (t.slvStop r) :=
  h.of_eq (State.slvStop_frame (F := fun p => p != .ban) t r rfl (fr_self _ t) .ban rfl)
    (congrArg Scan.dues (State.slvStop_frame (F := fun p => p != .scn) t r rfl (fr_self _ t) .scn rfl))

theorem slvPermit (h : PairKeeps s t) {p : SlvPermit} (hp : t.slvPermit p = some u) : PairKeeps s u := by
  unfold State.slvPermit at hp
  extract_lets here at hp
  split at hp
  case h_1 =>
    obtain ⟨-, hu⟩ := Option.ite_none_right_eq_some.1 hp
    cases hu
    exact h.slvTake _ _ _
  case h_2 => cases hp
  case h_3 =>
    cases hp
    split_ifs
    · exact h.slvIterate _ _ _
    · exact h
  case h_4 =>
    cases hp
    split_ifs
    · exact h.slvStop _
    · exact h
  case h_5 =>
    obtain ⟨-, hu⟩ := Option.ite_none_left_eq_some.1 hp
    cases hu
    exact h
  case h_6 =>
    cases hp
    exact h.slvAskClear _ _
  case h_7 =>
    cases hp
    exact h

theorem slvDrain (h : PairKeeps s t) (n : Nat) : PairKeeps s (t.slvDrain n) := by
  induction n generalizing t with
  | zero => exact h
  | succ n ih =>
    unfold State.slvDrain
    split
    · exact h
    · split
      next hp => exact ih ((h.slvPermit hp).of_eq rfl rfl)
      next => exact h

/-! Commits that wait are made or fall away (R212). -/

theorem setTask (h : PairKeeps s t) (n : Nat) (x : ScanTask) : PairKeeps s (t.setTask n x) := h.of_eq rfl rfl

theorem commitOut (h : PairKeeps s t) (n : Nat) : PairKeeps s (t.commitOut n) :=
  h.of_eq (State.commitOut_frame (F := fun p => p != .ban) t n rfl (fr_self _ t) .ban rfl)
    (congrArg Scan.dues (State.commitOut_frame (F := fun p => p != .scn) t n rfl (fr_self _ t) .scn rfl))

theorem commitHeld (h : PairKeeps s t) (n : Nat) : PairKeeps s (t.commitHeld n) :=
  (h.of_eq (u := t.forceVars n) rfl rfl).commitOut n

theorem commitGood (h : PairKeeps s t) (n : Nat) : PairKeeps s (t.commitGood n) := by
  have hout : ∀ (u : State) (x : ScanTask), PairKeeps s u → PairKeeps s ((u.setTask n x).forceVars n |>.commitOut n) :=
    fun u x hu => (hu.of_eq (u := (u.setTask n x).forceVars n) rfl rfl).commitOut n
  unfold State.commitGood
  extract_lets x
  split_ifs
  · exact hout _ _ (h.setTask _ _)
  · exact hout _ _ ((h.setTask n _).of_eq rfl rfl)
  · exact hout _ _ h

theorem commitNow (h : PairKeeps s t) (n : Nat) : PairKeeps s (t.commitNow n) := by
  have hgrant : ∀ (u : State) (next : Nat), PairKeeps s u → PairKeeps s (u.rndGrant n next) := fun u next hu => hu.of_eq
    (State.rndGrant_frame (F := fun p => p != .ban) u n next rfl (fr_self _ u) .ban rfl)
    (congrArg Scan.dues (State.rndGrant_frame (F := fun p => p != .scn) u n next rfl (fr_self _ u) .scn rfl))
  unfold State.commitNow
  extract_lets x u
  have hu : PairKeeps s u := by
    simp only [u]
    split_ifs
    · exact h.commitGood n
    · exact h.commitHeld n
  exact hgrant _ _ (hu.setTask n _)

theorem settleWaits (h : PairKeeps s t) (cycles : List Nat) : PairKeeps s (t.settleWaits cycles).1 := by
  refine List.foldlRecOn (motive := fun r : State × Nat => PairKeeps s r.1) _ _ h fun r hr n _ => ?_
  dsimp only
  split_ifs
  · exact hr
  · exact hr.commitNow n
  · exact (hr.setTask n _).trans ⟨rfl, rfl, rfl, rfl⟩
  · exact hr.setTask n _

end PairKeeps

/-- Beside these the Banister's status registers stay, once the notice shows. -/
structure NoticeKeeps (s t : State) : Prop extends PairKeeps s t where
  regs : ∀ a, 0x2000070000 ≤ a → a < 0x2000070100 → KeepsReg a s t

namespace NoticeKeeps
variable {s t u : State}

theorem self : NoticeKeeps s s := ⟨.self, fun _ _ _ => .self⟩

theorem trans (h : NoticeKeeps s t) (h' : NoticeKeeps t u) : NoticeKeeps s u :=
  ⟨h.toPairKeeps.trans h'.toPairKeeps, fun a hlo ha => (h.regs a hlo ha).trans (h'.regs a hlo ha)⟩

theorem foldl {α : Type} {l : List α} {f : State → α → State}
    (hf : ∀ x ∈ l, ∀ t, NoticeKeeps s t → NoticeKeeps s (f t x)) (h : NoticeKeeps s t) : NoticeKeeps s (l.foldl f t) :=
  List.foldlRecOn l f h fun t ht x hx => hf x hx t ht

theorem ite {c : Prop} [Decidable c] (ht : NoticeKeeps s t) (hu : NoticeKeeps s u) :
    NoticeKeeps s (if c then t else u) := by
  split <;> assumption

theorem banSend (h : NoticeKeeps s t) (type : Nat) (p : List Byte) : NoticeKeeps s (t.banSend type p) :=
  ⟨h.toPairKeeps.banSend _ _, fun a hlo ha => (h.regs a hlo ha).banSend _ _⟩

theorem banAsk (h : NoticeKeeps s t) (type : Nat) (p : List Byte) : NoticeKeeps s (t.banAsk type p) :=
  ⟨h.toPairKeeps.banAsk _ _, fun a hlo ha => (h.regs a hlo ha).banAsk _ _⟩

theorem wr (h : NoticeKeeps s t) {g : Fld} (v : Nat) (hg : 0x2000070100 ≤ g.addr) : NoticeKeeps s (t.wr g v) :=
  ⟨h.toPairKeeps.of_eq rfl rfl, fun a hlo ha => (h.regs a hlo ha).wr v (by omega)⟩

theorem ring (h : NoticeKeeps s t) (id : Nat) : NoticeKeeps s (t.ring id) :=
  ⟨h.toPairKeeps.of_eq (State.ring_frame (F := fun p => p != .ban) t id rfl (fr_self _ t) .ban rfl)
    (congrArg Scan.dues (State.ring_frame (F := fun p => p != .scn) t id rfl (fr_self _ t) .scn rfl)),
    fun a hlo ha => (h.regs a hlo ha).ring id hlo⟩

/-! A queue is released, filled, and rolled back (R196, R198, R213). -/

theorem heldMatch (h : NoticeKeeps s t) (q : Nat) (e : List Byte) : NoticeKeeps s (t.heldMatch q e) :=
  h.trans ⟨⟨rfl, rfl, rfl, rfl⟩, fun _ _ _ => .of_regs rfl⟩

theorem queReleaseTo (h : NoticeKeeps s t) (q idx : Nat) : NoticeKeeps s (t.queReleaseTo q idx) :=
  ite ((h.wr _ (by simp only [Reg.QUE_RI]; omega)).ring _) h

theorem releaseTold (h : NoticeKeeps s t) (q n : Nat) : NoticeKeeps s (t.releaseTold (0, q, n)) := by
  unfold State.releaseTold
  rw [if_neg (not_not.2 rfl)]
  extract_lets q' new t1 b2 t2
  have h1 : NoticeKeeps s t1 := foldl (fun e _ u hu => hu.heldMatch _ e) h
  clear_value t1
  have h2 : NoticeKeeps s t2 := h1.trans ⟨⟨rfl, rfl, rfl, rfl⟩, fun _ _ _ => .of_regs rfl⟩
  clear_value t2
  exact h2.queReleaseTo _ _

theorem noneRolled (h : NoticeKeeps s t) : NoticeKeeps s { t with ban := { t.ban with rolled := [] } } :=
  h.trans ⟨⟨rfl, rfl, rfl, rfl⟩, fun _ _ _ => .of_regs rfl⟩

theorem rollBack (h : NoticeKeeps s t) (limit : Nat → Nat) (keep : Bool) : NoticeKeeps s (t.rollBack limit keep) := by
  obtain ⟨rolled, held, hb⟩ := rollBack_ban t limit keep
  refine h.trans ⟨⟨?_, ?_, ?_, ?_⟩, fun a _ ha => KeepsReg.self.rollBack limit keep (by omega)⟩
  · rw [hb]
  · rw [hb]
  · rw [hb]
  · exact congrArg Scan.dues (State.rollBack_frame (F := fun p => p != .scn) t limit keep rfl (fr_self _ t) .scn rfl)

theorem rxMirror (h : NoticeKeeps s t) (kind idx pos : Nat) (bytes : List Byte) :
    NoticeKeeps s (t.rxMirror kind idx pos bytes) := by
  unfold State.rxMirror
  extract_lets msg u b
  have hu : NoticeKeeps s u := h.banAsk _ _
  clear_value u
  exact ite (hu.trans ⟨⟨rfl, rfl, rfl, rfl⟩, fun _ _ _ => .of_regs rfl⟩) (ite (h.banSend _ _) h)

theorem queMirror (h : NoticeKeeps s t) (q from_ to_ : Nat) : NoticeKeeps s (t.queMirror q from_ to_) :=
  foldl (fun _ _ _ hu => hu.rxMirror _ _ _ _) h

theorem queFollow (h : NoticeKeeps s t) (q : Nat) : NoticeKeeps s (t.queFollow q) :=
  ite ((h.wr _ (by simp only [Reg.QUE_RI]; omega)).ring _) (h.wr _ (by simp only [Reg.QUE_RI]; omega))

theorem quePiSet (h : NoticeKeeps s t) (q v : Nat) : NoticeKeeps s (t.quePiSet q v) := by
  unfold State.quePiSet
  extract_lets old stamps t1 t2 t3
  have h1 : NoticeKeeps s t1 := ite (h.trans ⟨⟨rfl, rfl, rfl, rfl⟩, fun _ _ _ => .of_regs rfl⟩) h
  clear_value t1
  have h2 : NoticeKeeps s t2 := ite (h1.trans ⟨⟨rfl, rfl, rfl, rfl⟩, fun _ _ _ => .of_regs rfl⟩) h1
  clear_value t2
  have h3 : NoticeKeeps s t3 :=
    (h2.wr _ (by simp only [Reg.QUE_PI]; omega)).wr _ (by simp only [Reg.QUE_STAT_LAST]; omega)
  clear_value t3
  exact ite ((h3.queMirror _ _ _).ring _) (ite (h3.ring _) ((h3.queFollow _).ring _))

theorem takeHeld (h : NoticeKeeps s t) (e : Nat × List Byte) : NoticeKeeps s (t.takeHeld e) := by
  have hset : ∀ (at_ : Nat) (bs : List Byte), NoticeKeeps s (t.setBytes at_ bs) := fun at_ bs =>
    h.trans ⟨⟨rfl, rfl, rfl, rfl⟩, fun _ _ _ => .of_regs rfl⟩
  exact ite ((hset _ _).quePiSet _ _) h

end NoticeKeeps

/-! ### The notice that the standby takes (R213) -/

/-- With no tick that waits nothing is latched for one. -/
theorem duesLead_nil {s : State} (h : s.scn.dues = []) : s.duesLead = { s with scn := { s.scn with dues := [] } } := by
  unfold State.duesLead
  extract_lets dues
  have hdues : dues = [] := h
  rw [hdues]
  rfl

theorem duesLead_ban {s : State} (h : s.scn.dues = []) : s.duesLead.ban = s.ban := by rw [duesLead_nil h]

theorem duesLead_regs {s : State} (h : s.scn.dues = []) : s.duesLead.regs = s.regs := by rw [duesLead_nil h]

/-- What waits for a decision of the pair is settled with the join, the messages and the ticks that wait as they are. -/
theorem noticeSettled_keeps (s : State) (cycles : List Nat) :
    PairKeeps s (s.slvFollow.inquiryOver.settleWaits cycles).1 :=
  ((PairKeeps.self.slvDrain _).inquiryOver).settleWaits cycles

theorem noticeSettled_frc (s : State) (cycles : List Nat) :
    (s.slvFollow.inquiryOver.settleWaits cycles).1.frc = s.frc := by
  have hfr : Fr (fun p => p != .frc) s s.slvFollow := State.slvFollow_frame s rfl (fr_self _ s)
  have hover : Fr (fun p => p != .frc) s s.slvFollow.inquiryOver := State.inquiryOver_frame _ rfl hfr
  generalize s.slvFollow.inquiryOver = u at hover
  exact (State.settleWaits_frame (F := fun p => p != .frc) u cycles rfl hover) .frc rfl

/-- The notice as the standby's registers show it. -/
def State.noticeTaken (s : State) (trigger skipped : Nat) : State :=
  (((s.wr Reg.BAN_STAT_HANDOVER 1).wr Reg.BAN_HO_TRIGGER trigger).wr Reg.BAN_HO_SKIPPED skipped).bump Reg.BAN_HO_CNT_COUNT

theorem noticeTaken_frc (s : State) (trigger skipped : Nat) : (s.noticeTaken trigger skipped).frc = s.frc := by
  simp only [State.noticeTaken, State.bump, wr_frc]

theorem PairKeeps.noticeTaken {s t : State} (h : PairKeeps s t) (trigger skipped : Nat) :
    PairKeeps s (t.noticeTaken trigger skipped) :=
  h.of_eq (by simp only [State.noticeTaken, State.bump, wr_ban]) (by simp only [State.noticeTaken, State.bump, wr_scn])

theorem noticeTaken_shows (s : State) {trigger : Nat} (ht : trigger < 16) (skipped : Nat) :
    (s.noticeTaken trigger skipped).on Reg.BAN_STAT_HANDOVER = true ∧
      (s.noticeTaken trigger skipped).rd Reg.BAN_HO_TRIGGER = trigger := by
  refine ⟨?_, ?_⟩
  · rw [State.noticeTaken, State.bump, on_wr_addr _ _ _ _ (by decide), on_wr_addr _ _ _ _ (by decide), on_wr_addr _ _ _ _ (by decide),
      on_wr_self _ _ _ (by decide)]
    rfl
  · rw [State.noticeTaken, State.bump, rd_wr_addr _ _ _ _ (by decide), rd_wr_bits _ _ _ _ (by decide) (by decide),
      rd_wr_self _ _ _ (by decide)]
    exact Nat.mod_eq_of_lt (ht.trans (by decide))

/-- The handover begins on the new module, and what was kept for the pair is dropped. -/
def State.noticeBegun (s : State) (trigger ramp skipped : Nat) : State :=
  let s : State := { s with
    slv := { s.slv with permits := [] }
    ban := { s.ban with
      held := [], own := [], peer := [], mirr := [], agrs := [], timeouts := []
      ho := some { old := false, trigger := trigger, before := s.role, at_ := s.frc, lastC := s.ban.lastC
                   ramp := some ramp, skipped := skipped } } }
  (List.range 8).foldl (fun (s : State) c => s.setCanCh c { s.canCh c with hpWait := [] }) s

theorem noticeBegun_ban (s : State) (trigger ramp skipped : Nat) :
    (s.noticeBegun trigger ramp skipped).ban = { s.ban with
      held := [], own := [], peer := [], mirr := [], agrs := [], timeouts := []
      ho := some { old := false, trigger := trigger, before := s.role, at_ := s.frc, lastC := s.ban.lastC
                   ramp := some ramp, skipped := skipped } } :=
  foldl_ban _ (fun t c => setCanCh_ban t c _) _

theorem noticeBegun_scn (s : State) (trigger ramp skipped : Nat) :
    (s.noticeBegun trigger ramp skipped).scn = s.scn :=
  List.foldlRecOn (motive := fun t : State => t.scn = s.scn) _ _ rfl fun _ ht _ _ => ht

theorem noticeBegun_regs (s : State) (trigger ramp skipped : Nat) :
    (s.noticeBegun trigger ramp skipped).regs = s.regs :=
  List.foldlRecOn (motive := fun t : State => t.regs = s.regs) _ _ rfl fun _ ht _ _ => ht

/-- The standby that takes the notice shows it and answers, and its ramp is to start 20 µs after receipt. -/
theorem handoverTake_shows {s : State} (hpf : s.on Reg.PWR_STAT_PF_WARN = false) (hrole : s.role = roleStandby)
    (hho : s.ban.ho = none) (hdues : s.scn.dues = []) (seq : Nat) (x : Notice) :
    (s.handoverTake seq x).on Reg.BAN_STAT_HANDOVER = true ∧ (s.handoverTake seq x).rd Reg.BAN_HO_TRIGGER = x.trigger.val ∧
      (s.handoverTake seq x).ban.ho.map (fun h => (h.old, h.trigger, h.ramp)) =
        some (false, x.trigger.val, some (s.frc + 20000)) ∧
      (s.handoverTake seq x).ban.join = s.ban.join ∧ (s.handoverTake seq x).ban.early = s.ban.early := by
  unfold State.handoverTake
  rw [if_neg (by rw [hpf]; decide), if_neg (by rw [hrole, hho]; decide)]
  have hsettled := noticeSettled_keeps s x.cycles
  have hfrc := noticeSettled_frc s x.cycles
  generalize s.slvFollow.inquiryOver.settleWaits x.cycles = r at hsettled hfrc
  extract_lets r1 s1 s2 s3 ramp s4 s5 b6 s6 held v7 b7 s7 s8
  have hs3 : s3 = r.1.noticeTaken x.trigger.val (min r.2 255) := rfl
  have hramp : ramp = s3.frc + 20000 := rfl
  clear_value ramp s3
  have h3 : PairKeeps s s3 := hs3 ▸ hsettled.noticeTaken _ _
  obtain ⟨hon, htrig⟩ := hs3 ▸ noticeTaken_shows r.1 x.trigger.isLt (min r.2 255)
  rw [hs3, noticeTaken_frc, hfrc] at hramp
  have h4 : NoticeKeeps s3 s4 := (NoticeKeeps.self.banSend _ _).banSend _ _
  clear_value s4
  have h5 : NoticeKeeps s3 s5 := NoticeKeeps.foldl (fun q _ u hu => NoticeKeeps.ite (hu.releaseTold _ _) hu) h4
  clear_value s5
  have h6 : NoticeKeeps s3 s6 := h5.noneRolled.rollBack _ _
  clear_value held s6
  have hs8 : s8 = s6.noticeBegun x.trigger.val ramp r.2 := rfl
  clear_value s8
  have hban8 : s8.ban = _ := hs8 ▸ noticeBegun_ban s6 x.trigger.val ramp r.2
  have hscn8 : s8.scn = s6.scn := hs8 ▸ noticeBegun_scn s6 x.trigger.val ramp r.2
  have hregs8 : s8.regs = s6.regs := hs8 ▸ noticeBegun_regs s6 x.trigger.val ramp r.2
  have hheld : NoticeKeeps s8 (held.foldl (fun s h => s.takeHeld h) s8) :=
    NoticeKeeps.foldl (fun e _ t ht => ht.takeHeld e) .self
  generalize held.foldl (fun s h => s.takeHeld h) s8 = t at hheld ⊢
  have hnone : t.scn.dues = [] := by rw [hheld.dues, hscn8, h6.dues, h3.dues, hdues]
  have hkept : ∀ a, 0x2000070000 ≤ a → a < 0x2000070100 → KeepsReg a s3 t.duesLead := fun a hlo ha =>
    (((h6.regs a hlo ha).of_eq hregs8).trans (hheld.regs a hlo ha)).of_eq (duesLead_regs hnone)
  rw [duesLead_ban hnone, hheld.ho, hheld.join, hheld.early, hban8, hramp, (hkept _ (by decide) (by decide)).on,
    (hkept _ (by decide) (by decide)).rd]
  exact ⟨hon, htrig, rfl, h6.join.trans h3.join, h6.early.trans h3.early⟩

/-- The standby takes the notice of the active module. -/
theorem handover_taken (s : State) (a : Arrival) (x : Notice) (h : s.hears a = true) (hj : s.ban.join = none)
    (hearly : s.ban.early = []) (hrole : s.role = roleStandby) (hho : s.ban.ho = none)
    (hpf : s.on Reg.PWR_STAT_PF_WARN = false) (hdues : s.scn.dues = []) :
    Nexts (exec (.handover a x) s) (fun t => t.on Reg.BAN_STAT_HANDOVER = true ∧
      t.rd Reg.BAN_HO_TRIGGER = x.trigger.val ∧
      t.ban.ho.map (fun h => (h.old, h.trigger, h.ramp)) = some (false, x.trigger.val, some (s.frc + 20000))) := by
  have hord := inOrder_of_hears h
  obtain ⟨hon, htrig, hramp, hjoin, hwait⟩ := handoverTake_shows (s := s.heard a) (by rw [State.on, heard_rd, ← State.on, hpf])
    ((heard_role s a).trans hrole) ((heard_ho s a).trans hho) (by rw [heard_scn, hdues]) a.seq.toNat x
  rw [heard_frc] at hramp
  exact nexts_arrive (arrive_of_hears h _) rfl (hjoin.trans ((heard_join hord).trans hj))
    (hwait.trans ((heard_early hord).trans hearly)) ⟨hon, htrig, hramp⟩

end Sys2Proof.Machine
end

section
open Sys2Proof Sys2Proof.Machine

/-- Settles O32: each command where what it is for is due (log 12, 174, 205). The standby that takes a notice keeps its
join, its ticks and its status registers through what it then releases, rolls back and takes. -/
theorem handoverCommandsComplete : Obligations.HandoverCommandsComplete :=
  ⟨banHandover_begins, rearmReadback_unblocks, rearmAll_unblocks, exec_forceTakeover, handover_taken, exec_handover,
    driving_told, rampStart_drives, rampEnd_releases, released_learns, barrierBackstop_stops, exec_takeoverInstant,
    takeoverInstant_inStep, laneLost_shows, laneRestored_shows, plantHeartbeatSend_counts, plantHeartbeat_shows,
    exec_laneLossTakeover⟩

end

section
/-!
Handshakes that wait (R189, R192) and a join that starts (R225, R226): an awaited handshake is known by its SEQ, which
counts modulo 2^32.
-/
namespace Sys2Proof.Machine

/-- A handshake that waits after a message waited before it, or is the message's own: its SEQ has 32 bits. -/
theorem seq_lt_of_mem_banAsk_hs (s : State) (type : Nat) (p : List Byte) {x : Nat × Nat × Nat}
    (hx : x ∈ (s.banAsk type p).ban.hs) : x ∈ s.ban.hs ∨ x.2.1 < 2 ^ 32 := by
  obtain ⟨tx, n, at_, hsent⟩ := banSend_eq s type p
  unfold State.banAsk at hx
  rw [hsent] at hx
  dsimp only at hx
  split at hx
  · refine (List.mem_append.1 hx).imp_right fun hnew => ?_
    rw [List.mem_singleton.1 hnew]
    exact Nat.mod_lt _ (by decide)
  · exact .inl hx

/-- A join that starts sends JOIN_REQUEST, and awaits its answer. -/
theorem joinBegin_asks (s : State) : ∃ u p, s.joinBegin = State.banAsk u 0x40 p ∧ u.ban.hs = s.ban.hs := by
  unfold State.joinBegin State.joinAsk
  exact ⟨_, _, rfl, rfl⟩

theorem strDigest_length (s : State) : s.strDigest.length = 32 := by
  simp [State.strDigest, leBytes_length]

/-- A cold module that may join starts its join where its digests are not those of the last one. -/
theorem exec_joinStart {s : State} (hmay : s.joinMay = true) (hdig : s.ban.joinDig ≠ s.strDigest ++ s.progDigest) :
    exec .joinStart s =
      .next (State.joinBegin { s with ban := { s.ban with lastFail := 0, stuck := false } }) :=
  if_pos ⟨hmay, hdig⟩

/-- A cold module of a pair, locked and in STOP, whose next frame would have the SEQ 2^32: no state that commands reach
has it, and the statement asks for no bound. -/
def coldBeyondSeq : State :=
  let s : State := { State.reset with
    power := { State.reset.power with running := true }
    fpl := { State.reset.fpl with plan := [⟨0x8001, 0, [0, 0, 0, 0, 1]⟩] }
    ban := { State.reset.ban with txSeq := 2 ^ 32 } }
  ((s.wr Reg.FPL_STAT_STATE 3).wr Reg.FPL_STAT_BUSY 0).wr Reg.BAN_STAT_ROLE roleCold

theorem coldBeyondSeq_joinMay : coldBeyondSeq.joinMay = true := by decide +kernel

/-- It has started no join yet. -/
theorem coldBeyondSeq_joinDig :
    coldBeyondSeq.ban.joinDig ≠ coldBeyondSeq.strDigest ++ coldBeyondSeq.progDigest := by
  intro h
  have hstr : coldBeyondSeq.strDigest = [] := (List.append_eq_nil_iff.1 h.symm).1
  exact absurd (strDigest_length coldBeyondSeq) (by rw [hstr]; decide)

/-- Its join starts, and no handshake with the SEQ 2^32 waits. -/
theorem joinStart_coldBeyondSeq : ¬Nexts (exec .joinStart coldBeyondSeq)
    (fun t => (0x40, coldBeyondSeq.ban.txSeq, coldBeyondSeq.frc) ∈ t.ban.hs) := by
  rw [exec_joinStart coldBeyondSeq_joinMay coldBeyondSeq_joinDig, nexts_next]
  obtain ⟨u, p, hasks, hwait⟩ := joinBegin_asks { coldBeyondSeq with ban := { coldBeyondSeq.ban with
    lastFail := 0, stuck := false } }
  rw [hasks]
  intro hmem
  rcases seq_lt_of_mem_banAsk_hs u 0x40 p hmem with hold | hlt
  · exact absurd (hwait ▸ hold) List.not_mem_nil
  · exact absurd hlt (Nat.lt_irrefl (2 ^ 32))

end Sys2Proof.Machine
end

section
open Sys2Proof Sys2Proof.Machine

/-- Refutes O33: its first clause names the awaited JOIN_REQUEST by `txSeq` itself, with no bound on it, while the model
forms the SEQ modulo 2^32 (R189). On `coldBeyondSeq`, whose `txSeq` is 2^32, the handshake that waits has another SEQ. -/
theorem not_joiningCommandsComplete : ¬ Obligations.JoiningCommandsComplete := by
  unfold Obligations.JoiningCommandsComplete
  rintro ⟨hstart, -⟩
  obtain ⟨t, ht, -, -, hmem⟩ := hstart coldBeyondSeq coldBeyondSeq_joinMay coldBeyondSeq_joinDig
  exact joinStart_coldBeyondSeq ⟨t, ht, hmem⟩

end

section
/-!
Rolling upgrade and planned swap (R237 to R239) and the latent limit (R242): what BAN_JOIN_CMD does for an upgrade, the
landing of a swap and the handover that READY begins.
-/
namespace Sys2Proof.Machine

/-! ### A join that ends (R225, R235) -/

/-- After its end no join is under way. -/
theorem joinEnd_join (s : State) (reason : Nat) : (s.joinEnd reason).ban.join = none := by
  unfold State.joinEnd
  split
  next hnone => exact hnone
  next j =>
    extract_lets
    split_ifs
    · rfl
    · rw [State.joinFailed, scnHalt_ban]

/-- What it shows is REASON and the phase: an admission stays. -/
theorem on_joinEnd_admit (s : State) (reason : Nat) :
    (s.joinEnd reason).on Reg.BAN_JOIN_STAT_ADMIT = s.on Reg.BAN_JOIN_STAT_ADMIT := by
  have hshown : ∀ u : State, ((u.wr ⟨0x2000070200, 24, 8⟩ reason).wr ⟨0x2000070200, 0, 4⟩ 7).on Reg.BAN_JOIN_STAT_ADMIT =
      u.on Reg.BAN_JOIN_STAT_ADMIT := fun u => by
    rw [on_wr_bits _ _ _ _ (by decide) (by decide), on_wr_bits _ _ _ _ (by decide) (by decide)]
  unfold State.joinEnd
  split
  · rfl
  next j =>
    extract_lets u v w
    have hu : u.on Reg.BAN_JOIN_STAT_ADMIT = s.on Reg.BAN_JOIN_STAT_ADMIT := on_post _ _ _ _ _ _ _ (by decide)
    split_ifs
    · rw [on_with_ban, hshown, (KeepsReg.self.banSend _ _).on (f := Reg.BAN_JOIN_STAT_ADMIT), hu]
    · rw [State.joinFailed, (KeepsReg.self.scnHalt (by decide) (by decide)).on (f := Reg.BAN_JOIN_STAT_ADMIT), on_with_ban,
        hshown, hu]

/-! ### BAN_JOIN_CMD (R516) -/

/-- A write of BAN_JOIN_CMD that its checks allow does what BAN_JOIN_CMD does: the Banister has no idle state to wake
from. -/
theorem access_joinCmd {s : State} {m : Master} (h : s.allows m .w32 true Reg.BAN_JOIN_CMD.addr) (k : State → State) :
    s.access m .w32 true Reg.BAN_JOIN_CMD.addr k = k (s.answer 0) :=
  access_allows h k

/-- An outcome shows in REASON, which has 8 bits. -/
theorem rd_wr_joinReason (s : State) {r : Nat} (h : r < 2 ^ 8) :
    (s.wr Reg.BAN_JOIN_STAT_REASON r).rd Reg.BAN_JOIN_STAT_REASON = r :=
  (rd_wr_self _ _ _ (by decide)).trans (Nat.mod_eq_of_lt h)

theorem on_wr_joinReason (s : State) (r : Nat) :
    (s.wr Reg.BAN_JOIN_STAT_REASON r).on Reg.BAN_JOIN_STAT_ADMIT = s.on Reg.BAN_JOIN_STAT_ADMIT :=
  on_wr_bits _ _ _ _ (by decide) (by decide)

theorem on_wr_admit (s : State) (v : Nat) : (s.wr Reg.BAN_JOIN_STAT_ADMIT v).on Reg.BAN_JOIN_STAT_ADMIT = (v % 2 != 0) :=
  on_wr_self _ _ _ (by decide)

/-- The instant of an admission is kept. -/
def State.setAdmitAt (s : State) (n : Nat) : State := { s with ban := { s.ban with admitAt := n } }

theorem setAdmitAt_admitAt (s : State) (n : Nat) : (s.setAdmitAt n).ban.admitAt = n := rfl

theorem setAdmitAt_rd (s : State) (n : Nat) (f : Fld) : (s.setAdmitAt n).rd f = s.rd f := rfl

/-- UPGRADE_ADMIT with a permit, on a module in control. -/
theorem joinCmdWrite_admit {s : State} (hrole : s.role = roleAlone ∨ s.role = roleActive)
    (hp : s.on Reg.SCN_STAT_FORCE_PERMIT = true) (differ : Nat) :
    s.joinCmdWrite 0xA5000002 differ =
      ((s.wr Reg.BAN_JOIN_STAT_ADMIT 1).wr Reg.BAN_JOIN_STAT_REASON 0).setAdmitAt s.frc := by
  have hcontrol : ¬(s.role ≠ roleActive ∧ s.role ≠ roleAlone) := by tauto
  simp [State.joinCmdWrite, bits, hcontrol, hp, State.setAdmitAt]

theorem upgradeAdmit_shows (s : State) (m : Master) (h : s.allows m .w32 true Reg.BAN_JOIN_CMD.addr)
    (hrole : s.role = roleAlone ∨ s.role = roleActive) (hp : s.on Reg.SCN_STAT_FORCE_PERMIT = true) :
    Nexts (exec (.upgradeAdmit m) s) (fun t => t.on Reg.BAN_JOIN_STAT_ADMIT = true ∧
      t.rd Reg.BAN_JOIN_STAT_REASON = 0 ∧ t.ban.admitAt = s.frc) := by
  refine ⟨_, congrArg Host.Outcome.next ((access_joinCmd h _).trans
    (joinCmdWrite_admit (s := s.answer 0) hrole hp 0)), ?_, ?_, setAdmitAt_admitAt _ _⟩
  · rw [State.on, setAdmitAt_rd, ← State.on, on_wr_joinReason, on_wr_admit]
    rfl
  · rw [setAdmitAt_rd, rd_wr_joinReason _ (by decide)]

/-- An admission that is not used lapses an hour after it. -/
theorem upgradeAdmitLapse_clears (s : State) (hon : s.on Reg.BAN_JOIN_STAT_ADMIT = true) :
    Nexts (exec .upgradeAdmitLapse s) (fun t => t.on Reg.BAN_JOIN_STAT_ADMIT = false ∧
      t.frc = max s.frc (s.ban.admitAt + 3600000000000)) :=
  ⟨_, if_pos hon, on_wr_admit _ 0, rfl⟩

/-- ABANDON ends an upgrade whose landing has not come. -/
theorem joinCmdWrite_abandon {s : State} {j : Join} (hj : s.ban.join = some j) (ha : j.active = true)
    (hu : j.upgrade = true) (hs : j.stopped = false) (differ : Nat) :
    s.joinCmdWrite 0xA5000004 differ = (s.wr Reg.BAN_JOIN_STAT_ADMIT 0).joinAbort.wr Reg.BAN_JOIN_STAT_REASON 0 := by
  simp [State.joinCmdWrite, bits, hj, ha, hu, hs]

theorem abandonUpgrade_ends (s : State) (m : Master) (j : Join) (h : s.allows m .w32 true Reg.BAN_JOIN_CMD.addr)
    (hj : s.ban.join = some j) (ha : j.active = true) (hu : j.upgrade = true) (hs : j.stopped = false) :
    Nexts (exec (.abandonUpgrade m) s) (fun t => t.on Reg.BAN_JOIN_STAT_ADMIT = false ∧ t.ban.join = none) := by
  refine ⟨_, congrArg Host.Outcome.next ((access_joinCmd h _).trans
    (joinCmdWrite_abandon (s := s.answer 0) hj ha hu hs 0)), ?_, ?_⟩
  · rw [on_wr_joinReason, State.joinAbort, on_joinEnd_admit, on_wr_admit]
    rfl
  · rw [wr_ban, State.joinAbort, joinEnd_join]

/-! ### A planned swap (R238, R239) -/

/-- A SWAP that passes its checks announces the landing that they found. -/
theorem joinCmdWrite_swap {s : State} {j : Join} {differ : Nat} (hc : (s.swapCheck differ).1 = 0)
    (hj : s.ban.join = some j) : s.joinCmdWrite 0xA5000003 differ =
      ((s.wr Reg.BAN_JOIN_STAT_REASON 0).setJoin { j with swapAt := some (s.swapCheck differ).2 }).banSend 0x48
        (leBytes 8 (s.swapCheck differ).2) := by
  simp [State.joinCmdWrite, bits, hj, hc]

/-- The response to an access plays no part in the checks. -/
theorem answer_swapCheck (s : State) (d differ : Nat) : (s.answer d).swapCheck differ = s.swapCheck differ := by
  unfold State.swapCheck
  rfl

theorem banSend_join (s : State) (type : Nat) (p : List Byte) : (s.banSend type p).ban.join = s.ban.join :=
  (PairKeeps.self.banSend type p).join

theorem banSwap_announces (s : State) (m : Master) (differ : BitVec 8) (j : Join)
    (h : s.allows m .w32 true Reg.BAN_JOIN_CMD.addr) (hc : (s.swapCheck differ.toNat).1 = 0)
    (hj : s.ban.join = some j) :
    Nexts (exec (.banSwap m differ) s) (fun t =>
      t.ban.join = some { j with swapAt := some (s.swapCheck differ.toNat).2 } ∧ t.rd Reg.BAN_JOIN_STAT_REASON = 0) := by
  have hcheck := answer_swapCheck s 0 differ.toNat
  refine ⟨_, congrArg Host.Outcome.next ((access_joinCmd h _).trans
    (joinCmdWrite_swap (s := s.answer 0) (by rw [hcheck, hc]) hj)), ?_, ?_⟩
  · rw [banSend_join, hcheck, State.setJoin]
  · rw [(KeepsReg.self.banSend _ _).rd (f := Reg.BAN_JOIN_STAT_REASON), setJoin_rd, rd_wr_joinReason _ (by decide)]

/-- The candidate holds the landing, and no final section yet. -/
theorem swapTake_candidate {s : State} {j : Join} (hj : s.ban.join = some j) (ha : j.active = false)
    (hu : j.upgrade = true) (landing : Nat) :
    s.swapTake landing = s.setJoin { j with swapAt := some landing, final := [] } := by
  rw [State.swapTake, hj]
  simp [ha, hu]

theorem exec_swap (s : State) (a : Arrival) (landing : Nat) (j : Join) (h : s.hears a = true)
    (hj : s.ban.join = some j) (ha : j.active = false) (hu : j.upgrade = true) :
    exec (.swap a landing) s = .next ((s.heard a).deliver (fun s =>
      s.setJoin { j with swapAt := some landing, final := [] })) :=
  congrArg Host.Outcome.next ((arrive_of_hears h _).trans
    (deliver_congr (swapTake_candidate ((heard_join (inOrder_of_hears h)).trans hj) ha hu landing)))

/-- A join that has stopped for its landing. -/
def State.joinStopped (s : State) : Option Bool := s.ban.join.map (fun j => j.stopped)

theorem banFrame_join (s : State) (type : Nat) (last : Bool) (p : List Byte) :
    (s.banFrame type last p).ban.join = s.ban.join := by
  obtain ⟨tx, n, at_, h⟩ := banFrame_eq s type last p
  rw [h]

/-- A section that goes out moves of the join what has been sent and is to be acknowledged. -/
theorem hamperSend_joinStopped (s : State) (x : HamperSec) (parts : List (Nat × List Byte)) :
    (s.hamperSend x parts).joinStopped = s.joinStopped := by
  unfold State.hamperSend
  extract_lets head cut last s1 s2
  have h1 : s1.ban.join = s.ban.join :=
    List.foldlRecOn (motive := fun t : State => t.ban.join = s.ban.join) _ _ rfl fun t ht f _ =>
      (banFrame_join t _ _ _).trans ht
  have h2 : s2.ban.join = s.ban.join := (banFrame_join s1 _ _ _).trans h1
  clear_value s2
  split
  next j hj =>
    extract_lets n last'
    rw [State.joinStopped, wr_ban, State.joinStopped, ← h2, hj]
    rfl
  next => rw [State.joinStopped, h2, State.joinStopped]

theorem foldl_joinStopped {α : Type} (l : List α) {f : State → α → State}
    (hf : ∀ t x, (f t x).joinStopped = t.joinStopped) (s : State) : (l.foldl f s).joinStopped = s.joinStopped :=
  List.foldlRecOn (motive := fun t => t.joinStopped = s.joinStopped) l f rfl fun t ht x _ => (hf t x).trans ht

theorem dirtySend_joinStopped (s : State) (now : List HamperSec) : (s.dirtySend now).joinStopped = s.joinStopped := by
  unfold State.dirtySend
  split
  · exact foldl_joinStopped _ (fun t x => hamperSend_joinStopped t x _) s
  · rfl

/-- The final sections as they go out at the landing. -/
def State.finalSend (s : State) : State :=
  let s := s.dirtySend (s.tasksByPrio.map (fun t => s.hamperTask t))
  s.hamperAll.foldl (fun (s : State) x => s.hamperSend x [(0, x.bytes)]) s

theorem finalSend_joinStopped (s : State) : s.finalSend.joinStopped = s.joinStopped :=
  (foldl_joinStopped _ (fun t x => hamperSend_joinStopped t x _) _).trans (dirtySend_joinStopped _ _)

/-- They leave every part beside the Banister's own and the registers. -/
theorem finalSend_frame {F : Place → Bool} (s : State) (hF : Al F [.ban, .regs]) : Fr F s s.finalSend :=
  fr_foldl (fun t x ht => State.hamperSend_frame t x _ hF ht) (State.dirtySend_frame s _ hF (fr_self _ s))

/-- At its landing the running module stops, and sends its final sections. -/
theorem exec_swapLanding {s : State} {j : Join} {n : Nat} (hj : s.ban.join = some j) (hn : j.swapAt = some n)
    (ha : j.active = true) (hu : j.upgrade = true) (hs : j.stopped = false) (ht : s.scn.ticks + 1 = n) :
    exec .swapLanding s = .next (State.finalSend { s with
      frc := max s.frc (s.tickFrc n)
      scn := { s.scn with lastTick := some (State.tickFrc { s with frc := max s.frc (s.tickFrc n) } n), ticks := n }
      ban := { s.ban with join := some { j with stopped := true, swapFrc := max s.frc (s.tickFrc n) } } }) := by
  show execSwapLanding s = _
  simp only [execSwapLanding, hj, hn]
  exact if_pos ⟨ha, hu, by rw [hs]; rfl, ht⟩

theorem swapLanding_stops (s : State) (j : Join) (n : Nat) (hj : s.ban.join = some j) (hn : j.swapAt = some n)
    (ha : j.active = true) (hu : j.upgrade = true) (hs : j.stopped = false) (ht : s.scn.ticks + 1 = n) :
    Nexts (exec .swapLanding s) (fun t => t.ban.join.map (fun j => j.stopped) = some true ∧ t.scn.ticks = n ∧
      t.frc = max s.frc (s.tickFrc n)) := by
  rw [exec_swapLanding hj hn ha hu hs ht, nexts_next]
  refine ⟨finalSend_joinStopped _, ?_, ?_⟩
  · exact congrArg Scan.ticks (finalSend_frame (F := fun p => p != .scn) _ rfl .scn rfl)
  · exact finalSend_frame (F := fun p => p != .frc) _ rfl .frc rfl

/-! ### READY (R239) -/

/-- Only a cold module replays. -/
theorem replayGo_of_not_cold {s : State} (h : s.role ≠ roleCold) : s.replayGo = s := by
  have hidle : ¬s.replays = true := by simp [State.replays, State.logs, h]
  unfold State.replayGo
  split
  · exact if_neg hidle
  · rfl

/-- With no message waiting, a delivery to a module that is not cold is its effect. -/
theorem deliver_of_not_cold {s t : State} {k : State → State} (hk : k s = t) (hrole : t.role ≠ roleCold)
    (he : t.ban.early = []) : s.deliver k = t := by
  rw [State.deliver, hk, replayGo_of_not_cold hrole, he]
  rfl

/-- What the module that has stopped has learnt of the candidate. -/
def Join.readied (j : Join) (s : State) (resets discarded : Nat) : Join :=
  { j with mapUs := (s.frc - j.swapFrc) / 1000, resets, discarded, j := some (s.scn.ticks + 1) }

/-- The handover that READY begins, as the registers show it. -/
def State.readyShown (s : State) : State :=
  ((((s.post Un.ban 0x0806 9 s.role (s.rd Reg.BAN_PEER_SERIAL)).wr Reg.BAN_HO_TRIGGER 9).wr Reg.BAN_HO_SKIPPED 0).wr
    Reg.BAN_STAT_HANDOVER 1).bump Reg.BAN_HO_CNT_COUNT

theorem readyShown_ban (s : State) : s.readyShown.ban = s.ban := by
  simp only [State.readyShown, bump_ban, wr_ban, post_ban]

theorem readyShown_frc (s : State) : s.readyShown.frc = s.frc := by
  simp only [State.readyShown, bump_frc, wr_frc, post_frc]

theorem readyShown_role (s : State) : s.readyShown.role = s.role := by
  rw [State.role, State.readyShown, State.bump, rd_wr_addr _ _ _ _ (by decide), rd_wr_bits _ _ _ _ (by decide) (by decide),
    rd_wr_addr _ _ _ _ (by decide), rd_wr_addr _ _ _ _ (by decide), rd_post _ _ _ _ _ _ _ (by decide), State.role]

theorem readyShown_shows (s : State) :
    s.readyShown.on Reg.BAN_STAT_HANDOVER = true ∧ s.readyShown.rd Reg.BAN_HO_TRIGGER = 9 := by
  refine ⟨?_, ?_⟩
  · rw [State.readyShown, State.bump, on_wr_addr _ _ _ _ (by decide), on_wr_self _ _ _ (by decide)]
    rfl
  · rw [State.readyShown, State.bump, rd_wr_addr _ _ _ _ (by decide), rd_wr_addr _ _ _ _ (by decide),
      rd_wr_bits _ _ _ _ (by decide) (by decide), rd_wr_self _ _ _ (by decide)]
    rfl

/-- A handover is in progress. -/
def State.setHo (s : State) (h : Handover) : State := { s with ban := { s.ban with ho := some h } }

theorem setHo_ban (s : State) (h : Handover) : (s.setHo h).ban = { s.ban with ho := some h } := rfl

theorem setHo_rd (s : State) (h : Handover) (f : Fld) : (s.setHo h).rd f = s.rd f := rfl

/-- The handover that READY begins on the module that has stopped. -/
def State.readyBegun (s : State) : State :=
  s.readyShown.setHo
    { old := true, trigger := 9, before := s.role, at_ := s.readyShown.frc, lastC := s.readyShown.ban.lastC }

theorem readyBegun_ban (s : State) : s.readyBegun.ban = { s.ban with
    ho := some { old := true, trigger := 9, before := s.role, at_ := s.frc, lastC := s.ban.lastC } } := by
  rw [State.readyBegun, setHo_ban, readyShown_ban, readyShown_frc]

theorem readyBegun_rd (s : State) (f : Fld) : s.readyBegun.rd f = s.readyShown.rd f := setHo_rd _ _ _

theorem readyTake_stopped {s : State} {j : Join} (hj : s.ban.join = some j) (ha : j.active = true)
    (hs : j.stopped = true) (hho : s.ban.ho = none) (resets discarded : Nat) :
    s.readyTake resets discarded = (s.setJoin (j.readied s resets discarded)).readyBegun := by
  rw [State.readyTake, hj]
  exact if_pos (by simp [ha, hs, hho])

theorem ready_begins (s : State) (a : Arrival) (resets discarded : BitVec 32) (j : Join) (h : s.hears a = true)
    (hrole : s.role ≠ roleCold) (hj : s.ban.join = some j) (hearly : s.ban.early = []) (ha : j.active = true)
    (hs : j.stopped = true) (hho : s.ban.ho = none) :
    Nexts (exec (.ready a resets discarded) s) (fun t => t.on Reg.BAN_STAT_HANDOVER = true ∧
      t.rd Reg.BAN_HO_TRIGGER = 9 ∧ t.ban.ho = some
        { old := true, trigger := 9, before := s.role, at_ := s.frc, lastC := s.ban.lastC }) := by
  have hord := inOrder_of_hears h
  have htake := readyTake_stopped ((heard_join hord).trans hj) ha hs ((heard_ho s a).trans hho) resets.toNat
    discarded.toNat
  generalize hu : (s.heard a).setJoin (j.readied (s.heard a) resets.toNat discarded.toNat) = u at htake
  have hurole : u.role = s.role := hu ▸ heard_role s a
  have hwait : u.readyBegun.ban.early = [] := by
    rw [readyBegun_ban, ← hu]
    exact (heard_early hord).trans hearly
  obtain ⟨hon, htrig⟩ := readyShown_shows u
  refine ⟨u.readyBegun, congrArg Host.Outcome.next ((arrive_of_hears h _).trans
    (deliver_of_not_cold htake ?_ hwait)), ?_, ?_, ?_⟩
  · rw [State.role, readyBegun_rd, ← State.role, readyShown_role, hurole]
    exact hrole
  · rw [State.on, readyBegun_rd, ← State.on, hon]
  · rw [readyBegun_rd, htrig]
  · have hfrc : u.frc = s.frc := hu ▸ heard_frc s a
    have hlast : u.ban.lastC = s.ban.lastC := by
      rw [← hu, heard_of_inOrder hord]
      rfl
    rw [readyBegun_ban, hurole, hfrc, hlast]

/-! ### Latent hours (R242) -/

theorem latentCount_latDone (s : State) : s.latentCount.ban.latDone = s.ban.latDone := rfl

/-- The hour that reaches a limit is recorded, where it has not been. -/
theorem exec_latentLimitReached (s : State) (hr : s.power.running = true)
    (hlimit : s.latentCount.rd Reg.BAN_LATENT_LIMIT ≠ 0)
    (hreached : s.latentCount.rd Reg.BAN_LATENT_LIMIT ≤ s.latentCount.rd Reg.BAN_LATENT_HOURS)
    (hdone : s.ban.latDone = false) :
    exec .latentLimitReached s = .next (({ s.latentCount with ban := { s.latentCount.ban with latDone := true } } :
      State).post Un.ban 0x0816 (s.latentCount.rd Reg.BAN_LATENT_HOURS) (s.latentCount.rd Reg.BAN_LATENT_LIMIT) 0) :=
  if_pos ⟨hr, hlimit, hreached, by rw [latentCount_latDone, hdone]; rfl⟩

end Sys2Proof.Machine
end

section
open Sys2Proof Sys2Proof.Machine

/-- Settles O34: each command where what it is for is due (log 12, 142, 182, 209). The final sections that go out at the
landing leave the join stopped and the tick at which it stopped. -/
theorem upgradeCommandsComplete : Obligations.UpgradeCommandsComplete :=
  ⟨upgradeAdmit_shows, upgradeAdmitLapse_clears, abandonUpgrade_ends, banSwap_announces, exec_swap, swapLanding_stops,
    ready_begins, exec_latentLimitReached⟩

end

section
/-!
The safety domain's own clock, its cycles, tests and forced trips (R246 to R266): what each does where it is due, and
what an adoption holds to its end.
-/
namespace Sys2Proof.Machine

/-! ### Waiting on the safety domain's clock (R20) -/

/-- Time that passes changes no register. -/
theorem waitTo_regs (s : State) (n : Nat) : (s.waitTo n).regs = s.regs :=
  State.waitTo_frame (F := fun p => p != .regs) s n rfl (fr_self _ s) .regs rfl

theorem keepsReg_waitTo (a : Nat) (s : State) (n : Nat) : KeepsReg a s (s.waitTo n) := .of_regs (waitTo_regs s n)

theorem waitTo_zero_frc (s : State) : (s.waitTo 0).frc = s.frc := by
  unfold State.waitTo
  split_ifs
  · simp
  · rfl

/-- Time passes up to an interval after an instant that has been, and not at all where none has. -/
def State.waitSince (s : State) (last : Option Nat) (d : Nat) : State :=
  match last with
  | some n => s.waitTo (n + d)
  | none => s

theorem waitSince_frc (s : State) (last : Option Nat) (d : Nat) :
    (s.waitSince last d).frc = (s.waitTo (match last with | some n => n + d | none => 0)).frc := by
  cases last with
  | none => exact (waitTo_zero_frc s).symm
  | some n => rfl

theorem keepsReg_waitSince (a : Nat) (s : State) (last : Option Nat) (d : Nat) : KeepsReg a s (s.waitSince last d) := by
  cases last with
  | none => exact .self
  | some n => exact keepsReg_waitTo a s (n + d)

/-- The test by which a command asks for the safety rail is met. -/
theorem powered_not_off {s : State} (h : s.saf.powered = true) : ¬(!s.saf.powered) = true := by simp [h]

/-! ### Cycles (R246) and watchdogs (R248) -/

/-- A cycle ends, and the next one starts with it. -/
def State.cycleEnds (s : State) : State :=
  let u := s.waitSince s.saf.cycleAt 9999000
  { u with saf := { u.saf with cycleAt := some u.safClock } }

theorem keepsReg_cycleEnds (a : Nat) (s : State) : KeepsReg a s s.cycleEnds :=
  (keepsReg_waitSince a s _ _).of_eq rfl

/-- It is counted. -/
def State.cycleCounted (s : State) : State :=
  s.cycleEnds.wr64 Reg.SAF_CYCLE_LO Reg.SAF_CYCLE_HI (s.rd64 Reg.SAF_CYCLE_LO Reg.SAF_CYCLE_HI + 1)

theorem cycleEnds_rd64 (s : State) :
    s.cycleEnds.rd64 Reg.SAF_CYCLE_LO Reg.SAF_CYCLE_HI = s.rd64 Reg.SAF_CYCLE_LO Reg.SAF_CYCLE_HI := by
  rw [State.rd64, (keepsReg_cycleEnds _ s).rd, (keepsReg_cycleEnds _ s).rd, State.rd64]

theorem cycleCounted_state (s : State) : s.cycleCounted.rd Reg.SAF_STAT_STATE = s.rd Reg.SAF_STAT_STATE := by
  rw [State.cycleCounted, rd_wr64_ne _ _ _ _ _ (by decide) (by decide), (keepsReg_cycleEnds _ s).rd]

/-- The cycle counter has 64 bits. -/
theorem cycleCounted_rd64 (s : State) : s.cycleCounted.rd64 Reg.SAF_CYCLE_LO Reg.SAF_CYCLE_HI =
    (s.rd64 Reg.SAF_CYCLE_LO Reg.SAF_CYCLE_HI + 1) % 2 ^ 64 := by
  rw [State.cycleCounted, State.wr64, State.rd64, rd_wr_addr _ _ _ _ (by decide), rd_wr_self _ _ _ (by decide),
    rd_wr_self _ _ _ (by decide)]
  simp only [Reg.SAF_CYCLE_LO, Reg.SAF_CYCLE_HI]
  omega

theorem exec_safetyCycle {s : State} (x : SafCycle) (hp : s.saf.powered = true) :
    exec (.safetyCycle x) s = .next
      (if s.rd Reg.SAF_STAT_STATE = 0 then s.cycleCounted else (s.cycleCounted.safCycle x).tgRead) := by
  rw [← cycleCounted_state, State.cycleCounted, ← cycleEnds_rd64]
  exact if_neg (powered_not_off hp)

theorem safetyCycle_boot (s : State) (x : SafCycle) (hp : s.saf.powered = true)
    (hboot : s.rd Reg.SAF_STAT_STATE = 0) : Nexts (exec (.safetyCycle x) s) (fun t =>
      t.rd64 Reg.SAF_CYCLE_LO Reg.SAF_CYCLE_HI = (s.rd64 Reg.SAF_CYCLE_LO Reg.SAF_CYCLE_HI + 1) % 2 ^ 64 ∧
      t.saf.cycleAt = some t.safClock ∧
      t.frc = (s.waitTo (match s.saf.cycleAt with | some n => n + 9999000 | none => 0)).frc) := by
  rw [exec_safetyCycle x hp, if_pos hboot, nexts_next]
  exact ⟨cycleCounted_rd64 s, rfl, waitSince_frc s s.saf.cycleAt 9999000⟩

theorem safetyCycle_past_boot (s : State) (x : SafCycle) (hp : s.saf.powered = true)
    (hpast : s.rd Reg.SAF_STAT_STATE ≠ 0) :
    exec (.safetyCycle x) s = .next (s.cycleCounted.safCycle x).tgRead := by
  rw [exec_safetyCycle x hp, if_neg hpast]

theorem watchdog_due {s : State} (hp : s.saf.powered = true) (hpast : s.rd Reg.SAF_STAT_STATE ≠ 0) :
    ¬((!s.saf.powered) = true ∨ s.rd Reg.SAF_STAT_STATE = 0) :=
  not_or.2 ⟨powered_not_off hp, hpast⟩

theorem exec_watchdogExpiry_late (s : State) (spb : Bool) (hp : s.saf.powered = true)
    (hpast : s.rd Reg.SAF_STAT_STATE ≠ 0) : exec (.safetyWatchdogExpiry spb false) s =
      .next ((s.waitTo (s.saf.cycleAt.getD s.safClock + 10500000)).procFail (b2n spb) 1) :=
  if_neg (watchdog_due hp hpast)

theorem exec_watchdogExpiry_early (s : State) (spb : Bool) (n : Nat) (hp : s.saf.powered = true)
    (hpast : s.rd Reg.SAF_STAT_STATE ≠ 0) (hn : s.saf.cycleAt = some n) (hearly : s.safClock < n + 9500000) :
    exec (.safetyWatchdogExpiry spb true) s = .next (s.procFail (b2n spb) 1) := by
  have hany : s.saf.cycleAt.any (fun t => decide (s.safClock < t + 9500000)) = true := by
    rw [hn, Option.any_some, decide_eq_true_iff]
    exact hearly
  show execSafetyWatchdogExpiry spb true s = _
  rw [execSafetyWatchdogExpiry, if_neg (watchdog_due hp hpast), if_pos rfl, if_pos hany]

/-! ### What the steps of an adoption and of a forced trip leave (R249, R250) -/

/-- The held section, the offered one, the loader's confirmation and the forced trip are as they were. -/
structure HeldKeeps (s t : State) : Prop where
  held : t.saf.section_ = s.saf.section_
  offered : t.saf.offered = s.saf.offered
  confirmed : t.saf.confirmed = s.saf.confirmed
  forced : t.saf.forced = s.saf.forced

namespace HeldKeeps
variable {s t u : State}

theorem self : HeldKeeps s s := ⟨rfl, rfl, rfl, rfl⟩

theorem trans (h : HeldKeeps s t) (h' : HeldKeeps t u) : HeldKeeps s u :=
  ⟨h'.held.trans h.held, h'.offered.trans h.offered, h'.confirmed.trans h.confirmed, h'.forced.trans h.forced⟩

/-- What leaves the safety domain's part leaves these. -/
theorem of_saf (h : HeldKeeps s t) (e : u.saf = t.saf) : HeldKeeps s u :=
  h.trans ⟨by rw [e], by rw [e], by rw [e], by rw [e]⟩

theorem foldl {α : Type} {l : List α} {f : State → α → State} (hf : ∀ x t, HeldKeeps s t → HeldKeeps s (f t x))
    (h : HeldKeeps s t) : HeldKeeps s (l.foldl f t) :=
  List.foldlRecOn l f h fun t ht x _ => hf x t ht

theorem wr (h : HeldKeeps s t) (f : Fld) (v : Nat) : HeldKeeps s (t.wr f v) := h.of_saf (wr_saf _ _ _)

theorem post (h : HeldKeeps s t) (source code p1 p2 p3 : Nat) : HeldKeeps s (t.post source code p1 p2 p3) :=
  h.of_saf (post_saf _ _ _ _ _ _)

theorem safShow (h : HeldKeeps s t) : HeldKeeps s t.safShow :=
  h.of_saf (State.safShow_frame (F := fun p => p != .saf) t rfl (fr_self _ t) .saf rfl)

theorem safSummary (h : HeldKeeps s t) : HeldKeeps s t.safSummary := h.of_saf rfl

theorem setExc (h : HeldKeeps s t) (f : Nat) (e : SafExc) : HeldKeeps s (t.setExc f e) := h.trans ⟨rfl, rfl, rfl, rfl⟩

theorem setTg (h : HeldKeeps s t) (c : Nat) (x : TgConn) : HeldKeeps s (t.setTg c x) := h.trans ⟨rfl, rfl, rfl, rfl⟩

theorem safFunctions (h : HeldKeeps s t) (lost : Nat) : HeldKeeps s (t.safFunctions lost) := by
  refine foldl (fun f u hu => ?_) h
  split
  case h_1 =>
    extract_lets now e e' remain v
    have hv : HeldKeeps s v := by
      simp only [v]
      split_ifs
      · exact hu.setExc _ _
      · exact hu
    exact ((hv.wr _ _).wr _ _).wr _ _
  case h_2 => exact hu.wr _ _
  case h_3 =>
    extract_lets src v
    have hv : HeldKeeps s v := hu.trans ⟨rfl, rfl, rfl, rfl⟩
    exact (hv.wr _ _).post _ _ _ _ _
  case h_4 => exact hu.wr _ _

theorem tgStart (h : HeldKeeps s t) : HeldKeeps s t.tgStart := by
  refine foldl (fun c u hu => ?_) h
  split_ifs
  · exact hu
  · exact hu.setTg _ _

theorem sinkTrip (h : HeldKeeps s t) (prods k : Nat) : HeldKeeps s (t.sinkTrip prods k) :=
  h.of_saf (State.sinkTrip_frame (F := fun p => p != .saf) t prods k rfl (fr_self _ t) .saf rfl)

theorem sinkUpdate (h : HeldKeeps s t) (prods k : Nat) : HeldKeeps s (t.sinkUpdate prods k) := by
  unfold State.sinkUpdate
  extract_lets demand latched src u tripped was v
  have hu : HeldKeeps s u := by
    simp only [u]
    split_ifs
    · refine HeldKeeps.wr ?_ _ _
      exact h.trans ⟨rfl, rfl, rfl, rfl⟩
    · exact h
  have hv : HeldKeeps s v := hu.wr _ _
  split_ifs
  · exact hv.sinkTrip _ _
  · exact hv

theorem matrix (h : HeldKeeps s t) : HeldKeeps s t.matrix := by
  unfold State.matrix
  split_ifs
  · exact h
  · extract_lets prods u v
    exact foldl (fun k w hw => hw.sinkUpdate prods k) (((h.wr _ _).wr _ _).wr _ _ |>.wr _ _)

theorem enterSafe (h : HeldKeeps s t) (cause : Nat) : HeldKeeps s (t.enterSafe cause) := by
  unfold State.enterSafe
  extract_lets was u src v
  split_ifs
  · exact (h.wr _ _).matrix
  · have hv : HeldKeeps s v := by
      refine HeldKeeps.wr ?_ _ _
      exact (h.wr Reg.SAF_STAT_SAFE_CAUSE cause).trans ⟨rfl, rfl, rfl, rfl⟩
    exact (hv.post _ _ _ _ _).matrix

end HeldKeeps

/-! ### Forced trips (R249) and the start (R250) -/

theorem forceTrip_forced (s : State) (cause : Nat) : (s.forceTrip cause).saf.forced = true := by
  unfold State.forceTrip
  split_ifs with h
  · exact h
  · exact (HeldKeeps.self.enterSafe cause).forced

theorem supervisorForce_holds (s : State) (why : SafForce) (hp : s.saf.powered = true) :
    Nexts (exec (.supervisorForce why) s)
      (fun t => t = s.forceTrip (match why with | .rail => 4 | .clock => 5) ∧ t.saf.forced = true) :=
  ⟨_, if_pos hp, rfl, forceTrip_forced _ _⟩

theorem exec_safetyBootComplete (s : State) (okA okB planeA planeB : Bool) (hp : s.saf.powered = true)
    (hboot : s.rd Reg.SAF_STAT_STATE = 0) :
    exec (.safetyBootComplete okA okB planeA planeB) s = .next (s.safBoot okA okB planeA planeB) :=
  if_neg (not_or.2 ⟨powered_not_off hp, not_not.2 hboot⟩)

/-! ### Adoption (R250) -/

/-- The offered section is the held one, and the tests of the old one are dropped. -/
def State.takeOffered (s : State) : State :=
  { s with saf := { s.saf with
    cycleAt := some s.safClock
    section_ := s.saf.offered, offered := [], confirmed := true, ons := 0, lineGood := [], pulse := [], smpDue := 0
    tg := s.saf.tg.map (fun (c : Nat × TgConn) => (c.1, { limit := c.2.limit, txSeq := c.2.txSeq })) } }

/-- The domain starts on its new section. -/
def State.startAdopted (s : State) : State :=
  (((s.wr Reg.SAF_TP 0).safShow.safFunctions 0).tgStart.enterSafe 2).safSummary

theorem startAdopted_held (s : State) : HeldKeeps s s.startAdopted :=
  (((((HeldKeeps.self.of_saf (wr_saf s _ _)).safShow).safFunctions 0).tgStart).enterSafe 2).safSummary

theorem startAdopted_frc (s : State) : s.startAdopted.frc = s.frc :=
  State.safSummary_frame (F := fun p => p != .frc) _ rfl
    (State.enterSafe_frame _ 2 rfl (State.tgStart_frame _ rfl (State.safFunctions_frame _ 0 rfl
      (State.safShow_frame _ rfl (State.wr_frame s _ _ rfl (fr_self _ s)))))) .frc rfl

theorem exec_safetyAdoptComplete {s : State} (hp : s.saf.powered = true) (hoff : s.saf.offered ≠ [])
    (hst : s.rd Reg.SAF_STAT_STATE = 3) : exec .safetyAdoptComplete s =
      .next (s.waitTo (s.saf.offerAt + 10000000)).safStore.takeOffered.startAdopted :=
  if_neg (not_or.2 ⟨powered_not_off hp, not_or.2 ⟨hoff, not_not.2 hst⟩⟩)

theorem waitTo_offered (s : State) (n : Nat) : (s.waitTo n).saf.offered = s.saf.offered := by
  unfold State.waitTo
  split_ifs <;> rfl

theorem safetyAdoptComplete_takes (s : State) (hp : s.saf.powered = true) (hoff : s.saf.offered ≠ [])
    (hst : s.rd Reg.SAF_STAT_STATE = 3) : Nexts (exec .safetyAdoptComplete s) (fun t =>
      t.saf.section_ = s.saf.offered ∧ t.saf.offered = [] ∧ t.saf.confirmed = true ∧
      t.frc = (s.waitTo (s.saf.offerAt + 10000000)).frc) := by
  rw [exec_safetyAdoptComplete hp hoff hst, nexts_next]
  obtain ⟨hheld, hoffered, hconf, -⟩ :=
    startAdopted_held (s.waitTo (s.saf.offerAt + 10000000)).safStore.takeOffered
  exact ⟨hheld.trans (waitTo_offered s _), hoffered, hconf, startAdopted_frc _⟩

/-! ### Test pulses (R260 to R262) -/

theorem exec_testPulseOff (s : State) (l : Fin 8) (hp : s.saf.powered = true) (hpast : s.rd Reg.SAF_STAT_STATE ≠ 0)
    (hon : bitAt s.linesOn l = true) : exec (.testPulseOff l) s = .next (
      let from_ := match Assoc.find? s.saf.pulse l with
        | some n => max s.safClock (n + 1)
        | none => s.safClock
      let u := s.waitTo (nextPhase from_ (if s.lineTwice l then 10000000 else 20000000) (linePhase l))
      if (List.range 8).any (fun j => u.lineOff j 400000) then u
      else { u with saf := { u.saf with
        pulse := Assoc.insert u.saf.pulse l u.safClock, smpDue := putBit u.saf.smpDue l true } }) := by
  have hdue : (s.saf.powered && s.rd Reg.SAF_STAT_STATE != 0 && bitAt s.linesOn l) = true := by simp [hp, hpast, hon]
  exact (if_pos hdue).trans (apply_ite Host.Outcome.next _ _ _).symm

theorem exec_testPulseSample (s : State) (l : Fin 8) (on : BitVec 16) (volts10 : Nat) (users : List (BitVec 64))
    (hdue : bitAt s.saf.smpDue l = true) : exec (.testPulseSample l on volts10 users) s =
      .next ((s.waitTo ((Assoc.find? s.saf.pulse l).getD 0 + 300000)).pulseSample l on volts10 users) :=
  if_neg (by simp [hdue])

/-! ### Excursions and return checks (R259, R264, R266) -/

theorem exec_excursionExpire_function (s : State) (f : Fin 64) (hp : s.saf.powered = true)
    (hst : s.rd (Reg.SAF_FUNC_STATE f) = funExcursion) :
    exec (.excursionExpire (.function f)) s = .next (s.funExpire f) :=
  (if_neg (powered_not_off hp)).trans (if_pos hst)

theorem exec_excursionExpire_matrix (s : State) (x : SafExc) (hp : s.saf.powered = true)
    (hexc : s.on Reg.TRP_STAT_EXCURSION = true) (hx : s.saf.excM = some x) :
    exec (.excursionExpire .matrix) s = .next (s.waitTo x.until_).matrixForce := by
  show execExcursionExpire .matrix s = _
  rw [execExcursionExpire, if_neg (powered_not_off hp), hx]
  exact if_pos hexc

theorem exec_excursionStore (s : State) (hp : s.saf.powered = true) (hpast : s.rd Reg.SAF_STAT_STATE ≠ 0) :
    exec .excursionStore s = .next (
      let u := s.waitTo (s.saf.minAt + minute)
      let u : State := { u with saf := { u.saf with minAt := u.safClock } }
      ((List.range 64).foldl (fun (u : State) f =>
        if u.rd (Reg.SAF_FUNC_STATE f) = funExcursion then
          u.wr (Reg.SAF_FUNC_REMAIN f) ((u.excOf f).remain u.safClock)
        else u) u).safStore) :=
  if_pos ⟨hp, hpast⟩

/-- The end of a return check that its function's timer has not come before. -/
def State.checkEnded (s : State) (f : Nat) : State :=
  (s.waitTo ((Assoc.find? s.saf.checkAt f).getD s.safClock + minute)).wr (Reg.SAF_FUNC_CHECK f) 0

theorem check_due {s : State} {f : Nat} (hp : s.saf.powered = true) (hon : s.on (Reg.SAF_FUNC_CHECK f) = true) :
    ¬((!s.saf.powered) = true ∨ (!s.on (Reg.SAF_FUNC_CHECK f)) = true) :=
  not_or.2 ⟨powered_not_off hp, by simp [hon]⟩

theorem exec_returnCheckEnd_expired (s : State) (f : Fin 64) (proc : Bool) (hp : s.saf.powered = true)
    (hon : s.on (Reg.SAF_FUNC_CHECK f) = true)
    (hover : (s.excOf f).until_ ≤ (Assoc.find? s.saf.checkAt f).getD s.safClock + minute) :
    exec (.returnCheckEnd f proc) s = .next (s.funExpire f) :=
  (if_neg (check_due hp hon)).trans (if_pos hover)

theorem exec_returnCheckEnd {s : State} {f : Fin 64} (proc : Bool) (hp : s.saf.powered = true)
    (hon : s.on (Reg.SAF_FUNC_CHECK f) = true)
    (hin : (Assoc.find? s.saf.checkAt f).getD s.safClock + minute < (s.excOf f).until_) :
    exec (.returnCheckEnd f proc) s = if (s.checkEnded f).funReturned f proc then .next ((s.checkEnded f).funReturn f)
      else .next ((s.checkEnded f).post Un.saf 0x0908 f ((s.checkEnded f).rd (Reg.SAF_FUNC_CAUSE f)) 0) :=
  (if_neg (check_due hp hon)).trans (if_neg (Nat.not_le.2 hin))

theorem returnCheckEnd_returns (s : State) (f : Fin 64) (proc : Bool) (u : State) (hp : s.saf.powered = true)
    (hon : s.on (Reg.SAF_FUNC_CHECK f) = true)
    (hin : (Assoc.find? s.saf.checkAt f).getD s.safClock + minute < (s.excOf f).until_) (hu : u = s.checkEnded f)
    (hret : u.funReturned f proc = true) : exec (.returnCheckEnd f proc) s = .next (u.funReturn f) := by
  subst hu
  rw [exec_returnCheckEnd proc hp hon hin, if_pos hret]

/-- The registers of the functions lie below the Guestbook's, and an event leaves them. -/
theorem keepsReg_post_func (s : State) (f : Fin 64) (source code p1 p2 p3 : Nat) :
    KeepsReg (Reg.SAF_FUNC f).addr s (s.post source code p1 p2 p3) :=
  KeepsReg.self.post _ _ _ _ _ (by simp only [Reg.SAF_FUNC]; omega)

/-- A check that does not pass ends, and its function stays in Excursion. -/
theorem returnCheckEnd_fails (s : State) (f : Fin 64) (proc : Bool) (u : State) (hp : s.saf.powered = true)
    (hon : s.on (Reg.SAF_FUNC_CHECK f) = true)
    (hin : (Assoc.find? s.saf.checkAt f).getD s.safClock + minute < (s.excOf f).until_) (hu : u = s.checkEnded f)
    (hret : u.funReturned f proc = false) : Nexts (exec (.returnCheckEnd f proc) s) (fun t =>
      t.on (Reg.SAF_FUNC_CHECK f) = false ∧ t.rd (Reg.SAF_FUNC_STATE f) = s.rd (Reg.SAF_FUNC_STATE f)) := by
  subst hu
  rw [exec_returnCheckEnd proc hp hon hin, if_neg (by simp [hret]), nexts_next]
  have hpost := keepsReg_post_func (s.checkEnded f) f Un.saf 0x0908 f ((s.checkEnded f).rd (Reg.SAF_FUNC_CAUSE f)) 0
  refine ⟨?_, ?_⟩
  · exact (hpost.on (f := Reg.SAF_FUNC_CHECK f)).trans (on_wr_self _ (Reg.SAF_FUNC_CHECK f) 0 (Nat.le_of_ble_eq_true rfl))
  · rw [hpost.rd (f := Reg.SAF_FUNC_STATE f), State.checkEnded,
      rd_wr_bits _ (Reg.SAF_FUNC_CHECK f) (Reg.SAF_FUNC_STATE f) 0 (Nat.le_of_ble_eq_true rfl) (.inr (Nat.le_refl 29)),
      (keepsReg_waitTo _ s _).rd]

/-! ### Stale fields (R265, R309) and monitor warnings (R255) -/

/-- A stale field on either path of a fitted island is looked at. -/
theorem stale_due {s : State} {k : Fin 8} {spa spb : Bool} (hpath : (spa || spb) = true) (hfit : s.islFitted k = true) :
    ¬(!(spa || spb) || !s.islFitted k) = true := by
  simp [hpath, hfit]

theorem exec_safetyFieldStale_island (s : State) (k : Fin 8) (spa spb : Bool) (users : BitVec 64)
    (hpath : (spa || spb) = true) (hfit : s.islFitted k = true) (halive : (s.island k).alive = true) :
    exec (.safetyFieldStale k false spa spb users) s = .next (s.fieldStale k spa spb) :=
  (if_neg (stale_due hpath hfit)).trans (congrArg Host.Outcome.next (if_pos halive))

theorem exec_safetyFieldStale_domain (s : State) (k : Fin 8) (spa spb : Bool) (users : BitVec 64)
    (hpath : (spa || spb) = true) (hfit : s.islFitted k = true) (hp : s.saf.powered = true)
    (hown : s.safOwned k = true) :
    exec (.safetyFieldStale k true spa spb users) s = .next (s.fieldLost k spa spb users.toNat) :=
  (if_neg (stale_due hpath hfit)).trans (congrArg Host.Outcome.next (if_pos (by simp [hp, hown])))

theorem exec_safetyMonitorWarning (s : State) (rail clock : Bool) (hp : s.saf.powered = true) :
    exec (.safetyMonitorWarning rail clock) s =
      .next ({ s with saf := { s.saf with itt50 := rail, itt51 := clock } } : State).matrix :=
  if_pos hp

end Sys2Proof.Machine
end

section
open Sys2Proof Sys2Proof.Machine

/-- Settles O35: each command where what it is for is due (log 12, 66, 72, 214). An adoption holds its section through
the start on it, and a forced trip holds through the entry of SAFE. -/
theorem safetyDomainCommandsComplete : Obligations.SafetyDomainCommandsComplete :=
  ⟨safetyCycle_boot, safetyCycle_past_boot, exec_watchdogExpiry_late, exec_watchdogExpiry_early, supervisorForce_holds,
    exec_safetyBootComplete, safetyAdoptComplete_takes, exec_testPulseOff, exec_testPulseSample,
    exec_excursionExpire_function, exec_excursionExpire_matrix, exec_excursionStore, exec_returnCheckEnd_expired,
    returnCheckEnd_returns, returnCheckEnd_fails, exec_safetyFieldStale_island, exec_safetyFieldStale_domain,
    exec_safetyMonitorWarning⟩

end

section
/-!
Commands to the safety domain and the trip matrix (R254 to R259, R263, R264, R516): SAF_CMD where its checks pass, the
return check of the matrix, and what the matrix reads from outside the safety domain.
-/
namespace Sys2Proof.Machine

/-! ### SAF_CMD (R263, R264, R516) -/

/-- A write of SAF_CMD that its checks allow does what SAF_CMD does: the safety domain has no idle state to wake from. -/
theorem access_safCmd {s : State} {m : Master} (h : s.allows m .w32 true Reg.SAF_CMD.addr) (k : State → State) :
    s.access m .w32 true Reg.SAF_CMD.addr k = k (s.answer 0) :=
  access_allows h k

/-- What a SAF_CMD word spells: the key, the command and the function. -/
theorem safCmd_fields {cmd f v : Nat} (hcmd : cmd < 16) (hf : f < 64) (hv : v = 0xA5000000 + cmd + f * 2 ^ 8) :
    bits v 0 4 = cmd ∧ bits v 8 6 = f ∧ bits v 24 8 = 0xA5 := by
  simp only [bits]
  omega

/-- SAF_CMD_STAT shows that the command was accepted. -/
def State.safCmdOk (s : State) : State := s.cmdStat Reg.SAF_CMD_STAT_STATUS Reg.SAF_CMD_STAT_REASON 0

/-- What leaves SAF_CMD_STAT shows it still. -/
theorem safCmdOk_shows {s t : State} (h : KeepsReg Reg.SAF_CMD_STAT.addr s.safCmdOk t) :
    t.rd Reg.SAF_CMD_STAT_STATUS = Sta.ok ∧ t.rd Reg.SAF_CMD_STAT_REASON = 0 := by
  refine ⟨(h.rd (f := Reg.SAF_CMD_STAT_STATUS)).trans ?_, (h.rd (f := Reg.SAF_CMD_STAT_REASON)).trans ?_⟩
  · rw [State.safCmdOk, State.cmdStat, rd_wr_bits _ _ _ _ (by decide) (by decide), rd_wr_self _ _ _ (by decide)]
    rfl
  · rw [State.safCmdOk, State.cmdStat, rd_wr_self _ _ _ (by decide)]
    rfl

/-- SAF_CMD_STAT lies below the registers of the functions. -/
theorem safCmdStat_ne_func (f : Nat) : Reg.SAF_CMD_STAT.addr ≠ (Reg.SAF_FUNC f).addr := by
  simp only [Reg.SAF_CMD_STAT, Reg.SAF_FUNC]
  omega

/-- A write of SAF_CMD with its key, while the safety rail is up, is acted on. -/
theorem safCmd_heard {s : State} {k : Nat} (hp : s.saf.powered = true) (hk : k = 0xA5) :
    ¬(k ≠ 0xA5 ∨ (!s.saf.powered) = true) := by
  simp [hp, hk]

/-- The start of a function's return check is kept. -/
def State.markCheck (s : State) (f : Nat) : State :=
  { s with saf := { s.saf with
    clean := Assoc.insert s.saf.clean f true, checkAt := Assoc.insert s.saf.checkAt f s.safClock } }

theorem markCheck_regs (s : State) (f : Nat) : (s.markCheck f).regs = s.regs := rfl

/-- A function's return check begins. -/
def State.checkBegun (s : State) (f : Nat) : State := (s.wr (Reg.SAF_FUNC_CHECK f) 1).markCheck f

theorem safCmdWrite_return {s : State} {f v : Nat} (hf : f < 64) (hv : v = 0xA5000000 + 1 + f * 2 ^ 8)
    (hp : s.saf.powered = true) (hst : s.rd (Reg.SAF_FUNC_STATE f) = funExcursion)
    (hcheck : s.on (Reg.SAF_FUNC_CHECK f) = false) (hkey : s.on Reg.SAF_STAT_KEY_MAINT = true) :
    s.safCmdWrite v = s.safCmdOk.checkBegun f := by
  obtain ⟨hcmd, hfun, hA5⟩ := safCmd_fields (by decide) hf hv
  unfold State.safCmdWrite
  dsimp only
  rw [hfun, if_neg (safCmd_heard hp hA5), if_pos hcmd, if_neg (ne_of_eq_of_ne hst (by decide)), if_neg (not_not.2 hst),
    if_neg (by simp [hcheck]), if_neg (by simp [hkey])]
  rfl

theorem checkBegun_on (s : State) (f : Nat) : (s.checkBegun f).on (Reg.SAF_FUNC_CHECK f) = true :=
  ((KeepsReg.of_regs (markCheck_regs _ f)).on (f := Reg.SAF_FUNC_CHECK f)).trans
    (on_wr_self _ (Reg.SAF_FUNC_CHECK f) 1 (Nat.le_of_ble_eq_true rfl))

theorem keepsReg_checkBegun {a : Nat} (s : State) (f : Nat) (ha : a ≠ (Reg.SAF_FUNC f).addr) :
    KeepsReg a s (s.checkBegun f) :=
  (KeepsReg.self.wr (g := Reg.SAF_FUNC_CHECK f) 1 ha).of_eq (markCheck_regs _ f)

/-- A function is reset. -/
def State.funNormalised (s : State) (f : Nat) : State :=
  (((s.wr (Reg.SAF_FUNC_STATE f) funNormal).wr (Reg.SAF_FUNC_CAUSE f) 0).setFunBad f []).safSummary

theorem safCmdWrite_reset {s : State} {f v : Nat} (hf : f < 64) (hv : v = 0xA5000000 + 2 + f * 2 ^ 8)
    (hp : s.saf.powered = true) (hst : s.rd (Reg.SAF_FUNC_STATE f) = funTripped) (hpass : s.funPasses f = true) :
    s.safCmdWrite v = s.safCmdOk.funNormalised f := by
  obtain ⟨hcmd, hfun, hA5⟩ := safCmd_fields (by decide) hf hv
  unfold State.safCmdWrite
  dsimp only
  rw [hfun, if_neg (safCmd_heard hp hA5), if_neg (ne_of_eq_of_ne hcmd (by decide)), if_pos hcmd,
    if_neg (ne_of_eq_of_ne hst (by decide)), if_neg (not_not.2 hst), if_neg (by simp [hpass])]
  rfl

theorem setFunBad_regs (s : State) (f : Nat) (l : List Nat) : (s.setFunBad f l).regs = s.regs := rfl

/-- The summary of the functions stands in SAF_STAT. -/
theorem keepsReg_safSummary {a : Nat} (s : State) (ha : a ≠ Reg.SAF_STAT.addr) : KeepsReg a s s.safSummary :=
  (KeepsReg.self.wr (g := Reg.SAF_STAT_TRIPPED) _ ha).wr (g := Reg.SAF_STAT_EXCURSION) _ ha

theorem keepsReg_funNormalised {a : Nat} (s : State) (f : Nat) (ha : a ≠ (Reg.SAF_FUNC f).addr)
    (hs : a ≠ Reg.SAF_STAT.addr) : KeepsReg a s (s.funNormalised f) :=
  (((KeepsReg.self.wr (g := Reg.SAF_FUNC_STATE f) funNormal ha).wr (g := Reg.SAF_FUNC_CAUSE f) 0 ha).of_eq
    (setFunBad_regs _ f [])).trans (keepsReg_safSummary _ hs)

theorem funNormalised_shows (s : State) (f : Nat) :
    (s.funNormalised f).rd (Reg.SAF_FUNC_STATE f) = funNormal ∧ (s.funNormalised f).rd (Reg.SAF_FUNC_CAUSE f) = 0 := by
  have hsum : KeepsReg (Reg.SAF_FUNC f).addr ((s.wr (Reg.SAF_FUNC_STATE f) funNormal).wr (Reg.SAF_FUNC_CAUSE f) 0)
      (s.funNormalised f) :=
    (KeepsReg.of_regs (setFunBad_regs _ f [])).trans
      (keepsReg_safSummary _ (by simp only [Reg.SAF_FUNC, Reg.SAF_STAT]; omega))
  refine ⟨(hsum.rd (f := Reg.SAF_FUNC_STATE f)).trans ?_, (hsum.rd (f := Reg.SAF_FUNC_CAUSE f)).trans ?_⟩
  · rw [rd_wr_bits _ (Reg.SAF_FUNC_CAUSE f) (Reg.SAF_FUNC_STATE f) 0 (Nat.le_of_ble_eq_true rfl)
      (.inr (Nat.le_of_ble_eq_true rfl))]
    exact rd_wr_self _ (Reg.SAF_FUNC_STATE f) funNormal (Nat.le_of_ble_eq_true rfl)
  · exact rd_wr_self _ (Reg.SAF_FUNC_CAUSE f) 0 (Nat.le_of_ble_eq_true rfl)

/-- The matrix's return check begins. -/
def State.matrixCheckBegun (s : State) : State :=
  { s with saf := { s.saf with excCheck := some true, checkMAt := s.safClock } }

theorem safCmdWrite_returnMatrix {s : State} {v : Nat} (hv : v = 0xA5000000 + 3 + 0 * 2 ^ 8)
    (hp : s.saf.powered = true) (hexc : s.on Reg.TRP_STAT_EXCURSION = true) (hcheck : s.saf.excCheck = none)
    (hkey : s.on Reg.SAF_STAT_KEY_MAINT = true) : s.safCmdWrite v = s.safCmdOk.matrixCheckBegun := by
  obtain ⟨hcmd, -, hA5⟩ := safCmd_fields (by decide) (by decide) hv
  unfold State.safCmdWrite
  dsimp only
  rw [if_neg (safCmd_heard hp hA5), if_neg (ne_of_eq_of_ne hcmd (by decide)), if_neg (ne_of_eq_of_ne hcmd (by decide)),
    if_pos hcmd, if_neg (by simp [hexc]), if_neg (by simp [hcheck]), if_neg (by simp [hkey])]
  rfl

theorem matrixCheckBegun_regs (s : State) : s.matrixCheckBegun.regs = s.regs := rfl

theorem safReturn_begins (s : State) (m : Master) (f : Fin 64) (h : s.allows m .w32 true Reg.SAF_CMD.addr)
    (hp : s.saf.powered = true) (hst : s.rd (Reg.SAF_FUNC_STATE f) = funExcursion)
    (hcheck : s.on (Reg.SAF_FUNC_CHECK f) = false) (hkey : s.on Reg.SAF_STAT_KEY_MAINT = true) :
    Nexts (exec (.safReturn m f) s) (fun t => t.on (Reg.SAF_FUNC_CHECK f) = true ∧
      t.rd Reg.SAF_CMD_STAT_STATUS = Sta.ok ∧ t.rd Reg.SAF_CMD_STAT_REASON = 0) :=
  ⟨(s.answer 0).safCmdOk.checkBegun f, congrArg Host.Outcome.next ((access_safCmd h _).trans
    (safCmdWrite_return (s := s.answer 0) f.isLt rfl hp hst hcheck hkey)), checkBegun_on _ _,
    safCmdOk_shows (keepsReg_checkBegun _ _ (safCmdStat_ne_func f))⟩

/-- The response to an access plays no part in a function's diagnostics. -/
theorem answer_funPasses (s : State) (d f : Nat) : (s.answer d).funPasses f = s.funPasses f := by
  unfold State.funPasses
  rfl

theorem safReset_resets (s : State) (m : Master) (f : Fin 64) (h : s.allows m .w32 true Reg.SAF_CMD.addr)
    (hp : s.saf.powered = true) (hst : s.rd (Reg.SAF_FUNC_STATE f) = funTripped) (hpass : s.funPasses f = true) :
    Nexts (exec (.safReset m f) s) (fun t => t.rd (Reg.SAF_FUNC_STATE f) = funNormal ∧
      t.rd (Reg.SAF_FUNC_CAUSE f) = 0 ∧ t.rd Reg.SAF_CMD_STAT_STATUS = Sta.ok ∧ t.rd Reg.SAF_CMD_STAT_REASON = 0) := by
  obtain ⟨hnormal, hcause⟩ := funNormalised_shows (s.answer 0).safCmdOk f
  exact ⟨(s.answer 0).safCmdOk.funNormalised f, congrArg Host.Outcome.next ((access_safCmd h _).trans
    (safCmdWrite_reset (s := s.answer 0) f.isLt rfl hp hst ((answer_funPasses s 0 f).trans hpass))), hnormal, hcause,
    safCmdOk_shows (keepsReg_funNormalised _ _ (safCmdStat_ne_func f) (by decide))⟩

theorem returnMatrix_begins (s : State) (m : Master) (h : s.allows m .w32 true Reg.SAF_CMD.addr)
    (hp : s.saf.powered = true) (hexc : s.on Reg.TRP_STAT_EXCURSION = true) (hcheck : s.saf.excCheck = none)
    (hkey : s.on Reg.SAF_STAT_KEY_MAINT = true) : Nexts (exec (.returnMatrix m) s) (fun t =>
      t.saf.excCheck = some true ∧ t.rd Reg.SAF_CMD_STAT_STATUS = Sta.ok ∧ t.rd Reg.SAF_CMD_STAT_REASON = 0) :=
  ⟨(s.answer 0).safCmdOk.matrixCheckBegun, congrArg Host.Outcome.next ((access_safCmd h _).trans
    (safCmdWrite_returnMatrix (s := s.answer 0) rfl hp hexc hcheck hkey)), rfl,
    safCmdOk_shows (.of_regs (matrixCheckBegun_regs _))⟩

/-! ### The return check of the matrix (R259) -/

theorem exec_matrixCheckEnd_expired (s : State) (ok : Bool) (x : SafExc) (hcheck : s.saf.excCheck = some ok)
    (hx : s.saf.excM = some x) (hover : x.until_ ≤ s.saf.checkMAt + minute) :
    exec .matrixCheckEnd s = .next (s.waitTo x.until_).matrixForce := by
  show execMatrixCheckEnd s = _
  simp only [execMatrixCheckEnd, hcheck, hx]
  exact if_pos hover

/-- The return check of the matrix ends, a minute after its start. -/
def State.matrixCheckEnded (s : State) : State :=
  let u := s.waitTo (s.saf.checkMAt + minute)
  { u with saf := { u.saf with excCheck := none } }

theorem waitTo_excM (s : State) (n : Nat) : (s.waitTo n).saf.excM = s.saf.excM := by
  unfold State.waitTo
  split_ifs <;> rfl

/-- A check that does not pass leaves the matrix in Excursion. -/
theorem matrixCheckEnd_fails (s : State) (x : SafExc) (hcheck : s.saf.excCheck = some false)
    (hx : s.saf.excM = some x) (hin : s.saf.checkMAt + minute < x.until_) :
    Nexts (exec .matrixCheckEnd s) (fun t => t.saf.excCheck = none ∧ t.saf.excM = some x ∧
      t.rd Reg.TRP_STAT_EXCURSION = s.rd Reg.TRP_STAT_EXCURSION) := by
  have hend : exec .matrixCheckEnd s = .next (s.matrixCheckEnded.post Un.saf 0x0908 0xFF 0 0) := by
    show execMatrixCheckEnd s = _
    simp only [execMatrixCheckEnd, hcheck, hx]
    exact if_neg (Nat.not_le.2 hin)
  rw [hend, nexts_next, post_saf, rd_post _ _ _ _ _ _ _ (by decide)]
  exact ⟨rfl, (waitTo_excM s _).trans hx,
    ((keepsReg_waitTo _ s _).of_eq (u := s.matrixCheckEnded) rfl).rd (f := Reg.TRP_STAT_EXCURSION)⟩

/-- One that passes returns it. -/
theorem exec_matrixCheckEnd_returns (s : State) (x : SafExc) (hcheck : s.saf.excCheck = some true)
    (hx : s.saf.excM = some x) (hin : s.saf.checkMAt + minute < x.until_) :
    exec .matrixCheckEnd s = .next (
      let u := s.waitTo (s.saf.checkMAt + minute)
      let v : State := { u with saf := { u.saf with excCheck := none, excM := none, storeM := none } }
      ((((v.wr Reg.TRP_STAT_EXCURSION 0).wr Reg.TRP_STAT_PLANE_A_OK 1).wr Reg.TRP_STAT_PLANE_B_OK 1).post Un.saf 0x0907
        0xFF (x.spent u.safClock) 0).safSummary.matrix) := by
  show execMatrixCheckEnd s = _
  simp only [execMatrixCheckEnd, hcheck, hx]
  exact if_neg (Nat.not_le.2 hin)

/-! ### What the trip matrix reads from outside (R254, R255) -/

theorem exec_trpReqWrite (s : State) (m : Master) (value : Word) (h : s.allows m .w32 true Reg.TRP_REQ.addr)
    (hnew : bits value.toNat 0 8 ≠ s.rd Reg.TRP_REQ_REQ) : exec (.trpReqWrite m value) s =
      .next ((((s.answer 0).wr Reg.TRP_REQ_REQ (bits value.toNat 0 8)).post Un.trp 0x0A03 (s.rd Reg.TRP_REQ_REQ)
        (bits value.toNat 0 8) (masterId m)).matrix) :=
  congrArg Host.Outcome.next ((access_allows h _).trans (if_neg hnew))

theorem firstOutRearm_clears (s : State) (m : Master) (value : Word) (h : s.allows m .w32 true Reg.TRP_FIRST.addr)
    (hbit : bitAt value.toNat 31 = true) :
    Nexts (exec (.firstOutRearm m value) s) (fun t => t.rd Reg.TRP_FIRST_VALID = 0 ∧ t.firstOut = none) :=
  ⟨{ (s.answer 0).wr Reg.TRP_FIRST_VALID 0 with firstOut := none },
    congrArg Host.Outcome.next ((access_allows h _).trans (if_pos hbit)),
    rd_wr_self _ Reg.TRP_FIRST_VALID 0 (by decide), rfl⟩

theorem exec_ftiChange (s : State) (n : Fin 8) (demand : Bool) :
    exec (.ftiChange n demand) s =
      .next (s.wr Reg.TRP_FTI_LIT (putBit (s.rd Reg.TRP_FTI_LIT) n demand)).matrix := rfl

theorem exec_fastTripSupplyChange (s : State) (mV : Nat) : exec (.fastTripSupplyChange mV) s =
    .next (s.wrB Reg.TRP_STAT_GROUP_SUPPLY (decide (18000 ≤ mV))).matrix := rfl

theorem exec_ctrlHbLost (s : State) (hp : s.saf.powered = true) : exec .ctrlHbLost s =
    .next ((s.waitTo (s.saf.hbAt + 5000000)).wr Reg.SAF_STAT_CTRL_HB_LOST 1).matrix :=
  if_pos hp

/-! ### Dark tests (R258) -/

/-- A fast-trip output is tested, a minute after its last test at the earliest. -/
def State.darkTested (s : State) (n : Nat) : State :=
  let u := s.waitSince (Assoc.find? s.saf.darkAt n) 60000000000
  { u with saf := { u.saf with darkAt := Assoc.insert u.saf.darkAt n u.safClock } }

theorem darkTested_failed (s : State) (n : Nat) :
    (s.darkTested n).rd Reg.TRP_DARK_FAILED = s.rd Reg.TRP_DARK_FAILED :=
  ((keepsReg_waitSince _ s _ _).of_eq (u := s.darkTested n) rfl).rd (f := Reg.TRP_DARK_FAILED)

/-- A test that fails is shown and recorded. -/
def State.darkFailed (s : State) (n volts10 : Nat) : State :=
  (s.wr Reg.TRP_DARK_FAILED (putBit (s.rd Reg.TRP_DARK_FAILED) n true)).post Un.trp 0x0A04 n volts10 0

theorem exec_darkTest {s : State} {n : Fin 8} (failed : Bool) (volts10 : Nat) (hp : s.saf.powered = true)
    (hdark : s.sinkDark n = true) : exec (.darkTest n failed volts10) s =
      if failed then .next ((s.darkTested n).darkFailed n volts10) else .next (s.darkTested n) :=
  if_pos (by simp [hp, hdark])

/-- A bit that is set reads 1. -/
theorem putBit_true (v n : Nat) : bitAt (putBit v n true) n = true := by
  rw [putBit, if_pos rfl, bitAt, Nat.testBit_or, Nat.testBit_two_pow_self, Bool.or_true]

theorem darkFailed_bit (s : State) (n : Fin 8) (volts10 : Nat) :
    bitAt ((s.darkFailed n volts10).rd Reg.TRP_DARK_FAILED) n = true := by
  have hbit := putBit_true (s.rd Reg.TRP_DARK_FAILED) n
  rw [bitAt] at hbit
  rw [State.darkFailed, rd_post _ _ _ _ _ _ _ (by decide), rd_wr_self _ _ _ (by decide), bitAt,
    Nat.testBit_mod_two_pow, hbit]
  exact Bool.and_eq_true_iff.2 ⟨decide_eq_true n.isLt, rfl⟩

theorem darkTest_tests (s : State) (n : Fin 8) (failed : Bool) (volts10 : Nat) (hp : s.saf.powered = true)
    (hdark : s.sinkDark n = true) : Nexts (exec (.darkTest n failed volts10) s) (fun t =>
      bitAt (t.rd Reg.TRP_DARK_FAILED) n = (failed || bitAt (s.rd Reg.TRP_DARK_FAILED) n) ∧
      Assoc.find? t.saf.darkAt n = some t.safClock ∧
      t.frc = (s.waitTo (match Assoc.find? s.saf.darkAt n with | some i => i + 60000000000 | none => 0)).frc) := by
  have hat : Assoc.find? (s.darkTested n).saf.darkAt n = some (s.darkTested n).safClock := Assoc.find?_insert_self _ _ _
  have hfrc : (s.darkTested n).frc = _ := waitSince_frc s (Assoc.find? s.saf.darkAt n) 60000000000
  rw [exec_darkTest failed volts10 hp hdark]
  cases failed with
  | false => exact ⟨_, rfl, by rw [darkTested_failed, Bool.false_or], hat, hfrc⟩
  | true =>
    refine ⟨_, rfl, darkFailed_bit _ n volts10, ?_, ?_⟩
    · rw [State.safClock, State.darkFailed, post_saf, post_frc]
      exact hat
    · rw [State.darkFailed, post_frc]
      exact hfrc

end Sys2Proof.Machine
end

section
open Sys2Proof Sys2Proof.Machine

/-- Settles O36: each command where its checks pass (log 12, 62). What a command does beside SAF_CMD_STAT leaves the
outcome that stands there. -/
theorem safetyCommandsComplete : Obligations.SafetyCommandsComplete :=
  ⟨safReturn_begins, safReset_resets, returnMatrix_begins, exec_matrixCheckEnd_expired, matrixCheckEnd_fails,
    exec_matrixCheckEnd_returns, exec_trpReqWrite, firstOutRearm_clears, exec_ftiChange, exec_fastTripSupplyChange,
    exec_ctrlHbLost, darkTest_tests⟩

end

section
/-!
Copies of a telegram that are discarded (R279, log 219): one that names a connection by its identities is counted for
that connection, and only one that names none is counted module-wide.
-/
namespace Sys2Proof.Machine

/-- A copy that carries less than 28 bytes is discarded before anything else of it is looked at. -/
theorem exec_tgCopyReceive_short {s : State} {f : List Byte} (port : Fin 4) (hp : s.saf.powered = true)
    (hrun : s.power.running = true) (hlock : s.locked = true) (hpast : s.rd Reg.SAF_STAT_STATE ≠ 0)
    (hadopted : s.rd Reg.SAF_STAT_STATE ≠ 3) (hshort : f.length < 28) :
    exec (.tgCopyReceive port f) s = .next (s.tgDiscard (s.tgNamed f) port 1) :=
  (if_neg (by simp [hp, hrun, hlock, hpast, hadopted])).trans (if_pos hshort)

/-- A discarded copy that names a connection leaves the module-wide counters. -/
theorem tgDiscard_tgMod (s : State) {c : Nat} (port why : Nat) (hc : c ≠ 0xFF) :
    (s.tgDiscard c port why).saf.tgMod = s.saf.tgMod := by
  unfold State.tgDiscard
  extract_lets x y src u
  have hu : u = s.setTg c y := if_neg hc
  rw [post_saf, hu, State.setTg]

/-- A module whose safety domain runs on a section of one connection, number 0, that receives for identity 1 from
identity 2. -/
def oneConnection : State :=
  let s : State := { State.reset with
    power := { State.reset.power with running := true }
    saf := { State.reset.saf with
      powered := true
      section_ := List.replicate 16 0 ++ ([0, 0, 1, 0] ++ List.replicate 940 0) ++
        ([0, 1, 1, 1] ++ leBytes 4 1 ++ leBytes 4 2 ++ List.replicate 20 0) } }
  (s.wr Reg.FPL_STAT_STATE 3).wr Reg.SAF_STAT_STATE 2

/-- A copy cut off after its SRC, which is 2, and its DST, which is 1. -/
def cutCopy : List Byte := leBytes 4 2 ++ leBytes 4 1

theorem oneConnection_locked : oneConnection.locked = true := by decide +kernel

theorem oneConnection_state : oneConnection.rd Reg.SAF_STAT_STATE = 2 := rd_wr_self _ Reg.SAF_STAT_STATE 2 (by decide)

/-- The identities are enough to name the connection. -/
theorem tgNamed_cutCopy : oneConnection.tgNamed cutCopy = 0 := by decide +kernel

/-- The cut copy is discarded, and the module-wide LEN count stays 0. -/
theorem tgCopyReceive_cutCopy :
    Nexts (exec (.tgCopyReceive 0 cutCopy) oneConnection) (fun t => t.saf.tgMod.len = 0) := by
  rw [exec_tgCopyReceive_short 0 rfl rfl oneConnection_locked (by rw [oneConnection_state]; decide)
    (by rw [oneConnection_state]; decide) (by decide), nexts_next, tgNamed_cutCopy, tgDiscard_tgMod _ _ _ (by decide)]
  rfl

end Sys2Proof.Machine
end

section
open Sys2Proof Sys2Proof.Machine

/-- Refutes O47: its first clause has every copy below 28 bytes counted module-wide, while R279 counts there only those
that name no connection, and the model counts the others for the connection they name (log 219). `cutCopy` names
connection 0 of `oneConnection`, and the module-wide count does not move. -/
theorem not_telegramCommandsComplete : ¬ Obligations.TelegramCommandsComplete := by
  unfold Obligations.TelegramCommandsComplete
  rintro ⟨hshort, -⟩
  obtain ⟨t, ht, hcount, -⟩ := hshort oneConnection 0 cutCopy rfl rfl oneConnection_locked
    (by rw [oneConnection_state]; decide) (by rw [oneConnection_state]; decide) (by decide)
  obtain ⟨t', ht', hzero⟩ := tgCopyReceive_cutCopy
  obtain rfl : t = t' := Host.Outcome.next.inj (ht.symm.trans ht')
  exact absurd (hcount.symm.trans hzero) (by decide)

end

section
/-!
The nanosecond counter (R365): no operation puts it back, but for the two that take the control domain's power away or
give it back (R488). One lemma for each operation that moves it; of every other one its frame says that it does not.
-/
namespace Sys2Proof.Machine

/-- The counter of `s` is not behind that of `z`. -/
def Later (z s : State) : Prop := z.frc ≤ s.frc

/-- An answer's next state is not behind `z`. -/
def LaterA (z : State) (a : Answer) : Prop := ∀ t, a = .next t → Later z t

/-- Every part of the state but the counter. -/
def besideFrc (p : Place) : Bool := p != .frc

/-- An operation whose frame does not name the counter leaves it. -/
theorem frc_of_frame {s t : State} {l : List Place} (e : Al besideFrc l → Fr besideFrc s s → Fr besideFrc s t)
    (hl : Al besideFrc l) : t.frc = s.frc :=
  e hl (fr_self _ s) .frc rfl

namespace Later
variable {z s t : State}

theorem self : Later s s := le_refl _

theorem of_eq (h : Later z s) (e : t.frc = s.frc) : Later z t := le_of_le_of_eq h e.symm

/-- The counter is moved up to an instant. -/
theorem max {n : Nat} (h : Later z s) : Later z { s with frc := Max.max s.frc n } := le_max_of_le_left h

theorem step {l : List Place} (e : Al besideFrc l → Fr besideFrc s s → Fr besideFrc s t) (hl : Al besideFrc l)
    (h : Later z s) : Later z t :=
  h.of_eq (frc_of_frame e hl)

theorem ite {c : Prop} [Decidable c] (h1 : Later z s) (h2 : Later z t) : Later z (if c then s else t) := by
  split <;> assumption

theorem foldl {α : Type} {f : State → α → State} {l : List α} (hf : ∀ s x, Later z s → Later z (f s x))
    (h : Later z s) : Later z (l.foldl f s) := by
  induction l generalizing s with
  | nil => exact h
  | cons x l ih => exact ih (hf s x h)

end Later

namespace LaterA
variable {z s : State} {a b : Answer}

theorem next (h : Later z s) : LaterA z (.next s) := by
  rintro _ ⟨⟩
  exact h

theorem ite {c : Prop} [Decidable c] (h1 : LaterA z a) (h2 : LaterA z b) : LaterA z (if c then a else b) := by
  split <;> assumption

/-- A command whose frame does not name the counter. -/
theorem of_frame {F : Place → Bool} (h : FrA F s a) (hF : F .frc = false) (hz : Later z s) : LaterA z a :=
  fun t e => le_of_le_of_eq hz (h t e .frc hF).symm

end LaterA

theorem State.waitOp_later {z : State} (s : State) (n : Nat) (hz : Later z s) : Later z (State.waitOp s n) :=
  le_add_right hz

theorem State.waitTo_later {z : State} (s : State) (t : Nat) (hz : Later z s) : Later z (State.waitTo s t) := by
  unfold State.waitTo
  exact .ite (.max hz) (.of_eq hz rfl)

theorem execBarrierFrameSend_later {z : State} (k : Fin 8) (s : State) (hz : Later z s) :
    LaterA z (execBarrierFrameSend k s) := by
  unfold execBarrierFrameSend
  refine .ite ?_ ?_
  · extract_lets +onlyGivenNames u0 u1 u2
    have h2 : Later z u2 := .max hz
    exact .next (.step (State.setIsland_frame _ _ _) rfl h2)
  · exact .next hz

theorem execRestoreChannelOn_later {z : State} (k : Fin 8) (s : State) (hz : Later z s) :
    LaterA z (execRestoreChannelOn k s) := by
  unfold execRestoreChannelOn
  extract_lets +onlyGivenNames u0
  refine .ite ?_ ?_
  · extract_lets +onlyGivenNames u1
    have h1 : Later z u1 := State.waitTo_later _ _ hz
    exact .next (.step (State.setIsland_frame _ _ _) rfl h1)
  · exact .next hz

theorem execInputSample_later {z : State} (k : Fin 8) (smp : List DigSample) (s : State) (hz : Later z s) :
    LaterA z (execInputSample k smp s) := by
  unfold execInputSample
  extract_lets +onlyGivenNames u0
  refine .ite ?_ ?_
  · extract_lets +onlyGivenNames u1
    have h1 : Later z u1 := State.waitTo_later _ _ hz
    exact .next (.step (State.outSample_frame _) rfl (.step (State.setIsland_frame _ _ _) rfl h1))
  · exact .next hz

theorem execIslandWatchdog_later {z : State} (k : Fin 8) (s : State) (hz : Later z s) :
    LaterA z (execIslandWatchdog k s) := by
  unfold execIslandWatchdog
  extract_lets +onlyGivenNames u0
  refine .ite ?_ ?_
  · extract_lets +onlyGivenNames u1
    have h1 : Later z u1 := State.waitTo_later _ _ hz
    exact .next (.step (State.setIsland_frame _ _ _) rfl h1)
  · exact .next hz

theorem execGroupOverloadStep_later {z : State} (k : Fin 8) (total : Nat) (s : State) (hz : Later z s) :
    LaterA z (execGroupOverloadStep k total s) := by
  unfold execGroupOverloadStep
  extract_lets +onlyGivenNames u0 u1
  have h1 : Later z u1 := .ite (State.waitTo_later _ _ hz) hz
  refine .ite ?_ ?_
  · exact .next h1
  · refine .ite ?_ ?_
    · split
      · exact .next h1
      · extract_lets +onlyGivenNames u2 u3 u4
        exact .next (.step (State.bump_frame _ _) rfl (.step (State.setIsland_frame _ _ _) rfl h1))
    · split
      · exact .next (.step (State.post_frame _ _ _ _ _ _) rfl (.step (State.setIsland_frame _ _ _) rfl h1))
      · exact .next h1

theorem execRestoreReady_later {z : State} (k : Fin 8) (supply : Nat) (s : State) (hz : Later z s) :
    LaterA z (execRestoreReady k supply s) := by
  unfold execRestoreReady
  extract_lets +onlyGivenNames u0
  refine .ite ?_ ?_
  · extract_lets +onlyGivenNames u1
    have h1 : Later z u1 := State.waitTo_later _ _ hz
    extract_lets +onlyGivenNames u2
    have h2 : Later z u2 := .step (State.setIsland_frame _ _ _) rfl h1
    exact .next (.ite (.step (State.sagRelease_frame _ _ _) rfl h2) h2)
  · exact .next hz

theorem execWireBreakEnd_later {z : State} (k : Fin 8) (c : Fin 8) (s : State) (hz : Later z s) :
    LaterA z (execWireBreakEnd k c s) := by
  unfold execWireBreakEnd
  extract_lets +onlyGivenNames u0 u1
  refine .ite ?_ ?_
  · extract_lets +onlyGivenNames u2
    have h2 : Later z u2 := State.waitTo_later _ _ hz
    exact .next (.step (State.post_frame _ _ _ _ _ _) rfl (.step (State.setCh_frame _ _ _ _) rfl h2))
  · exact .next hz

theorem execWireBreak_later {z : State} (k : Fin 8) (c : Fin 8) (uA : Nat) (s : State) (hz : Later z s) :
    LaterA z (execWireBreak k c uA s) := by
  unfold execWireBreak
  extract_lets +onlyGivenNames u0 u1
  refine .ite ?_ ?_
  · extract_lets +onlyGivenNames u2
    have h2 : Later z u2 := State.waitTo_later _ _ hz
    extract_lets +onlyGivenNames u3
    have h3 : Later z u3 := .step (State.bump_frame _ _) rfl (.step (State.setCh_frame _ _ _ _) rfl h2)
    exact .next (.step (State.post_frame _ _ _ _ _ _) rfl h3)
  · exact .next hz

theorem execDoRetry_later {z : State} (k : Fin 8) (c : Fin 8) (limits : Bool) (s : State) (hz : Later z s) :
    LaterA z (execDoRetry k c limits s) := by
  unfold execDoRetry
  extract_lets +onlyGivenNames u0 u1 u2
  exact .ite (.ite (.next (.step (State.setCh_frame _ _ _ _) rfl (State.waitTo_later _ _ hz))) (.next (.step
    (State.setCh_frame _ _ _ _) rfl (State.waitTo_later _ _ hz)))) (.next hz)

theorem execDoOverload_later {z : State} (k : Fin 8) (c : Fin 8) (mA : Nat) (s : State) (hz : Later z s) :
    LaterA z (execDoOverload k c mA s) := by
  unfold execDoOverload
  extract_lets +onlyGivenNames u0 u1
  refine .ite ?_ ?_
  · extract_lets +onlyGivenNames u2
    have h2 : Later z u2 := State.waitTo_later _ _ hz
    extract_lets +onlyGivenNames u3
    have h3 : Later z u3 := .step (State.bump_frame _ _) rfl (.step (State.setCh_frame _ _ _ _) rfl h2)
    exact .next (.step (State.post_frame _ _ _ _ _ _) rfl h3)
  · exact .next hz

theorem execIslandFrameReceive_later {z : State} (k : Fin 8) (s : State) (hz : Later z s) :
    LaterA z (execIslandFrameReceive k s) := by
  unfold execIslandFrameReceive
  extract_lets +onlyGivenNames u0
  exact .ite (.next (.step (State.islTake_frame _ _ _) rfl (.max hz))) (.next hz)

theorem execSagOff_later {z : State} (k : Fin 8) (supply : Nat) (s : State) (hz : Later z s) :
    LaterA z (execSagOff k supply s) := by
  unfold execSagOff
  refine .ite ?_ ?_
  · extract_lets +onlyGivenNames u0
    have h0 : Later z u0 := State.waitTo_later _ _ hz
    extract_lets +onlyGivenNames u1
    have h1 : Later z u1 := .step (State.islMeasure_frame _ _ _) rfl h0
    extract_lets +onlyGivenNames u2 u3 u4 u5
    have h5 : Later z u5 := .step (State.setIsland_frame _ _ _) rfl h1
    exact .next (.ite h5 (.step (State.post_frame _ _ _ _ _ _) rfl h5))
  · exact .next hz

theorem execBarrierSlot_later {z : State} (k : Fin 8) (good : Bool) (skip : Fin 256) (field : IslField) (s : State)
    (hz : Later z s) : LaterA z (execBarrierSlot k good skip field s) := by
  unfold execBarrierSlot
  refine .ite (.next hz) ?_
  extract_lets +onlyGivenNames slot x u0
  have hslot : s.frc ≤ 10000 * slot := by omega
  have h0 : Later z u0 := .step (State.setIsland_frame _ _ _) rfl (le_trans hz hslot)
  extract_lets +onlyGivenNames y
  refine .ite (.next (.step (State.islBadSlots_frame _ _ _) rfl h0)) ?_
  extract_lets +onlyGivenNames u1
  have h1 : Later z u1 := .step (State.islMeasure_frame _ _ _) rfl h0
  extract_lets +onlyGivenNames y1 y2 u2
  have h2 : Later z u2 := .step (State.outSample_frame _) rfl (.step (State.setIsland_frame _ _ _) rfl h1)
  exact .ite (.next (.step (State.islDiag_frame _ _) rfl (.step (State.islGood_frame _ _ _) rfl h2)))
    (.next (.step (State.islBadSlots_frame _ _ _) rfl h2))

theorem execAoReadbackClear_later {z : State} (k : Fin 8) (c : Fin 8) (s : State) (hz : Later z s) :
    LaterA z (execAoReadbackClear k c s) := by
  unfold execAoReadbackClear
  extract_lets +onlyGivenNames u0
  split
  · exact .next hz
  · exact .ite (.next (.step (State.aoFlags_frame _ _ _) rfl (.step (State.wr_frame _ _ _) rfl
    (State.waitTo_later _ _ hz))))
      (.next hz)

theorem execComplianceSet_later {z : State} (k : Fin 8) (c : Fin 8) (s : State) (hz : Later z s) :
    LaterA z (execComplianceSet k c s) := by
  unfold execComplianceSet
  extract_lets +onlyGivenNames u0 u1 u2
  split
  · exact .next hz
  · refine .ite ?_ ?_
    · exact .next hz
    · extract_lets +onlyGivenNames u3
      have h3 : Later z u3 := State.waitTo_later _ _ hz
      extract_lets +onlyGivenNames u4
      have h4 : Later z u4 := .step (State.wr_frame _ _ _) rfl (.step (State.setCh_frame _ _ _ _) rfl h3)
      exact .next (.step (State.post_frame _ _ _ _ _ _) rfl (.step (State.aoFlags_frame _ _ _) rfl h4))

theorem execComplianceClear_later {z : State} (k : Fin 8) (c : Fin 8) (s : State) (hz : Later z s) :
    LaterA z (execComplianceClear k c s) := by
  unfold execComplianceClear
  extract_lets +onlyGivenNames u0 u1
  split
  · exact .next hz
  · refine .ite ?_ ?_
    · exact .next hz
    · extract_lets +onlyGivenNames u2
      have h2 : Later z u2 := State.waitTo_later _ _ hz
      extract_lets +onlyGivenNames u3
      have h3 : Later z u3 := .step (State.wr_frame _ _ _) rfl (.step (State.wr_frame _ _ _) rfl h2)
      exact .next (.step (State.post_frame _ _ _ _ _ _) rfl (.step (State.aoFlags_frame _ _ _) rfl h3))

theorem execCompFault_later {z : State} (k : Fin 8) (c : Fin 8) (s : State) (hz : Later z s) :
    LaterA z (execCompFault k c s) := by
  unfold execCompFault
  extract_lets +onlyGivenNames u0
  refine .ite ?_ ?_
  · extract_lets +onlyGivenNames u1
    have h1 : Later z u1 := State.waitTo_later _ _ hz
    extract_lets +onlyGivenNames u2
    have h2 : Later z u2 := .step (State.wr_frame _ _ _) rfl h1
    exact .next (.step (State.post_frame _ _ _ _ _ _) rfl (.step (State.aoFlags_frame _ _ _) rfl h2))
  · exact .next hz

theorem execThermalResume_later {z : State} (k : Fin 8) (c : Fin 8) (temp : Int) (s : State) (hz : Later z s) :
    LaterA z (execThermalResume k c temp s) := by
  unfold execThermalResume
  extract_lets +onlyGivenNames u0 u1
  refine .ite ?_ ?_
  · extract_lets +onlyGivenNames u2
    have h2 : Later z u2 := State.waitTo_later _ _ hz
    exact .next (.step (State.post_frame _ _ _ _ _ _) rfl (.step (State.setCh_frame _ _ _ _) rfl h2))
  · exact .next hz

theorem execBuckUpdate_later {z : State} (k : Fin 8) (c : Fin 8) (s : State) (hz : Later z s) :
    LaterA z (execBuckUpdate k c s) := by
  unfold execBuckUpdate
  extract_lets +onlyGivenNames u0 u1
  refine .ite ?_ ?_
  · extract_lets +onlyGivenNames u2
    have h2 : Later z u2 := .ite (State.waitTo_later _ _ hz) hz
    extract_lets +onlyGivenNames u3 u4 u5 u6 u7 u8
    have h8 : Later z u8 := .step (State.setIsland_frame _ _ _) rfl h2
    exact .next (.ite (.step (State.post_frame _ _ _ _ _ _) rfl h8) h8)
  · exact .next hz

theorem execTxOverload_later {z : State} (k : Fin 8) (c : Fin 8) (mA : Nat) (s : State) (hz : Later z s) :
    LaterA z (execTxOverload k c mA s) := by
  unfold execTxOverload
  extract_lets +onlyGivenNames u0
  refine .ite ?_ ?_
  · extract_lets +onlyGivenNames u1
    have h1 : Later z u1 := State.waitTo_later _ _ hz
    exact .next (.step (State.post_frame _ _ _ _ _ _) rfl (.step (State.setCh_frame _ _ _ _) rfl h1))
  · exact .next hz

theorem execTxOverloadClear_later {z : State} (k : Fin 8) (c : Fin 8) (s : State) (hz : Later z s) :
    LaterA z (execTxOverloadClear k c s) := by
  unfold execTxOverloadClear
  extract_lets +onlyGivenNames u0
  refine .ite ?_ ?_
  · extract_lets +onlyGivenNames u1
    have h1 : Later z u1 := State.waitTo_later _ _ hz
    exact .next (.step (State.setCh_frame _ _ _ _) rfl h1)
  · exact .next hz

theorem execAiSample_later {z : State} (k : Fin 8) (c : Fin 8) (raw : Nat) (s : State) (hz : Later z s) :
    LaterA z (execAiSample k c raw s) := by
  unfold execAiSample
  extract_lets +onlyGivenNames u0
  refine .ite ?_ ?_
  · extract_lets +onlyGivenNames u1
    have h1 : Later z u1 := State.waitTo_later _ _ hz
    extract_lets +onlyGivenNames u2 u3 u4 u5 u6
    have h6 : Later z u6 := .step (State.setCh_frame _ _ _ _) rfl h1
    extract_lets +onlyGivenNames u7
    have h7 : Later z u7 := .ite h6 (.step (State.useFree_frame _) rfl h6)
    exact .next (.step (State.aiClassify_frame _ _ _) rfl h7)
  · exact .next hz

theorem waitRounds_later {z : State} (time : State → Int) (goal : Int) (n : Nat) (s : State) (hz : Later z s) :
    Later z (waitRounds time goal n s) := by
  induction n generalizing s with
  | zero => exact hz
  | succ n ih => exact .ite hz (ih _ (le_add_right hz))

theorem State.waitClass_later {z : State} (s : State) (time : State → Int) (goal : Int) (hz : Later z s) :
    Later z (State.waitClass s time goal) := by
  unfold State.waitClass
  exact waitRounds_later _ _ _ _ hz

theorem execPgnTimeout_later {z : State} (ch : Fin 32) (s : State) (hz : Later z s) :
    LaterA z (execPgnTimeout ch s) := by
  unfold execPgnTimeout
  split
  · refine .ite ?_ ?_
    · exact .next hz
    · refine .ite ?_ ?_
      · exact .next hz
      · refine .ite ?_ ?_
        · extract_lets +onlyGivenNames u0
          have h0 : Later z u0 := .max hz
          extract_lets +onlyGivenNames u1
          have h1 : Later z u1 := .step (State.mirror_frame _ _ _ _) rfl h0
          exact .next (.of_eq h1 rfl)
        · exact .next (.step (State.pgnTimeout_frame _ _) rfl (.max hz))
  · exact .next hz

theorem State.wordInstant_later {z : State} (s : State) (hz : Later z s) : Later z (State.wordInstant s) := by
  refine le_trans hz ?_
  unfold State.wordInstant
  extract_lets n
  show s.frc ≤ if s.anx.sentAt = some n then n + 1000000 else n
  split <;> omega

theorem execAnnexReportRepost_later {z : State} (s : State) (hz : Later z s) :
    LaterA z (execAnnexReportRepost s) := by
  unfold execAnnexReportRepost
  refine .ite ?_ ?_
  · exact .next hz
  · extract_lets +onlyGivenNames u0
    have h0 : Later z u0 := State.waitTo_later _ _ hz
    exact .next (.step (State.anxPostAll_frame _ _) rfl (.of_eq h0 rfl))

theorem execAnnexTotalsCommit_later {z : State} (s : State) (hz : Later z s) :
    LaterA z (execAnnexTotalsCommit s) := by
  unfold execAnnexTotalsCommit
  exact .next (.ite (.step (State.anxCommit_frame _) rfl (State.waitTo_later _ _ hz)) hz)

theorem execAnnexStatusLost_later {z : State} (s : State) (hz : Later z s) : LaterA z (execAnnexStatusLost s) := by
  unfold execAnnexStatusLost
  refine .ite ?_ ?_
  · extract_lets +onlyGivenNames u0
    have h0 : Later z u0 := .max hz
    exact .next (.step (State.post_frame _ _ _ _ _ _) rfl (.step (State.wr_frame _ _ _) rfl h0))
  · exact .next hz

theorem execAnnexResultPost_later {z : State} (s : State) (hz : Later z s) : LaterA z (execAnnexResultPost s) := by
  unfold execAnnexResultPost
  refine .ite (.next hz) ?_
  extract_lets +onlyGivenNames u0 u1 u2
  have h2 : Later z u2 := State.waitTo_later s _ hz
  refine .next (.foldl (fun s l h => ?_) h2)
  extract_lets r y t
  have hr : Later z r.1 := .step (State.anxPost_frame _ _ _ _ _) rfl h
  have ht : Later z t := .step (State.useFree_frame _) rfl hr
  exact ht

theorem execAnnexStatusPost_later {z : State} (s : State) (hz : Later z s) : LaterA z (execAnnexStatusPost s) := by
  unfold execAnnexStatusPost
  refine .ite ?_ ?_
  · exact .next hz
  · extract_lets +onlyGivenNames u0
    have h0 : Later z u0 := State.waitTo_later _ _ hz
    extract_lets +onlyGivenNames u1 u2
    have h2 : Later z u2 := .of_eq h0 rfl
    extract_lets +onlyGivenNames u3
    exact .next (.step (State.anxReport_frame _ _ _) rfl h2)

theorem execAnnexTimeHold_later {z : State} (s : State) (hz : Later z s) : LaterA z (execAnnexTimeHold s) := by
  unfold execAnnexTimeHold
  refine .ite ?_ ?_
  · extract_lets +onlyGivenNames u0
    have h0 : Later z u0 := State.waitTo_later _ _ hz
    extract_lets +onlyGivenNames u1 u2
    have h2 : Later z u2 := .step (State.anxRebase_frame _ _) rfl h0
    exact .next (.step (State.anxRecord_frame _ _ _ _ _) rfl (.of_eq h2 rfl))
  · exact .next hz

theorem execAnnexInterval_later {z : State} (pulses : List AnxPulse) (currents : List AnxCurrent) (s : State)
    (hz : Later z s) : LaterA z (execAnnexInterval pulses currents s) := by
  unfold execAnnexInterval
  refine .ite (.next hz) ?_
  extract_lets +onlyGivenNames u0 u1 u2 u3
  have h2 : Later z u2 := State.waitTo_later s _ hz
  have h3 : Later z u3 := by
    refine .foldl (fun s i h => ?_) h2
    split
    · exact .step (State.anxCurrent_frame _ _ _) rfl h
    · exact h
  exact .next h3

theorem execTimeWordSend_later {z : State} (good : Bool) (s : State) (hz : Later z s) :
    LaterA z (execTimeWordSend good s) := by
  unfold execTimeWordSend
  refine .ite ?_ ?_
  · exact .next hz
  · extract_lets +onlyGivenNames u0
    have h0 : Later z u0 := State.wordInstant_later _ hz
    extract_lets +onlyGivenNames u1 u2 u3
    have h3 : Later z u3 := .of_eq h0 rfl
    refine .ite ?_ ?_
    · exact .next h3
    · extract_lets +onlyGivenNames u4 u5 u6
      have h6 : Later z u6 := .of_eq h3 rfl
      extract_lets +onlyGivenNames u7
      have h7 : Later z u7 := .ite (.step (State.anxIdentify_frame _) rfl h6) h6
      exact .next (.ite (.step (State.anxWord_frame _ _) rfl h7) h7)

theorem execEnSettleElapsed_later {z : State} (a : Fin 8) (s : State) (hz : Later z s) :
    LaterA z (execEnSettleElapsed a s) := by
  unfold execEnSettleElapsed
  refine .ite ?_ ?_
  · extract_lets +onlyGivenNames u0 u1
    have h1 : Later z u1 := .max hz
    exact .next (.step (State.axShow_frame _ _) rfl (.step (State.axEnter_frame _ _ _) rfl h1))
  · exact .next hz

theorem execStillDelayElapsed_later {z : State} (a : Fin 8) (s : State) (hz : Later z s) :
    LaterA z (execStillDelayElapsed a s) := by
  unfold execStillDelayElapsed
  refine .ite ?_ ?_
  · extract_lets +onlyGivenNames u0
    have h0 : Later z u0 := .max hz
    exact .next (.step (State.axShow_frame _ _) rfl (.step (State.axEnter_frame _ _ _) rfl h0))
  · exact .next hz

/-- A step boundary is never before the instant from which it is sought. -/
theorem le_axBoundaryFrom (s : State) (n : Nat) : n ≤ s.axBoundaryFrom n := Nat.le_add_right _ _

theorem le_axBoundaryAt (s : State) : s.frc ≤ s.axBoundaryAt :=
  le_trans (le_max_left _ _) (le_axBoundaryFrom s _)

theorem execAxisResume_later {z : State} (a : Fin 8) (s : State) (hz : Later z s) : LaterA z
  (execAxisResume a s) := by
  unfold execAxisResume
  extract_lets +onlyGivenNames x
  refine .ite ?_ (.next hz)
  extract_lets u v
  have hu : Later z u := le_trans hz (le_axBoundaryFrom s _)
  have hv : Later z v := .step (State.setAxis_frame _ _ _) rfl hu
  exact .next (.step (State.axShow_frame _ _) rfl (.step (State.post_frame _ _ _ _ _ _) rfl hv))

theorem execStepBoundary_later {z : State} (deltas : List Int) (s : State) (hz : Later z s) :
    LaterA z (execStepBoundary deltas s) := by
  unfold execStepBoundary
  refine .ite ?_ (.next hz)
  extract_lets +onlyGivenNames u count
  have hu : Later z u := le_trans hz (le_axBoundaryAt s)
  refine .ite ?_ (.next hu)
  extract_lets v
  have hv : Later z v := .foldl (fun _ _ h => .ite (.step (State.axBoundary_frame _ _ _) rfl
    (.step (State.axLossSet_frame _ _ _) rfl h)) h) hu
  exact .next (.ite (.step (State.banSend_frame _ _ _) rfl hv) hv)

theorem State.countsTake_later {z : State} (s : State) (counts : List (Option (BitVec 48))) (loss bad : BitVec 8)
    (hz : Later z s) : Later z (State.countsTake s counts loss bad) := by
  unfold State.countsTake
  refine .ite ?_ hz
  extract_lets u
  have hu : Later z u := le_trans hz (le_axBoundaryAt s)
  exact .foldl (fun _ _ h => .step (State.axFollow_frame _ _ _ _ _) rfl h) hu

theorem execGbRecordWrite_later {z : State} (cut : Bool) (s : State) (hz : Later z s) :
    LaterA z (execGbRecordWrite cut s) := by
  unfold execGbRecordWrite
  split
  · exact .next hz
  · extract_lets +onlyGivenNames u0 u1
    have h1 : Later z u1 := .max hz
    exact .next (.ite (.step (State.gbAdvance_frame _) rfl h1) (.step (State.gbWrite_frame _ _) rfl h1))

theorem execGbTokenRefill_later {z : State} (cls : Fin 33) (s : State) (hz : Later z s) :
    LaterA z (execGbTokenRefill cls s) := by
  unfold execGbTokenRefill
  refine .ite ?_ ?_
  · extract_lets +onlyGivenNames u0
    exact .next (.step (State.gbGain_frame _ _) rfl (.max hz))
  · exact .next hz

theorem State.headWait_later {z : State} (s : State) (q : Nat) (hz : Later z s) : Later z (State.headWait s q) := by
  unfold State.headWait
  exact .max hz

theorem State.canToWindow_later {z : State} (s : State) (c : Nat) (basic : Nat) (win : Nat) (hz : Later z s) :
    Later z (State.canToWindow s c basic win) := by
  unfold State.canToWindow
  extract_lets +onlyGivenNames u0 u1
  refine .ite ?_ ?_
  · exact hz
  · extract_lets +onlyGivenNames u2 u3
    exact State.waitClass_later _ _ _ hz

theorem execCanChannelActive_later {z : State} (c : Fin 8) (s : State) (hz : Later z s) :
    LaterA z (execCanChannelActive c s) := by
  unfold execCanChannelActive
  refine .ite ?_ ?_
  · extract_lets +onlyGivenNames u0 u1
    have h1 : Later z u1 := .ite hz (.max hz)
    extract_lets +onlyGivenNames u2
    have h2 : Later z u2 := .step (State.setCanCh_frame _ _ _) rfl (.step (State.setCanState_frame _ _ _) rfl h1)
    exact .next (.ite h2 (.step (State.post_frame _ _ _ _ _ _) rfl h2))
  · exact .next hz

theorem execCanRecovered_later {z : State} (c : Fin 8) (s : State) (hz : Later z s) :
    LaterA z (execCanRecovered c s) := by
  unfold execCanRecovered
  refine .ite ?_ ?_
  · extract_lets +onlyGivenNames u0
    have h0 : Later z u0 := .max hz
    extract_lets +onlyGivenNames u1
    have h1 : Later z u1 := .step (State.setCanState_frame _ _ _) rfl h0
    extract_lets +onlyGivenNames u2
    have h2 : Later z u2 := .step (State.wr_frame _ _ _) rfl (.step (State.wr_frame _ _ _) rfl (.step
      (State.wr_frame _ _ _) rfl
      h1))
    exact .next (.step (State.post_frame _ _ _ _ _ _) rfl h2)
  · exact .next hz

theorem execTtWindowStart_later {z : State} (c : Fin 8) (basic : Fin 16) (win : Fin 64) (s : State) (hz : Later z s) :
    LaterA z (execTtWindowStart c basic win s) := by
  unfold execTtWindowStart
  refine .ite ?_ ?_
  · extract_lets +onlyGivenNames u0
    have h0 : Later z u0 := .step (State.canShowWindow_frame _ _ _ _) rfl (State.canToWindow_later _ _ _ _ hz)
    extract_lets +onlyGivenNames u1 u2
    refine .ite ?_ ?_
    · extract_lets +onlyGivenNames u3 u4
      refine .ite ?_ ?_
      · exact .next (.step (State.canRefuse_frame _ _ _ _) rfl h0)
      · split
        · exact .ite (.next (.step (State.canLaunch_frame _ _ _ _) rfl (.step
          (State.setCanCh_frame _ _ _) rfl h0))) (.next
            h0)
        · exact .next h0
    · exact .next h0
  · exact .next hz

theorem execCanTxStart_later {z : State} (c : Fin 8) (which : CanQueue) (s : State) (hz : Later z s) :
    LaterA z (execCanTxStart c which s) := by
  unfold execCanTxStart
  extract_lets +onlyGivenNames u0
  refine .ite ?_ ?_
  · extract_lets +onlyGivenNames u1
    have h1 : Later z u1 := State.headWait_later _ _ hz
    extract_lets +onlyGivenNames u2
    refine .ite ?_ ?_
    · exact .next (.step (State.canRefuse_frame _ _ _ _) rfl h1)
    · split
      · exact .next (.ite (.step (State.canLaunch_frame _ _ _ _) rfl h1) h1)
      · exact .next h1
  · exact .next hz

theorem execTtWindowMissed_later {z : State} (c : Fin 8) (basic : Fin 16) (win : Fin 64) (s : State) (hz : Later z s)
    :
    LaterA z (execTtWindowMissed c basic win s) := by
  unfold execTtWindowMissed
  extract_lets +onlyGivenNames u0 u1 u2
  refine .ite ?_ ?_
  · extract_lets +onlyGivenNames u3
    have h3 : Later z u3 := .step (State.canShowWindow_frame _ _ _ _) rfl (State.canToWindow_later _ _ _ _ hz)
    extract_lets +onlyGivenNames u4 u5
    have h5 : Later z u5 := State.waitClass_later _ _ _ h3
    extract_lets +onlyGivenNames u6 u7
    have h7 : Later z u7 := .step (State.bump_frame _ _) rfl (.step (State.setCanCh_frame _ _ _) rfl h5)
    extract_lets +onlyGivenNames u8
    have h8 : Later z u8 := .step (State.post_frame _ _ _ _ _ _) rfl h7
    exact .ite (.next (.step (State.canComplete_frame _ _ _ _ _ _) rfl h8)) (.next h8)
  · exact .next hz

theorem execC2BackupRefresh_later {z : State} (s : State) (hz : Later z s) : LaterA z (execC2BackupRefresh s) := by
  unfold execC2BackupRefresh
  refine .ite ?_ ?_
  · extract_lets +onlyGivenNames u0
    have h0 : Later z u0 := .max hz
    extract_lets +onlyGivenNames u1 u2
    have h2 : Later z u2 := .of_eq h0 rfl
    extract_lets +onlyGivenNames u3
    have h3 : Later z u3 := .step (State.wr64_frame _ _ _ _) rfl h2
    exact .next (.of_eq h3 rfl)
  · exact .next hz

theorem execPpsOutEdge_later {z : State} (s : State) (hz : Later z s) : LaterA z (execPpsOutEdge s) := by
  unfold execPpsOutEdge
  split
  · exact .next hz
  · extract_lets +onlyGivenNames u0 u1 u2
    have h2 : Later z u2 := .ite hz (State.waitClass_later _ _ _ hz)
    extract_lets +onlyGivenNames u3
    exact .next (.of_eq h2 rfl)

theorem execSlewingEnd_later {z : State} (second : Bool) (s : State) (hz : Later z s) :
    LaterA z (execSlewingEnd second s) := by
  unfold execSlewingEnd
  exact .ite (.ite (.next (.step (State.wr_frame _ _ _) rfl (.max hz))) (.next hz)) (.ite (.next (.step
    (State.wr_frame _
    _ _) rfl (.max hz))) (.next hz))

theorem execPpsInTimeout_later {z : State} (s : State) (hz : Later z s) : LaterA z (execPpsInTimeout s) := by
  unfold execPpsInTimeout
  refine .ite ?_ ?_
  · extract_lets +onlyGivenNames u0
    have h0 : Later z u0 := .max hz
    exact .next (.step (State.setPpsOk_frame _ _ _) rfl h0)
  · exact .next hz

theorem execDomainHoldover_later {z : State} (d : Fin 2) (s : State) (hz : Later z s) :
    LaterA z (execDomainHoldover d s) := by
  unfold execDomainHoldover
  refine .ite ?_ ?_
  · extract_lets +onlyGivenNames u0
    have h0 : Later z u0 := .max hz
    extract_lets +onlyGivenNames u1
    have h1 : Later z u1 := .step (State.post_frame _ _ _ _ _ _) rfl h0
    exact .next (.step (State.domEnter_frame _ _ _) rfl h1)
  · exact .next hz

theorem execAnnounceTimeout_later {z : State} (d : Fin 2) (s : State) (hz : Later z s) :
    LaterA z (execAnnounceTimeout d s) := by
  unfold execAnnounceTimeout
  split
  · exact .next hz
  · extract_lets +onlyGivenNames u0 u1 u2
    have h2 : Later z u2 := .max hz
    extract_lets +onlyGivenNames u3 u4 u5
    have h5 : Later z u5 := .step (State.setDom_frame _ _ _) rfl h2
    split
    · exact .next (.step (State.domSelect_frame _ _ _) rfl h5)
    · exact .next (.step (State.domEnter_frame _ _ _) rfl (.step (State.setDom_frame _ _ _) rfl h5))

theorem execEthJoinPoint_later {z : State} (s : State) (hz : Later z s) : LaterA z (execEthJoinPoint s) := by
  unfold execEthJoinPoint
  extract_lets +onlyGivenNames u0 u1
  have h1 : Later z u1 := .ite (.max hz) hz
  exact .ite (.next (.step (State.wr_frame _ _ _) rfl h1)) (.ite (.next (.step (State.wr_frame _ _ _) rfl h1))
    (.next h1))

theorem execMaintSessionExpire_later {z : State} (s : State) (hz : Later z s) :
    LaterA z (execMaintSessionExpire s) := by
  unfold execMaintSessionExpire
  refine .ite ?_ ?_
  · extract_lets +onlyGivenNames u0
    have h0 : Later z u0 := .max hz
    exact .next (.step (State.permitUpdate_frame _) rfl (.step (State.wr_frame _ _ _) rfl h0))
  · exact .next hz

theorem execEthTxStart_later {z : State} (p : Fin 6) (s : State) (hz : Later z s) :
    LaterA z (execEthTxStart p s) := by
  unfold execEthTxStart
  extract_lets +onlyGivenNames u0
  refine .ite ?_ ?_
  · extract_lets +onlyGivenNames u1
    have h1 : Later z u1 := State.headWait_later _ _ hz
    extract_lets +onlyGivenNames u2 u3
    refine .ite ?_ ?_
    · extract_lets +onlyGivenNames u4
      exact .next (.step (State.post_frame _ _ _ _ _ _) rfl (.step (State.txDone_frame _ _ _ _) rfl h1))
    · extract_lets +onlyGivenNames u5 u6 u7 u8
      exact .next (.step (State.setEthPort_frame _ _ _) rfl h1)
  · exact .next hz

theorem State.samplesTake_later {z : State} (s : State) (samples : List LoopSmp) (ecc : List (Fin 512)) (slots : Nat)
    (hz : Later z s) :
    Later z (State.samplesTake s samples ecc slots) := by
  unfold State.samplesTake
  split
  · refine .ite ?_ ?_
    · extract_lets +onlyGivenNames u0
      have h0 : Later z u0 := .max hz
      exact .step (State.loopTick_frame _ _ _ _) rfl h0
    · exact hz
  · exact hz

theorem execLoopTick_later {z : State} (ecc : List (Fin 512)) (slots : Fin 513) (s : State) (hz : Later z s) :
    LaterA z (execLoopTick ecc slots s) := by
  unfold execLoopTick
  split
  · refine .ite ?_ ?_
    · extract_lets +onlyGivenNames u0
      have h0 : Later z u0 := .max hz
      exact .next (.step (State.loopTick_frame _ _ _ _) rfl h0)
    · exact .next hz
  · exact .next hz

theorem execRndStopGrant_later {z : State} (s : State) (hz : Later z s) : LaterA z (execRndStopGrant s) := by
  unfold execRndStopGrant
  refine .ite ?_ (.next hz)
  extract_lets up at_ r u
  have hat : s.frc ≤ at_ := by
    show s.frc ≤ if s.rnd.stopAt = some up then up + 1000000 else up
    split <;> omega
  have hu : Later z u := le_trans hz hat
  exact .next (.step (State.rndIssue_frame _ _ _) rfl (.step (State.rndExpire_frame _) rfl hu))

theorem execRndPassLate_later {z : State} (s : State) (hz : Later z s) : LaterA z (execRndPassLate s) := by
  unfold execRndPassLate
  extract_lets +onlyGivenNames u0
  refine .ite ?_ ?_
  · extract_lets +onlyGivenNames u1
    have h1 : Later z u1 := State.waitOp_later _ _ hz
    extract_lets +onlyGivenNames u2
    have h2 : Later z u2 := .step (State.post_frame _ _ _ _ _ _) rfl (.step (State.wr_frame _ _ _) rfl h1)
    exact .next (.of_eq h2 rfl)
  · exact .next hz

theorem execRndGrantClose_later {z : State} (s : State) (hz : Later z s) : LaterA z (execRndGrantClose s) := by
  unfold execRndGrantClose
  split
  · exact .next hz
  · exact .next (.step (State.rndExpire_frame _) rfl (.max hz))

theorem execThermalStressUpdate_later {z : State} (s : State) (hz : Later z s) :
    LaterA z (execThermalStressUpdate s) := by
  unfold execThermalStressUpdate
  refine .ite ?_ ?_
  · extract_lets +onlyGivenNames u0
    have h0 : Later z u0 := .max hz
    extract_lets +onlyGivenNames u1 u2
    have h2 : Later z u2 := .of_eq h0 rfl
    exact .next (.foldl (fun _ _ h3 => .step (State.wearStress_frame _ _) rfl h3) h2)
  · exact .next hz

theorem execWearSample_later {z : State} (mram flash : Nat) (s : State) (hz : Later z s) :
    LaterA z (execWearSample mram flash s) := by
  unfold execWearSample
  refine .ite (.next hz) ?_
  extract_lets +onlyGivenNames n u0 u1 mean u2 w u3 due
  have h0 : Later z u0 := .step (State.driftCount_frame _) rfl (State.waitOp_later _ _ hz)
  have h1 : Later z u1 := .step (State.setWearQ_frame _ _ _) rfl (.step (State.setWearQ_frame _ _ _) rfl h0)
  have h2 : Later z u2 := by
    subst u2
    clear_value mean
    split
    · exact .step (State.setWearQ_frame _ _ _) rfl h1
    · exact h1
  have h3 : Later z u3 := .of_eq h2 rfl
  exact .next (.step (State.wearSummary_frame _) rfl (.foldl (fun _ _ h => .step
    (State.wearStore_frame _ _) rfl h) h3))

theorem execSolverPowerGate_later {z : State} (s : State) (hz : Later z s) : LaterA z (execSolverPowerGate s) := by
  unfold execSolverPowerGate
  refine .ite ?_ ?_
  · extract_lets +onlyGivenNames u0
    have h0 : Later z u0 := .max hz
    exact .next (.step (State.setGate_frame _ _ _) rfl (.step (State.wr_frame _ _ _) rfl h0))
  · exact .next hz

theorem execPollSend_later {z : State} (l : Fin 8) (s : State) (hz : Later z s) : LaterA z (execPollSend l s) := by
  unfold execPollSend
  extract_lets +onlyGivenNames u0
  refine .ite ?_ ?_
  · extract_lets +onlyGivenNames u1
    have h1 : Later z u1 := .max hz
    extract_lets +onlyGivenNames u2
    have h2 : Later z u2 := .step (State.rioUnreturned_frame _ _ _) rfl h1
    extract_lets +onlyGivenNames u3
    exact .next (.step (State.setRioLink_frame _ _ _) rfl h2)
  · exact .next hz

theorem execPollReturn_later {z : State} (l : Fin 8) (fcsGood : Bool) (rtt : Nat) (payload : List Byte) (s : State)
    (hz : Later z s) :
    LaterA z (execPollReturn l fcsGood rtt payload s) := by
  unfold execPollReturn
  split
  · exact .next hz
  · extract_lets +onlyGivenNames u0 u1
    have h1 : Later z u1 := .max hz
    extract_lets +onlyGivenNames u2 u3
    have h3 : Later z u3 := .step (State.setRioLink_frame _ _ _) rfl h1
    refine .ite ?_ ?_
    · exact .next (.step (State.bump_frame _ _) rfl h3)
    · extract_lets +onlyGivenNames u4
      have h4 : Later z u4 := .step (State.wr_frame _ _ _) rfl h3
      refine .ite ?_ ?_
      · exact .next (.step (State.post_frame _ _ _ _ _ _) rfl (.step (State.bump_frame _ _) rfl h4))
      · extract_lets +onlyGivenNames u5
        exact .next (.step (State.setRioLink_frame _ _ _) rfl (.step (State.bumpBy_frame _ _ _) rfl h4))

theorem execOlcSwap_later {z : State} (s : State) (hz : Later z s) : LaterA z (execOlcSwap s) := by
  unfold execOlcSwap
  refine .ite ?_ ?_
  · exact .next hz
  · refine .ite ?_ ?_
    · exact .next (.step (State.olcSwap_frame _) rfl hz)
    · split
      · exact .ite (.next (.step (State.olcSwap_frame _) rfl (.max hz))) (.next hz)
      · exact .next hz

theorem State.rtuSilence_later {z : State} (s : State) (p : Nat) (hz : Later z s) :
    Later z (State.rtuSilence s p) := by
  unfold State.rtuSilence
  split
  · exact .ite (.max hz) hz
  · exact hz

theorem execSerTxStart_later {z : State} (p : Fin 8) (s : State) (hz : Later z s) :
    LaterA z (execSerTxStart p s) := by
  unfold execSerTxStart
  extract_lets +onlyGivenNames u0
  refine .ite ?_ ?_
  · extract_lets +onlyGivenNames u1
    have h1 : Later z u1 := State.headWait_later _ _ hz
    extract_lets +onlyGivenNames u2 u3
    refine .ite ?_ ?_
    · extract_lets +onlyGivenNames u4
      exact .next (.step (State.post_frame _ _ _ _ _ _) rfl (.step (State.txDone_frame _ _ _ _) rfl h1))
    · extract_lets +onlyGivenNames u5
      have h5 : Later z u5 := .step (State.wake_frame _ _) rfl (State.rtuSilence_later _ _ h1)
      exact .next (.step (State.wr_frame _ _ _) rfl (.of_eq h5 rfl))
  · exact .next hz

theorem execDarkTest_later {z : State} (n : Fin 8) (failed : Bool) (volts10 : Nat) (s : State) (hz : Later z s) :
    LaterA z (execDarkTest n failed volts10 s) := by
  unfold execDarkTest
  refine .ite ?_ ?_
  · extract_lets +onlyGivenNames u0
    have h0 : Later z u0 := by
      subst u0
      split
      · exact State.waitTo_later _ _ hz
      · exact hz
    extract_lets +onlyGivenNames u1 u2
    have h2 : Later z u2 := .of_eq h0 rfl
    exact .ite (.next (.step (State.post_frame _ _ _ _ _ _) rfl (.step (State.wr_frame _ _ _) rfl h2))) (.next h2)
  · exact .next hz

theorem execCtrlHbLost_later {z : State} (s : State) (hz : Later z s) : LaterA z (execCtrlHbLost s) := by
  unfold execCtrlHbLost
  exact .ite (.next (.step (State.matrix_frame _) rfl (.step (State.wr_frame _ _ _) rfl
    (State.waitTo_later _ _ hz)))) (.next
    hz)

theorem State.commitBegin_later {z : State} (s : State) (t : Nat) (hz : Later z s) :
    Later z (State.commitBegin s t) := by
  unfold State.commitBegin
  extract_lets +onlyGivenNames u0
  have h0 : Later z u0 := .max hz
  extract_lets +onlyGivenNames u1 u2
  have h2 : Later z u2 := .step (State.loopArm_frame _ _) rfl (.step (State.setTask_frame _ _ _) rfl h0)
  exact .ite (.step (State.foldCrcs_frame _) rfl h2) h2

theorem State.strictLate_later {z : State} (s : State) (t : Nat) (hz : Later z s) :
    Later z (State.strictLate s t) := by
  unfold State.strictLate
  refine .ite ?_ ?_
  · extract_lets +onlyGivenNames u0
    have h0 : Later z u0 := .max hz
    extract_lets +onlyGivenNames u1
    have h1 : Later z u1 := .step (State.post_frame _ _ _ _ _ _) rfl (.step (State.cmpShow_frame _ _ _ _) rfl (.step
      (State.bump_frame _ _) rfl h0))
    exact .step (State.commitNow_frame _ _) rfl h1
  · exact hz

theorem State.strictLates_later {z : State} (s : State) (at_ : Nat) (hz : Later z s) :
    Later z (State.strictLates s at_) := by
  unfold State.strictLates
  exact .foldl (fun _ _ h0 => State.strictLate_later _ _ h0) hz

theorem execExecuteReturn_later {z : State} (t : Fin 16) (ns : Nat) (image : Option (List Byte)) (invokes : List
    Invoke) (writes : List (BitVec 32 × List Byte)) (s : State) (hz : Later z s) :
    LaterA z (execExecuteReturn t ns image invokes writes s) := by
  unfold execExecuteReturn
  extract_lets +onlyGivenNames u0
  refine .ite ?_ ?_
  · exact .next hz
  · extract_lets +onlyGivenNames u1
    have h1 : Later z u1 := .max hz
    extract_lets +onlyGivenNames u2
    have h2 : Later z u2 := .step (State.coreCount_frame _ _) rfl h1
    extract_lets +onlyGivenNames u3
    have h3 : Later z u3 := .foldl (fun _ _ h4 => .step (State.invoke_frame _ _ _) rfl h4) h2
    extract_lets +onlyGivenNames u5
    have h5 : Later z u5 := .foldl (fun _ _ h6 => .step (State.varWrite_frame _ _ _) rfl h6) h3
    extract_lets +onlyGivenNames u7 u8 u9
    have h9 : Later z u9 := .step (State.execTime_frame _ _ _) rfl h5
    extract_lets +onlyGivenNames u10 u11
    have h11 : Later z u11 := .step (State.setTask_frame _ _ _) rfl h9
    refine .ite ?_ ?_
    · exact .next (.step (State.wr_frame _ _ _) rfl h11)
    · refine .ite ?_ ?_
      · extract_lets +onlyGivenNames u12
        have h12 : Later z u12 := .step (State.wr_frame _ _ _) rfl h11
        exact .next (.step (State.followStep_frame _ _) rfl (.ite (.step (State.digestAhead_frame _ _) rfl h12) h12))
      · exact .next h11

theorem State.commitAt_later {z : State} (s : State) (t : Nat) (hz : Later z s) : Later z (State.commitAt s t) := by
  unfold State.commitAt
  extract_lets +onlyGivenNames at_ u
  have hu : Later z u := State.commitBegin_later _ _ hz
  clear_value u
  split
  · refine .ite ?_ hu
    extract_lets v
    have hv : Later z v := .step (State.bump_frame _ _) rfl hu
    clear_value v
    exact .of_eq hv rfl
  · exact .ite hu (.step (State.pointAt_frame _ _) rfl (.ite (.of_eq hu rfl) hu))

theorem State.commitsTo_later {z : State} (s : State) (at_ : Nat) (hz : Later z s) :
    Later z (State.commitsTo s at_) := by
  unfold State.commitsTo
  exact .foldl (fun _ _ h0 => State.commitAt_later _ _ h0) hz

theorem execCommit_later {z : State} (t : Fin 16) (s : State) (hz : Later z s) : LaterA z (execCommit t s) := by
  unfold execCommit
  exact .ite (.next (State.commitAt_later _ _ (.foldl (fun _ _ h0 => State.commitAt_later _ _ h0) hz))) (.next hz)

theorem execBaseTick_later {z : State} (s : State) (hz : Later z s) : LaterA z (execBaseTick s) := by
  unfold execBaseTick
  extract_lets +onlyGivenNames u0
  refine .ite ?_ ?_
  · exact .next hz
  · extract_lets +onlyGivenNames u1
    have h1 : Later z u1 := State.strictLates_later _ _ (State.commitsTo_later _ _ hz)
    extract_lets +onlyGivenNames u2
    have h2 : Later z u2 := .ite (.step (State.demote_frame _ _ _) rfl h1) h1
    extract_lets +onlyGivenNames u3 u4 u5
    have h5 : Later z u5 := .max h2
    extract_lets +onlyGivenNames u6
    have h6 : Later z u6 := .step (State.safHeartbeat_frame _ _) rfl h5
    exact .ite (.next (.step (State.followAll_frame _) rfl (.of_eq h6 rfl))) (.ite (.next (.step
      (State.tickLead_frame _) rfl
      h6)) (.next (.step (State.topupTick_frame _) rfl h6)))

theorem execBarrierBackstop_later {z : State} (s : State) (hz : Later z s) : LaterA z (execBarrierBackstop s) := by
  unfold execBarrierBackstop
  split
  · refine .ite ?_ ?_
    · extract_lets +onlyGivenNames u0
      have h0 : Later z u0 := .max hz
      exact .next (.of_eq h0 rfl)
    · exact .next hz
  · exact .next hz

theorem execRampEnd_later {z : State} (s : State) (hz : Later z s) : LaterA z (execRampEnd s) := by
  unfold execRampEnd
  split
  · split
    · extract_lets +onlyGivenNames u0
      have h0 : Later z u0 := .max hz
      refine .ite ?_ ?_
      · extract_lets +onlyGivenNames u1 u2
        have h2 : Later z u2 := .of_eq h0 rfl
        exact .next (.step (State.banSend_frame _ _ _) rfl h2)
      · exact .next h0
    · exact .next hz
  · exact .next hz

theorem execPlantHeartbeatSend_later {z : State} (s : State) (hz : Later z s) :
    LaterA z (execPlantHeartbeatSend s) := by
  unfold execPlantHeartbeatSend
  refine .ite ?_ ?_
  · extract_lets +onlyGivenNames u0 u1
    have h1 : Later z u1 := .max hz
    exact .next (.step (State.plantBeats_frame _ _) rfl (.of_eq h1 rfl))
  · exact .next hz

theorem execHeartbeatSend_later {z : State} (s : State) (hz : Later z s) : LaterA z (execHeartbeatSend s) := by
  unfold execHeartbeatSend
  extract_lets +onlyGivenNames u0
  have h0 : Later z u0 := .max hz
  extract_lets +onlyGivenNames u1
  have h1 : Later z u1 := .step (State.banSend_frame _ _ _) rfl h0
  extract_lets +onlyGivenNames u2
  exact .next (.ite (.step (State.banAsk_frame _ _ _) rfl h1) h1)

theorem execRampStart_later {z : State} (s : State) (hz : Later z s) : LaterA z (execRampStart s) := by
  unfold execRampStart
  split
  · split
    · extract_lets +onlyGivenNames u0
      have h0 : Later z u0 := .step (State.rampSet_frame _ _) rfl (.max hz)
      exact .next (.ite h0 (.of_eq h0 rfl))
    · exact .next hz
  · exact .next hz

theorem execLaneRestored_later {z : State} (l : Fin 2) (s : State) (hz : Later z s) :
    LaterA z (execLaneRestored l s) := by
  unfold execLaneRestored
  refine .ite ?_ ?_
  · extract_lets +onlyGivenNames u0 u1
    have h1 : Later z u1 := .max hz
    extract_lets +onlyGivenNames u2
    have h2 : Later z u2 := .step (State.wr_frame _ _ _) rfl (.step (State.wr_frame _ _ _) rfl h1)
    extract_lets +onlyGivenNames u3
    have h3 : Later z u3 := .step (State.post_frame _ _ _ _ _ _) rfl h2
    extract_lets +onlyGivenNames u4
    have h4 : Later z u4 := .step (State.isoShow_frame _) rfl h3
    exact .next (.ite (.step (State.demote_frame _ _ _) rfl h4) h4)
  · exact .next hz

theorem execHandshakeTimeout_later {z : State} (s : State) (hz : Later z s) : LaterA z (execHandshakeTimeout s) := by
  unfold execHandshakeTimeout
  split
  · exact .next hz
  · extract_lets +onlyGivenNames u0 u1
    have h1 : Later z u1 := .max hz
    extract_lets +onlyGivenNames u2
    have h2 : Later z u2 := .step (State.post_frame _ _ _ _ _ _) rfl (.step (State.bump_frame _ _) rfl h1)
    exact .next (.of_eq h2 rfl)

theorem execMissingFrameDemote_later {z : State} (type : Byte) (s : State) (hz : Later z s) :
    LaterA z (execMissingFrameDemote type s) := by
  unfold execMissingFrameDemote
  refine .ite ?_ ?_
  · split
    · exact .next (.step (State.demote_frame _ _ _) rfl (.max hz))
    · exact .next hz
  · exact .next hz

theorem execAoReadbackMismatch_later {z : State} (k : Fin 8) (c : Fin 8) (s : State) (hz : Later z s) :
    LaterA z (execAoReadbackMismatch k c s) := by
  unfold execAoReadbackMismatch
  extract_lets +onlyGivenNames u0
  split
  · exact .next hz
  · refine .ite ?_ ?_
    · exact .next hz
    · extract_lets +onlyGivenNames u1
      have h1 : Later z u1 := State.waitTo_later _ _ hz
      extract_lets +onlyGivenNames u2
      have h2 : Later z u2 := .step (State.aoFlags_frame _ _ _) rfl (.step (State.wr_frame _ _ _) rfl h1)
      extract_lets +onlyGivenNames u3
      have h3 : Later z u3 := .step (State.post_frame _ _ _ _ _ _) rfl h2
      exact .next (.step (State.readbackTrigger_frame _ _) rfl h3)

theorem execDoReadbackMismatch_later {z : State} (k : Fin 8) (c : Fin 8) (s : State) (hz : Later z s) :
    LaterA z (execDoReadbackMismatch k c s) := by
  unfold execDoReadbackMismatch
  extract_lets +onlyGivenNames u0 u1
  split
  · exact .next hz
  · refine .ite ?_ ?_
    · extract_lets +onlyGivenNames u2 u3
      have h3 : Later z u3 := .step (State.setCh_frame _ _ _ _) rfl (State.waitTo_later _ _ hz)
      exact .next (.step (State.readbackTrigger_frame _ _) rfl (.step (State.post_frame _ _ _ _ _ _) rfl h3))
    · exact .next hz

theorem execInquiryTimeout_later {z : State} (s : State) (hz : Later z s) : LaterA z (execInquiryTimeout s) := by
  unfold execInquiryTimeout
  split
  · exact .next hz
  · refine .ite ?_ ?_
    · exact .next hz
    · extract_lets +onlyGivenNames u0
      have h0 : Later z u0 := .max hz
      split
      · exact .next (.step (State.inquiryDecide_frame _ _ _ _) rfl h0)
      · exact .next (.of_eq h0 rfl)

theorem execLaneLost_later {z : State} (l : Fin 2) (s : State) (hz : Later z s) : LaterA z (execLaneLost l s) := by
  unfold execLaneLost
  refine .ite ?_ ?_
  · extract_lets +onlyGivenNames u0 u1
    have h1 : Later z u1 := .max hz
    extract_lets +onlyGivenNames u2
    have h2 : Later z u2 := .step (State.wr_frame _ _ _) rfl (.step (State.wr_frame _ _ _) rfl h1)
    extract_lets +onlyGivenNames u3 u4 u5
    have h5 : Later z u5 := .of_eq h2 rfl
    extract_lets +onlyGivenNames u6
    have h6 : Later z u6 := .step (State.post_frame _ _ _ _ _ _) rfl h5
    exact .next (.ite h6 (.step (State.lanesGone_frame _) rfl h6))
  · exact .next hz

theorem execStrictDigestTimeout_later {z : State} (t : Fin 16) (s : State) (hz : Later z s) :
    LaterA z (execStrictDigestTimeout t s) := by
  unfold execStrictDigestTimeout
  exact .next (State.strictLate_later _ _ hz)

theorem execDigestMissing_later {z : State} (t : Fin 16) (s : State) (hz : Later z s) :
    LaterA z (execDigestMissing t s) := by
  unfold execDigestMissing
  exact .ite (.next (.step (State.digestMissing_frame _ _) rfl (.max hz))) (.next hz)

theorem execTakeoverInstant_later {z : State} (unknown : List (Fin 64)) (s : State) (hz : Later z s) :
    LaterA z (execTakeoverInstant unknown s) := by
  unfold execTakeoverInstant
  split
  · exact .next hz
  · extract_lets +onlyGivenNames u0
    refine .ite ?_ ?_
    · exact .next hz
    · extract_lets +onlyGivenNames u1
      have h1 : Later z u1 := State.commitsTo_later _ _ hz
      extract_lets +onlyGivenNames u2 u3
      have h3 : Later z u3 := .max h1
      exact .next (.ite (.step (State.takeoverOld_frame _ _) rfl h3) (.step (State.takeoverNew_frame _ _ _) rfl h3))

theorem State.nbBoundary_later {z : State} (s : State) (hz : Later z s) : Later z (State.nbBoundary s) :=
  le_trans hz (le_max_left _ _)

theorem execNbRailsDown_later {z : State} (s : State) (hz : Later z s) : LaterA z (execNbRailsDown s) := by
  unfold execNbRailsDown
  extract_lets +onlyGivenNames u0 u1
  refine .ite ?_ ?_
  · extract_lets +onlyGivenNames u2
    have h2 : Later z u2 := .ite hz (.max hz)
    extract_lets +onlyGivenNames u3
    have h3 : Later z u3 := .step (State.nbRailsOff_frame _) rfl h2
    exact .next (.step (State.nbState_frame _) rfl (.of_eq h3 rfl))
  · exact .next hz

theorem execNbRailRise_later {z : State} (s : State) (hz : Later z s) : LaterA z (execNbRailRise s) := by
  unfold execNbRailRise
  refine .ite ?_ (.next hz)
  extract_lets n u
  exact .next (le_add_right hz)

theorem execNbIdleScan_later {z : State} (temp : BitVec 16) (bad : Option (BitVec 5 × Nat)) (s : State)
    (hz : Later z s) : LaterA z (execNbIdleScan temp bad s) := by
  unfold execNbIdleScan
  refine .ite ?_ (.next hz)
  extract_lets +onlyGivenNames u0 n b u1 u2 u3
  have h0 : Later z u0 := .step (State.wake_frame _ _) rfl hz
  have h1 : Later z u1 := le_trans h0 (le_max_left _ _)
  have h2 : Later z u2 := .step (State.wr64_frame _ _ _ _) rfl h1
  have h3 : Later z u3 := by
    subst u3
    split
    · exact .step (State.post_frame _ _ _ _ _ _) rfl h2
    · exact h2
  exact .next (.step (State.nbState_frame _) rfl (.step (State.nbTemp_frame _ _) rfl h3))

theorem execNbBalancePass_later {z : State} (s : State) (hz : Later z s) : LaterA z (execNbBalancePass s) := by
  unfold execNbBalancePass
  extract_lets +onlyGivenNames u0 u1 u2
  refine .ite ?_ ?_
  · extract_lets +onlyGivenNames u3
    have h3 : Later z u3 := .ite hz (.max hz)
    exact .next (.step (State.nbShow_frame _) rfl (.step (State.nbState_frame _) rfl (.step
      (State.nbBalance_frame _) rfl h3)))
  · exact .next hz

theorem execNbFrame_later {z : State} (temp : BitVec 16) (s : State) (hz : Later z s) :
    LaterA z (execNbFrame temp s) := by
  unfold execNbFrame
  refine .ite ?_ ?_
  · extract_lets +onlyGivenNames u0
    have h0 : Later z u0 := State.nbBoundary_later _ hz
    extract_lets +onlyGivenNames u1
    have h1 : Later z u1 := .ite (.step (State.nbTemp_frame _ _) rfl h0) h0
    refine .ite ?_ ?_
    · exact .next (.step (State.nbShow_frame _) rfl (.step (State.nbState_frame _) rfl (.step
      (State.nbAbort_frame _) rfl h1)))
    · extract_lets +onlyGivenNames u2
      have h2 : Later z u2 := .step (State.nbStart_frame _) rfl h1
      refine .ite ?_ ?_
      · extract_lets +onlyGivenNames u3
        have h3 : Later z u3 := .step (State.nbLightOn_frame _) rfl (.step (State.nbJobEnd_frame _) rfl (.step
          (State.nbScan_frame _) rfl h2))
        exact .next (.step (State.nbShow_frame _) rfl (.step (State.nbState_frame _) rfl (.step
          (State.nbShut_frame _) rfl (.step
          (State.nbCompletions_frame _ _ _) rfl h3))))
      · exact .next (.step (State.nbShow_frame _) rfl (.step (State.nbState_frame _) rfl (.step
        (State.nbLightOn_frame _) rfl
          (.step (State.nbJobEnd_frame _) rfl h2))))
  · exact .next hz

theorem execExcursionStore_later {z : State} (s : State) (hz : Later z s) : LaterA z (execExcursionStore s) := by
  unfold execExcursionStore
  refine .ite ?_ ?_
  · extract_lets +onlyGivenNames u0
    have h0 : Later z u0 := State.waitTo_later _ _ hz
    extract_lets +onlyGivenNames u1 u2
    have h2 : Later z u2 := .of_eq h0 rfl
    extract_lets +onlyGivenNames u3
    have h3 : Later z u3 := .foldl (fun _ _ h4 => .ite (.step (State.wr_frame _ _ _) rfl h4) h4) h2
    exact .next (.step (State.safStore_frame _) rfl h3)
  · exact .next hz

theorem execTestPulseOff_later {z : State} (l : Fin 8) (s : State) (hz : Later z s) :
    LaterA z (execTestPulseOff l s) := by
  unfold execTestPulseOff
  refine .ite ?_ ?_
  · extract_lets +onlyGivenNames u0 u1
    have h1 : Later z u1 := State.waitTo_later _ _ hz
    exact .ite (.next h1) (.next (.of_eq h1 rfl))
  · exact .next hz

theorem State.fieldStale_later {z : State} (s : State) (k : Nat) (spa : Bool) (spb : Bool) (hz : Later z s) :
    Later z (State.fieldStale s k spa spb) := by
  unfold State.fieldStale
  extract_lets +onlyGivenNames u0 u1
  have h1 : Later z u1 := State.waitTo_later _ _ hz
  extract_lets +onlyGivenNames u2 u3 u4
  exact .step (State.setIsland_frame _ _ _) rfl h1

theorem State.funExpire_later {z : State} (s : State) (f : Nat) (hz : Later z s) : Later z (State.funExpire s f) := by
  unfold State.funExpire
  exact .step (State.matrix_frame _) rfl (.step (State.funTrip_frame _ _ _ _ _) rfl (State.waitTo_later _ _ hz))

theorem State.fieldLost_later {z : State} (s : State) (k : Nat) (spa : Bool) (spb : Bool) (users : Nat) (hz : Later z
    s) :
    Later z (State.fieldLost s k spa spb users) := by
  unfold State.fieldLost
  extract_lets +onlyGivenNames u0 u1
  have h1 : Later z u1 := State.waitTo_later _ _ hz
  extract_lets +onlyGivenNames u2 u3
  refine .ite ?_ ?_
  · exact h1
  · extract_lets +onlyGivenNames u4
    have h4 : Later z u4 := .step (State.setIsland_frame _ _ _) rfl h1
    extract_lets +onlyGivenNames u5 u6 u7
    have h7 : Later z u7 := .of_eq h4 rfl
    extract_lets +onlyGivenNames u8
    have h8 : Later z u8 := .step (State.post_frame _ _ _ _ _ _) rfl h7
    exact .step (State.matrix_frame _) rfl (.step (State.funTrips_frame _ _ _) rfl h8)

theorem execSafetyFieldStale_later {z : State} (k : Fin 8) (inbound : Bool) (spa : Bool) (spb : Bool) (users : BitVec
    64) (s : State) (hz : Later z s) :
    LaterA z (execSafetyFieldStale k inbound spa spb users s) := by
  unfold execSafetyFieldStale
  exact .ite (.next hz) (.ite (.next (.ite (State.fieldStale_later _ _ _ _ hz) hz)) (.next (.ite
    (State.fieldLost_later _ _ _ _ _ hz) hz)))

theorem execSafetyAdoptComplete_later {z : State} (s : State) (hz : Later z s) :
    LaterA z (execSafetyAdoptComplete s) := by
  unfold execSafetyAdoptComplete
  refine .ite ?_ ?_
  · exact .next hz
  · extract_lets +onlyGivenNames u0
    have h0 : Later z u0 := .step (State.safStore_frame _) rfl (State.waitTo_later _ _ hz)
    extract_lets +onlyGivenNames u1 u2
    have h2 : Later z u2 := .of_eq h0 rfl
    extract_lets +onlyGivenNames u3
    have h3 : Later z u3 := .step (State.safFunctions_frame _ _) rfl (.step (State.safShow_frame _) rfl (.step
      (State.wr_frame _ _ _) rfl h2))
    exact .next (.step (State.safSummary_frame _) rfl (.step (State.enterSafe_frame _ _) rfl (.step
      (State.tgStart_frame _) rfl
      h3)))

theorem execTestPulseSample_later {z : State} (l : Fin 8) (on : BitVec 16) (volts10 : Nat) (users : List (BitVec 64))
    (s : State) (hz : Later z s) :
    LaterA z (execTestPulseSample l on volts10 users s) := by
  unfold execTestPulseSample
  exact .ite (.next hz) (.next (.step (State.pulseSample_frame _ _ _ _ _) rfl (State.waitTo_later _ _ hz)))

theorem execExcursionExpire_later {z : State} (who : ExcOwner) (s : State) (hz : Later z s) :
    LaterA z (execExcursionExpire who s) := by
  unfold execExcursionExpire
  refine .ite ?_ ?_
  · exact .next hz
  · split
    · exact .ite (.next (State.funExpire_later _ _ hz)) (.next hz)
    · split
      · exact .ite (.next (.step (State.matrixForce_frame _) rfl (State.waitTo_later _ _ hz))) (.next hz)
      · exact .next hz

theorem execMatrixCheckEnd_later {z : State} (s : State) (hz : Later z s) : LaterA z (execMatrixCheckEnd s) := by
  unfold execMatrixCheckEnd
  split
  · refine .ite ?_ ?_
    · exact .next (.step (State.matrixForce_frame _) rfl (State.waitTo_later _ _ hz))
    · extract_lets +onlyGivenNames u0
      have h0 : Later z u0 := State.waitTo_later _ _ hz
      extract_lets +onlyGivenNames u1 u2
      have h2 : Later z u2 := .of_eq h0 rfl
      refine .ite ?_ ?_
      · extract_lets +onlyGivenNames u3 u4 u5
        have h5 : Later z u5 := .of_eq h2 rfl
        extract_lets +onlyGivenNames u6
        have h6 : Later z u6 := .step (State.wr_frame _ _ _) rfl (.step (State.wr_frame _ _ _) rfl (.step
          (State.wr_frame _ _
          _) rfl h5))
        exact .next (.step (State.matrix_frame _) rfl (.step (State.safSummary_frame _) rfl (.step
          (State.post_frame _ _ _ _
          _ _) rfl h6)))
      · exact .next (.step (State.post_frame _ _ _ _ _ _) rfl h2)
  · exact .next hz

theorem execSafetyWatchdogExpiry_later {z : State} (spb : Bool) (early : Bool) (s : State) (hz : Later z s) :
    LaterA z (execSafetyWatchdogExpiry spb early s) := by
  unfold execSafetyWatchdogExpiry
  exact .ite (.next hz) (.ite (.next (.ite (.step (State.procFail_frame _ _ _) rfl hz) hz)) (.next (.step
    (State.procFail_frame _ _ _) rfl (State.waitTo_later _ _ hz))))

theorem execSafetyCycle_later {z : State} (x : SafCycle) (s : State) (hz : Later z s) :
    LaterA z (execSafetyCycle x s) := by
  unfold execSafetyCycle
  refine .ite (.next hz) ?_
  extract_lets +onlyGivenNames u0 y u1 u2
  have h0 : Later z u0 := by
    subst u0
    split
    · exact State.waitTo_later _ _ hz
    · exact hz
  have h1 : Later z u1 := .of_eq h0 rfl
  have h2 : Later z u2 := .step (State.wr64_frame _ _ _ _) rfl h1
  exact .next (.ite h2 (.step (State.tgRead_frame _) rfl (.step (State.safCycle_frame _ _) rfl h2)))

theorem execSoftSectionLanding_later {z : State} (peer : Bool) (s : State) (hz : Later z s) :
    LaterA z (execSoftSectionLanding peer s) := by
  unfold execSoftSectionLanding
  split
  · exact .next hz
  · refine .ite ?_ ?_
    · exact .next hz
    · split
      · extract_lets +onlyGivenNames u0
        exact .ite (.next (.step (State.softLand_frame _ _) rfl (.max hz))) (.next hz)
      · exact .next (.step (State.softLand_frame _ _) rfl hz)

theorem execUpgradeAdmitLapse_later {z : State} (s : State) (hz : Later z s) :
    LaterA z (execUpgradeAdmitLapse s) := by
  unfold execUpgradeAdmitLapse
  exact .ite (.next (.step (State.wr_frame _ _ _) rfl (.max hz))) (.next hz)

theorem execSwapLanding_later {z : State} (s : State) (hz : Later z s) : LaterA z (execSwapLanding s) := by
  unfold execSwapLanding
  split
  · split
    · refine .ite ?_ ?_
      · extract_lets +onlyGivenNames u0
        have h0 : Later z u0 := .max hz
        extract_lets +onlyGivenNames u1 u2
        have h2 : Later z u2 := .of_eq h0 rfl
        extract_lets +onlyGivenNames u3
        have h3 : Later z u3 := .step (State.setJoin_frame _ _) rfl h2
        extract_lets +onlyGivenNames u4
        have h4 : Later z u4 := .step (State.dirtySend_frame _ _) rfl h3
        exact .next (.foldl (fun _ _ h5 => .step (State.hamperSend_frame _ _ _) rfl h5) h4)
      · exact .next hz
    · exact .next hz
  · exact .next hz

/-- The states of a top-up are reckoned at an instant that may have passed; the counter stands meanwhile. -/
theorem State.topupAt_later {z : State} (s : State) (at_ : Nat) (b : List Byte) (hz : Later z s) :
    Later z (State.topupAt s at_ b) := by
  unfold State.topupAt
  extract_lets r
  clear_value r
  have hr : Later z { r.1 with frc := s.frc } := hz
  exact .step (State.applySlots_frame _ _) rfl hr

theorem State.topupTake_later {z : State} (s : State) (sent : Nat) (b : List Byte) (hz : Later z s) :
    Later z (State.topupTake s sent b) := by
  unfold State.topupTake
  split
  · extract_lets +onlyGivenNames u0
    exact .ite hz (.ite (State.topupAt_later _ _ _ hz) (.step (State.setJoin_frame _ _) rfl hz))
  · exact hz

theorem execJoinRetry_later {z : State} (s : State) (hz : Later z s) : LaterA z (execJoinRetry s) := by
  unfold execJoinRetry
  split
  · refine .ite ?_ ?_
    · extract_lets +onlyGivenNames u0
      have h0 : Later z u0 := .max hz
      exact .next (.step (State.joinAsk_frame _) rfl (.step (State.setJoin_frame _ _) rfl h0))
    · exact .next hz
  · exact .ite (.next (.step (State.joinBegin_frame _) rfl (.max hz))) (.next hz)

theorem execJoinRequestResend_later {z : State} (s : State) (hz : Later z s) :
    LaterA z (execJoinRequestResend s) := by
  unfold execJoinRequestResend
  split
  · exact .ite (.next hz) (.ite (.next (.step (State.joinEnd_frame _ _) rfl (.step
    (State.setJoin_frame _ _) rfl hz))) (.next
      (.step (State.joinAsk_frame _) rfl (.step (State.setJoin_frame _ _) rfl (.max hz)))))
  · exact .next hz

theorem execKeySessionTimeout_later {z : State} (s : State) (hz : Later z s) :
    LaterA z (execKeySessionTimeout s) := by
  unfold execKeySessionTimeout
  split
  · exact .next (.step (State.keyRestore_frame _) rfl (.max hz))
  · exact .next hz

theorem execShutdownOutputsOff_later {z : State} (s : State) (hz : Later z s) :
    LaterA z (execShutdownOutputsOff s) := by
  unfold execShutdownOutputsOff
  refine .ite ?_ ?_
  · extract_lets +onlyGivenNames u0
    have h0 : Later z u0 := .max hz
    exact .next (.of_eq h0 rfl)
  · exact .next hz

theorem Answer.getD_later {z : State} (a : Answer) (s : State) (ha : LaterA z a) (hz : Later z s) :
    Later z (Answer.getD a s) := by
  unfold Answer.getD
  split
  · exact ha _ rfl
  · exact hz

theorem State.gbDrain_later {z : State} (s : State) (n : Nat) (hz : Later z s) : Later z (State.gbDrain s n) := by
  induction n generalizing s with
  | zero => exact hz
  | succ n ih =>
    have h : Later z ((execGbEvent s).getD s) := Answer.getD_later _ _ (.of_frame
      (execGbEvent_frame s (F := besideFrc) rfl (fr_self _ s)) rfl hz) hz
    exact ih _ (Answer.getD_later _ _ (execGbRecordWrite_later false _ h) h)

theorem execBeaconSend_later {z : State} (s : State) (hz : Later z s) : LaterA z (execBeaconSend s) := by
  unfold execBeaconSend
  refine .ite ?_ ?_
  · extract_lets +onlyGivenNames u0 u1
    have h1 : Later z u1 := .max hz
    extract_lets +onlyGivenNames u2 u3
    have h3 : Later z u3 := .of_eq h1 rfl
    exact .next (.step (State.banSend_frame _ _ _) rfl h3)
  · exact .next hz

theorem State.warned_later {z : State} (s : State) (why : PfCause) (meas : PwrMeas) (hz : Later z s) :
    Later z (State.warned s why meas) := by
  unfold State.warned
  extract_lets +onlyGivenNames u0
  have h0 : Later z u0 := .step (State.pwrMeasure_frame _ _) rfl hz
  extract_lets +onlyGivenNames u1
  have h1 : Later z u1 := .ite (.max h0) h0
  extract_lets +onlyGivenNames u2
  have h2 : Later z u2 := .step (State.wr_frame _ _ _) rfl (.step (State.wr_frame _ _ _) rfl h1)
  exact .of_eq h2 rfl

theorem State.gbFlush_later {z : State} (s : State) (hz : Later z s) : Later z (State.gbFlush s) := by
  unfold State.gbFlush
  extract_lets u0 u1
  have h0 : Later z u0 := Answer.getD_later _ _ (.of_frame
    (execGbClearComplete_frame s (F := besideFrc) rfl (fr_self _ s)) rfl hz) hz
  have h1 : Later z u1 := Answer.getD_later _ _ (execGbRecordWrite_later _ _ h0) h0
  exact State.gbDrain_later _ _ h1

theorem execElectionWindowEnd_later {z : State} (s : State) (hz : Later z s) :
    LaterA z (execElectionWindowEnd s) := by
  unfold execElectionWindowEnd
  split
  · extract_lets +onlyGivenNames u0
    have h0 : Later z u0 := .max hz
    split
    · exact .next (.step (State.elect_frame _ _) rfl h0)
    · exact .next (.of_eq h0 rfl)
  · exact .next hz

theorem execShutdownMramCommit_later {z : State} (meas : PwrMeas) (permille : Nat) (s : State) (hz : Later z s) :
    LaterA z (execShutdownMramCommit meas permille s) := by
  unfold execShutdownMramCommit
  refine .ite ?_ ?_
  · extract_lets +onlyGivenNames u0
    have h0 : Later z u0 := .max hz
    extract_lets +onlyGivenNames u1
    have h1 : Later z u1 := .step (State.latentCount_frame _) rfl (.step (State.pwrMeasure_frame _ _) rfl h0)
    extract_lets +onlyGivenNames u2
    have h2 : Later z u2 := .step (State.post_frame _ _ _ _ _ _) rfl h1
    extract_lets +onlyGivenNames u3
    have h3 : Later z u3 := .ite h2 (.step (State.wearHoldup_frame _ _ _ _) rfl h2)
    extract_lets +onlyGivenNames u4
    have h4 : Later z u4 := State.gbFlush_later _ h3
    exact .next (.of_eq h4 rfl)
  · exact .next hz

theorem execElectionDeferEnd_later {z : State} (s : State) (hz : Later z s) : LaterA z (execElectionDeferEnd s) := by
  unfold execElectionDeferEnd
  refine .ite ?_ ?_
  · extract_lets +onlyGivenNames u0
    have h0 : Later z u0 := .max hz
    split
    · exact .next (.step (State.elect_frame _ _) rfl h0)
    · exact .next (.step (State.elect_frame _ _) rfl (.step (State.wr_frame _ _ _) rfl h0))
    · exact .next (.step (State.elect_frame _ _) rfl h0)
  · exact .next hz

theorem execPowerFailWarning_later {z : State} (why : PfCause) (meas : PwrMeas) (s : State) (hz : Later z s) :
    LaterA z (execPowerFailWarning why meas s) := by
  unfold execPowerFailWarning
  refine .ite ?_ ?_
  · exact .next hz
  · extract_lets +onlyGivenNames u0
    have h0 : Later z u0 := State.warned_later _ _ _ hz
    refine .ite ?_ ?_
    · exact .next h0
    · extract_lets +onlyGivenNames u1
      have h1 : Later z u1 := .step (State.post_frame _ _ _ _ _ _) rfl h0
      exact .next (.step (State.pfActions_frame _) rfl h1)

theorem execJoinTick_later {z : State} (s : State) (hz : Later z s) : LaterA z (execJoinTick s) := by
  unfold execJoinTick
  split
  · split
    · refine .ite ?_ ?_
      · exact .next hz
      · extract_lets +onlyGivenNames u0
        have h0 : Later z u0 := .max hz
        extract_lets +onlyGivenNames u1
        have h1 : Later z u1 := State.topupAt_later _ _ _ (.step (State.replayLand_frame _ _ _) rfl h0)
        extract_lets +onlyGivenNames u2 u3
        have h3 : Later z u3 := .step (State.wr_frame _ _ _) rfl (.step (State.wr_frame _ _ _) rfl (.step
          (State.setPhase_frame _ _) rfl h1))
        extract_lets +onlyGivenNames u4
        have h4 : Later z u4 := .step (State.banSend_frame _ _ _) rfl h3
        extract_lets +onlyGivenNames u5
        have h5 : Later z u5 := .step (State.setPeerRole_frame _ _) rfl (.step (State.setRole_frame _ _) rfl h4)
        extract_lets +onlyGivenNames u6
        have h6 : Later z u6 := .step (State.sendRole_frame _) rfl (.step (State.post_frame _ _ _ _ _ _) rfl h5)
        exact .next (.step (State.followAll_frame _) rfl (.foldl (fun _ _ h7 => .step
          (State.liveLog_frame _ _) rfl h7) h6))
    · exact .next hz
  · exact .next hz

theorem State.msgAct_later {z : State} (s : State) (a : Arrival) (m : BanMsg) (hz : Later z s) :
    Later z (State.msgAct s a m) := by
  unfold State.msgAct
  extract_lets +onlyGivenNames u0 u1
  split
  · exact .step (State.heartbeatTake_frame _ _ _ _) rfl hz
  · exact .step (State.beaconTake_frame _ _ _ _) rfl hz
  · exact .step (State.roleTake_frame _ _ _) rfl hz
  · exact .step (State.nakTake_frame _ _) rfl hz
  · exact .step (State.agreementTake_frame _ _) rfl hz
  · exact .step (State.agreeAckTake_frame _ _ _) rfl hz
  · exact .step (State.rxMirrorTake_frame _ _ _) rfl hz
  · exact .step (State.mirrorAckTake_frame _ _) rfl hz
  · exact .ite (.step (State.regMirrors_frame _ _) rfl hz) (.ite (.step (State.joinLog_frame _ _ _ _) rfl hz) hz)
  · extract_lets +onlyGivenNames u2
    exact .step (State.digestTake_frame _ _) rfl hz
  · exact State.samplesTake_later _ _ _ _ hz
  · exact State.countsTake_later _ _ _ _ hz
  · exact .step (State.permitTake_frame _ _) rfl hz
  · exact .step (State.inquiryTake_frame _ _ _) rfl hz
  · exact .step (State.handoverTake_frame _ _ _) rfl hz
  · exact .step (State.drivingTake_frame _ _) rfl hz
  · exact .step (State.releasedTake_frame _) rfl hz
  · exact .step (State.joinRequestTake_frame _ _ _ _ _ _) rfl hz
  · exact .step (State.joinAnswerTake_frame _ _ _ _ _) rfl hz
  · exact .step (State.hamperTake_frame _ _ _ _ _ _ _ _) rfl hz
  · exact .step (State.hamperAckTake_frame _ _ _ _) rfl hz
  · extract_lets +onlyGivenNames u3
    exact .ite (.step (State.entryAct_frame _ _) rfl hz) (.ite (.step (State.joinLog_frame _ _ _ _) rfl hz) hz)
  · exact .step (State.caughtUpTake_frame _) rfl hz
  · exact State.topupTake_later _ _ _ hz
  · exact .step (State.joinedTake_frame _) rfl hz
  · exact .step (State.swapTake_frame _ _) rfl hz
  · exact .step (State.readyTake_frame _ _ _) rfl hz
  · exact .step (State.shutdownTake_frame _ _) rfl hz

theorem State.msgTake_later {z : State} (s : State) (a : Arrival) (m : BanMsg) (hz : Later z s) :
    Later z (State.msgTake s a m) := by
  unfold State.msgTake
  exact .step (State.replayGo_frame _) rfl (State.msgAct_later _ _ _ hz)

theorem State.earlyRun_later {z : State} (s : State) (n : Nat) (hz : Later z s) : Later z (State.earlyRun s n) := by
  induction n generalizing s with
  | zero => exact hz
  | succ n ih =>
    unfold State.earlyRun
    split
    · exact hz
    · exact .ite hz (ih _ (State.msgTake_later _ _ _ hz))

theorem State.ordTake_later {z : State} (s : State) (a : Arrival) (m : BanMsg) (hz : Later z s) :
    Later z (State.ordTake s a m) := by
  unfold State.ordTake
  refine .ite ?_ ?_
  · extract_lets +onlyGivenNames u0 u1
    have h1 : Later z u1 := .of_eq hz rfl
    split
    · exact .ite (.step (State.mirrorAckSend_frame _) rfl h1) h1
    · exact h1
  · extract_lets +onlyGivenNames u2
    have h2 : Later z u2 := State.msgTake_later _ _ _ hz
    exact State.earlyRun_later _ _ h2

theorem State.arrive_later {z : State} (s : State) (a : Arrival) (m : BanMsg) (hz : Later z s) :
    Later z (State.arrive s a m) := by
  unfold State.arrive
  refine .ite ?_ ?_
  · exact hz
  · refine .ite ?_ ?_
    · exact .step (State.bump_frame _ _) rfl hz
    · extract_lets +onlyGivenNames u0
      have h0 : Later z u0 := .step (State.laneSeen_frame _ _ _) rfl hz
      refine .ite ?_ ?_
      · exact .step (State.bump_frame _ _) rfl h0
      · refine .ite ?_ ?_
        · exact h0
        · extract_lets +onlyGivenNames u1
          have h1 : Later z u1 := .ite (.step (State.gapSeen_frame _ _) rfl h0) h0
          exact State.ordTake_later _ _ _ (.step (State.seqTake_frame _ _) rfl h1)

theorem execInquiryResult_later {z : State} (peer : Option Arrival) (failed : BitVec 5) (s : State) (hz : Later z s) :
    LaterA z (execInquiryResult peer failed s) := by
  unfold execInquiryResult
  split
  · exact .next (State.arrive_later _ _ _ hz)
  · exact .ite (.next (.step (State.inquiryTake_frame _ _ _) rfl hz)) (.next hz)

theorem execRndStep_later {z : State} (item : Fin 17) (us : Fin 6) (find : RndFind) (s : State) (hz : Later z s) :
    LaterA z (execRndStep item us find s) := by
  unfold execRndStep
  extract_lets +onlyGivenNames u0 u1
  have h1 : Later z u1 := .step (State.rndExpire_frame _) rfl (.max hz)
  split
  · exact .next h1
  · extract_lets +onlyGivenNames u2 u3 u4
    refine .ite ?_ ?_
    · extract_lets +onlyGivenNames u5 u6 u7 u8 u9
      have h9 : Later z u9 := .step (State.rndWakes_frame _ _) rfl h1
      extract_lets +onlyGivenNames u10
      have h10 : Later z u10 := .of_eq h9 rfl
      extract_lets +onlyGivenNames u11
      have h11 : Later z u11 := .step (State.wr_frame _ _ _) rfl h10
      extract_lets +onlyGivenNames u12
      have h12 : Later z u12 := by
        subst u12
        split
        · exact .step (State.faultTrigger_frame _ _) rfl (.step (State.rndFail_frame _ _ _) rfl h11)
        · exact .step (State.faultTrigger_frame _ _) rfl (.step (State.rndFail_frame _ _ _) rfl h11)
        · exact .step (State.rndFail_frame _ _ _) rfl h11
        · exact .step (State.post_frame _ _ _ _ _ _) rfl h11
        · exact h11
      extract_lets +onlyGivenNames u13 u14
      have h14 : Later z u14 := .ite (.step (State.wr_frame _ _ _) rfl (.step (State.wr_frame _ _ _) rfl h12)) h12
      exact .next (.step (State.rndShow_frame _) rfl (.step (State.rndPass_frame _) rfl h14))
    · exact .next h1

theorem State.tgSecond_later {z : State} (s : State) (x : TgConn) (hz : Later z s) :
    Later z (State.tgSecond s x) := by
  unfold State.tgSecond
  split
  · exact State.waitTo_later _ _ hz
  · exact hz

theorem execHeldCopyExpire_later {z : State} (c : Fin 64) (s : State) (hz : Later z s) :
    LaterA z (execHeldCopyExpire c s) := by
  unfold execHeldCopyExpire
  extract_lets +onlyGivenNames u0
  exact .ite (.next (.step (State.tgHeldOver_frame _ _) rfl (State.waitTo_later _ _ hz))) (.next hz)

theorem execConnReport_later {z : State} (which : Option (Fin 64)) (s : State) (hz : Later z s) :
    LaterA z (execConnReport which s) := by
  unfold execConnReport
  refine .ite ?_ ?_
  · exact .next hz
  · split
    · refine .ite ?_ ?_
      · exact .next hz
      · extract_lets +onlyGivenNames u0
        have h0 : Later z u0 := State.tgSecond_later _ _ hz
        exact .next (.step (State.tgReport_frame _ _) rfl (.step (State.setTg_frame _ _ _) rfl h0))
    · extract_lets +onlyGivenNames u1
      have h1 : Later z u1 := State.tgSecond_later _ _ hz
      extract_lets +onlyGivenNames u2 u3 u4
      have h4 : Later z u4 := .of_eq h1 rfl
      exact .next (.step (State.tgPost_frame _ _ _) rfl h4)

theorem execTgTimeout_later {z : State} (c : Fin 64) (s : State) (hz : Later z s) : LaterA z (execTgTimeout c s) := by
  unfold execTgTimeout
  extract_lets +onlyGivenNames u0
  refine .ite ?_ ?_
  · extract_lets +onlyGivenNames u1
    have h1 : Later z u1 := State.waitTo_later _ _ hz
    extract_lets +onlyGivenNames u2
    have h2 : Later z u2 := .step (State.tgState_frame _ _ _) rfl h1
    exact .next (.step (State.tgTrip_frame _ _) rfl (.step (State.post_frame _ _ _ _ _ _) rfl h2))
  · exact .next hz

theorem execReturnCheckEnd_later {z : State} (f : Fin 64) (proc : Bool) (s : State) (hz : Later z s) :
    LaterA z (execReturnCheckEnd f proc s) := by
  unfold execReturnCheckEnd
  extract_lets +onlyGivenNames u0
  refine .ite ?_ ?_
  · exact .next hz
  · refine .ite ?_ ?_
    · exact .next (State.funExpire_later _ _ hz)
    · extract_lets +onlyGivenNames u1
      have h1 : Later z u1 := .step (State.wr_frame _ _ _) rfl (State.waitTo_later _ _ hz)
      exact .ite (.next (.step (State.funReturn_frame _ _) rfl h1)) (.next (.step
        (State.post_frame _ _ _ _ _ _) rfl h1))

theorem execConnRestart_later {z : State} (c : Fin 64) (s : State) (hz : Later z s) :
    LaterA z (execConnRestart c s) := by
  unfold execConnRestart
  extract_lets +onlyGivenNames u0
  refine .ite ?_ ?_
  · extract_lets +onlyGivenNames u1
    have h1 : Later z u1 := State.waitTo_later _ _ hz
    exact .next (.step (State.tgState_frame _ _ _) rfl h1)
  · exact .next hz

theorem execSkewWindowExpire_later {z : State} (c : Fin 64) (s : State) (hz : Later z s) :
    LaterA z (execSkewWindowExpire c s) := by
  unfold execSkewWindowExpire
  extract_lets +onlyGivenNames u0
  exact .ite (.next (.step (State.tgSkew_frame _ _) rfl (State.waitTo_later _ _ hz))) (.next hz)

/-! ### Every command -/

/-- No command but the two by which the control domain loses and gets its power puts the counter back. -/
theorem exec_later (c : Instr) (s : State) (hoff : ∀ us, c ≠ .controlUnpowered us)
    (hrel : ∀ us, c ≠ .controlResetRelease us) : LaterA s (exec c s) := by
  have hs : Later s s := .self
  cases c with
  | controlUnpowered us => exact absurd rfl (hoff us)
  | controlResetRelease us => exact absurd rfl (hrel us)
  | softSectionLanding peer => exact execSoftSectionLanding_later peer s hs
  | baseTick => exact execBaseTick_later s hs
  | executeReturn t ns image invokes writes => exact execExecuteReturn_later t ns image invokes writes s hs
  | commit t => exact execCommit_later t s hs
  | olcSwap => exact execOlcSwap_later s hs
  | loopTick ecc slots => exact execLoopTick_later ecc slots s hs
  | solverPowerGate => exact execSolverPowerGate_later s hs
  | stepBoundary deltas => exact execStepBoundary_later deltas s hs
  | enSettleElapsed a => exact execEnSettleElapsed_later a s hs
  | stillDelayElapsed a => exact execStillDelayElapsed_later a s hs
  | axisResume a => exact execAxisResume_later a s hs
  | heartbeatSend => exact execHeartbeatSend_later s hs
  | heartbeat => exact .next (State.arrive_later _ _ _ hs)
  | role => exact .next (State.arrive_later _ _ _ hs)
  | nak => exact .next (State.arrive_later _ _ _ hs)
  | handshakeTimeout => exact execHandshakeTimeout_later s hs
  | agreement => exact .next (State.arrive_later _ _ _ hs)
  | agreeAck => exact .next (State.arrive_later _ _ _ hs)
  | rxMirror => exact .next (State.arrive_later _ _ _ hs)
  | mirrorAck => exact .next (State.arrive_later _ _ _ hs)
  | regMirror => exact .next (State.arrive_later _ _ _ hs)
  | digest => exact .next (State.arrive_later _ _ _ hs)
  | digestMissing t => exact execDigestMissing_later t s hs
  | strictDigestTimeout t => exact execStrictDigestTimeout_later t s hs
  | loopSamples => exact .next (State.arrive_later _ _ _ hs)
  | axisCounts => exact .next (State.arrive_later _ _ _ hs)
  | solverPermit => exact .next (State.arrive_later _ _ _ hs)
  | missingFrameDemote type => exact execMissingFrameDemote_later type s hs
  | inquiryResult peer failed => exact execInquiryResult_later peer failed s hs
  | inquiryTimeout => exact execInquiryTimeout_later s hs
  | handover => exact .next (State.arrive_later _ _ _ hs)
  | driving => exact .next (State.arrive_later _ _ _ hs)
  | rampStart => exact execRampStart_later s hs
  | rampEnd => exact execRampEnd_later s hs
  | released => exact .next (State.arrive_later _ _ _ hs)
  | barrierBackstop => exact execBarrierBackstop_later s hs
  | takeoverInstant unknown => exact execTakeoverInstant_later unknown s hs
  | laneLost l => exact execLaneLost_later l s hs
  | laneRestored l => exact execLaneRestored_later l s hs
  | plantHeartbeatSend => exact execPlantHeartbeatSend_later s hs
  | joinRetry => exact execJoinRetry_later s hs
  | joinRequest => exact .next (State.arrive_later _ _ _ hs)
  | joinRequestResend => exact execJoinRequestResend_later s hs
  | joinAnswer => exact .next (State.arrive_later _ _ _ hs)
  | hamper => exact .next (State.arrive_later _ _ _ hs)
  | hamperAck => exact .next (State.arrive_later _ _ _ hs)
  | logEntry => exact .next (State.arrive_later _ _ _ hs)
  | caughtUp => exact .next (State.arrive_later _ _ _ hs)
  | topup => exact .next (State.arrive_later _ _ _ hs)
  | joinTick => exact execJoinTick_later s hs
  | joined => exact .next (State.arrive_later _ _ _ hs)
  | upgradeAdmitLapse => exact execUpgradeAdmitLapse_later s hs
  | swap => exact .next (State.arrive_later _ _ _ hs)
  | swapLanding => exact execSwapLanding_later s hs
  | ready => exact .next (State.arrive_later _ _ _ hs)
  | safetyCycle x => exact execSafetyCycle_later x s hs
  | safetyWatchdogExpiry spb early => exact execSafetyWatchdogExpiry_later spb early s hs
  | safetyAdoptComplete => exact execSafetyAdoptComplete_later s hs
  | ctrlHbLost => exact execCtrlHbLost_later s hs
  | darkTest n failed volts10 => exact execDarkTest_later n failed volts10 s hs
  | testPulseOff l => exact execTestPulseOff_later l s hs
  | testPulseSample l on volts10 users => exact execTestPulseSample_later l on volts10 users s hs
  | excursionExpire who => exact execExcursionExpire_later who s hs
  | excursionStore => exact execExcursionStore_later s hs
  | returnCheckEnd f proc => exact execReturnCheckEnd_later f proc s hs
  | matrixCheckEnd => exact execMatrixCheckEnd_later s hs
  | safetyFieldStale k inbound spa spb users => exact execSafetyFieldStale_later k inbound spa spb users s hs
  | skewWindowExpire c => exact execSkewWindowExpire_later c s hs
  | heldCopyExpire c => exact execHeldCopyExpire_later c s hs
  | tgTimeout c => exact execTgTimeout_later c s hs
  | connRestart c => exact execConnRestart_later c s hs
  | connReport which => exact execConnReport_later which s hs
  | barrierFrameSend k => exact execBarrierFrameSend_later k s hs
  | barrierSlot k good skip field => exact execBarrierSlot_later k good skip field s hs
  | islandFrameReceive k => exact execIslandFrameReceive_later k s hs
  | islandWatchdog k => exact execIslandWatchdog_later k s hs
  | inputSample k smp => exact execInputSample_later k smp s hs
  | wireBreak k c uA => exact execWireBreak_later k c uA s hs
  | wireBreakEnd k c => exact execWireBreakEnd_later k c s hs
  | doOverload k c mA => exact execDoOverload_later k c mA s hs
  | doRetry k c limits => exact execDoRetry_later k c limits s hs
  | groupOverloadStep k total => exact execGroupOverloadStep_later k total s hs
  | sagOff k supply => exact execSagOff_later k supply s hs
  | restoreReady k supply => exact execRestoreReady_later k supply s hs
  | restoreChannelOn k => exact execRestoreChannelOn_later k s hs
  | doReadbackMismatch k c => exact execDoReadbackMismatch_later k c s hs
  | aiSample k c raw => exact execAiSample_later k c raw s hs
  | txOverload k c mA => exact execTxOverload_later k c mA s hs
  | buckUpdate k c => exact execBuckUpdate_later k c s hs
  | thermalResume k c temp => exact execThermalResume_later k c temp s hs
  | complianceSet k c => exact execComplianceSet_later k c s hs
  | complianceClear k c => exact execComplianceClear_later k c s hs
  | compFault k c => exact execCompFault_later k c s hs
  | aoReadbackMismatch k c => exact execAoReadbackMismatch_later k c s hs
  | keySessionTimeout => exact execKeySessionTimeout_later s hs
  | canTxStart c which => exact execCanTxStart_later c which s hs
  | canRecovered c => exact execCanRecovered_later c s hs
  | ttWindowStart c basic win => exact execTtWindowStart_later c basic win s hs
  | ttWindowMissed c basic win => exact execTtWindowMissed_later c basic win s hs
  | canChannelActive c => exact execCanChannelActive_later c s hs
  | ethTxStart p => exact execEthTxStart_later p s hs
  | maintSessionExpire => exact execMaintSessionExpire_later s hs
  | domainHoldover d => exact execDomainHoldover_later d s hs
  | announceTimeout d => exact execAnnounceTimeout_later d s hs
  | ppsOutEdge => exact execPpsOutEdge_later s hs
  | c2BackupRefresh => exact execC2BackupRefresh_later s hs
  | serTxStart p => exact execSerTxStart_later p s hs
  | pollSend l => exact execPollSend_later l s hs
  | pollReturn l fcsGood rtt payload => exact execPollReturn_later l fcsGood rtt payload s hs
  | pgnTimeout ch => exact execPgnTimeout_later ch s hs
  | gbRecordWrite cut => exact execGbRecordWrite_later cut s hs
  | gbTokenRefill cls => exact execGbTokenRefill_later cls s hs
  | rndStopGrant => exact execRndStopGrant_later s hs
  | rndStep item us find => exact execRndStep_later item us find s hs
  | rndGrantClose => exact execRndGrantClose_later s hs
  | rndPassLate => exact execRndPassLate_later s hs
  | wearSample mram flash => exact execWearSample_later mram flash s hs
  | annexInterval pulses currents => exact execAnnexInterval_later pulses currents s hs
  | annexResultPost => exact execAnnexResultPost_later s hs
  | annexStatusPost => exact execAnnexStatusPost_later s hs
  | annexReportRepost => exact execAnnexReportRepost_later s hs
  | annexStatusLost => exact execAnnexStatusLost_later s hs
  | timeWordSend good => exact execTimeWordSend_later good s hs
  | annexTimeHold => exact execAnnexTimeHold_later s hs
  | annexTotalsCommit => exact execAnnexTotalsCommit_later s hs
  | nbFrame temp => exact execNbFrame_later temp s hs
  | nbBalancePass => exact execNbBalancePass_later s hs
  | nbIdleScan temp bad => exact execNbIdleScan_later temp bad s hs
  | nbRailRise => exact execNbRailRise_later s hs
  | nbRailsDown => exact execNbRailsDown_later s hs
  | powerFailWarning why meas => exact execPowerFailWarning_later why meas s hs
  | shutdownOutputsOff => exact execShutdownOutputsOff_later s hs
  | shutdownMramCommit meas permille => exact execShutdownMramCommit_later meas permille s hs
  | shutdown => exact .next (State.arrive_later _ _ _ hs)
  | beaconSend => exact execBeaconSend_later s hs
  | beacon => exact .next (State.arrive_later _ _ _ hs)
  | electionWindowEnd => exact execElectionWindowEnd_later s hs
  | electionDeferEnd => exact execElectionDeferEnd_later s hs
  | ethJoinPoint => exact execEthJoinPoint_later s hs
  | txOverloadClear k c => exact execTxOverloadClear_later k c s hs
  | aoReadbackClear k c => exact execAoReadbackClear_later k c s hs
  | ppsInTimeout => exact execPpsInTimeout_later s hs
  | slewingEnd second => exact execSlewingEnd_later second s hs
  | thermalStressUpdate => exact execThermalStressUpdate_later s hs
  | _ => exact .of_frame (exec_frame _ s) rfl hs

/-- P0 finds the control domain in reset (R476, R488). -/
theorem powerOn_running (s : State) (rail restart : Bool) (off : Nat) :
    (s.powerOn rail restart off).power.running = false := by
  have hrail : ∀ t : State, t.safRailUp.power = t.power := fun t =>
    State.safRailUp_frame (F := fun p => p != .power) t rfl (fr_self _ t) .power rfl
  have hanx : ∀ t : State, t.anxStart.power = t.power := fun t =>
    State.anxStart_frame (F := fun p => p != .power) t rfl (fr_self _ t) .power rfl
  unfold State.powerOn
  extract_lets +onlyGivenNames p u0 u1 b u2 u3
  have h3 : u3.power.running = false := rfl
  clear_value u3
  dsimp only
  split_ifs <;> simp only [hrail, hanx, wr_power, h3]

theorem unpowered_running (s : State) : s.unpowered.power.running = false := by
  unfold State.unpowered
  extract_lets u
  split
  · exact powerOn_running _ _ _ _
  · rfl

/-- CONTROL_UNPOWERED leaves the state as it was, or stops the control domain (R479). -/
theorem controlUnpowered_cases {us : Fin 15000} {s t : State} (h : exec (.controlUnpowered us) s = .next t) :
    t = s ∨ t.power.running = false := by
  change execControlUnpowered us s = .next t at h
  unfold execControlUnpowered at h
  extract_lets ready at h
  split at h
  · exact .inl (Host.Outcome.next.inj h).symm
  · exact .inr (Host.Outcome.next.inj h ▸ unpowered_running _)

/-- What follows the release happens with the counter where it is. -/
theorem started_frc (s : State) (cause us : Nat) :
    ((s.gbFillBuckets.rndReset.nbRelease.permitUpdate.anchor cause).startRecords us).frc = s.frc := by
  rw [frc_of_frame (State.startRecords_frame _ _) rfl, frc_of_frame (State.anchor_frame _ _) rfl,
    frc_of_frame (State.permitUpdate_frame _) rfl, frc_of_frame (State.nbRelease_frame _) rfl,
    frc_of_frame (State.rndReset_frame _) rfl, frc_of_frame (State.gbFillBuckets_frame _) rfl]

/-- CONTROL_RESET_RELEASE leaves the state as it was, or starts the counter at 0 in a domain that was in reset
  (R488). -/
theorem controlResetRelease_cases {us : Fin 15001} {s t : State} (h : exec (.controlResetRelease us) s = .next t) :
    t = s ∨ s.power.running = false ∧ t.frc = 0 := by
  change execControlResetRelease us s = .next t at h
  unfold execControlResetRelease at h
  split at h
  · exact .inl (Host.Outcome.next.inj h).symm
  · rename_i hc
    refine .inr ⟨by simp_all, ?_⟩
    extract_lets u power saf released c2 at h
    have hc2 : c2.frc = 0 := frc_of_frame (s := released) (State.c2Start_frame _ _) rfl
    rw [← Host.Outcome.next.inj h, started_frc]
    exact hc2

/-- Between states in which the control domain runs, no command puts the counter back. -/
theorem exec_frc_le {c : Instr} {s t : State} (hs : s.power.running = true) (h : exec c s = .next t)
    (ht : t.power.running = true) : s.frc ≤ t.frc := by
  by_cases hoff : ∃ us, c = .controlUnpowered us
  · obtain ⟨us, rfl⟩ := hoff
    obtain rfl | hstop := controlUnpowered_cases h
    · exact le_refl _
    · simp [hstop] at ht
  by_cases hrel : ∃ us, c = .controlResetRelease us
  · obtain ⟨us, rfl⟩ := hrel
    obtain rfl | ⟨hstop, -⟩ := controlResetRelease_cases h
    · exact le_refl _
    · simp [hstop] at hs
  exact exec_later c s (fun us e => hoff ⟨us, e⟩) (fun us e => hrel ⟨us, e⟩) t h

end Sys2Proof.Machine
end

section
open Sys2Proof Sys2Proof.Machine

/-- Settles O13: an idle step adds a nanosecond, no command but the two of the control domain's power puts the counter
back, and those two act where it does not run after or before. -/
theorem theCounterNeverGoesBack : Obligations.TheCounterNeverGoesBack := by
  refine ⟨fun s t hs h ht => ?_, fun us s t hs h ht => ?_⟩
  · obtain ⟨-, rfl⟩ | ⟨c, rest, hp, hk⟩ := step_cases h
    · rw [State.idle, if_pos hs]
      exact Nat.le_succ _
    · rw [step_of_pending hp] at h
      exact exec_frc_le (s := { s with pending := rest }) hs h ht
  · obtain rfl | ⟨-, hzero⟩ := controlResetRelease_cases h
    · simp [hs] at ht
    · exact hzero

/-- Settles O2: the definition of a step on an empty queue. -/
theorem stepWithoutACommandIdles : Obligations.StepWithoutACommandIdles :=
  fun _ h => step_of_no_pending h

end

section
/-!
Registers that a bus error response, and the copying of a pair's data, leave as they were.
-/
namespace Sys2Proof.Machine

/-- A refused write shows in the capture registers of SYS alone (R32). -/
theorem KeepsReg.refuseWrite {a : Nat} {s t : State} (h : KeepsReg a s t) (m : Master) (b : Nat)
    (hlo : 0x2000010000 ≤ a) (hhi : a < 0x2000120000) : KeepsReg a s (t.refuseWrite m b) := by
  have hunit : unitOf a ≠ Un.gb := by simp only [unitOf, regBase, Un.gb]; omega
  have hcapture : a ∉ [Reg.SYS_BUSERR_STAT_VALID.addr, Reg.SYS_BUSERR_ADDR_LO.addr,
      Reg.SYS_BUSERR_ADDR_HI_ADDR_HI.addr] := by
    simp only [List.mem_cons, List.not_mem_nil, or_false, Reg.SYS_BUSERR_STAT_VALID, Reg.SYS_BUSERR_ADDR_LO,
      Reg.SYS_BUSERR_ADDR_HI_ADDR_HI]
    omega
  exact ((fileAt_busFail t m true b _ _ hunit).trans (fileAt_busCapture_ne t m true b _ hcapture)).trans h

theorem refuseWrite_status (s : State) (m : Master) (a : Nat) : (s.refuseWrite m a).resp.status = Sta.busError := by
  rw [State.refuseWrite, busFail_resp]

theorem KeepsReg.queMirror {a : Nat} {s t : State} (h : KeepsReg a s t) (q i j : Nat) : KeepsReg a s (t.queMirror q i j) :=
  h.of_eq (State.queMirror_frame (F := fun p => p != .regs) t q i j rfl (fr_self _ t) .regs rfl)

theorem KeepsReg.logPost {a : Nat} {s t : State} (h : KeepsReg a s t) (m : Master) (l : List Byte) :
    KeepsReg a s (t.logPost m l) :=
  h.of_eq (State.logPost_frame (F := fun p => p != .regs) t m l rfl (fr_self _ t) .regs rfl)

/-- No unit with an idle state holds the registers of Pigeonholes and queues. -/
theorem wakeAt_bells (s : State) {a : Nat} (hlo : 0x2000100000 ≤ a) (hhi : a < 0x2000120000) : s.wakeAt a = s := by
  have hunit : unitOf a = 0x10 ∨ unitOf a = 0x11 := by simp only [unitOf, regBase]; omega
  have hnone : unitAt a = none := by
    obtain h | h := hunit <;> simp [unitAt, h, Un.scn, Un.loop, Un.slv, Un.ax, Un.can, Un.ser, Un.gb, Un.rnd, Un.nb]
  rw [State.wakeAt, hnone]

theorem access_bells {s : State} {m : Master} {w : Width} {b : Bool} {a : Nat} (h : s.allows m w b a)
    (hlo : 0x2000100000 ≤ a) (hhi : a < 0x2000120000) (k : State → State) : s.access m w b a k = k (s.answer 0) := by
  rw [access_allows h, wakeAt_bells s hlo hhi]

end Sys2Proof.Machine
end

section
/-!
The index registers of queues (R405 to R409): what a refused write leaves, and what an accepted one moves.
-/
namespace Sys2Proof.Machine

/-! ### The registers of a queue -/

/-- The four indices of a queue are as they were. -/
def KeepsIndices (q : Nat) (s t : State) : Prop :=
  t.quePi q = s.quePi q ∧ t.queDi q = s.queDi q ∧ t.queCi q = s.queCi q ∧ t.queRi q = s.queRi q

theorem keepsIndices_of {q : Nat} {s t : State}
    (h : ∀ a, 0x2000111000 + 64 * q ≤ a → a < 0x2000111018 + 64 * q → KeepsReg a s t) : KeepsIndices q s t :=
  ⟨(h (Reg.QUE_PI q).addr (by simp only [Reg.QUE_PI]; omega) (by simp only [Reg.QUE_PI]; omega)).rd,
    (h (Reg.QUE_DI q).addr (by simp only [Reg.QUE_DI]; omega) (by simp only [Reg.QUE_DI]; omega)).rd,
    (h (Reg.QUE_CI q).addr (by simp only [Reg.QUE_CI]; omega) (by simp only [Reg.QUE_CI]; omega)).rd,
    (h (Reg.QUE_RI q).addr (by simp only [Reg.QUE_RI]; omega) (by simp only [Reg.QUE_RI]; omega)).rd⟩

/-- A refused index write moves no index. -/
theorem queIdxRefused_indices (s : State) (m : Master) {q : Nat} (hq : q < 64) (which v a : Nat) :
    KeepsIndices q s (s.queIdxRefused m q which v a) :=
  keepsIndices_of fun b hlo hhi =>
    ((KeepsReg.self.refuseWrite m a (by omega) (by omega)).wr (g := Reg.QUE_STAT_LAST q) _
      (by simp only [Reg.QUE_STAT_LAST]; omega)).post _ _ _ _ _ (by omega)

theorem queIdxRefused_status (s : State) (m : Master) (q which v a : Nat) :
    (s.queIdxRefused m q which v a).resp.status = Sta.busError := by
  rw [State.queIdxRefused, post_resp, wr_resp, refuseWrite_status]

/-- A post of more entries than are free. -/
def State.queFullRefused (s : State) (m : Master) (q v : Nat) : State :=
  let t := ((s.refuseWrite m (Reg.QUE_PI q).addr).bump (Reg.QUE_STAT_REJECTS q)).wr (Reg.QUE_STAT_LAST q) Sta.rejectedFull
  t.post Un.que 0x0F10 q v (t.queCi q)

theorem queFullRefused_indices (s : State) (m : Master) {q : Nat} (hq : q < 64) (v : Nat) :
    KeepsIndices q s (s.queFullRefused m q v) :=
  keepsIndices_of fun b hlo hhi =>
    (((KeepsReg.self.refuseWrite m _ (by omega) (by omega)).wr (g := Reg.QUE_STAT_REJECTS q) _
      (by simp only [Reg.QUE_STAT_REJECTS]; omega)).wr (g := Reg.QUE_STAT_LAST q) _
      (by simp only [Reg.QUE_STAT_LAST]; omega)).post _ _ _ _ _ (by omega)

theorem queFullRefused_status (s : State) (m : Master) (q v : Nat) :
    (s.queFullRefused m q v).resp.status = Sta.busError := by
  rw [State.queFullRefused, post_resp, wr_resp, bump_resp, refuseWrite_status]

theorem queUnit_ne_gb {q : Nat} (hq : q < 64) : unitOf (Reg.QUE_STAT_LAST q).addr ≠ Un.gb := by
  simp only [unitOf, regBase, Un.gb, Reg.QUE_STAT_LAST]
  omega

theorem queFullRefused_last (s : State) (m : Master) {q : Nat} (hq : q < 64) (v : Nat) :
    (s.queFullRefused m q v).rd (Reg.QUE_STAT_LAST q) = Sta.rejectedFull := by
  rw [State.queFullRefused, rd_post _ _ _ _ _ _ _ (queUnit_ne_gb hq)]
  exact rd_wr_self _ (Reg.QUE_STAT_LAST q) _ (Nat.le_of_ble_eq_true rfl)

theorem queFullRefused_rejects (s : State) (m : Master) {q : Nat} (hq : q < 64) (v : Nat) :
    (s.queFullRefused m q v).rd (Reg.QUE_STAT_REJECTS q) = satInc 16 (s.rd (Reg.QUE_STAT_REJECTS q)) := by
  have hkept : (s.refuseWrite m (Reg.QUE_PI q).addr).rd (Reg.QUE_STAT_REJECTS q) = s.rd (Reg.QUE_STAT_REJECTS q) :=
    (KeepsReg.self.refuseWrite m _ (by simp only [Reg.QUE_STAT_REJECTS]; omega)
      (by simp only [Reg.QUE_STAT_REJECTS]; omega)).rd
  rw [State.queFullRefused, rd_post _ _ _ _ _ _ (Reg.QUE_STAT_REJECTS q) (queUnit_ne_gb hq),
    rd_wr_bits _ (Reg.QUE_STAT_LAST q) (Reg.QUE_STAT_REJECTS q) _ (Nat.le_of_ble_eq_true rfl)
      (.inl (Nat.le_of_ble_eq_true rfl)),
    rd_bump_self _ (Reg.QUE_STAT_REJECTS q) (Nat.le_of_ble_eq_true rfl), hkept]
  rfl

/-! ### What a write of each index does (R406) -/

theorem quePiWrite_full {s : State} {m : Master} {q v : Nat} (hu : s.queUsed q = true) (hp : s.queProducer q = masterId m)
    (hfull : 2 ^ s.queDepth q - s.queFill q < idxDiff v (s.quePi q)) : s.quePiWrite m q v = s.queFullRefused m q v := by
  unfold State.quePiWrite
  dsimp only
  rw [if_neg (by simp [hu]), if_neg (not_not.2 hp), if_neg (by omega), if_neg (Nat.not_le.2 hfull)]
  rfl

theorem quePiWrite_foreign {s : State} {m : Master} {q : Nat} (v : Nat) (hu : s.queUsed q = true)
    (hp : s.queProducer q ≠ masterId m) : s.quePiWrite m q v = s.queIdxRefused m q 1 v (Reg.QUE_PI q).addr := by
  unfold State.quePiWrite
  dsimp only
  rw [if_neg (by simp [hu]), if_pos hp]

/-- Past RI there is nothing to free, whoever writes. -/
theorem queCiWrite_past {s : State} (m : Master) {q v : Nat} (hu : s.queUsed q = true)
    (hpast : idxDiff (s.queRi q) (s.queCi q) < idxDiff v (s.queCi q)) :
    s.queCiWrite m q v = s.queIdxRefused m q 3 v (Reg.QUE_CI q).addr := by
  unfold State.queCiWrite
  dsimp only
  rw [if_neg (by simp [hu]), if_neg (c := idxDiff v (s.queCi q) = 0) (by omega), if_neg (Nat.not_le.2 hpast), ite_self]

theorem access_que {s : State} {m : Master} {b : Bool} {q : Fin 64} {a : Nat} (h : s.allows m .w32 b a)
    (hlo : 0x2000111000 + 64 * q.val ≤ a) (hhi : a < 0x2000111040 + 64 * q.val) (k : State → State) :
    s.access m .w32 b a k = k (s.answer 0) :=
  access_bells h (by omega) (by omega) k

theorem exec_quePiWrite {s : State} {m : Master} {q : Fin 64} (v : Word) (h : s.allows m .w32 true (Reg.QUE_PI q).addr) :
    exec (.quePiWrite m q v) s = .next ((s.answer 0).quePiWrite m q v.toNat) :=
  congrArg Host.Outcome.next (access_que (q := q) h (by simp only [Reg.QUE_PI]; omega) (by simp only [Reg.QUE_PI]; omega) _)

theorem exec_queDiWrite {s : State} {m : Master} {q : Fin 64} (v : Word) (h : s.allows m .w32 true (Reg.QUE_DI q).addr) :
    exec (.queDiWrite m q v) s = .next ((s.answer 0).queDiWrite m q v.toNat) :=
  congrArg Host.Outcome.next (access_que (q := q) h (by simp only [Reg.QUE_DI]; omega) (by simp only [Reg.QUE_DI]; omega) _)

theorem exec_queCiWrite {s : State} {m : Master} {q : Fin 64} (v : Word) (h : s.allows m .w32 true (Reg.QUE_CI q).addr) :
    exec (.queCiWrite m q v) s = .next ((s.answer 0).queCiWrite m q v.toNat) :=
  congrArg Host.Outcome.next (access_que (q := q) h (by simp only [Reg.QUE_CI]; omega) (by simp only [Reg.QUE_CI]; omega) _)

/-! ### Refused index writes (R405, R406) -/

theorem quePiWrite_full_refused (s : State) (m : Master) (q : Fin 64) (value : Word)
    (h : s.allows m .w32 true (Reg.QUE_PI q).addr) (hu : s.queUsed q = true) (hp : s.queProducer q = masterId m)
    (hfull : 2 ^ s.queDepth q - s.queFill q < idxDiff value.toNat (s.quePi q)) :
    Nexts (exec (.quePiWrite m q value) s) (fun t => t.resp.status = Sta.busError ∧
      t.rd (Reg.QUE_STAT_LAST q) = Sta.rejectedFull ∧
      t.rd (Reg.QUE_STAT_REJECTS q) = satInc 16 (s.rd (Reg.QUE_STAT_REJECTS q)) ∧ t.quePi q = s.quePi q ∧
      t.queDi q = s.queDi q ∧ t.queCi q = s.queCi q ∧ t.queRi q = s.queRi q) := by
  rw [exec_quePiWrite value h, nexts_next, quePiWrite_full (s := s.answer 0) hu hp hfull]
  exact ⟨queFullRefused_status _ m q _, queFullRefused_last _ m q.isLt _, queFullRefused_rejects _ m q.isLt _,
    queFullRefused_indices (s.answer 0) m q.isLt _⟩

theorem quePiWrite_foreign_refused (s : State) (m : Master) (q : Fin 64) (value : Word)
    (h : s.allows m .w32 true (Reg.QUE_PI q).addr) (hu : s.queUsed q = true) (hp : s.queProducer q ≠ masterId m) :
    Nexts (exec (.quePiWrite m q value) s) (fun t => t.resp.status = Sta.busError ∧ t.quePi q = s.quePi q ∧
      t.queDi q = s.queDi q ∧ t.queCi q = s.queCi q ∧ t.queRi q = s.queRi q) := by
  rw [exec_quePiWrite value h, nexts_next, quePiWrite_foreign (s := s.answer 0) _ hu hp]
  exact ⟨queIdxRefused_status _ m q _ _ _, queIdxRefused_indices (s.answer 0) m q.isLt _ _ _⟩

theorem queCiWrite_past_refused (s : State) (m : Master) (q : Fin 64) (value : Word)
    (h : s.allows m .w32 true (Reg.QUE_CI q).addr) (hu : s.queUsed q = true)
    (hpast : idxDiff (s.queRi q) (s.queCi q) < idxDiff value.toNat (s.queCi q)) :
    Nexts (exec (.queCiWrite m q value) s) (fun t => t.resp.status = Sta.busError ∧ t.quePi q = s.quePi q ∧
      t.queDi q = s.queDi q ∧ t.queCi q = s.queCi q ∧ t.queRi q = s.queRi q) := by
  rw [exec_queCiWrite value h, nexts_next, queCiWrite_past (s := s.answer 0) m hu hpast]
  exact ⟨queIdxRefused_status _ m q _ _ _, queIdxRefused_indices (s.answer 0) m q.isLt _ _ _⟩

end Sys2Proof.Machine
end

section
open Sys2Proof Sys2Proof.Machine

/-- Settles O16: a refused write shows in QUE_STAT and in the capture registers, which lie beside the four indices. -/
theorem refusedIndexWrites : Obligations.RefusedIndexWrites :=
  ⟨quePiWrite_full_refused, quePiWrite_foreign_refused, queCiWrite_past_refused⟩

end

section
/-!
The commands of Pigeonhole channels and queues (R395 to R409) where their checks pass.
-/
namespace Sys2Proof.Machine

/-! ### Channels -/

theorem chan_setChan (s : State) (ch : Nat) (c : PgnChan) : (s.setChan ch c).chan ch = c := by
  rw [State.chan, State.setChan, wr_pgn, Assoc.find?_insert_self]
  rfl

/-- What leaves the channels leaves each of them. -/
theorem chan_of_pgn {s t : State} (e : t.pgn = s.pgn) (ch : Nat) : t.chan ch = s.chan ch := by
  rw [State.chan, e, State.chan]

theorem on_setChan_timeout (s : State) (ch : Nat) (c : PgnChan) :
    (s.setChan ch c).on (Reg.PGN_CH_STAT_TIMEOUT ch) = s.on (Reg.PGN_CH_STAT_TIMEOUT ch) :=
  on_wr_bits _ (Reg.PGN_CH_STAT_COUNT ch) (Reg.PGN_CH_STAT_TIMEOUT ch) _ (Nat.le_of_ble_eq_true rfl)
    (.inr (Nat.le_of_ble_eq_true rfl))

theorem ring_pgn (s : State) (id : Nat) : (s.ring id).pgn = s.pgn :=
  State.ring_frame (F := fun p => p != .pgn) s id rfl (fr_self _ s) .pgn rfl

theorem rxMirror_pgn (s : State) (kind idx pos : Nat) (l : List Byte) : (s.rxMirror kind idx pos l).pgn = s.pgn :=
  State.rxMirror_frame (F := fun p => p != .pgn) s kind idx pos l rfl (fr_self _ s) .pgn rfl

theorem logPost_pgn (s : State) (m : Master) (l : List Byte) : (s.logPost m l).pgn = s.pgn :=
  State.logPost_frame (F := fun p => p != .pgn) s m l rfl (fr_self _ s) .pgn rfl

theorem pgnEndTimeout_pgn (s : State) (ch why : Nat) : (s.pgnEndTimeout ch why).pgn = s.pgn :=
  State.pgnEndTimeout_frame (F := fun p => p != .pgn) s ch why rfl (fr_self _ s) .pgn rfl

/-- After its end TIMEOUT is not shown, whether or not it was. -/
theorem pgnEndTimeout_clears (s : State) {ch : Nat} (hch : ch < 32) (why : Nat) :
    (s.pgnEndTimeout ch why).on (Reg.PGN_CH_STAT_TIMEOUT ch) = false := by
  have hunit : unitOf (Reg.PGN_CH_STAT_TIMEOUT ch).addr ≠ Un.gb := by
    simp only [unitOf, regBase, Un.gb, Reg.PGN_CH_STAT_TIMEOUT]
    omega
  unfold State.pgnEndTimeout
  split_ifs with h
  · rw [on_post _ _ _ _ _ _ _ hunit]
    exact on_wr_self _ (Reg.PGN_CH_STAT_TIMEOUT ch) 0 (Nat.le_of_ble_eq_true rfl)
  · exact Bool.eq_false_of_not_eq_true h

theorem access_chan {s : State} {m : Master} {b : Bool} {ch : Fin 32} {a : Nat} (h : s.allows m .w32 b a)
    (hlo : 0x2000101000 + 256 * ch.val ≤ a) (hhi : a < 0x2000101100 + 256 * ch.val) (k : State → State) :
    s.access m .w32 b a k = k (s.answer 0) :=
  access_bells h (by omega) (by omega) k

/-! ### Posts (R396, R399) -/

/-- The message that a post stores. -/
def State.posts (s : State) (ch len kind param : Nat) (payload : List Byte) : PgnMsg :=
  { len, kind, param, payload, seq := ((s.chan ch).accepted + 1) % 2 ^ 16, visible := decide (s.pgnSender ch ≤ 4)
    seenAt := s.frc }

theorem pgnStore_msgs (s : State) (ch len kind param : Nat) (payload : List Byte) :
    ((s.pgnStore ch len kind param payload).chan ch).msgs = (s.chan ch).msgs ++ [s.posts ch len kind param payload] := by
  unfold State.pgnStore
  extract_lets c n core x u v
  have hu : (v.chan ch).msgs = c.msgs ++ [x] := by
    rw [chan_of_pgn (wr_pgn u _ _), chan_setChan]
  split_ifs
  · rw [chan_of_pgn (ring_pgn _ _), hu]
    rfl
  · rw [chan_of_pgn (rxMirror_pgn _ _ _ _ _), hu]
    rfl

/-- What of a message the standby's copy and the time of its arrival do not touch. -/
def PgnMsg.content (x : PgnMsg) : Nat × Nat × Nat × List Byte := (x.len, x.kind, x.param, x.payload)

theorem pgnPost_stores {s : State} {ch v : Nat} (m : Master) (hlen : bits v 0 8 ≤ 64) (hzero : bits v 16 16 = 0)
    (hannex : ch ≠ annexChannel) (hfollows : s.follows = false) (hroom : (s.chan ch).msgs.length < s.pgnDepth ch) :
    ((s.pgnPost m ch v).chan ch).msgs.map PgnMsg.content = (s.chan ch).msgs.map PgnMsg.content ++
      [(bits v 0 8, bits v 8 8, s.rd (Reg.PGN_TX_PARAM ch), (s.pgnStagedBytes ch).take (bits v 0 8))] := by
  unfold State.pgnPost
  extract_lets a len rejected bytes n u
  have hu : u.pgn = s.pgn := logPost_pgn s m _
  have hparam : u.rd (Reg.PGN_TX_PARAM ch) = s.rd (Reg.PGN_TX_PARAM ch) := (KeepsReg.self.logPost m _).rd
  rw [if_neg (by omega), if_neg (by simp [hannex]), if_neg (by simp [hfollows]), if_neg (Nat.not_le.2 hroom),
    pgnStore_msgs, chan_of_pgn hu, List.map_append, hparam]
  rfl

theorem pgnTxPost_stores (s : State) (m : Master) (ch : Fin 32) (value : Word)
    (h : s.allows m .w32 true (Reg.PGN_TX_POST ch).addr) (hu : s.pgnUsed ch = true) (hs : s.pgnSender ch = masterId m)
    (hlen : bits value.toNat 0 8 ≤ 64) (hzero : bits value.toNat 16 16 = 0) (hannex : ch ≠ 30) (hfollows : s.follows = false)
    (hroom : (s.chan ch).msgs.length < s.pgnDepth ch) : Nexts (exec (.pgnTxPost m ch value) s) (fun t =>
      (t.chan ch).msgs.map (fun x => (x.len, x.kind, x.param, x.payload)) =
        (s.chan ch).msgs.map (fun x => (x.len, x.kind, x.param, x.payload)) ++
          [(bits value.toNat 0 8, bits value.toNat 8 8, s.rd (Reg.PGN_TX_PARAM ch),
            (s.pgnStagedBytes ch).take (bits value.toNat 0 8))]) :=
  ⟨_, congrArg Host.Outcome.next ((access_chan (ch := ch) h (by simp only [Reg.PGN_TX_POST]; omega)
    (by simp only [Reg.PGN_TX_POST]; omega) _).trans (if_pos ⟨hu, hs⟩)),
    pgnPost_stores (s := s.answer 0) m hlen hzero (fun e => hannex (Fin.ext e)) hfollows hroom⟩

/-! ### Reads and acknowledgements (R397) -/

theorem pgnHdrRead_opens {s : State} {m : Master} {ch : Nat} {x : PgnMsg} {l : List PgnMsg} (hu : s.pgnUsed ch = true)
    (hr : s.pgnReceiver ch = masterId m) (hm : m ≠ .debug) (hmsgs : (s.chan ch).msgs = x :: l) (hv : x.visible = true) :
    s.pgnHdrRead m ch = (s.answer (pgnHdrWord x)).setChan ch { s.chan ch with msgs := { x with opened := true } :: l } := by
  unfold State.pgnHdrRead
  rw [if_neg (by simp [hu]), if_pos (.inl hr), hmsgs]
  dsimp only
  rw [if_pos hv, if_neg hm]
  rfl

theorem pgnRxHdrRead_opens (s : State) (m : Master) (ch : Fin 32) (x : PgnMsg) (l : List PgnMsg)
    (h : s.allows m .w32 false (Reg.PGN_RX_HDR ch).addr) (hu : s.pgnUsed ch = true) (hr : s.pgnReceiver ch = masterId m)
    (hm : m ≠ .debug) (hmsgs : (s.chan ch).msgs = x :: l) (hv : x.visible = true) :
    Nexts (exec (.pgnRxHdrRead m ch) s) (fun t =>
      t.resp.data = pgnHdrWord x ∧ (t.chan ch).msgs = { x with opened := true } :: l) :=
  ⟨_, congrArg Host.Outcome.next ((access_chan (ch := ch) h (by simp only [Reg.PGN_RX_HDR]; omega)
    (by simp only [Reg.PGN_RX_HDR]; omega) _).trans (pgnHdrRead_opens (s := s.answer 0) hu hr hm hmsgs hv)), rfl,
    congrArg PgnChan.msgs (chan_setChan _ _ _)⟩

theorem pgnAck_removes {s : State} {ch v : Nat} (hack : v % 2 = 1) (hhead : (s.chan ch).head?.isSome = true) :
    s.pgnAck ch v = (s.setChan ch { s.chan ch with msgs := (s.chan ch).msgs.drop 1 }).pgnEndTimeout ch 0 := by
  obtain ⟨x, hx⟩ := Option.isSome_iff_exists.1 hhead
  rw [State.pgnAck, if_pos hack, hx]

theorem pgnRxAck_removes (s : State) (m : Master) (ch : Fin 32) (value : Word)
    (h : s.allows m .w32 true (Reg.PGN_RX_ACK ch).addr) (hu : s.pgnUsed ch = true) (hr : s.pgnReceiver ch = masterId m)
    (hack : value.toNat % 2 = 1) (hhead : (s.chan ch).head?.isSome = true) : Nexts (exec (.pgnRxAck m ch value) s) (fun t =>
      (t.chan ch).msgs = (s.chan ch).msgs.drop 1 ∧ t.on (Reg.PGN_CH_STAT_TIMEOUT ch) = false) := by
  refine ⟨_, congrArg Host.Outcome.next ((access_chan (ch := ch) h (by simp only [Reg.PGN_RX_ACK]; omega)
    (by simp only [Reg.PGN_RX_ACK]; omega) _).trans ((if_pos ⟨hu, hr⟩).trans (pgnAck_removes (s := s.answer 0) hack hhead))),
    ?_, pgnEndTimeout_clears _ ch.isLt 0⟩
  rw [chan_of_pgn (pgnEndTimeout_pgn _ _ _), chan_setChan]
  rfl

/-! ### WITHDRAW (R401) -/

theorem pgnWithdraw_msgs (s : State) (ch : Nat) :
    ((s.pgnWithdraw ch).chan ch).msgs = (s.chan ch).msgs.filter (fun x => x.opened) := by
  unfold State.pgnWithdraw
  extract_lets c gone u v w
  have hw : (w.chan ch).msgs = c.msgs.filter (fun x => x.opened) := by
    rw [chan_of_pgn (post_pgn v _ _ _ _ _), chan_of_pgn (wr_pgn u _ _), chan_setChan]
  split_ifs
  · rw [chan_of_pgn (pgnEndTimeout_pgn _ _ _), hw]
  · exact hw

theorem withdraw_keepsOpened (s : State) (m : Master) (ch : Fin 32) (h : s.allows m .w32 true (Reg.PGN_TX_CMD ch).addr)
    (hu : s.pgnUsed ch = true) (hs : s.pgnSender ch = masterId m) : Nexts (exec (.withdraw m ch) s) (fun t =>
      (t.chan ch).msgs = (s.chan ch).msgs.filter (fun x => x.opened)) :=
  ⟨(s.answer 0).pgnWithdraw ch, congrArg Host.Outcome.next ((access_chan (ch := ch) h (by simp only [Reg.PGN_TX_CMD]; omega)
    (by simp only [Reg.PGN_TX_CMD]; omega) _).trans ((if_pos ⟨hu, hs⟩).trans (if_pos ⟨by decide, by decide⟩))),
    pgnWithdraw_msgs (s.answer 0) ch⟩

/-! ### Time-outs (R400) -/

theorem exec_pgnTimeout {s : State} {ch : Fin 32} {x : PgnMsg} (hhead : (s.chan ch).head? = some x)
    (hoff : s.on (Reg.PGN_CH_STAT_TIMEOUT ch) = false) (hr : s.pgnReceiver ch ≤ 4) : exec (.pgnTimeout ch) s =
      .next (({ s with frc := max s.frc (s.pgnDue ch x) } : State).pgnTimeout ch) := by
  show execPgnTimeout ch s = _
  unfold execPgnTimeout
  rw [hhead]
  dsimp only
  rw [if_neg (by simp [hoff]), if_neg (by omega), if_neg (by omega)]

/-- The channel notes when its TIMEOUT began. -/
def State.timeoutNoted (s : State) (ch : Nat) : State :=
  { s with pgn := Assoc.insert s.pgn ch { s.chan ch with since := s.frc } }

theorem chan_timeoutNoted (s : State) (ch : Nat) : (s.timeoutNoted ch).chan ch = { s.chan ch with since := s.frc } := by
  rw [State.chan, State.timeoutNoted, Assoc.find?_insert_self]
  rfl

/-- It shows, rings the sender's bell and is recorded. -/
def State.timeoutShown (s : State) (ch : Nat) : State :=
  let t := (s.wr (Reg.PGN_CH_STAT_TIMEOUT ch) 1).ring (s.pgnSender ch)
  t.post Un.pgn 0x0F04 ch (t.pgnReceiver ch) (t.chan ch).msgs.length

theorem pgnTimeout_shown {s : State} {ch : Nat} (hoff : s.on (Reg.PGN_CH_STAT_TIMEOUT ch) = false)
    (hhead : (s.chan ch).head?.isSome = true) : s.pgnTimeout ch = (s.timeoutNoted ch).timeoutShown ch := by
  unfold State.pgnTimeout
  rw [if_neg (by simp [hoff, Option.isSome_iff_ne_none.1 hhead])]
  rfl

theorem timeoutShown_pgn (s : State) (ch : Nat) : (s.timeoutShown ch).pgn = s.pgn := by
  rw [State.timeoutShown, post_pgn, ring_pgn, wr_pgn]

theorem timeoutShown_frc (s : State) (ch : Nat) : (s.timeoutShown ch).frc = s.frc := by
  rw [State.timeoutShown, post_frc,
    State.ring_frame (F := fun p => p != .frc) _ _ rfl (fr_self _ _) .frc rfl, wr_frc]

theorem timeoutShown_on (s : State) {ch : Nat} (hch : ch < 32) :
    (s.timeoutShown ch).on (Reg.PGN_CH_STAT_TIMEOUT ch) = true := by
  have hkept : KeepsReg (Reg.PGN_CH_STAT_TIMEOUT ch).addr (s.wr (Reg.PGN_CH_STAT_TIMEOUT ch) 1) (s.timeoutShown ch) :=
    (KeepsReg.self.ring _ (by simp only [Reg.PGN_CH_STAT_TIMEOUT]; omega)).post _ _ _ _ _
      (by simp only [Reg.PGN_CH_STAT_TIMEOUT]; omega)
  exact hkept.on.trans (on_wr_self s (Reg.PGN_CH_STAT_TIMEOUT ch) 1 (Nat.le_of_ble_eq_true rfl))

theorem pgnTimeout_sets (s : State) (ch : Fin 32) (x : PgnMsg) (hhead : (s.chan ch).head? = some x)
    (hoff : s.on (Reg.PGN_CH_STAT_TIMEOUT ch) = false) (hr : s.pgnReceiver ch ≤ 4) : Nexts (exec (.pgnTimeout ch) s) (fun t =>
      t.on (Reg.PGN_CH_STAT_TIMEOUT ch) = true ∧ (t.chan ch).since = t.frc ∧ (t.chan ch).msgs = (s.chan ch).msgs ∧
      t.frc = max s.frc (s.pgnDue ch x)) := by
  have hsome : (s.chan ch).head?.isSome = true := by rw [hhead]; rfl
  rw [exec_pgnTimeout hhead hoff hr, nexts_next,
    pgnTimeout_shown (s := { s with frc := max s.frc (s.pgnDue ch x) }) hoff hsome, chan_of_pgn (timeoutShown_pgn _ _),
    chan_timeoutNoted, timeoutShown_frc]
  exact ⟨timeoutShown_on _ ch.isLt, rfl, rfl, rfl⟩

theorem pgnTimeoutClear_clears (s : State) (m : Master) (ch : Fin 32) (h : s.allows m .w32 true (Reg.PGN_CH_STAT ch).addr)
    (hu : s.pgnUsed ch = true) (hs : s.pgnSender ch = masterId m) :
    Nexts (exec (.pgnTimeoutClear m ch) s) (fun t => t.on (Reg.PGN_CH_STAT_TIMEOUT ch) = false) :=
  ⟨_, congrArg Host.Outcome.next ((access_chan (ch := ch) h (by simp only [Reg.PGN_CH_STAT]; omega)
    (by simp only [Reg.PGN_CH_STAT]; omega) _).trans ((if_pos ⟨hu, hs⟩).trans (if_pos (by decide)))),
    (on_setChan_timeout _ ch _).trans (pgnEndTimeout_clears _ ch.isLt 2)⟩

/-! ### Queues (R405 to R409) -/

theorem KeepsReg.queFollow {a : Nat} {s t : State} (h : KeepsReg a s t) {q : Nat} (ha : a ≠ (Reg.QUE_RI q).addr)
    (hlo : 0x2000070000 ≤ a) : KeepsReg a s (t.queFollow q) := by
  unfold State.queFollow
  split_ifs
  · exact (h.wr _ ha).ring _ hlo
  · exact h.wr _ ha

/-- The arrival of the entries is noted: for the Solver of each, and for any consumer of the first that waits. -/
def State.queNoted (s : State) (q v : Nat) : State :=
  let arrivals := (Assoc.find? s.posted q).getD [] ++ List.replicate (idxDiff v (s.quePi q)) s.frc
  let u : State := if s.queConsumer q = 0x0A then { s with posted := Assoc.insert s.posted q arrivals } else s
  if u.queWaiting q = 0 then { u with heads := Assoc.insert u.heads q u.frc } else u

/-- PI and LAST take their values. -/
def State.queShown (s : State) (q v : Nat) : State :=
  ((s.queNoted q v).wr (Reg.QUE_PI q) v).wr (Reg.QUE_STAT_LAST q) Sta.ok

theorem quePiSet_eq (s : State) (q v : Nat) : s.quePiSet q v =
    let t := s.queShown q v
    if t.queHeld q ∧ !t.queRound q then (t.queMirror q (s.quePi q) v).ring (t.queConsumer q)
    else if t.queRound q then t.ring (t.queConsumer q)
    else (t.queFollow q).ring (t.queConsumer q) := rfl

/-- Bells and copies to the standby leave a queue's registers but RI. -/
theorem quePiSet_keeps (s : State) (q v : Nat) {a : Nat} (ha : a ≠ (Reg.QUE_RI q).addr) (hlo : 0x2000070000 ≤ a) :
    KeepsReg a (s.queShown q v) (s.quePiSet q v) := by
  rw [quePiSet_eq]
  dsimp only
  split_ifs
  · exact (KeepsReg.self.queMirror _ _ _).ring _ hlo
  · exact KeepsReg.self.ring _ hlo
  · exact (KeepsReg.self.queFollow ha hlo).ring _ hlo

theorem quePiSet_pi (s : State) (q : Nat) (v : Word) : (s.quePiSet q v.toNat).quePi q = v.toNat := by
  have hkept := quePiSet_keeps s q v.toNat (a := (Reg.QUE_PI q).addr) (by simp only [Reg.QUE_PI, Reg.QUE_RI]; omega) (by simp only [Reg.QUE_PI]; omega)
  have hlast : (Reg.QUE_PI q).addr ≠ (Reg.QUE_STAT_LAST q).addr := by simp only [Reg.QUE_PI, Reg.QUE_STAT_LAST]; omega
  rw [State.quePi, hkept.rd, State.queShown, rd_wr_addr _ _ _ _ hlast, rd_wr_self _ (Reg.QUE_PI q) _ (Nat.le_of_ble_eq_true rfl)]
  exact Nat.mod_eq_of_lt v.isLt

theorem quePiSet_last (s : State) (q v : Nat) : (s.quePiSet q v).rd (Reg.QUE_STAT_LAST q) = Sta.ok := by
  have hkept := quePiSet_keeps s q v (a := (Reg.QUE_STAT_LAST q).addr)
    (by simp only [Reg.QUE_STAT_LAST, Reg.QUE_RI]; omega) (by simp only [Reg.QUE_STAT_LAST]; omega)
  rw [hkept.rd, State.queShown, rd_wr_self _ (Reg.QUE_STAT_LAST q) _ (Nat.le_of_ble_eq_true rfl)]
  rfl

theorem quePiWrite_accepted {s : State} {m : Master} {q v : Nat} (hu : s.queUsed q = true)
    (hp : s.queProducer q = masterId m) (hmoves : idxDiff v (s.quePi q) ≠ 0)
    (hfree : idxDiff v (s.quePi q) ≤ 2 ^ s.queDepth q - s.queFill q) :
    ∃ l : List Byte, s.quePiWrite m q v = (s.logPost m l).quePiSet q v := by
  unfold State.quePiWrite
  dsimp only
  rw [if_neg (by simp [hu]), if_neg (not_not.2 hp), if_neg hmoves, if_pos hfree]
  exact ⟨_, rfl⟩

theorem quePiWrite_moves (s : State) (m : Master) (q : Fin 64) (value : Word)
    (h : s.allows m .w32 true (Reg.QUE_PI q).addr) (hu : s.queUsed q = true) (hp : s.queProducer q = masterId m)
    (hmoves : idxDiff value.toNat (s.quePi q) ≠ 0)
    (hfree : idxDiff value.toNat (s.quePi q) ≤ 2 ^ s.queDepth q - s.queFill q) :
    Nexts (exec (.quePiWrite m q value) s) (fun t => t.quePi q = value.toNat ∧ t.rd (Reg.QUE_STAT_LAST q) = Sta.ok) := by
  obtain ⟨l, hset⟩ := quePiWrite_accepted (s := s.answer 0) hu hp hmoves hfree
  rw [exec_quePiWrite value h, nexts_next, hset]
  exact ⟨quePiSet_pi _ q value, quePiSet_last _ q _⟩

theorem queDiSet_di (s : State) (q : Nat) (v : Word) : (s.queDiSet q v.toNat).queDi q = v.toNat := by
  have hkept : KeepsReg (Reg.QUE_DI q).addr (s.wr (Reg.QUE_DI q) v.toNat) (s.queDiSet q v.toNat) := by
    unfold State.queDiSet
    dsimp only
    split_ifs
    · exact KeepsReg.self.queMirror _ _ _
    · exact KeepsReg.self.queFollow (by simp only [Reg.QUE_DI, Reg.QUE_RI]; omega) (by simp only [Reg.QUE_DI]; omega)
  rw [State.queDi, hkept.rd, rd_wr_self _ (Reg.QUE_DI q) _ (Nat.le_of_ble_eq_true rfl)]
  exact Nat.mod_eq_of_lt v.isLt

theorem queDiWrite_accepted {s : State} {m : Master} {q v : Nat} (hu : s.queUsed q = true) (hr : s.queRound q = true)
    (hc : s.queConsumer q = masterId m) (hmoves : idxDiff v (s.queDi q) ≠ 0)
    (hheld : idxDiff v (s.queDi q) ≤ s.queWaiting q) : s.queDiWrite m q v = s.queDiSet q v := by
  unfold State.queDiWrite
  dsimp only
  rw [if_neg (by simp [hu]), if_neg (by simp [hr, hc]), if_neg hmoves, if_pos hheld]

theorem queDiWrite_moves (s : State) (m : Master) (q : Fin 64) (value : Word)
    (h : s.allows m .w32 true (Reg.QUE_DI q).addr) (hu : s.queUsed q = true) (hr : s.queRound q = true)
    (hc : s.queConsumer q = masterId m) (hmoves : idxDiff value.toNat (s.queDi q) ≠ 0)
    (hheld : idxDiff value.toNat (s.queDi q) ≤ s.queWaiting q) :
    Nexts (exec (.queDiWrite m q value) s) (fun t => t.queDi q = value.toNat) := by
  rw [exec_queDiWrite value h, nexts_next, queDiWrite_accepted (s := s.answer 0) hu hr hc hmoves hheld]
  exact queDiSet_di _ q value

/-- Two indices differ by 0 only where they are the same. -/
theorem eq_of_idxDiff_eq_zero {a b : Nat} (ha : a < 2 ^ 32) (hb : b < 2 ^ 32) (h : idxDiff a b = 0) : a = b := by
  unfold idxDiff at h
  omega

theorem queCiWrite_accepted {s : State} {m : Master} {q : Nat} {v : Word} (hu : s.queUsed q = true)
    (hr : s.queRound q = false) (hc : s.queConsumer q = masterId m)
    (hdone : idxDiff v.toNat (s.queCi q) ≤ idxDiff (s.queRi q) (s.queCi q)) :
    (s.queCiWrite m q v.toNat).queCi q = v.toNat := by
  unfold State.queCiWrite
  dsimp only
  rw [if_neg (by simp [hu]), if_neg (by simp [hr, hc])]
  by_cases hzero : idxDiff v.toNat (s.queCi q) = 0
  · rw [if_pos hzero]
    exact (eq_of_idxDiff_eq_zero v.isLt (rd_lt s (Reg.QUE_CI q)) hzero).symm
  · rw [if_neg hzero, if_pos hdone, State.queCi, rd_wr_self _ (Reg.QUE_CI q) _ (Nat.le_of_ble_eq_true rfl)]
    exact Nat.mod_eq_of_lt v.isLt

theorem queCiWrite_moves (s : State) (m : Master) (q : Fin 64) (value : Word)
    (h : s.allows m .w32 true (Reg.QUE_CI q).addr) (hu : s.queUsed q = true) (hr : s.queRound q = false)
    (hc : s.queConsumer q = masterId m) (hdone : idxDiff value.toNat (s.queCi q) ≤ idxDiff (s.queRi q) (s.queCi q)) :
    Nexts (exec (.queCiWrite m q value) s) (fun t => t.queCi q = value.toNat) := by
  rw [exec_queCiWrite value h, nexts_next]
  exact queCiWrite_accepted (s := s.answer 0) hu hr hc hdone

/-! ### The pool (R408) -/

theorem poolWrite_owner {s : State} {m : Master} {a q : Nat} {bs : List Byte} (hq : s.ringAt a = some q)
    (howner : (if s.consumerOwns q ((a - s.ringAddr q) / 2 ^ s.queEsize q) then s.queConsumer q else s.queProducer q) =
      masterId m)
    (hend : a + bs.length ≤ s.ringAddr q + 2 ^ s.queEsize q * ((a - s.ringAddr q) / 2 ^ s.queEsize q + 1)) :
    s.poolWrite m a bs = (s.answer 0).setBytes a bs := by
  rw [State.poolWrite, hq]
  exact if_pos ⟨howner, hend⟩

theorem exec_queuePoolWrite_owner (s : State) (m : Master) (off : Fin 0x400000) (bs : List Byte) (q : Nat)
    (hi : s.issued m = true) (hreach : s.reach m (poolBase + off.val) = true)
    (hlen : [1, 2, 4, 8].contains bs.length = true) (halign : (poolBase + off.val) % bs.length = 0)
    (hq : s.ringAt (poolBase + off.val) = some q)
    (howner : (if s.consumerOwns q ((poolBase + off.val - s.ringAddr q) / 2 ^ s.queEsize q) then s.queConsumer q
      else s.queProducer q) = masterId m)
    (hend : poolBase + off.val + bs.length ≤
      s.ringAddr q + 2 ^ s.queEsize q * ((poolBase + off.val - s.ringAddr q) / 2 ^ s.queEsize q + 1)) :
    exec (.queuePoolWrite m off bs) s = .next ((s.answer 0).setBytes (poolBase + off.val) bs) := by
  show execQueuePoolWrite m off bs s = _
  unfold execQueuePoolWrite
  dsimp only
  rw [if_neg (by simp [hi]), if_neg (by rw [hreach, hlen, halign]; decide), poolWrite_owner hq howner hend]

end Sys2Proof.Machine
end

section
open Sys2Proof Sys2Proof.Machine

/-- Settles O45: each command where its checks pass (log 12, 227), posts on the Annex's result channel left out. -/
theorem pigeonAndQueueCommandsComplete : Obligations.PigeonAndQueueCommandsComplete :=
  ⟨pgnTxPost_stores, pgnRxHdrRead_opens, pgnRxAck_removes, withdraw_keepsOpened, pgnTimeout_sets, pgnTimeoutClear_clears,
    quePiWrite_moves, queDiWrite_moves, queCiWrite_moves, exec_queuePoolWrite_owner⟩

end

section
/-!
The Guestbook's writer and its buckets (R412 to R422): what each of its steps moves.
-/
namespace Sys2Proof.Machine

/-! ### Fields of byte lists -/

theorem leVal_lt (l : List (BitVec 8)) : leVal l < 2 ^ (8 * l.length) := by
  induction l with
  | nil => exact Nat.one_pos
  | cons b t ih =>
    have hb := b.isLt
    rw [List.length_cons, Nat.mul_succ, Nat.pow_add, leVal]
    omega

theorem le_lt (l : List (BitVec 8)) (off n : Nat) : le l off n < 2 ^ (8 * n) :=
  (leVal_lt _).trans_le (Nat.pow_le_pow_right (by decide)
    (Nat.mul_le_mul_left 8 ((List.length_take_le _ _).trans (Nat.le_refl n))))

/-- DEPTH of a class fits the field that shows its tokens. -/
theorem gbDepth_lt (s : State) (c : Nat) : s.gbDepth c < 2 ^ 16 := by
  unfold State.gbDepth
  split_ifs
  · decide
  · decide
  · decide
  · exact le_lt _ _ 2

/-! ### Buckets (R417, R419) -/

/-- The tokens of a class lie in GB_CLASS, or beside it for the built-in class. -/
theorem gbTokens_of {s t : State} {c : Nat} (hr : c < 32 → KeepsReg (Reg.GB_CLASS c).addr s t)
    (hb : t.gb.builtin = s.gb.builtin) : t.gbTokens c = s.gbTokens c := by
  unfold State.gbTokens
  split_ifs with hc
  · exact (hr hc).rd (f := Reg.GB_CLASS_TOKENS c)
  · exact hb

theorem gbTokens_set (s : State) (c : Nat) {n : Nat} (hn : n < 2 ^ 16 ∨ 32 ≤ c) : (s.setGbTokens c n).gbTokens c = n := by
  unfold State.setGbTokens State.gbTokens
  split_ifs with hc
  · rw [rd_wr_self _ (Reg.GB_CLASS_TOKENS c) _ (Nat.le_of_ble_eq_true rfl)]
    exact Nat.mod_eq_of_lt (hn.resolve_right (Nat.not_le.2 hc))
  · rfl

theorem gbTokens_gained (s : State) (c d n : Nat) : (s.setGbGained d n).gbTokens c = s.gbTokens c :=
  gbTokens_of (fun _ => KeepsReg.self.of_eq rfl) rfl

theorem gbTokens_lt (s : State) (c : Nat) : s.gbTokens c < 2 ^ 16 ∨ 32 ≤ c := by
  unfold State.gbTokens
  split_ifs with hc
  · exact .inl (rd_lt s (Reg.GB_CLASS_TOKENS c))
  · exact .inr (Nat.not_lt.1 hc)

/-- What a bucket moves of the Guestbook beside its registers. -/
def BucketsOnly (s t : State) : Prop := ∃ b g, t.gb = { s.gb with builtin := b, gained := g }

theorem setGbTokens_gb (s : State) (c n : Nat) : BucketsOnly s (s.setGbTokens c n) := by
  unfold State.setGbTokens
  split_ifs
  · exact ⟨s.gb.builtin, s.gb.gained, rfl⟩
  · exact ⟨n, s.gb.gained, rfl⟩

theorem BucketsOnly.gained {s t : State} (h : BucketsOnly s t) (c n : Nat) : BucketsOnly s (t.setGbGained c n) := by
  obtain ⟨b, g, e⟩ := h
  exact ⟨b, Assoc.insert t.gb.gained c n, by rw [State.setGbGained, e]⟩

theorem gbGain_gb (s : State) (c : Nat) : BucketsOnly s (s.gbGain c) := by
  unfold State.gbGain
  split_ifs
  · exact ⟨s.gb.builtin, s.gb.gained, rfl⟩
  · exact (setGbTokens_gb s c _).gained _ _

theorem gbTake_gb (s : State) (c : Nat) : BucketsOnly s (s.gbTake c) := by
  unfold State.gbTake
  dsimp only
  split_ifs
  · exact setGbTokens_gb s c _
  · exact (setGbTokens_gb s c _).gained _ _

/-- A token that is taken is one less. -/
theorem gbTake_tokens (s : State) (c : Nat) : (s.gbTake c).gbTokens c = s.gbTokens c - 1 := by
  have hless : s.gbTokens c - 1 < 2 ^ 16 ∨ 32 ≤ c := (gbTokens_lt s c).imp_left fun h => (Nat.sub_le _ _).trans_lt h
  unfold State.gbTake
  dsimp only
  split_ifs
  · exact gbTokens_set s c hless
  · rw [gbTokens_gained, gbTokens_set s c hless]

/-- The tokens that a class has gained do not depend on what the writer holds. -/
theorem gbGain_tokens_congr {s t : State} (c : Nat) (ht : t.gbTokens c = s.gbTokens c) (hd : t.gbDepth c = s.gbDepth c)
    (hp : t.gbPeriod c = s.gbPeriod c) (hf : t.frc = s.frc) (hg : t.gb.gained = s.gb.gained) :
    (t.gbGain c).gbTokens c = (s.gbGain c).gbTokens c := by
  unfold State.gbGain
  rw [ht, hd, hp, hf, hg]
  dsimp only
  have hfits : ∀ n, min n (s.gbDepth c) < 2 ^ 16 ∨ 32 ≤ c := fun n => .inl ((Nat.min_le_right _ _).trans_lt (gbDepth_lt s c))
  split_ifs
  · exact ht
  · rw [gbTokens_gained, gbTokens_gained, gbTokens_set _ _ (hfits _), gbTokens_set _ _ (hfits _)]

theorem KeepsReg.setGbTokens {a : Nat} {s t : State} (h : KeepsReg a s t) {c : Nat} (n : Nat)
    (ha : c < 32 → a ≠ (Reg.GB_CLASS_TOKENS c).addr) : KeepsReg a s (t.setGbTokens c n) := by
  unfold State.setGbTokens
  split_ifs with hc
  · exact h.wr _ (ha hc)
  · exact h.of_eq rfl

theorem KeepsReg.gbGain {a : Nat} {s t : State} (h : KeepsReg a s t) {c : Nat}
    (ha : c < 32 → a ≠ (Reg.GB_CLASS_TOKENS c).addr) : KeepsReg a s (t.gbGain c) := by
  unfold State.gbGain
  split_ifs
  · exact h
  · exact (h.setGbTokens _ ha).of_eq rfl

/-! ### The writer (R413, R414, R420) -/

/-- An event that needs a record moves of the Guestbook beside its registers only what the writer holds. -/
theorem gbNeed_gb (s : State) (r : GbRec) : ∃ w, (s.gbNeed r).gb = { s.gb with writing := w } := by
  unfold State.gbNeed
  split_ifs
  · exact ⟨s.gb.writing, rfl⟩
  · exact ⟨s.gb.writing, rfl⟩
  · exact ⟨_, rfl⟩
  · exact ⟨_, rfl⟩

/-- FULL and what is lost lie at the start of the Guestbook's block. -/
theorem KeepsReg.gbNeed {a : Nat} {s t : State} (h : KeepsReg a s t) (r : GbRec) (ha : 0x2000120014 < a) :
    KeepsReg a s (t.gbNeed r) := by
  have hfull : a ≠ Reg.GB_STAT_FULL.addr := by simp only [Reg.GB_STAT_FULL]; omega
  have hlost : a ≠ Reg.GB_LOST.addr := by simp only [Reg.GB_LOST]; omega
  have hfirst : a ≠ Reg.GB_FIRST_LOST_CODE.addr := by simp only [Reg.GB_FIRST_LOST_CODE]; omega
  unfold State.gbNeed
  split_ifs
  · exact h.wr (g := Reg.GB_LOST) _ hlost
  · exact (h.wr (g := Reg.GB_FIRST_LOST_CODE) _ hfirst).wr (g := Reg.GB_LOST) _ hlost
  · exact h.of_eq rfl
  · refine KeepsReg.of_eq (t := ((t.wr Reg.GB_STAT_FULL 1).wr Reg.GB_FIRST_LOST_CODE r.code).bump Reg.GB_LOST) ?_ rfl
    exact ((h.wr (g := Reg.GB_STAT_FULL) _ hfull).wr (g := Reg.GB_FIRST_LOST_CODE) _ hfirst).wr (g := Reg.GB_LOST) _ hlost

theorem KeepsReg.gbAdvance {a : Nat} {s t : State} (h : KeepsReg a s t) (hseq : a ≠ Reg.GB_NEXT_SEQ.addr)
    (hstat : a ≠ Reg.GB_STAT.addr) : KeepsReg a s t.gbAdvance := by
  unfold State.gbAdvance
  dsimp only
  split_ifs
  · exact ((h.wr (g := Reg.GB_NEXT_SEQ) _ hseq).wr (g := Reg.GB_STAT_FULL) _ hstat).wr (g := Reg.GB_STAT_SEQ_END) _ hstat
  · exact h.wr (g := Reg.GB_NEXT_SEQ) _ hseq

theorem gbAdvance_gb (s : State) : s.gbAdvance.gb = s.gb := by
  unfold State.gbAdvance
  dsimp only
  split_ifs <;> rfl

theorem gbAdvance_frc (s : State) : s.gbAdvance.frc = s.frc :=
  State.gbAdvance_frame (F := fun p => p != .frc) s rfl (fr_self _ s) .frc rfl

theorem gbAdvance_seq (s : State) : s.gbAdvance.rd Reg.GB_NEXT_SEQ = (s.rd Reg.GB_NEXT_SEQ + 1) % 2 ^ 32 := by
  have hself := rd_wr_self s Reg.GB_NEXT_SEQ (s.rd Reg.GB_NEXT_SEQ + 1) (by decide)
  unfold State.gbAdvance
  dsimp only
  split_ifs
  · rw [rd_wr_addr _ _ _ _ (by decide), rd_wr_addr _ _ _ _ (by decide)]
    exact hself
  · exact hself

/-- The record as the writer completes it. -/
def State.gbCompleted (s : State) (r : GbRec) : GbRec :=
  let pend := (Assoc.find? s.gb.pend r.code).getD 0
  { r with seq := s.rd Reg.GB_NEXT_SEQ, inControl := s.inControl, suppressed := min pend 255, suppSat := decide (255 < pend) }

/-- SEQ advances, and the first record of a log shows in FIRST_SEQ. -/
def State.gbNumbered (s : State) : State :=
  let t := s.gbAdvance
  if t.rd Reg.GB_COUNT_COUNT = 0 then t.wr Reg.GB_FIRST_SEQ (s.rd Reg.GB_NEXT_SEQ) else t

theorem gbWrite_eq {s : State} (r : GbRec) (h : s.on Reg.GB_STAT_SEQ_END = false) : s.gbWrite r =
    let t := s.gbNumbered.wr Reg.GB_COUNT_COUNT (s.gbNumbered.rd Reg.GB_COUNT_COUNT + 1)
    { t with gb := { t.gb with records := s.gbCompleted r :: t.gb.records, pend := Assoc.erase t.gb.pend r.code } } :=
  if_neg (by simp [h])

theorem KeepsReg.gbNumbered {a : Nat} {s t : State} (h : KeepsReg a s t) (hseq : a ≠ Reg.GB_NEXT_SEQ.addr)
    (hstat : a ≠ Reg.GB_STAT.addr) (hfirst : a ≠ Reg.GB_FIRST_SEQ.addr) : KeepsReg a s t.gbNumbered := by
  unfold State.gbNumbered
  dsimp only
  split_ifs
  · exact (h.gbAdvance hseq hstat).wr _ hfirst
  · exact h.gbAdvance hseq hstat

theorem gbNumbered_gb (s : State) : s.gbNumbered.gb = s.gb := by
  unfold State.gbNumbered
  dsimp only
  split_ifs
  · rw [wr_gb, gbAdvance_gb]
  · exact gbAdvance_gb s

theorem gbNumbered_frc (s : State) : s.gbNumbered.frc = s.frc := by
  unfold State.gbNumbered
  dsimp only
  split_ifs
  · rw [wr_frc, gbAdvance_frc]
  · exact gbAdvance_frc s

theorem gbNumbered_seq (s : State) : s.gbNumbered.rd Reg.GB_NEXT_SEQ = (s.rd Reg.GB_NEXT_SEQ + 1) % 2 ^ 32 := by
  unfold State.gbNumbered
  dsimp only
  split_ifs
  · rw [rd_wr_addr _ _ _ _ (by decide), gbAdvance_seq]
  · exact gbAdvance_seq s

/-- COUNT, LOST, SEQ and FULL lie at the start of the Guestbook's block. -/
theorem KeepsReg.gbWrite {a : Nat} {s t : State} (h : KeepsReg a s t) (r : GbRec) (ha : 0x2000120014 < a) :
    KeepsReg a s (t.gbWrite r) := by
  have hlost : a ≠ Reg.GB_LOST.addr := by simp only [Reg.GB_LOST]; omega
  have hfirst : a ≠ Reg.GB_FIRST_LOST_CODE.addr := by simp only [Reg.GB_FIRST_LOST_CODE]; omega
  by_cases hend : t.on Reg.GB_STAT_SEQ_END = true
  · unfold State.gbWrite
    rw [if_pos hend]
    dsimp only
    split_ifs
    · exact h.wr (g := Reg.GB_LOST) _ hlost
    · exact (h.wr (g := Reg.GB_FIRST_LOST_CODE) _ hfirst).wr (g := Reg.GB_LOST) _ hlost
  · rw [gbWrite_eq r (Bool.eq_false_of_not_eq_true hend)]
    have hnumbered : KeepsReg a s t.gbNumbered := h.gbNumbered (by simp only [Reg.GB_NEXT_SEQ]; omega)
      (by simp only [Reg.GB_STAT]; omega) (by simp only [Reg.GB_FIRST_SEQ]; omega)
    exact (hnumbered.wr (g := Reg.GB_COUNT_COUNT) _ (by simp only [Reg.GB_COUNT_COUNT]; omega)).of_eq rfl

/-- Of the Guestbook beside its registers a record that is written moves the log and the pending counts. -/
theorem gbWrite_gb (s : State) (r : GbRec) : ∃ l p, (s.gbWrite r).gb = { s.gb with records := l, pend := p } := by
  by_cases hend : s.on Reg.GB_STAT_SEQ_END = true
  · unfold State.gbWrite
    rw [if_pos hend]
    dsimp only
    split_ifs <;> exact ⟨s.gb.records, s.gb.pend, rfl⟩
  · rw [gbWrite_eq r (Bool.eq_false_of_not_eq_true hend)]
    dsimp only
    rw [wr_gb, gbNumbered_gb]
    exact ⟨_, _, rfl⟩

/-! ### GB_EVENT -/

/-- What the writer tests before it takes anything. -/
theorem writer_free {s : State} (hw : s.gb.writing = none) (hc : s.gb.clearing = none) :
    ¬(s.gb.writing.isSome || s.gb.clearing.isSome) = true := by simp [hw, hc]

theorem exec_gbEvent_anchor (s : State) (e : GbEvent) (l : List GbEvent) (hw : s.gb.writing = none)
    (hc : s.gb.clearing = none) (ha : s.gb.anchors = e :: l) : exec .gbEvent s =
      .next (({ s with gb := { s.gb with anchors := l, writeAt := e.at_ } } : State).gbNeed (s.gbRecOf e 0 true false)) := by
  show execGbEvent s = _
  rw [execGbEvent, if_neg (writer_free hw hc), ha]

/-- The writer takes the oldest queued event. -/
def State.gbTaken (s : State) (e : GbEvent) (l : List GbEvent) : State :=
  { s with gb := { s.gb with queue := l, writeAt := e.at_ } }

theorem exec_gbEvent_queue {s : State} {e : GbEvent} {l : List GbEvent} (hw : s.gb.writing = none)
    (hc : s.gb.clearing = none) (ha : s.gb.anchors = []) (hq : s.gb.queue = e :: l) : exec .gbEvent s =
      match gbTryMerge e s.gb.records with
      | some rs => .next { s.gbTaken e l with gb := { (s.gbTaken e l).gb with records := rs } }
      | none => .next ((s.gbTaken e l).gbRate e) := by
  show execGbEvent s = _
  rw [execGbEvent, if_neg (writer_free hw hc), ha, hq]
  rfl

theorem gbEvent_merges (s : State) (e : GbEvent) (l : List GbEvent) (rs : List GbRec) (hw : s.gb.writing = none)
    (hc : s.gb.clearing = none) (ha : s.gb.anchors = []) (hq : s.gb.queue = e :: l)
    (hm : gbTryMerge e s.gb.records = some rs) : Nexts (exec .gbEvent s) (fun t =>
      t.gb = { s.gb with queue := l, records := rs, writeAt := e.at_ } ∧ t.regs = s.regs) := by
  rw [exec_gbEvent_queue hw hc ha hq, hm]
  exact ⟨_, rfl, rfl, rfl⟩

theorem exec_gbEvent_rate (s : State) (e : GbEvent) (l : List GbEvent) (hw : s.gb.writing = none)
    (hc : s.gb.clearing = none) (ha : s.gb.anchors = []) (hq : s.gb.queue = e :: l)
    (hm : gbTryMerge e s.gb.records = none) : exec .gbEvent s =
      .next (({ s with gb := { s.gb with queue := l, writeAt := e.at_ } } : State).gbRate e) := by
  rw [exec_gbEvent_queue hw hc ha hq, hm]
  rfl

/-! ### Tokens (R418) -/

/-- With a token the event goes to the writer, and the token is gone. -/
theorem gbRate_takes {s : State} {e : GbEvent} (h : 0 < (s.gbGain (s.gbClass e.code)).gbTokens (s.gbClass e.code)) :
    (s.gbRate e).gbTokens (s.gbClass e.code) = (s.gbGain (s.gbClass e.code)).gbTokens (s.gbClass e.code) - 1 ∧
      (s.gbRate e).gb.queue = s.gb.queue ∧ (s.gbRate e).gb.records = s.gb.records ∧ (s.gbRate e).gb.pend = s.gb.pend := by
  unfold State.gbRate
  extract_lets c u
  rw [if_pos h]
  obtain ⟨b, g, hgain⟩ := gbGain_gb s c
  obtain ⟨b', g', htake⟩ := gbTake_gb u c
  obtain ⟨w, hneed⟩ := gbNeed_gb (u.gbTake c) (u.gbRecOf e (u.gbSeverity e.code) false (c == 32))
  have hreg : c < 32 → KeepsReg (Reg.GB_CLASS c).addr (u.gbTake c)
      ((u.gbTake c).gbNeed (u.gbRecOf e (u.gbSeverity e.code) false (c == 32))) :=
    fun _ => KeepsReg.self.gbNeed _ (by simp only [Reg.GB_CLASS]; omega)
  refine ⟨(gbTokens_of hreg (by rw [hneed])).trans (gbTake_tokens u c), ?_, ?_, ?_⟩ <;> rw [hneed, htake, hgain]

theorem gbEvent_takes (s : State) (e : GbEvent) (l : List GbEvent) (hw : s.gb.writing = none) (hc : s.gb.clearing = none)
    (ha : s.gb.anchors = []) (hq : s.gb.queue = e :: l) (hm : gbTryMerge e s.gb.records = none)
    (h : 0 < (s.gbGain (s.gbClass e.code)).gbTokens (s.gbClass e.code)) : Nexts (exec .gbEvent s) (fun t =>
      t.gbTokens (s.gbClass e.code) = (s.gbGain (s.gbClass e.code)).gbTokens (s.gbClass e.code) - 1 ∧ t.gb.queue = l ∧
      t.gb.records = s.gb.records ∧ t.gb.pend = s.gb.pend) := by
  have hgained : ((s.gbTaken e l).gbGain (s.gbClass e.code)).gbTokens (s.gbClass e.code) =
      (s.gbGain (s.gbClass e.code)).gbTokens (s.gbClass e.code) := gbGain_tokens_congr _ rfl rfl rfl rfl rfl
  rw [exec_gbEvent_rate s e l hw hc ha hq hm, nexts_next, ← hgained]
  rw [← hgained] at h
  exact gbRate_takes (s := s.gbTaken e l) h

/-- One more event of a code waits to be told of. -/
def Gb.suppress (g : Gb) (code : Nat) : Gb :=
  { g with pend := Assoc.insert g.pend code ((Assoc.find? g.pend code).getD 0 + 1) }

/-- Where the pending count of a code and SUPPRESSED stand after an event that is suppressed. -/
theorem gbSuppress_counts (s : State) (code : Nat) :
    (s.gbSuppress code).rd Reg.GB_SUPPRESSED = satInc 32 (s.rd Reg.GB_SUPPRESSED) ∧
      (s.gbSuppress code).gb = s.gb.suppress code := by
  unfold State.gbSuppress
  extract_lets u v
  have hu : KeepsReg Reg.GB_SUPPRESSED.addr s u ∧ u.gb = s.gb := by
    simp only [u]
    split_ifs
    · exact ⟨KeepsReg.self.wr _ (by simp only [Reg.GB_SUPPRESSED, Reg.GB_CLASS_SUPP]; omega), rfl⟩
    · exact ⟨.self, rfl⟩
  obtain ⟨hreg, hgb⟩ := hu
  refine ⟨?_, ?_⟩
  · rw [← hreg.rd]
    exact rd_bump_self u Reg.GB_SUPPRESSED (by decide)
  · exact congrArg (Gb.suppress · code) hgb

/-- Without one it is suppressed. -/
theorem gbRate_suppresses {s : State} {e : GbEvent} (hw : s.gb.writing = none)
    (h : (s.gbGain (s.gbClass e.code)).gbTokens (s.gbClass e.code) = 0) :
    (s.gbRate e).gb.queue = s.gb.queue ∧ (s.gbRate e).gb.records = s.gb.records ∧ (s.gbRate e).gb.writing = none ∧
      (s.gbRate e).rd Reg.GB_SUPPRESSED = satInc 32 (s.rd Reg.GB_SUPPRESSED) ∧
      Assoc.find? (s.gbRate e).gb.pend e.code = some ((Assoc.find? s.gb.pend e.code).getD 0 + 1) := by
  unfold State.gbRate
  extract_lets c u
  rw [if_neg (by rw [show u.gbTokens c = 0 from h]; decide)]
  obtain ⟨b, g, hgain⟩ := gbGain_gb s c
  have hu : u.gb = { s.gb with builtin := b, gained := g } := hgain
  have hreg : KeepsReg Reg.GB_SUPPRESSED.addr s u :=
    KeepsReg.self.gbGain fun _ => by simp only [Reg.GB_SUPPRESSED, Reg.GB_CLASS_TOKENS]; omega
  obtain ⟨hcount, hgb⟩ := gbSuppress_counts u e.code
  rw [hcount, hreg.rd, hgb, hu]
  exact ⟨rfl, rfl, hw, rfl, Assoc.find?_insert_self _ _ _⟩

theorem gbEvent_suppresses (s : State) (e : GbEvent) (l : List GbEvent) (hw : s.gb.writing = none)
    (hc : s.gb.clearing = none) (ha : s.gb.anchors = []) (hq : s.gb.queue = e :: l)
    (hm : gbTryMerge e s.gb.records = none) (h : (s.gbGain (s.gbClass e.code)).gbTokens (s.gbClass e.code) = 0) :
    Nexts (exec .gbEvent s) (fun t => t.gb.queue = l ∧ t.gb.records = s.gb.records ∧ t.gb.writing = none ∧
      t.rd Reg.GB_SUPPRESSED = satInc 32 (s.rd Reg.GB_SUPPRESSED) ∧
      Assoc.find? t.gb.pend e.code = some ((Assoc.find? s.gb.pend e.code).getD 0 + 1)) := by
  rw [exec_gbEvent_rate s e l hw hc ha hq hm, nexts_next]
  have hgained : ((s.gbTaken e l).gbGain (s.gbClass e.code)).gbTokens (s.gbClass e.code) =
      (s.gbGain (s.gbClass e.code)).gbTokens (s.gbClass e.code) := gbGain_tokens_congr _ rfl rfl rfl rfl rfl
  exact gbRate_suppresses (s := s.gbTaken e l) hw (hgained.trans h)

/-! ### GB_RECORD_WRITE (R413, R424) -/

/-- The writer comes to the record that it holds. -/
def State.gbWriting (s : State) : State :=
  { s with frc := max s.frc (s.gb.writeAt + 3000), gb := { s.gb with writing := none } }

theorem exec_gbRecordWrite {s : State} {r : GbRec} (cut : Bool) (hw : s.gb.writing = some r) :
    exec (.gbRecordWrite cut) s = .next (if cut then s.gbWriting.gbAdvance else s.gbWriting.gbWrite r) := by
  show execGbRecordWrite cut s = _
  rw [execGbRecordWrite, hw]
  rfl

theorem gbRecordWrite_carriesCount (s : State) (r : GbRec) (hw : s.gb.writing = some r)
    (hend : s.on Reg.GB_STAT_SEQ_END = false) : Nexts (exec (.gbRecordWrite false) s) (fun t =>
      t.gb.records.head?.map (fun x => (x.code, x.suppressed, x.suppSat)) =
        some (r.code, min ((Assoc.find? s.gb.pend r.code).getD 0) 255, decide (255 < (Assoc.find? s.gb.pend r.code).getD 0)) ∧
      Assoc.find? t.gb.pend r.code = none) := by
  rw [exec_gbRecordWrite false hw, nexts_next, if_neg (by decide), gbWrite_eq (s := s.gbWriting) r hend]
  exact ⟨rfl, Assoc.find?_erase_self _ _⟩

theorem gbRecordWrite_writes (s : State) (r : GbRec) (hw : s.gb.writing = some r)
    (hend : s.on Reg.GB_STAT_SEQ_END = false) (hroom : s.rd Reg.GB_COUNT_COUNT < gbPlaces) :
    Nexts (exec (.gbRecordWrite false) s) (fun t => t.gb.writing = none ∧
      t.rd Reg.GB_NEXT_SEQ = (s.rd Reg.GB_NEXT_SEQ + 1) % 2 ^ 32 ∧ t.rd Reg.GB_COUNT_COUNT = s.rd Reg.GB_COUNT_COUNT + 1 ∧
      t.gb.records.head?.map (fun x => (x.code, x.seq)) = some (r.code, s.rd Reg.GB_NEXT_SEQ) ∧
      t.frc = max s.frc (s.gb.writeAt + 3000)) := by
  have hcount : s.gbWriting.gbNumbered.rd Reg.GB_COUNT_COUNT = s.rd Reg.GB_COUNT_COUNT :=
    (KeepsReg.self.gbNumbered (by decide) (by decide) (by decide)).rd
  have hfits : s.rd Reg.GB_COUNT_COUNT + 1 < 2 ^ 18 := by
    rw [gbPlaces] at hroom
    omega
  rw [exec_gbRecordWrite false hw, nexts_next, if_neg (by decide), gbWrite_eq (s := s.gbWriting) r hend]
  refine ⟨?_, ?_, ?_, rfl, gbNumbered_frc _⟩
  · dsimp only
    rw [wr_gb, gbNumbered_gb]
    rfl
  · exact (rd_wr_addr _ Reg.GB_COUNT_COUNT Reg.GB_NEXT_SEQ _ (by decide)).trans (gbNumbered_seq _)
  · refine (rd_wr_self _ Reg.GB_COUNT_COUNT _ (by decide)).trans ?_
    rw [hcount]
    exact Nat.mod_eq_of_lt hfits

theorem gbRecordWrite_cut (s : State) (r : GbRec) (hw : s.gb.writing = some r) :
    Nexts (exec (.gbRecordWrite true) s) (fun t =>
      t.gb = { s.gb with writing := none } ∧ t.rd Reg.GB_NEXT_SEQ = (s.rd Reg.GB_NEXT_SEQ + 1) % 2 ^ 32) :=
  ⟨_, (exec_gbRecordWrite true hw).trans (congrArg Host.Outcome.next (if_pos rfl)), gbAdvance_gb _, gbAdvance_seq _⟩

/-! ### GB_TOKEN_REFILL (R419) -/

theorem gbTokenRefill_gains (s : State) (cls : Fin 33) (hbelow : s.gbTokens cls < s.gbDepth cls)
    (hperiod : 0 < s.gbPeriod cls) (hdue : s.frc < (Assoc.find? s.gb.gained cls).getD 0 + s.gbPeriod cls) :
    Nexts (exec (.gbTokenRefill cls) s) (fun t => t.gbTokens cls = s.gbTokens cls + 1 ∧
      t.frc = (Assoc.find? s.gb.gained cls).getD 0 + s.gbPeriod cls) := by
  obtain ⟨due, hd⟩ : ∃ due, due = (Assoc.find? s.gb.gained cls).getD 0 + s.gbPeriod cls := ⟨_, rfl⟩
  have hmax : max s.frc due = due := by omega
  have hone : (due - (Assoc.find? s.gb.gained cls).getD 0) / s.gbPeriod cls = 1 := by
    rw [hd, Nat.add_sub_cancel_left, Nat.div_self hperiod]
  have hnext : exec (.gbTokenRefill cls) s = .next (({ s with frc := due } : State).gbGain cls) := by
    rw [← hmax, hd]
    exact if_pos hbelow
  have hmin : min (s.gbTokens cls + 1) (s.gbDepth cls) = s.gbTokens cls + 1 := Nat.min_eq_left hbelow
  have hgain : ({ s with frc := due } : State).gbGain cls =
      ((({ s with frc := due } : State).setGbTokens cls (s.gbTokens cls + 1)).setGbGained cls
        ((Assoc.find? s.gb.gained cls).getD 0 + 1 * s.gbPeriod cls)) := by
    rw [← hone]
    conv_rhs => rw [hone, ← hmin]
    rw [← hone]
    exact if_neg (Nat.not_le.2 hbelow)
  rw [hnext, nexts_next, ← hd, hgain, gbTokens_gained,
    gbTokens_set _ _ (.inl ((Nat.succ_le_of_lt hbelow).trans_lt (gbDepth_lt s cls)))]
  exact ⟨rfl, State.setGbTokens_frame (F := fun p => p != .frc) _ _ _ rfl (fr_self _ _) .frc rfl⟩

/-! ### CLEAR (R421) -/

/-- The Guestbook wakes for a write of its command register, and nothing else of it moves. -/
theorem access_gbCmd {s : State} {m : Master} (h : s.allows m .w32 true Reg.GB_CMD.addr) (k : State → State) :
    s.access m .w32 true Reg.GB_CMD.addr k = k ((s.wake .guestbook).answer 0) :=
  access_allows h k

theorem wakeGuestbook_rd (s : State) (f : Fld) : (s.wake .guestbook).rd f = s.rd f := by
  unfold State.rd
  rw [regs_wake_guestbook]

theorem wakeGuestbook_on (s : State) (f : Fld) : (s.wake .guestbook).on f = s.on f := by
  rw [State.on, wakeGuestbook_rd, State.on]

theorem gbCmdWrite_clear (s : State) : s.gbCmdWrite 0xA5000001 = s.gbClearCmd := if_pos ⟨by decide, by decide⟩

/-- A record on its way is finished before a clear. -/
def State.gbFinished (s : State) : State :=
  match s.gb.writing with
  | some r => { s with gb := { s.gb with writing := none } }.gbWrite r
  | none => s

theorem KeepsReg.gbFinished {a : Nat} {s t : State} (h : KeepsReg a s t) (ha : 0x2000120014 < a) :
    KeepsReg a s t.gbFinished := by
  unfold State.gbFinished
  split
  · refine KeepsReg.gbWrite ?_ _ ha
    exact h.of_eq rfl
  · exact h

/-- The counts of the old log are reset. -/
def State.gbReset (s : State) : State :=
  let t := ((s.wr Reg.GB_COUNT_COUNT 0).wr Reg.GB_LOST 0).wr Reg.GB_FIRST_LOST_CODE 0
  if t.on Reg.GB_STAT_SEQ_END then t else t.wr Reg.GB_STAT_FULL 0

theorem KeepsReg.gbReset {a : Nat} {s t : State} (h : KeepsReg a s t) (ha : 0x2000120014 < a) : KeepsReg a s t.gbReset := by
  have hzero : KeepsReg a s (((t.wr Reg.GB_COUNT_COUNT 0).wr Reg.GB_LOST 0).wr Reg.GB_FIRST_LOST_CODE 0) :=
    ((h.wr (g := Reg.GB_COUNT_COUNT) _ (by simp only [Reg.GB_COUNT_COUNT]; omega)).wr (g := Reg.GB_LOST) _
      (by simp only [Reg.GB_LOST]; omega)).wr (g := Reg.GB_FIRST_LOST_CODE) _ (by simp only [Reg.GB_FIRST_LOST_CODE]; omega)
  unfold State.gbReset
  dsimp only
  split_ifs
  · exact hzero
  · exact hzero.wr (g := Reg.GB_STAT_FULL) _ (by simp only [Reg.GB_STAT_FULL]; omega)

theorem gbEmpty_eq (s : State) : ∃ old, s.gbEmpty =
    { s.gbFinished.gbReset with gb := { s.gbFinished.gbReset.gb with records := [], clearing := some old } } :=
  ⟨_, rfl⟩

theorem gbClear_empties (s : State) (m : Master) (h : s.allows m .w32 true Reg.GB_CMD.addr)
    (hp : s.on Reg.SCN_STAT_FORCE_PERMIT = true) (hc : s.gb.clearing = none) : Nexts (exec (.gbClear m) s) (fun t =>
      t.gb.records = [] ∧ t.gb.clearing.isSome = true ∧ t.rd Reg.GB_CMD_STAT_STATUS = Sta.ok) := by
  have hpermit : ¬(!((s.wake .guestbook).answer 0).on Reg.SCN_STAT_FORCE_PERMIT) = true := by
    rw [answer_on, wakeGuestbook_on, hp]
    decide
  have hidle : ¬((s.wake .guestbook).answer 0).gb.clearing.isSome = true := by
    rw [answer_gb, wake_gb, hc]
    decide
  have hnext : exec (.gbClear m) s = .next _ := congrArg Host.Outcome.next ((access_gbCmd h _).trans ((gbCmdWrite_clear _).trans
    ((if_neg hpermit).trans (if_neg hidle))))
  obtain ⟨old, hempty⟩ :=
    gbEmpty_eq (((s.wake .guestbook).answer 0).cmdStat Reg.GB_CMD_STAT_STATUS Reg.GB_CMD_STAT_REASON 0)
  rw [hempty] at hnext
  refine ⟨_, hnext, rfl, rfl, ?_⟩
  have hkept := ((KeepsReg.self (s := ((s.wake .guestbook).answer 0).cmdStat Reg.GB_CMD_STAT_STATUS
    Reg.GB_CMD_STAT_REASON 0)).gbFinished (a := Reg.GB_CMD_STAT_STATUS.addr) (by decide)).gbReset (by decide)
  refine (KeepsReg.rd (f := Reg.GB_CMD_STAT_STATUS) (hkept.of_eq rfl)).trans ?_
  rw [State.cmdStat, rd_wr_bits _ _ _ _ (by decide) (by decide), rd_wr_self _ _ _ (by decide)]
  rfl

theorem gbClearComplete_ends (s : State) (lost first last : Nat) (hc : s.gb.clearing = some (lost, first, last)) :
    Nexts (exec .gbClearComplete s) (fun t => t.gb.clearing = none ∧ t.gb.queue = s.gb.queue) := by
  have hnext : ∃ r r', exec .gbClearComplete s =
      .next ((({ s with gb := { s.gb with clearing := none } } : State).gbWrite r).gbWrite r') := by
    show ∃ r r', execGbClearComplete s = _
    unfold execGbClearComplete
    rw [hc]
    exact ⟨_, _, rfl⟩
  obtain ⟨r, r', hnext⟩ := hnext
  obtain ⟨l, p, hgb⟩ := gbWrite_gb ({ s with gb := { s.gb with clearing := none } } : State) r
  obtain ⟨l', p', hgb'⟩ := gbWrite_gb (({ s with gb := { s.gb with clearing := none } } : State).gbWrite r) r'
  rw [hnext, nexts_next, hgb', hgb]
  exact ⟨rfl, rfl⟩

/-! ### Cursors (R422) -/

theorem gbCursorWrite_sets (s : State) (m : Master) (value : Word) (h : s.allows m .w32 true Reg.GB_CURSOR.addr) :
    Nexts (exec (.gbCursorWrite m value) s) (fun t => t.gb.cursors = Tab.put s.gb.cursors (masterId m) value) := by
  refine ⟨_, congrArg Host.Outcome.next (access_allows h _), ?_⟩
  rw [State.gbCursorWrite, answer_gb, show s.wakeAt Reg.GB_CURSOR.addr = s.wake .guestbook from rfl, wake_gb,
    BitVec.ofNat_toNat, BitVec.setWidth_eq]

end Sys2Proof.Machine
end

section
open Sys2Proof Sys2Proof.Machine

/-- Settles O15: the tokens gained are counted when the event is taken (R419, log 231). -/
theorem tokensLimitRecords : Obligations.TokensLimitRecords :=
  ⟨gbEvent_takes, gbEvent_suppresses, gbRecordWrite_carriesCount⟩

/-- Settles O46: each command where its checks pass (R419, log 12). -/
theorem guestbookCommandsComplete : Obligations.GuestbookCommandsComplete :=
  ⟨exec_gbEvent_anchor, gbEvent_merges, exec_gbEvent_rate, gbRecordWrite_writes, gbRecordWrite_cut, gbTokenRefill_gains,
    gbClear_empties, gbClearComplete_ends, gbCursorWrite_sets⟩

end

section
/-!
Accesses above the Solver's registers, and command registers with a status register (R516).
-/
namespace Sys2Proof.Machine

/-! ### What an access finds -/

/-- Where a wake-up is not the Solver's or the Loop Engine's it moves gates alone (R22). -/
theorem wake_gates (s : State) {u : GUnit} (hs : u ≠ .solver) (hl : u ≠ .loops) : ∃ g, s.wake u = { s with gates := g } := by
  have hshow : ∀ t : State, t.showPower u true = t := fun t => by
    unfold State.showPower
    split
    · exact absurd rfl hs
    · exact absurd rfl hl
    · rfl
  unfold State.wake
  dsimp only
  split_ifs
  · exact ⟨_, rfl⟩
  · exact ⟨_, rfl⟩
  · exact ⟨_, hshow _⟩
  · exact ⟨_, rfl⟩

theorem unitAt_beyond {a : Nat} (ha : 0x2000060000 ≤ a) : unitAt a ≠ some .solver ∧ unitAt a ≠ some .loops := by
  have hslv : unitOf a ≠ Un.slv := by simp only [unitOf, regBase, Un.slv]; omega
  have hloop : unitOf a ≠ Un.loop := by simp only [unitOf, regBase, Un.loop]; omega
  unfold unitAt
  dsimp only
  rw [if_neg hslv, if_neg hloop]
  constructor <;> split_ifs <;> simp

theorem wakeAt_gates (s : State) {a : Nat} (ha : 0x2000060000 ≤ a) : ∃ g, s.wakeAt a = { s with gates := g } := by
  obtain ⟨hslv, hloop⟩ := unitAt_beyond ha
  unfold State.wakeAt
  split
  · rename_i u hu
    exact wake_gates s (fun e => hslv (hu.trans (congrArg some e))) (fun e => hloop (hu.trans (congrArg some e)))
  · exact ⟨s.gates, rfl⟩

/-- The state in which a register does what it does: a unit may have been woken, and the access is answered. -/
def State.accessed (s : State) (g : List (Nat × Gate)) : State := { s with gates := g }.answer 0

theorem access_accessed {s : State} {m : Master} {w : Width} {b : Bool} {a : Nat} (h : s.allows m w b a)
    (ha : 0x2000060000 ≤ a) (k : State → State) : ∃ g, s.access m w b a k = k (s.accessed g) := by
  obtain ⟨g, hg⟩ := wakeAt_gates s ha
  exact ⟨g, by rw [access_allows h, hg]; rfl⟩

/-! ### Status registers -/

/-- A refused command shows its reason. -/
theorem cmdStat_refused (s : State) (a : Nat) {why : Nat} (hne : why ≠ 0) (hlt : why < 2 ^ 8) :
    (s.cmdStat ⟨a, 24, 8⟩ ⟨a, 0, 8⟩ why).rd ⟨a, 24, 8⟩ = Sta.busError ∧
      (s.cmdStat ⟨a, 24, 8⟩ ⟨a, 0, 8⟩ why).rd ⟨a, 0, 8⟩ = why := by
  unfold State.cmdStat
  refine ⟨?_, (rd_wr_self _ ⟨a, 0, 8⟩ why (Nat.le_of_ble_eq_true rfl)).trans (Nat.mod_eq_of_lt hlt)⟩
  rw [if_neg hne, rd_wr_bits _ ⟨a, 0, 8⟩ ⟨a, 24, 8⟩ _ (Nat.le_of_ble_eq_true rfl) (.inr (Nat.le_of_ble_eq_true rfl)),
    rd_wr_self _ ⟨a, 24, 8⟩ _ (Nat.le_of_ble_eq_true rfl)]
  rfl

/-- One that is taken shows OK. -/
theorem cmdStat_taken (s : State) (a : Nat) : (s.cmdStat ⟨a, 24, 8⟩ ⟨a, 0, 8⟩ 0).rd ⟨a, 24, 8⟩ = Sta.ok := by
  unfold State.cmdStat
  rw [if_pos rfl, rd_wr_bits _ ⟨a, 0, 8⟩ ⟨a, 24, 8⟩ _ (Nat.le_of_ble_eq_true rfl) (.inr (Nat.le_of_ble_eq_true rfl)),
    rd_wr_self _ ⟨a, 24, 8⟩ _ (Nat.le_of_ble_eq_true rfl)]
  rfl

/-- Beside its status register it moves nothing. -/
theorem cmdStat_gb (s : State) (f g : Fld) (why : Nat) : (s.cmdStat f g why).gb = s.gb := rfl

theorem cmdStat_nb (s : State) (f g : Fld) (why : Nat) : (s.cmdStat f g why).nb = s.nb := rfl

theorem cmdStat_resp (s : State) (f g : Fld) (why : Nat) : (s.cmdStat f g why).resp = s.resp := rfl

theorem KeepsReg.cmdStat {a : Nat} {s t : State} (h : KeepsReg a s t) {f g : Fld} (why : Nat) (hf : a ≠ f.addr)
    (hg : a ≠ g.addr) : KeepsReg a s (t.cmdStat f g why) :=
  (h.wr _ hf).wr _ hg

/-! ### Refused commands (R421, R470) -/

theorem gbClear_refused (s : State) (m : Master) (h : s.allows m .w32 true Reg.GB_CMD.addr)
    (hp : s.on Reg.SCN_STAT_FORCE_PERMIT = false) : Nexts (exec (.gbClear m) s) (fun t =>
      t.resp.status = Sta.ok ∧ t.rd Reg.GB_CMD_STAT_STATUS = Sta.busError ∧ t.rd Reg.GB_CMD_STAT_REASON = 1 ∧ t.gb = s.gb ∧
      t.fileAt Reg.SYS_BUSERR_STAT.addr = s.fileAt Reg.SYS_BUSERR_STAT.addr) := by
  obtain ⟨g, hg⟩ := access_accessed h (Nat.le_of_ble_eq_true rfl) (fun t => t.gbCmdWrite 0xA5000001)
  have hpermit : (!(s.accessed g).on Reg.SCN_STAT_FORCE_PERMIT) = true := by
    rw [show (s.accessed g).on Reg.SCN_STAT_FORCE_PERMIT = false from hp]
    rfl
  obtain ⟨hstatus, hreason⟩ := cmdStat_refused (s.accessed g) Reg.GB_CMD_STAT.addr (why := 1) (by decide) (by decide)
  refine ⟨(s.accessed g).cmdStat Reg.GB_CMD_STAT_STATUS Reg.GB_CMD_STAT_REASON 1,
    congrArg Host.Outcome.next (hg.trans ((gbCmdWrite_clear _).trans (if_pos hpermit))), ?_, hstatus, hreason,
    cmdStat_gb _ _ _ _, (KeepsReg.self (s := s.accessed g)).cmdStat 1 (by decide) (by decide)⟩
  rw [cmdStat_resp]
  rfl

/-- What the panel's command register tests of the word written. -/
theorem nbCmdWrite_key {s : State} {v : Nat} (hkey : bits v 24 8 = 0xA5) (h1 : 1 ≤ bits v 0 4) (h3 : bits v 0 4 ≤ 3)
    (hno : (!s.nbPanel || s.nbFault) = true) :
    s.nbCmdWrite v = s.cmdStat Reg.NB_CMD_STAT_STATUS Reg.NB_CMD_STAT_REASON 1 := by
  unfold State.nbCmdWrite
  dsimp only
  rw [if_neg (by omega), if_pos hno]

theorem nbPanel_ready {s : State} (hp : s.nbPanel = true) (hf : s.nbFault = false) : ¬(!s.nbPanel || s.nbFault) = true := by
  simp [hp, hf]

theorem nbCleanCmd_noPanel (s : State) (m : Master) (h : s.allows m .w32 true Reg.NB_CMD.addr) (hp : s.nbPanel = false) :
    Nexts (exec (.nbCleanCmd m) s) (fun t => t.resp.status = Sta.ok ∧ t.rd Reg.NB_CMD_STAT_STATUS = Sta.busError ∧
      t.rd Reg.NB_CMD_STAT_REASON = 1 ∧ t.nb = s.nb ∧
      t.fileAt Reg.SYS_BUSERR_STAT.addr = s.fileAt Reg.SYS_BUSERR_STAT.addr) := by
  obtain ⟨g, hg⟩ := access_accessed h (Nat.le_of_ble_eq_true rfl) (fun t => t.nbCmdWrite 0xA5000001)
  have hno : (!(s.accessed g).nbPanel || (s.accessed g).nbFault) = true := by
    rw [show (s.accessed g).nbPanel = false from hp]
    rfl
  obtain ⟨hstatus, hreason⟩ := cmdStat_refused (s.accessed g) Reg.NB_CMD_STAT.addr (why := 1) (by decide) (by decide)
  refine ⟨_, congrArg Host.Outcome.next (hg.trans (nbCmdWrite_key (by decide) (by decide) (by decide) hno)), ?_, hstatus,
    hreason, cmdStat_nb _ _ _ _, (KeepsReg.self (s := s.accessed g)).cmdStat 1 (by decide) (by decide)⟩
  rw [cmdStat_resp]
  rfl

theorem nbCmdWrite_cleaning {s : State} (hp : s.nbPanel = true) (hf : s.nbFault = false) (hc : s.nb.cleanCmd = true) :
    s.nbCmdWrite 0xA5000001 = s.cmdStat Reg.NB_CMD_STAT_STATUS Reg.NB_CMD_STAT_REASON 2 := by
  unfold State.nbCmdWrite
  dsimp only
  rw [if_neg (by decide), if_neg (nbPanel_ready hp hf), if_pos (by decide), if_pos hc]

theorem nbCleanCmd_second (s : State) (m : Master) (h : s.allows m .w32 true Reg.NB_CMD.addr) (hp : s.nbPanel = true)
    (hf : s.nbFault = false) (hc : s.nb.cleanCmd = true) : Nexts (exec (.nbCleanCmd m) s) (fun t =>
      t.resp.status = Sta.ok ∧ t.rd Reg.NB_CMD_STAT_STATUS = Sta.busError ∧ t.rd Reg.NB_CMD_STAT_REASON = 2 ∧
      t.nb = s.nb) := by
  obtain ⟨g, hg⟩ := access_accessed h (Nat.le_of_ble_eq_true rfl) (fun t => t.nbCmdWrite 0xA5000001)
  obtain ⟨hstatus, hreason⟩ := cmdStat_refused (s.accessed g) Reg.NB_CMD_STAT.addr (why := 2) (by decide) (by decide)
  refine ⟨_, congrArg Host.Outcome.next (hg.trans (nbCmdWrite_cleaning (s := s.accessed g) hp hf hc)), ?_, hstatus, hreason,
    cmdStat_nb _ _ _ _⟩
  rw [cmdStat_resp]
  rfl

theorem nbCmdWrite_refreshing {s : State} (hp : s.nbPanel = true) (hf : s.nbFault = false)
    (hr : s.on Reg.NB_STAT_REFRESH_DUE = true) :
    s.nbCmdWrite 0xA5000002 = s.cmdStat Reg.NB_CMD_STAT_STATUS Reg.NB_CMD_STAT_REASON 2 := by
  unfold State.nbCmdWrite
  dsimp only
  rw [if_neg (by decide), if_neg (nbPanel_ready hp hf), if_neg (by decide), if_pos (by decide), if_pos hr]

theorem nbRefreshCmd_second (s : State) (m : Master) (h : s.allows m .w32 true Reg.NB_CMD.addr) (hp : s.nbPanel = true)
    (hf : s.nbFault = false) (hr : s.on Reg.NB_STAT_REFRESH_DUE = true) : Nexts (exec (.nbRefreshCmd m) s) (fun t =>
      t.resp.status = Sta.ok ∧ t.rd Reg.NB_CMD_STAT_STATUS = Sta.busError ∧ t.rd Reg.NB_CMD_STAT_REASON = 2 ∧
      t.nb = s.nb) := by
  obtain ⟨g, hg⟩ := access_accessed h (Nat.le_of_ble_eq_true rfl) (fun t => t.nbCmdWrite 0xA5000002)
  obtain ⟨hstatus, hreason⟩ := cmdStat_refused (s.accessed g) Reg.NB_CMD_STAT.addr (why := 2) (by decide) (by decide)
  refine ⟨_, congrArg Host.Outcome.next (hg.trans (nbCmdWrite_refreshing (s := s.accessed g) hp hf hr)), ?_, hstatus, hreason,
    cmdStat_nb _ _ _ _⟩
  rw [cmdStat_resp]
  rfl

end Sys2Proof.Machine
end

section
open Sys2Proof Sys2Proof.Machine

/-- Settles O17: the refusal is shown in the status register, and the access itself is answered OK (log 121). -/
theorem commandsAreRefusedInTheirStatusRegister : Obligations.CommandsAreRefusedInTheirStatusRegister :=
  ⟨gbClear_refused, nbCleanCmd_noPanel, nbCleanCmd_second, nbRefreshCmd_second⟩

end

section
/-!
The front LEDs (R508): what each shows of the state.
-/
namespace Sys2Proof.Machine

theorem led_unpowered (s : State) (l : Led) (h : s.power.mainOn = false) : s.led l = .off := by
  unfold State.led
  rw [if_pos (by simp [h])]

/-- With main power each LED shows its part of the state. -/
theorem led_powered {s : State} (h : s.power.mainOn = true) (l : Led) : s.led l = match l with
    | .pwr => s.ledPwr
    | .mode => s.ledMode
    | .role => s.ledRole
    | .safe => s.ledSafe
    | .lane0 => s.ledLane Reg.BAN_STAT_LANE0_UP
    | .lane1 => s.ledLane Reg.BAN_STAT_LANE1_UP
    | .fault => s.ledFault
    | .key => s.ledKey := by
  unfold State.led
  rw [if_neg (by simp [h])] <;> rfl

theorem ledPwr_supplied {s : State} (h : s.on Reg.PWR_STAT_PF_WARN = false) : s.ledPwr =
    if s.on Reg.PWR_STAT_IN_A = true ∧ s.on Reg.PWR_STAT_IN_B = true ∧ s.on Reg.PWR_STAT_DIP = false then .green
    else .amber := by
  unfold State.ledPwr
  rw [if_neg (by simp [h])]
  simp [and_assoc]

theorem ledMode_locked {s : State} (h : s.locked = true) : s.ledMode =
    if s.rd Reg.SCN_STAT_MODE = modeRun then .green else if s.rd Reg.SCN_STAT_MODE = modeHold then .amberFlash
    else .amber := by
  have hstate : s.rd Reg.FPL_STAT_STATE = 3 := by simpa [State.locked] using h
  unfold State.ledMode
  rw [if_neg (by omega), if_neg (by simp [h])]
  rfl

theorem ledRole_control {s : State} (h : s.role = roleSingle ∨ s.role = roleAlone ∨ s.role = roleActive) :
    s.ledRole = .green := by
  unfold State.ledRole
  obtain h | h | h := h <;> rw [h] <;> rfl

/-- In each other role the LED shows that role alone. -/
theorem ledRole_other (s : State) :
    (s.role = roleStandby → s.ledRole = .greenFlash) ∧ (s.role = roleCold → s.ledRole = .amber) ∧
      (s.role = roleIsolated → s.ledRole = .amberFlash) ∧ (s.role = roleFailed → s.ledRole = .red) := by
  unfold State.ledRole
  refine ⟨fun h => ?_, fun h => ?_, fun h => ?_, fun h => ?_⟩ <;> rw [h] <;> rfl

theorem ledLane_eq (s : State) (up : Fld) :
    s.ledLane up = if s.on up = true ∧ s.role ≠ roleSingle then .green else .off := by
  unfold State.ledLane
  exact if_congr and_comm rfl rfl

/-- A refused key action is told, and the front keys stay as they are. -/
theorem keyMenu_noPanel {s : State} (k c : Fin 8) (span : Bool) (hrun : s.power.running = true) (hm : s.keyMaint = true)
    (hk : s.key = none) (hp : s.nbPanel = false) : exec (.keyMenu k c span) s =
      .next (({ s with keyRefused := some s.frc } : State).post (islSource k) 0x0B2A (8 * k + c) 1 0) := by
  show execKeyMenu k c span s = _
  unfold execKeyMenu
  dsimp only
  rw [if_neg (by simp [hrun, hm, hk]), if_pos (by simp [hp])]

/-- A refusal shows for as long as three flashes take. -/
theorem ledKey_refused {s : State} {n : Nat} (h : s.keyRefused = some n) (hnow : s.frc < n + 1500000000) :
    s.ledKey = .amberFlash := by
  unfold State.ledKey
  rw [h, Option.any_some, decide_eq_true hnow, if_pos rfl]

/-- It shows at once, recorded as it is. -/
theorem led_key_post {s : State} (hmain : s.power.mainOn = true) (h : s.keyRefused = some s.frc)
    (source code p1 p2 p3 : Nat) : (s.post source code p1 p2 p3).led .key = .amberFlash := by
  have hmain' : (s.post source code p1 p2 p3).power.mainOn = true := by rw [post_power, hmain]
  have hnow : (s.post source code p1 p2 p3).frc < s.frc + 1500000000 := by
    rw [post_frc]
    exact Nat.lt_add_of_pos_right (by decide)
  exact (led_powered hmain' .key).trans (ledKey_refused ((post_keyRefused _ _ _ _ _ _).trans h) hnow)

theorem keyMenu_flashes (s : State) (k c : Fin 8) (span : Bool) (hrun : s.power.running = true)
    (hmain : s.power.mainOn = true) (hm : s.keyMaint = true) (hk : s.key = none) (hp : s.nbPanel = false) :
    Nexts (exec (.keyMenu k c span) s) (fun t => t.led .key = .amberFlash ∧ t.key = none) := by
  refine ⟨_, keyMenu_noPanel k c span hrun hm hk hp, ?_, (post_key _ _ _ _ _ _).trans hk⟩
  apply led_key_post
  · exact hmain
  · rfl

end Sys2Proof.Machine
end

section
open Sys2Proof Sys2Proof.Machine

/-- Settles O19: the LEDs are read off the state; SAFE, FAULT and the other shows of KEY are not spoken of (log 211). -/
theorem frontLedsShow : Obligations.FrontLedsShow := by
  refine ⟨led_unpowered, fun s h => ?_, keyMenu_flashes⟩
  obtain ⟨hstandby, hcold, hisolated, hfailed⟩ := ledRole_other s
  simp only [led_powered h]
  exact ⟨fun hw => if_pos hw, ledPwr_supplied, fun hs => if_pos hs, ledMode_locked, ledRole_control, hstandby, hcold,
    hisolated, hfailed, ledLane_eq s _, ledLane_eq s _⟩

end

section
/-!
Grants of the Rounds (R426, R427, R433) and the samples of the wear monitors (R434 to R436).
-/
namespace Sys2Proof.Machine

/-! ### Grants -/

theorem rndExpire_frc (s : State) : s.rndExpire.frc = s.frc := rfl

theorem rndExpire_grants (s : State) :
    s.rndExpire.rnd.grants = s.rnd.grants.filter (fun g => decide (s.frc < g.until_)) := rfl

/-- A grant that is issued stands behind those that are open, and nothing else of the Rounds moves. -/
theorem rndIssue_rnd (s : State) {us : Nat} (h : us ≠ 0) (until_ : Nat) :
    (s.rndIssue us until_).rnd = { s.rnd with grants := s.rnd.grants ++ [{ left := us, until_ }] } := by
  unfold State.rndIssue
  rw [if_neg h]
  dsimp only
  rw [wake_rnd]

theorem rndIssue_frc (s : State) (us until_ : Nat) : (s.rndIssue us until_).frc = s.frc :=
  State.rndIssue_frame (F := fun p => p != .frc) s us until_ rfl (fr_self _ s) .frc rfl

/-- In STOP the Rounds come to their next stop grant. -/
def State.rndStopAt (s : State) (n : Nat) : State := { s with frc := n, rnd := { s.rnd with stopAt := some n } }

theorem exec_rndStopGrant {s : State} {up : Nat} (hrun : s.power.running = true) (hmode : s.rd Reg.SCN_STAT_MODE = 0)
    (hpaused : s.rd Reg.RND_STAT_PAUSED = 0) (hup : up = (s.frc + 999999) / 1000000 * 1000000) :
    exec .rndStopGrant s = .next (let n := if s.rnd.stopAt = some up then up + 1000000 else up
      (s.rndStopAt n).rndExpire.rndIssue 200 (n + 1000000)) := by
  subst hup
  exact if_pos ⟨hrun, hmode, hpaused⟩

/-- What the grant at an instant leaves. -/
theorem rndStopAt_grants (s : State) (n : Nat) :
    ((s.rndStopAt n).rndExpire.rndIssue 200 (n + 1000000)).frc = n ∧
      ((s.rndStopAt n).rndExpire.rndIssue 200 (n + 1000000)).rnd.stopAt = some n ∧
      ((s.rndStopAt n).rndExpire.rndIssue 200 (n + 1000000)).rnd.grants =
        s.rnd.grants.filter (fun g => decide (n < g.until_)) ++ [{ left := 200, until_ := n + 1000000 }] := by
  rw [rndIssue_frc, rndIssue_rnd _ (by decide)]
  exact ⟨rfl, rfl, rfl⟩

theorem rndStopGrant_first (s : State) (up : Nat) (hrun : s.power.running = true) (hmode : s.rd Reg.SCN_STAT_MODE = 0)
    (hpaused : s.rd Reg.RND_STAT_PAUSED = 0) (hup : up = (s.frc + 999999) / 1000000 * 1000000)
    (hlast : s.rnd.stopAt ≠ some up) : Nexts (exec .rndStopGrant s) (fun t => t.frc = up ∧ t.rnd.stopAt = some up ∧
      t.rnd.grants = s.rnd.grants.filter (fun g => decide (up < g.until_)) ++
        [{ left := 200, until_ := up + 1000000 }]) := by
  rw [exec_rndStopGrant hrun hmode hpaused hup, nexts_next, if_neg hlast]
  exact rndStopAt_grants s up

theorem rndStopGrant_next (s : State) (up : Nat) (hrun : s.power.running = true) (hmode : s.rd Reg.SCN_STAT_MODE = 0)
    (hpaused : s.rd Reg.RND_STAT_PAUSED = 0) (hup : up = (s.frc + 999999) / 1000000 * 1000000)
    (hlast : s.rnd.stopAt = some up) : Nexts (exec .rndStopGrant s) (fun t => t.frc = up + 1000000 ∧
      t.rnd.stopAt = some (up + 1000000) ∧
      t.rnd.grants = s.rnd.grants.filter (fun g => decide (up + 1000000 < g.until_)) ++
        [{ left := 200, until_ := up + 2000000 }]) := by
  have hshut : up + 2000000 = up + 1000000 + 1000000 := by omega
  rw [exec_rndStopGrant hrun hmode hpaused hup, nexts_next, if_pos hlast, hshut]
  exact rndStopAt_grants s (up + 1000000)

theorem rndGrantClose_closes (s : State) (g : RndGrant) (l : List RndGrant) (h : s.rnd.grants = g :: l) :
    Nexts (exec .rndGrantClose s) (fun t => t.frc = max s.frc g.until_ ∧
      t.rnd.grants = s.rnd.grants.filter (fun x => decide (t.frc < x.until_))) := by
  have hnext : exec .rndGrantClose s = .next ({ s with frc := max s.frc g.until_ } : State).rndExpire := by
    show execRndGrantClose s = _
    rw [execRndGrantClose, h]
  exact ⟨_, hnext, rfl, rfl⟩

/-! ### A late pass (R433) -/

/-- The pass is found late. -/
def State.rndLate (s : State) (limit : Nat) : State :=
  let t := (s.wr Reg.RND_STAT_LATE 1).post Un.rnd 0x1103 (s.rd Reg.RND_STAT_ITEM) (s.rd Reg.RND_STAT_PROGRESS) limit
  { t with rnd := { t.rnd with late := true } }

theorem rndLate_shown (s : State) (limit : Nat) : (s.rndLate limit).on Reg.RND_STAT_LATE = true := by
  refine (on_post (s.wr Reg.RND_STAT_LATE 1) _ _ _ _ _ Reg.RND_STAT_LATE (by decide)).trans ?_
  exact on_wr_self s Reg.RND_STAT_LATE 1 (by decide)

theorem rndPassLate_told (s : State) (hrun : s.power.running = true) (hlimit : s.rd Reg.RND_CTRL_LIMIT_H ≠ 0)
    (hlate : s.rnd.late = false) : Nexts (exec .rndPassLate s) (fun t => t.on Reg.RND_STAT_LATE = true ∧
      t.rnd.late = true ∧ t.frc = (s.waitOp (s.rnd.startAt + s.rd Reg.RND_CTRL_LIMIT_H * 3600 * 1024 + 1)).frc) := by
  refine ⟨(s.waitOp (s.rnd.startAt + s.rd Reg.RND_CTRL_LIMIT_H * 3600 * 1024 + 1)).rndLate (s.rd Reg.RND_CTRL_LIMIT_H),
    if_pos ⟨hrun, hlimit, by simp [hlate]⟩, rndLate_shown _ _, rfl, post_frc _ _ _ _ _ _⟩

/-! ### Wear samples (R434 to R436) -/

/-- What a wear prediction leaves: the number of the sampling period, the drift in it, and the FRC. -/
structure WearKeeps (s t : State) : Prop where
  period : t.wear.period = s.wear.period
  drift : t.wear.drift = s.wear.drift
  frc : t.frc = s.frc

namespace WearKeeps
variable {s t u : State}

theorem self : WearKeeps s s := ⟨rfl, rfl, rfl⟩

theorem trans (h : WearKeeps s t) (h' : WearKeeps t u) : WearKeeps s u :=
  ⟨h'.period.trans h.period, h'.drift.trans h.drift, h'.frc.trans h.frc⟩

/-- What leaves the wear monitors and the FRC leaves these. -/
theorem of_eq (h : WearKeeps s t) (ew : u.wear = t.wear) (ef : u.frc = t.frc) : WearKeeps s u :=
  h.trans ⟨by rw [ew], by rw [ew], ef⟩

theorem wr (h : WearKeeps s t) (f : Fld) (v : Nat) : WearKeeps s (t.wr f v) := h.of_eq rfl rfl

theorem post (h : WearKeeps s t) (source code p1 p2 p3 : Nat) : WearKeeps s (t.post source code p1 p2 p3) :=
  h.of_eq (post_wear _ _ _ _ _ _) (post_frc _ _ _ _ _ _)

theorem wearShow (h : WearKeeps s t) (i : Nat) : WearKeeps s (t.wearShow i) := by
  unfold State.wearShow
  extract_lets p warnH warn u v q w x y
  have hv : WearKeeps s v := (((h.wr _ _).wr _ _).wr _ _).wr _ _
  have hw : WearKeeps s w := by
    simp only [w]
    split_ifs
    · exact hv.post _ _ _ _ _
    · exact hv
  have hx : WearKeeps s x := by
    simp only [x]
    split_ifs
    · exact hw.post _ _ _ _ _
    · exact hw
  by_cases hused : (!t.wearUsed i) = true
  · rw [if_pos hused]
    exact (h.wr _ _).wr _ _
  · rw [if_neg hused]
    exact hx.trans ⟨rfl, rfl, rfl⟩

theorem wearStore (h : WearKeeps s t) (i : Nat) : WearKeeps s (t.wearStore i) := by
  unfold State.wearStore
  refine wearShow ?_ i
  exact h.trans ⟨rfl, rfl, rfl⟩

theorem foldl {α : Type} {l : List α} {f : State → α → State} (hf : ∀ x t, WearKeeps s t → WearKeeps s (f t x))
    (h : WearKeeps s t) : WearKeeps s (l.foldl f t) :=
  List.foldlRecOn l f h fun t ht x _ => hf x t ht

end WearKeeps

/-- What the indicators show is no part of the drift. -/
theorem driftMean_setWearQ (s : State) (i v : Nat) : (s.setWearQ i v).driftMean = s.driftMean := rfl

theorem exec_wearSample (s : State) (mram flash : Nat) (hrun : s.power.running = true) :
    exec (.wearSample mram flash) s = .next (
      let n := max (s.wear.period + 1) (s.opTime / 36864000)
      let u := (s.waitOp (n * 36864000)).driftCount
      let v := (u.setWearQ 0xC0 (u.wearQ 0xC0 + mram)).setWearQ 0xC1 flash
      let w := match u.driftMean with
        | some x => v.setWearQ 0xC5 x
        | none => v
      let w : State := { w with wear := { w.wear with period := n, drift := (0, 0) } }
      (((List.range 0xC6).filter (fun i => i != 0xC2 && (i != 0xC5 || u.driftMean.isSome))).foldl
        (fun (s : State) i => s.wearStore i) w).wearSummary) := by
  show execWearSample mram flash s = _
  unfold execWearSample
  rw [if_neg (by simp [hrun])]
  dsimp only
  rw [driftMean_setWearQ, driftMean_setWearQ] <;> rfl

/-- What the samples of a period are formed from: the counts told, and the drift where there is a mean. -/
def State.wearMeasured (s : State) (mram flash n : Nat) : State :=
  let u := (s.waitOp (n * 36864000)).driftCount
  let v := (u.setWearQ 0xC0 (u.wearQ 0xC0 + mram)).setWearQ 0xC1 flash
  match u.driftMean with
  | some x => v.setWearQ 0xC5 x
  | none => v

theorem wearMeasured_frc (s : State) (mram flash n : Nat) :
    (s.wearMeasured mram flash n).frc = (s.waitOp (n * 36864000)).frc := by
  unfold State.wearMeasured
  dsimp only
  split <;> rfl

/-- The samples of the indicators that are due. -/
def State.wearSampled (s : State) (n : Nat) (l : List Nat) : State :=
  (l.foldl (fun (s : State) i => s.wearStore i)
    { s with wear := { s.wear with period := n, drift := (0, 0) } }).wearSummary

theorem wearSampled_shows (s : State) (n : Nat) (l : List Nat) : (s.wearSampled n l).wear.period = n ∧
    (s.wearSampled n l).wear.drift = (0, 0) ∧ (s.wearSampled n l).frc = s.frc := by
  obtain ⟨hperiod, hdrift, hfrc⟩ :=
    (WearKeeps.self (s := { s with wear := { s.wear with period := n, drift := (0, 0) } })).foldl (l := l)
      (f := fun s i => s.wearStore i) (fun i _ ht => ht.wearStore i)
  exact ⟨hperiod, hdrift, hfrc⟩

theorem wearSample_period (s : State) (mram flash : Nat) (hrun : s.power.running = true) :
    Nexts (exec (.wearSample mram flash) s) (fun t =>
      t.wear.period = max (s.wear.period + 1) (s.opTime / 36864000) ∧ t.wear.drift = (0, 0) ∧
      t.frc = (s.waitOp (t.wear.period * 36864000)).frc) := by
  obtain ⟨n, hn⟩ : ∃ n, n = max (s.wear.period + 1) (s.opTime / 36864000) := ⟨_, rfl⟩
  have hnext := exec_wearSample s mram flash hrun
  rw [← hn] at hnext ⊢
  obtain ⟨hperiod, hdrift, hfrc⟩ := wearSampled_shows (s.wearMeasured mram flash n) n
    ((List.range 0xC6).filter (fun i => i != 0xC2 &&
      (i != 0xC5 || (s.waitOp (n * 36864000)).driftCount.driftMean.isSome)))
  refine ⟨_, hnext, hperiod, hdrift, hfrc.trans ((wearMeasured_frc s mram flash n).trans ?_)⟩
  exact (congrArg (fun i => (s.waitOp (i * 36864000)).frc) hperiod).symm

theorem exec_thermalStressUpdate (s u : State) (hrun : s.power.running = true)
    (hu : u = { s with frc := max s.frc (s.rnd.heatAt + 1000000000)
                       rnd := { s.rnd with heatAt := max s.frc (s.rnd.heatAt + 1000000000) } }) :
    exec .thermalStressUpdate s =
      .next (((List.range 64).filter (fun n => persAo (u.chPers (n / 8) (n % 8)))).foldl
        (fun (s : State) n => s.wearStress n) u) := by
  subst hu
  exact if_pos hrun

end Sys2Proof.Machine
end

section
/-!
A step of the Rounds that comes over an hour of operation (R428, R432): the hour at which an item is whole is that of the
step, which begins when the step before it has ended (log 176).
-/
namespace Sys2Proof.Machine

/-- A module one nanosecond before its first hour of operation is over, with a step of the Rounds that ends then, and one
microsecond of the first item to do. -/
def beforeTheHour : State :=
  { State.reset with
    power := { State.reset.power with running := true }
    frc := 3599999999999
    rnd := { grants := [{ left := 5, until_ := 4000000000000 }], work := [(0, 199999999)], freeAt := 3600000000000 } }

/-- The same at the end of that step. -/
def onTheHour : State := ({ beforeTheHour with frc := max beforeTheHour.frc beforeTheHour.rnd.freeAt } : State).rndExpire

theorem beforeTheHour_hours : beforeTheHour.hours = 0 := by decide +kernel

/-- What the step needs: a grant with room, and an item that it makes whole. -/
theorem onTheHour_ready : onTheHour.rnd.grants = [{ left := 5, until_ := 4000000000000 }] ∧ onTheHour.rndWake 0 = 0 ∧
    onTheHour.frc + 1000 ≤ 4000000000000 ∧ onTheHour.rndNext.head? = some 0 ∧ onTheHour.rndMay 0 = true ∧
    onTheHour.rndWork 0 ≤ onTheHour.rnd.workOf 0 + 1 ∧ onTheHour.rnd.ended.contains 0 = false := by decide +kernel

/-- The hour that the step notes for its item. -/
def notedHour (a : Answer) : Nat :=
  match a with
  | .next t => t.rd (Reg.RND_ITEM_T 0)
  | _ => 0

theorem rndStep_notes_hour : notedHour (exec (.rndStep 0 1 .pass) beforeTheHour) = 1 := by decide +kernel

end Sys2Proof.Machine
end

section
open Sys2Proof Sys2Proof.Machine

/-- Settles O48: grants come as commands (log 12); what is not open when a grant is given has left. -/
theorem roundsGrantsComplete : Obligations.RoundsGrantsComplete :=
  ⟨rndStopGrant_first, rndStopGrant_next, rndGrantClose_closes, rndPassLate_told⟩

/-- Refutes O49: its third clause has the item note the hour of the command, while the step begins when the one before it
has ended (log 176) and notes the hour of that instant. `beforeTheHour` comes to the step in hour 0, and the step begins
and is noted in hour 1. -/
theorem not_roundsStepsComplete : ¬ Obligations.RoundsStepsComplete := by
  unfold Obligations.RoundsStepsComplete
  rintro ⟨-, -, hwhole⟩
  obtain ⟨hgrants, hwake, hroom, hnext, hmay, hwork, hended⟩ := onTheHour_ready
  obtain ⟨t, ht, -, hhour⟩ := hwhole beforeTheHour 0 1 onTheHour { left := 5, until_ := 4000000000000 } [] 1 rfl
    (by decide +kernel) rfl hgrants (congrArg (1 + ·) hwake).symm (by decide) (by decide) hroom hnext hmay hwork hended
  have hnoted := rndStep_notes_hour
  rw [ht] at hnoted
  rw [beforeTheHour_hours, Nat.zero_mod] at hhour
  have hone : t.rd (Reg.RND_ITEM_T 0) = 1 := hnoted
  exact absurd (hone.symm.trans hhour) (by decide)

/-- Settles O50: the sample's numbers are operands (log 12). -/
theorem wearCommandsComplete : Obligations.WearCommandsComplete :=
  ⟨exec_wearSample, wearSample_period, exec_thermalStressUpdate⟩

end

section
/-!
Fields that an operation leaves as they were, where it writes other fields of their register.
-/
namespace Sys2Proof.Machine

/-- From one state to another a field is left as it was. -/
def KeepsFld (f : Fld) (s t : State) : Prop := t.rd f = s.rd f

namespace KeepsFld
variable {f : Fld} {s t u : State}

theorem self : KeepsFld f s s := rfl

theorem trans (h : KeepsFld f s t) (h' : KeepsFld f t u) : KeepsFld f s u := Eq.trans h' h

theorem rd (h : KeepsFld f s t) : t.rd f = s.rd f := h

theorem of_reg (h : KeepsFld f s t) (h' : KeepsReg f.addr t u) : KeepsFld f s u := h.trans h'.rd

theorem of_eq (h : KeepsFld f s t) (e : u.regs = t.regs) : KeepsFld f s u := h.of_reg (.of_regs e)

/-- A write of another register. -/
theorem wr (h : KeepsFld f s t) {g : Fld} (v : Nat) (hne : f.addr ≠ g.addr) : KeepsFld f s (t.wr g v) :=
  h.trans (rd_wr_addr t g f v hne)

/-- A write of other bits, in this register or another. -/
theorem wrBits (h : KeepsFld f s t) {g : Fld} (v : Nat) (hg : Nat.ble (g.lo + g.width) 32 = true)
    (hd : (Nat.ble (f.lo + f.width) g.lo || Nat.ble (g.lo + g.width) f.lo) = true) : KeepsFld f s (t.wr g v) := by
  refine h.trans (rd_wr_bits t g f v (Nat.le_of_ble_eq_true hg) ?_)
  obtain hd | hd := Bool.or_eq_true_iff.1 hd
  · exact .inl (Nat.le_of_ble_eq_true hd)
  · exact .inr (Nat.le_of_ble_eq_true hd)

theorem post (h : KeepsFld f s t) (source code p1 p2 p3 : Nat) (ha : unitOf f.addr ≠ Un.gb) :
    KeepsFld f s (t.post source code p1 p2 p3) :=
  h.trans (rd_post _ _ _ _ _ _ _ ha)

theorem on (h : KeepsFld f s t) : t.on f = s.on f := by rw [State.on, show t.rd f = s.rd f from h, State.on]

end KeepsFld

/-- A write of a field that fits. -/
theorem rd_wr_fits (s : State) (f : Fld) {v : Nat} (hf : Nat.ble (f.lo + f.width) 32 = true) (hv : v < 2 ^ f.width) :
    (s.wr f v).rd f = v :=
  (rd_wr_self s f v (Nat.le_of_ble_eq_true hf)).trans (Nat.mod_eq_of_lt hv)

end Sys2Proof.Machine
end

section
/-!
The Noticeboard's updates and commands, its frames, and its rails (R459 to R471).
-/
namespace Sys2Proof.Machine

/-! ### Updates (R461 to R463) -/

/-- CMDQ holds another descriptor than those in hand, and fewer than eight are. -/
theorem nbUpdateTake_due {s : State} {q : Nat} (h8 : s.nb.upds.length < 8)
    (hwait : s.nb.upds.length < s.queWaiting q) (hbusy : s.nbBusy = false) (hwarn : s.on Reg.PWR_STAT_PF_WARN = false) :
    ¬(s.queWaiting q ≤ s.nb.upds.length ∨ 8 ≤ s.nb.upds.length ∨ s.nbBusy = true ∨ s.on Reg.PWR_STAT_PF_WARN = true) := by
  simp only [hbusy, hwarn, Bool.false_eq_true, or_false]
  omega

theorem exec_nbUpdateTake_refused (s : State) (q st d : Nat) (hq : s.nbCmdq = some q) (h8 : s.nb.upds.length < 8)
    (hwait : s.nb.upds.length < s.queWaiting q) (hbusy : s.nbBusy = false) (hwarn : s.on Reg.PWR_STAT_PF_WARN = false)
    (hcheck : s.nbCheck (s.bytes (s.entryAddr q (s.queDi q + s.nb.upds.length)) 64) = some (st, d)) :
    exec .nbUpdateTake s = .next (
      let e := s.bytes (s.entryAddr q (s.queDi q + s.nb.upds.length)) 64
      let u : State := { s with nb := { s.nb with nextUpd := s.nb.nextUpd + 1
                                                  upds := s.nb.upds ++ [{ no := s.nb.nextUpd, refused := some (st, d) }] } }
      (u.post Un.nb 0x1301 d (le e 0x18 4) (le e 1 1)).nbCompletions false 8) := by
  have hcheck' : ({ s with nb := { s.nb with nextUpd := s.nb.nextUpd + 1 } } : State).nbCheck
    (s.bytes (s.entryAddr q (s.queDi q + s.nb.upds.length)) 64) = some (st, d) := hcheck
  show execNbUpdateTake s = _
  unfold execNbUpdateTake
  rw [hq]
  dsimp only
  rw [if_neg (nbUpdateTake_due h8 hwait hbusy hwarn), hcheck']

theorem nbUpdateTake_clean (s : State) (q : Nat) (hq : s.nbCmdq = some q) (h8 : s.nb.upds.length < 8)
    (hwait : s.nb.upds.length < s.queWaiting q) (hbusy : s.nbBusy = false) (hwarn : s.on Reg.PWR_STAT_PF_WARN = false)
    (hcheck : s.nbCheck (s.bytes (s.entryAddr q (s.queDi q + s.nb.upds.length)) 64) = none)
    (hmode : le (s.bytes (s.entryAddr q (s.queDi q + s.nb.upds.length)) 64) 1 1 = 3) :
    Nexts (exec .nbUpdateTake s) (fun t => t.nb.nextUpd = s.nb.nextUpd + 1 ∧
      t.nb.upds = s.nb.upds ++ [{ no := s.nb.nextUpd, clean := true }]) := by
  have hcheck' : ({ s with nb := { s.nb with nextUpd := s.nb.nextUpd + 1 } } : State).nbCheck
    (s.bytes (s.entryAddr q (s.queDi q + s.nb.upds.length)) 64) = none := hcheck
  have hkeeps : ∀ t : State, t.nbState.nb = t.nb := fun t =>
    State.nbState_frame (F := fun p => p != .nb) t rfl (fr_self _ t) .nb rfl
  show Nexts (execNbUpdateTake s) _
  unfold execNbUpdateTake
  rw [hq]
  dsimp only
  rw [if_neg (nbUpdateTake_due h8 hwait hbusy hwarn), hcheck']
  dsimp only
  rw [if_pos hmode, nexts_next, hkeeps]
  exact ⟨rfl, rfl⟩

theorem exec_nbUpdateTake_area (s : State) (q no : Nat) (b : List Byte) (hq : s.nbCmdq = some q)
    (h8 : s.nb.upds.length < 8) (hwait : s.nb.upds.length < s.queWaiting q) (hbusy : s.nbBusy = false)
    (hwarn : s.on Reg.PWR_STAT_PF_WARN = false)
    (hb : b = s.bytes (s.entryAddr q (s.queDi q + s.nb.upds.length)) 64) (hno : no = s.nb.nextUpd)
    (hcheck : s.nbCheck b = none) (hmode : le b 1 1 ≠ 3) : exec .nbUpdateTake s = .next (
      let u : State := { s with nb := { s.nb with nextUpd := no + 1, upds := s.nb.upds ++ [{ no }] } }
      ((rectKeys 0 0 (le b 8 2) (le b 0xA 2)).foldl (fun (u : State) k =>
        u.nbTarget (pixKey (le b 4 2 + k % 1024) (le b 6 2 + k / 1024))
          (bits (u.byte (le b 0x10 8 + k / 1024 * le b 0xC 2 + k % 1024 / 2)).toNat (4 * (k % 1024 % 2)) 4)
          (le b 1 1 == 2) no) u
        |>.nbCompletions false 8).nbState) := by
  subst hb hno
  have hcheck' : ({ s with nb := { s.nb with nextUpd := s.nb.nextUpd + 1 } } : State).nbCheck
    (s.bytes (s.entryAddr q (s.queDi q + s.nb.upds.length)) 64) = none := hcheck
  show execNbUpdateTake s = _
  unfold execNbUpdateTake
  rw [hq]
  dsimp only
  rw [if_neg (nbUpdateTake_due h8 hwait hbusy hwarn), hcheck']
  dsimp only
  rw [if_neg hmode]

/-! ### Commands (R470, R516) -/

/-- A word of KEY 0xA5 that a panel is there to take. -/
theorem nbCmdWrite_taken {s : State} {v : Nat} (hp : s.nbPanel = true) (hf : s.nbFault = false)
    (hkey : bits v 24 8 = 0xA5) (h1 : 1 ≤ bits v 0 4) (h3 : bits v 0 4 ≤ 3) : s.nbCmdWrite v =
      if bits v 0 4 = 1 then
        if s.nb.cleanCmd then s.cmdStat Reg.NB_CMD_STAT_STATUS Reg.NB_CMD_STAT_REASON 2
        else { s.cmdStat Reg.NB_CMD_STAT_STATUS Reg.NB_CMD_STAT_REASON 0 with nb := { s.nb with cleanCmd := true } }
      else if bits v 0 4 = 2 then
        if s.on Reg.NB_STAT_REFRESH_DUE then s.cmdStat Reg.NB_CMD_STAT_STATUS Reg.NB_CMD_STAT_REASON 2
        else (s.cmdStat Reg.NB_CMD_STAT_STATUS Reg.NB_CMD_STAT_REASON 0).wr Reg.NB_STAT_REFRESH_DUE 1
      else if s.nb.balCmd then s.cmdStat Reg.NB_CMD_STAT_STATUS Reg.NB_CMD_STAT_REASON 2
      else { s.cmdStat Reg.NB_CMD_STAT_STATUS Reg.NB_CMD_STAT_REASON 0 with nb := { s.nb with balCmd := true } } := by
  unfold State.nbCmdWrite
  dsimp only
  rw [if_neg (by omega), if_neg (nbPanel_ready hp hf), cmdStat_nb]

/-- What a command that is taken shows, where nothing of its status register is written after. -/
theorem cmdStat_shows_ok {s t : State} (h : KeepsReg Reg.NB_CMD_STAT.addr
    (s.cmdStat Reg.NB_CMD_STAT_STATUS Reg.NB_CMD_STAT_REASON 0) t) :
    t.rd Reg.NB_CMD_STAT_STATUS = Sta.ok ∧ t.rd Reg.NB_CMD_STAT_REASON = 0 :=
  ⟨(h.rd (f := Reg.NB_CMD_STAT_STATUS)).trans (cmdStat_taken s Reg.NB_CMD_STAT.addr),
    (h.rd (f := Reg.NB_CMD_STAT_REASON)).trans (rd_wr_self _ Reg.NB_CMD_STAT_REASON 0 (by decide))⟩

theorem nbCleanCmd_taken (s : State) (m : Master) (h : s.allows m .w32 true Reg.NB_CMD.addr) (hp : s.nbPanel = true)
    (hf : s.nbFault = false) (hc : s.nb.cleanCmd = false) : Nexts (exec (.nbCleanCmd m) s) (fun t =>
      t.nb.cleanCmd = true ∧ t.rd Reg.NB_CMD_STAT_STATUS = Sta.ok ∧ t.rd Reg.NB_CMD_STAT_REASON = 0) := by
  obtain ⟨g, hg⟩ := access_accessed h (Nat.le_of_ble_eq_true rfl) (fun t => t.nbCmdWrite 0xA5000001)
  rw [nbCmdWrite_taken (s := s.accessed g) hp hf (by decide) (by decide) (by decide), if_pos (by decide),
    if_neg (Bool.eq_false_iff.1 (show (s.accessed g).nb.cleanCmd = false from hc))] at hg
  exact ⟨_, congrArg Host.Outcome.next hg, rfl, cmdStat_shows_ok (KeepsReg.self.of_eq rfl)⟩

theorem nbRefreshCmd_taken (s : State) (m : Master) (h : s.allows m .w32 true Reg.NB_CMD.addr) (hp : s.nbPanel = true)
    (hf : s.nbFault = false) (hr : s.on Reg.NB_STAT_REFRESH_DUE = false) : Nexts (exec (.nbRefreshCmd m) s) (fun t =>
      t.on Reg.NB_STAT_REFRESH_DUE = true ∧ t.rd Reg.NB_CMD_STAT_STATUS = Sta.ok ∧ t.rd Reg.NB_CMD_STAT_REASON = 0) := by
  obtain ⟨g, hg⟩ := access_accessed h (Nat.le_of_ble_eq_true rfl) (fun t => t.nbCmdWrite 0xA5000002)
  rw [nbCmdWrite_taken (s := s.accessed g) hp hf (by decide) (by decide) (by decide), if_neg (by decide),
    if_pos (by decide), if_neg (Bool.eq_false_iff.1 (show (s.accessed g).on Reg.NB_STAT_REFRESH_DUE = false from hr))] at hg
  exact ⟨_, congrArg Host.Outcome.next hg, on_wr_self _ Reg.NB_STAT_REFRESH_DUE 1 (by decide),
    cmdStat_shows_ok (KeepsReg.self.wr (g := Reg.NB_STAT_REFRESH_DUE) 1 (by decide))⟩

theorem nbBalanceCmd_taken (s : State) (m : Master) (h : s.allows m .w32 true Reg.NB_CMD.addr) (hp : s.nbPanel = true)
    (hf : s.nbFault = false) (hb : s.nb.balCmd = false) : Nexts (exec (.nbBalanceCmd m) s) (fun t =>
      t.nb.balCmd = true ∧ t.rd Reg.NB_CMD_STAT_STATUS = Sta.ok ∧ t.rd Reg.NB_CMD_STAT_REASON = 0) := by
  obtain ⟨g, hg⟩ := access_accessed h (Nat.le_of_ble_eq_true rfl) (fun t => t.nbCmdWrite 0xA5000003)
  rw [nbCmdWrite_taken (s := s.accessed g) hp hf (by decide) (by decide) (by decide), if_neg (by decide),
    if_neg (by decide), if_neg (Bool.eq_false_iff.1 (show (s.accessed g).nb.balCmd = false from hb))] at hg
  exact ⟨_, congrArg Host.Outcome.next hg, rfl, cmdStat_shows_ok (KeepsReg.self.of_eq rfl)⟩

/-! ### The frontlight (R470) -/

/-- NB_LIGHT takes the level. -/
def State.lightLevel (s : State) (v : Nat) : State := s.wr Reg.NB_LIGHT_LEVEL (bits v 0 8)

theorem lightLevel_rd (s : State) (v : Nat) : (s.lightLevel v).rd Reg.NB_LIGHT_LEVEL = bits v 0 8 :=
  rd_wr_fits s Reg.NB_LIGHT_LEVEL rfl (Nat.mod_lt _ (by decide))

theorem nbLightWrite_off {s : State} {v : Nat} (hkey : bits v 24 8 = 0xA5) (hoff : bitAt v 8 = false)
    (hlit : (s.nbPanel && s.nbFlag 0) = true) :
    s.nbLightWrite v = ((s.lightLevel v).wr Reg.NB_LIGHT_ON 0).wr Reg.NB_STAT_LIGHT 0 := by
  have hlit' : ((s.lightLevel v).nbPanel && (s.lightLevel v).nbFlag 0) = true := by
    rw [← hlit, State.nbPanel, State.nbPanel, State.locked, State.locked, State.lightLevel, rd_wr_addr _ _ _ _ (by decide)]
    rfl
  unfold State.nbLightWrite
  dsimp only
  rw [if_neg (not_not.2 hkey), ← State.lightLevel, if_neg (by simp [hlit']), if_neg (by simp [hoff])]

theorem nbLightWrite_on {s : State} {v : Nat} (hkey : bits v 24 8 = 0xA5) (hon : bitAt v 8 = true)
    (hlit : (s.nbPanel && s.nbFlag 0) = true) :
    KeepsReg Reg.NB_LIGHT.addr ((s.lightLevel v).wr Reg.NB_LIGHT_ON 1) (s.nbLightWrite v) := by
  have hlit' : ((s.lightLevel v).nbPanel && (s.lightLevel v).nbFlag 0) = true := by
    rw [← hlit, State.nbPanel, State.nbPanel, State.locked, State.locked, State.lightLevel, rd_wr_addr _ _ _ _ (by decide)]
    rfl
  unfold State.nbLightWrite
  dsimp only
  rw [if_neg (not_not.2 hkey), ← State.lightLevel, if_neg (by simp [hlit']), if_pos hon]
  split_ifs
  · exact KeepsReg.self.wr (g := Reg.NB_STAT_LIGHT) 1 (by decide)
  · exact .self
  · exact KeepsReg.self.of_eq rfl

theorem nbLightWrite_darkens (s : State) (m : Master) (value : Word) (h : s.allows m .w32 true Reg.NB_LIGHT.addr)
    (hkey : bits value.toNat 24 8 = 0xA5) (hoff : bitAt value.toNat 8 = false) (hlit : (s.nbPanel && s.nbFlag 0) = true) :
    Nexts (exec (.nbLightWrite m value) s) (fun t => t.rd Reg.NB_LIGHT_LEVEL = bits value.toNat 0 8 ∧
      t.on Reg.NB_LIGHT_ON = false ∧ t.on Reg.NB_STAT_LIGHT = false) := by
  obtain ⟨g, hg⟩ := access_accessed h (Nat.le_of_ble_eq_true rfl) (fun t => t.nbLightWrite value.toNat)
  rw [nbLightWrite_off (s := s.accessed g) hkey hoff hlit] at hg
  refine ⟨_, congrArg Host.Outcome.next hg, ?_, ?_, on_wr_self _ Reg.NB_STAT_LIGHT 0 (by decide)⟩
  · exact ((KeepsFld.self.wrBits (g := Reg.NB_LIGHT_ON) 0 rfl rfl).wr (g := Reg.NB_STAT_LIGHT) 0 (by decide)).rd.trans
      (lightLevel_rd _ _)
  · rw [on_wr_addr _ _ _ _ (by decide)]
    exact on_wr_self _ Reg.NB_LIGHT_ON 0 (by decide)

theorem nbLightWrite_lights (s : State) (m : Master) (value : Word) (h : s.allows m .w32 true Reg.NB_LIGHT.addr)
    (hkey : bits value.toNat 24 8 = 0xA5) (hon : bitAt value.toNat 8 = true) (hlit : (s.nbPanel && s.nbFlag 0) = true) :
    Nexts (exec (.nbLightWrite m value) s) (fun t =>
      t.rd Reg.NB_LIGHT_LEVEL = bits value.toNat 0 8 ∧ t.on Reg.NB_LIGHT_ON = true) := by
  obtain ⟨g, hg⟩ := access_accessed h (Nat.le_of_ble_eq_true rfl) (fun t => t.nbLightWrite value.toNat)
  have hkept := nbLightWrite_on (s := s.accessed g) hkey hon hlit
  refine ⟨_, congrArg Host.Outcome.next hg, ?_, ?_⟩
  · exact (hkept.rd (f := Reg.NB_LIGHT_LEVEL)).trans
      ((KeepsFld.self.wrBits (g := Reg.NB_LIGHT_ON) 1 rfl rfl).rd.trans (lightLevel_rd _ _))
  · exact (hkept.on (f := Reg.NB_LIGHT_ON)).trans (on_wr_self _ Reg.NB_LIGHT_ON 1 (by decide))

end Sys2Proof.Machine
end

section
open Sys2Proof Sys2Proof.Machine

/-- Settles O54: what is checked first is the descriptor's own row (log 121), and a clean waits (log 125). -/
theorem noticeboardUpdatesComplete : Obligations.NoticeboardUpdatesComplete :=
  ⟨exec_nbUpdateTake_refused, nbUpdateTake_clean, exec_nbUpdateTake_area, nbCleanCmd_taken, nbRefreshCmd_taken,
    nbBalanceCmd_taken, nbLightWrite_darkens, nbLightWrite_lights⟩

end

section
/-!
Frames, balance passes and idle scans of the Noticeboard (R459, R460, R464 to R468), and its rails (R468, R469, R471).
-/
namespace Sys2Proof.Machine

/-! ### Frames -/

/-- A frame boundary with the rails up. -/
theorem exec_nbFrame {s : State} {temp : BitVec 16} {u : State} (hp : s.nbPanel = true)
    (hup : s.on Reg.NB_STAT_RAILS_UP = true) (hf : s.nbFault = false)
    (hu : u = if s.nb.running then s.nbBoundary.nbTemp temp else s.nbBoundary) : exec (.nbFrame temp) s =
      if u.nbMustAbort then .next u.nbAbort.nbState.nbShow
      else if u.nbStart.nb.running then
        .next ((u.nbStart.nbScan.nbJobEnd.nbLightOn.nbCompletions false 8).nbShut).nbState.nbShow
      else .next u.nbStart.nbJobEnd.nbLightOn.nbState.nbShow := by
  subst hu
  exact if_pos ⟨hp, hup, by simp [hf]⟩

theorem exec_nbFrame_idle (s : State) (temp : BitVec 16) (u : State) (hp : s.nbPanel = true)
    (hup : s.on Reg.NB_STAT_RAILS_UP = true) (hf : s.nbFault = false)
    (hu : u = if s.nb.running then s.nbBoundary.nbTemp temp else s.nbBoundary) (habort : u.nbMustAbort = false)
    (hidle : u.nbStart.nb.running = false) :
    exec (.nbFrame temp) s = .next (u.nbStart.nbJobEnd.nbLightOn.nbState.nbShow) := by
  rw [exec_nbFrame hp hup hf hu, if_neg (by simp [habort]), if_neg (by simp [hidle])]

theorem exec_nbFrame_scans (s : State) (temp : BitVec 16) (u : State) (hp : s.nbPanel = true)
    (hup : s.on Reg.NB_STAT_RAILS_UP = true) (hf : s.nbFault = false)
    (hu : u = if s.nb.running then s.nbBoundary.nbTemp temp else s.nbBoundary) (habort : u.nbMustAbort = false)
    (hruns : u.nbStart.nb.running = true) : exec (.nbFrame temp) s =
      .next (((u.nbStart.nbScan.nbJobEnd.nbLightOn.nbCompletions false 8).nbShut).nbState.nbShow) := by
  rw [exec_nbFrame hp hup hf hu, if_neg (by simp [habort]), if_pos hruns]

theorem exec_nbFrame_aborts (s : State) (temp : BitVec 16) (u : State) (hp : s.nbPanel = true)
    (hup : s.on Reg.NB_STAT_RAILS_UP = true) (hf : s.nbFault = false) (hruns : s.nb.running = true)
    (hu : u = s.nbBoundary.nbTemp temp) (habort : u.nbMustAbort = true) :
    exec (.nbFrame temp) s = .next (u.nbAbort.nbState.nbShow) := by
  rw [exec_nbFrame hp hup hf (hu.trans (if_pos hruns).symm), if_pos habort]

/-! ### Balance passes (R466) -/

/-- What comes before a balance pass. -/
def State.nbAbove (s : State) : Bool :=
  s.nb.recovery || s.nb.stripDue || s.nb.lightWait || s.nb.cleanCmd || s.on Reg.NB_STAT_REFRESH_DUE ||
    s.nb.job != .none || s.nb.running || s.nb.pending || s.on Reg.PWR_STAT_PF_WARN

theorem exec_nbBalancePass_command {s : State} (hp : s.nbPanel = true) (hf : s.nbFault = false)
    (hb : s.nb.balCmd = true) (habove : s.nbAbove = false) :
    exec .nbBalancePass s = .next s.nbBalance.nbState.nbShow := by
  rw [State.nbAbove] at habove
  show execNbBalancePass s = _
  unfold execNbBalancePass
  extract_lets +onlyGivenNames empty above due
  have habove' : above = false := habove
  rw [if_pos (by simp [hp, hf, hb, habove'])]
  dsimp only
  rw [if_pos hb]

theorem exec_nbBalancePass_due (s : State) (q : Nat) (hp : s.nbPanel = true) (hf : s.nbFault = false)
    (hb : s.nb.balCmd = false) (hdue : s.on Reg.NB_STAT_BAL_DUE = true) (hupds : s.nb.upds = [])
    (hq : s.nbCmdq = some q) (hempty : s.queWaiting q = 0) (habove : s.nbAbove = false) : exec .nbBalancePass s =
      .next (({ s with frc := max s.frc (s.nb.doneAt + 10000000000) } : State).nbBalance.nbState.nbShow) := by
  rw [State.nbAbove] at habove
  show execNbBalancePass s = _
  unfold execNbBalancePass
  rw [hq]
  extract_lets +onlyGivenNames empty above due
  have habove' : above = false := habove
  have hdue' : due = true := by simp [due, empty, hdue, hupds, hempty]
  rw [if_pos (by simp [hp, hf, hdue', habove'])]
  dsimp only
  rw [if_neg (by simp [hb])]

theorem wearStore_nb (s : State) (i : Nat) : (s.wearStore i).nb = s.nb :=
  State.wearStore_frame (F := fun p => p != .nb) s i rfl (fr_self _ s) .nb rfl

theorem setWearQ_nb (s : State) (i v : Nat) : (s.setWearQ i v).nb = s.nb :=
  State.setWearQ_frame (F := fun p => p != .nb) s i v rfl (fr_self _ s) .nb rfl

theorem wearSummary_nb (s : State) : s.wearSummary.nb = s.nb :=
  State.wearSummary_frame (F := fun p => p != .nb) s rfl (fr_self _ s) .nb rfl

theorem nbState_nb (s : State) : s.nbState.nb = s.nb :=
  State.nbState_frame (F := fun p => p != .nb) s rfl (fr_self _ s) .nb rfl

theorem nbShow_nb (s : State) : s.nbShow.nb = s.nb :=
  State.nbShow_frame (F := fun p => p != .nb) s rfl (fr_self _ s) .nb rfl

theorem nbDirty_nb (s : State) : s.nbDirty.nb = s.nb :=
  State.nbDirty_frame (F := fun p => p != .nb) s rfl (fr_self _ s) .nb rfl

/-- Blocks that start a waveform are counted, and nothing else of the panel moves. -/
theorem nbCount_nb (s : State) (ks : List Nat) : ∃ l, (s.nbCount ks).nb = { s.nb with blocks := l } := by
  unfold State.nbCount
  extract_lets bs blocks u
  refine ⟨blocks, ?_⟩
  split_ifs
  · rfl
  · rw [wearSummary_nb, wearStore_nb, setWearQ_nb]

theorem nbBalance_command (s : State) : s.nbBalance.nb.balCmd = false := by
  unfold State.nbBalance
  extract_lets +onlyGivenNames b due pix blocks src u v
  have hv : v.nb.balCmd = false := by
    simp only [v]
    rw [wearSummary_nb, wearStore_nb, setWearQ_nb]
  split_ifs
  · exact hv
  · obtain ⟨l, hl⟩ := nbCount_nb v (due.map (fun c => c.1))
    rw [nbDirty_nb, hl]
    exact hv

theorem nbBalancePass_command (s : State) (hp : s.nbPanel = true) (hf : s.nbFault = false) (hb : s.nb.balCmd = true)
    (habove : s.nbAbove = false) : Nexts (exec .nbBalancePass s) (fun t =>
      t = s.nbBalance.nbState.nbShow ∧ t.nb.balCmd = false) := by
  refine ⟨_, exec_nbBalancePass_command hp hf hb habove, rfl, ?_⟩
  rw [nbShow_nb, nbState_nb]
  exact nbBalance_command s

/-! ### Idle scans (R459, R468) -/

/-- A frame is counted. -/
def State.nbFrameCounted (s : State) : State :=
  s.wr64 Reg.NB_FRAMES_LO Reg.NB_FRAMES_HI (s.rd64 Reg.NB_FRAMES_LO Reg.NB_FRAMES_HI + 1)

theorem nbFrameCounted_rd64 (s : State) : s.nbFrameCounted.rd64 Reg.NB_FRAMES_LO Reg.NB_FRAMES_HI =
    (s.rd64 Reg.NB_FRAMES_LO Reg.NB_FRAMES_HI + 1) % 2 ^ 64 := by
  have hw : Reg.NB_FRAMES_LO.width = 32 ∧ Reg.NB_FRAMES_HI.width = 32 := ⟨rfl, rfl⟩
  generalize hn : s.rd64 Reg.NB_FRAMES_LO Reg.NB_FRAMES_HI + 1 = n
  rw [State.nbFrameCounted, hn, State.wr64, State.rd64, rd_wr_addr _ _ _ _ (by decide), rd_wr_self _ _ _ (by decide),
    rd_wr_self _ _ _ (by decide), hw.1, hw.2]
  omega

theorem KeepsReg.nbRefreshCheck {a : Nat} {s t : State} (h : KeepsReg a s t) (hstat : a ≠ Reg.NB_STAT.addr)
    (hgb : unitOf a ≠ Un.gb) : KeepsReg a s t.nbRefreshCheck := by
  unfold State.nbRefreshCheck
  dsimp only
  split_ifs
  · exact (fileAt_post _ _ _ _ _ _ _ hgb).trans (h.wr (g := Reg.NB_STAT_REFRESH_DUE) 1 hstat)
  · exact h

/-- A reading shows in NB_TEMP and NB_STAT. -/
theorem KeepsReg.nbTemp {a : Nat} {s t : State} (h : KeepsReg a s t) (temp : BitVec 16) (hstat : a ≠ Reg.NB_STAT.addr)
    (htemp : a ≠ Reg.NB_TEMP.addr) (hgb : unitOf a ≠ Un.gb) : KeepsReg a s (t.nbTemp temp) := by
  unfold State.nbTemp
  extract_lets v below above b was u w
  have hu : KeepsReg a s u := ((h.wr (g := Reg.NB_TEMP_TEMP) _ htemp).wr (g := Reg.NB_TEMP_BAND) _ htemp).wr
    (g := Reg.NB_STAT_OUT_OF_BAND) _ hstat
  have hw : KeepsReg a s w := by
    simp only [w]
    split_ifs
    · exact (fileAt_post _ _ _ _ _ _ _ hgb).trans hu
    · exact hu
  exact hw.nbRefreshCheck hstat hgb

theorem nbTemp_shows (s : State) (temp : BitVec 16) : (s.nbTemp temp).rd Reg.NB_TEMP_TEMP = temp.toNat := by
  unfold State.nbTemp
  extract_lets v below above b was u w
  have hu : u.rd Reg.NB_TEMP_TEMP = temp.toNat :=
    ((KeepsFld.self.wrBits (g := Reg.NB_TEMP_BAND) b rfl rfl).wr (g := Reg.NB_STAT_OUT_OF_BAND) _ (by decide)).rd.trans
      (rd_wr_fits s Reg.NB_TEMP_TEMP rfl temp.isLt)
  have hw : KeepsFld Reg.NB_TEMP_TEMP u w := by
    simp only [w]
    split_ifs
    · exact KeepsFld.self.post _ _ _ _ _ (by decide)
    · exact .self
  exact ((hw.of_reg (KeepsReg.self.nbRefreshCheck (by decide) (by decide))).rd).trans hu

theorem KeepsReg.nbState {a : Nat} {s t : State} (h : KeepsReg a s t) (hstat : a ≠ Reg.NB_STAT.addr) :
    KeepsReg a s t.nbState := by
  unfold State.nbState
  split_ifs
  · exact h
  all_goals exact h.wr (g := Reg.NB_STAT_STATE) _ hstat

theorem nbTemp_nb (s : State) (temp : BitVec 16) : (s.nbTemp temp).nb = s.nb :=
  State.nbTemp_frame (F := fun p => p != .nb) s temp rfl (fr_self _ s) .nb rfl

theorem nbTemp_frc (s : State) (temp : BitVec 16) : (s.nbTemp temp).frc = s.frc :=
  State.nbTemp_frame (F := fun p => p != .frc) s temp rfl (fr_self _ s) .frc rfl

theorem nbState_frc (s : State) : s.nbState.frc = s.frc :=
  State.nbState_frame (F := fun p => p != .frc) s rfl (fr_self _ s) .frc rfl

/-- An idle scan is due: the rails rise for it. -/
def State.nbIdleRise (s : State) : State :=
  let n := max s.frc (s.nb.idleAt + 990000000 / le s.nbRec 3 1)
  { s.wake .noticeboard with frc := n, nb := { s.nb with idleAt := n, faultRun := 0 } }

/-- Its health check. -/
def State.nbHealth (s : State) (bad : Option (BitVec 5 × Nat)) : State :=
  match bad with
  | some (rails, mA) => s.post Un.nb 0x1307 rails.toNat mA 0
  | none => s

theorem exec_nbIdleScan {s : State} (temp : BitVec 16) (bad : Option (BitVec 5 × Nat)) (hp : s.nbPanel = true)
    (hf : s.nbFault = false) (hidle : s.nb.running = false) (hdown : s.on Reg.NB_STAT_RAILS_UP = false)
    (hwarn : s.on Reg.PWR_STAT_PF_WARN = false) :
    exec (.nbIdleScan temp bad) s = .next ((s.nbIdleRise.nbFrameCounted.nbHealth bad).nbTemp temp).nbState := by
  obtain ⟨g, hg⟩ := wake_gates s (u := .noticeboard) (by decide) (by decide)
  show execNbIdleScan temp bad s = _
  unfold execNbIdleScan
  rw [if_pos ⟨hp, by simp [hf], by simp [hidle], by simp [hdown], by simp [hwarn]⟩, State.nbIdleRise, hg]
  rfl

theorem nbHealth_keeps (s : State) (bad : Option (BitVec 5 × Nat)) {a : Nat} (hgb : unitOf a ≠ Un.gb) :
    KeepsReg a s (s.nbHealth bad) := by
  unfold State.nbHealth
  split
  · exact fileAt_post _ _ _ _ _ _ _ hgb
  · exact .self

theorem nbHealth_nb (s : State) (bad : Option (BitVec 5 × Nat)) : (s.nbHealth bad).nb = s.nb := by
  unfold State.nbHealth
  split
  · exact post_nb _ _ _ _ _ _
  · rfl

theorem nbHealth_frc (s : State) (bad : Option (BitVec 5 × Nat)) : (s.nbHealth bad).frc = s.frc := by
  unfold State.nbHealth
  split
  · exact post_frc _ _ _ _ _ _
  · rfl

theorem nbIdleScan_counts (s : State) (temp : BitVec 16) (bad : Option (BitVec 5 × Nat)) (hp : s.nbPanel = true)
    (hf : s.nbFault = false) (hidle : s.nb.running = false) (hdown : s.on Reg.NB_STAT_RAILS_UP = false)
    (hwarn : s.on Reg.PWR_STAT_PF_WARN = false) : Nexts (exec (.nbIdleScan temp bad) s) (fun t =>
      t.rd64 Reg.NB_FRAMES_LO Reg.NB_FRAMES_HI = (s.rd64 Reg.NB_FRAMES_LO Reg.NB_FRAMES_HI + 1) % 2 ^ 64 ∧
      t.rd Reg.NB_TEMP_TEMP = temp.toNat ∧ t.frc = max s.frc (s.nb.idleAt + 990000000 / le s.nbRec 3 1) ∧
      t.nb.idleAt = t.frc) := by
  have hkeeps : ∀ f : Fld, f.addr ≠ Reg.NB_STAT.addr → f.addr ≠ Reg.NB_TEMP.addr → unitOf f.addr ≠ Un.gb →
      KeepsReg f.addr s.nbIdleRise.nbFrameCounted ((s.nbIdleRise.nbFrameCounted.nbHealth bad).nbTemp temp).nbState :=
    fun f hstat htemp hgb => ((nbHealth_keeps _ bad hgb).nbTemp temp hstat htemp hgb).nbState hstat
  have hwoken : ∀ f : Fld, f.addr ≠ Reg.SLV_STAT_STATE.addr → f.addr ≠ Reg.LOOP_STAT_STATE.addr →
      KeepsReg f.addr s s.nbIdleRise :=
    fun f hslv hloop => KeepsReg.of_eq (t := s.wake .noticeboard) (fileAt_wake s _ _ hslv hloop) rfl
  have hframes : s.nbIdleRise.rd64 Reg.NB_FRAMES_LO Reg.NB_FRAMES_HI = s.rd64 Reg.NB_FRAMES_LO Reg.NB_FRAMES_HI := by
    rw [State.rd64, (hwoken Reg.NB_FRAMES_LO (by decide) (by decide)).rd,
      (hwoken Reg.NB_FRAMES_HI (by decide) (by decide)).rd, State.rd64]
  refine ⟨_, exec_nbIdleScan temp bad hp hf hidle hdown hwarn, ?_, ?_, ?_, ?_⟩
  · rw [State.rd64, (hkeeps Reg.NB_FRAMES_LO (by decide) (by decide) (by decide)).rd,
      (hkeeps Reg.NB_FRAMES_HI (by decide) (by decide) (by decide)).rd, ← hframes, ← nbFrameCounted_rd64, State.rd64]
  · exact (KeepsReg.rd (f := Reg.NB_TEMP_TEMP) (KeepsReg.self.nbState (by decide))).trans (nbTemp_shows _ temp)
  · rw [nbState_frc, nbTemp_frc, nbHealth_frc]
    rfl
  · rw [nbState_nb, nbTemp_nb, nbHealth_nb, nbState_frc, nbTemp_frc, nbHealth_frc]
    rfl

/-! ### Completions of the updates in hand (R463) -/

theorem KeepsReg.queDiSet {a : Nat} {s t : State} (h : KeepsReg a s t) {q : Nat} (v : Nat) (hq : q < 256)
    (ha : 0x2000120000 ≤ a) : KeepsReg a s (t.queDiSet q v) := by
  have hdi : KeepsReg a s (t.wr (Reg.QUE_DI q) v) := h.wr _ (by simp only [Reg.QUE_DI]; omega)
  unfold State.queDiSet
  dsimp only
  split_ifs
  · exact hdi.queMirror _ _ _
  · exact hdi.queFollow (by simp only [Reg.QUE_RI]; omega) (by omega)

/-- CMDQ is a queue that eight bits can name. -/
theorem nbCmdq_lt {s : State} {q : Nat} (h : s.nbCmdq = some q) : q < 256 := by
  unfold State.nbCmdq at h
  split_ifs at h
  · exact Option.some.inj h ▸ le_lt _ _ 1
  · have hmem := List.mem_range.1 (List.mem_of_find?_eq_some h)
    omega

theorem KeepsReg.nbComplete {a : Nat} {s t : State} (h : KeepsReg a s t) {q : Nat} (u : NbUpd) (status detail : Nat)
    (hq : q < 256) (ha : 0x2000120000 ≤ a) : KeepsReg a s (t.nbComplete q u status detail) := by
  unfold State.nbComplete
  cases u.band with
  | some b =>
    dsimp only
    refine KeepsReg.queDiSet ?_ _ hq ha
    exact h.of_eq rfl
  | none =>
    dsimp only
    refine KeepsReg.queDiSet ?_ _ hq ha
    exact h.of_eq rfl

/-- Completions are written to CMDQ: they move the registers of queues alone. -/
theorem KeepsReg.nbCompletions {a : Nat} {s : State} (shut : Bool) (ha : 0x2000120000 ≤ a) (n : Nat) :
    ∀ {t : State}, KeepsReg a s t → KeepsReg a s (t.nbCompletions shut n) := by
  induction n with
  | zero => exact fun h => h
  | succ n ih =>
    intro t h
    unfold State.nbCompletions
    split
    next u l q hu hq =>
      have hdone : ∀ st d, KeepsReg a s ((t.nbComplete q u st d).nbCompletions shut n) :=
        fun st d => ih (h.nbComplete u st d (nbCmdq_lt hq) ha)
      split
      · exact hdone _ _
      · split_ifs
        · exact hdone _ _
        · exact hdone _ _
        · exact h
    next => exact h

theorem KeepsReg.nbShut {a : Nat} {s t : State} (h : KeepsReg a s t) (ha : 0x2000120000 ≤ a) : KeepsReg a s t.nbShut := by
  unfold State.nbShut
  split_ifs
  · exact h.nbCompletions true ha 8
  · exact h

/-- What completions leave of the panel: how often the rails have failed in a row, and whether a recovery is due. -/
structure RailKeeps (s t : State) : Prop where
  faultRun : t.nb.faultRun = s.nb.faultRun
  recovery : t.nb.recovery = s.nb.recovery

namespace RailKeeps
variable {s t u : State}

theorem self : RailKeeps s s := ⟨rfl, rfl⟩

theorem of_nb (h : RailKeeps s t) (e : u.nb = t.nb) : RailKeeps s u := ⟨by rw [e, h.faultRun], by rw [e, h.recovery]⟩

theorem nbComplete (h : RailKeeps s t) (q : Nat) (u : NbUpd) (status detail : Nat) :
    RailKeeps s (t.nbComplete q u status detail) := by
  have hq : ∀ (v : State) (off : Nat) (l : List Byte), (v.queComplete q off l).nb = v.nb := fun v off l =>
    State.queComplete_frame (F := fun p => p != .nb) v q off l rfl (fr_self _ v) .nb rfl
  unfold State.nbComplete
  cases u.band with
  | some b =>
    refine RailKeeps.of_nb ?_ (hq _ _ _)
    exact ⟨h.faultRun, h.recovery⟩
  | none =>
    refine RailKeeps.of_nb ?_ (hq _ _ _)
    exact ⟨h.faultRun, h.recovery⟩

theorem nbCompletions (shut : Bool) (n : Nat) : ∀ {t : State}, RailKeeps s t → RailKeeps s (t.nbCompletions shut n) := by
  induction n with
  | zero => exact fun h => h
  | succ n ih =>
    intro t h
    unfold State.nbCompletions
    split
    next u l q hu hq =>
      split
      · exact ih (h.nbComplete _ _ _ _)
      · split_ifs
        · exact ih (h.nbComplete _ _ _ _)
        · exact ih (h.nbComplete _ _ _ _)
        · exact h
    next => exact h

theorem nbShut (h : RailKeeps s t) : RailKeeps s t.nbShut := by
  unfold State.nbShut
  split_ifs
  · exact h.nbCompletions true 8
  · exact h

theorem nbCut (h : RailKeeps s t) (why : Nat) : RailKeeps s (t.nbCut why) := by
  unfold State.nbCut
  extract_lets n pix plane src u v
  exact RailKeeps.of_nb (t := v) (RailKeeps.of_nb (t := u) ⟨h.faultRun, h.recovery⟩ rfl) (post_nb _ _ _ _ _ _)

end RailKeeps

/-! ### Rails (R468) -/

/-- The first frame begins at an instant. -/
def Nb.framesFrom (n : Nb) (at_ : Nat) : Nb := { n with frameAt := at_ }

/-- The rails are up 4 ms later, and the first frame begins 2 ms after that. -/
def State.nbRaised (s : State) : State :=
  let t := (s.wake .noticeboard).wr Reg.NB_STAT_RAILS_UP 1
  { t with frc := s.frc + 4000000, nb := { t.nb with frameAt := s.frc + 4000000 + 2000000 } }

theorem nbRaised_nb (s : State) : s.nbRaised.nb = { s.nb with frameAt := s.frc + 6000000 } := by
  have hnb : ((s.wake .noticeboard).wr Reg.NB_STAT_RAILS_UP 1).nb = s.nb := by rw [wr_nb, wake_nb]
  have hsix : s.frc + 4000000 + 2000000 = s.frc + 6000000 := by omega
  exact congrArg₂ Nb.framesFrom hnb hsix

theorem nbRailRise_rises (s : State) (hp : s.nbPanel = true) (hf : s.nbFault = false)
    (hdown : s.on Reg.NB_STAT_RAILS_UP = false) (hwork : s.nbWork = true) : Nexts (exec .nbRailRise s) (fun t =>
      t.on Reg.NB_STAT_RAILS_UP = true ∧ t.frc = s.frc + 4000000 ∧ t.nb = { s.nb with frameAt := s.frc + 6000000 }) :=
  ⟨s.nbRaised, if_pos ⟨hp, by simp [hf], by simp [hdown], hwork⟩,
    on_wr_self (s.wake .noticeboard) Reg.NB_STAT_RAILS_UP 1 (by decide), rfl, nbRaised_nb s⟩

theorem nbState_railsUp (s : State) : KeepsFld Reg.NB_STAT_RAILS_UP s s.nbState := by
  unfold State.nbState
  split_ifs
  · exact .self
  all_goals exact KeepsFld.self.wrBits (g := Reg.NB_STAT_STATE) _ rfl rfl

theorem nbShow_railsUp (s : State) : KeepsFld Reg.NB_STAT_RAILS_UP s s.nbShow := by
  unfold State.nbShow
  dsimp only
  exact ((KeepsFld.self.wr (g := Reg.NB_LEDGER_DUE) _ (by decide)).wr (g := Reg.NB_LEDGER_MAX) _ (by decide)).wrBits
    (g := Reg.NB_STAT_BAL_DUE) _ rfl rfl

theorem KeepsReg.nbShow {a : Nat} {s t : State} (h : KeepsReg a s t) (hstat : a ≠ Reg.NB_STAT.addr)
    (hledger : a ≠ Reg.NB_LEDGER.addr) : KeepsReg a s t.nbShow :=
  ((h.wr (g := Reg.NB_LEDGER_DUE) _ hledger).wr (g := Reg.NB_LEDGER_MAX) _ hledger).wr (g := Reg.NB_STAT_BAL_DUE) _ hstat

theorem nbRailsOff_on (s : State) : s.nbRailsOff.on Reg.NB_STAT_RAILS_UP = false :=
  on_wr_self s Reg.NB_STAT_RAILS_UP 0 (by decide)

/-- The commit that is to be made, and the work that keeps the rails up. -/
theorem exec_nbRailsDown {s : State} (hup : s.on Reg.NB_STAT_RAILS_UP = true) (hidle : s.nb.running = false)
    (hpend : s.nb.pending = false) (hcommit : (s.on Reg.NB_STAT_DIRTY && s.nbMayCommit) = false)
    (hjob : s.on Reg.PWR_STAT_PF_WARN = true ∨ s.nb.job = .none) : exec .nbRailsDown s = .next (
      let t := (if s.on Reg.PWR_STAT_PF_WARN then s else { s with frc := max s.frc (s.nb.waveAt + 100000000) }).nbRailsOff
      ({ t with nb := { t.nb with faultRun := 0 } } : State).nbState) := by
  have hcommit' : (!s.on Reg.NB_STAT_DIRTY || !s.nbMayCommit) = true := by
    rw [← Bool.not_and, hcommit]
    rfl
  have hjob' : (s.on Reg.PWR_STAT_PF_WARN || s.nb.job == .none) = true := by simpa using hjob
  exact if_pos ⟨hup, by simp [hidle], by simp [hpend], by rw [hcommit', hjob']; rfl⟩

theorem nbRailsDown_rests (s : State) (hup : s.on Reg.NB_STAT_RAILS_UP = true) (hidle : s.nb.running = false)
    (hpend : s.nb.pending = false) (hjob : s.nb.job = .none) (hcommit : (s.on Reg.NB_STAT_DIRTY && s.nbMayCommit) = false)
    (hwarn : s.on Reg.PWR_STAT_PF_WARN = false) : Nexts (exec .nbRailsDown s) (fun t =>
      t.on Reg.NB_STAT_RAILS_UP = false ∧ t.nb.faultRun = 0 ∧ t.frc = max s.frc (s.nb.waveAt + 100000000)) := by
  rw [exec_nbRailsDown hup hidle hpend hcommit (.inr hjob), nexts_next, if_neg (by simp [hwarn])]
  refine ⟨(nbState_railsUp _).on.trans (nbRailsOff_on _), ?_, nbState_frc _⟩
  rw [nbState_nb]

theorem nbRailsDown_warned (s : State) (hup : s.on Reg.NB_STAT_RAILS_UP = true) (hidle : s.nb.running = false)
    (hpend : s.nb.pending = false) (hcommit : (s.on Reg.NB_STAT_DIRTY && s.nbMayCommit) = false)
    (hwarn : s.on Reg.PWR_STAT_PF_WARN = true) : Nexts (exec .nbRailsDown s) (fun t =>
      t.on Reg.NB_STAT_RAILS_UP = false ∧ t.nb.faultRun = 0 ∧ t.frc = s.frc) := by
  rw [exec_nbRailsDown hup hidle hpend hcommit (.inl hwarn), nexts_next, if_pos hwarn]
  refine ⟨(nbState_railsUp _).on.trans (nbRailsOff_on _), ?_, nbState_frc _⟩
  rw [nbState_nb]

theorem nbQuiescentCommit_commits (s : State) (hrun : s.power.running = true) (hdirty : s.on Reg.NB_STAT_DIRTY = true)
    (hmay : s.nbMayCommit = true) : Nexts (exec .nbQuiescentCommit s) (fun t => t.on Reg.NB_STAT_DIRTY = false ∧
      t.nb.mram = s.nb.pix.map (fun c => (c.1, { c.2 with pend := none })) ∧ t.nb.fi = 0) :=
  ⟨_, if_pos ⟨hrun, hdirty, hmay⟩, on_wr_self _ Reg.NB_STAT_DIRTY 0 (by decide), rfl, rfl⟩

end Sys2Proof.Machine
end

section
/-!
A fault of the Noticeboard's rails (R468): it is counted, the rails are off, and a recovery is asked for.
-/
namespace Sys2Proof.Machine

/-- The counters of rail faults and the panel's state after a fault, from the state in which it has been noted. -/
structure RailFaulted (n rails run : Nat) (t : State) : Prop where
  faults : t.rd Reg.NB_RAIL_FAULTS = n
  failed : t.rd Reg.NB_RAIL_FAILED = rails
  run : t.nb.faultRun = run
  recovery : t.nb.recovery = true

theorem railFault_counted (s : State) (rails : BitVec 5) (hrec : s.nb.recovery = true) :
    RailFaulted (satInc 16 (s.rd Reg.NB_RAIL_FAULTS)) rails.toNat s.nb.faultRun
      ((s.bump Reg.NB_RAIL_FAULTS).wr Reg.NB_RAIL_FAILED rails.toNat) where
  faults := (rd_wr_bits _ Reg.NB_RAIL_FAILED Reg.NB_RAIL_FAULTS _ (by decide) (by decide)).trans
    (rd_bump_self s Reg.NB_RAIL_FAULTS (by decide))
  failed := rd_wr_fits _ Reg.NB_RAIL_FAILED rfl rails.isLt
  run := by rw [wr_nb, bump_nb]
  recovery := by rw [wr_nb, bump_nb, hrec]

namespace RailFaulted
variable {n rails run : Nat} {s t : State}

/-- What leaves NB_RAIL and the panel's count leaves these. -/
theorem of_keeps (h : RailFaulted n rails run s) (hr : KeepsReg Reg.NB_RAIL.addr s t) (hn : RailKeeps s t) :
    RailFaulted n rails run t :=
  ⟨(hr.rd (f := Reg.NB_RAIL_FAULTS)).trans h.faults, (hr.rd (f := Reg.NB_RAIL_FAILED)).trans h.failed,
    hn.faultRun.trans h.run, hn.recovery.trans h.recovery⟩

theorem post (h : RailFaulted n rails run t) (source code p1 p2 p3 : Nat) :
    RailFaulted n rails run (t.post source code p1 p2 p3) :=
  h.of_keeps (fileAt_post _ _ _ _ _ _ _ (by decide)) (RailKeeps.self.of_nb (post_nb _ _ _ _ _ _))

theorem wr (h : RailFaulted n rails run t) (f : Fld) (v : Nat) (hne : Reg.NB_RAIL.addr ≠ f.addr) :
    RailFaulted n rails run (t.wr f v) :=
  h.of_keeps (KeepsReg.self.wr v hne) (RailKeeps.self.of_nb rfl)

theorem nbCut (h : RailFaulted n rails run t) (why : Nat) : RailFaulted n rails run (t.nbCut why) := by
  refine h.of_keeps ?_ (RailKeeps.self.nbCut why)
  unfold State.nbCut
  extract_lets m pix plane src u v
  have hu : KeepsReg Reg.NB_RAIL.addr t u := KeepsReg.self.of_eq rfl
  have hv : KeepsReg Reg.NB_RAIL.addr t v :=
    (hu.wr (g := Reg.NB_ABORT_COUNT) _ (by decide)).wr (g := Reg.NB_ABORT_FI) _ (by decide)
  exact (fileAt_post _ _ _ _ _ _ _ (by decide)).trans hv

theorem nbState (h : RailFaulted n rails run t) : RailFaulted n rails run t.nbState :=
  h.of_keeps (KeepsReg.self.nbState (by decide)) (RailKeeps.self.of_nb (nbState_nb t))

/-- So do the completions of the updates that the fault has ended, and what sums up the ledger. -/
theorem completed (h : RailFaulted n rails run t) :
    RailFaulted n rails run ((t.nbCompletions false 8).nbShut).nbShow := by
  have hcomplete : RailFaulted n rails run (t.nbCompletions false 8) :=
    h.of_keeps (KeepsReg.nbCompletions false (by decide) 8 .self) (RailKeeps.nbCompletions false 8 .self)
  have hshut : RailFaulted n rails run (t.nbCompletions false 8).nbShut :=
    hcomplete.of_keeps (KeepsReg.self.nbShut (by decide)) RailKeeps.self.nbShut
  exact hshut.of_keeps (KeepsReg.self.nbShow (by decide) (by decide)) (RailKeeps.self.of_nb (nbShow_nb _))

end RailFaulted

/-- The rails stay off through what a fault completes. -/
theorem railsUp_completed (s : State) :
    KeepsFld Reg.NB_STAT_RAILS_UP s ((s.nbCompletions false 8).nbShut).nbShow := by
  have hreg : KeepsReg Reg.NB_STAT_RAILS_UP.addr s (s.nbCompletions false 8).nbShut :=
    (KeepsReg.nbCompletions false (by decide) 8 .self).nbShut (by decide)
  exact (KeepsFld.self.of_reg hreg).trans (nbShow_railsUp _)

theorem nbRailFault_shows (s : State) (rails : BitVec 5) (hp : s.nbPanel = true) (hf : s.nbFault = false) :
    Nexts (exec (.nbRailFault rails) s) (fun t => t.on Reg.NB_STAT_RAILS_UP = false ∧
      t.rd Reg.NB_RAIL_FAULTS = satInc 16 (s.rd Reg.NB_RAIL_FAULTS) ∧ t.rd Reg.NB_RAIL_FAILED = rails.toNat ∧
      t.nb.faultRun = s.nb.faultRun + 1 ∧ t.nb.recovery = true) := by
  show Nexts (execNbRailFault rails s) _
  unfold execNbRailFault
  rw [if_pos ⟨hp, by simp [hf]⟩]
  extract_lets +onlyGivenNames ended hit clean upds pix src noted counted told cut off shown
  have hcounted : RailFaulted (satInc 16 (s.rd Reg.NB_RAIL_FAULTS)) rails.toNat (s.nb.faultRun + 1) counted :=
    railFault_counted noted rails rfl
  have htold : RailFaulted (satInc 16 (s.rd Reg.NB_RAIL_FAULTS)) rails.toNat (s.nb.faultRun + 1) told :=
    hcounted.post _ _ _ _ _
  have hcut : RailFaulted (satInc 16 (s.rd Reg.NB_RAIL_FAULTS)) rails.toNat (s.nb.faultRun + 1) cut := by
    simp only [cut]
    split_ifs
    · exact htold
    · exact htold.nbCut 2
  have hoff : RailFaulted (satInc 16 (s.rd Reg.NB_RAIL_FAULTS)) rails.toNat (s.nb.faultRun + 1) off :=
    hcut.wr Reg.NB_STAT_RAILS_UP 0 (by decide)
  have hshown : RailFaulted (satInc 16 (s.rd Reg.NB_RAIL_FAULTS)) rails.toNat (s.nb.faultRun + 1) shown ∧
      KeepsFld Reg.NB_STAT_RAILS_UP off shown := by
    simp only [shown]
    split_ifs
    · exact ⟨hoff.wr Reg.NB_STAT_STATE 4 (by decide), KeepsFld.self.wrBits (g := Reg.NB_STAT_STATE) 4 rfl rfl⟩
    · exact ⟨hoff.nbState, nbState_railsUp _⟩
  obtain ⟨hstate, hrails⟩ := hshown
  obtain ⟨hfaults, hfailed, hrun, hrecovery⟩ := hstate.completed
  exact ⟨_, rfl, (hrails.trans (railsUp_completed shown)).on.trans (nbRailsOff_on cut), hfaults, hfailed, hrun, hrecovery⟩

end Sys2Proof.Machine
end

section
open Sys2Proof Sys2Proof.Machine

/-- Settles O55: the order of work at a frame boundary is the model's (log 12, 229). -/
theorem noticeboardFramesComplete : Obligations.NoticeboardFramesComplete :=
  ⟨exec_nbFrame_idle, exec_nbFrame_scans, exec_nbFrame_aborts, nbBalancePass_command, exec_nbBalancePass_due,
    nbIdleScan_counts⟩

/-- Settles O56: a rail fault completes what it ends only after the rails are off (log 126, 229). -/
theorem noticeboardRailsComplete : Obligations.NoticeboardRailsComplete :=
  ⟨nbRailRise_rises, nbRailFault_shows, nbRailsDown_rests, nbRailsDown_warned, nbQuiescentCommit_commits⟩

end

section
/-!
What a report of the Annex leaves of the Annex, and what its measuring engine, its port and its parameter port make of it
(R442 to R452).
-/
namespace Sys2Proof.Machine

/-! ### Reports (R444 to R446) -/

/-- What the Annex holds, but for its waiting reports and what the port has taken from a post. -/
def Anx.held (x : Anx) : Anx :=
  { x with waiting := [], repostAt := 0, skipped := 0, ident := none, statusAt := 0, diff := none, told := 0 }

theorem anxPset_anx (s : State) (n : Nat) : (s.anxPset n).anx = s.anx := by
  unfold State.anxPset
  dsimp only
  split
  · rw [post_anx, wr_anx]
  · rw [wr_anx]

theorem anxStatus_held (s : State) (b : List Byte) : (s.anxStatus b).anx.held = s.anx.held := by
  unfold State.anxStatus
  extract_lets +onlyGivenNames sw wc count porter moved full s1 u2 src s2 s3 s4 now
  have h2 : s2.anx.held = s.anx.held := rfl
  have h3 : s3.anx = s2.anx := by
    simp only [s3]
    split
    · rw [post_anx]
    · rfl
  have h4 : s4.anx.held = s.anx.held := by
    simp only [s4]
    split
    · rw [post_anx, h3, h2]
    · rw [h3, h2]
  split
  · exact h4
  · split
    · rw [post_anx]
      exact h4
    · exact h4

theorem foldl_wr_keeps {α : Type} {g : State → α} (hg : ∀ (s : State) (f : Fld) (v : Nat), g (s.wr f v) = g s) (s : State)
    (l : List Nat) (f : Nat → Fld) (v : Nat → Nat) : g (l.foldl (fun u i => u.wr (f i) (v i)) s) = g s := by
  induction l generalizing s with
  | nil => rfl
  | cons i l ih => exact (ih (s.wr (f i) (v i))).trans (hg s _ _)

theorem anxTake_held (s : State) (kind param : Nat) (b : List Byte) : (s.anxTake kind param b).anx.held = s.anx.held := by
  unfold State.anxTake
  split_ifs
  · dsimp only
    rw [anxPset_anx]
    rfl
  · dsimp only
    rw [foldl_wr_keeps wr_anx, wr_anx, wr_anx]
  · rfl
  · exact anxStatus_held s b
  · rfl

/-- A post of the Annex changes nothing that it holds. -/
theorem anxPost_held (s : State) (ch kind param : Nat) (b : List Byte) :
    (s.anxPost ch kind param b).1.anx.held = s.anx.held := by
  unfold State.anxPost
  extract_lets +onlyGivenNames full s1 s2 s3
  have h2 : s2.anx = s.anx := by
    simp only [s2, s1]
    rw [answer_anx, wr_anx, foldl_wr_keeps wr_anx]
  have h3 : s3.anx = s.anx := by
    rw [← h2]
    exact State.pgnPostWrite_frame (F := fun p => p != .anx) s2 .annex ch _ rfl (fr_self _ s2) .anx rfl
  split_ifs
  · rfl
  · exact anxTake_held _ _ _ _
  · exact (anxTake_held _ _ _ _).trans (congrArg Anx.held h3)
  · exact congrArg Anx.held h3

/-- A report leaves what the Annex holds, the time and the module's identity. -/
structure AnxKeeps (s t : State) : Prop where
  held : t.anx.held = s.anx.held
  frc : t.frc = s.frc
  ident : t.ident = s.ident

theorem AnxKeeps.trans {s t u : State} (h : AnxKeeps s t) (h' : AnxKeeps t u) : AnxKeeps s u :=
  ⟨h'.held.trans h.held, h'.frc.trans h.frc, h'.ident.trans h.ident⟩

theorem AnxKeeps.field {s t : State} (h : AnxKeeps s t) {α : Type} (f : Anx → α) (hf : ∀ x : Anx, f x.held = f x) :
    f t.anx = f s.anx := by rw [← hf, h.held, hf]

theorem AnxKeeps.capOn {s t : State} (h : AnxKeeps s t) (f : Fld) : t.capOn f = s.capOn f := by
  rw [State.capOn, State.cap, State.caps, h.ident, State.capOn, State.cap, State.caps]

theorem anxReport_keeps (s : State) (kind : Nat) (b : List Byte) : AnxKeeps s (s.anxReport kind b) where
  held := by
    unfold State.anxReport
    extract_lets r
    split_ifs
    · exact anxPost_held s 31 kind 0 b
    · exact anxPost_held s 31 kind 0 b
    · rfl
    · rfl
  frc := State.anxReport_frame (F := fun p => p != .frc) s kind b rfl (fr_self _ s) .frc rfl
  ident := State.anxReport_frame (F := fun p => p != .ident) s kind b rfl (fr_self _ s) .ident rfl

theorem anxIdentify_keeps (s : State) : AnxKeeps s s.anxIdentify :=
  (anxReport_keeps s _ _).trans (anxReport_keeps _ _ _)

/-! ### The Sealed Guestbook (R451) -/

/-- The record that is written next. -/
def State.anxNext (s : State) (scode p1 p2 p3 : Nat) : AnxRec :=
  let last := s.anx.sgb.length == 8191
  { scode := if last then 0x0041 else scode, flags := b2n s.anx.hold + 2 * b2n s.anx.switch, sseq := s.anx.sseq + 1
    sec := secsOf s.anxClock, pset := s.anx.pset, p1 := if last then scode else p1 % 2 ^ 32
    p2 := if last then 0 else p2 % 2 ^ 32, p3 := if last then 0 else p3 % 2 ^ 32 }

/-- The state in which a record is held. -/
def State.anxHold (s : State) (r : AnxRec) : State :=
  { s with anx := { s.anx with sgb := s.anx.sgb ++ [r], sseq := s.anx.sseq + 1 } }

theorem anxRecord_full {s : State} (h : 8192 ≤ s.anx.sgb.length) (scode p1 p2 p3 : Nat) :
    s.anxRecord scode p1 p2 p3 = s := if_pos h

theorem anxRecord_room {s : State} (h : ¬ 8192 ≤ s.anx.sgb.length) (scode p1 p2 p3 : Nat) :
    s.anxRecord scode p1 p2 p3 =
      (s.anxHold (s.anxNext scode p1 p2 p3)).anxReport 0x12 (s.anxNext scode p1 p2 p3).bytes := if_neg h

theorem anxRecord_keeps (s : State) (scode p1 p2 p3 : Nat) :
    AnxKeeps (if 8192 ≤ s.anx.sgb.length then s else s.anxHold (s.anxNext scode p1 p2 p3)) (s.anxRecord scode p1 p2 p3) := by
  split
  next h => exact (anxRecord_full h scode p1 p2 p3).symm ▸ ⟨rfl, rfl, rfl⟩
  next h => exact (anxRecord_room h scode p1 p2 p3).symm ▸ anxReport_keeps _ _ _

/-- Beside the log, a record leaves what the Annex holds. -/
theorem anxRecord_field (s : State) (scode p1 p2 p3 : Nat) {α : Type} (f : Anx → α) (hf : ∀ x : Anx, f x.held = f x)
    (hlog : ∀ (x : Anx) (l : List AnxRec) (n : Nat), f { x with sgb := l, sseq := n } = f x) :
    f (s.anxRecord scode p1 p2 p3).anx = f s.anx := by
  rw [(anxRecord_keeps s scode p1 p2 p3).field f hf]
  split
  · rfl
  · exact hlog _ _ _

theorem anxRecord_frc (s : State) (scode p1 p2 p3 : Nat) : (s.anxRecord scode p1 p2 p3).frc = s.frc :=
  State.anxRecord_frame (F := fun p => p != .frc) s scode p1 p2 p3 rfl (fr_self _ s) .frc rfl

theorem anxRecord_capOn (s : State) (scode p1 p2 p3 : Nat) (f : Fld) :
    (s.anxRecord scode p1 p2 p3).capOn f = s.capOn f :=
  have h : (s.anxRecord scode p1 p2 p3).ident = s.ident :=
    State.anxRecord_frame (F := fun p => p != .ident) s scode p1 p2 p3 rfl (fr_self _ s) .ident rfl
  by rw [State.capOn, State.cap, State.caps, h, State.capOn, State.cap, State.caps]

theorem anxRecord_sgb_length (s : State) (scode p1 p2 p3 : Nat) :
    (s.anxRecord scode p1 p2 p3).anx.sgb.length = min (s.anx.sgb.length + 1) (max s.anx.sgb.length 8192) := by
  rw [(anxRecord_keeps s scode p1 p2 p3).field Anx.sgb fun _ => rfl]
  split
  next h => omega
  next h =>
    have hlen : (s.anxHold (s.anxNext scode p1 p2 p3)).anx.sgb.length = s.anx.sgb.length + 1 := by
      simp only [State.anxHold, List.length_append, List.length_singleton]
    omega

/-! ### The measuring engine (R442 to R446) -/

theorem anxOn_capOn {s : State} (h : s.anxOn = true) : s.capOn Reg.SYS_CAPS_ANX = true := (Bool.and_eq_true_iff.1 h).1

theorem waitTo_anx (s : State) (n : Nat) : (s.waitTo n).anx = s.anx :=
  State.waitTo_frame (F := fun p => p != .anx) s n rfl (fr_self _ s) .anx rfl

theorem not_anxOn {s : State} (h : s.anxOn = true) : ¬ (!s.anxOn) = true := by rw [h]; decide

theorem annexInterval_complete (s : State) (pulses : List AnxPulse) (currents : List AnxCurrent) (h : s.anxOn = true) :
    exec (.annexInterval pulses currents) s = .next ((let u := s.waitTo (s.anx.intAt + 10000000)
        let u : State := { u with anx := { u.anx with ms10 := u.anx.ms10 + 1, intAt := u.safClock } }
        let u := (List.range 4).foldl (fun (u : State) i => match currents[i]? with
          | some c => u.anxCurrent i c
          | none => u) u
        let x := if u.anx.fault then u.anx else (List.range 4).foldl (fun (x : Anx) l => x.measure l ((pulses[l]?).getD ⟨0, false⟩)) u.anx
        let x := x.due.foldl (fun x c => x.change c) x
        { u with anx := { x with due := [], t2 := u.anxClock } })) :=
  if_neg (not_anxOn h)

theorem annexResultPost_complete (s u : State) (h : s.anxOn = true)
    (hu : u = s.waitTo (s.anx.resultAt + s.anx.par 0x41 * 1000000)) :
    exec .annexResultPost s = .next (((List.range 4).filter (fun l => s.anx.lineOn l)).foldl (fun (s : State) l =>
          let r := s.anxPost 30 0x01 s.anx.pset (s.anxResult l)
          let y := s.anx.line l
          let t := r.1.useFree
          { t with anx := { t.anx.setLine l { y with rseq := y.rseq + 1, since := y.mass } with dropped := t.anx.dropped + b2n (!r.2) } })
          ({ u with anx := { u.anx with resultAt := u.safClock } } : State)) := by
  subst hu
  show execAnnexResultPost s = _
  unfold execAnnexResultPost
  rw [if_neg (not_anxOn h)]
  dsimp only
  have hl : ∀ l, Anx.lineOn { (s.waitTo (s.anx.resultAt + s.anx.par 0x41 * 1000000)).anx with
      resultAt := (s.waitTo (s.anx.resultAt + s.anx.par 0x41 * 1000000)).safClock } l = s.anx.lineOn l := by
    intro l
    rw [waitTo_anx]
    rfl
  simp only [hl]

theorem annexResultPost_idle (s : State) (h : s.anxOn = true) (hl : ∀ l < 4, s.anx.lineOn l = false) :
    Nexts (exec .annexResultPost s) (fun t => t.anx = { s.anx with resultAt := t.safClock } ∧
      t.frc = (s.waitTo (s.anx.resultAt + s.anx.par 0x41 * 1000000)).frc) := by
  have hnone : (List.range 4).filter (fun l => s.anx.lineOn l) = [] :=
    List.filter_eq_nil_iff.2 fun l hm => by rw [hl l (List.mem_range.1 hm)]; decide
  rw [annexResultPost_complete s _ h rfl, hnone, List.foldl_nil, nexts_next, waitTo_anx]
  exact ⟨rfl, rfl⟩

/-- The STATUS of the Annex, without its MAC. -/
def Anx.status (x : Anx) : List Byte :=
  leBytes 1 x.state ++ leBytes 1 (b2n x.switch) ++ leBytes 2 0 ++ leBytes 4 x.writeCnt ++ leBytes 4 x.sgb.length ++
    leBytes 4 (x.dropped + x.skipped) ++ leBytes 4 x.passes

theorem annexStatusPost_complete (s u : State) (h : s.anxOn = true) (hu : u = s.waitTo (s.anx.lastStat + 1000000000)) :
    exec .annexStatusPost s =
      .next (({ u with anx := { u.anx with lastStat := u.safClock } } : State).anxReport 0x13 s.anx.status) := by
  subst hu
  show execAnnexStatusPost s = _
  unfold execAnnexStatusPost
  rw [if_neg (not_anxOn h)]
  dsimp only
  rw [waitTo_anx]
  rfl

theorem annexStatusPost_waits (s : State) (h : s.anxOn = true) (hw : s.anx.waiting ≠ [])
    (hlen : s.anx.waiting.length < 256) :
    Nexts (exec .annexStatusPost s) (fun t => t.anx.waiting.map (fun x => x.1) =
      s.anx.waiting.map (fun x => x.1) ++ [0x13] ∧ t.regs = s.regs ∧ t.anx.lastStat = t.safClock) := by
  rw [annexStatusPost_complete s _ h rfl, nexts_next, State.anxReport]
  dsimp only
  rw [waitTo_anx, if_neg hw, if_pos hlen]
  exact ⟨List.map_append, waitTo_regs s _, rfl⟩

theorem annexReportRepost_complete (s u : State) (h : s.anxOn = true) (hw : s.anx.waiting ≠ [])
    (hu : u = s.waitTo (s.anx.repostAt + 1000000)) :
    exec .annexReportRepost s =
      .next (({ u with anx := { u.anx with repostAt := u.safClock } } : State).anxPostAll 256) := by
  subst hu
  exact if_neg (not_or.2 ⟨not_anxOn h, hw⟩)

theorem annexSelfTest_complete (s : State) (pass : Bool) (h : s.anxOn = true) :
    Nexts (exec (.annexSelfTest pass) s) (fun t => t.anx =
      { s.anx with passes := (s.anx.passes + 1) % 2 ^ 32, fault := s.anx.fault || !pass }) := by
  show Nexts (execAnnexSelfTest pass s) _
  rw [execAnnexSelfTest, if_pos h, nexts_next]

theorem annexTotalsCommit_complete (s : State) (h : s.anxOn = true) :
    Nexts (exec .annexTotalsCommit s) (fun t => t.anx = { s.anx with committed := s.anx.lines, commitAt := t.safClock } ∧
      t.frc = (s.waitTo (s.anx.commitAt + 1000000000)).frc) := by
  show Nexts (execAnnexTotalsCommit s) _
  rw [execAnnexTotalsCommit, if_pos h, nexts_next, State.anxCommit, waitTo_anx]
  exact ⟨rfl, rfl⟩

/-! ### The port and its time (R445, R447, R448) -/

/-- The port takes the identification that has arrived and shows it. -/
def State.anxIdentTaken (s : State) (b : List Byte) : State :=
  let u : State := { s with anx := { s.anx with ident := none, compared := true } }
  let u := (List.range 8).foldl (fun (u : State) i => u.wr (Reg.ANX_IFHASH i) (le (b.take 32) (4 * i) 4)) u
  let u := (u.wr Reg.ANX_SGB_PSET (le b 32 4)).wr Reg.ANX_SGB_COUNT (le b 36 4)
  (u.wr Reg.ANX_STAT_ID_VALID 1).post Un.anx 0x1201 (u.rd Reg.ANX_SERIAL) (u.rd Reg.ANX_ID) (le b 32 4)

theorem anxIdentTaken_anx (s : State) (b : List Byte) :
    (s.anxIdentTaken b).anx = { s.anx with ident := none, compared := true } := by
  unfold State.anxIdentTaken
  dsimp only
  rw [post_anx, wr_anx, wr_anx, wr_anx, foldl_wr_keeps wr_anx]

/-- The port shows whether the identification is that of ANXIF, and closes the channel where it is not. -/
def State.anxShowClosed (s : State) (v : Nat) : State := (s.wr Reg.ANX_STAT_IF_MISMATCH v).wr Reg.ANX_STAT_CLOSED v


theorem anxShowClosed_closed (s : State) {v : Nat} (hv : v < 2) : (s.anxShowClosed v).rd Reg.ANX_STAT_CLOSED = v :=
  (rd_wr_self _ Reg.ANX_STAT_CLOSED v (by decide)).trans (Nat.mod_eq_of_lt hv)

theorem anxShowClosed_mismatch (s : State) {v : Nat} (hv : v < 2) :
    (s.anxShowClosed v).rd Reg.ANX_STAT_IF_MISMATCH = v :=
  ((rd_wr_bits _ Reg.ANX_STAT_CLOSED _ v (by decide) (by decide)).trans
    (rd_wr_self s Reg.ANX_STAT_IF_MISMATCH v (by decide))).trans (Nat.mod_eq_of_lt hv)

/-- A state has the port's identification compared, and closed and differing as `v` says. -/
def AnxCompared (v : Bool) (t : State) : Prop :=
  t.anx.ident = none ∧ t.anx.compared = true ∧ t.on Reg.ANX_STAT_CLOSED = v ∧ t.on Reg.ANX_STAT_IF_MISMATCH = v

theorem AnxCompared.post {v : Bool} {t : State} (h : AnxCompared v t) (source code p1 p2 p3 : Nat) :
    AnxCompared v (t.post source code p1 p2 p3) := by
  unfold AnxCompared
  rw [post_anx, on_post _ _ _ _ _ _ Reg.ANX_STAT_CLOSED (by decide),
    on_post _ _ _ _ _ _ Reg.ANX_STAT_IF_MISMATCH (by decide)]
  exact h

theorem anxShowClosed_compared (s : State) (b : List Byte) (v : Bool) :
    AnxCompared v ((s.anxIdentTaken b).anxShowClosed (b2n v)) := by
  have hx : ((s.anxIdentTaken b).anxShowClosed (b2n v)).anx = { s.anx with ident := none, compared := true } :=
    anxIdentTaken_anx s b
  have hv : b2n v < 2 := by cases v <;> decide
  unfold AnxCompared
  rw [hx, State.on, State.on, anxShowClosed_closed _ hv, anxShowClosed_mismatch _ hv]
  exact ⟨rfl, rfl, by cases v <;> decide, by cases v <;> decide⟩

theorem anxIdentTaken_anxif (s : State) (b : List Byte) : (s.anxIdentTaken b).anxif = s.anxif := by
  have hfpl : (s.anxIdentTaken b).fpl = s.fpl := by
    unfold State.anxIdentTaken
    dsimp only
    rw [post_fpl, wr_fpl, wr_fpl, wr_fpl, foldl_wr_keeps wr_fpl]
  rw [State.anxif, State.plan, hfpl, State.anxif, State.plan]

theorem identIf_compares (s : State) (b : List Byte) (hl : s.locked = true) (hi : s.anx.ident = some b) :
    Nexts (exec .identIf s) (AnxCompared (decide (b.take 32 ≠ s.anxif))) := by
  show Nexts (execIdentIf s) _
  unfold execIdentIf
  split
  next h => exact absurd (hi.symm.trans h) (Option.some_ne_none b)
  next b' h =>
    obtain rfl : b = b' := Option.some.inj (hi.symm.trans h)
    rw [if_neg (show ¬ (!s.locked) = true by rw [hl]; decide)]
    extract_lets +onlyGivenNames hash first src u0 u1 u2 u was opens closes
    have hif : u.anxif = s.anxif := anxIdentTaken_anxif s b
    rw [hif]
    by_cases heq : hash = s.anxif
    · have hopens : AnxCompared false opens := anxShowClosed_compared s b false
      rw [if_pos heq, nexts_next, decide_eq_false (not_not.2 heq)]
      split
      · exact hopens.post _ _ _ _ _
      · exact hopens
    · have hcloses : AnxCompared true closes := anxShowClosed_compared s b true
      rw [if_neg heq, decide_eq_true heq]
      extract_lets first'
      have hfirst : AnxCompared true first' := by
        simp only [first']
        split
        · exact hcloses.post _ _ _ _ _
        · exact hcloses
      rw [nexts_next]
      split
      · exact hfirst
      · exact hfirst.post _ _ _ _ _

theorem identIf_agrees (s : State) (b : List Byte) (hl : s.locked = true) (hi : s.anx.ident = some b)
    (hash : b.take 32 = s.anxif) : Nexts (exec .identIf s) (AnxCompared false) := by
  rw [← decide_eq_false (not_not.2 hash)]
  exact identIf_compares s b hl hi

theorem identIf_differs (s : State) (b : List Byte) (hl : s.locked = true) (hi : s.anx.ident = some b)
    (hash : b.take 32 ≠ s.anxif) : Nexts (exec .identIf s) (AnxCompared true) := by
  rw [← decide_eq_true hash]
  exact identIf_compares s b hl hi

theorem annexStatusLost_shows (s : State) (hc : s.capOn Reg.SYS_CAPS_ANX = true) (hl : s.locked = true)
    (hlost : s.on Reg.ANX_STAT_STATUS_LOST = false) : Nexts (exec .annexStatusLost s) (fun t =>
      t.on Reg.ANX_STAT_STATUS_LOST = true ∧ t.frc = max s.frc (s.anx.statusAt + 3000000000)) := by
  show Nexts (execAnnexStatusLost s) _
  rw [execAnnexStatusLost, if_pos ⟨hc, hl, by rw [hlost]; rfl⟩, nexts_next, post_frc,
    on_post _ _ _ _ _ _ Reg.ANX_STAT_STATUS_LOST (by decide), on_wr_self _ _ _ (by decide)]
  exact ⟨rfl, rfl⟩

/-! #### Time words -/

/-- A time word is on its way. -/
def State.wordSent (s : State) : State :=
  { s with anx := { s.anx with sent := s.timeWord, sentAt := some s.frc, reident := s.anx.reident - 1 } }

/-- The Annex sees whether a word carries REIDENT. -/
def State.wordAsks (s : State) (ask : Bool) : State := { s with anx := { s.anx with asked := ask } }

/-- The Annex has taken its time from a word. -/
def State.wordTaken (s : State) (word : Int) : State :=
  { s.anxRebase (word - s.anxClock) with
    anx := { (s.anxRebase (word - s.anxClock)).anx with hold := false, word, wordAt := s.safClock } }

theorem anxWord_eq (s : State) (word : Int) : s.anxWord word =
    if s.anx.hold then (s.wordTaken word).anxRecord 0x0031 (toBits 32 (word - s.anxClock)) 0 0 else s.wordTaken word := rfl

theorem anxWord_sent (s : State) (word : Int) :
    (s.anxWord word).frc = s.frc ∧ (s.anxWord word).anx.sent = s.anx.sent ∧
      (s.anxWord word).anx.sentAt = s.anx.sentAt := by
  rw [anxWord_eq]
  split
  · rw [anxRecord_frc, anxRecord_field _ _ _ _ _ Anx.sent (fun _ => rfl) fun _ _ _ => rfl,
      anxRecord_field _ _ _ _ _ Anx.sentAt (fun _ => rfl) fun _ _ _ => rfl]
    exact ⟨rfl, rfl, rfl⟩
  · exact ⟨rfl, rfl, rfl⟩

theorem exec_timeWordSend (s : State) (good : Bool) (hr : s.power.running = true)
    (hc : s.capOn Reg.SYS_CAPS_ANX = true) : exec (.timeWordSend good) s =
      let ask : Bool := s.anx.reident != 0
      if !s.anxOn ∨ !good then .next s.wordInstant.wordSent
      else
        let u := s.wordInstant.wordSent.wordAsks ask
        let v := if ask && !s.anx.asked then u.anxIdentify else u
        .next (if v.on Reg.TIM_STAT_C2_VALID then v.anxWord v.t2 else v) :=
  if_neg (by rw [hr, hc]; decide)

theorem timeWordSend_sent (s : State) (good : Bool) (u : State) (hr : s.power.running = true)
    (hc : s.capOn Reg.SYS_CAPS_ANX = true) (hu : u = s.wordInstant) : Nexts (exec (.timeWordSend good) s) (fun t =>
      t.frc = u.frc ∧ t.anx.sent = u.timeWord ∧ t.anx.sentAt = some u.frc) := by
  rw [exec_timeWordSend s good hr hc, ← hu]
  extract_lets ask w v
  have hv : v.frc = u.frc ∧ v.anx.sent = u.timeWord ∧ v.anx.sentAt = some u.frc := by
    simp only [v]
    split
    · have hk := anxIdentify_keeps w
      exact ⟨hk.frc, hk.field Anx.sent fun _ => rfl, hk.field Anx.sentAt fun _ => rfl⟩
    · exact ⟨rfl, rfl, rfl⟩
  split
  · exact (nexts_next _ _).2 ⟨rfl, rfl, rfl⟩
  · rw [nexts_next]
    split
    · obtain ⟨hfrc, hsent, hat⟩ := anxWord_sent v v.t2
      rw [hfrc, hsent, hat]
      exact hv
    · exact hv

theorem timeWordSend_taken (s u : State) (hr : s.power.running = true) (h : s.anxOn = true) (hre : s.anx.reident = 0)
    (hv : s.on Reg.TIM_STAT_C2_VALID = true) (hu : u = s.wordInstant) (hh : s.anx.hold = false) :
    Nexts (exec (.timeWordSend true) s) (fun t => t.anx.word = u.t2 ∧ t.anx.wordAt = u.safClock ∧
      t.anx.offset = u.t2 - u.anxClock ∧ t.anx.hold = false) := by
  rw [exec_timeWordSend s true hr (anxOn_capOn h), ← hu, hre]
  extract_lets ask w v
  have hvw : v = w := if_neg Bool.false_ne_true
  have hvalid : w.on Reg.TIM_STAT_C2_VALID = true := by
    show u.on Reg.TIM_STAT_C2_VALID = true
    rw [hu]
    exact hv
  have hhold : ¬ w.anx.hold = true := by
    show ¬ u.anx.hold = true
    rw [hu]
    exact ne_true_of_eq_false hh
  rw [if_neg (by rw [h]; decide), nexts_next, hvw, if_pos hvalid, anxWord_eq, if_neg hhold]
  exact ⟨rfl, rfl, rfl, rfl⟩

theorem annexTimeHold_holds (s : State) (h : s.anxOn = true) (hh : s.anx.hold = false) :
    Nexts (exec .annexTimeHold s) (fun t => t.anx.hold = true ∧ t.anx.offset = 0 ∧
      t.frc = (s.waitTo (s.anx.wordAt + 10000000)).frc ∧
      t.anx.sgb.length = min (s.anx.sgb.length + 1) (max s.anx.sgb.length 8192)) := by
  show Nexts (execAnnexTimeHold s) _
  rw [execAnnexTimeHold, if_pos ⟨h, by rw [hh]; rfl⟩, nexts_next, anxRecord_frc,
    anxRecord_field _ _ _ _ _ Anx.hold (fun _ => rfl) fun _ _ _ => rfl,
    anxRecord_field _ _ _ _ _ Anx.offset (fun _ => rfl) fun _ _ _ => rfl]
  have hlog : (s.waitTo (s.anx.wordAt + 10000000)).anx.sgb = s.anx.sgb := congrArg Anx.sgb (waitTo_anx s _)
  refine ⟨rfl, rfl, rfl, (anxRecord_sgb_length _ _ _ _ _).trans ?_⟩
  rw [← hlog]
  rfl

/-! ### The parameter port (R443, R449 to R451) -/

theorem anxOn_of_eq {s t : State} (h : s.anxOn = true) (hi : t.ident = s.ident) (hx : t.anx = s.anx) :
    t.anxOn = true := by
  rw [State.anxOn, State.capOn, State.cap, State.caps, hi, hx]
  exact h

theorem annexWriteSwitch_moves (s : State) (write : Bool) (h : s.anxOn = true) (hw : s.anx.switch ≠ write) :
    Nexts (exec (.annexWriteSwitch write) s) (fun t =>
      t.anx.switch = write ∧ t.anx.writeCnt = s.anx.writeCnt + b2n write) := by
  show Nexts (execAnnexWriteSwitch write s) _
  unfold execAnnexWriteSwitch
  rw [if_neg (by rw [anxOn_capOn h]; decide)]
  extract_lets +onlyGivenNames u1 u2 src u x v
  have hu2 : u2.anx = s.anx ∧ u2.ident = s.ident := by
    simp only [u2]
    split
    · exact ⟨rfl, rfl⟩
    · exact ⟨rfl, rfl⟩
  have hu : u.anx = s.anx ∧ u.ident = s.ident := by
    simp only [u]
    split
    · exact ⟨rfl, rfl⟩
    · split
      · rw [post_anx, post_ident]
        exact hu2
      · exact hu2
  have hmoves : u.anxOn = true ∧ (u.anx.switch != write) = true :=
    ⟨anxOn_of_eq h hu.2 hu.1, by rw [hu.1]; exact bne_iff_ne.2 hw⟩
  rw [if_pos hmoves, nexts_next, anxRecord_field _ _ _ _ _ Anx.switch (fun _ => rfl) fun _ _ _ => rfl,
    anxRecord_field _ _ _ _ _ Anx.writeCnt (fun _ => rfl) fun _ _ _ => rfl]
  exact ⟨rfl, congrArg (fun y : Anx => y.writeCnt + b2n write) hu.1⟩

theorem readParam_answers (s : State) (nums : List (Fin 0x42)) (h : s.anxOn = true) :
    Nexts (exec (.readParam nums) s) (fun t =>
      t.anx.answer = nums.flatMap (fun n => leBytes 4 (s.anx.par n.val)) ∧ t.regs = s.regs) := by
  show Nexts (execReadParam nums s) _
  rw [execReadParam, if_pos h, nexts_next]
  exact ⟨rfl, rfl⟩

theorem readLog_answers (s : State) (h : s.anxOn = true) : Nexts (exec .readLog s) (fun t =>
      t.anx.answer = s.anx.sgb.flatMap (fun r => r.bytes) ∧ t.regs = s.regs) := by
  show Nexts (execReadLog s) _
  rw [execReadLog, if_pos h, nexts_next]
  exact ⟨rfl, rfl⟩

theorem readTotals_answers (s : State) (h : s.anxOn = true) : Nexts (exec .readTotals s) (fun t =>
      t.anx.answer = (List.range 4).flatMap (fun l => leBytes 8 (toBits 64 (s.anx.line l).mass.floor) ++
        leBytes 8 (toBits 64 (s.anx.line l).v15.floor) ++ leBytes 8 (toBits 64 (s.anx.line l).vol.floor)) ∧
      t.regs = s.regs) := by
  show Nexts (execReadTotals s) _
  rw [execReadTotals, if_pos h, nexts_next]
  exact ⟨rfl, rfl⟩

/-! #### Changes of parameters -/

/-- A changed parameter is recorded; what waits for the next interval and PSET stay. -/
theorem anxChanged_field (s : State) (c : AnxChange) {α : Type} (f : Anx → α) (hf : ∀ x : Anx, f x.held = f x)
    (hlog : ∀ (x : Anx) (l : List AnxRec) (n : Nat), f { x with sgb := l, sseq := n } = f x) :
    f (s.anxChanged c).anx = f s.anx := by
  unfold State.anxChanged
  dsimp only
  split
  · exact anxRecord_field _ _ _ _ _ f hf hlog
  · exact anxRecord_field _ _ _ _ _ f hf hlog

theorem foldl_anxChanged_field (s : State) (l : List AnxChange) {α : Type} (f : Anx → α)
    (hf : ∀ x : Anx, f x.held = f x)
    (hlog : ∀ (x : Anx) (l : List AnxRec) (n : Nat), f { x with sgb := l, sseq := n } = f x) :
    f (l.foldl (fun s c => s.anxChanged c) s).anx = f s.anx := by
  induction l generalizing s with
  | nil => rfl
  | cons c l ih => exact (ih (s.anxChanged c)).trans (anxChanged_field s c f hf hlog)

theorem writeParam_accepted (s : State) (changes : List AnxChange) (h : s.anxOn = true) (hne : changes ≠ [])
    (hlen : changes.length ≤ 16)
    (hok : changes.find? (fun c => !anxValueOk (s.anx.parWith changes) c.key c.num.val) = none)
    (hlegal : (changes.any (fun c => c.num.val != 0x41) && !s.anx.switch) = false)
    (hroom : changes.length ≤ s.anx.room) :
    Nexts (exec (.writeParam changes) s) (fun t =>
      t.anx.due = s.anx.due ++ changes.map (fun c => (c.num.val, c.value.toNat, c.key)) ∧
      t.anx.pset = s.anx.pset + b2n (changes.any (fun c => c.num.val != 0x41))) := by
  show Nexts (execWriteParam changes s) _
  unfold execWriteParam
  rw [if_neg (by rw [h]; simpa using ⟨hne, hlen⟩)]
  extract_lets +onlyGivenNames x legal
  split
  next c hc => exact absurd (hok.symm.trans hc) (by simp)
  next hc =>
    rw [if_neg (by rw [← Bool.and_eq_true_iff, hlegal]; decide), if_neg (Nat.not_lt.2 hroom), nexts_next,
      foldl_anxChanged_field s changes Anx.due (fun _ => rfl) fun _ _ _ => rfl,
      foldl_anxChanged_field s changes Anx.pset (fun _ => rfl) fun _ _ _ => rfl]
    exact ⟨rfl, rfl⟩

/-! #### Software and log -/

/-- Whether the Annex runs, and what its software says of itself. -/
def Anx.software (x : Anx) : Bool × List Byte × Nat × Nat × List Byte × List Byte :=
  (x.powered, x.name, x.version, x.build, x.swchk, x.ifhash)

theorem anxStart_software (s : State) (hc : s.capOn Reg.SYS_CAPS_ANX = true) :
    s.anxStart.anx.software = (true, s.anx.name, s.anx.version, s.anx.build, s.anx.swchk, s.anx.ifhash) := by
  unfold State.anxStart
  rw [if_neg (by rw [hc]; decide)]
  extract_lets +onlyGivenNames x now u
  rw [(anxIdentify_keeps _).field Anx.software fun _ => rfl,
    anxRecord_field _ _ _ _ _ Anx.software (fun _ => rfl) fun _ _ _ => rfl]
  rfl

/-- The Annex holds the software that is loaded. -/
def State.anxLoaded (s : State) (name ifhash : List Byte) (version build : Nat) (swchk : List Byte) : State :=
  { s with anx := { s.anx with name, version, build, swchk, ifhash } }

theorem loadSoftware_loads (s : State) (image sig name ifhash : List Byte) (version build : BitVec 32)
    (h : s.anxOn = true) (hs : s.anx.switch = true) (hroom : 1 ≤ s.anx.room) :
    Nexts (exec (.loadSoftware image sig name ifhash version build) s) (fun t =>
      if Config.annexSignatureGood (Config.sha256 image) sig then t.anx.name = name ∧ t.anx.version = version.toNat ∧
        t.anx.build = build.toNat ∧ t.anx.swchk = Config.sha256 image ∧ t.anx.ifhash = ifhash ∧ t.anx.powered = true
      else t = s.anxRefuse anxCmdLoad anxSignature 0) := by
  show Nexts (execLoadSoftware image sig name ifhash version build s) _
  unfold execLoadSoftware
  rw [if_neg (not_anxOn h)]
  extract_lets +onlyGivenNames x chk u
  rw [if_neg (by rw [hs]; decide), if_neg (Nat.not_lt.2 hroom)]
  by_cases hgood : Config.annexSignatureGood (Config.sha256 image) sig = true
  · rw [if_neg (by rw [hgood]; decide), nexts_next, if_pos hgood]
    have hsw := anxStart_software (u.anxLoaded name ifhash version.toNat build.toNat chk)
      ((anxRecord_capOn s _ _ _ _ _).trans (anxOn_capOn h))
    simp only [Anx.software, Prod.mk.injEq] at hsw
    obtain ⟨hp, hn, hv, hb, hc, hi⟩ := hsw
    exact ⟨hn, hv, hb, hc, hi, hp⟩
  · rw [if_pos (by rw [eq_false_of_ne_true hgood]; rfl), nexts_next, if_neg hgood]

theorem clearLog_clears (s : State) (hash : List Byte) (h : s.anxOn = true) (hs : s.anx.switch = true)
    (hh : hash = Config.sha256 (s.anx.sgb.flatMap (fun r => r.bytes))) :
    Nexts (exec (.clearLog hash) s) (fun t => t.anx.sgb.map (fun r => (r.scode, r.sseq, r.p1)) =
      [(0x0040, s.anx.sseq + 1, s.anx.sgb.length % 2 ^ 32)]) := by
  show Nexts (execClearLog hash s) _
  unfold execClearLog
  rw [if_neg (not_anxOn h)]
  dsimp only
  rw [if_neg (by rw [hs]; decide), if_neg (not_not.2 hh), nexts_next]
  have hempty : ¬ 8192 ≤ ({ s with anx := { s.anx with sgb := [] } } : State).anx.sgb.length := by simp
  rw [anxRecord_room hempty, (anxReport_keeps _ _ _).field Anx.sgb fun _ => rfl]
  rfl

theorem clearLog_needs_switch (s : State) (hash : List Byte) (h : s.anxOn = true) (hs : s.anx.switch = false) :
    exec (.clearLog hash) s = .next (s.anxRefuse anxCmdClear anxNoSwitch 0) := by
  show execClearLog hash s = _
  unfold execClearLog
  rw [if_neg (not_anxOn h)]
  exact if_pos (by rw [hs]; rfl)

theorem loadSoftware_needs_switch (s : State) (image sig name ifhash : List Byte) (version build : BitVec 32)
    (h : s.anxOn = true) (hs : s.anx.switch = false) :
    exec (.loadSoftware image sig name ifhash version build) s = .next (s.anxRefuse anxCmdLoad anxNoSwitch 0) := by
  show execLoadSoftware image sig name ifhash version build s = _
  unfold execLoadSoftware
  rw [if_neg (not_anxOn h)]
  exact if_pos (by rw [hs]; rfl)

end Sys2Proof.Machine
end

section
open Sys2Proof Sys2Proof.Machine

/-- Settles O51: the interval, the results, STATUS, the repost, the self-test and the commit of the totals. -/
theorem annexEngineComplete : Obligations.AnnexEngineComplete :=
  ⟨annexInterval_complete, annexResultPost_complete, annexResultPost_idle, annexStatusPost_complete,
    annexStatusPost_waits, annexReportRepost_complete, annexSelfTest_complete, annexTotalsCommit_complete⟩

/-- Settles O52: the identification, a STATUS that is missed, the time words and TIME_HOLD. -/
theorem annexPortComplete : Obligations.AnnexPortComplete :=
  ⟨identIf_agrees, identIf_differs, annexStatusLost_shows, timeWordSend_sent, timeWordSend_taken, annexTimeHold_holds⟩

/-- Settles O53: a record changes nothing of the Annex but its log, so what each command sets stands in the answer. -/
theorem annexParameterPortComplete : Obligations.AnnexParameterPortComplete :=
  ⟨annexWriteSwitch_moves, readParam_answers, readLog_answers, readTotals_answers, writeParam_accepted,
    loadSoftware_loads, loadSoftware_needs_switch, clearLog_clears, clearLog_needs_switch⟩

end

section
/-!
Supply, shutdown, the Porter, the start of the control domain and the election (R476 to R492).
-/
namespace Sys2Proof.Machine

/-! ### Supply and hold-up (R476 to R478) -/

theorem KeepsReg.pwrMeasure {a : Nat} {s t : State} (h : KeepsReg a s t) (x : PwrMeas) (h1 : a ≠ Reg.PWR_HOLDUP.addr)
    (h2 : a ≠ Reg.PWR_LOAD.addr) : KeepsReg a s (t.pwrMeasure x) :=
  (((h.wr (g := Reg.PWR_HOLDUP_ENERGY) _ h1).wr (g := Reg.PWR_HOLDUP_TIME) _ h1).wr (g := Reg.PWR_LOAD_NOW) _ h2).wr
    (g := Reg.PWR_LOAD_PEAK) _ h2

/-- Where the control domain does not run, a report waits: of the state it moves the Annex alone. -/
theorem anxReport_off {s : State} (h : s.power.running = false) (kind : Nat) (b : List Byte) :
    ∃ x, s.anxReport kind b = { s with anx := x } := by
  have hpost : s.anxPost 31 kind 0 b = (s, false) := if_pos (by rw [h]; rfl)
  unfold State.anxReport
  rw [hpost]
  dsimp only
  split_ifs
  · exact ⟨_, rfl⟩
  · exact ⟨_, rfl⟩
  · exact ⟨_, rfl⟩
  · exact ⟨_, rfl⟩

theorem anxRecord_off {s : State} (h : s.power.running = false) (scode p1 p2 p3 : Nat) :
    ∃ x, s.anxRecord scode p1 p2 p3 = { s with anx := x } := by
  by_cases hfull : 8192 ≤ s.anx.sgb.length
  · rw [anxRecord_full hfull]
    exact ⟨s.anx, rfl⟩
  · rw [anxRecord_room hfull]
    obtain ⟨x, hx⟩ := anxReport_off (s := s.anxHold (s.anxNext scode p1 p2 p3)) h 0x12 (s.anxNext scode p1 p2 p3).bytes
    exact ⟨x, hx⟩

theorem anxIdentify_off {s : State} (h : s.power.running = false) : ∃ x, s.anxIdentify = { s with anx := x } := by
  unfold State.anxIdentify
  extract_lets x u
  obtain ⟨y, hy⟩ : ∃ y, u = { s with anx := y } := anxReport_off h _ _
  obtain ⟨z, hz⟩ := anxReport_off (s := u) (by rw [hy]; exact h) 0x11 (x.ifhash ++ leBytes 4 x.pset ++
    leBytes 4 x.sgb.length ++ leBytes 4 (x.sseq + 1) ++ leBytes 4 0)
  exact ⟨z, by rw [hz, hy]⟩

/-- So does the Annex that starts then. -/
theorem anxStart_off {s : State} (h : s.power.running = false) : ∃ x, s.anxStart = { s with anx := x } := by
  unfold State.anxStart
  split
  · exact ⟨s.anx, rfl⟩
  · extract_lets +onlyGivenNames x now u
    obtain ⟨y, hy⟩ := anxRecord_off (s := u) h 0x0001 x.version x.writeCnt 0
    obtain ⟨z, hz⟩ := anxIdentify_off (s := u.anxRecord 0x0001 x.version x.writeCnt 0) (by rw [hy]; exact h)
    exact ⟨z, by rw [hz, hy]⟩

/-- Every part of the state but the counter, the memories, the plan and the Pigeonholes. -/
def startLeaves (p : Place) : Bool := p != .frc && p != .mem && p != .fpl && p != .pgn

/-- From one state to another those four are as they were. -/
structure StartLeaves (s t : State) : Prop where
  frc : t.frc = s.frc
  mem : t.mem = s.mem
  fpl : t.fpl = s.fpl
  pgn : t.pgn = s.pgn

namespace StartLeaves
variable {s t u : State}

theorem of_frame (h : Fr startLeaves s t) : StartLeaves s t := ⟨h .frc rfl, h .mem rfl, h .fpl rfl, h .pgn rfl⟩

theorem trans (h : StartLeaves s t) (h' : StartLeaves t u) : StartLeaves s u :=
  ⟨h'.frc.trans h.frc, h'.mem.trans h.mem, h'.fpl.trans h.fpl, h'.pgn.trans h.pgn⟩

end StartLeaves

/-- P0 (R476): main power is on, the control domain does not run yet, and its units are as they were. -/
theorem powerOn_starts (s : State) (rail restart : Bool) (off : Nat) :
    ((s.powerOn rail restart off).power.mainOn = true ∧ (s.powerOn rail restart off).power.running = false ∧
      (s.powerOn rail restart off).power.restart = restart ∧
      (s.powerOn rail restart off).power.sinceW = s.power.sinceW) ∧ StartLeaves s (s.powerOn rail restart off) := by
  unfold State.powerOn
  extract_lets +onlyGivenNames p src u0 u1 src' u2 u3 u4
  have h1 : StartLeaves s u1 :=
    StartLeaves.trans (t := u0) ⟨rfl, rfl, rfl, rfl⟩ (.of_frame (State.porterOn_frame (F := startLeaves) u0 off rfl (fr_self _ u0)))
  have h3 : StartLeaves s u3 := h1.trans ⟨rfl, rfl, rfl, rfl⟩
  have h4 : StartLeaves s u4 ∧ u4.power = u3.power := by
    simp only [u4]
    split
    · exact ⟨h3.trans (.of_frame (State.safRailUp_frame (F := startLeaves) u3 rfl (fr_self _ u3))),
        State.safRailUp_frame (F := fun p => p != .power) u3 rfl (fr_self _ u3) .power rfl⟩
    · exact ⟨h3, rfl⟩
  clear_value u4
  obtain ⟨hleft, hpower⟩ := h4
  have hp : u4.power.mainOn = true ∧ u4.power.running = false ∧ u4.power.restart = restart ∧
      u4.power.sinceW = s.power.sinceW := by
    rw [hpower]
    exact ⟨rfl, rfl, rfl, rfl⟩
  split
  · obtain ⟨x, hx⟩ := anxStart_off hp.2.1
    rw [hx]
    exact ⟨hp, hleft.trans ⟨rfl, rfl, rfl, rfl⟩⟩
  · exact ⟨hp, hleft⟩

/-! #### Inputs -/

/-- The input that a change is of, and the other one. -/
def ownInput (x : PowerInput) : Fld := if x.inB then Reg.PWR_STAT_IN_B else Reg.PWR_STAT_IN_A
def otherInput (x : PowerInput) : Fld := if x.inB then Reg.PWR_STAT_IN_A else Reg.PWR_STAT_IN_B
def shownInput (x : PowerInput) : Fld := if x.inB then Reg.PWR_IN_IN_B else Reg.PWR_IN_IN_A

/-- The change is valid (R476). -/
def inputValid (x : PowerInput) : Bool :=
  if x.present then decide (18000 ≤ x.mV.toNat) else decide (x.mV.toNat < 16500)

/-- A change is shown, and what the power unit measures. -/
def State.inputSeen (s : State) (x : PowerInput) : State :=
  ((s.wrB (ownInput x) x.present).wr (shownInput x) x.mV.toNat).pwrMeasure x.meas

theorem inputSeen_power (s : State) (x : PowerInput) : (s.inputSeen x).power = s.power := rfl
theorem inputSeen_frc (s : State) (x : PowerInput) : (s.inputSeen x).frc = s.frc := rfl

theorem shownInput_addr (x : PowerInput) : (shownInput x).addr = Reg.PWR_IN.addr := by
  unfold shownInput
  split <;> rfl

/-- It writes the input's bit of PWR_STAT and registers that show measurements. -/
theorem inputSeen_keeps (s : State) (x : PowerInput) {f : Fld} (ha : f.addr ≠ Reg.PWR_IN.addr ∧
    f.addr ≠ Reg.PWR_HOLDUP.addr ∧ f.addr ≠ Reg.PWR_LOAD.addr)
    (hown : KeepsFld f s (s.wrB (ownInput x) x.present)) : KeepsFld f s (s.inputSeen x) := by
  obtain ⟨hin, hhold, hload⟩ := ha
  have hshown : f.addr ≠ (shownInput x).addr := by rw [shownInput_addr]; exact hin
  exact (hown.wr _ hshown).of_reg (KeepsReg.self.pwrMeasure _ hhold hload)

/-- Another field of PWR_STAT, or of another register. -/
theorem keepsFld_own (s : State) (x : PowerInput) {f : Fld} (hf : f.addr ≠ Reg.PWR_STAT.addr ∨ 2 ≤ f.lo) :
    KeepsFld f s (s.wrB (ownInput x) x.present) := by
  have hown : (ownInput x).addr = Reg.PWR_STAT.addr ∧ (ownInput x).lo + (ownInput x).width ≤ 2 := by
    unfold ownInput
    split <;> decide
  obtain ⟨haddr, hbits⟩ := hown
  obtain hne | hlo := hf
  · exact KeepsFld.self.wr _ (by rw [haddr]; exact hne)
  · refine KeepsFld.self.wrBits _ (Nat.ble_eq_true_of_le (le_trans hbits (by decide))) ?_
    rw [Nat.ble_eq_true_of_le (le_trans hbits hlo), Bool.or_true]

theorem inputSeen_own (s : State) (x : PowerInput) : (s.inputSeen x).on (ownInput x) = x.present := by
  have hwrite : (s.wrB (ownInput x) x.present).on (ownInput x) = x.present := by
    unfold ownInput State.wrB
    split
    · rw [on_wr_self _ _ _ (by decide)]
      cases x.present <;> rfl
    · rw [on_wr_self _ _ _ (by decide)]
      cases x.present <;> rfl
  have haddr : (ownInput x).addr = Reg.PWR_STAT.addr := by
    unfold ownInput
    split <;> rfl
  have hkeep : KeepsFld (ownInput x) (s.wrB (ownInput x) x.present) (s.inputSeen x) :=
    (KeepsFld.self.wr _ (by rw [haddr, shownInput_addr]; decide)).of_reg
      (KeepsReg.self.pwrMeasure _ (by rw [haddr]; decide) (by rw [haddr]; decide))
  exact hkeep.on.trans hwrite

theorem inputSeen_other (s : State) (x : PowerInput) : (s.inputSeen x).on (otherInput x) = s.on (otherInput x) := by
  refine (inputSeen_keeps s x (f := (otherInput x)) ?_ ?_).on
  · unfold otherInput
    split <;> decide
  · unfold otherInput ownInput
    split
    · exact KeepsFld.self.wrBits _ rfl rfl
    · exact KeepsFld.self.wrBits _ rfl rfl

theorem exec_powerInputChange {s : State} {x : PowerInput} (hv : inputValid x = true) (hf : s.on (ownInput x) = !x.present) :
    exec (.powerInputChange x) s =
      if !s.power.mainOn then .next (if x.present then (s.inputSeen x).powerOn x.rail false x.off else s.inputSeen x)
      else
        let u := (s.inputSeen x).post Un.pwr 0x1401 (b2n x.inB) (b2n x.present) x.mV.toNat
        if !x.present then
          if u.on Reg.PWR_STAT_IN_A ∨ u.on Reg.PWR_STAT_IN_B then .next u
          else
            let u := (u.wr Reg.PWR_STAT_DIP 1).wr Reg.PWR_STAT_HOLDUP_OK 0
            .next { u with power := { u.power with dipAt := u.frc } }
        else if u.on Reg.PWR_STAT_DIP then
          let u := u.wr Reg.PWR_STAT_DIP 0
          if u.on Reg.PWR_STAT_PF_WARN then .next { u with power := { u.power with returned := true } }
          else
            let ms := (u.frc - u.power.dipAt) / 1000000
            let u := (u.bump Reg.PWR_DIPS_COUNT).wr Reg.PWR_DIPS_LONGEST (min (max ms (u.rd Reg.PWR_DIPS_LONGEST)) 0xFFFF)
            .next (u.post Un.pwr 0x1403 ms x.low.toNat 0)
        else .next u := by
  have hgo : ¬ ((!(inputValid x)) = true ∨ s.on (ownInput x) = x.present) := by
    rw [hv, hf]
    cases x.present <;> decide
  exact if_neg hgo

theorem powerInput_starts (s : State) (x : PowerInput) (hp : x.present = true) (hv : 18000 ≤ x.mV.toNat)
    (hf : s.on (if x.inB then Reg.PWR_STAT_IN_B else Reg.PWR_STAT_IN_A) = false) (hm : s.power.mainOn = false) :
    Nexts (exec (.powerInputChange x) s) (fun t =>
      t.power.mainOn = true ∧ t.power.running = false ∧ t.power.restart = false) := by
  have hvalid : inputValid x = true := by rw [inputValid, hp]; exact decide_eq_true hv
  rw [exec_powerInputChange hvalid (by rw [hp]; exact hf), hm, if_pos (by rfl), hp, if_pos rfl, nexts_next]
  obtain ⟨⟨hmain, hrun, hrestart, -⟩, -⟩ := powerOn_starts (s.inputSeen x) x.rail false x.off
  exact ⟨hmain, hrun, hrestart⟩

theorem powerInput_dips (s : State) (x : PowerInput) (hp : x.present = false) (hv : x.mV.toNat < 16500)
    (hf : s.on (if x.inB then Reg.PWR_STAT_IN_B else Reg.PWR_STAT_IN_A) = true)
    (ho : s.on (if x.inB then Reg.PWR_STAT_IN_A else Reg.PWR_STAT_IN_B) = false) (hm : s.power.mainOn = true) :
    Nexts (exec (.powerInputChange x) s) (fun t => t.on Reg.PWR_STAT_DIP = true ∧
      t.on Reg.PWR_STAT_HOLDUP_OK = false ∧ t.power.dipAt = s.frc) := by
  have hvalid : inputValid x = true := by rw [inputValid, hp]; exact decide_eq_true hv
  rw [exec_powerInputChange hvalid (by rw [hp]; exact hf), hm, if_neg (by decide)]
  extract_lets u v
  have hown : u.on (ownInput x) = false := by
    rw [on_post _ _ _ _ _ _ _ (by unfold ownInput; split <;> decide), inputSeen_own, hp]
  have hother : u.on (otherInput x) = false := by
    rw [on_post _ _ _ _ _ _ _ (by unfold otherInput; split <;> decide), inputSeen_other]
    exact ho
  have hnone : ¬ (u.on Reg.PWR_STAT_IN_A = true ∨ u.on Reg.PWR_STAT_IN_B = true) := by
    unfold ownInput at hown
    unfold otherInput at hother
    cases hB : x.inB
    · rw [hB] at hown hother
      exact not_or.2 ⟨ne_true_of_eq_false hown, ne_true_of_eq_false hother⟩
    · rw [hB] at hown hother
      exact not_or.2 ⟨ne_true_of_eq_false hother, ne_true_of_eq_false hown⟩
  rw [if_pos (by rw [hp]; rfl), if_neg hnone, nexts_next]
  refine ⟨?_, ?_, ?_⟩
  · show ((u.wr Reg.PWR_STAT_DIP 1).wr Reg.PWR_STAT_HOLDUP_OK 0).on Reg.PWR_STAT_DIP = true
    rw [on_wr_bits _ _ _ _ (by decide) (by decide), on_wr_self _ _ _ (by decide)]
    rfl
  · show ((u.wr Reg.PWR_STAT_DIP 1).wr Reg.PWR_STAT_HOLDUP_OK 0).on Reg.PWR_STAT_HOLDUP_OK = false
    rw [on_wr_self _ _ _ (by decide)]
    rfl
  · show u.frc = s.frc
    rw [post_frc, inputSeen_frc]

theorem powerInput_recovers (s : State) (x : PowerInput) (hp : x.present = true) (hv : 18000 ≤ x.mV.toNat)
    (hf : s.on (if x.inB then Reg.PWR_STAT_IN_B else Reg.PWR_STAT_IN_A) = false) (hm : s.power.mainOn = true)
    (hd : s.on Reg.PWR_STAT_DIP = true) (hw : s.on Reg.PWR_STAT_PF_WARN = false) :
    Nexts (exec (.powerInputChange x) s) (fun t => t.on Reg.PWR_STAT_DIP = false ∧
      t.rd Reg.PWR_DIPS_COUNT = satInc 16 (s.rd Reg.PWR_DIPS_COUNT) ∧
      t.rd Reg.PWR_DIPS_LONGEST =
        min (max ((s.frc - s.power.dipAt) / 1000000) (s.rd Reg.PWR_DIPS_LONGEST)) 0xFFFF) := by
  have hvalid : inputValid x = true := by rw [inputValid, hp]; exact decide_eq_true hv
  rw [exec_powerInputChange hvalid (by rw [hp]; exact hf), hm, if_neg (by decide)]
  extract_lets u v p w q ms z
  have hkeep : ∀ f : Fld, f.addr ≠ Reg.PWR_IN.addr ∧ f.addr ≠ Reg.PWR_HOLDUP.addr ∧ f.addr ≠ Reg.PWR_LOAD.addr →
      f.addr ≠ Reg.PWR_STAT.addr ∨ 2 ≤ f.lo → unitOf f.addr ≠ Un.gb → KeepsFld f s u := fun f ha hf hgb =>
    (inputSeen_keeps s x ha (keepsFld_own s x hf)).post _ _ _ _ _ hgb
  have hdip : u.on Reg.PWR_STAT_DIP = true := (hkeep _ (by decide) (by decide) (by decide)).on.trans hd
  have hwarn : ¬ w.on Reg.PWR_STAT_PF_WARN = true := by
    rw [on_wr_bits _ _ _ _ (by decide) (by decide), (hkeep _ (by decide) (by decide) (by decide)).on, hw]
    decide
  have hcount : w.rd Reg.PWR_DIPS_COUNT = s.rd Reg.PWR_DIPS_COUNT :=
    ((hkeep _ (by decide) (by decide) (by decide)).wr (g := Reg.PWR_STAT_DIP) 0 (by decide)).rd
  have hlongest : w.rd Reg.PWR_DIPS_LONGEST = s.rd Reg.PWR_DIPS_LONGEST :=
    ((hkeep _ (by decide) (by decide) (by decide)).wr (g := Reg.PWR_STAT_DIP) 0 (by decide)).rd
  have hms : ms = (s.frc - s.power.dipAt) / 1000000 := by
    show (u.frc - u.power.dipAt) / 1000000 = _
    rw [post_frc, post_power, inputSeen_frc, inputSeen_power]
  rw [if_neg (by rw [hp]; decide), if_pos hdip, if_neg hwarn, nexts_next]
  refine ⟨?_, ?_, ?_⟩
  · rw [on_post _ _ _ _ _ _ Reg.PWR_STAT_DIP (by decide), on_wr_addr _ _ _ _ (by decide)]
    show (w.wr Reg.PWR_DIPS_COUNT _).on Reg.PWR_STAT_DIP = false
    rw [on_wr_addr _ _ _ _ (by decide), on_wr_self _ _ _ (by decide)]
    rfl
  · rw [rd_post _ _ _ _ _ _ Reg.PWR_DIPS_COUNT (by decide), rd_wr_bits _ _ _ _ (by decide) (by decide),
      rd_bump_self _ _ (by decide), hcount]
    rfl
  · rw [rd_post _ _ _ _ _ _ Reg.PWR_DIPS_LONGEST (by decide),
      rd_wr_fits _ _ rfl (Nat.lt_of_le_of_lt (Nat.min_le_right _ _) (by decide)), hms, hlongest]

/-! #### The store, and W -/

theorem holdupFull_shows (s : State) (meas : PwrMeas) (hm : s.power.mainOn = true)
    (hd : s.on Reg.PWR_STAT_DIP = false) (hw : s.on Reg.PWR_STAT_PF_WARN = false)
    (ho : s.on Reg.PWR_STAT_HOLDUP_OK = false) : Nexts (exec (.holdupFull meas) s) (fun t =>
      t.on Reg.PWR_STAT_RESERVE_OK = true ∧ t.on Reg.PWR_STAT_HOLDUP_OK = true ∧ t.power.reserved = true) := by
  have hgo : s.power.mainOn = true ∧ (!s.on Reg.PWR_STAT_DIP) = true ∧ (!s.on Reg.PWR_STAT_PF_WARN) = true ∧
      (!s.on Reg.PWR_STAT_HOLDUP_OK) = true := by
    rw [hm, hd, hw, ho]
    decide
  show Nexts (execHoldupFull meas s) _
  rw [execHoldupFull, if_pos hgo]
  extract_lets u v w
  have hreserve : u.on Reg.PWR_STAT_RESERVE_OK = true := by
    rw [on_wr_bits _ _ _ _ (by decide) (by decide), on_wr_self _ _ _ (by decide)]
    rfl
  have hhold : u.on Reg.PWR_STAT_HOLDUP_OK = true := by
    rw [on_wr_self _ _ _ (by decide)]
    rfl
  split
  next hres => exact (nexts_next _ _).2 ⟨hreserve, hhold, hres⟩
  next =>
    rw [nexts_next, on_post _ _ _ _ _ _ Reg.PWR_STAT_RESERVE_OK (by decide),
      on_post _ _ _ _ _ _ Reg.PWR_STAT_HOLDUP_OK (by decide), post_power]
    have hregs : ∀ a, KeepsReg a u w := fun a => .of_regs rfl
    exact ⟨(hregs _).on.trans hreserve, (hregs _).on.trans hhold, rfl⟩

theorem warned_shows (s : State) (why : PfCause) (meas : PwrMeas) :
    (s.warned why meas).on Reg.PWR_STAT_PF_WARN = true ∧ (s.warned why meas).on Reg.PWR_STAT_SHUTDOWN = true ∧
      (s.warned why meas).power.cause = pfCode why ∧ (s.warned why meas).power.warnAt = (s.warned why meas).frc ∧
      (s.warned why meas).power.running = s.power.running := by
  unfold State.warned
  extract_lets u v w
  have hpower : v.power.running = s.power.running := by
    simp only [v]
    split <;> rfl
  refine ⟨?_, ?_, rfl, rfl, hpower⟩
  · show w.on Reg.PWR_STAT_PF_WARN = true
    rw [on_wr_bits _ _ _ _ (by decide) (by decide), on_wr_self _ _ _ (by decide)]
    rfl
  · show w.on Reg.PWR_STAT_SHUTDOWN = true
    rw [on_wr_self _ _ _ (by decide)]
    rfl

theorem exec_powerFailWarning {s : State} {why : PfCause} {meas : PwrMeas} (hm : s.power.mainOn = true)
    (hd : s.on Reg.PWR_STAT_DIP = true) (hw : s.on Reg.PWR_STAT_PF_WARN = false)
    (hs : why = .short → s.power.reserved = false) : exec (.powerFailWarning why meas) s =
      let u := s.warned why meas
      if !u.power.running then .next u
      else .next (u.post Un.pwr 0x1402 (pfCode why) ((u.frc - u.power.dipAt) / 1000000) (u.rd Reg.PWR_LOAD_NOW)).pfActions := by
  have hgo : ¬ ((!s.power.mainOn) = true ∨ (!s.on Reg.PWR_STAT_DIP) = true ∨ s.on Reg.PWR_STAT_PF_WARN = true ∨
      (why = .short ∧ s.power.reserved = true)) := by
    rw [hm, hd, hw]
    rintro (h | h | h | ⟨h, hr⟩)
    · exact absurd h (by decide)
    · exact absurd h (by decide)
    · exact absurd h (by decide)
    · exact absurd (hr.symm.trans (hs h)) (by decide)
  exact if_neg hgo

theorem powerFailWarning_unstarted (s : State) (why : PfCause) (meas : PwrMeas) (hm : s.power.mainOn = true)
    (hr : s.power.running = false) (hd : s.on Reg.PWR_STAT_DIP = true) (hw : s.on Reg.PWR_STAT_PF_WARN = false)
    (hs : why = .short → s.power.reserved = false) : Nexts (exec (.powerFailWarning why meas) s) (fun t =>
      t.on Reg.PWR_STAT_PF_WARN = true ∧ t.on Reg.PWR_STAT_SHUTDOWN = true ∧ t.power.cause = pfCode why ∧
        t.power.warnAt = t.frc) := by
  obtain ⟨hwarn, hshut, hcause, hat, hrun⟩ := warned_shows s why meas
  rw [exec_powerFailWarning hm hd hw hs]
  dsimp only
  rw [hrun, hr, if_pos (by rfl), nexts_next]
  exact ⟨hwarn, hshut, hcause, hat⟩

theorem powerFailWarning_running (s : State) (why : PfCause) (meas : PwrMeas) (u : State) (hm : s.power.mainOn = true)
    (hr : s.power.running = true) (hd : s.on Reg.PWR_STAT_DIP = true) (hw : s.on Reg.PWR_STAT_PF_WARN = false)
    (hs : why = .short → s.power.reserved = false) (hu : u = s.warned why meas) :
    exec (.powerFailWarning why meas) s = .next ((u.post Un.pwr 0x1402 (pfCode why)
      ((u.frc - u.power.dipAt) / 1000000) (u.rd Reg.PWR_LOAD_NOW)).pfActions) := by
  subst hu
  obtain ⟨-, -, -, -, hrun⟩ := warned_shows s why meas
  rw [exec_powerFailWarning hm hd hw hs]
  dsimp only
  rw [hrun, hr, if_neg (by decide)]

/-! ### Shutdown (R479 to R484) -/

theorem shutdownOutputsOff_shows (s : State) (hr : s.power.running = true) (hw : s.on Reg.PWR_STAT_PF_WARN = true) :
    Nexts (exec .shutdownOutputsOff s) (fun t => t.power.outputsOff = true ∧
      t.frc = max s.frc (s.power.warnAt + if s.power.cause = 3 then 0 else 20000000) ∧ t.regs = s.regs) := by
  show Nexts (execShutdownOutputsOff s) _
  rw [execShutdownOutputsOff, if_pos ⟨hr, hw⟩, nexts_next]
  exact ⟨rfl, rfl, rfl⟩

theorem shutdownMramCommit_commits (s : State) (meas : PwrMeas) (permille : Nat) (hr : s.power.running = true)
    (hw : s.on Reg.PWR_STAT_PF_WARN = true) (ho : s.power.outputsOff = true) (hd : s.power.mramDone = false) :
    Nexts (exec (.shutdownMramCommit meas permille) s) (fun t => t.power.mramDone = true ∧
      max s.frc (s.power.warnAt + if s.power.cause = 3 then 1000000 else 20000000) ≤ t.frc ∧
      t.power.shadowCyc = t.rd Reg.PTR_PCYCLE ∧ t.power.shadowOpt = t.opTime) := by
  show Nexts (execShutdownMramCommit meas permille s) _
  rw [execShutdownMramCommit, if_pos ⟨hr, hw, ho, by rw [hd]; rfl⟩]
  extract_lets u0 u1 u2 u3 u4
  have h1 : Later u0 u1 := .step (State.latentCount_frame _) rfl (.step (State.pwrMeasure_frame _ _) rfl .self)
  have h3 : Later u0 u3 :=
    .ite (.step (State.post_frame _ _ _ _ _ _) rfl h1)
      (.step (State.wearHoldup_frame _ _ _ _) rfl (.step (State.post_frame _ _ _ _ _ _) rfl h1))
  have h4 : Later u0 u4 := State.gbFlush_later _ h3
  rw [nexts_next]
  exact ⟨rfl, h4, rfl, rfl⟩

/-! #### The control domain loses its power -/

theorem controlOff_units (s : State) : s.controlOff.frc = 0 ∧ s.controlOff.mem = [] ∧ s.controlOff.fpl.plan = [] ∧
    s.controlOff.pgn = [] ∧ s.controlOff.power = s.power :=
  ⟨rfl, rfl, rfl, rfl, State.controlOff_frame (F := fun p => p != .power) s rfl (fr_self _ s) .power rfl⟩

/-- The main rail is down; the control domain does not run, and what it held is as it was. -/
theorem unpowered_stops (s : State) : s.unpowered.power.running = false ∧
    s.unpowered.power.sinceW = s.power.sinceW ∧ StartLeaves s s.unpowered := by
  unfold State.unpowered
  extract_lets +onlyGivenNames src u
  split
  · obtain ⟨⟨-, hrun, -, hsince⟩, hleft⟩ := powerOn_starts u false true 0
    exact ⟨hrun, hsince, StartLeaves.trans (t := u) ⟨rfl, rfl, rfl, rfl⟩ hleft⟩
  · exact ⟨rfl, rfl, rfl, rfl, rfl, rfl⟩

/-- The state in which a module that has been ready loses its power. -/
def State.offNow (s : State) (us : Nat) : State :=
  let u := s.opTimeKeep (if s.power.running then s.frc else us * 1000)
  { u with power := { u.power with sinceW := if s.power.running then u.frc - u.power.warnAt else 0 } }

theorem exec_controlUnpowered {s : State} {us : Fin 15000} (hm : s.power.mainOn = true)
    (hw : s.on Reg.PWR_STAT_PF_WARN = true) (hready : (!s.power.running ||
      (s.power.mramDone && (s.power.cause == 3 || (!s.on Reg.NB_STAT_RAILS_UP &&
        !(s.on Reg.NB_STAT_DIRTY && s.nbMayCommit))))) = true) :
    exec (.controlUnpowered us) s = .next (s.offNow us.val).controlOff.unpowered := by
  show execControlUnpowered us s = _
  unfold execControlUnpowered
  dsimp only
  rw [hready, hm, hw]
  exact if_neg (by decide)

/-- Without its power it runs no longer and holds nothing. -/
theorem controlUnpowered_loses (u : State) : u.controlOff.unpowered.power.running = false ∧
    u.controlOff.unpowered.fpl.plan = [] ∧ u.controlOff.unpowered.mem = [] ∧ u.controlOff.unpowered.pgn = [] ∧
    u.controlOff.unpowered.frc = 0 ∧ u.controlOff.unpowered.power.sinceW = u.power.sinceW := by
  obtain ⟨hfrc, hmem, hplan, hpgn, hpower⟩ := controlOff_units u
  obtain ⟨hrun, hsince, hleft⟩ := unpowered_stops u.controlOff
  exact ⟨hrun, (congrArg Fpl.plan hleft.fpl).trans hplan, hleft.mem.trans hmem, hleft.pgn.trans hpgn,
    hleft.frc.trans hfrc, hsince.trans (congrArg Power.sinceW hpower)⟩

theorem controlUnpowered_ran (s : State) (us : Fin 15000) (hm : s.power.mainOn = true)
    (hw : s.on Reg.PWR_STAT_PF_WARN = true) (hr : s.power.running = true) (hd : s.power.mramDone = true)
    (hready : s.power.cause = 3 ∨ s.on Reg.NB_STAT_RAILS_UP = false ∧
      (s.on Reg.NB_STAT_DIRTY && s.nbMayCommit) = false) :
    Nexts (exec (.controlUnpowered us) s) (fun t => t.power.running = false ∧ t.fpl.plan = [] ∧ t.mem = [] ∧
      t.pgn = [] ∧ t.frc = 0 ∧ t.power.sinceW = s.frc - s.power.warnAt) := by
  have hgo : (!s.power.running || (s.power.mramDone && (s.power.cause == 3 || (!s.on Reg.NB_STAT_RAILS_UP &&
      !(s.on Reg.NB_STAT_DIRTY && s.nbMayCommit))))) = true := by
    rw [hd]
    obtain hc | ⟨hrails, hclean⟩ := hready
    · rw [hc, beq_self_eq_true, Bool.true_or, Bool.and_true, Bool.or_true]
    · rw [hrails, hclean, Bool.not_false, Bool.and_true, Bool.or_true, Bool.and_true, Bool.or_true]
  rw [exec_controlUnpowered hm hw hgo, nexts_next]
  obtain ⟨hrun, hplan, hmem, hpgn, hfrc, hsince⟩ := controlUnpowered_loses (s.offNow us.val)
  refine ⟨hrun, hplan, hmem, hpgn, hfrc, hsince.trans ?_⟩
  exact if_pos hr

theorem controlUnpowered_unstarted (s : State) (us : Fin 15000) (hm : s.power.mainOn = true)
    (hw : s.on Reg.PWR_STAT_PF_WARN = true) (hr : s.power.running = false) :
    Nexts (exec (.controlUnpowered us) s) (fun t => t.power.running = false ∧ t.frc = 0 ∧ t.power.sinceW = 0) := by
  rw [exec_controlUnpowered hm hw (by rw [hr]; rfl), nexts_next]
  obtain ⟨hrun, -, -, -, hfrc, hsince⟩ := controlUnpowered_loses (s.offNow us.val)
  refine ⟨hrun, hfrc, hsince.trans ?_⟩
  exact if_neg (by rw [hr]; decide)

end Sys2Proof.Machine
end

section
/-!
The start of the control domain, the notice of a shutdown, the Porter and the election (R484 to R492).
-/
namespace Sys2Proof.Machine

/-! ### The start (R371, R488) -/

/-- An event that is recorded only in a case leaves, as the other case does, every register but the Guestbook's. -/
theorem KeepsReg.postIf {a : Nat} {s t : State} (h : KeepsReg a s t) (c : Prop) [Decidable c] (source code p1 p2 p3 : Nat)
    (ha : unitOf a ≠ Un.gb) : KeepsReg a s (if c then t.post source code p1 p2 p3 else t) := by
  split
  · exact h.trans (fileAt_post t _ _ _ _ _ a ha)
  · exact h

theorem KeepsReg.postUnless {a : Nat} {s t : State} (h : KeepsReg a s t) (c : Prop) [Decidable c]
    (source code p1 p2 p3 : Nat) (ha : unitOf a ≠ Un.gb) :
    KeepsReg a s (if c then t else t.post source code p1 p2 p3) := by
  split
  · exact h
  · exact h.trans (fileAt_post t _ _ _ _ _ a ha)

theorem KeepsReg.startRecords {a : Nat} {s t : State} (h : KeepsReg a s t) (us : Nat) (ha : unitOf a ≠ Un.gb) :
    KeepsReg a s (t.startRecords us) := by
  unfold State.startRecords
  extract_lets p u1 u2 u3 u4 u5 u6
  have h1 : KeepsReg a s u1 := h.postIf _ _ _ _ _ _ ha
  have h2 : KeepsReg a s u2 := h1.postIf _ _ _ _ _ _ ha
  have h3 : KeepsReg a s u3 := h2.postUnless _ _ _ _ _ _ ha
  have h4 : KeepsReg a s u4 := h3.postUnless _ _ _ _ _ _ ha
  have h5 : KeepsReg a s u5 := h4.postUnless _ _ _ _ _ _ ha
  have h6 : KeepsReg a s u6 := h5.postIf _ _ _ _ _ _ ha
  exact h6.of_eq rfl

theorem KeepsReg.gbFillBuckets {a : Nat} {s t : State} (h : KeepsReg a s t) (ha : Reg.PWR_STAT.addr ≤ a) :
    KeepsReg a s t.gbFillBuckets := by
  refine KeepsReg.foldl (fun c _ u hu => hu.setGbTokens _ fun hc => ?_) h
  simp only [Reg.GB_CLASS_TOKENS, Reg.PWR_STAT] at ha ⊢
  omega

theorem KeepsReg.rndReset {a : Nat} {s t : State} (h : KeepsReg a s t) (ha : Reg.PWR_STAT.addr ≤ a) :
    KeepsReg a s t.rndReset := by
  have hlow : ∀ i ∈ List.range 17, a ≠ (Reg.RND_ITEM_STATE i).addr ∧ a ≠ (Reg.RND_ITEM_COVERAGE i).addr := by
    intro i hi
    have hlt := List.mem_range.1 hi
    simp only [Reg.RND_ITEM_STATE, Reg.RND_ITEM_COVERAGE, Reg.PWR_STAT] at ha ⊢
    omega
  unfold State.rndReset State.rndRole
  extract_lets u
  have hu : KeepsReg a s u := h.of_eq rfl
  exact KeepsReg.foldl (fun i hi v hv => hv.wr _ (hlow i hi).2) (KeepsReg.foldl (fun i hi v hv => hv.wr _ (hlow i hi).1) hu)

theorem KeepsReg.nbRelease {a : Nat} {s t : State} (h : KeepsReg a s t) (ha : Reg.PWR_STAT.addr ≤ a) :
    KeepsReg a s t.nbRelease := by
  unfold State.nbRelease
  refine KeepsReg.nbShow (h.of_eq rfl) ?_ ?_
  · rintro rfl
    exact absurd ha (by decide)
  · rintro rfl
    exact absurd ha (by decide)

/-- The units as the release starts them, and what had to be recorded. -/
def State.unitsReset (s : State) (us : Nat) : State :=
  ((s.gbFillBuckets.rndReset.nbRelease.permitUpdate).anchor 0).startRecords us

theorem unitsReset_keeps (s : State) (us : Nat) {a : Nat} (ha : Reg.PWR_STAT.addr ≤ a) (hgb : unitOf a ≠ Un.gb) :
    KeepsReg a s (s.unitsReset us) := by
  have hunits : KeepsReg a s s.gbFillBuckets.rndReset.nbRelease.permitUpdate := by
    refine (((KeepsReg.self.gbFillBuckets ha).rndReset ha).nbRelease ha).wr _ ?_
    rintro rfl
    exact absurd ha (by decide)
  unfold State.unitsReset
  generalize s.gbFillBuckets.rndReset.nbRelease.permitUpdate = v at hunits
  exact (hunits.of_eq (u := v.anchor 0) rfl).startRecords us hgb

/-- Beside their registers and what is recorded that leaves the rest. -/
theorem unitsReset_frame {F : Place → Bool} (s : State) (hu : Al F [.gb, .regs, .rnd, .nb]) :
    Fr F s (s.gbFillBuckets.rndReset.nbRelease.permitUpdate.anchor 0) :=
  State.anchor_frame _ _ (sub hu rfl) (State.permitUpdate_frame _ (sub hu rfl) (State.nbRelease_frame _ (sub hu rfl)
    (State.rndReset_frame _ (sub hu rfl) (State.gbFillBuckets_frame _ (sub hu rfl) (fr_self F s)))))

theorem unitsReset_frc (s : State) (us : Nat) : (s.unitsReset us).frc = s.frc :=
  State.startRecords_frame (F := besideFrc) _ us rfl (unitsReset_frame s rfl) .frc rfl

theorem startRecords_running (s : State) (us : Nat) : (s.startRecords us).power.running = s.power.running := by
  have hpost : ∀ (c : Prop) [Decidable c] (u : State) (source code p1 p2 p3 : Nat),
      (if c then u.post source code p1 p2 p3 else u).power = u.power ∧
        (if c then u else u.post source code p1 p2 p3).power = u.power := by
    intro c _ u source code p1 p2 p3
    split
    · exact ⟨post_power _ _ _ _ _ _, rfl⟩
    · exact ⟨rfl, post_power _ _ _ _ _ _⟩
  unfold State.startRecords
  extract_lets p u1 u2 u3 u4 u5 u6
  have h6 : u6.power = s.power :=
    (hpost _ u5 _ _ _ _ _).1.trans <| (hpost _ u4 _ _ _ _ _).2.trans <| (hpost _ u3 _ _ _ _ _).2.trans <|
      (hpost _ u2 _ _ _ _ _).2.trans <| (hpost _ u1 _ _ _ _ _).1.trans (hpost _ s _ _ _ _ _).1
  show u6.power.running = s.power.running
  rw [h6]

theorem unitsReset_running (s : State) (us : Nat) : (s.unitsReset us).power.running = s.power.running :=
  (startRecords_running _ us).trans
    (congrArg Power.running (unitsReset_frame (F := fun p => p != .power) s rfl .power rfl))

theorem KeepsReg.c2Start {a : Nat} {s t : State} (h : KeepsReg a s t) (us : Nat) (ha : Reg.PWR_STAT.addr ≤ a) :
    KeepsReg a s (t.c2Start us) := by
  unfold State.c2Start
  extract_lets ok sec base
  clear_value base
  refine KeepsReg.wr (h.of_eq rfl) (g := Reg.TIM_STAT_C2_VALID) _ ?_
  rintro rfl
  exact absurd ha (by decide)

/-- What the release does beside PWR_STAT, PWR_BOOT and the counter. -/
def State.released (s : State) (us : Nat) : State :=
  State.unitsReset { s.c2Start us with ban := { (s.c2Start us).ban with latAt := (s.c2Start us).opTime } } us

theorem released_keeps (s : State) (us : Nat) {a : Nat} (ha : Reg.PWR_STAT.addr ≤ a) (hgb : unitOf a ≠ Un.gb) :
    KeepsReg a s (s.released us) := by
  have hstart : KeepsReg a s (s.c2Start us) := KeepsReg.self.c2Start us ha
  unfold State.released
  generalize s.c2Start us = v at hstart
  exact (hstart.of_eq (u := { v with ban := { v.ban with latAt := v.opTime } }) rfl).trans (unitsReset_keeps _ us ha hgb)

theorem released_frc (s : State) (us : Nat) : (s.released us).frc = s.frc :=
  (unitsReset_frc _ us).trans (State.c2Start_frame (F := besideFrc) s us rfl (fr_self _ s) .frc rfl)

theorem released_running (s : State) (us : Nat) : (s.released us).power.running = s.power.running :=
  (unitsReset_running _ us).trans (congrArg Power.running
    (State.c2Start_frame (F := fun p => p != .power) s us rfl (fr_self _ s) .power rfl))

/-- Reset is released: the counter starts at 0. -/
def State.resetOver (s : State) (us : Nat) : State :=
  let u := (s.wr Reg.PWR_STAT_RESERVE_OK 1).wr Reg.PWR_BOOT_RESET us
  { u with
    frc := 0
    power := { u.power with running := true, frac := u.power.frac + us * 1000, dipAt := 0 }
    saf := { u.saf with clock0 := max u.saf.clock0 (u.power.p0At + us * 1000) } }

theorem controlResetRelease_starts (s : State) (us : Fin 15001) (hm : s.power.mainOn = true)
    (hr : s.power.running = false) (hw : s.on Reg.PWR_STAT_PF_WARN = false) (hus : 10000 ≤ us.val) :
    Nexts (exec (.controlResetRelease us) s) (fun t => t.power.running = true ∧ t.frc = 0 ∧
      t.on Reg.PWR_STAT_RESERVE_OK = true ∧ t.rd Reg.PWR_BOOT_RESET = us.val) := by
  have hgo : ¬ ((!s.power.mainOn) = true ∨ s.power.running = true ∨ s.on Reg.PWR_STAT_PF_WARN = true ∨ us.val < 10000) := by
    rw [hm, hr, hw]
    simpa using hus
  have hexec : exec (.controlResetRelease us) s = .next ((s.resetOver us.val).released us.val) := if_neg hgo
  have hkeep : ∀ a, Reg.PWR_STAT.addr ≤ a → unitOf a ≠ Un.gb →
      KeepsReg a ((s.wr Reg.PWR_STAT_RESERVE_OK 1).wr Reg.PWR_BOOT_RESET us.val) ((s.resetOver us.val).released us.val) :=
    fun a ha hgb => KeepsReg.trans (t := s.resetOver us.val) (.of_regs rfl) (released_keeps _ us.val ha hgb)
  rw [hexec, nexts_next, released_running, released_frc, (hkeep _ (by decide) (by decide)).on,
    (hkeep _ (by decide) (by decide)).rd, on_wr_addr _ _ _ _ (by decide), on_wr_self _ _ _ (by decide)]
  exact ⟨rfl, rfl, rfl, rd_wr_fits _ _ rfl (lt_trans us.isLt (by decide))⟩

/-! ### The Porter (R485 to R487) -/

theorem cellLow_running (s : State) (mV : BitVec 16) (hv : mV.toNat < 2700) (hs : s.power.porterStopped = false)
    (hr : s.power.running = true) : Nexts (exec (.cellLow mV) s) (fun t =>
      t.on Reg.PTR_STAT_CELL_LOW = true ∧ t.rd Reg.PTR_CELL_MV = mV.toNat ∧ t.power.cellMv = mV.toNat) := by
  show Nexts (execCellLow mV s) _
  unfold execCellLow
  rw [if_neg (not_or.2 ⟨Nat.not_le.2 hv, ne_true_of_eq_false hs⟩)]
  extract_lets +onlyGivenNames was u src v w
  rw [if_pos (show v.power.running = true from hr), nexts_next]
  have hlow : w.on Reg.PTR_STAT_CELL_LOW = true := by
    have hu : u.on Reg.PTR_STAT_CELL_LOW = true := by
      rw [on_wr_self _ _ _ (by decide)]
      rfl
    exact (on_wr_addr v Reg.PTR_CELL_MV Reg.PTR_STAT_CELL_LOW _ (by decide)).trans
      ((KeepsReg.of_regs (s := u) (t := v) rfl).on.trans hu)
  have hmv : w.rd Reg.PTR_CELL_MV = mV.toNat := rd_wr_fits _ _ rfl mV.isLt
  split
  · exact ⟨hlow, hmv, rfl⟩
  · rw [on_post _ _ _ _ _ _ Reg.PTR_STAT_CELL_LOW (by decide), rd_post _ _ _ _ _ _ Reg.PTR_CELL_MV (by decide),
      post_power]
    exact ⟨hlow, hmv, rfl⟩

theorem cellLow_off (s : State) (mV : BitVec 16) (hv : mV.toNat < 2700) (hs : s.power.porterStopped = false)
    (hr : s.power.running = false) : Nexts (exec (.cellLow mV) s) (fun t => t.on Reg.PTR_STAT_CELL_LOW = true ∧
      t.power.porterStopped = (!s.power.mainOn && decide (mV.toNat < 2200))) := by
  show Nexts (execCellLow mV s) _
  unfold execCellLow
  rw [if_neg (not_or.2 ⟨Nat.not_le.2 hv, ne_true_of_eq_false hs⟩)]
  extract_lets +onlyGivenNames was u src v w
  rw [if_neg (show ¬ v.power.running = true from ne_true_of_eq_false hr), nexts_next]
  have hu : u.on Reg.PTR_STAT_CELL_LOW = true := by
    rw [on_wr_self _ _ _ (by decide)]
    rfl
  exact ⟨(KeepsReg.of_regs (s := u) rfl).on.trans hu, rfl⟩

/-- What a switch of the Porter shows, once its move is shown and counted. -/
theorem sealChange_counts {s t : State} {f cnt : Fld} {open_ : Bool} (hf : f.lo + f.width ≤ 32 ∧ f.width = 1)
    (hc : cnt.lo + cnt.width ≤ 32 ∧ cnt.width = 16) (hne : f.addr ≠ cnt.addr)
    (ht : ∀ a, unitOf a ≠ Un.gb → KeepsReg a ((s.wrB f open_).bump cnt) t) (hgf : unitOf f.addr ≠ Un.gb)
    (hgc : unitOf cnt.addr ≠ Un.gb) : t.on f = open_ ∧ t.rd cnt = satInc 16 (s.rd cnt) := by
  obtain ⟨hf, hone⟩ := hf
  obtain ⟨hc, hwide⟩ := hc
  rw [(ht _ hgf).on, (ht _ hgc).rd]
  constructor
  · rw [State.bump, on_wr_addr _ _ _ _ hne, State.wrB, on_wr_self _ _ _ hf, hone]
    cases open_ <;> rfl
  · rw [rd_bump_self _ _ hc, hwide, State.wrB, rd_wr_addr _ _ _ _ hne.symm]

theorem nexts_imp {x : Answer} {p q : State → Prop} (h : Nexts x p) (hpq : ∀ t, p t → q t) : Nexts x q := by
  obtain ⟨t, ht, hp⟩ := h
  exact ⟨t, ht, hpq t hp⟩

theorem nexts_ite {c : Prop} [Decidable c] {x y : Answer} {p : State → Prop} (hx : c → Nexts x p) (hy : ¬ c → Nexts y p) :
    Nexts (if c then x else y) p := by
  split
  next h => exact hx h
  next h => exact hy h

/-- What the seal or the lid does, where it moves. -/
theorem exec_sealChange {s : State} {lid open_ : Bool} (hs : s.power.porterStopped = false)
    (hl : s.on (if lid then Reg.PTR_STAT_LID else Reg.PTR_STAT_SEAL) ≠ open_)
    (hx : lid = true ∨ s.capOn Reg.SYS_CAPS_ANX = true) : Nexts (exec (.sealChange lid open_) s) (fun t =>
      ∀ a, unitOf a ≠ Un.gb → KeepsReg a ((s.wrB (if lid then Reg.PTR_STAT_LID else Reg.PTR_STAT_SEAL) open_).bump
        (if lid then Reg.PTR_SWCNT_LID else Reg.PTR_SWCNT_SEAL)) t) := by
  have hgo : ¬ (s.on (if lid then Reg.PTR_STAT_LID else Reg.PTR_STAT_SEAL) = open_ ∨ s.power.porterStopped = true ∨
      ((!lid) = true ∧ (!s.capOn Reg.SYS_CAPS_ANX) = true)) := by
    rw [hs]
    rintro (h | h | ⟨hseal, hnone⟩)
    · exact hl h
    · exact absurd h (by decide)
    · obtain h | h := hx
      · rw [h] at hseal
        exact absurd hseal (by decide)
      · rw [h] at hnone
        exact absurd hnone (by decide)
  show Nexts (execSealChange lid open_ s) _
  unfold execSealChange
  extract_lets +onlyGivenNames f cnt u
  rw [if_neg hgo]
  exact nexts_ite (fun _ => (nexts_next _ _).2 fun a ha => fileAt_post u _ _ _ _ _ a ha) fun _ =>
    nexts_ite (fun _ => (nexts_next _ _).2 fun a _ => .of_regs rfl) fun _ => (nexts_next _ _).2 fun a _ => .of_regs rfl

theorem lidChange_counts (s : State) (open_ : Bool) (hs : s.power.porterStopped = false)
    (hl : s.on Reg.PTR_STAT_LID ≠ open_) : Nexts (exec (.sealChange true open_) s) (fun t =>
      t.on Reg.PTR_STAT_LID = open_ ∧ t.rd Reg.PTR_SWCNT_LID = satInc 16 (s.rd Reg.PTR_SWCNT_LID)) :=
  nexts_imp (exec_sealChange hs hl (.inl rfl)) fun _ ht =>
    sealChange_counts (f := Reg.PTR_STAT_LID) (cnt := Reg.PTR_SWCNT_LID) (by decide) (by decide) (by decide) ht
      (by decide) (by decide)

theorem sealChange_counts_seal (s : State) (open_ : Bool) (hs : s.power.porterStopped = false)
    (hx : s.capOn Reg.SYS_CAPS_ANX = true) (hl : s.on Reg.PTR_STAT_SEAL ≠ open_) :
    Nexts (exec (.sealChange false open_) s) (fun t =>
      t.on Reg.PTR_STAT_SEAL = open_ ∧ t.rd Reg.PTR_SWCNT_SEAL = satInc 16 (s.rd Reg.PTR_SWCNT_SEAL)) :=
  nexts_imp (exec_sealChange hs hl (.inr hx)) fun _ ht =>
    sealChange_counts (f := Reg.PTR_STAT_SEAL) (cnt := Reg.PTR_SWCNT_SEAL) (by decide) (by decide) (by decide) ht
      (by decide) (by decide)

/-! ### The notice of a shutdown (R484, R206) -/

theorem shutdown_delivers (s : State) (a : Arrival) (serial : BitVec 32) (h : s.hears a = true) :
    exec (.shutdown a serial) s = .next ((s.heard a).deliver (fun s => s.shutdownTake serial.toNat)) :=
  congrArg Host.Outcome.next (arrive_of_hears h _)

/-- The peer's serial is known. -/
def State.peerKnown (s : State) (serial : Nat) : State :=
  if s.rd Reg.BAN_PEER_SERIAL = 0 then s.wr Reg.BAN_PEER_SERIAL serial else s

theorem peerKnown_keeps (s : State) (serial : Nat) {a : Nat} (ha : a ≠ Reg.BAN_PEER_SERIAL.addr) :
    KeepsReg a s (s.peerKnown serial) := by
  unfold State.peerKnown
  split
  · exact KeepsReg.self.wr _ ha
  · exact .self

theorem peerKnown_ban (s : State) (serial : Nat) : (s.peerKnown serial).ban = s.ban := by
  unfold State.peerKnown
  split <;> rfl

theorem peerKnown_serial (s : State) (serial : BitVec 32) : (s.peerKnown serial.toNat).rd Reg.BAN_PEER_SERIAL =
    if s.rd Reg.BAN_PEER_SERIAL = 0 then serial.toNat else s.rd Reg.BAN_PEER_SERIAL := by
  unfold State.peerKnown
  split
  · exact rd_wr_fits _ _ rfl serial.isLt
  · rfl

/-- An ACTIVE module that no join and no handover moves is ALONE once its peer shuts down. -/
theorem shutdownTake_alone {s : State} (serial : Nat) (hrole : s.role = roleActive) (hho : s.ban.ho = none)
    (hjoin : s.ban.join = none) : s.shutdownTake serial =
      ((s.peerKnown serial).inquiryOver.pairOver.setRole roleAlone).sendRole := by
  have hr : (s.peerKnown serial).role = roleActive :=
    ((peerKnown_keeps s serial (by decide)).rd (f := Reg.BAN_STAT_ROLE)).trans hrole
  have hj : (s.peerKnown serial).joinAbort = s.peerKnown serial := joinAbort_none (by rw [peerKnown_ban]; exact hjoin)
  have hnone : (s.peerKnown serial).ban.ho.isNone = true := by rw [peerKnown_ban, hho]; rfl
  show (if (s.peerKnown serial).joinAbort.role = roleActive ∧ (s.peerKnown serial).joinAbort.ban.ho.isNone then
    (s.peerKnown serial).joinAbort.alone.sendRole else (s.peerKnown serial).joinAbort) = _
  rw [hj, if_pos ⟨hr, hnone⟩, State.alone, if_pos hr]

theorem shutdown_alone (s : State) (a : Arrival) (serial : BitVec 32) (h : s.hears a = true)
    (hrole : s.role = roleActive) (hho : s.ban.ho = none) (hjoin : s.ban.join = none) (_hearly : s.ban.early = []) :
    Nexts (exec (.shutdown a serial) s) (fun t => t.role = roleAlone ∧ t.rd Reg.BAN_PEER_SERIAL =
      (if s.rd Reg.BAN_PEER_SERIAL = 0 then serial.toNat else s.rd Reg.BAN_PEER_SERIAL)) := by
  have hord := inOrder_of_hears h
  have htake := shutdownTake_alone (s := s.heard a) serial.toNat ((heard_role s a).trans hrole)
    ((heard_ho s a).trans hho) ((heard_join hord).trans hjoin)
  generalize hu : ((s.heard a).peerKnown serial.toNat).inquiryOver.pairOver = u at htake
  have hban : (u.setRole roleAlone).sendRole.ban.join = none ∧ (u.setRole roleAlone).sendRole.ban.early = [] := by
    obtain ⟨_, _, _, _, _, _, hset⟩ := setRole_ban u roleAlone
    obtain ⟨_, _, _, _, hsend⟩ := banAsk_eq (u.setRole roleAlone) 0x03
      (leBytes 1 (u.setRole roleAlone).role ++ List.replicate 7 0)
    have hj : u.ban.join = none := by
      rw [← hu]
      show ((s.heard a).peerKnown serial.toNat).ban.join = none
      rw [peerKnown_ban, heard_join hord, hjoin]
    have he : u.ban.early = [] := by
      rw [← hu]
      rfl
    rw [State.sendRole, hsend]
    dsimp only
    rw [hset]
    exact ⟨hj, he⟩
  refine nexts_arrive (arrive_of_hears h _) htake hban.1 hban.2 ⟨?_, ?_⟩
  · exact (KeepsReg.self.sendRole.rd (f := Reg.BAN_STAT_ROLE)).trans (role_setRole u (by decide))
  · have hkeep : KeepsReg Reg.BAN_PEER_SERIAL.addr ((s.heard a).peerKnown serial.toNat) (u.setRole roleAlone).sendRole := by
      rw [← hu]
      exact (((KeepsReg.self.inquiryOver (by decide) (by decide)).pairOver).setRole_of_ne _ (by decide)
        (by decide)).sendRole
    rw [hkeep.rd, peerKnown_serial, heard_rd]

/-! ### Beacons and the election (R489, R491) -/

/-- A module that runs and is not SINGLE numbers the frame of a short message with its next SEQ. -/
theorem banSend_short {s : State} (hr : s.power.running = true) (hrole : s.role ≠ roleSingle) (type : Nat) {p : List Byte}
    (hp : p.length < 2048) : (s.banSend type p).ban.txSeq = (s.ban.txSeq + 1) % 2 ^ 32 ∧
      (s.banSend type p).ban.tx.head?.map (fun f => (f.type, f.seq)) = some (type, s.ban.txSeq) := by
  have hgo : (s.power.running && s.role != 0) = true := by simpa [hr, roleSingle] using hrole
  have hone : s.banSend type p = s.banFrame type true p := by rw [State.banSend, Nat.div_eq_of_lt hp]; rfl
  rw [banSend_tx hr hrole type hp, hone, State.banFrame, if_pos hgo]
  exact ⟨rfl, rfl⟩

theorem beaconSend_sends (s : State) (hr : s.power.running = true) (hl : s.locked = false) (hrole : s.role = 7) :
    Nexts (exec .beaconSend s) (fun t => t.power.beaconLast = t.frc ∧
      t.frc = max s.frc (if s.power.beaconAt.isSome then s.power.beaconLast + 1000000
        else 20000000 - s.rd Reg.PWR_BOOT_RESET * 1000) ∧
      t.ban.txSeq = (s.ban.txSeq + 1) % 2 ^ 32 ∧
      t.ban.tx.head?.map (fun f => (f.type, f.seq)) = some (0x02, s.ban.txSeq)) := by
  show Nexts (execBeaconSend s) _
  rw [execBeaconSend, if_pos ⟨hr, by rw [hl]; rfl, hrole⟩]
  extract_lets +onlyGivenNames at_ u src v
  have hv : v.role ≠ roleSingle := by
    show s.role ≠ roleSingle
    rw [hrole]
    decide
  generalize hp : leBytes 4 v.ident.serial ++ leBytes 4 v.caps ++ leBytes 1 v.power.strap ++ leBytes 1 v.role ++
    List.replicate 6 (0 : Byte) = p
  have hlen : p.length < 2048 := by
    rw [← hp]
    simp only [List.length_append, leBytes_length, List.length_replicate]
    decide
  obtain ⟨hseq, hhead⟩ := banSend_short (s := v) hr hv 0x02 hlen
  obtain ⟨tx, n, last, hsent⟩ := banSend_eq v 0x02 p
  rw [nexts_next, hseq, hhead, hsent]
  exact ⟨rfl, rfl, rfl, rfl⟩

/-- What an election shows stays while its event is recorded and the outcome is told. -/
theorem elect_keeps (s : State) (code : Nat) {a : Nat} (ha : unitOf a ≠ Un.gb) :
    KeepsReg a (s.wr Reg.PWR_STAT_ELECT code) (s.elect code) := by
  unfold State.elect
  extract_lets strap u
  have hu : KeepsReg a (s.wr Reg.PWR_STAT_ELECT code) u := fileAt_post _ _ _ _ _ _ a ha
  split
  · exact hu
  · exact hu.banAsk _ _

theorem elect_shows (s : State) {code : Nat} (hc : code < 16) : (s.elect code).rd Reg.PWR_STAT_ELECT = code :=
  ((elect_keeps s code (a := Reg.PWR_STAT_ELECT.addr) (by decide)).rd (f := Reg.PWR_STAT_ELECT)).trans
    (rd_wr_fits s _ rfl hc)

theorem elect_frc (s : State) (code : Nat) : (s.elect code).frc = s.frc :=
  State.elect_frame (F := besideFrc) s code rfl (fr_self _ s) .frc rfl

theorem elect_power (s : State) (code : Nat) : (s.elect code).power = s.power :=
  State.elect_frame (F := fun p => p != .power) s code rfl (fr_self _ s) .power rfl

theorem electOf_lt (own strap ownSerial serial role : Nat) : electOf own strap ownSerial serial role < 16 := by
  unfold electOf
  split_ifs <;> decide

theorem electionWindowEnd_defers (s : State) (at_ : Nat) (he : s.electing = true) (hat : s.power.beaconAt = some at_)
    (hh : s.power.heard = none) : Nexts (exec .electionWindowEnd s) (fun t => t.power.deferred = true ∧
      t.frc = max s.frc (at_ + 50000000) ∧ t.regs = s.regs) := by
  show Nexts (execElectionWindowEnd s) _
  unfold execElectionWindowEnd
  rw [he, hat]
  dsimp only
  rw [hh, nexts_next]
  exact ⟨rfl, rfl, rfl⟩

theorem electionWindowEnd_elects (s : State) (at_ serial strap role : Nat) (he : s.electing = true)
    (hat : s.power.beaconAt = some at_) (hh : s.power.heard = some (serial, strap, role)) :
    Nexts (exec .electionWindowEnd s) (fun t =>
      t.rd Reg.PWR_STAT_ELECT = electOf s.power.strap strap s.ident.serial serial role) := by
  show Nexts (execElectionWindowEnd s) _
  unfold execElectionWindowEnd
  rw [he, hat]
  dsimp only
  rw [hh, nexts_next]
  exact elect_shows _ (electOf_lt _ _ _ _ _)

theorem electionDeferEnd_won (s : State) (he : s.electing = true) (hd : s.power.deferred = true)
    (hh : s.power.heard = none) (hb : s.ban.beat = none) : Nexts (exec .electionDeferEnd s) (fun t =>
      t.rd Reg.PWR_STAT_ELECT = 4 ∧ t.frc = max s.frc (305000000 - s.rd Reg.PWR_BOOT_RESET * 1000)) := by
  show Nexts (execElectionDeferEnd s) _
  unfold execElectionDeferEnd
  rw [if_pos ⟨he, hd⟩]
  dsimp only
  rw [hh, hb, nexts_next]
  exact ⟨elect_shows _ (by decide), elect_frc _ _⟩

theorem electionDeferEnd_beat (s : State) (serial role : Nat) (he : s.electing = true) (hd : s.power.deferred = true)
    (hh : s.power.heard = none) (hb : s.ban.beat = some (serial, role)) :
    Nexts (exec .electionDeferEnd s) (fun t =>
      t.rd Reg.PWR_STAT_ELECT = electOf 0 0 s.ident.serial serial role ∧
      t.rd Reg.BAN_PEER_SERIAL = serial % 2 ^ 32) := by
  show Nexts (execElectionDeferEnd s) _
  unfold execElectionDeferEnd
  rw [if_pos ⟨he, hd⟩]
  dsimp only
  rw [hh, hb, nexts_next]
  refine ⟨elect_shows _ (electOf_lt _ _ _ _ _), ?_⟩
  rw [(elect_keeps _ _ (by decide)).rd, rd_wr_addr _ _ _ _ (by decide), rd_wr_self _ _ _ (by decide)]
  rfl

/-- What a beacon shows, before the election takes it. -/
def State.beaconShown (s : State) (serial role : Nat) : State := (s.wr Reg.BAN_PEER_SERIAL serial).setPeerRole role

theorem beaconShown_fields (s : State) (serial : BitVec 32) (role : Fin 8) :
    (s.beaconShown serial.toNat role.val).rd Reg.BAN_PEER_SERIAL = serial.toNat ∧
      (s.beaconShown serial.toNat role.val).rd Reg.BAN_STAT_PEER_ROLE = role.val ∧
      (s.beaconShown serial.toNat role.val).electing = s.electing := by
  refine ⟨?_, rd_wr_fits _ _ rfl (lt_trans role.isLt (by decide)), ?_⟩
  · exact (rd_wr_addr _ _ _ _ (by decide)).trans (rd_wr_fits _ _ rfl serial.isLt)
  · rw [State.beaconShown, electing_setPeerRole, State.electing, State.locked, rd_wr_addr _ _ _ _ (by decide),
      rd_wr_addr _ _ _ _ (by decide)]
    rfl

theorem heard_electing (s : State) (a : Arrival) : (s.heard a).electing = s.electing := by
  rw [State.electing, heard_power, heard_locked, heard_rd, State.electing]

theorem beacon_told (s : State) (a : Arrival) (serial caps : BitVec 32) (strap : Fin 4) (role : Fin 8)
    (h : s.inOrder a = true) (he : s.electing = false) (hj : s.ban.join = none) (hearly : s.ban.early = []) :
    Nexts (exec (.beacon a serial caps strap role) s) (fun t =>
      t.rd Reg.BAN_PEER_SERIAL = serial.toNat ∧ t.rd Reg.BAN_STAT_PEER_ROLE = role.val) := by
  obtain ⟨hserial, hrole, helect⟩ := beaconShown_fields (s.heard a) serial role
  have htake : (s.heard a).msgAct a (.beacon serial caps strap role) =
      (s.heard a).beaconShown serial.toNat role.val := 
    if_neg (ne_true_of_eq_false (helect.trans ((heard_electing s a).trans he)))
  exact nexts_arrive (arrive_of_inOrder h rfl) htake ((heard_join h).trans hj) ((heard_early h).trans hearly)
    ⟨hserial, hrole⟩

/-- What is heard while a module elects. -/
def State.heardBeacon (s : State) (strap role : Nat) : State :=
  { s with power := { s.power with heard := some (s.rd Reg.BAN_PEER_SERIAL, strap, role) } }

/-- It is noted; where it settles the election, the module shows that it has lost. -/
theorem hear_electing {s : State} (he : s.electing = true) (strap role : Nat) :
    (s.hear strap role).power = (s.heardBeacon strap role).power ∧ (s.hear strap role).ban = s.ban ∧
      KeepsReg Reg.BAN_PEER_SERIAL.addr s (s.hear strap role) := by
  have hlost : ∀ u : State, (u.elect 5).ban = u.ban := fun u => by
    unfold State.elect
    dsimp only
    rw [if_pos rfl, post_ban, wr_ban]
  unfold State.hear
  rw [if_pos he]
  dsimp only
  split
  · exact ⟨elect_power _ _, hlost _, KeepsReg.trans (t := (s.heardBeacon strap role).wr Reg.PWR_STAT_ELECT 5)
      (KeepsReg.wr (t := s.heardBeacon strap role) (.of_regs rfl) _ (by decide)) (elect_keeps _ _ (by decide))⟩
  · exact ⟨rfl, rfl, .of_regs rfl⟩

theorem beacon_elects (s : State) (a : Arrival) (serial caps : BitVec 32) (strap : Fin 4) (role : Fin 8)
    (h : s.inOrder a = true) (he : s.electing = true) (_hd : s.power.deferred = false) (hj : s.ban.join = none)
    (hearly : s.ban.early = []) : Nexts (exec (.beacon a serial caps strap role) s) (fun t =>
      t.rd Reg.BAN_PEER_SERIAL = serial.toNat ∧ t.power.heard = some (serial.toNat, strap.val, role.val)) := by
  obtain ⟨hserial, -, helect⟩ := beaconShown_fields (s.heard a) serial role
  obtain ⟨hpower, hban, hkeep⟩ := hear_electing (helect.trans ((heard_electing s a).trans he)) strap.val role.val
  refine nexts_arrive (arrive_of_inOrder h rfl) rfl ?_ ?_ ⟨hkeep.rd.trans hserial, ?_⟩
  · exact (congrArg Ban.join hban).trans ((heard_join h).trans hj)
  · exact (congrArg Ban.early hban).trans ((heard_early h).trans hearly)
  · refine (congrArg Power.heard hpower).trans ?_
    rw [State.heardBeacon, hserial]

end Sys2Proof.Machine
end

section
open Sys2Proof Sys2Proof.Machine

/-- Settles O57: supply, hold-up, shutdown, start, the Porter and the election, each clause by its own lemma. -/
theorem powerCommandsComplete : Obligations.PowerCommandsComplete :=
  ⟨powerInput_starts, powerInput_dips, powerInput_recovers, holdupFull_shows, powerFailWarning_unstarted,
    powerFailWarning_running, shutdownOutputsOff_shows, shutdownMramCommit_commits, controlUnpowered_ran,
    controlUnpowered_unstarted, controlResetRelease_starts, shutdown_delivers, shutdown_alone, cellLow_running,
    cellLow_off, lidChange_counts, sealChange_counts_seal, beaconSend_sends, beacon_told, beacon_elects,
    electionWindowEnd_defers, electionWindowEnd_elects, electionDeferEnd_won, electionDeferEnd_beat⟩

end

section
/-!
Field islands (R290 to R331): what the rules time of an island stands apart from the rest of it, so each operation's
channel and island fields are those that it sets.
-/
namespace Sys2Proof.Machine

/-! ### What the rules time -/

/-- A channel without what the rules time of it. -/
def IslChan.held (h : IslChan) : IslChan :=
  { h with onAt := none, misAt := none, misTold := false, agrAt := none, defAt := none, fitAt := none, rowAt := none, compOff := 0 }

/-- An island without its channels and what the rules time of its supply. -/
def Island.held (x : Island) : Island := { x with chans := [], underAt := none, overAt := none }

theorem held_chan_field {g h : IslChan} (e : g.held = h.held) {α : Type} (f : IslChan → α)
    (hf : ∀ h : IslChan, f h.held = f h) : f g = f h := by rw [← hf, e, hf]

theorem held_field {x y : Island} (e : x.held = y.held) {α : Type} (f : Island → α) (hf : ∀ x : Island, f x.held = f x) :
    f x = f y := by rw [← hf, e, hf]

theorem chan_setChan_island (x : Island) (c : Nat) (h : IslChan) : (x.setChan c h).chan c = h := by
  rw [Island.chan, Island.setChan, Assoc.find?_insert_self, Option.getD_some]

theorem chan_setChan_other (x : Island) {c d : Nat} (h : IslChan) (hne : d ≠ c) : (x.setChan c h).chan d = x.chan d := by
  rw [Island.chan, Island.setChan, Assoc.find?_insert_ne _ _ _ _ hne, Island.chan]

/-- Two islands hold the same, channel by channel. -/
def IslKeeps (x y : Island) : Prop := y.held = x.held ∧ ∀ c, (y.chan c).held = (x.chan c).held

theorem timedChan_keeps (x : Island) (now c : Nat) : IslKeeps x (x.timedChan now c) := by
  refine ⟨rfl, fun d => ?_⟩
  unfold Island.timedChan
  dsimp only
  by_cases hd : d = c
  · rw [hd, chan_setChan_island]
    rfl
  · rw [chan_setChan_other _ _ hd]

/-- To follow what the rules time changes nothing else. -/
theorem timed_keeps (x : Island) (now : Nat) : IslKeeps x (x.timed now) := by
  unfold Island.timed
  extract_lets y
  refine List.foldlRecOn (motive := IslKeeps x) _ _ ⟨rfl, fun _ => rfl⟩ fun z hz c _ => ?_
  obtain ⟨hheld, hchan⟩ := hz
  obtain ⟨hheld', hchan'⟩ := timedChan_keeps z now c
  exact ⟨hheld'.trans hheld, fun d => (hchan' d).trans (hchan d)⟩

/-! ### An island that is replaced -/

theorem island_of_isl {s t : State} (h : t.isl = s.isl) (k : Nat) : t.island k = s.island k := by
  rw [State.island, h, State.island]

theorem setIsland_island (s : State) (k : Nat) (x : Island) : (s.setIsland k x).island k = x.timed s.safClock := by
  rw [State.island, State.setIsland]
  dsimp only
  rw [Assoc.find?_insert_self, Option.getD_some]

theorem setIsland_frc (s : State) (k : Nat) (x : Island) : (s.setIsland k x).frc = s.frc :=
  State.setIsland_frame (F := fun p => p != .frc) s k x rfl (fr_self _ s) .frc rfl

theorem setIsland_saf (s : State) (k : Nat) (x : Island) : (s.setIsland k x).saf = s.saf :=
  State.setIsland_frame (F := fun p => p != .saf) s k x rfl (fr_self _ s) .saf rfl

theorem setIsland_safClock (s : State) (k : Nat) (x : Island) : (s.setIsland k x).safClock = s.safClock := by
  rw [State.safClock, setIsland_saf, setIsland_frc, State.safClock]

theorem post_safClock (s : State) (source code p1 p2 p3 : Nat) : (s.post source code p1 p2 p3).safClock = s.safClock := by
  rw [State.safClock, post_saf, post_frc, State.safClock]

theorem post_island (s : State) (source code p1 p2 p3 k : Nat) :
    (s.post source code p1 p2 p3).island k = s.island k := island_of_isl (post_isl _ _ _ _ _ _) k

theorem waitTo_island (s : State) (n k : Nat) : (s.waitTo n).island k = s.island k :=
  island_of_isl (State.waitTo_frame (F := fun p => p != .isl) s n rfl (fr_self _ s) .isl rfl) k

theorem setIsland_held (s : State) (k : Nat) (x : Island) : ((s.setIsland k x).island k).held = x.held := by
  rw [setIsland_island]
  exact (timed_keeps x s.safClock).1

theorem setIsland_chan_held (s : State) (k c : Nat) (x : Island) :
    (((s.setIsland k x).island k).chan c).held = (x.chan c).held := by
  rw [setIsland_island]
  exact (timed_keeps x s.safClock).2 c

theorem setCh_chan_held (s : State) (k c : Nat) (h : IslChan) : (((s.setCh k c h).island k).chan c).held = h.held := by
  rw [State.setCh, setIsland_chan_held, chan_setChan_island]

/-! ### Barrier frames (R291 to R297) -/

theorem barrierFrameSend_sends (s : State) (k : Fin 8) (hr : s.power.running = true) (hk : s.islFitted k = true) :
    Nexts (exec (.barrierFrameSend k) s) (fun t => (let slot := max ((s.island k).txSlot + 1) ((s.frc + 15999) / 10000)
        t.frc = max s.frc (10000 * slot - 6000) ∧
        t.island k = ({ s.island k with sent := ({ s with frc := t.frc } : State).islSend k, sentNo := (s.island k).txCount, txCount := (s.island k).txCount + 1, txSlot := slot, restore := (s.island k).restore - 1 } : Island).timed t.safClock)) := by
  show Nexts (execBarrierFrameSend k s) _
  rw [execBarrierFrameSend, if_pos (by rw [hr, hk]; rfl)]
  extract_lets +onlyGivenNames x slot u
  rw [nexts_next]
  dsimp only
  rw [setIsland_frc, setIsland_safClock, setIsland_island]
  exact ⟨rfl, rfl⟩

/-- The slot that a barrier frame of an island comes in. -/
def State.slotBegun (s : State) (k : Nat) : State :=
  let slot := max ((s.island k).rxSlot + 1) ((s.frc + 9999) / 10000)
  ({ s with frc := 10000 * slot } : State).setIsland k { s.island k with rxSlot := slot }

theorem slotBegun_held (s : State) (k : Nat) :
    ((s.slotBegun k).island k).alive = (s.island k).alive ∧ ((s.slotBegun k).island k).badRun = (s.island k).badRun := by
  have h : ((s.slotBegun k).island k).held = ({ s.island k with
    rxSlot := max ((s.island k).rxSlot + 1) ((s.frc + 9999) / 10000) } : Island).held := setIsland_held _ _ _
  exact ⟨held_field h Island.alive fun _ => rfl, held_field h Island.badRun fun _ => rfl⟩

theorem barrierSlot_begins {s : State} {k : Fin 8} (hr : s.power.running = true) (hk : s.islFitted k = true) :
    ¬ (!(s.power.running && s.islFitted k)) = true := by
  rw [hr, hk]
  decide

/-- What the slot of an island that runs does, once it has begun. -/
def State.slotTaken (u : State) (k : Nat) (good : Bool) (skip : Fin 256) (fld : IslField) : State :=
  let u := u.islMeasure k fld.supply
  let x := ({ u.island k with temp := fld.temp, seq := (u.island k).seq + 1 + skip } : Island).measureAo fld.ao
  let v := (u.setIsland k x).outSample
  if good then (v.islGood k (v.islFrame k x)).islDiag k else v.islBadSlots k (x.badRun + 1)

/-- The command, once the slot has begun. -/
def State.slotEnds (u : State) (k : Nat) (good : Bool) (skip : Fin 256) (fld : IslField) : Answer :=
  let x := u.island k
  if !x.alive then .next (u.islBadSlots k (x.badRun + 1))
  else
    let u := u.islMeasure k fld.supply
    let x := u.island k
    let x := { x with temp := fld.temp, seq := x.seq + 1 + skip }.measureAo fld.ao
    let u := (u.setIsland k x).outSample
    if good then .next ((u.islGood k (u.islFrame k x)).islDiag k)
    else .next (u.islBadSlots k (x.badRun + 1))

theorem slotEnds_alive {u : State} {k : Nat} (good : Bool) (skip : Fin 256) (fld : IslField)
    (ha : (u.island k).alive = true) : u.slotEnds k good skip fld = .next (u.slotTaken k good skip fld) := by
  unfold State.slotEnds State.slotTaken
  dsimp only
  rw [if_neg (by rw [ha]; decide)]
  split <;> rfl

theorem exec_barrierSlot {s : State} {k : Fin 8} (good : Bool) (skip : Fin 256) (fld : IslField)
    (hr : s.power.running = true) (hk : s.islFitted k = true) :
    exec (.barrierSlot k good skip fld) s = (s.slotBegun k).slotEnds k good skip fld :=
  if_neg (barrierSlot_begins hr hk)

theorem barrierSlot_dead (s : State) (k : Fin 8) (good : Bool) (skip : Fin 256) (fld : IslField)
    (hr : s.power.running = true) (hk : s.islFitted k = true) (ha : (s.island k).alive = false) :
    exec (.barrierSlot k good skip fld) s = .next ((let slot := max ((s.island k).rxSlot + 1) ((s.frc + 9999) / 10000)
        (({ s with frc := 10000 * slot } : State).setIsland k { s.island k with rxSlot := slot }).islBadSlots k ((s.island k).badRun + 1))) := by
  obtain ⟨halive, hbad⟩ := slotBegun_held s k
  rw [exec_barrierSlot good skip fld hr hk, State.slotEnds]
  dsimp only
  rw [if_pos (by rw [halive, ha]; rfl), hbad]
  rfl

theorem barrierSlot_alive (s : State) (k : Fin 8) (good : Bool) (skip : Fin 256) (fld : IslField)
    (hr : s.power.running = true) (hk : s.islFitted k = true) (ha : (s.island k).alive = true) :
    exec (.barrierSlot k good skip fld) s = .next ((let slot := max ((s.island k).rxSlot + 1) ((s.frc + 9999) / 10000)
        let u := (({ s with frc := 10000 * slot } : State).setIsland k { s.island k with rxSlot := slot }).islMeasure k fld.supply
        let x := ({ u.island k with temp := fld.temp, seq := (u.island k).seq + 1 + skip } : Island).measureAo fld.ao
        let v := (u.setIsland k x).outSample
        if good then (v.islGood k (v.islFrame k x)).islDiag k else v.islBadSlots k (x.badRun + 1))) := by
  obtain ⟨halive, -⟩ := slotBegun_held s k
  rw [exec_barrierSlot good skip fld hr hk, slotEnds_alive good skip fld (halive.trans ha)]
  rfl

theorem islandFrameReceive_takes (s : State) (k : Fin 8) (ha : (s.island k).alive = true)
    (hs : (s.island k).sent ≠ []) : exec (.islandFrameReceive k) s =
      .next (({ s with frc := max s.frc (10000 * (s.island k).txSlot) } : State).islTake k (s.island k).sent) :=
  if_pos (by rw [ha, bne_iff_ne.2 hs]; rfl)

theorem islandWatchdog_fails (s : State) (k : Fin 8) (ha : (s.island k).alive = true) :
    Nexts (exec (.islandWatchdog k) s) (fun t => t.island k = ({ s.island k with ovRun := 0, fsCause := if (s.island k).fs then (s.island k).fsCause else 0, fs := true } : Island).follow.timed t.safClock ∧ t.frc = (s.waitTo ((s.island k).frameAt + 40000)).frc) := by
  show Nexts (execIslandWatchdog k s) _
  rw [execIslandWatchdog]
  dsimp only
  rw [if_pos ha, nexts_next, setIsland_frc, setIsland_safClock, setIsland_island]
  exact ⟨rfl, rfl⟩

/-! ### An island's supply (R306, R307) -/

/-- What an island's measurement of its supply leaves. -/
theorem islMeasure_held (s : State) (k supply : Nat) : ∃ low warn,
    ((s.islMeasure k supply).island k).held = ({ s.island k with supply, low, warn } : Island).held := by
  unfold State.islMeasure
  extract_lets x warn low u
  have hu : (u.island k).held = ({ x with supply, low, warn := x.warn || warn } : Island).held := setIsland_held _ _ _
  split
  · rw [post_island]
    exact ⟨_, _, hu⟩
  · exact ⟨_, _, hu⟩

theorem islMeasure_frc (s : State) (k supply : Nat) : (s.islMeasure k supply).frc = s.frc :=
  State.islMeasure_frame (F := fun p => p != .frc) s k supply rfl (fr_self _ s) .frc rfl

theorem islandSupplyReturn_starts (s : State) (k : Fin 8) (supply : Nat) (ha : (s.island k).alive = false)
    (hk : s.islFitted k = true) (hs : 11000 ≤ supply) : Nexts (exec (.islandSupplyReturn k supply) s) (fun t =>
      (t.island k).alive = true ∧ (t.island k).supply = supply) := by
  show Nexts (execIslandSupplyReturn k supply s) _
  rw [execIslandSupplyReturn]
  rw [if_pos (by rw [ha, hk, decide_eq_true hs]; rfl), nexts_next]
  obtain ⟨low, warn, h⟩ := islMeasure_held (s.setIsland k { s.island k with alive := true, sent := [] }) k supply
  have halive : ((s.setIsland k { s.island k with alive := true, sent := [] }).island k).alive = true :=
    held_field (setIsland_held _ _ _) Island.alive fun _ => rfl
  exact ⟨(held_field h Island.alive fun _ => rfl).trans halive, held_field h Island.supply fun _ => rfl⟩

theorem foldl_resetChan_held (x : Island) (l : List Nat) :
    (l.foldl (fun (y : Island) c => y.resetChan c) x).held = x.held :=
  List.foldlRecOn (motive := fun y : Island => y.held = x.held) _ _ rfl fun _ hy _ _ => hy

theorem islandLogicReset_stops (s : State) (k : Fin 8) (ha : (s.island k).alive = true) :
    Nexts (exec (.islandLogicReset k) s) (fun t => (t.island k).alive = false ∧ (t.island k).fs = true ∧
      (t.island k).params = [] ∧ (t.island k).cfgOk = false) := by
  show Nexts (execIslandLogicReset k s) _
  rw [execIslandLogicReset]
  dsimp only
  rw [if_pos ha, nexts_next]
  have h := (setIsland_held s k _).trans (foldl_resetChan_held { s.island k with
      rxNo := none, alive := false, params := [], cfgOk := false, ovRun := 0
      fsCause := if (s.island k).fs then (s.island k).fsCause else 0, fs := true
      warn := false, sagOff := false, unc := false, ready := false, gTotal := none, gMask := 0
      safeA := {}, safeB := {}, sent := [] } (List.range 8))
  exact ⟨held_field h Island.alive fun _ => rfl, held_field h Island.fs fun _ => rfl,
    held_field h Island.params fun _ => rfl, held_field h Island.cfgOk fun _ => rfl⟩

theorem openNow_held (x : Island) : x.openNow.held = x.held :=
  List.foldlRecOn (motive := fun y : Island => y.held = x.held) _ _ rfl fun _ hy _ _ => hy

theorem sagOff_switches (s : State) (k : Fin 8) (supply : Nat) (ha : (s.island k).alive = true) (hs : supply < 15000) :
    Nexts (exec (.sagOff k supply) s) (fun t => (t.island k).sagOff = true ∧ (t.island k).unc = true ∧
      (t.island k).ready = false ∧ t.frc = (s.waitTo ((s.island k).underAt.getD s.safClock + 1000000)).frc) := by
  show Nexts (execSagOff k supply s) _
  rw [execSagOff, if_pos ⟨ha, hs⟩]
  extract_lets u v x mask y w
  have hw : (w.island k).held = y.held := (setIsland_held _ _ _).trans (openNow_held y)
  have hfrc : w.frc = u.frc := (setIsland_frc _ _ _).trans (islMeasure_frc _ _ _)
  have hfields : (w.island k).sagOff = true ∧ (w.island k).unc = true ∧ (w.island k).ready = false :=
    ⟨held_field hw Island.sagOff fun _ => rfl, held_field hw Island.unc fun _ => rfl,
      held_field hw Island.ready fun _ => rfl⟩
  obtain ⟨hoff, hunc, hready⟩ := hfields
  rw [nexts_next]
  split
  · exact ⟨hoff, hunc, hready, hfrc⟩
  · rw [post_island, post_frc]
    exact ⟨hoff, hunc, hready, hfrc⟩

theorem restoreReady_shows {s : State} {k : Fin 8} {supply : Nat} (ha : (s.island k).alive = true) (hs : 19200 < supply)
    (hlow : ((s.island k).warn || (s.island k).unc || (s.island k).sagOff) = true)
    (hauto : bitAt ((s.island k).par 128) 1 = false) : Nexts (exec (.restoreReady k supply) s) (fun t =>
      (t.island k).ready = (s.island k).sagOff ∧ (t.island k).warn = false ∧ (t.island k).unc = false ∧
      t.frc = (s.waitTo ((s.island k).overAt.getD s.safClock + 100000000)).frc) := by
  show Nexts (execRestoreReady k supply s) _
  rw [execRestoreReady]
  dsimp only
  rw [if_pos ⟨ha, hs, hlow⟩, hauto, if_neg (by decide), nexts_next, setIsland_frc]
  have h := setIsland_held (s.waitTo ((s.island k).overAt.getD s.safClock + 100000000)) k
    { s.island k with warn := false, unc := false, ready := (s.island k).sagOff, supply }
  exact ⟨held_field h Island.ready fun _ => rfl, held_field h Island.warn fun _ => rfl,
    held_field h Island.unc fun _ => rfl, rfl⟩

theorem restoreReady_sagged (s : State) (k : Fin 8) (supply : Nat) (ha : (s.island k).alive = true) (hs : 19200 < supply)
    (hoff : (s.island k).sagOff = true) (hauto : bitAt ((s.island k).par 128) 1 = false) :
    Nexts (exec (.restoreReady k supply) s) (fun t => (t.island k).ready = true ∧ (t.island k).warn = false ∧
      (t.island k).unc = false ∧ t.frc = (s.waitTo ((s.island k).overAt.getD s.safClock + 100000000)).frc) := by
  rw [← hoff]
  exact restoreReady_shows ha hs (by rw [hoff, Bool.or_true]) hauto

theorem restoreReady_uncertain (s : State) (k : Fin 8) (supply : Nat) (ha : (s.island k).alive = true)
    (hs : 19200 < supply) (hoff : (s.island k).sagOff = false) (hunc : (s.island k).unc = true)
    (hauto : bitAt ((s.island k).par 128) 1 = false) : Nexts (exec (.restoreReady k supply) s) (fun t =>
      (t.island k).ready = false ∧ (t.island k).warn = false ∧ (t.island k).unc = false) :=
  nexts_imp (restoreReady_shows ha hs (by rw [hunc, Bool.or_true, Bool.true_or]) hauto)
    fun _ ⟨hready, hwarn, hu, _⟩ => ⟨hready.trans hoff, hwarn, hu⟩

/-! ### Commands (R307, R516) -/

/-- Fields that are cleared one after the other, none of which shares another's register, read 0. -/
theorem rd_foldl_clear {s : State} {l : List Nat} {f : Nat → Fld}
    (hf : ∀ c d, c ∈ l → d ∈ l → (f c).addr = (f d).addr → f c = f d)
    (hfit : ∀ c, Nat.ble ((f c).lo + (f c).width) 32 = true) {c : Nat} (hc : c ∈ l) :
    (l.foldl (fun s c => s.wr (f c) 0) s).rd (f c) = 0 := by
  have hzero : ∀ u : State, (u.wr (f c) 0).rd (f c) = 0 := fun u => rd_wr_fits u _ (hfit c) (Nat.two_pow_pos _)
  have hkeep : ∀ (l' : List Nat) (u : State), l' ⊆ l → u.rd (f c) = 0 →
      (l'.foldl (fun s c => s.wr (f c) 0) u).rd (f c) = 0 := fun l' u hl hu =>
    List.foldlRecOn (motive := fun t : State => t.rd (f c) = 0) _ _ hu fun t ht d hd => by
      by_cases ha : (f c).addr = (f d).addr
      · rw [← hf c d hc (hl hd) ha]
        exact hzero t
      · exact (rd_wr_addr t (f d) (f c) 0 ha).trans ht
  obtain ⟨before, after, rfl⟩ := List.append_of_mem hc
  rw [List.foldl_append, List.foldl_cons]
  exact hkeep after _ (fun _ h => List.mem_append_right _ (List.mem_cons_of_mem _ h)) (hzero _)

theorem islCmdWrite_restore (s : State) (k : Nat) (hf : s.islFault k = false)
    (ho : s.on (Reg.ISL_STAT_SAG_OFF k) = true) (hr : s.on (Reg.ISL_STAT_RESTORE_READY k) = true) :
    s.islCmdWrite k 0xA5000001 = (s.cmdStat (Reg.ISL_CMD_STAT_STATUS k) (Reg.ISL_CMD_STAT_REASON k) 0).setIsland k
      { s.island k with restore := 3 } := by
  unfold State.islCmdWrite
  dsimp only
  rw [if_neg (by decide), if_pos (by decide), hf, ho, hr]
  rfl

theorem islCmdWrite_clear (s : State) (k : Nat) : s.islCmdWrite k 0xA5000002 =
    (List.range 8).foldl (fun s c => s.wr (Reg.ISL_CH_CNT k c) 0)
      (s.cmdStat (Reg.ISL_CMD_STAT_STATUS k) (Reg.ISL_CMD_STAT_REASON k) 0) := by
  unfold State.islCmdWrite
  dsimp only
  rw [if_neg (by decide), if_neg (by decide), if_pos (by decide)]

/-- What a taken command leaves of ISL_CMD_STAT. -/
theorem islCmdStat_taken (s : State) (k : Nat) :
    (s.cmdStat (Reg.ISL_CMD_STAT_STATUS k) (Reg.ISL_CMD_STAT_REASON k) 0).rd (Reg.ISL_CMD_STAT_STATUS k) = Sta.ok ∧
      (s.cmdStat (Reg.ISL_CMD_STAT_STATUS k) (Reg.ISL_CMD_STAT_REASON k) 0).rd (Reg.ISL_CMD_STAT_REASON k) = 0 :=
  ⟨cmdStat_taken s (Reg.ISL_CMD_STAT k).addr, rd_wr_fits _ _ rfl (Nat.two_pow_pos 8)⟩

theorem islRestore_taken (s : State) (m : Master) (k : Fin 8) (h : s.allows m .w32 true (Reg.ISL_CMD k).addr)
    (hf : s.islFault k = false) (ho : s.on (Reg.ISL_STAT_SAG_OFF k) = true)
    (hr : s.on (Reg.ISL_STAT_RESTORE_READY k) = true) : Nexts (exec (.islRestore m k) s) (fun t =>
      (t.island k).restore = 3 ∧ t.rd (Reg.ISL_CMD_STAT_STATUS k) = Sta.ok ∧ t.rd (Reg.ISL_CMD_STAT_REASON k) = 0) := by
  obtain ⟨g, hg⟩ := access_accessed h (by simp only [Reg.ISL_CMD]; omega) (fun t => t.islCmdWrite k 0xA5000001)
  have hwrite := islCmdWrite_restore (s.accessed g) k hf ho hr
  obtain ⟨hstatus, hreason⟩ := islCmdStat_taken (s.accessed g) k
  have hkeep := KeepsReg.self (a := (Reg.ISL_CMD_STAT k).addr)
    (s := (s.accessed g).cmdStat (Reg.ISL_CMD_STAT_STATUS k) (Reg.ISL_CMD_STAT_REASON k) 0)
    |>.setIsland k { (s.accessed g).island k with restore := 3 } (by simp only [Reg.ISL_CMD_STAT]; omega)
  refine ⟨_, congrArg Host.Outcome.next (hg.trans hwrite), held_field (setIsland_held _ _ _) Island.restore fun _ => rfl,
    ?_, ?_⟩
  · exact (hkeep.rd (f := Reg.ISL_CMD_STAT_STATUS k)).trans hstatus
  · exact (hkeep.rd (f := Reg.ISL_CMD_STAT_REASON k)).trans hreason

theorem islClearCounts_taken (s : State) (m : Master) (k : Fin 8) (h : s.allows m .w32 true (Reg.ISL_CMD k).addr) :
    Nexts (exec (.islClearCounts m k) s) (fun t => (∀ c : Fin 8, t.rd (Reg.ISL_CH_CNT k c) = 0) ∧
      t.rd (Reg.ISL_CMD_STAT_STATUS k) = Sta.ok ∧ t.rd (Reg.ISL_CMD_STAT_REASON k) = 0) := by
  obtain ⟨g, hg⟩ := access_accessed h (by simp only [Reg.ISL_CMD]; omega) (fun t => t.islCmdWrite k 0xA5000002)
  obtain ⟨hstatus, hreason⟩ := islCmdStat_taken (s.accessed g) k
  generalize hu : (s.accessed g).cmdStat (Reg.ISL_CMD_STAT_STATUS k) (Reg.ISL_CMD_STAT_REASON k) 0 = u at hstatus hreason
  have hwrite : (s.accessed g).islCmdWrite k 0xA5000002 =
      (List.range 8).foldl (fun s c => s.wr (Reg.ISL_CH_CNT k c) 0) u := by rw [islCmdWrite_clear, hu]
  have hkeep : KeepsReg (Reg.ISL_CMD_STAT k).addr u ((List.range 8).foldl (fun s c => s.wr (Reg.ISL_CH_CNT k c) 0) u) :=
    KeepsReg.foldl (fun c _ t ht => ht.wr _ (by simp only [Reg.ISL_CMD_STAT, Reg.ISL_CH_CNT]; omega)) .self
  refine ⟨_, congrArg Host.Outcome.next (hg.trans hwrite), fun c => ?_, ?_, ?_⟩
  · refine rd_foldl_clear (fun c d _ _ e => ?_) (fun c => rfl) (List.mem_range.2 c.isLt)
    simp only [Reg.ISL_CH_CNT] at e ⊢
    rw [e]
  · exact (hkeep.rd (f := Reg.ISL_CMD_STAT_STATUS k)).trans hstatus
  · exact (hkeep.rd (f := Reg.ISL_CMD_STAT_REASON k)).trans hreason

theorem restoreChannelOn_switches (s : State) (k : Fin 8)
    (hw : (List.range 8).any (fun c => ((s.island k).chan c).waiting) = true) :
    Nexts (exec (.restoreChannelOn k) s) (fun t => t.island k = ({ (s.island k).restoreOne with restAt := t.safClock } : Island).timed t.safClock ∧ t.frc = (s.waitTo ((s.island k).restAt + 1000000)).frc) := by
  show Nexts (execRestoreChannelOn k s) _
  rw [execRestoreChannelOn]
  dsimp only
  rw [if_pos hw, nexts_next, setIsland_frc, setIsland_safClock, setIsland_island]
  exact ⟨rfl, rfl⟩

theorem killLineChange_follows (s : State) (k : Fin 8) (hk : s.islFitted k = true) :
    Nexts (exec (.killLineChange k) s) (fun t => t.island k = ({ s.island k with kill := bitAt (s.rd Reg.TRP_SINK_TRIPPED) (8 + k) } : Island).openNow.timed s.safClock) := by
  show Nexts (execKillLineChange k s) _
  rw [execKillLineChange, if_pos hk, nexts_next, setIsland_island]

end Sys2Proof.Machine
end

section
open Sys2Proof Sys2Proof.Machine

/-- Settles O37: frames, supplies and commands of an island, up to what the rules time of it. -/
theorem islandFramesComplete : Obligations.IslandFramesComplete :=
  ⟨barrierFrameSend_sends, barrierSlot_dead, barrierSlot_alive, islandFrameReceive_takes, islandWatchdog_fails,
    islandSupplyReturn_starts, islandLogicReset_stops, sagOff_switches, restoreReady_sagged, restoreReady_uncertain,
    islRestore_taken, islClearCounts_taken, restoreChannelOn_switches, killLineChange_follows⟩

end

section
/-!
Digital and analogue channels of an island (R298 to R331): what each sample, limit and flag sets of its channel.
-/
namespace Sys2Proof.Machine

/-! ### Digital channels (R298 to R308) -/

theorem outSample_isl (s : State) : s.outSample.isl = s.isl := by
  unfold State.outSample
  split <;> rfl

theorem outSample_frc (s : State) : s.outSample.frc = s.frc := by
  unfold State.outSample
  split <;> rfl

theorem outSample_safClock (s : State) : s.outSample.safClock = s.safClock := by
  unfold State.outSample
  split <;> rfl

theorem inputSample_samples (s : State) (k : Fin 8) (smp : List DigSample) (ha : (s.island k).alive = true) :
    Nexts (exec (.inputSample k smp) s) (fun t => t.island k = ((List.range 8).foldl (fun (y : Island) c => match smp[c]? with
            | some d => y.sample c d
            | none => y) { s.island k with smpAt := t.safClock }).timed t.safClock ∧ t.frc = (s.waitTo ((s.island k).smpAt + 10000)).frc) := by
  show Nexts (execInputSample k smp s) _
  rw [execInputSample]
  dsimp only
  rw [if_pos ha, nexts_next, island_of_isl (outSample_isl _), outSample_safClock, outSample_frc, setIsland_frc,
    setIsland_safClock, setIsland_island]
  exact ⟨rfl, rfl⟩

/-- A channel of an island whose fields a command sets. -/
theorem setCh_field (s : State) (k c : Nat) (h : IslChan) {α : Type} (f : IslChan → α) (hf : ∀ h : IslChan, f h.held = f h) :
    f (((s.setCh k c h).island k).chan c) = f h := held_chan_field (setCh_chan_held s k c h) f hf

theorem setCh_frc (s : State) (k c : Nat) (h : IslChan) : (s.setCh k c h).frc = s.frc := setIsland_frc _ _ _

theorem setCh_safClock (s : State) (k c : Nat) (h : IslChan) : (s.setCh k c h).safClock = s.safClock :=
  setIsland_safClock _ _ _

theorem bump_island (s : State) (f : Fld) (k : Nat) : (s.bump f).island k = s.island k := rfl

theorem bump_safClock (s : State) (f : Fld) : (s.bump f).safClock = s.safClock := rfl

/-- A count of a channel that its event has left goes up by one, and stays while the event is recorded. -/
theorem chanCount_post {s u : State} {k c : Fin 8} {f : Fld} (hf : f.addr = (Reg.ISL_CH_CNT k c).addr)
    (hw : f.lo + f.width ≤ 32 ∧ f.width = 16) (hu : KeepsReg f.addr s u) (source code p1 p2 p3 : Nat) :
    ((u.bump f).post source code p1 p2 p3).rd f = satInc 16 (s.rd f) := by
  obtain ⟨hfit, hwide⟩ := hw
  have hgb : unitOf f.addr ≠ Un.gb := by
    rw [hf]
    simp only [unitOf, regBase, Un.gb, Reg.ISL_CH_CNT]
    omega
  rw [rd_post _ _ _ _ _ _ f hgb, rd_bump_self _ _ hfit, hwide, hu.rd]

/-- A channel's counts lie below what the wear monitors count in. -/
theorem keepsReg_setCh_waitTo (s : State) (n : Nat) (k c : Fin 8) (h : IslChan) :
    KeepsReg (Reg.ISL_CH_CNT k c).addr s ((s.waitTo n).setCh k c h) :=
  (keepsReg_waitTo _ s n).setCh k c h (by simp only [Reg.ISL_CH_CNT]; omega)

theorem wireBreak_breaks (s : State) (k c : Fin 8) (uA : Nat) (ha : (s.island k).alive = true)
    (hp : (s.island k).pers c = 2) (hw : ((s.island k).chan c).wb = false) (hu : uA < 350) :
    Nexts (exec (.wireBreak k c uA) s) (fun t => ((t.island k).chan c).wb = true ∧ ((t.island k).chan c).wbAt = t.safClock ∧ t.rd (Reg.ISL_CH_CNT_BREAKS k c) = satInc 16 (s.rd (Reg.ISL_CH_CNT_BREAKS k c)) ∧ t.frc = (s.waitTo (((s.island k).chan c).wbAt + 10000000)).frc) := by
  show Nexts (execWireBreak k c uA s) _
  rw [execWireBreak]
  dsimp only
  rw [if_pos (by rw [ha, hp, hw, decide_eq_true hu]; rfl), nexts_next, post_island, post_safClock, post_frc,
    bump_island, bump_safClock, bump_frc, setCh_safClock, setCh_frc, setCh_field _ _ _ _ IslChan.wb fun _ => rfl,
    setCh_field _ _ _ _ IslChan.wbAt fun _ => rfl]
  exact ⟨rfl, rfl, chanCount_post (f := Reg.ISL_CH_CNT_BREAKS k c) rfl ⟨Nat.le_of_ble_eq_true rfl, rfl⟩ (keepsReg_setCh_waitTo _ _ _ _ _) _ _ _ _ _, rfl⟩

theorem wireBreakEnd_ends (s : State) (k c : Fin 8) (ha : (s.island k).alive = true)
    (hw : ((s.island k).chan c).wb = true) :
    Nexts (exec (.wireBreakEnd k c) s) (fun t => ((t.island k).chan c).wb = false ∧ ((t.island k).chan c).wbAt = t.safClock ∧ t.frc = (s.waitTo (((s.island k).chan c).wbAt + 10000000)).frc) := by
  show Nexts (execWireBreakEnd k c s) _
  rw [execWireBreakEnd]
  dsimp only
  rw [if_pos (by rw [ha, hw]; rfl), nexts_next, post_island, post_safClock, post_frc, setCh_safClock, setCh_frc,
    setCh_field _ _ _ _ IslChan.wb fun _ => rfl, setCh_field _ _ _ _ IslChan.wbAt fun _ => rfl]
  exact ⟨rfl, rfl, rfl⟩

theorem doOverload_opens (s : State) (k c : Fin 8) (mA : Nat) (ha : (s.island k).alive = true)
    (hp : persDo ((s.island k).pers c) = true) (hc : ((s.island k).chan c).closed = true) :
    Nexts (exec (.doOverload k c mA) s) (fun t => ((t.island k).chan c).overload = true ∧ ((t.island k).chan c).closed = false ∧ ((t.island k).chan c).offAt = t.safClock ∧ t.rd (Reg.ISL_CH_CNT_OVERLOADS k c) = satInc 16 (s.rd (Reg.ISL_CH_CNT_OVERLOADS k c))) := by
  show Nexts (execDoOverload k c mA s) _
  rw [execDoOverload]
  dsimp only
  rw [if_pos (by rw [ha, hp, hc]; rfl), nexts_next, post_island, post_safClock, bump_island, bump_safClock,
    setCh_safClock, setCh_field _ _ _ _ IslChan.overload fun _ => rfl, setCh_field _ _ _ _ IslChan.closed fun _ => rfl,
    setCh_field _ _ _ _ IslChan.offAt fun _ => rfl]
  exact ⟨rfl, rfl, rfl, chanCount_post (f := Reg.ISL_CH_CNT_OVERLOADS k c) rfl ⟨Nat.le_of_ble_eq_true rfl, rfl⟩ (keepsReg_setCh_waitTo _ _ _ _ _) _ _ _ _ _⟩

theorem doRetry_closes (s : State) (k c : Fin 8) (limits : Bool) (ha : (s.island k).alive = true)
    (ho : ((s.island k).chan c).overload = true)
    (he : ((s.island k).setChan c { (s.island k).chan c with retrying := true }).eff c = true) :
    Nexts (exec (.doRetry k c limits) s) (fun t => ((t.island k).chan c).closed = true ∧ ((t.island k).chan c).overload = limits ∧ ((t.island k).chan c).retrying = limits ∧ t.frc = (s.waitTo (((s.island k).chan c).offAt + if limits then 1000000000 else 1005000000)).frc) := by
  show Nexts (execDoRetry k c limits s) _
  rw [execDoRetry]
  rw [if_pos (Bool.and_eq_true_iff.2 ⟨Bool.and_eq_true_iff.2 ⟨ha, ho⟩, he⟩)]
  cases limits
  · rw [if_neg (by decide), nexts_next, setCh_frc, setCh_field _ _ _ _ IslChan.closed fun _ => rfl,
      setCh_field _ _ _ _ IslChan.overload fun _ => rfl, setCh_field _ _ _ _ IslChan.retrying fun _ => rfl]
    exact ⟨rfl, rfl, rfl, rfl⟩
  · rw [if_pos rfl, nexts_next, setCh_frc, setCh_field _ _ _ _ IslChan.closed fun _ => rfl,
      setCh_field _ _ _ _ IslChan.overload fun _ => rfl, setCh_field _ _ _ _ IslChan.retrying fun _ => rfl]
    exact ⟨rfl, ho, rfl, rfl⟩

theorem groupOverloadStep_opens (s : State) (k : Fin 8) (total : Nat) (c : Nat) (ha : (s.island k).alive = true)
    (ht : 2000 < total)
    (hc : (List.range 8).reverse.find? (fun c => ((s.island k).chan c).closed && persDo ((s.island k).pers c)) = some c) :
    Nexts (exec (.groupOverloadStep k total) s) (fun t => ((t.island k).chan c).overload = true ∧ ((t.island k).chan c).grouped = true ∧ ((t.island k).chan c).closed = false ∧ (t.island k).gTotal = some ((s.island k).gTotal.getD total) ∧ (t.island k).gAt = t.safClock ∧ t.frc = (s.waitTo ((s.island k).gAt + if (s.island k).gTotal.isSome then 1000000 else 10000000)).frc) := by
  show Nexts (execGroupOverloadStep k total s) _
  rw [execGroupOverloadStep]
  dsimp only
  rw [if_neg (by rw [ha]; decide), if_pos ht, if_pos ha, hc]
  dsimp only
  rw [nexts_next, bump_island, bump_safClock, bump_frc, setIsland_safClock, setIsland_frc]
  generalize hh : ({ (s.island k).chan c with
    overload := true, retrying := false, grouped := true, closed := false
    offAt := (s.waitTo ((s.island k).gAt + if (s.island k).gTotal.isSome then 1000000 else 10000000)).safClock } : IslChan) = h
  have hset : ((s.island k).setChan c h).chan c = h := chan_setChan_island _ _ _
  have hchan : ∀ (u : State) (gAt gMask : Nat) (gTotal : Option Nat),
      (((u.setIsland k { (s.island k).setChan c h with gAt, gTotal, gMask }).island k).chan c).held = h.held :=
    fun u gAt gMask gTotal => (setIsland_chan_held u k c _).trans (congrArg IslChan.held hset)
  refine ⟨(held_chan_field (hchan _ _ _ _) IslChan.overload fun _ => rfl).trans ?_,
    (held_chan_field (hchan _ _ _ _) IslChan.grouped fun _ => rfl).trans ?_,
    (held_chan_field (hchan _ _ _ _) IslChan.closed fun _ => rfl).trans ?_,
    held_field (setIsland_held _ _ _) Island.gTotal fun _ => rfl,
    held_field (setIsland_held _ _ _) Island.gAt fun _ => rfl, rfl⟩
  · rw [← hh]
  · rw [← hh]
  · rw [← hh]

theorem groupOverloadStep_ends (s : State) (k : Fin 8) (total first : Nat) (ha : (s.island k).alive = true)
    (ht : total ≤ 2000) (hg : (s.island k).gTotal = some first) :
    Nexts (exec (.groupOverloadStep k total) s) (fun t => (t.island k).gTotal = none ∧ (t.island k).gMask = 0 ∧ (t.island k).gAt = t.safClock) := by
  show Nexts (execGroupOverloadStep k total s) _
  rw [execGroupOverloadStep]
  dsimp only
  rw [if_neg (by rw [ha]; decide), if_neg (Nat.not_lt.2 ht), if_pos ha, hg]
  dsimp only
  rw [nexts_next, post_island, post_safClock, setIsland_safClock]
  have h := setIsland_held (s.waitTo ((s.island k).gAt + if (some first).isSome then 1000000 else 10000000)) k
    { s.island k with gAt := (s.waitTo ((s.island k).gAt + if (some first).isSome then 1000000 else 10000000)).safClock, gTotal := none, gMask := 0 }
  exact ⟨held_field h Island.gTotal fun _ => rfl, held_field h Island.gMask fun _ => rfl, held_field h Island.gAt fun _ => rfl⟩

/-! ### Analogue inputs (R313 to R318) -/

/-- What classifies a value sets its channel's band alone. -/
def IslChan.value (h : IslChan) : Nat × Nat × Nat × Nat := (h.cur, h.unf, h.vterm, h.aiAt)

theorem aiClassify_value (s : State) (k c : Nat) :
    (((s.aiClassify k c).island k).chan c).value = ((s.island k).chan c).value ∧ (s.aiClassify k c).frc = s.frc ∧
      (s.aiClassify k c).safClock = s.safClock := by
  have hset : ∀ h : IslChan, h.value = ((s.island k).chan c).value →
      (((s.setCh k c h).island k).chan c).value = ((s.island k).chan c).value ∧ (s.setCh k c h).frc = s.frc ∧
        (s.setCh k c h).safClock = s.safClock := fun h e =>
    ⟨(setCh_field s k c h IslChan.value fun _ => rfl).trans e, setCh_frc _ _ _ _, setCh_safClock _ _ _ _⟩
  have hpost : ∀ (u : State) (p : Prop) [Decidable p] (source code p1 p2 p3 : Nat),
      (if p then u.post source code p1 p2 p3 else u).island k = u.island k ∧
        (if p then u.post source code p1 p2 p3 else u).frc = u.frc ∧
        (if p then u.post source code p1 p2 p3 else u).safClock = u.safClock := by
    intro u p _ source code p1 p2 p3
    split
    · exact ⟨post_island _ _ _ _ _ _ _, post_frc _ _ _ _ _ _, post_safClock _ _ _ _ _ _⟩
    · exact ⟨rfl, rfl, rfl⟩
  unfold State.aiClassify
  extract_lets x h off dest run was now u v
  split
  · exact hset _ rfl
  · split
    · exact hset _ rfl
    · obtain ⟨hi, hf, hc⟩ := hpost v (now ≠ 0 ∧ now ≠ was) (islSource k) 0x0B20 (8 * k + c) now (h.unf / 1000)
      obtain ⟨hi', hf', hc'⟩ := hpost u (was ≠ 0 ∧ was ≠ now) (islSource k) 0x0B21 (8 * k + c)
        ((u.safClock - h.bandAt) / 1000000) (h.unf / 1000)
      rw [hi, hf, hc, hi', hf', hc']
      exact hset _ rfl

/-- A channel of an AI as a converter value leaves it. -/
def Island.sampled (x : Island) (c raw : Nat) (now cur : Nat) : IslChan :=
  { x.chan c with aiAt := now, unf := (x.trimmed c raw).toNat, cur, vterm := raw * 50 / 1000000 }

/-- A converter value is held, and classified. -/
theorem aiSample_value {s : State} {k c : Fin 8} {raw : Nat} (ha : (s.island k).alive = true)
    (hp : (s.island k).pers c = 4) : Nexts (exec (.aiSample k c raw) s) (fun t =>
      ((t.island k).chan c).value = ((s.island k).sampled c raw t.safClock
        ((s.waitTo (((s.island k).chan c).aiAt + 100000)).aiFiltered ((s.island k).par (16 * c + 5))
          ((s.island k).chan c).cur ((s.island k).trimmed c raw).toNat)).value ∧
      t.frc = (s.waitTo (((s.island k).chan c).aiAt + 100000)).frc) := by
  show Nexts (execAiSample k c raw s) _
  rw [execAiSample]
  dsimp only
  rw [if_pos (by rw [ha, hp]; rfl), nexts_next]
  generalize hw : s.waitTo (((s.island k).chan c).aiAt + 100000) = w
  generalize w.aiFiltered ((s.island k).par (16 * c + 5)) ((s.island k).chan c).cur ((s.island k).trimmed c raw).toNat = cur
  have hset : ∀ (q : Prop) [Decidable q] (u : State), (if q then u else u.useFree).isl = u.isl ∧
      (if q then u else u.useFree).frc = u.frc ∧ (if q then u else u.useFree).safClock = u.safClock := by
    intro q _ u
    split
    · exact ⟨rfl, rfl, rfl⟩
    · exact ⟨rfl, rfl, rfl⟩
  obtain ⟨hi, hf, hc⟩ := hset ((s.island k).par (16 * c + 5) = 0) (w.setCh k c ((s.island k).sampled c raw w.safClock cur))
  obtain ⟨hvalue, hfrc, hclock⟩ := aiClassify_value (if (s.island k).par (16 * c + 5) = 0 then
    w.setCh k c ((s.island k).sampled c raw w.safClock cur)
    else (w.setCh k c ((s.island k).sampled c raw w.safClock cur)).useFree) k c
  rw [island_of_isl hi, setCh_field _ _ _ _ IslChan.value fun _ => rfl] at hvalue
  rw [hf, setCh_frc] at hfrc
  rw [hc, setCh_safClock] at hclock
  exact ⟨hvalue.trans (congrArg (fun n => ((s.island k).sampled c raw n cur).value) hclock.symm), hfrc⟩

theorem aiSample_holds (s : State) (k c : Fin 8) (raw : Nat) (ha : (s.island k).alive = true)
    (hp : (s.island k).pers c = 4) : Nexts (exec (.aiSample k c raw) s) (fun t => ((t.island k).chan c).unf = ((s.island k).trimmed c raw).toNat ∧ ((t.island k).chan c).vterm = raw * 50 / 1000000 ∧ ((t.island k).chan c).aiAt = t.safClock ∧ t.frc = (s.waitTo (((s.island k).chan c).aiAt + 100000)).frc) :=
  nexts_imp (aiSample_value ha hp) fun _ ⟨hvalue, hfrc⟩ => by
    simp only [IslChan.value, Island.sampled, Prod.mk.injEq] at hvalue
    obtain ⟨-, hunf, hvterm, hat⟩ := hvalue
    exact ⟨hunf, hvterm, hat, hfrc⟩

theorem aiSample_unfiltered (s : State) (k c : Fin 8) (raw : Nat) (ha : (s.island k).alive = true)
    (hp : (s.island k).pers c = 4) (hf : (s.island k).par (16 * c + 5) = 0) : Nexts (exec (.aiSample k c raw) s)
      (fun t => ((t.island k).chan c).cur = ((s.island k).trimmed c raw).toNat) :=
  nexts_imp (aiSample_value ha hp) fun _ ⟨hvalue, _⟩ => by
    rw [State.aiFiltered, if_pos hf] at hvalue
    exact congrArg Prod.fst hvalue

theorem txOverload_holds (s : State) (k c : Fin 8) (mA : Nat) (ha : (s.island k).alive = true)
    (hp : (s.island k).pers c = 4) (hs : bitAt ((s.island k).par (16 * c + 6)) 1 = true)
    (ho : ((s.island k).chan c).txOver = false) : Nexts (exec (.txOverload k c mA) s) (fun t => ((t.island k).chan c).txOver = true ∧ ((t.island k).chan c).txAt = t.safClock) := by
  show Nexts (execTxOverload k c mA s) _
  rw [execTxOverload]
  dsimp only
  rw [if_pos (by rw [ha, hp, hs, ho]; rfl), nexts_next, post_island, post_safClock, setCh_safClock,
    setCh_field _ _ _ _ IslChan.txOver fun _ => rfl, setCh_field _ _ _ _ IslChan.txAt fun _ => rfl]
  exact ⟨rfl, rfl⟩

theorem txOverloadClear_ends (s : State) (k c : Fin 8) (ho : ((s.island k).chan c).txOver = true) :
    Nexts (exec (.txOverloadClear k c) s) (fun t => ((t.island k).chan c).txOver = false ∧ ((t.island k).chan c).txAt = t.safClock) := by
  show Nexts (execTxOverloadClear k c s) _
  rw [execTxOverloadClear]
  dsimp only
  rw [if_pos ho, nexts_next, setCh_safClock, setCh_field _ _ _ _ IslChan.txOver fun _ => rfl,
    setCh_field _ _ _ _ IslChan.txAt fun _ => rfl]
  exact ⟨rfl, rfl⟩

/-! ### Analogue outputs (R320 to R326) -/

theorem buckUpdate_sets (s : State) (k c : Fin 8) (target : Nat) (ha : (s.island k).alive = true)
    (hp : (s.island k).pers c = 5) (ht : target = ((s.island k).aoRequest (if ((s.island k).chan c).buckFor = some (((s.island k).aoRequest s.frc c).getD 0) then (s.waitTo (((s.island k).chan c).buckAt + 1000000)).frc else s.frc) c).getD 0) :
    Nexts (exec (.buckUpdate k c) s) (fun t => ((t.island k).chan c).buck = buckSetting target ((s.island k).chan c).cur ((s.island k).chan c).vterm ∧ ((t.island k).chan c).buckFor = some target ∧ ((t.island k).chan c).buckAt = t.safClock) := by
  show Nexts (execBuckUpdate k c s) _
  rw [execBuckUpdate]
  extract_lets u tgt y at_ open_ y' v
  have hfrc : u.frc = if ((s.island k).chan c).buckFor = some (((s.island k).aoRequest s.frc c).getD 0) then (s.waitTo (((s.island k).chan c).buckAt + 1000000)).frc else s.frc := by
    simp only [u]
    split <;> rfl
  have htgt : tgt = target := by
    rw [ht]
    exact congrArg (fun n => ((s.island k).aoRequest n c).getD 0) hfrc
  have hy : y' = { (s.island k).chan c with buck := buckSetting tgt ((s.island k).chan c).cur ((s.island k).chan c).vterm, buckAt := u.safClock, buckFor := some tgt } :=
    chan_setChan_island _ _ _
  have hv : ∀ {α : Type} (f : IslChan → α), (∀ g : IslChan, f g.held = f g) → f ((v.island k).chan c) =
      f { y' with atLimit := at_, open_ } := fun f hf =>
    (held_chan_field (setIsland_chan_held _ _ _ _) f hf).trans (congrArg f (chan_setChan_island _ _ _))
  have hclock : v.safClock = u.safClock := setIsland_safClock _ _ _
  have hall : ((v.island k).chan c).buck = buckSetting target ((s.island k).chan c).cur ((s.island k).chan c).vterm ∧ ((v.island k).chan c).buckFor = some target ∧
      ((v.island k).chan c).buckAt = v.safClock := by
    rw [hv IslChan.buck fun _ => rfl, hv IslChan.buckFor fun _ => rfl, hv IslChan.buckAt fun _ => rfl, hclock]
    dsimp only
    rw [hy, htgt]
    exact ⟨rfl, rfl, rfl⟩
  rw [if_pos (by rw [ha, hp]; rfl), nexts_next]
  split
  · rw [post_island, post_safClock]
    exact hall
  · exact hall

theorem thermalTrip_trips (s : State) (k c : Fin 8) (temp : Int) (ha : (s.island k).alive = true)
    (hp : (s.island k).pers c = 5) (ht : ((s.island k).chan c).thermal = false) (hhot : 1350 < temp) :
    Nexts (exec (.thermalTrip k c temp) s) (fun t => ((t.island k).chan c).thermal = true ∧ ((t.island k).chan c).thermAt = s.safClock ∧ ((t.island k).chan c).temp = temp) := by
  show Nexts (execThermalTrip k c temp s) _
  rw [execThermalTrip]
  rw [if_pos ⟨ha, hp, by rw [ht]; rfl, hhot⟩, nexts_next, post_island, setCh_field _ _ _ _ IslChan.thermal fun _ => rfl,
    setCh_field _ _ _ _ IslChan.thermAt fun _ => rfl, setCh_field _ _ _ _ IslChan.temp fun _ => rfl]
  exact ⟨rfl, rfl, rfl⟩

theorem thermalResume_resumes (s : State) (k c : Fin 8) (temp : Int) (ha : (s.island k).alive = true)
    (ht : ((s.island k).chan c).thermal = true) (hcool : temp < 1100) :
    Nexts (exec (.thermalResume k c temp) s) (fun t => ((t.island k).chan c).thermal = false ∧ ((t.island k).chan c).temp = temp) := by
  show Nexts (execThermalResume k c temp s) _
  rw [execThermalResume]
  dsimp only
  rw [if_pos ⟨ha, ht, hcool⟩, nexts_next, post_island, setCh_field _ _ _ _ IslChan.thermal fun _ => rfl,
    setCh_field _ _ _ _ IslChan.temp fun _ => rfl]
  exact ⟨rfl, rfl⟩

theorem loopSideStop_moves (s : State) (k c : Fin 8) (vterm : Nat) (opened : Bool) (ha : (s.island k).alive = true)
    (hp : (s.island k).pers c = 6) (hs : (opened || decide (vterm < 7000)) = !((s.island k).chan c).stopped) :
    Nexts (exec (.loopSideStop k c vterm opened) s) (fun t => ((t.island k).chan c).stopped = !((s.island k).chan c).stopped ∧ ((t.island k).chan c).vterm = vterm) := by
  show Nexts (execLoopSideStop k c vterm opened s) _
  rw [execLoopSideStop]
  rw [hs]
  rw [if_pos (by rw [ha, hp]; cases ((s.island k).chan c).stopped <;> rfl)]
  split
  next hstop =>
    rw [nexts_next, post_island, setCh_field _ _ _ _ IslChan.stopped fun _ => rfl,
      setCh_field _ _ _ _ IslChan.vterm fun _ => rfl, hstop]
    exact ⟨rfl, rfl⟩
  next hgo =>
    rw [nexts_next, setCh_field _ _ _ _ IslChan.stopped fun _ => rfl, setCh_field _ _ _ _ IslChan.vterm fun _ => rfl,
      eq_false_of_ne_true hgo]
    exact ⟨rfl, rfl⟩

/-! #### Flags that the master decides -/

/-- They lie in the channel's ISL_CH_STAT. -/
theorem aoFlags_keeps (s : State) (k c : Nat) {a : Nat} (ha : a ≠ (Reg.ISL_CH_STAT k c).addr) :
    KeepsReg a s (s.aoFlags k c) := by
  unfold State.aoFlags
  split
  · exact .self
  · exact (KeepsReg.self.wr (g := Reg.ISL_CH_STAT_FLAGS k c) _ ha).wr (g := Reg.ISL_CH_STAT_QUAL k c) _ ha

theorem aoFlags_frame {F : Place → Bool} (s : State) (k c : Nat) (h : Al F [.regs]) : Fr F s (s.aoFlags k c) :=
  State.aoFlags_frame s k c h (fr_self F s)

theorem aoFlags_island (s : State) (k c : Nat) (j : Nat) : (s.aoFlags k c).island j = s.island j :=
  island_of_isl (aoFlags_frame (F := fun p => p != .isl) s k c rfl .isl rfl) j

theorem aoFlags_frc (s : State) (k c : Nat) : (s.aoFlags k c).frc = s.frc :=
  aoFlags_frame (F := fun p => p != .frc) s k c rfl .frc rfl

theorem aoFlags_safClock (s : State) (k c : Nat) : (s.aoFlags k c).safClock = s.safClock := by
  rw [State.safClock, aoFlags_frc, aoFlags_frame (F := fun p => p != .saf) s k c rfl .saf rfl, State.safClock]

/-- A flag of ISL_AN_STAT stays while the flags of ISL_CH_STAT follow and an event is recorded. -/
theorem anStat_keeps (s : State) (k c : Fin 8) (source code p1 p2 p3 : Nat) :
    KeepsReg (Reg.ISL_AN_STAT k c).addr s ((s.aoFlags k c).post source code p1 p2 p3) := by
  refine (aoFlags_keeps s k c ?_).trans (fileAt_post _ _ _ _ _ _ _ ?_)
  · simp only [Reg.ISL_AN_STAT, Reg.ISL_CH_STAT]
    omega
  · simp only [Reg.ISL_AN_STAT, unitOf, regBase, Un.gb]
    omega

theorem wr_safClock (s : State) (f : Fld) (v : Nat) : (s.wr f v).safClock = s.safClock := by
  rw [State.safClock, wr_frc, wr_saf, State.safClock]

theorem complianceSet_sets (s : State) (k c : Fin 8) (n : Nat) (hd : ((s.island k).chan c).defAt = some n)
    (hf : s.islFault k = false) (hc : s.on (Reg.ISL_AN_STAT_COMPLIANCE k c) = false) :
    Nexts (exec (.complianceSet k c) s) (fun t => t.on (Reg.ISL_AN_STAT_COMPLIANCE k c) = true ∧ ((t.island k).chan c).compAt = t.safClock ∧ t.frc = (s.waitTo (n + 50000000)).frc) := by
  show Nexts (execComplianceSet k c s) _
  rw [execComplianceSet]
  dsimp only
  rw [hd]
  dsimp only
  rw [if_neg (by rw [hf, hc]; decide), nexts_next, post_island, post_safClock, post_frc, aoFlags_island,
    aoFlags_safClock, aoFlags_frc, ((anStat_keeps _ k c _ _ _ _ _).on (f := Reg.ISL_AN_STAT_COMPLIANCE k c)),
    on_wr_self _ _ _ (Nat.le_of_ble_eq_true rfl)]
  refine ⟨rfl, ?_, (wr_frc _ _ _).trans (setCh_frc _ _ _ _)⟩
  rw [island_of_isl (wr_isl _ _ _), wr_safClock, setCh_safClock]
  exact setCh_field _ _ _ _ IslChan.compAt fun _ => rfl

theorem complianceClear_clears (s : State) (k c : Fin 8) (n : Nat) (hd : ((s.island k).chan c).fitAt = some n)
    (hf : s.islFault k = false) (hc : s.on (Reg.ISL_AN_STAT_COMPLIANCE k c) = true) :
    Nexts (exec (.complianceClear k c) s) (fun t => t.on (Reg.ISL_AN_STAT_COMPLIANCE k c) = false ∧ t.on (Reg.ISL_AN_STAT_COMP_FAULT k c) = false ∧ t.frc = (s.waitTo (n + 50000000)).frc) := by
  show Nexts (execComplianceClear k c s) _
  rw [execComplianceClear]
  dsimp only
  rw [hd]
  dsimp only
  rw [if_neg (by rw [hf, hc]; decide), nexts_next, post_frc, aoFlags_frc,
    ((anStat_keeps _ k c _ _ _ _ _).on (f := Reg.ISL_AN_STAT_COMPLIANCE k c)),
    ((anStat_keeps _ k c _ _ _ _ _).on (f := Reg.ISL_AN_STAT_COMP_FAULT k c)),
    on_wr_bits _ _ _ _ (Nat.le_of_ble_eq_true rfl) (.inl (Nat.le_of_ble_eq_true rfl)),
    on_wr_self _ _ _ (Nat.le_of_ble_eq_true rfl), on_wr_self _ _ _ (Nat.le_of_ble_eq_true rfl), wr_frc, wr_frc]
  exact ⟨rfl, rfl, rfl⟩

theorem compFault_sets (s : State) (k c : Fin 8) (hc : s.on (Reg.ISL_AN_STAT_COMPLIANCE k c) = true)
    (ht : bits (s.chFail k c) 25 3 ≠ 7) (hf : s.on (Reg.ISL_AN_STAT_COMP_FAULT k c) = false)
    (hrow : (s.island k).aoRow c = 4) :
    Nexts (exec (.compFault k c) s) (fun t => t.on (Reg.ISL_AN_STAT_COMP_FAULT k c) = true ∧ t.frc = (s.waitTo (((s.island k).chan c).compAt + ((s.island k).chan c).compOff + compTimeout (bits (s.chFail k c) 25 3))).frc) := by
  show Nexts (execCompFault k c s) _
  rw [execCompFault]
  dsimp only
  rw [if_pos (by rw [hc, bne_iff_ne.2 ht, hf, hrow]; rfl), nexts_next, post_frc, aoFlags_frc,
    ((anStat_keeps _ k c _ _ _ _ _).on (f := Reg.ISL_AN_STAT_COMP_FAULT k c)),
    on_wr_self _ _ _ (Nat.le_of_ble_eq_true rfl), wr_frc]
  exact ⟨rfl, rfl⟩

theorem aoReadbackClear_clears (s : State) (k c : Fin 8) (n : Nat) (hd : ((s.island k).chan c).agrAt = some n)
    (hr : s.on (Reg.ISL_AN_STAT_READBACK k c) = true) :
    Nexts (exec (.aoReadbackClear k c) s) (fun t => t.on (Reg.ISL_AN_STAT_READBACK k c) = false ∧ t.frc = (s.waitTo (n + 20000000)).frc) := by
  show Nexts (execAoReadbackClear k c s) _
  rw [execAoReadbackClear]
  rw [hd]
  dsimp only
  have hne : (Reg.ISL_AN_STAT_READBACK k c).addr ≠ (Reg.ISL_CH_STAT k c).addr := by
    simp only [Reg.ISL_AN_STAT_READBACK, Reg.ISL_CH_STAT]
    omega
  rw [if_pos hr, nexts_next, aoFlags_frc, (aoFlags_keeps _ k c hne).on, on_wr_self _ _ _ (Nat.le_of_ble_eq_true rfl), wr_frc]
  exact ⟨rfl, rfl⟩

/-! ### Trims (R331) -/

theorem trimWrite_writes (s : State) (m : Master) (k c : Fin 8) (value : Word)
    (h : s.allows m .w32 true (Reg.ISL_AN_TRIM k c).addr) (ha : s.chAnalog k c = true)
    (hp : s.on Reg.SCN_STAT_FORCE_PERMIT = true) (ht : trimOk value.toNat = true) (hk : s.keyOpen k c = false) :
    Nexts (exec (.trimWrite m k c value) s) (fun t => t.rd (Reg.ISL_AN_TRIM k c) = value.toNat) := by
  obtain ⟨g, hg⟩ := access_accessed h (by simp only [Reg.ISL_AN_TRIM]; omega) (fun t => t.trimWrite m k c value.toNat)
  have hwrite : (s.accessed g).trimWrite m k c value.toNat = ((s.accessed g).wr (Reg.ISL_AN_TRIM k c) value.toNat).post
      (islSource k) 0x0B29 (8 * k + c) value.toNat (masterId m) := by
    unfold State.trimWrite
    rw [show (s.accessed g).chAnalog k c = true from ha, show (s.accessed g).on Reg.SCN_STAT_FORCE_PERMIT = true from hp,
      ht, show (s.accessed g).keyOpen k c = false from hk]
    rfl
  refine ⟨_, congrArg Host.Outcome.next (hg.trans hwrite), ?_⟩
  have hgb : unitOf (Reg.ISL_AN_TRIM k c).addr ≠ Un.gb := by
    simp only [Reg.ISL_AN_TRIM, unitOf, regBase, Un.gb]
    omega
  dsimp only
  rw [rd_post _ _ _ _ _ _ _ hgb]
  exact rd_wr_fits _ _ rfl value.isLt

end Sys2Proof.Machine
end

section
open Sys2Proof Sys2Proof.Machine

/-- Settles O38: a digital channel's sample and its switch events, up to what the rules time of it. -/
theorem digitalChannelsComplete : Obligations.DigitalChannelsComplete :=
  ⟨inputSample_samples, wireBreak_breaks, wireBreakEnd_ends, doOverload_opens, doRetry_closes, groupOverloadStep_opens,
    groupOverloadStep_ends⟩

/-- Settles O39: an analogue channel's values, limits and flags, and its trim. -/
theorem analogueChannelsComplete : Obligations.AnalogueChannelsComplete :=
  ⟨aiSample_holds, aiSample_unfiltered, txOverload_holds, txOverloadClear_ends, buckUpdate_sets, thermalTrip_trips,
    thermalResume_resumes, complianceSet_sets, complianceClear_clears, compFault_sets, loopSideStop_moves,
    aoReadbackClear_clears, trimWrite_writes⟩

end


section
/-!
PROOFS. The front keys and the keyswitch (R332, R504, R507).
-/
namespace Sys2Proof.Machine

/-! ### A session's channel -/

/-- The session's flag lies beside the trim. -/
theorem trim_ne_anStat (k c : Nat) : (Reg.ISL_AN_TRIM k c).addr ≠ (Reg.ISL_AN_STAT_KEY_SESSION k c).addr := by
  simp only [Reg.ISL_AN_TRIM, Reg.ISL_AN_STAT_KEY_SESSION]
  omega

theorem trim_not_gb {k c : Nat} (hk : k < 8) (hc : c < 8) : unitOf (Reg.ISL_AN_TRIM k c).addr ≠ Un.gb := by
  simp only [Reg.ISL_AN_TRIM, unitOf, regBase, Un.gb]
  omega

theorem anStat_not_gb {k c : Nat} (hk : k < 8) (hc : c < 8) : unitOf (Reg.ISL_AN_STAT_KEY_SESSION k c).addr ≠ Un.gb := by
  simp only [Reg.ISL_AN_STAT_KEY_SESSION, unitOf, regBase, Un.gb]
  omega

theorem keySet_session (s : State) (y : KeySession) (b : Bool) :
    (s.keySet y b).on (Reg.ISL_AN_STAT_KEY_SESSION y.island y.ch) = b := by
  refine (on_wr_self s (Reg.ISL_AN_STAT_KEY_SESSION y.island y.ch) (b2n b) (Nat.le_of_ble_eq_true rfl)).trans ?_
  cases b <;> rfl

theorem keySet_trim (s : State) (y : KeySession) (b : Bool) :
    (s.keySet y b).rd (Reg.ISL_AN_TRIM y.island y.ch) = s.rd (Reg.ISL_AN_TRIM y.island y.ch) :=
  rd_wr_addr s (Reg.ISL_AN_STAT_KEY_SESSION y.island y.ch) _ (b2n b) (trim_ne_anStat _ _)

/-- A session that is put back ends, with the trim held before it. -/
theorem keyRestore_ends {s : State} {y : KeySession} (h : s.key = some y) : s.keyRestore.key = none ∧
    s.keyRestore.on (Reg.ISL_AN_STAT_KEY_SESSION y.island y.ch) = false ∧
    s.keyRestore.rd (Reg.ISL_AN_TRIM y.island y.ch) = y.before % 2 ^ 32 := by
  have heq : s.keyRestore = (s.wr (Reg.ISL_AN_TRIM y.island y.ch) y.before).keySet y false := by
    rw [State.keyRestore, h]
  rw [heq]
  exact ⟨rfl, keySet_session _ _ _, (keySet_trim _ _ _).trans (rd_wr_self _ _ _ (Nat.le_of_ble_eq_true rfl))⟩

/-- No session is open after it. -/
theorem keyRestore_key (s : State) : s.keyRestore.key = none := by
  cases h : s.key with
  | some y => exact (keyRestore_ends h).1
  | none => rw [State.keyRestore, h]; exact h

theorem keyRestore_frame {F : Place → Bool} (s : State) (h : Al F [.key, .regs, .nb]) : Fr F s s.keyRestore :=
  State.keyRestore_frame s h (fr_self F s)

/-! ### UP and DOWN (R329, R332) -/

/-- One unit of the upper half more. -/
theorem bits_upper_succ {n : Nat} (h : n < 2 ^ 32) : (bits n 16 16 + 1) * 2 ^ 16 + bits n 0 16 = n + 2 ^ 16 := by
  simp only [bits]
  omega

/-- One unit of the upper half less. -/
theorem bits_upper_pred {n : Nat} (h : n < 2 ^ 32) (hpos : 0 < bits n 16 16) :
    (bits n 16 16 - 1) * 2 ^ 16 + bits n 0 16 + 2 ^ 16 = n := by
  simp only [bits] at hpos ⊢
  omega

/-- A press on a session that holds SPAN moves it by one unit, within its limits. -/
theorem keyStep_span {s : State} {y : KeySession} {by_ : Int} {n : Nat} (h : s.key = some y) (hs : y.span = true)
    (hn : (bits (s.rd (Reg.ISL_AN_TRIM y.island y.ch)) 16 16 + by_).toNat = n)
    (ht : trimOk (n * 2 ^ 16 + bits (s.rd (Reg.ISL_AN_TRIM y.island y.ch)) 0 16) = true) (hfit : n < 2 ^ 16) :
    (s.keyStep by_).rd (Reg.ISL_AN_TRIM y.island y.ch) = n * 2 ^ 16 + bits (s.rd (Reg.ISL_AN_TRIM y.island y.ch)) 0 16 ∧
      (s.keyStep by_).key = some { y with pressAt := s.frc } := by
  have hlow : bits (s.rd (Reg.ISL_AN_TRIM y.island y.ch)) 0 16 < 2 ^ 16 := Nat.mod_lt _ (Nat.two_pow_pos 16)
  have hlt : n * 2 ^ 16 + bits (s.rd (Reg.ISL_AN_TRIM y.island y.ch)) 0 16 < 2 ^ 32 := by omega
  rw [State.keyStep, h]
  dsimp only
  rw [hn, if_pos hs, if_pos ht]
  exact ⟨rd_wr_fits _ (Reg.ISL_AN_TRIM y.island y.ch) rfl hlt, rfl⟩

/-! ### The commands -/

theorem keyMenu_opens (s : State) (k c : Fin 8) (span : Bool) (hr : s.power.running = true) (hm : s.keyMaint = true)
    (hk : s.key = none) (hp : s.nbPanel = true) (hs : s.nbStrip = true) (ha : s.chAnalog k c = true) (hf : s.islFault k = false) :
    Nexts (exec (.keyMenu k c span) s) (fun t => t.key = some { island := k, ch := c, span, before := s.rd (Reg.ISL_AN_TRIM k c), pressAt := s.frc } ∧ t.on (Reg.ISL_AN_STAT_KEY_SESSION k c) = true) := by
  show Nexts (execKeyMenu k c span s) _
  rw [execKeyMenu]
  dsimp only
  rw [if_neg (by rw [hr, hm, hk]; exact Bool.false_ne_true), if_neg (by rw [hp, hs]; exact Bool.false_ne_true),
    if_neg (by rw [ha]; exact Bool.false_ne_true), if_neg (by rw [hf]; exact Bool.false_ne_true), nexts_next]
  exact ⟨rfl, keySet_session _ { island := k, ch := c, span, before := s.rd (Reg.ISL_AN_TRIM k c), pressAt := s.frc } true⟩

theorem keyUp_steps (s : State) (y : KeySession) (h : s.key = some y) (hs : y.span = true)
    (hlt : bits (s.rd (Reg.ISL_AN_TRIM y.island y.ch)) 16 16 < 0xFFFF)
    (ht : trimOk ((bits (s.rd (Reg.ISL_AN_TRIM y.island y.ch)) 16 16 + 1) * 2 ^ 16 + bits (s.rd (Reg.ISL_AN_TRIM y.island y.ch)) 0 16) = true) :
    Nexts (exec .keyUp s) (fun t => t.rd (Reg.ISL_AN_TRIM y.island y.ch) = s.rd (Reg.ISL_AN_TRIM y.island y.ch) + 2 ^ 16 ∧ t.key = some { y with pressAt := s.frc }) := by
  obtain ⟨htrim, hkey⟩ := keyStep_span (by_ := 1) h hs (by omega) ht (by omega)
  exact ⟨_, rfl, htrim.trans (bits_upper_succ (rd_lt s (Reg.ISL_AN_TRIM y.island y.ch))), hkey⟩

theorem keyDown_steps (s : State) (y : KeySession) (h : s.key = some y) (hs : y.span = true)
    (hpos : 0 < bits (s.rd (Reg.ISL_AN_TRIM y.island y.ch)) 16 16)
    (ht : trimOk ((bits (s.rd (Reg.ISL_AN_TRIM y.island y.ch)) 16 16 - 1) * 2 ^ 16 + bits (s.rd (Reg.ISL_AN_TRIM y.island y.ch)) 0 16) = true) :
    Nexts (exec .keyDown s) (fun t => t.rd (Reg.ISL_AN_TRIM y.island y.ch) + 2 ^ 16 = s.rd (Reg.ISL_AN_TRIM y.island y.ch) ∧ t.key = some { y with pressAt := s.frc }) := by
  have hlt : bits (s.rd (Reg.ISL_AN_TRIM y.island y.ch)) 16 16 < 2 ^ 16 := Nat.mod_lt _ (Nat.two_pow_pos 16)
  obtain ⟨htrim, hkey⟩ := keyStep_span (by_ := -1) h hs (by omega) ht (by omega)
  exact ⟨_, rfl, (congrArg (· + 2 ^ 16) htrim).trans (bits_upper_pred (rd_lt s (Reg.ISL_AN_TRIM y.island y.ch)) hpos), hkey⟩

theorem keyEnter_keeps (s : State) (y : KeySession) (h : s.key = some y) (hk : y.island < 8) (hc : y.ch < 8) : Nexts (exec .keyEnter s) (fun t => t.key = none ∧ t.on (Reg.ISL_AN_STAT_KEY_SESSION y.island y.ch) = false ∧ t.rd (Reg.ISL_AN_TRIM y.island y.ch) = s.rd (Reg.ISL_AN_TRIM y.island y.ch)) := by
  show Nexts (execKeyEnter s) _
  rw [execKeyEnter, h]
  dsimp only
  rw [nexts_next, post_key, on_post _ _ _ _ _ _ _ (anStat_not_gb hk hc), rd_post _ _ _ _ _ _ _ (trim_not_gb hk hc)]
  exact ⟨rfl, keySet_session _ _ _, keySet_trim _ _ _⟩

theorem keyEsc_restores (s : State) (y : KeySession) (h : s.key = some y) : Nexts (exec .keyEsc s) (fun t => t.key = none ∧ t.on (Reg.ISL_AN_STAT_KEY_SESSION y.island y.ch) = false ∧ t.rd (Reg.ISL_AN_TRIM y.island y.ch) = y.before % 2 ^ 32) :=
  ⟨_, rfl, keyRestore_ends h⟩

theorem keySessionTimeout_restores (s : State) (y : KeySession) (h : s.key = some y) :
    Nexts (exec .keySessionTimeout s) (fun t => t.key = none ∧ t.on (Reg.ISL_AN_STAT_KEY_SESSION y.island y.ch) = false ∧ t.rd (Reg.ISL_AN_TRIM y.island y.ch) = y.before % 2 ^ 32 ∧ t.frc = max s.frc (y.pressAt + 600000000000)) := by
  show Nexts (execKeySessionTimeout s) _
  rw [execKeySessionTimeout]
  split
  case h_2 hno => exact absurd (h.symm.trans hno) (Option.some_ne_none y)
  case h_1 z hz =>
  obtain rfl := Option.some.inj (h.symm.trans hz)
  rw [nexts_next]
  obtain ⟨hkey, hflag, htrim⟩ := keyRestore_ends (s := { s with frc := max s.frc (y.pressAt + 600000000000) }) h
  exact ⟨hkey, hflag, htrim, keyRestore_frame (F := fun p => p != .frc) _ rfl .frc rfl⟩

/-! ### The keyswitch's contacts (R504, R507) -/

/-- What the keyswitch leaves, its contact in the control domain known: the safety domain's own contact and the permit
follow. -/
def State.keyswitchAt (s : State) (safety : Bool) : State :=
  let s := if s.saf.powered then s.wrB Reg.SAF_STAT_KEY_MAINT safety else s
  let s := { s with saf := { s.saf with keyMaint := safety } }
  if s.power.running then s.permitUpdate else s

theorem keyswitchAt_shows (s : State) (safety : Bool) : (s.keyswitchAt safety).key = s.key ∧
    (s.keyswitchAt safety).keyMaint = s.keyMaint ∧ (s.keyswitchAt safety).usb = s.usb ∧
    (s.keyswitchAt safety).saf.keyMaint = safety := by
  unfold State.keyswitchAt
  dsimp only
  split <;> split <;> exact ⟨rfl, rfl, rfl, rfl⟩

theorem permitUpdate_maint {s : State} (h : s.keyMaint = true) : s.permitUpdate.on Reg.SCN_STAT_FORCE_PERMIT = true := by
  rw [State.permitUpdate, h]
  exact on_wr_self s Reg.SCN_STAT_FORCE_PERMIT 1 (Nat.le_of_ble_eq_true rfl)

theorem keyswitchAt_permits {s : State} (safety : Bool) (hr : s.power.running = true) (hm : s.keyMaint = true) :
    (s.keyswitchAt safety).on Reg.SCN_STAT_FORCE_PERMIT = true := by
  unfold State.keyswitchAt
  cases s.saf.powered <;> dsimp only <;> exact (congrArg (State.on · _) (if_pos hr)).trans (permitUpdate_maint hm)

theorem keyswitchChange_maint (s : State) (safety : Bool) (hr : s.power.running = true) :
    Nexts (exec (.keyswitchChange true safety) s) (fun t => t.keyMaint = true ∧ t.usb = s.usb ∧ t.saf.keyMaint = safety ∧ t.on Reg.SCN_STAT_FORCE_PERMIT = true) := by
  refine ⟨State.keyswitchAt { s with keyMaint := true, usb := s.usb && true } safety, rfl, ?_⟩
  obtain ⟨-, hmaint, husb, hsaf⟩ := keyswitchAt_shows { s with keyMaint := true, usb := s.usb && true } safety
  exact ⟨hmaint, husb.trans (Bool.and_true _), hsaf, keyswitchAt_permits safety hr rfl⟩

theorem keyswitchChange_run (s : State) (safety : Bool) : Nexts (exec (.keyswitchChange false safety) s) (fun t => t.keyMaint = false ∧ t.usb = false ∧ t.saf.keyMaint = safety ∧ t.key = none) := by
  refine ⟨State.keyswitchAt (State.keyRestore { s with keyMaint := false, usb := s.usb && false }) safety, rfl, ?_⟩
  obtain ⟨hkey, hmaint, husb, hsaf⟩ := keyswitchAt_shows (State.keyRestore { s with keyMaint := false, usb := s.usb && false }) safety
  exact ⟨hmaint.trans (keyRestore_frame (F := fun p => p != .keyMaint) _ rfl .keyMaint rfl),
    (husb.trans (keyRestore_frame (F := fun p => p != .usb) _ rfl .usb rfl)).trans (Bool.and_false _), hsaf,
    hkey.trans (keyRestore_key _)⟩

theorem usbSessionOpen_opens (s : State) (hr : s.power.running = true) (hm : s.keyMaint = true) :
    Nexts (exec .usbSessionOpen s) (fun t => t = { s with usb := true }) :=
  ⟨_, rfl, if_pos ⟨hr, hm⟩⟩

end Sys2Proof.Machine
end

section
open Sys2Proof Sys2Proof.Machine

/-- Settles O40: a session moves with its presses and ends with the trim kept or put back, and the keyswitch's contacts
show in both domains. -/
theorem frontKeysComplete : Obligations.FrontKeysComplete :=
  ⟨keyMenu_opens, fun s y h _ _ hs => keyUp_steps s y h hs, fun s y h _ _ hs => keyDown_steps s y h hs,
    keyEnter_keeps, fun s y h _ _ => keyEsc_restores s y h,
    fun s y h _ _ => keySessionTimeout_restores s y h, keyswitchChange_maint, keyswitchChange_run, usbSessionOpen_opens⟩

end


section
/-!
PROOFS. Transmit queues' completions, and CAN FD channels (R336 to R351).
-/
namespace Sys2Proof.Machine

/-! ### A transmit entry that completes (R406, R407) -/

/-- Below the queues' registers a completion writes none. -/
theorem KeepsReg.txDone {a : Nat} {s t : State} (h : KeepsReg a s t) (q off : Nat) (done : List Byte)
    (hlo : 0x2000070000 ≤ a) (hhi : a < 0x2000110000) : KeepsReg a s (t.txDone q off done) := by
  unfold State.txDone State.queDiSet
  extract_lets u old v
  have hu : KeepsReg a s u := h.of_eq (setBytes_regs _ _ _)
  have hv : KeepsReg a s v := hu.wr _ (by simp only [Reg.QUE_DI]; omega)
  split_ifs
  · exact hv.queMirror _ _ _
  · exact hv.queFollow (by simp only [Reg.QUE_RI]; omega) hlo
  · exact hu.wr _ (by simp only [Reg.QUE_CI]; omega)

theorem KeepsReg.canComplete {a : Nat} {s t : State} (h : KeepsReg a s t) (q status detail attempts stamp : Nat)
    (hlo : 0x2000070000 ≤ a) (hhi : a < 0x2000110000) : KeepsReg a s (t.canComplete q status detail attempts stamp) := by
  unfold State.canComplete
  extract_lets d part sent u
  have hu : KeepsReg a s u := by
    simp only [u]
    split_ifs
    · exact h.of_eq rfl
    · exact h
  exact hu.txDone _ _ _ hlo hhi

theorem canComplete_frame {F : Place → Bool} (s : State) (q status detail attempts stamp : Nat)
    (h : Al F [.ban, .regs, .free, .mem, .gates, .heads]) : Fr F s (s.canComplete q status detail attempts stamp) :=
  State.canComplete_frame s q status detail attempts stamp h (fr_self F s)

theorem canComplete_can (s : State) (q status detail attempts stamp : Nat) :
    (s.canComplete q status detail attempts stamp).can = s.can :=
  canComplete_frame (F := fun p => p != .can) s q status detail attempts stamp rfl .can rfl

/-! ### A channel's record and its state -/

theorem canCh_setCanCh (s : State) (c : Nat) (x : CanChan) : (s.setCanCh c x).canCh c = x := by
  rw [State.canCh, setCanCh_can, Assoc.find?_insert_self]
  rfl

theorem canCh_of_can {s t : State} (h : t.can = s.can) (c : Nat) : t.canCh c = s.canCh c := by
  rw [State.canCh, h, State.canCh]

theorem canRec_of_fpl {s t : State} (h : t.fpl = s.fpl) (c : Nat) : t.canRec c = s.canRec c := by
  simp only [State.canRec, State.portRec, State.plan, h]

theorem inControl_of_rd {s t : State} (h : t.rd Reg.BAN_STAT_ROLE = s.rd Reg.BAN_STAT_ROLE) : t.inControl = s.inControl :=
  congrArg (fun n => decide (n ≤ 2)) h

theorem setCanState_can (s : State) (c st : Nat) : (s.setCanState c st).can = s.can := rfl

theorem setCanState_frc (s : State) (c st : Nat) : (s.setCanState c st).frc = s.frc := rfl

/-- A state that is entered shows. -/
theorem setCanState_state (s : State) (c : Nat) {st : Nat} (h : st < 8) : (s.setCanState c st).canState c = st := by
  unfold State.setCanState State.canState
  dsimp only
  rw [rd_wr_addr _ _ _ _ (by simp only [Reg.CAN_STAT_STATE, Reg.CAN_GSTAT_BUS_OFF]; omega),
    rd_wr_addr _ _ _ _ (by simp only [Reg.CAN_STAT_STATE, Reg.CAN_GSTAT_ACTIVE]; omega)]
  exact rd_wr_fits s (Reg.CAN_STAT_STATE c) rfl h

/-- It writes the channel's CAN_STAT and the channels' summary alone. -/
theorem KeepsReg.enterCanState {a : Nat} {s t : State} (h : KeepsReg a s t) (c st : Nat) (hc : a ≠ (Reg.CAN_STAT c).addr)
    (hg : a ≠ Reg.CAN_GSTAT.addr) : KeepsReg a s (t.setCanState c st) :=
  ((h.wr (g := Reg.CAN_STAT_STATE c) st hc).wr (g := Reg.CAN_GSTAT_ACTIVE) _ hg).wr (g := Reg.CAN_GSTAT_BUS_OFF) _ hg

/-- A channel's error state is that of its counters. -/
theorem KeepsReg.canErrState {a : Nat} {s t : State} (h : KeepsReg a s t) (c : Nat) (hc : a ≠ (Reg.CAN_STAT c).addr)
    (hhi : a < 0x2000120000) : KeepsReg a s (t.canErrState c) := by
  unfold State.canErrState State.wrB
  dsimp only
  split_ifs
  · exact h
  · exact (h.wr (g := Reg.CAN_STAT_ERR_STATE c) _ hc).post _ _ _ _ _ hhi
  · exact h.wr (g := Reg.CAN_STAT_ERR_STATE c) _ hc

theorem canErrState_can (s : State) (c : Nat) : (s.canErrState c).can = s.can :=
  State.canErrState_frame (F := fun p => p != .can) s c rfl (fr_self _ s) .can rfl

/-! ### Reception (R340, R342) -/

theorem wake_canUnit (s : State) (c : Fin 8) : ∃ g, s.wake (.can c) = { s with gates := g } :=
  wake_gates s (by simp) (by simp)

/-- A module that monitors looks the frame up in the filters alone. -/
theorem wake_fltFirst (s : State) (k : Fin 8) (c lo n : Nat) (x : CanFrame) : (s.wake (.can k)).fltFirst c lo n x = s.fltFirst c lo n x := by
  obtain ⟨g, hg⟩ := wake_canUnit s k
  rw [hg]
  rfl

theorem canFrameReceive_misses (s : State) (c : Fin 8) (x : CanFrame) (hm : s.canState c = canMonitor)
    (h0 : s.fltFirst c 0 4 x = none) (h1 : s.fltFirst c 4 60 x = none) :
    Nexts (exec (.canFrameReceive c x) s) (fun t => t.rd (Reg.CAN_LOST_FILT_MISS c) = satInc 16 (s.rd (Reg.CAN_LOST_FILT_MISS c))) := by
  show Nexts (execCanFrameReceive c x s) _
  rw [execCanFrameReceive]
  dsimp only
  rw [hm, if_neg (by decide), if_neg (by decide), if_neg (by decide), wake_fltFirst, h0]
  dsimp only
  rw [wake_fltFirst, h1]
  dsimp only
  rw [nexts_next, rd_bump_self _ _ (Nat.le_of_ble_eq_true rfl)]
  obtain ⟨g, hg⟩ := wake_canUnit s c
  rw [hg]
  rfl

theorem canFrameReceive_stores (s : State) (c : Fin 8) (x : CanFrame) (f : Nat) (hm : s.canState c = canMonitor)
    (h0 : s.fltFirst c 0 4 x = none) (h1 : s.fltFirst c 4 60 x = some f) (hl : s.leads = true) :
    exec (.canFrameReceive c x) s = .next ((s.wake (.can c)).canRxTake c f x) := by
  have hleads : (s.wake (.can c)).leads = true := by
    obtain ⟨g, hg⟩ := wake_canUnit s c
    rw [hg]
    exact hl
  show execCanFrameReceive c x s = _
  rw [execCanFrameReceive]
  dsimp only
  rw [hm, if_neg (by decide), if_neg (by decide), if_neg (by decide), wake_fltFirst, h0]
  dsimp only
  rw [wake_fltFirst, h1]
  dsimp only
  rw [if_pos hleads]

/-- An acknowledgement releases the oldest high-priority entry. -/
theorem canHpAck_releases {s : State} {c value : Nat} (hv : value % 2 = 1) (hn : 0 < s.rd (Reg.CAN_HP_STAT_COUNT c)) :
    (s.canHpAck c value).rd (Reg.CAN_HP_STAT_COUNT c) + 1 = s.rd (Reg.CAN_HP_STAT_COUNT c) ∧
      (s.canHpAck c value).rd (Reg.CAN_HP_STAT_HEAD c) = (s.rd (Reg.CAN_HP_STAT_HEAD c) + 1) % 4 := by
  have hlt : s.rd (Reg.CAN_HP_STAT_COUNT c) < 2 ^ 3 := Nat.mod_lt _ (Nat.two_pow_pos 3)
  have hstat : (Reg.CAN_HP_STAT c).addr ≠ (Reg.CAN_STAT c).addr := by
    simp only [Reg.CAN_HP_STAT, Reg.CAN_STAT]
    omega
  unfold State.canHpAck State.wrB
  dsimp only
  rw [if_pos ⟨hv, hn⟩, rd_wr_addr _ (Reg.CAN_STAT_HP_PEND c) (Reg.CAN_HP_STAT_COUNT c) _ hstat,
    rd_wr_addr _ (Reg.CAN_STAT_HP_PEND c) (Reg.CAN_HP_STAT_HEAD c) _ hstat]
  constructor
  · have hcount := rd_wr_fits (s.wr (Reg.CAN_HP_STAT_HEAD c) ((s.rd (Reg.CAN_HP_STAT_HEAD c) + 1) % 4))
      (Reg.CAN_HP_STAT_COUNT c) (v := s.rd (Reg.CAN_HP_STAT_COUNT c) - 1) rfl (Nat.lt_of_le_of_lt (Nat.sub_le _ _) hlt)
    exact (congrArg (· + 1) hcount).trans (Nat.sub_add_cancel hn)
  · rw [rd_wr_bits _ (Reg.CAN_HP_STAT_COUNT c) (Reg.CAN_HP_STAT_HEAD c) _ (Nat.le_of_ble_eq_true rfl)
      (.inr (Nat.le_of_ble_eq_true rfl))]
    exact rd_wr_fits s (Reg.CAN_HP_STAT_HEAD c) rfl (Nat.mod_lt _ (Nat.two_pow_pos 2))

theorem canHpAck_acknowledges (s : State) (m : Master) (c : Fin 8) (value : Word)
    (h : s.allows m .w32 true (Reg.CAN_HP_ACK c).addr) (hv : value.toNat % 2 = 1) (hn : 0 < s.rd (Reg.CAN_HP_STAT_COUNT c)) :
    Nexts (exec (.canHpAck m c value) s) (fun t => t.rd (Reg.CAN_HP_STAT_COUNT c) + 1 = s.rd (Reg.CAN_HP_STAT_COUNT c) ∧ t.rd (Reg.CAN_HP_STAT_HEAD c) = (s.rd (Reg.CAN_HP_STAT_HEAD c) + 1) % 4) := by
  obtain ⟨g, hg⟩ := access_accessed h (by simp only [Reg.CAN_HP_ACK]; omega) (fun t => t.canHpAck c value.toNat)
  exact ⟨_, congrArg Host.Outcome.next hg, canHpAck_releases (s := s.accessed g) hv hn⟩

/-! ### Filters (R341) -/

/-- What a mask that names the low bits writes reads back in them. -/
theorem fileAt_wrMasked_low (s : State) (a v : Nat) {mask n : Nat} (hn : n ≤ 32)
    (hm : ∀ i, i < n → mask.testBit i = true) : (s.wrMasked a mask v).fileAt a % 2 ^ n = v % 2 ^ n := by
  apply Nat.eq_of_testBit_eq
  intro i
  rw [Nat.testBit_mod_two_pow, Nat.testBit_mod_two_pow]
  by_cases hi : i < n
  · rw [State.fileAt, BitVec.testBit_toNat, getLsbD_wrMasked s a mask v (Nat.lt_of_lt_of_le hi hn), if_pos (hm i hi)]
  · rw [decide_eq_false hi, Bool.false_and, Bool.false_and]

/-- A filter's register, its writable bits, and what a write in control leaves. -/
theorem canFilterWrite_writes {s : State} (m : Master) (c f : Nat) (which : CanFlt) (value a : Nat)
    (ha : a = (match which with | .id => (Reg.CAN_FLT_ID c f).addr | .mask => (Reg.CAN_FLT_MASK c f).addr))
    (hc : c < 8) (hf : f < 64) (hr : s.canRec c ≠ []) (hi : s.inControl = true) :
    (s.canFilterWrite m c f which value).fileAt a % 2 ^ 29 = value % 2 ^ 29 ∧
      ((s.canFilterWrite m c f which value).canCh c).fltOld.getLast?.map (fun o => (o.addr, o.old, o.at_)) =
        some (a, s.fileAt a, s.frc) := by
  have hgb : unitOf a ≠ Un.gb := by
    cases which
    · simp only [ha, Reg.CAN_FLT_ID, unitOf, regBase, Un.gb]
      omega
    · simp only [ha, Reg.CAN_FLT_MASK, unitOf, regBase, Un.gb]
      omega
  unfold State.canFilterWrite
  rw [if_neg (by rw [hi]; simp [hr])]
  extract_lets fld mask k young u v
  have hfld : fld.addr = a := by
    rw [ha]
    cases which <;> rfl
  have hmask : ∀ i, i < 29 → mask.testBit i = true := by
    intro i hlt
    cases which <;> revert i <;> decide
  have hcan : v.can = u.can := State.mirror_frame (F := fun p => p != .can) u m fld.addr value rfl (fr_self _ u) .can rfl
  rw [canCh_of_can (post_can _ _ _ _ _ _), canCh_of_can (wrMasked_can _ _ _ _), canCh_of_can hcan, canCh_setCanCh,
    fileAt_post _ _ _ _ _ _ _ hgb, hfld]
  exact ⟨fileAt_wrMasked_low v a value (by decide) hmask, by rw [List.getLast?_concat]; rfl⟩

theorem canFilterWrite_acts (s : State) (m : Master) (c : Fin 8) (f : Fin 64) (which : CanFlt) (value : Word) (a : Nat)
    (ha : a = (match which with | .id => (Reg.CAN_FLT_ID c f).addr | .mask => (Reg.CAN_FLT_MASK c f).addr))
    (h : s.allows m .w32 true a) (hr : s.canRec c ≠ []) (hi : s.inControl = true) :
    Nexts (exec (.canFilterWrite m c f which value) s) (fun t => t.fileAt a % 2 ^ 29 = value.toNat % 2 ^ 29 ∧ (t.canCh c).fltOld.getLast?.map (fun o => (o.addr, o.old, o.at_)) = some (a, s.fileAt a, s.frc)) := by
  have hlo : 0x2000060000 ≤ a := by
    cases which
    · simp only [ha, Reg.CAN_FLT_ID]
      omega
    · simp only [ha, Reg.CAN_FLT_MASK]
      omega
  obtain ⟨g, hg⟩ := access_accessed h hlo (fun t => t.canFilterWrite m c f which value.toNat)
  subst ha
  exact ⟨_, congrArg Host.Outcome.next hg,
    canFilterWrite_writes (s := s.accessed g) m c f which value.toNat _ rfl c.isLt f.isLt hr hi⟩

end Sys2Proof.Machine
end


section
/-!
PROOFS. CAN FD channels: transmission, errors, commands and the time-triggered schedule (R345 to R351).
-/
namespace Sys2Proof.Machine

/-! ### Transmission (R345, R346) -/

/-- The frame in flight once a queue's head has started: its attempts go on where it was tried before. -/
theorem canLaunch_flight (s : State) (c q : Nat) (window : Bool) : ((s.canLaunch c q window).canCh c).flight =
    some { queue := q, stamp := s.stamp, attempts := ((Assoc.find? (s.canCh c).tried q).map Prod.fst).getD 0 + 1, window } := by
  unfold State.canLaunch
  dsimp only
  rw [canCh_setCanCh]
  cases Assoc.find? (s.canCh c).tried q <;> rfl

theorem canTxStart_launches (s : State) (c : Fin 8) (u : State) (hm : s.canMaySend c = true) (hr : s.txReady (s.canEvq c) = true)
    (hu : u = s.headWait (s.canEvq c)) (hd : u.canCheck c (u.txEntry (s.canEvq c)) = 0)
    (hf : u.canEventFits c (u.txEntry (s.canEvq c)) = true) :
    Nexts (exec (.canTxStart c .event) s) (fun t => (t.canCh c).flight = some { queue := s.canEvq c, stamp := u.stamp, attempts := (match Assoc.find? (s.canCh c).tried (s.canEvq c) with | some x => x.1 + 1 | none => 1) } ∧ t.regs = s.regs ∧ t.frc = u.frc) := by
  have hexec : exec (.canTxStart c .event) s = .next (u.canLaunch c (s.canEvq c) false) := by
    show execCanTxStart c .event s = _
    rw [execCanTxStart, show s.canQueueNo c .event = s.canEvq c from rfl]
    dsimp only
    rw [if_pos (by rw [hm, hr]; rfl), ← hu, if_neg (by rw [hd]; decide), if_pos hf]
  refine ⟨_, hexec, ?_, ?_, rfl⟩
  · rw [canLaunch_flight]
    subst hu
    rw [show (s.headWait (s.canEvq c)).canCh c = s.canCh c from rfl]
    cases Assoc.find? (s.canCh c).tried (s.canEvq c) <;> rfl
  · subst hu
    rfl

theorem canTxComplete_acked (s : State) (c : Fin 8) (f : Flight) (hf : (s.canCh c).flight = some f) :
    Nexts (exec (.canTxComplete c .acked) s) (fun t => (t.canCh c).flight = none) := by
  show Nexts (execCanTxComplete c .acked s) _
  rw [execCanTxComplete, hf]
  dsimp only
  rw [nexts_next, canCh_of_can (canComplete_can _ _ _ _ _ _), canCh_of_can (canErrState_can _ _),
    canCh_of_can (wr_can _ _ _), canCh_setCanCh]

/-- A frame that lost arbitration starts again, outside a window and without ONE_SHOT. -/
theorem canTxComplete_lost (s : State) (c : Fin 8) (f : Flight) (u : State) (hf : (s.canCh c).flight = some f)
    (ho : bitAt (le (s.txEntry f.queue) 0 1) 4 = false) (hw : f.window = false)
    (hu : u = s.setCanCh c { s.canCh c with flight := none, tried := Assoc.insert (s.canCh c).tried f.queue (f.attempts, f.stamp) })
    (hfit : u.canEventFits c (s.txEntry f.queue) = true) :
    Nexts (exec (.canTxComplete c .lostArb) s) (fun t => (t.canCh c).flight = some { f with attempts := f.attempts + 1, stamp := s.stamp }) := by
  have hexec : exec (.canTxComplete c .lostArb) s = .next (u.canLaunch c f.queue false) := by
    show execCanTxComplete c .lostArb s = _
    rw [execCanTxComplete, hf]
    dsimp only
    rw [← hu, ho, hw, hfit, if_neg Bool.false_ne_true, if_neg (by decide)]
  refine ⟨_, hexec, ?_⟩
  have htried : (u.canCh c).tried = Assoc.insert (s.canCh c).tried f.queue (f.attempts, f.stamp) := by
    rw [hu, canCh_setCanCh]
  dsimp only
  rw [canLaunch_flight, htried, Assoc.find?_insert_self]
  subst hu
  cases f
  subst hw
  rfl

/-! ### Errors and bus-off (R335, R348) -/

theorem KeepsReg.canEndFlight {a : Nat} {s t : State} (h : KeepsReg a s t) (c status detail : Nat)
    (hlo : 0x2000070000 ≤ a) (hhi : a < 0x2000110000) : KeepsReg a s (t.canEndFlight c status detail) := by
  unfold State.canEndFlight
  split
  · exact (h.of_eq (setCanCh_regs _ _ _)).canComplete _ _ _ _ _ hlo hhi
  · exact h

theorem canEndFlight_flight (s : State) (c status detail : Nat) : ((s.canEndFlight c status detail).canCh c).flight = none := by
  unfold State.canEndFlight
  split
  · rw [canCh_of_can (canComplete_can _ _ _ _ _ _), canCh_setCanCh]
  · assumption

theorem canEndFlight_fpl (s : State) (c status detail : Nat) : (s.canEndFlight c status detail).fpl = s.fpl :=
  State.canEndFlight_frame (F := fun p => p != .fpl) s c status detail rfl (fr_self _ s) .fpl rfl

theorem below_not_gb {a : Nat} (h : a < 0x2000120000) : unitOf a ≠ Un.gb := by
  simp only [unitOf, regBase, Un.gb]
  omega

theorem busOff_leaves (s : State) (c : Fin 8) (hs : s.canState c = canActive) (ht : 256 ≤ s.rd (Reg.CAN_ERRCNT_TEC c)) :
    Nexts (exec (.busOff c) s) (fun t => t.canState c = (if s.canAuto c then canRecovering else canBusOff) ∧ t.rd (Reg.CAN_STAT_ERR_STATE c) = 2 ∧ (t.canCh c).flight = none ∧ t.rd (Reg.CAN_ERRFRM_BUS_OFFS c) = satInc (Reg.CAN_ERRFRM_BUS_OFFS c).width (s.rd (Reg.CAN_ERRFRM_BUS_OFFS c))) := by
  show Nexts (execBusOff c s) _
  rw [execBusOff]
  dsimp only
  rw [if_pos ⟨hs, ht⟩, nexts_next]
  generalize hw : (s.canEndFlight c Sta.busError 0x05).setCanCh c { (s.canEndFlight c Sta.busError 0x05).canCh c with
    offSince := (s.canEndFlight c Sta.busError 0x05).frc, recAt := (s.canEndFlight c Sta.busError 0x05).frc, byCmd := false } = w
  have hauto : w.canAuto c = s.canAuto c := by
    rw [← hw, State.canAuto, canRec_of_fpl (setCanCh_fpl _ _ _), canRec_of_fpl (canEndFlight_fpl _ _ _ _), State.canAuto]
  have hflight : (w.canCh c).flight = none := by
    rw [← hw, canCh_setCanCh]
    exact canEndFlight_flight _ _ _ _
  have herr : KeepsReg (Reg.CAN_ERRFRM c).addr s w := by
    rw [← hw]
    exact (KeepsReg.self.canEndFlight c _ _ (by simp only [Reg.CAN_ERRFRM]; omega)
      (by simp only [Reg.CAN_ERRFRM]; omega)).of_eq (setCanCh_regs _ _ _)
  have hlt : (if s.canAuto c then canRecovering else canBusOff) < 8 := by
    split <;> decide
  have hne : (Reg.CAN_STAT c).addr ≠ (Reg.CAN_ERRFRM c).addr := by
    simp only [Reg.CAN_STAT, Reg.CAN_ERRFRM]
    omega
  have hgb : unitOf (Reg.CAN_STAT c).addr ≠ Un.gb := below_not_gb (by simp only [Reg.CAN_STAT]; omega)
  have hgb' : unitOf (Reg.CAN_ERRFRM c).addr ≠ Un.gb := below_not_gb (by simp only [Reg.CAN_ERRFRM]; omega)
  rw [hauto, State.canState, rd_post _ _ _ _ _ _ (Reg.CAN_STAT_STATE c) hgb, rd_post _ _ _ _ _ _ (Reg.CAN_STAT_ERR_STATE c) hgb,
    rd_post _ _ _ _ _ _ (Reg.CAN_ERRFRM_BUS_OFFS c) hgb', canCh_of_can (post_can _ _ _ _ _ _), canCh_of_can (bump_can _ _),
    canCh_of_can (wr_can _ _ _), canCh_of_can (setCanState_can _ _ _), hflight,
    rd_bump_self _ _ (Nat.le_of_ble_eq_true rfl), State.bump, rd_wr_addr _ (Reg.CAN_ERRFRM_BUS_OFFS c) (Reg.CAN_STAT_STATE c) _ hne,
    rd_wr_addr _ (Reg.CAN_ERRFRM_BUS_OFFS c) (Reg.CAN_STAT_ERR_STATE c) _ hne, rd_wr_bits _ (Reg.CAN_STAT_ERR_STATE c) (Reg.CAN_STAT_STATE c) _
      (Nat.le_of_ble_eq_true rfl) (.inl (Nat.le_of_ble_eq_true rfl)), rd_wr_self _ _ _ (Nat.le_of_ble_eq_true rfl)]
  refine ⟨setCanState_state w c hlt, rfl, rfl, congrArg (satInc _) ?_⟩
  rw [rd_wr_addr _ (Reg.CAN_STAT_ERR_STATE c) (Reg.CAN_ERRFRM_BUS_OFFS c) _ hne.symm]
  exact (herr.enterCanState c _ hne.symm (by simp only [Reg.CAN_ERRFRM, Reg.CAN_GSTAT]; omega)).rd (f := Reg.CAN_ERRFRM_BUS_OFFS c)

/-! The registers of a channel lie apart. -/

theorem canStat_ne_errcnt (c : Nat) : (Reg.CAN_STAT c).addr ≠ (Reg.CAN_ERRCNT c).addr := by
  simp only [Reg.CAN_STAT, Reg.CAN_ERRCNT]
  omega

theorem canStat_ne_tt (c : Nat) : (Reg.CAN_STAT c).addr ≠ (Reg.CAN_TT c).addr := by
  simp only [Reg.CAN_STAT, Reg.CAN_TT]
  omega

theorem canStat_not_gb (c : Fin 8) : unitOf (Reg.CAN_STAT c).addr ≠ Un.gb := below_not_gb (by simp only [Reg.CAN_STAT]; omega)

theorem canErrcnt_not_gb (c : Fin 8) : unitOf (Reg.CAN_ERRCNT c).addr ≠ Un.gb :=
  below_not_gb (by simp only [Reg.CAN_ERRCNT]; omega)

/-- The state that 128 recessive runs leave, before the event. -/
def State.canBack (s : State) (c : Nat) : State :=
  let s : State := { s with frc := max s.frc ((s.canCh c).recAt + 1408000000 / s.canNrate c) }
  let s := s.setCanState c (if s.inControl then canActive else canMonitor)
  ((s.wr (Reg.CAN_STAT_ERR_STATE c) 0).wr (Reg.CAN_ERRCNT_TEC c) 0).wr (Reg.CAN_ERRCNT_REC c) 0

theorem canRecovered_returns (s : State) (c : Fin 8) (hs : s.canState c = canRecovering) :
    Nexts (exec (.canRecovered c) s) (fun t => t.canState c = (if s.inControl then canActive else canMonitor) ∧ t.rd (Reg.CAN_ERRCNT_TEC c) = 0 ∧ t.rd (Reg.CAN_ERRCNT_REC c) = 0 ∧ t.frc = max s.frc ((s.canCh c).recAt + 1408000000 / s.canNrate c)) := by
  have hexec : exec (.canRecovered c) s = .next ((s.canBack c).post Un.can 0x0C02 c
      (((s.canBack c).frc - ((s.canBack c).canCh c).offSince) / 1000000) (b2n ((s.canBack c).canCh c).byCmd)) := if_pos hs
  have hlt : (if s.inControl then canActive else canMonitor) < 8 := by
    split <;> decide
  refine ⟨_, hexec, ?_⟩
  dsimp only
  rw [State.canState, rd_post _ _ _ _ _ _ (Reg.CAN_STAT_STATE c) (canStat_not_gb c),
    rd_post _ _ _ _ _ _ (Reg.CAN_ERRCNT_TEC c) (canErrcnt_not_gb c),
    rd_post _ _ _ _ _ _ (Reg.CAN_ERRCNT_REC c) (canErrcnt_not_gb c), post_frc, State.canBack,
    rd_wr_self _ (Reg.CAN_ERRCNT_REC c) _ (Nat.le_of_ble_eq_true rfl), rd_wr_bits _ (Reg.CAN_ERRCNT_REC c)
      (Reg.CAN_ERRCNT_TEC c) _ (Nat.le_of_ble_eq_true rfl) (.inr (Nat.le_of_ble_eq_true rfl)),
    rd_wr_self _ (Reg.CAN_ERRCNT_TEC c) _ (Nat.le_of_ble_eq_true rfl),
    rd_wr_addr _ (Reg.CAN_ERRCNT_REC c) (Reg.CAN_STAT_STATE c) _ (canStat_ne_errcnt c),
    rd_wr_addr _ (Reg.CAN_ERRCNT_TEC c) (Reg.CAN_STAT_STATE c) _ (canStat_ne_errcnt c),
    rd_wr_bits _ (Reg.CAN_STAT_ERR_STATE c) (Reg.CAN_STAT_STATE c) _ (Nat.le_of_ble_eq_true rfl)
      (.inl (Nat.le_of_ble_eq_true rfl))]
  exact ⟨setCanState_state _ c hlt, Nat.zero_mod _, Nat.zero_mod _, rfl⟩

theorem canErrorFrame_counts (s : State) (c : Fin 8) (hs : s.canState c = canActive) :
    Nexts (exec (.canErrorFrame c .transmit) s) (fun t => t.rd (Reg.CAN_ERRFRM_ERRORS c) = satInc 16 (s.rd (Reg.CAN_ERRFRM_ERRORS c)) ∧ t.rd (Reg.CAN_ERRCNT_TEC c) = min (s.rd (Reg.CAN_ERRCNT_TEC c) + 8) 511) := by
  have herr : (Reg.CAN_ERRFRM c).addr ≠ (Reg.CAN_ERRCNT c).addr := by
    simp only [Reg.CAN_ERRFRM, Reg.CAN_ERRCNT]
    omega
  have herr' : (Reg.CAN_STAT c).addr ≠ (Reg.CAN_ERRFRM c).addr := by
    simp only [Reg.CAN_ERRFRM, Reg.CAN_STAT]
    omega
  have hact : (s.bump (Reg.CAN_ERRFRM_ERRORS c)).canState c = canActive :=
    (rd_wr_addr s (Reg.CAN_ERRFRM_ERRORS c) (Reg.CAN_STAT_STATE c) _ herr').trans hs
  have htec : (s.bump (Reg.CAN_ERRFRM_ERRORS c)).rd (Reg.CAN_ERRCNT_TEC c) = s.rd (Reg.CAN_ERRCNT_TEC c) :=
    rd_wr_addr s (Reg.CAN_ERRFRM_ERRORS c) (Reg.CAN_ERRCNT_TEC c) _ herr.symm
  show Nexts (execCanErrorFrame c .transmit s) _
  rw [execCanErrorFrame, if_neg (by rw [hs]; decide)]
  dsimp only
  rw [if_pos hact, nexts_next, (KeepsReg.self.canErrState c herr'.symm (by simp only [Reg.CAN_ERRFRM]; omega)).rd
      (f := Reg.CAN_ERRFRM_ERRORS c), (KeepsReg.self.canErrState c (canStat_ne_errcnt c).symm
      (by simp only [Reg.CAN_ERRCNT]; omega)).rd (f := Reg.CAN_ERRCNT_TEC c), State.bumpBy,
    rd_wr_addr _ (Reg.CAN_ERRCNT_TEC c) (Reg.CAN_ERRFRM_ERRORS c) _ herr, htec]
  exact ⟨rd_bump_self s (Reg.CAN_ERRFRM_ERRORS c) (Nat.le_of_ble_eq_true rfl),
    rd_wr_fits _ (Reg.CAN_ERRCNT_TEC c) rfl (Nat.lt_of_le_of_lt (Nat.min_le_right _ _)
      (Nat.sub_lt (Nat.two_pow_pos _) Nat.one_pos))⟩

/-! ### Commands (R348, R354, R516) -/

/-- A command that the channel takes shows so before it acts. -/
def State.canCmdTaken (s : State) (c : Nat) : State := s.cmdStat (Reg.CAN_CMD_STAT_STATUS c) (Reg.CAN_CMD_STAT_REASON c) 0

theorem canCmdWrite_busOn {s : State} {c : Nat} (hr : s.role ≠ 3) (hm : s.canMode c ≠ 0) (hs : s.canState c = canBusOff) :
    s.canCmdWrite c 0xA5000001 =
      ((s.canCmdTaken c).setCanCh c { s.canCh c with byCmd := true, recAt := s.frc }).setCanState c canRecovering := by
  unfold State.canCmdWrite
  dsimp only
  rw [if_neg (not_or.2 ⟨by decide, not_or.2 ⟨by decide, hr⟩⟩), if_neg hm, if_neg (by decide), if_pos hs]
  rfl

theorem canCmdWrite_clear {s : State} {c : Nat} (hr : s.role ≠ 3) (hm : s.canMode c ≠ 0) :
    s.canCmdWrite c 0xA5000002 = (s.canCmdTaken c).canClearCounts c := by
  unfold State.canCmdWrite
  dsimp only
  rw [if_neg (not_or.2 ⟨by decide, not_or.2 ⟨by decide, hr⟩⟩), if_neg hm, if_pos (by decide)]
  rfl

theorem canBusOn_recovers (s : State) (m : Master) (c : Fin 8) (h : s.allows m .w32 true (Reg.CAN_CMD c).addr)
    (hr : s.role ≠ 3) (hm : s.canMode c ≠ 0) (hs : s.canState c = canBusOff) :
    Nexts (exec (.canBusOn m c) s) (fun t => t.canState c = canRecovering ∧ t.rd (Reg.CAN_CMD_STAT_STATUS c) = Sta.ok ∧ t.rd (Reg.CAN_CMD_STAT_REASON c) = 0) := by
  obtain ⟨g, hg⟩ := access_accessed h (by simp only [Reg.CAN_CMD]; omega) (fun t => t.canCmdWrite c 0xA5000001)
  have hwrite := canCmdWrite_busOn (s := s.accessed g) hr hm hs
  have hkeep : KeepsReg (Reg.CAN_CMD_STAT c).addr ((s.accessed g).canCmdTaken c) ((((s.accessed g).canCmdTaken c).setCanCh c
      { (s.accessed g).canCh c with byCmd := true, recAt := (s.accessed g).frc }).setCanState c canRecovering) :=
    (KeepsReg.of_regs (setCanCh_regs _ _ _)).enterCanState c _ (by simp only [Reg.CAN_CMD_STAT, Reg.CAN_STAT]; omega)
      (by simp only [Reg.CAN_CMD_STAT, Reg.CAN_GSTAT]; omega)
  exact ⟨_, congrArg Host.Outcome.next (hg.trans hwrite), setCanState_state _ c (by decide),
    (hkeep.rd (f := Reg.CAN_CMD_STAT_STATUS c)).trans (cmdStat_taken _ (Reg.CAN_CMD_STAT c).addr),
    (hkeep.rd (f := Reg.CAN_CMD_STAT_REASON c)).trans (rd_wr_fits _ (Reg.CAN_CMD_STAT_REASON c) rfl (Nat.two_pow_pos _))⟩

theorem canClearCounts_clears (s : State) (m : Master) (c : Fin 8) (h : s.allows m .w32 true (Reg.CAN_CMD c).addr)
    (hr : s.role ≠ 3) (hm : s.canMode c ≠ 0) :
    Nexts (exec (.canClearCounts m c) s) (fun t => t.rd (Reg.CAN_LOST c) = 0 ∧ t.rd (Reg.CAN_ERRFRM c) = 0 ∧ t.rd (Reg.CAN_TT_MISSED c) = 0 ∧ t.rd (Reg.CAN_CMD_STAT_STATUS c) = Sta.ok) := by
  obtain ⟨g, hg⟩ := access_accessed h (by simp only [Reg.CAN_CMD]; omega) (fun t => t.canCmdWrite c 0xA5000002)
  have hwrite := canCmdWrite_clear (s := s.accessed g) hr hm
  have hne : ∀ i j : Nat, i ≠ j → 0x20000B1000 + i + 4096 * c.val ≠ 0x20000B1000 + j + 4096 * c.val := by omega
  refine ⟨_, congrArg Host.Outcome.next (hg.trans hwrite), ?_⟩
  dsimp only [State.canClearCounts]
  rw [rd_wr_addr _ (Reg.CAN_HP_STAT_HP_LOST c) (Reg.CAN_LOST c) _ (hne 0x1C 0x10 (by decide)).symm,
    rd_wr_addr _ (Reg.CAN_TT_MISSED c) (Reg.CAN_LOST c) _ (hne 0x18 0x10 (by decide)).symm,
    rd_wr_addr _ (Reg.CAN_ERRFRM c) (Reg.CAN_LOST c) _ (hne 0x14 0x10 (by decide)).symm,
    rd_wr_addr _ (Reg.CAN_HP_STAT_HP_LOST c) (Reg.CAN_ERRFRM c) _ (hne 0x1C 0x14 (by decide)).symm,
    rd_wr_addr _ (Reg.CAN_TT_MISSED c) (Reg.CAN_ERRFRM c) _ (hne 0x18 0x14 (by decide)).symm,
    rd_wr_addr _ (Reg.CAN_HP_STAT_HP_LOST c) (Reg.CAN_TT_MISSED c) _ (hne 0x1C 0x18 (by decide)).symm,
    rd_wr_addr _ (Reg.CAN_HP_STAT_HP_LOST c) (Reg.CAN_CMD_STAT_STATUS c) _ (hne 0x1C 0x0C (by decide)).symm,
    rd_wr_addr _ (Reg.CAN_TT_MISSED c) (Reg.CAN_CMD_STAT_STATUS c) _ (hne 0x18 0x0C (by decide)).symm,
    rd_wr_addr _ (Reg.CAN_ERRFRM c) (Reg.CAN_CMD_STAT_STATUS c) _ (hne 0x14 0x0C (by decide)).symm,
    rd_wr_addr _ (Reg.CAN_LOST c) (Reg.CAN_CMD_STAT_STATUS c) _ (hne 0x10 0x0C (by decide)).symm]
  exact ⟨rd_wr_fits _ (Reg.CAN_LOST c) rfl (Nat.two_pow_pos _), rd_wr_fits _ (Reg.CAN_ERRFRM c) rfl (Nat.two_pow_pos _),
    rd_wr_fits _ (Reg.CAN_TT_MISSED c) rfl (Nat.two_pow_pos _), cmdStat_taken _ (Reg.CAN_CMD_STAT c).addr⟩

/-! ### The time-triggered schedule (R349, R350) -/

/-- The window shown, and the schedule running; its counter of missed windows stays. -/
theorem canShowWindow_shows (s : State) (c : Nat) (basic : Fin 16) (win : Fin 64) :
    (s.canShowWindow c basic win).on (Reg.CAN_STAT_TT_RUN c) = true ∧
      (s.canShowWindow c basic win).rd (Reg.CAN_TT_BASIC c) = basic ∧
      (s.canShowWindow c basic win).rd (Reg.CAN_TT_WINDOW c) = win ∧
      (s.canShowWindow c basic win).rd (Reg.CAN_TT_MISSED c) = s.rd (Reg.CAN_TT_MISSED c) := by
  unfold State.canShowWindow
  rw [on_wr_addr _ (Reg.CAN_TT_WINDOW c) (Reg.CAN_STAT_TT_RUN c) _ (canStat_ne_tt c),
    on_wr_addr _ (Reg.CAN_TT_BASIC c) (Reg.CAN_STAT_TT_RUN c) _ (canStat_ne_tt c), on_wr_self _ _ _ (Nat.le_of_ble_eq_true rfl),
    rd_wr_bits _ (Reg.CAN_TT_WINDOW c) (Reg.CAN_TT_BASIC c) _ (Nat.le_of_ble_eq_true rfl) (.inr (Nat.le_of_ble_eq_true rfl)),
    rd_wr_bits _ (Reg.CAN_TT_WINDOW c) (Reg.CAN_TT_MISSED c) _ (Nat.le_of_ble_eq_true rfl) (.inl (Nat.le_of_ble_eq_true rfl)),
    rd_wr_bits _ (Reg.CAN_TT_BASIC c) (Reg.CAN_TT_MISSED c) _ (Nat.le_of_ble_eq_true rfl) (.inl (Nat.le_of_ble_eq_true rfl)),
    rd_wr_addr _ (Reg.CAN_STAT_TT_RUN c) (Reg.CAN_TT_MISSED c) _ (canStat_ne_tt c).symm]
  exact ⟨rfl, rd_wr_fits _ (Reg.CAN_TT_BASIC c) rfl basic.isLt, rd_wr_fits _ (Reg.CAN_TT_WINDOW c) rfl win.isLt, rfl⟩

theorem canShowWindow_can (s : State) (c basic win : Nat) : (s.canShowWindow c basic win).can = s.can := by
  rw [State.canShowWindow, wr_can, wr_can, wr_can]

theorem canToWindow_frame {F : Place → Bool} (s : State) (c basic win : Nat) (h : Al F [.frc]) :
    Fr F s (s.canToWindow c basic win) := State.canToWindow_frame s c basic win h (fr_self F s)

theorem canToWindow_can (s : State) (c basic win : Nat) : (s.canToWindow c basic win).can = s.can :=
  canToWindow_frame (F := fun p => p != .can) s c basic win rfl .can rfl

theorem canToWindow_regs (s : State) (c basic win : Nat) : (s.canToWindow c basic win).regs = s.regs :=
  canToWindow_frame (F := fun p => p != .regs) s c basic win rfl .regs rfl

theorem ttWindowStart_shows (s : State) (c : Fin 8) (basic : Fin 16) (win : Fin 64) (hm : s.canTtMay c basic win = true)
    (hf : (s.canCh c).flight.isSome = true) :
    Nexts (exec (.ttWindowStart c basic win) s) (fun t => t = (s.canToWindow c basic win).canShowWindow c basic win ∧ t.on (Reg.CAN_STAT_TT_RUN c) = true ∧ t.rd (Reg.CAN_TT_BASIC c) = basic.val ∧ t.rd (Reg.CAN_TT_WINDOW c) = win.val) := by
  obtain ⟨hrun, hbasic, hwin, -⟩ := canShowWindow_shows (s.canToWindow c basic win) c basic win
  refine ⟨_, ?_, rfl, hrun, hbasic, hwin⟩
  show execTtWindowStart c basic win s = _
  have hflight : ((((s.canToWindow c basic win).canShowWindow c basic win).canCh c).flight).isNone = false := by
    have hcan : ((s.canToWindow c basic win).canShowWindow c basic win).can = s.can :=
      (canShowWindow_can _ _ _ _).trans (canToWindow_can s c basic win)
    rw [canCh_of_can hcan]
    cases h : (s.canCh c).flight with
    | none => rw [h] at hf; cases hf
    | some f => rfl
  rw [execTtWindowStart, if_pos hm]
  dsimp only
  rw [hflight, Bool.and_false, if_neg Bool.false_ne_true]

theorem ttWindowStart_launches (s : State) (c : Fin 8) (basic : Fin 16) (win : Fin 64) (u : State) (q n : Nat)
    (hm : s.canTtMay c basic win = true) (hu : u = (s.canToWindow c basic win).canShowWindow c basic win)
    (hq : q = u.canTtqBase c + le (u.canWindow c basic win) 7 1) (he : u.canEligible c q = true)
    (hf : (u.canCh c).flight = none) (hd : u.canCheck c (u.txEntry q) = 0) (hn : u.canLatest c basic win (u.txEntry q) = some n)
    (hs : u.canSince c (u.canStart c basic win) ≤ n) :
    exec (.ttWindowStart c basic win) s = .next ((u.setCanCh c { u.canCh c with winDone := some (u.t1 - u.canSince c (u.canStart c basic win)) }).canLaunch c q true) := by
  show execTtWindowStart c basic win s = _
  rw [execTtWindowStart, if_pos hm]
  dsimp only
  rw [← hu, ← hq, if_pos (by rw [he, hf]; rfl), if_neg (by rw [hd]; decide), hn]
  dsimp only
  rw [if_pos hs]

theorem ttWindowMissed_counts (s : State) (c : Fin 8) (basic : Fin 16) (win : Fin 64) (hm : s.canTtMay c basic win = true)
    (he : s.canEligible c (s.canTtqBase c + le (s.canWindow c basic win) 7 1) = true) (hf : (s.canCh c).flight = none) :
    Nexts (exec (.ttWindowMissed c basic win) s) (fun t => t.rd (Reg.CAN_TT_MISSED c) = satInc 16 (s.rd (Reg.CAN_TT_MISSED c)) ∧ t.rd (Reg.CAN_TT_BASIC c) = basic.val ∧ t.rd (Reg.CAN_TT_WINDOW c) = win.val) := by
  obtain ⟨-, hbasic, hwin, hmissed⟩ := canShowWindow_shows (s.canToWindow c basic win) c basic win
  show Nexts (execTtWindowMissed c basic win s) _
  rw [execTtWindowMissed]
  dsimp only
  rw [hf]
  dsimp only
  rw [if_pos (by rw [hm, he]; rfl)]
  generalize hu : (s.canToWindow c basic win).canShowWindow c basic win = u at hbasic hwin hmissed ⊢
  generalize hw : u.waitClass State.t1 (u.t1 - u.canSince c (u.canStart c basic win) + ((u.canLatest c basic win
    (u.txEntry (s.canTtqBase c + le (s.canWindow c basic win) 7 1))).getD 0 : Nat)) = w
  have hregs : w.regs = u.regs := by
    rw [← hw]
    exact State.waitClass_frame (F := fun p => p != .regs) u _ _ rfl (fr_self _ u) .regs rfl
  generalize hv : w.setCanCh c { w.canCh c with winDone := some (u.t1 - u.canSince c (u.canStart c basic win)) } = v
  have hkeep : ∀ f : Fld, v.rd f = u.rd f := fun f => by
    rw [← hv]
    exact (KeepsReg.of_regs ((setCanCh_regs _ _ _).trans hregs)).rd
  have hbump : (v.bump (Reg.CAN_TT_MISSED c)).rd (Reg.CAN_TT_MISSED c) = satInc 16 (s.rd (Reg.CAN_TT_MISSED c)) := by
    rw [rd_bump_self _ _ (Nat.le_of_ble_eq_true rfl), hkeep, hmissed,
      (KeepsReg.of_regs (canToWindow_regs s c basic win)).rd (f := Reg.CAN_TT_MISSED c)]
    rfl
  have hb : (v.bump (Reg.CAN_TT_MISSED c)).rd (Reg.CAN_TT_BASIC c) = basic := by
    rw [State.bump, rd_wr_bits _ (Reg.CAN_TT_MISSED c) (Reg.CAN_TT_BASIC c) _ (Nat.le_of_ble_eq_true rfl)
      (.inr (Nat.le_of_ble_eq_true rfl)), hkeep, hbasic]
  have hn : (v.bump (Reg.CAN_TT_MISSED c)).rd (Reg.CAN_TT_WINDOW c) = win := by
    rw [State.bump, rd_wr_bits _ (Reg.CAN_TT_MISSED c) (Reg.CAN_TT_WINDOW c) _ (Nat.le_of_ble_eq_true rfl)
      (.inr (Nat.le_of_ble_eq_true rfl)), hkeep, hwin]
  have hhi : (Reg.CAN_TT c).addr < 0x2000110000 := by
    simp only [Reg.CAN_TT]
    omega
  have hlo : 0x2000070000 ≤ (Reg.CAN_TT c).addr := by
    simp only [Reg.CAN_TT]
    omega
  have hall : ∀ t : State, KeepsReg (Reg.CAN_TT c).addr (v.bump (Reg.CAN_TT_MISSED c)) t →
      t.rd (Reg.CAN_TT_MISSED c) = satInc 16 (s.rd (Reg.CAN_TT_MISSED c)) ∧ t.rd (Reg.CAN_TT_BASIC c) = basic.val ∧
        t.rd (Reg.CAN_TT_WINDOW c) = win.val := fun t ht =>
    ⟨(ht.rd (f := Reg.CAN_TT_MISSED c)).trans hbump, (ht.rd (f := Reg.CAN_TT_BASIC c)).trans hb,
      (ht.rd (f := Reg.CAN_TT_WINDOW c)).trans hn⟩
  have hpost := (KeepsReg.self (a := (Reg.CAN_TT c).addr) (s := v.bump (Reg.CAN_TT_MISSED c))).post Un.can 0x0C07 c
    (basic * 2 ^ 8 + win) (le (s.canWindow c basic win) 7 1) (Nat.lt_trans hhi (by decide))
  split
  · exact ⟨_, rfl, hall _ (hpost.canComplete _ _ _ _ _ hlo hhi)⟩
  · exact ⟨_, rfl, hall _ hpost⟩

/-! ### Joining (R339) -/

theorem canChannelActive_joins (s : State) (c : Fin 8) (hs : s.canState c = canJoining) (hi : s.inControl = true) :
    Nexts (exec (.canChannelActive c) s) (fun t => t.canState c = canActive ∧ (t.canCh c).known = true ∧ t.frc = (if (s.canCh c).atK then s.frc else max s.frc ((s.canCh c).lockAt + 100000000))) := by
  show Nexts (execCanChannelActive c s) _
  rw [execCanChannelActive, if_pos ⟨hs, hi⟩]
  dsimp only
  generalize hw : (if (s.canCh c).atK then s else { s with frc := max s.frc ((s.canCh c).lockAt + 100000000) }) = w
  have hfrc : w.frc = if (s.canCh c).atK then s.frc else max s.frc ((s.canCh c).lockAt + 100000000) := by
    rw [← hw]
    split <;> rfl
  generalize hv : (w.setCanState c canActive).setCanCh c { s.canCh c with known := true, atK := false } = v
  have hall : v.canState c = canActive ∧ (v.canCh c).known = true ∧ v.frc = w.frc := by
    rw [← hv, State.canState, setCanCh_rd, canCh_setCanCh, setCanCh_frc, setCanState_frc]
    exact ⟨setCanState_state w c (by decide), rfl, rfl⟩
  obtain ⟨hstate, hknown, hv'⟩ := hall
  rw [nexts_next, ← hfrc]
  split
  · exact ⟨hstate, hknown, hv'⟩
  · rw [State.canState, rd_post _ _ _ _ _ _ (Reg.CAN_STAT_STATE c) (canStat_not_gb c), canCh_of_can (post_can _ _ _ _ _ _), post_frc]
    exact ⟨hstate, hknown, hv'⟩

end Sys2Proof.Machine
end

section
open Sys2Proof Sys2Proof.Machine

/-- Settles O41: a channel's frames, its errors and commands, and the windows of its schedule. -/
theorem canChannelsComplete : Obligations.CanChannelsComplete :=
  ⟨canFrameReceive_misses, canFrameReceive_stores, canHpAck_acknowledges, canTxStart_launches, canTxComplete_acked,
    canTxComplete_lost, busOff_leaves, canRecovered_returns, canBusOn_recovers, canClearCounts_clears,
    canErrorFrame_counts, ttWindowStart_shows, ttWindowStart_launches, ttWindowMissed_counts, canChannelActive_joins,
    canFilterWrite_acts⟩

end


section
/-!
PROOFS. Plant Ethernet (R356 to R364, R490).
-/
namespace Sys2Proof.Machine

/-! ### A port behind its registers -/

theorem ethPort_setEthPort (s : State) (p : Nat) (x : EthPort) : (s.setEthPort p x).ethPort p = x := by
  rw [State.ethPort, State.setEthPort, Assoc.find?_insert_self]
  rfl

theorem ethPort_of_eth {s t : State} (h : t.eth = s.eth) (p : Nat) : t.ethPort p = s.ethPort p := by
  rw [State.ethPort, h, State.ethPort]

theorem txDone_eth (s : State) (q off : Nat) (done : List Byte) : (s.txDone q off done).eth = s.eth :=
  State.txDone_frame (F := fun p => p != .eth) s q off done rfl (fr_self _ s) .eth rfl

/-- Nothing is in flight once the entry has ended. -/
theorem ethEndFlight_flight (s : State) (p detail : Nat) : ((s.ethEndFlight p detail).ethPort p).flight = none := by
  unfold State.ethEndFlight
  dsimp only
  split
  · rw [ethPort_of_eth (txDone_eth _ _ _ _), ethPort_setEthPort]
  · assumption

theorem KeepsReg.ethEndFlight {a : Nat} {s t : State} (h : KeepsReg a s t) (p detail : Nat) (hlo : 0x2000070000 ≤ a)
    (hhi : a < 0x2000110000) : KeepsReg a s (t.ethEndFlight p detail) := by
  unfold State.ethEndFlight
  extract_lets x
  split
  next f _ =>
    have hu : KeepsReg a s (if detail = 0 then t else t.useFree) := by
      split_ifs
      · exact h
      · exact h.of_eq rfl
    exact (hu.of_eq (setEthPort_regs _ _ _)).txDone _ _ _ hlo hhi
  next => exact h

/-! ### Reception (R356, R358) -/

theorem ethFrameReceive_errors (s : State) (p : Fin 6) (f : List Byte) (hl : s.ethLink p = true) :
    Nexts (exec (.ethFrameReceive p false f) s) (fun t => t.rd (Reg.ETH_ERRCNT_ERRORS p) = satInc 16 (s.rd (Reg.ETH_ERRCNT_ERRORS p))) := by
  show Nexts (execEthFrameReceive p false f s) _
  rw [execEthFrameReceive, if_neg (by rw [hl]; exact Bool.false_ne_true), if_pos (.inl rfl), nexts_next]
  exact rd_bump_self s (Reg.ETH_ERRCNT_ERRORS p) (Nat.le_of_ble_eq_true rfl)

theorem ethFrameReceive_stores (s : State) (p : Fin 6) (f : List Byte) (hl : s.ethLink p = true) (hmin : 60 ≤ f.length)
    (hmax : f.length ≤ 1518) (hp : be f 12 4 ≠ 0x88080001) (hj : s.ethJoined p = true) (hr : s.ethRow p f = 5)
    (h5 : p.val ≠ 5) (hg : ethGroup f = false) :
    exec (.ethFrameReceive p true f) s = .next ((s.setEthPort p { s.ethPort p with lastRow := 5 }).ethStore p (b2n (ethTagged f) + b2n (ethGroup f) * 2 + b2n (s.ethFlag p 3 && f.take 6 == s.stationMac p) * 4) 0 f) := by
  show execEthFrameReceive p true f s = _
  rw [execEthFrameReceive, if_neg (by rw [hl]; exact Bool.false_ne_true),
    if_neg (not_or.2 ⟨by decide, not_or.2 ⟨Nat.not_lt.2 hmin, Nat.not_lt.2 hmax⟩⟩), if_neg hp,
    if_neg (by rw [hj]; exact Bool.false_ne_true)]
  dsimp only
  rw [hr, if_neg (by decide), if_neg (by decide), if_neg h5, if_neg (by rw [hg]; exact Bool.false_ne_true)]
  rfl

/-! ### Transmission (R360) -/

/-- A frame is filled to the shortest length that the wire takes. -/
theorem padded_length (f : List Byte) : 60 ≤ (if f.length < 60 then padTo 60 f else f).length := by
  split
  · simp only [padTo, List.length_take, List.length_append, List.length_replicate]
    omega
  · omega

theorem ethTxStart_starts (s : State) (p : Fin 6) (u : State) (hj : s.ethJoined p = true) (hm : s.mayStart = true)
    (hf : (s.ethPort p).flight = none) (hr : s.txReady (s.ethTxq p) = true) (hu : u = s.headWait (s.ethTxq p))
    (hd : u.ethCheck p (u.txEntry (s.ethTxq p)) = 0) :
    Nexts (exec (.ethTxStart p) s) (fun t => (t.ethPort p).flight = some { queue := s.ethTxq p, stamp := u.stamp } ∧ (t.ethPort p).sent.map (fun f => decide (60 ≤ f.length)) = [true] ∧ t.frc = u.frc) := by
  show Nexts (execEthTxStart p s) _
  rw [execEthTxStart]
  dsimp only
  rw [if_pos (by rw [hj, hm, hf, hr]; rfl), ← hu, if_neg (by rw [hd]; decide), nexts_next, ethPort_setEthPort]
  exact ⟨rfl, congrArg (fun b => [b]) (decide_eq_true (padded_length _)), rfl⟩

theorem ethTxComplete_ends (s : State) (p : Fin 6) (f : Flight) (_ : (s.ethPort p).flight = some f) :
    Nexts (exec (.ethTxComplete p) s) (fun t => (t.ethPort p).flight = none) :=
  ⟨_, rfl, ethEndFlight_flight s p 0⟩

/-! ### Links (R356, R364) -/

/-- A port's bit of LINK is what was shown of it. -/
theorem wr_link (s : State) (p : Fin 6) (b : Bool) :
    (s.wr Reg.ETH_STAT_LINK (putBit (s.rd Reg.ETH_STAT_LINK) p b)).ethLink p = b := by
  have hbit : bitAt (putBit (s.rd Reg.ETH_STAT_LINK) p b) p = b := by
    cases b
    · exact (putBit_false _ _).1
    · exact putBit_true _ _
  have hlt : putBit (s.rd Reg.ETH_STAT_LINK) p b < 2 ^ 6 := by
    cases b
    · exact Nat.lt_of_le_of_lt (putBit_false _ _).2 (rd_lt s Reg.ETH_STAT_LINK)
    · exact Nat.or_lt_two_pow (rd_lt s Reg.ETH_STAT_LINK) (Nat.pow_lt_pow_right (by decide) p.isLt)
  exact (congrArg (bitAt · p) (rd_wr_fits s Reg.ETH_STAT_LINK rfl hlt)).trans hbit

theorem ethLink_post (s : State) (p source code p1 p2 p3 : Nat) : (s.post source code p1 p2 p3).ethLink p = s.ethLink p :=
  congrArg (bitAt · p) (rd_post _ _ _ _ _ _ Reg.ETH_STAT_LINK (by decide))

theorem linkUp_shows (s : State) (p : Fin 6) (hl : s.ethLink p = false) (ho : s.ethOn p = true) (h5 : p.val ≠ 5) :
    Nexts (exec (.linkUp p) s) (fun t => t.ethLink p = true) := by
  show Nexts (execLinkUp p s) _
  rw [execLinkUp, if_neg (by rw [hl, ho]; simp)]
  dsimp only
  rw [if_neg h5, nexts_next, ethLink_post]
  exact wr_link s p true

theorem linkDown_shows (s : State) (p : Fin 6) (unable : Bool) (hl : s.ethLink p = true) :
    Nexts (exec (.linkDown p unable) s) (fun t => t.ethLink p = false ∧ (t.ethPort p).flight = none) := by
  show Nexts (execLinkDown p unable s) _
  rw [execLinkDown, if_pos hl]
  dsimp only
  rw [nexts_next, ethLink_post, ethPort_of_eth (post_eth _ _ _ _ _ _), ethEndFlight_flight]
  have hkeep := (KeepsReg.self (a := Reg.ETH_STAT_LINK.addr)
    (s := s.wr Reg.ETH_STAT_LINK (putBit (s.rd Reg.ETH_STAT_LINK) p false))).ethEndFlight p 0x04 (by decide) (by decide)
  exact ⟨(congrArg (bitAt · p) hkeep.rd).trans (wr_link s p false), rfl⟩

theorem igmpReport_reports (s : State) (ho : s.ethOn 5 = true) (hl : s.ethLink 5 = true) (hj : s.ethJoined 5 = true) :
    Nexts (exec .igmpReport s) (fun t => (t.ethPort 5).igmp = (s.ethPort 5).igmp + ((List.range 8).filter (fun g => s.portRec 3 g != [])).length) := by
  show Nexts (execIgmpReport s) _
  rw [execIgmpReport, State.igmp]
  dsimp only
  rw [if_pos (by rw [ho, hl, hj]; rfl), nexts_next, ethPort_setEthPort]

/-- A bit for each port that is configured fits the ports' field. -/
theorem ports_sum_lt (on : Nat → Bool) : ((List.range 6).map (fun p => if on p then 2 ^ p else 0)).sum < 2 ^ 6 := by
  have hle : ∀ p : Nat, (if on p then 2 ^ p else 0) ≤ 2 ^ p := fun p => by
    split
    · exact Nat.le_refl _
    · exact Nat.zero_le _
  calc ((List.range 6).map (fun p => if on p then 2 ^ p else 0)).sum
      ≤ ((List.range 6).map (fun p => 2 ^ p)).sum := List.sum_le_sum fun p _ => hle p
    _ < 2 ^ 6 := by decide

theorem ethJoinPoint_joins (s : State) (hl : s.locked = true) :
    Nexts (exec .ethJoinPoint s) (fun t => t.rd Reg.ETH_STAT_JOINED = ((List.range 6).map (fun p => if s.ethOn p then 2 ^ p else 0)).sum ∧ t.frc = max s.frc (300000000 - s.rd Reg.PWR_BOOT_RESET * 1000)) := by
  show Nexts (execEthJoinPoint s) _
  rw [execEthJoinPoint]
  rw [hl, Bool.true_or, if_pos rfl]
  generalize hw : ({ s with frc := max s.frc (300000000 - s.rd Reg.PWR_BOOT_RESET * 1000) } : State) = w
  have hlocked : w.locked = true := by
    rw [← hw]
    exact hl
  rw [if_pos hlocked, nexts_next]
  subst hw
  exact ⟨rd_wr_fits _ Reg.ETH_STAT_JOINED rfl (ports_sum_lt _), rfl⟩

/-! ### The maintenance session (R361) -/

/-- The permit follows the keyswitch and the session. -/
theorem permitUpdate_shows (s : State) : s.permitUpdate.on Reg.SCN_STAT_FORCE_PERMIT = (s.keyMaint || s.on Reg.ETH_MAINT_SECONDS) ∧
    s.permitUpdate.rd Reg.ETH_MAINT_SECONDS = s.rd Reg.ETH_MAINT_SECONDS ∧ s.permitUpdate.maintAt = s.maintAt ∧
    s.permitUpdate.frc = s.frc := by
  unfold State.permitUpdate State.wrB
  refine ⟨?_, rd_wr_addr _ _ _ _ (by decide), rfl, rfl⟩
  rw [on_wr_self _ _ _ (by decide)]
  cases s.keyMaint || s.on Reg.ETH_MAINT_SECONDS <;> rfl

/-- A session of a number of seconds, and the permit that goes with it. -/
theorem maint_permits (s : State) {n : Nat} (h : n < 2 ^ 12) :
    (s.wr Reg.ETH_MAINT_SECONDS n).permitUpdate.rd Reg.ETH_MAINT_SECONDS = n ∧
      (s.wr Reg.ETH_MAINT_SECONDS n).permitUpdate.on Reg.SCN_STAT_FORCE_PERMIT = (s.keyMaint || decide (n ≠ 0)) := by
  obtain ⟨hpermit, hseconds, -, -⟩ := permitUpdate_shows (s.wr Reg.ETH_MAINT_SECONDS n)
  have hn : (s.wr Reg.ETH_MAINT_SECONDS n).rd Reg.ETH_MAINT_SECONDS = n := rd_wr_fits s Reg.ETH_MAINT_SECONDS rfl h
  refine ⟨hseconds.trans hn, hpermit.trans ?_⟩
  rw [wr_keyMaint, State.on, hn]
  cases n <;> rfl

theorem ethMaint_opens (s : State) (m : Master) (value : Word) (h : s.allows m .w32 true Reg.ETH_MAINT.addr)
    (hm : isCore m = true) (hk : bits value.toNat 24 8 = 0xA5) (hn : bits value.toNat 0 12 ≤ 3600) :
    Nexts (exec (.ethMaint m value) s) (fun t => t.rd Reg.ETH_MAINT_SECONDS = bits value.toNat 0 12 ∧ t.maintAt = s.frc ∧ t.on Reg.SCN_STAT_FORCE_PERMIT = (s.keyMaint || decide (bits value.toNat 0 12 ≠ 0))) := by
  obtain ⟨g, hg⟩ := access_accessed h (Nat.le_of_ble_eq_true rfl) (fun t => t.ethMaintWrite m value.toNat)
  have hwrite : (s.accessed g).ethMaintWrite m value.toNat =
      (({ s.accessed g with maintAt := s.frc } : State).wr Reg.ETH_MAINT_SECONDS (bits value.toNat 0 12)).permitUpdate := by
    unfold State.ethMaintWrite
    dsimp only
    rw [if_neg (not_or.2 ⟨not_not.2 hk, not_or.2 ⟨by rw [hm]; decide, Nat.not_lt.2 hn⟩⟩)]
    rfl
  obtain ⟨hseconds, hpermit⟩ := maint_permits { s.accessed g with maintAt := s.frc } (Nat.lt_of_le_of_lt hn (by decide))
  exact ⟨_, congrArg Host.Outcome.next (hg.trans hwrite), hseconds, (permitUpdate_shows _).2.2.1, hpermit⟩

theorem maintSessionExpire_closes (s : State) (ho : s.on Reg.ETH_MAINT_SECONDS = true) :
    Nexts (exec .maintSessionExpire s) (fun t => t.rd Reg.ETH_MAINT_SECONDS = 0 ∧ t.on Reg.SCN_STAT_FORCE_PERMIT = s.keyMaint ∧ t.frc = max s.frc (s.maintAt + s.rd Reg.ETH_MAINT_SECONDS * 1000000000)) := by
  show Nexts (execMaintSessionExpire s) _
  rw [execMaintSessionExpire, if_pos ho, nexts_next]
  obtain ⟨hseconds, hpermit⟩ := maint_permits { s with frc := max s.frc (s.maintAt + s.rd Reg.ETH_MAINT_SECONDS * 1000000000) }
    (n := 0) (by decide)
  exact ⟨hseconds, hpermit.trans (Bool.or_false _), rfl⟩

end Sys2Proof.Machine
end

section
open Sys2Proof Sys2Proof.Machine

/-- Settles O42: a port's frames, its link, and the maintenance session. -/
theorem ethernetPortsComplete : Obligations.EthernetPortsComplete :=
  ⟨ethFrameReceive_errors, ethFrameReceive_stores, ethTxStart_starts, ethTxComplete_ends, linkUp_shows, linkDown_shows,
    igmpReport_reports, ethMaint_opens, maintSessionExpire_closes, ethJoinPoint_joins⟩

end


section
/-!
PROOFS. The time unit: what a change of class 1 or 2 keeps of the domains (R368 to R371).
-/
namespace Sys2Proof.Machine

/-! ### Changes of the classes -/

/-- The classes' registers in TIM_STAT, their clocks and the Guestbook may have moved; the domains and every register
below the Guestbook's stay. -/
structure DomKept (s t : State) : Prop where
  regs : ∀ a, a ≠ Reg.TIM_STAT.addr → a < 0x2000120000 → KeepsReg a s t
  domA : t.tim.domA = s.tim.domA
  domB : t.tim.domB = s.tim.domB

namespace DomKept
variable {s t u : State}

theorem self : DomKept s s := ⟨fun _ _ _ => .self, rfl, rfl⟩

theorem trans (h : DomKept s t) (h' : DomKept t u) : DomKept s u :=
  ⟨fun a ha hlt => (h.regs a ha hlt).trans (h'.regs a ha hlt), h'.domA.trans h.domA, h'.domB.trans h.domB⟩

theorem of_eq (h : DomKept s t) (hr : u.regs = t.regs) (ha : u.tim.domA = t.tim.domA) (hb : u.tim.domB = t.tim.domB) :
    DomKept s u := h.trans ⟨fun _ _ _ => .of_regs hr, ha, hb⟩

theorem wr (h : DomKept s t) {f : Fld} (v : Nat) (hf : f.addr = Reg.TIM_STAT.addr) : DomKept s (t.wr f v) :=
  h.trans ⟨fun _ ha _ => KeepsReg.self.wr v (hf ▸ ha), rfl, rfl⟩

theorem post (h : DomKept s t) (source code p1 p2 p3 : Nat) : DomKept s (t.post source code p1 p2 p3) :=
  h.trans ⟨fun _ _ hlt => KeepsReg.self.post _ _ _ _ _ hlt, congrArg Tim.domA (post_tim _ _ _ _ _ _),
    congrArg Tim.domB (post_tim _ _ _ _ _ _)⟩

theorem anchor (h : DomKept s t) (cause : Nat) : DomKept s (t.anchor cause) := h.of_eq rfl rfl rfl

theorem driftCount (h : DomKept s t) : DomKept s t.driftCount := h.of_eq rfl rfl rfl

/-- The domain's record stays. -/
theorem dom (h : DomKept s t) (d : Nat) : t.dom d = s.dom d := by
  unfold State.dom
  split
  · exact h.domA
  · exact h.domB

/-- Its state stays. -/
theorem domState (h : DomKept s t) {d : Nat} (hd : d < 2) : t.domState d = s.domState d :=
  (h.regs _ (by simp only [Reg.TIM_DOM_STAT_STATE, Reg.TIM_STAT]; omega)
    (by simp only [Reg.TIM_DOM_STAT_STATE]; omega)).rd (f := Reg.TIM_DOM_STAT_STATE d)

end DomKept

theorem c1Source_kept (s : State) (src : Nat) : DomKept s (s.c1Source src) := by
  unfold State.c1Source
  extract_lets old u now rate srcOwn srcFree k srcTim v w x
  split
  next => exact .self
  next =>
    have hv : DomKept s v := (DomKept.self.driftCount).of_eq rfl rfl rfl
    have hw : DomKept s w := (hv.wr (f := Reg.TIM_STAT_C1_SRC) src rfl).wr (f := Reg.TIM_STAT_C1_SLEWING) _ rfl
    exact (hw.post _ _ _ _ _).anchor 1

theorem c1Disagree_kept (s : State) (d : Nat) : DomKept s (s.c1Disagree d) := by
  unfold State.c1Disagree
  split
  · exact .self
  · exact (DomKept.self.wr (f := Reg.TIM_STAT_DISAGREE) 1 rfl).post _ _ _ _ _

theorem c1Choose_kept (s : State) : DomKept s s.c1Choose := by
  have hagree : ∀ t, DomKept s t → DomKept s (t.wr Reg.TIM_STAT_DISAGREE 0) := fun t h => h.wr _ rfl
  have hsource : ∀ t, DomKept s t → ∀ n, DomKept s (t.c1Source n) := fun t h n => h.trans (c1Source_kept t n)
  unfold State.c1Choose
  extract_lets p o u v
  have hu : DomKept s u := by
    simp only [u]
    split_ifs
    · exact c1Disagree_kept s p
    · exact .self
  have hv : DomKept s v := by
    simp only [v]
    split_ifs
    · exact hu.trans (c1Disagree_kept u o)
    · exact hu
    · exact hagree _ hu
  split_ifs
  · exact hsource _ (hagree _ .self) _
  · exact hsource _ hu _
  · exact hsource _ (hagree _ hu) _
  · exact hsource _ hv _

theorem c1Step_kept (s : State) (d why : Nat) : DomKept s (s.c1Step d why) := by
  unfold State.c1Step
  extract_lets u step srcTim srcClock v w x
  have hv : DomKept s v := (DomKept.self.driftCount).of_eq rfl rfl rfl
  have hw : DomKept s w := ((hv.wr (f := Reg.TIM_STAT_C1_SRC) d rfl).wr (f := Reg.TIM_STAT_C1_SLEWING) 0 rfl).wr
    (f := Reg.TIM_STAT_C1_VALID) 1 rfl
  have hx : DomKept s x := hw.wr (f := Reg.TIM_STAT_DISAGREE) 0 rfl
  exact (hx.post _ _ _ _ _).anchor 2

theorem c1Update_kept (s : State) : DomKept s s.c1Update := by
  unfold State.c1Update
  split_ifs
  · exact .self
  · exact c1Choose_kept s
  · exact c1Step_kept s _ 0
  · exact c1Step_kept s _ 0
  · exact .self

theorem c2Lock_kept (s : State) (d : Nat) : DomKept s (s.c2Lock d) := by
  unfold State.c2Lock
  split
  next =>
    extract_lets srcTim srcClock u v
    have hu : DomKept s u := DomKept.self.of_eq rfl rfl rfl
    have hv : DomKept s v := ((hu.wr (f := Reg.TIM_STAT_C2_VALID) 1 rfl).wr (f := Reg.TIM_STAT_C2_HOLDOVER) 0 rfl).wr
      (f := Reg.TIM_STAT_C2_SLEWING) 0 rfl
    exact hv.post _ _ _ _ _
  next =>
    extract_lets diff srcTim srcClock u v
    split
    next => exact DomKept.self.post _ _ _ _ _
    next =>
      have hu : DomKept s u := DomKept.self.of_eq rfl rfl rfl
      have hv : DomKept s v := (hu.wr (f := Reg.TIM_STAT_C2_HOLDOVER) 0 rfl).wr (f := Reg.TIM_STAT_C2_SLEWING) _ rfl
      exact hv.post _ _ _ _ _

theorem c2Leave_kept (s : State) (d : Nat) : DomKept s (s.c2Leave d) := by
  unfold State.c2Leave
  split
  next => exact .self
  next =>
    extract_lets src k srcTim u
    have hu : DomKept s u := DomKept.self.of_eq rfl rfl rfl
    exact (hu.wr (f := Reg.TIM_STAT_C2_HOLDOVER) 1 rfl).wr (f := Reg.TIM_STAT_C2_SLEWING) 0 rfl

/-! ### A domain that enters a state (R368) -/

theorem dom_setDom (s : State) (d : Nat) (x : TimDom) : (s.setDom d x).dom d = x := by
  unfold State.dom State.setDom
  split <;> rfl

theorem setDom_regs (s : State) (d : Nat) (x : TimDom) : (s.setDom d x).regs = s.regs := by
  unfold State.setDom
  split <;> rfl

/-- The masters that a domain hears and the one selected stay as they are in a state. -/
def DomHears (s : State) (d : Nat) (t : State) : Prop :=
  (t.dom d).masters = (s.dom d).masters ∧ (t.dom d).selected = (s.dom d).selected

namespace DomHears
variable {s t u : State} {d : Nat}

theorem self : DomHears s d s := ⟨rfl, rfl⟩

theorem trans (h : DomHears s d t) (h' : DomHears t d u) : DomHears s d u := ⟨h'.1.trans h.1, h'.2.trans h.2⟩

theorem kept (h : DomHears s d t) (h' : DomKept t u) : DomHears s d u := by
  rw [DomHears, h'.dom d]
  exact h

theorem wr (h : DomHears s d t) (f : Fld) (v : Nat) : DomHears s d (t.wr f v) := h

theorem setDom (h : DomHears s d t) {x : TimDom} (hm : x.masters = (t.dom d).masters) (hs : x.selected = (t.dom d).selected) :
    DomHears s d (t.setDom d x) := by
  rw [DomHears, dom_setDom]
  exact ⟨hm.trans h.1, hs.trans h.2⟩

end DomHears

/-- A domain that enters a state shows it, and hears what it heard. -/
theorem domEnter_shows (s : State) {d st : Nat} (hd : d < 2) (hst : st < 8) :
    DomHears s d (s.domEnter d st) ∧ (s.domEnter d st).domState d = st := by
  unfold State.domEnter
  extract_lets old s1 s2 s3 s4 x4 s5 x5 s6 s7
  split
  next h => exact ⟨.self, h⟩
  next =>
    have hstat : (Reg.TIM_DOM_STAT_STATE d).addr ≠ Reg.TIM_STAT.addr := by
      simp only [Reg.TIM_DOM_STAT_STATE, Reg.TIM_STAT]
      omega
    have h2 : DomHears s d s2 := by
      have h1 : DomHears s d s1 := DomHears.self.kept DomKept.self.driftCount
      simp only [s2]
      split_ifs
      · exact h1.kept (c2Leave_kept _ _)
      · exact h1
    have h3 : DomHears s d s3 := h2.wr _ _
    have e3 : s3.domState d = st := rd_wr_fits s2 (Reg.TIM_DOM_STAT_STATE d) rfl hst
    have h4 : DomHears s d s4 ∧ s4.domState d = st := by
      simp only [s4]
      split_ifs
      · exact ⟨h3.wr _ _, (rd_wr_addr s3 Reg.TIM_STAT_DOM_A _ st hstat).trans e3⟩
      · exact ⟨h3.wr _ _, (rd_wr_addr s3 Reg.TIM_STAT_DOM_B _ st hstat).trans e3⟩
    have h5 : DomHears s d s5 ∧ s5.domState d = st := by
      simp only [s5]
      split_ifs
      · exact ⟨h4.1.setDom rfl rfl, ((KeepsReg.of_regs (setDom_regs _ _ _)).rd (f := Reg.TIM_DOM_STAT_STATE d)).trans h4.2⟩
      · exact h4
    have h6 : DomHears s d s6 ∧ s6.domState d = st := by
      simp only [s6]
      split_ifs
      · exact ⟨h5.1.setDom rfl rfl, ((KeepsReg.of_regs (setDom_regs _ _ _)).rd (f := Reg.TIM_DOM_STAT_STATE d)).trans h5.2⟩
      · exact h5
    have h7 : DomHears s d s7 ∧ s7.domState d = st := by
      simp only [s7]
      split_ifs
      · exact ⟨h6.1.kept (c2Lock_kept _ _), ((c2Lock_kept s6 d).domState hd).trans h6.2⟩
      · exact h6
    exact ⟨h7.1.kept (c1Update_kept s7), ((c1Update_kept s7).domState hd).trans h7.2⟩

theorem dom_of_tim {s t : State} (h : t.tim = s.tim) (d : Nat) : t.dom d = s.dom d := by
  rw [State.dom, h, State.dom]

theorem domGm_dom (s : State) (d : Nat) (m : PtpMaster) (e : Nat) : (s.domGm d m).dom e = s.dom e :=
  dom_of_tim (State.domGm_frame (F := fun p => p != .tim) s d m rfl (fr_self _ s) .tim rfl) e

/-- Selecting a master moves none of those heard. -/
theorem domSelect_masters (s : State) {d : Nat} (hd : d < 2) (m : PtpMaster) :
    ((s.domSelect d m).dom d).masters = (s.dom d).masters := by
  have henter : ∀ t : State, ((t.domEnter d 1).dom d).masters = (t.dom d).masters := fun t =>
    (domEnter_shows t hd (st := 1) (by decide)).1.1
  unfold State.domSelect
  split
  next => rw [henter, domGm_dom, dom_setDom]
  next old _ =>
    extract_lets x u lo v w y
    have hu : (u.dom d).masters = (s.dom d).masters := by rw [dom_setDom]
    have hw : (w.dom d).masters = (s.dom d).masters := by
      rw [(DomKept.self.post _ _ _ _ _).dom d, domGm_dom, hu]
    split
    next => rw [domGm_dom, hu]
    next =>
      split
      next => rw [dom_setDom, hw]
      next => rw [henter, dom_setDom, hw]

end Sys2Proof.Machine
end


section
/-!
PROOFS. The time unit's commands (R365 to R373).
-/
namespace Sys2Proof.Machine

/-! ### Domains (R367, R368) -/

theorem ptpAnnounce_holds (s : State) (d : Fin 2) (a : Announce) (hl : s.locked = true) (hv : a.version = 2) (hn : a.minor ≤ 1)
    (hd : a.domain = s.domNum d) (hp : a.ptpScale = true) (hport : s.ptpPort d a.master.port = true) (hs : a.master.steps < 255) :
    Nexts (exec (.ptpAnnounce d a) s) (fun t => { m := a.master, at_ := s.frc, gap := announceGap a.logInterval } ∈ (t.dom d).masters) := by
  show Nexts (execPtpAnnounce d a s) _
  rw [execPtpAnnounce, if_neg (by simp [hl, hv, hn, hd, hp, hport, ptpVersion]; omega)]
  extract_lets x rest u
  have hmem : { m := a.master, at_ := s.frc, gap := announceGap a.logInterval } ∈ (u.dom d).masters := by
    simp only [u, dom_setDom]
    exact List.mem_append_right rest (List.mem_singleton.2 rfl)
  split
  · rw [nexts_next, domSelect_masters u d.isLt]
    exact hmem
  · exact ⟨_, rfl, hmem⟩

theorem ptpSync_measures (s : State) (d : Fin 2) (y : Sync) (g : PtpMaster) (hg : (s.dom d).selected = some g)
    (hv : y.version = 2) (hn : y.minor ≤ 1) (hd : y.domain = s.domNum d) (hp : s.ptpPort d y.port = true)
    (hi : y.identity = g.identity) (hlo : -7 ≤ y.logSync) (hhi : y.logSync ≤ 1) :
    exec (.ptpSync d y) s = .next ((s.domSync d y).c1Update) := by
  show execPtpSync d y s = _
  rw [execPtpSync, hg]
  dsimp only
  rw [if_neg (by simp [hv, hn, hd, hp, hi, ptpVersion]), if_neg (by omega)]

theorem clampI_delay_lt (i : Int) : (clampI 0 (2 ^ 32 - 1) i).toNat < 2 ^ 32 := by
  unfold clampI
  split_ifs <;> omega

theorem delayReq_measures (s : State) (d : Fin 2) (t1 t2 t3 t4 : Int) (hs : (s.dom d).selected.isSome = true) :
    Nexts (exec (.delayReq d (.measured t1 t2 t3 t4)) s) (fun t => t.rd (Reg.TIM_DOM_DELAY d) = (clampI 0 (2 ^ 32 - 1) (((t2 - t1) + (t4 - t3)) / 2)).toNat ∧ (t.dom d).hasDelay = true) := by
  show Nexts (execDelayReq d (.measured t1 t2 t3 t4) s) _
  rw [execDelayReq]
  dsimp only
  rw [if_pos hs, nexts_next, dom_setDom, (KeepsReg.of_regs (setDom_regs _ _ _)).rd (f := Reg.TIM_DOM_DELAY d)]
  exact ⟨rd_wr_fits s (Reg.TIM_DOM_DELAY d) rfl (clampI_delay_lt _), rfl⟩

theorem domainHoldover_enters (s : State) (d : Fin 2) (u : State) (hs : s.domState d = 1 ∨ s.domState d = 2)
    (hu : u = { s with frc := max s.frc ((s.dom d).lastSync + s.tcSyncLoss) }) :
    Nexts (exec (.domainHoldover d) s) (fun t => t = (u.post Un.tim 0x0D04 d ((u.frc - (s.dom d).lastSync) / 1000000) 0).domEnter d 3 ∧ t.domState d = 3) := by
  refine ⟨_, ?_, rfl, (domEnter_shows _ d.isLt (by decide)).2⟩
  subst hu
  exact if_pos hs

theorem setDom_frc (s : State) (d : Nat) (x : TimDom) : (s.setDom d x).frc = s.frc := by
  unfold State.setDom
  split <;> rfl

/-- The selected master, alone, leaves the domain without one. -/
theorem announceTimeout_ends (s : State) (d : Fin 2) (g : PtpMaster) (h : PtpHeard) (hs : (s.dom d).selected = some g)
    (hm : (s.dom d).masters = [h]) (hi : h.m.identity = g.identity) (hp : h.m.port = g.port) :
    Nexts (exec (.announceTimeout d) s) (fun t => (t.dom d).selected = none ∧ (t.dom d).masters = [] ∧ t.domState d = 0 ∧ t.frc = max s.frc h.until_) := by
  have hmine : (h.m.identity == g.identity && h.m.port == g.port) = true := by
    rw [hi, hp, beq_self_eq_true, beq_self_eq_true, Bool.and_true]
  show Nexts (execAnnounceTimeout d s) _
  rw [execAnnounceTimeout]
  split
  next hno => exact absurd (hs.symm.trans hno) (Option.some_ne_none g)
  next g' hg =>
  obtain rfl := Option.some.inj (hs.symm.trans hg)
  extract_lets mine due w rest x v y
  have hdue : due = h.until_ := by
    simp only [due, hm, List.find?_cons_of_pos (p := mine) hmine]
  have hrest : rest = [] := by
    have hdom : w.dom d = s.dom d := dom_of_tim rfl d
    simp only [rest, hdom, hm]
    exact List.filter_cons_of_neg (by simp [mine, hmine])
  have hmasters : (v.dom d).masters = [] := by
    rw [dom_setDom]
    exact hrest
  obtain ⟨⟨hkept, hselected⟩, hstate⟩ := domEnter_shows (v.setDom d { v.dom d with selected := none, hasDelay := false })
    d.isLt (st := 0) (by decide)
  rw [hrest]
  refine ⟨_, rfl, ?_, ?_, hstate, ?_⟩
  · rw [hselected, dom_setDom]
  · rw [hkept, dom_setDom]
    exact hmasters
  · rw [State.domEnter_frame (F := fun p => p != .frc) _ d 0 rfl (fr_self _ _) .frc rfl, setDom_frc, setDom_frc]
    exact congrArg (max s.frc) hdue

/-! ### REALIGN (R370) -/

theorem timRealign_steps (s : State) (m : Master) (h : s.allows m .w32 true Reg.TIM_CMD.addr) (hm : s.rd Reg.SCN_STAT_MODE = 0)
    (hf : s.on Reg.SCN_STAT_FORCE_PERMIT = true) (hd : s.domState s.tcPrefer = 2) (hp : s.tcPrefer < 2) (hc : s.c1Paired = false) :
    exec (.timRealign m) s = .next ((((s.answer 0).cmdStat Reg.TIM_CMD_STAT_STATUS Reg.TIM_CMD_STAT_REASON 0).c1Step s.tcPrefer 1).canRealign) := by
  have hacc : s.access m .w32 true Reg.TIM_CMD.addr (fun t => t.timCmdWrite 0xA5000001) = (s.answer 0).timCmdWrite 0xA5000001 := by
    rw [access_allows h]
    rfl
  have hlocked : ¬((s.answer 0).domState 0 ≠ 2 ∧ (s.answer 0).domState 1 ≠ 2) := by
    rintro ⟨h0, h1⟩
    have hcase : s.tcPrefer = 0 ∨ s.tcPrefer = 1 := by omega
    rcases hcase with hz | hz
    · rw [hz] at hd
      exact h0 hd
    · rw [hz] at hd
      exact h1 hd
  refine congrArg Host.Outcome.next (hacc.trans ?_)
  unfold State.timCmdWrite
  dsimp only
  rw [if_neg (by decide), if_neg (not_not.2 (show (s.answer 0).rd Reg.SCN_STAT_MODE = 0 from hm)),
    if_neg (by rw [show (s.answer 0).on Reg.SCN_STAT_FORCE_PERMIT = true from hf]; decide), if_neg hlocked,
    if_neg (by rw [show (s.answer 0).c1Paired = false from hc]; decide),
    if_pos (show (s.answer 0).domState (s.answer 0).tcPrefer = 2 from hd)]
  rfl

/-! ### PPS (R372) -/

theorem toBits_lt (w : Nat) (i : Int) : toBits w i < 2 ^ w := by
  have hpos : (0 : Int) < 2 ^ w := by positivity
  have h0 := Int.emod_nonneg i hpos.ne'
  have h1 := Int.emod_lt_of_pos i hpos
  unfold toBits
  zify
  rw [Int.toNat_of_nonneg h0]
  exact h1

theorem setPpsOk_keeps (s : State) (ok : Bool) (dev : Int) : (s.setPpsOk ok dev).tim = s.tim ∧
    KeepsReg Reg.TIM_PPS.addr s (s.setPpsOk ok dev) ∧ (s.setPpsOk ok dev).frc = s.frc := by
  unfold State.setPpsOk State.wrB
  split
  · exact ⟨rfl, .self, rfl⟩
  · exact ⟨post_tim _ _ _ _ _ _, (KeepsReg.self.wr (g := Reg.TIM_STAT_PPS_OK) _ (by decide)).post _ _ _ _ _ (by decide),
      post_frc _ _ _ _ _ _⟩

theorem ppsSteer_keeps (s : State) (interval : Nat) : (s.ppsSteer interval).tim.ppsLast = s.tim.ppsLast ∧
    (s.ppsSteer interval).regs = s.regs := by
  unfold State.ppsSteer
  split
  · exact ⟨rfl, rfl⟩
  · exact ⟨rfl, rfl⟩

theorem ppsInEdge_takes (s : State) (hl : s.locked = true) (hp : s.tcPpsIn ≠ 0) :
    Nexts (exec .ppsInEdge s) (fun t => t.tim.ppsLast = some s.frc ∧ t.rd Reg.TIM_PPS = sat32 (fromSecond (s.t1 - s.tcPpsDelay))) := by
  show Nexts (execPpsInEdge s) _
  rw [execPpsInEdge, if_neg (by simp [hl, hp])]
  extract_lets dev u interval regular src v w
  have hv : v.rd Reg.TIM_PPS = sat32 dev := rd_wr_fits s Reg.TIM_PPS rfl (toBits_lt 32 _)
  obtain ⟨htim, hreg, -⟩ := setPpsOk_keeps v (regular && decide (dev.natAbs ≤ u.tcPpsWin)) dev
  obtain ⟨hlast, hregs⟩ := ppsSteer_keeps w interval
  refine ⟨_, rfl, hlast.trans (congrArg Tim.ppsLast htim), ?_⟩
  exact ((KeepsReg.of_regs hregs).rd (f := Reg.TIM_PPS)).trans ((hreg.rd (f := Reg.TIM_PPS)).trans hv)

theorem ppsInTimeout_shows (s : State) (hp : s.on Reg.TIM_STAT_PPS_OK = true) :
    Nexts (exec .ppsInTimeout s) (fun t => t.on Reg.TIM_STAT_PPS_OK = false ∧ t.frc = max s.frc (s.tim.ppsLast.getD s.frc + 1001000000)) := by
  show Nexts (execPpsInTimeout s) _
  rw [execPpsInTimeout, if_pos hp, nexts_next]
  generalize hw : ({ s with frc := max s.frc (s.tim.ppsLast.getD s.frc + 1001000000) } : State) = w
  have hon : w.on Reg.TIM_STAT_PPS_OK = true := by
    rw [← hw]
    exact hp
  have hfrc : w.frc = max s.frc (s.tim.ppsLast.getD s.frc + 1001000000) := by
    rw [← hw]
  rw [State.setPpsOk, if_neg (by rw [hon]; decide), on_post _ _ _ _ _ _ _ (by decide), post_frc, State.wrB, wr_frc,
    on_wr_self _ _ _ (by decide)]
  exact ⟨rfl, hfrc⟩

theorem ppsOutEdge_counts (s : State) (hp : s.tcPpsOut = 1) (hv : s.on Reg.TIM_STAT_C1_VALID = true) :
    Nexts (exec .ppsOutEdge s) (fun t => t.tim.ppsOut = s.tim.ppsOut + 1) := by
  show Nexts (execPpsOutEdge s) _
  rw [execPpsOutEdge, State.ppsClass, if_pos ⟨hp, hv⟩]
  split
  next hno => exact absurd hno (Option.some_ne_none _)
  next time _ =>
  extract_lets sec here u x
  have hu : u.tim = s.tim := by
    simp only [u]
    split
    · rfl
    · exact State.waitClass_frame (F := fun p => p != .tim) s _ _ rfl (fr_self _ s) .tim rfl
  exact ⟨_, rfl, congrArg (fun y : Tim => y.ppsOut + 1) hu⟩

/-! ### Capture, backup and slewing (R369, R371, R373) -/

theorem classTimeCapture_latches (s : State) (m : Master) (h : s.allows m .w32 false Reg.TIM_C1_SEC_LO.addr) :
    Nexts (exec (.classTimeCapture m .w32 false) s) (fun t => t.resp = { status := Sta.ok, data := secsOf s.t1 % 2 ^ 32 } ∧ (Tab.get t.latch (latchKey m Reg.TIM_C1_SEC_HI.addr)).toNat = secsOf s.t1 / 2 ^ 32 % 2 ^ 32 ∧ (Tab.get t.latch (latchKey m Reg.TIM_C1_NS.addr)).toNat = nsOf s.t1 % 2 ^ 32) := by
  obtain ⟨g, hg⟩ := access_accessed h (Nat.le_of_ble_eq_true rfl)
    (fun t => t.classCapture m .w32 t.t1 Reg.TIM_C1_SEC_HI Reg.TIM_C1_NS)
  have ht : (s.accessed g).t1 = s.t1 := rfl
  have hne : latchKey m Reg.TIM_C1_SEC_HI.addr ≠ latchKey m Reg.TIM_C1_NS.addr := by
    simp only [latchKey, Reg.TIM_C1_SEC_HI, Reg.TIM_C1_NS]
    omega
  refine ⟨_, congrArg Host.Outcome.next hg, ?_, ?_, ?_⟩
  · rw [ht]
    rfl
  · refine (congrArg BitVec.toNat ((Tab.get_put_ne _ _ _ _ hne).trans (Tab.get_put_self _ _ _))).trans ?_
    rw [BitVec.toNat_ofNat, ht]
  · refine (congrArg BitVec.toNat (Tab.get_put_self _ _ _)).trans ?_
    rw [BitVec.toNat_ofNat, ht]

theorem tcC2Dom_lt (s : State) : s.tcC2Dom < 256 := le_lt _ _ 1

/-- Class 2 needs its clock, the FRC, the plan and the time unit's registers alone. -/
theorem t2_of {s t : State} (hreg : ∀ f : Fld, 0x20000D0000 ≤ f.addr → f.addr < 0x20000E0000 → t.rd f = s.rd f)
    (hc : t.tim.c2 = s.tim.c2) (hf : t.frc = s.frc) (hp : t.fpl = s.fpl) : t.t2 = s.t2 := by
  have hlt := tcC2Dom_lt s
  have hdom : t.tcC2Dom = s.tcC2Dom := by
    simp only [State.tcC2Dom, State.tc, State.plan, hp]
  have hon : t.on Reg.TIM_STAT_C2_HOLDOVER = s.on Reg.TIM_STAT_C2_HOLDOVER :=
    congrArg (· != 0) (hreg _ (by decide) (by decide))
  have hrate : t.domRate s.tcC2Dom = s.domRate s.tcC2Dom :=
    congrArg (sgn 32) (hreg _ (by simp only [Reg.TIM_DOM_RATE]; omega) (by simp only [Reg.TIM_DOM_RATE]; omega))
  have hofs : t.domOfs s.tcC2Dom = s.domOfs s.tcC2Dom := by
    unfold State.domOfs State.rd64
    rw [hreg (Reg.TIM_DOM_OFS_LO s.tcC2Dom) (by simp only [Reg.TIM_DOM_OFS_LO]; omega)
        (by simp only [Reg.TIM_DOM_OFS_LO]; omega),
      hreg (Reg.TIM_DOM_OFS_HI s.tcC2Dom) (by simp only [Reg.TIM_DOM_OFS_HI]; omega)
        (by simp only [Reg.TIM_DOM_OFS_HI]; omega)]
  unfold State.t2 State.freeRun State.domTime State.domTimeAt State.contC2
  rw [hon, hdom, hrate, hofs, hc, hf]

theorem c2BackupRefresh_refreshes (s : State) (u : State) (hr : s.power.running = true)
    (hu : u = { s with frc := max s.frc (s.tim.backAt + 1000000000) }) :
    Nexts (exec .c2BackupRefresh s) (fun t => t.rd64 Reg.PTR_C2SEC_LO Reg.PTR_C2SEC_HI = secsOf u.t2 ∧ t.power.c2frac = nsOf u.t2 * 32768 / 1000000000 ∧ t.frc = u.frc) := by
  show Nexts (execC2BackupRefresh s) _
  rw [execC2BackupRefresh, if_pos hr]
  extract_lets waited src v w power
  have hv : v.t2 = u.t2 := by
    subst hu
    exact t2_of (fun _ _ _ => rfl) rfl rfl rfl
  have hw : w.t2 = v.t2 := by
    refine t2_of (fun f hf _ => ?_) rfl rfl rfl
    have hreg : KeepsReg f.addr v w := KeepsReg.self.wr64 _ (by simp only [Reg.PTR_C2SEC_LO]; omega)
      (by simp only [Reg.PTR_C2SEC_HI]; omega)
    exact hreg.rd
  have hfrc : w.frc = u.frc := by
    subst hu
    rfl
  have hback : w.rd64 Reg.PTR_C2SEC_LO Reg.PTR_C2SEC_HI = secsOf u.t2 :=
    (rd64_wr64 v ⟨rfl, rfl⟩ ⟨rfl, rfl⟩ (by decide) (toBits_lt 64 _)).trans (congrArg secsOf hv)
  have hfrac : nsOf w.t2 = nsOf u.t2 := congrArg nsOf (hw.trans hv)
  clear_value w
  exact ⟨_, rfl, hback, congrArg (· * 32768 / 1000000000) hfrac, hfrc⟩

theorem slewingEnd_first (s : State) (h : s.on Reg.TIM_STAT_C1_SLEWING = true) :
    Nexts (exec (.slewingEnd false) s) (fun t => t.on Reg.TIM_STAT_C1_SLEWING = false ∧ t.frc = max s.frc (s.tim.c1.cAt + s.tim.c1.c.natAbs * 10000)) :=
  ⟨_, if_pos h, (on_wr_self _ _ _ (by decide)).trans rfl, rfl⟩

theorem slewingEnd_second (s : State) (h : s.on Reg.TIM_STAT_C2_SLEWING = true) :
    Nexts (exec (.slewingEnd true) s) (fun t => t.on Reg.TIM_STAT_C2_SLEWING = false ∧ t.frc = max s.frc (s.tim.c2.cAt + s.tim.c2.c.natAbs * 1000)) :=
  ⟨_, if_pos h, (on_wr_self _ _ _ (by decide)).trans rfl, rfl⟩

end Sys2Proof.Machine
end

section
open Sys2Proof Sys2Proof.Machine

/-- Settles O43: a domain's masters and measurements, class 1 stepped, pulses, and what the other time commands keep. -/
theorem timeCommandsComplete : Obligations.TimeCommandsComplete :=
  ⟨ptpAnnounce_holds, ptpSync_measures, delayReq_measures, domainHoldover_enters, announceTimeout_ends, timRealign_steps,
    ppsInEdge_takes, ppsInTimeout_shows, ppsOutEdge_counts, classTimeCapture_latches, c2BackupRefresh_refreshes,
    slewingEnd_first, slewingEnd_second⟩

end


section
/-!
PROOFS. Serial ports (R379 to R382).
-/
namespace Sys2Proof.Machine

/-- Class 1 needs its clocks, the FRC, the plan and the time unit's registers alone. -/
theorem t1_of {s t : State} (hreg : ∀ f : Fld, 0x20000D0000 ≤ f.addr → f.addr < 0x20000E0000 → t.rd f = s.rd f)
    (ht : t.tim = s.tim) (hf : t.frc = s.frc) (hp : t.fpl = s.fpl) : t.t1 = s.t1 := by
  have hsrc : s.rd Reg.TIM_STAT_C1_SRC < 2 ^ 2 := rd_lt s Reg.TIM_STAT_C1_SRC
  have hon : ∀ f : Fld, f.addr = Reg.TIM_STAT.addr → t.rd f = s.rd f := fun f hf =>
    hreg f (hf ▸ by decide) (hf ▸ by decide)
  have hrate : t.domRate (s.rd Reg.TIM_STAT_C1_SRC) = s.domRate (s.rd Reg.TIM_STAT_C1_SRC) :=
    congrArg (sgn 32) (hreg _ (by simp only [Reg.TIM_DOM_RATE]; omega) (by simp only [Reg.TIM_DOM_RATE]; omega))
  have hofs : t.domOfs (s.rd Reg.TIM_STAT_C1_SRC) = s.domOfs (s.rd Reg.TIM_STAT_C1_SRC) := by
    unfold State.domOfs State.rd64
    rw [hreg (Reg.TIM_DOM_OFS_LO _) (by simp only [Reg.TIM_DOM_OFS_LO]; omega)
        (by simp only [Reg.TIM_DOM_OFS_LO]; omega),
      hreg (Reg.TIM_DOM_OFS_HI _) (by simp only [Reg.TIM_DOM_OFS_HI]; omega)
        (by simp only [Reg.TIM_DOM_OFS_HI]; omega)]
  unfold State.t1 State.freeRun State.domTime State.domTimeAt State.contC1 State.on
  rw [hon Reg.TIM_STAT_C1_VALID rfl, hon Reg.TIM_STAT_C2_VALID rfl, hon Reg.TIM_STAT_C1_SRC rfl, hrate, hofs, ht, hf,
    t2_of hreg (congrArg Tim.c2 ht) hf hp]

theorem wake_serialUnit (s : State) (p : Fin 8) : ∃ g, s.wake (.serial p) = { s with gates := g } :=
  wake_gates s (by simp) (by simp)

/-- A port's error counter says nothing of the time, and of who follows. -/
theorem serErrors_keeps (s : State) (p : Fin 8) (n : Nat) (f : Fld) (h : f.addr ≠ (Reg.SER_ERR p).addr) :
    (s.bumpBy (Reg.SER_ERR_ERRORS p) n).rd f = s.rd f :=
  rd_wr_addr s (Reg.SER_ERR_ERRORS p) f _ h

theorem serErrors_stamp (s : State) (p : Fin 8) (n : Nat) : (s.bumpBy (Reg.SER_ERR_ERRORS p) n).stamp = s.stamp :=
  congrArg (toBits 64) (t1_of (fun f _ h => serErrors_keeps s p n f (by simp only [Reg.SER_ERR]; omega)) rfl rfl rfl)

theorem serErrors_follows (s : State) (p : Fin 8) (n : Nat) : (s.bumpBy (Reg.SER_ERR_ERRORS p) n).follows = s.follows := by
  unfold State.follows State.role State.on
  rw [serErrors_keeps s p n Reg.BAN_STAT_ROLE (by simp only [Reg.BAN_STAT_ROLE, Reg.SER_ERR]; omega),
    serErrors_keeps s p n Reg.PWR_STAT_PF_WARN (by simp only [Reg.PWR_STAT_PF_WARN, Reg.SER_ERR]; omega)]
  rfl

theorem serMessageReceive_holds (s : State) (p : Fin 8) (x : SerMsg) (hl : s.locked = true) (hm : s.serMode p ≠ 0)
    (hne : x.bytes.take (s.serMaxLen p) ≠ []) (hf : s.follows = true) :
    Nexts (exec (.serMessageReceive p x) s) (fun t => t.ban.held = s.ban.held ++ [(s.serRxq p, serRxEntry (x.bytes.take (s.serMaxLen p)).length p (s.serFlags p x (x.bytes.take (s.serMaxLen p))) 0 s.stamp 0 (x.bytes.take (s.serMaxLen p)))]) := by
  show Nexts (execSerMessageReceive p x s) _
  rw [execSerMessageReceive, if_neg (by rw [hl]; decide), if_neg hm]
  extract_lets w m
  obtain ⟨g, hg⟩ := wake_serialUnit (s.bumpBy (Reg.SER_ERR_ERRORS p) (x.parity + x.framing + x.stray)) p
  have hw : w = { s.bumpBy (Reg.SER_ERR_ERRORS p) (x.parity + x.framing + x.stray) with gates := g } := hg
  have hlen : w.serMaxLen p = s.serMaxLen p := by
    rw [hw]
    rfl
  have hmsg : m = x.bytes.take (s.serMaxLen p) := congrArg x.bytes.take hlen
  have hfollows : w.follows = true := by
    rw [hw]
    exact (serErrors_follows s p _).trans hf
  have hstamp : w.stamp = s.stamp := by
    rw [hw]
    exact serErrors_stamp s p _
  have hflags : w.serFlags p x m = s.serFlags p x m := by
    rw [hw]
    rfl
  have hheld : w.ban.held = s.ban.held := by
    rw [hw]
    rfl
  have hrxq : w.serRxq p = s.serRxq p := by
    rw [hw]
    rfl
  rw [if_neg (hmsg ▸ hne), if_pos hfollows, nexts_next, hstamp, hflags, hrxq, hmsg]
  exact congrArg (· ++ _) hheld

theorem serMessageReceive_counts (s : State) (p : Fin 8) (x : SerMsg) (hl : s.locked = false) :
    Nexts (exec (.serMessageReceive p x) s) (fun t => t.rd (Reg.SER_ERR_ERRORS p) = min (s.rd (Reg.SER_ERR_ERRORS p) + (x.bytes.length + x.stray)) 0xFFFF) := by
  show Nexts (execSerMessageReceive p x s) _
  rw [execSerMessageReceive, if_pos (by rw [hl]; rfl), nexts_next]
  exact rd_wr_fits s (Reg.SER_ERR_ERRORS p) rfl (Nat.lt_of_le_of_lt (Nat.min_le_right _ _)
    (Nat.sub_lt (Nat.two_pow_pos _) Nat.one_pos))

theorem serTxStart_starts (s : State) (p : Fin 8) (u : State) (hd : s.on (Reg.SER_STAT_DRIVER p) = true) (hm : s.mayStart = true)
    (hf : s.serFlight p = none) (hr : s.txReady (s.serTxq p) = true) (hu : u = s.headWait (s.serTxq p))
    (hc : u.serCheck p (u.txEntry (s.serTxq p)) = 0) :
    Nexts (exec (.serTxStart p) s) (fun t => t.serFlight p = some { queue := s.serTxq p, stamp := (u.rtuSilence p).stamp } ∧ t.on (Reg.SER_STAT_TX_BUSY p) = true ∧ t.frc = (u.rtuSilence p).frc) := by
  show Nexts (execSerTxStart p s) _
  rw [execSerTxStart]
  dsimp only
  rw [if_pos (by rw [hd, hm, hf, hr]; rfl), ← hu, if_neg (by rw [hc]; decide), nexts_next]
  obtain ⟨g, hg⟩ := wake_serialUnit (u.rtuSilence p) p
  rw [hg, on_wr_self _ _ _ (Nat.le_of_ble_eq_true rfl), wr_frc, State.serFlight, wr_ser, Assoc.find?_insert_self]
  exact ⟨rfl, rfl, rfl⟩

theorem txDone_ser (s : State) (q off : Nat) (done : List Byte) : (s.txDone q off done).ser = s.ser :=
  State.txDone_frame (F := fun p => p != .ser) s q off done rfl (fr_self _ s) .ser rfl

theorem serTxComplete_ends (s : State) (p : Fin 8) (sent : Nat) (f : Flight) (hf : s.serFlight p = some f) :
    Nexts (exec (.serTxComplete p sent false) s) (fun t => t.serFlight p = none ∧ t.on (Reg.SER_STAT_TX_BUSY p) = false) := by
  show Nexts (execSerTxComplete p sent false s) _
  rw [execSerTxComplete, Bool.false_and, if_neg Bool.false_ne_true, nexts_next, State.serEndFlight, hf]
  dsimp only
  rw [on_wr_self _ _ _ (Nat.le_of_ble_eq_true rfl), State.serFlight, wr_ser, txDone_ser, Assoc.find?_erase_self]
  exact ⟨rfl, rfl⟩

/-! ### Stairway links (R384 to R390) -/

theorem rioLink_setRioLink (s : State) (l : Nat) (x : RioLink) : (s.setRioLink l x).rioLink l = x := by
  rw [State.rioLink, State.setRioLink, Assoc.find?_insert_self]
  rfl

theorem rioLink_of_rio {s t : State} (h : t.rio = s.rio) (l : Nat) : t.rioLink l = s.rioLink l := by
  rw [State.rioLink, h, State.rioLink]

theorem rioUnreturned_keeps (s : State) (l : Nat) (w : Option Nat) : (s.rioUnreturned l w).frc = s.frc ∧
    (s.rioUnreturned l w).fpl = s.fpl ∧ ∀ a, a ≠ (Reg.RIO_CNT l).addr → KeepsReg a s (s.rioUnreturned l w) := by
  unfold State.rioUnreturned
  split
  · exact ⟨rfl, rfl, fun a ha => KeepsReg.self.wr (g := Reg.RIO_CNT_BAD l) _ ha⟩
  · exact ⟨rfl, rfl, fun _ _ => .self⟩

theorem rioTask_of_fpl {s t : State} (h : t.fpl = s.fpl) (l : Nat) : t.rioTask l = s.rioTask l := by
  simp only [State.rioTask, State.rioRec, State.portRec, State.plan, h]

/-- A frame that never came back counts beside the cycles of the tasks. -/
theorem rioUnreturned_taskCycle (s : State) (l : Nat) (w : Option Nat) (k : Nat) :
    (s.rioUnreturned l w).taskCycle (s.rioTask k) = s.taskCycle (s.rioTask k) := by
  have hlt : s.rioTask k < 256 := le_lt _ _ 1
  obtain ⟨-, -, hreg⟩ := rioUnreturned_keeps s l w
  unfold State.taskCycle State.rd64
  rw [(hreg _ (by simp only [Reg.SCN_CYCLE_LO, Reg.RIO_CNT]; omega)).rd (f := Reg.SCN_CYCLE_LO (s.rioTask k)),
    (hreg _ (by simp only [Reg.SCN_CYCLE_HI, Reg.RIO_CNT]; omega)).rd (f := Reg.SCN_CYCLE_HI (s.rioTask k))]

theorem pollSend_sends (s : State) (l : Fin 8) (hm : s.rioMay l = true)
    (hp : (s.rioLink l).polled ≠ some ((Assoc.find? s.scn.tasks (s.rioTask l)).getD {}).start)
    (hf : s.frc ≤ s.rioPollAt l + 100) :
    Nexts (exec (.pollSend l) s) (fun t => (t.rioLink l).cycle = some ((s.taskCycle (s.rioTask l) + 1) % 2 ^ 32) ∧ (t.rioLink l).ret = none ∧ t.frc = max s.frc (s.rioPollAt l) ∧ (t.rioLink l).sentAt = t.frc) := by
  show Nexts (execPollSend l s) _
  rw [execPollSend]
  extract_lets w u c x
  have hfrc : u.frc = max s.frc (s.rioPollAt l) := (rioUnreturned_keeps w l _).1
  have htask : u.rioTask l = w.rioTask l := rioTask_of_fpl (rioUnreturned_keeps w l _).2.1 l
  have hcycle : u.taskCycle (u.rioTask l) = s.taskCycle (s.rioTask l) := by
    rw [htask]
    exact rioUnreturned_taskCycle w l _ l
  have hc : c = (s.taskCycle (s.rioTask l) + 1) % 2 ^ 32 := congrArg (fun n => (n + 1) % 2 ^ 32) hcycle
  rw [if_pos ⟨hm, hp, hf⟩, nexts_next, rioLink_setRioLink]
  exact ⟨congrArg some hc, rfl, hfrc, rfl⟩

theorem pollReturn_accepts (s : State) (l : Fin 8) (fcsGood : Bool) (rtt : Nat) (payload : List Byte) (n : Nat)
    (hc : (s.rioLink l).cycle = some n)
    (hp : (s.rioLink l).polled = some ((Assoc.find? s.scn.tasks (s.rioTask l)).getD {}).start)
    (ha : rioAnswers fcsGood payload 1 n = true) (hr : rtt + 2000 ≤ s.rioLead l * 1000) :
    Nexts (exec (.pollReturn l fcsGood rtt payload) s) (fun t => (t.rioLink l).cycle = none ∧ (t.rioLink l).ret = some payload ∧ t.rd (Reg.RIO_RTT l) = rtt % 2 ^ (Reg.RIO_RTT l).width ∧ t.frc = max s.frc ((s.rioLink l).sentAt + rtt)) := by
  show Nexts (execPollReturn l fcsGood rtt payload s) _
  rw [execPollReturn]
  split
  next hno => exact absurd (hc.symm.trans hno) (Option.some_ne_none n)
  next c hc' =>
  obtain rfl := Option.some.inj (hc.symm.trans hc')
  extract_lets late w src u v bad y
  have hlink : y.cycle = none := congrArg RioLink.cycle (rioLink_setRioLink w l { w.rioLink l with cycle := none })
  have hrtt : (v.bumpBy (Reg.RIO_CNT_BAD l) bad).rd (Reg.RIO_RTT l) = rtt % 2 ^ (Reg.RIO_RTT l).width := by
    refine (rd_wr_addr v (Reg.RIO_CNT_BAD l) (Reg.RIO_RTT l) _ (by simp only [Reg.RIO_CNT_BAD, Reg.RIO_RTT]; omega)).trans ?_
    exact rd_wr_self u (Reg.RIO_RTT l) rtt (Nat.le_of_ble_eq_true rfl)
  have hfrc : v.frc = max s.frc ((s.rioLink l).sentAt + rtt) := wr_frc u (Reg.RIO_RTT l) rtt
  have hlead : v.rioLead l = s.rioLead l := rfl
  have hin : ¬(v.rioLead l * 1000 < rtt + 2000 ∨ late) :=
    not_or.2 ⟨Nat.not_lt.2 (hlead.symm ▸ hr), not_not.2 hp⟩
  clear_value w y v bad
  rw [if_neg (by rw [ha]; decide), if_neg hin, nexts_next, rioLink_setRioLink]
  exact ⟨hlink, rfl, hrtt, hfrc⟩

theorem outputReturn_shows (s : State) (l : Fin 8) (fcsGood : Bool) (payload : List Byte) (n : Nat)
    (hw : (s.rioLink l).outWait = some n) (ha : rioAnswers fcsGood payload 2 n = true) :
    Nexts (exec (.outputReturn l fcsGood payload) s) (fun t => (t.rioLink l).outWait = none ∧ t.rd (Reg.RIO_OUTMAP l) = le payload 12 4) := by
  show Nexts (execOutputReturn l fcsGood payload s) _
  rw [execOutputReturn, hw]
  dsimp only
  rw [if_pos ha, nexts_next, rioLink_of_rio (wr_rio _ _ _), rioLink_setRioLink]
  exact ⟨rfl, rd_wr_fits _ (Reg.RIO_OUTMAP l) rfl (le_lt _ _ 4)⟩

theorem identReturn_admits (s : State) (l : Fin 8) (fcsGood : Bool) (payload : List Byte) (n : Nat)
    (hw : (s.rioLink l).idWait = some n) (ha : rioAnswers fcsGood payload 3 n = true) :
    exec (.identReturn l fcsGood payload) s = .next ((let u := s.setRioLink l { s.rioLink l with idWait := none }
        ((List.range (s.rioN l)).foldl (fun u a => u.rioIdent l payload n a) u).rioCount l)) := by
  show execIdentReturn l fcsGood payload s = _
  rw [execIdentReturn, hw]
  dsimp only
  rw [if_pos ha]
  rfl

theorem stairwayTurnaround_turns (s : State) (l : Fin 8) (payload : List Byte) (hs : s.rd (Reg.RIO_LINK_STAT_STATE l) = rioTurnaround)
    (hu : s.on (Reg.RIO_LINK_STAT_LINK_UP l) = true) (hp : bitAt (le payload 3 1) 7 = false) :
    Nexts (exec (.stairwayTurnaround l payload) s) (fun t => (t.rioLink l).turned = (s.rioLink l).turned + 1 ∧ (t.rioLink l).sent = payload.take 3 ++ leBytes 1 (le payload 3 1 + 128) ++ payload.drop 4) := by
  show Nexts (execStairwayTurnaround l payload s) _
  rw [execStairwayTurnaround, if_pos ⟨hs, hu, by rw [hp]; rfl⟩]
  dsimp only
  rw [nexts_next, rioLink_setRioLink]
  exact ⟨rfl, rfl⟩

theorem stairwayLinkChange_shows (s : State) (l : Fin 8) (up : Bool) (hne : s.on (Reg.RIO_LINK_STAT_LINK_UP l) ≠ up)
    (ho : up = true → s.rioOn l = true) :
    Nexts (exec (.stairwayLinkChange l up) s) (fun t => t.on (Reg.RIO_LINK_STAT_LINK_UP l) = up) := by
  have hgb : unitOf (Reg.RIO_LINK_STAT l).addr ≠ Un.gb := below_not_gb (by simp only [Reg.RIO_LINK_STAT]; omega)
  show Nexts (execStairwayLinkChange l up s) _
  rw [execStairwayLinkChange, if_neg (by rintro (h | ⟨h, hoff⟩); exact hne h; simp [ho h] at hoff), nexts_next,
    on_post _ _ _ _ _ _ (Reg.RIO_LINK_STAT_LINK_UP l) hgb, State.wrB, on_wr_self _ _ _ (Nat.le_of_ble_eq_true rfl)]
  cases up <;> rfl

end Sys2Proof.Machine
end

section
open Sys2Proof Sys2Proof.Machine

/-- Settles O44: a serial port's messages and a Stairway link's frames. -/
theorem fieldLinksComplete : Obligations.FieldLinksComplete :=
  ⟨serMessageReceive_holds, serMessageReceive_counts, serTxStart_starts, serTxComplete_ends, pollSend_sends,
    pollReturn_accepts, outputReturn_shows, identReturn_admits, stairwayTurnaround_turns, stairwayLinkChange_shows⟩

end


section
/-!
PROOFS. The ring of a channel's sender (R400) shows the wake of the Solver.
-/
namespace Sys2Proof.Machine

/-- Channel 0 with the Solver, which is gated, as the sender of a message that waits. The loader admits no such plan
(R394); the statement is about every state. -/
def solverSends : State :=
  { State.reset with
    fpl := { plan := [⟨0x8030, 0, [0x0A, 1, 1] ++ List.replicate 13 0⟩] }
    pgn := [(0, { msgs := [{ len := 0, kind := 0, seq := 1, param := 0, payload := [], visible := true }] })] }

/-- The word that a register holds after an answer. -/
def wordAfter (a : Answer) (addr : Nat) : Option Nat :=
  match a with
  | .next t => some (t.fileAt addr)
  | _ => none

theorem next_of_wordAfter {a : Answer} {addr w : Nat} (h : wordAfter a addr = some w) :
    ∃ t, a = .next t ∧ t.fileAt addr = w := by
  unfold wordAfter at h
  split at h
  · exact ⟨_, rfl, Option.some.inj h⟩
  · exact absurd h.symm (Option.some_ne_none w)

theorem solverSends_asleep : solverSends.fileAt Reg.SLV_STAT_STATE.addr = 0 := by decide +kernel

theorem pgnTimeout_wakes_solver : wordAfter (exec (.pgnTimeout 0) solverSends) Reg.SLV_STAT_STATE.addr = some 1 := by
  decide +kernel

theorem pgnTimeout_moves_solver_status :
    ¬ ∀ (ch : Fin 32) (s t : State), exec (.pgnTimeout ch) s = .next t → RegsSame [(Reg.PGN_CH_STAT_LAST ch).addr] s t := by
  intro h
  obtain ⟨t, ht, hawake⟩ := next_of_wordAfter pgnTimeout_wakes_solver
  have hkept : t.fileAt Reg.SLV_STAT_STATE.addr = solverSends.fileAt Reg.SLV_STAT_STATE.addr :=
    h 0 solverSends t ht _ (by decide) (by decide)
  rw [hawake, solverSends_asleep] at hkept
  exact absurd hkept (by decide)

end Sys2Proof.Machine
end

section
open Sys2Proof Sys2Proof.Machine

/-- Refutes O9: the clause on a channel's timeout fails where the sender is the Solver and it is gated: the ring wakes it,
and SLV_STAT shows it awake. -/
theorem not_registersBesideTheirsAreKept : ¬ Obligations.RegistersBesideTheirsAreKept := by
  rintro ⟨-, -, -, -, -, -, -, -, -, -, -, -, hpgn, -⟩
  exact pgnTimeout_moves_solver_status hpgn

end
